-- ==== Sys2Proof/Word.lean ====
section
/-! DEFINITION. The word types of the device and their plainest arithmetic: a register or bus word has 32 bits, memory is
addressed by bytes, and the helpers below read and replace a field of a word. -/

namespace Sys2Proof

/-- A register or bus word (00 R13). -/
abbrev Word := BitVec 32
/-- A halfword. -/
abbrev Half := BitVec 16
/-- A byte, the unit of memory. -/
abbrev Byte := BitVec 8

/-- A soft bit of the trellis decoder: four bits, signed (07 R188). -/
abbrev Soft := BitVec 4
/-- The complex value of one subcarrier, in units of 1/4096 (log entry 110). -/
abbrev Tone := Int × Int

/-- The field of `n` that starts at bit `lo` and is `width` bits wide. -/
def bitsOf (n lo width : Nat) : Nat := n / 2 ^ lo % 2 ^ width

/-- `n` with the field at bit `lo` of `width` bits replaced by `v` (of which only `width` bits count). -/
def putBits (n lo width v : Nat) : Nat :=
  n / 2 ^ (lo + width) * 2 ^ (lo + width) + v % 2 ^ width * 2 ^ lo + n % 2 ^ lo

/-- Bit `i` of `n`, as a truth value. -/
def bitOn (n i : Nat) : Bool := n.testBit i

/-- A truth value as a bit. -/
def boolNat (b : Bool) : Nat := if b then 1 else 0

/-- An 8-bit two's-complement number as an integer. -/
def signed8 (n : Nat) : Int := if n % 256 < 128 then (n % 256 : Nat) else ((n % 256 : Nat) : Int) - 256

/-- A `w`-bit two's-complement number as an integer. -/
def signedN (w n : Nat) : Int :=
  let m := n % 2 ^ w
  if 2 * m < 2 ^ w then (m : Int) else (m : Int) - (2 ^ w : Nat)

/-- The low `w` bits of an integer's two's-complement form. -/
def lowBits (w : Nat) (z : Int) : Nat := (z % ((2 ^ w : Nat) : Int)).toNat

/-- An integer held inside the range from `lo` to `hi`. -/
def clampInt (lo hi z : Int) : Int := if z < lo then lo else if hi < z then hi else z

end Sys2Proof
end

