-- ==== Sys2Proof/Syntax.lean ====
section
/-! DEFINITION. The commands of the block: one constructor of `Instr` per row of the opcode table, with the row's operands.
A row that writes or reads a register carries the bus initiator and, for a write, the word written; a row that is an event
of the hardware carries what comes from outside the device at that event: a measurement, received bytes, an answer. -/

namespace Sys2Proof

/-- The five bus initiators (02 R39). -/
inductive Initiator where
  | apc | ntc | scc | host | debug
  deriving DecidableEq, Repr

/-- The width of a bus access (02 R44). -/
inductive AccessSize where
  | byte | half | word
  deriving DecidableEq, Repr

/-- What a bus access does: a data read, a write of a value, or an instruction fetch (02 R35). -/
inductive BusOp where
  | read | write (w : Word) | fetch
  deriving DecidableEq, Repr

/-- One access of a bus initiator (02 R40). -/
structure BusReq where
  ini  : Initiator
  addr : Word
  size : AccessSize
  op   : BusOp
  deriving DecidableEq, Repr

/-- How a task input was reached: by a bus write of an initiator or by a trigger of the event fabric (17 R396). -/
inductive Via where
  | bus (ini : Initiator)
  | task
  deriving DecidableEq, Repr

/-- One round of the sensors (04 R119): die temperature in degrees Celsius, VBAT and VPA in mV. -/
structure Sense where
  temp : Int
  vbat : Nat
  vpa  : Nat
  deriving DecidableEq, Repr

/-- A receiving unit: a narrowband slice or a Quill lane (06 R147, 07 R164). -/
inductive RxUnit where
  | slice (n : Nat)
  | lane (n : Nat)
  deriving DecidableEq, Repr

/-- The two places that hold a timed command: the software queue slot (05 R132) and NIB_A's timeline slot (09 R227). -/
inductive RadSlot where
  | software | timeline
  deriving DecidableEq, Repr

/-- The PHY header of a narrowband frame as the slice received it (06 R157). -/
structure PhyHeader where
  len      : Nat   -- the length field
  fcs2     : Bool  -- PHR FCS type bit: 1 names a 2-byte FCS
  ms       : Bool  -- mode switch bit
  reserved : Bool  -- some reserved bit is 1
  dw       : Bool  -- data whitening bit
  rateMode : Nat   -- SUN_OQPSK rate mode announced
  ci       : Nat   -- LE_CODED coding indicator
  deriving DecidableEq, Repr

/-- The header of an OFDM frame as the lane received it: the soft bits of the 96 data subcarriers in the two FAO header symbols (07 R174),
or the SUN-OFDM PHR with the verdict of its HCS (07 R168). -/
inductive OfdmHeader where
  | fao (first second : List Soft)
  | sun (hcsOk reserved : Bool) (mcs len seed : Nat)
  deriving DecidableEq, Repr

/-- What the receiver measured over a frame by its end (06 R159, 07 R183): powers and the SNR of a slice in 0.25 dB, CFO in 50 Hz, and a
lane's received active subcarriers of the two LTF symbols, the header symbols and the payload symbols. -/
structure Measures where
  rssiMean : Int
  snr      : Int
  cfo      : Int
  rx       : List (List Tone)
  deriving DecidableEq, Repr

/-- What asks the security engine for a block of CCM* (09 R244): the reception on a unit, the transmission in progress for the `block`th 16 bytes of
its PSDU, the build of the acknowledgement in a context. -/
inductive SecStream where
  | rx (unit : RxUnit)
  | tx (block : Nat)
  | ack (k : Nat)
  deriving DecidableEq, Repr

/-- The units shared under deadline (09 R243). -/
inductive SharedUnit where
  | decoder | security | lookup | hveLookup
  deriving DecidableEq, Repr

/-- The two ports of the cascade link (11 R279). -/
inductive HvlPort where
  | up | dn
  deriving DecidableEq, Repr

/-- One packet of the cascade link as it arrives (11 R282, R283): the port and the hop sequence number it arrives with, and its bytes, from the
header to the CRC-16. -/
structure Packet where
  port  : HvlPort
  seq   : Nat
  bytes : List Byte
  deriving DecidableEq, Repr

/-- The three cores (01 R17). -/
inductive Core where
  | apc | ntc | scc
  deriving DecidableEq, Repr

/-- The engines that have a code RAM (02 R38). -/
inductive Engine where
  | nibA | nibB | ql0 | ql1 | ql2 | ql3 | rcp | hve
  deriving DecidableEq, Repr

/-- The CRC bytes that the host sends after the command word and after the address word of a transaction where CRC_EN = 1 (16 R386). -/
structure HeaderCrcs where
  cmd  : Byte
  addr : Byte
  deriving DecidableEq, Repr

/-- A word that the external master clocks into a slave port, and the rate of its SCK in kHz (15 R360). -/
structure ClockedWord where
  w   : Word
  khz : Nat
  deriving DecidableEq, Repr

/-- A write of SYS.RESET_CTRL that resets the chip, and the position strap as that reset reads it (19 R432; 11 R279). -/
structure ResetWrite where
  w   : Word
  pos : Nat
  deriving DecidableEq, Repr

/-- The three OTP copies of the trims as they are read (19 R434). -/
structure TrimCopies where
  a : Nat
  b : Nat
  c : Nat
  deriving DecidableEq, Repr

/-- A word of a host write with the CRC that follows it where CRC_EN = 1 (16 R386). -/
structure HostWord where
  w   : Word
  crc : Byte
  deriving DecidableEq, Repr

/-- What the external regulator answers to STATUS_BYTE on the request port (18 R423, R424): no acknowledgement; or a status byte with its PEC, and what
the device's own supply monitor reads then, in mV. -/
inductive RrpReply where
  | nak
  | status (b pec : Byte) (mv : Nat)
  deriving DecidableEq, Repr

/-- The four fault classes (21 R464). -/
inductive FaultClass where
  | transient | memory | permanent | config
  deriving DecidableEq, Repr

/-- A fault as its detector reports it: the unit's code (21 R465), its class, and the address for a memory fault or a parity error on the bus.
Unit 0x1400 with class `memory` is a double-bit error of NIB_A's timeline entry memory (21 R470), which charges no unit; its address is the
number of the entry. -/
structure FaultSource where
  unit : Nat
  cls  : FaultClass
  addr : Nat
  deriving DecidableEq, Repr

/-- What a self-test found (22 R485, R487, R488, R489): the signature of a logic scan and whether it equals the boot ROM's,
the verdict of a loopback or PRBS test, or the first failing address of a memory test. -/
inductive TestResult where
  | logic (sig : Word) (eq : Bool)
  | analogue (ok : Bool)
  | memory (fail : Option Word)
  deriving DecidableEq, Repr

/-- A frame that a replay delivers where the recording does not bind it (22 R502, R503): its PSDU and records, and the filter stage that would
have dropped it. -/
structure ReplayFrame where
  bytes : List Byte
  trail : List Byte
  stage : Nat
  deriving DecidableEq, Repr

/-- The commands of the block, one constructor per row of the opcode table. -/
inductive Instr where
  /-- BUS_ACCESS (R40). -/
  | busAccess (req : BusReq)
  /-- SOFT_RESET (R51). -/
  | softReset (ini : Initiator) (page : Nat) (w : Word)
  /-- SOFT_RESET_DONE (R51). -/
  | softResetDone (page : Nat)
  /-- PAGE_ENABLE (R52). -/
  | pageEnable (ini : Initiator) (page : Nat) (en : Bool)
  /-- LOCK (R54). -/
  | lock (ini : Initiator) (page : Nat) (en : Bool)
  /-- IRQ_SET (R50). -/
  | irqSet (ini : Initiator) (page : Nat) (w : Word)
  /-- COMPUTE (R55). -/
  | compute (ini : Initiator) (page : Nat) (w : Word)
  /-- LATCH_REF (R56). -/
  | latchRef (ini : Initiator) (page : Nat) (w : Word)
  /-- SEAL_INTERVAL (R479). -/
  | sealInterval (pages : List Nat)
  /-- SEAL_DONE (R56). -/
  | sealDone (page : Nat)
  /-- SCS_SETTLED (R63). -/
  | scsSettled
  /-- SCS_UNLOCK (R64). -/
  | scsUnlock
  /-- SCS_RELOCK (R64). -/
  | scsRelock (ok : Bool)
  /-- AGC_WINDOW_END (R76). -/
  | agcWindowEnd (peak : Nat) (rms : Nat) (clipped : Bool)
  /-- AGC_HOLD_EXPIRY (R76). -/
  | agcHoldExpiry
  /-- RECEIVER_RUNNING (R80). -/
  | receiverRunning
  /-- WHIFF (R81). -/
  | whiff (ini : Initiator) (w : Word)
  /-- WHIFF_CAPTURE_START (R82). -/
  | whiffCaptureStart
  /-- WHIFF_CAPTURE_END (R82). -/
  | whiffCaptureEnd (clipped : Bool)
  /-- WHIFF_DONE (R85). -/
  | whiffDone (bins : List Half) (descs : List (Byte × Half))
  /-- CRS_LOCK (R93). -/
  | crsLock
  /-- CRS_UNLOCK (R99). -/
  | crsUnlock
  /-- CRS_RELOCK (R99). -/
  | crsRelock (ok : Bool)
  /-- TX_SEQUENCE_START (R103), with the round of the sensors that completes at that instant, if one does. -/
  | txSequenceStart (round : Option Sense)
  /-- RAMP_UP_START (R103). -/
  | rampUpStart
  /-- ON_AIR (R103). -/
  | onAir
  /-- FRAME_TX_END (R103). -/
  | frameTxEnd (det : Option Int)
  /-- RAMP_DOWN_END (R103). -/
  | rampDownEnd
  /-- ANT_SEL_EXIT (R103). -/
  | antSelExit
  /-- UNDERRUN (R101). -/
  | underrun
  /-- ILIM (R116). -/
  | ilim
  /-- RCP_SENSE_SAMPLE (R109), with the round of the sensors that completes at that instant, if one does. -/
  | rcpSenseSample (round : Option Sense)
  /-- TSN_ROUND_END (R119). -/
  | tsnRoundEnd (m : Sense)
  /-- SAMPLE (R119). -/
  | sample (via : Via)
  /-- TSN_SAMPLE_LATCHED (R119). -/
  | tsnSampleLatched
  /-- IDLE (R129). -/
  | idle (ini : Initiator) (w : Word)
  /-- ARM_RX (R129). -/
  | armRx (ini : Initiator) (w : Word)
  /-- RX (R130). -/
  | rx (ini : Initiator) (w : Word)
  /-- RX_MULTI (R130). -/
  | rxMulti (ini : Initiator) (w : Word)
  /-- TX (R127). -/
  | tx (ini : Initiator) (w : Word)
  /-- TX_CCA (R235). -/
  | txCca (ini : Initiator) (w : Word)
  /-- CAL (R138). -/
  | cal (ini : Initiator) (w : Word)
  /-- PRETUNE (R129). -/
  | pretune (ini : Initiator) (w : Word)
  /-- ABORT (R129). -/
  | abort (ini : Initiator) (w : Word)
  /-- OFF (R129). -/
  | off (ini : Initiator) (w : Word)
  /-- TIMED_COMMAND_DUE (R127). -/
  | timedCommandDue (slot : RadSlot)
  /-- QUEUED_COMMAND_EVAL (R132). -/
  | queuedCommandEval
  /-- TRANSITION_END (R122). -/
  | transitionEnd
  /-- TURN_ROUND_RX_RELEASE (R135). -/
  | turnRoundRxRelease
  /-- CAL_STEP_DONE (R138). -/
  | calStepDone (hpGain : Half) (devErr : Byte)
  /-- AUTO_CAL_START (R139). -/
  | autoCalStart
  /-- CHANNELIZER_UPDATE (R144). -/
  | channelizerUpdate
  /-- PREAMBLE_DETECT (R156). -/
  | preambleDetect (slice : Nat) (power : Int)
  /-- SYNC_MATCH (R156): bits 0 to 15 and 16 to 31 of what the slice compares, numbered as SYNC_WORD numbers them. -/
  | syncMatch (slice : Nat) (lo hi : Half) (rssi : Int) (phase : Byte)
  /-- SYNC_SEARCH_TIMEOUT (R156). -/
  | syncSearchTimeout (slice : Nat)
  /-- HEADER_CHECK (R157). -/
  | headerCheck (slice : Nat) (hdr : PhyHeader)
  /-- CAPTURE_SWITCH (R158). -/
  | captureSwitch (unit : RxUnit) (power : Int)
  /-- RX_DATA_BLOCK (R258). -/
  | rxDataBlock (unit : RxUnit) (bytes : List Byte)
  /-- MAC_HEADER_PARSED (R259). -/
  | macHeaderParsed (unit : RxUnit)
  /-- RX_FRAME_END (R24). -/
  | rxFrameEnd (unit : RxUnit) (meas : Measures)
  /-- FRAME_VERDICT (R24). -/
  | frameVerdict (unit : RxUnit)
  /-- STF_DETECT (R184). -/
  | stfDetect (lane : Nat) (power : Int)
  /-- LTF_END (R173). -/
  | ltfEnd (lane : Nat) (rssi : Int) (phase : Byte)
  /-- FAO_HEADER_CHECK (R175). -/
  | faoHeaderCheck (lane : Nat) (hdr : OfdmHeader)
  /-- SEGMENT_REQUEST (R189). -/
  | segmentRequest (unit : RxUnit) (soft : List Soft) (final : Bool)
  /-- SEGMENT_DONE (R189). -/
  | segmentDone (waitNs : Nat)
  /-- SOFT_BIT_OVERFLOW (R191). -/
  | softBitOverflow (unit : RxUnit)
  /-- SLOW_TICK (R196). -/
  | slowTick
  /-- FINE_PART_START (R197). -/
  | finePartStart
  /-- NOW_LO (R199). -/
  | nowLo (ini : Initiator)
  /-- ALARM_HI_WRITE (R200). -/
  | alarmHiWrite (ini : Initiator) (n : Nat) (w : Word)
  /-- ALARM_LO_WRITE (R201). -/
  | alarmLoWrite (ini : Initiator) (n : Nat) (w : Word)
  /-- ALARM_WRITE_EFFECT (R201). -/
  | alarmWriteEffect (n : Nat)
  /-- ALARM_FIRE (R202). -/
  | alarmFire (n : Nat)
  /-- ALARM_EN_WRITE (R201). -/
  | alarmEnWrite (ini : Initiator) (w : Word)
  /-- START (R209). -/
  | start (t : Nat) (via : Via)
  /-- STOP (R209). -/
  | stop (t : Nat) (via : Via)
  /-- CLEAR (R209). -/
  | clear (t : Nat) (via : Via)
  /-- LOAD (R209). -/
  | load (t : Nat) (ini : Initiator)
  /-- CAPTURE (R209). -/
  | capture (t : Nat) (k : Nat)
  /-- WRAP (R206). -/
  | wrap (t : Nat)
  /-- CMP (R207). -/
  | cmp (t : Nat) (k : Nat)
  /-- LPT_SYNC_DONE (R211). -/
  | lptSyncDone
  /-- LPT_WRAP (R211). -/
  | lptWrap (m : Nat)
  /-- LPT_CMP (R211). -/
  | lptCmp (m : Nat)
  /-- WDT_ENABLE (R213). -/
  | wdtEnable (ini : Initiator) (w : Word)
  /-- FEED (R214). -/
  | feed (ini : Initiator) (w : Word)
  /-- PREWARN (R215). -/
  | prewarn
  /-- WDT_EXPIRY (R216). -/
  | wdtExpiry
  /-- ARM (R224). -/
  | arm (ini : Initiator)
  /-- CANCEL (R224). -/
  | cancel (ini : Initiator)
  /-- READ (R224). -/
  | read (ini : Initiator)
  /-- CANCEL_ALL (R224). -/
  | cancelAll (ini : Initiator)
  /-- HAND_OVER (R227). -/
  | handOver
  /-- ENTRY_START (R229). -/
  | entryStart (i : Nat)
  /-- ENTRY_COMPLETION (R225). -/
  | entryCompletion (i : Nat)
  /-- RECEIVE_WINDOW_CLOSE (R228). -/
  | receiveWindowClose
  /-- DONE (R229). -/
  | done (ini : Initiator)
  /-- RUN_AHEAD (R233). -/
  | runAhead
  /-- CCA_WINDOW_END (R235). -/
  | ccaWindowEnd (power : Int) (carrier : Bool)
  /-- SPECULATION_START (R239). -/
  | speculationStart (unit : RxUnit)
  /-- CONTEXT_BLOCK_TAKE (R238). -/
  | contextBlockTake
  /-- COMMIT (R240). -/
  | commit (unit : RxUnit)
  /-- SQUASH (R26). -/
  | squash (unit : RxUnit)
  /-- COMMIT_DEADLINE (R24). -/
  | commitDeadline (unit : RxUnit)
  /-- ACK_FAIL (R242). -/
  | ackFail (underrun : Bool)
  /-- SHARED_REQUEST_SERVED (R243). -/
  | sharedRequestServed (u : SharedUnit)
  /-- NBT_LOOKUP_RETURN (R271). -/
  | nbtLookupReturn (unit : RxUnit)
  /-- ALLOC (R257). -/
  | alloc (ini : Initiator)
  /-- RELEASE (R256). -/
  | release (ini : Initiator) (w : Word)
  /-- RXQ (R258). -/
  | rxq (ini : Initiator)
  /-- INSERT (R273). -/
  | insert (ini : Initiator)
  /-- UPDATE (R273). -/
  | update (ini : Initiator) (mask : Byte)
  /-- DELETE (R273). -/
  | delete (ini : Initiator)
  /-- LOOKUP (R273). -/
  | lookup (ini : Initiator)
  /-- NBT_READ (R273). -/
  | nbtRead (ini : Initiator)
  /-- NBT_COMMAND_DONE (R275). -/
  | nbtCommandDone (ini : Initiator)
  /-- HVL_ENABLE (R288). -/
  | hvlEnable (ini : Initiator) (w : Word)
  /-- TRAINING_DONE (R288). -/
  | trainingDone (port : HvlPort) (nbrPos : Nat) (lanes : Nat)
  /-- HELLO (R288). -/
  | hello (p : Packet)
  /-- WELCOME (R288). -/
  | welcome (p : Packet)
  /-- TIME (R290). -/
  | time (p : Packet)
  /-- HVL_SYNC_EDGE (R290). -/
  | hvlSyncEdge
  /-- SYNC_MARKER (R291). -/
  | syncMarker
  /-- MISSING_EDGE (R292). -/
  | missingEdge
  /-- HVL_LOOKUP (R296). -/
  | hvlLookup (p : Packet)
  /-- REPLY (R284). -/
  | reply (p : Packet) (latNs : Nat)
  /-- VERDICT (R295). -/
  | verdict (p : Packet)
  /-- NBT_CMD (R284). -/
  | nbtCmd (p : Packet)
  /-- NBT_RES (R284). -/
  | nbtRes (p : Packet)
  /-- ENTRY (R293). -/
  | entry (p : Packet)
  /-- ENTRY_RES (R293). -/
  | entryRes (p : Packet)
  /-- FRAME (R294). -/
  | frame (p : Packet)
  /-- FWD_ACK (R294). -/
  | fwdAck (p : Packet)
  /-- FORWARD_RESEND (R294). -/
  | forwardResend
  /-- LINK_DOWN (R300). -/
  | linkDown (p : Packet)
  /-- COMMIT_AT (R458). -/
  | commitAt (p : Packet)
  /-- PACKET_ACK (R287). -/
  | packetAck (port : HvlPort) (seq : Byte)
  /-- PACKET_NAK (R287). -/
  | packetNak (port : HvlPort) (seq : Byte)
  /-- PACKET_CRC_FAIL (R286, R298): whether a code or disparity error came with it, and on which lane. -/
  | packetCrcFail (p : Packet) (code : Bool) (lane : Nat)
  /-- RESEND_TIMEOUT (R287). -/
  | resendTimeout (port : HvlPort) (seq : Byte)
  /-- RETRAIN_DONE (R299): the lanes that trained, bit n for lane n; none of them, and the retraining has failed. -/
  | retrainDone (port : HvlPort) (lanes : Nat)
  /-- HOP_DOWN (R300). -/
  | hopDown (port : HvlPort)
  /-- PRBS_TEST_DONE (R298). -/
  | prbsTestDone (port : HvlPort) (err0 : Bool) (err1 : Bool)
  /-- AES_ECB_ENCRYPT (R314). -/
  | aesEcbEncrypt (ini : Initiator) (w : Word)
  /-- AES_CTR (R314). -/
  | aesCtr (ini : Initiator) (w : Word)
  /-- CCM_ENCRYPT (R314). -/
  | ccmEncrypt (ini : Initiator) (w : Word)
  /-- CCM_DECRYPT (R314). -/
  | ccmDecrypt (ini : Initiator) (w : Word)
  /-- SHA_256 (R314). -/
  | sha256 (ini : Initiator) (w : Word)
  /-- ECDSA_P256_VERIFY (R314). -/
  | ecdsaP256Verify (ini : Initiator) (w : Word)
  /-- JOB_DONE (R314). -/
  | jobDone
  /-- RNG (R315). -/
  | rng (ini : Initiator)
  /-- RNG_WORD (R315). -/
  | rngWord (w : Word) (ok : Bool)
  /-- RNG_RESTART (R315). -/
  | rngRestart (ini : Initiator)
  /-- SECURITY_REQUEST (R311). -/
  | securityRequest (stream : SecStream)
  /-- KEY_STORE_WRITE (R306). -/
  | keyStoreWrite (addr : Word) (size : AccessSize) (w : Word)
  /-- SET_ATTR (R528). -/
  | setAttr (ini : Initiator) (slot : Nat)
  /-- ERASE_KEY (R321). -/
  | eraseKey (ini : Initiator) (slot : Nat)
  /-- ERASE_ALL (R321). -/
  | eraseAll (ini : Initiator)
  /-- IMPORT (R308). -/
  | importKey (ini : Initiator) (slot : Nat)
  /-- EXPORT (R308). -/
  | exportKey (ini : Initiator) (slot : Nat)
  /-- READ_ATTR (R528). -/
  | readAttr (ini : Initiator) (slot : Nat)
  /-- OTP_WRITE (R309). -/
  | otpWrite (ini : Initiator) (slot : Nat)
  /-- KST_COMMAND_DONE (R321). -/
  | kstCommandDone
  /-- DBG_CHAL (R319). -/
  | dbgChal (nonce : List Byte)
  /-- DBG_RESP (R319). -/
  | dbgResp (scope : Byte) (pub : List Byte) (sig : List Byte)
  /-- CLAIM (R329). -/
  | claim (ini : Initiator)
  /-- COMPLETE (R329). -/
  | complete (ini : Initiator) (w : Word)
  /-- CACHE_INV (R324). -/
  | cacheInv (ini : Initiator) (w : Word)
  /-- MBOX_TX (R331). -/
  | mboxTx (ini : Initiator) (c : Nat) (w : Word)
  /-- MBOX_RX (R331). -/
  | mboxRx (ini : Initiator) (c : Nat)
  /-- DEBUG_HALT (R333). -/
  | debugHalt (hart : Nat)
  /-- DEBUG_RESUME (R333). -/
  | debugResume (hart : Nat)
  /-- SUBMIT (R348). -/
  | submit (ini : Initiator)
  /-- PROGRAM (R350). -/
  | program (units : Nat)
  /-- ERASE (R350). -/
  | erase (complete : Bool)
  /-- READBACK (R352). -/
  | readback (units : Nat) (weak : List Nat)
  /-- DESC_DONE (R349). -/
  | descDone (dur : Nat)
  /-- FLC_DONE (R353). -/
  | flcDone (ini : Initiator)
  /-- SUSPEND (R345). -/
  | suspend (ini : Initiator)
  /-- RESUME (R345). -/
  | resume (ini : Initiator)
  /-- FLC_ABORT (R355). -/
  | flcAbort (ini : Initiator)
  /-- AUTO_RESUME (R345). -/
  | autoResume
  /-- MIN_RUN_END (R345). -/
  | minRunEnd
  /-- QTX (R362). -/
  | qtx (ini : Initiator) (port : Nat) (w : Word)
  /-- QRX (R367). -/
  | qrx (ini : Initiator) (port : Nat)
  /-- FLUSH (R367). -/
  | flush (ini : Initiator) (port : Nat)
  /-- SPT_RELEASE (R364). -/
  | sptRelease (ini : Initiator) (port : Nat)
  /-- PF_INV (R373). -/
  | pfInv (ini : Initiator)
  /-- QUEUE_WORD_DONE (R363). -/
  | queueWordDone (port : Nat) (rx : Word)
  /-- HOLD_EXPIRED (R364). -/
  | holdExpired (port : Nat)
  /-- SLAVE_WORD (R365). -/
  | slaveWord (port : Nat) (rx : ClockedWord)
  /-- SHORT_WORD (R365). -/
  | shortWord (port : Nat)
  /-- WINDOW_READ (R370). -/
  | windowRead (req : BusReq) (dev : List Byte)
  /-- WINDOW_WRITE (R371). -/
  | windowWrite (req : BusReq)
  /-- WRITE_BUFFER_FLUSH (R371). -/
  | writeBufferFlush (port : Nat)
  /-- STATUS_POLL (R371). -/
  | statusPoll (port : Nat) (status : Byte)
  /-- POLL_TIMEOUT (R372). -/
  | pollTimeout (port : Nat)
  /-- LINE_FILL_DONE (R373). -/
  | lineFillDone (dev : List Byte)
  /-- LOOK_AHEAD_FILL (R373). -/
  | lookAheadFill
  /-- HSP_CS_FALL (R378). -/
  | hspCsFall (mode3 : Bool)
  /-- NOP (R381). -/
  | nop (cmd : Word) (crc : Byte)
  /-- HSP_READ (R383). -/
  | hspRead (cmd : Word) (addr : Word) (crcs : HeaderCrcs) (late : Option Nat)
  /-- HSP_WRITE (R384). -/
  | hspWrite (cmd : Word) (addr : Word) (crcs : HeaderCrcs) (words : List HostWord)
  /-- CUT (R385). -/
  | cut
  /-- DB_SET (R389). -/
  | dbSet (ini : Initiator) (w : Word)
  /-- DOORBELL (R389). -/
  | doorbell (ini : Initiator) (w : Word)
  /-- EVENT_SAMPLE (R396). -/
  | eventSample
  /-- TASK_TRIGGER (R398). -/
  | taskTrigger (task : Nat)
  /-- SW_TRIG (R401). -/
  | swTrig (ini : Initiator) (w : Word)
  /-- TASK_TRIG (R401). -/
  | taskTrig (ini : Initiator) (w : Word)
  /-- HELD_EVENTS_SAMPLE (R397). -/
  | heldEventsSample
  /-- PIN_EVT (R400). -/
  | pinEvt (pin : Nat) (rising : Bool)
  /-- GPIO_INT (R513). -/
  | gpioInt (pin : Nat) (level : Bool)
  /-- REQ (R408). -/
  | req (ini : Initiator) (w : Word)
  /-- ENTRY_BEGIN (R410). -/
  | entryBegin
  /-- ENTRY_INSTANT (R410). -/
  | entryInstant
  /-- ENTRY_ABORTED (R411). -/
  | entryAborted (srcs : List Nat)
  /-- WAKE (R413). -/
  | wake (srcs : List Nat)
  /-- WAKE_PIN (R414). -/
  | wakePin (pin : Nat) (level : Bool)
  /-- RADIO_ON (R404). -/
  | radioOn (ini : Initiator) (w : Word)
  /-- RADIO_DOMAIN_UP (R404). -/
  | radioDomainUp
  /-- BANK_CLEAR_DONE (R326). -/
  | bankClearDone (bank : Nat)
  /-- OP_TARGET (R422). -/
  | opTarget (ini : Initiator) (w : Word)
  /-- OP_DONE (R422). -/
  | opDone
  /-- CLK_CFG_WRITE (R419). -/
  | clkCfgWrite (ini : Initiator) (w : Word)
  /-- SWITCHED (R419). -/
  | switched
  /-- HFXO_STABLE (R416). -/
  | hfxoStable
  /-- PLL_LOCK (R416). -/
  | pllLock
  /-- HFXO_FAIL (R420). -/
  | hfxoFail
  /-- LFXO_FAIL (R417). -/
  | lfxoFail
  /-- LFXO_RETURN (R417). -/
  | lfxoReturn
  /-- VOUT_COMMAND (R423). -/
  | voutCommand
  /-- OPERATION (R423). -/
  | operation (on : Bool)
  /-- STATUS_BYTE (R424). -/
  | statusByte (r : RrpReply)
  /-- RRP_RESEND (R424). -/
  | rrpResend
  /-- RRP_TIMEOUT (R424). -/
  | rrpTimeout
  /-- POR (R431). -/
  | por (regSel : Bool) (pos : Nat)
  /-- BOR (R431). -/
  | bor (regSel : Bool) (pos : Nat)
  /-- PIN (R432). -/
  | pin (pos : Nat)
  /-- WDT (R432). -/
  | wdt (pos : Nat)
  /-- SOFT_CHIP (R432). -/
  | softChip (ini : Initiator) (reset : ResetWrite)
  /-- UPDATE_FALLBACK (R431). -/
  | updateFallback (pos : Nat)
  /-- RESTART_APC (R442). -/
  | restartApc (ini : Initiator) (w : Word)
  /-- RESTART_NTC (R442). -/
  | restartNtc (ini : Initiator) (w : Word)
  /-- FLASH_SAFE_POINT_RESET (R356). -/
  | flashSafePointReset (units : Nat)
  /-- BOOT_START (R434). -/
  | bootStart (trims : TrimCopies)
  /-- CORE_RELEASE (R434). -/
  | coreRelease (core : Core)
  /-- BOOT_DONE (R434). -/
  | bootDone
  /-- ENGINE_CODE_LOAD (R441). -/
  | engineCodeLoad (e : Engine)
  /-- ENG_READY (R441). -/
  | engReady
  /-- ENGINE_RELOAD (R464). -/
  | engineReload (e : Engine)
  /-- STAGE (R447). -/
  | stage (ini : Initiator) (w : Word)
  /-- STAGE_DONE (R447). -/
  | stageDone
  /-- ACTIVATE (R450). -/
  | activate (ini : Initiator) (w : Word)
  /-- ABANDON (R450). -/
  | abandon (ini : Initiator) (w : Word)
  /-- REVERT (R460). -/
  | revert (ini : Initiator) (w : Word)
  /-- RECOPY (R457). -/
  | recopy (ini : Initiator) (w : Word)
  /-- COMMIT_SUSPEND (R451). -/
  | commitSuspend
  /-- COMMIT_POINT (R451). -/
  | commitPoint
  /-- HOME_COPY_SECTOR (R452). -/
  | homeCopySector (ok : Bool)
  /-- ENGINE_CHANGEOVER (R453). -/
  | engineChangeover (e : Engine) (block : List Byte)
  /-- ENGINE_ACCEPT (R453). -/
  | engineAccept (e : Engine) (ok : Bool)
  /-- QUIET_LIMIT (R454). -/
  | quietLimit
  /-- HANDOVER (R455). -/
  | handover (ini : Initiator) (w : Word)
  /-- HANDOVER_WAIT (R455). -/
  | handoverWait (core : Core)
  /-- CONFIRM (R459). -/
  | confirm (ini : Initiator) (w : Word)
  /-- CONFIRM_WINDOW (R460). -/
  | confirmWindow
  /-- FALLBACK (R461). -/
  | fallback
  /-- FAULT (R464). -/
  | fault (src : FaultSource)
  /-- RETRY (R467). -/
  | retry (unit : Nat) (ok : Bool)
  /-- RECORD_REWRITE_DONE (R472). -/
  | recordRewriteDone (fails : List Nat)
  /-- RETIRE (R475). -/
  | retire (ini : Initiator) (unit : Nat)
  /-- UNRETIRE (R475). -/
  | unretire (ini : Initiator) (unit : Nat)
  /-- CLEAR_COUNT (R475). -/
  | clearCount (ini : Initiator) (unit : Nat)
  /-- REWRITE (R475). -/
  | rewrite (ini : Initiator) (unit : Nat)
  /-- LOG (R481). -/
  | log (ini : Initiator)
  /-- TEST (R482). -/
  | test (ini : Initiator) (unit : Nat)
  /-- BST_ABORT (R483). -/
  | bstAbort (ini : Initiator)
  /-- TEST_ISOLATION (R483). -/
  | testIsolation
  /-- TEST_DONE (R485). -/
  | testDone (r : TestResult)
  /-- REC_ARM (R494). -/
  | recArm (via : Via)
  /-- FREEZE (R498). -/
  | freeze (via : Via)
  /-- MARK (R496). -/
  | mark (ini : Initiator) (w : Word)
  /-- POST_END (R499). -/
  | postEnd
  /-- FROZEN (R499). -/
  | frozen (samples : List Byte) (bad : List Nat)
  /-- REPLAY (R501). -/
  | replay (ini : Initiator)
  /-- REPLAY_DONE (R502). -/
  | replayDone (frames : List ReplayFrame)
  /-- RPQ (R502). -/
  | rpq (ini : Initiator)
  /-- SAFE_POINT (R345). -/
  | safePoint (units : Nat)
  /-- NO_TIME_WITHIN_16_MS (R302). -/
  | noTimeWithin16Ms
  /-- RESERVED_TYPE_PACKET (R284). -/
  | reservedTypePacket (p : Packet)
  /-- HFXO_FAILS_TO_START (R123). -/
  | hfxoFailsToStart
  /-- BOR_RELEASE (R430). -/
  | borRelease
  deriving DecidableEq, Repr

end Sys2Proof
end

