-- ==== Sys2Proof/Decode.lean ====
section
/-! DEFINITION. Words that spell commands. The opcode table of this block gives no row any bits: a command reaches the block
through the queue of commands, never as an encoded word. -/

namespace Sys2Proof

/-- The command that the `nbits` low bits of `w` spell: the table gives no row bits, so no word spells one. -/
def decodeTableWord (_nbits _w : Nat) : Option Instr := none

end Sys2Proof
end

