-- ==== Sys2Proof/Machine/Crc.lean ====
section
/-! DEFINITION. The checksums of the device: the CRC-32 of seals and key hashes (02 R55), the frame checks of IEEE 802.15.4 and
Bluetooth LE (06 R153), the profile check (07 R178) and the header check (07 R174). -/

namespace Sys2Proof.Machine

/-- Eight steps of a reflected CRC register. -/
def crcReflBits (poly : Nat) : Nat → Nat → Nat
  | 0, c => c
  | n + 1, c => crcReflBits poly n (if c % 2 = 1 then (c / 2) ^^^ poly else c / 2)

/-- A reflected CRC over bytes, with the register's start value. -/
def crcRefl (poly : Nat) (c : Nat) : List Byte → Nat
  | [] => c
  | b :: bs => crcRefl poly (crcReflBits poly 8 (c ^^^ b.toNat)) bs

/-- `n` steps of a forward CRC register of `w` bits. -/
def crcFwdBits (w poly : Nat) : Nat → Nat → Nat
  | 0, c => c
  | n + 1, c => crcFwdBits w poly n (if c.testBit (w - 1) then (2 * c % 2 ^ w) ^^^ poly else 2 * c % 2 ^ w)

/-- A forward CRC of `w` ≥ 8 bits over bytes, most significant bit first. -/
def crcFwd (w poly : Nat) (c : Nat) : List Byte → Nat
  | [] => c
  | b :: bs => crcFwd w poly (crcFwdBits w poly 8 (c ^^^ (b.toNat * 2 ^ (w - 8)))) bs

/-- The CRC-32 of 02 R55: reflected 0x04C11DB7, start and final XOR all ones. -/
def crc32 (bs : List Byte) : Nat := crcRefl 0xEDB88320 0xFFFFFFFF bs ^^^ 0xFFFFFFFF

/-- The CRC-16 of an IEEE 802.15.4 frame: reflected 0x1021, start 0. -/
def crc16 (bs : List Byte) : Nat := crcRefl 0x8408 0 bs

/-- The CRC-16 of a profile and of a cascade packet: 0x1021, start 0xFFFF, not reflected (07 R178, 11 R283). -/
def crc16Fwd (bs : List Byte) : Nat := crcFwd 16 0x1021 0xFFFF bs

/-- One bit through the CRC-24 of Bluetooth LE. -/
def crc24Bit (c : Nat) (b : Bool) : Nat :=
  if (c.testBit 23 != b) then (2 * c % 2 ^ 24) ^^^ 0x65B else 2 * c % 2 ^ 24

/-- The CRC-24 of Bluetooth LE from CRC_INIT over bytes in air order, bit 0 first (06 R526). -/
def crc24 (init : Nat) (bs : List Byte) : Nat :=
  bs.foldl (fun c b => (List.range 8).foldl (fun d i => crc24Bit d (b.toNat.testBit i)) c) init

/-- The three bytes of a CRC-24 as they are stored (06 R526): bit j of byte k is bit 23 − 8k − j of the CRC. -/
def crc24Bytes (c : Nat) : List Byte :=
  (List.range 3).map (fun k =>
    BitVec.ofNat 8 ((List.range 8).foldl (fun a j => a + (if c.testBit (23 - 8 * k - j) then 2 ^ j else 0)) 0))

/-- The header check of FAO (07 R174): CRC-8, polynomial 0x07, over the header bits 0 to 33 in air order, as the six bits
42 to 47 and the eight bits 34 to 41 follow; the value has bit 34 as its most significant bit. -/
def crc8Bits (bs : List Bool) : Nat :=
  bs.foldl (fun c b => if (c.testBit 7 != b) then (2 * c % 256) ^^^ 7 else 2 * c % 256) 0

/-- The frame check sequence of an IEEE 802.15.4 frame: two or four bytes, a frame shorter than four bytes padded with zeros for
the four-byte check; no bytes for a frame without one (06 R153, R530). -/
def fcsBytes (len : Nat) (bs : List Byte) : List Byte :=
  let le (n v : Nat) : List Byte := (List.range n).map (fun i => BitVec.ofNat 8 (v / 256 ^ i))
  if len = 2 then le 2 (crc16 bs)
  else if len = 4 then le 4 (crc32 (bs ++ List.replicate (4 - bs.length) 0))
  else []

end Sys2Proof.Machine
end

