-- ==== Sys2Proof/Machine/Types.lean ====
section
/-! DEFINITION. The plain data types of the state's parts, one group per chapter of the specification. Powers and signal
levels are integers in units of 0.25 dB(m); instants are counts of the 48-bit time base (08 R195). -/

namespace Sys2Proof.Machine

/-- The three variants of the device (00 R2). -/
inductive Variant where
  | znl7240 | znl7230 | znl7210
  deriving DecidableEq, Repr

/-- One copy of a thing per bus initiator (02 R48, R53). -/
structure PerInit (α : Type) where
  apc   : α
  ntc   : α
  scc   : α
  host  : α
  debug : α
  deriving DecidableEq, Repr

/-- The same value for every initiator. -/
def PerInit.all {α : Type} (a : α) : PerInit α := ⟨a, a, a, a, a⟩

/-- The copy of initiator `i`. -/
def PerInit.get {α : Type} (p : PerInit α) : Initiator → α
  | .apc => p.apc
  | .ntc => p.ntc
  | .scc => p.scc
  | .host => p.host
  | .debug => p.debug

/-- The copies with that of initiator `i` replaced. -/
def PerInit.set {α : Type} (p : PerInit α) (i : Initiator) (a : α) : PerInit α :=
  match i with
  | .apc => { p with apc := a }
  | .ntc => { p with ntc := a }
  | .scc => { p with scc := a }
  | .host => { p with host := a }
  | .debug => { p with debug := a }

/-- How an access ended (02 R40): `ok` covers conditions 3, 5, 6 and 7, which raise no error; `denied` is conditions 1 and 2
and `asleep` condition 4, both an access-fault exception in a core and a status flag on the host port; `memFault` is the bus
error of a double-bit memory error (13 R325); `waiting` says that the access stalls and is served later. -/
inductive BusEnd where
  | ok | denied | asleep | memFault | waiting
  deriving DecidableEq, Repr

/-- The last answer a bus initiator got. -/
structure BusAnswer where
  value : Word
  how   : BusEnd
  deriving DecidableEq, Repr

/-- Why an access waits (02 R51; 14 R344; 15 R370, R371, R373; 13 R326). -/
inductive StallWhy where
  | softReset (page : Nat)
  | flashBank (bank : Nat)
  | bankClear (bank : Nat)
  | window (port : Nat)
  deriving DecidableEq, Repr

/-- An access that waits, with the bytes that an external device answers it. -/
structure Stalled where
  req : BusReq
  why : StallWhy
  dev : List Byte
  deriving DecidableEq, Repr

/-- A seal computation of a page (02 R55 to R57): the configuration words when it began, whether a write has landed since. -/
structure SealRun where
  words : List Nat
  dirty : Bool
  deriving DecidableEq, Repr

/-- What a page holds beside its registers: the seal computation in progress, a held request, the latched reference, whether a
soft reset runs. -/
structure PageState where
  run       : Option SealRun
  held      : Bool
  reference : Nat
  resetting : Bool
  deriving DecidableEq, Repr

/-- The working copy of a channel descriptor (06 R146), its eight words. -/
structure DescCopy where
  freq    : Nat
  mode    : Nat
  sync    : Nat
  syncCfg : Nat
  rate    : Nat
  dev     : Nat
  cca     : Nat
  aux     : Nat
  deriving DecidableEq, Repr

/-- An address of a MAC header: short or extended. -/
inductive MacAddr where
  | short (a : Nat)
  | ext (a : Nat)
  deriving DecidableEq, Repr

/-- A parsed MAC header (10 R259). -/
structure MacHdr where
  ftype    : Nat
  version  : Nat
  secured  : Bool
  pending  : Bool
  ackReq   : Bool
  seq      : Option Nat
  dstPan   : Option Nat
  dstAddr  : Option MacAddr
  srcPan   : Option Nat
  srcAddr  : Option MacAddr
  secLevel : Nat
  keyMode  : Nat
  fcSup    : Bool
  asnNonce : Bool
  counter  : Nat
  keyId    : List Byte
  auxAt    : Nat
  auxLen   : Nat
  hdrLen   : Nat
  cslAt    : List Nat
  deriving DecidableEq, Repr

/-- What a neighbour lookup returned (10 R263, R271): the global index, the entry's words, the reserved value U. -/
structure NbtView where
  index : Nat
  words : List Nat
  u     : Option Nat
  deriving DecidableEq, Repr

/-- The state of a frame's lookup (10 R271). -/
inductive LookupState where
  | idle
  | waiting
  | found (v : NbtView)
  | notFound
  | inFlight (v : NbtView)
  deriving DecidableEq, Repr

/-- A copy of a loading profile, with the verdict of 07 R179. -/
structure Profile where
  index : Nat
  codes : List Nat
  nbits : Nat
  pcrc  : Nat
  valid : Bool
  deriving DecidableEq, Repr

/-- A Viterbi decoder at work on one stream (07 R188): for each state of the code the best metric with its path, newest bit first; the bits
delivered; and the steps taken. -/
structure Trellis where
  nodes : List (Option (Int × List Bool))
  out   : List Bool
  steps : Nat
  deriving DecidableEq, Repr

/-- The coded stream of a reception (07 R189): the trellis steps sent to the decoder in segments, whether the final one has been sent, and the
decoder's part. -/
structure CodedStream where
  sent    : Nat
  final   : Bool
  trellis : Trellis
  deriving DecidableEq, Repr

/-- What the transmitter sends of a frame: the bits that its modulator takes, or the OFDM symbols of a lane as the values of their active
subcarriers (07 R166). -/
inductive OnAir where
  | bits (l : List Bool)
  | tones (l : List (List Tone))
  deriving DecidableEq, Repr

/-- A reception in progress on a slice or lane, from the detection of its preamble (05 R129 note 2): `early` is the stage of 1 and 2 that
failed when the header was parsed, `judged` what stages 3 and 4 gave at the lookup's return (10 R260). -/
structure RxFrame where
  power     : Int
  captured  : Bool
  synced    : Bool
  alt       : Bool
  errs      : Nat
  rssi      : Int
  phase     : Nat
  tstamp    : Nat
  header    : Bool
  len       : Nat
  fcsLen    : Nat
  phy       : Nat
  rateByte  : Nat
  prof      : Profile
  endAt     : Nat
  blocks    : List Nat
  bytes     : List Byte
  mac       : Option MacHdr
  badHdr    : Bool
  early     : Nat
  judged    : Option Nat
  lookup    : LookupState
  spec      : Option Nat
  squashed  : Bool
  gainStep  : Bool
  clipped   : Bool
  lateInput : Bool
  entry     : Option Nat
  meas      : Option Measures
  stream    : CodedStream
  deriving DecidableEq, Repr

/-- A slice or a lane (06 R146, 07 R164): the descriptor it serves with its working copy, an assignment that waits for the next
channelizer update, whether a fresh copy is due, the stream that feeds it, and the reception in progress. -/
structure RxSlot where
  desc    : Option Nat
  copy    : DescCopy
  next    : Option Nat
  release : Bool
  stale   : Bool
  stream  : Option Nat
  frame   : Option RxFrame
  deriving DecidableEq, Repr

/-- Who issued a radio operation: software, a timeline entry, or the radio itself. -/
inductive OpSrc where
  | software (tag : Nat)
  | entry (i : Nat)
  | internal
  deriving DecidableEq, Repr

/-- A radio command as it was accepted or is held (05 R124, R127, R128; 09 R222). -/
structure RadOp where
  src    : OpSrc
  opcode : Nat
  desc   : Nat
  exit   : Nat
  slot   : Nat
  arg    : Nat
  mask   : Nat
  timed  : Bool
  instant : Nat
  slip   : Bool
  u      : Option Nat
  deriving DecidableEq, Repr

/-- The phases of a transmission (04 R103); `cca` is the window of a TX_CCA, `wait` the time before T0 − 8 µs. -/
inductive TxStage where
  | cca | wait | sequence | rampUp | onAir | rampDown | tail
  deriving DecidableEq, Repr

/-- Who a transmission belongs to: a radio operation or the acknowledgement of a speculation context. -/
inductive TxSrc where
  | op
  | ack (k : Nat)
  deriving DecidableEq, Repr

/-- The transmission in progress (04 R103, R106, R112); `displaced` says that a command accepted after TE has taken the place of its exit, `air` is
its earliest T0 as it stood at acceptance (01 R22), `form` what goes on air. -/
structure TxJob where
  src      : TxSrc
  stage    : TxStage
  desc     : Nat
  copy     : DescCopy
  slot     : Nat
  head     : Nat
  exit     : Nat
  t0       : Option Nat
  path     : Nat
  applied  : Int
  drive    : Nat
  status   : Nat
  ilim     : Bool
  measured : Bool
  frame    : List Byte
  rxOn     : Bool
  onAirAt  : Nat
  te       : Nat
  chain    : List Nat
  keep     : Bool
  u        : Option Nat
  lane     : Option Nat
  displaced : Bool
  air      : Nat
  form     : OnAir
  deriving DecidableEq, Repr

/-- What holds the carrier synthesiser reserved (04 R96). -/
inductive CrsUser where
  | ack (k : Nat)
  | tx
  deriving DecidableEq, Repr

/-- A request in the CRS's held place (04 R529). -/
inductive HeldKind where
  | runAhead (i : Nat)
  | pretune (src : OpSrc)
  | txTune
  | ackTune (k : Nat)
  deriving DecidableEq, Repr

/-- The held place's content: what asked, for which channel, and the transmit frequency with SYN.CRS_OFS as it stood at the request
(04 R93). -/
structure CrsHeld where
  kind   : HeldKind
  freq   : Nat
  target : Int
  deriving DecidableEq, Repr

/-- The carrier synthesiser beside its registers: the channel its target stands for, what reserves it, the held place, whether
the retries of a loss of lock have all failed (04 R93, R96, R99, R529). -/
structure Crs where
  chan     : Option Nat
  reserved : List CrsUser
  held     : Option CrsHeld
  dead     : Bool
  deriving DecidableEq, Repr

/-- A calibration in progress (05 R138): the steps still to run, whether it is commanded, and what waits for its end. -/
structure CalRun where
  steps : Nat
  src   : OpSrc
  deriving DecidableEq, Repr

/-- A Whiff in progress (03 R81 to R85); `bad` is the set of descriptors that failed their check (06 R145), `before` the gain that the AGC
holds over the capture, `noCorr` the set of those of whose preamble no whole period fits in it (R86). -/
structure Whiff where
  mask      : Nat
  blocks    : List Nat
  tStart    : Nat
  gain      : Nat
  clip      : Bool
  capturing : Bool
  captured  : Bool
  fromIdle  : Bool
  op        : RadOp
  bad       : Nat
  before    : Nat
  noCorr    : Nat
  deriving DecidableEq, Repr

/-- How a timeline entry ended, until its completion is processed (09 R225). -/
structure EntryEnd where
  status  : Nat
  noFrame : Bool
  frame   : Bool
  fcsOk   : Bool
  acked   : Bool
  slip    : Bool
  endAt   : Nat
  deriving DecidableEq, Repr

/-- A frame that asked for an acknowledgement (06 R148): its source, the end of its sync word, its air
time, and the context of its speculation. -/
structure SeenFrame where
  pan   : Option Nat
  addr  : MacAddr
  sync  : Nat
  first : Nat
  last  : Nat
  spec  : Option Nat
  deriving DecidableEq, Repr

/-- The radio state machine beside its registers (05): the operation in progress, the software queue slot, the timeline slot,
the transmission, the calibration and the Whiff in progress; whether the last RAD.CMD write may still wait for its evaluation
(R125), whether a start waits for HFXO (R123), whether a turn-round to reception runs, the number of the last command
written, the phase of ANT_SEL, whether a single receive waits for its acknowledgement, whether its window has closed, how its last frame
ended and whose operation that belongs to, the states that block the queued command and the timeline slot's, the exit and the descriptor that a queued command may
replace (R133), the earliest T0 after a transmission, an ABORT that waits for an acknowledgement's end, and a transmission that waits while an
acknowledgement is sent, the temperature the RCP sampled last (04 R109), whether a calibration has completed since the radio domain
started (R139), whether TX_READY is to be entered at lock (R141), whether a round of the sensors has ended since a sample was asked
for (04 R119), whether a sync has been found since the operation began (09 R228), and the frames past their verdict that one still on
air may overlap (06 R148). -/
structure Radio where
  op       : Option RadOp
  queue    : Option RadOp
  heldTime : Bool
  tslot    : Option RadOp
  tx       : Option TxJob
  cal      : Option CalRun
  whiff    : Option Whiff
  evalOpen : Bool
  hfxoWait : Bool
  turnRx   : Bool
  cmdNo    : Nat
  antSel   : Nat
  waitAck  : Bool
  winShut  : Bool
  lastRes  : EntryEnd
  resOf    : OpSrc
  qBlock   : Nat
  tBlock   : Option Nat
  follow   : Option (Nat × Nat)
  minT0    : Option Nat
  abortOp  : Option RadOp
  txNext   : Option TxJob
  rcpTemp  : Int
  calDone  : Bool
  lockWait : Bool
  tsnRound : Bool
  winSync  : Bool
  recent   : List SeenFrame
  deriving DecidableEq, Repr

/-- The receive front end beside its registers (03): the AGC settings in force, the instant to which the gain stays held after a
transmission, whether the last window that counts lay below the low threshold, whether the relocks of the sample clock have all
failed, the instant of the last restart of the hold time (R76), and the instant at which a settling of the sample clock ends (R63). -/
structure Rfe where
  ctrl    : Nat
  time    : Nat
  holdTill : Option Nat
  low     : Bool
  scsDead : Bool
  holdAt  : Nat
  settleAt : Nat
  deriving DecidableEq, Repr

/-- The five states of a timeline entry (09 R224), with the codes of LNK.ENT_RES.STATE. -/
inductive EntryState where
  | empty | armed | wait | dispatched | done
  deriving DecidableEq, Repr

/-- A timeline entry (09 R221 to R226). -/
structure TlEntry where
  words  : List Nat
  state  : EntryState
  last   : Nat
  start  : Nat
  reps   : Nat
  asked  : Bool
  ended  : Option EntryEnd
  soon   : Bool
  slip   : Bool
  deriving DecidableEq, Repr

/-- A completion record (09 R229). -/
structure DoneRec where
  word : Nat
  time : Nat
  deriving DecidableEq, Repr

/-- A speculation context of NIB_B (09 R238, R241): its block; whether it is in use, whether it has committed; the frame's unit,
descriptor and copy; the entry's index, the outbound value taken and the inbound counter to raise; the acknowledgement with its
FCS length and T0; whether its tune waits in the held place; where the frame's record lies once it is queued; whether the
verdict has passed, with what the verdict reports; the key, level and header length while the MIC is still to be computed, and
the places of its CSL IEs; whether the entry has been deleted meanwhile (10 R274). -/
structure AckCtx where
  block     : Option Nat
  busy      : Bool
  committed : Bool
  unit      : RxUnit
  desc      : Nat
  copy      : DescCopy
  index     : Nat
  u         : Option Nat
  inFc      : Option Nat
  remote    : Bool
  frame     : List Byte
  fcsLen    : Nat
  t0        : Nat
  deferred  : Bool
  headRec   : Option Nat
  passed    : Bool
  rssi      : Int
  lqi       : Nat
  key       : Option (List Nat)
  level     : Nat
  hdrLen    : Nat
  cslAt     : List Nat
  gone      : Bool
  deriving DecidableEq, Repr

/-- What a request serves (09 R244): the frame on a unit that was stamped at an instant, the transmission, an acknowledgement's build. -/
inductive ReqFor where
  | rx (u : RxUnit) (stamp : Nat)
  | tx
  | ack (k : Nat)
  deriving DecidableEq, Repr

/-- A request of a shared unit (09 R243, R244): its deadline, its rank among equal deadlines, what it serves and, for a segment of the
decoder, its trellis steps and whether it is final (07 R189). -/
structure SharedReq where
  unit     : SharedUnit
  deadline : Nat
  rank     : Nat
  who      : ReqFor
  soft     : List (Soft × Soft)
  final    : Bool
  deriving DecidableEq, Repr

/-- The owner of a radio buffer block (10 R253). -/
inductive Owner where
  | free | receive | software | transmit | context
  deriving DecidableEq, Repr

/-- A command of the neighbour table in progress (10 R273): its operation, mask, index and staged words as they stood at the write,
and whether another device executes it. -/
structure NbtJob where
  op     : Nat
  mask   : Nat
  index  : Nat
  data   : List Nat
  remote : Bool
  deriving DecidableEq, Repr

/-- A key of the neighbour table (10 R269): KEY_TYPE, and the eight or three bytes that are hashed. -/
structure NbtKey where
  kt    : Bool
  bytes : List Byte
  deriving DecidableEq, Repr

/-- A software job of the security engine (12 R314): its operation, its key as copied when the job was keyed or none, whether
the key comes from memory, and the addresses and length as they stood at the write. -/
structure SecJob where
  op    : Nat
  key   : Option (List Nat)
  plain : Option Nat
  src   : Nat
  dst   : Nat
  len   : Nat
  ini   : Initiator
  deriving DecidableEq, Repr

/-- A key store command in progress (12 R321). -/
structure KstJob where
  op   : Nat
  slot : Nat
  deriving DecidableEq, Repr

/-- The security engine and the key store beside their registers (12): attribute bytes that are not 0, the OTP fields by code, the
device secret, the random words in the FIFO, fresh words still to pass after a restart, the job and the key store command in
progress, the challenge nonce in force, the scope that the last successful challenge granted and the result the JTAG port shows. -/
structure Sec where
  attrs  : List (Nat × Nat)
  otp    : List Nat
  secret : Nat
  rng    : List Word
  warm   : Nat
  job    : Option SecJob
  kst    : Option KstJob
  nonce  : Option (List Byte)
  granted : Nat
  result : Nat
  deriving DecidableEq, Repr

/-- An alarm of the time base (08 R200 to R203). -/
structure Alarm where
  cmp    : Nat
  armed  : Bool
  late   : Bool
  pend   : Option Nat
  ticks  : Nat
  deriving DecidableEq, Repr

/-- A general timer beside its registers (08 R205 to R209): the active period and compares, and the fraction of a count. -/
structure Tmr where
  period : Nat
  cmps   : List Nat
  frac   : Nat
  deriving DecidableEq, Repr

/-- A low-power timer beside its registers (08 R211). -/
structure Lpt where
  period : Nat
  cmp    : Nat
  deriving DecidableEq, Repr

/-- A character of the link (11 R282): a control character K x.y, or a data character. -/
inductive LinkChar where
  | k (x y : Nat)
  | d (b : Byte)
  deriving DecidableEq, Repr

/-- A packet that a hop keeps until it is acknowledged (11 R287). -/
structure SentPacket where
  seq     : Nat
  ptype   : Nat
  pkt     : Packet
  retries : Nat
  waiting : Bool
  deriving DecidableEq, Repr

/-- One port of the cascade link (11 R279, R287, R298, R299): trained, training, the next hop sequence number, the packets kept until they
are acknowledged, the last numbers accepted, a PRBS-7 test in progress, the characters sent. -/
structure Hop where
  up       : Bool
  training : Bool
  nextSeq  : Nat
  kept     : List SentPacket
  accepted : List Nat
  prbs     : Bool
  line     : List LinkChar
  deriving DecidableEq, Repr

/-- A frame that arrives in FRAME packets at the master (11 R294). -/
structure InFrame where
  src   : Nat
  tag   : Nat
  bytes : List Byte
  head  : List Nat
  deriving DecidableEq, Repr

/-- A request this device has sent over the link and whose answer is due (11 R285, R293, R296); a lookup's names its frame by the unit and the
stamp. -/
structure Outstanding where
  tag   : Nat
  dst   : Nat
  unit  : Option (RxUnit × Nat)
  ini   : Option Initiator
  ptype : Nat
  part  : List Byte
  deriving DecidableEq, Repr

/-- The cascade link beside its registers (11): the ports, the next TAG, the TIME received, edges missing in a row, the forwarding queue
with its resend state, frames that arrive, first parts of messages, requests whose answer is due, VERDICTs in flight, whether this
device has sent FRESH, the strap, positions that join at the next marker (with whether a TIME has left since), reservations
held for requesters, and the fine ticks for which this device still pulls HVL_SYNC. -/
structure Hvl where
  up       : Hop
  dn       : Hop
  next     : Nat
  time     : Option Nat
  missing  : Nat
  fwdQ     : List Nat
  fwdTag   : Nat
  fwdSent  : Bool
  fwdWait  : Nat
  inbound  : List InFrame
  parts    : List (Nat × List Byte)
  waits    : List Outstanding
  verdicts : List Nat
  fresh    : Bool
  strap    : Nat
  joining  : List (Nat × Bool)
  rsv      : List (Nat × Nat × Nat)
  pull     : Nat
  deriving DecidableEq, Repr

/-- What opens a secured frame: the key slot, the nonce, the security level and the length of the header (10 R262; 12 R310). -/
structure MicPlan where
  slot   : Nat
  nonce  : List Nat
  level  : Nat
  hdrLen : Nat
  deriving DecidableEq, Repr

/-- A frame of the recorded descriptor whose verdict fell into the recording (22 R503): the time of its first sample, its PSDU as received and
the length of its FCS, its records as the verdict gave them, what opens it, the stage of the filter that it failed, the context of its
speculation until that ends, and whether the speculation squashed or committed. -/
structure RecFrame where
  start    : Nat
  bytes    : List Byte
  fcsLen   : Nat
  trail    : List Byte
  plan     : Option MicPlan
  stage    : Nat
  ctx      : Option Nat
  squashed : Bool
  acked    : Bool
  deriving DecidableEq, Repr

/-- The recorder beside its registers and its SRAM (22 R492 to R505): the next place in the control ring, whether the ring has wrapped, the
records it holds, the time of the trigger, whether it has stopped writing and scrubs, the replay queue of heads with their DROP_STAGE, and the
frames whose samples the recording holds, in the order of their verdicts. -/
structure Recorder where
  wr      : Nat
  wrapped : Bool
  nrec    : Nat
  trigAt  : Nat
  scrub   : Bool
  queue   : List (Nat × Nat)
  frames  : List RecFrame
  deriving DecidableEq, Repr

/-- A self-test (22 R482, R483): pending or running, and the unit's code. -/
structure BstRun where
  unit    : Nat
  running : Bool
  deriving DecidableEq, Repr

/-- The event fabric (17 R396 to R399): events raised and not yet sampled, events held by the base note domain's latches, triggers on
their way to task inputs, the fabric cycle, and the task and cycle of each recent trigger for the loop guard. -/
structure Fabric where
  raised  : List Nat
  held    : List Nat
  due     : List Nat
  cycle   : Nat
  history : List (Nat × Nat)
  deriving DecidableEq, Repr

/-- An item of the fault log (21 R481). -/
structure LogRec where
  word : Nat
  time : Nat
  deriving DecidableEq, Repr

/-- What the fault manager counts (21 R466): a unit's recent fault times. -/
structure FaultCount where
  unit  : Nat
  times : List Nat
  deriving DecidableEq, Repr

/-- The fault manager beside its registers (21): fault times per unit, the log, the last counted flash corrections, whether a
rewrite of the record runs or waits, which copy is being written, retries made per unit, units already counted in this fabric cycle, a reset asked for by a configuration fault, blocks a release walk left
out of the free list, memory words with a double-bit error, the record's SEQ in force, and the rewrites that a REWRITE command still
waits for. -/
structure Flt where
  counts   : List FaultCount
  log      : List LogRec
  corr     : List (Nat × Nat)
  running  : Bool
  waiting  : Bool
  retries  : List (Nat × Nat)
  cycle    : List (Nat × Nat)
  resetReq : Bool
  stuck    : List Nat
  badWords : List Nat
  seq      : Nat
  cmdWaits : Nat
  deriving DecidableEq, Repr

/-- A 32-byte line that a core's instruction cache holds (13 R322, R324). -/
structure CacheLine where
  core  : Core
  line  : Nat
  bytes : List Byte
  deriving DecidableEq, Repr

/-- An entry of a core's physical memory protection (13 R322, R323): its configuration (R 0, W 1, X 2, A [4:3], L 7) and its address in units of
four bytes; a core's entries stand in the order of their numbers. -/
structure PmpEntry where
  core : Core
  cfg  : Byte
  addr : Word
  deriving DecidableEq, Repr

/-- The cores beside the debug registers (13): which have been released, the lines of the instruction caches, the cores that are in user mode,
and the entries of their memory protection. -/
structure Cores where
  released : List Core
  cache    : List CacheLine
  user     : List Core
  pmp      : List PmpEntry
  deriving DecidableEq, Repr

/-- The interrupt controller beside its registers (13 R329, R330): claimed sources with the core that claimed each, and the words of the six
mailbox channels, oldest first. -/
structure Icu where
  claims : List (Nat × Core)
  mbox   : List (List Word)
  deriving DecidableEq, Repr

/-- The flash descriptor that is ACTIVE (14 R348 to R352): its slot, operation, address, units, source and submitter; its result once it is
known; units done; whether its erase has begun; whether it reads with margin; corrections; the bytes read so far. -/
structure FlashOp where
  slot   : Nat
  op     : Nat
  addr   : Nat
  units  : Nat
  src    : Nat
  ini    : Initiator
  result : Option Nat
  done   : Nat
  begun  : Bool
  margin : Bool
  weak   : Nat
  crc    : Nat
  deriving DecidableEq, Repr

/-- The flash controller beside its registers (14): the ring slot that the next submission tries first, QUEUED and DONE slots in order, who
submitted each slot, the ACTIVE descriptor, the stops asked for (by software, by a read, by an abort), whether MIN_RUN runs, and the
sectors, as bank × 64 + sector, whose contents are undefined, and the lines in the prefetch buffers. -/
structure Flash where
  next      : Nat
  queue     : List Nat
  doneQ     : List Nat
  who       : List Initiator
  op        : Option FlashOp
  wantSw    : Bool
  wantAuto  : Bool
  wantAbort : Bool
  minRun    : Bool
  undef     : List Nat
  prefetch  : List Nat
  deriving DecidableEq, Repr

/-- An entry of a serial port's transmit queue (15 R362). -/
structure SptEntry where
  word : Word
  len  : Nat
  cs   : Nat
  cont : Bool
  rxEn : Bool
  deriving DecidableEq, Repr

/-- What a serial port does on its lines as a master, piece by piece (15 R361, R362, R370, R371, R374): a select is asserted, with the SPI mode and the
least periods of SCK to the first edge; bits are sent on a number of data lines, of each clock edge the one on the highest-numbered line first; periods
of SCK with nothing sent; periods with every line high; bytes are received; a select is released, for at least some periods. -/
inductive SptItem where
  | select (cs mode css : Nat)
  | send (lines : Nat) (bits : List Bool)
  | dummy (periods : Nat)
  | high (lines periods : Nat)
  | recv (lines bytes : Nat)
  | release (cs csh : Nat)
  deriving DecidableEq, Repr

/-- A serial port beside its registers (15): the transmit queue, whether its head is in progress, the receive FIFO, the select held under
CONT, the last word sent with its length in bits, the write buffer with its first address, whether its flush is due or polls, whether
the exit sequence of R374 is due, the select line whose device is in continuous read, and what has been done on the lines. -/
structure Spt where
  queue   : List SptEntry
  busy    : Bool
  rx      : List Word
  held    : Option Nat
  last    : Word × Nat
  bufAt   : Nat
  buf     : List Byte
  due     : Bool
  polling : Bool
  exitDue : Bool
  contOn  : Option Nat
  sent    : List SptItem
  deriving DecidableEq, Repr

/-- A line buffer of SPT0 (15 R373). -/
structure PfLine where
  line  : Nat
  bytes : List Byte
  deriving DecidableEq, Repr

/-- SPT0's line buffers, least recently used first; the line being filled, with whether it is for an APC fetch and whether it has been
invalidated meanwhile; and the line to fetch next. -/
structure Prefetch where
  lines : List PfLine
  fill  : Option Nat
  fetch : Bool
  stale : Bool
  ahead : Option Nat
  deriving DecidableEq, Repr

/-- The host port beside its registers (16): the flag bits [20:12] collected for the next status word, COUNT, the writes still posted with the
late reads that wait behind them (none in place of a word), whether the first of these is on the bus, CRC_EN in force, the SPI mode, whether a
transaction is open, whether its select may still rise inside a slot, whether it has counted as an error, whether a word of it has failed, and
the status word being sent, and the words that the device has sent in the transaction, each with its CRC where CRC_EN is in force. -/
structure Hsp where
  flags  : Nat
  count  : Nat
  posted : List (Nat × Option Word)
  flying : Bool
  crcOn  : Bool
  mode3  : Bool
  isOpen : Bool
  mayCut : Bool
  erred  : Bool
  failed : Bool
  status : Word
  miso   : List (Word × Option Byte)
  deriving DecidableEq, Repr

/-- An engine with a code RAM (01 R18; 02 R38; 19 R441): whether it runs, which half of its code RAM is active, whether its image has
failed, whether its active half is being reloaded (21 R464), and DIGEST bytes 0 to 3 of the image in the active half and in the shadow
half (22 R500), and its state handover block (20 R453). -/
structure Eng where
  run    : Bool
  half   : Nat
  failed : Bool
  reload : Bool
  img    : Nat
  shadow : Nat
  block  : List Byte
  deriving DecidableEq, Repr

/-- The power states (18 R405). -/
inductive PowerState where
  | active | sleep | standby | dormant
  deriving DecidableEq, Repr

/-- The regulator requests of the power manager (18 R423, R424): none, VOUT_COMMAND or OPERATION 0x80 to be sent, each sent and polled, or
OPERATION 0x00 to be sent. -/
inductive RrpStep where
  | none | voutDue | voutSent | onDue | onSent | offDue
  deriving DecidableEq, Repr

/-- The power manager beside its registers (18): the state, the entry in progress with its target, wake sources that have arrived and
are not yet served, whether the radio domain is on, the radio banks that kept their contents when it went off, banks being cleared, whether HFXO has been requested, the regulator request in
progress with its resends left, whether a resend after a NACK is due, whether its resends are exhausted, whether it belongs to a
wake, the address to which OPERATION 0x00 goes after an entry, and the bytes that the port has sent as SMBus master, message by message. -/
structure Pwr where
  state    : PowerState
  entering : Option PowerState
  wakes    : List Nat
  radioUp  : Bool
  kept     : List Nat
  clearing : List Nat
  hfxoReq  : Bool
  rrp      : RrpStep
  rrpLeft  : Nat
  rrpNak   : Bool
  rrpDead  : Bool
  rrpWake  : Bool
  offAddr  : Byte
  smbus    : List (List Byte)
  deriving DecidableEq, Repr

/-- The update unit beside its registers (20): the number of the last journal record and the place of the next; COPIED and STARTS; the home
copy in progress, by type and sector; the parts whose copy failed; the cores whose handover is awaited; the engines that have changed
over, with their handover blocks; those that have accepted; the instants of the commit point and of the start of the window; whether the unit has
suspended the flash ring; whether it was prepared by COMMIT_AT; and the cause of a fallback that is due. -/
structure Upd where
  rseq      : Nat
  place     : Nat
  copied    : Nat
  starts    : Nat
  copy      : Option (Nat × Nat)
  badCopy   : Nat
  hands     : List Core
  swaps     : List Nat
  accepted  : List Nat
  committed : Nat
  window    : Option Nat
  held      : Bool
  byMaster  : Bool
  fall      : Option Nat
  deriving DecidableEq, Repr

/-- The boot ROM and the resets beside their registers (19): the boot seal, the cause of the chip start (0: a wake), whether the boot ROM
sequence is still to start, runs, or has ended, whether it makes the full check, the image types that have passed, domain restarts that
wait, the strap for a reset that waits for a flash safe point, whether the retirement record is to be rewritten after the boot, and the trims
loaded from the OTP copies. -/
structure Boot where
  bootSeal : Option (List Nat)
  cause    : Nat
  started  : Bool
  done     : Bool
  full     : Bool
  passed   : List Nat
  restarts : List Core
  strap    : Nat
  rewrite  : Bool
  trim     : Nat
  deriving DecidableEq, Repr

end Sys2Proof.Machine
end

