-- ==== Sys2Proof/Machine/Operands.lean ====
section
/-! DEFINITION. The operand forms of the commands (02 R40, R44): the size and the kind of a bus access, and a command word with some of its
bits given by the command. -/

namespace Sys2Proof.Machine

/-- The bytes of an access size. -/
def sizeBytes : AccessSize → Nat
  | .byte => 1 | .half => 2 | .word => 4

/-- Whether an access writes. -/
def isWrite (r : BusReq) : Bool :=
  match r.op with
  | .write _ => true
  | _ => false

/-- The address of the last byte of an access. -/
def lastByte (r : BusReq) : Nat := r.addr.toNat + sizeBytes r.size - 1

/-- An access that a page or a code-RAM window takes: a word access, aligned (02 R44). -/
def wordAccess (r : BusReq) : Bool := r.size == .word && r.addr.toNat % 4 == 0

/-- A word with some of its bits replaced. -/
def withBits (w : Word) (lo width v : Nat) : Word := BitVec.ofNat 32 (putBits w.toNat lo width v)

end Sys2Proof.Machine
end

