-- ==== Sys2Proof/Config.lean ====
section
/-! DEFINITION. What the specification leaves open: values that are fixed on a chip, or different each time, and that no rule
states. They are opaque constants, so nothing can be proved of their values. -/

namespace Sys2Proof

/-- Free values: the `n`-th value of the model's own counter that the specification leaves open (log entry 1). -/
opaque Config.freeWord : Nat → Word

/-- The key that wraps exported keys, as the boot ROM derives it from the OTP device secret; the specification does not state
the derivation (12 R308; log entry 7). -/
opaque Config.wrapKey : Nat → Nat

/-- The factory trim of the compensation tables, keyed by table × 256 + entry (04 R110; log entry 3). -/
opaque Config.factoryTrim : Nat → Half

/-- Which of two equal metrics the trellis decoder takes: at a step, in a state, and as the best of all states (07 R188; log entry 111). -/
opaque Config.decoderTie : Nat → Nat → Bool
opaque Config.decoderBest : Nat → Nat → Bool

/-- Whether the traceback of a final segment starts from state 0 or from the best metric (07 R189; log entry 111). -/
opaque Config.decoderFromZero : Bool

/-- The last quarter of a decibel of an SNR given as a ratio, and of a mean given as a sum and a count (07 R183; log entry 112). -/
opaque Config.snrOpen : Nat → Nat → Nat
opaque Config.snrMeanOpen : Int → Nat → Nat

/-- What IEEE 802.15.4-2020 defines of SUN-OFDM (07 R168; log entry 113): the STF and LTF symbols of an option, its PHR symbols by rate field,
length and seed, the scrambler's output by seed, a payload symbol by option, MCS, symbol number and coded bits, and the places of the
data subcarriers among the active ones. -/
opaque Config.sunStf : Nat → List (List Tone)
opaque Config.sunLtf : Nat → List (List Tone)
opaque Config.sunPhr : Nat → Nat → Nat → Nat → List (List Tone)
opaque Config.sunScramble : Nat → Nat → List Bool
opaque Config.sunSymbol : Nat → Nat → Nat → List Bool → List Tone
opaque Config.sunData : Nat → List Nat

/-- What IEEE 802.15.4-2020 defines of SUN O-QPSK (06 R153; log entry 113): the PHR by rate mode and length, and the bits sent for the coded
bits of a PSDU at a rate mode. -/
opaque Config.oqpskPhr : Nat → Nat → List Bool
opaque Config.oqpskSent : Nat → List Bool → List Bool

/-- What the debug specification gives the JTAG data registers of an instruction, at a moment (13 R332; log entry 120). -/
opaque Config.jtagOpen : Nat → Nat → Nat

/-- The bits of a value that an OTP write sets in a field that holds an old value: all of them, or an OTP write fails (12 R321; 20 R459; log
entry 124). -/
opaque Config.otpTakes : Nat → Nat → Nat → Nat

end Sys2Proof
end

