-- ==== Sys2Proof/Machine/Fields.lean ====
section
/-! DEFINITION. The names of the specification's pages, registers and register fields: `P.X` is a page's index (02 R36),
`Reg.P_R` a register's address, `F.P_R_X` the field X of register R of page P, with its lowest bit and its width as the
register's table gives them. An array's register takes its number, a page with instances its instance. -/

namespace Sys2Proof.Machine

/-- A field of a register: the register's address, the field's lowest bit and its width. -/
structure Field where
  addr  : Nat
  lo    : Nat
  width : Nat
  deriving DecidableEq, Repr

/-- The address of offset `off` of page `p` (02 R36). -/
def pageAddr (p off : Nat) : Nat := 0x40000000 + p * 0x1000 + off

namespace P

def SYS : Nat := 0x00
def PWR : Nat := 0x01
def CLK : Nat := 0x02
def RRP : Nat := 0x03
def WKP : Nat := 0x04
def TMB : Nat := 0x05
def TMR (t : Nat) : Nat := 0x06 + t
def LPT : Nat := 0x0A
def WDT : Nat := 0x0B
def EVF : Nat := 0x0C
def GPIO : Nat := 0x0D
def HSP : Nat := 0x0E
def SPT (t : Nat) : Nat := 0x0F + t
def FLC : Nat := 0x13
def SEC : Nat := 0x14
def KST : Nat := 0x15
def RFE : Nat := 0x16
def RTX : Nat := 0x17
def SYN : Nat := 0x18
def RAD : Nat := 0x19
def CHN : Nat := 0x1A
def NBD : Nat := 0x1B
def OFD : Nat := 0x1C
def FEC : Nat := 0x1D
def LNK : Nat := 0x1E
def FRM : Nat := 0x1F
def NBT : Nat := 0x20
def HVL : Nat := 0x21
def FLT : Nat := 0x22
def BST : Nat := 0x23
def REC : Nat := 0x24
def UPD : Nat := 0x25
def ICU : Nat := 0x26
def DBG : Nat := 0x27
def TSN : Nat := 0x28

end P

namespace Reg

def PAGE_ID (p : Nat) : Nat := 0x40000000 + p * 0x1000
def PAGE_CAPS (p : Nat) : Nat := 0x40000004 + p * 0x1000
def PAGE_CTRL (p : Nat) : Nat := 0x40000008 + p * 0x1000
def PAGE_STAT (p : Nat) : Nat := 0x4000000C + p * 0x1000
def IRQ_RAW (p : Nat) : Nat := 0x40000010 + p * 0x1000
def IRQ_EN (p : Nat) : Nat := 0x40000014 + p * 0x1000
def IRQ_PEND (p : Nat) : Nat := 0x40000018 + p * 0x1000
def IRQ_SET (p : Nat) : Nat := 0x4000001C + p * 0x1000
def EVT_PUB_EN (p : Nat) : Nat := 0x40000020 + p * 0x1000
def TASK_EN (p : Nat) : Nat := 0x40000024 + p * 0x1000
def TASK_FLAGS (p : Nat) : Nat := 0x40000028 + p * 0x1000
def PAGE_PWR_REQ (p : Nat) : Nat := 0x4000002C + p * 0x1000
def SEAL_CTRL (p : Nat) : Nat := 0x40000030 + p * 0x1000
def SEAL (p : Nat) : Nat := 0x40000034 + p * 0x1000
def SYS_CHIP_ID : Nat := 0x40000100
def RFE_CFG : Nat := 0x40016100
def RFE_AGC_CTRL : Nat := 0x40016104
def RFE_AGC_TIME : Nat := 0x40016108
def RFE_GAIN_STAT : Nat := 0x4001610C
def RFE_ADC_LEVEL : Nat := 0x40016110
def RFE_RSSI_OFS : Nat := 0x40016114
def RFE_WHIFF_CFG : Nat := 0x40016120
def RFE_WHIFF_MASK_LO : Nat := 0x40016124
def RFE_WHIFF_MASK_HI : Nat := 0x40016128
def RFE_WHIFF_STAT : Nat := 0x4001612C
def SYN_SCS_RATE : Nat := 0x40018100
def SYN_SCS_STAT : Nat := 0x40018104
def SYN_SCS_ACTIVE : Nat := 0x40018108
def SYN_SCS_UNLOCKS : Nat := 0x4001810C
def RTX_CFG : Nat := 0x40017100
def RTX_ANT_MAP : Nat := 0x40017104
def RTX_TX_STAT : Nat := 0x40017108
def RTX_PATH_STAT : Nat := 0x4001710C
def RTX_LOOP_OFS : Nat := 0x40017110
def RTX_COMP_IDX : Nat := 0x40017114
def RTX_COMP_DATA : Nat := 0x40017118
def RTX_SENSE : Nat := 0x4001711C
def RTX_VPA_CFG : Nat := 0x40017120
def RTX_PWR_SLOT (n : Nat) : Nat := 0x40017140 + n * 4
def SYN_CRS_STAT : Nat := 0x40018140
def SYN_CRS_FREQ : Nat := 0x40018144
def SYN_CRS_OFS : Nat := 0x40018148
def SYN_CRS_UNLOCKS : Nat := 0x4001814C
def SYN_CRS_TPM : Nat := 0x40018150
def TSN_CFG : Nat := 0x40028100
def TSN_CTRL : Nat := 0x40028104
def TSN_SAMPLE : Nat := 0x40028108
def TSN_LIVE : Nat := 0x4002810C
def TSN_STAT : Nat := 0x40028110
def RAD_CMD : Nat := 0x40019100
def RAD_CMD_ARG : Nat := 0x40019104
def RAD_CMD_AT_LO : Nat := 0x40019108
def RAD_CMD_AT_HI : Nat := 0x4001910C
def RAD_RX_MASK_LO : Nat := 0x40019110
def RAD_RX_MASK_HI : Nat := 0x40019114
def RAD_CMD_STAT : Nat := 0x40019118
def RAD_STATE : Nat := 0x4001911C
def RAD_CAL_CFG : Nat := 0x40019120
def RAD_CAL_STAT : Nat := 0x40019124
def RAD_COUNTS : Nat := 0x40019128
def CHN_DESC_FREQ (n : Nat) : Nat := 0x4001A800 + n * 32
def CHN_DESC_MODE (n : Nat) : Nat := 0x4001A804 + n * 32
def CHN_DESC_SYNC (n : Nat) : Nat := 0x4001A808 + n * 32
def CHN_DESC_SYNC_CFG (n : Nat) : Nat := 0x4001A80C + n * 32
def CHN_DESC_RATE (n : Nat) : Nat := 0x4001A810 + n * 32
def CHN_DESC_DEV (n : Nat) : Nat := 0x4001A814 + n * 32
def CHN_DESC_CCA (n : Nat) : Nat := 0x4001A818 + n * 32
def CHN_DESC_AUX (n : Nat) : Nat := 0x4001A81C + n * 32
def CHN_DESC_ERR : Nat := 0x4001A100
def CHN_INUSE_LO : Nat := 0x4001A104
def CHN_INUSE_HI : Nat := 0x4001A108
def CHN_DESC_CFG_LO : Nat := 0x4001A10C
def CHN_DESC_CFG_HI : Nat := 0x4001A110
def CHN_STREAM (n : Nat) : Nat := 0x4001A140 + n * 4
def NBD_CAPTURE : Nat := 0x4001B100
def NBD_STATS : Nat := 0x4001B104
def NBD_LOSS : Nat := 0x4001B108
def NBD_LAST_LOSS : Nat := 0x4001B10C
def NBD_SLICE (n : Nat) : Nat := 0x4001B140 + n * 4
def OFD_CFG : Nat := 0x4001C100
def OFD_STATS : Nat := 0x4001C104
def OFD_LOSS : Nat := 0x4001C108
def OFD_LAST_LOSS : Nat := 0x4001C10C
def OFD_TX_PROF : Nat := 0x4001C110
def OFD_LANE (n : Nat) : Nat := 0x4001C140 + n * 4
def FEC_STATS : Nat := 0x4001D100
def FEC_WAIT : Nat := 0x4001D104
def FEC_ACTIVE : Nat := 0x4001D108
def TMB_NOW_LO : Nat := 0x40005100
def TMB_NOW_HI : Nat := 0x40005104
def TMB_NOW_HI_SNAP : Nat := 0x40005108
def TMB_STAT : Nat := 0x4000510C
def TMB_ALARM_EN : Nat := 0x40005110
def TMB_ALARM_STAT : Nat := 0x40005114
def TMB_ALARM_LO (n : Nat) : Nat := 0x40005140 + n * 8
def TMB_ALARM_HI (n : Nat) : Nat := 0x40005144 + n * 8
def TMR_CFG (t : Nat) : Nat := 0x40006100 + t * 0x1000
def TMR_CMD (t : Nat) : Nat := 0x40006104 + t * 0x1000
def TMR_PERIOD (t : Nat) : Nat := 0x40006108 + t * 0x1000
def TMR_COUNT (t : Nat) : Nat := 0x4000610C + t * 0x1000
def TMR_CMP (t n : Nat) : Nat := 0x40006110 + t * 0x1000 + n * 4
def LPT_CTRL : Nat := 0x4000A100
def LPT_STAT : Nat := 0x4000A104
def LPT_T_PERIOD (n : Nat) : Nat := 0x4000A110 + n * 16
def LPT_T_CMP (n : Nat) : Nat := 0x4000A114 + n * 16
def LPT_T_COUNT (n : Nat) : Nat := 0x4000A118 + n * 16
def WDT_CFG : Nat := 0x4000B100
def WDT_LOAD : Nat := 0x4000B104
def WDT_WINDOW : Nat := 0x4000B108
def WDT_PREWARN : Nat := 0x4000B10C
def WDT_FEED : Nat := 0x4000B110
def WDT_COUNT : Nat := 0x4000B114
def WDT_STAT : Nat := 0x4000B118
def LNK_CFG : Nat := 0x4001E100
def LNK_ENT_SEL : Nat := 0x4001E104
def LNK_ENT_CMD : Nat := 0x4001E108
def LNK_ENT_RES : Nat := 0x4001E10C
def LNK_DONE : Nat := 0x4001E110
def LNK_DONE_T : Nat := 0x4001E114
def LNK_STAT : Nat := 0x4001E118
def LNK_ACK_CFG : Nat := 0x4001E11C
def LNK_CSL_CFG : Nat := 0x4001E120
def LNK_CCA_STAT : Nat := 0x4001E124
def LNK_SPEC_STAT : Nat := 0x4001E128
def LNK_ARB_STAT : Nat := 0x4001E12C
def LNK_SPEC_LOSS : Nat := 0x4001E130
def LNK_ENT_W (n : Nat) : Nat := 0x4001E140 + n * 4
def LNK_ACK_IE (n : Nat) : Nat := 0x4001E160 + n * 4
def LNK_ACK_IFS (n : Nat) : Nat := 0x4001E180 + n * 4
def LNK_LE_CTX (n : Nat) : Nat := 0x4001E1C0 + n * 4
def FRM_CFG : Nat := 0x4001F100
def FRM_TYPES : Nat := 0x4001F104
def FRM_EXT_ADDR_LO : Nat := 0x4001F108
def FRM_EXT_ADDR_HI : Nat := 0x4001F10C
def FRM_PAN (n : Nat) : Nat := 0x4001F110 + n * 4
def FRM_PAN_CFG : Nat := 0x4001F120
def FRM_ALLOC : Nat := 0x4001F124
def FRM_RELEASE : Nat := 0x4001F128
def FRM_RXQ : Nat := 0x4001F12C
def FRM_POOL : Nat := 0x4001F130
def FRM_DROP0 : Nat := 0x4001F134
def FRM_DROP1 : Nat := 0x4001F138
def FRM_DROP2 : Nat := 0x4001F13C
def FRM_VIOL : Nat := 0x4001F140
def NBT_CFG : Nat := 0x40020100
def NBT_CMD : Nat := 0x40020104
def NBT_INDEX : Nat := 0x40020108
def NBT_RES : Nat := 0x4002010C
def NBT_HASH : Nat := 0x40020110
def NBT_COUNT : Nat := 0x40020114
def NBT_STATS : Nat := 0x40020118
def NBT_DATA (n : Nat) : Nat := 0x40020140 + n * 4
def HVL_CFG : Nat := 0x40021100
def HVL_STAT : Nat := 0x40021104
def HVL_MEMBERS : Nat := 0x40021108
def HVL_LANE_RET : Nat := 0x4002110C
def HVL_ERRS : Nat := 0x40021110
def HVL_LAT : Nat := 0x40021114
def HVL_FWD_STAT : Nat := 0x40021118
def HVL_SYNC : Nat := 0x4002111C
def SEC_CFG : Nat := 0x40014100
def SEC_JOB_CMD : Nat := 0x40014104
def SEC_JOB_SRC : Nat := 0x40014108
def SEC_JOB_DST : Nat := 0x4001410C
def SEC_JOB_LEN : Nat := 0x40014110
def SEC_JOB_STAT : Nat := 0x40014114
def SEC_RNG : Nat := 0x40014118
def SEC_RNG_STAT : Nat := 0x4001411C
def SEC_STATS : Nat := 0x40014120
def SEC_AUTH_STAT : Nat := 0x40014124
def KST_CMD : Nat := 0x40015100
def KST_ATTR : Nat := 0x40015104
def KST_STAT : Nat := 0x40015108
def KST_DATA (n : Nat) : Nat := 0x40015140 + n * 4
def ICU_CLAIM : Nat := 0x40026100
def ICU_COMPLETE : Nat := 0x40026104
def ICU_THRESHOLD : Nat := 0x40026108
def ICU_CACHE_INV : Nat := 0x4002610C
def ICU_MBOX_STAT : Nat := 0x40026110
def ICU_MBOX_TX (n : Nat) : Nat := 0x40026140 + n * 4
def ICU_MBOX_RX (n : Nat) : Nat := 0x40026160 + n * 4
def ICU_SRC (n : Nat) : Nat := 0x40026200 + n * 4
def DBG_CFG : Nat := 0x40027100
def DBG_STAT : Nat := 0x40027104
def FLC_CFG : Nat := 0x40013100
def FLC_CTRL : Nat := 0x40013104
def FLC_STAT : Nat := 0x40013108
def FLC_WAIT : Nat := 0x4001310C
def FLC_MARGIN : Nat := 0x40013110
def FLC_PROT0 : Nat := 0x40013114
def FLC_PROT1 : Nat := 0x40013118
def FLC_ILOG : Nat := 0x4001311C
def FLC_D_CMD : Nat := 0x40013140
def FLC_D_ADDR : Nat := 0x40013144
def FLC_D_SRC : Nat := 0x40013148
def FLC_SUBMIT : Nat := 0x4001314C
def FLC_DONE : Nat := 0x40013150
def FLC_DONE_ADDR : Nat := 0x40013154
def FLC_DONE_DATA : Nat := 0x40013158
def FLC_SLOT_CMD (n : Nat) : Nat := 0x40013400 + n * 16
def FLC_SLOT_ADDR (n : Nat) : Nat := 0x40013404 + n * 16
def FLC_SLOT_SRC (n : Nat) : Nat := 0x40013408 + n * 16
def FLC_SLOT_STATUS (n : Nat) : Nat := 0x4001340C + n * 16
def SPT_CFG (t : Nat) : Nat := 0x4000F100 + t * 0x1000
def SPT_CTRL (t : Nat) : Nat := 0x4000F104 + t * 0x1000
def SPT_STAT (t : Nat) : Nat := 0x4000F108 + t * 0x1000
def SPT_QCTL (t : Nat) : Nat := 0x4000F10C + t * 0x1000
def SPT_QTX (t : Nat) : Nat := 0x4000F110 + t * 0x1000
def SPT_QRX (t : Nat) : Nat := 0x4000F114 + t * 0x1000
def SPT_WIN_CFG (t : Nat) : Nat := 0x4000F118 + t * 0x1000
def SPT_WIN_CMD (t : Nat) : Nat := 0x4000F11C + t * 0x1000
def SPT_WIN_POLL (t : Nat) : Nat := 0x4000F120 + t * 0x1000
def SPT_WIN_STAT (t : Nat) : Nat := 0x4000F124 + t * 0x1000
def HSP_CFG : Nat := 0x4000E100
def HSP_IRQ_SEL_LO : Nat := 0x4000E104
def HSP_IRQ_SEL_HI : Nat := 0x4000E108
def HSP_DB_SET : Nat := 0x4000E10C
def HSP_DOORBELL : Nat := 0x4000E110
def HSP_LAST_STAT : Nat := 0x4000E114
def HSP_ERR_ADDR : Nat := 0x4000E118
def HSP_LATE_DATA : Nat := 0x4000E11C
def HSP_LATE_ADDR : Nat := 0x4000E120
def HSP_COUNTS : Nat := 0x4000E124
def EVF_CFG : Nat := 0x4000C100
def EVF_NATIVE_EN : Nat := 0x4000C104
def EVF_SW_TRIG : Nat := 0x4000C108
def EVF_TASK_TRIG : Nat := 0x4000C10C
def EVF_IRQ_TASK : Nat := 0x4000C110
def EVF_LOOP_LAST : Nat := 0x4000C114
def EVF_DROPS : Nat := 0x4000C118
def EVF_PIN_EVT (n : Nat) : Nat := 0x4000C140 + n * 4
def EVF_PIN_TASK (n : Nat) : Nat := 0x4000C160 + n * 4
def EVF_CH_PUB (n : Nat) : Nat := 0x4000C200 + n * 8
def EVF_CH_SUB (n : Nat) : Nat := 0x4000C204 + n * 8
def PWR_REQ : Nat := 0x40001100
def PWR_STAT : Nat := 0x40001104
def PWR_WAKE_LAST : Nat := 0x40001108
def PWR_OP : Nat := 0x4000110C
def PWR_CFG : Nat := 0x40001110
def PWR_RET_LO : Nat := 0x40001114
def PWR_RET_HI : Nat := 0x40001118
def PWR_DOM : Nat := 0x4000111C
def PWR_RETW (n : Nat) : Nat := 0x40001140 + n * 4
def CLK_CFG : Nat := 0x40002100
def CLK_STAT : Nat := 0x40002104
def CLK_SYS_KHZ : Nat := 0x40002108
def RRP_CFG : Nat := 0x40003100
def RRP_VOUT01 : Nat := 0x40003104
def RRP_VOUT2 : Nat := 0x40003108
def RRP_STAT : Nat := 0x4000310C
def RRP_COUNTS : Nat := 0x40003110
def WKP_CFG : Nat := 0x40004100
def WKP_PENDING : Nat := 0x40004104
def WKP_PIN (n : Nat) : Nat := 0x40004140 + n * 4
def SYS_RST_CAUSE : Nat := 0x40000104
def SYS_BOOT_STAT : Nat := 0x40000108
def SYS_RESET_CTRL : Nat := 0x4000010C
def SYS_UID_LO : Nat := 0x40000110
def SYS_UID_HI : Nat := 0x40000114
def UPD_CFG : Nat := 0x40025100
def UPD_CMD : Nat := 0x40025104
def UPD_AT_LO : Nat := 0x40025108
def UPD_AT_HI : Nat := 0x4002510C
def UPD_STAT : Nat := 0x40025110
def UPD_PARTS : Nat := 0x40025114
def UPD_CONFIRM : Nat := 0x40025118
def UPD_HANDOVER : Nat := 0x4002511C
def UPD_WINDOW : Nat := 0x40025120
def FLT_CFG : Nat := 0x40022100
def FLT_SEAL_INT : Nat := 0x40022104
def FLT_STAT : Nat := 0x40022108
def FLT_LOG : Nat := 0x4002210C
def FLT_LOG_T : Nat := 0x40022110
def FLT_CMD : Nat := 0x40022114
def FLT_RES : Nat := 0x40022118
def FLT_RET_UNITS : Nat := 0x40022120
def FLT_RET_FLASH (n : Nat) : Nat := 0x40022128 + n * 4
def FLT_RET_SRAM (n : Nat) : Nat := 0x40022138 + n * 4
def FLT_PEND_SRAM (n : Nat) : Nat := 0x40022140 + n * 4
def BST_CMD : Nat := 0x40023100
def BST_RES : Nat := 0x40023104
def BST_SIG : Nat := 0x40023108
def BST_FAIL_ADDR : Nat := 0x4002310C
def REC_CFG : Nat := 0x40024100
def REC_TRIG_EN : Nat := 0x40024104
def REC_CTRL : Nat := 0x40024108
def REC_STAT : Nat := 0x4002410C
def REC_MARK : Nat := 0x40024110
def REC_RPQ : Nat := 0x40024114
def GPIO_IN : Nat := 0x4000D100
def GPIO_OUT : Nat := 0x4000D104
def GPIO_INT_FLAG : Nat := 0x4000D108
def GPIO_PIN (n : Nat) : Nat := 0x4000D140 + n * 4

end Reg

namespace F

def PAGE_ID_BLOCK (p : Nat) : Field := ⟨Reg.PAGE_ID p, 16, 16⟩
def PAGE_ID_INSTANCE (p : Nat) : Field := ⟨Reg.PAGE_ID p, 8, 8⟩
def PAGE_ID_REVISION (p : Nat) : Field := ⟨Reg.PAGE_ID p, 0, 8⟩
def PAGE_CAPS_CAPS (p : Nat) : Field := ⟨Reg.PAGE_CAPS p, 0, 32⟩
def PAGE_CTRL_LOCK (p : Nat) : Field := ⟨Reg.PAGE_CTRL p, 2, 1⟩
def PAGE_CTRL_SOFT_RESET (p : Nat) : Field := ⟨Reg.PAGE_CTRL p, 1, 1⟩
def PAGE_CTRL_ENABLE (p : Nat) : Field := ⟨Reg.PAGE_CTRL p, 0, 1⟩
def PAGE_STAT_SEAL_DIRTY (p : Nat) : Field := ⟨Reg.PAGE_STAT p, 9, 1⟩
def PAGE_STAT_LOCKED (p : Nat) : Field := ⟨Reg.PAGE_STAT p, 8, 1⟩
def PAGE_STAT_STATE (p : Nat) : Field := ⟨Reg.PAGE_STAT p, 4, 4⟩
def PAGE_STAT_UNDER_TEST (p : Nat) : Field := ⟨Reg.PAGE_STAT p, 3, 1⟩
def PAGE_STAT_RETIRED (p : Nat) : Field := ⟨Reg.PAGE_STAT p, 2, 1⟩
def PAGE_STAT_READY (p : Nat) : Field := ⟨Reg.PAGE_STAT p, 1, 1⟩
def PAGE_STAT_BUSY (p : Nat) : Field := ⟨Reg.PAGE_STAT p, 0, 1⟩
def IRQ_RAW_LOCK_VIOL (p : Nat) : Field := ⟨Reg.IRQ_RAW p, 31, 1⟩
def IRQ_RAW_SEAL_MISMATCH (p : Nat) : Field := ⟨Reg.IRQ_RAW p, 30, 1⟩
def IRQ_RAW_FLAGS (p : Nat) : Field := ⟨Reg.IRQ_RAW p, 0, 30⟩
def IRQ_EN_EN (p : Nat) : Field := ⟨Reg.IRQ_EN p, 0, 32⟩
def IRQ_PEND_PEND (p : Nat) : Field := ⟨Reg.IRQ_PEND p, 0, 32⟩
def IRQ_SET_SET (p : Nat) : Field := ⟨Reg.IRQ_SET p, 0, 32⟩
def EVT_PUB_EN_PUB (p : Nat) : Field := ⟨Reg.EVT_PUB_EN p, 0, 32⟩
def TASK_EN_EN (p : Nat) : Field := ⟨Reg.TASK_EN p, 0, 8⟩
def TASK_FLAGS_LOOP (p : Nat) : Field := ⟨Reg.TASK_FLAGS p, 16, 8⟩
def TASK_FLAGS_COINCIDENT (p : Nat) : Field := ⟨Reg.TASK_FLAGS p, 8, 8⟩
def TASK_FLAGS_OVERRUN (p : Nat) : Field := ⟨Reg.TASK_FLAGS p, 0, 8⟩
def PAGE_PWR_REQ_PWR_ON (p : Nat) : Field := ⟨Reg.PAGE_PWR_REQ p, 17, 1⟩
def PAGE_PWR_REQ_CLK_ON (p : Nat) : Field := ⟨Reg.PAGE_PWR_REQ p, 16, 1⟩
def PAGE_PWR_REQ_PWR_HOLD (p : Nat) : Field := ⟨Reg.PAGE_PWR_REQ p, 1, 1⟩
def PAGE_PWR_REQ_CLK_HOLD (p : Nat) : Field := ⟨Reg.PAGE_PWR_REQ p, 0, 1⟩
def SEAL_CTRL_REF_VALID (p : Nat) : Field := ⟨Reg.SEAL_CTRL p, 5, 1⟩
def SEAL_CTRL_CHECK_EN (p : Nat) : Field := ⟨Reg.SEAL_CTRL p, 4, 1⟩
def SEAL_CTRL_LATCH_REF (p : Nat) : Field := ⟨Reg.SEAL_CTRL p, 3, 1⟩
def SEAL_CTRL_PERIODIC (p : Nat) : Field := ⟨Reg.SEAL_CTRL p, 2, 1⟩
def SEAL_CTRL_DONE (p : Nat) : Field := ⟨Reg.SEAL_CTRL p, 1, 1⟩
def SEAL_CTRL_COMPUTE (p : Nat) : Field := ⟨Reg.SEAL_CTRL p, 0, 1⟩
def SEAL_CRC (p : Nat) : Field := ⟨Reg.SEAL p, 0, 32⟩
def SYS_CHIP_ID_PART : Field := ⟨Reg.SYS_CHIP_ID, 16, 16⟩
def SYS_CHIP_ID_REV : Field := ⟨Reg.SYS_CHIP_ID, 8, 8⟩
def SYS_CHIP_ID_PKG : Field := ⟨Reg.SYS_CHIP_ID, 0, 8⟩
def RFE_CFG_ZONE_ACTIVE : Field := ⟨Reg.RFE_CFG, 24, 5⟩
def RFE_CFG_INVERT : Field := ⟨Reg.RFE_CFG, 16, 1⟩
def RFE_CFG_ZONE : Field := ⟨Reg.RFE_CFG, 8, 5⟩
def RFE_CFG_INPUT : Field := ⟨Reg.RFE_CFG, 0, 1⟩
def RFE_AGC_CTRL_LO_THR : Field := ⟨Reg.RFE_AGC_CTRL, 24, 5⟩
def RFE_AGC_CTRL_HI_THR : Field := ⟨Reg.RFE_AGC_CTRL, 16, 4⟩
def RFE_AGC_CTRL_MAN_GAIN : Field := ⟨Reg.RFE_AGC_CTRL, 8, 5⟩
def RFE_AGC_CTRL_MODE : Field := ⟨Reg.RFE_AGC_CTRL, 0, 2⟩
def RFE_AGC_TIME_ATTACK_MAX : Field := ⟨Reg.RFE_AGC_TIME, 16, 4⟩
def RFE_AGC_TIME_HOLD : Field := ⟨Reg.RFE_AGC_TIME, 8, 8⟩
def RFE_AGC_TIME_WIN : Field := ⟨Reg.RFE_AGC_TIME, 0, 4⟩
def RFE_GAIN_STAT_CHANGES : Field := ⟨Reg.RFE_GAIN_STAT, 16, 16⟩
def RFE_GAIN_STAT_CLIP : Field := ⟨Reg.RFE_GAIN_STAT, 8, 1⟩
def RFE_GAIN_STAT_GAIN_IDX : Field := ⟨Reg.RFE_GAIN_STAT, 0, 5⟩
def RFE_ADC_LEVEL_RMS : Field := ⟨Reg.RFE_ADC_LEVEL, 16, 10⟩
def RFE_ADC_LEVEL_PEAK : Field := ⟨Reg.RFE_ADC_LEVEL, 0, 10⟩
def RFE_RSSI_OFS_OFS_24 : Field := ⟨Reg.RFE_RSSI_OFS, 8, 8⟩
def RFE_RSSI_OFS_OFS_SG : Field := ⟨Reg.RFE_RSSI_OFS, 0, 8⟩
def RFE_WHIFF_CFG_CORR_THR : Field := ⟨Reg.RFE_WHIFF_CFG, 16, 8⟩
def RFE_WHIFF_CFG_WHIFF_GAIN : Field := ⟨Reg.RFE_WHIFF_CFG, 8, 5⟩
def RFE_WHIFF_CFG_GAIN_SRC : Field := ⟨Reg.RFE_WHIFF_CFG, 0, 1⟩
def RFE_WHIFF_MASK_LO_DESC_LO : Field := ⟨Reg.RFE_WHIFF_MASK_LO, 0, 32⟩
def RFE_WHIFF_MASK_HI_DESC_HI : Field := ⟨Reg.RFE_WHIFF_MASK_HI, 0, 32⟩
def RFE_WHIFF_STAT_HEAD : Field := ⟨Reg.RFE_WHIFF_STAT, 16, 9⟩
def RFE_WHIFF_STAT_HITS : Field := ⟨Reg.RFE_WHIFF_STAT, 8, 8⟩
def RFE_WHIFF_STAT_CLIP : Field := ⟨Reg.RFE_WHIFF_STAT, 2, 1⟩
def RFE_WHIFF_STAT_NOBUF : Field := ⟨Reg.RFE_WHIFF_STAT, 1, 1⟩
def RFE_WHIFF_STAT_VALID : Field := ⟨Reg.RFE_WHIFF_STAT, 0, 1⟩
def SYN_SCS_RATE_RATE_KHZ : Field := ⟨Reg.SYN_SCS_RATE, 0, 18⟩
def SYN_SCS_STAT_FORCED_24 : Field := ⟨Reg.SYN_SCS_STAT, 3, 1⟩
def SYN_SCS_STAT_SETTLING : Field := ⟨Reg.SYN_SCS_STAT, 2, 1⟩
def SYN_SCS_STAT_PENDING : Field := ⟨Reg.SYN_SCS_STAT, 1, 1⟩
def SYN_SCS_STAT_LOCK : Field := ⟨Reg.SYN_SCS_STAT, 0, 1⟩
def SYN_SCS_ACTIVE_RATE_KHZ : Field := ⟨Reg.SYN_SCS_ACTIVE, 0, 18⟩
def SYN_SCS_UNLOCKS_COUNT : Field := ⟨Reg.SYN_SCS_UNLOCKS, 0, 16⟩
def RTX_CFG_ACK_SLOT : Field := ⟨Reg.RTX_CFG, 4, 4⟩
def RTX_CFG_COMP : Field := ⟨Reg.RTX_CFG, 0, 2⟩
def RTX_ANT_MAP_TX_HP : Field := ⟨Reg.RTX_ANT_MAP, 20, 3⟩
def RTX_ANT_MAP_TX_SG : Field := ⟨Reg.RTX_ANT_MAP, 16, 3⟩
def RTX_ANT_MAP_TX_24 : Field := ⟨Reg.RTX_ANT_MAP, 12, 3⟩
def RTX_ANT_MAP_RX_24 : Field := ⟨Reg.RTX_ANT_MAP, 8, 3⟩
def RTX_ANT_MAP_RX_SG : Field := ⟨Reg.RTX_ANT_MAP, 4, 3⟩
def RTX_ANT_MAP_IDLE : Field := ⟨Reg.RTX_ANT_MAP, 0, 3⟩
def RTX_TX_STAT_VPA_LOW : Field := ⟨Reg.RTX_TX_STAT, 19, 1⟩
def RTX_TX_STAT_ILIM : Field := ⟨Reg.RTX_TX_STAT, 18, 1⟩
def RTX_TX_STAT_UNDERRUN : Field := ⟨Reg.RTX_TX_STAT, 17, 1⟩
def RTX_TX_STAT_CLAMPED : Field := ⟨Reg.RTX_TX_STAT, 16, 1⟩
def RTX_TX_STAT_PATH : Field := ⟨Reg.RTX_TX_STAT, 8, 2⟩
def RTX_TX_STAT_APPLIED : Field := ⟨Reg.RTX_TX_STAT, 0, 8⟩
def RTX_PATH_STAT_RET_HP : Field := ⟨Reg.RTX_PATH_STAT, 2, 1⟩
def RTX_PATH_STAT_RET_SG : Field := ⟨Reg.RTX_PATH_STAT, 1, 1⟩
def RTX_PATH_STAT_RET_24 : Field := ⟨Reg.RTX_PATH_STAT, 0, 1⟩
def RTX_LOOP_OFS_OFS_HP : Field := ⟨Reg.RTX_LOOP_OFS, 16, 8⟩
def RTX_LOOP_OFS_OFS_SG : Field := ⟨Reg.RTX_LOOP_OFS, 8, 8⟩
def RTX_LOOP_OFS_OFS_24 : Field := ⟨Reg.RTX_LOOP_OFS, 0, 8⟩
def RTX_COMP_IDX_TABLE : Field := ⟨Reg.RTX_COMP_IDX, 8, 3⟩
def RTX_COMP_IDX_ENTRY : Field := ⟨Reg.RTX_COMP_IDX, 0, 8⟩
def RTX_COMP_DATA_DATA : Field := ⟨Reg.RTX_COMP_DATA, 0, 16⟩
def RTX_SENSE_TEMP : Field := ⟨Reg.RTX_SENSE, 24, 8⟩
def RTX_SENSE_VPA : Field := ⟨Reg.RTX_SENSE, 12, 12⟩
def RTX_SENSE_VBAT : Field := ⟨Reg.RTX_SENSE, 0, 12⟩
def RTX_VPA_CFG_HP_VPA_MIN : Field := ⟨Reg.RTX_VPA_CFG, 0, 12⟩
def RTX_PWR_SLOT_PATH (n : Nat) : Field := ⟨Reg.RTX_PWR_SLOT n, 8, 2⟩
def RTX_PWR_SLOT_TARGET (n : Nat) : Field := ⟨Reg.RTX_PWR_SLOT n, 0, 8⟩
def SYN_CRS_STAT_SRC : Field := ⟨Reg.SYN_CRS_STAT, 4, 2⟩
def SYN_CRS_STAT_DEFERRED : Field := ⟨Reg.SYN_CRS_STAT, 3, 1⟩
def SYN_CRS_STAT_RESERVED : Field := ⟨Reg.SYN_CRS_STAT, 2, 1⟩
def SYN_CRS_STAT_SETTLING : Field := ⟨Reg.SYN_CRS_STAT, 1, 1⟩
def SYN_CRS_STAT_LOCK : Field := ⟨Reg.SYN_CRS_STAT, 0, 1⟩
def SYN_CRS_FREQ_FREQ_HZ : Field := ⟨Reg.SYN_CRS_FREQ, 0, 32⟩
def SYN_CRS_OFS_OFS_HZ : Field := ⟨Reg.SYN_CRS_OFS, 0, 18⟩
def SYN_CRS_UNLOCKS_COUNT : Field := ⟨Reg.SYN_CRS_UNLOCKS, 0, 16⟩
def SYN_CRS_TPM_DEV_ERR : Field := ⟨Reg.SYN_CRS_TPM, 16, 8⟩
def SYN_CRS_TPM_HP_GAIN : Field := ⟨Reg.SYN_CRS_TPM, 0, 16⟩
def TSN_CFG_TEMP_HI : Field := ⟨Reg.TSN_CFG, 24, 8⟩
def TSN_CFG_VBAT_LOW : Field := ⟨Reg.TSN_CFG, 0, 12⟩
def TSN_CTRL_SAMPLE : Field := ⟨Reg.TSN_CTRL, 0, 1⟩
def TSN_SAMPLE_TEMP : Field := ⟨Reg.TSN_SAMPLE, 24, 8⟩
def TSN_SAMPLE_VPA : Field := ⟨Reg.TSN_SAMPLE, 12, 12⟩
def TSN_SAMPLE_VBAT : Field := ⟨Reg.TSN_SAMPLE, 0, 12⟩
def TSN_LIVE_TEMP : Field := ⟨Reg.TSN_LIVE, 24, 8⟩
def TSN_LIVE_VPA : Field := ⟨Reg.TSN_LIVE, 12, 12⟩
def TSN_LIVE_VBAT : Field := ⟨Reg.TSN_LIVE, 0, 12⟩
def TSN_STAT_TEMP_HI : Field := ⟨Reg.TSN_STAT, 1, 1⟩
def TSN_STAT_VBAT_LOW : Field := ⟨Reg.TSN_STAT, 0, 1⟩
def RAD_CMD_TAG : Field := ⟨Reg.RAD_CMD, 24, 8⟩
def RAD_CMD_PWR_SLOT : Field := ⟨Reg.RAD_CMD, 16, 4⟩
def RAD_CMD_DESC : Field := ⟨Reg.RAD_CMD, 8, 6⟩
def RAD_CMD_TIMED : Field := ⟨Reg.RAD_CMD, 6, 1⟩
def RAD_CMD_EXIT_STATE : Field := ⟨Reg.RAD_CMD, 4, 2⟩
def RAD_CMD_OPCODE : Field := ⟨Reg.RAD_CMD, 0, 4⟩
def RAD_CMD_ARG_ARG : Field := ⟨Reg.RAD_CMD_ARG, 0, 9⟩
def RAD_CMD_AT_LO_AT_LO : Field := ⟨Reg.RAD_CMD_AT_LO, 0, 32⟩
def RAD_CMD_AT_HI_AT_HI : Field := ⟨Reg.RAD_CMD_AT_HI, 0, 16⟩
def RAD_RX_MASK_LO_DESC_LO : Field := ⟨Reg.RAD_RX_MASK_LO, 0, 32⟩
def RAD_RX_MASK_HI_DESC_HI : Field := ⟨Reg.RAD_RX_MASK_HI, 0, 32⟩
def RAD_CMD_STAT_TAG : Field := ⟨Reg.RAD_CMD_STAT, 24, 8⟩
def RAD_CMD_STAT_Q_OCC : Field := ⟨Reg.RAD_CMD_STAT, 12, 1⟩
def RAD_CMD_STAT_OPCODE : Field := ⟨Reg.RAD_CMD_STAT, 8, 4⟩
def RAD_CMD_STAT_SLIP : Field := ⟨Reg.RAD_CMD_STAT, 7, 1⟩
def RAD_CMD_STAT_CCA_BUSY : Field := ⟨Reg.RAD_CMD_STAT, 6, 1⟩
def RAD_CMD_STAT_ARG_ERR : Field := ⟨Reg.RAD_CMD_STAT, 5, 1⟩
def RAD_CMD_STAT_FINAL : Field := ⟨Reg.RAD_CMD_STAT, 4, 1⟩
def RAD_CMD_STAT_STATUS : Field := ⟨Reg.RAD_CMD_STAT, 0, 4⟩
def RAD_STATE_BLANK : Field := ⟨Reg.RAD_STATE, 16, 1⟩
def RAD_STATE_TARGET : Field := ⟨Reg.RAD_STATE, 4, 3⟩
def RAD_STATE_MOVING : Field := ⟨Reg.RAD_STATE, 3, 1⟩
def RAD_STATE_STATE : Field := ⟨Reg.RAD_STATE, 0, 3⟩
def RAD_CAL_CFG_TEMP_DELTA : Field := ⟨Reg.RAD_CAL_CFG, 16, 5⟩
def RAD_CAL_CFG_RERUN : Field := ⟨Reg.RAD_CAL_CFG, 9, 1⟩
def RAD_CAL_CFG_AUTO_CAL : Field := ⟨Reg.RAD_CAL_CFG, 8, 1⟩
def RAD_CAL_CFG_STEPS : Field := ⟨Reg.RAD_CAL_CFG, 0, 6⟩
def RAD_CAL_STAT_LAST_TEMP : Field := ⟨Reg.RAD_CAL_STAT, 24, 8⟩
def RAD_CAL_STAT_RUNNING : Field := ⟨Reg.RAD_CAL_STAT, 17, 1⟩
def RAD_CAL_STAT_DUE : Field := ⟨Reg.RAD_CAL_STAT, 16, 1⟩
def RAD_CAL_STAT_INCOMPLETE : Field := ⟨Reg.RAD_CAL_STAT, 8, 6⟩
def RAD_CAL_STAT_VALID : Field := ⟨Reg.RAD_CAL_STAT, 0, 6⟩
def RAD_COUNTS_BLANKED : Field := ⟨Reg.RAD_COUNTS, 16, 16⟩
def RAD_COUNTS_LATE : Field := ⟨Reg.RAD_COUNTS, 0, 16⟩
def CHN_DESC_FREQ_FREQ_HZ (n : Nat) : Field := ⟨Reg.CHN_DESC_FREQ n, 0, 32⟩
def CHN_DESC_MODE_PREF_FORCE (n : Nat) : Field := ⟨Reg.CHN_DESC_MODE n, 26, 1⟩
def CHN_DESC_MODE_PREF_EN (n : Nat) : Field := ⟨Reg.CHN_DESC_MODE n, 25, 1⟩
def CHN_DESC_MODE_PREF (n : Nat) : Field := ⟨Reg.CHN_DESC_MODE n, 20, 5⟩
def CHN_DESC_MODE_HDR_FMT (n : Nat) : Field := ⟨Reg.CHN_DESC_MODE n, 18, 2⟩
def CHN_DESC_MODE_FCS (n : Nat) : Field := ⟨Reg.CHN_DESC_MODE n, 16, 2⟩
def CHN_DESC_MODE_WHITEN (n : Nat) : Field := ⟨Reg.CHN_DESC_MODE n, 14, 2⟩
def CHN_DESC_MODE_INTERLEAVE (n : Nat) : Field := ⟨Reg.CHN_DESC_MODE n, 13, 1⟩
def CHN_DESC_MODE_FEC_SEL (n : Nat) : Field := ⟨Reg.CHN_DESC_MODE n, 12, 1⟩
def CHN_DESC_MODE_BW (n : Nat) : Field := ⟨Reg.CHN_DESC_MODE n, 8, 3⟩
def CHN_DESC_MODE_RATE (n : Nat) : Field := ⟨Reg.CHN_DESC_MODE n, 4, 4⟩
def CHN_DESC_MODE_MODE (n : Nat) : Field := ⟨Reg.CHN_DESC_MODE n, 0, 4⟩
def CHN_DESC_SYNC_SYNC_WORD (n : Nat) : Field := ⟨Reg.CHN_DESC_SYNC n, 0, 32⟩
def CHN_DESC_SYNC_CFG_SYNC_ALT (n : Nat) : Field := ⟨Reg.CHN_DESC_SYNC_CFG n, 16, 16⟩
def CHN_DESC_SYNC_CFG_ALT_EN (n : Nat) : Field := ⟨Reg.CHN_DESC_SYNC_CFG n, 12, 1⟩
def CHN_DESC_SYNC_CFG_SYNC_TOL (n : Nat) : Field := ⟨Reg.CHN_DESC_SYNC_CFG n, 8, 3⟩
def CHN_DESC_SYNC_CFG_SYNC_LEN (n : Nat) : Field := ⟨Reg.CHN_DESC_SYNC_CFG n, 0, 6⟩
def CHN_DESC_RATE_LEVELS (n : Nat) : Field := ⟨Reg.CHN_DESC_RATE n, 26, 1⟩
def CHN_DESC_RATE_BT (n : Nat) : Field := ⟨Reg.CHN_DESC_RATE n, 24, 2⟩
def CHN_DESC_RATE_SYM_RATE (n : Nat) : Field := ⟨Reg.CHN_DESC_RATE n, 0, 21⟩
def CHN_DESC_DEV_DEV_HZ (n : Nat) : Field := ⟨Reg.CHN_DESC_DEV n, 0, 20⟩
def CHN_DESC_CCA_CCA_LEN (n : Nat) : Field := ⟨Reg.CHN_DESC_CCA n, 16, 8⟩
def CHN_DESC_CCA_CCA_THR (n : Nat) : Field := ⟨Reg.CHN_DESC_CCA n, 8, 8⟩
def CHN_DESC_CCA_CCA_MODE (n : Nat) : Field := ⟨Reg.CHN_DESC_CCA n, 0, 2⟩
def CHN_DESC_AUX_LE_CHAN (n : Nat) : Field := ⟨Reg.CHN_DESC_AUX n, 24, 6⟩
def CHN_DESC_AUX_CRC_INIT (n : Nat) : Field := ⟨Reg.CHN_DESC_AUX n, 0, 24⟩
def CHN_DESC_AUX_FIXED_LEN (n : Nat) : Field := ⟨Reg.CHN_DESC_AUX n, 0, 11⟩
def CHN_DESC_AUX_TX_FEC (n : Nat) : Field := ⟨Reg.CHN_DESC_AUX n, 0, 1⟩
def CHN_DESC_AUX_TX_RM (n : Nat) : Field := ⟨Reg.CHN_DESC_AUX n, 0, 2⟩
def CHN_DESC_ERR_REASON : Field := ⟨Reg.CHN_DESC_ERR, 16, 4⟩
def CHN_DESC_ERR_DESC : Field := ⟨Reg.CHN_DESC_ERR, 8, 6⟩
def CHN_DESC_ERR_VALID : Field := ⟨Reg.CHN_DESC_ERR, 0, 1⟩
def CHN_INUSE_LO_DESC_LO : Field := ⟨Reg.CHN_INUSE_LO, 0, 32⟩
def CHN_INUSE_HI_DESC_HI : Field := ⟨Reg.CHN_INUSE_HI, 0, 32⟩
def CHN_DESC_CFG_LO_CFG_LO : Field := ⟨Reg.CHN_DESC_CFG_LO, 0, 32⟩
def CHN_DESC_CFG_HI_CFG_HI : Field := ⟨Reg.CHN_DESC_CFG_HI, 0, 32⟩
def CHN_STREAM_RATE (n : Nat) : Field := ⟨Reg.CHN_STREAM n, 16, 2⟩
def CHN_STREAM_ACTIVE (n : Nat) : Field := ⟨Reg.CHN_STREAM n, 15, 1⟩
def CHN_STREAM_LANE (n : Nat) : Field := ⟨Reg.CHN_STREAM n, 14, 1⟩
def CHN_STREAM_UNIT (n : Nat) : Field := ⟨Reg.CHN_STREAM n, 8, 5⟩
def CHN_STREAM_DESC (n : Nat) : Field := ⟨Reg.CHN_STREAM n, 0, 6⟩
def NBD_CAPTURE_PAYLOAD_EN : Field := ⟨Reg.NBD_CAPTURE, 8, 1⟩
def NBD_CAPTURE_CAPTURE_DB : Field := ⟨Reg.NBD_CAPTURE, 0, 4⟩
def NBD_STATS_HDR_REJ : Field := ⟨Reg.NBD_STATS, 16, 16⟩
def NBD_STATS_CAPTURES : Field := ⟨Reg.NBD_STATS, 0, 16⟩
def NBD_LOSS_NO_BUFFER : Field := ⟨Reg.NBD_LOSS, 24, 8⟩
def NBD_LOSS_CAPTURE_LOST : Field := ⟨Reg.NBD_LOSS, 16, 8⟩
def NBD_LOSS_HW_FAULT : Field := ⟨Reg.NBD_LOSS, 8, 8⟩
def NBD_LOSS_ABORTED : Field := ⟨Reg.NBD_LOSS, 0, 8⟩
def NBD_LAST_LOSS_END : Field := ⟨Reg.NBD_LAST_LOSS, 16, 4⟩
def NBD_LAST_LOSS_SLICE : Field := ⟨Reg.NBD_LAST_LOSS, 8, 5⟩
def NBD_LAST_LOSS_DESC : Field := ⟨Reg.NBD_LAST_LOSS, 0, 6⟩
def NBD_SLICE_UNDER_TEST (n : Nat) : Field := ⟨Reg.NBD_SLICE n, 17, 1⟩
def NBD_SLICE_RETIRED (n : Nat) : Field := ⟨Reg.NBD_SLICE n, 16, 1⟩
def NBD_SLICE_DESC (n : Nat) : Field := ⟨Reg.NBD_SLICE n, 8, 6⟩
def NBD_SLICE_STATE (n : Nat) : Field := ⟨Reg.NBD_SLICE n, 0, 3⟩
def OFD_CFG_ACK_CODE : Field := ⟨Reg.OFD_CFG, 4, 2⟩
def OFD_CFG_SNRMAP_EN : Field := ⟨Reg.OFD_CFG, 0, 1⟩
def OFD_STATS_HDR_REJ : Field := ⟨Reg.OFD_STATS, 16, 16⟩
def OFD_STATS_NO_PROFILE : Field := ⟨Reg.OFD_STATS, 8, 8⟩
def OFD_STATS_PCHK_MISMATCH : Field := ⟨Reg.OFD_STATS, 0, 8⟩
def OFD_LOSS_NO_BUFFER : Field := ⟨Reg.OFD_LOSS, 24, 8⟩
def OFD_LOSS_CAPTURE_LOST : Field := ⟨Reg.OFD_LOSS, 16, 8⟩
def OFD_LOSS_HW_FAULT : Field := ⟨Reg.OFD_LOSS, 8, 8⟩
def OFD_LOSS_ABORTED : Field := ⟨Reg.OFD_LOSS, 0, 8⟩
def OFD_LAST_LOSS_END : Field := ⟨Reg.OFD_LAST_LOSS, 16, 4⟩
def OFD_LAST_LOSS_LANE : Field := ⟨Reg.OFD_LAST_LOSS, 8, 2⟩
def OFD_LAST_LOSS_DESC : Field := ⟨Reg.OFD_LAST_LOSS, 0, 6⟩
def OFD_TX_PROF_PROFILE : Field := ⟨Reg.OFD_TX_PROF, 16, 10⟩
def OFD_TX_PROF_NBITS : Field := ⟨Reg.OFD_TX_PROF, 0, 10⟩
def OFD_LANE_UNDER_TEST (n : Nat) : Field := ⟨Reg.OFD_LANE n, 17, 1⟩
def OFD_LANE_RETIRED (n : Nat) : Field := ⟨Reg.OFD_LANE n, 16, 1⟩
def OFD_LANE_DESC (n : Nat) : Field := ⟨Reg.OFD_LANE n, 8, 6⟩
def OFD_LANE_STATE (n : Nat) : Field := ⟨Reg.OFD_LANE n, 0, 3⟩
def FEC_STATS_LATE : Field := ⟨Reg.FEC_STATS, 16, 16⟩
def FEC_STATS_OVERFLOW : Field := ⟨Reg.FEC_STATS, 0, 16⟩
def FEC_WAIT_MAX_FINAL : Field := ⟨Reg.FEC_WAIT, 0, 16⟩
def FEC_ACTIVE_STREAMS : Field := ⟨Reg.FEC_ACTIVE, 16, 5⟩
def FEC_ACTIVE_QUEUED : Field := ⟨Reg.FEC_ACTIVE, 0, 5⟩
def TMB_NOW_LO_NOW_LO : Field := ⟨Reg.TMB_NOW_LO, 0, 32⟩
def TMB_NOW_HI_NOW_HI : Field := ⟨Reg.TMB_NOW_HI, 0, 16⟩
def TMB_NOW_HI_SNAP_SNAP : Field := ⟨Reg.TMB_NOW_HI_SNAP, 0, 16⟩
def TMB_STAT_FOLLOW : Field := ⟨Reg.TMB_STAT, 4, 1⟩
def TMB_STAT_SLOW_SRC : Field := ⟨Reg.TMB_STAT, 3, 1⟩
def TMB_STAT_FINE_SRC : Field := ⟨Reg.TMB_STAT, 1, 2⟩
def TMB_STAT_FINE_VALID : Field := ⟨Reg.TMB_STAT, 0, 1⟩
def TMB_ALARM_EN_WAKE : Field := ⟨Reg.TMB_ALARM_EN, 8, 8⟩
def TMB_ALARM_EN_EN : Field := ⟨Reg.TMB_ALARM_EN, 0, 8⟩
def TMB_ALARM_STAT_LATE : Field := ⟨Reg.TMB_ALARM_STAT, 16, 8⟩
def TMB_ALARM_STAT_PENDING : Field := ⟨Reg.TMB_ALARM_STAT, 8, 8⟩
def TMB_ALARM_STAT_ARMED : Field := ⟨Reg.TMB_ALARM_STAT, 0, 8⟩
def TMB_ALARM_LO_CMP_LO (n : Nat) : Field := ⟨Reg.TMB_ALARM_LO n, 0, 32⟩
def TMB_ALARM_HI_CMP_HI (n : Nat) : Field := ⟨Reg.TMB_ALARM_HI n, 0, 16⟩
def TMR_CFG_CAP (t : Nat) : Field := ⟨Reg.TMR_CFG t, 16, 4⟩
def TMR_CFG_ONESHOT (t : Nat) : Field := ⟨Reg.TMR_CFG t, 8, 1⟩
def TMR_CFG_PRESCALE (t : Nat) : Field := ⟨Reg.TMR_CFG t, 4, 4⟩
def TMR_CFG_SRC (t : Nat) : Field := ⟨Reg.TMR_CFG t, 0, 3⟩
def TMR_CMD_LOAD (t : Nat) : Field := ⟨Reg.TMR_CMD t, 3, 1⟩
def TMR_CMD_CLEAR (t : Nat) : Field := ⟨Reg.TMR_CMD t, 2, 1⟩
def TMR_CMD_STOP (t : Nat) : Field := ⟨Reg.TMR_CMD t, 1, 1⟩
def TMR_CMD_START (t : Nat) : Field := ⟨Reg.TMR_CMD t, 0, 1⟩
def TMR_PERIOD_PERIOD (t : Nat) : Field := ⟨Reg.TMR_PERIOD t, 0, 32⟩
def TMR_COUNT_COUNT (t : Nat) : Field := ⟨Reg.TMR_COUNT t, 0, 32⟩
def TMR_CMP_CMP (t n : Nat) : Field := ⟨Reg.TMR_CMP t n, 0, 32⟩
def LPT_CTRL_WAKE1 : Field := ⟨Reg.LPT_CTRL, 9, 1⟩
def LPT_CTRL_WAKE0 : Field := ⟨Reg.LPT_CTRL, 8, 1⟩
def LPT_CTRL_RUN1 : Field := ⟨Reg.LPT_CTRL, 1, 1⟩
def LPT_CTRL_RUN0 : Field := ⟨Reg.LPT_CTRL, 0, 1⟩
def LPT_STAT_SYNC_BUSY : Field := ⟨Reg.LPT_STAT, 0, 1⟩
def LPT_T_PERIOD_PERIOD (n : Nat) : Field := ⟨Reg.LPT_T_PERIOD n, 0, 24⟩
def LPT_T_CMP_CMP (n : Nat) : Field := ⟨Reg.LPT_T_CMP n, 0, 24⟩
def LPT_T_COUNT_COUNT (n : Nat) : Field := ⟨Reg.LPT_T_COUNT n, 0, 24⟩
def WDT_CFG_WIN_EN : Field := ⟨Reg.WDT_CFG, 1, 1⟩
def WDT_CFG_EN : Field := ⟨Reg.WDT_CFG, 0, 1⟩
def WDT_LOAD_LOAD : Field := ⟨Reg.WDT_LOAD, 0, 24⟩
def WDT_WINDOW_WINDOW : Field := ⟨Reg.WDT_WINDOW, 0, 24⟩
def WDT_PREWARN_PREWARN : Field := ⟨Reg.WDT_PREWARN, 0, 24⟩
def WDT_FEED_KEY : Field := ⟨Reg.WDT_FEED, 0, 32⟩
def WDT_COUNT_COUNT : Field := ⟨Reg.WDT_COUNT, 0, 24⟩
def WDT_STAT_LAST_EXP : Field := ⟨Reg.WDT_STAT, 2, 2⟩
def WDT_STAT_PREWARNED : Field := ⟨Reg.WDT_STAT, 1, 1⟩
def WDT_STAT_RUNNING : Field := ⟨Reg.WDT_STAT, 0, 1⟩
def LNK_CFG_RUNAHEAD : Field := ⟨Reg.LNK_CFG, 16, 12⟩
def LNK_CFG_DISPATCH_LEAD : Field := ⟨Reg.LNK_CFG, 4, 8⟩
def LNK_CFG_CCA3_AND : Field := ⟨Reg.LNK_CFG, 1, 1⟩
def LNK_CFG_SPEC_EN : Field := ⟨Reg.LNK_CFG, 0, 1⟩
def LNK_ENT_SEL_DEVICE : Field := ⟨Reg.LNK_ENT_SEL, 8, 3⟩
def LNK_ENT_SEL_INDEX : Field := ⟨Reg.LNK_ENT_SEL, 0, 7⟩
def LNK_ENT_CMD_OP : Field := ⟨Reg.LNK_ENT_CMD, 0, 3⟩
def LNK_ENT_RES_REPEAT : Field := ⟨Reg.LNK_ENT_RES, 16, 8⟩
def LNK_ENT_RES_LAST_STATUS : Field := ⟨Reg.LNK_ENT_RES, 12, 4⟩
def LNK_ENT_RES_STATE : Field := ⟨Reg.LNK_ENT_RES, 8, 3⟩
def LNK_ENT_RES_RESULT : Field := ⟨Reg.LNK_ENT_RES, 0, 4⟩
def LNK_DONE_LINKED : Field := ⟨Reg.LNK_DONE, 15, 1⟩
def LNK_DONE_SLIP : Field := ⟨Reg.LNK_DONE, 14, 1⟩
def LNK_DONE_NO_FRAME : Field := ⟨Reg.LNK_DONE, 13, 1⟩
def LNK_DONE_FRAME : Field := ⟨Reg.LNK_DONE, 12, 1⟩
def LNK_DONE_STATUS : Field := ⟨Reg.LNK_DONE, 8, 4⟩
def LNK_DONE_VALID : Field := ⟨Reg.LNK_DONE, 7, 1⟩
def LNK_DONE_INDEX : Field := ⟨Reg.LNK_DONE, 0, 7⟩
def LNK_DONE_T_TIME : Field := ⟨Reg.LNK_DONE_T, 0, 32⟩
def LNK_STAT_SPEC_ACTIVE : Field := ⟨Reg.LNK_STAT, 16, 3⟩
def LNK_STAT_ARMED : Field := ⟨Reg.LNK_STAT, 7, 8⟩
def LNK_STAT_OWNED : Field := ⟨Reg.LNK_STAT, 3, 1⟩
def LNK_STAT_LINK_MISS : Field := ⟨Reg.LNK_STAT, 2, 1⟩
def LNK_STAT_DONE_OVF : Field := ⟨Reg.LNK_STAT, 1, 1⟩
def LNK_STAT_RUNNING : Field := ⟨Reg.LNK_STAT, 0, 1⟩
def LNK_ACK_CFG_TC_SIGN : Field := ⟨Reg.LNK_ACK_CFG, 15, 1⟩
def LNK_ACK_CFG_SRC_ADDR : Field := ⟨Reg.LNK_ACK_CFG, 14, 1⟩
def LNK_ACK_CFG_IMM_EN : Field := ⟨Reg.LNK_ACK_CFG, 13, 1⟩
def LNK_ACK_CFG_ACK_IE_LEN : Field := ⟨Reg.LNK_ACK_CFG, 2, 6⟩
def LNK_ACK_CFG_FP : Field := ⟨Reg.LNK_ACK_CFG, 1, 1⟩
def LNK_ACK_CFG_TC_IE : Field := ⟨Reg.LNK_ACK_CFG, 0, 1⟩
def LNK_CSL_CFG_EN : Field := ⟨Reg.LNK_CSL_CFG, 24, 1⟩
def LNK_CSL_CFG_ANCHOR : Field := ⟨Reg.LNK_CSL_CFG, 16, 7⟩
def LNK_CSL_CFG_PERIOD : Field := ⟨Reg.LNK_CSL_CFG, 0, 16⟩
def LNK_CCA_STAT_BUSY_COUNT : Field := ⟨Reg.LNK_CCA_STAT, 16, 16⟩
def LNK_CCA_STAT_NOSTREAM : Field := ⟨Reg.LNK_CCA_STAT, 10, 1⟩
def LNK_CCA_STAT_CS_BUSY : Field := ⟨Reg.LNK_CCA_STAT, 9, 1⟩
def LNK_CCA_STAT_ED_BUSY : Field := ⟨Reg.LNK_CCA_STAT, 8, 1⟩
def LNK_CCA_STAT_ENERGY : Field := ⟨Reg.LNK_CCA_STAT, 0, 8⟩
def LNK_SPEC_STAT_SQUASHES : Field := ⟨Reg.LNK_SPEC_STAT, 16, 16⟩
def LNK_SPEC_STAT_COMMITS : Field := ⟨Reg.LNK_SPEC_STAT, 0, 16⟩
def LNK_ARB_STAT_MISS_HVL : Field := ⟨Reg.LNK_ARB_STAT, 24, 8⟩
def LNK_ARB_STAT_MISS_NBT : Field := ⟨Reg.LNK_ARB_STAT, 16, 8⟩
def LNK_ARB_STAT_MISS_SEC : Field := ⟨Reg.LNK_ARB_STAT, 8, 8⟩
def LNK_ARB_STAT_MISS_FEC : Field := ⟨Reg.LNK_ARB_STAT, 0, 8⟩
def LNK_SPEC_LOSS_REASON : Field := ⟨Reg.LNK_SPEC_LOSS, 16, 4⟩
def LNK_SPEC_LOSS_ACK_FAIL : Field := ⟨Reg.LNK_SPEC_LOSS, 8, 8⟩
def LNK_SPEC_LOSS_NO_CTX : Field := ⟨Reg.LNK_SPEC_LOSS, 0, 8⟩
def LNK_ENT_W_WORD (n : Nat) : Field := ⟨Reg.LNK_ENT_W n, 0, 32⟩
def LNK_ACK_IE_BYTES (n : Nat) : Field := ⟨Reg.LNK_ACK_IE n, 0, 32⟩
def LNK_ACK_IFS_IFS_US (n : Nat) : Field := ⟨Reg.LNK_ACK_IFS n, 0, 12⟩
def LNK_LE_CTX_NEW (n : Nat) : Field := ⟨Reg.LNK_LE_CTX n, 3, 1⟩
def LNK_LE_CTX_ACKED (n : Nat) : Field := ⟨Reg.LNK_LE_CTX n, 2, 1⟩
def LNK_LE_CTX_NESN (n : Nat) : Field := ⟨Reg.LNK_LE_CTX n, 1, 1⟩
def LNK_LE_CTX_SN (n : Nat) : Field := ⟨Reg.LNK_LE_CTX n, 0, 1⟩
def FRM_CFG_ALLOC_RESERVE : Field := ⟨Reg.FRM_CFG, 25, 7⟩
def FRM_CFG_LOW_WATER : Field := ⟨Reg.FRM_CFG, 16, 9⟩
def FRM_CFG_KEEP_BLOCKED : Field := ⟨Reg.FRM_CFG, 6, 1⟩
def FRM_CFG_KEEP_REPLAY : Field := ⟨Reg.FRM_CFG, 5, 1⟩
def FRM_CFG_KEEP_BAD_MIC : Field := ⟨Reg.FRM_CFG, 4, 1⟩
def FRM_CFG_KEEP_BAD_FCS : Field := ⟨Reg.FRM_CFG, 3, 1⟩
def FRM_CFG_PROMISC : Field := ⟨Reg.FRM_CFG, 2, 1⟩
def FRM_CFG_UNKNOWN_OK : Field := ⟨Reg.FRM_CFG, 1, 1⟩
def FRM_CFG_EARLY_DROP : Field := ⟨Reg.FRM_CFG, 0, 1⟩
def FRM_TYPES_VERSIONS : Field := ⟨Reg.FRM_TYPES, 8, 3⟩
def FRM_TYPES_TYPES : Field := ⟨Reg.FRM_TYPES, 0, 8⟩
def FRM_EXT_ADDR_LO_ADDR_LO : Field := ⟨Reg.FRM_EXT_ADDR_LO, 0, 32⟩
def FRM_EXT_ADDR_HI_ADDR_HI : Field := ⟨Reg.FRM_EXT_ADDR_HI, 0, 32⟩
def FRM_PAN_SHORT (n : Nat) : Field := ⟨Reg.FRM_PAN n, 16, 16⟩
def FRM_PAN_PAN_ID (n : Nat) : Field := ⟨Reg.FRM_PAN n, 0, 16⟩
def FRM_PAN_CFG_COORD : Field := ⟨Reg.FRM_PAN_CFG, 4, 4⟩
def FRM_PAN_CFG_EN : Field := ⟨Reg.FRM_PAN_CFG, 0, 4⟩
def FRM_ALLOC_VALID : Field := ⟨Reg.FRM_ALLOC, 15, 1⟩
def FRM_ALLOC_BLOCK : Field := ⟨Reg.FRM_ALLOC, 0, 9⟩
def FRM_RELEASE_HEAD : Field := ⟨Reg.FRM_RELEASE, 0, 9⟩
def FRM_RXQ_VALID : Field := ⟨Reg.FRM_RXQ, 15, 1⟩
def FRM_RXQ_HEAD : Field := ⟨Reg.FRM_RXQ, 0, 9⟩
def FRM_POOL_QUEUED : Field := ⟨Reg.FRM_POOL, 16, 10⟩
def FRM_POOL_FREE : Field := ⟨Reg.FRM_POOL, 0, 10⟩
def FRM_DROP0_RETIRED : Field := ⟨Reg.FRM_DROP0, 24, 8⟩
def FRM_DROP0_BLOCKED : Field := ⟨Reg.FRM_DROP0, 16, 8⟩
def FRM_DROP0_ADDR : Field := ⟨Reg.FRM_DROP0, 8, 8⟩
def FRM_DROP0_TYPE : Field := ⟨Reg.FRM_DROP0, 0, 8⟩
def FRM_DROP1_MIC : Field := ⟨Reg.FRM_DROP1, 24, 8⟩
def FRM_DROP1_FCS : Field := ⟨Reg.FRM_DROP1, 16, 8⟩
def FRM_DROP1_UNSECURED : Field := ⟨Reg.FRM_DROP1, 8, 8⟩
def FRM_DROP1_UNKNOWN : Field := ⟨Reg.FRM_DROP1, 0, 8⟩
def FRM_DROP2_REPLAY : Field := ⟨Reg.FRM_DROP2, 0, 8⟩
def FRM_VIOL_VALID : Field := ⟨Reg.FRM_VIOL, 31, 1⟩
def FRM_VIOL_INITIATOR : Field := ⟨Reg.FRM_VIOL, 16, 3⟩
def FRM_VIOL_BLOCK : Field := ⟨Reg.FRM_VIOL, 0, 9⟩
def NBT_CFG_LQ_EN : Field := ⟨Reg.NBT_CFG, 3, 1⟩
def NBT_CFG_DEVICES : Field := ⟨Reg.NBT_CFG, 0, 3⟩
def NBT_CMD_MASK : Field := ⟨Reg.NBT_CMD, 8, 8⟩
def NBT_CMD_OP : Field := ⟨Reg.NBT_CMD, 0, 3⟩
def NBT_INDEX_INDEX : Field := ⟨Reg.NBT_INDEX, 0, 17⟩
def NBT_RES_BUSY : Field := ⟨Reg.NBT_RES, 31, 1⟩
def NBT_RES_LOST : Field := ⟨Reg.NBT_RES, 30, 1⟩
def NBT_RES_RESULT : Field := ⟨Reg.NBT_RES, 20, 4⟩
def NBT_RES_STASHED : Field := ⟨Reg.NBT_RES, 17, 1⟩
def NBT_RES_INDEX : Field := ⟨Reg.NBT_RES, 0, 17⟩
def NBT_HASH_H : Field := ⟨Reg.NBT_HASH, 0, 32⟩
def NBT_COUNT_STASH : Field := ⟨Reg.NBT_COUNT, 16, 7⟩
def NBT_COUNT_USED : Field := ⟨Reg.NBT_COUNT, 0, 15⟩
def NBT_STATS_FULLS : Field := ⟨Reg.NBT_STATS, 16, 16⟩
def NBT_STATS_MISSES : Field := ⟨Reg.NBT_STATS, 0, 16⟩
def NBT_DATA_WORD (n : Nat) : Field := ⟨Reg.NBT_DATA n, 0, 32⟩
def HVL_CFG_LAT_LIMIT : Field := ⟨Reg.HVL_CFG, 8, 8⟩
def HVL_CFG_SYNC_PULL : Field := ⟨Reg.HVL_CFG, 2, 1⟩
def HVL_CFG_FWD : Field := ⟨Reg.HVL_CFG, 1, 1⟩
def HVL_CFG_EN : Field := ⟨Reg.HVL_CFG, 0, 1⟩
def HVL_STAT_JOIN_FAIL : Field := ⟨Reg.HVL_STAT, 24, 3⟩
def HVL_STAT_DN_TX : Field := ⟨Reg.HVL_STAT, 22, 2⟩
def HVL_STAT_DN_RX : Field := ⟨Reg.HVL_STAT, 20, 2⟩
def HVL_STAT_UP_TX : Field := ⟨Reg.HVL_STAT, 18, 2⟩
def HVL_STAT_UP_RX : Field := ⟨Reg.HVL_STAT, 16, 2⟩
def HVL_STAT_FRESH : Field := ⟨Reg.HVL_STAT, 5, 1⟩
def HVL_STAT_FOLLOW : Field := ⟨Reg.HVL_STAT, 4, 1⟩
def HVL_STAT_MASTER : Field := ⟨Reg.HVL_STAT, 3, 1⟩
def HVL_STAT_POS : Field := ⟨Reg.HVL_STAT, 0, 3⟩
def HVL_MEMBERS_LOST : Field := ⟨Reg.HVL_MEMBERS, 8, 8⟩
def HVL_MEMBERS_JOINED : Field := ⟨Reg.HVL_MEMBERS, 0, 8⟩
def HVL_LANE_RET_DN_RX : Field := ⟨Reg.HVL_LANE_RET, 2, 2⟩
def HVL_LANE_RET_UP_RX : Field := ⟨Reg.HVL_LANE_RET, 0, 2⟩
def HVL_ERRS_RETRIES : Field := ⟨Reg.HVL_ERRS, 16, 16⟩
def HVL_ERRS_CRC_ERRS : Field := ⟨Reg.HVL_ERRS, 0, 16⟩
def HVL_LAT_OVER : Field := ⟨Reg.HVL_LAT, 16, 16⟩
def HVL_LAT_MAX : Field := ⟨Reg.HVL_LAT, 0, 16⟩
def HVL_FWD_STAT_NAKS : Field := ⟨Reg.HVL_FWD_STAT, 16, 16⟩
def HVL_FWD_STAT_QUEUED : Field := ⟨Reg.HVL_FWD_STAT, 0, 10⟩
def HVL_SYNC_LOSSES : Field := ⟨Reg.HVL_SYNC, 16, 16⟩
def HVL_SYNC_MISSED : Field := ⟨Reg.HVL_SYNC, 0, 16⟩
def SEC_CFG_RNG_EN : Field := ⟨Reg.SEC_CFG, 24, 1⟩
def SEC_CFG_GKEY_BASE : Field := ⟨Reg.SEC_CFG, 0, 12⟩
def SEC_JOB_CMD_SLOT : Field := ⟨Reg.SEC_JOB_CMD, 16, 12⟩
def SEC_JOB_CMD_PLAIN : Field := ⟨Reg.SEC_JOB_CMD, 8, 1⟩
def SEC_JOB_CMD_OP : Field := ⟨Reg.SEC_JOB_CMD, 0, 4⟩
def SEC_JOB_SRC_ADDR : Field := ⟨Reg.SEC_JOB_SRC, 0, 32⟩
def SEC_JOB_DST_ADDR : Field := ⟨Reg.SEC_JOB_DST, 0, 32⟩
def SEC_JOB_LEN_LEN : Field := ⟨Reg.SEC_JOB_LEN, 0, 20⟩
def SEC_JOB_STAT_RESULT : Field := ⟨Reg.SEC_JOB_STAT, 4, 4⟩
def SEC_JOB_STAT_LOST : Field := ⟨Reg.SEC_JOB_STAT, 3, 1⟩
def SEC_JOB_STAT_MIC_FAIL : Field := ⟨Reg.SEC_JOB_STAT, 2, 1⟩
def SEC_JOB_STAT_DONE : Field := ⟨Reg.SEC_JOB_STAT, 1, 1⟩
def SEC_JOB_STAT_BUSY : Field := ⟨Reg.SEC_JOB_STAT, 0, 1⟩
def SEC_RNG_WORD : Field := ⟨Reg.SEC_RNG, 0, 32⟩
def SEC_RNG_STAT_RNG_RESTART : Field := ⟨Reg.SEC_RNG_STAT, 7, 1⟩
def SEC_RNG_STAT_EMPTY_READ : Field := ⟨Reg.SEC_RNG_STAT, 6, 1⟩
def SEC_RNG_STAT_FAIL : Field := ⟨Reg.SEC_RNG_STAT, 5, 1⟩
def SEC_RNG_STAT_COUNT : Field := ⟨Reg.SEC_RNG_STAT, 0, 4⟩
def SEC_STATS_KEY_MISS : Field := ⟨Reg.SEC_STATS, 16, 16⟩
def SEC_STATS_MIC_FAIL : Field := ⟨Reg.SEC_STATS, 0, 16⟩
def SEC_AUTH_STAT_LIFECYCLE : Field := ⟨Reg.SEC_AUTH_STAT, 16, 2⟩
def SEC_AUTH_STAT_DBG_SCOPE : Field := ⟨Reg.SEC_AUTH_STAT, 12, 2⟩
def SEC_AUTH_STAT_DBG_FAILS : Field := ⟨Reg.SEC_AUTH_STAT, 10, 2⟩
def SEC_AUTH_STAT_IMG_TYPE : Field := ⟨Reg.SEC_AUTH_STAT, 4, 4⟩
def SEC_AUTH_STAT_IMG_ERR : Field := ⟨Reg.SEC_AUTH_STAT, 0, 4⟩
def KST_CMD_SLOT : Field := ⟨Reg.KST_CMD, 16, 12⟩
def KST_CMD_OP : Field := ⟨Reg.KST_CMD, 0, 3⟩
def KST_ATTR_ATTR : Field := ⟨Reg.KST_ATTR, 0, 8⟩
def KST_STAT_LOST : Field := ⟨Reg.KST_STAT, 17, 1⟩
def KST_STAT_USED : Field := ⟨Reg.KST_STAT, 4, 13⟩
def KST_STAT_RESULT : Field := ⟨Reg.KST_STAT, 1, 3⟩
def KST_STAT_BUSY : Field := ⟨Reg.KST_STAT, 0, 1⟩
def KST_DATA_WORD (n : Nat) : Field := ⟨Reg.KST_DATA n, 0, 32⟩
def ICU_CLAIM_VALID : Field := ⟨Reg.ICU_CLAIM, 7, 1⟩
def ICU_CLAIM_ID : Field := ⟨Reg.ICU_CLAIM, 0, 7⟩
def ICU_COMPLETE_ID : Field := ⟨Reg.ICU_COMPLETE, 0, 7⟩
def ICU_THRESHOLD_THRESHOLD : Field := ⟨Reg.ICU_THRESHOLD, 0, 3⟩
def ICU_CACHE_INV_INV : Field := ⟨Reg.ICU_CACHE_INV, 0, 1⟩
def ICU_MBOX_STAT_COUNT : Field := ⟨Reg.ICU_MBOX_STAT, 0, 18⟩
def ICU_MBOX_TX_WORD (n : Nat) : Field := ⟨Reg.ICU_MBOX_TX n, 0, 32⟩
def ICU_MBOX_RX_WORD (n : Nat) : Field := ⟨Reg.ICU_MBOX_RX n, 0, 32⟩
def ICU_SRC_CLAIMED (n : Nat) : Field := ⟨Reg.ICU_SRC n, 9, 1⟩
def ICU_SRC_ASSERTED (n : Nat) : Field := ⟨Reg.ICU_SRC n, 8, 1⟩
def ICU_SRC_TARGET (n : Nat) : Field := ⟨Reg.ICU_SRC n, 4, 2⟩
def ICU_SRC_PRIO (n : Nat) : Field := ⟨Reg.ICU_SRC n, 0, 3⟩
def DBG_CFG_KEEP_ON : Field := ⟨Reg.DBG_CFG, 1, 1⟩
def DBG_CFG_HALT_GROUP : Field := ⟨Reg.DBG_CFG, 0, 1⟩
def DBG_STAT_SCOPE : Field := ⟨Reg.DBG_STAT, 4, 2⟩
def DBG_STAT_NTC_HALTED : Field := ⟨Reg.DBG_STAT, 2, 1⟩
def DBG_STAT_APC_HALTED : Field := ⟨Reg.DBG_STAT, 1, 1⟩
def DBG_STAT_CONNECTED : Field := ⟨Reg.DBG_STAT, 0, 1⟩
def FLC_CFG_MIN_RUN : Field := ⟨Reg.FLC_CFG, 8, 8⟩
def FLC_CFG_PREFETCH : Field := ⟨Reg.FLC_CFG, 1, 1⟩
def FLC_CFG_AUTO_SUSPEND : Field := ⟨Reg.FLC_CFG, 0, 1⟩
def FLC_CTRL_ABORT : Field := ⟨Reg.FLC_CTRL, 2, 1⟩
def FLC_CTRL_RESUME : Field := ⟨Reg.FLC_CTRL, 1, 1⟩
def FLC_CTRL_SUSPEND : Field := ⟨Reg.FLC_CTRL, 0, 1⟩
def FLC_STAT_QUEUED : Field := ⟨Reg.FLC_STAT, 16, 6⟩
def FLC_STAT_ACTIVE_SLOT : Field := ⟨Reg.FLC_STAT, 5, 5⟩
def FLC_STAT_BANK : Field := ⟨Reg.FLC_STAT, 4, 1⟩
def FLC_STAT_SW_SUSP : Field := ⟨Reg.FLC_STAT, 3, 1⟩
def FLC_STAT_AUTO_SUSP : Field := ⟨Reg.FLC_STAT, 2, 1⟩
def FLC_STAT_BUSY : Field := ⟨Reg.FLC_STAT, 0, 1⟩
def FLC_WAIT_UNDER : Field := ⟨Reg.FLC_WAIT, 16, 1⟩
def FLC_WAIT_EFFECTIVE : Field := ⟨Reg.FLC_WAIT, 8, 3⟩
def FLC_WAIT_WS : Field := ⟨Reg.FLC_WAIT, 0, 3⟩
def FLC_MARGIN_LEVEL : Field := ⟨Reg.FLC_MARGIN, 1, 2⟩
def FLC_MARGIN_EN : Field := ⟨Reg.FLC_MARGIN, 0, 1⟩
def FLC_PROT0_B0_MAIN : Field := ⟨Reg.FLC_PROT0, 0, 31⟩
def FLC_PROT1_PREV : Field := ⟨Reg.FLC_PROT1, 17, 1⟩
def FLC_PROT1_FLACON : Field := ⟨Reg.FLC_PROT1, 16, 1⟩
def FLC_PROT1_B1_PARAM : Field := ⟨Reg.FLC_PROT1, 8, 8⟩
def FLC_PROT1_B0_PARAM : Field := ⟨Reg.FLC_PROT1, 0, 8⟩
def FLC_ILOG_UNIT : Field := ⟨Reg.FLC_ILOG, 12, 17⟩
def FLC_ILOG_REERASED : Field := ⟨Reg.FLC_ILOG, 9, 1⟩
def FLC_ILOG_SECTOR : Field := ⟨Reg.FLC_ILOG, 3, 6⟩
def FLC_ILOG_BANK : Field := ⟨Reg.FLC_ILOG, 2, 1⟩
def FLC_ILOG_OP : Field := ⟨Reg.FLC_ILOG, 1, 1⟩
def FLC_ILOG_VALID : Field := ⟨Reg.FLC_ILOG, 0, 1⟩
def FLC_D_CMD_WORD : Field := ⟨Reg.FLC_D_CMD, 0, 32⟩
def FLC_D_ADDR_WORD : Field := ⟨Reg.FLC_D_ADDR, 0, 32⟩
def FLC_D_SRC_WORD : Field := ⟨Reg.FLC_D_SRC, 0, 32⟩
def FLC_SUBMIT_ACCEPTED : Field := ⟨Reg.FLC_SUBMIT, 31, 1⟩
def FLC_SUBMIT_SLOT : Field := ⟨Reg.FLC_SUBMIT, 0, 5⟩
def FLC_DONE_STATUS : Field := ⟨Reg.FLC_DONE, 0, 32⟩
def FLC_DONE_ADDR_ADDR : Field := ⟨Reg.FLC_DONE_ADDR, 0, 32⟩
def FLC_DONE_DATA_DATA : Field := ⟨Reg.FLC_DONE_DATA, 0, 32⟩
def FLC_SLOT_CMD_WORD (n : Nat) : Field := ⟨Reg.FLC_SLOT_CMD n, 0, 32⟩
def FLC_SLOT_ADDR_WORD (n : Nat) : Field := ⟨Reg.FLC_SLOT_ADDR n, 0, 32⟩
def FLC_SLOT_SRC_WORD (n : Nat) : Field := ⟨Reg.FLC_SLOT_SRC n, 0, 32⟩
def FLC_SLOT_STATUS_WORD (n : Nat) : Field := ⟨Reg.FLC_SLOT_STATUS n, 0, 32⟩
def SPT_CFG_CSH (t : Nat) : Field := ⟨Reg.SPT_CFG t, 20, 4⟩
def SPT_CFG_CSS (t : Nat) : Field := ⟨Reg.SPT_CFG t, 16, 4⟩
def SPT_CFG_DIV (t : Nat) : Field := ⟨Reg.SPT_CFG t, 8, 8⟩
def SPT_CFG_LSB_FIRST (t : Nat) : Field := ⟨Reg.SPT_CFG t, 3, 1⟩
def SPT_CFG_CPOL (t : Nat) : Field := ⟨Reg.SPT_CFG t, 2, 1⟩
def SPT_CFG_CPHA (t : Nat) : Field := ⟨Reg.SPT_CFG t, 1, 1⟩
def SPT_CFG_SLAVE (t : Nat) : Field := ⟨Reg.SPT_CFG t, 0, 1⟩
def SPT_CTRL_PF_INV (t : Nat) : Field := ⟨Reg.SPT_CTRL t, 2, 1⟩
def SPT_CTRL_RELEASE (t : Nat) : Field := ⟨Reg.SPT_CTRL t, 1, 1⟩
def SPT_CTRL_FLUSH (t : Nat) : Field := ⟨Reg.SPT_CTRL t, 0, 1⟩
def SPT_STAT_CONT_ACTIVE (t : Nat) : Field := ⟨Reg.SPT_STAT t, 19, 1⟩
def SPT_STAT_POSTED (t : Nat) : Field := ⟨Reg.SPT_STAT t, 18, 1⟩
def SPT_STAT_HELD (t : Nat) : Field := ⟨Reg.SPT_STAT t, 17, 1⟩
def SPT_STAT_Q_BUSY (t : Nat) : Field := ⟨Reg.SPT_STAT t, 16, 1⟩
def SPT_STAT_RX_COUNT (t : Nat) : Field := ⟨Reg.SPT_STAT t, 8, 5⟩
def SPT_STAT_Q_COUNT (t : Nat) : Field := ⟨Reg.SPT_STAT t, 0, 5⟩
def SPT_QCTL_RX_EN (t : Nat) : Field := ⟨Reg.SPT_QCTL t, 10, 1⟩
def SPT_QCTL_CONT (t : Nat) : Field := ⟨Reg.SPT_QCTL t, 9, 1⟩
def SPT_QCTL_CS (t : Nat) : Field := ⟨Reg.SPT_QCTL t, 8, 1⟩
def SPT_QCTL_LEN (t : Nat) : Field := ⟨Reg.SPT_QCTL t, 0, 5⟩
def SPT_QTX_WORD (t : Nat) : Field := ⟨Reg.SPT_QTX t, 0, 32⟩
def SPT_QRX_WORD (t : Nat) : Field := ⟨Reg.SPT_QRX t, 0, 32⟩
def SPT_WIN_CFG_MODE_BYTE (t : Nat) : Field := ⟨Reg.SPT_WIN_CFG t, 16, 8⟩
def SPT_WIN_CFG_WR_PAGE (t : Nat) : Field := ⟨Reg.SPT_WIN_CFG t, 12, 4⟩
def SPT_WIN_CFG_DUMMY (t : Nat) : Field := ⟨Reg.SPT_WIN_CFG t, 8, 4⟩
def SPT_WIN_CFG_CONT_EN (t : Nat) : Field := ⟨Reg.SPT_WIN_CFG t, 6, 1⟩
def SPT_WIN_CFG_RD_LINES (t : Nat) : Field := ⟨Reg.SPT_WIN_CFG t, 4, 2⟩
def SPT_WIN_CFG_WR_EN (t : Nat) : Field := ⟨Reg.SPT_WIN_CFG t, 3, 1⟩
def SPT_WIN_CFG_ADDR4 (t : Nat) : Field := ⟨Reg.SPT_WIN_CFG t, 2, 1⟩
def SPT_WIN_CFG_CS (t : Nat) : Field := ⟨Reg.SPT_WIN_CFG t, 1, 1⟩
def SPT_WIN_CFG_EN (t : Nat) : Field := ⟨Reg.SPT_WIN_CFG t, 0, 1⟩
def SPT_WIN_CMD_STAT_OP (t : Nat) : Field := ⟨Reg.SPT_WIN_CMD t, 24, 8⟩
def SPT_WIN_CMD_WREN_OP (t : Nat) : Field := ⟨Reg.SPT_WIN_CMD t, 16, 8⟩
def SPT_WIN_CMD_WR_OP (t : Nat) : Field := ⟨Reg.SPT_WIN_CMD t, 8, 8⟩
def SPT_WIN_CMD_RD_OP (t : Nat) : Field := ⟨Reg.SPT_WIN_CMD t, 0, 8⟩
def SPT_WIN_POLL_TIMEOUT (t : Nat) : Field := ⟨Reg.SPT_WIN_POLL t, 16, 8⟩
def SPT_WIN_POLL_INTERVAL (t : Nat) : Field := ⟨Reg.SPT_WIN_POLL t, 8, 8⟩
def SPT_WIN_POLL_BUSY_POL (t : Nat) : Field := ⟨Reg.SPT_WIN_POLL t, 3, 1⟩
def SPT_WIN_POLL_BUSY_BIT (t : Nat) : Field := ⟨Reg.SPT_WIN_POLL t, 0, 3⟩
def SPT_WIN_STAT_TIMEOUTS (t : Nat) : Field := ⟨Reg.SPT_WIN_STAT t, 16, 16⟩
def SPT_WIN_STAT_LAST_STATUS (t : Nat) : Field := ⟨Reg.SPT_WIN_STAT t, 0, 8⟩
def HSP_CFG_DB_EN : Field := ⟨Reg.HSP_CFG, 8, 8⟩
def HSP_CFG_IRQ_POL : Field := ⟨Reg.HSP_CFG, 1, 1⟩
def HSP_CFG_CRC_EN : Field := ⟨Reg.HSP_CFG, 0, 1⟩
def HSP_IRQ_SEL_LO_PAGES_LO : Field := ⟨Reg.HSP_IRQ_SEL_LO, 0, 32⟩
def HSP_IRQ_SEL_HI_PAGES_HI : Field := ⟨Reg.HSP_IRQ_SEL_HI, 0, 9⟩
def HSP_DB_SET_SET : Field := ⟨Reg.HSP_DB_SET, 0, 8⟩
def HSP_DOORBELL_BITS : Field := ⟨Reg.HSP_DOORBELL, 0, 8⟩
def HSP_LAST_STAT_STATUS : Field := ⟨Reg.HSP_LAST_STAT, 0, 32⟩
def HSP_ERR_ADDR_ADDR : Field := ⟨Reg.HSP_ERR_ADDR, 0, 32⟩
def HSP_LATE_DATA_DATA : Field := ⟨Reg.HSP_LATE_DATA, 0, 32⟩
def HSP_LATE_ADDR_ADDR : Field := ⟨Reg.HSP_LATE_ADDR, 0, 32⟩
def HSP_COUNTS_ERRORS : Field := ⟨Reg.HSP_COUNTS, 16, 16⟩
def HSP_COUNTS_TRANSACTIONS : Field := ⟨Reg.HSP_COUNTS, 0, 16⟩
def EVF_CFG_LOOP_LIMIT : Field := ⟨Reg.EVF_CFG, 8, 4⟩
def EVF_CFG_MODE : Field := ⟨Reg.EVF_CFG, 0, 1⟩
def EVF_NATIVE_EN_EN : Field := ⟨Reg.EVF_NATIVE_EN, 0, 32⟩
def EVF_SW_TRIG_SW : Field := ⟨Reg.EVF_SW_TRIG, 0, 8⟩
def EVF_TASK_TRIG_TASK_ID : Field := ⟨Reg.EVF_TASK_TRIG, 0, 9⟩
def EVF_IRQ_TASK_FLAG : Field := ⟨Reg.EVF_IRQ_TASK, 0, 8⟩
def EVF_LOOP_LAST_VALID : Field := ⟨Reg.EVF_LOOP_LAST, 31, 1⟩
def EVF_LOOP_LAST_TASK_ID : Field := ⟨Reg.EVF_LOOP_LAST, 0, 9⟩
def EVF_DROPS_COUNT : Field := ⟨Reg.EVF_DROPS, 0, 16⟩
def EVF_PIN_EVT_EDGE (n : Nat) : Field := ⟨Reg.EVF_PIN_EVT n, 8, 2⟩
def EVF_PIN_EVT_PIN (n : Nat) : Field := ⟨Reg.EVF_PIN_EVT n, 0, 5⟩
def EVF_PIN_TASK_ACTION (n : Nat) : Field := ⟨Reg.EVF_PIN_TASK n, 8, 2⟩
def EVF_PIN_TASK_PIN (n : Nat) : Field := ⟨Reg.EVF_PIN_TASK n, 0, 5⟩
def EVF_CH_PUB_EN (n : Nat) : Field := ⟨Reg.EVF_CH_PUB n, 31, 1⟩
def EVF_CH_PUB_EVENT_ID (n : Nat) : Field := ⟨Reg.EVF_CH_PUB n, 0, 11⟩
def EVF_CH_SUB_EN (n : Nat) : Field := ⟨Reg.EVF_CH_SUB n, 31, 1⟩
def EVF_CH_SUB_TASK_ID (n : Nat) : Field := ⟨Reg.EVF_CH_SUB n, 0, 9⟩
def PWR_REQ_TARGET : Field := ⟨Reg.PWR_REQ, 0, 2⟩
def PWR_STAT_WAIT : Field := ⟨Reg.PWR_STAT, 16, 7⟩
def PWR_STAT_FROM : Field := ⟨Reg.PWR_STAT, 12, 2⟩
def PWR_STAT_ENTRY_ABORTED : Field := ⟨Reg.PWR_STAT, 8, 1⟩
def PWR_STAT_PENDING : Field := ⟨Reg.PWR_STAT, 4, 1⟩
def PWR_STAT_ENTERING : Field := ⟨Reg.PWR_STAT, 3, 1⟩
def PWR_WAKE_LAST_COUNT : Field := ⟨Reg.PWR_WAKE_LAST, 16, 16⟩
def PWR_WAKE_LAST_SOURCE : Field := ⟨Reg.PWR_WAKE_LAST, 0, 8⟩
def PWR_OP_BUSY : Field := ⟨Reg.PWR_OP, 9, 1⟩
def PWR_OP_ACTIVE : Field := ⟨Reg.PWR_OP, 4, 2⟩
def PWR_OP_TARGET : Field := ⟨Reg.PWR_OP, 0, 2⟩
def PWR_CFG_RADIO_RET : Field := ⟨Reg.PWR_CFG, 1, 1⟩
def PWR_CFG_EXT_REG : Field := ⟨Reg.PWR_CFG, 0, 1⟩
def PWR_RET_LO_PROFILE : Field := ⟨Reg.PWR_RET_LO, 30, 1⟩
def PWR_RET_LO_RADIO_BUF : Field := ⟨Reg.PWR_RET_LO, 28, 2⟩
def PWR_RET_LO_NTC : Field := ⟨Reg.PWR_RET_LO, 24, 4⟩
def PWR_RET_LO_APC : Field := ⟨Reg.PWR_RET_LO, 0, 24⟩
def PWR_RET_HI_RECORDER : Field := ⟨Reg.PWR_RET_HI, 16, 8⟩
def PWR_RET_HI_NBT : Field := ⟨Reg.PWR_RET_HI, 0, 16⟩
def PWR_DOM_NTC_PWR : Field := ⟨Reg.PWR_DOM, 18, 1⟩
def PWR_DOM_APC_PWR : Field := ⟨Reg.PWR_DOM, 17, 1⟩
def PWR_DOM_RADIO_PWR : Field := ⟨Reg.PWR_DOM, 16, 1⟩
def PWR_DOM_RADIO_ON : Field := ⟨Reg.PWR_DOM, 0, 1⟩
def PWR_RETW_WORD (n : Nat) : Field := ⟨Reg.PWR_RETW n, 0, 32⟩
def CLK_CFG_PLL_EN : Field := ⟨Reg.CLK_CFG, 12, 1⟩
def CLK_CFG_HFXO_EN : Field := ⟨Reg.CLK_CFG, 11, 1⟩
def CLK_CFG_LFXO_EN : Field := ⟨Reg.CLK_CFG, 10, 1⟩
def CLK_CFG_MON_EN : Field := ⟨Reg.CLK_CFG, 9, 1⟩
def CLK_CFG_HFXO_ON_WAKE : Field := ⟨Reg.CLK_CFG, 8, 1⟩
def CLK_CFG_SYS_DIV : Field := ⟨Reg.CLK_CFG, 4, 2⟩
def CLK_CFG_SYS_SRC : Field := ⟨Reg.CLK_CFG, 0, 2⟩
def CLK_STAT_DIV_ACTIVE : Field := ⟨Reg.CLK_STAT, 12, 2⟩
def CLK_STAT_SRC_ACTIVE : Field := ⟨Reg.CLK_STAT, 8, 2⟩
def CLK_STAT_SWITCHING : Field := ⟨Reg.CLK_STAT, 5, 1⟩
def CLK_STAT_LF_SRC : Field := ⟨Reg.CLK_STAT, 4, 1⟩
def CLK_STAT_LFXO_OK : Field := ⟨Reg.CLK_STAT, 3, 1⟩
def CLK_STAT_PLL_LOCK : Field := ⟨Reg.CLK_STAT, 2, 1⟩
def CLK_STAT_HFXO_OK : Field := ⟨Reg.CLK_STAT, 1, 1⟩
def CLK_STAT_HFRC_OK : Field := ⟨Reg.CLK_STAT, 0, 1⟩
def CLK_SYS_KHZ_KHZ : Field := ⟨Reg.CLK_SYS_KHZ, 0, 18⟩
def RRP_CFG_TIMEOUT : Field := ⟨Reg.RRP_CFG, 24, 8⟩
def RRP_CFG_POLL : Field := ⟨Reg.RRP_CFG, 16, 4⟩
def RRP_CFG_ON_FAIL : Field := ⟨Reg.RRP_CFG, 12, 1⟩
def RRP_CFG_RETRIES : Field := ⟨Reg.RRP_CFG, 8, 4⟩
def RRP_CFG_SPEED : Field := ⟨Reg.RRP_CFG, 7, 1⟩
def RRP_CFG_ADDR : Field := ⟨Reg.RRP_CFG, 0, 7⟩
def RRP_VOUT01_OP1 : Field := ⟨Reg.RRP_VOUT01, 16, 16⟩
def RRP_VOUT01_OP0 : Field := ⟨Reg.RRP_VOUT01, 0, 16⟩
def RRP_VOUT2_OP2 : Field := ⟨Reg.RRP_VOUT2, 0, 16⟩
def RRP_STAT_HOLDING : Field := ⟨Reg.RRP_STAT, 13, 1⟩
def RRP_STAT_BUSY : Field := ⟨Reg.RRP_STAT, 12, 1⟩
def RRP_STAT_RESULT : Field := ⟨Reg.RRP_STAT, 8, 3⟩
def RRP_STAT_STATUS_BYTE : Field := ⟨Reg.RRP_STAT, 0, 8⟩
def RRP_COUNTS_FAILURES : Field := ⟨Reg.RRP_COUNTS, 16, 16⟩
def RRP_COUNTS_RETRIES : Field := ⟨Reg.RRP_COUNTS, 0, 16⟩
def WKP_CFG_HSP_WAKE : Field := ⟨Reg.WKP_CFG, 0, 1⟩
def WKP_PENDING_HSP : Field := ⟨Reg.WKP_PENDING, 8, 1⟩
def WKP_PENDING_PIN : Field := ⟨Reg.WKP_PENDING, 0, 8⟩
def WKP_PIN_PULL (n : Nat) : Field := ⟨Reg.WKP_PIN n, 4, 2⟩
def WKP_PIN_EDGE (n : Nat) : Field := ⟨Reg.WKP_PIN n, 2, 1⟩
def WKP_PIN_POL (n : Nat) : Field := ⟨Reg.WKP_PIN n, 1, 1⟩
def WKP_PIN_EN (n : Nat) : Field := ⟨Reg.WKP_PIN n, 0, 1⟩
def SYS_RST_CAUSE_DR_NTC : Field := ⟨Reg.SYS_RST_CAUSE, 24, 8⟩
def SYS_RST_CAUSE_DR_APC : Field := ⟨Reg.SYS_RST_CAUSE, 16, 8⟩
def SYS_RST_CAUSE_HISTORY : Field := ⟨Reg.SYS_RST_CAUSE, 8, 6⟩
def SYS_RST_CAUSE_LAST : Field := ⟨Reg.SYS_RST_CAUSE, 0, 3⟩
def SYS_BOOT_STAT_IMG_FAIL : Field := ⟨Reg.SYS_BOOT_STAT, 8, 8⟩
def SYS_BOOT_STAT_SCC_ROM : Field := ⟨Reg.SYS_BOOT_STAT, 5, 1⟩
def SYS_BOOT_STAT_RESUMED : Field := ⟨Reg.SYS_BOOT_STAT, 4, 1⟩
def SYS_BOOT_STAT_ENG_READY : Field := ⟨Reg.SYS_BOOT_STAT, 3, 1⟩
def SYS_BOOT_STAT_TRIM_FIX : Field := ⟨Reg.SYS_BOOT_STAT, 2, 1⟩
def SYS_BOOT_STAT_FAST : Field := ⟨Reg.SYS_BOOT_STAT, 1, 1⟩
def SYS_BOOT_STAT_DONE : Field := ⟨Reg.SYS_BOOT_STAT, 0, 1⟩
def SYS_RESET_CTRL_KEY : Field := ⟨Reg.SYS_RESET_CTRL, 16, 16⟩
def SYS_RESET_CTRL_RESTART_NTC : Field := ⟨Reg.SYS_RESET_CTRL, 2, 1⟩
def SYS_RESET_CTRL_RESTART_APC : Field := ⟨Reg.SYS_RESET_CTRL, 1, 1⟩
def SYS_RESET_CTRL_CHIP : Field := ⟨Reg.SYS_RESET_CTRL, 0, 1⟩
def SYS_UID_LO_UID_LO : Field := ⟨Reg.SYS_UID_LO, 0, 32⟩
def SYS_UID_HI_UID_HI : Field := ⟨Reg.SYS_UID_HI, 0, 32⟩
def UPD_CFG_QUIET_LIMIT : Field := ⟨Reg.UPD_CFG, 20, 8⟩
def UPD_CFG_MAX_STARTS : Field := ⟨Reg.UPD_CFG, 16, 4⟩
def UPD_CFG_HANDOVER_WAIT : Field := ⟨Reg.UPD_CFG, 8, 8⟩
def UPD_CFG_CONFIRM_WINDOW : Field := ⟨Reg.UPD_CFG, 0, 8⟩
def UPD_CMD_MASK : Field := ⟨Reg.UPD_CMD, 16, 8⟩
def UPD_CMD_CASCADE : Field := ⟨Reg.UPD_CMD, 8, 1⟩
def UPD_CMD_OP : Field := ⟨Reg.UPD_CMD, 0, 4⟩
def UPD_AT_LO_AT_LO : Field := ⟨Reg.UPD_AT_LO, 0, 32⟩
def UPD_AT_HI_AT_HI : Field := ⟨Reg.UPD_AT_HI, 0, 16⟩
def UPD_STAT_BUSY : Field := ⟨Reg.UPD_STAT, 31, 1⟩
def UPD_STAT_CAUSE : Field := ⟨Reg.UPD_STAT, 28, 3⟩
def UPD_STAT_MINVER_FAIL : Field := ⟨Reg.UPD_STAT, 27, 1⟩
def UPD_STAT_FORCED : Field := ⟨Reg.UPD_STAT, 26, 1⟩
def UPD_STAT_COPY_FAIL : Field := ⟨Reg.UPD_STAT, 25, 1⟩
def UPD_STAT_JOURNAL_LOST : Field := ⟨Reg.UPD_STAT, 24, 1⟩
def UPD_STAT_ERR_TYPE : Field := ⟨Reg.UPD_STAT, 12, 4⟩
def UPD_STAT_RESULT : Field := ⟨Reg.UPD_STAT, 8, 4⟩
def UPD_STAT_STATE : Field := ⟨Reg.UPD_STAT, 0, 4⟩
def UPD_PARTS_REMAPPED : Field := ⟨Reg.UPD_PARTS, 24, 8⟩
def UPD_PARTS_CONFIRMED : Field := ⟨Reg.UPD_PARTS, 16, 8⟩
def UPD_PARTS_EFFECT : Field := ⟨Reg.UPD_PARTS, 8, 8⟩
def UPD_PARTS_IN_SET : Field := ⟨Reg.UPD_PARTS, 0, 8⟩
def UPD_CONFIRM_KEY : Field := ⟨Reg.UPD_CONFIRM, 16, 16⟩
def UPD_HANDOVER_KEY : Field := ⟨Reg.UPD_HANDOVER, 16, 16⟩
def UPD_WINDOW_LEFT_MS : Field := ⟨Reg.UPD_WINDOW, 0, 24⟩
def FLT_CFG_CFG_RESET : Field := ⟨Reg.FLT_CFG, 24, 1⟩
def FLT_CFG_RETIRE_WINDOW : Field := ⟨Reg.FLT_CFG, 16, 8⟩
def FLT_CFG_RETIRE_N : Field := ⟨Reg.FLT_CFG, 8, 4⟩
def FLT_CFG_RETRY_MAX : Field := ⟨Reg.FLT_CFG, 0, 4⟩
def FLT_SEAL_INT_INTERVAL : Field := ⟨Reg.FLT_SEAL_INT, 0, 16⟩
def FLT_STAT_SEQ : Field := ⟨Reg.FLT_STAT, 16, 16⟩
def FLT_STAT_SRAM_PEND : Field := ⟨Reg.FLT_STAT, 6, 1⟩
def FLT_STAT_RECORD_BUSY : Field := ⟨Reg.FLT_STAT, 5, 1⟩
def FLT_STAT_RECORD_LOST : Field := ⟨Reg.FLT_STAT, 4, 1⟩
def FLT_STAT_DISAGREE : Field := ⟨Reg.FLT_STAT, 3, 1⟩
def FLT_STAT_COPY_VALID : Field := ⟨Reg.FLT_STAT, 0, 3⟩
def FLT_LOG_VALID : Field := ⟨Reg.FLT_LOG, 31, 1⟩
def FLT_LOG_CLASS : Field := ⟨Reg.FLT_LOG, 28, 3⟩
def FLT_LOG_OUTCOME : Field := ⟨Reg.FLT_LOG, 24, 4⟩
def FLT_LOG_COUNT : Field := ⟨Reg.FLT_LOG, 16, 8⟩
def FLT_LOG_UNIT : Field := ⟨Reg.FLT_LOG, 0, 16⟩
def FLT_LOG_T_TIME : Field := ⟨Reg.FLT_LOG_T, 0, 32⟩
def FLT_CMD_OP : Field := ⟨Reg.FLT_CMD, 28, 4⟩
def FLT_CMD_UNIT : Field := ⟨Reg.FLT_CMD, 0, 16⟩
def FLT_RES_BUSY : Field := ⟨Reg.FLT_RES, 31, 1⟩
def FLT_RES_RESULT : Field := ⟨Reg.FLT_RES, 0, 4⟩
def FLT_RET_UNITS_HVL : Field := ⟨Reg.FLT_RET_UNITS, 24, 4⟩
def FLT_RET_UNITS_TX : Field := ⟨Reg.FLT_RET_UNITS, 20, 3⟩
def FLT_RET_UNITS_LANES : Field := ⟨Reg.FLT_RET_UNITS, 16, 4⟩
def FLT_RET_UNITS_SLICES : Field := ⟨Reg.FLT_RET_UNITS, 0, 16⟩
def FLT_RET_FLASH_SECTORS (n : Nat) : Field := ⟨Reg.FLT_RET_FLASH n, 0, 32⟩
def FLT_RET_SRAM_BANKS (n : Nat) : Field := ⟨Reg.FLT_RET_SRAM n, 0, 32⟩
def FLT_PEND_SRAM_BANKS (n : Nat) : Field := ⟨Reg.FLT_PEND_SRAM n, 0, 32⟩
def BST_CMD_OP : Field := ⟨Reg.BST_CMD, 28, 4⟩
def BST_CMD_UNIT : Field := ⟨Reg.BST_CMD, 0, 16⟩
def BST_RES_BUSY : Field := ⟨Reg.BST_RES, 31, 1⟩
def BST_RES_PENDING : Field := ⟨Reg.BST_RES, 30, 1⟩
def BST_RES_RESULT : Field := ⟨Reg.BST_RES, 24, 4⟩
def BST_RES_UNIT : Field := ⟨Reg.BST_RES, 0, 16⟩
def BST_SIG_MISR : Field := ⟨Reg.BST_SIG, 0, 32⟩
def BST_FAIL_ADDR_ADDR : Field := ⟨Reg.BST_FAIL_ADDR, 0, 32⟩
def REC_CFG_CTRL_KIB : Field := ⟨Reg.REC_CFG, 24, 7⟩
def REC_CFG_POST : Field := ⟨Reg.REC_CFG, 16, 4⟩
def REC_CFG_WB_SHIFT : Field := ⟨Reg.REC_CFG, 12, 2⟩
def REC_CFG_REPLAY_FORCE : Field := ⟨Reg.REC_CFG, 9, 1⟩
def REC_CFG_MODE : Field := ⟨Reg.REC_CFG, 8, 1⟩
def REC_CFG_DESC : Field := ⟨Reg.REC_CFG, 0, 6⟩
def REC_TRIG_EN_SQUASH : Field := ⟨Reg.REC_TRIG_EN, 17, 10⟩
def REC_TRIG_EN_ACK_FAIL : Field := ⟨Reg.REC_TRIG_EN, 4, 1⟩
def REC_TRIG_EN_ARB : Field := ⟨Reg.REC_TRIG_EN, 3, 1⟩
def REC_TRIG_EN_LOST : Field := ⟨Reg.REC_TRIG_EN, 2, 1⟩
def REC_TRIG_EN_LATE : Field := ⟨Reg.REC_TRIG_EN, 1, 1⟩
def REC_TRIG_EN_HW_FAULT : Field := ⟨Reg.REC_TRIG_EN, 0, 1⟩
def REC_CTRL_REPLAY : Field := ⟨Reg.REC_CTRL, 2, 1⟩
def REC_CTRL_FREEZE : Field := ⟨Reg.REC_CTRL, 1, 1⟩
def REC_CTRL_ARM : Field := ⟨Reg.REC_CTRL, 0, 1⟩
def REC_STAT_REPLAY_RES : Field := ⟨Reg.REC_STAT, 16, 3⟩
def REC_STAT_CAUSE : Field := ⟨Reg.REC_STAT, 8, 8⟩
def REC_STAT_PERR : Field := ⟨Reg.REC_STAT, 0, 8⟩
def REC_MARK_VALUE : Field := ⟨Reg.REC_MARK, 0, 32⟩
def REC_RPQ_DROP_STAGE : Field := ⟨Reg.REC_RPQ, 16, 3⟩
def REC_RPQ_VALID : Field := ⟨Reg.REC_RPQ, 15, 1⟩
def REC_RPQ_HEAD : Field := ⟨Reg.REC_RPQ, 0, 9⟩
def GPIO_IN_IN : Field := ⟨Reg.GPIO_IN, 0, 32⟩
def GPIO_OUT_OUT : Field := ⟨Reg.GPIO_OUT, 0, 32⟩
def GPIO_INT_FLAG_FLAG : Field := ⟨Reg.GPIO_INT_FLAG, 0, 32⟩
def GPIO_PIN_INT_MODE (n : Nat) : Field := ⟨Reg.GPIO_PIN n, 8, 3⟩
def GPIO_PIN_PULL (n : Nat) : Field := ⟨Reg.GPIO_PIN n, 4, 2⟩
def GPIO_PIN_DRIVE (n : Nat) : Field := ⟨Reg.GPIO_PIN n, 3, 1⟩
def GPIO_PIN_DIR (n : Nat) : Field := ⟨Reg.GPIO_PIN n, 2, 1⟩
def GPIO_PIN_ALT (n : Nat) : Field := ⟨Reg.GPIO_PIN n, 0, 2⟩

end F

end Sys2Proof.Machine
end

