-- ==== Sys2Proof/Machine/RegTable.lean ====
section
/-! DEFINITION. The register tables of the specification, chapter by chapter, as data: for every register (or array of
registers) of a page its offset, how many there are and their spacing, its reset value, which bits software writes (RW),
which it clears by writing 1 (W1C), which read-only bits go on reporting the block's state over a SOFT_RESET (R51), whether
R53 makes it a configuration register, and whether each initiator has a copy of its own (R48, R53). -/

namespace Sys2Proof.Machine

/-- One register, or one array of `count` registers `stride` bytes apart, of a page (00 R13, 02 R50). -/
structure RegRow where
  off    : Nat
  count  : Nat
  stride : Nat
  reset  : Nat
  rw     : Nat
  w1c    : Nat
  live   : Nat
  config : Bool
  per    : Bool
  deriving DecidableEq, Repr


namespace RegTable

/-- The common page header (02 R50, R52). PAGE_CTRL.ENABLE, IRQ_EN, EVT_PUB_EN and TASK_EN are configuration (R53). -/
def header : List RegRow :=
  [⟨0x0, 1, 4, 0x0, 0x0, 0x0, 0xFFFFFFFF, false, false⟩,  -- PAGE_ID
   ⟨0x4, 1, 4, 0x0, 0x0, 0x0, 0xFFFFFFFF, false, false⟩,  -- PAGE_CAPS
   ⟨0x8, 1, 4, 0x0, 0x1, 0x0, 0xFFFFFFFF, true, false⟩,  -- PAGE_CTRL
   ⟨0xC, 1, 4, 0x0, 0x0, 0x0, 0xFFFFFFFF, false, false⟩,  -- PAGE_STAT
   ⟨0x10, 1, 4, 0x0, 0x0, 0xFFFFFFFF, 0xFFFFFFFF, false, false⟩,  -- IRQ_RAW
   ⟨0x14, 1, 4, 0x0, 0xFFFFFFFF, 0x0, 0xFFFFFFFF, true, false⟩,  -- IRQ_EN
   ⟨0x18, 1, 4, 0x0, 0x0, 0x0, 0xFFFFFFFF, false, false⟩,  -- IRQ_PEND
   ⟨0x1C, 1, 4, 0x0, 0x0, 0x0, 0xFFFFFFFF, false, false⟩,  -- IRQ_SET
   ⟨0x20, 1, 4, 0x0, 0xFFFFFFFF, 0x0, 0xFFFFFFFF, true, false⟩,  -- EVT_PUB_EN
   ⟨0x24, 1, 4, 0x0, 0xFF, 0x0, 0xFFFFFFFF, true, false⟩,  -- TASK_EN
   ⟨0x28, 1, 4, 0x0, 0x0, 0xFFFFFF, 0xFFFFFFFF, false, false⟩,  -- TASK_FLAGS
   ⟨0x2C, 1, 4, 0x0, 0x3, 0x0, 0xFFFFFFFF, false, false⟩,  -- PWR_REQ
   ⟨0x30, 1, 4, 0x0, 0x14, 0x0, 0xFFFFFFFF, false, false⟩,  -- SEAL_CTRL
   ⟨0x34, 1, 4, 0x0, 0x0, 0x0, 0xFFFFFFFF, false, false⟩]  -- SEAL

/-- The block registers of SYS (00, 19 R4, R443). -/
def sysRows : List RegRow :=
  [⟨0x100, 1, 4, 0x72400101, 0x0, 0x0, 0xFFFFFFFF, false, false⟩,  -- CHIP_ID
   ⟨0x104, 1, 4, 0x101, 0x0, 0x3F00, 0xFFFF3F07, false, false⟩,  -- RST_CAUSE
   ⟨0x108, 1, 4, 0x0, 0x0, 0x0, 0xFF3F, false, false⟩,  -- BOOT_STAT
   ⟨0x10C, 1, 4, 0x0, 0x0, 0x0, 0x0, false, false⟩,  -- RESET_CTRL
   ⟨0x110, 1, 4, 0x0, 0x0, 0x0, 0xFFFFFFFF, false, false⟩,  -- UID_LO
   ⟨0x114, 1, 4, 0x0, 0x0, 0x0, 0xFFFFFFFF, false, false⟩]  -- UID_HI

/-- The block registers of PWR (18 R425). -/
def pwrRows : List RegRow :=
  [⟨0x100, 1, 4, 0x0, 0x3, 0x0, 0x3, false, false⟩,  -- REQ
   ⟨0x104, 1, 4, 0x0, 0x0, 0x100, 0x7F3018, false, false⟩,  -- STAT
   ⟨0x108, 1, 4, 0x0, 0x0, 0x0, 0xFFFF00FF, false, false⟩,  -- WAKE_LAST
   ⟨0x10C, 1, 4, 0x0, 0x3, 0x0, 0x230, false, false⟩,  -- OP
   ⟨0x110, 1, 4, 0x0, 0x2, 0x0, 0x1, true, false⟩,  -- CFG
   ⟨0x114, 1, 4, 0xFF, 0x7FFFFFFF, 0x0, 0x0, true, false⟩,  -- RET_LO
   ⟨0x118, 1, 4, 0x0, 0xFFFFFF, 0x0, 0x0, true, false⟩,  -- RET_HI
   ⟨0x11C, 1, 4, 0x0, 0x1, 0x0, 0x70000, false, false⟩,  -- DOM
   ⟨0x140, 16, 4, 0x0, 0xFFFFFFFF, 0x0, 0xFFFFFFFF, false, false⟩]  -- RETW

/-- The block registers of CLK (18 R426). -/
def clkRows : List RegRow :=
  [⟨0x100, 1, 4, 0x300, 0x1F33, 0x0, 0x0, true, false⟩,  -- CFG
   ⟨0x104, 1, 4, 0x1, 0x0, 0x0, 0x333F, false, false⟩,  -- STAT
   ⟨0x108, 1, 4, 0xBB80, 0x0, 0x0, 0x3FFFF, false, false⟩]  -- SYS_KHZ

/-- The block registers of RRP (18 R427). -/
def rrpRows : List RegRow :=
  [⟨0x100, 1, 4, 0x140202C0, 0xFF0F1FFF, 0x0, 0x0, true, false⟩,  -- CFG
   ⟨0x104, 1, 4, 0x180014D, 0xFFFFFFFF, 0x0, 0x0, true, false⟩,  -- VOUT01
   ⟨0x108, 1, 4, 0x1B3, 0xFFFF, 0x0, 0x0, true, false⟩,  -- VOUT2
   ⟨0x10C, 1, 4, 0x0, 0x0, 0x0, 0x3000, false, false⟩,  -- STAT
   ⟨0x110, 1, 4, 0x0, 0x0, 0x0, 0x0, false, false⟩]  -- COUNTS

/-- The block registers of WKP (18 R428). -/
def wkpRows : List RegRow :=
  [⟨0x100, 1, 4, 0x0, 0x1, 0x0, 0x0, true, false⟩,  -- CFG
   ⟨0x104, 1, 4, 0x0, 0x0, 0x1FF, 0x0, false, false⟩,  -- PENDING
   ⟨0x140, 8, 4, 0x0, 0x37, 0x0, 0x0, true, false⟩]  -- PIN

/-- The block registers of TMB (08 R204). -/
def tmbRows : List RegRow :=
  [⟨0x100, 1, 4, 0x0, 0x0, 0x0, 0x0, false, false⟩,  -- NOW_LO
   ⟨0x104, 1, 4, 0x0, 0x0, 0x0, 0xFFFF, false, false⟩,  -- NOW_HI
   ⟨0x108, 1, 4, 0x0, 0x0, 0x0, 0x0, false, true⟩,  -- NOW_HI_SNAP
   ⟨0x10C, 1, 4, 0x0, 0x0, 0x0, 0x1F, false, false⟩,  -- STAT
   ⟨0x110, 1, 4, 0x0, 0xFFFF, 0x0, 0x0, false, false⟩,  -- ALARM_EN
   ⟨0x114, 1, 4, 0x0, 0x0, 0x0, 0xFFFF, false, false⟩,  -- ALARM_STAT
   ⟨0x140, 8, 8, 0x0, 0xFFFFFFFF, 0x0, 0x0, false, false⟩,  -- ALARM_LO
   ⟨0x144, 8, 8, 0x0, 0xFFFF, 0x0, 0x0, false, false⟩]  -- ALARM_HI

/-- The block registers of TMR (08 R210). -/
def tmrRows : List RegRow :=
  [⟨0x100, 1, 4, 0x0, 0xF01F7, 0x0, 0x0, true, false⟩,  -- CFG
   ⟨0x104, 1, 4, 0x0, 0x0, 0x0, 0x0, false, false⟩,  -- CMD
   ⟨0x108, 1, 4, 0xFFFFFFFF, 0xFFFFFFFF, 0x0, 0x0, false, false⟩,  -- PERIOD
   ⟨0x10C, 1, 4, 0x0, 0x0, 0x0, 0xFFFFFFFF, false, false⟩,  -- COUNT
   ⟨0x110, 4, 4, 0x0, 0xFFFFFFFF, 0x0, 0x0, false, false⟩]  -- CMP

/-- The block registers of LPT (08 R212). -/
def lptRows : List RegRow :=
  [⟨0x100, 1, 4, 0x0, 0x303, 0x0, 0x0, true, false⟩,  -- CTRL
   ⟨0x104, 1, 4, 0x0, 0x0, 0x0, 0x1, false, false⟩,  -- STAT
   ⟨0x110, 2, 16, 0xFFFFFF, 0xFFFFFF, 0x0, 0x0, false, false⟩,  -- T_PERIOD
   ⟨0x114, 2, 16, 0x0, 0xFFFFFF, 0x0, 0x0, false, false⟩,  -- T_CMP
   ⟨0x118, 2, 16, 0x0, 0x0, 0x0, 0xFFFFFF, false, false⟩]  -- T_COUNT

/-- The block registers of WDT (08 R217). -/
def wdtRows : List RegRow :=
  [⟨0x100, 1, 4, 0x0, 0x2, 0x0, 0x0, true, false⟩,  -- CFG
   ⟨0x104, 1, 4, 0x8000, 0xFFFFFF, 0x0, 0x0, true, false⟩,  -- LOAD
   ⟨0x108, 1, 4, 0xFFFFFF, 0xFFFFFF, 0x0, 0x0, true, false⟩,  -- WINDOW
   ⟨0x10C, 1, 4, 0x800, 0xFFFFFF, 0x0, 0x0, true, false⟩,  -- PREWARN
   ⟨0x110, 1, 4, 0x0, 0x0, 0x0, 0x0, false, false⟩,  -- FEED
   ⟨0x114, 1, 4, 0x0, 0x0, 0x0, 0xFFFFFF, false, false⟩,  -- COUNT
   ⟨0x118, 1, 4, 0x0, 0x0, 0x0, 0xF, false, false⟩]  -- STAT

/-- The block registers of EVF (17 R402). -/
def evfRows : List RegRow :=
  [⟨0x100, 1, 4, 0x800, 0xF01, 0x0, 0x0, true, false⟩,  -- CFG
   ⟨0x104, 1, 4, 0x0, 0xFFFFFFFF, 0x0, 0x0, true, false⟩,  -- NATIVE_EN
   ⟨0x108, 1, 4, 0x0, 0x0, 0x0, 0x0, false, false⟩,  -- SW_TRIG
   ⟨0x10C, 1, 4, 0x0, 0x0, 0x0, 0x0, false, false⟩,  -- TASK_TRIG
   ⟨0x110, 1, 4, 0x0, 0x0, 0xFF, 0x0, false, false⟩,  -- IRQ_TASK
   ⟨0x114, 1, 4, 0x0, 0x0, 0x0, 0x0, false, false⟩,  -- LOOP_LAST
   ⟨0x118, 1, 4, 0x0, 0x0, 0x0, 0x0, false, false⟩,  -- DROPS
   ⟨0x140, 8, 4, 0x0, 0x31F, 0x0, 0x0, true, false⟩,  -- PIN_EVT
   ⟨0x160, 8, 4, 0x0, 0x31F, 0x0, 0x0, true, false⟩,  -- PIN_TASK
   ⟨0x200, 32, 8, 0x0, 0x800007FF, 0x0, 0x0, true, false⟩,  -- CH_PUB
   ⟨0x204, 32, 8, 0x0, 0x800001FF, 0x0, 0x0, true, false⟩]  -- CH_SUB

/-- The block registers of GPIO (23 R513). -/
def gpioRows : List RegRow :=
  [⟨0x100, 1, 4, 0x0, 0x0, 0x0, 0xFFFFFFFF, false, false⟩,  -- IN
   ⟨0x104, 1, 4, 0x0, 0xFFFFFFFF, 0x0, 0x0, false, false⟩,  -- OUT
   ⟨0x108, 1, 4, 0x0, 0x0, 0xFFFFFFFF, 0x0, false, false⟩,  -- INT_FLAG
   ⟨0x140, 32, 4, 0x0, 0x73F, 0x0, 0x0, true, false⟩]  -- PIN

/-- The block registers of HSP (16 R390). -/
def hspRows : List RegRow :=
  [⟨0x100, 1, 4, 0x0, 0xFF03, 0x0, 0x0, true, false⟩,  -- CFG
   ⟨0x104, 1, 4, 0x0, 0xFFFFFFFF, 0x0, 0x0, true, false⟩,  -- IRQ_SEL_LO
   ⟨0x108, 1, 4, 0x0, 0x1FF, 0x0, 0x0, true, false⟩,  -- IRQ_SEL_HI
   ⟨0x10C, 1, 4, 0x0, 0x0, 0x0, 0x0, false, false⟩,  -- DB_SET
   ⟨0x110, 1, 4, 0x0, 0x0, 0xFF, 0x0, false, false⟩,  -- DOORBELL
   ⟨0x114, 1, 4, 0x0, 0x0, 0x0, 0x0, false, false⟩,  -- LAST_STAT
   ⟨0x118, 1, 4, 0x0, 0x0, 0x0, 0x0, false, false⟩,  -- ERR_ADDR
   ⟨0x11C, 1, 4, 0x0, 0x0, 0x0, 0x0, false, false⟩,  -- LATE_DATA
   ⟨0x120, 1, 4, 0x0, 0x0, 0x0, 0x0, false, false⟩,  -- LATE_ADDR
   ⟨0x124, 1, 4, 0x0, 0x0, 0x0, 0x0, false, false⟩]  -- COUNTS

/-- The block registers of SPT (15 R376). -/
def sptRows : List RegRow :=
  [⟨0x100, 1, 4, 0x110700, 0xFFFF0F, 0x0, 0x0, true, false⟩,  -- CFG
   ⟨0x104, 1, 4, 0x0, 0x0, 0x0, 0x0, false, false⟩,  -- CTRL
   ⟨0x108, 1, 4, 0x0, 0x0, 0x0, 0xF1F1F, false, false⟩,  -- STAT
   ⟨0x10C, 1, 4, 0x7, 0x71F, 0x0, 0x0, false, true⟩,  -- QCTL
   ⟨0x110, 1, 4, 0x0, 0x0, 0x0, 0x0, false, false⟩,  -- QTX
   ⟨0x114, 1, 4, 0x0, 0x0, 0x0, 0x0, false, false⟩,  -- QRX
   ⟨0x118, 1, 4, 0xA08800, 0xFFFF7F, 0x0, 0x0, true, false⟩,  -- WIN_CFG
   ⟨0x11C, 1, 4, 0x506020B, 0xFFFFFFFF, 0x0, 0x0, true, false⟩,  -- WIN_CMD
   ⟨0x120, 1, 4, 0x140A08, 0xFFFF0F, 0x0, 0x0, true, false⟩,  -- WIN_POLL
   ⟨0x124, 1, 4, 0x0, 0x0, 0x0, 0x0, false, false⟩]  -- WIN_STAT

/-- The block registers of FLC (14 R358). -/
def flcRows : List RegRow :=
  [⟨0x100, 1, 4, 0x1403, 0xFF03, 0x0, 0x0, true, false⟩,  -- CFG
   ⟨0x104, 1, 4, 0x0, 0x0, 0x0, 0x0, false, false⟩,  -- CTRL
   ⟨0x108, 1, 4, 0x0, 0x0, 0x0, 0x3F03FD, false, false⟩,  -- STAT
   ⟨0x10C, 1, 4, 0x1, 0x7, 0x0, 0x700, false, false⟩,  -- WAIT
   ⟨0x110, 1, 4, 0x0, 0x7, 0x0, 0x0, false, false⟩,  -- MARGIN
   ⟨0x114, 1, 4, 0x0, 0x7FFFFFFF, 0x0, 0x0, true, false⟩,  -- PROT0
   ⟨0x118, 1, 4, 0x2FFE0, 0x3FFFF, 0x0, 0x0, true, false⟩,  -- PROT1
   ⟨0x11C, 1, 4, 0x0, 0x0, 0x1, 0x1FFFF3FF, false, false⟩,  -- ILOG
   ⟨0x140, 1, 4, 0x0, 0xFFFFFFFF, 0x0, 0x0, false, true⟩,  -- D_CMD
   ⟨0x144, 1, 4, 0x0, 0xFFFFFFFF, 0x0, 0x0, false, true⟩,  -- D_ADDR
   ⟨0x148, 1, 4, 0x0, 0xFFFFFFFF, 0x0, 0x0, false, true⟩,  -- D_SRC
   ⟨0x14C, 1, 4, 0x0, 0x0, 0x0, 0x0, false, true⟩,  -- SUBMIT
   ⟨0x150, 1, 4, 0x0, 0x0, 0x0, 0x0, false, false⟩,  -- DONE
   ⟨0x154, 1, 4, 0x0, 0x0, 0x0, 0x0, false, true⟩,  -- DONE_ADDR
   ⟨0x158, 1, 4, 0x0, 0x0, 0x0, 0x0, false, true⟩,  -- DONE_DATA
   ⟨0x400, 32, 16, 0x0, 0x0, 0x0, 0xFFFFFFFF, false, false⟩,  -- SLOT_CMD
   ⟨0x404, 32, 16, 0x0, 0x0, 0x0, 0xFFFFFFFF, false, false⟩,  -- SLOT_ADDR
   ⟨0x408, 32, 16, 0x0, 0x0, 0x0, 0xFFFFFFFF, false, false⟩,  -- SLOT_SRC
   ⟨0x40C, 32, 16, 0x0, 0x0, 0x0, 0xFFFFFFFF, false, false⟩]  -- SLOT_STATUS

/-- The block registers of SEC (12 R320). -/
def secRows : List RegRow :=
  [⟨0x100, 1, 4, 0x1000000, 0x1000FFF, 0x0, 0x0, true, false⟩,  -- CFG
   ⟨0x104, 1, 4, 0x0, 0x0, 0x0, 0x0, false, false⟩,  -- JOB_CMD
   ⟨0x108, 1, 4, 0x0, 0xFFFFFFFF, 0x0, 0x0, false, false⟩,  -- JOB_SRC
   ⟨0x10C, 1, 4, 0x0, 0xFFFFFFFF, 0x0, 0x0, false, false⟩,  -- JOB_DST
   ⟨0x110, 1, 4, 0x0, 0xFFFFF, 0x0, 0x0, false, false⟩,  -- JOB_LEN
   ⟨0x114, 1, 4, 0x0, 0x0, 0x0, 0x1, false, false⟩,  -- JOB_STAT
   ⟨0x118, 1, 4, 0x0, 0x0, 0x0, 0x0, false, false⟩,  -- RNG
   ⟨0x11C, 1, 4, 0x0, 0x0, 0x40, 0x2F, false, false⟩,  -- RNG_STAT
   ⟨0x120, 1, 4, 0x0, 0x0, 0x0, 0x0, false, false⟩,  -- STATS
   ⟨0x124, 1, 4, 0x3000, 0x0, 0x0, 0x33CFF, false, false⟩]  -- AUTH_STAT

/-- The block registers of KST (12 R321). -/
def kstRows : List RegRow :=
  [⟨0x100, 1, 4, 0x0, 0x0, 0x0, 0x0, false, false⟩,  -- CMD
   ⟨0x104, 1, 4, 0x0, 0xFF, 0x0, 0x0, false, false⟩,  -- ATTR
   ⟨0x108, 1, 4, 0x0, 0x0, 0x0, 0x1FFF1, false, false⟩,  -- STAT
   ⟨0x140, 12, 4, 0x0, 0xFFFFFFFF, 0x0, 0x0, false, false⟩]  -- DATA

/-- The block registers of RFE (03 R88). -/
def rfeRows : List RegRow :=
  [⟨0x100, 1, 4, 0x9010900, 0x1F01, 0x0, 0x1F010000, true, false⟩,  -- CFG
   ⟨0x104, 1, 4, 0x18031F00, 0x1F0F1F03, 0x0, 0x0, true, false⟩,  -- AGC_CTRL
   ⟨0x108, 1, 4, 0x64004, 0xFFF0F, 0x0, 0x0, true, false⟩,  -- AGC_TIME
   ⟨0x10C, 1, 4, 0x1F, 0x0, 0x0, 0x1F, false, false⟩,  -- GAIN_STAT
   ⟨0x110, 1, 4, 0x0, 0x0, 0x0, 0x3FF03FF, false, false⟩,  -- ADC_LEVEL
   ⟨0x114, 1, 4, 0x0, 0xFFFF, 0x0, 0x0, true, false⟩,  -- RSSI_OFS
   ⟨0x120, 1, 4, 0x801400, 0xFF1F01, 0x0, 0x0, true, false⟩,  -- WHIFF_CFG
   ⟨0x124, 1, 4, 0x0, 0xFFFFFFFF, 0x0, 0x0, false, false⟩,  -- WHIFF_MASK_LO
   ⟨0x128, 1, 4, 0x0, 0xFFFFFFFF, 0x0, 0x0, false, false⟩,  -- WHIFF_MASK_HI
   ⟨0x12C, 1, 4, 0x0, 0x0, 0x0, 0x0, false, false⟩]  -- WHIFF_STAT

/-- The block registers of RTX (04 R116). -/
def rtxRows : List RegRow :=
  [⟨0x100, 1, 4, 0x2, 0xF3, 0x0, 0x0, true, false⟩,  -- CFG
   ⟨0x104, 1, 4, 0x0, 0x777777, 0x0, 0x0, true, false⟩,  -- ANT_MAP
   ⟨0x108, 1, 4, 0x0, 0x0, 0x0, 0x0, false, false⟩,  -- TX_STAT
   ⟨0x10C, 1, 4, 0x0, 0x0, 0x0, 0x7, false, false⟩,  -- PATH_STAT
   ⟨0x110, 1, 4, 0x0, 0x0, 0x0, 0xFFFFFF, false, false⟩,  -- LOOP_OFS
   ⟨0x114, 1, 4, 0x0, 0x7FF, 0x0, 0x0, false, false⟩,  -- COMP_IDX
   ⟨0x118, 1, 4, 0x0, 0xFFFF, 0x0, 0x0, false, false⟩,  -- COMP_DATA
   ⟨0x11C, 1, 4, 0x0, 0x0, 0x0, 0xFFFFFFFF, false, false⟩,  -- SENSE
   ⟨0x120, 1, 4, 0x960, 0xFFF, 0x0, 0x0, true, false⟩,  -- VPA_CFG
   ⟨0x140, 16, 4, 0x0, 0x3FF, 0x0, 0x0, false, false⟩]  -- PWR_SLOT

/-- The block registers of SYN (03, 04 R89, R117). -/
def synRows : List RegRow :=
  [⟨0x100, 1, 4, 0x2EE00, 0x3FFFF, 0x0, 0x0, true, false⟩,  -- SCS_RATE
   ⟨0x104, 1, 4, 0x0, 0x0, 0x0, 0xF, false, false⟩,  -- SCS_STAT
   ⟨0x108, 1, 4, 0x2EE00, 0x0, 0x0, 0x3FFFF, false, false⟩,  -- SCS_ACTIVE
   ⟨0x10C, 1, 4, 0x0, 0x0, 0x0, 0x0, false, false⟩,  -- SCS_UNLOCKS
   ⟨0x140, 1, 4, 0x0, 0x0, 0x0, 0x3F, false, false⟩,  -- CRS_STAT
   ⟨0x144, 1, 4, 0x0, 0x0, 0x0, 0xFFFFFFFF, false, false⟩,  -- CRS_FREQ
   ⟨0x148, 1, 4, 0x0, 0x3FFFF, 0x0, 0x0, true, false⟩,  -- CRS_OFS
   ⟨0x14C, 1, 4, 0x0, 0x0, 0x0, 0x0, false, false⟩,  -- CRS_UNLOCKS
   ⟨0x150, 1, 4, 0x0, 0x0, 0x0, 0xFFFFFF, false, false⟩]  -- CRS_TPM

/-- The block registers of RAD (05 R142). -/
def radRows : List RegRow :=
  [⟨0x100, 1, 4, 0x0, 0x0, 0x0, 0x0, false, false⟩,  -- CMD
   ⟨0x104, 1, 4, 0x0, 0x1FF, 0x0, 0x0, false, false⟩,  -- CMD_ARG
   ⟨0x108, 1, 4, 0x0, 0xFFFFFFFF, 0x0, 0x0, false, false⟩,  -- CMD_AT_LO
   ⟨0x10C, 1, 4, 0x0, 0xFFFF, 0x0, 0x0, false, false⟩,  -- CMD_AT_HI
   ⟨0x110, 1, 4, 0x0, 0xFFFFFFFF, 0x0, 0x0, false, false⟩,  -- RX_MASK_LO
   ⟨0x114, 1, 4, 0x0, 0xFFFFFFFF, 0x0, 0x0, false, false⟩,  -- RX_MASK_HI
   ⟨0x118, 1, 4, 0x0, 0x0, 0x0, 0x1000, false, false⟩,  -- CMD_STAT
   ⟨0x11C, 1, 4, 0x0, 0x0, 0x0, 0x1007F, false, false⟩,  -- STATE
   ⟨0x120, 1, 4, 0xA033F, 0x1F033F, 0x0, 0x0, true, false⟩,  -- CAL_CFG
   ⟨0x124, 1, 4, 0x0, 0x0, 0x0, 0xFF033F3F, false, false⟩,  -- CAL_STAT
   ⟨0x128, 1, 4, 0x0, 0x0, 0x0, 0x0, false, false⟩]  -- COUNTS

/-- The block registers of CHN (06 R162, R149). -/
def chnRows : List RegRow :=
  [⟨0x100, 1, 4, 0x0, 0x0, 0x0, 0x0, false, false⟩,  -- DESC_ERR
   ⟨0x104, 1, 4, 0x0, 0x0, 0x0, 0xFFFFFFFF, false, false⟩,  -- INUSE_LO
   ⟨0x108, 1, 4, 0x0, 0x0, 0x0, 0xFFFFFFFF, false, false⟩,  -- INUSE_HI
   ⟨0x10C, 1, 4, 0x0, 0xFFFFFFFF, 0x0, 0x0, true, false⟩,  -- DESC_CFG_LO
   ⟨0x110, 1, 4, 0x0, 0xFFFFFFFF, 0x0, 0x0, true, false⟩,  -- DESC_CFG_HI
   ⟨0x140, 16, 4, 0x0, 0x0, 0x0, 0x3DF3F, false, false⟩,  -- STREAM
   ⟨0x800, 64, 32, 0x0, 0xFFFFFFFF, 0x0, 0x0, false, false⟩,  -- DESC_FREQ
   ⟨0x804, 64, 32, 0x0, 0x7FFF7FF, 0x0, 0x0, false, false⟩,  -- DESC_MODE
   ⟨0x808, 64, 32, 0x0, 0xFFFFFFFF, 0x0, 0x0, false, false⟩,  -- DESC_SYNC
   ⟨0x80C, 64, 32, 0x0, 0xFFFF173F, 0x0, 0x0, false, false⟩,  -- DESC_SYNC_CFG
   ⟨0x810, 64, 32, 0x0, 0x71FFFFF, 0x0, 0x0, false, false⟩,  -- DESC_RATE
   ⟨0x814, 64, 32, 0x0, 0xFFFFF, 0x0, 0x0, false, false⟩,  -- DESC_DEV
   ⟨0x818, 64, 32, 0x0, 0xFFFF03, 0x0, 0x0, false, false⟩,  -- DESC_CCA
   ⟨0x81C, 64, 32, 0x0, 0xFFFFFFFF, 0x0, 0x0, false, false⟩]  -- DESC_AUX

/-- The block registers of NBD (06 R163). -/
def nbdRows : List RegRow :=
  [⟨0x100, 1, 4, 0x106, 0x10F, 0x0, 0x0, true, false⟩,  -- CAPTURE
   ⟨0x104, 1, 4, 0x0, 0x0, 0x0, 0x0, false, false⟩,  -- STATS
   ⟨0x108, 1, 4, 0x0, 0x0, 0x0, 0x0, false, false⟩,  -- LOSS
   ⟨0x10C, 1, 4, 0x0, 0x0, 0x0, 0x0, false, false⟩,  -- LAST_LOSS
   ⟨0x140, 16, 4, 0x0, 0x0, 0x0, 0x33F07, false, false⟩]  -- SLICE

/-- The block registers of OFD (07 R193). -/
def ofdRows : List RegRow :=
  [⟨0x100, 1, 4, 0x1, 0x31, 0x0, 0x0, true, false⟩,  -- CFG
   ⟨0x104, 1, 4, 0x0, 0x0, 0x0, 0x0, false, false⟩,  -- STATS
   ⟨0x108, 1, 4, 0x0, 0x0, 0x0, 0x0, false, false⟩,  -- LOSS
   ⟨0x10C, 1, 4, 0x0, 0x0, 0x0, 0x0, false, false⟩,  -- LAST_LOSS
   ⟨0x110, 1, 4, 0x0, 0x0, 0x0, 0x0, false, false⟩,  -- TX_PROF
   ⟨0x140, 4, 4, 0x0, 0x0, 0x0, 0x33F07, false, false⟩]  -- LANE

/-- The block registers of FEC (07 R194). -/
def fecRows : List RegRow :=
  [⟨0x100, 1, 4, 0x0, 0x0, 0x0, 0x0, false, false⟩,  -- STATS
   ⟨0x104, 1, 4, 0x0, 0x0, 0x0, 0x0, false, false⟩,  -- WAIT
   ⟨0x108, 1, 4, 0x0, 0x0, 0x0, 0x1F001F, false, false⟩]  -- ACTIVE

/-- The block registers of LNK (09 R249). -/
def lnkRows : List RegRow :=
  [⟨0x100, 1, 4, 0x7D00401, 0xFFF0FF3, 0x0, 0x0, true, false⟩,  -- CFG
   ⟨0x104, 1, 4, 0x0, 0x77F, 0x0, 0x0, false, true⟩,  -- ENT_SEL
   ⟨0x108, 1, 4, 0x0, 0x0, 0x0, 0x0, false, false⟩,  -- ENT_CMD
   ⟨0x10C, 1, 4, 0x0, 0x0, 0x0, 0x0, false, true⟩,  -- ENT_RES
   ⟨0x110, 1, 4, 0x0, 0x0, 0x0, 0x0, false, false⟩,  -- DONE
   ⟨0x114, 1, 4, 0x0, 0x0, 0x0, 0x0, false, true⟩,  -- DONE_T
   ⟨0x118, 1, 4, 0x0, 0x0, 0x0, 0x77F89, false, false⟩,  -- STAT
   ⟨0x11C, 1, 4, 0x2001, 0xE0FF, 0x0, 0x0, true, false⟩,  -- ACK_CFG
   ⟨0x120, 1, 4, 0x0, 0x17FFFFF, 0x0, 0x0, true, false⟩,  -- CSL_CFG
   ⟨0x124, 1, 4, 0x0, 0x0, 0x0, 0x0, false, false⟩,  -- CCA_STAT
   ⟨0x128, 1, 4, 0x0, 0x0, 0x0, 0x0, false, false⟩,  -- SPEC_STAT
   ⟨0x12C, 1, 4, 0x0, 0x0, 0x0, 0x0, false, false⟩,  -- ARB_STAT
   ⟨0x130, 1, 4, 0x0, 0x0, 0x0, 0x0, false, false⟩,  -- SPEC_LOSS
   ⟨0x140, 8, 4, 0x0, 0xFFFFFFFF, 0x0, 0x0, false, true⟩,  -- ENT_W
   ⟨0x160, 8, 4, 0x0, 0xFFFFFFFF, 0x0, 0x0, false, false⟩,  -- ACK_IE
   ⟨0x184, 4, 4, 0x0, 0xFFF, 0x0, 0x0, true, false⟩,  -- ACK_IFS1 to ACK_IFS4
   ⟨0x194, 3, 4, 0x0, 0x0, 0x0, 0x0, true, false⟩,  -- ACK_IFS5 to ACK_IFS7
   ⟨0x1A0, 2, 4, 0x0, 0xFFF, 0x0, 0x0, true, false⟩,  -- ACK_IFS8, ACK_IFS9
   ⟨0x1C0, 8, 4, 0x0, 0x3, 0x0, 0x0, false, false⟩]  -- LE_CTX

/-- The block registers of FRM (10 R276). -/
def frmRows : List RegRow :=
  [⟨0x100, 1, 4, 0x20200003, 0xFFFF007F, 0x0, 0x0, true, false⟩,  -- CFG
   ⟨0x104, 1, 4, 0x72F, 0x7FF, 0x0, 0x0, true, false⟩,  -- TYPES
   ⟨0x108, 1, 4, 0x0, 0xFFFFFFFF, 0x0, 0x0, true, false⟩,  -- EXT_ADDR_LO
   ⟨0x10C, 1, 4, 0x0, 0xFFFFFFFF, 0x0, 0x0, true, false⟩,  -- EXT_ADDR_HI
   ⟨0x110, 4, 4, 0x0, 0xFFFFFFFF, 0x0, 0x0, true, false⟩,  -- PAN
   ⟨0x120, 1, 4, 0x0, 0xFF, 0x0, 0x0, true, false⟩,  -- PAN_CFG
   ⟨0x124, 1, 4, 0x0, 0x0, 0x0, 0x0, false, false⟩,  -- ALLOC
   ⟨0x128, 1, 4, 0x0, 0x0, 0x0, 0x0, false, false⟩,  -- RELEASE
   ⟨0x12C, 1, 4, 0x0, 0x0, 0x0, 0x0, false, false⟩,  -- RXQ
   ⟨0x130, 1, 4, 0x200, 0x0, 0x0, 0x3FF03FF, false, false⟩,  -- POOL
   ⟨0x134, 1, 4, 0x0, 0x0, 0x0, 0x0, false, false⟩,  -- DROP0
   ⟨0x138, 1, 4, 0x0, 0x0, 0x0, 0x0, false, false⟩,  -- DROP1
   ⟨0x13C, 1, 4, 0x0, 0x0, 0x0, 0x0, false, false⟩,  -- DROP2
   ⟨0x140, 1, 4, 0x0, 0x0, 0x0, 0x0, false, false⟩]  -- VIOL

/-- The block registers of NBT (10 R278). -/
def nbtRows : List RegRow :=
  [⟨0x100, 1, 4, 0x8, 0xF, 0x0, 0x0, true, false⟩,  -- CFG
   ⟨0x104, 1, 4, 0x0, 0x0, 0x0, 0x0, false, false⟩,  -- CMD
   ⟨0x108, 1, 4, 0x0, 0x1FFFF, 0x0, 0x0, false, true⟩,  -- INDEX
   ⟨0x10C, 1, 4, 0x0, 0x0, 0x0, 0x80000000, false, true⟩,  -- RES
   ⟨0x110, 1, 4, 0x0, 0x0, 0x0, 0x0, false, true⟩,  -- HASH
   ⟨0x114, 1, 4, 0x0, 0x0, 0x0, 0x7F7FFF, false, false⟩,  -- COUNT
   ⟨0x118, 1, 4, 0x0, 0x0, 0x0, 0x0, false, false⟩,  -- STATS
   ⟨0x140, 8, 4, 0x0, 0xFFFFFFFF, 0x0, 0x0, false, true⟩]  -- DATA

/-- The block registers of HVL (11 R302). -/
def hvlRows : List RegRow :=
  [⟨0x100, 1, 4, 0x4600, 0xFF07, 0x0, 0x0, true, false⟩,  -- CFG
   ⟨0x104, 1, 4, 0x28, 0x0, 0x0, 0x7FF003F, false, false⟩,  -- STAT
   ⟨0x108, 1, 4, 0x0, 0x0, 0x0, 0xFFFF, false, false⟩,  -- MEMBERS
   ⟨0x10C, 1, 4, 0x0, 0x0, 0x0, 0xF, false, false⟩,  -- LANE_RET
   ⟨0x110, 1, 4, 0x0, 0x0, 0x0, 0x0, false, false⟩,  -- ERRS
   ⟨0x114, 1, 4, 0x0, 0x0, 0x0, 0x0, false, false⟩,  -- LAT
   ⟨0x118, 1, 4, 0x0, 0x0, 0x0, 0x3FF, false, false⟩,  -- FWD_STAT
   ⟨0x11C, 1, 4, 0x0, 0x0, 0x0, 0x0, false, false⟩]  -- SYNC

/-- The block registers of FLT (21 R481). -/
def fltRows : List RegRow :=
  [⟨0x100, 1, 4, 0xA0403, 0x1FF0F0F, 0x0, 0x0, true, false⟩,  -- CFG
   ⟨0x104, 1, 4, 0x3E8, 0xFFFF, 0x0, 0x0, true, false⟩,  -- SEAL_INT
   ⟨0x108, 1, 4, 0x0, 0x0, 0x18, 0xFFFF0067, false, false⟩,  -- STAT
   ⟨0x10C, 1, 4, 0x0, 0x0, 0x0, 0x0, false, false⟩,  -- LOG
   ⟨0x110, 1, 4, 0x0, 0x0, 0x0, 0x0, false, true⟩,  -- LOG_T
   ⟨0x114, 1, 4, 0x0, 0x0, 0x0, 0x0, false, false⟩,  -- CMD
   ⟨0x118, 1, 4, 0x0, 0x0, 0x0, 0x80000000, false, false⟩,  -- RES
   ⟨0x120, 1, 4, 0x0, 0x0, 0x0, 0xF7FFFFF, false, false⟩,  -- RET_UNITS
   ⟨0x128, 4, 4, 0x0, 0x0, 0x0, 0xFFFFFFFF, false, false⟩,  -- RET_FLASH
   ⟨0x138, 2, 4, 0x0, 0x0, 0x0, 0xFFFFFFFF, false, false⟩,  -- RET_SRAM
   ⟨0x140, 2, 4, 0x0, 0x0, 0x0, 0xFFFFFFFF, false, false⟩]  -- PEND_SRAM

/-- The block registers of BST (22 R491). -/
def bstRows : List RegRow :=
  [⟨0x100, 1, 4, 0x0, 0x0, 0x0, 0x0, false, false⟩,  -- CMD
   ⟨0x104, 1, 4, 0x0, 0x0, 0x0, 0xC0000000, false, false⟩,  -- RES
   ⟨0x108, 1, 4, 0x0, 0x0, 0x0, 0x0, false, false⟩,  -- SIG
   ⟨0x10C, 1, 4, 0x0, 0x0, 0x0, 0x0, false, false⟩]  -- FAIL_ADDR

/-- The block registers of REC (22 R505). -/
def recRows : List RegRow :=
  [⟨0x100, 1, 4, 0x6040000, 0x7F0F333F, 0x0, 0x0, true, false⟩,  -- CFG
   ⟨0x104, 1, 4, 0x0, 0x7FE001F, 0x0, 0x0, true, false⟩,  -- TRIG_EN
   ⟨0x108, 1, 4, 0x0, 0x0, 0x0, 0x0, false, false⟩,  -- CTRL
   ⟨0x10C, 1, 4, 0x0, 0x0, 0x0, 0x0, false, false⟩,  -- STAT
   ⟨0x110, 1, 4, 0x0, 0x0, 0x0, 0x0, false, false⟩,  -- MARK
   ⟨0x114, 1, 4, 0x0, 0x0, 0x0, 0x0, false, false⟩]  -- RPQ

/-- The block registers of UPD (20 R463). -/
def updRows : List RegRow :=
  [⟨0x100, 1, 4, 0xA20A1E, 0xFFFFFFF, 0x0, 0x0, true, false⟩,  -- CFG
   ⟨0x104, 1, 4, 0x0, 0x0, 0x0, 0x0, false, false⟩,  -- CMD
   ⟨0x108, 1, 4, 0x0, 0xFFFFFFFF, 0x0, 0x0, false, false⟩,  -- AT_LO
   ⟨0x10C, 1, 4, 0x0, 0xFFFF, 0x0, 0x0, false, false⟩,  -- AT_HI
   ⟨0x110, 1, 4, 0x0, 0x0, 0x0, 0xFF00FF0F, false, false⟩,  -- STAT
   ⟨0x114, 1, 4, 0x0, 0x0, 0x0, 0xFFFFFFFF, false, false⟩,  -- PARTS
   ⟨0x118, 1, 4, 0x0, 0x0, 0x0, 0x0, false, false⟩,  -- CONFIRM
   ⟨0x11C, 1, 4, 0x0, 0x0, 0x0, 0x0, false, false⟩,  -- HANDOVER
   ⟨0x120, 1, 4, 0x0, 0x0, 0x0, 0xFFFFFF, false, false⟩]  -- WINDOW

/-- The block registers of ICU (13 R335). -/
def icuRows : List RegRow :=
  [⟨0x100, 1, 4, 0x0, 0x0, 0x0, 0x0, false, true⟩,  -- CLAIM
   ⟨0x104, 1, 4, 0x0, 0x0, 0x0, 0x0, false, true⟩,  -- COMPLETE
   ⟨0x108, 1, 4, 0x0, 0x7, 0x0, 0x0, false, true⟩,  -- THRESHOLD
   ⟨0x10C, 1, 4, 0x0, 0x0, 0x0, 0x0, false, true⟩,  -- CACHE_INV
   ⟨0x110, 1, 4, 0x0, 0x0, 0x0, 0x3FFFF, false, false⟩,  -- MBOX_STAT
   ⟨0x140, 6, 4, 0x0, 0x0, 0x0, 0x0, false, false⟩,  -- MBOX_TX
   ⟨0x160, 6, 4, 0x0, 0x0, 0x0, 0x0, false, false⟩,  -- MBOX_RX
   ⟨0x200, 128, 4, 0x0, 0x37, 0x0, 0x300, true, false⟩]  -- SRC

/-- The block registers of DBG (13 R336). -/
def dbgRows : List RegRow :=
  [⟨0x100, 1, 4, 0x0, 0x3, 0x0, 0x0, true, false⟩,  -- CFG
   ⟨0x104, 1, 4, 0x30, 0x0, 0x0, 0x37, false, false⟩]  -- STAT

/-- The block registers of TSN (04 R119). -/
def tsnRows : List RegRow :=
  [⟨0x100, 1, 4, 0x69000708, 0xFF000FFF, 0x0, 0x0, true, false⟩,  -- CFG
   ⟨0x104, 1, 4, 0x0, 0x0, 0x0, 0x0, false, false⟩,  -- CTRL
   ⟨0x108, 1, 4, 0x0, 0x0, 0x0, 0x0, false, false⟩,  -- SAMPLE
   ⟨0x10C, 1, 4, 0x0, 0x0, 0x0, 0xFFFFFFFF, false, false⟩,  -- LIVE
   ⟨0x110, 1, 4, 0x0, 0x0, 0x0, 0x3, false, false⟩]  -- STAT

end RegTable

/-- The block registers of the page with index `p` (02 R36); the TMR and the SPT pages share their tables (R37). -/
def pageRows : Nat → List RegRow
  | 0x00 => RegTable.sysRows
  | 0x01 => RegTable.pwrRows
  | 0x02 => RegTable.clkRows
  | 0x03 => RegTable.rrpRows
  | 0x04 => RegTable.wkpRows
  | 0x05 => RegTable.tmbRows
  | 0x06 => RegTable.tmrRows
  | 0x07 => RegTable.tmrRows
  | 0x08 => RegTable.tmrRows
  | 0x09 => RegTable.tmrRows
  | 0x0A => RegTable.lptRows
  | 0x0B => RegTable.wdtRows
  | 0x0C => RegTable.evfRows
  | 0x0D => RegTable.gpioRows
  | 0x0E => RegTable.hspRows
  | 0x0F => RegTable.sptRows
  | 0x10 => RegTable.sptRows
  | 0x11 => RegTable.sptRows
  | 0x12 => RegTable.sptRows
  | 0x13 => RegTable.flcRows
  | 0x14 => RegTable.secRows
  | 0x15 => RegTable.kstRows
  | 0x16 => RegTable.rfeRows
  | 0x17 => RegTable.rtxRows
  | 0x18 => RegTable.synRows
  | 0x19 => RegTable.radRows
  | 0x1A => RegTable.chnRows
  | 0x1B => RegTable.nbdRows
  | 0x1C => RegTable.ofdRows
  | 0x1D => RegTable.fecRows
  | 0x1E => RegTable.lnkRows
  | 0x1F => RegTable.frmRows
  | 0x20 => RegTable.nbtRows
  | 0x21 => RegTable.hvlRows
  | 0x22 => RegTable.fltRows
  | 0x23 => RegTable.bstRows
  | 0x24 => RegTable.recRows
  | 0x25 => RegTable.updRows
  | 0x26 => RegTable.icuRows
  | 0x27 => RegTable.dbgRows
  | 0x28 => RegTable.tsnRows
  | _ => []

end Sys2Proof.Machine
end

