-- ==== Sys2Proof/Machine/Sparse.lean ====
section
/-! DEFINITION. Sparse maps: a list of (address, value) pairs in one canonical form, with a default value for every address
that the list does not name. Registers and memory are held so: equal contents are equal lists. -/

namespace Sys2Proof.Machine.Sparse

/-- The value at `a`: the listed one, or the default. -/
def get {α : Type} (d : Nat → α) : List (Nat × α) → Nat → α
  | [], a => d a
  | (k, v) :: m, a => if a = k then v else if a < k then d a else get d m a

/-- `m` with `v` listed at `a`, in ascending order. -/
def put {α : Type} (a : Nat) (v : α) : List (Nat × α) → List (Nat × α)
  | [] => [(a, v)]
  | (k, x) :: m => if a < k then (a, v) :: (k, x) :: m else if a = k then (a, v) :: m else (k, x) :: put a v m

/-- `m` with nothing listed at `a`. -/
def del {α : Type} (a : Nat) : List (Nat × α) → List (Nat × α)
  | [] => []
  | (k, x) :: m => if a = k then m else if a < k then (k, x) :: m else (k, x) :: del a m

/-- Write `v` at `a`; writing the default removes the entry, so the canonical form stays. -/
def set {α : Type} [DecidableEq α] (d : Nat → α) (m : List (Nat × α)) (a : Nat) (v : α) : List (Nat × α) :=
  if v = d a then del a m else put a v m

/-- The canonical form from address `lo` on: strictly rising addresses, no default value listed. -/
def wfFrom {α : Type} [DecidableEq α] (d : Nat → α) : Nat → List (Nat × α) → Bool
  | _, [] => true
  | lo, (k, v) :: m => decide (lo ≤ k) && decide (v ≠ d k) && wfFrom d (k + 1) m

/-- The canonical form. -/
def wf {α : Type} [DecidableEq α] (d : Nat → α) (m : List (Nat × α)) : Bool := wfFrom d 0 m

/-- `m` without the entries whose address `p` names: those addresses read their default again. -/
def clear {α : Type} (p : Nat → Bool) (m : List (Nat × α)) : List (Nat × α) := m.filter (fun c => !p c.1)

end Sys2Proof.Machine.Sparse
end

