-- ==== Sys2Proof/Machine/State.lean ====
section
/-! DEFINITION. The state of the device: registers, memory, the parts that are no register, and the queue of commands that
wait; the reasons for which a command can stop; and the state right after a power-on reset. -/

namespace Sys2Proof.Machine

/-- Why a command stops with a fault. No command of this model does: an error of the device is an effect on its state. -/
inductive Fault where
  /-- Raised by no meaning: the specification gives every command of the table an effect. Safe. -/
  | noEffect
  deriving DecidableEq, Repr

/-- Why a command is refused. -/
inductive Refusal where
  /-- A command whose meaning is not written yet, by its mnemonic. Raised by its arm of `exec` only. Safe. -/
  | notModelled (mnemonic : String)
  deriving DecidableEq, Repr

/-- The reset value of the register at address `a`, from its page's table (00 R13); 0 where no register lies (00 R14). -/
def findRow (off : Nat) : List RegRow → Option RegRow
  | [] => none
  | r :: rs =>
    if r.off ≤ off ∧ (off - r.off) % r.stride = 0 ∧ (off - r.off) / r.stride < r.count then some r else findRow off rs

/-- The table row of the register at offset `off` of page `p`. -/
def rowOf (p off : Nat) : Option RegRow := findRow off (if off < 0x100 then RegTable.header else pageRows p)

/-- The pages whose ENABLE resets to 1 (02 R50). -/
def enabledAtReset (p : Nat) : Bool := [0, 1, 2, 4, 5, 0x13, 0x26, 0x27].contains p

/-- The reset value of the register at address `a`. -/
def resetOf (a : Nat) : Word :=
  let p := (a - 0x40000000) / 0x1000
  let off := a % 0x1000
  if off = 8 then (if enabledAtReset p then 1 else 0)
  else if p = 0x1E ∧ 0x184 ≤ off ∧ off ≤ 0x1A4 then
    (let m := (off - 0x180) / 4
     if m = 3 then 192 else if m = 5 ∨ m = 6 ∨ m = 7 then 0 else 1000)
  else match rowOf p off with
    | some r => BitVec.ofNat 32 r.reset
    | none => 0

/-- The bytes of loading profile 0, which is fixed (07 R178). -/
def profile0 (i : Nat) : Byte :=
  if i < 36 then (if i % 3 = 0 then 0x49 else if i % 3 = 1 then 0x92 else 0x24)
  else if i = 36 then 96 else if i = 38 then 1 else if i = 40 then 0x28 else if i = 41 then 0xDE else 0

/-- What a byte of memory that nothing has written reads as: erased flash all ones (14 R338; log entry 4), loading profile 0
(07 R178), every other byte 0, as the SRAMs are cleared when they are powered (13 R326). -/
def memDefault (a : Nat) : Byte :=
  if a < 0x400000 then 0xFF
  else if 0x20500000 ≤ a ∧ a < 0x20500030 then profile0 (a - 0x20500000)
  else 0

/-- A working copy that nothing has loaded. -/
def copy0 : DescCopy := ⟨0, 0, 0, 0, 0, 0, 0, 0⟩

/-- A slice or lane at reset. -/
def rxSlot0 : RxSlot := ⟨none, copy0, none, false, false, none, none⟩

/-- A timeline entry at reset. -/
def entry0 : TlEntry := ⟨[], .empty, 0, 0, 0, false, none, false, false⟩

/-- A speculation context at reset. -/
def ctx0 : AckCtx :=
  ⟨none, false, false, .slice 0, 0, copy0, 0, none, none, false, [], 0, 0, false, none, false, 0, 0, none, 0, 0, [], false⟩

/-- How no frame has ended. -/
def end0 : EntryEnd := ⟨1, false, false, false, false, false, 0⟩

/-- A port of the cascade link at reset. -/
def hop0 : Hop := ⟨false, false, 0, [], [], false, []⟩

/-- An alarm at reset (08 R200). -/
def alarm0 : Alarm := ⟨0, false, false, none, 0⟩

/-- An engine without code. -/
def eng0 : Eng := ⟨false, 0, false, false, 0, 0, []⟩

/-- The boot ROM after a power-on reset: it has not started. -/
def boot0 : Boot := ⟨none, 1, false, false, true, [], [], 0, false, 0⟩

/-- The update unit at reset. -/
def upd0 : Upd := ⟨0, 0, 0, 0, none, 0, [], [], [], 0, none, false, false, none⟩

/-- The flash controller at reset. -/
def flash0 : Flash := ⟨0, [], [], List.replicate 32 .apc, none, false, false, false, false, [], []⟩

/-- A serial port at reset: the word sent again is 0 with 8 bits (15 R366). -/
def spt0 : Spt := ⟨[], false, [], none, (0, 8), 0, [], false, false, true, none, []⟩

/-- The host port at reset. -/
def hsp0 : Hsp := ⟨0, 0, [], false, false, false, false, false, false, false, 0, []⟩

/-- The whole state of the device. -/
structure State where
  /-- Commands that wait, first in first out. -/
  pending  : List Instr
  /-- The variant of the device (00 R2). -/
  variant  : Variant
  /-- The registers that are shared by all initiators, by address. -/
  regs     : List (Nat × Word)
  /-- The registers with one copy per initiator (02 R48, R53), keyed by the copy number and the address. -/
  bank     : List (Nat × Word)
  /-- Memory. -/
  mem      : List Host.Cell
  /-- The last answer each initiator got. -/
  out      : PerInit BusAnswer
  /-- Accesses that wait. -/
  stalled  : List Stalled
  /-- The pages' parts that are no register, by page index. -/
  pages    : List PageState
  /-- The model's own counter of free values (log entry 1). -/
  freeCtr  : Nat
  /-- The 48-bit count of the time base (08 R195). -/
  count    : Nat
  alarms   : List Alarm
  tmrs     : List Tmr
  lpts     : List Lpt
  /-- Writes to LPT registers that have not reached the LFCLK domain (08 R211): the register's address and the value that domain still sees. -/
  lptPend  : List (Nat × Word)
  wdtFeed  : Bool
  radio    : Radio
  rfe      : Rfe
  crs      : Crs
  slices   : List RxSlot
  lanes    : List RxSlot
  /-- The entries of the compensation tables that software has overwritten (04 R110). -/
  comp     : List (Nat × Half)
  timeline : List TlEntry
  doneQ    : List DoneRec
  ctxs     : List AckCtx
  shared   : List SharedReq
  inService : List SharedReq
  rxSeq    : Nat
  owners   : List Owner
  rxq      : List Nat
  stash    : List (Nat × Nat)
  reserved : List (Nat × Nat)
  /-- The model's own record (log entry 80): the outbound values that other devices have given this one, by global index, so that none comes twice. -/
  outUsed  : List (Nat × Nat)
  nbtJobs  : PerInit (Option NbtJob)
  sec      : Sec
  hvl      : Hvl
  fabric   : Fabric
  recorder : Recorder
  bst      : Option BstRun
  passed   : List Nat
  flt      : Flt
  pwr      : Pwr
  boot     : Boot
  upd      : Upd
  /-- The engines, in the order NIB_A, NIB_B, QL0 to QL3, RCP, HVE. -/
  eng      : List Eng
  cores    : Cores
  icu      : Icu
  flash    : Flash
  spts     : List Spt
  prefetch : Prefetch
  hsp      : Hsp
  /-- A chip reset that the watchdog or the fault manager has asked for, by its cause code (19 R431). -/
  resetReq : Option Nat
  deriving DecidableEq, Repr

/-- The state right after a power-on reset (19 R431): every register at its table's reset value, empty memory, nothing in
progress. -/
def State.reset : State where
  pending := []
  variant := .znl7240
  regs := []
  bank := []
  mem := []
  out := PerInit.all ⟨0, .ok⟩
  stalled := []
  pages := List.replicate 41 ⟨none, false, 0, false⟩
  freeCtr := 0
  count := 0
  alarms := List.replicate 8 alarm0
  tmrs := List.replicate 4 ⟨0xFFFFFFFF, [0, 0, 0, 0], 0⟩
  lpts := List.replicate 2 ⟨0xFFFFFF, 0⟩
  lptPend := []
  wdtFeed := false
  radio := ⟨none, none, false, none, none, none, none, false, false, false, 0, 0, false, false, end0, .internal, 0, none, none, none, none, none, 0, false, false, false, false, []⟩
  rfe := ⟨0, 0, none, false, false, 0, 0⟩
  crs := ⟨none, [], none, false⟩
  slices := List.replicate 16 rxSlot0
  lanes := List.replicate 4 rxSlot0
  comp := []
  timeline := List.replicate 128 entry0
  doneQ := []
  ctxs := List.replicate 4 ctx0
  shared := []
  inService := []
  rxSeq := 0
  owners := List.replicate 512 .free
  rxq := []
  stash := []
  reserved := []
  outUsed := []
  nbtJobs := PerInit.all none
  sec := ⟨[], List.replicate 14 0, 0, [], 0, none, none, none, 0, 0⟩
  hvl := ⟨hop0, hop0, 0, none, 0, [], 0, false, 0, [], [], [], [], false, 0, [], [], 0⟩
  fabric := ⟨[], [], [], 0, []⟩
  recorder := ⟨0, false, 0, 0, false, [], []⟩
  bst := none
  passed := []
  flt := ⟨[], [], [], false, false, [], [], false, [], [], 0, 0⟩
  pwr := ⟨.active, none, [], false, [], [], false, .none, 0, false, false, false, 0, []⟩
  boot := boot0
  upd := upd0
  eng := List.replicate 8 eng0
  cores := ⟨[.scc], [], [], []⟩
  icu := ⟨[], List.replicate 6 []⟩
  flash := flash0
  spts := List.replicate 4 spt0
  prefetch := ⟨[], none, false, false, none⟩
  hsp := hsp0
  resetReq := none

end Sys2Proof.Machine
end

