-- ==== Sys2Proof/Machine/Ops.lean ====
section
/-! DEFINITION. The named operations over registers, memory and events: every access of a meaning to a register, a byte of
memory, an interrupt flag, an event, a free value or a buffer block goes through one of these. -/

namespace Sys2Proof.Machine

/-- The number of an initiator's copies (02 R48). -/
def iniIx : Initiator → Nat
  | .apc => 0 | .ntc => 1 | .scc => 2 | .host => 3 | .debug => 4

/-- `f` on the value of an option, or `s` itself. -/
def optDo {α : Type} (o : Option α) (s : State) (f : α → State) : State :=
  match o with
  | some a => f a
  | none => s

namespace State

/-- The shared register at address `a`. -/
def reg (s : State) (a : Nat) : Word := Sparse.get resetOf s.regs a

/-- Write the shared register at address `a`. -/
def setReg (s : State) (a : Nat) (w : Word) : State := { s with regs := Sparse.set resetOf s.regs a w }

/-- A field of a shared register. -/
def get (s : State) (f : Field) : Nat := bitsOf (s.reg f.addr).toNat f.lo f.width

/-- A one-bit field as a truth value. -/
def on (s : State) (f : Field) : Bool := s.get f != 0

/-- Write a field of a shared register, the register's other fields unchanged. -/
def put (s : State) (f : Field) (v : Nat) : State :=
  s.setReg f.addr (BitVec.ofNat 32 (putBits (s.reg f.addr).toNat f.lo f.width v))

/-- Write a signed value into a field of a shared register. -/
def putInt (s : State) (f : Field) (v : Int) : State := s.put f (lowBits f.width v)

/-- A field of a shared register as a signed number. -/
def getInt (s : State) (f : Field) : Int := signedN f.width (s.get f)

/-- Count one up in a field, holding at its greatest value (the counters of 06 R163, 10 R276 and others saturate). -/
def countSat (s : State) (f : Field) : State :=
  if s.get f + 1 < 2 ^ f.width then s.put f (s.get f + 1) else s

/-- Count one up in a field, wrapping. -/
def countWrap (s : State) (f : Field) : State := s.put f (s.get f + 1)

/-- The key of initiator `i`'s copy of the register at `a`. -/
def bankKey (i : Initiator) (a : Nat) : Nat := iniIx i * 0x100000000 + a

/-- The reset value of a copied register. -/
def bankReset (k : Nat) : Word := resetOf (k % 0x100000000)

/-- Initiator `i`'s copy of the register at `a`. -/
def regI (s : State) (i : Initiator) (a : Nat) : Word := Sparse.get bankReset s.bank (bankKey i a)

/-- Write initiator `i`'s copy of the register at `a`. -/
def setRegI (s : State) (i : Initiator) (a : Nat) (w : Word) : State :=
  { s with bank := Sparse.set bankReset s.bank (bankKey i a) w }

/-- A field of initiator `i`'s copy. -/
def getI (s : State) (i : Initiator) (f : Field) : Nat := bitsOf (s.regI i f.addr).toNat f.lo f.width

/-- Write a field of initiator `i`'s copy. -/
def putI (s : State) (i : Initiator) (f : Field) (v : Nat) : State :=
  s.setRegI i f.addr (BitVec.ofNat 32 (putBits (s.regI i f.addr).toNat f.lo f.width v))

/-- One byte of memory. -/
def byte (s : State) (a : Nat) : Byte := Sparse.get memDefault s.mem a

/-- Write one byte of memory; the 48 bytes of profile 0 ignore writes (07 R178). A word that is written holds new check bits, so a
double-bit error it held is gone (13 R325). -/
def setByte (s : State) (a : Nat) (b : Byte) : State :=
  if 0x20500000 ≤ a ∧ a < 0x20500030 then s
  else { s with mem := Sparse.set memDefault s.mem a b, flt := { s.flt with badWords := s.flt.badWords.filter (· != a / 4 * 4) } }

/-- `n` bytes of memory from `a` up. -/
def bytesAt (s : State) (a : Nat) : Nat → List Byte
  | 0 => []
  | n + 1 => s.byte a :: bytesAt s (a + 1) n

/-- Write bytes from `a` up. -/
def setBytes (s : State) (a : Nat) : List Byte → State
  | [] => s
  | b :: bs => setBytes (s.setByte a b) (a + 1) bs

end State

/-- The number that bytes spell, least significant first. -/
def leNat : List Byte → Nat
  | [] => 0
  | b :: bs => b.toNat + 256 * leNat bs

/-- `n` bytes of a number, least significant first. -/
def natLe : Nat → Nat → List Byte
  | 0, _ => []
  | n + 1, v => BitVec.ofNat 8 v :: natLe n (v / 256)

namespace State

/-- `n` bytes of memory as a little-endian number. -/
def memNat (s : State) (a n : Nat) : Nat := leNat (s.bytesAt a n)

/-- A memory word that holds a double-bit error (13 R325). -/
def badWord (s : State) (a : Nat) : Bool := s.flt.badWords.contains (a / 4 * 4)

/-- Write a number as `n` little-endian bytes. -/
def setMemNat (s : State) (a n v : Nat) : State := s.setBytes a (natLe n v)

/-- The next free value (log entry 1) and the state with the counter moved on. -/
def freeVal (s : State) : Word × State := (Config.freeWord s.freeCtr, { s with freeCtr := s.freeCtr + 1 })

/-- Whether page `p` has ENABLE = 1 (02 R52). -/
def enabled (s : State) (p : Nat) : Bool := s.on (F.PAGE_CTRL_ENABLE p)

/-- Whether page `p` is locked (02 R54). -/
def locked (s : State) (p : Nat) : Bool := s.on (F.PAGE_CTRL_LOCK p)

/-- PAGE_STAT.STATE of page `p`. -/
def pageSt (s : State) (p : Nat) : Nat := s.get (F.PAGE_STAT_STATE p)

/-- Set PAGE_STAT.STATE of page `p`. -/
def setPageSt (s : State) (p v : Nat) : State := s.put (F.PAGE_STAT_STATE p) v

/-- Whether the fabric clock runs: the core domain is on and a fast clock runs (17 R396). -/
def fabricOn (s : State) : Bool :=
  (s.pwr.state == .active || s.pwr.state == .sleep) && (s.on F.CLK_STAT_HFRC_OK || s.on F.CLK_STAT_HFXO_OK)

/-- A wake source arrives at the power manager, by its code (18 R413). -/
def wake (s : State) (code : Nat) : State :=
  if s.pwr.wakes.contains code then s else { s with pwr := { s.pwr with wakes := s.pwr.wakes ++ [code] } }

/-- The pages whose events a latch of the base note domain holds while the fabric stands still (17 R397). -/
def latchedPage (p : Nat) : Bool := p == P.TMB || p == P.LPT || p == P.WDT || p == P.GPIO

/-- Event `n` of page `p` is raised: it waits for the next fabric edge while EVT_PUB_EN publishes it and the page is enabled
(17 R391, 02 R52); a repeat before that edge is the same event (17 R396). -/
def event (s : State) (p n : Nat) : State :=
  if s.enabled p && (s.reg (Reg.EVT_PUB_EN p)).toNat.testBit n then
    (let e := 32 * p + n
     if s.fabricOn then
       (if s.fabric.raised.contains e then s else { s with fabric := { s.fabric with raised := s.fabric.raised ++ [e] } })
     else if latchedPage p && !s.fabric.held.contains e then
       { s with fabric := { s.fabric with held := s.fabric.held ++ [e] } }
     else s)
  else s

/-- Whether a reserved, absent or present page's domain etc. are judged elsewhere; this is the page's own part. -/
def page (s : State) (p : Nat) : PageState := s.pages.getD p ⟨none, false, 0, false⟩

/-- Replace the part of page `p` that is no register. -/
def setPage (s : State) (p : Nat) (x : PageState) : State := { s with pages := s.pages.set p x }

/-- A configuration register of page `p` has changed: during a seal computation SEAL_DIRTY is set (02 R57). -/
def cfgChange (s : State) (p : Nat) : State :=
  match (s.page p).run with
  | some r => (s.setPage p { s.page p with run := some { r with dirty := true } }).put (F.PAGE_STAT_SEAL_DIRTY p) 1
  | none => s

/-- The answer an initiator gets. -/
def answer (s : State) (i : Initiator) (v : Word) (h : BusEnd) : State := { s with out := s.out.set i ⟨v, h⟩ }

/-- Whether engine `e` is held in reset while its code RAM is being reloaded (21 R464). -/
def engHeld (s : State) (e : Nat) : Bool := (s.eng.getD e eng0).reload

/-- Whether engine `e` has its code and runs (19 R441; 21 R464). -/
def engRuns (s : State) (e : Nat) : Bool := (s.eng.getD e eng0).run && !s.engHeld e

/-- The owner of a radio buffer block (10 R253). -/
def owner (s : State) (b : Nat) : Owner := s.owners.getD b .free

/-- Give a block to an owner. -/
def setOwner (s : State) (b : Nat) (o : Owner) : State := { s with owners := s.owners.set b o }

end State

/-- The number of narrowband slices of a variant (00 R2, R6). -/
def nSlices : Variant → Nat
  | .znl7240 => 16 | .znl7230 => 8 | .znl7210 => 2

/-- The number of Quill lanes of a variant. -/
def nLanes : Variant → Nat
  | .znl7240 => 4 | .znl7230 => 2 | .znl7210 => 1

/-- ENTRIES_LOG2 of a variant's neighbour table (00 R6). -/
def entriesLog2 : Variant → Nat
  | .znl7240 => 14 | .znl7230 => 12 | .znl7210 => 10

/-- The size of the recorder SRAM in KiB (00 R6). -/
def recKib : Variant → Nat
  | .znl7240 => 256 | .znl7230 => 64 | .znl7210 => 0

/-- SYS.CHIP_ID of a variant (00 R4). -/
def chipId : Variant → Nat
  | .znl7240 => 0x72400101 | .znl7230 => 0x72300101 | .znl7210 => 0x72100102

/-- Change the element `n` of a list by `f`; a list without it is unchanged. -/
def modifyAt {α : Type} : List α → Nat → (α → α) → List α
  | [], _, _ => []
  | x :: xs, 0, f => f x :: xs
  | x :: xs, n + 1, f => x :: modifyAt xs n f

/-- Remove the first element that satisfies `p`. -/
def removeFirst {α : Type} (p : α → Bool) : List α → List α
  | [] => []
  | x :: xs => if p x then xs else x :: removeFirst p xs

/-- Apply `f` for every number below `n`, in ascending order. -/
def forN (n : Nat) (f : Nat → State → State) (s : State) : State := (List.range n).foldl (fun t i => f i t) s

/-- Nanoseconds in fine ticks, to the nearest. -/
def nsTicks (ns : Nat) : Nat := (ns * 8388608 + 500000000) / 1000000000

/-- `a` is at or after `b` on the 48-bit count (08 R202). -/
def notBefore (a b : Nat) : Bool := decide ((a + 2 ^ 48 - b % 2 ^ 48) % 2 ^ 48 < 2 ^ 47)

/-- A count moved on by some ticks. -/
def addTicks (a n : Nat) : Nat := (a + n) % 2 ^ 48

/-- A count moved back by some ticks. -/
def subTicks (a n : Nat) : Nat := (a + 2 ^ 48 - n % 2 ^ 48) % 2 ^ 48

/-- The later of two counts. -/
def laterOf (a b : Nat) : Nat := if notBefore a b then a else b

end Sys2Proof.Machine
end

