-- ==== Sys2Proof/Machine/Flags.lean ====
section
/-! DEFINITION. The interrupt flags of the pages (02 R50, R52, R54): how a block sets one, and what is pending. -/

namespace Sys2Proof.Machine.State

/-- Set interrupt flag `n` of page `p`, whatever ENABLE holds: the header functions of 02 R52. -/
def raiseFlag (s : State) (p n : Nat) : State :=
  s.setReg (Reg.IRQ_RAW p) (s.reg (Reg.IRQ_RAW p) ||| (BitVec.ofNat 32 (2 ^ n)))

/-- The block of page `p` sets its interrupt flag `n`: nothing while the page is disabled (02 R52). -/
def flag (s : State) (p n : Nat) : State := if s.enabled p then s.raiseFlag p n else s

/-- LOCK_VIOL of page `p` (02 R54). -/
def lockViol (s : State) (p : Nat) : State := s.raiseFlag p 31

/-- IRQ_PEND of page `p` (02 R50). -/
def irqPend (s : State) (p : Nat) : Word := s.reg (Reg.IRQ_RAW p) &&& s.reg (Reg.IRQ_EN p)

end Sys2Proof.Machine.State
end

