-- ==== Sys2Proof/Machine/FaultOps.lean ====
section
/-! DEFINITION. Control records of the recorder (22 R495 to R499) and the report of a fault to the fault manager (21 R464 to
R470): the two operations that every block of the device calls. -/

namespace Sys2Proof.Machine

namespace State

/-- The recorder SRAM is closed to the bus while the recorder records or freezes (02 R39). -/
def recHidden (s : State) : Bool := s.pageSt P.REC == 1 || s.pageSt P.REC == 2

/-- Whether the recorder writes: while recording, and on to the end of freezing's POST interval (22 R499). -/
def recActive (s : State) : Bool := s.pageSt P.REC == 1 || (s.pageSt P.REC == 2 && !s.recorder.scrub)

/-- The control records the ring holds (22 R492). -/
def ctrlSlots (s : State) : Nat := (s.get F.REC_CFG_CTRL_KIB * 1024 - 64) / 16

/-- Write a control record while the recorder writes (22 R495): TIME, TYPE, SRC, SPOS and eight data bytes; a full ring loses its oldest
record (22 R497). The position in the stream of samples, which the model does not hold, is a free value (log entry 50). -/
def record (s : State) (typ src data : Nat) : State :=
  if s.recActive then
    let n := s.ctrlSlots
    let (spos, s0) := s.freeVal
    let r := s0.recorder
    let s1 := s0.setBytes (0x20400040 + 16 * r.wr)
      (natLe 4 s.count ++ natLe 1 typ ++ natLe 1 src ++ natLe 2 spos.toNat ++ natLe 8 data)
    { s1 with recorder := { r with
        wr := if r.wr + 1 < n then r.wr + 1 else 0
        nrec := if r.nrec < n then r.nrec + 1 else n
        wrapped := r.wrapped || decide (n ≤ r.nrec) } }
  else s

/-- The slot of a receiving unit. -/
def slot (s : State) : RxUnit → RxSlot
  | .slice n => s.slices.getD n rxSlot0
  | .lane n => s.lanes.getD n rxSlot0

/-- Replace the slot of a receiving unit. -/
def setSlot (s : State) (u : RxUnit) (x : RxSlot) : State :=
  match u with
  | .slice n => { s with slices := s.slices.set n x }
  | .lane n => { s with lanes := s.lanes.set n x }

/-- Whether a unit serves the recorded descriptor (22 R496). -/
def recUnit (s : State) (u : RxUnit) : Bool := (s.slot u).desc == some (s.get F.REC_CFG_DESC)

/-- A control record about unit `u`, written only when it serves the recorded descriptor. -/
def recordUnit (s : State) (u : RxUnit) (typ data : Nat) : State :=
  if s.recUnit u then s.record typ (match u with | .slice n => n | .lane n => 32 + n) data else s

/-- The stream of the recorded descriptor is assigned (1) or released (0): a GAP record; a release during the POST interval ends it
early (22 R494, R499). -/
def recGap (s : State) (u : RxUnit) (start : Nat) : State :=
  if s.recUnit u then
    let s1 := s.record 0x12 0 start
    if start = 0 ∧ s1.pageSt P.REC = 2 then { s1 with recorder := { s1.recorder with scrub := true } } else s1
  else s

/-- A trigger of the recorder with its CAUSE (22 R498): freezing starts, and a TRIGGER record is written; POST = 0 freezes at once. While
freezing or frozen it is discarded (22 R499). -/
def recTrigger (s : State) (cause : Nat) : State :=
  if s.pageSt P.REC == 1 then
    let s1 := s.record 0x11 0 cause
    let s2 := (s1.setPageSt P.REC 2).put F.REC_STAT_CAUSE cause
    { s2 with recorder := { s2.recorder with trigAt := s2.count, scrub := s2.get F.REC_CFG_POST == 0 } }
  else s

/-- The triggers of a final status: HW_FAULT and LATE, as REC.TRIG_EN enables them (22 R498). -/
def recStatus (s : State) (status : Nat) : State :=
  if status == 6 && s.on F.REC_TRIG_EN_HW_FAULT then s.recTrigger 3
  else if status == 4 && s.on F.REC_TRIG_EN_LATE then s.recTrigger 4
  else s

end State

/-- The unit code of a type and an instance (21 R465). -/
def unitCode (typ inst : Nat) : Nat := typ * 256 + inst

/-- The instances a type of unit has in a variant, and whether the unit exists (21 R465, R474). -/
def unitPresent (v : Variant) (u : Nat) : Bool :=
  let i := u % 256
  match u / 256 with
  | 0x01 => decide (i < nSlices v)
  | 0x02 => decide (i < nLanes v)
  | 0x03 => decide (i < 2) || (i == 2 && v != .znl7210)
  | 0x04 => decide (i < 4) && v == .znl7240
  | 0x05 => decide (i % 64 < 39) && decide (i < 128)
  | 0x06 => decide (i < 32) || (decide (32 ≤ i) && decide (i < 32 + 2 ^ entriesLog2 v / 1024)) ||
            (decide (48 ≤ i) && decide (i < 48 + recKib v / 32)) || i == 56 || i == 57
  | 0x10 | 0x11 | 0x12 | 0x13 | 0x15 | 0x16 => i == 0
  | 0x14 => decide (i < 3) || (i == 3 && v == .znl7240)
  | 0x17 => (i == 0 || i == 2) && v == .znl7240
  | 0x18 => decide (i < 5)
  | 0x20 => decide (i < 0x29) && !(i == 0x21 && v != .znl7240) && !(i == 0x24 && v == .znl7210)
  | _ => false

/-- Whether a unit can be retired (21 R465). -/
def retirable (u : Nat) : Bool :=
  let i := u % 256
  match u / 256 with
  | 0x01 | 0x02 | 0x03 | 0x04 => true
  | 0x05 => !(i == 5 || i == 6 || i == 7)
  | 0x06 => !(i == 30 || i == 31 || i == 56 || i == 57)
  | _ => false

/-- Units whose retirement touches work in progress: slices, lanes, transmit paths, Hivel lanes (21 R468). -/
def liveUnits : List Nat :=
  (List.range 16).map (0x100 + ·) ++ (List.range 4).map (0x200 + ·) ++ (List.range 3).map (0x300 + ·) ++ (List.range 4).map (0x400 + ·)

namespace State

/-- Whether a unit's bit in the fault manager's bitmaps is set; for an SRAM bank, retired or pending (21 R470, R481). -/
def isRetired (s : State) (u : Nat) : Bool :=
  let i := u % 256
  match u / 256 with
  | 0x01 => (s.get F.FLT_RET_UNITS_SLICES).testBit i
  | 0x02 => (s.get F.FLT_RET_UNITS_LANES).testBit i
  | 0x03 => (s.get F.FLT_RET_UNITS_TX).testBit i
  | 0x04 => (s.get F.FLT_RET_UNITS_HVL).testBit i
  | 0x05 => (s.reg (Reg.FLT_RET_FLASH (i / 32))).toNat.testBit (i % 32)
  | 0x06 => (s.reg (Reg.FLT_RET_SRAM (i / 32))).toNat.testBit (i % 32) ||
            (s.reg (Reg.FLT_PEND_SRAM (i / 32))).toNat.testBit (i % 32)
  | _ => false

/-- Whether an SRAM bank's retirement is in effect (21 R470). -/
def bankRetired (s : State) (n : Nat) : Bool := (s.reg (Reg.FLT_RET_SRAM (n / 32))).toNat.testBit (n % 32)

/-- Set or clear bit `i` of a field. -/
def putBit (s : State) (f : Field) (i : Nat) (b : Bool) : State :=
  s.put f (if b then s.get f ||| 2 ^ i else s.get f - (if (s.get f).testBit i then 2 ^ i else 0))

/-- Set or clear bit `i` of a register. -/
def putRegBit (s : State) (a i : Nat) (b : Bool) : State := s.putBit ⟨a, 0, 32⟩ i b

/-- Whether a unit is under self-test (22 R484). -/
def underTest (s : State) (u : Nat) : Bool :=
  match s.bst with
  | some r => r.running && r.unit == u
  | none => false

/-- The page or per-instance status that shows a unit under test (22 R484; log entry 49). -/
def testMark (s : State) (u : Nat) (b : Bool) : State :=
  let i := u % 256
  match u / 256 with
  | 0x01 => s.put (F.NBD_SLICE_UNDER_TEST i) (boolNat b)
  | 0x02 => s.put (F.OFD_LANE_UNDER_TEST i) (boolNat b)
  | 0x03 => s.put (F.PAGE_STAT_UNDER_TEST P.RTX) (boolNat b)
  | 0x12 => s.put (F.PAGE_STAT_UNDER_TEST P.FEC) (boolNat b)
  | 0x14 => s.put (F.PAGE_STAT_UNDER_TEST (if i = 0 then P.LNK else if i = 1 then P.FRM else P.HVL)) (boolNat b)
  | _ => s

/-- A self-test ends with a result code (22 R491): BST.RES, DONE, and FAIL for result 1. -/
def bstFinish (s : State) (u result : Nat) : State :=
  let s1 : State := match s.bst with
    | some r => if r.running then ({ s with bst := none }).testMark r.unit false else { s with bst := none }
    | none => s
  let s2 := ((s1.setReg Reg.BST_RES (BitVec.ofNat 32 (result * 2 ^ 24 + u % 65536))).setPageSt P.BST 0).flag P.BST 0
  if result = 1 then s2.flag P.BST 1 else s2

/-- A transmit command is accepted while a transmit path is being tested: the test ends ABORTED (22 R484). -/
def bstStopPath (s : State) : State :=
  match s.bst with
  | some r => if r.running && r.unit / 256 == 3 then s.bstFinish r.unit 5 else s
  | none => s

/-- Mark a unit retired or in service in the bitmaps and in the status of its own block (21 R468, 00 R10). An SRAM bank becomes
pending (21 R470). -/
def markRetired (s : State) (u : Nat) (b : Bool) : State :=
  let i := u % 256
  match u / 256 with
  | 0x01 => (s.putBit F.FLT_RET_UNITS_SLICES i b).put (F.NBD_SLICE_RETIRED i) (boolNat b)
  | 0x02 => (s.putBit F.FLT_RET_UNITS_LANES i b).put (F.OFD_LANE_RETIRED i) (boolNat b)
  | 0x03 => (s.putBit F.FLT_RET_UNITS_TX i b).putRegBit Reg.RTX_PATH_STAT i b
  | 0x04 => ((s.putBit F.FLT_RET_UNITS_HVL i b).putRegBit Reg.HVL_LANE_RET i b)
  | 0x05 => s.putRegBit (Reg.FLT_RET_FLASH (i / 32)) (i % 32) b
  | 0x06 =>
    let s1 := s.putRegBit (Reg.FLT_PEND_SRAM (i / 32)) (i % 32) b
    let s2 := if b then s1 else s1.putRegBit (Reg.FLT_RET_SRAM (i / 32)) (i % 32) false
    s2.put F.FLT_STAT_SRAM_PEND
      (boolNat ((s2.reg (Reg.FLT_PEND_SRAM 0)).toNat != 0 || (s2.reg (Reg.FLT_PEND_SRAM 1)).toNat != 0))
  | _ => s

/-- The blocks of the radio domain show their retired units again when the domain powers up (00 R10; 21 R468). -/
def showRetired (s : State) : State := liveUnits.foldl (fun t u => if t.isRetired u then t.markRetired u true else t) s

/-- Ask for a rewrite of the retirement record: at once, or after the one that runs (21 R472). -/
def askRewrite (s : State) : State :=
  let s1 := s.put F.FLT_STAT_RECORD_BUSY 1
  if s.flt.running then { s1 with flt := { s1.flt with waiting := true } }
  else ({ s1 with flt := { s1.flt with running := true } }).setPageSt P.FLT 1

/-- Put a record into the fault log, or set LOG_OVF when it is full (21 R481). -/
def faultLog (s : State) (cls outcome n u : Nat) : State :=
  if s.flt.log.length < 16 then
    { s with flt := { s.flt with log := s.flt.log ++
        [⟨0x80000000 + cls * 0x10000000 + outcome * 0x1000000 + min n 255 * 0x10000 + u, s.count / 256 % 2 ^ 32⟩] } }
  else s.flag P.FLT 4

/-- Retire a unit (21 R468): the flag and the event, the bitmaps, the record; its pass flag clears (22 R490). What it does to
work in progress is `unitEffects`. -/
def retireUnit (s : State) (u : Nat) : State :=
  let s1 := ((s.flag P.FLT 1).event P.FLT 1).markRetired u true
  let s2 := (if u / 256 == 4 then s1.flag P.HVL 3 else s1).askRewrite
  { s2 with passed := s2.passed.filter (· != u) }

/-- The fault times of a unit that still lie inside the window (21 R466). -/
def faultTimes (s : State) (u : Nat) : List Nat :=
  let w := (if s.get F.FLT_CFG_RETIRE_WINDOW = 0 then 1 else s.get F.FLT_CFG_RETIRE_WINDOW) * 8388608
  match s.flt.counts.find? (·.unit == u) with
  | some c => c.times.filter (fun t => decide ((s.count + 2 ^ 48 - t) % 2 ^ 48 ≤ w))
  | none => []

/-- Replace the fault times of a unit. -/
def setFaultTimes (s : State) (u : Nat) (ts : List Nat) : State :=
  { s with flt := { s.flt with counts := s.flt.counts.filter (·.unit != u) ++ (if ts.isEmpty then [] else [⟨u, ts⟩]) } }

/-- Class codes of FLT.LOG (21 R481). -/
def classCode : FaultClass → Nat
  | .transient => 0 | .memory => 1 | .config => 2 | .permanent => 3

/-- The number of the present fabric cycle (21 R466): cycles at different counts are different. -/
def cycleNo (s : State) : Nat := s.count + s.fabric.cycle * 2 ^ 48

/-- A fault of a unit is counted (21 R466), once in a fabric cycle. -/
def countFault (s : State) (u : Nat) : State :=
  if s.flt.cycle.contains (u, s.cycleNo) then s
  else
    let s1 := s.setFaultTimes u (s.faultTimes u ++ [s.count])
    { s1 with flt := { s1.flt with cycle := (s1.flt.cycle.filter (fun (c : Nat × Nat) => c.2 == s.cycleNo)) ++ [(u, s.cycleNo)] } }

/-- Report a fault to the fault manager (21 R464, R466, R468, R469): FAULT flag and event; a configuration fault is logged and
never counts; a memory fault or a self-test failure retires a retirable unit at once; a transient fault counts towards the
threshold. `exhausted` says that the event's retries are used up (21 R467). With RETIRE_N = 0 no unit retires. -/
def reportFault (s : State) (u : Nat) (cls : FaultClass) (exhausted : Bool := false) : State :=
  if !s.enabled P.FLT then s
  else
  let s := (s.flag P.FLT 0).event P.FLT 0
  let cc := classCode cls
  if s.isRetired u && !((u / 256 == 6) && !(s.bankRetired (u % 256))) then s.faultLog cc 5 (s.faultTimes u).length u
  else if s.underTest u && cls != .permanent then s.faultLog cc 5 (s.faultTimes u).length u
  else if cls = .config then
    let s1 := (s.flag P.FLT 3).faultLog cc 0 0 u
    if s1.on F.FLT_CFG_CFG_RESET then { s1 with flt := { s1.flt with resetReq := true } } else s1
  else
    let s1 := s.countFault u
    let k := (s1.faultTimes u).length
    let n := s1.get F.FLT_CFG_RETIRE_N
    if cls = .transient ∧ k < n then s1.faultLog cc (if exhausted then 1 else 0) k u
    else if n = 0 ∨ retirable u = false then ((s1.setFaultTimes u []).flag P.FLT 2).faultLog cc 4 k u
    else if s1.isRetired u then s1.faultLog cc 3 k u
    else (s1.retireUnit u).faultLog cc (if u / 256 == 6 then 3 else 2) k u

end State

end Sys2Proof.Machine
end

