-- ==== Sys2Proof/Machine/Mac.lean ====
section
/-! DEFINITION. The MAC header of IEEE 802.15.4-2020 as NIB_B parses it (10 R259), and the bytes of an acknowledgement (09 R237,
R527). The specification names the standard for the layout of the header: PRESUMED (log entry 8). -/

namespace Sys2Proof.Machine

/-- What parsing gives: more bytes are needed, the header is bad, or the header. -/
inductive MacParse where
  | more
  | bad
  | ok (h : MacHdr)
  deriving DecidableEq, Repr

/-- The MIC bytes of a security level (12 R310). -/
def micLen (level : Nat) : Nat :=
  match level % 4 with
  | 1 => 4 | 2 => 8 | 3 => 16 | _ => 0

/-- The little-endian number in the `n` bytes of `bs` from `off`. -/
def leAt (bs : List Byte) (off n : Nat) : Nat := ((bs.drop off).take n).foldr (fun b a => b.toNat + 256 * a) 0

/-- The frame control of a header, before its fields are read. -/
structure FrameCtl where
  size    : Nat
  ftype   : Nat
  version : Nat
  secured : Bool
  pending : Bool
  ackReq  : Bool
  comp    : Bool
  seqSup  : Bool
  ie      : Bool
  dstMode : Nat
  srcMode : Nat
  panBit  : Bool
  deriving DecidableEq, Repr

/-- The frame control of the first bytes: general frames, multipurpose frames of one or two bytes, fragment and extended frames
with no addresses. -/
def frameCtl (bs : List Byte) : Option FrameCtl :=
  match bs with
  | [] => none
  | b :: rest =>
    let n := b.toNat
    match n % 8 with
    | 5 =>
      if n.testBit 3 then
        match rest with
        | [] => none
        | c :: _ =>
          let m := c.toNat
          some ⟨2, 5, m / 16 % 4, m.testBit 1, m.testBit 3, m.testBit 6, false, m.testBit 2, m.testBit 7, n / 16 % 4, n / 64, m.testBit 0⟩
      else some ⟨1, 5, 0, false, false, false, false, false, false, n / 16 % 4, n / 64, false⟩
    | 6 => some ⟨1, 6, 0, false, false, false, false, true, false, 0, 0, false⟩
    | 7 => some ⟨1, 7, 0, false, false, false, false, true, false, 0, 0, false⟩
    | t =>
      match rest with
      | [] => none
      | c :: _ =>
        let m := c.toNat
        let v := m / 16 % 4
        some ⟨2, t, v, n.testBit 3, n.testBit 4, n.testBit 5, n.testBit 6, v == 2 && m.testBit 0, v == 2 && m.testBit 1,
          m / 4 % 4, m / 64, false⟩

/-- Whether the destination and the source PAN ID are present. -/
def panFields (f : FrameCtl) : Bool × Bool :=
  let d := f.dstMode != 0
  let s := f.srcMode != 0
  if f.ftype = 5 then (f.panBit, false)
  else if f.version = 2 then
    (if d && s then
      (if f.dstMode = 3 ∧ f.srcMode = 3 then (!f.comp, false) else (true, !f.comp))
     else if d then (!f.comp, false)
     else if s then (false, !f.comp)
     else (f.comp, false))
  else (d, s && !(f.comp && d))

/-- The bytes of an address of a mode. -/
def addrLen (mode : Nat) : Nat := if mode = 2 then 2 else if mode = 3 then 8 else 0

/-- An address of a mode at an offset. -/
def addrAt (bs : List Byte) (off mode : Nat) : Option MacAddr :=
  if mode = 2 then some (.short (leAt bs off 2)) else if mode = 3 then some (.ext (leAt bs off 8)) else none

/-- The header IEs from `off` on: their end and the places of the contents of CSL IEs; at most `fuel` of them. `lim` is where the MIC or
the FCS begins. -/
def headerIes (bs : List Byte) (lim : Nat) (csl : List Nat) : Nat → Nat → Option (Option (Nat × List Nat))
  | 0, _ => some none
  | fuel + 1, off =>
    if off = lim then some (some (off, csl))
    else if lim < off + 2 then some none
    else if bs.length < off + 2 then none
    else
      let w := leAt bs off 2
      let len := w % 128
      let el := w / 128 % 256
      if w.testBit 15 then some none
      else if lim < off + 2 + len then some none
      else if el = 0x7E ∨ el = 0x7F then (if len = 0 then some (some (off + 2, csl)) else some none)
      else headerIes bs lim (if el = 0x1A ∧ 4 ≤ len then csl ++ [off + 2] else csl) fuel (off + 2 + len)

/-- Parse a MAC header: `bs` the bytes received, `lim` the PSDU length without the FCS. -/
def parseMac (bs : List Byte) (lim : Nat) : MacParse :=
  match frameCtl bs with
  | none => if lim ≤ bs.length then .bad else .more
  | some f =>
    if f.ftype = 4 ∨ f.dstMode = 1 ∨ f.srcMode = 1 then .bad
    else
      let seqOff := f.size
      let o1 := seqOff + (if f.seqSup then 0 else 1)
      let pans := panFields f
      let o2 := o1 + (if pans.1 then 2 else 0)
      let o3 := o2 + addrLen f.dstMode
      let o4 := o3 + (if pans.2 then 2 else 0)
      let o5 := o4 + addrLen f.srcMode
      if lim < o5 ∨ (f.secured ∧ lim < o5 + 1) then .bad
      else if bs.length < o5 ∨ (f.secured ∧ bs.length < o5 + 1) then .more
      else
        let sc := if f.secured then leAt bs o5 1 else 0
        let fcSup := sc.testBit 5
        let kmode := sc / 8 % 4
        let kidLen := if kmode = 0 then 0 else if kmode = 1 then 1 else if kmode = 2 then 5 else 9
        let auxLen := if f.secured then 1 + (if fcSup then 0 else 4) + kidLen else 0
        let o6 := o5 + auxLen
        let lim2 := lim - (if f.secured then micLen (sc % 8) else 0)
        if lim2 < o6 ∨ lim < (if f.secured then micLen (sc % 8) else 0) then .bad
        else if bs.length < o6 then .more
        else
          let kidOff := o5 + 1 + (if fcSup then 0 else 4)
          let mk (hl : Nat) (csl : List Nat) : MacHdr :=
            { ftype := f.ftype, version := f.version, secured := f.secured, pending := f.pending, ackReq := f.ackReq
              seq := if f.seqSup then none else some (leAt bs seqOff 1)
              dstPan := if pans.1 then some (leAt bs o1 2) else none
              dstAddr := addrAt bs o2 f.dstMode
              srcPan := if pans.2 then some (leAt bs o3 2) else none
              srcAddr := addrAt bs o4 f.srcMode
              secLevel := sc % 8, keyMode := kmode, fcSup := f.secured && fcSup, asnNonce := sc.testBit 6
              counter := if f.secured && !fcSup then leAt bs (o5 + 1) 4 else 0
              keyId := (bs.drop kidOff).take kidLen
              auxAt := o5, auxLen := auxLen, hdrLen := hl, cslAt := csl }
          if f.ie then
            match headerIes bs lim2 [] (lim + 1) o6 with
            | none => .more
            | some none => .bad
            | some (some (e, c)) => .ok (mk e c)
          else .ok (mk o6 [])

/-- The MIC a header announces. -/
def hdrMic (h : MacHdr) : Nat := if h.secured then micLen h.secLevel else 0

/-- The header of a frame that software wrote (10 R251, R255): with SECURE = 1 its MIC is still to come, otherwise the bytes hold it. -/
def parseOut (bs : List Byte) (secure : Bool) : MacParse :=
  if secure then
    (match ([0, 4, 8, 16] : List Nat).findSome? (fun m => match parseMac bs (bs.length + m) with
        | .ok h => if hdrMic h = m then some h else none
        | _ => none) with
     | some h => .ok h
     | none => .bad)
  else parseMac bs bs.length

/-- The places of CSL IEs among some header IEs that start at `off` (09 R247). -/
def cslPlaces (ies : List Byte) (off : Nat) : List Nat :=
  match headerIes ies ies.length [] (ies.length + 1) 0 with
  | some (some (_, ps)) => ps.map (off + ·)
  | _ => []

/-- Whether two headers name the same source (06 R148): the same extended address, or the same short address in the same PAN, which is the
destination's where the source's was elided. -/
def sourcePan (h : MacHdr) : Option Nat := match h.srcAddr with
  | some (.short _) => (match h.srcPan with | some p => some p | none => h.dstPan)
  | _ => none

/-- The key index of a header: the last byte of its key identifier. -/
def keyIndex (h : MacHdr) : Nat := match h.keyId.getLast? with | some b => b.toNat | none => 0

/-- The addressing mode of an address. -/
def addrMode : Option MacAddr → Nat
  | none => 0
  | some (.short _) => 2
  | some (.ext _) => 3

/-- The bytes of an address. -/
def addrBytes : Option MacAddr → List Byte
  | none => []
  | some (.short a) => (List.range 2).map (fun i => BitVec.ofNat 8 (a / 256 ^ i))
  | some (.ext a) => (List.range 8).map (fun i => BitVec.ofNat 8 (a / 256 ^ i))

/-- The PAN ID an enhanced acknowledgement carries (09 R527). -/
def ackPan (h : MacHdr) : Option Nat := match h.srcPan with | some p => some p | none => h.dstPan

/-- The PAN ID compression bit of an acknowledgement with a destination mode, a source mode and a PAN ID or none (09 R527). -/
def ackComp (dst src : Nat) (pan : Bool) : Bool :=
  if dst = 0 then pan
  else if src = 0 ∨ (dst = 3 ∧ src = 3) then !pan
  else true

/-- The MAC header of an enhanced acknowledgement (09 R237): `own` the own address or none, `ies` the header IEs, `aux` the
auxiliary security header; `payloadFollows` never holds, so no termination IE is needed. -/
def enhancedAck (h : MacHdr) (own : Option MacAddr) (fp : Bool) (aux ies : List Byte) : List Byte :=
  let dm := addrMode h.srcAddr
  let sm := addrMode own
  let pan := ackPan h
  let b0 := 2 + (if h.secured then 8 else 0) + (if fp then 16 else 0) + (if ackComp dm sm pan.isSome then 64 else 0)
  let b1 := (if h.seq.isNone then 1 else 0) + (if ies.isEmpty then 0 else 2) + dm * 4 + 0x20 + sm * 64
  [BitVec.ofNat 8 b0, BitVec.ofNat 8 b1] ++ (match h.seq with | some q => [BitVec.ofNat 8 q] | none => []) ++
    (match pan with | some p => [BitVec.ofNat 8 p, BitVec.ofNat 8 (p / 256)] | none => []) ++
    addrBytes h.srcAddr ++ addrBytes own ++ aux ++ ies

/-- An immediate acknowledgement (09 R237). -/
def immediateAck (h : MacHdr) (fp : Bool) : List Byte :=
  [BitVec.ofNat 8 (2 + (if fp then 16 else 0)), BitVec.ofNat 8 (h.version * 16), BitVec.ofNat 8 (h.seq.getD 0)]

/-- A Time Correction IE (09 R239). -/
def timeCorrIe (us : Int) : List Byte :=
  [0x02, 0x0F, BitVec.ofNat 8 (((clampInt (-2047) 2047 us) % 4096).toNat), BitVec.ofNat 8 (((clampInt (-2047) 2047 us) % 4096).toNat / 256)]

end Sys2Proof.Machine
end

