-- ==== Sys2Proof/Machine/HvlOps.lean ====
section
/-! DEFINITION. Sending over the cascade link (11 R282 to R287): the layout of packets and their CRC, their type codes, the characters a port
sends, and the port a packet leaves on. -/

namespace Sys2Proof

/-- The header of a packet as a number, and its fields (11 R283). -/
def Packet.head (p : Packet) : Nat := Machine.leAt p.bytes 0 4
def Packet.ptype (p : Packet) : Nat := bitsOf p.head 0 5
def Packet.src (p : Packet) : Nat := bitsOf p.head 5 3
def Packet.dst (p : Packet) : Nat := bitsOf p.head 8 3
def Packet.len (p : Packet) : Nat := bitsOf p.head 11 6
def Packet.tag (p : Packet) : Nat := bitsOf p.head 17 8
def Packet.first (p : Packet) : Bool := p.head.testBit 25
def Packet.last (p : Packet) : Bool := p.head.testBit 26
def Packet.bcast (p : Packet) : Bool := p.head.testBit 27

/-- The payload of a packet (11 R283). -/
def Packet.payload (p : Packet) : List Byte := (p.bytes.drop 4).take p.len

/-- The CRC-16 of a packet over its header and payload, as its two bytes are sent: high byte first (11 R283). -/
def packetCrc (bs : List Byte) : List Byte :=
  let c := Machine.crc16Fwd bs
  [BitVec.ofNat 8 (c / 256), BitVec.ofNat 8 c]

/-- A packet is whole, and its CRC checks (11 R283, R286). -/
def Packet.intact (p : Packet) : Bool :=
  p.bytes.length == p.len + 6 && p.bytes.drop (4 + p.len) == packetCrc (p.bytes.take (4 + p.len))

/-- The bytes of a packet (11 R283). -/
def packetBytes (typ src dst tag : Nat) (first last bcast : Bool) (payload : List Byte) : List Byte :=
  let head := typ % 32 + src % 8 * 2 ^ 5 + dst % 8 * 2 ^ 8 + payload.length % 64 * 2 ^ 11 + tag % 256 * 2 ^ 17 + boolNat first * 2 ^ 25 +
    boolNat last * 2 ^ 26 + boolNat bcast * 2 ^ 27
  let bs := Machine.natLe 4 head ++ payload
  bs ++ packetCrc bs

/-- The characters of a packet on the link (11 R282): its start mark by class, the hop sequence number, its bytes, and its end mark. -/
def packetChars (p : Packet) (good : Bool) : List Machine.LinkChar :=
  [if p.ptype = 0x10 then .k 28 2 else .k 27 7, .d (BitVec.ofNat 8 p.seq)] ++ p.bytes.map .d ++ [if good then .k 29 7 else .k 30 7]

end Sys2Proof

namespace Sys2Proof.Machine

/-- Packet type codes (11 R284). -/
def ptTime : Nat := 0x01
def ptHello : Nat := 0x02
def ptWelcome : Nat := 0x03
def ptLookup : Nat := 0x04
def ptReply : Nat := 0x05
def ptVerdict : Nat := 0x06
def ptNbtCmd : Nat := 0x07
def ptNbtRes : Nat := 0x08
def ptEntry : Nat := 0x09
def ptEntryRes : Nat := 0x0A
def ptFwdAck : Nat := 0x0B
def ptLinkDown : Nat := 0x0C
def ptCommitAt : Nat := 0x0D
def ptFrame : Nat := 0x10

namespace State

/-- HVL_POS as HVL.STAT shows it. -/
def hvlPos (s : State) : Nat := s.get F.HVL_STAT_POS

/-- Whether this device is the master of a cascade that runs: position 0, joined (11 R288). -/
def hvlMaster (s : State) : Bool := s.variant == .znl7240 && s.hvlPos == 0 && s.pageSt P.HVL == 3

/-- Whether this device is a slave that has joined a cascade. -/
def hvlSlave (s : State) : Bool := s.variant == .znl7240 && s.hvlPos != 0 && s.pageSt P.HVL == 3

/-- A port of the link. -/
def hop (s : State) : HvlPort → Hop
  | .up => s.hvl.up
  | .dn => s.hvl.dn

/-- Change a port of the link. -/
def setHop (s : State) (port : HvlPort) (g : Hop → Hop) : State :=
  match port with
  | .up => { s with hvl := { s.hvl with up := g s.hvl.up } }
  | .dn => { s with hvl := { s.hvl with dn := g s.hvl.dn } }

/-- A port that has trained sends characters (11 R282). Frame packets are sent whole, which the rule permits (log entry 118). -/
def sendChars (s : State) (port : HvlPort) (cs : List LinkChar) : State :=
  s.setHop port (fun h => if h.up && !h.training then { h with line := h.line ++ cs } else h)

/-- Send a packet at a port, and keep it until the hop's receiver acknowledges it (11 R282, R287); a port with no neighbour sends nothing. -/
def hopSend (s : State) (port : HvlPort) (typ : Nat) (p : Packet) : State :=
  if !(s.hop port).up then s
  else
  let q : Packet := { p with port := port, seq := (s.hop port).nextSeq }
  (s.setHop port (fun h => { h with nextSeq := (h.nextSeq + 1) % 256, kept := h.kept ++ [⟨q.seq, typ, q, 0, false⟩] })).sendChars port
    (packetChars q true)

/-- Send a packet of this device: a destination above leaves on HVL_DN, one below on HVL_UP (11 R283); a broadcast goes
downstream. -/
def hvlSend (s : State) (typ dst tag : Nat) (bcast first last : Bool) (payload : List Byte) : State :=
  let p : Packet := ⟨.dn, 0, packetBytes typ s.hvlPos dst tag first last bcast payload⟩
  if bcast || decide (s.hvlPos < dst) then s.hopSend .dn typ p
  else if dst < s.hvlPos then s.hopSend .up typ p
  else s

/-- The next TAG of this device, and the state with it counted on. -/
def hvlTag (s : State) : Nat × State := (s.hvl.next, { s with hvl := { s.hvl with next := (s.hvl.next + 1) % 256 } })

end State

end Sys2Proof.Machine
end

