-- ==== Sys2Proof/Machine/TimeBase.lean ====
section
/-! DEFINITION. The time base, its alarms, the general and low-power timers and the watchdog (chapter 08). Counters are advanced
by the two ticks: a fine tick (a step on an empty queue) and a slow tick (SLOW_TICK). -/

namespace Sys2Proof.Machine

/-- The modulus of the count (08 R198). -/
def countMod : Nat := 2 ^ 48

/-- Whether an alarm with compare `cmp` is due at count `c` (08 R202). -/
def alarmDue (c cmp : Nat) : Bool := decide ((c + countMod - cmp % countMod) % countMod < 2 ^ 47)

namespace State

/-- Alarm `n`. -/
def alarm (s : State) (n : Nat) : Alarm := s.alarms.getD n alarm0

/-- Replace alarm `n`. -/
def setAlarm (s : State) (n : Nat) (a : Alarm) : State := { s with alarms := s.alarms.set n a }

/-- Alarm `n` fires (08 R202): disarmed, its flag set, LATE recorded, its event published; a wake source if WAKE[n] = 1. -/
def alarmFire (s : State) (n : Nat) (late : Bool) : State :=
  let s1 := s.setAlarm n { s.alarm n with armed := false, late := late }
  let s2 := (s1.flag P.TMB n).event P.TMB n
  if (s2.get F.TMB_ALARM_EN_WAKE).testBit n then s2.wake (0x10 + n) else s2

/-- A write to ALARMn_LO takes effect (08 R200 to R202): with EN[n] = 1 the alarm fires at once if it is due, late unless the count equals the
compare, and is armed otherwise; with EN[n] = 0 the compare is stored and not armed. -/
def alarmEffect (s : State) (n : Nat) : State :=
  match (s.alarm n).pend with
  | none => s
  | some c =>
    let on := (s.get F.TMB_ALARM_EN_EN).testBit n
    let s1 := s.setAlarm n { s.alarm n with pend := none, ticks := 0, cmp := c, armed := on }
    if on && alarmDue s1.count c then s1.alarmFire n (s1.count != c) else s1

/-- One tick for alarm `n`: an armed alarm that has become due fires; a pending write moves on and may take effect (08 R201). -/
def alarmTick (s : State) (n : Nat) : State :=
  let a := s.alarm n
  let s1 := if a.armed && alarmDue s.count a.cmp then s.alarmFire n false else s
  match (s1.alarm n).pend with
  | none => s1
  | some _ =>
    if (s1.alarm n).ticks ≤ 1 then s1.alarmEffect n
    else s1.setAlarm n { s1.alarm n with ticks := (s1.alarm n).ticks - 1 }

/-- One tick for all alarms. -/
def alarmsTick (s : State) : State := forN 8 (fun n t => t.alarmTick n) s

/-- Clearing EN[n] disarms alarm `n` at once, a pending write too (08 R201). -/
def alarmDisarm (s : State) (n : Nat) : State := s.setAlarm n { s.alarm n with armed := false, pend := none, ticks := 0 }

/-- A write to ALARMn_LO (08 R200, R201, R525): with TMB enabled it is pending for three ticks from acceptance; else the compare is stored
only. -/
def alarmLoWrite (s : State) (n : Nat) : State :=
  let c := (s.reg (Reg.TMB_ALARM_HI n)).toNat % 65536 * 2 ^ 32 + (s.reg (Reg.TMB_ALARM_LO n)).toNat
  if s.enabled P.TMB then s.setAlarm n { s.alarm n with pend := some c, ticks := 3 } else s

/-- The parts of a general timer that are no register. -/
def tmr (s : State) (t : Nat) : Tmr := s.tmrs.getD t ⟨0xFFFFFFFF, [0, 0, 0, 0], 0⟩

/-- Copy the preloads of timer `t` (08 R206, R209). -/
def tmrLoad (s : State) (t : Nat) : State :=
  { s with tmrs := s.tmrs.set t { s.tmr t with
      period := (s.reg (Reg.TMR_PERIOD t)).toNat
      cmps := [(s.reg (Reg.TMR_CMP t 0)).toNat, (s.reg (Reg.TMR_CMP t 1)).toNat,
               (s.reg (Reg.TMR_CMP t 2)).toNat, (s.reg (Reg.TMR_CMP t 3)).toNat] } }

/-- Whether channel `k` of timer `t` is in capture mode. -/
def tmrCapMode (s : State) (t k : Nat) : Bool := (s.get (F.TMR_CFG_CAP t)).testBit k

/-- CMPk of timer `t` is raised. -/
def tmrCmpRaise (s : State) (t k : Nat) : State := (s.flag (P.TMR t) (1 + k)).event (P.TMR t) (1 + k)

/-- The present cycle of timer `t` is one of a wrap: its count equals the active period, or all ones above it (08 R206). -/
def tmrAtWrap (s : State) (t : Nat) : Bool :=
  s.get (F.TMR_COUNT_COUNT t) == (s.tmr t).period || s.get (F.TMR_COUNT_COUNT t) == 0xFFFFFFFF

/-- Channel `k` of timer `t` matches in the present cycle: in compare mode, with an active compare that equals the count and is not greater
than the period (08 R207). -/
def tmrMatches (s : State) (t k : Nat) : Bool :=
  let c := (s.tmr t).cmps.getD k 0
  !s.tmrCapMode t k && c == s.get (F.TMR_COUNT_COUNT t) && decide (c ≤ (s.tmr t).period)

/-- CMPk of every channel that matches is raised (08 R207). -/
def tmrMatch (s : State) (t : Nat) : State := forN 4 (fun k u => if u.tmrMatches t k then u.tmrCmpRaise t k else u) s

/-- What a cycle of a running timer raises at its count (08 R206, R207): WRAP in the cycle of a wrap, with the compares that match. -/
def tmrShow (s : State) (t : Nat) : State :=
  (if s.tmrAtWrap t then (s.flag (P.TMR t) 0).event (P.TMR t) 0 else s).tmrMatch t

/-- The cycle after that of a wrap (08 R206): count 0, the preloads copied; with ONESHOT = 1 the counter stops. -/
def tmrWrap (s : State) (t : Nat) : State :=
  let s1 := (s.put (F.TMR_COUNT_COUNT t) 0).tmrLoad t
  if s1.on (F.TMR_CFG_ONESHOT t) then (s1.setPageSt (P.TMR t) 0).tmrMatch t else s1.tmrShow t

/-- One cycle of timer `t`'s counter clock. -/
def tmrCycle (s : State) (t : Nat) : State :=
  if s.pageSt (P.TMR t) == 1 && s.enabled (P.TMR t) then
    (if s.tmrAtWrap t then s.tmrWrap t else (s.put (F.TMR_COUNT_COUNT t) (s.get (F.TMR_COUNT_COUNT t) + 1)).tmrShow t)
  else s

/-- START of timer `t` (08 R209): copies the preloads and counts from the present count; ignored while running. -/
def tmrStart (s : State) (t : Nat) : State :=
  if s.enabled (P.TMR t) && s.pageSt (P.TMR t) != 1 then
    ((s.tmrLoad t).setPageSt (P.TMR t) 1).tmrShow t
  else s

/-- STOP of timer `t`. -/
def tmrStop (s : State) (t : Nat) : State := if s.enabled (P.TMR t) then s.setPageSt (P.TMR t) 0 else s

/-- CLEAR of timer `t` (08 R209): the count to 0, no WRAP, no copy; in the cycle of a wrap, whose WRAP has been raised, the preloads are
copied. -/
def tmrClear (s : State) (t : Nat) : State :=
  if !s.enabled (P.TMR t) then s
  else if s.pageSt (P.TMR t) != 1 then s.put (F.TMR_COUNT_COUNT t) 0
  else ((if s.tmrAtWrap t then s.tmrLoad t else s).put (F.TMR_COUNT_COUNT t) 0).tmrShow t

/-- LOAD of timer `t` (08 R207, R209): a running count that equals a copied compare matches. -/
def tmrLoadCmd (s : State) (t : Nat) : State :=
  if !s.enabled (P.TMR t) then s
  else
    let s1 := s.tmrLoad t
    if s.pageSt (P.TMR t) != 1 then s1 else forN 4 (fun k u => if s1.tmrMatches t k && !s.tmrMatches t k then u.tmrCmpRaise t k else u) s1

/-- CAPTURE of channel `k` (08 R209): ignored for a channel in compare mode. -/
def tmrCapture (s : State) (t k : Nat) : State :=
  if s.enabled (P.TMR t) && s.tmrCapMode t k then
    (s.setReg (Reg.TMR_CMP t k) (s.reg (Reg.TMR_COUNT t))).tmrCmpRaise t k
  else s

/-- A write to TMRn.CMD (08 R209): LOAD, CLEAR, START and STOP bits of one write act together; STOP wins over START. -/
def tmrCmd (s : State) (t w : Nat) : State :=
  let s1 := if w.testBit 3 then s.tmrLoadCmd t else s
  let s2 := if w.testBit 2 then s1.tmrClear t else s1
  let s3 := if w.testBit 0 && !w.testBit 1 then s2.tmrStart t else s2
  if w.testBit 1 then s3.tmrStop t else s3

/-- The rate of timer `t`'s source in Hz, 0 while it stands still (08 R205, R218). -/
def tmrRate (s : State) (t : Nat) : Nat :=
  if s.pwr.state != .active then 0
  else match s.get (F.TMR_CFG_SRC t) with
    | 0 => if s.on F.CLK_STAT_PLL_LOCK then 40000000 else 0
    | 1 => if s.on F.CLK_STAT_HFXO_OK then 38400000 else 0
    | 2 => if s.on F.CLK_STAT_HFRC_OK then 24000000 else 0
    | 4 => if s.fabricOn then 32000000 else 0
    | _ => 0

/-- One fine tick, 1/8388608 s, for timer `t`: the fraction of a count carries over exactly. -/
def tmrFine (s : State) (t : Nat) : State :=
  let r := s.tmrRate t
  if r = 0 ∨ s.pageSt (P.TMR t) ≠ 1 then s
  else
    let d := 8388608 * 2 ^ s.get (F.TMR_CFG_PRESCALE t)
    let a := (s.tmr t).frac + r
    let s1 := { s with tmrs := s.tmrs.set t { s.tmr t with frac := a % d } }
    forN (a / d) (fun _ u => u.tmrCycle t) s1

/-- One slow tick for timer `t` with SRC = 3 (08 R205, R218). -/
def tmrSlow (s : State) (t : Nat) : State :=
  if s.get (F.TMR_CFG_SRC t) = 3 ∧ (s.pwr.state = .active ∨ s.pwr.state = .sleep) then
    (let d := 2 ^ s.get (F.TMR_CFG_PRESCALE t)
     let a := (s.tmr t).frac + 1
     let s1 := { s with tmrs := s.tmrs.set t { s.tmr t with frac := a % d } }
     forN (a / d) (fun _ u => u.tmrCycle t) s1)
  else s

/-- The configuration of timer `t` has been written: its prescaler starts anew (log entry 116). -/
def tmrCfg (s : State) (t : Nat) : State := { s with tmrs := s.tmrs.set t { s.tmr t with frac := 0 } }

/-- The parts of a low-power timer that are no register. -/
def lpt (s : State) (m : Nat) : Lpt := s.lpts.getD m ⟨0xFFFFFF, 0⟩

/-- What the LFCLK domain sees of a register of the LPT page: its old value until a write has reached it (08 R211). -/
def lptSeen (s : State) (a : Nat) : Word :=
  match s.lptPend.find? (·.1 == a) with
  | some e => e.2
  | none => s.reg a

/-- A register of the LPT page at `a` has been written, its value before being `old`: the write begins to cross (08 R211). -/
def lptWrite (s : State) (a : Nat) (old : Word) : State :=
  let s1 := s.put F.LPT_STAT_SYNC_BUSY 1
  if s1.lptPend.any (·.1 == a) then s1 else { s1 with lptPend := s1.lptPend ++ [(a, old)] }

/-- Whether low-power timer `m` counts: RUNm, LPT enabled, LFCLK running (08 R211, R218). -/
def lptRuns (s : State) (m : Nat) : Bool :=
  s.enabled P.LPT && (s.lptSeen Reg.LPT_CTRL).toNat.testBit m && s.pwr.state != .dormant

/-- A wake source if WAKEm = 1 (08 R211). -/
def lptWake (s : State) (m : Nat) : State := if (s.lptSeen Reg.LPT_CTRL).toNat.testBit (8 + m) then s.wake (0x18 + m) else s

/-- CMPm of low-power timer `m`. -/
def lptCmpRaise (s : State) (m : Nat) : State := ((s.flag P.LPT (2 * m + 1)).event P.LPT (2 * m + 1)).lptWake m

/-- The present cycle of low-power timer `m` is one of a wrap (08 R206, R211). -/
def lptAtWrap (s : State) (m : Nat) : Bool :=
  s.get (F.LPT_T_COUNT_COUNT m) == (s.lpt m).period || s.get (F.LPT_T_COUNT_COUNT m) == 0xFFFFFF

/-- The compare of low-power timer `m` matches in the present cycle (08 R207, R211). -/
def lptMatches (s : State) (m : Nat) : Bool :=
  (s.lpt m).cmp == s.get (F.LPT_T_COUNT_COUNT m) && decide ((s.lpt m).cmp ≤ (s.lpt m).period)

/-- What a cycle of a running low-power timer raises at its count (08 R206, R207, R211). -/
def lptShow (s : State) (m : Nat) : State :=
  let s1 := if s.lptAtWrap m then ((s.flag P.LPT (2 * m)).event P.LPT (2 * m)).lptWake m else s
  if s1.lptMatches m then s1.lptCmpRaise m else s1

/-- The cycle after that of a wrap of low-power timer `m` (08 R206, R211): count 0, the preloads copied. -/
def lptWrap (s : State) (m : Nat) : State :=
  let s1 := s.put (F.LPT_T_COUNT_COUNT m) 0
  ({ s1 with lpts := s1.lpts.set m ⟨(s1.lptSeen (Reg.LPT_T_PERIOD m)).toNat, (s1.lptSeen (Reg.LPT_T_CMP m)).toNat⟩ }).lptShow m

/-- One cycle of low-power timer `m`. -/
def lptCycle (s : State) (m : Nat) : State :=
  if s.lptRuns m then
    (if s.lptAtWrap m then s.lptWrap m else (s.put (F.LPT_T_COUNT_COUNT m) (s.get (F.LPT_T_COUNT_COUNT m) + 1)).lptShow m)
  else s

/-- The order of the causes of a chip reset that can wait (19 R433): PIN, WDT, UPDATE_FALLBACK, SOFT_CHIP. -/
def resetRank (cause : Nat) : Nat := if cause = 5 then 7 else cause

/-- Ask for a chip reset with a cause (19 R431, R433): of two requests the first in the order of R433 stands. -/
def askReset (s : State) (cause : Nat) : State :=
  match s.resetReq with
  | none => { s with resetReq := some cause }
  | some c => if resetRank cause < resetRank c then { s with resetReq := some cause } else s

/-- The watchdog expires (08 R216): LAST_EXP records why, a chip reset with cause WDT is asked for. -/
def wdtExpire (s : State) (why : Nat) : State := ((s.put F.WDT_STAT_LAST_EXP why).put F.WDT_STAT_RUNNING 0).askReset 4

/-- The watchdog count reaches PREWARN, once per load (08 R215). -/
def wdtPrewarn (s : State) : State :=
  if s.on F.WDT_STAT_PREWARNED then s else ((s.put F.WDT_STAT_PREWARNED 1).flag P.WDT 0).event P.WDT 0

/-- The count that LOAD stands for: 0 acts as 1 (08 R217). -/
def wdtLoadVal (s : State) : Nat := if s.get F.WDT_LOAD_LOAD = 0 then 1 else s.get F.WDT_LOAD_LOAD

/-- One LFRC tick of the watchdog (08 R213 to R216): an accepted feed reloads; else it counts down. -/
def wdtTick (s : State) : State :=
  if s.on F.WDT_STAT_RUNNING && s.pwr.state != .dormant then
    (if s.wdtFeed then
      ({ (s.put F.WDT_COUNT_COUNT s.wdtLoadVal).put F.WDT_STAT_PREWARNED 0 with wdtFeed := false })
     else
      let c := s.get F.WDT_COUNT_COUNT - 1
      let s1 := s.put F.WDT_COUNT_COUNT c
      let s2 := if c = s1.get F.WDT_PREWARN_PREWARN then s1.wdtPrewarn else s1
      if c = 0 then s2.wdtExpire 1 else s2)
  else s

/-- A write to WDT.FEED (08 R214): the key feeds while the count lies inside the window; any other value, or a feed above
WINDOW with WIN_EN = 1, expires the watchdog at once. -/
def wdtFeedWrite (s : State) (w : Nat) : State :=
  if !s.on F.WDT_STAT_RUNNING then s
  else if w ≠ 0x5A3C then s.wdtExpire 3
  else if s.on F.WDT_CFG_WIN_EN && decide (s.get F.WDT_WINDOW_WINDOW < s.get F.WDT_COUNT_COUNT) then s.wdtExpire 2
  else { s with wdtFeed := true }

/-- The fine part counts: it has started, and its source runs (08 R196). -/
def fineRuns (s : State) : Bool :=
  s.on F.TMB_STAT_FINE_VALID &&
    ((s.get F.TMB_STAT_FINE_SRC == 2 && s.on F.CLK_STAT_HFXO_OK) || (s.get F.TMB_STAT_FINE_SRC == 1 && s.on F.CLK_STAT_HFRC_OK))

/-- One fine tick passes (08 R196, R205): the fine part moves on and holds at 255, and the general timers count their sources. -/
def fineTick (s : State) : State :=
  let s0 : State := { s with radio := { s.radio with evalOpen := false }, hvl := { s.hvl with pull := s.hvl.pull - 1 } }
  let s1 := if s.fineRuns && decide (s.count % 256 < 255) then ({ s0 with count := s0.count + 1 }).alarmsTick else s0
  forN 4 (fun t u => u.tmrFine t) s1

/-- The fine part at a slow-tick edge (08 R196, R197): on HFXO when it is stable, else on HFRC; with neither it stops. -/
def fineEdge (s : State) : State :=
  if s.on F.CLK_STAT_HFXO_OK then (s.put F.TMB_STAT_FINE_SRC 2).put F.TMB_STAT_FINE_VALID 1
  else if s.on F.CLK_STAT_HFRC_OK then (s.put F.TMB_STAT_FINE_SRC 1).put F.TMB_STAT_FINE_VALID 1
  else (s.put F.TMB_STAT_FINE_SRC 0).put F.TMB_STAT_FINE_VALID 0

/-- The master sends TIME with the count of the next sync marker (11 R290). -/
def sendTime (s : State) : State :=
  let s1 : State := { s with hvl := { s.hvl with joining := s.hvl.joining.map (fun j => (j.1, true)) } }
  s1.hvlSend ptTime 0 0 true true true (natLe 6 ((s.count / 65536 + 1) * 65536 % countMod))

/-- At a sync marker the positions that have been answered WELCOME and sent TIME join (11 R288 step 6). -/
def membersJoin (s : State) : State :=
  let ready := s.hvl.joining.filter (·.2)
  if ready.isEmpty then s
  else
    let s1 := ready.foldl (fun t j => (t.putBit F.HVL_MEMBERS_JOINED j.1 true).putBit F.HVL_MEMBERS_LOST j.1 false) s
    (({ s1 with hvl := { s1.hvl with joining := s1.hvl.joining.filter (fun j => !j.2) } }).flag P.HVL 0).event P.HVL 0

/-- The master pulls HVL_SYNC low at a slow-tick edge (11 R290): for 2 fine ticks, or for 6 at a sync marker. -/
def syncPull (s : State) : State :=
  if s.hvlMaster then { s with hvl := { s.hvl with pull := if s.count % 65536 = 0 then 6 else 2 } } else s

/-- What happens at a slow tick in the LFCLK domain beside the count: alarms, timers, watchdog (08). -/
def slowUnits (s : State) : State :=
  let s1 := s.alarmsTick
  let s2 := forN 4 (fun t u => u.tmrSlow t) s1
  forN 2 (fun m u => u.lptCycle m) s2

/-- The count after one slow tick (08 R196, R197): bits [47:8] count on, the fine part is 0, and it starts, stops or changes its source. -/
def slowCount (s : State) : State :=
  let s1 : State := { s with count := (s.count / 256 + 1) * 256 % countMod, radio := { s.radio with evalOpen := false } }
  let s2 := s1.slowUnits.fineEdge.syncPull
  if s2.hvlMaster && s2.count % 65536 = 0x8000 then s2.sendTime
  else if s2.hvlMaster && s2.count % 65536 = 0 then s2.membersJoin
  else s2

end State

open State

/-- A slow-tick edge (08 R195, R196, R213, R218): it stands for an edge of LFCLK and of LFRC, which have one frequency (log entry 117). A slave
that follows HVL_SYNC discards its own LFCLK for its count (11 R290) while the watchdog counts on; in Dormant both stand still. -/
def State.slowEdge (s : State) : State :=
  if s.pwr.state = .dormant then s
  else
    let s1 := s.wdtTick
    if s1.on F.TMB_STAT_FOLLOW then s1 else s1.slowCount

/-- SLOW_TICK (08 R195 to R197, R218). -/
def execSlowTick (s : State) : Host.Outcome State Fault Refusal := .next s.slowEdge

/-- FINE_PART_START (08 R197): at a slow-tick edge, where the count's low bits are 0, the fine part starts or changes its source. -/
def execFinePartStart (s : State) : Host.Outcome State Fault Refusal :=
  .next (if s.count % 256 = 0 ∧ (s.on F.CLK_STAT_HFXO_OK = true ∨ s.on F.CLK_STAT_HFRC_OK = true) then s.fineEdge else s)

/-- ALARM_WRITE_EFFECT (08 R201): the ticks that a pending write of alarm `n` still needs pass, each of the kind that occurs, and with the last
it takes effect. -/
def execAlarmWriteEffect (n : Nat) (s : State) : Host.Outcome State Fault Refusal :=
  .next (match (s.alarm n).pend with
    | none => s
    | some _ => forN (s.alarm n).ticks (fun _ t => if t.fineRuns && decide (t.count % 256 < 255) then t.fineTick else t.slowEdge) s)

/-- ALARM_FIRE (08 R202): an armed alarm that is due fires, not late. -/
def execAlarmFire (n : Nat) (s : State) : Host.Outcome State Fault Refusal :=
  .next (if (s.alarm n).armed && alarmDue s.count (s.alarm n).cmp then s.alarmFire n false else s)

/-- WRAP (08 R206): the count of a running timer comes to its active period, which raises WRAP, and in the next cycle it is 0; a count that has
come there already goes to 0. -/
def execWrap (t : Nat) (s : State) : Host.Outcome State Fault Refusal :=
  .next (if !s.enabled (P.TMR t) || s.pageSt (P.TMR t) != 1 || decide (4 ≤ t) then s
    else if s.tmrAtWrap t then s.tmrCycle t
    else if (s.tmrCycle t).tmrAtWrap t then (s.tmrCycle t).tmrCycle t
    else s)

/-- CMP (08 R207): with its next cycle the count of a running timer comes to the active compare of a channel, which raises CMPk. -/
def execCmp (t k : Nat) (s : State) : Host.Outcome State Fault Refusal :=
  .next (if s.enabled (P.TMR t) && s.pageSt (P.TMR t) == 1 && decide (t < 4) && decide (k < 4) && (s.tmrCycle t).tmrMatches t k
    then s.tmrCycle t else s)

/-- LPT_SYNC_DONE (08 R207, R211): the writes that cross into the LFCLK domain arrive and SYNC_BUSY clears; a timer that starts to count shows
what its count raises. -/
def execLptSyncDone (s : State) : Host.Outcome State Fault Refusal :=
  let s1 := ({ s with lptPend := [] }).put F.LPT_STAT_SYNC_BUSY 0
  .next (forN 2 (fun m u => if s1.lptRuns m && !s.lptRuns m then u.lptShow m else u) s1)

/-- LPT_WRAP (08 R211): the count of a running low-power timer comes to its active period, and with the next cycle it is 0; a count that has
come there already goes to 0. -/
def execLptWrap (m : Nat) (s : State) : Host.Outcome State Fault Refusal :=
  .next (if !s.lptRuns m || decide (2 ≤ m) then s
    else if s.lptAtWrap m then s.lptCycle m
    else if (s.lptCycle m).lptAtWrap m then (s.lptCycle m).lptCycle m
    else s)

/-- LPT_CMP (08 R211): with its next cycle the count of a running low-power timer comes to the active compare. -/
def execLptCmp (m : Nat) (s : State) : Host.Outcome State Fault Refusal :=
  .next (if s.lptRuns m && decide (m < 2) && (s.lptCycle m).lptMatches m then s.lptCycle m else s)

/-- PREWARN (08 R215): with the next LFRC tick the running watchdog comes to PREWARN, or it stands there since its load. -/
def execPrewarn (s : State) : Host.Outcome State Fault Refusal :=
  .next (if !s.on F.WDT_STAT_RUNNING then s
    else if s.get F.WDT_COUNT_COUNT = s.get F.WDT_PREWARN_PREWARN then s.wdtPrewarn
    else if (s.wdtTick.get F.WDT_COUNT_COUNT) = s.get F.WDT_PREWARN_PREWARN ∧ s.wdtFeed = false then s.wdtTick
    else s)

/-- WDT_EXPIRY (08 R216): with the next LFRC tick the running watchdog comes to 0; one fed meanwhile reloads instead. -/
def execWdtExpiry (s : State) : Host.Outcome State Fault Refusal :=
  .next (if s.on F.WDT_STAT_RUNNING && decide (s.get F.WDT_COUNT_COUNT ≤ 1) then s.wdtTick else s)

end Sys2Proof.Machine
end

