-- ==== Sys2Proof/Machine/Buffers.lean ====
section
/-! DEFINITION. The radio buffer (10 R250 to R258): blocks and their owners, chains, the free list, the receive queue, and what
the FRM page's registers do. -/

namespace Sys2Proof.Machine

/-- The address of radio buffer block `b` (10 R250). -/
def blockAddr (b : Nat) : Nat := 0x20200000 + 128 * b

namespace State

/-- Whether block `b` may be on the free list: not in a retired bank (21 R470), not left out by a release walk. -/
def blockUsable (s : State) (b : Nat) : Bool := !(s.bankRetired (28 + b / 256)) && !(s.flt.stuck.contains b)

/-- The blocks on the free list. -/
def freeBlocks (s : State) : List Nat :=
  (List.range 512).filter (fun b => s.owner b == .free && s.blockUsable b)

/-- FRM.POOL.FREE. -/
def freeCount (s : State) : Nat := s.freeBlocks.length

/-- Take one block off the free list for owner `o`. The specification does not say which block of the list: a free value
chooses (log entry 5). Below LOW_WATER the flag is set (10 R257). -/
def takeBlock (s : State) (o : Owner) : Option (Nat × State) :=
  let fb := s.freeBlocks
  if fb.isEmpty then none
  else
    let (r, s1) := s.freeVal
    let b := fb.getD (r.toNat % fb.length) 0
    let s2 := s1.setOwner b o
    some (b, if fb.length - 1 < s2.get F.FRM_CFG_LOW_WATER then s2.flag P.FRM 1 else s2)

/-- A block taken, and further ones by `g`, as one list. -/
def consBlock (o : Option (Nat × State)) (g : State → Option (List Nat × State)) : Option (List Nat × State) :=
  match o with
  | none => none
  | some (b, s1) =>
    match g s1 with
    | none => none
    | some (bs, s2) => some (b :: bs, s2)

/-- Take `n` blocks, or none. -/
def takeBlocks (s : State) (o : Owner) : Nat → Option (List Nat × State)
  | 0 => some ([], s)
  | n + 1 => consBlock (s.takeBlock o) (fun t => takeBlocks t o n)

/-- LNK PAGE_STAT.READY: all four speculation contexts hold their blocks (09 R238). -/
def setLnkReady (s : State) : State := s.put (F.PAGE_STAT_READY P.LNK) (boolNat (s.ctxs.all (fun c => c.block.isSome)))

/-- Return a block to the free list with no event. While LNK is enabled and a speculation context lacks its block, that context
takes it first (09 R238). -/
def freeBlock (s : State) (b : Nat) : State :=
  match (if s.enabled P.LNK then s.ctxs.findIdx? (fun c => c.block.isNone && !c.busy) else none) with
  | some k =>
    (({ s with ctxs := modifyAt s.ctxs k (fun c => { c with block := some b }) }).setOwner b .context).setLnkReady
  | none => s.setOwner b .free

/-- Return blocks to the free list. -/
def freeAll (s : State) (bs : List Nat) : State := bs.foldl freeBlock s

/-- Give blocks to an owner. -/
def giveAll (s : State) (bs : List Nat) (o : Owner) : State := bs.foldl (fun t b => t.setOwner b o) s

/-- A context's block leaves the free list when LNK's ENABLE is set: every context that finds a block takes it, in context
order (09 R238). -/
def ctxTake (s : State) : State :=
  ((List.range s.ctxs.length).foldl (fun t k =>
    if (t.ctxs.getD k ctx0).block.isNone then
      (match t.takeBlock .context with
       | some (b, t1) => { t1 with ctxs := modifyAt t1.ctxs k (fun c => { c with block := some b }) }
       | none => t)
    else t) s).setLnkReady

/-- Idle contexts return their blocks when LNK's ENABLE is cleared (09 R238); a busy one keeps its block to its end. -/
def ctxReturn (s : State) : State :=
  ((List.range s.ctxs.length).foldl (fun t k =>
    match t.ctxs[k]? with
    | some c => (match c.busy, c.block with
      | false, some b => ({ t with ctxs := modifyAt t.ctxs k (fun c => { c with block := none }) }).setOwner b .free
      | _, _ => t)
    | none => t) s).setLnkReady

/-- The link word of a block (10 R250). -/
def linkWord (s : State) (b : Nat) : Nat := s.memNat (blockAddr b) 4

/-- The data area of a block: 120 bytes in a received chain's first block, 116 in a transmit chain's first, 124 after that
(10 R250, R251). -/
def dataStart (first tx : Bool) : Nat := if first then (if tx then 12 else 8) else 4

/-- Lay the bytes of a hardware chain into its blocks, every block full before the next (10 R252), with their link words. -/
def layChain (s : State) (first : Bool) : List Nat → List Byte → State
  | [], _ => s
  | b :: bs, data =>
    let cap := 128 - dataStart first false
    let part := data.take cap
    let link := (match bs with | n :: _ => n | [] => 0x200) + part.length * 0x10000
    layChain ((s.setMemNat (blockAddr b) 4 link).setBytes (blockAddr b + dataStart first false) part) false bs (data.drop cap)

/-- Write a received chain or a Whiff result: record word, then the data (10 R251). -/
def storeChain (s : State) (bs : List Nat) (body trail kind : Nat) (data : List Byte) : State :=
  match bs with
  | [] => s
  | b :: _ => (s.layChain true bs data).setMemNat (blockAddr b + 4) 4 (body + trail * 0x800 + kind * 0x80000)

/-- The blocks a chain of `n` data bytes needs (10 R252). -/
def blocksFor (n : Nat) : Nat := if n ≤ 120 then 1 else 1 + (n - 120 + 123) / 124

/-- The blocks of a chain from `b` on, at most `fuel`; `none` where the chain does not end within it. -/
def chainBlocks (s : State) (b : Nat) : Nat → Option (List Nat)
  | 0 => none
  | fuel + 1 =>
    let w := s.linkWord b
    if w.testBit 9 then some [b]
    else match chainBlocks s (w % 512) fuel with
      | some bs => some (b :: bs)
      | none => none

/-- The blocks a walk from `b` on visits, at most `fuel` (10 R255): it stops after LAST and at a link word with a double-bit error. -/
def walkBlocks (s : State) (b : Nat) : Nat → List Nat
  | 0 => []
  | fuel + 1 => if s.badWord (blockAddr b) || (s.linkWord b).testBit 9 then [b] else b :: walkBlocks s (s.linkWord b % 512) fuel

/-- The data bytes of a chain, USED bytes per block. -/
def chainData (s : State) (first tx : Bool) : List Nat → List Byte
  | [] => []
  | b :: bs => s.bytesAt (blockAddr b + dataStart first tx) (bitsOf (s.linkWord b) 16 7) ++ chainData s false tx bs

/-- The bytes that software wrote into the transmit chain at `head` (10 R251). -/
def chainBody (s : State) (head : Nat) : List Byte := (s.chainData true true (s.walkBlocks head 18)).take 2047

/-- The walk of FRM.RELEASE (10 R256): each block owned by SOFTWARE is freed until LAST; a block of another owner, a link word
with a double-bit error (21 R470) or a 19th block stops it with CHAIN_ERR, and VIOL records that block. -/
def releaseWalk (s : State) (b : Nat) (freed : Bool) : Nat → State × Bool
  | 0 => ((((s.flag P.FRM 3).put F.FRM_VIOL_VALID 1).put F.FRM_VIOL_INITIATOR 4).put F.FRM_VIOL_BLOCK b, freed)
  | fuel + 1 =>
    if s.owner b != .software || s.badWord (blockAddr b) then
      let s1 := if s.owner b == .software then ({ s with flt := { s.flt with stuck := s.flt.stuck ++ [b] } } : State).reportFault (0x0600 + 28 + b / 256) .memory
        else s
      ((((s1.flag P.FRM 3).put F.FRM_VIOL_VALID 1).put F.FRM_VIOL_INITIATOR 4).put F.FRM_VIOL_BLOCK b, freed)
    else
      let w := s.linkWord b
      let s1 := s.freeBlock b
      if w.testBit 9 then (s1, true) else releaseWalk s1 (w % 512) true fuel

/-- FRM.RELEASE (10 R256): the walk, and one release event if it freed a block. -/
def release (s : State) (head : Nat) : State :=
  match s.releaseWalk head false 18 with
  | (s1, true) => s1.event P.FRM 1
  | (s1, false) => s1

/-- A frame enters the receive queue (10 R258): its chain moves to SOFTWARE, the flag and event 0 follow. -/
def queueFrame (s : State) (bs : List Nat) : State :=
  match bs with
  | [] => s
  | h :: _ => ((({ s.giveAll bs .software with rxq := s.rxq ++ [h] }).flag P.FRM 0).event P.FRM 0)

end State

/-- A read of the FRM page at offset `off` by an initiator: FRM.ALLOC allocates (10 R257), FRM.RXQ removes (10 R258), FRM.POOL
counts. -/
def frmRead (s : State) (off : Nat) (raw : Word) : Word × State :=
  if off = 0x124 then
    (if !s.enabled P.FRM || s.freeCount ≤ s.get F.FRM_CFG_ALLOC_RESERVE then (0, s)
     else match s.takeBlock .software with
      | some (b, s1) => (BitVec.ofNat 32 (0x8000 + b), s1.setMemNat (blockAddr b) 4 0x200)
      | none => (0, s))
  else if off = 0x12C then
    (match s.enabled P.FRM, s.rxq with
     | true, h :: t => (BitVec.ofNat 32 (0x8000 + h), { s with rxq := t })
     | _, _ => (0, s))
  else if off = 0x130 then (BitVec.ofNat 32 (s.rxq.length * 0x10000 + s.freeCount), s)
  else (raw, s)

/-- What a write to the FRM page starts: FRM.RELEASE walks a chain (10 R256). -/
def frmWrite (s : State) (off : Nat) (w : Word) : State :=
  if off = 0x128 ∧ s.enabled P.FRM = true then s.release (w.toNat % 512) else s

end Sys2Proof.Machine
end

