-- ==== Sys2Proof/Machine/Nbt.lean ====
section
/-! DEFINITION. The neighbour table (10 R263 to R275): entries, keys and their hash, lookups, counters and reservations, and the
commands INSERT, UPDATE, DELETE, LOOKUP and READ. -/

namespace Sys2Proof.Machine

/-- The number of entries of a device (00 R6). -/
def nbtSize (v : Variant) : Nat := 2 ^ entriesLog2 v

/-- The address of local entry `i` (10 R272). -/
def nbtAddr (i : Nat) : Nat := 0x20300000 + 32 * i

/-- The bits of FLAGS (10 R263). -/
def efValid : Nat := 0
def efKeyType : Nat := 1
def efAlias : Nat := 2
def efBlocked : Nat := 5
def efRetired : Nat := 6
def efPending : Nat := 7
def efSecReq : Nat := 8

/-- FLAGS of an entry's words. -/
def wordsFlags (ws : List Nat) : Nat := ws.getD 5 0 / 65536

/-- A flag of an entry's words. -/
def wordsFlag (ws : List Nat) (n : Nat) : Bool := (wordsFlags ws).testBit n

/-- The key of an entry's words (10 R263, R269). -/
def wordsKey (ws : List Nat) : NbtKey :=
  if wordsFlag ws efKeyType then ⟨true, natLe 2 (ws.getD 2 0) ++ natLe 1 (wordsFlags ws / 8 % 4)⟩
  else ⟨false, natLe 4 (ws.getD 0 0) ++ natLe 4 (ws.getD 1 0)⟩

/-- h of a key (10 R269). -/
def keyHash (k : NbtKey) : Nat := crc32 k.bytes

namespace State

/-- Word `w` of local entry `i`. -/
def entW (s : State) (i w : Nat) : Nat := s.memNat (nbtAddr i + 4 * w) 4

/-- The eight words of local entry `i`. -/
def entWords (s : State) (i : Nat) : List Nat := (List.range 8).map (s.entW i)

/-- Write a word of local entry `i`. -/
def setEntW (s : State) (i w v : Nat) : State := s.setMemNat (nbtAddr i + 4 * w) 4 v

/-- A flag of local entry `i`. -/
def entFlag (s : State) (i n : Nat) : Bool := (s.entW i 5 / 65536).testBit n

/-- A double-bit error in local entry `i` (13 R325). -/
def entBad (s : State) (i : Nat) : Bool := (List.range 8).any (fun w => s.badWord (nbtAddr i + 4 * w))

/-- A hardware reader meets the double-bit error in local entry `i`: a memory fault of its bank (13 R325). -/
def entFault (s : State) (i : Nat) : State := s.reportFault (0x0600 + 32 + i / 1024) .memory

/-- Whether local index `i` exists and lies in no retired bank (21 R470). -/
def entUsable (s : State) (i : Nat) : Bool := decide (i < nbtSize s.variant) && !s.bankRetired (32 + i / 1024)

/-- N, the devices of the cascade (10 R269, R278). -/
def nbtDevices (s : State) : Nat := if s.variant = .znl7240 then s.get F.NBT_CFG_DEVICES + 1 else 1

/-- The home device of a hash. -/
def homeOf (s : State) (h : Nat) : Nat := h / 2 ^ 24 * s.nbtDevices / 256

/-- This device's position: 0 on a variant without a cascade link. -/
def myPos (s : State) : Nat := if s.variant = .znl7240 then s.hvlPos else 0

/-- The global index of local entry `i` (10 R269). -/
def globalIx (s : State) (i : Nat) : Nat := 16384 * s.myPos + i

/-- Whether a home device can be reached (10 R271, 11 R288, R300): this device; on the master a position that has joined; on a
slave a position upstream, or downstream while that hop is up. -/
def homeUp (s : State) (d : Nat) : Bool :=
  if d = s.myPos then true
  else if s.hvlMaster then (s.get F.HVL_MEMBERS_JOINED).testBit d
  else s.hvlSlave && (decide (d < s.myPos) || s.hvl.dn.up)

/-- The bucket of a hash. -/
def bucketOf (s : State) (h : Nat) : Nat := h % 2 ^ (entriesLog2 s.variant - 2)

/-- Whether local entry `i` is valid and holds a key. -/
def entHasKey (s : State) (k : NbtKey) (i : Nat) : Bool :=
  s.entUsable i && s.entFlag i efValid && wordsKey (s.entWords i) == k

/-- The local indices a lookup compares: the four ways of the home bucket and the stash tags (10 R270). -/
def candidates (s : State) (k : NbtKey) : List Nat :=
  (List.range 4).map (fun w => 4 * s.bucketOf (keyHash k) + w) ++ s.stash.map (·.1)

/-- The local entry that holds a key. -/
def findKey (s : State) (k : NbtKey) : Option Nat := (s.candidates k).find? (s.entHasKey k)

/-- A double-bit error among the entries a search compares. -/
def searchBad (s : State) (k : NbtKey) : Bool := (s.candidates k).any s.entBad

/-- The memory fault of the first bad entry a search meets. -/
def searchFault (s : State) (k : NbtKey) : State :=
  match (s.candidates k).find? s.entBad with
  | some i => s.entFault i
  | none => s

/-- The next unreserved outbound value of local entry `i` (10 R268). -/
def nextOut (s : State) (i : Nat) : Nat :=
  (s.reserved.filter (fun r => r.1 == i)).foldl (fun m r => max m (r.2 + 1)) (s.entW i 4)

/-- No outbound value is left (log entry 80): the counter stands at its greatest value, which a next value could not follow. -/
def outSpent (s : State) (i : Nat) : Bool := decide (0xFFFFFFFF ≤ s.nextOut i)

/-- The outbound value that another device gives for its entry `g`: free, but never one that it gave before (10 R268). -/
def remoteU (s : State) (g : Nat) : Nat × State :=
  let (r, s1) := s.freeVal
  let used := (s1.outUsed.filter (fun p => p.1 == g)).map (·.2)
  let u := ((List.range (used.length + 1)).map (fun i => (r.toNat + i) % 0xFFFFFFFF)).find? (fun v => !used.contains v)
  (u.getD 0, { s1 with outUsed := s1.outUsed ++ [(g, u.getD 0)] })

/-- The second trip of a lookup, to a TARGET on another device (10 R264): whether it is found, in flight or not there, and what it holds, are
known there only: free values (log entry 1). What is found is VALID and no alias. -/
def remoteTarget (s : State) (g : Nat) (reserve : Bool) : LookupState × State :=
  let (r, s1) := s.freeVal
  if r.toNat % 4 = 0 then (.notFound, s1)
  else
    let (ws, s2) := (List.range 8).foldl (fun (p : List Nat × State) n => match p.2.freeVal with
      | (w, t) => (p.1 ++ [if n = 5 then putBits w.toNat 16 3 1 else w.toNat], t)) ([], s1)
    if r.toNat % 4 = 1 then (.inFlight ⟨g, ws, none⟩, s2)
    else if reserve then (match s2.remoteU g with | (u, s3) => (.found ⟨g, ws, some u⟩, s3))
    else (.found ⟨g, ws, none⟩, s2)

/-- Raise a counter word of local entry `i` (10 R266); it holds at its greatest value. -/
def raiseW (s : State) (i w v : Nat) : State :=
  if s.entW i w < min v 0xFFFFFFFF then s.setEntW i w (min v 0xFFFFFFFF) else s

/-- Reserve the next outbound value for a speculation (10 R268). -/
def reserveOut (s : State) (i : Nat) : Nat × State :=
  (s.nextOut i, { s with reserved := s.reserved ++ [(i, s.nextOut i)] })

/-- A reservation ends: its value stays a gap, or was used (10 R266, R268). -/
def dropReserve (s : State) (i u : Nat) : State :=
  ({ s with reserved := removeFirst (fun r => r == (i, u)) s.reserved }).raiseW i 4 (u + 1)

/-- The fetch of a secured transmission (10 R267). -/
def fetchOut (s : State) (i : Nat) : Nat × State := (s.nextOut i, s.setEntW i 4 (s.nextOut i + 1))

/-- The link-quality update of a valid frame at the home device (10 R265). -/
def lqUpdate (s : State) (i : Nat) (rssi : Int) (lqi owner : Nat) : State :=
  if s.on F.NBT_CFG_LQ_EN then
    (let w := s.entW i 6
     let cnt := w / 2 ^ 24
     let r0 := signedN 16 w
     let q0 : Int := (w / 65536 % 256 : Nat)
     let r := if cnt = 0 then rssi else r0 + (rssi - r0) / 8
     let q := if cnt = 0 then (lqi : Int) else q0 + ((lqi : Int) - q0) / 8
     let s1 := s.setEntW i 6 (lowBits 16 r + lowBits 8 q * 65536 + min (cnt + 1) 255 * 2 ^ 24)
     let s2 := s1.setEntW i 7 (s.count / 256 % 2 ^ 32)
     s2.setEntW i 5 (putBits (s2.entW i 5) 25 3 owner))
  else s

/-- What the home device does with the outcome of a frame (10 R265, R266; 11 R295): a commit raises both counters, a release
leaves its value a gap; a valid frame without a commit raises IN_FC if it is secured (`inFc` is then its counter). -/
def applyVerdict (s : State) (i : Nat) (commit release valid : Bool) (inFc : Option Nat) (u : Option Nat)
    (rssi : Int) (lqi src : Nat) : State :=
  let s1 := if commit || valid then (match inFc with | some c => s.raiseW i 3 c | none => s) else s
  let s2 := match u with | some v => if commit || release then s1.dropReserve i v else s1 | none => s1
  if valid && s2.entFlag i efValid then s2.lqUpdate i rssi lqi src else s2

/-- The outcome of a frame reaches the home device of entry `g`: at once, or as a VERDICT packet (11 R295). -/
def sendVerdict (s : State) (g : Nat) (commit release valid : Bool) (inFc u : Option Nat) (rssi : Int) (lqi : Nat) : State :=
  if g / 16384 = s.myPos then
    s.applyVerdict (g % 16384) commit release valid inFc u rssi lqi (if s.hvlMaster || s.hvlSlave then s.myPos else 0)
  else
    let (t, s1) := s.hvlTag
    ({ s1 with hvl := { s1.hvl with verdicts := s1.hvl.verdicts ++ [g] } }).hvlSend ptVerdict (g / 16384) t false true true
      (natLe 4 (g + boolNat commit * 2 ^ 17 + boolNat release * 2 ^ 18 + boolNat valid * 2 ^ 19) ++
       natLe 4 (inFc.getD 0) ++ natLe 4 (u.getD 0) ++ natLe 2 (lowBits 16 rssi) ++ natLe 1 lqi ++ [0])

/-- The result of a command: its code, the index returned, STASHED, the words READ returns, the state. -/
abbrev NbtAns := Nat × Nat × Bool × Option (List Nat) × State

/-- An index beyond the table (10 R273). -/
def badIndex (s : State) (g : Nat) : Bool := decide (s.nbtDevices ≤ g / 16384) || decide (nbtSize s.variant ≤ g % 16384)

/-- STASHED of local entry `i`. -/
def isStashed (s : State) (i : Nat) : Bool := s.stash.any (fun t => t.1 == i)

/-- What is wrong with the staged words of an INSERT: BAD_KEY 5, UNAVAILABLE 6, MEM_ERR 7, or nothing; whether a TARGET on another device
qualifies is known there only, so a free value says so (log entry 1). -/
def insertCheck (s : State) (ws : List Nat) : Nat × State :=
  if !wordsFlag ws efAlias then (0, s)
  else if !wordsFlag ws efKeyType then (5, s)
  else
    let g := ws.getD 3 0 % 2 ^ 17
    if s.badIndex g then (5, s)
    else if g / 16384 = s.myPos then
      (if s.entBad (g % 16384) then (7, s.entFault (g % 16384))
       else if s.entUsable (g % 16384) && s.entFlag (g % 16384) efValid && !s.entFlag (g % 16384) efKeyType && !s.entFlag (g % 16384) efAlias
       then (0, s) else (5, s))
    else if !s.homeUp (g / 16384) then (6, s)
    else
      let (r, s1) := s.freeVal
      (if r.toNat % 2 = 0 then 0 else 5, s1)

/-- A local index that holds no entry and may be given. -/
def entFree (s : State) (i : Nat) : Bool := s.entUsable i && !s.entFlag i efValid

/-- Install an entry's words at local index `i`. -/
def installEntry (s : State) (i : Nat) (ws : List Nat) : State :=
  let w5 := putBits (putBits (ws.getD 5 0) 16 1 1) 25 3 0
  let w6 := putBits (ws.getD 6 0) 24 8 0
  (List.range 8).foldl (fun t w => t.setEntW i w (if w = 5 then w5 else if w = 6 then w6 else ws.getD w 0)) s

/-- STASH_HIGH (10 R270). -/
def stashHigh (s : State) : State := if 48 ≤ s.stash.length then s.flag P.NBT 2 else s

/-- INSERT at the home device (10 R270, R273). -/
def nbtInsert (s : State) (ws : List Nat) : NbtAns :=
  let k := wordsKey ws
  let (c, s1) := s.insertCheck ws
  if c ≠ 0 then (c, 0, false, none, s1)
  else if s1.searchBad k then (7, 0, false, none, s1.searchFault k)
  else match s1.findKey k with
    | some i => (1, s1.globalIx i, s1.isStashed i, none, s1)
    | none =>
      match ((List.range 4).map (fun w => 4 * s1.bucketOf (keyHash k) + w)).find? s1.entFree with
      | some i => (0, s1.globalIx i, false, none, s1.installEntry i ws)
      | none =>
        if 64 ≤ s1.stash.length then (2, 0, false, none, s1)
        else match (List.range (nbtSize s1.variant)).find? s1.entFree with
          | some i =>
            (0, s1.globalIx i, true, none,
              (({ s1 with stash := s1.stash ++ [(i, keyHash k)] }).installEntry i ws).stashHigh)
          | none => (2, 0, false, none, s1)

/-- The word UPDATE leaves in place of word `w` (10 R273). -/
def updateWord (old new : List Nat) (w : Nat) : Nat :=
  let kt := wordsFlag old efKeyType
  if w < 2 then (if kt then new.getD w 0 else old.getD w 0)
  else if w = 2 then (if kt then putBits (new.getD 2 0) 0 16 (old.getD 2 0) else new.getD 2 0)
  else if w = 5 then
    putBits (putBits (new.getD 5 0) 16 5 (old.getD 5 0 / 2 ^ 16)) 25 3 (old.getD 5 0 / 2 ^ 25)
  else new.getD w 0

/-- UPDATE at the home device. -/
def nbtUpdate (s : State) (g mask : Nat) (ws : List Nat) : NbtAns :=
  let i := g % 16384
  if s.entBad i then (7, g, false, none, s.entFault i)
  else if !s.entUsable i || !s.entFlag i efValid then (4, g, false, none, s)
  else
    let old := s.entWords i
    (0, g, s.isStashed i, none,
      (List.range 8).foldl (fun t w => if mask.testBit w then t.setEntW i w (updateWord old ws w) else t) s)

/-- Entry `g` has been deleted: a speculation pending on it will squash at its commit (10 R274). -/
def entryGone (s : State) (g : Nat) : State :=
  { s with ctxs := s.ctxs.map (fun (c : AckCtx) => if c.busy && !c.committed && c.index == g then { c with gone := true } else c) }

/-- DELETE at the home device; a speculation pending on the entry will squash at its commit (10 R274). -/
def nbtDelete (s : State) (g : Nat) : NbtAns :=
  let i := g % 16384
  if s.entBad i then (7, g, false, none, s.entFault i)
  else if !s.entUsable i || !s.entFlag i efValid then (4, g, false, none, s)
  else
    (0, g, false, none,
      ({ s.entryGone (s.globalIx i) with stash := s.stash.filter (fun t => t.1 != i) }).setEntW i 5 (putBits (s.entW i 5) 16 1 0))

/-- LOOKUP at the home device, aliases followed (10 R264, R273). Whether a TARGET on another device that has joined is VALID and no alias is
known there only: a free value says so (log entry 1). -/
def nbtLookup (s : State) (k : NbtKey) : NbtAns :=
  if s.searchBad k then (7, 0, false, none, s.searchFault k)
  else match s.findKey k with
    | none => (3, 0, false, none, s)
    | some i =>
      if s.entFlag i efAlias then
        (let g := s.entW i 3 % 2 ^ 17
         if g / 16384 = s.myPos then
           (let t := g % 16384
            if s.entBad t then (7, 0, false, none, s.entFault t)
            else if s.entUsable t && s.entFlag t efValid && !s.entFlag t efAlias then (0, g, s.isStashed t, none, s)
            else (3, 0, false, none, s))
         else if s.homeUp (g / 16384) then
           (match s.freeVal with | (r, t) => if r.toNat % 2 = 0 then (0, g, false, none, t) else (3, 0, false, none, t))
         else (3, 0, false, none, s))
      else (0, s.globalIx i, s.isStashed i, none, s)

/-- READ at the home device; a retired bank's entry reads as its memory stands. -/
def nbtReadAt (s : State) (g : Nat) : NbtAns :=
  if s.entBad (g % 16384) then (7, g, false, none, s.entFault (g % 16384))
  else (0, g, s.isStashed (g % 16384), some (s.entWords (g % 16384)), s)

/-- A command at the home device. -/
def nbtExec (s : State) (j : NbtJob) : NbtAns :=
  if j.op = 1 then s.nbtInsert j.data
  else if j.op = 2 then s.nbtUpdate j.index j.mask j.data
  else if j.op = 3 then s.nbtDelete j.index
  else if j.op = 4 then s.nbtLookup (wordsKey j.data)
  else s.nbtReadAt j.index

/-- The home device of a command: of its key for INSERT and LOOKUP, of INDEX otherwise. -/
def nbtJobHome (s : State) (j : NbtJob) : Nat :=
  if j.op = 1 ∨ j.op = 4 then s.homeOf (keyHash (wordsKey j.data)) else j.index / 16384

/-- PAGE_STAT.STATE of NBT: a command in progress. -/
def nbtBusy (s : State) : State :=
  s.setPageSt P.NBT (boolNat (s.nbtJobs.apc.isSome || s.nbtJobs.ntc.isSome || s.nbtJobs.scc.isSome || s.nbtJobs.host.isSome ||
    (s.nbtJobs.debug).isSome))

/-- A command completes for initiator `i`: NBT.RES, the READ data, the flags (10 R275). -/
def nbtComplete (s : State) (i : Initiator) (op : Nat) (code ix : Nat) (stashed : Bool) (words : Option (List Nat)) : State :=
  let lost := s.getI i F.NBT_RES_LOST
  let s1 := s.setRegI i Reg.NBT_RES
    (BitVec.ofNat 32 (lost * 2 ^ 30 + code * 2 ^ 20 + boolNat stashed * 2 ^ 17 + ix % 2 ^ 17))
  let s2 := match words with
    | some ws => (List.range 8).foldl (fun (t : State) n => t.setRegI i (Reg.NBT_DATA n) (BitVec.ofNat 32 (ws.getD n 0))) s1
    | none => s1
  let s3 := if op = 1 ∧ code = 2 then (s2.flag P.NBT 1).countSat F.NBT_STATS_FULLS else s2
  ({ s3.flag P.NBT 0 with nbtJobs := s3.nbtJobs.set i none }).nbtBusy

/-- The two parts in which a message of more than 18 bytes travels (11 R284). -/
def sendParts (s : State) (typ dst tag : Nat) (payload : List Byte) : State :=
  if payload.length ≤ 18 then s.hvlSend typ dst tag false true true payload
  else (s.hvlSend typ dst tag false true false (payload.take 18)).hvlSend typ dst tag false false true (payload.drop 18)

/-- The bytes an NBT_CMD message carries (11 R284): the command, the index, and the staged words the command needs. -/
def nbtCmdBytes (j : NbtJob) : List Byte :=
  natLe 2 (j.op + j.mask * 256) ++ natLe 4 j.index ++
    (if j.op = 1 then j.data.flatMap (natLe 4)
     else if j.op = 4 then (List.range 8).flatMap (fun w => if w = 0 ∨ w = 1 ∨ w = 2 ∨ w = 5 then natLe 4 (j.data.getD w 0) else [])
     else if j.op = 2 then (List.range 8).flatMap (fun w => if j.mask.testBit w then natLe 4 (j.data.getD w 0) else [])
     else [])

/-- A write to NBT.CMD (10 R273, R275): discarded with LOST while the writer's last command is BUSY; a command for another
device travels over the link, one whose home has not joined ends UNAVAILABLE, an index beyond the table BAD_INDEX. -/
def nbtCmdWrite (s : State) (i : Initiator) (w : Nat) : State :=
  let op := w % 8
  if !s.enabled P.NBT || op = 0 || decide (5 < op) then s
  else if (s.nbtJobs.get i).isSome then s.putI i F.NBT_RES_LOST 1
  else
    let j : NbtJob := ⟨op, w / 256 % 256, s.getI i F.NBT_INDEX_INDEX, (List.range 8).map (fun n => (s.regI i (Reg.NBT_DATA n)).toNat), false⟩
    let s1 := if op = 1 ∨ op = 4 then s.setRegI i Reg.NBT_HASH (BitVec.ofNat 32 (keyHash (wordsKey j.data))) else s
    let home := s1.nbtJobHome j
    let s2 := (s1.putI i F.NBT_RES_BUSY 1).putI i F.NBT_RES_LOST 0
    let s3 := ({ s2 with nbtJobs := s2.nbtJobs.set i (some { j with remote := home != s2.myPos }) }).nbtBusy
    if home = s3.myPos ∨ s3.badIndex (16384 * home) ∨ ¬ s3.homeUp home then s3
    else
      let (t, s4) := s3.hvlTag
      let o : Outstanding := ⟨t, home, none, some i, ptNbtCmd, []⟩
      let s5 : State := { s4 with hvl := { s4.hvl with waits := s4.hvl.waits ++ [o] } }
      s5.sendParts ptNbtCmd home t (nbtCmdBytes j)

/-- The number of valid entries of this device, for NBT.COUNT. -/
def nbtUsed (s : State) : Nat := ((List.range (nbtSize s.variant)).filter (fun i => s.entUsable i && s.entFlag i efValid)).length

end State

/-- A read of NBT.COUNT (10 R278). -/
def nbtRegRead (s : State) (off : Nat) (raw : Word) : Word :=
  if off = 0x114 then BitVec.ofNat 32 (s.stash.length * 65536 + s.nbtUsed) else raw

/-- NBT_COMMAND_DONE (10 R271, R273, R275): the command of initiator `ini` executes on this device, once no lookup of NIB_B waits for the port
or holds it, or ends where its home has not joined or its index lies beyond the table; a command on its way to another device completes
by NBT_RES. -/
def execNbtCommandDone (ini : Initiator) (s : State) : Host.Outcome State Fault Refusal :=
  .next (match s.nbtJobs.get ini with
    | none => s
    | some j =>
      let home := s.nbtJobHome j
      if (j.op = 2 ∨ j.op = 3 ∨ j.op = 5) ∧ s.badIndex j.index then s.nbtComplete ini j.op 4 j.index false none
      else if home = s.myPos ∧ (s.shared ++ s.inService).any (fun r => r.unit == .lookup) = true then s
      else if home = s.myPos then
        (match s.nbtExec j with | (c, ix, st, ws, s1) => s1.nbtComplete ini j.op c ix st ws)
      else if s.homeUp home ∧ s.hvl.waits.any (fun w => w.ptype == ptNbtCmd && w.ini == some ini) then s
      else s.nbtComplete ini j.op 6 0 false none)

end Sys2Proof.Machine
end

