-- ==== Sys2Proof/Machine/Forward.lean ====
section
/-! DEFINITION. The forwarding queue of a slave (11 R294): a frame leaves for the master as FRAME packets, one frame at a time. -/

namespace Sys2Proof.Machine

/-- Bytes cut into packets of at most 58 bytes; `fuel` bounds their number. -/
def packets58 : Nat → List Byte → List (List Byte)
  | 0, _ => []
  | fuel + 1, bs => if bs.length ≤ 58 then [bs] else bs.take 58 :: packets58 fuel (bs.drop 58)

namespace State

/-- The bytes of a queued frame: its record word, then the PSDU, the metadata and any OFDM record as they stand in the chain. -/
def forwardBytes (s : State) (head : Nat) : List Byte :=
  natLe 4 (s.memNat (blockAddr head + 4) 4) ++
    (match s.chainBlocks head 20 with | some bs => s.chainData true false bs | none => [])

/-- The oldest waiting frame leaves for position 0. -/
def forwardSend (s : State) : State :=
  match s.hvl.fwdQ with
  | [] => s
  | h :: _ =>
    let (tag, s1) := s.hvlTag
    let ps := packets58 64 (s1.forwardBytes h)
    let n := ps.length
    let s2 := (List.range n).foldl (fun t k => t.hvlSend ptFrame 0 tag false (k == 0) (k + 1 == n) (ps.getD k [])) s1
    { s2 with hvl := { s2.hvl with fwdTag := tag, fwdSent := true } }

/-- The next frame of the forwarding queue is sent if none is on its way and no resend wait runs. -/
def forwardKick (s : State) : State :=
  if s.hvlSlave && !s.hvl.fwdSent && s.hvl.fwdWait == 0 then s.forwardSend else s

end State

end Sys2Proof.Machine
end

