-- ==== Sys2Proof/Machine/Crypto.lean ====
section
/-! DEFINITION. The cryptographic functions of the security engine (12 R303): AES with CTR, CCM*, key wrap (FIPS 197, SP 800-38C,
SP 800-38F), SHA-256 (FIPS 180-4) and the verification of ECDSA P-256 (FIPS 186). The specification names the standards
and leaves the algorithms to them: PRESUMED (log entry 6). Bytes are numbers below 256. -/

namespace Sys2Proof.Machine.Crypto

/-- Multiplication by x in the field of AES. -/
def xtime (a : Nat) : Nat := if 2 * a < 256 then 2 * a else (2 * a) ^^^ 0x11B

/-- Multiplication in the field of AES, over the `n` low bits of `b`. -/
def gmul : Nat → Nat → Nat → Nat
  | 0, _, _ => 0
  | n + 1, a, b => (if b % 2 = 1 then a else 0) ^^^ gmul n (xtime a) (b / 2)

/-- The `n`-th power of `a` in the field of AES. -/
def gpow (a : Nat) : Nat → Nat
  | 0 => 1
  | n + 1 => gmul 8 a (gpow a n)

/-- An 8-bit rotation to the left. -/
def rot8 (a k : Nat) : Nat := (a * 2 ^ k % 256) + a / 2 ^ (8 - k)

/-- One value of the S-box. -/
def sbox1 (a : Nat) : Nat :=
  let i := gpow a 254
  i ^^^ rot8 i 1 ^^^ rot8 i 2 ^^^ rot8 i 3 ^^^ rot8 i 4 ^^^ 0x63

/-- The S-box. -/
def sboxTable : List Nat := (List.range 256).map sbox1

def sbox (a : Nat) : Nat := sboxTable.getD a 0
def sboxInv (a : Nat) : Nat := (sboxTable.findIdx? (· == a)).getD 0

/-- The exclusive or of two byte strings, as long as the shorter. -/
def xorB : List Nat → List Nat → List Nat
  | a :: as, b :: bs => (a ^^^ b) :: xorB as bs
  | _, _ => []

/-- The round constant `n`. -/
def rcon : Nat → Nat
  | 0 => 1
  | n + 1 => xtime (rcon n)

/-- The key schedule, as words of four bytes, the newest first; `nk` words of key, `n` words still to make, `i` the next index. -/
def keyWords (nk : Nat) : Nat → Nat → List (List Nat) → List (List Nat)
  | 0, _, ws => ws
  | n + 1, i, ws =>
    let p := ws.headD []
    let t := if i % nk = 0 then
        xorB ((p.drop 1 ++ p.take 1).map sbox) [rcon (i / nk - 1), 0, 0, 0]
      else if 6 < nk ∧ i % nk = 4 then p.map sbox else p
    keyWords nk n (i + 1) (xorB (ws.getD (nk - 1) []) t :: ws)

/-- A byte string in pieces of `k` bytes, at most `fuel` of them. -/
def chunks (k : Nat) : Nat → List Nat → List (List Nat)
  | 0, _ => []
  | f + 1, bs => if bs.isEmpty then [] else bs.take k :: chunks k f (bs.drop k)

/-- The round keys of a 16- or 32-byte key. -/
def roundKeys (key : List Nat) : List (List Nat) :=
  let nk := key.length / 4
  let ws := (keyWords nk (3 * nk + 28) nk (chunks 4 nk key).reverse).reverse
  (chunks 4 (nk + 7) (List.range (4 * (nk + 7)))).map (fun ix => (ix.map (fun i => ws.getD i [])).flatten)

def shiftRows (b : List Nat) : List Nat := (List.range 16).map (fun i => b.getD ((i + 4 * (i % 4)) % 16) 0)
def shiftRowsInv (b : List Nat) : List Nat := (List.range 16).map (fun i => b.getD ((i + 12 * (i % 4)) % 16) 0)

/-- A column times the circulant matrix of `m`. -/
def mixCols (m : List Nat) (b : List Nat) : List Nat :=
  (List.range 16).map (fun i =>
    (List.range 4).foldl (fun a j => a ^^^ gmul 8 (b.getD (i / 4 * 4 + j) 0) (m.getD ((j + 4 - i % 4) % 4) 0)) 0)

/-- The rounds of encryption. -/
def encRounds : List (List Nat) → List Nat → List Nat
  | [], b => b
  | [k], b => xorB (shiftRows (b.map sbox)) k
  | k :: ks, b => encRounds ks (xorB (mixCols [2, 3, 1, 1] (shiftRows (b.map sbox))) k)

/-- AES encryption of one block. -/
def aesEnc (key b : List Nat) : List Nat :=
  match roundKeys key with
  | [] => b
  | k :: ks => encRounds ks (xorB b k)

/-- The rounds of decryption, round keys from the last to the first. -/
def decRounds : List (List Nat) → List Nat → List Nat
  | [], b => b
  | [k], b => xorB ((shiftRowsInv b).map sboxInv) k
  | k :: ks, b => decRounds ks (mixCols [14, 11, 13, 9] (xorB ((shiftRowsInv b).map sboxInv) k))

/-- AES decryption of one block. -/
def aesDec (key b : List Nat) : List Nat :=
  match (roundKeys key).reverse with
  | [] => b
  | k :: ks => decRounds ks (xorB b k)

/-- A number as `n` bytes, most significant first. -/
def beBytes (n v : Nat) : List Nat := (List.range n).map (fun i => v / 256 ^ (n - 1 - i) % 256)

/-- The number that bytes spell, most significant first. -/
def beNat (bs : List Nat) : Nat := bs.foldl (fun a b => 256 * a + b) 0

/-- The bytes padded with zeros to whole blocks. -/
def pad16 (bs : List Nat) : List Nat := bs ++ List.replicate ((16 - bs.length % 16) % 16) 0

/-- The counter mode from a 16-byte counter block. -/
def ctrMode (key : List Nat) (ctr : Nat) : List (List Nat) → List Nat
  | [] => []
  | b :: bs => xorB b (aesEnc key (beBytes 16 ctr)) ++ ctrMode key ((ctr + 1) % 2 ^ 128) bs

/-- CBC-MAC over whole blocks. -/
def cbcMac (key : List Nat) (x : List Nat) : List (List Nat) → List Nat
  | [] => x
  | b :: bs => cbcMac key (aesEnc key (xorB x b)) bs

/-- The encoding of an a-data length (SP 800-38C). -/
def aLen (n : Nat) : List Nat := if n < 0xFF00 then beBytes 2 n else [0xFF, 0xFE] ++ beBytes 4 n

/-- The authentication field of CCM with a 13-byte nonce, unencrypted, `mic` bytes. -/
def ccmTag (key nonce a m : List Nat) (mic : Nat) : List Nat :=
  let flags := (if a.isEmpty then 0 else 64) + 8 * ((mic - 2) / 2) + 1
  let b0 := flags :: nonce ++ beBytes 2 m.length
  let ad := if a.isEmpty then [] else pad16 (aLen a.length ++ a)
  let body := ad ++ pad16 m
  (cbcMac key (List.replicate 16 0) (b0 :: chunks 16 (body.length / 16 + 1) body)).take mic

/-- The CTR pass of CCM over `m`, and the key stream block that covers the authentication field. -/
def ccmCtr (key nonce m : List Nat) : List Nat :=
  ctrMode key (beNat (1 :: nonce ++ [0, 1])) (chunks 16 (m.length / 16 + 1) m)

def ccmS0 (key nonce : List Nat) : List Nat := aesEnc key (1 :: nonce ++ [0, 0])

/-- CCM encryption: ciphertext and encrypted authentication field. -/
def ccmSeal (key nonce a m : List Nat) (mic : Nat) : List Nat × List Nat :=
  (ccmCtr key nonce m, if mic = 0 then [] else xorB (ccmTag key nonce a m mic) (ccmS0 key nonce))

/-- CCM decryption: plaintext, and whether the authentication field is right. -/
def ccmOpen (key nonce a c tag : List Nat) : List Nat × Bool :=
  let m := ccmCtr key nonce c
  (m, tag.isEmpty || xorB (ccmTag key nonce a m tag.length) (ccmS0 key nonce) == tag)

/-- One step of AES-KW (SP 800-38F). -/
def kwStep (key : List Nat) (n : Nat) (st : List Nat × List (List Nat)) (t : Nat) : List Nat × List (List Nat) :=
  let i := (t - 1) % n
  let b := aesEnc key (st.1 ++ st.2.getD i [])
  (xorB (b.take 8) (beBytes 8 t), st.2.set i (b.drop 8))

/-- AES-KW of whole 8-byte semiblocks. -/
def kwWrap (key p : List Nat) : List Nat :=
  let r := chunks 8 (p.length / 8) p
  let out := (List.range (6 * r.length)).foldl (fun st t => kwStep key r.length st (t + 1)) (List.replicate 8 0xA6, r)
  out.1 ++ out.2.flatten

/-- One step backwards. -/
def kwBack (key : List Nat) (n : Nat) (st : List Nat × List (List Nat)) (t : Nat) : List Nat × List (List Nat) :=
  let i := (t - 1) % n
  let b := aesDec key (xorB st.1 (beBytes 8 t) ++ st.2.getD i [])
  (b.take 8, st.2.set i (b.drop 8))

/-- The inverse of AES-KW, with its integrity check. -/
def kwUnwrap (key c : List Nat) : Option (List Nat) :=
  let r := chunks 8 (c.length / 8) c
  let n := r.length - 1
  let out := (List.range (6 * n)).foldl (fun st t => kwBack key n st (6 * n - t)) (r.headD [], r.drop 1)
  if out.1 == List.replicate 8 0xA6 then some out.2.flatten else none

/-- The round constants of SHA-256. -/
def shaK : List Nat :=
  [0x428A2F98, 0x71374491, 0xB5C0FBCF, 0xE9B5DBA5, 0x3956C25B, 0x59F111F1, 0x923F82A4, 0xAB1C5ED5] ++
  [0xD807AA98, 0x12835B01, 0x243185BE, 0x550C7DC3, 0x72BE5D74, 0x80DEB1FE, 0x9BDC06A7, 0xC19BF174] ++
  [0xE49B69C1, 0xEFBE4786, 0x0FC19DC6, 0x240CA1CC, 0x2DE92C6F, 0x4A7484AA, 0x5CB0A9DC, 0x76F988DA] ++
  [0x983E5152, 0xA831C66D, 0xB00327C8, 0xBF597FC7, 0xC6E00BF3, 0xD5A79147, 0x06CA6351, 0x14292967] ++
  [0x27B70A85, 0x2E1B2138, 0x4D2C6DFC, 0x53380D13, 0x650A7354, 0x766A0ABB, 0x81C2C92E, 0x92722C85] ++
  [0xA2BFE8A1, 0xA81A664B, 0xC24B8B70, 0xC76C51A3, 0xD192E819, 0xD6990624, 0xF40E3585, 0x106AA070] ++
  [0x19A4C116, 0x1E376C08, 0x2748774C, 0x34B0BCB5, 0x391C0CB3, 0x4ED8AA4A, 0x5B9CCA4F, 0x682E6FF3] ++
  [0x748F82EE, 0x78A5636F, 0x84C87814, 0x8CC70208, 0x90BEFFFA, 0xA4506CEB, 0xBEF9A3F7, 0xC67178F2]

/-- The start value of SHA-256. -/
def shaH : List Nat :=
  [0x6A09E667, 0xBB67AE85, 0x3C6EF372, 0xA54FF53A, 0x510E527F, 0x9B05688C, 0x1F83D9AB, 0x5BE0CD19]

/-- A 32-bit rotation to the right. -/
def rotr (x k : Nat) : Nat := x / 2 ^ k + x % 2 ^ k * 2 ^ (32 - k)

/-- The message schedule, newest word first. -/
def shaSched : Nat → List Nat → List Nat
  | 0, w => w
  | n + 1, w =>
    let a := w.getD 14 0
    let b := w.getD 1 0
    let s0 := rotr a 7 ^^^ rotr a 18 ^^^ (a / 8)
    let s1 := rotr b 17 ^^^ rotr b 19 ^^^ (b / 1024)
    shaSched n ((w.getD 15 0 + s0 + w.getD 6 0 + s1) % 2 ^ 32 :: w)

/-- One round of SHA-256 on the eight working words. -/
def shaRound (v : List Nat) (kw : Nat) : List Nat :=
  let g (i : Nat) := v.getD i 0
  let e := g 4
  let a := g 0
  let s1 := rotr e 6 ^^^ rotr e 11 ^^^ rotr e 25
  let ch := (e &&& g 5) ^^^ ((2 ^ 32 - 1 - e) &&& g 6)
  let t1 := g 7 + s1 + ch + kw
  let s0 := rotr a 2 ^^^ rotr a 13 ^^^ rotr a 22
  let maj := (a &&& g 1) ^^^ (a &&& g 2) ^^^ (g 1 &&& g 2)
  [(t1 + s0 + maj) % 2 ^ 32, a, g 1, g 2, (g 3 + t1) % 2 ^ 32, e, g 5, g 6]

/-- One block of SHA-256. -/
def shaBlock (h : List Nat) (b : List Nat) : List Nat :=
  let w := (shaSched 48 ((chunks 4 16 b).map beNat).reverse).reverse
  let v := (List.zipWith (fun k x => k + x) shaK w).foldl shaRound h
  List.zipWith (fun x y => (x + y) % 2 ^ 32) h v

/-- SHA-256. -/
def sha256 (m : List Nat) : List Nat :=
  let p := m ++ [0x80] ++ List.replicate ((119 - m.length % 64) % 64) 0 ++ beBytes 8 (8 * m.length)
  ((chunks 64 (p.length / 64) p).foldl shaBlock shaH).flatMap (beBytes 4)

/-- The field prime, the order, the constant b and the base point of P-256. -/
def p256 : Nat := 2 ^ 256 - 2 ^ 224 + 2 ^ 192 + 2 ^ 96 - 1
def n256 : Nat := 0xFFFFFFFF00000000FFFFFFFFFFFFFFFFBCE6FAADA7179E84F3B9CAC2FC632551
def b256 : Nat := 0x5AC635D8AA3A93E7B3EBBD55769886BC651D06B0CC53B0F63BCE3C3E27D2604B
def gx256 : Nat := 0x6B17D1F2E12C4247F8BCE6E563A440F277037D812DEB33A0F4A13945D898C296
def gy256 : Nat := 0x4FE342E2FE1A7F9B8EE7EB4A7C0F9E162BCE33576B315ECECBB6406837BF51F5

/-- `b` to the power `e` modulo `m`, over the `n` low bits of `e`. -/
def powMod (m : Nat) : Nat → Nat → Nat → Nat
  | 0, _, _ => 1
  | n + 1, b, e => (if e % 2 = 1 then b else 1) * powMod m n (b * b % m) (e / 2) % m

def invMod (m a : Nat) : Nat := powMod m 256 (a % m) (m - 2)

/-- The sum of two points of the curve; `none` is the point at infinity. -/
def ptAdd (a b : Option (Nat × Nat)) : Option (Nat × Nat) :=
  match a, b with
  | none, q => q
  | p, none => p
  | some (x1, y1), some (x2, y2) =>
    if x1 = x2 ∧ (y1 + y2) % p256 = 0 then none
    else
      let l := (if x1 = x2 then (3 * x1 * x1 + (p256 - 3)) * invMod p256 (2 * y1)
        else (y2 + p256 - y1) * invMod p256 (x2 + p256 - x1)) % p256
      let x3 := (l * l + 2 * p256 - x1 - x2) % p256
      some (x3, (l * (x1 + p256 - x3) + p256 - y1) % p256)

/-- A multiple of a point, over the `n` low bits of `k`. -/
def ptMul : Nat → Nat → Option (Nat × Nat) → Option (Nat × Nat)
  | 0, _, _ => none
  | n + 1, k, p => ptAdd (if k % 2 = 1 then p else none) (ptMul n (k / 2) (ptAdd p p))

/-- Whether a point lies on the curve. -/
def onCurve (x y : Nat) : Bool :=
  decide (x < p256) && decide (y < p256) && (y * y) % p256 == (x * x * x + (p256 - 3) * x + b256) % p256

/-- ECDSA P-256: whether the signature r‖s verifies over a 32-byte digest under the public key X‖Y. -/
def ecdsaVerify (digest pub sig : List Nat) : Bool :=
  let x := beNat (pub.take 32)
  let y := beNat (pub.drop 32)
  let r := beNat (sig.take 32)
  let s := beNat (sig.drop 32)
  if !(onCurve x y) || r == 0 || s == 0 || decide (n256 ≤ r) || decide (n256 ≤ s) then false
  else
    let w := invMod n256 s
    let u1 := beNat digest * w % n256
    let u2 := r * w % n256
    match ptAdd (ptMul 256 u1 (some (gx256, gy256))) (ptMul 256 u2 (some (x, y))) with
    | none => false
    | some (px, _) => px % n256 == r

end Sys2Proof.Machine.Crypto
end

