-- ==== Sys2Proof/Machine/Synth.lean ====
section
/-! DEFINITION. The two synthesisers: the sample clock of the receiver with its input and zone (03 R61 to R65), and the carrier
synthesiser with its reservation and its one held place (04 R93 to R99, R529). -/

namespace Sys2Proof.Machine

/-- Microseconds in fine ticks, to the nearest tick (08 R196). -/
def usTicks (us : Nat) : Nat := (us * 8388608 + 500000) / 1000000

/-- How many of microseconds a number of fine ticks is, to the nearest. -/
def ticksUs (t : Int) : Int := (t * 1000000 + 4194304) / 8388608

/-- A transmit frequency that the carrier synthesiser reaches: in either band of 04 R90. -/
def inTxBand (f : Int) : Bool :=
  (decide (150000000 ≤ f) && decide (f ≤ 1050000000)) || (decide (2400000000 ≤ f) && decide (f ≤ 2483500000))

namespace State

/-- The input in use: 1 is RFIN_24 (03 R62, R63). -/
def inputInUse (s : State) : Nat := s.get F.SYN_SCS_STAT_FORCED_24

/-- The state of the radio and the state it is judged by (05 R120, R129). -/
def radioState (s : State) : Nat := s.get F.RAD_STATE_STATE
def judged (s : State) : Nat := if s.on F.RAD_STATE_MOVING then s.get F.RAD_STATE_TARGET else s.radioState

/-- The sample clock's rate, input and zone as the registers ask for them (03 R62). -/
def scsWanted (s : State) : Nat × Nat × Nat :=
  if s.on F.RFE_CFG_INPUT then (192000, 1, 25) else (s.get F.SYN_SCS_RATE_RATE_KHZ, 0, s.get F.RFE_CFG_ZONE)

/-- The rate, input and zone in use. -/
def scsActive (s : State) : Nat × Nat × Nat := (s.get F.SYN_SCS_ACTIVE_RATE_KHZ, s.inputInUse, s.get F.RFE_CFG_ZONE_ACTIVE)

/-- The recorder's SCS record (22 R496): rate and zone as in the Whiff record, and the input. -/
def scsRecord (s : State) : State :=
  s.record 0x0E 0 (s.get F.SYN_SCS_ACTIVE_RATE_KHZ + s.get F.RFE_CFG_ZONE_ACTIVE * 2 ^ 24 + s.inputInUse * 2 ^ 32)

/-- A settling of the sample clock begins: 30 µs (03 R63, R64). -/
def scsSettle (s : State) : State :=
  { s.put F.SYN_SCS_STAT_SETTLING 1 with rfe := { s.rfe with settleAt := addTicks s.count (usTicks 30) } }

/-- The time from a start of the receiver to RUNNING, in ticks (03 R63; 05 R122): 28 µs, or 16 µs after the end of a settling if that is
later. -/
def rxLead (s : State) : Nat :=
  if s.on F.SYN_SCS_STAT_SETTLING && !notBefore s.count s.rfe.settleAt then
    max (usTicks 28) (subTicks s.rfe.settleAt s.count + usTicks 16)
  else usTicks 28

/-- The asked rate, input and zone come into use; the clock settles unless it is stopped (03 R63). -/
def scsApply (s : State) (settle : Bool) : State :=
  let w := s.scsWanted
  let s1 := (((s.put F.SYN_SCS_ACTIVE_RATE_KHZ w.1).put F.SYN_SCS_STAT_FORCED_24 w.2.1).put F.RFE_CFG_ZONE_ACTIVE w.2.2).put
    F.RFE_CFG_INVERT (w.2.2 % 2)
  (if settle then s1.scsSettle.put F.SYN_SCS_STAT_LOCK 0 else s1.put F.SYN_SCS_STAT_PENDING 0).scsRecord

/-- The retry number of a unit's event in progress, 0 if none (21 R467). -/
def retryOf (s : State) (u : Nat) : Nat := match s.flt.retries.find? (fun r => r.1 == u) with | some r => r.2 | none => 0

/-- Set the retry number of a unit's event; 0 ends it. -/
def setRetry (s : State) (u k : Nat) : State :=
  { s with flt := { s.flt with retries := s.flt.retries.filter (fun r => r.1 != u) ++ (if k = 0 then [] else [(u, k)]) } }

/-- The unit codes of the receive path and of the carrier synthesiser (21 R465). -/
def uRx : Nat := 0x1000
def uCrs : Nat := 0x1100

/-- A held or new change is applied and the clock settles; after relocks that have all failed it is a new relock (03 R63, R64). -/
def scsFresh (s : State) : State :=
  let s1 := s.scsApply true
  if s.rfe.scsDead then ({ s1 with rfe := { s1.rfe with scsDead := false } }).setRetry uRx 1 else s1

/-- A write or a soft reset has changed what SYN.SCS_RATE, RFE.CFG.INPUT or RFE.CFG.ZONE ask for (03 R63): applied at once while
the receiver is off and the radio is not, held otherwise. A write that asks for what is in use already changes nothing (log entry 95). -/
def scsChanged (s : State) : State :=
  if s.scsWanted = s.scsActive ∧ ¬ s.on F.SYN_SCS_STAT_PENDING then s
  else
    let s1 := s.put F.SYN_SCS_STAT_PENDING 1
    if s1.pageSt P.RFE = 0 ∧ s1.radioState ≠ 0 then
      s1.scsFresh
    else s1

/-- The receiver has stopped: a held change is applied (03 R63). -/
def scsReceiverStopped (s : State) : State :=
  if s.on F.SYN_SCS_STAT_PENDING && s.radioState != 0 && (!s.on F.SYN_SCS_STAT_SETTLING || s.scsWanted != s.scsActive) then
    s.scsFresh
  else s

/-- The transmit frequency of a channel: its frequency plus SYN.CRS_OFS (04 R93). -/
def txFreq (s : State) (f : Nat) : Int := (f : Int) + s.getInt F.SYN_CRS_OFS_OFS_HZ

/-- A tune of the carrier synthesiser to the channel at `f`, at the transmit frequency that its request named (04 R93). -/
def crsTune (s : State) (f : Nat) (target : Int) (src : Nat) : State :=
  ({ ((((s.put F.SYN_CRS_FREQ_FREQ_HZ target.toNat).put F.SYN_CRS_STAT_SETTLING 1).put F.SYN_CRS_STAT_LOCK 0).put
      F.SYN_CRS_STAT_SRC src) with crs := { s.crs with chan := some f, dead := false } }).setRetry uCrs 0

/-- The carrier synthesiser stops: its lock is discarded (05 R122, R141). -/
def crsStop (s : State) : State :=
  if !s.crs.reserved.isEmpty then s
  else
    let s1 := ((s.put F.SYN_CRS_FREQ_FREQ_HZ 0).put F.SYN_CRS_STAT_SETTLING 0).put F.SYN_CRS_STAT_LOCK 0
    { s1.put F.SYN_CRS_STAT_SRC 0 with crs := { s1.crs with chan := none, dead := false } }

/-- Whether the carrier synthesiser is locked to the channel at `f`. -/
def crsLockedTo (s : State) (f : Nat) : Bool := s.on F.SYN_CRS_STAT_LOCK && s.crs.chan == some f

/-- A final status of whatever issued an operation (05 R125, R142; 09 R227): RAD.CMD_STAT for the last command written, the
completion of a timeline entry; LATE and HW_FAULT set their flags, LATE is counted, the recorder is triggered. SLIP, once it shows, stays
(R127). -/
def endSrc (s : State) (src : OpSrc) (status : Nat) (slip noFrame ccaBusy argErr : Bool) (endAt : Nat) : State :=
  let s1 := match src with
    | .software n =>
      if n = s.radio.cmdNo then
        (((((((s.put F.RAD_CMD_STAT_STATUS status).put F.RAD_CMD_STAT_FINAL 1).put F.RAD_CMD_STAT_SLIP (boolNat (slip || s.on F.RAD_CMD_STAT_SLIP))).put
          F.RAD_CMD_STAT_CCA_BUSY (boolNat ccaBusy)).put F.RAD_CMD_STAT_ARG_ERR (boolNat argErr)).flag P.RAD 0).event P.RAD 3)
      else s
    | .entry i =>
      let r := if s.radio.resOf == OpSrc.entry i then s.radio.lastRes else end0
      let t : State := { s with
        timeline := modifyAt s.timeline i (fun e => { e with ended := some ⟨status, noFrame, r.frame, r.fcsOk, r.acked, slip || e.slip, endAt⟩ }),
        radio := { s.radio with resOf := .internal } }
      if status = 2 then t.flag P.LNK 2 else if status = 4 then t.flag P.LNK 1 else t
    | .internal => s
  let s2 := if status = 4 then (s1.countSat F.RAD_COUNTS_LATE).flag P.RAD 4 else if status = 6 then s1.flag P.RAD 5 else s1
  s2.recStatus status

/-- A final status with nothing else to report, now. -/
def endPlain (s : State) (src : OpSrc) (status : Nat) : State := s.endSrc src status false false false false s.count

/-- SRC of what holds or asks (04 R117). -/
def crsSrc : HeldKind → Nat
  | .runAhead _ => 2
  | .ackTune _ => 3
  | _ => 1

/-- Put a request into the held place, or empty it (04 R529). A PRETUNE that another request replaces ends ABORTED. -/
def crsHold (s : State) (h : Option CrsHeld) : State :=
  let s1 := match s.crs.held, h with
    | some ⟨.pretune src, _, _⟩, some _ => s.endPlain src 5
    | _, _ => s
  { s1.put F.SYN_CRS_STAT_DEFERRED (boolNat h.isSome) with crs := { s1.crs with held := h } }

/-- Reserve the carrier synthesiser (04 R96), for an acknowledgement or for a committed transmission, which may both hold it. -/
def crsReserve (s : State) (u : CrsUser) : State :=
  { s.put F.SYN_CRS_STAT_RESERVED 1 with crs := { s.crs with reserved := if s.crs.reserved.contains u then s.crs.reserved else u :: s.crs.reserved } }

/-- A reservation ends; with the last one the held request is applied at once (04 R529), an acknowledgement's with its reservation. -/
def crsRelease (s : State) (u : CrsUser) : State :=
  if s.crs.reserved.contains u then
    (let left := s.crs.reserved.filter (· != u)
     let s1 : State := { s.put F.SYN_CRS_STAT_RESERVED (boolNat (!left.isEmpty)) with crs := { s.crs with reserved := left } }
     match (if left.isEmpty then s1.crs.held else none) with
     | none => s1
     | some h =>
       let s2 := (s1.crsHold none).crsTune h.freq h.target (crsSrc h.kind)
       match h.kind with
       | .ackTune k => { s2.crsReserve (.ack k) with ctxs := modifyAt s2.ctxs k (fun c => { c with deferred := false }) }
       | .pretune src => s2.endPlain src 1
       | _ => s2)
  else s

/-- What became of a tune request: tuned, held, or not held because a transmission's tune is, or out of both bands. -/
inductive TuneEnd where
  | tuned | held | refused | outOfBand
  deriving DecidableEq, Repr

/-- Whether the held place holds the tune of a transmission (04 R529). -/
def placeTaken (s : State) : Bool :=
  match s.crs.held with
  | some ⟨.txTune, _, _⟩ => true
  | some ⟨.ackTune _, _, _⟩ => true
  | _ => false

/-- A tune request (04 R93, R95, R96, R529): carried out at once unless the synthesiser is reserved. Its frequency is judged here, with the
CRS_OFS of the request. -/
def crsRequest (s : State) (k : HeldKind) (f : Nat) : State × TuneEnd :=
  if !inTxBand (s.txFreq f) then (s.flag P.SYN 9, .outOfBand)
  else if s.crs.reserved.isEmpty then (s.crsTune f (s.txFreq f) (crsSrc k), .tuned)
  else if s.placeTaken then (s, .refused)
  else (s.crsHold (some ⟨k, f, s.txFreq f⟩), .held)

/-- The radio takes a phase of ANT_SEL (04 R102): 0 IDLE, 1 RX_SG, 2 RX_24, 3 TX_24, 4 TX_SG, 5 TX_HP. -/
def setAnt (s : State) (phase : Nat) : State := { s with radio := { s.radio with antSel := phase } }

/-- The code on the ANT_SEL pins (04 R102; 23 R509): that of ANT_MAP for the phase, 0b000 while the radio domain is off. -/
def antCode (s : State) : Nat :=
  if !s.pwr.radioUp then 0
  else s.get (match s.radio.antSel with
    | 1 => F.RTX_ANT_MAP_RX_SG | 2 => F.RTX_ANT_MAP_RX_24 | 3 => F.RTX_ANT_MAP_TX_24 | 4 => F.RTX_ANT_MAP_TX_SG | 5 => F.RTX_ANT_MAP_TX_HP
    | _ => F.RTX_ANT_MAP_IDLE)

/-- The transmission in progress has begun its sequence. -/
def txSending (s : State) : Bool :=
  match s.radio.tx with
  | some t => t.stage != .cca && t.stage != .wait
  | none => false

/-- The phase while nothing transmits: that of the input in use while the receiver runs, otherwise IDLE (04 R102); a transmission keeps its
path's code. -/
def antQuiet (s : State) : State :=
  if s.txSending then s else if s.pageSt P.RFE = 0 then s.setAnt 0 else s.setAnt (if s.inputInUse = 1 then 2 else 1)

/-- Change every frame whose samples still arrive: a frame past its last sample is none (06 R160). -/
def markFrames (s : State) (g : RxFrame → RxFrame) : State :=
  let mark (x : RxSlot) : RxSlot := { x with frame := x.frame.map (fun f => if f.meas.isSome then f else g f) }
  { s with slices := s.slices.map mark, lanes := s.lanes.map mark }

/-- The gain changes (03 R75; 22 R496): CHANGES counts, every frame in progress is marked, and the control stream marks the samples that
follow as settling, with a second record where the 8 samples end (log entry 96). -/
def setGain (s : State) (g : Nat) : State :=
  if s.get F.RFE_GAIN_STAT_GAIN_IDX = g then s
  else
    let s1 := (s.put F.RFE_GAIN_STAT_GAIN_IDX g).countWrap F.RFE_GAIN_STAT_CHANGES
    ((s1.markFrames (fun f => { f with gainStep := true })).record 0x05 0 (g + 256)).record 0x05 0 g

/-- The gain the AGC starts from (03 R80): MAN_GAIN in MANUAL mode, the held one otherwise. -/
def rxStartGain (s : State) : State :=
  if s.get F.RFE_AGC_CTRL_MODE = 2 then s.setGain (s.get F.RFE_AGC_CTRL_MAN_GAIN) else s

/-- The settings of the AGC that come into force at a window boundary (03 R78). -/
def agcSettings (s : State) : State :=
  { s with rfe := { s.rfe with ctrl := (s.reg Reg.RFE_AGC_CTRL).toNat, time := (s.reg Reg.RFE_AGC_TIME).toNat } }

/-- The hold time restarts (03 R76). -/
def holdRestart (s : State) : State := { s with rfe := { s.rfe with low := false, holdAt := s.count } }

/-- The receiver starts (03 R80): from off to STARTING, with the channelizer, the modems and the AGC, whose settings and gain are in use from
here on (log entry 97); a sample clock left unlocked begins a new relock (03 R64). -/
def rxStart (s : State) : State :=
  if s.pageSt P.RFE ≠ 0 then s
  else
    let s1 := ((((s.setPageSt P.RFE 1).setPageSt P.CHN 1).setPageSt P.NBD 1).setPageSt P.OFD 1).setPageSt P.FEC 1
    let s2 : State := if s1.rfe.scsDead then
        (let t := s1.scsSettle
         ({ t with rfe := { t.rfe with scsDead := false } }).setRetry uRx 1)
      else s1
    s2.antQuiet.rxStartGain.agcSettings.holdRestart

/-- The receiver stops: a held change of rate, input or zone is applied (03 R63). A frame whose last sample has arrived keeps its unit
until its verdict (05 R137). -/
def rxStop (s : State) : State :=
  if s.pageSt P.RFE = 0 then s.scsReceiverStopped
  else
    let off (x : RxSlot) : RxSlot := match x.frame with
      | some f => if f.meas.isSome || (f.header && notBefore s.count f.endAt) then { x with next := none, release := false, stale := false }
          else { rxSlot0 with copy := x.copy }
      | none => { rxSlot0 with copy := x.copy }
    let s1 := ((((s.setPageSt P.RFE 0).setPageSt P.CHN 0).setPageSt P.NBD 0).setPageSt P.OFD 0).setPageSt P.FEC 0
    let s2 : State := { s1 with slices := s1.slices.map off, lanes := s1.lanes.map off }
    s2.scsReceiverStopped.antQuiet

/-- The AGC holds its gain (03 R78): over a transmission and for 2 µs after it, and during a Whiff capture. -/
def agcHeld (s : State) : Bool :=
  s.txSending || (match s.rfe.holdTill with | some t => !notBefore s.count t | none => false) ||
    (match s.radio.whiff with | some w => w.capturing | none => false)

/-- Blanking ends (05 R137). -/
def unblank (s : State) : State :=
  if s.on F.RAD_STATE_BLANK then (s.put F.RAD_STATE_BLANK 0).record 0x0C 0 0 else s

end State

/-- The smallest number of 2 dB steps, up to 62, that brings a peak of `p` of 512 to `t` dB below full scale or lower: with n steps
20·log10(p / 512) − 2n ≤ −t, that is p²⁰ · 10^t ≤ 512²⁰ · 10^(2n). -/
def agcSteps (p t : Nat) : Nat :=
  ((List.range 64).find? (fun n => decide (p ^ 20 * 10 ^ t ≤ 512 ^ 20 * 10 ^ (2 * n)))).getD 63

/-- Whether a peak of `p` of 512 is at or above `t` dB below full scale. -/
def peakReaches (p t : Nat) : Bool := decide (512 ^ 20 ≤ p ^ 20 * 10 ^ t)

open State

/-- SCS_SETTLED (03 R63): the sample clock has settled on its new values. A settling that belongs to a relock ends by SCS_RELOCK. -/
def execScsSettled (s : State) : Host.Outcome State Fault Refusal :=
  .next (if s.on F.SYN_SCS_STAT_SETTLING && s.retryOf uRx == 0 then
      (((s.put F.SYN_SCS_STAT_SETTLING 0).put F.SYN_SCS_STAT_LOCK 1).put F.SYN_SCS_STAT_PENDING
        (boolNat (s.scsWanted != s.scsActive)))
    else s)

/-- What the AGC does at the end of a window with peak `p` (03 R76, R78): a held gain stays and restarts the hold time, MANUAL takes MAN_GAIN,
AUTO reduces the gain or notes whether the window lay below the low threshold. -/
def State.agcAct (s : State) (p : Nat) (clip : Bool) : State :=
  let hi := bitsOf s.rfe.ctrl 16 4
  let lo := bitsOf s.rfe.ctrl 24 5
  let cap := if bitsOf s.rfe.time 16 4 = 0 then 1 else bitsOf s.rfe.time 16 4
  if s.agcHeld then s.holdRestart
  else if s.rfe.ctrl % 4 = 2 then s.setGain (bitsOf s.rfe.ctrl 8 5)
  else if s.rfe.ctrl % 4 ≠ 0 then s
  else if clip || peakReaches p hi then
    (s.setGain (s.get F.RFE_GAIN_STAT_GAIN_IDX - min (agcSteps (if clip then 512 else p) (hi + 6)) cap)).holdRestart
  else if peakReaches p lo then s.holdRestart
  else { s with rfe := { s.rfe with low := true } }

/-- AGC_WINDOW_END (03 R60, R75 to R78): settings written since the last boundary come into force, the levels and clipping are shown, and the
AGC acts. A magnitude of 512 is the clipped sample −512; one of 511 is clipped where it is +511. -/
def execAgcWindowEnd (peak rms : Nat) (clipped : Bool) (s : State) : Host.Outcome State Fault Refusal :=
  .next (if s.pageSt P.RFE = 0 then s
    else
      let p := min peak 512
      let clip := p == 512 || (p == 511 && clipped)
      let s1 := ((s.agcSettings.put F.RFE_ADC_LEVEL_PEAK p).put F.RFE_ADC_LEVEL_RMS (min rms p)).put F.RFE_GAIN_STAT_CLIP (boolNat clip)
      let s2 := if clip then (s1.flag P.RFE 1).markFrames (fun f => { f with clipped := true }) else s1
      let s3 := if clip && s2.get F.RFE_GAIN_STAT_GAIN_IDX == 0 then s2.flag P.RFE 2 else s2
      s3.agcAct p clip)

/-- The hold time that is in force, in ticks (03 R88): HOLD µs, 0 acts as 1. -/
def State.holdTicks (s : State) : Nat := usTicks (max 1 (bitsOf s.rfe.time 8 8))

/-- AGC_HOLD_EXPIRY (03 R76): every window for HOLD µs lay below the low threshold, so the gain rises by one step and the hold time restarts. -/
def execAgcHoldExpiry (s : State) : Host.Outcome State Fault Refusal :=
  .next (if s.pageSt P.RFE ≠ 0 ∧ s.rfe.low = true ∧ s.rfe.ctrl % 4 = 0 ∧ s.agcHeld = false ∧ s.get F.RFE_GAIN_STAT_GAIN_IDX < 31 ∧
      s.holdTicks ≤ subTicks s.count s.rfe.holdAt
    then (s.setGain (s.get F.RFE_GAIN_STAT_GAIN_IDX + 1)).holdRestart else s)

/-- CRS_LOCK (04 R93): the carrier synthesiser locks to its target. -/
def execCrsLock (s : State) : Host.Outcome State Fault Refusal :=
  .next (if s.on F.SYN_CRS_STAT_SETTLING && s.retryOf uCrs == 0 then
      (s.put F.SYN_CRS_STAT_SETTLING 0).put F.SYN_CRS_STAT_LOCK 1 else s)

end Sys2Proof.Machine
end

