-- ==== Sys2Proof/Machine/Slots.lean ====
section
/-! DEFINITION. Channel descriptors with their check and the assignment of slices, lanes and streams (06 R143 to R151, 07 R164 to
R169); the end of a reception without delivery (06 R161, 07 R185); and the squash of a speculative acknowledgement (01 R26, 09
R238 to R242). -/

namespace Sys2Proof.Machine

/-- Fields of a descriptor copy (06 R149). -/
def DescCopy.modeCode (c : DescCopy) : Nat := c.mode % 16
def DescCopy.rateIx (c : DescCopy) : Nat := bitsOf c.mode 4 4
def DescCopy.bwCode (c : DescCopy) : Nat := bitsOf c.mode 8 3
def DescCopy.fecSel (c : DescCopy) : Bool := c.mode.testBit 12
def DescCopy.whiten (c : DescCopy) : Nat := bitsOf c.mode 14 2
def DescCopy.fcsSel (c : DescCopy) : Nat := bitsOf c.mode 16 2
def DescCopy.hdrFmt (c : DescCopy) : Nat := bitsOf c.mode 18 2
def DescCopy.pref (c : DescCopy) : Nat := bitsOf c.mode 20 5
def DescCopy.prefEn (c : DescCopy) : Bool := c.mode.testBit 25
def DescCopy.prefForce (c : DescCopy) : Bool := c.mode.testBit 26

/-- The mode is received on a Quill lane (06 R150). -/
def DescCopy.onLane (c : DescCopy) : Bool := c.modeCode == 8 || c.modeCode == 9

/-- The mode is one of the LE modes. -/
def DescCopy.isLe (c : DescCopy) : Bool := c.modeCode == 5 || c.modeCode == 6 || c.modeCode == 7

/-- NIB_B parses and filters the frames of this descriptor (10 R259): not LE, and FSK_GEN with the SUN PHR only. -/
def DescCopy.macFrames (c : DescCopy) : Bool :=
  c.modeCode == 1 || (c.modeCode == 2 && c.hdrFmt == 0) || c.modeCode == 3 || c.modeCode == 4 || c.onLane

/-- The mode may use the trellis decoder or encoder (06 R153, 07 R186). -/
def DescCopy.coded (c : DescCopy) : Bool :=
  c.onLane || c.modeCode == 4 || c.modeCode == 7 || (c.modeCode == 2 && c.fecSel) || (c.modeCode == 1 && c.syncCfg.testBit 12)

/-- A transmission on a copy is coded (06 R149, R153): a SUN_FSK one by TX_FEC. -/
def DescCopy.txCoded (c : DescCopy) : Bool := if c.modeCode = 1 then c.aux.testBit 0 else c.coded

/-- A reception on a copy is coded (06 R153): a SUN_FSK one where SYNC_ALT matched. -/
def DescCopy.rxCoded (c : DescCopy) (alt : Bool) : Bool := if c.modeCode = 1 then alt else c.coded

/-- The occupied bandwidth in Hz (06 R151, R152; 07 R167, R169). -/
def DescCopy.bandwidth (c : DescCopy) : Nat :=
  match c.modeCode with
  | 1 => [200000, 200000, 200000, 400000, 400000, 400000, 600000, 600000, 400000, 800000].getD c.rateIx 0
  | 2 => [0, 100000, 200000, 400000, 600000, 1000000, 1600000, 2400000].getD c.bwCode 0
  | 3 => 2000000
  | 4 => if c.rateIx = 0 then 200000 else 2000000
  | 5 => 2000000
  | 6 => 2400000
  | 7 => 2000000
  | 8 => [0, 1094000, 552000, 281000, 156000].getD c.rateIx 0
  | 9 => 1300000
  | _ => 0

/-- The stream rate code of CHN.STREAMn (06 R151, R162; 07 R164). -/
def DescCopy.streamRate (c : DescCopy) : Nat :=
  match c.modeCode with
  | 2 => if c.rate % 2 ^ 21 ≤ 500000 then 0 else if c.rate % 2 ^ 21 ≤ 1000000 then 1 else 2
  | 3 => 2
  | 4 => if c.rateIx = 0 then 0 else 1
  | 5 => 1
  | 6 => 2
  | 7 => 1
  | _ => 0

/-- A RATE that the mode does not list (06 R151, 07 R169). -/
def DescCopy.badRate (c : DescCopy) : Bool :=
  match c.modeCode with
  | 1 => decide (9 < c.rateIx)
  | 4 => decide (1 < c.rateIx)
  | 7 => decide (1 < c.rateIx)
  | 8 => c.rateIx == 0 || decide (4 < c.rateIx)
  | _ => c.rateIx != 0

/-- A descriptor field out of range, REASON 6 (06 R149, R162). -/
def DescCopy.badField (c : DescCopy) : Bool :=
  let syncLen := c.syncCfg % 64
  let badSync := decide (syncLen < 16) || decide (32 < syncLen)
  match c.modeCode with
  | 1 => badSync
  | 2 =>
    let rate := c.rate % 2 ^ 21
    let dev := c.dev % 2 ^ 20
    let fixed := c.aux % 2 ^ 11
    badSync || c.hdrFmt == 3 || c.bwCode == 0 || decide (rate < 1000) || decide (2000000 < rate) ||
      decide (dev < 1000) || decide (1000000 < dev) || decide (c.bandwidth < 2 * dev) || (c.hdrFmt == 2 && fixed == 0)
  | _ => false

/-- The FCS bytes of a received frame, by its descriptor and the type bit of its PHR (06 R153, R530). -/
def DescCopy.rxFcsLen (c : DescCopy) (type2 : Bool) : Nat :=
  match c.modeCode with
  | 1 => if type2 then 2 else 4
  | 2 => if c.hdrFmt = 0 then
      (match c.fcsSel with | 1 => 2 | 2 => 4 | 3 => 0 | _ => if type2 then 2 else 4)
    else (match c.fcsSel with | 2 => 4 | 3 => 0 | _ => 2)
  | 3 => 2
  | 4 => 2
  | 8 => 4
  | 9 => if type2 then 2 else 4
  | _ => 3

/-- The FCS bytes of a transmitted frame (06 R530, 07 R168, R169). -/
def DescCopy.txFcsLen (c : DescCopy) : Nat :=
  match c.modeCode with
  | 1 => if c.fcsSel = 1 then 2 else 4
  | 2 => (match c.fcsSel with | 2 => 4 | 3 => 0 | _ => 2)
  | 3 => 2
  | 4 => 2
  | 8 => 4
  | 9 => if c.aux.testBit 16 then 2 else 4
  | _ => 3

/-- The largest PSDU of a mode (06 R153, R526; 07 R168). -/
def DescCopy.maxPsdu (c : DescCopy) : Nat :=
  match c.modeCode with
  | 2 => if c.hdrFmt = 1 then 255 else if c.hdrFmt = 2 then c.aux % 2 ^ 11 else 2047
  | 3 => 127
  | 5 => 260
  | 6 => 260
  | 7 => 260
  | _ => 2047

/-- The band of a channel (04 R90): a channel that CRS_OFS brings into a band belongs to it (log entry 102). -/
def in24 (c : DescCopy) : Bool := decide (2000000000 ≤ c.freq)

/-- A request serves the frame on unit `u`. -/
def SharedReq.servesRx (r : SharedReq) (u : RxUnit) : Bool := match r.who with | .rx v _ => v == u | _ => false

/-- A receiving unit's order among units of equal deadline: slices before lanes (01 R23). -/
def unitRank : RxUnit → Nat
  | .slice n => n
  | .lane n => 32 + n

/-- The unit code of a receiving unit (21 R465). -/
def rxUnitCode : RxUnit → Nat
  | .slice n => 0x0100 + n
  | .lane n => 0x0200 + n

namespace State

/-- The descriptor words of descriptor `d` as its registers stand. -/
def descRegs (s : State) (d : Nat) : DescCopy :=
  ⟨(s.reg (Reg.CHN_DESC_FREQ d)).toNat, (s.reg (Reg.CHN_DESC_MODE d)).toNat, (s.reg (Reg.CHN_DESC_SYNC d)).toNat,
   (s.reg (Reg.CHN_DESC_SYNC_CFG d)).toNat, (s.reg (Reg.CHN_DESC_RATE d)).toNat, (s.reg (Reg.CHN_DESC_DEV d)).toNat,
   (s.reg (Reg.CHN_DESC_CCA d)).toNat, (s.reg (Reg.CHN_DESC_AUX d)).toNat⟩

/-- The first REASON for which descriptor `d` fails its check, 0 if it passes (06 R145, R162): the order is 1, 2, 5, 6, 3, 4. Twice the
frequencies keep half the bandwidth and half the sample rate whole. -/
def descReason (s : State) (d : Nat) : Nat :=
  let c := s.descRegs d
  let m := c.modeCode
  let in24 := s.inputInUse == 1
  let lo := 2 * (c.freq : Int) - c.bandwidth
  let hi := 2 * (c.freq : Int) + c.bandwidth
  let fs : Int := (s.get F.SYN_SCS_ACTIVE_RATE_KHZ : Nat) * 1000
  let k : Int := (s.get F.RFE_CFG_ZONE_ACTIVE : Nat)
  if m = 0 ∨ 9 < m then 1
  else if (in24 && m == 4) || (!in24 && (m == 3 || m == 5 || m == 6 || m == 7)) then 2
  else if c.badRate then 5
  else if c.badField then 6
  else if (if in24 then lo < 4800000000 ∨ 4967000000 < hi else lo < 300000000 ∨ 2100000000 < hi) then 3
  else if lo < k * fs + 1000000 ∨ (k + 1) * fs - 1000000 < hi then 4
  else 0

/-- CHN.DESC_ERR (06 R145). -/
def descErr (s : State) (d reason : Nat) : State :=
  (((s.put F.CHN_DESC_ERR_REASON reason).put F.CHN_DESC_ERR_DESC d).put F.CHN_DESC_ERR_VALID 1).flag P.CHN 0

/-- The units of a kind: slices or lanes present. -/
def unitsOf (s : State) (lane : Bool) : List RxUnit :=
  if lane then (List.range (nLanes s.variant)).map .lane else (List.range (nSlices s.variant)).map .slice

/-- A unit that may be assigned: present, not retired, not isolated for self-test. -/
def unitUsable (s : State) (u : RxUnit) : Bool :=
  unitPresent s.variant (rxUnitCode u) && !s.isRetired (rxUnitCode u) && !s.underTest (rxUnitCode u) &&
    (match u with | .slice _ => true | .lane n => s.engRuns (2 + n))

/-- The unit that serves descriptor `d`. -/
def unitOf (s : State) (d : Nat) : Option RxUnit :=
  (s.unitsOf false ++ s.unitsOf true).find? (fun u => (s.slot u).desc == some d)

/-- The descriptors assigned to units, by pass 1 of R147: those whose reception continues. -/
def assignHeld (s : State) (ds : List Nat) : List (Nat × RxUnit) :=
  ds.filterMap (fun d => match s.unitOf d with
    | some u => if (s.slot u).frame.isSome then some (d, u) else none
    | none => none)

/-- The unit a descriptor prefers. -/
def prefUnit (c : DescCopy) : RxUnit := if c.onLane then .lane c.pref else .slice c.pref

/-- Pass 2 of R147 for forced descriptors: the status of the first that cannot take its unit, or the plan so far. -/
def assignForced (s : State) (plan : List (Nat × RxUnit)) : List Nat → (Nat × Nat) ⊕ List (Nat × RxUnit)
  | [] => .inr plan
  | d :: ds =>
    let u := prefUnit (s.descRegs d)
    if !unitPresent s.variant (rxUnitCode u) then .inl (7, d)
    else if !s.unitUsable u then .inl (6, d)
    else if plan.any (fun p => p.2 == u) then .inl (5, d)
    else assignForced s (plan ++ [(d, u)]) ds

/-- Pass 2 of R147 for descriptors that merely prefer a unit. -/
def assignPref (s : State) (plan : List (Nat × RxUnit)) : List Nat → List (Nat × RxUnit)
  | [] => plan
  | d :: ds =>
    let u := prefUnit (s.descRegs d)
    assignPref s (if s.unitUsable u && !plan.any (fun p => p.2 == u) then plan ++ [(d, u)] else plan) ds

/-- Pass 3 of R147: the lowest-numbered free unit; a descriptor that finds none ends the command, ABSENT_UNIT where more units are
asked for than the variant has (log entry 100) and HW_FAULT where retirements leave too few. -/
def assignRest (s : State) (plan : List (Nat × RxUnit)) : List Nat → (Nat × Nat) ⊕ List (Nat × RxUnit)
  | [] => .inr plan
  | d :: ds =>
    let us := s.unitsOf (s.descRegs d).onLane
    match us.find? (fun u => s.unitUsable u && !plan.any (fun p => p.2 == u)) with
    | some u => assignRest s (plan ++ [(d, u)]) ds
    | none => .inl (if us.all (fun u => plan.any (fun p => p.2 == u)) then 7 else 6, d)

/-- The assignment of a set of descriptors, in ascending order (06 R147, 07 R166): a plan, or the final status and the descriptor at fault. -/
def assign (s : State) (ds : List Nat) : (Nat × Nat) ⊕ List (Nat × RxUnit) :=
  let held := s.assignHeld ds
  let rest := ds.filter (fun d => !held.any (fun p => p.1 == d))
  match s.assignForced held (rest.filter (fun d => (s.descRegs d).prefForce)) with
  | .inl e => .inl e
  | .inr p1 =>
    let p2 := s.assignPref p1 (rest.filter (fun d => !(s.descRegs d).prefForce && (s.descRegs d).prefEn))
    match s.assignRest p2 (rest.filter (fun d => !p2.any (fun p => p.1 == d))) with
    | .inl e => .inl e
    | .inr p3 => if nSlices s.variant < p3.length then .inl (7, 0) else .inr p3

/-- A plan waits for the next channelizer update (06 R144). -/
def planSlots (s : State) (plan : List (Nat × RxUnit)) : State :=
  let f (mk : Nat → RxUnit) (i : Nat) (x : RxSlot) : RxSlot :=
    match plan.find? (fun p => p.2 == mk i) with
    | some (d, _) => if x.desc == some d then { x with next := none, release := false, stale := true } else { x with next := some d, release := false }
    | none => { x with next := none, release := x.desc.isSome }
  { s with slices := s.slices.mapIdx (f .slice), lanes := s.lanes.mapIdx (f .lane) }

/-- The set of descriptors that units serve or will serve. -/
def servedDescs (s : State) : List Nat :=
  (s.slices ++ s.lanes).filterMap (fun x => match x.next with | some d => some d | none => if x.release then none else x.desc)

/-- LNK.SPEC_LOSS and the count of squashes (09 R249). -/
def specLoss (s : State) (reason : Nat) : State :=
  let s1 := (s.put F.LNK_SPEC_LOSS_REASON reason).countSat F.LNK_SPEC_STAT_SQUASHES
  if reason = 8 then s1.countSat F.LNK_SPEC_LOSS_NO_CTX else s1

/-- The speculation of a recorded frame ends in context `k` (22 R503): squashed, or committed with REASON 0. -/
def recSpecEnd (s : State) (k reason : Nat) : State :=
  { s with recorder := { s.recorder with frames := s.recorder.frames.map (fun r =>
      if r.ctx = some k then { r with ctx := none, squashed := reason != 0, acked := reason == 0 } else r) } }

/-- The recorder's trigger on a squash, and its record (22 R496, R498). -/
def specRecord (s : State) (u : RxUnit) (k start reason fc : Nat) : State :=
  let s0 := s.recordUnit u 0x0B (k + start * 256 + reason * 65536 + fc * 2 ^ 32)
  let s1 := if start = 0 then s0.recSpecEnd k reason else s0
  if start = 0 && reason != 0 && s1.recUnit u && (s1.reg Reg.REC_TRIG_EN).toNat.testBit (16 + reason) then s1.recTrigger (0x10 + reason)
  else s1

/-- Change the reception in progress on a unit. -/
def onFrame (s : State) (u : RxUnit) (g : RxFrame → RxFrame) : State :=
  let x := s.slot u
  s.setSlot u { x with frame := x.frame.map g }

/-- Set a bit of FLAGS in the record of a frame that is already queued, while software holds its chain: `a` is the address of FLAGS. -/
def setRecFlag (s : State) (a bit : Nat) : State := s.setMemNat a 2 (s.memNat a 2 ||| 2 ^ bit)

/-- A context is free again (09 R238); while LNK is disabled its block returns to the free list. -/
def ctxFree (s : State) (k : Nat) : State :=
  match s.ctxs[k]? with
  | none => s
  | some c =>
    let s1 : State := { s with ctxs := s.ctxs.set k { ctx0 with block := c.block } }
    match s1.enabled P.LNK, c.block with
    | false, some b => (({ s1 with ctxs := s1.ctxs.set k ctx0 }).setOwner b .free).setLnkReady
    | _, _ => s1

/-- Squash the speculation in context `k` (01 R26, 09 R238, R241; 10 R266, R268): nothing of it becomes visible; the value U stays a
gap, at once at this device, by VERDICT at a remote home once the verdict is known. A committed acknowledgement is never
squashed. -/
def squashCtx (s : State) (k reason : Nat) : State :=
  match s.ctxs[k]? with
  | none => s
  | some c =>
    if !c.busy || c.committed then s
    else
      let s1 := match c.u with
        | some u => if c.remote then (if c.passed then s.sendVerdict c.index false true true c.inFc (some u) c.rssi c.lqi else s)
            else s.dropReserve (c.index % 16384) u
        | none => if c.remote && c.passed then s.sendVerdict c.index false true true c.inFc none c.rssi c.lqi else s
      let s1b := match c.inFc, c.passed && !c.remote && decide (4 < reason) with
        | some v, true => s1.raiseW (c.index % 16384) 3 v
        | _, _ => s1
      let s2 := (match s1b.crs.held with
        | some ⟨.ackTune j, _, _⟩ => if j = k then s1b.crsHold none else s1b
        | _ => s1b).crsRelease (.ack k)
      let s3 := (s2.specLoss reason).specRecord c.unit k 0 reason (c.inFc.getD 0)
      let s4 := match c.headRec with
        | some a => s3.setRecFlag a 2
        | none => s3.onFrame c.unit (fun f => if f.spec == some k then
            { f with squashed := true, spec := none,
                     lookup := (match f.lookup, c.remote with
                       | .found v, false => .found { v with u := none }
                       | l, _ => l) } else f)
      s4.ctxFree k

/-- The acknowledgement of a frame that got no speculation is squashed (09 R238; 11 R296). -/
def ackLost (s : State) (u : RxUnit) (reason : Nat) : State :=
  ((s.specLoss reason).specRecord u 0 0 reason 0).onFrame u (fun f => { f with squashed := true })

/-- The squash reason of a frame that ends without a verdict. -/
def lossReason (code : Nat) : Nat := if code = 0xA then 6 else if code = 8 then 7 else 5

/-- The recorder's four DESC records of a working copy (22 R496). -/
def recordDesc (s : State) (d : Nat) (c : DescCopy) : State :=
  if s.get F.REC_CFG_DESC = d then
    (((s.record 1 d (c.freq + c.mode * 2 ^ 32)).record 2 d (c.sync + c.syncCfg * 2 ^ 32)).record 3 d
      (c.rate + c.dev * 2 ^ 32)).record 4 d (c.cca + c.aux * 2 ^ 32)
  else s

/-- A unit whose frame has ended takes the fresh copy of its descriptor that was due (06 R146); with the receiver off it is released
(05 R120). -/
def freshCopy (s : State) (u : RxUnit) : State :=
  let x := s.slot u
  if s.pageSt P.RFE = 0 then s.setSlot u { rxSlot0 with copy := x.copy, frame := x.frame }
  else match x.stale, x.desc with
  | true, some d => (s.setSlot u { x with copy := s.descRegs d, stale := false }).recordDesc d (s.descRegs d)
  | _, _ => s

/-- The record of a lost frame in its unit's page (06 R163; 07 R193): LAST_LOSS, the counter of its cause, the flag. -/
def lossRecord (s : State) (u : RxUnit) (d code : Nat) : State :=
  match u with
  | .slice n =>
    let t := ((s.put F.NBD_LAST_LOSS_END code).put F.NBD_LAST_LOSS_SLICE n).put F.NBD_LAST_LOSS_DESC d
    let t1 := if code = 8 then t.countSat F.RAD_COUNTS_BLANKED
      else if code = 5 then t.countSat F.NBD_LOSS_ABORTED
      else if code = 6 then t.countSat F.NBD_LOSS_HW_FAULT
      else if code = 0xA then t.countSat F.NBD_LOSS_CAPTURE_LOST
      else t.countSat F.NBD_LOSS_NO_BUFFER
    t1.flag P.NBD 0
  | .lane n =>
    let t := ((s.put F.OFD_LAST_LOSS_END code).put F.OFD_LAST_LOSS_LANE n).put F.OFD_LAST_LOSS_DESC d
    let t1 := if code = 8 then t.countSat F.RAD_COUNTS_BLANKED
      else if code = 5 then t.countSat F.OFD_LOSS_ABORTED
      else if code = 6 then t.countSat F.OFD_LOSS_HW_FAULT
      else if code = 0xA then t.countSat F.OFD_LOSS_CAPTURE_LOST
      else t.countSat F.OFD_LOSS_NO_BUFFER
    t1.flag P.OFD 0

/-- A reception ends without delivery (06 R161, R163; 07 R185, R193): ABORTED 5, HW_FAULT 6, BLANKED 8, CAPTURE_LOST 0xA or NO_BUFFER
0xB. Its speculation squashes, its blocks return to the free list with no event, the loss is recorded. -/
def loseFrame (s : State) (u : RxUnit) (code : Nat) : State :=
  match (s.slot u).frame with
  | none => s
  | some f =>
    let d := (s.slot u).desc.getD 0
    let s1 := match f.spec with
      | some k => s.squashCtx k (lossReason code)
      | none => s
    let s2 := match f.lookup with
      | .found v => (match v.u with
        | some w => if v.index / 16384 = s1.myPos then s1.dropReserve (v.index % 16384) w
            else s1.sendVerdict v.index false true false none (some w) 0 0
        | none => s1)
      | _ => s1
    let s3 := ((s2.setSlot u { s2.slot u with frame := none }).freeAll f.blocks).freshCopy u
    let s4 := { s3 with shared := s3.shared.filter (fun r => !r.servesRx u || r.unit == SharedUnit.hveLookup) }
    let s5 := s4.lossRecord u d code
    if s5.recUnit u && s5.on F.REC_TRIG_EN_LOST then s5.recTrigger 5 else s5

/-- All units present. -/
def allUnits (s : State) : List RxUnit := s.unitsOf false ++ s.unitsOf true

/-- Every reception in progress ends with a code. -/
def loseAll (s : State) (code : Nat) : State := s.allUnits.foldl (fun t u => t.loseFrame u code) s

/-- Every slice and lane is released at once. -/
def releaseAll (s : State) : State :=
  let off (x : RxSlot) : RxSlot := { rxSlot0 with copy := x.copy }
  { s with slices := s.slices.map off, lanes := s.lanes.map off }

/-- A Whiff in progress ends without a result: its blocks return with no event (03 R84; 10 R253). -/
def whiffDrop (s : State) : State :=
  match s.radio.whiff with
  | none => s
  | some w =>
    let s0 := if w.capturing then s.setGain w.before else s
    let s1 : State := { s0.freeAll w.blocks with radio := { s0.radio with whiff := none } }
    if s1.pageSt P.RFE = 3 then s1.setPageSt P.RFE 2 else s1

/-- A free stream for a unit. The specification does not say which: a free value chooses (log entry 5). -/
def takeStream (s : State) : Option Nat × State :=
  let used := (s.slices ++ s.lanes).filterMap (·.stream)
  let free := (List.range (nSlices s.variant)).filter (fun n => !used.contains n)
  if free.isEmpty then (none, s)
  else
    let (r, s1) := s.freeVal
    (free[r.toNat % free.length]?, s1)

/-- A unit takes its descriptor and its working copy (06 R146). -/
def takeDesc (s : State) (u : RxUnit) (d : Nat) : State :=
  let c := s.descRegs d
  let x := s.slot u
  let (st, s1) := match x.stream with | some n => (some n, s) | none => s.takeStream
  let s2 := (s1.setSlot u { rxSlot0 with desc := some d, copy := c, stream := st }).recordDesc d c
  s2.recGap u 1

/-- One unit at a channelizer update (06 R144, R146): a released unit lets its descriptor go, its reception ends ABORTED; a waiting
assignment takes effect; a descriptor that stays takes a fresh copy while its unit searches. -/
def updateUnit (s : State) (u : RxUnit) : State :=
  let x := s.slot u
  if x.release then
    (let s1 := (s.recGap u 0).loseFrame u 5
     s1.setSlot u { rxSlot0 with copy := x.copy })
  else match x.next with
    | some d => (s.loseFrame u 5).takeDesc u d
    | none =>
      match x.desc with
      | some d =>
        if x.stale && x.frame.isNone then
          (s.setSlot u { x with copy := s.descRegs d, stale := false }).recordDesc d (s.descRegs d)
        else s
      | none => s

/-- The effect of retired slices and lanes at a channelizer update (21 R468): the descriptor takes the lowest free usable unit, or is
dropped with REASON 7. -/
def moveRetired (s : State) (u : RxUnit) : State :=
  match (s.slot u).desc with
  | none => s
  | some d =>
    if s.unitUsable u then s
    else
      let s1 := (s.loseFrame u 6).setSlot u rxSlot0
      let c := s1.descRegs d
      match (if c.prefForce then none else
        (s1.unitsOf c.onLane).find? (fun v => s1.unitUsable v && (s1.slot v).desc.isNone && (s1.slot v).next.isNone)) with
      | some v => s1.takeDesc v d
      | none => s1.descErr d 7

end State

open State

/-- CHANNELIZER_UPDATE (06 R144): new assignments, hops and moved descriptors take effect while the receiver starts or runs. -/
def execChannelizerUpdate (s : State) : Host.Outcome State Fault Refusal :=
  .next (if s.pageSt P.CHN = 0 then s
    else
      let s1 := s.allUnits.foldl (fun t u => if (t.slot u).release then t.updateUnit u else t) s
      let s2 := s1.allUnits.foldl (fun t u => t.updateUnit u) s1
      s2.allUnits.foldl (fun t u => t.moveRetired u) s2)

end Sys2Proof.Machine
end

