-- ==== Sys2Proof/Machine/Keys.lean ====
section
/-! DEFINITION. Keys and frame security (12 R305 to R311): attribute bytes, the key of a slot, the key of a frame, and CCM* over a
frame. -/

namespace Sys2Proof.Machine

/-- Bytes as numbers, and back. -/
def toNats (bs : List Byte) : List Nat := bs.map (·.toNat)
def toBytes (ns : List Nat) : List Byte := ns.map (fun n => BitVec.ofNat 8 n)

/-- The address of key store slot `n` (12 R305). -/
def keyAddr (n : Nat) : Nat := 0x30200000 + 16 * n

namespace State

/-- The attribute byte of a slot. -/
def attr (s : State) (n : Nat) : Nat := Sparse.get (fun _ => 0) s.sec.attrs n

/-- Set the attribute byte of a slot. -/
def setAttrByte (s : State) (n v : Nat) : State :=
  { s with sec := { s.sec with attrs := Sparse.set (fun _ => 0) s.sec.attrs n (v % 64) } }

/-- The slots that hold the key of slot `n`: its own, or both slots of its pair (12 R305). -/
def keySlots (s : State) (n : Nat) : List Nat := if (s.attr n).testBit 1 then [n / 2 * 2, n / 2 * 2 + 1] else [n]

/-- The key of a slot, copied in one cycle (12 R305, R307): 16 bytes, or the 32 of its pair. -/
def keyBytes (s : State) (n : Nat) : List Nat := (s.keySlots n).flatMap (fun k => toNats (s.bytesAt (keyAddr k) 16))

/-- A double-bit error in the key words of a slot. -/
def keyBad (s : State) (n : Nat) : Bool := (s.keySlots n).any (fun k => (List.range 4).any (fun w => s.badWord (keyAddr k + 4 * w)))

/-- The copy of the key in slot `n`, if the slot may be used with attribute bit `use`; an uncorrectable error clears VALID and is
reported (12 R307). -/
def copyKey (s : State) (n use : Nat) : Option (List Nat) × State :=
  if 4095 < n ∨ ¬ (s.attr n).testBit 0 ∨ ¬ (s.attr n).testBit use then (none, s)
  else if s.keyBad n then
    (none, ((s.keySlots n).foldl (fun t k => t.setAttrByte k (s.attr k / 2 * 2)) s).reportFault (0x0600 + 56 + n / 2048) .memory)
  else (some (s.keyBytes n), s)

/-- The slot of a frame's key (12 R310): KEY_SLOT of the entry's KEY field for mode 0, a group slot otherwise. -/
def frameSlot (s : State) (keyMode keyIx keyField : Nat) : Option Nat :=
  if keyMode = 0 then some (keyField % 4096)
  else if keyIx = 0 then none
  else some (s.get F.SEC_CFG_GKEY_BASE + keyIx - 1)

/-- The key that a live slot gives for a frame (12 R307, R310). -/
def slotKey (s : State) (n : Nat) : Option (List Nat) × State :=
  if (n ≤ 4095 ∧ (s.attr n).testBit 1) ∨ ¬ s.enabled P.SEC then (none, s) else s.copyKey n 2

/-- The key of a frame, if it is available (12 R310). -/
def frameKey (s : State) (keyMode keyIx keyField : Nat) : Option (List Nat) × State :=
  match s.frameSlot keyMode keyIx keyField with
  | none => (none, s)
  | some n => s.slotKey n

/-- KEY_MISS (12 R310). -/
def keyMiss (s : State) : State := (s.flag P.SEC 3).countSat F.SEC_STATS_KEY_MISS

/-- This device's extended address, least significant byte first. -/
def extAddr (s : State) : List Byte := natLe 4 (s.reg Reg.FRM_EXT_ADDR_LO).toNat ++ natLe 4 (s.reg Reg.FRM_EXT_ADDR_HI).toNat

end State

/-- The nonce of a frame (12 R311): the originator's extended address, most significant byte first as IEEE 802.15.4-2020 writes it,
the frame counter, most significant byte first, the security level. -/
def frameNonce (addr : List Byte) (counter level : Nat) : List Nat :=
  (toNats addr).reverse ++ Crypto.beBytes 4 counter ++ [level]

/-- CCM* on a frame to be sent: header and payload in, payload and MIC out (12 R310, R311): levels 1 to 3 only authenticate. -/
def frameSeal (key nonce : List Nat) (level : Nat) (hdr body : List Byte) : List Byte :=
  let m := micLen level
  if level < 4 then
    body ++ toBytes (Crypto.ccmSeal key nonce (toNats (hdr ++ body)) [] m).2
  else
    match Crypto.ccmSeal key nonce (toNats hdr) (toNats body) m with
    | (c, t) => toBytes (c ++ t)

/-- Whether the MIC of a received frame is right, and the payload in clear. -/
def frameOpen (key nonce : List Nat) (level : Nat) (hdr body mic : List Byte) : List Byte × Bool :=
  if level < 4 then (body, (Crypto.ccmOpen key nonce (toNats (hdr ++ body)) [] (toNats mic)).2)
  else
    match Crypto.ccmOpen key nonce (toNats hdr) (toNats body) (toNats mic) with
    | (p, ok) => (toBytes p, ok)

end Sys2Proof.Machine
end

