-- ==== Sys2Proof/Machine/Air.lean ====
section
/-! DEFINITION. Time on air, loading profiles and clear times: the length of a frame at its descriptor's rate (05 R131), the profile
copy of a lane (07 R178, R179), and the rules on instants (05 R127). Where the specification leaves the synchronisation header
of a mode to its standard, its length is PRESUMED (log entry 9). -/

namespace Sys2Proof.Machine

/-- Coded bits of a loading code (07 R178). -/
def loadBits (c : Nat) : Nat := if c < 5 then [0, 1, 2, 4, 6].getD c 0 else 0

/-- A double-bit error in the words of a profile makes its copy invalid (21 R470). -/
def State.profileBad (s : State) (p : Nat) : Bool := (List.range 12).any (fun w => s.badWord (0x20500000 + 48 * p + 4 * w))

/-- A lane meets the double-bit error in a profile: a memory fault of the profile SRAM (13 R325). -/
def State.profileFault (s : State) (p : Nat) : State := if s.profileBad p then s.reportFault (0x0600 + 30) .memory else s

/-- The copy a lane takes of profile `p` (07 R179). -/
def State.profile (s : State) (p : Nat) : Profile :=
  let a := 0x20500000 + 48 * p
  let load := s.memNat a 36
  let codes := (List.range 96).map (fun d => load / 8 ^ d % 8)
  let nbits := s.memNat (a + 36) 2
  let pcrc := s.memNat (a + 40) 2
  { index := p, codes := codes, nbits := nbits, pcrc := pcrc
    valid := (s.byte (a + 38)).toNat.testBit 0 && codes.all (fun c => decide (c < 5)) &&
      nbits == (codes.map loadBits).foldl (fun a b => a + b) 0 && decide (24 ≤ nbits) && pcrc == crc16Fwd (s.bytesAt a 36) && !s.profileBad p }

/-- The smallest integer that is at least a / b. -/
def ceilDiv (a b : Nat) : Nat := (a + b - 1) / b

/-- The payload symbols of an FAO frame (07 R176): CODE 0 is rate 1/2, 1 is 2/3, 2 is 3/4. -/
def faoSymbols (nbits code len : Nat) : Nat :=
  let bits := 8 * len + 6
  let coded := if code = 1 then ceilDiv (3 * bits) 2 else if code = 2 then ceilDiv (4 * bits) 3 else 2 * bits
  ceilDiv coded nbits

/-- The data rate of a SUN-OFDM option and MCS in kb/s, 0 where the option does not define it (07 R167). -/
def ofdmRate (option mcs : Nat) : Nat :=
  match option with
  | 1 => [100, 200, 400, 800, 0, 0, 0].getD mcs 0
  | 2 => [50, 100, 200, 400, 600, 800, 0].getD mcs 0
  | 3 => [0, 50, 100, 200, 300, 400, 600].getD mcs 0
  | 4 => [0, 0, 50, 100, 150, 200, 300].getD mcs 0
  | _ => 0

/-- The payload symbols of a SUN-OFDM frame: its PSDU and six tail bits at the data rate of its option and MCS, 120 µs each (07 R167; log
entry 9). -/
def sunSymbols (o m len : Nat) : Nat := if ofdmRate o m = 0 then 0 else ceilDiv ((8 * len + 6) * 100) (ofdmRate o m * 12)

/-- The length of a symbol of a mode in ns (log entry 9). -/
def symNs (c : DescCopy) : Nat :=
  match c.modeCode with
  | 1 => 1000000 / [50, 50, 100, 100, 150, 200, 200, 300, 100, 200].getD c.rateIx 50
  | 2 => if c.rate % 2 ^ 21 = 0 then 0 else 1000000000 / (c.rate % 2 ^ 21)
  | 3 => 16000
  | 4 => if c.rateIx = 0 then 320000 else 64000
  | 8 => 120000
  | 9 => 100000
  | _ => 1000

/-- The period of the preamble of a mode in ns (log entry 9): two symbols of an alternating FSK pattern, a symbol of the O-QPSK modes, the
eight symbols of the LE Coded pattern, the repetition of an STF (07 R172). -/
def preambleNs (c : DescCopy) : Nat :=
  match c.modeCode with
  | 1 => 2 * symNs c
  | 2 => 2 * symNs c
  | 3 => symNs c
  | 4 => symNs c
  | 6 => 1000
  | 7 => 8000
  | 8 => 20000
  | 9 => 20000
  | _ => 2000

/-- Whether a whole preamble period fits in the 40 µs of a Whiff capture (03 R86). -/
def corrFits (c : DescCopy) : Bool := preambleNs c != 0 && decide (preambleNs c ≤ 40000)

/-- The length of a synchronisation header in ns (log entry 9). -/
def shrNs (c : DescCopy) : Nat :=
  match c.modeCode with
  | 1 => 80 * 1000000 / [50, 50, 100, 100, 150, 200, 200, 300, 200, 400].getD c.rateIx 50
  | 2 => (64 + c.syncCfg % 64) * symNs c
  | 3 => 160000
  | 4 => 40 * 1000000000 / (if c.rateIx = 0 then 6250 else 31250)
  | 6 => 24000
  | 7 => 336000
  | 8 => 720000
  | 9 => 500000
  | _ => 40000

/-- The bits that a coded FSK frame of `n` header and PSDU bits encodes: three tail bits, and pad bits to a multiple of 16 (06 R153; log
entry 108). -/
def codedFskBits (n : Nat) : Nat := (n + 3 + 15) / 16 * 16

/-- The length on air of a frame of `len` PSDU bytes, in nanoseconds; `nbits` is the profile's coded bits per symbol for FAO. -/
def airNs (c : DescCopy) (nbits len : Nat) : Nat :=
  match c.modeCode with
  | 1 =>
    let kbps := [50, 50, 100, 100, 150, 200, 200, 300, 200, 400].getD c.rateIx 50
    (64 + 16 + (if c.aux.testBit 0 then 2 * codedFskBits (16 + 8 * len) else 16 + 8 * len)) * 1000000 / kbps
  | 2 =>
    let bps := c.rate % 2 ^ 21 * (if c.rate.testBit 26 then 2 else 1)
    let n := (if c.hdrFmt = 1 then 8 else if c.hdrFmt = 2 then 0 else 16) + 8 * len
    if bps = 0 then 0 else (64 + c.syncCfg % 64 + (if c.fecSel then 2 * codedFskBits n else n)) * 1000000000 / bps
  | 3 => (6 + len) * 32000
  | 4 =>
    let rates := if c.rateIx = 0 then [6250, 12500, 25000, 50000] else [31250, 125000, 250000, 500000]
    40 * 1000000000 / rates.getD 0 6250 + (24 + 8 * len) * 1000000000 / rates.getD (c.aux % 4) 6250
  | 5 => (5 + len) * 8000
  | 6 => (6 + len) * 4000
  | 7 => let n := if c.rateIx = 0 then 8 else 2; 376000 + (8 * len + 3) * n * 1000
  | 8 =>
    let r := ofdmRate c.rateIx (c.aux % 8)
    if r = 0 then 0 else (9 + sunSymbols c.rateIx (c.aux % 8) len) * 120000
  | 9 => if nbits = 0 then 0 else 700000 + 100000 * faoSymbols nbits (bitsOf c.aux 12 2) len
  | _ => 0

/-- A descriptor copy at the slowest rate that its mode allows after a sync that did, or did not, match SYNC_ALT (09 R244). -/
def DescCopy.slowest (c : DescCopy) (alt : Bool) : DescCopy :=
  match c.modeCode with
  | 1 => { c with aux := boolNat alt }
  | 4 => { c with aux := 0 }
  | 7 => { c with mode := putBits c.mode 4 4 0 }
  | 8 => { c with aux := (List.range 7).findIdx (fun m => ofdmRate c.rateIx m != 0) }
  | 9 => { c with aux := 0 }
  | _ => c

/-- The time from the end of sync to the last sample of the longest frame of a mode, in ns (09 R244): an FAO symbol carries at least 24
coded bits (07 R179). -/
def longestNs (c : DescCopy) (alt : Bool) : Nat := airNs (c.slowest alt) 24 c.maxPsdu - shrNs c

namespace State

/-- The coded bits per symbol a transmission on a copy would use. -/
def txNbits (s : State) (c : DescCopy) : Nat := if c.modeCode = 9 then (s.profile (c.aux % 1024)).nbits else 0

/-- The length on air of the transmit chain at `head`, in fine ticks (05 R131). -/
def airTicks (s : State) (c : DescCopy) (len : Nat) : Nat := nsTicks (airNs c (s.txNbits c) len)

/-- The length on air of a context's acknowledgement, with its MIC and FCS, in fine ticks (01 R22; 09 R237). -/
def ackTicks (s : State) (c : AckCtx) : Nat := s.airTicks c.copy (c.frame.length + micLen c.level + c.fcsLen)

/-- The record word and the TX word of a transmit chain (10 R251). -/
def recordWord (s : State) (head : Nat) : Nat := s.memNat (blockAddr head + 4) 4
def txWord (s : State) (head : Nat) : Nat := s.memNat (blockAddr head + 8) 4

/-- SECURE of a transmit chain. -/
def chainSecure (s : State) (head : Nat) : Bool := (s.recordWord head).testBit 23

/-- The MAC header of a transmit chain. -/
def chainHdr (s : State) (head : Nat) : MacParse := parseOut (s.chainBody head) (s.chainSecure head)

/-- The PSDU length a transmit chain will have: BODY, FCS and, with SECURE = 1, the MIC of its auxiliary header (10 R255). -/
def txLength (s : State) (c : DescCopy) (head : Nat) : Nat :=
  let mic := if s.chainSecure head then (match s.chainHdr head with | .ok h => hdrMic h | _ => 0) else 0
  s.recordWord head % 2048 + mic + c.txFcsLen

/-- The pages an operation needs that are disabled (02 R52): the operation then ends HW_FAULT. -/
def pagesOn (s : State) (ps : List Nat) : Bool := ps.all s.enabled

/-- The pages a reception on descriptors needs. -/
def rxPages (s : State) (ds : List Nat) : List Nat :=
  [P.RFE, P.SYN, P.CHN, P.FRM] ++
    (if ds.any (fun d => !(s.descRegs d).onLane) then [P.NBD] else []) ++
    (if ds.any (fun d => (s.descRegs d).onLane) then [P.OFD] else []) ++
    (if ds.any (fun d => (s.descRegs d).coded) then [P.FEC] else [])

/-- The pages a transmission needs. -/
def txPages (s : State) (d head : Nat) : List Nat :=
  let c := s.descRegs d
  [P.RTX, P.SYN, P.FRM] ++ (if c.onLane then [P.OFD] else []) ++ (if c.txCoded then [P.FEC] else []) ++
    (if s.chainSecure head then [P.SEC] else [])

/-- The radio clock's conditions for leaving IDLE (18 R421): the operating point OP2 and a locked PLL. -/
def radioClock (s : State) : Bool := s.get F.PWR_OP_ACTIVE == 2 && s.on F.CLK_STAT_PLL_LOCK

end State

end Sys2Proof.Machine
end

