-- ==== Sys2Proof/Machine/Trellis.lean ====
section
/-! DEFINITION. The trellis coder (07 R186 to R189): the convolutional codes with their tails, puncturing and the zero soft values put back
at the receiver, interleaving, and the Viterbi decoder. -/

namespace Sys2Proof.Machine

/-- The low `w` bits of a number, least significant first. -/
def lsbBits (w n : Nat) : List Bool := (List.range w).map n.testBit

/-- The low `w` bits of a number, most significant first. -/
def msbBits (w n : Nat) : List Bool := (lsbBits w n).reverse

/-- The bits of bytes in air order: bit 0 of each byte first. -/
def bytesBits (bs : List Byte) : List Bool := bs.flatMap (fun b => lsbBits 8 b.toNat)

/-- The number whose bits, least significant first, are given. -/
def bitsNat : List Bool → Nat
  | [] => 0
  | b :: bs => boolNat b + 2 * bitsNat bs

/-- The whole bytes of a bit stream in air order. -/
def bitsBytes : List Bool → List Byte
  | b0 :: b1 :: b2 :: b3 :: b4 :: b5 :: b6 :: b7 :: r => BitVec.ofNat 8 (bitsNat [b0, b1, b2, b3, b4, b5, b6, b7]) :: bitsBytes r
  | _ => []

/-- The parity of the low seven bits of a number. -/
def parity (n : Nat) : Bool := (lsbBits 7 n).foldl (fun a b => a != b) false

/-- Bitwise exclusive or of two bit streams of one length. -/
def xorBits (a b : List Bool) : List Bool := List.zipWith (fun x y => x != y) a b

/-- `n` bits of the PN9 generator x^9 + x^5 + 1 from a seed (06 R153; 07 R172, R176). -/
def pn9 : Nat → Nat → List Bool
  | 0, _ => []
  | n + 1, r => r.testBit 0 :: pn9 n (r / 2 + 256 * boolNat (r.testBit 0 != r.testBit 5))

/-- The codes of the trellis coder (07 R186): K = 7, and the K = 4 codes of SUN-FSK, of which Bluetooth LE Coded shares the non-recursive one
(PRESUMED; log entry 108). -/
inductive ConvCode where
  | k7 | rsc | nrnsc
  deriving DecidableEq, Repr

/-- The bits of the encoder's state: K − 1. -/
def ConvCode.mem : ConvCode → Nat
  | .k7 => 6
  | _ => 3

/-- The traceback depth of the decoder (07 R188). -/
def ConvCode.depth : ConvCode → Nat
  | .k7 => 64
  | _ => 32

/-- One step of the encoder: the next state and the two coded bits, in the order in which they are sent (07 R186). The state holds the newest
bit on top; generators are octal 133 and 171, or 17 and 13. -/
def ConvCode.step : ConvCode → Nat → Bool → Nat × Bool × Bool
  | .k7, s, u => let r := 64 * boolNat u + s; (r / 2, parity (r &&& 0o133), parity (r &&& 0o171))
  | .nrnsc, s, u => let r := 8 * boolNat u + s; (r / 2, parity (r &&& 0o17), parity (r &&& 0o13))
  | .rsc, s, u => let r := 8 * boolNat (u != parity (s &&& 0o3)) + s; (r / 2, u, parity (r &&& 0o17))

/-- The coded pairs of a stream from a state of the encoder. -/
def ConvCode.encode (c : ConvCode) : Nat → List Bool → List (Bool × Bool)
  | _, [] => []
  | s, u :: us => (c.step s u).2 :: c.encode (c.step s u).1 us

/-- The tail bits that bring the encoder from a state to state 0. -/
def ConvCode.tail (c : ConvCode) : Nat → Nat → List Bool
  | 0, _ => []
  | n + 1, s => let u := c == .rsc && parity (s &&& 0o3); u :: c.tail n (c.step s u).1

/-- The encoder's state after a stream from state 0. -/
def ConvCode.after (c : ConvCode) (us : List Bool) : Nat := us.foldl (fun s u => (c.step s u).1) 0

/-- Which of the outputs A and B of step `i` are sent (07 R187): rate code 0 is 1/2, 1 is 2/3, 2 is 3/4. -/
def sentAt (rate i : Nat) : Bool × Bool :=
  if rate = 1 then (true, i % 2 == 0)
  else if rate = 2 then (i % 3 != 2, i % 3 != 1)
  else (true, true)

/-- The punctured stream of coded pairs, from step `i` (07 R187). -/
def puncture (rate : Nat) : Nat → List (Bool × Bool) → List Bool
  | _, [] => []
  | i, (a, b) :: r =>
    (if (sentAt rate i).1 then [a] else []) ++ (if (sentAt rate i).2 then [b] else []) ++ puncture rate (i + 1) r

/-- The soft pairs of a punctured stream from step `i`, with a zero in each punctured position (07 R187). -/
def depuncture (rate : Nat) : Nat → List Soft → List (Soft × Soft)
  | _, [] => []
  | i, [a] => match sentAt rate i with
    | (true, true) => []
    | (true, false) => [(a, 0)]
    | _ => [(0, a)]
  | i, a :: b :: r => match sentAt rate i with
    | (true, true) => (a, b) :: depuncture rate (i + 1) r
    | (true, false) => (a, 0) :: depuncture rate (i + 1) (b :: r)
    | _ => (0, a) :: depuncture rate (i + 1) (b :: r)

/-- A stream of code symbols cut into blocks of `n`. -/
def blocksOf {α : Type} (n count : Nat) (l : List α) : List (List α) := (List.range count).map (fun i => (l.drop (n * i)).take n)

/-- The interleaver of coded FSK frames on blocks of 16 code symbols (06 R149; log entry 108): symbol k goes to place 15 − 4 (k mod 4) − ⌊k / 4⌋.
It is its own inverse. -/
def interleave16 {α : Type} (l : List α) : List α :=
  (blocksOf 16 ((l.length + 15) / 16) l).flatMap (fun b =>
    if b.length = 16 then (List.range 16).filterMap (fun k => b[15 - 4 * (k % 4) - k / 4]?) else b)

/-- The pairs of a list of even length. -/
def pairUp {α : Type} : List α → List (α × α)
  | a :: b :: r => (a, b) :: pairUp r
  | _ => []

/-- The two bits or values of each pair in order. -/
def unpair {α : Type} (l : List (α × α)) : List α := l.flatMap (fun p => [p.1, p.2])

/-- A decoder before its first step: state 0 only. -/
def ConvCode.fresh (c : ConvCode) : Trellis := ⟨some (0, []) :: List.replicate (2 ^ c.mem - 1) none, [], 0⟩

/-- What a soft pair adds to the metric of a branch that sends `b` (07 R188): a positive soft bit stands for 1 (log entry 111). -/
def softGain (x : Soft × Soft) (b : Bool × Bool) : Int := (if b.1 then x.1.toInt else -x.1.toInt) + (if b.2 then x.2.toInt else -x.2.toInt)

/-- The survivor of two paths: the one with the greater metric. -/
def survivor (tie : Bool) (p q : Option (Int × List Bool)) : Option (Int × List Bool) :=
  match p, q with
  | some x, some y =>
    some (if x.1 < y.1 then y.1 else x.1, if y.1 < x.1 then x.2 else if x.1 < y.1 then y.2 else if tie then x.2 else y.2)
  | some x, none => some x
  | none, y => y

/-- The branch from state `s` into state `n` under a soft pair. -/
def ConvCode.branch (c : ConvCode) (x : Soft × Soft) (n s : Nat) (p : Option (Int × List Bool)) : Option (Int × List Bool) :=
  p.map (fun q => let u := (c.step s false).1 != n; (q.1 + softGain x (c.step s u).2, u :: q.2))

/-- The metrics after one step: state n follows states 2n and 2n + 1 modulo the number of states. -/
def ConvCode.advance (c : ConvCode) (tie : Nat → Nat → Bool) (t : Trellis) (x : Soft × Soft) : List (Option (Int × List Bool)) :=
  let half := 2 ^ (c.mem - 1)
  let row (top : Nat) := (List.range half).zipWith (fun n (p : Option (Int × List Bool) × Option (Int × List Bool)) =>
    survivor (tie t.steps (top + n)) (c.branch x (top + n) (2 * n) p.1) (c.branch x (top + n) (2 * n + 1) p.2)) (pairUp t.nodes)
  row 0 ++ row half

/-- The best path of a decoder; among equal metrics, `best` says whether the earlier state stays. -/
def Trellis.bestPath (best : Nat → Nat → Bool) (t : Trellis) : List Bool :=
  (((List.range t.nodes.length).zip t.nodes).foldl (fun o p => survivor (best t.steps p.1) o p.2) none).elim [] (fun x => x.2)

/-- One trellis step: with more than the traceback depth of steps taken, the oldest bit of the best path is delivered (07 R188). -/
def ConvCode.decodeStep (c : ConvCode) (tie best : Nat → Nat → Bool) (t : Trellis) (x : Soft × Soft) : Trellis :=
  let t1 : Trellis := { t with nodes := c.advance tie t x, steps := t.steps + 1 }
  if c.depth < t1.steps then { t1 with out := t1.out ++ ((t1.bestPath best)[c.depth]?).toList } else t1

/-- The end of a stream: the bits of the traceback that are still inside are delivered (07 R189), from state 0 or from the best state (log entry 111), which
may be one path. -/
def Trellis.flush (best : Nat → Nat → Bool) (zero : Bool) (t : Trellis) : Trellis :=
  let p0 := (t.nodes.headD none).elim [] (fun x => x.2)
  let pb := t.bestPath best
  let path := if p0 = pb then p0 else if zero then p0 else pb
  { t with out := t.out ++ (path.take (t.steps - t.out.length)).reverse }

/-- The decoder on a segment of a stream (07 R188, R189). -/
def ConvCode.decode (c : ConvCode) (tie best : Nat → Nat → Bool) (zero final : Bool) (t : Trellis) (xs : List (Soft × Soft)) : Trellis :=
  let t1 := xs.foldl (c.decodeStep tie best) t
  if final then t1.flush best zero else t1

/-- The decoder of the device, with what its specification leaves open (log entry 111). -/
def ConvCode.run (c : ConvCode) (final : Bool) (t : Trellis) (xs : List (Soft × Soft)) : Trellis :=
  c.decode Config.decoderTie Config.decoderBest Config.decoderFromZero final t xs

end Sys2Proof.Machine
end

