-- ==== Sys2Proof/Machine/Baseband.lean ====
section
/-! DEFINITION. The baseband of a frame: whitening, the PHY headers and the bits a modulator takes (06 R149 to R157, R530), the OFDM symbols of
a lane (07 R167 to R177), the received stream of a coded mode, and the SNR of a lane's subcarriers (07 R173, R182, R183). What the
specification leaves to its standards is PRESUMED or opaque (log entries 108 to 113). -/

namespace Sys2Proof.Machine

/-- `n` bits of the LE whitening register x^7 + x^4 + 1 (06 R153; log entry 108). -/
def leWhite : Nat → Nat → List Bool
  | 0, _ => []
  | n + 1, r => r.testBit 6 :: leWhite n ((2 * r % 128 + boolNat (r.testBit 6)) ^^^ (if r.testBit 6 then 16 else 0))

/-- The bits that whiten or scramble the first `n` bits of a PSDU (06 R153; 07 R168, R176): `on` for the FSK modes, `seed` for SUN-OFDM. -/
def DescCopy.scramble (c : DescCopy) (on : Bool) (seed n : Nat) : List Bool :=
  match c.modeCode with
  | 1 => if on then pn9 n 0x1FF else List.replicate n false
  | 2 => if on then pn9 n 0x1FF else List.replicate n false
  | 3 => List.replicate n false
  | 4 => List.replicate n false
  | 8 => Config.sunScramble seed n
  | 9 => pn9 n 0x1FF
  | _ => leWhite n (1 + 2 * bitsNat (msbBits 6 (bitsOf c.aux 24 6)))

/-- The code of a coded mode (06 R149, R153; 07 R186). -/
def DescCopy.code (c : DescCopy) : ConvCode :=
  match c.modeCode with
  | 1 => if c.fecSel then .nrnsc else .rsc
  | 2 => .rsc
  | 7 => .nrnsc
  | _ => .k7

/-- Bit 13 of the mode word: interleaving, in the FSK modes (06 R149). -/
def DescCopy.interleaved (c : DescCopy) : Bool := (c.modeCode == 1 || c.modeCode == 2) && c.mode.testBit 13

/-- The 16-bit SUN-FSK PHR (06 R157, R530; log entry 108): MS, two reserved bits, the FCS type, DW and the length. -/
def fskPhr (type2 dw : Bool) (len : Nat) : List Bool := [false, false, false, type2, dw] ++ msbBits 11 len

/-- The PHY header of an FSK frame (06 R149, R157). -/
def DescCopy.fskHeader (c : DescCopy) (dw : Bool) (len : Nat) : List Bool :=
  if c.modeCode = 2 ∧ c.hdrFmt = 1 then lsbBits 8 len
  else if c.modeCode = 2 ∧ c.hdrFmt = 2 then []
  else fskPhr (c.txFcsLen == 2) dw len

/-- The pad bits that follow the tail of a coded FSK frame (06 R153; log entry 108). -/
def fskPad (n : Nat) : List Bool :=
  if 8 < n then [false, false, false, false, true, false, true, true, false, false, false, false, true] else [false, true, false, true, true]

/-- The coded bits of an FSK frame from its header and PSDU bits (06 R153; 07 R186). -/
def DescCopy.fskCoded (c : DescCopy) (us : List Bool) : List Bool :=
  let tailed := us ++ c.code.tail 3 (c.code.after us)
  let pairs := c.code.encode 0 (tailed ++ fskPad (codedFskBits us.length - tailed.length))
  unpair (if c.interleaved then interleave16 pairs else pairs)

/-- The bits of a frame on an FSK mode: preamble, sync word, header and PSDU (06 R149, R151, R153, R156). -/
def DescCopy.fskBits (c : DescCopy) (dw : Bool) (psdu : List Byte) : List Bool :=
  let n := psdu.length
  let us := c.fskHeader dw n ++ xorBits (bytesBits psdu) (c.scramble dw 0 (8 * n))
  (List.range 64).map (fun i => i % 2 == 1) ++
    (if c.modeCode = 1 ∧ c.txCoded then lsbBits 16 (c.syncCfg / 65536) else lsbBits (c.syncCfg % 64) c.sync) ++
    (if c.txCoded then c.fskCoded us else us)

/-- The pattern mapping of LE Coded (06 R153; log entry 108): each coded bit is four symbols at S8, one at S2. -/
def lePattern (s8 : Bool) (l : List Bool) : List Bool :=
  if s8 then l.flatMap (fun b => [b, b, !b, !b]) else l

/-- A block of LE Coded with its three termination bits. -/
def leBlock (s8 : Bool) (us : List Bool) : List Bool :=
  lePattern s8 (unpair (ConvCode.nrnsc.encode 0 (us ++ List.replicate 3 false)))

/-- The bits of an LE frame (06 R151, R153). -/
def DescCopy.leBits (c : DescCopy) (pdu : List Byte) : List Bool :=
  let us := xorBits (bytesBits pdu) (c.scramble true 0 (8 * pdu.length))
  let aa := lsbBits 32 c.sync
  if c.modeCode = 7 then
    (List.range 80).map (fun i => decide (i % 8 = 2 ∨ i % 8 = 3 ∨ i % 8 = 4 ∨ i % 8 = 5)) ++
      leBlock true (aa ++ lsbBits 2 c.rateIx) ++ leBlock (c.rateIx == 0) us
  else (List.range (if c.modeCode = 6 then 16 else 8)).map (fun i => aa.headD false != (i % 2 == 1)) ++ aa ++ us

/-- The bits a modulator takes of a frame in a slice mode, before spreading: `dw` is the DW bit of an FSK frame (06 R151, R153). -/
def DescCopy.ppdu (c : DescCopy) (dw : Bool) (psdu : List Byte) : List Bool :=
  match c.modeCode with
  | 1 => c.fskBits dw psdu
  | 2 => c.fskBits dw psdu
  | 3 => lsbBits 32 0 ++ lsbBits 8 0xA7 ++ lsbBits 8 psdu.length ++ bytesBits psdu
  | 4 => lsbBits 32 0 ++ lsbBits 8 0xA7 ++ Config.oqpskPhr (c.aux % 4) psdu.length ++
      Config.oqpskSent (c.aux % 4) (unpair (ConvCode.k7.encode 0 (bytesBits psdu ++ List.replicate 6 false)))
  | _ => c.leBits psdu

/-- An option of SUN-OFDM (07 R167): FFT size, active tones and data tones; the cyclic prefix is a quarter of the FFT. -/
structure SunOption where
  fft    : Nat
  active : Nat
  data   : Nat
  deriving DecidableEq, Repr

/-- The options of SUN-OFDM (07 R167). -/
def sunOption (o : Nat) : SunOption := [⟨0, 0, 0⟩, ⟨128, 104, 96⟩, ⟨64, 52, 48⟩, ⟨32, 26, 24⟩, ⟨16, 14, 12⟩].getD o ⟨0, 0, 0⟩

/-- An MCS of SUN-OFDM (07 R167): coded bits per tone, the rate code of R187, and the frequency repetition. -/
structure SunMcs where
  bits : Nat
  rate : Nat
  rep  : Nat
  deriving DecidableEq, Repr

/-- The MCS values of SUN-OFDM (07 R167). -/
def sunMcs (m : Nat) : SunMcs := [⟨1, 0, 4⟩, ⟨1, 0, 2⟩, ⟨2, 0, 2⟩, ⟨2, 0, 1⟩, ⟨2, 2, 1⟩, ⟨4, 0, 1⟩, ⟨4, 2, 1⟩].getD m ⟨1, 0, 1⟩

/-- The coded bits of a SUN-OFDM symbol. -/
def sunCbps (o m : Nat) : Nat := (sunOption o).data * (sunMcs m).bits / (sunMcs m).rep

/-- The FFT bins of the pilots in ascending order (07 R171). -/
def faoPilots : List Int := [-49, -35, -21, -7, 7, 21, 35, 49]

/-- The 104 active FFT bins in ascending order (07 R171). -/
def faoBins : List Int := ((List.range 105).map (fun (i : Nat) => (i : Int) - 52)).filter (fun k => k != 0)

/-- The number of active bins below bin `k`, and of pilots below it: a data bin's number is their difference (07 R171). -/
def binPlace (k : Int) : Nat := (k + 52).toNat - boolNat (decide (0 < k))
def pilotsBelow (k : Int) : Nat := (faoPilots.filter (fun p => decide (p < k))).length

/-- The value 1 − 2p at an amplitude (07 R172). -/
def signTone (p : Bool) (a : Nat) : Tone := (if p then -(a : Int) else (a : Int), 0)

/-- The STF symbol: 26 tones scaled by 2 (07 R172). -/
def faoStf : List Tone :=
  faoBins.map (fun k => if k % 4 = 0 then signTone ((pn9 26 0x155).getD ((k + 52).toNat / 4 - boolNat (decide (0 < k))) false) 8192 else (0, 0))

/-- The LTF symbol: all active bins (07 R172). -/
def faoLtf : List Tone := (pn9 104 0x155).map (fun p => signTone p 4096)

/-- The integer square root of a number below 2^64. -/
def isqrt (n : Nat) : Nat := (List.range 32).foldl (fun r i => let t := r + 2 ^ (31 - i); if t * t ≤ n then t else r) 0

/-- The amplitude of a unit of a constellation whose mean power is `norm` units, in a symbol with `loaded` data subcarriers (07 R176, R177): the power of
104 tones is shared by the loaded subcarriers and the eight pilots. -/
def faoAmp (loaded norm : Nat) : Nat := isqrt (4096 * 4096 * 104 / ((loaded + 8) * norm))

/-- One axis of a Gray-mapped constellation (07 R176), the first bit most significant: ±1, ±3, … -/
def grayAxis (bits : List Bool) : Int :=
  2 * ((bits.foldl (fun (a : Nat × Bool) b => (2 * a.1 + boolNat (a.2 != b), a.2 != b)) (0, false)).1 : Int) - ((2 ^ bits.length : Nat) - 1)

/-- The constellation point of the bits of a subcarrier (07 R176). -/
def tonePoint (loaded : Nat) (bits : List Bool) : Tone :=
  let b := bits.length
  if b = 0 then (0, 0)
  else if b = 1 then (grayAxis bits * (faoAmp loaded 1 : Nat), 0)
  else
    let a : Int := (faoAmp loaded (if b = 2 then 2 else if b = 4 then 10 else 42) : Nat)
    (grayAxis (bits.take (b / 2)) * a, grayAxis (bits.drop (b / 2)) * a)

/-- The order in which coded bits fill the data subcarriers of a symbol (07 R176). -/
def faoOrder : List Nat := (List.range 96).map (fun j => 13 * j % 96)

/-- The coded bits of a symbol on the subcarriers of a list: one loaded off is skipped (07 R176). -/
def fillTones (codes : List Nat) (loaded : Nat) : List Nat → List Bool → List (Nat × Tone)
  | [], _ => []
  | d :: ds, bits =>
    let b := loadBits (codes.getD d 0)
    if b = 0 then fillTones codes loaded ds bits else (d, tonePoint loaded (bits.take b)) :: fillTones codes loaded ds (bits.drop b)

/-- The subcarriers a loading turns on. -/
def loadedOf (codes : List Nat) : List Nat := (List.range 96).filter (fun d => loadBits (codes.getD d 0) != 0)

/-- Symbol `n` from the first header symbol on, with its pilots and its coded bits (07 R172, R176, R177). -/
def faoSymbol (codes : List Nat) (n : Nat) (bits : List Bool) : List Tone :=
  let loaded := (loadedOf codes).length
  let data := fillTones codes loaded faoOrder bits
  let q := (pn9 (n + 1) 0x1FF).getD n false
  faoBins.map (fun k =>
    if faoPilots.contains k then signTone ([false, false, false, true, false, true, true, true].getD (pilotsBelow k) false != q) (faoAmp loaded 1)
    else ((data.find? (fun x => x.1 == binPlace k - pilotsBelow k)).map (fun x => x.2)).getD (0, 0))

/-- The header check of FAO over the header bits 0 to 33 in air order (07 R174). -/
def faoHcsBits (a : List Bool) : List Bool := msbBits 8 (crc8Bits a)

/-- The 48 header bits of an FAO frame (07 R174). -/
def faoHeaderBits (p : Profile) (code : Nat) (fcs16 : Bool) (len : Nat) : List Bool :=
  let a := lsbBits 10 p.index ++ lsbBits 11 len ++ lsbBits 2 code ++ [fcs16] ++ lsbBits 6 p.pcrc ++ List.replicate 4 false
  a ++ faoHcsBits a ++ List.replicate 6 false

/-- The header and payload symbols of an FAO frame, from its header bits and the stream that enters the encoder (07 R172, R174, R176). -/
def faoSymbolsOf (p : Profile) (code len : Nat) (hdr stream : List Bool) : List (List Tone) :=
  let h := unpair (ConvCode.k7.encode 0 hdr)
  let n := faoSymbols p.nbits code len
  let sent := (puncture code 0 (ConvCode.k7.encode 0 stream)).take (n * p.nbits)
  (List.range 2).map (fun i => faoSymbol (List.replicate 96 1) i h) ++
    ((List.range n).zip (blocksOf p.nbits n sent)).map (fun x => faoSymbol p.codes (x.1 + 2) x.2)

/-- The PHR and payload symbols of a SUN-OFDM frame (07 R167, R168). -/
def sunSymbolsOf (o m seed len : Nat) (stream : List Bool) : List (List Tone) :=
  let n := sunSymbols o m len
  let sent := (puncture (sunMcs m).rate 0 (ConvCode.k7.encode 0 stream)).take (n * sunCbps o m)
  Config.sunPhr o m len seed ++ ((List.range n).zip (blocksOf (sunCbps o m) n sent)).map (fun x => Config.sunSymbol o m x.1 x.2)

/-- The stream that enters the encoder for a PSDU on a lane: scrambled bits, six tail bits, and pad bits that last as long as any symbol
needs them (07 R176). -/
def DescCopy.laneStream (c : DescCopy) (seed pad : Nat) (psdu : List Byte) : List Bool :=
  xorBits (bytesBits psdu) (c.scramble true seed (8 * psdu.length)) ++ List.replicate (6 + pad) false

/-- The symbols of a frame sent on a lane, with the profile copy of an FAO frame (07 R168, R169, R172). -/
def DescCopy.laneTones (c : DescCopy) (p : Profile) (psdu : List Byte) : List (List Tone) :=
  let len := psdu.length
  if c.modeCode = 9 then
    let code := bitsOf c.aux 12 2
    List.replicate 3 faoStf ++ List.replicate 2 faoLtf ++
      faoSymbolsOf p code len (faoHeaderBits p code (c.aux.testBit 16) len) (c.laneStream 0 p.nbits psdu)
  else
    let m := c.aux % 8
    let seed := bitsOf c.aux 4 2
    Config.sunStf c.rateIx ++ Config.sunLtf c.rateIx ++ sunSymbolsOf c.rateIx m seed len (c.laneStream seed (sunCbps c.rateIx m) psdu)

/-- Whether the DW bit of a transmitted FSK frame is 1 (06 R153, R157): FSK_GEN sends it with the whitening it applies; in SUN_FSK the
specification leaves it open, and `open_` is a free value (log entry 109). -/
def DescCopy.sendDw (c : DescCopy) (open_ : Bool) : Bool := if c.modeCode = 1 then open_ else c.whiten == 2

/-- A frame as it goes on air, on a slice mode or a lane. -/
def DescCopy.onAir (c : DescCopy) (p : Profile) (dw : Bool) (psdu : List Byte) : OnAir :=
  if c.onLane then .tones (c.laneTones p psdu) else .bits (c.ppdu (c.sendDw dw) psdu)

/-- Whether the frame on a unit is coded, so that its bytes come from the decoder (06 R153; 07 R186). -/
def RxFrame.coded (f : RxFrame) (c : DescCopy) : Bool := c.rxCoded f.alt

/-- The rate code under which a stream was punctured (07 R167, R187). -/
def RxFrame.rate (f : RxFrame) (c : DescCopy) : Nat :=
  if c.modeCode = 9 then f.rateByte % 4 else if c.modeCode = 8 then (sunMcs (f.rateByte % 8)).rate else 0

/-- The header bits that precede the PSDU in the coded stream of an FSK frame (06 R153, R157). -/
def DescCopy.streamHeader (c : DescCopy) : Nat :=
  match c.modeCode with
  | 1 => 16
  | 2 => if c.hdrFmt = 0 then 16 else if c.hdrFmt = 1 then 8 else 0
  | _ => 0

/-- The bits that the PSDU of a reception is de-whitened by, from its byte `k` on, for `n` bytes (06 R153; 07 R168, R176). -/
def RxFrame.mask (f : RxFrame) (c : DescCopy) (k n : Nat) : List Bool :=
  (c.scramble (f.phy.testBit 1) (f.rateByte / 16) (8 * (k + n))).drop (8 * k)

/-- The next bytes of a reception's PSDU (06 R153; 07 R186): as demodulated for an uncoded frame; for a coded one as many of the decoder's as the
event names. -/
def RxFrame.nextBytes (f : RxFrame) (c : DescCopy) (bytes : List Byte) : List Byte :=
  let k := f.bytes.length
  let got := if f.coded c then (f.stream.trellis.out.drop (c.streamHeader + 8 * k)).take (8 * bytes.length) else bytesBits bytes
  bitsBytes (xorBits got (f.mask c k bytes.length))

/-- The trellis steps of a segment's soft bits (07 R187, R189): de-interleaved, with zeros in the punctured positions. -/
def RxFrame.steps (f : RxFrame) (c : DescCopy) (soft : List Soft) : List (Soft × Soft) :=
  let xs := if c.interleaved then unpair (interleave16 (pairUp soft)) else soft
  depuncture (f.rate c) f.stream.sent xs

/-- The two header symbols of an FAO frame combined (07 R174): their soft bits added within the range of a soft bit (log entry 111). -/
def combineSoft (a b : Soft) : Soft := BitVec.ofInt 4 (clampInt (-8) 7 (a.toInt + b.toInt))

/-- The decoded header bits of an FAO frame as a number, bit 0 first (07 R174). -/
def faoHeaderOf (first second : List Soft) : Nat :=
  let x := faoOrder.map (fun d => combineSoft (first.getD d 0) (second.getD d 0))
  bitsNat (ConvCode.k7.run true ConvCode.k7.fresh (pairUp x)).out

/-- Complex sum, difference and product, and the squared magnitude. -/
def Tone.add (a b : Tone) : Tone := (a.1 + b.1, a.2 + b.2)
def Tone.sub (a b : Tone) : Tone := (a.1 - b.1, a.2 - b.2)
def Tone.mul (a b : Tone) : Tone := (a.1 * b.1 - a.2 * b.2, a.1 * b.2 + a.2 * b.1)
def Tone.norm (a : Tone) : Nat := (a.1 * a.1 + a.2 * a.2).toNat

/-- The SNR of a subcarrier as a ratio (07 R183): |H|² over the mean error power, where H comes from the two LTF values `a` and `b` with the LTF's
own value `p`, and the error is the received value less H times the value sent; a value sent of 0 leaves the received power. -/
def snrRatio (p a b : Tone) (ys xs : List Tone) : Nat × Nat :=
  let h := Tone.mul (Tone.add a b) (p.1, -p.2)
  let errs := List.zipWith (fun y x => Tone.norm (Tone.sub (2 ^ 25 * y.1, 2 ^ 25 * y.2) (Tone.mul h x))) ys xs
  (Tone.norm h * 2 ^ 24 * errs.length, errs.foldl (fun u v => u + v) 0)

/-- The largest quarter decibel from −32 to +31.75 dB that a ratio reaches, by exact powers: a / b ≥ 10^(q / 40). -/
def quarterFloor (a b : Nat) : Int :=
  let reaches (q : Int) : Bool :=
    if 0 ≤ q then decide (10 ^ q.toNat * b ^ 40 ≤ a ^ 40) else decide (b ^ 40 ≤ a ^ 40 * 10 ^ (-q).toNat)
  [128, 64, 32, 16, 8, 4, 2, 1].foldl (fun (q : Int) (d : Int) => if reaches (q + d) then q + d else q) (-128)

/-- The SNR value of a ratio in 0.25 dB, saturating (07 R182); its last quarter, and the value of 0 over 0, are open (log entry 112). -/
def snrQuarter (r : Nat × Nat) : Int :=
  if r.1 = 0 ∧ r.2 = 0 then signed8 (Config.snrOpen 0 0)
  else clampInt (-128) 127 (quarterFloor r.1 r.2 + (Config.snrOpen r.1 r.2 % 2 : Nat))

/-- What a lane measured: the SNR of its data subcarriers and of its pilots, and which data subcarriers were loaded (07 R182, R183). -/
structure LaneSnr where
  data   : List Int
  pilots : List Int
  loaded : List Nat
  deriving DecidableEq, Repr

/-- The header and payload symbols that a received frame must have been sent with, from its decoded stream (07 R183). -/
def RxFrame.resent (f : RxFrame) (c : DescCopy) : List (List Tone) :=
  let out := f.stream.trellis.out
  if c.modeCode = 9 then
    let code := f.rateByte % 4
    faoSymbolsOf f.prof code f.len (faoHeaderBits f.prof code (f.rateByte.testBit 2) f.len) out
  else sunSymbolsOf c.rateIx (f.rateByte % 8) (f.rateByte / 16) f.len out

/-- The places of the data subcarriers and of the pilots among the active subcarriers of a lane mode (07 R171). -/
def DescCopy.dataPlaces (c : DescCopy) : List Nat :=
  if c.modeCode = 9 then (faoBins.filter (fun k => !faoPilots.contains k)).map binPlace else Config.sunData c.rateIx
def DescCopy.pilotPlaces (c : DescCopy) : List Nat := if c.modeCode = 9 then faoPilots.map binPlace else []

/-- The SNR of every subcarrier of a lane's frame (07 R183). -/
def RxFrame.laneSnr (f : RxFrame) (c : DescCopy) (m : Measures) : LaneSnr :=
  let sent := f.resent c
  let ltf := if c.modeCode = 9 then faoLtf else (Config.sunLtf c.rateIx).headD []
  let at_ (l : List Tone) (i : Nat) : Tone := l.getD i (0, 0)
  let one (i : Nat) : Int :=
    snrQuarter (snrRatio (at_ ltf i) (at_ (m.rx.getD 0 []) i) (at_ (m.rx.getD 1 []) i) ((m.rx.drop 2).map (fun y => at_ y i))
      (sent.map (fun x => at_ x i)))
  { data := c.dataPlaces.map one, pilots := c.pilotPlaces.map one
    loaded := if c.modeCode = 9 then loadedOf f.prof.codes else List.range c.dataPlaces.length }

/-- The SNR of a lane's frame (07 R173): the mean over its loaded data subcarriers, whose last quarter is open (log entry 112). -/
def LaneSnr.mean (l : LaneSnr) : Int :=
  let vs := l.loaded.map (fun d => l.data.getD d 0)
  let sum : Int := vs.foldl (fun a v => a + v) 0
  let q := sum / (vs.length : Nat)
  if q * (vs.length : Nat) = sum then q else q + ((Config.snrMeanOpen sum vs.length % 2 : Nat) : Int)

/-- SNR_MIN (07 R182): the lowest among the loaded data subcarriers. -/
def LaneSnr.lowest (l : LaneSnr) : Int := (l.loaded.map (fun d => l.data.getD d 0)).foldl (fun a v => if v < a then v else a) 127

end Sys2Proof.Machine
end

