-- ==== Sys2Proof/Machine/Regions.lean ====
section
/-! DEFINITION. The address space (02 R33 to R39): regions, what is present in a variant, which power domain feeds a region, and who may
reach it. -/

namespace Sys2Proof.Machine

/-- The engines by number: their order in the code-RAM windows (02 R33, R38). -/
def engIx : Engine → Nat
  | .nibA => 0 | .nibB => 1 | .ql0 => 2 | .ql1 => 3 | .ql2 => 4 | .ql3 => 5 | .rcp => 6 | .hve => 7

/-- The size of half a code RAM in bytes (01 R17; 02 R38). -/
def engHalf (e : Nat) : Nat := if e < 2 then 0x4000 else if e < 6 then 0x8000 else if e = 6 then 0x4000 else 0x2000

/-- Whether an engine exists in a variant (00 R2). -/
def engPresent (v : Variant) (e : Nat) : Bool :=
  if e < 2 then true else if e < 6 then decide (e - 2 < nLanes v) else if e = 6 then true else e == 7 && v == .znl7240

/-- The regions of the address space (02 R33). -/
inductive Region where
  | flash
  | window (port : Nat)
  | apcSram | ntcSram | radioBuffer | nbtSram | recorder | profiles
  | bootRom | sccSram | keyStore
  | page (p : Nat)
  | code (e : Nat)
  | none
  deriving DecidableEq, Repr

/-- The region of an address. -/
def regionOf (a : Nat) : Region :=
  if a < 0x400000 then .flash
  else if a < 0x10000000 then .none
  else if a < 0x14000000 then .window 0
  else if a < 0x15000000 then .window 1
  else if a < 0x16000000 then .window 2
  else if a < 0x17000000 then .window 3
  else if a < 0x20000000 then .none
  else if a < 0x200C0000 then .apcSram
  else if a < 0x20100000 then .none
  else if a < 0x20120000 then .ntcSram
  else if a < 0x20200000 then .none
  else if a < 0x20210000 then .radioBuffer
  else if a < 0x20300000 then .none
  else if a < 0x20380000 then .nbtSram
  else if a < 0x20400000 then .none
  else if a < 0x20440000 then .recorder
  else if a < 0x20500000 then .none
  else if a < 0x2050C000 then .profiles
  else if a < 0x30000000 then .none
  else if a < 0x30008000 then .bootRom
  else if a < 0x30100000 then .none
  else if a < 0x30104000 then .sccSram
  else if a < 0x30200000 then .none
  else if a < 0x30210000 then .keyStore
  else if a < 0x40000000 then .none
  else if a < 0x40100000 then .page ((a - 0x40000000) / 0x1000)
  else if a < 0x50000000 then .none
  else if a < 0x50100000 then .code ((a - 0x50000000) / 0x20000)
  else .none

/-- The SRAM bank of an address (13 R325; 21 R474). -/
def bankOf (a : Nat) : Option Nat :=
  match regionOf a with
  | .apcSram => some ((a - 0x20000000) / 0x8000)
  | .ntcSram => some (24 + (a - 0x20100000) / 0x8000)
  | .radioBuffer => some (28 + (a - 0x20200000) / 0x8000)
  | .profiles => some 30
  | .sccSram => some 31
  | .nbtSram => some (32 + (a - 0x20300000) / 0x8000)
  | .recorder => some (48 + (a - 0x20400000) / 0x8000)
  | .keyStore => some (56 + (a - 0x30200000) / 0x8000)
  | _ => none

/-- The pages of the radio domain (18 R403). -/
def radioPage (p : Nat) : Bool :=
  [P.RFE, P.RTX, P.SYN, P.RAD, P.CHN, P.NBD, P.OFD, P.FEC, P.LNK, P.FRM, P.NBT, P.HVL, P.REC, P.TSN].contains p

/-- A page that exists in a variant (00 R7; 02 R36). -/
def pagePresent (v : Variant) (p : Nat) : Bool :=
  decide (p < 0x29) && !(p == P.HVL && v != .znl7240) && !(p == P.REC && v == .znl7210)

namespace State

/-- Engine `e`. -/
def engine (s : State) (e : Nat) : Eng := s.eng.getD e eng0

/-- Change engine `e`. -/
def setEngine (s : State) (e : Nat) (g : Eng → Eng) : State := { s with eng := modifyAt s.eng e g }

/-- An address that is mapped: in a region, and inside the halves of a present engine's window (02 R33, R38, R40 condition 1). -/
def mapped (s : State) (a : Nat) : Bool :=
  match regionOf a with
  | .none => false
  | .code e => !engPresent s.variant e || decide (a % 0x10000 < engHalf e)
  | _ => true

/-- An address whose unit is absent in the variant (02 R34, R40 condition 3). -/
def absentAt (s : State) (a : Nat) : Bool :=
  match regionOf a with
  | .nbtSram => decide (32 * nbtSize s.variant ≤ a - 0x20300000)
  | .recorder => decide (1024 * recKib s.variant ≤ a - 0x20400000)
  | .page p => !pagePresent s.variant p
  | .code e => !engPresent s.variant e
  | _ => false

/-- The retention bit of a bank (18 R425). -/
def retained (s : State) (n : Nat) : Bool :=
  if n < 31 then (s.reg Reg.PWR_RET_LO).toNat.testBit n else if n < 32 then true else (s.reg Reg.PWR_RET_HI).toNat.testBit (n - 32)

/-- Whether the system domain is on (18 R403). -/
def systemOn (s : State) : Bool := s.pwr.state == .active || s.pwr.state == .sleep

/-- A bank of the radio domain (18 R403). -/
def radioBank (n : Nat) : Bool := n == 28 || n == 29 || n == 30 || (decide (32 ≤ n) && decide (n < 56))

/-- Whether a bank has power: its domain is on, it is not retired (02 R34), and in Sleep it is inside the retention mask. -/
def bankOn (s : State) (n : Nat) : Bool :=
  s.systemOn && !s.bankRetired n && (!radioBank n || s.pwr.radioUp) && (s.pwr.state == .active || n == 31 || decide (56 ≤ n) || s.retained n)

/-- Whether the domain of a page is on. -/
def pageOn (s : State) (p : Nat) : Bool := p == P.WKP || (s.systemOn && (!radioPage p || s.pwr.radioUp))

/-- Whether the block at an address has power (02 R40 condition 4). -/
def powered (s : State) (a : Nat) : Bool :=
  match regionOf a with
  | .page p => s.pageOn p
  | .code _ => s.systemOn && s.pwr.radioUp
  | _ => match bankOf a with
    | some n => s.bankOn n
    | none => s.systemOn

/-- The debug scope in force (12 R318). -/
def dbgScope (s : State) : Nat := s.get F.SEC_AUTH_STAT_DBG_SCOPE

/-- The half of its code RAM that an address of an engine's window shows: 0 the active one (02 R38). -/
def windowHalf (a : Nat) : Nat := a / 0x10000 % 2

/-- Whether an initiator may read (02 R39; 12 R318). -/
def mayRead (s : State) (i : Initiator) (a : Nat) : Bool :=
  match regionOf a, i with
  | .flash, .debug => decide (1 ≤ s.dbgScope)
  | .flash, _ => true
  | .window _, .host => false
  | .window _, .debug => decide (1 ≤ s.dbgScope)
  | .window _, _ => true
  | .apcSram, .ntc => false
  | .apcSram, .debug => decide (1 ≤ s.dbgScope)
  | .apcSram, _ => true
  | .ntcSram, .apc => false
  | .ntcSram, .host => false
  | .ntcSram, .debug => decide (2 ≤ s.dbgScope)
  | .ntcSram, _ => true
  | .radioBuffer, .scc => false
  | .radioBuffer, .debug => decide (2 ≤ s.dbgScope)
  | .radioBuffer, _ => true
  | .nbtSram, .ntc => true
  | .nbtSram, .debug => decide (2 ≤ s.dbgScope)
  | .nbtSram, _ => false
  | .recorder, .debug => !s.recHidden && decide (3 ≤ s.dbgScope)
  | .recorder, _ => !s.recHidden
  | .profiles, .scc => false
  | .profiles, .debug => decide (2 ≤ s.dbgScope)
  | .profiles, _ => true
  | .bootRom, .scc => true
  | .sccSram, .scc => true
  | .keyStore, .scc => true
  | .page p, .scc => decide (p < 0x100)
  | .page p, .debug => p != P.KST && decide (1 ≤ s.dbgScope)
  | .page p, _ => p != P.KST
  | .code e, .scc => !s.engRuns e
  | .code _, .debug => decide (3 ≤ s.dbgScope)
  | _, _ => false

/-- Whether an initiator may write (02 R35, R38, R39). -/
def mayWrite (s : State) (i : Initiator) (a : Nat) : Bool :=
  match regionOf a, i with
  | .flash, _ => false
  | .nbtSram, _ => false
  | .recorder, _ => false
  | .bootRom, _ => false
  | .profiles, .ntc => true
  | .profiles, .debug => decide (2 ≤ s.dbgScope)
  | .profiles, _ => false
  | .code e, .scc => !s.engRuns e || windowHalf a == 1
  | .code _, _ => false
  | _, _ => s.mayRead i a

/-- Whether a core may fetch instructions (13 R322, R323); the other initiators fetch none. -/
def mayFetch (i : Initiator) (a : Nat) : Bool :=
  match i, regionOf a with
  | .apc, .flash => true
  | .apc, .window _ => true
  | .apc, .apcSram => true
  | .ntc, .flash => true
  | .ntc, .ntcSram => true
  | .scc, .bootRom => true
  | .scc, .flash => true
  | .scc, .sccSram => true
  | _, _ => false

/-- The memory that stands behind an address: a code-RAM window shows its active half first (02 R38), every other region itself. -/
def memAddr (s : State) (a : Nat) : Nat :=
  match regionOf a with
  | .code e => if (s.engine e).half = 0 then a else if windowHalf a = 0 then a + 0x10000 else a - 0x10000
  | _ => a

/-- Word `k` of the image directory's entry for type `t` (19 R435): ADDR, EXTENT, FLAGS. -/
def dirWord (s : State) (t k : Nat) : Nat := s.memNat (0x10000 + 16 * t + 4 * k) 4

/-- OFFSET and LENGTH of the staged image of type `t` in the manifest (20 R446). -/
def stagedPart (s : State) (t : Nat) : Option (Nat × Nat) :=
  match (List.range (s.memNat 0x210006 1)).find? (fun i => s.memNat (0x210010 + 48 * i) 1 == t) with
  | some i => some (s.memNat (0x210014 + 48 * i) 4, s.memNat (0x210018 + 48 * i) 4)
  | none => none

/-- The flash byte that serves an address (20 R452): the home extent of a remapped part is served from its Flacon image; none beyond LENGTH,
where 0xFF is read. -/
def flashPlace (s : State) (a : Nat) : Option Nat :=
  let m := s.get F.UPD_PARTS_REMAPPED
  if m = 0 then some a
  else match (List.range 9).find? (fun t => decide (1 ≤ t) && m.testBit (t - 1) && decide (s.dirWord t 0 ≤ a) &&
      decide (a < s.dirWord t 0 + s.dirWord t 1)) with
    | none => some a
    | some t => match s.stagedPart t with
      | none => some a
      | some (off, len) => if a - s.dirWord t 0 < len then some (0x210000 + off + (a - s.dirWord t 0)) else none

/-- The byte that a reader of flash finds. -/
def flashByte (s : State) (a : Nat) : Byte :=
  match s.flashPlace a with
  | some x => s.byte x
  | none => 0xFF

/-- A region that is memory of the device. -/
def isMemory (a : Nat) : Bool :=
  match regionOf a with
  | .none => false
  | .page _ => false
  | .window _ => false
  | _ => true

/-- Whether the `n` bytes from `a` are memory of the device that an initiator may read, or write (12 R314). The region and the power are
those of every byte; a range of bytes is judged at its ends and at every bank between. -/
def reaches (s : State) (i : Initiator) (write : Bool) (a n : Nat) : Bool :=
  let ok (x : Nat) : Bool := s.mapped x && !s.absentAt x && isMemory x && s.powered x && (if write then s.mayWrite i x else s.mayRead i x)
  n == 0 || (ok a && ok (a + n - 1) && regionOf a == regionOf (a + n - 1) &&
    (List.range (n / 0x8000)).all (fun k => ok (a + 0x8000 * k)))

/-- The double-bit errors that a hardware reader meets in a range are memory faults of their banks (13 R325). -/
def faultRange (s : State) (a n : Nat) : State :=
  match s.flt.badWords.find? (fun w => decide (a < w + 4) && decide (w < a + n)) with
  | some w => (match bankOf w with | some b => s.reportFault (0x0600 + b) .memory | none => s)
  | none => s

/-- A double-bit error among the words of a range. -/
def rangeBad (s : State) (a n : Nat) : Bool := s.flt.badWords.any (fun w => decide (a < w + 4) && decide (w < a + n))

/-- Whether the SCC still loads engine code: the radio domain is on and an engine neither runs nor has failed (19 R441). -/
def engLoading (s : State) : Bool :=
  s.pwr.radioUp && (List.range 8).any (fun e => engPresent s.variant e && !(s.engine e).run && !(s.engine e).failed)

end State

end Sys2Proof.Machine
end

