-- ==== Sys2Proof/Machine/Security.lean ====
section
/-! DEFINITION. The security engine and the key store (12 R303 to R321): software jobs, random numbers, key store commands, and the debug
challenge. -/

namespace Sys2Proof.Machine

/-- How a software job ends (12 R314, R320): RESULT, MIC_FAIL, and the bytes for JOB_DST. -/
structure JobEnd where
  result  : Nat
  micFail : Bool
  out     : List Byte
  deriving DecidableEq, Repr

/-- A job that ends with a RESULT and no output. -/
def jobBad (r : Nat) : JobEnd := ⟨r, false, []⟩

/-- The work of a job on its input bytes (12 R314). -/
def jobWork (op : Nat) (key : List Nat) (inp : List Byte) : JobEnd :=
  let n := toNats inp
  match op with
  | 1 =>
    if inp.length % 16 ≠ 0 then jobBad 3
    else ⟨0, false, toBytes ((Crypto.chunks 16 (inp.length / 16) n).flatMap (Crypto.aesEnc key))⟩
  | 2 =>
    if inp.length < 16 then jobBad 3
    else
      let d := n.drop 16
      ⟨0, false, toBytes (Crypto.ctrMode key (Crypto.beNat (n.take 16)) (Crypto.chunks 16 ((d.length + 15) / 16) d))⟩
  | 3 | 4 =>
    let mic := n.getD 13 0
    let alen := n.getD 14 0 + 256 * n.getD 15 0
    let rest := n.drop 16
    if inp.length < 16 ∨ (mic ≠ 4 ∧ mic ≠ 8 ∧ mic ≠ 16) ∨ rest.length < alen + (if op = 4 then mic else 0) then jobBad 3
    else
      let a := rest.take alen
      let m := rest.drop alen
      if op = 3 then (match Crypto.ccmSeal key (n.take 13) a m mic with | (c, t) => ⟨0, false, toBytes (c ++ t)⟩)
      else
        let c := m.take (m.length - mic)
        (match Crypto.ccmOpen key (n.take 13) a c (m.drop (m.length - mic)) with
         | (p, ok) => if ok then ⟨0, false, toBytes p⟩ else ⟨0, true, List.replicate c.length 0⟩)
  | 5 => ⟨0, false, toBytes (Crypto.sha256 n)⟩
  | _ =>
    if inp.length ≠ 160 then jobBad 3
    else if Crypto.ecdsaVerify (n.take 32) ((n.drop 32).take 64) (n.drop 96) then ⟨0, false, []⟩ else jobBad 4

/-- The sizes of the OTP fields in bits, by code (12 R309). -/
def otpBits (code : Nat) : Nat :=
  if code < 2 then 256 else if code = 2 then 2 else if code = 3 then 256 else if code = 4 then 2 else if code < 13 then 32
  else if code = 13 then 64 else 0

namespace State

/-- Change the security engine's part that is no register. -/
def setSec (s : State) (g : Sec → Sec) : State := { s with sec := g s.sec }

/-- An OTP field by its code. -/
def otp (s : State) (code : Nat) : Nat := s.sec.otp.getD code 0

/-- Whether slot `n` belongs to a valid AES-256 pair (12 R305, R528). -/
def inPair (s : State) (n : Nat) : Bool := (s.attr (n / 2 * 2)).testBit 0 && (s.attr (n / 2 * 2)).testBit 1

/-- A bus read of the key store shows a key only with VALID = READABLE = 1 (12 R306). -/
def keyReadable (s : State) (n : Nat) : Bool := (s.attr n).testBit 0 && (s.attr n).testBit 5

/-- A byte as an initiator's bus access reads it, beside waiting and errors. -/
def busByte (s : State) (a : Nat) : Byte :=
  match regionOf a with
  | .keyStore => if s.keyReadable ((a - 0x30200000) / 16) then s.byte a else 0
  | .flash => s.flashByte a
  | _ => s.byte (s.memAddr a)

/-- Bytes as an initiator's bus access reads them. -/
def busBytes (s : State) (a n : Nat) : List Byte := (List.range n).map (fun k => s.busByte (a + k))

/-- A byte written over the bus to memory: a key store slot with VALID = 1 discards it and sets SLOT_BUSY (12 R306). -/
def busSetByte (s : State) (a : Nat) (b : Byte) : State :=
  match regionOf a with
  | .keyStore => if (s.attr ((a - 0x30200000) / 16)).testBit 0 then s.flag P.KST 1 else s.setByte a b
  | _ => s.setByte (s.memAddr a) b

/-- Bytes written over the bus to memory. -/
def busSetBytes (s : State) (a : Nat) (bs : List Byte) : State :=
  (List.range bs.length).foldl (fun t k => t.busSetByte (a + k) (bs.getD k 0)) s

/-- A write to a radio buffer block that software does not own is discarded and recorded (10 R254). -/
def ownViol (s : State) (b : Nat) (i : Initiator) : State :=
  (((s.flag P.FRM 2).put F.FRM_VIOL_VALID 1).put F.FRM_VIOL_INITIATOR
    (match i with | .apc => 0 | .ntc => 1 | .host => 2 | .debug => 3 | .scc => 4)).put F.FRM_VIOL_BLOCK b

/-- The output of a job is stored for its initiator: a byte for a radio buffer block that SOFTWARE does not own is discarded with OWN_VIOL (10
R254). -/
def jobStore (s : State) (i : Initiator) (a : Nat) (bs : List Byte) : State :=
  (List.range bs.length).foldl (fun t k =>
    let b := (a + k - 0x20200000) / 128
    if regionOf (a + k) = .radioBuffer ∧ t.owner b ≠ .software then t.ownViol b i else t.busSetByte (a + k) (bs.getD k 0)) s

/-- A write to SEC.JOB_CMD (12 R307, R314): the key is copied, the job runs; a write while one runs is discarded with LOST. Whether a
plain key has 16 or 32 bytes is not stated: a free value says it (log entry 1). -/
def jobWrite (s : State) (ini : Initiator) (w : Nat) : State :=
  let op := w % 16
  if !s.enabled P.SEC || op == 0 || decide (6 < op) then s
  else if s.sec.job.isSome then s.put F.SEC_JOB_STAT_LOST 1
  else
    let keyed := decide (op < 5)
    let (plain, s1) := if keyed && w.testBit 8 then
        (match s.freeVal with | (r, t) => (some (if r.toNat % 2 = 0 then 16 else 32), t)) else (none, s)
    let (key, s2) := if keyed && plain.isNone then s1.copyKey (bitsOf w 16 12) 3 else (none, s1)
    let j : SecJob := ⟨op, key, plain, (s2.reg Reg.SEC_JOB_SRC).toNat, (s2.reg Reg.SEC_JOB_DST).toNat, s2.get F.SEC_JOB_LEN_LEN, ini⟩
    ((s2.setReg Reg.SEC_JOB_STAT 1).setPageSt P.SEC 1).setSec (fun x => { x with job := some j })

/-- How the running job ends: key, length and access are judged in that order (12 R314, R320). -/
def jobRun (s : State) (j : SecJob) : JobEnd :=
  let src := j.src + j.plain.getD 0
  let key := match j.plain with | some n => some (toNats (s.busBytes j.src n)) | none => j.key
  if j.op < 5 ∧ key.isNone then jobBad 1
  else
    let all := j.plain.getD 0 + j.len
    if !s.reaches j.ini false j.src all || s.rangeBad j.src all then jobBad 2
    else
      let r := jobWork j.op (key.getD []) (s.busBytes src j.len)
      if r.result = 0 ∧ ¬ s.reaches j.ini true j.dst r.out.length then jobBad 2 else r

/-- The FIFO's count (12 R315). -/
def rngCount (s : State) : State := s.put F.SEC_RNG_STAT_COUNT s.sec.rng.length

/-- A key store slot is cleared: key and attributes 0. -/
def slotErase (s : State) (n : Nat) : State := (s.setBytes (keyAddr n) (List.replicate 16 0)).setAttrByte n 0

/-- ERASE of a slot, of both slots where it belongs to a pair (12 R528). -/
def keyErase (s : State) (n : Nat) : State := if s.inPair n then (s.slotErase (n / 2 * 2)).slotErase (n / 2 * 2 + 1) else s.slotErase n

/-- SET_ATTR (12 R306, R528): RESULT and the state. -/
def keySetAttr (s : State) (n a : Nat) : Nat × State :=
  if n % 2 = 1 then
    (if a.testBit 1 || s.inPair n then (1, s) else (0, s.setAttrByte n a))
  else if a.testBit 1 then
    (if !s.inPair n && (s.attr (n + 1)).testBit 0 then (1, s) else (0, (s.setAttrByte n a).setAttrByte (n + 1) a))
  else (0, (if s.inPair n then s.slotErase (n + 1) else s).setAttrByte n a)

/-- The blob staged in KST.DATA. -/
def blobBytes (s : State) : List Nat := (List.range 12).flatMap (fun k => toNats (natLe 4 (s.reg (Reg.KST_DATA k)).toNat))

/-- The wrapping key (12 R308). -/
def wrapKey (s : State) : List Nat := toNats (natLe 32 (Config.wrapKey s.sec.secret))

/-- The attribute byte and key that the staged blob unwraps to: a 32-byte blob of a 128-bit key, or a 48-byte blob of a 256-bit key. -/
def unwrapped (s : State) : Option (Nat × List Nat) :=
  let pick (len : Nat) (size : Bool) : Option (Nat × List Nat) :=
    match Crypto.kwUnwrap s.wrapKey (s.blobBytes.take len) with
    | some p => if (p.headD 0).testBit 1 = size then some (p.headD 0, p.drop 8) else none
    | none => none
  match pick 32 false with
  | some r => some r
  | none => pick 48 true

/-- IMPORT (12 R308): into a slot, or an even slot's pair, that holds no valid key. -/
def keyImport (s : State) (n : Nat) : Nat × State :=
  match s.unwrapped with
  | none => (2, s)
  | some (a, k) =>
    let big := a.testBit 1
    if (s.attr n).testBit 0 || s.inPair n || (big && (n % 2 == 1 || (s.attr (n + 1)).testBit 0)) then (1, s)
    else
      let s1 := (s.setBytes (keyAddr n) (toBytes k)).setAttrByte n a
      (0, (if big then s1.setAttrByte (n + 1) a else s1).put F.KST_ATTR_ATTR a)

/-- Write words to KST.DATA. -/
def kstData (s : State) (bs : List Nat) : State :=
  (List.range 12).foldl (fun t k => t.setReg (Reg.KST_DATA k) (BitVec.ofNat 32 (leNat (toBytes ((bs.drop (4 * k)).take 4))))) s

/-- EXPORT (12 R308). -/
def keyExport (s : State) (n : Nat) : Nat × State :=
  let m := if s.inPair n then n / 2 * 2 else n
  if !(s.attr m).testBit 4 then (3, s)
  else if !(s.attr m).testBit 0 then (1, s)
  else (0, s.kstData (Crypto.kwWrap s.wrapKey ([s.attr m, 0, 0, 0, 0, 0, 0, 0] ++ s.keyBytes m)))

/-- The scope in force follows LIFECYCLE (12 R318): 3 while OPEN, the granted one while LOCKED, 0 while SEALED. -/
def showScope (s : State) : State :=
  let lc := s.otp 4
  (s.put F.SEC_AUTH_STAT_LIFECYCLE lc).put F.SEC_AUTH_STAT_DBG_SCOPE (if lc = 0 then 3 else if lc = 1 then s.sec.granted else 0)

/-- OTP bits are set, never cleared (12 R309): the bits of `v` that the write sets. -/
def otpSet (s : State) (code v : Nat) : State :=
  (s.setSec (fun x => { x with otp := modifyAt x.otp code (fun o => o ||| (v % 2 ^ otpBits code &&& Config.otpTakes code o v)) })).showScope

/-- Whether an OTP field holds every bit of a write that was made to it: else the write has failed (12 R321, 20 R459). -/
def otpHolds (s : State) (code v : Nat) : Bool := s.otp code &&& v % 2 ^ otpBits code == v % 2 ^ otpBits code

/-- The chip's unique number shows in SYS (12 R309, 19 R443). -/
def showUid (s : State) : State :=
  (s.setReg Reg.SYS_UID_LO (BitVec.ofNat 32 (s.otp 13))).setReg Reg.SYS_UID_HI (BitVec.ofNat 32 (s.otp 13 / 2 ^ 32))

/-- A key store command executes (12 R307, R321, R528): its RESULT and the state. -/
def kstRun (s : State) (j : KstJob) : Nat × State :=
  match j.op with
  | 1 => s.keySetAttr j.slot (s.get F.KST_ATTR_ATTR)
  | 2 => (0, s.keyErase j.slot)
  | 3 => (0, { s with sec := { s.sec with attrs := [] }, mem := Sparse.clear (fun a => decide (0x30200000 ≤ a) && decide (a < 0x30210000)) s.mem })
  | 4 => s.keyImport j.slot
  | 5 => s.keyExport j.slot
  | 6 => (0, s.put F.KST_ATTR_ATTR (s.attr (if s.inPair j.slot then j.slot / 2 * 2 else j.slot)))
  | _ =>
    if otpBits (j.slot % 16) = 0 then (1, s)
    else
      let v := leNat (toBytes s.blobBytes)
      let s1 := (s.otpSet (j.slot % 16) v).showUid
      (if s1.otpHolds (j.slot % 16) v then 0 else 4, s1)

/-- A write to KST.CMD (12 R321): discarded with LOST while a command runs. -/
def kstWrite (s : State) (w : Nat) : State :=
  let op := w % 8
  if !s.enabled P.KST || op == 0 then s
  else if s.sec.kst.isSome then s.put F.KST_STAT_LOST 1
  else ((s.setReg Reg.KST_STAT 1).setPageSt P.KST 1).setSec (fun x => { x with kst := some ⟨op, bitsOf w 16 12⟩ })

/-- RNG_RESTART (12 R315): after a failure the generator starts again; 1,024 fresh words must pass first. -/
def rngRestart (s : State) : State :=
  if s.on F.SEC_RNG_STAT_FAIL then ((s.put F.SEC_RNG_STAT_FAIL 0).setSec (fun x => { x with warm := 1024, rng := [] })).rngCount else s

/-- Challenges are refused: SEALED, or three failures since POR or BOR (12 R318, R319). -/
def chalRefused (s : State) : Bool := s.otp 4 / 2 % 2 == 1 || s.get F.SEC_AUTH_STAT_DBG_FAILS == 3

/-- A JTAG transfer: TCK has toggled (13 R336). -/
def connected (s : State) : State := s.put F.DBG_STAT_CONNECTED 1

/-- What a JTAG data register captures under an instruction, with its width (13 R332): IDCODE; DTMCS and DMI, which read 0 until a scope is granted
and then follow the debug specification; DBG_CHAL; BYPASS. What DBG_RESP captures is not stated. -/
def jtagCapture (s : State) (ir : Nat) : Nat × Nat :=
  match ir with
  | 0x01 => (32, 0x172404A3)
  | 0x10 => (32, if s.dbgScope = 0 then 0 else Config.jtagOpen 0x10 s.freeCtr % 2 ^ 32)
  | 0x11 => (41, if s.dbgScope = 0 then 0 else Config.jtagOpen 0x11 s.freeCtr % 2 ^ 41)
  | 0x18 => (131, (match s.sec.nonce with | some n => leNat n + 2 ^ 128 | none => 0) + s.sec.result * 2 ^ 129)
  | 0x19 => (1032, Config.jtagOpen 0x19 s.freeCtr % 2 ^ 1032)
  | _ => (1, 0)

end State

/-- A read of the SEC page (12 R315): SEC.RNG takes a word. -/
def secRead (s : State) (off : Nat) (raw : Word) : Word × State :=
  if off = 0x118 then
    (match s.enabled P.SEC, s.sec.rng with
     | true, w :: ws => (w, (s.setSec (fun x => { x with rng := ws })).rngCount)
     | true, [] => (0, s.put F.SEC_RNG_STAT_EMPTY_READ 1)
     | false, _ => (0, s))
  else (raw, s)

/-- What a write to the SEC page starts. -/
def secWrite (s : State) (ini : Initiator) (off : Nat) (w : Word) : State :=
  if off = 0x104 then s.jobWrite ini w.toNat
  else if off = 0x11C ∧ s.enabled P.SEC = true ∧ w.toNat.testBit 7 = true then s.rngRestart
  else s

/-- A read of the KST page: KST.STAT counts the valid slots (12 R321). -/
def kstRead (s : State) (off : Nat) (raw : Word) : Word :=
  if off = 0x108 then BitVec.ofNat 32 (putBits raw.toNat 4 13 (s.sec.attrs.filter (fun p => p.2.testBit 0)).length) else raw

open State

/-- JOB_DONE (12 R314): the running software job completes. -/
def execJobDone (s : State) : Host.Outcome State Fault Refusal :=
  .next (match s.sec.job with
    | none => s
    | some j =>
      let r := s.jobRun j
      let s1 := ((s.faultRange j.src (j.plain.getD 0 + j.len)).setSec (fun x => { x with job := none })).setPageSt P.SEC 0
      let s2 := if r.result = 0 then s1.jobStore j.ini j.dst r.out else s1
      let lost := s2.get F.SEC_JOB_STAT_LOST
      (s2.setReg Reg.SEC_JOB_STAT (BitVec.ofNat 32 (2 + 4 * boolNat r.micFail + 8 * lost + 16 * r.result))).flag P.SEC 0)

/-- RNG_WORD (12 R315): the generator delivers a word that has passed the health tests, or a test fails. -/
def execRngWord (w : Word) (ok : Bool) (s : State) : Host.Outcome State Fault Refusal :=
  .next (
    if !s.enabled P.SEC || !s.on F.SEC_CFG_RNG_EN || s.on F.SEC_RNG_STAT_FAIL then s
    else if !ok then
      ((((s.put F.SEC_RNG_STAT_FAIL 1).setSec (fun x => { x with rng := [], warm := 0 })).rngCount).flag P.SEC 1).reportFault 0x1300 .transient
    else if s.sec.warm ≠ 0 then s.setSec (fun x => { x with warm := x.warm - 1 })
    else if s.sec.rng.length < 8 then (s.setSec (fun x => { x with rng := x.rng ++ [w] })).rngCount
    else s)

/-- KST_COMMAND_DONE (12 R307, R321): the key store command in progress executes and completes. -/
def execKstCommandDone (s : State) : Host.Outcome State Fault Refusal :=
  .next (match s.sec.kst with
    | none => s
    | some j =>
      match s.kstRun j with
      | (r, s1) =>
        let s2 := if j.op = 5 then s1 else s1.kstData []
        let lost := s2.get F.KST_STAT_LOST
        (((s2.setSec (fun x => { x with kst := none })).setPageSt P.KST 0).setReg Reg.KST_STAT
          (BitVec.ofNat 32 (2 * r + lost * 2 ^ 17))).flag P.KST 0)

/-- DBG_CHAL (12 R319; 13 R332): the debugger asks for a challenge; the SCC places a fresh nonce, unless challenges are refused. -/
def execDbgChal (nonce : List Byte) (s : State) : Host.Outcome State Fault Refusal :=
  .next (
    let s1 := s.connected
    if s1.chalRefused then s1.setSec (fun x => { x with nonce := none, result := 2 })
    else s1.setSec (fun x => { x with nonce := some ((nonce ++ List.replicate 16 0).take 16) }))

/-- DBG_RESP (12 R318, R319): the scope is granted if the public key is the debug key and the signature verifies; each nonce serves one
attempt, each failure counts. -/
def execDbgResp (scope : Byte) (pub sig : List Byte) (s : State) : Host.Outcome State Fault Refusal :=
  .next (
    let s1 := s.connected
    match s1.sec.nonce with
    | none => s1.setSec (fun x => { x with result := 2 })
    | some n =>
      let s2 := s1.setSec (fun x => { x with nonce := none })
      let msg := toNats (n ++ natLe 8 (s2.otp 13) ++ [scope])
      let good := !s2.chalRefused && decide (1 ≤ scope.toNat) && decide (scope.toNat ≤ 3) &&
        Crypto.sha256 (toNats pub) == toNats (natLe 32 (s2.otp 3)) && Crypto.ecdsaVerify (Crypto.sha256 msg) (toNats pub) (toNats sig)
      if good then (s2.setSec (fun x => { x with granted := scope.toNat, result := 1 })).showScope
      else (s2.setSec (fun x => { x with result := 2 })).put F.SEC_AUTH_STAT_DBG_FAILS (min 3 (s2.get F.SEC_AUTH_STAT_DBG_FAILS + 1)))

end Sys2Proof.Machine
end

