-- ==== Sys2Proof/Machine/Domains.lean ====
section
/-! DEFINITION. What a power domain loses when it is switched off, and what a chip reset keeps (18 R403, R405; 19 R431, R432). -/

namespace Sys2Proof.Machine

/-- A register address of a page that satisfies `p`. -/
def inPages (p : Nat → Bool) (a : Nat) : Bool := decide (0x40000000 ≤ a) && decide (a < 0x40100000) && p ((a - 0x40000000) / 0x1000)

/-- The memories of the radio domain (18 R403). -/
def radioMem (a : Nat) : Bool :=
  (decide (0x20200000 ≤ a) && decide (a < 0x20600000)) || (decide (0x50000000 ≤ a) && decide (a < 0x50100000))

/-- Flash. -/
def flashMem (a : Nat) : Bool := decide (a < 0x400000)

/-- The APC and NTC SRAM, which keep their contents over a reset (19 R432). -/
def coreSram (a : Nat) : Bool :=
  (decide (0x20000000 ≤ a) && decide (a < 0x200C0000)) || (decide (0x20100000 ≤ a) && decide (a < 0x20120000))

/-- The pages of the base note domain: WKP, and the time base, the low-power timers and the watchdog (18 R403). -/
def basePage (p : Nat) : Bool := p == P.WKP || p == P.TMB || p == P.LPT || p == P.WDT

/-- The registers that are base note records (19 R431); GPIO.IN shows levels from outside the device. -/
def noteReg (a : Nat) : Bool :=
  inPages (· == P.WKP) a || a == Reg.PWR_WAKE_LAST || (decide (Reg.PWR_RETW 0 ≤ a) && decide (a < Reg.PWR_RETW 16)) ||
    a == Reg.FLC_ILOG || a == Reg.SYS_RST_CAUSE || a == Reg.GPIO_IN

namespace State

/-- Memory, with the errors it holds, only where `keep` says so. -/
def keepMem (s : State) (keep : Nat → Bool) : State :=
  { s with mem := s.mem.filter (fun c => keep c.1), flt := { s.flt with badWords := s.flt.badWords.filter keep } }

/-- Registers only where `keep` says so. -/
def keepRegs (s : State) (keep : Nat → Bool) : State :=
  { s with regs := s.regs.filter (fun c => keep c.1), bank := s.bank.filter (fun c => keep (c.1 % 0x100000000)) }

/-- The parts of pages that are no register, only for the pages that `keep` names. -/
def keepPages (s : State) (keep : Nat → Bool) : State :=
  { s with pages := s.pages.mapIdx (fun p x => if keep p then x else ⟨none, false, 0, false⟩) }

/-- The position strap as HVL.STAT and the cascade link hold it (11 R279). -/
def setStrap (s : State) (pos : Nat) : State :=
  if s.variant = .znl7240 then ({ s with hvl := { s.hvl with strap := pos % 8 } }).put F.HVL_STAT_POS pos else s

/-- The radio banks that keep their contents while the domain is off: those of the retention masks with RADIO_RET = 1, and only while the
system domain stays on (18 R404, R405; log entry 51). -/
def radioKeeps (s : State) (n : Nat) : Bool := s.on F.PWR_CFG_RADIO_RET && s.retained n && !s.bankRetired n

/-- Whether a recording outlives the power-down of the radio domain: every recorder bank keeps its contents (22 R494). -/
def recKept (s : State) : Bool :=
  s.recHidden && (List.range (recKib s.variant / 32)).all (fun k => s.bankRetired (48 + k) || s.radioKeeps (48 + k))

/-- The radio domain is switched off (18 R403, R404): its pages and its engines lose their state, and its memories their contents where they are
not retained. A recording in retained banks freezes with cause POWER (22 R494). -/
def radioOff (s0 : State) : State :=
  let r := State.reset
  let s := s0.recTrigger 0x20
  let rec_ := s.recKept
  let keep (a : Nat) : Bool := match bankOf a with | some n => s.radioKeeps n | none => false
  let s1 := ((s.keepRegs (fun a => !inPages radioPage a || (rec_ && inPages (· == P.REC) a))).keepMem (fun a => !radioMem a || keep a)).keepPages
    (fun p => !radioPage p || (rec_ && p == P.REC))
  let s2 := { s1 with
    radio := r.radio, rfe := r.rfe, crs := r.crs, slices := r.slices, lanes := r.lanes, comp := r.comp, timeline := r.timeline
    doneQ := r.doneQ, ctxs := r.ctxs, shared := r.shared, inService := r.inService, rxSeq := r.rxSeq, owners := r.owners, rxq := r.rxq
    stash := s.stash.filter (fun t => keep (nbtAddr t.1)), reserved := r.reserved, nbtJobs := r.nbtJobs
    hvl := { r.hvl with strap := s.hvl.strap }, recorder := if rec_ then { s1.recorder with scrub := true } else r.recorder
    eng := r.eng, upd := { s1.upd with swaps := [], accepted := [] }, flt := { s1.flt with stuck := [] }
    pwr := { s1.pwr with radioUp := false, kept := (List.range 64).filter (fun n => radioBank n && s.radioKeeps n),
                         clearing := s1.pwr.clearing.filter (fun n => !radioBank n) } }
  (((s2.put F.PWR_DOM_RADIO_PWR 0).put F.SYS_BOOT_STAT_ENG_READY 0).put F.TMB_STAT_FOLLOW 0).setStrap s.hvl.strap

/-- The radio is in OFF or IDLE and is not leaving them. -/
def radioQuiet (s : State) : Bool :=
  decide (s.get F.RAD_STATE_STATE < 2) && !(s.on F.RAD_STATE_MOVING && decide (2 ≤ s.get F.RAD_STATE_TARGET))

/-- What holds the PLL: PLL_EN, the system clock, the radio outside OFF and IDLE (18 R419). -/
def pllHeld (s : State) : Bool :=
  s.on F.CLK_CFG_PLL_EN || decide (2 ≤ s.get F.CLK_STAT_SRC_ACTIVE) || (s.on F.CLK_STAT_SWITCHING && decide (2 ≤ s.get F.CLK_CFG_SYS_SRC)) ||
    !s.radioQuiet

/-- A PLL that nothing holds stops. -/
def pllSettle (s : State) : State := if s.on F.CLK_STAT_PLL_LOCK && !s.pllHeld then s.put F.CLK_STAT_PLL_LOCK 0 else s

/-- PWR.DOM.RADIO_ON has been cleared, and the radio is in OFF: the domain goes off (18 R404). -/
def offSettle (s : State) : State :=
  if s.pwr.radioUp && !s.on F.PWR_DOM_RADIO_ON && s.get F.RAD_STATE_STATE == 0 && !s.on F.RAD_STATE_MOVING then s.radioOff else s

/-- The device with everything at its reset value but what is outside its domains: waiting commands, answers already given, the variant,
flash, the OTP memory, the free values' counter, and of memory and registers what `mem` and `reg` name. -/
def rebuilt (s : State) (reg mem : Nat → Bool) : State :=
  let r := State.reset
  let k := (s.keepRegs reg).keepMem (fun a => flashMem a || mem a)
  { r with
    pending := s.pending, variant := s.variant, out := s.out, freeCtr := s.freeCtr, outUsed := s.outUsed, regs := k.regs, bank := k.bank, mem := k.mem
    flt := { r.flt with badWords := k.flt.badWords }, flash := { r.flash with undef := s.flash.undef }
    sec := { r.sec with otp := s.sec.otp, secret := s.sec.secret }, hvl := { r.hvl with strap := s.hvl.strap } }

/-- The state of the system, APC, NTC and radio domains is lost, the base note domain keeps its own: Standby and Dormant (18 R405, R407).
The debug grant lasts until a reset (12 R318), and a wake is none. -/
def systemOff (s : State) : State :=
  let s1 := s.rebuilt (fun a => noteReg a || inPages basePage a) (fun _ => false)
  let s2 := { s1 with
    count := s.count, alarms := s.alarms, lpts := s.lpts, lptPend := s.lptPend, wdtFeed := s.wdtFeed
    pages := (s.keepPages basePage).pages, fabric := { s1.fabric with held := s.fabric.held }
    sec := { s1.sec with granted := s.sec.granted }, pwr := { s1.pwr with state := s.pwr.state, wakes := s.pwr.wakes }
    boot := { s1.boot with bootSeal := s.boot.bootSeal, cause := 0 }, resetReq := s.resetReq }
  ((((s2.put F.PWR_CFG_EXT_REG (s.get F.PWR_CFG_EXT_REG)).put F.SEC_AUTH_STAT_DBG_FAILS (s.get F.SEC_AUTH_STAT_DBG_FAILS)).put
    F.TMB_STAT_SLOW_SRC 0).put F.TMB_STAT_FOLLOW 0).setStrap s.hvl.strap

/-- What a chip reset leaves (19 R431, R432): after POR and BOR nothing but flash and OTP, after the others also the base note records and
the APC and NTC SRAM. -/
def chipState (s : State) (notes : Bool) : State :=
  let s1 := s.rebuilt (fun a => if notes then noteReg a else a == Reg.GPIO_IN) (fun a => notes && coreSram a)
  if notes then
    let s2 := { s1 with count := (s.count + 255) / 256 * 256 % 2 ^ 48, boot := { s1.boot with bootSeal := s.boot.bootSeal }
                        pages := s1.pages.set P.WKP { s1.page P.WKP with reference := (s.page P.WKP).reference } }
    ((s2.put F.WDT_STAT_LAST_EXP (s.get F.WDT_STAT_LAST_EXP)).put F.SEC_AUTH_STAT_DBG_FAILS (s.get F.SEC_AUTH_STAT_DBG_FAILS)).put
      F.PWR_CFG_EXT_REG (s.get F.PWR_CFG_EXT_REG)
  else s1

end State

end Sys2Proof.Machine
end

