-- ==== Sys2Proof/Machine/Radio.lean ====
section
/-! DEFINITION. The radio state machine (05 R120 to R141): acceptance of commands, transitions, queueing, calibration. -/

namespace Sys2Proof.Machine

/-- Radio opcodes (05 R128). -/
def opIdle : Nat := 0
def opArmRx : Nat := 1
def opRx : Nat := 2
def opRxMulti : Nat := 3
def opTx : Nat := 4
def opTxCca : Nat := 5
def opCal : Nat := 6
def opWhiff : Nat := 7
def opPretune : Nat := 8
def opAbort : Nat := 9
def opOff : Nat := 10

/-- A cell of the acceptance table (05 R129): 0 refused, 1 accepted, 2 queued; columns OFF to CAL. -/
def acceptCell (op st : Nat) : Nat :=
  (match op with
   | 0 => [1, 1, 1, 1, 1, 2, 2]
   | 1 => [0, 1, 1, 1, 1, 2, 2]
   | 2 => [0, 1, 1, 1, 1, 2, 2]
   | 3 => [0, 1, 1, 1, 1, 2, 2]
   | 4 => [0, 1, 1, 1, 1, 2, 1]
   | 5 => [0, 1, 1, 1, 1, 2, 1]
   | 6 => [0, 1, 2, 2, 2, 2, 0]
   | 7 => [0, 1, 1, 1, 1, 2, 2]
   | 8 => [0, 1, 1, 1, 1, 2, 0]
   | 9 => [0, 1, 1, 1, 1, 1, 1]
   | _ => [1, 1, 0, 0, 0, 0, 0]).getD st 0

/-- The durations of the calibration steps in µs (05 R138). -/
def calUs (b : Nat) : Nat := [12, 20, 40, 48, 36, 24].getD b 0

/-- The duration of a set of calibration steps. -/
def calDur (mask : Nat) : Nat := (List.range 6).foldl (fun a b => a + (if mask.testBit b then calUs b else 0)) 0

namespace State

/-- Change the radio's part that is no register. -/
def setRadio (s : State) (g : Radio → Radio) : State := { s with radio := g s.radio }

/-- The state is entered: STATE, no transition any more, STATE_CHG and its event (05 R122, R142); outside TX, ANT_SEL takes the code of the
state (04 R102). -/
def enterState (s : State) (v : Nat) : State :=
  let s1 := (((((s.put F.RAD_STATE_STATE v).put F.RAD_STATE_MOVING 0).setPageSt P.RAD v).flag P.RAD 3).event P.RAD 0).pllSettle
  let s2 : State := { s1 with radio := { s1.radio with lockWait := false } }
  if v = 5 then s2 else s2.antQuiet

/-- A transition begins (05 R122). -/
def moveTo (s : State) (v : Nat) : State := (s.put F.RAD_STATE_MOVING 1).put F.RAD_STATE_TARGET v

/-- An interim status of a software command (05 R125). -/
def interim (s : State) (src : OpSrc) (status : Nat) : State :=
  match src with
  | .software n => if n = s.radio.cmdNo then (s.put F.RAD_CMD_STAT_STATUS status).put F.RAD_CMD_STAT_FINAL 0 else s
  | _ => s

/-- SLIP of the last software command, or of a timeline entry, shows that it starts late (05 R127); it stands until the final status. -/
def showSlip (s : State) (src : OpSrc) (slip : Bool) : State :=
  match src with
  | .software n => if n = s.radio.cmdNo then s.put F.RAD_CMD_STAT_SLIP (boolNat slip) else s
  | .entry i => { s with timeline := modifyAt s.timeline i (fun e => { e with slip := slip }) }
  | .internal => s

/-- Q_OCC shows the queue slot (05 R142). -/
def showQueue (s : State) : State := s.put F.RAD_CMD_STAT_Q_OCC (boolNat s.radio.queue.isSome)

/-- A transmission past its TE: its frame has ended, and its exit is under way (05 R122). -/
def txPast (s : State) : Option TxJob :=
  match s.radio.tx with
  | some t => if t.stage = .rampDown ∨ t.stage = .tail then some t else none
  | none => none

/-- Whether the timeline entry that issued an operation still has repetitions before it. -/
def repeats (s : State) (src : OpSrc) : Bool := match src with | .entry i => (s.timeline.getD i entry0).reps != 0 | _ => false

/-- The operation in progress is replaced by a later accepted command: it ends DONE (05 R130; log entry 10), a transmission past its TE with
its own status, and the command takes the place of its exit. -/
def supersede (s : State) : State :=
  let (status, at_) := match s.txPast with
    | some t => (match t.src with | .op => (t.status, t.te) | .ack _ => (1, s.radio.lastRes.endAt))
    | none => (1, s.count)
  let s1 := match s.radio.op with
    | some o => (s.endSrc o.src status o.slip false false false at_).setRadio (fun r => { r with op := none, waitAck := false, winShut := false })
    | none => s
  let again := match s.radio.op with | some o => s.repeats o.src | none => false
  match s1.txPast with
  | some t => s1.setRadio (fun r => { r with tx := some { t with displaced := true, keep := t.keep || again } })
  | none => s1

/-- The radio's operation becomes `op`, ACCEPTED. -/
def takeOp (s : State) (op : RadOp) : State :=
  (s.supersede.setRadio (fun r => { r with op := some op, lastRes := end0, resOf := op.src, winSync := false })).interim op.src 0

/-- A Whiff in progress ends with a status and no result. -/
def whiffEnd (s : State) (status : Nat) : State :=
  match s.radio.whiff with
  | some w => s.whiffDrop.endPlain w.op.src status
  | none => s

/-- The receiver is left (05 R129 note 1): receptions end ABORTED, a Whiff ends ABORTED, every slice and lane is released. -/
def leaveRx (s : State) : State := ((s.loseAll 5).whiffEnd 5).releaseAll

/-- A transition to IDLE, ARMED_RX, TX_READY or OFF. -/
def goTo (s : State) (v : Nat) : State :=
  if v = 2 then
    (if s.pageSt P.RFE = 0 then s.rxStart.moveTo 2 else ((s.loseAll 5).releaseAll).moveTo 2)
  else s.leaveRx.moveTo v

/-- The exit RX after a transmission or a CCA (05 R141): the slices search on the command's descriptor. A descriptor that fails its
check or finds no unit leaves the receiver in RX with no unit assigned (log entry 12). -/
def exitRx (s : State) (d : Nat) : State :=
  let s0 := s.rxStart
  let s1 :=
    if s0.descReason d ≠ 0 then (s0.descErr d (s0.descReason d)).planSlots []
    else match s0.assign [d] with
      | .inl (e, _) => (if e = 5 then s0.descErr d 7 else s0).planSlots []
      | .inr plan => s0.planSlots plan
  s1.moveTo 3

/-- EXIT_STATE at the end of an operation (05 R141): 2 keeps a reception's units, 4 is the exit RX of a transmission. -/
def exitTo (s : State) (ex desc : Nat) : State :=
  if ex = 0 then (s.goTo 1).crsStop
  else if ex = 1 then (if s.judged = 2 then s else s.goTo 2)
  else if ex = 2 then (if s.judged = 3 then s else s.rxStart.moveTo 3)
  else if ex = 4 then s.exitRx desc
  else
    let s1 := s.goTo 4
    if s1.crs.chan.isNone then ((s1.crsRequest .txTune (s1.descRegs desc).freq).1).setRadio (fun r => { r with lockWait := true }) else s1

/-- A software command or a timeline operation waits for the present operation's end (05 R132, 09 R227). -/
def waits (s : State) : Bool :=
  (s.radio.queue.isSome && !s.radio.heldTime) || (s.radio.tslot.isSome && s.radio.tBlock.isSome)

/-- The operation that waits for the end of the present one, the timeline's first (05 R132; 09 R227). -/
def nextOp (s : State) : Option RadOp :=
  match s.radio.tslot with
  | some o => if s.radio.tBlock.isSome then some o else s.radio.queue
  | none => s.radio.queue

/-- Whether a transmission waits for the end of the present operation. -/
def txWaits (s : State) : Bool := s.waits && (match s.nextOp with | some o => o.opcode == opTx || o.opcode == opTxCca | none => false)

/-- Whether a receive command waits for it (05 R135). -/
def rxWaits (s : State) : Bool :=
  s.waits && (match s.nextOp with | some o => o.opcode == opArmRx || o.opcode == opRx || o.opcode == opRxMulti || o.opcode == opWhiff | none => false)

/-- The exit of a transmission (05 R141): 4 is the exit RX of a command, 2 keeps a reception's units. After an acknowledgement it is that of
the receive operation that waits for it. -/
def jobExit (s : State) (t : TxJob) : Nat :=
  match t.src with
  | .op => if t.exit = 2 then 4 else t.exit
  | .ack _ => (match s.radio.op, s.radio.waitAck with
    | some o, true => o.exit
    | _, _ => t.exit)

/-- The state that an exit enters. -/
def exitState (ex : Nat) : Nat := if ex = 0 then 1 else if ex = 1 then 2 else if ex = 3 then 4 else 3

/-- The transition out of TX begins at TE (05 R122): MOVING and TARGET show the exit, unless a waiting command replaces it (R133) or another
transmission of the radio follows. -/
def exitBegins (s : State) (t : TxJob) : State :=
  if s.waits || s.radio.txNext.isSome then s
  else
    let ex := s.jobExit t
    (s.moveTo (exitState ex)).setRadio (fun r => { r with turnRx := ex == 1 || ex == 2 || ex == 4 })

/-- The end of an operation: its exit, or the waiting command in its place (05 R133, R141). -/
def opExit (s : State) (ex desc : Nat) : State :=
  if s.waits then s.setRadio (fun r => { r with follow := some (ex, desc) }) else s.exitTo ex desc

/-- CAL is entered (05 R120, R138): the steps use the carrier synthesiser, so that its lock is lost. -/
def calEnter (s : State) : State := (s.crsStop.put F.RAD_CAL_STAT_RUNNING 1).enterState 6

/-- A calibration starts (05 R122, R138): at once from IDLE, otherwise when the radio has reached IDLE on its way. -/
def calStart (s : State) (mask : Nat) (src : OpSrc) : State :=
  let s1 := s.setRadio (fun r => { r with cal := some ⟨mask % 64, src⟩, follow := none })
  if s1.radioState = 1 ∧ ¬ s1.on F.RAD_STATE_MOVING then s1.calEnter else s1.moveTo 6

/-- A calibration is stopped (05 R140): the step in progress and every later one is INCOMPLETE; a commanded one ends INCOMPLETE. -/
def calStop (s : State) : State :=
  match s.radio.cal with
  | none => s
  | some c =>
    let s1 := ((s.put F.RAD_CAL_STAT_INCOMPLETE (s.get F.RAD_CAL_STAT_INCOMPLETE ||| c.steps)).put F.RAD_CAL_STAT_RUNNING 0).put
      F.RAD_CAL_STAT_DUE 1
    let s2 := (s1.flag P.RAD 2).setRadio (fun r => { r with cal := none })
    match c.src with
    | .internal => s2
    | src => (s2.endPlain src 9).setRadio (fun r => { r with op := none })

/-- A transmit command pre-empts a calibration (05 R140): the radio is in IDLE again, or on its way to it. -/
def calPreempt (s : State) : State := if s.radioState = 6 then s.calStop.enterState 1 else s.calStop.moveTo 1

/-- The queued or held software command and the timeline slot's operation end with a status (05 R129). -/
def dropWaiting (s : State) (status : Nat) : State :=
  let s1 := match s.radio.queue with
    | some o => s.endPlain o.src status
    | none => s
  let s2 := match s1.radio.tslot with
    | some o => s1.endPlain o.src status
    | none => s1
  (s2.setRadio (fun r => { r with queue := none, heldTime := false, tslot := none, tBlock := none })).showQueue

/-- A committed acknowledgement that has not ended. -/
def ackCommitted (s : State) : Bool := s.ctxs.any (fun c => c.busy && c.committed)

/-- A transmission is cut (04 R104): on the way to or on air it ramps down and ends with the status; before its sequence it is
not sent. The detector measures only a frame that reaches its end (04 R112; log entry 105). -/
def txCut (s : State) (status : Nat) : State :=
  match s.radio.tx with
  | none => s
  | some t =>
    if t.stage = .sequence ∨ t.stage = .rampUp ∨ t.stage = .onAir then
      (let t1 := { t with stage := .rampDown, status := status, te := s.count }
       ((s.setRadio (fun r => { r with tx := some t1 })).setPageSt P.RTX 4).exitBegins t1)
    else if t.stage = .wait ∨ t.stage = .cca then
      (let s1 := match s.crs.held with
        | some ⟨.txTune, _, _⟩ => s.crsHold none
        | _ => s
       s1.setRadio (fun r => { r with tx := none }))
    else s

/-- ABORT takes effect (05 R129 notes 6 to 8). -/
def abortNow (s : State) (op : RadOp) : State :=
  let s1 := s.dropWaiting 5
  if s1.judged = 1 then s1.endPlain op.src 1
  else
    let s2 := s1.calStop
    let s3 := match s2.radio.op with
      | some o => s2.endPlain o.src 5
      | none => s2
    let s4 := (s3.setRadio (fun r => { r with op := none, waitAck := false, winShut := false, follow := none, txNext := none })).txCut 5
    ((s4.leaveRx.moveTo 1).setRadio (fun r => { r with op := some op })).interim op.src 0

/-- A queueable command waits (05 R129, R132; 09 R227): a timeline operation in the timeline slot, a software command in the queue
slot, refused when that is occupied. -/
def queueOp (s : State) (op : RadOp) (block : Nat) : State :=
  match op.src with
  | .entry _ => s.setRadio (fun r => { r with tslot := some op, tBlock := some block })
  | _ =>
    if s.radio.queue.isSome then s.endPlain op.src 2
    else ((s.setRadio (fun r => { r with queue := some op, heldTime := false, qBlock := block })).showQueue).interim op.src 3

/-- The fetch of a secured transmission (10 R267): status 0 with U, or ABORTED. A remote home's answer comes from outside: whether its entry
qualifies and its U are free values (log entry 1), U never the same twice. -/
def secureFetch (s : State) (head : Nat) : Nat × Option Nat × State :=
  if !s.chainSecure head then (0, none, s)
  else
    let g := s.txWord head % 2 ^ 17
    if s.badIndex g then (5, none, s)
    else if g / 16384 ≠ s.myPos then
      (if s.homeUp (g / 16384) then
        (match s.freeVal with
         | (r, s1) => if r.toNat % 2 = 0 then (match s1.remoteU g with | (u, s2) => (0, some u, s2)) else (5, none, s1))
       else (5, none, s))
    else
      let i := g % 16384
      if !s.entUsable i || s.entBad i || !s.entFlag i efValid || s.entFlag i efAlias || s.entFlag i efBlocked || s.entFlag i efRetired
      then (5, none, s)
      else if !(s.entW i 2).testBit 28 then (5, none, s.keyMiss)
      else if s.outSpent i then (5, none, s)
      else
        let (u, s1) := s.fetchOut i
        match s1.chainHdr head with
        | .ok h =>
          (match s1.frameKey h.keyMode (keyIndex h) (s1.entW i 2 / 65536) with
           | (some _, s2) => (0, some u, s2)
           | (none, s2) => (5, some u, s2.keyMiss))
        | _ => (0, some u, s1)

/-- The next transmission's T0 lies at or after `t` (05 R127). -/
def notBeforeT0 (s : State) (t : Nat) : State :=
  s.setRadio (fun r => { r with minT0 := some (match r.minT0 with | some x => laterOf x t | none => t) })

/-- The earliest T0 of a transmission accepted now (05 R127, R133, R140). A timed one whose channel the synthesiser is already tuning to is
judged by the lock at its T0 − 8 µs (04 R97, R99). -/
def earliestT0 (s : State) (freq : Nat) (fromCal timed : Bool) : Nat :=
  let near := s.crsLockedTo freq || (timed && s.crs.chan == some freq && s.on F.SYN_CRS_STAT_SETTLING)
  let a := addTicks s.count (usTicks (if fromCal then 34 else if near then 8 else 32))
  match s.radio.minT0 with
  | some m => laterOf a m
  | none => a

/-- Speculative acknowledgements whose air time would overlap a committed transmission squash (01 R22, 05 R131). -/
def squashOverlaps (s : State) (t0 len : Nat) : State :=
  (List.range s.ctxs.length).foldl (fun t k =>
    match t.ctxs[k]? with
    | some c =>
      let ackEnd := addTicks c.t0 (t.ackTicks c)
      if c.busy && !c.committed && notBefore ackEnd t0 && notBefore (addTicks t0 len) c.t0 then t.squashCtx k 7 else t
    | none => t) s

/-- The window of a channel assessment in ticks (06 R149; 09 R235): CCA_LEN symbols of the mode, 0 acts as 8. -/
def ccaTicks (c : DescCopy) : Nat := nsTicks ((if bitsOf c.cca 16 8 = 0 then 8 else bitsOf c.cca 16 8) * symNs c)

/-- T0 of a TX_CCA whose assessment starts at `start` (05 R134): 36 µs after the end of its window. -/
def ccaT0 (c : DescCopy) (start : Nat) : Nat := addTicks start (ccaTicks c + usTicks 36)

/-- The time to the start of an assessment on descriptor `d` (05 R122, R136; 06 R144; 09 R236): none where a running stream serves it,
the fill of a channel's filters for another stream, and the receiver's start before that. -/
def ccaLead (s : State) (d : Nat) : Nat :=
  if s.pageSt P.RFE = 0 then s.rxLead + usTicks 4
  else if (match s.unitOf d with | some u => (s.slot u).stream.isSome | none => false) then 0 else usTicks 4

/-- The start of an assessment accepted now. -/
def ccaStart (s : State) (d : Nat) : Nat := addTicks s.count (s.ccaLead d)

/-- The descriptors of a receive command. -/
def opDescs (op : RadOp) : List Nat :=
  if op.opcode = opRxMulti then (List.range 64).filter op.mask.testBit else [op.desc]

/-- The path a transmission names by its channel and its power slot (04 R90), if they leave no choice. -/
def namedPath (s : State) (op : RadOp) : Option Nat :=
  if in24 (s.descRegs op.desc) then some 0
  else
    let pol := bitsOf (s.reg (Reg.RTX_PWR_SLOT op.slot)).toNat 8 2
    if pol = 1 then some 1 else if pol = 2 then some 2 else none

/-- The units that an operation names: the preferred units of forced descriptors (06 R147), the path of a transmission. -/
def namedUnits (s : State) (op : RadOp) : List Nat :=
  if op.opcode = opRx ∨ op.opcode = opRxMulti then
    (opDescs op).filterMap (fun d => let c := s.descRegs d; if c.prefForce then some (rxUnitCode (prefUnit c)) else none)
  else if op.opcode = opTx ∨ op.opcode = opTxCca then (match s.namedPath op with | some p => [0x0300 + p] | none => [])
  else []

/-- The status of an operation that names an absent or a retired unit, else 0 (00 R9; 09 R223). -/
def unitBar (s : State) (op : RadOp) : Nat :=
  let us := s.namedUnits op
  if us.any (fun u => !unitPresent s.variant u) then 7 else if us.any s.isRetired then 6 else 0

/-- The new transmission takes its place, behind one that is past its TE. -/
def putTx (s : State) (job : TxJob) (minT0 : Option Nat) : State :=
  s.setRadio (fun r => if s.txPast.isSome then { r with txNext := some job, minT0 := minT0, follow := none }
    else { r with tx := some job, minT0 := minT0, follow := none })

/-- What a refused tune waits for: the speculation whose tune holds the place, or the place itself (04 R529). -/
def placeBlock (s : State) : Nat :=
  match s.crs.held with
  | some ⟨.ackTune k, _, _⟩ => 16 + k
  | _ => 9

/-- A TX or TX_CCA is accepted (05 R127, R131, R136, R140; 04 R95, R529). A failing descriptor or a rate that the mode has not changes
nothing (06 R145; 07 R169); a calibration and a path test stop after that. -/
def cmdTx (s : State) (op : RadOp) (st : Nat) : State :=
  let cca := op.opcode = opTxCca
  let reason := if cca then s.descReason op.desc else 0
  let c := s.descRegs op.desc
  if reason ≠ 0 then (s.descErr op.desc reason).endPlain op.src 5
  else if (c.modeCode = 8 ∧ ofdmRate c.rateIx (c.aux % 8) = 0) ∨ (c.modeCode = 9 ∧ bitsOf c.aux 12 2 = 3) then
    s.endSrc op.src 5 op.slip false false true s.count
  else if s.unitBar op ≠ 0 then s.endPlain op.src (s.unitBar op)
  else
    let s0 := (if st = 6 then s.calPreempt else s).bstStopPath
    match (match op.u with | some _ => (0, op.u, s0) | none => s0.secureFetch op.arg) with
    | (e, u, s1) =>
      if e ≠ 0 then s1.endPlain op.src e
      else
        let first := s1.earliestT0 c.freq (st == 6) op.timed
        let late := op.timed && (if cca then
            !notBefore op.instant (s1.ccaStart op.desc)
          else !notBefore op.instant first)
        if late then s1.endPlain op.src 4
        else
          let t0 := if cca then ccaT0 c (if op.timed then op.instant else s1.ccaStart op.desc) else if op.timed then op.instant else first
          let s2 := s1.squashOverlaps t0 (s1.airTicks c (s1.txLength c op.arg))
          let (s3, r) := if s2.crs.chan == some c.freq && (s2.on F.SYN_CRS_STAT_LOCK || s2.on F.SYN_CRS_STAT_SETTLING)
            then (s2, TuneEnd.tuned) else s2.crsRequest .txTune c.freq
          match r with
          | .outOfBand => s3.endPlain op.src 5
          | .refused => s3.queueOp { op with u := u } s3.placeBlock
          | _ =>
            let job : TxJob := ⟨.op, if cca then .cca else .wait, op.desc, c, op.slot, op.arg, op.exit,
              if op.timed && !cca then some op.instant else none, 0, 0, 0, 1, false, false, [], s3.pageSt P.RFE != 0, 0, 0, [], false, u, none, false, t0, .bits []⟩
            let s4 := (s3.takeOp op).putTx job (if cca || op.timed then none else some first)
            let s5 := if cca || op.exit = 1 || op.exit = 2 then s4.rxStart else s4
            s5.moveTo 5

/-- An RX or RX_MULTI is accepted (05 R129 note 2; 06 R145, R147). Every descriptor of the set is checked, in ascending order, so that
DESC_ERR names the last that failed (log entry 99). -/
def cmdRx (s : State) (op : RadOp) (st : Nat) : State :=
  let ds := opDescs op
  let failing := ds.filter (fun d => s.descReason d != 0)
  if !failing.isEmpty then (failing.foldl (fun t d => t.descErr d (t.descReason d)) s).endPlain op.src 5
  else
    match s.assign ds with
    | .inl (e, d) => (if e = 5 then s.descErr d 7 else s).endPlain op.src e
    | .inr plan =>
      let s1 := (s.takeOp op).setRadio (fun r => { r with winShut := false, lastRes := end0 })
      if st = 3 then (s1.planSlots plan).interim op.src 0
      else (((if s1.pageSt P.RFE = 0 then s1.rxStart else s1).planSlots plan).setRadio (fun r => { r with follow := none })).moveTo 3

/-- A WHIFF is accepted (03 R81, 05 R129): in IDLE and TX_READY the receiver starts; one that was queued behind a transmission leaves the
radio in ARMED_RX where the receiver runs (log entry 74). A Whiff in progress ends ABORTED (log entry 98). -/
def cmdWhiff (s : State) (op : RadOp) (st : Nat) : State :=
  let s0 := s.whiffEnd 5
  let s1 := if st = 1 ∨ st = 4 then s0.supersede.rxStart.moveTo 2 else if s0.radioState = 5 ∧ s0.radio.follow.isSome then s0.moveTo 2 else s0
  ((s1.setRadio (fun r => { r with
      whiff := some ⟨0, [], 0, 0, false, false, false, st == 1 || st == 4, op, 0, 0, 0⟩, follow := none })).put F.RFE_WHIFF_STAT_VALID 0).interim
    op.src 0

/-- A PRETUNE is accepted (05 R129 note 5; 04 R529). -/
def cmdPretune (s : State) (op : RadOp) (st : Nat) : State :=
  match s.crsRequest (.pretune op.src) (s.descRegs op.desc).freq with
  | (s1, .outOfBand) => s1.endPlain op.src 5
  | (s1, .refused) => s1.endPlain op.src 5
  | (s1, .held) => if st = 1 then ((s1.takeOp op).moveTo 4).setRadio (fun r => { r with follow := none }) else s1.interim op.src 0
  | (s1, .tuned) => if st = 1 then ((s1.takeOp op).moveTo 4).setRadio (fun r => { r with follow := none }) else s1.endPlain op.src 1

/-- An IDLE is accepted: from OFF it starts the radio, asking for HFXO where that does not run (05 R123). -/
def cmdIdle (s : State) (op : RadOp) (st : Nat) : State :=
  if st = 1 ∧ s.radio.follow.isNone then s.endPlain op.src 1
  else if st = 0 ∧ ([0, 1, 6] : List Nat).any (fun e => (s.eng.getD e eng0).failed) then s.endPlain op.src 6
  else if st = 0 then
    (let s1 := (s.takeOp op).moveTo 1
     if s1.on F.CLK_STAT_HFXO_OK then s1
     else { s1.setRadio (fun r => { r with hfxoWait := true }) with pwr := { s1.pwr with hfxoReq := true } })
  else ((s.takeOp op).goTo 1).setRadio (fun r => { r with follow := none })

/-- The pages a command needs (02 R52). -/
def opPages (s : State) (op : RadOp) : List Nat :=
  if op.opcode = opArmRx then [P.RFE, P.SYN, P.CHN]
  else if op.opcode = opRx ∨ op.opcode = opRxMulti then s.rxPages (opDescs op)
  else if op.opcode = opTx then s.txPages op.desc op.arg
  else if op.opcode = opTxCca then [P.RFE, P.CHN] ++ s.txPages op.desc op.arg
  else if op.opcode = opCal then [P.RFE, P.RTX, P.SYN]
  else if op.opcode = opWhiff then [P.RFE, P.SYN, P.CHN, P.FRM]
  else if op.opcode = opPretune then [P.SYN]
  else []

/-- The engines a command needs (01 R17; 21 R464): the RCP, and for a reception NIB_B. -/
def opEngines (op : RadOp) : List Nat :=
  if op.opcode = opIdle ∨ op.opcode = opAbort ∨ op.opcode = opOff then []
  else if op.opcode = opRx ∨ op.opcode = opRxMulti then [1, 6]
  else [6]

/-- The state a command is judged by: while a queued command follows a transmission, ARMED_RX if the receiver runs and IDLE if not, and
IDLE for a CAL, which no pass through the exit state may hold up (05 R133; log entry 74). -/
def judgedBy (s : State) (o : Nat) : Nat :=
  match s.radio.follow with
  | some _ => if s.pageSt P.RFE = 0 ∨ o = opCal then 1 else 2
  | none => s.judged

/-- A command is judged (05 R129, R131; 18 R421): by the state first, then by the pages and engines it needs, and last, when it is carried
out, by the units it names (00 R9; log entry 100). -/
def judge (s : State) (op : RadOp) : State :=
  let o := op.opcode
  let st := s.judgedBy o
  let cell := acceptCell o st
  if cell = 2 then s.queueOp op st
  else if (o = opTx ∨ o = opTxCca) ∧ s.ackCommitted ∧ ¬ s.txSending then s.queueOp op 8
  else if cell = 0 then s.endPlain op.src 2
  else if !s.pagesOn (s.opPages op) || (opEngines op).any s.engHeld then s.endPlain op.src 6
  else if st = 1 ∧ o ≠ opIdle ∧ o ≠ opAbort ∧ o ≠ opOff ∧ ¬ s.radioClock then (s.flag P.CLK 4).endPlain op.src 6
  else if o = opIdle then s.cmdIdle op st
  else if o = opArmRx then
    (if st = 2 ∧ s.radio.follow.isNone then s.endPlain op.src 1 else ((s.takeOp op).goTo 2).setRadio (fun r => { r with follow := none }))
  else if o = opRx ∨ o = opRxMulti then s.cmdRx op st
  else if o = opTx ∨ o = opTxCca then s.cmdTx op st
  else if o = opCal then (s.takeOp op).calStart op.arg op.src
  else if o = opWhiff then s.cmdWhiff op st
  else if o = opPretune then s.cmdPretune op st
  else if o = opAbort then
    (if s.ackCommitted ∧ st ≠ 1 then (s.setRadio (fun r => { r with abortOp := some op })).interim op.src 0 else s.abortNow op)
  else if st = 0 then s.endPlain op.src 1
  else ((s.takeOp op).setRadio (fun r => { r with hfxoWait := false })).moveTo 0

/-- A timed command is held (05 R127, R132; 09 R223, R227), unless it names an absent or a retired unit: a transmission pre-empts a calibration, fetches its entry and squashes
overlapping speculations at acceptance. -/
def holdTimed (s : State) (op : RadOp) : State :=
  let isEntry := match op.src with | .entry _ => true | _ => false
  if !isEntry && s.radio.queue.isSome then s.endPlain op.src 2
  else if s.unitBar op ≠ 0 then s.endPlain op.src (s.unitBar op)
  else
    let tx := op.opcode = opTx ∨ op.opcode = opTxCca
    let s0 := if tx then (if s.judged = 6 then s.calPreempt.notBeforeT0 (addTicks s.count (usTicks 34)) else s).bstStopPath else s
    match (if tx ∧ s0.pagesOn (s0.opPages op) then s0.secureFetch op.arg else (0, none, s0)) with
    | (e, u, s1) =>
      if e ≠ 0 then s1.endPlain op.src e
      else
        let c := s1.descRegs op.desc
        let s2 := if tx then
            s1.squashOverlaps (if op.opcode = opTx then op.instant else ccaT0 c op.instant) (s1.airTicks c (s1.txLength c op.arg))
          else s1
        let op1 := { op with u := u }
        if isEntry then s2.setRadio (fun r => { r with tslot := some op1, tBlock := none })
        else ((s2.setRadio (fun r => { r with queue := some op1, heldTime := true })).showQueue).interim op.src 0

/-- Opcodes whose EXIT_STATE column is a dash accept only 0 (05 R126, R128; log entry 11). -/
def noExit (o : Nat) : Bool := o == 0 || o == 1 || o == 6 || o == 8 || o == 9 || o == 10

/-- A command that is malformed in itself (05 R126). -/
def malformed (s : State) (op : RadOp) : Bool :=
  let n := ((List.range 64).filter op.mask.testBit).length
  decide (10 < op.opcode) || (noExit op.opcode && op.exit != 0) ||
    (op.opcode == opRxMulti && (n == 0 || decide (nSlices s.variant < n))) || (op.opcode == opCal && op.arg % 64 == 0)

/-- A command is evaluated (05 R126, R127, R129). During a replay only ABORT acts, which ends the replay (22 R501). -/
def submit (s : State) (op : RadOp) : State :=
  if s.malformed op then s.endSrc op.src 5 false false false true s.count
  else if s.pageSt P.REC = 4 then
    (if op.opcode = opAbort then ((s.setPageSt P.REC 3).put F.REC_STAT_REPLAY_RES 5).endPlain op.src 1 else s.endPlain op.src 2)
  else if op.timed then s.holdTimed op
  else s.judge op

/-- A write to RAD.CMD takes effect (05 R124, R125): the echo in RAD.CMD_STAT, a new command number, the recorder's record. -/
def radTaken (s : State) (w : Nat) : State :=
  let s1 := (s.setRadio (fun r => { r with evalOpen := true, cmdNo := r.cmdNo + 1 })).setReg Reg.RAD_CMD_STAT
    (BitVec.ofNat 32 (w / 2 ^ 24 * 2 ^ 24 + s.get F.RAD_CMD_STAT_Q_OCC * 2 ^ 12 + w % 16 * 2 ^ 8))
  s1.record 0x06 0 (w + s1.get F.RAD_CMD_ARG_ARG * 2 ^ 32)

/-- The command that a write of RAD.CMD spells, with its arguments as they stand (05 R124, R128). -/
def cmdOp (s : State) (w : Nat) : RadOp :=
  { src := .software s.radio.cmdNo, opcode := w % 16, desc := bitsOf w 8 6, exit := if w % 16 = 3 then 0 else bitsOf w 4 2, slot := bitsOf w 16 4,
    arg := s.get F.RAD_CMD_ARG_ARG
    mask := (s.reg Reg.RAD_RX_MASK_LO).toNat + (s.reg Reg.RAD_RX_MASK_HI).toNat * 2 ^ 32
    timed := w.testBit 6
    instant := (s.reg Reg.RAD_CMD_AT_LO).toNat + s.get F.RAD_CMD_AT_HI_AT_HI * 2 ^ 32
    slip := false, u := none }

/-- A write to RAD.CMD (05 R124, R125; 02 R52): evaluated with the arguments as they stand. A second write within the 0.25 µs of
evaluation is lost; whether a write comes so soon is a free value (log entry 1). -/
def radCmd (s : State) (w : Nat) : State :=
  let (lost, s0) := if s.radio.evalOpen then (match s.freeVal with | (r, t) => (r.toNat % 2 == 1, t)) else (false, s)
  if lost then s0.flag P.RAD 1
  else
    let s2 := s0.radTaken w
    if !s2.enabled P.RAD then
      ((s2.put F.RAD_CMD_STAT_STATUS 2).put F.RAD_CMD_STAT_FINAL 1).raiseFlag P.RAD 0
    else s2.submit (s2.cmdOp w)

/-- An ABORT by the hardware when RAD is disabled outside OFF and IDLE (02 R52). -/
def radDisabled (s : State) : State :=
  let op : RadOp := ⟨.internal, opAbort, 0, 0, 0, 0, 0, false, 0, false, none⟩
  if s.judged = 0 ∨ s.judged = 1 then s
  else if s.ackCommitted then s.setRadio (fun r => { r with abortOp := some op })
  else s.abortNow op

/-- Whether the radio may leave OFF (05 R121 to R123; 19 R441): its domain on, HFXO stable, the engine code loaded. -/
def mayLeaveOff (s : State) : Bool :=
  s.pwr.radioUp && s.on F.CLK_STAT_HFXO_OK && s.engRuns 0 && s.engRuns 1 && s.engRuns 6 && !s.underTest 0x1400 && !s.underTest 0x1401

/-- The radio goes to OFF: both synthesisers and the receiver stop; relocks of the sample clock that have failed are over (03 R64). -/
def enterOff (s : State) : State :=
  let s1 := ({ s with radio := { s.radio with tx := none, txNext := none, turnRx := false, cal := none },
                      rfe := { s.rfe with scsDead := false } }).setPageSt P.RTX 0
  let s2 := ((s1.unblank.rxStop).crsStop).setRetry uRx 0
  ((s2.put F.SYN_SCS_STAT_LOCK 0).put F.SYN_SCS_STAT_SETTLING 0).enterState 0

/-- The operation of a command that only changes state ends DONE. -/
def finishMove (s : State) : State :=
  match s.radio.op with
  | some o =>
    if o.opcode = opIdle ∨ o.opcode = opArmRx ∨ o.opcode = opPretune ∨ o.opcode = opAbort ∨ o.opcode = opOff then
      (s.setRadio (fun r => { r with op := none })).endSrc o.src 1 o.slip false false false s.count
    else s
  | none => s

/-- The receiver runs. -/
def rxRunning (s : State) : Bool := s.pageSt P.RFE == 2 || s.pageSt P.RFE == 3

/-- The time of a command's transition before its instant (05 R122, R127), in ticks. -/
def opLead (s : State) (op : RadOp) : Nat :=
  let st := s.judged
  if op.opcode = opTx then usTicks 32
  else if op.opcode = opTxCca then s.ccaLead op.desc
  else if op.opcode = opWhiff then (if st = 1 ∨ st = 4 then s.rxLead else 0)
  else if op.opcode = opArmRx ∨ op.opcode = opRx ∨ op.opcode = opRxMulti then
    (if st = 1 ∨ st = 4 then s.rxLead
     else if st = 2 ∧ op.opcode ≠ opArmRx then usTicks 4
     else if st = 3 then (if op.opcode = opArmRx then usTicks 1 else usTicks 4)
     else 0)
  else 0

/-- A held timed operation is due: its transition begins, late ones with SLIP (05 R127). -/
def timedDue (s : State) (op : RadOp) : State :=
  let start := addTicks s.count (s.opLead op)
  let isTx := op.opcode = opTx ∨ op.opcode = opTxCca
  let slip := !isTx && start != op.instant % 2 ^ 48 && notBefore start op.instant
  (s.showSlip op.src slip).judge { op with slip := slip }

/-- Whether what blocks a waiting command has ended: `b` is a state, 8 a committed acknowledgement, 9 another transmission's tune in the held
place, 16 and up the speculation of a context, until its acknowledgement is sent or squashed. -/
def unblocked (s : State) (b : Nat) : Bool :=
  if b = 8 then !s.ackCommitted
  else if b = 9 then !s.placeTaken
  else if 16 ≤ b then !(s.ctxs.getD (b - 16) ctx0).busy
  else s.radio.follow.isSome || (!s.on F.RAD_STATE_MOVING && s.radioState != b)

/-- A waiting command is judged again; one that does not start after a transmission leaves the exit state to be taken (05 R132, R133). -/
def takeExit (s : State) : State :=
  match s.radio.follow with
  | none => s
  | some (ex, d) =>
    (s.setRadio (fun r => { r with follow := none })).exitTo ex d

end State

open State

/-- TIMED_COMMAND_DUE (05 R127): the start of the transition of the operation held in a slot falls due. -/
def execTimedCommandDue (slot : RadSlot) (s : State) : Host.Outcome State Fault Refusal :=
  .next (match slot with
    | .software =>
      (match s.radio.queue, s.radio.heldTime with
       | some op, true =>
         if notBefore (addTicks s.count (s.opLead op)) op.instant then
           ((s.setRadio (fun r => { r with queue := none, heldTime := false })).showQueue).timedDue op
         else s
       | _, _ => s)
    | .timeline =>
      (match s.radio.tslot, s.radio.tBlock with
       | some op, none =>
         if notBefore (addTicks s.count (s.opLead op)) op.instant then
           (s.setRadio (fun r => { r with tslot := none })).timedDue op
         else s
       | _, _ => s))

/-- QUEUED_COMMAND_EVAL (05 R132, R133): the state that blocked a waiting operation has ended; NIB_A's is judged before the queued
command. -/
def execQueuedCommandEval (s : State) : Host.Outcome State Fault Refusal :=
  .next (
    let s1 := match s.radio.tslot, s.radio.tBlock with
      | some op, some b => if s.unblocked b then (s.setRadio (fun r => { r with tslot := none, tBlock := none })).judge op else s
      | _, _ => s
    let s2 := match s1.radio.queue, s1.radio.heldTime with
      | some op, false =>
        if s1.unblocked s1.radio.qBlock then ((s1.setRadio (fun r => { r with queue := none })).showQueue).judge op else s1
      | _, _ => s1
    s2.takeExit)

/-- The radio has left OFF (05 R121, R122): the sample clock is locked with what was asked for, and the radio is in IDLE; one that a later
command sends on goes on from there. -/
def State.leaveOff (s : State) (t : Nat) : State :=
  let s1 := if s.on F.SYN_SCS_STAT_PENDING then s.scsApply false else s
  let s2 := ((s1.put F.SYN_SCS_STAT_LOCK 1).setPageSt P.RTX 1).enterState 1
  if t = 1 then s2.finishMove else s2.moveTo t

/-- TRANSITION_END (05 R122): the state being entered is reached. Leaving OFF needs HFXO, the domain and the engine code; a receive
state needs the running receiver; IDLE, TX_READY, CAL and OFF wait for the end of a transmission; TX is entered by its transmit sequence
instead, and a TX_READY without a target at the synthesiser's lock (R141). -/
def execTransitionEnd (s : State) : Host.Outcome State Fault Refusal :=
  .next (
    let t := s.get F.RAD_STATE_TARGET
    if !s.on F.RAD_STATE_MOVING ∨ (t = 0 ∧ s.txSending) then s
    else if t = 0 then s.enterOff.finishMove.offSettle
    else if s.radioState = 0 then (if s.mayLeaveOff && !s.radio.hfxoWait then s.leaveOff t else s)
    else if t = 5 then s
    else if t = 1 ∨ t = 4 then
      (if s.txSending || (t == 4 && s.radio.lockWait && !s.on F.SYN_CRS_STAT_LOCK && !s.crs.dead && s.on F.SYN_CRS_STAT_SETTLING) then s
       else
        let s1 := s.unblank.rxStop
        let aborts : Bool := (match s.radio.op with
          | some o => o.opcode == opAbort
          | none => false)
        let s2 := if t = 1 ∧ s.radioState = 4 ∧ aborts = false then s1.crsStop else s1
        (s2.enterState t).finishMove)
    else if t = 6 then (if s.txSending then s else s.unblank.rxStop.calEnter)
    else if s.rxRunning && !s.radio.turnRx then (s.enterState t).finishMove
    else s)

/-- RECEIVER_RUNNING (03 R80): the receiver start completes, once the sample clock is locked. -/
def execReceiverRunning (s : State) : Host.Outcome State Fault Refusal :=
  .next (if s.pageSt P.RFE = 1 ∧ s.on F.SYN_SCS_STAT_LOCK then s.setPageSt P.RFE 2 else s)

/-- CAL_STEP_DONE (05 R138): the first selected step still to run completes and writes its result; after the last the radio is in IDLE. LAST_TEMP is
the temperature of the last round of the sensors (log entry 101). -/
def execCalStepDone (hpGain : Half) (devErr : Byte) (s : State) : Host.Outcome State Fault Refusal :=
  .next (match s.radio.cal with
    | none => s
    | some c =>
      if s.radioState ≠ 6 then s
      else match (List.range 6).find? c.steps.testBit with
      | none => s
      | some b =>
        let s1 := ((s.putBit F.RAD_CAL_STAT_VALID b true).putBit F.RAD_CAL_STAT_INCOMPLETE b false).put F.RAD_CAL_STAT_LAST_TEMP
          (s.get F.TSN_LIVE_TEMP)
        let s2 := if b = 3 then (s1.put F.SYN_CRS_TPM_HP_GAIN hpGain.toNat).put F.SYN_CRS_TPM_DEV_ERR devErr.toNat else s1
        let left := c.steps - 2 ^ b
        if left ≠ 0 then s2.setRadio (fun r => { r with cal := some { c with steps := left } })
        else
          let s3 := (s2.setRadio (fun r => { r with cal := none, calDone := true })).put F.RAD_CAL_STAT_RUNNING 0
          let s4 := s3.put F.RAD_CAL_STAT_DUE (boolNat (s3.get F.RAD_CAL_STAT_INCOMPLETE != 0))
          let s5 := s4.enterState 1
          match c.src with
          | .internal => s5
          | src => (s5.setRadio (fun r => { r with op := none })).endPlain src 1)

/-- Whether a timeline entry of this device is due within `us` microseconds (05 R139). -/
def State.entryDueWithin (s : State) (us : Nat) : Bool :=
  s.timeline.any (fun e => e.state == .armed && notBefore (addTicks s.count (usTicks us)) e.start)

/-- The temperature has moved by TEMP_DELTA since the last step (05 R139). -/
def State.tempMoved (s : State) (temp : Int) : Bool :=
  let last := s.getInt F.RAD_CAL_STAT_LAST_TEMP
  decide ((max (s.get F.RAD_CAL_CFG_TEMP_DELTA) 1 : Int) ≤ temp - last) || decide ((max (s.get F.RAD_CAL_CFG_TEMP_DELTA) 1 : Int) ≤ last - temp)

/-- AUTO_CAL_START (05 R139, R140): an idle gap is open, and the steps that are due run internally. -/
def execAutoCalStart (s : State) : Host.Outcome State Fault Refusal :=
  .next (
    let inc := s.get F.RAD_CAL_STAT_INCOMPLETE
    let auto := s.on F.RAD_CAL_CFG_AUTO_CAL
    let all := auto && (!s.radio.calDone || s.tempMoved s.radio.rcpTemp)
    let mask := (if auto || s.on F.RAD_CAL_CFG_RERUN then inc else 0) ||| (if all then s.get F.RAD_CAL_CFG_STEPS else 0)
    if s.on F.RAD_CAL_STAT_DUE ∧ s.radioState = 1 ∧ ¬ s.on F.RAD_STATE_MOVING ∧ s.radio.queue.isNone ∧ s.radio.tslot.isNone ∧
      s.radio.op.isNone ∧ mask ≠ 0 ∧ ¬ s.entryDueWithin (calDur mask + 10) ∧ s.radioClock ∧ s.enabled P.RAD
    then s.calStart mask .internal else s)

end Sys2Proof.Machine
end

