-- ==== Sys2Proof/Machine/Receiver.lean ====
section
/-! DEFINITION. The receiver's own events (chapter 03): loss of lock of the sample clock and its relocks, and the Whiff; and the
loss of lock of the carrier synthesiser (04 R99). -/

namespace Sys2Proof.Machine

/-- Insert into an ascending list. -/
def insertInt (x : Int) : List Int → List Int
  | [] => [x]
  | y :: ys => if x ≤ y then x :: y :: ys else y :: insertInt x ys

/-- An ascending list of the same numbers. -/
def sortInts : List Int → List Int
  | [] => []
  | x :: xs => insertInt x (sortInts xs)

namespace State

/-- A relock failed (21 R467): a further fault of the unit; retries go on up to RETRY_MAX, of which the first is always made. -/
def relockFailed (s : State) (u : Nat) : State × Bool :=
  let k := s.retryOf u
  let out := decide (s.get F.FLT_CFG_RETRY_MAX ≤ k)
  ((s.reportFault u .transient out).setRetry u (if out then 0 else k + 1), out)

/-- A committed acknowledgement does not reach TE (09 R242): its counters stay, the failure is counted and flagged, its context is free. -/
def ackFailed (s : State) (k : Nat) : State :=
  let s1 := (s.countSat F.LNK_SPEC_LOSS_ACK_FAIL).flag P.LNK 6
  let s2 := if s1.on F.REC_TRIG_EN_ACK_FAIL then s1.recTrigger 7 else s1
  s2.ctxFree k

/-- The transmission in progress fails with a status before TE (04 R99, R101; 09 R242). -/
def txFail (s : State) (status : Nat) : State :=
  match s.radio.tx with
  | some t => if (t.stage == .sequence || t.stage == .rampUp || t.stage == .onAir) && t.status == 1 then (match t.src with
      | .op => s.txCut status
      | .ack k => (s.txCut status).ackFailed k) else s
  | none => s

/-- The operation in progress receives, or waits for its channel assessment. -/
def opReceives (s : State) : Bool :=
  match s.radio.op with
  | some o => o.opcode == opRx || o.opcode == opRxMulti || o.opcode == opArmRx || (o.opcode == opTxCca && (match s.radio.tx with
      | some t => t.stage == .cca
      | none => false))
  | none => false

/-- A transmission in progress takes the exit IDLE in place of any receive exit (03 R64), also where that exit has begun at its TE. -/
def noRxExit (s : State) : State :=
  let idle (t : TxJob) : TxJob := if t.exit = 1 ∨ t.exit = 2 then { t with exit := 0 } else t
  let s1 := s.setRadio (fun r => { r with
    tx := r.tx.map idle, txNext := r.txNext.map idle
    follow := r.follow.map (fun f => if f.1 = 1 ∨ f.1 = 2 ∨ f.1 = 4 then (0, f.2) else f) })
  if s1.txSending && s1.on F.RAD_STATE_MOVING && (s1.get F.RAD_STATE_TARGET == 2 || s1.get F.RAD_STATE_TARGET == 3)
  then (s1.setRadio (fun r => { r with turnRx := false })).moveTo 1 else s1

/-- The relocks of one event have all failed (03 R64): the clock stays unlocked, a receiver that runs or starts stops, receive
operations end HW_FAULT, and the radio enters IDLE, after a transmission in progress. -/
def scsDie (s : State) : State :=
  let s0 := s.noRxExit
  let s1 : State := { s0.put F.SYN_SCS_STAT_SETTLING 0 with rfe := { s0.rfe with scsDead := true } }
  if s1.pageSt P.RFE = 0 then s1
  else
    let s2 := (s1.loseAll 6).whiffEnd 6
    let s3 := match s2.opReceives, s2.radio.op with
      | true, some o => (s2.txCut 6).endPlain o.src 6 |>.setRadio (fun r => { r with op := none, waitAck := false, winShut := false })
      | _, _ => s2
    let s4 := s3.releaseAll.rxStop
    if s4.radio.tx.isSome ∨ s4.judged = 1 ∨ s4.judged = 0 then s4 else s4.goTo 1

/-- The end of a relock of the sample clock (03 R64). -/
def scsRelockEnd (s : State) (ok : Bool) : State :=
  if ok then
    let s1 := ((s.put F.SYN_SCS_STAT_SETTLING 0).put F.SYN_SCS_STAT_LOCK 1).setRetry uRx 0
    let s2 := s1.put F.SYN_SCS_STAT_PENDING (boolNat (s1.scsWanted != s1.scsActive))
    if s2.pageSt P.RFE = 4 then s2.setPageSt P.RFE 2 else s2
  else
    match s.relockFailed uRx with
    | (s1, true) => s1.scsDie
    | (s1, false) => s1

/-- The transmission that waits for the carrier synthesiser is not sent: it ends with a status and the radio takes its exit. The
chain stays with SOFTWARE (10 R255). One that names an absent path changes nothing (00 R9): the radio stays in the state it was in. -/
def txNotSent (s : State) (status : Nat) (ccaBusy : Bool := false) : State :=
  match s.radio.tx with
  | none => s
  | some t =>
    let s1 := match s.crs.held with
      | some ⟨.txTune, _, _⟩ => s.crsHold none
      | _ => s
    let s2 := match s1.radio.op with
      | some o => s1.endSrc o.src status o.slip false ccaBusy false s1.count
      | none => s1
    let s3 := s2.setRadio (fun r => { r with tx := none, op := none })
    let s4 := s3.put F.RAD_STATE_MOVING 0
    if status = 7 ∧ s4.radioState ≠ 5 then
      (if s4.radioState = 1 ∨ s4.radioState = 4 then s4.rxStop else s4).antQuiet
    else (s4.opExit (if t.exit = 2 then 4 else t.exit) t.desc).antQuiet

/-- The relocks of the carrier synthesiser have all failed (04 R99): it stays unlocked, and a transmission that waits for it ends
HW_FAULT. -/
def crsDie (s : State) : State :=
  let s1 : State := { s.put F.SYN_CRS_STAT_SETTLING 0 with crs := { s.crs with dead := true } }
  match s1.radio.tx with
  | some t => if t.stage = .wait ∧ t.t0.isNone ∧ s1.crs.held.isNone then s1.txNotSent 6 else s1
  | none => s1

/-- The end of a relock of the carrier synthesiser (04 R99). -/
def crsRelockEnd (s : State) (ok : Bool) : State :=
  if ok then ((s.put F.SYN_CRS_STAT_SETTLING 0).put F.SYN_CRS_STAT_LOCK 1).setRetry uCrs 0
  else
    match s.relockFailed uCrs with
    | (s1, true) => s1.crsDie
    | (s1, false) => s1

/-- The board offset of the input in use (03 R79). -/
def rssiOfs (s : State) : Int := if s.inputInUse = 1 then s.getInt F.RFE_RSSI_OFS_OFS_24 else s.getInt F.RFE_RSSI_OFS_OFS_SG

/-- A power in the 16-bit format of the records; a sum outside the format is not stated and is a free value (log entry 1). -/
def fit16 (s : State) (v : Int) : Nat × State :=
  if -32768 ≤ v ∧ v ≤ 32767 then (lowBits 16 v, s) else (match s.freeVal with | (w, t) => (w.toNat % 65536, t))

/-- A Whiff ends with a status (03 R81 to R85): one that left IDLE or TX_READY takes its exit, where RX acts as ARMED_RX (05 R141). -/
def whiffOver (s : State) (status : Nat) : State :=
  match s.radio.whiff with
  | none => s
  | some w =>
    let s1 := s.whiffEnd status
    if w.fromIdle ∧ s1.radio.op.isNone ∧ s1.judged = 2 then s1.opExit (if w.op.exit = 2 then 1 else w.op.exit) w.op.desc else s1

/-- Powers of a Whiff record: each measured value with the board offset (03 R79, R85). -/
def whiffPowers (s : State) (ofs : Int) : List Nat → List Nat × State
  | [] => ([], s)
  | p :: ps =>
    let (v, s1) := if p = 0x8000 then (p, s) else s.fit16 (signedN 16 p + ofs)
    match whiffPowers s1 ofs ps with
    | (vs, s2) => (v :: vs, s2)

/-- The median of the bin powers (03 R85). Of two middle powers the specification does not say which value between them is the
median: a free value chooses (log entry 1). -/
def whiffFloor (s : State) (ps : List Nat) : Nat × State :=
  let sorted := sortInts (ps.map (signedN 16))
  let lo := sorted.getD ((sorted.length - 1) / 2) 0
  let hi := sorted.getD (sorted.length / 2) 0
  if lo = hi then (lowBits 16 lo, s)
  else match s.freeVal with
    | (w, t) => (lowBits 16 (lo + (w.toNat : Int) % (hi - lo + 1)), t)

end State

open State

/-- SCS_UNLOCK (03 R64): the sample clock loses lock; receptions and a Whiff end HW_FAULT, and the first relock begins. -/
def execScsUnlock (s : State) : Host.Outcome State Fault Refusal :=
  .next (if !s.on F.SYN_SCS_STAT_LOCK then s
    else
      let s1 := (s.put F.SYN_SCS_STAT_LOCK 0).scsSettle.countSat F.SYN_SCS_UNLOCKS_COUNT
      let s2 := ((s1.flag P.SYN 0).reportFault uRx .transient).setRetry uRx 1
      if s2.rxRunning then ((s2.loseAll 6).whiffOver 6).setPageSt P.RFE 4 else s2)

/-- SCS_RELOCK (03 R64): the first relock ends. -/
def execScsRelock (ok : Bool) (s : State) : Host.Outcome State Fault Refusal :=
  .next (if s.retryOf uRx = 1 then s.scsRelockEnd ok else s)

/-- CRS_UNLOCK (04 R99): the carrier synthesiser loses lock; a frame on air ramps down and ends HW_FAULT, and the first relock begins. -/
def execCrsUnlock (s : State) : Host.Outcome State Fault Refusal :=
  .next (if !s.on F.SYN_CRS_STAT_LOCK then s
    else
      let s1 := ((s.put F.SYN_CRS_STAT_LOCK 0).put F.SYN_CRS_STAT_SETTLING 1).countSat F.SYN_CRS_UNLOCKS_COUNT
      let s2 := ((s1.flag P.SYN 8).reportFault uCrs .transient).setRetry uCrs 1
      s2.txFail 6)

/-- CRS_RELOCK (04 R99): the first relock ends. -/
def execCrsRelock (ok : Bool) (s : State) : Host.Outcome State Fault Refusal :=
  .next (if s.retryOf uCrs = 1 then s.crsRelockEnd ok else s)

/-- WHIFF_CAPTURE_START (03 R81 to R84, R88): the mask is sampled and its descriptors are checked (06 R145), five blocks leave the free
list, the gain is held and the capture runs; without five blocks the command ends ABORTED, and one inside a transmission's blanking ends
BLANKED. -/
def execWhiffCaptureStart (s : State) : Host.Outcome State Fault Refusal :=
  .next (match s.radio.whiff with
    | none => s
    | some w =>
      if w.capturing ∨ w.captured ∨ s.pageSt P.RFE ≠ 2 then s
      else if s.on F.RAD_STATE_BLANK then s.whiffOver 8
      else match s.takeBlocks .receive 5 with
        | none => (s.put F.RFE_WHIFF_STAT_NOBUF 1).whiffOver 5
        | some (bs, s1) =>
          let mask := (s1.reg Reg.RFE_WHIFF_MASK_LO).toNat + (s1.reg Reg.RFE_WHIFF_MASK_HI).toNat * 2 ^ 32
          let failing := (List.range 64).filter (fun d => mask.testBit d && s1.descReason d != 0)
          let s1b := failing.foldl (fun t d => t.descErr d (t.descReason d)) s1
          let s2 := if s1b.on F.RFE_WHIFF_CFG_GAIN_SRC then s1b.setGain (s1b.get F.RFE_WHIFF_CFG_WHIFF_GAIN) else s1b
          let w1 := { w with mask := mask, noCorr := ((List.range 64).filter (fun d => !corrFits (s1.descRegs d))).foldl (fun a d => a + 2 ^ d) 0, bad := failing.foldl (fun a d => a + 2 ^ d) 0, blocks := bs, tStart := s2.count
                             gain := s2.get F.RFE_GAIN_STAT_GAIN_IDX, before := s1b.get F.RFE_GAIN_STAT_GAIN_IDX, capturing := true }
          ((s2.setRadio (fun r => { r with whiff := some w1 })).put F.RFE_WHIFF_STAT_NOBUF 0).setPageSt P.RFE 3)

/-- WHIFF_CAPTURE_END (03 R78, R81, R82): the capture is complete; the results are computed, and the AGC goes on from the gain it has held
(log entry 98). -/
def execWhiffCaptureEnd (clipped : Bool) (s : State) : Host.Outcome State Fault Refusal :=
  .next (match s.radio.whiff with
    | none => s
    | some w =>
      if !w.capturing then s
      else ((s.setRadio (fun r => { r with whiff := some { w with capturing := false, captured := true, clip := clipped } })).setPageSt
        P.RFE 2).setGain w.before)

/-- WHIFF_DONE (03 R83, R85, R86): the record is written and becomes software's, and the command ends DONE. `bins` are the 128 bin
powers as measured, `descs` correlation and power of each selected descriptor in ascending order; a descriptor of whose preamble no whole
period fits in the capture has the correlation 0 (R86). -/
def execWhiffDone (bins : List Half) (descs : List (Byte × Half)) (s : State) : Host.Outcome State Fault Refusal :=
  .next (match s.radio.whiff with
    | none => s
    | some w =>
      if !w.captured then s
      else
        let ofs := s.rssiOfs
        let sel := (List.range 64).filter w.mask.testBit
        match s.whiffPowers ofs ((List.range 128).map (fun i => (bins.getD i 0).toNat)) with
        | (ps, s1) =>
          match s1.whiffPowers ofs (sel.mapIdx (fun i d =>
              if w.bad.testBit d then 0x8000 else (descs.getD i (0, 0)).2.toNat)) with
          | (qs, s2) =>
            match s2.whiffFloor ps with
            | (fl, s3) =>
              let corr := sel.mapIdx (fun i d => if w.bad.testBit d || w.noCorr.testBit d then 0 else (descs.getD i (0, 0)).1.toNat)
              let k := s3.get F.RFE_CFG_ZONE_ACTIVE
              let rec0 := natLe 6 w.tStart ++ natLe 1 w.gain ++ natLe 1 (boolNat w.clip + 2 * (k % 2)) ++
                natLe 4 (s3.get F.SYN_SCS_ACTIVE_RATE_KHZ + k * 2 ^ 24) ++ natLe 1 128 ++ natLe 1 sel.length ++ natLe 2 fl ++
                ps.flatMap (natLe 2) ++
                (List.range sel.length).flatMap (fun i => natLe 1 (sel.getD i 0) ++ natLe 1 (corr.getD i 0) ++ natLe 2 (qs.getD i 0))
              let s4 := (s3.storeChain w.blocks rec0.length 0 1 rec0).giveAll w.blocks .software
              let hits := (corr.filter (fun c => decide (s4.get F.RFE_WHIFF_CFG_CORR_THR ≤ c))).length
              let s5 := (((s4.put F.RFE_WHIFF_STAT_HEAD (w.blocks.headD 0)).put F.RFE_WHIFF_STAT_HITS hits).put F.RFE_WHIFF_STAT_CLIP
                (boolNat w.clip)).put F.RFE_WHIFF_STAT_VALID 1
              let w1 := { w with blocks := [] }
              ((s5.setRadio (fun r => { r with whiff := some w1 })).flag P.RFE 0).whiffOver 1)

end Sys2Proof.Machine
end

