-- ==== Sys2Proof/Machine/Power.lean ====
section
/-! DEFINITION. Output power (04 R105 to R116): the choice of the path, the applied power, the compensation tables and the drive;
the sensors (04 R118, R119). -/

namespace Sys2Proof.Machine

/-- Entries of a compensation table (04 R110). -/
def compSize (t : Nat) : Nat := [133, 149, 69, 24, 21].getD t 0

/-- The largest output power of a mode in a band, in 0.25 dB, none where the table has no entry (04 R100; log entry 13). -/
def modeLimit (mode : Nat) (in24 : Bool) : Option Int :=
  if mode = 1 ∨ mode = 2 ∨ mode = 4 then (if in24 then none else some 80)
  else if mode = 3 ∨ mode = 5 ∨ mode = 6 ∨ mode = 7 then (if in24 then some 40 else none)
  else if mode = 8 ∨ mode = 9 then (if in24 then some 16 else some 56)
  else none

/-- The limit of TX_HP at a VPA in mV (04 R107): +20 dBm from 3.0 V up, below that 20 + 20·log10(VPA / 3.0 V) rounded down to a
quarter dB: the least n of quarter dB with 3000⁸⁰ ≤ VPA⁸⁰ · 10ⁿ is taken off. -/
def hpLimit (vpa : Nat) : Int :=
  if 3000 ≤ vpa then 80
  else 80 - (((List.range 81).find? (fun n => decide (3000 ^ 80 ≤ vpa ^ 80 * 10 ^ n))).getD 80 : Nat)

/-- The range of a path in 0.25 dB (04 R90). -/
def pathRange (p : Nat) : Int × Int := if p = 0 then (-80, 40) else if p = 1 then (-80, 56) else (24, 80)

/-- An integer quotient rounded to the nearest. -/
def roundDiv (a : Int) (b : Nat) : Int := (2 * a + b) / (2 * b : Nat)

/-- Linear interpolation between breakpoints (04 R111), clamped to the end breakpoints; values in 1/32 dB. -/
def interpolate : List Int → List Int → Int → Int
  | x0 :: x1 :: xs, y0 :: y1 :: ys, x =>
    if x ≤ x0 then 4 * y0
    else if x < x1 then roundDiv (4 * y0 * (x1 - x0) + 4 * (y1 - y0) * (x - x0)) (x1 - x0).toNat
    else interpolate (x1 :: xs) (y1 :: ys) x
  | _, y0 :: _, _ => 4 * y0
  | _, [], _ => 0

/-- The temperatures of table 3 and the supplies of table 4, in mV (04 R110). -/
def tempBreaks : List Int := [-40, -15, 10, 25, 50, 75, 90, 105]
def supplyBreaks : List Int := [1800, 2100, 2400, 2700, 3000, 3300, 3600]

/-- What became of the choice of a path: the path, the applied power with CLAMPED and VPA_LOW, or the status of a frame not sent. -/
inductive PathPick where
  | use (path : Nat) (applied : Int) (clamped vpaLow : Bool)
  | stop (status : Nat) (vpaLow : Bool)
  deriving DecidableEq, Repr

namespace State

/-- The working copy of a compensation entry (04 R110): the factory trim unless software has overwritten it. -/
def compEntry (s : State) (t e : Nat) : Half :=
  if compSize t ≤ e then 0
  else match s.comp.find? (fun c => c.1 == t * 256 + e) with
    | some c => c.2
    | none => if t < 3 then Config.factoryTrim (t * 256 + e) else Config.factoryTrim (t * 256 + e) &&& 0xFF

/-- A write to RTX.COMP_DATA (04 R110). -/
def compWrite (s : State) (t e v : Nat) : State :=
  if compSize t ≤ e then s
  else { s with comp := s.comp.filter (fun c => c.1 != t * 256 + e) ++ [(t * 256 + e, BitVec.ofNat 16 (if t < 3 then v else v % 256))] }

/-- A correction table's row for a path, signed, 0.125 dB. -/
def compRow (s : State) (t path n : Nat) : List Int := (List.range n).map (fun i => signed8 (s.compEntry t (path * n + i)).toNat)

/-- Whether a transmit path is in service. -/
def pathUp (s : State) (p : Nat) : Bool := !s.isRetired (unitCode 3 p) && !s.underTest (unitCode 3 p)

/-- The path and the applied power of a frame (04 R105 to R108). -/
def pickPath (s : State) (mode : Nat) (in24 : Bool) (slot vpa : Nat) : PathPick :=
  let w := (s.reg (Reg.RTX_PWR_SLOT slot)).toNat
  let target := signed8 w
  let pol := bitsOf w 8 2
  let vpaOk := decide (max (s.get F.RTX_VPA_CFG_HP_VPA_MIN) 2400 ≤ vpa)
  let hpHere := s.variant != .znl7210
  let cut (p : Nat) (low : Bool) (force : Bool) : PathPick :=
    let hi := (pathRange p).2
    let hi1 := match modeLimit mode in24 with | some l => min hi l | none => hi
    let hi2 := if p = 2 then min hi1 (hpLimit vpa) else hi1
    let a := clampInt (pathRange p).1 hi2 target
    .use p a (force || a != target) low
  if in24 then (if s.pathUp 0 then cut 0 false false else .stop 6 false)
  else if pol = 1 then (if s.pathUp 1 then cut 1 false false else .stop 6 false)
  else if pol = 2 then
    (if !hpHere then .stop 7 false
     else if !s.pathUp 2 then .stop 6 false
     else if !vpaOk then .stop 5 true
     else cut 2 false false)
  else if target ≤ 56 then (if s.pathUp 1 then cut 1 false false else .stop 6 false)
  else if hpHere && s.pathUp 2 && vpaOk then cut 2 false false
  else if s.pathUp 1 then cut 1 (hpHere && s.pathUp 2) true
  else .stop 6 false

/-- The loop offset of a path (04 R112). -/
def loopOfs (p : Nat) : Field := if p = 0 then F.RTX_LOOP_OFS_OFS_24 else if p = 1 then F.RTX_LOOP_OFS_OFS_SG else F.RTX_LOOP_OFS_OFS_HP

/-- The drive of a frame and whether its index fell outside the code table (04 R111). A quotient half way between two indices is
rounded to one of them by a free value (log entry 1). -/
def driveOf (s : State) (p : Nat) (applied : Int) (m : Sense) : Nat × Bool × State :=
  let comp := s.get F.RTX_CFG_COMP
  let tc := if comp = 0 then 0 else interpolate tempBreaks (s.compRow 3 p 8) m.temp
  let vc := if comp = 0 then 0 else interpolate supplyBreaks (s.compRow 4 p 7) (if p = 2 then (m.vpa : Int) else m.vbat)
  let l := if comp = 2 ∨ comp = 3 then s.getInt (loopOfs p) else 0
  let x := 8 * applied + tc + vc + l - 8 * (pathRange p).1
  let (tie, s1) := if x % 8 = 4 then (match s.freeVal with | (w, t) => (w.toNat % 2, t)) else (0, s)
  let idx : Int := if x % 8 = 4 then x / 8 + tie else roundDiv x 8
  let top : Int := (compSize p : Nat) - 1
  let i := clampInt 0 top idx
  ((s.compEntry p i.toNat).toNat, idx != i, s1)

/-- A measurement in its register: VPA reads 0 below 1.0 V (04 R119). -/
def putSense (s : State) (a : Nat) (m : Sense) : State :=
  ((s.putInt ⟨a, 24, 8⟩ m.temp).put ⟨a, 12, 12⟩ (if m.vpa < 1000 then 0 else min m.vpa 4095)).put ⟨a, 0, 12⟩ (min m.vbat 4095)

/-- The last complete round of the sensors (04 R109, R119). -/
def liveSense (s : State) : Sense :=
  { temp := s.getInt F.TSN_LIVE_TEMP, vbat := s.get F.TSN_LIVE_VBAT, vpa := s.get F.TSN_LIVE_VPA }

/-- The RCP's own sample of the temperature in the last complete round, every 1 ms and at T0 − 8 µs (04 R109, R119). -/
def rcpSample (s : State) : State := { s with radio := { s.radio with rcpTemp := s.liveSense.temp } }

/-- CAL_DUE (05 R139): DUE is set, with its flag when it was clear. -/
def calDueCheck (s : State) : State :=
  if s.on F.RAD_CAL_STAT_DUE then s
  else if s.tempMoved s.radio.rcpTemp || s.get F.RAD_CAL_STAT_INCOMPLETE != 0 || !s.radio.calDone then
    (s.put F.RAD_CAL_STAT_DUE 1).flag P.RAD 2
  else s

/-- A round of the sensors completes (04 R119): it enters TSN.LIVE, and the thresholds are compared while TSN is enabled. -/
def tsnRoundEnds (s : State) (m : Sense) : State :=
  if !s.pwr.radioUp then s
  else
    let s0 : State := { s with radio := { s.radio with tsnRound := s.pageSt P.TSN == 1 } }
    let s1 := s0.putSense Reg.TSN_LIVE m
    if !s1.enabled P.TSN then s1
    else
      let hi := decide (s1.getInt F.TSN_CFG_TEMP_HI ≤ m.temp)
      let lo := s1.get F.TSN_CFG_VBAT_LOW != 0 && decide (m.vbat < s1.get F.TSN_CFG_VBAT_LOW)
      let s2 := (s1.put F.TSN_STAT_TEMP_HI (boolNat hi)).put F.TSN_STAT_VBAT_LOW (boolNat lo)
      let s3 := if hi then s2.flag P.TSN 1 else s2
      if lo then s3.flag P.TSN 2 else s3

/-- The round that completes at the instant of a command, if one does, is the last complete one for that command (log entry 130). -/
def roundNow (s : State) (round : Option Sense) : State :=
  match round with
  | some m => s.tsnRoundEnds m
  | none => s

/-- The sample of a task or a write of TSN.CTRL (04 R119): it waits for the next complete round; one that comes while another waits sets
OVERRUN (17 R392). -/
def tsnSample (s : State) : State :=
  if !(s.enabled P.TSN && s.pwr.radioUp) then s
  else if s.pageSt P.TSN = 1 then s.putBit (F.TASK_FLAGS_OVERRUN P.TSN) 0 true
  else { s.setPageSt P.TSN 1 with radio := { s.radio with tsnRound := false } }

end State

open State

/-- RCP_SENSE_SAMPLE (04 R109; 05 R139): every 1 ms while the radio is not OFF. RTX.SENSE shows the values of the last T0 − 8 µs only. -/
def execRcpSenseSample (round : Option Sense) (s : State) : Host.Outcome State Fault Refusal :=
  let s0 := s.roundNow round
  .next (if s0.radioState = 0 then s0 else s0.rcpSample.calDueCheck)

/-- TSN_ROUND_END (04 R119). -/
def execTsnRoundEnd (m : Sense) (s : State) : Host.Outcome State Fault Refusal := .next (s.tsnRoundEnds m)

/-- TSN_SAMPLE_LATCHED (04 R119): the first round that has completed since the trigger is latched for a waiting sample. -/
def execTsnSampleLatched (s : State) : Host.Outcome State Fault Refusal :=
  .next (if s.pageSt P.TSN = 1 ∧ s.pwr.radioUp ∧ s.radio.tsnRound then
      (((s.setReg Reg.TSN_SAMPLE (s.reg Reg.TSN_LIVE)).setPageSt P.TSN 0).flag P.TSN 0).event P.TSN 0
    else s)

end Sys2Proof.Machine
end

