-- ==== Sys2Proof/Machine/Transmit.lean ====
section
/-! DEFINITION. Transmission (04 R97 to R116, 05 R130 to R137): the frame as it goes on air, the transmit sequence of a command and of
a committed acknowledgement, blanking, the channel assessment (09 R235, R236), and the exits. -/

namespace Sys2Proof.Machine

/-- Replace the bytes of a list from `i` on. -/
def putBytes (bs : List Byte) (i : Nat) (xs : List Byte) : List Byte := bs.take i ++ xs ++ bs.drop (i + xs.length)

/-- The ramp of a path in µs (04 R103). -/
def rampUs (p : Nat) : Nat := if p = 0 then 2 else 4

namespace State

/-- The words of the timeline entry that issued an operation. -/
def srcWords (s : State) : OpSrc → List Nat
  | .entry i => (s.timeline.getD i entry0).words
  | _ => []

/-- The LE context of an operation (09 R248). -/
def leCtx (s : State) (src : OpSrc) : Option Nat :=
  let w := (s.srcWords src).getD 2 0
  if w.testBit 31 then some (bitsOf w 28 3) else none

/-- The next START of the anchor entry after an instant (09 R247), if the entry has one. -/
def anchorNext (s : State) (t : Nat) : Option Nat :=
  let e := s.timeline.getD (s.get F.LNK_CSL_CFG_ANCHOR) entry0
  let p := e.words.getD 7 0
  if e.state ≠ .armed ∧ e.state ≠ .dispatched then none
  else if notBefore e.start t then some e.start
  else if p = 0 ∨ e.reps = 0 then none
  else
    let k := ceilDiv (subTicks t e.start) p
    if e.reps = 255 ∨ k ≤ e.reps then some (addTicks e.start (k * p)) else none

/-- The phase that goes into the CSL IEs of a frame with T0 `t0` (09 R247). Where the anchor has no next START, or the phase does not fit
its field, the specification states no phase: a free value (log entry 1). -/
def cslPhase (s : State) (c : DescCopy) (t0 : Nat) : Nat × State :=
  let e := addTicks t0 (nsTicks (shrNs c))
  let ph := match s.anchorNext e with
    | some n => if symNs c = 0 then none else some (subTicks n e * 1000000000 / (8388608 * 10 * symNs c))
    | none => none
  match ph.filter (fun v => decide (v < 65536)) with
  | some v => (v, s)
  | none => (match s.freeVal with | (w, t) => (w.toNat, t))

/-- Fill every CSL IE of a frame, at the offsets `places` (09 R247). -/
def cslFill (s : State) (c : DescCopy) (t0 : Nat) (places : List Nat) (bs : List Byte) : List Byte × State :=
  if places.isEmpty || !s.on F.LNK_CSL_CFG_EN then (bs, s)
  else match s.cslPhase c t0 with
    | (ph, s1) =>
      let content := natLe 2 ph ++ natLe 2 (s1.get F.LNK_CSL_CFG_PERIOD)
      (places.foldl (fun b i => putBytes b i content) bs, s1)

/-- The FCS a frame is sent with (06 R153, R526, R530). -/
def withFcs (c : DescCopy) (fcsLen : Nat) (bs : List Byte) : List Byte :=
  if c.isLe then bs ++ crc24Bytes (crc24 (c.aux % 2 ^ 24) bs) else bs ++ fcsBytes fcsLen bs

/-- The PSDU of a command's frame (09 R247, R248; 10 R267; 12 R310, R311); none where its key is not available. -/
def opFrame (s : State) (t : TxJob) (src : OpSrc) (t0 : Nat) (body : List Byte) : Option (List Byte) × State :=
  let c := t.copy
  if c.isLe then
    let b1 := match s.leCtx src, body with
      | some k, b :: bs =>
        BitVec.ofNat 8 (putBits (putBits b.toNat 3 1 (s.get (F.LNK_LE_CTX_SN k))) 2 1 (s.get (F.LNK_LE_CTX_NESN k))) :: bs
      | _, _ => body
    (some (withFcs c 3 b1), s)
  else if !c.macFrames then (some (withFcs c c.txFcsLen body), s)
  else
    match parseOut body (s.chainSecure t.head) with
    | .ok h =>
      match s.cslFill c t0 h.cslAt body with
      | (b1, s1) =>
        if !h.secured || !s1.chainSecure t.head then (some (withFcs c c.txFcsLen b1), s1)
        else
          let u := t.u.getD 0
          let b2 := if h.fcSup then b1 else putBytes b1 (h.auxAt + 1) (natLe 4 u)
          let g := s1.txWord t.head % 2 ^ 17
          let (kf, s1f) := if g / 16384 = s1.myPos then (s1.entW (g % 16384) 2 / 65536, s1)
            else (match s1.freeVal with | (w, q) => (w.toNat % 65536, q))
          match s1f.frameKey h.keyMode (keyIndex h) kf with
          | (none, s2) => (none, s2.keyMiss)
          | (some key, s2) =>
            let sealed := frameSeal key (frameNonce s2.extAddr u h.secLevel) h.secLevel (b2.take h.hdrLen) (b2.drop h.hdrLen)
            (some (withFcs c c.txFcsLen (b2.take h.hdrLen ++ sealed)), s2)
    | _ => (some (withFcs c c.txFcsLen body), s)

/-- The walk of a transmit chain at T0 − 8 µs (10 R255): its blocks, or none where it is not sent. -/
def txWalk (s : State) (c : DescCopy) (head : Nat) : Option (List Nat) × State :=
  match (s.walkBlocks head 18).find? (fun b => s.badWord (blockAddr b)) with
  | some b =>
    (none, (((((s.flag P.FRM 3).put F.FRM_VIOL_VALID 1).put F.FRM_VIOL_INITIATOR 4).put F.FRM_VIOL_BLOCK b).reportFault
      (0x0600 + 28 + b / 256) .memory))
  | none =>
    match s.chainBlocks head 18 with
    | none => (none, s.flag P.FRM 3)
    | some bs =>
      let used := bs.map (fun b => bitsOf (s.linkWord b) 16 7)
      let body := s.recordWord head % 2048
      if bs.all (fun b => s.owner b == .software) && decide (used.headD 0 ≤ 116) && (used.drop 1).all (fun u => decide (u ≤ 124)) &&
        used.foldl (fun a b => a + b) 0 == body && bitsOf (s.recordWord head) 19 3 == 2 && decide (s.txLength c head ≤ c.maxPsdu)
      then (some bs, s) else (none, s.flag P.FRM 3)

/-- The lowest lane that is present and in service (07 R166). -/
def txLane (s : State) : Option Nat := (List.range (nLanes s.variant)).find? (fun n => s.unitUsable (.lane n))

/-- Blanking begins (05 R137): receptions with a sample still to come and a Whiff not yet captured end BLANKED. -/
def blank (s : State) : State :=
  let s1 := s.allUnits.foldl (fun t u =>
    match (t.slot u).frame with
    | some f => if f.header && notBefore t.count f.endAt then t else t.loseFrame u 8
    | none => t) s
  let s2 := match s1.radio.whiff with
    | some w => if w.captured then s1 else s1.whiffEnd 8
    | none => s1
  if s2.on F.RAD_STATE_BLANK then s2 else (s2.put F.RAD_STATE_BLANK 1).record 0x0C 0 1

/-- TX_STAT of a frame that is sent (04 R106, R115). -/
def txStat (s : State) (p : Nat) (applied : Int) (clamped vpaLow : Bool) : State :=
  let s1 := (((((((s.putInt F.RTX_TX_STAT_APPLIED applied).put F.RTX_TX_STAT_PATH p).put F.RTX_TX_STAT_CLAMPED (boolNat clamped)).put
    F.RTX_TX_STAT_UNDERRUN 0).put F.RTX_TX_STAT_ILIM 0).put F.RTX_TX_STAT_VPA_LOW (boolNat vpaLow)))
  let s2 := if clamped then s1.flag P.RTX 0 else s1
  if vpaLow then s2.flag P.RTX 3 else s2

/-- The transmit code of a path on ANT_SEL (04 R102). -/
def antTx (s : State) (p : Nat) : State :=
  s.setAnt (if p = 0 then 3 else if p = 1 then 4 else 5)

/-- Whether the receiver keeps running through a transmission (03 R63; 05 R120, R135): a receive exit is due, or a receive command waits. -/
def rxKept (s : State) (t : TxJob) : Bool :=
  s.rxWaits || (match s.radio.txNext with
    | some n => n.exit == 1 || n.exit == 2
    | none => let ex := s.jobExit t; ex == 1 || ex == 2 || ex == 4)

/-- The transmit sequence begins (03 R63; 04 R96, R103): power, drive, the reservation, blanking, the receiver's stop where no receive exit is
due, the bits or symbols of the frame (06 R153; 07 R166), ANT_SEL, the state TX. -/
def txGo (s : State) (t : TxJob) (p : Nat) (applied : Int) (clamped vpaLow : Bool) (frame : List Byte) : State :=
  match s.driveOf p applied s.liveSense with
  | (drive, out, s1) =>
    let s2 := ((s1.txStat p applied (clamped || out) vpaLow).crsReserve (match t.src with | .op => .tx | .ack k => .ack k)).blank
    let s3 := if s2.pageSt P.RFE = 0 ∨ s2.rxKept t then s2 else s2.rxStop
    let (dw, s4) := if t.copy.modeCode = 1 then (match s3.freeVal with | (w, q) => (w.toNat.testBit 0, q)) else (false, s3)
    let form := t.copy.onAir (s4.profile (t.copy.aux % 1024)) dw frame
    let job := { t with stage := .sequence, path := p, applied := applied, drive := drive, frame := frame, status := 1, form := form }
    let s5 := ((s4.setRadio (fun r => { r with tx := some job, turnRx := false, minT0 := none })).antTx p).setPageSt P.RTX 2
    if s5.radioState = 5 ∧ ¬ s5.on F.RAD_STATE_MOVING then s5 else s5.enterState 5

/-- The profile check of an FAO transmission (07 R181): OFD.TX_PROF shows the profile. -/
def txProfile (s : State) (c : DescCopy) : Bool × State :=
  if c.modeCode ≠ 9 then (true, s)
  else
    let p := s.profile (c.aux % 1024)
    if p.valid then (true, (s.put F.OFD_TX_PROF_PROFILE p.index).put F.OFD_TX_PROF_NBITS p.nbits) else (false, (s.profileFault (c.aux % 1024)).flag P.OFD 1)

/-- The chain `bs` of an operation is walked, in state `s2`: the blocks become the transmitter's, and the sequence runs. -/
def txOpChain (s2 : State) (t : TxJob) (t0 : Nat) (p : Nat) (applied : Int) (clamped low : Bool) (lane : Option Nat)
    (bs : List Nat) : State :=
  match s2.opFrame t (match s2.radio.op with | some o => o.src | none => .internal) t0 (s2.chainData true true bs) with
  | (none, s3) => s3.txNotSent 5
  | (some frame, s3) =>
    let keep := (s3.recordWord t.head).testBit 22
    (s3.giveAll bs .transmit).txGo
      { t with t0 := some t0, chain := bs, keep := keep, lane := if t.copy.onLane then lane else none } p applied clamped low frame

/-- The transmit path is chosen: the lane, the profile and the frame of an operation are checked, and the sequence runs. -/
def txOpSend (s0 : State) (t : TxJob) (t0 : Nat) (p : Nat) (applied : Int) (clamped low : Bool) : State :=
  let lane := s0.txLane
  if t.copy.onLane && lane.isNone then s0.txNotSent 6
  else match s0.txProfile t.copy with
    | (false, s1) => s1.txNotSent 5
    | (true, s1) =>
      match s1.txWalk t.copy t.head with
      | (none, s2) => s2.txNotSent 5
      | (some bs, s2) => s2.txOpChain t t0 p applied clamped low lane bs

/-- The sequence of a command's transmission at T0 − 8 µs (04 R97, R99, R105 to R111; 07 R166, R181; 10 R255). -/
def txOpStart (s : State) (t : TxJob) : State :=
  let c := t.copy
  let at8 := addTicks s.count (usTicks 8)
  let early := match t.t0, s.radio.minT0 with
    | some i, _ => !notBefore at8 i
    | none, some f => !notBefore at8 f
    | none, none => false
  if early then s
  else if !s.crsLockedTo c.freq || s.radioState == 0 then
    (if s.crs.dead then s.txNotSent 6 else if t.t0.isSome then s.txNotSent 4 else s)
  else
    let s0 := (s.rcpSample.setReg Reg.RTX_SENSE (s.reg Reg.TSN_LIVE)).calDueCheck
    let t0 := t.t0.getD at8
    match s0.pickPath c.modeCode (in24 c) t.slot s0.liveSense.vpa with
    | .stop st low => ((if low then (s0.put F.RTX_TX_STAT_VPA_LOW 1).flag P.RTX 3 else s0)).txNotSent st
    | .use p applied clamped low => s0.txOpSend t t0 p applied clamped low

/-- The frame of a committed acknowledgement: the CSL IE is filled, then the MIC is computed with U (09 R237, R247; 12 R310). -/
def ackFrame (s : State) (x : AckCtx) : List Byte × State :=
  match s.cslFill x.copy x.t0 x.cslAt x.frame with
  | (b1, s1) =>
    let b2 := match x.key with
      | some key => b1 ++ frameSeal key (frameNonce s1.extAddr (x.u.getD 0) x.level) x.level b1 []
      | none => b1
    (withFcs x.copy x.fcsLen b2, s1)

/-- The exit the radio takes after an acknowledgement (05 R141), by the state it was judged by. -/
def ackExit (s : State) : Nat :=
  let j := s.judged
  if j = 3 then 2 else if j = 2 then 1 else if j = 4 then 3 else 0

/-- The receive operation that waited for its acknowledgement ends DONE (05 R130). -/
def rxOpEnds (s : State) : State × Option (Nat × Nat) :=
  match s.radio.op, s.radio.waitAck with
  | some o, true =>
    ((s.setRadio (fun r => { r with op := none, waitAck := false })).endSrc o.src 1 o.slip false false false s.radio.lastRes.endAt,
      some (o.exit, o.desc))
  | _, _ => (s, none)

/-- A committed acknowledgement that cannot be sent (09 R242): the receive operation that waits for it ends. -/
def ackNotSent (s : State) (k : Nat) : State :=
  let s1 := (s.ackFailed k).crsRelease (.ack k)
  match s1.radio.abortOp with
  | some op => (s1.setRadio (fun r => { r with abortOp := none })).abortNow op
  | none =>
    match s1.rxOpEnds with
    | (s2, some (ex, d)) => s2.opExit ex d
    | (s2, none) => s2

/-- The transmit path of an acknowledgement is chosen: its frame is completed, and the sequence runs. -/
def ackSend (s0 : State) (k : Nat) (x : AckCtx) (slot p : Nat) (applied : Int) (clamped low : Bool) : State :=
  let c := x.copy
  let lane := s0.txLane
  if c.onLane && lane.isNone then s0.ackNotSent k
  else match (s0.txProfile c) with
    | (_, s1) =>
      match s1.ackFrame x with
      | (frame, s2) =>
        let job : TxJob := ⟨.ack k, .sequence, x.desc, c, slot, 0, s2.ackExit, some x.t0, p, 0, 0, 1, false, false, [],
          true, 0, 0, [], false, x.u, if c.onLane then lane else none, false, x.t0, .bits []⟩
        let s3 := s2.setRadio (fun r => { r with txNext := match r.tx with | some t => some t | none => r.txNext })
        s3.txGo job p applied clamped low frame

/-- An acknowledgement whose loading profile is not valid at T0 − 8 µs uses profile 0 (07 R181); one not valid at the start of its speculation
has been given profile 0 then (log entry 115). -/
def ackProfile (s : State) (x0 : AckCtx) : AckCtx :=
  let bad := x0.copy.modeCode == 9 && !(s.profile (x0.copy.aux % 1024)).valid
  if bad then { x0 with copy := { x0.copy with aux := putBits x0.copy.aux 0 10 0 } } else x0

/-- The sequence of a committed acknowledgement at T0 − 8 µs (04 R103, R105; 09 R237, R242). -/
def txAckStart (s : State) (k : Nat) (x0 : AckCtx) : State :=
  let x := s.ackProfile x0
  let c := x.copy
  if !notBefore (addTicks s.count (usTicks 8)) x.t0 then s
  else if !s.crsLockedTo c.freq then s.ackNotSent k
  else
    let s0 := (s.rcpSample.setReg Reg.RTX_SENSE (s.reg Reg.TSN_LIVE)).calDueCheck
    let slot := s0.get F.RTX_CFG_ACK_SLOT
    match s0.pickPath c.modeCode (in24 c) slot s0.liveSense.vpa with
    | .stop _ low => ((if low then (s0.put F.RTX_TX_STAT_VPA_LOW 1).flag P.RTX 3 else s0)).ackNotSent k
    | .use p applied clamped low => s0.ackSend k x slot p applied clamped low

/-- Whether context `k` is the one the transmitter is sending or about to send. -/
def ackSending (s : State) (k : Nat) : Bool :=
  (match s.radio.tx with | some t => t.src == .ack k | none => false) || (match s.radio.txNext with | some t => t.src == .ack k | none => false)

/-- The committed acknowledgement whose sequence is next: the one with the earliest T0. -/
def ackDue (s : State) : Option (Nat × AckCtx) :=
  (List.range s.ctxs.length).foldl (fun best k =>
    match s.ctxs[k]? with
    | some x =>
      if x.busy && x.committed && !s.ackSending k then
        (match best with
         | some (_, y) => if notBefore x.t0 y.t0 then best else some (k, x)
         | none => some (k, x))
      else best
    | none => best) none

/-- The chain of a transmission that has ended (10 R255). -/
def chainDone (s : State) (t : TxJob) (src : OpSrc) : State :=
  if t.chain.isEmpty then s
  else
    if t.keep || s.repeats src then s.giveAll t.chain .software else (s.freeAll t.chain).event P.FRM 1

/-- The exit after a transmission, at TE + 6 µs (05 R122, R133, R135, R141): IDLE and TX_READY are entered, a receive state follows
after the turn-round; a command that waited at TE replaces the exit, since no exit has begun then. -/
def txExit (s : State) (ex1 desc : Nat) (t : TxJob) : State :=
  if s.waits && !(s.on F.RAD_STATE_MOVING && s.get F.RAD_STATE_TARGET != 5) then
    let same := match s.nextOp with
      | some o => (s.descRegs o.desc).freq == t.copy.freq || s.crs.chan == some (s.descRegs o.desc).freq
      | none => false
    let m0 := addTicks t.te (usTicks (if same then 12 else rampUs t.path + 32))
    let s1 := s.setRadio (fun r => { r with follow := some (ex1, desc), minT0 := some m0, turnRx := true })
    let s2 := s1.put F.RAD_STATE_MOVING 0
    if s.txWaits then s2 else s2.antQuiet
  else if ex1 = 0 then (((s.unblank.rxStop).crsStop).enterState 1).antQuiet
  else if ex1 = 3 then ((s.unblank.rxStop).enterState 4).antQuiet
  else if ex1 = 1 then (((s.releaseAll).rxStart).setRadio (fun r => { r with turnRx := true })).moveTo 2 |>.antQuiet
  else if ex1 = 4 then ((s.exitRx desc).setRadio (fun r => { r with turnRx := true })).antQuiet
  else ((s.setRadio (fun r => { r with turnRx := true })).moveTo 3).antQuiet

/-- The end of a transmission: its chain moves, its operation ends, and the exit is taken (04 R102, R103; 05 R122, R133, R135, R141). -/
def txEnd (s : State) (t : TxJob) : State :=
  let src := match s.radio.op with | some o => if t.displaced then .internal else o.src | none => .internal
  let s1 := (s.setRadio (fun r => { r with tx := r.txNext, txNext := none })).chainDone t src
  let s2 : State := { s1 with rfe := { s1.rfe with holdTill := some (addTicks t.te (usTicks 8)) } }
  let aborts : Bool := match s2.radio.op with | some o => o.opcode == opAbort | none => false
  if aborts then (((s2.unblank.rxStop).enterState 1).antQuiet).finishMove
  else if t.displaced then (s2.setRadio (fun r => { r with turnRx := s2.pageSt P.RFE != 0 })).antQuiet
  else if s2.radio.tx.isSome then ((s2.setRadio (fun r => { r with turnRx := s2.pageSt P.RFE != 0 })).moveTo 5).antQuiet
  else match s2.radio.op with
  | some o =>
    match t.src with
      | .op =>
        let s3 := (s2.setRadio (fun r => { r with op := none })).endSrc o.src t.status o.slip false false false t.te
        s3.txExit (if t.exit = 2 then 4 else t.exit) t.desc t
      | .ack _ =>
        match s2.rxOpEnds with
        | (s3, some (ex, d)) => s3.txExit ex d t
        | (s3, none) => s3.txExit t.exit t.desc t
  | none => s2.txExit (match t.src with | .op => (if t.exit = 2 then 4 else t.exit) | .ack _ => t.exit) t.desc t

/-- The reading of the detector over a measured frame (04 R112, R114): `e` is the measured output minus the applied power in 1/32 dB.
Half of an odd error is rounded either way by a free value (log entry 1). -/
def detector (s : State) (t : TxJob) (e : Int) : State :=
  let comp := s.get F.RTX_CFG_COMP
  let closed := comp = 2 ∨ comp = 3
  let s1 := if closed then
      (let (b, s0) := if e % 2 = 1 then (match s.freeVal with | (w, q) => ((w.toNat % 2 : Nat), q)) else (0, s)
       let l := s0.getInt (loopOfs t.path) - (e / 2 + b)
       let l1 := clampInt (-64) 64 l
       let s2 := s0.putInt (loopOfs t.path) l1
       if l1 ≠ l ∨ l1 = 64 ∨ l1 = -64 then s2.flag P.RTX 4 else s2)
    else s
  if (closed ∧ (96 < e ∨ e < -96)) ∨ e < -320 then s1.reportFault (unitCode 3 t.path) .transient else s1

end State

open State

/-- The transmission whose turn it is begins its sequence (04 R103): a committed acknowledgement, or the command's. -/
def State.sequenceStart (s : State) : State :=
  if s.txSending then s
  else
    let opJob := match s.radio.tx with
      | some t => if t.stage = .wait then some t else none
      | none => none
    match s.ackDue, opJob with
    | some (k, x), none => s.txAckStart k x
    | none, some t => s.txOpStart t
    | some (k, x), some t =>
      (match t.t0 with
       | some i => if notBefore x.t0 i then s.txOpStart t else s.txAckStart k x
       | none => if notBefore (addTicks s.count (usTicks 8)) x.t0 then s.txAckStart k x else s.txOpStart t)
    | none, none => s

/-- TX_SEQUENCE_START (04 R103, R119): T0 − 8 µs of the transmission whose turn it is. -/
def execTxSequenceStart (round : Option Sense) (s : State) : Host.Outcome State Fault Refusal := .next (s.roundNow round).sequenceStart

/-- RAMP_UP_START (04 R103): the PA is enabled and the ramp-up starts. -/
def execRampUpStart (s : State) : Host.Outcome State Fault Refusal :=
  .next (match s.radio.tx with
    | some t => if t.stage = .sequence then s.setRadio (fun r => { r with tx := some { t with stage := .rampUp } }) else s
    | none => s)

/-- The bad word among the data bytes of a transmit chain, as the address of its block's data, with the bytes it uses (13 R325). -/
def State.chainBad (s : State) (first : Bool) : List Nat → Option (Nat × Nat)
  | [] => none
  | b :: bs =>
    let a := blockAddr b + dataStart first true
    let n := bitsOf (s.linkWord b) 16 7
    if s.rangeBad a n then some (a, n) else s.chainBad false bs

/-- ON_AIR (04 R103): T0, the first preamble sample; TX_ON is published. A frame whose data holds a double-bit error ramps down and ends
HW_FAULT once the modulator meets it (21 R470). -/
def execOnAir (s : State) : Host.Outcome State Fault Refusal :=
  .next (match s.radio.tx with
    | some t =>
      if t.stage = .rampUp then
        (let s1 := ((s.setRadio (fun r => { r with tx := some { t with stage := .onAir, onAirAt := s.count } })).setPageSt P.RTX 3).event P.RAD 1
         match s1.chainBad true t.chain with
         | some (a, n) => (s1.faultRange a n).txFail 6
         | none => s1)
      else s
    | none => s)

/-- The last sample of a frame has left (04 R103, R112; 09 R241): the detector takes a measured frame, an acknowledgement's record gets
ACK_SENT, and its context is free. -/
def State.frameSent (s1 : State) (t : TxJob) (det : Option Int) : State :=
  let s2 := optDo det s1 (fun e => s1.detector t e)
  match t.src with
  | .op => s2
  | .ack k =>
    let s3 := optDo (s2.ctxs.getD k ctx0).headRec s2 (fun a => s2.setRecFlag a 1)
    let s4 := (s3.event P.LNK 2).ctxFree k
    optDo s4.radio.abortOp s4 (fun op => (s4.setRadio (fun r => { r with abortOp := none })).abortNow op)

/-- FRAME_TX_END (04 R103, R112, R114; 05 R122; 09 R241): TE, the last sample of the frame; the transition to the exit state begins. `det` is the output measured over the frame minus
the applied power in 1/32 dB; it counts for a measured frame only. An acknowledgement's record gets ACK_SENT. -/
def execFrameTxEnd (det : Option Int) (s : State) : Host.Outcome State Fault Refusal :=
  .next (match s.radio.tx with
    | none => s
    | some t =>
      if t.stage ≠ .onAir then s
      else
        let t1 := { t with stage := .rampDown, te := s.count }
        let s1 := (((s.setRadio (fun r => { r with tx := some t1 })).setPageSt P.RTX 4).event P.RAD 2).exitBegins t1
        let meas := decide (usTicks 40 ≤ subTicks s.count t.onAirAt) && decide (0 ≤ t.applied) && !t.ilim
        s1.frameSent t (if meas then det else none))

/-- RAMP_DOWN_END (04 R96, R103; 05 R133): the PA is off and the reservation ends. A transmission that waits is judged from here on, since
its earliest T0 counts from this instant. -/
def execRampDownEnd (s : State) : Host.Outcome State Fault Refusal :=
  .next (match s.radio.tx with
    | none => s
    | some t =>
      if t.stage ≠ .rampDown then s
      else
        let s1 := (s.setRadio (fun r => { r with tx := some { t with stage := .tail } })).setPageSt P.RTX 1
        let s2 := s1.crsRelease (match t.src with | .op => .tx | .ack k => .ack k)
        let aborting := match s2.radio.op with | some o => o.opcode == opAbort | none => false
        if s2.txWaits && !aborting && s2.radio.txNext.isNone then s2.txEnd t else s2)

/-- ANT_SEL_EXIT (04 R102, R103; 05 R122, R135, R141): 6 µs after the ramp-down started the transmission has ended. -/
def execAntSelExit (s : State) : Host.Outcome State Fault Refusal :=
  .next (match s.radio.tx with
    | none => s
    | some t => if t.stage ≠ .tail then s else s.txEnd t)

/-- TURN_ROUND_RX_RELEASE (05 R135 to R137): TE + 18 µs, or the receiver's start if that is later: blanking ends and the receive state
is entered. -/
def execTurnRoundRxRelease (s : State) : Host.Outcome State Fault Refusal :=
  .next (if s.radio.turnRx && s.rxRunning && !s.txSending then
      (let s1 := s.unblank.setRadio (fun r => { r with turnRx := false })
       if s1.on F.RAD_STATE_MOVING && (s1.get F.RAD_STATE_TARGET == 2 || s1.get F.RAD_STATE_TARGET == 3)
       then (s1.enterState (s1.get F.RAD_STATE_TARGET)).finishMove else s1)
    else s)

/-- UNDERRUN (04 R101): data did not reach the modulator in time. -/
def execUnderrun (s : State) : Host.Outcome State Fault Refusal :=
  .next (match s.radio.tx with
    | some t =>
      if t.stage = .sequence ∨ t.stage = .rampUp ∨ t.stage = .onAir then
        ((s.put F.RTX_TX_STAT_UNDERRUN 1).flag P.RTX 1).txFail 5
      else s
    | none => s)

/-- ACK_FAIL (09 R242): a committed acknowledgement does not reach TE, by underrun or by a fault of the device. -/
def execAckFail (underrun : Bool) (s : State) : Host.Outcome State Fault Refusal :=
  .next (match s.radio.tx with
    | some t =>
      (match t.src with
       | .ack _ =>
         if t.stage = .sequence ∨ t.stage = .rampUp ∨ t.stage = .onAir then
           (if underrun then ((s.put F.RTX_TX_STAT_UNDERRUN 1).flag P.RTX 1).txFail 5 else s.txFail 6)
         else s
       | .op => (match s.ackDue with
         | some (k, _) => s.ackNotSent k
         | none => s))
    | none => (match s.ackDue with
      | some (k, _) => s.ackNotSent k
      | none => s))

/-- ILIM (04 R116): the current limit of TX_HP acts during a frame. -/
def execIlim (s : State) : Host.Outcome State Fault Refusal :=
  .next (match s.radio.tx with
    | some t =>
      if t.path = 2 ∧ (t.stage = .rampUp ∨ t.stage = .onAir) then
        ((s.setRadio (fun r => { r with tx := some { t with ilim := true } })).put F.RTX_TX_STAT_ILIM 1).flag P.RTX 2
      else s
    | none => s)

/-- CCA_WINDOW_END (09 R235, R236; 05 R141): the assessment of a TX_CCA. `power` is the mean power at the pin over the window,
`carrier` whether a preamble, sync or LTF was detected in it. A power between two dBm is shown as one of them, by a free value
(log entry 1). -/
def execCcaWindowEnd (power : Int) (carrier : Bool) (s : State) : Host.Outcome State Fault Refusal :=
  .next (match s.radio.tx with
    | none => s
    | some t =>
      if t.stage ≠ .cca ∨ ¬ s.rxRunning then s
      else
        let u := s.unitOf t.desc
        let used := ((s.slices ++ s.lanes).filter (fun x => x.stream.isSome)).length
        let hasStream := (match u with | some v => (s.slot v).stream.isSome | none => false) || decide (used < nSlices s.variant)
        if !hasStream then (s.put F.LNK_CCA_STAT_NOSTREAM 1).txNotSent 5
        else
          let pw := power + s.rssiOfs
          let mode := t.copy.cca % 4
          let ed := decide (4 * signed8 (bitsOf t.copy.cca 8 8) ≤ pw)
          let inFrame := match u with
            | some v => (match (s.slot v).frame with | some f => f.synced | none => false)
            | none => false
          let cs := carrier || inFrame
          let busy := if mode = 2 then cs else if mode = 3 then (if s.on F.LNK_CFG_CCA3_AND then ed && cs else ed || cs) else ed
          let (tie, s1) := if pw % 4 ≠ 0 then (match s.freeVal with | (w, q) => ((w.toNat % 2 : Nat), q)) else (0, s)
          let s2 := (((s1.putInt F.LNK_CCA_STAT_ENERGY (pw / 4 + (tie : Nat))).put F.LNK_CCA_STAT_ED_BUSY (boolNat ed)).put
            F.LNK_CCA_STAT_CS_BUSY (boolNat cs)).put F.LNK_CCA_STAT_NOSTREAM 0
          if busy then (s2.countSat F.LNK_CCA_STAT_BUSY_COUNT).txNotSent 5 true
          else
            let first := addTicks s2.count (usTicks 36)
            let s3 := (s2.setRadio (fun r => { r with tx := some { t with stage := .wait } })).notBeforeT0 first
            s3.squashOverlaps first (s3.airTicks t.copy (s3.txLength t.copy t.head)))

end Sys2Proof.Machine
end

