-- ==== Sys2Proof/Machine/Receive.lean ====
section
/-! DEFINITION. Reception up to the last sample of a frame: search, sync, the header check, capture switches and data blocks of slices
(06 R156 to R158) and lanes (07 R168, R173 to R175, R184), the end of receive operations (05 R130, 09 R228), and the units shared
under deadline (01 R23, 07 R189 to R191, 09 R243 to R245). -/

namespace Sys2Proof.Machine

/-- A reception whose preamble has just been detected. -/
def newFrame (power : Int) (captured : Bool) (entry : Option Nat) : RxFrame :=
  { power := power, captured := captured, synced := false, alt := false, errs := 0, rssi := 0, phase := 0, tstamp := 0,
    header := false, len := 0, fcsLen := 0, phy := 0, rateByte := 0, prof := ⟨0, [], 0, 0, false⟩, endAt := 0, blocks := [],
    bytes := [], mac := none, badHdr := false, early := 0, judged := none, lookup := .idle, spec := none, squashed := false, gainStep := false,
    clipped := false, lateInput := false, entry := entry, meas := none,
    stream := ⟨0, false, ⟨[], [], 0⟩⟩ }

/-- What a header check found: the length, the FCS bytes, the PHY byte of the metadata and the copy at the rate the header names. -/
structure HeaderOk where
  len    : Nat
  fcsLen : Nat
  phy    : Nat
  copy   : DescCopy
  deriving DecidableEq, Repr

/-- A rate index put into a descriptor copy. -/
def DescCopy.withRate (c : DescCopy) (r : Nat) : DescCopy := { c with mode := putBits c.mode 4 4 r }

/-- The sync word that the received bits fit within tolerance, and the bits that differ (06 R156): the one with fewer errors, SYNC_WORD where both have
as many. -/
def DescCopy.syncFit (c : DescCopy) (word : Nat) : Option (Bool × Nat) :=
  let len := if c.isLe then 32 else if c.modeCode = 3 ∨ c.modeCode = 4 then 16 else c.syncCfg % 64
  let want := if c.modeCode = 3 ∨ c.modeCode = 4 then 0xA700 else c.sync
  let differ (a : Nat) : Nat := ((List.range len).filter (fun i => a.testBit i != word.testBit i)).length
  let tol := min (bitsOf c.syncCfg 8 3) (if c.isLe then 2 else 4)
  let a := differ want
  let b := differ (c.syncCfg / 65536)
  let altOn := c.syncCfg.testBit 12 && len == 16 && (c.modeCode == 1 || c.modeCode == 2)
  if altOn && decide (b ≤ tol) && decide (b < a) then some (true, b) else if a ≤ tol then some (false, a) else none

/-- A field of AUX put into a descriptor copy. -/
def DescCopy.withAux (c : DescCopy) (lo width v : Nat) : DescCopy := { c with aux := putBits c.aux lo width v }

/-- The header check of a slice (06 R157, R530). -/
def checkHeader (c : DescCopy) (alt : Bool) (h : PhyHeader) : Option HeaderOk :=
  let m := c.modeCode
  let ok (len fcs phy : Nat) (c1 : DescCopy) : Option HeaderOk := some ⟨len, fcs, phy + (if fcs = 4 then 8 else 0), c1⟩
  if m = 1 then
    let fcs := c.rxFcsLen h.fcs2
    if h.ms || h.reserved || h.len == 0 || decide (2047 < h.len) || decide (h.len < fcs) then none
    else ok h.len fcs (boolNat alt + 2 * boolNat h.dw) (c.withAux 0 1 (boolNat alt))
  else if m = 2 then
    let phy := boolNat c.fecSel + 2 * boolNat (c.whiten == 2)
    let fcs := c.rxFcsLen h.fcs2
    if c.hdrFmt = 0 then
      (if h.ms || h.reserved || h.len == 0 || decide (2047 < h.len) || decide (h.len < fcs) ||
          (c.fcsSel == 1 && !h.fcs2) || (c.fcsSel == 2 && h.fcs2) then none
       else ok h.len fcs phy c)
    else if c.hdrFmt = 1 then
      (if h.len = 0 ∨ 255 < h.len ∨ h.len < fcs then none else ok h.len fcs phy c)
    else ok (c.aux % 2 ^ 11) fcs phy c
  else if m = 3 then
    (if h.len < 5 ∨ 127 < h.len ∨ h.reserved then none else ok h.len 2 0 c)
  else if m = 4 then
    (if 3 < h.rateMode ∨ h.len = 0 ∨ 2047 < h.len ∨ h.reserved then none
     else ok h.len 2 (1 + 16 * h.rateMode) (c.withAux 0 2 h.rateMode))
  else
    if 255 < h.len ∨ (m = 7 ∧ 1 < h.ci) then none
    else ok (h.len + 5) 3 (2 + (if m = 7 then 1 else 0) + (if m = 7 ∧ h.ci = 1 then 4 else 0)) (if m = 7 then c.withRate h.ci else c)

/-- Whether the header check sequence of the 48 FAO header bits `b` is right (07 R174). -/
def faoHcs (b : Nat) : Bool := faoHcsBits (lsbBits 34 b) == lsbBits 8 (b / 2 ^ 34)

/-- The deadline order of shared requests (01 R23, 09 R244): earlier deadline first, the transmission's before the others, then rank. -/
def reqBefore (now : Nat) (a b : SharedReq) : Bool :=
  let d (r : SharedReq) : Nat := (r.deadline + 2 ^ 47 + 2 ^ 48 - now % 2 ^ 48) % 2 ^ 48
  let tx (r : SharedReq) : Bool := r.who == .tx
  if d a = d b then (tx a && !tx b) || (tx a == tx b && decide (a.rank < b.rank)) else decide (d a < d b)

/-- The request of a unit that is served next. -/
def firstReq (now : Nat) (u : SharedUnit) (l : List SharedReq) : Option SharedReq :=
  (l.filter (fun r => r.unit == u)).foldl (fun o r => match o with
    | none => some r
    | some x => if reqBefore now r x then some r else some x) none

namespace State

/-- The timeline entry under which the radio receives. -/
def rxEntry (s : State) : Option Nat :=
  match s.radio.op with
  | some o => (match o.src with | .entry i => some i | _ => none)
  | none => none

/-- A receive operation is in progress whose instant has not come (09 R228). -/
def beforeStart (s : State) : Bool :=
  match s.radio.op with
  | some o => o.timed && (o.opcode == opRx || o.opcode == opRxMulti) && !notBefore s.count o.instant
  | none => false

/-- Whether a unit searches: assigned, the receiver running, not blanked, no reception in progress, no instant to wait for. -/
def searching (s : State) (u : RxUnit) : Bool :=
  !s.beforeStart && s.rxRunning && !s.on F.RAD_STATE_BLANK && (s.slot u).desc.isSome && (s.slot u).frame.isNone && s.unitUsable u

/-- What NIB_B keeps of a frame that asks for an acknowledgement and has a source (06 R148); its header has given its end. -/
def seenOf (s : State) (u : RxUnit) (f : RxFrame) : Option SeenFrame :=
  match f.mac with
  | some h => if h.ackReq && f.header then
      h.srcAddr.map (fun a => ⟨sourcePan h, a, f.tstamp, subTicks f.tstamp (nsTicks (shrNs (s.slot u).copy)), f.endAt, f.spec⟩) else none
  | none => none

/-- Two frames from one source with both sync words within one another's air time (06 R148). -/
def seenOverlap (a b : SeenFrame) : Bool :=
  a.addr == b.addr && a.pan == b.pan && notBefore b.sync a.first && notBefore a.last b.sync && notBefore a.sync b.first && notBefore b.last a.sync

/-- Put a reception on a unit. -/
def putFrame (s : State) (u : RxUnit) (f : RxFrame) : State := s.setSlot u { s.slot u with frame := some f }

/-- Whether some unit is between sync and the end of a frame. -/
def frameUnderWay (s : State) : Bool :=
  s.allUnits.any (fun u => match (s.slot u).frame with | some f => f.synced | none => false)

/-- A receive operation ends DONE: its window has closed with or without a frame, or its frame has ended (05 R130, 09 R228). -/
def rxOver (s : State) (noFrame : Bool) : State :=
  match s.radio.op with
  | some o =>
    if o.opcode = opRx ∨ o.opcode = opRxMulti then
      (let s1 := (s.setRadio (fun r => { r with op := none, waitAck := false, winShut := false })).endSrc o.src 1 o.slip noFrame false false
        (if noFrame then s.count else s.radio.lastRes.endAt)
       s1.opExit (if o.opcode = opRxMulti then 2 else o.exit) o.desc)
    else s
  | none => s

/-- A closed window with no frame under way and no acknowledgement due ends the operation (05 R130; 09 R228): NO_FRAME says that no sync
was found in it. -/
def windowCheck (s : State) : State :=
  if s.radio.winShut && !s.frameUnderWay && !s.radio.waitAck then s.rxOver (!s.radio.winSync) else s

/-- A unit returns to search with nothing delivered and nothing lost: its blocks return with no event (06 R156, R157). -/
def toSearch (s : State) (u : RxUnit) : State :=
  let bs := match (s.slot u).frame with | some f => f.blocks | none => []
  ((((s.setSlot u { s.slot u with frame := none }).freeAll bs).freshCopy u)).windowCheck

/-- A single receive on the unit's descriptor whose frame has ended is over (05 R130). -/
def singleRxEnds (s : State) (u : RxUnit) : State :=
  match s.radio.op with
  | some o => if o.opcode = opRx ∧ (s.slot u).desc = some o.desc ∧ s.radio.waitAck = false then s.rxOver false else s
  | none => s

/-- A frame lost for want of a buffer or by the decoder ends (06 R161, 07 R191): a single receive ends with it. -/
def loseAndEnd (s : State) (u : RxUnit) (code : Nat) : State :=
  (((s.loseFrame u code).setRadio (fun r => { r with lastRes := { end0 with endAt := s.count } })).singleRxEnds u).windowCheck

/-- The blocks a frame needs for its bytes so far (10 R258); NO_BUFFER where the free list runs dry. -/
def growFrame (s : State) (u : RxUnit) (f : RxFrame) (n : Nat) : Option (RxFrame × State) :=
  match s.takeBlocks .receive (blocksFor n - f.blocks.length) with
  | some (bs, s1) => some ({ f with blocks := f.blocks ++ bs }, s1.putFrame u { f with blocks := f.blocks ++ bs })
  | none => none

/-- Sync, an access address or the LTF is found (06 R156, R159; 07 R173; 10 R258): the stamp is taken, and the first block. -/
def syncFound (s : State) (u : RxUnit) (f : RxFrame) (alt : Bool) (errs : Nat) (rssi : Int) (phase : Byte) : State :=
  let f1 := { f with synced := true, alt := alt, errs := errs, power := rssi, rssi := rssi + s.rssiOfs, phase := phase.toNat, tstamp := s.count,
                     stream := ⟨0, false, (s.slot u).copy.code.fresh⟩ }
  let s1 := (s.setRadio (fun r => { r with winSync := true })).putFrame u f1
  match s1.takeBlocks .receive 1 with
  | some (bs, s2) => s2.putFrame u { f1 with blocks := bs }
  | none => s1.loseAndEnd u 0xB

/-- The header checks out (06 R157, R158; 07 R175): the length fixes the last sample; a capture switch is final. -/
def headerOk (s : State) (u : RxUnit) (f : RxFrame) (h : HeaderOk) (rateByte : Nat) (prof : Profile) : State :=
  let air := airNs h.copy prof.nbits h.len - shrNs h.copy
  let s1 := s.putFrame u { f with
    header := true, len := h.len, fcsLen := h.fcsLen, phy := h.phy, rateByte := rateByte, prof := prof,
    endAt := addTicks f.tstamp (nsTicks air), entry := s.rxEntry }
  if f.captured then s1.flag P.NBD 1 else s1

/-- The deadline of the requests of a reception on a unit (09 R244). -/
def rxDeadline (s : State) (u : RxUnit) (f : RxFrame) : Nat :=
  match f.spec with
  | some k => subTicks (s.ctxs.getD k ctx0).t0 (usTicks 12)
  | none => if f.header then f.endAt else addTicks f.tstamp (nsTicks (longestNs (s.slot u).copy f.alt))

/-- A request of a shared unit for a reception, with the trellis steps of a decoder segment. -/
def rxRequest (s : State) (u : RxUnit) (f : RxFrame) (unit : SharedUnit) (soft : List (Soft × Soft)) (final : Bool) : State :=
  { s with shared := s.shared ++ [⟨unit, s.rxDeadline u f, unitRank u, .rx u f.tstamp, soft, final⟩] }

/-- The frame on a unit that was stamped at an instant. -/
def stampedFrame (s : State) (u : RxUnit) (stamp : Nat) : Option RxFrame :=
  (s.slot u).frame.filter (fun f => f.synced && f.tstamp == stamp)

/-- A request served after its deadline (09 R245): counted and flagged; the acknowledgement of a reception or of a build squashes with
DEADLINE, a transmission underruns (04 R101). -/
def arbMiss (s : State) (r : SharedReq) : State :=
  let s1 := (s.countSat (match r.unit with
    | .decoder => F.LNK_ARB_STAT_MISS_FEC | .security => F.LNK_ARB_STAT_MISS_SEC
    | .lookup => F.LNK_ARB_STAT_MISS_NBT | .hveLookup => F.LNK_ARB_STAT_MISS_HVL)).flag P.LNK 5
  match r.who with
  | .tx => ((s1.put F.RTX_TX_STAT_UNDERRUN 1).flag P.RTX 1).txFail 5
  | .ack k => s1.squashCtx k 5
  | .rx u stamp =>
    let s2 := if s1.recUnit u && s1.on F.REC_TRIG_EN_ARB then s1.recTrigger 6 else s1
    match s2.stampedFrame u stamp with
    | some f => (match f.spec with
      | some k => s2.squashCtx k 5
      | none => s2.onFrame u (fun f => { f with lateInput := true }))
    | none => s2

/-- Take the next request of a unit into service (01 R23). -/
def serveNext (s : State) (unit : SharedUnit) : Option (SharedReq × State) :=
  match (if unit == .decoder && s.underTest 0x1200 then none else firstReq s.count unit s.shared) with
  | none => none
  | some r =>
    let s1 : State := { s with shared := removeFirst (· == r) s.shared }
    some (r, if notBefore s1.count r.deadline && r.deadline != s1.count then s1.arbMiss r else s1)

/-- A stream's soft bits overflow (07 R191). -/
def softOverflow (s : State) (u : RxUnit) : State :=
  let s1 := (((s.countSat F.FEC_STATS_OVERFLOW).flag P.FEC 1).reportFault 0x1200 .transient)
  let s2 : State := { s1 with shared := s1.shared.filter (fun r => !(r.unit == .decoder && r.servesRx u)),
                              inService := s1.inService.filter (fun r => !(r.unit == .decoder && r.servesRx u)) }
  s2.loseAndEnd u 6

/-- The bytes of a LOOKUP packet (11 R284). -/
def lookupBytes (k : NbtKey) (reserve : Bool) : List Byte :=
  (k.bytes ++ List.replicate (8 - k.bytes.length) 0).take 8 ++
    natLe 1 (boolNat k.kt + 2 * boolNat reserve + (if k.kt then 4 * (k.bytes.getD 2 0).toNat else 0)) ++ [0]

/-- The key of a frame's source address (10 R269): an extended address, or a short address with the index of its PAN. The PAN is the
source PAN ID or, where that was elided, the destination's; a PAN that is none of the device's has no key. -/
def sourceKey (s : State) (h : MacHdr) : Option NbtKey :=
  match h.srcAddr with
  | some (.ext a) => some ⟨false, natLe 8 a⟩
  | some (.short a) =>
    let pan := match h.srcPan with | some p => some p | none => h.dstPan
    (match pan with
     | some p =>
       (match (List.range 4).find? (fun n => (s.get F.FRM_PAN_CFG_EN).testBit n && s.get (F.FRM_PAN_PAN_ID n) == p) with
        | some n => some ⟨true, natLe 2 a ++ natLe 1 n⟩
        | none => none)
     | none => none)
  | none => none

/-- Whether a frame asks for an acknowledgement that NIB_B would build (09 R237), before the filter and the entry are judged. -/
def wantsAck (s : State) (c : DescCopy) (h : MacHdr) : Bool :=
  h.ackReq && c.macFrames && s.on F.LNK_CFG_SPEC_EN && s.enabled P.LNK &&
    (h.version == 2 || (decide (h.version < 2) && s.on F.LNK_ACK_CFG_IMM_EN))

/-- A lookup's answer is recorded (22 R496). -/
def recordLookup (s : State) (u : RxUnit) (v : Option NbtView) : State :=
  match v with
  | some w =>
    (s.recordUnit u 0x08 (w.index + 2 ^ 17 + w.words.getD 3 0 * 2 ^ 32)).recordUnit u 0x09
      (w.u.getD 0 + w.words.getD 2 0 / 65536 * 2 ^ 32 + w.words.getD 5 0 / 65536 * 2 ^ 48)
  | none => s.recordUnit u 0x08 0

end State

open State

/-- PREAMBLE_DETECT (06 R156): the correlator of a searching slice detects a preamble; the LE modes detect it with the access address. -/
def execPreambleDetect (slice : Nat) (power : Int) (s : State) : Host.Outcome State Fault Refusal :=
  .next (if s.searching (.slice slice) && !(s.slot (.slice slice)).copy.isLe then s.putFrame (.slice slice) (newFrame power false s.rxEntry) else s)

/-- SYNC_MATCH (06 R156, R159): the bits in which a slice looks for its sync word, the first received in bit 0; `rssi` is the power at the pin
over them. A slice of an LE mode finds preamble and access address together. -/
def execSyncMatch (slice : Nat) (lo hi : Half) (rssi : Int) (phase : Byte) (s : State) : Host.Outcome State Fault Refusal :=
  .next (
    let u : RxUnit := .slice slice
    let c := (s.slot u).copy
    let f0 := if c.isLe ∧ s.searching u = true then some (newFrame rssi false s.rxEntry) else (s.slot u).frame
    match f0, c.syncFit (lo.toNat + hi.toNat * 65536) with
    | some f, some (alt, errs) => if f.synced || s.on F.RAD_STATE_BLANK then s else s.syncFound u f alt errs rssi phase
    | _, _ => s)

/-- SYNC_SEARCH_TIMEOUT (06 R156): no sync word followed the preamble; the slice returns to search. -/
def execSyncSearchTimeout (slice : Nat) (s : State) : Host.Outcome State Fault Refusal :=
  .next (match (s.slot (.slice slice)).frame with
    | some f => if f.synced then s else s.toSearch (.slice slice)
    | none => s)

/-- HEADER_CHECK (06 R157): the PHY header of a synchronised slice is checked. -/
def execHeaderCheck (slice : Nat) (hdr : PhyHeader) (s : State) : Host.Outcome State Fault Refusal :=
  .next (
    let u : RxUnit := .slice slice
    match (s.slot u).frame with
    | some f =>
      if !f.synced || f.header then s
      else match checkHeader (s.slot u).copy f.alt hdr with
        | some h => s.headerOk u f h (if h.copy.modeCode = 4 then hdr.rateMode else 0) f.prof
        | none => (s.countSat F.NBD_STATS_HDR_REJ).toSearch u
    | none => s)

/-- STF_DETECT (07 R172, R184): a lane detects an STF. -/
def execStfDetect (lane : Nat) (power : Int) (s : State) : Host.Outcome State Fault Refusal :=
  .next (if s.searching (.lane lane) then s.putFrame (.lane lane) (newFrame power false s.rxEntry) else s)

/-- LTF_END (07 R173): the last sample of the LTF takes the place of the end of the sync word. -/
def execLtfEnd (lane : Nat) (rssi : Int) (phase : Byte) (s : State) : Host.Outcome State Fault Refusal :=
  .next (match (s.slot (.lane lane)).frame with
    | some f => if f.synced || s.on F.RAD_STATE_BLANK then s else s.syncFound (.lane lane) f false 0 rssi phase
    | none => s)

/-- FAO_HEADER_CHECK (07 R168, R174, R175, R179): the header of an OFDM frame is checked. -/
def execFaoHeaderCheck (lane : Nat) (hdr : OfdmHeader) (s : State) : Host.Outcome State Fault Refusal :=
  .next (
    let u : RxUnit := .lane lane
    match (s.slot u).frame with
    | none => s
    | some f =>
      let c := (s.slot u).copy
      if !f.synced || f.header then s
      else match hdr with
        | .fao first second =>
          if c.modeCode ≠ 9 then s
          else
            let b := faoHeaderOf first second
            let code := bitsOf b 21 2
            let len := bitsOf b 10 11
            let fcs := if b.testBit 23 then 2 else 4
            let p := s.profile (bitsOf b 0 10)
            if !faoHcs b || bitsOf b 30 4 != 0 || code == 3 || len == 0 || decide (len < fcs) then
              (s.countSat F.OFD_STATS_HDR_REJ).toSearch u
            else
              let s1 := s.recordUnit u 0x0A (p.index + p.pcrc * 2 ^ 16 + boolNat p.valid * 2 ^ 32)
              if !p.valid then ((s1.profileFault (bitsOf b 0 10)).countSat F.OFD_STATS_NO_PROFILE).toSearch u
              else if bitsOf b 24 6 ≠ p.pcrc % 64 then
                (((s1.countSat F.OFD_STATS_PCHK_MISMATCH).flag P.OFD 2).toSearch u)
              else
                s1.headerOk u f ⟨len, fcs, 1 + (if fcs = 4 then 8 else 0), c.withAux 12 2 code⟩
                  (code + 4 * boolNat (fcs == 2)) p
        | .sun hcsOk reserved mcs len seed =>
          if c.modeCode ≠ 8 then s
          else if !hcsOk || reserved || ofdmRate c.rateIx mcs == 0 || decide (6 < mcs) || decide (len < 5) || decide (2047 < len) then
            (s.countSat F.OFD_STATS_HDR_REJ).toSearch u
          else s.headerOk u f ⟨len, 4, 1 + 8, c.withAux 0 3 mcs⟩ (mcs + 16 * (seed % 4)) f.prof)

/-- CAPTURE_SWITCH (06 R158, 07 R184): the second correlator sees a new preamble; `power` is its power at the pin. -/
def execCaptureSwitch (unit : RxUnit) (power : Int) (s : State) : Host.Outcome State Fault Refusal :=
  .next (match (s.slot unit).frame with
    | none => s
    | some f =>
      if s.on F.RAD_STATE_BLANK || decide (power < f.power + 4 * (s.get F.NBD_CAPTURE_CAPTURE_DB : Nat)) || f.meas.isSome then s
      else if !f.header then
        (((s.setSlot unit { s.slot unit with frame := none }).freeAll f.blocks).putFrame unit (newFrame power true s.rxEntry)).countSat
          F.NBD_STATS_CAPTURES
      else if s.on F.NBD_CAPTURE_PAYLOAD_EN then
        ((s.loseFrame unit 0xA).putFrame unit (newFrame power true s.rxEntry)).countSat F.NBD_STATS_CAPTURES
      else s)

/-- RX_DATA_BLOCK (06 R153; 10 R252, R258): further bytes of the PSDU arrive, de-whitened; those of a coded frame come from the decoder, after
the last sample too. Blocks leave the free list as they are needed. -/
def execRxDataBlock (unit : RxUnit) (bytes : List Byte) (s : State) : Host.Outcome State Fault Refusal :=
  .next (match (s.slot unit).frame with
    | none => s
    | some f =>
      let c := (s.slot unit).copy
      if !f.header || (f.meas.isSome && !f.coded c) then s
      else
        let f1 := { f with bytes := (f.bytes ++ f.nextBytes c bytes).take f.len }
        match s.growFrame unit f1 f1.bytes.length with
        | some (_, s1) => s1
        | none => s.loseAndEnd unit 0xB)

/-- RX_FRAME_END (05 R127, R134; 06 R159): the last sample of a frame, with what was measured over it; all bytes of an uncoded frame have
arrived by then. -/
def execRxFrameEnd (unit : RxUnit) (meas : Measures) (s : State) : Host.Outcome State Fault Refusal :=
  .next (match (s.slot unit).frame with
    | none => s
    | some f =>
      if !f.header || f.meas.isSome || (f.bytes.length != f.len && !f.coded (s.slot unit).copy) then s
      else
        let first := addTicks s.count (usTicks 36)
        (s.putFrame unit { f with meas := some meas, endAt := s.count }).notBeforeT0 first)

/-- RECEIVE_WINDOW_CLOSE (09 R228, R246): START + WINDOW of the receive entry in progress has come. With no sync found the reception ends
DONE with NO_FRAME; a frame whose sync fell inside the window is received to its end. -/
def execReceiveWindowClose (s : State) : Host.Outcome State Fault Refusal :=
  .next (match s.radio.op with
    | some o =>
      let w := (s.srcWords o.src).getD 3 0 % 2 ^ 20
      if (o.opcode = opRx ∨ o.opcode = opRxMulti) ∧ w ≠ 0 ∧ notBefore s.count (addTicks o.instant (usTicks w)) = true then
        (s.setRadio (fun r => { r with winShut := true })).windowCheck
      else s
    | none => s)

/-- SEGMENT_REQUEST (07 R187, R189): a coded stream sends the soft bits of 64 trellis steps to the decoder, or of the rest, at most 128 steps, at
its end. A lane's stream begins with its payload. More than 512 steps waiting, those in service among them, overflow the stream's buffer
(log entry 114). -/
def execSegmentRequest (unit : RxUnit) (soft : List Soft) (final : Bool) (s : State) : Host.Outcome State Fault Refusal :=
  .next (match (s.slot unit).frame with
    | none => s
    | some f =>
      let c := (s.slot unit).copy
      let xs := f.steps c soft
      if !f.coded c || !f.synced || f.stream.final || (c.onLane && !f.header) || !(if final then decide (xs.length ≤ 128) else xs.length == 64) then s
      else
        let held := ((s.shared ++ s.inService).filter (fun r => r.unit == .decoder && r.servesRx unit)).foldl (fun a r => a + r.soft.length) 0
        if 512 < held + xs.length then s.softOverflow unit
        else
          let g := { f with stream := { f.stream with sent := f.stream.sent + xs.length, final := final } }
          (s.putFrame unit g).rxRequest unit g .decoder xs final)

/-- The decoder request that ends: the one in service, or the next of the queue. -/
def State.nextSegment (s : State) : Option (SharedReq × State) :=
  match s.inService.find? (fun r => r.unit == .decoder) with
  | some r => some (r, { s with inService := removeFirst (· == r) s.inService })
  | none => s.serveNext .decoder

/-- The decoder's output on a segment goes to the reception that sent it, if it still stands (07 R188, R189). -/
def State.decodeSegment (s : State) (r : SharedReq) : State :=
  match r.who with
  | .rx u stamp =>
    (match s.stampedFrame u stamp with
     | some f => s.putFrame u { f with stream := { f.stream with trellis := (s.slot u).copy.code.run r.final f.stream.trellis r.soft } }
     | none => s)
  | _ => s

/-- SEGMENT_DONE (07 R188 to R191): the decoder finishes a segment. `waitNs` is the time from the frame's last soft bit to its last
decoded bit, which counts for a final segment. -/
def execSegmentDone (waitNs : Nat) (s : State) : Host.Outcome State Fault Refusal :=
  .next (
    match s.nextSegment with
    | none => s
    | some (r, s0) =>
      let s1 := s0.decodeSegment r
      if !r.final then s1
      else
        let s2 := if s1.get F.FEC_WAIT_MAX_FINAL < min waitNs 65535 then s1.put F.FEC_WAIT_MAX_FINAL (min waitNs 65535) else s1
        if 3500 < waitNs then (((s2.countSat F.FEC_STATS_LATE).flag P.FEC 0).reportFault 0x1200 .transient) else s2)

/-- SOFT_BIT_OVERFLOW (07 R191): a stream's soft-bit buffer overflows. -/
def execSoftBitOverflow (unit : RxUnit) (s : State) : Host.Outcome State Fault Refusal :=
  .next (match (s.slot unit).frame with
    | some f => if f.coded (s.slot unit).copy && f.synced then s.softOverflow unit else s
    | none => s)

/-- The instant at which the modulator needs byte `n` of the transmission's PSDU (09 R244). -/
def State.needAt (s : State) (t : TxJob) (n : Nat) : Nat :=
  addTicks (t.t0.getD (laterOf t.air (addTicks s.count (usTicks 8)))) (s.airTicks t.copy n)

/-- A transmission whose security is the engine's work: a SECURE chain, or an acknowledgement with a key. -/
def State.txSecured (s : State) (t : TxJob) : Bool :=
  match t.src with
  | .op => s.chainSecure t.head
  | .ack k => (s.ctxs.getD k ctx0).key.isSome

/-- SECURITY_REQUEST (09 R243, R244; 12 R311): a reception of a secured frame, the transmission or the build of an acknowledgement asks for a
16-byte block of CCM*. -/
def execSecurityRequest (stream : SecStream) (s : State) : Host.Outcome State Fault Refusal :=
  .next (
    let ask (deadline rank : Nat) (who : ReqFor) : State := { s with shared := s.shared ++ [⟨.security, deadline, rank, who, [], false⟩] }
    if !s.enabled P.SEC then s
    else match stream with
    | .rx unit =>
      (match (s.slot unit).frame with
       | some f => (match f.mac with
         | some h => if h.secured then s.rxRequest unit f .security [] f.meas.isSome else s
         | none => s)
       | none => s)
    | .tx block =>
      (match s.radio.tx with
       | some t =>
         if s.txSecured t && t.stage != .cca && s.txPast.isNone then ask (subTicks (s.needAt t (16 * block)) (usTicks 4)) 0 .tx else s
       | none => s)
    | .ack k =>
      let c := s.ctxs.getD k ctx0
      if c.busy && !c.committed && c.key.isSome then ask (subTicks c.t0 (usTicks 12)) (unitRank c.unit) (.ack k) else s)

/-- The frame a lookup request serves, with its header, while it is still in reception. -/
def State.reqFrame (s : State) (r : SharedReq) : Option (RxUnit × Nat × MacHdr) :=
  match r.who with
  | .rx u stamp => (s.stampedFrame u stamp).bind (fun f => f.mac.map (fun h => (u, stamp, h)))
  | _ => none

/-- The lookup port takes a request (09 R243; 10 R271): a remote lookup asks for the HVE queue and holds the port until it has left. -/
def State.portTakes (s : State) (r : SharedReq) : State :=
  match s.reqFrame r with
  | none => s
  | some (_, _, h) =>
    let s1 : State := { s with inService := s.inService ++ [r] }
    match s.sourceKey h with
    | some k =>
      let home := s.homeOf (keyHash k)
      if s.enabled P.NBT && home != s.myPos && s.homeUp home then { s1 with shared := s1.shared ++ [{ r with unit := .hveLookup }] } else s1
    | none => s1

/-- A remote lookup leaves on the link, and the lookup port is free (09 R243; 11 R284, R295). One whose home has gone meanwhile stays at the
port, to return as not found (11 R300). -/
def State.lookupLeaves (s : State) (r : SharedReq) : State :=
  let s1 : State := { s with inService := removeFirst (fun x => x.unit == .lookup && x.who == r.who) s.inService }
  match s.reqFrame r with
  | none => s1
  | some (u, stamp, h) =>
    match s1.sourceKey h with
    | none => s1
    | some k =>
      let home := s1.homeOf (keyHash k)
      let want := s1.wantsAck (s1.slot u).copy h
      let (t, s2) := s1.hvlTag
      let o : Outstanding := ⟨t, home, some (u, stamp), none, ptLookup, natLe 1 (boolNat want)⟩
      if !s.homeUp home then s else
      ({ s2 with hvl := { s2.hvl with waits := s2.hvl.waits ++ [o] } }).hvlSend ptLookup home t false true true (lookupBytes k want)

/-- SHARED_REQUEST_SERVED (09 R243 to R245): a shared unit that is free takes its next request: a decoder segment until SEGMENT_DONE, a
block of CCM*, a lookup until its return or until it leaves on the link, or the packet of a remote lookup. -/
def execSharedRequestServed (u : SharedUnit) (s : State) : Host.Outcome State Fault Refusal :=
  .next (
    if s.inService.any (fun r => r.unit == u) then s
    else match s.serveNext u with
      | none => s
      | some (r, s1) =>
        match u with
        | .security => s1
        | .decoder => { s1 with inService := s1.inService ++ [r] }
        | .lookup => s1.portTakes r
        | .hveLookup => s1.lookupLeaves r)

end Sys2Proof.Machine
end

