-- ==== Sys2Proof/Machine/Verdict.lean ====
section
/-! DEFINITION. NIB_B (09 R237 to R242, 10 R258 to R266): the frame filter, the neighbour lookup of a frame, the verdict with the
metadata record, and the speculative acknowledgement with its commit and its squash. -/

namespace Sys2Proof.Machine

/-- What the end of a frame shows: CHECK.FCS, CHECK.MIC, REPLAY, and the PSDU as it is stored (06 R160; 10 R262; 12 R310). -/
structure FrameCheck where
  fcs    : Nat
  mic    : Nat
  replay : Bool
  bytes  : List Byte
  deriving DecidableEq, Repr

/-- A secured PSDU is opened with a key (10 R262; 12 R310): its bytes with the plaintext in place, and whether its MIC holds. -/
def MicPlan.open (p : MicPlan) (key : List Nat) (fcsLen : Nat) (bytes : List Byte) : List Byte × Bool :=
  let m := micLen p.level
  let all := bytes.take (bytes.length - fcsLen)
  let mic := all.drop (all.length - m)
  match frameOpen key p.nonce p.level (bytes.take p.hdrLen) ((all.drop p.hdrLen).take (all.length - p.hdrLen - m)) mic with
  | (plain, ok) => (bytes.take p.hdrLen ++ plain ++ mic ++ bytes.drop (bytes.length - fcsLen), ok)

/-- LQI of a frame (06 R159): clamp(8 × (floor(SNR in dB) + 4) − 16 × SYNC_ERRS, 0, 255), SNR in 0.25 dB and saturating. -/
def lqiOf (snr : Int) (errs : Nat) : Nat := (clampInt 0 255 (8 * (clampInt (-128) 127 snr / 4 + 4) - 16 * (errs : Nat))).toNat

/-- The auxiliary security header of an acknowledgement (09 R237): level and key identifier as received, counter U. -/
def ackAux (h : MacHdr) (u : Nat) : List Byte :=
  if h.secured then natLe 1 (h.secLevel + 8 * h.keyMode) ++ natLe 4 u ++ h.keyId else []

namespace State

/-- PAN `n` is enabled. -/
def panOn (s : State) (n : Nat) : Bool := (s.get F.FRM_PAN_CFG_EN).testBit n

/-- This device's extended address as a number. -/
def extNat (s : State) : Nat := s.get F.FRM_EXT_ADDR_LO_ADDR_LO + s.get F.FRM_EXT_ADDR_HI_ADDR_HI * 2 ^ 32

/-- Whether a destination address is accepted with the PANs of a list (10 R261). -/
def addrOk (s : State) (a : MacAddr) (pans : List Nat) : Bool :=
  match a with
  | .ext x => x == s.extNat
  | .short x => x == 0xFFFF || pans.any (fun n => s.get (F.FRM_PAN_SHORT n) == x)

/-- Stage 2 of the filter (10 R261). -/
def destOk (s : State) (h : MacHdr) : Bool :=
  let on := (List.range 4).filter s.panOn
  match h.dstAddr, h.dstPan with
  | some a, some p =>
    if p = 0xFFFF then s.addrOk a on
    else
      let here := on.filter (fun n => s.get (F.FRM_PAN_PAN_ID n) == p)
      !here.isEmpty && s.addrOk a here
  | some a, none => s.addrOk a on
  | none, _ =>
    h.ftype == 0 || h.ftype == 2 ||
      ((h.ftype == 1 || h.ftype == 3 || h.ftype == 5) && (match h.srcPan with
        | some p => on.any (fun n => s.get (F.FRM_PAN_PAN_ID n) == p && (s.get F.FRM_PAN_CFG_COORD).testBit n)
        | none => false))

/-- Stages 1 and 2 of the filter (10 R260): 0 passed, else the stage that fails. -/
def earlyStage (s : State) (f : RxFrame) : Nat :=
  if s.on F.FRM_CFG_PROMISC then 0
  else if f.badHdr then 1
  else match f.mac with
    | none => 0
    | some h =>
      if !(s.get F.FRM_TYPES_TYPES).testBit h.ftype || !(s.get F.FRM_TYPES_VERSIONS).testBit h.version then 1
      else if s.destOk h then 0 else 2

/-- The entry a lookup found. -/
def foundView (f : RxFrame) : Option NbtView :=
  match f.lookup with
  | .found v => some v
  | .inFlight v => some v
  | _ => none

/-- Stages 3 and 4 of the filter (10 R260): 0 passed, 3 blocked, 4 retired, 5 unknown, 6 unsecured. -/
def entryStage (s : State) (f : RxFrame) : Nat :=
  if s.on F.FRM_CFG_PROMISC then 0
  else match foundView f with
    | none => if s.on F.FRM_CFG_UNKNOWN_OK then 0 else 5
    | some v =>
      if wordsFlag v.words efBlocked && !s.on F.FRM_CFG_KEEP_BLOCKED then 3
      else if wordsFlag v.words efRetired then 4
      else if wordsFlag v.words efSecReq && !(match f.mac with | some h => h.secured | none => false) then 6
      else 0

/-- A lookup has answered: stages 3 and 4 are decided (10 R260). -/
def lookupDone (s : State) (u : RxUnit) (f : RxFrame) (l : LookupState) : State :=
  let g := { f with lookup := l }
  s.putFrame u { g with judged := some (s.entryStage g) }

/-- The first of stages 1 to 4 that a frame has failed: 1 and 2 as its header was parsed, 3 and 4 as its lookup answered (10 R260); what was
not decided before the verdict is decided there. `early` says that the header was parsed before. -/
def headStage (s : State) (f : RxFrame) (early : Bool) : Nat :=
  let a := if early then f.early else s.earlyStage f
  if a ≠ 0 then a else f.judged.getD (s.entryStage f)

/-- A dropped frame is counted by the stage that failed (10 R260). -/
def countDrop (s : State) (stage : Nat) : State :=
  match stage with
  | 1 => s.countSat F.FRM_DROP0_TYPE
  | 2 => s.countSat F.FRM_DROP0_ADDR
  | 3 => s.countSat F.FRM_DROP0_BLOCKED
  | 4 => s.countSat F.FRM_DROP0_RETIRED
  | 5 => s.countSat F.FRM_DROP1_UNKNOWN
  | 6 => s.countSat F.FRM_DROP1_UNSECURED
  | 7 => s.countSat F.FRM_DROP1_FCS
  | 8 => s.countSat F.FRM_DROP1_MIC
  | 9 => s.countSat F.FRM_DROP2_REPLAY
  | _ => s

/-- The words of a found entry as they stand at the verdict: read again where the entry lies on this device. -/
def viewNow (s : State) (v : NbtView) : List Nat := if v.index / 16384 = s.myPos then s.entWords (v.index % 16384) else v.words

/-- The FCS of a received frame: 0 none, 1 pass, 2 fail (06 R153, R160, R526). -/
def fcsCode (c : DescCopy) (f : RxFrame) : Nat :=
  if f.fcsLen = 0 then 0
  else
    let body := f.bytes.take (f.bytes.length - f.fcsLen)
    let want := if c.isLe then crc24Bytes (crc24 (c.aux % 2 ^ 24) body) else fcsBytes f.fcsLen body
    if f.bytes.drop (f.bytes.length - f.fcsLen) = want then 1 else 2

/-- What opens a secured frame, by its header and the words of its neighbour entry (10 R262; 12 R307, R310). -/
def micPlan (s : State) (h : MacHdr) (ws : List Nat) : MicPlan :=
  ⟨(s.frameSlot h.keyMode (keyIndex h) (ws.getD 2 0 / 65536)).getD 0,
    frameNonce (natLe 4 (ws.getD 0 0) ++ natLe 4 (ws.getD 1 0)) h.counter h.secLevel, h.secLevel, h.hdrLen⟩

/-- The checks of a frame at its verdict (10 R262; 12 R307, R310, R311). -/
def checkFrame (s : State) (u : RxUnit) (f : RxFrame) : FrameCheck × State :=
  let fcs := fcsCode (s.slot u).copy f
  match f.mac with
  | none => (⟨fcs, 0, false, f.bytes⟩, s)
  | some h =>
    if !h.secured then (⟨fcs, 0, false, f.bytes⟩, s)
    else
      let view := foundView f
      let replay := match view with
        | some v => !h.fcSup && decide (h.counter ≤ (s.viewNow v).getD 3 0)
        | none => false
      let missed (t : State) : FrameCheck × State := (⟨fcs, 3, replay, f.bytes⟩, t.keyMiss)
      match view with
        | none => missed s
        | some v =>
          let ws := s.viewNow v
          if h.fcSup || wordsFlag ws efRetired || wordsFlag ws efAlias || !wordsFlag ws efValid || !(ws.getD 2 0).testBit 28 then missed s
          else if h.secLevel = 0 ∨ h.secLevel = 4 then (⟨fcs, 2, replay, f.bytes⟩, s.countSat F.SEC_STATS_MIC_FAIL)
          else match s.frameKey h.keyMode (keyIndex h) (ws.getD 2 0 / 65536) with
            | (none, s1) => missed s1
            | (some key, s1) =>
              let p := s1.micPlan h ws
              let s2 := s1.recordUnit u 0x0F (p.slot + s1.attr p.slot * 65536)
              match p.open key f.fcsLen f.bytes with
              | (bytes, ok) => (⟨fcs, if ok then 1 else 2, replay, bytes⟩, if ok then s2 else s2.countSat F.SEC_STATS_MIC_FAIL)

/-- Stages 5 to 7 of the filter (10 R260). -/
def endStage (s : State) (k : FrameCheck) : Nat :=
  if k.fcs = 2 ∧ ¬ s.on F.FRM_CFG_KEEP_BAD_FCS then 7
  else if k.mic = 2 ∧ ¬ s.on F.FRM_CFG_KEEP_BAD_MIC then 8
  else if k.replay ∧ ¬ s.on F.FRM_CFG_KEEP_REPLAY then 9
  else 0

/-- A frame valid for its neighbour (10 R265). -/
def frameValid (s : State) (f : RxFrame) (k : FrameCheck) : Bool :=
  match foundView f, f.mac with
  | some v, some h =>
    let ws := s.viewNow v
    k.fcs != 2 && (!h.secured || (k.mic == 1 && !k.replay)) && wordsFlag ws efValid && !wordsFlag ws efBlocked && !wordsFlag ws efRetired
  | _, _ => false

/-- The squash reason the verdict gives (01 R26): 1 FCS, 2 MIC, 3 replay, 4 entry, 0 none. -/
def verdictReason (s : State) (f : RxFrame) (k : FrameCheck) : Nat :=
  if k.fcs = 2 then 1
  else if k.mic = 2 ∨ k.mic = 3 then 2
  else if k.replay then 3
  else match foundView f with
    | some v =>
      let ws := s.viewNow v
      if wordsFlag ws efValid && !wordsFlag ws efBlocked && !wordsFlag ws efRetired then 0 else 4
    | none => 4

/-- The metadata record of a frame (06 R160), with RX_SEQ `seq`. -/
def metaRecord (s : State) (u : RxUnit) (f : RxFrame) (m : Measures) (k : FrameCheck) (seq : Nat) : List Byte × State :=
  let (sy, s1) := s.fit16 f.rssi
  let (mean, s2) := s1.fit16 (m.rssiMean + s1.rssiOfs)
  let unit := match u with | .slice n => n | .lane n => 32 + n
  let snr := clampInt (-128) 127 m.snr
  let nbt := match foundView f with | some v => v.index % 2 ^ 17 + 2 ^ 17 | none => 0
  let pos := if s2.hvlMaster || s2.hvlSlave then s2.hvlPos else 0
  let ackReq := match f.mac with | some h => h.ackReq | none => false
  let flags := boolNat f.captured + 4 * boolNat f.squashed + 8 * pos + 64 * boolNat f.gainStep + 128 * boolNat f.clipped + 256 * boolNat ackReq
  (natLe 6 f.tstamp ++ natLe 1 f.phase ++ natLe 1 ((s2.slot u).desc.getD 0) ++ natLe 1 unit ++ natLe 1 f.phy ++ natLe 2 sy ++ natLe 2 mean ++
    natLe 1 (lowBits 8 snr) ++ natLe 1 (lqiOf m.snr f.errs) ++ natLe 2 (lowBits 16 (clampInt (-32768) 32767 m.cfo)) ++
    natLe 1 (f.errs + 8 * boolNat f.alt) ++ natLe 1 (k.fcs + 4 * k.mic + 16 * boolNat k.replay) ++ natLe 4 nbt ++ natLe 2 f.len ++
    natLe 2 flags ++ natLe 4 seq, s2)

/-- The OFDM record of a lane's frame (07 R182). -/
def ofdmRecord (s : State) (c : DescCopy) (f : RxFrame) (m : Measures) : List Byte :=
  let fao := c.modeCode == 9
  let map := fao && s.on F.OFD_CFG_SNRMAP_EN
  let snr := f.laneSnr c m
  let nsym := if fao then faoSymbols f.prof.nbits (f.rateByte % 4) f.len else sunSymbols c.rateIx (f.rateByte % 8) f.len
  natLe 1 (if fao then 2 else 1) ++ natLe 1 f.rateByte ++ natLe 2 f.prof.index ++ natLe 2 nsym ++
    natLe 2 f.prof.nbits ++ natLe 1 (boolNat map) ++ natLe 1 (lowBits 8 snr.lowest) ++ natLe 6 0 ++
    (if map then (snr.data ++ snr.pilots).flatMap (fun q => natLe 1 (lowBits 8 q)) else [])

/-- What was measured over a frame, with the SNR of a lane's from its subcarriers (07 R173). -/
def measured (s : State) (u : RxUnit) (f : RxFrame) (m : Measures) : Measures :=
  match u with
  | .lane _ => { m with snr := (f.laneSnr (s.slot u).copy m).mean }
  | .slice _ => m

/-- A slave forwards its frames (11 R294). -/
def forwards (s : State) : Bool := s.hvlSlave && s.on F.HVL_CFG_FWD

/-- The stage of R260, 1 to 7, that a code of a failed stage names: blocked, retired and unknown are one stage (10 R260; 22 R502). -/
def dropStage (code : Nat) : Nat := if code < 3 then code else if code < 6 then 3 else code - 2

/-- The records of a frame (06 R160; 07 R182): the metadata record, and on a lane the OFDM record after it. -/
def frameRecords (s : State) (u : RxUnit) (f : RxFrame) (m : Measures) (k : FrameCheck) : List Byte × State :=
  match s.metaRecord u f m k s.rxSeq, u with
  | (r, s1), .lane _ => (r ++ s1.ofdmRecord (s1.slot u).copy f m, s1)
  | x, .slice _ => x

/-- A frame reaches its verdict while its channel is recorded (22 R493, R503): what a replay gives again. -/
def recFrame (s : State) (u : RxUnit) (f : RxFrame) (k : FrameCheck) (stage : Nat) (trail : List Byte) : State :=
  if s.recActive && s.recUnit u && s.get F.REC_CFG_MODE == 0 then
    let c := (s.slot u).copy
    let plan := match f.mac, foundView f with
      | some h, some v => if (k.mic = 1 ∨ k.mic = 2) ∧ h.secLevel % 4 ≠ 0 then some (s.micPlan h (s.viewNow v)) else none
      | _, _ => none
    let r : RecFrame :=
      ⟨(f.tstamp + 2 ^ 48 - nsTicks (shrNs c) % 2 ^ 48) % 2 ^ 48, f.bytes, f.fcsLen, trail, plan, dropStage stage, f.spec, f.squashed, false⟩
    { s with recorder := { s.recorder with frames := s.recorder.frames ++ [r] } }
  else s

/-- Store a frame and queue it, or put it into the forwarding queue (10 R258, 11 R294); none where the free list runs dry. -/
def deliver (s : State) (u : RxUnit) (f : RxFrame) (k : FrameCheck) (trail : List Byte) : Option State :=
  let data := k.bytes ++ trail
  match s.growFrame u f data.length with
  | none => none
  | some (f1, s1) =>
    let s2 := s1.storeChain f1.blocks f1.len trail.length 0 data
    some (if s2.forwards then
        ({ s2 with hvl := { s2.hvl with fwdQ := s2.hvl.fwdQ ++ [f1.blocks.headD 0] } }).forwardKick
      else { s2.queueFrame f1.blocks with rxSeq := (s2.rxSeq + 1) % 2 ^ 32 })

/-- The address of FLAGS in the metadata of a chain with head `b` and a body of `n` bytes (10 R250 to R252). -/
def flagsAddr (blocks : List Nat) (n : Nat) : Nat :=
  let at_ := n + 26
  if at_ < 120 then blockAddr (blocks.headD 0) + 8 + at_
  else blockAddr (blocks.getD (1 + (at_ - 120) / 124) 0) + 4 + (at_ - 120) % 124

/-- The sequence bits of a received LE PDU (09 R248): NEW, ACKED, SN and NESN of the context; whether the peer acknowledged. -/
def leUpdate (s : State) (c : DescCopy) (f : RxFrame) (crcOk : Bool) : State × Bool :=
  match f.entry.filter (fun _ => c.isLe) with
  | none => (s, false)
  | some i =>
    let w := (s.timeline.getD i entry0).words.getD 2 0
    if !w.testBit 31 then (s, false)
    else
      let k := bitsOf w 28 3
      if !crcOk then (s.put (F.LNK_LE_CTX_ACKED k) 0, false)
      else
        let b := (f.bytes.headD 0).toNat
        let sn := boolNat (b.testBit 3)
        let nesn := boolNat (b.testBit 2)
        let isNew := sn == s.get (F.LNK_LE_CTX_NESN k)
        let acked := nesn != s.get (F.LNK_LE_CTX_SN k)
        let s1 := (s.put (F.LNK_LE_CTX_NEW k) (boolNat isNew)).put (F.LNK_LE_CTX_ACKED k) (boolNat acked)
        let s2 := if isNew then s1.put (F.LNK_LE_CTX_NESN k) (1 - s1.get (F.LNK_LE_CTX_NESN k)) else s1
        (if acked then s2.put (F.LNK_LE_CTX_SN k) (1 - s2.get (F.LNK_LE_CTX_SN k)) else s2, acked)

/-- The home device hears of a frame without a pending speculation (10 R265, R266; 11 R295). -/
def noSpecVerdict (s : State) (f : RxFrame) (valid : Bool) (lqi : Nat) : State :=
  match foundView f with
  | none => s
  | some v =>
    let remote := v.index / 16384 != s.myPos
    let inFc := match f.mac with | some h => if h.secured && !h.fcSup then some h.counter else none | none => none
    let u := if remote then v.u else none
    if valid || u.isSome then s.sendVerdict v.index false u.isSome valid inFc u f.rssi lqi else s

/-- The verdict passes a speculation on: link quality is updated at once on this device, the rest waits for the commit. -/
def specPassed (s : State) (k : Nat) (f : RxFrame) (lqi : Nat) (headRec : Option Nat) : State :=
  match s.ctxs[k]? with
  | none => s
  | some c =>
    let s1 : State := { s with ctxs := s.ctxs.set k { c with passed := true, rssi := f.rssi, lqi := lqi, headRec := headRec } }
    if c.remote then s1
    else s1.applyVerdict (c.index % 16384) false false true none none f.rssi lqi (if s1.hvlMaster || s1.hvlSlave then s1.myPos else 0)

/-- After its verdict the unit searches again, and a single receive ends, at once or after the acknowledgement (05 R130). -/
def afterVerdict (s : State) (u : RxUnit) (waits : Bool) : State :=
  let s1 := ((s.setSlot u { s.slot u with frame := none }).freshCopy u)
  if waits then
    (match s1.radio.op with
     | some o => if o.opcode = opRx ∧ (s1.slot u).desc = some o.desc then s1.setRadio (fun r => { r with waitAck := true }) else s1
     | none => s1)
  else (s1.singleRxEnds u).windowCheck

/-- A frame is past its verdict: it is kept while one that is on air may overlap it (06 R148). -/
def noteSeen (s : State) (u : RxUnit) (f : RxFrame) : State :=
  let live (b : SeenFrame) : Bool := s.allUnits.any (fun v => v != u && (match (s.slot v).frame with
    | some g => g.synced && notBefore b.last (subTicks g.tstamp (nsTicks (shrNs (s.slot v).copy)))
    | none => false))
  s.setRadio (fun r => { r with recent := ((s.seenOf u f).toList ++ r.recent).filter live })

/-- The frame with its header parsed from all its bytes where parsing was still due at its end (10 R259). -/
def parsedAtEnd (c : DescCopy) (f : RxFrame) : RxFrame :=
  if c.macFrames && f.mac.isNone && !f.badHdr then
    (match parseMac f.bytes (f.len - f.fcsLen) with
     | .ok h => { f with mac := some h }
     | _ => { f with badHdr := true })
  else f

/-- The IFS before an acknowledgement in µs (09 R234). -/
def ackIfs (s : State) (c : DescCopy) (f : RxFrame) : Nat :=
  let e := match f.entry with | some i => (s.timeline.getD i entry0).words.getD 3 0 / 2 ^ 20 % 4096 | none => 0
  max 36 (if e ≠ 0 then e else s.get (F.LNK_ACK_IFS_IFS_US c.modeCode))

/-- The Time Correction IE of an acknowledgement, if it is included (09 R239). -/
def ackTimeIe (s : State) (f : RxFrame) : List Byte :=
  match f.entry with
  | none => []
  | some i =>
    let ws := (s.timeline.getD i entry0).words
    if s.on F.LNK_ACK_CFG_TC_IE && (ws.getD 2 0).testBit 12 && bitsOf (ws.getD 1 0) 20 4 == opRx then
      (let d := signedN 32 ((ws.getD 4 0 + 2 ^ 32 - f.tstamp % 2 ^ 32) % 2 ^ 32)
       timeCorrIe (ticksUs (if s.on F.LNK_ACK_CFG_TC_SIGN then -d else d)))
    else []

/-- The bytes from LNK.ACK_IE0 to ACK_IE7 that are included (09 R237). -/
def ackIeBytes (s : State) : List Byte :=
  ((List.range 8).flatMap (fun n => natLe 4 (s.get (F.LNK_ACK_IE_BYTES n)))).take (min 32 (s.get F.LNK_ACK_CFG_ACK_IE_LEN))

/-- The descriptor copy of an acknowledgement: the rate of the frame it answers, and the profile of R181 for FAO. -/
def ackCopy (s : State) (c : DescCopy) (f : RxFrame) (ws : List Nat) : DescCopy :=
  if c.modeCode = 4 then c.withAux 0 2 f.rateByte
  else if c.modeCode = 1 then c.withAux 0 1 (boolNat f.alt)
  else if c.modeCode = 8 then c.withAux 0 3 (f.rateByte % 8)
  else if c.modeCode = 9 then
    let w := ws.getD 5 0
    let p := if w.testBit 10 && (s.profile (w % 1024)).valid then w % 1024 else 0
    let code := if s.get F.OFD_CFG_ACK_CODE = 3 then 0 else s.get F.OFD_CFG_ACK_CODE
    ((c.withAux 0 10 p).withAux 12 2 code).withAux 16 1 (boolNat (f.fcsLen == 2))
  else c

/-- The own address an enhanced acknowledgement carries with SRC_ADDR = 1: the short address the frame was sent to, else EXT_ADDR
(log entry 14). -/
def ackOwn (s : State) (h : MacHdr) : Option MacAddr :=
  if s.on F.LNK_ACK_CFG_SRC_ADDR then
    (match h.dstAddr with
     | some (.short a) => if a = 0xFFFF then some (.ext s.extNat) else some (.short a)
     | _ => some (.ext s.extNat))
  else none

/-- The committed transmissions (01 R22) with their air time: start, length. A TX_CCA counts from its acceptance, at the T0 a clear channel
would give it. -/
def committedAir (s : State) : List (Nat × Nat) :=
  let ofOp (o : RadOp) : List (Nat × Nat) :=
    let c := s.descRegs o.desc
    if o.opcode = opTx ∨ o.opcode = opTxCca then
      [(if o.opcode = opTx then o.instant else ccaT0 c o.instant, s.airTicks c (s.txLength c o.arg))] else []
  (s.ctxs.filter (fun c => c.busy && c.committed)).map (fun c => (c.t0, s.ackTicks c)) ++
  (match s.radio.queue, s.radio.heldTime with | some o, true => ofOp o | _, _ => []) ++
  (match s.radio.tslot, s.radio.tBlock with | some o, none => ofOp o | _, _ => []) ++
  (match s.radio.tx with
   | some t => if t.src != .op then [] else [(t.t0.getD (laterOf t.air (addTicks s.count (usTicks 8))), s.airTicks t.copy (s.txLength t.copy t.head))]
   | none => [])

/-- Whether an air time overlaps a committed transmission. -/
def airTaken (s : State) (t0 len : Nat) : Bool :=
  s.committedAir.any (fun a => notBefore (addTicks t0 len) a.1 && notBefore (addTicks a.1 a.2) t0)

/-- A frame from the same source, in progress on another unit or past its verdict, whose sync word ended first (06 R148); the lower unit is
first where both ended together. -/
def rivalBefore (s : State) (u : RxUnit) (f : RxFrame) : Bool :=
  match s.seenOf u f with
  | none => false
  | some a =>
    let older (b : SeenFrame) : Bool := seenOverlap a b && notBefore a.sync b.sync && a.sync != b.sync
    s.radio.recent.any older ||
      s.allUnits.any (fun v => v != u && (match (s.slot v).frame.bind (s.seenOf v) with
        | some b => older b || (seenOverlap a b && a.sync == b.sync && decide (unitRank v < unitRank u))
        | none => false))

/-- The speculations of frames from the same source whose sync word ended later (06 R148). -/
def rivalsAfter (s : State) (u : RxUnit) (f : RxFrame) : List Nat :=
  match s.seenOf u f with
  | none => []
  | some a =>
    (s.radio.recent ++ (s.allUnits.filter (· != u)).filterMap (fun v => (s.slot v).frame.bind (s.seenOf v))).filterMap
      (fun b => if seenOverlap a b then b.spec else none)

/-- The tune of an acknowledgement (04 R96, R529; 09 R240): at once, held, or refused. -/
def ackTune (s : State) (k freq : Nat) : State × TuneEnd :=
  if s.crs.reserved.isEmpty && s.crs.chan == some freq && (s.on F.SYN_CRS_STAT_LOCK || s.on F.SYN_CRS_STAT_SETTLING) then
    ((s.put F.SYN_CRS_STAT_SRC 3).crsReserve (.ack k), .tuned)
  else match s.crsRequest (.ackTune k) freq with
    | (s1, .tuned) => (s1.crsReserve (.ack k), .tuned)
    | r => r

/-- The header IEs of an acknowledgement (09 R237, R239). -/
def ackIes (s : State) (f : RxFrame) (csl : Bool) : List Byte :=
  s.ackTimeIe f ++ s.ackIeBytes ++ (if csl then [0x04, 0x0D, 0, 0, 0, 0] else [])

/-- The acknowledgement frame of a received frame, before its MIC and FCS, with counter `u` (09 R237). -/
def ackBytes (s : State) (f : RxFrame) (h : MacHdr) (v : NbtView) (u : Nat) : List Byte :=
  let enh := h.version == 2
  let fp := s.on F.LNK_ACK_CFG_FP || wordsFlag v.words efPending
  if enh then enhancedAck h (s.ackOwn h) fp (ackAux h u) (s.ackIes f (s.on F.LNK_CSL_CFG_EN)) else immediateAck h fp

/-- Build the acknowledgement in context `k` (09 R237 to R240; 10 R268; 12 R313). -/
def specBuild (s : State) (u : RxUnit) (f : RxFrame) (h : MacHdr) (v : NbtView) (k : Nat) (freq : Nat) : State :=
  let x := s.slot u
  let remote := v.index / 16384 != s.myPos
  let (uOut, s1) : Option Nat × State := if remote then (v.u, s)
    else if s.outSpent (v.index % 16384) then (none, s)
    else (match s.reserveOut (v.index % 16384) with | (w, t) => (some w, t))
  let enh := h.version == 2
  let csl := enh && s1.on F.LNK_CSL_CFG_EN
  let frame := s1.ackBytes f h v (uOut.getD 0)
  let (key, s2) := if enh && h.secured then
      s1.frameKey h.keyMode (keyIndex h) (v.words.getD 2 0 / 65536) else (none, s1)
  let c := s2.ackCopy x.copy f v.words
  let t0 := addTicks f.endAt (usTicks (s2.ackIfs x.copy f))
  let ies := if enh then s1.ackIes f csl else []
  let places := if csl then (cslPlaces ies (frame.length - ies.length)).filter (· != frame.length - 4) ++ [frame.length - 4] else []
  match s2.ackTune k freq with
  | (s3, r) =>
    let old := s3.ctxs.getD k ctx0
    let ctx : AckCtx := { old with
      busy := true, committed := false, unit := u, desc := x.desc.getD 0, copy := c, index := v.index, u := uOut,
      inFc := if h.secured && !h.fcSup then some h.counter else none, remote := remote, frame := frame, fcsLen := f.fcsLen, t0 := t0,
      deferred := (r == .held), headRec := none, passed := false, rssi := 0, lqi := 0, key := key,
      level := if enh && h.secured then h.secLevel else 0, hdrLen := frame.length, cslAt := places, gone := false }
    let s4 : State := ({ s3 with ctxs := s3.ctxs.set k ctx }).onFrame u (fun g => { g with spec := some k })
    s4.specRecord u k 1 0 h.counter

/-- The commit deadline of a frame whose length is known (01 R24): its acknowledgement's T0 − 12 µs. -/
def frameDeadline (s : State) (u : RxUnit) (f : RxFrame) : Nat :=
  subTicks (addTicks f.endAt (usTicks (s.ackIfs (s.slot u).copy f))) (usTicks 12)

/-- SPECULATION_START (01 R25; 06 R148; 09 R237 to R240; 11 R295, R296). -/
def specStart (s : State) (u : RxUnit) (f : RxFrame) (h : MacHdr) : State :=
  match f.lookup with
  | .idle => s
  | .waiting => s
  | .notFound => s.ackLost u 4
  | .inFlight _ => s.ackLost u 10
  | .found v =>
    let freq := (s.slot u).copy.freq
    if wordsFlag v.words efBlocked || wordsFlag v.words efRetired then s.ackLost u 4
    else if v.index / 16384 ≠ s.myPos ∧ s.hvl.verdicts.contains v.index then s.ackLost u 10
    else if f.lateInput then s.ackLost u 5
    else if v.index / 16384 = s.myPos ∧ h.version = 2 ∧ h.secured ∧ s.outSpent (v.index % 16384) then s.ackLost u 5
    else if f.meas.isSome && notBefore s.count (s.frameDeadline u f) && s.count != s.frameDeadline u f then s.ackLost u 5
    else if s.rivalBefore u f then s.ackLost u 9
    else
      let s0 := (s.rivalsAfter u f).foldl (fun t k => t.squashCtx k 9) s
      match s0.ctxs.findIdx? (fun c => !c.busy && c.block.isSome) with
      | none => s0.ackLost u 8
      | some k =>
        let c := s0.ackCopy (s0.slot u).copy f v.words
        let t0 := addTicks f.endAt (usTicks (s0.ackIfs (s0.slot u).copy f))
        let len := (s0.ackBytes f h v 0).length + (if h.version == 2 && h.secured then micLen h.secLevel else 0) + f.fcsLen
        if s0.airTaken t0 (s0.airTicks c len) || !inTxBand (s0.txFreq freq) ||
            (!s0.crs.reserved.isEmpty && s0.placeTaken) then
          (if inTxBand (s0.txFreq freq) then s0 else s0.flag P.SYN 9).ackLost u 7
        else s0.specBuild u f h v k freq

/-- The end of one reservation of the carrier synthesiser (04 R96). -/
def userEnd (s : State) : CrsUser → Option Nat
  | .ack j =>
    let c := s.ctxs.getD j ctx0
    some (addTicks (addTicks c.t0 (s.ackTicks c)) (usTicks (if in24 c.copy then 2 else 4)))
  | .tx => s.radio.tx.map (fun t =>
    addTicks (addTicks (t.t0.getD s.count) (s.airTicks t.copy (s.txLength t.copy t.head))) (usTicks (rampUs t.path)))

/-- The end of the reservations that keep a deferred acknowledgement waiting. -/
def reserveEnd (s : State) : Option Nat :=
  (s.crs.reserved.filterMap s.userEnd).foldl (fun o e => some (match o with | some x => laterOf x e | none => e)) none

/-- Why context `k` cannot commit at this moment: 0 if it can (01 R26; 09 R240; 10 R274). -/
def commitBar (s : State) (c : AckCtx) : Nat :=
  let ws := s.entWords (c.index % 16384)
  if notBefore s.count (subTicks c.t0 (usTicks 12)) && s.count != subTicks c.t0 (usTicks 12) then 5
  else if c.level ≠ 0 ∧ c.key = none then 5
  else if c.gone then 4
  else if !c.remote && (!wordsFlag ws efValid || wordsFlag ws efBlocked || wordsFlag ws efRetired) then 4
  else if c.deferred && (match s.reserveEnd with
      | some e => !notBefore (subTicks c.t0 (usTicks 32)) e
      | none => false) then 7
  else 0

/-- The context of a unit's frame that has not committed. -/
def ctxOf (s : State) (u : RxUnit) : Option Nat := s.ctxs.findIdx? (fun c => c.busy && !c.committed && c.unit == u)

/-- A commit (01 R25; 09 R241; 10 R266; 11 R295): counters, event, count. -/
def commitCtx (s : State) (k : Nat) (c : AckCtx) : State :=
  let s1 := s.sendVerdict c.index true false c.remote c.inFc c.u c.rssi c.lqi
  let s2 : State := { s1 with ctxs := s1.ctxs.set k { c with committed := true } }
  (((s2.countSat F.LNK_SPEC_STAT_COMMITS).event P.LNK 1)).specRecord c.unit k 0 0 (c.inFc.getD 0)

/-- A squash after the verdict: the receive operation that waited for the acknowledgement ends (05 R130). -/
def squashLate (s : State) (k : Nat) (reason : Nat) : State :=
  let c := s.ctxs.getD k ctx0
  let s1 := s.squashCtx k reason
  if c.passed then
    (match s1.rxOpEnds with
     | (s2, some (ex, d)) => s2.opExit ex d
     | (s2, none) => s2)
  else s1

/-- The frame asks for an acknowledgement, passes the filter so far, and has neither got a speculation nor lost it (09 R237). -/
def specOpen (s : State) (u : RxUnit) (f : RxFrame) (early : Bool) : Option MacHdr :=
  f.mac.filter (fun h => f.spec.isNone && !f.squashed && s.wantsAck (s.slot u).copy h && s.headStage f early == 0)

/-- The speculation that is still due at the verdict (01 R24 to R26): it starts with what there is; a lookup that has not answered is an
input that misses the commit (log entry 106). -/
def specDue (s : State) (u : RxUnit) (f : RxFrame) (early : Bool) : State :=
  match s.specOpen u f early with
  | none => s
  | some h => match f.lookup with
    | .idle => s.ackLost u 5
    | .waiting => s.ackLost u 5
    | _ => s.specStart u f h

/-- The verdict of a frame (01 R24 to R26; 10 R258 to R266). -/
def verdict (s0 : State) (u : RxUnit) (f0 : RxFrame) (m0 : Measures) : State :=
  let c := (s0.slot u).copy
  let m := s0.measured u f0 m0
  let early := f0.mac.isSome || f0.badHdr
  let fp := parsedAtEnd c f0
  let s := (s0.putFrame u fp).specDue u fp early
  let f1 := ((s.slot u).frame).getD fp
  match s.checkFrame u f1 with
  | (k, s1) =>
    let stage := if c.macFrames then (if s1.headStage f1 early ≠ 0 then s1.headStage f1 early else s1.endStage k)
      else (if k.fcs = 2 ∧ ¬ s1.on F.FRM_CFG_KEEP_BAD_FCS then 7 else 0)
    let lqi := lqiOf m.snr f1.errs
    let valid := s1.frameValid f1 k
    let why := if stage ≠ 0 ∧ s1.verdictReason f1 k = 0 then 4 else s1.verdictReason f1 k
    -- the speculation ends here for reasons 1 to 4, or waits for its commit
    let s2 := match f1.spec with
      | some j => if why ≠ 0 then s1.squashCtx j why else s1
      | none => s1
    let f2 := ((s2.slot u).frame).getD f1
    let s3 := if f2.spec.isNone then s2.noSpecVerdict f2 valid lqi else s2
    match (s3.noteSeen u f2).frameRecords u f2 m k with
    | (trail, s3a) => match (s3a.recFrame u f2 k stage trail).leUpdate c f2 (k.fcs == 1) with
    | (s4, acked) =>
      let ended (t : State) (queued : Bool) : State := t.setRadio (fun r =>
        { r with lastRes := ⟨1, false, queued, k.fcs != 2, acked, false, f2.endAt⟩ })
      if stage ≠ 0 then (ended (((s4.countDrop stage).freeAll f2.blocks)) false).afterVerdict u false
      else match s4.deliver u f2 k trail with
        | none => s4.loseAndEnd u 0xB
        | some s5 =>
          let blocks := match (s5.slot u).frame with | some g => g.blocks | none => f2.blocks
          let a := flagsAddr blocks f2.len
          match f2.spec with
          | some j => (ended (s5.specPassed j f2 lqi (some a)) true).afterVerdict u true
          | none => (ended s5 true).afterVerdict u false

end State

open State

/-- MAC_HEADER_PARSED (10 R259, R260, R271): the header parses, or not, from the bytes received so far; a frame that fails stage 1 or 2
is dropped at once with EARLY_DROP; otherwise its lookup asks for the lookup port. -/
def execMacHeaderParsed (unit : RxUnit) (s : State) : Host.Outcome State Fault Refusal :=
  .next (match (s.slot unit).frame with
    | none => s
    | some f =>
      if !f.header || f.mac.isSome || f.badHdr || !(s.slot unit).copy.macFrames then s
      else
        let f1 : Option RxFrame := match parseMac f.bytes (f.len - f.fcsLen) with
          | .more => none
          | .bad => some { f with badHdr := true }
          | .ok h => some { f with mac := some h }
        match f1 with
        | none => s
        | some g =>
          let st := s.earlyStage g
          let s1 := s.putFrame unit { g with early := st }
          if st ≠ 0 ∧ s1.on F.FRM_CFG_EARLY_DROP then (s1.countDrop st).toSearch unit
          else match g.mac with
            | some h =>
              if h.srcAddr.isSome then
                (s1.putFrame unit { g with early := st, lookup := .waiting }).rxRequest unit g .lookup [] false
              else s1.lookupDone unit { g with early := st } .notFound
            | none => s1)

/-- The answer of this device's table to a lookup of NIB_B for the frame on a unit (10 R264, R270, R271; 01 R29): an entry whose reservation
another device holds has an update in flight. -/
def State.lookupAnswer (s : State) (u : RxUnit) (h : MacHdr) : LookupState × State :=
  match (if s.enabled P.NBT then s.sourceKey h else none) with
  | none => (.notFound, s)
  | some k =>
    if s.homeOf (keyHash k) ≠ s.myPos then (.notFound, s)
    else match s.findKey k with
      | some i =>
        if s.entFlag i efAlias && s.entW i 3 % 2 ^ 17 / 16384 != s.myPos && s.homeUp (s.entW i 3 % 2 ^ 17 / 16384) && !s.searchBad k then
          s.remoteTarget (s.entW i 3 % 2 ^ 17) (s.wantsAck (s.slot u).copy h)
        else (match s.nbtLookup k with
          | (0, g, _, _, s2) =>
            let v : NbtView := ⟨g, s2.entWords (g % 16384), none⟩
            (if s2.hvl.rsv.any (fun r => r.2.1 == g % 16384) then .inFlight v else .found v, s2)
          | (_, _, _, _, s2) => (.notFound, s2))
      | none => (match s.nbtLookup k with | (_, _, _, _, s2) => (.notFound, s2))

/-- NBT_LOOKUP_RETURN (10 R264, R269 to R271; 22 R496): the answer to the lookup that holds the port reaches NIB_B, and the port is free; a
frame that has gone meanwhile gets none. The answer to a remote lookup comes in a packet. -/
def execNbtLookupReturn (unit : RxUnit) (s : State) : Host.Outcome State Fault Refusal :=
  .next (match s.inService.find? (fun r => r.unit == .lookup && r.servesRx unit) with
    | none => s
    | some r =>
      if s.shared.any (fun x => x.unit == .hveLookup && x.who == r.who) then s
      else
        let s1 : State := { s with inService := removeFirst (· == r) s.inService }
        match s1.reqFrame r, (s1.slot unit).frame with
        | some (_, _, h), some f =>
          (match s1.lookupAnswer unit h with
           | (.found v, s2) => (s2.lookupDone unit f (.found v)).recordLookup unit (some v)
           | (.inFlight v, s2) => (s2.lookupDone unit f (.inFlight v)).recordLookup unit (some v)
           | (_, s2) =>
             ((if s2.enabled P.NBT then s2.countSat F.NBT_STATS_MISSES else s2).lookupDone unit f .notFound).recordLookup unit none)
        | _, _ => s1)

/-- SPECULATION_START (01 R25; 09 R237 to R240): NIB_B starts the acknowledgement of a frame that passes the filter so far. -/
def execSpeculationStart (unit : RxUnit) (s : State) : Host.Outcome State Fault Refusal :=
  .next (match (s.slot unit).frame with
    | none => s
    | some f => match s.specOpen unit f true with
      | none => s
      | some h => s.specStart unit f h)

/-- FRAME_VERDICT (01 R24 to R26; 10 R258 to R266): the verdict of a frame whose last sample and whose last byte have been received. -/
def execFrameVerdict (unit : RxUnit) (s : State) : Host.Outcome State Fault Refusal :=
  .next (match (s.slot unit).frame with
    | some f => (match f.meas with
      | some m => if f.bytes.length = f.len then s.verdict unit f m else s
      | none => s)
    | none => s)

/-- CONTEXT_BLOCK_TAKE (09 R238): contexts without a block take blocks from the free list while LNK is enabled. -/
def execContextBlockTake (s : State) : Host.Outcome State Fault Refusal := .next (if s.enabled P.LNK then s.ctxTake else s)

/-- COMMIT (01 R24, R25; 09 R240, R241): the speculation of a unit's frame commits after the verdict, unless a case of R26 applies. -/
def execCommit (unit : RxUnit) (s : State) : Host.Outcome State Fault Refusal :=
  .next (match s.ctxOf unit with
    | none => s
    | some k =>
      let c := s.ctxs.getD k ctx0
      if !c.passed then s
      else if s.commitBar c ≠ 0 then s.squashLate k (s.commitBar c)
      else s.commitCtx k c)

/-- SQUASH (01 R26; 09 R240): a case of R26 that stands at this moment squashes the speculation of a unit's frame. -/
def execSquash (unit : RxUnit) (s : State) : Host.Outcome State Fault Refusal :=
  .next (match s.ctxOf unit with
    | none => s
    | some k =>
      let c := s.ctxs.getD k ctx0
      let why := if s.airTaken c.t0 (s.ackTicks c) then 7 else s.commitBar c
      if why = 0 then s else s.squashLate k why)

/-- COMMIT_DEADLINE (01 R24, R26, R28): T0 − 12 µs of an acknowledgement that has not committed, or that could not even begin for want of an
input. -/
def execCommitDeadline (unit : RxUnit) (s : State) : Host.Outcome State Fault Refusal :=
  .next (match s.ctxOf unit with
    | some k => if notBefore s.count (subTicks (s.ctxs.getD k ctx0).t0 (usTicks 12)) then s.squashLate k 5 else s
    | none => (match (s.slot unit).frame with
      | none => s
      | some f => if f.header && notBefore s.count (s.frameDeadline unit f) && (s.specOpen unit f true).isSome then s.ackLost unit 5 else s))

end Sys2Proof.Machine
end

