-- ==== Sys2Proof/Machine/Timeline.lean ====
section
/-! DEFINITION. The timeline (09 R221 to R233): staged entries, ENT_CMD, hand-over, links and repeats, completion records,
run-ahead; and what reads and writes of the LNK page do. -/

namespace Sys2Proof.Machine

/-- Fields of an entry's words (09 R222). -/
def entOp (ws : List Nat) : Nat := bitsOf (ws.getD 1 0) 20 4
def entMode (ws : List Nat) : Nat := bitsOf (ws.getD 1 0) 26 2
def entIrq (ws : List Nat) : Bool := (ws.getD 1 0).testBit 19
def entEvt (ws : List Nat) : Bool := (ws.getD 1 0).testBit 28
def entDevice (ws : List Nat) : Nat := bitsOf (ws.getD 1 0) 16 3

/-- The opcode that drives no radio action (09 R222, R223). -/
def opMark : Nat := 11

/-- The radio operation an entry stands for (09 R222, R227). -/
def entRadOp (i : Nat) (ws : List Nat) (start : Nat) : RadOp :=
  let o := entOp ws
  { src := .entry i, opcode := o, desc := ws.getD 2 0 % 64, exit := if o = opRxMulti then 0 else bitsOf (ws.getD 1 0) 24 2
    slot := bitsOf (ws.getD 2 0) 8 4
    arg := if o = opTx ∨ o = opTxCca then bitsOf (ws.getD 2 0) 16 9 else if o = opCal then ws.getD 4 0 % 64 else 0
    mask := if o = opRxMulti then ws.getD 4 0 + ws.getD 5 0 * 2 ^ 32 else 0
    timed := true, instant := start, slip := false, u := none }

/-- A reserved field of an entry that is not 0 (09 R222). -/
def entReserved (ws : List Nat) : Bool :=
  let o := entOp ws
  let w (n : Nat) := ws.getD n 0
  bitsOf (w 1) 29 3 != 0 || bitsOf (w 2) 6 2 != 0 || bitsOf (w 2) 13 3 != 0 || bitsOf (w 2) 25 3 != 0 ||
    bitsOf (w 6) 10 6 != 0 || bitsOf (w 6) 24 8 != 0 ||
    (if o = opRx then !(w 2).testBit 12 && w 4 != 0
     else if o = opRxMulti then false
     else if o = opCal then w 4 / 64 != 0
     else w 4 != 0) ||
    (o != opRxMulti && w 5 != 0)

namespace State

/-- Timeline entry `i`. -/
def ent (s : State) (i : Nat) : TlEntry := s.timeline.getD i entry0

/-- Change timeline entry `i`. -/
def setEnt (s : State) (i : Nat) (g : TlEntry → TlEntry) : State := { s with timeline := modifyAt s.timeline i g }

/-- ARM refuses an entry with MALFORMED (09 R223). -/
def entMalformed (s : State) (ws : List Nat) : Bool :=
  let o := entOp ws
  decide (opMark < o) || entMode ws == 3 || entReserved ws || (o != opMark && s.malformed (entRadOp 0 ws 0)) ||
    (bitsOf (ws.getD 6 0) 16 8 != 0 && ws.getD 7 0 == 0) ||
    ((ws.getD 2 0).testBit 31 && o != opRx && o != opTx && o != opTxCca)

/-- A completion record enters the FIFO of 32, or is lost with DONE_OVF (09 R229). -/
def pushDone (s : State) (word : Nat) : State :=
  if s.doneQ.length < 32 then { s with doneQ := s.doneQ ++ [⟨word, s.count % 2 ^ 32⟩] }
  else (s.put F.LNK_STAT_DONE_OVF 1).flag P.LNK 3

/-- The record of an entry with IRQ = 1, and its flag (09 R222, R229). -/
def recordDone (s : State) (i : Nat) (ws : List Nat) (status : Nat) (frame noFrame slip linked : Bool) : State :=
  if entIrq ws then
    (s.pushDone (i + 128 + status * 256 + boolNat frame * 2 ^ 12 + boolNat noFrame * 2 ^ 13 + boolNat slip * 2 ^ 14 +
      boolNat linked * 2 ^ 15)).flag P.LNK 0
  else s

/-- ARM of this device's entry `i` (09 R223, R224): the result, and the entry installed or nothing changed. -/
def entArm (s : State) (i : Nat) (ws : List Nat) : Nat × State :=
  if (s.ent i).state = .dispatched then (1, s)
  else if s.entMalformed ws then (2, s)
  else
    let rel := entMode ws != 0
    (0, s.setEnt i (fun _ => ⟨ws, if rel then .wait else .armed, 0,
      if rel then 0 else ws.getD 0 0 + ws.getD 1 0 % 65536 * 2 ^ 32, bitsOf (ws.getD 6 0) 16 8, false, none, false, false⟩))

/-- CANCEL of this device's entry `i` (09 R224). -/
def entCancel (s : State) (i : Nat) : Nat × State :=
  let e := s.ent i
  match e.state with
  | .dispatched => (1, s)
  | .armed | .wait =>
    (0, (s.setEnt i (fun e => { e with state := .empty, last := 5 })).recordDone i e.words 5 false false false false)
  | _ => (0, s)

/-- The words of entry `i` as READ copies them (09 R224): its start and the executions left as they stand. -/
def entReadWords (s : State) (i : Nat) : List Nat :=
  let e := s.ent i
  (List.range 8).map (fun n =>
    let w := e.words.getD n 0
    if n = 0 ∧ entMode e.words = 0 ∧ ¬ e.words.isEmpty then e.start % 2 ^ 32
    else if n = 1 ∧ entMode e.words = 0 ∧ ¬ e.words.isEmpty then putBits w 0 16 (e.start / 2 ^ 32)
    else if n = 6 then putBits w 16 8 e.reps
    else w)

/-- The codes of LNK.ENT_RES.STATE. -/
def entCode : EntryState → Nat
  | .empty => 0 | .armed => 1 | .wait => 2 | .dispatched => 3 | .done => 4

/-- LNK.ENT_RES of entry `i` with a result. -/
def entRes (s : State) (i result : Nat) : Nat :=
  result + entCode (s.ent i).state * 2 ^ 8 + (s.ent i).last * 2 ^ 12 + (s.ent i).reps * 2 ^ 16

/-- ENT_CMD on this device's timeline (09 R224): the result, the words READ returns, the state. -/
def entCmd (s : State) (op i : Nat) (ws : List Nat) : Nat × Option (List Nat) × State :=
  if op = 1 then (match s.entArm i ws with | (r, t) => (r, none, t))
  else if op = 2 then (match s.entCancel i with | (r, t) => (r, none, t))
  else if op = 3 then (0, some (s.entReadWords i), s)
  else (0, none, forN 128 (fun j t => (t.entCancel j).2) s)

/-- The staged words of an initiator. -/
def staged (s : State) (i : Initiator) : List Nat := (List.range 8).map (fun n => (s.regI i (Reg.LNK_ENT_W n)).toNat)

/-- Copy words to an initiator's staging registers. -/
def stage (s : State) (i : Initiator) (ws : List Nat) : State :=
  (List.range 8).foldl (fun t n => t.setRegI i (Reg.LNK_ENT_W n) (BitVec.ofNat 32 (ws.getD n 0))) s

/-- The bytes of an ENTRY message (11 R285). -/
def entryBytes (op ix : Nat) (ws : List Nat) : List Byte :=
  natLe 1 op ++ natLe 1 ix ++ (if op = 1 then ws.flatMap (natLe 4) else [])

/-- A position of the cascade that is no member, or any other device outside a cascade (09 R232). -/
def noDevice (s : State) (d : Nat) : Bool :=
  if s.hvlMaster then d != 0 && !(s.get F.HVL_MEMBERS_JOINED).testBit d else d != 0

/-- A write to LNK.ENT_CMD (09 R224, R232; 11 R293). -/
def entCmdWrite (s : State) (ini : Initiator) (w : Nat) : State :=
  let op := w % 8
  if !s.enabled P.LNK || op == 0 || decide (4 < op) then s
  else
    let d := s.getI ini F.LNK_ENT_SEL_DEVICE
    let i := s.getI ini F.LNK_ENT_SEL_INDEX
    let ws := s.staged ini
    let res (t : State) (r : Nat) := t.setRegI ini Reg.LNK_ENT_RES (BitVec.ofNat 32 r)
    if s.hvlSlave then res s 3
    else if s.noDevice d || (op == 1 && s.noDevice (entDevice ws)) then res s 4
    else if d = s.myPos then
      (match s.entCmd op i ws with
       | (r, out, t) => (match out with | some rs => (res t r).stage ini rs | none => res t r))
    else
      let (tag, s1) := s.hvlTag
      let o : Outstanding := ⟨tag, d, none, some ini, ptEntry, []⟩
      let s2 : State := { s1 with hvl := { s1.hvl with waits := s1.hvl.waits ++ [o] } }
      (res s2 1).sendParts ptEntry d tag (entryBytes op i ws)

/-- NIB_A runs: its domain and HFXO are up and its code is active (09 R219, R231; 19 R441). -/
def nibRuns (s : State) : Bool := s.pwr.radioUp && s.on F.CLK_STAT_HFXO_OK && s.engRuns 0

/-- NIB_A hands entries over (09 R227, R231; 02 R52). -/
def lnkRuns (s : State) : Bool := s.enabled P.LNK && s.nibRuns && !s.underTest 0x1400 && s.pageSt P.REC != 4

/-- The lead of a hand-over in fine ticks (09 R249). -/
def dispatchLead (s : State) : Nat := usTicks (max (s.get F.LNK_CFG_DISPATCH_LEAD) 48)

/-- The earlier of two armed entries by START, then by index (09 R227). -/
def entBefore (s : State) (i j : Nat) : Bool :=
  let d (k : Nat) : Nat := ((s.ent k).start + 2 ^ 47 + 2 ^ 48 - s.count % 2 ^ 48) % 2 ^ 48
  decide (d i < d j) || (d i == d j && decide (i < j))

/-- The earliest of some entries. -/
def earliestEnt (s : State) (is : List Nat) : Option Nat :=
  is.foldl (fun o i => match o with
    | none => some i
    | some j => if s.entBefore i j then some i else some j) none

/-- The entry that is due for hand-over, if any (09 R227). -/
def dueEntry (s : State) : Option Nat :=
  s.earliestEnt ((List.range 128).filter (fun i =>
    (s.ent i).state == .armed && notBefore (addTicks s.count s.dispatchLead) (s.ent i).start &&
      (s.radio.tslot.isNone || entOp (s.ent i).words == opMark)))

/-- Entry `i` is handed to the radio (09 R227; 22 R496): dispatched, recorded, held as a timed command; a REL_END transmission placed
less than 36 µs after the reception ends LATE (09 R234); a disabled radio refuses it. -/
def handOver (s : State) (i : Nat) : State :=
  let e := s.ent i
  let s1 := (s.setEnt i (fun e => { e with state := .dispatched })).record 0x07 0 (i + (e.words.getD 1 0) * 2 ^ 8)
  if entOp e.words = opMark then s1
  else if e.soon then s1.endPlain (.entry i) 4
  else if !s1.enabled P.RAD then s1.endPlain (.entry i) 2
  else s1.holdTimed (entRadOp i e.words e.start)

/-- The condition of a link (09 R225): a frame was received with FCS pass, delivered or dropped by the filter. -/
def linkHolds (ws : List Nat) (r : EntryEnd) : Bool :=
  match bitsOf (ws.getD 6 0) 8 2 with
  | 0 => true
  | 1 => r.fcsOk
  | 2 => !r.fcsOk
  | _ => r.fcsOk && (!(ws.getD 2 0).testBit 31 || r.acked)

/-- A link is followed, or dropped with LINK_MISS (09 R225): whether it was followed. `start` and `r` are the linking entry's. -/
def followLink (s : State) (ws : List Nat) (start : Nat) (r : EntryEnd) : Bool × State :=
  let j := ws.getD 6 0 % 128
  let t := s.ent j
  if t.state = .wait then
    let base := if entMode t.words = 1 then r.endAt else start
    let ofs := t.words.getD 0 0
    let soon := entMode t.words == 1 && entOp t.words == opTx && (entOp ws == opRx || entOp ws == opRxMulti) &&
      !r.noFrame && decide (ofs < usTicks 36)
    (true, s.setEnt j (fun t => { t with state := .armed, start := addTicks base ofs, asked := false, soon := soon }))
  else (false, (s.put F.LNK_STAT_LINK_MISS 1).flag P.LNK 4)

/-- The completion of entry `i` with its outcome (09 R225, R226, R229). -/
def completeEntry (s : State) (i : Nat) (r : EntryEnd) : State :=
  let e := s.ent i
  let ws := e.words
  let again := e.reps != 0
  let s1 := s.setEnt i (fun e => { e with
    state := if again then (if entMode ws = 0 then .armed else .wait) else .done
    start := if again then addTicks e.start (ws.getD 7 0) else e.start
    reps := if again && e.reps != 255 then e.reps - 1 else e.reps
    last := r.status, asked := false, ended := none, soon := false })
  let (linked, s2) := if (ws.getD 6 0).testBit 7 && linkHolds ws r then s1.followLink ws e.start r else (false, s1)
  s2.recordDone i ws r.status r.frame r.noFrame r.slip linked

/-- The transmission run-ahead looks for (09 R233): the earliest armed one within the horizon, else a waiting link target of an entry
in progress. -/
def runAheadEntry (s : State) : Option Nat :=
  let isTx (i : Nat) := entOp (s.ent i).words == opTx || entOp (s.ent i).words == opTxCca
  let near := addTicks s.count (usTicks (s.get F.LNK_CFG_RUNAHEAD))
  match s.earliestEnt ((List.range 128).filter (fun i => (s.ent i).state == .armed && isTx i && notBefore near (s.ent i).start)) with
  | some i => some i
  | none =>
    (List.range 128).findSome? (fun i =>
      let e := s.ent i
      let j := e.words.getD 6 0 % 128
      if e.state == .dispatched && (e.words.getD 6 0).testBit 7 && (s.ent j).state == .wait && isTx j then some j else none)

/-- A transmission handed over or accepted whose sequence has not begun. -/
def txAhead (s : State) : Bool :=
  (match s.radio.tx with | some t => t.stage == .wait || t.stage == .cca | none => false) ||
  (match s.radio.tslot with | some o => o.opcode == opTx || o.opcode == opTxCca | none => false)

/-- Entries in ARMED or WAIT. -/
def armedCount (s : State) : Nat := (s.timeline.filter (fun e => e.state == .armed || e.state == .wait)).length

/-- Speculation contexts in use. -/
def specActive (s : State) : Nat := (s.ctxs.filter (·.busy)).length

end State

/-- A read of the LNK page (09 R224, R229, R249): ENT_RES shows the selected entry of this device, DONE removes a record, STAT counts. -/
def lnkRead (s : State) (ini : Initiator) (off : Nat) (raw : Word) : Word × State :=
  if off = 0x10C then
    (if s.getI ini F.LNK_ENT_SEL_DEVICE = s.myPos then
      (BitVec.ofNat 32 (s.entRes (s.getI ini F.LNK_ENT_SEL_INDEX) (s.getI ini F.LNK_ENT_RES_RESULT)), s)
     else (raw, s))
  else if off = 0x110 then
    (match s.enabled P.LNK, s.doneQ with
     | true, r :: q => (BitVec.ofNat 32 r.word, { s.setRegI ini Reg.LNK_DONE_T (BitVec.ofNat 32 r.time) with doneQ := q })
     | _, _ => (0, s))
  else if off = 0x118 then
    (BitVec.ofNat 32 (putBits (putBits (putBits (putBits raw.toNat 16 3 s.specActive) 7 8 s.armedCount) 3 1 (boolNat s.hvlSlave))
      0 1 (boolNat s.lnkRuns)), s)
  else (raw, s)

/-- PAGE_STAT.STATE of LNK (09 R249). -/
def lnkState (s : State) : Nat := if s.hvlSlave then 2 else if s.lnkRuns then 1 else 0

/-- What a write to the LNK page starts. -/
def lnkWrite (s : State) (ini : Initiator) (off : Nat) (w : Word) : State :=
  if off = 0x108 then s.entCmdWrite ini w.toNat else s

/-- LNK.STAT's copies of flags that software has cleared (09 R249). -/
def lnkFlagsCleared (s : State) : State :=
  let raw := (s.reg (Reg.IRQ_RAW P.LNK)).toNat
  let s1 := if raw.testBit 3 then s else s.put F.LNK_STAT_DONE_OVF 0
  if raw.testBit 4 then s1 else s1.put F.LNK_STAT_LINK_MISS 0

open State

/-- HAND_OVER (09 R227): the earliest entry that is due goes to the radio, one at a time. -/
def execHandOver (s : State) : Host.Outcome State Fault Refusal :=
  .next (match s.lnkRuns, s.dueEntry with
    | true, some i => s.handOver i
    | _, _ => s)

/-- ENTRY_START (09 R223, R229): the START of a dispatched entry has come: event 0 for EVT = 1; a MARK completes with DONE. -/
def execEntryStart (i : Nat) (s : State) : Host.Outcome State Fault Refusal :=
  .next (
    let e := s.ent i
    if e.state = .dispatched ∧ notBefore s.count e.start = true then
      (let s1 := if entEvt e.words then s.event P.LNK 0 else s
       if entOp e.words = opMark ∧ e.ended.isNone then s1.endSrc (.entry i) 1 (s.count != e.start) false false false s.count else s1)
    else s)

/-- ENTRY_COMPLETION (09 R225, R226, R229): an entry whose operation has ended completes. -/
def execEntryCompletion (i : Nat) (s : State) : Host.Outcome State Fault Refusal :=
  .next (match (s.ent i).state, (s.ent i).ended with
    | .dispatched, some r => s.completeEntry i r
    | _, _ => s)

/-- RUN_AHEAD (09 R233): NIB_A asks the CRS for the channel of the earliest transmission that is due, once per entry and start; never
away from a transmission already handed over. -/
def execRunAhead (s : State) : Host.Outcome State Fault Refusal :=
  .next (
    if !s.lnkRuns || s.get F.LNK_CFG_RUNAHEAD = 0 || s.txAhead then s
    else match s.runAheadEntry with
      | none => s
      | some i =>
        let f := (s.descRegs ((s.ent i).words.getD 2 0 % 64)).freq
        if (s.ent i).asked || s.crsLockedTo f then s
        else match s.crsRequest (.runAhead i) f with
          | (s1, .refused) => s1
          | (s1, _) => s1.setEnt i (fun e => { e with asked := true }))

end Sys2Proof.Machine
end

