-- ==== Sys2Proof/Machine/Cascade.lean ====
section
/-! DEFINITION. The cascade link (11 R279 to R302): training and joining, packets with their acknowledgement and resending, the time
base of a slave, lookups, verdicts, commands and frames across the chain, faulty lanes and lost hops. -/

namespace Sys2Proof.Machine

/-- The states of HVL (11 R288). -/
def hvDown : Nat := 0
def hvTraining : Nat := 1
def hvSyncing : Nat := 2
def hvJoined : Nat := 3
def hvLost : Nat := 4
def hvStrapErr : Nat := 5

/-- Words of four bytes each. -/
def leWords (n : Nat) (bs : List Byte) : List Nat := (List.range n).map (fun k => leAt bs (4 * k) 4)

/-- The unit code of a receive lane, and of a receive direction (21 R465). -/
def uLane (port : HvlPort) (l : Nat) : Nat := 0x0400 + (match port with | .up => 0 | .dn => 2) + l
def uDir (port : HvlPort) : Nat := 0x1700 + (match port with | .up => 0 | .dn => 2)

namespace State

/-- Change the link's part that is no register. -/
def setHvl (s : State) (g : Hvl → Hvl) : State := { s with hvl := g s.hvl }

/-- The HVE has its code, its domain and its clock (11 R288; 19 R441). -/
def hveClock (s : State) : Bool := s.pwr.radioUp && s.on F.CLK_STAT_HFXO_OK && s.engRuns 7

/-- Whether the HVE can run: the variant has a link, the page is enabled with EN = 1, the radio domain and HFXO are up and the engine
code is loaded (11 R288, R292; 19 R441). -/
def hveRuns (s : State) : Bool :=
  s.variant == .znl7240 && s.enabled P.HVL && s.on F.HVL_CFG_EN && s.hveClock && !s.underTest 0x1403

/-- The lanes of a direction's receiver that are not retired. -/
def lanesLeft (s : State) (port : HvlPort) : Nat :=
  (List.range 2).foldl (fun a l => if s.isRetired (uLane port l) then a else a + 2 ^ l) 0

/-- Record the lanes in use of a port (11 R302). -/
def setLanes (s : State) (port : HvlPort) (rx tx : Nat) : State :=
  match port with
  | .up => (s.put F.HVL_STAT_UP_RX rx).put F.HVL_STAT_UP_TX tx
  | .dn => (s.put F.HVL_STAT_DN_RX rx).put F.HVL_STAT_DN_TX tx

/-- A port starts training. -/
def trainPort (s : State) (port : HvlPort) : State :=
  (s.setHop port (fun h => { h with up := false, training := true, prbs := false })).setLanes port 0 0

/-- A port stops: nothing is kept, nothing in use. -/
def stopPort (s : State) (port : HvlPort) : State :=
  (s.setHop port (fun h => { hop0 with nextSeq := h.nextSeq })).setLanes port 0 0

/-- A lookup that ends as not found at its frame (10 R271). -/
def lookupLost (s : State) (u : RxUnit) (stamp : Nat) : State :=
  match s.stampedFrame u stamp with
  | some f =>
    if f.lookup = .waiting then
      ((if s.enabled P.NBT then s.countSat F.NBT_STATS_MISSES else s).lookupDone u f .notFound).recordLookup u none
    else s
  | none => s

/-- A request over the link that can get no answer any more (11 R300). -/
def endWait (s : State) (w : Outstanding) : State :=
  if w.ptype = ptLookup then (match w.unit with | some (u, stamp) => s.lookupLost u stamp | none => s)
  else match w.ini with
    | none => s
    | some i =>
      if w.ptype = ptNbtCmd then s.nbtComplete i 0 6 0 false none
      else if w.ptype = ptEntry then s.setRegI i Reg.LNK_ENT_RES 4
      else s

/-- What a device does about positions that `gone` names (11 R300): its requests to them end, their reservations are released as gaps,
their frames and verdicts are discarded. -/
def endBeyond (s : State) (gone : Nat → Bool) : State :=
  let ws := s.hvl.waits.filter (fun w => gone w.dst)
  let s1 := s.setHvl (fun h => { h with waits := h.waits.filter (fun w => !gone w.dst) })
  let s2 := ws.foldl endWait s1
  let s3 := (s2.hvl.rsv.filter (fun r => gone r.1)).foldl (fun t r => t.dropReserve r.2.1 r.2.2) s2
  let s4 := (s3.hvl.inbound.filter (fun f => gone f.src)).foldl (fun t f => t.freeAll f.head) s3
  s4.setHvl (fun h => { h with
    rsv := h.rsv.filter (fun r => !gone r.1)
    inbound := h.inbound.filter (fun f => !gone f.src)
    verdicts := h.verdicts.filter (fun g => !gone (g / 16384))
    parts := h.parts.filter (fun p => !gone (p.1 / 65536))
    joining := h.joining.filter (fun j => !gone j.1) })

/-- The master loses every position from `n` on (11 R300). -/
def membersLost (s : State) (n : Nat) : State :=
  let last := s.get F.NBT_CFG_DEVICES
  let s1 := (List.range 8).foldl (fun t k =>
    if n ≤ k ∧ k ≤ last ∧ k ≠ 0 then (t.putBit F.HVL_MEMBERS_JOINED k false).putBit F.HVL_MEMBERS_LOST k true else t) s
  (((s1.flag P.HVL 1).event P.HVL 1)).endBeyond (fun d => decide (n ≤ d))

/-- Every timeline entry of a lost slave ends ABORTED, an operation of one with it (11 R300). -/
def timelineLost (s : State) : State :=
  let held (t : State) : State := match t.radio.tslot with
    | some _ => t.setRadio (fun r => { r with tslot := none, tBlock := none })
    | none => t
  let s1 := held s
  let s2 := match s1.radio.op with
    | some o => (match o.src with
      | .entry _ => s1.abortNow ⟨.internal, opAbort, 0, 0, 0, 0, 0, false, 0, false, none⟩
      | _ => s1)
    | none => s1
  forN 128 (fun i t =>
    let e := t.ent i
    if e.state = .armed ∨ e.state = .wait ∨ e.state = .dispatched then
      (t.setEnt i (fun e => { e with state := .empty, last := 5, ended := none })).recordDone i e.words 5 false false false false
    else t) s2

/-- A slave becomes LOST (11 R300): its timeline ends, HVL_DN stops, HVL_UP keeps trying to train; frames not yet taken over are sent
again after the next join. -/
def enterLost (s : State) : State :=
  let s1 := (((s.setPageSt P.HVL hvLost).stopPort .dn).stopPort .up).trainPort .up
  let s2 := (s1.setHvl (fun h => { h with fwdSent := false, fwdWait := 0, time := none, missing := 0 })).endBeyond (fun d => decide (d ≠ s.hvlPos))
  s2.timelineLost

/-- A slave leaves the time base of the master (11 R292). -/
def syncLost (s : State) : State :=
  ((((s.put F.HVL_STAT_FOLLOW 0).put F.TMB_STAT_FOLLOW 0).flag P.HVL 2).countSat F.HVL_SYNC_LOSSES).enterLost

/-- A hop is down (11 R300): its upstream end reports it to the master and keeps trying to train; its downstream end becomes LOST. -/
def hopDown (s : State) (port : HvlPort) : State :=
  match port with
  | .dn =>
    let s1 := (s.stopPort .dn).trainPort .dn
    let n := s1.hvlPos + 1
    if s1.hvlPos = 0 then s1.membersLost n
    else (s1.endBeyond (fun d => decide (n ≤ d))).hvlSend ptLinkDown 0 0 false true true (natLe 1 n)
  | .up => if s.pageSt P.HVL = hvSyncing ∨ s.pageSt P.HVL = hvJoined ∨ s.pageSt P.HVL = hvLost then s.enterLost
    else (s.stopPort .up).trainPort .up

/-- A device takes part in the cascade (11 R288 steps 1 and 2). -/
def hvlStart (s : State) : State :=
  if s.hvlPos = 0 then ((s.setPageSt P.HVL hvJoined).putBit F.HVL_MEMBERS_JOINED 0 true).trainPort .dn
  else (s.setPageSt P.HVL hvTraining).trainPort .up

/-- A device leaves the cascade: EN cleared, or its radio domain or HFXO stopped (11 R288, R292). -/
def hvlStop (s : State) : State :=
  let s1 := (s.stopPort .up).stopPort .dn
  let s2 := s1.endBeyond (fun d => decide (d ≠ s.hvlPos))
  let s3 := if s.hvlPos = 0 then
      (List.range 8).foldl (fun t k => if (t.get F.HVL_MEMBERS_JOINED).testBit k then
        (let u := t.putBit F.HVL_MEMBERS_JOINED k false
         if k = 0 then u else u.putBit F.HVL_MEMBERS_LOST k true) else t) s2
    else (s2.put F.HVL_STAT_FOLLOW 0).put F.TMB_STAT_FOLLOW 0
  (s3.setHvl (fun h => { h with fwdSent := false, fwdWait := 0, time := none, missing := 0, joining := [] })).setPageSt P.HVL hvDown

/-- HVL follows its EN bit and its clock: called after every write of HVL.CFG and whenever its engine starts or stops. -/
def hvlUpdate (s : State) : State :=
  if s.pageSt P.HVL = hvDown then (if s.hveRuns then s.hvlStart else s)
  else if s.variant = .znl7240 ∧ (¬ s.on F.HVL_CFG_EN ∨ ¬ s.hveClock) then s.hvlStop
  else s

/-- A lane of a direction is retired (11 R298): the direction retrains on the other lane; with both retired the hop is down. -/
def laneEffect (s : State) (port : HvlPort) : State :=
  if !((s.hop port).up || (s.hop port).training) then s
  else if s.lanesLeft port = 0 then s.hopDown port
  else if (s.hop port).up then s.setHop port (fun h => { h with training := true })
  else s

/-- HELLO of a slave whose HVL_UP has trained (11 R284, R288 step 3). -/
def sendHello (s : State) : State :=
  let fresh := s.get F.HVL_STAT_FRESH
  let (tag, s1) := s.hvlTag
  (s1.setHvl (fun h => { h with fresh := fresh == 1 })).hvlSend ptHello 0 tag false true true
    (natLe 4 (chipId s1.variant) ++ natLe 1 (s1.get F.NBT_CFG_DEVICES) ++ natLe 1 fresh)

/-- The neighbour table is empty (11 R291). -/
def clearTable (s : State) : State :=
  { s with mem := Sparse.clear (fun a => decide (0x20300000 ≤ a) && decide (a < 0x20380000)) s.mem, stash := [], reserved := [] }

/-- A join completes (11 R288 steps 6 and 7, R291): the count follows TIME, alarms are judged, a fresh device's table is cleared, HVL_DN
trains, held frames leave. -/
def joinNow (s : State) (t : Nat) : State :=
  let s1 : State := { s with count := (t / 256 * 256 + s.count % 256) % countMod }
  let s2 := (s1.flag P.TMB 8).alarmsTick
  let s3 := if s2.hvl.fresh then s2.clearTable else s2
  let s4 := ((s3.setHvl (fun h => { h with fresh := false, time := none })).put F.HVL_STAT_FRESH 0).setPageSt P.HVL hvJoined
  (s4.trainPort .dn).forwardKick

/-- The two parts of a message as one (11 R284): the first part is kept until the second arrives. -/
def assemble (s : State) (typ : Nat) (p : Packet) : Option (List Byte) × State :=
  let key := p.src * 65536 + typ * 256 + p.tag % 256
  if p.first && p.last then (some p.payload, s)
  else if p.first then
    (none, s.setHvl (fun h => { h with parts := h.parts.filter (fun q => q.1 != key) ++ [(key, p.payload)] }))
  else match s.hvl.parts.find? (fun q => q.1 == key) with
    | some q => (some (q.2 ++ p.payload), s.setHvl (fun h => { h with parts := h.parts.filter (fun q => q.1 != key) }))
    | none => (none, s)

/-- An intact packet arrives at a port (11 R282, R286, R287): a port that has not trained hears nothing; the packet is acknowledged, a duplicate
that has been accepted already only that. The state in which a new packet is acted on, if it is new. -/
def receive (s : State) (p : Packet) : Bool × State :=
  let h := s.hop p.port
  if !s.hveRuns || !h.up || h.training || !p.intact then (false, s)
  else
    let s1 := s.sendChars p.port [.k 28 4, .d (BitVec.ofNat 8 p.seq)]
    if h.accepted.contains (p.seq % 256) then (false, s1)
    else (true, s1.setHop p.port (fun h => { h with accepted := (h.accepted ++ [p.seq % 256]).drop (h.accepted.length - 127) }))

/-- A packet of type `typ` arrives (11 R283): one for another position leaves on the other port, a broadcast is delivered and passed
downstream. -/
def arrive (s : State) (typ : Nat) (p : Packet) (deliver : State → State) : State :=
  match (if p.ptype = typ then s.receive p else (false, s)) with
  | (false, t) => t
  | (true, s1) =>
    if p.bcast then
      (let s2 := if s1.hvl.dn.up && p.port == .up then s1.hopSend .dn typ p else s1
       deliver s2)
    else if p.dst = s1.hvlPos then deliver s1
    else
      let s2 := if typ = ptLinkDown then s1.endBeyond (fun d => decide (leAt p.payload 0 1 ≤ d)) else s1
      if s1.hvlPos < p.dst then s2.hopSend .dn typ p else s2.hopSend .up typ p

/-- The answer to a request this device has sent (11 R285, R293), if one is due. -/
def dueAnswer (s : State) (typ : Nat) (p : Packet) : Option Outstanding :=
  s.hvl.waits.find? (fun w => w.ptype == typ && w.tag == p.tag && w.dst == p.src)

/-- A request has been answered. -/
def answered (s : State) (w : Outstanding) : State := s.setHvl (fun h => { h with waits := h.waits.filter (· != w) })

/-- The words a home device puts into REPLY (11 R284): KEY, IN_FC, U, PROFILE and FLAGS. -/
def replyBytes (g : Nat) (found inflight : Bool) (ws : List Nat) (u : Nat) : List Byte :=
  natLe 4 (g % 2 ^ 17 + boolNat found * 2 ^ 17 + boolNat inflight * 2 ^ 18) ++ natLe 2 (ws.getD 2 0 / 65536) ++ natLe 4 (ws.getD 3 0) ++
    natLe 4 u ++ natLe 4 (ws.getD 5 0)

/-- A home device answers a LOOKUP (11 R296; 10 R264, R268): with a reservation held the answer is INFLIGHT, otherwise U is reserved when
it is asked for; an entry with no value left to reserve answers INFLIGHT (log entry 80). An alias whose target lies on a third device is
answered by free values (log entry 1). -/
def answerLookup (s : State) (p : Packet) : State :=
  let fl := leAt p.payload 8 1
  let kt := fl.testBit 0
  let k : NbtKey := if kt then ⟨true, (p.payload.take 2) ++ natLe 1 (fl / 4 % 4)⟩ else ⟨false, p.payload.take 8⟩
  let send (t : State) (bs : List Byte) : State := t.hvlSend ptReply p.src p.tag false true true bs
  if !s.enabled P.NBT then send s (replyBytes 0 false false [] 0)
  else match s.nbtLookup k with
    | (0, g, _, _, s1) =>
      if g / 16384 = s1.myPos then
        (let i := g % 16384
         let infl := s1.reserved.any (fun r => r.1 == i) || (fl.testBit 1 && s1.outSpent i)
         if infl then send s1 (replyBytes g true true (s1.entWords i) (s1.nextOut i))
         else if fl.testBit 1 then
           (match s1.reserveOut i with
            | (u, s2) => send (s2.setHvl (fun h => { h with rsv := h.rsv ++ [(p.src, i, u)] })) (replyBytes g true false (s2.entWords i) u))
         else send s1 (replyBytes g true false (s1.entWords i) (s1.nextOut i)))
      else
        match s1.remoteTarget g (fl.testBit 1) with
        | (.found v, s2) => send s2 (replyBytes g true false v.words (v.u.getD (v.words.getD 4 0)))
        | (.inFlight v, s2) => send s2 (replyBytes g true true v.words (v.words.getD 4 0))
        | (_, s2) => send s2 (replyBytes 0 false false [] 0)
    | (_, _, _, _, s1) => send s1 (replyBytes 0 false false [] 0)

/-- A reserved value that no frame waits for goes back to its home as a gap (11 R295). -/
def returnReserve (s : State) (g : Nat) (reserve found inflight : Bool) (u : Nat) : State :=
  if reserve && found && !inflight then s.sendVerdict g false true false none (some u) 0 0 else s

/-- The answer of a remote lookup reaches NIB_B (10 R271; 11 R284, R297). REPLY does not carry EXT_ADDR: it is the frame's own extended
source address or, for a short one, not stated (log entry 1). -/
def takeReply (s : State) (w : Outstanding) (p : Packet) : State :=
  let g := leAt p.payload 0 4 % 2 ^ 17
  let found := (leAt p.payload 0 4).testBit 17
  let infl := (leAt p.payload 0 4).testBit 18
  let u := leAt p.payload 10 4
  let reserve := w.part == [1]
  match w.unit with
  | none => s
  | some (v, stamp) =>
    match s.stampedFrame v stamp with
    | none => s.returnReserve g reserve found infl u
    | some f =>
      if f.lookup ≠ .waiting then s.returnReserve g reserve found infl u
      else if !found then s.lookupLost v stamp
      else
        let (a, s1) := match f.mac with
          | some h => (match h.srcAddr with
            | some (.ext a) => (a, s)
            | _ => (match s.freeVal with | (x, t) => (match t.freeVal with | (y, t2) => (x.toNat + y.toNat * 2 ^ 32, t2))))
          | none => (0, s)
        let ws := [a % 2 ^ 32, a / 2 ^ 32, leAt p.payload 4 2 * 65536, leAt p.payload 6 4, u, leAt p.payload 14 4, 0, 0]
        let view : NbtView := ⟨g, ws, if reserve && !infl then some u else none⟩
        (s1.lookupDone v f (if infl then .inFlight view else .found view)).recordLookup v (some view)

/-- HVL.LAT (11 R297, R302). -/
def latency (s : State) (ns : Nat) : State :=
  let s1 := if s.get F.HVL_LAT_MAX < ns then s.put F.HVL_LAT_MAX (min ns 65535) else s
  if s1.get F.HVL_CFG_LAT_LIMIT * 100 < ns then (s1.countSat F.HVL_LAT_OVER).flag P.HVL 6 else s1

/-- FRAME packets of a slave (11 R294): the blocks grow as for a reception; at LAST the frame is queued with FORWARDED and the master's
RX_SEQ, and accepted; where the free list runs dry it is discarded and refused. -/
def takeFrame (s : State) (p : Packet) : State :=
  let old := s.hvl.inbound.find? (fun f => f.src == p.src)
  let s0 := if p.first then (match old with
      | some f => (s.freeAll f.head).setHvl (fun h => { h with inbound := h.inbound.filter (fun f => f.src != p.src) })
      | none => s) else s
  let cur : Option InFrame := if p.first then some ⟨p.src, p.tag, [], []⟩
    else (match old with | some f => if f.tag = p.tag then some f else none | none => none)
  match cur with
  | none => s0
  | some f =>
    let drop (t : State) := t.setHvl (fun h => { h with inbound := h.inbound.filter (fun x => x.src != p.src) })
    let bytes := f.bytes ++ p.payload
    match s0.takeBlocks .receive (blocksFor (bytes.length - 4) - f.head.length) with
    | none => ((drop s0).freeAll f.head).hvlSend ptFwdAck p.src p.tag false true true [BitVec.ofNat 8 p.tag, 1]
    | some (bs, s1) =>
      let blocks := f.head ++ bs
      if p.last then
        let rw := leAt bytes 0 4
        let body := rw % 2048
        let data := bytes.drop 4
        let flags := leAt data (body + 26) 2 ||| 2 ^ 9
        let data1 := putBytes (putBytes data (body + 26) (natLe 2 flags)) (body + 28) (natLe 4 s1.rxSeq)
        let s2 := (drop s1).storeChain blocks body (bitsOf rw 11 8) (bitsOf rw 19 2) data1
        ({ s2.queueFrame blocks with rxSeq := (s2.rxSeq + 1) % 2 ^ 32 }).hvlSend ptFwdAck p.src p.tag false true true
          [BitVec.ofNat 8 p.tag, 0]
      else (drop s1).setHvl (fun h => { h with inbound := h.inbound ++ [⟨p.src, p.tag, bytes, blocks⟩] })

/-- FWD_ACK at the slave (11 R294): an accepted frame's chain is freed with no event and the next leaves; a refused one waits 10 µs,
doubling up to 640 µs. -/
def takeFwdAck (s : State) (p : Packet) : State :=
  if !s.hvl.fwdSent || leAt p.payload 0 1 != s.hvl.fwdTag then s
  else match s.hvl.fwdQ with
    | [] => s
    | h :: rest =>
      if leAt p.payload 1 1 = 0 then
        (let s1 := match s.chainBlocks h 20 with | some bs => s.freeAll bs | none => s
         (s1.setHvl (fun v => { v with fwdQ := rest, fwdSent := false, fwdWait := 0 })).forwardKick)
      else
        (s.countSat F.HVL_FWD_STAT_NAKS).setHvl (fun v => { v with
          fwdSent := false, fwdWait := if v.fwdWait = 0 then 10 else min (2 * v.fwdWait) 640 })

/-- A port sends again what it keeps (11 R287). -/
def sendKept (s : State) (port : HvlPort) : State := s.sendChars port ((s.hop port).kept.flatMap (fun k => packetChars k.pkt true))

/-- A kept packet whose wait has ended is sent again (11 R287). -/
def resend (s : State) (port : HvlPort) (k : SentPacket) : State :=
  ((s.setHop port (fun h => { h with kept := h.kept.map (fun x => if x.seq == k.seq then { x with waiting := false } else x) })).sendChars port
    (packetChars k.pkt true)).countSat F.HVL_ERRS_RETRIES

/-- A hop's retries are exhausted: it retrains (11 R287). -/
def retrain (s : State) (port : HvlPort) : State := s.setHop port (fun h => { h with training := true })

/-- A packet was not acknowledged (11 R287): it waits for its next retry, or the hop retrains. -/
def sendFailed (s : State) (port : HvlPort) (seq : Nat) : State :=
  match (s.hop port).kept.find? (fun k => k.seq == seq) with
  | none => s
  | some k =>
    if s.get F.FLT_CFG_RETRY_MAX ≤ k.retries then s.retrain port
    else s.setHop port (fun h => { h with kept := h.kept.map (fun x =>
      if x.seq == seq then { x with retries := x.retries + 1, waiting := true } else x) })

end State

/-- PAGE_STAT of HVL needs no more than its STATE; HVL.FWD_STAT counts the queue (11 R302). -/
def hvlRead (s : State) (off : Nat) (raw : Word) : Word :=
  if off = 0x118 then BitVec.ofNat 32 (putBits raw.toNat 0 10 s.hvl.fwdQ.length) else raw

open State

/-- TRAINING_DONE (11 R288, R289): the training of a port ends. `lanes` holds the lanes this receiver has locked in bits 1 to 0 and those the
neighbour's receiver uses in bits 3 to 2; a neighbour of the wrong position is a strap error. -/
def execTrainingDone (port : HvlPort) (nbrPos lanes : Nat) (s : State) : Host.Outcome State Fault Refusal :=
  .next (
    if !(s.hop port).training || (s.hop port).up || !s.hveRuns then s
    else
      let want := match port with | .up => decide (nbrPos + 1 = s.hvlPos) | .dn => decide (nbrPos = s.hvlPos + 1)
      if !want then ((s.stopPort port).setPageSt P.HVL hvStrapErr).flag P.HVL 4
      else
        let rx := lanes % 4 &&& s.lanesLeft port
        if rx = 0 ∨ lanes / 4 % 4 = 0 then s
        else
          let s1 := ((s.setHop port (fun h => { h with up := true, training := false, accepted := [] })).setLanes port rx (lanes / 4 % 4)).sendKept port
          match port with
          | .up => (s1.setPageSt P.HVL hvTraining).sendHello
          | .dn => s1)

/-- HELLO (11 R288 step 4): the master checks the part and DEVICES and answers WELCOME; a position beyond DEVICES is refused as such. -/
def execHello (p : Packet) (s : State) : Host.Outcome State Fault Refusal :=
  .next (s.arrive ptHello p (fun t =>
    if !t.hvlMaster then t
    else
      let why := if leAt p.payload 2 2 ≠ 0x7240 then 3
        else if leAt p.payload 4 1 ≠ t.get F.NBT_CFG_DEVICES then 2
        else if p.src = 0 ∨ t.get F.NBT_CFG_DEVICES < p.src then 1 else 0
      let t1 := if why = 0 then t.setHvl (fun h => { h with joining := h.joining.filter (fun j => j.1 != p.src) ++ [(p.src, false)] }) else t
      t1.hvlSend ptWelcome p.src p.tag false true true [BitVec.ofNat 8 why]))

/-- WELCOME (11 R288 step 5): the slave follows HVL_SYNC, or records why it was refused. -/
def execWelcome (p : Packet) (s : State) : Host.Outcome State Fault Refusal :=
  .next (s.arrive ptWelcome p (fun t =>
    if t.pageSt P.HVL ≠ hvTraining ∨ t.hvlPos = 0 then t
    else
      let r := leAt p.payload 0 1
      if r = 0 then
        ((((t.put F.HVL_STAT_JOIN_FAIL 0).setPageSt P.HVL hvSyncing).put F.HVL_STAT_FOLLOW 1).put F.TMB_STAT_FOLLOW 1).setHvl
          (fun h => { h with time := none, missing := 0 })
      else t.put F.HVL_STAT_JOIN_FAIL r))

/-- TIME (11 R290): a slave takes the count of the next marker. -/
def execTime (p : Packet) (s : State) : Host.Outcome State Fault Refusal :=
  .next (s.arrive ptTime p (fun t =>
    if t.pageSt P.HVL = hvSyncing ∨ t.hvlSlave then t.setHvl (fun h => { h with time := some (leAt p.payload 0 6) }) else t))

/-- HVL_SYNC_EDGE (11 R290): a slave that follows the line counts a slow tick. -/
def execHvlSyncEdge (s : State) : Host.Outcome State Fault Refusal :=
  .next (if s.on F.HVL_STAT_FOLLOW then (s.setHvl (fun h => { h with missing := 0 })).slowCount else s)

/-- SYNC_MARKER (11 R288 step 6, R291): the pulse of the last edge was a marker: a syncing slave with a TIME joins; a joined one compares. -/
def execSyncMarker (s : State) : Host.Outcome State Fault Refusal :=
  .next (
    if !s.on F.HVL_STAT_FOLLOW then s
    else match s.hvl.time with
      | none => s
      | some t =>
        if s.pageSt P.HVL = hvSyncing then s.joinNow t
        else if s.hvlSlave then
          (if s.count / 256 = t / 256 then s.setHvl (fun h => { h with time := none }) else s.syncLost)
        else s)

/-- MISSING_EDGE (11 R292): the predicted edge is counted instead; after three in a row the slave is lost. -/
def execMissingEdge (s : State) : Host.Outcome State Fault Refusal :=
  .next (
    if !s.on F.HVL_STAT_FOLLOW then s
    else
      let s1 := ((s.setHvl (fun h => { h with missing := h.missing + 1 })).countSat F.HVL_SYNC_MISSED).slowCount
      if 3 ≤ s1.hvl.missing then s1.syncLost else s1)

/-- HVL_LOOKUP (11 R296): a home device answers a LOOKUP packet. -/
def execHvlLookup (p : Packet) (s : State) : Host.Outcome State Fault Refusal :=
  .next (s.arrive ptLookup p (fun t => t.answerLookup p))

/-- REPLY (11 R284, R297): the requester takes the remote entry; `latNs` is the time from the lookup's turn to the entry. -/
def execReply (p : Packet) (latNs : Nat) (s : State) : Host.Outcome State Fault Refusal :=
  .next (s.arrive ptReply p (fun t =>
    match t.dueAnswer ptLookup p with
    | none => t
    | some w => ((t.answered w).latency latNs).takeReply w p))

/-- VERDICT (11 R295; 10 R265, R266): the home applies the outcome in arrival order. -/
def execVerdict (p : Packet) (s : State) : Host.Outcome State Fault Refusal :=
  .next (s.arrive ptVerdict p (fun t =>
    let w := leAt p.payload 0 4
    let i := w % 16384
    let commit := w.testBit 17
    let release := w.testBit 18
    let u := leAt p.payload 8 4
    let t1 := t.applyVerdict i commit release (w.testBit 19) (some (leAt p.payload 4 4)) (if commit || release then some u else none)
      (signedN 16 (leAt p.payload 12 2)) (leAt p.payload 14 1) p.src
    if commit || release then t1.setHvl (fun h => { h with rsv := removeFirst (fun r => r == (p.src, i, u)) h.rsv }) else t1))

/-- NBT_CMD (10 R273; 11 R284): the home executes the command and answers NBT_RES. -/
def execNbtCmd (p : Packet) (s : State) : Host.Outcome State Fault Refusal :=
  .next (s.arrive ptNbtCmd p (fun t =>
    match t.assemble ptNbtCmd p with
    | (none, t1) => t1
    | (some bs, t1) =>
      if !t1.enabled P.NBT then t1
      else
        let op := leAt bs 0 1 % 8
        let mask := leAt bs 1 1
        let ws := leWords 8 (bs.drop 6)
        let picked := if op = 1 then List.range 8 else if op = 4 then [0, 1, 2, 5] else (List.range 8).filter mask.testBit
        let data := (List.range 8).map (fun w => match picked.findIdx? (· == w) with | some k => ws.getD k 0 | none => 0)
        match t1.nbtExec ⟨op, mask, leAt bs 2 4 % 2 ^ 17, data, false⟩ with
        | (c, ix, st, out, t2) =>
          t2.sendParts ptNbtRes p.src p.tag
            (natLe 4 (c * 2 ^ 20 + boolNat st * 2 ^ 17 + ix % 2 ^ 17) ++ (match out with | some o => o.flatMap (natLe 4) | none => [])))) 

/-- NBT_RES (11 R284): the issuing device completes the command. -/
def execNbtRes (p : Packet) (s : State) : Host.Outcome State Fault Refusal :=
  .next (s.arrive ptNbtRes p (fun t =>
    match t.assemble ptNbtRes p with
    | (none, t1) => t1
    | (some bs, t1) =>
      match t1.dueAnswer ptNbtCmd p with
      | none => t1
      | some w =>
        match w.ini with
        | none => t1
        | some i =>
          let r := leAt bs 0 4
          let j := (t1.nbtJobs.get i).getD ⟨0, 0, 0, [], true⟩
          let t2 := if j.op = 3 ∧ bitsOf r 20 4 = 0 then t1.entryGone j.index else t1
          (t2.answered w).nbtComplete i j.op (bitsOf r 20 4) (r % 2 ^ 17) (r.testBit 17)
            (if 36 ≤ bs.length then some (leWords 8 (bs.drop 4)) else none)))

/-- ENTRY (11 R285, R293): a slave's NIB_A executes ENT_CMD with the master's words and answers ENTRY_RES. -/
def execEntry (p : Packet) (s : State) : Host.Outcome State Fault Refusal :=
  .next (s.arrive ptEntry p (fun t =>
    match t.assemble ptEntry p with
    | (none, t1) => t1
    | (some bs, t1) =>
      let op := leAt bs 0 1 % 8
      let i := leAt bs 1 1 % 128
      if !t1.enabled P.LNK || !t1.hvlSlave || op == 0 || decide (4 < op) then t1
      else match t1.entCmd op i (leWords 8 (bs.drop 2)) with
        | (r, out, t2) =>
          t2.sendParts ptEntryRes p.src p.tag (natLe 4 (t2.entRes i r) ++ (match out with | some ws => ws.flatMap (natLe 4) | none => []))))

/-- ENTRY_RES (11 R285, R293): the master's ENT_RES takes the result, its staging registers the entry of a READ. -/
def execEntryRes (p : Packet) (s : State) : Host.Outcome State Fault Refusal :=
  .next (s.arrive ptEntryRes p (fun t =>
    match t.assemble ptEntryRes p with
    | (none, t1) => t1
    | (some bs, t1) =>
      match t1.dueAnswer ptEntry p with
      | none => t1
      | some w =>
        match w.ini with
        | none => t1
        | some i =>
          let t2 := (t1.answered w).setRegI i Reg.LNK_ENT_RES (BitVec.ofNat 32 (leAt bs 0 4))
          if 36 ≤ bs.length then t2.stage i (leWords 8 (bs.drop 4)) else t2))

/-- FRAME (11 R294): the master takes a packet of a forwarded frame. -/
def execFrame (p : Packet) (s : State) : Host.Outcome State Fault Refusal :=
  .next (s.arrive ptFrame p (fun t => if t.hvlMaster && t.enabled P.FRM then t.takeFrame p else t))

/-- FWD_ACK (11 R294): the slave's oldest forwarded frame was accepted or refused. -/
def execFwdAck (p : Packet) (s : State) : Host.Outcome State Fault Refusal :=
  .next (s.arrive ptFwdAck p (fun t => t.takeFwdAck p))

/-- FORWARD_RESEND (11 R294): the wait after a refusal expires and the whole frame is sent again. -/
def execForwardResend (s : State) : Host.Outcome State Fault Refusal :=
  .next (if s.hvlSlave && !s.hvl.fwdSent && s.hvl.fwdWait != 0 then s.forwardSend else s)

/-- LINK_DOWN (11 R300): the master marks the positions beyond the break lost. -/
def execLinkDown (p : Packet) (s : State) : Host.Outcome State Fault Refusal :=
  .next (s.arrive ptLinkDown p (fun t => if t.hvlMaster then t.membersLost (leAt p.payload 0 1) else t))

/-- PACKET_ACK (11 R287): the packet is no longer kept; an acknowledged VERDICT is no longer in flight here. -/
def execPacketAck (port : HvlPort) (seq : Byte) (s : State) : Host.Outcome State Fault Refusal :=
  .next (match (s.hop port).kept.find? (fun k => k.seq == seq.toNat) with
    | none => s
    | some k =>
      let s1 := s.setHop port (fun h => { h with kept := h.kept.filter (fun x => x.seq != seq.toNat) })
      if k.ptype = ptVerdict then
        s1.setHvl (fun h => { h with verdicts := removeFirst (fun g => g == leAt k.pkt.payload 0 4 % 2 ^ 17) h.verdicts })
      else s1)

/-- PACKET_NAK (11 R287): the packet waits for its resend, or its retries are used up and the hop retrains. -/
def execPacketNak (port : HvlPort) (seq : Byte) (s : State) : Host.Outcome State Fault Refusal :=
  .next (if (s.hop port).up && !(s.hop port).training then s.sendFailed port seq.toNat else s)

/-- The onward copy of a packet whose CRC fails, which has left by cut-through, ends marked bad (11 R286; log entry 118). -/
def State.badCopy (s : State) (p : Packet) : State :=
  let on (t : State) (port : HvlPort) : State :=
    if p.port = port then t else t.sendChars port (packetChars { p with seq := (t.hop port).nextSeq } false)
  if p.bcast || decide (s.hvlPos < p.dst) then on s .dn
  else if p.dst < s.hvlPos then on s .up
  else s

/-- PACKET_CRC_FAIL (11 R286, R298): a packet received at a port fails its CRC: it is answered by a negative acknowledgement and counted, and
charged to the lane with a code error or to the direction; enough faults retire the lane, or start the PRBS-7 test of the direction. -/
def execPacketCrcFail (p : Packet) (code : Bool) (lane : Nat) (s : State) : Host.Outcome State Fault Refusal :=
  let port := p.port
  .next (
    if !s.hveRuns || !(s.hop port).up || (s.hop port).training || p.intact then s
    else
      let s0 := (s.badCopy p).sendChars port [.k 28 6, .d (BitVec.ofNat 8 p.seq)]
      let s1 := (s0.countSat F.HVL_ERRS_CRC_ERRS).flag P.HVL 5
      if code then
        let u := uLane port (lane % 2)
        let s2 := s1.reportFault u .transient
        if s2.isRetired u && !s1.isRetired u then s2.laneEffect port else s2
      else
        let u := uDir port
        let n := s1.get F.FLT_CFG_RETIRE_N
        let full := n ≠ 0 ∧ n ≤ (s1.faultTimes u).length + 1
        let s2 := s1.reportFault u .transient
        if full then s2.setHop port (fun h => { h with prbs := true }) else s2)

/-- RESEND_TIMEOUT (11 R287): no acknowledgement came within 1 µs, so the packet waits for its retry; or its wait has ended and it is sent
again. -/
def execResendTimeout (port : HvlPort) (seq : Byte) (s : State) : Host.Outcome State Fault Refusal :=
  .next (
    if !(s.hop port).up || (s.hop port).training then s
    else match (s.hop port).kept.find? (fun k => k.seq == seq.toNat) with
      | none => s
      | some k =>
        if k.waiting then s.resend port k else s.sendFailed port seq.toNat)

/-- RETRAIN_DONE (11 R298, R299): the neighbour has told the lanes its receiver will use, and the waiting packets are sent again; or the hop is
down. -/
def execRetrainDone (port : HvlPort) (lanes : Nat) (s : State) : Host.Outcome State Fault Refusal :=
  .next (
    if !(s.hop port).up || !(s.hop port).training then s
    else if lanes % 4 ≠ 0 then
      let rx := s.lanesLeft port
      let s1 := ((s.setHop port (fun h => { h with
        training := false, kept := h.kept.map (fun x => { x with retries := 0, waiting := false }) })).setLanes port rx (lanes % 4)).sendKept port
      (List.range (s1.hop port).kept.length).foldl (fun t _ => t.countSat F.HVL_ERRS_RETRIES) s1
    else s.hopDown port)

/-- HOP_DOWN (11 R300): this device detects that the hop at a port is down. -/
def execHopDown (port : HvlPort) (s : State) : Host.Outcome State Fault Refusal :=
  .next (if (s.hop port).up then s.hopDown port else s)

/-- PRBS_TEST_DONE (11 R298): a lane with errors is retired; with none the count restarts. -/
def execPrbsTestDone (port : HvlPort) (err0 err1 : Bool) (s : State) : Host.Outcome State Fault Refusal :=
  .next (
    if !(s.hop port).prbs then s
    else
      let s1 := s.setHop port (fun h => { h with prbs := false })
      if !err0 && !err1 then s1.setFaultTimes (uDir port) []
      else
        let s2 := if err0 then s1.reportFault (uLane port 0) .permanent else s1
        let s3 := if err1 then s2.reportFault (uLane port 1) .permanent else s2
        s3.laneEffect port)

/-- NO_TIME_WITHIN_16_MS (11 R302): a slave that waits for TIME records why its join has failed; it keeps waiting. -/
def execNoTimeWithin16Ms (s : State) : Host.Outcome State Fault Refusal :=
  .next (if s.pageSt P.HVL = hvSyncing ∧ s.hvl.time.isNone then s.put F.HVL_STAT_JOIN_FAIL 4 else s)

/-- RESERVED_TYPE_PACKET (11 R284): a packet of a reserved type is acknowledged, discarded and counted. -/
def execReservedTypePacket (p : Packet) (s : State) : Host.Outcome State Fault Refusal :=
  .next (match (if (1 ≤ p.ptype ∧ p.ptype ≤ ptCommitAt) ∨ p.ptype = ptFrame then (false, s) else s.receive p) with
    | (true, s1) => s1.countSat F.HVL_ERRS_CRC_ERRS
    | (false, s1) => s1)

end Sys2Proof.Machine
end

