-- ==== Sys2Proof/Machine/Interrupts.lean ====
section
/-! DEFINITION. The processor complex (13): the interrupt controller, the mailboxes, the instruction caches and debug halts. -/

namespace Sys2Proof.Machine

/-- The core that a bus initiator is. -/
def coreOf : Initiator → Option Core
  | .apc => some .apc
  | .ntc => some .ntc
  | .scc => some .scc
  | _ => none

/-- The bus initiator that a core is. -/
def iniOf : Core → Initiator
  | .apc => .apc
  | .ntc => .ntc
  | .scc => .scc

/-- The receiving and the sending core of a mailbox channel (13 R330). -/
def mboxTo (c : Nat) : Core := [Core.ntc, .apc, .scc, .apc, .scc, .ntc].getD c .apc
def mboxFrom (c : Nat) : Core := [Core.apc, .ntc, .apc, .scc, .ntc, .scc].getD c .apc

/-- The sets of a core's instruction cache: two ways of 32-byte lines (13 R322). -/
def cacheSets : Core → Nat
  | .apc => 256
  | .ntc => 128
  | .scc => 0

/-- An address whose lines the instruction caches hold: flash and SPT windows (13 R324). -/
def cacheable (a : Nat) : Bool := decide (a < 0x400000) || (decide (0x10000000 ≤ a) && decide (a < 0x17000000))

/-- The bytes that a protection entry covers, by mode A (13 R323): TOR from the entry before it, NA4 or NAPOT; granules of 32 bytes (log
entry 94). None where it is off. -/
def pmpSpan (before : Nat) (e : PmpEntry) : Option (Nat × Nat) :=
  let c := e.cfg.toNat
  let a := e.addr.toNat
  let ones := ((List.range 32).takeWhile a.testBit).length
  match bitsOf c 3 2 with
  | 0 => none
  | 1 => some (4 * before / 32 * 32, 4 * a / 32 * 32)
  | 2 => some (4 * a / 32 * 32, 4 * a / 32 * 32 + 32)
  | _ => (let size := max 32 (8 * 2 ^ ones)
          some (4 * a / size * size, 4 * a / size * size + size))

/-- Whether a core's protection entries, the lowest first, allow `n` bytes from `a`: the first entry that covers any byte must cover all of them
and, in user mode or when it is locked, permit the access. -/
def pmpJudge (user : Bool) (perm a n : Nat) : Nat → List PmpEntry → Bool
  | _, [] => !user
  | before, e :: es =>
    match pmpSpan before e with
    | some (lo, hi) =>
      if a < hi ∧ lo < a + n then decide (lo ≤ a) && decide (a + n ≤ hi) && (!(user || e.cfg.toNat.testBit 7) || e.cfg.toNat.testBit perm)
      else pmpJudge user perm a n e.addr.toNat es
    | none => pmpJudge user perm a n e.addr.toNat es

/-- Whether the physical memory protection of the core that makes an access denies it (13 R323). -/
def State.pmpDenies (s : State) (r : BusReq) : Bool :=
  match coreOf r.ini with
  | none => false
  | some k =>
    let perm := match r.op with | .read => 0 | .write _ => 1 | .fetch => 2
    !pmpJudge (s.cores.user.contains k) perm r.addr.toNat (sizeBytes r.size) 0 (s.cores.pmp.filter (fun e => e.core == k))

namespace State

/-- Whether the page interrupt of a page is asserted: the page is present and its domain on. -/
def pageIrq (s : State) (p : Nat) : Bool := pagePresent s.variant p && s.pageOn p && s.irqPend p != 0

/-- The words of mailbox channel `c`. -/
def mboxOf (s : State) (c : Nat) : List Word := s.icu.mbox.getD c []

/-- Whether source `n` is asserted (13 R327). -/
def irqAsserted (s : State) (n : Nat) : Bool :=
  if n < 0x29 then s.pageIrq n
  else if n < 0x2F then !(s.mboxOf (n - 0x29)).isEmpty
  else if 0x30 ≤ n ∧ n < 0x50 then (s.get F.GPIO_INT_FLAG_FLAG).testBit (n - 0x30)
  else if 0x50 ≤ n ∧ n < 0x58 then (s.get F.EVF_IRQ_TASK_FLAG).testBit (n - 0x50)
  else false

/-- The core to which source `n` delivers (13 R327, R335). -/
def irqTarget (s : State) (n : Nat) : Core :=
  if n = 0x15 then .scc
  else if 0x29 ≤ n ∧ n < 0x2F then mboxTo (n - 0x29)
  else match s.get (F.ICU_SRC_TARGET n) with
    | 1 => .ntc
    | 2 => .scc
    | _ => .apc

/-- Whether source `n` is claimed. -/
def irqClaimed (s : State) (n : Nat) : Bool := s.icu.claims.any (fun c => c.1 == n)

/-- Whether source `n` is pending for core `k` (13 R328). -/
def irqPendingFor (s : State) (k : Core) (n : Nat) : Bool :=
  s.irqAsserted n && s.get (F.ICU_SRC_PRIO n) != 0 && s.irqTarget n == k && !s.irqClaimed n

/-- The pending source of highest PRIO for core `k`, the lowest number among equals (13 R329). -/
def irqBest (s : State) (k : Core) : Option Nat :=
  (List.range 128).foldl (fun b n =>
    if s.irqPendingFor k n then
      (match b with
       | none => some n
       | some m => if s.get (F.ICU_SRC_PRIO m) < s.get (F.ICU_SRC_PRIO n) then some n else b)
    else b) none

/-- The threshold of core `k` (13 R335). -/
def irqThreshold (s : State) (k : Core) : Nat :=
  s.getI (iniOf k) F.ICU_THRESHOLD_THRESHOLD

/-- Core `k`'s machine external interrupt (13 R328). -/
def irqLine (s : State) (k : Core) : Bool :=
  match s.irqBest k with
  | some n => decide (s.irqThreshold k < s.get (F.ICU_SRC_PRIO n))
  | none => false

/-- A read of ICU.CLAIM (13 R329, R335). -/
def icuClaim (s : State) (i : Initiator) : Word × State :=
  if !s.enabled P.ICU then (0, s)
  else match coreOf i with
    | none => (0, s)
    | some k =>
      match s.irqBest k with
      | some n => (BitVec.ofNat 32 (0x80 + n), { s with icu := { s.icu with claims := s.icu.claims ++ [(n, k)] } })
      | none => (0, s)

/-- A write of ICU.COMPLETE (13 R329). -/
def icuComplete (s : State) (i : Initiator) (w : Nat) : State :=
  match coreOf i with
  | some k =>
    if s.enabled P.ICU then { s with icu := { s.icu with claims := s.icu.claims.filter (· != (w % 128, k)) } } else s
  | none => s

/-- Drop the cache lines that satisfy `p`. -/
def dropLines (s : State) (p : CacheLine → Bool) : State := { s with cores := { s.cores with cache := s.cores.cache.filter (fun c => !p c) } }

/-- Drop the cache lines that overlap `n` bytes from `a`, in every cache (13 R324). -/
def dropRange (s : State) (a n : Nat) : State := s.dropLines (fun c => decide (c.line < a + n) && decide (a < c.line + 32))

/-- A write of ICU.CACHE_INV (13 R324, R335): only a core has a cache to invalidate. -/
def cacheInvWrite (s : State) (i : Initiator) (w : Nat) : State :=
  match coreOf i with
  | some k => if w.testBit 0 && s.enabled P.ICU then s.dropLines (fun c => c.core == k) else s
  | none => s

/-- The cached line of core `k` that holds address `a`. -/
def cacheHit (s : State) (k : Core) (a : Nat) : Option (List Byte) :=
  (s.cores.cache.find? (fun c => c.core == k && c.line == a / 32 * 32)).map (·.bytes)

/-- Put a line into core `k`'s cache. Of a set that holds two lines a free value chooses the one that goes (log entry 40). -/
def cacheFill (s : State) (k : Core) (line : Nat) (bs : List Byte) : State :=
  if cacheSets k = 0 then s
  else
    let same (c : CacheLine) : Bool := c.core == k && c.line / 32 % cacheSets k == line / 32 % cacheSets k
    let s1 := s.dropLines (fun c => c.core == k && c.line == line)
    let set := s1.cores.cache.filter same
    let s2 := if set.length < 2 then s1
      else match s1.freeVal with
        | (r, t) => (match set[r.toNat % set.length]? with | some c => t.dropLines (· == c) | none => t)
    { s2 with cores := { s2.cores with cache := s2.cores.cache ++ [⟨k, line, bs⟩] } }

/-- A write to ICU.MBOX_TXc (13 R331). -/
def mboxWrite (s : State) (i : Initiator) (c : Nat) (w : Word) : State :=
  if !s.enabled P.ICU then s
  else if coreOf i != some (mboxFrom c) then s.flag P.ICU 1
  else if 4 ≤ (s.mboxOf c).length then s.flag P.ICU 0
  else { s with icu := { s.icu with mbox := modifyAt s.icu.mbox c (· ++ [w]) } }

/-- A read of ICU.MBOX_RXc (13 R331). -/
def mboxRead (s : State) (i : Initiator) (c : Nat) : Word × State :=
  if !s.enabled P.ICU then (0, s)
  else if coreOf i != some (mboxTo c) then (0, s.flag P.ICU 1)
  else match s.mboxOf c with
    | w :: _ => (w, { s with icu := { s.icu with mbox := modifyAt s.icu.mbox c (·.drop 1) } })
    | [] => (0, s)

/-- ICU.MBOX_STAT.COUNT. -/
def mboxCounts (s : State) : Nat := (List.range 6).foldl (fun a c => a + (s.mboxOf c).length * 8 ^ c) 0

/-- A read of a block register of ICU, given what the register file holds (13 R335). -/
def icuRead (s : State) (i : Initiator) (off : Nat) (raw : Word) : Word × State :=
  if off = 0x100 then s.icuClaim i
  else if off < 0x110 then (if (coreOf i).isSome then (raw, s) else (0, s))
  else if off = 0x110 then (BitVec.ofNat 32 s.mboxCounts, s)
  else if 0x160 ≤ off ∧ off < 0x178 then s.mboxRead i ((off - 0x160) / 4)
  else if 0x200 ≤ off ∧ off < 0x400 then
    (let n := (off - 0x200) / 4
     (raw ||| BitVec.ofNat 32 (0x100 * boolNat (s.irqAsserted n) + 0x200 * boolNat (s.irqClaimed n)), s))
  else (raw, s)

/-- What a write to a block register of ICU does beside the register file. -/
def icuWrite (s : State) (i : Initiator) (off : Nat) (w : Word) : State :=
  if off = 0x104 then s.icuComplete i w.toNat
  else if off = 0x10C then s.cacheInvWrite i w.toNat
  else if 0x140 ≤ off ∧ off < 0x158 then s.mboxWrite i ((off - 0x140) / 4) w
  else s

/-- What a DOMAIN_RESTART of a core clears here (13 R324, R329, R331): its claims, the channels of which it is one end, its cache. -/
def icuRestart (s : State) (k : Core) : State :=
  let s1 := { s with icu := ⟨s.icu.claims.filter (fun c => c.2 != k),
    (List.range 6).map (fun c => if mboxTo c == k || mboxFrom c == k then [] else s.mboxOf c)⟩ }
  s1.dropLines (fun c => c.core == k)

/-- The flag of a hart in DBG.STAT (13 R332, R336). -/
def hartField (h : Nat) : Field := if h = 0 then F.DBG_STAT_APC_HALTED else F.DBG_STAT_NTC_HALTED

/-- The scope in force reaches a hart (12 R318), and its core runs. -/
def hartReach (s : State) (h : Nat) : Bool :=
  decide (h < 2) && decide (h + 1 ≤ s.dbgScope) && s.cores.released.contains (if h = 0 then .apc else .ntc)

end State

/-- Halt or resume one hart, or both with HALT_GROUP = 1 (13 R333). -/
def hartsSet (s : State) (h : Nat) (v : Nat) : State :=
  if s.on F.DBG_CFG_HALT_GROUP then (s.put F.DBG_STAT_APC_HALTED v).put F.DBG_STAT_NTC_HALTED v
  else s.put (State.hartField h) v

/-- DEBUG_HALT (13 R332, R333; 12 R318). -/
def execDebugHalt (hart : Nat) (s : State) : Host.Outcome State Fault Refusal :=
  .next (if s.hartReach hart then (hartsSet s hart 1).connected else s.connected)

/-- DEBUG_RESUME (13 R332, R333; 12 R318). -/
def execDebugResume (hart : Nat) (s : State) : Host.Outcome State Fault Refusal :=
  .next (if s.hartReach hart then (hartsSet s hart 0).connected else s.connected)

end Sys2Proof.Machine
end

