-- ==== Sys2Proof/Machine/Flash.lean ====
section
/-! DEFINITION. The flash controller (14): the descriptor ring, program, erase and read-back, suspend and abort, the log of an
interrupted operation. -/

namespace Sys2Proof.Machine

/-- A flash sector by its base address: bank × 64 + sector number (14 R337), which is also its unit's instance (21 R465). -/
def sectorOf (a : Nat) : Nat :=
  let b := a / 0x200000 % 2
  let o := a % 0x200000
  64 * b + (if o < 0x10000 then o / 0x2000 else 8 + (o - 0x10000) / 0x10000)

/-- The base address and the size of a sector. -/
def sectorBase (n : Nat) : Nat :=
  n / 64 * 0x200000 + (if n % 64 < 8 then n % 64 * 0x2000 else 0x10000 + (n % 64 - 8) * 0x10000)
def sectorSize (n : Nat) : Nat := if n % 64 < 8 then 0x2000 else 0x10000

/-- The unit code of a flash sector. -/
def uSector (n : Nat) : Nat := 0x0500 + n

/-- The result codes of a descriptor (14 R349). -/
def flOk : Nat := 0
def flDenied : Nat := 1
def flRange : Nat := 2
def flSrcFault : Nat := 3
def flEccUncorr : Nat := 4
def flRetired : Nat := 5
def flAborted : Nat := 6
def flBadOp : Nat := 7

/-- No stop is asked for and MIN_RUN does not run. -/
def noStops (f : Flash) : Flash := { f with wantSw := false, wantAuto := false, wantAbort := false, minRun := false }

namespace State

/-- Change the flash controller's part that is no register. -/
def setFlash (s : State) (g : Flash → Flash) : State := { s with flash := g s.flash }

/-- Every byte of a range takes the value that an unlisted byte has: erased flash, cleared SRAM. -/
def clearRange (s : State) (a n : Nat) : State :=
  { s with mem := s.mem.filter (fun c => !(decide (a ≤ c.1) && decide (c.1 < a + n)))
           flt := { s.flt with badWords := s.flt.badWords.filter (fun w => !(decide (a ≤ w) && decide (w < a + n))) } }

/-- A sector whose contents are undefined: its erase has begun and not completed (14 R346, R355). -/
def sectorUndef (s : State) (n : Nat) : Bool := s.flash.undef.contains n

/-- `n` bytes of flash as a number: a free value where the sector's contents are undefined. -/
def flashNat (s : State) (a n : Nat) : Nat × State :=
  if s.sectorUndef (sectorOf a) then (match s.freeVal with | (w, t) => (w.toNat % 256 ^ n, t)) else (s.memNat a n, s)

/-- The bytes of a flash range: free values where the sector's contents are undefined. -/
def flashBytes (s : State) (a n : Nat) : List Byte × State :=
  if s.sectorUndef (sectorOf a) then
    (List.range n).foldl (fun (p : List Byte × State) _ => match p.2.freeVal with | (w, t) => (p.1 ++ [BitVec.ofNat 8 w.toNat], t)) ([], s)
  else (s.bytesAt a n, s)

/-- The prefetch buffer of a bank is empty (14 R341). -/
def prefetchEmpty (s : State) (bank : Nat) : State :=
  s.setFlash (fun f => { f with prefetch := f.prefetch.filter (fun l => l / 0x200000 != bank) })

/-- After a line that the continuous-read path delivers, the next line of its bank is read into the bank's buffer of two lines, the older of which
goes (14 R341; log entry 121). -/
def prefetchNext (s : State) (line : Nat) : State :=
  let next := line + 32
  if s.on F.FLC_CFG_PREFETCH && next / 0x200000 == line / 0x200000 then
    s.setFlash (fun f =>
      let mine := f.prefetch.filter (fun l => l / 0x200000 == line / 0x200000 && l != next)
      { f with prefetch := f.prefetch.filter (fun l => l / 0x200000 != line / 0x200000) ++ mine.drop (mine.length - 1) ++ [next] })
  else s

/-- Erase a sector. -/
def eraseSector (s : State) (n : Nat) : State :=
  (s.clearRange (sectorBase n) (sectorSize n)).setFlash (fun f => { f with undef := f.undef.filter (· != n) })

/-- `n` bytes take free values. -/
def openBytes (s : State) (a n : Nat) : State :=
  (List.range n).foldl (fun t k => match t.freeVal with | (w, u) => u.setByte (a + k) (BitVec.ofNat 8 w.toNat)) s

/-- Program one unit of 16 bytes (14 R339, R350, R351): all-ones data is skipped; a unit that has been programmed already, or one in a sector
of undefined contents, takes free values. -/
def programUnit (s : State) (a : Nat) (bs : List Byte) : State :=
  if bs.all (· == 0xFF) then s
  else if !s.sectorUndef (sectorOf a) && (s.bytesAt a 16).all (· == 0xFF) then s.setBytes a bs
  else s.openBytes a 16

/-- Program bytes through the internal port, unit by unit; the last unit is filled with ones (14 R354). -/
def programBytes (s : State) (a : Nat) (bs : List Byte) : State :=
  (List.range ((bs.length + 15) / 16)).foldl (fun t k =>
    t.programUnit (a + 16 * k) ((List.range 16).map (fun j => bs.getD (16 * k + j) 0xFF))) s

/-- A corrected single-bit error of a flash unit (14 R342; 21 R466): it does not count while its unit is among the last 16 that counted
within the window. -/
def flashCorrected (s : State) (a : Nat) : State :=
  let u := uSector (sectorOf a)
  let w := (if s.get F.FLT_CFG_RETIRE_WINDOW = 0 then 1 else s.get F.FLT_CFG_RETIRE_WINDOW) * 8388608
  if s.flt.corr.any (fun c => c.1 == a / 16 && decide ((s.count + 2 ^ 48 - c.2) % 2 ^ 48 ≤ w)) then
    ((s.flag P.FLT 0).event P.FLT 0).faultLog 0 5 (s.faultTimes u).length u
  else
    let s1 := s.reportFault u .transient
    { s1 with flt := { s1.flt with corr := (s1.flt.corr ++ [(a / 16, s1.count)]).drop (s1.flt.corr.length - 15) } }

/-- A sector closed to bus initiators by FLC.PROT0 and FLC.PROT1 (14 R350, R358). -/
def sectorClosed (s : State) (n : Nat) : Bool :=
  let p := n % 64
  if n < 64 then (if p < 8 then (s.get F.FLC_PROT1_B0_PARAM).testBit p else (s.get F.FLC_PROT0_B0_MAIN).testBit (p - 8))
  else if p < 8 then (s.get F.FLC_PROT1_B1_PARAM).testBit p
  else if p < 23 then s.on F.FLC_PROT1_FLACON
  else s.on F.FLC_PROT1_PREV

/-- The bank that a program or erase keeps from being read (14 R344), if it runs. -/
def flashBusyBank (s : State) : Option Nat :=
  match s.flash.op with
  | some o =>
    if o.result.isNone && (o.op == 1 || o.op == 2) && !s.on F.FLC_STAT_SW_SUSP && !s.on F.FLC_STAT_AUTO_SUSP then some (o.addr / 0x200000) else none
  | none => none

/-- Nothing queued, active or suspended (14 R347). -/
def flashIdle (s : State) : Bool := s.flash.queue.isEmpty && s.flash.op.isNone

/-- FLC.STAT and the page state, from the controller's state. -/
def flcStat (s : State) : State :=
  let n := s.flash.queue.length + (if s.flash.op.isSome then 1 else 0)
  let s1 := s.put F.FLC_STAT_QUEUED n
  match s.flash.op with
  | some o =>
    let s2 := ((s1.put F.FLC_STAT_BUSY 1).put F.FLC_STAT_ACTIVE_SLOT o.slot).put F.FLC_STAT_BANK (o.addr / 0x200000)
    s2.setPageSt P.FLC (if s2.on F.FLC_STAT_SW_SUSP || s2.on F.FLC_STAT_AUTO_SUSP then 2 else 1)
  | none => ((s1.put F.FLC_STAT_BUSY 0).put F.FLC_STAT_SW_SUSP 0).put F.FLC_STAT_AUTO_SUSP 0 |>.setPageSt P.FLC 0

/-- A field of a slot's STATUS word. -/
def slotPut (s : State) (n lo w v : Nat) : State := s.put ⟨Reg.FLC_SLOT_STATUS n, lo, w⟩ v

/-- The STATE of a slot: 0 FREE, 1 QUEUED, 2 ACTIVE, 3 DONE. -/
def slotState (s : State) (n : Nat) : Nat := bitsOf (s.reg (Reg.FLC_SLOT_STATUS n)).toNat 5 2

/-- A read of FLC.SUBMIT (14 R348). -/
def flcSubmit (s : State) (i : Initiator) : Word × State :=
  if !s.enabled P.FLC then (0, s)
  else match ((List.range 32).map (fun k => (s.flash.next + k) % 32)).find? (fun n => s.slotState n == 0) with
    | none => (0, s)
    | some n =>
      let s1 := ((s.setReg (Reg.FLC_SLOT_CMD n) (s.regI i Reg.FLC_D_CMD)).setReg (Reg.FLC_SLOT_ADDR n) (s.regI i Reg.FLC_D_ADDR)).setReg
        (Reg.FLC_SLOT_SRC n) (s.regI i Reg.FLC_D_SRC)
      let s2 := s1.setReg (Reg.FLC_SLOT_STATUS n) (BitVec.ofNat 32 (32 + n))
      let s3 := s2.setFlash (fun f => { f with next := (n + 1) % 32, queue := f.queue ++ [n], who := f.who.set n i })
      (BitVec.ofNat 32 (0x80000000 + n), s3.flcStat)

/-- A slot becomes DONE (14 R349, R358). -/
def slotDone (s : State) (n result : Nat) (margin : Bool) (weak dur : Nat) : State :=
  let s1 := ((((s.slotPut n 5 2 3).slotPut n 7 4 result).slotPut n 11 1 (boolNat margin)).slotPut n 12 8 (min weak 255)).slotPut n 20 12
    (min ((dur + 31) / 32) 4095)
  let s2 := s1.setFlash (fun f => { f with doneQ := f.doneQ ++ [n] })
  let s3 := if (s2.reg (Reg.FLC_SLOT_CMD n)).toNat.testBit 4 then s2.flag P.FLC 0 else s2
  (if result ≠ 0 then s3.flag P.FLC 1 else s3).event P.FLC 0

/-- A read of FLC.DONE (14 R353). -/
def flcDone (s : State) (i : Initiator) : Word × State :=
  if !s.enabled P.FLC then (0, s)
  else match s.flash.doneQ with
    | [] => (0, s)
    | n :: rest =>
      let w := s.reg (Reg.FLC_SLOT_STATUS n)
      let s1 := (s.setRegI i Reg.FLC_DONE_ADDR (s.reg (Reg.FLC_SLOT_ADDR n))).setRegI i Reg.FLC_DONE_DATA (s.reg (Reg.FLC_SLOT_SRC n))
      (w, (s1.slotPut n 5 2 0).setFlash (fun f => { f with doneQ := rest }))

/-- The checks of a descriptor when it becomes ACTIVE (14 R350), in order; none when all pass. -/
def descCheck (s : State) (o : FlashOp) (cmd : Nat) : Option Nat :=
  let n := sectorOf o.addr
  if o.op = 0 ∨ 3 < o.op ∨ bitsOf cmd 5 11 ≠ 0 ∨ bitsOf cmd 28 4 ≠ 0 then some flBadOp
  else if 0x400000 ≤ o.addr ∨
      (if o.op = 2 then o.addr ≠ sectorBase n
       else o.addr % 16 ≠ 0 ∨ sectorBase n + sectorSize n < o.addr + 16 * o.units) ∨
      (o.op = 1 ∧ o.src % 4 ≠ 0) then some flRange
  else if o.op ≠ 3 ∧ s.sectorClosed n then some flDenied
  else if o.op ≠ 3 ∧ s.isRetired (uSector n) then some flRetired
  else if o.op = 1 ∧ !(([Region.apcSram, .ntcSram, .radioBuffer, .sccSram].contains (regionOf o.src)) && s.reaches o.ini false o.src (16 * o.units))
    then some flSrcFault
  else none

/-- The next descriptor becomes ACTIVE if it is one of operation `op`, or one whose OP is invalid (14 R348, R350, R352). -/
def flcActivate (s : State) (op : Nat) : State :=
  match s.flash.op, s.flash.queue with
  | none, n :: rest =>
    if !s.enabled P.FLC then s
    else
      let cmd := (s.reg (Reg.FLC_SLOT_CMD n)).toNat
      let k := bitsOf cmd 0 4
      if k ≠ op ∧ k ≠ 0 ∧ k ≤ 3 then s
      else
        let u := bitsOf cmd 16 12
        let o : FlashOp := ⟨n, k, (s.reg (Reg.FLC_SLOT_ADDR n)).toNat, if u = 0 then 4096 else u, (s.reg (Reg.FLC_SLOT_SRC n)).toNat,
          s.flash.who.getD n .apc, none, 0, false, k == 3 && s.on F.FLC_MARGIN_EN, 0, 0xFFFFFFFF⟩
        let r := s.descCheck o cmd
        let o := { o with result := r, margin := o.margin && r.isNone }
        let s1 := (s.setFlash (fun f => { noStops f with queue := rest, op := some o })).slotPut n 5 2 2
        let s2 := if o.result.isSome then s1
          else if k = 2 then
            (s1.dropRange o.addr (sectorSize (sectorOf o.addr))).setFlash (fun f =>
              { f with op := some { o with begun := true }
                       undef := if f.undef.contains (sectorOf o.addr) then f.undef else f.undef ++ [sectorOf o.addr] })
          else if k = 1 then s1.dropRange o.addr (16 * o.units)
          else s1
        (if o.result.isNone && k != 3 then s2.prefetchEmpty (o.addr / 0x200000) else s2).flcStat
  | _, _ => s

/-- Replace the ACTIVE descriptor. -/
def setOp (s : State) (o : FlashOp) : State := s.setFlash (fun f => { f with op := some o })

/-- Program `n` further units of the ACTIVE descriptor (14 R350). -/
def programMore (s : State) : Nat → State
  | 0 => s
  | n + 1 =>
    match s.flash.op with
    | some o =>
      if o.op != 1 || o.result.isSome then s
      else
        let src := o.src + 16 * o.done
        let a := o.addr + 16 * o.done
        if s.rangeBad src 16 then
          ((s.faultRange src 16).setReg (Reg.FLC_SLOT_ADDR o.slot) (BitVec.ofNat 32 a)).setOp { o with result := some flSrcFault }
        else
          let s1 := s.programUnit a (s.bytesAt src 16)
          programMore (s1.setOp { o with done := o.done + 1, result := if o.units ≤ o.done + 1 then some flOk else none }) n
    | none => s

/-- Read `n` further units of the ACTIVE descriptor back (14 R342, R352); `weak` names the units, counted from its first, that hold a
single-bit error. -/
def readMore (s : State) (weak : List Nat) : Nat → State
  | 0 => s
  | n + 1 =>
    match s.flash.op with
    | some o =>
      if o.op != 3 || o.result.isSome then s
      else
        let a := o.addr + 16 * o.done
        if s.rangeBad a 16 && !s.sectorUndef (sectorOf a) then
          let s1 := if o.margin then s else s.reportFault (uSector (sectorOf a)) .memory
          (s1.setReg (Reg.FLC_SLOT_ADDR o.slot) (BitVec.ofNat 32 a)).setOp { o with result := some flEccUncorr }
        else
          let s1 := if weak.contains o.done && !o.margin then s.flashCorrected a else s
          match s1.flashBytes a 16 with
          | (bs, s2) =>
            readMore (s2.setOp { o with
              done := o.done + 1, crc := crcRefl 0xEDB88320 o.crc bs, weak := o.weak + boolNat (weak.contains o.done)
              result := if o.units ≤ o.done + 1 then some flOk else none }) weak n
    | none => s

/-- Whether the ACTIVE descriptor is of operation `op` and runs. -/
def flcRuns (s : State) (op : Nat) : Bool :=
  match s.flash.op with
  | some o => o.op == op && o.result.isNone && !s.on F.FLC_STAT_SW_SUSP && !s.on F.FLC_STAT_AUTO_SUSP
  | none => false

/-- The erase of the ACTIVE descriptor completes. -/
def eraseEnd (s : State) : State :=
  match s.flash.op with
  | some o => (s.eraseSector (sectorOf o.addr)).setOp { o with result := some flOk }
  | none => s

/-- The ACTIVE descriptor reaches a safe point after some further units, and the stop that waits takes effect (14 R343, R345, R355); a stop
by software comes with it if both were asked for. -/
def flcSafePoint (s : State) (units : Nat) : State :=
  match s.flash.op with
  | some o =>
    if o.result.isSome then s
    else if s.flash.wantAbort || s.flash.wantSw || s.flash.wantAuto then
      let s1 := if s.on F.FLC_STAT_SW_SUSP || s.on F.FLC_STAT_AUTO_SUSP then s
        else if o.op = 1 then s.programMore units else if o.op = 3 then s.readMore [] units else s
      let s2 := match s1.flash.op with
        | some o1 =>
          if o1.result.isSome then s1
          else if s1.flash.wantAbort then s1.setOp { o1 with result := some flAborted }
          else
            let s3 := if s1.flash.wantSw then s1.put F.FLC_STAT_SW_SUSP 1 else s1
            (if s1.flash.wantAuto then s3.put F.FLC_STAT_AUTO_SUSP 1 else s3).prefetchEmpty (o1.addr / 0x200000)
        | none => s1
      (s2.setFlash (fun f => { f with wantAbort := false, wantSw := false, wantAuto := false })).flcStat
    else s
  | none => s

/-- A read of a busy bank (14 R344, R345): the suspend it asks for, unless MIN_RUN still runs. -/
def flcReadBusy (s : State) : State :=
  if s.on F.FLC_CFG_AUTO_SUSPEND && !s.flash.minRun then s.setFlash (fun f => { f with wantAuto := true }) else s

/-- The operation runs on, and MIN_RUN begins (14 R345), once neither suspend holds. -/
def flcResume (s : State) : State :=
  (if s.on F.FLC_STAT_SW_SUSP || s.on F.FLC_STAT_AUTO_SUSP then s else s.setFlash (fun f => { f with minRun := true })).flcStat

/-- A write of FLC.CTRL (14 R345, R355). -/
def flcCtrl (s : State) (w : Nat) : State :=
  if !s.enabled P.FLC then s
  else
    let live := match s.flash.op with | some o => o.result.isNone | none => false
    let s1 :=
      if w.testBit 0 && live then
        (if s.on F.FLC_STAT_AUTO_SUSP then (s.put F.FLC_STAT_SW_SUSP 1).flcStat
         else if s.on F.FLC_STAT_SW_SUSP then s else s.setFlash (fun f => { f with wantSw := true }))
      else s
    let s2 :=
      if w.testBit 1 then
        (let u := s1.setFlash (fun f => { f with wantSw := false })
         if u.on F.FLC_STAT_SW_SUSP then (u.put F.FLC_STAT_SW_SUSP 0).flcResume else u)
      else s1
    if w.testBit 2 then
      (let q := s2.flash.queue
       let s3 := s2.setFlash (fun f => { f with queue := [] })
       let s4 := q.foldl (fun t n => t.slotDone n flAborted false 0 0) s3
       (match s4.flash.op with
        | some o =>
          if o.result.isSome then s4
          else if s4.on F.FLC_STAT_SW_SUSP || s4.on F.FLC_STAT_AUTO_SUSP then
            ((s4.setOp { o with result := some flAborted }).put F.FLC_STAT_SW_SUSP 0).put F.FLC_STAT_AUTO_SUSP 0
          else s4.setFlash (fun f => { f with wantAbort := true })
        | none => s4).flcStat)
    else s2

/-- The ACTIVE descriptor completes after `dur` microseconds. -/
def flcComplete (s : State) (dur : Nat) : State :=
  match s.flash.op with
  | some o =>
    match o.result with
    | some r =>
      let s1 := if o.op = 3 ∧ (r = flOk ∨ r = flEccUncorr) then s.setReg (Reg.FLC_SLOT_SRC o.slot) (BitVec.ofNat 32 (o.crc ^^^ 0xFFFFFFFF)) else s
      ((s1.setFlash (fun f => { noStops f with op := none })).slotDone
        o.slot r (o.op == 3 && o.margin) (if o.op = 3 then o.weak else 0) dur).flcStat
    | none => s
  | none => s

/-- The reset that waits for a safe point records the operation it interrupts in FLC.ILOG; the queue and the ring are lost (14 R356). The unit at
which a PROGRAM is interrupted takes free values (14 R357). -/
def flcInterrupt (s : State) (units : Nat) : State :=
  match s.flash.op with
  | some o =>
    if o.result.isNone && (o.op == 1 || o.op == 2) then
      let s1 := if o.op = 1 && !s.on F.FLC_STAT_SW_SUSP && !s.on F.FLC_STAT_AUTO_SUSP then s.programMore units else s
      match s1.flash.op with
      | some o1 =>
        let n := sectorOf o1.addr
        let s2 := if o1.op = 1 ∧ o1.result.isNone then s1.openBytes (o1.addr + 16 * o1.done) 16 else s1
        s2.setReg Reg.FLC_ILOG (BitVec.ofNat 32 (1 + 2 * boolNat (o1.op == 2) + 4 * (n / 64) + 8 * (n % 64) +
          (if o1.op = 1 then 0x1000 * ((o1.addr % 0x200000) / 16 + o1.done) else 0)))
      | none => s1
    else s
  | none => s

/-- A read of a block register of FLC, given what the register file holds. -/
def flcRead (s : State) (i : Initiator) (off : Nat) (raw : Word) : Word × State :=
  if off = 0x14C then s.flcSubmit i
  else if off = 0x150 then s.flcDone i
  else (raw, s)

end State

open State

/-- PROGRAM (14 R350): a PROGRAM descriptor becomes ACTIVE and is checked; `units` of its units are programmed. -/
def execProgram (units : Nat) (s : State) : Host.Outcome State Fault Refusal :=
  let s1 := s.flcActivate 1
  .next (if s1.flcRuns 1 then s1.programMore units else s1)

/-- ERASE (14 R350): an ERASE descriptor becomes ACTIVE and is checked; its sector's contents are undefined until its last pulse. -/
def execErase (complete : Bool) (s : State) : Host.Outcome State Fault Refusal :=
  let s1 := s.flcActivate 2
  .next (if s1.flcRuns 2 && complete then s1.eraseEnd else s1)

/-- READBACK (14 R342, R352): a READBACK descriptor becomes ACTIVE and reads `units` of its units; `weak` are units with a single-bit error. -/
def execReadback (units : Nat) (weak : List Nat) (s : State) : Host.Outcome State Fault Refusal :=
  let s1 := s.flcActivate 3
  .next (if s1.flcRuns 3 then s1.readMore weak units else s1)

/-- AUTO_RESUME (14 R345): no read of the bank has arrived for 10 µs; a suspend by software goes on. -/
def execAutoResume (s : State) : Host.Outcome State Fault Refusal :=
  .next (if s.on F.FLC_STAT_AUTO_SUSP then (s.put F.FLC_STAT_AUTO_SUSP 0).flcResume else s)

end Sys2Proof.Machine
end

