-- ==== Sys2Proof/Machine/Ports.lean ====
section
/-! DEFINITION. The serial ports and their memory windows (15): the transmit queue and the receive FIFO, slave mode, window reads and posted
writes, SPT0's line buffers. -/

namespace Sys2Proof.Machine

/-- What a window access comes to: served with a value, or it waits. -/
inductive WinAns where
  | done (v : Word)
  | wait
  deriving DecidableEq, Repr

/-- The first bus address of a port's window (02 R33). -/
def winBase (n : Nat) : Nat := if n = 0 then 0x10000000 else 0x13000000 + 0x1000000 * n

/-- The length in bits of a queue word, from QCTL.LEN (15 R376). -/
def wordBits (len : Nat) : Nat := (if len < 3 then 3 else len) + 1

namespace State

/-- Serial port `n`'s part that is no register. -/
def spt (s : State) (n : Nat) : Spt := s.spts.getD n spt0

/-- Change serial port `n`'s part that is no register. -/
def setSpt (s : State) (n : Nat) (g : Spt → Spt) : State := { s with spts := modifyAt s.spts n g }

/-- Change SPT0's line buffers. -/
def setPf (s : State) (g : Prefetch → Prefetch) : State := { s with prefetch := g s.prefetch }

/-- A master port that may work. -/
def sptMaster (s : State) (n : Nat) : Bool := !s.on (F.SPT_CFG_SLAVE n)

/-- SPTn.STAT and the page state, from the port's state (15 R376). -/
def sptStat (s : State) (n : Nat) : State :=
  let p := s.spt n
  let fill := n == 0 && s.prefetch.fill.isSome
  let s1 := ((((s.put (F.SPT_STAT_Q_COUNT n) p.queue.length).put (F.SPT_STAT_RX_COUNT n) p.rx.length).put (F.SPT_STAT_Q_BUSY n)
    (boolNat p.busy)).put (F.SPT_STAT_HELD n) (boolNat (p.held.isSome && p.queue.isEmpty))).put (F.SPT_STAT_POSTED n) (boolNat (!p.buf.isEmpty))
  s1.setPageSt (P.SPT n) (if p.polling then 3 else if fill then 2 else if p.busy || p.held.isSome then 1 else 0)

/-- A window read or write that the port cannot serve falls under condition 1 of R40 (15 R369). -/
def winDenied (s : State) (n : Nat) (write : Bool) : Bool :=
  !s.enabled (P.SPT n) || !s.on (F.SPT_WIN_CFG_EN n) || s.on (F.SPT_CFG_SLAVE n) || (write && !s.on (F.SPT_WIN_CFG_WR_EN n))

/-- The external byte that a window address names (15 R368). -/
def winExt (s : State) (n a : Nat) : Nat := if s.on (F.SPT_WIN_CFG_ADDR4 n) then a - winBase n else (a - winBase n) % 0x1000000

/-- The port's one transaction at a time leaves no room for another (15 R375). -/
def sptBusy (s : State) (n : Nat) : Bool :=
  (s.spt n).busy || (s.spt n).held.isSome || (s.spt n).polling || (n == 0 && s.prefetch.fill.isSome)

/-- What a port does on its lines is recorded. -/
def sptLine (s : State) (n : Nat) (items : List SptItem) : State := s.setSpt n (fun p => { p with sent := p.sent ++ items })

/-- A select is asserted, and released (15 R361; 0 acts as 1). -/
def sptSelect (s : State) (n cs : Nat) : SptItem :=
  .select cs (2 * s.get (F.SPT_CFG_CPOL n) + s.get (F.SPT_CFG_CPHA n)) (max 1 (s.get (F.SPT_CFG_CSS n)))
def sptRelease (s : State) (n cs : Nat) : SptItem := .release cs (max 1 (s.get (F.SPT_CFG_CSH n)))

/-- The data lines of a window read (15 R370, R376). -/
def rdLines (s : State) (n : Nat) : Nat :=
  if n ≠ 0 then 1 else match s.get (F.SPT_WIN_CFG_RD_LINES 0) with | 1 => 2 | 2 => 4 | _ => 1

/-- Bytes as window transfers send them, each most significant bit first (15 R368). -/
def msbFirst (bs : List Nat) : List Bool := bs.flatMap (fun b => (List.range 8).map (fun k => b.testBit (7 - k)))

/-- An external address as it is sent: bits 23 to 0, or 31 to 0, the most significant byte first (15 R368; log entry 122). -/
def winAddr (s : State) (n x : Nat) : List Nat :=
  (if s.on (F.SPT_WIN_CFG_ADDR4 n) then [x / 2 ^ 24 % 256] else []) ++ [x / 2 ^ 16 % 256, x / 2 ^ 8 % 256, x % 256]

/-- The exit sequence (15 R374): 8 periods with every RD_LINES line high. -/
def exitSequence (s : State) (n : Nat) : List SptItem :=
  let cs := s.get (F.SPT_WIN_CFG_CS n)
  [s.sptSelect n cs, .high (s.rdLines n) 8, s.sptRelease n cs]

/-- The first transaction after a reset, with CONT_EN = 1, is the exit sequence (15 R374). -/
def firstExit (s : State) (n : Nat) : Bool := (s.spt n).exitDue && s.on (F.SPT_WIN_CFG_CONT_EN n)

/-- Continuous read begins on a select line, or ends (15 R374, R376). -/
def setCont (s : State) (n : Nat) (on : Option Nat) : State :=
  (s.put (F.SPT_STAT_CONT_ACTIVE n) (boolNat on.isSome)).setSpt n (fun p => { p with exitDue := false, contOn := on })

/-- Before a transaction other than a window read on select line `cs` the port sends the exit sequence where one is due (15 R374). -/
def leaveCont (s : State) (n cs : Nat) : State :=
  if s.firstExit n || (s.spt n).contOn == some cs then (s.sptLine n (s.exitSequence n)).setCont n none
  else s.setSpt n (fun p => { p with exitDue := false })

/-- A window read of `k` bytes from external byte `x` goes out (15 R370): RD_OP, which later reads of a continuous read omit, the address, MODE_BYTE
with CONT_EN = 1, the dummy periods, the data. With CONT_EN = 1 the device is in continuous read from then on (15 R374). -/
def sendRead (s : State) (n x k : Nat) : State :=
  let cs := s.get (F.SPT_WIN_CFG_CS n)
  let cont := s.on (F.SPT_WIN_CFG_CONT_EN n)
  let s1 := if s.firstExit n || (!cont && (s.spt n).contOn == some cs) then (s.sptLine n (s.exitSequence n)).setCont n none else s
  let lines := s1.rdLines n
  let op : List SptItem := if (s1.spt n).contOn == some cs then [] else [.send 1 (msbFirst [s1.get (F.SPT_WIN_CMD_RD_OP n)])]
  let mode : List SptItem := if cont then [.send lines (msbFirst [s1.get (F.SPT_WIN_CFG_MODE_BYTE n)])] else []
  (s1.sptLine n ([s1.sptSelect n cs] ++ op ++ [.send lines (msbFirst (s1.winAddr n x))] ++ mode ++
    [.dummy (s1.get (F.SPT_WIN_CFG_DUMMY n)), .recv lines k, s1.sptRelease n cs])).setCont n (if cont then some cs else none)

/-- The write buffer goes out (15 R371): WREN_OP as a transaction of its own; WR_OP, the address and the data on one line. -/
def sendFlush (s : State) (n : Nat) : State :=
  let cs := s.get (F.SPT_WIN_CFG_CS n)
  let p := s.spt n
  s.sptLine n [s.sptSelect n cs, .send 1 (msbFirst [s.get (F.SPT_WIN_CMD_WREN_OP n)]), s.sptRelease n cs,
    s.sptSelect n cs, .send 1 (msbFirst ([s.get (F.SPT_WIN_CMD_WR_OP n)] ++ s.winAddr n p.bufAt ++ toNats p.buf)), s.sptRelease n cs]

/-- A status byte is asked for (15 R371). -/
def sendPoll (s : State) (n : Nat) : State :=
  let cs := s.get (F.SPT_WIN_CFG_CS n)
  s.sptLine n [s.sptSelect n cs, .send 1 (msbFirst [s.get (F.SPT_WIN_CMD_STAT_OP n)]), .recv 1 1, s.sptRelease n cs]

/-- The bits of a queue word in the order in which they are sent (15 R362). -/
def wordSent (s : State) (n : Nat) (w : Word) (len : Nat) : List Bool :=
  let bits := (List.range len).map w.toNat.testBit
  if s.on (F.SPT_CFG_LSB_FIRST n) then bits else bits.reverse

/-- A select that is held is released (15 R363, R364). -/
def dropHeld (s : State) (n : Nat) : State :=
  match (s.spt n).held with
  | some cs => (s.sptLine n [s.sptRelease n cs]).setSpt n (fun p => { p with held := none })
  | none => s

/-- SPT0's line buffers are invalidated (15 R373). -/
def pfClear (s : State) : State := s.setPf (fun p => { p with lines := [], stale := p.fill.isSome, ahead := none })

/-- The line buffer that holds external line `l`. -/
def pfFind (s : State) (l : Nat) : Option PfLine := s.prefetch.lines.find? (·.line == l)

/-- The port begins a line fill. -/
def startFill (s : State) (l : Nat) (fetch : Bool) : State :=
  ((s.sendRead 0 l 32).setPf (fun p => { p with fill := some l, fetch := fetch, stale := false })).sptStat 0

/-- `n` bytes of a list from `k` up as a number; a byte that the list does not have is a free value. -/
def devNat (s : State) (bs : List Byte) (k n : Nat) : Nat × State :=
  if k + n ≤ bs.length then (leNat ((bs.drop k).take n), s)
  else match s.freeVal with | (w, t) => (w.toNat % 256 ^ n, t)

/-- A window read of `k` bytes at bus address `a` (15 R370, R371, R373): what waits in the write buffer is flushed first. On SPT0 a line buffer
serves it or a line is filled; on the other ports `dev` is what the device answers: the bytes of the access, or for an instruction fetch the
aligned 32 bytes that hold it. -/
def winRead (s : State) (n a k : Nat) (fetch : Bool) (dev : List Byte) : WinAns × State :=
  let p := s.spt n
  let x := s.winExt n a
  if p.polling || p.due || !p.buf.isEmpty then (.wait, s.setSpt n (fun q => { q with due := !q.buf.isEmpty && !q.polling }))
  else if n = 0 then
    match s.pfFind (x / 32 * 32) with
    | some l =>
      let s1 := s.setPf (fun q => { q with lines := q.lines.filter (· != l) ++ [l] })
      (.done (BitVec.ofNat 32 (leNat ((l.bytes.drop (x % 32)).take k))), if fetch then s1.cacheFill .apc (a / 32 * 32) l.bytes else s1)
    | none => if s.sptBusy 0 then (.wait, s) else (.wait, s.startFill (x / 32 * 32) fetch)
  else if s.sptBusy n then (.wait, s)
  else
    let s1 := if fetch then s.sendRead n (x / 32 * 32) 32 else s.sendRead n x k
    if fetch then
      match s1.devNat dev (x % 32) k with
      | (v, s2) => (.done (BitVec.ofNat 32 v), if 32 ≤ dev.length then s2.cacheFill .apc (a / 32 * 32) (dev.take 32) else s2)
    else match s1.devNat dev 0 k with | (v, s2) => (.done (BitVec.ofNat 32 v), s2)

/-- A window write (15 R371): posted when the buffer can take it, else it waits. -/
def winWrite (s : State) (n a : Nat) (bs : List Byte) : WinAns × State :=
  let p := s.spt n
  let x := s.winExt n a
  let page := 2 ^ max (s.get (F.SPT_WIN_CFG_WR_PAGE n)) 5
  if p.polling || p.due then (.wait, s)
  else if p.buf.isEmpty || (x == p.bufAt + p.buf.length && (x + bs.length - 1) / page == p.bufAt / page && decide (p.buf.length + bs.length ≤ 32)) then
    let s1 := s.setSpt n (fun q =>
      { q with bufAt := if q.buf.isEmpty then x else q.bufAt, buf := q.buf ++ bs, due := decide (32 ≤ q.buf.length + bs.length) })
    let s2 := s1.dropRange a bs.length
    let hits (l : Nat) : Bool := decide (l < x + bs.length) && decide (x < l + 32)
    let s3 := if n = 0 then s2.setPf (fun q => { q with
        lines := q.lines.filter (fun l => !hits l.line)
        stale := q.stale || (match q.fill with | some l => hits l | none => false) }) else s2
    (.done 0, s3.sptStat n)
  else (.wait, s.setSpt n (fun q => { q with due := true }))

/-- One window access, if it can be served now. -/
def winAccess (s : State) (n : Nat) (r : BusReq) (dev : List Byte) : WinAns × State :=
  match r.op with
  | .read => s.winRead n r.addr.toNat (sizeBytes r.size) false dev
  | .fetch => s.winRead n r.addr.toNat (sizeBytes r.size) true dev
  | .write w => s.winWrite n r.addr.toNat (natLe (sizeBytes r.size) w.toNat)

/-- Serve one access that waits at port `n`'s window, if it can be served. -/
def serveOne (n : Nat) (s : State) (st : Stalled) : State :=
  let wr := match st.req.op with | .write _ => true | _ => false
  let gone (t : State) : State := { t with stalled := removeFirst (· == st) t.stalled }
  if s.winDenied n wr then gone (s.answer st.req.ini 0 .denied)
  else match s.winAccess n st.req st.dev with
    | (.done v, s1) => gone (s1.answer st.req.ini v .ok)
    | (.wait, s1) => s1

/-- The head of the queue starts if the port is free for it (15 R363, R375). -/
def startQueue (s : State) (n : Nat) : State :=
  let p := s.spt n
  match p.queue with
  | [] => s
  | e :: _ =>
    if p.busy || !s.enabled (P.SPT n) || !s.sptMaster n || (e.rxEn && decide (16 ≤ p.rx.length)) then s
    else if p.held.isNone && (p.polling || p.due || (n == 0 && s.prefetch.fill.isSome) ||
        s.stalled.any (fun st => st.why == .window n)) then s
    else
      let here := e.cs == s.get (F.SPT_WIN_CFG_CS n)
      let s1 := if p.held == some e.cs then s else s.dropHeld n
      let s2 := if here || s1.firstExit n then s1.leaveCont n e.cs else s1.setSpt n (fun q => { q with exitDue := false })
      let s3 := if here && n == 0 then s2.pfClear else s2
      let begin : List SptItem := if p.held == some e.cs then [] else [s3.sptSelect n e.cs]
      (s3.sptLine n (begin ++ [.send 1 (s3.wordSent n e.word e.len)])).setSpt n (fun q => { q with busy := true })

/-- The port takes up the work that waits (15 R375): fills for an APC fetch first, then other window accesses in their order, then the
queue. -/
def sptKick (s : State) (n : Nat) : State :=
  let mine := s.stalled.filter (fun st => st.why == .window n)
  let first := mine.filter (fun st => st.req.op == .fetch)
  let rest := mine.filter (fun st => st.req.op != .fetch)
  (((first ++ rest).foldl (serveOne n) s).startQueue n).sptStat n

/-- A write to SPTn.QTX (15 R362). -/
def sptQtx (s : State) (n : Nat) (i : Initiator) (w : Word) : State :=
  if !s.enabled (P.SPT n) then s
  else if 16 ≤ (s.spt n).queue.length then s.flag (P.SPT n) 2
  else
    let e : SptEntry := ⟨w, wordBits (s.getI i (F.SPT_QCTL_LEN n)), s.getI i (F.SPT_QCTL_CS n), s.getI i (F.SPT_QCTL_CONT n) != 0,
      s.getI i (F.SPT_QCTL_RX_EN n) != 0⟩
    let here := e.cs == s.get (F.SPT_WIN_CFG_CS n)
    (s.setSpt n (fun p => { p with queue := p.queue ++ [e], due := p.due || (here && !p.buf.isEmpty && !p.polling) })).sptKick n

/-- A read of SPTn.QRX (15 R367). -/
def sptQrx (s : State) (n : Nat) : Word × State :=
  if !s.enabled (P.SPT n) then (0, s)
  else match (s.spt n).rx with
    | w :: rest => (w, (s.setSpt n (fun p => { p with rx := rest })).sptKick n)
    | [] => (0, s.flag (P.SPT n) 8)

/-- The queue has run empty. -/
def queueEmptied (s : State) (n : Nat) : State :=
  if (s.spt n).queue.isEmpty then (s.flag (P.SPT n) 0).event (P.SPT n) 0 else s

/-- A received word of `bits` bits enters the receive FIFO. -/
def rxPush (s : State) (n bits : Nat) (w : Word) : State :=
  ((s.setSpt n (fun p => { p with rx := p.rx ++ [BitVec.ofNat 32 (w.toNat % 2 ^ bits)] })).flag (P.SPT n) 1).event (P.SPT n) 1

/-- What a port without pins receives: SPT2 and SPT3 of the QFN-56 receive 0 (23 R510). -/
def pinWord (s : State) (n : Nat) (w : Word) : Word := if s.variant = .znl7210 ∧ 2 ≤ n then 0 else w

/-- A write of SPTn.CTRL (15 R364, R367, R373). -/
def sptCtrl (s : State) (n w : Nat) : State :=
  if !s.enabled (P.SPT n) then s
  else
    let s1 := if w.testBit 2 && n == 0 then s.pfClear else s
    let s2 := if w.testBit 1 && (s1.spt n).queue.isEmpty then s1.dropHeld n else s1
    let s3 := if w.testBit 0 then
        (if (s2.spt n).busy then s2.setSpt n (fun p => { p with queue := (p.queue.take 1).map (fun e => { e with cont := false }), rx := [] })
         else (s2.dropHeld n).setSpt n (fun p => { p with queue := [], rx := [] }))
      else s2
    s3.sptKick n

/-- What a reset of the page does beside the registers (15 R366, R373, R374). -/
def sptPageReset (s : State) (n : Nat) : State :=
  let s1 := s.setSpt n (fun p => { p with last := (0, 8), exitDue := true })
  if n = 0 then s1.pfClear else s1

/-- What a write to a block register of SPTn does beside the register file. -/
def sptWrite (s : State) (i : Initiator) (n off : Nat) (w : Word) : State :=
  if off = 0x104 then s.sptCtrl n w.toNat
  else if off = 0x110 then s.sptQtx n i w
  else if off = 0x118 ∧ n ≠ 0 then s.put (F.SPT_WIN_CFG_RD_LINES n) 0
  else s

/-- A read of a block register of SPTn, given what the register file holds. -/
def sptRead (s : State) (n off : Nat) (raw : Word) : Word × State := if off = 0x114 then s.sptQrx n else (raw, s)

end State

open State

/-- QUEUE_WORD_DONE (15 R362 to R364): the word at the head of a master's queue has been sent, and `rx` came back. -/
def execQueueWordDone (port : Nat) (rx : Word) (s : State) : Host.Outcome State Fault Refusal :=
  .next (match (s.spt port).queue with
    | e :: rest =>
      if decide (port < 4) && (s.spt port).busy then
        let s1 := s.setSpt port (fun p =>
          { p with queue := rest, busy := false, held := some e.cs, last := (e.word, e.len) })
        let s1 := if e.cont then s1 else s1.dropHeld port
        let s2 := if e.rxEn then s1.rxPush port e.len (s.pinWord port rx) else s1
        (s2.queueEmptied port).sptKick port
      else s
    | [] => s)

/-- HOLD_EXPIRED (15 R364): a select has been held with an empty queue for 100 µs. -/
def execHoldExpired (port : Nat) (s : State) : Host.Outcome State Fault Refusal :=
  .next (if decide (port < 4) && (s.spt port).held.isSome && (s.spt port).queue.isEmpty && !(s.spt port).busy then
      ((s.dropHeld port).flag (P.SPT port) 6).sptKick port
    else s)

/-- What a slave port receives at the SCK of the master (15 R360): beyond 40 MHz or one third of the system clock it is undefined. -/
def slaveRx (s : State) (port : Nat) (rx : ClockedWord) : Word × State :=
  if rx.khz ≤ 40000 ∧ 3 * rx.khz ≤ s.get F.CLK_SYS_KHZ_KHZ then (s.pinWord port rx.w, s) else s.freeVal

/-- SLAVE_WORD (15 R360, R365, R366): the external master has clocked a whole word. -/
def execSlaveWord (port : Nat) (rx : ClockedWord) (s : State) : Host.Outcome State Fault Refusal :=
  .next (if decide (port < 4) && s.on (F.SPT_CFG_SLAVE port) && s.enabled (P.SPT port) then
      match (s.spt port).queue with
      | e :: rest =>
        let s1 := (s.setSpt port (fun p => { p with queue := rest, last := (e.word, e.len) })).sptLine port [.send 1 (s.wordSent port e.word e.len)]
        let s2 := if !e.rxEn then s1
          else if 16 ≤ (s1.spt port).rx.length then s1.flag (P.SPT port) 3
          else (match slaveRx s1 port rx with | (w, t) => t.rxPush port e.len w)
        (s2.queueEmptied port).sptStat port
      | [] => (s.sptLine port [.send 1 (s.wordSent port (s.spt port).last.1 (s.spt port).last.2)]).flag (P.SPT port) 4
    else s)

/-- SHORT_WORD (15 R365, R366): CS0 rises before the last bit of a word. -/
def execShortWord (port : Nat) (s : State) : Host.Outcome State Fault Refusal :=
  .next (if decide (port < 4) && s.on (F.SPT_CFG_SLAVE port) && s.enabled (P.SPT port) then
      let s1 := match (s.spt port).queue with
        | e :: rest => (s.setSpt port (fun p => { p with queue := rest, last := (e.word, e.len) })).queueEmptied port
        | [] => s.flag (P.SPT port) 4
      (s1.flag (P.SPT port) 5).sptStat port
    else s)

/-- WRITE_BUFFER_FLUSH (15 R371): the buffer goes out; 2 µs without a write is one cause among others. -/
def execWriteBufferFlush (port : Nat) (s : State) : Host.Outcome State Fault Refusal :=
  .next (if decide (port < 4) && !(s.spt port).buf.isEmpty && !s.sptBusy port then
      (((s.leaveCont port (s.get (F.SPT_WIN_CFG_CS port))).sendFlush port).setSpt port (fun p => { p with due := false, polling := true })).sptStat port
    else s)

/-- STATUS_POLL (15 R371): a status byte is read while a flush polls. -/
def execStatusPoll (port : Nat) (status : Byte) (s : State) : Host.Outcome State Fault Refusal :=
  .next (if decide (port < 4) && (s.spt port).polling then
      let s1 := (s.sendPoll port).put (F.SPT_WIN_STAT_LAST_STATUS port) status.toNat
      if boolNat (status.toNat.testBit (s1.get (F.SPT_WIN_POLL_BUSY_BIT port))) = s1.get (F.SPT_WIN_POLL_BUSY_POL port) then s1
      else (s1.setSpt port (fun p => { p with buf := [], polling := false })).sptKick port
    else s)

/-- POLL_TIMEOUT (15 R372): the buffered data is treated as lost. -/
def execPollTimeout (port : Nat) (s : State) : Host.Outcome State Fault Refusal :=
  .next (if decide (port < 4) && (s.spt port).polling then
      let s1 := (s.flag (P.SPT port) 7).countSat (F.SPT_WIN_STAT_TIMEOUTS port)
      (s1.setSpt port (fun p => { p with buf := [], polling := false })).sptKick port
    else s)

/-- LINE_FILL_DONE (15 R373): the 32 bytes of SPT0's line fill have arrived; the least recently used of four buffers takes them. -/
def execLineFillDone (dev : List Byte) (s : State) : Host.Outcome State Fault Refusal :=
  .next (match s.prefetch.fill with
    | none => s
    | some l =>
      let pad := (List.range 32).foldl (fun (p : List Byte × State) k =>
        match dev[k]? with
        | some b => (p.1 ++ [b], p.2)
        | none => (match p.2.freeVal with | (w, t) => (p.1 ++ [BitVec.ofNat 8 w.toNat], t))) ([], s)
      let keep := s.prefetch.lines
      let s1 := pad.2.setPf (fun p =>
        { lines := keep.drop (keep.length - 3) ++ [⟨l, pad.1⟩], fill := none, fetch := false, stale := false
          ahead := if p.fetch then some (l + 32) else p.ahead })
      let s2 := s1.sptKick 0
      if s.prefetch.stale then (s2.setPf (fun p => { p with lines := p.lines.filter (fun x => x != ⟨l, pad.1⟩) })).sptStat 0 else s2)

/-- LOOK_AHEAD_FILL (15 R373): with no other work SPT0 fetches the line after the one that an APC fetch filled. -/
def execLookAheadFill (s : State) : Host.Outcome State Fault Refusal :=
  .next (match s.prefetch.ahead with
    | none => s
    | some l =>
      if s.sptBusy 0 || (s.spt 0).due || !(s.spt 0).buf.isEmpty || s.winDenied 0 false then s
      else
        let s1 := s.setPf (fun p => { p with ahead := none })
        if (s1.pfFind l).isSome then s1 else s1.startFill l false)

end Sys2Proof.Machine
end

