-- ==== Sys2Proof/Machine/Clocks.lean ====
section
/-! DEFINITION. Clocks, operating points and the regulator request port (18 R416 to R424), with the wait states of the flash (14 R340). -/

namespace Sys2Proof.Machine

/-- The frequency of a source in kHz (18 R418). -/
def srcKhz (src : Nat) : Nat := [48000, 38400, 160000, 128000].getD src 48000

/-- The highest clock of an operating point in kHz (18 R422). -/
def opLimit (op : Nat) : Nat := [48000, 128000, 160000].getD op 160000

/-- The least operating point at which a source runs: the PLL at OP1, its 160 MHz tap at OP2 (18 R416, R418). -/
def srcOp (src : Nat) : Nat := if src = 2 then 2 else if src = 3 then 1 else 0

/-- The unit codes of HFXO and of the regulator port (21 R465). -/
def uHfxo : Nat := 0x1500
def uRrp : Nat := 0x1600

namespace State

/-- Change the power manager's part that is no register. -/
def setPwr (s : State) (g : Pwr → Pwr) : State := { s with pwr := g s.pwr }

/-- The system clock in force in kHz. -/
def sysKhz (s : State) : Nat := srcKhz (s.get F.CLK_STAT_SRC_ACTIVE) / 2 ^ s.get F.CLK_STAT_DIV_ACTIVE

/-- The clock of the NTC, and of the SCC and the RCP, in kHz (18 R418). -/
def ntcKhz (s : State) : Nat := if s.get F.CLK_STAT_SRC_ACTIVE = 2 ∧ s.get F.CLK_STAT_DIV_ACTIVE = 0 then 128000 else s.sysKhz
def sccKhz (s : State) : Nat := if 2 ≤ s.get F.CLK_STAT_SRC_ACTIVE then 64000 / 2 ^ s.get F.CLK_STAT_DIV_ACTIVE else s.sysKhz

/-- The radio clock, the clock of the Quill lanes, of the HVE with its lanes, and of the fabric, in kHz (18 R418); 0 where it is stopped. -/
def radioKhz (s : State) : Nat :=
  if 2 ≤ s.get F.CLK_STAT_SRC_ACTIVE ∧ s.on F.CLK_STAT_PLL_LOCK ∧ s.get F.PWR_OP_ACTIVE = 2 then 160000 else srcKhz (s.get F.CLK_STAT_SRC_ACTIVE)
def quillKhz (s : State) : Nat :=
  if s.get F.CLK_STAT_SRC_ACTIVE = 2 ∨ (s.get F.CLK_STAT_SRC_ACTIVE = 3 ∧ s.get F.PWR_OP_ACTIVE = 2) then 256000 else 0
def hveKhz (s : State) : Nat := if s.variant = .znl7240 ∧ s.on F.HVL_CFG_EN ∧ s.on F.CLK_STAT_HFXO_OK then 200000 else 0
def fabricKhz (s : State) : Nat := if s.fabricOn then 32000 else 0

/-- The minimum wait states at an operating point and a system clock (14 R340). -/
def waitMin (op khz : Nat) : Nat := if op = 0 then 1 else if op = 1 then (if khz ≤ 96000 then 3 else 4) else 5

/-- The effective wait states are evaluated again (14 R340). -/
def waitUpdate (s : State) (op khz : Nat) : State :=
  let ws := s.get F.FLC_WAIT_WS
  let m := waitMin op khz
  let s1 := (s.put F.FLC_WAIT_EFFECTIVE (max ws m)).put F.FLC_WAIT_UNDER (boolNat (decide (ws < m)))
  if ws < m then s1.flag P.FLC 2 else s1

/-- The operating point whose clock limit applies: during a change the lower of the two (18 R422; log entry 45). -/
def opInForce (s : State) : Nat :=
  if s.on F.PWR_OP_BUSY then min (s.get F.PWR_OP_ACTIVE) (s.get F.PWR_OP_TARGET) else s.get F.PWR_OP_ACTIVE

/-- HFRC runs for the fabric and the system clock, for the HFXO monitor and for a timer that counts it (18 R416, R418). -/
def hfrcHeld (s : State) : Bool :=
  decide (s.get F.CLK_STAT_SRC_ACTIVE < 2) || s.on F.CLK_CFG_MON_EN || (s.on F.CLK_STAT_SWITCHING && s.get F.CLK_CFG_SYS_SRC == 0) ||
    (List.range 4).any (fun t => s.get (F.TMR_CFG_SRC t) == 2 && s.pageSt (P.TMR t) == 1)

/-- Sources that nothing holds stop, and HFRC runs when it is held (18 R419). Once stable, HFXO is held by the fine part of the time base. -/
def clkSettle (s : State) : State := (s.pllSettle).put F.CLK_STAT_HFRC_OK (boolNat s.hfrcHeld)

/-- HFXO is asked for by its bits, by the radio, by the PLL or by a clock switch (18 R419). -/
def hfxoWanted (s : State) : Bool :=
  s.on F.CLK_CFG_HFXO_EN || s.pwr.hfxoReq || s.radio.hfxoWait || s.pllHeld || (s.on F.CLK_STAT_SWITCHING && s.get F.CLK_CFG_SYS_SRC != 0) ||
    s.get F.CLK_STAT_SRC_ACTIVE != 0 || s.get F.RAD_STATE_STATE != 0

/-- A write to CLK.CFG that is refused (18 R419): the clock it selects exceeds the limit of the operating point or does not run there, or it
takes the PLL's last hold beside the radio's while the radio is outside OFF and IDLE. -/
def clkRefused (s : State) (w : Nat) : Bool :=
  let src := bitsOf w 0 2
  let khz := srcKhz src / 2 ^ bitsOf w 4 2
  let after := w.testBit 12 || decide (2 ≤ src)
  let before := s.on F.CLK_CFG_PLL_EN || decide (2 ≤ s.get F.CLK_CFG_SYS_SRC)
  decide (opLimit s.opInForce < khz) || decide (s.opInForce < srcOp src) || (before && !after && !s.radioQuiet)

/-- What an accepted write to CLK.CFG does (18 R417, R419). -/
def clkEffect (s : State) : State :=
  if !s.enabled P.CLK then s
  else
  let same := s.get F.CLK_CFG_SYS_SRC == s.get F.CLK_STAT_SRC_ACTIVE && s.get F.CLK_CFG_SYS_DIV == s.get F.CLK_STAT_DIV_ACTIVE
  let s1 := (s.put F.CLK_STAT_SWITCHING (boolNat (!same))).setPageSt P.CLK (boolNat (!same))
  let s2 := if s1.on F.CLK_CFG_LFXO_EN then s1
    else ((s1.put F.CLK_STAT_LFXO_OK 0).put F.CLK_STAT_LF_SRC 0).put F.TMB_STAT_SLOW_SRC 0
  s2.clkSettle

/-- The system clock in force changes. -/
def setSysClock (s : State) (src div : Nat) : State :=
  let s1 := (s.put F.CLK_STAT_SRC_ACTIVE src).put F.CLK_STAT_DIV_ACTIVE div
  s1.put F.CLK_SYS_KHZ_KHZ s1.sysKhz

/-- The source of a switch that waits runs. -/
def srcRuns (s : State) (src : Nat) : Bool :=
  if src = 0 then true else if src = 1 then s.on F.CLK_STAT_HFXO_OK else s.on F.CLK_STAT_PLL_LOCK

/-- Every operation of the radio ends HW_FAULT, and it enters OFF (18 R420). -/
def radioFail (s : State) : State :=
  let s1 := ((s.loseAll 6).whiffEnd 6).calStop
  let s2 := (List.range 4).foldl (fun t k => match t.ctxs[k]? with
    | some c => if c.busy && c.committed then t.ackFailed k else if c.busy then t.squashCtx k 6 else t
    | none => t) s1
  let s3 := s2.dropWaiting 6
  let s4 := match s3.radio.op with
    | some o => s3.endPlain o.src 6
    | none => s3
  let s5 := match s4.crs.held with
    | some ⟨.pretune src, _, _⟩ => (s4.endPlain src 6).crsHold none
    | _ => s4.crsHold none
  let s6 : State := { (s5.put F.SYN_CRS_STAT_RESERVED 0) with crs := { s5.crs with reserved := [] } }
  let s7 := s6.setRadio (fun r =>
    { r with op := none, waitAck := false, winShut := false, follow := none, abortOp := none, hfxoWait := false, turnRx := false })
  if s7.judged = 0 ∧ s7.radioState = 0 then s7.put F.RAD_STATE_MOVING 0 else s7.releaseAll.enterOff.offSettle

/-- The lower the operating point of a request, the refusals of R422. -/
def opRefused (s : State) (t : Nat) : Bool :=
  decide (t < s.get F.PWR_OP_ACTIVE) &&
    (decide (opLimit t < s.sysKhz) || decide (t < srcOp (s.get F.CLK_STAT_SRC_ACTIVE)) || (t == 0 && s.on F.CLK_STAT_PLL_LOCK) || !s.radioQuiet)

/-- The regulator port begins a request (18 R424). -/
def rrpStart (s : State) (k : RrpStep) (wake : Bool) : State :=
  ((((s.setPwr (fun p => { p with rrp := k, rrpLeft := s.get F.RRP_CFG_RETRIES, rrpNak := false, rrpDead := false, rrpWake := wake })).put
    F.RRP_STAT_BUSY 1).put F.RRP_STAT_HOLDING 0).setPageSt P.RRP 1)

/-- The regulator port is idle again. -/
def rrpIdle (s : State) : State :=
  ((s.setPwr (fun p => { p with rrp := .none, rrpNak := false, rrpDead := false, rrpWake := false })).put F.RRP_STAT_BUSY 0).setPageSt P.RRP 0

/-- A write of PWR.OP.TARGET (18 R422): 3 is ignored; a lowering may be refused; a write during a change replaces the target. -/
def opWrite (s : State) (t : Nat) : State :=
  if t = 3 ∨ ¬ s.enabled P.PWR then s
  else if s.opRefused t then s.flag P.PWR 2
  else if t = s.get F.PWR_OP_ACTIVE ∧ ¬ s.on F.PWR_OP_BUSY then s.put F.PWR_OP_TARGET t
  else
    let s1 := (s.put F.PWR_OP_TARGET t).put F.PWR_OP_BUSY 1
    if s1.on F.PWR_CFG_EXT_REG then s1.rrpStart .voutDue false else s1

/-- The supply change ends (18 R422). -/
def opEnd (s : State) : State :=
  let t := s.get F.PWR_OP_TARGET
  (((s.put F.PWR_OP_ACTIVE t).put F.PWR_OP_BUSY 0).flag P.PWR 1).waitUpdate t s.sysKhz

/-- An acknowledged request (18 R424): of a wake, OPERATION is followed by the OP0 code. -/
def rrpAck (s : State) : State :=
  let s1 := (s.put F.RRP_STAT_RESULT 0).flag P.RRP 0
  if s.pwr.rrp = .onSent then s1.rrpStart .voutDue true
  else if s.pwr.rrpWake then s1.rrpIdle
  else s1.rrpIdle.opEnd

/-- The request is sent again (18 R424). -/
def rrpAgain (s : State) : State :=
  ((s.setPwr (fun p => { p with rrpNak := false, rrp := if p.rrp = .onSent then .onDue else .voutDue })).flag P.RRP 2).countSat F.RRP_COUNTS_RETRIES

/-- The PEC of an SMBus message (18 R423): polynomial 0x07 over all its bytes, addresses included. -/
def pec (bs : List Byte) : Byte := BitVec.ofNat 8 (crcFwd 8 7 0 bs)

/-- The address byte of a transfer with the regulator, to write or to read. -/
def rrpAddr (s : State) (read : Bool) : Byte := BitVec.ofNat 8 (2 * s.get F.RRP_CFG_ADDR + boolNat read)

/-- The port writes a command with its data and the PEC (18 R423). -/
def smbusWrite (s : State) (addr : Byte) (code : Nat) (data : List Byte) : State :=
  let m := [addr, BitVec.ofNat 8 code] ++ data
  s.setPwr (fun p => { p with smbus := p.smbus ++ [m ++ [pec m]] })

/-- What the port sends to read STATUS_BYTE, and the PEC of the answer `b` (18 R423). -/
def statusAsk (s : State) : List Byte := [s.rrpAddr false, 0x78, s.rrpAddr true]

/-- The code of VOUT_COMMAND for the target point (18 R423, R427). -/
def voutCode (s : State) : Nat :=
  match s.get F.PWR_OP_TARGET with
  | 0 => s.get F.RRP_VOUT01_OP0
  | 1 => s.get F.RRP_VOUT01_OP1
  | _ => s.get F.RRP_VOUT2_OP2

/-- The voltage of an operating point in mV (18 R422), and whether the supply monitor reads it within 3 % (18 R424). -/
def opMv (op : Nat) : Nat := [650, 750, 850].getD op 850
def supplyNear (s : State) (mv : Nat) : Bool :=
  let v := opMv (s.get F.PWR_OP_TARGET)
  decide (97 * v ≤ 100 * mv) && decide (100 * mv ≤ 103 * v)

end State

open State

/-- SWITCHED (18 R419): the source that a write selected runs, and the system clock changes to it. -/
def execSwitched (s : State) : Host.Outcome State Fault Refusal :=
  .next (
    let src := s.get F.CLK_CFG_SYS_SRC
    let div := s.get F.CLK_CFG_SYS_DIV
    if s.on F.CLK_STAT_SWITCHING && s.srcRuns src then
      let s1 := s.waitUpdate (s.get F.PWR_OP_ACTIVE) (srcKhz src / 2 ^ div)
      ((((s1.setSysClock src div).put F.CLK_STAT_SWITCHING 0).setPageSt P.CLK 0).flag P.CLK 3).clkSettle
    else s)

/-- HFXO_STABLE (18 R416, R419; 05 R123): a requested crystal oscillator is stable; a start of the radio that waits for it goes on. -/
def execHfxoStable (s : State) : Host.Outcome State Fault Refusal :=
  .next (if s.systemOn && !s.on F.CLK_STAT_HFXO_OK && s.hfxoWanted then
      (((s.put F.CLK_STAT_HFXO_OK 1).setPwr (fun p => { p with hfxoReq := false })).setRadio (fun r => { r with hfxoWait := false })).hvlUpdate
    else s)

/-- PLL_LOCK (18 R416): the PLL, asked for at OP1 or OP2, locks on the stable HFXO. -/
def execPllLock (s : State) : Host.Outcome State Fault Refusal :=
  .next (if s.on F.CLK_STAT_HFXO_OK && s.pllHeld && decide (1 ≤ s.get F.PWR_OP_ACTIVE) then s.put F.CLK_STAT_PLL_LOCK 1 else s)

/-- HFXO_FAIL (18 R420): no edge of HFXO for 1 µs. Unmonitored, the loss shows only in HFXO_OK. -/
def execHfxoFail (s : State) : Host.Outcome State Fault Refusal :=
  .next (if !s.on F.CLK_STAT_HFXO_OK then s
    else if !s.on F.CLK_CFG_MON_EN then s.put F.CLK_STAT_HFXO_OK 0
    else
      let s1 := ((s.put F.CLK_STAT_HFXO_OK 0).put F.CLK_STAT_PLL_LOCK 0).put F.CLK_STAT_HFRC_OK 1
      let s2 := ((s1.setSysClock 0 (s1.get F.CLK_STAT_DIV_ACTIVE)).put F.CLK_STAT_SWITCHING 0).setPageSt P.CLK 0
      let s3 := s2.waitUpdate (s2.get F.PWR_OP_ACTIVE) s2.sysKhz
      let s4 := if s3.get F.TMB_STAT_FINE_SRC = 2 then s3.put F.TMB_STAT_FINE_SRC 1 else s3
      let s5 := (s4.setPwr (fun p => { p with hfxoReq := false })).radioFail.hvlUpdate
      (s5.flag P.CLK 0).reportFault uHfxo .transient)

/-- HFXO_FAILS_TO_START (05 R123): an IDLE command that waits for the crystal ends HW_FAULT and the radio stays in OFF. -/
def execHfxoFailsToStart (s : State) : Host.Outcome State Fault Refusal :=
  .next (if s.radio.hfxoWait && !s.on F.CLK_STAT_HFXO_OK then
      let s1 := match s.radio.op with
        | some o => s.endPlain o.src 6
        | none => s
      ((s1.setRadio (fun r => { r with op := none, hfxoWait := false })).put F.RAD_STATE_MOVING 0).offSettle
    else s)

/-- LFXO_FAIL (18 R417): LFCLK changes to LFRC with no step in the time base. -/
def execLfxoFail (s : State) : Host.Outcome State Fault Refusal :=
  .next (if s.on F.CLK_STAT_LFXO_OK then
      (((s.put F.CLK_STAT_LFXO_OK 0).put F.CLK_STAT_LF_SRC 0).put F.TMB_STAT_SLOW_SRC 0).flag P.CLK 1
    else s)

/-- LFXO_RETURN (18 R417): LFXO has run for 1,024 periods, and LFCLK changes to it at a slow-tick edge. -/
def execLfxoReturn (s : State) : Host.Outcome State Fault Refusal :=
  .next (if s.on F.CLK_CFG_LFXO_EN && s.pwr.state != .dormant then
      ((s.put F.CLK_STAT_LFXO_OK 1).put F.CLK_STAT_LF_SRC 1).put F.TMB_STAT_SLOW_SRC 1
    else s)

/-- OP_DONE (18 R422): with the internal buck the supply has reached the target. -/
def execOpDone (s : State) : Host.Outcome State Fault Refusal :=
  .next (if s.on F.PWR_OP_BUSY && !s.on F.PWR_CFG_EXT_REG then s.opEnd else s)

/-- VOUT_COMMAND (18 R423): the code of the target point goes to the external regulator. -/
def execVoutCommand (s : State) : Host.Outcome State Fault Refusal :=
  .next (if s.pwr.rrp = .voutDue ∧ (s.enabled P.RRP = true ∨ s.pwr.rrpWake = true) then (s.smbusWrite (s.rrpAddr false) 0x21 (natLe 2 s.voutCode)).setPwr (fun p => { p with rrp := .voutSent }) else s)

/-- OPERATION (18 R423): 0x80 at a wake from Standby or Dormant, 0x00 at their entry. -/
def execOperation (on : Bool) (s : State) : Host.Outcome State Fault Refusal :=
  .next (if on then (if s.pwr.rrp = .onDue ∧ (s.enabled P.RRP = true ∨ s.pwr.rrpWake = true) then (s.smbusWrite (s.rrpAddr false) 0x01 [0x80]).setPwr (fun p => { p with rrp := .onSent }) else s)
    else if s.pwr.rrp = .offDue then (s.smbusWrite s.pwr.offAddr 0x01 [0x00]).setPwr (fun p => { p with rrp := .none }) else s)

/-- STATUS_BYTE (18 R423, R424): the poll of a sent request is answered; the change is acknowledged when the status byte is clear and the supply
monitor reads the target within 3 %. A NACK or a wrong PEC is followed by a resend. -/
def execStatusByte (r : RrpReply) (s : State) : Host.Outcome State Fault Refusal :=
  .next (if (s.pwr.rrp = .voutSent ∨ s.pwr.rrp = .onSent) ∧ ¬ s.pwr.rrpNak then
      let s0 := s.setPwr (fun p => { p with smbus := p.smbus ++ [s.statusAsk] })
      match r with
      | .nak => (s0.put F.RRP_STAT_RESULT 1).setPwr (fun p => { p with rrpNak := true })
      | .status b code mv =>
        if code ≠ pec (s.statusAsk ++ [b]) then (s0.put F.RRP_STAT_RESULT 2).setPwr (fun p => { p with rrpNak := true })
        else
          let s1 := s0.put F.RRP_STAT_STATUS_BYTE b.toNat
          if bitsOf b.toNat 1 7 = 0 then (if s1.supplyNear mv then s1.rrpAck else s1)
          else if bitsOf b.toNat 1 5 = 0 then s1 else s1.put F.RRP_STAT_RESULT 4
    else s)

/-- RRP_RESEND (18 R424): 100 µs after a NACK or a PEC mismatch. -/
def execRrpResend (s : State) : Host.Outcome State Fault Refusal := .next (if s.pwr.rrpNak then s.rrpAgain else s)

/-- RRP_TIMEOUT (18 R424): no acknowledgement within TIMEOUT of the command. -/
def execRrpTimeout (s : State) : Host.Outcome State Fault Refusal :=
  .next (if s.pwr.rrp = .voutSent ∨ s.pwr.rrp = .onSent then
      let s0 := s.put F.RRP_STAT_RESULT 3
      if 0 < s0.pwr.rrpLeft then (s0.setPwr (fun p => { p with rrpLeft := p.rrpLeft - 1 })).rrpAgain
      else
        let s1 := if s0.pwr.rrpDead then s0
          else (((s0.flag P.RRP 1).countSat F.RRP_COUNTS_FAILURES).reportFault uRrp .transient true).setPwr (fun p => { p with rrpDead := true })
        if s1.pwr.rrpWake || s1.on F.RRP_CFG_ON_FAIL then s1.rrpAgain
        else
          let low := min (s1.get F.PWR_OP_ACTIVE) (s1.get F.PWR_OP_TARGET)
          let s2 := ((s1.rrpIdle.put F.RRP_STAT_HOLDING 1).put F.PWR_OP_ACTIVE low).put F.PWR_OP_BUSY 0
          (s2.flag P.PWR 2).waitUpdate low s2.sysKhz
    else s)

end Sys2Proof.Machine
end

