-- ==== Sys2Proof/Machine/PowerStates.lean ====
section
/-! DEFINITION. Power states (18 R403 to R415): requests, the gates of an entry, the entry and its abort, wake sources, the radio domain. -/

namespace Sys2Proof.Machine

/-- The code of a power state in PWR.REQ and PWR.STAT.FROM (18 R425). -/
def stateCode : PowerState → Nat
  | .active => 0 | .sleep => 1 | .standby => 2 | .dormant => 3

/-- The state of a code. -/
def stateOf : Nat → PowerState
  | 1 => .sleep | 2 => .standby | 3 => .dormant | _ => .active

/-- The SRAM banks, by number (21 R474). -/
def allBanks : List Nat := List.range 58

/-- The first address and the size of an SRAM bank (21 R474). -/
def bankBase (n : Nat) : Nat :=
  if n < 24 then 0x20000000 + 0x8000 * n
  else if n < 28 then 0x20100000 + 0x8000 * (n - 24)
  else if n < 30 then 0x20200000 + 0x8000 * (n - 28)
  else if n = 30 then 0x20500000
  else if n = 31 then 0x30100000
  else if n < 48 then 0x20300000 + 0x8000 * (n - 32)
  else if n < 56 then 0x20400000 + 0x8000 * (n - 48)
  else 0x30200000 + 0x8000 * (n - 56)
def bankSize (n : Nat) : Nat := if n = 30 then 0xC000 else if n = 31 then 0x4000 else 0x8000

namespace State

/-- The gates of R409 that the state of the device decides, as bits of PWR.STAT.WAIT: those that do not hold. The cores' own gates are not
among them: what a core executes is no part of the model, and the start of an entry says that each is in WFI (log entry 47). -/
def gatesOpen (s : State) : Nat :=
  let scc := s.sec.kst.isSome || !s.boot.done || s.engLoading
  let flash := !s.flashIdle || s.flt.running || s.flt.waiting
  let radio := decide (1 < s.get F.RAD_STATE_STATE) || s.on F.RAD_STATE_MOVING || s.timeline.any (fun e => e.state == .dispatched)
  let debug := s.on F.DBG_CFG_KEEP_ON && decide (1 ≤ s.dbgScope)
  2 * boolNat scc + 4 * boolNat flash + 8 * boolNat radio + 16 * boolNat debug + 32 * boolNat (s.on F.PWR_OP_BUSY) +
    64 * boolNat (s.pwr.rrp != .none)

/-- PWR.STAT.WAIT as it reads: while a request is pending the gates that do not hold, the released cores counting as running. -/
def waitBits (s : State) : Nat :=
  if s.on F.PWR_STAT_PENDING then s.gatesOpen ||| (if s.cores.released.contains .apc || s.cores.released.contains .ntc then 1 else 0) else 0

/-- A write of PWR.REQ.TARGET (18 R408). -/
def reqWrite (s : State) (t : Nat) : State :=
  if !s.enabled P.PWR then s
  else if t = 0 ∧ s.pwr.entering.isNone then (s.put F.PWR_REQ_TARGET 0).put F.PWR_STAT_PENDING 0
  else (s.put F.PWR_REQ_TARGET t).put F.PWR_STAT_PENDING 1

/-- Whether a wake source is enabled (18 R413). -/
def wakeEnabled (s : State) (c : Nat) : Bool :=
  if 1 ≤ c ∧ c ≤ 8 then s.enabled P.WKP && s.on (F.WKP_PIN_EN (c - 1))
  else if 0x10 ≤ c ∧ c ≤ 0x17 then (s.get F.TMB_ALARM_EN_WAKE).testBit (c - 0x10)
  else if c = 0x18 ∨ c = 0x19 then (s.lptSeen Reg.LPT_CTRL).toNat.testBit (8 + (c - 0x18))
  else if c = 0x1A then s.enabled P.WKP && s.on F.WKP_CFG_HSP_WAKE
  else c == 0x1B && s.on F.PWR_STAT_PENDING && s.get F.PWR_REQ_TARGET == 0

/-- Whether a source acts in a power state. -/
def wakeActs (p : PowerState) (c : Nat) : Bool := !(p == .dormant && decide (0x10 ≤ c) && decide (c ≤ 0x19))

/-- Pin and HSP sources that arrive are latched in WKP.PENDING (18 R413, R414). -/
def wakeLatch (s : State) (cs : List Nat) : State :=
  if !s.enabled P.WKP then s else cs.foldl (fun t c =>
    if 1 ≤ c ∧ c ≤ 8 ∧ t.on (F.WKP_PIN_EN (c - 1)) then t.putBit F.WKP_PENDING_PIN (c - 1) true
    else if c = 0x1A ∧ t.on F.WKP_CFG_HSP_WAKE then t.put F.WKP_PENDING_HSP 1
    else t) s

/-- A wake pin at its active level (18 R412, R414). -/
def levelActive (s : State) (k : Nat) : Bool :=
  s.enabled P.WKP && s.on (F.WKP_PIN_EN k) && !s.on (F.WKP_PIN_EDGE k) && (s.get F.GPIO_IN_IN).testBit k == s.on (F.WKP_PIN_POL k)

/-- The sources that already hold when the gates hold (18 R412). -/
def standingSources (s : State) : List Nat :=
  ((List.range 8).filter (fun k => s.enabled P.WKP && s.on (F.WKP_PIN_EN k) && ((s.get F.WKP_PENDING_PIN).testBit k || s.levelActive k))).map (· + 1) ++
    (if s.enabled P.WKP && s.on F.WKP_CFG_HSP_WAKE && s.on F.WKP_PENDING_HSP then [0x1A] else [])

/-- WAKE_LAST and the WAKE flag (18 R413, R428). -/
def wakeRecord (s : State) (cs : List Nat) : State :=
  (((s.put F.PWR_WAKE_LAST_SOURCE (cs.foldl min 0xFF)).countSat F.PWR_WAKE_LAST_COUNT)).flag P.WKP 0

/-- A bank loses its contents and is cleared when it comes back (13 R326). -/
def bankLost (s : State) (n : Nat) : State :=
  let s1 := s.keepMem (fun a => !(decide (bankBase n ≤ a) && decide (a < bankBase n + bankSize n)))
  s1.setPwr (fun p => { p with clearing := if p.clearing.contains n then p.clearing else p.clearing ++ [n] })

/-- Whether the radio domain is retained in a target state. -/
def radioKept (s : State) (t : PowerState) : Bool := s.pwr.radioUp && t == .sleep && s.on F.PWR_CFG_RADIO_RET

/-- Step A of an entry: the radio goes from IDLE to OFF, and its domain goes off unless it is retained (18 R410). -/
def entryA (s : State) (t : PowerState) : State :=
  let s1 := if s.pwr.radioUp && s.get F.RAD_STATE_STATE == 1 then s.enterOff else s
  if s1.pwr.radioUp && !s.radioKept t then s1.radioOff else s1

/-- Step B: banks outside the mask lose their contents; radio banks are kept only with their domain (18 R405, R410). -/
def entryB (s : State) (t : PowerState) : State :=
  (allBanks.filter (fun n => n != 31 && decide (n < 56) && !(s.bankRetired n) && (!radioBank n || s.pwr.radioUp) &&
    !(t == .sleep && s.retained n))).foldl bankLost s

/-- Step C: the fine part stops at a slow-tick edge, for which the step waits, and the fast clocks stop (18 R410; 08 R197). -/
def entryC (s : State) : State :=
  let s0 := if s.count % 256 = 0 then s else s.wdtTick.slowCount
  let s1 := (s0.put F.TMB_STAT_FINE_VALID 0).put F.TMB_STAT_FINE_SRC 0
  let s2 := (((s1.put F.CLK_STAT_HFXO_OK 0).put F.CLK_STAT_PLL_LOCK 0).put F.CLK_STAT_HFRC_OK 0).put F.CLK_STAT_SWITCHING 0
  (s2.setPageSt P.CLK 0).hvlUpdate

/-- The cores run again on HFRC at OP0 (18 R415). -/
def runOnHfrc (s : State) : State :=
  let s1 := ((s.put F.CLK_STAT_HFRC_OK 1).setSysClock 0 0).put F.PWR_OP_ACTIVE 0
  ((s1.put F.PWR_OP_TARGET 0).put F.PWR_OP_BUSY 0).waitUpdate 0 48000

/-- A pending request for a state: the entry begins (18 R408, R410). Wake sources that arrived before it do not count. -/
def entryStart (s : State) : State :=
  let t := stateOf (s.get F.PWR_REQ_TARGET)
  let s1 := ((s.put F.PWR_STAT_PENDING 0).put F.PWR_REQ_TARGET 0).put F.PWR_STAT_ENTERING 1
  (s1.setPwr (fun p => { p with entering := some t, wakes := [] })).setPageSt P.PWR 1

/-- A wake from the state entered (18 R413, R415; 19 R430, R440). -/
def wakeUp (s : State) (cs : List Nat) : State :=
  let from_ := s.pwr.state
  let s1 := (s.setPwr (fun p => { p with state := .active, entering := none, wakes := [] })).put F.PWR_STAT_FROM (stateCode from_)
  let s2 := ((s1.put F.PWR_STAT_ENTERING 0).setPageSt P.PWR 0).wakeRecord cs
  let s3 := if cs.contains 0x1B then (s2.put F.PWR_STAT_PENDING 0).put F.PWR_REQ_TARGET 0 else s2
  let s4 := s3.runOnHfrc
  let s5 := if s4.on F.CLK_CFG_HFXO_ON_WAKE then s4.setPwr (fun p => { p with hfxoReq := true }) else s4
  if from_ = .sleep then s5
  else
    let s6 := if from_ = .dormant then s5.flag P.TMB 8 else s5
    if s6.on F.PWR_CFG_EXT_REG then s6.rrpStart .onDue true else s6

/-- An entry is aborted (18 R411). How many of its steps were complete is not an operand of the command: a free value says so. Banks and a
radio domain that were off come back cleared. -/
def entryAbort (s : State) (t : PowerState) (cs : List Nat) : State :=
  match s.freeVal with
  | (w, s0) =>
    let n := w.toNat % 4
    let s1 := if 1 ≤ n then s0.entryA t else s0
    let s2 := if 2 ≤ n then s1.entryB t else s1
    let s3 := if 3 ≤ n then (s2.entryC.put F.CLK_STAT_HFRC_OK 1).setSysClock 0 (s2.get F.CLK_STAT_DIV_ACTIVE) else s2
    let s4 := ((s3.setPwr (fun p => { p with entering := none, wakes := [] })).put F.PWR_STAT_ENTERING 0).setPageSt P.PWR 0
    let s5 := ((s4.put F.PWR_STAT_PENDING 0).put F.PWR_REQ_TARGET 0).put F.PWR_STAT_ENTRY_ABORTED 1
    (s5.flag P.PWR 0).wakeRecord cs

/-- No calibration has completed since the radio domain started (05 R139). -/
def calFresh (s : State) : State := if s.radio.calDone then s else (s.put F.RAD_CAL_STAT_DUE 1).flag P.RAD 2

/-- The radio domain powers up (18 R404; 21 R470): of the banks that were not retained, pending retirements take effect, and the banks are
cleared. -/
def radioUpNow (s : State) : State :=
  let s1 := (s.setPwr (fun p => { p with radioUp := true })).put F.PWR_DOM_RADIO_PWR 1
  let s2 := (allBanks.filter radioBank).foldl (fun t n =>
    if !s1.pwr.kept.contains n && (t.reg (Reg.FLT_PEND_SRAM (n / 32))).toNat.testBit (n % 32) then
      (t.putRegBit (Reg.FLT_PEND_SRAM (n / 32)) (n % 32) false).putRegBit (Reg.FLT_RET_SRAM (n / 32)) (n % 32) true
    else t) s1
  let s3 := s2.put F.FLT_STAT_SRAM_PEND
    (boolNat ((s2.reg (Reg.FLT_PEND_SRAM 0)).toNat != 0 || (s2.reg (Reg.FLT_PEND_SRAM 1)).toNat != 0))
  (((allBanks.filter (fun n => radioBank n && unitPresent s3.variant (0x0600 + n) && !s3.bankRetired n && !s3.pwr.kept.contains n)).foldl
    bankLost s3).setPwr (fun p => { p with kept := [] })).showRetired |>.calFresh

/-- What a write to PWR.DOM does beside the register (18 R404). -/
def domEffect (s : State) : State := if s.enabled P.PWR then s.offSettle else s

/-- The sources a wake command names that are enabled and act, with those that have arrived in the device. -/
def wakeNow (s : State) (srcs : List Nat) : List Nat :=
  let ext := srcs.filter (fun c => (decide (1 ≤ c) && decide (c ≤ 8)) || c == 0x1A || c == 0x1B)
  (s.pwr.wakes ++ ext).filter (fun c => s.wakeEnabled c && wakeActs s.pwr.state c)

end State

open State

/-- ENTRY_BEGIN (18 R409, R410, R412): every gate holds, and the PMS starts the entry of the pending request; a source that already holds
aborts it at once. -/
def execEntryBegin (s : State) : Host.Outcome State Fault Refusal :=
  .next (if s.on F.PWR_STAT_PENDING && s.pwr.state == .active && s.pwr.entering.isNone && s.get F.PWR_REQ_TARGET != 0 && s.gatesOpen == 0 then
      let st := s.standingSources
      let t := stateOf (s.get F.PWR_REQ_TARGET)
      let s1 := s.entryStart
      if st.isEmpty then s1 else s1.entryAbort t st
    else s)

/-- ENTRY_INSTANT (18 R408, R410): the device is in the target state. A request that is pending then starts the next transition at once; a
pending Active is a wake with source SOFTWARE; a request for a shallower state waits for the next wake (log entry 48). -/
def execEntryInstant (s : State) : Host.Outcome State Fault Refusal :=
  .next (match s.pwr.entering with
    | none => s
    | some t =>
      let req := s.get F.PWR_REQ_TARGET
      let pend := s.on F.PWR_STAT_PENDING
      let s1 := ((s.entryA t).entryB t).entryC
      let s2 := ((s1.setPwr (fun p => { p with state := t, entering := none })).put F.PWR_STAT_ENTERING 0).setPageSt P.PWR 0
      let s3 := if t = .sleep then s2 else s2.systemOff
      let s4 := if t != .sleep && s3.on F.PWR_CFG_EXT_REG then s3.setPwr (fun p => { p with rrp := .offDue, offAddr := s2.rrpAddr false }) else s3
      if !pend then s4
      else
        let s5 := (s4.put F.PWR_STAT_PENDING 1).put F.PWR_REQ_TARGET req
        if req = 0 then s5.wakeUp [0x1B]
        else if stateCode t < req then s5.entryStart
        else if stateCode t = req then (s5.put F.PWR_STAT_PENDING 0).put F.PWR_REQ_TARGET 0
        else s5)

/-- ENTRY_ABORTED (18 R411): a wake source arrives between the gates holding and the entry instant. From Sleep, on the way to a deeper state, it
is a wake as well. -/
def execEntryAborted (srcs : List Nat) (s : State) : Host.Outcome State Fault Refusal :=
  .next (match s.pwr.entering with
    | none => s
    | some t =>
      let cs := s.wakeNow srcs
      let s1 := s.wakeLatch srcs
      if cs.isEmpty then s1
      else
        let s2 := s1.entryAbort t cs
        if s2.pwr.state = .active then s2 else (s2.setPwr (fun p => { p with state := .active })).runOnHfrc)

/-- WAKE (18 R413): wake sources arrive in one cycle; those of the device itself have already arrived. In Active they are latched only. -/
def execWake (srcs : List Nat) (s : State) : Host.Outcome State Fault Refusal :=
  .next (
    let cs := s.wakeNow srcs
    let s1 := s.wakeLatch srcs
    if s.pwr.state = .active ∨ s.pwr.entering.isSome ∨ cs.isEmpty then s1 else s1.wakeUp cs)

/-- BOR_RELEASE (19 R430): VBAT rises above the release threshold, and a wake from Standby or Dormant that was held goes on. -/
def execBorRelease (s : State) : Host.Outcome State Fault Refusal :=
  .next (
    let cs := s.wakeNow []
    if (s.pwr.state = .standby ∨ s.pwr.state = .dormant) ∧ s.pwr.entering.isNone ∧ ¬ cs.isEmpty then s.wakeUp cs else s)

/-- WAKE_PIN (18 R414): a wake pin changes to a level; an enabled pin latches its edge or its active level, and is a wake source. -/
def execWakePin (pin : Nat) (level : Bool) (s : State) : Host.Outcome State Fault Refusal :=
  .next (if 8 ≤ pin then s
    else
      let was := (s.get F.GPIO_IN_IN).testBit pin
      let s1 := s.putBit F.GPIO_IN_IN pin level
      let hit := s1.enabled P.WKP && s1.on (F.WKP_PIN_EN pin) && level == s1.on (F.WKP_PIN_POL pin) && (!s1.on (F.WKP_PIN_EDGE pin) || was != level)
      if hit then (s1.putBit F.WKP_PENDING_PIN pin true).wake (pin + 1) else s1)

/-- RADIO_DOMAIN_UP (18 R404): the radio domain that software asked for has power. -/
def execRadioDomainUp (s : State) : Host.Outcome State Fault Refusal :=
  .next (if s.enabled P.PWR && s.on F.PWR_DOM_RADIO_ON && !s.pwr.radioUp && s.pwr.state == .active then s.radioUpNow else s)

end Sys2Proof.Machine
end

