-- ==== Sys2Proof/Machine/Faults.lean ====
section
/-! DEFINITION. Faults and retirement (chapter 21): what a fault and a retirement do to work in progress, the retries of transient faults, the
retirement record, and what the FLT page's registers do. -/

namespace Sys2Proof.Machine

/-- Results of FLT.CMD (21 R481). -/
inductive FltRes where
  | ok | badUnit | notRetirable | noTestPass | busy | recordFail
  deriving DecidableEq, Repr

/-- The code of a result of FLT.CMD. -/
def FltRes.code : FltRes → Nat
  | .ok => 0 | .badUnit => 1 | .notRetirable => 2 | .noTestPass => 3 | .busy => 4 | .recordFail => 5

/-- Whether a fault of a class can arise in a unit (21 R464). -/
def faultLegal (u : Nat) (c : FaultClass) : Bool :=
  match c with
  | .transient => u / 256 != 0x20
  | .memory => u / 256 == 5 || u / 256 == 6
  | .config => u / 256 == 0x20
  | .permanent => [1, 2, 3, 4, 5, 6, 0x12, 0x14].contains (u / 256)

namespace State

/-- The transmission in progress uses a lane. -/
def txOnLane (s : State) (n : Nat) : Bool := match s.radio.tx with | some t => t.lane == some n | none => false

/-- The transmission in progress uses a path and has begun its sequence. -/
def txOnPath (s : State) (p : Nat) : Bool := match s.radio.tx with | some t => s.txSending && t.path == p | none => false

/-- The radio stops what it does with HW_FAULT: the RCP is held, or the transmission's data are lost (21 R464). -/
def radioHwFault (s : State) : State :=
  let s1 := (s.loseAll 6).txFail 6
  match s1.radio.op, s1.txSending with
  | some o, false =>
    if s1.judged = 0 ∨ s1.judged = 1 then s1
    else (((s1.whiffEnd 6).endPlain o.src 6).setRadio (fun r => { r with op := none, waitAck := false, winShut := false })).goTo 1
  | _, _ => s1

/-- An engine is held in reset while its code RAM is reloaded; the radio operations that depend on it end HW_FAULT (21 R464). -/
def engineHold (s : State) (e : Nat) : State :=
  let s1 := s.setEngine e (fun x => { x with reload := true })
  if e = 0 then
    (let s2 := match s1.radio.tslot with
      | some o => (s1.endPlain o.src 6).setRadio (fun r => { r with tslot := none, tBlock := none })
      | none => s1
     match s2.radio.op with
     | some o => (match o.src with | .entry _ => s2.radioHwFault | _ => s2)
     | none => s2)
  else if e = 1 then (s1.loseAll 6).windowCheck
  else if e < 6 then
    (let s2 := s1.loseAndEnd (.lane (e - 2)) 6
     if s2.txOnLane (e - 2) then s2.txFail 6 else s2)
  else if e = 6 then s1.radioHwFault
  else s1.hvlUpdate

/-- The reload of an engine's active half has ended: it runs again (21 R464). -/
def engineFree (s : State) (e : Nat) : State :=
  let s1 := s.setEngine e (fun x => { x with reload := false })
  if e = 7 then s1.hvlUpdate else s1

/-- What the retirement of a unit does to work in progress (21 R468; 11 R298). -/
def unitEffect (s : State) (u : Nat) : State :=
  let i := u % 256
  match u / 256 with
  | 1 => s.loseAndEnd (.slice i) 6
  | 2 => (let s1 := s.loseAndEnd (.lane i) 6
          if s1.txOnLane i then s1.txFail 6 else s1)
  | 3 => if s.txOnPath i then s.txFail 6 else s
  | 4 => s.laneEffect (if i / 2 = 0 then .up else .dn)
  | _ => s

/-- The effects of every unit that is retired in `s` and was not in `s0`. -/
def unitEffects (s0 s : State) : State :=
  liveUnits.foldl (fun t u => if !s0.isRetired u && s.isRetired u then t.unitEffect u else t) s

/-- A word of memory fails with a double-bit error: the modulator that sends it ramps down (21 R470). -/
def wordFails (s : State) (a : Nat) : State :=
  let s1 : State := { s with flt := { s.flt with badWords := s.flt.badWords.filter (· != a / 4 * 4) ++ [a / 4 * 4] } }
  match s1.radio.tx with
  | some t =>
    if s1.txSending && t.src == .op && t.chain.any (fun b => decide (blockAddr b ≤ a) && decide (a < blockAddr b + 128)) then s1.txFail 6
    else s1
  | none => s1

/-- NIB_A meets a double-bit error in the memory of a timeline entry that waits (21 R470): the entry ends HW_FAULT and becomes EMPTY. -/
def entryFails (s : State) (i : Nat) : State :=
  let e := s.ent i
  if e.state = .armed ∨ e.state = .wait then
    (s.setEnt i (fun _ => { entry0 with last := 6 })).recordDone i e.words 6 false false false false
  else s

/-- The initiator that an instance of the bus names (21 R465). -/
def busInitiator (i : Nat) : Initiator := if i = 0 then .apc else if i = 1 then .ntc else if i = 2 then .scc else if i = 3 then .host else .debug

/-- A fault is detected (21 R464): its unit is charged, and the source acts as its row says. -/
def faultEffect (s : State) (f : FaultSource) : State :=
  let u := f.unit
  let i := u % 256
  match u / 256, f.cls with
  | 1, .transient => (s.reportFault u .transient).loseAndEnd (.slice i) 6
  | 2, .transient =>
    if regionOf f.addr == .code (2 + i) then (s.reportFault u .transient).engineHold (2 + i)
    else (s.reportFault u .transient).loseAndEnd (.lane i) 6
  | 0x14, .transient => (s.reportFault u .transient).engineHold (if i < 2 then i else i + 4)
  | 5, .transient => s.flashCorrected f.addr
  | 5, .memory => (s.wordFails f.addr).reportFault u .memory
  | 6, .memory => (s.wordFails f.addr).reportFault u .memory
  | 0x18, .transient => (s.reportFault u .transient).answer (busInitiator i) 0 .denied
  | _, c => s.reportFault u c

/-- Whether the address that a memory fault names lies in the unit it charges. -/
def faultPlace (f : FaultSource) : Bool :=
  match f.unit / 256, f.cls with
  | 5, .transient | 5, .memory => decide (f.addr < 0x400000) && sectorOf f.addr == f.unit % 256
  | 6, .memory => bankOf f.addr == some (f.unit % 256)
  | _, _ => true

/-- The retirement record as its 64 bytes (21 R471). -/
def recordBytes (s : State) (seq : Nat) : List Byte :=
  let body := natLe 4 0x5A4E5252 ++ natLe 4 seq ++ natLe 4 (s.reg Reg.FLT_RET_UNITS).toNat ++ natLe 4 0 ++
    ((List.range 4).map (fun k => natLe 4 (s.reg (Reg.FLT_RET_FLASH k)).toNat)).flatten ++
    ((List.range 2).map (fun k => natLe 4 (s.reg (Reg.FLT_RET_SRAM k) ||| s.reg (Reg.FLT_PEND_SRAM k)).toNat)).flatten ++ natLe 20 0
  body ++ natLe 4 (crc32 body)

/-- One copy of the record is rewritten (21 R472): bank 0 parameter sector `n`. A copy that fails its readback twice holds undefined
contents, sets RECORD_FAIL and is a memory fault of its sector. -/
def writeCopy (s : State) (seq n : Nat) (fails : Bool) : State :=
  let s1 := s.eraseSector n
  if fails then
    ((s1.setFlash (fun f => { f with undef := f.undef ++ [n] })).flag P.FLT 7).reportFault (uSector n) .memory
  else s1.programBytes (sectorBase n) (s.recordBytes seq)

/-- A rewrite of the record ends (21 R472); the collected one starts. -/
def rewriteEnd (s : State) (fails : List Nat) : State :=
  let seq := (s.flt.seq + 1) % 2 ^ 32
  let s1 := [5, 6, 7].foldl (fun t n => t.writeCopy seq n (fails.contains (n - 5))) s
  let go := s1.flt.waiting
  let s2 : State := { s1 with flt := { s1.flt with seq := seq, running := go, waiting := false, cmdWaits := s1.flt.cmdWaits - 1 } }
  let s3 := ((s2.put F.FLT_STAT_SEQ seq).put F.FLT_STAT_RECORD_BUSY (boolNat go)).setPageSt P.FLT (boolNat go)
  if s.flt.cmdWaits = 1 then
    s3.setReg Reg.FLT_RES (BitVec.ofNat 32 (if ([0, 1, 2] : List Nat).any fails.contains then FltRes.recordFail.code else 0))
  else s3

/-- Return a unit to service (21 R475): an SRAM bank that was retired is usable at once. -/
def unretire (s : State) (u : Nat) : State := ((s.markRetired u false).setFaultTimes u []).askRewrite

/-- A result of FLT.CMD at once. -/
def fltResult (s : State) (r : FltRes) : State := s.setReg Reg.FLT_RES (BitVec.ofNat 32 r.code)

/-- A write to FLT.CMD (21 R475). -/
def fltCmd (s : State) (w : Nat) : State :=
  let op := bitsOf w 28 4
  let u := bitsOf w 0 16
  if op = 0 ∨ 4 < op ∨ !s.enabled P.FLT then s
  else if s.on F.FLT_RES_BUSY then s.put F.FLT_RES_RESULT FltRes.busy.code
  else if op = 4 then
    (let n := if s.flt.running then 2 else 1
     let s1 := s.askRewrite
     ({ s1 with flt := { s1.flt with cmdWaits := n } }).setReg Reg.FLT_RES 0x80000000)
  else if !unitPresent s.variant u then s.fltResult .badUnit
  else if op = 3 then (s.setFaultTimes u []).fltResult .ok
  else if op = 1 then
    (if !retirable u then s.fltResult .notRetirable
     else if s.isRetired u then s.fltResult .ok
     else (unitEffects s (s.retireUnit u)).fltResult .ok)
  else if !s.passed.contains u then s.fltResult .noTestPass
  else (s.unretire u).fltResult .ok

end State

/-- A read of the FLT page (21 R481): FLT.LOG removes the oldest record and latches its time. -/
def fltRead (s : State) (i : Initiator) (off : Nat) (raw : Word) : Word × State :=
  if off = 0x10C then
    (match s.enabled P.FLT, s.flt.log with
     | true, r :: rs => (BitVec.ofNat 32 r.word, ({ s with flt := { s.flt with log := rs } }).setRegI i Reg.FLT_LOG_T (BitVec.ofNat 32 r.time))
     | _, _ => (0, s))
  else (raw, s)

/-- What a write to the FLT page starts. -/
def fltWrite (s : State) (off : Nat) (w : Word) : State := if off = 0x114 then s.fltCmd w.toNat else s

open State

/-- RETRY (21 R467): the back-off of a transient fault has expired and the unit's retry has been made; `ok` says how it ended. A retry that
fails is a further fault of the unit. -/
def execRetry (unit : Nat) (ok : Bool) (s : State) : Host.Outcome State Fault Refusal :=
  .next (
    let again (p : HvlPort) : State :=
      match (s.hop p).up && !(s.hop p).training, (s.hop p).kept.find? (·.waiting) with
      | true, some k => s.resend p k
      | _, _ => s
    let reload (u e : Nat) : State :=
      if !s.engHeld e then s else if ok then s.engineFree e else (s.relockFailed u).1
    match unit / 256 with
    | 0x10 => if unit == uRx && decide (2 ≤ s.retryOf uRx) then unitEffects s (s.scsRelockEnd ok) else s
    | 0x11 => if unit == uCrs && decide (2 ≤ s.retryOf uCrs) then unitEffects s (s.crsRelockEnd ok) else s
    | 0x04 => again (if unit % 256 / 2 = 0 then .up else .dn)
    | 0x17 => again (if unit % 256 / 2 = 0 then .up else .dn)
    | 0x02 => unitEffects s (reload unit (2 + unit % 256))
    | 0x14 => reload unit (if unit % 256 < 2 then unit % 256 else unit % 256 + 4)
    | _ => s)

/-- RECORD_REWRITE_DONE (21 R472): the rewrite of the three copies ends; `fails` names, by 0 to 2, the copies whose readback failed twice. -/
def execRecordRewriteDone (fails : List Nat) (s : State) : Host.Outcome State Fault Refusal :=
  .next (if s.flt.running then s.rewriteEnd fails else s)

/-- ENGINE_RELOAD (21 R464): the SCC has reloaded the active half of an engine's code RAM. -/
def execEngineReload (e : Engine) (s : State) : Host.Outcome State Fault Refusal :=
  .next (if s.engHeld (engIx e) then s.engineFree (engIx e) else s)

end Sys2Proof.Machine
end

