-- ==== Sys2Proof/Machine/Selftest.lean ====
section
/-! DEFINITION. The built-in self-test (22 R482 to R491): which units can be tested, when a unit can be taken for its test, the test's end, and
the pass flags that an un-retirement needs. -/

namespace Sys2Proof.Machine

/-- Results of BST.RES (22 R491). -/
inductive BstEnd where
  | pass | fail | inUse | badUnit | notRetired | aborted | busy
  deriving DecidableEq, Repr

/-- The code of a result of BST.RES. -/
def BstEnd.code : BstEnd → Nat
  | .pass => 0 | .fail => 1 | .inUse => 2 | .badUnit => 3 | .notRetired => 4 | .aborted => 5 | .busy => 6

/-- A unit that the self-test covers in a variant (22 R482). -/
def testable (v : Variant) (u : Nat) : Bool :=
  unitPresent v u && ([1, 2, 3, 4, 5, 6, 0x12].contains (u / 256) || (u / 256 == 0x14 && u % 256 != 2))

/-- The port of a Hivel lane's code. -/
def lanePort (u : Nat) : HvlPort := if u % 4 / 2 = 0 then .up else .dn

namespace State

/-- The radio stands in IDLE or OFF. -/
def radioRests (s : State) : Bool := decide (s.get F.RAD_STATE_STATE ≤ 1) && !s.on F.RAD_STATE_MOVING

/-- A slice or lane whose descriptor has another usable unit to go to (22 R483). -/
def canMove (s : State) (x : RxUnit) : Bool :=
  match (s.slot x).desc with
  | none => true
  | some d =>
    !(s.descRegs d).prefForce &&
      (s.unitsOf (s.descRegs d).onLane).any (fun v => v != x && s.unitUsable v && (s.slot v).desc.isNone && (s.slot v).next.isNone)

/-- Why a test of a unit is refused at once: the last column of R483. -/
def isoRefused (s : State) (u : Nat) : Option BstEnd :=
  let i := u % 256
  match u / 256 with
  | 0x01 => if s.canMove (.slice i) then none else some .inUse
  | 0x02 => if s.canMove (.lane i) then none else some .inUse
  | 0x04 => if (s.hop (lanePort u)).up && !(s.hop (lanePort u)).training then none else some .inUse
  | 0x05 => if s.isRetired u then none else some .notRetired
  | 0x06 => if s.isRetired u then none else some .notRetired
  | 0x14 =>
    if i = 3 then (if s.pageSt P.HVL = hvDown then none else some .inUse)
    else if s.get F.RAD_STATE_STATE = 0 ∧ ¬ s.on F.RAD_STATE_MOVING then none else some .inUse
  | _ => none

/-- A slice or lane that receives no frame between sync and its end and does not transmit. -/
def slotQuiet (s : State) (x : RxUnit) : Bool :=
  (match (s.slot x).frame with | some f => !f.synced | none => true) &&
    (match x with | .lane n => !(s.txSending && s.txOnLane n) | .slice _ => true)

/-- Whether a unit can be taken for its test now (22 R483). The idle gap of a transmit path must fit the test of 0.3 ms and 10 µs
(05 R139). -/
def isoReady (s : State) (u : Nat) : Bool :=
  let i := u % 256
  match u / 256 with
  | 0x01 => s.slotQuiet (.slice i)
  | 0x02 => s.slotQuiet (.lane i)
  | 0x03 => s.get F.RAD_STATE_STATE == 1 && !s.on F.RAD_STATE_MOVING && s.radio.queue.isNone && !s.entryDueWithin 310
  | 0x12 => s.radioRests
  | _ => true

/-- A unit is taken for its test (22 R483, R484): UNDER_TEST, and the descriptor it served moves to the lowest free usable unit. -/
def isoTake (s : State) (u : Nat) : State :=
  let s1 := (({ s with bst := some ⟨u, true⟩ }).testMark u true).setPageSt P.BST 2
  let s2 := s1.setReg Reg.BST_RES (BitVec.ofNat 32 (0x80000000 + u % 65536))
  let move (x : RxUnit) : State := (s2.setSlot x { s2.slot x with frame := none }).moveRetired x
  match u / 256 with
  | 0x01 => move (.slice (u % 256))
  | 0x02 => move (.lane (u % 256))
  | _ => s2

/-- BST.CMD with OP = TEST (22 R482, R483). A unit that serves no descriptor and meets its condition is taken at once; a slice or lane that
serves one is taken at a channelizer update. -/
def bstTest (s : State) (u : Nat) : State :=
  if s.bst.isSome then s.put F.BST_RES_RESULT BstEnd.busy.code
  else if !testable s.variant u then s.bstFinish u BstEnd.badUnit.code
  else match s.isoRefused u with
    | some r => s.bstFinish u r.code
    | none =>
      let serves := match u / 256 with
        | 0x01 => (s.slot (.slice (u % 256))).desc.isSome
        | 0x02 => (s.slot (.lane (u % 256))).desc.isSome
        | _ => false
      if s.isoReady u && !serves then s.isoTake u
      else (({ s with bst := some ⟨u, false⟩ }).setReg Reg.BST_RES (BitVec.ofNat 32 (0xC0000000 + u % 65536))).setPageSt P.BST 1

/-- A unit returns from its test to its reset state (22 R485). -/
def unitFresh (s : State) (u : Nat) : State :=
  let i := u % 256
  match u / 256 with
  | 0x01 => s.setSlot (.slice i) rxSlot0
  | 0x02 => s.setSlot (.lane i) rxSlot0
  | 0x04 => if (s.hop (lanePort u)).up then s.retrain (lanePort u) else s
  | 0x14 =>
    if i = 1 then (List.range 4).foldl (fun t k => if (t.ctxs.getD k ctx0).busy then t.ctxFree k else t) s
    else if i = 3 then s.hvlUpdate
    else s
  | _ => s

/-- ABORT (22 R483): the test ends ABORTED without a verdict, and the unit returns to service. -/
def bstAbort (s : State) : State :=
  match s.bst with
  | none => s
  | some r => if r.running then (s.bstFinish r.unit BstEnd.aborted.code).unitFresh r.unit else s.bstFinish r.unit BstEnd.aborted.code

/-- A write to BST.CMD (22 R491). -/
def bstCmd (s : State) (w : Nat) : State :=
  if !s.enabled P.BST then s
  else if bitsOf w 28 4 = 1 then s.bstTest (bitsOf w 0 16)
  else if bitsOf w 28 4 = 2 then s.bstAbort
  else s

/-- What a memory test leaves (22 R488, R489): an erased sector; a retired bank cleared, a pending bank with its data. -/
def memoryTested (s : State) (u : Nat) : State :=
  if u / 256 = 5 then s.eraseSector (u % 256)
  else if s.bankRetired (u % 256) then s.clearRange (bankBase (u % 256)) (bankSize (u % 256))
  else s

/-- A test passes or fails (22 R485, R486, R490). -/
def bstVerdict (s : State) (u : Nat) (ok : Bool) : State :=
  let s1 := (s.bstFinish u (if ok then 0 else 1)).unitFresh u
  if ok then (if retirable u then { s1 with passed := s1.passed.filter (· != u) ++ [u] } else s1)
  else s1.reportFault u .permanent

end State

open State

/-- TEST_ISOLATION (22 R483): a pending test finds its condition met, or no unit any more to which its descriptor could move. -/
def execTestIsolation (s : State) : Host.Outcome State Fault Refusal :=
  .next (match s.bst with
    | none => s
    | some r =>
      if r.running then s
      else match s.isoRefused r.unit with
        | some e => s.bstFinish r.unit e.code
        | none => if s.isoReady r.unit then s.isoTake r.unit else s)

/-- TEST_DONE (22 R485 to R490): the running test ends with what it found; a result of another kind of test leaves the device unchanged. -/
def execTestDone (r : TestResult) (s : State) : Host.Outcome State Fault Refusal :=
  .next (match s.bst with
    | none => s
    | some b =>
      let t := b.unit / 256
      if !b.running then s
      else match r with
        | .logic sig eq =>
          if t = 1 ∨ t = 2 ∨ t = 0x12 ∨ t = 0x14 then unitEffects s ((s.setReg Reg.BST_SIG sig).bstVerdict b.unit eq) else s
        | .analogue ok => if t = 3 ∨ t = 4 then unitEffects s (s.bstVerdict b.unit ok) else s
        | .memory fail =>
          if t = 5 ∨ t = 6 then
            (match fail with
             | none => (s.memoryTested b.unit).bstVerdict b.unit true
             | some a => ((s.memoryTested b.unit).setReg Reg.BST_FAIL_ADDR a).bstVerdict b.unit false)
          else s)

end Sys2Proof.Machine
end

