-- ==== Sys2Proof/Machine/Recording.lean ====
section
/-! DEFINITION. The recorder (22 R492 to R505): arming, marks, freezing with its header, replay, and what the REC page's registers do. -/

namespace Sys2Proof.Machine

/-- The registers whose writes a CFG record notes (22 R496). -/
def recCfgReg (a : Nat) : Bool :=
  a == Reg.NBD_CAPTURE || a == Reg.OFD_CFG || (decide (Reg.FRM_CFG ≤ a) && decide (a ≤ Reg.FRM_PAN_CFG)) || a == Reg.LNK_CFG ||
    a == Reg.LNK_ACK_CFG || (decide (Reg.LNK_ACK_IFS 1 ≤ a) && decide (a ≤ Reg.LNK_ACK_IFS 9)) || a == Reg.RFE_AGC_CTRL || a == Reg.RFE_AGC_TIME

/-- Those registers, in the order of R496. -/
def recCfgRegs : List Nat :=
  [Reg.NBD_CAPTURE, Reg.OFD_CFG] ++ (List.range 9).map (fun k => Reg.FRM_CFG + 4 * k) ++ [Reg.LNK_CFG, Reg.LNK_ACK_CFG] ++
    (List.range 9).map (fun k => Reg.LNK_ACK_IFS (k + 1)) ++ [Reg.RFE_AGC_CTRL, Reg.RFE_AGC_TIME]

namespace State

/-- A CFG record for the register at `a` (22 R496): page index, offset and value. -/
def recCfg (s : State) (a : Nat) : State :=
  if recCfgReg a then
    s.record 0x0D 0 ((a - 0x40000000) / 0x1000 + a % 0x1000 * 2 ^ 16 + (s.reg a).toNat * 2 ^ 32)
  else s

/-- The DESC record set of a descriptor in use at ARM (22 R494). -/
def recDescSet (s : State) (d : Nat) : State :=
  match s.unitOf d with
  | none => s
  | some u =>
    let c := (s.slot u).copy
    (((s.record 1 d (c.freq + c.mode * 2 ^ 32)).record 2 d (c.sync + c.syncCfg * 2 ^ 32)).record 3 d (c.rate + c.dev * 2 ^ 32)).record 4 d
      (c.cca + c.aux * 2 ^ 32)

/-- ARM (22 R494): recording starts, frozen contents are discarded, the initial records are written. -/
def recArm (s : State) : State :=
  if !s.enabled P.REC || s.pageSt P.REC == 1 || s.pageSt P.REC == 4 then s
  else
    let s1 := ({ s with recorder := { s.recorder with wr := 0, wrapped := false, nrec := 0, trigAt := 0, scrub := false, frames := [] } }).setPageSt P.REC 1
    let s2 := (List.range 64).foldl recDescSet s1
    (recCfgRegs.foldl recCfg s2).scsRecord

/-- A MARK record (22 R496). -/
def recMark (s : State) (w : Nat) : State := if s.enabled P.REC then s.record 0x10 0 w else s

/-- The bytes of the sample ring (22 R492). -/
def sampleSize (s : State) : Nat := 1024 * (recKib s.variant - s.get F.REC_CFG_CTRL_KIB)

/-- Bits set in a list of numbers, as bytes. -/
def bitBytes (n : Nat) (bs : List Nat) : List Byte := natLe n ((List.range (8 * n)).foldl (fun a k => if bs.contains k then a + 2 ^ k else a) 0)

/-- The unit that serves the recorded descriptor, with the rate code of its stream. -/
def recStream (s : State) : Nat :=
  match s.unitOf (s.get F.REC_CFG_DESC) with
  | some u => (s.slot u).copy.streamRate
  | none => (s.descRegs (s.get F.REC_CFG_DESC)).streamRate

/-- The header of a frozen recording (22 R500). The instant of the oldest sample is a free value (log entry 50). -/
def recHeader (s : State) (written : Nat) (bad : List Nat) : List Byte × State :=
  let wb := s.get F.REC_CFG_WB_SHIFT
  let (t0, s1) := s.freeVal
  let (t1, s2) := s1.freeVal
  let size := s.sampleSize
  (natLe 4 0x5A4E5245 ++ natLe 2 1 ++ natLe 1 (s.get F.REC_CFG_MODE) ++
    natLe 1 (boolNat (decide (size < written)) + 2 * boolNat s.recorder.wrapped + 4 * boolNat !bad.isEmpty) ++
    natLe 4 (chipId s.variant) ++ natLe 4 (s.get F.SYN_SCS_ACTIVE_RATE_KHZ + s.get F.RFE_CFG_ZONE_ACTIVE * 2 ^ 24) ++
    natLe 4 t0.toNat ++ natLe 2 t1.toNat ++ natLe 1 (s.get F.REC_CFG_DESC) ++
    natLe 1 (s.recStream + s.inputInUse * 4 + (if wb = 3 then 0 else wb) * 16) ++ natLe 6 s.recorder.trigAt ++
    natLe 1 (s.get F.REC_STAT_CAUSE) ++ natLe 1 (s.get F.REC_CFG_CTRL_KIB) ++
    natLe 4 (if size < written then written % size else 0) ++ natLe 2 s.recorder.nrec ++
    natLe 2 (if s.recorder.wrapped then s.recorder.wr else 0) ++ natLe 4 (s.eng.getD 1 eng0).img ++ natLe 4 (s.eng.getD 2 eng0).img ++
    bitBytes 16 bad, s2)

/-- Samples laid into the sample ring in the order in which they were written: of more than it holds the last remain (22 R492, R493). -/
def laySamples (s : State) (samples : List Byte) : State :=
  let size := s.sampleSize
  let base := 0x20400000 + 1024 * s.get F.REC_CFG_CTRL_KIB
  if samples.length ≤ size then s.setBytes base samples
  else
    let last := samples.drop (samples.length - size)
    let h := samples.length % size
    (s.setBytes (base + h) (last.take (size - h))).setBytes base (last.drop (size - h))

/-- Freezing ends (22 R499): the samples stand, the scrub's parity errors are transient faults of their banks, the header is written. -/
def recFreeze (s : State) (samples : List Byte) (bad0 : List Nat) : State :=
  let bad := (List.range (recKib s.variant / 2)).filter bad0.contains
  let s1 := s.laySamples samples
  match s1.recHeader samples.length bad with
  | (h, s2) =>
    let s3 := ((s2.setBytes 0x20400000 h).put F.REC_STAT_PERR bad.length).setPageSt P.REC 3
    let s4 := (List.range 8).foldl (fun t k => if bad.any (fun b => b / 16 == k) then t.reportFault (0x0630 + k) .transient else t) s3
    (s4.flag P.REC 0).event P.REC 0

/-- The mode code of the recorded descriptor, from its oldest DESC record that remains, otherwise from the live descriptor. -/
def recLane (s : State) : Bool :=
  let d := s.get F.REC_CFG_DESC
  let at_ (k : Nat) : Nat := 0x20400040 + 16 * k
  match (List.range s.recorder.nrec).find? (fun k => s.byte (at_ k + 4) == 1 && (s.byte (at_ k + 5)).toNat == d) with
  | some k => ({ copy0 with mode := s.memNat (at_ k + 12) 4 } : DescCopy).onLane
  | none => (s.descRegs d).onLane

/-- The images that the header names are not the active ones (22 R500, R501). -/
def imgDiffers (s : State) : Bool := s.memNat 0x20400028 4 != (s.eng.getD 1 eng0).img || s.memNat 0x2040002C 4 != (s.eng.getD 2 eng0).img

/-- Why a replay is refused (22 R501); 0 if it is not. -/
def replayRefused (s : State) : Nat :=
  if s.pageSt P.REC ≠ 3 ∨ s.memNat 0x20400006 1 ≠ 0 then 1
  else if s.get F.RAD_STATE_STATE ≠ 1 ∨ s.on F.RAD_STATE_MOVING ∨ s.radio.queue.isSome ∨ s.armedCount ≠ 0 then 2
  else if !s.on F.REC_CFG_REPLAY_FORCE && s.imgDiffers then 3
  else if !(s.unitsOf s.recLane).any (fun u => s.unitUsable u && (s.slot u).desc.isNone && (s.slot u).next.isNone) then 4
  else 0

/-- REPLAY (22 R501). -/
def recReplay (s : State) : State :=
  if !s.enabled P.REC then s
  else
    let r := s.replayRefused
    if r = 0 then s.setPageSt P.REC 4 else s.put F.REC_STAT_REPLAY_RES r

/-- A write to REC.CTRL (22 R505), its bits in ascending order. -/
def recCtrl (s : State) (w : Nat) : State :=
  let s1 := if w.testBit 0 then s.recArm else s
  let s2 := if w.testBit 1 && s1.enabled P.REC then s1.recTrigger 1 else s1
  if w.testBit 2 then s2.recReplay else s2

/-- A replayed frame enters the replay queue (22 R502); one for which the free list has too few blocks is lost. -/
def replayFrame (s : State) (f : ReplayFrame) : State :=
  match s.takeBlocks .software (blocksFor (f.bytes.length + f.trail.length)) with
  | none => s
  | some (bs, s1) =>
    let s2 := s1.storeChain bs f.bytes.length f.trail.length 0 (f.bytes ++ f.trail)
    { s2 with recorder := { s2.recorder with queue := s2.recorder.queue ++ [(bs.headD 0, f.stage % 8)] } }

/-- Whether the recording holds a frame whole (22 R503): its samples from T_START on, and its sync not before the oldest record that remains. -/
def replayHolds (s : State) (r : RecFrame) : Bool :=
  let oldest := s.memNat (0x20400040 + 16 * s.memNat 0x20400026 2) 4
  notBefore r.start (s.memNat 0x20400010 6) && decide ((leAt r.trail 0 4 + 2 ^ 32 - oldest) % 2 ^ 32 < 2 ^ 31)

/-- The frame as a replay gives it (22 R502, R503): the PSDU and the records of the original, opened with the key that the live slot holds.
CHECK.MIC follows that key; RX_SEQ is a free value (log entry 127), and an acknowledgement that committed shows as sent. -/
def replayed (s : State) (r : RecFrame) : ReplayFrame × State :=
  let (seq, s0) := s.freeVal
  let old := leAt r.trail 19 1
  let give (mic : Nat) (bytes : List Byte) : ReplayFrame :=
    ⟨bytes, r.trail.take 19 ++ natLe 1 (putBits old 2 2 mic) ++ (r.trail.drop 20).take 6 ++
      natLe 2 (leAt r.trail 26 2 ||| 2 * boolNat r.acked ||| 4 * boolNat r.squashed) ++ natLe 4 seq.toNat ++ r.trail.drop 32, r.stage⟩
  match r.plan with
  | none => (give (bitsOf old 2 2) r.bytes, s0)
  | some p => match s0.slotKey p.slot with
    | (none, s1) => (give 3 r.bytes, s1)
    | (some key, s1) => match p.open key r.fcsLen r.bytes with
      | (bytes, ok) => (give (if ok then 1 else 2) bytes, s1)

/-- The frames of a replay (22 R503): those that the recording binds, as it gives them; and, where part of the recording was lost before its
oldest sample or record, `others` before them. With other images, or with a parity error in the recording, nothing is bound. -/
def replayFrames (s : State) (others : List ReplayFrame) : State :=
  let flags := s.memNat 0x20400007 1
  let held := s.recorder.frames.filter s.replayHolds
  if s.imgDiffers || flags.testBit 2 then others.foldl replayFrame s
  else
    let s1 := if flags % 4 = 0 && held.length == s.recorder.frames.length then s else others.foldl replayFrame s
    held.foldl (fun t r => match t.replayed r with | (f, t1) => t1.replayFrame f) s1

/-- Whether a write to REC.CFG is discarded (22 R492, R494), with what that sets. -/
def recCfgRefused (s : State) (w : Nat) : Option State :=
  if s.recHidden then some (s.lockViol P.REC)
  else if bitsOf w 24 7 = 0 ∨ recKib s.variant / 4 < bitsOf w 24 7 then some (s.flag P.REC 2)
  else none

end State

/-- A read of the REC page (22 R502): REC.RPQ removes the oldest replayed frame. -/
def recRead (s : State) (off : Nat) (raw : Word) : Word × State :=
  if off = 0x114 then
    (match s.enabled P.REC, s.recorder.queue with
     | true, (h, st) :: q => (BitVec.ofNat 32 (st * 2 ^ 16 + 0x8000 + h), { s with recorder := { s.recorder with queue := q } })
     | _, _ => (0, s))
  else (raw, s)

/-- What a write to the REC page starts. -/
def recWrite (s : State) (off : Nat) (w : Word) : State :=
  if off = 0x108 then s.recCtrl w.toNat else if off = 0x110 then s.recMark w.toNat else s

open State

/-- POST_END (22 R499): the POST interval ends; the recorder stops writing and scrubs. -/
def execPostEnd (s : State) : Host.Outcome State Fault Refusal :=
  .next (if s.pageSt P.REC = 2 then { s with recorder := { s.recorder with scrub := true } } else s)

/-- FROZEN (22 R499): the scrub is complete. `samples` are the bytes that the sample ring has taken since ARM, in order; `bad` the 2 KiB
blocks with a parity error. -/
def execFrozen (samples : List Byte) (bad : List Nat) (s : State) : Host.Outcome State Fault Refusal :=
  .next (if s.pageSt P.REC = 2 ∧ s.recorder.scrub = true then s.recFreeze samples bad else s)

/-- REPLAY_DONE (22 R502, R503): the last recorded sample has been fed; the frames that reached a verdict are in the replay queue. `frames` are
those that the recording does not bind. -/
def execReplayDone (frames : List ReplayFrame) (s : State) : Host.Outcome State Fault Refusal :=
  .next (if s.pageSt P.REC = 4 then
      ((((s.replayFrames frames).setPageSt P.REC 3).put F.REC_STAT_REPLAY_RES 0).flag P.REC 1)
    else s)

end Sys2Proof.Machine
end

