-- ==== Sys2Proof/Machine/EventFabric.lean ====
section
/-! DEFINITION. The event fabric (chapter 17) and the GPIO pins (23 R510 to R513): which connections carry an event, what a trigger does at a
task input, the loop guard, pin events and pin interrupts. -/

namespace Sys2Proof.Machine

/-- The event ID of event `n` of page `p` (17 R391). -/
def eventId (p n : Nat) : Nat := 32 * p + n

/-- The task ID of task input `n` of page `p` (17 R391). -/
def taskId (p n : Nat) : Nat := 8 * p + n

/-- The native connections: producer event and consumer task of each bit of EVF.NATIVE_EN (17 R394). -/
def nativeTable : List (Nat × Nat) :=
  [(eventId P.TMB 0, taskId (P.TMR 0) 0), (eventId P.TMB 1, taskId (P.TMR 1) 0), (eventId P.TMB 2, taskId (P.TMR 2) 0),
   (eventId P.TMB 3, taskId (P.TMR 3) 0), (eventId P.TMB 4, taskId P.TSN 0), (eventId P.TMB 5, taskId P.GPIO 0),
   (eventId P.TMB 6, taskId P.GPIO 1), (eventId P.TMB 7, taskId P.REC 0)] ++
  [(eventId P.LNK 0, taskId (P.TMR 0) 3), (eventId P.LNK 0, taskId P.GPIO 2), (eventId P.RAD 1, taskId P.GPIO 3),
   (eventId P.RAD 2, taskId P.GPIO 4), (eventId P.LNK 1, taskId (P.TMR 1) 3), (eventId P.FRM 0, taskId P.EVF 0),
   (eventId P.FRM 1, taskId P.EVF 1), (eventId P.FLC 0, taskId P.EVF 2)] ++
  [(eventId (P.TMR 0) 0, taskId (P.TMR 1) 0), (eventId (P.TMR 0) 1, taskId P.GPIO 5), (eventId (P.TMR 1) 1, taskId P.GPIO 6),
   (eventId (P.TMR 2) 1, taskId P.TSN 0), (eventId (P.TMR 2) 0, taskId (P.TMR 3) 0), (eventId P.GPIO 0, taskId (P.TMR 2) 3),
   (eventId P.GPIO 1, taskId (P.TMR 3) 3), (eventId P.GPIO 2, taskId P.REC 0)] ++
  [(eventId P.WDT 0, taskId P.REC 0), (eventId P.FLT 0, taskId P.REC 0), (eventId P.HVL 1, taskId P.REC 0),
   (eventId P.LPT 1, taskId P.TSN 0), (eventId (P.SPT 0) 1, taskId P.EVF 3), (eventId P.TSN 0, taskId P.EVF 4),
   (eventId P.REC 0, taskId P.EVF 5), (eventId P.EVF 0, taskId P.REC 1)]

/-- The task inputs a page has (17 R392). -/
def taskCount (p : Nat) : Nat :=
  if 6 ≤ p ∧ p ≤ 9 then 7 else if p = P.GPIO ∨ p = P.EVF then 8 else if p = P.REC then 2 else if p = P.TSN then 1 else 0

/-- Whether a task ID names a task input (17 R392). -/
def taskExists (t : Nat) : Bool := decide (t % 8 < taskCount (t / 8))

/-- The GPIO pins present in a variant's package (23 R512). -/
def pinsPresent (v : Variant) : Nat := if v = .znl7210 then 0xC00FFFFF else 0xFFFFFFFF

namespace State

/-- The fabric carries events: EVF is enabled (02 R52). -/
def evfOn (s : State) : Bool := s.enabled P.EVF

/-- The task inputs an event reaches (17 R393 to R395). -/
def targets (s : State) (e : Nat) : List Nat :=
  if !s.evfOn then []
  else if s.get F.EVF_CFG_MODE = 0 then
    (List.range 32).filterMap (fun c => match nativeTable[c]? with
      | some (ev, t) => if ev == e && (s.reg Reg.EVF_NATIVE_EN).toNat.testBit c then some t else none
      | none => none)
  else
    (List.range 32).filterMap (fun n =>
      if s.on (F.EVF_CH_PUB_EN n) && s.on (F.EVF_CH_SUB_EN n) && s.get (F.EVF_CH_PUB_EVENT_ID n) == e && taskExists (s.get (F.EVF_CH_SUB_TASK_ID n))
      then some (s.get (F.EVF_CH_SUB_TASK_ID n)) else none)

/-- The level of a pin as GPIO.IN shows it. -/
def setPin (s : State) (pin : Nat) (level : Bool) : State := s.putRegBit Reg.GPIO_IN pin level

/-- The INT_FLAGs of pins whose level mode holds (23 R513). -/
def levelFlags (s : State) : State :=
  if !s.enabled P.GPIO then s
  else (List.range 32).foldl (fun t n =>
    let m := t.get (F.GPIO_PIN_INT_MODE n)
    let up := (t.reg Reg.GPIO_IN).toNat.testBit n
    if (pinsPresent t.variant).testBit n && ((m == 4 && !up) || (m == 5 && up)) then t.putRegBit Reg.GPIO_INT_FLAG n true else t) s

/-- An edge on a pin is an event of GPIO for every PIN_EVTk that names the pin and the edge (17 R400; 23 R510): pins 0 to 7 in every ALT setting,
the others as GPIO. -/
def pinEdge (s : State) (pin : Nat) (rising : Bool) : State :=
  if 8 ≤ pin ∧ s.get (F.GPIO_PIN_ALT pin) ∈ [1, 2] then s
  else (List.range 8).foldl (fun t k =>
    if t.get (F.EVF_PIN_EVT_PIN k) == pin && (t.get (F.EVF_PIN_EVT_EDGE k)).testBit (if rising then 0 else 1) then t.event P.GPIO k else t) s

/-- A pin takes a level, and meets its INT_MODE or not (23 R513). -/
def pinTakes (s : State) (pin : Nat) (level : Bool) : State :=
  let old := (s.reg Reg.GPIO_IN).toNat.testBit pin
  let m := s.get (F.GPIO_PIN_INT_MODE pin)
  let s1 := s.setPin pin level
  let edge := (level && !old && (m == 1 || m == 3)) || (!level && old && (m == 2 || m == 3))
  if !s.enabled P.GPIO || !s.systemOn then s1
  else (if edge then s1.putRegBit Reg.GPIO_INT_FLAG pin true else s1).levelFlags

/-- The device drives a pin: an output in GPIO mode that the regulator port does not own (23 R511, R512). -/
def pinDriven (s : State) (pin : Nat) : Bool :=
  (pinsPresent s.variant).testBit pin && s.on (F.GPIO_PIN_DIR pin) && !([1, 2] : List Nat).contains (s.get (F.GPIO_PIN_ALT pin)) &&
    !(s.on F.PWR_CFG_EXT_REG && decide (30 ≤ pin))

/-- Every pin that the device drives stands at its output latch, and a change is an edge on it (23 R512, R513; log entry 128). -/
def drivePins (s : State) : State :=
  (List.range 32).foldl (fun t n =>
    let v := (t.reg Reg.GPIO_OUT).toNat.testBit n
    if t.pinDriven n && (t.reg Reg.GPIO_IN).toNat.testBit n != v then (t.pinTakes n v).pinEdge n v else t) s

/-- PIN_TASKk (17 R400): the output latch of its pin. -/
def pinTask (s : State) (k : Nat) : State :=
  let pin := s.get (F.EVF_PIN_TASK_PIN k)
  let act := s.get (F.EVF_PIN_TASK_ACTION k)
  if act = 0 ∨ !(pinsPresent s.variant).testBit pin then s
  else (s.putRegBit Reg.GPIO_OUT pin (if act = 1 then true else if act = 2 then false else !(s.reg Reg.GPIO_OUT).toNat.testBit pin)).drivePins

/-- Whether the consumer of a task is busy (17 R392). -/
def taskBusy (s : State) (t : Nat) : Bool :=
  if t = taskId P.REC 0 then s.pageSt P.REC == 2 || s.pageSt P.REC == 3
  else if t = taskId P.REC 1 then s.pageSt P.REC == 1
  else if t = taskId P.TSN 0 then s.pageSt P.TSN == 1
  else if t / 8 = P.EVF then (s.reg Reg.EVF_IRQ_TASK).toNat.testBit (t % 8)
  else false

/-- The action of a task input (17 R392, R400, R401). -/
def taskAct (s : State) (t : Nat) : State :=
  let p := t / 8
  let n := t % 8
  if 6 ≤ p ∧ p ≤ 9 then
    (let k := p - 6
     if n = 0 then s.tmrStart k else if n = 1 then s.tmrStop k else if n = 2 then s.tmrClear k else s.tmrCapture k (n - 3))
  else if p = P.TSN then s.tsnSample
  else if p = P.REC then (if n = 0 then s.recTrigger 2 else s.recArm)
  else if p = P.GPIO then s.pinTask n
  else if p = P.EVF then s.putRegBit Reg.EVF_IRQ_TASK n true
  else s

/-- Triggers of one task input in the present fabric cycle, `n` of them (17 R398, R399). -/
def deliverTask (s : State) (t n : Nat) : State :=
  let p := t / 8
  let k := t % 8
  if n = 0 ∨ !taskExists t ∨ !pagePresent s.variant p ∨ !s.evfOn then s
  else if !s.pageOn p then (s.countSat F.EVF_DROPS_COUNT).flag P.EVF 2
  else if !s.enabled p || !(s.reg (Reg.TASK_EN p)).toNat.testBit k then s
  else
    let s1 := if 2 ≤ n then s.putBit (F.TASK_FLAGS_COINCIDENT p) k true else s
    let recent := s1.fabric.history.filter (fun h => decide (s1.fabric.cycle < h.2 + 32))
    let s2 : State := { s1 with fabric := { s1.fabric with history := recent ++ [(t, s1.fabric.cycle)] } }
    let lim := s2.get F.EVF_CFG_LOOP_LIMIT
    if lim ≠ 0 ∧ lim < (s2.fabric.history.filter (fun h => h.1 == t)).length then
      let s3 := ((s2.putRegBit (Reg.TASK_EN p) k false).cfgChange p).putBit (F.TASK_FLAGS_LOOP p) k true
      (s3.flag P.EVF 0).setReg Reg.EVF_LOOP_LAST (BitVec.ofNat 32 (0x80000000 + t))
    else if s2.taskBusy t then s2.putBit (F.TASK_FLAGS_OVERRUN p) k true
    else s2.taskAct t

/-- A START of a general timer meets an enabled STOP in one cycle: STOP wins (08 R209). -/
def stopWins (s : State) (t : Nat) : Bool :=
  (List.range 4).any (fun k => t == taskId (P.TMR k) 0 && s.fabric.due.contains (taskId (P.TMR k) 1) && (s.reg (Reg.TASK_EN (P.TMR k))).toNat.testBit 1)

/-- The triggers of one task that are on their way reach it (17 R396). -/
def deliverOne (s : State) (t : Nat) : State :=
  let n := if s.stopWins t then 0 else (s.fabric.due.filter (· == t)).length
  ({ s with fabric := { s.fabric with due := s.fabric.due.filter (· != t) } }).deliverTask t n

/-- Every trigger on its way reaches its task, in ascending task order. -/
def deliverAll (s : State) : State := (List.range 328).foldl (fun u t => if u.fabric.due.contains t then u.deliverOne t else u) s

/-- A fabric edge (17 R396): the triggers of the edge before reach their tasks, and the raised and held events are sampled. -/
def fabricEdge (s : State) : State :=
  let s1 := s.deliverAll
  let es := s1.fabric.raised ++ s1.fabric.held.filter (fun e => !s1.fabric.raised.contains e)
  { s1 with fabric := { s1.fabric with raised := [], held := [], cycle := s1.fabric.cycle + 1, due := (es.map s1.targets).flatten } }

/-- EVF.SW_TRIG (17 R401). -/
def swTrig (s : State) (w : Nat) : State := (List.range 8).foldl (fun t n => if w.testBit n then t.event P.EVF n else t) s

/-- EVF.TASK_TRIG (17 R401). -/
def taskTrig (s : State) (w : Nat) : State :=
  if s.evfOn then { s with fabric := { s.fabric with due := s.fabric.due ++ [w % 512] } } else s

/-- A write to CHn_SUB with EN = 1 that names a task ID which another channel names already (17 R395). -/
def chConflict (s : State) (n w : Nat) : Bool :=
  w.testBit 31 && (List.range 32).any (fun k => k != n && s.on (F.EVF_CH_SUB_EN k) && s.get (F.EVF_CH_SUB_TASK_ID k) == w % 512)

/-- ALT_CONFLICT after a write to a GPIO.PINn (23 R510). -/
def altCheck (s : State) : State :=
  if (List.range 5).any (fun k => s.get (F.GPIO_PIN_ALT (2 + k)) == 2) && (List.range 5).any (fun k => s.get (F.GPIO_PIN_ALT (15 + k)) == 1) then
    s.flag P.GPIO 0
  else s

end State

/-- What a write to the EVF page starts. The stored MODE shows in PAGE_STAT (17 R402). -/
def evfWrite (s : State) (off : Nat) (w : Word) : State :=
  if off = 0x100 then s.setPageSt P.EVF (s.get F.EVF_CFG_MODE)
  else if off = 0x108 then s.swTrig w.toNat
  else if off = 0x10C then s.taskTrig w.toNat
  else s

/-- What a write to the GPIO page does beside the register: driven pins follow their latches, level modes set their flags, and a double choice
of SPT1 is flagged. -/
def gpioWrite (s : State) (off : Nat) : State :=
  if off = 0x104 then s.drivePins
  else if off = 0x108 then s.levelFlags
  else if 0x140 ≤ off ∧ off < 0x1C0 then s.altCheck.drivePins.levelFlags
  else s

open State

/-- EVENT_SAMPLE (17 R396): a fabric edge. -/
def execEventSample (s : State) : Host.Outcome State Fault Refusal := .next (if s.fabricOn then s.fabricEdge else s)

/-- HELD_EVENTS_SAMPLE (17 R397): the first edge after the fabric clock has started samples the held events. -/
def execHeldEventsSample (s : State) : Host.Outcome State Fault Refusal :=
  .next (if s.fabricOn && !s.fabric.held.isEmpty then s.fabricEdge else s)

/-- TASK_TRIGGER (17 R398): the triggers on their way to a task input reach it. -/
def execTaskTrigger (task : Nat) (s : State) : Host.Outcome State Fault Refusal := .next (if s.fabricOn then s.deliverOne task else s)

/-- PIN_EVT (17 R400; 23 R510): an edge on a pin. -/
def execPinEvt (pin : Nat) (rising : Bool) (s : State) : Host.Outcome State Fault Refusal :=
  .next (if 32 ≤ pin ∨ !(pinsPresent s.variant).testBit pin then s else (s.setPin pin rising).pinEdge pin rising)

/-- GPIO_INT (23 R513): a pin takes a level, and meets its INT_MODE or not. -/
def execGpioInt (pin : Nat) (level : Bool) (s : State) : Host.Outcome State Fault Refusal :=
  .next (if 32 ≤ pin ∨ !(pinsPresent s.variant).testBit pin then s else s.pinTakes pin level)

end Sys2Proof.Machine
end

