-- ==== Sys2Proof/Machine/Images.lean ====
section
/-! DEFINITION. Images: the image directory, the image header and the checks that the SCC makes before it loads or releases anything
(12 R316, R317; 19 R435 to R437). -/

namespace Sys2Proof.Machine

/-- The engine that an image type's first target is (12 R316), for types 4 to 8. -/
def typeEngine (t : Nat) : Nat := if t = 4 then 0 else if t = 5 then 1 else if t = 6 then 2 else if t = 7 then 6 else 7

/-- The image type of an engine. -/
def engineType (e : Nat) : Nat := if e = 0 then 4 else if e = 1 then 5 else if e < 6 then 6 else if e = 6 then 7 else 8

/-- The image type of a core (12 R316). -/
def coreType : Core → Nat
  | .apc => 1 | .ntc => 2 | .scc => 3

/-- Whether an image type has a target in a variant (20 R463). -/
def typePresent (v : Variant) (t : Nat) : Bool := decide (1 ≤ t) && (decide (t ≤ 7) || (t == 8 && v == .znl7240))

/-- The engines that load an image type. -/
def typeEngines (v : Variant) (t : Nat) : List Nat := (List.range 8).filter (fun e => engineType e == t && engPresent v e)

/-- Bits set in a number of 32 bits. -/
def popCount (n : Nat) : Nat := ((List.range 32).filter n.testBit).length

/-- `n` with as many of its lowest clear bits set as make `k` bits (12 R309). -/
def raiseTo (k n : Nat) : Nat :=
  (List.range 32).foldl (fun a i => if a.testBit i || decide (k ≤ popCount a) then a else a + 2 ^ i) n

/-- ADDR, EXTENT and PRESENT of a type in the directory's bytes (19 R435). -/
def dirAddr (d : List Byte) (t : Nat) : Nat := leAt d (16 * t) 4
def dirExtent (d : List Byte) (t : Nat) : Nat := leAt d (16 * t + 4) 4
def dirPresent (d : List Byte) (t : Nat) : Bool := (leAt d (16 * t + 8) 4).testBit 0

/-- The directory is valid: MAGIC, CRC, and every present image whole within the flash (19 R435). -/
def dirValid (d : List Byte) : Bool :=
  leAt d 0 4 == 0x5A4E4449 && leAt d 12 4 == crc32 (d.drop 16) &&
    (List.range 8).all (fun k => !dirPresent d (k + 1) || decide (dirAddr d (k + 1) + dirExtent d (k + 1) ≤ 0x400000))

namespace State

/-- A range of flash of which some byte is served from a sector of undefined contents. -/
def rangeUndef (s : State) (a n : Nat) : Bool :=
  !s.flash.undef.isEmpty && (List.range n).any (fun k => match s.flashPlace (a + k) with | some x => s.sectorUndef (sectorOf x) | none => false)

/-- `n` free values as bytes. -/
def freeBytes (s : State) : Nat → List Byte × State
  | 0 => ([], s)
  | n + 1 => match s.freeVal with
    | (w, t) => match freeBytes t n with
      | (bs, u) => (BitVec.ofNat 8 w.toNat :: bs, u)

/-- `n` bytes of flash as a reader finds them, remaps included (20 R452); free values where contents are undefined. -/
def viewBytes (s : State) (a n : Nat) : List Byte × State :=
  if s.rangeUndef a n then s.freeBytes n else ((List.range n).map (fun k => s.flashByte (a + k)), s)

/-- A root hash that a public key matches and that is not revoked (12 R317 check 3); a blank hash matches nothing. -/
def rootOk (s : State) (pub : List Byte) : Bool :=
  let h := Crypto.sha256 (toNats pub)
  (List.range 2).any (fun r => s.otp r != 0 && !(s.otp 2).testBit r && toNats (natLe 32 (s.otp r)) == h)

/-- The capacity of an image's target (12 R317 check 2; 19 R435). -/
def imgCapacity (t extent : Nat) : Nat := if t ≤ 3 then extent - 176 else engHalf (typeEngine t)

/-- Checks 1 to 5 of an image's header for type `t`, or without 3 and 5 on the fast path (12 R317; 19 R437). -/
def headerError (s : State) (h : List Byte) (t cap : Nat) (full : Bool) : Nat :=
  if leAt h 0 4 ≠ 0x5A4E4931 ∨ leAt h 4 1 ≠ t ∨ leAt h 5 3 ≠ 0 then 1
  else if cap < leAt h 12 4 then 2
  else if full ∧ ¬ s.rootOk ((h.drop 48).take 64) then 3
  else if leAt h 8 4 < popCount (s.otp (4 + t)) then 4
  else if full ∧ ¬ Crypto.ecdsaVerify (Crypto.sha256 (toNats (h.take 48))) (toNats ((h.drop 48).take 64)) (toNats ((h.drop 112).take 64)) then 5
  else 0

/-- The checks of the image at `a`: of its header, and of its payload if asked (12 R317). -/
def imageError (s : State) (a t cap : Nat) (full payload : Bool) : Nat × State :=
  match s.viewBytes a 176 with
  | (h, s1) =>
    let e := s1.headerError h t cap full
    if e ≠ 0 ∨ !payload then (e, s1)
    else match s1.viewBytes (a + 176) (leAt h 12 4) with
      | (p, s2) => (if Crypto.sha256 (toNats p) == toNats ((h.drop 16).take 32) then 0 else 6, s2)

/-- The result of a check in SEC.AUTH_STAT; a failure sets AUTH_FAIL (12 R317). -/
def authRecord (s : State) (t e : Nat) : State :=
  let s1 := (s.put F.SEC_AUTH_STAT_IMG_TYPE t).put F.SEC_AUTH_STAT_IMG_ERR e
  if e = 0 then s1 else s1.flag P.SEC 2

/-- The check of the image that the directory gives for type `t`, recorded. -/
def checkHome (s : State) (t : Nat) (full payload : Bool) : Bool × State :=
  match s.viewBytes 0x10000 144 with
  | (d, s1) =>
    if !dirValid d || !dirPresent d t then (false, s1)
    else match s1.imageError (dirAddr d t) t (imgCapacity t (dirExtent d t)) full payload with
      | (e, s2) => (e == 0, s2.authRecord t e)

/-- The boot seal (19 R437): the SHA-256 over the directory and the headers of the present images. -/
def sealOf (s : State) : List Nat × State :=
  match s.viewBytes 0x10000 144 with
  | (d, s1) =>
    match ((List.range 8).filter (fun k => dirPresent d (k + 1))).foldl
        (fun (p : List Byte × State) k => match p.2.viewBytes (dirAddr d (k + 1)) 176 with | (h, t) => (p.1 ++ h, t)) (d, s1) with
    | (bs, s2) => (Crypto.sha256 (toNats bs), s2)

/-- Put an image's payload into a half of an engine's code RAM, the physical half `half` (19 R441; 20 R450); bytes beyond it keep what they
hold. -/
def loadCode (s : State) (e half a : Nat) : Nat × State :=
  match s.viewBytes a 176 with
  | (h, s1) => match s1.viewBytes (a + 176) (leAt h 12 4) with
    | (p, s2) => (leAt h 16 4, s2.setBytes (0x50000000 + 0x20000 * e + 0x10000 * half) p)

end State

end Sys2Proof.Machine
end

