-- ==== Sys2Proof/Machine/Update.lean ====
section
/-! DEFINITION. The update unit (chapter 20): the manifest and its checks, staging, the journal, activation and the commit point, home copies,
changeovers and handovers, confirmation, fallback, and what a chip start makes of an update. -/

namespace Sys2Proof.Machine

/-- The states of the update unit (20 R449). -/
inductive UpdState where
  | idle | staging | staged | prepared | committed | sccPending | confirmed | fallback
  deriving DecidableEq, Repr

/-- The code of a state. -/
def UpdState.code : UpdState → Nat
  | .idle => 0 | .staging => 1 | .staged => 2 | .prepared => 3 | .committed => 4 | .sccPending => 5 | .confirmed => 6 | .fallback => 7

/-- Results of UPD.STAT (20 R463). -/
inductive UpdRes where
  | ok | format | root | signature | extent | image | noRoom | state | late | cascadeMiss | fellBack | copyFail | reset | remapped | abandoned
  deriving DecidableEq, Repr

/-- The code of a result. -/
def UpdRes.code : UpdRes → Nat
  | .ok => 0 | .format => 1 | .root => 2 | .signature => 3 | .extent => 4 | .image => 5 | .noRoom => 6 | .state => 7 | .late => 8
  | .cascadeMiss => 9 | .fellBack => 10 | .copyFail => 11 | .reset => 12 | .remapped => 13 | .abandoned => 14

/-- COUNT of a manifest (20 R446). -/
def mfCount (m : List Byte) : Nat := leAt m 6 1
/-- A field of entry `i` of a manifest. -/
def mfType (m : List Byte) (i : Nat) : Nat := leAt m (16 + 48 * i) 1
def mfOffset (m : List Byte) (i : Nat) : Nat := leAt m (20 + 48 * i) 4
def mfLength (m : List Byte) (i : Nat) : Nat := leAt m (24 + 48 * i) 4
def mfHash (m : List Byte) (i : Nat) : List Byte := (m.drop (32 + 48 * i)).take 32

/-- The manifest digest D (20 R446). -/
def mfDigest (m : List Byte) : List Nat := Crypto.sha256 (toNats (m.take (16 + 48 * mfCount m)))

/-- Check 1 of STAGE (20 R447). -/
def mfFormat (m : List Byte) (part : Nat) : Bool :=
  let n := mfCount m
  leAt m 0 4 == 0x5A4E424D && leAt m 4 2 == 1 && decide (1 ≤ n) && decide (n ≤ 8) && decide (leAt m 7 1 < 2) &&
    (leAt m 12 2 == 0 || leAt m 12 2 == part) && leAt m 14 2 == 0 &&
    (List.range n).all (fun i => leAt m (17 + 48 * i) 3 == 0 && leAt m (28 + 48 * i) 4 == 0 &&
      (List.range i).all (fun j => mfType m j != mfType m i))

/-- The entries that are parts in a variant: their types have a target (20 R445). -/
def mfParts (v : Variant) (m : List Byte) : List Nat := (List.range (mfCount m)).filter (fun i => typePresent v (mfType m i))

/-- The 64 KiB sectors that `n` bytes take. -/
def sectors64 (n : Nat) : Nat := (n + 0xFFFF) / 0x10000

/-- The sectors of a home extent, in ascending order. -/
def extentSectors (a n : Nat) : List Nat :=
  ((List.range 39) ++ (List.range 39).map (64 + ·)).filter (fun k => decide (a ≤ sectorBase k) && decide (sectorBase k < a + n))

/-- A home extent that starts at a sector's base and ends at a sector's end (20 R447 check 4). -/
def extentWhole (a n : Nat) : Bool :=
  decide (0 < n) && decide (a + n ≤ 0x400000) && a == sectorBase (sectorOf a) &&
    a + n == sectorBase (sectorOf (a + n - 1)) + sectorSize (sectorOf (a + n - 1))

/-- The sectors of the journal, bank 1 parameter sectors 0 to 7, hold 2,048 records of 32 bytes (20 R448). -/
def recordPlace (k : Nat) : Nat := 0x200000 + 32 * (k % 2048)

namespace State

/-- Change the unit's part that is no register. -/
def setUpd (s : State) (g : Upd → Upd) : State := { s with upd := g s.upd }

/-- UPD.STAT.STATE. -/
def updSt (s : State) : Nat := s.get F.UPD_STAT_STATE

/-- The unit enters a state (20 R449, R463). On IDLE the Flacon reopens (20 R444). -/
def updEnter (s : State) (x : UpdState) : State :=
  let s1 := (s.put F.UPD_STAT_STATE x.code).setPageSt P.UPD x.code
  s1.put F.FLC_PROT1_FLACON (if x = .idle then 0 else 1)

/-- A command or a staging ends with a result (20 R463). -/
def updEnd (s : State) (r : UpdRes) : State := (s.put F.UPD_STAT_RESULT r.code).flag P.UPD 0

/-- The manifest's bytes in the Flacon: 16 + 48 × 8 + 128 at most. -/
def manifest (s : State) : List Byte × State := s.viewBytes 0x210000 528

/-- The manifest as it lies in the Flacon while that is closed. -/
def manifestNow (s : State) : List Byte := s.bytesAt 0x210000 528

/-- Copies still to make: parts remapped whose copy has not failed. -/
def copyDue (s : State) : Nat := s.get F.UPD_PARTS_REMAPPED &&& (255 - s.upd.badCopy % 256)

/-- UPD.STAT.BUSY: staging or home copies in progress. -/
def updBusy (s : State) : State := s.put F.UPD_STAT_BUSY (boolNat (s.updSt == 1 || s.updSt == 7 || (decide (4 ≤ s.updSt) && s.copyDue != 0)))

/-- A journal record (20 R448), in the next place that is blank; the sector ahead is erased when this one is three-quarters full. -/
def journal (s : State) (typ sector code : Nat) : State :=
  let m := s.manifestNow
  let k := s.upd.place % 2048
  let seq := (s.upd.rseq + 1) % 2 ^ 32
  let parts := s.get F.UPD_PARTS_IN_SET + 2 ^ 8 * s.get F.UPD_PARTS_EFFECT + 2 ^ 16 * s.get F.UPD_PARTS_CONFIRMED + 2 ^ 24 * (s.upd.copied % 256)
  let body := natLe 4 seq ++ natLe 1 s.updSt ++ natLe 1 typ ++ natLe 1 sector ++ natLe 1 code ++ natLe 4 parts ++
    natLe 4 (leAt m 8 4) ++ natLe 1 s.upd.starts ++ natLe 3 0 ++ toBytes ((mfDigest m).take 8)
  let s0 := if k % 256 = 0 ∧ ¬ (s.bytesAt (recordPlace k) 0x2000).all (· == 0xFF) then s.eraseSector (64 + k / 256) else s
  let s1 := s0.programBytes (recordPlace k) (body ++ natLe 4 (crc32 body))
  let s2 := if k % 256 = 191 then s1.eraseSector (64 + (k / 256 + 1) % 8) else s1
  s2.setUpd (fun u => { u with rseq := seq, place := (k + 1) % 2048 })

/-- The bytes of the current image of type `t` at its home that a previous copy saves (20 R445). -/
def homeLength (s : State) (t : Nat) : Nat := s.memNat (s.dirWord t 0 + 12) 4 + 176

/-- Check 4 of STAGE for entry `i` (20 R447): the image inside the Flacon, on a sector base, clear of the other images, its LENGTH right
and no greater than a home extent of whole sectors. -/
def extentOk (s : State) (d m : List Byte) (parts : List Nat) (i : Nat) : Bool :=
  let off := mfOffset m i
  let len := mfLength m i
  let t := mfType m i
  off % 0x10000 == 0 && decide (off + len ≤ 0xF0000) && dirPresent d t && decide (len ≤ dirExtent d t) &&
    extentWhole (dirAddr d t) (dirExtent d t) && len == s.memNat (0x210000 + off + 12) 4 + 176 &&
    parts.all (fun j => j == i || decide (off + len ≤ mfOffset m j) || decide (mfOffset m j + mfLength m j ≤ off))

/-- Check 5 of STAGE for the entries `is` (20 R447): the first type whose image fails, and its error. -/
def stagedImages (s : State) (d m : List Byte) : List Nat → Nat × State
  | [] => (0, s)
  | i :: is =>
    let t := mfType m i
    match s.imageError (0x210000 + mfOffset m i) t (imgCapacity t (dirExtent d t)) true true with
    | (e, s1) =>
      match s1.viewBytes (0x210000 + mfOffset m i) (mfLength m i) with
      | (bs, s2) =>
        let s3 := s2.authRecord t e
        if e ≠ 0 ∨ Crypto.sha256 (toNats bs) ≠ toNats (mfHash m i) then (t, s3) else stagedImages s3 d m is

/-- The checks of STAGE in their order (20 R447): the result and the type it names. -/
def stageChecks (s : State) : UpdRes × Nat × State :=
  match s.manifest with
  | (m, s1) =>
    let n := mfCount m
    let pub := (m.drop (16 + 48 * n)).take 64
    let parts := mfParts s1.variant m
    if !mfFormat m (chipId s1.variant / 0x10000) then (.format, 0, s1)
    else if !s1.rootOk pub then (.root, 0, s1)
    else if !Crypto.ecdsaVerify (mfDigest m) (toNats pub) (toNats ((m.drop (80 + 48 * n)).take 64)) then (.signature, 0, s1)
    else match s1.viewBytes 0x10000 144 with
      | (d, s2) =>
        if !dirValid d then (.extent, 0, s2)
        else match parts.find? (fun i => !s2.extentOk d m parts i) with
          | some i => (.extent, mfType m i, s2)
          | none => match s2.stagedImages d m parts with
            | (t, s3) =>
              if t ≠ 0 then (.image, t, s3)
              else if 16 < parts.foldl (fun a i => a + sectors64 (s3.homeLength (mfType m i))) 0 then (.noRoom, 0, s3)
              else if s3.get F.UPD_PARTS_REMAPPED ≠ 0 then (.remapped, 0, s3)
              else (.ok, parts.foldl (fun a i => a + 2 ^ (mfType m i - 1)) 0, s3)

/-- The types of a set, ascending. -/
def typesOf (set : Nat) : List Nat := ((List.range 8).filter set.testBit).map (· + 1)

/-- Previous copies (20 R445, R447): each current image at the base of the next free sector of bank 1 main sectors 15 to 30. -/
def saveCopies (s : State) : List Nat → Nat → State
  | [], _ => s
  | t :: ts, k =>
    let n := s.homeLength t
    let bs := s.bytesAt (s.dirWord t 0) n
    let s1 := (List.range (sectors64 n)).foldl (fun u j => u.eraseSector (64 + 23 + k + j)) s
    saveCopies (s1.programBytes (0x300000 + 0x10000 * k) bs) ts (k + sectors64 n)

/-- A previous-copy sector that the set needs and that is retired. -/
def saveBlocked (s : State) (set : Nat) : Bool :=
  (List.range ((typesOf set).foldl (fun a t => a + sectors64 (s.homeLength t)) 0)).any (fun j => s.isRetired (uSector (64 + 23 + j)))

/-- Staging ends (20 R447). Whether the previous copies that were programmed read back with the CRC of what was programmed is a free value. -/
def stageEnd (s : State) : State :=
  match s.stageChecks with
  | (.ok, set, s0) =>
    let (r, s1) := s0.freeVal
    let s2 := if s1.saveBlocked set then s1 else s1.saveCopies (typesOf set) 0
    if s1.saveBlocked set || r.toNat % 2 = 1 then (((s2.updEnter .idle).updBusy).journal 0 0 UpdRes.copyFail.code).updEnd .copyFail
    else
      let s3 := ((((s2.put F.UPD_PARTS_IN_SET set).put F.UPD_PARTS_EFFECT 0).put F.UPD_PARTS_CONFIRMED 0).setUpd (fun u => { u with copied := 0 }))
      (((s3.updEnter .staged).updBusy).journal 0 0 0).updEnd .ok
  | (r, t, s1) =>
    ((((s1.updEnter .idle).updBusy).put F.UPD_STAT_ERR_TYPE t).journal 0 0 r.code).updEnd r

/-- The armed instant. -/
def updAt (s : State) : Nat := s.get F.UPD_AT_LO_AT_LO + 2 ^ 32 * s.get F.UPD_AT_HI_AT_HI

/-- The staged image of a type is loaded into the shadow half of an engine (20 R450). -/
def loadShadow (s : State) (ty e : Nat) : State :=
  match s.stagedPart ty with
  | none => s
  | some (off, _) => match s.loadCode e (1 - (s.engine e).half) (0x210000 + off) with
    | (d, s1) => s1.setEngine e (fun x => { x with shadow := d })

/-- Engine images of the set are loaded into the shadow halves (20 R450). -/
def loadShadows (s : State) : State :=
  if !s.pwr.radioUp then s
  else (typesOf (s.get F.UPD_PARTS_IN_SET)).foldl (fun t ty => (typeEngines t.variant ty).foldl (fun u e => u.loadShadow ty e) t) s

/-- PREPARED for an instant (20 R450, R458). -/
def prepare (s : State) (byMaster : Bool) : State :=
  ((((s.updEnter .prepared).setUpd (fun u => { u with byMaster := byMaster, held := false })).updBusy).journal 0 0 0).loadShadows

/-- COMMIT_AT leaves for the positions of a mask (20 R458). -/
def sendCommitAt (s : State) (phase mask : Nat) : State :=
  s.hvlSend ptCommitAt 7 0 true true true
    (natLe 1 phase ++ natLe 1 mask ++ natLe 6 s.updAt ++ toBytes ((mfDigest s.manifestNow).take 8))

/-- A fallback is due, with its cause (20 R460): the first cause stands. -/
def fallDue (s : State) (cause : Nat) : State :=
  if s.upd.fall.isSome then s else s.setUpd (fun u => { u with fall := some cause })

/-- The unit lets go of the flash ring that it has suspended (20 R451). -/
def unsuspend (s : State) : State := if s.upd.held then (s.setUpd (fun u => { u with held := false })).flcCtrl 2 else s

/-- ABANDON (20 R450). -/
def abandon (s : State) : State :=
  let s1 := (s.unsuspend.updEnter .idle).put F.UPD_PARTS_IN_SET 0
  ((s1.updBusy).journal 0 0 UpdRes.abandoned.code).updEnd .abandoned

/-- A write to UPD.CMD (20 R447, R450, R457, R458, R460, R463). -/
def updCmd (s : State) (w : Nat) : State :=
  let op := bitsOf w 0 4
  let cascade := w.testBit 8 && s.hvlMaster
  let mask := bitsOf w 16 8
  let st := s.updSt
  let slave := s.hvlSlave
  let send (phase : Nat) (t : State) : State := if cascade then t.sendCommitAt phase mask else t
  if !s.enabled P.UPD then s
  else if op = 1 then
    (if st = 0 ∨ st = 2 then
      ((((s.updEnter .staging).put F.UPD_PARTS_IN_SET 0).put F.UPD_STAT_ERR_TYPE 0).updBusy).journal 0 0 0
     else s.updEnd (if 4 ≤ st ∧ st ≤ 6 ∧ s.upd.badCopy ≠ 0 then .remapped else .state))
  else if op = 2 then
    (if st ≠ 2 ∨ slave then s.updEnd .state
     else if !notBefore s.updAt (addTicks s.count (usTicks 10000)) then s.updEnd .late
     else (send 0 (s.prepare false)).updEnd .ok)
  else if op = 3 then (if st = 1 ∨ st = 2 ∨ st = 3 then (send 2 s).abandon else (send 2 s).updEnd .state)
  else if op = 4 then
    (if (st = 4 ∨ st = 5) ∧ ¬ slave then ((send 1 s).fallDue 5).updEnd .ok else if slave then s.updEnd .state else (send 1 s).updEnd .state)
  else if op = 5 then
    (if 4 ≤ st ∧ st ≤ 6 ∧ s.upd.badCopy ≠ 0 then
      (((s.setUpd (fun u => { u with badCopy := 0, copy := none })).put F.UPD_STAT_COPY_FAIL 0).updBusy).updEnd .ok
     else s.updEnd .state)
  else s

/-- Set the bits of a set in a field of UPD.PARTS. -/
def markParts (s : State) (f : Field) (set : Nat) : State := s.put f (s.get f ||| set)

/-- The update is over when every part is CONFIRMED and COPIED (20 R449). -/
def updDone (s : State) : State :=
  if s.updSt = 6 ∧ s.get F.UPD_PARTS_IN_SET &&& (255 - s.upd.copied % 256) = 0 then
    let s1 := (s.updEnter .idle).setReg Reg.UPD_PARTS 0
    ((s1.updBusy).journal 0 0 0).updEnd .ok
  else s

/-- MIN_VER of a type is raised so that it holds `ver` bits (12 R309, 20 R459); MINVER_FAIL shows an OTP write that fails. -/
def raiseMinOf (s : State) (ty ver : Nat) : State :=
  let v := raiseTo ver (s.otp (4 + ty))
  let s1 := s.otpSet (4 + ty) v
  if s1.otpHolds (4 + ty) v && decide (ver ≤ popCount v) then s1 else s1.put F.UPD_STAT_MINVER_FAIL 1

/-- MIN_VER is raised for the set's types when the manifest asks for it (20 R459). -/
def raiseMin (s : State) : State :=
  if (leAt s.manifestNow 7 1).testBit 0 then
    (typesOf (s.get F.UPD_PARTS_IN_SET)).foldl (fun t ty => match t.stagedPart ty with
      | some (off, _) => t.raiseMinOf ty (t.memNat (0x210000 + off + 8) 4)
      | none => t) s
  else s

/-- What follows from parts taking effect or being confirmed (20 R459): the window, SCC_PENDING, CONFIRMED. -/
def updAdvance (s : State) : State :=
  let set := s.get F.UPD_PARTS_IN_SET
  let eff := s.get F.UPD_PARTS_EFFECT
  let conf := s.get F.UPD_PARTS_CONFIRMED
  let others := set &&& 0xFB
  if s.updSt ≠ 4 then s
  else
    let s1 := if others &&& (255 - eff) = 0 ∧ s.upd.window.isNone then s.setUpd (fun u => { u with window := some s.count }) else s
    if others &&& (255 - conf) ≠ 0 then s1
    else if set.testBit 2 ∧ ¬ eff.testBit 2 then
      ((s1.updEnter .sccPending).setUpd (fun u => { u with window := none })).journal 0 0 0
    else if set &&& (255 - conf) ≠ 0 then s1
    else
      let s2 := (((s1.updEnter .confirmed).setUpd (fun u => { u with window := none, hands := [] })).flag P.UPD 4).raiseMin
      (s2.journal 0 0 0).updDone

/-- Parts take effect and, for engines, are confirmed with that (20 R450, R453). -/
def takeEffect (s : State) (set : Nat) (confirm : Bool) : State :=
  let s1 := s.markParts F.UPD_PARTS_EFFECT set
  ((if confirm then s1.markParts F.UPD_PARTS_CONFIRMED set else s1).journal 0 0 0).updAdvance

/-- The commit point (20 R451, R452, R455). -/
def commit (s : State) : State :=
  let set := s.get F.UPD_PARTS_IN_SET
  let engs := set &&& 0xF8
  let s1 := (((s.updEnter .committed).put F.UPD_PARTS_EFFECT 0).put F.UPD_PARTS_CONFIRMED 0).put F.UPD_PARTS_REMAPPED engs
  let s2 := s1.setUpd (fun u => { u with
    copied := 0, starts := 0, copy := none, badCopy := 0, swaps := [], accepted := [], committed := s.count, window := none, fall := none
    hands := (if set.testBit 0 then [Core.apc] else []) ++ (if set.testBit 1 then [Core.ntc] else []) })
  let s3 := (s2.journal 0 0 0).unsuspend.flag P.UPD 1
  let s4 := if set.testBit 0 then s3.flag P.UPD 2 else s3
  let s5 := (if set.testBit 1 then s4.flag P.UPD 3 else s4).updBusy
  if s5.pwr.radioUp ∨ engs = 0 then s5.updAdvance else s5.takeEffect engs true

/-- One sector of a home is programmed from the Flacon image (20 R452). -/
def copySector (s : State) (t off len sector : Nat) : State :=
  let at_ := sectorBase sector - s.dirWord t 0
  let n := min (sectorSize sector) (len - at_)
  (s.eraseSector sector).programBytes (sectorBase sector) (s.bytesAt (0x210000 + off + at_) n)

/-- The part and the sector index that the next step of the home copies concerns. -/
def copyNext (s : State) : Option (Nat × Nat) :=
  match s.upd.copy with
  | some c => some c
  | none => match typesOf s.copyDue with
    | t :: _ => some (t, 0)
    | [] => none

/-- A home copy fails (20 R457): the part stays remapped. -/
def copyFails (s : State) (t : Nat) : State :=
  let s1 := s.setUpd (fun u => { u with copy := none, badCopy := u.badCopy ||| 2 ^ (t - 1) })
  (((s1.put F.UPD_STAT_COPY_FAIL 1).put F.UPD_STAT_RESULT UpdRes.copyFail.code).flag P.UPD 5).updBusy

/-- HOME_COPY_SECTOR's work (20 R452, R457). -/
def homeCopy (s : State) (ok : Bool) : State :=
  match s.copyNext with
  | none => s
  | some (t, k) =>
    match s.stagedPart t, (extentSectors (s.dirWord t 0) (s.dirWord t 1))[k]? with
    | some (off, len), some sec =>
      if s.isRetired (uSector sec) then s.copyFails t
      else
        let s1 := (s.journal t k 0).copySector t off len sec
        if !ok then (s1.setFlash (fun f => { f with undef := f.undef ++ [sec] })).copyFails t
        else if k + 1 < (extentSectors (s.dirWord t 0) (s.dirWord t 1)).length then s1.setUpd (fun u => { u with copy := some (t, k + 1) })
        else
          let s2 := s1.setUpd (fun u => { u with copy := none, copied := u.copied ||| 2 ^ (t - 1) })
          let s3 := s2.put F.UPD_PARTS_REMAPPED (s2.get F.UPD_PARTS_REMAPPED &&& (255 - 2 ^ (t - 1)))
          ((s3.journal 0 0 0).updBusy).updDone
    | _, _ => s.copyFails t

/-- Whether an engine stands at its quiet point (09 R220; 07 R165; 20 R453). -/
def engQuiet (s : State) (e : Nat) : Bool :=
  if e = 0 then !s.timeline.any (fun x => x.state == .dispatched) && 
      !s.timeline.any (fun x => x.state == .armed && notBefore (addTicks (addTicks s.count (usTicks 200)) s.dispatchLead) x.start)
  else if e = 1 then !s.ctxs.any (·.busy) && (s.slices ++ s.lanes).all (fun x => match x.frame with
      | some f => !f.synced || f.badHdr || (if x.copy.macFrames then f.mac.isSome else f.header)
      | none => true)
  else if e < 6 then (s.lanes.getD (e - 2) rxSlot0).stream.isNone && !s.txOnLane (e - 2)
  else if e = 6 then s.radio.cal.isNone && s.radio.tx.isNone && s.get F.RAD_STATE_STATE != 4 && s.radio.tslot.isNone
  else s.hvl.up.kept.isEmpty && s.hvl.dn.kept.isEmpty && s.hvl.waits.isEmpty

/-- The halves of an engine's code RAM swap (02 R38; 20 R453). -/
def swapHalves (s : State) (e : Nat) : State := s.setEngine e (fun x => { x with half := 1 - x.half, img := x.shadow, shadow := x.img })

/-- The newest valid journal record: its place and its bytes (20 R448). -/
def newestRecord (s : State) : Option (Nat × List Byte) :=
  (List.range 2048).foldl (fun best k =>
    let r := s.bytesAt (recordPlace k) 32
    if s.sectorUndef (64 + k / 256) || leAt r 28 4 != crc32 (r.take 28) then best
    else match best with
      | some (_, b) => if leAt b 0 4 < leAt r 0 4 then some (k, r) else best
      | none => some (k, r)) none

/-- The first blank place from `k` on. -/
def blankPlace (s : State) (k : Nat) : Nat :=
  match (List.range 2048).find? (fun i => (s.bytesAt (recordPlace (k + i)) 32).all (· == 0xFF)) with
  | some i => (k + i) % 2048
  | none => k % 2048

/-- Every home copy of a set that is not yet made is completed at a chip start, each sector journalled (20 R452, R456; 19 R438); a retired home
sector leaves the part remapped (20 R457). -/
def completeCopies (s : State) (set : Nat) : State :=
  (typesOf set).foldl (fun t ty =>
    if t.upd.copied.testBit (ty - 1) then t
    else match t.stagedPart ty with
      | none => t
      | some (off, len) =>
        let secs := extentSectors (t.dirWord ty 0) (t.dirWord ty 1)
        if secs.any (fun k => t.isRetired (uSector k)) then (t.markParts F.UPD_PARTS_REMAPPED (2 ^ (ty - 1))).copyFails ty
        else (((List.range secs.length).zip secs).foldl (fun u x => (u.journal ty x.1 0).copySector ty off len x.2) t).setUpd
          (fun u => { u with copied := u.copied ||| 2 ^ (ty - 1) })) s

/-- The base of each previous copy, in ascending type order (20 R445). -/
def prevBase (s : State) : List Nat → Nat → Nat → Nat
  | [], a, _ => a
  | t :: ts, a, want => if t = want then a else prevBase s ts (a + 0x10000 * sectors64 (s.memNat (a + 12) 4 + 176)) want

/-- Parts whose home copy has begun are restored from their previous copies, each sector journalled with the fallback's cause (20 R461): those
copied, the one in progress, and those whose home differs from its previous copy. -/
def restoreCopies (s : State) (set busy cause : Nat) : State :=
  let ts := typesOf set
  ts.foldl (fun t ty =>
    let a := s.prevBase ts 0x300000 ty
    let n := s.memNat (a + 12) 4 + 176
    let bs := s.bytesAt a n
    let home := t.dirWord ty 0
    if t.upd.copied.testBit (ty - 1) || ty == busy || t.bytesAt home n != bs then
      let secs := extentSectors home (t.dirWord ty 1)
      ((List.range secs.length).zip secs).foldl (fun u x =>
        if u.isRetired (uSector x.2) then u
        else ((u.journal ty x.1 cause).eraseSector x.2).programBytes (sectorBase x.2) ((bs.drop (sectorBase x.2 - home)).take (sectorSize x.2))) t
    else t) s

/-- Boot step 5 (19 R434, R438; 20 R461, R462): the journal's state is taken over, and the update goes on as it says. -/
def updBoot (s : State) (cause : Nat) : State :=
  match s.newestRecord with
  | none => (s.put F.UPD_STAT_JOURNAL_LOST 1).setUpd (fun _ => { upd0 with place := 0 })
  | some (k, r) =>
    let st := leAt r 4 1
    let typ := leAt r 5 1
    let set := leAt r 8 1
    let s1 := s.setUpd (fun _ => { upd0 with
      rseq := leAt r 0 4, copied := leAt r 11 1, starts := leAt r 16 1, place := s.blankPlace (k + 1) })
    let s2 := (((s1.put F.UPD_PARTS_IN_SET set).put F.UPD_PARTS_EFFECT (leAt r 9 1)).put F.UPD_PARTS_CONFIRMED (leAt r 10 1))
    let resume (t : State) : State := if typ = 0 then t else t.put F.SYS_BOOT_STAT_RESUMED 1
    let finish (t : State) : State :=
      let t1 := (resume t).completeCopies set
      let t2 := (t1.markParts F.UPD_PARTS_EFFECT set).markParts F.UPD_PARTS_CONFIRMED (set &&& 0xF8)
      let t3 := (t2.updEnter .committed).setUpd (fun u => { u with committed := t2.count, window := some t2.count })
      ((t3.journal 0 0 0).updBusy).updAdvance
    if st = 1 then
      (((s2.put F.UPD_PARTS_IN_SET 0).updEnter .idle).put F.UPD_STAT_RESULT UpdRes.reset.code).journal 0 0 UpdRes.reset.code
    else if st = 2 then s2.updEnter .staged
    else if st = 3 then ((s2.updEnter .staged).put F.UPD_STAT_RESULT UpdRes.reset.code).journal 0 0 UpdRes.reset.code
    else if st = 4 then
      (let s3 := s2.updEnter .committed
       if cause = 4 then s3.fallDue 3
       else
         let s4 := s3.setUpd (fun u => { u with starts := u.starts + 1 })
         if s4.get F.UPD_CFG_MAX_STARTS < s4.upd.starts then s4.fallDue 4 else finish s4)
    else if st = 5 then finish (s2.updEnter .sccPending)
    else if st = 6 then
      (let s3 := (resume (s2.updEnter .confirmed)).completeCopies (if typ = 0 then 0 else 2 ^ (typ - 1))
       ((s3.put F.UPD_PARTS_REMAPPED (set &&& (255 - s3.upd.copied % 256))).updBusy).updDone)
    else if st = 7 then
      (let s3 := (s2.updEnter .fallback).restoreCopies set typ (leAt r 7 1)
       let s4 := ((s3.setReg Reg.UPD_PARTS 0).updEnter .idle).put F.UPD_STAT_CAUSE (leAt r 7 1)
       (s4.put F.UPD_STAT_RESULT UpdRes.fellBack.code).journal 0 0 UpdRes.fellBack.code)
    else s2.updEnter .idle

/-- UPD.WINDOW.LEFT_MS (20 R459, R463). -/
def windowLeft (s : State) : Nat :=
  match s.upd.window with
  | none => 0
  | some t =>
    let len := max 1 (s.get F.UPD_CFG_CONFIRM_WINDOW) * 8388608
    let gone := (s.count + 2 ^ 48 - t) % 2 ^ 48
    (len - gone) * 1000 / 8388608

/-- `n` seconds after `t` have passed. -/
def elapsed (s : State) (t ticks : Nat) : Bool := notBefore s.count (addTicks t ticks)

/-- A write of 0xC0DE to UPD.CONFIRM by a core (20 R459). -/
def updConfirm (s : State) (i : Initiator) (w : Nat) : State :=
  let bit := match i with | .apc => 1 | .ntc => 2 | .scc => 4 | _ => 0
  if s.enabled P.UPD ∧ bitsOf w 16 16 = 0xC0DE ∧ s.updSt = 4 ∧ s.get F.UPD_PARTS_IN_SET &&& bit ≠ 0 ∧
      s.get F.UPD_PARTS_EFFECT &&& bit ≠ 0 ∧ s.get F.UPD_PARTS_CONFIRMED &&& bit = 0 then
    ((s.markParts F.UPD_PARTS_CONFIRMED bit).journal 0 0 0).updAdvance
  else s

end State

/-- A read of the UPD page. -/
def updRead (s : State) (off : Nat) (raw : Word) : Word := if off = 0x120 then BitVec.ofNat 32 (s.windowLeft) else raw

open State

/-- STAGE_DONE (20 R445, R447): staging ends with a STAGED record, or with the first failing RESULT. -/
def execStageDone (s : State) : Host.Outcome State Fault Refusal := .next (if s.updSt = 1 then s.stageEnd else s)

/-- COMMIT_SUSPEND (20 R451): at AT − 100 µs the unit suspends a ring operation, unless software has. -/
def execCommitSuspend (s : State) : Host.Outcome State Fault Refusal :=
  .next (
    if s.updSt = 3 ∧ s.flash.op.isSome ∧ ¬ s.flash.wantSw ∧ ¬ s.on F.FLC_STAT_SW_SUSP ∧ notBefore s.count (subTicks s.updAt (usTicks 100)) then
      (s.setUpd (fun u => { u with held := true })).flcCtrl 1
    else s)

/-- COMMIT_POINT (20 R451, R458): the COMMITTED record is programmed at AT, or at the next wake where the device is in Sleep then. A slave
prepared by its master that is not joined then goes back to STAGED. -/
def execCommitPoint (s : State) : Host.Outcome State Fault Refusal :=
  .next (
    if s.updSt ≠ 3 ∨ s.pwr.state ≠ .active ∨ !notBefore s.count s.updAt then s
    else if s.upd.byMaster && !s.hvlSlave then
      (((s.unsuspend.updEnter .staged).updBusy).journal 0 0 UpdRes.cascadeMiss.code).updEnd .cascadeMiss
    else s.commit)

/-- HOME_COPY_SECTOR (20 R452, R457): one sector of a remapped part is copied to its home; `ok` is false where its readback mismatches twice. -/
def execHomeCopySector (ok : Bool) (s : State) : Host.Outcome State Fault Refusal :=
  .next (if 4 ≤ s.updSt ∧ s.updSt ≤ 6 ∧ s.upd.fall.isNone then s.homeCopy ok else s)

/-- ENGINE_CHANGEOVER (20 R453): an engine of the set at its quiet point writes its handover block, and its halves swap. -/
def execEngineChangeover (e : Engine) (block : List Byte) (s : State) : Host.Outcome State Fault Refusal :=
  .next (
    let n := engIx e
    if s.updSt = 4 ∧ s.upd.fall.isNone ∧ s.pwr.radioUp ∧ engPresent s.variant n ∧ s.engRuns n ∧
        (s.get F.UPD_PARTS_IN_SET).testBit (engineType n - 1) ∧ ¬ (s.get F.UPD_PARTS_EFFECT).testBit (engineType n - 1) ∧
        ¬ s.upd.accepted.contains n ∧ ¬ s.upd.swaps.contains n ∧ s.engQuiet n then
      ((s.swapHalves n).setEngine n (fun x => { x with block := block.take 256 })).setUpd (fun u => { u with swaps := u.swaps ++ [n] })
    else s)

/-- ENGINE_ACCEPT (20 R453, R454): the new code accepts, or the halves swap back and the set falls back with cause HANDOVER. -/
def execEngineAccept (e : Engine) (ok : Bool) (s : State) : Host.Outcome State Fault Refusal :=
  .next (
    let n := engIx e
    if !s.upd.swaps.contains n then s
    else
      let s1 := s.setUpd (fun u => { u with swaps := u.swaps.filter (· != n) })
      if !ok then (s1.swapHalves n).fallDue 2
      else
        let s2 := s1.setUpd (fun u => { u with accepted := u.accepted ++ [n] })
        let ty := engineType n
        if (typeEngines s2.variant ty).all s2.upd.accepted.contains then s2.takeEffect (2 ^ (ty - 1)) true else s2)

/-- QUIET_LIMIT (20 R454): a part other than the SCC's has not taken effect in time. -/
def execQuietLimit (s : State) : Host.Outcome State Fault Refusal :=
  .next (
    if s.updSt = 4 ∧ s.get F.UPD_PARTS_IN_SET &&& 0xFB &&& (255 - s.get F.UPD_PARTS_EFFECT) ≠ 0 ∧
        s.elapsed s.upd.committed (max 1 (s.get F.UPD_CFG_QUIET_LIMIT) * 8388608) then s.fallDue 6
    else s)

/-- CONFIRM_WINDOW (20 R459, R460): the window expires with a part unconfirmed. -/
def execConfirmWindow (s : State) : Host.Outcome State Fault Refusal :=
  .next (match s.upd.window with
    | some t =>
      if s.updSt = 4 ∧ s.elapsed t (max 1 (s.get F.UPD_CFG_CONFIRM_WINDOW) * 8388608) then s.fallDue 1 else s
    | none => s)

/-- FALLBACK (20 R461): the unit writes a FALLBACK record with the cause and requests an UPDATE_FALLBACK reset. -/
def execFallback (s : State) : Host.Outcome State Fault Refusal :=
  .next (match s.upd.fall with
    | some c =>
      if s.updSt = 4 ∨ s.updSt = 5 then
        (let busy := match s.upd.copy with | some (t, _) => t | none => 0
         let s1 := ((s.updEnter .fallback).put F.UPD_STAT_CAUSE c).setUpd (fun u => { u with fall := none, window := none })
         ((s1.updBusy).journal busy 0 c).askReset 6)
      else s
    | none => s)

/-- COMMIT_AT (20 R458): a slave named in MASK acts on the phase. -/
def execCommitAt (p : Packet) (s : State) : Host.Outcome State Fault Refusal :=
  .next (s.arrive ptCommitAt p (fun t =>
    let phase := leAt p.payload 0 1
    let mask := leAt p.payload 1 1
    let at_ := leAt p.payload 2 6
    if !t.enabled P.UPD || t.hvlPos == 0 || !mask.testBit t.hvlPos then t
    else if phase = 0 then
      (if t.updSt = 2 ∧ toNats (p.payload.drop 8) = (mfDigest t.manifestNow).take 8 ∧ notBefore at_ (addTicks t.count (usTicks 1000)) then
        (((t.put F.UPD_AT_LO_AT_LO at_).put F.UPD_AT_HI_AT_HI (at_ / 2 ^ 32)).prepare true)
       else ((t.updEnd .cascadeMiss).put F.HVL_CFG_EN 0).hvlUpdate)
    else if phase = 1 then (if t.updSt = 4 ∨ t.updSt = 5 then t.fallDue 5 else t)
    else if phase = 2 ∧ t.updSt = 3 then ((t.unsuspend.updEnter .staged).updBusy).journal 0 0 0
    else t))

end Sys2Proof.Machine
end

