-- ==== Sys2Proof/Machine/Boot.lean ====
section
/-! DEFINITION. Start-up and reset (chapter 19): the chip resets and what each keeps, domain restarts, the boot ROM's sequence, the release of
the cores, the loading of the engines, and the handover of a core under an update (20 R455). -/

namespace Sys2Proof.Machine

/-- The image types of the cores that the boot ROM releases, and the type of the SCC (12 R316). -/
def bootTypes (v : Variant) : List Nat := (List.range 9).filter (typePresent v)

/-- A copy of the retirement record is valid (21 R471). -/
def copyValid (bs : List Byte) : Bool := leAt bs 0 4 == 0x5A4E5252 && leAt bs 60 4 == crc32 (bs.take 60)

/-- The three bit sets of a record: UNITS, FLASH, SRAM (21 R471). -/
def recordSets (bs : List Byte) : Nat × Nat × Nat := (leAt bs 8 4, leAt bs 16 16, leAt bs 32 8)

/-- The record that boot step 4 chooses of the valid copies, and DISAGREE (21 R473): the copy of the highest SEQ, or the bitwise OR of copies
with equal highest SEQ that differ. -/
def chooseRecord (copies : List (List Byte)) : Option (Nat × Nat × Nat × Nat) × Bool :=
  match copies with
  | [] => (none, false)
  | _ =>
    let top := copies.foldl (fun m c => max m (leAt c 4 4)) 0
    let best := copies.filter (fun c => leAt c 4 4 == top)
    let sets := best.foldl (fun (a : Nat × Nat × Nat) c =>
      match recordSets c with | (u, f, m) => (a.1 ||| u, a.2.1 ||| f, a.2.2 ||| m)) (0, 0, 0)
    (some (top, sets.1, sets.2.1, sets.2.2), best.any (fun c => recordSets c != sets))

namespace State

/-- A PROGRAM or ERASE is active or suspended, for which a reset waits (14 R356). -/
def flashHolds (s : State) : Bool :=
  match s.flash.op with
  | some o => o.result.isNone && (o.op == 1 || o.op == 2)
  | none => false

/-- POR and BOR stop a flash operation without a safe point: its sector's contents are undefined (14 R356). -/
def flashStopped (s : State) : State :=
  match s.flash.op with
  | some o =>
    if s.flashHolds && !s.sectorUndef (sectorOf o.addr) then s.setFlash (fun f => { f with undef := f.undef ++ [sectorOf o.addr] }) else s
  | none => s

/-- A chip reset with its cause and the position strap as it is read again (19 R431 to R433): the boot ROM is to start. -/
def chipReset (s : State) (cause pos : Nat) : State :=
  let notes := decide (3 ≤ cause)
  let s1 := (if notes then s else s.flashStopped).chipState notes
  let s2 := if notes then (s1.put F.SYS_RST_CAUSE_LAST cause).put F.SYS_RST_CAUSE_HISTORY (s1.get F.SYS_RST_CAUSE_HISTORY ||| 2 ^ (cause - 1))
    else s1.setReg Reg.SYS_RST_CAUSE (if cause = 1 then 0x101 else 0x202)
  let s3 : State := { s2 with boot := { s2.boot with cause := cause, strap := pos % 8 } }
  ((s3.setStrap pos).showUid).showScope

/-- A chip reset other than POR and BOR: it waits while a flash operation must reach its safe point (14 R356). -/
def chipResetOrWait (s : State) (cause pos : Nat) : State :=
  if s.flashHolds then (let t := s.askReset cause
                        { t with boot := { t.boot with strap := pos % 8 } })
  else s.chipReset cause pos

/-- PWR.DOM's bit of a core's domain, its count of restarts, its image type's bit in the update unit's sets. -/
def domField (k : Core) : Field := if k = .apc then F.PWR_DOM_APC_PWR else F.PWR_DOM_NTC_PWR
def drField (k : Core) : Field := if k = .apc then F.SYS_RST_CAUSE_DR_APC else F.SYS_RST_CAUSE_DR_NTC
def coreBit (k : Core) : Nat := 2 ^ (coreType k - 1)

/-- The core's hart is not halted once its domain has been off. -/
def unhalt (s : State) (k : Core) : State := if k = .scc then s else s.put (hartField (if k = .apc then 0 else 1)) 0

/-- A restart of a core's domain (19 R442): it is isolated and switched off; its claims, mailbox channels and cache are cleared; a part of a
committed update is remapped (20 R455). A request while a restart of the core is pending is merged into it. -/
def domainRestart (s : State) (k : Core) : State :=
  if k = .scc ∨ s.boot.restarts.contains k then s
  else
    let s1 : State := { s with
      cores := { s.cores with
        released := s.cores.released.filter (· != k), user := s.cores.user.filter (· != k), pmp := s.cores.pmp.filter (fun e => e.core != k) }
      stalled := s.stalled.filter (fun x => x.req.ini != iniOf k)
      boot := { s.boot with restarts := s.boot.restarts ++ [k] } }
    let s2 := (((s1.icuRestart k).unhalt k).put (domField k) 0).countSat (drField k)
    let s3 := s2.setUpd (fun u => { u with hands := u.hands.filter (· != k) })
    if s3.updSt = 4 ∧ s3.upd.fall.isNone ∧ s3.get F.UPD_PARTS_IN_SET &&& coreBit k ≠ 0 ∧ s3.get F.UPD_PARTS_EFFECT &&& coreBit k = 0 then
      (s3.markParts F.UPD_PARTS_REMAPPED (coreBit k)).updBusy
    else s3

/-- A write to SYS.RESET_CTRL (19 R443): the key, then CHIP before the domain restarts. -/
def resetCtrl (s : State) (w : Nat) : State :=
  if !s.enabled P.SYS then s
  else if bitsOf w 16 16 ≠ 0xA55A then s.flag P.SYS 0
  else if w.testBit 0 then s.chipResetOrWait 5 s.hvl.strap
  else
    let s1 := if w.testBit 1 then s.domainRestart .apc else s
    if w.testBit 2 then s1.domainRestart .ntc else s1

/-- Boot step 3 (14 R357): an interrupted operation in the Flacon has its sector erased again; FLC.ILOG shows it, and ILOG is set. -/
def bootIlog (s : State) : State :=
  if !s.on F.FLC_ILOG_VALID then s
  else
    let n := 64 * s.get F.FLC_ILOG_BANK + s.get F.FLC_ILOG_SECTOR
    let again := decide (72 ≤ n) && decide (n < 87)
    (((if again then s.eraseSector n else s).put F.FLC_ILOG_REERASED (boolNat again))).raiseFlag P.FLC 3

/-- The valid copies of the retirement record: bank 0 parameter sectors 5 to 7, by 0 to 2. -/
def validCopies (s : State) : List Nat :=
  (List.range 3).filter (fun k => !s.sectorUndef (5 + k) && copyValid (s.bytesAt (sectorBase (5 + k)) 64))

/-- Boot step 4 (21 R473): the units of the record are retired, an SRAM bank with immediate effect (21 R470). -/
def bootRecord (s : State) : State :=
  let valid := s.validCopies
  let copies := valid.map (fun k => s.bytesAt (sectorBase (5 + k)) 64)
  let s1 := s.put F.FLT_STAT_COPY_VALID (valid.foldl (fun a k => a + 2 ^ k) 0)
  match chooseRecord copies with
  | (none, _) => { (s1.put F.FLT_STAT_RECORD_LOST 1).raiseFlag P.FLT 6 with boot := { s1.boot with rewrite := true } }
  | (some (seq, units, flash, sram), dis) =>
    let live := liveUnits.filter (fun u => unitPresent s.variant u)
    let s2 := live.foldl (fun t u => match u / 256 with
      | 1 => t.putBit F.FLT_RET_UNITS_SLICES (u % 256) (units.testBit (F.FLT_RET_UNITS_SLICES.lo + u % 256))
      | 2 => t.putBit F.FLT_RET_UNITS_LANES (u % 256) (units.testBit (F.FLT_RET_UNITS_LANES.lo + u % 256))
      | 3 => t.putBit F.FLT_RET_UNITS_TX (u % 256) (units.testBit (F.FLT_RET_UNITS_TX.lo + u % 256))
      | _ => t.putBit F.FLT_RET_UNITS_HVL (u % 256) (units.testBit (F.FLT_RET_UNITS_HVL.lo + u % 256))) s1
    let s3 := ((List.range 128).filter (fun k => flash.testBit k && unitPresent s.variant (0x0500 + k))).foldl
      (fun t k => t.putRegBit (Reg.FLT_RET_FLASH (k / 32)) (k % 32) true) s2
    let s4 := ((List.range 64).filter (fun k => sram.testBit k && unitPresent s.variant (0x0600 + k))).foldl
      (fun t k => t.putRegBit (Reg.FLT_RET_SRAM (k / 32)) (k % 32) true) s3
    let differs := decide (copies.length < 3) || copies.any (fun c => leAt c 4 4 != seq || recordSets c != (units, flash, sram))
    let s5 := (s4.put F.FLT_STAT_SEQ seq).put F.FLT_STAT_DISAGREE (boolNat dis)
    let s6 : State := { s5 with flt := { s5.flt with seq := seq }, boot := { s5.boot with rewrite := differs } }
    if dis then s6.raiseFlag P.FLT 5 else s6

/-- An image has failed its check (19 R439). -/
def imgFail (s : State) (t : Nat) : State := s.put F.SYS_BOOT_STAT_IMG_FAIL (s.get F.SYS_BOOT_STAT_IMG_FAIL ||| 2 ^ (t - 1))

/-- Boot step 6 (19 R435 to R437, R439): the directory, and the images that it gives for the types with a target; the payloads of the cores'
images only. With the boot seal unchanged after a start other than POR and BOR, the fast path is taken. -/
def bootImages (s : State) : State :=
  match s.viewBytes 0x10000 144 with
  | (d, s1) =>
    let ts := bootTypes s.variant
    if !dirValid d then
      (let s2 := ts.foldl imgFail s1
       { s2 with boot := { s2.boot with full := true, passed := [] } })
    else
      match s1.sealOf with
      | (sl, s2) =>
        let fast := !(s2.boot.cause == 1 || s2.boot.cause == 2) && s2.boot.bootSeal == some sl
        let s3 : State := { s2.put F.SYS_BOOT_STAT_FAST (boolNat fast) with boot := { s2.boot with full := !fast, passed := [] } }
        (ts.filter (dirPresent d)).foldl (fun t ty =>
          match t.checkHome ty (!fast) (decide (ty ≤ 3)) with
          | (true, u) => { u with boot := { u.boot with passed := u.boot.passed ++ [ty] } }
          | (false, u) => u.imgFail ty) s3

/-- Where no SCC image passes, the SCC stays in its boot ROM, and a failed APC or NTC image then opens the host port (19 R439). -/
def bootScc (s : State) : State :=
  if s.boot.passed.contains 3 then s
  else
    let s1 := s.put F.SYS_BOOT_STAT_SCC_ROM 1
    if s1.get F.SYS_BOOT_STAT_IMG_FAIL &&& 3 ≠ 0 then s1.put (F.PAGE_CTRL_ENABLE P.HSP) 1 else s1

/-- Boot steps 1 to 6 (19 R434): the three OTP trim copies `a`, `b` and `c` as they are read give the trims by bitwise majority. -/
def bootSteps (s : State) (a b c : Nat) : State :=
  let s1 : State := { s with boot := { s.boot with
    started := true, done := false, passed := [], rewrite := false, trim := (a &&& b) ||| (a &&& c) ||| (b &&& c) } }
  let s2 := (s1.setReg Reg.SYS_BOOT_STAT 0).put F.SYS_BOOT_STAT_TRIM_FIX (boolNat (!(a == b && b == c)))
  let s3 := (s2.clearRange 0x30100000 0x4000).clearRange 0x30200000 0x10000
  let s4 : State := { s3 with sec := { s3.sec with attrs := [] } }
  (((((s4.bootIlog).bootRecord).updBoot s4.boot.cause).bootImages).bootScc)

/-- A core is released at its first payload byte (19 R434, R442); a part of a committed update that it carries has then taken effect (20 R455). -/
def releaseCore (s : State) (k : Core) : State :=
  let s1 : State := { s with
    cores := { s.cores with released := s.cores.released.filter (· != k) ++ [k] }
    boot := { s.boot with restarts := s.boot.restarts.filter (· != k) } }
  let s2 := s1.put (domField k) 1
  if s2.updSt = 4 ∧ s2.upd.fall.isNone ∧ s2.get F.UPD_PARTS_IN_SET &&& coreBit k ≠ 0 ∧ s2.get F.UPD_PARTS_EFFECT &&& coreBit k = 0 ∧
      (s2.get F.UPD_PARTS_REMAPPED ||| s2.upd.copied) &&& coreBit k ≠ 0 then
    s2.takeEffect (coreBit k) false
  else s2

/-- A pending restart of a core ends: its image is checked on the fast path, in full where no boot seal is held (19 R440, R442). -/
def restartEnd (s : State) (k : Core) : State :=
  match s.checkHome (coreType k) s.boot.bootSeal.isNone true with
  | (true, s1) => s1.releaseCore k
  | (false, s1) => { s1.imgFail (coreType k) with boot := { s1.boot with restarts := s1.boot.restarts.filter (· != k) } }

/-- A core whose release boot step 7 still owes. -/
def bootOwes (s : State) (k : Core) : Bool :=
  s.boot.passed.contains (coreType k) && !s.cores.released.contains k && !s.boot.restarts.contains k

/-- The engines that load with engine `e`: all lanes that do not run yet load the one lane image (19 R441). -/
def loadGroup (s : State) (e : Nat) : List Nat :=
  (typeEngines s.variant (engineType e)).filter (fun k => !(s.engine k).run && !(s.engine k).failed)

/-- The IDLE command that waits in OFF for engine code ends HW_FAULT (19 R441). -/
def idleFails (s : State) : State :=
  match s.radio.op with
  | some o =>
    if s.get F.RAD_STATE_STATE = 0 ∧ s.on F.RAD_STATE_MOVING then
      (((s.endPlain o.src 6).setRadio (fun r => { r with op := none, hfxoWait := false })).put F.RAD_STATE_MOVING 0).put F.RAD_STATE_TARGET 0
    else s
  | none => s

/-- The SCC checks the image of an engine and loads it into the active half, or leaves the engine in reset (19 R441). While an update is
PREPARED the staged image follows into the shadow half; after the commit point the engine's part is loaded through the remap, and has taken
effect with that (20 R450, R452). -/
def loadEngines (s : State) (e : Nat) : State :=
  let t := engineType e
  let grp := s.loadGroup e
  match s.checkHome t s.boot.bootSeal.isNone true with
  | (true, s1) =>
    let s2 := grp.foldl (fun u k => match u.loadCode k (u.engine k).half (u.dirWord t 0) with
      | (d, v) => v.setEngine k (fun x => { x with run := true, img := d })) s1
    let s3 := if e = 7 then s2.hvlUpdate else s2
    if s3.updSt = 3 ∧ (s3.get F.UPD_PARTS_IN_SET).testBit (t - 1) then grp.foldl (fun u k => u.loadShadow t k) s3
    else if s3.updSt = 4 ∧ s3.upd.fall.isNone ∧ ((s3.get F.UPD_PARTS_REMAPPED ||| s3.upd.copied).testBit (t - 1)) ∧
        ¬ (s3.get F.UPD_PARTS_EFFECT).testBit (t - 1) then s3.takeEffect (2 ^ (t - 1)) true
    else s3
  | (false, s1) =>
    let s2 := (grp.foldl (fun u k => u.setEngine k (fun x => { x with failed := true })) s1).imgFail t
    if e = 0 ∨ e = 1 ∨ e = 6 then s2.idleFails else s2

/-- A write to UPD.HANDOVER (20 R455): the core whose handover is awaited is restarted. -/
def handoverWrite (s : State) (i : Initiator) (w : Nat) : State :=
  match coreOf i with
  | some k =>
    if s.enabled P.UPD ∧ bitsOf w 16 16 = 0xC0DE ∧ s.updSt = 4 ∧ s.upd.hands.contains k then s.domainRestart k else s
  | none => s

end State

open State

/-- POR (19 R431): nothing but flash and OTP survives; REG_SEL is read (18 R425). -/
def execPor (regSel : Bool) (pos : Nat) (s : State) : Host.Outcome State Fault Refusal :=
  .next ((s.chipReset 1 pos).put F.PWR_CFG_EXT_REG (boolNat regSel))

/-- BOR (19 R430, R431): as POR; the monitor is off in Standby and Dormant. -/
def execBor (regSel : Bool) (pos : Nat) (s : State) : Host.Outcome State Fault Refusal :=
  .next (if s.systemOn then (s.chipReset 2 pos).put F.PWR_CFG_EXT_REG (boolNat regSel) else s)

/-- PIN (19 R431, R432): after the safe point of a flash operation. -/
def execPin (pos : Nat) (s : State) : Host.Outcome State Fault Refusal := .next (s.chipResetOrWait 3 pos)

/-- WDT (08 R216; 19 R432): the reset that the watchdog has asked for. -/
def execWdt (pos : Nat) (s : State) : Host.Outcome State Fault Refusal :=
  .next (if s.resetReq = some 4 then s.chipResetOrWait 4 pos else s)

/-- UPDATE_FALLBACK (19 R431; 20 R461): the reset that the update unit has asked for. -/
def execUpdateFallback (pos : Nat) (s : State) : Host.Outcome State Fault Refusal :=
  .next (if s.resetReq = some 6 then s.chipResetOrWait 6 pos else s)

/-- FLASH_SAFE_POINT_RESET (14 R356): after `units` further units the operation is at its safe point; it is logged, and the reset that waits
is made. -/
def execFlashSafePointReset (units : Nat) (s : State) : Host.Outcome State Fault Refusal :=
  .next (match s.resetReq with
    | some c => if s.flashHolds || c == 3 || c == 5 then (s.flcInterrupt units).chipReset c s.boot.strap else s
    | none => s)

/-- BOOT_START (19 R434): steps 1 to 6 of the boot ROM after a chip start or a wake from Standby or Dormant. -/
def execBootStart (trims : TrimCopies) (s : State) : Host.Outcome State Fault Refusal :=
  .next (if !s.boot.started && s.pwr.state == .active && s.pwr.rrp == .none && s.resetReq.isNone then s.bootSteps trims.a trims.b trims.c else s)

/-- CORE_RELEASE (19 R434, R442): a restarted core is released when its image has passed; at a start the APC, then the NTC. -/
def execCoreRelease (core : Core) (s : State) : Host.Outcome State Fault Refusal :=
  .next (if core = .scc then s
    else if s.boot.restarts.contains core then s.restartEnd core
    else if s.boot.started && !s.boot.done && s.upd.fall.isNone && s.bootOwes core && !(core == .ntc && s.bootOwes .apc) then s.releaseCore core
    else s)

/-- BOOT_DONE (19 R434): the boot seal, DONE and BOOT_DONE; the rewrite of the retirement record that step 4 asked for (21 R473). -/
def execBootDone (s : State) : Host.Outcome State Fault Refusal :=
  .next (if s.boot.started && !s.boot.done && !s.bootOwes .apc && !s.bootOwes .ntc then
      (match s.sealOf with
       | (sl, s1) =>
         let s2 : State := { s1 with boot := { s1.boot with bootSeal := some sl, done := true } }
         let s3 := (s2.put F.SYS_BOOT_STAT_DONE 1).flag P.SYS 1
         if s3.boot.rewrite then ({ s3 with boot := { s3.boot with rewrite := false } } : State).askRewrite else s3)
    else s)

/-- ENGINE_CODE_LOAD (19 R441). -/
def execEngineCodeLoad (e : Engine) (s : State) : Host.Outcome State Fault Refusal :=
  .next (if s.pwr.radioUp && (s.loadGroup (engIx e)).contains (engIx e) then s.loadEngines (engIx e) else s)

/-- ENG_READY (19 R441): every engine of the variant has been loaded. -/
def execEngReady (s : State) : Host.Outcome State Fault Refusal :=
  .next (if s.pwr.radioUp && (List.range 8).all (fun e => !engPresent s.variant e || (s.engine e).run) then s.put F.SYS_BOOT_STAT_ENG_READY 1 else s)

/-- HANDOVER_WAIT (20 R455): the unit restarts a core that has not handed over in time. -/
def execHandoverWait (core : Core) (s : State) : Host.Outcome State Fault Refusal :=
  .next (
    if s.updSt = 4 ∧ s.upd.hands.contains core ∧ s.elapsed s.upd.committed (max 1 (s.get F.UPD_CFG_HANDOVER_WAIT) * 10 * 8388608 / 1000) then
      (s.put F.UPD_STAT_FORCED 1).domainRestart core
    else s)

end Sys2Proof.Machine
end

