-- ==== Sys2Proof/Machine/Pages.lean ====
section
/-! DEFINITION. The register pages (02 R36, R37, R41, R50 to R57): what a read of a register returns, what a write does, soft resets, locks and
seals. The block of each page says beside its own registers what they start; here they are brought together. -/

namespace Sys2Proof.Machine

/-- PAGE_ID of a page (02 R37, R50). -/
def pageId (p : Nat) : Nat :=
  if 6 ≤ p ∧ p < 10 then 0xE0060001 + 0x100 * (p - 6)
  else if 0xF ≤ p ∧ p < 0x13 then 0xE00F0001 + 0x100 * (p - 0xF)
  else 0xE0000001 + 0x10000 * p

/-- PAGE_CAPS of a page in a variant (00 R6 and the chapters' own). -/
def pageCaps (v : Variant) (p : Nat) : Nat :=
  match p with
  | 0x01 => 0x43
  | 0x03 => 7
  | 0x04 => 8
  | 0x05 => 8
  | 0x06 => 4 | 0x07 => 4 | 0x08 => 4 | 0x09 => 4
  | 0x0A => 2
  | 0x0C => 0x2020
  | 0x0D => pinsPresent v
  | 0x0E => 1
  | 0x0F => 0x1A03
  | 0x10 => 0x1800 | 0x11 => 0x1800 | 0x12 => 0x1800
  | 0x13 => 0x201F82
  | 0x14 => 0xF
  | 0x15 => 0x1000
  | 0x16 => 7
  | 0x17 => if v = .znl7210 then 6 else 7
  | 0x18 => 3
  | 0x1A => nSlices v
  | 0x1B => nSlices v
  | 0x1C => 0x18 + nLanes v
  | 0x1D => 7
  | 0x1E => 0x4480
  | 0x1F => 0x200
  | 0x20 => 0x400 + entriesLog2 v
  | 0x21 => 2
  | 0x22 => 0x10
  | 0x23 => 3
  | 0x24 => recKib v
  | 0x25 => if v = .znl7240 then 0xFF else 0x7F
  | 0x26 => 0x780
  | 0x27 => 2
  | 0x28 => 7
  | _ => 0

/-- A masked store (00 R13): bits of `rw` take the written value, bits of `w1c` that are written 1 clear. -/
def maskStore (old w : Word) (rw w1c : Nat) : Word :=
  ((old &&& ~~~(BitVec.ofNat 32 rw)) ||| (w &&& BitVec.ofNat 32 rw)) &&& ~~~(w &&& BitVec.ofNat 32 w1c)

namespace State

/-- A block register of an instance that the variant does not have, or of a pin without GPIO function (00 R8; 23 R510, R512). -/
def instAbsent (s : State) (p off : Nat) : Bool :=
  if p = P.NBD ∨ p = P.CHN then decide (0x140 ≤ off) && decide (off < 0x180) && decide (nSlices s.variant ≤ (off - 0x140) / 4)
  else if p = P.OFD then decide (0x140 ≤ off) && decide (off < 0x150) && decide (nLanes s.variant ≤ (off - 0x140) / 4)
  else if p = P.GPIO then
    decide (0x140 ≤ off) && decide (off < 0x1C0) &&
      (!(pinsPresent s.variant).testBit ((off - 0x140) / 4) || (decide (30 ≤ (off - 0x140) / 4) && s.on F.PWR_CFG_EXT_REG))
  else false

/-- PAGE_STAT.STATE as it reads: some pages derive it from their state. -/
def pageState (s : State) (p : Nat) : Nat :=
  if p = P.LNK then (if s.hvlSlave then 2 else boolNat s.lnkRuns)
  else if p = P.FRM then boolNat (s.enabled P.FRM)
  else if p = P.HSP then (if !s.enabled P.HSP then 0 else if s.hsp.isOpen then 2 else 1)
  else if p = P.RAD then s.get F.RAD_STATE_STATE
  else s.pageSt p

/-- PAGE_STAT.BUSY: an operation or a soft reset in progress (02 R52; log entry 52). -/
def pageBusy (s : State) (p : Nat) : Bool :=
  (s.page p).resetting ||
    (if p = P.HSP then s.hsp.isOpen
     else if p = P.RTX then decide (2 ≤ s.pageSt p)
     else if p = P.RFE then [1, 3, 4].contains (s.pageSt p)
     else if p = P.RAD then s.radio.op.isSome || s.on F.RAD_STATE_MOVING
     else if p = P.REC then [1, 2, 4].contains (s.pageSt p)
     else if p = P.UPD then s.on F.UPD_STAT_BUSY
     else [P.PWR, P.CLK, P.RRP, P.TMR 0, P.TMR 1, P.TMR 2, P.TMR 3, P.SPT 0, P.SPT 1, P.SPT 2, P.SPT 3, P.FLC, P.SEC, P.KST, P.NBT, P.FLT,
           P.BST, P.TSN].contains p && s.pageSt p != 0)

/-- PAGE_STAT as it reads (02 R52): SEAL_DIRTY, LOCKED, STATE, UNDER_TEST, READY, BUSY; RETIRED belongs to units inside pages (00 R10). Only LNK's
chapter sets READY (09 R238; log entry 52). -/
def pageStat (s : State) (p : Nat) : Word :=
  let ready := s.on (F.PAGE_STAT_READY p)
  BitVec.ofNat 32 (0x200 * s.get (F.PAGE_STAT_SEAL_DIRTY p) + 0x100 * boolNat (s.locked p) + 0x10 * (s.pageState p % 16) +
    8 * s.get (F.PAGE_STAT_UNDER_TEST p) + 2 * boolNat ready + boolNat (s.pageBusy p))

/-- A read of a header register of a present page (02 R50). The access itself wakes a gated clock (02 R42), so CLK_ON and PWR_ON read 1. -/
def headerRead (s : State) (p off : Nat) : Word :=
  match off with
  | 0x00 => BitVec.ofNat 32 (pageId p)
  | 0x04 => BitVec.ofNat 32 (pageCaps s.variant p)
  | 0x0C => s.pageStat p
  | 0x18 => s.irqPend p
  | 0x1C => 0
  | 0x2C => s.reg (Reg.PAGE_PWR_REQ p) ||| 0x30000
  | _ => match rowOf p off with
    | some _ => s.reg (pageAddr p off)
    | none => 0

/-- What the register file holds at a block register, the initiator's own copy where there is one per initiator (02 R48, R53). -/
def regRaw (s : State) (i : Initiator) (p off : Nat) : Word :=
  match rowOf p off with
  | some r => if r.per then s.regI i (pageAddr p off) else s.reg (pageAddr p off)
  | none => 0

/-- STATE and DESC of a slice or lane register (06 R163; 07 R193). -/
def unitReg (s : State) (u : RxUnit) (raw : Word) : Word :=
  let x := s.slot u
  let sending := match u, s.radio.tx with | .lane n, some t => t.lane == some n && s.txSending | _, _ => false
  let st := match x.desc, x.frame with
    | none, _ => 0
    | some _, some f => if s.on F.RAD_STATE_BLANK then 5 else if f.header then 4 else if f.synced then 3 else 2
    | some _, none => if s.on F.RAD_STATE_BLANK then 5 else 1
  BitVec.ofNat 32 (putBits (putBits raw.toNat 8 6 (x.desc.getD 0)) 0 3 (if sending then 6 else st))

/-- The working copies in use, by descriptor (06 R146, R162). -/
def inUse (s : State) : Nat :=
  (List.range 64).foldl (fun a d => if (s.slices ++ s.lanes).any (fun x => x.desc == some d) then a + 2 ^ d else a) 0

/-- CHN.STREAMn (06 R162): which unit and descriptor a stream feeds. -/
def streamReg (s : State) (n : Nat) : Nat :=
  let val (lane k : Nat) (x : RxSlot) : Nat :=
    x.copy.streamRate * 2 ^ 16 + 2 ^ 15 + lane * 2 ^ 14 + k * 2 ^ 8 + x.desc.getD 0
  match (List.range s.slices.length).find? (fun k => (s.slices.getD k rxSlot0).stream == some n) with
  | some k => val 0 k (s.slices.getD k rxSlot0)
  | none => match (List.range s.lanes.length).find? (fun k => (s.lanes.getD k rxSlot0).stream == some n) with
    | some k => val 1 k (s.lanes.getD k rxSlot0)
    | none => 0

/-- FEC.ACTIVE (07 R194): streams in a coded mode, and the decoder's segments that wait. -/
def fecActive (s : State) : Nat :=
  ((s.slices ++ s.lanes).filter (fun x => x.stream.isSome && x.copy.coded)).length * 2 ^ 16 +
    (s.shared.filter (fun r => r.unit == .decoder)).length % 32

/-- TMB.ALARM_STAT (08 R204). -/
def alarmStat (s : State) : Nat :=
  (List.range 8).foldl (fun a n =>
    let x := s.alarm n
    a + boolNat x.armed * 2 ^ n + boolNat x.pend.isSome * 2 ^ (8 + n) + boolNat x.late * 2 ^ (16 + n)) 0

/-- A read of a block register, given what the register file holds: the value and the state after it, for a read may take an item or latch a
snapshot (02 R48, R52). -/
def blockRead (s : State) (i : Initiator) (p off : Nat) (raw : Word) : Word × State :=
  if p = P.SYS then (if off = 0x100 then BitVec.ofNat 32 (chipId s.variant) else raw, s)
  else if p = P.PWR then (if off = 0x104 then BitVec.ofNat 32 (putBits raw.toNat F.PWR_STAT_WAIT.lo F.PWR_STAT_WAIT.width s.waitBits) else raw, s)
  else if p = P.TMB then
    (if off = 0x100 then (BitVec.ofNat 32 s.count, s.setRegI i Reg.TMB_NOW_HI_SNAP (BitVec.ofNat 32 (s.count / 2 ^ 32)))
     else if off = 0x104 then (BitVec.ofNat 32 (s.count / 2 ^ 32), s)
     else if off = 0x114 then (BitVec.ofNat 32 s.alarmStat, s)
     else (raw, s))
  else if 0xF ≤ p ∧ p < 0x13 then s.sptRead (p - 0xF) off raw
  else if p = P.FLC then s.flcRead i off raw
  else if p = P.SEC then secRead s off raw
  else if p = P.KST then (kstRead s off raw, s)
  else if p = P.RTX then
    (if off = 0x118 then BitVec.ofNat 32 (s.compEntry (s.get F.RTX_COMP_IDX_TABLE) (s.get F.RTX_COMP_IDX_ENTRY)).toNat else raw, s)
  else if p = P.CHN then
    (if off = 0x104 then BitVec.ofNat 32 s.inUse
     else if off = 0x108 then BitVec.ofNat 32 (s.inUse / 2 ^ 32)
     else if 0x140 ≤ off ∧ off < 0x180 then BitVec.ofNat 32 (s.streamReg ((off - 0x140) / 4))
     else raw, s)
  else if p = P.NBD then (if 0x140 ≤ off ∧ off < 0x180 then s.unitReg (.slice ((off - 0x140) / 4)) raw else raw, s)
  else if p = P.OFD then (if 0x140 ≤ off ∧ off < 0x150 then s.unitReg (.lane ((off - 0x140) / 4)) raw else raw, s)
  else if p = P.FEC then (if off = 0x108 then BitVec.ofNat 32 s.fecActive else raw, s)
  else if p = P.LNK then lnkRead s i off raw
  else if p = P.FRM then frmRead s off raw
  else if p = P.NBT then (nbtRegRead s off raw, s)
  else if p = P.HVL then (hvlRead s off raw, s)
  else if p = P.FLT then fltRead s i off raw
  else if p = P.REC then recRead s off raw
  else if p = P.UPD then (updRead s off raw, s)
  else if p = P.ICU then s.icuRead i off raw
  else if p = P.DBG then (if off = 0x104 then BitVec.ofNat 32 (putBits raw.toNat 4 2 s.dbgScope) else raw, s)
  else (raw, s)

/-- A read of a page's register (02 R40 conditions 5 to 7, R41). -/
def pageRead (s : State) (i : Initiator) (p off : Nat) : Word × State :=
  if off < 0x100 then (s.headerRead p off, s)
  else if s.on (F.PAGE_STAT_UNDER_TEST p) || s.instAbsent p off || (rowOf p off).isNone then (0, s)
  else s.blockRead i p off (s.regRaw i p off)

/-- Whether R53 makes the register at an offset a configuration register; CHN.DESC_CFG marks descriptors (06 R149). -/
def isConfig (s : State) (p off : Nat) : Bool :=
  match rowOf p off with
  | some r =>
    r.config || (p == P.CHN && decide (0x800 ≤ off) &&
      (let d := (off - 0x800) / 32
       (s.reg (if d < 32 then Reg.CHN_DESC_CFG_LO else Reg.CHN_DESC_CFG_HI)).toNat.testBit (d % 32)))
  | none => false

/-- The words that enter a page's seal, in ascending offset order (02 R53, R55): of PAGE_CTRL only ENABLE. -/
def sealWords (s : State) (p : Nat) : List Nat :=
  (boolNat (s.enabled p)) :: (s.reg (Reg.IRQ_EN p)).toNat :: (s.reg (Reg.EVT_PUB_EN p)).toNat :: (s.reg (Reg.TASK_EN p)).toNat ::
    ((List.range 960).filter (fun k => s.isConfig p (0x100 + 4 * k) && !s.instAbsent p (0x100 + 4 * k))).map
      (fun k => (s.blockRead .scc p (0x100 + 4 * k) (s.regRaw .scc p (0x100 + 4 * k))).1.toNat)

/-- A seal computation begins (02 R55): DONE clears. -/
def sealStart (s : State) (p : Nat) : State :=
  (s.put (F.SEAL_CTRL_DONE p) 0).setPage p { s.page p with run := some ⟨s.sealWords p, false⟩, held := false }

/-- A request to compute: at once, or held while a computation runs (02 R55). -/
def sealRequest (s : State) (p : Nat) : State :=
  if (s.page p).run.isSome then s.setPage p { s.page p with held := true } else s.sealStart p

/-- LATCH_REF (02 R56). -/
def sealLatch (s : State) (p : Nat) : State :=
  (s.setPage p { s.page p with reference := (s.reg (Reg.SEAL p)).toNat }).put (F.SEAL_CTRL_REF_VALID p) 1

/-- The words a computation saw: where a write fell inside it, each word that changed is the old or the new one (02 R57). -/
def sealMix (s : State) : List Nat → List Nat → List Nat × State
  | o :: os, n :: ns =>
    match (if o = n then (n, s) else match s.freeVal with | (w, t) => (if w.toNat % 2 = 0 then o else n, t)) with
    | (v, s1) => match sealMix s1 os ns with
      | (vs, s2) => (v :: vs, s2)
  | _, ns => (ns, s)

/-- A seal computation ends (02 R55 to R57): SEAL and DONE; the comparison, or SEAL_DIRTY; the held request. -/
def sealEnd (s : State) (p : Nat) : State :=
  match (s.page p).run with
  | none => s
  | some r =>
    match s.sealMix r.words (s.sealWords p) with
    | (ws, s1) =>
      let crc := crc32 (ws.foldr (fun w bs => natLe 4 w ++ bs) [])
      let again := (s.page p).held || (r.dirty && s.on (F.SEAL_CTRL_PERIODIC p))
      let s2 := ((s1.setPage p { s1.page p with run := none, held := false }).setReg (Reg.SEAL p) (BitVec.ofNat 32 crc)).put (F.SEAL_CTRL_DONE p) 1
      let s3 := s2.put (F.PAGE_STAT_SEAL_DIRTY p) (boolNat r.dirty)
      let s4 :=
        if !r.dirty && s3.on (F.SEAL_CTRL_CHECK_EN p) && s3.on (F.SEAL_CTRL_REF_VALID p) && crc != (s3.page p).reference then
          (s3.raiseFlag p 30).reportFault (0x2000 + p) .config
        else s3
      if again then s4.sealStart p else s4

/-- A write of SEAL_CTRL (02 R52): CHECK_EN and PERIODIC, LATCH_REF, COMPUTE. -/
def sealCtrlWrite (s : State) (p : Nat) (w : Word) : State :=
  let s1 := s.setReg (Reg.SEAL_CTRL p) (maskStore (s.reg (Reg.SEAL_CTRL p)) w 0x14 0)
  let s2 := if w.toNat.testBit 3 then s1.sealLatch p else s1
  if w.toNat.testBit 0 then s2.sealRequest p else s2

/-- Disarm every alarm (08 R525). -/
def alarmsOff (s : State) : State := forN 8 (fun n t => t.alarmDisarm n) s

/-- What a change of ENABLE does beside the register (02 R52 and the chapters' own). -/
def enableEffect (s : State) (p : Nat) (en : Bool) : State :=
  if p = P.TMB then (if en then s else s.alarmsOff)
  else if p = P.RAD then (if en then s else s.radDisabled)
  else if p = P.LNK then (if en then s.ctxTake else s.ctxReturn)
  else if p = P.HVL then s.hvlUpdate
  else if p = P.GPIO then s.levelFlags
  else if p = P.CLK then (if en then s.clkEffect else s)
  else if p = P.PWR then (if en then s.domEffect else s)
  else if 0xF ≤ p ∧ p < 0x13 then s.sptKick (p - 0xF)
  else s

/-- Set a page's ENABLE. -/
def setEnable (s : State) (p : Nat) (en : Bool) : State :=
  if s.enabled p = en then s else ((s.put (F.PAGE_CTRL_ENABLE p) (boolNat en)).cfgChange p).enableEffect p en

/-- A block register returns to its reset value; read-only fields that report the present state go on reporting it (02 R51). A register that
cannot be written at present keeps its value: the running watchdog's (08 R213), REC.CFG while recording (22 R494). -/
def resetRegister (s : State) (p off : Nat) (r : RegRow) : State :=
  let a := pageAddr p off
  if (p = P.WDT ∧ off ≤ 0x10C ∧ s.on F.WDT_CFG_EN) ∨ (p = P.REC ∧ off = 0x100 ∧ s.recHidden) then s
  else if r.per then [Initiator.apc, .ntc, .scc, .host, .debug].foldl (fun t i => t.setRegI i a (resetOf a)) s
  else
    let live := BitVec.ofNat 32 r.live
    let s1 := s.setReg a ((s.reg a &&& live) ||| (resetOf a &&& ~~~live))
    if s1.reg a != s.reg a && (p == P.NBD || p == P.OFD || p == P.FRM || p == P.LNK || p == P.RFE) then s1.recCfg a else s1

/-- Every block register of a page returns to its reset value. -/
def resetRegisters (s : State) (p : Nat) : State :=
  (pageRows p).foldl (fun t r => (List.range r.count).foldl (fun u k => u.resetRegister p (r.off + k * r.stride) r) t) s

/-- The blocks that a release walk left out come back to the free list, their link words rewritten (21 R470). -/
def unstick (s : State) : State :=
  let bs := s.flt.stuck
  let s1 : State := { s with flt := { s.flt with stuck := [] } }
  bs.foldl (fun t b => (t.setMemNat (blockAddr b) 4 0).freeBlock b) s1

/-- A reset value takes effect by the same rule as a write of that value (02 R51). Queues that a register only reads, LNK.DONE among them, stay (log
entry 25). -/
def resetEffects (s0 s : State) (p : Nat) : State :=
  if p = P.CLK then s.clkEffect
  else if p = P.PWR then s.domEffect
  else if p = P.RFE ∨ p = P.SYN then s.scsChanged
  else if p = P.HVL then s.hvlUpdate
  else if p = P.FRM then s.unstick
  else if p = P.EVF then s.setPageSt P.EVF (s.get F.EVF_CFG_MODE)
  else if p = P.TMB then { s.alarmsOff with alarms := s.alarmsOff.alarms.map (fun x => { x with late := false }) }
  else if p = P.GPIO then s.levelFlags
  else if p = P.LPT then
    [Reg.LPT_CTRL, Reg.LPT_T_PERIOD 0, Reg.LPT_T_CMP 0, Reg.LPT_T_PERIOD 1, Reg.LPT_T_CMP 1].foldl
      (fun t a => if s0.reg a = s.reg a then t else t.lptWrite a (s0.reg a)) s
  else if p = P.FLC then
    (let s1 := s.waitUpdate (s.get F.PWR_OP_ACTIVE) s.sysKhz
     if s1.updSt = 0 then s1 else s1.put F.FLC_PROT1_FLACON 1)
  else if 0xF ≤ p ∧ p < 0x13 then s.sptPageReset (p - 0xF)
  else s

/-- A soft reset of a page (02 R51): it has its effect at once, and accesses to the page stall until it completes. -/
def softResetPage (s : State) (p : Nat) : State :=
  let s1 := resetEffects s (s.resetRegisters p) p
  let s2 := (s1.put (F.SEAL_CTRL_REF_VALID p) 0).cfgChange p
  s2.setPage p { s2.page p with reference := 0, resetting := true }

/-- A write of PAGE_CTRL (02 R51, R52, R54). -/
def pageCtrlWrite (s : State) (p : Nat) (w : Word) : State :=
  let n := w.toNat
  if s.locked p then (if n.testBit 0 != s.enabled p || n.testBit 1 then s.lockViol p else s)
  else
    let s1 := s.setEnable p (n.testBit 0)
    let s2 := if n.testBit 1 then s1.softResetPage p else s1
    if n.testBit 2 then s2.put (F.PAGE_CTRL_LOCK p) 1 else s2

/-- A write of a header configuration register: discarded with LOCK_VIOL on a locked page (02 R53, R54). -/
def headerConfig (s : State) (p off : Nat) (w : Word) (rw : Nat) : State :=
  let a := pageAddr p off
  if s.locked p then s.lockViol p
  else
    let new := maskStore (s.reg a) w rw 0
    let s1 := s.setReg a new
    if new = s.reg a then s1 else s1.cfgChange p

/-- A write of a header register of a present page (02 R50, R52). -/
def headerWrite (s : State) (p off : Nat) (w : Word) : State :=
  match off with
  | 0x08 => if s.on (F.PAGE_STAT_UNDER_TEST p) then s else s.pageCtrlWrite p w
  | 0x10 =>
    let s1 := s.setReg (Reg.IRQ_RAW p) (s.reg (Reg.IRQ_RAW p) &&& ~~~w)
    if p = P.LNK then lnkFlagsCleared s1 else s1
  | 0x14 => s.headerConfig p off w 0xFFFFFFFF
  | 0x1C => s.setReg (Reg.IRQ_RAW p) (s.reg (Reg.IRQ_RAW p) ||| w)
  | 0x20 => s.headerConfig p off w 0xFFFFFFFF
  | 0x24 => s.headerConfig p off w 0xFF
  | 0x28 => s.setReg (Reg.TASK_FLAGS p) (maskStore (s.reg (Reg.TASK_FLAGS p)) w 0 0xFFFFFF)
  | 0x2C => s.setReg (Reg.PAGE_PWR_REQ p) (maskStore (s.reg (Reg.PAGE_PWR_REQ p)) w 3 0)
  | 0x30 => s.sealCtrlWrite p w
  | _ => s

/-- The watchdog starts (08 R213): EN shows it until a reset clears the watchdog. -/
def wdtStart (s : State) : State := ((s.put F.WDT_CFG_EN 1).put F.WDT_STAT_RUNNING 1).put F.WDT_COUNT_COUNT s.wdtLoadVal

/-- The word as the register takes it: pins that the package lacks have no bits (23 R512), and the update unit holds FLACON (20 R444). -/
def fitWord (s : State) (p off : Nat) (w : Word) : Word :=
  if p = P.GPIO ∧ off < 0x140 then w &&& BitVec.ofNat 32 (pinsPresent s.variant)
  else if p = P.FLC ∧ off = 0x118 ∧ s.updSt ≠ 0 then w ||| BitVec.ofNat 32 (2 ^ F.FLC_PROT1_FLACON.lo)
  else w

/-- A write that does not go the common way: refused by its block, or a request and no stored value. The state after it, or none. -/
def preWrite (s : State) (i : Initiator) (p off : Nat) (w : Word) : Option State :=
  if p = P.PWR then
    (if off = 0x100 then some (s.reqWrite (w.toNat % 4)) else if off = 0x10C then some (s.opWrite (w.toNat % 4)) else none)
  else if p = P.CLK then (if off = 0x100 ∧ s.clkRefused w.toNat = true then some (s.flag P.CLK 2) else none)
  else if p = P.WDT then (if off ≤ 0x10C ∧ s.on F.WDT_CFG_EN = true then some (s.lockViol P.WDT) else none)
  else if p = P.EVF then
    (if 0x200 ≤ off ∧ off % 8 = 4 ∧ s.chConflict ((off - 0x204) / 8) w.toNat = true then some (s.flag P.EVF 1) else none)
  else if p = P.FLC then (if (off = 0x114 ∨ off = 0x118) ∧ i ≠ .scc then some (s.lockViol P.FLC) else none)
  else if p = P.REC then (if off = 0x100 then s.recCfgRefused w.toNat else none)
  else if p = P.SYN then
    (if off = 0x100 ∧ (bitsOf w.toNat 0 18 < 160000 ∨ 208000 < bitsOf w.toNat 0 18) then some ((s.flag P.SYN 1).flag P.RFE 3) else none)
  else if p = P.ICU then (if off < 0x110 ∧ (coreOf i).isNone = true then some s else none)
  else none

/-- What a write to a block register does once it is stored; `old` is what the register held. -/
def postWrite (s : State) (i : Initiator) (p off : Nat) (old w : Word) : State :=
  if p = P.SYS then (if off = 0x10C then s.resetCtrl w.toNat else s)
  else if p = P.PWR then (if off = 0x11C then s.domEffect else s)
  else if p = P.CLK then (if off = 0x100 then s.clkEffect else s)
  else if p = P.TMB then
    (if off = 0x110 then forN 8 (fun n t => if w.toNat.testBit n then t else t.alarmDisarm n) s
     else if 0x140 ≤ off ∧ off % 8 = 0 then s.alarmLoWrite ((off - 0x140) / 8)
     else s)
  else if 6 ≤ p ∧ p < 10 then (if off = 0x104 then s.tmrCmd (p - 6) w.toNat else if off = 0x100 ∧ old ≠ s.reg (pageAddr p off) then s.tmrCfg (p - 6) else s)
  else if p = P.LPT then (if off = 0x100 ∨ (0x110 ≤ off ∧ off % 16 ≠ 8) then s.lptWrite (pageAddr p off) old else s)
  else if p = P.WDT then
    (if off = 0x110 then s.wdtFeedWrite w.toNat
     else if off = 0x100 ∧ w.toNat.testBit 0 = true ∧ s.enabled P.WDT = true then s.wdtStart else s)
  else if p = P.EVF then evfWrite s off w
  else if p = P.GPIO then gpioWrite s off
  else if p = P.HSP then
    (if off = 0x10C then s.put F.HSP_DOORBELL_BITS (s.get F.HSP_DOORBELL_BITS ||| w.toNat % 256)
     else if off = 0x110 ∧ i = .host ∧ old ≠ s.reg Reg.HSP_DOORBELL then s.flag P.HSP 0
     else s)
  else if 0xF ≤ p ∧ p < 0x13 then s.sptWrite i (p - 0xF) off w
  else if p = P.FLC then
    (if off = 0x104 then s.flcCtrl w.toNat
     else if off = 0x10C then s.waitUpdate (s.get F.PWR_OP_ACTIVE) s.sysKhz
     else s)
  else if p = P.SEC then secWrite s i off w
  else if p = P.KST then (if off = 0x100 then s.kstWrite w.toNat else s)
  else if p = P.RFE then (if off = 0x100 then s.scsChanged else s)
  else if p = P.RTX then
    (if off = 0x118 then s.compWrite (s.get F.RTX_COMP_IDX_TABLE) (s.get F.RTX_COMP_IDX_ENTRY) (w.toNat % 65536) else s)
  else if p = P.SYN then (if off = 0x100 then s.scsChanged else s)
  else if p = P.RAD then (if off = 0x100 then s.radCmd w.toNat else s)
  else if p = P.LNK then lnkWrite s i off w
  else if p = P.FRM then frmWrite s off w
  else if p = P.NBT then (if off = 0x104 then s.nbtCmdWrite i w.toNat else s)
  else if p = P.HVL then (if off = 0x100 then s.hvlUpdate else s)
  else if p = P.FLT then fltWrite s off w
  else if p = P.BST then (if off = 0x100 then s.bstCmd w.toNat else s)
  else if p = P.REC then recWrite s off w
  else if p = P.UPD then
    (if off = 0x104 then s.updCmd w.toNat
     else if off = 0x118 then s.updConfirm i w.toNat
     else if off = 0x11C then s.handoverWrite i w.toNat
     else s)
  else if p = P.ICU then s.icuWrite i off w
  else if p = P.TSN then (if off = 0x104 ∧ w.toNat.testBit 0 = true then s.tsnSample else s)
  else s

/-- The masked store of a block register (00 R13; 02 R53, R57), in the initiator's own copy where there is one per initiator; the recorder notes
writes of some (22 R496). -/
def storeReg (s : State) (i : Initiator) (p off : Nat) (r : RegRow) (w : Word) : State :=
  let a := pageAddr p off
  let old := s.regRaw i p off
  let new := maskStore old w r.rw r.w1c
  if r.per then s.setRegI i a new
  else
    let s1 := s.setReg a new
    let s2 := if s.isConfig p off && new != old then s1.cfgChange p else s1
    s2.recCfg a

/-- A write of a page's register (02 R40 conditions 5 to 7, R41, R54). -/
def pageWrite (s : State) (i : Initiator) (p off : Nat) (w : Word) : State :=
  if off < 0x100 then s.headerWrite p off w
  else if s.on (F.PAGE_STAT_UNDER_TEST p) || s.instAbsent p off then s
  else match rowOf p off with
    | none => s
    | some r =>
      if s.locked p && s.isConfig p off then s.lockViol p
      else
        let w1 := s.fitWord p off w
        match s.preWrite i p off w1 with
        | some t => t
        | none => (s.storeReg i p off r w1).postWrite i p off (s.regRaw i p off) w1

end State

end Sys2Proof.Machine
end

