-- ==== Sys2Proof/Machine/Bus.lean ====
section
/-! DEFINITION. A bus access (02 R40 to R45): the ordered conditions that decide its outcome, the stalls it may meet, and what it reads or writes in
memory, in a page or in a window. -/

namespace Sys2Proof.Machine

namespace State

/-- Condition 1 of R40 at the byte `x` of an access: unmapped, no word access to a page or a code-RAM window, or a window access that the port
cannot serve (15 R369). -/
def busUnmapped (s : State) (r : BusReq) (x : Nat) : Bool :=
  match regionOf x with
  | .page _ => !wordAccess r
  | .code _ => !s.mapped x || !wordAccess r
  | .window n => s.winDenied n (isWrite r)
  | _ => !s.mapped x

/-- Condition 3 of R40: an absent unit, or a register of an absent instance (00 R8). -/
def busAbsent (s : State) (x : Nat) : Bool :=
  s.absentAt x || (match regionOf x with | .page p => s.instAbsent p (x % 0x1000) | _ => false)

/-- Condition 2 of R40 at the byte `x` of an access. -/
def busForbidden (s : State) (r : BusReq) (x : Nat) : Bool :=
  !s.busAbsent x && !(match r.op with
    | .read => s.mayRead r.ini x
    | .write _ => s.mayWrite r.ini x
    | .fetch => mayFetch r.ini x)

/-- Conditions 1 to 4 of R40, judged at the first and the last byte of an access: how it ends, or none where it goes on. From the start of an entry
on, a debug access falls under condition 4 (18 R410). -/
def busCondition (s : State) (r : BusReq) : Option BusEnd :=
  let both (p : Nat → Bool) : Bool := p r.addr.toNat || p (lastByte r)
  if both (s.busUnmapped r) || both (s.busForbidden r) then some .denied
  else if both s.busAbsent then some .ok
  else if both (fun x => !s.powered x) || (r.ini == .debug && (s.pwr.entering.isSome || s.pwr.state != .active)) then some .asleep
  else none

/-- Why the byte `x` of an access makes it wait: a soft reset of the page (02 R51), a program or erase of the bank (14 R344), a bank that is being
cleared (13 R326). -/
def stallAt (s : State) (x : Nat) : Option StallWhy :=
  match regionOf x with
  | .page p => if (s.page p).resetting then some (.softReset p) else none
  | .flash =>
    match s.flashPlace x with
    | some y => if s.flashBusyBank = some (y / 0x200000) then some (.flashBank (y / 0x200000)) else none
    | none => none
  | _ =>
    match bankOf x with
    | some b => if s.pwr.clearing.contains b then some (.bankClear b) else none
    | none => none

/-- The access waits. -/
def stall (s : State) (r : BusReq) (why : StallWhy) (dev : List Byte) : State :=
  ({ s with stalled := s.stalled ++ [⟨r, why, dev⟩] } : State).answer r.ini 0 .waiting

/-- The value of an access of `k` bytes. -/
def answerBytes (s : State) (i : Initiator) (bs : List Byte) : State := s.answer i (BitVec.ofNat 32 (leNat bs)) .ok

/-- The 16-byte units of flash that a range touches, by the addresses that serve them. -/
def flashUnits (s : State) (a n : Nat) : List Nat :=
  (List.range ((a + n - 1) / 16 + 1 - a / 16)).filterMap (fun k => (s.flashPlace ((a / 16 + k) * 16)).map (fun y => y / 16 * 16))

/-- A unit that holds a double-bit error (14 R342). -/
def unitBad (s : State) (u : Nat) : Bool := s.rangeBad u 16 && !s.sectorUndef (sectorOf u)

/-- A read of flash by the bus (14 R342; 13 R322, R324): a double-bit error gives no data and is a memory fault of the sector; an instruction
fetch fills the core's cache line. -/
def flashAccess (s : State) (r : BusReq) : State :=
  let a := r.addr.toNat
  let n := sizeBytes r.size
  match (s.flashUnits a n).find? s.unitBad with
  | some u => (s.reportFault (uSector (sectorOf u)) .memory).answer r.ini 0 .memFault
  | none =>
    let line := a / 32 * 32
    match r.op, coreOf r.ini with
    | .fetch, some k =>
      if a + n ≤ line + 32 ∧ (s.flashUnits line 32).any s.unitBad = false then
        (match s.viewBytes line 32 with
         | (bs, t) => ((t.cacheFill k line bs).prefetchNext ((s.flashPlace line).getD line)).answerBytes r.ini ((bs.drop (a - line)).take n))
      else match s.viewBytes a n with | (bs, t) => t.answerBytes r.ini bs
    | _, _ => match s.viewBytes a n with | (bs, t) => t.answerBytes r.ini bs

/-- The block among those an access touches that software does not own. -/
def wrongBlock (s : State) (a last : Nat) : Option Nat :=
  [a, last].findSome? (fun x =>
    if regionOf x = .radioBuffer ∧ s.owner ((x - 0x20200000) / 128) ≠ .software then some ((x - 0x20200000) / 128) else none)

/-- A word with a double-bit error that a write covers only in part (13 R325). -/
def partialBad (s : State) (a n : Nat) : Bool :=
  s.flt.badWords.any (fun w => decide (a < w + 4) && decide (w < a + n) && !(decide (a ≤ w) && decide (w + 4 ≤ a + n)))

/-- A read or write of SRAM, the boot ROM, the key store or a code RAM by the bus (13 R325; 10 R254). -/
def memAccess (s : State) (r : BusReq) : State :=
  let a := r.addr.toNat
  let n := sizeBytes r.size
  match r.op with
  | .write w =>
    (match s.wrongBlock a (lastByte r) with
     | some b => (s.ownViol b r.ini).answer r.ini 0 .ok
     | none =>
       if s.partialBad a n then (s.faultRange a n).answer r.ini 0 .memFault
       else (s.busSetBytes a (natLe n w.toNat)).answer r.ini 0 .ok)
  | _ => if s.rangeBad a n then (s.faultRange a n).answer r.ini 0 .memFault else s.answerBytes r.ini (s.busBytes a n)

/-- An access to a register page (02 R40 conditions 5 to 7). -/
def pageAccess (s : State) (p : Nat) (r : BusReq) : State :=
  match r.op with
  | .write w => (s.pageWrite r.ini p (r.addr.toNat % 0x1000) w).answer r.ini 0 .ok
  | _ => match s.pageRead r.ini p (r.addr.toNat % 0x1000) with | (v, t) => t.answer r.ini v .ok

/-- An access that none of conditions 1 to 4 ends and no stall holds. -/
def busServe (s : State) (r : BusReq) (dev : List Byte) : State :=
  match regionOf r.addr.toNat with
  | .page p => s.pageAccess p r
  | .window n =>
    (match s.winAccess n r dev with
     | (.done v, t) => (t.answer r.ini v .ok).sptStat n
     | (.wait, t) => t.stall r (.window n) dev)
  | .flash => s.flashAccess r
  | _ => s.memAccess r

/-- The bytes that a core's instruction cache holds for a fetch (13 R322, R324). -/
def cachedFetch (s : State) (r : BusReq) : Option (List Byte) :=
  let a := r.addr.toNat
  if r.op == .fetch && cacheable a && decide (a % 32 + sizeBytes r.size ≤ 32) then
    (match coreOf r.ini with
     | some k => (s.cacheHit k a).map (fun bs => (bs.drop (a % 32)).take (sizeBytes r.size))
     | none => none)
  else none

/-- READY (16 R388). -/
def hspReady (s : State) : Bool := s.enabled P.HSP && s.pwr.state == .active && s.pwr.entering.isNone

/-- One access of a bus initiator (02 R40); the host port answers ASLEEP while it is not ready (16 R388). -/
def busAccess (s : State) (r : BusReq) (dev : List Byte) : State :=
  if (s.busCondition r == none || s.busCondition r == some .ok) && s.pmpDenies r then s.answer r.ini 0 .denied
  else match s.cachedFetch r with
  | some bs => s.answerBytes r.ini bs
  | none =>
    match if r.ini == .host && !s.hspReady then some .asleep else s.busCondition r with
    | some e => s.answer r.ini 0 e
    | none =>
      match [r.addr.toNat, lastByte r].findSome? s.stallAt with
      | some (.flashBank b) => s.flcReadBusy.stall r (.flashBank b) dev
      | some why => s.stall r why dev
      | none => s.busServe r dev

/-- A word write to a register by a bus initiator. -/
def busWrite (s : State) (i : Initiator) (a : Nat) (w : Word) : State := s.busAccess ⟨i, BitVec.ofNat 32 a, .word, .write w⟩ []

/-- A word read of a register by a bus initiator. -/
def busRead (s : State) (i : Initiator) (a : Nat) : State := s.busAccess ⟨i, BitVec.ofNat 32 a, .word, .read⟩ []

end State

end Sys2Proof.Machine
end

