-- ==== Sys2Proof/Machine/Host.lean ====
section
/-! DEFINITION. The host port (16): transactions, the status word, posted writes and late reads. A command carries the words of a transaction that
the host sends with their CRC bytes; the words that the device sends stand in the state. -/

namespace Sys2Proof.Machine

/-- The flag bits of the status word (16 R381). -/
def hfDenied : Nat := 20
def hfAsleep : Nat := 19
def hfEcc : Nat := 18
def hfUnderrun : Nat := 17
def hfOverrun : Nat := 16
def hfWrap : Nat := 15
def hfHdrErr : Nat := 14
def hfDataCrc : Nat := 13
def hfCut : Nat := 12

/-- A flag whose transaction counts as an error of the host (16 R390). -/
def hostErrFlag (b : Nat) : Bool := [hfDenied, hfHdrErr, hfDataCrc, hfCut, hfUnderrun, hfOverrun].contains b

/-- The next address of a burst (16 R382), and whether it wraps. -/
def nextAddr (inc : Bool) (a : Nat) : Nat × Bool :=
  if !inc then (a, false) else if a % 0x1000 = 0xFFC then (a - 0xFFC, true) else (a + 4, false)

/-- A header that the port refuses whatever its address (16 R380). -/
def cmdRefused (cmd : Word) : Bool := bitsOf cmd.toNat 30 2 == 3 || bitsOf cmd.toNat 11 18 != 0

/-- A READ or WRITE header that the port refuses. -/
def headerRefused (cmd addr : Word) : Bool :=
  cmdRefused cmd || bitsOf cmd.toNat 0 11 == 0 || decide (1024 < bitsOf cmd.toNat 0 11) || addr.toNat % 4 != 0

/-- The CRC of a word of the port: polynomial 0x07 over its bytes in transmission order, the most significant first (16 R378, R386). -/
def hostCrc (w : Word) : Byte := BitVec.ofNat 8 (crcFwd 8 7 0 (natLe 4 w.toNat).reverse)

namespace State

/-- Change the host port's part that is no register. -/
def setHsp (s : State) (g : Hsp → Hsp) : State := { s with hsp := g s.hsp }

/-- The device sends a word, with its CRC where CRC_EN is in force (16 R379, R386). -/
def hspSend (s : State) (w : Word) : State :=
  s.setHsp (fun h => { h with miso := h.miso ++ [(w, if h.crcOn then some (hostCrc w) else none)] })

/-- Each of the `n` slots that remain repeats the previous word (16 R383). -/
def hspRepeat (s : State) (n : Nat) : State := s.setHsp (fun h => { h with miso := h.miso ++ List.replicate n (h.miso.getLastD (0, none)) })

/-- A CRC that fails where CRC_EN is in force (16 R387). -/
def hspCrcBad (s : State) (w : Word) (crc : Byte) : Bool := s.hsp.crcOn && hostCrc w != crc

/-- HSP_IRQ is asserted (16 R389). -/
def hspIrq (s : State) : Bool :=
  s.enabled P.HSP &&
    (s.get F.HSP_DOORBELL_BITS &&& s.get F.HSP_CFG_DB_EN != 0 ||
     (List.range 0x29).any (fun p =>
       (if p < 32 then (s.reg Reg.HSP_IRQ_SEL_LO).toNat.testBit p else (s.reg Reg.HSP_IRQ_SEL_HI).toNat.testBit (p - 32)) && s.pageIrq p))

/-- The level of HSP_IRQ (16 R389, R390). -/
def hspIrqLevel (s : State) : Bool := s.hspIrq == s.on F.HSP_CFG_IRQ_POL

/-- The status word (16 R381). -/
def hspStatus (s : State) : Word :=
  BitVec.ofNat 32 (0xA5000000 + 0x800000 * boolNat s.hspIrq + 0x400000 * boolNat s.hspReady +
    0x200000 * boolNat (s.hsp.posted.any (fun x => x.2.isSome)) + s.hsp.flags + s.hsp.count)

/-- A flag of the status word is set; a transaction counts once as an error (16 R381, R390). -/
def hspFlag (s : State) (b : Nat) : State :=
  let s1 := s.setHsp (fun h => { h with flags := if h.flags.testBit b then h.flags else h.flags + 2 ^ b })
  if hostErrFlag b && !s.hsp.erred then
    ((s1.setHsp (fun h => { h with erred := true })).flag P.HSP 1).countSat F.HSP_COUNTS_ERRORS
  else s1

/-- A word at address `a` failed: its flag, and ERR_ADDR for the first of the transaction (16 R381). -/
def hspFailed (s : State) (b a : Nat) : State :=
  let s1 := s.hspFlag b
  if s1.hsp.failed then s1 else (s1.setHsp (fun h => { h with failed := true })).setReg Reg.HSP_ERR_ADDR (BitVec.ofNat 32 a)

/-- What the end of the port's access at `a` sets. -/
def hspNote (s : State) (a : Nat) : State :=
  match s.out.host.how with
  | .denied => s.hspFailed hfDenied a
  | .asleep => s.hspFailed hfAsleep a
  | .memFault => s.hspFailed hfEcc a
  | _ => s

/-- A late read has completed (16 R383). -/
def hspLate (s : State) (a : Nat) : State := (s.setReg Reg.HSP_LATE_DATA s.out.host.value).setReg Reg.HSP_LATE_ADDR (BitVec.ofNat 32 a)

/-- The bus request of a posted item: a write, or a late read. -/
def hspReq (x : Nat × Option Word) : BusReq :=
  ⟨.host, BitVec.ofNat 32 x.1, .word, match x.2 with | some w => .write w | none => .read⟩

/-- The first posted item has ended on the bus. -/
def hspPop (s : State) (x : Nat × Option Word) : State :=
  let s1 := (s.setHsp (fun h => { h with posted := h.posted.drop 1, flying := false })).hspNote x.1
  if x.2.isNone then s1.hspLate x.1 else s1

/-- The posted items go to the bus in their order, until one has to wait (16 R384); at most `n` of them. -/
def hspDrain (s : State) : Nat → State
  | 0 => s
  | n + 1 =>
    match s.hsp.posted with
    | [] => s
    | x :: _ =>
      if s.hsp.flying then s
      else
        let s1 := s.busAccess (hspReq x) []
        if s1.out.host.how = .waiting then s1.setHsp (fun h => { h with flying := true }) else hspDrain (s1.hspPop x) n

/-- A stalled access is taken up again; the end of one of the host port's own lets the port go on. -/
def takeUp (s : State) (x : Stalled) : State :=
  let s1 := s.busAccess x.req x.dev
  match s1.hsp.posted with
  | y :: _ =>
    if s1.hsp.flying && x.req == hspReq y && s1.out.host.how != .waiting then (s1.hspPop y).hspDrain s1.hsp.posted.length else s1
  | [] => s1

/-- The accesses that waited for `why` are taken up in their order. -/
def serveStalled (s : State) (why : StallWhy) : State :=
  (s.stalled.filter (fun x => x.why == why)).foldl takeUp { s with stalled := s.stalled.filter (fun x => x.why != why) }

/-- The accesses that wait for a flash bank are taken up once it can be read (14 R344). -/
def serveFlash (s : State) : State :=
  match s.flashBusyBank with
  | none => (s.serveStalled (.flashBank 0)).serveStalled (.flashBank 1)
  | some b => s.serveStalled (.flashBank (1 - b))

/-- The status word has been sent in full: its flags are cleared and the transaction counts (16 R381, R390). -/
def hspBegin (s : State) : State :=
  let sent := s.hsp.status
  let s1 := s.setHsp (fun h => { h with
    flags := h.flags - (h.flags &&& sent.toNat % 0x200000 / 0x1000 * 0x1000), count := 0, isOpen := false, erred := false, failed := false
    miso := [] })
  ((s1.hspSend sent).setReg Reg.HSP_LAST_STAT sent).countSat F.HSP_COUNTS_TRANSACTIONS

/-- The words of a READ from address `a` (16 R383): `n` are left, `k` is the number of the next, `late` the one that a wait makes late. -/
def hspReads (inc : Bool) (late : Option Nat) : Nat → Nat → Nat → State → State
  | 0, _, _, s => s
  | n + 1, k, a, s =>
    let go (t : State) : State :=
      match nextAddr inc a with
      | (b, wraps) => hspReads inc late n (k + 1) b (if wraps && n != 0 then t.hspFlag hfWrap else t)
    if !s.hspReady then go ((s.hspFailed hfAsleep a).hspSend 0)
    else if !s.hsp.posted.isEmpty then ((s.setHsp (fun h => { h with posted := h.posted ++ [(a, none)] })).hspFlag hfUnderrun).hspRepeat (n + 1)
    else
      let s1 := s.busAccess ⟨.host, BitVec.ofNat 32 a, .word, .read⟩ []
      match s1.out.host.how with
      | .waiting => ((s1.setHsp (fun h => { h with posted := [(a, none)], flying := true })).hspFlag hfUnderrun).hspRepeat (n + 1)
      | how =>
        let s2 := s1.hspNote a
        if late = some k then ((s2.hspLate a).hspFlag hfUnderrun).hspRepeat (n + 1)
        else go (if how = .ok then (s2.setHsp (fun h => { h with count := h.count + 1 })).hspSend s2.out.host.value else s2.hspSend 0)

/-- The words of a WRITE from address `a`, at most `n` (16 R384, R387). -/
def hspWrites (inc : Bool) : Nat → List HostWord → Nat → State → State
  | 0, _, _, s => s
  | _, [], _, s => s
  | n + 1, w :: ws, a, s =>
    let go (t : State) : State :=
      match nextAddr inc a with
      | (b, wraps) => hspWrites inc n ws b (if wraps && n != 0 && !ws.isEmpty then t.hspFlag hfWrap else t)
    if s.hspCrcBad w.w w.crc then s.hspFlag hfDataCrc
    else if !s.hspReady then go (s.hspFailed hfAsleep a)
    else if 4 ≤ s.hsp.posted.length then s.hspFlag hfOverrun
    else
      let s1 := s.setHsp (fun h => { h with posted := h.posted ++ [(a, some w.w)], count := h.count + 1 })
      go (s1.hspDrain 4)

end State

open State

/-- HSP_CS_FALL (16 R378, R386, R388; 18 R413): the select falls: a wake source, and while the port has power the SPI mode and CRC_EN are taken and
the status word is made. -/
def execHspCsFall (mode3 : Bool) (s : State) : Host.Outcome State Fault Refusal :=
  let s1 := if s.enabled P.WKP && s.on F.WKP_CFG_HSP_WAKE then (s.put F.WKP_PENDING_HSP 1).wake 0x1A else s
  .next (if s1.systemOn then
      s1.setHsp (fun h => { h with isOpen := true, mayCut := true, mode3 := mode3, crcOn := s1.on F.HSP_CFG_CRC_EN, status := s1.hspStatus })
    else s1)

/-- NOP (16 R380, R381, R387): the status word of the transaction before. -/
def execNop (cmd : Word) (crc : Byte) (s : State) : Host.Outcome State Fault Refusal :=
  .next (if s.hsp.isOpen then
      let s1 := s.hspBegin
      if cmdRefused cmd || s1.hspCrcBad cmd crc then s1.hspFlag hfHdrErr else s1
    else s)

/-- HSP_READ (16 R380 to R383, R387, R388): the device reads the words that the header asks for; `late` names a word that a wait on a port's bus
makes late. -/
def execHspRead (cmd addr : Word) (crcs : HeaderCrcs) (late : Option Nat) (s : State) : Host.Outcome State Fault Refusal :=
  .next (if s.hsp.isOpen then
      let s1 := s.hspBegin
      if headerRefused cmd addr || s1.hspCrcBad cmd crcs.cmd || s1.hspCrcBad addr crcs.addr then s1.hspFlag hfHdrErr
      else hspReads (cmd.toNat.testBit 29) late (bitsOf cmd.toNat 0 11) 0 addr.toNat ((s1.hspSend 0).hspSend 0)
    else s)

/-- HSP_WRITE (16 R380 to R382, R384, R387, R388): the device posts the words that the host sends. -/
def execHspWrite (cmd addr : Word) (crcs : HeaderCrcs) (words : List HostWord) (s : State) : Host.Outcome State Fault Refusal :=
  .next (if s.hsp.isOpen then
      let s1 := s.hspBegin
      if headerRefused cmd addr || s1.hspCrcBad cmd crcs.cmd || s1.hspCrcBad addr crcs.addr then s1.hspFlag hfHdrErr
      else
        let n := bitsOf cmd.toNat 0 11
        hspWrites (cmd.toNat.testBit 29) n words addr.toNat ((s1.hspSend 0).hspRepeat (min n words.length))
    else s)

/-- CUT (16 R385): the select rises inside a slot of the transaction. A slot cut before the status word is whole leaves its flags for the next. -/
def execCut (s : State) : Host.Outcome State Fault Refusal :=
  .next (if s.hsp.mayCut then (s.hspFlag hfCut).setHsp (fun h => { h with isOpen := false, mayCut := false }) else s)

/-- DB_SET (16 R389, R390): a core sets doorbell bits. -/
def execDbSet (ini : Initiator) (w : Word) (s : State) : Host.Outcome State Fault Refusal := .next (s.busWrite ini Reg.HSP_DB_SET w)

/-- DOORBELL (16 R389, R390): doorbell bits are cleared. -/
def execDoorbell (ini : Initiator) (w : Word) (s : State) : Host.Outcome State Fault Refusal := .next (s.busWrite ini Reg.HSP_DOORBELL w)

end Sys2Proof.Machine
end

