-- ==== Sys2Proof/Machine/BusCommands.lean ====
section
/-! DEFINITION. The commands of the bus and of the page header (02). -/

namespace Sys2Proof.Machine

open State

/-- BUS_ACCESS (02 R40): any access of a bus initiator. -/
def execBusAccess (req : BusReq) (s : State) : Host.Outcome State Fault Refusal := .next (s.busAccess req [])

/-- SOFT_RESET (02 R51): a write of PAGE_CTRL with SOFT_RESET = 1. -/
def execSoftReset (ini : Initiator) (page : Nat) (w : Word) (s : State) : Host.Outcome State Fault Refusal :=
  .next (s.busWrite ini (Reg.PAGE_CTRL page) (withBits w 1 1 1))

/-- SOFT_RESET_DONE (02 R51): the soft reset of a page completes, and the accesses that waited for it go on. -/
def execSoftResetDone (page : Nat) (s : State) : Host.Outcome State Fault Refusal :=
  .next (if (s.page page).resetting then
      (s.setPage page { s.page page with resetting := false }).serveStalled (.softReset page)
    else s)

/-- PAGE_ENABLE (02 R52): a write of PAGE_CTRL that sets or clears ENABLE. -/
def execPageEnable (ini : Initiator) (page : Nat) (en : Bool) (s : State) : Host.Outcome State Fault Refusal :=
  .next (s.busWrite ini (Reg.PAGE_CTRL page) (BitVec.ofNat 32 (boolNat en)))

/-- LOCK (02 R54): a write of PAGE_CTRL with LOCK = 1. -/
def execLock (ini : Initiator) (page : Nat) (en : Bool) (s : State) : Host.Outcome State Fault Refusal :=
  .next (s.busWrite ini (Reg.PAGE_CTRL page) (BitVec.ofNat 32 (4 + boolNat en)))

/-- IRQ_SET (02 R50, R52): a write of IRQ_SET sets the named IRQ_RAW bits. -/
def execIrqSet (ini : Initiator) (page : Nat) (w : Word) (s : State) : Host.Outcome State Fault Refusal := .next (s.busWrite ini (Reg.IRQ_SET page) w)

/-- COMPUTE (02 R55): a write of SEAL_CTRL with COMPUTE = 1. -/
def execCompute (ini : Initiator) (page : Nat) (w : Word) (s : State) : Host.Outcome State Fault Refusal :=
  .next (s.busWrite ini (Reg.SEAL_CTRL page) (withBits w 0 1 1))

/-- LATCH_REF (02 R56): a write of SEAL_CTRL with LATCH_REF = 1. -/
def execLatchRef (ini : Initiator) (page : Nat) (w : Word) (s : State) : Host.Outcome State Fault Refusal :=
  .next (s.busWrite ini (Reg.SEAL_CTRL page) (withBits w 3 1 1))

/-- The seal interval of page `p` expires (21 R479). -/
def sealTick (s : State) (p : Nat) : State :=
  if pagePresent s.variant p && s.pageOn p && s.on (F.SEAL_CTRL_PERIODIC p) then s.sealRequest p else s

/-- SEAL_INTERVAL (21 R479; 02 R55): the seal interval of the named pages expires; each with PERIODIC = 1 starts a computation. -/
def execSealInterval (pages : List Nat) (s : State) : Host.Outcome State Fault Refusal := .next (pages.foldl sealTick s)

/-- SEAL_DONE (02 R55 to R57): the seal computation of a page completes. -/
def execSealDone (page : Nat) (s : State) : Host.Outcome State Fault Refusal := .next (s.sealEnd page)

/-- BANK_CLEAR_DONE (13 R326): a bank that powered up without retention is clear, and the accesses that waited for it go on. -/
def execBankClearDone (bank : Nat) (s : State) : Host.Outcome State Fault Refusal :=
  .next (if s.pwr.clearing.contains bank then
      ({ s with pwr := { s.pwr with clearing := s.pwr.clearing.filter (· != bank) } } : State).serveStalled (.bankClear bank)
    else s)

end Sys2Proof.Machine
end

