-- ==== Sys2Proof/Machine/CoreCommands.lean ====
section
/-! DEFINITION. The commands of software to the interrupt controller (13). -/

namespace Sys2Proof.Machine

open State

/-- CLAIM (13 R329): a read of ICU.CLAIM. -/
def execClaim (ini : Initiator) (s : State) : Host.Outcome State Fault Refusal := .next (s.busRead ini Reg.ICU_CLAIM)

/-- COMPLETE (13 R329): a write of ICU.COMPLETE. -/
def execComplete (ini : Initiator) (w : Word) (s : State) : Host.Outcome State Fault Refusal := .next (s.busWrite ini Reg.ICU_COMPLETE w)

/-- CACHE_INV (13 R324): a write of ICU.CACHE_INV with INV = 1. -/
def execCacheInv (ini : Initiator) (w : Word) (s : State) : Host.Outcome State Fault Refusal :=
  .next (s.busWrite ini Reg.ICU_CACHE_INV (withBits w 0 1 1))

/-- MBOX_TX (13 R331): a write to a mailbox channel. -/
def execMboxTx (ini : Initiator) (c : Nat) (w : Word) (s : State) : Host.Outcome State Fault Refusal :=
  .next (if c < 6 then s.busWrite ini (Reg.ICU_MBOX_TX c) w else s)

/-- MBOX_RX (13 R331): a read of a mailbox channel. -/
def execMboxRx (ini : Initiator) (c : Nat) (s : State) : Host.Outcome State Fault Refusal :=
  .next (if c < 6 then s.busRead ini (Reg.ICU_MBOX_RX c) else s)

end Sys2Proof.Machine
end

