-- ==== Sys2Proof/Machine/RadioCommands.lean ====
section
/-! DEFINITION. The commands of software to the radio (05 R124, R128) and to the sensors (04 R119). -/

namespace Sys2Proof.Machine

open State

/-- A write of RAD.CMD with an opcode (05 R124, R128). -/
def radWrite (s : State) (i : Initiator) (op : Nat) (w : Word) : State := s.busWrite i Reg.RAD_CMD (withBits w 0 4 op)

/-- IDLE (05 R129): opcode 0x0. -/
def execIdle (ini : Initiator) (w : Word) (s : State) : Host.Outcome State Fault Refusal := .next (radWrite s ini 0 w)

/-- ARM_RX (05 R129): opcode 0x1. -/
def execArmRx (ini : Initiator) (w : Word) (s : State) : Host.Outcome State Fault Refusal := .next (radWrite s ini 1 w)

/-- RX (05 R130): opcode 0x2. -/
def execRx (ini : Initiator) (w : Word) (s : State) : Host.Outcome State Fault Refusal := .next (radWrite s ini 2 w)

/-- RX_MULTI (05 R130): opcode 0x3. -/
def execRxMulti (ini : Initiator) (w : Word) (s : State) : Host.Outcome State Fault Refusal := .next (radWrite s ini 3 w)

/-- TX (05 R127, R129): opcode 0x4. -/
def execTx (ini : Initiator) (w : Word) (s : State) : Host.Outcome State Fault Refusal := .next (radWrite s ini 4 w)

/-- TX_CCA (05 R129; 09 R235): opcode 0x5. -/
def execTxCca (ini : Initiator) (w : Word) (s : State) : Host.Outcome State Fault Refusal := .next (radWrite s ini 5 w)

/-- CAL (05 R138): opcode 0x6. -/
def execCal (ini : Initiator) (w : Word) (s : State) : Host.Outcome State Fault Refusal := .next (radWrite s ini 6 w)

/-- WHIFF (05 R128; 03 R81): opcode 0x7. -/
def execWhiff (ini : Initiator) (w : Word) (s : State) : Host.Outcome State Fault Refusal := .next (radWrite s ini 7 w)

/-- PRETUNE (05 R129): opcode 0x8. -/
def execPretune (ini : Initiator) (w : Word) (s : State) : Host.Outcome State Fault Refusal := .next (radWrite s ini 8 w)

/-- ABORT (05 R129): opcode 0x9. -/
def execAbort (ini : Initiator) (w : Word) (s : State) : Host.Outcome State Fault Refusal := .next (radWrite s ini 9 w)

/-- OFF (05 R129): opcode 0xA. -/
def execOff (ini : Initiator) (w : Word) (s : State) : Host.Outcome State Fault Refusal := .next (radWrite s ini 10 w)

/-- A task input reached by a bus write, or by a trigger of the event fabric (17 R392, R398). -/
def viaTask (s : State) (via : Via) (a w p n : Nat) : State :=
  match via with
  | .bus i => s.busWrite i a (BitVec.ofNat 32 w)
  | .task => s.deliverTask (taskId p n) 1

/-- SAMPLE (04 R119): TSN.CTRL.SAMPLE or the task SAMPLE. -/
def execSample (via : Via) (s : State) : Host.Outcome State Fault Refusal := .next (viaTask s via Reg.TSN_CTRL 1 P.TSN 0)

end Sys2Proof.Machine
end

