-- ==== Sys2Proof/Machine/FaultCommands.lean ====
section
/-! DEFINITION. The commands of software to the fault manager (21), the self-test and the recorder (22). -/

namespace Sys2Proof.Machine

open State

/-- FAULT (21 R464, R470): a detected fault is charged to a unit and class, logged and counted, and may retire the unit; work in progress feels
it. The access with a parity error on the bus ends as access condition 1 does (02 R40), which the host port's status word shows. A source or an
address that cannot be leaves the device unchanged. -/
def execFault (src : FaultSource) (s : State) : Host.Outcome State Fault Refusal :=
  .next (
    if src.unit = 0x1400 ∧ src.cls = .memory then s.entryFails src.addr
    else if unitPresent s.variant src.unit && faultLegal src.unit src.cls && faultPlace src then
      (let t := unitEffects s (s.faultEffect src)
       if src.unit = 0x1803 then t.hspNote src.addr else t)
    else s)

/-- A write of FLT.CMD (21 R475). -/
def faultCmd (s : State) (i : Initiator) (op unit : Nat) : State :=
  s.busWrite i Reg.FLT_CMD (BitVec.ofNat 32 (0x10000000 * op + unit % 0x10000))

/-- RETIRE (21 R475): FLT.CMD with OP = 1. -/
def execRetire (ini : Initiator) (unit : Nat) (s : State) : Host.Outcome State Fault Refusal := .next (faultCmd s ini 1 unit)

/-- UNRETIRE (21 R475): FLT.CMD with OP = 2. -/
def execUnretire (ini : Initiator) (unit : Nat) (s : State) : Host.Outcome State Fault Refusal := .next (faultCmd s ini 2 unit)

/-- CLEAR_COUNT (21 R475): FLT.CMD with OP = 3. -/
def execClearCount (ini : Initiator) (unit : Nat) (s : State) : Host.Outcome State Fault Refusal := .next (faultCmd s ini 3 unit)

/-- REWRITE (21 R475): FLT.CMD with OP = 4. -/
def execRewrite (ini : Initiator) (unit : Nat) (s : State) : Host.Outcome State Fault Refusal := .next (faultCmd s ini 4 unit)

/-- LOG (21 R481): a read of FLT.LOG. -/
def execLog (ini : Initiator) (s : State) : Host.Outcome State Fault Refusal := .next (s.busRead ini Reg.FLT_LOG)

/-- TEST (22 R482): BST.CMD with OP = 1. -/
def execTest (ini : Initiator) (unit : Nat) (s : State) : Host.Outcome State Fault Refusal :=
  .next (s.busWrite ini Reg.BST_CMD (BitVec.ofNat 32 (0x10000000 + unit % 0x10000)))

/-- BST_ABORT (22 R483): BST.CMD with OP = 2. -/
def execBstAbort (ini : Initiator) (s : State) : Host.Outcome State Fault Refusal := .next (s.busWrite ini Reg.BST_CMD 0x20000000)

/-- REC_ARM (22 R494): REC.CTRL.ARM or the task ARM. -/
def execRecArm (via : Via) (s : State) : Host.Outcome State Fault Refusal := .next (viaTask s via Reg.REC_CTRL 1 P.REC 1)

/-- FREEZE (22 R498): REC.CTRL.FREEZE or the task FREEZE. -/
def execFreeze (via : Via) (s : State) : Host.Outcome State Fault Refusal := .next (viaTask s via Reg.REC_CTRL 2 P.REC 0)

/-- MARK (22 R496): a write of REC.MARK. -/
def execMark (ini : Initiator) (w : Word) (s : State) : Host.Outcome State Fault Refusal := .next (s.busWrite ini Reg.REC_MARK w)

/-- REPLAY (22 R501): REC.CTRL.REPLAY. -/
def execReplay (ini : Initiator) (s : State) : Host.Outcome State Fault Refusal := .next (s.busWrite ini Reg.REC_CTRL 4)

/-- RPQ (22 R502): a read of REC.RPQ. -/
def execRpq (ini : Initiator) (s : State) : Host.Outcome State Fault Refusal := .next (s.busRead ini Reg.REC_RPQ)

end Sys2Proof.Machine
end

