-- ==== Sys2Proof/Machine/FlashCommands.lean ====
section
/-! DEFINITION. The commands of software to the flash controller (14), and its ends and safe points, which let reads go on. -/

namespace Sys2Proof.Machine

open State

/-- SUBMIT (14 R348): a read of FLC.SUBMIT. -/
def execSubmit (ini : Initiator) (s : State) : Host.Outcome State Fault Refusal := .next (s.busRead ini Reg.FLC_SUBMIT)

/-- DESC_DONE (14 R349): the ACTIVE descriptor completes after `dur` microseconds; the reads that waited for its bank go on (R344). -/
def execDescDone (dur : Nat) (s : State) : Host.Outcome State Fault Refusal := .next ((s.flcComplete dur).serveFlash)

/-- FLC_DONE (14 R353): a read of FLC.DONE. -/
def execFlcDone (ini : Initiator) (s : State) : Host.Outcome State Fault Refusal := .next (s.busRead ini Reg.FLC_DONE)

/-- SUSPEND (14 R345): a write of FLC.CTRL. -/
def execSuspend (ini : Initiator) (s : State) : Host.Outcome State Fault Refusal := .next (s.busWrite ini Reg.FLC_CTRL 1)

/-- RESUME (14 R345): a write of FLC.CTRL. -/
def execResume (ini : Initiator) (s : State) : Host.Outcome State Fault Refusal := .next (s.busWrite ini Reg.FLC_CTRL 2)

/-- FLC_ABORT (14 R355): a write of FLC.CTRL. -/
def execFlcAbort (ini : Initiator) (s : State) : Host.Outcome State Fault Refusal := .next (s.busWrite ini Reg.FLC_CTRL 4)

/-- A read that waits for the bank of the running descriptor asks for a suspend once MIN_RUN is over (14 R345). -/
def minRunOver (s : State) : State :=
  let s1 := s.setFlash (fun f => { f with minRun := false })
  if s1.stalled.any (fun x => match x.why with | .flashBank b => s1.flashBusyBank == some b | _ => false) then s1.flcReadBusy else s1

/-- MIN_RUN_END (14 R345): the time that a resumed operation runs at least is over. -/
def execMinRunEnd (s : State) : Host.Outcome State Fault Refusal := .next (if s.flash.minRun then minRunOver s else s)

/-- SAFE_POINT (14 R343, R345, R355): the operation reaches a safe point after `units` further units; a stop that waits takes effect, and reads go on. -/
def execSafePoint (units : Nat) (s : State) : Host.Outcome State Fault Refusal := .next ((s.flcSafePoint units).serveFlash)

end Sys2Proof.Machine
end

