-- ==== Sys2Proof/Machine/LinkCommands.lean ====
section
/-! DEFINITION. The commands of software to the timeline (09), the buffers and the neighbour table (10) and the cascade link (11). -/

namespace Sys2Proof.Machine

open State

/-- ARM (09 R224): LNK.ENT_CMD with OP = 1. -/
def execArm (ini : Initiator) (s : State) : Host.Outcome State Fault Refusal := .next (s.busWrite ini Reg.LNK_ENT_CMD 1)

/-- CANCEL (09 R224): LNK.ENT_CMD with OP = 2. -/
def execCancel (ini : Initiator) (s : State) : Host.Outcome State Fault Refusal := .next (s.busWrite ini Reg.LNK_ENT_CMD 2)

/-- READ (09 R224): LNK.ENT_CMD with OP = 3. -/
def execRead (ini : Initiator) (s : State) : Host.Outcome State Fault Refusal := .next (s.busWrite ini Reg.LNK_ENT_CMD 3)

/-- CANCEL_ALL (09 R224): LNK.ENT_CMD with OP = 4. -/
def execCancelAll (ini : Initiator) (s : State) : Host.Outcome State Fault Refusal := .next (s.busWrite ini Reg.LNK_ENT_CMD 4)

/-- DONE (09 R229): a read of LNK.DONE. -/
def execDone (ini : Initiator) (s : State) : Host.Outcome State Fault Refusal := .next (s.busRead ini Reg.LNK_DONE)

/-- ALLOC (10 R257): a read of FRM.ALLOC. -/
def execAlloc (ini : Initiator) (s : State) : Host.Outcome State Fault Refusal := .next (s.busRead ini Reg.FRM_ALLOC)

/-- RELEASE (10 R256): a write of FRM.RELEASE. -/
def execRelease (ini : Initiator) (w : Word) (s : State) : Host.Outcome State Fault Refusal := .next (s.busWrite ini Reg.FRM_RELEASE w)

/-- RXQ (10 R258): a read of FRM.RXQ. -/
def execRxq (ini : Initiator) (s : State) : Host.Outcome State Fault Refusal := .next (s.busRead ini Reg.FRM_RXQ)

/-- INSERT (10 R273): NBT.CMD with OP = 1. -/
def execInsert (ini : Initiator) (s : State) : Host.Outcome State Fault Refusal := .next (s.busWrite ini Reg.NBT_CMD 1)

/-- DELETE (10 R273): NBT.CMD with OP = 3. -/
def execDelete (ini : Initiator) (s : State) : Host.Outcome State Fault Refusal := .next (s.busWrite ini Reg.NBT_CMD 3)

/-- LOOKUP (10 R273): NBT.CMD with OP = 4. -/
def execLookup (ini : Initiator) (s : State) : Host.Outcome State Fault Refusal := .next (s.busWrite ini Reg.NBT_CMD 4)

/-- NBT_READ (10 R273): NBT.CMD with OP = 5. -/
def execNbtRead (ini : Initiator) (s : State) : Host.Outcome State Fault Refusal := .next (s.busWrite ini Reg.NBT_CMD 5)

/-- UPDATE (10 R273): NBT.CMD with OP = 2 and a mask of the staged words. -/
def execUpdate (ini : Initiator) (mask : Byte) (s : State) : Host.Outcome State Fault Refusal :=
  .next (s.busWrite ini Reg.NBT_CMD (BitVec.ofNat 32 (2 + 0x100 * mask.toNat)))

/-- HVL_ENABLE (11 R288): a write of HVL.CFG with EN = 1. -/
def execHvlEnable (ini : Initiator) (w : Word) (s : State) : Host.Outcome State Fault Refusal := .next (s.busWrite ini Reg.HVL_CFG (withBits w 0 1 1))

end Sys2Proof.Machine
end

