-- ==== Sys2Proof/Machine/PortCommands.lean ====
section
/-! DEFINITION. The commands of software to the serial ports (15). -/

namespace Sys2Proof.Machine

open State

/-- QTX (15 R362): a write of SPTn.QTX. -/
def execQtx (ini : Initiator) (port : Nat) (w : Word) (s : State) : Host.Outcome State Fault Refusal :=
  .next (if port < 4 then s.busWrite ini (Reg.SPT_QTX port) w else s)

/-- QRX (15 R367): a read of SPTn.QRX. -/
def execQrx (ini : Initiator) (port : Nat) (s : State) : Host.Outcome State Fault Refusal :=
  .next (if port < 4 then s.busRead ini (Reg.SPT_QRX port) else s)

/-- FLUSH (15 R367): SPTn.CTRL.FLUSH. -/
def execFlush (ini : Initiator) (port : Nat) (s : State) : Host.Outcome State Fault Refusal :=
  .next (if port < 4 then s.busWrite ini (Reg.SPT_CTRL port) 1 else s)

/-- SPT_RELEASE (15 R364): SPTn.CTRL.RELEASE. -/
def execSptRelease (ini : Initiator) (port : Nat) (s : State) : Host.Outcome State Fault Refusal :=
  .next (if port < 4 then s.busWrite ini (Reg.SPT_CTRL port) 2 else s)

/-- PF_INV (15 R373): SPT0.CTRL.PF_INV. -/
def execPfInv (ini : Initiator) (s : State) : Host.Outcome State Fault Refusal := .next (s.busWrite ini (Reg.SPT_CTRL 0) 4)

/-- WINDOW_READ (15 R370): a read or fetch through a window, with the bytes that the external device answers. -/
def execWindowRead (req : BusReq) (dev : List Byte) (s : State) : Host.Outcome State Fault Refusal :=
  .next (s.busAccess { req with op := if isWrite req then .read else req.op } dev)

/-- WINDOW_WRITE (15 R371): a write through a window. -/
def execWindowWrite (req : BusReq) (s : State) : Host.Outcome State Fault Refusal := .next (s.busAccess req [])

end Sys2Proof.Machine
end

