-- ==== Sys2Proof/Machine/SecurityCommands.lean ====
section
/-! DEFINITION. The commands of software to the security engine and the key store (12). -/

namespace Sys2Proof.Machine

open State

/-- A write of SEC.JOB_CMD with an operation (12 R314). -/
def jobCmd (s : State) (i : Initiator) (op : Nat) (w : Word) : State := s.busWrite i Reg.SEC_JOB_CMD (withBits w 0 4 op)

/-- A write of KST.CMD (12 R321, R528). -/
def kstCmd (s : State) (i : Initiator) (op slot : Nat) : State :=
  s.busWrite i Reg.KST_CMD (BitVec.ofNat 32 (op + 0x10000 * (slot % 4096)))

/-- AES_ECB_ENCRYPT (12 R314): JOB_CMD with OP = 1. -/
def execAesEcbEncrypt (ini : Initiator) (w : Word) (s : State) : Host.Outcome State Fault Refusal := .next (jobCmd s ini 1 w)

/-- AES_CTR (12 R314): JOB_CMD with OP = 2. -/
def execAesCtr (ini : Initiator) (w : Word) (s : State) : Host.Outcome State Fault Refusal := .next (jobCmd s ini 2 w)

/-- CCM_ENCRYPT (12 R314): JOB_CMD with OP = 3. -/
def execCcmEncrypt (ini : Initiator) (w : Word) (s : State) : Host.Outcome State Fault Refusal := .next (jobCmd s ini 3 w)

/-- CCM_DECRYPT (12 R314): JOB_CMD with OP = 4. -/
def execCcmDecrypt (ini : Initiator) (w : Word) (s : State) : Host.Outcome State Fault Refusal := .next (jobCmd s ini 4 w)

/-- SHA_256 (12 R314): JOB_CMD with OP = 5. -/
def execSha256 (ini : Initiator) (w : Word) (s : State) : Host.Outcome State Fault Refusal := .next (jobCmd s ini 5 w)

/-- ECDSA_P256_VERIFY (12 R314): JOB_CMD with OP = 6. -/
def execEcdsaP256Verify (ini : Initiator) (w : Word) (s : State) : Host.Outcome State Fault Refusal := .next (jobCmd s ini 6 w)

/-- RNG (12 R315): a read of SEC.RNG. -/
def execRng (ini : Initiator) (s : State) : Host.Outcome State Fault Refusal := .next (s.busRead ini Reg.SEC_RNG)

/-- RNG_RESTART (12 R315): a write of SEC.RNG_STAT.RNG_RESTART. -/
def execRngRestart (ini : Initiator) (s : State) : Host.Outcome State Fault Refusal := .next (s.busWrite ini Reg.SEC_RNG_STAT 0x80)

/-- KEY_STORE_WRITE (12 R306): a write of the SCC to the key store. -/
def execKeyStoreWrite (addr : Word) (size : AccessSize) (w : Word) (s : State) : Host.Outcome State Fault Refusal :=
  .next (s.busAccess ⟨.scc, addr, size, .write w⟩ [])

/-- SET_ATTR (12 R321, R528): KST.CMD with OP = 1. -/
def execSetAttr (ini : Initiator) (slot : Nat) (s : State) : Host.Outcome State Fault Refusal := .next (kstCmd s ini 1 slot)

/-- ERASE_KEY (12 R321, R528): KST.CMD with OP = 2. -/
def execEraseKey (ini : Initiator) (slot : Nat) (s : State) : Host.Outcome State Fault Refusal := .next (kstCmd s ini 2 slot)

/-- IMPORT (12 R321, R528): KST.CMD with OP = 4. -/
def execImportKey (ini : Initiator) (slot : Nat) (s : State) : Host.Outcome State Fault Refusal := .next (kstCmd s ini 4 slot)

/-- EXPORT (12 R321, R528): KST.CMD with OP = 5. -/
def execExportKey (ini : Initiator) (slot : Nat) (s : State) : Host.Outcome State Fault Refusal := .next (kstCmd s ini 5 slot)

/-- READ_ATTR (12 R321, R528): KST.CMD with OP = 6. -/
def execReadAttr (ini : Initiator) (slot : Nat) (s : State) : Host.Outcome State Fault Refusal := .next (kstCmd s ini 6 slot)

/-- OTP_WRITE (12 R321, R528): KST.CMD with OP = 7. -/
def execOtpWrite (ini : Initiator) (slot : Nat) (s : State) : Host.Outcome State Fault Refusal := .next (kstCmd s ini 7 slot)

/-- ERASE_ALL (12 R321): KST.CMD with OP = 3. -/
def execEraseAll (ini : Initiator) (s : State) : Host.Outcome State Fault Refusal := .next (kstCmd s ini 3 0)

end Sys2Proof.Machine
end

