-- ==== Sys2Proof/Machine/SystemCommands.lean ====
section
/-! DEFINITION. The commands of software to the event fabric (17), the power manager and the clocks (18) and the resets (19). -/

namespace Sys2Proof.Machine

open State

/-- SW_TRIG (17 R401): a write of EVF.SW_TRIG. -/
def execSwTrig (ini : Initiator) (w : Word) (s : State) : Host.Outcome State Fault Refusal := .next (s.busWrite ini Reg.EVF_SW_TRIG w)

/-- TASK_TRIG (17 R401): a write of EVF.TASK_TRIG. -/
def execTaskTrig (ini : Initiator) (w : Word) (s : State) : Host.Outcome State Fault Refusal := .next (s.busWrite ini Reg.EVF_TASK_TRIG w)

/-- REQ (18 R408): a write of PWR.REQ. -/
def execReq (ini : Initiator) (w : Word) (s : State) : Host.Outcome State Fault Refusal := .next (s.busWrite ini Reg.PWR_REQ w)

/-- RADIO_ON (18 R404): a write of PWR.DOM. -/
def execRadioOn (ini : Initiator) (w : Word) (s : State) : Host.Outcome State Fault Refusal := .next (s.busWrite ini Reg.PWR_DOM w)

/-- OP_TARGET (18 R422): a write of PWR.OP. -/
def execOpTarget (ini : Initiator) (w : Word) (s : State) : Host.Outcome State Fault Refusal := .next (s.busWrite ini Reg.PWR_OP w)

/-- CLK_CFG_WRITE (18 R419): a write of CLK.CFG. -/
def execClkCfgWrite (ini : Initiator) (w : Word) (s : State) : Host.Outcome State Fault Refusal := .next (s.busWrite ini Reg.CLK_CFG w)

/-- SOFT_CHIP (19 R432, R443; 21 R479): the reset that a configuration fault has asked for, else a keyed write of SYS.RESET_CTRL with CHIP = 1.
The position strap is read again (11 R279; log entry 39). -/
def execSoftChip (ini : Initiator) (reset : ResetWrite) (s : State) : Host.Outcome State Fault Refusal :=
  let s1 : State := { s with hvl := { s.hvl with strap := reset.pos % 8 } }
  .next (if s.flt.resetReq then s1.chipResetOrWait 5 reset.pos
    else s1.busWrite ini Reg.SYS_RESET_CTRL (withBits reset.w 0 1 1))

/-- RESTART_APC (19 R442, R443): a keyed write of SYS.RESET_CTRL with RESTART_APC = 1 and CHIP = 0. -/
def execRestartApc (ini : Initiator) (w : Word) (s : State) : Host.Outcome State Fault Refusal :=
  .next (s.busWrite ini Reg.SYS_RESET_CTRL (withBits (withBits w 0 1 0) 1 1 1))

/-- RESTART_NTC (19 R442, R443): a keyed write of SYS.RESET_CTRL with RESTART_NTC = 1 and CHIP = 0. -/
def execRestartNtc (ini : Initiator) (w : Word) (s : State) : Host.Outcome State Fault Refusal :=
  .next (s.busWrite ini Reg.SYS_RESET_CTRL (withBits (withBits w 0 1 0) 2 1 1))

end Sys2Proof.Machine
end

