-- ==== Sys2Proof/Machine/TimeCommands.lean ====
section
/-! DEFINITION. The commands of software to the time base, the timers and the watchdog (08). -/

namespace Sys2Proof.Machine

open State

/-- NOW_LO (08 R199): a read of TMB.NOW_LO. -/
def execNowLo (ini : Initiator) (s : State) : Host.Outcome State Fault Refusal := .next (s.busRead ini Reg.TMB_NOW_LO)

/-- ALARM_HI_WRITE (08 R200). -/
def execAlarmHiWrite (ini : Initiator) (n : Nat) (w : Word) (s : State) : Host.Outcome State Fault Refusal :=
  .next (if n < 8 then s.busWrite ini (Reg.TMB_ALARM_HI n) w else s)

/-- ALARM_LO_WRITE (08 R201). -/
def execAlarmLoWrite (ini : Initiator) (n : Nat) (w : Word) (s : State) : Host.Outcome State Fault Refusal :=
  .next (if n < 8 then s.busWrite ini (Reg.TMB_ALARM_LO n) w else s)

/-- ALARM_EN_WRITE (08 R201). -/
def execAlarmEnWrite (ini : Initiator) (w : Word) (s : State) : Host.Outcome State Fault Refusal := .next (s.busWrite ini Reg.TMB_ALARM_EN w)

/-- START (08 R209): TMRt.CMD.START or the task START. -/
def execStart (t : Nat) (via : Via) (s : State) : Host.Outcome State Fault Refusal :=
  .next (if t < 4 then viaTask s via (Reg.TMR_CMD t) 1 (P.TMR t) 0 else s)

/-- STOP (08 R209): TMRt.CMD.STOP or the task STOP. -/
def execStop (t : Nat) (via : Via) (s : State) : Host.Outcome State Fault Refusal :=
  .next (if t < 4 then viaTask s via (Reg.TMR_CMD t) 2 (P.TMR t) 1 else s)

/-- CLEAR (08 R209): TMRt.CMD.CLEAR or the task CLEAR. -/
def execClear (t : Nat) (via : Via) (s : State) : Host.Outcome State Fault Refusal :=
  .next (if t < 4 then viaTask s via (Reg.TMR_CMD t) 4 (P.TMR t) 2 else s)

/-- LOAD (08 R209): TMRt.CMD.LOAD. -/
def execLoad (t : Nat) (ini : Initiator) (s : State) : Host.Outcome State Fault Refusal :=
  .next (if t < 4 then s.busWrite ini (Reg.TMR_CMD t) 8 else s)

/-- CAPTURE (08 R209): a trigger of the task CAPTUREk of a timer. -/
def execCapture (t k : Nat) (s : State) : Host.Outcome State Fault Refusal :=
  .next (if t < 4 ∧ k < 4 then s.deliverTask (taskId (P.TMR t) (3 + k)) 1 else s)

/-- WDT_ENABLE (08 R213): a write of WDT.CFG with EN = 1. -/
def execWdtEnable (ini : Initiator) (w : Word) (s : State) : Host.Outcome State Fault Refusal := .next (s.busWrite ini Reg.WDT_CFG (withBits w 0 1 1))

/-- FEED (08 R214): a write of WDT.FEED. -/
def execFeed (ini : Initiator) (w : Word) (s : State) : Host.Outcome State Fault Refusal := .next (s.busWrite ini Reg.WDT_FEED w)

end Sys2Proof.Machine
end

