-- ==== Sys2Proof/Machine/UpdateCommands.lean ====
section
/-! DEFINITION. The commands of software to the update unit (20). -/

namespace Sys2Proof.Machine

open State

/-- A write of UPD.CMD with an operation (20 R463). -/
def updWrite (s : State) (i : Initiator) (op : Nat) (w : Word) : State := s.busWrite i Reg.UPD_CMD (withBits w 0 4 op)

/-- STAGE (20 R447): UPD.CMD with OP = 1. -/
def execStage (ini : Initiator) (w : Word) (s : State) : Host.Outcome State Fault Refusal := .next (updWrite s ini 1 w)

/-- ACTIVATE (20 R450): UPD.CMD with OP = 2. -/
def execActivate (ini : Initiator) (w : Word) (s : State) : Host.Outcome State Fault Refusal := .next (updWrite s ini 2 w)

/-- ABANDON (20 R450): UPD.CMD with OP = 3. -/
def execAbandon (ini : Initiator) (w : Word) (s : State) : Host.Outcome State Fault Refusal := .next (updWrite s ini 3 w)

/-- REVERT (20 R460): UPD.CMD with OP = 4. -/
def execRevert (ini : Initiator) (w : Word) (s : State) : Host.Outcome State Fault Refusal := .next (updWrite s ini 4 w)

/-- RECOPY (20 R457): UPD.CMD with OP = 5. -/
def execRecopy (ini : Initiator) (w : Word) (s : State) : Host.Outcome State Fault Refusal := .next (updWrite s ini 5 w)

/-- HANDOVER (20 R455): a write of UPD.HANDOVER. -/
def execHandover (ini : Initiator) (w : Word) (s : State) : Host.Outcome State Fault Refusal := .next (s.busWrite ini Reg.UPD_HANDOVER w)

/-- CONFIRM (20 R459): a write of UPD.CONFIRM. -/
def execConfirm (ini : Initiator) (w : Word) (s : State) : Host.Outcome State Fault Refusal := .next (s.busWrite ini Reg.UPD_CONFIRM w)

end Sys2Proof.Machine
end

