-- ==== Sys2Proof/Machine/Dispatch.lean ====
section
/-! DEFINITION. The dispatch of commands: one arm per row of the opcode table, each one call of its meaning. -/

namespace Sys2Proof.Machine

/-- What command `i` does to the state. -/
def exec (i : Instr) (s : State) : Host.Outcome State Fault Refusal :=
  match i with
  | .busAccess req => Sys2Proof.Machine.execBusAccess req s
  | .softReset ini page w => Sys2Proof.Machine.execSoftReset ini page w s
  | .softResetDone page => Sys2Proof.Machine.execSoftResetDone page s
  | .pageEnable ini page en => Sys2Proof.Machine.execPageEnable ini page en s
  | .lock ini page en => Sys2Proof.Machine.execLock ini page en s
  | .irqSet ini page w => Sys2Proof.Machine.execIrqSet ini page w s
  | .compute ini page w => Sys2Proof.Machine.execCompute ini page w s
  | .latchRef ini page w => Sys2Proof.Machine.execLatchRef ini page w s
  | .sealInterval pages => Sys2Proof.Machine.execSealInterval pages s
  | .sealDone page => Sys2Proof.Machine.execSealDone page s
  | .scsSettled => Sys2Proof.Machine.execScsSettled s
  | .scsUnlock => Sys2Proof.Machine.execScsUnlock s
  | .scsRelock ok => Sys2Proof.Machine.execScsRelock ok s
  | .agcWindowEnd peak rms clipped => Sys2Proof.Machine.execAgcWindowEnd peak rms clipped s
  | .agcHoldExpiry => Sys2Proof.Machine.execAgcHoldExpiry s
  | .receiverRunning => Sys2Proof.Machine.execReceiverRunning s
  | .whiff ini w => Sys2Proof.Machine.execWhiff ini w s
  | .whiffCaptureStart => Sys2Proof.Machine.execWhiffCaptureStart s
  | .whiffCaptureEnd clipped => Sys2Proof.Machine.execWhiffCaptureEnd clipped s
  | .crsLock => Sys2Proof.Machine.execCrsLock s
  | .crsUnlock => Sys2Proof.Machine.execCrsUnlock s
  | .crsRelock ok => Sys2Proof.Machine.execCrsRelock ok s
  | .txSequenceStart round => Sys2Proof.Machine.execTxSequenceStart round s
  | .rampUpStart => Sys2Proof.Machine.execRampUpStart s
  | .onAir => Sys2Proof.Machine.execOnAir s
  | .frameTxEnd det => Sys2Proof.Machine.execFrameTxEnd det s
  | .rampDownEnd => Sys2Proof.Machine.execRampDownEnd s
  | .antSelExit => Sys2Proof.Machine.execAntSelExit s
  | .underrun => Sys2Proof.Machine.execUnderrun s
  | .ilim => Sys2Proof.Machine.execIlim s
  | .rcpSenseSample round => Sys2Proof.Machine.execRcpSenseSample round s
  | .tsnRoundEnd m => Sys2Proof.Machine.execTsnRoundEnd m s
  | .sample via => Sys2Proof.Machine.execSample via s
  | .tsnSampleLatched => Sys2Proof.Machine.execTsnSampleLatched s
  | .idle ini w => Sys2Proof.Machine.execIdle ini w s
  | .armRx ini w => Sys2Proof.Machine.execArmRx ini w s
  | .rx ini w => Sys2Proof.Machine.execRx ini w s
  | .rxMulti ini w => Sys2Proof.Machine.execRxMulti ini w s
  | .tx ini w => Sys2Proof.Machine.execTx ini w s
  | .txCca ini w => Sys2Proof.Machine.execTxCca ini w s
  | .cal ini w => Sys2Proof.Machine.execCal ini w s
  | .pretune ini w => Sys2Proof.Machine.execPretune ini w s
  | .abort ini w => Sys2Proof.Machine.execAbort ini w s
  | .off ini w => Sys2Proof.Machine.execOff ini w s
  | .timedCommandDue slot => Sys2Proof.Machine.execTimedCommandDue slot s
  | .queuedCommandEval => Sys2Proof.Machine.execQueuedCommandEval s
  | .transitionEnd => Sys2Proof.Machine.execTransitionEnd s
  | .turnRoundRxRelease => Sys2Proof.Machine.execTurnRoundRxRelease s
  | .calStepDone hpGain devErr => Sys2Proof.Machine.execCalStepDone hpGain devErr s
  | .autoCalStart => Sys2Proof.Machine.execAutoCalStart s
  | .channelizerUpdate => Sys2Proof.Machine.execChannelizerUpdate s
  | .preambleDetect slice power => Sys2Proof.Machine.execPreambleDetect slice power s
  | .syncMatch slice lo hi rssi phase => Sys2Proof.Machine.execSyncMatch slice lo hi rssi phase s
  | .syncSearchTimeout slice => Sys2Proof.Machine.execSyncSearchTimeout slice s
  | .headerCheck slice hdr => Sys2Proof.Machine.execHeaderCheck slice hdr s
  | .captureSwitch unit power => Sys2Proof.Machine.execCaptureSwitch unit power s
  | .rxDataBlock unit bytes => Sys2Proof.Machine.execRxDataBlock unit bytes s
  | .macHeaderParsed unit => Sys2Proof.Machine.execMacHeaderParsed unit s
  | .rxFrameEnd unit meas => Sys2Proof.Machine.execRxFrameEnd unit meas s
  | .frameVerdict unit => Sys2Proof.Machine.execFrameVerdict unit s
  | .stfDetect lane power => Sys2Proof.Machine.execStfDetect lane power s
  | .ltfEnd lane rssi phase => Sys2Proof.Machine.execLtfEnd lane rssi phase s
  | .faoHeaderCheck lane hdr => Sys2Proof.Machine.execFaoHeaderCheck lane hdr s
  | .segmentRequest unit soft final => Sys2Proof.Machine.execSegmentRequest unit soft final s
  | .segmentDone waitNs => Sys2Proof.Machine.execSegmentDone waitNs s
  | .softBitOverflow unit => Sys2Proof.Machine.execSoftBitOverflow unit s
  | .slowTick => Sys2Proof.Machine.execSlowTick s
  | .finePartStart => Sys2Proof.Machine.execFinePartStart s
  | .nowLo ini => Sys2Proof.Machine.execNowLo ini s
  | .alarmHiWrite ini n w => Sys2Proof.Machine.execAlarmHiWrite ini n w s
  | .alarmLoWrite ini n w => Sys2Proof.Machine.execAlarmLoWrite ini n w s
  | .alarmWriteEffect n => Sys2Proof.Machine.execAlarmWriteEffect n s
  | .alarmFire n => Sys2Proof.Machine.execAlarmFire n s
  | .alarmEnWrite ini w => Sys2Proof.Machine.execAlarmEnWrite ini w s
  | .start t via => Sys2Proof.Machine.execStart t via s
  | .stop t via => Sys2Proof.Machine.execStop t via s
  | .clear t via => Sys2Proof.Machine.execClear t via s
  | .load t ini => Sys2Proof.Machine.execLoad t ini s
  | .capture t k => Sys2Proof.Machine.execCapture t k s
  | .wrap t => Sys2Proof.Machine.execWrap t s
  | .cmp t k => Sys2Proof.Machine.execCmp t k s
  | .lptSyncDone => Sys2Proof.Machine.execLptSyncDone s
  | .lptWrap m => Sys2Proof.Machine.execLptWrap m s
  | .lptCmp m => Sys2Proof.Machine.execLptCmp m s
  | .wdtEnable ini w => Sys2Proof.Machine.execWdtEnable ini w s
  | .feed ini w => Sys2Proof.Machine.execFeed ini w s
  | .prewarn => Sys2Proof.Machine.execPrewarn s
  | .wdtExpiry => Sys2Proof.Machine.execWdtExpiry s
  | .arm ini => Sys2Proof.Machine.execArm ini s
  | .cancel ini => Sys2Proof.Machine.execCancel ini s
  | .read ini => Sys2Proof.Machine.execRead ini s
  | .cancelAll ini => Sys2Proof.Machine.execCancelAll ini s
  | .handOver => Sys2Proof.Machine.execHandOver s
  | .entryStart k => Sys2Proof.Machine.execEntryStart k s
  | .entryCompletion k => Sys2Proof.Machine.execEntryCompletion k s
  | .receiveWindowClose => Sys2Proof.Machine.execReceiveWindowClose s
  | .done ini => Sys2Proof.Machine.execDone ini s
  | .runAhead => Sys2Proof.Machine.execRunAhead s
  | .ccaWindowEnd power carrier => Sys2Proof.Machine.execCcaWindowEnd power carrier s
  | .speculationStart unit => Sys2Proof.Machine.execSpeculationStart unit s
  | .contextBlockTake => Sys2Proof.Machine.execContextBlockTake s
  | .commit unit => Sys2Proof.Machine.execCommit unit s
  | .squash unit => Sys2Proof.Machine.execSquash unit s
  | .commitDeadline unit => Sys2Proof.Machine.execCommitDeadline unit s
  | .ackFail underrun => Sys2Proof.Machine.execAckFail underrun s
  | .sharedRequestServed u => Sys2Proof.Machine.execSharedRequestServed u s
  | .nbtLookupReturn unit => Sys2Proof.Machine.execNbtLookupReturn unit s
  | .alloc ini => Sys2Proof.Machine.execAlloc ini s
  | .release ini w => Sys2Proof.Machine.execRelease ini w s
  | .rxq ini => Sys2Proof.Machine.execRxq ini s
  | .insert ini => Sys2Proof.Machine.execInsert ini s
  | .update ini mask => Sys2Proof.Machine.execUpdate ini mask s
  | .delete ini => Sys2Proof.Machine.execDelete ini s
  | .lookup ini => Sys2Proof.Machine.execLookup ini s
  | .nbtRead ini => Sys2Proof.Machine.execNbtRead ini s
  | .nbtCommandDone ini => Sys2Proof.Machine.execNbtCommandDone ini s
  | .hvlEnable ini w => Sys2Proof.Machine.execHvlEnable ini w s
  | .trainingDone port nbrPos lanes => Sys2Proof.Machine.execTrainingDone port nbrPos lanes s
  | .hello p => Sys2Proof.Machine.execHello p s
  | .welcome p => Sys2Proof.Machine.execWelcome p s
  | .time p => Sys2Proof.Machine.execTime p s
  | .hvlSyncEdge => Sys2Proof.Machine.execHvlSyncEdge s
  | .syncMarker => Sys2Proof.Machine.execSyncMarker s
  | .missingEdge => Sys2Proof.Machine.execMissingEdge s
  | .hvlLookup p => Sys2Proof.Machine.execHvlLookup p s
  | .reply p latNs => Sys2Proof.Machine.execReply p latNs s
  | .verdict p => Sys2Proof.Machine.execVerdict p s
  | .nbtCmd p => Sys2Proof.Machine.execNbtCmd p s
  | .nbtRes p => Sys2Proof.Machine.execNbtRes p s
  | .entry p => Sys2Proof.Machine.execEntry p s
  | .entryRes p => Sys2Proof.Machine.execEntryRes p s
  | .frame p => Sys2Proof.Machine.execFrame p s
  | .fwdAck p => Sys2Proof.Machine.execFwdAck p s
  | .forwardResend => Sys2Proof.Machine.execForwardResend s
  | .linkDown p => Sys2Proof.Machine.execLinkDown p s
  | .commitAt p => Sys2Proof.Machine.execCommitAt p s
  | .packetAck port seq => Sys2Proof.Machine.execPacketAck port seq s
  | .packetNak port seq => Sys2Proof.Machine.execPacketNak port seq s
  | .packetCrcFail p code lane => Sys2Proof.Machine.execPacketCrcFail p code lane s
  | .resendTimeout port seq => Sys2Proof.Machine.execResendTimeout port seq s
  | .retrainDone port lanes => Sys2Proof.Machine.execRetrainDone port lanes s
  | .hopDown port => Sys2Proof.Machine.execHopDown port s
  | .prbsTestDone port err0 err1 => Sys2Proof.Machine.execPrbsTestDone port err0 err1 s
  | .aesEcbEncrypt ini w => Sys2Proof.Machine.execAesEcbEncrypt ini w s
  | .aesCtr ini w => Sys2Proof.Machine.execAesCtr ini w s
  | .ccmEncrypt ini w => Sys2Proof.Machine.execCcmEncrypt ini w s
  | .ccmDecrypt ini w => Sys2Proof.Machine.execCcmDecrypt ini w s
  | .sha256 ini w => Sys2Proof.Machine.execSha256 ini w s
  | .ecdsaP256Verify ini w => Sys2Proof.Machine.execEcdsaP256Verify ini w s
  | .jobDone => Sys2Proof.Machine.execJobDone s
  | .rng ini => Sys2Proof.Machine.execRng ini s
  | .rngWord w ok => Sys2Proof.Machine.execRngWord w ok s
  | .rngRestart ini => Sys2Proof.Machine.execRngRestart ini s
  | .securityRequest stream => Sys2Proof.Machine.execSecurityRequest stream s
  | .keyStoreWrite addr size w => Sys2Proof.Machine.execKeyStoreWrite addr size w s
  | .setAttr ini slot => Sys2Proof.Machine.execSetAttr ini slot s
  | .eraseKey ini slot => Sys2Proof.Machine.execEraseKey ini slot s
  | .eraseAll ini => Sys2Proof.Machine.execEraseAll ini s
  | .importKey ini slot => Sys2Proof.Machine.execImportKey ini slot s
  | .exportKey ini slot => Sys2Proof.Machine.execExportKey ini slot s
  | .readAttr ini slot => Sys2Proof.Machine.execReadAttr ini slot s
  | .otpWrite ini slot => Sys2Proof.Machine.execOtpWrite ini slot s
  | .kstCommandDone => Sys2Proof.Machine.execKstCommandDone s
  | .dbgChal nonce => Sys2Proof.Machine.execDbgChal nonce s
  | .dbgResp scope pub sig => Sys2Proof.Machine.execDbgResp scope pub sig s
  | .claim ini => Sys2Proof.Machine.execClaim ini s
  | .complete ini w => Sys2Proof.Machine.execComplete ini w s
  | .cacheInv ini w => Sys2Proof.Machine.execCacheInv ini w s
  | .mboxTx ini c w => Sys2Proof.Machine.execMboxTx ini c w s
  | .mboxRx ini c => Sys2Proof.Machine.execMboxRx ini c s
  | .debugHalt hart => Sys2Proof.Machine.execDebugHalt hart s
  | .debugResume hart => Sys2Proof.Machine.execDebugResume hart s
  | .submit ini => Sys2Proof.Machine.execSubmit ini s
  | .program units => Sys2Proof.Machine.execProgram units s
  | .erase complete => Sys2Proof.Machine.execErase complete s
  | .readback units weak => Sys2Proof.Machine.execReadback units weak s
  | .descDone dur => Sys2Proof.Machine.execDescDone dur s
  | .flcDone ini => Sys2Proof.Machine.execFlcDone ini s
  | .suspend ini => Sys2Proof.Machine.execSuspend ini s
  | .resume ini => Sys2Proof.Machine.execResume ini s
  | .flcAbort ini => Sys2Proof.Machine.execFlcAbort ini s
  | .autoResume => Sys2Proof.Machine.execAutoResume s
  | .minRunEnd => Sys2Proof.Machine.execMinRunEnd s
  | .qtx ini port w => Sys2Proof.Machine.execQtx ini port w s
  | .qrx ini port => Sys2Proof.Machine.execQrx ini port s
  | .flush ini port => Sys2Proof.Machine.execFlush ini port s
  | .sptRelease ini port => Sys2Proof.Machine.execSptRelease ini port s
  | .pfInv ini => Sys2Proof.Machine.execPfInv ini s
  | .queueWordDone port rx => Sys2Proof.Machine.execQueueWordDone port rx s
  | .holdExpired port => Sys2Proof.Machine.execHoldExpired port s
  | .slaveWord port rx => Sys2Proof.Machine.execSlaveWord port rx s
  | .shortWord port => Sys2Proof.Machine.execShortWord port s
  | .windowRead req dev => Sys2Proof.Machine.execWindowRead req dev s
  | .windowWrite req => Sys2Proof.Machine.execWindowWrite req s
  | .writeBufferFlush port => Sys2Proof.Machine.execWriteBufferFlush port s
  | .statusPoll port status => Sys2Proof.Machine.execStatusPoll port status s
  | .pollTimeout port => Sys2Proof.Machine.execPollTimeout port s
  | .lineFillDone dev => Sys2Proof.Machine.execLineFillDone dev s
  | .lookAheadFill => Sys2Proof.Machine.execLookAheadFill s
  | .hspCsFall mode3 => Sys2Proof.Machine.execHspCsFall mode3 s
  | .nop cmd crc => Sys2Proof.Machine.execNop cmd crc s
  | .hspRead cmd addr crcs late => Sys2Proof.Machine.execHspRead cmd addr crcs late s
  | .hspWrite cmd addr crcs words => Sys2Proof.Machine.execHspWrite cmd addr crcs words s
  | .cut => Sys2Proof.Machine.execCut s
  | .dbSet ini w => Sys2Proof.Machine.execDbSet ini w s
  | .doorbell ini w => Sys2Proof.Machine.execDoorbell ini w s
  | .eventSample => Sys2Proof.Machine.execEventSample s
  | .taskTrigger task => Sys2Proof.Machine.execTaskTrigger task s
  | .swTrig ini w => Sys2Proof.Machine.execSwTrig ini w s
  | .taskTrig ini w => Sys2Proof.Machine.execTaskTrig ini w s
  | .heldEventsSample => Sys2Proof.Machine.execHeldEventsSample s
  | .pinEvt pin rising => Sys2Proof.Machine.execPinEvt pin rising s
  | .gpioInt pin level => Sys2Proof.Machine.execGpioInt pin level s
  | .req ini w => Sys2Proof.Machine.execReq ini w s
  | .entryBegin => Sys2Proof.Machine.execEntryBegin s
  | .entryInstant => Sys2Proof.Machine.execEntryInstant s
  | .entryAborted srcs => Sys2Proof.Machine.execEntryAborted srcs s
  | .wake srcs => Sys2Proof.Machine.execWake srcs s
  | .wakePin pin level => Sys2Proof.Machine.execWakePin pin level s
  | .radioOn ini w => Sys2Proof.Machine.execRadioOn ini w s
  | .radioDomainUp => Sys2Proof.Machine.execRadioDomainUp s
  | .bankClearDone bank => Sys2Proof.Machine.execBankClearDone bank s
  | .opTarget ini w => Sys2Proof.Machine.execOpTarget ini w s
  | .opDone => Sys2Proof.Machine.execOpDone s
  | .clkCfgWrite ini w => Sys2Proof.Machine.execClkCfgWrite ini w s
  | .switched => Sys2Proof.Machine.execSwitched s
  | .hfxoStable => Sys2Proof.Machine.execHfxoStable s
  | .pllLock => Sys2Proof.Machine.execPllLock s
  | .hfxoFail => Sys2Proof.Machine.execHfxoFail s
  | .lfxoFail => Sys2Proof.Machine.execLfxoFail s
  | .lfxoReturn => Sys2Proof.Machine.execLfxoReturn s
  | .voutCommand => Sys2Proof.Machine.execVoutCommand s
  | .operation on => Sys2Proof.Machine.execOperation on s
  | .statusByte r => Sys2Proof.Machine.execStatusByte r s
  | .rrpResend => Sys2Proof.Machine.execRrpResend s
  | .rrpTimeout => Sys2Proof.Machine.execRrpTimeout s
  | .por regSel pos => Sys2Proof.Machine.execPor regSel pos s
  | .bor regSel pos => Sys2Proof.Machine.execBor regSel pos s
  | .pin pos => Sys2Proof.Machine.execPin pos s
  | .wdt pos => Sys2Proof.Machine.execWdt pos s
  | .softChip ini reset => Sys2Proof.Machine.execSoftChip ini reset s
  | .updateFallback pos => Sys2Proof.Machine.execUpdateFallback pos s
  | .restartApc ini w => Sys2Proof.Machine.execRestartApc ini w s
  | .restartNtc ini w => Sys2Proof.Machine.execRestartNtc ini w s
  | .flashSafePointReset units => Sys2Proof.Machine.execFlashSafePointReset units s
  | .bootStart trims => Sys2Proof.Machine.execBootStart trims s
  | .coreRelease core => Sys2Proof.Machine.execCoreRelease core s
  | .bootDone => Sys2Proof.Machine.execBootDone s
  | .engineCodeLoad e => Sys2Proof.Machine.execEngineCodeLoad e s
  | .engReady => Sys2Proof.Machine.execEngReady s
  | .engineReload e => Sys2Proof.Machine.execEngineReload e s
  | .stage ini w => Sys2Proof.Machine.execStage ini w s
  | .stageDone => Sys2Proof.Machine.execStageDone s
  | .activate ini w => Sys2Proof.Machine.execActivate ini w s
  | .abandon ini w => Sys2Proof.Machine.execAbandon ini w s
  | .revert ini w => Sys2Proof.Machine.execRevert ini w s
  | .recopy ini w => Sys2Proof.Machine.execRecopy ini w s
  | .commitSuspend => Sys2Proof.Machine.execCommitSuspend s
  | .commitPoint => Sys2Proof.Machine.execCommitPoint s
  | .homeCopySector ok => Sys2Proof.Machine.execHomeCopySector ok s
  | .engineChangeover e block => Sys2Proof.Machine.execEngineChangeover e block s
  | .engineAccept e ok => Sys2Proof.Machine.execEngineAccept e ok s
  | .quietLimit => Sys2Proof.Machine.execQuietLimit s
  | .handover ini w => Sys2Proof.Machine.execHandover ini w s
  | .handoverWait core => Sys2Proof.Machine.execHandoverWait core s
  | .confirm ini w => Sys2Proof.Machine.execConfirm ini w s
  | .confirmWindow => Sys2Proof.Machine.execConfirmWindow s
  | .fallback => Sys2Proof.Machine.execFallback s
  | .fault src => Sys2Proof.Machine.execFault src s
  | .retry unit ok => Sys2Proof.Machine.execRetry unit ok s
  | .recordRewriteDone fails => Sys2Proof.Machine.execRecordRewriteDone fails s
  | .retire ini unit => Sys2Proof.Machine.execRetire ini unit s
  | .unretire ini unit => Sys2Proof.Machine.execUnretire ini unit s
  | .clearCount ini unit => Sys2Proof.Machine.execClearCount ini unit s
  | .rewrite ini unit => Sys2Proof.Machine.execRewrite ini unit s
  | .log ini => Sys2Proof.Machine.execLog ini s
  | .test ini unit => Sys2Proof.Machine.execTest ini unit s
  | .bstAbort ini => Sys2Proof.Machine.execBstAbort ini s
  | .testIsolation => Sys2Proof.Machine.execTestIsolation s
  | .testDone r => Sys2Proof.Machine.execTestDone r s
  | .recArm via => Sys2Proof.Machine.execRecArm via s
  | .freeze via => Sys2Proof.Machine.execFreeze via s
  | .mark ini w => Sys2Proof.Machine.execMark ini w s
  | .postEnd => Sys2Proof.Machine.execPostEnd s
  | .frozen samples bad => Sys2Proof.Machine.execFrozen samples bad s
  | .replay ini => Sys2Proof.Machine.execReplay ini s
  | .replayDone frames => Sys2Proof.Machine.execReplayDone frames s
  | .rpq ini => Sys2Proof.Machine.execRpq ini s
  | .safePoint units => Sys2Proof.Machine.execSafePoint units s
  | .noTimeWithin16Ms => Sys2Proof.Machine.execNoTimeWithin16Ms s
  | .reservedTypePacket p => Sys2Proof.Machine.execReservedTypePacket p s
  | .hfxoFailsToStart => Sys2Proof.Machine.execHfxoFailsToStart s
  | .borRelease => Sys2Proof.Machine.execBorRelease s
  | .whiffDone bins descs => Sys2Proof.Machine.execWhiffDone bins descs s

end Sys2Proof.Machine
end

