-- ==== Sys2Proof/Machine/Step.lean ====
section
/-! DEFINITION. One step of the block: it takes the command at the front of the queue; with nothing queued, time passes by one
tick of the fine clock. -/

namespace Sys2Proof.Machine

/-- One step: the front command runs on the state with the queue's rest; an empty queue lets one fine tick pass. -/
def step (s : State) : Host.Outcome State Fault Refusal :=
  match s.pending with
  | c :: rest => exec c { s with pending := rest }
  | [] => .next s.fineTick

/-- `s` with the command that a table word spells put at the front of its queue (no word spells one). -/
def State.withFetchWord (s : State) (nbits w : Nat) : State :=
  match decodeTableWord nbits w with
  | some c => { s with pending := c :: s.pending }
  | none => s

end Sys2Proof.Machine
end

