-- ==== Sys2Proof/Safety.lean ====
section
/-! DEFINITION. What counts as a sound state and as a safe outcome, in the terms that the statements use. -/

namespace Sys2Proof.Machine

/-- Memory in its canonical form: strictly rising addresses, no byte listed that an unlisted address reads as. -/
abbrev Memory.wf (m : List Host.Cell) : Bool := Sparse.wf memDefault m

/-- The canonical form of the whole state: the shared registers, the registers with one copy per initiator, and memory. Equal contents are then
equal data. -/
def State.canonical (s : State) : Bool := Sparse.wf resetOf s.regs && Sparse.wf bankReset s.bank && Memory.wf s.mem

/-- The parts of the state beside the shared registers, by which the statements say what a command leaves as it was. -/
inductive Part where
  /-- Memory: flash, SRAM, the key store, the code RAMs. -/
  | mem
  /-- The security unit: key attributes, OTP, running jobs, the debug grant. -/
  | keys
  /-- The radio: controller, receiver, synthesiser, slices and lanes, compensation tables, the frame number. -/
  | radio
  /-- Link timing: timeline, completions, speculation contexts, shared-unit requests, neighbour table commands. -/
  | link
  /-- The owners of the radio buffer's blocks, and the receive queue. -/
  | buffers
  /-- The cascade link. -/
  | cascade
  /-- The time base, timers and watchdog beside their registers. -/
  | time
  /-- The event fabric. -/
  | events
  /-- Fault records, self-test and the recorder. -/
  | faults
  /-- Power, boot, update, engines, a reset that is asked for. -/
  | power
  /-- The cores and the interrupt controller. -/
  | cores
  /-- The flash controller. -/
  | flash
  /-- The serial ports, the prefetch unit and the host port. -/
  | ports
  /-- The answers of bus accesses, and the accesses that wait. -/
  | bus
  /-- The pages' parts that are no register. -/
  | pages
  /-- The registers with one copy per initiator. -/
  | copies
  deriving DecidableEq, Repr

/-- A part of the state is the same in two states. -/
def State.same (s t : State) : Part → Prop
  | .mem => t.mem = s.mem
  | .keys => t.sec = s.sec
  | .radio => (t.radio, t.rfe, t.crs, t.slices, t.lanes, t.comp, t.rxSeq) = (s.radio, s.rfe, s.crs, s.slices, s.lanes, s.comp, s.rxSeq)
  | .link => (t.timeline, t.doneQ, t.ctxs, t.shared, t.inService, t.stash, t.reserved, t.outUsed, t.nbtJobs) =
      (s.timeline, s.doneQ, s.ctxs, s.shared, s.inService, s.stash, s.reserved, s.outUsed, s.nbtJobs)
  | .buffers => (t.owners, t.rxq) = (s.owners, s.rxq)
  | .cascade => t.hvl = s.hvl
  | .time => (t.count, t.alarms, t.tmrs, t.lpts, t.lptPend, t.wdtFeed) = (s.count, s.alarms, s.tmrs, s.lpts, s.lptPend, s.wdtFeed)
  | .events => t.fabric = s.fabric
  | .faults => (t.recorder, t.bst, t.passed, t.flt) = (s.recorder, s.bst, s.passed, s.flt)
  | .power => (t.pwr, t.boot, t.upd, t.eng, t.resetReq) = (s.pwr, s.boot, s.upd, s.eng, s.resetReq)
  | .cores => (t.cores, t.icu) = (s.cores, s.icu)
  | .flash => t.flash = s.flash
  | .ports => (t.spts, t.prefetch, t.hsp) = (s.spts, s.prefetch, s.hsp)
  | .bus => (t.out, t.stalled) = (s.out, s.stalled)
  | .pages => t.pages = s.pages
  | .copies => t.bank = s.bank

/-- The page of a register address (02 R36). -/
def pageIx (a : Nat) : Nat := (a - 0x40000000) / 0x1000

/-- From `s` to `t` nothing changes but the named parts, the registers of the named pages and the named registers. The counter of free values is the
model's own and is not judged. -/
def State.onlyChanges (s t : State) (parts : List Part) (pgs regs : List Nat) : Prop :=
  t.pending = s.pending ∧ t.variant = s.variant ∧ (∀ k, k ∉ parts → s.same t k) ∧ ∀ a, pageIx a ∉ pgs → a ∉ regs → t.reg a = s.reg a

/-- An outcome of a step is safe when it is a next state in canonical form. -/
def safeOutcome : Host.Outcome State Fault Refusal → Bool
  | .next s => s.canonical
  | .fault _ => false
  | .refused _ => false

/-- An access that none of conditions 1 to 4 of 02 R40 ends and no memory protection (13 R323), that waits for nothing (02 R51; 13 R326; 14 R344), and
that no instruction cache serves; the host port's accesses go on only while READY is 1 (16 R388). -/
def State.admits (s : State) (r : BusReq) : Bool :=
  (r.ini != .host || s.hspReady) && (s.busCondition r).isNone && !s.pmpDenies r && ([r.addr.toNat, lastByte r].findSome? s.stallAt).isNone && (s.cachedFetch r).isNone

/-- A word write by initiator `i` at address `a`. -/
def writeReq (i : Initiator) (a : Nat) (w : Word) : BusReq := ⟨i, BitVec.ofNat 32 a, .word, .write w⟩

/-- A word read by initiator `i` at address `a`. -/
def readReq (i : Initiator) (a : Nat) : BusReq := ⟨i, BitVec.ofNat 32 a, .word, .read⟩

/-- A word write of `w` by `i` reaches the block register at offset `off` of page `p`, whose table row is `r`, and is stored: the access is admitted, the
page is not under test (21 R483), the register is present, no lock covers it (02 R54), and its block neither refuses the write nor takes it as a request only. -/
def State.takes (s : State) (i : Initiator) (p off : Nat) (w : Word) (r : RegRow) : Bool :=
  s.admits (writeReq i (pageAddr p off) w) && !s.on (F.PAGE_STAT_UNDER_TEST p) && !s.instAbsent p off && !(s.locked p && s.isConfig p off) &&
    decide (rowOf p off = some r) && (s.preWrite i p off (s.fitWord p off w)).isNone

/-- A word write by `i` reaches the block register at offset `off` of page `p`, whatever the block makes of it. -/
def State.brings (s : State) (i : Initiator) (p off : Nat) (w : Word) : Bool :=
  s.admits (writeReq i (pageAddr p off) w) && !s.on (F.PAGE_STAT_UNDER_TEST p) && !s.instAbsent p off && !(s.locked p && s.isConfig p off) &&
    (rowOf p off).isSome

/-- A word read by `i` reaches the block register at offset `off` of page `p`, which exists. -/
def State.offers (s : State) (i : Initiator) (p off : Nat) : Bool :=
  s.admits (readReq i (pageAddr p off)) && !s.on (F.PAGE_STAT_UNDER_TEST p) && !s.instAbsent p off && (rowOf p off).isSome

/-- The state in which the radio evaluates a write of RAD.CMD (05 R124, R125): the word is stored, RAD.CMD_STAT echoes it. -/
def State.cmdSeen (s : State) (i : Initiator) (w : Word) (r : RegRow) : State := (s.storeReg i P.RAD 0x100 r w).radTaken w.toNat

/-- The command that a write of `w` to RAD.CMD gives. -/
def State.cmdGiven (s : State) (i : Initiator) (w : Word) (r : RegRow) : RadOp := (s.cmdSeen i w r).cmdOp w.toNat

/-- A write of RAD.CMD reaches the radio and is evaluated: none other is being evaluated, RAD is enabled, the command is well formed (05 R126), no replay
runs (22 R501). -/
def State.cmdRead (s : State) (i : Initiator) (w : Word) (r : RegRow) : Bool :=
  s.takes i P.RAD 0x100 w r && !s.radio.evalOpen && (s.cmdSeen i w r).enabled P.RAD && !(s.cmdSeen i w r).malformed (s.cmdGiven i w r) &&
    (s.cmdSeen i w r).pageSt P.REC != 4

/-- An operation is accepted at once: the table of 05 R129 accepts it in the state by which it is judged, no committed acknowledgement holds a
transmission up, the pages and engines it needs are there (02 R52; 21 R464), and from IDLE the radio clock runs (18 R421). -/
def State.acceptsOp (s : State) (op : RadOp) : Bool :=
  acceptCell op.opcode (s.judgedBy op.opcode) == 1 && !((op.opcode == opTx || op.opcode == opTxCca) && s.ackCommitted && !s.txSending) &&
    s.pagesOn (s.opPages op) && !(opEngines op).any s.engHeld &&
    (s.judgedBy op.opcode != 1 || op.opcode == opIdle || op.opcode == opAbort || op.opcode == opOff || s.radioClock)

/-- An untimed command written to RAD.CMD is accepted at once. -/
def State.cmdTaken (s : State) (i : Initiator) (w : Word) (r : RegRow) : Bool :=
  s.cmdRead i w r && !(s.cmdGiven i w r).timed && (s.cmdSeen i w r).acceptsOp (s.cmdGiven i w r)

/-- A trigger reaches the input of task `t` and acts (17 R392, R398): the task and its page exist, are powered and enabled, TASK_EN lets the task in, the
fabric runs, fewer triggers of this task than the loop limit lie in the last 32 cycles where a limit is set (17 R399), and the task is not busy. -/
def State.taskGoes (s : State) (t : Nat) : Bool :=
  taskExists t && pagePresent s.variant (t / 8) && s.evfOn && s.pageOn (t / 8) && s.enabled (t / 8) && (s.reg (Reg.TASK_EN (t / 8))).toNat.testBit (t % 8) &&
    (s.get F.EVF_CFG_LOOP_LIMIT == 0 ||
      decide ((s.fabric.history.filter (fun h => decide (s.fabric.cycle < h.2 + 32) && h.1 == t)).length < s.get F.EVF_CFG_LOOP_LIMIT)) && !s.taskBusy t

/-- A software or task input is reached: the bus write is taken, or the trigger goes. -/
def State.reachesTask (s : State) (via : Via) (p off : Nat) (w : Word) (r : RegRow) (n : Nat) : Bool :=
  match via with
  | .bus i => s.takes i p off w r
  | .task => s.taskGoes (taskId p n)

/-- A packet for this device, or a broadcast, is heard at its port: the HVE runs, the port has trained, and the packet is intact and no
duplicate (11 R286, R287). -/
def State.hears (s : State) (p : Packet) : Bool :=
  s.hveRuns && (s.hop p.port).up && !(s.hop p.port).training && !(s.hop p.port).accepted.contains (p.seq % 256) && p.intact &&
    (p.bcast || p.dst == s.hvlPos)

/-- The port that leads to a position (11 R283). -/
def State.wayTo (s : State) (dst : Nat) : HvlPort := if s.hvlPos < dst then .dn else .up

/-- Another position can be sent to: the port that leads there has trained once. -/
def State.leadsTo (s : State) (dst : Nat) : Bool := dst != s.hvlPos && (s.hop (s.wayTo dst)).up

/-- From `s` to `t` one more packet, in one part, waits to be sent to position `dst`, on the port that leads there (11 R283, R284). -/
def State.sentTo (s t : State) (typ dst tag : Nat) (bs : List Byte) : Bool :=
  let port := s.wayTo dst
  (t.hop port).kept == (s.hop port).kept ++
    [⟨(s.hop port).nextSeq, typ, ⟨port, (s.hop port).nextSeq, packetBytes typ s.hvlPos dst tag true true false bs⟩, 0, false⟩]

end Sys2Proof.Machine
end

