-- ==== Sys2Proof/Certificates/Slice0/Obligations.lean ====
section
/-! DEFINITION. The statements for the provers: for every command of the table where it completes and what it then leaves (the statements that end in
"Complete"), what it leaves unchanged ("Frames"), the rules of the bus, of locked pages and of pages under test, the invariants that every step keeps, and the
state after reset. -/

open Sys2Proof Sys2Proof.Machine Sys2Proof.Machine.State

/-- BUS_ACCESS (02 R40; 13 R325): an admitted access to SRAM completes. A read answers the bytes that memory holds; a write that meets no foreign radio
buffer block and no damaged word stores its bytes at its address, and every other byte of memory, every register and every page keep their values. -/
def Obligations.BusAccessToSramCompletes : Prop :=
  ∀ (s : State) (r : BusReq), s.canonical = true → s.admits r = true → regionOf r.addr.toNat = .apcSram ∨ regionOf r.addr.toNat = .ntcSram →
    regionOf (lastByte r) = regionOf r.addr.toNat →
    (r.op = .read → s.rangeBad r.addr.toNat (sizeBytes r.size) = false →
      exec (.busAccess r) s = .next (s.answer r.ini (BitVec.ofNat 32 (leNat (s.bytesAt r.addr.toNat (sizeBytes r.size)))) .ok)) ∧
    (∀ w, r.op = .write w → s.partialBad r.addr.toNat (sizeBytes r.size) = false →
      ∃ t, exec (.busAccess r) s = .next t ∧ t.out = s.out.set r.ini ⟨0, .ok⟩ ∧ t.regs = s.regs ∧ t.bank = s.bank ∧ t.pages = s.pages ∧
        (∀ k, k < sizeBytes r.size → t.byte (r.addr.toNat + k) = BitVec.ofNat 8 (w.toNat / 256 ^ k)) ∧
        ∀ x, ¬(r.addr.toNat ≤ x ∧ x < r.addr.toNat + sizeBytes r.size) → t.byte x = s.byte x)

/-- PAGE_ENABLE, LOCK, IRQ_SET (02 R50, R52, R54): an admitted write of PAGE_CTRL to an unlocked page that is not under test sets ENABLE as written and no
other page's, and leaves every LOCK; where no work of the block hangs on ENABLE (every page but PWR, CLK, TMB, SPT0 to SPT3, GPIO, RAD, LNK and HVL)
every register but PAGE_CTRL and PAGE_STAT of the page, and memory, keep their values; with LOCK = 1 the page is locked and nothing else changes;
IRQ_SET sets the IRQ_RAW bits written and changes no other register. -/
def Obligations.PageControlCommandsComplete : Prop :=
  (∀ (s : State) (i : Initiator) (p : Nat) (en : Bool), p < 0x29 → s.canonical = true →
    s.admits (writeReq i (Reg.PAGE_CTRL p) (BitVec.ofNat 32 (boolNat en))) = true → s.on (F.PAGE_STAT_UNDER_TEST p) = false → s.locked p = false →
    ∃ t, exec (.pageEnable i p en) s = .next t ∧ t.enabled p = en ∧ t.out.get i = ⟨0, .ok⟩ ∧ (∀ q, q ≠ p → t.enabled q = s.enabled q) ∧
      (∀ q, t.locked q = s.locked q) ∧
      ([P.PWR, P.CLK, P.TMB, P.SPT 0, P.SPT 1, P.SPT 2, P.SPT 3, P.GPIO, P.RAD, P.LNK, P.HVL].contains p = false →
        t.mem = s.mem ∧ ∀ a, a ≠ Reg.PAGE_CTRL p → a ≠ Reg.PAGE_STAT p → t.reg a = s.reg a)) ∧
  (∀ (s : State) (i : Initiator) (p : Nat), p < 0x29 → s.canonical = true →
    s.admits (writeReq i (Reg.PAGE_CTRL p) (BitVec.ofNat 32 (4 + boolNat (s.enabled p)))) = true →
    s.on (F.PAGE_STAT_UNDER_TEST p) = false → s.locked p = false →
    ∃ t, exec (.lock i p (s.enabled p)) s = .next t ∧ t.locked p = true ∧ t.enabled p = s.enabled p ∧ t.mem = s.mem ∧
      ∀ a, a ≠ Reg.PAGE_CTRL p → t.reg a = s.reg a) ∧
  (∀ (s : State) (i : Initiator) (p : Nat) (w : Word), p < 0x29 → s.canonical = true → s.admits (writeReq i (Reg.IRQ_SET p) w) = true →
    ∃ t, exec (.irqSet i p w) s = .next t ∧ t.reg (Reg.IRQ_RAW p) = s.reg (Reg.IRQ_RAW p) ||| w ∧ t.mem = s.mem ∧
      ∀ a, a ≠ Reg.IRQ_RAW p → t.reg a = s.reg a)

/-- SOFT_RESET, SOFT_RESET_DONE, BANK_CLEAR_DONE (02 R51; 13 R326): a soft reset leaves the page resetting, so that accesses to it wait, discards the seal
reference with REF_VALID, and keeps ENABLE; where no work of the block and no recording hangs on its registers (every page but those listed in the
second clause) every register at 0x100 and above that is one for all initiators returns to its reset value but for the fields that report the present
state, and every register of another page, the page's IRQ_RAW and memory keep their values. When the reset completes, or when a bank is clear, the
waiting mark is gone; with no access waiting for it every register and memory keep their values. -/
def Obligations.ResetAndClearCommandsComplete : Prop :=
  (∀ (s : State) (i : Initiator) (p : Nat) (w : Word), p < 0x29 → p < s.pages.length → s.canonical = true →
    s.admits (writeReq i (Reg.PAGE_CTRL p) (withBits w 1 1 1)) = true → s.on (F.PAGE_STAT_UNDER_TEST p) = false → s.locked p = false →
    w.toNat.testBit 0 = s.enabled p → w.toNat.testBit 2 = false →
    ∃ t, exec (.softReset i p w) s = .next t ∧ (t.page p).resetting = true ∧ (t.page p).reference = 0 ∧ t.get (F.SEAL_CTRL_REF_VALID p) = 0 ∧
      t.enabled p = s.enabled p ∧ t.locked p = false ∧ t.out.get i = ⟨0, .ok⟩) ∧
  (∀ (s : State) (i : Initiator) (p : Nat) (w : Word), p < 0x29 →
    [P.PWR, P.CLK, P.TMB, P.LPT, P.WDT, P.SPT 0, P.SPT 1, P.SPT 2, P.SPT 3, P.FLC, P.GPIO, P.EVF, P.RFE, P.SYN, P.NBD, P.OFD, P.LNK, P.FRM, P.HVL,
    P.REC].contains p = false →
    p < s.pages.length → s.canonical = true →
    s.admits (writeReq i (Reg.PAGE_CTRL p) (withBits w 1 1 1)) = true → s.on (F.PAGE_STAT_UNDER_TEST p) = false → s.locked p = false →
    w.toNat.testBit 0 = s.enabled p → w.toNat.testBit 2 = false →
    ∃ t, exec (.softReset i p w) s = .next t ∧ t.mem = s.mem ∧ t.reg (Reg.IRQ_RAW p) = s.reg (Reg.IRQ_RAW p) ∧
      (∀ q off, q ≠ p → off < 0x1000 → t.reg (pageAddr q off) = s.reg (pageAddr q off)) ∧
      ∀ r ∈ pageRows p, r.per = false → ∀ k, k < r.count → ∀ a, a = pageAddr p (r.off + k * r.stride) →
        t.reg a = (s.reg a &&& BitVec.ofNat 32 r.live) ||| (resetOf a &&& ~~~BitVec.ofNat 32 r.live)) ∧
  (∀ (s : State) (p : Nat), p < s.pages.length → (s.page p).resetting = true → (∀ x ∈ s.stalled, x.why ≠ .softReset p) →
    ∃ t, exec (.softResetDone p) s = .next t ∧ t.page p = { s.page p with resetting := false } ∧ t.regs = s.regs ∧ t.mem = s.mem ∧
      ∀ q, q ≠ p → t.page q = s.page q) ∧
  (∀ (s : State) (b : Nat), s.pwr.clearing.contains b = true → (∀ x ∈ s.stalled, x.why ≠ .bankClear b) →
    ∃ t, exec (.bankClearDone b) s = .next t ∧ t.pwr.clearing.contains b = false ∧ t.regs = s.regs ∧ t.mem = s.mem ∧
      ∀ c, c ≠ b → t.pwr.clearing.contains c = s.pwr.clearing.contains c)

/-- COMPUTE, LATCH_REF, SEAL_INTERVAL, SEAL_DONE (02 R55 to R57; 21 R479): a computation begins with DONE = 0 over the words of the moment; the reference
takes SEAL; an interval starts the computation of a page with PERIODIC = 1; a computation that no write fell into ends with SEAL, DONE = 1 and
SEAL_DIRTY = 0. -/
def Obligations.SealCommandsComplete : Prop :=
  (∀ (s : State) (i : Initiator) (p : Nat) (w : Word), p < s.pages.length → p < 0x29 → s.canonical = true →
    s.admits (writeReq i (Reg.SEAL_CTRL p) (withBits w 0 1 1)) = true → (s.page p).run = none → w.toNat.testBit 3 = false →
    ∃ t, exec (.compute i p w) s = .next t ∧ (t.page p).run.isSome = true ∧ t.get (F.SEAL_CTRL_DONE p) = 0 ∧
      s.onlyChanges t [.bus, .pages] [] [Reg.SEAL_CTRL p]) ∧
  (∀ (s : State) (i : Initiator) (p : Nat) (w : Word), p < s.pages.length → p < 0x29 → s.canonical = true →
    s.admits (writeReq i (Reg.SEAL_CTRL p) (withBits w 3 1 1)) = true → w.toNat.testBit 0 = false →
    ∃ t, exec (.latchRef i p w) s = .next t ∧ (t.page p).reference = (s.reg (Reg.SEAL p)).toNat ∧ t.get (F.SEAL_CTRL_REF_VALID p) = 1 ∧
      s.onlyChanges t [.bus, .pages] [] [Reg.SEAL_CTRL p]) ∧
  (∀ (s : State) (p : Nat), p < s.pages.length → s.canonical = true → pagePresent s.variant p = true → s.pageOn p = true →
    s.on (F.SEAL_CTRL_PERIODIC p) = true → (s.page p).run = none →
    ∃ t, exec (.sealInterval [p]) s = .next t ∧ (t.page p).run = some ⟨s.sealWords p, false⟩ ∧ t.get (F.SEAL_CTRL_DONE p) = 0) ∧
  (∀ (s : State) (p : Nat), p < s.pages.length → p < 0x29 → s.canonical = true → (s.page p).run = some ⟨s.sealWords p, false⟩ →
    (s.page p).held = false →
    s.on (F.SEAL_CTRL_CHECK_EN p) = false →
    ∃ t, exec (.sealDone p) s = .next t ∧ (t.page p).run = none ∧
      t.reg (Reg.SEAL p) = BitVec.ofNat 32 (crc32 ((s.sealWords p).foldr (fun w bs => natLe 4 w ++ bs) [])) ∧
      t.get (F.SEAL_CTRL_DONE p) = 1 ∧ t.get (F.PAGE_STAT_SEAL_DIRTY p) = 0)

/-- SCS_SETTLED, SCS_UNLOCK, SCS_RELOCK, AGC_WINDOW_END, AGC_HOLD_EXPIRY, RECEIVER_RUNNING (03 R63, R64, R71 to R77, R80): a clock that settles locks; a
loss of lock is shown, a receiver that runs waits in state 4; a relock that succeeds ends the retry and the wait, one that fails is tried again while
RETRY_MAX allows; the AGC window's levels are shown, in AUTO mode a signal at the high threshold lowers the gain by the steps it needs, at most
ATTACK_MAX (its value 0 counting as 1 is the model's choice), in MANUAL mode MAN_GAIN is taken, and a held gain stays; the hold's expiry raises it by
one and the hold time restarts; a receiver whose start is over and whose sample clock is locked runs. -/
def Obligations.ReceiverEventsComplete : Prop :=
  (∀ (s : State), s.canonical = true → s.on F.SYN_SCS_STAT_SETTLING = true → s.retryOf uRx = 0 → 
    ∃ t, exec .scsSettled s = .next t ∧ t.on F.SYN_SCS_STAT_LOCK = true ∧ t.on F.SYN_SCS_STAT_SETTLING = false ∧
    t.get F.SYN_SCS_STAT_PENDING = boolNat (s.scsWanted != s.scsActive) ∧ ∀ a, a ≠ Reg.SYN_SCS_STAT → t.reg a = s.reg a) ∧
  (∀ (s : State), s.canonical = true → s.on F.SYN_SCS_STAT_LOCK = true → s.radio.whiff = none → 
    ∃ t, exec .scsUnlock s = .next t ∧ t.on F.SYN_SCS_STAT_LOCK = false ∧ t.on F.SYN_SCS_STAT_SETTLING = true ∧ (s.rxRunning = true →
    t.pageSt P.RFE = 4) ∧ (s.rxRunning = false → t.retryOf uRx = 1 ∧ t.radio = s.radio)) ∧
  (∀ (s : State) (ok : Bool), s.canonical = true → s.retryOf uRx = 1 → 
    ∃ t, exec (.scsRelock ok) s = .next t ∧ (ok = true → t.on F.SYN_SCS_STAT_LOCK = true ∧ t.on F.SYN_SCS_STAT_SETTLING = false ∧
    t.retryOf uRx = 0 ∧ (s.pageSt P.RFE = 4 → t.pageSt P.RFE = 2)) ∧ (ok = false → 1 < s.get F.FLT_CFG_RETRY_MAX → t.retryOf uRx = 2 ∧
    t.get F.SYN_SCS_STAT_LOCK = s.get F.SYN_SCS_STAT_LOCK)) ∧
  (∀ (s : State) (peak rms : Nat) (clipped : Bool), s.canonical = true → s.pageSt P.RFE ≠ 0 → 
    ∃ t, exec (.agcWindowEnd peak rms clipped) s = .next t ∧ t.get F.RFE_ADC_LEVEL_PEAK = min peak 512 ∧
    t.get F.RFE_ADC_LEVEL_RMS = min rms (min peak 512) ∧ t.get F.RFE_GAIN_STAT_CLIP = boolNat (decide (512 ≤ peak) || (decide (peak = 511) &&
    clipped)) ∧ t.rfe.ctrl = (s.reg Reg.RFE_AGC_CTRL).toNat ∧ (s.agcHeld = false → s.get F.RFE_AGC_CTRL_MODE = 0 → peak < 511 →
    peakReaches peak (s.get F.RFE_AGC_CTRL_HI_THR) = true →
      t.get F.RFE_GAIN_STAT_GAIN_IDX = s.get F.RFE_GAIN_STAT_GAIN_IDX -
        min (agcSteps peak (s.get F.RFE_AGC_CTRL_HI_THR + 6)) (max 1 (s.get F.RFE_AGC_TIME_ATTACK_MAX))) ∧ (s.agcHeld = false →
        s.get F.RFE_AGC_CTRL_MODE = 0 → 512 ≤ peak →
      t.get F.RFE_GAIN_STAT_GAIN_IDX = s.get F.RFE_GAIN_STAT_GAIN_IDX -
        min (agcSteps 512 (s.get F.RFE_AGC_CTRL_HI_THR + 6)) (max 1 (s.get F.RFE_AGC_TIME_ATTACK_MAX))) ∧ (s.agcHeld = true →
        t.get F.RFE_GAIN_STAT_GAIN_IDX = s.get F.RFE_GAIN_STAT_GAIN_IDX) ∧ (s.agcHeld = false → s.get F.RFE_AGC_CTRL_MODE = 2 →
        t.get F.RFE_GAIN_STAT_GAIN_IDX = s.get F.RFE_AGC_CTRL_MAN_GAIN)) ∧
  (∀ (s : State), s.canonical = true → s.pageSt P.RFE ≠ 0 → s.rfe.low = true → s.rfe.ctrl % 4 = 0 → s.agcHeld = false →
    s.get F.RFE_GAIN_STAT_GAIN_IDX < 31 → usTicks (max 1 (bitsOf s.rfe.time 8 8)) ≤ subTicks s.count s.rfe.holdAt → 
    ∃ t, exec .agcHoldExpiry s = .next t ∧ t.get F.RFE_GAIN_STAT_GAIN_IDX = s.get F.RFE_GAIN_STAT_GAIN_IDX + 1 ∧
    t.get F.RFE_GAIN_STAT_CHANGES = (s.get F.RFE_GAIN_STAT_CHANGES + 1) % 2 ^ F.RFE_GAIN_STAT_CHANGES.width ∧ t.rfe.low = false ∧
    t.rfe.holdAt = s.count) ∧
  (∀ (s : State), s.canonical = true → s.pageSt P.RFE = 1 → s.on F.SYN_SCS_STAT_LOCK = true → 
    ∃ t, exec .receiverRunning s = .next t ∧ t.pageSt P.RFE = 2 ∧ t.mem = s.mem ∧ t.radio = s.radio ∧ ∀ a, a ≠ Reg.PAGE_STAT P.RFE → t.reg a = s.reg a)

/-- WHIFF_CAPTURE_START, WHIFF_CAPTURE_END, WHIFF_DONE (03 R81 to R86), CRS_LOCK, CRS_UNLOCK, CRS_RELOCK (04 R97, R99): a capture takes five blocks, the
mask of the moment and the gain that GAIN_SRC names, and starts, or ends the command where the blocks are not free; its end leaves the results to
compute, with the gain from before the capture (log 98); the record becomes software's and the Whiff is over. A tune that settles locks; a loss of
lock is shown, and a frame on air ramps down with HW_FAULT; a relock that succeeds locks again. -/
def Obligations.WhiffAndCarrierEventsComplete : Prop :=
  (∀ (s : State) (w : Whiff), s.canonical = true → s.radio.whiff = some w → w.capturing = false → w.captured = false → s.pageSt P.RFE = 2 →
    s.on F.RAD_STATE_BLANK = false → s.owners.length = 512 → 5 ≤ s.freeCount → 
    ∃ t, exec .whiffCaptureStart s = .next t ∧ t.pageSt P.RFE = 3 ∧ t.get F.RFE_WHIFF_STAT_NOBUF = 0 ∧ t.freeCount = s.freeCount - 5 ∧
    (s.get F.RFE_WHIFF_CFG_GAIN_SRC = 1 → t.get F.RFE_GAIN_STAT_GAIN_IDX = s.get F.RFE_WHIFF_CFG_WHIFF_GAIN) ∧
    (s.get F.RFE_WHIFF_CFG_GAIN_SRC = 0 → t.get F.RFE_GAIN_STAT_GAIN_IDX = s.get F.RFE_GAIN_STAT_GAIN_IDX) ∧ ∃ bs : List Nat, bs.length = 5 ∧
    (∀ b ∈ bs, s.owner b = Owner.free ∧ t.owner b = Owner.receive) ∧
      ∃ v : Whiff, t.radio = { s.radio with whiff := some v } ∧ v.blocks = bs ∧ v.tStart = s.count ∧ v.capturing = true ∧
      v.gain = t.get F.RFE_GAIN_STAT_GAIN_IDX ∧ v.before = s.get F.RFE_GAIN_STAT_GAIN_IDX ∧
      v.mask = (s.reg Reg.RFE_WHIFF_MASK_LO).toNat + (s.reg Reg.RFE_WHIFF_MASK_HI).toNat * 2 ^ 32) ∧
  (∀ (s : State) (w : Whiff), s.canonical = true → s.radio.whiff = some w → w.capturing = false → w.captured = false → w.fromIdle = false →
    s.pageSt P.RFE = 2 → s.on F.RAD_STATE_BLANK = false → s.freeCount < 5 → s.owners.length = 512 → 
    ∃ t, exec .whiffCaptureStart s = .next t ∧ t.radio.whiff = none ∧ t.get F.RFE_WHIFF_STAT_NOBUF = 1) ∧
  (∀ (s : State) (w : Whiff) (clipped : Bool), s.canonical = true → s.radio.whiff = some w → w.capturing = true → 
    ∃ t, exec (.whiffCaptureEnd clipped) s = .next t ∧
    t.radio = { s.radio with whiff := some { w with capturing := false, captured := true, clip := clipped } } ∧ t.pageSt P.RFE = 2 ∧
    (w.before < 32 → t.get F.RFE_GAIN_STAT_GAIN_IDX = w.before)) ∧
  (∀ (s : State) (w : Whiff) (bins : List Half) (descs : List (Byte × Half)), s.canonical = true → s.radio.whiff = some w → w.captured = true →
    w.fromIdle = false → (∀ b ∈ w.blocks, b < s.owners.length) → 
    ∃ t, exec (.whiffDone bins descs) s = .next t ∧ t.radio.whiff = none ∧ t.get F.RFE_WHIFF_STAT_VALID = 1 ∧
    t.get F.RFE_WHIFF_STAT_HEAD = w.blocks.headD 0 % 512 ∧ t.get F.RFE_WHIFF_STAT_CLIP = boolNat w.clip ∧ (∀ b ∈ w.blocks, t.owner b = Owner.software)) ∧
  (∀ (s : State), s.canonical = true → s.on F.SYN_CRS_STAT_SETTLING = true → s.retryOf uCrs = 0 → 
    ∃ t, exec .crsLock s = .next t ∧ t.on F.SYN_CRS_STAT_LOCK = true ∧ t.on F.SYN_CRS_STAT_SETTLING = false ∧ ∀ a, a ≠ Reg.SYN_CRS_STAT →
    t.reg a = s.reg a) ∧
  (∀ (s : State), s.canonical = true → s.on F.SYN_CRS_STAT_LOCK = true → 
    ∃ t, exec .crsUnlock s = .next t ∧ t.on F.SYN_CRS_STAT_LOCK = false ∧ t.on F.SYN_CRS_STAT_SETTLING = true ∧ t.retryOf uCrs = 1 ∧
    (∀ j, s.radio.tx = some j → j.src = .op → j.stage = .onAir → j.status = 1 →
    t.radio.tx = some { j with stage := .rampDown, status := 6, te := s.count } ∧ t.pageSt P.RTX = 4)) ∧
  (∀ (s : State) (ok : Bool), s.canonical = true → s.retryOf uCrs = 1 → 
    ∃ t, exec (.crsRelock ok) s = .next t ∧ (ok = true → t.on F.SYN_CRS_STAT_LOCK = true ∧ t.on F.SYN_CRS_STAT_SETTLING = false ∧
    t.retryOf uCrs = 0) ∧ (ok = false → 1 < s.get F.FLT_CFG_RETRY_MAX → t.retryOf uCrs = 2 ∧ t.get F.SYN_CRS_STAT_LOCK = s.get F.SYN_CRS_STAT_LOCK))

/-- IDLE, ARM_RX, CAL, PRETUNE, ABORT, OFF (05 R122, R125, R128, R129, R138): an accepted command begins the transition to its state, in which it ends
DONE at once where the radio is there already; CAL enters the calibration with its steps, at once or when IDLE is reached; PRETUNE tunes the carrier
synthesiser to the descriptor's channel. -/
def Obligations.StateCommandsComplete : Prop :=
  (∀ (s : State) (i : Initiator) (w : Word) (r : RegRow), s.cmdTaken i (withBits w 0 4 0) r = true → s.canonical = true →
    (s.cmdSeen i (withBits w 0 4 0) r).judgedBy 0 = 1 → (s.cmdSeen i (withBits w 0 4 0) r).radio.follow = none → 
    ∃ t, exec (.idle i w) s = .next t ∧ t.get F.RAD_CMD_STAT_STATUS = 1 ∧ t.get F.RAD_CMD_STAT_FINAL = 1 ∧ t.radio.op = s.radio.op) ∧
  (∀ (s : State) (i : Initiator) (w : Word) (r : RegRow), s.cmdTaken i (withBits w 0 4 0) r = true → s.canonical = true →
    (s.cmdSeen i (withBits w 0 4 0) r).judgedBy 0 = 2 ∨ (s.cmdSeen i (withBits w 0 4 0) r).judgedBy 0 = 3 ∨ (s.cmdSeen i (withBits w 0 4 0)
    r).judgedBy 0 = 4 → 
    ∃ t, exec (.idle i w) s = .next t ∧ t.on F.RAD_STATE_MOVING = true ∧ t.get F.RAD_STATE_TARGET = 1) ∧
  (∀ (s : State) (i : Initiator) (w : Word) (r : RegRow), s.cmdTaken i (withBits w 0 4 0) r = true → s.canonical = true →
    (s.cmdSeen i (withBits w 0 4 0) r).judgedBy 0 = 0 →
    ([0, 1, 6].any (fun e => ((s.cmdSeen i (withBits w 0 4 0) r).eng.getD e eng0).failed)) = false → 
    ∃ t, exec (.idle i w) s = .next t ∧ t.on F.RAD_STATE_MOVING = true ∧ t.get F.RAD_STATE_TARGET = 1 ∧
    t.radio.op = some (s.cmdGiven i (withBits w 0 4 0) r) ∧ ((s.cmdSeen i (withBits w 0 4 0) r).on F.CLK_STAT_HFXO_OK = false →
    t.pwr.hfxoReq = true ∧ t.radio.hfxoWait = true)) ∧
  (∀ (s : State) (i : Initiator) (w : Word) (r : RegRow), s.cmdTaken i (withBits w 0 4 1) r = true → s.canonical = true →
    (s.cmdSeen i (withBits w 0 4 1) r).judgedBy 1 = 1 ∨ (s.cmdSeen i (withBits w 0 4 1) r).judgedBy 1 = 3 ∨ (s.cmdSeen i (withBits w 0 4 1)
    r).judgedBy 1 = 4 → 
    ∃ t, exec (.armRx i w) s = .next t ∧ t.on F.RAD_STATE_MOVING = true ∧ t.get F.RAD_STATE_TARGET = 2) ∧
  (∀ (s : State) (i : Initiator) (w : Word) (r : RegRow), s.cmdTaken i (withBits w 0 4 6) r = true → s.canonical = true →
    (s.cmdSeen i (withBits w 0 4 6) r).radioState = 1 → (s.cmdSeen i (withBits w 0 4 6) r).on F.RAD_STATE_MOVING = false → 
    ∃ t, exec (.cal i w) s = .next t ∧ t.radioState = 6 ∧ t.on F.RAD_STATE_MOVING = false ∧ t.on F.RAD_CAL_STAT_RUNNING = true ∧
    t.radio.cal = some (⟨(s.cmdGiven i (withBits w 0 4 6) r).arg % 64, (s.cmdGiven i (withBits w 0 4 6) r).src⟩ : CalRun) ∧
    t.radio.op = some (s.cmdGiven i (withBits w 0 4 6) r) ∧ t.get F.SYN_CRS_STAT_LOCK = 0) ∧
  (∀ (s : State) (i : Initiator) (w : Word) (r : RegRow), s.cmdTaken i (withBits w 0 4 6) r = true → s.canonical = true →
    ¬((s.cmdSeen i (withBits w 0 4 6) r).radioState = 1 ∧ (s.cmdSeen i (withBits w 0 4 6) r).on F.RAD_STATE_MOVING = false) → 
    ∃ t, exec (.cal i w) s = .next t ∧ t.on F.RAD_STATE_MOVING = true ∧ t.get F.RAD_STATE_TARGET = 6 ∧
    t.radio.cal = some (⟨(s.cmdGiven i (withBits w 0 4 6) r).arg % 64, (s.cmdGiven i (withBits w 0 4 6) r).src⟩ : CalRun) ∧
    t.radio.op = some (s.cmdGiven i (withBits w 0 4 6) r)) ∧
  (∀ (s : State) (i : Initiator) (w : Word) (r : RegRow), s.cmdTaken i (withBits w 0 4 8) r = true → s.canonical = true →
    (s.cmdSeen i (withBits w 0 4 8) r).judgedBy 8 = 1 → (s.cmdSeen i (withBits w 0 4 8) r).crs.reserved = [] →
    inTxBand ((s.cmdSeen i (withBits w 0 4 8) r).txFreq ((s.cmdSeen i (withBits w 0 4 8) r).descRegs (s.cmdGiven i (withBits w 0 4 8) r).desc).freq)
    = true → 
    ∃ t, exec (.pretune i w) s = .next t ∧ t.on F.RAD_STATE_MOVING = true ∧ t.get F.RAD_STATE_TARGET = 4 ∧
    t.radio.op = some (s.cmdGiven i (withBits w 0 4 8) r) ∧
    t.crs.chan = some ((s.cmdSeen i (withBits w 0 4 8) r).descRegs (s.cmdGiven i (withBits w 0 4 8) r).desc).freq ∧
    t.on F.SYN_CRS_STAT_SETTLING = true ∧ t.on F.SYN_CRS_STAT_LOCK = false ∧
    (t.get F.SYN_CRS_FREQ_FREQ_HZ : Int) = (s.cmdSeen i (withBits w 0 4 8) r).txFreq ((s.cmdSeen i (withBits w 0 4 8) r).descRegs (s.cmdGiven i
    (withBits w 0 4 8) r).desc).freq) ∧
  (∀ (s : State) (i : Initiator) (w : Word) (r : RegRow), s.cmdTaken i (withBits w 0 4 9) r = true → s.canonical = true →
    (s.cmdSeen i (withBits w 0 4 9) r).judgedBy 9 = 3 → (s.cmdSeen i (withBits w 0 4 9) r).ackCommitted = false →
    (s.cmdSeen i (withBits w 0 4 9) r).judged = 3 → 
    ∃ t, exec (.abort i w) s = .next t ∧ t.on F.RAD_STATE_MOVING = true ∧ t.get F.RAD_STATE_TARGET = 1 ∧
    t.radio.op = some (s.cmdGiven i (withBits w 0 4 9) r) ∧ t.radio.queue = none ∧ t.radio.tslot = none) ∧
  (∀ (s : State) (i : Initiator) (w : Word) (r : RegRow), s.cmdTaken i (withBits w 0 4 10) r = true → s.canonical = true →
    (s.cmdSeen i (withBits w 0 4 10) r).judgedBy 10 = 1 → 
    ∃ t, exec (.off i w) s = .next t ∧ t.on F.RAD_STATE_MOVING = true ∧ t.get F.RAD_STATE_TARGET = 0 ∧
    t.radio.op = some (s.cmdGiven i (withBits w 0 4 10) r) ∧ t.get F.RAD_CMD_STAT_STATUS = 0 ∧ t.get F.RAD_CMD_STAT_FINAL = 0) ∧
  (∀ (s : State) (i : Initiator) (w : Word) (r : RegRow), s.cmdTaken i (withBits w 0 4 10) r = true → s.canonical = true →
    (s.cmdSeen i (withBits w 0 4 10) r).judgedBy 10 = 0 → 
    ∃ t, exec (.off i w) s = .next t ∧ t.get F.RAD_CMD_STAT_STATUS = 1 ∧ t.get F.RAD_CMD_STAT_FINAL = 1 ∧ t.radioState = s.radioState)

/-- RX, RX_MULTI, TX, TX_CCA, WHIFF, and RX, RX_MULTI and WHIFF held by TIMED (05 R125, R127, R129, R130; 06 R147; 03 R81): accepted in IDLE, a reception
whose descriptors pass their check and find units begins the transition to RX; a transmission of an unsecured chain to TX, with the synthesiser tuned
to its channel; a Whiff clears VALID and waits for its capture. A transmission whose exit is still on (log 104) waits behind it. A timed reception or
Whiff whose named units exist is held in the queue slot until it is due. -/
def Obligations.ReceiveAndTransmitCommandsComplete : Prop :=
  (∀ (s : State) (i : Initiator) (w : Word) (r : RegRow) (plan : List (Nat × RxUnit)), s.cmdTaken i (withBits w 0 4 2) r = true →
    s.canonical = true → (s.cmdSeen i (withBits w 0 4 2) r).judgedBy 2 = 1 →
    (opDescs (s.cmdGiven i (withBits w 0 4 2) r)).all (fun d => (s.cmdSeen i (withBits w 0 4 2) r).descReason d == 0) = true →
    (s.cmdSeen i (withBits w 0 4 2) r).assign (opDescs (s.cmdGiven i (withBits w 0 4 2) r)) = .inr plan → 
    ∃ t, exec (.rx i w) s = .next t ∧ t.on F.RAD_STATE_MOVING = true ∧ t.get F.RAD_STATE_TARGET = 3 ∧ t.get F.RAD_CMD_STAT_STATUS = 0 ∧
    t.get F.RAD_CMD_STAT_FINAL = 0 ∧ t.radio.op = some (s.cmdGiven i (withBits w 0 4 2) r)) ∧
  (∀ (s : State) (i : Initiator) (w : Word) (r : RegRow) (plan : List (Nat × RxUnit)), s.cmdTaken i (withBits w 0 4 3) r = true →
    s.canonical = true → (s.cmdSeen i (withBits w 0 4 3) r).judgedBy 3 = 1 →
    (opDescs (s.cmdGiven i (withBits w 0 4 3) r)).all (fun d => (s.cmdSeen i (withBits w 0 4 3) r).descReason d == 0) = true →
    (s.cmdSeen i (withBits w 0 4 3) r).assign (opDescs (s.cmdGiven i (withBits w 0 4 3) r)) = .inr plan → 
    ∃ t, exec (.rxMulti i w) s = .next t ∧ t.on F.RAD_STATE_MOVING = true ∧ t.get F.RAD_STATE_TARGET = 3 ∧ t.get F.RAD_CMD_STAT_STATUS = 0 ∧
    t.get F.RAD_CMD_STAT_FINAL = 0 ∧ t.radio.op = some (s.cmdGiven i (withBits w 0 4 3) r)) ∧
  (∀ (s : State) (i : Initiator) (w : Word) (r : RegRow), s.cmdRead i (withBits w 0 4 2) r = true → s.canonical = true →
    (s.cmdGiven i (withBits w 0 4 2) r).timed = true → s.radio.queue = none →
    ((s.cmdSeen i (withBits w 0 4 2) r).namedUnits (s.cmdGiven i (withBits w 0 4 2) r)).all (fun u => unitPresent (s.cmdSeen i (withBits w 0 4 2)
    r).variant u && !(s.cmdSeen i (withBits w 0 4 2) r).isRetired u) = true → 
    ∃ t, exec (.rx i w) s = .next t ∧ t.radio.queue = some (s.cmdGiven i (withBits w 0 4 2) r) ∧ t.radio.heldTime = true ∧
    t.get F.RAD_CMD_STAT_STATUS = 0 ∧ t.get F.RAD_CMD_STAT_FINAL = 0 ∧ t.get F.RAD_CMD_STAT_Q_OCC = 1) ∧
  (∀ (s : State) (i : Initiator) (w : Word) (r : RegRow), s.cmdRead i (withBits w 0 4 3) r = true → s.canonical = true →
    (s.cmdGiven i (withBits w 0 4 3) r).timed = true → s.radio.queue = none →
    ((s.cmdSeen i (withBits w 0 4 3) r).namedUnits (s.cmdGiven i (withBits w 0 4 3) r)).all (fun u => unitPresent (s.cmdSeen i (withBits w 0 4 3)
    r).variant u && !(s.cmdSeen i (withBits w 0 4 3) r).isRetired u) = true → 
    ∃ t, exec (.rxMulti i w) s = .next t ∧ t.radio.queue = some (s.cmdGiven i (withBits w 0 4 3) r) ∧ t.radio.heldTime = true ∧
    t.get F.RAD_CMD_STAT_STATUS = 0 ∧ t.get F.RAD_CMD_STAT_FINAL = 0 ∧ t.get F.RAD_CMD_STAT_Q_OCC = 1) ∧
  (∀ (s : State) (i : Initiator) (w : Word) (r : RegRow), s.cmdRead i (withBits w 0 4 7) r = true → s.canonical = true →
    (s.cmdGiven i (withBits w 0 4 7) r).timed = true → s.radio.queue = none →
    ((s.cmdSeen i (withBits w 0 4 7) r).namedUnits (s.cmdGiven i (withBits w 0 4 7) r)).all (fun u => unitPresent (s.cmdSeen i (withBits w 0 4 7)
    r).variant u && !(s.cmdSeen i (withBits w 0 4 7) r).isRetired u) = true → 
    ∃ t, exec (.whiff i w) s = .next t ∧ t.radio.queue = some (s.cmdGiven i (withBits w 0 4 7) r) ∧ t.radio.heldTime = true ∧
    t.get F.RAD_CMD_STAT_STATUS = 0 ∧ t.get F.RAD_CMD_STAT_FINAL = 0 ∧ t.get F.RAD_CMD_STAT_Q_OCC = 1) ∧
  (∀ (s : State) (i : Initiator) (w : Word) (r : RegRow), s.cmdTaken i (withBits w 0 4 4) r = true → s.canonical = true →
    (s.cmdSeen i (withBits w 0 4 4) r).judgedBy 4 = 1 →
    ((s.cmdSeen i (withBits w 0 4 4) r).namedUnits (s.cmdGiven i (withBits w 0 4 4) r)).all (fun u => unitPresent (s.cmdSeen i (withBits w 0 4 4)
    r).variant u && !(s.cmdSeen i (withBits w 0 4 4) r).isRetired u) = true →
    (s.cmdSeen i (withBits w 0 4 4) r).chainSecure (s.cmdGiven i (withBits w 0 4 4) r).arg = false →
    ((s.cmdSeen i (withBits w 0 4 4) r).descRegs (s.cmdGiven i (withBits w 0 4 4) r).desc).modeCode ≠ 8 →
    ((s.cmdSeen i (withBits w 0 4 4) r).descRegs (s.cmdGiven i (withBits w 0 4 4) r).desc).modeCode ≠ 9 →
    (s.cmdSeen i (withBits w 0 4 4) r).crs.reserved = [] → (s.cmdSeen i (withBits w 0 4 4) r).crs.chan = none →
    inTxBand ((s.cmdSeen i (withBits w 0 4 4) r).txFreq ((s.cmdSeen i (withBits w 0 4 4) r).descRegs (s.cmdGiven i (withBits w 0 4 4) r).desc).freq)
    = true → (s.cmdSeen i (withBits w 0 4 4) r).ctxs.all (fun c => !c.busy) = true → (s.cmdSeen i (withBits w 0 4 4) r).bst = none → 
    ∃ t, exec (.tx i w) s = .next t ∧ t.on F.RAD_STATE_MOVING = true ∧ t.get F.RAD_STATE_TARGET = 5 ∧ t.get F.RAD_CMD_STAT_STATUS = 0 ∧
    t.get F.RAD_CMD_STAT_FINAL = 0 ∧ t.radio.op = some (s.cmdGiven i (withBits w 0 4 4) r) ∧
    t.crs.chan = some ((s.cmdSeen i (withBits w 0 4 4) r).descRegs (s.cmdGiven i (withBits w 0 4 4) r).desc).freq ∧
    t.on F.SYN_CRS_STAT_SETTLING = true ∧ ((s.cmdSeen i (withBits w 0 4 4) r).txPast = none →
    t.radio.tx.map (fun (j : TxJob) => (j.stage, j.desc, j.slot, j.head, j.exit)) = some (TxStage.wait, (s.cmdGiven i (withBits w 0 4 4) r).desc,
    (s.cmdGiven i (withBits w 0 4 4) r).slot, (s.cmdGiven i (withBits w 0 4 4) r).arg, (s.cmdGiven i (withBits w 0 4 4) r).exit)) ∧
    ((s.cmdSeen i (withBits w 0 4 4) r).txPast.isSome = true →
    t.radio.txNext.map (fun (j : TxJob) => (j.stage, j.desc, j.slot, j.head, j.exit)) = some (TxStage.wait, (s.cmdGiven i (withBits w 0 4 4)
    r).desc, (s.cmdGiven i (withBits w 0 4 4) r).slot, (s.cmdGiven i (withBits w 0 4 4) r).arg, (s.cmdGiven i (withBits w 0 4 4) r).exit))) ∧
  (∀ (s : State) (i : Initiator) (w : Word) (r : RegRow), s.cmdTaken i (withBits w 0 4 5) r = true → s.canonical = true →
    (s.cmdSeen i (withBits w 0 4 5) r).judgedBy 5 = 1 →
    ((s.cmdSeen i (withBits w 0 4 5) r).namedUnits (s.cmdGiven i (withBits w 0 4 5) r)).all (fun u => unitPresent (s.cmdSeen i (withBits w 0 4 5)
    r).variant u && !(s.cmdSeen i (withBits w 0 4 5) r).isRetired u) = true →
    (s.cmdSeen i (withBits w 0 4 5) r).chainSecure (s.cmdGiven i (withBits w 0 4 5) r).arg = false →
    ((s.cmdSeen i (withBits w 0 4 5) r).descRegs (s.cmdGiven i (withBits w 0 4 5) r).desc).modeCode ≠ 8 →
    ((s.cmdSeen i (withBits w 0 4 5) r).descRegs (s.cmdGiven i (withBits w 0 4 5) r).desc).modeCode ≠ 9 →
    (s.cmdSeen i (withBits w 0 4 5) r).crs.reserved = [] → (s.cmdSeen i (withBits w 0 4 5) r).crs.chan = none →
    inTxBand ((s.cmdSeen i (withBits w 0 4 5) r).txFreq ((s.cmdSeen i (withBits w 0 4 5) r).descRegs (s.cmdGiven i (withBits w 0 4 5) r).desc).freq)
    = true → (s.cmdSeen i (withBits w 0 4 5) r).ctxs.all (fun c => !c.busy) = true → (s.cmdSeen i (withBits w 0 4 5) r).bst = none →
    (s.cmdSeen i (withBits w 0 4 5) r).descReason (s.cmdGiven i (withBits w 0 4 5) r).desc = 0 → 
    ∃ t, exec (.txCca i w) s = .next t ∧ t.on F.RAD_STATE_MOVING = true ∧ t.get F.RAD_STATE_TARGET = 5 ∧ t.get F.RAD_CMD_STAT_STATUS = 0 ∧
    t.get F.RAD_CMD_STAT_FINAL = 0 ∧ t.radio.op = some (s.cmdGiven i (withBits w 0 4 5) r) ∧
    t.crs.chan = some ((s.cmdSeen i (withBits w 0 4 5) r).descRegs (s.cmdGiven i (withBits w 0 4 5) r).desc).freq ∧
    t.on F.SYN_CRS_STAT_SETTLING = true ∧ ((s.cmdSeen i (withBits w 0 4 5) r).txPast = none →
    t.radio.tx.map (fun (j : TxJob) => (j.stage, j.desc, j.slot, j.head, j.exit)) = some (TxStage.cca, (s.cmdGiven i (withBits w 0 4 5) r).desc,
    (s.cmdGiven i (withBits w 0 4 5) r).slot, (s.cmdGiven i (withBits w 0 4 5) r).arg, (s.cmdGiven i (withBits w 0 4 5) r).exit)) ∧
    ((s.cmdSeen i (withBits w 0 4 5) r).txPast.isSome = true →
    t.radio.txNext.map (fun (j : TxJob) => (j.stage, j.desc, j.slot, j.head, j.exit)) = some (TxStage.cca, (s.cmdGiven i (withBits w 0 4 5) r).desc,
    (s.cmdGiven i (withBits w 0 4 5) r).slot, (s.cmdGiven i (withBits w 0 4 5) r).arg, (s.cmdGiven i (withBits w 0 4 5) r).exit)) ∧ t.pageSt P.RFE ≠ 0) ∧
  (∀ (s : State) (i : Initiator) (w : Word) (r : RegRow), s.cmdTaken i (withBits w 0 4 7) r = true → s.canonical = true →
    (s.cmdSeen i (withBits w 0 4 7) r).judgedBy 7 = 1 → (s.cmdSeen i (withBits w 0 4 7) r).radio.whiff = none → 
    ∃ t, exec (.whiff i w) s = .next t ∧ t.on F.RAD_STATE_MOVING = true ∧ t.get F.RAD_STATE_TARGET = 2 ∧ t.get F.RFE_WHIFF_STAT_VALID = 0 ∧
    t.pageSt P.RFE ≠ 0 ∧
    (t.radio.whiff.map (fun (x : Whiff) => (x.fromIdle, x.capturing, x.captured, x.op))) = some (true, false, false, (s.cmdGiven i (withBits w 0 4
    7) r)))

/-- TX_SEQUENCE_START, RAMP_UP_START, ON_AIR, FRAME_TX_END, RAMP_DOWN_END, ANT_SEL_EXIT, UNDERRUN, ILIM (04 R101 to R103, R112, R116; 05 R122, R137,
R141): the sequence of a command whose chain is walked sets TX, blanking and the reservation; each ramp follows; TE starts the ramp-down and, with
nothing waiting, the move to the exit state; its end releases the synthesiser; 6 µs after TE the operation has ended and the exit IDLE is entered, or
the command accepted since TE goes on (log 104). An underrun ramps down ABORTED; the current limit is shown. -/
def Obligations.TransmitEventsComplete : Prop :=
  (∀ (s : State) (j : TxJob) (o : RadOp) (i p : Nat) (x : Int) (cl low : Bool) (bs : List Nat) (fr : List Byte), s.canonical = true →
    s.radio.tx = some j → s.radioState ≠ 0 → s.radio.op = some o → j.stage = .wait → j.src = .op → j.t0 = some i → s.ackDue = none →
    notBefore (addTicks s.count (usTicks 8)) i = true → s.crsLockedTo j.copy.freq = true → j.copy.onLane = false →
    ((s.rcpSample.setReg Reg.RTX_SENSE (s.reg Reg.TSN_LIVE)).calDueCheck).pickPath j.copy.modeCode (in24 j.copy) j.slot ((s.rcpSample.setReg
    Reg.RTX_SENSE (s.reg Reg.TSN_LIVE)).calDueCheck).liveSense.vpa = .use p x cl low →
    (((s.rcpSample.setReg Reg.RTX_SENSE (s.reg Reg.TSN_LIVE)).calDueCheck).txWalk j.copy j.head).1 = some bs →
    ((((s.rcpSample.setReg Reg.RTX_SENSE (s.reg Reg.TSN_LIVE)).calDueCheck).txWalk j.copy j.head).2.opFrame j o.src i ((((s.rcpSample.setReg
    Reg.RTX_SENSE (s.reg Reg.TSN_LIVE)).calDueCheck).txWalk j.copy j.head).2.chainData true true bs)).1 = some fr → 
    ∃ t, exec (.txSequenceStart none) s = .next t ∧
    (t.radio.tx.map (fun (k : TxJob) => (k.stage, k.path, k.applied))) = some (TxStage.sequence, p, x) ∧
    (t.radio.tx.map (fun (k : TxJob) => (k.chain, k.frame, k.t0))) = some (bs, fr, some i) ∧ t.radioState = 5 ∧ t.on F.RAD_STATE_MOVING = false ∧
    t.on F.RAD_STATE_BLANK = true ∧ t.pageSt P.RTX = 2 ∧ t.crs.reserved.contains CrsUser.tx = true ∧ t.reg Reg.RTX_SENSE = s.reg Reg.TSN_LIVE ∧
    t.getInt F.RTX_TX_STAT_APPLIED = signedN F.RTX_TX_STAT_APPLIED.width (lowBits F.RTX_TX_STAT_APPLIED.width x)) ∧
  (∀ (s : State) (m : Sense), 
    ∃ t, exec (.txSequenceStart (some m)) s = .next t ∧ ∃ u, exec (.tsnRoundEnd m) s = .next u ∧ exec (.txSequenceStart none) u = .next t) ∧
  (∀ (s : State) (j : TxJob), s.radio.tx = some j → j.stage = .sequence → 
    ∃ t, exec .rampUpStart s = .next t ∧ t.radio = { s.radio with tx := some { j with stage := .rampUp } } ∧ t.regs = s.regs ∧ t.mem = s.mem) ∧
  (∀ (s : State) (j : TxJob), s.canonical = true → s.radio.tx = some j → j.stage = .rampUp → s.chainBad true j.chain = none → 
    ∃ t, exec .onAir s = .next t ∧ t.radio = { s.radio with tx := some { j with stage := .onAir, onAirAt := s.count } } ∧ t.pageSt P.RTX = 3 ∧
    t.mem = s.mem) ∧
  (∀ (s : State) (j : TxJob), s.canonical = true → s.radio.tx = some j → j.stage = .onAir → j.src = .op → 
    ∃ t, exec (.frameTxEnd none) s = .next t ∧ t.radio.tx = some { j with stage := .rampDown, te := s.count } ∧ t.pageSt P.RTX = 4 ∧
    (s.waits = false → s.radio.txNext = none → t.on F.RAD_STATE_MOVING = true ∧
    t.get F.RAD_STATE_TARGET = (if j.exit = 0 then 1 else if j.exit = 1 then 2 else if j.exit = 3 then 4 else 3))) ∧
  (∀ (s : State) (j : TxJob) (e : Int), s.canonical = true → s.radio.tx = some j → j.stage = .onAir → j.src = .op →
    usTicks 40 ≤ subTicks s.count j.onAirAt → 0 ≤ j.applied → j.ilim = false → s.get F.RTX_CFG_COMP = 2 → e % 2 = 0 → -96 ≤ e ∧ e ≤ 96 → 
    ∃ t, exec (.frameTxEnd (some e)) s = .next t ∧ t.pageSt P.RTX = 4 ∧
    t.getInt (loopOfs j.path) = clampInt (-64) 64 (s.getInt (loopOfs j.path) - e / 2)) ∧
  (∀ (s : State) (j : TxJob), s.canonical = true → s.radio.tx = some j → j.stage = .rampDown → j.src = .op → s.waits = false → s.crs.held = none → 
    ∃ t, exec .rampDownEnd s = .next t ∧ t.radio = { s.radio with tx := some { j with stage := .tail } } ∧ t.pageSt P.RTX = 1 ∧
    (s.crs.reserved = [CrsUser.tx] → t.crs.reserved = [] ∧ t.on F.SYN_CRS_STAT_RESERVED = false)) ∧
  (∀ (s : State) (j : TxJob) (o : RadOp), s.canonical = true → s.radio.tx = some j → j.stage = .tail → j.src = .op → j.exit = 0 →
    j.displaced = false → s.radio.op = some o → o.opcode ≠ opAbort → o.src = .software s.radio.cmdNo → s.radio.txNext = none → s.waits = false → 
    ∃ t, exec .antSelExit s = .next t ∧ t.radioState = 1 ∧ t.on F.RAD_STATE_MOVING = false ∧ t.radio.tx = none ∧ t.radio.op = none ∧
    t.get F.RAD_CMD_STAT_STATUS = j.status % 16 ∧ t.get F.RAD_CMD_STAT_FINAL = 1 ∧ t.on F.RAD_STATE_BLANK = false) ∧
  (∀ (s : State) (j : TxJob) (o : RadOp), s.canonical = true → s.radio.tx = some j → j.stage = .tail → j.src = .op → j.displaced = true →
    s.radio.op = some o → o.opcode ≠ opAbort → 
    ∃ t, exec .antSelExit s = .next t ∧ t.radio.op = some o ∧ t.radio.tx = s.radio.txNext ∧ t.radio.txNext = none) ∧
  (∀ (s : State) (j : TxJob), s.canonical = true → s.radio.tx = some j → j.src = .op → j.status = 1 →
    j.stage = .sequence ∨ j.stage = .rampUp ∨ j.stage = .onAir → 
    ∃ t, exec .underrun s = .next t ∧ t.on F.RTX_TX_STAT_UNDERRUN = true ∧
    t.radio.tx = some { j with stage := .rampDown, status := 5, te := s.count } ∧ t.pageSt P.RTX = 4) ∧
  (∀ (s : State) (j : TxJob), s.canonical = true → s.radio.tx = some j → j.path = 2 → j.stage = .rampUp ∨ j.stage = .onAir → 
    ∃ t, exec .ilim s = .next t ∧ t.on F.RTX_TX_STAT_ILIM = true ∧ t.radio = { s.radio with tx := some { j with ilim := true } })

/-- RCP_SENSE_SAMPLE, TSN_ROUND_END, SAMPLE, TSN_SAMPLE_LATCHED (04 R109, R118, R119), TURN_ROUND_RX_RELEASE (05 R135, R137), CCA_WINDOW_END (09 R235,
R236), ACK_FAIL (09 R242): the RCP keeps the temperature of LIVE; a round writes LIVE; SAMPLE requests a latch, which copies LIVE once a round has
ended; the receive state is entered after the turn-round and blanking ends; a clear channel lets the transmission wait for its sequence, a busy one
ends it; a committed acknowledgement that underruns ramps down. -/
def Obligations.SensorAndTurnRoundEventsComplete : Prop :=
  (∀ (s : State), s.radioState ≠ 0 → 
    ∃ t, exec (.rcpSenseSample none) s = .next t ∧ t.radio = { s.radio with rcpTemp := s.getInt F.TSN_LIVE_TEMP } ∧ t.mem = s.mem) ∧
  (∀ (s : State) (m : Sense), 
    ∃ t, exec (.rcpSenseSample (some m)) s = .next t ∧ ∃ u, exec (.tsnRoundEnd m) s = .next u ∧ exec (.rcpSenseSample none) u = .next t) ∧
  (∀ (s : State) (m : Sense), s.canonical = true → s.pwr.radioUp = true → 
    ∃ t, exec (.tsnRoundEnd m) s = .next t ∧ t.radio.tsnRound = (s.pageSt P.TSN == 1) ∧ t.get F.TSN_LIVE_TEMP = lowBits 8 m.temp ∧
    t.get F.TSN_LIVE_VBAT = min m.vbat 4095 ∧ t.get F.TSN_LIVE_VPA = (if m.vpa < 1000 then 0 else min m.vpa 4095) ∧ (s.enabled P.TSN = true →
    t.get F.TSN_STAT_TEMP_HI = boolNat (decide (s.getInt F.TSN_CFG_TEMP_HI ≤ m.temp)))) ∧
  (∀ (s : State) (via : Via) (r : RegRow), s.canonical = true → s.reachesTask via P.TSN 0x104 1 r 0 = true → s.enabled P.TSN = true →
    s.pwr.radioUp = true → 
    ∃ t, exec (.sample via) s = .next t ∧ t.pageSt P.TSN = 1) ∧
  (∀ (s : State), s.canonical = true → s.pageSt P.TSN = 1 → s.radio.tsnRound = true → s.pwr.radioUp = true → 
    ∃ t, exec .tsnSampleLatched s = .next t ∧ t.reg Reg.TSN_SAMPLE = s.reg Reg.TSN_LIVE ∧ t.pageSt P.TSN = 0) ∧
  (∀ (s : State), s.canonical = true → s.radio.turnRx = true → s.rxRunning = true → s.txSending = false → 
    ∃ t, exec .turnRoundRxRelease s = .next t ∧ t.radio.turnRx = false ∧ t.on F.RAD_STATE_BLANK = false ∧ (s.on F.RAD_STATE_MOVING = true →
    s.get F.RAD_STATE_TARGET = 2 ∨ s.get F.RAD_STATE_TARGET = 3 → t.radioState = s.get F.RAD_STATE_TARGET ∧ t.on F.RAD_STATE_MOVING = false)) ∧
  (∀ (s : State) (j : TxJob) (power : Int) (carrier : Bool), s.canonical = true → s.radio.tx = some j → j.stage = .cca → s.rxRunning = true →
    ((s.slices ++ s.lanes).filter (fun x => x.stream.isSome)).length < nSlices s.variant → j.copy.cca % 4 ≠ 2 → j.copy.cca % 4 ≠ 3 →
    (power + s.rssiOfs) % 4 = 0 → power + s.rssiOfs < 4 * signed8 (bitsOf j.copy.cca 8 8) → s.ctxs.all (fun c => !c.busy) = true → 
    ∃ t, exec (.ccaWindowEnd power carrier) s = .next t ∧ (t.radio.tx.map (fun (k : TxJob) => k.stage)) = some TxStage.wait ∧
    t.get F.LNK_CCA_STAT_ENERGY = lowBits 8 ((power + s.rssiOfs) / 4) ∧ t.get F.LNK_CCA_STAT_ED_BUSY = 0 ∧ t.get F.LNK_CCA_STAT_NOSTREAM = 0) ∧
  (∀ (s : State) (j : TxJob) (power : Int) (carrier : Bool), s.canonical = true → s.radio.tx = some j → j.stage = .cca → s.rxRunning = true →
    ((s.slices ++ s.lanes).filter (fun x => x.stream.isSome)).length < nSlices s.variant → j.copy.cca % 4 ≠ 2 → j.copy.cca % 4 ≠ 3 →
    (power + s.rssiOfs) % 4 = 0 → 4 * signed8 (bitsOf j.copy.cca 8 8) ≤ power + s.rssiOfs → s.get F.LNK_CCA_STAT_BUSY_COUNT < 65535 → 
    ∃ t, exec (.ccaWindowEnd power carrier) s = .next t ∧ t.radio.tx = none ∧ t.get F.LNK_CCA_STAT_ED_BUSY = 1 ∧
    t.get F.LNK_CCA_STAT_BUSY_COUNT = s.get F.LNK_CCA_STAT_BUSY_COUNT + 1) ∧
  (∀ (s : State) (j : TxJob) (k : Nat) (underrun : Bool), s.canonical = true → s.radio.tx = some j → j.src = .ack k → j.status = 1 →
    j.stage = .sequence ∨ j.stage = .rampUp ∨ j.stage = .onAir → s.get F.LNK_SPEC_LOSS_ACK_FAIL + 1 < 2 ^ F.LNK_SPEC_LOSS_ACK_FAIL.width → 
    ∃ t, exec (.ackFail underrun) s = .next t ∧
    t.radio.tx = some { j with stage := .rampDown, status := if underrun then 5 else 6, te := s.count } ∧
    t.get F.LNK_SPEC_LOSS_ACK_FAIL = s.get F.LNK_SPEC_LOSS_ACK_FAIL + 1 ∧ t.pageSt P.RTX = 4)

/-- TIMED_COMMAND_DUE, QUEUED_COMMAND_EVAL, TRANSITION_END, CAL_STEP_DONE, AUTO_CAL_START (05 R122, R127, R132, R138, R139): a held ARM_RX that is due,
and a queued one whose blocking state has ended, begin their transition; a transition whose conditions hold enters its state, and the IDLE that asked
for it is DONE; a step's result is valid, and after the last the radio is in IDLE; an idle gap runs the steps that are due. -/
def Obligations.RadioStateEventsComplete : Prop :=
  (∀ (s : State) (op : RadOp), s.canonical = true → s.radio.queue = some op → s.radio.heldTime = true → op.opcode = opArmRx →
    notBefore (addTicks s.count (s.opLead op)) op.instant = true →
    ((s.setRadio (fun r => { r with queue := none, heldTime := false })).showQueue).acceptsOp op = true →
    ((s.setRadio (fun r => { r with queue := none, heldTime := false })).showQueue).judgedBy opArmRx = 1 → 
    ∃ t, exec (.timedCommandDue .software) s = .next t ∧ t.on F.RAD_STATE_MOVING = true ∧ t.get F.RAD_STATE_TARGET = 2 ∧
    t.get F.RAD_CMD_STAT_Q_OCC = 0) ∧
  (∀ (s : State) (op : RadOp), s.canonical = true → s.radio.tslot = some op → s.radio.tBlock = none → op.opcode = opArmRx →
    notBefore (addTicks s.count (s.opLead op)) op.instant = true → (s.setRadio (fun r => { r with tslot := none })).acceptsOp op = true →
    (s.setRadio (fun r => { r with tslot := none })).judgedBy opArmRx = 1 → 
    ∃ t, exec (.timedCommandDue .timeline) s = .next t ∧ t.on F.RAD_STATE_MOVING = true ∧ t.get F.RAD_STATE_TARGET = 2) ∧
  (∀ (s : State) (op : RadOp), s.canonical = true → s.radio.tslot = none → s.radio.queue = some op → s.radio.heldTime = false → op.opcode = opArmRx →
    s.unblocked s.radio.qBlock = true → ((s.setRadio (fun r => { r with queue := none })).showQueue).acceptsOp op = true →
    ((s.setRadio (fun r => { r with queue := none })).showQueue).judgedBy opArmRx = 1 → 
    ∃ t, exec .queuedCommandEval s = .next t ∧ t.on F.RAD_STATE_MOVING = true ∧ t.get F.RAD_STATE_TARGET = 2 ∧ t.get F.RAD_CMD_STAT_Q_OCC = 0) ∧
  (∀ (s : State), s.canonical = true → s.on F.RAD_STATE_MOVING = true → s.radioState ≠ 0 →
    s.get F.RAD_STATE_TARGET = 2 ∨ s.get F.RAD_STATE_TARGET = 3 → s.rxRunning = true → s.radio.turnRx = false → 
    ∃ t, exec .transitionEnd s = .next t ∧ t.radioState = s.get F.RAD_STATE_TARGET ∧ t.on F.RAD_STATE_MOVING = false) ∧
  (∀ (s : State) (o : RadOp), s.canonical = true → s.on F.RAD_STATE_MOVING = true → s.radioState = 0 → s.get F.RAD_STATE_TARGET = 1 →
    s.mayLeaveOff = true → s.radio.hfxoWait = false → s.radio.op = some o → o.opcode = opIdle → o.src = .software s.radio.cmdNo → 
    ∃ t, exec .transitionEnd s = .next t ∧ t.radioState = 1 ∧ t.on F.SYN_SCS_STAT_LOCK = true ∧ t.radio.op = none ∧
    t.get F.RAD_CMD_STAT_STATUS = 1 ∧ t.get F.RAD_CMD_STAT_FINAL = 1) ∧
  (∀ (s : State) (hp : Half) (dev : Byte) (c : CalRun) (n : Nat), s.canonical = true → s.radioState = 6 → s.radio.cal = some c →
    (List.range 6).find? c.steps.testBit = some n → c.steps ≠ 2 ^ n → 
    ∃ t, exec (.calStepDone hp dev) s = .next t ∧ (t.get F.RAD_CAL_STAT_VALID).testBit n = true ∧
    (t.get F.RAD_CAL_STAT_INCOMPLETE).testBit n = false ∧ t.get F.RAD_CAL_STAT_LAST_TEMP = s.get F.TSN_LIVE_TEMP ∧
    t.radio = { s.radio with cal := some { c with steps := c.steps - 2 ^ n } }) ∧
  (∀ (s : State) (hp : Half) (dev : Byte) (c : CalRun) (n : Nat), s.canonical = true → s.radioState = 6 → s.radio.cal = some c →
    (List.range 6).find? c.steps.testBit = some n → c.steps = 2 ^ n → 
    ∃ t, exec (.calStepDone hp dev) s = .next t ∧ t.radioState = 1 ∧ t.on F.RAD_CAL_STAT_RUNNING = false ∧ t.radio.cal = none ∧
    t.radio.calDone = true ∧ t.get F.RAD_CAL_STAT_DUE = boolNat (t.get F.RAD_CAL_STAT_INCOMPLETE != 0) ∧
    (t.get F.RAD_CAL_STAT_VALID).testBit n = true ∧ (n = 3 → t.get F.SYN_CRS_TPM_HP_GAIN = hp.toNat ∧ t.get F.SYN_CRS_TPM_DEV_ERR = dev.toNat)) ∧
  (∀ (s : State), s.canonical = true → s.on F.RAD_CAL_STAT_DUE = true → s.radioState = 1 → s.on F.RAD_STATE_MOVING = false → s.radio.queue = none →
    s.radio.tslot = none → s.radio.op = none → s.radioClock = true → s.enabled P.RAD = true → s.on F.RAD_CAL_CFG_RERUN = true →
    s.on F.RAD_CAL_CFG_AUTO_CAL = false → s.get F.RAD_CAL_STAT_INCOMPLETE ≠ 0 →
    s.entryDueWithin (calDur (s.get F.RAD_CAL_STAT_INCOMPLETE) + 10) = false → 
    ∃ t, exec .autoCalStart s = .next t ∧ t.radioState = 6 ∧ t.on F.RAD_CAL_STAT_RUNNING = true ∧
    t.radio.cal = some (⟨s.get F.RAD_CAL_STAT_INCOMPLETE % 64, .internal⟩ : CalRun)) ∧
  (∀ (s : State), s.canonical = true → s.on F.RAD_CAL_STAT_DUE = true → s.radioState = 1 → s.on F.RAD_STATE_MOVING = false → s.radio.queue = none →
    s.radio.tslot = none → s.radio.op = none → s.radioClock = true → s.enabled P.RAD = true → s.on F.RAD_CAL_CFG_AUTO_CAL = true →
    s.radio.calDone = false → s.get F.RAD_CAL_CFG_STEPS = 63 → s.entryDueWithin (calDur 63 + 10) = false → s.get F.RAD_CAL_STAT_INCOMPLETE ≤ 63 → 
    ∃ t, exec .autoCalStart s = .next t ∧ t.radioState = 6 ∧ t.on F.RAD_CAL_STAT_RUNNING = true ∧ t.radio.cal = some (⟨63, .internal⟩ : CalRun))

/-- CHANNELIZER_UPDATE, PREAMBLE_DETECT, STF_DETECT, SYNC_MATCH, LTF_END, SYNC_SEARCH_TIMEOUT, HEADER_CHECK, FAO_HEADER_CHECK, CAPTURE_SWITCH (06 R144,
R146, R156 to R158; 07 R172 to R175, R184): an assignment takes effect with a copy of its descriptor; a searching unit takes a preamble, its sync
stamps the frame and takes its first block; a header that checks out fixes the length, one that does not is counted and the unit searches on; a
stronger preamble replaces a frame before its header. -/
def Obligations.SearchAndHeaderEventsComplete : Prop :=
  (∀ (s : State) (k d : Nat), s.canonical = true → s.pageSt P.CHN ≠ 0 → k < nSlices s.variant → k < s.slices.length →
    s.slot (.slice k) = { rxSlot0 with next := some d } → s.unitUsable (.slice k) = true →
    s.allUnits.all (fun u => u == .slice k || s.slot u == { rxSlot0 with copy := (s.slot u).copy }) = true → 
    ∃ t, exec .channelizerUpdate s = .next t ∧ (t.slot (.slice k)).desc = some d ∧ (t.slot (.slice k)).copy = s.descRegs d ∧
    (t.slot (.slice k)).next = none ∧ (t.slot (.slice k)).frame = none) ∧
  (∀ (s : State) (n : Nat) (power : Int), s.searching (.slice n) = true → (s.slot (.slice n)).copy.isLe = false → 
    ∃ t, exec (.preambleDetect n power) s = .next t ∧ (t.slot (.slice n)).frame = some (newFrame power false s.rxEntry) ∧ t.regs = s.regs ∧
    t.mem = s.mem) ∧
  (∀ (s : State) (n : Nat) (power : Int), s.searching (.lane n) = true → 
    ∃ t, exec (.stfDetect n power) s = .next t ∧ (t.slot (.lane n)).frame = some (newFrame power false s.rxEntry) ∧ t.regs = s.regs ∧ t.mem = s.mem) ∧
  (∀ (s : State) (n : Nat) (lo hi : Half) (rssi : Int) (phase : Byte) (f : RxFrame) (al : Bool) (errs : Nat), s.canonical = true →
    (s.slot (.slice n)).frame = some f → f.synced = false → (s.slot (.slice n)).copy.isLe = false →
    (s.slot (.slice n)).copy.syncFit (lo.toNat + hi.toNat * 65536) = some (al, errs) → s.on F.RAD_STATE_BLANK = false → s.freeCount ≠ 0 → 
    ∃ t, exec (.syncMatch n lo hi rssi phase) s = .next t ∧
    ((t.slot (.slice n)).frame.map (fun (g : RxFrame) => (g.synced, g.tstamp, g.alt, g.errs, g.rssi, g.blocks.length))) = some (true, s.count, al,
    errs, rssi + s.rssiOfs, 1) ∧ t.radio = { s.radio with winSync := true }) ∧
  (∀ (s : State) (n : Nat) (lo hi : Half) (rssi : Int) (phase : Byte) (al : Bool) (errs : Nat), s.canonical = true → s.searching (.slice n) = true →
    (s.slot (.slice n)).copy.isLe = true → (s.slot (.slice n)).copy.syncFit (lo.toNat + hi.toNat * 65536) = some (al, errs) → s.freeCount ≠ 0 → 
    ∃ t, exec (.syncMatch n lo hi rssi phase) s = .next t ∧
    ((t.slot (.slice n)).frame.map (fun (g : RxFrame) => (g.synced, g.tstamp, g.errs, g.rssi, g.blocks.length))) = some (true, s.count, errs, rssi +
    s.rssiOfs, 1)) ∧
  (∀ (s : State) (n : Nat) (rssi : Int) (phase : Byte) (f : RxFrame), s.canonical = true → (s.slot (.lane n)).frame = some f → f.synced = false →
    s.on F.RAD_STATE_BLANK = false → s.freeCount ≠ 0 → 
    ∃ t, exec (.ltfEnd n rssi phase) s = .next t ∧
    ((t.slot (.lane n)).frame.map (fun (g : RxFrame) => (g.synced, g.tstamp, g.errs, g.rssi, g.blocks.length))) = some (true, s.count, 0, rssi +
    s.rssiOfs, 1)) ∧
  (∀ (s : State) (n : Nat) (f : RxFrame), s.canonical = true → (s.slot (.slice n)).frame = some f → f.synced = false → s.radio.winShut = false → 
    ∃ t, exec (.syncSearchTimeout n) s = .next t ∧ (t.slot (.slice n)).frame = none ∧ t.rxq = s.rxq) ∧
  (∀ (s : State) (n : Nat) (hdr : PhyHeader) (f : RxFrame) (h : HeaderOk), s.canonical = true → (s.slot (.slice n)).frame = some f →
    f.synced = true → f.header = false → checkHeader (s.slot (.slice n)).copy f.alt hdr = some h → 
    ∃ t, exec (.headerCheck n hdr) s = .next t ∧
    ((t.slot (.slice n)).frame.map (fun (g : RxFrame) => (g.header, g.len, g.fcsLen, g.phy, g.entry))) = some (true, h.len, h.fcsLen, h.phy,
    s.rxEntry) ∧ t.mem = s.mem) ∧
  (∀ (s : State) (n : Nat) (hdr : PhyHeader) (f : RxFrame), s.canonical = true → (s.slot (.slice n)).frame = some f → f.synced = true →
    f.header = false → checkHeader (s.slot (.slice n)).copy f.alt hdr = none → s.radio.winShut = false →
    s.get F.NBD_STATS_HDR_REJ + 1 < 2 ^ F.NBD_STATS_HDR_REJ.width → 
    ∃ t, exec (.headerCheck n hdr) s = .next t ∧ (t.slot (.slice n)).frame = none ∧ t.get F.NBD_STATS_HDR_REJ = s.get F.NBD_STATS_HDR_REJ + 1) ∧
  (∀ (s : State) (n mcs len seed : Nat) (f : RxFrame), s.canonical = true → (s.slot (.lane n)).frame = some f → f.synced = true → f.header = false →
    (s.slot (.lane n)).copy.modeCode = 8 → ofdmRate (s.slot (.lane n)).copy.rateIx mcs ≠ 0 → mcs ≤ 6 → 5 ≤ len ∧ len ≤ 2047 → 
    ∃ t, exec (.faoHeaderCheck n (.sun true false mcs len seed)) s = .next t ∧
    ((t.slot (.lane n)).frame.map (fun (g : RxFrame) => (g.header, g.len, g.fcsLen, g.rateByte))) = some (true, len, 4, mcs + 16 * (seed % 4))) ∧
  (∀ (s : State) (n : Nat) (first second : List Soft) (b : Nat) (f : RxFrame), s.canonical = true → (s.slot (.lane n)).frame = some f →
    f.synced = true → f.header = false → (s.slot (.lane n)).copy.modeCode = 9 → faoHeaderOf first second = b → faoHcs b = true →
    bitsOf b 30 4 = 0 → bitsOf b 21 2 ≠ 3 → bitsOf b 10 11 ≠ 0 → (if b.testBit 23 then 2 else 4) ≤ bitsOf b 10 11 →
    (s.profile (bitsOf b 0 10)).valid = true → bitsOf b 24 6 = (s.profile (bitsOf b 0 10)).pcrc % 64 → 
    ∃ t, exec (.faoHeaderCheck n (.fao first second)) s = .next t ∧
    ((t.slot (.lane n)).frame.map (fun (g : RxFrame) => (g.header, g.len, g.fcsLen, g.rateByte, g.prof))) = some (true, bitsOf b 10 11, (if
    b.testBit 23 then 2 else 4), bitsOf b 21 2 + 4 * boolNat (b.testBit 23), s.profile (bitsOf b 0 10))) ∧
  (∀ (s : State) (n : Nat) (first second : List Soft) (f : RxFrame), s.canonical = true → (s.slot (.lane n)).frame = some f → f.synced = true →
    f.header = false → (s.slot (.lane n)).copy.modeCode = 9 → faoHcs (faoHeaderOf first second) = false → s.radio.winShut = false →
    s.get F.OFD_STATS_HDR_REJ + 1 < 2 ^ F.OFD_STATS_HDR_REJ.width → 
    ∃ t, exec (.faoHeaderCheck n (.fao first second)) s = .next t ∧ (t.slot (.lane n)).frame = none ∧
    t.get F.OFD_STATS_HDR_REJ = s.get F.OFD_STATS_HDR_REJ + 1) ∧
  (∀ (s : State) (u : RxUnit) (power : Int) (f : RxFrame), s.canonical = true → (s.slot u).frame = some f → f.header = false → f.meas = none →
    s.on F.RAD_STATE_BLANK = false → f.power + 4 * (s.get F.NBD_CAPTURE_CAPTURE_DB : Nat) ≤ power →
    s.get F.NBD_STATS_CAPTURES + 1 < 2 ^ F.NBD_STATS_CAPTURES.width → 
    ∃ t, exec (.captureSwitch u power) s = .next t ∧ (t.slot u).frame = some (newFrame power true s.rxEntry) ∧
    t.get F.NBD_STATS_CAPTURES = s.get F.NBD_STATS_CAPTURES + 1)

/-- RX_DATA_BLOCK, MAC_HEADER_PARSED, RX_FRAME_END, FRAME_VERDICT, SEGMENT_REQUEST, SEGMENT_DONE, SOFT_BIT_OVERFLOW (06 R159, R160; 07 R189 to R191; 10
R258 to R262): bytes are appended up to the length, de-whitened where the mode whitens; a header that parses and passes stages 1 and 2 asks for its
lookup; the end keeps the measures; a frame without MAC header that passes its FCS is queued and its chain is software's, one that fails it is dropped
and counted; segments of 64 steps, or a final one of at most 128, queue under their deadline, the decoder runs on them, and the longest wait of a
final one is shown; an overflow loses the frame. -/
def Obligations.FrameReceptionEventsComplete : Prop :=
  (∀ (s : State) (u : RxUnit) (bytes : List Byte) (f : RxFrame), s.canonical = true → (s.slot u).frame = some f → f.header = true →
    f.coded (s.slot u).copy = false → f.meas = none →
    blocksFor ((f.bytes ++ f.nextBytes (s.slot u).copy bytes).take f.len).length ≤ f.blocks.length → 
    ∃ t, exec (.rxDataBlock u bytes) s = .next t ∧
    (t.slot u).frame = some { f with bytes := (f.bytes ++ f.nextBytes (s.slot u).copy bytes).take f.len } ∧ t.mem = s.mem ∧ t.owners = s.owners ∧
    ((s.slot u).copy.modeCode = 3 → (t.slot u).frame = some { f with bytes := (f.bytes ++ bytes).take f.len })) ∧
  (∀ (s : State) (u : RxUnit) (f : RxFrame) (h : MacHdr), s.canonical = true → (s.slot u).frame = some f → f.header = true → f.mac = none →
    f.badHdr = false → (s.slot u).copy.macFrames = true → parseMac f.bytes (f.len - f.fcsLen) = .ok h →
    s.earlyStage { f with mac := some h } = 0 → h.srcAddr.isSome = true → 
    ∃ t, exec (.macHeaderParsed u) s = .next t ∧
    ((t.slot u).frame.map (fun (g : RxFrame) => (g.mac, g.lookup, g.early))) = some (some h, LookupState.waiting, 0) ∧
    t.shared.length = s.shared.length + 1 ∧
    (t.shared.getLast?.map (fun (r : SharedReq) => (r.unit, r.who))) = some (SharedUnit.lookup, ReqFor.rx u f.tstamp) ∧ t.regs = s.regs) ∧
  (∀ (s : State) (u : RxUnit) (m : Measures) (f : RxFrame), s.canonical = true → (s.slot u).frame = some f → f.header = true → f.meas = none →
    f.bytes.length = f.len ∨ f.coded (s.slot u).copy = true → 
    ∃ t, exec (.rxFrameEnd u m) s = .next t ∧ (t.slot u).frame = some { f with meas := some m, endAt := s.count } ∧ t.regs = s.regs ∧
    t.mem = s.mem ∧ t.radio.minT0.isSome = true) ∧
  (∀ (s : State) (n : Nat) (f : RxFrame) (m : Measures), s.canonical = true → (s.slot (.slice n)).frame = some f → f.bytes.length = f.len →
    f.meas = some m → (s.slot (.slice n)).copy.macFrames = false → f.mac = none → f.lookup = .idle → f.spec = none → f.entry = none →
    s.radio.op = none → s.radio.winShut = false → fcsCode (s.slot (.slice n)).copy f ≠ 2 → s.forwards = false → f.blocks ≠ [] →
    blocksFor (f.bytes.length + 32) ≤ f.blocks.length → (∀ b ∈ f.blocks, b < s.owners.length) → 
    ∃ t, exec (.frameVerdict (.slice n)) s = .next t ∧ t.rxq = s.rxq ++ [f.blocks.headD 0] ∧ (t.slot (.slice n)).frame = none ∧
    t.rxSeq = (s.rxSeq + 1) % 2 ^ 32 ∧ (∀ b ∈ f.blocks, t.owner b = Owner.software)) ∧
  (∀ (s : State) (n : Nat) (f : RxFrame) (m : Measures), s.canonical = true → (s.slot (.slice n)).frame = some f → f.bytes.length = f.len →
    f.meas = some m → (s.slot (.slice n)).copy.macFrames = false → f.mac = none → f.lookup = .idle → f.spec = none → f.entry = none →
    s.radio.op = none → s.radio.winShut = false → fcsCode (s.slot (.slice n)).copy f = 2 → s.on F.FRM_CFG_KEEP_BAD_FCS = false →
    s.get F.FRM_DROP1_FCS + 1 < 2 ^ F.FRM_DROP1_FCS.width → 
    ∃ t, exec (.frameVerdict (.slice n)) s = .next t ∧ t.rxq = s.rxq ∧ (t.slot (.slice n)).frame = none ∧
    t.get F.FRM_DROP1_FCS = s.get F.FRM_DROP1_FCS + 1) ∧
  (∀ (s : State) (u : RxUnit) (soft : List Soft) (final : Bool) (f : RxFrame) (xs : List (Soft × Soft)), s.canonical = true →
    (s.slot u).frame = some f → f.coded (s.slot u).copy = true → f.synced = true → f.stream.final = false → ((s.slot u).copy.onLane = true →
    f.header = true) → xs = f.steps (s.slot u).copy soft → xs.length ≤ 128 → (final = false → xs.length = 64) →
    ((s.shared ++ s.inService).filter (fun (r : SharedReq) => r.unit == .decoder &&
    r.servesRx u)).foldl (fun a (r : SharedReq) => a + r.soft.length) 0 + xs.length ≤ 512 → 
    ∃ t, exec (.segmentRequest u soft final) s = .next t ∧
    t.shared = s.shared ++ [(⟨.decoder, s.rxDeadline u f, unitRank u, .rx u f.tstamp, xs, final⟩ : SharedReq)] ∧ t.regs = s.regs ∧
    (t.slot u).frame = some { f with stream := { f.stream with sent := f.stream.sent + xs.length, final := final } }) ∧
  (∀ (s : State) (waitNs stamp : Nat) (r : SharedReq) (u : RxUnit) (f : RxFrame), s.canonical = true →
    s.inService.find? (fun r => r.unit == .decoder) = some r → r.who = .rx u stamp → s.stampedFrame u stamp = some f → r.final = true →
    waitNs ≤ 3500 → 
    ∃ t, exec (.segmentDone waitNs) s = .next t ∧ t.inService = removeFirst (· == r) s.inService ∧
    t.get F.FEC_WAIT_MAX_FINAL = max (s.get F.FEC_WAIT_MAX_FINAL) waitNs ∧
    (t.slot u).frame = some { f with stream := { f.stream with trellis := (s.slot u).copy.code.run true f.stream.trellis r.soft } }) ∧
  (∀ (s : State) (u : RxUnit) (f : RxFrame), s.canonical = true → (s.slot u).frame = some f → f.coded (s.slot u).copy = true → f.synced = true →
    s.radio.op = none → s.radio.winShut = false → s.get F.FEC_STATS_OVERFLOW + 1 < 2 ^ F.FEC_STATS_OVERFLOW.width → 
    ∃ t, exec (.softBitOverflow u) s = .next t ∧ (t.slot u).frame = none ∧ t.get F.FEC_STATS_OVERFLOW = s.get F.FEC_STATS_OVERFLOW + 1)

/-- NBT_LOOKUP_RETURN, SECURITY_REQUEST, SHARED_REQUEST_SERVED (09 R243, R244; 10 R264, R271), SPECULATION_START, CONTEXT_BLOCK_TAKE, COMMIT, SQUASH,
COMMIT_DEADLINE (01 R24 to R26; 09 R238 to R241), RECEIVE_WINDOW_CLOSE (09 R228): a lookup answers the frame, IN_FLIGHT where another holds the
entry's update; a frame that may be acknowledged takes a free context and reserves the synthesiser, one without a neighbour is squashed with reason 4;
contexts take blocks; a speculation commits, or is squashed with its reason, 5 at T0 − 12 µs, also where its lookup is still out; a request leaves its
queue; a window that closes ends the operation, with NO_FRAME where no sync was found. -/
def Obligations.SpeculationEventsComplete : Prop :=
  (∀ (s : State) (u : RxUnit) (f : RxFrame) (h : MacHdr) (k : NbtKey) (r : SharedReq), s.canonical = true →
    s.inService.find? (fun r => r.unit == .lookup && r.servesRx u) = some r → s.shared.any (fun x => x.unit == .hveLookup &&
    x.who == r.who) = false → (s.slot u).frame = some f → s.reqFrame r = some (u, f.tstamp, h) → s.enabled P.NBT = true → s.sourceKey h = some k →
    s.homeOf (keyHash k) = s.myPos → s.searchBad k = false → s.findKey k = none → s.get F.NBT_STATS_MISSES + 1 < 2 ^ F.NBT_STATS_MISSES.width → 
    ∃ t, exec (.nbtLookupReturn u) s = .next t ∧ ((t.slot u).frame.map (fun (g : RxFrame) => g.lookup)) = some (.notFound : LookupState) ∧
    t.inService = removeFirst (· == r) s.inService ∧ t.get F.NBT_STATS_MISSES = s.get F.NBT_STATS_MISSES + 1) ∧
  (∀ (s : State) (u : RxUnit) (f : RxFrame) (h : MacHdr) (k : NbtKey) (r : SharedReq) (n : Nat), s.canonical = true →
    s.inService.find? (fun r => r.unit == .lookup && r.servesRx u) = some r → s.shared.any (fun x => x.unit == .hveLookup &&
    x.who == r.who) = false → (s.slot u).frame = some f → s.reqFrame r = some (u, f.tstamp, h) → s.enabled P.NBT = true → s.sourceKey h = some k →
    s.homeOf (keyHash k) = s.myPos → s.searchBad k = false → s.findKey k = some n → s.entFlag n efAlias = false → s.globalIx n / 16384 = s.myPos →
    s.globalIx n % 16384 = n → s.hvl.rsv.any (fun r => r.2.1 == n) = false → 
    ∃ t, exec (.nbtLookupReturn u) s = .next t ∧
    ((t.slot u).frame.map (fun (g : RxFrame) => g.lookup)) = some (.found ⟨s.globalIx n, s.entWords n, none⟩ : LookupState) ∧
    t.inService = removeFirst (· == r) s.inService) ∧
  (∀ (s : State) (u : RxUnit) (f : RxFrame) (h : MacHdr) (k : NbtKey) (r : SharedReq) (n : Nat), s.canonical = true →
    s.inService.find? (fun r => r.unit == .lookup && r.servesRx u) = some r → s.shared.any (fun x => x.unit == .hveLookup &&
    x.who == r.who) = false → (s.slot u).frame = some f → s.reqFrame r = some (u, f.tstamp, h) → s.enabled P.NBT = true → s.sourceKey h = some k →
    s.homeOf (keyHash k) = s.myPos → s.searchBad k = false → s.findKey k = some n → s.entFlag n efAlias = false → s.globalIx n / 16384 = s.myPos →
    s.globalIx n % 16384 = n → s.hvl.rsv.any (fun r => r.2.1 == n) = true → 
    ∃ t, exec (.nbtLookupReturn u) s = .next t ∧
    ((t.slot u).frame.map (fun (g : RxFrame) => g.lookup)) = some (.inFlight ⟨s.globalIx n, s.entWords n, none⟩ : LookupState) ∧
    t.inService = removeFirst (· == r) s.inService) ∧
  (∀ (s : State) (u : RxUnit) (f : RxFrame) (h : MacHdr), (s.slot u).frame = some f → f.mac = some h → h.secured = true → s.enabled P.SEC = true → 
    ∃ t, exec (.securityRequest (.rx u)) s = .next t ∧
    t.shared = s.shared ++ [(⟨.security, s.rxDeadline u f, unitRank u, .rx u f.tstamp, [], f.meas.isSome⟩ : SharedReq)] ∧ t.regs = s.regs ∧
    t.mem = s.mem) ∧
  (∀ (s : State) (n : Nat) (j : TxJob), s.radio.tx = some j → j.src = .op → s.chainSecure j.head = true →
    j.stage = .wait ∨ j.stage = .sequence ∨ j.stage = .rampUp ∨ j.stage = .onAir → s.enabled P.SEC = true → 
    ∃ t, exec (.securityRequest (.tx n)) s = .next t ∧
    t.shared = s.shared ++ [(⟨.security, subTicks (s.needAt j (16 * n)) (usTicks 4), 0, .tx, [], false⟩ : SharedReq)] ∧ t.regs = s.regs ∧
    t.mem = s.mem) ∧
  (∀ (s : State) (k : Nat) (c : AckCtx), s.ctxs[k]? = some c → c.busy = true → c.committed = false → c.key.isSome = true → s.enabled P.SEC = true → 
    ∃ t, exec (.securityRequest (.ack k)) s = .next t ∧
    t.shared = s.shared ++ [(⟨.security, subTicks c.t0 (usTicks 12), unitRank c.unit, .ack k, [], false⟩ : SharedReq)] ∧ t.regs = s.regs ∧
    t.mem = s.mem) ∧
  (∀ (s : State) (r : SharedReq), s.inService.any (fun r => r.unit == .decoder) = false → s.underTest 0x1200 = false →
    firstReq s.count .decoder s.shared = some r → (!notBefore s.count r.deadline || r.deadline == s.count) = true → 
    ∃ t, exec (.sharedRequestServed .decoder) s = .next t ∧ t.inService = s.inService ++ [r] ∧ t.shared = removeFirst (· == r) s.shared ∧
    t.regs = s.regs) ∧
  (∀ (s : State) (r : SharedReq), s.inService.any (fun r => r.unit == .security) = false → firstReq s.count .security s.shared = some r →
    (!notBefore s.count r.deadline || r.deadline == s.count) = true → 
    ∃ t, exec (.sharedRequestServed .security) s = .next t ∧ t.shared = removeFirst (· == r) s.shared ∧ t.regs = s.regs ∧ t.inService = s.inService) ∧
  (∀ (s : State) (r : SharedReq) (u : RxUnit) (st : Nat) (h : MacHdr) (k : NbtKey), s.inService.any (fun r => r.unit == .lookup) = false →
    firstReq s.count .lookup s.shared = some r → (!notBefore s.count r.deadline || r.deadline == s.count) = true →
    s.reqFrame r = some (u, st, h) → s.sourceKey h = some k → s.homeOf (keyHash k) = s.myPos → 
    ∃ t, exec (.sharedRequestServed .lookup) s = .next t ∧ t.inService = s.inService ++ [r] ∧ t.shared = removeFirst (· == r) s.shared ∧
    t.regs = s.regs) ∧
  (∀ (s : State) (r : SharedReq) (u : RxUnit) (st : Nat) (h : MacHdr) (k : NbtKey), s.inService.any (fun r => r.unit == .hveLookup) = false →
    firstReq s.count .hveLookup s.shared = some r → (!notBefore s.count r.deadline || r.deadline == s.count) = true →
    s.reqFrame r = some (u, st, h) → s.sourceKey h = some k → s.homeUp (s.homeOf (keyHash k)) = true → 
    ∃ t, exec (.sharedRequestServed .hveLookup) s = .next t ∧ t.inService = removeFirst (fun (x : SharedReq) => x.unit == SharedUnit.lookup &&
    x.who == r.who) s.inService ∧ t.shared = removeFirst (· == r) s.shared ∧
    t.hvl.waits = s.hvl.waits ++ [(⟨s.hvl.next, s.homeOf (keyHash k), some (u, st), none, 4, natLe 1 (boolNat (s.wantsAck (s.slot u).copy h))⟩ :
    Outstanding)]) ∧
  (∀ (s : State) (u : RxUnit) (f : RxFrame) (h : MacHdr) (v : NbtView) (k : Nat), s.canonical = true → (s.slot u).frame = some f → f.mac = some h →
    f.spec = none → f.squashed = false → s.wantsAck (s.slot u).copy h = true → f.early = 0 → f.judged = some 0 → f.lookup = .found v →
    f.meas = none → wordsFlag v.words efBlocked = false → wordsFlag v.words efRetired = false → v.index / 16384 = s.myPos →
    s.outSpent (v.index % 16384) = false → f.lateInput = false → s.rivalBefore u f = false → s.rivalsAfter u f = [] →
    s.ctxs.findIdx? (fun c => !c.busy && c.block.isSome) = some k → s.committedAir = [] → inTxBand (s.txFreq (s.slot u).copy.freq) = true →
    s.crs.reserved = [] → 
    ∃ t, exec (.speculationStart u) s = .next t ∧ ((t.slot u).frame.map (fun (g : RxFrame) => g.spec)) = some (some k) ∧
    (t.ctxs.getD k ctx0).busy = true ∧ (t.ctxs.getD k ctx0).committed = false ∧ (t.ctxs.getD k ctx0).unit = u ∧
    (t.ctxs.getD k ctx0).index = v.index ∧ (t.ctxs.getD k ctx0).t0 = addTicks f.endAt (usTicks (s.ackIfs (s.slot u).copy f)) ∧
    t.crs.reserved = [CrsUser.ack k]) ∧
  (∀ (s : State) (u : RxUnit) (f : RxFrame) (h : MacHdr), s.canonical = true → (s.slot u).frame = some f → f.mac = some h → f.spec = none →
    f.squashed = false → s.wantsAck (s.slot u).copy h = true → f.early = 0 → f.judged = some 0 → f.lookup = .notFound →
    s.get F.LNK_SPEC_STAT_SQUASHES + 1 < 2 ^ F.LNK_SPEC_STAT_SQUASHES.width → 
    ∃ t, exec (.speculationStart u) s = .next t ∧ ((t.slot u).frame.map (fun (g : RxFrame) => g.squashed)) = some true ∧
    t.get F.LNK_SPEC_LOSS_REASON = 4 ∧ t.get F.LNK_SPEC_STAT_SQUASHES = s.get F.LNK_SPEC_STAT_SQUASHES + 1) ∧
  (∀ (s : State), s.canonical = true → s.enabled P.LNK = true → s.owners.length = 512 → s.ctxs.length ≤ s.freeCount → 
    ∃ t, exec .contextBlockTake s = .next t ∧ t.ctxs.all (fun c => c.block.isSome) = true ∧ t.on (F.PAGE_STAT_READY P.LNK) = true ∧
    t.ctxs.length = s.ctxs.length) ∧
  (∀ (s : State) (u : RxUnit) (k : Nat) (c : AckCtx), s.canonical = true → s.ctxOf u = some k → s.ctxs[k]? = some c → c.passed = true →
    s.commitBar c = 0 → c.index / 16384 = s.myPos → s.get F.LNK_SPEC_STAT_COMMITS + 1 < 2 ^ F.LNK_SPEC_STAT_COMMITS.width → 
    ∃ t, exec (.commit u) s = .next t ∧ t.ctxs[k]? = some { c with committed := true } ∧
    t.get F.LNK_SPEC_STAT_COMMITS = s.get F.LNK_SPEC_STAT_COMMITS + 1) ∧
  (∀ (s : State) (u : RxUnit) (k : Nat) (c : AckCtx), s.canonical = true → s.ctxOf u = some k → s.ctxs[k]? = some c → c.passed = false →
    s.get F.LNK_SPEC_STAT_SQUASHES + 1 < 2 ^ F.LNK_SPEC_STAT_SQUASHES.width → s.airTaken c.t0 (s.ackTicks c) = false → s.commitBar c ≠ 0 → 
    ∃ t, exec (.squash u) s = .next t ∧ (t.ctxs.getD k ctx0).busy = false ∧ t.get F.LNK_SPEC_LOSS_REASON = s.commitBar c ∧
    t.get F.LNK_SPEC_STAT_SQUASHES = s.get F.LNK_SPEC_STAT_SQUASHES + 1) ∧
  (∀ (s : State) (u : RxUnit) (k : Nat) (c : AckCtx), s.canonical = true → s.ctxOf u = some k → s.ctxs[k]? = some c → c.passed = false →
    s.get F.LNK_SPEC_STAT_SQUASHES + 1 < 2 ^ F.LNK_SPEC_STAT_SQUASHES.width → notBefore s.count (subTicks c.t0 (usTicks 12)) = true → 
    ∃ t, exec (.commitDeadline u) s = .next t ∧ (t.ctxs.getD k ctx0).busy = false ∧ t.get F.LNK_SPEC_LOSS_REASON = 5 ∧
    t.get F.LNK_SPEC_STAT_SQUASHES = s.get F.LNK_SPEC_STAT_SQUASHES + 1) ∧
  (∀ (s : State) (u : RxUnit) (f : RxFrame) (h : MacHdr), s.canonical = true → (s.slot u).frame = some f → f.mac = some h → f.spec = none →
    f.squashed = false → s.wantsAck (s.slot u).copy h = true → s.ctxOf u = none → f.lookup = .waiting → f.header = true → s.headStage f true = 0 →
    notBefore s.count (s.frameDeadline u f) = true → s.get F.LNK_SPEC_STAT_SQUASHES + 1 < 2 ^ F.LNK_SPEC_STAT_SQUASHES.width → 
    ∃ t, exec (.commitDeadline u) s = .next t ∧ ((t.slot u).frame.map (fun (g : RxFrame) => g.squashed)) = some true ∧
    t.get F.LNK_SPEC_LOSS_REASON = 5 ∧ t.get F.LNK_SPEC_STAT_SQUASHES = s.get F.LNK_SPEC_STAT_SQUASHES + 1) ∧
  (∀ (s : State) (o : RadOp), s.radio.op = some o → o.opcode = opRx ∨ o.opcode = opRxMulti → (s.srcWords o.src).getD 3 0 % 2 ^ 20 ≠ 0 →
    notBefore s.count (addTicks o.instant (usTicks ((s.srcWords o.src).getD 3 0 % 2 ^ 20))) = true → s.frameUnderWay = true → 
    ∃ t, exec .receiveWindowClose s = .next t ∧ t.radio = { s.radio with winShut := true } ∧ t.regs = s.regs) ∧
  (∀ (s : State) (o : RadOp) (n : Nat), s.canonical = true → s.radio.op = some o → o.opcode = opRx ∨ o.opcode = opRxMulti →
    (s.srcWords o.src).getD 3 0 % 2 ^ 20 ≠ 0 → notBefore s.count (addTicks o.instant (usTicks ((s.srcWords o.src).getD 3 0 % 2 ^ 20))) = true →
    s.frameUnderWay = false → o.src = .entry n → n < s.timeline.length → s.radio.waitAck = false → o.exit = 2 → s.waits = false → 
    ∃ t, exec .receiveWindowClose s = .next t ∧ t.radio.op = none ∧
    ((t.ent n).ended.map (fun (e : EntryEnd) => (e.status, e.noFrame))) = some (1, !s.radio.winSync))

/-- ARM, CANCEL, READ, CANCEL_ALL, DONE (09 R224, R229), HAND_OVER, ENTRY_START, ENTRY_COMPLETION, RUN_AHEAD (09 R223 to R227, R233): an entry is
installed from the staged words, cancelled with ABORTED, or read back; a completion record is taken; a due entry is dispatched to the radio; a MARK
completes at its START; a completed entry is done, or armed again one period later, and its link arms the waiting target; run-ahead tunes the
synthesiser once. -/
def Obligations.TimelineCommandsComplete : Prop :=
  (∀ (s : State) (i : Initiator) (r : RegRow), s.takes i P.LNK 0x108 1 r = true → s.canonical = true → s.enabled P.LNK = true → s.hvlSlave = false →
    s.noDevice (s.getI i F.LNK_ENT_SEL_DEVICE) = false → s.getI i F.LNK_ENT_SEL_DEVICE = s.myPos →
    s.getI i F.LNK_ENT_SEL_INDEX < s.timeline.length → s.noDevice (entDevice (s.staged i)) = false →
    (s.ent (s.getI i F.LNK_ENT_SEL_INDEX)).state ≠ EntryState.dispatched → s.entMalformed (s.staged i) = false → 
    ∃ t, exec (.arm i) s = .next t ∧ (t.ent (s.getI i F.LNK_ENT_SEL_INDEX)).words = s.staged i ∧
    (t.ent (s.getI i F.LNK_ENT_SEL_INDEX)).state = (if entMode (s.staged i) = 0 then EntryState.armed else EntryState.wait) ∧
    (entMode (s.staged i) = 0 → (t.ent (s.getI i F.LNK_ENT_SEL_INDEX)).start = (s.staged i).getD 0 0 + (s.staged i).getD 1 0 % 65536 * 2 ^ 32) ∧
    t.getI i F.LNK_ENT_RES_RESULT = 0 ∧ ∀ j, j ≠ s.getI i F.LNK_ENT_SEL_INDEX → t.ent j = s.ent j) ∧
  (∀ (s : State) (i : Initiator) (r : RegRow), s.takes i P.LNK 0x108 2 r = true → s.canonical = true → s.enabled P.LNK = true → s.hvlSlave = false →
    s.noDevice (s.getI i F.LNK_ENT_SEL_DEVICE) = false → s.getI i F.LNK_ENT_SEL_DEVICE = s.myPos →
    s.getI i F.LNK_ENT_SEL_INDEX < s.timeline.length →
    (s.ent (s.getI i F.LNK_ENT_SEL_INDEX)).state = EntryState.armed ∨ (s.ent (s.getI i F.LNK_ENT_SEL_INDEX)).state = EntryState.wait → 
    ∃ t, exec (.cancel i) s = .next t ∧ (t.ent (s.getI i F.LNK_ENT_SEL_INDEX)).state = EntryState.empty ∧
    (t.ent (s.getI i F.LNK_ENT_SEL_INDEX)).last = 5 ∧ t.getI i F.LNK_ENT_RES_RESULT = 0) ∧
  (∀ (s : State) (i : Initiator) (r : RegRow), s.takes i P.LNK 0x108 3 r = true → s.canonical = true → s.enabled P.LNK = true → s.hvlSlave = false →
    s.noDevice (s.getI i F.LNK_ENT_SEL_DEVICE) = false → s.getI i F.LNK_ENT_SEL_DEVICE = s.myPos → s.getI i F.LNK_ENT_SEL_INDEX < s.timeline.length → 
    ∃ t, exec (.read i) s = .next t ∧
    (∀ n ∈ List.range 8, t.regI i (Reg.LNK_ENT_W n) = BitVec.ofNat 32 ((s.entReadWords (s.getI i F.LNK_ENT_SEL_INDEX)).getD n 0)) ∧
    t.timeline = s.timeline ∧ t.getI i F.LNK_ENT_RES_RESULT = 0) ∧
  (∀ (s : State) (i : Initiator) (r : RegRow), s.takes i P.LNK 0x108 4 r = true → s.canonical = true → s.enabled P.LNK = true → s.hvlSlave = false →
    s.noDevice (s.getI i F.LNK_ENT_SEL_DEVICE) = false → s.getI i F.LNK_ENT_SEL_DEVICE = s.myPos → s.getI i F.LNK_ENT_SEL_INDEX < s.timeline.length → 
    ∃ t, exec (.cancelAll i) s = .next t ∧ (∀ j ∈ List.range 128, (t.ent j).state ≠ EntryState.armed ∧ (t.ent j).state ≠ EntryState.wait) ∧
    (∀ j ∈ List.range 128, (s.ent j).state = EntryState.dispatched → t.ent j = s.ent j)) ∧
  (∀ (s : State) (i : Initiator) (d : DoneRec) (q : List DoneRec), s.offers i P.LNK 0x110 = true → s.canonical = true → s.enabled P.LNK = true →
    s.doneQ = d :: q → 
    ∃ t, exec (.done i) s = .next t ∧ t.out.get i = (⟨BitVec.ofNat 32 d.word, .ok⟩ : BusAnswer) ∧ t.doneQ = q ∧
    t.regI i Reg.LNK_DONE_T = BitVec.ofNat 32 d.time ∧ t.regs = s.regs) ∧
  (∀ (s : State) (n : Nat), s.canonical = true → s.lnkRuns = true → s.dueEntry = some n → (s.ent n).soon = false → s.enabled P.RAD = true →
    entOp (s.ent n).words = opRx ∨ entOp (s.ent n).words = opMark →
    (s.namedUnits (entRadOp n (s.ent n).words (s.ent n).start)).all (fun u => unitPresent s.variant u && !s.isRetired u) = true → 
    ∃ t, exec .handOver s = .next t ∧ (t.ent n).state = EntryState.dispatched ∧ (entOp (s.ent n).words = opRx →
    t.radio.tslot = some (entRadOp n (s.ent n).words (s.ent n).start) ∧ t.radio.tBlock = none) ∧ (entOp (s.ent n).words = opMark → t.radio = s.radio)) ∧
  (∀ (s : State) (n : Nat), s.canonical = true → (s.ent n).state = EntryState.dispatched → notBefore s.count (s.ent n).start = true → 
    ∃ t, exec (.entryStart n) s = .next t ∧ (entOp (s.ent n).words = opMark → (s.ent n).ended = none →
    ((t.ent n).ended.map (fun (e : EntryEnd) => (e.status, e.slip, e.endAt))) = some (1, s.count != (s.ent n).start, s.count)) ∧
    (entOp (s.ent n).words ≠ opMark → t.timeline = s.timeline)) ∧
  (∀ (s : State) (n : Nat) (e : EntryEnd), s.canonical = true → (s.ent n).state = EntryState.dispatched → (s.ent n).ended = some e →
    ((s.ent n).words.getD 6 0).testBit 7 = false → 
    ∃ t, exec (.entryCompletion n) s = .next t ∧ (t.ent n).ended = none ∧ (t.ent n).last = e.status ∧ ((s.ent n).reps = 0 →
    (t.ent n).state = EntryState.done) ∧ ((s.ent n).reps ≠ 0 → entMode (s.ent n).words = 0 → (t.ent n).state = EntryState.armed ∧
    (t.ent n).start = addTicks (s.ent n).start ((s.ent n).words.getD 7 0))) ∧
  (∀ (s : State) (n : Nat) (e : EntryEnd), s.canonical = true → (s.ent n).state = EntryState.dispatched → (s.ent n).ended = some e →
    ((s.ent n).words.getD 6 0).testBit 7 = true → linkHolds (s.ent n).words e = true → (s.ent n).words.getD 6 0 % 128 ≠ n →
    (s.ent ((s.ent n).words.getD 6 0 % 128)).state = EntryState.wait → 
    ∃ t, exec (.entryCompletion n) s = .next t ∧ (t.ent ((s.ent n).words.getD 6 0 % 128)).state = EntryState.armed ∧
    (t.ent ((s.ent n).words.getD 6 0 % 128)).start = addTicks (if entMode (s.ent ((s.ent n).words.getD 6 0 % 128)).words = 1 then e.endAt else
    (s.ent n).start) ((s.ent ((s.ent n).words.getD 6 0 % 128)).words.getD 0 0)) ∧
  (∀ (s : State) (n : Nat), s.canonical = true → s.lnkRuns = true → s.get F.LNK_CFG_RUNAHEAD ≠ 0 → s.txAhead = false → s.runAheadEntry = some n →
    n < s.timeline.length → (s.ent n).asked = false → s.crsLockedTo (s.descRegs ((s.ent n).words.getD 2 0 % 64)).freq = false →
    inTxBand (s.txFreq (s.descRegs ((s.ent n).words.getD 2 0 % 64)).freq) = true → s.crs.reserved = [] → 
    ∃ t, exec .runAhead s = .next t ∧ t.crs.chan = some (s.descRegs ((s.ent n).words.getD 2 0 % 64)).freq ∧ t.on F.SYN_CRS_STAT_SETTLING = true ∧
    (t.ent n).asked = true ∧ t.get F.SYN_CRS_STAT_SRC = 2)

/-- ALLOC, RELEASE, RXQ (10 R256 to R258): a read of ALLOC gives software a block of the free list, above the reserve, as a chain of one; a chain whose
blocks software owns is freed to its last block; a read of RXQ removes the oldest entry of the receive queue. -/
def Obligations.BufferCommandsComplete : Prop :=
  (∀ (s : State) (i : Initiator), s.offers i P.FRM 0x124 = true → s.canonical = true → s.enabled P.FRM = true →
    s.get F.FRM_CFG_ALLOC_RESERVE < s.freeCount → s.owners.length = 512 → 
    ∃ t, exec (.alloc i) s = .next t ∧ ∃ b : Nat, b < 512 ∧ s.owner b = Owner.free ∧
    t.out.get i = (⟨BitVec.ofNat 32 (0x8000 + b), .ok⟩ : BusAnswer) ∧ t.owner b = Owner.software ∧ t.linkWord b = 0x200 ∧
      ∀ c, c ≠ b → t.owner c = s.owner c) ∧
  (∀ (s : State) (i : Initiator) (w : Word) (bs : List Nat) (r : RegRow), s.takes i P.FRM 0x128 w r = true → s.canonical = true →
    s.enabled P.FRM = true → s.chainBlocks (w.toNat % 512) 18 = some bs → bs.Nodup → (∀ b ∈ bs, s.owner b = Owner.software ∧
    s.badWord (blockAddr b) = false ∧ b < s.owners.length) → s.ctxs.all (fun c => c.block.isSome || c.busy) = true → 
    ∃ t, exec (.release i w) s = .next t ∧ (∀ b ∈ bs, t.owner b = Owner.free) ∧ (∀ b, b ∉ bs → t.owner b = s.owner b) ∧ t.rxq = s.rxq) ∧
  (∀ (s : State) (i : Initiator) (h : Nat) (q : List Nat), s.offers i P.FRM 0x12C = true → s.canonical = true → s.enabled P.FRM = true →
    s.rxq = h :: q → 
    ∃ t, exec (.rxq i) s = .next t ∧ t.out.get i = (⟨BitVec.ofNat 32 (0x8000 + h), .ok⟩ : BusAnswer) ∧ t.rxq = q ∧ t.regs = s.regs ∧
    t.owners = s.owners)

/-- INSERT, UPDATE, DELETE, LOOKUP, NBT_READ, NBT_COMMAND_DONE (10 R270, R273, R275): an idle initiator's command is held with the staged index and words,
BUSY = 1 and LOST = 0; at the home device INSERT fills a free way of the bucket and makes the entry valid, DELETE ends its validity, UPDATE writes the
masked words, LOOKUP returns the index, READ returns the words; the result is shown and BUSY ends. -/
def Obligations.NeighbourCommandsComplete : Prop :=
  (∀ (s : State) (i : Initiator) (r : RegRow), s.takes i P.NBT 0x104 1 r = true → s.canonical = true → s.enabled P.NBT = true →
    s.nbtJobs.get i = none →
    s.nbtJobHome ⟨1, 0, s.getI i F.NBT_INDEX_INDEX, (List.range 8).map (fun n => (s.regI i (Reg.NBT_DATA n)).toNat), false⟩ = s.myPos → 
    ∃ t, exec (.insert i) s = .next t ∧
    t.nbtJobs.get i = some (⟨1, 0, s.getI i F.NBT_INDEX_INDEX, (List.range 8).map (fun n => (s.regI i (Reg.NBT_DATA n)).toNat), false⟩ : NbtJob) ∧
    t.getI i F.NBT_RES_BUSY = 1 ∧ t.getI i F.NBT_RES_LOST = 0 ∧ t.pageSt P.NBT = 1 ∧ t.mem = s.mem ∧
    t.regI i Reg.NBT_HASH = BitVec.ofNat 32 (keyHash (wordsKey ((List.range 8).map (fun n => (s.regI i (Reg.NBT_DATA n)).toNat))))) ∧
  (∀ (s : State) (i : Initiator) (m : Byte) (r : RegRow), s.takes i P.NBT 0x104 (BitVec.ofNat 32 (2 + 0x100 * m.toNat)) r = true →
    s.canonical = true → s.enabled P.NBT = true → s.nbtJobs.get i = none →
    s.nbtJobHome ⟨2, m.toNat, s.getI i F.NBT_INDEX_INDEX, (List.range 8).map (fun n => (s.regI i (Reg.NBT_DATA n)).toNat), false⟩ = s.myPos → 
    ∃ t, exec (.update i m) s = .next t ∧
    t.nbtJobs.get i = some (⟨2, m.toNat, s.getI i F.NBT_INDEX_INDEX, (List.range 8).map (fun n => (s.regI i (Reg.NBT_DATA n)).toNat), false⟩ :
    NbtJob) ∧ t.getI i F.NBT_RES_BUSY = 1 ∧ t.getI i F.NBT_RES_LOST = 0 ∧ t.pageSt P.NBT = 1 ∧ t.mem = s.mem) ∧
  (∀ (s : State) (i : Initiator) (r : RegRow), s.takes i P.NBT 0x104 3 r = true → s.canonical = true → s.enabled P.NBT = true →
    s.nbtJobs.get i = none →
    s.nbtJobHome ⟨3, 0, s.getI i F.NBT_INDEX_INDEX, (List.range 8).map (fun n => (s.regI i (Reg.NBT_DATA n)).toNat), false⟩ = s.myPos → 
    ∃ t, exec (.delete i) s = .next t ∧
    t.nbtJobs.get i = some (⟨3, 0, s.getI i F.NBT_INDEX_INDEX, (List.range 8).map (fun n => (s.regI i (Reg.NBT_DATA n)).toNat), false⟩ : NbtJob) ∧
    t.getI i F.NBT_RES_BUSY = 1 ∧ t.getI i F.NBT_RES_LOST = 0 ∧ t.pageSt P.NBT = 1 ∧ t.mem = s.mem) ∧
  (∀ (s : State) (i : Initiator) (r : RegRow), s.takes i P.NBT 0x104 4 r = true → s.canonical = true → s.enabled P.NBT = true →
    s.nbtJobs.get i = none →
    s.nbtJobHome ⟨4, 0, s.getI i F.NBT_INDEX_INDEX, (List.range 8).map (fun n => (s.regI i (Reg.NBT_DATA n)).toNat), false⟩ = s.myPos → 
    ∃ t, exec (.lookup i) s = .next t ∧
    t.nbtJobs.get i = some (⟨4, 0, s.getI i F.NBT_INDEX_INDEX, (List.range 8).map (fun n => (s.regI i (Reg.NBT_DATA n)).toNat), false⟩ : NbtJob) ∧
    t.getI i F.NBT_RES_BUSY = 1 ∧ t.getI i F.NBT_RES_LOST = 0 ∧ t.pageSt P.NBT = 1 ∧ t.mem = s.mem ∧
    t.regI i Reg.NBT_HASH = BitVec.ofNat 32 (keyHash (wordsKey ((List.range 8).map (fun n => (s.regI i (Reg.NBT_DATA n)).toNat))))) ∧
  (∀ (s : State) (i : Initiator) (r : RegRow), s.takes i P.NBT 0x104 5 r = true → s.canonical = true → s.enabled P.NBT = true →
    s.nbtJobs.get i = none →
    s.nbtJobHome ⟨5, 0, s.getI i F.NBT_INDEX_INDEX, (List.range 8).map (fun n => (s.regI i (Reg.NBT_DATA n)).toNat), false⟩ = s.myPos → 
    ∃ t, exec (.nbtRead i) s = .next t ∧
    t.nbtJobs.get i = some (⟨5, 0, s.getI i F.NBT_INDEX_INDEX, (List.range 8).map (fun n => (s.regI i (Reg.NBT_DATA n)).toNat), false⟩ : NbtJob) ∧
    t.getI i F.NBT_RES_BUSY = 1 ∧ t.getI i F.NBT_RES_LOST = 0 ∧ t.pageSt P.NBT = 1 ∧ t.mem = s.mem) ∧
  (∀ (s : State) (i : Initiator) (j : NbtJob) (n : Nat), s.canonical = true →
    (s.shared ++ s.inService).any (fun (r : SharedReq) => r.unit == .lookup) = false → s.nbtJobs.get i = some j → s.nbtJobHome j = s.myPos →
    j.op = 1 → wordsFlag j.data efAlias = false → s.searchBad (wordsKey j.data) = false → s.findKey (wordsKey j.data) = none →
    ((List.range 4).map (fun w => 4 * s.bucketOf (keyHash (wordsKey j.data)) + w)).find? s.entFree = some n → 
    ∃ t, exec (.nbtCommandDone i) s = .next t ∧ t.nbtJobs.get i = none ∧ t.getI i F.NBT_RES_BUSY = 0 ∧ t.getI i F.NBT_RES_RESULT = 0 ∧
    t.getI i F.NBT_RES_INDEX = s.globalIx n % 2 ^ 17 ∧ t.entFlag n efValid = true ∧ t.entW n 0 = j.data.getD 0 0 % 2 ^ 32) ∧
  (∀ (s : State) (i : Initiator) (j : NbtJob), s.canonical = true → s.nbtJobs.get i = some j → j.op = 2 →
    (s.shared ++ s.inService).any (fun (r : SharedReq) => r.unit == .lookup) = false → j.index / 16384 = s.myPos → s.badIndex j.index = false →
    s.entBad (j.index % 16384) = false → s.entUsable (j.index % 16384) = true → s.entFlag (j.index % 16384) efValid = true →
    j.mask.testBit 6 = true → 
    ∃ t, exec (.nbtCommandDone i) s = .next t ∧ t.nbtJobs.get i = none ∧ t.getI i F.NBT_RES_BUSY = 0 ∧ t.getI i F.NBT_RES_RESULT = 0 ∧
    t.entW (j.index % 16384) 6 = j.data.getD 6 0 % 2 ^ 32) ∧
  (∀ (s : State) (i : Initiator) (j : NbtJob), s.canonical = true → s.nbtJobs.get i = some j → j.op = 3 →
    (s.shared ++ s.inService).any (fun (r : SharedReq) => r.unit == .lookup) = false → j.index / 16384 = s.myPos → s.badIndex j.index = false →
    s.entBad (j.index % 16384) = false → s.entUsable (j.index % 16384) = true → s.entFlag (j.index % 16384) efValid = true → 
    ∃ t, exec (.nbtCommandDone i) s = .next t ∧ t.nbtJobs.get i = none ∧ t.getI i F.NBT_RES_BUSY = 0 ∧ t.getI i F.NBT_RES_RESULT = 0 ∧
    t.entFlag (j.index % 16384) efValid = false) ∧
  (∀ (s : State) (i : Initiator) (j : NbtJob) (n : Nat), s.canonical = true →
    (s.shared ++ s.inService).any (fun (r : SharedReq) => r.unit == .lookup) = false → s.nbtJobs.get i = some j → s.nbtJobHome j = s.myPos →
    j.op = 4 → s.searchBad (wordsKey j.data) = false → s.findKey (wordsKey j.data) = some n → s.entFlag n efAlias = false → 
    ∃ t, exec (.nbtCommandDone i) s = .next t ∧ t.nbtJobs.get i = none ∧ t.getI i F.NBT_RES_BUSY = 0 ∧ t.getI i F.NBT_RES_RESULT = 0 ∧
    t.getI i F.NBT_RES_INDEX = s.globalIx n % 2 ^ 17 ∧ t.mem = s.mem) ∧
  (∀ (s : State) (i : Initiator) (j : NbtJob), s.canonical = true → s.nbtJobs.get i = some j → j.op = 5 →
    (s.shared ++ s.inService).any (fun (r : SharedReq) => r.unit == .lookup) = false → j.index / 16384 = s.myPos → s.badIndex j.index = false →
    s.entBad (j.index % 16384) = false → 
    ∃ t, exec (.nbtCommandDone i) s = .next t ∧ t.nbtJobs.get i = none ∧ t.getI i F.NBT_RES_BUSY = 0 ∧ t.getI i F.NBT_RES_RESULT = 0 ∧
    (∀ n ∈ List.range 8, t.regI i (Reg.NBT_DATA n) = BitVec.ofNat 32 (s.entW (j.index % 16384) n)) ∧ t.mem = s.mem)

/-- SLOW_TICK, FINE_PART_START, NOW_LO, ALARM_HI_WRITE, ALARM_LO_WRITE, ALARM_WRITE_EFFECT, ALARM_FIRE, ALARM_EN_WRITE (08 R196 to R202): an edge of LFCLK
increments bits [47:8] of the count and clears bits [7:0], except in Dormant or where a master is followed; NOW_LO latches the high part; the fine
part starts at such an edge; a write of ALARMn_LO pends for three ticks; when it takes effect with EN[n] = 1 a due alarm fires at once, LATE unless
the count equals the compare, and another is armed; an armed alarm that is due fires; EN[n] = 0 disarms it. -/
def Obligations.TimeBaseAndAlarmCommandsComplete : Prop :=
  (∀ (s : State), s.pwr.state ≠ .dormant → s.on F.TMB_STAT_FOLLOW = false → s.canonical = true → 
    ∃ t, exec .slowTick s = .next t ∧ t.count = (s.count / 256 + 1) * 256 % countMod ∧ (s.on F.WDT_STAT_RUNNING = true → s.wdtFeed = false →
    t.get F.WDT_COUNT_COUNT = s.get F.WDT_COUNT_COUNT - 1) ∧ (s.on F.WDT_STAT_RUNNING = true → s.wdtFeed = true →
    t.get F.WDT_COUNT_COUNT = s.wdtLoadVal)) ∧
  (∀ (s : State), s.pwr.state = .dormant → 
    ∃ t, exec .slowTick s = .next t ∧ t = s) ∧
  (∀ (s : State), s.pwr.state ≠ .dormant → s.on F.TMB_STAT_FOLLOW = true → s.canonical = true → 
    ∃ t, exec .slowTick s = .next t ∧ t.count = s.count) ∧
  (∀ (s : State), s.canonical = true → s.count % 256 = 0 → s.on F.CLK_STAT_HFXO_OK = true → 
    ∃ t, exec .finePartStart s = .next t ∧ t.get F.TMB_STAT_FINE_VALID = 1 ∧ t.get F.TMB_STAT_FINE_SRC = 2 ∧ t.count = s.count) ∧
  (∀ (s : State), s.canonical = true → s.count % 256 = 0 → s.on F.CLK_STAT_HFXO_OK = false → s.on F.CLK_STAT_HFRC_OK = true → 
    ∃ t, exec .finePartStart s = .next t ∧ t.get F.TMB_STAT_FINE_VALID = 1 ∧ t.get F.TMB_STAT_FINE_SRC = 1 ∧ t.count = s.count) ∧
  (∀ (s : State) (i : Initiator), s.offers i P.TMB 0x100 = true → s.canonical = true → 
    ∃ t, exec (.nowLo i) s = .next t ∧ t.out.get i = (⟨BitVec.ofNat 32 s.count, .ok⟩ : BusAnswer) ∧
    t.getI i F.TMB_NOW_HI_SNAP_SNAP = s.count / 2 ^ 32 % 2 ^ 16 ∧ t.count = s.count ∧ t.regs = s.regs) ∧
  (∀ (s : State) (i : Initiator) (n : Nat) (w : Word) (r : RegRow), s.takes i P.TMB (0x144 + 8 * n) w r = true → s.canonical = true → n < 8 → 
    ∃ t, exec (.alarmHiWrite i n w) s = .next t ∧ t.get (F.TMB_ALARM_HI_CMP_HI n) = w.toNat % 65536 ∧ t.alarms = s.alarms) ∧
  (∀ (s : State) (i : Initiator) (n c : Nat) (w : Word) (r : RegRow), s.takes i P.TMB (0x140 + 8 * n) w r = true → s.canonical = true → n < 8 →
    s.alarms.length = 8 → s.enabled P.TMB = true → c = (s.reg (Reg.TMB_ALARM_HI n)).toNat % 65536 * 2 ^ 32 + w.toNat → 
    ∃ t, exec (.alarmLoWrite i n w) s = .next t ∧ t.alarm n = { s.alarm n with pend := some c, ticks := 3 } ∧ t.reg (Reg.TMB_ALARM_LO n) = w ∧
    (∀ m, m ≠ n → t.alarm m = s.alarm m)) ∧
  (∀ (s : State) (n c : Nat), s.canonical = true → s.alarms.length = 8 → n < 8 → (s.alarm n).pend = some c → (s.alarm n).ticks ≠ 0 →
    s.pwr.state ≠ .dormant → s.on F.TMB_STAT_FOLLOW = false → 
    ∃ t, exec (.alarmWriteEffect n) s = .next t ∧ (t.alarm n).pend = none ∧ (t.alarm n).cmp = c ∧ (alarmDue t.count c = true →
    (s.get F.TMB_ALARM_EN_EN).testBit n = true → (t.alarm n).armed = false ∧ (t.alarm n).late = (t.count != c)) ∧
    (alarmDue t.count c = false ∨ (s.get F.TMB_ALARM_EN_EN).testBit n = false → (t.alarm n).armed = (s.get F.TMB_ALARM_EN_EN).testBit n)) ∧
  (∀ (s : State) (n : Nat), s.canonical = true → n < 8 → s.alarms.length = 8 → (s.alarm n).armed = true → alarmDue s.count (s.alarm n).cmp = true → 
    ∃ t, exec (.alarmFire n) s = .next t ∧ t.alarm n = { s.alarm n with armed := false, late := false } ∧ (s.enabled P.TMB = true →
    (t.reg (Reg.IRQ_RAW (P.TMB))).toNat.testBit (n) = true) ∧ ((s.get F.TMB_ALARM_EN_WAKE).testBit n = true → 0x10 + n ∈ t.pwr.wakes) ∧
    t.count = s.count) ∧
  (∀ (s : State) (i : Initiator) (w : Word) (r : RegRow), s.takes i P.TMB 0x110 w r = true → s.canonical = true → 
    ∃ t, exec (.alarmEnWrite i w) s = .next t ∧ t.get F.TMB_ALARM_EN_EN = w.toNat % 256 ∧ t.get F.TMB_ALARM_EN_WAKE = w.toNat / 256 % 256 ∧
    (∀ n ∈ List.range 8, w.toNat.testBit n = false → (t.alarm n).armed = false ∧ (t.alarm n).pend = none) ∧
    (∀ n ∈ List.range 8, w.toNat.testBit n = true → t.alarm n = s.alarm n))

/-- START, STOP, CLEAR, LOAD, CAPTURE (08 R209), WRAP, CMP (08 R206, R207): START copies the preloads and counts from the present count, and is ignored
while the timer runs; STOP holds the count; CLEAR sets it to 0; LOAD copies the preloads; CAPTUREk stores the count in CMPk of a channel in capture
mode and does nothing to another; WRAP is raised as the count reaches the period; the next cycle sets the count to 0, copies the preloads and stops a
one-shot timer; CMPk is raised as the count reaches a compare that is no more than the period. -/
def Obligations.TimerCommandsComplete : Prop :=
  (∀ (s : State) (n : Nat) (via : Via) (r : RegRow), s.reachesTask via (P.TMR n) 0x104 1 r 0 = true → s.canonical = true → n < 4 →
    s.enabled (P.TMR n) = true → s.tmrs.length = 4 → s.pageSt (P.TMR n) ≠ 1 → 
    ∃ t, exec (.start n via) s = .next t ∧ t.pageSt (P.TMR n) = 1 ∧ t.get (F.TMR_COUNT_COUNT n) = s.get (F.TMR_COUNT_COUNT n) ∧
    (t.tmr n).period = (s.reg (Reg.TMR_PERIOD n)).toNat ∧ (t.tmr n).cmps = (List.range 4).map (fun k => (s.reg (Reg.TMR_CMP n k)).toNat)) ∧
  (∀ (s : State) (n : Nat) (via : Via) (r : RegRow), s.reachesTask via (P.TMR n) 0x104 1 r 0 = true → s.canonical = true → n < 4 →
    s.enabled (P.TMR n) = true → s.pageSt (P.TMR n) = 1 → 
    ∃ t, exec (.start n via) s = .next t ∧ t.pageSt (P.TMR n) = 1 ∧ t.get (F.TMR_COUNT_COUNT n) = s.get (F.TMR_COUNT_COUNT n) ∧ t.tmrs = s.tmrs) ∧
  (∀ (s : State) (n : Nat) (via : Via) (r : RegRow), s.reachesTask via (P.TMR n) 0x104 2 r 1 = true → s.canonical = true → n < 4 →
    s.enabled (P.TMR n) = true → 
    ∃ t, exec (.stop n via) s = .next t ∧ t.pageSt (P.TMR n) = 0 ∧ t.get (F.TMR_COUNT_COUNT n) = s.get (F.TMR_COUNT_COUNT n) ∧ t.tmrs = s.tmrs) ∧
  (∀ (s : State) (n : Nat) (via : Via) (r : RegRow), s.reachesTask via (P.TMR n) 0x104 4 r 2 = true → s.canonical = true → n < 4 →
    s.enabled (P.TMR n) = true → 
    ∃ t, exec (.clear n via) s = .next t ∧ t.pageSt (P.TMR n) = s.pageSt (P.TMR n) ∧ t.get (F.TMR_COUNT_COUNT n) = 0 ∧
    (s.get (F.TMR_COUNT_COUNT n) ≠ (s.tmr n).period → s.get (F.TMR_COUNT_COUNT n) ≠ 0xFFFFFFFF → t.tmrs = s.tmrs)) ∧
  (∀ (s : State) (i : Initiator) (n : Nat) (r : RegRow), s.takes i (P.TMR n) 0x104 8 r = true → s.canonical = true → n < 4 →
    s.enabled (P.TMR n) = true → s.tmrs.length = 4 → 
    ∃ t, exec (.load n i) s = .next t ∧ t.get (F.TMR_COUNT_COUNT n) = s.get (F.TMR_COUNT_COUNT n) ∧ t.pageSt (P.TMR n) = s.pageSt (P.TMR n) ∧
    (t.tmr n).period = (s.reg (Reg.TMR_PERIOD n)).toNat ∧ (t.tmr n).cmps = (List.range 4).map (fun k => (s.reg (Reg.TMR_CMP n k)).toNat)) ∧
  (∀ (s : State) (n k : Nat), s.canonical = true → n < 4 → k < 4 → s.taskGoes (taskId (P.TMR n) (3 + k)) = true → s.tmrCapMode n k = true → 
    ∃ t, exec (.capture n k) s = .next t ∧ t.reg (Reg.TMR_CMP n k) = s.reg (Reg.TMR_COUNT n) ∧
    (t.reg (Reg.IRQ_RAW (P.TMR n))).toNat.testBit (1 + k) = true ∧ t.get (F.TMR_COUNT_COUNT n) = s.get (F.TMR_COUNT_COUNT n)) ∧
  (∀ (s : State) (n k : Nat), s.canonical = true → n < 4 → k < 4 → s.taskGoes (taskId (P.TMR n) (3 + k)) = true → s.tmrCapMode n k = false → 
    ∃ t, exec (.capture n k) s = .next t ∧ t.regs = s.regs ∧ t.tmrs = s.tmrs) ∧
  (∀ (s : State) (n : Nat), s.canonical = true → n < 4 → s.enabled (P.TMR n) = true → s.pageSt (P.TMR n) = 1 → s.tmrs.length = 4 →
    s.get (F.TMR_COUNT_COUNT n) = (s.tmr n).period → 
    ∃ t, exec (.wrap n) s = .next t ∧ t.get (F.TMR_COUNT_COUNT n) = 0 ∧ (t.tmr n).period = (s.reg (Reg.TMR_PERIOD n)).toNat ∧
    (t.tmr n).cmps = (List.range 4).map (fun k => (s.reg (Reg.TMR_CMP n k)).toNat) ∧
    t.pageSt (P.TMR n) = (if s.on (F.TMR_CFG_ONESHOT n) then 0 else 1)) ∧
  (∀ (s : State) (n : Nat), s.canonical = true → n < 4 → s.enabled (P.TMR n) = true → s.pageSt (P.TMR n) = 1 → s.tmrs.length = 4 →
    s.get (F.TMR_COUNT_COUNT n) + 1 = (s.tmr n).period → (s.tmr n).period < 2 ^ 32 → 
    ∃ t, exec (.wrap n) s = .next t ∧ (t.reg (Reg.IRQ_RAW (P.TMR n))).toNat.testBit (0) = true ∧ t.get (F.TMR_COUNT_COUNT n) = 0 ∧
    (t.tmr n).period = (s.reg (Reg.TMR_PERIOD n)).toNat ∧ (t.tmr n).cmps = (List.range 4).map (fun k => (s.reg (Reg.TMR_CMP n k)).toNat) ∧
    t.pageSt (P.TMR n) = (if s.on (F.TMR_CFG_ONESHOT n) then 0 else 1)) ∧
  (∀ (s : State) (n k : Nat), s.canonical = true → n < 4 → s.enabled (P.TMR n) = true → s.pageSt (P.TMR n) = 1 → k < 4 → s.tmrCapMode n k = false →
    s.get (F.TMR_COUNT_COUNT n) + 1 = (s.tmr n).cmps.getD k 0 → (s.tmr n).cmps.getD k 0 ≤ (s.tmr n).period → (s.tmr n).period < 2 ^ 32 → 
    ∃ t, exec (.cmp n k) s = .next t ∧ (t.reg (Reg.IRQ_RAW (P.TMR n))).toNat.testBit (1 + k) = true ∧
    t.get (F.TMR_COUNT_COUNT n) = (s.tmr n).cmps.getD k 0 ∧ t.tmrs = s.tmrs)

/-- LPT_SYNC_DONE, LPT_WRAP, LPT_CMP (08 R206, R207, R211), WDT_ENABLE, FEED, PREWARN, WDT_EXPIRY (08 R213 to R217): writes that cross arrive and
SYNC_BUSY clears; a low-power timer raises its flags as the count reaches the period or the compare, wakes where asked, and wraps to 0; EN = 1 loads
and starts the watchdog and EN = 1 written again is discarded with LOCK_VIOL; the key feeds it inside the window, an early feed or another value
expires it at once, and a stopped one ignores feeds; the count warns at PREWARN and expires at 0; expiry records its cause and asks for a chip reset
with cause WDT. -/
def Obligations.LowPowerTimerAndWatchdogCommandsComplete : Prop :=
  (∀ (s : State), s.canonical = true → 
    ∃ t, exec .lptSyncDone s = .next t ∧ t.get F.LPT_STAT_SYNC_BUSY = 0 ∧
    (∀ x ∈ [Reg.LPT_CTRL, Reg.LPT_T_PERIOD 0, Reg.LPT_T_CMP 0, Reg.LPT_T_PERIOD 1, Reg.LPT_T_CMP 1], t.lptSeen x = s.reg x)) ∧
  (∀ (s : State) (m : Nat), s.canonical = true → m < 2 → s.lptRuns m = true → s.lpts.length = 2 → s.get (F.LPT_T_COUNT_COUNT m) = (s.lpt m).period → 
    ∃ t, exec (.lptWrap m) s = .next t ∧ t.get (F.LPT_T_COUNT_COUNT m) = 0 ∧ (t.lpt m).period = (s.lptSeen (Reg.LPT_T_PERIOD m)).toNat ∧
    (t.lpt m).cmp = (s.lptSeen (Reg.LPT_T_CMP m)).toNat) ∧
  (∀ (s : State) (m : Nat), s.canonical = true → m < 2 → s.lptRuns m = true → s.lpts.length = 2 →
    s.get (F.LPT_T_COUNT_COUNT m) + 1 = (s.lpt m).period → (s.lpt m).period < 2 ^ 24 → 
    ∃ t, exec (.lptWrap m) s = .next t ∧ (t.reg (Reg.IRQ_RAW (P.LPT))).toNat.testBit (2 * m) = true ∧
    ((s.lptSeen Reg.LPT_CTRL).toNat.testBit (8 + m) = true → 0x18 + m ∈ t.pwr.wakes) ∧ t.get (F.LPT_T_COUNT_COUNT m) = 0 ∧
    (t.lpt m).period = (s.lptSeen (Reg.LPT_T_PERIOD m)).toNat ∧ (t.lpt m).cmp = (s.lptSeen (Reg.LPT_T_CMP m)).toNat) ∧
  (∀ (s : State) (m : Nat), s.canonical = true → m < 2 → s.lptRuns m = true → s.get (F.LPT_T_COUNT_COUNT m) + 1 = (s.lpt m).cmp →
    (s.lpt m).cmp ≤ (s.lpt m).period → (s.lpt m).period < 2 ^ 24 → 
    ∃ t, exec (.lptCmp m) s = .next t ∧ (t.reg (Reg.IRQ_RAW (P.LPT))).toNat.testBit (2 * m + 1) = true ∧
    t.get (F.LPT_T_COUNT_COUNT m) = (s.lpt m).cmp ∧ t.lpts = s.lpts ∧ ((s.lptSeen Reg.LPT_CTRL).toNat.testBit (8 + m) = true → 0x18 + m ∈ t.pwr.wakes)) ∧
  (∀ (s : State) (i : Initiator) (w : Word) (r : RegRow), s.takes i P.WDT 0x100 (withBits w 0 1 1) r = true → s.canonical = true →
    s.enabled P.WDT = true → 
    ∃ t, exec (.wdtEnable i w) s = .next t ∧ t.get F.WDT_CFG_EN = 1 ∧ t.get F.WDT_STAT_RUNNING = 1 ∧ t.get F.WDT_COUNT_COUNT = s.wdtLoadVal) ∧
  (∀ (s : State) (i : Initiator) (w : Word), s.admits (writeReq i (pageAddr P.WDT 0x100) (withBits w 0 1 1)) = true → s.canonical = true →
    s.on (F.PAGE_STAT_UNDER_TEST P.WDT) = false → s.on F.WDT_CFG_EN = true → 
    ∃ t, exec (.wdtEnable i w) s = .next t ∧ t.reg Reg.WDT_CFG = s.reg Reg.WDT_CFG ∧ t.get F.WDT_COUNT_COUNT = s.get F.WDT_COUNT_COUNT ∧
    (t.reg (Reg.IRQ_RAW P.WDT)).toNat.testBit 31 = true) ∧
  (∀ (s : State) (i : Initiator) (w : Word) (r : RegRow), s.takes i P.WDT 0x110 w r = true → s.canonical = true → s.on F.WDT_STAT_RUNNING = true →
    w = 0x5A3C → (s.on F.WDT_CFG_WIN_EN && decide (s.get F.WDT_WINDOW_WINDOW < s.get F.WDT_COUNT_COUNT)) = false → 
    ∃ t, exec (.feed i w) s = .next t ∧ t.wdtFeed = true ∧ t.get F.WDT_COUNT_COUNT = s.get F.WDT_COUNT_COUNT ∧ t.resetReq = s.resetReq) ∧
  (∀ (s : State) (i : Initiator) (w : Word) (r : RegRow), s.takes i P.WDT 0x110 w r = true → s.canonical = true → s.on F.WDT_STAT_RUNNING = true →
    w = 0x5A3C → (s.on F.WDT_CFG_WIN_EN && decide (s.get F.WDT_WINDOW_WINDOW < s.get F.WDT_COUNT_COUNT)) = true → 
    ∃ t, exec (.feed i w) s = .next t ∧ t.get F.WDT_STAT_LAST_EXP = 2 ∧ t.get F.WDT_STAT_RUNNING = 0 ∧ (s.resetReq = none → t.resetReq = some 4)) ∧
  (∀ (s : State) (i : Initiator) (w : Word) (r : RegRow), s.takes i P.WDT 0x110 w r = true → s.canonical = true → s.on F.WDT_STAT_RUNNING = true →
    w ≠ 0x5A3C → 
    ∃ t, exec (.feed i w) s = .next t ∧ t.get F.WDT_STAT_LAST_EXP = 3 ∧ t.get F.WDT_STAT_RUNNING = 0 ∧ (s.resetReq = none → t.resetReq = some 4)) ∧
  (∀ (s : State) (i : Initiator) (w : Word) (r : RegRow), s.takes i P.WDT 0x110 w r = true → s.canonical = true → s.on F.WDT_STAT_RUNNING = false → 
    ∃ t, exec (.feed i w) s = .next t ∧ t.wdtFeed = s.wdtFeed ∧ t.resetReq = s.resetReq ∧ t.get F.WDT_STAT_LAST_EXP = s.get F.WDT_STAT_LAST_EXP) ∧
  (∀ (s : State), s.canonical = true → s.on F.WDT_STAT_RUNNING = true → s.get F.WDT_COUNT_COUNT = s.get F.WDT_PREWARN_PREWARN → 
    ∃ t, exec .prewarn s = .next t ∧ t.get F.WDT_STAT_PREWARNED = 1 ∧ (s.on F.WDT_STAT_PREWARNED = false → s.enabled P.WDT = true →
    (t.reg (Reg.IRQ_RAW (P.WDT))).toNat.testBit (0) = true) ∧ (s.on F.WDT_STAT_PREWARNED = true → t.regs = s.regs) ∧
    t.get F.WDT_COUNT_COUNT = s.get F.WDT_COUNT_COUNT) ∧
  (∀ (s : State), s.canonical = true → s.on F.WDT_STAT_RUNNING = true → s.pwr.state ≠ .dormant → s.wdtFeed = false →
    s.get F.WDT_COUNT_COUNT = s.get F.WDT_PREWARN_PREWARN + 1 → 
    ∃ t, exec .prewarn s = .next t ∧ t.get F.WDT_STAT_PREWARNED = 1 ∧ (s.on F.WDT_STAT_PREWARNED = false → s.enabled P.WDT = true →
    (t.reg (Reg.IRQ_RAW (P.WDT))).toNat.testBit (0) = true) ∧ t.get F.WDT_COUNT_COUNT = s.get F.WDT_PREWARN_PREWARN) ∧
  (∀ (s : State), s.canonical = true → s.on F.WDT_STAT_RUNNING = true → s.pwr.state ≠ .dormant → s.wdtFeed = false → s.get F.WDT_COUNT_COUNT ≤ 1 → 
    ∃ t, exec .wdtExpiry s = .next t ∧ t.get F.WDT_COUNT_COUNT = 0 ∧ t.get F.WDT_STAT_LAST_EXP = 1 ∧ t.get F.WDT_STAT_RUNNING = 0 ∧
    (s.resetReq = none → t.resetReq = some 4))

/-- HVL_ENABLE, TRAINING_DONE, HELLO, WELCOME, TIME, HVL_SYNC_EDGE, SYNC_MARKER, MISSING_EDGE, NO_TIME_WITHIN_16_MS, LINK_DOWN (11 R288 to R292, R300,
R302): EN = 1 joins the master and starts the training of the port; a trained port reports its lanes, HVL_UP sends HELLO, a wrong neighbour is a strap
error; the master answers WELCOME; a welcomed slave follows HVL_SYNC and joins at the marker after TIME, and is lost when the count differs or after
three missing edges. -/
def Obligations.CascadeJoinCommandsComplete : Prop :=
  (∀ (s : State) (i : Initiator) (w : Word) (r : RegRow), s.takes i P.HVL 0x100 (withBits w 0 1 1) r = true → s.canonical = true →
    s.variant = .znl7240 → s.enabled P.HVL = true → s.hveClock = true → s.underTest 0x1403 = false → s.pageSt P.HVL = 0 → s.hvlPos = 0 → 
    ∃ t, exec (.hvlEnable i w) s = .next t ∧ t.pageSt P.HVL = 3 ∧ t.get F.HVL_CFG_EN = 1 ∧ (t.get F.HVL_MEMBERS_JOINED).testBit 0 = true ∧
    (t.hop .dn).training = true ∧ (t.hop .dn).up = false) ∧
  (∀ (s : State) (i : Initiator) (w : Word) (r : RegRow), s.takes i P.HVL 0x100 (withBits w 0 1 1) r = true → s.canonical = true →
    s.variant = .znl7240 → s.enabled P.HVL = true → s.hveClock = true → s.underTest 0x1403 = false → s.pageSt P.HVL = 0 → s.hvlPos ≠ 0 → 
    ∃ t, exec (.hvlEnable i w) s = .next t ∧ t.pageSt P.HVL = 1 ∧ t.get F.HVL_CFG_EN = 1 ∧ (t.hop .up).training = true ∧ (t.hop .up).up = false) ∧
  (∀ (s : State) (n lanes : Nat), s.canonical = true → (s.hop .up).training = true → (s.hop .up).up = false → s.hveRuns = true → n + 1 = s.hvlPos →
    lanes % 4 &&& s.lanesLeft .up ≠ 0 → lanes / 4 % 4 ≠ 0 → 
    ∃ t, exec (.trainingDone .up n lanes) s = .next t ∧ (t.hop .up).up = true ∧ (t.hop .up).training = false ∧
    t.get F.HVL_STAT_UP_RX = lanes % 4 &&& s.lanesLeft .up ∧ t.get F.HVL_STAT_UP_TX = lanes / 4 % 4 ∧ t.pageSt P.HVL = 1 ∧
    s.sentTo t ptHello 0 s.hvl.next (natLe 4 (chipId s.variant) ++ natLe 1 (s.get F.NBT_CFG_DEVICES) ++ natLe 1 (s.get F.HVL_STAT_FRESH)) = true) ∧
  (∀ (s : State) (n lanes : Nat), s.canonical = true → (s.hop .dn).training = true → (s.hop .dn).up = false → s.hveRuns = true → n = s.hvlPos + 1 →
    lanes % 4 &&& s.lanesLeft .dn ≠ 0 → lanes / 4 % 4 ≠ 0 → 
    ∃ t, exec (.trainingDone .dn n lanes) s = .next t ∧ (t.hop .dn).up = true ∧ (t.hop .dn).training = false ∧
    t.get F.HVL_STAT_DN_RX = lanes % 4 &&& s.lanesLeft .dn ∧ t.get F.HVL_STAT_DN_TX = lanes / 4 % 4 ∧ t.pageSt P.HVL = s.pageSt P.HVL) ∧
  (∀ (s : State) (port : HvlPort) (n lanes : Nat), s.canonical = true → (s.hop port).training = true → (s.hop port).up = false → s.hveRuns = true →
    (port = .up → n + 1 ≠ s.hvlPos) → (port = .dn → n ≠ s.hvlPos + 1) → 
    ∃ t, exec (.trainingDone port n lanes) s = .next t ∧ t.pageSt P.HVL = 5 ∧ (t.hop port).up = false ∧ (t.hop port).training = false ∧
    (t.reg (Reg.IRQ_RAW (P.HVL))).toNat.testBit (4) = true) ∧
  (∀ (s : State) (p : Packet), p.ptype = ptHello → s.hears p = true → s.canonical = true → s.hvlMaster = true → leAt p.payload 2 2 = 0x7240 →
    p.bcast = false → leAt p.payload 4 1 = s.get F.NBT_CFG_DEVICES → s.leadsTo p.src = true → p.src ≤ s.get F.NBT_CFG_DEVICES → 
    ∃ t, exec (.hello p) s = .next t ∧ (p.src, false) ∈ t.hvl.joining ∧ s.sentTo t ptWelcome p.src p.tag [0] = true) ∧
  (∀ (s : State) (p : Packet), p.ptype = ptHello → s.hears p = true → s.canonical = true → s.hvlMaster = true → leAt p.payload 2 2 = 0x7240 →
    p.bcast = false → leAt p.payload 4 1 ≠ s.get F.NBT_CFG_DEVICES → s.leadsTo p.src = true → 
    ∃ t, exec (.hello p) s = .next t ∧ t.hvl.joining = s.hvl.joining ∧ s.sentTo t ptWelcome p.src p.tag [2] = true) ∧
  (∀ (s : State) (p : Packet), p.ptype = ptHello → p.intact = true → (s.hop .up).up = true → s.hveRuns = true → (s.hop p.port).up = true →
    (s.hop p.port).training = false → (s.hop p.port).accepted.contains (p.seq % 256) = false → p.bcast = false → p.dst < s.hvlPos → 
    ∃ t, exec (.hello p) s = .next t ∧ t.regs = s.regs ∧ t.hvl.joining = s.hvl.joining ∧
    (t.hop .up).kept = (s.hop .up).kept ++ [(⟨(s.hop .up).nextSeq, ptHello, { p with port := .up, seq := (s.hop .up).nextSeq }, 0, false⟩ :
    SentPacket)]) ∧
  (∀ (s : State) (p : Packet), p.ptype = ptWelcome → s.hears p = true → s.canonical = true → s.pageSt P.HVL = 1 → s.hvlPos ≠ 0 → p.bcast = false →
    leAt p.payload 0 1 = 0 → 
    ∃ t, exec (.welcome p) s = .next t ∧ t.pageSt P.HVL = 2 ∧ t.get F.HVL_STAT_FOLLOW = 1 ∧ t.get F.TMB_STAT_FOLLOW = 1 ∧
    t.get F.HVL_STAT_JOIN_FAIL = 0 ∧ t.hvl.time = none) ∧
  (∀ (s : State) (p : Packet), p.ptype = ptWelcome → s.hears p = true → s.canonical = true → s.pageSt P.HVL = 1 → s.hvlPos ≠ 0 → p.bcast = false →
    0 < leAt p.payload 0 1 → leAt p.payload 0 1 < 8 → 
    ∃ t, exec (.welcome p) s = .next t ∧ t.pageSt P.HVL = 1 ∧ t.get F.HVL_STAT_JOIN_FAIL = leAt p.payload 0 1 ∧
    t.get F.HVL_STAT_FOLLOW = s.get F.HVL_STAT_FOLLOW) ∧
  (∀ (s : State) (p : Packet), p.ptype = ptTime → s.hears p = true → s.canonical = true → s.pageSt P.HVL = 2 ∨ s.hvlSlave = true → 
    ∃ t, exec (.time p) s = .next t ∧ t.hvl.time = some (leAt p.payload 0 6) ∧ t.regs = s.regs ∧ t.count = s.count) ∧
  (∀ (s : State), s.canonical = true → s.on F.HVL_STAT_FOLLOW = true → 
    ∃ t, exec .hvlSyncEdge s = .next t ∧ t.count = (s.count / 256 + 1) * 256 % countMod ∧ t.hvl.missing = 0) ∧
  (∀ (s : State), s.on F.HVL_STAT_FOLLOW = false → 
    ∃ t, exec .hvlSyncEdge s = .next t ∧ t = s) ∧
  (∀ (s : State) (c : Nat), s.canonical = true → s.on F.HVL_STAT_FOLLOW = true → s.hvl.time = some c → s.pageSt P.HVL = 2 → 
    ∃ t, exec .syncMarker s = .next t ∧ t.count = (c / 256 * 256 + s.count % 256) % countMod ∧ t.pageSt P.HVL = 3 ∧ t.get F.HVL_STAT_FRESH = 0 ∧
    t.hvl.time = none ∧ (t.hop .dn).training = true) ∧
  (∀ (s : State) (c : Nat), s.canonical = true → s.on F.HVL_STAT_FOLLOW = true → s.hvl.time = some c → s.hvlSlave = true → s.count / 256 = c / 256 → 
    ∃ t, exec .syncMarker s = .next t ∧ t = { s with hvl := { s.hvl with time := none } }) ∧
  (∀ (s : State) (c : Nat), s.canonical = true → s.on F.HVL_STAT_FOLLOW = true → s.hvl.time = some c → s.hvlSlave = true → s.count / 256 ≠ c / 256 → 
    ∃ t, exec .syncMarker s = .next t ∧ t.pageSt P.HVL = 4 ∧ t.get F.HVL_STAT_FOLLOW = 0 ∧ t.get F.TMB_STAT_FOLLOW = 0 ∧
    (t.hop .up).training = true ∧ (t.hop .dn).up = false) ∧
  (∀ (s : State), s.canonical = true → s.on F.HVL_STAT_FOLLOW = true → s.hvl.missing < 2 → s.get F.HVL_SYNC_MISSED < 65535 → 
    ∃ t, exec .missingEdge s = .next t ∧ t.count = (s.count / 256 + 1) * 256 % countMod ∧ t.hvl.missing = s.hvl.missing + 1 ∧
    t.get F.HVL_SYNC_MISSED = s.get F.HVL_SYNC_MISSED + 1) ∧
  (∀ (s : State), s.canonical = true → s.on F.HVL_STAT_FOLLOW = true → 2 ≤ s.hvl.missing → 
    ∃ t, exec .missingEdge s = .next t ∧ t.pageSt P.HVL = 4 ∧ t.get F.HVL_STAT_FOLLOW = 0 ∧ t.get F.TMB_STAT_FOLLOW = 0 ∧
    (t.hop .up).training = true ∧ (t.hop .dn).up = false) ∧
  (∀ (s : State), s.canonical = true → s.pageSt P.HVL = 2 → s.hvl.time = none → 
    ∃ t, exec .noTimeWithin16Ms s = .next t ∧ t.get F.HVL_STAT_JOIN_FAIL = 4 ∧ t.pageSt P.HVL = 2 ∧ t.hvl = s.hvl) ∧
  (∀ (s : State) (p : Packet), p.ptype = ptLinkDown → s.hears p = true → s.canonical = true → p.bcast = false → s.hvlMaster = true → 
    ∃ t, exec (.linkDown p) s = .next t ∧ (∀ k ∈ List.range 8, leAt p.payload 0 1 ≤ k → 1 ≤ k → k ≤ s.get F.NBT_CFG_DEVICES →
    (t.get F.HVL_MEMBERS_JOINED).testBit k = false ∧ (t.get F.HVL_MEMBERS_LOST).testBit k = true))

/-- HVL_LOOKUP, REPLY, VERDICT, NBT_CMD, NBT_RES, ENTRY, ENTRY_RES, FRAME, FWD_ACK, FORWARD_RESEND, COMMIT_AT (11 R284, R285, R293 to R297; 20 R459): a
home device answers a lookup; the requester's frame takes the answer; a verdict releases or commits at the home; a command is executed at the home and
completes at its issuer; an entry command acts at the slave; a forwarded frame enters the master's receive queue. -/
def Obligations.CascadeRequestsComplete : Prop :=
  (∀ (s : State) (p : Packet) (k : NbtKey), p.ptype = ptLookup → s.hears p = true → s.canonical = true → p.bcast = false → s.leadsTo p.src = true →
    s.enabled P.NBT = true → k = ⟨false, p.payload.take 8⟩ → (leAt p.payload 8 1).testBit 0 = false → s.searchBad k = false → s.findKey k = none → 
    ∃ t, exec (.hvlLookup p) s = .next t ∧ s.sentTo t ptReply p.src p.tag (replyBytes 0 false false [] 0) = true ∧ t.mem = s.mem) ∧
  (∀ (s : State) (p : Packet) (k : NbtKey) (n : Nat), p.ptype = ptLookup → s.hears p = true → s.canonical = true → p.bcast = false →
    s.leadsTo p.src = true → s.enabled P.NBT = true → k = ⟨false, p.payload.take 8⟩ → (leAt p.payload 8 1).testBit 0 = false →
    s.searchBad k = false → s.findKey k = some n → s.entFlag n efAlias = false → s.globalIx n / 16384 = s.myPos → s.globalIx n % 16384 = n →
    s.reserved.any (fun r => r.1 == n) = false → (leAt p.payload 8 1).testBit 1 = false → 
    ∃ t, exec (.hvlLookup p) s = .next t ∧
    s.sentTo t ptReply p.src p.tag (replyBytes (s.globalIx n) true false (s.entWords n) (s.nextOut n)) = true ∧ t.reserved = s.reserved ∧
    t.mem = s.mem) ∧
  (∀ (s : State) (p : Packet) (ns at_ : Nat) (u : RxUnit) (f : RxFrame) (w : Outstanding) (h : MacHdr) (x : Nat), p.ptype = ptReply →
    s.hears p = true → s.canonical = true → p.bcast = false → s.dueAnswer ptLookup p = some w → w.unit = some (u, at_) →
    s.stampedFrame u at_ = some f → f.lookup = .waiting → (leAt p.payload 0 4).testBit 17 = true → (leAt p.payload 0 4).testBit 18 = false →
    f.mac = some h → h.srcAddr = some (.ext x) → 
    ∃ t, exec (.reply p ns) s = .next t ∧
    ((t.slot u).frame.map (fun (g : RxFrame) => g.lookup)) = some (LookupState.found ⟨leAt p.payload 0 4 % 2 ^ 17, [x % 2 ^ 32, x / 2 ^ 32, leAt
    p.payload 4 2 * 65536, leAt p.payload 6 4, leAt p.payload 10 4, leAt p.payload 14 4, 0, 0], if w.part == [1] then some (leAt p.payload 10 4)
    else none⟩) ∧ t.hvl.waits = s.hvl.waits.filter (· != w)) ∧
  (∀ (s : State) (p : Packet) (ns at_ : Nat) (u : RxUnit) (f : RxFrame) (w : Outstanding), p.ptype = ptReply → s.hears p = true →
    s.canonical = true → p.bcast = false → s.dueAnswer ptLookup p = some w → w.unit = some (u, at_) → s.stampedFrame u at_ = some f →
    f.lookup = .waiting → (leAt p.payload 0 4).testBit 17 = false → 
    ∃ t, exec (.reply p ns) s = .next t ∧ ((t.slot u).frame.map (fun (g : RxFrame) => g.lookup)) = some LookupState.notFound ∧
    t.hvl.waits = s.hvl.waits.filter (· != w)) ∧
  (∀ (s : State) (p : Packet) (i u : Nat), p.ptype = ptVerdict → s.hears p = true → s.canonical = true → p.bcast = false →
    i = leAt p.payload 0 4 % 16384 → u = leAt p.payload 8 4 → (leAt p.payload 0 4).testBit 19 = false → s.entW i 4 ≤ u → u < 0xFFFFFFFF →
    (leAt p.payload 0 4).testBit 17 = false → (leAt p.payload 0 4).testBit 18 = true → 
    ∃ t, exec (.verdict p) s = .next t ∧ t.reserved = removeFirst (fun r => r == (i, u)) s.reserved ∧ t.entW i 4 = u + 1 ∧ t.entW i 3 = s.entW i 3) ∧
  (∀ (s : State) (p : Packet) (i u : Nat), p.ptype = ptVerdict → s.hears p = true → s.canonical = true → p.bcast = false →
    i = leAt p.payload 0 4 % 16384 → u = leAt p.payload 8 4 → (leAt p.payload 0 4).testBit 19 = false → s.entW i 4 ≤ u → u < 0xFFFFFFFF →
    (leAt p.payload 0 4).testBit 17 = true → s.entW i 3 < leAt p.payload 4 4 → 
    ∃ t, exec (.verdict p) s = .next t ∧ t.reserved = removeFirst (fun r => r == (i, u)) s.reserved ∧ t.entW i 4 = u + 1 ∧
    t.entW i 3 = leAt p.payload 4 4) ∧
  (∀ (s : State) (p : Packet) (g : Nat), p.ptype = ptNbtCmd → s.hears p = true → s.canonical = true → p.bcast = false → p.first = true →
    p.last = true → s.enabled P.NBT = true → leAt p.payload 0 1 % 8 = 3 → g = leAt p.payload 2 4 % 2 ^ 17 → g / 16384 = s.myPos →
    s.badIndex g = false → s.entBad (g % 16384) = false → s.entUsable (g % 16384) = true → s.entFlag (g % 16384) efValid = true →
    s.leadsTo p.src = true → 
    ∃ t, exec (.nbtCmd p) s = .next t ∧ t.entFlag (g % 16384) efValid = false ∧ s.sentTo t ptNbtRes p.src p.tag (natLe 4 g) = true) ∧
  (∀ (s : State) (p : Packet) (w : Outstanding) (i : Initiator), p.ptype = ptNbtRes → s.hears p = true → s.canonical = true → p.bcast = false →
    p.first = true → p.last = true → s.dueAnswer ptNbtCmd p = some w → w.ini = some i → p.payload.length < 36 → 
    ∃ t, exec (.nbtRes p) s = .next t ∧ t.nbtJobs.get i = none ∧ t.getI i F.NBT_RES_BUSY = 0 ∧
    t.getI i F.NBT_RES_RESULT = bitsOf (leAt p.payload 0 4) 20 4 ∧ t.getI i F.NBT_RES_INDEX = leAt p.payload 0 4 % 2 ^ 17 ∧
    t.hvl.waits = s.hvl.waits.filter (· != w)) ∧
  (∀ (s : State) (p : Packet) (n : Nat), p.ptype = ptEntry → s.hears p = true → s.canonical = true → p.bcast = false → p.first = true →
    p.last = true → s.enabled P.LNK = true → s.hvlSlave = true → leAt p.payload 0 1 % 8 = 2 → n = leAt p.payload 1 1 % 128 →
    n < s.timeline.length → (s.ent n).state = EntryState.armed ∨ (s.ent n).state = EntryState.wait → s.leadsTo p.src = true → 
    ∃ t, exec (.entry p) s = .next t ∧ (t.ent n).state = EntryState.empty ∧ (t.ent n).last = 5 ∧
    s.sentTo t ptEntryRes p.src p.tag (natLe 4 (t.entRes n 0)) = true) ∧
  (∀ (s : State) (p : Packet) (w : Outstanding) (i : Initiator), p.ptype = ptEntryRes → s.hears p = true → s.canonical = true → p.bcast = false →
    p.first = true → p.last = true → s.dueAnswer ptEntry p = some w → w.ini = some i → p.payload.length < 36 → 
    ∃ t, exec (.entryRes p) s = .next t ∧ t.regI i Reg.LNK_ENT_RES = BitVec.ofNat 32 (leAt p.payload 0 4) ∧
    t.hvl.waits = s.hvl.waits.filter (· != w) ∧ t.regs = s.regs) ∧
  (∀ (s : State) (p : Packet), p.ptype = ptFrame → s.hears p = true → s.canonical = true → p.bcast = false → p.first = true → p.last = true →
    s.hvlMaster = true → s.enabled P.FRM = true → s.hvl.inbound.find? (fun f => f.src == p.src) = none →
    blocksFor (p.payload.length - 4) ≤ s.freeCount → s.owners.length = 512 → s.leadsTo p.src = true → 
    ∃ t, exec (.frame p) s = .next t ∧ ∃ h, t.rxq = s.rxq ++ [h] ∧ t.rxSeq = (s.rxSeq + 1) % 2 ^ 32 ∧
    (t.reg (Reg.IRQ_RAW (P.FRM))).toNat.testBit (0) = true ∧ s.sentTo t ptFwdAck p.src p.tag [BitVec.ofNat 8 p.tag, 0] = true) ∧
  (∀ (s : State) (p : Packet) (h : Nat) (q : List Nat), p.ptype = ptFwdAck → s.hears p = true → s.canonical = true → p.bcast = false →
    s.hvl.fwdSent = true → leAt p.payload 0 1 = s.hvl.fwdTag → s.hvl.fwdQ = h :: q → leAt p.payload 1 1 = 0 → 
    ∃ t, exec (.fwdAck p) s = .next t ∧ t.hvl.fwdQ = q ∧ (q = [] → t.hvl.fwdSent = false)) ∧
  (∀ (s : State) (p : Packet) (h : Nat) (q : List Nat), p.ptype = ptFwdAck → s.hears p = true → s.canonical = true → p.bcast = false →
    s.hvl.fwdSent = true → leAt p.payload 0 1 = s.hvl.fwdTag → s.hvl.fwdQ = h :: q → leAt p.payload 1 1 ≠ 0 → s.get F.HVL_FWD_STAT_NAKS < 65535 → 
    ∃ t, exec (.fwdAck p) s = .next t ∧ t.hvl.fwdQ = s.hvl.fwdQ ∧ t.hvl.fwdSent = false ∧
    t.hvl.fwdWait = (if s.hvl.fwdWait = 0 then 10 else min (2 * s.hvl.fwdWait) 640) ∧ t.get F.HVL_FWD_STAT_NAKS = s.get F.HVL_FWD_STAT_NAKS + 1) ∧
  (∀ (s : State) (h : Nat) (q : List Nat), s.hvlSlave = true → s.hvl.fwdSent = false → s.hvl.fwdWait ≠ 0 → s.hvl.fwdQ = h :: q → (s.hop .up).up = true → 
    ∃ t, exec .forwardResend s = .next t ∧ t.hvl.fwdSent = true ∧ t.hvl.fwdQ = s.hvl.fwdQ ∧ t.hvl.fwdTag = s.hvl.next ∧
    s.hvl.up.kept.length < t.hvl.up.kept.length ∧ t.regs = s.regs) ∧
  (∀ (s : State) (p : Packet), p.ptype = ptCommitAt → s.hears p = true → s.canonical = true → s.enabled P.UPD = true → s.hvlPos ≠ 0 →
    (leAt p.payload 1 1).testBit s.hvlPos = true → leAt p.payload 0 1 = 0 → s.updSt = 2 →
    toNats (p.payload.drop 8) = (mfDigest s.manifestNow).take 8 → notBefore (leAt p.payload 2 6) (addTicks s.count (usTicks 1000)) = true → 
    ∃ t, exec (.commitAt p) s = .next t ∧ t.updSt = 3 ∧ t.get F.UPD_AT_LO_AT_LO = leAt p.payload 2 6 % 2 ^ 32 ∧
    t.get F.UPD_AT_HI_AT_HI = leAt p.payload 2 6 / 2 ^ 32 % 65536 ∧ t.upd.byMaster = true) ∧
  (∀ (s : State) (p : Packet), p.ptype = ptCommitAt → s.hears p = true → s.canonical = true → s.enabled P.UPD = true → s.hvlPos ≠ 0 →
    (leAt p.payload 1 1).testBit s.hvlPos = true → leAt p.payload 0 1 = 1 → s.updSt = 4 ∨ s.updSt = 5 → s.upd.fall = none → 
    ∃ t, exec (.commitAt p) s = .next t ∧ t.upd.fall = some 5 ∧ t.updSt = s.updSt) ∧
  (∀ (s : State) (p : Packet), p.ptype = ptCommitAt → s.hears p = true → s.canonical = true → s.enabled P.UPD = true → s.hvlPos ≠ 0 →
    (leAt p.payload 1 1).testBit s.hvlPos = true → leAt p.payload 0 1 = 2 → s.updSt = 3 → 
    ∃ t, exec (.commitAt p) s = .next t ∧ t.updSt = 2 ∧ t.on F.UPD_STAT_BUSY = false)

/-- PACKET_ACK, PACKET_NAK, PACKET_CRC_FAIL, RESEND_TIMEOUT, RETRAIN_DONE, HOP_DOWN, PRBS_TEST_DONE, RESERVED_TYPE_PACKET (11 R284, R287, R298 to R300):
an acknowledged packet is no longer kept; one that is refused or times out waits for its retry until RETRY_MAX, then the hop retrains; a finished wait
sends again; a retrained port goes on; a hop that is down trains again; CRC failures are counted. -/
def Obligations.CascadeLinkEventsComplete : Prop :=
  (∀ (s : State) (port : HvlPort) (seq : Byte) (k : SentPacket), (s.hop port).kept.find? (fun k => k.seq == seq.toNat) = some k → 
    ∃ t, exec (.packetAck port seq) s = .next t ∧ (t.hop port).kept = (s.hop port).kept.filter (fun (x : SentPacket) => x.seq != seq.toNat) ∧
    t.regs = s.regs ∧ (k.ptype ≠ ptVerdict → t.hvl.verdicts = s.hvl.verdicts)) ∧
  (∀ (s : State) (port : HvlPort) (seq : Byte) (k : SentPacket), (s.hop port).up = true → (s.hop port).training = false →
    (s.hop port).kept.find? (fun k => k.seq == seq.toNat) = some k → k.retries < s.get F.FLT_CFG_RETRY_MAX → 
    ∃ t, exec (.packetNak port seq) s = .next t ∧
    (t.hop port).kept = (s.hop port).kept.map (fun (x : SentPacket) => if x.seq == seq.toNat then
    { x with retries := x.retries + 1, waiting := true } else x) ∧ (t.hop port).training = false ∧ t.regs = s.regs) ∧
  (∀ (s : State) (port : HvlPort) (seq : Byte) (k : SentPacket), (s.hop port).up = true → (s.hop port).training = false →
    (s.hop port).kept.find? (fun k => k.seq == seq.toNat) = some k → s.get F.FLT_CFG_RETRY_MAX ≤ k.retries → 
    ∃ t, exec (.packetNak port seq) s = .next t ∧ (t.hop port).training = true ∧ (t.hop port).kept = (s.hop port).kept ∧ t.regs = s.regs) ∧
  (∀ (s : State) (port : HvlPort) (seq : Byte) (k : SentPacket), (s.hop port).up = true → (s.hop port).training = false →
    (s.hop port).kept.find? (fun k => k.seq == seq.toNat) = some k → k.waiting = false → k.retries < s.get F.FLT_CFG_RETRY_MAX → 
    ∃ t, exec (.resendTimeout port seq) s = .next t ∧
    (t.hop port).kept = (s.hop port).kept.map (fun (x : SentPacket) => if x.seq == seq.toNat then
    { x with retries := x.retries + 1, waiting := true } else x) ∧ (t.hop port).training = false ∧ t.regs = s.regs) ∧
  (∀ (s : State) (port : HvlPort) (seq : Byte) (k : SentPacket), (s.hop port).up = true → (s.hop port).training = false →
    (s.hop port).kept.find? (fun k => k.seq == seq.toNat) = some k → k.waiting = false → s.get F.FLT_CFG_RETRY_MAX ≤ k.retries → 
    ∃ t, exec (.resendTimeout port seq) s = .next t ∧ (t.hop port).training = true ∧ (t.hop port).kept = (s.hop port).kept ∧ t.regs = s.regs) ∧
  (∀ (s : State) (port : HvlPort) (seq : Byte) (k : SentPacket), s.canonical = true → (s.hop port).up = true → (s.hop port).training = false →
    (s.hop port).kept.find? (fun k => k.seq == seq.toNat) = some k → k.waiting = true → s.get F.HVL_ERRS_RETRIES < 65535 → 
    ∃ t, exec (.resendTimeout port seq) s = .next t ∧
    (t.hop port).kept = (s.hop port).kept.map (fun (x : SentPacket) => if x.seq == seq.toNat then { x with waiting := false } else x) ∧
    (t.hop port).line = (s.hop port).line ++ packetChars k.pkt true ∧ t.get F.HVL_ERRS_RETRIES = s.get F.HVL_ERRS_RETRIES + 1) ∧
  (∀ (s : State) (p : Packet) (code : Bool) (l : Nat), s.canonical = true → s.hveRuns = true → (s.hop p.port).up = true →
    (s.hop p.port).training = false → s.get F.HVL_ERRS_CRC_ERRS < 65535 → p.intact = false → 
    ∃ t, exec (.packetCrcFail p code l) s = .next t ∧ t.get F.HVL_ERRS_CRC_ERRS = s.get F.HVL_ERRS_CRC_ERRS + 1 ∧
    (t.reg (Reg.IRQ_RAW (P.HVL))).toNat.testBit (5) = true) ∧
  (∀ (s : State) (p : Packet) (l : Nat), s.canonical = true → s.hveRuns = true → (s.hop p.port).up = true → (s.hop p.port).training = false →
    s.get F.HVL_ERRS_CRC_ERRS < 65535 → p.intact = false → 
    ∃ t, exec (.packetCrcFail p false l) s = .next t ∧
    (t.hop p.port).line = (s.hop p.port).line ++ [LinkChar.k 28 6, LinkChar.d (BitVec.ofNat 8 p.seq)] ∧ (t.hop p.port).kept = (s.hop p.port).kept) ∧
  (∀ (s : State) (p : Packet), s.canonical = true → s.hveRuns = true → (s.hop p.port).up = true → (s.hop p.port).training = false →
    s.get F.HVL_ERRS_CRC_ERRS < 65535 → p.intact = true → (s.hop p.port).accepted.contains (p.seq % 256) = false → p.ptype = 0 ∨ 0x0D < p.ptype →
    p.ptype ≠ ptFrame → 
    ∃ t, exec (.reservedTypePacket p) s = .next t ∧ t.get F.HVL_ERRS_CRC_ERRS = s.get F.HVL_ERRS_CRC_ERRS + 1 ∧
    (t.hop p.port).line = (s.hop p.port).line ++ [LinkChar.k 28 4, LinkChar.d (BitVec.ofNat 8 p.seq)] ∧ (t.hop p.port).kept = (s.hop p.port).kept) ∧
  (∀ (s : State) (port : HvlPort) (lanes : Nat), (s.hop port).up = true → (s.hop port).training = true → lanes % 4 ≠ 0 → 
    ∃ t, exec (.retrainDone port lanes) s = .next t ∧ (t.hop port).up = true ∧ (t.hop port).training = false ∧
    (t.hop port).kept = (s.hop port).kept.map (fun (x : SentPacket) => { x with retries := 0, waiting := false }) ∧
    (t.hop port).line = (s.hop port).line ++ (s.hop port).kept.flatMap (fun (x : SentPacket) => packetChars x.pkt true)) ∧
  (∀ (s : State) (lanes : Nat), s.canonical = true → (s.hop .dn).up = true → (s.hop .dn).training = true → lanes % 4 = 0 → 
    ∃ t, exec (.retrainDone .dn lanes) s = .next t ∧ (t.hop .dn).up = false ∧ (t.hop .dn).training = true ∧ (t.hop .dn).kept = [] ∧
    t.get F.HVL_STAT_DN_RX = 0 ∧ t.pageSt P.HVL = s.pageSt P.HVL) ∧
  (∀ (s : State), s.canonical = true → (s.hop .dn).up = true → 
    ∃ t, exec (.hopDown .dn) s = .next t ∧ (t.hop .dn).up = false ∧ (t.hop .dn).training = true ∧ (t.hop .dn).kept = [] ∧
    t.get F.HVL_STAT_DN_RX = 0 ∧ t.pageSt P.HVL = s.pageSt P.HVL) ∧
  (∀ (s : State) (lanes : Nat), s.canonical = true → (s.hop .up).up = true → s.pageSt P.HVL = 3 → (s.hop .up).training = true → lanes % 4 = 0 → 
    ∃ t, exec (.retrainDone .up lanes) s = .next t ∧ t.pageSt P.HVL = 4 ∧ (t.hop .up).up = false ∧ (t.hop .up).training = true ∧
    (t.hop .dn).up = false) ∧
  (∀ (s : State), s.canonical = true → (s.hop .up).up = true → s.pageSt P.HVL = 3 → 
    ∃ t, exec (.hopDown .up) s = .next t ∧ t.pageSt P.HVL = 4 ∧ (t.hop .up).up = false ∧ (t.hop .up).training = true ∧ (t.hop .dn).up = false) ∧
  (∀ (s : State) (port : HvlPort), (s.hop port).prbs = true → 
    ∃ t, exec (.prbsTestDone port false false) s = .next t ∧ (t.hop port).prbs = false ∧ t.faultTimes (uDir port) = [] ∧ t.regs = s.regs)

/-- AES_ECB_ENCRYPT, AES_CTR, CCM_ENCRYPT, CCM_DECRYPT, SHA_256, ECDSA_P256_VERIFY, JOB_DONE (12 R307, R314, R320), RNG, RNG_WORD, RNG_RESTART (12 R315):
a job is held with its operation, addresses, length and the key of its slot, BUSY = 1; when done its RESULT and output are there; a second command is
lost; a read of RNG takes the oldest word, or sets EMPTY_READ; words that pass enter the FIFO, a failure stops the generator until it is restarted. -/
def Obligations.SecurityJobCommandsComplete : Prop :=
  (∀ (s : State) (i : Initiator) (w : Word) (r : RegRow), s.takes i P.SEC 0x104 (withBits w 0 4 1) r = true → s.canonical = true →
    s.enabled P.SEC = true → s.sec.job = none → 
    ∃ t, exec (.aesEcbEncrypt i w) s = .next t ∧
    ((t.sec.job).map (fun (j : SecJob) => (j.op, j.src, j.dst, j.len, j.ini))) = some (1, (s.reg Reg.SEC_JOB_SRC).toNat, (s.reg
    Reg.SEC_JOB_DST).toNat, s.get F.SEC_JOB_LEN_LEN, i) ∧ t.get F.SEC_JOB_STAT_BUSY = 1 ∧ t.get F.SEC_JOB_STAT_LOST = 0 ∧
    (w.toNat.testBit 8 = false → ((t.sec.job).map (fun (j : SecJob) => (j.key, j.plain))) = some ((s.copyKey (bitsOf w.toNat 16 12) 3).1, none))) ∧
  (∀ (s : State) (i : Initiator) (w : Word) (r : RegRow), s.takes i P.SEC 0x104 (withBits w 0 4 1) r = true → s.canonical = true →
    s.enabled P.SEC = true → s.sec.job ≠ none → 
    ∃ t, exec (.aesEcbEncrypt i w) s = .next t ∧ t.sec = s.sec ∧ t.get F.SEC_JOB_STAT_LOST = 1) ∧
  (∀ (s : State) (i : Initiator) (w : Word) (r : RegRow), s.takes i P.SEC 0x104 (withBits w 0 4 2) r = true → s.canonical = true →
    s.enabled P.SEC = true → s.sec.job = none → 
    ∃ t, exec (.aesCtr i w) s = .next t ∧
    ((t.sec.job).map (fun (j : SecJob) => (j.op, j.src, j.dst, j.len, j.ini))) = some (2, (s.reg Reg.SEC_JOB_SRC).toNat, (s.reg
    Reg.SEC_JOB_DST).toNat, s.get F.SEC_JOB_LEN_LEN, i) ∧ t.get F.SEC_JOB_STAT_BUSY = 1 ∧ t.get F.SEC_JOB_STAT_LOST = 0 ∧
    (w.toNat.testBit 8 = false → ((t.sec.job).map (fun (j : SecJob) => (j.key, j.plain))) = some ((s.copyKey (bitsOf w.toNat 16 12) 3).1, none))) ∧
  (∀ (s : State) (i : Initiator) (w : Word) (r : RegRow), s.takes i P.SEC 0x104 (withBits w 0 4 3) r = true → s.canonical = true →
    s.enabled P.SEC = true → s.sec.job = none → 
    ∃ t, exec (.ccmEncrypt i w) s = .next t ∧
    ((t.sec.job).map (fun (j : SecJob) => (j.op, j.src, j.dst, j.len, j.ini))) = some (3, (s.reg Reg.SEC_JOB_SRC).toNat, (s.reg
    Reg.SEC_JOB_DST).toNat, s.get F.SEC_JOB_LEN_LEN, i) ∧ t.get F.SEC_JOB_STAT_BUSY = 1 ∧ t.get F.SEC_JOB_STAT_LOST = 0 ∧
    (w.toNat.testBit 8 = false → ((t.sec.job).map (fun (j : SecJob) => (j.key, j.plain))) = some ((s.copyKey (bitsOf w.toNat 16 12) 3).1, none))) ∧
  (∀ (s : State) (i : Initiator) (w : Word) (r : RegRow), s.takes i P.SEC 0x104 (withBits w 0 4 4) r = true → s.canonical = true →
    s.enabled P.SEC = true → s.sec.job = none → 
    ∃ t, exec (.ccmDecrypt i w) s = .next t ∧
    ((t.sec.job).map (fun (j : SecJob) => (j.op, j.src, j.dst, j.len, j.ini))) = some (4, (s.reg Reg.SEC_JOB_SRC).toNat, (s.reg
    Reg.SEC_JOB_DST).toNat, s.get F.SEC_JOB_LEN_LEN, i) ∧ t.get F.SEC_JOB_STAT_BUSY = 1 ∧ t.get F.SEC_JOB_STAT_LOST = 0 ∧
    (w.toNat.testBit 8 = false → ((t.sec.job).map (fun (j : SecJob) => (j.key, j.plain))) = some ((s.copyKey (bitsOf w.toNat 16 12) 3).1, none))) ∧
  (∀ (s : State) (i : Initiator) (w : Word) (r : RegRow), s.takes i P.SEC 0x104 (withBits w 0 4 5) r = true → s.canonical = true →
    s.enabled P.SEC = true → s.sec.job = none → 
    ∃ t, exec (.sha256 i w) s = .next t ∧
    ((t.sec.job).map (fun (j : SecJob) => (j.op, j.src, j.dst, j.len, j.ini))) = some (5, (s.reg Reg.SEC_JOB_SRC).toNat, (s.reg
    Reg.SEC_JOB_DST).toNat, s.get F.SEC_JOB_LEN_LEN, i) ∧ t.get F.SEC_JOB_STAT_BUSY = 1 ∧ t.get F.SEC_JOB_STAT_LOST = 0) ∧
  (∀ (s : State) (i : Initiator) (w : Word) (r : RegRow), s.takes i P.SEC 0x104 (withBits w 0 4 6) r = true → s.canonical = true →
    s.enabled P.SEC = true → s.sec.job = none → 
    ∃ t, exec (.ecdsaP256Verify i w) s = .next t ∧
    ((t.sec.job).map (fun (j : SecJob) => (j.op, j.src, j.dst, j.len, j.ini))) = some (6, (s.reg Reg.SEC_JOB_SRC).toNat, (s.reg
    Reg.SEC_JOB_DST).toNat, s.get F.SEC_JOB_LEN_LEN, i) ∧ t.get F.SEC_JOB_STAT_BUSY = 1 ∧ t.get F.SEC_JOB_STAT_LOST = 0) ∧
  (∀ (s : State) (j : SecJob), s.canonical = true → s.sec.job = some j → s.flt.badWords = [] → 
    ∃ t, exec .jobDone s = .next t ∧ t.sec.job = none ∧ t.get F.SEC_JOB_STAT_DONE = 1 ∧ t.get F.SEC_JOB_STAT_BUSY = 0 ∧
    t.get F.SEC_JOB_STAT_RESULT = (s.jobRun j).result ∧ t.get F.SEC_JOB_STAT_MIC_FAIL = boolNat (s.jobRun j).micFail ∧ ((s.jobRun j).result = 0 →
    (List.range (s.jobRun j).out.length).any (fun k => regionOf (j.dst + k) == Region.radioBuffer) = false →
    t.mem = (s.busSetBytes j.dst (s.jobRun j).out).mem) ∧ ((s.jobRun j).result ≠ 0 → t.mem = s.mem)) ∧
  (∀ (s : State) (i : Initiator) (x : Word) (q : List Word), s.offers i P.SEC 0x118 = true → s.canonical = true → s.enabled P.SEC = true →
    s.sec.rng = x :: q → 
    ∃ t, exec (.rng i) s = .next t ∧ t.out.get i = (⟨x, .ok⟩ : BusAnswer) ∧ t.sec.rng = q ∧ t.get F.SEC_RNG_STAT_COUNT = q.length % 16) ∧
  (∀ (s : State) (i : Initiator), s.offers i P.SEC 0x118 = true → s.canonical = true → s.enabled P.SEC = true → s.sec.rng = [] → 
    ∃ t, exec (.rng i) s = .next t ∧ t.out.get i = (⟨0, .ok⟩ : BusAnswer) ∧ t.get F.SEC_RNG_STAT_EMPTY_READ = 1 ∧ t.sec = s.sec) ∧
  (∀ (s : State) (w : Word), s.canonical = true → s.enabled P.SEC = true → s.on F.SEC_CFG_RNG_EN = true → s.on F.SEC_RNG_STAT_FAIL = false →
    s.sec.warm = 0 → s.sec.rng.length < 8 → 
    ∃ t, exec (.rngWord w true) s = .next t ∧ t.sec.rng = s.sec.rng ++ [w] ∧ t.get F.SEC_RNG_STAT_COUNT = s.sec.rng.length + 1) ∧
  (∀ (s : State) (w : Word), s.canonical = true → s.enabled P.SEC = true → s.on F.SEC_CFG_RNG_EN = true → s.on F.SEC_RNG_STAT_FAIL = false →
    s.sec.warm ≠ 0 → 
    ∃ t, exec (.rngWord w true) s = .next t ∧ t.sec = { s.sec with warm := s.sec.warm - 1 } ∧ t.regs = s.regs) ∧
  (∀ (s : State) (w : Word), s.canonical = true → s.enabled P.SEC = true → s.on F.SEC_CFG_RNG_EN = true → s.on F.SEC_RNG_STAT_FAIL = false → 
    ∃ t, exec (.rngWord w false) s = .next t ∧ t.on F.SEC_RNG_STAT_FAIL = true ∧ t.sec.rng = [] ∧ t.get F.SEC_RNG_STAT_COUNT = 0 ∧
    (t.reg (Reg.IRQ_RAW (P.SEC))).toNat.testBit (1) = true) ∧
  (∀ (s : State) (i : Initiator) (r : RegRow), s.takes i P.SEC 0x11C 0x80 r = true → s.canonical = true → s.enabled P.SEC = true →
    s.on F.SEC_RNG_STAT_FAIL = true → 
    ∃ t, exec (.rngRestart i) s = .next t ∧ t.on F.SEC_RNG_STAT_FAIL = false ∧ t.sec.warm = 1024 ∧ t.sec.rng = [])

/-- KEY_STORE_WRITE (12 R306), SET_ATTR, ERASE_KEY, ERASE_ALL, IMPORT, EXPORT, READ_ATTR, OTP_WRITE, KST_COMMAND_DONE (12 R305 to R309, R321, R528),
DBG_CHAL, DBG_RESP (12 R318, R319): a write stores key bytes of a slot with VALID = 0 and is discarded with SLOT_BUSY otherwise; a command waits with
BUSY = 1 and then executes as its row says, with its RESULT; OTP bits are set, never cleared; a nonce serves one attempt and a right signature under
the debug key grants the scope it names. -/
def Obligations.KeyStoreCommandsComplete : Prop :=
  (∀ (s : State) (addr : Word) (size : AccessSize) (w : Word), s.admits ⟨.scc, addr, size, .write w⟩ = true → regionOf addr.toNat = .keyStore →
    s.canonical = true → (s.attr ((addr.toNat - 0x30200000) / 16)).testBit 0 = false → 
    ∃ t, exec (.keyStoreWrite addr size w) s = .next t ∧
    (∀ k ∈ List.range (sizeBytes size), t.byte (addr.toNat + k) = BitVec.ofNat 8 (w.toNat / 256 ^ k)) ∧ (∀ x, ¬(addr.toNat ≤ x ∧
    x < addr.toNat + sizeBytes size) → t.byte x = s.byte x) ∧ t.sec = s.sec) ∧
  (∀ (s : State) (addr : Word) (size : AccessSize) (w : Word), s.admits ⟨.scc, addr, size, .write w⟩ = true → regionOf addr.toNat = .keyStore →
    s.canonical = true → (s.attr ((addr.toNat - 0x30200000) / 16)).testBit 0 = true → s.enabled P.KST = true → 
    ∃ t, exec (.keyStoreWrite addr size w) s = .next t ∧ t.mem = s.mem ∧ t.sec = s.sec ∧ (t.reg (Reg.IRQ_RAW (P.KST))).toNat.testBit (1) = true) ∧
  (∀ (s : State) (i : Initiator) (n : Nat) (r : RegRow), s.takes i P.KST 0x100 (BitVec.ofNat 32 (1 + 0x10000 * (n % 4096))) r = true →
    s.canonical = true → s.enabled P.KST = true → s.sec.kst = none → 
    ∃ t, exec (.setAttr i n) s = .next t ∧ t.sec = { s.sec with kst := some ⟨1, n % 4096⟩ } ∧ t.get F.KST_STAT_BUSY = 1 ∧ t.pageSt P.KST = 1 ∧
    t.mem = s.mem) ∧
  (∀ (s : State) (i : Initiator) (n : Nat) (r : RegRow), s.takes i P.KST 0x100 (BitVec.ofNat 32 (2 + 0x10000 * (n % 4096))) r = true →
    s.canonical = true → s.enabled P.KST = true → s.sec.kst = none → 
    ∃ t, exec (.eraseKey i n) s = .next t ∧ t.sec = { s.sec with kst := some ⟨2, n % 4096⟩ } ∧ t.get F.KST_STAT_BUSY = 1 ∧ t.pageSt P.KST = 1 ∧
    t.mem = s.mem) ∧
  (∀ (s : State) (i : Initiator) (n : Nat) (r : RegRow), s.takes i P.KST 0x100 (BitVec.ofNat 32 (4 + 0x10000 * (n % 4096))) r = true →
    s.canonical = true → s.enabled P.KST = true → s.sec.kst = none → 
    ∃ t, exec (.importKey i n) s = .next t ∧ t.sec = { s.sec with kst := some ⟨4, n % 4096⟩ } ∧ t.get F.KST_STAT_BUSY = 1 ∧ t.pageSt P.KST = 1 ∧
    t.mem = s.mem) ∧
  (∀ (s : State) (i : Initiator) (n : Nat) (r : RegRow), s.takes i P.KST 0x100 (BitVec.ofNat 32 (5 + 0x10000 * (n % 4096))) r = true →
    s.canonical = true → s.enabled P.KST = true → s.sec.kst = none → 
    ∃ t, exec (.exportKey i n) s = .next t ∧ t.sec = { s.sec with kst := some ⟨5, n % 4096⟩ } ∧ t.get F.KST_STAT_BUSY = 1 ∧ t.pageSt P.KST = 1 ∧
    t.mem = s.mem) ∧
  (∀ (s : State) (i : Initiator) (n : Nat) (r : RegRow), s.takes i P.KST 0x100 (BitVec.ofNat 32 (6 + 0x10000 * (n % 4096))) r = true →
    s.canonical = true → s.enabled P.KST = true → s.sec.kst = none → 
    ∃ t, exec (.readAttr i n) s = .next t ∧ t.sec = { s.sec with kst := some ⟨6, n % 4096⟩ } ∧ t.get F.KST_STAT_BUSY = 1 ∧ t.pageSt P.KST = 1 ∧
    t.mem = s.mem) ∧
  (∀ (s : State) (i : Initiator) (n : Nat) (r : RegRow), s.takes i P.KST 0x100 (BitVec.ofNat 32 (7 + 0x10000 * (n % 4096))) r = true →
    s.canonical = true → s.enabled P.KST = true → s.sec.kst = none → 
    ∃ t, exec (.otpWrite i n) s = .next t ∧ t.sec = { s.sec with kst := some ⟨7, n % 4096⟩ } ∧ t.get F.KST_STAT_BUSY = 1 ∧ t.pageSt P.KST = 1 ∧
    t.mem = s.mem) ∧
  (∀ (s : State) (i : Initiator) (r : RegRow), s.takes i P.KST 0x100 (BitVec.ofNat 32 (3 + 0x10000 * (0 % 4096))) r = true → s.canonical = true →
    s.enabled P.KST = true → s.sec.kst = none → 
    ∃ t, exec (.eraseAll i) s = .next t ∧ t.sec = { s.sec with kst := some ⟨3, 0 % 4096⟩ } ∧ t.get F.KST_STAT_BUSY = 1 ∧ t.pageSt P.KST = 1 ∧
    t.mem = s.mem) ∧
  (∀ (s : State) (j : KstJob), s.canonical = true → s.sec.kst = some j → j.op = 1 → j.slot % 2 = 0 → (s.get F.KST_ATTR_ATTR).testBit 1 = false →
    s.inPair j.slot = false → 
    ∃ t, exec .kstCommandDone s = .next t ∧ t.sec.kst = none ∧ t.get F.KST_STAT_BUSY = 0 ∧ t.get F.KST_STAT_RESULT = 0 ∧
    t.attr j.slot = s.get F.KST_ATTR_ATTR) ∧
  (∀ (s : State) (j : KstJob), s.canonical = true → s.sec.kst = some j → j.op = 1 → j.slot % 2 = 1 →
    (s.get F.KST_ATTR_ATTR).testBit 1 = true ∨ s.inPair j.slot = true → 
    ∃ t, exec .kstCommandDone s = .next t ∧ t.sec.kst = none ∧ t.get F.KST_STAT_BUSY = 0 ∧ t.get F.KST_STAT_RESULT = 1 ∧ t.sec.attrs = s.sec.attrs) ∧
  (∀ (s : State) (j : KstJob), s.canonical = true → s.sec.kst = some j → j.op = 2 → j.slot < 4096 → s.inPair j.slot = false → 
    ∃ t, exec .kstCommandDone s = .next t ∧ t.sec.kst = none ∧ t.get F.KST_STAT_BUSY = 0 ∧ t.get F.KST_STAT_RESULT = 0 ∧ t.attr j.slot = 0 ∧
    (∀ k ∈ List.range 16, t.byte (keyAddr j.slot + k) = 0)) ∧
  (∀ (s : State) (j : KstJob), s.canonical = true → s.sec.kst = some j → j.op = 3 → 
    ∃ t, exec .kstCommandDone s = .next t ∧ t.sec.kst = none ∧ t.get F.KST_STAT_BUSY = 0 ∧ t.get F.KST_STAT_RESULT = 0 ∧ t.sec.attrs = [] ∧
    ∀ x, 0x30200000 ≤ x → x < 0x30210000 → t.byte x = memDefault x) ∧
  (∀ (s : State) (j : KstJob), s.canonical = true → s.sec.kst = some j → j.op = 4 → 
    ∃ t, exec .kstCommandDone s = .next t ∧ t.sec.kst = none ∧ t.get F.KST_STAT_BUSY = 0 ∧ t.get F.KST_STAT_RESULT = (s.keyImport j.slot).1 ∧
    ((s.keyImport j.slot).1 ≠ 0 → t.sec.attrs = s.sec.attrs)) ∧
  (∀ (s : State) (j : KstJob), s.canonical = true → s.sec.kst = some j → j.op = 5 → s.inPair j.slot = false → (s.attr j.slot).testBit 4 = false → 
    ∃ t, exec .kstCommandDone s = .next t ∧ t.sec.kst = none ∧ t.get F.KST_STAT_BUSY = 0 ∧ t.get F.KST_STAT_RESULT = 3 ∧
    t.sec.attrs = s.sec.attrs ∧ t.mem = s.mem) ∧
  (∀ (s : State) (j : KstJob), s.canonical = true → s.sec.kst = some j → j.op = 5 → s.inPair j.slot = false → (s.attr j.slot).testBit 4 = true →
    (s.attr j.slot).testBit 0 = true → 
    ∃ t, exec .kstCommandDone s = .next t ∧ t.sec.kst = none ∧ t.get F.KST_STAT_BUSY = 0 ∧ t.get F.KST_STAT_RESULT = 0 ∧
    ∀ k ∈ List.range 12, t.reg (Reg.KST_DATA k) = BitVec.ofNat 32 (leNat (toBytes (((Crypto.kwWrap s.wrapKey ([s.attr j.slot, 0, 0, 0, 0, 0, 0, 0]
    ++ s.keyBytes j.slot)).drop (4 * k)).take 4)))) ∧
  (∀ (s : State) (j : KstJob), s.canonical = true → s.sec.kst = some j → j.op = 6 → s.inPair j.slot = false → 
    ∃ t, exec .kstCommandDone s = .next t ∧ t.sec.kst = none ∧ t.get F.KST_STAT_BUSY = 0 ∧ t.get F.KST_STAT_RESULT = 0 ∧
    t.get F.KST_ATTR_ATTR = s.attr j.slot % 64 ∧ t.sec.attrs = s.sec.attrs) ∧
  (∀ (s : State) (j : KstJob) (c v : Nat), s.canonical = true → s.sec.kst = some j → j.op = 7 → c = j.slot % 16 →
    v = leNat (toBytes s.blobBytes) % 2 ^ otpBits c → c < 14 → s.sec.otp.length = 14 → 
    ∃ t, exec .kstCommandDone s = .next t ∧ t.sec.kst = none ∧ t.get F.KST_STAT_BUSY = 0 ∧
    t.get F.KST_STAT_RESULT = (if t.otp c &&& v = v then 0 else 4) ∧ (∃ x, t.otp c = s.otp c ||| (v &&& x)) ∧ (∀ d, d ≠ c → t.otp d = s.otp d)) ∧
  (∀ (s : State) (nonce : List Byte), s.canonical = true → s.chalRefused = false → nonce.length = 16 → 
    ∃ t, exec (.dbgChal nonce) s = .next t ∧ t.sec.nonce = some nonce ∧ t.sec.granted = s.sec.granted) ∧
  (∀ (s : State) (nonce : List Byte), s.canonical = true → s.chalRefused = true → 
    ∃ t, exec (.dbgChal nonce) s = .next t ∧ t.sec.nonce = none ∧ t.sec.granted = s.sec.granted) ∧
  (∀ (s : State) (n : List Byte) (scope : Byte) (pub sig : List Byte), s.canonical = true → s.sec.nonce = some n → s.chalRefused = false →
    1 ≤ scope.toNat → scope.toNat ≤ 3 → Crypto.sha256 (toNats pub) = toNats (natLe 32 (s.otp 3)) →
    Crypto.ecdsaVerify (Crypto.sha256 (toNats (n ++ natLe 8 (s.otp 13) ++ [scope]))) (toNats pub) (toNats sig) = true → 
    ∃ t, exec (.dbgResp scope pub sig) s = .next t ∧ t.sec.nonce = none ∧ t.sec.granted = scope.toNat ∧ (s.otp 4 = 1 → t.dbgScope = scope.toNat)) ∧
  (∀ (s : State) (n : List Byte) (scope : Byte) (pub sig : List Byte), s.canonical = true → s.sec.nonce = some n →
    Crypto.sha256 (toNats pub) ≠ toNats (natLe 32 (s.otp 3)) → 
    ∃ t, exec (.dbgResp scope pub sig) s = .next t ∧ t.sec.nonce = none ∧ t.sec.granted = s.sec.granted ∧
    t.get F.SEC_AUTH_STAT_DBG_FAILS = min 3 (s.get F.SEC_AUTH_STAT_DBG_FAILS + 1)) ∧
  (∀ (s : State) (scope : Byte) (pub sig : List Byte), s.canonical = true → s.sec.nonce = none → 
    ∃ t, exec (.dbgResp scope pub sig) s = .next t ∧ t.sec.granted = s.sec.granted ∧ t.dbgScope = s.dbgScope)

/-- CLAIM, COMPLETE (13 R328, R329), CACHE_INV (13 R324), MBOX_TX, MBOX_RX (13 R331), DEBUG_HALT, DEBUG_RESUME (13 R332, R333; 12 R318): a claim takes the
pending source of highest priority, COMPLETE gives it back; the sender appends to a channel that is not full, the receiver takes the oldest word; an
invalidation drops the core's lines; a hart in scope halts and resumes, both with HALT_GROUP. -/
def Obligations.CoreCommandsComplete : Prop :=
  (∀ (s : State) (i : Initiator) (k : Core) (n : Nat), s.offers i P.ICU 0x100 = true → s.canonical = true → s.enabled P.ICU = true →
    coreOf i = some k → s.irqBest k = some n → 
    ∃ t, exec (.claim i) s = .next t ∧ t.out.get i = (⟨BitVec.ofNat 32 (0x80 + n), .ok⟩ : BusAnswer) ∧
    t.icu = { s.icu with claims := s.icu.claims ++ [(n, k)] } ∧ t.regs = s.regs) ∧
  (∀ (s : State) (i : Initiator) (k : Core), s.offers i P.ICU 0x100 = true → s.canonical = true → s.enabled P.ICU = true → coreOf i = some k →
    s.irqBest k = none → 
    ∃ t, exec (.claim i) s = .next t ∧ t.out.get i = (⟨0, .ok⟩ : BusAnswer) ∧ t.icu = s.icu) ∧
  (∀ (s : State) (i : Initiator) (w : Word) (k : Core) (r : RegRow), s.takes i P.ICU 0x104 w r = true → s.canonical = true → s.enabled P.ICU = true →
    coreOf i = some k → 
    ∃ t, exec (.complete i w) s = .next t ∧ t.icu = { s.icu with claims := s.icu.claims.filter (· != (w.toNat % 128, k)) }) ∧
  (∀ (s : State) (i : Initiator) (w : Word) (k : Core) (r : RegRow), s.takes i P.ICU 0x10C (withBits w 0 1 1) r = true → s.canonical = true →
    s.enabled P.ICU = true → coreOf i = some k → 
    ∃ t, exec (.cacheInv i w) s = .next t ∧ t.cores = { s.cores with cache := s.cores.cache.filter (fun (c : CacheLine) => c.core != k) }) ∧
  (∀ (s : State) (i : Initiator) (c : Nat) (w : Word) (r : RegRow), s.takes i P.ICU (0x140 + 4 * c) w r = true → s.canonical = true → c < 6 →
    s.enabled P.ICU = true → s.icu.mbox.length = 6 → coreOf i = some (mboxFrom c) → (s.mboxOf c).length < 4 → 
    ∃ t, exec (.mboxTx i c w) s = .next t ∧ t.mboxOf c = s.mboxOf c ++ [w] ∧ ∀ d, d ≠ c → t.mboxOf d = s.mboxOf d) ∧
  (∀ (s : State) (i : Initiator) (c : Nat) (w : Word) (r : RegRow), s.takes i P.ICU (0x140 + 4 * c) w r = true → s.canonical = true → c < 6 →
    s.enabled P.ICU = true → s.icu.mbox.length = 6 → coreOf i = some (mboxFrom c) → 4 ≤ (s.mboxOf c).length → 
    ∃ t, exec (.mboxTx i c w) s = .next t ∧ t.icu = s.icu ∧ (t.reg (Reg.IRQ_RAW (P.ICU))).toNat.testBit (0) = true) ∧
  (∀ (s : State) (i : Initiator) (c : Nat) (w : Word) (q : List Word), s.offers i P.ICU (0x160 + 4 * c) = true → s.canonical = true → c < 6 →
    s.enabled P.ICU = true → s.icu.mbox.length = 6 → coreOf i = some (mboxTo c) → s.mboxOf c = w :: q → 
    ∃ t, exec (.mboxRx i c) s = .next t ∧ t.out.get i = (⟨w, .ok⟩ : BusAnswer) ∧ t.mboxOf c = q) ∧
  (∀ (s : State) (h : Nat), s.canonical = true → s.hartReach h = true → 
    ∃ t, exec (.debugHalt h) s = .next t ∧ t.get (hartField h) = 1 ∧ (s.on F.DBG_CFG_HALT_GROUP = true → t.get F.DBG_STAT_APC_HALTED = 1 ∧
    t.get F.DBG_STAT_NTC_HALTED = 1) ∧ t.count = s.count) ∧
  (∀ (s : State) (h : Nat), s.canonical = true → s.hartReach h = true → 
    ∃ t, exec (.debugResume h) s = .next t ∧ t.get (hartField h) = 0 ∧ (s.on F.DBG_CFG_HALT_GROUP = true → t.get F.DBG_STAT_APC_HALTED = 0 ∧
    t.get F.DBG_STAT_NTC_HALTED = 0) ∧ t.count = s.count)

/-- SUBMIT, PROGRAM, ERASE, READBACK, DESC_DONE, FLC_DONE, SUSPEND, RESUME, FLC_ABORT, AUTO_RESUME, MIN_RUN_END, SAFE_POINT (14 R342 to R355): a
submission takes a free slot; an ACTIVE descriptor that passes its checks programs unit by unit, leaves its sector undefined until the last pulse of
an erase, or reads back with a CRC; a refused one keeps its result and touches nothing; a completed one is DONE; a stop takes effect at the next safe
point. -/
def Obligations.FlashCommandsComplete : Prop :=
  (∀ (s : State) (i : Initiator) (n : Nat), s.offers i P.FLC 0x14C = true → s.canonical = true → s.enabled P.FLC = true →
    ((List.range 32).map (fun k => (s.flash.next + k) % 32)).find? (fun n => s.slotState n == 0) = some n → 
    ∃ t, exec (.submit i) s = .next t ∧ t.out.get i = (⟨BitVec.ofNat 32 (0x80000000 + n), .ok⟩ : BusAnswer) ∧ t.slotState n = 1 ∧
    t.flash.queue = s.flash.queue ++ [n] ∧ t.flash.next = (n + 1) % 32 ∧ t.reg (Reg.FLC_SLOT_CMD n) = s.regI i Reg.FLC_D_CMD ∧
    t.reg (Reg.FLC_SLOT_ADDR n) = s.regI i Reg.FLC_D_ADDR ∧ t.reg (Reg.FLC_SLOT_SRC n) = s.regI i Reg.FLC_D_SRC) ∧
  (∀ (s : State) (i : Initiator), s.offers i P.FLC 0x14C = true → s.canonical = true → s.enabled P.FLC = true →
    (∀ n ∈ List.range 32, s.slotState n ≠ 0) → 
    ∃ t, exec (.submit i) s = .next t ∧ t.out.get i = (⟨0, .ok⟩ : BusAnswer) ∧ t.flash = s.flash ∧ t.regs = s.regs) ∧
  (∀ (s : State) (n x : Nat) (q : List Nat), s.canonical = true → s.flash.op = none → s.flash.queue = n :: q → n < 32 → s.enabled P.FLC = true →
    bitsOf (s.reg (Reg.FLC_SLOT_CMD n)).toNat 0 4 = 1 → x = (s.reg (Reg.FLC_SLOT_ADDR n)).toNat →
    s.descCheck (⟨n, 1, x, (if bitsOf (s.reg (Reg.FLC_SLOT_CMD n)).toNat 16 12 = 0 then 4096 else bitsOf (s.reg (Reg.FLC_SLOT_CMD n)).toNat 16 12),
    (s.reg (Reg.FLC_SLOT_SRC n)).toNat, s.flash.who.getD n .apc, none, 0, false, false, 0, 0xFFFFFFFF⟩ : FlashOp) (s.reg (Reg.FLC_SLOT_CMD n)).toNat
    = none → s.on F.FLC_STAT_SW_SUSP = false → s.on F.FLC_STAT_AUTO_SUSP = false → s.rangeBad (s.reg (Reg.FLC_SLOT_SRC n)).toNat 16 = false →
    s.sectorUndef (sectorOf x) = false → (s.bytesAt x 16).all (· == 0xFF) = true → 
    ∃ t, exec (.program 1) s = .next t ∧ (∀ k ∈ List.range 16, t.byte (x + k) = s.byte ((s.reg (Reg.FLC_SLOT_SRC n)).toNat + k)) ∧
    t.flash.queue = q ∧ ((t.flash.op).map (fun (o : FlashOp) => (o.slot, o.done))) = some (n, 1) ∧ t.slotState n = 2) ∧
  (∀ (s : State) (n x : Nat) (q : List Nat) (e : Nat) (u : Nat), s.canonical = true → s.flash.op = none → s.flash.queue = n :: q → n < 32 →
    s.enabled P.FLC = true → bitsOf (s.reg (Reg.FLC_SLOT_CMD n)).toNat 0 4 = 1 → x = (s.reg (Reg.FLC_SLOT_ADDR n)).toNat →
    s.descCheck (⟨n, 1, x, (if bitsOf (s.reg (Reg.FLC_SLOT_CMD n)).toNat 16 12 = 0 then 4096 else bitsOf (s.reg (Reg.FLC_SLOT_CMD n)).toNat 16 12),
    (s.reg (Reg.FLC_SLOT_SRC n)).toNat, s.flash.who.getD n .apc, none, 0, false, false, 0, 0xFFFFFFFF⟩ : FlashOp) (s.reg (Reg.FLC_SLOT_CMD n)).toNat
    = some e → 
    ∃ t, exec (.program u) s = .next t ∧ ((t.flash.op).map (fun (o : FlashOp) => (o.slot, o.result, o.done))) = some (n, some e, 0) ∧
    t.mem = s.mem ∧ t.flash.undef = s.flash.undef ∧ t.slotState n = 2) ∧
  (∀ (s : State) (n x : Nat) (q : List Nat) (e : Nat) (u : Bool), s.canonical = true → s.flash.op = none → s.flash.queue = n :: q → n < 32 →
    s.enabled P.FLC = true → bitsOf (s.reg (Reg.FLC_SLOT_CMD n)).toNat 0 4 = 2 → x = (s.reg (Reg.FLC_SLOT_ADDR n)).toNat →
    s.descCheck (⟨n, 2, x, (if bitsOf (s.reg (Reg.FLC_SLOT_CMD n)).toNat 16 12 = 0 then 4096 else bitsOf (s.reg (Reg.FLC_SLOT_CMD n)).toNat 16 12),
    (s.reg (Reg.FLC_SLOT_SRC n)).toNat, s.flash.who.getD n .apc, none, 0, false, false, 0, 0xFFFFFFFF⟩ : FlashOp) (s.reg (Reg.FLC_SLOT_CMD n)).toNat
    = some e → 
    ∃ t, exec (.erase u) s = .next t ∧ ((t.flash.op).map (fun (o : FlashOp) => (o.slot, o.result, o.done))) = some (n, some e, 0) ∧
    t.mem = s.mem ∧ t.flash.undef = s.flash.undef ∧ t.slotState n = 2) ∧
  (∀ (s : State) (n x : Nat) (q : List Nat) (e : Nat) (u : Nat), s.canonical = true → s.flash.op = none → s.flash.queue = n :: q → n < 32 →
    s.enabled P.FLC = true → bitsOf (s.reg (Reg.FLC_SLOT_CMD n)).toNat 0 4 = 3 → x = (s.reg (Reg.FLC_SLOT_ADDR n)).toNat →
    s.descCheck (⟨n, 3, x, (if bitsOf (s.reg (Reg.FLC_SLOT_CMD n)).toNat 16 12 = 0 then 4096 else bitsOf (s.reg (Reg.FLC_SLOT_CMD n)).toNat 16 12),
    (s.reg (Reg.FLC_SLOT_SRC n)).toNat, s.flash.who.getD n .apc, none, 0, false, s.on F.FLC_MARGIN_EN, 0, 0xFFFFFFFF⟩ : FlashOp) (s.reg
    (Reg.FLC_SLOT_CMD n)).toNat = some e → 
    ∃ t, exec (.readback u []) s = .next t ∧ ((t.flash.op).map (fun (o : FlashOp) => (o.slot, o.result, o.done))) = some (n, some e, 0) ∧
    t.mem = s.mem ∧ t.flash.undef = s.flash.undef ∧ t.slotState n = 2) ∧
  (∀ (s : State) (n x : Nat) (q : List Nat), s.canonical = true → s.flash.op = none → s.flash.queue = n :: q → n < 32 → s.enabled P.FLC = true →
    bitsOf (s.reg (Reg.FLC_SLOT_CMD n)).toNat 0 4 = 2 → x = (s.reg (Reg.FLC_SLOT_ADDR n)).toNat →
    s.descCheck (⟨n, 2, x, (if bitsOf (s.reg (Reg.FLC_SLOT_CMD n)).toNat 16 12 = 0 then 4096 else bitsOf (s.reg (Reg.FLC_SLOT_CMD n)).toNat 16 12),
    (s.reg (Reg.FLC_SLOT_SRC n)).toNat, s.flash.who.getD n .apc, none, 0, false, false, 0, 0xFFFFFFFF⟩ : FlashOp) (s.reg (Reg.FLC_SLOT_CMD n)).toNat
    = none → s.on F.FLC_STAT_SW_SUSP = false → s.on F.FLC_STAT_AUTO_SUSP = false → 
    ∃ t, exec (.erase true) s = .next t ∧ (∀ y, sectorBase (sectorOf x) ≤ y → y < sectorBase (sectorOf x) + sectorSize (sectorOf x) →
    t.byte y = memDefault y) ∧ t.sectorUndef (sectorOf x) = false ∧
    ((t.flash.op).map (fun (o : FlashOp) => (o.slot, o.result))) = some (n, some 0) ∧ t.flash.queue = q) ∧
  (∀ (s : State) (n x : Nat) (q : List Nat), s.canonical = true → s.flash.op = none → s.flash.queue = n :: q → n < 32 → s.enabled P.FLC = true →
    bitsOf (s.reg (Reg.FLC_SLOT_CMD n)).toNat 0 4 = 2 → x = (s.reg (Reg.FLC_SLOT_ADDR n)).toNat →
    s.descCheck (⟨n, 2, x, (if bitsOf (s.reg (Reg.FLC_SLOT_CMD n)).toNat 16 12 = 0 then 4096 else bitsOf (s.reg (Reg.FLC_SLOT_CMD n)).toNat 16 12),
    (s.reg (Reg.FLC_SLOT_SRC n)).toNat, s.flash.who.getD n .apc, none, 0, false, false, 0, 0xFFFFFFFF⟩ : FlashOp) (s.reg (Reg.FLC_SLOT_CMD n)).toNat
    = none → 
    ∃ t, exec (.erase false) s = .next t ∧ t.mem = s.mem ∧ t.sectorUndef (sectorOf x) = true ∧
    ((t.flash.op).map (fun (o : FlashOp) => (o.slot, o.result, o.begun))) = some (n, none, true) ∧ t.flash.queue = q) ∧
  (∀ (s : State) (n x : Nat) (q : List Nat), s.canonical = true → s.flash.op = none → s.flash.queue = n :: q → n < 32 → s.enabled P.FLC = true →
    bitsOf (s.reg (Reg.FLC_SLOT_CMD n)).toNat 0 4 = 3 → x = (s.reg (Reg.FLC_SLOT_ADDR n)).toNat →
    s.descCheck (⟨n, 3, x, (if bitsOf (s.reg (Reg.FLC_SLOT_CMD n)).toNat 16 12 = 0 then 4096 else bitsOf (s.reg (Reg.FLC_SLOT_CMD n)).toNat 16 12),
    (s.reg (Reg.FLC_SLOT_SRC n)).toNat, s.flash.who.getD n .apc, none, 0, false, s.on F.FLC_MARGIN_EN, 0, 0xFFFFFFFF⟩ : FlashOp) (s.reg
    (Reg.FLC_SLOT_CMD n)).toNat = none → s.on F.FLC_STAT_SW_SUSP = false → s.on F.FLC_STAT_AUTO_SUSP = false → s.rangeBad x 16 = false →
    s.sectorUndef (sectorOf x) = false → 
    ∃ t, exec (.readback 1 []) s = .next t ∧
    ((t.flash.op).map (fun (o : FlashOp) => (o.slot, o.done, o.crc, o.weak))) = some (n, 1, crcRefl 0xEDB88320 0xFFFFFFFF (s.bytesAt x 16), 0) ∧
    t.mem = s.mem ∧ t.flash.queue = q) ∧
  (∀ (s : State) (o : FlashOp) (e d : Nat), s.canonical = true → s.flash.op = some o → o.result = some e → o.slot < 32 → e < 16 → s.stalled = [] → 
    ∃ t, exec (.descDone d) s = .next t ∧ t.flash.op = none ∧ t.slotState o.slot = 3 ∧ bitsOf (t.reg (Reg.FLC_SLOT_STATUS o.slot)).toNat 7 4 = e ∧
    t.flash.doneQ = s.flash.doneQ ++ [o.slot] ∧ t.on F.FLC_STAT_BUSY = false ∧ t.mem = s.mem) ∧
  (∀ (s : State) (i : Initiator) (n : Nat) (q : List Nat), s.offers i P.FLC 0x150 = true → s.canonical = true → s.enabled P.FLC = true →
    s.flash.doneQ = n :: q → n < 32 → 
    ∃ t, exec (.flcDone i) s = .next t ∧ t.out.get i = (⟨s.reg (Reg.FLC_SLOT_STATUS n), .ok⟩ : BusAnswer) ∧
    t.regI i Reg.FLC_DONE_ADDR = s.reg (Reg.FLC_SLOT_ADDR n) ∧ t.regI i Reg.FLC_DONE_DATA = s.reg (Reg.FLC_SLOT_SRC n) ∧ t.slotState n = 0 ∧
    t.flash = { s.flash with doneQ := q }) ∧
  (∀ (s : State) (i : Initiator), s.offers i P.FLC 0x150 = true → s.canonical = true → s.enabled P.FLC = true → s.flash.doneQ = [] → 
    ∃ t, exec (.flcDone i) s = .next t ∧ t.out.get i = (⟨0, .ok⟩ : BusAnswer) ∧ t.flash = s.flash ∧ t.regs = s.regs) ∧
  (∀ (s : State) (i : Initiator) (o : FlashOp) (r : RegRow), s.takes i P.FLC 0x104 1 r = true → s.canonical = true → s.enabled P.FLC = true →
    s.flash.op = some o → o.result = none → s.on F.FLC_STAT_AUTO_SUSP = false → s.on F.FLC_STAT_SW_SUSP = false → 
    ∃ t, exec (.suspend i) s = .next t ∧ t.flash = { s.flash with wantSw := true } ∧ t.mem = s.mem) ∧
  (∀ (s : State) (i : Initiator) (o : FlashOp) (r : RegRow), s.takes i P.FLC 0x104 1 r = true → s.canonical = true → s.enabled P.FLC = true →
    s.flash.op = some o → o.result = none → s.on F.FLC_STAT_AUTO_SUSP = true → 
    ∃ t, exec (.suspend i) s = .next t ∧ t.on F.FLC_STAT_SW_SUSP = true ∧ t.pageSt P.FLC = 2 ∧ t.flash = s.flash) ∧
  (∀ (s : State) (i : Initiator) (o : FlashOp) (r : RegRow), s.takes i P.FLC 0x104 2 r = true → s.canonical = true → s.enabled P.FLC = true →
    s.flash.op = some o → o.result = none → s.on F.FLC_STAT_AUTO_SUSP = false → s.on F.FLC_STAT_SW_SUSP = true → 
    ∃ t, exec (.resume i) s = .next t ∧ t.on F.FLC_STAT_SW_SUSP = false ∧ t.flash = { s.flash with wantSw := false, minRun := true } ∧
    t.pageSt P.FLC = 1) ∧
  (∀ (s : State) (i : Initiator) (o : FlashOp) (r : RegRow), s.takes i P.FLC 0x104 4 r = true → s.canonical = true → s.enabled P.FLC = true →
    s.flash.op = some o → o.result = none → s.on F.FLC_STAT_AUTO_SUSP = false → s.on F.FLC_STAT_SW_SUSP = false → 
    ∃ t, exec (.flcAbort i) s = .next t ∧ t.flash = { s.flash with queue := [], doneQ := s.flash.doneQ ++ s.flash.queue, wantAbort := true } ∧
    t.mem = s.mem) ∧
  (∀ (s : State) (i : Initiator) (o : FlashOp) (r : RegRow), s.takes i P.FLC 0x104 4 r = true → s.canonical = true → s.enabled P.FLC = true →
    s.flash.op = some o → o.result = none → s.on F.FLC_STAT_AUTO_SUSP = true ∨ s.on F.FLC_STAT_SW_SUSP = true → 
    ∃ t, exec (.flcAbort i) s = .next t ∧
    t.flash = { s.flash with queue := [], doneQ := s.flash.doneQ ++ s.flash.queue, op := some { o with result := some 6 } } ∧
    t.on F.FLC_STAT_SW_SUSP = false ∧ t.on F.FLC_STAT_AUTO_SUSP = false) ∧
  (∀ (s : State), s.canonical = true → s.on F.FLC_STAT_AUTO_SUSP = true → 
    ∃ t, exec .autoResume s = .next t ∧ t.on F.FLC_STAT_AUTO_SUSP = false ∧ (s.on F.FLC_STAT_SW_SUSP = false →
    t.flash = { s.flash with minRun := true })) ∧
  (∀ (s : State), s.flash.minRun = true → s.stalled = [] → 
    ∃ t, exec .minRunEnd s = .next t ∧ t = { s with flash := { s.flash with minRun := false } }) ∧
  (∀ (s : State) (o : FlashOp) (u : Nat), s.canonical = true → s.flash.op = some o → o.result = none → o.op = 2 ∨ u = 0 → s.stalled = [] →
    s.flash.wantAbort = true → 
    ∃ t, exec (.safePoint u) s = .next t ∧
    t.flash = { s.flash with op := some { o with result := some 6 }, wantAbort := false, wantSw := false, wantAuto := false } ∧ t.mem = s.mem) ∧
  (∀ (s : State) (o : FlashOp) (u : Nat), s.canonical = true → s.flash.op = some o → o.result = none → o.op = 2 ∨ u = 0 → s.stalled = [] →
    s.flash.wantAbort = false → s.flash.wantSw = true → 
    ∃ t, exec (.safePoint u) s = .next t ∧
    t.flash = { s.flash with wantSw := false, wantAuto := false, prefetch := s.flash.prefetch.filter (fun l => l / 0x200000 != o.addr / 0x200000) }
    ∧ t.on F.FLC_STAT_SW_SUSP = true ∧ t.mem = s.mem)

/-- QTX, QRX, FLUSH, SPT_RELEASE, PF_INV, QUEUE_WORD_DONE, HOLD_EXPIRED, SLAVE_WORD, SHORT_WORD, WINDOW_READ, WINDOW_WRITE, WRITE_BUFFER_FLUSH,
STATUS_POLL, POLL_TIMEOUT, LINE_FILL_DONE, LOOK_AHEAD_FILL (15 R362 to R375): a queue word takes its attributes from QCTL, or is lost with an
overflow; a word done leaves the queue and what came back enters the FIFO; a window read answers what the device or a line buffer holds; a window
write is posted; a flush polls until the device is ready or times out. -/
def Obligations.SerialPortCommandsComplete : Prop :=
  (∀ (s : State) (i : Initiator) (port : Nat) (w : Word) (r : RegRow), s.takes i (P.SPT port) 0x110 w r = true → s.canonical = true → port < 4 →
    s.enabled (P.SPT port) = true → s.spts.length = 4 → s.stalled = [] → (s.spt port).queue.length < 16 → 
    ∃ t, exec (.qtx i port w) s = .next t ∧
    (t.spt port).queue = (s.spt port).queue ++ [(⟨w, wordBits (s.getI i (F.SPT_QCTL_LEN port)), s.getI i (F.SPT_QCTL_CS port), s.getI i
    (F.SPT_QCTL_CONT port) != 0, s.getI i (F.SPT_QCTL_RX_EN port) != 0⟩ : SptEntry)] ∧ (t.spt port).rx = (s.spt port).rx) ∧
  (∀ (s : State) (i : Initiator) (port : Nat) (w : Word) (r : RegRow), s.takes i (P.SPT port) 0x110 w r = true → s.canonical = true → port < 4 →
    s.enabled (P.SPT port) = true → s.spts.length = 4 → s.stalled = [] → 16 ≤ (s.spt port).queue.length → 
    ∃ t, exec (.qtx i port w) s = .next t ∧ t.spts = s.spts ∧ (t.reg (Reg.IRQ_RAW (P.SPT port))).toNat.testBit (2) = true) ∧
  (∀ (s : State) (i : Initiator) (port : Nat) (x : Word) (q : List Word), s.offers i (P.SPT port) 0x114 = true → s.canonical = true → port < 4 →
    s.enabled (P.SPT port) = true → s.spts.length = 4 → s.stalled = [] → (s.spt port).rx = x :: q → 
    ∃ t, exec (.qrx i port) s = .next t ∧ t.out.get i = (⟨x, .ok⟩ : BusAnswer) ∧ (t.spt port).rx = q) ∧
  (∀ (s : State) (i : Initiator) (port : Nat), s.offers i (P.SPT port) 0x114 = true → s.canonical = true → port < 4 → s.enabled (P.SPT port) = true →
    s.spts.length = 4 → s.stalled = [] → (s.spt port).rx = [] → 
    ∃ t, exec (.qrx i port) s = .next t ∧ t.out.get i = (⟨0, .ok⟩ : BusAnswer) ∧ t.spts = s.spts ∧
    (t.reg (Reg.IRQ_RAW (P.SPT port))).toNat.testBit (8) = true) ∧
  (∀ (s : State) (i : Initiator) (port : Nat) (r : RegRow), s.takes i (P.SPT port) 0x104 1 r = true → s.canonical = true → port < 4 →
    s.enabled (P.SPT port) = true → s.spts.length = 4 → s.stalled = [] → (s.spt port).busy = false → 
    ∃ t, exec (.flush i port) s = .next t ∧ (t.spt port).queue = [] ∧ (t.spt port).rx = [] ∧ (t.spt port).held = none) ∧
  (∀ (s : State) (i : Initiator) (port : Nat) (e : SptEntry) (q : List SptEntry) (r : RegRow), s.takes i (P.SPT port) 0x104 1 r = true →
    s.canonical = true → port < 4 → s.enabled (P.SPT port) = true → s.spts.length = 4 → s.stalled = [] → (s.spt port).busy = true →
    (s.spt port).queue = e :: q → 
    ∃ t, exec (.flush i port) s = .next t ∧ (t.spt port).queue = [{ e with cont := false }] ∧ (t.spt port).rx = [] ∧ (t.spt port).busy = true) ∧
  (∀ (s : State) (i : Initiator) (port : Nat) (r : RegRow), s.takes i (P.SPT port) 0x104 2 r = true → s.canonical = true → port < 4 →
    s.enabled (P.SPT port) = true → s.spts.length = 4 → s.stalled = [] → (s.spt port).queue = [] → 
    ∃ t, exec (.sptRelease i port) s = .next t ∧ (t.spt port).held = none ∧ (t.spt port).rx = (s.spt port).rx) ∧
  (∀ (s : State) (i : Initiator) (r : RegRow), s.takes i (P.SPT 0) 0x104 4 r = true → s.canonical = true → s.enabled (P.SPT 0) = true → s.stalled = [] → 
    ∃ t, exec (.pfInv i) s = .next t ∧ t.prefetch.lines = [] ∧ t.prefetch.ahead = none) ∧
  (∀ (s : State) (port : Nat) (rx : Word) (e : SptEntry) (q : List SptEntry), s.canonical = true → port < 4 → s.spts.length = 4 → s.stalled = [] →
    (s.spt port).busy = true → (s.spt port).queue = e :: q → 
    ∃ t, exec (.queueWordDone port rx) s = .next t ∧ (t.spt port).queue = q ∧ (t.spt port).last = (e.word, e.len) ∧
    (t.spt port).rx = (s.spt port).rx ++ (if e.rxEn then [BitVec.ofNat 32 ((s.pinWord port rx).toNat % 2 ^ e.len)] else []) ∧ (q = [] →
    (t.spt port).busy = false ∧ (t.spt port).held = if e.cont then some e.cs else none)) ∧
  (∀ (s : State) (port : Nat), s.canonical = true → port < 4 → s.spts.length = 4 → s.stalled = [] → (s.spt port).held.isSome = true →
    (s.spt port).queue = [] → (s.spt port).busy = false → 
    ∃ t, exec (.holdExpired port) s = .next t ∧ (t.spt port).held = none ∧ (s.enabled (P.SPT port) = true →
    (t.reg (Reg.IRQ_RAW (P.SPT port))).toNat.testBit (6) = true)) ∧
  (∀ (s : State) (port khz : Nat) (rx : Word) (e : SptEntry) (q : List SptEntry), s.canonical = true → port < 4 → s.spts.length = 4 →
    s.on (F.SPT_CFG_SLAVE port) = true → s.enabled (P.SPT port) = true → (s.spt port).queue = e :: q → khz ≤ 40000 →
    3 * khz ≤ s.get F.CLK_SYS_KHZ_KHZ → 
    ∃ t, exec (.slaveWord port ⟨rx, khz⟩) s = .next t ∧ (t.spt port).queue = q ∧ (t.spt port).last = (e.word, e.len) ∧ (e.rxEn = true →
    (s.spt port).rx.length < 16 → (t.spt port).rx = (s.spt port).rx ++ [BitVec.ofNat 32 ((s.pinWord port rx).toNat % 2 ^ e.len)]) ∧
    (t.spt port).sent = (s.spt port).sent ++ [SptItem.send 1 (s.wordSent port e.word e.len)]) ∧
  (∀ (s : State) (port khz : Nat) (rx : Word), s.canonical = true → port < 4 → s.spts.length = 4 → s.on (F.SPT_CFG_SLAVE port) = true →
    s.enabled (P.SPT port) = true → (s.spt port).queue = [] → 
    ∃ t, exec (.slaveWord port ⟨rx, khz⟩) s = .next t ∧ (t.spt port).queue = [] ∧ (t.spt port).rx = (s.spt port).rx ∧
    (t.spt port).sent = (s.spt port).sent ++ [SptItem.send 1 (s.wordSent port (s.spt port).last.1 (s.spt port).last.2)] ∧
    (t.reg (Reg.IRQ_RAW (P.SPT port))).toNat.testBit (4) = true) ∧
  (∀ (s : State) (port : Nat) (e : SptEntry) (q : List SptEntry), s.canonical = true → port < 4 → s.spts.length = 4 →
    s.on (F.SPT_CFG_SLAVE port) = true → s.enabled (P.SPT port) = true → (s.spt port).queue = e :: q → 
    ∃ t, exec (.shortWord port) s = .next t ∧ (t.spt port).queue = q ∧ (t.spt port).rx = (s.spt port).rx ∧
    (t.reg (Reg.IRQ_RAW (P.SPT port))).toNat.testBit (5) = true) ∧
  (∀ (s : State) (req : BusReq) (dev : List Byte) (n : Nat), s.canonical = true → s.admits req = true → regionOf req.addr.toNat = .window n →
    req.op = .read → n ≠ 0 → n < 4 → (s.spt n).polling = false → (s.spt n).due = false → (s.spt n).buf = [] → s.sptBusy n = false →
    sizeBytes req.size ≤ dev.length → 
    ∃ t, exec (.windowRead req dev) s = .next t ∧
    t.out.get req.ini = (⟨BitVec.ofNat 32 (leNat (dev.take (sizeBytes req.size))), .ok⟩ : BusAnswer) ∧ t.mem = s.mem) ∧
  (∀ (s : State) (req : BusReq) (dev : List Byte) (n : Nat) (l : PfLine), s.canonical = true → s.admits req = true →
    regionOf req.addr.toNat = .window n → req.op = .read → n = 0 → (s.spt n).polling = false → (s.spt n).due = false → (s.spt n).buf = [] →
    s.pfFind (s.winExt 0 req.addr.toNat / 32 * 32) = some l → 
    ∃ t, exec (.windowRead req dev) s = .next t ∧
    t.out.get req.ini = (⟨BitVec.ofNat 32 (leNat ((l.bytes.drop (s.winExt 0 req.addr.toNat % 32)).take (sizeBytes req.size))), .ok⟩ : BusAnswer) ∧
    t.mem = s.mem ∧ t.prefetch.lines = s.prefetch.lines.filter (· != l) ++ [l]) ∧
  (∀ (s : State) (req : BusReq) (w : Word) (n : Nat), s.canonical = true → s.admits req = true → regionOf req.addr.toNat = .window n →
    req.op = .write w → n < 4 → s.spts.length = 4 → (s.spt n).polling = false → (s.spt n).due = false → (s.spt n).buf = [] → 
    ∃ t, exec (.windowWrite req) s = .next t ∧ t.out.get req.ini = (⟨0, .ok⟩ : BusAnswer) ∧ (t.spt n).buf = natLe (sizeBytes req.size) w.toNat ∧
    (t.spt n).bufAt = s.winExt n req.addr.toNat ∧ t.mem = s.mem) ∧
  (∀ (s : State) (port : Nat), port < 4 → s.spts.length = 4 → (s.spt port).buf ≠ [] → s.sptBusy port = false → 
    ∃ t, exec (.writeBufferFlush port) s = .next t ∧ (t.spt port).polling = true ∧ (t.spt port).due = false ∧ (t.spt port).buf = (s.spt port).buf) ∧
  (∀ (s : State) (port : Nat) (b : Byte), s.canonical = true → port < 4 → s.spts.length = 4 → (s.spt port).polling = true →
    boolNat (b.toNat.testBit (s.get (F.SPT_WIN_POLL_BUSY_BIT port))) = s.get (F.SPT_WIN_POLL_BUSY_POL port) → 
    ∃ t, exec (.statusPoll port b) s = .next t ∧ t.get (F.SPT_WIN_STAT_LAST_STATUS port) = b.toNat ∧ (t.spt port).polling = true ∧
    (t.spt port).buf = (s.spt port).buf) ∧
  (∀ (s : State) (port : Nat) (b : Byte), s.canonical = true → port < 4 → s.spts.length = 4 → (s.spt port).polling = true → s.stalled = [] →
    boolNat (b.toNat.testBit (s.get (F.SPT_WIN_POLL_BUSY_BIT port))) ≠ s.get (F.SPT_WIN_POLL_BUSY_POL port) → 
    ∃ t, exec (.statusPoll port b) s = .next t ∧ t.get (F.SPT_WIN_STAT_LAST_STATUS port) = b.toNat ∧ (t.spt port).buf = [] ∧
    (t.spt port).polling = false) ∧
  (∀ (s : State) (port : Nat), s.canonical = true → port < 4 → s.spts.length = 4 → (s.spt port).polling = true → s.stalled = [] →
    s.get (F.SPT_WIN_STAT_TIMEOUTS port) < 65535 → 
    ∃ t, exec (.pollTimeout port) s = .next t ∧ (t.spt port).buf = [] ∧ (t.spt port).polling = false ∧
    t.get (F.SPT_WIN_STAT_TIMEOUTS port) = s.get (F.SPT_WIN_STAT_TIMEOUTS port) + 1) ∧
  (∀ (s : State) (dev : List Byte) (l : Nat), s.prefetch.fill = some l → s.prefetch.stale = false → dev.length = 32 → s.stalled = [] →
    (s.spt 0).queue = [] → 
    ∃ t, exec (.lineFillDone dev) s = .next t ∧ t.prefetch.fill = none ∧
    t.prefetch.lines = s.prefetch.lines.drop (s.prefetch.lines.length - 3) ++ [(⟨l, dev⟩ : PfLine)]) ∧
  (∀ (s : State) (l : Nat), s.prefetch.ahead = some l → s.sptBusy 0 = false → (s.spt 0).due = false → (s.spt 0).buf = [] →
    s.winDenied 0 false = false → s.pfFind l = none → 
    ∃ t, exec .lookAheadFill s = .next t ∧ t.prefetch = { s.prefetch with ahead := none, fill := some l, fetch := false, stale := false } ∧
    t.spts.length = s.spts.length)

/-- HSP_CS_FALL, NOP, HSP_READ, HSP_WRITE, CUT, DB_SET, DOORBELL (16 R378 to R390): the falling select takes the SPI mode and makes the status word; a
transaction clears the flags that it has shown and counts; a refused header sets HDR_ERR, a word whose CRC fails DATA_CRC; a READ and a WRITE of one
word act on the bus as the host; a cut transaction sets CUT; cores set and clear doorbell bits. -/
def Obligations.HostPortCommandsComplete : Prop :=
  (∀ (s : State) (m : Bool), s.systemOn = true → s.enabled P.WKP = false ∨ s.on F.WKP_CFG_HSP_WAKE = false → 
    ∃ t, exec (.hspCsFall m) s = .next t ∧
    t = { s with hsp := { s.hsp with isOpen := true, mayCut := true, mode3 := m, crcOn := s.on F.HSP_CFG_CRC_EN, status := s.hspStatus } }) ∧
  (∀ (s : State) (m : Bool), s.enabled P.WKP = true → s.on F.WKP_CFG_HSP_WAKE = true → s.canonical = true → 
    ∃ t, exec (.hspCsFall m) s = .next t ∧ 0x1A ∈ t.pwr.wakes ∧ t.on F.WKP_PENDING_HSP = true) ∧
  (∀ (s : State) (cmd : Word) (crc : Byte), s.canonical = true → s.hsp.isOpen = true → s.get F.HSP_COUNTS_TRANSACTIONS < 65535 →
    cmdRefused cmd = false → (s.hsp.crcOn = true → crc = hostCrc cmd) → 
    ∃ t, exec (.nop cmd crc) s = .next t ∧ t.reg Reg.HSP_LAST_STAT = s.hsp.status ∧
    t.get F.HSP_COUNTS_TRANSACTIONS = s.get F.HSP_COUNTS_TRANSACTIONS + 1 ∧ t.hsp.isOpen = false ∧
    t.hsp.flags = s.hsp.flags - (s.hsp.flags &&& s.hsp.status.toNat % 0x200000 / 0x1000 * 0x1000) ∧ t.hsp.count = 0 ∧
    t.hsp.miso = [(s.hsp.status, if s.hsp.crcOn then some (hostCrc s.hsp.status) else none)]) ∧
  (∀ (s : State) (cmd : Word) (crc : Byte), s.canonical = true → s.hsp.isOpen = true → s.get F.HSP_COUNTS_TRANSACTIONS < 65535 →
    cmdRefused cmd = true ∨ (s.hsp.crcOn = true ∧ (crc ≠ hostCrc cmd)) → 
    ∃ t, exec (.nop cmd crc) s = .next t ∧ t.reg Reg.HSP_LAST_STAT = s.hsp.status ∧
    t.get F.HSP_COUNTS_TRANSACTIONS = s.get F.HSP_COUNTS_TRANSACTIONS + 1 ∧ t.hsp.isOpen = false ∧ t.hsp.flags.testBit hfHdrErr = true) ∧
  (∀ (s : State) (cmd addr : Word) (cmdCrc addrCrc : Byte) (late : Option Nat), s.canonical = true → s.hsp.isOpen = true →
    s.get F.HSP_COUNTS_TRANSACTIONS < 65535 → headerRefused cmd addr = true ∨ (s.hsp.crcOn = true ∧
    (cmdCrc ≠ hostCrc cmd ∨ addrCrc ≠ hostCrc addr)) → 
    ∃ t, exec (.hspRead cmd addr ⟨cmdCrc, addrCrc⟩ late) s = .next t ∧ t.reg Reg.HSP_LAST_STAT = s.hsp.status ∧
    t.get F.HSP_COUNTS_TRANSACTIONS = s.get F.HSP_COUNTS_TRANSACTIONS + 1 ∧ t.hsp.isOpen = false ∧ t.hsp.flags.testBit hfHdrErr = true ∧
    t.mem = s.mem ∧ t.hsp.count = 0) ∧
  (∀ (s : State) (cmd addr : Word) (cmdCrc addrCrc : Byte) (ws : List HostWord), s.canonical = true → s.hsp.isOpen = true →
    s.get F.HSP_COUNTS_TRANSACTIONS < 65535 → headerRefused cmd addr = true ∨ (s.hsp.crcOn = true ∧
    (cmdCrc ≠ hostCrc cmd ∨ addrCrc ≠ hostCrc addr)) → 
    ∃ t, exec (.hspWrite cmd addr ⟨cmdCrc, addrCrc⟩ ws) s = .next t ∧ t.reg Reg.HSP_LAST_STAT = s.hsp.status ∧
    t.get F.HSP_COUNTS_TRANSACTIONS = s.get F.HSP_COUNTS_TRANSACTIONS + 1 ∧ t.hsp.isOpen = false ∧ t.hsp.flags.testBit hfHdrErr = true ∧
    t.mem = s.mem ∧ t.hsp.count = 0) ∧
  (∀ (s : State) (cmd addr v : Word) (cmdCrc addrCrc : Byte), s.canonical = true → s.hsp.isOpen = true → s.get F.HSP_COUNTS_TRANSACTIONS < 65535 →
    headerRefused cmd addr = false → (s.hsp.crcOn = true → cmdCrc = hostCrc cmd ∧ addrCrc = hostCrc addr) → bitsOf cmd.toNat 0 11 = 1 →
    s.hspReady = true → s.hsp.posted = [] → regionOf addr.toNat = .apcSram ∨ regionOf addr.toNat = .ntcSram → s.rangeBad addr.toNat 4 = false →
    v = BitVec.ofNat 32 (leNat (s.bytesAt addr.toNat 4)) → s.hspBegin.admits (readReq .host addr.toNat) = true → 
    ∃ t, exec (.hspRead cmd addr ⟨cmdCrc, addrCrc⟩ none) s = .next t ∧ t.reg Reg.HSP_LAST_STAT = s.hsp.status ∧
    t.get F.HSP_COUNTS_TRANSACTIONS = s.get F.HSP_COUNTS_TRANSACTIONS + 1 ∧ t.hsp.isOpen = false ∧
    t.out.get Initiator.host = (⟨v, .ok⟩ : BusAnswer) ∧ t.hsp.count = 1 ∧ t.mem = s.mem ∧
    t.hsp.miso = [(s.hsp.status, if s.hsp.crcOn then some (hostCrc s.hsp.status) else none), (0, if s.hsp.crcOn then some (hostCrc 0) else none),
    (0, if s.hsp.crcOn then some (hostCrc 0) else none), (v, if s.hsp.crcOn then some (hostCrc v) else none)]) ∧
  (∀ (s : State) (cmd addr w : Word) (cmdCrc addrCrc crc : Byte), s.canonical = true → s.hsp.isOpen = true →
    s.get F.HSP_COUNTS_TRANSACTIONS < 65535 → headerRefused cmd addr = false → (s.hsp.crcOn = true → cmdCrc = hostCrc cmd ∧
    addrCrc = hostCrc addr) → bitsOf cmd.toNat 0 11 = 1 → s.hspReady = true → s.hsp.posted = [] →
    regionOf addr.toNat = .apcSram ∨ regionOf addr.toNat = .ntcSram → s.rangeBad addr.toNat 4 = false → (s.hsp.crcOn = true → crc = hostCrc w) →
    s.hsp.flying = false → s.hspBegin.admits (writeReq .host addr.toNat w) = true → 
    ∃ t, exec (.hspWrite cmd addr ⟨cmdCrc, addrCrc⟩ [⟨w, crc⟩]) s = .next t ∧ t.reg Reg.HSP_LAST_STAT = s.hsp.status ∧
    t.get F.HSP_COUNTS_TRANSACTIONS = s.get F.HSP_COUNTS_TRANSACTIONS + 1 ∧ t.hsp.isOpen = false ∧
    (∀ k ∈ List.range 4, t.byte (addr.toNat + k) = BitVec.ofNat 8 (w.toNat / 256 ^ k)) ∧ t.hsp.count = 1 ∧ t.hsp.posted = []) ∧
  (∀ (s : State) (cmd addr w : Word) (cmdCrc addrCrc crc : Byte) (ws : List HostWord), s.canonical = true → s.hsp.isOpen = true →
    s.get F.HSP_COUNTS_TRANSACTIONS < 65535 → headerRefused cmd addr = false → s.hsp.crcOn = true → cmdCrc = hostCrc cmd →
    addrCrc = hostCrc addr → crc ≠ hostCrc w → 
    ∃ t, exec (.hspWrite cmd addr ⟨cmdCrc, addrCrc⟩ (⟨w, crc⟩ :: ws)) s = .next t ∧ t.reg Reg.HSP_LAST_STAT = s.hsp.status ∧
    t.get F.HSP_COUNTS_TRANSACTIONS = s.get F.HSP_COUNTS_TRANSACTIONS + 1 ∧ t.hsp.isOpen = false ∧ t.hsp.flags.testBit hfDataCrc = true ∧
    t.hsp.count = 0 ∧ t.mem = s.mem) ∧
  (∀ (s : State), s.canonical = true → s.hsp.mayCut = true → 
    ∃ t, exec .cut s = .next t ∧ t.hsp.isOpen = false ∧ t.hsp.mayCut = false ∧ t.hsp.flags.testBit hfCut = true ∧ t.mem = s.mem) ∧
  (∀ (s : State) (i : Initiator) (w : Word) (r : RegRow), s.takes i P.HSP 0x10C w r = true → s.canonical = true → 
    ∃ t, exec (.dbSet i w) s = .next t ∧ t.get F.HSP_DOORBELL_BITS = s.get F.HSP_DOORBELL_BITS ||| w.toNat % 256) ∧
  (∀ (s : State) (i : Initiator) (w : Word) (r : RegRow), s.takes i P.HSP 0x110 w r = true → s.canonical = true → 
    ∃ t, exec (.doorbell i w) s = .next t ∧ t.reg Reg.HSP_DOORBELL = s.reg Reg.HSP_DOORBELL &&& ~~~(w &&& 0xFF) ∧ (i = Initiator.host →
    s.enabled P.HSP = true → s.reg Reg.HSP_DOORBELL &&& w &&& 0xFF ≠ 0 → (t.reg (Reg.IRQ_RAW (P.HSP))).toNat.testBit (0) = true))

/-- EVENT_SAMPLE, HELD_EVENTS_SAMPLE, TASK_TRIGGER, SW_TRIG, TASK_TRIG (17 R396 to R401), PIN_EVT, GPIO_INT (17 R400; 23 R510, R513): an edge samples the
raised and held events and puts the triggers of the channels on their way; a trigger reaches its task; software raises published events and triggers;
a pin's level shows in GPIO.IN, its edges raise pin events, and an edge of the chosen kind sets INT_FLAG. -/
def Obligations.FabricAndPinCommandsComplete : Prop :=
  (∀ (s : State), s.fabricOn = true → s.fabric.due = [] → 
    ∃ t, exec .eventSample s = .next t ∧ t.fabric.raised = [] ∧ t.fabric.held = [] ∧ t.fabric.cycle = s.fabric.cycle + 1 ∧
    t.fabric.due = ((s.fabric.raised ++ s.fabric.held.filter (fun e => !s.fabric.raised.contains e)).map s.targets).flatten ∧ t.regs = s.regs) ∧
  (∀ (s : State), s.fabricOn = true → s.fabric.due = [] → s.fabric.held ≠ [] → 
    ∃ t, exec .heldEventsSample s = .next t ∧ t.fabric.raised = [] ∧ t.fabric.held = [] ∧ t.fabric.cycle = s.fabric.cycle + 1 ∧
    t.fabric.due = ((s.fabric.raised ++ s.fabric.held.filter (fun e => !s.fabric.raised.contains e)).map s.targets).flatten ∧ t.regs = s.regs) ∧
  (∀ (s : State) (n k : Nat), s.canonical = true → s.fabricOn = true → n = taskId P.EVF k → k < 8 → n ∈ s.fabric.due → s.taskGoes n = true → 
    ∃ t, exec (.taskTrigger n) s = .next t ∧ (t.reg Reg.EVF_IRQ_TASK).toNat.testBit k = true ∧ t.fabric.due = s.fabric.due.filter (· != n)) ∧
  (∀ (s : State) (i : Initiator) (w : Word) (r : RegRow), s.takes i P.EVF 0x108 w r = true → s.canonical = true → s.enabled P.EVF = true →
    s.fabricOn = true → 
    ∃ t, exec (.swTrig i w) s = .next t ∧ (∀ n ∈ List.range 8, w.toNat.testBit n = true → (s.reg (Reg.EVT_PUB_EN P.EVF)).toNat.testBit n = true →
    32 * P.EVF + n ∈ t.fabric.raised) ∧ t.fabric.due = s.fabric.due) ∧
  (∀ (s : State) (i : Initiator) (w : Word) (r : RegRow), s.takes i P.EVF 0x10C w r = true → s.canonical = true → s.enabled P.EVF = true → 
    ∃ t, exec (.taskTrig i w) s = .next t ∧ t.fabric = { s.fabric with due := s.fabric.due ++ [w.toNat % 512] }) ∧
  (∀ (s : State) (n : Nat) (up : Bool), s.canonical = true → n < 32 → (pinsPresent s.variant).testBit n = true → n < 8 → s.enabled P.GPIO = true →
    s.fabricOn = true → 
    ∃ t, exec (.pinEvt n up) s = .next t ∧ (t.reg Reg.GPIO_IN).toNat.testBit n = up ∧ (∀ k ∈ List.range 8, s.get (F.EVF_PIN_EVT_PIN k) = n →
    (s.get (F.EVF_PIN_EVT_EDGE k)).testBit (if up then 0 else 1) = true → (s.reg (Reg.EVT_PUB_EN P.GPIO)).toNat.testBit k = true →
    32 * P.GPIO + k ∈ t.fabric.raised)) ∧
  (∀ (s : State) (n : Nat) (up : Bool), s.canonical = true → n < 32 → (pinsPresent s.variant).testBit n = true → 8 ≤ n → s.get (F.GPIO_PIN_ALT n) = 1 → 
    ∃ t, exec (.pinEvt n up) s = .next t ∧ (t.reg Reg.GPIO_IN).toNat.testBit n = up ∧ t.fabric = s.fabric) ∧
  (∀ (s : State) (n : Nat) (up : Bool), s.canonical = true → n < 32 → (pinsPresent s.variant).testBit n = true → s.enabled P.GPIO = true →
    s.systemOn = true → 
    ∃ t, exec (.gpioInt n up) s = .next t ∧ (t.reg Reg.GPIO_IN).toNat.testBit n = up ∧ ((s.reg Reg.GPIO_IN).toNat.testBit n = !up →
    s.get (F.GPIO_PIN_INT_MODE n) = 3 ∨ s.get (F.GPIO_PIN_INT_MODE n) = (if up then 1 else 2) →
    (t.reg Reg.GPIO_INT_FLAG).toNat.testBit n = true) ∧ (s.get (F.GPIO_PIN_INT_MODE n) = (if up then 5 else 4) →
    (t.reg Reg.GPIO_INT_FLAG).toNat.testBit n = true))

/-- REQ, ENTRY_BEGIN, ENTRY_INSTANT, ENTRY_ABORTED, WAKE, WAKE_PIN, BOR_RELEASE, RADIO_ON, RADIO_DOMAIN_UP, OP_TARGET, OP_DONE (18 R404, R408 to R415,
R422; 19 R430): a request is pending until every gate holds; then the entry begins, reaches its state at the entry instant, or is aborted by a wake
source; a wake returns to Active on HFRC at OP0; an operating point is raised or refused. -/
def Obligations.PowerCommandsComplete : Prop :=
  (∀ (s : State) (i : Initiator) (w : Word), s.brings i P.PWR 0x100 w = true → s.canonical = true → s.enabled P.PWR = true → w.toNat % 4 = 0 →
    s.pwr.entering = none → 
    ∃ t, exec (.req i w) s = .next t ∧ t.get F.PWR_STAT_PENDING = 0 ∧ t.get F.PWR_REQ_TARGET = 0 ∧ t.pwr = s.pwr) ∧
  (∀ (s : State) (i : Initiator) (w : Word), s.brings i P.PWR 0x100 w = true → s.canonical = true → s.enabled P.PWR = true →
    w.toNat % 4 ≠ 0 ∨ s.pwr.entering ≠ none → 
    ∃ t, exec (.req i w) s = .next t ∧ t.get F.PWR_STAT_PENDING = 1 ∧ t.get F.PWR_REQ_TARGET = w.toNat % 4 ∧ t.pwr = s.pwr) ∧
  (∀ (s : State), s.canonical = true → s.on F.PWR_STAT_PENDING = true → s.pwr.state = PowerState.active → s.pwr.entering = none →
    s.get F.PWR_REQ_TARGET ≠ 0 → s.gatesOpen = 0 → s.standingSources = [] → 
    ∃ t, exec .entryBegin s = .next t ∧ t.pwr.entering = some (stateOf (s.get F.PWR_REQ_TARGET)) ∧ t.get F.PWR_STAT_ENTERING = 1 ∧
    t.get F.PWR_STAT_PENDING = 0 ∧ t.pwr.state = PowerState.active ∧ t.mem = s.mem) ∧
  (∀ (s : State), s.canonical = true → s.on F.PWR_STAT_PENDING = true → s.pwr.state = PowerState.active → s.pwr.entering = none →
    s.get F.PWR_REQ_TARGET ≠ 0 → s.gatesOpen = 0 → s.standingSources ≠ [] → 
    ∃ t, exec .entryBegin s = .next t ∧ t.pwr.entering = none ∧ t.get F.PWR_STAT_ENTRY_ABORTED = 1 ∧ t.pwr.state = PowerState.active) ∧
  (∀ (s : State) (x : PowerState), s.canonical = true → s.pwr.entering = some x → s.on F.PWR_STAT_PENDING = false → 
    ∃ t, exec .entryInstant s = .next t ∧ t.pwr.state = x ∧ t.pwr.entering = none ∧ t.get F.PWR_STAT_ENTERING = 0 ∧ (s.count % 256 = 0 →
    t.count = s.count) ∧ (s.count % 256 ≠ 0 → t.count = (s.count / 256 + 1) * 256 % countMod) ∧ t.get F.TMB_STAT_FINE_VALID = 0 ∧
    t.get F.CLK_STAT_HFXO_OK = 0 ∧ t.variant = s.variant) ∧
  (∀ (s : State) (x : PowerState), s.canonical = true → s.pwr.entering = some x → s.on F.PWR_STAT_PENDING = true → s.get F.PWR_REQ_TARGET = 0 → 
    ∃ t, exec .entryInstant s = .next t ∧ t.pwr.state = PowerState.active ∧ t.get F.PWR_STAT_PENDING = 0 ∧ t.get F.CLK_STAT_HFRC_OK = 1 ∧
    t.get F.PWR_OP_ACTIVE = 0) ∧
  (∀ (s : State) (srcs : List Nat) (x : PowerState), s.canonical = true → s.pwr.entering = some x → s.wakeNow srcs ≠ [] → 
    ∃ t, exec (.entryAborted srcs) s = .next t ∧ t.pwr.entering = none ∧ t.pwr.state = PowerState.active ∧ t.get F.PWR_STAT_ENTRY_ABORTED = 1) ∧
  (∀ (s : State) (srcs : List Nat) (x : PowerState), s.pwr.entering = some x → s.wakeNow srcs = [] → 
    ∃ t, exec (.entryAborted srcs) s = .next t ∧ t.pwr = s.pwr ∧ t.mem = s.mem) ∧
  (∀ (s : State) (srcs : List Nat), s.canonical = true → s.pwr.state ≠ PowerState.active → s.pwr.entering = none → s.wakeNow srcs ≠ [] → 
    ∃ t, exec (.wake srcs) s = .next t ∧ t.pwr.state = PowerState.active ∧ t.pwr.wakes = [] ∧ t.get F.PWR_STAT_FROM = stateCode s.pwr.state ∧
    t.get F.PWR_WAKE_LAST_SOURCE = (s.wakeNow srcs).foldl min 0xFF % 2 ^ F.PWR_WAKE_LAST_SOURCE.width ∧ t.get F.CLK_STAT_SRC_ACTIVE = 0 ∧
    t.get F.PWR_OP_ACTIVE = 0 ∧ t.get F.CLK_STAT_HFRC_OK = 1) ∧
  (∀ (s : State) (srcs : List Nat), s.pwr.state = PowerState.active → 
    ∃ t, exec (.wake srcs) s = .next t ∧ t.pwr = s.pwr ∧ t.mem = s.mem ∧ t = s.wakeLatch srcs ∧ (∀ k ∈ List.range 8, k + 1 ∈ srcs →
    s.enabled P.WKP = true → s.on (F.WKP_PIN_EN k) = true → (t.get F.WKP_PENDING_PIN).testBit k = true)) ∧
  (∀ (s : State), s.canonical = true → s.pwr.state = PowerState.standby ∨ s.pwr.state = PowerState.dormant → s.pwr.entering = none → s.wakeNow [] ≠ [] → 
    ∃ t, exec .borRelease s = .next t ∧ t.pwr.state = PowerState.active ∧ t.pwr.wakes = [] ∧ t.get F.PWR_STAT_FROM = stateCode s.pwr.state ∧
    t.get F.PWR_WAKE_LAST_SOURCE = (s.wakeNow []).foldl min 0xFF % 2 ^ F.PWR_WAKE_LAST_SOURCE.width ∧ t.get F.CLK_STAT_SRC_ACTIVE = 0 ∧
    t.get F.PWR_OP_ACTIVE = 0 ∧ t.get F.CLK_STAT_HFRC_OK = 1) ∧
  (∀ (s : State) (n : Nat) (up : Bool), s.canonical = true → n < 8 → 
    ∃ t, exec (.wakePin n up) s = .next t ∧ (t.get F.GPIO_IN_IN).testBit n = up ∧ (s.enabled P.WKP = true → s.on (F.WKP_PIN_EN n) = true →
    up = s.on (F.WKP_PIN_POL n) → s.on (F.WKP_PIN_EDGE n) = false ∨ (s.get F.GPIO_IN_IN).testBit n ≠ up →
    (t.get F.WKP_PENDING_PIN).testBit n = true ∧ n + 1 ∈ t.pwr.wakes) ∧ (s.on (F.WKP_PIN_EN n) = false → t.pwr = s.pwr)) ∧
  (∀ (s : State) (i : Initiator) (w : Word) (r : RegRow), s.takes i P.PWR 0x11C w r = true → s.canonical = true → w.toNat.testBit 0 = true → 
    ∃ t, exec (.radioOn i w) s = .next t ∧ t.get F.PWR_DOM_RADIO_ON = 1 ∧ t.pwr = s.pwr) ∧
  (∀ (s : State) (i : Initiator) (w : Word) (r : RegRow), s.takes i P.PWR 0x11C w r = true → s.canonical = true → s.enabled P.PWR = true →
    w.toNat.testBit 0 = false → s.get F.RAD_STATE_STATE = 0 → s.on F.RAD_STATE_MOVING = false → 
    ∃ t, exec (.radioOn i w) s = .next t ∧ t.get F.PWR_DOM_RADIO_ON = 0 ∧ t.pwr.radioUp = false) ∧
  (∀ (s : State), s.canonical = true → s.enabled P.PWR = true → s.on F.PWR_DOM_RADIO_ON = true → s.pwr.radioUp = false →
    s.pwr.state = PowerState.active → 
    ∃ t, exec .radioDomainUp s = .next t ∧ t.pwr.radioUp = true ∧ t.get F.PWR_DOM_RADIO_PWR = 1) ∧
  (∀ (s : State) (i : Initiator) (w : Word) (n : Nat), s.brings i P.PWR 0x10C w = true → s.canonical = true → s.enabled P.PWR = true →
    n = w.toNat % 4 → n ≠ 3 → s.opRefused n = false → n ≠ s.get F.PWR_OP_ACTIVE → 
    ∃ t, exec (.opTarget i w) s = .next t ∧ t.get F.PWR_OP_TARGET = n ∧ t.get F.PWR_OP_BUSY = 1 ∧ t.get F.PWR_OP_ACTIVE = s.get F.PWR_OP_ACTIVE) ∧
  (∀ (s : State) (i : Initiator) (w : Word) (n : Nat), s.brings i P.PWR 0x10C w = true → s.canonical = true → s.enabled P.PWR = true →
    n = w.toNat % 4 → n ≠ 3 → s.opRefused n = true → 
    ∃ t, exec (.opTarget i w) s = .next t ∧ t.reg Reg.PWR_OP = s.reg Reg.PWR_OP ∧ (t.reg (Reg.IRQ_RAW (P.PWR))).toNat.testBit (2) = true ∧
    t.pwr = s.pwr) ∧
  (∀ (s : State), s.canonical = true → s.on F.PWR_OP_BUSY = true → s.on F.PWR_CFG_EXT_REG = false → 
    ∃ t, exec .opDone s = .next t ∧ t.get F.PWR_OP_ACTIVE = s.get F.PWR_OP_TARGET ∧ t.get F.PWR_OP_BUSY = 0 ∧
    t.get F.FLC_WAIT_EFFECTIVE = max (s.get F.FLC_WAIT_WS) (waitMin (s.get F.PWR_OP_TARGET) s.sysKhz) ∧ (s.enabled P.PWR = true →
    (t.reg (Reg.IRQ_RAW (P.PWR))).toNat.testBit (1) = true))

/-- CLK_CFG_WRITE, SWITCHED, HFXO_STABLE, PLL_LOCK, HFXO_FAIL, LFXO_FAIL, LFXO_RETURN (18 R416 to R420), HFXO_FAILS_TO_START (05 R123), VOUT_COMMAND,
OPERATION, STATUS_BYTE, RRP_RESEND, RRP_TIMEOUT (18 R423, R424): a clock choice that differs from the clock in force waits for its source; the loss of
a monitored HFXO moves the system to HFRC; a request to the regulator is sent, acknowledged, sent again, or given up. -/
def Obligations.ClockAndRegulatorCommandsComplete : Prop :=
  (∀ (s : State) (i : Initiator) (w : Word) (r : RegRow), s.takes i P.CLK 0x100 w r = true → s.canonical = true → s.enabled P.CLK = true → 
    ∃ t, exec (.clkCfgWrite i w) s = .next t ∧ t.get F.CLK_CFG_SYS_SRC = w.toNat % 4 ∧ t.get F.CLK_CFG_SYS_DIV = bitsOf w.toNat 4 2 ∧
    t.on F.CLK_STAT_SWITCHING = !(w.toNat % 4 == s.get F.CLK_STAT_SRC_ACTIVE && bitsOf w.toNat 4 2 == s.get F.CLK_STAT_DIV_ACTIVE) ∧
    t.get F.CLK_STAT_SRC_ACTIVE = s.get F.CLK_STAT_SRC_ACTIVE) ∧
  (∀ (s : State), s.canonical = true → s.on F.CLK_STAT_SWITCHING = true → s.srcRuns (s.get F.CLK_CFG_SYS_SRC) = true → 
    ∃ t, exec .switched s = .next t ∧ t.get F.CLK_STAT_SRC_ACTIVE = s.get F.CLK_CFG_SYS_SRC ∧
    t.get F.CLK_STAT_DIV_ACTIVE = s.get F.CLK_CFG_SYS_DIV ∧ t.get F.CLK_STAT_SWITCHING = 0 ∧
    t.get F.CLK_SYS_KHZ_KHZ = srcKhz (s.get F.CLK_CFG_SYS_SRC) / 2 ^ s.get F.CLK_CFG_SYS_DIV) ∧
  (∀ (s : State), s.canonical = true → s.systemOn = true → s.on F.CLK_STAT_HFXO_OK = false → s.hfxoWanted = true → 
    ∃ t, exec .hfxoStable s = .next t ∧ t.on F.CLK_STAT_HFXO_OK = true ∧ t.pwr = { s.pwr with hfxoReq := false }) ∧
  (∀ (s : State), s.canonical = true → s.on F.CLK_STAT_HFXO_OK = true → s.pllHeld = true → 1 ≤ s.get F.PWR_OP_ACTIVE → 
    ∃ t, exec .pllLock s = .next t ∧ t.on F.CLK_STAT_PLL_LOCK = true ∧ t.mem = s.mem) ∧
  (∀ (s : State), s.canonical = true → s.on F.CLK_STAT_HFXO_OK = true → s.on F.CLK_CFG_MON_EN = true → 
    ∃ t, exec .hfxoFail s = .next t ∧ t.on F.CLK_STAT_HFXO_OK = false ∧ t.on F.CLK_STAT_PLL_LOCK = false ∧ t.get F.CLK_STAT_SRC_ACTIVE = 0 ∧
    t.on F.CLK_STAT_SWITCHING = false ∧ (s.enabled P.CLK = true → (t.reg (Reg.IRQ_RAW (P.CLK))).toNat.testBit (0) = true)) ∧
  (∀ (s : State), s.canonical = true → s.on F.CLK_STAT_HFXO_OK = true → s.on F.CLK_CFG_MON_EN = false → 
    ∃ t, exec .hfxoFail s = .next t ∧ t = s.put F.CLK_STAT_HFXO_OK 0) ∧
  (∀ (s : State), s.canonical = true → s.on F.CLK_STAT_LFXO_OK = true → 
    ∃ t, exec .lfxoFail s = .next t ∧ t.on F.CLK_STAT_LFXO_OK = false ∧ t.get F.CLK_STAT_LF_SRC = 0 ∧ t.get F.TMB_STAT_SLOW_SRC = 0 ∧
    t.count = s.count) ∧
  (∀ (s : State), s.canonical = true → s.on F.CLK_CFG_LFXO_EN = true → s.pwr.state ≠ PowerState.dormant → 
    ∃ t, exec .lfxoReturn s = .next t ∧ t.on F.CLK_STAT_LFXO_OK = true ∧ t.get F.CLK_STAT_LF_SRC = 1 ∧ t.get F.TMB_STAT_SLOW_SRC = 1 ∧
    t.count = s.count) ∧
  (∀ (s : State) (o : RadOp), s.canonical = true → s.radio.hfxoWait = true → s.on F.CLK_STAT_HFXO_OK = false → s.radio.op = some o →
    o.src = .software s.radio.cmdNo → 
    ∃ t, exec .hfxoFailsToStart s = .next t ∧ t.radio.op = none ∧ t.radio.hfxoWait = false ∧ t.on F.RAD_STATE_MOVING = false ∧
    (s.on F.PWR_DOM_RADIO_ON = true → t.get F.RAD_CMD_STAT_STATUS = 6)) ∧
  (∀ (s : State) (v : Nat) (m : List Byte), s.pwr.rrp = RrpStep.voutDue → s.enabled P.RRP = true ∨ s.pwr.rrpWake = true →
    v = (if s.get F.PWR_OP_TARGET = 0 then s.get F.RRP_VOUT01_OP0 else if s.get F.PWR_OP_TARGET = 1 then s.get F.RRP_VOUT01_OP1 else s.get
    F.RRP_VOUT2_OP2) → m = [BitVec.ofNat 8 (2 * s.get F.RRP_CFG_ADDR), 0x21, BitVec.ofNat 8 v, BitVec.ofNat 8 (v / 256)] → 
    ∃ t, exec .voutCommand s = .next t ∧ t = { s with pwr := { s.pwr with rrp := .voutSent, smbus := s.pwr.smbus ++ [m ++ [pec m]] } }) ∧
  (∀ (s : State) (m : List Byte), s.pwr.rrp = RrpStep.onDue → s.enabled P.RRP = true ∨ s.pwr.rrpWake = true →
    m = [BitVec.ofNat 8 (2 * s.get F.RRP_CFG_ADDR), 0x01, 0x80] → 
    ∃ t, exec (.operation true) s = .next t ∧ t = { s with pwr := { s.pwr with rrp := .onSent, smbus := s.pwr.smbus ++ [m ++ [pec m]] } }) ∧
  (∀ (s : State) (m : List Byte), s.pwr.rrp = RrpStep.offDue → m = [s.pwr.offAddr, 0x01, 0x00] → 
    ∃ t, exec (.operation false) s = .next t ∧ t = { s with pwr := { s.pwr with rrp := .none, smbus := s.pwr.smbus ++ [m ++ [pec m]] } }) ∧
  (∀ (s : State), s.canonical = true → s.pwr.rrp = RrpStep.voutSent ∨ s.pwr.rrp = RrpStep.onSent → s.pwr.rrpNak = false → 
    ∃ t, exec (.statusByte .nak) s = .next t ∧ t.get F.RRP_STAT_RESULT = 1 ∧
    t.pwr = { s.pwr with rrpNak := true, smbus := s.pwr.smbus ++ [[BitVec.ofNat 8 (2 * s.get F.RRP_CFG_ADDR), 0x78, BitVec.ofNat 8 (2 * s.get
    F.RRP_CFG_ADDR + 1)]] }) ∧
  (∀ (s : State) (b code : Byte) (mv : Nat), s.canonical = true → s.pwr.rrp = RrpStep.voutSent ∨ s.pwr.rrp = RrpStep.onSent → s.pwr.rrpNak = false →
    code ≠ pec [BitVec.ofNat 8 (2 * s.get F.RRP_CFG_ADDR), 0x78, BitVec.ofNat 8 (2 * s.get F.RRP_CFG_ADDR + 1), b] → 
    ∃ t, exec (.statusByte (.status b code mv)) s = .next t ∧ t.get F.RRP_STAT_RESULT = 2 ∧
    t.get F.RRP_STAT_STATUS_BYTE = s.get F.RRP_STAT_STATUS_BYTE ∧
    t.pwr = { s.pwr with rrpNak := true, smbus := s.pwr.smbus ++ [[BitVec.ofNat 8 (2 * s.get F.RRP_CFG_ADDR), 0x78, BitVec.ofNat 8 (2 * s.get
    F.RRP_CFG_ADDR + 1)]] }) ∧
  (∀ (s : State) (b code : Byte) (mv : Nat) (v : Nat), s.canonical = true → s.pwr.rrp = RrpStep.voutSent → s.pwr.rrpNak = false →
    s.pwr.rrpWake = false → code = pec [BitVec.ofNat 8 (2 * s.get F.RRP_CFG_ADDR), 0x78, BitVec.ofNat 8 (2 * s.get F.RRP_CFG_ADDR + 1), b] →
    bitsOf b.toNat 1 7 = 0 → v = (if s.get F.PWR_OP_TARGET = 0 then 650 else if s.get F.PWR_OP_TARGET = 1 then 750 else 850) → 97 * v ≤ 100 * mv →
    100 * mv ≤ 103 * v → 
    ∃ t, exec (.statusByte (.status b code mv)) s = .next t ∧ t.pwr.rrp = RrpStep.none ∧ t.get F.RRP_STAT_RESULT = 0 ∧
    t.get F.RRP_STAT_STATUS_BYTE = b.toNat ∧ t.get F.PWR_OP_ACTIVE = s.get F.PWR_OP_TARGET ∧ t.get F.PWR_OP_BUSY = 0) ∧
  (∀ (s : State) (b code : Byte) (mv : Nat), s.canonical = true → s.pwr.rrp = RrpStep.voutSent ∨ s.pwr.rrp = RrpStep.onSent → s.pwr.rrpNak = false →
    code = pec [BitVec.ofNat 8 (2 * s.get F.RRP_CFG_ADDR), 0x78, BitVec.ofNat 8 (2 * s.get F.RRP_CFG_ADDR + 1), b] → bitsOf b.toNat 1 5 ≠ 0 → 
    ∃ t, exec (.statusByte (.status b code mv)) s = .next t ∧ t.get F.RRP_STAT_RESULT = 4 ∧ t.get F.RRP_STAT_STATUS_BYTE = b.toNat ∧
    t.pwr = { s.pwr with smbus := s.pwr.smbus ++ [[BitVec.ofNat 8 (2 * s.get F.RRP_CFG_ADDR), 0x78, BitVec.ofNat 8 (2 * s.get F.RRP_CFG_ADDR + 1)]] }) ∧
  (∀ (s : State), s.canonical = true → s.pwr.rrpNak = true → s.get F.RRP_COUNTS_RETRIES + 1 < 2 ^ F.RRP_COUNTS_RETRIES.width → 
    ∃ t, exec .rrpResend s = .next t ∧
    t.pwr = { s.pwr with rrpNak := false, rrp := (if s.pwr.rrp = RrpStep.onSent then RrpStep.onDue else RrpStep.voutDue) } ∧
    t.get F.RRP_COUNTS_RETRIES = s.get F.RRP_COUNTS_RETRIES + 1) ∧
  (∀ (s : State), s.canonical = true → s.pwr.rrp = RrpStep.voutSent ∨ s.pwr.rrp = RrpStep.onSent → 0 < s.pwr.rrpLeft → 
    ∃ t, exec .rrpTimeout s = .next t ∧
    t.pwr = { s.pwr with rrpNak := false, rrp := (if s.pwr.rrp = RrpStep.onSent then RrpStep.onDue else RrpStep.voutDue), rrpLeft := s.pwr.rrpLeft
    - 1 } ∧ t.get F.RRP_STAT_RESULT = 3) ∧
  (∀ (s : State), s.canonical = true → s.pwr.rrp = RrpStep.voutSent ∨ s.pwr.rrp = RrpStep.onSent → s.pwr.rrpLeft = 0 → s.pwr.rrpDead = false →
    s.pwr.rrpWake = false → s.on F.RRP_CFG_ON_FAIL = false → 
    ∃ t, exec .rrpTimeout s = .next t ∧ t.pwr.rrp = RrpStep.none ∧ t.get F.RRP_STAT_RESULT = 3 ∧ t.get F.RRP_STAT_HOLDING = 1 ∧
    t.get F.PWR_OP_BUSY = 0 ∧ t.get F.PWR_OP_ACTIVE = min (s.get F.PWR_OP_ACTIVE) (s.get F.PWR_OP_TARGET))

/-- POR, BOR, PIN, WDT, UPDATE_FALLBACK, SOFT_CHIP, FLASH_SAFE_POINT_RESET (19 R430 to R433, R443; 14 R356), RESTART_APC, RESTART_NTC (19 R442): a chip
reset leaves its cause, flash and OTP; the resets other than POR and BOR keep the cores' SRAM, the count and the history, and wait while a flash
operation must reach its safe point; a restart takes the core out of the released ones and switches its domain off. -/
def Obligations.ResetCommandsComplete : Prop :=
  (∀ (s : State) (rs : Bool) (pos : Nat), s.canonical = true → 
    ∃ t, exec (.por rs pos) s = .next t ∧ t.boot.cause = 1 ∧ t.reg Reg.SYS_RST_CAUSE = 0x101 ∧ t.get F.PWR_CFG_EXT_REG = boolNat rs ∧
    t.count = 0 ∧ t.sec.otp = s.sec.otp ∧ t.cores.released.contains .apc = false ∧ t.cores.released.contains .ntc = false ∧ t.resetReq = none ∧
    t.boot.started = false ∧ t.pending = s.pending ∧ (s.variant = Variant.znl7240 → t.get F.HVL_STAT_POS = pos % 8) ∧ (∀ a, flashMem a = true →
    t.byte a = s.byte a) ∧ (∀ a, flashMem a = false → t.byte a = memDefault a)) ∧
  (∀ (s : State) (rs : Bool) (pos : Nat), s.canonical = true → s.systemOn = true → 
    ∃ t, exec (.bor rs pos) s = .next t ∧ t.boot.cause = 2 ∧ t.reg Reg.SYS_RST_CAUSE = 0x202 ∧ t.get F.PWR_CFG_EXT_REG = boolNat rs ∧
    t.count = 0 ∧ t.sec.otp = s.sec.otp ∧ t.cores.released.contains .apc = false ∧ t.cores.released.contains .ntc = false ∧ t.resetReq = none ∧
    t.boot.started = false ∧ t.pending = s.pending ∧ (s.variant = Variant.znl7240 → t.get F.HVL_STAT_POS = pos % 8) ∧ (∀ a, flashMem a = true →
    t.byte a = s.byte a) ∧ (∀ a, flashMem a = false → t.byte a = memDefault a)) ∧
  (∀ (s : State) (rs : Bool) (pos : Nat), s.systemOn = false → 
    ∃ t, exec (.bor rs pos) s = .next t ∧ t = s) ∧
  (∀ (s : State) (pos : Nat), s.canonical = true → s.flashHolds = false → 
    ∃ t, exec (.pin pos) s = .next t ∧ t.boot.cause = 3 ∧ t.get F.SYS_RST_CAUSE_LAST = 3 ∧
    t.get F.SYS_RST_CAUSE_HISTORY = s.get F.SYS_RST_CAUSE_HISTORY ||| 2 ^ (3 - 1) ∧ t.count = (s.count + 255) / 256 * 256 % countMod ∧
    t.sec.otp = s.sec.otp ∧ t.cores.released.contains .apc = false ∧ t.cores.released.contains .ntc = false ∧ t.resetReq = none ∧
    t.boot.started = false ∧ t.boot.bootSeal = s.boot.bootSeal ∧ t.pending = s.pending ∧ (s.variant = Variant.znl7240 →
    t.get F.HVL_STAT_POS = pos % 8) ∧ (∀ a, flashMem a = true ∨ coreSram a = true → t.byte a = s.byte a)) ∧
  (∀ (s : State) (pos : Nat), s.flashHolds = true → s.resetReq = none → 
    ∃ t, exec (.pin pos) s = .next t ∧ t.resetReq = some 3 ∧ t.regs = s.regs ∧ t.mem = s.mem ∧ t.flash = s.flash ∧ t.boot.strap = pos % 8) ∧
  (∀ (s : State) (pos : Nat), s.canonical = true → s.flashHolds = false → s.resetReq = some 4 → 
    ∃ t, exec (.wdt pos) s = .next t ∧ t.boot.cause = 4 ∧ t.get F.SYS_RST_CAUSE_LAST = 4 ∧
    t.get F.SYS_RST_CAUSE_HISTORY = s.get F.SYS_RST_CAUSE_HISTORY ||| 2 ^ (4 - 1) ∧ t.count = (s.count + 255) / 256 * 256 % countMod ∧
    t.sec.otp = s.sec.otp ∧ t.cores.released.contains .apc = false ∧ t.cores.released.contains .ntc = false ∧ t.resetReq = none ∧
    t.boot.started = false ∧ t.boot.bootSeal = s.boot.bootSeal ∧ t.pending = s.pending ∧ (s.variant = Variant.znl7240 →
    t.get F.HVL_STAT_POS = pos % 8) ∧ (∀ a, flashMem a = true ∨ coreSram a = true → t.byte a = s.byte a)) ∧
  (∀ (s : State) (pos : Nat), s.flashHolds = true → s.resetReq = some 4 → 
    ∃ t, exec (.wdt pos) s = .next t ∧ t.resetReq = some 4 ∧ t.regs = s.regs ∧ t.mem = s.mem ∧ t.flash = s.flash ∧ t.boot.strap = pos % 8) ∧
  (∀ (s : State) (pos : Nat), s.canonical = true → s.flashHolds = false → s.resetReq = some 6 → 
    ∃ t, exec (.updateFallback pos) s = .next t ∧ t.boot.cause = 6 ∧ t.get F.SYS_RST_CAUSE_LAST = 6 ∧
    t.get F.SYS_RST_CAUSE_HISTORY = s.get F.SYS_RST_CAUSE_HISTORY ||| 2 ^ (6 - 1) ∧ t.count = (s.count + 255) / 256 * 256 % countMod ∧
    t.sec.otp = s.sec.otp ∧ t.cores.released.contains .apc = false ∧ t.cores.released.contains .ntc = false ∧ t.resetReq = none ∧
    t.boot.started = false ∧ t.boot.bootSeal = s.boot.bootSeal ∧ t.pending = s.pending ∧ (s.variant = Variant.znl7240 →
    t.get F.HVL_STAT_POS = pos % 8) ∧ (∀ a, flashMem a = true ∨ coreSram a = true → t.byte a = s.byte a)) ∧
  (∀ (s : State) (i : Initiator) (w : Word) (pos : Nat) (r : RegRow), s.takes i P.SYS 0x10C (withBits w 0 1 1) r = true → s.canonical = true →
    s.canonical = true → s.flashHolds = false → s.flt.resetReq = false → s.enabled P.SYS = true → bitsOf (withBits w 0 1 1).toNat 16 16 = 0xA55A → 
    ∃ t, exec (.softChip i ⟨w, pos⟩) s = .next t ∧ t.boot.cause = 5 ∧ t.get F.SYS_RST_CAUSE_LAST = 5 ∧
    t.get F.SYS_RST_CAUSE_HISTORY = s.get F.SYS_RST_CAUSE_HISTORY ||| 2 ^ (5 - 1) ∧ t.count = (s.count + 255) / 256 * 256 % countMod ∧
    t.sec.otp = s.sec.otp ∧ t.cores.released.contains .apc = false ∧ t.cores.released.contains .ntc = false ∧ t.resetReq = none ∧
    t.boot.started = false ∧ t.boot.bootSeal = s.boot.bootSeal ∧ t.pending = s.pending ∧ (s.variant = Variant.znl7240 →
    t.get F.HVL_STAT_POS = pos % 8) ∧ (∀ a, flashMem a = true ∨ coreSram a = true → t.byte a = s.byte a)) ∧
  (∀ (s : State) (i : Initiator) (w : Word) (pos : Nat), s.canonical = true → s.flashHolds = false → s.flt.resetReq = true → 
    ∃ t, exec (.softChip i ⟨w, pos⟩) s = .next t ∧ t.boot.cause = 5 ∧ t.get F.SYS_RST_CAUSE_LAST = 5 ∧
    t.get F.SYS_RST_CAUSE_HISTORY = s.get F.SYS_RST_CAUSE_HISTORY ||| 2 ^ (5 - 1) ∧ t.count = (s.count + 255) / 256 * 256 % countMod ∧
    t.sec.otp = s.sec.otp ∧ t.cores.released.contains .apc = false ∧ t.cores.released.contains .ntc = false ∧ t.resetReq = none ∧
    t.boot.started = false ∧ t.boot.bootSeal = s.boot.bootSeal ∧ t.pending = s.pending ∧ (s.variant = Variant.znl7240 →
    t.get F.HVL_STAT_POS = pos % 8) ∧ (∀ a, flashMem a = true ∨ coreSram a = true → t.byte a = s.byte a)) ∧
  (∀ (s : State) (n c : Nat) (o : FlashOp), s.canonical = true → s.resetReq = some c → 3 ≤ c → c ≤ 6 → s.flashHolds = true → s.flash.op = some o →
    o.op = 2 → o.addr < 0x400000 → 
    ∃ t, exec (.flashSafePointReset n) s = .next t ∧ t.boot.cause = c ∧ t.get F.SYS_RST_CAUSE_LAST = c ∧ t.get F.FLC_ILOG_VALID = 1 ∧
    t.get F.FLC_ILOG_SECTOR = sectorOf o.addr % 64 ∧ t.flash.op = none ∧ t.resetReq = none ∧ (∀ a, coreSram a = true → t.byte a = s.byte a)) ∧
  (∀ (s : State) (i : Initiator) (w : Word) (r : RegRow), s.takes i P.SYS 0x10C (withBits (withBits w 0 1 0) 1 1 1) r = true → s.canonical = true →
    s.canonical = true → s.enabled P.SYS = true → bitsOf (withBits (withBits w 0 1 0) 1 1 1).toNat 16 16 = 0xA55A →
    s.boot.restarts.contains Core.apc = false → 
    ∃ t, exec (.restartApc i w) s = .next t ∧ t.cores.released.contains Core.apc = false ∧ t.boot.restarts.contains Core.apc = true ∧
    t.get F.PWR_DOM_APC_PWR = 0 ∧ t.mem = s.mem ∧ t.count = s.count) ∧
  (∀ (s : State) (i : Initiator) (w : Word) (r : RegRow), s.takes i P.SYS 0x10C (withBits (withBits w 0 1 0) 2 1 1) r = true → s.canonical = true →
    s.canonical = true → s.enabled P.SYS = true → bitsOf (withBits (withBits w 0 1 0) 2 1 1).toNat 16 16 = 0xA55A →
    s.boot.restarts.contains Core.ntc = false → 
    ∃ t, exec (.restartNtc i w) s = .next t ∧ t.cores.released.contains Core.ntc = false ∧ t.boot.restarts.contains Core.ntc = true ∧
    t.get F.PWR_DOM_NTC_PWR = 0 ∧ t.mem = s.mem ∧ t.count = s.count)

/-- BOOT_START, CORE_RELEASE, BOOT_DONE, ENGINE_CODE_LOAD, ENG_READY, ENGINE_RELOAD (19 R434, R436, R441, R442; 21 R475): boot steps 1 to 6; a core whose
image passed is released; a restarted core is released when its image passes and stays off otherwise; DONE with the boot seal; an engine runs when its
image passed and is in reset with failed otherwise. -/
def Obligations.BootCommandsComplete : Prop :=
  (∀ (s : State) (u v w : Nat), s.canonical = true → s.boot.started = false → s.pwr.state = PowerState.active → s.pwr.rrp = RrpStep.none →
    s.resetReq = none → 
    ∃ t, exec (.bootStart ⟨u, v, w⟩) s = .next t ∧ t.boot.started = true ∧ t.boot.done = false ∧ t.get F.SYS_BOOT_STAT_TRIM_FIX = (if u = v ∧
    v = w then 0 else 1) ∧ t.boot.trim = (u &&& v) ||| (u &&& w) ||| (v &&& w) ∧ t.get F.SYS_BOOT_STAT_DONE = 0 ∧ t.sec.attrs = [] ∧
    t.variant = s.variant) ∧
  (∀ (s : State) (k : Core), s.canonical = true → k ≠ Core.scc → s.boot.restarts.contains k = false → s.boot.started = true → s.boot.done = false →
    s.upd.fall = none → s.bootOwes k = true → (k = Core.ntc → s.bootOwes .apc = false) → s.updSt ≠ 4 → 
    ∃ t, exec (.coreRelease k) s = .next t ∧ t.cores.released.contains k = true ∧ t.get (domField k) = 1 ∧ t.mem = s.mem ∧
    t.boot = { s.boot with restarts := s.boot.restarts.filter (· != k) }) ∧
  (∀ (s : State) (k : Core), s.canonical = true → k ≠ Core.scc → s.boot.restarts.contains k = true → s.updSt ≠ 4 →
    (s.checkHome (coreType k) s.boot.bootSeal.isNone true).1 = true → 
    ∃ t, exec (.coreRelease k) s = .next t ∧ t.boot.restarts.contains k = false ∧ t.cores.released.contains k = true ∧ t.get (domField k) = 1 ∧
    t.mem = s.mem) ∧
  (∀ (s : State) (k : Core), s.canonical = true → k ≠ Core.scc → s.boot.restarts.contains k = true →
    (s.checkHome (coreType k) s.boot.bootSeal.isNone true).1 = false → 
    ∃ t, exec (.coreRelease k) s = .next t ∧ t.boot.restarts.contains k = false ∧ t.cores = s.cores ∧
    (t.get F.SYS_BOOT_STAT_IMG_FAIL).testBit (coreType k - 1) = true ∧ t.mem = s.mem) ∧
  (∀ (s : State), s.canonical = true → s.boot.started = true → s.boot.done = false → s.bootOwes .apc = false → s.bootOwes .ntc = false → 
    ∃ t, exec .bootDone s = .next t ∧ t.boot.done = true ∧ t.get F.SYS_BOOT_STAT_DONE = 1 ∧ t.boot.bootSeal = some s.sealOf.1 ∧
    (s.enabled P.SYS = true → (t.reg (Reg.IRQ_RAW (P.SYS))).toNat.testBit (1) = true)) ∧
  (∀ (s : State) (e : Engine), s.canonical = true → s.eng.length = 8 → s.pwr.radioUp = true → (s.loadGroup (engIx e)).contains (engIx e) = true →
    (s.checkHome (engineType (engIx e)) s.boot.bootSeal.isNone true).1 = true → 
    ∃ t, exec (.engineCodeLoad e) s = .next t ∧ ∀ n ∈ s.loadGroup (engIx e), (t.engine n).run = true ∧ (t.engine n).half = (s.engine n).half) ∧
  (∀ (s : State) (e : Engine), s.canonical = true → s.eng.length = 8 → s.pwr.radioUp = true → (s.loadGroup (engIx e)).contains (engIx e) = true →
    (s.checkHome (engineType (engIx e)) s.boot.bootSeal.isNone true).1 = false → 
    ∃ t, exec (.engineCodeLoad e) s = .next t ∧ (∀ n ∈ s.loadGroup (engIx e), (t.engine n).run = false ∧ (t.engine n).failed = true) ∧
    (t.get F.SYS_BOOT_STAT_IMG_FAIL).testBit (engineType (engIx e) - 1) = true) ∧
  (∀ (s : State), s.canonical = true → s.pwr.radioUp = true → ((List.range 8).all fun e => !engPresent s.variant e || (s.engine e).run) = true → 
    ∃ t, exec .engReady s = .next t ∧ t.get F.SYS_BOOT_STAT_ENG_READY = 1 ∧ (∀ a, a ≠ Reg.SYS_BOOT_STAT → t.reg a = s.reg a) ∧ t.eng = s.eng ∧
    t.mem = s.mem) ∧
  (∀ (s : State) (e : Engine), s.engHeld (engIx e) = true → s.eng.length = 8 → 
    ∃ t, exec (.engineReload e) s = .next t ∧ t.engHeld (engIx e) = false ∧ (t.engine (engIx e)).run = (s.engine (engIx e)).run ∧ t.count = s.count)

/-- STAGE, STAGE_DONE, ACTIVATE, ABANDON, REVERT, RECOPY, CONFIRM, HANDOVER, HANDOVER_WAIT (20 R447, R450, R455, R457, R459, R460, R463): each command
acts in the states the rules give it and ends STATE in the others; a core confirms its part with the code; a handover restarts the core. Whether the
previous copies read back is a free value (log entry 64): both ends are stated. -/
def Obligations.UpdateCommandsComplete : Prop :=
  (∀ (s : State) (i : Initiator) (w : Word) (r : RegRow), s.takes i P.UPD 0x104 (withBits w 0 4 1) r = true → s.canonical = true →
    s.canonical = true → s.enabled P.UPD = true → s.updSt = 0 ∨ s.updSt = 2 → 
    ∃ t, exec (.stage i w) s = .next t ∧ t.get F.UPD_STAT_STATE = 1 ∧ t.get F.UPD_PARTS_IN_SET = 0 ∧ t.get F.UPD_STAT_ERR_TYPE = 0 ∧
    t.get F.UPD_STAT_BUSY = 1 ∧ t.get F.FLC_PROT1_FLACON = 1) ∧
  (∀ (s : State) (i : Initiator) (w : Word) (r : RegRow), s.takes i P.UPD 0x104 (withBits w 0 4 1) r = true → s.canonical = true →
    s.canonical = true → s.enabled P.UPD = true → 4 ≤ s.updSt → s.updSt ≤ 6 → s.upd.badCopy ≠ 0 → 
    ∃ t, exec (.stage i w) s = .next t ∧ t.updSt = s.updSt ∧ t.get F.UPD_STAT_RESULT = 13 ∧
    (t.reg (Reg.IRQ_RAW (P.UPD))).toNat.testBit (0) = true ∧ t.upd = s.upd ∧ t.mem = s.mem) ∧
  (∀ (s : State) (i : Initiator) (w : Word) (r : RegRow), s.takes i P.UPD 0x104 (withBits w 0 4 1) r = true → s.canonical = true →
    s.canonical = true → s.enabled P.UPD = true → s.updSt ≠ 0 → s.updSt ≠ 2 → s.updSt < 4 ∨ 6 < s.updSt ∨ s.upd.badCopy = 0 → 
    ∃ t, exec (.stage i w) s = .next t ∧ t.updSt = s.updSt ∧ t.get F.UPD_STAT_RESULT = 7 ∧
    (t.reg (Reg.IRQ_RAW (P.UPD))).toNat.testBit (0) = true ∧ t.upd = s.upd ∧ t.mem = s.mem) ∧
  (∀ (s : State), s.canonical = true → s.updSt = 1 → s.stageChecks.1 = UpdRes.ok → 
    ∃ t, exec .stageDone s = .next t ∧ ((Config.freeWord s.stageChecks.2.2.freeCtr).toNat % 2 = 0 →
    s.stageChecks.2.2.saveBlocked s.stageChecks.2.1 = false → t.get F.UPD_STAT_STATE = 2 ∧ t.get F.UPD_STAT_RESULT = 0 ∧
    t.get F.UPD_PARTS_IN_SET = s.stageChecks.2.1 % 256 ∧ t.get F.UPD_PARTS_EFFECT = 0 ∧ t.get F.UPD_PARTS_CONFIRMED = 0) ∧
    ((Config.freeWord s.stageChecks.2.2.freeCtr).toNat % 2 = 1 ∨ s.stageChecks.2.2.saveBlocked s.stageChecks.2.1 = true →
    t.get F.UPD_STAT_STATE = 0 ∧ t.get F.UPD_STAT_RESULT = 11 ∧ t.get F.FLC_PROT1_FLACON = 0)) ∧
  (∀ (s : State), s.canonical = true → s.updSt = 1 → s.stageChecks.1 ≠ UpdRes.ok → 
    ∃ t, exec .stageDone s = .next t ∧ t.get F.UPD_STAT_STATE = 0 ∧ t.get F.UPD_STAT_RESULT = s.stageChecks.1.code ∧
    t.get F.UPD_STAT_ERR_TYPE = s.stageChecks.2.1 % 2 ^ F.UPD_STAT_ERR_TYPE.width ∧ t.get F.FLC_PROT1_FLACON = 0) ∧
  (∀ (s : State) (i : Initiator) (w : Word) (r : RegRow), s.takes i P.UPD 0x104 (withBits w 0 4 2) r = true → s.canonical = true →
    s.canonical = true → s.enabled P.UPD = true → s.updSt = 2 → s.hvlSlave = false → notBefore s.updAt (addTicks s.count (usTicks 10000)) = true → 
    ∃ t, exec (.activate i w) s = .next t ∧ t.get F.UPD_STAT_STATE = 3 ∧ t.get F.UPD_STAT_RESULT = 0 ∧ t.upd.byMaster = false ∧
    (t.reg (Reg.IRQ_RAW (P.UPD))).toNat.testBit (0) = true) ∧
  (∀ (s : State) (i : Initiator) (w : Word) (r : RegRow), s.takes i P.UPD 0x104 (withBits w 0 4 2) r = true → s.canonical = true →
    s.canonical = true → s.enabled P.UPD = true → s.updSt = 2 → s.hvlSlave = false → notBefore s.updAt (addTicks s.count (usTicks 10000)) = false → 
    ∃ t, exec (.activate i w) s = .next t ∧ t.get F.UPD_STAT_STATE = 2 ∧ t.get F.UPD_STAT_RESULT = 8 ∧
    (t.reg (Reg.IRQ_RAW (P.UPD))).toNat.testBit (0) = true ∧ t.upd = s.upd) ∧
  (∀ (s : State) (i : Initiator) (w : Word) (r : RegRow), s.takes i P.UPD 0x104 (withBits w 0 4 2) r = true → s.canonical = true →
    s.canonical = true → s.enabled P.UPD = true → s.updSt ≠ 2 ∨ s.hvlSlave = true → 
    ∃ t, exec (.activate i w) s = .next t ∧ t.updSt = s.updSt ∧ t.get F.UPD_STAT_RESULT = 7 ∧ t.upd = s.upd) ∧
  (∀ (s : State) (i : Initiator) (w : Word) (r : RegRow), s.takes i P.UPD 0x104 (withBits w 0 4 3) r = true → s.canonical = true →
    s.canonical = true → s.enabled P.UPD = true → s.updSt = 1 ∨ s.updSt = 2 ∨ s.updSt = 3 → 
    ∃ t, exec (.abandon i w) s = .next t ∧ t.get F.UPD_STAT_STATE = 0 ∧ t.get F.UPD_STAT_RESULT = 14 ∧ t.get F.UPD_PARTS_IN_SET = 0 ∧
    t.get F.FLC_PROT1_FLACON = 0 ∧ (t.reg (Reg.IRQ_RAW (P.UPD))).toNat.testBit (0) = true) ∧
  (∀ (s : State) (i : Initiator) (w : Word) (r : RegRow), s.takes i P.UPD 0x104 (withBits w 0 4 4) r = true → s.canonical = true →
    s.canonical = true → s.enabled P.UPD = true → s.updSt = 4 ∨ s.updSt = 5 → s.hvlSlave = false → s.upd.fall = none → 
    ∃ t, exec (.revert i w) s = .next t ∧ t.upd.fall = some 5 ∧ t.get F.UPD_STAT_RESULT = 0 ∧ t.updSt = s.updSt) ∧
  (∀ (s : State) (i : Initiator) (w : Word) (r : RegRow), s.takes i P.UPD 0x104 (withBits w 0 4 4) r = true → s.canonical = true →
    s.canonical = true → s.enabled P.UPD = true → s.updSt ≠ 4 ∧ s.updSt ≠ 5 ∨ s.hvlSlave = true → 
    ∃ t, exec (.revert i w) s = .next t ∧ t.get F.UPD_STAT_RESULT = 7 ∧ t.updSt = s.updSt ∧ t.upd = s.upd) ∧
  (∀ (s : State) (i : Initiator) (w : Word) (r : RegRow), s.takes i P.UPD 0x104 (withBits w 0 4 5) r = true → s.canonical = true →
    s.canonical = true → s.enabled P.UPD = true → 4 ≤ s.updSt → s.updSt ≤ 6 → s.upd.badCopy ≠ 0 → 
    ∃ t, exec (.recopy i w) s = .next t ∧ t.upd = { s.upd with badCopy := 0, copy := none } ∧ t.get F.UPD_STAT_COPY_FAIL = 0 ∧
    t.get F.UPD_STAT_RESULT = 0) ∧
  (∀ (s : State) (i : Initiator) (w : Word) (r : RegRow), s.takes i P.UPD 0x104 (withBits w 0 4 5) r = true → s.canonical = true →
    s.canonical = true → s.enabled P.UPD = true → s.updSt < 4 ∨ 6 < s.updSt ∨ s.upd.badCopy = 0 → 
    ∃ t, exec (.recopy i w) s = .next t ∧ t.get F.UPD_STAT_RESULT = 7 ∧ t.upd = s.upd ∧ t.updSt = s.updSt) ∧
  (∀ (s : State) (i : Initiator) (w : Word) (k : Core) (r : RegRow), s.takes i P.UPD 0x118 w r = true → s.canonical = true → s.canonical = true →
    s.enabled P.UPD = true → coreOf i = some k → bitsOf w.toNat 16 16 = 0xC0DE → s.updSt = 4 → s.get F.UPD_PARTS_IN_SET &&& coreBit k ≠ 0 →
    s.get F.UPD_PARTS_EFFECT &&& coreBit k ≠ 0 → s.get F.UPD_PARTS_CONFIRMED &&& coreBit k = 0 →
    s.get F.UPD_PARTS_IN_SET &&& 0xFB &&& (255 - (s.get F.UPD_PARTS_CONFIRMED ||| coreBit k)) ≠ 0 → 
    ∃ t, exec (.confirm i w) s = .next t ∧ t.get F.UPD_STAT_STATE = 4 ∧ t.get F.UPD_PARTS_CONFIRMED = s.get F.UPD_PARTS_CONFIRMED ||| coreBit k ∧
    t.get F.UPD_PARTS_EFFECT = s.get F.UPD_PARTS_EFFECT) ∧
  (∀ (s : State) (i : Initiator) (w : Word) (k : Core) (r : RegRow), s.takes i P.UPD 0x118 w r = true → s.canonical = true → s.canonical = true →
    s.enabled P.UPD = true → coreOf i = some k → bitsOf w.toNat 16 16 = 0xC0DE → s.updSt = 4 → s.get F.UPD_PARTS_IN_SET &&& coreBit k ≠ 0 →
    s.get F.UPD_PARTS_EFFECT &&& coreBit k ≠ 0 → s.get F.UPD_PARTS_CONFIRMED &&& coreBit k = 0 →
    s.get F.UPD_PARTS_IN_SET &&& (255 - (s.get F.UPD_PARTS_CONFIRMED ||| coreBit k)) = 0 →
    s.get F.UPD_PARTS_IN_SET &&& (255 - s.get F.UPD_PARTS_EFFECT) = 0 → 
    ∃ t, exec (.confirm i w) s = .next t ∧ (s.get F.UPD_PARTS_IN_SET &&& (255 - s.upd.copied % 256) ≠ 0 → t.updSt = 6) ∧
    (s.get F.UPD_PARTS_IN_SET &&& (255 - s.upd.copied % 256) = 0 → t.updSt = 0) ∧ t.upd.window = none ∧
    (t.reg (Reg.IRQ_RAW (P.UPD))).toNat.testBit (4) = true) ∧
  (∀ (s : State) (i : Initiator) (w : Word) (k : Core) (r : RegRow), s.takes i P.UPD 0x11C w r = true → s.canonical = true → s.canonical = true →
    s.enabled P.UPD = true → coreOf i = some k → k ≠ Core.scc → bitsOf w.toNat 16 16 = 0xC0DE → s.updSt = 4 → s.upd.hands.contains k = true →
    s.boot.restarts.contains k = false → 
    ∃ t, exec (.handover i w) s = .next t ∧ t.upd.hands.contains k = false ∧ t.cores.released.contains k = false ∧
    t.boot.restarts.contains k = true ∧ t.get (domField k) = 0) ∧
  (∀ (s : State) (k : Core), s.canonical = true → k ≠ Core.scc → s.updSt = 4 → s.upd.hands.contains k = true → s.boot.restarts.contains k = false →
    s.elapsed s.upd.committed (max 1 (s.get F.UPD_CFG_HANDOVER_WAIT) * 10 * 8388608 / 1000) = true → 
    ∃ t, exec (.handoverWait k) s = .next t ∧ t.upd.hands.contains k = false ∧ t.cores.released.contains k = false ∧
    t.boot.restarts.contains k = true ∧ t.get (domField k) = 0 ∧ t.get F.UPD_STAT_FORCED = 1)

/-- COMMIT_SUSPEND, COMMIT_POINT, HOME_COPY_SECTOR, ENGINE_CHANGEOVER, ENGINE_ACCEPT, QUIET_LIMIT, CONFIRM_WINDOW, FALLBACK (20 R451 to R454, R457 to
R461): at AT the set is committed and its engine parts remapped; a failed home copy is shown; an engine at its quiet point swaps halves and back when
its new code does not accept; a fallback is due at each limit and asks for the reset. -/
def Obligations.UpdateEventsComplete : Prop :=
  (∀ (s : State) (o : FlashOp), s.canonical = true → s.updSt = 3 → s.flash.op = some o → o.result = none → s.enabled P.FLC = true →
    s.on F.FLC_STAT_AUTO_SUSP = false → s.flash.wantSw = false → s.on F.FLC_STAT_SW_SUSP = false →
    notBefore s.count (subTicks s.updAt (usTicks 100)) = true → 
    ∃ t, exec .commitSuspend s = .next t ∧ t.upd = { s.upd with held := true } ∧ t.flash.wantSw = true ∧ t.flash.op = s.flash.op ∧ t.updSt = 3) ∧
  (∀ (s : State), s.canonical = true → s.pwr.state = PowerState.active → s.updSt = 3 → notBefore s.count s.updAt = true → (s.upd.byMaster = true →
    s.hvlSlave = true) → (s.get F.UPD_PARTS_IN_SET).testBit 0 = true → 
    ∃ t, exec .commitPoint s = .next t ∧ t.get F.UPD_STAT_STATE = 4 ∧ t.upd.committed = s.count ∧ t.upd.hands.contains .apc = true ∧
    t.get F.UPD_PARTS_REMAPPED = s.get F.UPD_PARTS_IN_SET &&& 0xF8 ∧ t.upd.starts = 0 ∧ t.get F.UPD_PARTS_CONFIRMED &&& 7 = 0 ∧
    (s.enabled P.UPD = true → (t.reg (Reg.IRQ_RAW (P.UPD))).toNat.testBit (1) = true ∧ (t.reg (Reg.IRQ_RAW (P.UPD))).toNat.testBit (2) = true)) ∧
  (∀ (s : State), s.canonical = true → s.pwr.state = PowerState.active → s.updSt = 3 → notBefore s.count s.updAt = true → s.upd.byMaster = true →
    s.hvlSlave = false → 
    ∃ t, exec .commitPoint s = .next t ∧ t.get F.UPD_STAT_STATE = 2 ∧ t.get F.UPD_STAT_RESULT = 9 ∧ (s.enabled P.UPD = true →
    (t.reg (Reg.IRQ_RAW (P.UPD))).toNat.testBit (0) = true)) ∧
  (∀ (s : State) (y k : Nat), s.canonical = true → 4 ≤ s.updSt → s.updSt ≤ 6 → s.upd.fall = none → s.copyNext = some (y, k) → 
    ∃ t, exec (.homeCopySector false) s = .next t ∧ t.upd.copy = none ∧ t.upd.badCopy = s.upd.badCopy ||| 2 ^ (y - 1) ∧
    t.get F.UPD_STAT_COPY_FAIL = 1 ∧ t.get F.UPD_STAT_RESULT = 11 ∧ (s.enabled P.UPD = true → (t.reg (Reg.IRQ_RAW (P.UPD))).toNat.testBit (5) = true)) ∧
  (∀ (s : State) (y k off len n : Nat), s.canonical = true → 4 ≤ s.updSt → s.updSt ≤ 6 → s.upd.fall = none → s.copyNext = some (y, k) →
    s.stagedPart y = some (off, len) → (extentSectors (s.dirWord y 0) (s.dirWord y 1))[k]? = some n → s.isRetired (uSector n) = false →
    k + 1 < (extentSectors (s.dirWord y 0) (s.dirWord y 1)).length → 
    ∃ t, exec (.homeCopySector true) s = .next t ∧ t.upd.copy = some (y, k + 1) ∧ t.updSt = s.updSt ∧
    t.get F.UPD_STAT_COPY_FAIL = s.get F.UPD_STAT_COPY_FAIL) ∧
  (∀ (s : State) (e : Engine) (block : List Byte), s.canonical = true → s.updSt = 4 → s.upd.fall = none → s.pwr.radioUp = true →
    engPresent s.variant (engIx e) = true → s.engRuns (engIx e) = true → (s.get F.UPD_PARTS_IN_SET).testBit (engineType (engIx e) - 1) = true →
    (s.get F.UPD_PARTS_EFFECT).testBit (engineType (engIx e) - 1) = false → s.upd.accepted.contains (engIx e) = false →
    s.upd.swaps.contains (engIx e) = false → s.engQuiet (engIx e) = true → 
    ∃ t, exec (.engineChangeover e block) s = .next t ∧ (t.engine (engIx e)).half = 1 - (s.engine (engIx e)).half ∧
    (t.engine (engIx e)).img = (s.engine (engIx e)).shadow ∧ t.upd.swaps = s.upd.swaps ++ [(engIx e)] ∧
    (t.engine (engIx e)).block = block.take 256 ∧ t.regs = s.regs) ∧
  (∀ (s : State) (e : Engine), s.canonical = true → s.eng.length = 8 → s.upd.swaps.contains (engIx e) = true → s.upd.fall = none → 
    ∃ t, exec (.engineAccept e false) s = .next t ∧ t.upd.fall = some 2 ∧ (t.engine (engIx e)).half = 1 - (s.engine (engIx e)).half ∧
    t.upd.swaps = s.upd.swaps.filter (· != (engIx e)) ∧ t.regs = s.regs) ∧
  (∀ (s : State) (e : Engine), s.canonical = true → s.upd.swaps.contains (engIx e) = true →
    ((typeEngines s.variant (engineType (engIx e))).all (s.upd.accepted ++ [(engIx e)]).contains) = true → s.updSt = 4 →
    s.get F.UPD_PARTS_IN_SET &&& 3 &&& (255 - s.get F.UPD_PARTS_CONFIRMED) ≠ 0 → 
    ∃ t, exec (.engineAccept e true) s = .next t ∧ t.upd.accepted = s.upd.accepted ++ [(engIx e)] ∧
    (t.get F.UPD_PARTS_EFFECT).testBit (engineType (engIx e) - 1) = true ∧
    (t.get F.UPD_PARTS_CONFIRMED).testBit (engineType (engIx e) - 1) = true ∧ t.upd.swaps = s.upd.swaps.filter (· != (engIx e)) ∧
    t.get F.UPD_STAT_STATE = 4) ∧
  (∀ (s : State), s.updSt = 4 → s.get F.UPD_PARTS_IN_SET &&& 0xFB &&& (255 - s.get F.UPD_PARTS_EFFECT) ≠ 0 →
    s.elapsed s.upd.committed (max 1 (s.get F.UPD_CFG_QUIET_LIMIT) * 8388608) = true → s.upd.fall = none → 
    ∃ t, exec .quietLimit s = .next t ∧ t = { s with upd := { s.upd with fall := some 6 } }) ∧
  (∀ (s : State) (w : Nat), s.upd.window = some w → s.updSt = 4 → s.elapsed w (max 1 (s.get F.UPD_CFG_CONFIRM_WINDOW) * 8388608) = true →
    s.upd.fall = none → 
    ∃ t, exec .confirmWindow s = .next t ∧ t = { s with upd := { s.upd with fall := some 1 } }) ∧
  (∀ (s : State) (c : Nat), s.canonical = true → s.upd.fall = some c → c < 8 → s.updSt = 4 ∨ s.updSt = 5 → s.resetReq = none → 
    ∃ t, exec .fallback s = .next t ∧ t.get F.UPD_STAT_STATE = 7 ∧ t.get F.UPD_STAT_CAUSE = c ∧ t.resetReq = some 6 ∧ t.upd.fall = none ∧
    t.upd.window = none)

/-- FAULT, RETRY, RECORD_REWRITE_DONE, RETIRE, UNRETIRE, CLEAR_COUNT, REWRITE, LOG (21 R464 to R468, R472, R475, R481): a fault raises FAULT, a
configuration fault also its own flag; a retry by the block goes on or ends; FLT.CMD retires a unit, returns one that has passed its test, clears a
count, asks for a rewrite, with the result codes of FLT.RES; a read of FLT.LOG takes the oldest record. -/
def Obligations.FaultCommandsComplete : Prop :=
  (∀ (s : State) (src : FaultSource), s.canonical = true → unitPresent s.variant src.unit = true → faultLegal src.unit src.cls = true →
    faultPlace src = true → s.enabled P.FLT = true → 
    ∃ t, exec (.fault src) s = .next t ∧ (t.reg (Reg.IRQ_RAW (P.FLT))).toNat.testBit (0) = true) ∧
  (∀ (s : State) (src : FaultSource), s.canonical = true → unitPresent s.variant src.unit = true → faultLegal src.unit src.cls = true →
    faultPlace src = true → s.enabled P.FLT = true → src.cls = .config → s.underTest src.unit = false → s.flt.log.length < 16 → src.unit < 0x10000 → 
    ∃ t, exec (.fault src) s = .next t ∧ (t.reg (Reg.IRQ_RAW (P.FLT))).toNat.testBit (3) = true ∧
    (t.flt.log.map (fun (x : LogRec) => x.word)) = s.flt.log.map (fun (x : LogRec) => x.word) ++ [0xA0000000 + src.unit] ∧
    (s.on F.FLT_CFG_CFG_RESET = true → t.flt.resetReq = true)) ∧
  (∀ (s : State) (src : FaultSource), s.canonical = true → unitPresent s.variant src.unit = true → faultLegal src.unit src.cls = true →
    faultPlace src = true → s.enabled P.FLT = true → src.cls = .permanent → retirable src.unit = true → s.isRetired src.unit = false →
    0 < s.get F.FLT_CFG_RETIRE_N → 
    ∃ t, exec (.fault src) s = .next t ∧ (t.reg (Reg.IRQ_RAW (P.FLT))).toNat.testBit (1) = true ∧ t.isRetired src.unit = true ∧
    t.get F.FLT_STAT_RECORD_BUSY = 1) ∧
  (∀ (s : State) (src : FaultSource), s.canonical = true → src.unit = 0x1400 → src.cls = .memory → src.addr < s.timeline.length →
    (s.ent src.addr).state = EntryState.armed ∨ (s.ent src.addr).state = EntryState.wait → 
    ∃ t, exec (.fault src) s = .next t ∧ (t.ent src.addr).state = EntryState.empty ∧ (t.ent src.addr).last = 6 ∧ t.mem = s.mem) ∧
  (∀ (s : State) (u : Nat) (ok : Bool) (p : HvlPort) (k : SentPacket), s.canonical = true → u / 256 = 4 ∨ u / 256 = 0x17 →
    p = (if u % 256 / 2 = 0 then HvlPort.up else HvlPort.dn) → (s.hop p).up = true → (s.hop p).training = false →
    (s.hop p).kept.find? (fun (x : SentPacket) => x.waiting) = some k → 
    ∃ t, exec (.retry u ok) s = .next t ∧
    (t.hop p).kept = (s.hop p).kept.map (fun (x : SentPacket) => if x.seq == k.seq then { x with waiting := false } else x) ∧
    (t.hop p).line = (s.hop p).line ++ packetChars k.pkt true ∧
    t.get F.HVL_ERRS_RETRIES = min (s.get F.HVL_ERRS_RETRIES + 1) (2 ^ F.HVL_ERRS_RETRIES.width - 1)) ∧
  (∀ (s : State) (u n : Nat), s.canonical = true → s.eng.length = 8 → u / 256 = 0x14 → u % 256 < 4 →
    n = (if u % 256 < 2 then u % 256 else u % 256 + 4) → s.engHeld n = true → 
    ∃ t, exec (.retry u true) s = .next t ∧ t.engHeld n = false ∧ (t.engine n).run = (s.engine n).run ∧ t.count = s.count) ∧
  (∀ (s : State), s.canonical = true → 2 ≤ s.retryOf uRx → 
    ∃ t, exec (.retry uRx true) s = .next t ∧ t.get F.SYN_SCS_STAT_LOCK = 1 ∧ t.get F.SYN_SCS_STAT_SETTLING = 0 ∧ t.retryOf uRx = 0) ∧
  (∀ (s : State), s.canonical = true → 2 ≤ s.retryOf uCrs → 
    ∃ t, exec (.retry uCrs true) s = .next t ∧ t.get F.SYN_CRS_STAT_LOCK = 1 ∧ t.get F.SYN_CRS_STAT_SETTLING = 0) ∧
  (∀ (s : State) (fails : List Nat), s.canonical = true → s.flt.running = true → 
    ∃ t, exec (.recordRewriteDone fails) s = .next t ∧ t.flt.seq = (s.flt.seq + 1) % 2 ^ 32 ∧ t.flt.running = s.flt.waiting ∧
    t.flt.waiting = false ∧ t.get F.FLT_STAT_RECORD_BUSY = boolNat s.flt.waiting ∧
    t.get F.FLT_STAT_SEQ = (s.flt.seq + 1) % 2 ^ F.FLT_STAT_SEQ.width ∧ t.pageSt P.FLT = boolNat s.flt.waiting ∧ (s.flt.cmdWaits = 1 →
    fails = [] → t.reg Reg.FLT_RES = 0) ∧ (s.flt.cmdWaits = 1 → 1 ∈ fails → t.reg Reg.FLT_RES = 5)) ∧
  (∀ (s : State) (i : Initiator) (u : Nat) (r : RegRow), s.takes i P.FLT 0x114 (BitVec.ofNat 32 (0x10000000 + u % 0x10000)) r = true →
    s.canonical = true → s.canonical = true → s.enabled P.FLT = true → u < 0x10000 → s.on F.FLT_RES_BUSY = false →
    unitPresent s.variant u = true → retirable u = true → s.isRetired u = false → 
    ∃ t, exec (.retire i u) s = .next t ∧ t.isRetired u = true ∧ t.reg Reg.FLT_RES = 0 ∧ (t.reg (Reg.IRQ_RAW (P.FLT))).toNat.testBit (1) = true ∧
    t.get F.FLT_STAT_RECORD_BUSY = 1 ∧ t.passed.contains u = false) ∧
  (∀ (s : State) (i : Initiator) (u : Nat) (r : RegRow), s.takes i P.FLT 0x114 (BitVec.ofNat 32 (0x10000000 + u % 0x10000)) r = true →
    s.canonical = true → s.canonical = true → s.enabled P.FLT = true → u < 0x10000 → s.on F.FLT_RES_BUSY = false →
    unitPresent s.variant u = true → retirable u = false → 
    ∃ t, exec (.retire i u) s = .next t ∧ t.reg Reg.FLT_RES = 2 ∧ t.flt = s.flt) ∧
  (∀ (s : State) (i : Initiator) (u : Nat) (r : RegRow), s.takes i P.FLT 0x114 (BitVec.ofNat 32 (0x10000000 + u % 0x10000)) r = true →
    s.canonical = true → s.canonical = true → s.enabled P.FLT = true → u < 0x10000 → s.on F.FLT_RES_BUSY = false → unitPresent s.variant u = false → 
    ∃ t, exec (.retire i u) s = .next t ∧ t.reg Reg.FLT_RES = 1 ∧ t.flt = s.flt) ∧
  (∀ (s : State) (i : Initiator) (u : Nat) (r : RegRow), s.takes i P.FLT 0x114 (BitVec.ofNat 32 (0x10000000 + u % 0x10000)) r = true →
    s.canonical = true → s.canonical = true → s.enabled P.FLT = true → u < 0x10000 → s.on F.FLT_RES_BUSY = true → 
    ∃ t, exec (.retire i u) s = .next t ∧ t.get F.FLT_RES_RESULT = 4 ∧ t.flt = s.flt) ∧
  (∀ (s : State) (i : Initiator) (u : Nat) (r : RegRow), s.takes i P.FLT 0x114 (BitVec.ofNat 32 (0x20000000 + u % 0x10000)) r = true →
    s.canonical = true → s.canonical = true → s.enabled P.FLT = true → u < 0x10000 → s.on F.FLT_RES_BUSY = false →
    unitPresent s.variant u = true → s.passed.contains u = true → 
    ∃ t, exec (.unretire i u) s = .next t ∧ t.isRetired u = false ∧ t.reg Reg.FLT_RES = 0 ∧ t.faultTimes u = [] ∧ t.get F.FLT_STAT_RECORD_BUSY = 1) ∧
  (∀ (s : State) (i : Initiator) (u : Nat) (r : RegRow), s.takes i P.FLT 0x114 (BitVec.ofNat 32 (0x20000000 + u % 0x10000)) r = true →
    s.canonical = true → s.canonical = true → s.enabled P.FLT = true → u < 0x10000 → s.on F.FLT_RES_BUSY = false →
    unitPresent s.variant u = true → s.passed.contains u = false → 
    ∃ t, exec (.unretire i u) s = .next t ∧ t.reg Reg.FLT_RES = 3 ∧ t.flt = s.flt) ∧
  (∀ (s : State) (i : Initiator) (u : Nat) (r : RegRow), s.takes i P.FLT 0x114 (BitVec.ofNat 32 (0x30000000 + u % 0x10000)) r = true →
    s.canonical = true → s.canonical = true → s.enabled P.FLT = true → u < 0x10000 → s.on F.FLT_RES_BUSY = false → unitPresent s.variant u = true → 
    ∃ t, exec (.clearCount i u) s = .next t ∧ t.faultTimes u = [] ∧ t.reg Reg.FLT_RES = 0) ∧
  (∀ (s : State) (i : Initiator) (u : Nat) (r : RegRow), s.takes i P.FLT 0x114 (BitVec.ofNat 32 (0x40000000 + u % 0x10000)) r = true →
    s.canonical = true → s.canonical = true → s.enabled P.FLT = true → u < 0x10000 → s.on F.FLT_RES_BUSY = false → 
    ∃ t, exec (.rewrite i u) s = .next t ∧ t.reg Reg.FLT_RES = 0x80000000 ∧ t.flt.running = true ∧ t.get F.FLT_STAT_RECORD_BUSY = 1 ∧
    t.flt.waiting = (s.flt.running || s.flt.waiting)) ∧
  (∀ (s : State) (i : Initiator) (r : LogRec) (q : List LogRec), s.offers i P.FLT 0x10C = true → s.canonical = true → s.enabled P.FLT = true →
    s.flt.log = r :: q → 
    ∃ t, exec (.log i) s = .next t ∧ t.out.get i = (⟨BitVec.ofNat 32 r.word, .ok⟩ : BusAnswer) ∧ t.flt = { s.flt with log := q } ∧
    t.regI i Reg.FLT_LOG_T = BitVec.ofNat 32 r.time ∧ t.regs = s.regs) ∧
  (∀ (s : State) (i : Initiator), s.offers i P.FLT 0x10C = true → s.canonical = true → s.enabled P.FLT = true → s.flt.log = [] → 
    ∃ t, exec (.log i) s = .next t ∧ t.out.get i = (⟨0, .ok⟩ : BusAnswer) ∧ t.flt = s.flt)

/-- TEST, BST_ABORT, TEST_ISOLATION, TEST_DONE (22 R482, R483, R485, R486, R490, R491): a unit outside the table, in use or untestable is refused with its
code; a unit whose condition holds is taken at once or when the condition holds; a test ends with PASS or FAIL, a pass marks a retirable unit fit to
return, a failure retires it; ABORT ends a test without a verdict. -/
def Obligations.SelfTestCommandsComplete : Prop :=
  (∀ (s : State) (i : Initiator) (u : Nat) (r : RegRow), s.takes i P.BST 0x100 (BitVec.ofNat 32 (0x10000000 + u % 0x10000)) r = true →
    s.canonical = true → s.canonical = true → s.enabled P.BST = true → u < 0x10000 → s.bst = none → testable s.variant u = false → 
    ∃ t, exec (.test i u) s = .next t ∧ t.get F.BST_RES_RESULT = 3 ∧ t.bst = none ∧ (t.reg (Reg.IRQ_RAW (P.BST))).toNat.testBit (0) = true) ∧
  (∀ (s : State) (i : Initiator) (u : Nat) (e : BstEnd) (r : RegRow), s.takes i P.BST 0x100 (BitVec.ofNat 32 (0x10000000 + u % 0x10000)) r = true →
    s.canonical = true → s.canonical = true → s.enabled P.BST = true → u < 0x10000 → s.bst = none → testable s.variant u = true →
    s.isoRefused u = some e → 
    ∃ t, exec (.test i u) s = .next t ∧ t.get F.BST_RES_RESULT = e.code ∧ t.bst = none ∧ (t.reg (Reg.IRQ_RAW (P.BST))).toNat.testBit (0) = true) ∧
  (∀ (s : State) (i : Initiator) (u : Nat) (r : RegRow), s.takes i P.BST 0x100 (BitVec.ofNat 32 (0x10000000 + u % 0x10000)) r = true →
    s.canonical = true → s.canonical = true → s.enabled P.BST = true → u < 0x10000 → s.bst = none → testable s.variant u = true →
    s.isoRefused u = none → s.isoReady u = true → (u / 256 = 1 → (s.slot (.slice (u % 256))).desc = none) ∧ (u / 256 = 2 →
    (s.slot (.lane (u % 256))).desc = none) → 
    ∃ t, exec (.test i u) s = .next t ∧ t.bst = some (⟨u, true⟩ : BstRun) ∧ t.reg Reg.BST_RES = BitVec.ofNat 32 (0x80000000 + u) ∧ t.pageSt P.BST = 2) ∧
  (∀ (s : State) (i : Initiator) (u : Nat) (r : RegRow), s.takes i P.BST 0x100 (BitVec.ofNat 32 (0x10000000 + u % 0x10000)) r = true →
    s.canonical = true → s.canonical = true → s.enabled P.BST = true → u < 0x10000 → s.bst = none → testable s.variant u = true →
    s.isoRefused u = none → s.isoReady u = false → 
    ∃ t, exec (.test i u) s = .next t ∧ t.bst = some (⟨u, false⟩ : BstRun) ∧ t.reg Reg.BST_RES = BitVec.ofNat 32 (0xC0000000 + u) ∧ t.pageSt P.BST = 1) ∧
  (∀ (s : State) (i : Initiator) (u : Nat) (r : RegRow), s.takes i P.BST 0x100 (BitVec.ofNat 32 (0x10000000 + u % 0x10000)) r = true →
    s.canonical = true → s.canonical = true → s.enabled P.BST = true → u < 0x10000 → s.bst ≠ none → 
    ∃ t, exec (.test i u) s = .next t ∧ t.get F.BST_RES_RESULT = 6 ∧ t.bst = s.bst) ∧
  (∀ (s : State) (i : Initiator) (b : BstRun) (r : RegRow), s.takes i P.BST 0x100 0x20000000 r = true → s.canonical = true → s.canonical = true →
    s.enabled P.BST = true → s.bst = some b → 
    ∃ t, exec (.bstAbort i) s = .next t ∧ t.bst = none ∧ t.get F.BST_RES_RESULT = 5 ∧ (t.reg (Reg.IRQ_RAW (P.BST))).toNat.testBit (0) = true ∧
    t.passed = s.passed) ∧
  (∀ (s : State) (b : BstRun), s.canonical = true → s.bst = some b → b.running = false → s.isoRefused b.unit = none → s.isoReady b.unit = true → 
    ∃ t, exec .testIsolation s = .next t ∧ t.bst = some (⟨b.unit, true⟩ : BstRun) ∧
    t.reg Reg.BST_RES = BitVec.ofNat 32 (0x80000000 + b.unit % 65536) ∧ t.pageSt P.BST = 2) ∧
  (∀ (s : State) (b : BstRun) (r : BstEnd), s.canonical = true → s.bst = some b → b.running = false → s.isoRefused b.unit = some r → 
    ∃ t, exec .testIsolation s = .next t ∧ t.bst = none ∧ t.get F.BST_RES_RESULT = r.code ∧ t.pageSt P.BST = 0) ∧
  (∀ (s : State) (b : BstRun), s.canonical = true → s.bst = some b → b.running = false → s.isoRefused b.unit = none → s.isoReady b.unit = false → 
    ∃ t, exec .testIsolation s = .next t ∧ t = s) ∧
  (∀ (s : State) (b : BstRun) (sig : Word), s.canonical = true → s.bst = some b → b.running = true →
    b.unit / 256 = 1 ∨ b.unit / 256 = 2 ∨ b.unit / 256 = 0x12 ∨ b.unit / 256 = 0x14 → 
    ∃ t, exec (.testDone (.logic sig true)) s = .next t ∧ t.bst = none ∧ t.get F.BST_RES_RESULT = 0 ∧ t.pageSt P.BST = 0 ∧
    (retirable b.unit = true → t.passed.contains b.unit = true) ∧ (s.enabled P.BST = true →
    (t.reg (Reg.IRQ_RAW (P.BST))).toNat.testBit (0) = true) ∧ t.reg Reg.BST_SIG = sig) ∧
  (∀ (s : State) (b : BstRun) (sig : Word), s.canonical = true → s.bst = some b → b.running = true → unitPresent s.variant b.unit = true →
    b.unit / 256 = 1 ∨ b.unit / 256 = 2 ∨ b.unit / 256 = 0x12 ∨ b.unit / 256 = 0x14 → 
    ∃ t, exec (.testDone (.logic sig false)) s = .next t ∧ t.bst = none ∧ t.get F.BST_RES_RESULT = 1 ∧ (s.enabled P.BST = true →
    (t.reg (Reg.IRQ_RAW (P.BST))).toNat.testBit (1) = true) ∧ (s.enabled P.FLT = true → (t.reg (Reg.IRQ_RAW (P.FLT))).toNat.testBit (0) = true) ∧
    (retirable b.unit = true → 0 < s.get F.FLT_CFG_RETIRE_N → t.isRetired b.unit = true) ∧ t.reg Reg.BST_SIG = sig) ∧
  (∀ (s : State) (b : BstRun), s.canonical = true → s.bst = some b → b.running = true → b.unit / 256 = 3 ∨ b.unit / 256 = 4 → 
    ∃ t, exec (.testDone (.analogue true)) s = .next t ∧ t.bst = none ∧ t.get F.BST_RES_RESULT = 0 ∧ t.pageSt P.BST = 0 ∧
    (retirable b.unit = true → t.passed.contains b.unit = true) ∧ (s.enabled P.BST = true → (t.reg (Reg.IRQ_RAW (P.BST))).toNat.testBit (0) = true)) ∧
  (∀ (s : State) (b : BstRun), s.canonical = true → s.bst = some b → b.running = true → unitPresent s.variant b.unit = true →
    b.unit / 256 = 3 ∨ b.unit / 256 = 4 → 
    ∃ t, exec (.testDone (.analogue false)) s = .next t ∧ t.bst = none ∧ t.get F.BST_RES_RESULT = 1 ∧ (s.enabled P.BST = true →
    (t.reg (Reg.IRQ_RAW (P.BST))).toNat.testBit (1) = true) ∧ (s.enabled P.FLT = true → (t.reg (Reg.IRQ_RAW (P.FLT))).toNat.testBit (0) = true) ∧
    (retirable b.unit = true → 0 < s.get F.FLT_CFG_RETIRE_N → t.isRetired b.unit = true)) ∧
  (∀ (s : State) (b : BstRun), s.canonical = true → s.bst = some b → b.running = true → b.unit / 256 = 5 ∨ b.unit / 256 = 6 → 
    ∃ t, exec (.testDone (.memory none)) s = .next t ∧ t.bst = none ∧ t.get F.BST_RES_RESULT = 0 ∧ t.pageSt P.BST = 0 ∧ (retirable b.unit = true →
    t.passed.contains b.unit = true) ∧ (s.enabled P.BST = true → (t.reg (Reg.IRQ_RAW (P.BST))).toNat.testBit (0) = true)) ∧
  (∀ (s : State) (b : BstRun) (x : Word), s.canonical = true → s.bst = some b → b.running = true → unitPresent s.variant b.unit = true →
    b.unit / 256 = 5 ∨ b.unit / 256 = 6 → 
    ∃ t, exec (.testDone (.memory (some x))) s = .next t ∧ t.bst = none ∧ t.get F.BST_RES_RESULT = 1 ∧ (s.enabled P.BST = true →
    (t.reg (Reg.IRQ_RAW (P.BST))).toNat.testBit (1) = true) ∧ (s.enabled P.FLT = true → (t.reg (Reg.IRQ_RAW (P.FLT))).toNat.testBit (0) = true) ∧
    (retirable b.unit = true → 0 < s.get F.FLT_CFG_RETIRE_N → t.isRetired b.unit = true) ∧ t.reg Reg.BST_FAIL_ADDR = x)

/-- REC_ARM, FREEZE, MARK, POST_END, FROZEN, REPLAY, REPLAY_DONE, RPQ (22 R494, R496, R498, R499, R501, R502): arming starts a recording; a trigger starts
freezing with its cause and instant; a mark writes its record; the end of the POST interval and the scrub end the recording with its header; a replay
starts, or is refused with its reason, and its frames are read from their queue. The position in the sample stream is a free value (log entry 50). -/
def Obligations.RecorderCommandsComplete : Prop :=
  (∀ (s : State) (via : Via) (r : RegRow), s.reachesTask via P.REC 0x108 1 r 1 = true → s.canonical = true → s.enabled P.REC = true →
    s.pageSt P.REC ≠ 1 → s.pageSt P.REC ≠ 4 → 
    ∃ t, exec (.recArm via) s = .next t ∧ t.pageSt P.REC = 1 ∧ t.recorder.scrub = false ∧ t.recorder.trigAt = 0 ∧ t.count = s.count) ∧
  (∀ (s : State) (via : Via) (r : RegRow), s.reachesTask via P.REC 0x108 2 r 0 = true → s.canonical = true → s.enabled P.REC = true →
    s.pageSt P.REC = 1 → 
    ∃ t, exec (.freeze via) s = .next t ∧ t.pageSt P.REC = 2 ∧ t.get F.REC_STAT_CAUSE = (match via with | .bus _ => 1 | .task => 2) ∧
    t.recorder.trigAt = s.count ∧ t.recorder.scrub = (s.get F.REC_CFG_POST == 0) ∧ t.freeCtr = s.freeCtr + 1) ∧
  (∀ (s : State) (via : Via) (r : RegRow), s.reachesTask via P.REC 0x108 2 r 0 = true → s.canonical = true → s.pageSt P.REC ≠ 1 → 
    ∃ t, exec (.freeze via) s = .next t ∧ t.recorder = s.recorder ∧ t.pageSt P.REC = s.pageSt P.REC) ∧
  (∀ (s : State) (i : Initiator) (w : Word) (r : RegRow), s.takes i P.REC 0x110 w r = true → s.canonical = true → s.canonical = true →
    s.enabled P.REC = true → s.recActive = true → s.recorder.wr < s.ctrlSlots → 
    ∃ t, exec (.mark i w) s = .next t ∧ (t.byte (0x20400040 + 16 * s.recorder.wr + 4)).toNat = 0x10 ∧
    t.memNat (0x20400040 + 16 * s.recorder.wr) 4 = s.count % 2 ^ 32 ∧ t.memNat (0x20400040 + 16 * s.recorder.wr + 8) 4 = w.toNat ∧
    (s.recorder.nrec < s.ctrlSlots → t.recorder.nrec = s.recorder.nrec + 1) ∧ (s.recorder.wr + 1 < s.ctrlSlots → t.recorder.wr = s.recorder.wr + 1)) ∧
  (∀ (s : State), s.pageSt P.REC = 2 → 
    ∃ t, exec .postEnd s = .next t ∧ t = { s with recorder := { s.recorder with scrub := true } }) ∧
  (∀ (s : State) (samples : List Byte) (bad : List Nat), s.canonical = true → s.pageSt P.REC = 2 → s.recorder.scrub = true → 
    ∃ t, exec (.frozen samples bad) s = .next t ∧ t.pageSt P.REC = 3 ∧ t.memNat 0x20400000 4 = 0x5A4E5245 ∧ t.recorder = s.recorder ∧
    (s.enabled P.REC = true → (t.reg (Reg.IRQ_RAW (P.REC))).toNat.testBit (0) = true)) ∧
  (∀ (s : State) (i : Initiator) (r : RegRow), s.takes i P.REC 0x108 4 r = true → s.canonical = true → s.canonical = true → s.enabled P.REC = true →
    s.replayRefused = 0 → 
    ∃ t, exec (.replay i) s = .next t ∧ t.pageSt P.REC = 4 ∧ t.recorder = s.recorder ∧ t.mem = s.mem) ∧
  (∀ (s : State) (i : Initiator) (r : RegRow), s.takes i P.REC 0x108 4 r = true → s.canonical = true → s.canonical = true → s.enabled P.REC = true →
    s.replayRefused ≠ 0 → 
    ∃ t, exec (.replay i) s = .next t ∧ t.get F.REC_STAT_REPLAY_RES = s.replayRefused ∧ t.pageSt P.REC = s.pageSt P.REC ∧ t.recorder = s.recorder) ∧
  (∀ (s : State) (frames : List ReplayFrame), s.canonical = true → s.pageSt P.REC = 4 → 
    ∃ t, exec (.replayDone frames) s = .next t ∧ t.pageSt P.REC = 3 ∧ t.get F.REC_STAT_REPLAY_RES = 0 ∧ (s.enabled P.REC = true →
    (t.reg (Reg.IRQ_RAW (P.REC))).toNat.testBit (1) = true) ∧
    t.recorder.queue.length ≤ s.recorder.queue.length + frames.length + s.recorder.frames.length) ∧
  (∀ (s : State) (r : RecFrame), s.canonical = true → s.pageSt P.REC = 4 → s.recorder.frames = [r] → r.plan = none → s.replayHolds r = true →
    s.imgDiffers = false → (s.memNat 0x20400007 1).testBit 2 = false → s.owners.length = 512 →
    blocksFor (r.bytes.length + r.trail.length + 32) ≤ s.freeCount → 
    ∃ t, exec (.replayDone []) s = .next t ∧ t.pageSt P.REC = 3 ∧ ∃ h, t.recorder.queue = s.recorder.queue ++ [(h, r.stage % 8)]) ∧
  (∀ (s : State) (i : Initiator) (b st : Nat) (q : List (Nat × Nat)), s.offers i P.REC 0x114 = true → s.canonical = true → s.enabled P.REC = true →
    s.recorder.queue = (b, st) :: q → 
    ∃ t, exec (.rpq i) s = .next t ∧ t.out.get i = (⟨BitVec.ofNat 32 (st * 2 ^ 16 + 0x8000 + b), .ok⟩ : BusAnswer) ∧
    t.recorder = { s.recorder with queue := q }) ∧
  (∀ (s : State) (i : Initiator), s.offers i P.REC 0x114 = true → s.canonical = true → s.recorder.queue = [] → 
    ∃ t, exec (.rpq i) s = .next t ∧ t.out.get i = (⟨0, .ok⟩ : BusAnswer) ∧ t.recorder = s.recorder)

/-- What events of the receiver, the transmitter, the synthesisers and the radio's controller leave as it was (03 R91; 04 R118; 05 R120 to R139; 06 R140
to R169): every part of the state that is not named and every register outside the named pages or registers keep their values; what the named ones
become, the completion statements say. -/
def Obligations.RadioEventFrames : Prop :=
  (∀ (s t : State), s.canonical = true → exec .scsSettled s = .next t → s.onlyChanges t [] [] [Reg.SYN_SCS_STAT]) ∧
  (∀ (s t : State), s.canonical = true → exec .crsLock s = .next t → s.onlyChanges t [] [] [Reg.SYN_CRS_STAT]) ∧
  (∀ (s t : State), s.canonical = true → exec .whiffCaptureStart s = .next t →
    s.onlyChanges t [.mem, .radio, .link, .buffers, .cascade, .events, .faults] [P.RFE, P.SYN, P.RAD, P.CHN, P.NBD, P.OFD, P.FEC, P.LNK, P.FRM,
    P.REC] []) ∧
  (∀ (s t : State) (clipped : Bool), s.canonical = true → exec (.whiffCaptureEnd clipped) s = .next t →
    s.onlyChanges t [.radio, .mem, .faults] [P.RFE] []) ∧
  (∀ (s t : State) (bins : List Half) (descs : List (Byte × Half)), s.canonical = true → exec (.whiffDone bins descs) s = .next t →
    s.onlyChanges t [.mem, .radio, .link, .buffers, .cascade, .events, .faults] [P.RFE, P.SYN, P.RAD, P.CHN, P.NBD, P.OFD, P.FEC, P.LNK, P.REC] []) ∧
  (∀ (s t : State) (peak : Nat) (rms : Nat) (clipped : Bool), s.canonical = true → exec (.agcWindowEnd peak rms clipped) s = .next t →
    s.onlyChanges t [.mem, .radio, .faults] [P.RFE] []) ∧
  (∀ (s t : State), s.canonical = true → exec .agcHoldExpiry s = .next t → s.onlyChanges t [.mem, .radio, .faults] [P.RFE] []) ∧
  (∀ (s t : State), s.canonical = true → exec .receiverRunning s = .next t → s.onlyChanges t [] [P.RFE] []) ∧
  (∀ (s t : State), s.canonical = true → exec .scsUnlock s = .next t →
    s.onlyChanges t [.mem, .radio, .link, .buffers, .cascade, .events, .faults] [P.RFE, P.RTX, P.SYN, P.RAD, P.CHN, P.NBD, P.OFD, P.FEC, P.LNK,
    P.HVL, P.FLT, P.REC] []) ∧
  (∀ (s t : State) (ok : Bool), s.canonical = true → exec (.scsRelock ok) s = .next t →
    s.onlyChanges t [.mem, .radio, .link, .buffers, .cascade, .events, .faults] [P.RFE, P.RTX, P.SYN, P.RAD, P.CHN, P.NBD, P.OFD, P.FEC, P.LNK,
    P.HVL, P.FLT, P.REC] []) ∧
  (∀ (s t : State), s.canonical = true → exec .crsUnlock s = .next t →
    s.onlyChanges t [.mem, .radio, .link, .buffers, .events, .faults] [P.RTX, P.SYN, P.RAD, P.NBD, P.OFD, P.LNK, P.HVL, P.FLT, P.REC] []) ∧
  (∀ (s t : State) (ok : Bool), s.canonical = true → exec (.crsRelock ok) s = .next t →
    s.onlyChanges t [.mem, .radio, .link, .buffers, .cascade, .events, .faults] [P.RFE, P.RTX, P.SYN, P.RAD, P.CHN, P.NBD, P.OFD, P.FEC, P.LNK,
    P.HVL, P.FLT, P.REC] []) ∧
  (∀ (s t : State), s.canonical = true → exec .rampUpStart s = .next t → s.onlyChanges t [.radio] [] []) ∧
  (∀ (s t : State), s.canonical = true → exec .rampDownEnd s = .next t →
    s.onlyChanges t [.mem, .radio, .link, .buffers, .events, .faults] [P.CLK, P.RFE, P.RTX, P.SYN, P.RAD, P.CHN, P.NBD, P.OFD, P.FEC, P.LNK, P.REC] []) ∧
  (∀ (s t : State), s.canonical = true → exec .onAir s = .next t →
    s.onlyChanges t [.mem, .radio, .link, .buffers, .events, .faults] [P.RTX, P.SYN, P.RAD, P.NBD, P.OFD, P.LNK, P.HVL, P.FLT, P.REC] []) ∧
  (∀ (s t : State) (det : Option Int), s.canonical = true → exec (.frameTxEnd det) s = .next t →
    s.onlyChanges t [.mem, .radio, .link, .buffers, .cascade, .events, .faults] [P.RFE, P.RTX, P.SYN, P.RAD, P.NBD, P.OFD, P.LNK, P.HVL, P.FLT,
    P.REC] []) ∧
  (∀ (s t : State) (round : Option Sense), s.canonical = true → exec (.txSequenceStart round) s = .next t →
    s.onlyChanges t [.mem, .keys, .radio, .link, .buffers, .cascade, .events, .faults] [P.CLK, P.SEC, P.RFE, P.RTX, P.SYN, P.RAD, P.CHN, P.NBD,
    P.OFD, P.FEC, P.LNK, P.FRM, P.HVL, P.FLT, P.REC] (if round.isSome then [Reg.IRQ_RAW P.TSN, Reg.TSN_STAT, Reg.TSN_LIVE] else [])) ∧
  (∀ (s t : State), s.canonical = true → exec .underrun s = .next t →
    s.onlyChanges t [.mem, .radio, .link, .buffers, .events, .faults] [P.RTX, P.SYN, P.RAD, P.LNK, P.REC] []) ∧
  (∀ (s t : State), s.canonical = true → exec .ilim s = .next t → s.onlyChanges t [.radio] [] [Reg.IRQ_RAW P.RTX, Reg.RTX_TX_STAT]) ∧
  (∀ (s t : State) (underrun : Bool), s.canonical = true → exec (.ackFail underrun) s = .next t →
    s.onlyChanges t [.mem, .radio, .link, .buffers, .cascade, .events, .faults] [P.RFE, P.RTX, P.SYN, P.RAD, P.CHN, P.NBD, P.OFD, P.FEC, P.LNK,
    P.REC] []) ∧
  (∀ (s t : State), s.canonical = true → exec .antSelExit s = .next t →
    s.onlyChanges t [.mem, .radio, .link, .buffers, .events, .faults] [P.CLK, P.RFE, P.SYN, P.RAD, P.CHN, P.NBD, P.OFD, P.FEC, P.LNK, P.REC] []) ∧
  (∀ (s t : State) (power : Int) (carrier : Bool), s.canonical = true → exec (.ccaWindowEnd power carrier) s = .next t →
    s.onlyChanges t [.mem, .radio, .link, .buffers, .cascade, .events, .faults] [P.RFE, P.SYN, P.RAD, P.CHN, P.NBD, P.OFD, P.FEC, P.LNK, P.REC] []) ∧
  (∀ (s t : State) (round : Option Sense), s.canonical = true → exec (.rcpSenseSample round) s = .next t →
    s.onlyChanges t [.radio] [] ([Reg.IRQ_RAW P.RAD, Reg.RAD_CAL_STAT] ++ if round.isSome then [Reg.IRQ_RAW P.TSN, Reg.TSN_STAT, Reg.TSN_LIVE] else
    [])) ∧
  (∀ (s t : State) (m : Sense), s.canonical = true → exec (.tsnRoundEnd m) s = .next t →
    s.onlyChanges t [.radio] [] [Reg.IRQ_RAW P.TSN, Reg.TSN_STAT, Reg.TSN_LIVE]) ∧
  (∀ (s t : State), s.canonical = true → exec .tsnSampleLatched s = .next t →
    s.onlyChanges t [.events] [] [Reg.IRQ_RAW P.TSN, Reg.PAGE_STAT P.TSN, Reg.TSN_SAMPLE]) ∧
  (∀ (s t : State), s.canonical = true → exec .autoCalStart s = .next t →
    s.onlyChanges t [.radio, .events] [P.SYN] [Reg.IRQ_RAW P.RAD, Reg.PAGE_STAT P.RAD, Reg.RAD_CAL_STAT, Reg.RAD_STATE, Reg.CLK_STAT]) ∧
  (∀ (s t : State) (hpGain : Half) (devErr : Byte), s.canonical = true → exec (.calStepDone hpGain devErr) s = .next t →
    s.onlyChanges t [.mem, .radio, .link, .events, .faults] [P.CLK, P.SYN, P.RAD, P.LNK, P.REC] []) ∧
  (∀ (s t : State), s.canonical = true → exec .turnRoundRxRelease s = .next t →
    s.onlyChanges t [.mem, .radio, .link, .events, .faults] [P.CLK, P.RAD, P.LNK, P.REC] []) ∧
  (∀ (s t : State) (slice : Nat) (power : Int), s.canonical = true → exec (.preambleDetect slice power) s = .next t → s.onlyChanges t [.radio] [] []) ∧
  (∀ (s t : State) (slice : Nat) (lo : Half) (hi : Half) (rssi : Int) (phase : Byte), s.canonical = true →
    exec (.syncMatch slice lo hi rssi phase) s = .next t →
    s.onlyChanges t [.mem, .radio, .link, .buffers, .cascade, .events, .faults] [P.RFE, P.SYN, P.RAD, P.CHN, P.NBD, P.OFD, P.FEC, P.LNK, P.FRM,
    P.REC] []) ∧
  (∀ (s t : State) (slice : Nat), s.canonical = true → exec (.syncSearchTimeout slice) s = .next t →
    s.onlyChanges t [.mem, .radio, .link, .buffers, .cascade, .events, .faults] [P.RFE, P.SYN, P.RAD, P.CHN, P.NBD, P.OFD, P.FEC, P.LNK, P.REC] []) ∧
  (∀ (s t : State) (slice : Nat) (hdr : PhyHeader), s.canonical = true → exec (.headerCheck slice hdr) s = .next t →
    s.onlyChanges t [.mem, .radio, .link, .buffers, .cascade, .events, .faults] [P.RFE, P.SYN, P.RAD, P.CHN, P.NBD, P.OFD, P.FEC, P.LNK, P.REC] []) ∧
  (∀ (s t : State) (lane : Nat) (hdr : OfdmHeader), s.canonical = true → exec (.faoHeaderCheck lane hdr) s = .next t →
    s.onlyChanges t [.mem, .radio, .link, .buffers, .cascade, .events, .faults] [P.RFE, P.RTX, P.SYN, P.RAD, P.CHN, P.NBD, P.OFD, P.FEC, P.LNK,
    P.HVL, P.FLT, P.REC] []) ∧
  (∀ (s t : State) (unit : RxUnit) (bytes : List Byte), s.canonical = true → exec (.rxDataBlock unit bytes) s = .next t →
    s.onlyChanges t [.mem, .radio, .link, .buffers, .cascade, .events, .faults] [P.RFE, P.SYN, P.RAD, P.CHN, P.NBD, P.OFD, P.FEC, P.LNK, P.FRM,
    P.REC] []) ∧
  (∀ (s t : State) (unit : RxUnit), s.canonical = true → exec (.macHeaderParsed unit) s = .next t →
    s.onlyChanges t [.mem, .radio, .link, .buffers, .cascade, .events, .faults] [P.RFE, P.SYN, P.RAD, P.CHN, P.NBD, P.OFD, P.FEC, P.LNK, P.FRM,
    P.REC] []) ∧
  (∀ (s t : State) (lane : Nat) (rssi : Int) (phase : Byte), s.canonical = true → exec (.ltfEnd lane rssi phase) s = .next t →
    s.onlyChanges t [.mem, .radio, .link, .buffers, .cascade, .events, .faults] [P.RFE, P.SYN, P.RAD, P.CHN, P.NBD, P.OFD, P.FEC, P.LNK, P.FRM,
    P.REC] []) ∧
  (∀ (s t : State) (lane : Nat) (power : Int), s.canonical = true → exec (.stfDetect lane power) s = .next t → s.onlyChanges t [.radio] [] []) ∧
  (∀ (s t : State) (unit : RxUnit) (meas : Measures), s.canonical = true → exec (.rxFrameEnd unit meas) s = .next t → s.onlyChanges t [.radio] [] []) ∧
  (∀ (s t : State) (unit : RxUnit), s.canonical = true → exec (.softBitOverflow unit) s = .next t →
    s.onlyChanges t [.mem, .radio, .link, .buffers, .cascade, .events, .faults] [P.RFE, P.RTX, P.SYN, P.RAD, P.CHN, P.NBD, P.OFD, P.FEC, P.LNK,
    P.HVL, P.FLT, P.REC] []) ∧
  (∀ (s t : State) (unit : RxUnit) (soft : List Soft) (final : Bool), s.canonical = true → exec (.segmentRequest unit soft final) s = .next t →
    s.onlyChanges t [.mem, .radio, .link, .buffers, .cascade, .events, .faults] [P.RFE, P.RTX, P.SYN, P.RAD, P.CHN, P.NBD, P.OFD, P.FEC, P.LNK,
    P.HVL, P.FLT, P.REC] []) ∧
  (∀ (s t : State) (waitNs : Nat), s.canonical = true → exec (.segmentDone waitNs) s = .next t →
    s.onlyChanges t [.mem, .radio, .link, .buffers, .cascade, .events, .faults] [P.RTX, P.SYN, P.RAD, P.NBD, P.OFD, P.FEC, P.LNK, P.HVL, P.FLT,
    P.REC] []) ∧
  (∀ (s t : State) (unit : RxUnit) (power : Int), s.canonical = true → exec (.captureSwitch unit power) s = .next t →
    s.onlyChanges t [.mem, .radio, .link, .buffers, .cascade, .events, .faults] [P.SYN, P.RAD, P.NBD, P.OFD, P.LNK, P.REC] []) ∧
  (∀ (s t : State), s.canonical = true → exec .channelizerUpdate s = .next t →
    s.onlyChanges t [.mem, .radio, .link, .buffers, .cascade, .events, .faults] [P.SYN, P.RAD, P.CHN, P.NBD, P.OFD, P.LNK, P.REC] []) ∧
  (∀ (s t : State) (unit : RxUnit), s.canonical = true → exec (.frameVerdict unit) s = .next t →
    s.onlyChanges t [.mem, .keys, .radio, .link, .buffers, .cascade, .events, .faults] [P.SEC, P.RFE, P.RTX, P.SYN, P.RAD, P.CHN, P.NBD, P.OFD,
    P.FEC, P.LNK, P.FRM, P.HVL, P.FLT, P.REC] [])

/-- What events of link timing, of the shared units, of the cascade link and of the neighbour table leave as it was (09 R220 to R244; 10 R255 to R271; 11
R272 to R303). -/
def Obligations.LinkAndNeighbourFrames : Prop :=
  (∀ (s t : State) (i : Nat), s.canonical = true → exec (.entryStart i) s = .next t →
    s.onlyChanges t [.mem, .radio, .link, .events, .faults] [P.RAD, P.LNK, P.REC] []) ∧
  (∀ (s t : State) (i : Nat), s.canonical = true → exec (.entryCompletion i) s = .next t → s.onlyChanges t [.link] [] [Reg.IRQ_RAW P.LNK, Reg.LNK_STAT]) ∧
  (∀ (s t : State), s.canonical = true → exec .runAhead s = .next t →
    s.onlyChanges t [.mem, .radio, .link, .events, .faults] [P.SYN, P.RAD, P.LNK, P.REC] []) ∧
  (∀ (s t : State) (p : Packet), s.canonical = true → exec (.entry p) s = .next t →
    s.onlyChanges t [.mem, .radio, .link, .buffers, .cascade, .faults, .copies] [P.LNK, P.NBT] []) ∧
  (∀ (s t : State) (p : Packet), s.canonical = true → exec (.entryRes p) s = .next t →
    s.onlyChanges t [.mem, .radio, .link, .buffers, .cascade, .faults, .copies] [P.LNK, P.NBT] []) ∧
  (∀ (s t : State), s.canonical = true → exec .contextBlockTake s = .next t →
    s.onlyChanges t [.link, .buffers] [] [Reg.IRQ_RAW P.FRM, Reg.PAGE_STAT P.LNK]) ∧
  (∀ (s t : State) (unit : RxUnit), s.canonical = true → exec (.speculationStart unit) s = .next t →
    s.onlyChanges t [.mem, .keys, .radio, .link, .buffers, .cascade, .events, .faults] [P.RTX, P.SYN, P.RAD, P.NBD, P.OFD, P.LNK, P.HVL, P.FLT,
    P.REC] []) ∧
  (∀ (s t : State) (unit : RxUnit), s.canonical = true → exec (.commit unit) s = .next t →
    s.onlyChanges t [.mem, .radio, .link, .buffers, .cascade, .events, .faults] [P.RFE, P.SYN, P.RAD, P.CHN, P.NBD, P.OFD, P.FEC, P.LNK, P.REC] []) ∧
  (∀ (s t : State) (unit : RxUnit), s.canonical = true → exec (.squash unit) s = .next t →
    s.onlyChanges t [.mem, .radio, .link, .buffers, .cascade, .events, .faults] [P.RFE, P.SYN, P.RAD, P.CHN, P.NBD, P.OFD, P.FEC, P.LNK, P.REC] []) ∧
  (∀ (s t : State) (unit : RxUnit), s.canonical = true → exec (.commitDeadline unit) s = .next t →
    s.onlyChanges t [.mem, .radio, .link, .buffers, .cascade, .events, .faults] [P.RFE, P.SYN, P.RAD, P.CHN, P.NBD, P.OFD, P.FEC, P.LNK, P.REC] []) ∧
  (∀ (s t : State), s.canonical = true → exec .receiveWindowClose s = .next t →
    s.onlyChanges t [.mem, .radio, .link, .buffers, .cascade, .events, .faults] [P.RFE, P.SYN, P.RAD, P.CHN, P.NBD, P.OFD, P.FEC, P.LNK, P.REC] []) ∧
  (∀ (s t : State) (u : SharedUnit), s.canonical = true → exec (.sharedRequestServed u) s = .next t →
    s.onlyChanges t [.mem, .radio, .link, .buffers, .cascade, .events, .faults] [P.RTX, P.SYN, P.RAD, P.LNK, P.REC] []) ∧
  (∀ (s t : State) (stream : SecStream), s.canonical = true → exec (.securityRequest stream) s = .next t → s.onlyChanges t [.link] [] []) ∧
  (∀ (s t : State) (unit : RxUnit), s.canonical = true → exec (.nbtLookupReturn unit) s = .next t →
    s.onlyChanges t [.mem, .radio, .link, .events, .faults] [P.RTX, P.NBD, P.OFD, P.NBT, P.HVL, P.FLT] []) ∧
  (∀ (s t : State) (i : Initiator), s.canonical = true → exec (.nbtCommandDone i) s = .next t →
    s.onlyChanges t [.mem, .link, .events, .faults, .copies] [P.RTX, P.NBD, P.OFD, P.NBT, P.HVL, P.FLT] []) ∧
  (∀ (s t : State) (slot : RadSlot), s.canonical = true → exec (.timedCommandDue slot) s = .next t →
    s.onlyChanges t [.mem, .keys, .radio, .link, .buffers, .cascade, .events, .faults, .power] [P.CLK, P.SEC, P.RFE, P.RTX, P.SYN, P.RAD, P.CHN,
    P.NBD, P.OFD, P.FEC, P.LNK, P.FRM, P.HVL, P.FLT, P.BST, P.REC] []) ∧
  (∀ (s t : State), s.canonical = true → exec .queuedCommandEval s = .next t →
    s.onlyChanges t [.mem, .keys, .radio, .link, .buffers, .cascade, .events, .faults, .power] [P.CLK, P.SEC, P.RFE, P.RTX, P.SYN, P.RAD, P.CHN,
    P.NBD, P.OFD, P.FEC, P.LNK, P.FRM, P.HVL, P.FLT, P.BST, P.REC] []) ∧
  (∀ (s t : State), s.canonical = true → exec .handOver s = .next t →
    s.onlyChanges t [.mem, .keys, .radio, .link, .buffers, .cascade, .events, .faults] [P.CLK, P.SEC, P.RTX, P.SYN, P.RAD, P.NBD, P.OFD, P.FEC,
    P.LNK, P.FRM, P.HVL, P.FLT, P.BST, P.REC] []) ∧
  (∀ (s t : State) (p : Packet), s.canonical = true → exec (.hello p) s = .next t →
    s.onlyChanges t [.mem, .radio, .link, .buffers, .cascade, .faults, .copies] [P.LNK, P.NBT] []) ∧
  (∀ (s t : State) (p : Packet), s.canonical = true → exec (.welcome p) s = .next t →
    s.onlyChanges t [.mem, .radio, .link, .buffers, .cascade, .faults, .copies] [P.TMB, P.LNK, P.NBT, P.HVL] []) ∧
  (∀ (s t : State) (p : Packet), s.canonical = true → exec (.time p) s = .next t →
    s.onlyChanges t [.mem, .radio, .link, .buffers, .cascade, .faults, .copies] [P.LNK, P.NBT] []) ∧
  (∀ (s t : State) (p : Packet), s.canonical = true → exec (.frame p) s = .next t →
    s.onlyChanges t [.mem, .radio, .link, .buffers, .cascade, .events, .faults, .copies] [P.LNK, P.FRM, P.NBT] []) ∧
  (∀ (s t : State) (p : Packet), s.canonical = true → exec (.verdict p) s = .next t →
    s.onlyChanges t [.mem, .radio, .link, .buffers, .cascade, .faults, .copies] [P.LNK, P.NBT] []) ∧
  (∀ (s t : State) (p : Packet), s.canonical = true → exec (.nbtRes p) s = .next t →
    s.onlyChanges t [.mem, .radio, .link, .buffers, .cascade, .faults, .copies] [P.LNK, P.NBT] []) ∧
  (∀ (s t : State) (p : Packet), s.canonical = true → exec (.nbtCmd p) s = .next t →
    s.onlyChanges t [.mem, .radio, .link, .buffers, .cascade, .events, .faults, .copies] [P.RTX, P.NBD, P.OFD, P.LNK, P.NBT, P.HVL, P.FLT] []) ∧
  (∀ (s t : State) (p : Packet), s.canonical = true → exec (.hvlLookup p) s = .next t →
    s.onlyChanges t [.mem, .radio, .link, .buffers, .cascade, .events, .faults, .copies] [P.RTX, P.NBD, P.OFD, P.LNK, P.NBT, P.HVL, P.FLT] []) ∧
  (∀ (s t : State) (p : Packet) (latNs : Nat), s.canonical = true → exec (.reply p latNs) s = .next t →
    s.onlyChanges t [.mem, .radio, .link, .buffers, .cascade, .faults, .copies] [P.LNK, P.NBT, P.HVL] []) ∧
  (∀ (s t : State) (p : Packet), s.canonical = true → exec (.fwdAck p) s = .next t →
    s.onlyChanges t [.mem, .radio, .link, .buffers, .cascade, .faults, .copies] [P.LNK, P.NBT, P.HVL] []) ∧
  (∀ (s t : State), s.canonical = true → exec .forwardResend s = .next t → s.onlyChanges t [.cascade] [] []) ∧
  (∀ (s t : State) (port : HvlPort) (seq : Byte), s.canonical = true → exec (.packetAck port seq) s = .next t → s.onlyChanges t [.cascade] [] []) ∧
  (∀ (s t : State) (port : HvlPort) (seq : Byte), s.canonical = true → exec (.packetNak port seq) s = .next t → s.onlyChanges t [.cascade] [] []) ∧
  (∀ (s t : State) (port : HvlPort) (seq : Byte), s.canonical = true → exec (.resendTimeout port seq) s = .next t →
    s.onlyChanges t [.cascade] [] [Reg.HVL_ERRS]) ∧
  (∀ (s t : State) (p : Packet) (code : Bool) (lane : Nat), s.canonical = true → exec (.packetCrcFail p code lane) s = .next t →
    s.onlyChanges t [.mem, .radio, .link, .buffers, .cascade, .events, .faults, .copies] [P.RFE, P.RTX, P.SYN, P.RAD, P.NBD, P.OFD, P.LNK, P.NBT,
    P.HVL, P.FLT, P.REC] []) ∧
  (∀ (s t : State) (port : HvlPort) (nbrPos : Nat) (lanes : Nat), s.canonical = true → exec (.trainingDone port nbrPos lanes) s = .next t →
    s.onlyChanges t [.cascade] [] [Reg.IRQ_RAW P.HVL, Reg.PAGE_STAT P.HVL, Reg.HVL_STAT]) ∧
  (∀ (s t : State) (port : HvlPort) (lanes : Nat), s.canonical = true → exec (.retrainDone port lanes) s = .next t →
    s.onlyChanges t [.mem, .radio, .link, .buffers, .cascade, .events, .faults, .copies] [P.RFE, P.RTX, P.SYN, P.RAD, P.NBD, P.OFD, P.LNK, P.NBT,
    P.HVL, P.REC] []) ∧
  (∀ (s t : State) (port : HvlPort), s.canonical = true → exec (.hopDown port) s = .next t →
    s.onlyChanges t [.mem, .radio, .link, .buffers, .cascade, .events, .faults, .copies] [P.RFE, P.RTX, P.SYN, P.RAD, P.NBD, P.OFD, P.LNK, P.NBT,
    P.HVL, P.REC] []) ∧
  (∀ (s t : State) (p : Packet), s.canonical = true → exec (.linkDown p) s = .next t →
    s.onlyChanges t [.mem, .radio, .link, .buffers, .cascade, .events, .faults, .copies] [P.LNK, P.NBT, P.HVL] []) ∧
  (∀ (s t : State) (port : HvlPort) (err0 : Bool) (err1 : Bool), s.canonical = true → exec (.prbsTestDone port err0 err1) s = .next t →
    s.onlyChanges t [.mem, .radio, .link, .buffers, .cascade, .events, .faults, .copies] [P.RFE, P.RTX, P.SYN, P.RAD, P.NBD, P.OFD, P.LNK, P.NBT,
    P.HVL, P.FLT, P.REC] []) ∧
  (∀ (s t : State), s.canonical = true → exec .noTimeWithin16Ms s = .next t → s.onlyChanges t [] [] [Reg.HVL_STAT]) ∧
  (∀ (s t : State) (p : Packet), s.canonical = true → exec (.reservedTypePacket p) s = .next t → s.onlyChanges t [.cascade] [] [Reg.HVL_ERRS]) ∧
  (∀ (s t : State), s.canonical = true → exec .syncMarker s = .next t →
    s.onlyChanges t [.mem, .radio, .link, .buffers, .cascade, .time, .events, .faults, .power, .copies] [P.TMB, P.RFE, P.RTX, P.SYN, P.RAD, P.NBD,
    P.OFD, P.LNK, P.NBT, P.HVL, P.REC] []) ∧
  (∀ (s t : State), s.canonical = true → exec .hvlSyncEdge s = .next t → ∀ k, k ∉ [.radio, .cascade, .time, .events, .power] → s.same t k) ∧
  (∀ (s t : State), s.canonical = true → exec .missingEdge s = .next t →
    ∀ k, k ∉ [.mem, .radio, .link, .buffers, .cascade, .time, .events, .faults, .power, .copies] → s.same t k) ∧
  (∀ (s t : State) (p : Packet), s.canonical = true → exec (.commitAt p) s = .next t →
    ∀ k, k ∉ [.mem, .radio, .link, .buffers, .cascade, .events, .faults, .power, .flash, .copies] → s.same t k)

/-- What the events of the time base, the timers, the watchdog, the event fabric and the pins leave as it was (08 R195 to R216; 17 R396 to R403; 23 R507
to R516). -/
def Obligations.TimeEventAndPinFrames : Prop :=
  (∀ (s t : State), s.canonical = true → exec .slowTick s = .next t → ∀ k, k ∉ [.radio, .cascade, .time, .events, .power] → s.same t k) ∧
  (∀ (s t : State), s.canonical = true → exec .finePartStart s = .next t → s.onlyChanges t [] [] [Reg.TMB_STAT]) ∧
  (∀ (s t : State) (n : Nat), s.canonical = true → exec (.alarmWriteEffect n) s = .next t → ∀ k, k ∉ [.radio, .cascade, .time, .events, .power] →
    s.same t k) ∧
  (∀ (s t : State) (n : Nat), s.canonical = true → exec (.alarmFire n) s = .next t → s.onlyChanges t [.time, .events, .power] [] [Reg.IRQ_RAW P.TMB]) ∧
  (∀ (s t : State) (m : Nat) (k : Nat), s.canonical = true → exec (.capture m k) s = .next t →
    ∀ k, k ∉ [.mem, .radio, .time, .events, .faults, .pages] → s.same t k) ∧
  (∀ (s t : State) (m : Nat), s.canonical = true → exec (.wrap m) s = .next t → s.onlyChanges t [.time, .events] [P.TMR m] []) ∧
  (∀ (s t : State) (m : Nat) (k : Nat), s.canonical = true → exec (.cmp m k) s = .next t → s.onlyChanges t [.time, .events] [P.TMR m] []) ∧
  (∀ (s t : State), s.canonical = true → exec .lptSyncDone s = .next t → s.onlyChanges t [.time, .events, .power] [P.LPT] []) ∧
  (∀ (s t : State) (m : Nat), s.canonical = true → exec (.lptWrap m) s = .next t → s.onlyChanges t [.time, .events, .power] [P.LPT] []) ∧
  (∀ (s t : State) (m : Nat), s.canonical = true → exec (.lptCmp m) s = .next t → s.onlyChanges t [.time, .events, .power] [P.LPT] []) ∧
  (∀ (s t : State), s.canonical = true → exec .prewarn s = .next t → s.onlyChanges t [.events, .power, .time] [P.WDT] []) ∧
  (∀ (s t : State), s.canonical = true → exec .wdtExpiry s = .next t → s.onlyChanges t [.events, .power, .time] [P.WDT] []) ∧
  (∀ (s t : State), s.canonical = true → exec .eventSample s = .next t → ∀ k, k ∉ [.mem, .radio, .time, .events, .faults, .pages] → s.same t k) ∧
  (∀ (s t : State), s.canonical = true → exec .heldEventsSample s = .next t → ∀ k, k ∉ [.mem, .radio, .time, .events, .faults, .pages] → s.same t k) ∧
  (∀ (s t : State) (task : Nat), s.canonical = true → exec (.taskTrigger task) s = .next t →
    ∀ k, k ∉ [.mem, .radio, .time, .events, .faults, .pages] → s.same t k) ∧
  (∀ (s t : State) (pin : Nat) (rising : Bool), s.canonical = true → exec (.pinEvt pin rising) s = .next t → s.onlyChanges t [.events] [] [Reg.GPIO_IN]) ∧
  (∀ (s t : State) (pin : Nat) (level : Bool), s.canonical = true → exec (.gpioInt pin level) s = .next t →
    s.onlyChanges t [] [] [Reg.GPIO_IN, Reg.GPIO_INT_FLAG])

/-- What the events of power, clocks and the regulator port, the boot steps and the update unit's events leave as it was (18 R404 to R429; 19 R430 to
R443; 20 R444 to R463). -/
def Obligations.PowerClockAndBootFrames : Prop :=
  (∀ (s t : State) (pin : Nat) (level : Bool), s.canonical = true → exec (.wakePin pin level) s = .next t →
    s.onlyChanges t [.power] [] [Reg.GPIO_IN, Reg.WKP_PENDING]) ∧
  (∀ (s t : State) (srcs : List Nat), s.canonical = true → exec (.wake srcs) s = .next t →
    s.onlyChanges t [.power] [P.PWR, P.CLK, P.RRP, P.WKP, P.TMB, P.FLC] []) ∧
  (∀ (s t : State), s.canonical = true → exec .borRelease s = .next t → s.onlyChanges t [.power] [P.PWR, P.CLK, P.RRP, P.WKP, P.TMB, P.FLC] []) ∧
  (∀ (s t : State), s.canonical = true → exec .radioDomainUp s = .next t → ∀ k, k ∉ [.mem, .faults, .power] → s.same t k) ∧
  (∀ (s t : State), s.canonical = true → exec .opDone s = .next t →
    s.onlyChanges t [] [] [Reg.IRQ_RAW P.FLC, Reg.IRQ_RAW P.PWR, Reg.FLC_WAIT, Reg.PWR_OP]) ∧
  (∀ (s t : State), s.canonical = true → exec .switched s = .next t →
    s.onlyChanges t [] [] [Reg.IRQ_RAW P.CLK, Reg.IRQ_RAW P.FLC, Reg.PAGE_STAT P.CLK, Reg.CLK_STAT, Reg.CLK_SYS_KHZ, Reg.FLC_WAIT]) ∧
  (∀ (s t : State), s.canonical = true → exec .hfxoStable s = .next t →
    s.onlyChanges t [.mem, .radio, .link, .buffers, .cascade, .faults, .power, .copies] [P.CLK, P.TMB, P.LNK, P.NBT, P.HVL] []) ∧
  (∀ (s t : State), s.canonical = true → exec .pllLock s = .next t → s.onlyChanges t [] [] [Reg.CLK_STAT]) ∧
  (∀ (s t : State), s.canonical = true → exec .lfxoFail s = .next t → s.onlyChanges t [] [] [Reg.IRQ_RAW P.CLK, Reg.CLK_STAT, Reg.TMB_STAT]) ∧
  (∀ (s t : State), s.canonical = true → exec .lfxoReturn s = .next t → s.onlyChanges t [] [] [Reg.CLK_STAT, Reg.TMB_STAT]) ∧
  (∀ (s t : State), s.canonical = true → exec .voutCommand s = .next t → s.onlyChanges t [.power] [] []) ∧
  (∀ (s t : State) (on : Bool), s.canonical = true → exec (.operation on) s = .next t → s.onlyChanges t [.power] [] []) ∧
  (∀ (s t : State) (r : RrpReply), s.canonical = true → exec (.statusByte r) s = .next t →
    s.onlyChanges t [.power] [] [Reg.IRQ_RAW P.FLC, Reg.IRQ_RAW P.PWR, Reg.IRQ_RAW P.RRP, Reg.PAGE_STAT P.RRP, Reg.FLC_WAIT, Reg.PWR_OP, Reg.RRP_STAT]) ∧
  (∀ (s t : State), s.canonical = true → exec .rrpResend s = .next t → s.onlyChanges t [.power] [] [Reg.IRQ_RAW P.RRP, Reg.RRP_COUNTS]) ∧
  (∀ (s t : State), s.canonical = true → exec .rrpTimeout s = .next t →
    s.onlyChanges t [.events, .faults, .power] [P.PWR, P.RRP, P.FLC, P.RTX, P.NBD, P.OFD, P.HVL, P.FLT] []) ∧
  (∀ (s t : State) (trims : TrimCopies), s.canonical = true → exec (.bootStart trims) s = .next t → ∀ k, k ∉ [.mem, .keys, .faults, .power, .flash] →
    s.same t k) ∧
  (∀ (s t : State) (core : Core), s.canonical = true → exec (.coreRelease core) s = .next t →
    ∀ k, k ∉ [.mem, .keys, .faults, .power, .cores, .flash] → s.same t k) ∧
  (∀ (s t : State), s.canonical = true → exec .bootDone s = .next t →
    s.onlyChanges t [.faults, .power] [] [Reg.IRQ_RAW P.SYS, Reg.SYS_BOOT_STAT, Reg.FLT_STAT, Reg.PAGE_STAT P.FLT]) ∧
  (∀ (s t : State) (e : Engine), s.canonical = true → exec (.engineCodeLoad e) s = .next t →
    ∀ k, k ∉ [.mem, .keys, .radio, .link, .buffers, .cascade, .events, .faults, .power, .flash, .copies] → s.same t k) ∧
  (∀ (s t : State), s.canonical = true → exec .engReady s = .next t → s.onlyChanges t [] [] [Reg.SYS_BOOT_STAT]) ∧
  (∀ (s t : State) (e : Engine), s.canonical = true → exec (.engineReload e) s = .next t →
    s.onlyChanges t [.mem, .radio, .link, .buffers, .cascade, .faults, .power, .copies] [P.TMB, P.LNK, P.NBT, P.HVL] []) ∧
  (∀ (s t : State), s.canonical = true → exec .stageDone s = .next t → s.onlyChanges t [.mem, .faults, .power, .flash] [P.FLC, P.SEC, P.UPD] []) ∧
  (∀ (s t : State), s.canonical = true → exec .commitSuspend s = .next t → ∀ k, k ∉ [.events, .power, .flash] → s.same t k) ∧
  (∀ (s t : State), s.canonical = true → exec .commitPoint s = .next t → ∀ k, k ∉ [.mem, .keys, .events, .faults, .power, .flash] → s.same t k) ∧
  (∀ (s t : State) (ok : Bool), s.canonical = true → exec (.homeCopySector ok) s = .next t →
    s.onlyChanges t [.mem, .faults, .power, .flash] [P.FLC, P.UPD] []) ∧
  (∀ (s t : State) (e : Engine) (block : List Byte), s.canonical = true → exec (.engineChangeover e block) s = .next t → s.onlyChanges t [.power] [] []) ∧
  (∀ (s t : State) (e : Engine) (ok : Bool), s.canonical = true → exec (.engineAccept e ok) s = .next t →
    ∀ k, k ∉ [.mem, .keys, .faults, .power, .flash] → s.same t k) ∧
  (∀ (s t : State), s.canonical = true → exec .quietLimit s = .next t → s.onlyChanges t [.power] [] []) ∧
  (∀ (s t : State) (core : Core), s.canonical = true → exec (.handoverWait core) s = .next t →
    s.onlyChanges t [.power, .cores, .bus] [P.SYS, P.PWR, P.UPD, P.DBG] []) ∧
  (∀ (s t : State), s.canonical = true → exec .confirmWindow s = .next t → s.onlyChanges t [.power] [] []) ∧
  (∀ (s t : State), s.canonical = true → exec .fallback s = .next t → s.onlyChanges t [.mem, .faults, .power, .flash] [P.FLC, P.UPD] [])

/-- What the events of the security unit, debug, the flash controller, the serial ports, the host port and the fault manager leave as it was (12 R305 to
R321; 13 R322 to R341; 14 R342 to R359; 15 R360 to R377; 16 R378 to R395; 21 R464 to R481; 22 R482 to R505). -/
def Obligations.SecurityCoreAndFlashFrames : Prop :=
  (∀ (s t : State) (pages : List Nat), s.canonical = true → exec (.sealInterval pages) s = .next t →
    s.onlyChanges t [.pages] [] (pages.map Reg.SEAL_CTRL)) ∧
  (∀ (s t : State) (page : Nat), s.canonical = true → exec (.sealDone page) s = .next t → ∀ k, k ∉ [.events, .faults, .pages] → s.same t k) ∧
  (∀ (s t : State), s.canonical = true → exec .jobDone s = .next t →
    s.onlyChanges t [.mem, .keys, .events, .faults] [P.SEC, P.KST, P.RTX, P.NBD, P.OFD, P.FRM, P.HVL, P.FLT] []) ∧
  (∀ (s t : State) (w : Word) (ok : Bool), s.canonical = true → exec (.rngWord w ok) s = .next t →
    s.onlyChanges t [.keys, .events, .faults] [P.SEC, P.RTX, P.NBD, P.OFD, P.HVL, P.FLT] []) ∧
  (∀ (s t : State), s.canonical = true → exec .kstCommandDone s = .next t → ∀ k, k ∉ [.mem, .keys, .faults] → s.same t k) ∧
  (∀ (s t : State) (nonce : List Byte), s.canonical = true → exec (.dbgChal nonce) s = .next t → s.onlyChanges t [.keys] [] [Reg.DBG_STAT]) ∧
  (∀ (s t : State) (scope : Byte) (pub : List Byte) (sig : List Byte), s.canonical = true → exec (.dbgResp scope pub sig) s = .next t →
    s.onlyChanges t [.keys] [] [Reg.DBG_STAT, Reg.SEC_AUTH_STAT]) ∧
  (∀ (s t : State) (hart : Nat), s.canonical = true → exec (.debugHalt hart) s = .next t → s.onlyChanges t [] [] [Reg.DBG_STAT]) ∧
  (∀ (s t : State) (hart : Nat), s.canonical = true → exec (.debugResume hart) s = .next t → s.onlyChanges t [] [] [Reg.DBG_STAT]) ∧
  (∀ (s t : State) (complete : Bool), s.canonical = true → exec (.erase complete) s = .next t → ∀ k, k ∉ [.mem, .faults, .cores, .flash] → s.same t k) ∧
  (∀ (s t : State) (units : Nat), s.canonical = true → exec (.program units) s = .next t → ∀ k, k ∉ [.mem, .events, .faults, .cores, .flash] → s.same t k) ∧
  (∀ (s t : State) (units : Nat) (weak : List Nat), s.canonical = true → exec (.readback units weak) s = .next t →
    ∀ k, k ∉ [.events, .faults, .cores, .flash] → s.same t k) ∧
  (∀ (s t : State), s.canonical = true → exec .autoResume s = .next t → s.onlyChanges t [.flash] [] [Reg.PAGE_STAT P.FLC, Reg.FLC_STAT]) ∧
  (∀ (s t : State), s.canonical = true → exec .minRunEnd s = .next t → s.onlyChanges t [.flash] [] []) ∧
  (∀ (s t : State) (port : Nat) (rx : Word), s.canonical = true → exec (.queueWordDone port rx) s = .next t →
    s.onlyChanges t [.events, .cores, .ports, .bus] [P.SPT port] []) ∧
  (∀ (s t : State) (port : Nat), s.canonical = true → exec (.holdExpired port) s = .next t → s.onlyChanges t [.cores, .ports, .bus] [P.SPT port] []) ∧
  (∀ (s t : State) (port : Nat) (rx : ClockedWord), s.canonical = true → exec (.slaveWord port rx) s = .next t →
    s.onlyChanges t [.events, .ports] [P.SPT port] []) ∧
  (∀ (s t : State) (port : Nat), s.canonical = true → exec (.shortWord port) s = .next t → s.onlyChanges t [.events, .ports] [P.SPT port] []) ∧
  (∀ (s t : State) (port : Nat), s.canonical = true → exec (.writeBufferFlush port) s = .next t → s.onlyChanges t [.ports] [P.SPT port] []) ∧
  (∀ (s t : State) (port : Nat) (status : Byte), s.canonical = true → exec (.statusPoll port status) s = .next t →
    s.onlyChanges t [.cores, .ports, .bus] [P.SPT port] []) ∧
  (∀ (s t : State) (port : Nat), s.canonical = true → exec (.pollTimeout port) s = .next t → s.onlyChanges t [.cores, .ports, .bus] [P.SPT port] []) ∧
  (∀ (s t : State) (dev : List Byte), s.canonical = true → exec (.lineFillDone dev) s = .next t → ∀ k, k ∉ [.cores, .ports, .bus] → s.same t k) ∧
  (∀ (s t : State), s.canonical = true → exec .lookAheadFill s = .next t → ∀ k, k ∉ [.ports] → s.same t k) ∧
  (∀ (s t : State) (mode3 : Bool), s.canonical = true → exec (.hspCsFall mode3) s = .next t → s.onlyChanges t [.power, .ports] [] [Reg.WKP_PENDING]) ∧
  (∀ (s t : State) (cmd : Word) (crc : Byte), s.canonical = true → exec (.nop cmd crc) s = .next t →
    s.onlyChanges t [.ports] [] [Reg.IRQ_RAW P.HSP, Reg.HSP_COUNTS, Reg.HSP_LAST_STAT]) ∧
  (∀ (s t : State), s.canonical = true → exec .cut s = .next t → s.onlyChanges t [.ports] [] [Reg.IRQ_RAW P.HSP, Reg.HSP_COUNTS]) ∧
  (∀ (s t : State) (src : FaultSource), s.canonical = true → exec (.fault src) s = .next t →
    s.onlyChanges t [.mem, .radio, .link, .buffers, .cascade, .events, .faults, .power, .ports, .bus, .copies] [P.TMB, P.HSP, P.RFE, P.RTX, P.SYN,
    P.RAD, P.CHN, P.NBD, P.OFD, P.FEC, P.LNK, P.NBT, P.HVL, P.FLT, P.REC] []) ∧
  (∀ (s t : State) (unit : Nat) (ok : Bool), s.canonical = true → exec (.retry unit ok) s = .next t →
    s.onlyChanges t [.mem, .radio, .link, .buffers, .cascade, .events, .faults, .power, .copies] [P.TMB, P.RFE, P.RTX, P.SYN, P.RAD, P.CHN, P.NBD,
    P.OFD, P.FEC, P.LNK, P.NBT, P.HVL, P.FLT, P.REC] []) ∧
  (∀ (s t : State) (fails : List Nat), s.canonical = true → exec (.recordRewriteDone fails) s = .next t →
    s.onlyChanges t [.mem, .events, .faults, .flash] [P.RTX, P.NBD, P.OFD, P.HVL, P.FLT] []) ∧
  (∀ (s t : State), s.canonical = true → exec .testIsolation s = .next t →
    s.onlyChanges t [.mem, .radio, .link, .buffers, .cascade, .events, .faults] [P.RTX, P.SYN, P.RAD, P.CHN, P.NBD, P.OFD, P.FEC, P.LNK, P.FRM,
    P.HVL, P.BST, P.REC] []) ∧
  (∀ (s t : State) (r : TestResult), s.canonical = true → exec (.testDone r) s = .next t →
    s.onlyChanges t [.mem, .radio, .link, .buffers, .cascade, .events, .faults, .flash, .copies] [P.TMB, P.RFE, P.RTX, P.SYN, P.RAD, P.CHN, P.NBD,
    P.OFD, P.FEC, P.LNK, P.FRM, P.NBT, P.HVL, P.FLT, P.BST, P.REC] []) ∧
  (∀ (s t : State), s.canonical = true → exec .postEnd s = .next t → s.onlyChanges t [.faults] [] []) ∧
  (∀ (s t : State) (samples : List Byte) (bad : List Nat), s.canonical = true → exec (.frozen samples bad) s = .next t →
    s.onlyChanges t [.mem, .events, .faults] [P.RTX, P.NBD, P.OFD, P.HVL, P.FLT, P.REC] []) ∧
  (∀ (s t : State) (frames : List ReplayFrame), s.canonical = true → exec (.replayDone frames) s = .next t →
    s.onlyChanges t [.mem, .keys, .buffers, .events, .faults] [P.RTX, P.NBD, P.OFD, P.FRM, P.HVL, P.FLT, P.REC] [])

/-- What a command that is a write or a read of a block register leaves as it was, where the access reaches the register (02 R43 to R54): every other part
of the state, and every register outside the named pages. The answer goes to the initiator's port of the bus; a write of a configuration register may
mark the page's seal. -/
def Obligations.RegisterCommandFrames : Prop :=
  (∀ (s t : State) (i : Initiator) (w : Word) (r : RegRow), s.canonical = true → s.cmdTaken i (withBits w 0 4 0) r = true →
    exec (.idle i w) s = .next t →
    s.onlyChanges t [.buffers, .bus, .cascade, .events, .faults, .keys, .link, .mem, .pages, .power, .radio] [P.BST, P.CHN, P.CLK, P.FEC, P.FLT,
    P.FRM, P.HVL, P.LNK, P.NBD, P.OFD, P.RAD, P.REC, P.RFE, P.RTX, P.SEC, P.SYN] []) ∧
  (∀ (s t : State) (i : Initiator) (w : Word) (r : RegRow), s.canonical = true → s.cmdTaken i (withBits w 0 4 1) r = true →
    exec (.armRx i w) s = .next t →
    s.onlyChanges t [.buffers, .bus, .cascade, .events, .faults, .keys, .link, .mem, .pages, .power, .radio] [P.BST, P.CHN, P.CLK, P.FEC, P.FLT,
    P.FRM, P.HVL, P.LNK, P.NBD, P.OFD, P.RAD, P.REC, P.RFE, P.RTX, P.SEC, P.SYN] []) ∧
  (∀ (s t : State) (i : Initiator) (w : Word) (r : RegRow), s.canonical = true → s.cmdTaken i (withBits w 0 4 6) r = true →
    exec (.cal i w) s = .next t →
    s.onlyChanges t [.buffers, .bus, .cascade, .events, .faults, .keys, .link, .mem, .pages, .power, .radio] [P.BST, P.CHN, P.CLK, P.FEC, P.FLT,
    P.FRM, P.HVL, P.LNK, P.NBD, P.OFD, P.RAD, P.REC, P.RFE, P.RTX, P.SEC, P.SYN] []) ∧
  (∀ (s t : State) (i : Initiator) (w : Word) (r : RegRow), s.canonical = true → s.cmdTaken i (withBits w 0 4 8) r = true →
    exec (.pretune i w) s = .next t →
    s.onlyChanges t [.buffers, .bus, .cascade, .events, .faults, .keys, .link, .mem, .pages, .power, .radio] [P.BST, P.CHN, P.CLK, P.FEC, P.FLT,
    P.FRM, P.HVL, P.LNK, P.NBD, P.OFD, P.RAD, P.REC, P.RFE, P.RTX, P.SEC, P.SYN] []) ∧
  (∀ (s t : State) (i : Initiator) (w : Word) (r : RegRow), s.canonical = true → s.cmdTaken i (withBits w 0 4 9) r = true →
    exec (.abort i w) s = .next t →
    s.onlyChanges t [.buffers, .bus, .cascade, .events, .faults, .keys, .link, .mem, .pages, .power, .radio] [P.BST, P.CHN, P.CLK, P.FEC, P.FLT,
    P.FRM, P.HVL, P.LNK, P.NBD, P.OFD, P.RAD, P.REC, P.RFE, P.RTX, P.SEC, P.SYN] []) ∧
  (∀ (s t : State) (i : Initiator) (w : Word) (r : RegRow), s.canonical = true → s.cmdTaken i (withBits w 0 4 10) r = true →
    exec (.off i w) s = .next t →
    s.onlyChanges t [.buffers, .bus, .cascade, .events, .faults, .keys, .link, .mem, .pages, .power, .radio] [P.BST, P.CHN, P.CLK, P.FEC, P.FLT,
    P.FRM, P.HVL, P.LNK, P.NBD, P.OFD, P.RAD, P.REC, P.RFE, P.RTX, P.SEC, P.SYN] []) ∧
  (∀ (s t : State) (i : Initiator) (w : Word) (r : RegRow), s.canonical = true → s.cmdTaken i (withBits w 0 4 2) r = true →
    exec (.rx i w) s = .next t →
    s.onlyChanges t [.buffers, .bus, .cascade, .events, .faults, .keys, .link, .mem, .pages, .power, .radio] [P.BST, P.CHN, P.CLK, P.FEC, P.FLT,
    P.FRM, P.HVL, P.LNK, P.NBD, P.OFD, P.RAD, P.REC, P.RFE, P.RTX, P.SEC, P.SYN] []) ∧
  (∀ (s t : State) (i : Initiator) (w : Word) (r : RegRow), s.canonical = true → s.cmdTaken i (withBits w 0 4 3) r = true →
    exec (.rxMulti i w) s = .next t →
    s.onlyChanges t [.buffers, .bus, .cascade, .events, .faults, .keys, .link, .mem, .pages, .power, .radio] [P.BST, P.CHN, P.CLK, P.FEC, P.FLT,
    P.FRM, P.HVL, P.LNK, P.NBD, P.OFD, P.RAD, P.REC, P.RFE, P.RTX, P.SEC, P.SYN] []) ∧
  (∀ (s t : State) (i : Initiator) (w : Word) (r : RegRow), s.canonical = true → s.cmdTaken i (withBits w 0 4 4) r = true →
    exec (.tx i w) s = .next t →
    s.onlyChanges t [.buffers, .bus, .cascade, .events, .faults, .keys, .link, .mem, .pages, .power, .radio] [P.BST, P.CHN, P.CLK, P.FEC, P.FLT,
    P.FRM, P.HVL, P.LNK, P.NBD, P.OFD, P.RAD, P.REC, P.RFE, P.RTX, P.SEC, P.SYN] []) ∧
  (∀ (s t : State) (i : Initiator) (w : Word) (r : RegRow), s.canonical = true → s.cmdTaken i (withBits w 0 4 5) r = true →
    exec (.txCca i w) s = .next t →
    s.onlyChanges t [.buffers, .bus, .cascade, .events, .faults, .keys, .link, .mem, .pages, .power, .radio] [P.BST, P.CHN, P.CLK, P.FEC, P.FLT,
    P.FRM, P.HVL, P.LNK, P.NBD, P.OFD, P.RAD, P.REC, P.RFE, P.RTX, P.SEC, P.SYN] []) ∧
  (∀ (s t : State) (i : Initiator) (w : Word) (r : RegRow), s.canonical = true → s.cmdTaken i (withBits w 0 4 7) r = true →
    exec (.whiff i w) s = .next t →
    s.onlyChanges t [.buffers, .bus, .cascade, .events, .faults, .keys, .link, .mem, .pages, .power, .radio] [P.BST, P.CHN, P.CLK, P.FEC, P.FLT,
    P.FRM, P.HVL, P.LNK, P.NBD, P.OFD, P.RAD, P.REC, P.RFE, P.RTX, P.SEC, P.SYN] []) ∧
  (∀ (s t : State) (via : Via) (r : RegRow), s.canonical = true → s.reachesTask via P.TSN 0x104 1 r 0 = true → exec (.sample via) s = .next t →
    s.onlyChanges t [.events, .bus, .pages] [P.EVF, P.TSN] []) ∧
  (∀ (s t : State) (i : Initiator) (r : RegRow), s.canonical = true → s.takes i P.LNK 0x108 1 r = true → exec (.arm i) s = .next t →
    s.onlyChanges t [.bus, .cascade, .copies, .link, .pages] [P.LNK] []) ∧
  (∀ (s t : State) (i : Initiator) (r : RegRow), s.canonical = true → s.takes i P.LNK 0x108 2 r = true → exec (.cancel i) s = .next t →
    s.onlyChanges t [.bus, .cascade, .copies, .link, .pages] [P.LNK] []) ∧
  (∀ (s t : State) (i : Initiator) (r : RegRow), s.canonical = true → s.takes i P.LNK 0x108 3 r = true → exec (.read i) s = .next t →
    s.onlyChanges t [.bus, .cascade, .copies, .link, .pages] [P.LNK] []) ∧
  (∀ (s t : State) (i : Initiator) (r : RegRow), s.canonical = true → s.takes i P.LNK 0x108 4 r = true → exec (.cancelAll i) s = .next t →
    s.onlyChanges t [.bus, .cascade, .copies, .link, .pages] [P.LNK] []) ∧
  (∀ (s t : State) (i : Initiator), s.canonical = true → s.offers i P.LNK 0x110 = true → exec (.done i) s = .next t →
    s.onlyChanges t [.link, .bus, .copies] [] []) ∧
  (∀ (s t : State) (i : Initiator), s.canonical = true → s.offers i P.FRM 0x124 = true → exec (.alloc i) s = .next t →
    s.onlyChanges t [.buffers, .bus, .faults, .mem, .pages] [P.FRM, P.REC] []) ∧
  (∀ (s t : State) (i : Initiator), s.canonical = true → s.offers i P.FRM 0x12C = true → exec (.rxq i) s = .next t →
    s.onlyChanges t [.buffers, .bus] [] []) ∧
  (∀ (s t : State) (i : Initiator) (w : Word) (r : RegRow), s.canonical = true → s.takes i P.FRM 0x128 w r = true → exec (.release i w) s = .next t →
    s.onlyChanges t [.buffers, .bus, .events, .faults, .link, .pages] [P.FLT, P.FRM, P.HVL, P.LNK, P.NBD, P.OFD, P.RTX] []) ∧
  (∀ (s t : State) (i : Initiator) (r : RegRow), s.canonical = true → s.takes i P.NBT 0x104 1 r = true → exec (.insert i) s = .next t →
    s.onlyChanges t [.bus, .cascade, .copies, .link, .pages] [P.NBT] []) ∧
  (∀ (s t : State) (i : Initiator) (m : Byte) (r : RegRow), s.canonical = true →
    s.takes i P.NBT 0x104 (BitVec.ofNat 32 (2 + 0x100 * m.toNat)) r = true → exec (.update i m) s = .next t →
    s.onlyChanges t [.bus, .cascade, .copies, .link, .pages] [P.NBT] []) ∧
  (∀ (s t : State) (i : Initiator) (r : RegRow), s.canonical = true → s.takes i P.NBT 0x104 3 r = true → exec (.delete i) s = .next t →
    s.onlyChanges t [.bus, .cascade, .copies, .link, .pages] [P.NBT] []) ∧
  (∀ (s t : State) (i : Initiator) (r : RegRow), s.canonical = true → s.takes i P.NBT 0x104 4 r = true → exec (.lookup i) s = .next t →
    s.onlyChanges t [.bus, .cascade, .copies, .link, .pages] [P.NBT] []) ∧
  (∀ (s t : State) (i : Initiator) (r : RegRow), s.canonical = true → s.takes i P.NBT 0x104 5 r = true → exec (.nbtRead i) s = .next t →
    s.onlyChanges t [.bus, .cascade, .copies, .link, .pages] [P.NBT] []) ∧
  (∀ (s t : State) (i : Initiator), s.canonical = true → s.offers i P.TMB 0x100 = true → exec (.nowLo i) s = .next t →
    s.onlyChanges t [.bus, .copies] [] []) ∧
  (∀ (s t : State) (i : Initiator) (n : Nat) (w : Word) (r : RegRow), s.canonical = true → s.takes i P.TMB (0x144 + 8 * n) w r = true →
    exec (.alarmHiWrite i n w) s = .next t → s.onlyChanges t [.time, .bus, .pages] [P.TMB] []) ∧
  (∀ (s t : State) (i : Initiator) (n : Nat) (w : Word) (r : RegRow), s.canonical = true → s.takes i P.TMB (0x140 + 8 * n) w r = true →
    exec (.alarmLoWrite i n w) s = .next t → s.onlyChanges t [.time, .bus, .pages] [P.TMB] []) ∧
  (∀ (s t : State) (i : Initiator) (w : Word) (r : RegRow), s.canonical = true → s.takes i P.TMB 0x110 w r = true →
    exec (.alarmEnWrite i w) s = .next t → s.onlyChanges t [.time, .bus, .pages] [P.TMB] []) ∧
  (∀ (s t : State) (n : Nat) (via : Via) (r : RegRow), s.canonical = true → s.reachesTask via (P.TMR n) 0x104 1 r 0 = true →
    exec (.start n via) s = .next t → s.onlyChanges t [.time, .events, .bus, .pages] [P.EVF, P.TMR n] []) ∧
  (∀ (s t : State) (n : Nat) (via : Via) (r : RegRow), s.canonical = true → s.reachesTask via (P.TMR n) 0x104 2 r 1 = true →
    exec (.stop n via) s = .next t → s.onlyChanges t [.time, .events, .bus, .pages] [P.EVF, P.TMR n] []) ∧
  (∀ (s t : State) (n : Nat) (via : Via) (r : RegRow), s.canonical = true → s.reachesTask via (P.TMR n) 0x104 4 r 2 = true →
    exec (.clear n via) s = .next t → s.onlyChanges t [.time, .events, .bus, .pages] [P.EVF, P.TMR n] []) ∧
  (∀ (s t : State) (i : Initiator) (n : Nat) (r : RegRow), s.canonical = true → s.takes i (P.TMR n) 0x104 8 r = true → exec (.load n i) s = .next t →
    s.onlyChanges t [.time, .events, .bus, .pages] [P.EVF, P.TMR n] []) ∧
  (∀ (s t : State) (i : Initiator) (w : Word) (r : RegRow), s.canonical = true → s.takes i P.WDT 0x110 w r = true → exec (.feed i w) s = .next t →
    s.onlyChanges t [.time, .power, .bus, .pages] [P.WDT] []) ∧
  (∀ (s t : State) (i : Initiator) (w : Word) (r : RegRow), s.canonical = true → s.takes i P.SEC 0x104 (withBits w 0 4 1) r = true →
    exec (.aesEcbEncrypt i w) s = .next t → s.onlyChanges t [.bus, .events, .faults, .keys, .pages] [P.FLT, P.HVL, P.NBD, P.OFD, P.RTX, P.SEC] []) ∧
  (∀ (s t : State) (i : Initiator) (w : Word) (r : RegRow), s.canonical = true → s.takes i P.SEC 0x104 (withBits w 0 4 2) r = true →
    exec (.aesCtr i w) s = .next t → s.onlyChanges t [.bus, .events, .faults, .keys, .pages] [P.FLT, P.HVL, P.NBD, P.OFD, P.RTX, P.SEC] []) ∧
  (∀ (s t : State) (i : Initiator) (w : Word) (r : RegRow), s.canonical = true → s.takes i P.SEC 0x104 (withBits w 0 4 3) r = true →
    exec (.ccmEncrypt i w) s = .next t → s.onlyChanges t [.bus, .events, .faults, .keys, .pages] [P.FLT, P.HVL, P.NBD, P.OFD, P.RTX, P.SEC] []) ∧
  (∀ (s t : State) (i : Initiator) (w : Word) (r : RegRow), s.canonical = true → s.takes i P.SEC 0x104 (withBits w 0 4 4) r = true →
    exec (.ccmDecrypt i w) s = .next t → s.onlyChanges t [.bus, .events, .faults, .keys, .pages] [P.FLT, P.HVL, P.NBD, P.OFD, P.RTX, P.SEC] []) ∧
  (∀ (s t : State) (i : Initiator) (w : Word) (r : RegRow), s.canonical = true → s.takes i P.SEC 0x104 (withBits w 0 4 5) r = true →
    exec (.sha256 i w) s = .next t → s.onlyChanges t [.bus, .events, .faults, .keys, .pages] [P.FLT, P.HVL, P.NBD, P.OFD, P.RTX, P.SEC] []) ∧
  (∀ (s t : State) (i : Initiator) (w : Word) (r : RegRow), s.canonical = true → s.takes i P.SEC 0x104 (withBits w 0 4 6) r = true →
    exec (.ecdsaP256Verify i w) s = .next t → s.onlyChanges t [.bus, .events, .faults, .keys, .pages] [P.FLT, P.HVL, P.NBD, P.OFD, P.RTX, P.SEC] []) ∧
  (∀ (s t : State) (i : Initiator), s.canonical = true → s.offers i P.SEC 0x118 = true → exec (.rng i) s = .next t →
    s.onlyChanges t [.keys, .bus] [P.SEC] []) ∧
  (∀ (s t : State) (i : Initiator) (r : RegRow), s.canonical = true → s.takes i P.SEC 0x11C 0x80 r = true → exec (.rngRestart i) s = .next t →
    s.onlyChanges t [.keys, .bus, .pages] [P.SEC] []) ∧
  (∀ (s t : State) (i : Initiator) (n : Nat) (r : RegRow), s.canonical = true →
    s.takes i P.KST 0x100 (BitVec.ofNat 32 (1 + 0x10000 * (n % 4096))) r = true → exec (.setAttr i n) s = .next t →
    s.onlyChanges t [.keys, .bus, .pages] [P.KST] []) ∧
  (∀ (s t : State) (i : Initiator) (n : Nat) (r : RegRow), s.canonical = true →
    s.takes i P.KST 0x100 (BitVec.ofNat 32 (2 + 0x10000 * (n % 4096))) r = true → exec (.eraseKey i n) s = .next t →
    s.onlyChanges t [.keys, .bus, .pages] [P.KST] []) ∧
  (∀ (s t : State) (i : Initiator) (n : Nat) (r : RegRow), s.canonical = true →
    s.takes i P.KST 0x100 (BitVec.ofNat 32 (4 + 0x10000 * (n % 4096))) r = true → exec (.importKey i n) s = .next t →
    s.onlyChanges t [.keys, .bus, .pages] [P.KST] []) ∧
  (∀ (s t : State) (i : Initiator) (n : Nat) (r : RegRow), s.canonical = true →
    s.takes i P.KST 0x100 (BitVec.ofNat 32 (5 + 0x10000 * (n % 4096))) r = true → exec (.exportKey i n) s = .next t →
    s.onlyChanges t [.keys, .bus, .pages] [P.KST] []) ∧
  (∀ (s t : State) (i : Initiator) (n : Nat) (r : RegRow), s.canonical = true →
    s.takes i P.KST 0x100 (BitVec.ofNat 32 (6 + 0x10000 * (n % 4096))) r = true → exec (.readAttr i n) s = .next t →
    s.onlyChanges t [.keys, .bus, .pages] [P.KST] []) ∧
  (∀ (s t : State) (i : Initiator) (n : Nat) (r : RegRow), s.canonical = true →
    s.takes i P.KST 0x100 (BitVec.ofNat 32 (7 + 0x10000 * (n % 4096))) r = true → exec (.otpWrite i n) s = .next t →
    s.onlyChanges t [.keys, .bus, .pages] [P.KST] []) ∧
  (∀ (s t : State) (i : Initiator) (r : RegRow), s.canonical = true → s.takes i P.KST 0x100 (BitVec.ofNat 32 (3 + 0x10000 * (0 % 4096))) r = true →
    exec (.eraseAll i) s = .next t → s.onlyChanges t [.keys, .bus, .pages] [P.KST] []) ∧
  (∀ (s t : State) (i : Initiator), s.canonical = true → s.offers i P.ICU 0x100 = true → exec (.claim i) s = .next t →
    s.onlyChanges t [.cores, .bus] [P.ICU] []) ∧
  (∀ (s t : State) (i : Initiator) (w : Word) (r : RegRow), s.canonical = true → s.takes i P.ICU 0x104 w r = true →
    exec (.complete i w) s = .next t → s.onlyChanges t [.cores, .bus, .pages, .copies] [P.ICU] []) ∧
  (∀ (s t : State) (i : Initiator) (w : Word) (r : RegRow), s.canonical = true → s.takes i P.ICU 0x10C (withBits w 0 1 1) r = true →
    exec (.cacheInv i w) s = .next t → s.onlyChanges t [.cores, .bus, .pages, .copies] [P.ICU] []) ∧
  (∀ (s t : State) (i : Initiator) (c : Nat) (w : Word) (r : RegRow), s.canonical = true → s.takes i P.ICU (0x140 + 4 * c) w r = true →
    exec (.mboxTx i c w) s = .next t → s.onlyChanges t [.cores, .bus, .pages, .copies] [P.ICU] []) ∧
  (∀ (s t : State) (i : Initiator) (c : Nat), s.canonical = true → s.offers i P.ICU (0x160 + 4 * c) = true → exec (.mboxRx i c) s = .next t →
    s.onlyChanges t [.cores, .bus] [P.ICU] []) ∧
  (∀ (s t : State) (i : Initiator) (r : RegRow), s.canonical = true → s.takes i P.FLC 0x104 1 r = true → exec (.suspend i) s = .next t →
    ∀ k, k ∉ [.bus, .events, .flash, .pages] → s.same t k) ∧
  (∀ (s t : State) (i : Initiator) (r : RegRow), s.canonical = true → s.takes i P.FLC 0x104 2 r = true → exec (.resume i) s = .next t →
    ∀ k, k ∉ [.bus, .events, .flash, .pages] → s.same t k) ∧
  (∀ (s t : State) (i : Initiator) (r : RegRow), s.canonical = true → s.takes i P.FLC 0x104 4 r = true → exec (.flcAbort i) s = .next t →
    ∀ k, k ∉ [.bus, .events, .flash, .pages] → s.same t k) ∧
  (∀ (s t : State) (i : Initiator) (port : Nat) (w : Word) (r : RegRow), s.canonical = true → s.takes i (P.SPT port) 0x110 w r = true →
    exec (.qtx i port w) s = .next t → s.onlyChanges t [.cores, .ports, .bus, .pages] [P.SPT port] []) ∧
  (∀ (s t : State) (i : Initiator) (port : Nat), s.canonical = true → s.offers i (P.SPT port) 0x114 = true → exec (.qrx i port) s = .next t →
    s.onlyChanges t [.cores, .ports, .bus, .pages] [P.SPT port] []) ∧
  (∀ (s t : State) (i : Initiator) (port : Nat) (r : RegRow), s.canonical = true → s.takes i (P.SPT port) 0x104 1 r = true →
    exec (.flush i port) s = .next t → s.onlyChanges t [.cores, .ports, .bus, .pages] [P.SPT port] []) ∧
  (∀ (s t : State) (i : Initiator) (port : Nat) (r : RegRow), s.canonical = true → s.takes i (P.SPT port) 0x104 2 r = true →
    exec (.sptRelease i port) s = .next t → s.onlyChanges t [.cores, .ports, .bus, .pages] [P.SPT port] []) ∧
  (∀ (s t : State) (i : Initiator) (w : Word) (r : RegRow), s.canonical = true → s.takes i P.HSP 0x10C w r = true → exec (.dbSet i w) s = .next t →
    s.onlyChanges t [.bus, .pages] [P.HSP] []) ∧
  (∀ (s t : State) (i : Initiator) (w : Word) (r : RegRow), s.canonical = true → s.takes i P.HSP 0x110 w r = true →
    exec (.doorbell i w) s = .next t → s.onlyChanges t [.bus, .pages] [P.HSP] []) ∧
  (∀ (s t : State) (i : Initiator) (w : Word) (r : RegRow), s.canonical = true → s.takes i P.EVF 0x108 w r = true → exec (.swTrig i w) s = .next t →
    s.onlyChanges t [.events, .bus, .pages] [P.EVF] []) ∧
  (∀ (s t : State) (i : Initiator) (w : Word) (r : RegRow), s.canonical = true → s.takes i P.EVF 0x10C w r = true →
    exec (.taskTrig i w) s = .next t → s.onlyChanges t [.events, .bus, .pages] [P.EVF] []) ∧
  (∀ (s t : State) (i : Initiator) (w : Word), s.canonical = true → s.brings i P.PWR 0x100 w = true → exec (.req i w) s = .next t →
    s.onlyChanges t [.bus] [P.PWR] []) ∧
  (∀ (s t : State) (i : Initiator) (w : Word), s.canonical = true → s.brings i P.PWR 0x10C w = true → exec (.opTarget i w) s = .next t →
    s.onlyChanges t [.power, .bus] [P.PWR, P.RRP] []) ∧
  (∀ (s t : State) (i : Initiator) (w : Word) (r : RegRow), s.canonical = true → s.takes i P.CLK 0x100 w r = true →
    exec (.clkCfgWrite i w) s = .next t → s.onlyChanges t [.bus, .pages] [P.CLK, P.TMB] []) ∧
  (∀ (s t : State) (i : Initiator) (w : Word) (r : RegRow), s.canonical = true → s.takes i P.UPD 0x104 (withBits w 0 4 1) r = true →
    exec (.stage i w) s = .next t → ∀ k, k ∉ [.bus, .cascade, .events, .faults, .flash, .mem, .pages, .power] → s.same t k) ∧
  (∀ (s t : State) (i : Initiator) (w : Word) (r : RegRow), s.canonical = true → s.takes i P.UPD 0x104 (withBits w 0 4 2) r = true →
    exec (.activate i w) s = .next t → ∀ k, k ∉ [.bus, .cascade, .events, .faults, .flash, .mem, .pages, .power] → s.same t k) ∧
  (∀ (s t : State) (i : Initiator) (w : Word) (r : RegRow), s.canonical = true → s.takes i P.UPD 0x104 (withBits w 0 4 3) r = true →
    exec (.abandon i w) s = .next t → ∀ k, k ∉ [.bus, .cascade, .events, .faults, .flash, .mem, .pages, .power] → s.same t k) ∧
  (∀ (s t : State) (i : Initiator) (w : Word) (r : RegRow), s.canonical = true → s.takes i P.UPD 0x104 (withBits w 0 4 4) r = true →
    exec (.revert i w) s = .next t → ∀ k, k ∉ [.bus, .cascade, .events, .faults, .flash, .mem, .pages, .power] → s.same t k) ∧
  (∀ (s t : State) (i : Initiator) (w : Word) (r : RegRow), s.canonical = true → s.takes i P.UPD 0x104 (withBits w 0 4 5) r = true →
    exec (.recopy i w) s = .next t → ∀ k, k ∉ [.bus, .cascade, .events, .faults, .flash, .mem, .pages, .power] → s.same t k) ∧
  (∀ (s t : State) (i : Initiator) (w : Word) (r : RegRow), s.canonical = true → s.takes i P.UPD 0x118 w r = true → exec (.confirm i w) s = .next t →
    ∀ k, k ∉ [.bus, .faults, .flash, .keys, .mem, .pages, .power] → s.same t k) ∧
  (∀ (s t : State) (i : Initiator) (u : Nat) (r : RegRow), s.canonical = true →
    s.takes i P.FLT 0x114 (BitVec.ofNat 32 (0x10000000 + u % 0x10000)) r = true → exec (.retire i u) s = .next t →
    s.onlyChanges t [.buffers, .bus, .cascade, .copies, .events, .faults, .link, .mem, .pages, .radio] [P.CHN, P.FEC, P.FLT, P.HVL, P.LNK, P.NBD,
    P.NBT, P.OFD, P.RAD, P.REC, P.RFE, P.RTX, P.SYN] []) ∧
  (∀ (s t : State) (i : Initiator) (u : Nat) (r : RegRow), s.canonical = true →
    s.takes i P.FLT 0x114 (BitVec.ofNat 32 (0x20000000 + u % 0x10000)) r = true → exec (.unretire i u) s = .next t →
    s.onlyChanges t [.buffers, .bus, .cascade, .copies, .events, .faults, .link, .mem, .pages, .radio] [P.CHN, P.FEC, P.FLT, P.HVL, P.LNK, P.NBD,
    P.NBT, P.OFD, P.RAD, P.REC, P.RFE, P.RTX, P.SYN] []) ∧
  (∀ (s t : State) (i : Initiator) (u : Nat) (r : RegRow), s.canonical = true →
    s.takes i P.FLT 0x114 (BitVec.ofNat 32 (0x30000000 + u % 0x10000)) r = true → exec (.clearCount i u) s = .next t →
    s.onlyChanges t [.buffers, .bus, .cascade, .copies, .events, .faults, .link, .mem, .pages, .radio] [P.CHN, P.FEC, P.FLT, P.HVL, P.LNK, P.NBD,
    P.NBT, P.OFD, P.RAD, P.REC, P.RFE, P.RTX, P.SYN] []) ∧
  (∀ (s t : State) (i : Initiator) (u : Nat) (r : RegRow), s.canonical = true →
    s.takes i P.FLT 0x114 (BitVec.ofNat 32 (0x40000000 + u % 0x10000)) r = true → exec (.rewrite i u) s = .next t →
    s.onlyChanges t [.buffers, .bus, .cascade, .copies, .events, .faults, .link, .mem, .pages, .radio] [P.CHN, P.FEC, P.FLT, P.HVL, P.LNK, P.NBD,
    P.NBT, P.OFD, P.RAD, P.REC, P.RFE, P.RTX, P.SYN] []) ∧
  (∀ (s t : State) (i : Initiator), s.canonical = true → s.offers i P.FLT 0x10C = true → exec (.log i) s = .next t →
    s.onlyChanges t [.faults, .bus, .copies] [P.FLT] []) ∧
  (∀ (s t : State) (i : Initiator) (u : Nat) (r : RegRow), s.canonical = true →
    s.takes i P.BST 0x100 (BitVec.ofNat 32 (0x10000000 + u % 0x10000)) r = true → exec (.test i u) s = .next t →
    s.onlyChanges t [.buffers, .bus, .cascade, .copies, .events, .faults, .link, .mem, .pages, .radio] [P.BST, P.CHN, P.FEC, P.FRM, P.HVL, P.LNK,
    P.NBD, P.NBT, P.OFD, P.RAD, P.REC, P.RTX, P.SYN, P.TMB] []) ∧
  (∀ (s t : State) (i : Initiator) (r : RegRow), s.canonical = true → s.takes i P.BST 0x100 0x20000000 r = true → exec (.bstAbort i) s = .next t →
    s.onlyChanges t [.buffers, .bus, .cascade, .copies, .events, .faults, .link, .mem, .pages, .radio] [P.BST, P.CHN, P.FEC, P.FRM, P.HVL, P.LNK,
    P.NBD, P.NBT, P.OFD, P.RAD, P.REC, P.RTX, P.SYN, P.TMB] []) ∧
  (∀ (s t : State) (via : Via) (r : RegRow), s.canonical = true → s.reachesTask via P.REC 0x108 1 r 1 = true → exec (.recArm via) s = .next t →
    s.onlyChanges t [.mem, .events, .faults, .bus, .pages] [P.EVF, P.REC] []) ∧
  (∀ (s t : State) (via : Via) (r : RegRow), s.canonical = true → s.reachesTask via P.REC 0x108 2 r 0 = true → exec (.freeze via) s = .next t →
    s.onlyChanges t [.mem, .events, .faults, .bus, .pages] [P.EVF, P.REC] []) ∧
  (∀ (s t : State) (i : Initiator) (w : Word) (r : RegRow), s.canonical = true → s.takes i P.WDT 0x100 (withBits w 0 1 1) r = true →
    exec (.wdtEnable i w) s = .next t → s.onlyChanges t [.bus, .pages] [P.WDT] []) ∧
  (∀ (s t : State) (i : Initiator) (w : Word) (r : RegRow), s.canonical = true → s.takes i P.HVL 0x100 (withBits w 0 1 1) r = true →
    exec (.hvlEnable i w) s = .next t →
    s.onlyChanges t [.buffers, .bus, .cascade, .copies, .faults, .link, .mem, .pages, .radio] [P.HVL, P.LNK, P.NBT, P.TMB] []) ∧
  (∀ (s t : State) (i : Initiator) (r : RegRow), s.canonical = true → s.takes i (P.SPT 0) 0x104 4 r = true → exec (.pfInv i) s = .next t →
    s.onlyChanges t [.cores, .ports, .bus, .pages] [P.SPT 0] []) ∧
  (∀ (s t : State) (i : Initiator), s.canonical = true → s.offers i P.FLC 0x14C = true → exec (.submit i) s = .next t →
    ∀ k, k ∉ [.bus, .copies, .flash, .pages] → s.same t k) ∧
  (∀ (s t : State) (i : Initiator), s.canonical = true → s.offers i P.FLC 0x150 = true → exec (.flcDone i) s = .next t →
    ∀ k, k ∉ [.bus, .copies, .flash, .pages] → s.same t k) ∧
  (∀ (s t : State) (i : Initiator) (w : Word) (r : RegRow), s.canonical = true → s.takes i P.UPD 0x11C w r = true →
    exec (.handover i w) s = .next t → ∀ k, k ∉ [.bus, .cores, .pages, .power] → s.same t k) ∧
  (∀ (s t : State) (i : Initiator) (w : Word) (r : RegRow), s.canonical = true → s.takes i P.REC 0x110 w r = true → exec (.mark i w) s = .next t →
    s.onlyChanges t [.mem, .faults, .bus, .pages] [P.REC] []) ∧
  (∀ (s t : State) (i : Initiator) (r : RegRow), s.canonical = true → s.takes i P.REC 0x108 4 r = true → exec (.replay i) s = .next t →
    s.onlyChanges t [.mem, .faults, .bus, .pages] [P.REC] []) ∧
  (∀ (s t : State) (i : Initiator), s.canonical = true → s.offers i P.REC 0x114 = true → exec (.rpq i) s = .next t →
    s.onlyChanges t [.faults, .bus] [P.REC] [])

/-- The machine: a step takes the command at the front of the queue and runs it on the state with the rest of the queue. -/
def Obligations.StepRunsTheFrontCommand : Prop :=
  ∀ (s : State) (c : Instr) (rest : List Instr), s.pending = c :: rest → step s = exec c { s with pending := rest }

/-- The model's choice (log entry 15): with no command queued a step answers a next state in which one tick of the fine clock has passed: the count rises
by one below the last fine step of a slow tick while the fine part runs on its clock, holds at that step until the slow tick's edge, and keeps its
value with the fine part stopped; the queue, memory, the variant and the keys stay as they were, and a second write of RAD.CMD no longer meets the
first. -/
def Obligations.IdleStepIsATick : Prop :=
  ∀ s : State, s.pending = [] → ∃ t, step s = .next t ∧ t.pending = [] ∧ t.mem = s.mem ∧ t.variant = s.variant ∧ t.sec = s.sec ∧
    t.radio.evalOpen = false ∧
    (s.fineRuns = true → s.count % 256 < 255 → t.count = s.count + 1) ∧
    (s.fineRuns = true → s.count % 256 = 255 → t.count = s.count) ∧ (s.fineRuns = false → t.count = s.count ∧ t.alarms = s.alarms)

/-- After POR (19 R431, R432) the state is in canonical form, no command waits, and the registers hold the reset values that their tables give, written
out here for registers of most pages. -/
def Obligations.ResetStateIsAsTheRegisterTablesSay : Prop :=
  State.reset.canonical = true ∧ State.reset.pending = [] ∧ State.reset.mem = [] ∧
    State.reset.reg (Reg.CLK_CFG) = 0x300 ∧ State.reset.reg (Reg.CLK_STAT) = 1 ∧ State.reset.reg (Reg.CLK_SYS_KHZ) = 0xBB80 ∧
    State.reset.reg (Reg.EVF_CFG) = 0x800 ∧ State.reset.reg (Reg.FLC_CFG) = 0x1403 ∧ State.reset.reg (Reg.FLC_PROT1) = 0x2FFE0 ∧
    State.reset.reg (Reg.FLC_WAIT) = 1 ∧ State.reset.reg (Reg.FLT_CFG) = 0xA0403 ∧ State.reset.reg (Reg.FLT_SEAL_INT) = 0x3E8 ∧
    State.reset.reg (Reg.FRM_CFG) = 0x20200003 ∧ State.reset.reg (Reg.FRM_TYPES) = 0x72F ∧ State.reset.reg (Reg.HVL_CFG) = 0x4600 ∧
    State.reset.reg (Reg.LNK_ACK_CFG) = 0x2001 ∧ State.reset.reg (Reg.LNK_CFG) = 0x07D00401 ∧ State.reset.reg (Reg.NBD_CAPTURE) = 0x106 ∧
    State.reset.reg (Reg.NBT_CFG) = 8 ∧ State.reset.reg (Reg.OFD_CFG) = 1 ∧ State.reset.reg (Reg.PWR_RET_LO) = 0xFF ∧
    State.reset.reg (Reg.RAD_CAL_CFG) = 0xA033F ∧ State.reset.reg (Reg.REC_CFG) = 0x06040000 ∧ State.reset.reg (Reg.RFE_AGC_CTRL) = 0x18031F00 ∧
    State.reset.reg (Reg.RFE_AGC_TIME) = 0x64004 ∧ State.reset.reg (Reg.RFE_CFG) = 0x09010900 ∧ State.reset.reg (Reg.RRP_CFG) = 0x140202C0 ∧
    State.reset.reg (Reg.RTX_CFG) = 2 ∧ State.reset.reg (Reg.SEC_CFG) = 0x01000000 ∧ State.reset.reg (Reg.SPT_CFG 2) = 0x110700 ∧
    State.reset.reg (Reg.SYN_SCS_RATE) = 0x2EE00 ∧ State.reset.reg (Reg.SYS_RST_CAUSE) = 0x101 ∧ State.reset.reg (Reg.TMR_PERIOD 3) = 0xFFFFFFFF ∧
    State.reset.reg (Reg.TSN_CFG) = 0x69000708 ∧ State.reset.reg (Reg.UPD_CFG) = 0xA20A1E ∧ State.reset.reg (Reg.WDT_LOAD) = 0x8000 ∧
    State.reset.reg (Reg.WDT_PREWARN) = 0x800 ∧ State.reset.reg (Reg.WDT_WINDOW) = 0xFFFFFF

/-- From every state in canonical form, whatever command is at the front of the queue and with none, a step that answers a next state answers one in
canonical form: the lists of registers and of memory cells rise strictly by address and list no default. -/
def Obligations.StepKeepsTheCanonicalForm : Prop :=
  ∀ s t : State, s.canonical = true → step s = .next t → t.canonical = true

/-- OTP bits can change only from 0 to 1, and DEVICE_SECRET is programmed in production only (12 R309); the variant is the device's own (00 R2). Over
every step, every command included, chip resets too. -/
def Obligations.OtpBitsOnlyRise : Prop :=
  ∀ s t : State, s.canonical = true → step s = .next t →
    t.variant = s.variant ∧ t.sec.secret = s.sec.secret ∧ ∀ code n, (s.otp code).testBit n = true → (t.otp code).testBit n = true

/-- R41 as it stands, for accesses that reach the page: with UNDER_TEST = 1 a header register reads as its table says, a write of PAGE_CTRL is discarded,
a register from 0x100 on reads 0 and discards writes. -/
def Obligations.UnderTestPagesRefuseAccesses : Prop :=
  ∀ (s : State) (i : Initiator) (p off : Nat) (w : Word), p < 0x100 → off % 4 = 0 → off < 0x1000 → s.on (F.PAGE_STAT_UNDER_TEST p) = true →
    (s.admits (readReq i (pageAddr p off)) = true → off < 0x100 →
    exec (.busAccess (readReq i (pageAddr p off))) s = .next (s.answer i (s.headerRead p off) .ok)) ∧
    (s.admits (readReq i (pageAddr p off)) = true → 0x100 ≤ off → exec (.busAccess (readReq i (pageAddr p off))) s = .next (s.answer i 0 .ok)) ∧
    (s.admits (writeReq i (pageAddr p off) w) = true → off = 8 ∨ 0x100 ≤ off →
    exec (.busAccess (writeReq i (pageAddr p off) w)) s = .next (s.answer i 0 .ok))

/-- R44 as it stands: outside pages and code-RAM windows the size of an access is never a reason for condition 1 of R40; a byte, halfword or unaligned
access to a page or a code-RAM window ends denied, reads 0 and stores nothing. -/
def Obligations.AccessSizesOfPagesAndMemories : Prop :=
  (∀ (s : State) (r : BusReq) (z : AccessSize) (x : Nat), (∀ p, regionOf x ≠ .page p) → (∀ n, regionOf x ≠ .code n) →
    s.busUnmapped { r with size := z } x = s.busUnmapped r x) ∧
  (∀ (s : State) (r : BusReq) (n : Nat), regionOf r.addr.toNat = .page n ∨ regionOf r.addr.toNat = .code n → r.size ≠ .word ∨ r.addr.toNat % 4 ≠ 0 →
    r.ini ≠ .host ∨ s.hspReady = true → exec (.busAccess r) s = .next (s.answer r.ini 0 .denied))

/-- R199 as it stands: a read of NOW_LO answers bits 31:0 and latches bits 47:32 for its initiator; a read of NOW_HI_SNAP that follows it answers the
latched bits, so that the two make up the count of the first read; NOW_HI reads the count of its own read; 2^32 ticks of 2^23 Hz are 512 s. -/
def Obligations.TimeBaseReadsLatchTheHighPart : Prop :=
  (∀ (s : State) (i : Initiator), s.canonical = true → s.count < 2 ^ 48 → s.offers i P.TMB 0x100 = true → s.offers i P.TMB 0x108 = true →
    ∃ t u lo hi, exec (.nowLo i) s = .next t ∧ t.out.get i = ⟨lo, .ok⟩ ∧ lo = BitVec.ofNat 32 s.count ∧ t.count = s.count ∧
      exec (.busAccess (readReq i (pageAddr P.TMB 0x108))) t = .next u ∧ u.out.get i = ⟨hi, .ok⟩ ∧ hi.toNat = s.count / 2 ^ 32 ∧
      hi.toNat * 2 ^ 32 + lo.toNat = s.count) ∧
  (∀ (s : State) (i : Initiator), s.count < 2 ^ 48 → s.offers i P.TMB 0x104 = true →
    ∃ t, exec (.busAccess (readReq i (pageAddr P.TMB 0x104))) s = .next t ∧ t.out.get i = ⟨BitVec.ofNat 32 (s.count / 2 ^ 32), .ok⟩) ∧
  2 ^ 32 = 512 * 2 ^ 23

/-- R490 as it stands: a PASS of a retirable unit sets its flag; a retirement clears it; after every chip reset and after the entry to Standby or Dormant,
from which a chip start follows, no flag is set; UNRETIRE of a unit with its flag ends OK, and without it NO_TEST_PASS. -/
def Obligations.PassFlagsOfTheSelfTest : Prop :=
  (∀ (s t : State) (b : BstRun) (r : TestResult), s.bst = some b → b.running = true → retirable b.unit = true → exec (.testDone r) s = .next t →
    t.bst = none → t.get F.BST_RES_RESULT = 0 → s.canonical = true → t.passed.contains b.unit = true) ∧
  (∀ (s : State) (b : BstRun) (sig : Word), s.bst = some b → b.running = true → b.unit / 256 = 1 ∨ b.unit / 256 = 2 → s.canonical = true →
    ∃ t, exec (.testDone (.logic sig true)) s = .next t ∧ t.passed.contains b.unit = true ∧ t.get F.BST_RES_RESULT = 0) ∧
  (∀ (s : State) (i : Initiator) (u : Nat) (r : RegRow), s.takes i P.FLT 0x114 (BitVec.ofNat 32 (0x10000000 + u % 0x10000)) r = true →
    s.canonical = true →
    s.enabled P.FLT = true → u < 0x10000 → s.on F.FLT_RES_BUSY = false → unitPresent s.variant u = true → retirable u = true → s.isRetired u = false →
    ∃ t, exec (.retire i u) s = .next t ∧ t.isRetired u = true ∧ t.passed.contains u = false) ∧
  (∀ (s : State) (src : FaultSource), s.canonical = true → unitPresent s.variant src.unit = true → faultLegal src.unit src.cls = true →
    faultPlace src = true →
    src.cls = .permanent → retirable src.unit = true → s.isRetired src.unit = false → 0 < s.get F.FLT_CFG_RETIRE_N → s.enabled P.FLT = true →
    ∃ t, exec (.fault src) s = .next t ∧ t.isRetired src.unit = true ∧ t.passed.contains src.unit = false) ∧
  (∀ (s : State) (sel : Bool) (pos : Nat), (∃ t, exec (.por sel pos) s = .next t ∧ t.passed = []) ∧
    (s.systemOn = true → ∃ t, exec (.bor sel pos) s = .next t ∧ t.passed = []) ∧
    (s.flashHolds = false → (∃ t, exec (.pin pos) s = .next t ∧ t.passed = []) ∧
      (s.resetReq = some 4 → ∃ t, exec (.wdt pos) s = .next t ∧ t.passed = []) ∧
      (s.resetReq = some 6 → ∃ t, exec (.updateFallback pos) s = .next t ∧ t.passed = []) ∧
      (s.flt.resetReq = true → ∀ i w, ∃ t, exec (.softChip i ⟨w, pos⟩) s = .next t ∧ t.passed = []))) ∧
  (∀ (s : State) (n c : Nat), s.resetReq = some c → s.flashHolds = true → ∃ t, exec (.flashSafePointReset n) s = .next t ∧ t.passed = []) ∧
  (∀ (s : State) (x : PowerState), s.pwr.entering = some x → x = .standby ∨ x = .dormant → s.on F.PWR_STAT_PENDING = false →
    ∃ t, exec .entryInstant s = .next t ∧ t.passed = []) ∧
  (∀ (s : State) (i : Initiator) (u : Nat) (r : RegRow), s.takes i P.FLT 0x114 (BitVec.ofNat 32 (0x20000000 + u % 0x10000)) r = true →
    s.canonical = true →
    s.enabled P.FLT = true → u < 0x10000 → s.on F.FLT_RES_BUSY = false → unitPresent s.variant u = true →
    ∃ t, exec (.unretire i u) s = .next t ∧ t.reg Reg.FLT_RES = (if s.passed.contains u then 0 else 3))

/-- R486 as it stands: a failed test is a fault of class P: a retirable unit is retired at once (with RETIRE_N = 0, which R466 excepts, it is reported for
service); a unit that cannot be retired is logged with OUTCOME SERVICE and sets the flag SERVICE; a fault of a unit under test, other than its test's
verdict, leaves the times of its counted faults as they were. -/
def Obligations.FailuresOfTheSelfTest : Prop :=
  (∀ (s : State) (b : BstRun) (sig : Word), s.canonical = true → s.bst = some b → b.running = true → b.unit / 256 = 1 ∨ b.unit / 256 = 2 →
    s.isRetired b.unit = false → unitPresent s.variant b.unit = true →
    0 < s.get F.FLT_CFG_RETIRE_N → s.enabled P.FLT = true → ∃ t, exec (.testDone (.logic sig false)) s = .next t ∧ t.isRetired b.unit = true ∧
      (t.reg (Reg.IRQ_RAW P.FLT)).toNat.testBit 1 = true) ∧
  (∀ (s : State) (b : BstRun), s.canonical = true → s.bst = some b → b.running = true → b.unit / 256 = 3 ∨ b.unit / 256 = 4 →
    s.isRetired b.unit = false → unitPresent s.variant b.unit = true →
    0 < s.get F.FLT_CFG_RETIRE_N → s.enabled P.FLT = true → ∃ t, exec (.testDone (.analogue false)) s = .next t ∧ t.isRetired b.unit = true) ∧
  (∀ (s : State) (b : BstRun) (a : Word), s.canonical = true → s.bst = some b → b.running = true → b.unit / 256 = 5 ∨ b.unit / 256 = 6 →
    retirable b.unit = true → unitPresent s.variant b.unit = true →
    0 < s.get F.FLT_CFG_RETIRE_N → s.enabled P.FLT = true → ∃ t, exec (.testDone (.memory (some a))) s = .next t ∧ t.isRetired b.unit = true) ∧
  (∀ (s : State) (b : BstRun) (sig : Word), s.canonical = true → s.bst = some b → b.running = true → b.unit / 256 = 0x12 ∨ b.unit / 256 = 0x14 →
    s.flt.log.length < 16 → s.enabled P.FLT = true → ∃ t x, exec (.testDone (.logic sig false)) s = .next t ∧ t.flt.log = s.flt.log ++ [x] ∧
      x.word % 0x10000 = b.unit ∧ x.word / 0x1000000 % 16 = 4 ∧ x.word / 0x10000000 % 8 = 3 ∧ (t.reg (Reg.IRQ_RAW P.FLT)).toNat.testBit 2 = true) ∧
  (∀ (s : State) (src : FaultSource), s.canonical = true → s.underTest src.unit = true → src.cls ≠ .permanent →
    ∃ t, exec (.fault src) s = .next t ∧ t.faultTimes src.unit = s.faultTimes src.unit)

/-- A write to a configuration register of a locked page stores nothing and sets LOCK_VIOL, with an ordinary answer; a write of PAGE_CTRL leaves ENABLE
and LOCK as they are and sets LOCK_VIOL only where it carries another ENABLE value or SOFT_RESET; IRQ_SET stays writable (02 R54). -/
def Obligations.LockedPagesRefuseConfiguration : Prop :=
  ∀ (s : State) (i : Initiator) (p off : Nat) (w : Word), p < 0x29 → off % 4 = 0 → off < 0x1000 → s.locked p = true →
    s.on (F.PAGE_STAT_UNDER_TEST p) = false →
    s.admits (writeReq i (pageAddr p off) w) = true →
    (0x100 ≤ off → s.instAbsent p off = false → s.isConfig p off = true →
    exec (.busAccess (writeReq i (pageAddr p off) w)) s = .next ((s.lockViol p).answer i 0 .ok)) ∧
    (off = 0x14 ∨ off = 0x20 ∨ off = 0x24 → exec (.busAccess (writeReq i (pageAddr p off) w)) s = .next ((s.lockViol p).answer i 0 .ok)) ∧
    (off = 8 → w.toNat.testBit 0 = s.enabled p → w.toNat.testBit 1 = false →
    exec (.busAccess (writeReq i (pageAddr p off) w)) s = .next (s.answer i 0 .ok)) ∧
    (off = 8 → w.toNat.testBit 0 ≠ s.enabled p ∨ w.toNat.testBit 1 = true →
    exec (.busAccess (writeReq i (pageAddr p off) w)) s = .next ((s.lockViol p).answer i 0 .ok)) ∧
    (off = 0x1C → s.canonical = true → ∃ t, exec (.busAccess (writeReq i (pageAddr p off) w)) s = .next t ∧
    t.reg (Reg.IRQ_RAW p) = s.reg (Reg.IRQ_RAW p) ||| w)

/-- A command to a disabled RAD ends REFUSED_STATE with CMD_DONE (02 R52); a malformed one ends ABORTED with ARG_ERR (05 R126); one that the acceptance
table refuses in the radio's state ends REFUSED_STATE (05 R129). The radio's own state stays as it was when the command was evaluated. -/
def Obligations.RadioCommandsAreRefused : Prop :=
  ∀ (s : State) (i : Initiator) (w : Word) (r : RegRow) (c : Instr) (n : Nat),
    (c, n) ∈ [(Instr.idle i w, 0), (.armRx i w, 1), (.rx i w, 2), (.rxMulti i w, 3), (.tx i w, 4), (.txCca i w, 5), (.cal i w, 6), (.whiff i w, 7),
    (.pretune i w, 8), (.abort i w, 9), (.off i w, 10)] →
    s.canonical = true → s.takes i P.RAD 0x100 (withBits w 0 4 n) r = true → s.radio.evalOpen = false →
    ((s.cmdSeen i (withBits w 0 4 n) r).enabled P.RAD = false → ∃ t, exec c s = .next t ∧ t.get F.RAD_CMD_STAT_STATUS = 2 ∧
    t.get F.RAD_CMD_STAT_FINAL = 1 ∧
      (t.reg (Reg.IRQ_RAW P.RAD)).toNat.testBit 0 = true ∧ t.radio = (s.cmdSeen i (withBits w 0 4 n) r).radio) ∧
    ((s.cmdSeen i (withBits w 0 4 n) r).enabled P.RAD = true →
    (s.cmdSeen i (withBits w 0 4 n) r).malformed (s.cmdGiven i (withBits w 0 4 n) r) = true → ∃ t, exec c s = .next t ∧
    t.get F.RAD_CMD_STAT_STATUS = 5 ∧ t.get F.RAD_CMD_STAT_FINAL = 1 ∧
      t.get F.RAD_CMD_STAT_ARG_ERR = 1 ∧ (t.reg (Reg.IRQ_RAW P.RAD)).toNat.testBit 0 = true ∧ t.radio = (s.cmdSeen i (withBits w 0 4 n) r).radio) ∧
    ((s.cmdSeen i (withBits w 0 4 n) r).enabled P.RAD = true →
    (s.cmdSeen i (withBits w 0 4 n) r).malformed (s.cmdGiven i (withBits w 0 4 n) r) = false →
    (s.cmdSeen i (withBits w 0 4 n) r).pageSt P.REC ≠ 4 → (s.cmdGiven i (withBits w 0 4 n) r).timed = false →
    (s.cmdSeen i (withBits w 0 4 n) r).ackCommitted = false →
      acceptCell n ((s.cmdSeen i (withBits w 0 4 n) r).judgedBy n) = 0 → ∃ t, exec c s = .next t ∧ t.get F.RAD_CMD_STAT_STATUS = 2 ∧
      t.get F.RAD_CMD_STAT_FINAL = 1 ∧
      (t.reg (Reg.IRQ_RAW P.RAD)).toNat.testBit 0 = true ∧ t.radio = (s.cmdSeen i (withBits w 0 4 n) r).radio)

/-- The model stops on no command: whatever the state and the operands, a command answers a next state, never a fault or a refusal (log entry 16: an event
row whose precondition fails leaves the state as it was). -/
def Obligations.NoCommandStops : Prop :=
  ∀ (c : Instr) (s : State), ∃ t, exec c s = .next t
end

