-- ==== Sys2Proof/Laws/Exec.lean ====
section
/-! SUPPORT. What `exec` runs for each command: its meaning. Cite these laws, never unfold `exec`. -/

namespace Sys2Proof.Machine

theorem exec_busAccess (req : BusReq) (s : State) : exec (.busAccess req) s = Machine.execBusAccess req s := rfl
theorem exec_softReset (ini : Initiator) (page : Nat) (w : Word) (s : State) : exec (.softReset ini page w) s = Machine.execSoftReset ini page w s := rfl
theorem exec_softResetDone (page : Nat) (s : State) : exec (.softResetDone page) s = Machine.execSoftResetDone page s := rfl
theorem exec_pageEnable (ini : Initiator) (page : Nat) (en : Bool) (s : State) : exec (.pageEnable ini page en) s = Machine.execPageEnable ini page en s := rfl
theorem exec_lock (ini : Initiator) (page : Nat) (en : Bool) (s : State) : exec (.lock ini page en) s = Machine.execLock ini page en s := rfl
theorem exec_irqSet (ini : Initiator) (page : Nat) (w : Word) (s : State) : exec (.irqSet ini page w) s = Machine.execIrqSet ini page w s := rfl
theorem exec_compute (ini : Initiator) (page : Nat) (w : Word) (s : State) : exec (.compute ini page w) s = Machine.execCompute ini page w s := rfl
theorem exec_latchRef (ini : Initiator) (page : Nat) (w : Word) (s : State) : exec (.latchRef ini page w) s = Machine.execLatchRef ini page w s := rfl
theorem exec_sealInterval (pages : List Nat) (s : State) : exec (.sealInterval pages) s = Machine.execSealInterval pages s := rfl
theorem exec_sealDone (page : Nat) (s : State) : exec (.sealDone page) s = Machine.execSealDone page s := rfl
theorem exec_scsSettled (s : State) : exec (.scsSettled) s = Machine.execScsSettled s := rfl
theorem exec_scsUnlock (s : State) : exec (.scsUnlock) s = Machine.execScsUnlock s := rfl
theorem exec_scsRelock (ok : Bool) (s : State) : exec (.scsRelock ok) s = Machine.execScsRelock ok s := rfl
theorem exec_agcWindowEnd (peak : Nat) (rms : Nat) (clipped : Bool) (s : State) : exec (.agcWindowEnd peak rms clipped) s = Machine.execAgcWindowEnd peak rms clipped s := rfl
theorem exec_agcHoldExpiry (s : State) : exec (.agcHoldExpiry) s = Machine.execAgcHoldExpiry s := rfl
theorem exec_receiverRunning (s : State) : exec (.receiverRunning) s = Machine.execReceiverRunning s := rfl
theorem exec_whiff (ini : Initiator) (w : Word) (s : State) : exec (.whiff ini w) s = Machine.execWhiff ini w s := rfl
theorem exec_whiffCaptureStart (s : State) : exec (.whiffCaptureStart) s = Machine.execWhiffCaptureStart s := rfl
theorem exec_whiffCaptureEnd (clipped : Bool) (s : State) : exec (.whiffCaptureEnd clipped) s = Machine.execWhiffCaptureEnd clipped s := rfl
theorem exec_whiffDone (bins : List Half) (descs : List (Byte × Half)) (s : State) : exec (.whiffDone bins descs) s = Machine.execWhiffDone bins descs s := rfl
theorem exec_crsLock (s : State) : exec (.crsLock) s = Machine.execCrsLock s := rfl
theorem exec_crsUnlock (s : State) : exec (.crsUnlock) s = Machine.execCrsUnlock s := rfl
theorem exec_crsRelock (ok : Bool) (s : State) : exec (.crsRelock ok) s = Machine.execCrsRelock ok s := rfl
theorem exec_txSequenceStart (round : Option Sense) (s : State) : exec (.txSequenceStart round) s = Machine.execTxSequenceStart round s := rfl
theorem exec_rampUpStart (s : State) : exec (.rampUpStart) s = Machine.execRampUpStart s := rfl
theorem exec_onAir (s : State) : exec (.onAir) s = Machine.execOnAir s := rfl
theorem exec_frameTxEnd (det : Option Int) (s : State) : exec (.frameTxEnd det) s = Machine.execFrameTxEnd det s := rfl
theorem exec_rampDownEnd (s : State) : exec (.rampDownEnd) s = Machine.execRampDownEnd s := rfl
theorem exec_antSelExit (s : State) : exec (.antSelExit) s = Machine.execAntSelExit s := rfl
theorem exec_underrun (s : State) : exec (.underrun) s = Machine.execUnderrun s := rfl
theorem exec_ilim (s : State) : exec (.ilim) s = Machine.execIlim s := rfl
theorem exec_rcpSenseSample (round : Option Sense) (s : State) : exec (.rcpSenseSample round) s = Machine.execRcpSenseSample round s := rfl
theorem exec_tsnRoundEnd (m : Sense) (s : State) : exec (.tsnRoundEnd m) s = Machine.execTsnRoundEnd m s := rfl
theorem exec_sample (via : Via) (s : State) : exec (.sample via) s = Machine.execSample via s := rfl
theorem exec_tsnSampleLatched (s : State) : exec (.tsnSampleLatched) s = Machine.execTsnSampleLatched s := rfl
theorem exec_idle (ini : Initiator) (w : Word) (s : State) : exec (.idle ini w) s = Machine.execIdle ini w s := rfl
theorem exec_armRx (ini : Initiator) (w : Word) (s : State) : exec (.armRx ini w) s = Machine.execArmRx ini w s := rfl
theorem exec_rx (ini : Initiator) (w : Word) (s : State) : exec (.rx ini w) s = Machine.execRx ini w s := rfl
theorem exec_rxMulti (ini : Initiator) (w : Word) (s : State) : exec (.rxMulti ini w) s = Machine.execRxMulti ini w s := rfl
theorem exec_tx (ini : Initiator) (w : Word) (s : State) : exec (.tx ini w) s = Machine.execTx ini w s := rfl
theorem exec_txCca (ini : Initiator) (w : Word) (s : State) : exec (.txCca ini w) s = Machine.execTxCca ini w s := rfl
theorem exec_cal (ini : Initiator) (w : Word) (s : State) : exec (.cal ini w) s = Machine.execCal ini w s := rfl
theorem exec_pretune (ini : Initiator) (w : Word) (s : State) : exec (.pretune ini w) s = Machine.execPretune ini w s := rfl
theorem exec_abort (ini : Initiator) (w : Word) (s : State) : exec (.abort ini w) s = Machine.execAbort ini w s := rfl
theorem exec_off (ini : Initiator) (w : Word) (s : State) : exec (.off ini w) s = Machine.execOff ini w s := rfl
theorem exec_timedCommandDue (slot : RadSlot) (s : State) : exec (.timedCommandDue slot) s = Machine.execTimedCommandDue slot s := rfl
theorem exec_queuedCommandEval (s : State) : exec (.queuedCommandEval) s = Machine.execQueuedCommandEval s := rfl
theorem exec_transitionEnd (s : State) : exec (.transitionEnd) s = Machine.execTransitionEnd s := rfl
theorem exec_turnRoundRxRelease (s : State) : exec (.turnRoundRxRelease) s = Machine.execTurnRoundRxRelease s := rfl
theorem exec_calStepDone (hpGain : Half) (devErr : Byte) (s : State) : exec (.calStepDone hpGain devErr) s = Machine.execCalStepDone hpGain devErr s := rfl
theorem exec_autoCalStart (s : State) : exec (.autoCalStart) s = Machine.execAutoCalStart s := rfl
theorem exec_channelizerUpdate (s : State) : exec (.channelizerUpdate) s = Machine.execChannelizerUpdate s := rfl
theorem exec_preambleDetect (slice : Nat) (power : Int) (s : State) : exec (.preambleDetect slice power) s = Machine.execPreambleDetect slice power s := rfl
theorem exec_syncMatch (slice : Nat) (lo hi : Half) (rssi : Int) (phase : Byte) (s : State) : exec (.syncMatch slice lo hi rssi phase) s = Machine.execSyncMatch slice lo hi rssi phase s := rfl
theorem exec_syncSearchTimeout (slice : Nat) (s : State) : exec (.syncSearchTimeout slice) s = Machine.execSyncSearchTimeout slice s := rfl
theorem exec_headerCheck (slice : Nat) (hdr : PhyHeader) (s : State) : exec (.headerCheck slice hdr) s = Machine.execHeaderCheck slice hdr s := rfl
theorem exec_captureSwitch (unit : RxUnit) (power : Int) (s : State) : exec (.captureSwitch unit power) s = Machine.execCaptureSwitch unit power s := rfl
theorem exec_rxDataBlock (unit : RxUnit) (bytes : List Byte) (s : State) : exec (.rxDataBlock unit bytes) s = Machine.execRxDataBlock unit bytes s := rfl
theorem exec_macHeaderParsed (unit : RxUnit) (s : State) : exec (.macHeaderParsed unit) s = Machine.execMacHeaderParsed unit s := rfl
theorem exec_rxFrameEnd (unit : RxUnit) (meas : Measures) (s : State) : exec (.rxFrameEnd unit meas) s = Machine.execRxFrameEnd unit meas s := rfl
theorem exec_frameVerdict (unit : RxUnit) (s : State) : exec (.frameVerdict unit) s = Machine.execFrameVerdict unit s := rfl
theorem exec_stfDetect (lane : Nat) (power : Int) (s : State) : exec (.stfDetect lane power) s = Machine.execStfDetect lane power s := rfl
theorem exec_ltfEnd (lane : Nat) (rssi : Int) (phase : Byte) (s : State) : exec (.ltfEnd lane rssi phase) s = Machine.execLtfEnd lane rssi phase s := rfl
theorem exec_faoHeaderCheck (lane : Nat) (hdr : OfdmHeader) (s : State) : exec (.faoHeaderCheck lane hdr) s = Machine.execFaoHeaderCheck lane hdr s := rfl
theorem exec_segmentRequest (unit : RxUnit) (soft : List Soft) (final : Bool) (s : State) : exec (.segmentRequest unit soft final) s = Machine.execSegmentRequest unit soft final s := rfl
theorem exec_segmentDone (waitNs : Nat) (s : State) : exec (.segmentDone waitNs) s = Machine.execSegmentDone waitNs s := rfl
theorem exec_softBitOverflow (unit : RxUnit) (s : State) : exec (.softBitOverflow unit) s = Machine.execSoftBitOverflow unit s := rfl
theorem exec_slowTick (s : State) : exec (.slowTick) s = Machine.execSlowTick s := rfl
theorem exec_finePartStart (s : State) : exec (.finePartStart) s = Machine.execFinePartStart s := rfl
theorem exec_nowLo (ini : Initiator) (s : State) : exec (.nowLo ini) s = Machine.execNowLo ini s := rfl
theorem exec_alarmHiWrite (ini : Initiator) (n : Nat) (w : Word) (s : State) : exec (.alarmHiWrite ini n w) s = Machine.execAlarmHiWrite ini n w s := rfl
theorem exec_alarmLoWrite (ini : Initiator) (n : Nat) (w : Word) (s : State) : exec (.alarmLoWrite ini n w) s = Machine.execAlarmLoWrite ini n w s := rfl
theorem exec_alarmWriteEffect (n : Nat) (s : State) : exec (.alarmWriteEffect n) s = Machine.execAlarmWriteEffect n s := rfl
theorem exec_alarmFire (n : Nat) (s : State) : exec (.alarmFire n) s = Machine.execAlarmFire n s := rfl
theorem exec_alarmEnWrite (ini : Initiator) (w : Word) (s : State) : exec (.alarmEnWrite ini w) s = Machine.execAlarmEnWrite ini w s := rfl
theorem exec_start (t : Nat) (via : Via) (s : State) : exec (.start t via) s = Machine.execStart t via s := rfl
theorem exec_stop (t : Nat) (via : Via) (s : State) : exec (.stop t via) s = Machine.execStop t via s := rfl
theorem exec_clear (t : Nat) (via : Via) (s : State) : exec (.clear t via) s = Machine.execClear t via s := rfl
theorem exec_load (t : Nat) (ini : Initiator) (s : State) : exec (.load t ini) s = Machine.execLoad t ini s := rfl
theorem exec_capture (t : Nat) (k : Nat) (s : State) : exec (.capture t k) s = Machine.execCapture t k s := rfl
theorem exec_wrap (t : Nat) (s : State) : exec (.wrap t) s = Machine.execWrap t s := rfl
theorem exec_cmp (t : Nat) (k : Nat) (s : State) : exec (.cmp t k) s = Machine.execCmp t k s := rfl
theorem exec_lptSyncDone (s : State) : exec (.lptSyncDone) s = Machine.execLptSyncDone s := rfl
theorem exec_lptWrap (m : Nat) (s : State) : exec (.lptWrap m) s = Machine.execLptWrap m s := rfl
theorem exec_lptCmp (m : Nat) (s : State) : exec (.lptCmp m) s = Machine.execLptCmp m s := rfl
theorem exec_wdtEnable (ini : Initiator) (w : Word) (s : State) : exec (.wdtEnable ini w) s = Machine.execWdtEnable ini w s := rfl
theorem exec_feed (ini : Initiator) (w : Word) (s : State) : exec (.feed ini w) s = Machine.execFeed ini w s := rfl
theorem exec_prewarn (s : State) : exec (.prewarn) s = Machine.execPrewarn s := rfl
theorem exec_wdtExpiry (s : State) : exec (.wdtExpiry) s = Machine.execWdtExpiry s := rfl
theorem exec_arm (ini : Initiator) (s : State) : exec (.arm ini) s = Machine.execArm ini s := rfl
theorem exec_cancel (ini : Initiator) (s : State) : exec (.cancel ini) s = Machine.execCancel ini s := rfl
theorem exec_read (ini : Initiator) (s : State) : exec (.read ini) s = Machine.execRead ini s := rfl
theorem exec_cancelAll (ini : Initiator) (s : State) : exec (.cancelAll ini) s = Machine.execCancelAll ini s := rfl
theorem exec_handOver (s : State) : exec (.handOver) s = Machine.execHandOver s := rfl
theorem exec_entryStart (i : Nat) (s : State) : exec (.entryStart i) s = Machine.execEntryStart i s := rfl
theorem exec_entryCompletion (i : Nat) (s : State) : exec (.entryCompletion i) s = Machine.execEntryCompletion i s := rfl
theorem exec_receiveWindowClose (s : State) : exec (.receiveWindowClose) s = Machine.execReceiveWindowClose s := rfl
theorem exec_done (ini : Initiator) (s : State) : exec (.done ini) s = Machine.execDone ini s := rfl
theorem exec_runAhead (s : State) : exec (.runAhead) s = Machine.execRunAhead s := rfl
theorem exec_ccaWindowEnd (power : Int) (carrier : Bool) (s : State) : exec (.ccaWindowEnd power carrier) s = Machine.execCcaWindowEnd power carrier s := rfl
theorem exec_speculationStart (unit : RxUnit) (s : State) : exec (.speculationStart unit) s = Machine.execSpeculationStart unit s := rfl
theorem exec_contextBlockTake (s : State) : exec (.contextBlockTake) s = Machine.execContextBlockTake s := rfl
theorem exec_commit (unit : RxUnit) (s : State) : exec (.commit unit) s = Machine.execCommit unit s := rfl
theorem exec_squash (unit : RxUnit) (s : State) : exec (.squash unit) s = Machine.execSquash unit s := rfl
theorem exec_commitDeadline (unit : RxUnit) (s : State) : exec (.commitDeadline unit) s = Machine.execCommitDeadline unit s := rfl
theorem exec_ackFail (underrun : Bool) (s : State) : exec (.ackFail underrun) s = Machine.execAckFail underrun s := rfl
theorem exec_sharedRequestServed (u : SharedUnit) (s : State) : exec (.sharedRequestServed u) s = Machine.execSharedRequestServed u s := rfl
theorem exec_nbtLookupReturn (unit : RxUnit) (s : State) : exec (.nbtLookupReturn unit) s = Machine.execNbtLookupReturn unit s := rfl
theorem exec_alloc (ini : Initiator) (s : State) : exec (.alloc ini) s = Machine.execAlloc ini s := rfl
theorem exec_release (ini : Initiator) (w : Word) (s : State) : exec (.release ini w) s = Machine.execRelease ini w s := rfl
theorem exec_rxq (ini : Initiator) (s : State) : exec (.rxq ini) s = Machine.execRxq ini s := rfl
theorem exec_insert (ini : Initiator) (s : State) : exec (.insert ini) s = Machine.execInsert ini s := rfl
theorem exec_update (ini : Initiator) (mask : Byte) (s : State) : exec (.update ini mask) s = Machine.execUpdate ini mask s := rfl
theorem exec_delete (ini : Initiator) (s : State) : exec (.delete ini) s = Machine.execDelete ini s := rfl
theorem exec_lookup (ini : Initiator) (s : State) : exec (.lookup ini) s = Machine.execLookup ini s := rfl
theorem exec_nbtRead (ini : Initiator) (s : State) : exec (.nbtRead ini) s = Machine.execNbtRead ini s := rfl
theorem exec_nbtCommandDone (ini : Initiator) (s : State) : exec (.nbtCommandDone ini) s = Machine.execNbtCommandDone ini s := rfl
theorem exec_hvlEnable (ini : Initiator) (w : Word) (s : State) : exec (.hvlEnable ini w) s = Machine.execHvlEnable ini w s := rfl
theorem exec_trainingDone (port : HvlPort) (nbrPos : Nat) (lanes : Nat) (s : State) : exec (.trainingDone port nbrPos lanes) s = Machine.execTrainingDone port nbrPos lanes s := rfl
theorem exec_hello (p : Packet) (s : State) : exec (.hello p) s = Machine.execHello p s := rfl
theorem exec_welcome (p : Packet) (s : State) : exec (.welcome p) s = Machine.execWelcome p s := rfl
theorem exec_time (p : Packet) (s : State) : exec (.time p) s = Machine.execTime p s := rfl
theorem exec_hvlSyncEdge (s : State) : exec (.hvlSyncEdge) s = Machine.execHvlSyncEdge s := rfl
theorem exec_syncMarker (s : State) : exec (.syncMarker) s = Machine.execSyncMarker s := rfl
theorem exec_missingEdge (s : State) : exec (.missingEdge) s = Machine.execMissingEdge s := rfl
theorem exec_hvlLookup (p : Packet) (s : State) : exec (.hvlLookup p) s = Machine.execHvlLookup p s := rfl
theorem exec_reply (p : Packet) (latNs : Nat) (s : State) : exec (.reply p latNs) s = Machine.execReply p latNs s := rfl
theorem exec_verdict (p : Packet) (s : State) : exec (.verdict p) s = Machine.execVerdict p s := rfl
theorem exec_nbtCmd (p : Packet) (s : State) : exec (.nbtCmd p) s = Machine.execNbtCmd p s := rfl
theorem exec_nbtRes (p : Packet) (s : State) : exec (.nbtRes p) s = Machine.execNbtRes p s := rfl
theorem exec_entry (p : Packet) (s : State) : exec (.entry p) s = Machine.execEntry p s := rfl
theorem exec_entryRes (p : Packet) (s : State) : exec (.entryRes p) s = Machine.execEntryRes p s := rfl
theorem exec_frame (p : Packet) (s : State) : exec (.frame p) s = Machine.execFrame p s := rfl
theorem exec_fwdAck (p : Packet) (s : State) : exec (.fwdAck p) s = Machine.execFwdAck p s := rfl
theorem exec_forwardResend (s : State) : exec (.forwardResend) s = Machine.execForwardResend s := rfl
theorem exec_linkDown (p : Packet) (s : State) : exec (.linkDown p) s = Machine.execLinkDown p s := rfl
theorem exec_commitAt (p : Packet) (s : State) : exec (.commitAt p) s = Machine.execCommitAt p s := rfl
theorem exec_packetAck (port : HvlPort) (seq : Byte) (s : State) : exec (.packetAck port seq) s = Machine.execPacketAck port seq s := rfl
theorem exec_packetNak (port : HvlPort) (seq : Byte) (s : State) : exec (.packetNak port seq) s = Machine.execPacketNak port seq s := rfl
theorem exec_packetCrcFail (p : Packet) (code : Bool) (lane : Nat) (s : State) : exec (.packetCrcFail p code lane) s = Machine.execPacketCrcFail p code lane s := rfl
theorem exec_resendTimeout (port : HvlPort) (seq : Byte) (s : State) : exec (.resendTimeout port seq) s = Machine.execResendTimeout port seq s := rfl
theorem exec_retrainDone (port : HvlPort) (lanes : Nat) (s : State) : exec (.retrainDone port lanes) s = Machine.execRetrainDone port lanes s := rfl
theorem exec_hopDown (port : HvlPort) (s : State) : exec (.hopDown port) s = Machine.execHopDown port s := rfl
theorem exec_prbsTestDone (port : HvlPort) (err0 : Bool) (err1 : Bool) (s : State) : exec (.prbsTestDone port err0 err1) s = Machine.execPrbsTestDone port err0 err1 s := rfl
theorem exec_aesEcbEncrypt (ini : Initiator) (w : Word) (s : State) : exec (.aesEcbEncrypt ini w) s = Machine.execAesEcbEncrypt ini w s := rfl
theorem exec_aesCtr (ini : Initiator) (w : Word) (s : State) : exec (.aesCtr ini w) s = Machine.execAesCtr ini w s := rfl
theorem exec_ccmEncrypt (ini : Initiator) (w : Word) (s : State) : exec (.ccmEncrypt ini w) s = Machine.execCcmEncrypt ini w s := rfl
theorem exec_ccmDecrypt (ini : Initiator) (w : Word) (s : State) : exec (.ccmDecrypt ini w) s = Machine.execCcmDecrypt ini w s := rfl
theorem exec_sha256 (ini : Initiator) (w : Word) (s : State) : exec (.sha256 ini w) s = Machine.execSha256 ini w s := rfl
theorem exec_ecdsaP256Verify (ini : Initiator) (w : Word) (s : State) : exec (.ecdsaP256Verify ini w) s = Machine.execEcdsaP256Verify ini w s := rfl
theorem exec_jobDone (s : State) : exec (.jobDone) s = Machine.execJobDone s := rfl
theorem exec_rng (ini : Initiator) (s : State) : exec (.rng ini) s = Machine.execRng ini s := rfl
theorem exec_rngWord (w : Word) (ok : Bool) (s : State) : exec (.rngWord w ok) s = Machine.execRngWord w ok s := rfl
theorem exec_rngRestart (ini : Initiator) (s : State) : exec (.rngRestart ini) s = Machine.execRngRestart ini s := rfl
theorem exec_securityRequest (stream : SecStream) (s : State) : exec (.securityRequest stream) s = Machine.execSecurityRequest stream s := rfl
theorem exec_keyStoreWrite (addr : Word) (size : AccessSize) (w : Word) (s : State) : exec (.keyStoreWrite addr size w) s = Machine.execKeyStoreWrite addr size w s := rfl
theorem exec_setAttr (ini : Initiator) (slot : Nat) (s : State) : exec (.setAttr ini slot) s = Machine.execSetAttr ini slot s := rfl
theorem exec_eraseKey (ini : Initiator) (slot : Nat) (s : State) : exec (.eraseKey ini slot) s = Machine.execEraseKey ini slot s := rfl
theorem exec_eraseAll (ini : Initiator) (s : State) : exec (.eraseAll ini) s = Machine.execEraseAll ini s := rfl
theorem exec_importKey (ini : Initiator) (slot : Nat) (s : State) : exec (.importKey ini slot) s = Machine.execImportKey ini slot s := rfl
theorem exec_exportKey (ini : Initiator) (slot : Nat) (s : State) : exec (.exportKey ini slot) s = Machine.execExportKey ini slot s := rfl
theorem exec_readAttr (ini : Initiator) (slot : Nat) (s : State) : exec (.readAttr ini slot) s = Machine.execReadAttr ini slot s := rfl
theorem exec_otpWrite (ini : Initiator) (slot : Nat) (s : State) : exec (.otpWrite ini slot) s = Machine.execOtpWrite ini slot s := rfl
theorem exec_kstCommandDone (s : State) : exec (.kstCommandDone) s = Machine.execKstCommandDone s := rfl
theorem exec_dbgChal (nonce : List Byte) (s : State) : exec (.dbgChal nonce) s = Machine.execDbgChal nonce s := rfl
theorem exec_dbgResp (scope : Byte) (pub : List Byte) (sig : List Byte) (s : State) : exec (.dbgResp scope pub sig) s = Machine.execDbgResp scope pub sig s := rfl
theorem exec_claim (ini : Initiator) (s : State) : exec (.claim ini) s = Machine.execClaim ini s := rfl
theorem exec_complete (ini : Initiator) (w : Word) (s : State) : exec (.complete ini w) s = Machine.execComplete ini w s := rfl
theorem exec_cacheInv (ini : Initiator) (w : Word) (s : State) : exec (.cacheInv ini w) s = Machine.execCacheInv ini w s := rfl
theorem exec_mboxTx (ini : Initiator) (c : Nat) (w : Word) (s : State) : exec (.mboxTx ini c w) s = Machine.execMboxTx ini c w s := rfl
theorem exec_mboxRx (ini : Initiator) (c : Nat) (s : State) : exec (.mboxRx ini c) s = Machine.execMboxRx ini c s := rfl
theorem exec_debugHalt (hart : Nat) (s : State) : exec (.debugHalt hart) s = Machine.execDebugHalt hart s := rfl
theorem exec_debugResume (hart : Nat) (s : State) : exec (.debugResume hart) s = Machine.execDebugResume hart s := rfl
theorem exec_submit (ini : Initiator) (s : State) : exec (.submit ini) s = Machine.execSubmit ini s := rfl
theorem exec_program (units : Nat) (s : State) : exec (.program units) s = Machine.execProgram units s := rfl
theorem exec_erase (complete : Bool) (s : State) : exec (.erase complete) s = Machine.execErase complete s := rfl
theorem exec_readback (units : Nat) (weak : List Nat) (s : State) : exec (.readback units weak) s = Machine.execReadback units weak s := rfl
theorem exec_descDone (dur : Nat) (s : State) : exec (.descDone dur) s = Machine.execDescDone dur s := rfl
theorem exec_flcDone (ini : Initiator) (s : State) : exec (.flcDone ini) s = Machine.execFlcDone ini s := rfl
theorem exec_suspend (ini : Initiator) (s : State) : exec (.suspend ini) s = Machine.execSuspend ini s := rfl
theorem exec_resume (ini : Initiator) (s : State) : exec (.resume ini) s = Machine.execResume ini s := rfl
theorem exec_flcAbort (ini : Initiator) (s : State) : exec (.flcAbort ini) s = Machine.execFlcAbort ini s := rfl
theorem exec_autoResume (s : State) : exec (.autoResume) s = Machine.execAutoResume s := rfl
theorem exec_minRunEnd (s : State) : exec (.minRunEnd) s = Machine.execMinRunEnd s := rfl
theorem exec_qtx (ini : Initiator) (port : Nat) (w : Word) (s : State) : exec (.qtx ini port w) s = Machine.execQtx ini port w s := rfl
theorem exec_qrx (ini : Initiator) (port : Nat) (s : State) : exec (.qrx ini port) s = Machine.execQrx ini port s := rfl
theorem exec_flush (ini : Initiator) (port : Nat) (s : State) : exec (.flush ini port) s = Machine.execFlush ini port s := rfl
theorem exec_sptRelease (ini : Initiator) (port : Nat) (s : State) : exec (.sptRelease ini port) s = Machine.execSptRelease ini port s := rfl
theorem exec_pfInv (ini : Initiator) (s : State) : exec (.pfInv ini) s = Machine.execPfInv ini s := rfl
theorem exec_queueWordDone (port : Nat) (rx : Word) (s : State) : exec (.queueWordDone port rx) s = Machine.execQueueWordDone port rx s := rfl
theorem exec_holdExpired (port : Nat) (s : State) : exec (.holdExpired port) s = Machine.execHoldExpired port s := rfl
theorem exec_slaveWord (port : Nat) (rx : ClockedWord) (s : State) : exec (.slaveWord port rx) s = Machine.execSlaveWord port rx s := rfl
theorem exec_shortWord (port : Nat) (s : State) : exec (.shortWord port) s = Machine.execShortWord port s := rfl
theorem exec_windowRead (req : BusReq) (dev : List Byte) (s : State) : exec (.windowRead req dev) s = Machine.execWindowRead req dev s := rfl
theorem exec_windowWrite (req : BusReq) (s : State) : exec (.windowWrite req) s = Machine.execWindowWrite req s := rfl
theorem exec_writeBufferFlush (port : Nat) (s : State) : exec (.writeBufferFlush port) s = Machine.execWriteBufferFlush port s := rfl
theorem exec_statusPoll (port : Nat) (status : Byte) (s : State) : exec (.statusPoll port status) s = Machine.execStatusPoll port status s := rfl
theorem exec_pollTimeout (port : Nat) (s : State) : exec (.pollTimeout port) s = Machine.execPollTimeout port s := rfl
theorem exec_lineFillDone (dev : List Byte) (s : State) : exec (.lineFillDone dev) s = Machine.execLineFillDone dev s := rfl
theorem exec_lookAheadFill (s : State) : exec (.lookAheadFill) s = Machine.execLookAheadFill s := rfl
theorem exec_hspCsFall (mode3 : Bool) (s : State) : exec (.hspCsFall mode3) s = Machine.execHspCsFall mode3 s := rfl
theorem exec_nop (cmd : Word) (crc : Byte) (s : State) : exec (.nop cmd crc) s = Machine.execNop cmd crc s := rfl
theorem exec_hspRead (cmd : Word) (addr : Word) (crcs : HeaderCrcs) (late : Option Nat) (s : State) : exec (.hspRead cmd addr crcs late) s = Machine.execHspRead cmd addr crcs late s := rfl
theorem exec_hspWrite (cmd : Word) (addr : Word) (crcs : HeaderCrcs) (words : List HostWord) (s : State) : exec (.hspWrite cmd addr crcs words) s = Machine.execHspWrite cmd addr crcs words s := rfl
theorem exec_cut (s : State) : exec (.cut) s = Machine.execCut s := rfl
theorem exec_dbSet (ini : Initiator) (w : Word) (s : State) : exec (.dbSet ini w) s = Machine.execDbSet ini w s := rfl
theorem exec_doorbell (ini : Initiator) (w : Word) (s : State) : exec (.doorbell ini w) s = Machine.execDoorbell ini w s := rfl
theorem exec_eventSample (s : State) : exec (.eventSample) s = Machine.execEventSample s := rfl
theorem exec_taskTrigger (task : Nat) (s : State) : exec (.taskTrigger task) s = Machine.execTaskTrigger task s := rfl
theorem exec_swTrig (ini : Initiator) (w : Word) (s : State) : exec (.swTrig ini w) s = Machine.execSwTrig ini w s := rfl
theorem exec_taskTrig (ini : Initiator) (w : Word) (s : State) : exec (.taskTrig ini w) s = Machine.execTaskTrig ini w s := rfl
theorem exec_heldEventsSample (s : State) : exec (.heldEventsSample) s = Machine.execHeldEventsSample s := rfl
theorem exec_pinEvt (pin : Nat) (rising : Bool) (s : State) : exec (.pinEvt pin rising) s = Machine.execPinEvt pin rising s := rfl
theorem exec_gpioInt (pin : Nat) (level : Bool) (s : State) : exec (.gpioInt pin level) s = Machine.execGpioInt pin level s := rfl
theorem exec_req (ini : Initiator) (w : Word) (s : State) : exec (.req ini w) s = Machine.execReq ini w s := rfl
theorem exec_entryBegin (s : State) : exec (.entryBegin) s = Machine.execEntryBegin s := rfl
theorem exec_entryInstant (s : State) : exec (.entryInstant) s = Machine.execEntryInstant s := rfl
theorem exec_entryAborted (srcs : List Nat) (s : State) : exec (.entryAborted srcs) s = Machine.execEntryAborted srcs s := rfl
theorem exec_wake (srcs : List Nat) (s : State) : exec (.wake srcs) s = Machine.execWake srcs s := rfl
theorem exec_wakePin (pin : Nat) (level : Bool) (s : State) : exec (.wakePin pin level) s = Machine.execWakePin pin level s := rfl
theorem exec_radioOn (ini : Initiator) (w : Word) (s : State) : exec (.radioOn ini w) s = Machine.execRadioOn ini w s := rfl
theorem exec_radioDomainUp (s : State) : exec (.radioDomainUp) s = Machine.execRadioDomainUp s := rfl
theorem exec_bankClearDone (bank : Nat) (s : State) : exec (.bankClearDone bank) s = Machine.execBankClearDone bank s := rfl
theorem exec_opTarget (ini : Initiator) (w : Word) (s : State) : exec (.opTarget ini w) s = Machine.execOpTarget ini w s := rfl
theorem exec_opDone (s : State) : exec (.opDone) s = Machine.execOpDone s := rfl
theorem exec_clkCfgWrite (ini : Initiator) (w : Word) (s : State) : exec (.clkCfgWrite ini w) s = Machine.execClkCfgWrite ini w s := rfl
theorem exec_switched (s : State) : exec (.switched) s = Machine.execSwitched s := rfl
theorem exec_hfxoStable (s : State) : exec (.hfxoStable) s = Machine.execHfxoStable s := rfl
theorem exec_pllLock (s : State) : exec (.pllLock) s = Machine.execPllLock s := rfl
theorem exec_hfxoFail (s : State) : exec (.hfxoFail) s = Machine.execHfxoFail s := rfl
theorem exec_lfxoFail (s : State) : exec (.lfxoFail) s = Machine.execLfxoFail s := rfl
theorem exec_lfxoReturn (s : State) : exec (.lfxoReturn) s = Machine.execLfxoReturn s := rfl
theorem exec_voutCommand (s : State) : exec (.voutCommand) s = Machine.execVoutCommand s := rfl
theorem exec_operation (on : Bool) (s : State) : exec (.operation on) s = Machine.execOperation on s := rfl
theorem exec_statusByte (r : RrpReply) (s : State) : exec (.statusByte r) s = Machine.execStatusByte r s := rfl
theorem exec_rrpResend (s : State) : exec (.rrpResend) s = Machine.execRrpResend s := rfl
theorem exec_rrpTimeout (s : State) : exec (.rrpTimeout) s = Machine.execRrpTimeout s := rfl
theorem exec_por (regSel : Bool) (pos : Nat) (s : State) : exec (.por regSel pos) s = Machine.execPor regSel pos s := rfl
theorem exec_bor (regSel : Bool) (pos : Nat) (s : State) : exec (.bor regSel pos) s = Machine.execBor regSel pos s := rfl
theorem exec_pin (pos : Nat) (s : State) : exec (.pin pos) s = Machine.execPin pos s := rfl
theorem exec_wdt (pos : Nat) (s : State) : exec (.wdt pos) s = Machine.execWdt pos s := rfl
theorem exec_softChip (ini : Initiator) (reset : ResetWrite) (s : State) : exec (.softChip ini reset) s = Machine.execSoftChip ini reset s := rfl
theorem exec_updateFallback (pos : Nat) (s : State) : exec (.updateFallback pos) s = Machine.execUpdateFallback pos s := rfl
theorem exec_restartApc (ini : Initiator) (w : Word) (s : State) : exec (.restartApc ini w) s = Machine.execRestartApc ini w s := rfl
theorem exec_restartNtc (ini : Initiator) (w : Word) (s : State) : exec (.restartNtc ini w) s = Machine.execRestartNtc ini w s := rfl
theorem exec_flashSafePointReset (units : Nat) (s : State) : exec (.flashSafePointReset units) s = Machine.execFlashSafePointReset units s := rfl
theorem exec_bootStart (trims : TrimCopies) (s : State) : exec (.bootStart trims) s = Machine.execBootStart trims s := rfl
theorem exec_coreRelease (core : Core) (s : State) : exec (.coreRelease core) s = Machine.execCoreRelease core s := rfl
theorem exec_bootDone (s : State) : exec (.bootDone) s = Machine.execBootDone s := rfl
theorem exec_engineCodeLoad (e : Engine) (s : State) : exec (.engineCodeLoad e) s = Machine.execEngineCodeLoad e s := rfl
theorem exec_engReady (s : State) : exec (.engReady) s = Machine.execEngReady s := rfl
theorem exec_engineReload (e : Engine) (s : State) : exec (.engineReload e) s = Machine.execEngineReload e s := rfl
theorem exec_stage (ini : Initiator) (w : Word) (s : State) : exec (.stage ini w) s = Machine.execStage ini w s := rfl
theorem exec_stageDone (s : State) : exec (.stageDone) s = Machine.execStageDone s := rfl
theorem exec_activate (ini : Initiator) (w : Word) (s : State) : exec (.activate ini w) s = Machine.execActivate ini w s := rfl
theorem exec_abandon (ini : Initiator) (w : Word) (s : State) : exec (.abandon ini w) s = Machine.execAbandon ini w s := rfl
theorem exec_revert (ini : Initiator) (w : Word) (s : State) : exec (.revert ini w) s = Machine.execRevert ini w s := rfl
theorem exec_recopy (ini : Initiator) (w : Word) (s : State) : exec (.recopy ini w) s = Machine.execRecopy ini w s := rfl
theorem exec_commitSuspend (s : State) : exec (.commitSuspend) s = Machine.execCommitSuspend s := rfl
theorem exec_commitPoint (s : State) : exec (.commitPoint) s = Machine.execCommitPoint s := rfl
theorem exec_homeCopySector (ok : Bool) (s : State) : exec (.homeCopySector ok) s = Machine.execHomeCopySector ok s := rfl
theorem exec_engineChangeover (e : Engine) (block : List Byte) (s : State) : exec (.engineChangeover e block) s = Machine.execEngineChangeover e block s := rfl
theorem exec_engineAccept (e : Engine) (ok : Bool) (s : State) : exec (.engineAccept e ok) s = Machine.execEngineAccept e ok s := rfl
theorem exec_quietLimit (s : State) : exec (.quietLimit) s = Machine.execQuietLimit s := rfl
theorem exec_handover (ini : Initiator) (w : Word) (s : State) : exec (.handover ini w) s = Machine.execHandover ini w s := rfl
theorem exec_handoverWait (core : Core) (s : State) : exec (.handoverWait core) s = Machine.execHandoverWait core s := rfl
theorem exec_confirm (ini : Initiator) (w : Word) (s : State) : exec (.confirm ini w) s = Machine.execConfirm ini w s := rfl
theorem exec_confirmWindow (s : State) : exec (.confirmWindow) s = Machine.execConfirmWindow s := rfl
theorem exec_fallback (s : State) : exec (.fallback) s = Machine.execFallback s := rfl
theorem exec_fault (src : FaultSource) (s : State) : exec (.fault src) s = Machine.execFault src s := rfl
theorem exec_retry (unit : Nat) (ok : Bool) (s : State) : exec (.retry unit ok) s = Machine.execRetry unit ok s := rfl
theorem exec_recordRewriteDone (fails : List Nat) (s : State) : exec (.recordRewriteDone fails) s = Machine.execRecordRewriteDone fails s := rfl
theorem exec_retire (ini : Initiator) (unit : Nat) (s : State) : exec (.retire ini unit) s = Machine.execRetire ini unit s := rfl
theorem exec_unretire (ini : Initiator) (unit : Nat) (s : State) : exec (.unretire ini unit) s = Machine.execUnretire ini unit s := rfl
theorem exec_clearCount (ini : Initiator) (unit : Nat) (s : State) : exec (.clearCount ini unit) s = Machine.execClearCount ini unit s := rfl
theorem exec_rewrite (ini : Initiator) (unit : Nat) (s : State) : exec (.rewrite ini unit) s = Machine.execRewrite ini unit s := rfl
theorem exec_log (ini : Initiator) (s : State) : exec (.log ini) s = Machine.execLog ini s := rfl
theorem exec_test (ini : Initiator) (unit : Nat) (s : State) : exec (.test ini unit) s = Machine.execTest ini unit s := rfl
theorem exec_bstAbort (ini : Initiator) (s : State) : exec (.bstAbort ini) s = Machine.execBstAbort ini s := rfl
theorem exec_testIsolation (s : State) : exec (.testIsolation) s = Machine.execTestIsolation s := rfl
theorem exec_testDone (r : TestResult) (s : State) : exec (.testDone r) s = Machine.execTestDone r s := rfl
theorem exec_recArm (via : Via) (s : State) : exec (.recArm via) s = Machine.execRecArm via s := rfl
theorem exec_freeze (via : Via) (s : State) : exec (.freeze via) s = Machine.execFreeze via s := rfl
theorem exec_mark (ini : Initiator) (w : Word) (s : State) : exec (.mark ini w) s = Machine.execMark ini w s := rfl
theorem exec_postEnd (s : State) : exec (.postEnd) s = Machine.execPostEnd s := rfl
theorem exec_frozen (samples : List Byte) (bad : List Nat) (s : State) : exec (.frozen samples bad) s = Machine.execFrozen samples bad s := rfl
theorem exec_replay (ini : Initiator) (s : State) : exec (.replay ini) s = Machine.execReplay ini s := rfl
theorem exec_replayDone (frames : List ReplayFrame) (s : State) : exec (.replayDone frames) s = Machine.execReplayDone frames s := rfl
theorem exec_rpq (ini : Initiator) (s : State) : exec (.rpq ini) s = Machine.execRpq ini s := rfl
theorem exec_safePoint (units : Nat) (s : State) : exec (.safePoint units) s = Machine.execSafePoint units s := rfl
theorem exec_noTimeWithin16Ms (s : State) : exec (.noTimeWithin16Ms) s = Machine.execNoTimeWithin16Ms s := rfl
theorem exec_reservedTypePacket (p : Packet) (s : State) : exec (.reservedTypePacket p) s = Machine.execReservedTypePacket p s := rfl
theorem exec_hfxoFailsToStart (s : State) : exec (.hfxoFailsToStart) s = Machine.execHfxoFailsToStart s := rfl
theorem exec_borRelease (s : State) : exec (.borRelease) s = Machine.execBorRelease s := rfl

end Sys2Proof.Machine
end

