-- ==== Sys2Proof/Laws/Sparse.lean ====
section
/-! SUPPORT. The laws of sparse maps: a write is read back, every other address reads as before, and writing and clearing keep the
canonical form, in which equal contents are equal lists. -/

namespace Sys2Proof.Machine.Sparse

variable {α : Type} [DecidableEq α]

theorem wfFrom_mono {d : Nat → α} {lo lo' : Nat} {m : List (Nat × α)} (h : wfFrom d lo m = true) (hl : lo' ≤ lo) :
    wfFrom d lo' m = true := by
  cases m with
  | nil => rfl
  | cons c m =>
    obtain ⟨k, v⟩ := c
    simp only [wfFrom, Bool.and_eq_true, decide_eq_true_eq] at h ⊢
    exact ⟨⟨by omega, h.1.2⟩, h.2⟩

theorem wfFrom_put {d : Nat → α} {a lo : Nat} {v : α} (hv : v ≠ d a) (hl : lo ≤ a) (m : List (Nat × α))
    (h : wfFrom d lo m = true) : wfFrom d lo (put a v m) = true := by
  induction m generalizing lo with
  | nil => simp [put, wfFrom, hv, hl]
  | cons c m ih =>
    obtain ⟨k, x⟩ := c
    simp only [wfFrom, Bool.and_eq_true, decide_eq_true_eq] at h
    unfold put
    split
    · simp only [wfFrom, Bool.and_eq_true, decide_eq_true_eq]
      exact ⟨⟨hl, hv⟩, ⟨by omega, h.1.2⟩, h.2⟩
    · split
      · rename_i _ e
        subst e
        simp only [wfFrom, Bool.and_eq_true, decide_eq_true_eq]
        exact ⟨⟨hl, hv⟩, h.2⟩
      · simp only [wfFrom, Bool.and_eq_true, decide_eq_true_eq]
        exact ⟨h.1, ih (by omega) h.2⟩

theorem wfFrom_del {d : Nat → α} (a : Nat) {lo : Nat} (m : List (Nat × α)) (h : wfFrom d lo m = true) :
    wfFrom d lo (del a m) = true := by
  induction m generalizing lo with
  | nil => rfl
  | cons c m ih =>
    obtain ⟨k, x⟩ := c
    have h' := h
    simp only [wfFrom, Bool.and_eq_true, decide_eq_true_eq] at h
    unfold del
    split
    · exact wfFrom_mono h.2 (by omega)
    · split
      · exact h'
      · simp only [wfFrom, Bool.and_eq_true, decide_eq_true_eq]
        exact ⟨h.1, ih h.2⟩

theorem wfFrom_filter {d : Nat → α} (p : Nat × α → Bool) {lo : Nat} (m : List (Nat × α)) (h : wfFrom d lo m = true) :
    wfFrom d lo (m.filter p) = true := by
  induction m generalizing lo with
  | nil => rfl
  | cons c m ih =>
    obtain ⟨k, x⟩ := c
    simp only [wfFrom, Bool.and_eq_true, decide_eq_true_eq] at h
    simp only [List.filter_cons]
    split
    · simp only [wfFrom, Bool.and_eq_true, decide_eq_true_eq]
      exact ⟨h.1, ih h.2⟩
    · exact wfFrom_mono (ih h.2) (by omega)

/-- A write keeps the canonical form. -/
theorem wf_set {d : Nat → α} {m : List (Nat × α)} (a : Nat) (v : α) (h : wf d m = true) : wf d (set d m a v) = true := by
  unfold set
  split
  · exact wfFrom_del a m h
  · exact wfFrom_put (by assumption) (Nat.zero_le a) m h

/-- Dropping entries keeps the canonical form. -/
theorem wf_filter {d : Nat → α} {m : List (Nat × α)} (p : Nat × α → Bool) (h : wf d m = true) : wf d (m.filter p) = true :=
  wfFrom_filter p m h

/-- Clearing a range keeps the canonical form. -/
theorem wf_clear {d : Nat → α} {m : List (Nat × α)} (p : Nat → Bool) (h : wf d m = true) : wf d (clear p m) = true :=
  wfFrom_filter _ m h

omit [DecidableEq α] in
theorem get_put_self (d : Nat → α) (a : Nat) (v : α) (m : List (Nat × α)) : get d (put a v m) a = v := by
  induction m with
  | nil => simp [put, get]
  | cons c m ih =>
    obtain ⟨k, x⟩ := c
    unfold put
    split
    · simp [get]
    · split
      · simp [get]
      · rename_i h1 h2
        simp only [get, if_neg h2, if_neg h1]
        exact ih

omit [DecidableEq α] in
theorem get_put_of_ne (d : Nat → α) {a b : Nat} (v : α) (h : b ≠ a) (m : List (Nat × α)) : get d (put a v m) b = get d m b := by
  induction m with
  | nil =>
    simp only [put, get, if_neg h]
    split <;> rfl
  | cons c m ih =>
    obtain ⟨k, x⟩ := c
    unfold put
    split
    · simp only [get, if_neg h]
      split
      · rw [if_neg (by omega), if_pos (by omega)]
      · rfl
    · split
      · rename_i h2
        subst h2
        simp only [get, if_neg h]
      · simp only [get, ih]

/-- Below the first address of a canonical map every address reads its default. -/
theorem get_of_lt {d : Nat → α} {lo b : Nat} {m : List (Nat × α)} (h : wfFrom d lo m = true) (hb : b < lo) : get d m b = d b := by
  cases m with
  | nil => rfl
  | cons c m =>
    obtain ⟨k, v⟩ := c
    simp only [wfFrom, Bool.and_eq_true, decide_eq_true_eq] at h
    simp only [get]
    rw [if_neg (by omega), if_pos (by omega)]

theorem get_del {d : Nat → α} (a b : Nat) {lo : Nat} (m : List (Nat × α)) (h : wfFrom d lo m = true) :
    get d (del a m) b = if b = a then d a else get d m b := by
  induction m generalizing lo with
  | nil =>
    simp only [del, get]
    split
    · rename_i e
      rw [e]
    · rfl
  | cons c m ih =>
    obtain ⟨k, x⟩ := c
    simp only [wfFrom, Bool.and_eq_true, decide_eq_true_eq] at h
    have ih := ih h.2
    unfold del
    by_cases hk : a = k
    · subst hk
      rw [if_pos rfl]
      simp only [get]
      by_cases hb : b = a
      · subst hb
        rw [if_pos rfl]
        exact get_of_lt h.2 (by omega)
      · rw [if_neg hb, if_neg hb]
        split
        · exact get_of_lt h.2 (by omega)
        · rfl
    · rw [if_neg hk]
      by_cases hl : a < k
      · rw [if_pos hl]
        split
        · rename_i e
          subst e
          simp only [get]
          rw [if_neg hk, if_pos hl]
        · rfl
      · rw [if_neg hl]
        simp only [get, ih]
        by_cases hb : b = a
        · subst hb
          simp [hk, hl]
        · simp only [if_neg hb]

/-- What a write leaves at every address of a canonical map. -/
theorem get_set {d : Nat → α} {m : List (Nat × α)} (h : wf d m = true) (a b : Nat) (v : α) :
    get d (set d m a v) b = if b = a then v else get d m b := by
  unfold set
  split
  · rename_i e
    rw [get_del a b m h, e]
  · split
    · rename_i e
      rw [e]
      exact get_put_self d a v m
    · rename_i e
      exact get_put_of_ne d v e m

/-- A write is read back. -/
theorem get_set_self {d : Nat → α} {m : List (Nat × α)} (h : wf d m = true) (a : Nat) (v : α) : get d (set d m a v) a = v := by
  rw [get_set h, if_pos rfl]

/-- A write leaves every other address as it was. -/
theorem get_set_of_ne {d : Nat → α} {m : List (Nat × α)} (h : wf d m = true) {a b : Nat} (v : α) (hb : b ≠ a) :
    get d (set d m a v) b = get d m b := by
  rw [get_set h, if_neg hb]

/-- What is read after entries are dropped that `p` names. -/
theorem get_filter {d : Nat → α} (p : Nat → Bool) (b : Nat) {lo : Nat} (m : List (Nat × α)) (h : wfFrom d lo m = true) :
    get d (m.filter (fun c => p c.1)) b = if p b = true then get d m b else d b := by
  induction m generalizing lo with
  | nil => simp [get]
  | cons c m ih =>
    obtain ⟨k, x⟩ := c
    simp only [wfFrom, Bool.and_eq_true, decide_eq_true_eq] at h
    have ih := ih h.2
    simp only [List.filter_cons]
    by_cases hk : p k = true
    · rw [if_pos hk]
      simp only [get]
      by_cases hb : b = k
      · subst hb
        simp [hk]
      · rw [if_neg hb, if_neg hb, ih]
        split
        · simp
        · rfl
    · rw [if_neg hk, ih]
      simp only [get]
      by_cases hb : b = k
      · subst hb
        simp [hk]
      · rw [if_neg hb]
        by_cases hl : b < k
        · rw [if_pos hl, get_of_lt h.2 (by omega)]
        · rw [if_neg hl]

/-- What is read after a range is cleared. -/
theorem get_clear {d : Nat → α} {m : List (Nat × α)} (h : wf d m = true) (p : Nat → Bool) (b : Nat) :
    get d (clear p m) b = if p b = true then d b else get d m b := by
  have e := get_filter (d := d) (fun a => !p a) b m h
  unfold clear
  rw [e]
  cases p b <;> rfl

end Sys2Proof.Machine.Sparse
end

