-- ==== Sys2Proof/Laws/State.lean ====
section
/-! SUPPORT. What the named updates of the state change: one law for each field and update, so that no proof unfolds an update. -/

namespace Sys2Proof.Machine

@[simp] theorem State.with_regs_pending (s : State) (x : List (Nat × Word)) : ({ s with regs := x }).pending = s.pending := rfl
@[simp] theorem State.with_regs_variant (s : State) (x : List (Nat × Word)) : ({ s with regs := x }).variant = s.variant := rfl
@[simp] theorem State.with_regs_bank (s : State) (x : List (Nat × Word)) : ({ s with regs := x }).bank = s.bank := rfl
@[simp] theorem State.with_regs_mem (s : State) (x : List (Nat × Word)) : ({ s with regs := x }).mem = s.mem := rfl
@[simp] theorem State.with_regs_out (s : State) (x : List (Nat × Word)) : ({ s with regs := x }).out = s.out := rfl
@[simp] theorem State.with_regs_stalled (s : State) (x : List (Nat × Word)) : ({ s with regs := x }).stalled = s.stalled := rfl
@[simp] theorem State.with_regs_pages (s : State) (x : List (Nat × Word)) : ({ s with regs := x }).pages = s.pages := rfl
@[simp] theorem State.with_regs_freeCtr (s : State) (x : List (Nat × Word)) : ({ s with regs := x }).freeCtr = s.freeCtr := rfl
@[simp] theorem State.with_regs_count (s : State) (x : List (Nat × Word)) : ({ s with regs := x }).count = s.count := rfl
@[simp] theorem State.with_regs_alarms (s : State) (x : List (Nat × Word)) : ({ s with regs := x }).alarms = s.alarms := rfl
@[simp] theorem State.with_regs_tmrs (s : State) (x : List (Nat × Word)) : ({ s with regs := x }).tmrs = s.tmrs := rfl
@[simp] theorem State.with_regs_lpts (s : State) (x : List (Nat × Word)) : ({ s with regs := x }).lpts = s.lpts := rfl
@[simp] theorem State.with_regs_lptPend (s : State) (x : List (Nat × Word)) : ({ s with regs := x }).lptPend = s.lptPend := rfl
@[simp] theorem State.with_regs_wdtFeed (s : State) (x : List (Nat × Word)) : ({ s with regs := x }).wdtFeed = s.wdtFeed := rfl
@[simp] theorem State.with_regs_radio (s : State) (x : List (Nat × Word)) : ({ s with regs := x }).radio = s.radio := rfl
@[simp] theorem State.with_regs_rfe (s : State) (x : List (Nat × Word)) : ({ s with regs := x }).rfe = s.rfe := rfl
@[simp] theorem State.with_regs_crs (s : State) (x : List (Nat × Word)) : ({ s with regs := x }).crs = s.crs := rfl
@[simp] theorem State.with_regs_slices (s : State) (x : List (Nat × Word)) : ({ s with regs := x }).slices = s.slices := rfl
@[simp] theorem State.with_regs_lanes (s : State) (x : List (Nat × Word)) : ({ s with regs := x }).lanes = s.lanes := rfl
@[simp] theorem State.with_regs_comp (s : State) (x : List (Nat × Word)) : ({ s with regs := x }).comp = s.comp := rfl
@[simp] theorem State.with_regs_timeline (s : State) (x : List (Nat × Word)) : ({ s with regs := x }).timeline = s.timeline := rfl
@[simp] theorem State.with_regs_doneQ (s : State) (x : List (Nat × Word)) : ({ s with regs := x }).doneQ = s.doneQ := rfl
@[simp] theorem State.with_regs_ctxs (s : State) (x : List (Nat × Word)) : ({ s with regs := x }).ctxs = s.ctxs := rfl
@[simp] theorem State.with_regs_shared (s : State) (x : List (Nat × Word)) : ({ s with regs := x }).shared = s.shared := rfl
@[simp] theorem State.with_regs_inService (s : State) (x : List (Nat × Word)) : ({ s with regs := x }).inService = s.inService := rfl
@[simp] theorem State.with_regs_rxSeq (s : State) (x : List (Nat × Word)) : ({ s with regs := x }).rxSeq = s.rxSeq := rfl
@[simp] theorem State.with_regs_owners (s : State) (x : List (Nat × Word)) : ({ s with regs := x }).owners = s.owners := rfl
@[simp] theorem State.with_regs_rxq (s : State) (x : List (Nat × Word)) : ({ s with regs := x }).rxq = s.rxq := rfl
@[simp] theorem State.with_regs_stash (s : State) (x : List (Nat × Word)) : ({ s with regs := x }).stash = s.stash := rfl
@[simp] theorem State.with_regs_reserved (s : State) (x : List (Nat × Word)) : ({ s with regs := x }).reserved = s.reserved := rfl
@[simp] theorem State.with_regs_outUsed (s : State) (x : List (Nat × Word)) : ({ s with regs := x }).outUsed = s.outUsed := rfl
@[simp] theorem State.with_regs_nbtJobs (s : State) (x : List (Nat × Word)) : ({ s with regs := x }).nbtJobs = s.nbtJobs := rfl
@[simp] theorem State.with_regs_sec (s : State) (x : List (Nat × Word)) : ({ s with regs := x }).sec = s.sec := rfl
@[simp] theorem State.with_regs_hvl (s : State) (x : List (Nat × Word)) : ({ s with regs := x }).hvl = s.hvl := rfl
@[simp] theorem State.with_regs_fabric (s : State) (x : List (Nat × Word)) : ({ s with regs := x }).fabric = s.fabric := rfl
@[simp] theorem State.with_regs_recorder (s : State) (x : List (Nat × Word)) : ({ s with regs := x }).recorder = s.recorder := rfl
@[simp] theorem State.with_regs_bst (s : State) (x : List (Nat × Word)) : ({ s with regs := x }).bst = s.bst := rfl
@[simp] theorem State.with_regs_passed (s : State) (x : List (Nat × Word)) : ({ s with regs := x }).passed = s.passed := rfl
@[simp] theorem State.with_regs_flt (s : State) (x : List (Nat × Word)) : ({ s with regs := x }).flt = s.flt := rfl
@[simp] theorem State.with_regs_pwr (s : State) (x : List (Nat × Word)) : ({ s with regs := x }).pwr = s.pwr := rfl
@[simp] theorem State.with_regs_boot (s : State) (x : List (Nat × Word)) : ({ s with regs := x }).boot = s.boot := rfl
@[simp] theorem State.with_regs_upd (s : State) (x : List (Nat × Word)) : ({ s with regs := x }).upd = s.upd := rfl
@[simp] theorem State.with_regs_eng (s : State) (x : List (Nat × Word)) : ({ s with regs := x }).eng = s.eng := rfl
@[simp] theorem State.with_regs_cores (s : State) (x : List (Nat × Word)) : ({ s with regs := x }).cores = s.cores := rfl
@[simp] theorem State.with_regs_icu (s : State) (x : List (Nat × Word)) : ({ s with regs := x }).icu = s.icu := rfl
@[simp] theorem State.with_regs_flash (s : State) (x : List (Nat × Word)) : ({ s with regs := x }).flash = s.flash := rfl
@[simp] theorem State.with_regs_spts (s : State) (x : List (Nat × Word)) : ({ s with regs := x }).spts = s.spts := rfl
@[simp] theorem State.with_regs_prefetch (s : State) (x : List (Nat × Word)) : ({ s with regs := x }).prefetch = s.prefetch := rfl
@[simp] theorem State.with_regs_hsp (s : State) (x : List (Nat × Word)) : ({ s with regs := x }).hsp = s.hsp := rfl
@[simp] theorem State.with_regs_resetReq (s : State) (x : List (Nat × Word)) : ({ s with regs := x }).resetReq = s.resetReq := rfl

@[simp] theorem State.with_bank_pending (s : State) (x : List (Nat × Word)) : ({ s with bank := x }).pending = s.pending := rfl
@[simp] theorem State.with_bank_variant (s : State) (x : List (Nat × Word)) : ({ s with bank := x }).variant = s.variant := rfl
@[simp] theorem State.with_bank_regs (s : State) (x : List (Nat × Word)) : ({ s with bank := x }).regs = s.regs := rfl
@[simp] theorem State.with_bank_mem (s : State) (x : List (Nat × Word)) : ({ s with bank := x }).mem = s.mem := rfl
@[simp] theorem State.with_bank_out (s : State) (x : List (Nat × Word)) : ({ s with bank := x }).out = s.out := rfl
@[simp] theorem State.with_bank_stalled (s : State) (x : List (Nat × Word)) : ({ s with bank := x }).stalled = s.stalled := rfl
@[simp] theorem State.with_bank_pages (s : State) (x : List (Nat × Word)) : ({ s with bank := x }).pages = s.pages := rfl
@[simp] theorem State.with_bank_freeCtr (s : State) (x : List (Nat × Word)) : ({ s with bank := x }).freeCtr = s.freeCtr := rfl
@[simp] theorem State.with_bank_count (s : State) (x : List (Nat × Word)) : ({ s with bank := x }).count = s.count := rfl
@[simp] theorem State.with_bank_alarms (s : State) (x : List (Nat × Word)) : ({ s with bank := x }).alarms = s.alarms := rfl
@[simp] theorem State.with_bank_tmrs (s : State) (x : List (Nat × Word)) : ({ s with bank := x }).tmrs = s.tmrs := rfl
@[simp] theorem State.with_bank_lpts (s : State) (x : List (Nat × Word)) : ({ s with bank := x }).lpts = s.lpts := rfl
@[simp] theorem State.with_bank_lptPend (s : State) (x : List (Nat × Word)) : ({ s with bank := x }).lptPend = s.lptPend := rfl
@[simp] theorem State.with_bank_wdtFeed (s : State) (x : List (Nat × Word)) : ({ s with bank := x }).wdtFeed = s.wdtFeed := rfl
@[simp] theorem State.with_bank_radio (s : State) (x : List (Nat × Word)) : ({ s with bank := x }).radio = s.radio := rfl
@[simp] theorem State.with_bank_rfe (s : State) (x : List (Nat × Word)) : ({ s with bank := x }).rfe = s.rfe := rfl
@[simp] theorem State.with_bank_crs (s : State) (x : List (Nat × Word)) : ({ s with bank := x }).crs = s.crs := rfl
@[simp] theorem State.with_bank_slices (s : State) (x : List (Nat × Word)) : ({ s with bank := x }).slices = s.slices := rfl
@[simp] theorem State.with_bank_lanes (s : State) (x : List (Nat × Word)) : ({ s with bank := x }).lanes = s.lanes := rfl
@[simp] theorem State.with_bank_comp (s : State) (x : List (Nat × Word)) : ({ s with bank := x }).comp = s.comp := rfl
@[simp] theorem State.with_bank_timeline (s : State) (x : List (Nat × Word)) : ({ s with bank := x }).timeline = s.timeline := rfl
@[simp] theorem State.with_bank_doneQ (s : State) (x : List (Nat × Word)) : ({ s with bank := x }).doneQ = s.doneQ := rfl
@[simp] theorem State.with_bank_ctxs (s : State) (x : List (Nat × Word)) : ({ s with bank := x }).ctxs = s.ctxs := rfl
@[simp] theorem State.with_bank_shared (s : State) (x : List (Nat × Word)) : ({ s with bank := x }).shared = s.shared := rfl
@[simp] theorem State.with_bank_inService (s : State) (x : List (Nat × Word)) : ({ s with bank := x }).inService = s.inService := rfl
@[simp] theorem State.with_bank_rxSeq (s : State) (x : List (Nat × Word)) : ({ s with bank := x }).rxSeq = s.rxSeq := rfl
@[simp] theorem State.with_bank_owners (s : State) (x : List (Nat × Word)) : ({ s with bank := x }).owners = s.owners := rfl
@[simp] theorem State.with_bank_rxq (s : State) (x : List (Nat × Word)) : ({ s with bank := x }).rxq = s.rxq := rfl
@[simp] theorem State.with_bank_stash (s : State) (x : List (Nat × Word)) : ({ s with bank := x }).stash = s.stash := rfl
@[simp] theorem State.with_bank_reserved (s : State) (x : List (Nat × Word)) : ({ s with bank := x }).reserved = s.reserved := rfl
@[simp] theorem State.with_bank_outUsed (s : State) (x : List (Nat × Word)) : ({ s with bank := x }).outUsed = s.outUsed := rfl
@[simp] theorem State.with_bank_nbtJobs (s : State) (x : List (Nat × Word)) : ({ s with bank := x }).nbtJobs = s.nbtJobs := rfl
@[simp] theorem State.with_bank_sec (s : State) (x : List (Nat × Word)) : ({ s with bank := x }).sec = s.sec := rfl
@[simp] theorem State.with_bank_hvl (s : State) (x : List (Nat × Word)) : ({ s with bank := x }).hvl = s.hvl := rfl
@[simp] theorem State.with_bank_fabric (s : State) (x : List (Nat × Word)) : ({ s with bank := x }).fabric = s.fabric := rfl
@[simp] theorem State.with_bank_recorder (s : State) (x : List (Nat × Word)) : ({ s with bank := x }).recorder = s.recorder := rfl
@[simp] theorem State.with_bank_bst (s : State) (x : List (Nat × Word)) : ({ s with bank := x }).bst = s.bst := rfl
@[simp] theorem State.with_bank_passed (s : State) (x : List (Nat × Word)) : ({ s with bank := x }).passed = s.passed := rfl
@[simp] theorem State.with_bank_flt (s : State) (x : List (Nat × Word)) : ({ s with bank := x }).flt = s.flt := rfl
@[simp] theorem State.with_bank_pwr (s : State) (x : List (Nat × Word)) : ({ s with bank := x }).pwr = s.pwr := rfl
@[simp] theorem State.with_bank_boot (s : State) (x : List (Nat × Word)) : ({ s with bank := x }).boot = s.boot := rfl
@[simp] theorem State.with_bank_upd (s : State) (x : List (Nat × Word)) : ({ s with bank := x }).upd = s.upd := rfl
@[simp] theorem State.with_bank_eng (s : State) (x : List (Nat × Word)) : ({ s with bank := x }).eng = s.eng := rfl
@[simp] theorem State.with_bank_cores (s : State) (x : List (Nat × Word)) : ({ s with bank := x }).cores = s.cores := rfl
@[simp] theorem State.with_bank_icu (s : State) (x : List (Nat × Word)) : ({ s with bank := x }).icu = s.icu := rfl
@[simp] theorem State.with_bank_flash (s : State) (x : List (Nat × Word)) : ({ s with bank := x }).flash = s.flash := rfl
@[simp] theorem State.with_bank_spts (s : State) (x : List (Nat × Word)) : ({ s with bank := x }).spts = s.spts := rfl
@[simp] theorem State.with_bank_prefetch (s : State) (x : List (Nat × Word)) : ({ s with bank := x }).prefetch = s.prefetch := rfl
@[simp] theorem State.with_bank_hsp (s : State) (x : List (Nat × Word)) : ({ s with bank := x }).hsp = s.hsp := rfl
@[simp] theorem State.with_bank_resetReq (s : State) (x : List (Nat × Word)) : ({ s with bank := x }).resetReq = s.resetReq := rfl

@[simp] theorem State.with_mem_pending (s : State) (x : List Host.Cell) : ({ s with mem := x }).pending = s.pending := rfl
@[simp] theorem State.with_mem_variant (s : State) (x : List Host.Cell) : ({ s with mem := x }).variant = s.variant := rfl
@[simp] theorem State.with_mem_regs (s : State) (x : List Host.Cell) : ({ s with mem := x }).regs = s.regs := rfl
@[simp] theorem State.with_mem_bank (s : State) (x : List Host.Cell) : ({ s with mem := x }).bank = s.bank := rfl
@[simp] theorem State.with_mem_out (s : State) (x : List Host.Cell) : ({ s with mem := x }).out = s.out := rfl
@[simp] theorem State.with_mem_stalled (s : State) (x : List Host.Cell) : ({ s with mem := x }).stalled = s.stalled := rfl
@[simp] theorem State.with_mem_pages (s : State) (x : List Host.Cell) : ({ s with mem := x }).pages = s.pages := rfl
@[simp] theorem State.with_mem_freeCtr (s : State) (x : List Host.Cell) : ({ s with mem := x }).freeCtr = s.freeCtr := rfl
@[simp] theorem State.with_mem_count (s : State) (x : List Host.Cell) : ({ s with mem := x }).count = s.count := rfl
@[simp] theorem State.with_mem_alarms (s : State) (x : List Host.Cell) : ({ s with mem := x }).alarms = s.alarms := rfl
@[simp] theorem State.with_mem_tmrs (s : State) (x : List Host.Cell) : ({ s with mem := x }).tmrs = s.tmrs := rfl
@[simp] theorem State.with_mem_lpts (s : State) (x : List Host.Cell) : ({ s with mem := x }).lpts = s.lpts := rfl
@[simp] theorem State.with_mem_lptPend (s : State) (x : List Host.Cell) : ({ s with mem := x }).lptPend = s.lptPend := rfl
@[simp] theorem State.with_mem_wdtFeed (s : State) (x : List Host.Cell) : ({ s with mem := x }).wdtFeed = s.wdtFeed := rfl
@[simp] theorem State.with_mem_radio (s : State) (x : List Host.Cell) : ({ s with mem := x }).radio = s.radio := rfl
@[simp] theorem State.with_mem_rfe (s : State) (x : List Host.Cell) : ({ s with mem := x }).rfe = s.rfe := rfl
@[simp] theorem State.with_mem_crs (s : State) (x : List Host.Cell) : ({ s with mem := x }).crs = s.crs := rfl
@[simp] theorem State.with_mem_slices (s : State) (x : List Host.Cell) : ({ s with mem := x }).slices = s.slices := rfl
@[simp] theorem State.with_mem_lanes (s : State) (x : List Host.Cell) : ({ s with mem := x }).lanes = s.lanes := rfl
@[simp] theorem State.with_mem_comp (s : State) (x : List Host.Cell) : ({ s with mem := x }).comp = s.comp := rfl
@[simp] theorem State.with_mem_timeline (s : State) (x : List Host.Cell) : ({ s with mem := x }).timeline = s.timeline := rfl
@[simp] theorem State.with_mem_doneQ (s : State) (x : List Host.Cell) : ({ s with mem := x }).doneQ = s.doneQ := rfl
@[simp] theorem State.with_mem_ctxs (s : State) (x : List Host.Cell) : ({ s with mem := x }).ctxs = s.ctxs := rfl
@[simp] theorem State.with_mem_shared (s : State) (x : List Host.Cell) : ({ s with mem := x }).shared = s.shared := rfl
@[simp] theorem State.with_mem_inService (s : State) (x : List Host.Cell) : ({ s with mem := x }).inService = s.inService := rfl
@[simp] theorem State.with_mem_rxSeq (s : State) (x : List Host.Cell) : ({ s with mem := x }).rxSeq = s.rxSeq := rfl
@[simp] theorem State.with_mem_owners (s : State) (x : List Host.Cell) : ({ s with mem := x }).owners = s.owners := rfl
@[simp] theorem State.with_mem_rxq (s : State) (x : List Host.Cell) : ({ s with mem := x }).rxq = s.rxq := rfl
@[simp] theorem State.with_mem_stash (s : State) (x : List Host.Cell) : ({ s with mem := x }).stash = s.stash := rfl
@[simp] theorem State.with_mem_reserved (s : State) (x : List Host.Cell) : ({ s with mem := x }).reserved = s.reserved := rfl
@[simp] theorem State.with_mem_outUsed (s : State) (x : List Host.Cell) : ({ s with mem := x }).outUsed = s.outUsed := rfl
@[simp] theorem State.with_mem_nbtJobs (s : State) (x : List Host.Cell) : ({ s with mem := x }).nbtJobs = s.nbtJobs := rfl
@[simp] theorem State.with_mem_sec (s : State) (x : List Host.Cell) : ({ s with mem := x }).sec = s.sec := rfl
@[simp] theorem State.with_mem_hvl (s : State) (x : List Host.Cell) : ({ s with mem := x }).hvl = s.hvl := rfl
@[simp] theorem State.with_mem_fabric (s : State) (x : List Host.Cell) : ({ s with mem := x }).fabric = s.fabric := rfl
@[simp] theorem State.with_mem_recorder (s : State) (x : List Host.Cell) : ({ s with mem := x }).recorder = s.recorder := rfl
@[simp] theorem State.with_mem_bst (s : State) (x : List Host.Cell) : ({ s with mem := x }).bst = s.bst := rfl
@[simp] theorem State.with_mem_passed (s : State) (x : List Host.Cell) : ({ s with mem := x }).passed = s.passed := rfl
@[simp] theorem State.with_mem_flt (s : State) (x : List Host.Cell) : ({ s with mem := x }).flt = s.flt := rfl
@[simp] theorem State.with_mem_pwr (s : State) (x : List Host.Cell) : ({ s with mem := x }).pwr = s.pwr := rfl
@[simp] theorem State.with_mem_boot (s : State) (x : List Host.Cell) : ({ s with mem := x }).boot = s.boot := rfl
@[simp] theorem State.with_mem_upd (s : State) (x : List Host.Cell) : ({ s with mem := x }).upd = s.upd := rfl
@[simp] theorem State.with_mem_eng (s : State) (x : List Host.Cell) : ({ s with mem := x }).eng = s.eng := rfl
@[simp] theorem State.with_mem_cores (s : State) (x : List Host.Cell) : ({ s with mem := x }).cores = s.cores := rfl
@[simp] theorem State.with_mem_icu (s : State) (x : List Host.Cell) : ({ s with mem := x }).icu = s.icu := rfl
@[simp] theorem State.with_mem_flash (s : State) (x : List Host.Cell) : ({ s with mem := x }).flash = s.flash := rfl
@[simp] theorem State.with_mem_spts (s : State) (x : List Host.Cell) : ({ s with mem := x }).spts = s.spts := rfl
@[simp] theorem State.with_mem_prefetch (s : State) (x : List Host.Cell) : ({ s with mem := x }).prefetch = s.prefetch := rfl
@[simp] theorem State.with_mem_hsp (s : State) (x : List Host.Cell) : ({ s with mem := x }).hsp = s.hsp := rfl
@[simp] theorem State.with_mem_resetReq (s : State) (x : List Host.Cell) : ({ s with mem := x }).resetReq = s.resetReq := rfl

@[simp] theorem State.with_out_pending (s : State) (x : PerInit BusAnswer) : ({ s with out := x }).pending = s.pending := rfl
@[simp] theorem State.with_out_variant (s : State) (x : PerInit BusAnswer) : ({ s with out := x }).variant = s.variant := rfl
@[simp] theorem State.with_out_regs (s : State) (x : PerInit BusAnswer) : ({ s with out := x }).regs = s.regs := rfl
@[simp] theorem State.with_out_bank (s : State) (x : PerInit BusAnswer) : ({ s with out := x }).bank = s.bank := rfl
@[simp] theorem State.with_out_mem (s : State) (x : PerInit BusAnswer) : ({ s with out := x }).mem = s.mem := rfl
@[simp] theorem State.with_out_stalled (s : State) (x : PerInit BusAnswer) : ({ s with out := x }).stalled = s.stalled := rfl
@[simp] theorem State.with_out_pages (s : State) (x : PerInit BusAnswer) : ({ s with out := x }).pages = s.pages := rfl
@[simp] theorem State.with_out_freeCtr (s : State) (x : PerInit BusAnswer) : ({ s with out := x }).freeCtr = s.freeCtr := rfl
@[simp] theorem State.with_out_count (s : State) (x : PerInit BusAnswer) : ({ s with out := x }).count = s.count := rfl
@[simp] theorem State.with_out_alarms (s : State) (x : PerInit BusAnswer) : ({ s with out := x }).alarms = s.alarms := rfl
@[simp] theorem State.with_out_tmrs (s : State) (x : PerInit BusAnswer) : ({ s with out := x }).tmrs = s.tmrs := rfl
@[simp] theorem State.with_out_lpts (s : State) (x : PerInit BusAnswer) : ({ s with out := x }).lpts = s.lpts := rfl
@[simp] theorem State.with_out_lptPend (s : State) (x : PerInit BusAnswer) : ({ s with out := x }).lptPend = s.lptPend := rfl
@[simp] theorem State.with_out_wdtFeed (s : State) (x : PerInit BusAnswer) : ({ s with out := x }).wdtFeed = s.wdtFeed := rfl
@[simp] theorem State.with_out_radio (s : State) (x : PerInit BusAnswer) : ({ s with out := x }).radio = s.radio := rfl
@[simp] theorem State.with_out_rfe (s : State) (x : PerInit BusAnswer) : ({ s with out := x }).rfe = s.rfe := rfl
@[simp] theorem State.with_out_crs (s : State) (x : PerInit BusAnswer) : ({ s with out := x }).crs = s.crs := rfl
@[simp] theorem State.with_out_slices (s : State) (x : PerInit BusAnswer) : ({ s with out := x }).slices = s.slices := rfl
@[simp] theorem State.with_out_lanes (s : State) (x : PerInit BusAnswer) : ({ s with out := x }).lanes = s.lanes := rfl
@[simp] theorem State.with_out_comp (s : State) (x : PerInit BusAnswer) : ({ s with out := x }).comp = s.comp := rfl
@[simp] theorem State.with_out_timeline (s : State) (x : PerInit BusAnswer) : ({ s with out := x }).timeline = s.timeline := rfl
@[simp] theorem State.with_out_doneQ (s : State) (x : PerInit BusAnswer) : ({ s with out := x }).doneQ = s.doneQ := rfl
@[simp] theorem State.with_out_ctxs (s : State) (x : PerInit BusAnswer) : ({ s with out := x }).ctxs = s.ctxs := rfl
@[simp] theorem State.with_out_shared (s : State) (x : PerInit BusAnswer) : ({ s with out := x }).shared = s.shared := rfl
@[simp] theorem State.with_out_inService (s : State) (x : PerInit BusAnswer) : ({ s with out := x }).inService = s.inService := rfl
@[simp] theorem State.with_out_rxSeq (s : State) (x : PerInit BusAnswer) : ({ s with out := x }).rxSeq = s.rxSeq := rfl
@[simp] theorem State.with_out_owners (s : State) (x : PerInit BusAnswer) : ({ s with out := x }).owners = s.owners := rfl
@[simp] theorem State.with_out_rxq (s : State) (x : PerInit BusAnswer) : ({ s with out := x }).rxq = s.rxq := rfl
@[simp] theorem State.with_out_stash (s : State) (x : PerInit BusAnswer) : ({ s with out := x }).stash = s.stash := rfl
@[simp] theorem State.with_out_reserved (s : State) (x : PerInit BusAnswer) : ({ s with out := x }).reserved = s.reserved := rfl
@[simp] theorem State.with_out_outUsed (s : State) (x : PerInit BusAnswer) : ({ s with out := x }).outUsed = s.outUsed := rfl
@[simp] theorem State.with_out_nbtJobs (s : State) (x : PerInit BusAnswer) : ({ s with out := x }).nbtJobs = s.nbtJobs := rfl
@[simp] theorem State.with_out_sec (s : State) (x : PerInit BusAnswer) : ({ s with out := x }).sec = s.sec := rfl
@[simp] theorem State.with_out_hvl (s : State) (x : PerInit BusAnswer) : ({ s with out := x }).hvl = s.hvl := rfl
@[simp] theorem State.with_out_fabric (s : State) (x : PerInit BusAnswer) : ({ s with out := x }).fabric = s.fabric := rfl
@[simp] theorem State.with_out_recorder (s : State) (x : PerInit BusAnswer) : ({ s with out := x }).recorder = s.recorder := rfl
@[simp] theorem State.with_out_bst (s : State) (x : PerInit BusAnswer) : ({ s with out := x }).bst = s.bst := rfl
@[simp] theorem State.with_out_passed (s : State) (x : PerInit BusAnswer) : ({ s with out := x }).passed = s.passed := rfl
@[simp] theorem State.with_out_flt (s : State) (x : PerInit BusAnswer) : ({ s with out := x }).flt = s.flt := rfl
@[simp] theorem State.with_out_pwr (s : State) (x : PerInit BusAnswer) : ({ s with out := x }).pwr = s.pwr := rfl
@[simp] theorem State.with_out_boot (s : State) (x : PerInit BusAnswer) : ({ s with out := x }).boot = s.boot := rfl
@[simp] theorem State.with_out_upd (s : State) (x : PerInit BusAnswer) : ({ s with out := x }).upd = s.upd := rfl
@[simp] theorem State.with_out_eng (s : State) (x : PerInit BusAnswer) : ({ s with out := x }).eng = s.eng := rfl
@[simp] theorem State.with_out_cores (s : State) (x : PerInit BusAnswer) : ({ s with out := x }).cores = s.cores := rfl
@[simp] theorem State.with_out_icu (s : State) (x : PerInit BusAnswer) : ({ s with out := x }).icu = s.icu := rfl
@[simp] theorem State.with_out_flash (s : State) (x : PerInit BusAnswer) : ({ s with out := x }).flash = s.flash := rfl
@[simp] theorem State.with_out_spts (s : State) (x : PerInit BusAnswer) : ({ s with out := x }).spts = s.spts := rfl
@[simp] theorem State.with_out_prefetch (s : State) (x : PerInit BusAnswer) : ({ s with out := x }).prefetch = s.prefetch := rfl
@[simp] theorem State.with_out_hsp (s : State) (x : PerInit BusAnswer) : ({ s with out := x }).hsp = s.hsp := rfl
@[simp] theorem State.with_out_resetReq (s : State) (x : PerInit BusAnswer) : ({ s with out := x }).resetReq = s.resetReq := rfl

@[simp] theorem State.with_pages_pending (s : State) (x : List PageState) : ({ s with pages := x }).pending = s.pending := rfl
@[simp] theorem State.with_pages_variant (s : State) (x : List PageState) : ({ s with pages := x }).variant = s.variant := rfl
@[simp] theorem State.with_pages_regs (s : State) (x : List PageState) : ({ s with pages := x }).regs = s.regs := rfl
@[simp] theorem State.with_pages_bank (s : State) (x : List PageState) : ({ s with pages := x }).bank = s.bank := rfl
@[simp] theorem State.with_pages_mem (s : State) (x : List PageState) : ({ s with pages := x }).mem = s.mem := rfl
@[simp] theorem State.with_pages_out (s : State) (x : List PageState) : ({ s with pages := x }).out = s.out := rfl
@[simp] theorem State.with_pages_stalled (s : State) (x : List PageState) : ({ s with pages := x }).stalled = s.stalled := rfl
@[simp] theorem State.with_pages_freeCtr (s : State) (x : List PageState) : ({ s with pages := x }).freeCtr = s.freeCtr := rfl
@[simp] theorem State.with_pages_count (s : State) (x : List PageState) : ({ s with pages := x }).count = s.count := rfl
@[simp] theorem State.with_pages_alarms (s : State) (x : List PageState) : ({ s with pages := x }).alarms = s.alarms := rfl
@[simp] theorem State.with_pages_tmrs (s : State) (x : List PageState) : ({ s with pages := x }).tmrs = s.tmrs := rfl
@[simp] theorem State.with_pages_lpts (s : State) (x : List PageState) : ({ s with pages := x }).lpts = s.lpts := rfl
@[simp] theorem State.with_pages_lptPend (s : State) (x : List PageState) : ({ s with pages := x }).lptPend = s.lptPend := rfl
@[simp] theorem State.with_pages_wdtFeed (s : State) (x : List PageState) : ({ s with pages := x }).wdtFeed = s.wdtFeed := rfl
@[simp] theorem State.with_pages_radio (s : State) (x : List PageState) : ({ s with pages := x }).radio = s.radio := rfl
@[simp] theorem State.with_pages_rfe (s : State) (x : List PageState) : ({ s with pages := x }).rfe = s.rfe := rfl
@[simp] theorem State.with_pages_crs (s : State) (x : List PageState) : ({ s with pages := x }).crs = s.crs := rfl
@[simp] theorem State.with_pages_slices (s : State) (x : List PageState) : ({ s with pages := x }).slices = s.slices := rfl
@[simp] theorem State.with_pages_lanes (s : State) (x : List PageState) : ({ s with pages := x }).lanes = s.lanes := rfl
@[simp] theorem State.with_pages_comp (s : State) (x : List PageState) : ({ s with pages := x }).comp = s.comp := rfl
@[simp] theorem State.with_pages_timeline (s : State) (x : List PageState) : ({ s with pages := x }).timeline = s.timeline := rfl
@[simp] theorem State.with_pages_doneQ (s : State) (x : List PageState) : ({ s with pages := x }).doneQ = s.doneQ := rfl
@[simp] theorem State.with_pages_ctxs (s : State) (x : List PageState) : ({ s with pages := x }).ctxs = s.ctxs := rfl
@[simp] theorem State.with_pages_shared (s : State) (x : List PageState) : ({ s with pages := x }).shared = s.shared := rfl
@[simp] theorem State.with_pages_inService (s : State) (x : List PageState) : ({ s with pages := x }).inService = s.inService := rfl
@[simp] theorem State.with_pages_rxSeq (s : State) (x : List PageState) : ({ s with pages := x }).rxSeq = s.rxSeq := rfl
@[simp] theorem State.with_pages_owners (s : State) (x : List PageState) : ({ s with pages := x }).owners = s.owners := rfl
@[simp] theorem State.with_pages_rxq (s : State) (x : List PageState) : ({ s with pages := x }).rxq = s.rxq := rfl
@[simp] theorem State.with_pages_stash (s : State) (x : List PageState) : ({ s with pages := x }).stash = s.stash := rfl
@[simp] theorem State.with_pages_reserved (s : State) (x : List PageState) : ({ s with pages := x }).reserved = s.reserved := rfl
@[simp] theorem State.with_pages_outUsed (s : State) (x : List PageState) : ({ s with pages := x }).outUsed = s.outUsed := rfl
@[simp] theorem State.with_pages_nbtJobs (s : State) (x : List PageState) : ({ s with pages := x }).nbtJobs = s.nbtJobs := rfl
@[simp] theorem State.with_pages_sec (s : State) (x : List PageState) : ({ s with pages := x }).sec = s.sec := rfl
@[simp] theorem State.with_pages_hvl (s : State) (x : List PageState) : ({ s with pages := x }).hvl = s.hvl := rfl
@[simp] theorem State.with_pages_fabric (s : State) (x : List PageState) : ({ s with pages := x }).fabric = s.fabric := rfl
@[simp] theorem State.with_pages_recorder (s : State) (x : List PageState) : ({ s with pages := x }).recorder = s.recorder := rfl
@[simp] theorem State.with_pages_bst (s : State) (x : List PageState) : ({ s with pages := x }).bst = s.bst := rfl
@[simp] theorem State.with_pages_passed (s : State) (x : List PageState) : ({ s with pages := x }).passed = s.passed := rfl
@[simp] theorem State.with_pages_flt (s : State) (x : List PageState) : ({ s with pages := x }).flt = s.flt := rfl
@[simp] theorem State.with_pages_pwr (s : State) (x : List PageState) : ({ s with pages := x }).pwr = s.pwr := rfl
@[simp] theorem State.with_pages_boot (s : State) (x : List PageState) : ({ s with pages := x }).boot = s.boot := rfl
@[simp] theorem State.with_pages_upd (s : State) (x : List PageState) : ({ s with pages := x }).upd = s.upd := rfl
@[simp] theorem State.with_pages_eng (s : State) (x : List PageState) : ({ s with pages := x }).eng = s.eng := rfl
@[simp] theorem State.with_pages_cores (s : State) (x : List PageState) : ({ s with pages := x }).cores = s.cores := rfl
@[simp] theorem State.with_pages_icu (s : State) (x : List PageState) : ({ s with pages := x }).icu = s.icu := rfl
@[simp] theorem State.with_pages_flash (s : State) (x : List PageState) : ({ s with pages := x }).flash = s.flash := rfl
@[simp] theorem State.with_pages_spts (s : State) (x : List PageState) : ({ s with pages := x }).spts = s.spts := rfl
@[simp] theorem State.with_pages_prefetch (s : State) (x : List PageState) : ({ s with pages := x }).prefetch = s.prefetch := rfl
@[simp] theorem State.with_pages_hsp (s : State) (x : List PageState) : ({ s with pages := x }).hsp = s.hsp := rfl
@[simp] theorem State.with_pages_resetReq (s : State) (x : List PageState) : ({ s with pages := x }).resetReq = s.resetReq := rfl

@[simp] theorem State.with_owners_pending (s : State) (x : List Owner) : ({ s with owners := x }).pending = s.pending := rfl
@[simp] theorem State.with_owners_variant (s : State) (x : List Owner) : ({ s with owners := x }).variant = s.variant := rfl
@[simp] theorem State.with_owners_regs (s : State) (x : List Owner) : ({ s with owners := x }).regs = s.regs := rfl
@[simp] theorem State.with_owners_bank (s : State) (x : List Owner) : ({ s with owners := x }).bank = s.bank := rfl
@[simp] theorem State.with_owners_mem (s : State) (x : List Owner) : ({ s with owners := x }).mem = s.mem := rfl
@[simp] theorem State.with_owners_out (s : State) (x : List Owner) : ({ s with owners := x }).out = s.out := rfl
@[simp] theorem State.with_owners_stalled (s : State) (x : List Owner) : ({ s with owners := x }).stalled = s.stalled := rfl
@[simp] theorem State.with_owners_pages (s : State) (x : List Owner) : ({ s with owners := x }).pages = s.pages := rfl
@[simp] theorem State.with_owners_freeCtr (s : State) (x : List Owner) : ({ s with owners := x }).freeCtr = s.freeCtr := rfl
@[simp] theorem State.with_owners_count (s : State) (x : List Owner) : ({ s with owners := x }).count = s.count := rfl
@[simp] theorem State.with_owners_alarms (s : State) (x : List Owner) : ({ s with owners := x }).alarms = s.alarms := rfl
@[simp] theorem State.with_owners_tmrs (s : State) (x : List Owner) : ({ s with owners := x }).tmrs = s.tmrs := rfl
@[simp] theorem State.with_owners_lpts (s : State) (x : List Owner) : ({ s with owners := x }).lpts = s.lpts := rfl
@[simp] theorem State.with_owners_lptPend (s : State) (x : List Owner) : ({ s with owners := x }).lptPend = s.lptPend := rfl
@[simp] theorem State.with_owners_wdtFeed (s : State) (x : List Owner) : ({ s with owners := x }).wdtFeed = s.wdtFeed := rfl
@[simp] theorem State.with_owners_radio (s : State) (x : List Owner) : ({ s with owners := x }).radio = s.radio := rfl
@[simp] theorem State.with_owners_rfe (s : State) (x : List Owner) : ({ s with owners := x }).rfe = s.rfe := rfl
@[simp] theorem State.with_owners_crs (s : State) (x : List Owner) : ({ s with owners := x }).crs = s.crs := rfl
@[simp] theorem State.with_owners_slices (s : State) (x : List Owner) : ({ s with owners := x }).slices = s.slices := rfl
@[simp] theorem State.with_owners_lanes (s : State) (x : List Owner) : ({ s with owners := x }).lanes = s.lanes := rfl
@[simp] theorem State.with_owners_comp (s : State) (x : List Owner) : ({ s with owners := x }).comp = s.comp := rfl
@[simp] theorem State.with_owners_timeline (s : State) (x : List Owner) : ({ s with owners := x }).timeline = s.timeline := rfl
@[simp] theorem State.with_owners_doneQ (s : State) (x : List Owner) : ({ s with owners := x }).doneQ = s.doneQ := rfl
@[simp] theorem State.with_owners_ctxs (s : State) (x : List Owner) : ({ s with owners := x }).ctxs = s.ctxs := rfl
@[simp] theorem State.with_owners_shared (s : State) (x : List Owner) : ({ s with owners := x }).shared = s.shared := rfl
@[simp] theorem State.with_owners_inService (s : State) (x : List Owner) : ({ s with owners := x }).inService = s.inService := rfl
@[simp] theorem State.with_owners_rxSeq (s : State) (x : List Owner) : ({ s with owners := x }).rxSeq = s.rxSeq := rfl
@[simp] theorem State.with_owners_rxq (s : State) (x : List Owner) : ({ s with owners := x }).rxq = s.rxq := rfl
@[simp] theorem State.with_owners_stash (s : State) (x : List Owner) : ({ s with owners := x }).stash = s.stash := rfl
@[simp] theorem State.with_owners_reserved (s : State) (x : List Owner) : ({ s with owners := x }).reserved = s.reserved := rfl
@[simp] theorem State.with_owners_outUsed (s : State) (x : List Owner) : ({ s with owners := x }).outUsed = s.outUsed := rfl
@[simp] theorem State.with_owners_nbtJobs (s : State) (x : List Owner) : ({ s with owners := x }).nbtJobs = s.nbtJobs := rfl
@[simp] theorem State.with_owners_sec (s : State) (x : List Owner) : ({ s with owners := x }).sec = s.sec := rfl
@[simp] theorem State.with_owners_hvl (s : State) (x : List Owner) : ({ s with owners := x }).hvl = s.hvl := rfl
@[simp] theorem State.with_owners_fabric (s : State) (x : List Owner) : ({ s with owners := x }).fabric = s.fabric := rfl
@[simp] theorem State.with_owners_recorder (s : State) (x : List Owner) : ({ s with owners := x }).recorder = s.recorder := rfl
@[simp] theorem State.with_owners_bst (s : State) (x : List Owner) : ({ s with owners := x }).bst = s.bst := rfl
@[simp] theorem State.with_owners_passed (s : State) (x : List Owner) : ({ s with owners := x }).passed = s.passed := rfl
@[simp] theorem State.with_owners_flt (s : State) (x : List Owner) : ({ s with owners := x }).flt = s.flt := rfl
@[simp] theorem State.with_owners_pwr (s : State) (x : List Owner) : ({ s with owners := x }).pwr = s.pwr := rfl
@[simp] theorem State.with_owners_boot (s : State) (x : List Owner) : ({ s with owners := x }).boot = s.boot := rfl
@[simp] theorem State.with_owners_upd (s : State) (x : List Owner) : ({ s with owners := x }).upd = s.upd := rfl
@[simp] theorem State.with_owners_eng (s : State) (x : List Owner) : ({ s with owners := x }).eng = s.eng := rfl
@[simp] theorem State.with_owners_cores (s : State) (x : List Owner) : ({ s with owners := x }).cores = s.cores := rfl
@[simp] theorem State.with_owners_icu (s : State) (x : List Owner) : ({ s with owners := x }).icu = s.icu := rfl
@[simp] theorem State.with_owners_flash (s : State) (x : List Owner) : ({ s with owners := x }).flash = s.flash := rfl
@[simp] theorem State.with_owners_spts (s : State) (x : List Owner) : ({ s with owners := x }).spts = s.spts := rfl
@[simp] theorem State.with_owners_prefetch (s : State) (x : List Owner) : ({ s with owners := x }).prefetch = s.prefetch := rfl
@[simp] theorem State.with_owners_hsp (s : State) (x : List Owner) : ({ s with owners := x }).hsp = s.hsp := rfl
@[simp] theorem State.with_owners_resetReq (s : State) (x : List Owner) : ({ s with owners := x }).resetReq = s.resetReq := rfl

@[simp] theorem State.setReg_pending (s : State) (a : Nat) (w : Word) : (s.setReg a w).pending = s.pending := State.with_regs_pending s _
@[simp] theorem State.setReg_variant (s : State) (a : Nat) (w : Word) : (s.setReg a w).variant = s.variant := State.with_regs_variant s _
theorem State.setReg_regs (s : State) (a : Nat) (w : Word) : (s.setReg a w).regs = Sparse.set resetOf s.regs a w := rfl
@[simp] theorem State.setReg_bank (s : State) (a : Nat) (w : Word) : (s.setReg a w).bank = s.bank := State.with_regs_bank s _
@[simp] theorem State.setReg_mem (s : State) (a : Nat) (w : Word) : (s.setReg a w).mem = s.mem := State.with_regs_mem s _
@[simp] theorem State.setReg_out (s : State) (a : Nat) (w : Word) : (s.setReg a w).out = s.out := State.with_regs_out s _
@[simp] theorem State.setReg_stalled (s : State) (a : Nat) (w : Word) : (s.setReg a w).stalled = s.stalled := State.with_regs_stalled s _
@[simp] theorem State.setReg_pages (s : State) (a : Nat) (w : Word) : (s.setReg a w).pages = s.pages := State.with_regs_pages s _
@[simp] theorem State.setReg_freeCtr (s : State) (a : Nat) (w : Word) : (s.setReg a w).freeCtr = s.freeCtr := State.with_regs_freeCtr s _
@[simp] theorem State.setReg_count (s : State) (a : Nat) (w : Word) : (s.setReg a w).count = s.count := State.with_regs_count s _
@[simp] theorem State.setReg_alarms (s : State) (a : Nat) (w : Word) : (s.setReg a w).alarms = s.alarms := State.with_regs_alarms s _
@[simp] theorem State.setReg_tmrs (s : State) (a : Nat) (w : Word) : (s.setReg a w).tmrs = s.tmrs := State.with_regs_tmrs s _
@[simp] theorem State.setReg_lpts (s : State) (a : Nat) (w : Word) : (s.setReg a w).lpts = s.lpts := State.with_regs_lpts s _
@[simp] theorem State.setReg_lptPend (s : State) (a : Nat) (w : Word) : (s.setReg a w).lptPend = s.lptPend := State.with_regs_lptPend s _
@[simp] theorem State.setReg_wdtFeed (s : State) (a : Nat) (w : Word) : (s.setReg a w).wdtFeed = s.wdtFeed := State.with_regs_wdtFeed s _
@[simp] theorem State.setReg_radio (s : State) (a : Nat) (w : Word) : (s.setReg a w).radio = s.radio := State.with_regs_radio s _
@[simp] theorem State.setReg_rfe (s : State) (a : Nat) (w : Word) : (s.setReg a w).rfe = s.rfe := State.with_regs_rfe s _
@[simp] theorem State.setReg_crs (s : State) (a : Nat) (w : Word) : (s.setReg a w).crs = s.crs := State.with_regs_crs s _
@[simp] theorem State.setReg_slices (s : State) (a : Nat) (w : Word) : (s.setReg a w).slices = s.slices := State.with_regs_slices s _
@[simp] theorem State.setReg_lanes (s : State) (a : Nat) (w : Word) : (s.setReg a w).lanes = s.lanes := State.with_regs_lanes s _
@[simp] theorem State.setReg_comp (s : State) (a : Nat) (w : Word) : (s.setReg a w).comp = s.comp := State.with_regs_comp s _
@[simp] theorem State.setReg_timeline (s : State) (a : Nat) (w : Word) : (s.setReg a w).timeline = s.timeline := State.with_regs_timeline s _
@[simp] theorem State.setReg_doneQ (s : State) (a : Nat) (w : Word) : (s.setReg a w).doneQ = s.doneQ := State.with_regs_doneQ s _
@[simp] theorem State.setReg_ctxs (s : State) (a : Nat) (w : Word) : (s.setReg a w).ctxs = s.ctxs := State.with_regs_ctxs s _
@[simp] theorem State.setReg_shared (s : State) (a : Nat) (w : Word) : (s.setReg a w).shared = s.shared := State.with_regs_shared s _
@[simp] theorem State.setReg_inService (s : State) (a : Nat) (w : Word) : (s.setReg a w).inService = s.inService := State.with_regs_inService s _
@[simp] theorem State.setReg_rxSeq (s : State) (a : Nat) (w : Word) : (s.setReg a w).rxSeq = s.rxSeq := State.with_regs_rxSeq s _
@[simp] theorem State.setReg_owners (s : State) (a : Nat) (w : Word) : (s.setReg a w).owners = s.owners := State.with_regs_owners s _
@[simp] theorem State.setReg_rxq (s : State) (a : Nat) (w : Word) : (s.setReg a w).rxq = s.rxq := State.with_regs_rxq s _
@[simp] theorem State.setReg_stash (s : State) (a : Nat) (w : Word) : (s.setReg a w).stash = s.stash := State.with_regs_stash s _
@[simp] theorem State.setReg_reserved (s : State) (a : Nat) (w : Word) : (s.setReg a w).reserved = s.reserved := State.with_regs_reserved s _
@[simp] theorem State.setReg_outUsed (s : State) (a : Nat) (w : Word) : (s.setReg a w).outUsed = s.outUsed := State.with_regs_outUsed s _
@[simp] theorem State.setReg_nbtJobs (s : State) (a : Nat) (w : Word) : (s.setReg a w).nbtJobs = s.nbtJobs := State.with_regs_nbtJobs s _
@[simp] theorem State.setReg_sec (s : State) (a : Nat) (w : Word) : (s.setReg a w).sec = s.sec := State.with_regs_sec s _
@[simp] theorem State.setReg_hvl (s : State) (a : Nat) (w : Word) : (s.setReg a w).hvl = s.hvl := State.with_regs_hvl s _
@[simp] theorem State.setReg_fabric (s : State) (a : Nat) (w : Word) : (s.setReg a w).fabric = s.fabric := State.with_regs_fabric s _
@[simp] theorem State.setReg_recorder (s : State) (a : Nat) (w : Word) : (s.setReg a w).recorder = s.recorder := State.with_regs_recorder s _
@[simp] theorem State.setReg_bst (s : State) (a : Nat) (w : Word) : (s.setReg a w).bst = s.bst := State.with_regs_bst s _
@[simp] theorem State.setReg_passed (s : State) (a : Nat) (w : Word) : (s.setReg a w).passed = s.passed := State.with_regs_passed s _
@[simp] theorem State.setReg_flt (s : State) (a : Nat) (w : Word) : (s.setReg a w).flt = s.flt := State.with_regs_flt s _
@[simp] theorem State.setReg_pwr (s : State) (a : Nat) (w : Word) : (s.setReg a w).pwr = s.pwr := State.with_regs_pwr s _
@[simp] theorem State.setReg_boot (s : State) (a : Nat) (w : Word) : (s.setReg a w).boot = s.boot := State.with_regs_boot s _
@[simp] theorem State.setReg_upd (s : State) (a : Nat) (w : Word) : (s.setReg a w).upd = s.upd := State.with_regs_upd s _
@[simp] theorem State.setReg_eng (s : State) (a : Nat) (w : Word) : (s.setReg a w).eng = s.eng := State.with_regs_eng s _
@[simp] theorem State.setReg_cores (s : State) (a : Nat) (w : Word) : (s.setReg a w).cores = s.cores := State.with_regs_cores s _
@[simp] theorem State.setReg_icu (s : State) (a : Nat) (w : Word) : (s.setReg a w).icu = s.icu := State.with_regs_icu s _
@[simp] theorem State.setReg_flash (s : State) (a : Nat) (w : Word) : (s.setReg a w).flash = s.flash := State.with_regs_flash s _
@[simp] theorem State.setReg_spts (s : State) (a : Nat) (w : Word) : (s.setReg a w).spts = s.spts := State.with_regs_spts s _
@[simp] theorem State.setReg_prefetch (s : State) (a : Nat) (w : Word) : (s.setReg a w).prefetch = s.prefetch := State.with_regs_prefetch s _
@[simp] theorem State.setReg_hsp (s : State) (a : Nat) (w : Word) : (s.setReg a w).hsp = s.hsp := State.with_regs_hsp s _
@[simp] theorem State.setReg_resetReq (s : State) (a : Nat) (w : Word) : (s.setReg a w).resetReq = s.resetReq := State.with_regs_resetReq s _

@[simp] theorem State.put_pending (s : State) (f : Field) (v : Nat) : (s.put f v).pending = s.pending := State.with_regs_pending s _
@[simp] theorem State.put_variant (s : State) (f : Field) (v : Nat) : (s.put f v).variant = s.variant := State.with_regs_variant s _
theorem State.put_regs (s : State) (f : Field) (v : Nat) : (s.put f v).regs = Sparse.set resetOf s.regs f.addr (BitVec.ofNat 32 (putBits (s.reg f.addr).toNat f.lo f.width v)) := rfl
@[simp] theorem State.put_bank (s : State) (f : Field) (v : Nat) : (s.put f v).bank = s.bank := State.with_regs_bank s _
@[simp] theorem State.put_mem (s : State) (f : Field) (v : Nat) : (s.put f v).mem = s.mem := State.with_regs_mem s _
@[simp] theorem State.put_out (s : State) (f : Field) (v : Nat) : (s.put f v).out = s.out := State.with_regs_out s _
@[simp] theorem State.put_stalled (s : State) (f : Field) (v : Nat) : (s.put f v).stalled = s.stalled := State.with_regs_stalled s _
@[simp] theorem State.put_pages (s : State) (f : Field) (v : Nat) : (s.put f v).pages = s.pages := State.with_regs_pages s _
@[simp] theorem State.put_freeCtr (s : State) (f : Field) (v : Nat) : (s.put f v).freeCtr = s.freeCtr := State.with_regs_freeCtr s _
@[simp] theorem State.put_count (s : State) (f : Field) (v : Nat) : (s.put f v).count = s.count := State.with_regs_count s _
@[simp] theorem State.put_alarms (s : State) (f : Field) (v : Nat) : (s.put f v).alarms = s.alarms := State.with_regs_alarms s _
@[simp] theorem State.put_tmrs (s : State) (f : Field) (v : Nat) : (s.put f v).tmrs = s.tmrs := State.with_regs_tmrs s _
@[simp] theorem State.put_lpts (s : State) (f : Field) (v : Nat) : (s.put f v).lpts = s.lpts := State.with_regs_lpts s _
@[simp] theorem State.put_lptPend (s : State) (f : Field) (v : Nat) : (s.put f v).lptPend = s.lptPend := State.with_regs_lptPend s _
@[simp] theorem State.put_wdtFeed (s : State) (f : Field) (v : Nat) : (s.put f v).wdtFeed = s.wdtFeed := State.with_regs_wdtFeed s _
@[simp] theorem State.put_radio (s : State) (f : Field) (v : Nat) : (s.put f v).radio = s.radio := State.with_regs_radio s _
@[simp] theorem State.put_rfe (s : State) (f : Field) (v : Nat) : (s.put f v).rfe = s.rfe := State.with_regs_rfe s _
@[simp] theorem State.put_crs (s : State) (f : Field) (v : Nat) : (s.put f v).crs = s.crs := State.with_regs_crs s _
@[simp] theorem State.put_slices (s : State) (f : Field) (v : Nat) : (s.put f v).slices = s.slices := State.with_regs_slices s _
@[simp] theorem State.put_lanes (s : State) (f : Field) (v : Nat) : (s.put f v).lanes = s.lanes := State.with_regs_lanes s _
@[simp] theorem State.put_comp (s : State) (f : Field) (v : Nat) : (s.put f v).comp = s.comp := State.with_regs_comp s _
@[simp] theorem State.put_timeline (s : State) (f : Field) (v : Nat) : (s.put f v).timeline = s.timeline := State.with_regs_timeline s _
@[simp] theorem State.put_doneQ (s : State) (f : Field) (v : Nat) : (s.put f v).doneQ = s.doneQ := State.with_regs_doneQ s _
@[simp] theorem State.put_ctxs (s : State) (f : Field) (v : Nat) : (s.put f v).ctxs = s.ctxs := State.with_regs_ctxs s _
@[simp] theorem State.put_shared (s : State) (f : Field) (v : Nat) : (s.put f v).shared = s.shared := State.with_regs_shared s _
@[simp] theorem State.put_inService (s : State) (f : Field) (v : Nat) : (s.put f v).inService = s.inService := State.with_regs_inService s _
@[simp] theorem State.put_rxSeq (s : State) (f : Field) (v : Nat) : (s.put f v).rxSeq = s.rxSeq := State.with_regs_rxSeq s _
@[simp] theorem State.put_owners (s : State) (f : Field) (v : Nat) : (s.put f v).owners = s.owners := State.with_regs_owners s _
@[simp] theorem State.put_rxq (s : State) (f : Field) (v : Nat) : (s.put f v).rxq = s.rxq := State.with_regs_rxq s _
@[simp] theorem State.put_stash (s : State) (f : Field) (v : Nat) : (s.put f v).stash = s.stash := State.with_regs_stash s _
@[simp] theorem State.put_reserved (s : State) (f : Field) (v : Nat) : (s.put f v).reserved = s.reserved := State.with_regs_reserved s _
@[simp] theorem State.put_outUsed (s : State) (f : Field) (v : Nat) : (s.put f v).outUsed = s.outUsed := State.with_regs_outUsed s _
@[simp] theorem State.put_nbtJobs (s : State) (f : Field) (v : Nat) : (s.put f v).nbtJobs = s.nbtJobs := State.with_regs_nbtJobs s _
@[simp] theorem State.put_sec (s : State) (f : Field) (v : Nat) : (s.put f v).sec = s.sec := State.with_regs_sec s _
@[simp] theorem State.put_hvl (s : State) (f : Field) (v : Nat) : (s.put f v).hvl = s.hvl := State.with_regs_hvl s _
@[simp] theorem State.put_fabric (s : State) (f : Field) (v : Nat) : (s.put f v).fabric = s.fabric := State.with_regs_fabric s _
@[simp] theorem State.put_recorder (s : State) (f : Field) (v : Nat) : (s.put f v).recorder = s.recorder := State.with_regs_recorder s _
@[simp] theorem State.put_bst (s : State) (f : Field) (v : Nat) : (s.put f v).bst = s.bst := State.with_regs_bst s _
@[simp] theorem State.put_passed (s : State) (f : Field) (v : Nat) : (s.put f v).passed = s.passed := State.with_regs_passed s _
@[simp] theorem State.put_flt (s : State) (f : Field) (v : Nat) : (s.put f v).flt = s.flt := State.with_regs_flt s _
@[simp] theorem State.put_pwr (s : State) (f : Field) (v : Nat) : (s.put f v).pwr = s.pwr := State.with_regs_pwr s _
@[simp] theorem State.put_boot (s : State) (f : Field) (v : Nat) : (s.put f v).boot = s.boot := State.with_regs_boot s _
@[simp] theorem State.put_upd (s : State) (f : Field) (v : Nat) : (s.put f v).upd = s.upd := State.with_regs_upd s _
@[simp] theorem State.put_eng (s : State) (f : Field) (v : Nat) : (s.put f v).eng = s.eng := State.with_regs_eng s _
@[simp] theorem State.put_cores (s : State) (f : Field) (v : Nat) : (s.put f v).cores = s.cores := State.with_regs_cores s _
@[simp] theorem State.put_icu (s : State) (f : Field) (v : Nat) : (s.put f v).icu = s.icu := State.with_regs_icu s _
@[simp] theorem State.put_flash (s : State) (f : Field) (v : Nat) : (s.put f v).flash = s.flash := State.with_regs_flash s _
@[simp] theorem State.put_spts (s : State) (f : Field) (v : Nat) : (s.put f v).spts = s.spts := State.with_regs_spts s _
@[simp] theorem State.put_prefetch (s : State) (f : Field) (v : Nat) : (s.put f v).prefetch = s.prefetch := State.with_regs_prefetch s _
@[simp] theorem State.put_hsp (s : State) (f : Field) (v : Nat) : (s.put f v).hsp = s.hsp := State.with_regs_hsp s _
@[simp] theorem State.put_resetReq (s : State) (f : Field) (v : Nat) : (s.put f v).resetReq = s.resetReq := State.with_regs_resetReq s _

@[simp] theorem State.putInt_pending (s : State) (f : Field) (v : Int) : (s.putInt f v).pending = s.pending := State.with_regs_pending s _
@[simp] theorem State.putInt_variant (s : State) (f : Field) (v : Int) : (s.putInt f v).variant = s.variant := State.with_regs_variant s _
@[simp] theorem State.putInt_bank (s : State) (f : Field) (v : Int) : (s.putInt f v).bank = s.bank := State.with_regs_bank s _
@[simp] theorem State.putInt_mem (s : State) (f : Field) (v : Int) : (s.putInt f v).mem = s.mem := State.with_regs_mem s _
@[simp] theorem State.putInt_out (s : State) (f : Field) (v : Int) : (s.putInt f v).out = s.out := State.with_regs_out s _
@[simp] theorem State.putInt_stalled (s : State) (f : Field) (v : Int) : (s.putInt f v).stalled = s.stalled := State.with_regs_stalled s _
@[simp] theorem State.putInt_pages (s : State) (f : Field) (v : Int) : (s.putInt f v).pages = s.pages := State.with_regs_pages s _
@[simp] theorem State.putInt_freeCtr (s : State) (f : Field) (v : Int) : (s.putInt f v).freeCtr = s.freeCtr := State.with_regs_freeCtr s _
@[simp] theorem State.putInt_count (s : State) (f : Field) (v : Int) : (s.putInt f v).count = s.count := State.with_regs_count s _
@[simp] theorem State.putInt_alarms (s : State) (f : Field) (v : Int) : (s.putInt f v).alarms = s.alarms := State.with_regs_alarms s _
@[simp] theorem State.putInt_tmrs (s : State) (f : Field) (v : Int) : (s.putInt f v).tmrs = s.tmrs := State.with_regs_tmrs s _
@[simp] theorem State.putInt_lpts (s : State) (f : Field) (v : Int) : (s.putInt f v).lpts = s.lpts := State.with_regs_lpts s _
@[simp] theorem State.putInt_lptPend (s : State) (f : Field) (v : Int) : (s.putInt f v).lptPend = s.lptPend := State.with_regs_lptPend s _
@[simp] theorem State.putInt_wdtFeed (s : State) (f : Field) (v : Int) : (s.putInt f v).wdtFeed = s.wdtFeed := State.with_regs_wdtFeed s _
@[simp] theorem State.putInt_radio (s : State) (f : Field) (v : Int) : (s.putInt f v).radio = s.radio := State.with_regs_radio s _
@[simp] theorem State.putInt_rfe (s : State) (f : Field) (v : Int) : (s.putInt f v).rfe = s.rfe := State.with_regs_rfe s _
@[simp] theorem State.putInt_crs (s : State) (f : Field) (v : Int) : (s.putInt f v).crs = s.crs := State.with_regs_crs s _
@[simp] theorem State.putInt_slices (s : State) (f : Field) (v : Int) : (s.putInt f v).slices = s.slices := State.with_regs_slices s _
@[simp] theorem State.putInt_lanes (s : State) (f : Field) (v : Int) : (s.putInt f v).lanes = s.lanes := State.with_regs_lanes s _
@[simp] theorem State.putInt_comp (s : State) (f : Field) (v : Int) : (s.putInt f v).comp = s.comp := State.with_regs_comp s _
@[simp] theorem State.putInt_timeline (s : State) (f : Field) (v : Int) : (s.putInt f v).timeline = s.timeline := State.with_regs_timeline s _
@[simp] theorem State.putInt_doneQ (s : State) (f : Field) (v : Int) : (s.putInt f v).doneQ = s.doneQ := State.with_regs_doneQ s _
@[simp] theorem State.putInt_ctxs (s : State) (f : Field) (v : Int) : (s.putInt f v).ctxs = s.ctxs := State.with_regs_ctxs s _
@[simp] theorem State.putInt_shared (s : State) (f : Field) (v : Int) : (s.putInt f v).shared = s.shared := State.with_regs_shared s _
@[simp] theorem State.putInt_inService (s : State) (f : Field) (v : Int) : (s.putInt f v).inService = s.inService := State.with_regs_inService s _
@[simp] theorem State.putInt_rxSeq (s : State) (f : Field) (v : Int) : (s.putInt f v).rxSeq = s.rxSeq := State.with_regs_rxSeq s _
@[simp] theorem State.putInt_owners (s : State) (f : Field) (v : Int) : (s.putInt f v).owners = s.owners := State.with_regs_owners s _
@[simp] theorem State.putInt_rxq (s : State) (f : Field) (v : Int) : (s.putInt f v).rxq = s.rxq := State.with_regs_rxq s _
@[simp] theorem State.putInt_stash (s : State) (f : Field) (v : Int) : (s.putInt f v).stash = s.stash := State.with_regs_stash s _
@[simp] theorem State.putInt_reserved (s : State) (f : Field) (v : Int) : (s.putInt f v).reserved = s.reserved := State.with_regs_reserved s _
@[simp] theorem State.putInt_outUsed (s : State) (f : Field) (v : Int) : (s.putInt f v).outUsed = s.outUsed := State.with_regs_outUsed s _
@[simp] theorem State.putInt_nbtJobs (s : State) (f : Field) (v : Int) : (s.putInt f v).nbtJobs = s.nbtJobs := State.with_regs_nbtJobs s _
@[simp] theorem State.putInt_sec (s : State) (f : Field) (v : Int) : (s.putInt f v).sec = s.sec := State.with_regs_sec s _
@[simp] theorem State.putInt_hvl (s : State) (f : Field) (v : Int) : (s.putInt f v).hvl = s.hvl := State.with_regs_hvl s _
@[simp] theorem State.putInt_fabric (s : State) (f : Field) (v : Int) : (s.putInt f v).fabric = s.fabric := State.with_regs_fabric s _
@[simp] theorem State.putInt_recorder (s : State) (f : Field) (v : Int) : (s.putInt f v).recorder = s.recorder := State.with_regs_recorder s _
@[simp] theorem State.putInt_bst (s : State) (f : Field) (v : Int) : (s.putInt f v).bst = s.bst := State.with_regs_bst s _
@[simp] theorem State.putInt_passed (s : State) (f : Field) (v : Int) : (s.putInt f v).passed = s.passed := State.with_regs_passed s _
@[simp] theorem State.putInt_flt (s : State) (f : Field) (v : Int) : (s.putInt f v).flt = s.flt := State.with_regs_flt s _
@[simp] theorem State.putInt_pwr (s : State) (f : Field) (v : Int) : (s.putInt f v).pwr = s.pwr := State.with_regs_pwr s _
@[simp] theorem State.putInt_boot (s : State) (f : Field) (v : Int) : (s.putInt f v).boot = s.boot := State.with_regs_boot s _
@[simp] theorem State.putInt_upd (s : State) (f : Field) (v : Int) : (s.putInt f v).upd = s.upd := State.with_regs_upd s _
@[simp] theorem State.putInt_eng (s : State) (f : Field) (v : Int) : (s.putInt f v).eng = s.eng := State.with_regs_eng s _
@[simp] theorem State.putInt_cores (s : State) (f : Field) (v : Int) : (s.putInt f v).cores = s.cores := State.with_regs_cores s _
@[simp] theorem State.putInt_icu (s : State) (f : Field) (v : Int) : (s.putInt f v).icu = s.icu := State.with_regs_icu s _
@[simp] theorem State.putInt_flash (s : State) (f : Field) (v : Int) : (s.putInt f v).flash = s.flash := State.with_regs_flash s _
@[simp] theorem State.putInt_spts (s : State) (f : Field) (v : Int) : (s.putInt f v).spts = s.spts := State.with_regs_spts s _
@[simp] theorem State.putInt_prefetch (s : State) (f : Field) (v : Int) : (s.putInt f v).prefetch = s.prefetch := State.with_regs_prefetch s _
@[simp] theorem State.putInt_hsp (s : State) (f : Field) (v : Int) : (s.putInt f v).hsp = s.hsp := State.with_regs_hsp s _
@[simp] theorem State.putInt_resetReq (s : State) (f : Field) (v : Int) : (s.putInt f v).resetReq = s.resetReq := State.with_regs_resetReq s _

@[simp] theorem State.setPageSt_pending (s : State) (p v : Nat) : (s.setPageSt p v).pending = s.pending := State.with_regs_pending s _
@[simp] theorem State.setPageSt_variant (s : State) (p v : Nat) : (s.setPageSt p v).variant = s.variant := State.with_regs_variant s _
@[simp] theorem State.setPageSt_bank (s : State) (p v : Nat) : (s.setPageSt p v).bank = s.bank := State.with_regs_bank s _
@[simp] theorem State.setPageSt_mem (s : State) (p v : Nat) : (s.setPageSt p v).mem = s.mem := State.with_regs_mem s _
@[simp] theorem State.setPageSt_out (s : State) (p v : Nat) : (s.setPageSt p v).out = s.out := State.with_regs_out s _
@[simp] theorem State.setPageSt_stalled (s : State) (p v : Nat) : (s.setPageSt p v).stalled = s.stalled := State.with_regs_stalled s _
@[simp] theorem State.setPageSt_pages (s : State) (p v : Nat) : (s.setPageSt p v).pages = s.pages := State.with_regs_pages s _
@[simp] theorem State.setPageSt_freeCtr (s : State) (p v : Nat) : (s.setPageSt p v).freeCtr = s.freeCtr := State.with_regs_freeCtr s _
@[simp] theorem State.setPageSt_count (s : State) (p v : Nat) : (s.setPageSt p v).count = s.count := State.with_regs_count s _
@[simp] theorem State.setPageSt_alarms (s : State) (p v : Nat) : (s.setPageSt p v).alarms = s.alarms := State.with_regs_alarms s _
@[simp] theorem State.setPageSt_tmrs (s : State) (p v : Nat) : (s.setPageSt p v).tmrs = s.tmrs := State.with_regs_tmrs s _
@[simp] theorem State.setPageSt_lpts (s : State) (p v : Nat) : (s.setPageSt p v).lpts = s.lpts := State.with_regs_lpts s _
@[simp] theorem State.setPageSt_lptPend (s : State) (p v : Nat) : (s.setPageSt p v).lptPend = s.lptPend := State.with_regs_lptPend s _
@[simp] theorem State.setPageSt_wdtFeed (s : State) (p v : Nat) : (s.setPageSt p v).wdtFeed = s.wdtFeed := State.with_regs_wdtFeed s _
@[simp] theorem State.setPageSt_radio (s : State) (p v : Nat) : (s.setPageSt p v).radio = s.radio := State.with_regs_radio s _
@[simp] theorem State.setPageSt_rfe (s : State) (p v : Nat) : (s.setPageSt p v).rfe = s.rfe := State.with_regs_rfe s _
@[simp] theorem State.setPageSt_crs (s : State) (p v : Nat) : (s.setPageSt p v).crs = s.crs := State.with_regs_crs s _
@[simp] theorem State.setPageSt_slices (s : State) (p v : Nat) : (s.setPageSt p v).slices = s.slices := State.with_regs_slices s _
@[simp] theorem State.setPageSt_lanes (s : State) (p v : Nat) : (s.setPageSt p v).lanes = s.lanes := State.with_regs_lanes s _
@[simp] theorem State.setPageSt_comp (s : State) (p v : Nat) : (s.setPageSt p v).comp = s.comp := State.with_regs_comp s _
@[simp] theorem State.setPageSt_timeline (s : State) (p v : Nat) : (s.setPageSt p v).timeline = s.timeline := State.with_regs_timeline s _
@[simp] theorem State.setPageSt_doneQ (s : State) (p v : Nat) : (s.setPageSt p v).doneQ = s.doneQ := State.with_regs_doneQ s _
@[simp] theorem State.setPageSt_ctxs (s : State) (p v : Nat) : (s.setPageSt p v).ctxs = s.ctxs := State.with_regs_ctxs s _
@[simp] theorem State.setPageSt_shared (s : State) (p v : Nat) : (s.setPageSt p v).shared = s.shared := State.with_regs_shared s _
@[simp] theorem State.setPageSt_inService (s : State) (p v : Nat) : (s.setPageSt p v).inService = s.inService := State.with_regs_inService s _
@[simp] theorem State.setPageSt_rxSeq (s : State) (p v : Nat) : (s.setPageSt p v).rxSeq = s.rxSeq := State.with_regs_rxSeq s _
@[simp] theorem State.setPageSt_owners (s : State) (p v : Nat) : (s.setPageSt p v).owners = s.owners := State.with_regs_owners s _
@[simp] theorem State.setPageSt_rxq (s : State) (p v : Nat) : (s.setPageSt p v).rxq = s.rxq := State.with_regs_rxq s _
@[simp] theorem State.setPageSt_stash (s : State) (p v : Nat) : (s.setPageSt p v).stash = s.stash := State.with_regs_stash s _
@[simp] theorem State.setPageSt_reserved (s : State) (p v : Nat) : (s.setPageSt p v).reserved = s.reserved := State.with_regs_reserved s _
@[simp] theorem State.setPageSt_outUsed (s : State) (p v : Nat) : (s.setPageSt p v).outUsed = s.outUsed := State.with_regs_outUsed s _
@[simp] theorem State.setPageSt_nbtJobs (s : State) (p v : Nat) : (s.setPageSt p v).nbtJobs = s.nbtJobs := State.with_regs_nbtJobs s _
@[simp] theorem State.setPageSt_sec (s : State) (p v : Nat) : (s.setPageSt p v).sec = s.sec := State.with_regs_sec s _
@[simp] theorem State.setPageSt_hvl (s : State) (p v : Nat) : (s.setPageSt p v).hvl = s.hvl := State.with_regs_hvl s _
@[simp] theorem State.setPageSt_fabric (s : State) (p v : Nat) : (s.setPageSt p v).fabric = s.fabric := State.with_regs_fabric s _
@[simp] theorem State.setPageSt_recorder (s : State) (p v : Nat) : (s.setPageSt p v).recorder = s.recorder := State.with_regs_recorder s _
@[simp] theorem State.setPageSt_bst (s : State) (p v : Nat) : (s.setPageSt p v).bst = s.bst := State.with_regs_bst s _
@[simp] theorem State.setPageSt_passed (s : State) (p v : Nat) : (s.setPageSt p v).passed = s.passed := State.with_regs_passed s _
@[simp] theorem State.setPageSt_flt (s : State) (p v : Nat) : (s.setPageSt p v).flt = s.flt := State.with_regs_flt s _
@[simp] theorem State.setPageSt_pwr (s : State) (p v : Nat) : (s.setPageSt p v).pwr = s.pwr := State.with_regs_pwr s _
@[simp] theorem State.setPageSt_boot (s : State) (p v : Nat) : (s.setPageSt p v).boot = s.boot := State.with_regs_boot s _
@[simp] theorem State.setPageSt_upd (s : State) (p v : Nat) : (s.setPageSt p v).upd = s.upd := State.with_regs_upd s _
@[simp] theorem State.setPageSt_eng (s : State) (p v : Nat) : (s.setPageSt p v).eng = s.eng := State.with_regs_eng s _
@[simp] theorem State.setPageSt_cores (s : State) (p v : Nat) : (s.setPageSt p v).cores = s.cores := State.with_regs_cores s _
@[simp] theorem State.setPageSt_icu (s : State) (p v : Nat) : (s.setPageSt p v).icu = s.icu := State.with_regs_icu s _
@[simp] theorem State.setPageSt_flash (s : State) (p v : Nat) : (s.setPageSt p v).flash = s.flash := State.with_regs_flash s _
@[simp] theorem State.setPageSt_spts (s : State) (p v : Nat) : (s.setPageSt p v).spts = s.spts := State.with_regs_spts s _
@[simp] theorem State.setPageSt_prefetch (s : State) (p v : Nat) : (s.setPageSt p v).prefetch = s.prefetch := State.with_regs_prefetch s _
@[simp] theorem State.setPageSt_hsp (s : State) (p v : Nat) : (s.setPageSt p v).hsp = s.hsp := State.with_regs_hsp s _
@[simp] theorem State.setPageSt_resetReq (s : State) (p v : Nat) : (s.setPageSt p v).resetReq = s.resetReq := State.with_regs_resetReq s _

@[simp] theorem State.countWrap_pending (s : State) (f : Field) : (s.countWrap f).pending = s.pending := State.with_regs_pending s _
@[simp] theorem State.countWrap_variant (s : State) (f : Field) : (s.countWrap f).variant = s.variant := State.with_regs_variant s _
@[simp] theorem State.countWrap_bank (s : State) (f : Field) : (s.countWrap f).bank = s.bank := State.with_regs_bank s _
@[simp] theorem State.countWrap_mem (s : State) (f : Field) : (s.countWrap f).mem = s.mem := State.with_regs_mem s _
@[simp] theorem State.countWrap_out (s : State) (f : Field) : (s.countWrap f).out = s.out := State.with_regs_out s _
@[simp] theorem State.countWrap_stalled (s : State) (f : Field) : (s.countWrap f).stalled = s.stalled := State.with_regs_stalled s _
@[simp] theorem State.countWrap_pages (s : State) (f : Field) : (s.countWrap f).pages = s.pages := State.with_regs_pages s _
@[simp] theorem State.countWrap_freeCtr (s : State) (f : Field) : (s.countWrap f).freeCtr = s.freeCtr := State.with_regs_freeCtr s _
@[simp] theorem State.countWrap_count (s : State) (f : Field) : (s.countWrap f).count = s.count := State.with_regs_count s _
@[simp] theorem State.countWrap_alarms (s : State) (f : Field) : (s.countWrap f).alarms = s.alarms := State.with_regs_alarms s _
@[simp] theorem State.countWrap_tmrs (s : State) (f : Field) : (s.countWrap f).tmrs = s.tmrs := State.with_regs_tmrs s _
@[simp] theorem State.countWrap_lpts (s : State) (f : Field) : (s.countWrap f).lpts = s.lpts := State.with_regs_lpts s _
@[simp] theorem State.countWrap_lptPend (s : State) (f : Field) : (s.countWrap f).lptPend = s.lptPend := State.with_regs_lptPend s _
@[simp] theorem State.countWrap_wdtFeed (s : State) (f : Field) : (s.countWrap f).wdtFeed = s.wdtFeed := State.with_regs_wdtFeed s _
@[simp] theorem State.countWrap_radio (s : State) (f : Field) : (s.countWrap f).radio = s.radio := State.with_regs_radio s _
@[simp] theorem State.countWrap_rfe (s : State) (f : Field) : (s.countWrap f).rfe = s.rfe := State.with_regs_rfe s _
@[simp] theorem State.countWrap_crs (s : State) (f : Field) : (s.countWrap f).crs = s.crs := State.with_regs_crs s _
@[simp] theorem State.countWrap_slices (s : State) (f : Field) : (s.countWrap f).slices = s.slices := State.with_regs_slices s _
@[simp] theorem State.countWrap_lanes (s : State) (f : Field) : (s.countWrap f).lanes = s.lanes := State.with_regs_lanes s _
@[simp] theorem State.countWrap_comp (s : State) (f : Field) : (s.countWrap f).comp = s.comp := State.with_regs_comp s _
@[simp] theorem State.countWrap_timeline (s : State) (f : Field) : (s.countWrap f).timeline = s.timeline := State.with_regs_timeline s _
@[simp] theorem State.countWrap_doneQ (s : State) (f : Field) : (s.countWrap f).doneQ = s.doneQ := State.with_regs_doneQ s _
@[simp] theorem State.countWrap_ctxs (s : State) (f : Field) : (s.countWrap f).ctxs = s.ctxs := State.with_regs_ctxs s _
@[simp] theorem State.countWrap_shared (s : State) (f : Field) : (s.countWrap f).shared = s.shared := State.with_regs_shared s _
@[simp] theorem State.countWrap_inService (s : State) (f : Field) : (s.countWrap f).inService = s.inService := State.with_regs_inService s _
@[simp] theorem State.countWrap_rxSeq (s : State) (f : Field) : (s.countWrap f).rxSeq = s.rxSeq := State.with_regs_rxSeq s _
@[simp] theorem State.countWrap_owners (s : State) (f : Field) : (s.countWrap f).owners = s.owners := State.with_regs_owners s _
@[simp] theorem State.countWrap_rxq (s : State) (f : Field) : (s.countWrap f).rxq = s.rxq := State.with_regs_rxq s _
@[simp] theorem State.countWrap_stash (s : State) (f : Field) : (s.countWrap f).stash = s.stash := State.with_regs_stash s _
@[simp] theorem State.countWrap_reserved (s : State) (f : Field) : (s.countWrap f).reserved = s.reserved := State.with_regs_reserved s _
@[simp] theorem State.countWrap_outUsed (s : State) (f : Field) : (s.countWrap f).outUsed = s.outUsed := State.with_regs_outUsed s _
@[simp] theorem State.countWrap_nbtJobs (s : State) (f : Field) : (s.countWrap f).nbtJobs = s.nbtJobs := State.with_regs_nbtJobs s _
@[simp] theorem State.countWrap_sec (s : State) (f : Field) : (s.countWrap f).sec = s.sec := State.with_regs_sec s _
@[simp] theorem State.countWrap_hvl (s : State) (f : Field) : (s.countWrap f).hvl = s.hvl := State.with_regs_hvl s _
@[simp] theorem State.countWrap_fabric (s : State) (f : Field) : (s.countWrap f).fabric = s.fabric := State.with_regs_fabric s _
@[simp] theorem State.countWrap_recorder (s : State) (f : Field) : (s.countWrap f).recorder = s.recorder := State.with_regs_recorder s _
@[simp] theorem State.countWrap_bst (s : State) (f : Field) : (s.countWrap f).bst = s.bst := State.with_regs_bst s _
@[simp] theorem State.countWrap_passed (s : State) (f : Field) : (s.countWrap f).passed = s.passed := State.with_regs_passed s _
@[simp] theorem State.countWrap_flt (s : State) (f : Field) : (s.countWrap f).flt = s.flt := State.with_regs_flt s _
@[simp] theorem State.countWrap_pwr (s : State) (f : Field) : (s.countWrap f).pwr = s.pwr := State.with_regs_pwr s _
@[simp] theorem State.countWrap_boot (s : State) (f : Field) : (s.countWrap f).boot = s.boot := State.with_regs_boot s _
@[simp] theorem State.countWrap_upd (s : State) (f : Field) : (s.countWrap f).upd = s.upd := State.with_regs_upd s _
@[simp] theorem State.countWrap_eng (s : State) (f : Field) : (s.countWrap f).eng = s.eng := State.with_regs_eng s _
@[simp] theorem State.countWrap_cores (s : State) (f : Field) : (s.countWrap f).cores = s.cores := State.with_regs_cores s _
@[simp] theorem State.countWrap_icu (s : State) (f : Field) : (s.countWrap f).icu = s.icu := State.with_regs_icu s _
@[simp] theorem State.countWrap_flash (s : State) (f : Field) : (s.countWrap f).flash = s.flash := State.with_regs_flash s _
@[simp] theorem State.countWrap_spts (s : State) (f : Field) : (s.countWrap f).spts = s.spts := State.with_regs_spts s _
@[simp] theorem State.countWrap_prefetch (s : State) (f : Field) : (s.countWrap f).prefetch = s.prefetch := State.with_regs_prefetch s _
@[simp] theorem State.countWrap_hsp (s : State) (f : Field) : (s.countWrap f).hsp = s.hsp := State.with_regs_hsp s _
@[simp] theorem State.countWrap_resetReq (s : State) (f : Field) : (s.countWrap f).resetReq = s.resetReq := State.with_regs_resetReq s _

@[simp] theorem State.setRegI_pending (s : State) (i : Initiator) (a : Nat) (w : Word) : (s.setRegI i a w).pending = s.pending := State.with_bank_pending s _
@[simp] theorem State.setRegI_variant (s : State) (i : Initiator) (a : Nat) (w : Word) : (s.setRegI i a w).variant = s.variant := State.with_bank_variant s _
@[simp] theorem State.setRegI_regs (s : State) (i : Initiator) (a : Nat) (w : Word) : (s.setRegI i a w).regs = s.regs := State.with_bank_regs s _
theorem State.setRegI_bank (s : State) (i : Initiator) (a : Nat) (w : Word) : (s.setRegI i a w).bank = Sparse.set State.bankReset s.bank (State.bankKey i a) w := rfl
@[simp] theorem State.setRegI_mem (s : State) (i : Initiator) (a : Nat) (w : Word) : (s.setRegI i a w).mem = s.mem := State.with_bank_mem s _
@[simp] theorem State.setRegI_out (s : State) (i : Initiator) (a : Nat) (w : Word) : (s.setRegI i a w).out = s.out := State.with_bank_out s _
@[simp] theorem State.setRegI_stalled (s : State) (i : Initiator) (a : Nat) (w : Word) : (s.setRegI i a w).stalled = s.stalled := State.with_bank_stalled s _
@[simp] theorem State.setRegI_pages (s : State) (i : Initiator) (a : Nat) (w : Word) : (s.setRegI i a w).pages = s.pages := State.with_bank_pages s _
@[simp] theorem State.setRegI_freeCtr (s : State) (i : Initiator) (a : Nat) (w : Word) : (s.setRegI i a w).freeCtr = s.freeCtr := State.with_bank_freeCtr s _
@[simp] theorem State.setRegI_count (s : State) (i : Initiator) (a : Nat) (w : Word) : (s.setRegI i a w).count = s.count := State.with_bank_count s _
@[simp] theorem State.setRegI_alarms (s : State) (i : Initiator) (a : Nat) (w : Word) : (s.setRegI i a w).alarms = s.alarms := State.with_bank_alarms s _
@[simp] theorem State.setRegI_tmrs (s : State) (i : Initiator) (a : Nat) (w : Word) : (s.setRegI i a w).tmrs = s.tmrs := State.with_bank_tmrs s _
@[simp] theorem State.setRegI_lpts (s : State) (i : Initiator) (a : Nat) (w : Word) : (s.setRegI i a w).lpts = s.lpts := State.with_bank_lpts s _
@[simp] theorem State.setRegI_lptPend (s : State) (i : Initiator) (a : Nat) (w : Word) : (s.setRegI i a w).lptPend = s.lptPend := State.with_bank_lptPend s _
@[simp] theorem State.setRegI_wdtFeed (s : State) (i : Initiator) (a : Nat) (w : Word) : (s.setRegI i a w).wdtFeed = s.wdtFeed := State.with_bank_wdtFeed s _
@[simp] theorem State.setRegI_radio (s : State) (i : Initiator) (a : Nat) (w : Word) : (s.setRegI i a w).radio = s.radio := State.with_bank_radio s _
@[simp] theorem State.setRegI_rfe (s : State) (i : Initiator) (a : Nat) (w : Word) : (s.setRegI i a w).rfe = s.rfe := State.with_bank_rfe s _
@[simp] theorem State.setRegI_crs (s : State) (i : Initiator) (a : Nat) (w : Word) : (s.setRegI i a w).crs = s.crs := State.with_bank_crs s _
@[simp] theorem State.setRegI_slices (s : State) (i : Initiator) (a : Nat) (w : Word) : (s.setRegI i a w).slices = s.slices := State.with_bank_slices s _
@[simp] theorem State.setRegI_lanes (s : State) (i : Initiator) (a : Nat) (w : Word) : (s.setRegI i a w).lanes = s.lanes := State.with_bank_lanes s _
@[simp] theorem State.setRegI_comp (s : State) (i : Initiator) (a : Nat) (w : Word) : (s.setRegI i a w).comp = s.comp := State.with_bank_comp s _
@[simp] theorem State.setRegI_timeline (s : State) (i : Initiator) (a : Nat) (w : Word) : (s.setRegI i a w).timeline = s.timeline := State.with_bank_timeline s _
@[simp] theorem State.setRegI_doneQ (s : State) (i : Initiator) (a : Nat) (w : Word) : (s.setRegI i a w).doneQ = s.doneQ := State.with_bank_doneQ s _
@[simp] theorem State.setRegI_ctxs (s : State) (i : Initiator) (a : Nat) (w : Word) : (s.setRegI i a w).ctxs = s.ctxs := State.with_bank_ctxs s _
@[simp] theorem State.setRegI_shared (s : State) (i : Initiator) (a : Nat) (w : Word) : (s.setRegI i a w).shared = s.shared := State.with_bank_shared s _
@[simp] theorem State.setRegI_inService (s : State) (i : Initiator) (a : Nat) (w : Word) : (s.setRegI i a w).inService = s.inService := State.with_bank_inService s _
@[simp] theorem State.setRegI_rxSeq (s : State) (i : Initiator) (a : Nat) (w : Word) : (s.setRegI i a w).rxSeq = s.rxSeq := State.with_bank_rxSeq s _
@[simp] theorem State.setRegI_owners (s : State) (i : Initiator) (a : Nat) (w : Word) : (s.setRegI i a w).owners = s.owners := State.with_bank_owners s _
@[simp] theorem State.setRegI_rxq (s : State) (i : Initiator) (a : Nat) (w : Word) : (s.setRegI i a w).rxq = s.rxq := State.with_bank_rxq s _
@[simp] theorem State.setRegI_stash (s : State) (i : Initiator) (a : Nat) (w : Word) : (s.setRegI i a w).stash = s.stash := State.with_bank_stash s _
@[simp] theorem State.setRegI_reserved (s : State) (i : Initiator) (a : Nat) (w : Word) : (s.setRegI i a w).reserved = s.reserved := State.with_bank_reserved s _
@[simp] theorem State.setRegI_outUsed (s : State) (i : Initiator) (a : Nat) (w : Word) : (s.setRegI i a w).outUsed = s.outUsed := State.with_bank_outUsed s _
@[simp] theorem State.setRegI_nbtJobs (s : State) (i : Initiator) (a : Nat) (w : Word) : (s.setRegI i a w).nbtJobs = s.nbtJobs := State.with_bank_nbtJobs s _
@[simp] theorem State.setRegI_sec (s : State) (i : Initiator) (a : Nat) (w : Word) : (s.setRegI i a w).sec = s.sec := State.with_bank_sec s _
@[simp] theorem State.setRegI_hvl (s : State) (i : Initiator) (a : Nat) (w : Word) : (s.setRegI i a w).hvl = s.hvl := State.with_bank_hvl s _
@[simp] theorem State.setRegI_fabric (s : State) (i : Initiator) (a : Nat) (w : Word) : (s.setRegI i a w).fabric = s.fabric := State.with_bank_fabric s _
@[simp] theorem State.setRegI_recorder (s : State) (i : Initiator) (a : Nat) (w : Word) : (s.setRegI i a w).recorder = s.recorder := State.with_bank_recorder s _
@[simp] theorem State.setRegI_bst (s : State) (i : Initiator) (a : Nat) (w : Word) : (s.setRegI i a w).bst = s.bst := State.with_bank_bst s _
@[simp] theorem State.setRegI_passed (s : State) (i : Initiator) (a : Nat) (w : Word) : (s.setRegI i a w).passed = s.passed := State.with_bank_passed s _
@[simp] theorem State.setRegI_flt (s : State) (i : Initiator) (a : Nat) (w : Word) : (s.setRegI i a w).flt = s.flt := State.with_bank_flt s _
@[simp] theorem State.setRegI_pwr (s : State) (i : Initiator) (a : Nat) (w : Word) : (s.setRegI i a w).pwr = s.pwr := State.with_bank_pwr s _
@[simp] theorem State.setRegI_boot (s : State) (i : Initiator) (a : Nat) (w : Word) : (s.setRegI i a w).boot = s.boot := State.with_bank_boot s _
@[simp] theorem State.setRegI_upd (s : State) (i : Initiator) (a : Nat) (w : Word) : (s.setRegI i a w).upd = s.upd := State.with_bank_upd s _
@[simp] theorem State.setRegI_eng (s : State) (i : Initiator) (a : Nat) (w : Word) : (s.setRegI i a w).eng = s.eng := State.with_bank_eng s _
@[simp] theorem State.setRegI_cores (s : State) (i : Initiator) (a : Nat) (w : Word) : (s.setRegI i a w).cores = s.cores := State.with_bank_cores s _
@[simp] theorem State.setRegI_icu (s : State) (i : Initiator) (a : Nat) (w : Word) : (s.setRegI i a w).icu = s.icu := State.with_bank_icu s _
@[simp] theorem State.setRegI_flash (s : State) (i : Initiator) (a : Nat) (w : Word) : (s.setRegI i a w).flash = s.flash := State.with_bank_flash s _
@[simp] theorem State.setRegI_spts (s : State) (i : Initiator) (a : Nat) (w : Word) : (s.setRegI i a w).spts = s.spts := State.with_bank_spts s _
@[simp] theorem State.setRegI_prefetch (s : State) (i : Initiator) (a : Nat) (w : Word) : (s.setRegI i a w).prefetch = s.prefetch := State.with_bank_prefetch s _
@[simp] theorem State.setRegI_hsp (s : State) (i : Initiator) (a : Nat) (w : Word) : (s.setRegI i a w).hsp = s.hsp := State.with_bank_hsp s _
@[simp] theorem State.setRegI_resetReq (s : State) (i : Initiator) (a : Nat) (w : Word) : (s.setRegI i a w).resetReq = s.resetReq := State.with_bank_resetReq s _

@[simp] theorem State.putI_pending (s : State) (i : Initiator) (f : Field) (v : Nat) : (s.putI i f v).pending = s.pending := State.with_bank_pending s _
@[simp] theorem State.putI_variant (s : State) (i : Initiator) (f : Field) (v : Nat) : (s.putI i f v).variant = s.variant := State.with_bank_variant s _
@[simp] theorem State.putI_regs (s : State) (i : Initiator) (f : Field) (v : Nat) : (s.putI i f v).regs = s.regs := State.with_bank_regs s _
@[simp] theorem State.putI_mem (s : State) (i : Initiator) (f : Field) (v : Nat) : (s.putI i f v).mem = s.mem := State.with_bank_mem s _
@[simp] theorem State.putI_out (s : State) (i : Initiator) (f : Field) (v : Nat) : (s.putI i f v).out = s.out := State.with_bank_out s _
@[simp] theorem State.putI_stalled (s : State) (i : Initiator) (f : Field) (v : Nat) : (s.putI i f v).stalled = s.stalled := State.with_bank_stalled s _
@[simp] theorem State.putI_pages (s : State) (i : Initiator) (f : Field) (v : Nat) : (s.putI i f v).pages = s.pages := State.with_bank_pages s _
@[simp] theorem State.putI_freeCtr (s : State) (i : Initiator) (f : Field) (v : Nat) : (s.putI i f v).freeCtr = s.freeCtr := State.with_bank_freeCtr s _
@[simp] theorem State.putI_count (s : State) (i : Initiator) (f : Field) (v : Nat) : (s.putI i f v).count = s.count := State.with_bank_count s _
@[simp] theorem State.putI_alarms (s : State) (i : Initiator) (f : Field) (v : Nat) : (s.putI i f v).alarms = s.alarms := State.with_bank_alarms s _
@[simp] theorem State.putI_tmrs (s : State) (i : Initiator) (f : Field) (v : Nat) : (s.putI i f v).tmrs = s.tmrs := State.with_bank_tmrs s _
@[simp] theorem State.putI_lpts (s : State) (i : Initiator) (f : Field) (v : Nat) : (s.putI i f v).lpts = s.lpts := State.with_bank_lpts s _
@[simp] theorem State.putI_lptPend (s : State) (i : Initiator) (f : Field) (v : Nat) : (s.putI i f v).lptPend = s.lptPend := State.with_bank_lptPend s _
@[simp] theorem State.putI_wdtFeed (s : State) (i : Initiator) (f : Field) (v : Nat) : (s.putI i f v).wdtFeed = s.wdtFeed := State.with_bank_wdtFeed s _
@[simp] theorem State.putI_radio (s : State) (i : Initiator) (f : Field) (v : Nat) : (s.putI i f v).radio = s.radio := State.with_bank_radio s _
@[simp] theorem State.putI_rfe (s : State) (i : Initiator) (f : Field) (v : Nat) : (s.putI i f v).rfe = s.rfe := State.with_bank_rfe s _
@[simp] theorem State.putI_crs (s : State) (i : Initiator) (f : Field) (v : Nat) : (s.putI i f v).crs = s.crs := State.with_bank_crs s _
@[simp] theorem State.putI_slices (s : State) (i : Initiator) (f : Field) (v : Nat) : (s.putI i f v).slices = s.slices := State.with_bank_slices s _
@[simp] theorem State.putI_lanes (s : State) (i : Initiator) (f : Field) (v : Nat) : (s.putI i f v).lanes = s.lanes := State.with_bank_lanes s _
@[simp] theorem State.putI_comp (s : State) (i : Initiator) (f : Field) (v : Nat) : (s.putI i f v).comp = s.comp := State.with_bank_comp s _
@[simp] theorem State.putI_timeline (s : State) (i : Initiator) (f : Field) (v : Nat) : (s.putI i f v).timeline = s.timeline := State.with_bank_timeline s _
@[simp] theorem State.putI_doneQ (s : State) (i : Initiator) (f : Field) (v : Nat) : (s.putI i f v).doneQ = s.doneQ := State.with_bank_doneQ s _
@[simp] theorem State.putI_ctxs (s : State) (i : Initiator) (f : Field) (v : Nat) : (s.putI i f v).ctxs = s.ctxs := State.with_bank_ctxs s _
@[simp] theorem State.putI_shared (s : State) (i : Initiator) (f : Field) (v : Nat) : (s.putI i f v).shared = s.shared := State.with_bank_shared s _
@[simp] theorem State.putI_inService (s : State) (i : Initiator) (f : Field) (v : Nat) : (s.putI i f v).inService = s.inService := State.with_bank_inService s _
@[simp] theorem State.putI_rxSeq (s : State) (i : Initiator) (f : Field) (v : Nat) : (s.putI i f v).rxSeq = s.rxSeq := State.with_bank_rxSeq s _
@[simp] theorem State.putI_owners (s : State) (i : Initiator) (f : Field) (v : Nat) : (s.putI i f v).owners = s.owners := State.with_bank_owners s _
@[simp] theorem State.putI_rxq (s : State) (i : Initiator) (f : Field) (v : Nat) : (s.putI i f v).rxq = s.rxq := State.with_bank_rxq s _
@[simp] theorem State.putI_stash (s : State) (i : Initiator) (f : Field) (v : Nat) : (s.putI i f v).stash = s.stash := State.with_bank_stash s _
@[simp] theorem State.putI_reserved (s : State) (i : Initiator) (f : Field) (v : Nat) : (s.putI i f v).reserved = s.reserved := State.with_bank_reserved s _
@[simp] theorem State.putI_outUsed (s : State) (i : Initiator) (f : Field) (v : Nat) : (s.putI i f v).outUsed = s.outUsed := State.with_bank_outUsed s _
@[simp] theorem State.putI_nbtJobs (s : State) (i : Initiator) (f : Field) (v : Nat) : (s.putI i f v).nbtJobs = s.nbtJobs := State.with_bank_nbtJobs s _
@[simp] theorem State.putI_sec (s : State) (i : Initiator) (f : Field) (v : Nat) : (s.putI i f v).sec = s.sec := State.with_bank_sec s _
@[simp] theorem State.putI_hvl (s : State) (i : Initiator) (f : Field) (v : Nat) : (s.putI i f v).hvl = s.hvl := State.with_bank_hvl s _
@[simp] theorem State.putI_fabric (s : State) (i : Initiator) (f : Field) (v : Nat) : (s.putI i f v).fabric = s.fabric := State.with_bank_fabric s _
@[simp] theorem State.putI_recorder (s : State) (i : Initiator) (f : Field) (v : Nat) : (s.putI i f v).recorder = s.recorder := State.with_bank_recorder s _
@[simp] theorem State.putI_bst (s : State) (i : Initiator) (f : Field) (v : Nat) : (s.putI i f v).bst = s.bst := State.with_bank_bst s _
@[simp] theorem State.putI_passed (s : State) (i : Initiator) (f : Field) (v : Nat) : (s.putI i f v).passed = s.passed := State.with_bank_passed s _
@[simp] theorem State.putI_flt (s : State) (i : Initiator) (f : Field) (v : Nat) : (s.putI i f v).flt = s.flt := State.with_bank_flt s _
@[simp] theorem State.putI_pwr (s : State) (i : Initiator) (f : Field) (v : Nat) : (s.putI i f v).pwr = s.pwr := State.with_bank_pwr s _
@[simp] theorem State.putI_boot (s : State) (i : Initiator) (f : Field) (v : Nat) : (s.putI i f v).boot = s.boot := State.with_bank_boot s _
@[simp] theorem State.putI_upd (s : State) (i : Initiator) (f : Field) (v : Nat) : (s.putI i f v).upd = s.upd := State.with_bank_upd s _
@[simp] theorem State.putI_eng (s : State) (i : Initiator) (f : Field) (v : Nat) : (s.putI i f v).eng = s.eng := State.with_bank_eng s _
@[simp] theorem State.putI_cores (s : State) (i : Initiator) (f : Field) (v : Nat) : (s.putI i f v).cores = s.cores := State.with_bank_cores s _
@[simp] theorem State.putI_icu (s : State) (i : Initiator) (f : Field) (v : Nat) : (s.putI i f v).icu = s.icu := State.with_bank_icu s _
@[simp] theorem State.putI_flash (s : State) (i : Initiator) (f : Field) (v : Nat) : (s.putI i f v).flash = s.flash := State.with_bank_flash s _
@[simp] theorem State.putI_spts (s : State) (i : Initiator) (f : Field) (v : Nat) : (s.putI i f v).spts = s.spts := State.with_bank_spts s _
@[simp] theorem State.putI_prefetch (s : State) (i : Initiator) (f : Field) (v : Nat) : (s.putI i f v).prefetch = s.prefetch := State.with_bank_prefetch s _
@[simp] theorem State.putI_hsp (s : State) (i : Initiator) (f : Field) (v : Nat) : (s.putI i f v).hsp = s.hsp := State.with_bank_hsp s _
@[simp] theorem State.putI_resetReq (s : State) (i : Initiator) (f : Field) (v : Nat) : (s.putI i f v).resetReq = s.resetReq := State.with_bank_resetReq s _

@[simp] theorem State.answer_pending (s : State) (i : Initiator) (v : Word) (h : BusEnd) : (s.answer i v h).pending = s.pending := State.with_out_pending s _
@[simp] theorem State.answer_variant (s : State) (i : Initiator) (v : Word) (h : BusEnd) : (s.answer i v h).variant = s.variant := State.with_out_variant s _
@[simp] theorem State.answer_regs (s : State) (i : Initiator) (v : Word) (h : BusEnd) : (s.answer i v h).regs = s.regs := State.with_out_regs s _
@[simp] theorem State.answer_bank (s : State) (i : Initiator) (v : Word) (h : BusEnd) : (s.answer i v h).bank = s.bank := State.with_out_bank s _
@[simp] theorem State.answer_mem (s : State) (i : Initiator) (v : Word) (h : BusEnd) : (s.answer i v h).mem = s.mem := State.with_out_mem s _
theorem State.answer_out (s : State) (i : Initiator) (v : Word) (h : BusEnd) : (s.answer i v h).out = s.out.set i ⟨v, h⟩ := rfl
@[simp] theorem State.answer_stalled (s : State) (i : Initiator) (v : Word) (h : BusEnd) : (s.answer i v h).stalled = s.stalled := State.with_out_stalled s _
@[simp] theorem State.answer_pages (s : State) (i : Initiator) (v : Word) (h : BusEnd) : (s.answer i v h).pages = s.pages := State.with_out_pages s _
@[simp] theorem State.answer_freeCtr (s : State) (i : Initiator) (v : Word) (h : BusEnd) : (s.answer i v h).freeCtr = s.freeCtr := State.with_out_freeCtr s _
@[simp] theorem State.answer_count (s : State) (i : Initiator) (v : Word) (h : BusEnd) : (s.answer i v h).count = s.count := State.with_out_count s _
@[simp] theorem State.answer_alarms (s : State) (i : Initiator) (v : Word) (h : BusEnd) : (s.answer i v h).alarms = s.alarms := State.with_out_alarms s _
@[simp] theorem State.answer_tmrs (s : State) (i : Initiator) (v : Word) (h : BusEnd) : (s.answer i v h).tmrs = s.tmrs := State.with_out_tmrs s _
@[simp] theorem State.answer_lpts (s : State) (i : Initiator) (v : Word) (h : BusEnd) : (s.answer i v h).lpts = s.lpts := State.with_out_lpts s _
@[simp] theorem State.answer_lptPend (s : State) (i : Initiator) (v : Word) (h : BusEnd) : (s.answer i v h).lptPend = s.lptPend := State.with_out_lptPend s _
@[simp] theorem State.answer_wdtFeed (s : State) (i : Initiator) (v : Word) (h : BusEnd) : (s.answer i v h).wdtFeed = s.wdtFeed := State.with_out_wdtFeed s _
@[simp] theorem State.answer_radio (s : State) (i : Initiator) (v : Word) (h : BusEnd) : (s.answer i v h).radio = s.radio := State.with_out_radio s _
@[simp] theorem State.answer_rfe (s : State) (i : Initiator) (v : Word) (h : BusEnd) : (s.answer i v h).rfe = s.rfe := State.with_out_rfe s _
@[simp] theorem State.answer_crs (s : State) (i : Initiator) (v : Word) (h : BusEnd) : (s.answer i v h).crs = s.crs := State.with_out_crs s _
@[simp] theorem State.answer_slices (s : State) (i : Initiator) (v : Word) (h : BusEnd) : (s.answer i v h).slices = s.slices := State.with_out_slices s _
@[simp] theorem State.answer_lanes (s : State) (i : Initiator) (v : Word) (h : BusEnd) : (s.answer i v h).lanes = s.lanes := State.with_out_lanes s _
@[simp] theorem State.answer_comp (s : State) (i : Initiator) (v : Word) (h : BusEnd) : (s.answer i v h).comp = s.comp := State.with_out_comp s _
@[simp] theorem State.answer_timeline (s : State) (i : Initiator) (v : Word) (h : BusEnd) : (s.answer i v h).timeline = s.timeline := State.with_out_timeline s _
@[simp] theorem State.answer_doneQ (s : State) (i : Initiator) (v : Word) (h : BusEnd) : (s.answer i v h).doneQ = s.doneQ := State.with_out_doneQ s _
@[simp] theorem State.answer_ctxs (s : State) (i : Initiator) (v : Word) (h : BusEnd) : (s.answer i v h).ctxs = s.ctxs := State.with_out_ctxs s _
@[simp] theorem State.answer_shared (s : State) (i : Initiator) (v : Word) (h : BusEnd) : (s.answer i v h).shared = s.shared := State.with_out_shared s _
@[simp] theorem State.answer_inService (s : State) (i : Initiator) (v : Word) (h : BusEnd) : (s.answer i v h).inService = s.inService := State.with_out_inService s _
@[simp] theorem State.answer_rxSeq (s : State) (i : Initiator) (v : Word) (h : BusEnd) : (s.answer i v h).rxSeq = s.rxSeq := State.with_out_rxSeq s _
@[simp] theorem State.answer_owners (s : State) (i : Initiator) (v : Word) (h : BusEnd) : (s.answer i v h).owners = s.owners := State.with_out_owners s _
@[simp] theorem State.answer_rxq (s : State) (i : Initiator) (v : Word) (h : BusEnd) : (s.answer i v h).rxq = s.rxq := State.with_out_rxq s _
@[simp] theorem State.answer_stash (s : State) (i : Initiator) (v : Word) (h : BusEnd) : (s.answer i v h).stash = s.stash := State.with_out_stash s _
@[simp] theorem State.answer_reserved (s : State) (i : Initiator) (v : Word) (h : BusEnd) : (s.answer i v h).reserved = s.reserved := State.with_out_reserved s _
@[simp] theorem State.answer_outUsed (s : State) (i : Initiator) (v : Word) (h : BusEnd) : (s.answer i v h).outUsed = s.outUsed := State.with_out_outUsed s _
@[simp] theorem State.answer_nbtJobs (s : State) (i : Initiator) (v : Word) (h : BusEnd) : (s.answer i v h).nbtJobs = s.nbtJobs := State.with_out_nbtJobs s _
@[simp] theorem State.answer_sec (s : State) (i : Initiator) (v : Word) (h : BusEnd) : (s.answer i v h).sec = s.sec := State.with_out_sec s _
@[simp] theorem State.answer_hvl (s : State) (i : Initiator) (v : Word) (h : BusEnd) : (s.answer i v h).hvl = s.hvl := State.with_out_hvl s _
@[simp] theorem State.answer_fabric (s : State) (i : Initiator) (v : Word) (h : BusEnd) : (s.answer i v h).fabric = s.fabric := State.with_out_fabric s _
@[simp] theorem State.answer_recorder (s : State) (i : Initiator) (v : Word) (h : BusEnd) : (s.answer i v h).recorder = s.recorder := State.with_out_recorder s _
@[simp] theorem State.answer_bst (s : State) (i : Initiator) (v : Word) (h : BusEnd) : (s.answer i v h).bst = s.bst := State.with_out_bst s _
@[simp] theorem State.answer_passed (s : State) (i : Initiator) (v : Word) (h : BusEnd) : (s.answer i v h).passed = s.passed := State.with_out_passed s _
@[simp] theorem State.answer_flt (s : State) (i : Initiator) (v : Word) (h : BusEnd) : (s.answer i v h).flt = s.flt := State.with_out_flt s _
@[simp] theorem State.answer_pwr (s : State) (i : Initiator) (v : Word) (h : BusEnd) : (s.answer i v h).pwr = s.pwr := State.with_out_pwr s _
@[simp] theorem State.answer_boot (s : State) (i : Initiator) (v : Word) (h : BusEnd) : (s.answer i v h).boot = s.boot := State.with_out_boot s _
@[simp] theorem State.answer_upd (s : State) (i : Initiator) (v : Word) (h : BusEnd) : (s.answer i v h).upd = s.upd := State.with_out_upd s _
@[simp] theorem State.answer_eng (s : State) (i : Initiator) (v : Word) (h : BusEnd) : (s.answer i v h).eng = s.eng := State.with_out_eng s _
@[simp] theorem State.answer_cores (s : State) (i : Initiator) (v : Word) (h : BusEnd) : (s.answer i v h).cores = s.cores := State.with_out_cores s _
@[simp] theorem State.answer_icu (s : State) (i : Initiator) (v : Word) (h : BusEnd) : (s.answer i v h).icu = s.icu := State.with_out_icu s _
@[simp] theorem State.answer_flash (s : State) (i : Initiator) (v : Word) (h : BusEnd) : (s.answer i v h).flash = s.flash := State.with_out_flash s _
@[simp] theorem State.answer_spts (s : State) (i : Initiator) (v : Word) (h : BusEnd) : (s.answer i v h).spts = s.spts := State.with_out_spts s _
@[simp] theorem State.answer_prefetch (s : State) (i : Initiator) (v : Word) (h : BusEnd) : (s.answer i v h).prefetch = s.prefetch := State.with_out_prefetch s _
@[simp] theorem State.answer_hsp (s : State) (i : Initiator) (v : Word) (h : BusEnd) : (s.answer i v h).hsp = s.hsp := State.with_out_hsp s _
@[simp] theorem State.answer_resetReq (s : State) (i : Initiator) (v : Word) (h : BusEnd) : (s.answer i v h).resetReq = s.resetReq := State.with_out_resetReq s _

@[simp] theorem State.setPage_pending (s : State) (p : Nat) (x : PageState) : (s.setPage p x).pending = s.pending := State.with_pages_pending s _
@[simp] theorem State.setPage_variant (s : State) (p : Nat) (x : PageState) : (s.setPage p x).variant = s.variant := State.with_pages_variant s _
@[simp] theorem State.setPage_regs (s : State) (p : Nat) (x : PageState) : (s.setPage p x).regs = s.regs := State.with_pages_regs s _
@[simp] theorem State.setPage_bank (s : State) (p : Nat) (x : PageState) : (s.setPage p x).bank = s.bank := State.with_pages_bank s _
@[simp] theorem State.setPage_mem (s : State) (p : Nat) (x : PageState) : (s.setPage p x).mem = s.mem := State.with_pages_mem s _
@[simp] theorem State.setPage_out (s : State) (p : Nat) (x : PageState) : (s.setPage p x).out = s.out := State.with_pages_out s _
@[simp] theorem State.setPage_stalled (s : State) (p : Nat) (x : PageState) : (s.setPage p x).stalled = s.stalled := State.with_pages_stalled s _
theorem State.setPage_pages (s : State) (p : Nat) (x : PageState) : (s.setPage p x).pages = s.pages.set p x := rfl
@[simp] theorem State.setPage_freeCtr (s : State) (p : Nat) (x : PageState) : (s.setPage p x).freeCtr = s.freeCtr := State.with_pages_freeCtr s _
@[simp] theorem State.setPage_count (s : State) (p : Nat) (x : PageState) : (s.setPage p x).count = s.count := State.with_pages_count s _
@[simp] theorem State.setPage_alarms (s : State) (p : Nat) (x : PageState) : (s.setPage p x).alarms = s.alarms := State.with_pages_alarms s _
@[simp] theorem State.setPage_tmrs (s : State) (p : Nat) (x : PageState) : (s.setPage p x).tmrs = s.tmrs := State.with_pages_tmrs s _
@[simp] theorem State.setPage_lpts (s : State) (p : Nat) (x : PageState) : (s.setPage p x).lpts = s.lpts := State.with_pages_lpts s _
@[simp] theorem State.setPage_lptPend (s : State) (p : Nat) (x : PageState) : (s.setPage p x).lptPend = s.lptPend := State.with_pages_lptPend s _
@[simp] theorem State.setPage_wdtFeed (s : State) (p : Nat) (x : PageState) : (s.setPage p x).wdtFeed = s.wdtFeed := State.with_pages_wdtFeed s _
@[simp] theorem State.setPage_radio (s : State) (p : Nat) (x : PageState) : (s.setPage p x).radio = s.radio := State.with_pages_radio s _
@[simp] theorem State.setPage_rfe (s : State) (p : Nat) (x : PageState) : (s.setPage p x).rfe = s.rfe := State.with_pages_rfe s _
@[simp] theorem State.setPage_crs (s : State) (p : Nat) (x : PageState) : (s.setPage p x).crs = s.crs := State.with_pages_crs s _
@[simp] theorem State.setPage_slices (s : State) (p : Nat) (x : PageState) : (s.setPage p x).slices = s.slices := State.with_pages_slices s _
@[simp] theorem State.setPage_lanes (s : State) (p : Nat) (x : PageState) : (s.setPage p x).lanes = s.lanes := State.with_pages_lanes s _
@[simp] theorem State.setPage_comp (s : State) (p : Nat) (x : PageState) : (s.setPage p x).comp = s.comp := State.with_pages_comp s _
@[simp] theorem State.setPage_timeline (s : State) (p : Nat) (x : PageState) : (s.setPage p x).timeline = s.timeline := State.with_pages_timeline s _
@[simp] theorem State.setPage_doneQ (s : State) (p : Nat) (x : PageState) : (s.setPage p x).doneQ = s.doneQ := State.with_pages_doneQ s _
@[simp] theorem State.setPage_ctxs (s : State) (p : Nat) (x : PageState) : (s.setPage p x).ctxs = s.ctxs := State.with_pages_ctxs s _
@[simp] theorem State.setPage_shared (s : State) (p : Nat) (x : PageState) : (s.setPage p x).shared = s.shared := State.with_pages_shared s _
@[simp] theorem State.setPage_inService (s : State) (p : Nat) (x : PageState) : (s.setPage p x).inService = s.inService := State.with_pages_inService s _
@[simp] theorem State.setPage_rxSeq (s : State) (p : Nat) (x : PageState) : (s.setPage p x).rxSeq = s.rxSeq := State.with_pages_rxSeq s _
@[simp] theorem State.setPage_owners (s : State) (p : Nat) (x : PageState) : (s.setPage p x).owners = s.owners := State.with_pages_owners s _
@[simp] theorem State.setPage_rxq (s : State) (p : Nat) (x : PageState) : (s.setPage p x).rxq = s.rxq := State.with_pages_rxq s _
@[simp] theorem State.setPage_stash (s : State) (p : Nat) (x : PageState) : (s.setPage p x).stash = s.stash := State.with_pages_stash s _
@[simp] theorem State.setPage_reserved (s : State) (p : Nat) (x : PageState) : (s.setPage p x).reserved = s.reserved := State.with_pages_reserved s _
@[simp] theorem State.setPage_outUsed (s : State) (p : Nat) (x : PageState) : (s.setPage p x).outUsed = s.outUsed := State.with_pages_outUsed s _
@[simp] theorem State.setPage_nbtJobs (s : State) (p : Nat) (x : PageState) : (s.setPage p x).nbtJobs = s.nbtJobs := State.with_pages_nbtJobs s _
@[simp] theorem State.setPage_sec (s : State) (p : Nat) (x : PageState) : (s.setPage p x).sec = s.sec := State.with_pages_sec s _
@[simp] theorem State.setPage_hvl (s : State) (p : Nat) (x : PageState) : (s.setPage p x).hvl = s.hvl := State.with_pages_hvl s _
@[simp] theorem State.setPage_fabric (s : State) (p : Nat) (x : PageState) : (s.setPage p x).fabric = s.fabric := State.with_pages_fabric s _
@[simp] theorem State.setPage_recorder (s : State) (p : Nat) (x : PageState) : (s.setPage p x).recorder = s.recorder := State.with_pages_recorder s _
@[simp] theorem State.setPage_bst (s : State) (p : Nat) (x : PageState) : (s.setPage p x).bst = s.bst := State.with_pages_bst s _
@[simp] theorem State.setPage_passed (s : State) (p : Nat) (x : PageState) : (s.setPage p x).passed = s.passed := State.with_pages_passed s _
@[simp] theorem State.setPage_flt (s : State) (p : Nat) (x : PageState) : (s.setPage p x).flt = s.flt := State.with_pages_flt s _
@[simp] theorem State.setPage_pwr (s : State) (p : Nat) (x : PageState) : (s.setPage p x).pwr = s.pwr := State.with_pages_pwr s _
@[simp] theorem State.setPage_boot (s : State) (p : Nat) (x : PageState) : (s.setPage p x).boot = s.boot := State.with_pages_boot s _
@[simp] theorem State.setPage_upd (s : State) (p : Nat) (x : PageState) : (s.setPage p x).upd = s.upd := State.with_pages_upd s _
@[simp] theorem State.setPage_eng (s : State) (p : Nat) (x : PageState) : (s.setPage p x).eng = s.eng := State.with_pages_eng s _
@[simp] theorem State.setPage_cores (s : State) (p : Nat) (x : PageState) : (s.setPage p x).cores = s.cores := State.with_pages_cores s _
@[simp] theorem State.setPage_icu (s : State) (p : Nat) (x : PageState) : (s.setPage p x).icu = s.icu := State.with_pages_icu s _
@[simp] theorem State.setPage_flash (s : State) (p : Nat) (x : PageState) : (s.setPage p x).flash = s.flash := State.with_pages_flash s _
@[simp] theorem State.setPage_spts (s : State) (p : Nat) (x : PageState) : (s.setPage p x).spts = s.spts := State.with_pages_spts s _
@[simp] theorem State.setPage_prefetch (s : State) (p : Nat) (x : PageState) : (s.setPage p x).prefetch = s.prefetch := State.with_pages_prefetch s _
@[simp] theorem State.setPage_hsp (s : State) (p : Nat) (x : PageState) : (s.setPage p x).hsp = s.hsp := State.with_pages_hsp s _
@[simp] theorem State.setPage_resetReq (s : State) (p : Nat) (x : PageState) : (s.setPage p x).resetReq = s.resetReq := State.with_pages_resetReq s _

@[simp] theorem State.setOwner_pending (s : State) (b : Nat) (o : Owner) : (s.setOwner b o).pending = s.pending := State.with_owners_pending s _
@[simp] theorem State.setOwner_variant (s : State) (b : Nat) (o : Owner) : (s.setOwner b o).variant = s.variant := State.with_owners_variant s _
@[simp] theorem State.setOwner_regs (s : State) (b : Nat) (o : Owner) : (s.setOwner b o).regs = s.regs := State.with_owners_regs s _
@[simp] theorem State.setOwner_bank (s : State) (b : Nat) (o : Owner) : (s.setOwner b o).bank = s.bank := State.with_owners_bank s _
@[simp] theorem State.setOwner_mem (s : State) (b : Nat) (o : Owner) : (s.setOwner b o).mem = s.mem := State.with_owners_mem s _
@[simp] theorem State.setOwner_out (s : State) (b : Nat) (o : Owner) : (s.setOwner b o).out = s.out := State.with_owners_out s _
@[simp] theorem State.setOwner_stalled (s : State) (b : Nat) (o : Owner) : (s.setOwner b o).stalled = s.stalled := State.with_owners_stalled s _
@[simp] theorem State.setOwner_pages (s : State) (b : Nat) (o : Owner) : (s.setOwner b o).pages = s.pages := State.with_owners_pages s _
@[simp] theorem State.setOwner_freeCtr (s : State) (b : Nat) (o : Owner) : (s.setOwner b o).freeCtr = s.freeCtr := State.with_owners_freeCtr s _
@[simp] theorem State.setOwner_count (s : State) (b : Nat) (o : Owner) : (s.setOwner b o).count = s.count := State.with_owners_count s _
@[simp] theorem State.setOwner_alarms (s : State) (b : Nat) (o : Owner) : (s.setOwner b o).alarms = s.alarms := State.with_owners_alarms s _
@[simp] theorem State.setOwner_tmrs (s : State) (b : Nat) (o : Owner) : (s.setOwner b o).tmrs = s.tmrs := State.with_owners_tmrs s _
@[simp] theorem State.setOwner_lpts (s : State) (b : Nat) (o : Owner) : (s.setOwner b o).lpts = s.lpts := State.with_owners_lpts s _
@[simp] theorem State.setOwner_lptPend (s : State) (b : Nat) (o : Owner) : (s.setOwner b o).lptPend = s.lptPend := State.with_owners_lptPend s _
@[simp] theorem State.setOwner_wdtFeed (s : State) (b : Nat) (o : Owner) : (s.setOwner b o).wdtFeed = s.wdtFeed := State.with_owners_wdtFeed s _
@[simp] theorem State.setOwner_radio (s : State) (b : Nat) (o : Owner) : (s.setOwner b o).radio = s.radio := State.with_owners_radio s _
@[simp] theorem State.setOwner_rfe (s : State) (b : Nat) (o : Owner) : (s.setOwner b o).rfe = s.rfe := State.with_owners_rfe s _
@[simp] theorem State.setOwner_crs (s : State) (b : Nat) (o : Owner) : (s.setOwner b o).crs = s.crs := State.with_owners_crs s _
@[simp] theorem State.setOwner_slices (s : State) (b : Nat) (o : Owner) : (s.setOwner b o).slices = s.slices := State.with_owners_slices s _
@[simp] theorem State.setOwner_lanes (s : State) (b : Nat) (o : Owner) : (s.setOwner b o).lanes = s.lanes := State.with_owners_lanes s _
@[simp] theorem State.setOwner_comp (s : State) (b : Nat) (o : Owner) : (s.setOwner b o).comp = s.comp := State.with_owners_comp s _
@[simp] theorem State.setOwner_timeline (s : State) (b : Nat) (o : Owner) : (s.setOwner b o).timeline = s.timeline := State.with_owners_timeline s _
@[simp] theorem State.setOwner_doneQ (s : State) (b : Nat) (o : Owner) : (s.setOwner b o).doneQ = s.doneQ := State.with_owners_doneQ s _
@[simp] theorem State.setOwner_ctxs (s : State) (b : Nat) (o : Owner) : (s.setOwner b o).ctxs = s.ctxs := State.with_owners_ctxs s _
@[simp] theorem State.setOwner_shared (s : State) (b : Nat) (o : Owner) : (s.setOwner b o).shared = s.shared := State.with_owners_shared s _
@[simp] theorem State.setOwner_inService (s : State) (b : Nat) (o : Owner) : (s.setOwner b o).inService = s.inService := State.with_owners_inService s _
@[simp] theorem State.setOwner_rxSeq (s : State) (b : Nat) (o : Owner) : (s.setOwner b o).rxSeq = s.rxSeq := State.with_owners_rxSeq s _
theorem State.setOwner_owners (s : State) (b : Nat) (o : Owner) : (s.setOwner b o).owners = s.owners.set b o := rfl
@[simp] theorem State.setOwner_rxq (s : State) (b : Nat) (o : Owner) : (s.setOwner b o).rxq = s.rxq := State.with_owners_rxq s _
@[simp] theorem State.setOwner_stash (s : State) (b : Nat) (o : Owner) : (s.setOwner b o).stash = s.stash := State.with_owners_stash s _
@[simp] theorem State.setOwner_reserved (s : State) (b : Nat) (o : Owner) : (s.setOwner b o).reserved = s.reserved := State.with_owners_reserved s _
@[simp] theorem State.setOwner_outUsed (s : State) (b : Nat) (o : Owner) : (s.setOwner b o).outUsed = s.outUsed := State.with_owners_outUsed s _
@[simp] theorem State.setOwner_nbtJobs (s : State) (b : Nat) (o : Owner) : (s.setOwner b o).nbtJobs = s.nbtJobs := State.with_owners_nbtJobs s _
@[simp] theorem State.setOwner_sec (s : State) (b : Nat) (o : Owner) : (s.setOwner b o).sec = s.sec := State.with_owners_sec s _
@[simp] theorem State.setOwner_hvl (s : State) (b : Nat) (o : Owner) : (s.setOwner b o).hvl = s.hvl := State.with_owners_hvl s _
@[simp] theorem State.setOwner_fabric (s : State) (b : Nat) (o : Owner) : (s.setOwner b o).fabric = s.fabric := State.with_owners_fabric s _
@[simp] theorem State.setOwner_recorder (s : State) (b : Nat) (o : Owner) : (s.setOwner b o).recorder = s.recorder := State.with_owners_recorder s _
@[simp] theorem State.setOwner_bst (s : State) (b : Nat) (o : Owner) : (s.setOwner b o).bst = s.bst := State.with_owners_bst s _
@[simp] theorem State.setOwner_passed (s : State) (b : Nat) (o : Owner) : (s.setOwner b o).passed = s.passed := State.with_owners_passed s _
@[simp] theorem State.setOwner_flt (s : State) (b : Nat) (o : Owner) : (s.setOwner b o).flt = s.flt := State.with_owners_flt s _
@[simp] theorem State.setOwner_pwr (s : State) (b : Nat) (o : Owner) : (s.setOwner b o).pwr = s.pwr := State.with_owners_pwr s _
@[simp] theorem State.setOwner_boot (s : State) (b : Nat) (o : Owner) : (s.setOwner b o).boot = s.boot := State.with_owners_boot s _
@[simp] theorem State.setOwner_upd (s : State) (b : Nat) (o : Owner) : (s.setOwner b o).upd = s.upd := State.with_owners_upd s _
@[simp] theorem State.setOwner_eng (s : State) (b : Nat) (o : Owner) : (s.setOwner b o).eng = s.eng := State.with_owners_eng s _
@[simp] theorem State.setOwner_cores (s : State) (b : Nat) (o : Owner) : (s.setOwner b o).cores = s.cores := State.with_owners_cores s _
@[simp] theorem State.setOwner_icu (s : State) (b : Nat) (o : Owner) : (s.setOwner b o).icu = s.icu := State.with_owners_icu s _
@[simp] theorem State.setOwner_flash (s : State) (b : Nat) (o : Owner) : (s.setOwner b o).flash = s.flash := State.with_owners_flash s _
@[simp] theorem State.setOwner_spts (s : State) (b : Nat) (o : Owner) : (s.setOwner b o).spts = s.spts := State.with_owners_spts s _
@[simp] theorem State.setOwner_prefetch (s : State) (b : Nat) (o : Owner) : (s.setOwner b o).prefetch = s.prefetch := State.with_owners_prefetch s _
@[simp] theorem State.setOwner_hsp (s : State) (b : Nat) (o : Owner) : (s.setOwner b o).hsp = s.hsp := State.with_owners_hsp s _
@[simp] theorem State.setOwner_resetReq (s : State) (b : Nat) (o : Owner) : (s.setOwner b o).resetReq = s.resetReq := State.with_owners_resetReq s _

end Sys2Proof.Machine
end

