-- ==== Sys2Proof/Laws/Keeps.lean ====
section
/-! SUPPORT. What every operation of the machine keeps: the relation `Keeps` between a state and a later one, and its laws for the primitive
updates. The files Laws/Keeps1 and on hold one law for each operation, named after it: cite the law, never unfold the operation. -/

namespace Sys2Proof.Machine

/-- No OTP bit is cleared (12 R309). -/
def OtpKept (a b : List Nat) : Prop := ∀ n k, (a.getD n 0).testBit k = true → (b.getD n 0).testBit k = true

/-- What no operation on the state changes: the queue of waiting commands, the variant, the chip's secret, OTP bits that are set, and the canonical form. -/
def Keeps (a t : State) : Prop :=
  t.pending = a.pending ∧ t.variant = a.variant ∧ t.sec.secret = a.sec.secret ∧ OtpKept a.sec.otp t.sec.otp ∧
    (a.canonical = true → t.canonical = true)

/-- The outcome is a next state that keeps all that `Keeps` names. -/
def KeepsAll (a : State) (o : Host.Outcome State Fault Refusal) : Prop := ∃ t, o = .next t ∧ Keeps a t

theorem OtpKept.refl (a : List Nat) : OtpKept a a := fun _ _ h => h

theorem OtpKept.trans {a b c : List Nat} (h : OtpKept a b) (g : OtpKept b c) : OtpKept a c := fun n k x => g n k (h n k x)

theorem Keeps.refl (a : State) : Keeps a a := ⟨rfl, rfl, rfl, OtpKept.refl _, fun h => h⟩

theorem Keeps.trans {a b c : State} (h : Keeps a b) (g : Keeps b c) : Keeps a c :=
  ⟨g.1.trans h.1, g.2.1.trans h.2.1, g.2.2.1.trans h.2.2.1, h.2.2.2.1.trans g.2.2.2.1, fun x => g.2.2.2.2 (h.2.2.2.2 x)⟩

/-- An update of parts that `Keeps` says nothing about; of the security unit's part the secret and the OTP bits are kept. -/
theorem Keeps.upd {a s : State} {out stalled pages freeCtr count alarms tmrs lpts lptPend wdtFeed radio rfe crs slices lanes comp timeline doneQ ctxs shared inService rxSeq owners rxq stash reserved outUsed nbtJobs sec hvl fabric recorder bst passed flt pwr boot upd eng cores icu flash spts prefetch hsp resetReq}
    (h : Keeps a s) (h1 : sec.secret = s.sec.secret) (h2 : OtpKept s.sec.otp sec.otp) :
    Keeps a (State.mk s.pending s.variant s.regs s.bank s.mem out stalled pages freeCtr count alarms tmrs lpts lptPend wdtFeed radio rfe crs slices lanes comp timeline doneQ ctxs shared inService rxSeq owners rxq stash reserved outUsed nbtJobs sec hvl fabric recorder bst passed flt pwr boot upd eng cores icu flash spts prefetch hsp resetReq) :=
  ⟨h.1, h.2.1, h1.trans h.2.2.1, h.2.2.2.1.trans h2, h.2.2.2.2⟩

/-- An update of the registers, the copies or the memory that keeps their canonical form. -/
theorem Keeps.updMem {a s t : State} (h : Keeps a s) (hp : t.pending = s.pending) (hv : t.variant = s.variant) (hs : t.sec.secret = s.sec.secret)
    (ho : t.sec.otp = s.sec.otp) (hr : Sparse.wf resetOf s.regs = true → Sparse.wf resetOf t.regs = true)
    (hb : Sparse.wf State.bankReset s.bank = true → Sparse.wf State.bankReset t.bank = true)
    (hm : Memory.wf s.mem = true → Memory.wf t.mem = true) : Keeps a t := by
  refine ⟨hp.trans h.1, hv.trans h.2.1, hs.trans h.2.2.1, ho ▸ h.2.2.2.1, fun c => ?_⟩
  have k := h.2.2.2.2 c
  simp only [State.canonical, Bool.and_eq_true] at k ⊢
  exact ⟨⟨hr k.1.1, hb k.1.2⟩, hm k.2⟩

theorem Keeps.ite {a x y : State} {c : Prop} [Decidable c] (h : Keeps a x) (g : Keeps a y) : Keeps a (if c then x else y) := by
  split <;> assumption

theorem Keeps.ite1 {α : Type} {a : State} {x y : State × α} {c : Prop} [Decidable c] (h : Keeps a x.1) (g : Keeps a y.1) :
    Keeps a (if c then x else y).1 := by
  split <;> assumption

theorem Keeps.ite2 {α : Type} {a : State} {x y : α × State} {c : Prop} [Decidable c] (h : Keeps a x.2) (g : Keeps a y.2) :
    Keeps a (if c then x else y).2 := by
  split <;> assumption

theorem Keeps.ite3 {α β : Type} {a : State} {x y : α × β × State} {c : Prop} [Decidable c] (h : Keeps a x.2.2) (g : Keeps a y.2.2) :
    Keeps a (if c then x else y).2.2 := by
  split <;> assumption

theorem KeepsAll.next {a t : State} (h : Keeps a t) : KeepsAll a (.next t) := ⟨t, rfl, h⟩

theorem KeepsAll.of {a : State} {o p : Host.Outcome State Fault Refusal} (e : o = p) (h : KeepsAll a p) : KeepsAll a o := e ▸ h

theorem KeepsAll.ite {a : State} {x y : Host.Outcome State Fault Refusal} {c : Prop} [Decidable c] (h : KeepsAll a x) (g : KeepsAll a y) :
    KeepsAll a (if c then x else y) := by
  split <;> assumption

theorem Keeps.of1 {α : Type} {a t : State} {p : State × α} {x : α} (e : p = (t, x)) (h : Keeps a p.1) : Keeps a t := by rw [e] at h; exact h

theorem Keeps.of2 {α : Type} {a t : State} {p : α × State} {x : α} (e : p = (x, t)) (h : Keeps a p.2) : Keeps a t := by rw [e] at h; exact h

theorem Keeps.of3 {α β : Type} {a t : State} {p : α × β × State} {x : α} {y : β} (e : p = (x, y, t)) (h : Keeps a p.2.2) : Keeps a t := by
  rw [e] at h; exact h

theorem Keeps.of5 {α β γ δ : Type} {a t : State} {p : α × β × γ × δ × State} {x : α} {y : β} {z : γ} {w : δ} (e : p = (x, y, z, w, t))
    (h : Keeps a p.2.2.2.2) : Keeps a t := by
  rw [e] at h; exact h

theorem Keeps.ite5 {α β γ δ : Type} {a : State} {x y : α × β × γ × δ × State} {c : Prop} [Decidable c] (h : Keeps a x.2.2.2.2)
    (g : Keeps a y.2.2.2.2) : Keeps a (if c then x else y).2.2.2.2 := by
  split <;> assumption

theorem Keeps.ofSome {α : Type} {a t : State} {p : α × State} {x : α} (e : some p = some (x, t)) (h : Keeps a p.2) : Keeps a t :=
  Keeps.of2 (Option.some.inj e) h

theorem Keeps.ofSome1 {a t u : State} (e : some u = some t) (h : Keeps a u) : Keeps a t := Option.some.inj e ▸ h

theorem Keeps.foldl {α : Type} {a s : State} {f : State → α → State} {l : List α} (h : Keeps a s) (g : ∀ u, Keeps a u → ∀ x, Keeps a (f u x)) :
    Keeps a (l.foldl f s) := by
  induction l generalizing s with
  | nil => exact h
  | cons x l ih => exact ih (g _ h _)

theorem Keeps.foldl2 {α β : Type} {a : State} {p : β × State} {f : β × State → α → β × State} {l : List α} (h : Keeps a p.2)
    (g : ∀ u, Keeps a u.2 → ∀ x, Keeps a (f u x).2) : Keeps a (l.foldl f p).2 := by
  induction l generalizing p with
  | nil => exact h
  | cons x l ih => exact ih (g _ h _)

theorem Keeps.foldl3 {α β γ : Type} {a : State} {p : β × γ × State} {f : β × γ × State → α → β × γ × State} {l : List α} (h : Keeps a p.2.2)
    (g : ∀ u, Keeps a u.2.2 → ∀ x, Keeps a (f u x).2.2) : Keeps a (l.foldl f p).2.2 := by
  induction l generalizing p with
  | nil => exact h
  | cons x l ih => exact ih (g _ h _)

theorem Keeps.forN {a s : State} (h : Keeps a s) {f : Nat → State → State} {n : Nat} (g : ∀ i u, Keeps a u → Keeps a (f i u)) :
    Keeps a (forN n f s) := Keeps.foldl h (fun u hu i => g i u hu)

theorem Keeps.optDo {a s : State} {α : Type} (h : Keeps a s) {o : Option α} {f : α → State} (g : ∀ x, Keeps a (f x)) : Keeps a (optDo o s f) := by
  cases o
  · exact h
  · exact g _

theorem Keeps.setReg {a s : State} (h : Keeps a s) : ∀ x w, Keeps a (State.setReg s x w) := by
  intro x w
  refine h.updMem (by simp) (by simp) (by simp) (by simp) (fun k => ?_) (by simp) (by simp)
  rw [State.setReg_regs]
  exact Sparse.wf_set x w k

theorem Keeps.setRegI {a s : State} (h : Keeps a s) : ∀ i x w, Keeps a (State.setRegI s i x w) := by
  intro i x w
  refine h.updMem (by simp) (by simp) (by simp) (by simp) (by simp) (fun k => ?_) (by simp)
  rw [State.setRegI_bank]
  exact Sparse.wf_set _ w k

/-- An update of memory, and of parts that `Keeps` says nothing about. -/
theorem Keeps.setMem {a s : State} (h : Keeps a s) {m : List Host.Cell} (hm : Memory.wf s.mem = true → Memory.wf m = true) :
    Keeps a { s with mem := m } := by
  refine h.updMem ?_ ?_ ?_ ?_ ?_ ?_ ?_
  all_goals simp only [imp_self]
  exact hm

/-- An update of the registers. -/
theorem Keeps.setRegs {a s : State} (h : Keeps a s) {m : List (Nat × Word)} (hm : Sparse.wf resetOf s.regs = true → Sparse.wf resetOf m = true) :
    Keeps a { s with regs := m } := by
  refine h.updMem ?_ ?_ ?_ ?_ ?_ ?_ ?_
  all_goals simp only [imp_self]
  exact hm

/-- An update of the copied registers. -/
theorem Keeps.setBank {a s : State} (h : Keeps a s) {m : List (Nat × Word)}
    (hm : Sparse.wf State.bankReset s.bank = true → Sparse.wf State.bankReset m = true) : Keeps a { s with bank := m } := by
  refine h.updMem ?_ ?_ ?_ ?_ ?_ ?_ ?_
  all_goals simp only [imp_self]
  exact hm

theorem Keeps.setByte {a s : State} (h : Keeps a s) : ∀ x b, Keeps a (State.setByte s x b) := by
  intro x b
  unfold State.setByte
  exact Keeps.ite h ((h.setMem (fun k => Sparse.wf_set x b k)).upd rfl (OtpKept.refl _))

end Sys2Proof.Machine
end

