-- ==== Sys2Proof/Laws/Keeps1.lean ====
section
/-! SUPPORT. What the operations keep (Laws/Keeps.lean): Ops, Flags, FaultOps, HvlOps, Nbt, Buffers, Forward, Synth, Slots, Keys, Air, Regions, Security. -/

set_option linter.unusedTactic false
set_option linter.unreachableTactic false

namespace Sys2Proof.Machine

theorem Keeps.put {a s : State} (h : Keeps a s) : ∀ x1 x2, Keeps a (State.put s x1 x2) := by
  intro x1 x2
  unfold State.put; try dsimp only
  repeat' first
    | with_reducible assumption
    | with_reducible apply Keeps.setReg

theorem Keeps.putInt {a s : State} (h : Keeps a s) : ∀ x1 x2, Keeps a (State.putInt s x1 x2) := by
  intro x1 x2
  unfold State.putInt; try dsimp only
  repeat' first
    | with_reducible assumption
    | with_reducible apply Keeps.put

theorem Keeps.countSat {a s : State} (h : Keeps a s) : ∀ x1, Keeps a (State.countSat s x1) := by
  intro x1
  unfold State.countSat; try dsimp only
  repeat' first
    | with_reducible assumption
    | with_reducible apply Keeps.put
    | with_reducible apply Keeps.ite

theorem Keeps.countWrap {a s : State} (h : Keeps a s) : ∀ x1, Keeps a (State.countWrap s x1) := by
  intro x1
  unfold State.countWrap; try dsimp only
  repeat' first
    | with_reducible assumption
    | with_reducible apply Keeps.put

theorem Keeps.putI {a s : State} (h : Keeps a s) : ∀ x1 x2 x3, Keeps a (State.putI s x1 x2 x3) := by
  intro x1 x2 x3
  unfold State.putI; try dsimp only
  repeat' first
    | with_reducible assumption
    | with_reducible apply Keeps.setRegI

theorem Keeps.setBytes {a s : State} (h : Keeps a s) : ∀ x bs, Keeps a (State.setBytes s x bs) := by
  intro x bs
  induction bs generalizing s x
  case nil => exact h
  case cons b bs ih => exact ih (h.setByte x b) (x + 1)

theorem Keeps.setMemNat {a s : State} (h : Keeps a s) : ∀ x1 x2 x3, Keeps a (State.setMemNat s x1 x2 x3) := by
  intro x1 x2 x3
  unfold State.setMemNat; try dsimp only
  repeat' first
    | with_reducible assumption
    | with_reducible apply Keeps.setBytes

theorem Keeps.freeVal {a s : State} (h : Keeps a s) : Keeps a (State.freeVal s).2 := by
  unfold State.freeVal; try dsimp only
  repeat' first
    | with_reducible assumption
    | with_reducible apply Keeps.upd
    | rfl
    | with_reducible exact OtpKept.refl _

theorem Keeps.setPageSt {a s : State} (h : Keeps a s) : ∀ x1 x2, Keeps a (State.setPageSt s x1 x2) := by
  intro x1 x2
  unfold State.setPageSt; try dsimp only
  repeat' first
    | with_reducible assumption
    | with_reducible apply Keeps.put

theorem Keeps.wake {a s : State} (h : Keeps a s) : ∀ x1, Keeps a (State.wake s x1) := by
  intro x1
  unfold State.wake; try dsimp only
  repeat' first
    | with_reducible assumption
    | with_reducible apply Keeps.ite
    | with_reducible apply Keeps.upd
    | rfl
    | with_reducible exact OtpKept.refl _

theorem Keeps.event {a s : State} (h : Keeps a s) : ∀ x1 x2, Keeps a (State.event s x1 x2) := by
  intro x1 x2
  unfold State.event; try dsimp only
  repeat' first
    | with_reducible assumption
    | with_reducible apply Keeps.ite
    | with_reducible apply Keeps.upd
    | rfl
    | with_reducible exact OtpKept.refl _

theorem Keeps.setPage {a s : State} (h : Keeps a s) : ∀ x1 x2, Keeps a (State.setPage s x1 x2) := by
  intro x1 x2
  unfold State.setPage; try dsimp only
  repeat' first
    | with_reducible assumption
    | with_reducible apply Keeps.upd
    | rfl
    | with_reducible exact OtpKept.refl _

theorem Keeps.cfgChange {a s : State} (h : Keeps a s) : ∀ x1, Keeps a (State.cfgChange s x1) := by
  intro x1
  unfold State.cfgChange; try dsimp only
  repeat' first
    | with_reducible assumption
    | with_reducible apply Keeps.put
    | with_reducible apply Keeps.setPage
    | split
    | with_reducible apply Keeps.upd
    | rfl
    | with_reducible exact OtpKept.refl _

theorem Keeps.answer {a s : State} (h : Keeps a s) : ∀ x1 x2 x3, Keeps a (State.answer s x1 x2 x3) := by
  intro x1 x2 x3
  unfold State.answer; try dsimp only
  repeat' first
    | with_reducible assumption
    | with_reducible apply Keeps.upd
    | rfl
    | with_reducible exact OtpKept.refl _

theorem Keeps.setOwner {a s : State} (h : Keeps a s) : ∀ x1 x2, Keeps a (State.setOwner s x1 x2) := by
  intro x1 x2
  unfold State.setOwner; try dsimp only
  repeat' first
    | with_reducible assumption
    | with_reducible apply Keeps.upd
    | rfl
    | with_reducible exact OtpKept.refl _

theorem Keeps.raiseFlag {a s : State} (h : Keeps a s) : ∀ x1 x2, Keeps a (State.raiseFlag s x1 x2) := by
  intro x1 x2
  unfold State.raiseFlag; try dsimp only
  repeat' first
    | with_reducible assumption
    | with_reducible apply Keeps.setReg

theorem Keeps.flag {a s : State} (h : Keeps a s) : ∀ x1 x2, Keeps a (State.flag s x1 x2) := by
  intro x1 x2
  unfold State.flag; try dsimp only
  repeat' first
    | with_reducible assumption
    | with_reducible apply Keeps.raiseFlag
    | with_reducible apply Keeps.ite

theorem Keeps.lockViol {a s : State} (h : Keeps a s) : ∀ x1, Keeps a (State.lockViol s x1) := by
  intro x1
  unfold State.lockViol; try dsimp only
  repeat' first
    | with_reducible assumption
    | with_reducible apply Keeps.raiseFlag

theorem Keeps.record {a s : State} (h : Keeps a s) : ∀ x1 x2 x3, Keeps a (State.record s x1 x2 x3) := by
  intro x1 x2 x3
  unfold State.record; try dsimp only
  repeat' first
    | with_reducible assumption
    | with_reducible apply Keeps.setBytes
    | with_reducible apply Keeps.freeVal
    | with_reducible apply Keeps.ite
    | split
    | refine Keeps.of2 (by with_reducible assumption) ?_
    | with_reducible apply Keeps.upd
    | rfl
    | with_reducible exact OtpKept.refl _

theorem Keeps.setSlot {a s : State} (h : Keeps a s) : ∀ x1 x2, Keeps a (State.setSlot s x1 x2) := by
  intro x1 x2
  unfold State.setSlot; try dsimp only
  repeat' first
    | with_reducible assumption
    | split
    | with_reducible apply Keeps.upd
    | rfl
    | with_reducible exact OtpKept.refl _

theorem Keeps.recordUnit {a s : State} (h : Keeps a s) : ∀ x1 x2 x3, Keeps a (State.recordUnit s x1 x2 x3) := by
  intro x1 x2 x3
  unfold State.recordUnit; try dsimp only
  repeat' first
    | with_reducible assumption
    | with_reducible apply Keeps.record
    | with_reducible apply Keeps.ite
    | split

theorem Keeps.recGap {a s : State} (h : Keeps a s) : ∀ x1 x2, Keeps a (State.recGap s x1 x2) := by
  intro x1 x2
  unfold State.recGap; try dsimp only
  repeat' first
    | with_reducible assumption
    | with_reducible apply Keeps.record
    | with_reducible apply Keeps.ite
    | with_reducible apply Keeps.upd
    | rfl
    | with_reducible exact OtpKept.refl _

theorem Keeps.recTrigger {a s : State} (h : Keeps a s) : ∀ x1, Keeps a (State.recTrigger s x1) := by
  intro x1
  unfold State.recTrigger; try dsimp only
  repeat' first
    | with_reducible assumption
    | with_reducible apply Keeps.put
    | with_reducible apply Keeps.record
    | with_reducible apply Keeps.setPageSt
    | with_reducible apply Keeps.ite
    | with_reducible apply Keeps.upd
    | rfl
    | with_reducible exact OtpKept.refl _

theorem Keeps.recStatus {a s : State} (h : Keeps a s) : ∀ x1, Keeps a (State.recStatus s x1) := by
  intro x1
  unfold State.recStatus; try dsimp only
  repeat' first
    | with_reducible assumption
    | with_reducible apply Keeps.recTrigger
    | with_reducible apply Keeps.ite

theorem Keeps.putBit {a s : State} (h : Keeps a s) : ∀ x1 x2 x3, Keeps a (State.putBit s x1 x2 x3) := by
  intro x1 x2 x3
  unfold State.putBit; try dsimp only
  repeat' first
    | with_reducible assumption
    | with_reducible apply Keeps.put
    | with_reducible apply Keeps.ite

theorem Keeps.putRegBit {a s : State} (h : Keeps a s) : ∀ x1 x2 x3, Keeps a (State.putRegBit s x1 x2 x3) := by
  intro x1 x2 x3
  unfold State.putRegBit; try dsimp only
  repeat' first
    | with_reducible assumption
    | with_reducible apply Keeps.putBit

theorem Keeps.testMark {a s : State} (h : Keeps a s) : ∀ x1 x2, Keeps a (State.testMark s x1 x2) := by
  intro x1 x2
  unfold State.testMark; try dsimp only
  repeat' first
    | with_reducible assumption
    | with_reducible apply Keeps.put
    | with_reducible apply Keeps.ite
    | split

theorem Keeps.bstFinish {a s : State} (h : Keeps a s) : ∀ x1 x2, Keeps a (State.bstFinish s x1 x2) := by
  intro x1 x2
  unfold State.bstFinish; try dsimp only
  repeat' first
    | with_reducible assumption
    | with_reducible apply Keeps.setReg
    | with_reducible apply Keeps.flag
    | with_reducible apply Keeps.setPageSt
    | with_reducible apply Keeps.testMark
    | with_reducible apply Keeps.ite
    | split
    | with_reducible apply Keeps.upd
    | rfl
    | with_reducible exact OtpKept.refl _

theorem Keeps.bstStopPath {a s : State} (h : Keeps a s) : Keeps a (State.bstStopPath s) := by
  unfold State.bstStopPath; try dsimp only
  repeat' first
    | with_reducible assumption
    | with_reducible apply Keeps.bstFinish
    | with_reducible apply Keeps.ite
    | split

theorem Keeps.markRetired {a s : State} (h : Keeps a s) : ∀ x1 x2, Keeps a (State.markRetired s x1 x2) := by
  intro x1 x2
  unfold State.markRetired; try dsimp only
  repeat' first
    | with_reducible assumption
    | with_reducible apply Keeps.putRegBit
    | with_reducible apply Keeps.put
    | with_reducible apply Keeps.putBit
    | with_reducible apply Keeps.ite
    | split

theorem Keeps.showRetired {a s : State} (h : Keeps a s) : Keeps a (State.showRetired s) := by
  unfold State.showRetired; try dsimp only
  repeat' first
    | with_reducible assumption
    | with_reducible apply Keeps.markRetired
    | with_reducible refine Keeps.foldl ?_ (fun _ _ _ => ?_)
    | with_reducible refine Keeps.foldl2 ?_ (fun _ _ _ => ?_)
    | with_reducible apply Keeps.ite

theorem Keeps.askRewrite {a s : State} (h : Keeps a s) : Keeps a (State.askRewrite s) := by
  unfold State.askRewrite; try dsimp only
  repeat' first
    | with_reducible assumption
    | with_reducible apply Keeps.put
    | with_reducible apply Keeps.setPageSt
    | with_reducible apply Keeps.ite
    | with_reducible apply Keeps.upd
    | rfl
    | with_reducible exact OtpKept.refl _

theorem Keeps.faultLog {a s : State} (h : Keeps a s) : ∀ x1 x2 x3 x4, Keeps a (State.faultLog s x1 x2 x3 x4) := by
  intro x1 x2 x3 x4
  unfold State.faultLog; try dsimp only
  repeat' first
    | with_reducible assumption
    | with_reducible apply Keeps.flag
    | with_reducible apply Keeps.ite
    | with_reducible apply Keeps.upd
    | rfl
    | with_reducible exact OtpKept.refl _

theorem Keeps.retireUnit {a s : State} (h : Keeps a s) : ∀ x1, Keeps a (State.retireUnit s x1) := by
  intro x1
  unfold State.retireUnit; try dsimp only
  repeat' first
    | with_reducible assumption
    | with_reducible apply Keeps.event
    | with_reducible apply Keeps.askRewrite
    | with_reducible apply Keeps.flag
    | with_reducible apply Keeps.markRetired
    | with_reducible apply Keeps.ite
    | with_reducible apply Keeps.upd
    | rfl
    | with_reducible exact OtpKept.refl _

theorem Keeps.setFaultTimes {a s : State} (h : Keeps a s) : ∀ x1 x2, Keeps a (State.setFaultTimes s x1 x2) := by
  intro x1 x2
  unfold State.setFaultTimes; try dsimp only
  repeat' first
    | with_reducible assumption
    | with_reducible apply Keeps.ite
    | with_reducible apply Keeps.upd
    | rfl
    | with_reducible exact OtpKept.refl _

theorem Keeps.countFault {a s : State} (h : Keeps a s) : ∀ x1, Keeps a (State.countFault s x1) := by
  intro x1
  unfold State.countFault; try dsimp only
  repeat' first
    | with_reducible assumption
    | with_reducible apply Keeps.setFaultTimes
    | with_reducible apply Keeps.ite
    | with_reducible apply Keeps.upd
    | rfl
    | with_reducible exact OtpKept.refl _

theorem Keeps.reportFault {a s : State} (h : Keeps a s) : ∀ x1 x2 x3, Keeps a (State.reportFault s x1 x2 x3) := by
  intro x1 x2 x3
  unfold State.reportFault; try dsimp only
  repeat' first
    | with_reducible assumption
    | with_reducible apply Keeps.event
    | with_reducible apply Keeps.countFault
    | with_reducible apply Keeps.setFaultTimes
    | with_reducible apply Keeps.faultLog
    | with_reducible apply Keeps.retireUnit
    | with_reducible apply Keeps.flag
    | with_reducible apply Keeps.ite
    | with_reducible apply Keeps.upd
    | rfl
    | with_reducible exact OtpKept.refl _

theorem Keeps.setHop {a s : State} (h : Keeps a s) : ∀ x1 x2, Keeps a (State.setHop s x1 x2) := by
  intro x1 x2
  unfold State.setHop; try dsimp only
  repeat' first
    | with_reducible assumption
    | split
    | with_reducible apply Keeps.upd
    | rfl
    | with_reducible exact OtpKept.refl _

theorem Keeps.sendChars {a s : State} (h : Keeps a s) : ∀ x1 x2, Keeps a (State.sendChars s x1 x2) := by
  intro x1 x2
  unfold State.sendChars; try dsimp only
  repeat' first
    | with_reducible assumption
    | with_reducible apply Keeps.setHop
    | with_reducible apply Keeps.ite
    | with_reducible apply Keeps.upd
    | rfl
    | with_reducible exact OtpKept.refl _

theorem Keeps.hopSend {a s : State} (h : Keeps a s) : ∀ x1 x2 x3, Keeps a (State.hopSend s x1 x2 x3) := by
  intro x1 x2 x3
  unfold State.hopSend; try dsimp only
  repeat' first
    | with_reducible assumption
    | with_reducible apply Keeps.sendChars
    | with_reducible apply Keeps.setHop
    | with_reducible apply Keeps.ite
    | with_reducible apply Keeps.upd
    | rfl
    | with_reducible exact OtpKept.refl _

theorem Keeps.hvlSend {a s : State} (h : Keeps a s) : ∀ x1 x2 x3 x4 x5 x6 x7, Keeps a (State.hvlSend s x1 x2 x3 x4 x5 x6 x7) := by
  intro x1 x2 x3 x4 x5 x6 x7
  unfold State.hvlSend; try dsimp only
  repeat' first
    | with_reducible assumption
    | with_reducible apply Keeps.hopSend
    | with_reducible apply Keeps.ite

theorem Keeps.hvlTag {a s : State} (h : Keeps a s) : Keeps a (State.hvlTag s).2 := by
  unfold State.hvlTag; try dsimp only
  repeat' first
    | with_reducible assumption
    | with_reducible apply Keeps.upd
    | rfl
    | with_reducible exact OtpKept.refl _

theorem Keeps.setEntW {a s : State} (h : Keeps a s) : ∀ x1 x2 x3, Keeps a (State.setEntW s x1 x2 x3) := by
  intro x1 x2 x3
  unfold State.setEntW; try dsimp only
  repeat' first
    | with_reducible assumption
    | with_reducible apply Keeps.setMemNat

theorem Keeps.entFault {a s : State} (h : Keeps a s) : ∀ x1, Keeps a (State.entFault s x1) := by
  intro x1
  unfold State.entFault; try dsimp only
  repeat' first
    | with_reducible assumption
    | with_reducible apply Keeps.reportFault

theorem Keeps.searchFault {a s : State} (h : Keeps a s) : ∀ x1, Keeps a (State.searchFault s x1) := by
  intro x1
  unfold State.searchFault; try dsimp only
  repeat' first
    | with_reducible assumption
    | with_reducible apply Keeps.entFault
    | split

theorem Keeps.remoteU {a s : State} (h : Keeps a s) : ∀ x1, Keeps a (State.remoteU s x1).2 := by
  intro x1
  unfold State.remoteU; try dsimp only
  repeat' first
    | with_reducible assumption
    | with_reducible apply Keeps.freeVal
    | split
    | refine Keeps.of2 (by with_reducible assumption) ?_
    | with_reducible apply Keeps.upd
    | rfl
    | with_reducible exact OtpKept.refl _

theorem Keeps.remoteTarget {a s : State} (h : Keeps a s) : ∀ x1 x2, Keeps a (State.remoteTarget s x1 x2).2 := by
  intro x1 x2
  unfold State.remoteTarget; try dsimp only
  repeat' first
    | with_reducible assumption
    | with_reducible apply Keeps.freeVal
    | with_reducible apply Keeps.remoteU
    | with_reducible refine Keeps.foldl ?_ (fun _ _ _ => ?_)
    | with_reducible refine Keeps.foldl2 ?_ (fun _ _ _ => ?_)
    | with_reducible apply Keeps.ite
    | with_reducible apply Keeps.ite2
    | split
    | refine Keeps.of2 (by with_reducible assumption) ?_

theorem Keeps.raiseW {a s : State} (h : Keeps a s) : ∀ x1 x2 x3, Keeps a (State.raiseW s x1 x2 x3) := by
  intro x1 x2 x3
  unfold State.raiseW; try dsimp only
  repeat' first
    | with_reducible assumption
    | with_reducible apply Keeps.setEntW
    | with_reducible apply Keeps.ite

theorem Keeps.reserveOut {a s : State} (h : Keeps a s) : ∀ x1, Keeps a (State.reserveOut s x1).2 := by
  intro x1
  unfold State.reserveOut; try dsimp only
  repeat' first
    | with_reducible assumption
    | with_reducible apply Keeps.upd
    | rfl
    | with_reducible exact OtpKept.refl _

theorem Keeps.dropReserve {a s : State} (h : Keeps a s) : ∀ x1 x2, Keeps a (State.dropReserve s x1 x2) := by
  intro x1 x2
  unfold State.dropReserve; try dsimp only
  repeat' first
    | with_reducible assumption
    | with_reducible apply Keeps.raiseW
    | with_reducible apply Keeps.upd
    | rfl
    | with_reducible exact OtpKept.refl _

theorem Keeps.fetchOut {a s : State} (h : Keeps a s) : ∀ x1, Keeps a (State.fetchOut s x1).2 := by
  intro x1
  unfold State.fetchOut; try dsimp only
  repeat' first
    | with_reducible assumption
    | with_reducible apply Keeps.setEntW

theorem Keeps.lqUpdate {a s : State} (h : Keeps a s) : ∀ x1 x2 x3 x4, Keeps a (State.lqUpdate s x1 x2 x3 x4) := by
  intro x1 x2 x3 x4
  unfold State.lqUpdate; try dsimp only
  repeat' first
    | with_reducible assumption
    | with_reducible apply Keeps.setEntW
    | with_reducible apply Keeps.ite

theorem Keeps.applyVerdict {a s : State} (h : Keeps a s) : ∀ x1 x2 x3 x4 x5 x6 x7 x8 x9, Keeps a (State.applyVerdict s x1 x2 x3 x4 x5 x6 x7 x8 x9) := by
  intro x1 x2 x3 x4 x5 x6 x7 x8 x9
  unfold State.applyVerdict; try dsimp only
  repeat' first
    | with_reducible assumption
    | with_reducible apply Keeps.raiseW
    | with_reducible apply Keeps.lqUpdate
    | with_reducible apply Keeps.dropReserve
    | with_reducible apply Keeps.ite
    | split

theorem Keeps.sendVerdict {a s : State} (h : Keeps a s) : ∀ x1 x2 x3 x4 x5 x6 x7 x8, Keeps a (State.sendVerdict s x1 x2 x3 x4 x5 x6 x7 x8) := by
  intro x1 x2 x3 x4 x5 x6 x7 x8
  unfold State.sendVerdict; try dsimp only
  repeat' first
    | with_reducible assumption
    | with_reducible apply Keeps.applyVerdict
    | with_reducible apply Keeps.hvlTag
    | with_reducible apply Keeps.hvlSend
    | with_reducible apply Keeps.ite
    | split
    | refine Keeps.of2 (by with_reducible assumption) ?_
    | with_reducible apply Keeps.upd
    | rfl
    | with_reducible exact OtpKept.refl _

theorem Keeps.insertCheck {a s : State} (h : Keeps a s) : ∀ x1, Keeps a (State.insertCheck s x1).2 := by
  intro x1
  unfold State.insertCheck; try dsimp only
  repeat' first
    | with_reducible assumption
    | with_reducible apply Keeps.entFault
    | with_reducible apply Keeps.freeVal
    | with_reducible apply Keeps.ite
    | with_reducible apply Keeps.ite2
    | split
    | refine Keeps.of2 (by with_reducible assumption) ?_

theorem Keeps.installEntry {a s : State} (h : Keeps a s) : ∀ x1 x2, Keeps a (State.installEntry s x1 x2) := by
  intro x1 x2
  unfold State.installEntry; try dsimp only
  repeat' first
    | with_reducible assumption
    | with_reducible apply Keeps.setEntW
    | with_reducible refine Keeps.foldl ?_ (fun _ _ _ => ?_)
    | with_reducible refine Keeps.foldl2 ?_ (fun _ _ _ => ?_)
    | with_reducible apply Keeps.ite

theorem Keeps.stashHigh {a s : State} (h : Keeps a s) : Keeps a (State.stashHigh s) := by
  unfold State.stashHigh; try dsimp only
  repeat' first
    | with_reducible assumption
    | with_reducible apply Keeps.flag
    | with_reducible apply Keeps.ite

theorem Keeps.nbtInsert {a s : State} (h : Keeps a s) : ∀ x1, Keeps a (State.nbtInsert s x1).2.2.2.2 := by
  intro x1
  unfold State.nbtInsert; try dsimp only
  repeat' first
    | with_reducible assumption
    | with_reducible apply Keeps.insertCheck
    | with_reducible apply Keeps.searchFault
    | with_reducible apply Keeps.installEntry
    | with_reducible apply Keeps.stashHigh
    | with_reducible apply Keeps.ite
    | with_reducible apply Keeps.ite5
    | split
    | refine Keeps.of2 (by with_reducible assumption) ?_
    | with_reducible apply Keeps.upd
    | rfl
    | with_reducible exact OtpKept.refl _

theorem Keeps.nbtUpdate {a s : State} (h : Keeps a s) : ∀ x1 x2 x3, Keeps a (State.nbtUpdate s x1 x2 x3).2.2.2.2 := by
  intro x1 x2 x3
  unfold State.nbtUpdate; try dsimp only
  repeat' first
    | with_reducible assumption
    | with_reducible apply Keeps.setEntW
    | with_reducible apply Keeps.entFault
    | with_reducible refine Keeps.foldl ?_ (fun _ _ _ => ?_)
    | with_reducible refine Keeps.foldl2 ?_ (fun _ _ _ => ?_)
    | with_reducible apply Keeps.ite
    | with_reducible apply Keeps.ite5

theorem Keeps.entryGone {a s : State} (h : Keeps a s) : ∀ x1, Keeps a (State.entryGone s x1) := by
  intro x1
  unfold State.entryGone; try dsimp only
  repeat' first
    | with_reducible assumption
    | with_reducible apply Keeps.ite
    | with_reducible apply Keeps.upd
    | rfl
    | with_reducible exact OtpKept.refl _

theorem Keeps.nbtDelete {a s : State} (h : Keeps a s) : ∀ x1, Keeps a (State.nbtDelete s x1).2.2.2.2 := by
  intro x1
  unfold State.nbtDelete; try dsimp only
  repeat' first
    | with_reducible assumption
    | with_reducible apply Keeps.entryGone
    | with_reducible apply Keeps.setEntW
    | with_reducible apply Keeps.entFault
    | with_reducible apply Keeps.ite
    | with_reducible apply Keeps.ite5
    | with_reducible apply Keeps.upd
    | rfl
    | with_reducible exact OtpKept.refl _

theorem Keeps.nbtLookup {a s : State} (h : Keeps a s) : ∀ x1, Keeps a (State.nbtLookup s x1).2.2.2.2 := by
  intro x1
  unfold State.nbtLookup; try dsimp only
  repeat' first
    | with_reducible assumption
    | with_reducible apply Keeps.searchFault
    | with_reducible apply Keeps.entFault
    | with_reducible apply Keeps.freeVal
    | with_reducible apply Keeps.ite
    | with_reducible apply Keeps.ite5
    | split
    | refine Keeps.of2 (by with_reducible assumption) ?_

theorem Keeps.nbtReadAt {a s : State} (h : Keeps a s) : ∀ x1, Keeps a (State.nbtReadAt s x1).2.2.2.2 := by
  intro x1
  unfold State.nbtReadAt; try dsimp only
  repeat' first
    | with_reducible assumption
    | with_reducible apply Keeps.entFault
    | with_reducible apply Keeps.ite
    | with_reducible apply Keeps.ite5

theorem Keeps.nbtExec {a s : State} (h : Keeps a s) : ∀ x1, Keeps a (State.nbtExec s x1).2.2.2.2 := by
  intro x1
  unfold State.nbtExec; try dsimp only
  repeat' first
    | with_reducible assumption
    | with_reducible apply Keeps.nbtUpdate
    | with_reducible apply Keeps.nbtDelete
    | with_reducible apply Keeps.nbtInsert
    | with_reducible apply Keeps.nbtLookup
    | with_reducible apply Keeps.nbtReadAt
    | with_reducible apply Keeps.ite
    | with_reducible apply Keeps.ite5
    | refine Keeps.of5 (by with_reducible assumption) ?_

theorem Keeps.nbtBusy {a s : State} (h : Keeps a s) : Keeps a (State.nbtBusy s) := by
  unfold State.nbtBusy; try dsimp only
  repeat' first
    | with_reducible assumption
    | with_reducible apply Keeps.setPageSt

theorem Keeps.nbtComplete {a s : State} (h : Keeps a s) : ∀ x1 x2 x3 x4 x5 x6, Keeps a (State.nbtComplete s x1 x2 x3 x4 x5 x6) := by
  intro x1 x2 x3 x4 x5 x6
  unfold State.nbtComplete; try dsimp only
  repeat' first
    | with_reducible assumption
    | with_reducible apply Keeps.setRegI
    | with_reducible apply Keeps.flag
    | with_reducible apply Keeps.countSat
    | with_reducible apply Keeps.nbtBusy
    | with_reducible refine Keeps.foldl ?_ (fun _ _ _ => ?_)
    | with_reducible refine Keeps.foldl2 ?_ (fun _ _ _ => ?_)
    | with_reducible apply Keeps.ite
    | split
    | with_reducible apply Keeps.upd
    | rfl
    | with_reducible exact OtpKept.refl _

theorem Keeps.sendParts {a s : State} (h : Keeps a s) : ∀ x1 x2 x3 x4, Keeps a (State.sendParts s x1 x2 x3 x4) := by
  intro x1 x2 x3 x4
  unfold State.sendParts; try dsimp only
  repeat' first
    | with_reducible assumption
    | with_reducible apply Keeps.hvlSend
    | with_reducible apply Keeps.ite

theorem Keeps.nbtCmdWrite {a s : State} (h : Keeps a s) : ∀ x1 x2, Keeps a (State.nbtCmdWrite s x1 x2) := by
  intro x1 x2
  unfold State.nbtCmdWrite; try dsimp only
  repeat' first
    | with_reducible assumption
    | with_reducible apply Keeps.hvlTag
    | with_reducible apply Keeps.sendParts
    | with_reducible apply Keeps.setRegI
    | with_reducible apply Keeps.putI
    | with_reducible apply Keeps.nbtBusy
    | with_reducible apply Keeps.ite
    | split
    | refine Keeps.of2 (by with_reducible assumption) ?_
    | with_reducible apply Keeps.upd
    | rfl
    | with_reducible exact OtpKept.refl _

theorem Keeps.execNbtCommandDone {a s : State} (h : Keeps a s) : ∀ x0, KeepsAll a (Machine.execNbtCommandDone x0 s) := by
  intro x0
  unfold Machine.execNbtCommandDone; try dsimp only
  repeat' first
    | with_reducible assumption
    | with_reducible apply Keeps.nbtComplete
    | with_reducible apply Keeps.nbtExec
    | with_reducible apply Keeps.ite
    | with_reducible apply KeepsAll.ite
    | with_reducible apply KeepsAll.next
    | split
    | refine Keeps.of5 (by with_reducible assumption) ?_

theorem Keeps.takeBlock {a s : State} (h : Keeps a s) : ∀ x1 x t, State.takeBlock s x1 = some (x, t) → Keeps a t := by
  intro x1 x t e
  unfold State.takeBlock at e; try dsimp only at e
  repeat' first
    | with_reducible assumption
    | (with_reducible contradiction)
    | with_reducible refine Keeps.ofSome e ?_
    | (split at e)
    | with_reducible apply Keeps.setOwner
    | with_reducible apply Keeps.freeVal
    | with_reducible apply Keeps.flag
    | with_reducible apply Keeps.ite
    | split
    | refine Keeps.of2 (by with_reducible assumption) ?_

theorem Keeps.consBlock {a : State} {o : Option (Nat × State)} {g : State → Option (List Nat × State)}
    (h : ∀ x t, o = some (x, t) → Keeps a t) (k : ∀ s, Keeps a s → ∀ x t, g s = some (x, t) → Keeps a t) :
    ∀ x t, State.consBlock o g = some (x, t) → Keeps a t := by
  intro x t e
  unfold State.consBlock at e
  split at e
  · with_reducible contradiction
  · split at e
    · with_reducible contradiction
    · rename_i e2
      exact Keeps.ofSome e (k _ (h _ _ rfl) _ _ e2)

theorem Keeps.takeBlocks {a s : State} (h : Keeps a s) : ∀ o n x t, State.takeBlocks s o n = some (x, t) → Keeps a t := by
  intro o n
  induction n generalizing s
  case zero => intro x t e; exact Keeps.ofSome e h
  case succ n ih => exact Keeps.consBlock (h.takeBlock o) (fun _ hs => ih hs)

theorem Keeps.setLnkReady {a s : State} (h : Keeps a s) : Keeps a (State.setLnkReady s) := by
  unfold State.setLnkReady; try dsimp only
  repeat' first
    | with_reducible assumption
    | with_reducible apply Keeps.put

theorem Keeps.freeBlock {a s : State} (h : Keeps a s) : ∀ x1, Keeps a (State.freeBlock s x1) := by
  intro x1
  unfold State.freeBlock; try dsimp only
  repeat' first
    | with_reducible assumption
    | with_reducible apply Keeps.setOwner
    | with_reducible apply Keeps.setLnkReady
    | with_reducible apply Keeps.ite
    | split
    | with_reducible apply Keeps.upd
    | rfl
    | with_reducible exact OtpKept.refl _

theorem Keeps.freeAll {a s : State} (h : Keeps a s) : ∀ x1, Keeps a (State.freeAll s x1) := by
  intro x1
  unfold State.freeAll; try dsimp only
  repeat' first
    | with_reducible assumption
    | with_reducible apply Keeps.freeBlock
    | with_reducible refine Keeps.foldl ?_ (fun _ _ _ => ?_)
    | with_reducible refine Keeps.foldl2 ?_ (fun _ _ _ => ?_)

theorem Keeps.giveAll {a s : State} (h : Keeps a s) : ∀ x1 x2, Keeps a (State.giveAll s x1 x2) := by
  intro x1 x2
  unfold State.giveAll; try dsimp only
  repeat' first
    | with_reducible assumption
    | with_reducible apply Keeps.setOwner
    | with_reducible refine Keeps.foldl ?_ (fun _ _ _ => ?_)
    | with_reducible refine Keeps.foldl2 ?_ (fun _ _ _ => ?_)

theorem Keeps.ctxTake {a s : State} (h : Keeps a s) : Keeps a (State.ctxTake s) := by
  unfold State.ctxTake; try dsimp only
  repeat' first
    | with_reducible assumption
    | with_reducible apply Keeps.setLnkReady
    | refine Keeps.takeBlock ?_ _ _ _ (by with_reducible assumption)
    | with_reducible refine Keeps.foldl ?_ (fun _ _ _ => ?_)
    | with_reducible refine Keeps.foldl2 ?_ (fun _ _ _ => ?_)
    | with_reducible apply Keeps.ite
    | split
    | with_reducible apply Keeps.upd
    | rfl
    | with_reducible exact OtpKept.refl _

theorem Keeps.ctxReturn {a s : State} (h : Keeps a s) : Keeps a (State.ctxReturn s) := by
  unfold State.ctxReturn; try dsimp only
  repeat' first
    | with_reducible assumption
    | with_reducible apply Keeps.setOwner
    | with_reducible apply Keeps.setLnkReady
    | with_reducible refine Keeps.foldl ?_ (fun _ _ _ => ?_)
    | with_reducible refine Keeps.foldl2 ?_ (fun _ _ _ => ?_)
    | split
    | with_reducible apply Keeps.upd
    | rfl
    | with_reducible exact OtpKept.refl _

theorem Keeps.layChain {a s : State} (h : Keeps a s) : ∀ f bs d, Keeps a (State.layChain s f bs d) := by
  intro f bs d
  induction bs generalizing s f d
  case nil => exact h
  case cons b bs ih => exact ih ((h.setMemNat _ _ _).setBytes _ _) _ _

theorem Keeps.storeChain {a s : State} (h : Keeps a s) : ∀ x1 x2 x3 x4 x5, Keeps a (State.storeChain s x1 x2 x3 x4 x5) := by
  intro x1 x2 x3 x4 x5
  unfold State.storeChain; try dsimp only
  repeat' first
    | with_reducible assumption
    | with_reducible apply Keeps.setMemNat
    | with_reducible apply Keeps.layChain
    | split

theorem Keeps.releaseWalk {a s : State} (h : Keeps a s) : ∀ b f n, Keeps a (State.releaseWalk s b f n).1 := by
  intro b f n
  induction n generalizing s b f
  case zero => exact ((((h.flag _ _).put _ _).put _ _).put _ _)
  case succ n ih =>
    unfold State.releaseWalk; dsimp only
    refine Keeps.ite1 (Keeps.put (Keeps.put (Keeps.put (Keeps.flag (Keeps.ite (Keeps.reportFault (h.upd rfl (OtpKept.refl _)) _ _ _) h) _ _) _ _) _ _) _ _)
      (Keeps.ite1 (h.freeBlock _) ?_)
    exact ih (h.freeBlock _) _ _

theorem Keeps.release {a s : State} (h : Keeps a s) : ∀ x1, Keeps a (State.release s x1) := by
  intro x1
  unfold State.release; try dsimp only
  repeat' first
    | with_reducible assumption
    | with_reducible apply Keeps.releaseWalk
    | with_reducible apply Keeps.event
    | split
    | refine Keeps.of1 (by with_reducible assumption) ?_

theorem Keeps.queueFrame {a s : State} (h : Keeps a s) : ∀ x1, Keeps a (State.queueFrame s x1) := by
  intro x1
  unfold State.queueFrame; try dsimp only
  repeat' first
    | with_reducible assumption
    | with_reducible apply Keeps.giveAll
    | with_reducible apply Keeps.event
    | with_reducible apply Keeps.flag
    | split
    | with_reducible apply Keeps.upd
    | rfl
    | with_reducible exact OtpKept.refl _

theorem Keeps.frmRead {a s : State} (h : Keeps a s) : ∀ x1 x2, Keeps a (Machine.frmRead s x1 x2).2 := by
  intro x1 x2
  unfold Machine.frmRead; try dsimp only
  repeat' first
    | with_reducible assumption
    | with_reducible apply Keeps.setMemNat
    | refine Keeps.takeBlock ?_ _ _ _ (by with_reducible assumption)
    | with_reducible apply Keeps.ite
    | with_reducible apply Keeps.ite2
    | split
    | with_reducible apply Keeps.upd
    | rfl
    | with_reducible exact OtpKept.refl _

theorem Keeps.frmWrite {a s : State} (h : Keeps a s) : ∀ x1 x2, Keeps a (Machine.frmWrite s x1 x2) := by
  intro x1 x2
  unfold Machine.frmWrite; try dsimp only
  repeat' first
    | with_reducible assumption
    | with_reducible apply Keeps.release
    | with_reducible apply Keeps.ite

theorem Keeps.forwardSend {a s : State} (h : Keeps a s) : Keeps a (State.forwardSend s) := by
  unfold State.forwardSend; try dsimp only
  repeat' first
    | with_reducible assumption
    | with_reducible apply Keeps.hvlTag
    | with_reducible apply Keeps.hvlSend
    | with_reducible refine Keeps.foldl ?_ (fun _ _ _ => ?_)
    | with_reducible refine Keeps.foldl2 ?_ (fun _ _ _ => ?_)
    | split
    | refine Keeps.of2 (by with_reducible assumption) ?_
    | with_reducible apply Keeps.upd
    | rfl
    | with_reducible exact OtpKept.refl _

theorem Keeps.forwardKick {a s : State} (h : Keeps a s) : Keeps a (State.forwardKick s) := by
  unfold State.forwardKick; try dsimp only
  repeat' first
    | with_reducible assumption
    | with_reducible apply Keeps.forwardSend
    | with_reducible apply Keeps.ite

theorem Keeps.scsRecord {a s : State} (h : Keeps a s) : Keeps a (State.scsRecord s) := by
  unfold State.scsRecord; try dsimp only
  repeat' first
    | with_reducible assumption
    | with_reducible apply Keeps.record

theorem Keeps.scsSettle {a s : State} (h : Keeps a s) : Keeps a (State.scsSettle s) := by
  unfold State.scsSettle; try dsimp only
  repeat' first
    | with_reducible assumption
    | with_reducible apply Keeps.put
    | with_reducible apply Keeps.upd
    | rfl
    | with_reducible exact OtpKept.refl _

theorem Keeps.scsApply {a s : State} (h : Keeps a s) : ∀ x1, Keeps a (State.scsApply s x1) := by
  intro x1
  unfold State.scsApply; try dsimp only
  repeat' first
    | with_reducible assumption
    | with_reducible apply Keeps.scsSettle
    | with_reducible apply Keeps.put
    | with_reducible apply Keeps.scsRecord
    | with_reducible apply Keeps.ite

theorem Keeps.setRetry {a s : State} (h : Keeps a s) : ∀ x1 x2, Keeps a (State.setRetry s x1 x2) := by
  intro x1 x2
  unfold State.setRetry; try dsimp only
  repeat' first
    | with_reducible assumption
    | with_reducible apply Keeps.ite
    | with_reducible apply Keeps.upd
    | rfl
    | with_reducible exact OtpKept.refl _

theorem Keeps.scsFresh {a s : State} (h : Keeps a s) : Keeps a (State.scsFresh s) := by
  unfold State.scsFresh; try dsimp only
  repeat' first
    | with_reducible assumption
    | with_reducible apply Keeps.scsApply
    | with_reducible apply Keeps.setRetry
    | with_reducible apply Keeps.ite
    | with_reducible apply Keeps.upd
    | rfl
    | with_reducible exact OtpKept.refl _

theorem Keeps.scsChanged {a s : State} (h : Keeps a s) : Keeps a (State.scsChanged s) := by
  unfold State.scsChanged; try dsimp only
  repeat' first
    | with_reducible assumption
    | with_reducible apply Keeps.scsFresh
    | with_reducible apply Keeps.put
    | with_reducible apply Keeps.ite

theorem Keeps.scsReceiverStopped {a s : State} (h : Keeps a s) : Keeps a (State.scsReceiverStopped s) := by
  unfold State.scsReceiverStopped; try dsimp only
  repeat' first
    | with_reducible assumption
    | with_reducible apply Keeps.scsFresh
    | with_reducible apply Keeps.ite

theorem Keeps.crsTune {a s : State} (h : Keeps a s) : ∀ x1 x2 x3, Keeps a (State.crsTune s x1 x2 x3) := by
  intro x1 x2 x3
  unfold State.crsTune; try dsimp only
  repeat' first
    | with_reducible assumption
    | with_reducible apply Keeps.setRetry
    | with_reducible apply Keeps.put
    | with_reducible apply Keeps.upd
    | rfl
    | with_reducible exact OtpKept.refl _

theorem Keeps.crsStop {a s : State} (h : Keeps a s) : Keeps a (State.crsStop s) := by
  unfold State.crsStop; try dsimp only
  repeat' first
    | with_reducible assumption
    | with_reducible apply Keeps.put
    | with_reducible apply Keeps.ite
    | with_reducible apply Keeps.upd
    | rfl
    | with_reducible exact OtpKept.refl _

theorem Keeps.endSrc {a s : State} (h : Keeps a s) : ∀ x1 x2 x3 x4 x5 x6 x7, Keeps a (State.endSrc s x1 x2 x3 x4 x5 x6 x7) := by
  intro x1 x2 x3 x4 x5 x6 x7
  unfold State.endSrc; try dsimp only
  repeat' first
    | with_reducible assumption
    | with_reducible apply Keeps.event
    | with_reducible apply Keeps.put
    | with_reducible apply Keeps.recStatus
    | with_reducible apply Keeps.flag
    | with_reducible apply Keeps.countSat
    | with_reducible apply Keeps.ite
    | split
    | with_reducible apply Keeps.upd
    | rfl
    | with_reducible exact OtpKept.refl _

theorem Keeps.endPlain {a s : State} (h : Keeps a s) : ∀ x1 x2, Keeps a (State.endPlain s x1 x2) := by
  intro x1 x2
  unfold State.endPlain; try dsimp only
  repeat' first
    | with_reducible assumption
    | with_reducible apply Keeps.endSrc

theorem Keeps.crsHold {a s : State} (h : Keeps a s) : ∀ x1, Keeps a (State.crsHold s x1) := by
  intro x1
  unfold State.crsHold; try dsimp only
  repeat' first
    | with_reducible assumption
    | with_reducible apply Keeps.put
    | with_reducible apply Keeps.endPlain
    | split
    | with_reducible apply Keeps.upd
    | rfl
    | with_reducible exact OtpKept.refl _

theorem Keeps.crsReserve {a s : State} (h : Keeps a s) : ∀ x1, Keeps a (State.crsReserve s x1) := by
  intro x1
  unfold State.crsReserve; try dsimp only
  repeat' first
    | with_reducible assumption
    | with_reducible apply Keeps.put
    | with_reducible apply Keeps.ite
    | with_reducible apply Keeps.upd
    | rfl
    | with_reducible exact OtpKept.refl _

theorem Keeps.crsRelease {a s : State} (h : Keeps a s) : ∀ x1, Keeps a (State.crsRelease s x1) := by
  intro x1
  unfold State.crsRelease; try dsimp only
  repeat' first
    | with_reducible assumption
    | with_reducible apply Keeps.crsHold
    | with_reducible apply Keeps.put
    | with_reducible apply Keeps.crsReserve
    | with_reducible apply Keeps.crsTune
    | with_reducible apply Keeps.endPlain
    | with_reducible apply Keeps.ite
    | split
    | with_reducible apply Keeps.upd
    | rfl
    | with_reducible exact OtpKept.refl _

theorem Keeps.crsRequest {a s : State} (h : Keeps a s) : ∀ x1 x2, Keeps a (State.crsRequest s x1 x2).1 := by
  intro x1 x2
  unfold State.crsRequest; try dsimp only
  repeat' first
    | with_reducible assumption
    | with_reducible apply Keeps.crsHold
    | with_reducible apply Keeps.flag
    | with_reducible apply Keeps.crsTune
    | with_reducible apply Keeps.ite
    | with_reducible apply Keeps.ite1

theorem Keeps.setAnt {a s : State} (h : Keeps a s) : ∀ x1, Keeps a (State.setAnt s x1) := by
  intro x1
  unfold State.setAnt; try dsimp only
  repeat' first
    | with_reducible assumption
    | with_reducible apply Keeps.upd
    | rfl
    | with_reducible exact OtpKept.refl _

theorem Keeps.antQuiet {a s : State} (h : Keeps a s) : Keeps a (State.antQuiet s) := by
  unfold State.antQuiet; try dsimp only
  repeat' first
    | with_reducible assumption
    | with_reducible apply Keeps.setAnt
    | with_reducible apply Keeps.ite

theorem Keeps.markFrames {a s : State} (h : Keeps a s) : ∀ x1, Keeps a (State.markFrames s x1) := by
  intro x1
  unfold State.markFrames; try dsimp only
  repeat' first
    | with_reducible assumption
    | with_reducible apply Keeps.ite
    | with_reducible apply Keeps.upd
    | rfl
    | with_reducible exact OtpKept.refl _

theorem Keeps.setGain {a s : State} (h : Keeps a s) : ∀ x1, Keeps a (State.setGain s x1) := by
  intro x1
  unfold State.setGain; try dsimp only
  repeat' first
    | with_reducible assumption
    | with_reducible apply Keeps.countWrap
    | with_reducible apply Keeps.markFrames
    | with_reducible apply Keeps.put
    | with_reducible apply Keeps.record
    | with_reducible apply Keeps.ite
    | with_reducible apply Keeps.upd
    | rfl
    | with_reducible exact OtpKept.refl _

theorem Keeps.rxStartGain {a s : State} (h : Keeps a s) : Keeps a (State.rxStartGain s) := by
  unfold State.rxStartGain; try dsimp only
  repeat' first
    | with_reducible assumption
    | with_reducible apply Keeps.setGain
    | with_reducible apply Keeps.ite

theorem Keeps.agcSettings {a s : State} (h : Keeps a s) : Keeps a (State.agcSettings s) := by
  unfold State.agcSettings; try dsimp only
  repeat' first
    | with_reducible assumption
    | with_reducible apply Keeps.upd
    | rfl
    | with_reducible exact OtpKept.refl _

theorem Keeps.holdRestart {a s : State} (h : Keeps a s) : Keeps a (State.holdRestart s) := by
  unfold State.holdRestart; try dsimp only
  repeat' first
    | with_reducible assumption
    | with_reducible apply Keeps.upd
    | rfl
    | with_reducible exact OtpKept.refl _

theorem Keeps.rxStart {a s : State} (h : Keeps a s) : Keeps a (State.rxStart s) := by
  unfold State.rxStart; try dsimp only
  repeat' first
    | with_reducible assumption
    | with_reducible apply Keeps.agcSettings
    | with_reducible apply Keeps.rxStartGain
    | with_reducible apply Keeps.setRetry
    | with_reducible apply Keeps.scsSettle
    | with_reducible apply Keeps.holdRestart
    | with_reducible apply Keeps.setPageSt
    | with_reducible apply Keeps.antQuiet
    | with_reducible apply Keeps.ite
    | with_reducible apply Keeps.upd
    | rfl
    | with_reducible exact OtpKept.refl _

theorem Keeps.rxStop {a s : State} (h : Keeps a s) : Keeps a (State.rxStop s) := by
  unfold State.rxStop; try dsimp only
  repeat' first
    | with_reducible assumption
    | with_reducible apply Keeps.setPageSt
    | with_reducible apply Keeps.scsReceiverStopped
    | with_reducible apply Keeps.antQuiet
    | with_reducible apply Keeps.ite
    | split
    | with_reducible apply Keeps.upd
    | rfl
    | with_reducible exact OtpKept.refl _

theorem Keeps.unblank {a s : State} (h : Keeps a s) : Keeps a (State.unblank s) := by
  unfold State.unblank; try dsimp only
  repeat' first
    | with_reducible assumption
    | with_reducible apply Keeps.put
    | with_reducible apply Keeps.record
    | with_reducible apply Keeps.ite

theorem Keeps.execScsSettled {a s : State} (h : Keeps a s) : KeepsAll a (Machine.execScsSettled s) := by
  unfold Machine.execScsSettled; try dsimp only
  repeat' first
    | with_reducible assumption
    | with_reducible apply Keeps.put
    | with_reducible apply Keeps.ite
    | with_reducible apply KeepsAll.ite
    | with_reducible apply KeepsAll.next

theorem Keeps.agcAct {a s : State} (h : Keeps a s) : ∀ x1 x2, Keeps a (State.agcAct s x1 x2) := by
  intro x1 x2
  unfold State.agcAct; try dsimp only
  repeat' first
    | with_reducible assumption
    | with_reducible apply Keeps.holdRestart
    | with_reducible apply Keeps.setGain
    | with_reducible apply Keeps.ite
    | with_reducible apply Keeps.upd
    | rfl
    | with_reducible exact OtpKept.refl _

theorem Keeps.execAgcWindowEnd {a s : State} (h : Keeps a s) : ∀ x0 x1 x2, KeepsAll a (Machine.execAgcWindowEnd x0 x1 x2 s) := by
  intro x0 x1 x2
  unfold Machine.execAgcWindowEnd; try dsimp only
  repeat' first
    | with_reducible assumption
    | with_reducible apply Keeps.agcSettings
    | with_reducible apply Keeps.agcAct
    | with_reducible apply Keeps.markFrames
    | with_reducible apply Keeps.put
    | with_reducible apply Keeps.flag
    | with_reducible apply Keeps.ite
    | with_reducible apply KeepsAll.ite
    | with_reducible apply KeepsAll.next
    | with_reducible apply Keeps.upd
    | rfl
    | with_reducible exact OtpKept.refl _

theorem Keeps.execAgcHoldExpiry {a s : State} (h : Keeps a s) : KeepsAll a (Machine.execAgcHoldExpiry s) := by
  unfold Machine.execAgcHoldExpiry; try dsimp only
  repeat' first
    | with_reducible assumption
    | with_reducible apply Keeps.holdRestart
    | with_reducible apply Keeps.setGain
    | with_reducible apply Keeps.ite
    | with_reducible apply KeepsAll.ite
    | with_reducible apply KeepsAll.next

theorem Keeps.execCrsLock {a s : State} (h : Keeps a s) : KeepsAll a (Machine.execCrsLock s) := by
  unfold Machine.execCrsLock; try dsimp only
  repeat' first
    | with_reducible assumption
    | with_reducible apply Keeps.put
    | with_reducible apply Keeps.ite
    | with_reducible apply KeepsAll.ite
    | with_reducible apply KeepsAll.next

theorem Keeps.descErr {a s : State} (h : Keeps a s) : ∀ x1 x2, Keeps a (State.descErr s x1 x2) := by
  intro x1 x2
  unfold State.descErr; try dsimp only
  repeat' first
    | with_reducible assumption
    | with_reducible apply Keeps.put
    | with_reducible apply Keeps.flag

theorem Keeps.planSlots {a s : State} (h : Keeps a s) : ∀ x1, Keeps a (State.planSlots s x1) := by
  intro x1
  unfold State.planSlots; try dsimp only
  repeat' first
    | with_reducible assumption
    | with_reducible apply Keeps.ite
    | split
    | with_reducible apply Keeps.upd
    | rfl
    | with_reducible exact OtpKept.refl _

theorem Keeps.specLoss {a s : State} (h : Keeps a s) : ∀ x1, Keeps a (State.specLoss s x1) := by
  intro x1
  unfold State.specLoss; try dsimp only
  repeat' first
    | with_reducible assumption
    | with_reducible apply Keeps.put
    | with_reducible apply Keeps.countSat
    | with_reducible apply Keeps.ite

theorem Keeps.recSpecEnd {a s : State} (h : Keeps a s) : ∀ x1 x2, Keeps a (State.recSpecEnd s x1 x2) := by
  intro x1 x2
  unfold State.recSpecEnd; try dsimp only
  repeat' first
    | with_reducible assumption
    | with_reducible apply Keeps.ite
    | with_reducible apply Keeps.upd
    | rfl
    | with_reducible exact OtpKept.refl _

theorem Keeps.specRecord {a s : State} (h : Keeps a s) : ∀ x1 x2 x3 x4 x5, Keeps a (State.specRecord s x1 x2 x3 x4 x5) := by
  intro x1 x2 x3 x4 x5
  unfold State.specRecord; try dsimp only
  repeat' first
    | with_reducible assumption
    | with_reducible apply Keeps.recordUnit
    | with_reducible apply Keeps.recTrigger
    | with_reducible apply Keeps.recSpecEnd
    | with_reducible apply Keeps.ite

theorem Keeps.onFrame {a s : State} (h : Keeps a s) : ∀ x1 x2, Keeps a (State.onFrame s x1 x2) := by
  intro x1 x2
  unfold State.onFrame; try dsimp only
  repeat' first
    | with_reducible assumption
    | with_reducible apply Keeps.setSlot
    | with_reducible apply Keeps.upd
    | rfl
    | with_reducible exact OtpKept.refl _

theorem Keeps.setRecFlag {a s : State} (h : Keeps a s) : ∀ x1 x2, Keeps a (State.setRecFlag s x1 x2) := by
  intro x1 x2
  unfold State.setRecFlag; try dsimp only
  repeat' first
    | with_reducible assumption
    | with_reducible apply Keeps.setMemNat

theorem Keeps.ctxFree {a s : State} (h : Keeps a s) : ∀ x1, Keeps a (State.ctxFree s x1) := by
  intro x1
  unfold State.ctxFree; try dsimp only
  repeat' first
    | with_reducible assumption
    | with_reducible apply Keeps.setOwner
    | with_reducible apply Keeps.setLnkReady
    | split
    | with_reducible apply Keeps.upd
    | rfl
    | with_reducible exact OtpKept.refl _

theorem Keeps.squashCtx {a s : State} (h : Keeps a s) : ∀ x1 x2, Keeps a (State.squashCtx s x1 x2) := by
  intro x1 x2
  unfold State.squashCtx; try dsimp only
  repeat' first
    | with_reducible assumption
    | with_reducible apply Keeps.onFrame
    | with_reducible apply Keeps.raiseW
    | with_reducible apply Keeps.specRecord
    | with_reducible apply Keeps.crsRelease
    | with_reducible apply Keeps.crsHold
    | with_reducible apply Keeps.sendVerdict
    | with_reducible apply Keeps.dropReserve
    | with_reducible apply Keeps.ctxFree
    | with_reducible apply Keeps.specLoss
    | with_reducible apply Keeps.setRecFlag
    | with_reducible apply Keeps.ite
    | split
    | with_reducible apply Keeps.upd
    | rfl
    | with_reducible exact OtpKept.refl _

theorem Keeps.ackLost {a s : State} (h : Keeps a s) : ∀ x1 x2, Keeps a (State.ackLost s x1 x2) := by
  intro x1 x2
  unfold State.ackLost; try dsimp only
  repeat' first
    | with_reducible assumption
    | with_reducible apply Keeps.onFrame
    | with_reducible apply Keeps.specRecord
    | with_reducible apply Keeps.specLoss
    | with_reducible apply Keeps.upd
    | rfl
    | with_reducible exact OtpKept.refl _

theorem Keeps.recordDesc {a s : State} (h : Keeps a s) : ∀ x1 x2, Keeps a (State.recordDesc s x1 x2) := by
  intro x1 x2
  unfold State.recordDesc; try dsimp only
  repeat' first
    | with_reducible assumption
    | with_reducible apply Keeps.record
    | with_reducible apply Keeps.ite

theorem Keeps.freshCopy {a s : State} (h : Keeps a s) : ∀ x1, Keeps a (State.freshCopy s x1) := by
  intro x1
  unfold State.freshCopy; try dsimp only
  repeat' first
    | with_reducible assumption
    | with_reducible apply Keeps.recordDesc
    | with_reducible apply Keeps.setSlot
    | with_reducible apply Keeps.ite
    | split
    | with_reducible apply Keeps.upd
    | rfl
    | with_reducible exact OtpKept.refl _

theorem Keeps.lossRecord {a s : State} (h : Keeps a s) : ∀ x1 x2 x3, Keeps a (State.lossRecord s x1 x2 x3) := by
  intro x1 x2 x3
  unfold State.lossRecord; try dsimp only
  repeat' first
    | with_reducible assumption
    | with_reducible apply Keeps.put
    | with_reducible apply Keeps.flag
    | with_reducible apply Keeps.countSat
    | with_reducible apply Keeps.ite
    | split

theorem Keeps.loseFrame {a s : State} (h : Keeps a s) : ∀ x1 x2, Keeps a (State.loseFrame s x1 x2) := by
  intro x1 x2
  unfold State.loseFrame; try dsimp only
  repeat' first
    | with_reducible assumption
    | with_reducible apply Keeps.lossRecord
    | with_reducible apply Keeps.setSlot
    | with_reducible apply Keeps.sendVerdict
    | with_reducible apply Keeps.recTrigger
    | with_reducible apply Keeps.dropReserve
    | with_reducible apply Keeps.squashCtx
    | with_reducible apply Keeps.freeAll
    | with_reducible apply Keeps.freshCopy
    | with_reducible apply Keeps.ite
    | split
    | with_reducible apply Keeps.upd
    | rfl
    | with_reducible exact OtpKept.refl _

theorem Keeps.loseAll {a s : State} (h : Keeps a s) : ∀ x1, Keeps a (State.loseAll s x1) := by
  intro x1
  unfold State.loseAll; try dsimp only
  repeat' first
    | with_reducible assumption
    | with_reducible apply Keeps.loseFrame
    | with_reducible refine Keeps.foldl ?_ (fun _ _ _ => ?_)
    | with_reducible refine Keeps.foldl2 ?_ (fun _ _ _ => ?_)

theorem Keeps.releaseAll {a s : State} (h : Keeps a s) : Keeps a (State.releaseAll s) := by
  unfold State.releaseAll; try dsimp only
  repeat' first
    | with_reducible assumption
    | with_reducible apply Keeps.upd
    | rfl
    | with_reducible exact OtpKept.refl _

theorem Keeps.whiffDrop {a s : State} (h : Keeps a s) : Keeps a (State.whiffDrop s) := by
  unfold State.whiffDrop; try dsimp only
  repeat' first
    | with_reducible assumption
    | with_reducible apply Keeps.setPageSt
    | with_reducible apply Keeps.freeAll
    | with_reducible apply Keeps.setGain
    | with_reducible apply Keeps.ite
    | split
    | with_reducible apply Keeps.upd
    | rfl
    | with_reducible exact OtpKept.refl _

theorem Keeps.takeStream {a s : State} (h : Keeps a s) : Keeps a (State.takeStream s).2 := by
  unfold State.takeStream; try dsimp only
  repeat' first
    | with_reducible assumption
    | with_reducible apply Keeps.freeVal
    | with_reducible apply Keeps.ite
    | with_reducible apply Keeps.ite2
    | split
    | refine Keeps.of2 (by with_reducible assumption) ?_

theorem Keeps.takeDesc {a s : State} (h : Keeps a s) : ∀ x1 x2, Keeps a (State.takeDesc s x1 x2) := by
  intro x1 x2
  unfold State.takeDesc; try dsimp only
  repeat' first
    | with_reducible assumption
    | with_reducible apply Keeps.recordDesc
    | with_reducible apply Keeps.setSlot
    | with_reducible apply Keeps.takeStream
    | with_reducible apply Keeps.recGap
    | split
    | refine Keeps.of2 (by with_reducible assumption) ?_
    | with_reducible apply Keeps.upd
    | rfl
    | with_reducible exact OtpKept.refl _

theorem Keeps.updateUnit {a s : State} (h : Keeps a s) : ∀ x1, Keeps a (State.updateUnit s x1) := by
  intro x1
  unfold State.updateUnit; try dsimp only
  repeat' first
    | with_reducible assumption
    | with_reducible apply Keeps.recordDesc
    | with_reducible apply Keeps.takeDesc
    | with_reducible apply Keeps.setSlot
    | with_reducible apply Keeps.loseFrame
    | with_reducible apply Keeps.recGap
    | with_reducible apply Keeps.ite
    | split
    | with_reducible apply Keeps.upd
    | rfl
    | with_reducible exact OtpKept.refl _

theorem Keeps.moveRetired {a s : State} (h : Keeps a s) : ∀ x1, Keeps a (State.moveRetired s x1) := by
  intro x1
  unfold State.moveRetired; try dsimp only
  repeat' first
    | with_reducible assumption
    | with_reducible apply Keeps.descErr
    | with_reducible apply Keeps.takeDesc
    | with_reducible apply Keeps.setSlot
    | with_reducible apply Keeps.loseFrame
    | with_reducible apply Keeps.ite
    | split

theorem Keeps.execChannelizerUpdate {a s : State} (h : Keeps a s) : KeepsAll a (Machine.execChannelizerUpdate s) := by
  unfold Machine.execChannelizerUpdate; try dsimp only
  repeat' first
    | with_reducible assumption
    | with_reducible apply Keeps.updateUnit
    | with_reducible apply Keeps.moveRetired
    | with_reducible refine Keeps.foldl ?_ (fun _ _ _ => ?_)
    | with_reducible refine Keeps.foldl2 ?_ (fun _ _ _ => ?_)
    | with_reducible apply Keeps.ite
    | with_reducible apply KeepsAll.ite
    | with_reducible apply KeepsAll.next

theorem Keeps.setAttrByte {a s : State} (h : Keeps a s) : ∀ x1 x2, Keeps a (State.setAttrByte s x1 x2) := by
  intro x1 x2
  unfold State.setAttrByte; try dsimp only
  repeat' first
    | with_reducible assumption
    | with_reducible apply Keeps.upd
    | rfl
    | with_reducible exact OtpKept.refl _

theorem Keeps.copyKey {a s : State} (h : Keeps a s) : ∀ x1 x2, Keeps a (State.copyKey s x1 x2).2 := by
  intro x1 x2
  unfold State.copyKey; try dsimp only
  repeat' first
    | with_reducible assumption
    | with_reducible apply Keeps.reportFault
    | with_reducible apply Keeps.setAttrByte
    | with_reducible refine Keeps.foldl ?_ (fun _ _ _ => ?_)
    | with_reducible refine Keeps.foldl2 ?_ (fun _ _ _ => ?_)
    | with_reducible apply Keeps.ite
    | with_reducible apply Keeps.ite2

theorem Keeps.slotKey {a s : State} (h : Keeps a s) : ∀ x1, Keeps a (State.slotKey s x1).2 := by
  intro x1
  unfold State.slotKey; try dsimp only
  repeat' first
    | with_reducible assumption
    | with_reducible apply Keeps.copyKey
    | with_reducible apply Keeps.ite
    | with_reducible apply Keeps.ite2
    | refine Keeps.of2 (by with_reducible assumption) ?_

theorem Keeps.frameKey {a s : State} (h : Keeps a s) : ∀ x1 x2 x3, Keeps a (State.frameKey s x1 x2 x3).2 := by
  intro x1 x2 x3
  unfold State.frameKey; try dsimp only
  repeat' first
    | with_reducible assumption
    | with_reducible apply Keeps.slotKey
    | split
    | refine Keeps.of2 (by with_reducible assumption) ?_

theorem Keeps.keyMiss {a s : State} (h : Keeps a s) : Keeps a (State.keyMiss s) := by
  unfold State.keyMiss; try dsimp only
  repeat' first
    | with_reducible assumption
    | with_reducible apply Keeps.flag
    | with_reducible apply Keeps.countSat

theorem Keeps.profileFault {a s : State} (h : Keeps a s) : ∀ x1, Keeps a (State.profileFault s x1) := by
  intro x1
  unfold State.profileFault; try dsimp only
  repeat' first
    | with_reducible assumption
    | with_reducible apply Keeps.reportFault
    | with_reducible apply Keeps.ite

theorem Keeps.setEngine {a s : State} (h : Keeps a s) : ∀ x1 x2, Keeps a (State.setEngine s x1 x2) := by
  intro x1 x2
  unfold State.setEngine; try dsimp only
  repeat' first
    | with_reducible assumption
    | with_reducible apply Keeps.upd
    | rfl
    | with_reducible exact OtpKept.refl _

theorem Keeps.faultRange {a s : State} (h : Keeps a s) : ∀ x1 x2, Keeps a (State.faultRange s x1 x2) := by
  intro x1 x2
  unfold State.faultRange; try dsimp only
  repeat' first
    | with_reducible assumption
    | with_reducible apply Keeps.reportFault
    | split

theorem Keeps.setSec {a s : State} (h : Keeps a s) {g : Sec → Sec} (k : (g s.sec).secret = s.sec.secret ∧ OtpKept s.sec.otp (g s.sec).otp) :
    Keeps a (State.setSec s g) := h.upd k.1 k.2

theorem Keeps.busSetByte {a s : State} (h : Keeps a s) : ∀ x1 x2, Keeps a (State.busSetByte s x1 x2) := by
  intro x1 x2
  unfold State.busSetByte; try dsimp only
  repeat' first
    | with_reducible assumption
    | with_reducible apply Keeps.flag
    | with_reducible apply Keeps.setByte
    | with_reducible apply Keeps.ite
    | split

theorem Keeps.busSetBytes {a s : State} (h : Keeps a s) : ∀ x1 x2, Keeps a (State.busSetBytes s x1 x2) := by
  intro x1 x2
  unfold State.busSetBytes; try dsimp only
  repeat' first
    | with_reducible assumption
    | with_reducible apply Keeps.busSetByte
    | with_reducible refine Keeps.foldl ?_ (fun _ _ _ => ?_)
    | with_reducible refine Keeps.foldl2 ?_ (fun _ _ _ => ?_)

end Sys2Proof.Machine
end

