-- ==== Sys2Proof/Laws/Keeps2.lean ====
section
/-! SUPPORT. What the operations keep (Laws/Keeps.lean): Security, Domains, Radio, Receiver, Power, Transmit, Receive. -/

set_option linter.unusedTactic false
set_option linter.unreachableTactic false

namespace Sys2Proof.Machine

theorem Keeps.ownViol {a s : State} (h : Keeps a s) : ∀ x1 x2, Keeps a (State.ownViol s x1 x2) := by
  intro x1 x2
  unfold State.ownViol; try dsimp only
  repeat' first
    | with_reducible assumption
    | with_reducible apply Keeps.put
    | with_reducible apply Keeps.flag
    | split

theorem Keeps.jobStore {a s : State} (h : Keeps a s) : ∀ x1 x2 x3, Keeps a (State.jobStore s x1 x2 x3) := by
  intro x1 x2 x3
  unfold State.jobStore; try dsimp only
  repeat' first
    | with_reducible assumption
    | with_reducible apply Keeps.busSetByte
    | with_reducible apply Keeps.ownViol
    | with_reducible refine Keeps.foldl ?_ (fun _ _ _ => ?_)
    | with_reducible refine Keeps.foldl2 ?_ (fun _ _ _ => ?_)
    | with_reducible apply Keeps.ite

theorem Keeps.jobWrite {a s : State} (h : Keeps a s) : ∀ x1 x2, Keeps a (State.jobWrite s x1 x2) := by
  intro x1 x2
  unfold State.jobWrite; try dsimp only
  repeat' first
    | with_reducible assumption
    | with_reducible apply Keeps.setReg
    | with_reducible apply Keeps.put
    | with_reducible apply Keeps.freeVal
    | with_reducible apply Keeps.setSec
    | exact ⟨rfl, OtpKept.refl _⟩
    | with_reducible apply Keeps.setPageSt
    | with_reducible apply Keeps.copyKey
    | with_reducible apply Keeps.ite
    | split
    | refine Keeps.of2 (by with_reducible assumption) ?_
    | with_reducible apply Keeps.upd
    | rfl
    | with_reducible exact OtpKept.refl _

theorem Keeps.rngCount {a s : State} (h : Keeps a s) : Keeps a (State.rngCount s) := by
  unfold State.rngCount; try dsimp only
  repeat' first
    | with_reducible assumption
    | with_reducible apply Keeps.put

theorem Keeps.slotErase {a s : State} (h : Keeps a s) : ∀ x1, Keeps a (State.slotErase s x1) := by
  intro x1
  unfold State.slotErase; try dsimp only
  repeat' first
    | with_reducible assumption
    | with_reducible apply Keeps.setBytes
    | with_reducible apply Keeps.setAttrByte

theorem Keeps.keyErase {a s : State} (h : Keeps a s) : ∀ x1, Keeps a (State.keyErase s x1) := by
  intro x1
  unfold State.keyErase; try dsimp only
  repeat' first
    | with_reducible assumption
    | with_reducible apply Keeps.slotErase
    | with_reducible apply Keeps.ite

theorem Keeps.keySetAttr {a s : State} (h : Keeps a s) : ∀ x1 x2, Keeps a (State.keySetAttr s x1 x2).2 := by
  intro x1 x2
  unfold State.keySetAttr; try dsimp only
  repeat' first
    | with_reducible assumption
    | with_reducible apply Keeps.setAttrByte
    | with_reducible apply Keeps.slotErase
    | with_reducible apply Keeps.ite
    | with_reducible apply Keeps.ite2

theorem Keeps.keyImport {a s : State} (h : Keeps a s) : ∀ x1, Keeps a (State.keyImport s x1).2 := by
  intro x1
  unfold State.keyImport; try dsimp only
  repeat' first
    | with_reducible assumption
    | with_reducible apply Keeps.setBytes
    | with_reducible apply Keeps.put
    | with_reducible apply Keeps.setAttrByte
    | with_reducible apply Keeps.ite
    | with_reducible apply Keeps.ite2
    | split

theorem Keeps.kstData {a s : State} (h : Keeps a s) : ∀ x1, Keeps a (State.kstData s x1) := by
  intro x1
  unfold State.kstData; try dsimp only
  repeat' first
    | with_reducible assumption
    | with_reducible apply Keeps.setReg
    | with_reducible refine Keeps.foldl ?_ (fun _ _ _ => ?_)
    | with_reducible refine Keeps.foldl2 ?_ (fun _ _ _ => ?_)

theorem Keeps.keyExport {a s : State} (h : Keeps a s) : ∀ x1, Keeps a (State.keyExport s x1).2 := by
  intro x1
  unfold State.keyExport; try dsimp only
  repeat' first
    | with_reducible assumption
    | with_reducible apply Keeps.kstData
    | with_reducible apply Keeps.ite
    | with_reducible apply Keeps.ite2

theorem Keeps.showScope {a s : State} (h : Keeps a s) : Keeps a (State.showScope s) := by
  unfold State.showScope; try dsimp only
  repeat' first
    | with_reducible assumption
    | with_reducible apply Keeps.put
    | with_reducible apply Keeps.ite

theorem OtpKept.set (l : List Nat) (n : Nat) (g : Nat → Nat) : OtpKept l (modifyAt l n (fun o => o ||| g o)) := by
  induction l generalizing n with
  | nil => exact OtpKept.refl _
  | cons x l ih =>
    intro i k e
    cases n <;> cases i <;> simp_all [modifyAt, Nat.testBit_or]
    exact ih _ _ _ e

theorem Keeps.otpSet {a s : State} (h : Keeps a s) : ∀ c v, Keeps a (State.otpSet s c v) := fun c v =>
  (h.setSec ⟨rfl, OtpKept.set _ c _⟩).showScope

theorem Keeps.showUid {a s : State} (h : Keeps a s) : Keeps a (State.showUid s) := by
  unfold State.showUid; try dsimp only
  repeat' first
    | with_reducible assumption
    | with_reducible apply Keeps.setReg

theorem Keeps.kstRun {a s : State} (h : Keeps a s) : ∀ x1, Keeps a (State.kstRun s x1).2 := by
  intro x1
  unfold State.kstRun; try dsimp only
  repeat' first
    | with_reducible assumption
    | with_reducible apply Keeps.keyExport
    | with_reducible apply Keeps.showUid
    | with_reducible apply Keeps.keySetAttr
    | with_reducible apply Keeps.keyImport
    | with_reducible apply Keeps.put
    | with_reducible apply Keeps.keyErase
    | with_reducible apply Keeps.otpSet
    | with_reducible apply Keeps.ite
    | with_reducible apply Keeps.ite2
    | split
    | refine Keeps.of2 (by with_reducible assumption) ?_
    | with_reducible apply Keeps.upd
    | rfl
    | with_reducible exact OtpKept.refl _
    | exact (Keeps.setMem h (fun k => Sparse.wf_clear (fun a => decide (0x30200000 ≤ a) && decide (a < 0x30210000)) k)).upd rfl (OtpKept.refl _)

theorem Keeps.kstWrite {a s : State} (h : Keeps a s) : ∀ x1, Keeps a (State.kstWrite s x1) := by
  intro x1
  unfold State.kstWrite; try dsimp only
  repeat' first
    | with_reducible assumption
    | with_reducible apply Keeps.setReg
    | with_reducible apply Keeps.put
    | with_reducible apply Keeps.setSec
    | exact ⟨rfl, OtpKept.refl _⟩
    | with_reducible apply Keeps.setPageSt
    | with_reducible apply Keeps.ite
    | with_reducible apply Keeps.upd
    | rfl
    | with_reducible exact OtpKept.refl _

theorem Keeps.rngRestart {a s : State} (h : Keeps a s) : Keeps a (State.rngRestart s) := by
  unfold State.rngRestart; try dsimp only
  repeat' first
    | with_reducible assumption
    | with_reducible apply Keeps.rngCount
    | with_reducible apply Keeps.put
    | with_reducible apply Keeps.setSec
    | exact ⟨rfl, OtpKept.refl _⟩
    | with_reducible apply Keeps.ite
    | with_reducible apply Keeps.upd
    | rfl
    | with_reducible exact OtpKept.refl _

theorem Keeps.connected {a s : State} (h : Keeps a s) : Keeps a (State.connected s) := by
  unfold State.connected; try dsimp only
  repeat' first
    | with_reducible assumption
    | with_reducible apply Keeps.put

theorem Keeps.secRead {a s : State} (h : Keeps a s) : ∀ x1 x2, Keeps a (Machine.secRead s x1 x2).2 := by
  intro x1 x2
  unfold Machine.secRead; try dsimp only
  repeat' first
    | with_reducible assumption
    | with_reducible apply Keeps.rngCount
    | with_reducible apply Keeps.put
    | with_reducible apply Keeps.setSec
    | exact ⟨rfl, OtpKept.refl _⟩
    | with_reducible apply Keeps.ite
    | with_reducible apply Keeps.ite2
    | split
    | with_reducible apply Keeps.upd
    | rfl
    | with_reducible exact OtpKept.refl _

theorem Keeps.secWrite {a s : State} (h : Keeps a s) : ∀ x1 x2 x3, Keeps a (Machine.secWrite s x1 x2 x3) := by
  intro x1 x2 x3
  unfold Machine.secWrite; try dsimp only
  repeat' first
    | with_reducible assumption
    | with_reducible apply Keeps.rngRestart
    | with_reducible apply Keeps.jobWrite
    | with_reducible apply Keeps.ite

theorem Keeps.execJobDone {a s : State} (h : Keeps a s) : KeepsAll a (Machine.execJobDone s) := by
  unfold Machine.execJobDone; try dsimp only
  repeat' first
    | with_reducible assumption
    | with_reducible apply Keeps.setReg
    | with_reducible apply Keeps.setSec
    | exact ⟨rfl, OtpKept.refl _⟩
    | with_reducible apply Keeps.flag
    | with_reducible apply Keeps.setPageSt
    | with_reducible apply Keeps.faultRange
    | with_reducible apply Keeps.jobStore
    | with_reducible apply Keeps.ite
    | with_reducible apply KeepsAll.ite
    | with_reducible apply KeepsAll.next
    | split
    | with_reducible apply Keeps.upd
    | rfl
    | with_reducible exact OtpKept.refl _

theorem Keeps.execRngWord {a s : State} (h : Keeps a s) : ∀ x0 x1, KeepsAll a (Machine.execRngWord x0 x1 s) := by
  intro x0 x1
  unfold Machine.execRngWord; try dsimp only
  repeat' first
    | with_reducible assumption
    | with_reducible apply Keeps.reportFault
    | with_reducible apply Keeps.rngCount
    | with_reducible apply Keeps.put
    | with_reducible apply Keeps.setSec
    | exact ⟨rfl, OtpKept.refl _⟩
    | with_reducible apply Keeps.flag
    | with_reducible apply Keeps.ite
    | with_reducible apply KeepsAll.ite
    | with_reducible apply KeepsAll.next
    | with_reducible apply Keeps.upd
    | rfl
    | with_reducible exact OtpKept.refl _

theorem Keeps.execKstCommandDone {a s : State} (h : Keeps a s) : KeepsAll a (Machine.execKstCommandDone s) := by
  unfold Machine.execKstCommandDone; try dsimp only
  repeat' first
    | with_reducible assumption
    | with_reducible apply Keeps.setReg
    | with_reducible apply Keeps.kstData
    | with_reducible apply Keeps.kstRun
    | with_reducible apply Keeps.setSec
    | exact ⟨rfl, OtpKept.refl _⟩
    | with_reducible apply Keeps.flag
    | with_reducible apply Keeps.setPageSt
    | with_reducible apply Keeps.ite
    | with_reducible apply KeepsAll.ite
    | with_reducible apply KeepsAll.next
    | split
    | refine Keeps.of2 (by with_reducible assumption) ?_
    | with_reducible apply Keeps.upd
    | rfl
    | with_reducible exact OtpKept.refl _

theorem Keeps.execDbgChal {a s : State} (h : Keeps a s) : ∀ x0, KeepsAll a (Machine.execDbgChal x0 s) := by
  intro x0
  unfold Machine.execDbgChal; try dsimp only
  repeat' first
    | with_reducible assumption
    | with_reducible apply Keeps.connected
    | with_reducible apply Keeps.setSec
    | exact ⟨rfl, OtpKept.refl _⟩
    | with_reducible apply Keeps.ite
    | with_reducible apply KeepsAll.ite
    | with_reducible apply KeepsAll.next
    | with_reducible apply Keeps.upd
    | rfl
    | with_reducible exact OtpKept.refl _

theorem Keeps.execDbgResp {a s : State} (h : Keeps a s) : ∀ x0 x1 x2, KeepsAll a (Machine.execDbgResp x0 x1 x2 s) := by
  intro x0 x1 x2
  unfold Machine.execDbgResp; try dsimp only
  repeat' first
    | with_reducible assumption
    | with_reducible apply Keeps.showScope
    | with_reducible apply Keeps.connected
    | with_reducible apply Keeps.put
    | with_reducible apply Keeps.setSec
    | exact ⟨rfl, OtpKept.refl _⟩
    | with_reducible apply Keeps.ite
    | with_reducible apply KeepsAll.ite
    | with_reducible apply KeepsAll.next
    | split
    | with_reducible apply Keeps.upd
    | rfl
    | with_reducible exact OtpKept.refl _

theorem Keeps.keepMem {a s : State} (h : Keeps a s) : ∀ p, Keeps a (State.keepMem s p) := fun p =>
  (h.setMem (fun k => Sparse.wf_filter (fun c => p c.1) k)).upd rfl (OtpKept.refl _)

theorem Keeps.keepRegs {a s : State} (h : Keeps a s) : ∀ p, Keeps a (State.keepRegs s p) := fun p =>
  (h.setRegs (fun k => Sparse.wf_filter (fun c => p c.1) k)).setBank (fun k => Sparse.wf_filter (fun c => p (c.1 % 0x100000000)) k)

theorem Keeps.keepPages {a s : State} (h : Keeps a s) : ∀ x1, Keeps a (State.keepPages s x1) := by
  intro x1
  unfold State.keepPages; try dsimp only
  repeat' first
    | with_reducible assumption
    | with_reducible apply Keeps.ite
    | with_reducible apply Keeps.upd
    | rfl
    | with_reducible exact OtpKept.refl _

theorem Keeps.setStrap {a s : State} (h : Keeps a s) : ∀ x1, Keeps a (State.setStrap s x1) := by
  intro x1
  unfold State.setStrap; try dsimp only
  repeat' first
    | with_reducible assumption
    | with_reducible apply Keeps.put
    | with_reducible apply Keeps.ite
    | with_reducible apply Keeps.upd
    | rfl
    | with_reducible exact OtpKept.refl _

theorem Keeps.radioOff {a s : State} (h : Keeps a s) : Keeps a (State.radioOff s) := by
  unfold State.radioOff; try dsimp only
  repeat' first
    | with_reducible assumption
    | with_reducible apply Keeps.keepMem
    | with_reducible apply Keeps.keepPages
    | with_reducible apply Keeps.recTrigger
    | with_reducible apply Keeps.put
    | with_reducible apply Keeps.keepRegs
    | with_reducible apply Keeps.setStrap
    | with_reducible apply Keeps.ite
    | split
    | with_reducible apply Keeps.upd
    | rfl
    | with_reducible exact OtpKept.refl _

theorem Keeps.pllSettle {a s : State} (h : Keeps a s) : Keeps a (State.pllSettle s) := by
  unfold State.pllSettle; try dsimp only
  repeat' first
    | with_reducible assumption
    | with_reducible apply Keeps.put
    | with_reducible apply Keeps.ite

theorem Keeps.offSettle {a s : State} (h : Keeps a s) : Keeps a (State.offSettle s) := by
  unfold State.offSettle; try dsimp only
  repeat' first
    | with_reducible assumption
    | with_reducible apply Keeps.radioOff
    | with_reducible apply Keeps.ite

theorem Keeps.rebuilt {a s : State} (h : Keeps a s) : ∀ p q, Keeps a (State.rebuilt s p q) := by
  intro p q
  have k := (h.keepRegs p).keepMem (fun a => flashMem a || q a)
  exact ⟨h.1, h.2.1, h.2.2.1, h.2.2.2.1, k.2.2.2.2⟩

theorem Keeps.systemOff {a s : State} (h : Keeps a s) : Keeps a (State.systemOff s) := by
  unfold State.systemOff; try dsimp only
  repeat' first
    | with_reducible assumption
    | with_reducible apply Keeps.keepPages
    | with_reducible apply Keeps.rebuilt
    | with_reducible apply Keeps.put
    | with_reducible apply Keeps.setStrap
    | with_reducible apply Keeps.upd
    | rfl
    | with_reducible exact OtpKept.refl _

theorem Keeps.chipState {a s : State} (h : Keeps a s) : ∀ x1, Keeps a (State.chipState s x1) := by
  intro x1
  unfold State.chipState; try dsimp only
  repeat' first
    | with_reducible assumption
    | with_reducible apply Keeps.rebuilt
    | with_reducible apply Keeps.put
    | with_reducible apply Keeps.ite
    | with_reducible apply Keeps.upd
    | rfl
    | with_reducible exact OtpKept.refl _

theorem Keeps.setRadio {a s : State} (h : Keeps a s) : ∀ x1, Keeps a (State.setRadio s x1) := by
  intro x1
  unfold State.setRadio; try dsimp only
  repeat' first
    | with_reducible assumption
    | with_reducible apply Keeps.upd
    | rfl
    | with_reducible exact OtpKept.refl _

theorem Keeps.enterState {a s : State} (h : Keeps a s) : ∀ x1, Keeps a (State.enterState s x1) := by
  intro x1
  unfold State.enterState; try dsimp only
  repeat' first
    | with_reducible assumption
    | with_reducible apply Keeps.event
    | with_reducible apply Keeps.put
    | with_reducible apply Keeps.flag
    | with_reducible apply Keeps.setPageSt
    | with_reducible apply Keeps.antQuiet
    | with_reducible apply Keeps.pllSettle
    | with_reducible apply Keeps.ite
    | with_reducible apply Keeps.upd
    | rfl
    | with_reducible exact OtpKept.refl _

theorem Keeps.moveTo {a s : State} (h : Keeps a s) : ∀ x1, Keeps a (State.moveTo s x1) := by
  intro x1
  unfold State.moveTo; try dsimp only
  repeat' first
    | with_reducible assumption
    | with_reducible apply Keeps.put

theorem Keeps.interim {a s : State} (h : Keeps a s) : ∀ x1 x2, Keeps a (State.interim s x1 x2) := by
  intro x1 x2
  unfold State.interim; try dsimp only
  repeat' first
    | with_reducible assumption
    | with_reducible apply Keeps.put
    | with_reducible apply Keeps.ite
    | split

theorem Keeps.showSlip {a s : State} (h : Keeps a s) : ∀ x1 x2, Keeps a (State.showSlip s x1 x2) := by
  intro x1 x2
  unfold State.showSlip; try dsimp only
  repeat' first
    | with_reducible assumption
    | with_reducible apply Keeps.put
    | with_reducible apply Keeps.ite
    | split
    | with_reducible apply Keeps.upd
    | rfl
    | with_reducible exact OtpKept.refl _

theorem Keeps.showQueue {a s : State} (h : Keeps a s) : Keeps a (State.showQueue s) := by
  unfold State.showQueue; try dsimp only
  repeat' first
    | with_reducible assumption
    | with_reducible apply Keeps.put

theorem Keeps.supersede {a s : State} (h : Keeps a s) : Keeps a (State.supersede s) := by
  unfold State.supersede; try dsimp only
  repeat' first
    | with_reducible assumption
    | with_reducible apply Keeps.endSrc
    | with_reducible apply Keeps.setRadio
    | split
    | with_reducible apply Keeps.upd
    | rfl
    | with_reducible exact OtpKept.refl _

theorem Keeps.takeOp {a s : State} (h : Keeps a s) : ∀ x1, Keeps a (State.takeOp s x1) := by
  intro x1
  unfold State.takeOp; try dsimp only
  repeat' first
    | with_reducible assumption
    | with_reducible apply Keeps.interim
    | with_reducible apply Keeps.setRadio
    | with_reducible apply Keeps.supersede
    | with_reducible apply Keeps.upd
    | rfl
    | with_reducible exact OtpKept.refl _

theorem Keeps.whiffEnd {a s : State} (h : Keeps a s) : ∀ x1, Keeps a (State.whiffEnd s x1) := by
  intro x1
  unfold State.whiffEnd; try dsimp only
  repeat' first
    | with_reducible assumption
    | with_reducible apply Keeps.whiffDrop
    | with_reducible apply Keeps.endPlain
    | split

theorem Keeps.leaveRx {a s : State} (h : Keeps a s) : Keeps a (State.leaveRx s) := by
  unfold State.leaveRx; try dsimp only
  repeat' first
    | with_reducible assumption
    | with_reducible apply Keeps.loseAll
    | with_reducible apply Keeps.releaseAll
    | with_reducible apply Keeps.whiffEnd

theorem Keeps.goTo {a s : State} (h : Keeps a s) : ∀ x1, Keeps a (State.goTo s x1) := by
  intro x1
  unfold State.goTo; try dsimp only
  repeat' first
    | with_reducible assumption
    | with_reducible apply Keeps.loseAll
    | with_reducible apply Keeps.moveTo
    | with_reducible apply Keeps.releaseAll
    | with_reducible apply Keeps.rxStart
    | with_reducible apply Keeps.leaveRx
    | with_reducible apply Keeps.ite

theorem Keeps.exitRx {a s : State} (h : Keeps a s) : ∀ x1, Keeps a (State.exitRx s x1) := by
  intro x1
  unfold State.exitRx; try dsimp only
  repeat' first
    | with_reducible assumption
    | with_reducible apply Keeps.descErr
    | with_reducible apply Keeps.moveTo
    | with_reducible apply Keeps.rxStart
    | with_reducible apply Keeps.planSlots
    | with_reducible apply Keeps.ite
    | split

theorem Keeps.exitTo {a s : State} (h : Keeps a s) : ∀ x1 x2, Keeps a (State.exitTo s x1 x2) := by
  intro x1 x2
  unfold State.exitTo; try dsimp only
  repeat' first
    | with_reducible assumption
    | with_reducible apply Keeps.moveTo
    | with_reducible apply Keeps.rxStart
    | with_reducible apply Keeps.goTo
    | with_reducible apply Keeps.crsStop
    | with_reducible apply Keeps.crsRequest
    | with_reducible apply Keeps.setRadio
    | with_reducible apply Keeps.exitRx
    | with_reducible apply Keeps.ite
    | refine Keeps.of1 (by with_reducible assumption) ?_
    | with_reducible apply Keeps.upd
    | rfl
    | with_reducible exact OtpKept.refl _

theorem Keeps.exitBegins {a s : State} (h : Keeps a s) : ∀ x1, Keeps a (State.exitBegins s x1) := by
  intro x1
  unfold State.exitBegins; try dsimp only
  repeat' first
    | with_reducible assumption
    | with_reducible apply Keeps.moveTo
    | with_reducible apply Keeps.setRadio
    | with_reducible apply Keeps.ite
    | with_reducible apply Keeps.upd
    | rfl
    | with_reducible exact OtpKept.refl _

theorem Keeps.opExit {a s : State} (h : Keeps a s) : ∀ x1 x2, Keeps a (State.opExit s x1 x2) := by
  intro x1 x2
  unfold State.opExit; try dsimp only
  repeat' first
    | with_reducible assumption
    | with_reducible apply Keeps.exitTo
    | with_reducible apply Keeps.setRadio
    | with_reducible apply Keeps.ite
    | with_reducible apply Keeps.upd
    | rfl
    | with_reducible exact OtpKept.refl _

theorem Keeps.calEnter {a s : State} (h : Keeps a s) : Keeps a (State.calEnter s) := by
  unfold State.calEnter; try dsimp only
  repeat' first
    | with_reducible assumption
    | with_reducible apply Keeps.enterState
    | with_reducible apply Keeps.crsStop
    | with_reducible apply Keeps.put

theorem Keeps.calStart {a s : State} (h : Keeps a s) : ∀ x1 x2, Keeps a (State.calStart s x1 x2) := by
  intro x1 x2
  unfold State.calStart; try dsimp only
  repeat' first
    | with_reducible assumption
    | with_reducible apply Keeps.calEnter
    | with_reducible apply Keeps.moveTo
    | with_reducible apply Keeps.setRadio
    | with_reducible apply Keeps.ite
    | with_reducible apply Keeps.upd
    | rfl
    | with_reducible exact OtpKept.refl _

theorem Keeps.calStop {a s : State} (h : Keeps a s) : Keeps a (State.calStop s) := by
  unfold State.calStop; try dsimp only
  repeat' first
    | with_reducible assumption
    | with_reducible apply Keeps.put
    | with_reducible apply Keeps.flag
    | with_reducible apply Keeps.setRadio
    | with_reducible apply Keeps.endPlain
    | split
    | with_reducible apply Keeps.upd
    | rfl
    | with_reducible exact OtpKept.refl _

theorem Keeps.calPreempt {a s : State} (h : Keeps a s) : Keeps a (State.calPreempt s) := by
  unfold State.calPreempt; try dsimp only
  repeat' first
    | with_reducible assumption
    | with_reducible apply Keeps.moveTo
    | with_reducible apply Keeps.enterState
    | with_reducible apply Keeps.calStop
    | with_reducible apply Keeps.ite

theorem Keeps.dropWaiting {a s : State} (h : Keeps a s) : ∀ x1, Keeps a (State.dropWaiting s x1) := by
  intro x1
  unfold State.dropWaiting; try dsimp only
  repeat' first
    | with_reducible assumption
    | with_reducible apply Keeps.showQueue
    | with_reducible apply Keeps.setRadio
    | with_reducible apply Keeps.endPlain
    | split
    | with_reducible apply Keeps.upd
    | rfl
    | with_reducible exact OtpKept.refl _

theorem Keeps.txCut {a s : State} (h : Keeps a s) : ∀ x1, Keeps a (State.txCut s x1) := by
  intro x1
  unfold State.txCut; try dsimp only
  repeat' first
    | with_reducible assumption
    | with_reducible apply Keeps.exitBegins
    | with_reducible apply Keeps.crsHold
    | with_reducible apply Keeps.setRadio
    | with_reducible apply Keeps.setPageSt
    | with_reducible apply Keeps.ite
    | split
    | with_reducible apply Keeps.upd
    | rfl
    | with_reducible exact OtpKept.refl _

theorem Keeps.abortNow {a s : State} (h : Keeps a s) : ∀ x1, Keeps a (State.abortNow s x1) := by
  intro x1
  unfold State.abortNow; try dsimp only
  repeat' first
    | with_reducible assumption
    | with_reducible apply Keeps.interim
    | with_reducible apply Keeps.moveTo
    | with_reducible apply Keeps.calStop
    | with_reducible apply Keeps.leaveRx
    | with_reducible apply Keeps.setRadio
    | with_reducible apply Keeps.endPlain
    | with_reducible apply Keeps.txCut
    | with_reducible apply Keeps.dropWaiting
    | with_reducible apply Keeps.ite
    | split
    | with_reducible apply Keeps.upd
    | rfl
    | with_reducible exact OtpKept.refl _

theorem Keeps.queueOp {a s : State} (h : Keeps a s) : ∀ x1 x2, Keeps a (State.queueOp s x1 x2) := by
  intro x1 x2
  unfold State.queueOp; try dsimp only
  repeat' first
    | with_reducible assumption
    | with_reducible apply Keeps.showQueue
    | with_reducible apply Keeps.interim
    | with_reducible apply Keeps.setRadio
    | with_reducible apply Keeps.endPlain
    | with_reducible apply Keeps.ite
    | split
    | with_reducible apply Keeps.upd
    | rfl
    | with_reducible exact OtpKept.refl _

theorem Keeps.secureFetch {a s : State} (h : Keeps a s) : ∀ x1, Keeps a (State.secureFetch s x1).2.2 := by
  intro x1
  unfold State.secureFetch; try dsimp only
  repeat' first
    | with_reducible assumption
    | with_reducible apply Keeps.fetchOut
    | with_reducible apply Keeps.keyMiss
    | with_reducible apply Keeps.frameKey
    | with_reducible apply Keeps.freeVal
    | with_reducible apply Keeps.remoteU
    | with_reducible apply Keeps.ite
    | with_reducible apply Keeps.ite3
    | split
    | refine Keeps.of2 (by with_reducible assumption) ?_

theorem Keeps.notBeforeT0 {a s : State} (h : Keeps a s) : ∀ x1, Keeps a (State.notBeforeT0 s x1) := by
  intro x1
  unfold State.notBeforeT0; try dsimp only
  repeat' first
    | with_reducible assumption
    | with_reducible apply Keeps.setRadio
    | split
    | with_reducible apply Keeps.upd
    | rfl
    | with_reducible exact OtpKept.refl _

theorem Keeps.squashOverlaps {a s : State} (h : Keeps a s) : ∀ x1 x2, Keeps a (State.squashOverlaps s x1 x2) := by
  intro x1 x2
  unfold State.squashOverlaps; try dsimp only
  repeat' first
    | with_reducible assumption
    | with_reducible apply Keeps.squashCtx
    | with_reducible refine Keeps.foldl ?_ (fun _ _ _ => ?_)
    | with_reducible refine Keeps.foldl2 ?_ (fun _ _ _ => ?_)
    | with_reducible apply Keeps.ite
    | split

theorem Keeps.putTx {a s : State} (h : Keeps a s) : ∀ x1 x2, Keeps a (State.putTx s x1 x2) := by
  intro x1 x2
  unfold State.putTx; try dsimp only
  repeat' first
    | with_reducible assumption
    | with_reducible apply Keeps.setRadio
    | with_reducible apply Keeps.ite
    | with_reducible apply Keeps.upd
    | rfl
    | with_reducible exact OtpKept.refl _

theorem Keeps.cmdTx {a s : State} (h : Keeps a s) : ∀ x1 x2, Keeps a (State.cmdTx s x1 x2) := by
  intro x1 x2
  unfold State.cmdTx; try dsimp only
  repeat' first
    | with_reducible assumption
    | with_reducible apply Keeps.calPreempt
    | with_reducible apply Keeps.descErr
    | with_reducible apply Keeps.moveTo
    | with_reducible apply Keeps.endSrc
    | with_reducible apply Keeps.takeOp
    | with_reducible apply Keeps.rxStart
    | with_reducible apply Keeps.squashOverlaps
    | with_reducible apply Keeps.bstStopPath
    | with_reducible apply Keeps.queueOp
    | with_reducible apply Keeps.crsRequest
    | with_reducible apply Keeps.endPlain
    | with_reducible apply Keeps.putTx
    | with_reducible apply Keeps.secureFetch
    | with_reducible apply Keeps.ite
    | split
    | refine Keeps.of1 (by with_reducible assumption) ?_
    | refine Keeps.of3 (by with_reducible assumption) ?_
    | with_reducible apply Keeps.upd
    | rfl
    | with_reducible exact OtpKept.refl _

theorem Keeps.cmdRx {a s : State} (h : Keeps a s) : ∀ x1 x2, Keeps a (State.cmdRx s x1 x2) := by
  intro x1 x2
  unfold State.cmdRx; try dsimp only
  repeat' first
    | with_reducible assumption
    | with_reducible apply Keeps.interim
    | with_reducible apply Keeps.descErr
    | with_reducible apply Keeps.moveTo
    | with_reducible apply Keeps.takeOp
    | with_reducible apply Keeps.rxStart
    | with_reducible apply Keeps.setRadio
    | with_reducible apply Keeps.planSlots
    | with_reducible apply Keeps.endPlain
    | with_reducible refine Keeps.foldl ?_ (fun _ _ _ => ?_)
    | with_reducible refine Keeps.foldl2 ?_ (fun _ _ _ => ?_)
    | with_reducible apply Keeps.ite
    | split
    | with_reducible apply Keeps.upd
    | rfl
    | with_reducible exact OtpKept.refl _

theorem Keeps.cmdWhiff {a s : State} (h : Keeps a s) : ∀ x1 x2, Keeps a (State.cmdWhiff s x1 x2) := by
  intro x1 x2
  unfold State.cmdWhiff; try dsimp only
  repeat' first
    | with_reducible assumption
    | with_reducible apply Keeps.interim
    | with_reducible apply Keeps.moveTo
    | with_reducible apply Keeps.rxStart
    | with_reducible apply Keeps.whiffEnd
    | with_reducible apply Keeps.put
    | with_reducible apply Keeps.setRadio
    | with_reducible apply Keeps.supersede
    | with_reducible apply Keeps.ite

theorem Keeps.cmdPretune {a s : State} (h : Keeps a s) : ∀ x1 x2, Keeps a (State.cmdPretune s x1 x2) := by
  intro x1 x2
  unfold State.cmdPretune; try dsimp only
  repeat' first
    | with_reducible assumption
    | with_reducible apply Keeps.interim
    | with_reducible apply Keeps.moveTo
    | with_reducible apply Keeps.takeOp
    | with_reducible apply Keeps.crsRequest
    | with_reducible apply Keeps.setRadio
    | with_reducible apply Keeps.endPlain
    | with_reducible apply Keeps.ite
    | split
    | refine Keeps.of1 (by with_reducible assumption) ?_
    | with_reducible apply Keeps.upd
    | rfl
    | with_reducible exact OtpKept.refl _

theorem Keeps.cmdIdle {a s : State} (h : Keeps a s) : ∀ x1 x2, Keeps a (State.cmdIdle s x1 x2) := by
  intro x1 x2
  unfold State.cmdIdle; try dsimp only
  repeat' first
    | with_reducible assumption
    | with_reducible apply Keeps.moveTo
    | with_reducible apply Keeps.takeOp
    | with_reducible apply Keeps.goTo
    | with_reducible apply Keeps.setRadio
    | with_reducible apply Keeps.endPlain
    | with_reducible apply Keeps.ite
    | with_reducible apply Keeps.upd
    | rfl
    | with_reducible exact OtpKept.refl _

theorem Keeps.judge {a s : State} (h : Keeps a s) : ∀ x1, Keeps a (State.judge s x1) := by
  intro x1
  unfold State.judge; try dsimp only
  repeat' first
    | with_reducible assumption
    | with_reducible apply Keeps.interim
    | with_reducible apply Keeps.cmdWhiff
    | with_reducible apply Keeps.cmdIdle
    | with_reducible apply Keeps.calStart
    | with_reducible apply Keeps.moveTo
    | with_reducible apply Keeps.takeOp
    | with_reducible apply Keeps.cmdRx
    | with_reducible apply Keeps.goTo
    | with_reducible apply Keeps.queueOp
    | with_reducible apply Keeps.cmdPretune
    | with_reducible apply Keeps.flag
    | with_reducible apply Keeps.setRadio
    | with_reducible apply Keeps.abortNow
    | with_reducible apply Keeps.endPlain
    | with_reducible apply Keeps.cmdTx
    | with_reducible apply Keeps.ite
    | with_reducible apply Keeps.upd
    | rfl
    | with_reducible exact OtpKept.refl _

theorem Keeps.holdTimed {a s : State} (h : Keeps a s) : ∀ x1, Keeps a (State.holdTimed s x1) := by
  intro x1
  unfold State.holdTimed; try dsimp only
  repeat' first
    | with_reducible assumption
    | with_reducible apply Keeps.calPreempt
    | with_reducible apply Keeps.showQueue
    | with_reducible apply Keeps.interim
    | with_reducible apply Keeps.notBeforeT0
    | with_reducible apply Keeps.squashOverlaps
    | with_reducible apply Keeps.bstStopPath
    | with_reducible apply Keeps.setRadio
    | with_reducible apply Keeps.endPlain
    | with_reducible apply Keeps.secureFetch
    | with_reducible apply Keeps.ite
    | split
    | refine Keeps.of3 (by with_reducible assumption) ?_
    | with_reducible apply Keeps.upd
    | rfl
    | with_reducible exact OtpKept.refl _

theorem Keeps.submit {a s : State} (h : Keeps a s) : ∀ x1, Keeps a (State.submit s x1) := by
  intro x1
  unfold State.submit; try dsimp only
  repeat' first
    | with_reducible assumption
    | with_reducible apply Keeps.judge
    | with_reducible apply Keeps.endSrc
    | with_reducible apply Keeps.put
    | with_reducible apply Keeps.setPageSt
    | with_reducible apply Keeps.endPlain
    | with_reducible apply Keeps.holdTimed
    | with_reducible apply Keeps.ite

theorem Keeps.radTaken {a s : State} (h : Keeps a s) : ∀ x1, Keeps a (State.radTaken s x1) := by
  intro x1
  unfold State.radTaken; try dsimp only
  repeat' first
    | with_reducible assumption
    | with_reducible apply Keeps.setReg
    | with_reducible apply Keeps.record
    | with_reducible apply Keeps.setRadio
    | with_reducible apply Keeps.upd
    | rfl
    | with_reducible exact OtpKept.refl _

theorem Keeps.radCmd {a s : State} (h : Keeps a s) : ∀ x1, Keeps a (State.radCmd s x1) := by
  intro x1
  unfold State.radCmd; try dsimp only
  repeat' first
    | with_reducible assumption
    | with_reducible apply Keeps.radTaken
    | with_reducible apply Keeps.raiseFlag
    | with_reducible apply Keeps.put
    | with_reducible apply Keeps.submit
    | with_reducible apply Keeps.freeVal
    | with_reducible apply Keeps.flag
    | with_reducible apply Keeps.ite
    | split
    | refine Keeps.of2 (by with_reducible assumption) ?_

theorem Keeps.radDisabled {a s : State} (h : Keeps a s) : Keeps a (State.radDisabled s) := by
  unfold State.radDisabled; try dsimp only
  repeat' first
    | with_reducible assumption
    | with_reducible apply Keeps.setRadio
    | with_reducible apply Keeps.abortNow
    | with_reducible apply Keeps.ite
    | with_reducible apply Keeps.upd
    | rfl
    | with_reducible exact OtpKept.refl _

theorem Keeps.enterOff {a s : State} (h : Keeps a s) : Keeps a (State.enterOff s) := by
  unfold State.enterOff; try dsimp only
  repeat' first
    | with_reducible assumption
    | with_reducible apply Keeps.rxStop
    | with_reducible apply Keeps.setRetry
    | with_reducible apply Keeps.enterState
    | with_reducible apply Keeps.crsStop
    | with_reducible apply Keeps.put
    | with_reducible apply Keeps.unblank
    | with_reducible apply Keeps.setPageSt
    | with_reducible apply Keeps.upd
    | rfl
    | with_reducible exact OtpKept.refl _

theorem Keeps.finishMove {a s : State} (h : Keeps a s) : Keeps a (State.finishMove s) := by
  unfold State.finishMove; try dsimp only
  repeat' first
    | with_reducible assumption
    | with_reducible apply Keeps.endSrc
    | with_reducible apply Keeps.setRadio
    | with_reducible apply Keeps.ite
    | split
    | with_reducible apply Keeps.upd
    | rfl
    | with_reducible exact OtpKept.refl _

theorem Keeps.timedDue {a s : State} (h : Keeps a s) : ∀ x1, Keeps a (State.timedDue s x1) := by
  intro x1
  unfold State.timedDue; try dsimp only
  repeat' first
    | with_reducible assumption
    | with_reducible apply Keeps.judge
    | with_reducible apply Keeps.showSlip
    | with_reducible apply Keeps.upd
    | rfl
    | with_reducible exact OtpKept.refl _

theorem Keeps.takeExit {a s : State} (h : Keeps a s) : Keeps a (State.takeExit s) := by
  unfold State.takeExit; try dsimp only
  repeat' first
    | with_reducible assumption
    | with_reducible apply Keeps.exitTo
    | with_reducible apply Keeps.setRadio
    | split
    | with_reducible apply Keeps.upd
    | rfl
    | with_reducible exact OtpKept.refl _

theorem Keeps.execTimedCommandDue {a s : State} (h : Keeps a s) : ∀ x0, KeepsAll a (Machine.execTimedCommandDue x0 s) := by
  intro x0
  unfold Machine.execTimedCommandDue; try dsimp only
  repeat' first
    | with_reducible assumption
    | with_reducible apply Keeps.showQueue
    | with_reducible apply Keeps.timedDue
    | with_reducible apply Keeps.setRadio
    | with_reducible apply Keeps.ite
    | with_reducible apply KeepsAll.ite
    | with_reducible apply KeepsAll.next
    | split
    | with_reducible apply Keeps.upd
    | rfl
    | with_reducible exact OtpKept.refl _

theorem Keeps.execQueuedCommandEval {a s : State} (h : Keeps a s) : KeepsAll a (Machine.execQueuedCommandEval s) := by
  unfold Machine.execQueuedCommandEval; try dsimp only
  repeat' first
    | with_reducible assumption
    | with_reducible apply Keeps.judge
    | with_reducible apply Keeps.showQueue
    | with_reducible apply Keeps.setRadio
    | with_reducible apply Keeps.takeExit
    | with_reducible apply Keeps.ite
    | with_reducible apply KeepsAll.ite
    | with_reducible apply KeepsAll.next
    | split
    | with_reducible apply Keeps.upd
    | rfl
    | with_reducible exact OtpKept.refl _

theorem Keeps.leaveOff {a s : State} (h : Keeps a s) : ∀ x1, Keeps a (State.leaveOff s x1) := by
  intro x1
  unfold State.leaveOff; try dsimp only
  repeat' first
    | with_reducible assumption
    | with_reducible apply Keeps.scsApply
    | with_reducible apply Keeps.moveTo
    | with_reducible apply Keeps.enterState
    | with_reducible apply Keeps.put
    | with_reducible apply Keeps.finishMove
    | with_reducible apply Keeps.setPageSt
    | with_reducible apply Keeps.ite

theorem Keeps.execTransitionEnd {a s : State} (h : Keeps a s) : KeepsAll a (Machine.execTransitionEnd s) := by
  unfold Machine.execTransitionEnd; try dsimp only
  repeat' first
    | with_reducible assumption
    | with_reducible apply Keeps.enterOff
    | with_reducible apply Keeps.rxStop
    | with_reducible apply Keeps.calEnter
    | with_reducible apply Keeps.leaveOff
    | with_reducible apply Keeps.enterState
    | with_reducible apply Keeps.offSettle
    | with_reducible apply Keeps.crsStop
    | with_reducible apply Keeps.unblank
    | with_reducible apply Keeps.finishMove
    | with_reducible apply Keeps.ite
    | with_reducible apply KeepsAll.ite
    | with_reducible apply KeepsAll.next
    | split

theorem Keeps.execReceiverRunning {a s : State} (h : Keeps a s) : KeepsAll a (Machine.execReceiverRunning s) := by
  unfold Machine.execReceiverRunning; try dsimp only
  repeat' first
    | with_reducible assumption
    | with_reducible apply Keeps.setPageSt
    | with_reducible apply Keeps.ite
    | with_reducible apply KeepsAll.ite
    | with_reducible apply KeepsAll.next

theorem Keeps.execCalStepDone {a s : State} (h : Keeps a s) : ∀ x0 x1, KeepsAll a (Machine.execCalStepDone x0 x1 s) := by
  intro x0 x1
  unfold Machine.execCalStepDone; try dsimp only
  repeat' first
    | with_reducible assumption
    | with_reducible apply Keeps.enterState
    | with_reducible apply Keeps.put
    | with_reducible apply Keeps.putBit
    | with_reducible apply Keeps.setRadio
    | with_reducible apply Keeps.endPlain
    | with_reducible apply Keeps.ite
    | with_reducible apply KeepsAll.ite
    | with_reducible apply KeepsAll.next
    | split
    | with_reducible apply Keeps.upd
    | rfl
    | with_reducible exact OtpKept.refl _

theorem Keeps.execAutoCalStart {a s : State} (h : Keeps a s) : KeepsAll a (Machine.execAutoCalStart s) := by
  unfold Machine.execAutoCalStart; try dsimp only
  repeat' first
    | with_reducible assumption
    | with_reducible apply Keeps.calStart
    | with_reducible apply Keeps.ite
    | with_reducible apply KeepsAll.ite
    | with_reducible apply KeepsAll.next

theorem Keeps.relockFailed {a s : State} (h : Keeps a s) : ∀ x1, Keeps a (State.relockFailed s x1).1 := by
  intro x1
  unfold State.relockFailed; try dsimp only
  repeat' first
    | with_reducible assumption
    | with_reducible apply Keeps.setRetry
    | with_reducible apply Keeps.reportFault
    | with_reducible apply Keeps.ite
    | with_reducible apply Keeps.ite1

theorem Keeps.ackFailed {a s : State} (h : Keeps a s) : ∀ x1, Keeps a (State.ackFailed s x1) := by
  intro x1
  unfold State.ackFailed; try dsimp only
  repeat' first
    | with_reducible assumption
    | with_reducible apply Keeps.recTrigger
    | with_reducible apply Keeps.flag
    | with_reducible apply Keeps.ctxFree
    | with_reducible apply Keeps.countSat
    | with_reducible apply Keeps.ite

theorem Keeps.txFail {a s : State} (h : Keeps a s) : ∀ x1, Keeps a (State.txFail s x1) := by
  intro x1
  unfold State.txFail; try dsimp only
  repeat' first
    | with_reducible assumption
    | with_reducible apply Keeps.ackFailed
    | with_reducible apply Keeps.txCut
    | with_reducible apply Keeps.ite
    | split

theorem Keeps.noRxExit {a s : State} (h : Keeps a s) : Keeps a (State.noRxExit s) := by
  unfold State.noRxExit; try dsimp only
  repeat' first
    | with_reducible assumption
    | with_reducible apply Keeps.moveTo
    | with_reducible apply Keeps.setRadio
    | with_reducible apply Keeps.ite
    | with_reducible apply Keeps.upd
    | rfl
    | with_reducible exact OtpKept.refl _

theorem Keeps.scsDie {a s : State} (h : Keeps a s) : Keeps a (State.scsDie s) := by
  unfold State.scsDie; try dsimp only
  repeat' first
    | with_reducible assumption
    | with_reducible apply Keeps.rxStop
    | with_reducible apply Keeps.loseAll
    | with_reducible apply Keeps.releaseAll
    | with_reducible apply Keeps.whiffEnd
    | with_reducible apply Keeps.noRxExit
    | with_reducible apply Keeps.goTo
    | with_reducible apply Keeps.put
    | with_reducible apply Keeps.setRadio
    | with_reducible apply Keeps.endPlain
    | with_reducible apply Keeps.txCut
    | with_reducible apply Keeps.ite
    | split
    | with_reducible apply Keeps.upd
    | rfl
    | with_reducible exact OtpKept.refl _

theorem Keeps.scsRelockEnd {a s : State} (h : Keeps a s) : ∀ x1, Keeps a (State.scsRelockEnd s x1) := by
  intro x1
  unfold State.scsRelockEnd; try dsimp only
  repeat' first
    | with_reducible assumption
    | with_reducible apply Keeps.setRetry
    | with_reducible apply Keeps.relockFailed
    | with_reducible apply Keeps.scsDie
    | with_reducible apply Keeps.put
    | with_reducible apply Keeps.setPageSt
    | with_reducible apply Keeps.ite
    | split
    | refine Keeps.of1 (by with_reducible assumption) ?_

theorem Keeps.txNotSent {a s : State} (h : Keeps a s) : ∀ x1 x2, Keeps a (State.txNotSent s x1 x2) := by
  intro x1 x2
  unfold State.txNotSent; try dsimp only
  repeat' first
    | with_reducible assumption
    | with_reducible apply Keeps.rxStop
    | with_reducible apply Keeps.endSrc
    | with_reducible apply Keeps.crsHold
    | with_reducible apply Keeps.opExit
    | with_reducible apply Keeps.put
    | with_reducible apply Keeps.setRadio
    | with_reducible apply Keeps.antQuiet
    | with_reducible apply Keeps.ite
    | split
    | with_reducible apply Keeps.upd
    | rfl
    | with_reducible exact OtpKept.refl _

theorem Keeps.crsDie {a s : State} (h : Keeps a s) : Keeps a (State.crsDie s) := by
  unfold State.crsDie; try dsimp only
  repeat' first
    | with_reducible assumption
    | with_reducible apply Keeps.put
    | with_reducible apply Keeps.txNotSent
    | with_reducible apply Keeps.ite
    | split
    | with_reducible apply Keeps.upd
    | rfl
    | with_reducible exact OtpKept.refl _

theorem Keeps.crsRelockEnd {a s : State} (h : Keeps a s) : ∀ x1, Keeps a (State.crsRelockEnd s x1) := by
  intro x1
  unfold State.crsRelockEnd; try dsimp only
  repeat' first
    | with_reducible assumption
    | with_reducible apply Keeps.setRetry
    | with_reducible apply Keeps.relockFailed
    | with_reducible apply Keeps.crsDie
    | with_reducible apply Keeps.put
    | with_reducible apply Keeps.ite
    | split
    | refine Keeps.of1 (by with_reducible assumption) ?_

theorem Keeps.fit16 {a s : State} (h : Keeps a s) : ∀ x1, Keeps a (State.fit16 s x1).2 := by
  intro x1
  unfold State.fit16; try dsimp only
  repeat' first
    | with_reducible assumption
    | with_reducible apply Keeps.freeVal
    | with_reducible apply Keeps.ite
    | with_reducible apply Keeps.ite2
    | split
    | refine Keeps.of2 (by with_reducible assumption) ?_

theorem Keeps.whiffOver {a s : State} (h : Keeps a s) : ∀ x1, Keeps a (State.whiffOver s x1) := by
  intro x1
  unfold State.whiffOver; try dsimp only
  repeat' first
    | with_reducible assumption
    | with_reducible apply Keeps.opExit
    | with_reducible apply Keeps.whiffEnd
    | with_reducible apply Keeps.ite
    | split

theorem Keeps.whiffPowers {a s : State} (h : Keeps a s) : ∀ o ps, Keeps a (State.whiffPowers s o ps).2 := by
  intro o ps
  induction ps generalizing s
  case nil => exact h
  case cons p ps ih =>
    have k : Keeps a (if p = 0x8000 then (p, s) else s.fit16 (signedN 16 p + o)).2 := Keeps.ite2 h (h.fit16 _)
    exact ih k

theorem Keeps.whiffFloor {a s : State} (h : Keeps a s) : ∀ x1, Keeps a (State.whiffFloor s x1).2 := by
  intro x1
  unfold State.whiffFloor; try dsimp only
  repeat' first
    | with_reducible assumption
    | with_reducible apply Keeps.freeVal
    | with_reducible apply Keeps.ite
    | with_reducible apply Keeps.ite2
    | split
    | refine Keeps.of2 (by with_reducible assumption) ?_

theorem Keeps.execScsUnlock {a s : State} (h : Keeps a s) : KeepsAll a (Machine.execScsUnlock s) := by
  unfold Machine.execScsUnlock; try dsimp only
  repeat' first
    | with_reducible assumption
    | with_reducible apply Keeps.loseAll
    | with_reducible apply Keeps.setRetry
    | with_reducible apply Keeps.scsSettle
    | with_reducible apply Keeps.reportFault
    | with_reducible apply Keeps.put
    | with_reducible apply Keeps.whiffOver
    | with_reducible apply Keeps.flag
    | with_reducible apply Keeps.setPageSt
    | with_reducible apply Keeps.countSat
    | with_reducible apply Keeps.ite
    | with_reducible apply KeepsAll.ite
    | with_reducible apply KeepsAll.next

theorem Keeps.execScsRelock {a s : State} (h : Keeps a s) : ∀ x0, KeepsAll a (Machine.execScsRelock x0 s) := by
  intro x0
  unfold Machine.execScsRelock; try dsimp only
  repeat' first
    | with_reducible assumption
    | with_reducible apply Keeps.scsRelockEnd
    | with_reducible apply Keeps.ite
    | with_reducible apply KeepsAll.ite
    | with_reducible apply KeepsAll.next

theorem Keeps.execCrsUnlock {a s : State} (h : Keeps a s) : KeepsAll a (Machine.execCrsUnlock s) := by
  unfold Machine.execCrsUnlock; try dsimp only
  repeat' first
    | with_reducible assumption
    | with_reducible apply Keeps.setRetry
    | with_reducible apply Keeps.reportFault
    | with_reducible apply Keeps.txFail
    | with_reducible apply Keeps.put
    | with_reducible apply Keeps.flag
    | with_reducible apply Keeps.countSat
    | with_reducible apply Keeps.ite
    | with_reducible apply KeepsAll.ite
    | with_reducible apply KeepsAll.next

theorem Keeps.execCrsRelock {a s : State} (h : Keeps a s) : ∀ x0, KeepsAll a (Machine.execCrsRelock x0 s) := by
  intro x0
  unfold Machine.execCrsRelock; try dsimp only
  repeat' first
    | with_reducible assumption
    | with_reducible apply Keeps.crsRelockEnd
    | with_reducible apply Keeps.ite
    | with_reducible apply KeepsAll.ite
    | with_reducible apply KeepsAll.next

theorem Keeps.execWhiffCaptureStart {a s : State} (h : Keeps a s) : KeepsAll a (Machine.execWhiffCaptureStart s) := by
  unfold Machine.execWhiffCaptureStart; try dsimp only
  repeat' first
    | with_reducible assumption
    | with_reducible apply Keeps.descErr
    | with_reducible apply Keeps.put
    | with_reducible apply Keeps.whiffOver
    | with_reducible apply Keeps.setRadio
    | refine Keeps.takeBlocks ?_ _ _ _ _ (by with_reducible assumption)
    | with_reducible apply Keeps.setPageSt
    | with_reducible apply Keeps.setGain
    | with_reducible refine Keeps.foldl ?_ (fun _ _ _ => ?_)
    | with_reducible refine Keeps.foldl2 ?_ (fun _ _ _ => ?_)
    | with_reducible apply Keeps.ite
    | with_reducible apply KeepsAll.ite
    | with_reducible apply KeepsAll.next
    | split
    | with_reducible apply Keeps.upd
    | rfl
    | with_reducible exact OtpKept.refl _

theorem Keeps.execWhiffCaptureEnd {a s : State} (h : Keeps a s) : ∀ x0, KeepsAll a (Machine.execWhiffCaptureEnd x0 s) := by
  intro x0
  unfold Machine.execWhiffCaptureEnd; try dsimp only
  repeat' first
    | with_reducible assumption
    | with_reducible apply Keeps.setRadio
    | with_reducible apply Keeps.setPageSt
    | with_reducible apply Keeps.setGain
    | with_reducible apply Keeps.ite
    | with_reducible apply KeepsAll.ite
    | with_reducible apply KeepsAll.next
    | split
    | with_reducible apply Keeps.upd
    | rfl
    | with_reducible exact OtpKept.refl _

theorem Keeps.execWhiffDone {a s : State} (h : Keeps a s) : ∀ x0 x1, KeepsAll a (Machine.execWhiffDone x0 x1 s) := by
  intro x0 x1
  unfold Machine.execWhiffDone; try dsimp only
  repeat' first
    | with_reducible assumption
    | with_reducible apply Keeps.giveAll
    | with_reducible apply Keeps.whiffFloor
    | with_reducible apply Keeps.storeChain
    | with_reducible apply Keeps.whiffPowers
    | with_reducible apply Keeps.put
    | with_reducible apply Keeps.whiffOver
    | with_reducible apply Keeps.flag
    | with_reducible apply Keeps.setRadio
    | with_reducible apply Keeps.ite
    | with_reducible apply KeepsAll.ite
    | with_reducible apply KeepsAll.next
    | split
    | refine Keeps.of2 (by with_reducible assumption) ?_
    | with_reducible apply Keeps.upd
    | rfl
    | with_reducible exact OtpKept.refl _

theorem Keeps.compWrite {a s : State} (h : Keeps a s) : ∀ x1 x2 x3, Keeps a (State.compWrite s x1 x2 x3) := by
  intro x1 x2 x3
  unfold State.compWrite; try dsimp only
  repeat' first
    | with_reducible assumption
    | with_reducible apply Keeps.ite
    | with_reducible apply Keeps.upd
    | rfl
    | with_reducible exact OtpKept.refl _

theorem Keeps.driveOf {a s : State} (h : Keeps a s) : ∀ x1 x2 x3, Keeps a (State.driveOf s x1 x2 x3).2.2 := by
  intro x1 x2 x3
  unfold State.driveOf; try dsimp only
  repeat' first
    | with_reducible assumption
    | with_reducible apply Keeps.freeVal
    | with_reducible apply Keeps.ite
    | with_reducible apply Keeps.ite3
    | split
    | refine Keeps.of2 (by with_reducible assumption) ?_

theorem Keeps.putSense {a s : State} (h : Keeps a s) : ∀ x1 x2, Keeps a (State.putSense s x1 x2) := by
  intro x1 x2
  unfold State.putSense; try dsimp only
  repeat' first
    | with_reducible assumption
    | with_reducible apply Keeps.put
    | with_reducible apply Keeps.putInt
    | with_reducible apply Keeps.ite

theorem Keeps.rcpSample {a s : State} (h : Keeps a s) : Keeps a (State.rcpSample s) := by
  unfold State.rcpSample; try dsimp only
  repeat' first
    | with_reducible assumption
    | with_reducible apply Keeps.upd
    | rfl
    | with_reducible exact OtpKept.refl _

theorem Keeps.calDueCheck {a s : State} (h : Keeps a s) : Keeps a (State.calDueCheck s) := by
  unfold State.calDueCheck; try dsimp only
  repeat' first
    | with_reducible assumption
    | with_reducible apply Keeps.put
    | with_reducible apply Keeps.flag
    | with_reducible apply Keeps.ite

theorem Keeps.tsnRoundEnds {a s : State} (h : Keeps a s) : ∀ x1, Keeps a (State.tsnRoundEnds s x1) := by
  intro x1
  unfold State.tsnRoundEnds; try dsimp only
  repeat' first
    | with_reducible assumption
    | with_reducible apply Keeps.putSense
    | with_reducible apply Keeps.put
    | with_reducible apply Keeps.flag
    | with_reducible apply Keeps.ite
    | with_reducible apply Keeps.upd
    | rfl
    | with_reducible exact OtpKept.refl _

theorem Keeps.roundNow {a s : State} (h : Keeps a s) : ∀ x1, Keeps a (State.roundNow s x1) := by
  intro x1
  unfold State.roundNow; try dsimp only
  repeat' first
    | with_reducible assumption
    | with_reducible apply Keeps.tsnRoundEnds
    | split

theorem Keeps.tsnSample {a s : State} (h : Keeps a s) : Keeps a (State.tsnSample s) := by
  unfold State.tsnSample; try dsimp only
  repeat' first
    | with_reducible assumption
    | with_reducible apply Keeps.putBit
    | with_reducible apply Keeps.setPageSt
    | with_reducible apply Keeps.ite
    | with_reducible apply Keeps.upd
    | rfl
    | with_reducible exact OtpKept.refl _

theorem Keeps.execRcpSenseSample {a s : State} (h : Keeps a s) : ∀ x0, KeepsAll a (Machine.execRcpSenseSample x0 s) := by
  intro x0
  unfold Machine.execRcpSenseSample; try dsimp only
  repeat' first
    | with_reducible assumption
    | with_reducible apply Keeps.rcpSample
    | with_reducible apply Keeps.roundNow
    | with_reducible apply Keeps.calDueCheck
    | with_reducible apply Keeps.ite
    | with_reducible apply KeepsAll.ite
    | with_reducible apply KeepsAll.next

theorem Keeps.execTsnRoundEnd {a s : State} (h : Keeps a s) : ∀ x0, KeepsAll a (Machine.execTsnRoundEnd x0 s) := by
  intro x0
  unfold Machine.execTsnRoundEnd; try dsimp only
  repeat' first
    | with_reducible assumption
    | with_reducible apply Keeps.tsnRoundEnds
    | with_reducible apply KeepsAll.next

theorem Keeps.execTsnSampleLatched {a s : State} (h : Keeps a s) : KeepsAll a (Machine.execTsnSampleLatched s) := by
  unfold Machine.execTsnSampleLatched; try dsimp only
  repeat' first
    | with_reducible assumption
    | with_reducible apply Keeps.setReg
    | with_reducible apply Keeps.event
    | with_reducible apply Keeps.flag
    | with_reducible apply Keeps.setPageSt
    | with_reducible apply Keeps.ite
    | with_reducible apply KeepsAll.ite
    | with_reducible apply KeepsAll.next

theorem Keeps.cslPhase {a s : State} (h : Keeps a s) : ∀ x1 x2, Keeps a (State.cslPhase s x1 x2).2 := by
  intro x1 x2
  unfold State.cslPhase; try dsimp only
  repeat' first
    | with_reducible assumption
    | with_reducible apply Keeps.freeVal
    | with_reducible apply Keeps.ite
    | with_reducible apply Keeps.ite2
    | split
    | refine Keeps.of2 (by with_reducible assumption) ?_

theorem Keeps.cslFill {a s : State} (h : Keeps a s) : ∀ x1 x2 x3 x4, Keeps a (State.cslFill s x1 x2 x3 x4).2 := by
  intro x1 x2 x3 x4
  unfold State.cslFill; try dsimp only
  repeat' first
    | with_reducible assumption
    | with_reducible apply Keeps.cslPhase
    | with_reducible refine Keeps.foldl ?_ (fun _ _ _ => ?_)
    | with_reducible refine Keeps.foldl2 ?_ (fun _ _ _ => ?_)
    | with_reducible apply Keeps.ite
    | with_reducible apply Keeps.ite2
    | split
    | refine Keeps.of2 (by with_reducible assumption) ?_

theorem Keeps.opFrame {a s : State} (h : Keeps a s) : ∀ x1 x2 x3 x4, Keeps a (State.opFrame s x1 x2 x3 x4).2 := by
  intro x1 x2 x3 x4
  unfold State.opFrame; try dsimp only
  repeat' first
    | with_reducible assumption
    | with_reducible apply Keeps.keyMiss
    | with_reducible apply Keeps.cslFill
    | with_reducible apply Keeps.frameKey
    | with_reducible apply Keeps.freeVal
    | with_reducible apply Keeps.ite
    | with_reducible apply Keeps.ite2
    | split
    | refine Keeps.of2 (by with_reducible assumption) ?_

theorem Keeps.txWalk {a s : State} (h : Keeps a s) : ∀ x1 x2, Keeps a (State.txWalk s x1 x2).2 := by
  intro x1 x2
  unfold State.txWalk; try dsimp only
  repeat' first
    | with_reducible assumption
    | with_reducible apply Keeps.reportFault
    | with_reducible apply Keeps.put
    | with_reducible apply Keeps.flag
    | with_reducible refine Keeps.foldl ?_ (fun _ _ _ => ?_)
    | with_reducible refine Keeps.foldl2 ?_ (fun _ _ _ => ?_)
    | with_reducible apply Keeps.ite
    | with_reducible apply Keeps.ite2
    | split

theorem Keeps.blank {a s : State} (h : Keeps a s) : Keeps a (State.blank s) := by
  unfold State.blank; try dsimp only
  repeat' first
    | with_reducible assumption
    | with_reducible apply Keeps.loseFrame
    | with_reducible apply Keeps.whiffEnd
    | with_reducible apply Keeps.put
    | with_reducible apply Keeps.record
    | with_reducible refine Keeps.foldl ?_ (fun _ _ _ => ?_)
    | with_reducible refine Keeps.foldl2 ?_ (fun _ _ _ => ?_)
    | with_reducible apply Keeps.ite
    | split

theorem Keeps.txStat {a s : State} (h : Keeps a s) : ∀ x1 x2 x3 x4, Keeps a (State.txStat s x1 x2 x3 x4) := by
  intro x1 x2 x3 x4
  unfold State.txStat; try dsimp only
  repeat' first
    | with_reducible assumption
    | with_reducible apply Keeps.put
    | with_reducible apply Keeps.putInt
    | with_reducible apply Keeps.flag
    | with_reducible apply Keeps.ite

theorem Keeps.antTx {a s : State} (h : Keeps a s) : ∀ x1, Keeps a (State.antTx s x1) := by
  intro x1
  unfold State.antTx; try dsimp only
  repeat' first
    | with_reducible assumption
    | with_reducible apply Keeps.setAnt
    | with_reducible apply Keeps.ite

theorem Keeps.txGo {a s : State} (h : Keeps a s) : ∀ x1 x2 x3 x4 x5 x6, Keeps a (State.txGo s x1 x2 x3 x4 x5 x6) := by
  intro x1 x2 x3 x4 x5 x6
  unfold State.txGo; try dsimp only
  repeat' first
    | with_reducible assumption
    | with_reducible apply Keeps.rxStop
    | with_reducible apply Keeps.blank
    | with_reducible apply Keeps.txStat
    | with_reducible apply Keeps.antTx
    | with_reducible apply Keeps.driveOf
    | with_reducible apply Keeps.enterState
    | with_reducible apply Keeps.crsReserve
    | with_reducible apply Keeps.freeVal
    | with_reducible apply Keeps.setRadio
    | with_reducible apply Keeps.setPageSt
    | with_reducible apply Keeps.ite
    | split
    | refine Keeps.of2 (by with_reducible assumption) ?_
    | refine Keeps.of3 (by with_reducible assumption) ?_
    | with_reducible apply Keeps.upd
    | rfl
    | with_reducible exact OtpKept.refl _

theorem Keeps.txProfile {a s : State} (h : Keeps a s) : ∀ x1, Keeps a (State.txProfile s x1).2 := by
  intro x1
  unfold State.txProfile; try dsimp only
  repeat' first
    | with_reducible assumption
    | with_reducible apply Keeps.profileFault
    | with_reducible apply Keeps.put
    | with_reducible apply Keeps.flag
    | with_reducible apply Keeps.ite
    | with_reducible apply Keeps.ite2

theorem Keeps.txOpChain {a s : State} (h : Keeps a s) : ∀ x1 x2 x3 x4 x5 x6 x7 x8, Keeps a (State.txOpChain s x1 x2 x3 x4 x5 x6 x7 x8) := by
  intro x1 x2 x3 x4 x5 x6 x7 x8
  unfold State.txOpChain; try dsimp only
  repeat' first
    | with_reducible assumption
    | with_reducible apply Keeps.giveAll
    | with_reducible apply Keeps.txGo
    | with_reducible apply Keeps.txNotSent
    | with_reducible apply Keeps.opFrame
    | with_reducible apply Keeps.ite
    | split
    | refine Keeps.of2 (by with_reducible assumption) ?_
    | with_reducible apply Keeps.upd
    | rfl
    | with_reducible exact OtpKept.refl _

theorem Keeps.txOpSend {a s : State} (h : Keeps a s) : ∀ x1 x2 x3 x4 x5 x6, Keeps a (State.txOpSend s x1 x2 x3 x4 x5 x6) := by
  intro x1 x2 x3 x4 x5 x6
  unfold State.txOpSend; try dsimp only
  repeat' first
    | with_reducible assumption
    | with_reducible apply Keeps.txOpChain
    | with_reducible apply Keeps.txProfile
    | with_reducible apply Keeps.txWalk
    | with_reducible apply Keeps.txNotSent
    | with_reducible apply Keeps.ite
    | split
    | refine Keeps.of2 (by with_reducible assumption) ?_

theorem Keeps.txOpStart {a s : State} (h : Keeps a s) : ∀ x1, Keeps a (State.txOpStart s x1) := by
  intro x1
  unfold State.txOpStart; try dsimp only
  repeat' first
    | with_reducible assumption
    | with_reducible apply Keeps.rcpSample
    | with_reducible apply Keeps.setReg
    | with_reducible apply Keeps.txOpSend
    | with_reducible apply Keeps.put
    | with_reducible apply Keeps.flag
    | with_reducible apply Keeps.txNotSent
    | with_reducible apply Keeps.calDueCheck
    | with_reducible apply Keeps.ite
    | split

theorem Keeps.ackFrame {a s : State} (h : Keeps a s) : ∀ x1, Keeps a (State.ackFrame s x1).2 := by
  intro x1
  unfold State.ackFrame; try dsimp only
  repeat' first
    | with_reducible assumption
    | with_reducible apply Keeps.cslFill
    | split
    | refine Keeps.of2 (by with_reducible assumption) ?_

theorem Keeps.rxOpEnds {a s : State} (h : Keeps a s) : Keeps a (State.rxOpEnds s).1 := by
  unfold State.rxOpEnds; try dsimp only
  repeat' first
    | with_reducible assumption
    | with_reducible apply Keeps.endSrc
    | with_reducible apply Keeps.setRadio
    | split
    | with_reducible apply Keeps.upd
    | rfl
    | with_reducible exact OtpKept.refl _

theorem Keeps.ackNotSent {a s : State} (h : Keeps a s) : ∀ x1, Keeps a (State.ackNotSent s x1) := by
  intro x1
  unfold State.ackNotSent; try dsimp only
  repeat' first
    | with_reducible assumption
    | with_reducible apply Keeps.crsRelease
    | with_reducible apply Keeps.ackFailed
    | with_reducible apply Keeps.opExit
    | with_reducible apply Keeps.rxOpEnds
    | with_reducible apply Keeps.setRadio
    | with_reducible apply Keeps.abortNow
    | split
    | refine Keeps.of1 (by with_reducible assumption) ?_
    | with_reducible apply Keeps.upd
    | rfl
    | with_reducible exact OtpKept.refl _

theorem Keeps.ackSend {a s : State} (h : Keeps a s) : ∀ x1 x2 x3 x4 x5 x6 x7, Keeps a (State.ackSend s x1 x2 x3 x4 x5 x6 x7) := by
  intro x1 x2 x3 x4 x5 x6 x7
  unfold State.ackSend; try dsimp only
  repeat' first
    | with_reducible assumption
    | with_reducible apply Keeps.txProfile
    | with_reducible apply Keeps.txGo
    | with_reducible apply Keeps.ackFrame
    | with_reducible apply Keeps.ackNotSent
    | with_reducible apply Keeps.setRadio
    | with_reducible apply Keeps.ite
    | split
    | refine Keeps.of2 (by with_reducible assumption) ?_
    | with_reducible apply Keeps.upd
    | rfl
    | with_reducible exact OtpKept.refl _

theorem Keeps.txAckStart {a s : State} (h : Keeps a s) : ∀ x1 x2, Keeps a (State.txAckStart s x1 x2) := by
  intro x1 x2
  unfold State.txAckStart; try dsimp only
  repeat' first
    | with_reducible assumption
    | with_reducible apply Keeps.rcpSample
    | with_reducible apply Keeps.ackSend
    | with_reducible apply Keeps.setReg
    | with_reducible apply Keeps.put
    | with_reducible apply Keeps.ackNotSent
    | with_reducible apply Keeps.flag
    | with_reducible apply Keeps.calDueCheck
    | with_reducible apply Keeps.ite
    | split

theorem Keeps.chainDone {a s : State} (h : Keeps a s) : ∀ x1 x2, Keeps a (State.chainDone s x1 x2) := by
  intro x1 x2
  unfold State.chainDone; try dsimp only
  repeat' first
    | with_reducible assumption
    | with_reducible apply Keeps.giveAll
    | with_reducible apply Keeps.event
    | with_reducible apply Keeps.freeAll
    | with_reducible apply Keeps.ite

theorem Keeps.txExit {a s : State} (h : Keeps a s) : ∀ x1 x2 x3, Keeps a (State.txExit s x1 x2 x3) := by
  intro x1 x2 x3
  unfold State.txExit; try dsimp only
  repeat' first
    | with_reducible assumption
    | with_reducible apply Keeps.rxStop
    | with_reducible apply Keeps.moveTo
    | with_reducible apply Keeps.releaseAll
    | with_reducible apply Keeps.rxStart
    | with_reducible apply Keeps.enterState
    | with_reducible apply Keeps.crsStop
    | with_reducible apply Keeps.put
    | with_reducible apply Keeps.unblank
    | with_reducible apply Keeps.setRadio
    | with_reducible apply Keeps.antQuiet
    | with_reducible apply Keeps.exitRx
    | with_reducible apply Keeps.ite
    | split
    | with_reducible apply Keeps.upd
    | rfl
    | with_reducible exact OtpKept.refl _

theorem Keeps.txEnd {a s : State} (h : Keeps a s) : ∀ x1, Keeps a (State.txEnd s x1) := by
  intro x1
  unfold State.txEnd; try dsimp only
  repeat' first
    | with_reducible assumption
    | with_reducible apply Keeps.rxStop
    | with_reducible apply Keeps.chainDone
    | with_reducible apply Keeps.moveTo
    | with_reducible apply Keeps.endSrc
    | with_reducible apply Keeps.txExit
    | with_reducible apply Keeps.enterState
    | with_reducible apply Keeps.rxOpEnds
    | with_reducible apply Keeps.unblank
    | with_reducible apply Keeps.finishMove
    | with_reducible apply Keeps.setRadio
    | with_reducible apply Keeps.antQuiet
    | with_reducible apply Keeps.ite
    | split
    | refine Keeps.of1 (by with_reducible assumption) ?_
    | with_reducible apply Keeps.upd
    | rfl
    | with_reducible exact OtpKept.refl _

theorem Keeps.detector {a s : State} (h : Keeps a s) : ∀ x1 x2, Keeps a (State.detector s x1 x2) := by
  intro x1 x2
  unfold State.detector; try dsimp only
  repeat' first
    | with_reducible assumption
    | with_reducible apply Keeps.reportFault
    | with_reducible apply Keeps.putInt
    | with_reducible apply Keeps.freeVal
    | with_reducible apply Keeps.flag
    | with_reducible apply Keeps.ite
    | split
    | refine Keeps.of2 (by with_reducible assumption) ?_

theorem Keeps.sequenceStart {a s : State} (h : Keeps a s) : Keeps a (State.sequenceStart s) := by
  unfold State.sequenceStart; try dsimp only
  repeat' first
    | with_reducible assumption
    | with_reducible apply Keeps.txOpStart
    | with_reducible apply Keeps.txAckStart
    | with_reducible apply Keeps.ite
    | split

theorem Keeps.execTxSequenceStart {a s : State} (h : Keeps a s) : ∀ x0, KeepsAll a (Machine.execTxSequenceStart x0 s) := by
  intro x0
  unfold Machine.execTxSequenceStart; try dsimp only
  repeat' first
    | with_reducible assumption
    | with_reducible apply Keeps.roundNow
    | with_reducible apply Keeps.sequenceStart
    | with_reducible apply KeepsAll.next

theorem Keeps.execRampUpStart {a s : State} (h : Keeps a s) : KeepsAll a (Machine.execRampUpStart s) := by
  unfold Machine.execRampUpStart; try dsimp only
  repeat' first
    | with_reducible assumption
    | with_reducible apply Keeps.setRadio
    | with_reducible apply Keeps.ite
    | with_reducible apply KeepsAll.ite
    | with_reducible apply KeepsAll.next
    | split
    | with_reducible apply Keeps.upd
    | rfl
    | with_reducible exact OtpKept.refl _

theorem Keeps.execOnAir {a s : State} (h : Keeps a s) : KeepsAll a (Machine.execOnAir s) := by
  unfold Machine.execOnAir; try dsimp only
  repeat' first
    | with_reducible assumption
    | with_reducible apply Keeps.event
    | with_reducible apply Keeps.txFail
    | with_reducible apply Keeps.setRadio
    | with_reducible apply Keeps.setPageSt
    | with_reducible apply Keeps.faultRange
    | with_reducible apply Keeps.ite
    | with_reducible apply KeepsAll.ite
    | with_reducible apply KeepsAll.next
    | split
    | with_reducible apply Keeps.upd
    | rfl
    | with_reducible exact OtpKept.refl _

theorem Keeps.frameSent {a s : State} (h : Keeps a s) : ∀ x1 x2, Keeps a (State.frameSent s x1 x2) := by
  intro x1 x2
  unfold State.frameSent; try dsimp only
  repeat' first
    | with_reducible assumption
    | with_reducible apply Keeps.detector
    | with_reducible apply Keeps.event
    | with_reducible refine Keeps.optDo ?_ (fun _ => ?_)
    | with_reducible apply Keeps.setRadio
    | with_reducible apply Keeps.abortNow
    | with_reducible apply Keeps.ctxFree
    | with_reducible apply Keeps.setRecFlag
    | split
    | with_reducible apply Keeps.upd
    | rfl
    | with_reducible exact OtpKept.refl _

theorem Keeps.execFrameTxEnd {a s : State} (h : Keeps a s) : ∀ x0, KeepsAll a (Machine.execFrameTxEnd x0 s) := by
  intro x0
  unfold Machine.execFrameTxEnd; try dsimp only
  repeat' first
    | with_reducible assumption
    | with_reducible apply Keeps.exitBegins
    | with_reducible apply Keeps.event
    | with_reducible apply Keeps.frameSent
    | with_reducible apply Keeps.setRadio
    | with_reducible apply Keeps.setPageSt
    | with_reducible apply Keeps.ite
    | with_reducible apply KeepsAll.ite
    | with_reducible apply KeepsAll.next
    | split
    | with_reducible apply Keeps.upd
    | rfl
    | with_reducible exact OtpKept.refl _

theorem Keeps.execRampDownEnd {a s : State} (h : Keeps a s) : KeepsAll a (Machine.execRampDownEnd s) := by
  unfold Machine.execRampDownEnd; try dsimp only
  repeat' first
    | with_reducible assumption
    | with_reducible apply Keeps.crsRelease
    | with_reducible apply Keeps.setRadio
    | with_reducible apply Keeps.setPageSt
    | with_reducible apply Keeps.txEnd
    | with_reducible apply Keeps.ite
    | with_reducible apply KeepsAll.ite
    | with_reducible apply KeepsAll.next
    | split
    | with_reducible apply Keeps.upd
    | rfl
    | with_reducible exact OtpKept.refl _

theorem Keeps.execAntSelExit {a s : State} (h : Keeps a s) : KeepsAll a (Machine.execAntSelExit s) := by
  unfold Machine.execAntSelExit; try dsimp only
  repeat' first
    | with_reducible assumption
    | with_reducible apply Keeps.txEnd
    | with_reducible apply Keeps.ite
    | with_reducible apply KeepsAll.ite
    | with_reducible apply KeepsAll.next
    | split

theorem Keeps.execTurnRoundRxRelease {a s : State} (h : Keeps a s) : KeepsAll a (Machine.execTurnRoundRxRelease s) := by
  unfold Machine.execTurnRoundRxRelease; try dsimp only
  repeat' first
    | with_reducible assumption
    | with_reducible apply Keeps.enterState
    | with_reducible apply Keeps.unblank
    | with_reducible apply Keeps.finishMove
    | with_reducible apply Keeps.setRadio
    | with_reducible apply Keeps.ite
    | with_reducible apply KeepsAll.ite
    | with_reducible apply KeepsAll.next
    | with_reducible apply Keeps.upd
    | rfl
    | with_reducible exact OtpKept.refl _

theorem Keeps.execUnderrun {a s : State} (h : Keeps a s) : KeepsAll a (Machine.execUnderrun s) := by
  unfold Machine.execUnderrun; try dsimp only
  repeat' first
    | with_reducible assumption
    | with_reducible apply Keeps.txFail
    | with_reducible apply Keeps.put
    | with_reducible apply Keeps.flag
    | with_reducible apply Keeps.ite
    | with_reducible apply KeepsAll.ite
    | with_reducible apply KeepsAll.next
    | split

theorem Keeps.execAckFail {a s : State} (h : Keeps a s) : ∀ x0, KeepsAll a (Machine.execAckFail x0 s) := by
  intro x0
  unfold Machine.execAckFail; try dsimp only
  repeat' first
    | with_reducible assumption
    | with_reducible apply Keeps.txFail
    | with_reducible apply Keeps.put
    | with_reducible apply Keeps.ackNotSent
    | with_reducible apply Keeps.flag
    | with_reducible apply Keeps.ite
    | with_reducible apply KeepsAll.ite
    | with_reducible apply KeepsAll.next
    | split

theorem Keeps.execIlim {a s : State} (h : Keeps a s) : KeepsAll a (Machine.execIlim s) := by
  unfold Machine.execIlim; try dsimp only
  repeat' first
    | with_reducible assumption
    | with_reducible apply Keeps.put
    | with_reducible apply Keeps.flag
    | with_reducible apply Keeps.setRadio
    | with_reducible apply Keeps.ite
    | with_reducible apply KeepsAll.ite
    | with_reducible apply KeepsAll.next
    | split
    | with_reducible apply Keeps.upd
    | rfl
    | with_reducible exact OtpKept.refl _

theorem Keeps.execCcaWindowEnd {a s : State} (h : Keeps a s) : ∀ x0 x1, KeepsAll a (Machine.execCcaWindowEnd x0 x1 s) := by
  intro x0 x1
  unfold Machine.execCcaWindowEnd; try dsimp only
  repeat' first
    | with_reducible assumption
    | with_reducible apply Keeps.notBeforeT0
    | with_reducible apply Keeps.squashOverlaps
    | with_reducible apply Keeps.put
    | with_reducible apply Keeps.putInt
    | with_reducible apply Keeps.freeVal
    | with_reducible apply Keeps.setRadio
    | with_reducible apply Keeps.countSat
    | with_reducible apply Keeps.txNotSent
    | with_reducible apply Keeps.ite
    | with_reducible apply KeepsAll.ite
    | with_reducible apply KeepsAll.next
    | split
    | refine Keeps.of2 (by with_reducible assumption) ?_
    | with_reducible apply Keeps.upd
    | rfl
    | with_reducible exact OtpKept.refl _

theorem Keeps.putFrame {a s : State} (h : Keeps a s) : ∀ x1 x2, Keeps a (State.putFrame s x1 x2) := by
  intro x1 x2
  unfold State.putFrame; try dsimp only
  repeat' first
    | with_reducible assumption
    | with_reducible apply Keeps.setSlot
    | with_reducible apply Keeps.upd
    | rfl
    | with_reducible exact OtpKept.refl _

theorem Keeps.rxOver {a s : State} (h : Keeps a s) : ∀ x1, Keeps a (State.rxOver s x1) := by
  intro x1
  unfold State.rxOver; try dsimp only
  repeat' first
    | with_reducible assumption
    | with_reducible apply Keeps.endSrc
    | with_reducible apply Keeps.opExit
    | with_reducible apply Keeps.setRadio
    | with_reducible apply Keeps.ite
    | split
    | with_reducible apply Keeps.upd
    | rfl
    | with_reducible exact OtpKept.refl _

end Sys2Proof.Machine
end

