-- ==== Sys2Proof/Laws/Keeps3.lean ====
section
/-! SUPPORT. What the operations keep (Laws/Keeps.lean): Receive, Verdict, Timeline, TimeBase, Cascade. -/

set_option linter.unusedTactic false
set_option linter.unreachableTactic false

namespace Sys2Proof.Machine

theorem Keeps.windowCheck {a s : State} (h : Keeps a s) : Keeps a (State.windowCheck s) := by
  unfold State.windowCheck; try dsimp only
  repeat' first
    | with_reducible assumption
    | with_reducible apply Keeps.rxOver
    | with_reducible apply Keeps.ite

theorem Keeps.toSearch {a s : State} (h : Keeps a s) : ∀ x1, Keeps a (State.toSearch s x1) := by
  intro x1
  unfold State.toSearch; try dsimp only
  repeat' first
    | with_reducible assumption
    | with_reducible apply Keeps.setSlot
    | with_reducible apply Keeps.windowCheck
    | with_reducible apply Keeps.freeAll
    | with_reducible apply Keeps.freshCopy
    | split
    | with_reducible apply Keeps.upd
    | rfl
    | with_reducible exact OtpKept.refl _

theorem Keeps.singleRxEnds {a s : State} (h : Keeps a s) : ∀ x1, Keeps a (State.singleRxEnds s x1) := by
  intro x1
  unfold State.singleRxEnds; try dsimp only
  repeat' first
    | with_reducible assumption
    | with_reducible apply Keeps.rxOver
    | with_reducible apply Keeps.ite
    | split

theorem Keeps.loseAndEnd {a s : State} (h : Keeps a s) : ∀ x1 x2, Keeps a (State.loseAndEnd s x1 x2) := by
  intro x1 x2
  unfold State.loseAndEnd; try dsimp only
  repeat' first
    | with_reducible assumption
    | with_reducible apply Keeps.singleRxEnds
    | with_reducible apply Keeps.loseFrame
    | with_reducible apply Keeps.setRadio
    | with_reducible apply Keeps.windowCheck
    | with_reducible apply Keeps.upd
    | rfl
    | with_reducible exact OtpKept.refl _

theorem Keeps.growFrame {a s : State} (h : Keeps a s) : ∀ x1 x2 x3 x t, State.growFrame s x1 x2 x3 = some (x, t) → Keeps a t := by
  intro x1 x2 x3 x t e
  unfold State.growFrame at e; try dsimp only at e
  repeat' first
    | with_reducible assumption
    | (with_reducible contradiction)
    | with_reducible refine Keeps.ofSome e ?_
    | (split at e)
    | with_reducible apply Keeps.putFrame
    | refine Keeps.takeBlocks ?_ _ _ _ _ (by with_reducible assumption)
    | split
    | with_reducible apply Keeps.upd
    | rfl
    | with_reducible exact OtpKept.refl _

theorem Keeps.syncFound {a s : State} (h : Keeps a s) : ∀ x1 x2 x3 x4 x5 x6, Keeps a (State.syncFound s x1 x2 x3 x4 x5 x6) := by
  intro x1 x2 x3 x4 x5 x6
  unfold State.syncFound; try dsimp only
  repeat' first
    | with_reducible assumption
    | with_reducible apply Keeps.putFrame
    | with_reducible apply Keeps.loseAndEnd
    | with_reducible apply Keeps.setRadio
    | refine Keeps.takeBlocks ?_ _ _ _ _ (by with_reducible assumption)
    | split
    | with_reducible apply Keeps.upd
    | rfl
    | with_reducible exact OtpKept.refl _

theorem Keeps.headerOk {a s : State} (h : Keeps a s) : ∀ x1 x2 x3 x4 x5, Keeps a (State.headerOk s x1 x2 x3 x4 x5) := by
  intro x1 x2 x3 x4 x5
  unfold State.headerOk; try dsimp only
  repeat' first
    | with_reducible assumption
    | with_reducible apply Keeps.putFrame
    | with_reducible apply Keeps.flag
    | with_reducible apply Keeps.ite

theorem Keeps.rxRequest {a s : State} (h : Keeps a s) : ∀ x1 x2 x3 x4 x5, Keeps a (State.rxRequest s x1 x2 x3 x4 x5) := by
  intro x1 x2 x3 x4 x5
  unfold State.rxRequest; try dsimp only
  repeat' first
    | with_reducible assumption
    | with_reducible apply Keeps.upd
    | rfl
    | with_reducible exact OtpKept.refl _

theorem Keeps.arbMiss {a s : State} (h : Keeps a s) : ∀ x1, Keeps a (State.arbMiss s x1) := by
  intro x1
  unfold State.arbMiss; try dsimp only
  repeat' first
    | with_reducible assumption
    | with_reducible apply Keeps.onFrame
    | with_reducible apply Keeps.txFail
    | with_reducible apply Keeps.recTrigger
    | with_reducible apply Keeps.put
    | with_reducible apply Keeps.flag
    | with_reducible apply Keeps.squashCtx
    | with_reducible apply Keeps.countSat
    | with_reducible apply Keeps.ite
    | split
    | with_reducible apply Keeps.upd
    | rfl
    | with_reducible exact OtpKept.refl _

theorem Keeps.serveNext {a s : State} (h : Keeps a s) : ∀ x1 x t, State.serveNext s x1 = some (x, t) → Keeps a t := by
  intro x1 x t e
  unfold State.serveNext at e; try dsimp only at e
  repeat' first
    | with_reducible assumption
    | (with_reducible contradiction)
    | with_reducible refine Keeps.ofSome e ?_
    | (split at e)
    | with_reducible apply Keeps.arbMiss
    | with_reducible apply Keeps.ite
    | split
    | with_reducible apply Keeps.upd
    | rfl
    | with_reducible exact OtpKept.refl _

theorem Keeps.softOverflow {a s : State} (h : Keeps a s) : ∀ x1, Keeps a (State.softOverflow s x1) := by
  intro x1
  unfold State.softOverflow; try dsimp only
  repeat' first
    | with_reducible assumption
    | with_reducible apply Keeps.reportFault
    | with_reducible apply Keeps.loseAndEnd
    | with_reducible apply Keeps.flag
    | with_reducible apply Keeps.countSat
    | with_reducible apply Keeps.upd
    | rfl
    | with_reducible exact OtpKept.refl _

theorem Keeps.recordLookup {a s : State} (h : Keeps a s) : ∀ x1 x2, Keeps a (State.recordLookup s x1 x2) := by
  intro x1 x2
  unfold State.recordLookup; try dsimp only
  repeat' first
    | with_reducible assumption
    | with_reducible apply Keeps.recordUnit
    | split

theorem Keeps.execPreambleDetect {a s : State} (h : Keeps a s) : ∀ x0 x1, KeepsAll a (Machine.execPreambleDetect x0 x1 s) := by
  intro x0 x1
  unfold Machine.execPreambleDetect; try dsimp only
  repeat' first
    | with_reducible assumption
    | with_reducible apply Keeps.putFrame
    | with_reducible apply Keeps.ite
    | with_reducible apply KeepsAll.ite
    | with_reducible apply KeepsAll.next

theorem Keeps.execSyncMatch {a s : State} (h : Keeps a s) : ∀ x0 x1 x2 x3 x4, KeepsAll a (Machine.execSyncMatch x0 x1 x2 x3 x4 s) := by
  intro x0 x1 x2 x3 x4
  unfold Machine.execSyncMatch; try dsimp only
  repeat' first
    | with_reducible assumption
    | with_reducible apply Keeps.syncFound
    | with_reducible apply Keeps.ite
    | with_reducible apply KeepsAll.ite
    | with_reducible apply KeepsAll.next
    | split

theorem Keeps.execSyncSearchTimeout {a s : State} (h : Keeps a s) : ∀ x0, KeepsAll a (Machine.execSyncSearchTimeout x0 s) := by
  intro x0
  unfold Machine.execSyncSearchTimeout; try dsimp only
  repeat' first
    | with_reducible assumption
    | with_reducible apply Keeps.toSearch
    | with_reducible apply Keeps.ite
    | with_reducible apply KeepsAll.ite
    | with_reducible apply KeepsAll.next
    | split

theorem Keeps.execHeaderCheck {a s : State} (h : Keeps a s) : ∀ x0 x1, KeepsAll a (Machine.execHeaderCheck x0 x1 s) := by
  intro x0 x1
  unfold Machine.execHeaderCheck; try dsimp only
  repeat' first
    | with_reducible assumption
    | with_reducible apply Keeps.headerOk
    | with_reducible apply Keeps.toSearch
    | with_reducible apply Keeps.countSat
    | with_reducible apply Keeps.ite
    | with_reducible apply KeepsAll.ite
    | with_reducible apply KeepsAll.next
    | split

theorem Keeps.execStfDetect {a s : State} (h : Keeps a s) : ∀ x0 x1, KeepsAll a (Machine.execStfDetect x0 x1 s) := by
  intro x0 x1
  unfold Machine.execStfDetect; try dsimp only
  repeat' first
    | with_reducible assumption
    | with_reducible apply Keeps.putFrame
    | with_reducible apply Keeps.ite
    | with_reducible apply KeepsAll.ite
    | with_reducible apply KeepsAll.next

theorem Keeps.execLtfEnd {a s : State} (h : Keeps a s) : ∀ x0 x1 x2, KeepsAll a (Machine.execLtfEnd x0 x1 x2 s) := by
  intro x0 x1 x2
  unfold Machine.execLtfEnd; try dsimp only
  repeat' first
    | with_reducible assumption
    | with_reducible apply Keeps.syncFound
    | with_reducible apply Keeps.ite
    | with_reducible apply KeepsAll.ite
    | with_reducible apply KeepsAll.next
    | split

theorem Keeps.execFaoHeaderCheck {a s : State} (h : Keeps a s) : ∀ x0 x1, KeepsAll a (Machine.execFaoHeaderCheck x0 x1 s) := by
  intro x0 x1
  unfold Machine.execFaoHeaderCheck; try dsimp only
  repeat' first
    | with_reducible assumption
    | with_reducible apply Keeps.profileFault
    | with_reducible apply Keeps.headerOk
    | with_reducible apply Keeps.recordUnit
    | with_reducible apply Keeps.toSearch
    | with_reducible apply Keeps.flag
    | with_reducible apply Keeps.countSat
    | with_reducible apply Keeps.ite
    | with_reducible apply KeepsAll.ite
    | with_reducible apply KeepsAll.next
    | split

theorem Keeps.execCaptureSwitch {a s : State} (h : Keeps a s) : ∀ x0 x1, KeepsAll a (Machine.execCaptureSwitch x0 x1 s) := by
  intro x0 x1
  unfold Machine.execCaptureSwitch; try dsimp only
  repeat' first
    | with_reducible assumption
    | with_reducible apply Keeps.setSlot
    | with_reducible apply Keeps.loseFrame
    | with_reducible apply Keeps.putFrame
    | with_reducible apply Keeps.freeAll
    | with_reducible apply Keeps.countSat
    | with_reducible apply Keeps.ite
    | with_reducible apply KeepsAll.ite
    | with_reducible apply KeepsAll.next
    | split
    | with_reducible apply Keeps.upd
    | rfl
    | with_reducible exact OtpKept.refl _

theorem Keeps.execRxDataBlock {a s : State} (h : Keeps a s) : ∀ x0 x1, KeepsAll a (Machine.execRxDataBlock x0 x1 s) := by
  intro x0 x1
  unfold Machine.execRxDataBlock; try dsimp only
  repeat' first
    | with_reducible assumption
    | with_reducible apply Keeps.loseAndEnd
    | refine Keeps.growFrame ?_ _ _ _ _ _ (by with_reducible assumption)
    | with_reducible apply Keeps.ite
    | with_reducible apply KeepsAll.ite
    | with_reducible apply KeepsAll.next
    | split
    | with_reducible apply Keeps.upd
    | rfl
    | with_reducible exact OtpKept.refl _

theorem Keeps.execRxFrameEnd {a s : State} (h : Keeps a s) : ∀ x0 x1, KeepsAll a (Machine.execRxFrameEnd x0 x1 s) := by
  intro x0 x1
  unfold Machine.execRxFrameEnd; try dsimp only
  repeat' first
    | with_reducible assumption
    | with_reducible apply Keeps.notBeforeT0
    | with_reducible apply Keeps.putFrame
    | with_reducible apply Keeps.ite
    | with_reducible apply KeepsAll.ite
    | with_reducible apply KeepsAll.next
    | split
    | with_reducible apply Keeps.upd
    | rfl
    | with_reducible exact OtpKept.refl _

theorem Keeps.execReceiveWindowClose {a s : State} (h : Keeps a s) : KeepsAll a (Machine.execReceiveWindowClose s) := by
  unfold Machine.execReceiveWindowClose; try dsimp only
  repeat' first
    | with_reducible assumption
    | with_reducible apply Keeps.setRadio
    | with_reducible apply Keeps.windowCheck
    | with_reducible apply Keeps.ite
    | with_reducible apply KeepsAll.ite
    | with_reducible apply KeepsAll.next
    | split
    | with_reducible apply Keeps.upd
    | rfl
    | with_reducible exact OtpKept.refl _

theorem Keeps.execSegmentRequest {a s : State} (h : Keeps a s) : ∀ x0 x1 x2, KeepsAll a (Machine.execSegmentRequest x0 x1 x2 s) := by
  intro x0 x1 x2
  unfold Machine.execSegmentRequest; try dsimp only
  repeat' first
    | with_reducible assumption
    | with_reducible apply Keeps.rxRequest
    | with_reducible apply Keeps.softOverflow
    | with_reducible apply Keeps.putFrame
    | with_reducible refine Keeps.foldl ?_ (fun _ _ _ => ?_)
    | with_reducible refine Keeps.foldl2 ?_ (fun _ _ _ => ?_)
    | with_reducible apply Keeps.ite
    | with_reducible apply KeepsAll.ite
    | with_reducible apply KeepsAll.next
    | split
    | with_reducible apply Keeps.upd
    | rfl
    | with_reducible exact OtpKept.refl _

theorem Keeps.nextSegment {a s : State} (h : Keeps a s) : ∀ x t, State.nextSegment s = some (x, t) → Keeps a t := by
  intro x t e
  unfold State.nextSegment at e; try dsimp only at e
  repeat' first
    | with_reducible assumption
    | (with_reducible contradiction)
    | with_reducible refine Keeps.ofSome e ?_
    | (split at e)
    | refine Keeps.serveNext ?_ _ _ _ (by with_reducible assumption)
    | split
    | with_reducible apply Keeps.upd
    | rfl
    | with_reducible exact OtpKept.refl _

theorem Keeps.decodeSegment {a s : State} (h : Keeps a s) : ∀ x1, Keeps a (State.decodeSegment s x1) := by
  intro x1
  unfold State.decodeSegment; try dsimp only
  repeat' first
    | with_reducible assumption
    | with_reducible apply Keeps.putFrame
    | split
    | with_reducible apply Keeps.upd
    | rfl
    | with_reducible exact OtpKept.refl _

theorem Keeps.execSegmentDone {a s : State} (h : Keeps a s) : ∀ x0, KeepsAll a (Machine.execSegmentDone x0 s) := by
  intro x0
  unfold Machine.execSegmentDone; try dsimp only
  repeat' first
    | with_reducible assumption
    | with_reducible apply Keeps.decodeSegment
    | with_reducible apply Keeps.reportFault
    | refine Keeps.nextSegment ?_ _ _ (by with_reducible assumption)
    | with_reducible apply Keeps.put
    | with_reducible apply Keeps.flag
    | with_reducible apply Keeps.countSat
    | with_reducible apply Keeps.ite
    | with_reducible apply KeepsAll.ite
    | with_reducible apply KeepsAll.next
    | split

theorem Keeps.execSoftBitOverflow {a s : State} (h : Keeps a s) : ∀ x0, KeepsAll a (Machine.execSoftBitOverflow x0 s) := by
  intro x0
  unfold Machine.execSoftBitOverflow; try dsimp only
  repeat' first
    | with_reducible assumption
    | with_reducible apply Keeps.softOverflow
    | with_reducible apply Keeps.ite
    | with_reducible apply KeepsAll.ite
    | with_reducible apply KeepsAll.next
    | split

theorem Keeps.execSecurityRequest {a s : State} (h : Keeps a s) : ∀ x0, KeepsAll a (Machine.execSecurityRequest x0 s) := by
  intro x0
  unfold Machine.execSecurityRequest; try dsimp only
  repeat' first
    | with_reducible assumption
    | with_reducible apply Keeps.rxRequest
    | with_reducible apply Keeps.ite
    | with_reducible apply KeepsAll.ite
    | with_reducible apply KeepsAll.next
    | split
    | with_reducible apply Keeps.upd
    | rfl
    | with_reducible exact OtpKept.refl _

theorem Keeps.portTakes {a s : State} (h : Keeps a s) : ∀ x1, Keeps a (State.portTakes s x1) := by
  intro x1
  unfold State.portTakes; try dsimp only
  repeat' first
    | with_reducible assumption
    | with_reducible apply Keeps.ite
    | split
    | with_reducible apply Keeps.upd
    | rfl
    | with_reducible exact OtpKept.refl _

theorem Keeps.lookupLeaves {a s : State} (h : Keeps a s) : ∀ x1, Keeps a (State.lookupLeaves s x1) := by
  intro x1
  unfold State.lookupLeaves; try dsimp only
  repeat' first
    | with_reducible assumption
    | with_reducible apply Keeps.hvlTag
    | with_reducible apply Keeps.hvlSend
    | with_reducible apply Keeps.ite
    | split
    | refine Keeps.of2 (by with_reducible assumption) ?_
    | with_reducible apply Keeps.upd
    | rfl
    | with_reducible exact OtpKept.refl _

theorem Keeps.execSharedRequestServed {a s : State} (h : Keeps a s) : ∀ x0, KeepsAll a (Machine.execSharedRequestServed x0 s) := by
  intro x0
  unfold Machine.execSharedRequestServed; try dsimp only
  repeat' first
    | with_reducible assumption
    | refine Keeps.serveNext ?_ _ _ _ (by with_reducible assumption)
    | with_reducible apply Keeps.portTakes
    | with_reducible apply Keeps.lookupLeaves
    | with_reducible apply Keeps.ite
    | with_reducible apply KeepsAll.ite
    | with_reducible apply KeepsAll.next
    | split
    | with_reducible apply Keeps.upd
    | rfl
    | with_reducible exact OtpKept.refl _

theorem Keeps.lookupDone {a s : State} (h : Keeps a s) : ∀ x1 x2 x3, Keeps a (State.lookupDone s x1 x2 x3) := by
  intro x1 x2 x3
  unfold State.lookupDone; try dsimp only
  repeat' first
    | with_reducible assumption
    | with_reducible apply Keeps.putFrame
    | with_reducible apply Keeps.upd
    | rfl
    | with_reducible exact OtpKept.refl _

theorem Keeps.countDrop {a s : State} (h : Keeps a s) : ∀ x1, Keeps a (State.countDrop s x1) := by
  intro x1
  unfold State.countDrop; try dsimp only
  repeat' first
    | with_reducible assumption
    | with_reducible apply Keeps.countSat
    | split

theorem Keeps.checkFrame {a s : State} (h : Keeps a s) : ∀ x1 x2, Keeps a (State.checkFrame s x1 x2).2 := by
  intro x1 x2
  unfold State.checkFrame; try dsimp only
  repeat' first
    | with_reducible assumption
    | with_reducible apply Keeps.keyMiss
    | with_reducible apply Keeps.frameKey
    | with_reducible apply Keeps.recordUnit
    | with_reducible apply Keeps.countSat
    | with_reducible apply Keeps.ite
    | with_reducible apply Keeps.ite2
    | split
    | refine Keeps.of2 (by with_reducible assumption) ?_

theorem Keeps.metaRecord {a s : State} (h : Keeps a s) : ∀ x1 x2 x3 x4 x5, Keeps a (State.metaRecord s x1 x2 x3 x4 x5).2 := by
  intro x1 x2 x3 x4 x5
  unfold State.metaRecord; try dsimp only
  repeat' first
    | with_reducible assumption
    | with_reducible apply Keeps.fit16
    | with_reducible apply Keeps.ite
    | with_reducible apply Keeps.ite2
    | split
    | refine Keeps.of2 (by with_reducible assumption) ?_

theorem Keeps.frameRecords {a s : State} (h : Keeps a s) : ∀ x1 x2 x3 x4, Keeps a (State.frameRecords s x1 x2 x3 x4).2 := by
  intro x1 x2 x3 x4
  unfold State.frameRecords; try dsimp only
  repeat' first
    | with_reducible assumption
    | with_reducible apply Keeps.metaRecord
    | split
    | refine Keeps.of2 (by with_reducible assumption) ?_

theorem Keeps.recFrame {a s : State} (h : Keeps a s) : ∀ x1 x2 x3 x4 x5, Keeps a (State.recFrame s x1 x2 x3 x4 x5) := by
  intro x1 x2 x3 x4 x5
  unfold State.recFrame; try dsimp only
  repeat' first
    | with_reducible assumption
    | with_reducible apply Keeps.ite
    | split
    | with_reducible apply Keeps.upd
    | rfl
    | with_reducible exact OtpKept.refl _

theorem Keeps.deliver {a s : State} (h : Keeps a s) : ∀ x1 x2 x3 x4 t, State.deliver s x1 x2 x3 x4 = some t → Keeps a t := by
  intro x1 x2 x3 x4 t e
  unfold State.deliver at e; try dsimp only at e
  repeat' first
    | with_reducible assumption
    | (with_reducible contradiction)
    | with_reducible refine Keeps.ofSome1 e ?_
    | (split at e)
    | with_reducible apply Keeps.queueFrame
    | with_reducible apply Keeps.storeChain
    | with_reducible apply Keeps.forwardKick
    | refine Keeps.growFrame ?_ _ _ _ _ _ (by with_reducible assumption)
    | with_reducible apply Keeps.ite
    | split
    | with_reducible apply Keeps.upd
    | rfl
    | with_reducible exact OtpKept.refl _

theorem Keeps.leUpdate {a s : State} (h : Keeps a s) : ∀ x1 x2 x3, Keeps a (State.leUpdate s x1 x2 x3).1 := by
  intro x1 x2 x3
  unfold State.leUpdate; try dsimp only
  repeat' first
    | with_reducible assumption
    | with_reducible apply Keeps.put
    | with_reducible apply Keeps.ite
    | with_reducible apply Keeps.ite1
    | split

theorem Keeps.noSpecVerdict {a s : State} (h : Keeps a s) : ∀ x1 x2 x3, Keeps a (State.noSpecVerdict s x1 x2 x3) := by
  intro x1 x2 x3
  unfold State.noSpecVerdict; try dsimp only
  repeat' first
    | with_reducible assumption
    | with_reducible apply Keeps.sendVerdict
    | with_reducible apply Keeps.ite
    | split

theorem Keeps.specPassed {a s : State} (h : Keeps a s) : ∀ x1 x2 x3 x4, Keeps a (State.specPassed s x1 x2 x3 x4) := by
  intro x1 x2 x3 x4
  unfold State.specPassed; try dsimp only
  repeat' first
    | with_reducible assumption
    | with_reducible apply Keeps.applyVerdict
    | with_reducible apply Keeps.ite
    | split
    | with_reducible apply Keeps.upd
    | rfl
    | with_reducible exact OtpKept.refl _

theorem Keeps.afterVerdict {a s : State} (h : Keeps a s) : ∀ x1 x2, Keeps a (State.afterVerdict s x1 x2) := by
  intro x1 x2
  unfold State.afterVerdict; try dsimp only
  repeat' first
    | with_reducible assumption
    | with_reducible apply Keeps.singleRxEnds
    | with_reducible apply Keeps.setSlot
    | with_reducible apply Keeps.setRadio
    | with_reducible apply Keeps.windowCheck
    | with_reducible apply Keeps.freshCopy
    | with_reducible apply Keeps.ite
    | split
    | with_reducible apply Keeps.upd
    | rfl
    | with_reducible exact OtpKept.refl _

theorem Keeps.noteSeen {a s : State} (h : Keeps a s) : ∀ x1 x2, Keeps a (State.noteSeen s x1 x2) := by
  intro x1 x2
  unfold State.noteSeen; try dsimp only
  repeat' first
    | with_reducible assumption
    | with_reducible apply Keeps.setRadio
    | split
    | with_reducible apply Keeps.upd
    | rfl
    | with_reducible exact OtpKept.refl _

theorem Keeps.ackTune {a s : State} (h : Keeps a s) : ∀ x1 x2, Keeps a (State.ackTune s x1 x2).1 := by
  intro x1 x2
  unfold State.ackTune; try dsimp only
  repeat' first
    | with_reducible assumption
    | with_reducible apply Keeps.put
    | with_reducible apply Keeps.crsReserve
    | with_reducible apply Keeps.crsRequest
    | with_reducible apply Keeps.ite
    | with_reducible apply Keeps.ite1
    | split
    | refine Keeps.of1 (by with_reducible assumption) ?_

theorem Keeps.specBuild {a s : State} (h : Keeps a s) : ∀ x1 x2 x3 x4 x5 x6, Keeps a (State.specBuild s x1 x2 x3 x4 x5 x6) := by
  intro x1 x2 x3 x4 x5 x6
  unfold State.specBuild; try dsimp only
  repeat' first
    | with_reducible assumption
    | with_reducible apply Keeps.reserveOut
    | with_reducible apply Keeps.onFrame
    | with_reducible apply Keeps.ackTune
    | with_reducible apply Keeps.specRecord
    | with_reducible apply Keeps.frameKey
    | with_reducible apply Keeps.ite
    | split
    | refine Keeps.of1 (by with_reducible assumption) ?_
    | refine Keeps.of2 (by with_reducible assumption) ?_
    | with_reducible apply Keeps.upd
    | rfl
    | with_reducible exact OtpKept.refl _

theorem Keeps.specStart {a s : State} (h : Keeps a s) : ∀ x1 x2 x3, Keeps a (State.specStart s x1 x2 x3) := by
  intro x1 x2 x3
  unfold State.specStart; try dsimp only
  repeat' first
    | with_reducible assumption
    | with_reducible apply Keeps.specBuild
    | with_reducible apply Keeps.ackLost
    | with_reducible apply Keeps.flag
    | with_reducible apply Keeps.squashCtx
    | with_reducible refine Keeps.foldl ?_ (fun _ _ _ => ?_)
    | with_reducible refine Keeps.foldl2 ?_ (fun _ _ _ => ?_)
    | with_reducible apply Keeps.ite
    | split

theorem Keeps.commitCtx {a s : State} (h : Keeps a s) : ∀ x1 x2, Keeps a (State.commitCtx s x1 x2) := by
  intro x1 x2
  unfold State.commitCtx; try dsimp only
  repeat' first
    | with_reducible assumption
    | with_reducible apply Keeps.specRecord
    | with_reducible apply Keeps.event
    | with_reducible apply Keeps.sendVerdict
    | with_reducible apply Keeps.countSat
    | with_reducible apply Keeps.upd
    | rfl
    | with_reducible exact OtpKept.refl _

theorem Keeps.squashLate {a s : State} (h : Keeps a s) : ∀ x1 x2, Keeps a (State.squashLate s x1 x2) := by
  intro x1 x2
  unfold State.squashLate; try dsimp only
  repeat' first
    | with_reducible assumption
    | with_reducible apply Keeps.opExit
    | with_reducible apply Keeps.rxOpEnds
    | with_reducible apply Keeps.squashCtx
    | with_reducible apply Keeps.ite
    | split
    | refine Keeps.of1 (by with_reducible assumption) ?_

theorem Keeps.specDue {a s : State} (h : Keeps a s) : ∀ x1 x2 x3, Keeps a (State.specDue s x1 x2 x3) := by
  intro x1 x2 x3
  unfold State.specDue; try dsimp only
  repeat' first
    | with_reducible assumption
    | with_reducible apply Keeps.specStart
    | with_reducible apply Keeps.ackLost
    | split

theorem Keeps.verdict {a s : State} (h : Keeps a s) : ∀ x1 x2 x3, Keeps a (State.verdict s x1 x2 x3) := by
  intro x1 x2 x3
  unfold State.verdict; try dsimp only
  repeat' first
    | with_reducible assumption
    | with_reducible apply Keeps.checkFrame
    | with_reducible apply Keeps.noteSeen
    | with_reducible apply Keeps.recFrame
    | with_reducible apply Keeps.specPassed
    | refine Keeps.deliver ?_ _ _ _ _ _ (by with_reducible assumption)
    | with_reducible apply Keeps.countDrop
    | with_reducible apply Keeps.putFrame
    | with_reducible apply Keeps.loseAndEnd
    | with_reducible apply Keeps.afterVerdict
    | with_reducible apply Keeps.specDue
    | with_reducible apply Keeps.setRadio
    | with_reducible apply Keeps.squashCtx
    | with_reducible apply Keeps.freeAll
    | with_reducible apply Keeps.leUpdate
    | with_reducible apply Keeps.frameRecords
    | with_reducible apply Keeps.noSpecVerdict
    | with_reducible apply Keeps.ite
    | split
    | refine Keeps.of1 (by with_reducible assumption) ?_
    | refine Keeps.of2 (by with_reducible assumption) ?_
    | with_reducible apply Keeps.upd
    | rfl
    | with_reducible exact OtpKept.refl _

theorem Keeps.execMacHeaderParsed {a s : State} (h : Keeps a s) : ∀ x0, KeepsAll a (Machine.execMacHeaderParsed x0 s) := by
  intro x0
  unfold Machine.execMacHeaderParsed; try dsimp only
  repeat' first
    | with_reducible assumption
    | with_reducible apply Keeps.rxRequest
    | with_reducible apply Keeps.countDrop
    | with_reducible apply Keeps.putFrame
    | with_reducible apply Keeps.toSearch
    | with_reducible apply Keeps.lookupDone
    | with_reducible apply Keeps.ite
    | with_reducible apply KeepsAll.ite
    | with_reducible apply KeepsAll.next
    | split
    | with_reducible apply Keeps.upd
    | rfl
    | with_reducible exact OtpKept.refl _

theorem Keeps.lookupAnswer {a s : State} (h : Keeps a s) : ∀ x1 x2, Keeps a (State.lookupAnswer s x1 x2).2 := by
  intro x1 x2
  unfold State.lookupAnswer; try dsimp only
  repeat' first
    | with_reducible assumption
    | with_reducible apply Keeps.nbtLookup
    | with_reducible apply Keeps.remoteTarget
    | with_reducible apply Keeps.ite
    | with_reducible apply Keeps.ite2
    | split
    | refine Keeps.of2 (by with_reducible assumption) ?_
    | refine Keeps.of5 (by with_reducible assumption) ?_

theorem Keeps.execNbtLookupReturn {a s : State} (h : Keeps a s) : ∀ x0, KeepsAll a (Machine.execNbtLookupReturn x0 s) := by
  intro x0
  unfold Machine.execNbtLookupReturn; try dsimp only
  repeat' first
    | with_reducible assumption
    | with_reducible apply Keeps.recordLookup
    | with_reducible apply Keeps.lookupAnswer
    | with_reducible apply Keeps.lookupDone
    | with_reducible apply Keeps.countSat
    | with_reducible apply Keeps.ite
    | with_reducible apply KeepsAll.ite
    | with_reducible apply KeepsAll.next
    | split
    | refine Keeps.of2 (by with_reducible assumption) ?_
    | with_reducible apply Keeps.upd
    | rfl
    | with_reducible exact OtpKept.refl _

theorem Keeps.execSpeculationStart {a s : State} (h : Keeps a s) : ∀ x0, KeepsAll a (Machine.execSpeculationStart x0 s) := by
  intro x0
  unfold Machine.execSpeculationStart; try dsimp only
  repeat' first
    | with_reducible assumption
    | with_reducible apply Keeps.specStart
    | with_reducible apply KeepsAll.next
    | split

theorem Keeps.execFrameVerdict {a s : State} (h : Keeps a s) : ∀ x0, KeepsAll a (Machine.execFrameVerdict x0 s) := by
  intro x0
  unfold Machine.execFrameVerdict; try dsimp only
  repeat' first
    | with_reducible assumption
    | with_reducible apply Keeps.verdict
    | with_reducible apply Keeps.ite
    | with_reducible apply KeepsAll.ite
    | with_reducible apply KeepsAll.next
    | split

theorem Keeps.execContextBlockTake {a s : State} (h : Keeps a s) : KeepsAll a (Machine.execContextBlockTake s) := by
  unfold Machine.execContextBlockTake; try dsimp only
  repeat' first
    | with_reducible assumption
    | with_reducible apply Keeps.ctxTake
    | with_reducible apply Keeps.ite
    | with_reducible apply KeepsAll.ite
    | with_reducible apply KeepsAll.next

theorem Keeps.execCommit {a s : State} (h : Keeps a s) : ∀ x0, KeepsAll a (Machine.execCommit x0 s) := by
  intro x0
  unfold Machine.execCommit; try dsimp only
  repeat' first
    | with_reducible assumption
    | with_reducible apply Keeps.commitCtx
    | with_reducible apply Keeps.squashLate
    | with_reducible apply Keeps.ite
    | with_reducible apply KeepsAll.ite
    | with_reducible apply KeepsAll.next
    | split

theorem Keeps.execSquash {a s : State} (h : Keeps a s) : ∀ x0, KeepsAll a (Machine.execSquash x0 s) := by
  intro x0
  unfold Machine.execSquash; try dsimp only
  repeat' first
    | with_reducible assumption
    | with_reducible apply Keeps.squashLate
    | with_reducible apply Keeps.ite
    | with_reducible apply KeepsAll.ite
    | with_reducible apply KeepsAll.next
    | split

theorem Keeps.execCommitDeadline {a s : State} (h : Keeps a s) : ∀ x0, KeepsAll a (Machine.execCommitDeadline x0 s) := by
  intro x0
  unfold Machine.execCommitDeadline; try dsimp only
  repeat' first
    | with_reducible assumption
    | with_reducible apply Keeps.squashLate
    | with_reducible apply Keeps.ackLost
    | with_reducible apply Keeps.ite
    | with_reducible apply KeepsAll.ite
    | with_reducible apply KeepsAll.next
    | split

theorem Keeps.setEnt {a s : State} (h : Keeps a s) : ∀ x1 x2, Keeps a (State.setEnt s x1 x2) := by
  intro x1 x2
  unfold State.setEnt; try dsimp only
  repeat' first
    | with_reducible assumption
    | with_reducible apply Keeps.upd
    | rfl
    | with_reducible exact OtpKept.refl _

theorem Keeps.pushDone {a s : State} (h : Keeps a s) : ∀ x1, Keeps a (State.pushDone s x1) := by
  intro x1
  unfold State.pushDone; try dsimp only
  repeat' first
    | with_reducible assumption
    | with_reducible apply Keeps.put
    | with_reducible apply Keeps.flag
    | with_reducible apply Keeps.ite
    | with_reducible apply Keeps.upd
    | rfl
    | with_reducible exact OtpKept.refl _

theorem Keeps.recordDone {a s : State} (h : Keeps a s) : ∀ x1 x2 x3 x4 x5 x6 x7, Keeps a (State.recordDone s x1 x2 x3 x4 x5 x6 x7) := by
  intro x1 x2 x3 x4 x5 x6 x7
  unfold State.recordDone; try dsimp only
  repeat' first
    | with_reducible assumption
    | with_reducible apply Keeps.pushDone
    | with_reducible apply Keeps.flag
    | with_reducible apply Keeps.ite

theorem Keeps.entArm {a s : State} (h : Keeps a s) : ∀ x1 x2, Keeps a (State.entArm s x1 x2).2 := by
  intro x1 x2
  unfold State.entArm; try dsimp only
  repeat' first
    | with_reducible assumption
    | with_reducible apply Keeps.setEnt
    | with_reducible apply Keeps.ite
    | with_reducible apply Keeps.ite2

theorem Keeps.entCancel {a s : State} (h : Keeps a s) : ∀ x1, Keeps a (State.entCancel s x1).2 := by
  intro x1
  unfold State.entCancel; try dsimp only
  repeat' first
    | with_reducible assumption
    | with_reducible apply Keeps.recordDone
    | with_reducible apply Keeps.setEnt
    | split
    | with_reducible apply Keeps.upd
    | rfl
    | with_reducible exact OtpKept.refl _

theorem Keeps.entCmd {a s : State} (h : Keeps a s) : ∀ x1 x2 x3, Keeps a (State.entCmd s x1 x2 x3).2.2 := by
  intro x1 x2 x3
  unfold State.entCmd; try dsimp only
  repeat' first
    | with_reducible assumption
    | with_reducible apply Keeps.entArm
    | with_reducible refine Keeps.forN ?_ (fun _ _ _ => ?_)
    | with_reducible apply Keeps.entCancel
    | with_reducible apply Keeps.ite
    | with_reducible apply Keeps.ite3
    | split
    | refine Keeps.of2 (by with_reducible assumption) ?_

theorem Keeps.stage {a s : State} (h : Keeps a s) : ∀ x1 x2, Keeps a (State.stage s x1 x2) := by
  intro x1 x2
  unfold State.stage; try dsimp only
  repeat' first
    | with_reducible assumption
    | with_reducible apply Keeps.setRegI
    | with_reducible refine Keeps.foldl ?_ (fun _ _ _ => ?_)
    | with_reducible refine Keeps.foldl2 ?_ (fun _ _ _ => ?_)

theorem Keeps.entCmdWrite {a s : State} (h : Keeps a s) : ∀ x1 x2, Keeps a (State.entCmdWrite s x1 x2) := by
  intro x1 x2
  unfold State.entCmdWrite; try dsimp only
  repeat' first
    | with_reducible assumption
    | with_reducible apply Keeps.hvlTag
    | with_reducible apply Keeps.sendParts
    | with_reducible apply Keeps.entCmd
    | with_reducible apply Keeps.setRegI
    | with_reducible apply Keeps.stage
    | with_reducible apply Keeps.ite
    | split
    | refine Keeps.of2 (by with_reducible assumption) ?_
    | refine Keeps.of3 (by with_reducible assumption) ?_
    | with_reducible apply Keeps.upd
    | rfl
    | with_reducible exact OtpKept.refl _

theorem Keeps.handOver {a s : State} (h : Keeps a s) : ∀ x1, Keeps a (State.handOver s x1) := by
  intro x1
  unfold State.handOver; try dsimp only
  repeat' first
    | with_reducible assumption
    | with_reducible apply Keeps.setEnt
    | with_reducible apply Keeps.record
    | with_reducible apply Keeps.endPlain
    | with_reducible apply Keeps.holdTimed
    | with_reducible apply Keeps.ite
    | with_reducible apply Keeps.upd
    | rfl
    | with_reducible exact OtpKept.refl _

theorem Keeps.followLink {a s : State} (h : Keeps a s) : ∀ x1 x2 x3, Keeps a (State.followLink s x1 x2 x3).2 := by
  intro x1 x2 x3
  unfold State.followLink; try dsimp only
  repeat' first
    | with_reducible assumption
    | with_reducible apply Keeps.setEnt
    | with_reducible apply Keeps.put
    | with_reducible apply Keeps.flag
    | with_reducible apply Keeps.ite
    | with_reducible apply Keeps.ite2
    | with_reducible apply Keeps.upd
    | rfl
    | with_reducible exact OtpKept.refl _

theorem Keeps.completeEntry {a s : State} (h : Keeps a s) : ∀ x1 x2, Keeps a (State.completeEntry s x1 x2) := by
  intro x1 x2
  unfold State.completeEntry; try dsimp only
  repeat' first
    | with_reducible assumption
    | with_reducible apply Keeps.recordDone
    | with_reducible apply Keeps.setEnt
    | with_reducible apply Keeps.followLink
    | with_reducible apply Keeps.ite
    | split
    | refine Keeps.of2 (by with_reducible assumption) ?_

theorem Keeps.lnkRead {a s : State} (h : Keeps a s) : ∀ x1 x2 x3, Keeps a (Machine.lnkRead s x1 x2 x3).2 := by
  intro x1 x2 x3
  unfold Machine.lnkRead; try dsimp only
  repeat' first
    | with_reducible assumption
    | with_reducible apply Keeps.setRegI
    | with_reducible apply Keeps.ite
    | with_reducible apply Keeps.ite2
    | split
    | with_reducible apply Keeps.upd
    | rfl
    | with_reducible exact OtpKept.refl _

theorem Keeps.lnkWrite {a s : State} (h : Keeps a s) : ∀ x1 x2 x3, Keeps a (Machine.lnkWrite s x1 x2 x3) := by
  intro x1 x2 x3
  unfold Machine.lnkWrite; try dsimp only
  repeat' first
    | with_reducible assumption
    | with_reducible apply Keeps.entCmdWrite
    | with_reducible apply Keeps.ite

theorem Keeps.lnkFlagsCleared {a s : State} (h : Keeps a s) : Keeps a (Machine.lnkFlagsCleared s) := by
  unfold Machine.lnkFlagsCleared; try dsimp only
  repeat' first
    | with_reducible assumption
    | with_reducible apply Keeps.put
    | with_reducible apply Keeps.ite

theorem Keeps.execHandOver {a s : State} (h : Keeps a s) : KeepsAll a (Machine.execHandOver s) := by
  unfold Machine.execHandOver; try dsimp only
  repeat' first
    | with_reducible assumption
    | with_reducible apply Keeps.handOver
    | with_reducible apply KeepsAll.next
    | split

theorem Keeps.execEntryStart {a s : State} (h : Keeps a s) : ∀ x0, KeepsAll a (Machine.execEntryStart x0 s) := by
  intro x0
  unfold Machine.execEntryStart; try dsimp only
  repeat' first
    | with_reducible assumption
    | with_reducible apply Keeps.endSrc
    | with_reducible apply Keeps.event
    | with_reducible apply Keeps.ite
    | with_reducible apply KeepsAll.ite
    | with_reducible apply KeepsAll.next

theorem Keeps.execEntryCompletion {a s : State} (h : Keeps a s) : ∀ x0, KeepsAll a (Machine.execEntryCompletion x0 s) := by
  intro x0
  unfold Machine.execEntryCompletion; try dsimp only
  repeat' first
    | with_reducible assumption
    | with_reducible apply Keeps.completeEntry
    | with_reducible apply KeepsAll.next
    | split

theorem Keeps.execRunAhead {a s : State} (h : Keeps a s) : KeepsAll a (Machine.execRunAhead s) := by
  unfold Machine.execRunAhead; try dsimp only
  repeat' first
    | with_reducible assumption
    | with_reducible apply Keeps.setEnt
    | with_reducible apply Keeps.crsRequest
    | with_reducible apply Keeps.ite
    | with_reducible apply KeepsAll.ite
    | with_reducible apply KeepsAll.next
    | split
    | refine Keeps.of1 (by with_reducible assumption) ?_
    | with_reducible apply Keeps.upd
    | rfl
    | with_reducible exact OtpKept.refl _

theorem Keeps.setAlarm {a s : State} (h : Keeps a s) : ∀ x1 x2, Keeps a (State.setAlarm s x1 x2) := by
  intro x1 x2
  unfold State.setAlarm; try dsimp only
  repeat' first
    | with_reducible assumption
    | with_reducible apply Keeps.upd
    | rfl
    | with_reducible exact OtpKept.refl _

theorem Keeps.alarmFire {a s : State} (h : Keeps a s) : ∀ x1 x2, Keeps a (State.alarmFire s x1 x2) := by
  intro x1 x2
  unfold State.alarmFire; try dsimp only
  repeat' first
    | with_reducible assumption
    | with_reducible apply Keeps.wake
    | with_reducible apply Keeps.event
    | with_reducible apply Keeps.setAlarm
    | with_reducible apply Keeps.flag
    | with_reducible apply Keeps.ite
    | with_reducible apply Keeps.upd
    | rfl
    | with_reducible exact OtpKept.refl _

theorem Keeps.alarmEffect {a s : State} (h : Keeps a s) : ∀ x1, Keeps a (State.alarmEffect s x1) := by
  intro x1
  unfold State.alarmEffect; try dsimp only
  repeat' first
    | with_reducible assumption
    | with_reducible apply Keeps.alarmFire
    | with_reducible apply Keeps.setAlarm
    | with_reducible apply Keeps.ite
    | split
    | with_reducible apply Keeps.upd
    | rfl
    | with_reducible exact OtpKept.refl _

theorem Keeps.alarmTick {a s : State} (h : Keeps a s) : ∀ x1, Keeps a (State.alarmTick s x1) := by
  intro x1
  unfold State.alarmTick; try dsimp only
  repeat' first
    | with_reducible assumption
    | with_reducible apply Keeps.alarmEffect
    | with_reducible apply Keeps.alarmFire
    | with_reducible apply Keeps.setAlarm
    | with_reducible apply Keeps.ite
    | split
    | with_reducible apply Keeps.upd
    | rfl
    | with_reducible exact OtpKept.refl _

theorem Keeps.alarmsTick {a s : State} (h : Keeps a s) : Keeps a (State.alarmsTick s) := by
  unfold State.alarmsTick; try dsimp only
  repeat' first
    | with_reducible assumption
    | with_reducible apply Keeps.alarmTick
    | with_reducible refine Keeps.forN ?_ (fun _ _ _ => ?_)

theorem Keeps.alarmDisarm {a s : State} (h : Keeps a s) : ∀ x1, Keeps a (State.alarmDisarm s x1) := by
  intro x1
  unfold State.alarmDisarm; try dsimp only
  repeat' first
    | with_reducible assumption
    | with_reducible apply Keeps.setAlarm
    | with_reducible apply Keeps.upd
    | rfl
    | with_reducible exact OtpKept.refl _

theorem Keeps.alarmLoWrite {a s : State} (h : Keeps a s) : ∀ x1, Keeps a (State.alarmLoWrite s x1) := by
  intro x1
  unfold State.alarmLoWrite; try dsimp only
  repeat' first
    | with_reducible assumption
    | with_reducible apply Keeps.setAlarm
    | with_reducible apply Keeps.ite
    | with_reducible apply Keeps.upd
    | rfl
    | with_reducible exact OtpKept.refl _

theorem Keeps.tmrLoad {a s : State} (h : Keeps a s) : ∀ x1, Keeps a (State.tmrLoad s x1) := by
  intro x1
  unfold State.tmrLoad; try dsimp only
  repeat' first
    | with_reducible assumption
    | with_reducible apply Keeps.upd
    | rfl
    | with_reducible exact OtpKept.refl _

theorem Keeps.tmrCmpRaise {a s : State} (h : Keeps a s) : ∀ x1 x2, Keeps a (State.tmrCmpRaise s x1 x2) := by
  intro x1 x2
  unfold State.tmrCmpRaise; try dsimp only
  repeat' first
    | with_reducible assumption
    | with_reducible apply Keeps.event
    | with_reducible apply Keeps.flag

theorem Keeps.tmrMatch {a s : State} (h : Keeps a s) : ∀ x1, Keeps a (State.tmrMatch s x1) := by
  intro x1
  unfold State.tmrMatch; try dsimp only
  repeat' first
    | with_reducible assumption
    | with_reducible apply Keeps.tmrCmpRaise
    | with_reducible refine Keeps.forN ?_ (fun _ _ _ => ?_)
    | with_reducible apply Keeps.ite

theorem Keeps.tmrShow {a s : State} (h : Keeps a s) : ∀ x1, Keeps a (State.tmrShow s x1) := by
  intro x1
  unfold State.tmrShow; try dsimp only
  repeat' first
    | with_reducible assumption
    | with_reducible apply Keeps.event
    | with_reducible apply Keeps.flag
    | with_reducible apply Keeps.tmrMatch
    | with_reducible apply Keeps.ite

theorem Keeps.tmrWrap {a s : State} (h : Keeps a s) : ∀ x1, Keeps a (State.tmrWrap s x1) := by
  intro x1
  unfold State.tmrWrap; try dsimp only
  repeat' first
    | with_reducible assumption
    | with_reducible apply Keeps.tmrShow
    | with_reducible apply Keeps.tmrLoad
    | with_reducible apply Keeps.put
    | with_reducible apply Keeps.setPageSt
    | with_reducible apply Keeps.tmrMatch
    | with_reducible apply Keeps.ite

theorem Keeps.tmrCycle {a s : State} (h : Keeps a s) : ∀ x1, Keeps a (State.tmrCycle s x1) := by
  intro x1
  unfold State.tmrCycle; try dsimp only
  repeat' first
    | with_reducible assumption
    | with_reducible apply Keeps.tmrShow
    | with_reducible apply Keeps.tmrWrap
    | with_reducible apply Keeps.put
    | with_reducible apply Keeps.ite

theorem Keeps.tmrStart {a s : State} (h : Keeps a s) : ∀ x1, Keeps a (State.tmrStart s x1) := by
  intro x1
  unfold State.tmrStart; try dsimp only
  repeat' first
    | with_reducible assumption
    | with_reducible apply Keeps.tmrShow
    | with_reducible apply Keeps.tmrLoad
    | with_reducible apply Keeps.setPageSt
    | with_reducible apply Keeps.ite

theorem Keeps.tmrStop {a s : State} (h : Keeps a s) : ∀ x1, Keeps a (State.tmrStop s x1) := by
  intro x1
  unfold State.tmrStop; try dsimp only
  repeat' first
    | with_reducible assumption
    | with_reducible apply Keeps.setPageSt
    | with_reducible apply Keeps.ite

theorem Keeps.tmrClear {a s : State} (h : Keeps a s) : ∀ x1, Keeps a (State.tmrClear s x1) := by
  intro x1
  unfold State.tmrClear; try dsimp only
  repeat' first
    | with_reducible assumption
    | with_reducible apply Keeps.tmrShow
    | with_reducible apply Keeps.tmrLoad
    | with_reducible apply Keeps.put
    | with_reducible apply Keeps.ite

theorem Keeps.tmrLoadCmd {a s : State} (h : Keeps a s) : ∀ x1, Keeps a (State.tmrLoadCmd s x1) := by
  intro x1
  unfold State.tmrLoadCmd; try dsimp only
  repeat' first
    | with_reducible assumption
    | with_reducible apply Keeps.tmrLoad
    | with_reducible apply Keeps.tmrCmpRaise
    | with_reducible refine Keeps.forN ?_ (fun _ _ _ => ?_)
    | with_reducible apply Keeps.ite

theorem Keeps.tmrCapture {a s : State} (h : Keeps a s) : ∀ x1 x2, Keeps a (State.tmrCapture s x1 x2) := by
  intro x1 x2
  unfold State.tmrCapture; try dsimp only
  repeat' first
    | with_reducible assumption
    | with_reducible apply Keeps.setReg
    | with_reducible apply Keeps.tmrCmpRaise
    | with_reducible apply Keeps.ite

theorem Keeps.tmrCmd {a s : State} (h : Keeps a s) : ∀ x1 x2, Keeps a (State.tmrCmd s x1 x2) := by
  intro x1 x2
  unfold State.tmrCmd; try dsimp only
  repeat' first
    | with_reducible assumption
    | with_reducible apply Keeps.tmrStart
    | with_reducible apply Keeps.tmrClear
    | with_reducible apply Keeps.tmrStop
    | with_reducible apply Keeps.tmrLoadCmd
    | with_reducible apply Keeps.ite

theorem Keeps.tmrFine {a s : State} (h : Keeps a s) : ∀ x1, Keeps a (State.tmrFine s x1) := by
  intro x1
  unfold State.tmrFine; try dsimp only
  repeat' first
    | with_reducible assumption
    | with_reducible apply Keeps.tmrCycle
    | with_reducible refine Keeps.forN ?_ (fun _ _ _ => ?_)
    | with_reducible apply Keeps.ite
    | with_reducible apply Keeps.upd
    | rfl
    | with_reducible exact OtpKept.refl _

theorem Keeps.tmrSlow {a s : State} (h : Keeps a s) : ∀ x1, Keeps a (State.tmrSlow s x1) := by
  intro x1
  unfold State.tmrSlow; try dsimp only
  repeat' first
    | with_reducible assumption
    | with_reducible apply Keeps.tmrCycle
    | with_reducible refine Keeps.forN ?_ (fun _ _ _ => ?_)
    | with_reducible apply Keeps.ite
    | with_reducible apply Keeps.upd
    | rfl
    | with_reducible exact OtpKept.refl _

theorem Keeps.tmrCfg {a s : State} (h : Keeps a s) : ∀ x1, Keeps a (State.tmrCfg s x1) := by
  intro x1
  unfold State.tmrCfg; try dsimp only
  repeat' first
    | with_reducible assumption
    | with_reducible apply Keeps.upd
    | rfl
    | with_reducible exact OtpKept.refl _

theorem Keeps.lptWrite {a s : State} (h : Keeps a s) : ∀ x1 x2, Keeps a (State.lptWrite s x1 x2) := by
  intro x1 x2
  unfold State.lptWrite; try dsimp only
  repeat' first
    | with_reducible assumption
    | with_reducible apply Keeps.put
    | with_reducible apply Keeps.ite
    | with_reducible apply Keeps.upd
    | rfl
    | with_reducible exact OtpKept.refl _

theorem Keeps.lptWake {a s : State} (h : Keeps a s) : ∀ x1, Keeps a (State.lptWake s x1) := by
  intro x1
  unfold State.lptWake; try dsimp only
  repeat' first
    | with_reducible assumption
    | with_reducible apply Keeps.wake
    | with_reducible apply Keeps.ite

theorem Keeps.lptCmpRaise {a s : State} (h : Keeps a s) : ∀ x1, Keeps a (State.lptCmpRaise s x1) := by
  intro x1
  unfold State.lptCmpRaise; try dsimp only
  repeat' first
    | with_reducible assumption
    | with_reducible apply Keeps.event
    | with_reducible apply Keeps.flag
    | with_reducible apply Keeps.lptWake

theorem Keeps.lptShow {a s : State} (h : Keeps a s) : ∀ x1, Keeps a (State.lptShow s x1) := by
  intro x1
  unfold State.lptShow; try dsimp only
  repeat' first
    | with_reducible assumption
    | with_reducible apply Keeps.event
    | with_reducible apply Keeps.lptCmpRaise
    | with_reducible apply Keeps.flag
    | with_reducible apply Keeps.lptWake
    | with_reducible apply Keeps.ite

theorem Keeps.lptWrap {a s : State} (h : Keeps a s) : ∀ x1, Keeps a (State.lptWrap s x1) := by
  intro x1
  unfold State.lptWrap; try dsimp only
  repeat' first
    | with_reducible assumption
    | with_reducible apply Keeps.put
    | with_reducible apply Keeps.lptShow
    | with_reducible apply Keeps.upd
    | rfl
    | with_reducible exact OtpKept.refl _

theorem Keeps.lptCycle {a s : State} (h : Keeps a s) : ∀ x1, Keeps a (State.lptCycle s x1) := by
  intro x1
  unfold State.lptCycle; try dsimp only
  repeat' first
    | with_reducible assumption
    | with_reducible apply Keeps.lptWrap
    | with_reducible apply Keeps.put
    | with_reducible apply Keeps.lptShow
    | with_reducible apply Keeps.ite

theorem Keeps.askReset {a s : State} (h : Keeps a s) : ∀ x1, Keeps a (State.askReset s x1) := by
  intro x1
  unfold State.askReset; try dsimp only
  repeat' first
    | with_reducible assumption
    | with_reducible apply Keeps.ite
    | split
    | with_reducible apply Keeps.upd
    | rfl
    | with_reducible exact OtpKept.refl _

theorem Keeps.wdtExpire {a s : State} (h : Keeps a s) : ∀ x1, Keeps a (State.wdtExpire s x1) := by
  intro x1
  unfold State.wdtExpire; try dsimp only
  repeat' first
    | with_reducible assumption
    | with_reducible apply Keeps.put
    | with_reducible apply Keeps.askReset

theorem Keeps.wdtPrewarn {a s : State} (h : Keeps a s) : Keeps a (State.wdtPrewarn s) := by
  unfold State.wdtPrewarn; try dsimp only
  repeat' first
    | with_reducible assumption
    | with_reducible apply Keeps.event
    | with_reducible apply Keeps.put
    | with_reducible apply Keeps.flag
    | with_reducible apply Keeps.ite

theorem Keeps.wdtTick {a s : State} (h : Keeps a s) : Keeps a (State.wdtTick s) := by
  unfold State.wdtTick; try dsimp only
  repeat' first
    | with_reducible assumption
    | with_reducible apply Keeps.put
    | with_reducible apply Keeps.wdtPrewarn
    | with_reducible apply Keeps.wdtExpire
    | with_reducible apply Keeps.ite
    | with_reducible apply Keeps.upd
    | rfl
    | with_reducible exact OtpKept.refl _

theorem Keeps.wdtFeedWrite {a s : State} (h : Keeps a s) : ∀ x1, Keeps a (State.wdtFeedWrite s x1) := by
  intro x1
  unfold State.wdtFeedWrite; try dsimp only
  repeat' first
    | with_reducible assumption
    | with_reducible apply Keeps.wdtExpire
    | with_reducible apply Keeps.ite
    | with_reducible apply Keeps.upd
    | rfl
    | with_reducible exact OtpKept.refl _

theorem Keeps.fineTick {a s : State} (h : Keeps a s) : Keeps a (State.fineTick s) := by
  unfold State.fineTick; try dsimp only
  repeat' first
    | with_reducible assumption
    | with_reducible apply Keeps.tmrFine
    | with_reducible refine Keeps.forN ?_ (fun _ _ _ => ?_)
    | with_reducible apply Keeps.alarmsTick
    | with_reducible apply Keeps.ite
    | with_reducible apply Keeps.upd
    | rfl
    | with_reducible exact OtpKept.refl _

theorem Keeps.fineEdge {a s : State} (h : Keeps a s) : Keeps a (State.fineEdge s) := by
  unfold State.fineEdge; try dsimp only
  repeat' first
    | with_reducible assumption
    | with_reducible apply Keeps.put
    | with_reducible apply Keeps.ite

theorem Keeps.sendTime {a s : State} (h : Keeps a s) : Keeps a (State.sendTime s) := by
  unfold State.sendTime; try dsimp only
  repeat' first
    | with_reducible assumption
    | with_reducible apply Keeps.hvlSend
    | with_reducible apply Keeps.upd
    | rfl
    | with_reducible exact OtpKept.refl _

theorem Keeps.membersJoin {a s : State} (h : Keeps a s) : Keeps a (State.membersJoin s) := by
  unfold State.membersJoin; try dsimp only
  repeat' first
    | with_reducible assumption
    | with_reducible apply Keeps.event
    | with_reducible apply Keeps.putBit
    | with_reducible apply Keeps.flag
    | with_reducible refine Keeps.foldl ?_ (fun _ _ _ => ?_)
    | with_reducible refine Keeps.foldl2 ?_ (fun _ _ _ => ?_)
    | with_reducible apply Keeps.ite
    | with_reducible apply Keeps.upd
    | rfl
    | with_reducible exact OtpKept.refl _

theorem Keeps.syncPull {a s : State} (h : Keeps a s) : Keeps a (State.syncPull s) := by
  unfold State.syncPull; try dsimp only
  repeat' first
    | with_reducible assumption
    | with_reducible apply Keeps.ite
    | with_reducible apply Keeps.upd
    | rfl
    | with_reducible exact OtpKept.refl _

theorem Keeps.slowUnits {a s : State} (h : Keeps a s) : Keeps a (State.slowUnits s) := by
  unfold State.slowUnits; try dsimp only
  repeat' first
    | with_reducible assumption
    | with_reducible apply Keeps.tmrSlow
    | with_reducible apply Keeps.lptCycle
    | with_reducible refine Keeps.forN ?_ (fun _ _ _ => ?_)
    | with_reducible apply Keeps.alarmsTick

theorem Keeps.slowCount {a s : State} (h : Keeps a s) : Keeps a (State.slowCount s) := by
  unfold State.slowCount; try dsimp only
  repeat' first
    | with_reducible assumption
    | with_reducible apply Keeps.slowUnits
    | with_reducible apply Keeps.syncPull
    | with_reducible apply Keeps.sendTime
    | with_reducible apply Keeps.membersJoin
    | with_reducible apply Keeps.fineEdge
    | with_reducible apply Keeps.ite
    | with_reducible apply Keeps.upd
    | rfl
    | with_reducible exact OtpKept.refl _

theorem Keeps.slowEdge {a s : State} (h : Keeps a s) : Keeps a (State.slowEdge s) := by
  unfold State.slowEdge; try dsimp only
  repeat' first
    | with_reducible assumption
    | with_reducible apply Keeps.wdtTick
    | with_reducible apply Keeps.slowCount
    | with_reducible apply Keeps.ite

theorem Keeps.execSlowTick {a s : State} (h : Keeps a s) : KeepsAll a (Machine.execSlowTick s) := by
  unfold Machine.execSlowTick; try dsimp only
  repeat' first
    | with_reducible assumption
    | with_reducible apply Keeps.slowEdge
    | with_reducible apply KeepsAll.next

theorem Keeps.execFinePartStart {a s : State} (h : Keeps a s) : KeepsAll a (Machine.execFinePartStart s) := by
  unfold Machine.execFinePartStart; try dsimp only
  repeat' first
    | with_reducible assumption
    | with_reducible apply Keeps.fineEdge
    | with_reducible apply Keeps.ite
    | with_reducible apply KeepsAll.ite
    | with_reducible apply KeepsAll.next

theorem Keeps.execAlarmWriteEffect {a s : State} (h : Keeps a s) : ∀ x0, KeepsAll a (Machine.execAlarmWriteEffect x0 s) := by
  intro x0
  unfold Machine.execAlarmWriteEffect; try dsimp only
  repeat' first
    | with_reducible assumption
    | with_reducible apply Keeps.fineTick
    | with_reducible apply Keeps.slowEdge
    | with_reducible refine Keeps.forN ?_ (fun _ _ _ => ?_)
    | with_reducible apply Keeps.ite
    | with_reducible apply KeepsAll.ite
    | with_reducible apply KeepsAll.next
    | split

theorem Keeps.execAlarmFire {a s : State} (h : Keeps a s) : ∀ x0, KeepsAll a (Machine.execAlarmFire x0 s) := by
  intro x0
  unfold Machine.execAlarmFire; try dsimp only
  repeat' first
    | with_reducible assumption
    | with_reducible apply Keeps.alarmFire
    | with_reducible apply Keeps.ite
    | with_reducible apply KeepsAll.ite
    | with_reducible apply KeepsAll.next

theorem Keeps.execWrap {a s : State} (h : Keeps a s) : ∀ x0, KeepsAll a (Machine.execWrap x0 s) := by
  intro x0
  unfold Machine.execWrap; try dsimp only
  repeat' first
    | with_reducible assumption
    | with_reducible apply Keeps.tmrCycle
    | with_reducible apply Keeps.ite
    | with_reducible apply KeepsAll.ite
    | with_reducible apply KeepsAll.next

theorem Keeps.execCmp {a s : State} (h : Keeps a s) : ∀ x0 x1, KeepsAll a (Machine.execCmp x0 x1 s) := by
  intro x0 x1
  unfold Machine.execCmp; try dsimp only
  repeat' first
    | with_reducible assumption
    | with_reducible apply Keeps.tmrCycle
    | with_reducible apply Keeps.ite
    | with_reducible apply KeepsAll.ite
    | with_reducible apply KeepsAll.next

theorem Keeps.execLptSyncDone {a s : State} (h : Keeps a s) : KeepsAll a (Machine.execLptSyncDone s) := by
  unfold Machine.execLptSyncDone; try dsimp only
  repeat' first
    | with_reducible assumption
    | with_reducible apply Keeps.put
    | with_reducible apply Keeps.lptShow
    | with_reducible refine Keeps.forN ?_ (fun _ _ _ => ?_)
    | with_reducible apply Keeps.ite
    | with_reducible apply KeepsAll.ite
    | with_reducible apply KeepsAll.next
    | with_reducible apply Keeps.upd
    | rfl
    | with_reducible exact OtpKept.refl _

theorem Keeps.execLptWrap {a s : State} (h : Keeps a s) : ∀ x0, KeepsAll a (Machine.execLptWrap x0 s) := by
  intro x0
  unfold Machine.execLptWrap; try dsimp only
  repeat' first
    | with_reducible assumption
    | with_reducible apply Keeps.lptCycle
    | with_reducible apply Keeps.ite
    | with_reducible apply KeepsAll.ite
    | with_reducible apply KeepsAll.next

theorem Keeps.execLptCmp {a s : State} (h : Keeps a s) : ∀ x0, KeepsAll a (Machine.execLptCmp x0 s) := by
  intro x0
  unfold Machine.execLptCmp; try dsimp only
  repeat' first
    | with_reducible assumption
    | with_reducible apply Keeps.lptCycle
    | with_reducible apply Keeps.ite
    | with_reducible apply KeepsAll.ite
    | with_reducible apply KeepsAll.next

theorem Keeps.execPrewarn {a s : State} (h : Keeps a s) : KeepsAll a (Machine.execPrewarn s) := by
  unfold Machine.execPrewarn; try dsimp only
  repeat' first
    | with_reducible assumption
    | with_reducible apply Keeps.wdtTick
    | with_reducible apply Keeps.wdtPrewarn
    | with_reducible apply Keeps.ite
    | with_reducible apply KeepsAll.ite
    | with_reducible apply KeepsAll.next

theorem Keeps.execWdtExpiry {a s : State} (h : Keeps a s) : KeepsAll a (Machine.execWdtExpiry s) := by
  unfold Machine.execWdtExpiry; try dsimp only
  repeat' first
    | with_reducible assumption
    | with_reducible apply Keeps.wdtTick
    | with_reducible apply Keeps.ite
    | with_reducible apply KeepsAll.ite
    | with_reducible apply KeepsAll.next

theorem Keeps.setHvl {a s : State} (h : Keeps a s) : ∀ x1, Keeps a (State.setHvl s x1) := by
  intro x1
  unfold State.setHvl; try dsimp only
  repeat' first
    | with_reducible assumption
    | with_reducible apply Keeps.upd
    | rfl
    | with_reducible exact OtpKept.refl _

theorem Keeps.setLanes {a s : State} (h : Keeps a s) : ∀ x1 x2 x3, Keeps a (State.setLanes s x1 x2 x3) := by
  intro x1 x2 x3
  unfold State.setLanes; try dsimp only
  repeat' first
    | with_reducible assumption
    | with_reducible apply Keeps.put
    | split

theorem Keeps.trainPort {a s : State} (h : Keeps a s) : ∀ x1, Keeps a (State.trainPort s x1) := by
  intro x1
  unfold State.trainPort; try dsimp only
  repeat' first
    | with_reducible assumption
    | with_reducible apply Keeps.setLanes
    | with_reducible apply Keeps.setHop
    | with_reducible apply Keeps.upd
    | rfl
    | with_reducible exact OtpKept.refl _

theorem Keeps.stopPort {a s : State} (h : Keeps a s) : ∀ x1, Keeps a (State.stopPort s x1) := by
  intro x1
  unfold State.stopPort; try dsimp only
  repeat' first
    | with_reducible assumption
    | with_reducible apply Keeps.setLanes
    | with_reducible apply Keeps.setHop
    | with_reducible apply Keeps.upd
    | rfl
    | with_reducible exact OtpKept.refl _

theorem Keeps.lookupLost {a s : State} (h : Keeps a s) : ∀ x1 x2, Keeps a (State.lookupLost s x1 x2) := by
  intro x1 x2
  unfold State.lookupLost; try dsimp only
  repeat' first
    | with_reducible assumption
    | with_reducible apply Keeps.recordLookup
    | with_reducible apply Keeps.lookupDone
    | with_reducible apply Keeps.countSat
    | with_reducible apply Keeps.ite
    | split

theorem Keeps.endWait {a s : State} (h : Keeps a s) : ∀ x1, Keeps a (State.endWait s x1) := by
  intro x1
  unfold State.endWait; try dsimp only
  repeat' first
    | with_reducible assumption
    | with_reducible apply Keeps.nbtComplete
    | with_reducible apply Keeps.setRegI
    | with_reducible apply Keeps.lookupLost
    | with_reducible apply Keeps.ite
    | split

theorem Keeps.endBeyond {a s : State} (h : Keeps a s) : ∀ x1, Keeps a (State.endBeyond s x1) := by
  intro x1
  unfold State.endBeyond; try dsimp only
  repeat' first
    | with_reducible assumption
    | with_reducible apply Keeps.endWait
    | with_reducible apply Keeps.setHvl
    | with_reducible apply Keeps.dropReserve
    | with_reducible apply Keeps.freeAll
    | with_reducible refine Keeps.foldl ?_ (fun _ _ _ => ?_)
    | with_reducible refine Keeps.foldl2 ?_ (fun _ _ _ => ?_)
    | with_reducible apply Keeps.upd
    | rfl
    | with_reducible exact OtpKept.refl _

theorem Keeps.membersLost {a s : State} (h : Keeps a s) : ∀ x1, Keeps a (State.membersLost s x1) := by
  intro x1
  unfold State.membersLost; try dsimp only
  repeat' first
    | with_reducible assumption
    | with_reducible apply Keeps.endBeyond
    | with_reducible apply Keeps.event
    | with_reducible apply Keeps.putBit
    | with_reducible apply Keeps.flag
    | with_reducible refine Keeps.foldl ?_ (fun _ _ _ => ?_)
    | with_reducible refine Keeps.foldl2 ?_ (fun _ _ _ => ?_)
    | with_reducible apply Keeps.ite

theorem Keeps.timelineLost {a s : State} (h : Keeps a s) : Keeps a (State.timelineLost s) := by
  unfold State.timelineLost; try dsimp only
  repeat' first
    | with_reducible assumption
    | with_reducible apply Keeps.recordDone
    | with_reducible apply Keeps.setEnt
    | with_reducible apply Keeps.setRadio
    | with_reducible refine Keeps.forN ?_ (fun _ _ _ => ?_)
    | with_reducible apply Keeps.abortNow
    | with_reducible apply Keeps.ite
    | split
    | with_reducible apply Keeps.upd
    | rfl
    | with_reducible exact OtpKept.refl _

theorem Keeps.enterLost {a s : State} (h : Keeps a s) : Keeps a (State.enterLost s) := by
  unfold State.enterLost; try dsimp only
  repeat' first
    | with_reducible assumption
    | with_reducible apply Keeps.endBeyond
    | with_reducible apply Keeps.setHvl
    | with_reducible apply Keeps.stopPort
    | with_reducible apply Keeps.timelineLost
    | with_reducible apply Keeps.setPageSt
    | with_reducible apply Keeps.trainPort
    | with_reducible apply Keeps.upd
    | rfl
    | with_reducible exact OtpKept.refl _

theorem Keeps.syncLost {a s : State} (h : Keeps a s) : Keeps a (State.syncLost s) := by
  unfold State.syncLost; try dsimp only
  repeat' first
    | with_reducible assumption
    | with_reducible apply Keeps.enterLost
    | with_reducible apply Keeps.put
    | with_reducible apply Keeps.flag
    | with_reducible apply Keeps.countSat

theorem Keeps.hopDown {a s : State} (h : Keeps a s) : ∀ x1, Keeps a (State.hopDown s x1) := by
  intro x1
  unfold State.hopDown; try dsimp only
  repeat' first
    | with_reducible assumption
    | with_reducible apply Keeps.endBeyond
    | with_reducible apply Keeps.stopPort
    | with_reducible apply Keeps.hvlSend
    | with_reducible apply Keeps.enterLost
    | with_reducible apply Keeps.trainPort
    | with_reducible apply Keeps.membersLost
    | with_reducible apply Keeps.ite
    | split

theorem Keeps.hvlStart {a s : State} (h : Keeps a s) : Keeps a (State.hvlStart s) := by
  unfold State.hvlStart; try dsimp only
  repeat' first
    | with_reducible assumption
    | with_reducible apply Keeps.putBit
    | with_reducible apply Keeps.setPageSt
    | with_reducible apply Keeps.trainPort
    | with_reducible apply Keeps.ite

theorem Keeps.hvlStop {a s : State} (h : Keeps a s) : Keeps a (State.hvlStop s) := by
  unfold State.hvlStop; try dsimp only
  repeat' first
    | with_reducible assumption
    | with_reducible apply Keeps.endBeyond
    | with_reducible apply Keeps.setHvl
    | with_reducible apply Keeps.stopPort
    | with_reducible apply Keeps.put
    | with_reducible apply Keeps.putBit
    | with_reducible apply Keeps.setPageSt
    | with_reducible refine Keeps.foldl ?_ (fun _ _ _ => ?_)
    | with_reducible refine Keeps.foldl2 ?_ (fun _ _ _ => ?_)
    | with_reducible apply Keeps.ite
    | with_reducible apply Keeps.upd
    | rfl
    | with_reducible exact OtpKept.refl _

theorem Keeps.hvlUpdate {a s : State} (h : Keeps a s) : Keeps a (State.hvlUpdate s) := by
  unfold State.hvlUpdate; try dsimp only
  repeat' first
    | with_reducible assumption
    | with_reducible apply Keeps.hvlStop
    | with_reducible apply Keeps.hvlStart
    | with_reducible apply Keeps.ite

theorem Keeps.laneEffect {a s : State} (h : Keeps a s) : ∀ x1, Keeps a (State.laneEffect s x1) := by
  intro x1
  unfold State.laneEffect; try dsimp only
  repeat' first
    | with_reducible assumption
    | with_reducible apply Keeps.hopDown
    | with_reducible apply Keeps.setHop
    | with_reducible apply Keeps.ite
    | with_reducible apply Keeps.upd
    | rfl
    | with_reducible exact OtpKept.refl _

theorem Keeps.sendHello {a s : State} (h : Keeps a s) : Keeps a (State.sendHello s) := by
  unfold State.sendHello; try dsimp only
  repeat' first
    | with_reducible assumption
    | with_reducible apply Keeps.hvlTag
    | with_reducible apply Keeps.setHvl
    | with_reducible apply Keeps.hvlSend
    | split
    | refine Keeps.of2 (by with_reducible assumption) ?_
    | with_reducible apply Keeps.upd
    | rfl
    | with_reducible exact OtpKept.refl _

theorem Keeps.clearTable {a s : State} (h : Keeps a s) : Keeps a (State.clearTable s) :=
  (h.setMem (fun k => Sparse.wf_clear (fun a => decide (0x20300000 ≤ a) && decide (a < 0x20380000)) k)).upd rfl (OtpKept.refl _)

theorem Keeps.joinNow {a s : State} (h : Keeps a s) : ∀ x1, Keeps a (State.joinNow s x1) := by
  intro x1
  unfold State.joinNow; try dsimp only
  repeat' first
    | with_reducible assumption
    | with_reducible apply Keeps.clearTable
    | with_reducible apply Keeps.setHvl
    | with_reducible apply Keeps.forwardKick
    | with_reducible apply Keeps.put
    | with_reducible apply Keeps.flag
    | with_reducible apply Keeps.setPageSt
    | with_reducible apply Keeps.trainPort
    | with_reducible apply Keeps.alarmsTick
    | with_reducible apply Keeps.ite
    | with_reducible apply Keeps.upd
    | rfl
    | with_reducible exact OtpKept.refl _

theorem Keeps.assemble {a s : State} (h : Keeps a s) : ∀ x1 x2, Keeps a (State.assemble s x1 x2).2 := by
  intro x1 x2
  unfold State.assemble; try dsimp only
  repeat' first
    | with_reducible assumption
    | with_reducible apply Keeps.setHvl
    | with_reducible apply Keeps.ite
    | with_reducible apply Keeps.ite2
    | split
    | with_reducible apply Keeps.upd
    | rfl
    | with_reducible exact OtpKept.refl _

end Sys2Proof.Machine
end

