-- ==== Sys2Proof/Laws/Keeps4.lean ====
section
/-! SUPPORT. What the operations keep (Laws/Keeps.lean): Cascade, Interrupts, Flash, Ports, Clocks. -/

set_option linter.unusedTactic false
set_option linter.unreachableTactic false

namespace Sys2Proof.Machine

theorem Keeps.receive {a s : State} (h : Keeps a s) : ∀ x1, Keeps a (State.receive s x1).2 := by
  intro x1
  unfold State.receive; try dsimp only
  repeat' first
    | with_reducible assumption
    | with_reducible apply Keeps.sendChars
    | with_reducible apply Keeps.setHop
    | with_reducible apply Keeps.ite
    | with_reducible apply Keeps.ite2
    | with_reducible apply Keeps.upd
    | rfl
    | with_reducible exact OtpKept.refl _

theorem Keeps.arrive {a s : State} (h : Keeps a s) {typ : Nat} {p : Packet} {k : State → State} (g : ∀ u, Keeps a u → Keeps a (k u)) :
    Keeps a (State.arrive s typ p k) := by
  have hr : Keeps a (if p.ptype = typ then s.receive p else (false, s)).2 := by
    split
    · exact h.receive p
    · exact h
  unfold State.arrive; dsimp only
  generalize (if p.ptype = typ then s.receive p else (false, s)) = y at hr ⊢
  rcases y with ⟨_ | _, t⟩
  · exact hr
  dsimp only at hr ⊢
  repeat' first
    | with_reducible assumption
    | with_reducible apply Keeps.ite
    | refine g _ ?_
    | with_reducible apply Keeps.hopSend
    | with_reducible apply Keeps.setHop
    | with_reducible apply Keeps.endBeyond

theorem Keeps.answered {a s : State} (h : Keeps a s) : ∀ x1, Keeps a (State.answered s x1) := by
  intro x1
  unfold State.answered; try dsimp only
  repeat' first
    | with_reducible assumption
    | with_reducible apply Keeps.setHvl
    | with_reducible apply Keeps.upd
    | rfl
    | with_reducible exact OtpKept.refl _

theorem Keeps.answerLookup {a s : State} (h : Keeps a s) : ∀ x1, Keeps a (State.answerLookup s x1) := by
  intro x1
  unfold State.answerLookup; try dsimp only
  repeat' first
    | with_reducible assumption
    | with_reducible apply Keeps.reserveOut
    | with_reducible apply Keeps.setHvl
    | with_reducible apply Keeps.hvlSend
    | with_reducible apply Keeps.nbtLookup
    | with_reducible apply Keeps.remoteTarget
    | with_reducible apply Keeps.ite
    | split
    | refine Keeps.of2 (by with_reducible assumption) ?_
    | refine Keeps.of5 (by with_reducible assumption) ?_
    | with_reducible apply Keeps.upd
    | rfl
    | with_reducible exact OtpKept.refl _

theorem Keeps.returnReserve {a s : State} (h : Keeps a s) : ∀ x1 x2 x3 x4 x5, Keeps a (State.returnReserve s x1 x2 x3 x4 x5) := by
  intro x1 x2 x3 x4 x5
  unfold State.returnReserve; try dsimp only
  repeat' first
    | with_reducible assumption
    | with_reducible apply Keeps.sendVerdict
    | with_reducible apply Keeps.ite

theorem Keeps.takeReply {a s : State} (h : Keeps a s) : ∀ x1 x2, Keeps a (State.takeReply s x1 x2) := by
  intro x1 x2
  unfold State.takeReply; try dsimp only
  repeat' first
    | with_reducible assumption
    | with_reducible apply Keeps.recordLookup
    | with_reducible apply Keeps.returnReserve
    | with_reducible apply Keeps.freeVal
    | with_reducible apply Keeps.lookupLost
    | with_reducible apply Keeps.lookupDone
    | with_reducible apply Keeps.ite
    | split
    | refine Keeps.of2 (by with_reducible assumption) ?_

theorem Keeps.latency {a s : State} (h : Keeps a s) : ∀ x1, Keeps a (State.latency s x1) := by
  intro x1
  unfold State.latency; try dsimp only
  repeat' first
    | with_reducible assumption
    | with_reducible apply Keeps.put
    | with_reducible apply Keeps.flag
    | with_reducible apply Keeps.countSat
    | with_reducible apply Keeps.ite

theorem Keeps.takeFrame {a s : State} (h : Keeps a s) : ∀ x1, Keeps a (State.takeFrame s x1) := by
  intro x1
  unfold State.takeFrame; try dsimp only
  repeat' first
    | with_reducible assumption
    | with_reducible apply Keeps.queueFrame
    | with_reducible apply Keeps.setHvl
    | with_reducible apply Keeps.storeChain
    | with_reducible apply Keeps.hvlSend
    | refine Keeps.takeBlocks ?_ _ _ _ _ (by with_reducible assumption)
    | with_reducible apply Keeps.freeAll
    | with_reducible apply Keeps.ite
    | split
    | with_reducible apply Keeps.upd
    | rfl
    | with_reducible exact OtpKept.refl _

theorem Keeps.takeFwdAck {a s : State} (h : Keeps a s) : ∀ x1, Keeps a (State.takeFwdAck s x1) := by
  intro x1
  unfold State.takeFwdAck; try dsimp only
  repeat' first
    | with_reducible assumption
    | with_reducible apply Keeps.setHvl
    | with_reducible apply Keeps.forwardKick
    | with_reducible apply Keeps.freeAll
    | with_reducible apply Keeps.countSat
    | with_reducible apply Keeps.ite
    | split
    | with_reducible apply Keeps.upd
    | rfl
    | with_reducible exact OtpKept.refl _

theorem Keeps.sendKept {a s : State} (h : Keeps a s) : ∀ x1, Keeps a (State.sendKept s x1) := by
  intro x1
  unfold State.sendKept; try dsimp only
  repeat' first
    | with_reducible assumption
    | with_reducible apply Keeps.sendChars

theorem Keeps.resend {a s : State} (h : Keeps a s) : ∀ x1 x2, Keeps a (State.resend s x1 x2) := by
  intro x1 x2
  unfold State.resend; try dsimp only
  repeat' first
    | with_reducible assumption
    | with_reducible apply Keeps.sendChars
    | with_reducible apply Keeps.countSat
    | with_reducible apply Keeps.setHop
    | with_reducible apply Keeps.ite
    | with_reducible apply Keeps.upd
    | rfl
    | with_reducible exact OtpKept.refl _

theorem Keeps.retrain {a s : State} (h : Keeps a s) : ∀ x1, Keeps a (State.retrain s x1) := by
  intro x1
  unfold State.retrain; try dsimp only
  repeat' first
    | with_reducible assumption
    | with_reducible apply Keeps.setHop
    | with_reducible apply Keeps.upd
    | rfl
    | with_reducible exact OtpKept.refl _

theorem Keeps.sendFailed {a s : State} (h : Keeps a s) : ∀ x1 x2, Keeps a (State.sendFailed s x1 x2) := by
  intro x1 x2
  unfold State.sendFailed; try dsimp only
  repeat' first
    | with_reducible assumption
    | with_reducible apply Keeps.retrain
    | with_reducible apply Keeps.setHop
    | with_reducible apply Keeps.ite
    | split
    | with_reducible apply Keeps.upd
    | rfl
    | with_reducible exact OtpKept.refl _

theorem Keeps.execTrainingDone {a s : State} (h : Keeps a s) : ∀ x0 x1 x2, KeepsAll a (Machine.execTrainingDone x0 x1 x2 s) := by
  intro x0 x1 x2
  unfold Machine.execTrainingDone; try dsimp only
  repeat' first
    | with_reducible assumption
    | with_reducible apply Keeps.setLanes
    | with_reducible apply Keeps.stopPort
    | with_reducible apply Keeps.sendHello
    | with_reducible apply Keeps.flag
    | with_reducible apply Keeps.setPageSt
    | with_reducible apply Keeps.sendKept
    | with_reducible apply Keeps.setHop
    | with_reducible apply Keeps.ite
    | with_reducible apply KeepsAll.ite
    | with_reducible apply KeepsAll.next
    | split
    | with_reducible apply Keeps.upd
    | rfl
    | with_reducible exact OtpKept.refl _

theorem Keeps.execHello {a s : State} (h : Keeps a s) : ∀ x0, KeepsAll a (Machine.execHello x0 s) := by
  intro x0
  unfold Machine.execHello; try dsimp only
  repeat' first
    | with_reducible assumption
    | with_reducible apply Keeps.setHvl
    | with_reducible apply Keeps.hvlSend
    | with_reducible refine Keeps.arrive ?_ (fun _ _ => ?_)
    | with_reducible apply Keeps.ite
    | with_reducible apply KeepsAll.ite
    | with_reducible apply KeepsAll.next
    | with_reducible apply Keeps.upd
    | rfl
    | with_reducible exact OtpKept.refl _

theorem Keeps.execWelcome {a s : State} (h : Keeps a s) : ∀ x0, KeepsAll a (Machine.execWelcome x0 s) := by
  intro x0
  unfold Machine.execWelcome; try dsimp only
  repeat' first
    | with_reducible assumption
    | with_reducible apply Keeps.setHvl
    | with_reducible apply Keeps.put
    | with_reducible refine Keeps.arrive ?_ (fun _ _ => ?_)
    | with_reducible apply Keeps.setPageSt
    | with_reducible apply Keeps.ite
    | with_reducible apply KeepsAll.ite
    | with_reducible apply KeepsAll.next
    | with_reducible apply Keeps.upd
    | rfl
    | with_reducible exact OtpKept.refl _

theorem Keeps.execTime {a s : State} (h : Keeps a s) : ∀ x0, KeepsAll a (Machine.execTime x0 s) := by
  intro x0
  unfold Machine.execTime; try dsimp only
  repeat' first
    | with_reducible assumption
    | with_reducible apply Keeps.setHvl
    | with_reducible refine Keeps.arrive ?_ (fun _ _ => ?_)
    | with_reducible apply Keeps.ite
    | with_reducible apply KeepsAll.ite
    | with_reducible apply KeepsAll.next
    | with_reducible apply Keeps.upd
    | rfl
    | with_reducible exact OtpKept.refl _

theorem Keeps.execHvlSyncEdge {a s : State} (h : Keeps a s) : KeepsAll a (Machine.execHvlSyncEdge s) := by
  unfold Machine.execHvlSyncEdge; try dsimp only
  repeat' first
    | with_reducible assumption
    | with_reducible apply Keeps.slowCount
    | with_reducible apply Keeps.setHvl
    | with_reducible apply Keeps.ite
    | with_reducible apply KeepsAll.ite
    | with_reducible apply KeepsAll.next
    | with_reducible apply Keeps.upd
    | rfl
    | with_reducible exact OtpKept.refl _

theorem Keeps.execSyncMarker {a s : State} (h : Keeps a s) : KeepsAll a (Machine.execSyncMarker s) := by
  unfold Machine.execSyncMarker; try dsimp only
  repeat' first
    | with_reducible assumption
    | with_reducible apply Keeps.setHvl
    | with_reducible apply Keeps.syncLost
    | with_reducible apply Keeps.joinNow
    | with_reducible apply Keeps.ite
    | with_reducible apply KeepsAll.ite
    | with_reducible apply KeepsAll.next
    | split
    | with_reducible apply Keeps.upd
    | rfl
    | with_reducible exact OtpKept.refl _

theorem Keeps.execMissingEdge {a s : State} (h : Keeps a s) : KeepsAll a (Machine.execMissingEdge s) := by
  unfold Machine.execMissingEdge; try dsimp only
  repeat' first
    | with_reducible assumption
    | with_reducible apply Keeps.slowCount
    | with_reducible apply Keeps.setHvl
    | with_reducible apply Keeps.syncLost
    | with_reducible apply Keeps.countSat
    | with_reducible apply Keeps.ite
    | with_reducible apply KeepsAll.ite
    | with_reducible apply KeepsAll.next
    | with_reducible apply Keeps.upd
    | rfl
    | with_reducible exact OtpKept.refl _

theorem Keeps.execHvlLookup {a s : State} (h : Keeps a s) : ∀ x0, KeepsAll a (Machine.execHvlLookup x0 s) := by
  intro x0
  unfold Machine.execHvlLookup; try dsimp only
  repeat' first
    | with_reducible assumption
    | with_reducible apply Keeps.answerLookup
    | with_reducible refine Keeps.arrive ?_ (fun _ _ => ?_)
    | with_reducible apply KeepsAll.next

theorem Keeps.execReply {a s : State} (h : Keeps a s) : ∀ x0 x1, KeepsAll a (Machine.execReply x0 x1 s) := by
  intro x0 x1
  unfold Machine.execReply; try dsimp only
  repeat' first
    | with_reducible assumption
    | with_reducible apply Keeps.answered
    | with_reducible apply Keeps.latency
    | with_reducible apply Keeps.takeReply
    | with_reducible refine Keeps.arrive ?_ (fun _ _ => ?_)
    | with_reducible apply KeepsAll.next
    | split

theorem Keeps.execVerdict {a s : State} (h : Keeps a s) : ∀ x0, KeepsAll a (Machine.execVerdict x0 s) := by
  intro x0
  unfold Machine.execVerdict; try dsimp only
  repeat' first
    | with_reducible assumption
    | with_reducible apply Keeps.applyVerdict
    | with_reducible apply Keeps.setHvl
    | with_reducible refine Keeps.arrive ?_ (fun _ _ => ?_)
    | with_reducible apply Keeps.ite
    | with_reducible apply KeepsAll.ite
    | with_reducible apply KeepsAll.next
    | with_reducible apply Keeps.upd
    | rfl
    | with_reducible exact OtpKept.refl _

theorem Keeps.execNbtCmd {a s : State} (h : Keeps a s) : ∀ x0, KeepsAll a (Machine.execNbtCmd x0 s) := by
  intro x0
  unfold Machine.execNbtCmd; try dsimp only
  repeat' first
    | with_reducible assumption
    | with_reducible apply Keeps.sendParts
    | with_reducible apply Keeps.nbtExec
    | with_reducible refine Keeps.arrive ?_ (fun _ _ => ?_)
    | with_reducible apply Keeps.assemble
    | with_reducible apply Keeps.ite
    | with_reducible apply KeepsAll.ite
    | with_reducible apply KeepsAll.next
    | split
    | refine Keeps.of2 (by with_reducible assumption) ?_
    | refine Keeps.of5 (by with_reducible assumption) ?_

theorem Keeps.execNbtRes {a s : State} (h : Keeps a s) : ∀ x0, KeepsAll a (Machine.execNbtRes x0 s) := by
  intro x0
  unfold Machine.execNbtRes; try dsimp only
  repeat' first
    | with_reducible assumption
    | with_reducible apply Keeps.entryGone
    | with_reducible apply Keeps.answered
    | with_reducible apply Keeps.nbtComplete
    | with_reducible refine Keeps.arrive ?_ (fun _ _ => ?_)
    | with_reducible apply Keeps.assemble
    | with_reducible apply Keeps.ite
    | with_reducible apply KeepsAll.ite
    | with_reducible apply KeepsAll.next
    | split
    | refine Keeps.of2 (by with_reducible assumption) ?_

theorem Keeps.execEntry {a s : State} (h : Keeps a s) : ∀ x0, KeepsAll a (Machine.execEntry x0 s) := by
  intro x0
  unfold Machine.execEntry; try dsimp only
  repeat' first
    | with_reducible assumption
    | with_reducible apply Keeps.sendParts
    | with_reducible apply Keeps.entCmd
    | with_reducible refine Keeps.arrive ?_ (fun _ _ => ?_)
    | with_reducible apply Keeps.assemble
    | with_reducible apply Keeps.ite
    | with_reducible apply KeepsAll.ite
    | with_reducible apply KeepsAll.next
    | split
    | refine Keeps.of2 (by with_reducible assumption) ?_
    | refine Keeps.of3 (by with_reducible assumption) ?_

theorem Keeps.execEntryRes {a s : State} (h : Keeps a s) : ∀ x0, KeepsAll a (Machine.execEntryRes x0 s) := by
  intro x0
  unfold Machine.execEntryRes; try dsimp only
  repeat' first
    | with_reducible assumption
    | with_reducible apply Keeps.answered
    | with_reducible apply Keeps.setRegI
    | with_reducible refine Keeps.arrive ?_ (fun _ _ => ?_)
    | with_reducible apply Keeps.stage
    | with_reducible apply Keeps.assemble
    | with_reducible apply Keeps.ite
    | with_reducible apply KeepsAll.ite
    | with_reducible apply KeepsAll.next
    | split
    | refine Keeps.of2 (by with_reducible assumption) ?_

theorem Keeps.execFrame {a s : State} (h : Keeps a s) : ∀ x0, KeepsAll a (Machine.execFrame x0 s) := by
  intro x0
  unfold Machine.execFrame; try dsimp only
  repeat' first
    | with_reducible assumption
    | with_reducible apply Keeps.takeFrame
    | with_reducible refine Keeps.arrive ?_ (fun _ _ => ?_)
    | with_reducible apply Keeps.ite
    | with_reducible apply KeepsAll.ite
    | with_reducible apply KeepsAll.next

theorem Keeps.execFwdAck {a s : State} (h : Keeps a s) : ∀ x0, KeepsAll a (Machine.execFwdAck x0 s) := by
  intro x0
  unfold Machine.execFwdAck; try dsimp only
  repeat' first
    | with_reducible assumption
    | with_reducible apply Keeps.takeFwdAck
    | with_reducible refine Keeps.arrive ?_ (fun _ _ => ?_)
    | with_reducible apply KeepsAll.next

theorem Keeps.execForwardResend {a s : State} (h : Keeps a s) : KeepsAll a (Machine.execForwardResend s) := by
  unfold Machine.execForwardResend; try dsimp only
  repeat' first
    | with_reducible assumption
    | with_reducible apply Keeps.forwardSend
    | with_reducible apply Keeps.ite
    | with_reducible apply KeepsAll.ite
    | with_reducible apply KeepsAll.next

theorem Keeps.execLinkDown {a s : State} (h : Keeps a s) : ∀ x0, KeepsAll a (Machine.execLinkDown x0 s) := by
  intro x0
  unfold Machine.execLinkDown; try dsimp only
  repeat' first
    | with_reducible assumption
    | with_reducible refine Keeps.arrive ?_ (fun _ _ => ?_)
    | with_reducible apply Keeps.membersLost
    | with_reducible apply Keeps.ite
    | with_reducible apply KeepsAll.ite
    | with_reducible apply KeepsAll.next

theorem Keeps.execPacketAck {a s : State} (h : Keeps a s) : ∀ x0 x1, KeepsAll a (Machine.execPacketAck x0 x1 s) := by
  intro x0 x1
  unfold Machine.execPacketAck; try dsimp only
  repeat' first
    | with_reducible assumption
    | with_reducible apply Keeps.setHvl
    | with_reducible apply Keeps.setHop
    | with_reducible apply Keeps.ite
    | with_reducible apply KeepsAll.ite
    | with_reducible apply KeepsAll.next
    | split
    | with_reducible apply Keeps.upd
    | rfl
    | with_reducible exact OtpKept.refl _

theorem Keeps.execPacketNak {a s : State} (h : Keeps a s) : ∀ x0 x1, KeepsAll a (Machine.execPacketNak x0 x1 s) := by
  intro x0 x1
  unfold Machine.execPacketNak; try dsimp only
  repeat' first
    | with_reducible assumption
    | with_reducible apply Keeps.sendFailed
    | with_reducible apply Keeps.ite
    | with_reducible apply KeepsAll.ite
    | with_reducible apply KeepsAll.next

theorem Keeps.badCopy {a s : State} (h : Keeps a s) : ∀ x1, Keeps a (State.badCopy s x1) := by
  intro x1
  unfold State.badCopy; try dsimp only
  repeat' first
    | with_reducible assumption
    | with_reducible apply Keeps.sendChars
    | with_reducible apply Keeps.ite
    | with_reducible apply Keeps.upd
    | rfl
    | with_reducible exact OtpKept.refl _

theorem Keeps.execPacketCrcFail {a s : State} (h : Keeps a s) : ∀ x0 x1 x2, KeepsAll a (Machine.execPacketCrcFail x0 x1 x2 s) := by
  intro x0 x1 x2
  unfold Machine.execPacketCrcFail; try dsimp only
  repeat' first
    | with_reducible assumption
    | with_reducible apply Keeps.sendChars
    | with_reducible apply Keeps.reportFault
    | with_reducible apply Keeps.badCopy
    | with_reducible apply Keeps.flag
    | with_reducible apply Keeps.laneEffect
    | with_reducible apply Keeps.countSat
    | with_reducible apply Keeps.setHop
    | with_reducible apply Keeps.ite
    | with_reducible apply KeepsAll.ite
    | with_reducible apply KeepsAll.next
    | with_reducible apply Keeps.upd
    | rfl
    | with_reducible exact OtpKept.refl _

theorem Keeps.execResendTimeout {a s : State} (h : Keeps a s) : ∀ x0 x1, KeepsAll a (Machine.execResendTimeout x0 x1 s) := by
  intro x0 x1
  unfold Machine.execResendTimeout; try dsimp only
  repeat' first
    | with_reducible assumption
    | with_reducible apply Keeps.resend
    | with_reducible apply Keeps.sendFailed
    | with_reducible apply Keeps.ite
    | with_reducible apply KeepsAll.ite
    | with_reducible apply KeepsAll.next
    | split

theorem Keeps.execRetrainDone {a s : State} (h : Keeps a s) : ∀ x0 x1, KeepsAll a (Machine.execRetrainDone x0 x1 s) := by
  intro x0 x1
  unfold Machine.execRetrainDone; try dsimp only
  repeat' first
    | with_reducible assumption
    | with_reducible apply Keeps.setLanes
    | with_reducible apply Keeps.hopDown
    | with_reducible apply Keeps.sendKept
    | with_reducible apply Keeps.countSat
    | with_reducible apply Keeps.setHop
    | with_reducible refine Keeps.foldl ?_ (fun _ _ _ => ?_)
    | with_reducible refine Keeps.foldl2 ?_ (fun _ _ _ => ?_)
    | with_reducible apply Keeps.ite
    | with_reducible apply KeepsAll.ite
    | with_reducible apply KeepsAll.next
    | with_reducible apply Keeps.upd
    | rfl
    | with_reducible exact OtpKept.refl _

theorem Keeps.execHopDown {a s : State} (h : Keeps a s) : ∀ x0, KeepsAll a (Machine.execHopDown x0 s) := by
  intro x0
  unfold Machine.execHopDown; try dsimp only
  repeat' first
    | with_reducible assumption
    | with_reducible apply Keeps.hopDown
    | with_reducible apply Keeps.ite
    | with_reducible apply KeepsAll.ite
    | with_reducible apply KeepsAll.next

theorem Keeps.execPrbsTestDone {a s : State} (h : Keeps a s) : ∀ x0 x1 x2, KeepsAll a (Machine.execPrbsTestDone x0 x1 x2 s) := by
  intro x0 x1 x2
  unfold Machine.execPrbsTestDone; try dsimp only
  repeat' first
    | with_reducible assumption
    | with_reducible apply Keeps.reportFault
    | with_reducible apply Keeps.setFaultTimes
    | with_reducible apply Keeps.laneEffect
    | with_reducible apply Keeps.setHop
    | with_reducible apply Keeps.ite
    | with_reducible apply KeepsAll.ite
    | with_reducible apply KeepsAll.next
    | with_reducible apply Keeps.upd
    | rfl
    | with_reducible exact OtpKept.refl _

theorem Keeps.execNoTimeWithin16Ms {a s : State} (h : Keeps a s) : KeepsAll a (Machine.execNoTimeWithin16Ms s) := by
  unfold Machine.execNoTimeWithin16Ms; try dsimp only
  repeat' first
    | with_reducible assumption
    | with_reducible apply Keeps.put
    | with_reducible apply Keeps.ite
    | with_reducible apply KeepsAll.ite
    | with_reducible apply KeepsAll.next

theorem Keeps.execReservedTypePacket {a s : State} (h : Keeps a s) : ∀ x0, KeepsAll a (Machine.execReservedTypePacket x0 s) := by
  intro x0
  unfold Machine.execReservedTypePacket; try dsimp only
  repeat' first
    | with_reducible assumption
    | with_reducible apply Keeps.receive
    | with_reducible apply Keeps.countSat
    | with_reducible apply Keeps.ite
    | with_reducible apply KeepsAll.ite
    | with_reducible apply KeepsAll.next
    | split
    | refine Keeps.of2 (by with_reducible assumption) ?_

theorem Keeps.icuClaim {a s : State} (h : Keeps a s) : ∀ x1, Keeps a (State.icuClaim s x1).2 := by
  intro x1
  unfold State.icuClaim; try dsimp only
  repeat' first
    | with_reducible assumption
    | with_reducible apply Keeps.ite
    | with_reducible apply Keeps.ite2
    | split
    | with_reducible apply Keeps.upd
    | rfl
    | with_reducible exact OtpKept.refl _

theorem Keeps.icuComplete {a s : State} (h : Keeps a s) : ∀ x1 x2, Keeps a (State.icuComplete s x1 x2) := by
  intro x1 x2
  unfold State.icuComplete; try dsimp only
  repeat' first
    | with_reducible assumption
    | with_reducible apply Keeps.ite
    | split
    | with_reducible apply Keeps.upd
    | rfl
    | with_reducible exact OtpKept.refl _

theorem Keeps.dropLines {a s : State} (h : Keeps a s) : ∀ x1, Keeps a (State.dropLines s x1) := by
  intro x1
  unfold State.dropLines; try dsimp only
  repeat' first
    | with_reducible assumption
    | with_reducible apply Keeps.upd
    | rfl
    | with_reducible exact OtpKept.refl _

theorem Keeps.dropRange {a s : State} (h : Keeps a s) : ∀ x1 x2, Keeps a (State.dropRange s x1 x2) := by
  intro x1 x2
  unfold State.dropRange; try dsimp only
  repeat' first
    | with_reducible assumption
    | with_reducible apply Keeps.dropLines

theorem Keeps.cacheInvWrite {a s : State} (h : Keeps a s) : ∀ x1 x2, Keeps a (State.cacheInvWrite s x1 x2) := by
  intro x1 x2
  unfold State.cacheInvWrite; try dsimp only
  repeat' first
    | with_reducible assumption
    | with_reducible apply Keeps.dropLines
    | with_reducible apply Keeps.ite
    | split

theorem Keeps.cacheFill {a s : State} (h : Keeps a s) : ∀ x1 x2 x3, Keeps a (State.cacheFill s x1 x2 x3) := by
  intro x1 x2 x3
  unfold State.cacheFill; try dsimp only
  repeat' first
    | with_reducible assumption
    | with_reducible apply Keeps.dropLines
    | with_reducible apply Keeps.freeVal
    | with_reducible apply Keeps.ite
    | split
    | refine Keeps.of2 (by with_reducible assumption) ?_
    | with_reducible apply Keeps.upd
    | rfl
    | with_reducible exact OtpKept.refl _

theorem Keeps.mboxWrite {a s : State} (h : Keeps a s) : ∀ x1 x2 x3, Keeps a (State.mboxWrite s x1 x2 x3) := by
  intro x1 x2 x3
  unfold State.mboxWrite; try dsimp only
  repeat' first
    | with_reducible assumption
    | with_reducible apply Keeps.flag
    | with_reducible apply Keeps.ite
    | with_reducible apply Keeps.upd
    | rfl
    | with_reducible exact OtpKept.refl _

theorem Keeps.mboxRead {a s : State} (h : Keeps a s) : ∀ x1 x2, Keeps a (State.mboxRead s x1 x2).2 := by
  intro x1 x2
  unfold State.mboxRead; try dsimp only
  repeat' first
    | with_reducible assumption
    | with_reducible apply Keeps.flag
    | with_reducible apply Keeps.ite
    | with_reducible apply Keeps.ite2
    | split
    | with_reducible apply Keeps.upd
    | rfl
    | with_reducible exact OtpKept.refl _

theorem Keeps.icuRead {a s : State} (h : Keeps a s) : ∀ x1 x2 x3, Keeps a (State.icuRead s x1 x2 x3).2 := by
  intro x1 x2 x3
  unfold State.icuRead; try dsimp only
  repeat' first
    | with_reducible assumption
    | with_reducible apply Keeps.mboxRead
    | with_reducible apply Keeps.icuClaim
    | with_reducible apply Keeps.ite
    | with_reducible apply Keeps.ite2
    | refine Keeps.of2 (by with_reducible assumption) ?_

theorem Keeps.icuWrite {a s : State} (h : Keeps a s) : ∀ x1 x2 x3, Keeps a (State.icuWrite s x1 x2 x3) := by
  intro x1 x2 x3
  unfold State.icuWrite; try dsimp only
  repeat' first
    | with_reducible assumption
    | with_reducible apply Keeps.mboxWrite
    | with_reducible apply Keeps.cacheInvWrite
    | with_reducible apply Keeps.icuComplete
    | with_reducible apply Keeps.ite

theorem Keeps.icuRestart {a s : State} (h : Keeps a s) : ∀ x1, Keeps a (State.icuRestart s x1) := by
  intro x1
  unfold State.icuRestart; try dsimp only
  repeat' first
    | with_reducible assumption
    | with_reducible apply Keeps.dropLines
    | with_reducible apply Keeps.ite
    | with_reducible apply Keeps.upd
    | rfl
    | with_reducible exact OtpKept.refl _

theorem Keeps.hartsSet {a s : State} (h : Keeps a s) : ∀ x1 x2, Keeps a (Machine.hartsSet s x1 x2) := by
  intro x1 x2
  unfold Machine.hartsSet; try dsimp only
  repeat' first
    | with_reducible assumption
    | with_reducible apply Keeps.put
    | with_reducible apply Keeps.ite

theorem Keeps.execDebugHalt {a s : State} (h : Keeps a s) : ∀ x0, KeepsAll a (Machine.execDebugHalt x0 s) := by
  intro x0
  unfold Machine.execDebugHalt; try dsimp only
  repeat' first
    | with_reducible assumption
    | with_reducible apply Keeps.connected
    | with_reducible apply Keeps.hartsSet
    | with_reducible apply Keeps.ite
    | with_reducible apply KeepsAll.ite
    | with_reducible apply KeepsAll.next

theorem Keeps.execDebugResume {a s : State} (h : Keeps a s) : ∀ x0, KeepsAll a (Machine.execDebugResume x0 s) := by
  intro x0
  unfold Machine.execDebugResume; try dsimp only
  repeat' first
    | with_reducible assumption
    | with_reducible apply Keeps.connected
    | with_reducible apply Keeps.hartsSet
    | with_reducible apply Keeps.ite
    | with_reducible apply KeepsAll.ite
    | with_reducible apply KeepsAll.next

theorem Keeps.setFlash {a s : State} (h : Keeps a s) : ∀ x1, Keeps a (State.setFlash s x1) := by
  intro x1
  unfold State.setFlash; try dsimp only
  repeat' first
    | with_reducible assumption
    | with_reducible apply Keeps.upd
    | rfl
    | with_reducible exact OtpKept.refl _

theorem Keeps.clearRange {a s : State} (h : Keeps a s) : ∀ x n, Keeps a (State.clearRange s x n) := fun x n =>
  (h.setMem (fun k => Sparse.wf_filter (fun c => !(decide (x ≤ c.1) && decide (c.1 < x + n))) k)).upd rfl (OtpKept.refl _)

theorem Keeps.flashNat {a s : State} (h : Keeps a s) : ∀ x1 x2, Keeps a (State.flashNat s x1 x2).2 := by
  intro x1 x2
  unfold State.flashNat; try dsimp only
  repeat' first
    | with_reducible assumption
    | with_reducible apply Keeps.freeVal
    | with_reducible apply Keeps.ite
    | with_reducible apply Keeps.ite2
    | split
    | refine Keeps.of2 (by with_reducible assumption) ?_

theorem Keeps.flashBytes {a s : State} (h : Keeps a s) : ∀ x1 x2, Keeps a (State.flashBytes s x1 x2).2 := by
  intro x1 x2
  unfold State.flashBytes; try dsimp only
  repeat' first
    | with_reducible assumption
    | with_reducible apply Keeps.freeVal
    | with_reducible refine Keeps.foldl ?_ (fun _ _ _ => ?_)
    | with_reducible refine Keeps.foldl2 ?_ (fun _ _ _ => ?_)
    | with_reducible apply Keeps.ite
    | with_reducible apply Keeps.ite2
    | split
    | refine Keeps.of2 (by with_reducible assumption) ?_

theorem Keeps.prefetchEmpty {a s : State} (h : Keeps a s) : ∀ x1, Keeps a (State.prefetchEmpty s x1) := by
  intro x1
  unfold State.prefetchEmpty; try dsimp only
  repeat' first
    | with_reducible assumption
    | with_reducible apply Keeps.setFlash
    | with_reducible apply Keeps.upd
    | rfl
    | with_reducible exact OtpKept.refl _

theorem Keeps.prefetchNext {a s : State} (h : Keeps a s) : ∀ x1, Keeps a (State.prefetchNext s x1) := by
  intro x1
  unfold State.prefetchNext; try dsimp only
  repeat' first
    | with_reducible assumption
    | with_reducible apply Keeps.setFlash
    | with_reducible apply Keeps.ite
    | with_reducible apply Keeps.upd
    | rfl
    | with_reducible exact OtpKept.refl _

theorem Keeps.eraseSector {a s : State} (h : Keeps a s) : ∀ x1, Keeps a (State.eraseSector s x1) := by
  intro x1
  unfold State.eraseSector; try dsimp only
  repeat' first
    | with_reducible assumption
    | with_reducible apply Keeps.clearRange
    | with_reducible apply Keeps.setFlash
    | with_reducible apply Keeps.upd
    | rfl
    | with_reducible exact OtpKept.refl _

theorem Keeps.openBytes {a s : State} (h : Keeps a s) : ∀ x1 x2, Keeps a (State.openBytes s x1 x2) := by
  intro x1 x2
  unfold State.openBytes; try dsimp only
  repeat' first
    | with_reducible assumption
    | with_reducible apply Keeps.freeVal
    | with_reducible apply Keeps.setByte
    | with_reducible refine Keeps.foldl ?_ (fun _ _ _ => ?_)
    | with_reducible refine Keeps.foldl2 ?_ (fun _ _ _ => ?_)
    | split
    | refine Keeps.of2 (by with_reducible assumption) ?_

theorem Keeps.programUnit {a s : State} (h : Keeps a s) : ∀ x1 x2, Keeps a (State.programUnit s x1 x2) := by
  intro x1 x2
  unfold State.programUnit; try dsimp only
  repeat' first
    | with_reducible assumption
    | with_reducible apply Keeps.setBytes
    | with_reducible apply Keeps.openBytes
    | with_reducible apply Keeps.ite

theorem Keeps.programBytes {a s : State} (h : Keeps a s) : ∀ x1 x2, Keeps a (State.programBytes s x1 x2) := by
  intro x1 x2
  unfold State.programBytes; try dsimp only
  repeat' first
    | with_reducible assumption
    | with_reducible apply Keeps.programUnit
    | with_reducible refine Keeps.foldl ?_ (fun _ _ _ => ?_)
    | with_reducible refine Keeps.foldl2 ?_ (fun _ _ _ => ?_)

theorem Keeps.flashCorrected {a s : State} (h : Keeps a s) : ∀ x1, Keeps a (State.flashCorrected s x1) := by
  intro x1
  unfold State.flashCorrected; try dsimp only
  repeat' first
    | with_reducible assumption
    | with_reducible apply Keeps.event
    | with_reducible apply Keeps.reportFault
    | with_reducible apply Keeps.faultLog
    | with_reducible apply Keeps.flag
    | with_reducible apply Keeps.ite
    | with_reducible apply Keeps.upd
    | rfl
    | with_reducible exact OtpKept.refl _

theorem Keeps.flcStat {a s : State} (h : Keeps a s) : Keeps a (State.flcStat s) := by
  unfold State.flcStat; try dsimp only
  repeat' first
    | with_reducible assumption
    | with_reducible apply Keeps.put
    | with_reducible apply Keeps.setPageSt
    | with_reducible apply Keeps.ite
    | split

theorem Keeps.slotPut {a s : State} (h : Keeps a s) : ∀ x1 x2 x3 x4, Keeps a (State.slotPut s x1 x2 x3 x4) := by
  intro x1 x2 x3 x4
  unfold State.slotPut; try dsimp only
  repeat' first
    | with_reducible assumption
    | with_reducible apply Keeps.put

theorem Keeps.flcSubmit {a s : State} (h : Keeps a s) : ∀ x1, Keeps a (State.flcSubmit s x1).2 := by
  intro x1
  unfold State.flcSubmit; try dsimp only
  repeat' first
    | with_reducible assumption
    | with_reducible apply Keeps.flcStat
    | with_reducible apply Keeps.setReg
    | with_reducible apply Keeps.setFlash
    | with_reducible apply Keeps.ite
    | with_reducible apply Keeps.ite2
    | split
    | with_reducible apply Keeps.upd
    | rfl
    | with_reducible exact OtpKept.refl _

theorem Keeps.slotDone {a s : State} (h : Keeps a s) : ∀ x1 x2 x3 x4 x5, Keeps a (State.slotDone s x1 x2 x3 x4 x5) := by
  intro x1 x2 x3 x4 x5
  unfold State.slotDone; try dsimp only
  repeat' first
    | with_reducible assumption
    | with_reducible apply Keeps.slotPut
    | with_reducible apply Keeps.event
    | with_reducible apply Keeps.setFlash
    | with_reducible apply Keeps.flag
    | with_reducible apply Keeps.ite
    | with_reducible apply Keeps.upd
    | rfl
    | with_reducible exact OtpKept.refl _

theorem Keeps.flcDone {a s : State} (h : Keeps a s) : ∀ x1, Keeps a (State.flcDone s x1).2 := by
  intro x1
  unfold State.flcDone; try dsimp only
  repeat' first
    | with_reducible assumption
    | with_reducible apply Keeps.slotPut
    | with_reducible apply Keeps.setRegI
    | with_reducible apply Keeps.setFlash
    | with_reducible apply Keeps.ite
    | with_reducible apply Keeps.ite2
    | split
    | with_reducible apply Keeps.upd
    | rfl
    | with_reducible exact OtpKept.refl _

theorem Keeps.flcActivate {a s : State} (h : Keeps a s) : ∀ x1, Keeps a (State.flcActivate s x1) := by
  intro x1
  unfold State.flcActivate; try dsimp only
  repeat' first
    | with_reducible assumption
    | with_reducible apply Keeps.flcStat
    | with_reducible apply Keeps.prefetchEmpty
    | with_reducible apply Keeps.slotPut
    | with_reducible apply Keeps.dropRange
    | with_reducible apply Keeps.setFlash
    | with_reducible apply Keeps.ite
    | split
    | with_reducible apply Keeps.upd
    | rfl
    | with_reducible exact OtpKept.refl _

theorem Keeps.setOp {a s : State} (h : Keeps a s) : ∀ x1, Keeps a (State.setOp s x1) := by
  intro x1
  unfold State.setOp; try dsimp only
  repeat' first
    | with_reducible assumption
    | with_reducible apply Keeps.setFlash
    | with_reducible apply Keeps.upd
    | rfl
    | with_reducible exact OtpKept.refl _

theorem Keeps.programMore {a s : State} (h : Keeps a s) : ∀ n, Keeps a (State.programMore s n) := by
  intro n
  induction n generalizing s
  case zero => exact h
  case succ n ih =>
    unfold State.programMore
    split
    · dsimp only
      repeat' first
        | with_reducible assumption
        | with_reducible apply Keeps.ite
        | with_reducible apply Keeps.setOp
        | with_reducible apply Keeps.setReg
        | with_reducible apply Keeps.faultRange
        | with_reducible apply Keeps.programUnit
        | with_reducible apply ih
        | split
    · exact h

theorem Keeps.readMore {a s : State} (h : Keeps a s) : ∀ w n, Keeps a (State.readMore s w n) := by
  intro w n
  induction n generalizing s
  case zero => exact h
  case succ n ih =>
    unfold State.readMore
    split
    · dsimp only
      repeat' first
        | with_reducible assumption
        | with_reducible apply Keeps.ite
        | with_reducible apply Keeps.setOp
        | with_reducible apply Keeps.setReg
        | with_reducible apply Keeps.setMemNat
        | with_reducible apply Keeps.setBytes
        | with_reducible apply Keeps.reportFault
        | with_reducible apply Keeps.faultRange
        | with_reducible apply Keeps.flashCorrected
        | with_reducible apply Keeps.flashBytes
        | with_reducible apply ih
        | split
        | refine Keeps.of2 (by with_reducible assumption) ?_
    · exact h

theorem Keeps.eraseEnd {a s : State} (h : Keeps a s) : Keeps a (State.eraseEnd s) := by
  unfold State.eraseEnd; try dsimp only
  repeat' first
    | with_reducible assumption
    | with_reducible apply Keeps.setOp
    | with_reducible apply Keeps.eraseSector
    | split
    | with_reducible apply Keeps.upd
    | rfl
    | with_reducible exact OtpKept.refl _

theorem Keeps.flcSafePoint {a s : State} (h : Keeps a s) : ∀ x1, Keeps a (State.flcSafePoint s x1) := by
  intro x1
  unfold State.flcSafePoint; try dsimp only
  repeat' first
    | with_reducible assumption
    | with_reducible apply Keeps.flcStat
    | with_reducible apply Keeps.setOp
    | with_reducible apply Keeps.prefetchEmpty
    | with_reducible apply Keeps.programMore
    | with_reducible apply Keeps.readMore
    | with_reducible apply Keeps.put
    | with_reducible apply Keeps.setFlash
    | with_reducible apply Keeps.ite
    | split
    | with_reducible apply Keeps.upd
    | rfl
    | with_reducible exact OtpKept.refl _

theorem Keeps.flcReadBusy {a s : State} (h : Keeps a s) : Keeps a (State.flcReadBusy s) := by
  unfold State.flcReadBusy; try dsimp only
  repeat' first
    | with_reducible assumption
    | with_reducible apply Keeps.setFlash
    | with_reducible apply Keeps.ite
    | with_reducible apply Keeps.upd
    | rfl
    | with_reducible exact OtpKept.refl _

theorem Keeps.flcResume {a s : State} (h : Keeps a s) : Keeps a (State.flcResume s) := by
  unfold State.flcResume; try dsimp only
  repeat' first
    | with_reducible assumption
    | with_reducible apply Keeps.flcStat
    | with_reducible apply Keeps.setFlash
    | with_reducible apply Keeps.ite
    | with_reducible apply Keeps.upd
    | rfl
    | with_reducible exact OtpKept.refl _

theorem Keeps.flcCtrl {a s : State} (h : Keeps a s) : ∀ x1, Keeps a (State.flcCtrl s x1) := by
  intro x1
  unfold State.flcCtrl; try dsimp only
  repeat' first
    | with_reducible assumption
    | with_reducible apply Keeps.slotDone
    | with_reducible apply Keeps.flcStat
    | with_reducible apply Keeps.setOp
    | with_reducible apply Keeps.put
    | with_reducible apply Keeps.setFlash
    | with_reducible apply Keeps.flcResume
    | with_reducible refine Keeps.foldl ?_ (fun _ _ _ => ?_)
    | with_reducible refine Keeps.foldl2 ?_ (fun _ _ _ => ?_)
    | with_reducible apply Keeps.ite
    | split
    | with_reducible apply Keeps.upd
    | rfl
    | with_reducible exact OtpKept.refl _

theorem Keeps.flcComplete {a s : State} (h : Keeps a s) : ∀ x1, Keeps a (State.flcComplete s x1) := by
  intro x1
  unfold State.flcComplete; try dsimp only
  repeat' first
    | with_reducible assumption
    | with_reducible apply Keeps.slotDone
    | with_reducible apply Keeps.flcStat
    | with_reducible apply Keeps.setReg
    | with_reducible apply Keeps.setFlash
    | with_reducible apply Keeps.ite
    | split
    | with_reducible apply Keeps.upd
    | rfl
    | with_reducible exact OtpKept.refl _

theorem Keeps.flcInterrupt {a s : State} (h : Keeps a s) : ∀ x1, Keeps a (State.flcInterrupt s x1) := by
  intro x1
  unfold State.flcInterrupt; try dsimp only
  repeat' first
    | with_reducible assumption
    | with_reducible apply Keeps.programMore
    | with_reducible apply Keeps.setReg
    | with_reducible apply Keeps.openBytes
    | with_reducible apply Keeps.ite
    | split

theorem Keeps.flcRead {a s : State} (h : Keeps a s) : ∀ x1 x2 x3, Keeps a (State.flcRead s x1 x2 x3).2 := by
  intro x1 x2 x3
  unfold State.flcRead; try dsimp only
  repeat' first
    | with_reducible assumption
    | with_reducible apply Keeps.flcDone
    | with_reducible apply Keeps.flcSubmit
    | with_reducible apply Keeps.ite
    | with_reducible apply Keeps.ite2
    | refine Keeps.of2 (by with_reducible assumption) ?_

theorem Keeps.execProgram {a s : State} (h : Keeps a s) : ∀ x0, KeepsAll a (Machine.execProgram x0 s) := by
  intro x0
  unfold Machine.execProgram; try dsimp only
  repeat' first
    | with_reducible assumption
    | with_reducible apply Keeps.flcActivate
    | with_reducible apply Keeps.programMore
    | with_reducible apply Keeps.ite
    | with_reducible apply KeepsAll.ite
    | with_reducible apply KeepsAll.next

theorem Keeps.execErase {a s : State} (h : Keeps a s) : ∀ x0, KeepsAll a (Machine.execErase x0 s) := by
  intro x0
  unfold Machine.execErase; try dsimp only
  repeat' first
    | with_reducible assumption
    | with_reducible apply Keeps.flcActivate
    | with_reducible apply Keeps.eraseEnd
    | with_reducible apply Keeps.ite
    | with_reducible apply KeepsAll.ite
    | with_reducible apply KeepsAll.next

theorem Keeps.execReadback {a s : State} (h : Keeps a s) : ∀ x0 x1, KeepsAll a (Machine.execReadback x0 x1 s) := by
  intro x0 x1
  unfold Machine.execReadback; try dsimp only
  repeat' first
    | with_reducible assumption
    | with_reducible apply Keeps.flcActivate
    | with_reducible apply Keeps.readMore
    | with_reducible apply Keeps.ite
    | with_reducible apply KeepsAll.ite
    | with_reducible apply KeepsAll.next

theorem Keeps.execAutoResume {a s : State} (h : Keeps a s) : KeepsAll a (Machine.execAutoResume s) := by
  unfold Machine.execAutoResume; try dsimp only
  repeat' first
    | with_reducible assumption
    | with_reducible apply Keeps.put
    | with_reducible apply Keeps.flcResume
    | with_reducible apply Keeps.ite
    | with_reducible apply KeepsAll.ite
    | with_reducible apply KeepsAll.next

theorem Keeps.setSpt {a s : State} (h : Keeps a s) : ∀ x1 x2, Keeps a (State.setSpt s x1 x2) := by
  intro x1 x2
  unfold State.setSpt; try dsimp only
  repeat' first
    | with_reducible assumption
    | with_reducible apply Keeps.upd
    | rfl
    | with_reducible exact OtpKept.refl _

theorem Keeps.setPf {a s : State} (h : Keeps a s) : ∀ x1, Keeps a (State.setPf s x1) := by
  intro x1
  unfold State.setPf; try dsimp only
  repeat' first
    | with_reducible assumption
    | with_reducible apply Keeps.upd
    | rfl
    | with_reducible exact OtpKept.refl _

theorem Keeps.sptStat {a s : State} (h : Keeps a s) : ∀ x1, Keeps a (State.sptStat s x1) := by
  intro x1
  unfold State.sptStat; try dsimp only
  repeat' first
    | with_reducible assumption
    | with_reducible apply Keeps.put
    | with_reducible apply Keeps.setPageSt
    | with_reducible apply Keeps.ite

theorem Keeps.sptLine {a s : State} (h : Keeps a s) : ∀ x1 x2, Keeps a (State.sptLine s x1 x2) := by
  intro x1 x2
  unfold State.sptLine; try dsimp only
  repeat' first
    | with_reducible assumption
    | with_reducible apply Keeps.setSpt
    | with_reducible apply Keeps.upd
    | rfl
    | with_reducible exact OtpKept.refl _

theorem Keeps.setCont {a s : State} (h : Keeps a s) : ∀ x1 x2, Keeps a (State.setCont s x1 x2) := by
  intro x1 x2
  unfold State.setCont; try dsimp only
  repeat' first
    | with_reducible assumption
    | with_reducible apply Keeps.setSpt
    | with_reducible apply Keeps.put
    | with_reducible apply Keeps.upd
    | rfl
    | with_reducible exact OtpKept.refl _

theorem Keeps.leaveCont {a s : State} (h : Keeps a s) : ∀ x1 x2, Keeps a (State.leaveCont s x1 x2) := by
  intro x1 x2
  unfold State.leaveCont; try dsimp only
  repeat' first
    | with_reducible assumption
    | with_reducible apply Keeps.setSpt
    | with_reducible apply Keeps.setCont
    | with_reducible apply Keeps.sptLine
    | with_reducible apply Keeps.ite
    | with_reducible apply Keeps.upd
    | rfl
    | with_reducible exact OtpKept.refl _

theorem Keeps.sendRead {a s : State} (h : Keeps a s) : ∀ x1 x2 x3, Keeps a (State.sendRead s x1 x2 x3) := by
  intro x1 x2 x3
  unfold State.sendRead; try dsimp only
  repeat' first
    | with_reducible assumption
    | with_reducible apply Keeps.setCont
    | with_reducible apply Keeps.sptLine
    | with_reducible apply Keeps.ite

theorem Keeps.sendFlush {a s : State} (h : Keeps a s) : ∀ x1, Keeps a (State.sendFlush s x1) := by
  intro x1
  unfold State.sendFlush; try dsimp only
  repeat' first
    | with_reducible assumption
    | with_reducible apply Keeps.sptLine

theorem Keeps.sendPoll {a s : State} (h : Keeps a s) : ∀ x1, Keeps a (State.sendPoll s x1) := by
  intro x1
  unfold State.sendPoll; try dsimp only
  repeat' first
    | with_reducible assumption
    | with_reducible apply Keeps.sptLine

theorem Keeps.dropHeld {a s : State} (h : Keeps a s) : ∀ x1, Keeps a (State.dropHeld s x1) := by
  intro x1
  unfold State.dropHeld; try dsimp only
  repeat' first
    | with_reducible assumption
    | with_reducible apply Keeps.setSpt
    | with_reducible apply Keeps.sptLine
    | split
    | with_reducible apply Keeps.upd
    | rfl
    | with_reducible exact OtpKept.refl _

theorem Keeps.pfClear {a s : State} (h : Keeps a s) : Keeps a (State.pfClear s) := by
  unfold State.pfClear; try dsimp only
  repeat' first
    | with_reducible assumption
    | with_reducible apply Keeps.setPf
    | with_reducible apply Keeps.upd
    | rfl
    | with_reducible exact OtpKept.refl _

theorem Keeps.startFill {a s : State} (h : Keeps a s) : ∀ x1 x2, Keeps a (State.startFill s x1 x2) := by
  intro x1 x2
  unfold State.startFill; try dsimp only
  repeat' first
    | with_reducible assumption
    | with_reducible apply Keeps.sendRead
    | with_reducible apply Keeps.sptStat
    | with_reducible apply Keeps.setPf
    | with_reducible apply Keeps.upd
    | rfl
    | with_reducible exact OtpKept.refl _

theorem Keeps.devNat {a s : State} (h : Keeps a s) : ∀ x1 x2 x3, Keeps a (State.devNat s x1 x2 x3).2 := by
  intro x1 x2 x3
  unfold State.devNat; try dsimp only
  repeat' first
    | with_reducible assumption
    | with_reducible apply Keeps.freeVal
    | with_reducible apply Keeps.ite
    | with_reducible apply Keeps.ite2
    | split
    | refine Keeps.of2 (by with_reducible assumption) ?_

theorem Keeps.winRead {a s : State} (h : Keeps a s) : ∀ x1 x2 x3 x4 x5, Keeps a (State.winRead s x1 x2 x3 x4 x5).2 := by
  intro x1 x2 x3 x4 x5
  unfold State.winRead; try dsimp only
  repeat' first
    | with_reducible assumption
    | with_reducible apply Keeps.sendRead
    | with_reducible apply Keeps.devNat
    | with_reducible apply Keeps.setSpt
    | with_reducible apply Keeps.setPf
    | with_reducible apply Keeps.cacheFill
    | with_reducible apply Keeps.startFill
    | with_reducible apply Keeps.ite
    | with_reducible apply Keeps.ite2
    | split
    | refine Keeps.of2 (by with_reducible assumption) ?_
    | with_reducible apply Keeps.upd
    | rfl
    | with_reducible exact OtpKept.refl _

theorem Keeps.winWrite {a s : State} (h : Keeps a s) : ∀ x1 x2 x3, Keeps a (State.winWrite s x1 x2 x3).2 := by
  intro x1 x2 x3
  unfold State.winWrite; try dsimp only
  repeat' first
    | with_reducible assumption
    | with_reducible apply Keeps.sptStat
    | with_reducible apply Keeps.setSpt
    | with_reducible apply Keeps.setPf
    | with_reducible apply Keeps.dropRange
    | with_reducible apply Keeps.ite
    | with_reducible apply Keeps.ite2
    | split
    | with_reducible apply Keeps.upd
    | rfl
    | with_reducible exact OtpKept.refl _

theorem Keeps.winAccess {a s : State} (h : Keeps a s) : ∀ x1 x2 x3, Keeps a (State.winAccess s x1 x2 x3).2 := by
  intro x1 x2 x3
  unfold State.winAccess; try dsimp only
  repeat' first
    | with_reducible assumption
    | with_reducible apply Keeps.winWrite
    | with_reducible apply Keeps.winRead
    | split
    | refine Keeps.of2 (by with_reducible assumption) ?_

theorem Keeps.serveOne {a s : State} (h : Keeps a s) : ∀ x0 x2, Keeps a (State.serveOne x0 s x2) := by
  intro x0 x2
  unfold State.serveOne; try dsimp only
  repeat' first
    | with_reducible assumption
    | with_reducible apply Keeps.winAccess
    | with_reducible apply Keeps.answer
    | with_reducible apply Keeps.ite
    | split
    | refine Keeps.of2 (by with_reducible assumption) ?_
    | with_reducible apply Keeps.upd
    | rfl
    | with_reducible exact OtpKept.refl _

theorem Keeps.startQueue {a s : State} (h : Keeps a s) : ∀ x1, Keeps a (State.startQueue s x1) := by
  intro x1
  unfold State.startQueue; try dsimp only
  repeat' first
    | with_reducible assumption
    | with_reducible apply Keeps.setSpt
    | with_reducible apply Keeps.dropHeld
    | with_reducible apply Keeps.leaveCont
    | with_reducible apply Keeps.pfClear
    | with_reducible apply Keeps.sptLine
    | with_reducible apply Keeps.ite
    | split
    | with_reducible apply Keeps.upd
    | rfl
    | with_reducible exact OtpKept.refl _

theorem Keeps.sptKick {a s : State} (h : Keeps a s) : ∀ x1, Keeps a (State.sptKick s x1) := by
  intro x1
  unfold State.sptKick; try dsimp only
  repeat' first
    | with_reducible assumption
    | with_reducible apply Keeps.startQueue
    | with_reducible apply Keeps.serveOne
    | with_reducible apply Keeps.sptStat
    | with_reducible refine Keeps.foldl ?_ (fun _ _ _ => ?_)
    | with_reducible refine Keeps.foldl2 ?_ (fun _ _ _ => ?_)

theorem Keeps.sptQtx {a s : State} (h : Keeps a s) : ∀ x1 x2 x3, Keeps a (State.sptQtx s x1 x2 x3) := by
  intro x1 x2 x3
  unfold State.sptQtx; try dsimp only
  repeat' first
    | with_reducible assumption
    | with_reducible apply Keeps.sptKick
    | with_reducible apply Keeps.setSpt
    | with_reducible apply Keeps.flag
    | with_reducible apply Keeps.ite
    | with_reducible apply Keeps.upd
    | rfl
    | with_reducible exact OtpKept.refl _

theorem Keeps.sptQrx {a s : State} (h : Keeps a s) : ∀ x1, Keeps a (State.sptQrx s x1).2 := by
  intro x1
  unfold State.sptQrx; try dsimp only
  repeat' first
    | with_reducible assumption
    | with_reducible apply Keeps.sptKick
    | with_reducible apply Keeps.setSpt
    | with_reducible apply Keeps.flag
    | with_reducible apply Keeps.ite
    | with_reducible apply Keeps.ite2
    | split
    | with_reducible apply Keeps.upd
    | rfl
    | with_reducible exact OtpKept.refl _

theorem Keeps.queueEmptied {a s : State} (h : Keeps a s) : ∀ x1, Keeps a (State.queueEmptied s x1) := by
  intro x1
  unfold State.queueEmptied; try dsimp only
  repeat' first
    | with_reducible assumption
    | with_reducible apply Keeps.event
    | with_reducible apply Keeps.flag
    | with_reducible apply Keeps.ite

theorem Keeps.rxPush {a s : State} (h : Keeps a s) : ∀ x1 x2 x3, Keeps a (State.rxPush s x1 x2 x3) := by
  intro x1 x2 x3
  unfold State.rxPush; try dsimp only
  repeat' first
    | with_reducible assumption
    | with_reducible apply Keeps.event
    | with_reducible apply Keeps.setSpt
    | with_reducible apply Keeps.flag
    | with_reducible apply Keeps.upd
    | rfl
    | with_reducible exact OtpKept.refl _

theorem Keeps.sptCtrl {a s : State} (h : Keeps a s) : ∀ x1 x2, Keeps a (State.sptCtrl s x1 x2) := by
  intro x1 x2
  unfold State.sptCtrl; try dsimp only
  repeat' first
    | with_reducible assumption
    | with_reducible apply Keeps.sptKick
    | with_reducible apply Keeps.setSpt
    | with_reducible apply Keeps.dropHeld
    | with_reducible apply Keeps.pfClear
    | with_reducible apply Keeps.ite
    | with_reducible apply Keeps.upd
    | rfl
    | with_reducible exact OtpKept.refl _

theorem Keeps.sptPageReset {a s : State} (h : Keeps a s) : ∀ x1, Keeps a (State.sptPageReset s x1) := by
  intro x1
  unfold State.sptPageReset; try dsimp only
  repeat' first
    | with_reducible assumption
    | with_reducible apply Keeps.setSpt
    | with_reducible apply Keeps.pfClear
    | with_reducible apply Keeps.ite
    | with_reducible apply Keeps.upd
    | rfl
    | with_reducible exact OtpKept.refl _

theorem Keeps.sptWrite {a s : State} (h : Keeps a s) : ∀ x1 x2 x3 x4, Keeps a (State.sptWrite s x1 x2 x3 x4) := by
  intro x1 x2 x3 x4
  unfold State.sptWrite; try dsimp only
  repeat' first
    | with_reducible assumption
    | with_reducible apply Keeps.sptQtx
    | with_reducible apply Keeps.sptCtrl
    | with_reducible apply Keeps.put
    | with_reducible apply Keeps.ite

theorem Keeps.sptRead {a s : State} (h : Keeps a s) : ∀ x1 x2 x3, Keeps a (State.sptRead s x1 x2 x3).2 := by
  intro x1 x2 x3
  unfold State.sptRead; try dsimp only
  repeat' first
    | with_reducible assumption
    | with_reducible apply Keeps.sptQrx
    | with_reducible apply Keeps.ite
    | with_reducible apply Keeps.ite2
    | refine Keeps.of2 (by with_reducible assumption) ?_

theorem Keeps.execQueueWordDone {a s : State} (h : Keeps a s) : ∀ x0 x1, KeepsAll a (Machine.execQueueWordDone x0 x1 s) := by
  intro x0 x1
  unfold Machine.execQueueWordDone; try dsimp only
  repeat' first
    | with_reducible assumption
    | with_reducible apply Keeps.sptKick
    | with_reducible apply Keeps.rxPush
    | with_reducible apply Keeps.setSpt
    | with_reducible apply Keeps.dropHeld
    | with_reducible apply Keeps.queueEmptied
    | with_reducible apply Keeps.ite
    | with_reducible apply KeepsAll.ite
    | with_reducible apply KeepsAll.next
    | split
    | with_reducible apply Keeps.upd
    | rfl
    | with_reducible exact OtpKept.refl _

theorem Keeps.execHoldExpired {a s : State} (h : Keeps a s) : ∀ x0, KeepsAll a (Machine.execHoldExpired x0 s) := by
  intro x0
  unfold Machine.execHoldExpired; try dsimp only
  repeat' first
    | with_reducible assumption
    | with_reducible apply Keeps.sptKick
    | with_reducible apply Keeps.dropHeld
    | with_reducible apply Keeps.flag
    | with_reducible apply Keeps.ite
    | with_reducible apply KeepsAll.ite
    | with_reducible apply KeepsAll.next

theorem Keeps.slaveRx {a s : State} (h : Keeps a s) : ∀ x1 x2, Keeps a (Machine.slaveRx s x1 x2).2 := by
  intro x1 x2
  unfold Machine.slaveRx; try dsimp only
  repeat' first
    | with_reducible assumption
    | with_reducible apply Keeps.freeVal
    | with_reducible apply Keeps.ite
    | with_reducible apply Keeps.ite2
    | refine Keeps.of2 (by with_reducible assumption) ?_

theorem Keeps.execSlaveWord {a s : State} (h : Keeps a s) : ∀ x0 x1, KeepsAll a (Machine.execSlaveWord x0 x1 s) := by
  intro x0 x1
  unfold Machine.execSlaveWord; try dsimp only
  repeat' first
    | with_reducible assumption
    | with_reducible apply Keeps.sptStat
    | with_reducible apply Keeps.rxPush
    | with_reducible apply Keeps.setSpt
    | with_reducible apply Keeps.flag
    | with_reducible apply Keeps.slaveRx
    | with_reducible apply Keeps.sptLine
    | with_reducible apply Keeps.queueEmptied
    | with_reducible apply Keeps.ite
    | with_reducible apply KeepsAll.ite
    | with_reducible apply KeepsAll.next
    | split
    | refine Keeps.of2 (by with_reducible assumption) ?_
    | with_reducible apply Keeps.upd
    | rfl
    | with_reducible exact OtpKept.refl _

theorem Keeps.execShortWord {a s : State} (h : Keeps a s) : ∀ x0, KeepsAll a (Machine.execShortWord x0 s) := by
  intro x0
  unfold Machine.execShortWord; try dsimp only
  repeat' first
    | with_reducible assumption
    | with_reducible apply Keeps.sptStat
    | with_reducible apply Keeps.setSpt
    | with_reducible apply Keeps.flag
    | with_reducible apply Keeps.queueEmptied
    | with_reducible apply Keeps.ite
    | with_reducible apply KeepsAll.ite
    | with_reducible apply KeepsAll.next
    | split
    | with_reducible apply Keeps.upd
    | rfl
    | with_reducible exact OtpKept.refl _

theorem Keeps.execWriteBufferFlush {a s : State} (h : Keeps a s) : ∀ x0, KeepsAll a (Machine.execWriteBufferFlush x0 s) := by
  intro x0
  unfold Machine.execWriteBufferFlush; try dsimp only
  repeat' first
    | with_reducible assumption
    | with_reducible apply Keeps.sptStat
    | with_reducible apply Keeps.setSpt
    | with_reducible apply Keeps.leaveCont
    | with_reducible apply Keeps.sendFlush
    | with_reducible apply Keeps.ite
    | with_reducible apply KeepsAll.ite
    | with_reducible apply KeepsAll.next
    | with_reducible apply Keeps.upd
    | rfl
    | with_reducible exact OtpKept.refl _

theorem Keeps.execStatusPoll {a s : State} (h : Keeps a s) : ∀ x0 x1, KeepsAll a (Machine.execStatusPoll x0 x1 s) := by
  intro x0 x1
  unfold Machine.execStatusPoll; try dsimp only
  repeat' first
    | with_reducible assumption
    | with_reducible apply Keeps.sptKick
    | with_reducible apply Keeps.setSpt
    | with_reducible apply Keeps.put
    | with_reducible apply Keeps.sendPoll
    | with_reducible apply Keeps.ite
    | with_reducible apply KeepsAll.ite
    | with_reducible apply KeepsAll.next
    | with_reducible apply Keeps.upd
    | rfl
    | with_reducible exact OtpKept.refl _

theorem Keeps.execPollTimeout {a s : State} (h : Keeps a s) : ∀ x0, KeepsAll a (Machine.execPollTimeout x0 s) := by
  intro x0
  unfold Machine.execPollTimeout; try dsimp only
  repeat' first
    | with_reducible assumption
    | with_reducible apply Keeps.sptKick
    | with_reducible apply Keeps.setSpt
    | with_reducible apply Keeps.flag
    | with_reducible apply Keeps.countSat
    | with_reducible apply Keeps.ite
    | with_reducible apply KeepsAll.ite
    | with_reducible apply KeepsAll.next
    | with_reducible apply Keeps.upd
    | rfl
    | with_reducible exact OtpKept.refl _

theorem Keeps.execLineFillDone {a s : State} (h : Keeps a s) : ∀ x0, KeepsAll a (Machine.execLineFillDone x0 s) := by
  intro x0
  unfold Machine.execLineFillDone; try dsimp only
  repeat' first
    | with_reducible assumption
    | with_reducible apply Keeps.sptKick
    | with_reducible apply Keeps.sptStat
    | with_reducible apply Keeps.setPf
    | with_reducible apply Keeps.freeVal
    | with_reducible refine Keeps.foldl ?_ (fun _ _ _ => ?_)
    | with_reducible refine Keeps.foldl2 ?_ (fun _ _ _ => ?_)
    | with_reducible apply Keeps.ite
    | with_reducible apply KeepsAll.ite
    | with_reducible apply KeepsAll.next
    | split
    | refine Keeps.of2 (by with_reducible assumption) ?_
    | with_reducible apply Keeps.upd
    | rfl
    | with_reducible exact OtpKept.refl _

theorem Keeps.execLookAheadFill {a s : State} (h : Keeps a s) : KeepsAll a (Machine.execLookAheadFill s) := by
  unfold Machine.execLookAheadFill; try dsimp only
  repeat' first
    | with_reducible assumption
    | with_reducible apply Keeps.setPf
    | with_reducible apply Keeps.startFill
    | with_reducible apply Keeps.ite
    | with_reducible apply KeepsAll.ite
    | with_reducible apply KeepsAll.next
    | split
    | with_reducible apply Keeps.upd
    | rfl
    | with_reducible exact OtpKept.refl _

theorem Keeps.setPwr {a s : State} (h : Keeps a s) : ∀ x1, Keeps a (State.setPwr s x1) := by
  intro x1
  unfold State.setPwr; try dsimp only
  repeat' first
    | with_reducible assumption
    | with_reducible apply Keeps.upd
    | rfl
    | with_reducible exact OtpKept.refl _

theorem Keeps.waitUpdate {a s : State} (h : Keeps a s) : ∀ x1 x2, Keeps a (State.waitUpdate s x1 x2) := by
  intro x1 x2
  unfold State.waitUpdate; try dsimp only
  repeat' first
    | with_reducible assumption
    | with_reducible apply Keeps.put
    | with_reducible apply Keeps.flag
    | with_reducible apply Keeps.ite

theorem Keeps.clkSettle {a s : State} (h : Keeps a s) : Keeps a (State.clkSettle s) := by
  unfold State.clkSettle; try dsimp only
  repeat' first
    | with_reducible assumption
    | with_reducible apply Keeps.put
    | with_reducible apply Keeps.pllSettle

theorem Keeps.clkEffect {a s : State} (h : Keeps a s) : Keeps a (State.clkEffect s) := by
  unfold State.clkEffect; try dsimp only
  repeat' first
    | with_reducible assumption
    | with_reducible apply Keeps.clkSettle
    | with_reducible apply Keeps.put
    | with_reducible apply Keeps.setPageSt
    | with_reducible apply Keeps.ite

theorem Keeps.setSysClock {a s : State} (h : Keeps a s) : ∀ x1 x2, Keeps a (State.setSysClock s x1 x2) := by
  intro x1 x2
  unfold State.setSysClock; try dsimp only
  repeat' first
    | with_reducible assumption
    | with_reducible apply Keeps.put

theorem Keeps.radioFail {a s : State} (h : Keeps a s) : Keeps a (State.radioFail s) := by
  unfold State.radioFail; try dsimp only
  repeat' first
    | with_reducible assumption
    | with_reducible apply Keeps.enterOff
    | with_reducible apply Keeps.loseAll
    | with_reducible apply Keeps.ackFailed
    | with_reducible apply Keeps.crsHold
    | with_reducible apply Keeps.releaseAll
    | with_reducible apply Keeps.whiffEnd
    | with_reducible apply Keeps.offSettle
    | with_reducible apply Keeps.calStop
    | with_reducible apply Keeps.put
    | with_reducible apply Keeps.setRadio
    | with_reducible apply Keeps.squashCtx
    | with_reducible apply Keeps.endPlain
    | with_reducible apply Keeps.dropWaiting
    | with_reducible refine Keeps.foldl ?_ (fun _ _ _ => ?_)
    | with_reducible refine Keeps.foldl2 ?_ (fun _ _ _ => ?_)
    | with_reducible apply Keeps.ite
    | split
    | with_reducible apply Keeps.upd
    | rfl
    | with_reducible exact OtpKept.refl _

theorem Keeps.rrpStart {a s : State} (h : Keeps a s) : ∀ x1 x2, Keeps a (State.rrpStart s x1 x2) := by
  intro x1 x2
  unfold State.rrpStart; try dsimp only
  repeat' first
    | with_reducible assumption
    | with_reducible apply Keeps.setPwr
    | with_reducible apply Keeps.put
    | with_reducible apply Keeps.setPageSt
    | with_reducible apply Keeps.upd
    | rfl
    | with_reducible exact OtpKept.refl _

theorem Keeps.rrpIdle {a s : State} (h : Keeps a s) : Keeps a (State.rrpIdle s) := by
  unfold State.rrpIdle; try dsimp only
  repeat' first
    | with_reducible assumption
    | with_reducible apply Keeps.setPwr
    | with_reducible apply Keeps.put
    | with_reducible apply Keeps.setPageSt
    | with_reducible apply Keeps.upd
    | rfl
    | with_reducible exact OtpKept.refl _

theorem Keeps.opWrite {a s : State} (h : Keeps a s) : ∀ x1, Keeps a (State.opWrite s x1) := by
  intro x1
  unfold State.opWrite; try dsimp only
  repeat' first
    | with_reducible assumption
    | with_reducible apply Keeps.rrpStart
    | with_reducible apply Keeps.put
    | with_reducible apply Keeps.flag
    | with_reducible apply Keeps.ite

theorem Keeps.opEnd {a s : State} (h : Keeps a s) : Keeps a (State.opEnd s) := by
  unfold State.opEnd; try dsimp only
  repeat' first
    | with_reducible assumption
    | with_reducible apply Keeps.waitUpdate
    | with_reducible apply Keeps.put
    | with_reducible apply Keeps.flag

theorem Keeps.rrpAck {a s : State} (h : Keeps a s) : Keeps a (State.rrpAck s) := by
  unfold State.rrpAck; try dsimp only
  repeat' first
    | with_reducible assumption
    | with_reducible apply Keeps.rrpStart
    | with_reducible apply Keeps.opEnd
    | with_reducible apply Keeps.put
    | with_reducible apply Keeps.rrpIdle
    | with_reducible apply Keeps.flag
    | with_reducible apply Keeps.ite

theorem Keeps.rrpAgain {a s : State} (h : Keeps a s) : Keeps a (State.rrpAgain s) := by
  unfold State.rrpAgain; try dsimp only
  repeat' first
    | with_reducible assumption
    | with_reducible apply Keeps.setPwr
    | with_reducible apply Keeps.flag
    | with_reducible apply Keeps.countSat
    | with_reducible apply Keeps.ite
    | with_reducible apply Keeps.upd
    | rfl
    | with_reducible exact OtpKept.refl _

theorem Keeps.smbusWrite {a s : State} (h : Keeps a s) : ∀ x1 x2 x3, Keeps a (State.smbusWrite s x1 x2 x3) := by
  intro x1 x2 x3
  unfold State.smbusWrite; try dsimp only
  repeat' first
    | with_reducible assumption
    | with_reducible apply Keeps.setPwr
    | with_reducible apply Keeps.upd
    | rfl
    | with_reducible exact OtpKept.refl _

theorem Keeps.execSwitched {a s : State} (h : Keeps a s) : KeepsAll a (Machine.execSwitched s) := by
  unfold Machine.execSwitched; try dsimp only
  repeat' first
    | with_reducible assumption
    | with_reducible apply Keeps.waitUpdate
    | with_reducible apply Keeps.setSysClock
    | with_reducible apply Keeps.clkSettle
    | with_reducible apply Keeps.put
    | with_reducible apply Keeps.flag
    | with_reducible apply Keeps.setPageSt
    | with_reducible apply Keeps.ite
    | with_reducible apply KeepsAll.ite
    | with_reducible apply KeepsAll.next

theorem Keeps.execHfxoStable {a s : State} (h : Keeps a s) : KeepsAll a (Machine.execHfxoStable s) := by
  unfold Machine.execHfxoStable; try dsimp only
  repeat' first
    | with_reducible assumption
    | with_reducible apply Keeps.setPwr
    | with_reducible apply Keeps.put
    | with_reducible apply Keeps.hvlUpdate
    | with_reducible apply Keeps.setRadio
    | with_reducible apply Keeps.ite
    | with_reducible apply KeepsAll.ite
    | with_reducible apply KeepsAll.next
    | with_reducible apply Keeps.upd
    | rfl
    | with_reducible exact OtpKept.refl _

theorem Keeps.execPllLock {a s : State} (h : Keeps a s) : KeepsAll a (Machine.execPllLock s) := by
  unfold Machine.execPllLock; try dsimp only
  repeat' first
    | with_reducible assumption
    | with_reducible apply Keeps.put
    | with_reducible apply Keeps.ite
    | with_reducible apply KeepsAll.ite
    | with_reducible apply KeepsAll.next

theorem Keeps.execHfxoFail {a s : State} (h : Keeps a s) : KeepsAll a (Machine.execHfxoFail s) := by
  unfold Machine.execHfxoFail; try dsimp only
  repeat' first
    | with_reducible assumption
    | with_reducible apply Keeps.waitUpdate
    | with_reducible apply Keeps.setSysClock
    | with_reducible apply Keeps.reportFault
    | with_reducible apply Keeps.setPwr
    | with_reducible apply Keeps.put
    | with_reducible apply Keeps.radioFail
    | with_reducible apply Keeps.hvlUpdate
    | with_reducible apply Keeps.flag
    | with_reducible apply Keeps.setPageSt
    | with_reducible apply Keeps.ite
    | with_reducible apply KeepsAll.ite
    | with_reducible apply KeepsAll.next
    | with_reducible apply Keeps.upd
    | rfl
    | with_reducible exact OtpKept.refl _

theorem Keeps.execHfxoFailsToStart {a s : State} (h : Keeps a s) : KeepsAll a (Machine.execHfxoFailsToStart s) := by
  unfold Machine.execHfxoFailsToStart; try dsimp only
  repeat' first
    | with_reducible assumption
    | with_reducible apply Keeps.offSettle
    | with_reducible apply Keeps.put
    | with_reducible apply Keeps.setRadio
    | with_reducible apply Keeps.endPlain
    | with_reducible apply Keeps.ite
    | with_reducible apply KeepsAll.ite
    | with_reducible apply KeepsAll.next
    | split
    | with_reducible apply Keeps.upd
    | rfl
    | with_reducible exact OtpKept.refl _

theorem Keeps.execLfxoFail {a s : State} (h : Keeps a s) : KeepsAll a (Machine.execLfxoFail s) := by
  unfold Machine.execLfxoFail; try dsimp only
  repeat' first
    | with_reducible assumption
    | with_reducible apply Keeps.put
    | with_reducible apply Keeps.flag
    | with_reducible apply Keeps.ite
    | with_reducible apply KeepsAll.ite
    | with_reducible apply KeepsAll.next

theorem Keeps.execLfxoReturn {a s : State} (h : Keeps a s) : KeepsAll a (Machine.execLfxoReturn s) := by
  unfold Machine.execLfxoReturn; try dsimp only
  repeat' first
    | with_reducible assumption
    | with_reducible apply Keeps.put
    | with_reducible apply Keeps.ite
    | with_reducible apply KeepsAll.ite
    | with_reducible apply KeepsAll.next

theorem Keeps.execOpDone {a s : State} (h : Keeps a s) : KeepsAll a (Machine.execOpDone s) := by
  unfold Machine.execOpDone; try dsimp only
  repeat' first
    | with_reducible assumption
    | with_reducible apply Keeps.opEnd
    | with_reducible apply Keeps.ite
    | with_reducible apply KeepsAll.ite
    | with_reducible apply KeepsAll.next

theorem Keeps.execVoutCommand {a s : State} (h : Keeps a s) : KeepsAll a (Machine.execVoutCommand s) := by
  unfold Machine.execVoutCommand; try dsimp only
  repeat' first
    | with_reducible assumption
    | with_reducible apply Keeps.setPwr
    | with_reducible apply Keeps.smbusWrite
    | with_reducible apply Keeps.ite
    | with_reducible apply KeepsAll.ite
    | with_reducible apply KeepsAll.next
    | with_reducible apply Keeps.upd
    | rfl
    | with_reducible exact OtpKept.refl _

theorem Keeps.execOperation {a s : State} (h : Keeps a s) : ∀ x0, KeepsAll a (Machine.execOperation x0 s) := by
  intro x0
  unfold Machine.execOperation; try dsimp only
  repeat' first
    | with_reducible assumption
    | with_reducible apply Keeps.setPwr
    | with_reducible apply Keeps.smbusWrite
    | with_reducible apply Keeps.ite
    | with_reducible apply KeepsAll.ite
    | with_reducible apply KeepsAll.next
    | with_reducible apply Keeps.upd
    | rfl
    | with_reducible exact OtpKept.refl _

theorem Keeps.execStatusByte {a s : State} (h : Keeps a s) : ∀ x0, KeepsAll a (Machine.execStatusByte x0 s) := by
  intro x0
  unfold Machine.execStatusByte; try dsimp only
  repeat' first
    | with_reducible assumption
    | with_reducible apply Keeps.setPwr
    | with_reducible apply Keeps.put
    | with_reducible apply Keeps.rrpAck
    | with_reducible apply Keeps.ite
    | with_reducible apply KeepsAll.ite
    | with_reducible apply KeepsAll.next
    | split
    | with_reducible apply Keeps.upd
    | rfl
    | with_reducible exact OtpKept.refl _

theorem Keeps.execRrpResend {a s : State} (h : Keeps a s) : KeepsAll a (Machine.execRrpResend s) := by
  unfold Machine.execRrpResend; try dsimp only
  repeat' first
    | with_reducible assumption
    | with_reducible apply Keeps.rrpAgain
    | with_reducible apply Keeps.ite
    | with_reducible apply KeepsAll.ite
    | with_reducible apply KeepsAll.next

theorem Keeps.execRrpTimeout {a s : State} (h : Keeps a s) : KeepsAll a (Machine.execRrpTimeout s) := by
  unfold Machine.execRrpTimeout; try dsimp only
  repeat' first
    | with_reducible assumption
    | with_reducible apply Keeps.rrpAgain
    | with_reducible apply Keeps.waitUpdate
    | with_reducible apply Keeps.reportFault
    | with_reducible apply Keeps.setPwr
    | with_reducible apply Keeps.put
    | with_reducible apply Keeps.rrpIdle
    | with_reducible apply Keeps.flag
    | with_reducible apply Keeps.countSat
    | with_reducible apply Keeps.ite
    | with_reducible apply KeepsAll.ite
    | with_reducible apply KeepsAll.next
    | with_reducible apply Keeps.upd
    | rfl
    | with_reducible exact OtpKept.refl _

end Sys2Proof.Machine
end

