-- ==== Sys2Proof/Laws/Keeps5.lean ====
section
/-! SUPPORT. What the operations keep (Laws/Keeps.lean): PowerStates, Faults, Selftest, Recording, EventFabric, Images, Update, Boot. -/

set_option linter.unusedTactic false
set_option linter.unreachableTactic false

namespace Sys2Proof.Machine

theorem Keeps.reqWrite {a s : State} (h : Keeps a s) : ∀ x1, Keeps a (State.reqWrite s x1) := by
  intro x1
  unfold State.reqWrite; try dsimp only
  repeat' first
    | with_reducible assumption
    | with_reducible apply Keeps.put
    | with_reducible apply Keeps.ite

theorem Keeps.wakeLatch {a s : State} (h : Keeps a s) : ∀ x1, Keeps a (State.wakeLatch s x1) := by
  intro x1
  unfold State.wakeLatch; try dsimp only
  repeat' first
    | with_reducible assumption
    | with_reducible apply Keeps.put
    | with_reducible apply Keeps.putBit
    | with_reducible refine Keeps.foldl ?_ (fun _ _ _ => ?_)
    | with_reducible refine Keeps.foldl2 ?_ (fun _ _ _ => ?_)
    | with_reducible apply Keeps.ite

theorem Keeps.wakeRecord {a s : State} (h : Keeps a s) : ∀ x1, Keeps a (State.wakeRecord s x1) := by
  intro x1
  unfold State.wakeRecord; try dsimp only
  repeat' first
    | with_reducible assumption
    | with_reducible apply Keeps.put
    | with_reducible apply Keeps.flag
    | with_reducible apply Keeps.countSat
    | with_reducible refine Keeps.foldl ?_ (fun _ _ _ => ?_)
    | with_reducible refine Keeps.foldl2 ?_ (fun _ _ _ => ?_)

theorem Keeps.bankLost {a s : State} (h : Keeps a s) : ∀ x1, Keeps a (State.bankLost s x1) := by
  intro x1
  unfold State.bankLost; try dsimp only
  repeat' first
    | with_reducible assumption
    | with_reducible apply Keeps.keepMem
    | with_reducible apply Keeps.setPwr
    | with_reducible apply Keeps.ite
    | with_reducible apply Keeps.upd
    | rfl
    | with_reducible exact OtpKept.refl _

theorem Keeps.entryA {a s : State} (h : Keeps a s) : ∀ x1, Keeps a (State.entryA s x1) := by
  intro x1
  unfold State.entryA; try dsimp only
  repeat' first
    | with_reducible assumption
    | with_reducible apply Keeps.enterOff
    | with_reducible apply Keeps.radioOff
    | with_reducible apply Keeps.ite

theorem Keeps.entryB {a s : State} (h : Keeps a s) : ∀ x1, Keeps a (State.entryB s x1) := by
  intro x1
  unfold State.entryB; try dsimp only
  repeat' first
    | with_reducible assumption
    | with_reducible apply Keeps.bankLost
    | with_reducible refine Keeps.foldl ?_ (fun _ _ _ => ?_)
    | with_reducible refine Keeps.foldl2 ?_ (fun _ _ _ => ?_)

theorem Keeps.entryC {a s : State} (h : Keeps a s) : Keeps a (State.entryC s) := by
  unfold State.entryC; try dsimp only
  repeat' first
    | with_reducible assumption
    | with_reducible apply Keeps.wdtTick
    | with_reducible apply Keeps.slowCount
    | with_reducible apply Keeps.put
    | with_reducible apply Keeps.hvlUpdate
    | with_reducible apply Keeps.setPageSt
    | with_reducible apply Keeps.ite

theorem Keeps.runOnHfrc {a s : State} (h : Keeps a s) : Keeps a (State.runOnHfrc s) := by
  unfold State.runOnHfrc; try dsimp only
  repeat' first
    | with_reducible assumption
    | with_reducible apply Keeps.waitUpdate
    | with_reducible apply Keeps.setSysClock
    | with_reducible apply Keeps.put

theorem Keeps.entryStart {a s : State} (h : Keeps a s) : Keeps a (State.entryStart s) := by
  unfold State.entryStart; try dsimp only
  repeat' first
    | with_reducible assumption
    | with_reducible apply Keeps.setPwr
    | with_reducible apply Keeps.put
    | with_reducible apply Keeps.setPageSt
    | with_reducible apply Keeps.upd
    | rfl
    | with_reducible exact OtpKept.refl _

theorem Keeps.wakeUp {a s : State} (h : Keeps a s) : ∀ x1, Keeps a (State.wakeUp s x1) := by
  intro x1
  unfold State.wakeUp; try dsimp only
  repeat' first
    | with_reducible assumption
    | with_reducible apply Keeps.rrpStart
    | with_reducible apply Keeps.wakeRecord
    | with_reducible apply Keeps.setPwr
    | with_reducible apply Keeps.put
    | with_reducible apply Keeps.runOnHfrc
    | with_reducible apply Keeps.flag
    | with_reducible apply Keeps.setPageSt
    | with_reducible apply Keeps.ite
    | with_reducible apply Keeps.upd
    | rfl
    | with_reducible exact OtpKept.refl _

theorem Keeps.entryAbort {a s : State} (h : Keeps a s) : ∀ x1 x2, Keeps a (State.entryAbort s x1 x2) := by
  intro x1 x2
  unfold State.entryAbort; try dsimp only
  repeat' first
    | with_reducible assumption
    | with_reducible apply Keeps.entryA
    | with_reducible apply Keeps.wakeRecord
    | with_reducible apply Keeps.entryB
    | with_reducible apply Keeps.setSysClock
    | with_reducible apply Keeps.setPwr
    | with_reducible apply Keeps.put
    | with_reducible apply Keeps.freeVal
    | with_reducible apply Keeps.flag
    | with_reducible apply Keeps.setPageSt
    | with_reducible apply Keeps.entryC
    | with_reducible apply Keeps.ite
    | split
    | refine Keeps.of2 (by with_reducible assumption) ?_
    | with_reducible apply Keeps.upd
    | rfl
    | with_reducible exact OtpKept.refl _

theorem Keeps.calFresh {a s : State} (h : Keeps a s) : Keeps a (State.calFresh s) := by
  unfold State.calFresh; try dsimp only
  repeat' first
    | with_reducible assumption
    | with_reducible apply Keeps.put
    | with_reducible apply Keeps.flag
    | with_reducible apply Keeps.ite

theorem Keeps.radioUpNow {a s : State} (h : Keeps a s) : Keeps a (State.radioUpNow s) := by
  unfold State.radioUpNow; try dsimp only
  repeat' first
    | with_reducible assumption
    | with_reducible apply Keeps.putRegBit
    | with_reducible apply Keeps.calFresh
    | with_reducible apply Keeps.setPwr
    | with_reducible apply Keeps.showRetired
    | with_reducible apply Keeps.put
    | with_reducible apply Keeps.bankLost
    | with_reducible refine Keeps.foldl ?_ (fun _ _ _ => ?_)
    | with_reducible refine Keeps.foldl2 ?_ (fun _ _ _ => ?_)
    | with_reducible apply Keeps.ite
    | with_reducible apply Keeps.upd
    | rfl
    | with_reducible exact OtpKept.refl _

theorem Keeps.domEffect {a s : State} (h : Keeps a s) : Keeps a (State.domEffect s) := by
  unfold State.domEffect; try dsimp only
  repeat' first
    | with_reducible assumption
    | with_reducible apply Keeps.offSettle
    | with_reducible apply Keeps.ite

theorem Keeps.execEntryBegin {a s : State} (h : Keeps a s) : KeepsAll a (Machine.execEntryBegin s) := by
  unfold Machine.execEntryBegin; try dsimp only
  repeat' first
    | with_reducible assumption
    | with_reducible apply Keeps.entryStart
    | with_reducible apply Keeps.entryAbort
    | with_reducible apply Keeps.ite
    | with_reducible apply KeepsAll.ite
    | with_reducible apply KeepsAll.next

theorem Keeps.execEntryInstant {a s : State} (h : Keeps a s) : KeepsAll a (Machine.execEntryInstant s) := by
  unfold Machine.execEntryInstant; try dsimp only
  repeat' first
    | with_reducible assumption
    | with_reducible apply Keeps.entryA
    | with_reducible apply Keeps.entryB
    | with_reducible apply Keeps.wakeUp
    | with_reducible apply Keeps.systemOff
    | with_reducible apply Keeps.setPwr
    | with_reducible apply Keeps.put
    | with_reducible apply Keeps.setPageSt
    | with_reducible apply Keeps.entryStart
    | with_reducible apply Keeps.entryC
    | with_reducible apply Keeps.ite
    | with_reducible apply KeepsAll.ite
    | with_reducible apply KeepsAll.next
    | split
    | with_reducible apply Keeps.upd
    | rfl
    | with_reducible exact OtpKept.refl _

theorem Keeps.execEntryAborted {a s : State} (h : Keeps a s) : ∀ x0, KeepsAll a (Machine.execEntryAborted x0 s) := by
  intro x0
  unfold Machine.execEntryAborted; try dsimp only
  repeat' first
    | with_reducible assumption
    | with_reducible apply Keeps.wakeLatch
    | with_reducible apply Keeps.setPwr
    | with_reducible apply Keeps.runOnHfrc
    | with_reducible apply Keeps.entryAbort
    | with_reducible apply Keeps.ite
    | with_reducible apply KeepsAll.ite
    | with_reducible apply KeepsAll.next
    | split
    | with_reducible apply Keeps.upd
    | rfl
    | with_reducible exact OtpKept.refl _

theorem Keeps.execWake {a s : State} (h : Keeps a s) : ∀ x0, KeepsAll a (Machine.execWake x0 s) := by
  intro x0
  unfold Machine.execWake; try dsimp only
  repeat' first
    | with_reducible assumption
    | with_reducible apply Keeps.wakeLatch
    | with_reducible apply Keeps.wakeUp
    | with_reducible apply Keeps.ite
    | with_reducible apply KeepsAll.ite
    | with_reducible apply KeepsAll.next

theorem Keeps.execBorRelease {a s : State} (h : Keeps a s) : KeepsAll a (Machine.execBorRelease s) := by
  unfold Machine.execBorRelease; try dsimp only
  repeat' first
    | with_reducible assumption
    | with_reducible apply Keeps.wakeUp
    | with_reducible apply Keeps.ite
    | with_reducible apply KeepsAll.ite
    | with_reducible apply KeepsAll.next

theorem Keeps.execWakePin {a s : State} (h : Keeps a s) : ∀ x0 x1, KeepsAll a (Machine.execWakePin x0 x1 s) := by
  intro x0 x1
  unfold Machine.execWakePin; try dsimp only
  repeat' first
    | with_reducible assumption
    | with_reducible apply Keeps.wake
    | with_reducible apply Keeps.putBit
    | with_reducible apply Keeps.ite
    | with_reducible apply KeepsAll.ite
    | with_reducible apply KeepsAll.next

theorem Keeps.execRadioDomainUp {a s : State} (h : Keeps a s) : KeepsAll a (Machine.execRadioDomainUp s) := by
  unfold Machine.execRadioDomainUp; try dsimp only
  repeat' first
    | with_reducible assumption
    | with_reducible apply Keeps.radioUpNow
    | with_reducible apply Keeps.ite
    | with_reducible apply KeepsAll.ite
    | with_reducible apply KeepsAll.next

theorem Keeps.radioHwFault {a s : State} (h : Keeps a s) : Keeps a (State.radioHwFault s) := by
  unfold State.radioHwFault; try dsimp only
  repeat' first
    | with_reducible assumption
    | with_reducible apply Keeps.loseAll
    | with_reducible apply Keeps.whiffEnd
    | with_reducible apply Keeps.txFail
    | with_reducible apply Keeps.goTo
    | with_reducible apply Keeps.setRadio
    | with_reducible apply Keeps.endPlain
    | with_reducible apply Keeps.ite
    | split
    | with_reducible apply Keeps.upd
    | rfl
    | with_reducible exact OtpKept.refl _

theorem Keeps.engineHold {a s : State} (h : Keeps a s) : ∀ x1, Keeps a (State.engineHold s x1) := by
  intro x1
  unfold State.engineHold; try dsimp only
  repeat' first
    | with_reducible assumption
    | with_reducible apply Keeps.loseAll
    | with_reducible apply Keeps.txFail
    | with_reducible apply Keeps.loseAndEnd
    | with_reducible apply Keeps.radioHwFault
    | with_reducible apply Keeps.hvlUpdate
    | with_reducible apply Keeps.setEngine
    | with_reducible apply Keeps.setRadio
    | with_reducible apply Keeps.windowCheck
    | with_reducible apply Keeps.endPlain
    | with_reducible apply Keeps.ite
    | split
    | with_reducible apply Keeps.upd
    | rfl
    | with_reducible exact OtpKept.refl _

theorem Keeps.engineFree {a s : State} (h : Keeps a s) : ∀ x1, Keeps a (State.engineFree s x1) := by
  intro x1
  unfold State.engineFree; try dsimp only
  repeat' first
    | with_reducible assumption
    | with_reducible apply Keeps.hvlUpdate
    | with_reducible apply Keeps.setEngine
    | with_reducible apply Keeps.ite
    | with_reducible apply Keeps.upd
    | rfl
    | with_reducible exact OtpKept.refl _

theorem Keeps.unitEffect {a s : State} (h : Keeps a s) : ∀ x1, Keeps a (State.unitEffect s x1) := by
  intro x1
  unfold State.unitEffect; try dsimp only
  repeat' first
    | with_reducible assumption
    | with_reducible apply Keeps.txFail
    | with_reducible apply Keeps.loseAndEnd
    | with_reducible apply Keeps.laneEffect
    | with_reducible apply Keeps.ite
    | split

theorem Keeps.unitEffects {a s : State} (h : Keeps a s) : ∀ x0, Keeps a (State.unitEffects x0 s) := by
  intro x0
  unfold State.unitEffects; try dsimp only
  repeat' first
    | with_reducible assumption
    | with_reducible apply Keeps.unitEffect
    | with_reducible refine Keeps.foldl ?_ (fun _ _ _ => ?_)
    | with_reducible refine Keeps.foldl2 ?_ (fun _ _ _ => ?_)
    | with_reducible apply Keeps.ite

theorem Keeps.wordFails {a s : State} (h : Keeps a s) : ∀ x1, Keeps a (State.wordFails s x1) := by
  intro x1
  unfold State.wordFails; try dsimp only
  repeat' first
    | with_reducible assumption
    | with_reducible apply Keeps.txFail
    | with_reducible apply Keeps.ite
    | split
    | with_reducible apply Keeps.upd
    | rfl
    | with_reducible exact OtpKept.refl _

theorem Keeps.entryFails {a s : State} (h : Keeps a s) : ∀ x1, Keeps a (State.entryFails s x1) := by
  intro x1
  unfold State.entryFails; try dsimp only
  repeat' first
    | with_reducible assumption
    | with_reducible apply Keeps.recordDone
    | with_reducible apply Keeps.setEnt
    | with_reducible apply Keeps.ite
    | with_reducible apply Keeps.upd
    | rfl
    | with_reducible exact OtpKept.refl _

theorem Keeps.faultEffect {a s : State} (h : Keeps a s) : ∀ x1, Keeps a (State.faultEffect s x1) := by
  intro x1
  unfold State.faultEffect; try dsimp only
  repeat' first
    | with_reducible assumption
    | with_reducible apply Keeps.flashCorrected
    | with_reducible apply Keeps.reportFault
    | with_reducible apply Keeps.loseAndEnd
    | with_reducible apply Keeps.answer
    | with_reducible apply Keeps.wordFails
    | with_reducible apply Keeps.engineHold
    | with_reducible apply Keeps.ite
    | split

theorem Keeps.writeCopy {a s : State} (h : Keeps a s) : ∀ x1 x2 x3, Keeps a (State.writeCopy s x1 x2 x3) := by
  intro x1 x2 x3
  unfold State.writeCopy; try dsimp only
  repeat' first
    | with_reducible assumption
    | with_reducible apply Keeps.reportFault
    | with_reducible apply Keeps.eraseSector
    | with_reducible apply Keeps.programBytes
    | with_reducible apply Keeps.setFlash
    | with_reducible apply Keeps.flag
    | with_reducible apply Keeps.ite
    | with_reducible apply Keeps.upd
    | rfl
    | with_reducible exact OtpKept.refl _

theorem Keeps.rewriteEnd {a s : State} (h : Keeps a s) : ∀ x1, Keeps a (State.rewriteEnd s x1) := by
  intro x1
  unfold State.rewriteEnd; try dsimp only
  repeat' first
    | with_reducible assumption
    | with_reducible apply Keeps.writeCopy
    | with_reducible apply Keeps.setReg
    | with_reducible apply Keeps.put
    | with_reducible apply Keeps.setPageSt
    | with_reducible refine Keeps.foldl ?_ (fun _ _ _ => ?_)
    | with_reducible refine Keeps.foldl2 ?_ (fun _ _ _ => ?_)
    | with_reducible apply Keeps.ite
    | with_reducible apply Keeps.upd
    | rfl
    | with_reducible exact OtpKept.refl _

theorem Keeps.unretire {a s : State} (h : Keeps a s) : ∀ x1, Keeps a (State.unretire s x1) := by
  intro x1
  unfold State.unretire; try dsimp only
  repeat' first
    | with_reducible assumption
    | with_reducible apply Keeps.askRewrite
    | with_reducible apply Keeps.setFaultTimes
    | with_reducible apply Keeps.markRetired

theorem Keeps.fltResult {a s : State} (h : Keeps a s) : ∀ x1, Keeps a (State.fltResult s x1) := by
  intro x1
  unfold State.fltResult; try dsimp only
  repeat' first
    | with_reducible assumption
    | with_reducible apply Keeps.setReg

theorem Keeps.fltCmd {a s : State} (h : Keeps a s) : ∀ x1, Keeps a (State.fltCmd s x1) := by
  intro x1
  unfold State.fltCmd; try dsimp only
  repeat' first
    | with_reducible assumption
    | with_reducible apply Keeps.unitEffects
    | with_reducible apply Keeps.setReg
    | with_reducible apply Keeps.askRewrite
    | with_reducible apply Keeps.fltResult
    | with_reducible apply Keeps.setFaultTimes
    | with_reducible apply Keeps.unretire
    | with_reducible apply Keeps.put
    | with_reducible apply Keeps.retireUnit
    | with_reducible apply Keeps.ite
    | with_reducible apply Keeps.upd
    | rfl
    | with_reducible exact OtpKept.refl _

theorem Keeps.fltRead {a s : State} (h : Keeps a s) : ∀ x1 x2 x3, Keeps a (Machine.fltRead s x1 x2 x3).2 := by
  intro x1 x2 x3
  unfold Machine.fltRead; try dsimp only
  repeat' first
    | with_reducible assumption
    | with_reducible apply Keeps.setRegI
    | with_reducible apply Keeps.ite
    | with_reducible apply Keeps.ite2
    | split
    | with_reducible apply Keeps.upd
    | rfl
    | with_reducible exact OtpKept.refl _

theorem Keeps.fltWrite {a s : State} (h : Keeps a s) : ∀ x1 x2, Keeps a (Machine.fltWrite s x1 x2) := by
  intro x1 x2
  unfold Machine.fltWrite; try dsimp only
  repeat' first
    | with_reducible assumption
    | with_reducible apply Keeps.fltCmd
    | with_reducible apply Keeps.ite

theorem Keeps.execRetry {a s : State} (h : Keeps a s) : ∀ x0 x1, KeepsAll a (Machine.execRetry x0 x1 s) := by
  intro x0 x1
  unfold Machine.execRetry; try dsimp only
  repeat' first
    | with_reducible assumption
    | with_reducible apply Keeps.scsRelockEnd
    | with_reducible apply Keeps.unitEffects
    | with_reducible apply Keeps.relockFailed
    | with_reducible apply Keeps.resend
    | with_reducible apply Keeps.crsRelockEnd
    | with_reducible apply Keeps.engineFree
    | with_reducible apply Keeps.ite
    | with_reducible apply KeepsAll.ite
    | with_reducible apply KeepsAll.next
    | split
    | refine Keeps.of1 (by with_reducible assumption) ?_

theorem Keeps.execRecordRewriteDone {a s : State} (h : Keeps a s) : ∀ x0, KeepsAll a (Machine.execRecordRewriteDone x0 s) := by
  intro x0
  unfold Machine.execRecordRewriteDone; try dsimp only
  repeat' first
    | with_reducible assumption
    | with_reducible apply Keeps.rewriteEnd
    | with_reducible apply Keeps.ite
    | with_reducible apply KeepsAll.ite
    | with_reducible apply KeepsAll.next

theorem Keeps.execEngineReload {a s : State} (h : Keeps a s) : ∀ x0, KeepsAll a (Machine.execEngineReload x0 s) := by
  intro x0
  unfold Machine.execEngineReload; try dsimp only
  repeat' first
    | with_reducible assumption
    | with_reducible apply Keeps.engineFree
    | with_reducible apply Keeps.ite
    | with_reducible apply KeepsAll.ite
    | with_reducible apply KeepsAll.next

theorem Keeps.isoTake {a s : State} (h : Keeps a s) : ∀ x1, Keeps a (State.isoTake s x1) := by
  intro x1
  unfold State.isoTake; try dsimp only
  repeat' first
    | with_reducible assumption
    | with_reducible apply Keeps.setReg
    | with_reducible apply Keeps.setSlot
    | with_reducible apply Keeps.moveRetired
    | with_reducible apply Keeps.setPageSt
    | with_reducible apply Keeps.testMark
    | split
    | with_reducible apply Keeps.upd
    | rfl
    | with_reducible exact OtpKept.refl _

theorem Keeps.bstTest {a s : State} (h : Keeps a s) : ∀ x1, Keeps a (State.bstTest s x1) := by
  intro x1
  unfold State.bstTest; try dsimp only
  repeat' first
    | with_reducible assumption
    | with_reducible apply Keeps.setReg
    | with_reducible apply Keeps.bstFinish
    | with_reducible apply Keeps.put
    | with_reducible apply Keeps.setPageSt
    | with_reducible apply Keeps.isoTake
    | with_reducible apply Keeps.ite
    | split
    | with_reducible apply Keeps.upd
    | rfl
    | with_reducible exact OtpKept.refl _

theorem Keeps.unitFresh {a s : State} (h : Keeps a s) : ∀ x1, Keeps a (State.unitFresh s x1) := by
  intro x1
  unfold State.unitFresh; try dsimp only
  repeat' first
    | with_reducible assumption
    | with_reducible apply Keeps.retrain
    | with_reducible apply Keeps.setSlot
    | with_reducible apply Keeps.hvlUpdate
    | with_reducible apply Keeps.ctxFree
    | with_reducible refine Keeps.foldl ?_ (fun _ _ _ => ?_)
    | with_reducible refine Keeps.foldl2 ?_ (fun _ _ _ => ?_)
    | with_reducible apply Keeps.ite
    | split

theorem Keeps.bstAbort {a s : State} (h : Keeps a s) : Keeps a (State.bstAbort s) := by
  unfold State.bstAbort; try dsimp only
  repeat' first
    | with_reducible assumption
    | with_reducible apply Keeps.bstFinish
    | with_reducible apply Keeps.unitFresh
    | with_reducible apply Keeps.ite
    | split

theorem Keeps.bstCmd {a s : State} (h : Keeps a s) : ∀ x1, Keeps a (State.bstCmd s x1) := by
  intro x1
  unfold State.bstCmd; try dsimp only
  repeat' first
    | with_reducible assumption
    | with_reducible apply Keeps.bstAbort
    | with_reducible apply Keeps.bstTest
    | with_reducible apply Keeps.ite

theorem Keeps.memoryTested {a s : State} (h : Keeps a s) : ∀ x1, Keeps a (State.memoryTested s x1) := by
  intro x1
  unfold State.memoryTested; try dsimp only
  repeat' first
    | with_reducible assumption
    | with_reducible apply Keeps.clearRange
    | with_reducible apply Keeps.eraseSector
    | with_reducible apply Keeps.ite

theorem Keeps.bstVerdict {a s : State} (h : Keeps a s) : ∀ x1 x2, Keeps a (State.bstVerdict s x1 x2) := by
  intro x1 x2
  unfold State.bstVerdict; try dsimp only
  repeat' first
    | with_reducible assumption
    | with_reducible apply Keeps.reportFault
    | with_reducible apply Keeps.bstFinish
    | with_reducible apply Keeps.unitFresh
    | with_reducible apply Keeps.ite
    | with_reducible apply Keeps.upd
    | rfl
    | with_reducible exact OtpKept.refl _

theorem Keeps.execTestIsolation {a s : State} (h : Keeps a s) : KeepsAll a (Machine.execTestIsolation s) := by
  unfold Machine.execTestIsolation; try dsimp only
  repeat' first
    | with_reducible assumption
    | with_reducible apply Keeps.bstFinish
    | with_reducible apply Keeps.isoTake
    | with_reducible apply Keeps.ite
    | with_reducible apply KeepsAll.ite
    | with_reducible apply KeepsAll.next
    | split

theorem Keeps.execTestDone {a s : State} (h : Keeps a s) : ∀ x0, KeepsAll a (Machine.execTestDone x0 s) := by
  intro x0
  unfold Machine.execTestDone; try dsimp only
  repeat' first
    | with_reducible assumption
    | with_reducible apply Keeps.unitEffects
    | with_reducible apply Keeps.bstVerdict
    | with_reducible apply Keeps.setReg
    | with_reducible apply Keeps.memoryTested
    | with_reducible apply Keeps.ite
    | with_reducible apply KeepsAll.ite
    | with_reducible apply KeepsAll.next
    | split

theorem Keeps.recCfg {a s : State} (h : Keeps a s) : ∀ x1, Keeps a (State.recCfg s x1) := by
  intro x1
  unfold State.recCfg; try dsimp only
  repeat' first
    | with_reducible assumption
    | with_reducible apply Keeps.record
    | with_reducible apply Keeps.ite

theorem Keeps.recDescSet {a s : State} (h : Keeps a s) : ∀ x1, Keeps a (State.recDescSet s x1) := by
  intro x1
  unfold State.recDescSet; try dsimp only
  repeat' first
    | with_reducible assumption
    | with_reducible apply Keeps.record
    | split

theorem Keeps.recArm {a s : State} (h : Keeps a s) : Keeps a (State.recArm s) := by
  unfold State.recArm; try dsimp only
  repeat' first
    | with_reducible assumption
    | with_reducible apply Keeps.recCfg
    | with_reducible apply Keeps.setPageSt
    | with_reducible apply Keeps.scsRecord
    | with_reducible apply Keeps.recDescSet
    | with_reducible refine Keeps.foldl ?_ (fun _ _ _ => ?_)
    | with_reducible refine Keeps.foldl2 ?_ (fun _ _ _ => ?_)
    | with_reducible apply Keeps.ite
    | with_reducible apply Keeps.upd
    | rfl
    | with_reducible exact OtpKept.refl _

theorem Keeps.recMark {a s : State} (h : Keeps a s) : ∀ x1, Keeps a (State.recMark s x1) := by
  intro x1
  unfold State.recMark; try dsimp only
  repeat' first
    | with_reducible assumption
    | with_reducible apply Keeps.record
    | with_reducible apply Keeps.ite

theorem Keeps.recHeader {a s : State} (h : Keeps a s) : ∀ x1 x2, Keeps a (State.recHeader s x1 x2).2 := by
  intro x1 x2
  unfold State.recHeader; try dsimp only
  repeat' first
    | with_reducible assumption
    | with_reducible apply Keeps.freeVal
    | with_reducible apply Keeps.ite
    | with_reducible apply Keeps.ite2
    | split
    | refine Keeps.of2 (by with_reducible assumption) ?_

theorem Keeps.laySamples {a s : State} (h : Keeps a s) : ∀ x1, Keeps a (State.laySamples s x1) := by
  intro x1
  unfold State.laySamples; try dsimp only
  repeat' first
    | with_reducible assumption
    | with_reducible apply Keeps.setBytes
    | with_reducible apply Keeps.ite

theorem Keeps.recFreeze {a s : State} (h : Keeps a s) : ∀ x1 x2, Keeps a (State.recFreeze s x1 x2) := by
  intro x1 x2
  unfold State.recFreeze; try dsimp only
  repeat' first
    | with_reducible assumption
    | with_reducible apply Keeps.laySamples
    | with_reducible apply Keeps.setBytes
    | with_reducible apply Keeps.event
    | with_reducible apply Keeps.reportFault
    | with_reducible apply Keeps.recHeader
    | with_reducible apply Keeps.put
    | with_reducible apply Keeps.flag
    | with_reducible apply Keeps.setPageSt
    | with_reducible refine Keeps.foldl ?_ (fun _ _ _ => ?_)
    | with_reducible refine Keeps.foldl2 ?_ (fun _ _ _ => ?_)
    | with_reducible apply Keeps.ite
    | split
    | refine Keeps.of2 (by with_reducible assumption) ?_

theorem Keeps.recReplay {a s : State} (h : Keeps a s) : Keeps a (State.recReplay s) := by
  unfold State.recReplay; try dsimp only
  repeat' first
    | with_reducible assumption
    | with_reducible apply Keeps.put
    | with_reducible apply Keeps.setPageSt
    | with_reducible apply Keeps.ite

theorem Keeps.recCtrl {a s : State} (h : Keeps a s) : ∀ x1, Keeps a (State.recCtrl s x1) := by
  intro x1
  unfold State.recCtrl; try dsimp only
  repeat' first
    | with_reducible assumption
    | with_reducible apply Keeps.recArm
    | with_reducible apply Keeps.recTrigger
    | with_reducible apply Keeps.recReplay
    | with_reducible apply Keeps.ite

theorem Keeps.replayFrame {a s : State} (h : Keeps a s) : ∀ x1, Keeps a (State.replayFrame s x1) := by
  intro x1
  unfold State.replayFrame; try dsimp only
  repeat' first
    | with_reducible assumption
    | with_reducible apply Keeps.storeChain
    | refine Keeps.takeBlocks ?_ _ _ _ _ (by with_reducible assumption)
    | split
    | with_reducible apply Keeps.upd
    | rfl
    | with_reducible exact OtpKept.refl _

theorem Keeps.replayed {a s : State} (h : Keeps a s) : ∀ x1, Keeps a (State.replayed s x1).2 := by
  intro x1
  unfold State.replayed; try dsimp only
  repeat' first
    | with_reducible assumption
    | with_reducible apply Keeps.slotKey
    | with_reducible apply Keeps.freeVal
    | with_reducible apply Keeps.ite
    | with_reducible apply Keeps.ite2
    | split
    | refine Keeps.of2 (by with_reducible assumption) ?_

theorem Keeps.replayFrames {a s : State} (h : Keeps a s) : ∀ x1, Keeps a (State.replayFrames s x1) := by
  intro x1
  unfold State.replayFrames; try dsimp only
  repeat' first
    | with_reducible assumption
    | with_reducible apply Keeps.replayed
    | with_reducible apply Keeps.replayFrame
    | with_reducible refine Keeps.foldl ?_ (fun _ _ _ => ?_)
    | with_reducible refine Keeps.foldl2 ?_ (fun _ _ _ => ?_)
    | with_reducible apply Keeps.ite
    | split
    | refine Keeps.of2 (by with_reducible assumption) ?_

theorem Keeps.recCfgRefused {a s : State} (h : Keeps a s) : ∀ x1 t, State.recCfgRefused s x1 = some t → Keeps a t := by
  intro x1 t e
  unfold State.recCfgRefused at e; try dsimp only at e
  repeat' first
    | with_reducible assumption
    | (with_reducible contradiction)
    | with_reducible refine Keeps.ofSome1 e ?_
    | (split at e)
    | with_reducible apply Keeps.lockViol
    | with_reducible apply Keeps.flag
    | with_reducible apply Keeps.ite
    | split

theorem Keeps.recRead {a s : State} (h : Keeps a s) : ∀ x1 x2, Keeps a (Machine.recRead s x1 x2).2 := by
  intro x1 x2
  unfold Machine.recRead; try dsimp only
  repeat' first
    | with_reducible assumption
    | with_reducible apply Keeps.ite
    | with_reducible apply Keeps.ite2
    | split
    | with_reducible apply Keeps.upd
    | rfl
    | with_reducible exact OtpKept.refl _

theorem Keeps.recWrite {a s : State} (h : Keeps a s) : ∀ x1 x2, Keeps a (Machine.recWrite s x1 x2) := by
  intro x1 x2
  unfold Machine.recWrite; try dsimp only
  repeat' first
    | with_reducible assumption
    | with_reducible apply Keeps.recMark
    | with_reducible apply Keeps.recCtrl
    | with_reducible apply Keeps.ite

theorem Keeps.execPostEnd {a s : State} (h : Keeps a s) : KeepsAll a (Machine.execPostEnd s) := by
  unfold Machine.execPostEnd; try dsimp only
  repeat' first
    | with_reducible assumption
    | with_reducible apply Keeps.ite
    | with_reducible apply KeepsAll.ite
    | with_reducible apply KeepsAll.next
    | with_reducible apply Keeps.upd
    | rfl
    | with_reducible exact OtpKept.refl _

theorem Keeps.execFrozen {a s : State} (h : Keeps a s) : ∀ x0 x1, KeepsAll a (Machine.execFrozen x0 x1 s) := by
  intro x0 x1
  unfold Machine.execFrozen; try dsimp only
  repeat' first
    | with_reducible assumption
    | with_reducible apply Keeps.recFreeze
    | with_reducible apply Keeps.ite
    | with_reducible apply KeepsAll.ite
    | with_reducible apply KeepsAll.next

theorem Keeps.execReplayDone {a s : State} (h : Keeps a s) : ∀ x0, KeepsAll a (Machine.execReplayDone x0 s) := by
  intro x0
  unfold Machine.execReplayDone; try dsimp only
  repeat' first
    | with_reducible assumption
    | with_reducible apply Keeps.put
    | with_reducible apply Keeps.flag
    | with_reducible apply Keeps.replayFrames
    | with_reducible apply Keeps.setPageSt
    | with_reducible apply Keeps.ite
    | with_reducible apply KeepsAll.ite
    | with_reducible apply KeepsAll.next

theorem Keeps.setPin {a s : State} (h : Keeps a s) : ∀ x1 x2, Keeps a (State.setPin s x1 x2) := by
  intro x1 x2
  unfold State.setPin; try dsimp only
  repeat' first
    | with_reducible assumption
    | with_reducible apply Keeps.putRegBit

theorem Keeps.levelFlags {a s : State} (h : Keeps a s) : Keeps a (State.levelFlags s) := by
  unfold State.levelFlags; try dsimp only
  repeat' first
    | with_reducible assumption
    | with_reducible apply Keeps.putRegBit
    | with_reducible refine Keeps.foldl ?_ (fun _ _ _ => ?_)
    | with_reducible refine Keeps.foldl2 ?_ (fun _ _ _ => ?_)
    | with_reducible apply Keeps.ite

theorem Keeps.pinEdge {a s : State} (h : Keeps a s) : ∀ x1 x2, Keeps a (State.pinEdge s x1 x2) := by
  intro x1 x2
  unfold State.pinEdge; try dsimp only
  repeat' first
    | with_reducible assumption
    | with_reducible apply Keeps.event
    | with_reducible refine Keeps.foldl ?_ (fun _ _ _ => ?_)
    | with_reducible refine Keeps.foldl2 ?_ (fun _ _ _ => ?_)
    | with_reducible apply Keeps.ite

theorem Keeps.pinTakes {a s : State} (h : Keeps a s) : ∀ x1 x2, Keeps a (State.pinTakes s x1 x2) := by
  intro x1 x2
  unfold State.pinTakes; try dsimp only
  repeat' first
    | with_reducible assumption
    | with_reducible apply Keeps.setPin
    | with_reducible apply Keeps.putRegBit
    | with_reducible apply Keeps.levelFlags
    | with_reducible apply Keeps.ite

theorem Keeps.drivePins {a s : State} (h : Keeps a s) : Keeps a (State.drivePins s) := by
  unfold State.drivePins; try dsimp only
  repeat' first
    | with_reducible assumption
    | with_reducible apply Keeps.pinEdge
    | with_reducible apply Keeps.pinTakes
    | with_reducible refine Keeps.foldl ?_ (fun _ _ _ => ?_)
    | with_reducible refine Keeps.foldl2 ?_ (fun _ _ _ => ?_)
    | with_reducible apply Keeps.ite

theorem Keeps.pinTask {a s : State} (h : Keeps a s) : ∀ x1, Keeps a (State.pinTask s x1) := by
  intro x1
  unfold State.pinTask; try dsimp only
  repeat' first
    | with_reducible assumption
    | with_reducible apply Keeps.putRegBit
    | with_reducible apply Keeps.drivePins
    | with_reducible apply Keeps.ite

theorem Keeps.taskAct {a s : State} (h : Keeps a s) : ∀ x1, Keeps a (State.taskAct s x1) := by
  intro x1
  unfold State.taskAct; try dsimp only
  repeat' first
    | with_reducible assumption
    | with_reducible apply Keeps.recArm
    | with_reducible apply Keeps.pinTask
    | with_reducible apply Keeps.tsnSample
    | with_reducible apply Keeps.putRegBit
    | with_reducible apply Keeps.tmrStart
    | with_reducible apply Keeps.tmrCapture
    | with_reducible apply Keeps.tmrClear
    | with_reducible apply Keeps.recTrigger
    | with_reducible apply Keeps.tmrStop
    | with_reducible apply Keeps.ite

theorem Keeps.deliverTask {a s : State} (h : Keeps a s) : ∀ x1 x2, Keeps a (State.deliverTask s x1 x2) := by
  intro x1 x2
  unfold State.deliverTask; try dsimp only
  repeat' first
    | with_reducible assumption
    | with_reducible apply Keeps.taskAct
    | with_reducible apply Keeps.setReg
    | with_reducible apply Keeps.putRegBit
    | with_reducible apply Keeps.cfgChange
    | with_reducible apply Keeps.putBit
    | with_reducible apply Keeps.flag
    | with_reducible apply Keeps.countSat
    | with_reducible apply Keeps.ite
    | with_reducible apply Keeps.upd
    | rfl
    | with_reducible exact OtpKept.refl _

theorem Keeps.deliverOne {a s : State} (h : Keeps a s) : ∀ x1, Keeps a (State.deliverOne s x1) := by
  intro x1
  unfold State.deliverOne; try dsimp only
  repeat' first
    | with_reducible assumption
    | with_reducible apply Keeps.deliverTask
    | with_reducible apply Keeps.ite
    | with_reducible apply Keeps.upd
    | rfl
    | with_reducible exact OtpKept.refl _

theorem Keeps.deliverAll {a s : State} (h : Keeps a s) : Keeps a (State.deliverAll s) := by
  unfold State.deliverAll; try dsimp only
  repeat' first
    | with_reducible assumption
    | with_reducible apply Keeps.deliverOne
    | with_reducible refine Keeps.foldl ?_ (fun _ _ _ => ?_)
    | with_reducible refine Keeps.foldl2 ?_ (fun _ _ _ => ?_)
    | with_reducible apply Keeps.ite

theorem Keeps.fabricEdge {a s : State} (h : Keeps a s) : Keeps a (State.fabricEdge s) := by
  unfold State.fabricEdge; try dsimp only
  repeat' first
    | with_reducible assumption
    | with_reducible apply Keeps.deliverAll
    | with_reducible apply Keeps.upd
    | rfl
    | with_reducible exact OtpKept.refl _

theorem Keeps.swTrig {a s : State} (h : Keeps a s) : ∀ x1, Keeps a (State.swTrig s x1) := by
  intro x1
  unfold State.swTrig; try dsimp only
  repeat' first
    | with_reducible assumption
    | with_reducible apply Keeps.event
    | with_reducible refine Keeps.foldl ?_ (fun _ _ _ => ?_)
    | with_reducible refine Keeps.foldl2 ?_ (fun _ _ _ => ?_)
    | with_reducible apply Keeps.ite

theorem Keeps.taskTrig {a s : State} (h : Keeps a s) : ∀ x1, Keeps a (State.taskTrig s x1) := by
  intro x1
  unfold State.taskTrig; try dsimp only
  repeat' first
    | with_reducible assumption
    | with_reducible apply Keeps.ite
    | with_reducible apply Keeps.upd
    | rfl
    | with_reducible exact OtpKept.refl _

theorem Keeps.altCheck {a s : State} (h : Keeps a s) : Keeps a (State.altCheck s) := by
  unfold State.altCheck; try dsimp only
  repeat' first
    | with_reducible assumption
    | with_reducible apply Keeps.flag
    | with_reducible apply Keeps.ite

theorem Keeps.evfWrite {a s : State} (h : Keeps a s) : ∀ x1 x2, Keeps a (Machine.evfWrite s x1 x2) := by
  intro x1 x2
  unfold Machine.evfWrite; try dsimp only
  repeat' first
    | with_reducible assumption
    | with_reducible apply Keeps.taskTrig
    | with_reducible apply Keeps.setPageSt
    | with_reducible apply Keeps.swTrig
    | with_reducible apply Keeps.ite

theorem Keeps.gpioWrite {a s : State} (h : Keeps a s) : ∀ x1, Keeps a (Machine.gpioWrite s x1) := by
  intro x1
  unfold Machine.gpioWrite; try dsimp only
  repeat' first
    | with_reducible assumption
    | with_reducible apply Keeps.levelFlags
    | with_reducible apply Keeps.altCheck
    | with_reducible apply Keeps.drivePins
    | with_reducible apply Keeps.ite

theorem Keeps.execEventSample {a s : State} (h : Keeps a s) : KeepsAll a (Machine.execEventSample s) := by
  unfold Machine.execEventSample; try dsimp only
  repeat' first
    | with_reducible assumption
    | with_reducible apply Keeps.fabricEdge
    | with_reducible apply Keeps.ite
    | with_reducible apply KeepsAll.ite
    | with_reducible apply KeepsAll.next

theorem Keeps.execHeldEventsSample {a s : State} (h : Keeps a s) : KeepsAll a (Machine.execHeldEventsSample s) := by
  unfold Machine.execHeldEventsSample; try dsimp only
  repeat' first
    | with_reducible assumption
    | with_reducible apply Keeps.fabricEdge
    | with_reducible apply Keeps.ite
    | with_reducible apply KeepsAll.ite
    | with_reducible apply KeepsAll.next

theorem Keeps.execTaskTrigger {a s : State} (h : Keeps a s) : ∀ x0, KeepsAll a (Machine.execTaskTrigger x0 s) := by
  intro x0
  unfold Machine.execTaskTrigger; try dsimp only
  repeat' first
    | with_reducible assumption
    | with_reducible apply Keeps.deliverOne
    | with_reducible apply Keeps.ite
    | with_reducible apply KeepsAll.ite
    | with_reducible apply KeepsAll.next

theorem Keeps.execPinEvt {a s : State} (h : Keeps a s) : ∀ x0 x1, KeepsAll a (Machine.execPinEvt x0 x1 s) := by
  intro x0 x1
  unfold Machine.execPinEvt; try dsimp only
  repeat' first
    | with_reducible assumption
    | with_reducible apply Keeps.setPin
    | with_reducible apply Keeps.pinEdge
    | with_reducible apply Keeps.ite
    | with_reducible apply KeepsAll.ite
    | with_reducible apply KeepsAll.next

theorem Keeps.execGpioInt {a s : State} (h : Keeps a s) : ∀ x0 x1, KeepsAll a (Machine.execGpioInt x0 x1 s) := by
  intro x0 x1
  unfold Machine.execGpioInt; try dsimp only
  repeat' first
    | with_reducible assumption
    | with_reducible apply Keeps.pinTakes
    | with_reducible apply Keeps.ite
    | with_reducible apply KeepsAll.ite
    | with_reducible apply KeepsAll.next

theorem Keeps.freeBytes {a s : State} (h : Keeps a s) : ∀ n, Keeps a (State.freeBytes s n).2 := by
  intro n
  induction n generalizing s
  case zero => exact h
  case succ n ih => exact ih h.freeVal

theorem Keeps.viewBytes {a s : State} (h : Keeps a s) : ∀ x1 x2, Keeps a (State.viewBytes s x1 x2).2 := by
  intro x1 x2
  unfold State.viewBytes; try dsimp only
  repeat' first
    | with_reducible assumption
    | with_reducible apply Keeps.freeBytes
    | with_reducible apply Keeps.ite
    | with_reducible apply Keeps.ite2
    | refine Keeps.of2 (by with_reducible assumption) ?_

theorem Keeps.imageError {a s : State} (h : Keeps a s) : ∀ x1 x2 x3 x4 x5, Keeps a (State.imageError s x1 x2 x3 x4 x5).2 := by
  intro x1 x2 x3 x4 x5
  unfold State.imageError; try dsimp only
  repeat' first
    | with_reducible assumption
    | with_reducible apply Keeps.viewBytes
    | with_reducible apply Keeps.ite
    | with_reducible apply Keeps.ite2
    | split
    | refine Keeps.of2 (by with_reducible assumption) ?_

theorem Keeps.authRecord {a s : State} (h : Keeps a s) : ∀ x1 x2, Keeps a (State.authRecord s x1 x2) := by
  intro x1 x2
  unfold State.authRecord; try dsimp only
  repeat' first
    | with_reducible assumption
    | with_reducible apply Keeps.put
    | with_reducible apply Keeps.flag
    | with_reducible apply Keeps.ite

theorem Keeps.checkHome {a s : State} (h : Keeps a s) : ∀ x1 x2 x3, Keeps a (State.checkHome s x1 x2 x3).2 := by
  intro x1 x2 x3
  unfold State.checkHome; try dsimp only
  repeat' first
    | with_reducible assumption
    | with_reducible apply Keeps.imageError
    | with_reducible apply Keeps.viewBytes
    | with_reducible apply Keeps.authRecord
    | with_reducible apply Keeps.ite
    | with_reducible apply Keeps.ite2
    | split
    | refine Keeps.of2 (by with_reducible assumption) ?_

theorem Keeps.sealOf {a s : State} (h : Keeps a s) : Keeps a (State.sealOf s).2 := by
  unfold State.sealOf; try dsimp only
  repeat' first
    | with_reducible assumption
    | with_reducible apply Keeps.viewBytes
    | with_reducible refine Keeps.foldl ?_ (fun _ _ _ => ?_)
    | with_reducible refine Keeps.foldl2 ?_ (fun _ _ _ => ?_)
    | split
    | refine Keeps.of2 (by with_reducible assumption) ?_

theorem Keeps.loadCode {a s : State} (h : Keeps a s) : ∀ x1 x2 x3, Keeps a (State.loadCode s x1 x2 x3).2 := by
  intro x1 x2 x3
  unfold State.loadCode; try dsimp only
  repeat' first
    | with_reducible assumption
    | with_reducible apply Keeps.setBytes
    | with_reducible apply Keeps.viewBytes
    | split
    | refine Keeps.of2 (by with_reducible assumption) ?_

theorem Keeps.setUpd {a s : State} (h : Keeps a s) : ∀ x1, Keeps a (State.setUpd s x1) := by
  intro x1
  unfold State.setUpd; try dsimp only
  repeat' first
    | with_reducible assumption
    | with_reducible apply Keeps.upd
    | rfl
    | with_reducible exact OtpKept.refl _

theorem Keeps.updEnter {a s : State} (h : Keeps a s) : ∀ x1, Keeps a (State.updEnter s x1) := by
  intro x1
  unfold State.updEnter; try dsimp only
  repeat' first
    | with_reducible assumption
    | with_reducible apply Keeps.put
    | with_reducible apply Keeps.setPageSt
    | with_reducible apply Keeps.ite

theorem Keeps.updEnd {a s : State} (h : Keeps a s) : ∀ x1, Keeps a (State.updEnd s x1) := by
  intro x1
  unfold State.updEnd; try dsimp only
  repeat' first
    | with_reducible assumption
    | with_reducible apply Keeps.put
    | with_reducible apply Keeps.flag

theorem Keeps.manifest {a s : State} (h : Keeps a s) : Keeps a (State.manifest s).2 := by
  unfold State.manifest; try dsimp only
  repeat' first
    | with_reducible assumption
    | with_reducible apply Keeps.viewBytes
    | refine Keeps.of2 (by with_reducible assumption) ?_

theorem Keeps.updBusy {a s : State} (h : Keeps a s) : Keeps a (State.updBusy s) := by
  unfold State.updBusy; try dsimp only
  repeat' first
    | with_reducible assumption
    | with_reducible apply Keeps.put

theorem Keeps.journal {a s : State} (h : Keeps a s) : ∀ x1 x2 x3, Keeps a (State.journal s x1 x2 x3) := by
  intro x1 x2 x3
  unfold State.journal; try dsimp only
  repeat' first
    | with_reducible assumption
    | with_reducible apply Keeps.eraseSector
    | with_reducible apply Keeps.programBytes
    | with_reducible apply Keeps.setUpd
    | with_reducible apply Keeps.ite
    | with_reducible apply Keeps.upd
    | rfl
    | with_reducible exact OtpKept.refl _

theorem Keeps.stagedImages {a s : State} (h : Keeps a s) : ∀ d m ts, Keeps a (State.stagedImages s d m ts).2 := by
  intro d m ts
  induction ts generalizing s
  case nil => exact h
  case cons t ts ih =>
    unfold State.stagedImages; dsimp only
    repeat' first
      | with_reducible assumption
      | with_reducible apply Keeps.ite2
      | with_reducible apply Keeps.authRecord
      | with_reducible apply ih
      | with_reducible apply Keeps.viewBytes
      | with_reducible apply Keeps.imageError
      | refine Keeps.of2 (by with_reducible assumption) ?_
      | split

theorem Keeps.stageChecks {a s : State} (h : Keeps a s) : Keeps a (State.stageChecks s).2.2 := by
  unfold State.stageChecks; try dsimp only
  repeat' first
    | with_reducible assumption
    | with_reducible apply Keeps.manifest
    | with_reducible apply Keeps.viewBytes
    | with_reducible apply Keeps.stagedImages
    | with_reducible refine Keeps.foldl ?_ (fun _ _ _ => ?_)
    | with_reducible refine Keeps.foldl2 ?_ (fun _ _ _ => ?_)
    | with_reducible apply Keeps.ite
    | with_reducible apply Keeps.ite3
    | split
    | refine Keeps.of2 (by with_reducible assumption) ?_

theorem Keeps.saveCopies {a s : State} (h : Keeps a s) : ∀ ts k, Keeps a (State.saveCopies s ts k) := by
  intro ts k
  induction ts generalizing s k
  case nil => exact h
  case cons t ts ih =>
    unfold State.saveCopies
    exact ih ((Keeps.foldl h (fun _ hu _ => hu.eraseSector _)).programBytes _ _) _

theorem Keeps.stageEnd {a s : State} (h : Keeps a s) : Keeps a (State.stageEnd s) := by
  unfold State.stageEnd; try dsimp only
  repeat' first
    | with_reducible assumption
    | with_reducible apply Keeps.journal
    | with_reducible apply Keeps.saveCopies
    | with_reducible apply Keeps.stageChecks
    | with_reducible apply Keeps.updEnd
    | with_reducible apply Keeps.put
    | with_reducible apply Keeps.updEnter
    | with_reducible apply Keeps.updBusy
    | with_reducible apply Keeps.setUpd
    | with_reducible apply Keeps.freeVal
    | with_reducible apply Keeps.ite
    | split
    | refine Keeps.of2 (by with_reducible assumption) ?_
    | refine Keeps.of3 (by with_reducible assumption) ?_
    | with_reducible apply Keeps.upd
    | rfl
    | with_reducible exact OtpKept.refl _

theorem Keeps.loadShadow {a s : State} (h : Keeps a s) : ∀ x1 x2, Keeps a (State.loadShadow s x1 x2) := by
  intro x1 x2
  unfold State.loadShadow; try dsimp only
  repeat' first
    | with_reducible assumption
    | with_reducible apply Keeps.loadCode
    | with_reducible apply Keeps.setEngine
    | split
    | refine Keeps.of2 (by with_reducible assumption) ?_
    | with_reducible apply Keeps.upd
    | rfl
    | with_reducible exact OtpKept.refl _

theorem Keeps.loadShadows {a s : State} (h : Keeps a s) : Keeps a (State.loadShadows s) := by
  unfold State.loadShadows; try dsimp only
  repeat' first
    | with_reducible assumption
    | with_reducible apply Keeps.loadShadow
    | with_reducible refine Keeps.foldl ?_ (fun _ _ _ => ?_)
    | with_reducible refine Keeps.foldl2 ?_ (fun _ _ _ => ?_)
    | with_reducible apply Keeps.ite

theorem Keeps.prepare {a s : State} (h : Keeps a s) : ∀ x1, Keeps a (State.prepare s x1) := by
  intro x1
  unfold State.prepare; try dsimp only
  repeat' first
    | with_reducible assumption
    | with_reducible apply Keeps.journal
    | with_reducible apply Keeps.loadShadows
    | with_reducible apply Keeps.updEnter
    | with_reducible apply Keeps.updBusy
    | with_reducible apply Keeps.setUpd
    | with_reducible apply Keeps.upd
    | rfl
    | with_reducible exact OtpKept.refl _

theorem Keeps.sendCommitAt {a s : State} (h : Keeps a s) : ∀ x1 x2, Keeps a (State.sendCommitAt s x1 x2) := by
  intro x1 x2
  unfold State.sendCommitAt; try dsimp only
  repeat' first
    | with_reducible assumption
    | with_reducible apply Keeps.hvlSend

theorem Keeps.fallDue {a s : State} (h : Keeps a s) : ∀ x1, Keeps a (State.fallDue s x1) := by
  intro x1
  unfold State.fallDue; try dsimp only
  repeat' first
    | with_reducible assumption
    | with_reducible apply Keeps.setUpd
    | with_reducible apply Keeps.ite
    | with_reducible apply Keeps.upd
    | rfl
    | with_reducible exact OtpKept.refl _

theorem Keeps.unsuspend {a s : State} (h : Keeps a s) : Keeps a (State.unsuspend s) := by
  unfold State.unsuspend; try dsimp only
  repeat' first
    | with_reducible assumption
    | with_reducible apply Keeps.flcCtrl
    | with_reducible apply Keeps.setUpd
    | with_reducible apply Keeps.ite
    | with_reducible apply Keeps.upd
    | rfl
    | with_reducible exact OtpKept.refl _

theorem Keeps.abandon {a s : State} (h : Keeps a s) : Keeps a (State.abandon s) := by
  unfold State.abandon; try dsimp only
  repeat' first
    | with_reducible assumption
    | with_reducible apply Keeps.journal
    | with_reducible apply Keeps.unsuspend
    | with_reducible apply Keeps.updEnd
    | with_reducible apply Keeps.put
    | with_reducible apply Keeps.updEnter
    | with_reducible apply Keeps.updBusy

theorem Keeps.updCmd {a s : State} (h : Keeps a s) : ∀ x1, Keeps a (State.updCmd s x1) := by
  intro x1
  unfold State.updCmd; try dsimp only
  repeat' first
    | with_reducible assumption
    | with_reducible apply Keeps.journal
    | with_reducible apply Keeps.updEnd
    | with_reducible apply Keeps.prepare
    | with_reducible apply Keeps.put
    | with_reducible apply Keeps.updEnter
    | with_reducible apply Keeps.updBusy
    | with_reducible apply Keeps.setUpd
    | with_reducible apply Keeps.sendCommitAt
    | with_reducible apply Keeps.fallDue
    | with_reducible apply Keeps.abandon
    | with_reducible apply Keeps.ite
    | with_reducible apply Keeps.upd
    | rfl
    | with_reducible exact OtpKept.refl _

theorem Keeps.markParts {a s : State} (h : Keeps a s) : ∀ x1 x2, Keeps a (State.markParts s x1 x2) := by
  intro x1 x2
  unfold State.markParts; try dsimp only
  repeat' first
    | with_reducible assumption
    | with_reducible apply Keeps.put

theorem Keeps.updDone {a s : State} (h : Keeps a s) : Keeps a (State.updDone s) := by
  unfold State.updDone; try dsimp only
  repeat' first
    | with_reducible assumption
    | with_reducible apply Keeps.journal
    | with_reducible apply Keeps.setReg
    | with_reducible apply Keeps.updEnd
    | with_reducible apply Keeps.updEnter
    | with_reducible apply Keeps.updBusy
    | with_reducible apply Keeps.ite

theorem Keeps.raiseMinOf {a s : State} (h : Keeps a s) : ∀ x1 x2, Keeps a (State.raiseMinOf s x1 x2) := by
  intro x1 x2
  unfold State.raiseMinOf; try dsimp only
  repeat' first
    | with_reducible assumption
    | with_reducible apply Keeps.put
    | with_reducible apply Keeps.otpSet
    | with_reducible apply Keeps.ite

theorem Keeps.raiseMin {a s : State} (h : Keeps a s) : Keeps a (State.raiseMin s) := by
  unfold State.raiseMin; try dsimp only
  repeat' first
    | with_reducible assumption
    | with_reducible apply Keeps.raiseMinOf
    | with_reducible refine Keeps.foldl ?_ (fun _ _ _ => ?_)
    | with_reducible refine Keeps.foldl2 ?_ (fun _ _ _ => ?_)
    | with_reducible apply Keeps.ite
    | split

theorem Keeps.updAdvance {a s : State} (h : Keeps a s) : Keeps a (State.updAdvance s) := by
  unfold State.updAdvance; try dsimp only
  repeat' first
    | with_reducible assumption
    | with_reducible apply Keeps.journal
    | with_reducible apply Keeps.raiseMin
    | with_reducible apply Keeps.updDone
    | with_reducible apply Keeps.updEnter
    | with_reducible apply Keeps.setUpd
    | with_reducible apply Keeps.flag
    | with_reducible apply Keeps.ite
    | with_reducible apply Keeps.upd
    | rfl
    | with_reducible exact OtpKept.refl _

theorem Keeps.takeEffect {a s : State} (h : Keeps a s) : ∀ x1 x2, Keeps a (State.takeEffect s x1 x2) := by
  intro x1 x2
  unfold State.takeEffect; try dsimp only
  repeat' first
    | with_reducible assumption
    | with_reducible apply Keeps.journal
    | with_reducible apply Keeps.markParts
    | with_reducible apply Keeps.updAdvance
    | with_reducible apply Keeps.ite

theorem Keeps.commit {a s : State} (h : Keeps a s) : Keeps a (State.commit s) := by
  unfold State.commit; try dsimp only
  repeat' first
    | with_reducible assumption
    | with_reducible apply Keeps.journal
    | with_reducible apply Keeps.unsuspend
    | with_reducible apply Keeps.put
    | with_reducible apply Keeps.updEnter
    | with_reducible apply Keeps.updBusy
    | with_reducible apply Keeps.updAdvance
    | with_reducible apply Keeps.setUpd
    | with_reducible apply Keeps.takeEffect
    | with_reducible apply Keeps.flag
    | with_reducible apply Keeps.ite

theorem Keeps.copySector {a s : State} (h : Keeps a s) : ∀ x1 x2 x3 x4, Keeps a (State.copySector s x1 x2 x3 x4) := by
  intro x1 x2 x3 x4
  unfold State.copySector; try dsimp only
  repeat' first
    | with_reducible assumption
    | with_reducible apply Keeps.eraseSector
    | with_reducible apply Keeps.programBytes

theorem Keeps.copyFails {a s : State} (h : Keeps a s) : ∀ x1, Keeps a (State.copyFails s x1) := by
  intro x1
  unfold State.copyFails; try dsimp only
  repeat' first
    | with_reducible assumption
    | with_reducible apply Keeps.put
    | with_reducible apply Keeps.updBusy
    | with_reducible apply Keeps.setUpd
    | with_reducible apply Keeps.flag
    | with_reducible apply Keeps.upd
    | rfl
    | with_reducible exact OtpKept.refl _

theorem Keeps.homeCopy {a s : State} (h : Keeps a s) : ∀ x1, Keeps a (State.homeCopy s x1) := by
  intro x1
  unfold State.homeCopy; try dsimp only
  repeat' first
    | with_reducible assumption
    | with_reducible apply Keeps.journal
    | with_reducible apply Keeps.copyFails
    | with_reducible apply Keeps.updDone
    | with_reducible apply Keeps.put
    | with_reducible apply Keeps.setFlash
    | with_reducible apply Keeps.updBusy
    | with_reducible apply Keeps.setUpd
    | with_reducible apply Keeps.copySector
    | with_reducible apply Keeps.ite
    | split
    | with_reducible apply Keeps.upd
    | rfl
    | with_reducible exact OtpKept.refl _

theorem Keeps.swapHalves {a s : State} (h : Keeps a s) : ∀ x1, Keeps a (State.swapHalves s x1) := by
  intro x1
  unfold State.swapHalves; try dsimp only
  repeat' first
    | with_reducible assumption
    | with_reducible apply Keeps.setEngine
    | with_reducible apply Keeps.upd
    | rfl
    | with_reducible exact OtpKept.refl _

theorem Keeps.completeCopies {a s : State} (h : Keeps a s) : ∀ x1, Keeps a (State.completeCopies s x1) := by
  intro x1
  unfold State.completeCopies; try dsimp only
  repeat' first
    | with_reducible assumption
    | with_reducible apply Keeps.journal
    | with_reducible apply Keeps.copyFails
    | with_reducible apply Keeps.markParts
    | with_reducible apply Keeps.setUpd
    | with_reducible apply Keeps.copySector
    | with_reducible refine Keeps.foldl ?_ (fun _ _ _ => ?_)
    | with_reducible refine Keeps.foldl2 ?_ (fun _ _ _ => ?_)
    | with_reducible apply Keeps.ite
    | split
    | with_reducible apply Keeps.upd
    | rfl
    | with_reducible exact OtpKept.refl _

theorem Keeps.restoreCopies {a s : State} (h : Keeps a s) : ∀ x1 x2 x3, Keeps a (State.restoreCopies s x1 x2 x3) := by
  intro x1 x2 x3
  unfold State.restoreCopies; try dsimp only
  repeat' first
    | with_reducible assumption
    | with_reducible apply Keeps.journal
    | with_reducible apply Keeps.eraseSector
    | with_reducible apply Keeps.programBytes
    | with_reducible refine Keeps.foldl ?_ (fun _ _ _ => ?_)
    | with_reducible refine Keeps.foldl2 ?_ (fun _ _ _ => ?_)
    | with_reducible apply Keeps.ite

theorem Keeps.updBoot {a s : State} (h : Keeps a s) : ∀ x1, Keeps a (State.updBoot s x1) := by
  intro x1
  unfold State.updBoot; try dsimp only
  repeat' first
    | with_reducible assumption
    | with_reducible apply Keeps.completeCopies
    | with_reducible apply Keeps.journal
    | with_reducible apply Keeps.setReg
    | with_reducible apply Keeps.updDone
    | with_reducible apply Keeps.put
    | with_reducible apply Keeps.updEnter
    | with_reducible apply Keeps.markParts
    | with_reducible apply Keeps.updBusy
    | with_reducible apply Keeps.updAdvance
    | with_reducible apply Keeps.setUpd
    | with_reducible apply Keeps.restoreCopies
    | with_reducible apply Keeps.fallDue
    | with_reducible apply Keeps.ite
    | split
    | with_reducible apply Keeps.upd
    | rfl
    | with_reducible exact OtpKept.refl _

theorem Keeps.updConfirm {a s : State} (h : Keeps a s) : ∀ x1 x2, Keeps a (State.updConfirm s x1 x2) := by
  intro x1 x2
  unfold State.updConfirm; try dsimp only
  repeat' first
    | with_reducible assumption
    | with_reducible apply Keeps.journal
    | with_reducible apply Keeps.markParts
    | with_reducible apply Keeps.updAdvance
    | with_reducible apply Keeps.ite
    | split

theorem Keeps.execStageDone {a s : State} (h : Keeps a s) : KeepsAll a (Machine.execStageDone s) := by
  unfold Machine.execStageDone; try dsimp only
  repeat' first
    | with_reducible assumption
    | with_reducible apply Keeps.stageEnd
    | with_reducible apply Keeps.ite
    | with_reducible apply KeepsAll.ite
    | with_reducible apply KeepsAll.next

theorem Keeps.execCommitSuspend {a s : State} (h : Keeps a s) : KeepsAll a (Machine.execCommitSuspend s) := by
  unfold Machine.execCommitSuspend; try dsimp only
  repeat' first
    | with_reducible assumption
    | with_reducible apply Keeps.flcCtrl
    | with_reducible apply Keeps.setUpd
    | with_reducible apply Keeps.ite
    | with_reducible apply KeepsAll.ite
    | with_reducible apply KeepsAll.next
    | with_reducible apply Keeps.upd
    | rfl
    | with_reducible exact OtpKept.refl _

theorem Keeps.execCommitPoint {a s : State} (h : Keeps a s) : KeepsAll a (Machine.execCommitPoint s) := by
  unfold Machine.execCommitPoint; try dsimp only
  repeat' first
    | with_reducible assumption
    | with_reducible apply Keeps.journal
    | with_reducible apply Keeps.unsuspend
    | with_reducible apply Keeps.updEnd
    | with_reducible apply Keeps.updEnter
    | with_reducible apply Keeps.commit
    | with_reducible apply Keeps.updBusy
    | with_reducible apply Keeps.ite
    | with_reducible apply KeepsAll.ite
    | with_reducible apply KeepsAll.next

theorem Keeps.execHomeCopySector {a s : State} (h : Keeps a s) : ∀ x0, KeepsAll a (Machine.execHomeCopySector x0 s) := by
  intro x0
  unfold Machine.execHomeCopySector; try dsimp only
  repeat' first
    | with_reducible assumption
    | with_reducible apply Keeps.homeCopy
    | with_reducible apply Keeps.ite
    | with_reducible apply KeepsAll.ite
    | with_reducible apply KeepsAll.next

theorem Keeps.execEngineChangeover {a s : State} (h : Keeps a s) : ∀ x0 x1, KeepsAll a (Machine.execEngineChangeover x0 x1 s) := by
  intro x0 x1
  unfold Machine.execEngineChangeover; try dsimp only
  repeat' first
    | with_reducible assumption
    | with_reducible apply Keeps.swapHalves
    | with_reducible apply Keeps.setUpd
    | with_reducible apply Keeps.setEngine
    | with_reducible apply Keeps.ite
    | with_reducible apply KeepsAll.ite
    | with_reducible apply KeepsAll.next
    | with_reducible apply Keeps.upd
    | rfl
    | with_reducible exact OtpKept.refl _

theorem Keeps.execEngineAccept {a s : State} (h : Keeps a s) : ∀ x0 x1, KeepsAll a (Machine.execEngineAccept x0 x1 s) := by
  intro x0 x1
  unfold Machine.execEngineAccept; try dsimp only
  repeat' first
    | with_reducible assumption
    | with_reducible apply Keeps.swapHalves
    | with_reducible apply Keeps.setUpd
    | with_reducible apply Keeps.takeEffect
    | with_reducible apply Keeps.fallDue
    | with_reducible apply Keeps.ite
    | with_reducible apply KeepsAll.ite
    | with_reducible apply KeepsAll.next
    | with_reducible apply Keeps.upd
    | rfl
    | with_reducible exact OtpKept.refl _

theorem Keeps.execQuietLimit {a s : State} (h : Keeps a s) : KeepsAll a (Machine.execQuietLimit s) := by
  unfold Machine.execQuietLimit; try dsimp only
  repeat' first
    | with_reducible assumption
    | with_reducible apply Keeps.fallDue
    | with_reducible apply Keeps.ite
    | with_reducible apply KeepsAll.ite
    | with_reducible apply KeepsAll.next

theorem Keeps.execConfirmWindow {a s : State} (h : Keeps a s) : KeepsAll a (Machine.execConfirmWindow s) := by
  unfold Machine.execConfirmWindow; try dsimp only
  repeat' first
    | with_reducible assumption
    | with_reducible apply Keeps.fallDue
    | with_reducible apply Keeps.ite
    | with_reducible apply KeepsAll.ite
    | with_reducible apply KeepsAll.next
    | split

theorem Keeps.execFallback {a s : State} (h : Keeps a s) : KeepsAll a (Machine.execFallback s) := by
  unfold Machine.execFallback; try dsimp only
  repeat' first
    | with_reducible assumption
    | with_reducible apply Keeps.journal
    | with_reducible apply Keeps.put
    | with_reducible apply Keeps.updEnter
    | with_reducible apply Keeps.updBusy
    | with_reducible apply Keeps.askReset
    | with_reducible apply Keeps.setUpd
    | with_reducible apply Keeps.ite
    | with_reducible apply KeepsAll.ite
    | with_reducible apply KeepsAll.next
    | split
    | with_reducible apply Keeps.upd
    | rfl
    | with_reducible exact OtpKept.refl _

theorem Keeps.execCommitAt {a s : State} (h : Keeps a s) : ∀ x0, KeepsAll a (Machine.execCommitAt x0 s) := by
  intro x0
  unfold Machine.execCommitAt; try dsimp only
  repeat' first
    | with_reducible assumption
    | with_reducible apply Keeps.journal
    | with_reducible apply Keeps.unsuspend
    | with_reducible apply Keeps.updEnd
    | with_reducible apply Keeps.prepare
    | with_reducible apply Keeps.put
    | with_reducible apply Keeps.updEnter
    | with_reducible apply Keeps.updBusy
    | with_reducible apply Keeps.hvlUpdate
    | with_reducible refine Keeps.arrive ?_ (fun _ _ => ?_)
    | with_reducible apply Keeps.fallDue
    | with_reducible apply Keeps.ite
    | with_reducible apply KeepsAll.ite
    | with_reducible apply KeepsAll.next

theorem Keeps.flashStopped {a s : State} (h : Keeps a s) : Keeps a (State.flashStopped s) := by
  unfold State.flashStopped; try dsimp only
  repeat' first
    | with_reducible assumption
    | with_reducible apply Keeps.setFlash
    | with_reducible apply Keeps.ite
    | split
    | with_reducible apply Keeps.upd
    | rfl
    | with_reducible exact OtpKept.refl _

theorem Keeps.chipReset {a s : State} (h : Keeps a s) : ∀ x1 x2, Keeps a (State.chipReset s x1 x2) := by
  intro x1 x2
  unfold State.chipReset; try dsimp only
  repeat' first
    | with_reducible assumption
    | with_reducible apply Keeps.setReg
    | with_reducible apply Keeps.showScope
    | with_reducible apply Keeps.showUid
    | with_reducible apply Keeps.put
    | with_reducible apply Keeps.chipState
    | with_reducible apply Keeps.flashStopped
    | with_reducible apply Keeps.setStrap
    | with_reducible apply Keeps.ite
    | with_reducible apply Keeps.upd
    | rfl
    | with_reducible exact OtpKept.refl _

theorem Keeps.chipResetOrWait {a s : State} (h : Keeps a s) : ∀ x1 x2, Keeps a (State.chipResetOrWait s x1 x2) := by
  intro x1 x2
  unfold State.chipResetOrWait; try dsimp only
  repeat' first
    | with_reducible assumption
    | with_reducible apply Keeps.askReset
    | with_reducible apply Keeps.chipReset
    | with_reducible apply Keeps.ite
    | with_reducible apply Keeps.upd
    | rfl
    | with_reducible exact OtpKept.refl _

theorem Keeps.unhalt {a s : State} (h : Keeps a s) : ∀ x1, Keeps a (State.unhalt s x1) := by
  intro x1
  unfold State.unhalt; try dsimp only
  repeat' first
    | with_reducible assumption
    | with_reducible apply Keeps.put
    | with_reducible apply Keeps.ite

theorem Keeps.domainRestart {a s : State} (h : Keeps a s) : ∀ x1, Keeps a (State.domainRestart s x1) := by
  intro x1
  unfold State.domainRestart; try dsimp only
  repeat' first
    | with_reducible assumption
    | with_reducible apply Keeps.unhalt
    | with_reducible apply Keeps.put
    | with_reducible apply Keeps.markParts
    | with_reducible apply Keeps.updBusy
    | with_reducible apply Keeps.setUpd
    | with_reducible apply Keeps.icuRestart
    | with_reducible apply Keeps.countSat
    | with_reducible apply Keeps.ite
    | with_reducible apply Keeps.upd
    | rfl
    | with_reducible exact OtpKept.refl _

theorem Keeps.resetCtrl {a s : State} (h : Keeps a s) : ∀ x1, Keeps a (State.resetCtrl s x1) := by
  intro x1
  unfold State.resetCtrl; try dsimp only
  repeat' first
    | with_reducible assumption
    | with_reducible apply Keeps.chipResetOrWait
    | with_reducible apply Keeps.domainRestart
    | with_reducible apply Keeps.flag
    | with_reducible apply Keeps.ite

theorem Keeps.bootIlog {a s : State} (h : Keeps a s) : Keeps a (State.bootIlog s) := by
  unfold State.bootIlog; try dsimp only
  repeat' first
    | with_reducible assumption
    | with_reducible apply Keeps.eraseSector
    | with_reducible apply Keeps.raiseFlag
    | with_reducible apply Keeps.put
    | with_reducible apply Keeps.ite

theorem Keeps.bootRecord {a s : State} (h : Keeps a s) : Keeps a (State.bootRecord s) := by
  unfold State.bootRecord; try dsimp only
  repeat' first
    | with_reducible assumption
    | with_reducible apply Keeps.putRegBit
    | with_reducible apply Keeps.raiseFlag
    | with_reducible apply Keeps.put
    | with_reducible apply Keeps.putBit
    | with_reducible refine Keeps.foldl ?_ (fun _ _ _ => ?_)
    | with_reducible refine Keeps.foldl2 ?_ (fun _ _ _ => ?_)
    | with_reducible apply Keeps.ite
    | split
    | with_reducible apply Keeps.upd
    | rfl
    | with_reducible exact OtpKept.refl _

theorem Keeps.imgFail {a s : State} (h : Keeps a s) : ∀ x1, Keeps a (State.imgFail s x1) := by
  intro x1
  unfold State.imgFail; try dsimp only
  repeat' first
    | with_reducible assumption
    | with_reducible apply Keeps.put

theorem Keeps.bootImages {a s : State} (h : Keeps a s) : Keeps a (State.bootImages s) := by
  unfold State.bootImages; try dsimp only
  repeat' first
    | with_reducible assumption
    | with_reducible apply Keeps.sealOf
    | with_reducible apply Keeps.checkHome
    | with_reducible apply Keeps.viewBytes
    | with_reducible apply Keeps.put
    | with_reducible apply Keeps.imgFail
    | with_reducible refine Keeps.foldl ?_ (fun _ _ _ => ?_)
    | with_reducible refine Keeps.foldl2 ?_ (fun _ _ _ => ?_)
    | with_reducible apply Keeps.ite
    | split
    | refine Keeps.of2 (by with_reducible assumption) ?_
    | with_reducible apply Keeps.upd
    | rfl
    | with_reducible exact OtpKept.refl _

theorem Keeps.bootScc {a s : State} (h : Keeps a s) : Keeps a (State.bootScc s) := by
  unfold State.bootScc; try dsimp only
  repeat' first
    | with_reducible assumption
    | with_reducible apply Keeps.put
    | with_reducible apply Keeps.ite

theorem Keeps.bootSteps {a s : State} (h : Keeps a s) : ∀ x1 x2 x3, Keeps a (State.bootSteps s x1 x2 x3) := by
  intro x1 x2 x3
  unfold State.bootSteps; try dsimp only
  repeat' first
    | with_reducible assumption
    | with_reducible apply Keeps.clearRange
    | with_reducible apply Keeps.setReg
    | with_reducible apply Keeps.updBoot
    | with_reducible apply Keeps.bootRecord
    | with_reducible apply Keeps.bootImages
    | with_reducible apply Keeps.put
    | with_reducible apply Keeps.bootScc
    | with_reducible apply Keeps.bootIlog
    | with_reducible apply Keeps.upd
    | rfl
    | with_reducible exact OtpKept.refl _

theorem Keeps.releaseCore {a s : State} (h : Keeps a s) : ∀ x1, Keeps a (State.releaseCore s x1) := by
  intro x1
  unfold State.releaseCore; try dsimp only
  repeat' first
    | with_reducible assumption
    | with_reducible apply Keeps.put
    | with_reducible apply Keeps.takeEffect
    | with_reducible apply Keeps.ite
    | with_reducible apply Keeps.upd
    | rfl
    | with_reducible exact OtpKept.refl _

end Sys2Proof.Machine
end

