-- ==== Sys2Proof/Laws/Keeps6.lean ====
section
/-! SUPPORT. What the operations keep (Laws/Keeps.lean): Boot, Pages, Bus, Host, BusCommands, CoreCommands, RadioCommands, FaultCommands, FlashCommands, LinkCommands, PortCommands, SecurityCommands. -/

set_option linter.unusedTactic false
set_option linter.unreachableTactic false

namespace Sys2Proof.Machine

theorem Keeps.restartEnd {a s : State} (h : Keeps a s) : ∀ x1, Keeps a (State.restartEnd s x1) := by
  intro x1
  unfold State.restartEnd; try dsimp only
  repeat' first
    | with_reducible assumption
    | with_reducible apply Keeps.checkHome
    | with_reducible apply Keeps.releaseCore
    | with_reducible apply Keeps.imgFail
    | split
    | refine Keeps.of2 (by with_reducible assumption) ?_
    | with_reducible apply Keeps.upd
    | rfl
    | with_reducible exact OtpKept.refl _

theorem Keeps.idleFails {a s : State} (h : Keeps a s) : Keeps a (State.idleFails s) := by
  unfold State.idleFails; try dsimp only
  repeat' first
    | with_reducible assumption
    | with_reducible apply Keeps.put
    | with_reducible apply Keeps.setRadio
    | with_reducible apply Keeps.endPlain
    | with_reducible apply Keeps.ite
    | split
    | with_reducible apply Keeps.upd
    | rfl
    | with_reducible exact OtpKept.refl _

theorem Keeps.loadEngines {a s : State} (h : Keeps a s) : ∀ x1, Keeps a (State.loadEngines s x1) := by
  intro x1
  unfold State.loadEngines; try dsimp only
  repeat' first
    | with_reducible assumption
    | with_reducible apply Keeps.checkHome
    | with_reducible apply Keeps.loadCode
    | with_reducible apply Keeps.loadShadow
    | with_reducible apply Keeps.hvlUpdate
    | with_reducible apply Keeps.takeEffect
    | with_reducible apply Keeps.imgFail
    | with_reducible apply Keeps.setEngine
    | with_reducible apply Keeps.idleFails
    | with_reducible refine Keeps.foldl ?_ (fun _ _ _ => ?_)
    | with_reducible refine Keeps.foldl2 ?_ (fun _ _ _ => ?_)
    | with_reducible apply Keeps.ite
    | split
    | refine Keeps.of2 (by with_reducible assumption) ?_
    | with_reducible apply Keeps.upd
    | rfl
    | with_reducible exact OtpKept.refl _

theorem Keeps.handoverWrite {a s : State} (h : Keeps a s) : ∀ x1 x2, Keeps a (State.handoverWrite s x1 x2) := by
  intro x1 x2
  unfold State.handoverWrite; try dsimp only
  repeat' first
    | with_reducible assumption
    | with_reducible apply Keeps.domainRestart
    | with_reducible apply Keeps.ite
    | split

theorem Keeps.execPor {a s : State} (h : Keeps a s) : ∀ x0 x1, KeepsAll a (Machine.execPor x0 x1 s) := by
  intro x0 x1
  unfold Machine.execPor; try dsimp only
  repeat' first
    | with_reducible assumption
    | with_reducible apply Keeps.put
    | with_reducible apply Keeps.chipReset
    | with_reducible apply KeepsAll.next

theorem Keeps.execBor {a s : State} (h : Keeps a s) : ∀ x0 x1, KeepsAll a (Machine.execBor x0 x1 s) := by
  intro x0 x1
  unfold Machine.execBor; try dsimp only
  repeat' first
    | with_reducible assumption
    | with_reducible apply Keeps.put
    | with_reducible apply Keeps.chipReset
    | with_reducible apply Keeps.ite
    | with_reducible apply KeepsAll.ite
    | with_reducible apply KeepsAll.next

theorem Keeps.execPin {a s : State} (h : Keeps a s) : ∀ x0, KeepsAll a (Machine.execPin x0 s) := by
  intro x0
  unfold Machine.execPin; try dsimp only
  repeat' first
    | with_reducible assumption
    | with_reducible apply Keeps.chipResetOrWait
    | with_reducible apply KeepsAll.next

theorem Keeps.execWdt {a s : State} (h : Keeps a s) : ∀ x0, KeepsAll a (Machine.execWdt x0 s) := by
  intro x0
  unfold Machine.execWdt; try dsimp only
  repeat' first
    | with_reducible assumption
    | with_reducible apply Keeps.chipResetOrWait
    | with_reducible apply Keeps.ite
    | with_reducible apply KeepsAll.ite
    | with_reducible apply KeepsAll.next

theorem Keeps.execUpdateFallback {a s : State} (h : Keeps a s) : ∀ x0, KeepsAll a (Machine.execUpdateFallback x0 s) := by
  intro x0
  unfold Machine.execUpdateFallback; try dsimp only
  repeat' first
    | with_reducible assumption
    | with_reducible apply Keeps.chipResetOrWait
    | with_reducible apply Keeps.ite
    | with_reducible apply KeepsAll.ite
    | with_reducible apply KeepsAll.next

theorem Keeps.execFlashSafePointReset {a s : State} (h : Keeps a s) : ∀ x0, KeepsAll a (Machine.execFlashSafePointReset x0 s) := by
  intro x0
  unfold Machine.execFlashSafePointReset; try dsimp only
  repeat' first
    | with_reducible assumption
    | with_reducible apply Keeps.flcInterrupt
    | with_reducible apply Keeps.chipReset
    | with_reducible apply Keeps.ite
    | with_reducible apply KeepsAll.ite
    | with_reducible apply KeepsAll.next
    | split

theorem Keeps.execBootStart {a s : State} (h : Keeps a s) : ∀ x0, KeepsAll a (Machine.execBootStart x0 s) := by
  intro x0
  unfold Machine.execBootStart; try dsimp only
  repeat' first
    | with_reducible assumption
    | with_reducible apply Keeps.bootSteps
    | with_reducible apply Keeps.ite
    | with_reducible apply KeepsAll.ite
    | with_reducible apply KeepsAll.next

theorem Keeps.execCoreRelease {a s : State} (h : Keeps a s) : ∀ x0, KeepsAll a (Machine.execCoreRelease x0 s) := by
  intro x0
  unfold Machine.execCoreRelease; try dsimp only
  repeat' first
    | with_reducible assumption
    | with_reducible apply Keeps.releaseCore
    | with_reducible apply Keeps.restartEnd
    | with_reducible apply Keeps.ite
    | with_reducible apply KeepsAll.ite
    | with_reducible apply KeepsAll.next

theorem Keeps.execBootDone {a s : State} (h : Keeps a s) : KeepsAll a (Machine.execBootDone s) := by
  unfold Machine.execBootDone; try dsimp only
  repeat' first
    | with_reducible assumption
    | with_reducible apply Keeps.sealOf
    | with_reducible apply Keeps.askRewrite
    | with_reducible apply Keeps.put
    | with_reducible apply Keeps.flag
    | with_reducible apply Keeps.ite
    | with_reducible apply KeepsAll.ite
    | with_reducible apply KeepsAll.next
    | split
    | refine Keeps.of2 (by with_reducible assumption) ?_
    | with_reducible apply Keeps.upd
    | rfl
    | with_reducible exact OtpKept.refl _

theorem Keeps.execEngineCodeLoad {a s : State} (h : Keeps a s) : ∀ x0, KeepsAll a (Machine.execEngineCodeLoad x0 s) := by
  intro x0
  unfold Machine.execEngineCodeLoad; try dsimp only
  repeat' first
    | with_reducible assumption
    | with_reducible apply Keeps.loadEngines
    | with_reducible apply Keeps.ite
    | with_reducible apply KeepsAll.ite
    | with_reducible apply KeepsAll.next

theorem Keeps.execEngReady {a s : State} (h : Keeps a s) : KeepsAll a (Machine.execEngReady s) := by
  unfold Machine.execEngReady; try dsimp only
  repeat' first
    | with_reducible assumption
    | with_reducible apply Keeps.put
    | with_reducible apply Keeps.ite
    | with_reducible apply KeepsAll.ite
    | with_reducible apply KeepsAll.next

theorem Keeps.execHandoverWait {a s : State} (h : Keeps a s) : ∀ x0, KeepsAll a (Machine.execHandoverWait x0 s) := by
  intro x0
  unfold Machine.execHandoverWait; try dsimp only
  repeat' first
    | with_reducible assumption
    | with_reducible apply Keeps.put
    | with_reducible apply Keeps.domainRestart
    | with_reducible apply Keeps.ite
    | with_reducible apply KeepsAll.ite
    | with_reducible apply KeepsAll.next

theorem Keeps.blockRead {a s : State} (h : Keeps a s) : ∀ x1 x2 x3 x4, Keeps a (State.blockRead s x1 x2 x3 x4).2 := by
  intro x1 x2 x3 x4
  unfold State.blockRead; try dsimp only
  repeat' first
    | with_reducible assumption
    | with_reducible apply Keeps.recRead
    | with_reducible apply Keeps.fltRead
    | with_reducible apply Keeps.frmRead
    | with_reducible apply Keeps.setRegI
    | with_reducible apply Keeps.sptRead
    | with_reducible apply Keeps.flcRead
    | with_reducible apply Keeps.icuRead
    | with_reducible apply Keeps.secRead
    | with_reducible apply Keeps.lnkRead
    | with_reducible apply Keeps.ite
    | with_reducible apply Keeps.ite2
    | refine Keeps.of2 (by with_reducible assumption) ?_

theorem Keeps.pageRead {a s : State} (h : Keeps a s) : ∀ x1 x2 x3, Keeps a (State.pageRead s x1 x2 x3).2 := by
  intro x1 x2 x3
  unfold State.pageRead; try dsimp only
  repeat' first
    | with_reducible assumption
    | with_reducible apply Keeps.blockRead
    | with_reducible apply Keeps.ite
    | with_reducible apply Keeps.ite2
    | refine Keeps.of2 (by with_reducible assumption) ?_

theorem Keeps.sealStart {a s : State} (h : Keeps a s) : ∀ x1, Keeps a (State.sealStart s x1) := by
  intro x1
  unfold State.sealStart; try dsimp only
  repeat' first
    | with_reducible assumption
    | with_reducible apply Keeps.put
    | with_reducible apply Keeps.setPage
    | with_reducible apply Keeps.upd
    | rfl
    | with_reducible exact OtpKept.refl _

theorem Keeps.sealRequest {a s : State} (h : Keeps a s) : ∀ x1, Keeps a (State.sealRequest s x1) := by
  intro x1
  unfold State.sealRequest; try dsimp only
  repeat' first
    | with_reducible assumption
    | with_reducible apply Keeps.sealStart
    | with_reducible apply Keeps.setPage
    | with_reducible apply Keeps.ite
    | with_reducible apply Keeps.upd
    | rfl
    | with_reducible exact OtpKept.refl _

theorem Keeps.sealLatch {a s : State} (h : Keeps a s) : ∀ x1, Keeps a (State.sealLatch s x1) := by
  intro x1
  unfold State.sealLatch; try dsimp only
  repeat' first
    | with_reducible assumption
    | with_reducible apply Keeps.put
    | with_reducible apply Keeps.setPage
    | with_reducible apply Keeps.upd
    | rfl
    | with_reducible exact OtpKept.refl _

theorem Keeps.sealMix {a s : State} (h : Keeps a s) : ∀ os ns, Keeps a (State.sealMix s os ns).2 := by
  intro os ns
  induction ns generalizing s os
  case nil => cases os <;> exact h
  case cons n ns ih =>
    cases os
    case nil => exact h
    case cons o os =>
      have k : Keeps a (if o = n then (n, s) else (if s.freeVal.1.toNat % 2 = 0 then o else n, s.freeVal.2)).2 := Keeps.ite2 h h.freeVal
      exact ih k _

theorem Keeps.sealEnd {a s : State} (h : Keeps a s) : ∀ x1, Keeps a (State.sealEnd s x1) := by
  intro x1
  unfold State.sealEnd; try dsimp only
  repeat' first
    | with_reducible assumption
    | with_reducible apply Keeps.setReg
    | with_reducible apply Keeps.reportFault
    | with_reducible apply Keeps.sealStart
    | with_reducible apply Keeps.raiseFlag
    | with_reducible apply Keeps.put
    | with_reducible apply Keeps.sealMix
    | with_reducible apply Keeps.setPage
    | with_reducible apply Keeps.ite
    | split
    | refine Keeps.of2 (by with_reducible assumption) ?_
    | with_reducible apply Keeps.upd
    | rfl
    | with_reducible exact OtpKept.refl _

theorem Keeps.sealCtrlWrite {a s : State} (h : Keeps a s) : ∀ x1 x2, Keeps a (State.sealCtrlWrite s x1 x2) := by
  intro x1 x2
  unfold State.sealCtrlWrite; try dsimp only
  repeat' first
    | with_reducible assumption
    | with_reducible apply Keeps.sealRequest
    | with_reducible apply Keeps.setReg
    | with_reducible apply Keeps.sealLatch
    | with_reducible apply Keeps.ite

theorem Keeps.alarmsOff {a s : State} (h : Keeps a s) : Keeps a (State.alarmsOff s) := by
  unfold State.alarmsOff; try dsimp only
  repeat' first
    | with_reducible assumption
    | with_reducible apply Keeps.alarmDisarm
    | with_reducible refine Keeps.forN ?_ (fun _ _ _ => ?_)

theorem Keeps.enableEffect {a s : State} (h : Keeps a s) : ∀ x1 x2, Keeps a (State.enableEffect s x1 x2) := by
  intro x1 x2
  unfold State.enableEffect; try dsimp only
  repeat' first
    | with_reducible assumption
    | with_reducible apply Keeps.domEffect
    | with_reducible apply Keeps.sptKick
    | with_reducible apply Keeps.ctxTake
    | with_reducible apply Keeps.alarmsOff
    | with_reducible apply Keeps.levelFlags
    | with_reducible apply Keeps.clkEffect
    | with_reducible apply Keeps.hvlUpdate
    | with_reducible apply Keeps.radDisabled
    | with_reducible apply Keeps.ctxReturn
    | with_reducible apply Keeps.ite

theorem Keeps.setEnable {a s : State} (h : Keeps a s) : ∀ x1 x2, Keeps a (State.setEnable s x1 x2) := by
  intro x1 x2
  unfold State.setEnable; try dsimp only
  repeat' first
    | with_reducible assumption
    | with_reducible apply Keeps.put
    | with_reducible apply Keeps.cfgChange
    | with_reducible apply Keeps.enableEffect
    | with_reducible apply Keeps.ite

theorem Keeps.resetRegister {a s : State} (h : Keeps a s) : ∀ x1 x2 x3, Keeps a (State.resetRegister s x1 x2 x3) := by
  intro x1 x2 x3
  unfold State.resetRegister; try dsimp only
  repeat' first
    | with_reducible assumption
    | with_reducible apply Keeps.recCfg
    | with_reducible apply Keeps.setReg
    | with_reducible apply Keeps.setRegI
    | with_reducible refine Keeps.foldl ?_ (fun _ _ _ => ?_)
    | with_reducible refine Keeps.foldl2 ?_ (fun _ _ _ => ?_)
    | with_reducible apply Keeps.ite

theorem Keeps.resetRegisters {a s : State} (h : Keeps a s) : ∀ x1, Keeps a (State.resetRegisters s x1) := by
  intro x1
  unfold State.resetRegisters; try dsimp only
  repeat' first
    | with_reducible assumption
    | with_reducible apply Keeps.resetRegister
    | with_reducible refine Keeps.foldl ?_ (fun _ _ _ => ?_)
    | with_reducible refine Keeps.foldl2 ?_ (fun _ _ _ => ?_)

theorem Keeps.unstick {a s : State} (h : Keeps a s) : Keeps a (State.unstick s) := by
  unfold State.unstick; try dsimp only
  repeat' first
    | with_reducible assumption
    | with_reducible apply Keeps.freeBlock
    | with_reducible apply Keeps.setMemNat
    | with_reducible refine Keeps.foldl ?_ (fun _ _ _ => ?_)
    | with_reducible refine Keeps.foldl2 ?_ (fun _ _ _ => ?_)
    | with_reducible apply Keeps.upd
    | rfl
    | with_reducible exact OtpKept.refl _

theorem Keeps.resetEffects {a s : State} (h : Keeps a s) : ∀ x0 x2, Keeps a (State.resetEffects x0 s x2) := by
  intro x0 x2
  unfold State.resetEffects; try dsimp only
  repeat' first
    | with_reducible assumption
    | with_reducible apply Keeps.domEffect
    | with_reducible apply Keeps.sptPageReset
    | with_reducible apply Keeps.waitUpdate
    | with_reducible apply Keeps.alarmsOff
    | with_reducible apply Keeps.unstick
    | with_reducible apply Keeps.levelFlags
    | with_reducible apply Keeps.clkEffect
    | with_reducible apply Keeps.put
    | with_reducible apply Keeps.hvlUpdate
    | with_reducible apply Keeps.lptWrite
    | with_reducible apply Keeps.setPageSt
    | with_reducible apply Keeps.scsChanged
    | with_reducible refine Keeps.foldl ?_ (fun _ _ _ => ?_)
    | with_reducible refine Keeps.foldl2 ?_ (fun _ _ _ => ?_)
    | with_reducible apply Keeps.ite
    | with_reducible apply Keeps.upd
    | rfl
    | with_reducible exact OtpKept.refl _

theorem Keeps.softResetPage {a s : State} (h : Keeps a s) : ∀ x1, Keeps a (State.softResetPage s x1) := by
  intro x1
  unfold State.softResetPage; try dsimp only
  repeat' first
    | with_reducible assumption
    | with_reducible apply Keeps.resetRegisters
    | with_reducible apply Keeps.resetEffects
    | with_reducible apply Keeps.put
    | with_reducible apply Keeps.cfgChange
    | with_reducible apply Keeps.setPage
    | with_reducible apply Keeps.upd
    | rfl
    | with_reducible exact OtpKept.refl _

theorem Keeps.pageCtrlWrite {a s : State} (h : Keeps a s) : ∀ x1 x2, Keeps a (State.pageCtrlWrite s x1 x2) := by
  intro x1 x2
  unfold State.pageCtrlWrite; try dsimp only
  repeat' first
    | with_reducible assumption
    | with_reducible apply Keeps.softResetPage
    | with_reducible apply Keeps.lockViol
    | with_reducible apply Keeps.setEnable
    | with_reducible apply Keeps.put
    | with_reducible apply Keeps.ite

theorem Keeps.headerConfig {a s : State} (h : Keeps a s) : ∀ x1 x2 x3 x4, Keeps a (State.headerConfig s x1 x2 x3 x4) := by
  intro x1 x2 x3 x4
  unfold State.headerConfig; try dsimp only
  repeat' first
    | with_reducible assumption
    | with_reducible apply Keeps.lockViol
    | with_reducible apply Keeps.setReg
    | with_reducible apply Keeps.cfgChange
    | with_reducible apply Keeps.ite

theorem Keeps.headerWrite {a s : State} (h : Keeps a s) : ∀ x1 x2 x3, Keeps a (State.headerWrite s x1 x2 x3) := by
  intro x1 x2 x3
  unfold State.headerWrite; try dsimp only
  repeat' first
    | with_reducible assumption
    | with_reducible apply Keeps.sealCtrlWrite
    | with_reducible apply Keeps.setReg
    | with_reducible apply Keeps.lnkFlagsCleared
    | with_reducible apply Keeps.pageCtrlWrite
    | with_reducible apply Keeps.headerConfig
    | with_reducible apply Keeps.ite
    | split

theorem Keeps.wdtStart {a s : State} (h : Keeps a s) : Keeps a (State.wdtStart s) := by
  unfold State.wdtStart; try dsimp only
  repeat' first
    | with_reducible assumption
    | with_reducible apply Keeps.put

theorem Keeps.preWrite {a s : State} (h : Keeps a s) : ∀ x1 x2 x3 x4 t, State.preWrite s x1 x2 x3 x4 = some t → Keeps a t := by
  intro x1 x2 x3 x4 t e
  unfold State.preWrite at e; try dsimp only at e
  repeat' first
    | with_reducible assumption
    | (with_reducible contradiction)
    | with_reducible refine Keeps.ofSome1 e ?_
    | (split at e)
    | with_reducible apply Keeps.lockViol
    | with_reducible apply Keeps.reqWrite
    | with_reducible apply Keeps.flag
    | refine Keeps.recCfgRefused ?_ _ _ (by with_reducible assumption)
    | with_reducible apply Keeps.opWrite
    | with_reducible apply Keeps.ite
    | split

theorem Keeps.postWrite {a s : State} (h : Keeps a s) : ∀ x1 x2 x3 x4 x5, Keeps a (State.postWrite s x1 x2 x3 x4 x5) := by
  intro x1 x2 x3 x4 x5
  unfold State.postWrite; try dsimp only
  repeat' first
    | with_reducible assumption
    | with_reducible apply Keeps.domEffect
    | with_reducible apply Keeps.resetCtrl
    | with_reducible apply Keeps.tmrCmd
    | with_reducible apply Keeps.icuWrite
    | with_reducible apply Keeps.radCmd
    | with_reducible apply Keeps.tsnSample
    | with_reducible apply Keeps.gpioWrite
    | with_reducible apply Keeps.updCmd
    | with_reducible apply Keeps.frmWrite
    | with_reducible apply Keeps.tmrCfg
    | with_reducible apply Keeps.flcCtrl
    | with_reducible apply Keeps.waitUpdate
    | with_reducible apply Keeps.handoverWrite
    | with_reducible apply Keeps.nbtCmdWrite
    | with_reducible apply Keeps.secWrite
    | with_reducible apply Keeps.lnkWrite
    | with_reducible apply Keeps.wdtFeedWrite
    | with_reducible apply Keeps.alarmDisarm
    | with_reducible apply Keeps.updConfirm
    | with_reducible apply Keeps.clkEffect
    | with_reducible apply Keeps.put
    | with_reducible apply Keeps.evfWrite
    | with_reducible apply Keeps.wdtStart
    | with_reducible apply Keeps.compWrite
    | with_reducible apply Keeps.hvlUpdate
    | with_reducible apply Keeps.lptWrite
    | with_reducible apply Keeps.flag
    | with_reducible apply Keeps.sptWrite
    | with_reducible apply Keeps.fltWrite
    | with_reducible refine Keeps.forN ?_ (fun _ _ _ => ?_)
    | with_reducible apply Keeps.recWrite
    | with_reducible apply Keeps.scsChanged
    | with_reducible apply Keeps.kstWrite
    | with_reducible apply Keeps.alarmLoWrite
    | with_reducible apply Keeps.bstCmd
    | with_reducible apply Keeps.ite

theorem Keeps.storeReg {a s : State} (h : Keeps a s) : ∀ x1 x2 x3 x4 x5, Keeps a (State.storeReg s x1 x2 x3 x4 x5) := by
  intro x1 x2 x3 x4 x5
  unfold State.storeReg; try dsimp only
  repeat' first
    | with_reducible assumption
    | with_reducible apply Keeps.recCfg
    | with_reducible apply Keeps.setReg
    | with_reducible apply Keeps.cfgChange
    | with_reducible apply Keeps.setRegI
    | with_reducible apply Keeps.ite

theorem Keeps.pageWrite {a s : State} (h : Keeps a s) : ∀ x1 x2 x3 x4, Keeps a (State.pageWrite s x1 x2 x3 x4) := by
  intro x1 x2 x3 x4
  unfold State.pageWrite; try dsimp only
  repeat' first
    | with_reducible assumption
    | with_reducible apply Keeps.postWrite
    | with_reducible apply Keeps.lockViol
    | refine Keeps.preWrite ?_ _ _ _ _ _ (by with_reducible assumption)
    | with_reducible apply Keeps.storeReg
    | with_reducible apply Keeps.headerWrite
    | with_reducible apply Keeps.ite
    | split

theorem Keeps.stall {a s : State} (h : Keeps a s) : ∀ x1 x2 x3, Keeps a (State.stall s x1 x2 x3) := by
  intro x1 x2 x3
  unfold State.stall; try dsimp only
  repeat' first
    | with_reducible assumption
    | with_reducible apply Keeps.answer
    | with_reducible apply Keeps.upd
    | rfl
    | with_reducible exact OtpKept.refl _

theorem Keeps.answerBytes {a s : State} (h : Keeps a s) : ∀ x1 x2, Keeps a (State.answerBytes s x1 x2) := by
  intro x1 x2
  unfold State.answerBytes; try dsimp only
  repeat' first
    | with_reducible assumption
    | with_reducible apply Keeps.answer

theorem Keeps.flashAccess {a s : State} (h : Keeps a s) : ∀ x1, Keeps a (State.flashAccess s x1) := by
  intro x1
  unfold State.flashAccess; try dsimp only
  repeat' first
    | with_reducible assumption
    | with_reducible apply Keeps.reportFault
    | with_reducible apply Keeps.answerBytes
    | with_reducible apply Keeps.viewBytes
    | with_reducible apply Keeps.answer
    | with_reducible apply Keeps.prefetchNext
    | with_reducible apply Keeps.cacheFill
    | with_reducible apply Keeps.ite
    | split
    | refine Keeps.of2 (by with_reducible assumption) ?_

theorem Keeps.memAccess {a s : State} (h : Keeps a s) : ∀ x1, Keeps a (State.memAccess s x1) := by
  intro x1
  unfold State.memAccess; try dsimp only
  repeat' first
    | with_reducible assumption
    | with_reducible apply Keeps.busSetBytes
    | with_reducible apply Keeps.answerBytes
    | with_reducible apply Keeps.ownViol
    | with_reducible apply Keeps.answer
    | with_reducible apply Keeps.faultRange
    | with_reducible apply Keeps.ite
    | split

theorem Keeps.pageAccess {a s : State} (h : Keeps a s) : ∀ x1 x2, Keeps a (State.pageAccess s x1 x2) := by
  intro x1 x2
  unfold State.pageAccess; try dsimp only
  repeat' first
    | with_reducible assumption
    | with_reducible apply Keeps.answer
    | with_reducible apply Keeps.pageRead
    | with_reducible apply Keeps.pageWrite
    | split
    | refine Keeps.of2 (by with_reducible assumption) ?_

theorem Keeps.busServe {a s : State} (h : Keeps a s) : ∀ x1 x2, Keeps a (State.busServe s x1 x2) := by
  intro x1 x2
  unfold State.busServe; try dsimp only
  repeat' first
    | with_reducible assumption
    | with_reducible apply Keeps.flashAccess
    | with_reducible apply Keeps.memAccess
    | with_reducible apply Keeps.stall
    | with_reducible apply Keeps.winAccess
    | with_reducible apply Keeps.sptStat
    | with_reducible apply Keeps.pageAccess
    | with_reducible apply Keeps.answer
    | split
    | refine Keeps.of2 (by with_reducible assumption) ?_

theorem Keeps.busAccess {a s : State} (h : Keeps a s) : ∀ x1 x2, Keeps a (State.busAccess s x1 x2) := by
  intro x1 x2
  unfold State.busAccess; try dsimp only
  repeat' first
    | with_reducible assumption
    | with_reducible apply Keeps.flcReadBusy
    | with_reducible apply Keeps.stall
    | with_reducible apply Keeps.answerBytes
    | with_reducible apply Keeps.answer
    | with_reducible apply Keeps.busServe
    | with_reducible apply Keeps.ite
    | split

theorem Keeps.busWrite {a s : State} (h : Keeps a s) : ∀ x1 x2 x3, Keeps a (State.busWrite s x1 x2 x3) := by
  intro x1 x2 x3
  unfold State.busWrite; try dsimp only
  repeat' first
    | with_reducible assumption
    | with_reducible apply Keeps.busAccess

theorem Keeps.busRead {a s : State} (h : Keeps a s) : ∀ x1 x2, Keeps a (State.busRead s x1 x2) := by
  intro x1 x2
  unfold State.busRead; try dsimp only
  repeat' first
    | with_reducible assumption
    | with_reducible apply Keeps.busAccess

theorem Keeps.setHsp {a s : State} (h : Keeps a s) : ∀ x1, Keeps a (State.setHsp s x1) := by
  intro x1
  unfold State.setHsp; try dsimp only
  repeat' first
    | with_reducible assumption
    | with_reducible apply Keeps.upd
    | rfl
    | with_reducible exact OtpKept.refl _

theorem Keeps.hspSend {a s : State} (h : Keeps a s) : ∀ x1, Keeps a (State.hspSend s x1) := by
  intro x1
  unfold State.hspSend; try dsimp only
  repeat' first
    | with_reducible assumption
    | with_reducible apply Keeps.setHsp
    | with_reducible apply Keeps.ite
    | with_reducible apply Keeps.upd
    | rfl
    | with_reducible exact OtpKept.refl _

theorem Keeps.hspRepeat {a s : State} (h : Keeps a s) : ∀ x1, Keeps a (State.hspRepeat s x1) := by
  intro x1
  unfold State.hspRepeat; try dsimp only
  repeat' first
    | with_reducible assumption
    | with_reducible apply Keeps.setHsp
    | with_reducible apply Keeps.upd
    | rfl
    | with_reducible exact OtpKept.refl _

theorem Keeps.hspFlag {a s : State} (h : Keeps a s) : ∀ x1, Keeps a (State.hspFlag s x1) := by
  intro x1
  unfold State.hspFlag; try dsimp only
  repeat' first
    | with_reducible assumption
    | with_reducible apply Keeps.setHsp
    | with_reducible apply Keeps.flag
    | with_reducible apply Keeps.countSat
    | with_reducible apply Keeps.ite
    | with_reducible apply Keeps.upd
    | rfl
    | with_reducible exact OtpKept.refl _

theorem Keeps.hspFailed {a s : State} (h : Keeps a s) : ∀ x1 x2, Keeps a (State.hspFailed s x1 x2) := by
  intro x1 x2
  unfold State.hspFailed; try dsimp only
  repeat' first
    | with_reducible assumption
    | with_reducible apply Keeps.setReg
    | with_reducible apply Keeps.hspFlag
    | with_reducible apply Keeps.setHsp
    | with_reducible apply Keeps.ite
    | with_reducible apply Keeps.upd
    | rfl
    | with_reducible exact OtpKept.refl _

theorem Keeps.hspNote {a s : State} (h : Keeps a s) : ∀ x1, Keeps a (State.hspNote s x1) := by
  intro x1
  unfold State.hspNote; try dsimp only
  repeat' first
    | with_reducible assumption
    | with_reducible apply Keeps.hspFailed
    | split

theorem Keeps.hspLate {a s : State} (h : Keeps a s) : ∀ x1, Keeps a (State.hspLate s x1) := by
  intro x1
  unfold State.hspLate; try dsimp only
  repeat' first
    | with_reducible assumption
    | with_reducible apply Keeps.setReg

theorem Keeps.hspPop {a s : State} (h : Keeps a s) : ∀ x1, Keeps a (State.hspPop s x1) := by
  intro x1
  unfold State.hspPop; try dsimp only
  repeat' first
    | with_reducible assumption
    | with_reducible apply Keeps.setHsp
    | with_reducible apply Keeps.hspNote
    | with_reducible apply Keeps.hspLate
    | with_reducible apply Keeps.ite
    | with_reducible apply Keeps.upd
    | rfl
    | with_reducible exact OtpKept.refl _

theorem Keeps.hspDrain {a s : State} (h : Keeps a s) : ∀ n, Keeps a (State.hspDrain s n) := by
  intro n
  induction n generalizing s
  case zero => exact h
  case succ n ih =>
    unfold State.hspDrain
    split
    · exact h
    · exact Keeps.ite h (Keeps.ite ((h.busAccess _ _).setHsp _) (ih ((h.busAccess _ _).hspPop _)))

theorem Keeps.takeUp {a s : State} (h : Keeps a s) : ∀ x1, Keeps a (State.takeUp s x1) := by
  intro x1
  unfold State.takeUp; try dsimp only
  repeat' first
    | with_reducible assumption
    | with_reducible apply Keeps.hspDrain
    | with_reducible apply Keeps.hspPop
    | with_reducible apply Keeps.busAccess
    | with_reducible apply Keeps.ite
    | split

theorem Keeps.serveStalled {a s : State} (h : Keeps a s) : ∀ x1, Keeps a (State.serveStalled s x1) := by
  intro x1
  unfold State.serveStalled; try dsimp only
  repeat' first
    | with_reducible assumption
    | with_reducible apply Keeps.takeUp
    | with_reducible refine Keeps.foldl ?_ (fun _ _ _ => ?_)
    | with_reducible refine Keeps.foldl2 ?_ (fun _ _ _ => ?_)
    | with_reducible apply Keeps.upd
    | rfl
    | with_reducible exact OtpKept.refl _

theorem Keeps.serveFlash {a s : State} (h : Keeps a s) : Keeps a (State.serveFlash s) := by
  unfold State.serveFlash; try dsimp only
  repeat' first
    | with_reducible assumption
    | with_reducible apply Keeps.serveStalled
    | split

theorem Keeps.hspBegin {a s : State} (h : Keeps a s) : Keeps a (State.hspBegin s) := by
  unfold State.hspBegin; try dsimp only
  repeat' first
    | with_reducible assumption
    | with_reducible apply Keeps.hspSend
    | with_reducible apply Keeps.setReg
    | with_reducible apply Keeps.setHsp
    | with_reducible apply Keeps.countSat

theorem Keeps.hspReads {a s : State} (h : Keeps a s) : ∀ i l n k x, Keeps a (State.hspReads i l n k x s) := by
  intro i l n k x
  induction n generalizing s k x
  case zero => exact h
  case succ n ih =>
    unfold State.hspReads; dsimp only
    repeat' first
      | with_reducible assumption
      | with_reducible apply Keeps.ite
      | with_reducible apply Keeps.hspRepeat
      | with_reducible apply Keeps.hspSend
      | with_reducible apply Keeps.hspFlag
      | with_reducible apply Keeps.setHsp
      | with_reducible apply Keeps.busAccess
      | with_reducible apply Keeps.hspFailed
      | with_reducible apply Keeps.hspLate
      | with_reducible apply Keeps.hspNote
      | with_reducible apply ih
      | split

theorem Keeps.hspWrites {a s : State} (h : Keeps a s) : ∀ i n ws x, Keeps a (State.hspWrites i n ws x s) := by
  intro i n ws x
  induction n generalizing s ws x
  case zero => unfold State.hspWrites; exact h
  case succ n ih =>
    cases ws
    case nil => unfold State.hspWrites; exact h
    case cons w ws =>
      have go : ∀ t, Keeps a t →
          Keeps a (State.hspWrites i n ws (nextAddr i x).1 (if (nextAddr i x).2 && n != 0 && !ws.isEmpty then t.hspFlag hfWrap else t)) :=
        fun t ht => ih (Keeps.ite (ht.hspFlag _) ht) _ _
      unfold State.hspWrites
      exact Keeps.ite (h.hspFlag _) (Keeps.ite (go _ (h.hspFailed _ _)) (Keeps.ite (h.hspFlag _) (go _ ((h.setHsp _).hspDrain 4))))

theorem Keeps.execHspCsFall {a s : State} (h : Keeps a s) : ∀ x0, KeepsAll a (Machine.execHspCsFall x0 s) := by
  intro x0
  unfold Machine.execHspCsFall; try dsimp only
  repeat' first
    | with_reducible assumption
    | with_reducible apply Keeps.wake
    | with_reducible apply Keeps.setHsp
    | with_reducible apply Keeps.put
    | with_reducible apply Keeps.ite
    | with_reducible apply KeepsAll.ite
    | with_reducible apply KeepsAll.next
    | with_reducible apply Keeps.upd
    | rfl
    | with_reducible exact OtpKept.refl _

theorem Keeps.execNop {a s : State} (h : Keeps a s) : ∀ x0 x1, KeepsAll a (Machine.execNop x0 x1 s) := by
  intro x0 x1
  unfold Machine.execNop; try dsimp only
  repeat' first
    | with_reducible assumption
    | with_reducible apply Keeps.hspFlag
    | with_reducible apply Keeps.hspBegin
    | with_reducible apply Keeps.ite
    | with_reducible apply KeepsAll.ite
    | with_reducible apply KeepsAll.next

theorem Keeps.execHspRead {a s : State} (h : Keeps a s) : ∀ x0 x1 x2 x3, KeepsAll a (Machine.execHspRead x0 x1 x2 x3 s) := by
  intro x0 x1 x2 x3
  unfold Machine.execHspRead; try dsimp only
  repeat' first
    | with_reducible assumption
    | with_reducible apply Keeps.hspSend
    | with_reducible apply Keeps.hspFlag
    | with_reducible apply Keeps.hspBegin
    | with_reducible apply Keeps.hspReads
    | with_reducible apply Keeps.ite
    | with_reducible apply KeepsAll.ite
    | with_reducible apply KeepsAll.next

theorem Keeps.execHspWrite {a s : State} (h : Keeps a s) : ∀ x0 x1 x2 x3, KeepsAll a (Machine.execHspWrite x0 x1 x2 x3 s) := by
  intro x0 x1 x2 x3
  unfold Machine.execHspWrite; try dsimp only
  repeat' first
    | with_reducible assumption
    | with_reducible apply Keeps.hspSend
    | with_reducible apply Keeps.hspFlag
    | with_reducible apply Keeps.hspBegin
    | with_reducible apply Keeps.hspWrites
    | with_reducible apply Keeps.hspRepeat
    | with_reducible apply Keeps.ite
    | with_reducible apply KeepsAll.ite
    | with_reducible apply KeepsAll.next

theorem Keeps.execCut {a s : State} (h : Keeps a s) : KeepsAll a (Machine.execCut s) := by
  unfold Machine.execCut; try dsimp only
  repeat' first
    | with_reducible assumption
    | with_reducible apply Keeps.hspFlag
    | with_reducible apply Keeps.setHsp
    | with_reducible apply Keeps.ite
    | with_reducible apply KeepsAll.ite
    | with_reducible apply KeepsAll.next
    | with_reducible apply Keeps.upd
    | rfl
    | with_reducible exact OtpKept.refl _

theorem Keeps.execDbSet {a s : State} (h : Keeps a s) : ∀ x0 x1, KeepsAll a (Machine.execDbSet x0 x1 s) := by
  intro x0 x1
  unfold Machine.execDbSet; try dsimp only
  repeat' first
    | with_reducible assumption
    | with_reducible apply Keeps.busWrite
    | with_reducible apply KeepsAll.next

theorem Keeps.execDoorbell {a s : State} (h : Keeps a s) : ∀ x0 x1, KeepsAll a (Machine.execDoorbell x0 x1 s) := by
  intro x0 x1
  unfold Machine.execDoorbell; try dsimp only
  repeat' first
    | with_reducible assumption
    | with_reducible apply Keeps.busWrite
    | with_reducible apply KeepsAll.next

theorem Keeps.execBusAccess {a s : State} (h : Keeps a s) : ∀ x0, KeepsAll a (Machine.execBusAccess x0 s) := by
  intro x0
  unfold Machine.execBusAccess; try dsimp only
  repeat' first
    | with_reducible assumption
    | with_reducible apply Keeps.busAccess
    | with_reducible apply KeepsAll.next

theorem Keeps.execSoftReset {a s : State} (h : Keeps a s) : ∀ x0 x1 x2, KeepsAll a (Machine.execSoftReset x0 x1 x2 s) := by
  intro x0 x1 x2
  unfold Machine.execSoftReset; try dsimp only
  repeat' first
    | with_reducible assumption
    | with_reducible apply Keeps.busWrite
    | with_reducible apply KeepsAll.next

theorem Keeps.execSoftResetDone {a s : State} (h : Keeps a s) : ∀ x0, KeepsAll a (Machine.execSoftResetDone x0 s) := by
  intro x0
  unfold Machine.execSoftResetDone; try dsimp only
  repeat' first
    | with_reducible assumption
    | with_reducible apply Keeps.serveStalled
    | with_reducible apply Keeps.setPage
    | with_reducible apply Keeps.ite
    | with_reducible apply KeepsAll.ite
    | with_reducible apply KeepsAll.next
    | with_reducible apply Keeps.upd
    | rfl
    | with_reducible exact OtpKept.refl _

theorem Keeps.execPageEnable {a s : State} (h : Keeps a s) : ∀ x0 x1 x2, KeepsAll a (Machine.execPageEnable x0 x1 x2 s) := by
  intro x0 x1 x2
  unfold Machine.execPageEnable; try dsimp only
  repeat' first
    | with_reducible assumption
    | with_reducible apply Keeps.busWrite
    | with_reducible apply KeepsAll.next

theorem Keeps.execLock {a s : State} (h : Keeps a s) : ∀ x0 x1 x2, KeepsAll a (Machine.execLock x0 x1 x2 s) := by
  intro x0 x1 x2
  unfold Machine.execLock; try dsimp only
  repeat' first
    | with_reducible assumption
    | with_reducible apply Keeps.busWrite
    | with_reducible apply KeepsAll.next

theorem Keeps.execIrqSet {a s : State} (h : Keeps a s) : ∀ x0 x1 x2, KeepsAll a (Machine.execIrqSet x0 x1 x2 s) := by
  intro x0 x1 x2
  unfold Machine.execIrqSet; try dsimp only
  repeat' first
    | with_reducible assumption
    | with_reducible apply Keeps.busWrite
    | with_reducible apply KeepsAll.next

theorem Keeps.execCompute {a s : State} (h : Keeps a s) : ∀ x0 x1 x2, KeepsAll a (Machine.execCompute x0 x1 x2 s) := by
  intro x0 x1 x2
  unfold Machine.execCompute; try dsimp only
  repeat' first
    | with_reducible assumption
    | with_reducible apply Keeps.busWrite
    | with_reducible apply KeepsAll.next

theorem Keeps.execLatchRef {a s : State} (h : Keeps a s) : ∀ x0 x1 x2, KeepsAll a (Machine.execLatchRef x0 x1 x2 s) := by
  intro x0 x1 x2
  unfold Machine.execLatchRef; try dsimp only
  repeat' first
    | with_reducible assumption
    | with_reducible apply Keeps.busWrite
    | with_reducible apply KeepsAll.next

theorem Keeps.sealTick {a s : State} (h : Keeps a s) : ∀ x1, Keeps a (Machine.sealTick s x1) := by
  intro x1
  unfold Machine.sealTick; try dsimp only
  repeat' first
    | with_reducible assumption
    | with_reducible apply Keeps.sealRequest
    | with_reducible apply Keeps.ite

theorem Keeps.execSealInterval {a s : State} (h : Keeps a s) : ∀ x0, KeepsAll a (Machine.execSealInterval x0 s) := by
  intro x0
  unfold Machine.execSealInterval; try dsimp only
  repeat' first
    | with_reducible assumption
    | with_reducible apply Keeps.sealTick
    | with_reducible refine Keeps.foldl ?_ (fun _ _ _ => ?_)
    | with_reducible refine Keeps.foldl2 ?_ (fun _ _ _ => ?_)
    | with_reducible apply KeepsAll.next

theorem Keeps.execSealDone {a s : State} (h : Keeps a s) : ∀ x0, KeepsAll a (Machine.execSealDone x0 s) := by
  intro x0
  unfold Machine.execSealDone; try dsimp only
  repeat' first
    | with_reducible assumption
    | with_reducible apply Keeps.sealEnd
    | with_reducible apply KeepsAll.next

theorem Keeps.execBankClearDone {a s : State} (h : Keeps a s) : ∀ x0, KeepsAll a (Machine.execBankClearDone x0 s) := by
  intro x0
  unfold Machine.execBankClearDone; try dsimp only
  repeat' first
    | with_reducible assumption
    | with_reducible apply Keeps.serveStalled
    | with_reducible apply Keeps.ite
    | with_reducible apply KeepsAll.ite
    | with_reducible apply KeepsAll.next
    | with_reducible apply Keeps.upd
    | rfl
    | with_reducible exact OtpKept.refl _

theorem Keeps.execClaim {a s : State} (h : Keeps a s) : ∀ x0, KeepsAll a (Machine.execClaim x0 s) := by
  intro x0
  unfold Machine.execClaim; try dsimp only
  repeat' first
    | with_reducible assumption
    | with_reducible apply Keeps.busRead
    | with_reducible apply KeepsAll.next

theorem Keeps.execComplete {a s : State} (h : Keeps a s) : ∀ x0 x1, KeepsAll a (Machine.execComplete x0 x1 s) := by
  intro x0 x1
  unfold Machine.execComplete; try dsimp only
  repeat' first
    | with_reducible assumption
    | with_reducible apply Keeps.busWrite
    | with_reducible apply KeepsAll.next

theorem Keeps.execCacheInv {a s : State} (h : Keeps a s) : ∀ x0 x1, KeepsAll a (Machine.execCacheInv x0 x1 s) := by
  intro x0 x1
  unfold Machine.execCacheInv; try dsimp only
  repeat' first
    | with_reducible assumption
    | with_reducible apply Keeps.busWrite
    | with_reducible apply KeepsAll.next

theorem Keeps.execMboxTx {a s : State} (h : Keeps a s) : ∀ x0 x1 x2, KeepsAll a (Machine.execMboxTx x0 x1 x2 s) := by
  intro x0 x1 x2
  unfold Machine.execMboxTx; try dsimp only
  repeat' first
    | with_reducible assumption
    | with_reducible apply Keeps.busWrite
    | with_reducible apply Keeps.ite
    | with_reducible apply KeepsAll.ite
    | with_reducible apply KeepsAll.next

theorem Keeps.execMboxRx {a s : State} (h : Keeps a s) : ∀ x0 x1, KeepsAll a (Machine.execMboxRx x0 x1 s) := by
  intro x0 x1
  unfold Machine.execMboxRx; try dsimp only
  repeat' first
    | with_reducible assumption
    | with_reducible apply Keeps.busRead
    | with_reducible apply Keeps.ite
    | with_reducible apply KeepsAll.ite
    | with_reducible apply KeepsAll.next

theorem Keeps.radWrite {a s : State} (h : Keeps a s) : ∀ x1 x2 x3, Keeps a (Machine.radWrite s x1 x2 x3) := by
  intro x1 x2 x3
  unfold Machine.radWrite; try dsimp only
  repeat' first
    | with_reducible assumption
    | with_reducible apply Keeps.busWrite

theorem Keeps.execIdle {a s : State} (h : Keeps a s) : ∀ x0 x1, KeepsAll a (Machine.execIdle x0 x1 s) := by
  intro x0 x1
  unfold Machine.execIdle; try dsimp only
  repeat' first
    | with_reducible assumption
    | with_reducible apply Keeps.radWrite
    | with_reducible apply KeepsAll.next

theorem Keeps.execArmRx {a s : State} (h : Keeps a s) : ∀ x0 x1, KeepsAll a (Machine.execArmRx x0 x1 s) := by
  intro x0 x1
  unfold Machine.execArmRx; try dsimp only
  repeat' first
    | with_reducible assumption
    | with_reducible apply Keeps.radWrite
    | with_reducible apply KeepsAll.next

theorem Keeps.execRx {a s : State} (h : Keeps a s) : ∀ x0 x1, KeepsAll a (Machine.execRx x0 x1 s) := by
  intro x0 x1
  unfold Machine.execRx; try dsimp only
  repeat' first
    | with_reducible assumption
    | with_reducible apply Keeps.radWrite
    | with_reducible apply KeepsAll.next

theorem Keeps.execRxMulti {a s : State} (h : Keeps a s) : ∀ x0 x1, KeepsAll a (Machine.execRxMulti x0 x1 s) := by
  intro x0 x1
  unfold Machine.execRxMulti; try dsimp only
  repeat' first
    | with_reducible assumption
    | with_reducible apply Keeps.radWrite
    | with_reducible apply KeepsAll.next

theorem Keeps.execTx {a s : State} (h : Keeps a s) : ∀ x0 x1, KeepsAll a (Machine.execTx x0 x1 s) := by
  intro x0 x1
  unfold Machine.execTx; try dsimp only
  repeat' first
    | with_reducible assumption
    | with_reducible apply Keeps.radWrite
    | with_reducible apply KeepsAll.next

theorem Keeps.execTxCca {a s : State} (h : Keeps a s) : ∀ x0 x1, KeepsAll a (Machine.execTxCca x0 x1 s) := by
  intro x0 x1
  unfold Machine.execTxCca; try dsimp only
  repeat' first
    | with_reducible assumption
    | with_reducible apply Keeps.radWrite
    | with_reducible apply KeepsAll.next

theorem Keeps.execCal {a s : State} (h : Keeps a s) : ∀ x0 x1, KeepsAll a (Machine.execCal x0 x1 s) := by
  intro x0 x1
  unfold Machine.execCal; try dsimp only
  repeat' first
    | with_reducible assumption
    | with_reducible apply Keeps.radWrite
    | with_reducible apply KeepsAll.next

theorem Keeps.execWhiff {a s : State} (h : Keeps a s) : ∀ x0 x1, KeepsAll a (Machine.execWhiff x0 x1 s) := by
  intro x0 x1
  unfold Machine.execWhiff; try dsimp only
  repeat' first
    | with_reducible assumption
    | with_reducible apply Keeps.radWrite
    | with_reducible apply KeepsAll.next

theorem Keeps.execPretune {a s : State} (h : Keeps a s) : ∀ x0 x1, KeepsAll a (Machine.execPretune x0 x1 s) := by
  intro x0 x1
  unfold Machine.execPretune; try dsimp only
  repeat' first
    | with_reducible assumption
    | with_reducible apply Keeps.radWrite
    | with_reducible apply KeepsAll.next

theorem Keeps.execAbort {a s : State} (h : Keeps a s) : ∀ x0 x1, KeepsAll a (Machine.execAbort x0 x1 s) := by
  intro x0 x1
  unfold Machine.execAbort; try dsimp only
  repeat' first
    | with_reducible assumption
    | with_reducible apply Keeps.radWrite
    | with_reducible apply KeepsAll.next

theorem Keeps.execOff {a s : State} (h : Keeps a s) : ∀ x0 x1, KeepsAll a (Machine.execOff x0 x1 s) := by
  intro x0 x1
  unfold Machine.execOff; try dsimp only
  repeat' first
    | with_reducible assumption
    | with_reducible apply Keeps.radWrite
    | with_reducible apply KeepsAll.next

theorem Keeps.viaTask {a s : State} (h : Keeps a s) : ∀ x1 x2 x3 x4 x5, Keeps a (Machine.viaTask s x1 x2 x3 x4 x5) := by
  intro x1 x2 x3 x4 x5
  unfold Machine.viaTask; try dsimp only
  repeat' first
    | with_reducible assumption
    | with_reducible apply Keeps.busWrite
    | with_reducible apply Keeps.deliverTask
    | split

theorem Keeps.execSample {a s : State} (h : Keeps a s) : ∀ x0, KeepsAll a (Machine.execSample x0 s) := by
  intro x0
  unfold Machine.execSample; try dsimp only
  repeat' first
    | with_reducible assumption
    | with_reducible apply Keeps.viaTask
    | with_reducible apply KeepsAll.next

theorem Keeps.execFault {a s : State} (h : Keeps a s) : ∀ x0, KeepsAll a (Machine.execFault x0 s) := by
  intro x0
  unfold Machine.execFault; try dsimp only
  repeat' first
    | with_reducible assumption
    | with_reducible apply Keeps.unitEffects
    | with_reducible apply Keeps.faultEffect
    | with_reducible apply Keeps.hspNote
    | with_reducible apply Keeps.entryFails
    | with_reducible apply Keeps.ite
    | with_reducible apply KeepsAll.ite
    | with_reducible apply KeepsAll.next

theorem Keeps.faultCmd {a s : State} (h : Keeps a s) : ∀ x1 x2 x3, Keeps a (Machine.faultCmd s x1 x2 x3) := by
  intro x1 x2 x3
  unfold Machine.faultCmd; try dsimp only
  repeat' first
    | with_reducible assumption
    | with_reducible apply Keeps.busWrite

theorem Keeps.execRetire {a s : State} (h : Keeps a s) : ∀ x0 x1, KeepsAll a (Machine.execRetire x0 x1 s) := by
  intro x0 x1
  unfold Machine.execRetire; try dsimp only
  repeat' first
    | with_reducible assumption
    | with_reducible apply Keeps.faultCmd
    | with_reducible apply KeepsAll.next

theorem Keeps.execUnretire {a s : State} (h : Keeps a s) : ∀ x0 x1, KeepsAll a (Machine.execUnretire x0 x1 s) := by
  intro x0 x1
  unfold Machine.execUnretire; try dsimp only
  repeat' first
    | with_reducible assumption
    | with_reducible apply Keeps.faultCmd
    | with_reducible apply KeepsAll.next

theorem Keeps.execClearCount {a s : State} (h : Keeps a s) : ∀ x0 x1, KeepsAll a (Machine.execClearCount x0 x1 s) := by
  intro x0 x1
  unfold Machine.execClearCount; try dsimp only
  repeat' first
    | with_reducible assumption
    | with_reducible apply Keeps.faultCmd
    | with_reducible apply KeepsAll.next

theorem Keeps.execRewrite {a s : State} (h : Keeps a s) : ∀ x0 x1, KeepsAll a (Machine.execRewrite x0 x1 s) := by
  intro x0 x1
  unfold Machine.execRewrite; try dsimp only
  repeat' first
    | with_reducible assumption
    | with_reducible apply Keeps.faultCmd
    | with_reducible apply KeepsAll.next

theorem Keeps.execLog {a s : State} (h : Keeps a s) : ∀ x0, KeepsAll a (Machine.execLog x0 s) := by
  intro x0
  unfold Machine.execLog; try dsimp only
  repeat' first
    | with_reducible assumption
    | with_reducible apply Keeps.busRead
    | with_reducible apply KeepsAll.next

theorem Keeps.execTest {a s : State} (h : Keeps a s) : ∀ x0 x1, KeepsAll a (Machine.execTest x0 x1 s) := by
  intro x0 x1
  unfold Machine.execTest; try dsimp only
  repeat' first
    | with_reducible assumption
    | with_reducible apply Keeps.busWrite
    | with_reducible apply KeepsAll.next

theorem Keeps.execBstAbort {a s : State} (h : Keeps a s) : ∀ x0, KeepsAll a (Machine.execBstAbort x0 s) := by
  intro x0
  unfold Machine.execBstAbort; try dsimp only
  repeat' first
    | with_reducible assumption
    | with_reducible apply Keeps.busWrite
    | with_reducible apply KeepsAll.next

theorem Keeps.execRecArm {a s : State} (h : Keeps a s) : ∀ x0, KeepsAll a (Machine.execRecArm x0 s) := by
  intro x0
  unfold Machine.execRecArm; try dsimp only
  repeat' first
    | with_reducible assumption
    | with_reducible apply Keeps.viaTask
    | with_reducible apply KeepsAll.next

theorem Keeps.execFreeze {a s : State} (h : Keeps a s) : ∀ x0, KeepsAll a (Machine.execFreeze x0 s) := by
  intro x0
  unfold Machine.execFreeze; try dsimp only
  repeat' first
    | with_reducible assumption
    | with_reducible apply Keeps.viaTask
    | with_reducible apply KeepsAll.next

theorem Keeps.execMark {a s : State} (h : Keeps a s) : ∀ x0 x1, KeepsAll a (Machine.execMark x0 x1 s) := by
  intro x0 x1
  unfold Machine.execMark; try dsimp only
  repeat' first
    | with_reducible assumption
    | with_reducible apply Keeps.busWrite
    | with_reducible apply KeepsAll.next

theorem Keeps.execReplay {a s : State} (h : Keeps a s) : ∀ x0, KeepsAll a (Machine.execReplay x0 s) := by
  intro x0
  unfold Machine.execReplay; try dsimp only
  repeat' first
    | with_reducible assumption
    | with_reducible apply Keeps.busWrite
    | with_reducible apply KeepsAll.next

theorem Keeps.execRpq {a s : State} (h : Keeps a s) : ∀ x0, KeepsAll a (Machine.execRpq x0 s) := by
  intro x0
  unfold Machine.execRpq; try dsimp only
  repeat' first
    | with_reducible assumption
    | with_reducible apply Keeps.busRead
    | with_reducible apply KeepsAll.next

theorem Keeps.execSubmit {a s : State} (h : Keeps a s) : ∀ x0, KeepsAll a (Machine.execSubmit x0 s) := by
  intro x0
  unfold Machine.execSubmit; try dsimp only
  repeat' first
    | with_reducible assumption
    | with_reducible apply Keeps.busRead
    | with_reducible apply KeepsAll.next

theorem Keeps.execDescDone {a s : State} (h : Keeps a s) : ∀ x0, KeepsAll a (Machine.execDescDone x0 s) := by
  intro x0
  unfold Machine.execDescDone; try dsimp only
  repeat' first
    | with_reducible assumption
    | with_reducible apply Keeps.serveFlash
    | with_reducible apply Keeps.flcComplete
    | with_reducible apply KeepsAll.next

theorem Keeps.execFlcDone {a s : State} (h : Keeps a s) : ∀ x0, KeepsAll a (Machine.execFlcDone x0 s) := by
  intro x0
  unfold Machine.execFlcDone; try dsimp only
  repeat' first
    | with_reducible assumption
    | with_reducible apply Keeps.busRead
    | with_reducible apply KeepsAll.next

theorem Keeps.execSuspend {a s : State} (h : Keeps a s) : ∀ x0, KeepsAll a (Machine.execSuspend x0 s) := by
  intro x0
  unfold Machine.execSuspend; try dsimp only
  repeat' first
    | with_reducible assumption
    | with_reducible apply Keeps.busWrite
    | with_reducible apply KeepsAll.next

theorem Keeps.execResume {a s : State} (h : Keeps a s) : ∀ x0, KeepsAll a (Machine.execResume x0 s) := by
  intro x0
  unfold Machine.execResume; try dsimp only
  repeat' first
    | with_reducible assumption
    | with_reducible apply Keeps.busWrite
    | with_reducible apply KeepsAll.next

theorem Keeps.execFlcAbort {a s : State} (h : Keeps a s) : ∀ x0, KeepsAll a (Machine.execFlcAbort x0 s) := by
  intro x0
  unfold Machine.execFlcAbort; try dsimp only
  repeat' first
    | with_reducible assumption
    | with_reducible apply Keeps.busWrite
    | with_reducible apply KeepsAll.next

theorem Keeps.minRunOver {a s : State} (h : Keeps a s) : Keeps a (Machine.minRunOver s) := by
  unfold Machine.minRunOver; try dsimp only
  repeat' first
    | with_reducible assumption
    | with_reducible apply Keeps.flcReadBusy
    | with_reducible apply Keeps.setFlash
    | with_reducible apply Keeps.ite
    | split
    | with_reducible apply Keeps.upd
    | rfl
    | with_reducible exact OtpKept.refl _

theorem Keeps.execMinRunEnd {a s : State} (h : Keeps a s) : KeepsAll a (Machine.execMinRunEnd s) := by
  unfold Machine.execMinRunEnd; try dsimp only
  repeat' first
    | with_reducible assumption
    | with_reducible apply Keeps.minRunOver
    | with_reducible apply Keeps.ite
    | with_reducible apply KeepsAll.ite
    | with_reducible apply KeepsAll.next

theorem Keeps.execSafePoint {a s : State} (h : Keeps a s) : ∀ x0, KeepsAll a (Machine.execSafePoint x0 s) := by
  intro x0
  unfold Machine.execSafePoint; try dsimp only
  repeat' first
    | with_reducible assumption
    | with_reducible apply Keeps.serveFlash
    | with_reducible apply Keeps.flcSafePoint
    | with_reducible apply KeepsAll.next

theorem Keeps.execArm {a s : State} (h : Keeps a s) : ∀ x0, KeepsAll a (Machine.execArm x0 s) := by
  intro x0
  unfold Machine.execArm; try dsimp only
  repeat' first
    | with_reducible assumption
    | with_reducible apply Keeps.busWrite
    | with_reducible apply KeepsAll.next

theorem Keeps.execCancel {a s : State} (h : Keeps a s) : ∀ x0, KeepsAll a (Machine.execCancel x0 s) := by
  intro x0
  unfold Machine.execCancel; try dsimp only
  repeat' first
    | with_reducible assumption
    | with_reducible apply Keeps.busWrite
    | with_reducible apply KeepsAll.next

theorem Keeps.execRead {a s : State} (h : Keeps a s) : ∀ x0, KeepsAll a (Machine.execRead x0 s) := by
  intro x0
  unfold Machine.execRead; try dsimp only
  repeat' first
    | with_reducible assumption
    | with_reducible apply Keeps.busWrite
    | with_reducible apply KeepsAll.next

theorem Keeps.execCancelAll {a s : State} (h : Keeps a s) : ∀ x0, KeepsAll a (Machine.execCancelAll x0 s) := by
  intro x0
  unfold Machine.execCancelAll; try dsimp only
  repeat' first
    | with_reducible assumption
    | with_reducible apply Keeps.busWrite
    | with_reducible apply KeepsAll.next

theorem Keeps.execDone {a s : State} (h : Keeps a s) : ∀ x0, KeepsAll a (Machine.execDone x0 s) := by
  intro x0
  unfold Machine.execDone; try dsimp only
  repeat' first
    | with_reducible assumption
    | with_reducible apply Keeps.busRead
    | with_reducible apply KeepsAll.next

theorem Keeps.execAlloc {a s : State} (h : Keeps a s) : ∀ x0, KeepsAll a (Machine.execAlloc x0 s) := by
  intro x0
  unfold Machine.execAlloc; try dsimp only
  repeat' first
    | with_reducible assumption
    | with_reducible apply Keeps.busRead
    | with_reducible apply KeepsAll.next

theorem Keeps.execRelease {a s : State} (h : Keeps a s) : ∀ x0 x1, KeepsAll a (Machine.execRelease x0 x1 s) := by
  intro x0 x1
  unfold Machine.execRelease; try dsimp only
  repeat' first
    | with_reducible assumption
    | with_reducible apply Keeps.busWrite
    | with_reducible apply KeepsAll.next

theorem Keeps.execRxq {a s : State} (h : Keeps a s) : ∀ x0, KeepsAll a (Machine.execRxq x0 s) := by
  intro x0
  unfold Machine.execRxq; try dsimp only
  repeat' first
    | with_reducible assumption
    | with_reducible apply Keeps.busRead
    | with_reducible apply KeepsAll.next

theorem Keeps.execInsert {a s : State} (h : Keeps a s) : ∀ x0, KeepsAll a (Machine.execInsert x0 s) := by
  intro x0
  unfold Machine.execInsert; try dsimp only
  repeat' first
    | with_reducible assumption
    | with_reducible apply Keeps.busWrite
    | with_reducible apply KeepsAll.next

theorem Keeps.execDelete {a s : State} (h : Keeps a s) : ∀ x0, KeepsAll a (Machine.execDelete x0 s) := by
  intro x0
  unfold Machine.execDelete; try dsimp only
  repeat' first
    | with_reducible assumption
    | with_reducible apply Keeps.busWrite
    | with_reducible apply KeepsAll.next

theorem Keeps.execLookup {a s : State} (h : Keeps a s) : ∀ x0, KeepsAll a (Machine.execLookup x0 s) := by
  intro x0
  unfold Machine.execLookup; try dsimp only
  repeat' first
    | with_reducible assumption
    | with_reducible apply Keeps.busWrite
    | with_reducible apply KeepsAll.next

theorem Keeps.execNbtRead {a s : State} (h : Keeps a s) : ∀ x0, KeepsAll a (Machine.execNbtRead x0 s) := by
  intro x0
  unfold Machine.execNbtRead; try dsimp only
  repeat' first
    | with_reducible assumption
    | with_reducible apply Keeps.busWrite
    | with_reducible apply KeepsAll.next

theorem Keeps.execUpdate {a s : State} (h : Keeps a s) : ∀ x0 x1, KeepsAll a (Machine.execUpdate x0 x1 s) := by
  intro x0 x1
  unfold Machine.execUpdate; try dsimp only
  repeat' first
    | with_reducible assumption
    | with_reducible apply Keeps.busWrite
    | with_reducible apply KeepsAll.next

theorem Keeps.execHvlEnable {a s : State} (h : Keeps a s) : ∀ x0 x1, KeepsAll a (Machine.execHvlEnable x0 x1 s) := by
  intro x0 x1
  unfold Machine.execHvlEnable; try dsimp only
  repeat' first
    | with_reducible assumption
    | with_reducible apply Keeps.busWrite
    | with_reducible apply KeepsAll.next

theorem Keeps.execQtx {a s : State} (h : Keeps a s) : ∀ x0 x1 x2, KeepsAll a (Machine.execQtx x0 x1 x2 s) := by
  intro x0 x1 x2
  unfold Machine.execQtx; try dsimp only
  repeat' first
    | with_reducible assumption
    | with_reducible apply Keeps.busWrite
    | with_reducible apply Keeps.ite
    | with_reducible apply KeepsAll.ite
    | with_reducible apply KeepsAll.next

theorem Keeps.execQrx {a s : State} (h : Keeps a s) : ∀ x0 x1, KeepsAll a (Machine.execQrx x0 x1 s) := by
  intro x0 x1
  unfold Machine.execQrx; try dsimp only
  repeat' first
    | with_reducible assumption
    | with_reducible apply Keeps.busRead
    | with_reducible apply Keeps.ite
    | with_reducible apply KeepsAll.ite
    | with_reducible apply KeepsAll.next

theorem Keeps.execFlush {a s : State} (h : Keeps a s) : ∀ x0 x1, KeepsAll a (Machine.execFlush x0 x1 s) := by
  intro x0 x1
  unfold Machine.execFlush; try dsimp only
  repeat' first
    | with_reducible assumption
    | with_reducible apply Keeps.busWrite
    | with_reducible apply Keeps.ite
    | with_reducible apply KeepsAll.ite
    | with_reducible apply KeepsAll.next

theorem Keeps.execSptRelease {a s : State} (h : Keeps a s) : ∀ x0 x1, KeepsAll a (Machine.execSptRelease x0 x1 s) := by
  intro x0 x1
  unfold Machine.execSptRelease; try dsimp only
  repeat' first
    | with_reducible assumption
    | with_reducible apply Keeps.busWrite
    | with_reducible apply Keeps.ite
    | with_reducible apply KeepsAll.ite
    | with_reducible apply KeepsAll.next

theorem Keeps.execPfInv {a s : State} (h : Keeps a s) : ∀ x0, KeepsAll a (Machine.execPfInv x0 s) := by
  intro x0
  unfold Machine.execPfInv; try dsimp only
  repeat' first
    | with_reducible assumption
    | with_reducible apply Keeps.busWrite
    | with_reducible apply KeepsAll.next

theorem Keeps.execWindowRead {a s : State} (h : Keeps a s) : ∀ x0 x1, KeepsAll a (Machine.execWindowRead x0 x1 s) := by
  intro x0 x1
  unfold Machine.execWindowRead; try dsimp only
  repeat' first
    | with_reducible assumption
    | with_reducible apply Keeps.busAccess
    | with_reducible apply Keeps.ite
    | with_reducible apply KeepsAll.ite
    | with_reducible apply KeepsAll.next
    | with_reducible apply Keeps.upd
    | rfl
    | with_reducible exact OtpKept.refl _

theorem Keeps.execWindowWrite {a s : State} (h : Keeps a s) : ∀ x0, KeepsAll a (Machine.execWindowWrite x0 s) := by
  intro x0
  unfold Machine.execWindowWrite; try dsimp only
  repeat' first
    | with_reducible assumption
    | with_reducible apply Keeps.busAccess
    | with_reducible apply KeepsAll.next

theorem Keeps.jobCmd {a s : State} (h : Keeps a s) : ∀ x1 x2 x3, Keeps a (Machine.jobCmd s x1 x2 x3) := by
  intro x1 x2 x3
  unfold Machine.jobCmd; try dsimp only
  repeat' first
    | with_reducible assumption
    | with_reducible apply Keeps.busWrite

theorem Keeps.kstCmd {a s : State} (h : Keeps a s) : ∀ x1 x2 x3, Keeps a (Machine.kstCmd s x1 x2 x3) := by
  intro x1 x2 x3
  unfold Machine.kstCmd; try dsimp only
  repeat' first
    | with_reducible assumption
    | with_reducible apply Keeps.busWrite

theorem Keeps.execAesEcbEncrypt {a s : State} (h : Keeps a s) : ∀ x0 x1, KeepsAll a (Machine.execAesEcbEncrypt x0 x1 s) := by
  intro x0 x1
  unfold Machine.execAesEcbEncrypt; try dsimp only
  repeat' first
    | with_reducible assumption
    | with_reducible apply Keeps.jobCmd
    | with_reducible apply KeepsAll.next

theorem Keeps.execAesCtr {a s : State} (h : Keeps a s) : ∀ x0 x1, KeepsAll a (Machine.execAesCtr x0 x1 s) := by
  intro x0 x1
  unfold Machine.execAesCtr; try dsimp only
  repeat' first
    | with_reducible assumption
    | with_reducible apply Keeps.jobCmd
    | with_reducible apply KeepsAll.next

end Sys2Proof.Machine
end

