-- ==== Sys2Proof/Laws/Regs.lean ====
section
/-! SUPPORT. Registers, their fields and bytes of memory: what is read after a write, and what a write leaves alone. A law that reads after a
write asks for a state in canonical form, which every operation keeps (`Keeps.canon`). -/

namespace Sys2Proof

theorem bitsOf_putBits_self (n lo w v : Nat) : bitsOf (putBits n lo w v) lo w = v % 2 ^ w := by
  unfold bitsOf putBits
  have e : n / 2 ^ (lo + w) * 2 ^ (lo + w) + v % 2 ^ w * 2 ^ lo + n % 2 ^ lo
      = n % 2 ^ lo + 2 ^ lo * (n / 2 ^ (lo + w) * 2 ^ w + v % 2 ^ w) := by rw [pow_add]; ring
  rw [e, Nat.add_mul_div_left _ _ (by positivity), Nat.div_eq_of_lt (Nat.mod_lt _ (by positivity)), Nat.zero_add, Nat.add_comm,
    Nat.add_mul_mod_self_right, Nat.mod_mod]

theorem bitsOf_putBits_low {n lo w v lo' w' : Nat} (h : lo' + w' ≤ lo) : bitsOf (putBits n lo w v) lo' w' = bitsOf n lo' w' := by
  unfold bitsOf putBits
  obtain ⟨d, rfl⟩ := Nat.exists_eq_add_of_le h
  have e : n / 2 ^ (lo' + w' + d + w) * 2 ^ (lo' + w' + d + w) + v % 2 ^ w * 2 ^ (lo' + w' + d) + n % 2 ^ (lo' + w' + d)
      = n % 2 ^ (lo' + w' + d) + 2 ^ (lo' + w') * (n / 2 ^ (lo' + w' + d + w) * 2 ^ (d + w) + v % 2 ^ w * 2 ^ d) := by
    simp only [pow_add]; ring
  rw [e, ← Nat.mod_mul_right_div_self, ← Nat.mod_mul_right_div_self, ← pow_add, Nat.add_mul_mod_self_left, Nat.mod_mod_of_dvd]
  exact Nat.pow_dvd_pow 2 (Nat.le_add_right _ _)

theorem bitsOf_putBits_high {n lo w v lo' w' : Nat} (h : lo + w ≤ lo') : bitsOf (putBits n lo w v) lo' w' = bitsOf n lo' w' := by
  unfold bitsOf putBits
  obtain ⟨d, rfl⟩ := Nat.exists_eq_add_of_le h
  have hlt : v % 2 ^ w * 2 ^ lo + n % 2 ^ lo < 2 ^ (lo + w) := by
    have h1 := Nat.mod_lt v (Nat.two_pow_pos w)
    have h2 := Nat.mod_lt n (Nat.two_pow_pos lo)
    have h3 : (v % 2 ^ w + 1) * 2 ^ lo ≤ 2 ^ w * 2 ^ lo := Nat.mul_le_mul_right _ h1
    rw [pow_add, Nat.mul_comm (2 ^ lo)]
    rw [Nat.add_mul, Nat.one_mul] at h3
    omega
  have e : (n / 2 ^ (lo + w) * 2 ^ (lo + w) + v % 2 ^ w * 2 ^ lo + n % 2 ^ lo) / 2 ^ (lo + w) = n / 2 ^ (lo + w) := by
    rw [Nat.add_assoc, Nat.add_comm, Nat.add_mul_div_right _ _ (Nat.two_pow_pos _), Nat.div_eq_of_lt hlt, Nat.zero_add]
  rw [pow_add 2 (lo + w) d, ← Nat.div_div_eq_div_mul, e, Nat.div_div_eq_div_mul]

theorem putBits_lt {n lo w v k : Nat} (hn : n < 2 ^ k) (h : lo + w ≤ k) : putBits n lo w v < 2 ^ k := by
  unfold putBits
  have h1 := Nat.mod_lt v (Nat.two_pow_pos w)
  have h2 := Nat.mod_lt n (Nat.two_pow_pos lo)
  have h3 : (v % 2 ^ w + 1) * 2 ^ lo ≤ 2 ^ w * 2 ^ lo := Nat.mul_le_mul_right _ h1
  rw [Nat.add_mul, Nat.one_mul, ← pow_add, Nat.add_comm w lo] at h3
  obtain ⟨d, rfl⟩ := Nat.exists_eq_add_of_le h
  have h4 : n / 2 ^ (lo + w) < 2 ^ d := by
    rw [Nat.div_lt_iff_lt_mul (Nat.two_pow_pos _), ← pow_add, Nat.add_comm]; exact hn
  have h5 : (n / 2 ^ (lo + w) + 1) * 2 ^ (lo + w) ≤ 2 ^ d * 2 ^ (lo + w) := Nat.mul_le_mul_right _ h4
  rw [Nat.add_mul, Nat.one_mul, ← pow_add, Nat.add_comm d] at h5
  omega

namespace Machine

theorem Keeps.canon {a t : State} (h : Keeps a t) (c : a.canonical = true) : t.canonical = true := h.2.2.2.2 c

theorem State.canonical_regs {s : State} (c : s.canonical = true) : Sparse.wf resetOf s.regs = true := by
  simp only [State.canonical, Bool.and_eq_true] at c; exact c.1.1

theorem State.canonical_bank {s : State} (c : s.canonical = true) : Sparse.wf State.bankReset s.bank = true := by
  simp only [State.canonical, Bool.and_eq_true] at c; exact c.1.2

theorem State.canonical_mem {s : State} (c : s.canonical = true) : Memory.wf s.mem = true := by
  simp only [State.canonical, Bool.and_eq_true] at c; exact c.2

/-- What every register reads after a write. -/
theorem State.reg_setReg {s : State} (c : s.canonical = true) (a b : Nat) (w : Word) :
    (s.setReg a w).reg b = if b = a then w else s.reg b := by
  unfold State.reg
  rw [State.setReg_regs]
  exact Sparse.get_set (State.canonical_regs c) a b w

theorem State.reg_put {s : State} (c : s.canonical = true) (f : Field) (v b : Nat) :
    (s.put f v).reg b = if b = f.addr then BitVec.ofNat 32 (putBits (s.reg f.addr).toNat f.lo f.width v) else s.reg b :=
  State.reg_setReg c f.addr b _

theorem State.get_put_self {s : State} (c : s.canonical = true) (f : Field) (v : Nat) (h : f.lo + f.width ≤ 32) :
    (s.put f v).get f = v % 2 ^ f.width := by
  unfold State.get
  rw [State.reg_put c, if_pos rfl, BitVec.toNat_ofNat, Nat.mod_eq_of_lt (putBits_lt (s.reg f.addr).isLt h), bitsOf_putBits_self]

/-- A write of one field leaves every field alone that lies in another register or beside it. -/
theorem State.get_put_other {s : State} (c : s.canonical = true) (f g : Field) (v : Nat) (h : f.lo + f.width ≤ 32)
    (d : g.addr ≠ f.addr ∨ g.lo + g.width ≤ f.lo ∨ f.lo + f.width ≤ g.lo) : (s.put f v).get g = s.get g := by
  unfold State.get
  rw [State.reg_put c]
  split
  · rename_i e
    rw [BitVec.toNat_ofNat, Nat.mod_eq_of_lt (putBits_lt (s.reg f.addr).isLt h), e]
    rcases d with d | d | d
    · exact absurd e d
    · exact bitsOf_putBits_low d
    · exact bitsOf_putBits_high d
  · rfl

theorem State.get_setReg_other {s : State} (c : s.canonical = true) (a : Nat) (g : Field) (w : Word) (d : g.addr ≠ a) :
    (s.setReg a w).get g = s.get g := by
  unfold State.get
  rw [State.reg_setReg c, if_neg d]

theorem State.get_setReg_self {s : State} (c : s.canonical = true) (g : Field) (w : Word) :
    (s.setReg g.addr w).get g = bitsOf w.toNat g.lo g.width := by
  unfold State.get
  rw [State.reg_setReg c, if_pos rfl]

theorem State.reg_of_regs {s t : State} (h : t.regs = s.regs) (a : Nat) : t.reg a = s.reg a := by unfold State.reg; rw [h]

theorem State.get_of_regs {s t : State} (h : t.regs = s.regs) (f : Field) : t.get f = s.get f := by
  unfold State.get; rw [State.reg_of_regs h]

theorem State.regI_setRegI {s : State} (c : s.canonical = true) (i : Initiator) (a : Nat) (w : Word) :
    (s.setRegI i a w).regI i a = w := by
  unfold State.regI
  rw [State.setRegI_bank]
  exact Sparse.get_set_self (State.canonical_bank c) _ w

/-- What every byte of memory reads after a write of one byte that no rule discards. -/
theorem State.byte_setByte {s : State} (c : s.canonical = true) (a b : Nat) (v : Byte) (h : ¬(0x20500000 ≤ a ∧ a < 0x20500030)) :
    (s.setByte a v).byte b = if b = a then v else s.byte b := by
  unfold State.setByte State.byte
  rw [if_neg h]
  exact Sparse.get_set (State.canonical_mem c) a b v

end Machine

end Sys2Proof
end

