-- ==== Sys2Proof/Laws/Bus.lean ====
section
/-! SUPPORT. What a bus access does once it is admitted: the word accesses to pages, and their end. -/

namespace Sys2Proof.Machine

theorem State.busAccess_admits {s : State} {r : BusReq} (h : s.admits r = true) (dev : List Byte) : s.busAccess r dev = s.busServe r dev := by
  unfold State.admits at h
  simp only [Bool.and_eq_true, Option.isNone_iff_eq_none, Bool.or_eq_true, bne_iff_ne, ne_eq] at h
  obtain ⟨⟨⟨⟨h1, h2⟩, h6⟩, h3⟩, h4⟩ := h
  replace h6 : s.pmpDenies r = false := by simpa using h6
  have h5 : (r.ini == .host && !s.hspReady) = false := by
    rcases h1 with h1 | h1
    · simp [beq_eq_false_iff_ne.mpr h1]
    · simp [h1]
  unfold State.busAccess
  rw [h4, h6, Bool.and_false]
  simp only [h5, h2, h3, Bool.false_eq_true, if_false]

theorem regionOf_page {p off : Nat} (hp : p < 0x100) (ho : off < 0x1000) : regionOf (pageAddr p off) = .page p := by
  unfold regionOf pageAddr
  have e : (0x40000000 + p * 0x1000 + off - 0x40000000) / 0x1000 = p := by omega
  rw [e]
  simp (disch := omega) only [if_neg, if_pos]

theorem pageAddr_toNat {p off : Nat} (hp : p < 0x100) (ho : off < 0x1000) : (BitVec.ofNat 32 (pageAddr p off)).toNat = pageAddr p off := by
  rw [BitVec.toNat_ofNat, Nat.mod_eq_of_lt]
  unfold pageAddr; omega

theorem pageAddr_mod {p off : Nat} (ho : off < 0x1000) : pageAddr p off % 0x1000 = off := by unfold pageAddr; omega

/-- An admitted word write to a page. -/
theorem State.busWrite_page {s : State} {i : Initiator} {p off : Nat} {w : Word} (hp : p < 0x100) (ho : off < 0x1000)
    (h : s.admits (writeReq i (pageAddr p off) w) = true) :
    s.busWrite i (pageAddr p off) w = (s.pageWrite i p off w).answer i 0 .ok := by
  unfold State.busWrite
  rw [State.busAccess_admits (r := ⟨i, BitVec.ofNat 32 (pageAddr p off), .word, .write w⟩) h]
  unfold State.busServe
  simp only [pageAddr_toNat hp ho, regionOf_page hp ho]
  unfold State.pageAccess
  simp only [pageAddr_toNat hp ho, pageAddr_mod ho]

/-- An admitted word read of a page. -/
theorem State.busRead_page {s : State} {i : Initiator} {p off : Nat} (hp : p < 0x100) (ho : off < 0x1000)
    (h : s.admits (readReq i (pageAddr p off)) = true) :
    s.busRead i (pageAddr p off) = (s.pageRead i p off).2.answer i (s.pageRead i p off).1 .ok := by
  unfold State.busRead
  rw [State.busAccess_admits (r := ⟨i, BitVec.ofNat 32 (pageAddr p off), .word, .read⟩) h]
  unfold State.busServe
  simp only [pageAddr_toNat hp ho, regionOf_page hp ho]
  unfold State.pageAccess
  simp only [pageAddr_toNat hp ho, pageAddr_mod ho]

/-- A word write that a block register takes: it is stored, and does what its page says. -/
theorem State.busWrite_takes {s : State} {i : Initiator} {p off : Nat} {w : Word} {r : RegRow} (hp : p < 0x100) (h0 : 0x100 ≤ off) (ho : off < 0x1000)
    (h : s.takes i p off w r = true) :
    s.busWrite i (pageAddr p off) w =
      ((s.storeReg i p off r (s.fitWord p off w)).postWrite i p off (s.regRaw i p off) (s.fitWord p off w)).answer i 0 .ok := by
  unfold State.takes at h
  simp only [Bool.and_eq_true, Option.isNone_iff_eq_none, decide_eq_true_eq, Bool.not_eq_true'] at h
  obtain ⟨⟨⟨⟨⟨h1, h2⟩, h3⟩, h4⟩, h5⟩, h6⟩ := h
  rw [State.busWrite_page hp ho h1]
  unfold State.pageWrite
  rw [if_neg (by omega), h2, h3, if_neg (by simp), h5]
  simp only [h4, h6, Bool.false_eq_true, if_false]

/-- A word read of a block register that exists. -/
theorem State.busRead_offers {s : State} {i : Initiator} {p off : Nat} (hp : p < 0x100) (h0 : 0x100 ≤ off) (ho : off < 0x1000)
    (h : s.offers i p off = true) :
    s.busRead i (pageAddr p off) =
      (s.blockRead i p off (s.regRaw i p off)).2.answer i (s.blockRead i p off (s.regRaw i p off)).1 .ok := by
  unfold State.offers at h
  simp only [Bool.and_eq_true, Bool.not_eq_true', Option.isSome_iff_ne_none] at h
  obtain ⟨⟨⟨h1, h2⟩, h3⟩, h4⟩ := h
  rw [State.busRead_page hp ho h1]
  have e : s.pageRead i p off = s.blockRead i p off (s.regRaw i p off) := by
    unfold State.pageRead
    rw [if_neg (by omega), if_neg]
    simp [h2, h3, h4]
  rw [e]

end Sys2Proof.Machine
end

