-- ==== Sys2Proof/Laws/Frame.lean ====
section
/-! SUPPORT. What every operation leaves as it was: the relation `Frame w` between a state and a later one. The bits of `w` name the parts that may
change: bit `Part.bit` for a part of the state, bit 17 for every register, bit 32 + p for the registers of page p. The files Laws/Frame1 and on hold
one law for each operation, named after it, with the parts that the operation can reach. -/

namespace Sys2Proof.Machine

/-- The bit of a part. -/
def Part.bit : Part → Nat
  | .mem => 0
  | .keys => 1
  | .radio => 2
  | .link => 3
  | .buffers => 4
  | .cascade => 5
  | .time => 6
  | .events => 7
  | .faults => 8
  | .power => 9
  | .cores => 10
  | .flash => 11
  | .ports => 12
  | .bus => 13
  | .pages => 14
  | .copies => 15

/-- Everything that `l` names, `w` names. -/
abbrev Sub (l w : Nat) : Prop := l &&& w = l

/-- `w` lets the register at `a` change. -/
def RegOk (a w : Nat) : Prop := w.testBit 17 = true ∨ w.testBit (32 + pageIx a) = true

/-- `w` lets the registers of page `p` change. -/
def PageOk (p w : Nat) : Prop := w.testBit 17 = true ∨ w.testBit (32 + p) = true

/-- From `a` to `t` nothing changes but what `w` names. -/
def Frame (w : Nat) (a t : State) : Prop :=
  Keeps a t ∧ (∀ k : Part, w.testBit k.bit = false → a.same t k) ∧
    (a.canonical = true → ∀ x, ¬RegOk x w → t.reg x = a.reg x)

theorem Sub.trans {l m w : Nat} (h : Sub l m) (k : Sub m w) : Sub l w := by
  unfold Sub at *
  rw [← h, Nat.land_assoc, k]

theorem Sub.bit {l w n : Nat} (k : Sub l w) (h : l.testBit n = true) : w.testBit n = true := by
  have e : (l &&& w).testBit n = true := by rw [k]; exact h
  rw [Nat.testBit_land, Bool.and_eq_true] at e
  exact e.2

theorem RegOk.page {l w a : Nat} (k : Sub l w) (h : l.testBit (32 + pageIx a) = true) : RegOk a w := Or.inr (k.bit h)

theorem RegOk.all {l w a : Nat} (k : Sub l w) (h : l.testBit 17 = true) : RegOk a w := Or.inl (k.bit h)

theorem RegOk.at {l w a : Nat} (p : Nat) (k : Sub l w) (e : pageIx a = p) (h : l.testBit (32 + p) = true) : RegOk a w :=
  Or.inr (by rw [e]; exact k.bit h)

theorem PageOk.page {l w p : Nat} (k : Sub l w) (h : l.testBit (32 + p) = true) : PageOk p w := Or.inr (k.bit h)

theorem PageOk.all {l w p : Nat} (k : Sub l w) (h : l.testBit 17 = true) : PageOk p w := Or.inl (k.bit h)

theorem Frame.refl (w : Nat) (a : State) : Frame w a a := ⟨Keeps.refl a, fun k _ => by cases k <;> rfl, fun _ _ _ => rfl⟩

theorem Frame.upd {w : Nat} {a s : State} {out stalled pages freeCtr count alarms tmrs lpts lptPend wdtFeed radio rfe crs slices lanes comp timeline doneQ ctxs shared inService rxSeq owners rxq stash reserved outUsed nbtJobs sec hvl fabric recorder bst passed flt pwr boot upd eng cores icu flash spts prefetch hsp resetReq}
    (h : Frame w a s) (k1 : sec.secret = s.sec.secret) (k2 : OtpKept s.sec.otp sec.otp)
    (h1 : w.testBit 1 = true ∨ sec = s.sec)
    (h2 : w.testBit 2 = true ∨ (radio, rfe, crs, slices, lanes, comp, rxSeq) = (s.radio, s.rfe, s.crs, s.slices, s.lanes, s.comp, s.rxSeq))
    (h3 : w.testBit 3 = true ∨ (timeline, doneQ, ctxs, shared, inService, stash, reserved, outUsed, nbtJobs) = (s.timeline, s.doneQ, s.ctxs, s.shared, s.inService, s.stash, s.reserved, s.outUsed, s.nbtJobs))
    (h4 : w.testBit 4 = true ∨ (owners, rxq) = (s.owners, s.rxq))
    (h5 : w.testBit 5 = true ∨ hvl = s.hvl)
    (h6 : w.testBit 6 = true ∨ (count, alarms, tmrs, lpts, lptPend, wdtFeed) = (s.count, s.alarms, s.tmrs, s.lpts, s.lptPend, s.wdtFeed))
    (h7 : w.testBit 7 = true ∨ fabric = s.fabric)
    (h8 : w.testBit 8 = true ∨ (recorder, bst, passed, flt) = (s.recorder, s.bst, s.passed, s.flt))
    (h9 : w.testBit 9 = true ∨ (pwr, boot, upd, eng, resetReq) = (s.pwr, s.boot, s.upd, s.eng, s.resetReq))
    (h10 : w.testBit 10 = true ∨ (cores, icu) = (s.cores, s.icu))
    (h11 : w.testBit 11 = true ∨ flash = s.flash)
    (h12 : w.testBit 12 = true ∨ (spts, prefetch, hsp) = (s.spts, s.prefetch, s.hsp))
    (h13 : w.testBit 13 = true ∨ (out, stalled) = (s.out, s.stalled))
    (h14 : w.testBit 14 = true ∨ pages = s.pages)
    : Frame w a (State.mk s.pending s.variant s.regs s.bank s.mem out stalled pages freeCtr count alarms tmrs lpts lptPend wdtFeed radio rfe crs slices lanes comp timeline doneQ ctxs shared inService rxSeq owners rxq stash reserved outUsed nbtJobs sec hvl fabric recorder bst passed flt pwr boot upd eng cores icu flash spts prefetch hsp resetReq) :=
  ⟨h.1.upd k1 k2, fun k e => match k, e with
    | .mem, e => h.2.1 .mem e
    | .keys, e => (h1.resolve_left (by rw [show w.testBit 1 = false from e]; decide)).trans (h.2.1 .keys e)
    | .radio, e => (h2.resolve_left (by rw [show w.testBit 2 = false from e]; decide)).trans (h.2.1 .radio e)
    | .link, e => (h3.resolve_left (by rw [show w.testBit 3 = false from e]; decide)).trans (h.2.1 .link e)
    | .buffers, e => (h4.resolve_left (by rw [show w.testBit 4 = false from e]; decide)).trans (h.2.1 .buffers e)
    | .cascade, e => (h5.resolve_left (by rw [show w.testBit 5 = false from e]; decide)).trans (h.2.1 .cascade e)
    | .time, e => (h6.resolve_left (by rw [show w.testBit 6 = false from e]; decide)).trans (h.2.1 .time e)
    | .events, e => (h7.resolve_left (by rw [show w.testBit 7 = false from e]; decide)).trans (h.2.1 .events e)
    | .faults, e => (h8.resolve_left (by rw [show w.testBit 8 = false from e]; decide)).trans (h.2.1 .faults e)
    | .power, e => (h9.resolve_left (by rw [show w.testBit 9 = false from e]; decide)).trans (h.2.1 .power e)
    | .cores, e => (h10.resolve_left (by rw [show w.testBit 10 = false from e]; decide)).trans (h.2.1 .cores e)
    | .flash, e => (h11.resolve_left (by rw [show w.testBit 11 = false from e]; decide)).trans (h.2.1 .flash e)
    | .ports, e => (h12.resolve_left (by rw [show w.testBit 12 = false from e]; decide)).trans (h.2.1 .ports e)
    | .bus, e => (h13.resolve_left (by rw [show w.testBit 13 = false from e]; decide)).trans (h.2.1 .bus e)
    | .pages, e => (h14.resolve_left (by rw [show w.testBit 14 = false from e]; decide)).trans (h.2.1 .pages e)
    | .copies, e => h.2.1 .copies e
  , h.2.2⟩

theorem Frame.setReg {w : Nat} {a s : State} (h : Frame w a s) {x : Nat} {v : Word} (k : RegOk x w) : Frame w a (State.setReg s x v) := by
  refine ⟨h.1.setReg x v, fun p e => ?_, fun c y hy => ?_⟩
  · have g := h.2.1 p e
    cases p <;> simpa [State.same] using g
  · rw [State.reg_setReg (h.1.canon c), if_neg (by rintro rfl; exact hy k)]
    exact h.2.2 c y hy

theorem Frame.put {w : Nat} {a s : State} (h : Frame w a s) {f : Field} {v : Nat} (k : RegOk f.addr w) : Frame w a (State.put s f v) := h.setReg k

theorem Frame.putInt {w : Nat} {a s : State} (h : Frame w a s) {f : Field} {v : Int} (k : RegOk f.addr w) : Frame w a (State.putInt s f v) := h.setReg k

theorem Frame.countWrap {w : Nat} {a s : State} (h : Frame w a s) {f : Field} (k : RegOk f.addr w) : Frame w a (State.countWrap s f) := h.setReg k

theorem Frame.ite {w : Nat} {a x y : State} {c : Prop} [Decidable c] (h : Frame w a x) (g : Frame w a y) : Frame w a (if c then x else y) := by
  split <;> assumption

theorem Frame.countSat {w : Nat} {a s : State} (h : Frame w a s) {f : Field} (k : RegOk f.addr w) : Frame w a (State.countSat s f) := by
  unfold State.countSat; exact Frame.ite (h.put k) h

theorem Frame.putBit {w : Nat} {a s : State} (h : Frame w a s) {f : Field} {i : Nat} {b : Bool} (k : RegOk f.addr w) :
    Frame w a (State.putBit s f i b) := h.setReg k

theorem Frame.putRegBit {w : Nat} {a s : State} (h : Frame w a s) {x i : Nat} {b : Bool} (k : RegOk x w) :
    Frame w a (State.putRegBit s x i b) := h.setReg k

theorem Frame.putSense {w : Nat} {a s : State} (h : Frame w a s) {x : Nat} {m : Sense} (k : RegOk x w) :
    Frame w a (State.putSense s x m) := by
  unfold State.putSense
  exact Frame.put (Frame.put (Frame.putInt h (f := ⟨x, 24, 8⟩) k) (f := ⟨x, 12, 12⟩) k) (f := ⟨x, 0, 12⟩) k

theorem RegOk.of (off : Nat) {p w a : Nat} (k : PageOk p w) (e : a = 0x40000000 + off + p * 0x1000) (h : off < 0x1000) : RegOk a w := by
  refine k.imp id (fun x => ?_)
  have q : pageIx a = p := by unfold pageIx; omega
  rw [q]; exact x

theorem Frame.setPageSt {w : Nat} {a s : State} (h : Frame w a s) {p v : Nat} (k : PageOk p w) : Frame w a (State.setPageSt s p v) :=
  h.setReg (RegOk.of 0xC k rfl (by decide))

theorem Frame.raiseFlag {w : Nat} {a s : State} (h : Frame w a s) {p n : Nat} (k : PageOk p w) : Frame w a (State.raiseFlag s p n) :=
  h.setReg (RegOk.of 0x10 k rfl (by decide))

theorem Frame.flag {w : Nat} {a s : State} (h : Frame w a s) {p n : Nat} (k : PageOk p w) : Frame w a (State.flag s p n) := by
  unfold State.flag; exact Frame.ite (h.raiseFlag k) h

theorem Frame.lockViol {w : Nat} {a s : State} (h : Frame w a s) {p : Nat} (k : PageOk p w) : Frame w a (State.lockViol s p) := h.raiseFlag k

theorem Frame.setPage {w : Nat} {a s : State} (h : Frame w a s) {p : Nat} {x : PageState} (k : Sub 0x4000 w) : Frame w a (State.setPage s p x) := by
  have b : w.testBit 14 = true := k.bit (by decide)
  exact Frame.upd h rfl (OtpKept.refl _) (Or.inr rfl) (Or.inr rfl) (Or.inr rfl) (Or.inr rfl) (Or.inr rfl) (Or.inr rfl) (Or.inr rfl) (Or.inr rfl)
    (Or.inr rfl) (Or.inr rfl) (Or.inr rfl) (Or.inr rfl) (Or.inr rfl) (Or.inl b)

theorem Frame.cfgChange {w : Nat} {a s : State} (h : Frame w a s) {p : Nat} (k : PageOk p w) (k2 : Sub 0x4000 w) : Frame w a (State.cfgChange s p) := by
  unfold State.cfgChange
  split
  · exact (h.setPage k2).put (RegOk.of 0xC k rfl (by decide))
  · exact h

theorem Frame.setRegI {w : Nat} {a s : State} (h : Frame w a s) {i : Initiator} {x : Nat} {v : Word} (k : Sub 0x8000 w) :
    Frame w a (State.setRegI s i x v) := by
  have b : w.testBit 15 = true := k.bit (by decide)
  refine ⟨h.1.setRegI i x v, fun p e => ?_, fun c y hy => ?_⟩
  · have g := h.2.1 p e
    cases p
    case copies => exact absurd (b.symm.trans e) (by decide)
    all_goals simpa [State.same] using g
  · rw [State.reg_of_regs (State.setRegI_regs s i x v)]
    exact h.2.2 c y hy

/-- An update of memory, and of parts that are named. -/
theorem Frame.setMem {w : Nat} {a s : State} (h : Frame w a s) {m : List Host.Cell} (hm : Memory.wf s.mem = true → Memory.wf m = true)
    (k : Sub 1 w) : Frame w a { s with mem := m } := by
  have b : w.testBit 0 = true := k.bit (by decide)
  refine ⟨h.1.setMem hm, fun p e => ?_, h.2.2⟩
  have g := h.2.1 p e
  cases p
  case mem => exact absurd (b.symm.trans e) (by decide)
  all_goals exact g

theorem Frame.setByte {w : Nat} {a s : State} (h : Frame w a s) {x : Nat} {v : Byte} (k : Sub 0x101 w) : Frame w a (State.setByte s x v) := by
  have b : w.testBit 8 = true := k.bit (by decide)
  unfold State.setByte
  refine Frame.ite h ?_
  exact Frame.upd (h.setMem (fun c => Sparse.wf_set x v c) (Sub.trans (by decide) k)) rfl (OtpKept.refl _) (Or.inr rfl) (Or.inr rfl) (Or.inr rfl) (Or.inr rfl)
    (Or.inr rfl) (Or.inr rfl) (Or.inr rfl) (Or.inl b) (Or.inr rfl) (Or.inr rfl) (Or.inr rfl) (Or.inr rfl) (Or.inr rfl) (Or.inr rfl)

theorem Frame.keepMem {w : Nat} {a s : State} (h : Frame w a s) {p : Nat → Bool} (k : Sub 0x101 w) : Frame w a (State.keepMem s p) := by
  have b : w.testBit 8 = true := k.bit (by decide)
  unfold State.keepMem
  exact Frame.upd (h.setMem (fun c => Sparse.wf_filter (fun c => p c.1) c) (Sub.trans (by decide) k)) rfl (OtpKept.refl _) (Or.inr rfl) (Or.inr rfl) (Or.inr rfl)
    (Or.inr rfl) (Or.inr rfl) (Or.inr rfl) (Or.inr rfl) (Or.inl b) (Or.inr rfl) (Or.inr rfl) (Or.inr rfl) (Or.inr rfl) (Or.inr rfl) (Or.inr rfl)

theorem Frame.clearRange {w : Nat} {a s : State} (h : Frame w a s) {x n : Nat} (k : Sub 0x101 w) : Frame w a (State.clearRange s x n) := by
  have b : w.testBit 8 = true := k.bit (by decide)
  unfold State.clearRange
  exact Frame.upd (h.setMem (fun c => Sparse.wf_filter (fun c => !(decide (x ≤ c.1) && decide (c.1 < x + n))) c) (Sub.trans (by decide) k)) rfl (OtpKept.refl _)
    (Or.inr rfl) (Or.inr rfl) (Or.inr rfl) (Or.inr rfl) (Or.inr rfl) (Or.inr rfl) (Or.inr rfl) (Or.inl b) (Or.inr rfl) (Or.inr rfl) (Or.inr rfl) (Or.inr rfl)
    (Or.inr rfl) (Or.inr rfl)

theorem lePage (n : Nat) : pageIx (0x4001E1C0 + bitsOf n 28 3 * 4) = 0x1E := by
  have := Nat.mod_lt (n / 2 ^ 28) (show 0 < 2 ^ 3 by decide)
  unfold bitsOf pageIx; omega

theorem Frame.ite1 {α : Type} {w : Nat} {a : State} {x y : State × α} {c : Prop} [Decidable c] (h : Frame w a x.1) (g : Frame w a y.1) :
    Frame w a (if c then x else y).1 := by
  split <;> assumption

theorem Frame.ite2 {α : Type} {w : Nat} {a : State} {x y : α × State} {c : Prop} [Decidable c] (h : Frame w a x.2) (g : Frame w a y.2) :
    Frame w a (if c then x else y).2 := by
  split <;> assumption

theorem Frame.ite3 {α β : Type} {w : Nat} {a : State} {x y : α × β × State} {c : Prop} [Decidable c] (h : Frame w a x.2.2) (g : Frame w a y.2.2) :
    Frame w a (if c then x else y).2.2 := by
  split <;> assumption

theorem Frame.ite5 {α β γ δ : Type} {w : Nat} {a : State} {x y : α × β × γ × δ × State} {c : Prop} [Decidable c] (h : Frame w a x.2.2.2.2)
    (g : Frame w a y.2.2.2.2) : Frame w a (if c then x else y).2.2.2.2 := by
  split <;> assumption

theorem Frame.of1 {α : Type} {w : Nat} {a t : State} {p : State × α} {x : α} (e : p = (t, x)) (h : Frame w a p.1) : Frame w a t := by
  rw [e] at h; exact h

theorem Frame.of2 {α : Type} {w : Nat} {a t : State} {p : α × State} {x : α} (e : p = (x, t)) (h : Frame w a p.2) : Frame w a t := by
  rw [e] at h; exact h

theorem Frame.of3 {α β : Type} {w : Nat} {a t : State} {p : α × β × State} {x : α} {y : β} (e : p = (x, y, t)) (h : Frame w a p.2.2) : Frame w a t := by
  rw [e] at h; exact h

theorem Frame.of5 {α β γ δ : Type} {w : Nat} {a t : State} {p : α × β × γ × δ × State} {x : α} {y : β} {z : γ} {v : δ} (e : p = (x, y, z, v, t))
    (h : Frame w a p.2.2.2.2) : Frame w a t := by
  rw [e] at h; exact h

theorem Frame.ofSome {α : Type} {w : Nat} {a t : State} {p : α × State} {x : α} (e : some p = some (x, t)) (h : Frame w a p.2) : Frame w a t :=
  Frame.of2 (Option.some.inj e) h

theorem Frame.ofSome1 {w : Nat} {a t u : State} (e : some u = some t) (h : Frame w a u) : Frame w a t := Option.some.inj e ▸ h

theorem Frame.foldl {α : Type} {w : Nat} {a s : State} {f : State → α → State} {l : List α} (h : Frame w a s)
    (g : ∀ u, Frame w a u → ∀ x, Frame w a (f u x)) : Frame w a (l.foldl f s) := by
  induction l generalizing s with
  | nil => exact h
  | cons x l ih => exact ih (g _ h _)

theorem Frame.foldl2 {α β : Type} {w : Nat} {a : State} {p : β × State} {f : β × State → α → β × State} {l : List α} (h : Frame w a p.2)
    (g : ∀ u, Frame w a u.2 → ∀ x, Frame w a (f u x).2) : Frame w a (l.foldl f p).2 := by
  induction l generalizing p with
  | nil => exact h
  | cons x l ih => exact ih (g _ h _)

theorem Frame.forN {w : Nat} {a s : State} (h : Frame w a s) {f : Nat → State → State} {n : Nat} (g : ∀ i u, Frame w a u → Frame w a (f i u)) :
    Frame w a (forN n f s) := Frame.foldl h (fun u hu i => g i u hu)

theorem Frame.optDo {w : Nat} {a s : State} {α : Type} (h : Frame w a s) {o : Option α} {f : α → State} (g : ∀ x, Frame w a (f x)) :
    Frame w a (optDo o s f) := by
  cases o
  · exact h
  · exact g _

/-- The outcome is a next state in which nothing has changed but what `w` names. -/
def FrameAll (w : Nat) (a : State) (o : Host.Outcome State Fault Refusal) : Prop := ∃ t, o = .next t ∧ Frame w a t

theorem FrameAll.next {w : Nat} {a t : State} (h : Frame w a t) : FrameAll w a (.next t) := ⟨t, rfl, h⟩

theorem FrameAll.ite {w : Nat} {a : State} {x y : Host.Outcome State Fault Refusal} {c : Prop} [Decidable c] (h : FrameAll w a x) (g : FrameAll w a y) :
    FrameAll w a (if c then x else y) := by
  split <;> assumption

theorem Frame.consBlock {w : Nat} {a : State} {o : Option (Nat × State)} {g : State → Option (List Nat × State)}
    (h : ∀ x t, o = some (x, t) → Frame w a t) (k : ∀ s, Frame w a s → ∀ x t, g s = some (x, t) → Frame w a t) :
    ∀ x t, State.consBlock o g = some (x, t) → Frame w a t := by
  intro x t e
  unfold State.consBlock at e
  split at e
  · with_reducible contradiction
  · split at e
    · with_reducible contradiction
    · rename_i e2
      exact Frame.ofSome e (k _ (h _ _ rfl) _ _ e2)

end Sys2Proof.Machine
end

