-- ==== Sys2Proof/Laws/Frame1.lean ====
section
/-! SUPPORT. What the operations leave as it was (Laws/Frame.lean): Ops, FaultOps, HvlOps, Nbt, Buffers, Forward, Synth, Slots, Keys, Air, Regions, Security. -/

set_option linter.unusedTactic false
set_option linter.unreachableTactic false

namespace Sys2Proof.Machine

theorem Frame.putI {w : Nat} {a s : State} (h : Frame w a s) (k : Sub 0x8000 w) : ∀ x1 x2 x3, Frame w a (State.putI s x1 x2 x3) := by
  intro x1 x2 x3
  unfold State.putI; try dsimp only
  repeat' first
    | with_reducible assumption
    | with_reducible apply Frame.setRegI
    | exact Sub.trans (by decide) k

theorem Frame.setBytes {w : Nat} {a s : State} (h : Frame w a s) (k : Sub 0x101 w) : ∀ x bs, Frame w a (State.setBytes s x bs) := by
  intro x bs
  induction bs generalizing s x
  case nil => exact h
  case cons b bs ih => exact ih (h.setByte (Sub.trans (by decide) k)) (x + 1)

theorem Frame.setMemNat {w : Nat} {a s : State} (h : Frame w a s) (k : Sub 0x101 w) : ∀ x1 x2 x3, Frame w a (State.setMemNat s x1 x2 x3) := by
  intro x1 x2 x3
  unfold State.setMemNat; try dsimp only
  repeat' first
    | with_reducible assumption
    | with_reducible apply Frame.setBytes
    | exact Sub.trans (by decide) k

theorem Frame.freeVal {w : Nat} {a s : State} (h : Frame w a s) (k : Sub 0x10000 w) : Frame w a (State.freeVal s).2 := by
  exact Frame.upd h rfl (OtpKept.refl _) (Or.inr rfl) (Or.inr rfl) (Or.inr rfl) (Or.inr rfl) (Or.inr rfl) (Or.inr rfl) (Or.inr rfl) (Or.inr rfl)
    (Or.inr rfl) (Or.inr rfl) (Or.inr rfl) (Or.inr rfl) (Or.inr rfl) (Or.inr rfl)

theorem Frame.wake {w : Nat} {a s : State} (h : Frame w a s) (k : Sub 0x200 w) : ∀ x1, Frame w a (State.wake s x1) := by
  intro x1
  unfold State.wake; try dsimp only
  repeat' first
    | with_reducible assumption
    | with_reducible apply Frame.ite
    | with_reducible apply Frame.upd
    | with_reducible rfl
    | with_reducible exact OtpKept.refl _
    | with_reducible exact Or.inr rfl
    | exact Or.inl (k.bit (by decide))

theorem Frame.event {w : Nat} {a s : State} (h : Frame w a s) (k : Sub 0x80 w) : ∀ x1 x2, Frame w a (State.event s x1 x2) := by
  intro x1 x2
  unfold State.event; try dsimp only
  repeat' first
    | with_reducible assumption
    | with_reducible apply Frame.ite
    | with_reducible apply Frame.upd
    | with_reducible rfl
    | with_reducible exact OtpKept.refl _
    | with_reducible exact Or.inr rfl
    | exact Or.inl (k.bit (by decide))

theorem Frame.answer {w : Nat} {a s : State} (h : Frame w a s) (k : Sub 0x2000 w) : ∀ x1 x2 x3, Frame w a (State.answer s x1 x2 x3) := by
  intro x1 x2 x3
  unfold State.answer; try dsimp only
  repeat' first
    | with_reducible assumption
    | with_reducible apply Frame.upd
    | with_reducible rfl
    | with_reducible exact OtpKept.refl _
    | with_reducible exact Or.inr rfl
    | exact Or.inl (k.bit (by decide))

theorem Frame.setOwner {w : Nat} {a s : State} (h : Frame w a s) (k : Sub 0x10 w) : ∀ x1 x2, Frame w a (State.setOwner s x1 x2) := by
  intro x1 x2
  unfold State.setOwner; try dsimp only
  repeat' first
    | with_reducible assumption
    | with_reducible apply Frame.upd
    | with_reducible rfl
    | with_reducible exact OtpKept.refl _
    | with_reducible exact Or.inr rfl
    | exact Or.inl (k.bit (by decide))

theorem Frame.record {w : Nat} {a s : State} (h : Frame w a s) (k : Sub 0x10101 w) : ∀ x1 x2 x3, Frame w a (State.record s x1 x2 x3) := by
  intro x1 x2 x3
  unfold State.record; try dsimp only
  repeat' first
    | with_reducible assumption
    | with_reducible apply Frame.setBytes
    | with_reducible apply Frame.freeVal
    | with_reducible apply Frame.ite
    | split
    | refine Frame.of2 (by with_reducible assumption) ?_
    | with_reducible apply Frame.upd
    | with_reducible rfl
    | with_reducible exact OtpKept.refl _
    | with_reducible exact Or.inr rfl
    | exact Or.inl (k.bit (by decide))
    | exact Sub.trans (by decide) k

theorem Frame.setSlot {w : Nat} {a s : State} (h : Frame w a s) (k : Sub 0x4 w) : ∀ x1 x2, Frame w a (State.setSlot s x1 x2) := by
  intro x1 x2
  unfold State.setSlot; try dsimp only
  repeat' first
    | with_reducible assumption
    | split
    | with_reducible apply Frame.upd
    | with_reducible rfl
    | with_reducible exact OtpKept.refl _
    | with_reducible exact Or.inr rfl
    | exact Or.inl (k.bit (by decide))

theorem Frame.recordUnit {w : Nat} {a s : State} (h : Frame w a s) (k : Sub 0x10101 w) : ∀ x1 x2 x3, Frame w a (State.recordUnit s x1 x2 x3) := by
  intro x1 x2 x3
  unfold State.recordUnit; try dsimp only
  repeat' first
    | with_reducible assumption
    | with_reducible apply Frame.record
    | with_reducible apply Frame.ite
    | split
    | exact Sub.trans (by decide) k

theorem Frame.recGap {w : Nat} {a s : State} (h : Frame w a s) (k : Sub 0x10101 w) : ∀ x1 x2, Frame w a (State.recGap s x1 x2) := by
  intro x1 x2
  unfold State.recGap; try dsimp only
  repeat' first
    | with_reducible assumption
    | with_reducible apply Frame.record
    | with_reducible apply Frame.ite
    | with_reducible apply Frame.upd
    | with_reducible rfl
    | with_reducible exact OtpKept.refl _
    | with_reducible exact Or.inr rfl
    | exact Or.inl (k.bit (by decide))
    | exact Sub.trans (by decide) k

theorem Frame.recTrigger {w : Nat} {a s : State} (h : Frame w a s) (k : Sub 0x100000000000010101 w) : ∀ x1, Frame w a (State.recTrigger s x1) := by
  intro x1
  unfold State.recTrigger; try dsimp only
  repeat' first
    | with_reducible assumption
    | with_reducible apply Frame.put
    | with_reducible apply Frame.record
    | with_reducible apply Frame.setPageSt
    | with_reducible apply Frame.ite
    | with_reducible apply Frame.upd
    | with_reducible rfl
    | with_reducible exact OtpKept.refl _
    | with_reducible exact Or.inr rfl
    | exact Or.inl (k.bit (by decide))
    | exact Sub.trans (by decide) k
    | exact RegOk.page k (by decide)
    | exact PageOk.page k (by decide)

theorem Frame.recStatus {w : Nat} {a s : State} (h : Frame w a s) (k : Sub 0x100000000000010101 w) : ∀ x1, Frame w a (State.recStatus s x1) := by
  intro x1
  unfold State.recStatus; try dsimp only
  repeat' first
    | with_reducible assumption
    | with_reducible apply Frame.recTrigger
    | with_reducible apply Frame.ite
    | exact Sub.trans (by decide) k

theorem Frame.testMark {w : Nat} {a s : State} (h : Frame w a s) (k : Sub 0x2F880000000000000 w) : ∀ u b, Frame w a (State.testMark s u b) := by
  intro u b
  have hi := Nat.mod_lt u (show 0 < 256 by decide)
  have e1 : RegOk (F.NBD_SLICE_UNDER_TEST (u % 256)).addr w :=
    RegOk.at 0x1B k (by unfold F.NBD_SLICE_UNDER_TEST Reg.NBD_SLICE pageIx; dsimp only; omega) (by decide)
  have e2 : RegOk (F.OFD_LANE_UNDER_TEST (u % 256)).addr w :=
    RegOk.at 0x1C k (by unfold F.OFD_LANE_UNDER_TEST Reg.OFD_LANE pageIx; dsimp only; omega) (by decide)
  have e3 : RegOk (F.PAGE_STAT_UNDER_TEST (if u % 256 = 0 then P.LNK else if u % 256 = 1 then P.FRM else P.HVL)).addr w := by
    split
    · exact RegOk.page k (by decide)
    · split <;> exact RegOk.page k (by decide)
  unfold State.testMark; dsimp only
  repeat' first
    | with_reducible assumption
    | with_reducible apply Frame.put
    | split
    | exact RegOk.page k (by decide)

theorem Frame.bstFinish {w : Nat} {a s : State} (h : Frame w a s) (k : Sub 0xAF880000000000100 w) : ∀ x1 x2, Frame w a (State.bstFinish s x1 x2) := by
  intro x1 x2
  unfold State.bstFinish; try dsimp only
  repeat' first
    | with_reducible assumption
    | with_reducible apply Frame.setReg
    | with_reducible apply Frame.flag
    | with_reducible apply Frame.setPageSt
    | with_reducible apply Frame.testMark
    | with_reducible apply Frame.ite
    | split
    | with_reducible apply Frame.upd
    | with_reducible rfl
    | with_reducible exact OtpKept.refl _
    | with_reducible exact Or.inr rfl
    | exact Or.inl (k.bit (by decide))
    | exact Sub.trans (by decide) k
    | exact RegOk.page k (by decide)
    | exact PageOk.page k (by decide)

theorem Frame.bstStopPath {w : Nat} {a s : State} (h : Frame w a s) (k : Sub 0xAF880000000000100 w) : Frame w a (State.bstStopPath s) := by
  unfold State.bstStopPath; try dsimp only
  repeat' first
    | with_reducible assumption
    | with_reducible apply Frame.bstFinish
    | with_reducible apply Frame.ite
    | split
    | exact Sub.trans (by decide) k

theorem Frame.markRetired {w : Nat} {a s : State} (h : Frame w a s) (k : Sub 0x61880000000000000 w) : ∀ u b, Frame w a (State.markRetired s u b) := by
  intro u b
  have hi := Nat.mod_lt u (show 0 < 256 by decide)
  have e1 : RegOk (F.NBD_SLICE_RETIRED (u % 256)).addr w := RegOk.at 0x1B k (by unfold F.NBD_SLICE_RETIRED Reg.NBD_SLICE pageIx; dsimp only; omega) (by decide)
  have e2 : RegOk (F.OFD_LANE_RETIRED (u % 256)).addr w := RegOk.at 0x1C k (by unfold F.OFD_LANE_RETIRED Reg.OFD_LANE pageIx; dsimp only; omega) (by decide)
  have e3 : RegOk (Reg.FLT_RET_FLASH (u % 256 / 32)) w := RegOk.at 0x22 k (by unfold Reg.FLT_RET_FLASH pageIx; omega) (by decide)
  have e4 : RegOk (Reg.FLT_PEND_SRAM (u % 256 / 32)) w := RegOk.at 0x22 k (by unfold Reg.FLT_PEND_SRAM pageIx; omega) (by decide)
  have e5 : RegOk (Reg.FLT_RET_SRAM (u % 256 / 32)) w := RegOk.at 0x22 k (by unfold Reg.FLT_RET_SRAM pageIx; omega) (by decide)
  unfold State.markRetired; dsimp only
  repeat' first
    | with_reducible assumption
    | with_reducible apply Frame.put
    | with_reducible apply Frame.putBit
    | with_reducible apply Frame.putRegBit
    | with_reducible apply Frame.ite
    | split
    | exact RegOk.page k (by decide)

theorem Frame.showRetired {w : Nat} {a s : State} (h : Frame w a s) (k : Sub 0x61880000000000000 w) : Frame w a (State.showRetired s) := by
  unfold State.showRetired; try dsimp only
  repeat' first
    | with_reducible assumption
    | with_reducible apply Frame.markRetired
    | with_reducible refine Frame.foldl ?_ (fun _ _ _ => ?_)
    | with_reducible refine Frame.foldl2 ?_ (fun _ _ _ => ?_)
    | with_reducible apply Frame.ite
    | exact Sub.trans (by decide) k

theorem Frame.askRewrite {w : Nat} {a s : State} (h : Frame w a s) (k : Sub 0x40000000000000100 w) : Frame w a (State.askRewrite s) := by
  unfold State.askRewrite; try dsimp only
  repeat' first
    | with_reducible assumption
    | with_reducible apply Frame.put
    | with_reducible apply Frame.setPageSt
    | with_reducible apply Frame.ite
    | with_reducible apply Frame.upd
    | with_reducible rfl
    | with_reducible exact OtpKept.refl _
    | with_reducible exact Or.inr rfl
    | exact Or.inl (k.bit (by decide))
    | exact RegOk.page k (by decide)
    | exact PageOk.page k (by decide)

theorem Frame.faultLog {w : Nat} {a s : State} (h : Frame w a s) (k : Sub 0x40000000000000100 w) : ∀ x1 x2 x3 x4, Frame w a (State.faultLog s x1 x2 x3 x4) := by
  intro x1 x2 x3 x4
  unfold State.faultLog; try dsimp only
  repeat' first
    | with_reducible assumption
    | with_reducible apply Frame.flag
    | with_reducible apply Frame.ite
    | with_reducible apply Frame.upd
    | with_reducible rfl
    | with_reducible exact OtpKept.refl _
    | with_reducible exact Or.inr rfl
    | exact Or.inl (k.bit (by decide))
    | exact PageOk.page k (by decide)

theorem Frame.retireUnit {w : Nat} {a s : State} (h : Frame w a s) (k : Sub 0x61880000000000180 w) : ∀ x1, Frame w a (State.retireUnit s x1) := by
  intro x1
  unfold State.retireUnit; try dsimp only
  repeat' first
    | with_reducible assumption
    | with_reducible apply Frame.event
    | with_reducible apply Frame.askRewrite
    | with_reducible apply Frame.flag
    | with_reducible apply Frame.markRetired
    | with_reducible apply Frame.ite
    | with_reducible apply Frame.upd
    | with_reducible rfl
    | with_reducible exact OtpKept.refl _
    | with_reducible exact Or.inr rfl
    | exact Or.inl (k.bit (by decide))
    | exact Sub.trans (by decide) k
    | exact PageOk.page k (by decide)

theorem Frame.setFaultTimes {w : Nat} {a s : State} (h : Frame w a s) (k : Sub 0x100 w) : ∀ x1 x2, Frame w a (State.setFaultTimes s x1 x2) := by
  intro x1 x2
  unfold State.setFaultTimes; try dsimp only
  repeat' first
    | with_reducible assumption
    | with_reducible apply Frame.ite
    | with_reducible apply Frame.upd
    | with_reducible rfl
    | with_reducible exact OtpKept.refl _
    | with_reducible exact Or.inr rfl
    | exact Or.inl (k.bit (by decide))

theorem Frame.countFault {w : Nat} {a s : State} (h : Frame w a s) (k : Sub 0x100 w) : ∀ x1, Frame w a (State.countFault s x1) := by
  intro x1
  unfold State.countFault; try dsimp only
  repeat' first
    | with_reducible assumption
    | with_reducible apply Frame.setFaultTimes
    | with_reducible apply Frame.ite
    | with_reducible apply Frame.upd
    | with_reducible rfl
    | with_reducible exact OtpKept.refl _
    | with_reducible exact Or.inr rfl
    | exact Or.inl (k.bit (by decide))
    | exact Sub.trans (by decide) k

theorem Frame.reportFault {w : Nat} {a s : State} (h : Frame w a s) (k : Sub 0x61880000000000180 w) : ∀ x1 x2 x3, Frame w a (State.reportFault s x1 x2 x3) := by
  intro x1 x2 x3
  unfold State.reportFault; try dsimp only
  repeat' first
    | with_reducible assumption
    | with_reducible apply Frame.event
    | with_reducible apply Frame.countFault
    | with_reducible apply Frame.setFaultTimes
    | with_reducible apply Frame.faultLog
    | with_reducible apply Frame.retireUnit
    | with_reducible apply Frame.flag
    | with_reducible apply Frame.ite
    | with_reducible apply Frame.upd
    | with_reducible rfl
    | with_reducible exact OtpKept.refl _
    | with_reducible exact Or.inr rfl
    | exact Or.inl (k.bit (by decide))
    | exact Sub.trans (by decide) k
    | exact PageOk.page k (by decide)

theorem Frame.setHop {w : Nat} {a s : State} (h : Frame w a s) (k : Sub 0x20 w) : ∀ x1 x2, Frame w a (State.setHop s x1 x2) := by
  intro x1 x2
  unfold State.setHop; try dsimp only
  repeat' first
    | with_reducible assumption
    | split
    | with_reducible apply Frame.upd
    | with_reducible rfl
    | with_reducible exact OtpKept.refl _
    | with_reducible exact Or.inr rfl
    | exact Or.inl (k.bit (by decide))

theorem Frame.sendChars {w : Nat} {a s : State} (h : Frame w a s) (k : Sub 0x20 w) : ∀ x1 x2, Frame w a (State.sendChars s x1 x2) := by
  intro x1 x2
  unfold State.sendChars; try dsimp only
  repeat' first
    | with_reducible assumption
    | with_reducible apply Frame.setHop
    | with_reducible apply Frame.ite
    | with_reducible apply Frame.upd
    | with_reducible rfl
    | with_reducible exact OtpKept.refl _
    | with_reducible exact Or.inr rfl
    | exact Or.inl (k.bit (by decide))
    | exact Sub.trans (by decide) k

theorem Frame.hopSend {w : Nat} {a s : State} (h : Frame w a s) (k : Sub 0x20 w) : ∀ x1 x2 x3, Frame w a (State.hopSend s x1 x2 x3) := by
  intro x1 x2 x3
  unfold State.hopSend; try dsimp only
  repeat' first
    | with_reducible assumption
    | with_reducible apply Frame.sendChars
    | with_reducible apply Frame.setHop
    | with_reducible apply Frame.ite
    | with_reducible apply Frame.upd
    | with_reducible rfl
    | with_reducible exact OtpKept.refl _
    | with_reducible exact Or.inr rfl
    | exact Or.inl (k.bit (by decide))
    | exact Sub.trans (by decide) k

theorem Frame.hvlSend {w : Nat} {a s : State} (h : Frame w a s) (k : Sub 0x20 w) : ∀ x1 x2 x3 x4 x5 x6 x7, Frame w a (State.hvlSend s x1 x2 x3 x4 x5 x6 x7) := by
  intro x1 x2 x3 x4 x5 x6 x7
  unfold State.hvlSend; try dsimp only
  repeat' first
    | with_reducible assumption
    | with_reducible apply Frame.hopSend
    | with_reducible apply Frame.ite
    | exact Sub.trans (by decide) k

theorem Frame.hvlTag {w : Nat} {a s : State} (h : Frame w a s) (k : Sub 0x20 w) : Frame w a (State.hvlTag s).2 := by
  unfold State.hvlTag; try dsimp only
  repeat' first
    | with_reducible assumption
    | with_reducible apply Frame.upd
    | with_reducible rfl
    | with_reducible exact OtpKept.refl _
    | with_reducible exact Or.inr rfl
    | exact Or.inl (k.bit (by decide))

theorem Frame.setEntW {w : Nat} {a s : State} (h : Frame w a s) (k : Sub 0x101 w) : ∀ x1 x2 x3, Frame w a (State.setEntW s x1 x2 x3) := by
  intro x1 x2 x3
  unfold State.setEntW; try dsimp only
  repeat' first
    | with_reducible assumption
    | with_reducible apply Frame.setMemNat
    | exact Sub.trans (by decide) k

theorem Frame.entFault {w : Nat} {a s : State} (h : Frame w a s) (k : Sub 0x61880000000000180 w) : ∀ x1, Frame w a (State.entFault s x1) := by
  intro x1
  unfold State.entFault; try dsimp only
  repeat' first
    | with_reducible assumption
    | with_reducible apply Frame.reportFault
    | exact Sub.trans (by decide) k

theorem Frame.searchFault {w : Nat} {a s : State} (h : Frame w a s) (k : Sub 0x61880000000000180 w) : ∀ x1, Frame w a (State.searchFault s x1) := by
  intro x1
  unfold State.searchFault; try dsimp only
  repeat' first
    | with_reducible assumption
    | with_reducible apply Frame.entFault
    | split
    | exact Sub.trans (by decide) k

theorem Frame.remoteU {w : Nat} {a s : State} (h : Frame w a s) (k : Sub 0x10008 w) : ∀ x1, Frame w a (State.remoteU s x1).2 := by
  intro x1
  unfold State.remoteU; try dsimp only
  repeat' first
    | with_reducible assumption
    | with_reducible apply Frame.freeVal
    | split
    | refine Frame.of2 (by with_reducible assumption) ?_
    | with_reducible apply Frame.upd
    | with_reducible rfl
    | with_reducible exact OtpKept.refl _
    | with_reducible exact Or.inr rfl
    | exact Or.inl (k.bit (by decide))
    | exact Sub.trans (by decide) k

theorem Frame.remoteTarget {w : Nat} {a s : State} (h : Frame w a s) (k : Sub 0x10008 w) : ∀ x1 x2, Frame w a (State.remoteTarget s x1 x2).2 := by
  intro x1 x2
  unfold State.remoteTarget; try dsimp only
  repeat' first
    | with_reducible assumption
    | with_reducible apply Frame.freeVal
    | with_reducible apply Frame.remoteU
    | with_reducible refine Frame.foldl ?_ (fun _ _ _ => ?_)
    | with_reducible refine Frame.foldl2 ?_ (fun _ _ _ => ?_)
    | with_reducible apply Frame.ite
    | with_reducible apply Frame.ite2
    | split
    | refine Frame.of2 (by with_reducible assumption) ?_
    | exact Sub.trans (by decide) k

theorem Frame.raiseW {w : Nat} {a s : State} (h : Frame w a s) (k : Sub 0x101 w) : ∀ x1 x2 x3, Frame w a (State.raiseW s x1 x2 x3) := by
  intro x1 x2 x3
  unfold State.raiseW; try dsimp only
  repeat' first
    | with_reducible assumption
    | with_reducible apply Frame.setEntW
    | with_reducible apply Frame.ite
    | exact Sub.trans (by decide) k

theorem Frame.reserveOut {w : Nat} {a s : State} (h : Frame w a s) (k : Sub 0x8 w) : ∀ x1, Frame w a (State.reserveOut s x1).2 := by
  intro x1
  unfold State.reserveOut; try dsimp only
  repeat' first
    | with_reducible assumption
    | with_reducible apply Frame.upd
    | with_reducible rfl
    | with_reducible exact OtpKept.refl _
    | with_reducible exact Or.inr rfl
    | exact Or.inl (k.bit (by decide))

theorem Frame.dropReserve {w : Nat} {a s : State} (h : Frame w a s) (k : Sub 0x109 w) : ∀ x1 x2, Frame w a (State.dropReserve s x1 x2) := by
  intro x1 x2
  unfold State.dropReserve; try dsimp only
  repeat' first
    | with_reducible assumption
    | with_reducible apply Frame.raiseW
    | with_reducible apply Frame.upd
    | with_reducible rfl
    | with_reducible exact OtpKept.refl _
    | with_reducible exact Or.inr rfl
    | exact Or.inl (k.bit (by decide))
    | exact Sub.trans (by decide) k

theorem Frame.fetchOut {w : Nat} {a s : State} (h : Frame w a s) (k : Sub 0x101 w) : ∀ x1, Frame w a (State.fetchOut s x1).2 := by
  intro x1
  unfold State.fetchOut; try dsimp only
  repeat' first
    | with_reducible assumption
    | with_reducible apply Frame.setEntW
    | exact Sub.trans (by decide) k

theorem Frame.lqUpdate {w : Nat} {a s : State} (h : Frame w a s) (k : Sub 0x101 w) : ∀ x1 x2 x3 x4, Frame w a (State.lqUpdate s x1 x2 x3 x4) := by
  intro x1 x2 x3 x4
  unfold State.lqUpdate; try dsimp only
  repeat' first
    | with_reducible assumption
    | with_reducible apply Frame.setEntW
    | with_reducible apply Frame.ite
    | exact Sub.trans (by decide) k

theorem Frame.applyVerdict {w : Nat} {a s : State} (h : Frame w a s) (k : Sub 0x109 w) : ∀ x1 x2 x3 x4 x5 x6 x7 x8 x9, Frame w a (State.applyVerdict s x1 x2 x3 x4 x5 x6 x7 x8 x9) := by
  intro x1 x2 x3 x4 x5 x6 x7 x8 x9
  unfold State.applyVerdict; try dsimp only
  repeat' first
    | with_reducible assumption
    | with_reducible apply Frame.raiseW
    | with_reducible apply Frame.lqUpdate
    | with_reducible apply Frame.dropReserve
    | with_reducible apply Frame.ite
    | split
    | exact Sub.trans (by decide) k

theorem Frame.sendVerdict {w : Nat} {a s : State} (h : Frame w a s) (k : Sub 0x129 w) : ∀ x1 x2 x3 x4 x5 x6 x7 x8, Frame w a (State.sendVerdict s x1 x2 x3 x4 x5 x6 x7 x8) := by
  intro x1 x2 x3 x4 x5 x6 x7 x8
  unfold State.sendVerdict; try dsimp only
  repeat' first
    | with_reducible assumption
    | with_reducible apply Frame.applyVerdict
    | with_reducible apply Frame.hvlTag
    | with_reducible apply Frame.hvlSend
    | with_reducible apply Frame.ite
    | split
    | refine Frame.of2 (by with_reducible assumption) ?_
    | with_reducible apply Frame.upd
    | with_reducible rfl
    | with_reducible exact OtpKept.refl _
    | with_reducible exact Or.inr rfl
    | exact Or.inl (k.bit (by decide))
    | exact Sub.trans (by decide) k

theorem Frame.insertCheck {w : Nat} {a s : State} (h : Frame w a s) (k : Sub 0x61880000000010180 w) : ∀ x1, Frame w a (State.insertCheck s x1).2 := by
  intro x1
  unfold State.insertCheck; try dsimp only
  repeat' first
    | with_reducible assumption
    | with_reducible apply Frame.entFault
    | with_reducible apply Frame.freeVal
    | with_reducible apply Frame.ite
    | with_reducible apply Frame.ite2
    | split
    | refine Frame.of2 (by with_reducible assumption) ?_
    | exact Sub.trans (by decide) k

theorem Frame.installEntry {w : Nat} {a s : State} (h : Frame w a s) (k : Sub 0x101 w) : ∀ x1 x2, Frame w a (State.installEntry s x1 x2) := by
  intro x1 x2
  unfold State.installEntry; try dsimp only
  repeat' first
    | with_reducible assumption
    | with_reducible apply Frame.setEntW
    | with_reducible refine Frame.foldl ?_ (fun _ _ _ => ?_)
    | with_reducible refine Frame.foldl2 ?_ (fun _ _ _ => ?_)
    | with_reducible apply Frame.ite
    | exact Sub.trans (by decide) k

theorem Frame.stashHigh {w : Nat} {a s : State} (h : Frame w a s) (k : Sub 0x10000000000000000 w) : Frame w a (State.stashHigh s) := by
  unfold State.stashHigh; try dsimp only
  repeat' first
    | with_reducible assumption
    | with_reducible apply Frame.flag
    | with_reducible apply Frame.ite
    | exact PageOk.page k (by decide)

theorem Frame.nbtInsert {w : Nat} {a s : State} (h : Frame w a s) (k : Sub 0x71880000000010189 w) : ∀ x1, Frame w a (State.nbtInsert s x1).2.2.2.2 := by
  intro x1
  unfold State.nbtInsert; try dsimp only
  repeat' first
    | with_reducible assumption
    | with_reducible apply Frame.insertCheck
    | with_reducible apply Frame.searchFault
    | with_reducible apply Frame.installEntry
    | with_reducible apply Frame.stashHigh
    | with_reducible apply Frame.ite
    | with_reducible apply Frame.ite5
    | split
    | refine Frame.of2 (by with_reducible assumption) ?_
    | with_reducible apply Frame.upd
    | with_reducible rfl
    | with_reducible exact OtpKept.refl _
    | with_reducible exact Or.inr rfl
    | exact Or.inl (k.bit (by decide))
    | exact Sub.trans (by decide) k

theorem Frame.nbtUpdate {w : Nat} {a s : State} (h : Frame w a s) (k : Sub 0x61880000000000181 w) : ∀ x1 x2 x3, Frame w a (State.nbtUpdate s x1 x2 x3).2.2.2.2 := by
  intro x1 x2 x3
  unfold State.nbtUpdate; try dsimp only
  repeat' first
    | with_reducible assumption
    | with_reducible apply Frame.setEntW
    | with_reducible apply Frame.entFault
    | with_reducible refine Frame.foldl ?_ (fun _ _ _ => ?_)
    | with_reducible refine Frame.foldl2 ?_ (fun _ _ _ => ?_)
    | with_reducible apply Frame.ite
    | with_reducible apply Frame.ite5
    | exact Sub.trans (by decide) k

theorem Frame.entryGone {w : Nat} {a s : State} (h : Frame w a s) (k : Sub 0x8 w) : ∀ x1, Frame w a (State.entryGone s x1) := by
  intro x1
  unfold State.entryGone; try dsimp only
  repeat' first
    | with_reducible assumption
    | with_reducible apply Frame.ite
    | with_reducible apply Frame.upd
    | with_reducible rfl
    | with_reducible exact OtpKept.refl _
    | with_reducible exact Or.inr rfl
    | exact Or.inl (k.bit (by decide))

theorem Frame.nbtDelete {w : Nat} {a s : State} (h : Frame w a s) (k : Sub 0x61880000000000189 w) : ∀ x1, Frame w a (State.nbtDelete s x1).2.2.2.2 := by
  intro x1
  unfold State.nbtDelete; try dsimp only
  repeat' first
    | with_reducible assumption
    | with_reducible apply Frame.entryGone
    | with_reducible apply Frame.setEntW
    | with_reducible apply Frame.entFault
    | with_reducible apply Frame.ite
    | with_reducible apply Frame.ite5
    | with_reducible apply Frame.upd
    | with_reducible rfl
    | with_reducible exact OtpKept.refl _
    | with_reducible exact Or.inr rfl
    | exact Or.inl (k.bit (by decide))
    | exact Sub.trans (by decide) k

theorem Frame.nbtLookup {w : Nat} {a s : State} (h : Frame w a s) (k : Sub 0x61880000000010180 w) : ∀ x1, Frame w a (State.nbtLookup s x1).2.2.2.2 := by
  intro x1
  unfold State.nbtLookup; try dsimp only
  repeat' first
    | with_reducible assumption
    | with_reducible apply Frame.searchFault
    | with_reducible apply Frame.entFault
    | with_reducible apply Frame.freeVal
    | with_reducible apply Frame.ite
    | with_reducible apply Frame.ite5
    | split
    | refine Frame.of2 (by with_reducible assumption) ?_
    | exact Sub.trans (by decide) k

theorem Frame.nbtReadAt {w : Nat} {a s : State} (h : Frame w a s) (k : Sub 0x61880000000000180 w) : ∀ x1, Frame w a (State.nbtReadAt s x1).2.2.2.2 := by
  intro x1
  unfold State.nbtReadAt; try dsimp only
  repeat' first
    | with_reducible assumption
    | with_reducible apply Frame.entFault
    | with_reducible apply Frame.ite
    | with_reducible apply Frame.ite5
    | exact Sub.trans (by decide) k

theorem Frame.nbtExec {w : Nat} {a s : State} (h : Frame w a s) (k : Sub 0x71880000000010189 w) : ∀ x1, Frame w a (State.nbtExec s x1).2.2.2.2 := by
  intro x1
  unfold State.nbtExec; try dsimp only
  repeat' first
    | with_reducible assumption
    | with_reducible apply Frame.nbtUpdate
    | with_reducible apply Frame.nbtDelete
    | with_reducible apply Frame.nbtInsert
    | with_reducible apply Frame.nbtLookup
    | with_reducible apply Frame.nbtReadAt
    | with_reducible apply Frame.ite
    | with_reducible apply Frame.ite5
    | refine Frame.of5 (by with_reducible assumption) ?_
    | exact Sub.trans (by decide) k

theorem Frame.nbtBusy {w : Nat} {a s : State} (h : Frame w a s) (k : Sub 0x10000000000000000 w) : Frame w a (State.nbtBusy s) := by
  unfold State.nbtBusy; try dsimp only
  repeat' first
    | with_reducible assumption
    | with_reducible apply Frame.setPageSt
    | exact PageOk.page k (by decide)

theorem Frame.nbtComplete {w : Nat} {a s : State} (h : Frame w a s) (k : Sub 0x10000000000008008 w) : ∀ x1 x2 x3 x4 x5 x6, Frame w a (State.nbtComplete s x1 x2 x3 x4 x5 x6) := by
  intro x1 x2 x3 x4 x5 x6
  unfold State.nbtComplete; try dsimp only
  repeat' first
    | with_reducible assumption
    | with_reducible apply Frame.setRegI
    | with_reducible apply Frame.flag
    | with_reducible apply Frame.countSat
    | with_reducible apply Frame.nbtBusy
    | with_reducible refine Frame.foldl ?_ (fun _ _ _ => ?_)
    | with_reducible refine Frame.foldl2 ?_ (fun _ _ _ => ?_)
    | with_reducible apply Frame.ite
    | split
    | with_reducible apply Frame.upd
    | with_reducible rfl
    | with_reducible exact OtpKept.refl _
    | with_reducible exact Or.inr rfl
    | exact Or.inl (k.bit (by decide))
    | exact Sub.trans (by decide) k
    | exact RegOk.page k (by decide)
    | exact PageOk.page k (by decide)

theorem Frame.sendParts {w : Nat} {a s : State} (h : Frame w a s) (k : Sub 0x20 w) : ∀ x1 x2 x3 x4, Frame w a (State.sendParts s x1 x2 x3 x4) := by
  intro x1 x2 x3 x4
  unfold State.sendParts; try dsimp only
  repeat' first
    | with_reducible assumption
    | with_reducible apply Frame.hvlSend
    | with_reducible apply Frame.ite
    | exact Sub.trans (by decide) k

theorem Frame.nbtCmdWrite {w : Nat} {a s : State} (h : Frame w a s) (k : Sub 0x10000000000008028 w) : ∀ x1 x2, Frame w a (State.nbtCmdWrite s x1 x2) := by
  intro x1 x2
  unfold State.nbtCmdWrite; try dsimp only
  repeat' first
    | with_reducible assumption
    | with_reducible apply Frame.hvlTag
    | with_reducible apply Frame.sendParts
    | with_reducible apply Frame.setRegI
    | with_reducible apply Frame.putI
    | with_reducible apply Frame.nbtBusy
    | with_reducible apply Frame.ite
    | split
    | refine Frame.of2 (by with_reducible assumption) ?_
    | with_reducible apply Frame.upd
    | with_reducible rfl
    | with_reducible exact OtpKept.refl _
    | with_reducible exact Or.inr rfl
    | exact Or.inl (k.bit (by decide))
    | exact Sub.trans (by decide) k

theorem Frame.execNbtCommandDone {w : Nat} {a s : State} (h : Frame w a s) (k : Sub 0x71880000000018189 w) : ∀ x0, FrameAll w a (Machine.execNbtCommandDone x0 s) := by
  intro x0
  unfold Machine.execNbtCommandDone; try dsimp only
  repeat' first
    | with_reducible assumption
    | with_reducible apply Frame.nbtComplete
    | with_reducible apply Frame.nbtExec
    | with_reducible apply Frame.ite
    | with_reducible apply FrameAll.ite
    | with_reducible apply FrameAll.next
    | split
    | refine Frame.of5 (by with_reducible assumption) ?_
    | exact Sub.trans (by decide) k

theorem Frame.takeBlock {w : Nat} {a s : State} (h : Frame w a s) (k : Sub 0x8000000000010010 w) : ∀ x1 x t, State.takeBlock s x1 = some (x, t) → Frame w a t := by
  intro x1 x t e
  unfold State.takeBlock at e; try dsimp only at e
  repeat' first
    | with_reducible assumption
    | (with_reducible contradiction)
    | with_reducible refine Frame.ofSome e ?_
    | (split at e)
    | with_reducible apply Frame.setOwner
    | with_reducible apply Frame.freeVal
    | with_reducible apply Frame.flag
    | with_reducible apply Frame.ite
    | split
    | refine Frame.of2 (by with_reducible assumption) ?_
    | exact Sub.trans (by decide) k
    | exact PageOk.page k (by decide)

theorem Frame.takeBlocks {w : Nat} {a s : State} (h : Frame w a s) (k : Sub 0x8000000000010010 w) : ∀ o n x t, State.takeBlocks s o n = some (x, t) → Frame w a t := by
  intro o n
  induction n generalizing s
  case zero => intro x t e; exact Frame.ofSome e h
  case succ n ih => exact Frame.consBlock (h.takeBlock (Sub.trans (by decide) k) o) (fun _ hs => ih hs)

theorem Frame.setLnkReady {w : Nat} {a s : State} (h : Frame w a s) (k : Sub 0x4000000000000000 w) : Frame w a (State.setLnkReady s) := by
  unfold State.setLnkReady; try dsimp only
  repeat' first
    | with_reducible assumption
    | with_reducible apply Frame.put
    | exact RegOk.page k (by decide)

theorem Frame.freeBlock {w : Nat} {a s : State} (h : Frame w a s) (k : Sub 0x4000000000000018 w) : ∀ x1, Frame w a (State.freeBlock s x1) := by
  intro x1
  unfold State.freeBlock; try dsimp only
  repeat' first
    | with_reducible assumption
    | with_reducible apply Frame.setOwner
    | with_reducible apply Frame.setLnkReady
    | with_reducible apply Frame.ite
    | split
    | with_reducible apply Frame.upd
    | with_reducible rfl
    | with_reducible exact OtpKept.refl _
    | with_reducible exact Or.inr rfl
    | exact Or.inl (k.bit (by decide))
    | exact Sub.trans (by decide) k

theorem Frame.freeAll {w : Nat} {a s : State} (h : Frame w a s) (k : Sub 0x4000000000000018 w) : ∀ x1, Frame w a (State.freeAll s x1) := by
  intro x1
  unfold State.freeAll; try dsimp only
  repeat' first
    | with_reducible assumption
    | with_reducible apply Frame.freeBlock
    | with_reducible refine Frame.foldl ?_ (fun _ _ _ => ?_)
    | with_reducible refine Frame.foldl2 ?_ (fun _ _ _ => ?_)
    | exact Sub.trans (by decide) k

theorem Frame.giveAll {w : Nat} {a s : State} (h : Frame w a s) (k : Sub 0x10 w) : ∀ x1 x2, Frame w a (State.giveAll s x1 x2) := by
  intro x1 x2
  unfold State.giveAll; try dsimp only
  repeat' first
    | with_reducible assumption
    | with_reducible apply Frame.setOwner
    | with_reducible refine Frame.foldl ?_ (fun _ _ _ => ?_)
    | with_reducible refine Frame.foldl2 ?_ (fun _ _ _ => ?_)
    | exact Sub.trans (by decide) k

theorem Frame.ctxTake {w : Nat} {a s : State} (h : Frame w a s) (k : Sub 0xC000000000010018 w) : Frame w a (State.ctxTake s) := by
  unfold State.ctxTake; try dsimp only
  repeat' first
    | with_reducible assumption
    | with_reducible apply Frame.setLnkReady
    | refine Frame.takeBlock ?_ ?_ _ _ _ (by with_reducible assumption)
    | with_reducible refine Frame.foldl ?_ (fun _ _ _ => ?_)
    | with_reducible refine Frame.foldl2 ?_ (fun _ _ _ => ?_)
    | with_reducible apply Frame.ite
    | split
    | with_reducible apply Frame.upd
    | with_reducible rfl
    | with_reducible exact OtpKept.refl _
    | with_reducible exact Or.inr rfl
    | exact Or.inl (k.bit (by decide))
    | exact Sub.trans (by decide) k

theorem Frame.ctxReturn {w : Nat} {a s : State} (h : Frame w a s) (k : Sub 0x4000000000000018 w) : Frame w a (State.ctxReturn s) := by
  unfold State.ctxReturn; try dsimp only
  repeat' first
    | with_reducible assumption
    | with_reducible apply Frame.setOwner
    | with_reducible apply Frame.setLnkReady
    | with_reducible refine Frame.foldl ?_ (fun _ _ _ => ?_)
    | with_reducible refine Frame.foldl2 ?_ (fun _ _ _ => ?_)
    | split
    | with_reducible apply Frame.upd
    | with_reducible rfl
    | with_reducible exact OtpKept.refl _
    | with_reducible exact Or.inr rfl
    | exact Or.inl (k.bit (by decide))
    | exact Sub.trans (by decide) k

theorem Frame.layChain {w : Nat} {a s : State} (h : Frame w a s) (k : Sub 0x101 w) : ∀ f bs d, Frame w a (State.layChain s f bs d) := by
  intro f bs d
  induction bs generalizing s f d
  case nil => exact h
  case cons b bs ih => exact ih ((h.setMemNat (Sub.trans (by decide) k) _ _ _).setBytes (Sub.trans (by decide) k) _ _) _ _

theorem Frame.storeChain {w : Nat} {a s : State} (h : Frame w a s) (k : Sub 0x101 w) : ∀ x1 x2 x3 x4 x5, Frame w a (State.storeChain s x1 x2 x3 x4 x5) := by
  intro x1 x2 x3 x4 x5
  unfold State.storeChain; try dsimp only
  repeat' first
    | with_reducible assumption
    | with_reducible apply Frame.setMemNat
    | with_reducible apply Frame.layChain
    | split
    | exact Sub.trans (by decide) k

theorem Frame.releaseWalk {w : Nat} {a s : State} (h : Frame w a s) (k : Sub 0x6D880000000000198 w) : ∀ b f n, Frame w a (State.releaseWalk s b f n).1 := by
  intro b f n
  induction n generalizing s b f
  case zero =>
    unfold State.releaseWalk; dsimp only
    repeat' first
      | with_reducible assumption
      | with_reducible apply Frame.put
      | with_reducible apply Frame.flag
      | exact RegOk.page k (by decide)
      | exact PageOk.page k (by decide)
  case succ n ih =>
    unfold State.releaseWalk; dsimp only
    repeat' first
      | with_reducible assumption
      | with_reducible apply ih
      | with_reducible apply Frame.ite1
      | with_reducible apply Frame.ite
      | with_reducible apply Frame.put
      | with_reducible apply Frame.flag
      | with_reducible apply Frame.freeBlock
      | with_reducible apply Frame.reportFault
      | with_reducible apply Frame.upd
      | with_reducible rfl
      | exact OtpKept.refl _
      | with_reducible exact Or.inr rfl
      | exact Or.inl (k.bit (by decide))
      | exact Sub.trans (by decide) k
      | exact RegOk.page k (by decide)
      | exact PageOk.page k (by decide)

theorem Frame.release {w : Nat} {a s : State} (h : Frame w a s) (k : Sub 0x6D880000000000198 w) : ∀ x1, Frame w a (State.release s x1) := by
  intro x1
  unfold State.release; try dsimp only
  repeat' first
    | with_reducible assumption
    | with_reducible apply Frame.releaseWalk
    | with_reducible apply Frame.event
    | split
    | refine Frame.of1 (by with_reducible assumption) ?_
    | exact Sub.trans (by decide) k

theorem Frame.queueFrame {w : Nat} {a s : State} (h : Frame w a s) (k : Sub 0x8000000000000090 w) : ∀ x1, Frame w a (State.queueFrame s x1) := by
  intro x1
  unfold State.queueFrame; try dsimp only
  repeat' first
    | with_reducible assumption
    | with_reducible apply Frame.giveAll
    | with_reducible apply Frame.event
    | with_reducible apply Frame.flag
    | split
    | with_reducible apply Frame.upd
    | with_reducible rfl
    | with_reducible exact OtpKept.refl _
    | with_reducible exact Or.inr rfl
    | exact Or.inl (k.bit (by decide))
    | exact Sub.trans (by decide) k
    | exact PageOk.page k (by decide)

theorem Frame.frmRead {w : Nat} {a s : State} (h : Frame w a s) (k : Sub 0x8000000000010111 w) : ∀ x1 x2, Frame w a (Machine.frmRead s x1 x2).2 := by
  intro x1 x2
  unfold Machine.frmRead; try dsimp only
  repeat' first
    | with_reducible assumption
    | with_reducible apply Frame.setMemNat
    | refine Frame.takeBlock ?_ ?_ _ _ _ (by with_reducible assumption)
    | with_reducible apply Frame.ite
    | with_reducible apply Frame.ite2
    | split
    | with_reducible apply Frame.upd
    | with_reducible rfl
    | with_reducible exact OtpKept.refl _
    | with_reducible exact Or.inr rfl
    | exact Or.inl (k.bit (by decide))
    | exact Sub.trans (by decide) k

theorem Frame.frmWrite {w : Nat} {a s : State} (h : Frame w a s) (k : Sub 0x6D880000000000198 w) : ∀ x1 x2, Frame w a (Machine.frmWrite s x1 x2) := by
  intro x1 x2
  unfold Machine.frmWrite; try dsimp only
  repeat' first
    | with_reducible assumption
    | with_reducible apply Frame.release
    | with_reducible apply Frame.ite
    | exact Sub.trans (by decide) k

theorem Frame.forwardSend {w : Nat} {a s : State} (h : Frame w a s) (k : Sub 0x20 w) : Frame w a (State.forwardSend s) := by
  unfold State.forwardSend; try dsimp only
  repeat' first
    | with_reducible assumption
    | with_reducible apply Frame.hvlTag
    | with_reducible apply Frame.hvlSend
    | with_reducible refine Frame.foldl ?_ (fun _ _ _ => ?_)
    | with_reducible refine Frame.foldl2 ?_ (fun _ _ _ => ?_)
    | split
    | refine Frame.of2 (by with_reducible assumption) ?_
    | with_reducible apply Frame.upd
    | with_reducible rfl
    | with_reducible exact OtpKept.refl _
    | with_reducible exact Or.inr rfl
    | exact Or.inl (k.bit (by decide))
    | exact Sub.trans (by decide) k

theorem Frame.forwardKick {w : Nat} {a s : State} (h : Frame w a s) (k : Sub 0x20 w) : Frame w a (State.forwardKick s) := by
  unfold State.forwardKick; try dsimp only
  repeat' first
    | with_reducible assumption
    | with_reducible apply Frame.forwardSend
    | with_reducible apply Frame.ite
    | exact Sub.trans (by decide) k

theorem Frame.scsRecord {w : Nat} {a s : State} (h : Frame w a s) (k : Sub 0x10101 w) : Frame w a (State.scsRecord s) := by
  unfold State.scsRecord; try dsimp only
  repeat' first
    | with_reducible assumption
    | with_reducible apply Frame.record
    | exact Sub.trans (by decide) k

theorem Frame.scsSettle {w : Nat} {a s : State} (h : Frame w a s) (k : Sub 0x100000000000004 w) : Frame w a (State.scsSettle s) := by
  unfold State.scsSettle; try dsimp only
  repeat' first
    | with_reducible assumption
    | with_reducible apply Frame.put
    | with_reducible apply Frame.upd
    | with_reducible rfl
    | with_reducible exact OtpKept.refl _
    | with_reducible exact Or.inr rfl
    | exact Or.inl (k.bit (by decide))
    | exact RegOk.page k (by decide)

theorem Frame.scsApply {w : Nat} {a s : State} (h : Frame w a s) (k : Sub 0x140000000010105 w) : ∀ x1, Frame w a (State.scsApply s x1) := by
  intro x1
  unfold State.scsApply; try dsimp only
  repeat' first
    | with_reducible assumption
    | with_reducible apply Frame.scsSettle
    | with_reducible apply Frame.put
    | with_reducible apply Frame.scsRecord
    | with_reducible apply Frame.ite
    | exact Sub.trans (by decide) k
    | exact RegOk.page k (by decide)

theorem Frame.setRetry {w : Nat} {a s : State} (h : Frame w a s) (k : Sub 0x100 w) : ∀ x1 x2, Frame w a (State.setRetry s x1 x2) := by
  intro x1 x2
  unfold State.setRetry; try dsimp only
  repeat' first
    | with_reducible assumption
    | with_reducible apply Frame.ite
    | with_reducible apply Frame.upd
    | with_reducible rfl
    | with_reducible exact OtpKept.refl _
    | with_reducible exact Or.inr rfl
    | exact Or.inl (k.bit (by decide))

theorem Frame.scsFresh {w : Nat} {a s : State} (h : Frame w a s) (k : Sub 0x140000000010105 w) : Frame w a (State.scsFresh s) := by
  unfold State.scsFresh; try dsimp only
  repeat' first
    | with_reducible assumption
    | with_reducible apply Frame.scsApply
    | with_reducible apply Frame.setRetry
    | with_reducible apply Frame.ite
    | with_reducible apply Frame.upd
    | with_reducible rfl
    | with_reducible exact OtpKept.refl _
    | with_reducible exact Or.inr rfl
    | exact Or.inl (k.bit (by decide))
    | exact Sub.trans (by decide) k

theorem Frame.scsChanged {w : Nat} {a s : State} (h : Frame w a s) (k : Sub 0x140000000010105 w) : Frame w a (State.scsChanged s) := by
  unfold State.scsChanged; try dsimp only
  repeat' first
    | with_reducible assumption
    | with_reducible apply Frame.scsFresh
    | with_reducible apply Frame.put
    | with_reducible apply Frame.ite
    | exact Sub.trans (by decide) k
    | exact RegOk.page k (by decide)

theorem Frame.scsReceiverStopped {w : Nat} {a s : State} (h : Frame w a s) (k : Sub 0x140000000010105 w) : Frame w a (State.scsReceiverStopped s) := by
  unfold State.scsReceiverStopped; try dsimp only
  repeat' first
    | with_reducible assumption
    | with_reducible apply Frame.scsFresh
    | with_reducible apply Frame.ite
    | exact Sub.trans (by decide) k

theorem Frame.crsTune {w : Nat} {a s : State} (h : Frame w a s) (k : Sub 0x100000000000104 w) : ∀ x1 x2 x3, Frame w a (State.crsTune s x1 x2 x3) := by
  intro x1 x2 x3
  unfold State.crsTune; try dsimp only
  repeat' first
    | with_reducible assumption
    | with_reducible apply Frame.setRetry
    | with_reducible apply Frame.put
    | with_reducible apply Frame.upd
    | with_reducible rfl
    | with_reducible exact OtpKept.refl _
    | with_reducible exact Or.inr rfl
    | exact Or.inl (k.bit (by decide))
    | exact Sub.trans (by decide) k
    | exact RegOk.page k (by decide)

theorem Frame.crsStop {w : Nat} {a s : State} (h : Frame w a s) (k : Sub 0x100000000000004 w) : Frame w a (State.crsStop s) := by
  unfold State.crsStop; try dsimp only
  repeat' first
    | with_reducible assumption
    | with_reducible apply Frame.put
    | with_reducible apply Frame.ite
    | with_reducible apply Frame.upd
    | with_reducible rfl
    | with_reducible exact OtpKept.refl _
    | with_reducible exact Or.inr rfl
    | exact Or.inl (k.bit (by decide))
    | exact RegOk.page k (by decide)

theorem Frame.endSrc {w : Nat} {a s : State} (h : Frame w a s) (k : Sub 0x10420000000001018D w) : ∀ x1 x2 x3 x4 x5 x6 x7, Frame w a (State.endSrc s x1 x2 x3 x4 x5 x6 x7) := by
  intro x1 x2 x3 x4 x5 x6 x7
  unfold State.endSrc; try dsimp only
  repeat' first
    | with_reducible assumption
    | with_reducible apply Frame.event
    | with_reducible apply Frame.put
    | with_reducible apply Frame.recStatus
    | with_reducible apply Frame.flag
    | with_reducible apply Frame.countSat
    | with_reducible apply Frame.ite
    | split
    | with_reducible apply Frame.upd
    | with_reducible rfl
    | with_reducible exact OtpKept.refl _
    | with_reducible exact Or.inr rfl
    | exact Or.inl (k.bit (by decide))
    | exact Sub.trans (by decide) k
    | exact RegOk.page k (by decide)
    | exact PageOk.page k (by decide)

theorem Frame.endPlain {w : Nat} {a s : State} (h : Frame w a s) (k : Sub 0x10420000000001018D w) : ∀ x1 x2, Frame w a (State.endPlain s x1 x2) := by
  intro x1 x2
  unfold State.endPlain; try dsimp only
  repeat' first
    | with_reducible assumption
    | with_reducible apply Frame.endSrc
    | exact Sub.trans (by decide) k

theorem Frame.crsHold {w : Nat} {a s : State} (h : Frame w a s) (k : Sub 0x10430000000001018D w) : ∀ x1, Frame w a (State.crsHold s x1) := by
  intro x1
  unfold State.crsHold; try dsimp only
  repeat' first
    | with_reducible assumption
    | with_reducible apply Frame.put
    | with_reducible apply Frame.endPlain
    | split
    | with_reducible apply Frame.upd
    | with_reducible rfl
    | with_reducible exact OtpKept.refl _
    | with_reducible exact Or.inr rfl
    | exact Or.inl (k.bit (by decide))
    | exact Sub.trans (by decide) k
    | exact RegOk.page k (by decide)

theorem Frame.crsReserve {w : Nat} {a s : State} (h : Frame w a s) (k : Sub 0x100000000000004 w) : ∀ x1, Frame w a (State.crsReserve s x1) := by
  intro x1
  unfold State.crsReserve; try dsimp only
  repeat' first
    | with_reducible assumption
    | with_reducible apply Frame.put
    | with_reducible apply Frame.ite
    | with_reducible apply Frame.upd
    | with_reducible rfl
    | with_reducible exact OtpKept.refl _
    | with_reducible exact Or.inr rfl
    | exact Or.inl (k.bit (by decide))
    | exact RegOk.page k (by decide)

theorem Frame.crsRelease {w : Nat} {a s : State} (h : Frame w a s) (k : Sub 0x10430000000001018D w) : ∀ x1, Frame w a (State.crsRelease s x1) := by
  intro x1
  unfold State.crsRelease; try dsimp only
  repeat' first
    | with_reducible assumption
    | with_reducible apply Frame.crsHold
    | with_reducible apply Frame.put
    | with_reducible apply Frame.crsReserve
    | with_reducible apply Frame.crsTune
    | with_reducible apply Frame.endPlain
    | with_reducible apply Frame.ite
    | split
    | with_reducible apply Frame.upd
    | with_reducible rfl
    | with_reducible exact OtpKept.refl _
    | with_reducible exact Or.inr rfl
    | exact Or.inl (k.bit (by decide))
    | exact Sub.trans (by decide) k
    | exact RegOk.page k (by decide)

theorem Frame.crsRequest {w : Nat} {a s : State} (h : Frame w a s) (k : Sub 0x10430000000001018D w) : ∀ x1 x2, Frame w a (State.crsRequest s x1 x2).1 := by
  intro x1 x2
  unfold State.crsRequest; try dsimp only
  repeat' first
    | with_reducible assumption
    | with_reducible apply Frame.crsHold
    | with_reducible apply Frame.flag
    | with_reducible apply Frame.crsTune
    | with_reducible apply Frame.ite
    | with_reducible apply Frame.ite1
    | exact Sub.trans (by decide) k
    | exact PageOk.page k (by decide)

theorem Frame.setAnt {w : Nat} {a s : State} (h : Frame w a s) (k : Sub 0x4 w) : ∀ x1, Frame w a (State.setAnt s x1) := by
  intro x1
  unfold State.setAnt; try dsimp only
  repeat' first
    | with_reducible assumption
    | with_reducible apply Frame.upd
    | with_reducible rfl
    | with_reducible exact OtpKept.refl _
    | with_reducible exact Or.inr rfl
    | exact Or.inl (k.bit (by decide))

theorem Frame.antQuiet {w : Nat} {a s : State} (h : Frame w a s) (k : Sub 0x4 w) : Frame w a (State.antQuiet s) := by
  unfold State.antQuiet; try dsimp only
  repeat' first
    | with_reducible assumption
    | with_reducible apply Frame.setAnt
    | with_reducible apply Frame.ite
    | exact Sub.trans (by decide) k

theorem Frame.markFrames {w : Nat} {a s : State} (h : Frame w a s) (k : Sub 0x4 w) : ∀ x1, Frame w a (State.markFrames s x1) := by
  intro x1
  unfold State.markFrames; try dsimp only
  repeat' first
    | with_reducible assumption
    | with_reducible apply Frame.ite
    | with_reducible apply Frame.upd
    | with_reducible rfl
    | with_reducible exact OtpKept.refl _
    | with_reducible exact Or.inr rfl
    | exact Or.inl (k.bit (by decide))

theorem Frame.setGain {w : Nat} {a s : State} (h : Frame w a s) (k : Sub 0x40000000010105 w) : ∀ x1, Frame w a (State.setGain s x1) := by
  intro x1
  unfold State.setGain; try dsimp only
  repeat' first
    | with_reducible assumption
    | with_reducible apply Frame.countWrap
    | with_reducible apply Frame.markFrames
    | with_reducible apply Frame.put
    | with_reducible apply Frame.record
    | with_reducible apply Frame.ite
    | with_reducible apply Frame.upd
    | with_reducible rfl
    | with_reducible exact OtpKept.refl _
    | with_reducible exact Or.inr rfl
    | exact Or.inl (k.bit (by decide))
    | exact Sub.trans (by decide) k
    | exact RegOk.page k (by decide)

theorem Frame.rxStartGain {w : Nat} {a s : State} (h : Frame w a s) (k : Sub 0x40000000010105 w) : Frame w a (State.rxStartGain s) := by
  unfold State.rxStartGain; try dsimp only
  repeat' first
    | with_reducible assumption
    | with_reducible apply Frame.setGain
    | with_reducible apply Frame.ite
    | exact Sub.trans (by decide) k

theorem Frame.agcSettings {w : Nat} {a s : State} (h : Frame w a s) (k : Sub 0x4 w) : Frame w a (State.agcSettings s) := by
  unfold State.agcSettings; try dsimp only
  repeat' first
    | with_reducible assumption
    | with_reducible apply Frame.upd
    | with_reducible rfl
    | with_reducible exact OtpKept.refl _
    | with_reducible exact Or.inr rfl
    | exact Or.inl (k.bit (by decide))

theorem Frame.holdRestart {w : Nat} {a s : State} (h : Frame w a s) (k : Sub 0x4 w) : Frame w a (State.holdRestart s) := by
  unfold State.holdRestart; try dsimp only
  repeat' first
    | with_reducible assumption
    | with_reducible apply Frame.upd
    | with_reducible rfl
    | with_reducible exact OtpKept.refl _
    | with_reducible exact Or.inr rfl
    | exact Or.inl (k.bit (by decide))

theorem Frame.rxStart {w : Nat} {a s : State} (h : Frame w a s) (k : Sub 0x3D40000000010105 w) : Frame w a (State.rxStart s) := by
  unfold State.rxStart; try dsimp only
  repeat' first
    | with_reducible assumption
    | with_reducible apply Frame.agcSettings
    | with_reducible apply Frame.rxStartGain
    | with_reducible apply Frame.setRetry
    | with_reducible apply Frame.scsSettle
    | with_reducible apply Frame.holdRestart
    | with_reducible apply Frame.setPageSt
    | with_reducible apply Frame.antQuiet
    | with_reducible apply Frame.ite
    | with_reducible apply Frame.upd
    | with_reducible rfl
    | with_reducible exact OtpKept.refl _
    | with_reducible exact Or.inr rfl
    | exact Or.inl (k.bit (by decide))
    | exact Sub.trans (by decide) k
    | exact PageOk.page k (by decide)

theorem Frame.rxStop {w : Nat} {a s : State} (h : Frame w a s) (k : Sub 0x3D40000000010105 w) : Frame w a (State.rxStop s) := by
  unfold State.rxStop; try dsimp only
  repeat' first
    | with_reducible assumption
    | with_reducible apply Frame.setPageSt
    | with_reducible apply Frame.scsReceiverStopped
    | with_reducible apply Frame.antQuiet
    | with_reducible apply Frame.ite
    | split
    | with_reducible apply Frame.upd
    | with_reducible rfl
    | with_reducible exact OtpKept.refl _
    | with_reducible exact Or.inr rfl
    | exact Or.inl (k.bit (by decide))
    | exact Sub.trans (by decide) k
    | exact PageOk.page k (by decide)

theorem Frame.unblank {w : Nat} {a s : State} (h : Frame w a s) (k : Sub 0x200000000010101 w) : Frame w a (State.unblank s) := by
  unfold State.unblank; try dsimp only
  repeat' first
    | with_reducible assumption
    | with_reducible apply Frame.put
    | with_reducible apply Frame.record
    | with_reducible apply Frame.ite
    | exact Sub.trans (by decide) k
    | exact RegOk.page k (by decide)

theorem Frame.execScsSettled {w : Nat} {a s : State} (h : Frame w a s) (k : Sub 0x100000000000000 w) : FrameAll w a (Machine.execScsSettled s) := by
  unfold Machine.execScsSettled; try dsimp only
  repeat' first
    | with_reducible assumption
    | with_reducible apply Frame.put
    | with_reducible apply Frame.ite
    | with_reducible apply FrameAll.ite
    | with_reducible apply FrameAll.next
    | exact RegOk.page k (by decide)

theorem Frame.agcAct {w : Nat} {a s : State} (h : Frame w a s) (k : Sub 0x40000000010105 w) : ∀ x1 x2, Frame w a (State.agcAct s x1 x2) := by
  intro x1 x2
  unfold State.agcAct; try dsimp only
  repeat' first
    | with_reducible assumption
    | with_reducible apply Frame.holdRestart
    | with_reducible apply Frame.setGain
    | with_reducible apply Frame.ite
    | with_reducible apply Frame.upd
    | with_reducible rfl
    | with_reducible exact OtpKept.refl _
    | with_reducible exact Or.inr rfl
    | exact Or.inl (k.bit (by decide))
    | exact Sub.trans (by decide) k

theorem Frame.execAgcWindowEnd {w : Nat} {a s : State} (h : Frame w a s) (k : Sub 0x40000000010105 w) : ∀ x0 x1 x2, FrameAll w a (Machine.execAgcWindowEnd x0 x1 x2 s) := by
  intro x0 x1 x2
  unfold Machine.execAgcWindowEnd; try dsimp only
  repeat' first
    | with_reducible assumption
    | with_reducible apply Frame.agcSettings
    | with_reducible apply Frame.agcAct
    | with_reducible apply Frame.markFrames
    | with_reducible apply Frame.put
    | with_reducible apply Frame.flag
    | with_reducible apply Frame.ite
    | with_reducible apply FrameAll.ite
    | with_reducible apply FrameAll.next
    | with_reducible apply Frame.upd
    | with_reducible rfl
    | with_reducible exact OtpKept.refl _
    | with_reducible exact Or.inr rfl
    | exact Or.inl (k.bit (by decide))
    | exact Sub.trans (by decide) k
    | exact RegOk.page k (by decide)
    | exact PageOk.page k (by decide)

theorem Frame.execAgcHoldExpiry {w : Nat} {a s : State} (h : Frame w a s) (k : Sub 0x40000000010105 w) : FrameAll w a (Machine.execAgcHoldExpiry s) := by
  unfold Machine.execAgcHoldExpiry; try dsimp only
  repeat' first
    | with_reducible assumption
    | with_reducible apply Frame.holdRestart
    | with_reducible apply Frame.setGain
    | with_reducible apply Frame.ite
    | with_reducible apply FrameAll.ite
    | with_reducible apply FrameAll.next
    | exact Sub.trans (by decide) k

theorem Frame.execCrsLock {w : Nat} {a s : State} (h : Frame w a s) (k : Sub 0x100000000000000 w) : FrameAll w a (Machine.execCrsLock s) := by
  unfold Machine.execCrsLock; try dsimp only
  repeat' first
    | with_reducible assumption
    | with_reducible apply Frame.put
    | with_reducible apply Frame.ite
    | with_reducible apply FrameAll.ite
    | with_reducible apply FrameAll.next
    | exact RegOk.page k (by decide)

theorem Frame.descErr {w : Nat} {a s : State} (h : Frame w a s) (k : Sub 0x400000000000000 w) : ∀ x1 x2, Frame w a (State.descErr s x1 x2) := by
  intro x1 x2
  unfold State.descErr; try dsimp only
  repeat' first
    | with_reducible assumption
    | with_reducible apply Frame.put
    | with_reducible apply Frame.flag
    | exact RegOk.page k (by decide)
    | exact PageOk.page k (by decide)

theorem Frame.planSlots {w : Nat} {a s : State} (h : Frame w a s) (k : Sub 0x4 w) : ∀ x1, Frame w a (State.planSlots s x1) := by
  intro x1
  unfold State.planSlots; try dsimp only
  repeat' first
    | with_reducible assumption
    | with_reducible apply Frame.ite
    | split
    | with_reducible apply Frame.upd
    | with_reducible rfl
    | with_reducible exact OtpKept.refl _
    | with_reducible exact Or.inr rfl
    | exact Or.inl (k.bit (by decide))

theorem Frame.specLoss {w : Nat} {a s : State} (h : Frame w a s) (k : Sub 0x4000000000000000 w) : ∀ x1, Frame w a (State.specLoss s x1) := by
  intro x1
  unfold State.specLoss; try dsimp only
  repeat' first
    | with_reducible assumption
    | with_reducible apply Frame.put
    | with_reducible apply Frame.countSat
    | with_reducible apply Frame.ite
    | exact RegOk.page k (by decide)

theorem Frame.recSpecEnd {w : Nat} {a s : State} (h : Frame w a s) (k : Sub 0x100 w) : ∀ x1 x2, Frame w a (State.recSpecEnd s x1 x2) := by
  intro x1 x2
  unfold State.recSpecEnd; try dsimp only
  repeat' first
    | with_reducible assumption
    | with_reducible apply Frame.ite
    | with_reducible apply Frame.upd
    | with_reducible rfl
    | with_reducible exact OtpKept.refl _
    | with_reducible exact Or.inr rfl
    | exact Or.inl (k.bit (by decide))

theorem Frame.specRecord {w : Nat} {a s : State} (h : Frame w a s) (k : Sub 0x100000000000010101 w) : ∀ x1 x2 x3 x4 x5, Frame w a (State.specRecord s x1 x2 x3 x4 x5) := by
  intro x1 x2 x3 x4 x5
  unfold State.specRecord; try dsimp only
  repeat' first
    | with_reducible assumption
    | with_reducible apply Frame.recordUnit
    | with_reducible apply Frame.recTrigger
    | with_reducible apply Frame.recSpecEnd
    | with_reducible apply Frame.ite
    | exact Sub.trans (by decide) k

theorem Frame.onFrame {w : Nat} {a s : State} (h : Frame w a s) (k : Sub 0x4 w) : ∀ x1 x2, Frame w a (State.onFrame s x1 x2) := by
  intro x1 x2
  unfold State.onFrame; try dsimp only
  repeat' first
    | with_reducible assumption
    | with_reducible apply Frame.setSlot
    | with_reducible apply Frame.upd
    | with_reducible rfl
    | with_reducible exact OtpKept.refl _
    | with_reducible exact Or.inr rfl
    | exact Or.inl (k.bit (by decide))
    | exact Sub.trans (by decide) k

theorem Frame.setRecFlag {w : Nat} {a s : State} (h : Frame w a s) (k : Sub 0x101 w) : ∀ x1 x2, Frame w a (State.setRecFlag s x1 x2) := by
  intro x1 x2
  unfold State.setRecFlag; try dsimp only
  repeat' first
    | with_reducible assumption
    | with_reducible apply Frame.setMemNat
    | exact Sub.trans (by decide) k

theorem Frame.ctxFree {w : Nat} {a s : State} (h : Frame w a s) (k : Sub 0x4000000000000018 w) : ∀ x1, Frame w a (State.ctxFree s x1) := by
  intro x1
  unfold State.ctxFree; try dsimp only
  repeat' first
    | with_reducible assumption
    | with_reducible apply Frame.setOwner
    | with_reducible apply Frame.setLnkReady
    | split
    | with_reducible apply Frame.upd
    | with_reducible rfl
    | with_reducible exact OtpKept.refl _
    | with_reducible exact Or.inr rfl
    | exact Or.inl (k.bit (by decide))
    | exact Sub.trans (by decide) k

theorem Frame.squashCtx {w : Nat} {a s : State} (h : Frame w a s) (k : Sub 0x1043000000000101BD w) : ∀ x1 x2, Frame w a (State.squashCtx s x1 x2) := by
  intro x1 x2
  unfold State.squashCtx; try dsimp only
  repeat' first
    | with_reducible assumption
    | with_reducible apply Frame.onFrame
    | with_reducible apply Frame.raiseW
    | with_reducible apply Frame.specRecord
    | with_reducible apply Frame.crsRelease
    | with_reducible apply Frame.crsHold
    | with_reducible apply Frame.sendVerdict
    | with_reducible apply Frame.dropReserve
    | with_reducible apply Frame.ctxFree
    | with_reducible apply Frame.specLoss
    | with_reducible apply Frame.setRecFlag
    | with_reducible apply Frame.ite
    | split
    | with_reducible apply Frame.upd
    | with_reducible rfl
    | with_reducible exact OtpKept.refl _
    | with_reducible exact Or.inr rfl
    | exact Or.inl (k.bit (by decide))
    | exact Sub.trans (by decide) k

theorem Frame.ackLost {w : Nat} {a s : State} (h : Frame w a s) (k : Sub 0x104000000000010105 w) : ∀ x1 x2, Frame w a (State.ackLost s x1 x2) := by
  intro x1 x2
  unfold State.ackLost; try dsimp only
  repeat' first
    | with_reducible assumption
    | with_reducible apply Frame.onFrame
    | with_reducible apply Frame.specRecord
    | with_reducible apply Frame.specLoss
    | with_reducible apply Frame.upd
    | with_reducible rfl
    | with_reducible exact OtpKept.refl _
    | with_reducible exact Or.inr rfl
    | exact Or.inl (k.bit (by decide))
    | exact Sub.trans (by decide) k

theorem Frame.recordDesc {w : Nat} {a s : State} (h : Frame w a s) (k : Sub 0x10101 w) : ∀ x1 x2, Frame w a (State.recordDesc s x1 x2) := by
  intro x1 x2
  unfold State.recordDesc; try dsimp only
  repeat' first
    | with_reducible assumption
    | with_reducible apply Frame.record
    | with_reducible apply Frame.ite
    | exact Sub.trans (by decide) k

theorem Frame.freshCopy {w : Nat} {a s : State} (h : Frame w a s) (k : Sub 0x10105 w) : ∀ x1, Frame w a (State.freshCopy s x1) := by
  intro x1
  unfold State.freshCopy; try dsimp only
  repeat' first
    | with_reducible assumption
    | with_reducible apply Frame.recordDesc
    | with_reducible apply Frame.setSlot
    | with_reducible apply Frame.ite
    | split
    | with_reducible apply Frame.upd
    | with_reducible rfl
    | with_reducible exact OtpKept.refl _
    | with_reducible exact Or.inr rfl
    | exact Or.inl (k.bit (by decide))
    | exact Sub.trans (by decide) k

theorem Frame.lossRecord {w : Nat} {a s : State} (h : Frame w a s) (k : Sub 0x1A00000000000000 w) : ∀ x1 x2 x3, Frame w a (State.lossRecord s x1 x2 x3) := by
  intro x1 x2 x3
  unfold State.lossRecord; try dsimp only
  repeat' first
    | with_reducible assumption
    | with_reducible apply Frame.put
    | with_reducible apply Frame.flag
    | with_reducible apply Frame.countSat
    | with_reducible apply Frame.ite
    | split
    | exact RegOk.page k (by decide)
    | exact PageOk.page k (by decide)

theorem Frame.loseFrame {w : Nat} {a s : State} (h : Frame w a s) (k : Sub 0x105B000000000101BD w) : ∀ x1 x2, Frame w a (State.loseFrame s x1 x2) := by
  intro x1 x2
  unfold State.loseFrame; try dsimp only
  repeat' first
    | with_reducible assumption
    | with_reducible apply Frame.lossRecord
    | with_reducible apply Frame.setSlot
    | with_reducible apply Frame.sendVerdict
    | with_reducible apply Frame.recTrigger
    | with_reducible apply Frame.dropReserve
    | with_reducible apply Frame.squashCtx
    | with_reducible apply Frame.freeAll
    | with_reducible apply Frame.freshCopy
    | with_reducible apply Frame.ite
    | split
    | with_reducible apply Frame.upd
    | with_reducible rfl
    | with_reducible exact OtpKept.refl _
    | with_reducible exact Or.inr rfl
    | exact Or.inl (k.bit (by decide))
    | exact Sub.trans (by decide) k

theorem Frame.loseAll {w : Nat} {a s : State} (h : Frame w a s) (k : Sub 0x105B000000000101BD w) : ∀ x1, Frame w a (State.loseAll s x1) := by
  intro x1
  unfold State.loseAll; try dsimp only
  repeat' first
    | with_reducible assumption
    | with_reducible apply Frame.loseFrame
    | with_reducible refine Frame.foldl ?_ (fun _ _ _ => ?_)
    | with_reducible refine Frame.foldl2 ?_ (fun _ _ _ => ?_)
    | exact Sub.trans (by decide) k

theorem Frame.releaseAll {w : Nat} {a s : State} (h : Frame w a s) (k : Sub 0x4 w) : Frame w a (State.releaseAll s) := by
  unfold State.releaseAll; try dsimp only
  repeat' first
    | with_reducible assumption
    | with_reducible apply Frame.upd
    | with_reducible rfl
    | with_reducible exact OtpKept.refl _
    | with_reducible exact Or.inr rfl
    | exact Or.inl (k.bit (by decide))

theorem Frame.whiffDrop {w : Nat} {a s : State} (h : Frame w a s) (k : Sub 0x404000000001011D w) : Frame w a (State.whiffDrop s) := by
  unfold State.whiffDrop; try dsimp only
  repeat' first
    | with_reducible assumption
    | with_reducible apply Frame.setPageSt
    | with_reducible apply Frame.freeAll
    | with_reducible apply Frame.setGain
    | with_reducible apply Frame.ite
    | split
    | with_reducible apply Frame.upd
    | with_reducible rfl
    | with_reducible exact OtpKept.refl _
    | with_reducible exact Or.inr rfl
    | exact Or.inl (k.bit (by decide))
    | exact Sub.trans (by decide) k
    | exact PageOk.page k (by decide)

theorem Frame.takeStream {w : Nat} {a s : State} (h : Frame w a s) (k : Sub 0x10000 w) : Frame w a (State.takeStream s).2 := by
  unfold State.takeStream; try dsimp only
  repeat' first
    | with_reducible assumption
    | with_reducible apply Frame.freeVal
    | with_reducible apply Frame.ite
    | with_reducible apply Frame.ite2
    | split
    | refine Frame.of2 (by with_reducible assumption) ?_
    | exact Sub.trans (by decide) k

theorem Frame.takeDesc {w : Nat} {a s : State} (h : Frame w a s) (k : Sub 0x10105 w) : ∀ x1 x2, Frame w a (State.takeDesc s x1 x2) := by
  intro x1 x2
  unfold State.takeDesc; try dsimp only
  repeat' first
    | with_reducible assumption
    | with_reducible apply Frame.recordDesc
    | with_reducible apply Frame.setSlot
    | with_reducible apply Frame.takeStream
    | with_reducible apply Frame.recGap
    | split
    | refine Frame.of2 (by with_reducible assumption) ?_
    | with_reducible apply Frame.upd
    | with_reducible rfl
    | with_reducible exact OtpKept.refl _
    | with_reducible exact Or.inr rfl
    | exact Or.inl (k.bit (by decide))
    | exact Sub.trans (by decide) k

theorem Frame.updateUnit {w : Nat} {a s : State} (h : Frame w a s) (k : Sub 0x105B000000000101BD w) : ∀ x1, Frame w a (State.updateUnit s x1) := by
  intro x1
  unfold State.updateUnit; try dsimp only
  repeat' first
    | with_reducible assumption
    | with_reducible apply Frame.recordDesc
    | with_reducible apply Frame.takeDesc
    | with_reducible apply Frame.setSlot
    | with_reducible apply Frame.loseFrame
    | with_reducible apply Frame.recGap
    | with_reducible apply Frame.ite
    | split
    | with_reducible apply Frame.upd
    | with_reducible rfl
    | with_reducible exact OtpKept.refl _
    | with_reducible exact Or.inr rfl
    | exact Or.inl (k.bit (by decide))
    | exact Sub.trans (by decide) k

theorem Frame.moveRetired {w : Nat} {a s : State} (h : Frame w a s) (k : Sub 0x105F000000000101BD w) : ∀ x1, Frame w a (State.moveRetired s x1) := by
  intro x1
  unfold State.moveRetired; try dsimp only
  repeat' first
    | with_reducible assumption
    | with_reducible apply Frame.descErr
    | with_reducible apply Frame.takeDesc
    | with_reducible apply Frame.setSlot
    | with_reducible apply Frame.loseFrame
    | with_reducible apply Frame.ite
    | split
    | exact Sub.trans (by decide) k

theorem Frame.execChannelizerUpdate {w : Nat} {a s : State} (h : Frame w a s) (k : Sub 0x105F000000000101BD w) : FrameAll w a (Machine.execChannelizerUpdate s) := by
  unfold Machine.execChannelizerUpdate; try dsimp only
  repeat' first
    | with_reducible assumption
    | with_reducible apply Frame.updateUnit
    | with_reducible apply Frame.moveRetired
    | with_reducible refine Frame.foldl ?_ (fun _ _ _ => ?_)
    | with_reducible refine Frame.foldl2 ?_ (fun _ _ _ => ?_)
    | with_reducible apply Frame.ite
    | with_reducible apply FrameAll.ite
    | with_reducible apply FrameAll.next
    | exact Sub.trans (by decide) k

theorem Frame.setAttrByte {w : Nat} {a s : State} (h : Frame w a s) (k : Sub 0x2 w) : ∀ x1 x2, Frame w a (State.setAttrByte s x1 x2) := by
  intro x1 x2
  unfold State.setAttrByte; try dsimp only
  repeat' first
    | with_reducible assumption
    | with_reducible apply Frame.upd
    | with_reducible rfl
    | with_reducible exact OtpKept.refl _
    | with_reducible exact Or.inr rfl
    | exact Or.inl (k.bit (by decide))

theorem Frame.copyKey {w : Nat} {a s : State} (h : Frame w a s) (k : Sub 0x61880000000000182 w) : ∀ x1 x2, Frame w a (State.copyKey s x1 x2).2 := by
  intro x1 x2
  unfold State.copyKey; try dsimp only
  repeat' first
    | with_reducible assumption
    | with_reducible apply Frame.reportFault
    | with_reducible apply Frame.setAttrByte
    | with_reducible refine Frame.foldl ?_ (fun _ _ _ => ?_)
    | with_reducible refine Frame.foldl2 ?_ (fun _ _ _ => ?_)
    | with_reducible apply Frame.ite
    | with_reducible apply Frame.ite2
    | exact Sub.trans (by decide) k

theorem Frame.slotKey {w : Nat} {a s : State} (h : Frame w a s) (k : Sub 0x61880000000000182 w) : ∀ x1, Frame w a (State.slotKey s x1).2 := by
  intro x1
  unfold State.slotKey; try dsimp only
  repeat' first
    | with_reducible assumption
    | with_reducible apply Frame.copyKey
    | with_reducible apply Frame.ite
    | with_reducible apply Frame.ite2
    | refine Frame.of2 (by with_reducible assumption) ?_
    | exact Sub.trans (by decide) k

theorem Frame.frameKey {w : Nat} {a s : State} (h : Frame w a s) (k : Sub 0x61880000000000182 w) : ∀ x1 x2 x3, Frame w a (State.frameKey s x1 x2 x3).2 := by
  intro x1 x2 x3
  unfold State.frameKey; try dsimp only
  repeat' first
    | with_reducible assumption
    | with_reducible apply Frame.slotKey
    | split
    | refine Frame.of2 (by with_reducible assumption) ?_
    | exact Sub.trans (by decide) k

theorem Frame.keyMiss {w : Nat} {a s : State} (h : Frame w a s) (k : Sub 0x10000000000000 w) : Frame w a (State.keyMiss s) := by
  unfold State.keyMiss; try dsimp only
  repeat' first
    | with_reducible assumption
    | with_reducible apply Frame.flag
    | with_reducible apply Frame.countSat
    | exact RegOk.page k (by decide)
    | exact PageOk.page k (by decide)

theorem Frame.profileFault {w : Nat} {a s : State} (h : Frame w a s) (k : Sub 0x61880000000000180 w) : ∀ x1, Frame w a (State.profileFault s x1) := by
  intro x1
  unfold State.profileFault; try dsimp only
  repeat' first
    | with_reducible assumption
    | with_reducible apply Frame.reportFault
    | with_reducible apply Frame.ite
    | exact Sub.trans (by decide) k

theorem Frame.setEngine {w : Nat} {a s : State} (h : Frame w a s) (k : Sub 0x200 w) : ∀ x1 x2, Frame w a (State.setEngine s x1 x2) := by
  intro x1 x2
  unfold State.setEngine; try dsimp only
  repeat' first
    | with_reducible assumption
    | with_reducible apply Frame.upd
    | with_reducible rfl
    | with_reducible exact OtpKept.refl _
    | with_reducible exact Or.inr rfl
    | exact Or.inl (k.bit (by decide))

theorem Frame.faultRange {w : Nat} {a s : State} (h : Frame w a s) (k : Sub 0x61880000000000180 w) : ∀ x1 x2, Frame w a (State.faultRange s x1 x2) := by
  intro x1 x2
  unfold State.faultRange; try dsimp only
  repeat' first
    | with_reducible assumption
    | with_reducible apply Frame.reportFault
    | split
    | exact Sub.trans (by decide) k

theorem Frame.setSec {w : Nat} {a s : State} (h : Frame w a s) (k : Sub 0x2 w) {g : Sec → Sec} (e : (g s.sec).secret = s.sec.secret ∧ OtpKept s.sec.otp (g s.sec).otp) :
    Frame w a (State.setSec s g) := by
  have b : w.testBit 1 = true := k.bit (by decide)
  exact Frame.upd h e.1 e.2 (Or.inl b) (Or.inr rfl) (Or.inr rfl) (Or.inr rfl) (Or.inr rfl) (Or.inr rfl) (Or.inr rfl) (Or.inr rfl)
    (Or.inr rfl) (Or.inr rfl) (Or.inr rfl) (Or.inr rfl) (Or.inr rfl) (Or.inr rfl)

theorem Frame.busSetByte {w : Nat} {a s : State} (h : Frame w a s) (k : Sub 0x20000000000101 w) : ∀ x1 x2, Frame w a (State.busSetByte s x1 x2) := by
  intro x1 x2
  unfold State.busSetByte; try dsimp only
  repeat' first
    | with_reducible assumption
    | with_reducible apply Frame.flag
    | with_reducible apply Frame.setByte
    | with_reducible apply Frame.ite
    | split
    | exact Sub.trans (by decide) k
    | exact PageOk.page k (by decide)

theorem Frame.busSetBytes {w : Nat} {a s : State} (h : Frame w a s) (k : Sub 0x20000000000101 w) : ∀ x1 x2, Frame w a (State.busSetBytes s x1 x2) := by
  intro x1 x2
  unfold State.busSetBytes; try dsimp only
  repeat' first
    | with_reducible assumption
    | with_reducible apply Frame.busSetByte
    | with_reducible refine Frame.foldl ?_ (fun _ _ _ => ?_)
    | with_reducible refine Frame.foldl2 ?_ (fun _ _ _ => ?_)
    | exact Sub.trans (by decide) k

theorem Frame.ownViol {w : Nat} {a s : State} (h : Frame w a s) (k : Sub 0x8000000000000000 w) : ∀ x1 x2, Frame w a (State.ownViol s x1 x2) := by
  intro x1 x2
  unfold State.ownViol; try dsimp only
  repeat' first
    | with_reducible assumption
    | with_reducible apply Frame.put
    | with_reducible apply Frame.flag
    | split
    | exact RegOk.page k (by decide)
    | exact PageOk.page k (by decide)

theorem Frame.jobStore {w : Nat} {a s : State} (h : Frame w a s) (k : Sub 0x8020000000000101 w) : ∀ x1 x2 x3, Frame w a (State.jobStore s x1 x2 x3) := by
  intro x1 x2 x3
  unfold State.jobStore; try dsimp only
  repeat' first
    | with_reducible assumption
    | with_reducible apply Frame.busSetByte
    | with_reducible apply Frame.ownViol
    | with_reducible refine Frame.foldl ?_ (fun _ _ _ => ?_)
    | with_reducible refine Frame.foldl2 ?_ (fun _ _ _ => ?_)
    | with_reducible apply Frame.ite
    | exact Sub.trans (by decide) k

theorem Frame.jobWrite {w : Nat} {a s : State} (h : Frame w a s) (k : Sub 0x61890000000010182 w) : ∀ x1 x2, Frame w a (State.jobWrite s x1 x2) := by
  intro x1 x2
  unfold State.jobWrite; try dsimp only
  repeat' first
    | with_reducible assumption
    | with_reducible apply Frame.setReg
    | with_reducible apply Frame.put
    | with_reducible apply Frame.freeVal
    | with_reducible apply Frame.setSec
    | exact ⟨rfl, OtpKept.refl _⟩
    | with_reducible apply Frame.setPageSt
    | with_reducible apply Frame.copyKey
    | with_reducible apply Frame.ite
    | split
    | refine Frame.of2 (by with_reducible assumption) ?_
    | with_reducible apply Frame.upd
    | with_reducible rfl
    | with_reducible exact OtpKept.refl _
    | with_reducible exact Or.inr rfl
    | exact Or.inl (k.bit (by decide))
    | exact Sub.trans (by decide) k
    | exact RegOk.page k (by decide)
    | exact PageOk.page k (by decide)

theorem Frame.rngCount {w : Nat} {a s : State} (h : Frame w a s) (k : Sub 0x10000000000000 w) : Frame w a (State.rngCount s) := by
  unfold State.rngCount; try dsimp only
  repeat' first
    | with_reducible assumption
    | with_reducible apply Frame.put
    | exact RegOk.page k (by decide)

theorem Frame.slotErase {w : Nat} {a s : State} (h : Frame w a s) (k : Sub 0x103 w) : ∀ x1, Frame w a (State.slotErase s x1) := by
  intro x1
  unfold State.slotErase; try dsimp only
  repeat' first
    | with_reducible assumption
    | with_reducible apply Frame.setBytes
    | with_reducible apply Frame.setAttrByte
    | exact Sub.trans (by decide) k

theorem Frame.keyErase {w : Nat} {a s : State} (h : Frame w a s) (k : Sub 0x103 w) : ∀ x1, Frame w a (State.keyErase s x1) := by
  intro x1
  unfold State.keyErase; try dsimp only
  repeat' first
    | with_reducible assumption
    | with_reducible apply Frame.slotErase
    | with_reducible apply Frame.ite
    | exact Sub.trans (by decide) k

theorem Frame.keySetAttr {w : Nat} {a s : State} (h : Frame w a s) (k : Sub 0x103 w) : ∀ x1 x2, Frame w a (State.keySetAttr s x1 x2).2 := by
  intro x1 x2
  unfold State.keySetAttr; try dsimp only
  repeat' first
    | with_reducible assumption
    | with_reducible apply Frame.setAttrByte
    | with_reducible apply Frame.slotErase
    | with_reducible apply Frame.ite
    | with_reducible apply Frame.ite2
    | exact Sub.trans (by decide) k

theorem Frame.keyImport {w : Nat} {a s : State} (h : Frame w a s) (k : Sub 0x20000000000103 w) : ∀ x1, Frame w a (State.keyImport s x1).2 := by
  intro x1
  unfold State.keyImport; try dsimp only
  repeat' first
    | with_reducible assumption
    | with_reducible apply Frame.setBytes
    | with_reducible apply Frame.put
    | with_reducible apply Frame.setAttrByte
    | with_reducible apply Frame.ite
    | with_reducible apply Frame.ite2
    | split
    | exact Sub.trans (by decide) k
    | exact RegOk.page k (by decide)

theorem Frame.kstData {w : Nat} {a s : State} (h : Frame w a s) (k : Sub 0x20000 w) : ∀ x1, Frame w a (State.kstData s x1) := by
  intro x1
  unfold State.kstData; try dsimp only
  repeat' first
    | with_reducible assumption
    | with_reducible apply Frame.setReg
    | with_reducible refine Frame.foldl ?_ (fun _ _ _ => ?_)
    | with_reducible refine Frame.foldl2 ?_ (fun _ _ _ => ?_)
    | exact RegOk.page k (by decide)
    | exact RegOk.all k (by decide)

theorem Frame.keyExport {w : Nat} {a s : State} (h : Frame w a s) (k : Sub 0x20000 w) : ∀ x1, Frame w a (State.keyExport s x1).2 := by
  intro x1
  unfold State.keyExport; try dsimp only
  repeat' first
    | with_reducible assumption
    | with_reducible apply Frame.kstData
    | with_reducible apply Frame.ite
    | with_reducible apply Frame.ite2
    | exact Sub.trans (by decide) k

theorem Frame.showScope {w : Nat} {a s : State} (h : Frame w a s) (k : Sub 0x10000000000000 w) : Frame w a (State.showScope s) := by
  unfold State.showScope; try dsimp only
  repeat' first
    | with_reducible assumption
    | with_reducible apply Frame.put
    | with_reducible apply Frame.ite
    | exact RegOk.page k (by decide)

theorem Frame.otpSet {w : Nat} {a s : State} (h : Frame w a s) (k : Sub 0x10000000000002 w) : ∀ c v, Frame w a (State.otpSet s c v) := fun c v =>
  (h.setSec (Sub.trans (by decide) k) ⟨rfl, OtpKept.set _ c _⟩).showScope (Sub.trans (by decide) k)

theorem Frame.showUid {w : Nat} {a s : State} (h : Frame w a s) (k : Sub 0x100000000 w) : Frame w a (State.showUid s) := by
  unfold State.showUid; try dsimp only
  repeat' first
    | with_reducible assumption
    | with_reducible apply Frame.setReg
    | exact RegOk.page k (by decide)

end Sys2Proof.Machine
end

