-- ==== Sys2Proof/Laws/Frame2.lean ====
section
/-! SUPPORT. What the operations leave as it was (Laws/Frame.lean): Security, Domains, Radio, Receiver, Power, Transmit, Receive. -/

set_option linter.unusedTactic false
set_option linter.unreachableTactic false

namespace Sys2Proof.Machine

theorem Frame.kstRun {w : Nat} {a s : State} (h : Frame w a s) (k : Sub 0x30000100020103 w) : ∀ x1, Frame w a (State.kstRun s x1).2 := by
  intro x1
  unfold State.kstRun; try dsimp only
  repeat' first
    | with_reducible assumption
    | with_reducible apply Frame.keyExport
    | with_reducible apply Frame.showUid
    | with_reducible apply Frame.keySetAttr
    | with_reducible apply Frame.keyImport
    | with_reducible apply Frame.put
    | with_reducible apply Frame.keyErase
    | with_reducible apply Frame.otpSet
    | with_reducible apply Frame.ite
    | with_reducible apply Frame.ite2
    | split
    | refine Frame.of2 (by with_reducible assumption) ?_
    | with_reducible apply Frame.upd
    | with_reducible rfl
    | with_reducible exact OtpKept.refl _
    | with_reducible exact Or.inr rfl
    | exact Or.inl (k.bit (by decide))
    | exact Sub.trans (by decide) k
    | exact RegOk.page k (by decide)
    | exact RegOk.all k (by decide)
    | exact Frame.upd (Frame.setMem h (fun c => Sparse.wf_clear (fun a => decide (0x30200000 ≤ a) && decide (a < 0x30210000)) c) (Sub.trans (by decide) k)) rfl (OtpKept.refl _) (Or.inl (k.bit (by decide))) (Or.inr rfl) (Or.inr rfl) (Or.inr rfl) (Or.inr rfl) (Or.inr rfl) (Or.inr rfl) (Or.inr rfl) (Or.inr rfl) (Or.inr rfl) (Or.inr rfl) (Or.inr rfl) (Or.inr rfl) (Or.inr rfl)

theorem Frame.kstWrite {w : Nat} {a s : State} (h : Frame w a s) (k : Sub 0x20000000000002 w) : ∀ x1, Frame w a (State.kstWrite s x1) := by
  intro x1
  unfold State.kstWrite; try dsimp only
  repeat' first
    | with_reducible assumption
    | with_reducible apply Frame.setReg
    | with_reducible apply Frame.put
    | with_reducible apply Frame.setSec
    | exact ⟨rfl, OtpKept.refl _⟩
    | with_reducible apply Frame.setPageSt
    | with_reducible apply Frame.ite
    | with_reducible apply Frame.upd
    | with_reducible rfl
    | with_reducible exact OtpKept.refl _
    | with_reducible exact Or.inr rfl
    | exact Or.inl (k.bit (by decide))
    | exact Sub.trans (by decide) k
    | exact RegOk.page k (by decide)
    | exact PageOk.page k (by decide)

theorem Frame.rngRestart {w : Nat} {a s : State} (h : Frame w a s) (k : Sub 0x10000000000002 w) : Frame w a (State.rngRestart s) := by
  unfold State.rngRestart; try dsimp only
  repeat' first
    | with_reducible assumption
    | with_reducible apply Frame.rngCount
    | with_reducible apply Frame.put
    | with_reducible apply Frame.setSec
    | exact ⟨rfl, OtpKept.refl _⟩
    | with_reducible apply Frame.ite
    | with_reducible apply Frame.upd
    | with_reducible rfl
    | with_reducible exact OtpKept.refl _
    | with_reducible exact Or.inr rfl
    | exact Or.inl (k.bit (by decide))
    | exact Sub.trans (by decide) k
    | exact RegOk.page k (by decide)

theorem Frame.connected {w : Nat} {a s : State} (h : Frame w a s) (k : Sub 0x800000000000000000 w) : Frame w a (State.connected s) := by
  unfold State.connected; try dsimp only
  repeat' first
    | with_reducible assumption
    | with_reducible apply Frame.put
    | exact RegOk.page k (by decide)

theorem Frame.secRead {w : Nat} {a s : State} (h : Frame w a s) (k : Sub 0x10000000000002 w) : ∀ x1 x2, Frame w a (Machine.secRead s x1 x2).2 := by
  intro x1 x2
  unfold Machine.secRead; try dsimp only
  repeat' first
    | with_reducible assumption
    | with_reducible apply Frame.rngCount
    | with_reducible apply Frame.put
    | with_reducible apply Frame.setSec
    | exact ⟨rfl, OtpKept.refl _⟩
    | with_reducible apply Frame.ite
    | with_reducible apply Frame.ite2
    | split
    | with_reducible apply Frame.upd
    | with_reducible rfl
    | with_reducible exact OtpKept.refl _
    | with_reducible exact Or.inr rfl
    | exact Or.inl (k.bit (by decide))
    | exact Sub.trans (by decide) k
    | exact RegOk.page k (by decide)

theorem Frame.secWrite {w : Nat} {a s : State} (h : Frame w a s) (k : Sub 0x61890000000010182 w) : ∀ x1 x2 x3, Frame w a (Machine.secWrite s x1 x2 x3) := by
  intro x1 x2 x3
  unfold Machine.secWrite; try dsimp only
  repeat' first
    | with_reducible assumption
    | with_reducible apply Frame.rngRestart
    | with_reducible apply Frame.jobWrite
    | with_reducible apply Frame.ite
    | exact Sub.trans (by decide) k

theorem Frame.execJobDone {w : Nat} {a s : State} (h : Frame w a s) (k : Sub 0x698B0000000000183 w) : FrameAll w a (Machine.execJobDone s) := by
  unfold Machine.execJobDone; try dsimp only
  repeat' first
    | with_reducible assumption
    | with_reducible apply Frame.setReg
    | with_reducible apply Frame.setSec
    | exact ⟨rfl, OtpKept.refl _⟩
    | with_reducible apply Frame.flag
    | with_reducible apply Frame.setPageSt
    | with_reducible apply Frame.faultRange
    | with_reducible apply Frame.jobStore
    | with_reducible apply Frame.ite
    | with_reducible apply FrameAll.ite
    | with_reducible apply FrameAll.next
    | split
    | with_reducible apply Frame.upd
    | with_reducible rfl
    | with_reducible exact OtpKept.refl _
    | with_reducible exact Or.inr rfl
    | exact Or.inl (k.bit (by decide))
    | exact Sub.trans (by decide) k
    | exact RegOk.page k (by decide)
    | exact PageOk.page k (by decide)

theorem Frame.execRngWord {w : Nat} {a s : State} (h : Frame w a s) (k : Sub 0x61890000000000182 w) : ∀ x0 x1, FrameAll w a (Machine.execRngWord x0 x1 s) := by
  intro x0 x1
  unfold Machine.execRngWord; try dsimp only
  repeat' first
    | with_reducible assumption
    | with_reducible apply Frame.reportFault
    | with_reducible apply Frame.rngCount
    | with_reducible apply Frame.put
    | with_reducible apply Frame.setSec
    | exact ⟨rfl, OtpKept.refl _⟩
    | with_reducible apply Frame.flag
    | with_reducible apply Frame.ite
    | with_reducible apply FrameAll.ite
    | with_reducible apply FrameAll.next
    | with_reducible apply Frame.upd
    | with_reducible rfl
    | with_reducible exact OtpKept.refl _
    | with_reducible exact Or.inr rfl
    | exact Or.inl (k.bit (by decide))
    | exact Sub.trans (by decide) k
    | exact RegOk.page k (by decide)
    | exact PageOk.page k (by decide)

theorem Frame.execKstCommandDone {w : Nat} {a s : State} (h : Frame w a s) (k : Sub 0x30000100020103 w) : FrameAll w a (Machine.execKstCommandDone s) := by
  unfold Machine.execKstCommandDone; try dsimp only
  repeat' first
    | with_reducible assumption
    | with_reducible apply Frame.setReg
    | with_reducible apply Frame.kstData
    | with_reducible apply Frame.kstRun
    | with_reducible apply Frame.setSec
    | exact ⟨rfl, OtpKept.refl _⟩
    | with_reducible apply Frame.flag
    | with_reducible apply Frame.setPageSt
    | with_reducible apply Frame.ite
    | with_reducible apply FrameAll.ite
    | with_reducible apply FrameAll.next
    | split
    | refine Frame.of2 (by with_reducible assumption) ?_
    | with_reducible apply Frame.upd
    | with_reducible rfl
    | with_reducible exact OtpKept.refl _
    | with_reducible exact Or.inr rfl
    | exact Or.inl (k.bit (by decide))
    | exact Sub.trans (by decide) k
    | exact RegOk.page k (by decide)
    | exact RegOk.all k (by decide)
    | exact PageOk.page k (by decide)
    | exact PageOk.all k (by decide)

theorem Frame.execDbgChal {w : Nat} {a s : State} (h : Frame w a s) (k : Sub 0x800000000000000002 w) : ∀ x0, FrameAll w a (Machine.execDbgChal x0 s) := by
  intro x0
  unfold Machine.execDbgChal; try dsimp only
  repeat' first
    | with_reducible assumption
    | with_reducible apply Frame.connected
    | with_reducible apply Frame.setSec
    | exact ⟨rfl, OtpKept.refl _⟩
    | with_reducible apply Frame.ite
    | with_reducible apply FrameAll.ite
    | with_reducible apply FrameAll.next
    | with_reducible apply Frame.upd
    | with_reducible rfl
    | with_reducible exact OtpKept.refl _
    | with_reducible exact Or.inr rfl
    | exact Or.inl (k.bit (by decide))
    | exact Sub.trans (by decide) k

theorem Frame.execDbgResp {w : Nat} {a s : State} (h : Frame w a s) (k : Sub 0x800010000000000002 w) : ∀ x0 x1 x2, FrameAll w a (Machine.execDbgResp x0 x1 x2 s) := by
  intro x0 x1 x2
  unfold Machine.execDbgResp; try dsimp only
  repeat' first
    | with_reducible assumption
    | with_reducible apply Frame.showScope
    | with_reducible apply Frame.connected
    | with_reducible apply Frame.put
    | with_reducible apply Frame.setSec
    | exact ⟨rfl, OtpKept.refl _⟩
    | with_reducible apply Frame.ite
    | with_reducible apply FrameAll.ite
    | with_reducible apply FrameAll.next
    | split
    | with_reducible apply Frame.upd
    | with_reducible rfl
    | with_reducible exact OtpKept.refl _
    | with_reducible exact Or.inr rfl
    | exact Or.inl (k.bit (by decide))
    | exact Sub.trans (by decide) k
    | exact RegOk.page k (by decide)

theorem Frame.keepPages {w : Nat} {a s : State} (h : Frame w a s) (k : Sub 0x4000 w) : ∀ x1, Frame w a (State.keepPages s x1) := by
  intro x1
  unfold State.keepPages; try dsimp only
  repeat' first
    | with_reducible assumption
    | with_reducible apply Frame.ite
    | with_reducible apply Frame.upd
    | with_reducible rfl
    | with_reducible exact OtpKept.refl _
    | with_reducible exact Or.inr rfl
    | exact Or.inl (k.bit (by decide))

theorem Frame.setStrap {w : Nat} {a s : State} (h : Frame w a s) (k : Sub 0x20000000000000020 w) : ∀ x1, Frame w a (State.setStrap s x1) := by
  intro x1
  unfold State.setStrap; try dsimp only
  repeat' first
    | with_reducible assumption
    | with_reducible apply Frame.put
    | with_reducible apply Frame.ite
    | with_reducible apply Frame.upd
    | with_reducible rfl
    | with_reducible exact OtpKept.refl _
    | with_reducible exact Or.inr rfl
    | exact Or.inl (k.bit (by decide))
    | exact RegOk.page k (by decide)

theorem Frame.pllSettle {w : Nat} {a s : State} (h : Frame w a s) (k : Sub 0x400000000 w) : Frame w a (State.pllSettle s) := by
  unfold State.pllSettle; try dsimp only
  repeat' first
    | with_reducible assumption
    | with_reducible apply Frame.put
    | with_reducible apply Frame.ite
    | exact RegOk.page k (by decide)

theorem Frame.setRadio {w : Nat} {a s : State} (h : Frame w a s) (k : Sub 0x4 w) : ∀ x1, Frame w a (State.setRadio s x1) := by
  intro x1
  unfold State.setRadio; try dsimp only
  repeat' first
    | with_reducible assumption
    | with_reducible apply Frame.upd
    | with_reducible rfl
    | with_reducible exact OtpKept.refl _
    | with_reducible exact Or.inr rfl
    | exact Or.inl (k.bit (by decide))

theorem Frame.enterState {w : Nat} {a s : State} (h : Frame w a s) (k : Sub 0x200000400000084 w) : ∀ x1, Frame w a (State.enterState s x1) := by
  intro x1
  unfold State.enterState; try dsimp only
  repeat' first
    | with_reducible assumption
    | with_reducible apply Frame.event
    | with_reducible apply Frame.put
    | with_reducible apply Frame.flag
    | with_reducible apply Frame.setPageSt
    | with_reducible apply Frame.antQuiet
    | with_reducible apply Frame.pllSettle
    | with_reducible apply Frame.ite
    | with_reducible apply Frame.upd
    | with_reducible rfl
    | with_reducible exact OtpKept.refl _
    | with_reducible exact Or.inr rfl
    | exact Or.inl (k.bit (by decide))
    | exact Sub.trans (by decide) k
    | exact RegOk.page k (by decide)
    | exact PageOk.page k (by decide)

theorem Frame.moveTo {w : Nat} {a s : State} (h : Frame w a s) (k : Sub 0x200000000000000 w) : ∀ x1, Frame w a (State.moveTo s x1) := by
  intro x1
  unfold State.moveTo; try dsimp only
  repeat' first
    | with_reducible assumption
    | with_reducible apply Frame.put
    | exact RegOk.page k (by decide)

theorem Frame.interim {w : Nat} {a s : State} (h : Frame w a s) (k : Sub 0x200000000000000 w) : ∀ x1 x2, Frame w a (State.interim s x1 x2) := by
  intro x1 x2
  unfold State.interim; try dsimp only
  repeat' first
    | with_reducible assumption
    | with_reducible apply Frame.put
    | with_reducible apply Frame.ite
    | split
    | exact RegOk.page k (by decide)

theorem Frame.showSlip {w : Nat} {a s : State} (h : Frame w a s) (k : Sub 0x200000000000008 w) : ∀ x1 x2, Frame w a (State.showSlip s x1 x2) := by
  intro x1 x2
  unfold State.showSlip; try dsimp only
  repeat' first
    | with_reducible assumption
    | with_reducible apply Frame.put
    | with_reducible apply Frame.ite
    | split
    | with_reducible apply Frame.upd
    | with_reducible rfl
    | with_reducible exact OtpKept.refl _
    | with_reducible exact Or.inr rfl
    | exact Or.inl (k.bit (by decide))
    | exact RegOk.page k (by decide)

theorem Frame.showQueue {w : Nat} {a s : State} (h : Frame w a s) (k : Sub 0x200000000000000 w) : Frame w a (State.showQueue s) := by
  unfold State.showQueue; try dsimp only
  repeat' first
    | with_reducible assumption
    | with_reducible apply Frame.put
    | exact RegOk.page k (by decide)

theorem Frame.supersede {w : Nat} {a s : State} (h : Frame w a s) (k : Sub 0x10420000000001018D w) : Frame w a (State.supersede s) := by
  unfold State.supersede; try dsimp only
  repeat' first
    | with_reducible assumption
    | with_reducible apply Frame.endSrc
    | with_reducible apply Frame.setRadio
    | split
    | with_reducible apply Frame.upd
    | with_reducible rfl
    | with_reducible exact OtpKept.refl _
    | with_reducible exact Or.inr rfl
    | exact Or.inl (k.bit (by decide))
    | exact Sub.trans (by decide) k

theorem Frame.takeOp {w : Nat} {a s : State} (h : Frame w a s) (k : Sub 0x10420000000001018D w) : ∀ x1, Frame w a (State.takeOp s x1) := by
  intro x1
  unfold State.takeOp; try dsimp only
  repeat' first
    | with_reducible assumption
    | with_reducible apply Frame.interim
    | with_reducible apply Frame.setRadio
    | with_reducible apply Frame.supersede
    | with_reducible apply Frame.upd
    | with_reducible rfl
    | with_reducible exact OtpKept.refl _
    | with_reducible exact Or.inr rfl
    | exact Or.inl (k.bit (by decide))
    | exact Sub.trans (by decide) k

theorem Frame.whiffEnd {w : Nat} {a s : State} (h : Frame w a s) (k : Sub 0x10424000000001019D w) : ∀ x1, Frame w a (State.whiffEnd s x1) := by
  intro x1
  unfold State.whiffEnd; try dsimp only
  repeat' first
    | with_reducible assumption
    | with_reducible apply Frame.whiffDrop
    | with_reducible apply Frame.endPlain
    | split
    | exact Sub.trans (by decide) k

theorem Frame.leaveRx {w : Nat} {a s : State} (h : Frame w a s) (k : Sub 0x105B400000000101BD w) : Frame w a (State.leaveRx s) := by
  unfold State.leaveRx; try dsimp only
  repeat' first
    | with_reducible assumption
    | with_reducible apply Frame.loseAll
    | with_reducible apply Frame.releaseAll
    | with_reducible apply Frame.whiffEnd
    | exact Sub.trans (by decide) k

theorem Frame.goTo {w : Nat} {a s : State} (h : Frame w a s) (k : Sub 0x107F400000000101BD w) : ∀ x1, Frame w a (State.goTo s x1) := by
  intro x1
  unfold State.goTo; try dsimp only
  repeat' first
    | with_reducible assumption
    | with_reducible apply Frame.loseAll
    | with_reducible apply Frame.moveTo
    | with_reducible apply Frame.releaseAll
    | with_reducible apply Frame.rxStart
    | with_reducible apply Frame.leaveRx
    | with_reducible apply Frame.ite
    | exact Sub.trans (by decide) k

theorem Frame.exitRx {w : Nat} {a s : State} (h : Frame w a s) (k : Sub 0x3F40000000010105 w) : ∀ x1, Frame w a (State.exitRx s x1) := by
  intro x1
  unfold State.exitRx; try dsimp only
  repeat' first
    | with_reducible assumption
    | with_reducible apply Frame.descErr
    | with_reducible apply Frame.moveTo
    | with_reducible apply Frame.rxStart
    | with_reducible apply Frame.planSlots
    | with_reducible apply Frame.ite
    | split
    | exact Sub.trans (by decide) k

theorem Frame.exitTo {w : Nat} {a s : State} (h : Frame w a s) (k : Sub 0x107F400000000101BD w) : ∀ x1 x2, Frame w a (State.exitTo s x1 x2) := by
  intro x1 x2
  unfold State.exitTo; try dsimp only
  repeat' first
    | with_reducible assumption
    | with_reducible apply Frame.moveTo
    | with_reducible apply Frame.rxStart
    | with_reducible apply Frame.goTo
    | with_reducible apply Frame.crsStop
    | with_reducible apply Frame.crsRequest
    | with_reducible apply Frame.setRadio
    | with_reducible apply Frame.exitRx
    | with_reducible apply Frame.ite
    | refine Frame.of1 (by with_reducible assumption) ?_
    | with_reducible apply Frame.upd
    | with_reducible rfl
    | with_reducible exact OtpKept.refl _
    | with_reducible exact Or.inr rfl
    | exact Or.inl (k.bit (by decide))
    | exact Sub.trans (by decide) k

theorem Frame.exitBegins {w : Nat} {a s : State} (h : Frame w a s) (k : Sub 0x200000000000004 w) : ∀ x1, Frame w a (State.exitBegins s x1) := by
  intro x1
  unfold State.exitBegins; try dsimp only
  repeat' first
    | with_reducible assumption
    | with_reducible apply Frame.moveTo
    | with_reducible apply Frame.setRadio
    | with_reducible apply Frame.ite
    | with_reducible apply Frame.upd
    | with_reducible rfl
    | with_reducible exact OtpKept.refl _
    | with_reducible exact Or.inr rfl
    | exact Or.inl (k.bit (by decide))
    | exact Sub.trans (by decide) k

theorem Frame.opExit {w : Nat} {a s : State} (h : Frame w a s) (k : Sub 0x107F400000000101BD w) : ∀ x1 x2, Frame w a (State.opExit s x1 x2) := by
  intro x1 x2
  unfold State.opExit; try dsimp only
  repeat' first
    | with_reducible assumption
    | with_reducible apply Frame.exitTo
    | with_reducible apply Frame.setRadio
    | with_reducible apply Frame.ite
    | with_reducible apply Frame.upd
    | with_reducible rfl
    | with_reducible exact OtpKept.refl _
    | with_reducible exact Or.inr rfl
    | exact Or.inl (k.bit (by decide))
    | exact Sub.trans (by decide) k

theorem Frame.calEnter {w : Nat} {a s : State} (h : Frame w a s) (k : Sub 0x300000400000084 w) : Frame w a (State.calEnter s) := by
  unfold State.calEnter; try dsimp only
  repeat' first
    | with_reducible assumption
    | with_reducible apply Frame.enterState
    | with_reducible apply Frame.crsStop
    | with_reducible apply Frame.put
    | exact Sub.trans (by decide) k
    | exact RegOk.page k (by decide)

theorem Frame.calStart {w : Nat} {a s : State} (h : Frame w a s) (k : Sub 0x300000400000084 w) : ∀ x1 x2, Frame w a (State.calStart s x1 x2) := by
  intro x1 x2
  unfold State.calStart; try dsimp only
  repeat' first
    | with_reducible assumption
    | with_reducible apply Frame.calEnter
    | with_reducible apply Frame.moveTo
    | with_reducible apply Frame.setRadio
    | with_reducible apply Frame.ite
    | with_reducible apply Frame.upd
    | with_reducible rfl
    | with_reducible exact OtpKept.refl _
    | with_reducible exact Or.inr rfl
    | exact Or.inl (k.bit (by decide))
    | exact Sub.trans (by decide) k

theorem Frame.calStop {w : Nat} {a s : State} (h : Frame w a s) (k : Sub 0x10420000000001018D w) : Frame w a (State.calStop s) := by
  unfold State.calStop; try dsimp only
  repeat' first
    | with_reducible assumption
    | with_reducible apply Frame.put
    | with_reducible apply Frame.flag
    | with_reducible apply Frame.setRadio
    | with_reducible apply Frame.endPlain
    | split
    | with_reducible apply Frame.upd
    | with_reducible rfl
    | with_reducible exact OtpKept.refl _
    | with_reducible exact Or.inr rfl
    | exact Or.inl (k.bit (by decide))
    | exact Sub.trans (by decide) k
    | exact RegOk.page k (by decide)
    | exact PageOk.page k (by decide)

theorem Frame.calPreempt {w : Nat} {a s : State} (h : Frame w a s) (k : Sub 0x10420000040001018D w) : Frame w a (State.calPreempt s) := by
  unfold State.calPreempt; try dsimp only
  repeat' first
    | with_reducible assumption
    | with_reducible apply Frame.moveTo
    | with_reducible apply Frame.enterState
    | with_reducible apply Frame.calStop
    | with_reducible apply Frame.ite
    | exact Sub.trans (by decide) k

theorem Frame.dropWaiting {w : Nat} {a s : State} (h : Frame w a s) (k : Sub 0x10420000000001018D w) : ∀ x1, Frame w a (State.dropWaiting s x1) := by
  intro x1
  unfold State.dropWaiting; try dsimp only
  repeat' first
    | with_reducible assumption
    | with_reducible apply Frame.showQueue
    | with_reducible apply Frame.setRadio
    | with_reducible apply Frame.endPlain
    | split
    | with_reducible apply Frame.upd
    | with_reducible rfl
    | with_reducible exact OtpKept.refl _
    | with_reducible exact Or.inr rfl
    | exact Or.inl (k.bit (by decide))
    | exact Sub.trans (by decide) k

theorem Frame.txCut {w : Nat} {a s : State} (h : Frame w a s) (k : Sub 0x10438000000001018D w) : ∀ x1, Frame w a (State.txCut s x1) := by
  intro x1
  unfold State.txCut; try dsimp only
  repeat' first
    | with_reducible assumption
    | with_reducible apply Frame.exitBegins
    | with_reducible apply Frame.crsHold
    | with_reducible apply Frame.setRadio
    | with_reducible apply Frame.setPageSt
    | with_reducible apply Frame.ite
    | split
    | with_reducible apply Frame.upd
    | with_reducible rfl
    | with_reducible exact OtpKept.refl _
    | with_reducible exact Or.inr rfl
    | exact Or.inl (k.bit (by decide))
    | exact Sub.trans (by decide) k
    | exact PageOk.page k (by decide)

theorem Frame.abortNow {w : Nat} {a s : State} (h : Frame w a s) (k : Sub 0x105BC00000000101BD w) : ∀ x1, Frame w a (State.abortNow s x1) := by
  intro x1
  unfold State.abortNow; try dsimp only
  repeat' first
    | with_reducible assumption
    | with_reducible apply Frame.interim
    | with_reducible apply Frame.moveTo
    | with_reducible apply Frame.calStop
    | with_reducible apply Frame.leaveRx
    | with_reducible apply Frame.setRadio
    | with_reducible apply Frame.endPlain
    | with_reducible apply Frame.txCut
    | with_reducible apply Frame.dropWaiting
    | with_reducible apply Frame.ite
    | split
    | with_reducible apply Frame.upd
    | with_reducible rfl
    | with_reducible exact OtpKept.refl _
    | with_reducible exact Or.inr rfl
    | exact Or.inl (k.bit (by decide))
    | exact Sub.trans (by decide) k

theorem Frame.queueOp {w : Nat} {a s : State} (h : Frame w a s) (k : Sub 0x10420000000001018D w) : ∀ x1 x2, Frame w a (State.queueOp s x1 x2) := by
  intro x1 x2
  unfold State.queueOp; try dsimp only
  repeat' first
    | with_reducible assumption
    | with_reducible apply Frame.showQueue
    | with_reducible apply Frame.interim
    | with_reducible apply Frame.setRadio
    | with_reducible apply Frame.endPlain
    | with_reducible apply Frame.ite
    | split
    | with_reducible apply Frame.upd
    | with_reducible rfl
    | with_reducible exact OtpKept.refl _
    | with_reducible exact Or.inr rfl
    | exact Or.inl (k.bit (by decide))
    | exact Sub.trans (by decide) k

theorem Frame.secureFetch {w : Nat} {a s : State} (h : Frame w a s) (k : Sub 0x6189000000001018B w) : ∀ x1, Frame w a (State.secureFetch s x1).2.2 := by
  intro x1
  unfold State.secureFetch; try dsimp only
  repeat' first
    | with_reducible assumption
    | with_reducible apply Frame.fetchOut
    | with_reducible apply Frame.keyMiss
    | with_reducible apply Frame.frameKey
    | with_reducible apply Frame.freeVal
    | with_reducible apply Frame.remoteU
    | with_reducible apply Frame.ite
    | with_reducible apply Frame.ite3
    | split
    | refine Frame.of2 (by with_reducible assumption) ?_
    | exact Sub.trans (by decide) k

theorem Frame.notBeforeT0 {w : Nat} {a s : State} (h : Frame w a s) (k : Sub 0x4 w) : ∀ x1, Frame w a (State.notBeforeT0 s x1) := by
  intro x1
  unfold State.notBeforeT0; try dsimp only
  repeat' first
    | with_reducible assumption
    | with_reducible apply Frame.setRadio
    | split
    | with_reducible apply Frame.upd
    | with_reducible rfl
    | with_reducible exact OtpKept.refl _
    | with_reducible exact Or.inr rfl
    | exact Or.inl (k.bit (by decide))
    | exact Sub.trans (by decide) k

theorem Frame.squashOverlaps {w : Nat} {a s : State} (h : Frame w a s) (k : Sub 0x1043000000000101BD w) : ∀ x1 x2, Frame w a (State.squashOverlaps s x1 x2) := by
  intro x1 x2
  unfold State.squashOverlaps; try dsimp only
  repeat' first
    | with_reducible assumption
    | with_reducible apply Frame.squashCtx
    | with_reducible refine Frame.foldl ?_ (fun _ _ _ => ?_)
    | with_reducible refine Frame.foldl2 ?_ (fun _ _ _ => ?_)
    | with_reducible apply Frame.ite
    | split
    | exact Sub.trans (by decide) k

theorem Frame.putTx {w : Nat} {a s : State} (h : Frame w a s) (k : Sub 0x4 w) : ∀ x1 x2, Frame w a (State.putTx s x1 x2) := by
  intro x1 x2
  unfold State.putTx; try dsimp only
  repeat' first
    | with_reducible assumption
    | with_reducible apply Frame.setRadio
    | with_reducible apply Frame.ite
    | with_reducible apply Frame.upd
    | with_reducible rfl
    | with_reducible exact OtpKept.refl _
    | with_reducible exact Or.inr rfl
    | exact Or.inl (k.bit (by decide))
    | exact Sub.trans (by decide) k

theorem Frame.cmdTx {w : Nat} {a s : State} (h : Frame w a s) (k : Sub 0x1EFFD00004000101BF w) : ∀ x1 x2, Frame w a (State.cmdTx s x1 x2) := by
  intro x1 x2
  unfold State.cmdTx; try dsimp only
  repeat' first
    | with_reducible assumption
    | with_reducible apply Frame.calPreempt
    | with_reducible apply Frame.descErr
    | with_reducible apply Frame.moveTo
    | with_reducible apply Frame.endSrc
    | with_reducible apply Frame.takeOp
    | with_reducible apply Frame.rxStart
    | with_reducible apply Frame.squashOverlaps
    | with_reducible apply Frame.bstStopPath
    | with_reducible apply Frame.queueOp
    | with_reducible apply Frame.crsRequest
    | with_reducible apply Frame.endPlain
    | with_reducible apply Frame.putTx
    | with_reducible apply Frame.secureFetch
    | with_reducible apply Frame.ite
    | split
    | refine Frame.of1 (by with_reducible assumption) ?_
    | refine Frame.of3 (by with_reducible assumption) ?_
    | with_reducible apply Frame.upd
    | with_reducible rfl
    | with_reducible exact OtpKept.refl _
    | with_reducible exact Or.inr rfl
    | exact Or.inl (k.bit (by decide))
    | exact Sub.trans (by decide) k

theorem Frame.cmdRx {w : Nat} {a s : State} (h : Frame w a s) (k : Sub 0x107F4000000001018D w) : ∀ x1 x2, Frame w a (State.cmdRx s x1 x2) := by
  intro x1 x2
  unfold State.cmdRx; try dsimp only
  repeat' first
    | with_reducible assumption
    | with_reducible apply Frame.interim
    | with_reducible apply Frame.descErr
    | with_reducible apply Frame.moveTo
    | with_reducible apply Frame.takeOp
    | with_reducible apply Frame.rxStart
    | with_reducible apply Frame.setRadio
    | with_reducible apply Frame.planSlots
    | with_reducible apply Frame.endPlain
    | with_reducible refine Frame.foldl ?_ (fun _ _ _ => ?_)
    | with_reducible refine Frame.foldl2 ?_ (fun _ _ _ => ?_)
    | with_reducible apply Frame.ite
    | split
    | with_reducible apply Frame.upd
    | with_reducible rfl
    | with_reducible exact OtpKept.refl _
    | with_reducible exact Or.inr rfl
    | exact Or.inl (k.bit (by decide))
    | exact Sub.trans (by decide) k

theorem Frame.cmdWhiff {w : Nat} {a s : State} (h : Frame w a s) (k : Sub 0x107F4000000001019D w) : ∀ x1 x2, Frame w a (State.cmdWhiff s x1 x2) := by
  intro x1 x2
  unfold State.cmdWhiff; try dsimp only
  repeat' first
    | with_reducible assumption
    | with_reducible apply Frame.interim
    | with_reducible apply Frame.moveTo
    | with_reducible apply Frame.rxStart
    | with_reducible apply Frame.whiffEnd
    | with_reducible apply Frame.put
    | with_reducible apply Frame.setRadio
    | with_reducible apply Frame.supersede
    | with_reducible apply Frame.ite
    | exact Sub.trans (by decide) k
    | exact RegOk.page k (by decide)

theorem Frame.cmdPretune {w : Nat} {a s : State} (h : Frame w a s) (k : Sub 0x10430000000001018D w) : ∀ x1 x2, Frame w a (State.cmdPretune s x1 x2) := by
  intro x1 x2
  unfold State.cmdPretune; try dsimp only
  repeat' first
    | with_reducible assumption
    | with_reducible apply Frame.interim
    | with_reducible apply Frame.moveTo
    | with_reducible apply Frame.takeOp
    | with_reducible apply Frame.crsRequest
    | with_reducible apply Frame.setRadio
    | with_reducible apply Frame.endPlain
    | with_reducible apply Frame.ite
    | split
    | refine Frame.of1 (by with_reducible assumption) ?_
    | with_reducible apply Frame.upd
    | with_reducible rfl
    | with_reducible exact OtpKept.refl _
    | with_reducible exact Or.inr rfl
    | exact Or.inl (k.bit (by decide))
    | exact Sub.trans (by decide) k

theorem Frame.cmdIdle {w : Nat} {a s : State} (h : Frame w a s) (k : Sub 0x107F400000000103BD w) : ∀ x1 x2, Frame w a (State.cmdIdle s x1 x2) := by
  intro x1 x2
  unfold State.cmdIdle; try dsimp only
  repeat' first
    | with_reducible assumption
    | with_reducible apply Frame.moveTo
    | with_reducible apply Frame.takeOp
    | with_reducible apply Frame.goTo
    | with_reducible apply Frame.setRadio
    | with_reducible apply Frame.endPlain
    | with_reducible apply Frame.ite
    | with_reducible apply Frame.upd
    | with_reducible rfl
    | with_reducible exact OtpKept.refl _
    | with_reducible exact Or.inr rfl
    | exact Or.inl (k.bit (by decide))
    | exact Sub.trans (by decide) k

theorem Frame.judge {w : Nat} {a s : State} (h : Frame w a s) (k : Sub 0x1EFFD00004000103BF w) : ∀ x1, Frame w a (State.judge s x1) := by
  intro x1
  unfold State.judge; try dsimp only
  repeat' first
    | with_reducible assumption
    | with_reducible apply Frame.interim
    | with_reducible apply Frame.cmdWhiff
    | with_reducible apply Frame.cmdIdle
    | with_reducible apply Frame.calStart
    | with_reducible apply Frame.moveTo
    | with_reducible apply Frame.takeOp
    | with_reducible apply Frame.cmdRx
    | with_reducible apply Frame.goTo
    | with_reducible apply Frame.queueOp
    | with_reducible apply Frame.cmdPretune
    | with_reducible apply Frame.flag
    | with_reducible apply Frame.setRadio
    | with_reducible apply Frame.abortNow
    | with_reducible apply Frame.endPlain
    | with_reducible apply Frame.cmdTx
    | with_reducible apply Frame.ite
    | with_reducible apply Frame.upd
    | with_reducible rfl
    | with_reducible exact OtpKept.refl _
    | with_reducible exact Or.inr rfl
    | exact Or.inl (k.bit (by decide))
    | exact Sub.trans (by decide) k
    | exact PageOk.page k (by decide)

theorem Frame.holdTimed {w : Nat} {a s : State} (h : Frame w a s) (k : Sub 0x1EFB900004000101BF w) : ∀ x1, Frame w a (State.holdTimed s x1) := by
  intro x1
  unfold State.holdTimed; try dsimp only
  repeat' first
    | with_reducible assumption
    | with_reducible apply Frame.calPreempt
    | with_reducible apply Frame.showQueue
    | with_reducible apply Frame.interim
    | with_reducible apply Frame.notBeforeT0
    | with_reducible apply Frame.squashOverlaps
    | with_reducible apply Frame.bstStopPath
    | with_reducible apply Frame.setRadio
    | with_reducible apply Frame.endPlain
    | with_reducible apply Frame.secureFetch
    | with_reducible apply Frame.ite
    | split
    | refine Frame.of3 (by with_reducible assumption) ?_
    | with_reducible apply Frame.upd
    | with_reducible rfl
    | with_reducible exact OtpKept.refl _
    | with_reducible exact Or.inr rfl
    | exact Or.inl (k.bit (by decide))
    | exact Sub.trans (by decide) k

theorem Frame.submit {w : Nat} {a s : State} (h : Frame w a s) (k : Sub 0x1EFFD00004000103BF w) : ∀ x1, Frame w a (State.submit s x1) := by
  intro x1
  unfold State.submit; try dsimp only
  repeat' first
    | with_reducible assumption
    | with_reducible apply Frame.judge
    | with_reducible apply Frame.endSrc
    | with_reducible apply Frame.put
    | with_reducible apply Frame.setPageSt
    | with_reducible apply Frame.endPlain
    | with_reducible apply Frame.holdTimed
    | with_reducible apply Frame.ite
    | exact Sub.trans (by decide) k
    | exact RegOk.page k (by decide)
    | exact PageOk.page k (by decide)

theorem Frame.radTaken {w : Nat} {a s : State} (h : Frame w a s) (k : Sub 0x200000000010105 w) : ∀ x1, Frame w a (State.radTaken s x1) := by
  intro x1
  unfold State.radTaken; try dsimp only
  repeat' first
    | with_reducible assumption
    | with_reducible apply Frame.setReg
    | with_reducible apply Frame.record
    | with_reducible apply Frame.setRadio
    | with_reducible apply Frame.upd
    | with_reducible rfl
    | with_reducible exact OtpKept.refl _
    | with_reducible exact Or.inr rfl
    | exact Or.inl (k.bit (by decide))
    | exact Sub.trans (by decide) k
    | exact RegOk.page k (by decide)

theorem Frame.radCmd {w : Nat} {a s : State} (h : Frame w a s) (k : Sub 0x1EFFD00004000103BF w) : ∀ x1, Frame w a (State.radCmd s x1) := by
  intro x1
  unfold State.radCmd; try dsimp only
  repeat' first
    | with_reducible assumption
    | with_reducible apply Frame.radTaken
    | with_reducible apply Frame.raiseFlag
    | with_reducible apply Frame.put
    | with_reducible apply Frame.submit
    | with_reducible apply Frame.freeVal
    | with_reducible apply Frame.flag
    | with_reducible apply Frame.ite
    | split
    | refine Frame.of2 (by with_reducible assumption) ?_
    | exact Sub.trans (by decide) k
    | exact RegOk.page k (by decide)
    | exact PageOk.page k (by decide)

theorem Frame.radDisabled {w : Nat} {a s : State} (h : Frame w a s) (k : Sub 0x105BC00000000101BD w) : Frame w a (State.radDisabled s) := by
  unfold State.radDisabled; try dsimp only
  repeat' first
    | with_reducible assumption
    | with_reducible apply Frame.setRadio
    | with_reducible apply Frame.abortNow
    | with_reducible apply Frame.ite
    | with_reducible apply Frame.upd
    | with_reducible rfl
    | with_reducible exact OtpKept.refl _
    | with_reducible exact Or.inr rfl
    | exact Or.inl (k.bit (by decide))
    | exact Sub.trans (by decide) k

theorem Frame.enterOff {w : Nat} {a s : State} (h : Frame w a s) (k : Sub 0x3FC0000400010185 w) : Frame w a (State.enterOff s) := by
  unfold State.enterOff; try dsimp only
  repeat' first
    | with_reducible assumption
    | with_reducible apply Frame.rxStop
    | with_reducible apply Frame.setRetry
    | with_reducible apply Frame.enterState
    | with_reducible apply Frame.crsStop
    | with_reducible apply Frame.put
    | with_reducible apply Frame.unblank
    | with_reducible apply Frame.setPageSt
    | with_reducible apply Frame.upd
    | with_reducible rfl
    | with_reducible exact OtpKept.refl _
    | with_reducible exact Or.inr rfl
    | exact Or.inl (k.bit (by decide))
    | exact Sub.trans (by decide) k
    | exact RegOk.page k (by decide)
    | exact PageOk.page k (by decide)

theorem Frame.finishMove {w : Nat} {a s : State} (h : Frame w a s) (k : Sub 0x10420000000001018D w) : Frame w a (State.finishMove s) := by
  unfold State.finishMove; try dsimp only
  repeat' first
    | with_reducible assumption
    | with_reducible apply Frame.endSrc
    | with_reducible apply Frame.setRadio
    | with_reducible apply Frame.ite
    | split
    | with_reducible apply Frame.upd
    | with_reducible rfl
    | with_reducible exact OtpKept.refl _
    | with_reducible exact Or.inr rfl
    | exact Or.inl (k.bit (by decide))
    | exact Sub.trans (by decide) k

theorem Frame.timedDue {w : Nat} {a s : State} (h : Frame w a s) (k : Sub 0x1EFFD00004000103BF w) : ∀ x1, Frame w a (State.timedDue s x1) := by
  intro x1
  unfold State.timedDue; try dsimp only
  repeat' first
    | with_reducible assumption
    | with_reducible apply Frame.judge
    | with_reducible apply Frame.showSlip
    | with_reducible apply Frame.upd
    | with_reducible rfl
    | with_reducible exact OtpKept.refl _
    | with_reducible exact Or.inr rfl
    | exact Or.inl (k.bit (by decide))
    | exact Sub.trans (by decide) k

theorem Frame.takeExit {w : Nat} {a s : State} (h : Frame w a s) (k : Sub 0x107F400000000101BD w) : Frame w a (State.takeExit s) := by
  unfold State.takeExit; try dsimp only
  repeat' first
    | with_reducible assumption
    | with_reducible apply Frame.exitTo
    | with_reducible apply Frame.setRadio
    | split
    | with_reducible apply Frame.upd
    | with_reducible rfl
    | with_reducible exact OtpKept.refl _
    | with_reducible exact Or.inr rfl
    | exact Or.inl (k.bit (by decide))
    | exact Sub.trans (by decide) k

theorem Frame.execTimedCommandDue {w : Nat} {a s : State} (h : Frame w a s) (k : Sub 0x1EFFD00004000103BF w) : ∀ x0, FrameAll w a (Machine.execTimedCommandDue x0 s) := by
  intro x0
  unfold Machine.execTimedCommandDue; try dsimp only
  repeat' first
    | with_reducible assumption
    | with_reducible apply Frame.showQueue
    | with_reducible apply Frame.timedDue
    | with_reducible apply Frame.setRadio
    | with_reducible apply Frame.ite
    | with_reducible apply FrameAll.ite
    | with_reducible apply FrameAll.next
    | split
    | with_reducible apply Frame.upd
    | with_reducible rfl
    | with_reducible exact OtpKept.refl _
    | with_reducible exact Or.inr rfl
    | exact Or.inl (k.bit (by decide))
    | exact Sub.trans (by decide) k

theorem Frame.execQueuedCommandEval {w : Nat} {a s : State} (h : Frame w a s) (k : Sub 0x1EFFD00004000103BF w) : FrameAll w a (Machine.execQueuedCommandEval s) := by
  unfold Machine.execQueuedCommandEval; try dsimp only
  repeat' first
    | with_reducible assumption
    | with_reducible apply Frame.judge
    | with_reducible apply Frame.showQueue
    | with_reducible apply Frame.setRadio
    | with_reducible apply Frame.takeExit
    | with_reducible apply Frame.ite
    | with_reducible apply FrameAll.ite
    | with_reducible apply FrameAll.next
    | split
    | with_reducible apply Frame.upd
    | with_reducible rfl
    | with_reducible exact OtpKept.refl _
    | with_reducible exact Or.inr rfl
    | exact Or.inl (k.bit (by decide))
    | exact Sub.trans (by decide) k

theorem Frame.leaveOff {w : Nat} {a s : State} (h : Frame w a s) (k : Sub 0x1043C000040001018D w) : ∀ x1, Frame w a (State.leaveOff s x1) := by
  intro x1
  unfold State.leaveOff; try dsimp only
  repeat' first
    | with_reducible assumption
    | with_reducible apply Frame.scsApply
    | with_reducible apply Frame.moveTo
    | with_reducible apply Frame.enterState
    | with_reducible apply Frame.put
    | with_reducible apply Frame.finishMove
    | with_reducible apply Frame.setPageSt
    | with_reducible apply Frame.ite
    | exact Sub.trans (by decide) k
    | exact RegOk.page k (by decide)
    | exact PageOk.page k (by decide)

theorem Frame.execReceiverRunning {w : Nat} {a s : State} (h : Frame w a s) (k : Sub 0x40000000000000 w) : FrameAll w a (Machine.execReceiverRunning s) := by
  unfold Machine.execReceiverRunning; try dsimp only
  repeat' first
    | with_reducible assumption
    | with_reducible apply Frame.setPageSt
    | with_reducible apply Frame.ite
    | with_reducible apply FrameAll.ite
    | with_reducible apply FrameAll.next
    | exact PageOk.page k (by decide)

theorem Frame.execCalStepDone {w : Nat} {a s : State} (h : Frame w a s) (k : Sub 0x10430000040001018D w) : ∀ x0 x1, FrameAll w a (Machine.execCalStepDone x0 x1 s) := by
  intro x0 x1
  unfold Machine.execCalStepDone; try dsimp only
  repeat' first
    | with_reducible assumption
    | with_reducible apply Frame.enterState
    | with_reducible apply Frame.put
    | with_reducible apply Frame.putBit
    | with_reducible apply Frame.setRadio
    | with_reducible apply Frame.endPlain
    | with_reducible apply Frame.ite
    | with_reducible apply FrameAll.ite
    | with_reducible apply FrameAll.next
    | split
    | with_reducible apply Frame.upd
    | with_reducible rfl
    | with_reducible exact OtpKept.refl _
    | with_reducible exact Or.inr rfl
    | exact Or.inl (k.bit (by decide))
    | exact Sub.trans (by decide) k
    | exact RegOk.page k (by decide)

theorem Frame.execAutoCalStart {w : Nat} {a s : State} (h : Frame w a s) (k : Sub 0x300000400000084 w) : FrameAll w a (Machine.execAutoCalStart s) := by
  unfold Machine.execAutoCalStart; try dsimp only
  repeat' first
    | with_reducible assumption
    | with_reducible apply Frame.calStart
    | with_reducible apply Frame.ite
    | with_reducible apply FrameAll.ite
    | with_reducible apply FrameAll.next
    | exact Sub.trans (by decide) k

theorem Frame.relockFailed {w : Nat} {a s : State} (h : Frame w a s) (k : Sub 0x61880000000000180 w) : ∀ x1, Frame w a (State.relockFailed s x1).1 := by
  intro x1
  unfold State.relockFailed; try dsimp only
  repeat' first
    | with_reducible assumption
    | with_reducible apply Frame.setRetry
    | with_reducible apply Frame.reportFault
    | with_reducible apply Frame.ite
    | with_reducible apply Frame.ite1
    | exact Sub.trans (by decide) k

theorem Frame.ackFailed {w : Nat} {a s : State} (h : Frame w a s) (k : Sub 0x104000000000010119 w) : ∀ x1, Frame w a (State.ackFailed s x1) := by
  intro x1
  unfold State.ackFailed; try dsimp only
  repeat' first
    | with_reducible assumption
    | with_reducible apply Frame.recTrigger
    | with_reducible apply Frame.flag
    | with_reducible apply Frame.ctxFree
    | with_reducible apply Frame.countSat
    | with_reducible apply Frame.ite
    | exact Sub.trans (by decide) k
    | exact RegOk.page k (by decide)
    | exact PageOk.page k (by decide)

theorem Frame.txFail {w : Nat} {a s : State} (h : Frame w a s) (k : Sub 0x10438000000001019D w) : ∀ x1, Frame w a (State.txFail s x1) := by
  intro x1
  unfold State.txFail; try dsimp only
  repeat' first
    | with_reducible assumption
    | with_reducible apply Frame.ackFailed
    | with_reducible apply Frame.txCut
    | with_reducible apply Frame.ite
    | split
    | exact Sub.trans (by decide) k

theorem Frame.noRxExit {w : Nat} {a s : State} (h : Frame w a s) (k : Sub 0x200000000000004 w) : Frame w a (State.noRxExit s) := by
  unfold State.noRxExit; try dsimp only
  repeat' first
    | with_reducible assumption
    | with_reducible apply Frame.moveTo
    | with_reducible apply Frame.setRadio
    | with_reducible apply Frame.ite
    | with_reducible apply Frame.upd
    | with_reducible rfl
    | with_reducible exact OtpKept.refl _
    | with_reducible exact Or.inr rfl
    | exact Or.inl (k.bit (by decide))
    | exact Sub.trans (by decide) k

theorem Frame.scsDie {w : Nat} {a s : State} (h : Frame w a s) (k : Sub 0x107FC00000000101BD w) : Frame w a (State.scsDie s) := by
  unfold State.scsDie; try dsimp only
  repeat' first
    | with_reducible assumption
    | with_reducible apply Frame.rxStop
    | with_reducible apply Frame.loseAll
    | with_reducible apply Frame.releaseAll
    | with_reducible apply Frame.whiffEnd
    | with_reducible apply Frame.noRxExit
    | with_reducible apply Frame.goTo
    | with_reducible apply Frame.put
    | with_reducible apply Frame.setRadio
    | with_reducible apply Frame.endPlain
    | with_reducible apply Frame.txCut
    | with_reducible apply Frame.ite
    | split
    | with_reducible apply Frame.upd
    | with_reducible rfl
    | with_reducible exact OtpKept.refl _
    | with_reducible exact Or.inr rfl
    | exact Or.inl (k.bit (by decide))
    | exact Sub.trans (by decide) k
    | exact RegOk.page k (by decide)

theorem Frame.scsRelockEnd {w : Nat} {a s : State} (h : Frame w a s) (k : Sub 0x167FC00000000101BD w) : ∀ x1, Frame w a (State.scsRelockEnd s x1) := by
  intro x1
  unfold State.scsRelockEnd; try dsimp only
  repeat' first
    | with_reducible assumption
    | with_reducible apply Frame.setRetry
    | with_reducible apply Frame.relockFailed
    | with_reducible apply Frame.scsDie
    | with_reducible apply Frame.put
    | with_reducible apply Frame.setPageSt
    | with_reducible apply Frame.ite
    | split
    | refine Frame.of1 (by with_reducible assumption) ?_
    | exact Sub.trans (by decide) k
    | exact RegOk.page k (by decide)
    | exact PageOk.page k (by decide)

theorem Frame.txNotSent {w : Nat} {a s : State} (h : Frame w a s) (k : Sub 0x107F400000000101BD w) : ∀ x1 x2, Frame w a (State.txNotSent s x1 x2) := by
  intro x1 x2
  unfold State.txNotSent; try dsimp only
  repeat' first
    | with_reducible assumption
    | with_reducible apply Frame.rxStop
    | with_reducible apply Frame.endSrc
    | with_reducible apply Frame.crsHold
    | with_reducible apply Frame.opExit
    | with_reducible apply Frame.put
    | with_reducible apply Frame.setRadio
    | with_reducible apply Frame.antQuiet
    | with_reducible apply Frame.ite
    | split
    | with_reducible apply Frame.upd
    | with_reducible rfl
    | with_reducible exact OtpKept.refl _
    | with_reducible exact Or.inr rfl
    | exact Or.inl (k.bit (by decide))
    | exact Sub.trans (by decide) k
    | exact RegOk.page k (by decide)

theorem Frame.crsDie {w : Nat} {a s : State} (h : Frame w a s) (k : Sub 0x107F400000000101BD w) : Frame w a (State.crsDie s) := by
  unfold State.crsDie; try dsimp only
  repeat' first
    | with_reducible assumption
    | with_reducible apply Frame.put
    | with_reducible apply Frame.txNotSent
    | with_reducible apply Frame.ite
    | split
    | with_reducible apply Frame.upd
    | with_reducible rfl
    | with_reducible exact OtpKept.refl _
    | with_reducible exact Or.inr rfl
    | exact Or.inl (k.bit (by decide))
    | exact Sub.trans (by decide) k
    | exact RegOk.page k (by decide)

theorem Frame.crsRelockEnd {w : Nat} {a s : State} (h : Frame w a s) (k : Sub 0x167FC00000000101BD w) : ∀ x1, Frame w a (State.crsRelockEnd s x1) := by
  intro x1
  unfold State.crsRelockEnd; try dsimp only
  repeat' first
    | with_reducible assumption
    | with_reducible apply Frame.setRetry
    | with_reducible apply Frame.relockFailed
    | with_reducible apply Frame.crsDie
    | with_reducible apply Frame.put
    | with_reducible apply Frame.ite
    | split
    | refine Frame.of1 (by with_reducible assumption) ?_
    | exact Sub.trans (by decide) k
    | exact RegOk.page k (by decide)

theorem Frame.fit16 {w : Nat} {a s : State} (h : Frame w a s) (k : Sub 0x10000 w) : ∀ x1, Frame w a (State.fit16 s x1).2 := by
  intro x1
  unfold State.fit16; try dsimp only
  repeat' first
    | with_reducible assumption
    | with_reducible apply Frame.freeVal
    | with_reducible apply Frame.ite
    | with_reducible apply Frame.ite2
    | split
    | refine Frame.of2 (by with_reducible assumption) ?_
    | exact Sub.trans (by decide) k

theorem Frame.whiffOver {w : Nat} {a s : State} (h : Frame w a s) (k : Sub 0x107F400000000101BD w) : ∀ x1, Frame w a (State.whiffOver s x1) := by
  intro x1
  unfold State.whiffOver; try dsimp only
  repeat' first
    | with_reducible assumption
    | with_reducible apply Frame.opExit
    | with_reducible apply Frame.whiffEnd
    | with_reducible apply Frame.ite
    | split
    | exact Sub.trans (by decide) k

theorem Frame.whiffPowers {w : Nat} {a s : State} (h : Frame w a s) (k : Sub 0x10000 w) : ∀ o ps, Frame w a (State.whiffPowers s o ps).2 := by
  intro o ps
  induction ps generalizing s
  case nil => exact h
  case cons p ps ih =>
    have g : Frame w a (if p = 0x8000 then (p, s) else s.fit16 (signedN 16 p + o)).2 := Frame.ite2 h (h.fit16 (Sub.trans (by decide) k) _)
    exact ih g

theorem Frame.whiffFloor {w : Nat} {a s : State} (h : Frame w a s) (k : Sub 0x10000 w) : ∀ x1, Frame w a (State.whiffFloor s x1).2 := by
  intro x1
  unfold State.whiffFloor; try dsimp only
  repeat' first
    | with_reducible assumption
    | with_reducible apply Frame.freeVal
    | with_reducible apply Frame.ite
    | with_reducible apply Frame.ite2
    | split
    | refine Frame.of2 (by with_reducible assumption) ?_
    | exact Sub.trans (by decide) k

theorem Frame.execScsUnlock {w : Nat} {a s : State} (h : Frame w a s) (k : Sub 0x167FC00000000101BD w) : FrameAll w a (Machine.execScsUnlock s) := by
  unfold Machine.execScsUnlock; try dsimp only
  repeat' first
    | with_reducible assumption
    | with_reducible apply Frame.loseAll
    | with_reducible apply Frame.setRetry
    | with_reducible apply Frame.scsSettle
    | with_reducible apply Frame.reportFault
    | with_reducible apply Frame.put
    | with_reducible apply Frame.whiffOver
    | with_reducible apply Frame.flag
    | with_reducible apply Frame.setPageSt
    | with_reducible apply Frame.countSat
    | with_reducible apply Frame.ite
    | with_reducible apply FrameAll.ite
    | with_reducible apply FrameAll.next
    | exact Sub.trans (by decide) k
    | exact RegOk.page k (by decide)
    | exact PageOk.page k (by decide)

theorem Frame.execScsRelock {w : Nat} {a s : State} (h : Frame w a s) (k : Sub 0x167FC00000000101BD w) : ∀ x0, FrameAll w a (Machine.execScsRelock x0 s) := by
  intro x0
  unfold Machine.execScsRelock; try dsimp only
  repeat' first
    | with_reducible assumption
    | with_reducible apply Frame.scsRelockEnd
    | with_reducible apply Frame.ite
    | with_reducible apply FrameAll.ite
    | with_reducible apply FrameAll.next
    | exact Sub.trans (by decide) k

theorem Frame.execCrsUnlock {w : Nat} {a s : State} (h : Frame w a s) (k : Sub 0x165B8000000001019D w) : FrameAll w a (Machine.execCrsUnlock s) := by
  unfold Machine.execCrsUnlock; try dsimp only
  repeat' first
    | with_reducible assumption
    | with_reducible apply Frame.setRetry
    | with_reducible apply Frame.reportFault
    | with_reducible apply Frame.txFail
    | with_reducible apply Frame.put
    | with_reducible apply Frame.flag
    | with_reducible apply Frame.countSat
    | with_reducible apply Frame.ite
    | with_reducible apply FrameAll.ite
    | with_reducible apply FrameAll.next
    | exact Sub.trans (by decide) k
    | exact RegOk.page k (by decide)
    | exact PageOk.page k (by decide)

theorem Frame.execCrsRelock {w : Nat} {a s : State} (h : Frame w a s) (k : Sub 0x167FC00000000101BD w) : ∀ x0, FrameAll w a (Machine.execCrsRelock x0 s) := by
  intro x0
  unfold Machine.execCrsRelock; try dsimp only
  repeat' first
    | with_reducible assumption
    | with_reducible apply Frame.crsRelockEnd
    | with_reducible apply Frame.ite
    | with_reducible apply FrameAll.ite
    | with_reducible apply FrameAll.next
    | exact Sub.trans (by decide) k

theorem Frame.execWhiffCaptureStart {w : Nat} {a s : State} (h : Frame w a s) (k : Sub 0x10FF400000000101BD w) : FrameAll w a (Machine.execWhiffCaptureStart s) := by
  unfold Machine.execWhiffCaptureStart; try dsimp only
  repeat' first
    | with_reducible assumption
    | with_reducible apply Frame.descErr
    | with_reducible apply Frame.put
    | with_reducible apply Frame.whiffOver
    | with_reducible apply Frame.setRadio
    | refine Frame.takeBlocks ?_ ?_ _ _ _ _ (by with_reducible assumption)
    | with_reducible apply Frame.setPageSt
    | with_reducible apply Frame.setGain
    | with_reducible refine Frame.foldl ?_ (fun _ _ _ => ?_)
    | with_reducible refine Frame.foldl2 ?_ (fun _ _ _ => ?_)
    | with_reducible apply Frame.ite
    | with_reducible apply FrameAll.ite
    | with_reducible apply FrameAll.next
    | split
    | with_reducible apply Frame.upd
    | with_reducible rfl
    | with_reducible exact OtpKept.refl _
    | with_reducible exact Or.inr rfl
    | exact Or.inl (k.bit (by decide))
    | exact Sub.trans (by decide) k
    | exact RegOk.page k (by decide)
    | exact PageOk.page k (by decide)

theorem Frame.execWhiffCaptureEnd {w : Nat} {a s : State} (h : Frame w a s) (k : Sub 0x40000000010105 w) : ∀ x0, FrameAll w a (Machine.execWhiffCaptureEnd x0 s) := by
  intro x0
  unfold Machine.execWhiffCaptureEnd; try dsimp only
  repeat' first
    | with_reducible assumption
    | with_reducible apply Frame.setRadio
    | with_reducible apply Frame.setPageSt
    | with_reducible apply Frame.setGain
    | with_reducible apply Frame.ite
    | with_reducible apply FrameAll.ite
    | with_reducible apply FrameAll.next
    | split
    | with_reducible apply Frame.upd
    | with_reducible rfl
    | with_reducible exact OtpKept.refl _
    | with_reducible exact Or.inr rfl
    | exact Or.inl (k.bit (by decide))
    | exact Sub.trans (by decide) k
    | exact PageOk.page k (by decide)

theorem Frame.execWhiffDone {w : Nat} {a s : State} (h : Frame w a s) (k : Sub 0x107F400000000101BD w) : ∀ x0 x1, FrameAll w a (Machine.execWhiffDone x0 x1 s) := by
  intro x0 x1
  unfold Machine.execWhiffDone; try dsimp only
  repeat' first
    | with_reducible assumption
    | with_reducible apply Frame.giveAll
    | with_reducible apply Frame.whiffFloor
    | with_reducible apply Frame.storeChain
    | with_reducible apply Frame.whiffPowers
    | with_reducible apply Frame.put
    | with_reducible apply Frame.whiffOver
    | with_reducible apply Frame.flag
    | with_reducible apply Frame.setRadio
    | with_reducible apply Frame.ite
    | with_reducible apply FrameAll.ite
    | with_reducible apply FrameAll.next
    | split
    | refine Frame.of2 (by with_reducible assumption) ?_
    | with_reducible apply Frame.upd
    | with_reducible rfl
    | with_reducible exact OtpKept.refl _
    | with_reducible exact Or.inr rfl
    | exact Or.inl (k.bit (by decide))
    | exact Sub.trans (by decide) k
    | exact RegOk.page k (by decide)
    | exact PageOk.page k (by decide)

theorem Frame.compWrite {w : Nat} {a s : State} (h : Frame w a s) (k : Sub 0x4 w) : ∀ x1 x2 x3, Frame w a (State.compWrite s x1 x2 x3) := by
  intro x1 x2 x3
  unfold State.compWrite; try dsimp only
  repeat' first
    | with_reducible assumption
    | with_reducible apply Frame.ite
    | with_reducible apply Frame.upd
    | with_reducible rfl
    | with_reducible exact OtpKept.refl _
    | with_reducible exact Or.inr rfl
    | exact Or.inl (k.bit (by decide))

theorem Frame.driveOf {w : Nat} {a s : State} (h : Frame w a s) (k : Sub 0x10000 w) : ∀ x1 x2 x3, Frame w a (State.driveOf s x1 x2 x3).2.2 := by
  intro x1 x2 x3
  unfold State.driveOf; try dsimp only
  repeat' first
    | with_reducible assumption
    | with_reducible apply Frame.freeVal
    | with_reducible apply Frame.ite
    | with_reducible apply Frame.ite3
    | split
    | refine Frame.of2 (by with_reducible assumption) ?_
    | exact Sub.trans (by decide) k

theorem Frame.rcpSample {w : Nat} {a s : State} (h : Frame w a s) (k : Sub 0x4 w) : Frame w a (State.rcpSample s) := by
  unfold State.rcpSample; try dsimp only
  repeat' first
    | with_reducible assumption
    | with_reducible apply Frame.upd
    | with_reducible rfl
    | with_reducible exact OtpKept.refl _
    | with_reducible exact Or.inr rfl
    | exact Or.inl (k.bit (by decide))

theorem Frame.calDueCheck {w : Nat} {a s : State} (h : Frame w a s) (k : Sub 0x200000000000000 w) : Frame w a (State.calDueCheck s) := by
  unfold State.calDueCheck; try dsimp only
  repeat' first
    | with_reducible assumption
    | with_reducible apply Frame.put
    | with_reducible apply Frame.flag
    | with_reducible apply Frame.ite
    | exact RegOk.page k (by decide)
    | exact PageOk.page k (by decide)

theorem Frame.tsnRoundEnds {w : Nat} {a s : State} (h : Frame w a s) (k : Sub 0x1000000000000000004 w) : ∀ x1, Frame w a (State.tsnRoundEnds s x1) := by
  intro x1
  unfold State.tsnRoundEnds; try dsimp only
  repeat' first
    | with_reducible assumption
    | with_reducible apply Frame.putSense
    | with_reducible apply Frame.put
    | with_reducible apply Frame.flag
    | with_reducible apply Frame.ite
    | with_reducible apply Frame.upd
    | with_reducible rfl
    | with_reducible exact OtpKept.refl _
    | with_reducible exact Or.inr rfl
    | exact Or.inl (k.bit (by decide))
    | exact RegOk.page k (by decide)
    | exact PageOk.page k (by decide)

theorem Frame.roundNow {w : Nat} {a s : State} (h : Frame w a s) (k : Sub 0x1000000000000000004 w) : ∀ x1, Frame w a (State.roundNow s x1) := by
  intro x1
  unfold State.roundNow; try dsimp only
  repeat' first
    | with_reducible assumption
    | with_reducible apply Frame.tsnRoundEnds
    | split
    | exact Sub.trans (by decide) k

theorem Frame.tsnSample {w : Nat} {a s : State} (h : Frame w a s) (k : Sub 0x1000000000000000004 w) : Frame w a (State.tsnSample s) := by
  unfold State.tsnSample; try dsimp only
  repeat' first
    | with_reducible assumption
    | with_reducible apply Frame.putBit
    | with_reducible apply Frame.setPageSt
    | with_reducible apply Frame.ite
    | with_reducible apply Frame.upd
    | with_reducible rfl
    | with_reducible exact OtpKept.refl _
    | with_reducible exact Or.inr rfl
    | exact Or.inl (k.bit (by decide))
    | exact RegOk.page k (by decide)
    | exact PageOk.page k (by decide)

theorem Frame.execRcpSenseSample {w : Nat} {a s : State} (h : Frame w a s) (k : Sub 0x1000200000000000004 w) : ∀ x0, FrameAll w a (Machine.execRcpSenseSample x0 s) := by
  intro x0
  unfold Machine.execRcpSenseSample; try dsimp only
  repeat' first
    | with_reducible assumption
    | with_reducible apply Frame.rcpSample
    | with_reducible apply Frame.roundNow
    | with_reducible apply Frame.calDueCheck
    | with_reducible apply Frame.ite
    | with_reducible apply FrameAll.ite
    | with_reducible apply FrameAll.next
    | exact Sub.trans (by decide) k

theorem Frame.execTsnRoundEnd {w : Nat} {a s : State} (h : Frame w a s) (k : Sub 0x1000000000000000004 w) : ∀ x0, FrameAll w a (Machine.execTsnRoundEnd x0 s) := by
  intro x0
  unfold Machine.execTsnRoundEnd; try dsimp only
  repeat' first
    | with_reducible assumption
    | with_reducible apply Frame.tsnRoundEnds
    | with_reducible apply FrameAll.next
    | exact Sub.trans (by decide) k

theorem Frame.execTsnSampleLatched {w : Nat} {a s : State} (h : Frame w a s) (k : Sub 0x1000000000000000080 w) : FrameAll w a (Machine.execTsnSampleLatched s) := by
  unfold Machine.execTsnSampleLatched; try dsimp only
  repeat' first
    | with_reducible assumption
    | with_reducible apply Frame.setReg
    | with_reducible apply Frame.event
    | with_reducible apply Frame.flag
    | with_reducible apply Frame.setPageSt
    | with_reducible apply Frame.ite
    | with_reducible apply FrameAll.ite
    | with_reducible apply FrameAll.next
    | exact Sub.trans (by decide) k
    | exact RegOk.page k (by decide)
    | exact PageOk.page k (by decide)

theorem Frame.cslPhase {w : Nat} {a s : State} (h : Frame w a s) (k : Sub 0x10000 w) : ∀ x1 x2, Frame w a (State.cslPhase s x1 x2).2 := by
  intro x1 x2
  unfold State.cslPhase; try dsimp only
  repeat' first
    | with_reducible assumption
    | with_reducible apply Frame.freeVal
    | with_reducible apply Frame.ite
    | with_reducible apply Frame.ite2
    | split
    | refine Frame.of2 (by with_reducible assumption) ?_
    | exact Sub.trans (by decide) k

theorem Frame.cslFill {w : Nat} {a s : State} (h : Frame w a s) (k : Sub 0x10000 w) : ∀ x1 x2 x3 x4, Frame w a (State.cslFill s x1 x2 x3 x4).2 := by
  intro x1 x2 x3 x4
  unfold State.cslFill; try dsimp only
  repeat' first
    | with_reducible assumption
    | with_reducible apply Frame.cslPhase
    | with_reducible refine Frame.foldl ?_ (fun _ _ _ => ?_)
    | with_reducible refine Frame.foldl2 ?_ (fun _ _ _ => ?_)
    | with_reducible apply Frame.ite
    | with_reducible apply Frame.ite2
    | split
    | refine Frame.of2 (by with_reducible assumption) ?_
    | exact Sub.trans (by decide) k

theorem Frame.opFrame {w : Nat} {a s : State} (h : Frame w a s) (k : Sub 0x61890000000010182 w) : ∀ x1 x2 x3 x4, Frame w a (State.opFrame s x1 x2 x3 x4).2 := by
  intro x1 x2 x3 x4
  unfold State.opFrame; try dsimp only
  repeat' first
    | with_reducible assumption
    | with_reducible apply Frame.keyMiss
    | with_reducible apply Frame.cslFill
    | with_reducible apply Frame.frameKey
    | with_reducible apply Frame.freeVal
    | with_reducible apply Frame.ite
    | with_reducible apply Frame.ite2
    | split
    | refine Frame.of2 (by with_reducible assumption) ?_
    | exact Sub.trans (by decide) k

theorem Frame.txWalk {w : Nat} {a s : State} (h : Frame w a s) (k : Sub 0x69880000000000180 w) : ∀ x1 x2, Frame w a (State.txWalk s x1 x2).2 := by
  intro x1 x2
  unfold State.txWalk; try dsimp only
  repeat' first
    | with_reducible assumption
    | with_reducible apply Frame.reportFault
    | with_reducible apply Frame.put
    | with_reducible apply Frame.flag
    | with_reducible refine Frame.foldl ?_ (fun _ _ _ => ?_)
    | with_reducible refine Frame.foldl2 ?_ (fun _ _ _ => ?_)
    | with_reducible apply Frame.ite
    | with_reducible apply Frame.ite2
    | split
    | exact Sub.trans (by decide) k
    | exact RegOk.page k (by decide)
    | exact PageOk.page k (by decide)

theorem Frame.blank {w : Nat} {a s : State} (h : Frame w a s) (k : Sub 0x105B400000000101BD w) : Frame w a (State.blank s) := by
  unfold State.blank; try dsimp only
  repeat' first
    | with_reducible assumption
    | with_reducible apply Frame.loseFrame
    | with_reducible apply Frame.whiffEnd
    | with_reducible apply Frame.put
    | with_reducible apply Frame.record
    | with_reducible refine Frame.foldl ?_ (fun _ _ _ => ?_)
    | with_reducible refine Frame.foldl2 ?_ (fun _ _ _ => ?_)
    | with_reducible apply Frame.ite
    | split
    | exact Sub.trans (by decide) k
    | exact RegOk.page k (by decide)

theorem Frame.txStat {w : Nat} {a s : State} (h : Frame w a s) (k : Sub 0x80000000000000 w) : ∀ x1 x2 x3 x4, Frame w a (State.txStat s x1 x2 x3 x4) := by
  intro x1 x2 x3 x4
  unfold State.txStat; try dsimp only
  repeat' first
    | with_reducible assumption
    | with_reducible apply Frame.put
    | with_reducible apply Frame.putInt
    | with_reducible apply Frame.flag
    | with_reducible apply Frame.ite
    | exact RegOk.page k (by decide)
    | exact PageOk.page k (by decide)

theorem Frame.antTx {w : Nat} {a s : State} (h : Frame w a s) (k : Sub 0x4 w) : ∀ x1, Frame w a (State.antTx s x1) := by
  intro x1
  unfold State.antTx; try dsimp only
  repeat' first
    | with_reducible assumption
    | with_reducible apply Frame.setAnt
    | with_reducible apply Frame.ite
    | exact Sub.trans (by decide) k

theorem Frame.txGo {w : Nat} {a s : State} (h : Frame w a s) (k : Sub 0x107FC00004000101BD w) : ∀ x1 x2 x3 x4 x5 x6, Frame w a (State.txGo s x1 x2 x3 x4 x5 x6) := by
  intro x1 x2 x3 x4 x5 x6
  unfold State.txGo; try dsimp only
  repeat' first
    | with_reducible assumption
    | with_reducible apply Frame.rxStop
    | with_reducible apply Frame.blank
    | with_reducible apply Frame.txStat
    | with_reducible apply Frame.antTx
    | with_reducible apply Frame.driveOf
    | with_reducible apply Frame.enterState
    | with_reducible apply Frame.crsReserve
    | with_reducible apply Frame.freeVal
    | with_reducible apply Frame.setRadio
    | with_reducible apply Frame.setPageSt
    | with_reducible apply Frame.ite
    | split
    | refine Frame.of2 (by with_reducible assumption) ?_
    | refine Frame.of3 (by with_reducible assumption) ?_
    | with_reducible apply Frame.upd
    | with_reducible rfl
    | with_reducible exact OtpKept.refl _
    | with_reducible exact Or.inr rfl
    | exact Or.inl (k.bit (by decide))
    | exact Sub.trans (by decide) k
    | exact PageOk.page k (by decide)

theorem Frame.txProfile {w : Nat} {a s : State} (h : Frame w a s) (k : Sub 0x61880000000000180 w) : ∀ x1, Frame w a (State.txProfile s x1).2 := by
  intro x1
  unfold State.txProfile; try dsimp only
  repeat' first
    | with_reducible assumption
    | with_reducible apply Frame.profileFault
    | with_reducible apply Frame.put
    | with_reducible apply Frame.flag
    | with_reducible apply Frame.ite
    | with_reducible apply Frame.ite2
    | exact Sub.trans (by decide) k
    | exact RegOk.page k (by decide)
    | exact PageOk.page k (by decide)

theorem Frame.txOpChain {w : Nat} {a s : State} (h : Frame w a s) (k : Sub 0x167FD00004000101BF w) : ∀ x1 x2 x3 x4 x5 x6 x7 x8, Frame w a (State.txOpChain s x1 x2 x3 x4 x5 x6 x7 x8) := by
  intro x1 x2 x3 x4 x5 x6 x7 x8
  unfold State.txOpChain; try dsimp only
  repeat' first
    | with_reducible assumption
    | with_reducible apply Frame.giveAll
    | with_reducible apply Frame.txGo
    | with_reducible apply Frame.txNotSent
    | with_reducible apply Frame.opFrame
    | with_reducible apply Frame.ite
    | split
    | refine Frame.of2 (by with_reducible assumption) ?_
    | with_reducible apply Frame.upd
    | with_reducible rfl
    | with_reducible exact OtpKept.refl _
    | with_reducible exact Or.inr rfl
    | exact Or.inl (k.bit (by decide))
    | exact Sub.trans (by decide) k

theorem Frame.txOpSend {w : Nat} {a s : State} (h : Frame w a s) (k : Sub 0x16FFD00004000101BF w) : ∀ x1 x2 x3 x4 x5 x6, Frame w a (State.txOpSend s x1 x2 x3 x4 x5 x6) := by
  intro x1 x2 x3 x4 x5 x6
  unfold State.txOpSend; try dsimp only
  repeat' first
    | with_reducible assumption
    | with_reducible apply Frame.txOpChain
    | with_reducible apply Frame.txProfile
    | with_reducible apply Frame.txWalk
    | with_reducible apply Frame.txNotSent
    | with_reducible apply Frame.ite
    | split
    | refine Frame.of2 (by with_reducible assumption) ?_
    | exact Sub.trans (by decide) k

theorem Frame.txOpStart {w : Nat} {a s : State} (h : Frame w a s) (k : Sub 0x16FFD00004000101BF w) : ∀ x1, Frame w a (State.txOpStart s x1) := by
  intro x1
  unfold State.txOpStart; try dsimp only
  repeat' first
    | with_reducible assumption
    | with_reducible apply Frame.rcpSample
    | with_reducible apply Frame.setReg
    | with_reducible apply Frame.txOpSend
    | with_reducible apply Frame.put
    | with_reducible apply Frame.flag
    | with_reducible apply Frame.txNotSent
    | with_reducible apply Frame.calDueCheck
    | with_reducible apply Frame.ite
    | split
    | exact Sub.trans (by decide) k
    | exact RegOk.page k (by decide)
    | exact PageOk.page k (by decide)

theorem Frame.ackFrame {w : Nat} {a s : State} (h : Frame w a s) (k : Sub 0x10000 w) : ∀ x1, Frame w a (State.ackFrame s x1).2 := by
  intro x1
  unfold State.ackFrame; try dsimp only
  repeat' first
    | with_reducible assumption
    | with_reducible apply Frame.cslFill
    | split
    | refine Frame.of2 (by with_reducible assumption) ?_
    | exact Sub.trans (by decide) k

theorem Frame.rxOpEnds {w : Nat} {a s : State} (h : Frame w a s) (k : Sub 0x10420000000001018D w) : Frame w a (State.rxOpEnds s).1 := by
  unfold State.rxOpEnds; try dsimp only
  repeat' first
    | with_reducible assumption
    | with_reducible apply Frame.endSrc
    | with_reducible apply Frame.setRadio
    | split
    | with_reducible apply Frame.upd
    | with_reducible rfl
    | with_reducible exact OtpKept.refl _
    | with_reducible exact Or.inr rfl
    | exact Or.inl (k.bit (by decide))
    | exact Sub.trans (by decide) k

theorem Frame.ackNotSent {w : Nat} {a s : State} (h : Frame w a s) (k : Sub 0x107FC00000000101BD w) : ∀ x1, Frame w a (State.ackNotSent s x1) := by
  intro x1
  unfold State.ackNotSent; try dsimp only
  repeat' first
    | with_reducible assumption
    | with_reducible apply Frame.crsRelease
    | with_reducible apply Frame.ackFailed
    | with_reducible apply Frame.opExit
    | with_reducible apply Frame.rxOpEnds
    | with_reducible apply Frame.setRadio
    | with_reducible apply Frame.abortNow
    | split
    | refine Frame.of1 (by with_reducible assumption) ?_
    | with_reducible apply Frame.upd
    | with_reducible rfl
    | with_reducible exact OtpKept.refl _
    | with_reducible exact Or.inr rfl
    | exact Or.inl (k.bit (by decide))
    | exact Sub.trans (by decide) k

theorem Frame.ackSend {w : Nat} {a s : State} (h : Frame w a s) (k : Sub 0x167FC00004000101BD w) : ∀ x1 x2 x3 x4 x5 x6 x7, Frame w a (State.ackSend s x1 x2 x3 x4 x5 x6 x7) := by
  intro x1 x2 x3 x4 x5 x6 x7
  unfold State.ackSend; try dsimp only
  repeat' first
    | with_reducible assumption
    | with_reducible apply Frame.txProfile
    | with_reducible apply Frame.txGo
    | with_reducible apply Frame.ackFrame
    | with_reducible apply Frame.ackNotSent
    | with_reducible apply Frame.setRadio
    | with_reducible apply Frame.ite
    | split
    | refine Frame.of2 (by with_reducible assumption) ?_
    | with_reducible apply Frame.upd
    | with_reducible rfl
    | with_reducible exact OtpKept.refl _
    | with_reducible exact Or.inr rfl
    | exact Or.inl (k.bit (by decide))
    | exact Sub.trans (by decide) k

theorem Frame.txAckStart {w : Nat} {a s : State} (h : Frame w a s) (k : Sub 0x167FC00004000101BD w) : ∀ x1 x2, Frame w a (State.txAckStart s x1 x2) := by
  intro x1 x2
  unfold State.txAckStart; try dsimp only
  repeat' first
    | with_reducible assumption
    | with_reducible apply Frame.rcpSample
    | with_reducible apply Frame.ackSend
    | with_reducible apply Frame.setReg
    | with_reducible apply Frame.put
    | with_reducible apply Frame.ackNotSent
    | with_reducible apply Frame.flag
    | with_reducible apply Frame.calDueCheck
    | with_reducible apply Frame.ite
    | split
    | exact Sub.trans (by decide) k
    | exact RegOk.page k (by decide)
    | exact PageOk.page k (by decide)

theorem Frame.chainDone {w : Nat} {a s : State} (h : Frame w a s) (k : Sub 0x4000000000000098 w) : ∀ x1 x2, Frame w a (State.chainDone s x1 x2) := by
  intro x1 x2
  unfold State.chainDone; try dsimp only
  repeat' first
    | with_reducible assumption
    | with_reducible apply Frame.giveAll
    | with_reducible apply Frame.event
    | with_reducible apply Frame.freeAll
    | with_reducible apply Frame.ite
    | exact Sub.trans (by decide) k

theorem Frame.txExit {w : Nat} {a s : State} (h : Frame w a s) (k : Sub 0x3F40000400010185 w) : ∀ x1 x2 x3, Frame w a (State.txExit s x1 x2 x3) := by
  intro x1 x2 x3
  unfold State.txExit; try dsimp only
  repeat' first
    | with_reducible assumption
    | with_reducible apply Frame.rxStop
    | with_reducible apply Frame.moveTo
    | with_reducible apply Frame.releaseAll
    | with_reducible apply Frame.rxStart
    | with_reducible apply Frame.enterState
    | with_reducible apply Frame.crsStop
    | with_reducible apply Frame.put
    | with_reducible apply Frame.unblank
    | with_reducible apply Frame.setRadio
    | with_reducible apply Frame.antQuiet
    | with_reducible apply Frame.exitRx
    | with_reducible apply Frame.ite
    | split
    | with_reducible apply Frame.upd
    | with_reducible rfl
    | with_reducible exact OtpKept.refl _
    | with_reducible exact Or.inr rfl
    | exact Or.inl (k.bit (by decide))
    | exact Sub.trans (by decide) k
    | exact RegOk.page k (by decide)

theorem Frame.txEnd {w : Nat} {a s : State} (h : Frame w a s) (k : Sub 0x107F4000040001019D w) : ∀ x1, Frame w a (State.txEnd s x1) := by
  intro x1
  unfold State.txEnd; try dsimp only
  repeat' first
    | with_reducible assumption
    | with_reducible apply Frame.rxStop
    | with_reducible apply Frame.chainDone
    | with_reducible apply Frame.moveTo
    | with_reducible apply Frame.endSrc
    | with_reducible apply Frame.txExit
    | with_reducible apply Frame.enterState
    | with_reducible apply Frame.rxOpEnds
    | with_reducible apply Frame.unblank
    | with_reducible apply Frame.finishMove
    | with_reducible apply Frame.setRadio
    | with_reducible apply Frame.antQuiet
    | with_reducible apply Frame.ite
    | split
    | refine Frame.of1 (by with_reducible assumption) ?_
    | with_reducible apply Frame.upd
    | with_reducible rfl
    | with_reducible exact OtpKept.refl _
    | with_reducible exact Or.inr rfl
    | exact Or.inl (k.bit (by decide))
    | exact Sub.trans (by decide) k

theorem Frame.detector {w : Nat} {a s : State} (h : Frame w a s) (k : Sub 0x61880000000010180 w) : ∀ x1 x2, Frame w a (State.detector s x1 x2) := by
  intro x1 x2
  unfold State.detector; try dsimp only
  repeat' first
    | with_reducible assumption
    | with_reducible apply Frame.reportFault
    | with_reducible apply Frame.putInt
    | with_reducible apply Frame.freeVal
    | with_reducible apply Frame.flag
    | with_reducible apply Frame.ite
    | split
    | refine Frame.of2 (by with_reducible assumption) ?_
    | exact Sub.trans (by decide) k
    | exact RegOk.page k (by decide)
    | exact PageOk.page k (by decide)
    | (unfold State.loopOfs; split; exact RegOk.page k (by decide); split <;> exact RegOk.page k (by decide))

theorem Frame.sequenceStart {w : Nat} {a s : State} (h : Frame w a s) (k : Sub 0x16FFD00004000101BF w) : Frame w a (State.sequenceStart s) := by
  unfold State.sequenceStart; try dsimp only
  repeat' first
    | with_reducible assumption
    | with_reducible apply Frame.txOpStart
    | with_reducible apply Frame.txAckStart
    | with_reducible apply Frame.ite
    | split
    | exact Sub.trans (by decide) k

theorem Frame.execTxSequenceStart {w : Nat} {a s : State} (h : Frame w a s) (k : Sub 0x116FFD00004000101BF w) : ∀ x0, FrameAll w a (Machine.execTxSequenceStart x0 s) := by
  intro x0
  unfold Machine.execTxSequenceStart; try dsimp only
  repeat' first
    | with_reducible assumption
    | with_reducible apply Frame.roundNow
    | with_reducible apply Frame.sequenceStart
    | with_reducible apply FrameAll.next
    | exact Sub.trans (by decide) k

theorem Frame.execRampUpStart {w : Nat} {a s : State} (h : Frame w a s) (k : Sub 0x4 w) : FrameAll w a (Machine.execRampUpStart s) := by
  unfold Machine.execRampUpStart; try dsimp only
  repeat' first
    | with_reducible assumption
    | with_reducible apply Frame.setRadio
    | with_reducible apply Frame.ite
    | with_reducible apply FrameAll.ite
    | with_reducible apply FrameAll.next
    | split
    | with_reducible apply Frame.upd
    | with_reducible rfl
    | with_reducible exact OtpKept.refl _
    | with_reducible exact Or.inr rfl
    | exact Or.inl (k.bit (by decide))
    | exact Sub.trans (by decide) k

theorem Frame.execOnAir {w : Nat} {a s : State} (h : Frame w a s) (k : Sub 0x165B8000000001019D w) : FrameAll w a (Machine.execOnAir s) := by
  unfold Machine.execOnAir; try dsimp only
  repeat' first
    | with_reducible assumption
    | with_reducible apply Frame.event
    | with_reducible apply Frame.txFail
    | with_reducible apply Frame.setRadio
    | with_reducible apply Frame.setPageSt
    | with_reducible apply Frame.faultRange
    | with_reducible apply Frame.ite
    | with_reducible apply FrameAll.ite
    | with_reducible apply FrameAll.next
    | split
    | with_reducible apply Frame.upd
    | with_reducible rfl
    | with_reducible exact OtpKept.refl _
    | with_reducible exact Or.inr rfl
    | exact Or.inl (k.bit (by decide))
    | exact Sub.trans (by decide) k
    | exact PageOk.page k (by decide)

theorem Frame.frameSent {w : Nat} {a s : State} (h : Frame w a s) (k : Sub 0x165BC00000000101BD w) : ∀ x1 x2, Frame w a (State.frameSent s x1 x2) := by
  intro x1 x2
  unfold State.frameSent; try dsimp only
  repeat' first
    | with_reducible assumption
    | with_reducible apply Frame.detector
    | with_reducible apply Frame.event
    | with_reducible refine Frame.optDo ?_ (fun _ => ?_)
    | with_reducible apply Frame.setRadio
    | with_reducible apply Frame.abortNow
    | with_reducible apply Frame.ctxFree
    | with_reducible apply Frame.setRecFlag
    | split
    | with_reducible apply Frame.upd
    | with_reducible rfl
    | with_reducible exact OtpKept.refl _
    | with_reducible exact Or.inr rfl
    | exact Or.inl (k.bit (by decide))
    | exact Sub.trans (by decide) k

theorem Frame.execFrameTxEnd {w : Nat} {a s : State} (h : Frame w a s) (k : Sub 0x165BC00000000101BD w) : ∀ x0, FrameAll w a (Machine.execFrameTxEnd x0 s) := by
  intro x0
  unfold Machine.execFrameTxEnd; try dsimp only
  repeat' first
    | with_reducible assumption
    | with_reducible apply Frame.exitBegins
    | with_reducible apply Frame.event
    | with_reducible apply Frame.frameSent
    | with_reducible apply Frame.setRadio
    | with_reducible apply Frame.setPageSt
    | with_reducible apply Frame.ite
    | with_reducible apply FrameAll.ite
    | with_reducible apply FrameAll.next
    | split
    | with_reducible apply Frame.upd
    | with_reducible rfl
    | with_reducible exact OtpKept.refl _
    | with_reducible exact Or.inr rfl
    | exact Or.inl (k.bit (by decide))
    | exact Sub.trans (by decide) k
    | exact PageOk.page k (by decide)

theorem Frame.execRampDownEnd {w : Nat} {a s : State} (h : Frame w a s) (k : Sub 0x107FC000040001019D w) : FrameAll w a (Machine.execRampDownEnd s) := by
  unfold Machine.execRampDownEnd; try dsimp only
  repeat' first
    | with_reducible assumption
    | with_reducible apply Frame.crsRelease
    | with_reducible apply Frame.setRadio
    | with_reducible apply Frame.setPageSt
    | with_reducible apply Frame.txEnd
    | with_reducible apply Frame.ite
    | with_reducible apply FrameAll.ite
    | with_reducible apply FrameAll.next
    | split
    | with_reducible apply Frame.upd
    | with_reducible rfl
    | with_reducible exact OtpKept.refl _
    | with_reducible exact Or.inr rfl
    | exact Or.inl (k.bit (by decide))
    | exact Sub.trans (by decide) k
    | exact PageOk.page k (by decide)

theorem Frame.execAntSelExit {w : Nat} {a s : State} (h : Frame w a s) (k : Sub 0x107F4000040001019D w) : FrameAll w a (Machine.execAntSelExit s) := by
  unfold Machine.execAntSelExit; try dsimp only
  repeat' first
    | with_reducible assumption
    | with_reducible apply Frame.txEnd
    | with_reducible apply Frame.ite
    | with_reducible apply FrameAll.ite
    | with_reducible apply FrameAll.next
    | split
    | exact Sub.trans (by decide) k

theorem Frame.execTurnRoundRxRelease {w : Nat} {a s : State} (h : Frame w a s) (k : Sub 0x10420000040001018D w) : FrameAll w a (Machine.execTurnRoundRxRelease s) := by
  unfold Machine.execTurnRoundRxRelease; try dsimp only
  repeat' first
    | with_reducible assumption
    | with_reducible apply Frame.enterState
    | with_reducible apply Frame.unblank
    | with_reducible apply Frame.finishMove
    | with_reducible apply Frame.setRadio
    | with_reducible apply Frame.ite
    | with_reducible apply FrameAll.ite
    | with_reducible apply FrameAll.next
    | with_reducible apply Frame.upd
    | with_reducible rfl
    | with_reducible exact OtpKept.refl _
    | with_reducible exact Or.inr rfl
    | exact Or.inl (k.bit (by decide))
    | exact Sub.trans (by decide) k

theorem Frame.execUnderrun {w : Nat} {a s : State} (h : Frame w a s) (k : Sub 0x10438000000001019D w) : FrameAll w a (Machine.execUnderrun s) := by
  unfold Machine.execUnderrun; try dsimp only
  repeat' first
    | with_reducible assumption
    | with_reducible apply Frame.txFail
    | with_reducible apply Frame.put
    | with_reducible apply Frame.flag
    | with_reducible apply Frame.ite
    | with_reducible apply FrameAll.ite
    | with_reducible apply FrameAll.next
    | split
    | exact Sub.trans (by decide) k
    | exact RegOk.page k (by decide)
    | exact PageOk.page k (by decide)

theorem Frame.execAckFail {w : Nat} {a s : State} (h : Frame w a s) (k : Sub 0x107FC00000000101BD w) : ∀ x0, FrameAll w a (Machine.execAckFail x0 s) := by
  intro x0
  unfold Machine.execAckFail; try dsimp only
  repeat' first
    | with_reducible assumption
    | with_reducible apply Frame.txFail
    | with_reducible apply Frame.put
    | with_reducible apply Frame.ackNotSent
    | with_reducible apply Frame.flag
    | with_reducible apply Frame.ite
    | with_reducible apply FrameAll.ite
    | with_reducible apply FrameAll.next
    | split
    | exact Sub.trans (by decide) k
    | exact RegOk.page k (by decide)
    | exact PageOk.page k (by decide)

theorem Frame.execIlim {w : Nat} {a s : State} (h : Frame w a s) (k : Sub 0x80000000000004 w) : FrameAll w a (Machine.execIlim s) := by
  unfold Machine.execIlim; try dsimp only
  repeat' first
    | with_reducible assumption
    | with_reducible apply Frame.put
    | with_reducible apply Frame.flag
    | with_reducible apply Frame.setRadio
    | with_reducible apply Frame.ite
    | with_reducible apply FrameAll.ite
    | with_reducible apply FrameAll.next
    | split
    | with_reducible apply Frame.upd
    | with_reducible rfl
    | with_reducible exact OtpKept.refl _
    | with_reducible exact Or.inr rfl
    | exact Or.inl (k.bit (by decide))
    | exact Sub.trans (by decide) k
    | exact RegOk.page k (by decide)
    | exact PageOk.page k (by decide)

theorem Frame.execCcaWindowEnd {w : Nat} {a s : State} (h : Frame w a s) (k : Sub 0x107F400000000101BD w) : ∀ x0 x1, FrameAll w a (Machine.execCcaWindowEnd x0 x1 s) := by
  intro x0 x1
  unfold Machine.execCcaWindowEnd; try dsimp only
  repeat' first
    | with_reducible assumption
    | with_reducible apply Frame.notBeforeT0
    | with_reducible apply Frame.squashOverlaps
    | with_reducible apply Frame.put
    | with_reducible apply Frame.putInt
    | with_reducible apply Frame.freeVal
    | with_reducible apply Frame.setRadio
    | with_reducible apply Frame.countSat
    | with_reducible apply Frame.txNotSent
    | with_reducible apply Frame.ite
    | with_reducible apply FrameAll.ite
    | with_reducible apply FrameAll.next
    | split
    | refine Frame.of2 (by with_reducible assumption) ?_
    | with_reducible apply Frame.upd
    | with_reducible rfl
    | with_reducible exact OtpKept.refl _
    | with_reducible exact Or.inr rfl
    | exact Or.inl (k.bit (by decide))
    | exact Sub.trans (by decide) k
    | exact RegOk.page k (by decide)

theorem Frame.putFrame {w : Nat} {a s : State} (h : Frame w a s) (k : Sub 0x4 w) : ∀ x1 x2, Frame w a (State.putFrame s x1 x2) := by
  intro x1 x2
  unfold State.putFrame; try dsimp only
  repeat' first
    | with_reducible assumption
    | with_reducible apply Frame.setSlot
    | with_reducible apply Frame.upd
    | with_reducible rfl
    | with_reducible exact OtpKept.refl _
    | with_reducible exact Or.inr rfl
    | exact Or.inl (k.bit (by decide))
    | exact Sub.trans (by decide) k

theorem Frame.rxOver {w : Nat} {a s : State} (h : Frame w a s) (k : Sub 0x107F400000000101BD w) : ∀ x1, Frame w a (State.rxOver s x1) := by
  intro x1
  unfold State.rxOver; try dsimp only
  repeat' first
    | with_reducible assumption
    | with_reducible apply Frame.endSrc
    | with_reducible apply Frame.opExit
    | with_reducible apply Frame.setRadio
    | with_reducible apply Frame.ite
    | split
    | with_reducible apply Frame.upd
    | with_reducible rfl
    | with_reducible exact OtpKept.refl _
    | with_reducible exact Or.inr rfl
    | exact Or.inl (k.bit (by decide))
    | exact Sub.trans (by decide) k

theorem Frame.windowCheck {w : Nat} {a s : State} (h : Frame w a s) (k : Sub 0x107F400000000101BD w) : Frame w a (State.windowCheck s) := by
  unfold State.windowCheck; try dsimp only
  repeat' first
    | with_reducible assumption
    | with_reducible apply Frame.rxOver
    | with_reducible apply Frame.ite
    | exact Sub.trans (by decide) k

theorem Frame.toSearch {w : Nat} {a s : State} (h : Frame w a s) (k : Sub 0x107F400000000101BD w) : ∀ x1, Frame w a (State.toSearch s x1) := by
  intro x1
  unfold State.toSearch; try dsimp only
  repeat' first
    | with_reducible assumption
    | with_reducible apply Frame.setSlot
    | with_reducible apply Frame.windowCheck
    | with_reducible apply Frame.freeAll
    | with_reducible apply Frame.freshCopy
    | split
    | with_reducible apply Frame.upd
    | with_reducible rfl
    | with_reducible exact OtpKept.refl _
    | with_reducible exact Or.inr rfl
    | exact Or.inl (k.bit (by decide))
    | exact Sub.trans (by decide) k

theorem Frame.singleRxEnds {w : Nat} {a s : State} (h : Frame w a s) (k : Sub 0x107F400000000101BD w) : ∀ x1, Frame w a (State.singleRxEnds s x1) := by
  intro x1
  unfold State.singleRxEnds; try dsimp only
  repeat' first
    | with_reducible assumption
    | with_reducible apply Frame.rxOver
    | with_reducible apply Frame.ite
    | split
    | exact Sub.trans (by decide) k

theorem Frame.loseAndEnd {w : Nat} {a s : State} (h : Frame w a s) (k : Sub 0x107F400000000101BD w) : ∀ x1 x2, Frame w a (State.loseAndEnd s x1 x2) := by
  intro x1 x2
  unfold State.loseAndEnd; try dsimp only
  repeat' first
    | with_reducible assumption
    | with_reducible apply Frame.singleRxEnds
    | with_reducible apply Frame.loseFrame
    | with_reducible apply Frame.setRadio
    | with_reducible apply Frame.windowCheck
    | with_reducible apply Frame.upd
    | with_reducible rfl
    | with_reducible exact OtpKept.refl _
    | with_reducible exact Or.inr rfl
    | exact Or.inl (k.bit (by decide))
    | exact Sub.trans (by decide) k

theorem Frame.growFrame {w : Nat} {a s : State} (h : Frame w a s) (k : Sub 0x8000000000010014 w) : ∀ x1 x2 x3 x t, State.growFrame s x1 x2 x3 = some (x, t) → Frame w a t := by
  intro x1 x2 x3 x t e
  unfold State.growFrame at e; try dsimp only at e
  repeat' first
    | with_reducible assumption
    | (with_reducible contradiction)
    | with_reducible refine Frame.ofSome e ?_
    | (split at e)
    | with_reducible apply Frame.putFrame
    | refine Frame.takeBlocks ?_ ?_ _ _ _ _ (by with_reducible assumption)
    | split
    | with_reducible apply Frame.upd
    | with_reducible rfl
    | with_reducible exact OtpKept.refl _
    | with_reducible exact Or.inr rfl
    | exact Or.inl (k.bit (by decide))
    | exact Sub.trans (by decide) k

theorem Frame.syncFound {w : Nat} {a s : State} (h : Frame w a s) (k : Sub 0x10FF400000000101BD w) : ∀ x1 x2 x3 x4 x5 x6, Frame w a (State.syncFound s x1 x2 x3 x4 x5 x6) := by
  intro x1 x2 x3 x4 x5 x6
  unfold State.syncFound; try dsimp only
  repeat' first
    | with_reducible assumption
    | with_reducible apply Frame.putFrame
    | with_reducible apply Frame.loseAndEnd
    | with_reducible apply Frame.setRadio
    | refine Frame.takeBlocks ?_ ?_ _ _ _ _ (by with_reducible assumption)
    | split
    | with_reducible apply Frame.upd
    | with_reducible rfl
    | with_reducible exact OtpKept.refl _
    | with_reducible exact Or.inr rfl
    | exact Or.inl (k.bit (by decide))
    | exact Sub.trans (by decide) k

theorem Frame.headerOk {w : Nat} {a s : State} (h : Frame w a s) (k : Sub 0x800000000000004 w) : ∀ x1 x2 x3 x4 x5, Frame w a (State.headerOk s x1 x2 x3 x4 x5) := by
  intro x1 x2 x3 x4 x5
  unfold State.headerOk; try dsimp only
  repeat' first
    | with_reducible assumption
    | with_reducible apply Frame.putFrame
    | with_reducible apply Frame.flag
    | with_reducible apply Frame.ite
    | exact Sub.trans (by decide) k
    | exact PageOk.page k (by decide)

theorem Frame.rxRequest {w : Nat} {a s : State} (h : Frame w a s) (k : Sub 0x8 w) : ∀ x1 x2 x3 x4 x5, Frame w a (State.rxRequest s x1 x2 x3 x4 x5) := by
  intro x1 x2 x3 x4 x5
  unfold State.rxRequest; try dsimp only
  repeat' first
    | with_reducible assumption
    | with_reducible apply Frame.upd
    | with_reducible rfl
    | with_reducible exact OtpKept.refl _
    | with_reducible exact Or.inr rfl
    | exact Or.inl (k.bit (by decide))

theorem Frame.arbMiss {w : Nat} {a s : State} (h : Frame w a s) (k : Sub 0x1043800000000101BD w) : ∀ x1, Frame w a (State.arbMiss s x1) := by
  intro x1
  unfold State.arbMiss; try dsimp only
  repeat' first
    | with_reducible assumption
    | with_reducible apply Frame.onFrame
    | with_reducible apply Frame.txFail
    | with_reducible apply Frame.recTrigger
    | with_reducible apply Frame.put
    | with_reducible apply Frame.flag
    | with_reducible apply Frame.squashCtx
    | with_reducible apply Frame.countSat
    | with_reducible apply Frame.ite
    | split
    | with_reducible apply Frame.upd
    | with_reducible rfl
    | with_reducible exact OtpKept.refl _
    | with_reducible exact Or.inr rfl
    | exact Or.inl (k.bit (by decide))
    | exact Sub.trans (by decide) k
    | exact RegOk.page k (by decide)
    | exact PageOk.page k (by decide)

theorem Frame.serveNext {w : Nat} {a s : State} (h : Frame w a s) (k : Sub 0x1043800000000101BD w) : ∀ x1 x t, State.serveNext s x1 = some (x, t) → Frame w a t := by
  intro x1 x t e
  unfold State.serveNext at e; try dsimp only at e
  repeat' first
    | with_reducible assumption
    | (with_reducible contradiction)
    | with_reducible refine Frame.ofSome e ?_
    | (split at e)
    | with_reducible apply Frame.arbMiss
    | with_reducible apply Frame.ite
    | split
    | with_reducible apply Frame.upd
    | with_reducible rfl
    | with_reducible exact OtpKept.refl _
    | with_reducible exact Or.inr rfl
    | exact Or.inl (k.bit (by decide))
    | exact Sub.trans (by decide) k

theorem Frame.softOverflow {w : Nat} {a s : State} (h : Frame w a s) (k : Sub 0x167FC00000000101BD w) : ∀ x1, Frame w a (State.softOverflow s x1) := by
  intro x1
  unfold State.softOverflow; try dsimp only
  repeat' first
    | with_reducible assumption
    | with_reducible apply Frame.reportFault
    | with_reducible apply Frame.loseAndEnd
    | with_reducible apply Frame.flag
    | with_reducible apply Frame.countSat
    | with_reducible apply Frame.upd
    | with_reducible rfl
    | with_reducible exact OtpKept.refl _
    | with_reducible exact Or.inr rfl
    | exact Or.inl (k.bit (by decide))
    | exact Sub.trans (by decide) k
    | exact RegOk.page k (by decide)
    | exact PageOk.page k (by decide)

theorem Frame.recordLookup {w : Nat} {a s : State} (h : Frame w a s) (k : Sub 0x10101 w) : ∀ x1 x2, Frame w a (State.recordLookup s x1 x2) := by
  intro x1 x2
  unfold State.recordLookup; try dsimp only
  repeat' first
    | with_reducible assumption
    | with_reducible apply Frame.recordUnit
    | split
    | exact Sub.trans (by decide) k

theorem Frame.execPreambleDetect {w : Nat} {a s : State} (h : Frame w a s) (k : Sub 0x4 w) : ∀ x0 x1, FrameAll w a (Machine.execPreambleDetect x0 x1 s) := by
  intro x0 x1
  unfold Machine.execPreambleDetect; try dsimp only
  repeat' first
    | with_reducible assumption
    | with_reducible apply Frame.putFrame
    | with_reducible apply Frame.ite
    | with_reducible apply FrameAll.ite
    | with_reducible apply FrameAll.next
    | exact Sub.trans (by decide) k

theorem Frame.execSyncMatch {w : Nat} {a s : State} (h : Frame w a s) (k : Sub 0x10FF400000000101BD w) : ∀ x0 x1 x2 x3 x4, FrameAll w a (Machine.execSyncMatch x0 x1 x2 x3 x4 s) := by
  intro x0 x1 x2 x3 x4
  unfold Machine.execSyncMatch; try dsimp only
  repeat' first
    | with_reducible assumption
    | with_reducible apply Frame.syncFound
    | with_reducible apply Frame.ite
    | with_reducible apply FrameAll.ite
    | with_reducible apply FrameAll.next
    | split
    | exact Sub.trans (by decide) k

theorem Frame.execSyncSearchTimeout {w : Nat} {a s : State} (h : Frame w a s) (k : Sub 0x107F400000000101BD w) : ∀ x0, FrameAll w a (Machine.execSyncSearchTimeout x0 s) := by
  intro x0
  unfold Machine.execSyncSearchTimeout; try dsimp only
  repeat' first
    | with_reducible assumption
    | with_reducible apply Frame.toSearch
    | with_reducible apply Frame.ite
    | with_reducible apply FrameAll.ite
    | with_reducible apply FrameAll.next
    | split
    | exact Sub.trans (by decide) k

theorem Frame.execHeaderCheck {w : Nat} {a s : State} (h : Frame w a s) (k : Sub 0x107F400000000101BD w) : ∀ x0 x1, FrameAll w a (Machine.execHeaderCheck x0 x1 s) := by
  intro x0 x1
  unfold Machine.execHeaderCheck; try dsimp only
  repeat' first
    | with_reducible assumption
    | with_reducible apply Frame.headerOk
    | with_reducible apply Frame.toSearch
    | with_reducible apply Frame.countSat
    | with_reducible apply Frame.ite
    | with_reducible apply FrameAll.ite
    | with_reducible apply FrameAll.next
    | split
    | exact Sub.trans (by decide) k
    | exact RegOk.page k (by decide)

theorem Frame.execStfDetect {w : Nat} {a s : State} (h : Frame w a s) (k : Sub 0x4 w) : ∀ x0 x1, FrameAll w a (Machine.execStfDetect x0 x1 s) := by
  intro x0 x1
  unfold Machine.execStfDetect; try dsimp only
  repeat' first
    | with_reducible assumption
    | with_reducible apply Frame.putFrame
    | with_reducible apply Frame.ite
    | with_reducible apply FrameAll.ite
    | with_reducible apply FrameAll.next
    | exact Sub.trans (by decide) k

theorem Frame.execLtfEnd {w : Nat} {a s : State} (h : Frame w a s) (k : Sub 0x10FF400000000101BD w) : ∀ x0 x1 x2, FrameAll w a (Machine.execLtfEnd x0 x1 x2 s) := by
  intro x0 x1 x2
  unfold Machine.execLtfEnd; try dsimp only
  repeat' first
    | with_reducible assumption
    | with_reducible apply Frame.syncFound
    | with_reducible apply Frame.ite
    | with_reducible apply FrameAll.ite
    | with_reducible apply FrameAll.next
    | split
    | exact Sub.trans (by decide) k

theorem Frame.execFaoHeaderCheck {w : Nat} {a s : State} (h : Frame w a s) (k : Sub 0x167FC00000000101BD w) : ∀ x0 x1, FrameAll w a (Machine.execFaoHeaderCheck x0 x1 s) := by
  intro x0 x1
  unfold Machine.execFaoHeaderCheck; try dsimp only
  repeat' first
    | with_reducible assumption
    | with_reducible apply Frame.profileFault
    | with_reducible apply Frame.headerOk
    | with_reducible apply Frame.recordUnit
    | with_reducible apply Frame.toSearch
    | with_reducible apply Frame.flag
    | with_reducible apply Frame.countSat
    | with_reducible apply Frame.ite
    | with_reducible apply FrameAll.ite
    | with_reducible apply FrameAll.next
    | split
    | exact Sub.trans (by decide) k
    | exact RegOk.page k (by decide)
    | exact PageOk.page k (by decide)

theorem Frame.execCaptureSwitch {w : Nat} {a s : State} (h : Frame w a s) (k : Sub 0x105B000000000101BD w) : ∀ x0 x1, FrameAll w a (Machine.execCaptureSwitch x0 x1 s) := by
  intro x0 x1
  unfold Machine.execCaptureSwitch; try dsimp only
  repeat' first
    | with_reducible assumption
    | with_reducible apply Frame.setSlot
    | with_reducible apply Frame.loseFrame
    | with_reducible apply Frame.putFrame
    | with_reducible apply Frame.freeAll
    | with_reducible apply Frame.countSat
    | with_reducible apply Frame.ite
    | with_reducible apply FrameAll.ite
    | with_reducible apply FrameAll.next
    | split
    | with_reducible apply Frame.upd
    | with_reducible rfl
    | with_reducible exact OtpKept.refl _
    | with_reducible exact Or.inr rfl
    | exact Or.inl (k.bit (by decide))
    | exact Sub.trans (by decide) k
    | exact RegOk.page k (by decide)

theorem Frame.execRxDataBlock {w : Nat} {a s : State} (h : Frame w a s) (k : Sub 0x10FF400000000101BD w) : ∀ x0 x1, FrameAll w a (Machine.execRxDataBlock x0 x1 s) := by
  intro x0 x1
  unfold Machine.execRxDataBlock; try dsimp only
  repeat' first
    | with_reducible assumption
    | with_reducible apply Frame.loseAndEnd
    | refine Frame.growFrame ?_ ?_ _ _ _ _ _ (by with_reducible assumption)
    | with_reducible apply Frame.ite
    | with_reducible apply FrameAll.ite
    | with_reducible apply FrameAll.next
    | split
    | with_reducible apply Frame.upd
    | with_reducible rfl
    | with_reducible exact OtpKept.refl _
    | with_reducible exact Or.inr rfl
    | exact Or.inl (k.bit (by decide))
    | exact Sub.trans (by decide) k

theorem Frame.execRxFrameEnd {w : Nat} {a s : State} (h : Frame w a s) (k : Sub 0x4 w) : ∀ x0 x1, FrameAll w a (Machine.execRxFrameEnd x0 x1 s) := by
  intro x0 x1
  unfold Machine.execRxFrameEnd; try dsimp only
  repeat' first
    | with_reducible assumption
    | with_reducible apply Frame.notBeforeT0
    | with_reducible apply Frame.putFrame
    | with_reducible apply Frame.ite
    | with_reducible apply FrameAll.ite
    | with_reducible apply FrameAll.next
    | split
    | with_reducible apply Frame.upd
    | with_reducible rfl
    | with_reducible exact OtpKept.refl _
    | with_reducible exact Or.inr rfl
    | exact Or.inl (k.bit (by decide))
    | exact Sub.trans (by decide) k

end Sys2Proof.Machine
end

