-- ==== Sys2Proof/Laws/Frame3.lean ====
section
/-! SUPPORT. What the operations leave as it was (Laws/Frame.lean): Receive, Verdict, Timeline, TimeBase, Cascade. -/

set_option linter.unusedTactic false
set_option linter.unreachableTactic false

namespace Sys2Proof.Machine

theorem Frame.execReceiveWindowClose {w : Nat} {a s : State} (h : Frame w a s) (k : Sub 0x107F400000000101BD w) : FrameAll w a (Machine.execReceiveWindowClose s) := by
  unfold Machine.execReceiveWindowClose; try dsimp only
  repeat' first
    | with_reducible assumption
    | with_reducible apply Frame.setRadio
    | with_reducible apply Frame.windowCheck
    | with_reducible apply Frame.ite
    | with_reducible apply FrameAll.ite
    | with_reducible apply FrameAll.next
    | split
    | with_reducible apply Frame.upd
    | with_reducible rfl
    | with_reducible exact OtpKept.refl _
    | with_reducible exact Or.inr rfl
    | exact Or.inl (k.bit (by decide))
    | exact Sub.trans (by decide) k

theorem Frame.execSegmentRequest {w : Nat} {a s : State} (h : Frame w a s) (k : Sub 0x167FC00000000101BD w) : ∀ x0 x1 x2, FrameAll w a (Machine.execSegmentRequest x0 x1 x2 s) := by
  intro x0 x1 x2
  unfold Machine.execSegmentRequest; try dsimp only
  repeat' first
    | with_reducible assumption
    | with_reducible apply Frame.rxRequest
    | with_reducible apply Frame.softOverflow
    | with_reducible apply Frame.putFrame
    | with_reducible refine Frame.foldl ?_ (fun _ _ _ => ?_)
    | with_reducible refine Frame.foldl2 ?_ (fun _ _ _ => ?_)
    | with_reducible apply Frame.ite
    | with_reducible apply FrameAll.ite
    | with_reducible apply FrameAll.next
    | split
    | with_reducible apply Frame.upd
    | with_reducible rfl
    | with_reducible exact OtpKept.refl _
    | with_reducible exact Or.inr rfl
    | exact Or.inl (k.bit (by decide))
    | exact Sub.trans (by decide) k

theorem Frame.nextSegment {w : Nat} {a s : State} (h : Frame w a s) (k : Sub 0x1043800000000101BD w) : ∀ x t, State.nextSegment s = some (x, t) → Frame w a t := by
  intro x t e
  unfold State.nextSegment at e; try dsimp only at e
  repeat' first
    | with_reducible assumption
    | (with_reducible contradiction)
    | with_reducible refine Frame.ofSome e ?_
    | (split at e)
    | refine Frame.serveNext ?_ ?_ _ _ _ (by with_reducible assumption)
    | split
    | with_reducible apply Frame.upd
    | with_reducible rfl
    | with_reducible exact OtpKept.refl _
    | with_reducible exact Or.inr rfl
    | exact Or.inl (k.bit (by decide))
    | exact Sub.trans (by decide) k

theorem Frame.decodeSegment {w : Nat} {a s : State} (h : Frame w a s) (k : Sub 0x4 w) : ∀ x1, Frame w a (State.decodeSegment s x1) := by
  intro x1
  unfold State.decodeSegment; try dsimp only
  repeat' first
    | with_reducible assumption
    | with_reducible apply Frame.putFrame
    | split
    | with_reducible apply Frame.upd
    | with_reducible rfl
    | with_reducible exact OtpKept.refl _
    | with_reducible exact Or.inr rfl
    | exact Or.inl (k.bit (by decide))
    | exact Sub.trans (by decide) k

theorem Frame.execSegmentDone {w : Nat} {a s : State} (h : Frame w a s) (k : Sub 0x167B800000000101BD w) : ∀ x0, FrameAll w a (Machine.execSegmentDone x0 s) := by
  intro x0
  unfold Machine.execSegmentDone; try dsimp only
  repeat' first
    | with_reducible assumption
    | with_reducible apply Frame.decodeSegment
    | with_reducible apply Frame.reportFault
    | refine Frame.nextSegment ?_ ?_ _ _ (by with_reducible assumption)
    | with_reducible apply Frame.put
    | with_reducible apply Frame.flag
    | with_reducible apply Frame.countSat
    | with_reducible apply Frame.ite
    | with_reducible apply FrameAll.ite
    | with_reducible apply FrameAll.next
    | split
    | exact Sub.trans (by decide) k
    | exact RegOk.page k (by decide)
    | exact PageOk.page k (by decide)

theorem Frame.execSoftBitOverflow {w : Nat} {a s : State} (h : Frame w a s) (k : Sub 0x167FC00000000101BD w) : ∀ x0, FrameAll w a (Machine.execSoftBitOverflow x0 s) := by
  intro x0
  unfold Machine.execSoftBitOverflow; try dsimp only
  repeat' first
    | with_reducible assumption
    | with_reducible apply Frame.softOverflow
    | with_reducible apply Frame.ite
    | with_reducible apply FrameAll.ite
    | with_reducible apply FrameAll.next
    | split
    | exact Sub.trans (by decide) k

theorem Frame.execSecurityRequest {w : Nat} {a s : State} (h : Frame w a s) (k : Sub 0x8 w) : ∀ x0, FrameAll w a (Machine.execSecurityRequest x0 s) := by
  intro x0
  unfold Machine.execSecurityRequest; try dsimp only
  repeat' first
    | with_reducible assumption
    | with_reducible apply Frame.rxRequest
    | with_reducible apply Frame.ite
    | with_reducible apply FrameAll.ite
    | with_reducible apply FrameAll.next
    | split
    | with_reducible apply Frame.upd
    | with_reducible rfl
    | with_reducible exact OtpKept.refl _
    | with_reducible exact Or.inr rfl
    | exact Or.inl (k.bit (by decide))
    | exact Sub.trans (by decide) k

theorem Frame.portTakes {w : Nat} {a s : State} (h : Frame w a s) (k : Sub 0x8 w) : ∀ x1, Frame w a (State.portTakes s x1) := by
  intro x1
  unfold State.portTakes; try dsimp only
  repeat' first
    | with_reducible assumption
    | with_reducible apply Frame.ite
    | split
    | with_reducible apply Frame.upd
    | with_reducible rfl
    | with_reducible exact OtpKept.refl _
    | with_reducible exact Or.inr rfl
    | exact Or.inl (k.bit (by decide))

theorem Frame.lookupLeaves {w : Nat} {a s : State} (h : Frame w a s) (k : Sub 0x28 w) : ∀ x1, Frame w a (State.lookupLeaves s x1) := by
  intro x1
  unfold State.lookupLeaves; try dsimp only
  repeat' first
    | with_reducible assumption
    | with_reducible apply Frame.hvlTag
    | with_reducible apply Frame.hvlSend
    | with_reducible apply Frame.ite
    | split
    | refine Frame.of2 (by with_reducible assumption) ?_
    | with_reducible apply Frame.upd
    | with_reducible rfl
    | with_reducible exact OtpKept.refl _
    | with_reducible exact Or.inr rfl
    | exact Or.inl (k.bit (by decide))
    | exact Sub.trans (by decide) k

theorem Frame.execSharedRequestServed {w : Nat} {a s : State} (h : Frame w a s) (k : Sub 0x1043800000000101BD w) : ∀ x0, FrameAll w a (Machine.execSharedRequestServed x0 s) := by
  intro x0
  unfold Machine.execSharedRequestServed; try dsimp only
  repeat' first
    | with_reducible assumption
    | refine Frame.serveNext ?_ ?_ _ _ _ (by with_reducible assumption)
    | with_reducible apply Frame.portTakes
    | with_reducible apply Frame.lookupLeaves
    | with_reducible apply Frame.ite
    | with_reducible apply FrameAll.ite
    | with_reducible apply FrameAll.next
    | split
    | with_reducible apply Frame.upd
    | with_reducible rfl
    | with_reducible exact OtpKept.refl _
    | with_reducible exact Or.inr rfl
    | exact Or.inl (k.bit (by decide))
    | exact Sub.trans (by decide) k

theorem Frame.lookupDone {w : Nat} {a s : State} (h : Frame w a s) (k : Sub 0x4 w) : ∀ x1 x2 x3, Frame w a (State.lookupDone s x1 x2 x3) := by
  intro x1 x2 x3
  unfold State.lookupDone; try dsimp only
  repeat' first
    | with_reducible assumption
    | with_reducible apply Frame.putFrame
    | with_reducible apply Frame.upd
    | with_reducible rfl
    | with_reducible exact OtpKept.refl _
    | with_reducible exact Or.inr rfl
    | exact Or.inl (k.bit (by decide))
    | exact Sub.trans (by decide) k

theorem Frame.countDrop {w : Nat} {a s : State} (h : Frame w a s) (k : Sub 0x8000000000000000 w) : ∀ x1, Frame w a (State.countDrop s x1) := by
  intro x1
  unfold State.countDrop; try dsimp only
  repeat' first
    | with_reducible assumption
    | with_reducible apply Frame.countSat
    | split
    | exact RegOk.page k (by decide)

theorem Frame.checkFrame {w : Nat} {a s : State} (h : Frame w a s) (k : Sub 0x61890000000010183 w) : ∀ x1 x2, Frame w a (State.checkFrame s x1 x2).2 := by
  intro x1 x2
  unfold State.checkFrame; try dsimp only
  repeat' first
    | with_reducible assumption
    | with_reducible apply Frame.keyMiss
    | with_reducible apply Frame.frameKey
    | with_reducible apply Frame.recordUnit
    | with_reducible apply Frame.countSat
    | with_reducible apply Frame.ite
    | with_reducible apply Frame.ite2
    | split
    | refine Frame.of2 (by with_reducible assumption) ?_
    | exact Sub.trans (by decide) k
    | exact RegOk.page k (by decide)

theorem Frame.metaRecord {w : Nat} {a s : State} (h : Frame w a s) (k : Sub 0x10000 w) : ∀ x1 x2 x3 x4 x5, Frame w a (State.metaRecord s x1 x2 x3 x4 x5).2 := by
  intro x1 x2 x3 x4 x5
  unfold State.metaRecord; try dsimp only
  repeat' first
    | with_reducible assumption
    | with_reducible apply Frame.fit16
    | with_reducible apply Frame.ite
    | with_reducible apply Frame.ite2
    | split
    | refine Frame.of2 (by with_reducible assumption) ?_
    | exact Sub.trans (by decide) k

theorem Frame.frameRecords {w : Nat} {a s : State} (h : Frame w a s) (k : Sub 0x10000 w) : ∀ x1 x2 x3 x4, Frame w a (State.frameRecords s x1 x2 x3 x4).2 := by
  intro x1 x2 x3 x4
  unfold State.frameRecords; try dsimp only
  repeat' first
    | with_reducible assumption
    | with_reducible apply Frame.metaRecord
    | split
    | refine Frame.of2 (by with_reducible assumption) ?_
    | exact Sub.trans (by decide) k

theorem Frame.recFrame {w : Nat} {a s : State} (h : Frame w a s) (k : Sub 0x100 w) : ∀ x1 x2 x3 x4 x5, Frame w a (State.recFrame s x1 x2 x3 x4 x5) := by
  intro x1 x2 x3 x4 x5
  unfold State.recFrame; try dsimp only
  repeat' first
    | with_reducible assumption
    | with_reducible apply Frame.ite
    | split
    | with_reducible apply Frame.upd
    | with_reducible rfl
    | with_reducible exact OtpKept.refl _
    | with_reducible exact Or.inr rfl
    | exact Or.inl (k.bit (by decide))

theorem Frame.deliver {w : Nat} {a s : State} (h : Frame w a s) (k : Sub 0x80000000000101B5 w) : ∀ x1 x2 x3 x4 t, State.deliver s x1 x2 x3 x4 = some t → Frame w a t := by
  intro x1 x2 x3 x4 t e
  unfold State.deliver at e; try dsimp only at e
  repeat' first
    | with_reducible assumption
    | (with_reducible contradiction)
    | with_reducible refine Frame.ofSome1 e ?_
    | (split at e)
    | with_reducible apply Frame.queueFrame
    | with_reducible apply Frame.storeChain
    | with_reducible apply Frame.forwardKick
    | refine Frame.growFrame ?_ ?_ _ _ _ _ _ (by with_reducible assumption)
    | with_reducible apply Frame.ite
    | split
    | with_reducible apply Frame.upd
    | with_reducible rfl
    | with_reducible exact OtpKept.refl _
    | with_reducible exact Or.inr rfl
    | exact Or.inl (k.bit (by decide))
    | exact Sub.trans (by decide) k

theorem Frame.leUpdate {w : Nat} {a s : State} (h : Frame w a s) (k : Sub 0x4000000000000000 w) : ∀ x1 x2 x3, Frame w a (State.leUpdate s x1 x2 x3).1 := by
  intro x1 x2 x3
  unfold State.leUpdate; try dsimp only
  repeat' first
    | with_reducible assumption
    | with_reducible apply Frame.put
    | with_reducible apply Frame.ite
    | with_reducible apply Frame.ite1
    | split
    | exact RegOk.page k (by decide)
    | exact RegOk.at 0x1E k (lePage _) (by decide)

theorem Frame.noSpecVerdict {w : Nat} {a s : State} (h : Frame w a s) (k : Sub 0x129 w) : ∀ x1 x2 x3, Frame w a (State.noSpecVerdict s x1 x2 x3) := by
  intro x1 x2 x3
  unfold State.noSpecVerdict; try dsimp only
  repeat' first
    | with_reducible assumption
    | with_reducible apply Frame.sendVerdict
    | with_reducible apply Frame.ite
    | split
    | exact Sub.trans (by decide) k

theorem Frame.specPassed {w : Nat} {a s : State} (h : Frame w a s) (k : Sub 0x109 w) : ∀ x1 x2 x3 x4, Frame w a (State.specPassed s x1 x2 x3 x4) := by
  intro x1 x2 x3 x4
  unfold State.specPassed; try dsimp only
  repeat' first
    | with_reducible assumption
    | with_reducible apply Frame.applyVerdict
    | with_reducible apply Frame.ite
    | split
    | with_reducible apply Frame.upd
    | with_reducible rfl
    | with_reducible exact OtpKept.refl _
    | with_reducible exact Or.inr rfl
    | exact Or.inl (k.bit (by decide))
    | exact Sub.trans (by decide) k

theorem Frame.afterVerdict {w : Nat} {a s : State} (h : Frame w a s) (k : Sub 0x107F400000000101BD w) : ∀ x1 x2, Frame w a (State.afterVerdict s x1 x2) := by
  intro x1 x2
  unfold State.afterVerdict; try dsimp only
  repeat' first
    | with_reducible assumption
    | with_reducible apply Frame.singleRxEnds
    | with_reducible apply Frame.setSlot
    | with_reducible apply Frame.setRadio
    | with_reducible apply Frame.windowCheck
    | with_reducible apply Frame.freshCopy
    | with_reducible apply Frame.ite
    | split
    | with_reducible apply Frame.upd
    | with_reducible rfl
    | with_reducible exact OtpKept.refl _
    | with_reducible exact Or.inr rfl
    | exact Or.inl (k.bit (by decide))
    | exact Sub.trans (by decide) k

theorem Frame.noteSeen {w : Nat} {a s : State} (h : Frame w a s) (k : Sub 0x4 w) : ∀ x1 x2, Frame w a (State.noteSeen s x1 x2) := by
  intro x1 x2
  unfold State.noteSeen; try dsimp only
  repeat' first
    | with_reducible assumption
    | with_reducible apply Frame.setRadio
    | split
    | with_reducible apply Frame.upd
    | with_reducible rfl
    | with_reducible exact OtpKept.refl _
    | with_reducible exact Or.inr rfl
    | exact Or.inl (k.bit (by decide))
    | exact Sub.trans (by decide) k

theorem Frame.ackTune {w : Nat} {a s : State} (h : Frame w a s) (k : Sub 0x10430000000001018D w) : ∀ x1 x2, Frame w a (State.ackTune s x1 x2).1 := by
  intro x1 x2
  unfold State.ackTune; try dsimp only
  repeat' first
    | with_reducible assumption
    | with_reducible apply Frame.put
    | with_reducible apply Frame.crsReserve
    | with_reducible apply Frame.crsRequest
    | with_reducible apply Frame.ite
    | with_reducible apply Frame.ite1
    | split
    | refine Frame.of1 (by with_reducible assumption) ?_
    | exact Sub.trans (by decide) k
    | exact RegOk.page k (by decide)

theorem Frame.specBuild {w : Nat} {a s : State} (h : Frame w a s) (k : Sub 0x165B8000000001018F w) : ∀ x1 x2 x3 x4 x5 x6, Frame w a (State.specBuild s x1 x2 x3 x4 x5 x6) := by
  intro x1 x2 x3 x4 x5 x6
  unfold State.specBuild; try dsimp only
  repeat' first
    | with_reducible assumption
    | with_reducible apply Frame.reserveOut
    | with_reducible apply Frame.onFrame
    | with_reducible apply Frame.ackTune
    | with_reducible apply Frame.specRecord
    | with_reducible apply Frame.frameKey
    | with_reducible apply Frame.ite
    | split
    | refine Frame.of1 (by with_reducible assumption) ?_
    | refine Frame.of2 (by with_reducible assumption) ?_
    | with_reducible apply Frame.upd
    | with_reducible rfl
    | with_reducible exact OtpKept.refl _
    | with_reducible exact Or.inr rfl
    | exact Or.inl (k.bit (by decide))
    | exact Sub.trans (by decide) k

theorem Frame.specStart {w : Nat} {a s : State} (h : Frame w a s) (k : Sub 0x165B800000000101BF w) : ∀ x1 x2 x3, Frame w a (State.specStart s x1 x2 x3) := by
  intro x1 x2 x3
  unfold State.specStart; try dsimp only
  repeat' first
    | with_reducible assumption
    | with_reducible apply Frame.specBuild
    | with_reducible apply Frame.ackLost
    | with_reducible apply Frame.flag
    | with_reducible apply Frame.squashCtx
    | with_reducible refine Frame.foldl ?_ (fun _ _ _ => ?_)
    | with_reducible refine Frame.foldl2 ?_ (fun _ _ _ => ?_)
    | with_reducible apply Frame.ite
    | split
    | exact Sub.trans (by decide) k
    | exact PageOk.page k (by decide)

theorem Frame.commitCtx {w : Nat} {a s : State} (h : Frame w a s) (k : Sub 0x1040000000000101A9 w) : ∀ x1 x2, Frame w a (State.commitCtx s x1 x2) := by
  intro x1 x2
  unfold State.commitCtx; try dsimp only
  repeat' first
    | with_reducible assumption
    | with_reducible apply Frame.specRecord
    | with_reducible apply Frame.event
    | with_reducible apply Frame.sendVerdict
    | with_reducible apply Frame.countSat
    | with_reducible apply Frame.upd
    | with_reducible rfl
    | with_reducible exact OtpKept.refl _
    | with_reducible exact Or.inr rfl
    | exact Or.inl (k.bit (by decide))
    | exact Sub.trans (by decide) k
    | exact RegOk.page k (by decide)

theorem Frame.squashLate {w : Nat} {a s : State} (h : Frame w a s) (k : Sub 0x107F400000000101BD w) : ∀ x1 x2, Frame w a (State.squashLate s x1 x2) := by
  intro x1 x2
  unfold State.squashLate; try dsimp only
  repeat' first
    | with_reducible assumption
    | with_reducible apply Frame.opExit
    | with_reducible apply Frame.rxOpEnds
    | with_reducible apply Frame.squashCtx
    | with_reducible apply Frame.ite
    | split
    | refine Frame.of1 (by with_reducible assumption) ?_
    | exact Sub.trans (by decide) k

theorem Frame.specDue {w : Nat} {a s : State} (h : Frame w a s) (k : Sub 0x165B800000000101BF w) : ∀ x1 x2 x3, Frame w a (State.specDue s x1 x2 x3) := by
  intro x1 x2 x3
  unfold State.specDue; try dsimp only
  repeat' first
    | with_reducible assumption
    | with_reducible apply Frame.specStart
    | with_reducible apply Frame.ackLost
    | split
    | exact Sub.trans (by decide) k

theorem Frame.verdict {w : Nat} {a s : State} (h : Frame w a s) (k : Sub 0x16FFD00000000101BF w) : ∀ x1 x2 x3, Frame w a (State.verdict s x1 x2 x3) := by
  intro x1 x2 x3
  unfold State.verdict; try dsimp only
  repeat' first
    | with_reducible assumption
    | with_reducible apply Frame.checkFrame
    | with_reducible apply Frame.noteSeen
    | with_reducible apply Frame.recFrame
    | with_reducible apply Frame.specPassed
    | refine Frame.deliver ?_ ?_ _ _ _ _ _ (by with_reducible assumption)
    | with_reducible apply Frame.countDrop
    | with_reducible apply Frame.putFrame
    | with_reducible apply Frame.loseAndEnd
    | with_reducible apply Frame.afterVerdict
    | with_reducible apply Frame.specDue
    | with_reducible apply Frame.setRadio
    | with_reducible apply Frame.squashCtx
    | with_reducible apply Frame.freeAll
    | with_reducible apply Frame.leUpdate
    | with_reducible apply Frame.frameRecords
    | with_reducible apply Frame.noSpecVerdict
    | with_reducible apply Frame.ite
    | split
    | refine Frame.of1 (by with_reducible assumption) ?_
    | refine Frame.of2 (by with_reducible assumption) ?_
    | with_reducible apply Frame.upd
    | with_reducible rfl
    | with_reducible exact OtpKept.refl _
    | with_reducible exact Or.inr rfl
    | exact Or.inl (k.bit (by decide))
    | exact Sub.trans (by decide) k

theorem Frame.execMacHeaderParsed {w : Nat} {a s : State} (h : Frame w a s) (k : Sub 0x10FF400000000101BD w) : ∀ x0, FrameAll w a (Machine.execMacHeaderParsed x0 s) := by
  intro x0
  unfold Machine.execMacHeaderParsed; try dsimp only
  repeat' first
    | with_reducible assumption
    | with_reducible apply Frame.rxRequest
    | with_reducible apply Frame.countDrop
    | with_reducible apply Frame.putFrame
    | with_reducible apply Frame.toSearch
    | with_reducible apply Frame.lookupDone
    | with_reducible apply Frame.ite
    | with_reducible apply FrameAll.ite
    | with_reducible apply FrameAll.next
    | split
    | with_reducible apply Frame.upd
    | with_reducible rfl
    | with_reducible exact OtpKept.refl _
    | with_reducible exact Or.inr rfl
    | exact Or.inl (k.bit (by decide))
    | exact Sub.trans (by decide) k

theorem Frame.lookupAnswer {w : Nat} {a s : State} (h : Frame w a s) (k : Sub 0x61880000000010188 w) : ∀ x1 x2, Frame w a (State.lookupAnswer s x1 x2).2 := by
  intro x1 x2
  unfold State.lookupAnswer; try dsimp only
  repeat' first
    | with_reducible assumption
    | with_reducible apply Frame.nbtLookup
    | with_reducible apply Frame.remoteTarget
    | with_reducible apply Frame.ite
    | with_reducible apply Frame.ite2
    | split
    | refine Frame.of2 (by with_reducible assumption) ?_
    | refine Frame.of5 (by with_reducible assumption) ?_
    | exact Sub.trans (by decide) k

theorem Frame.execNbtLookupReturn {w : Nat} {a s : State} (h : Frame w a s) (k : Sub 0x7188000000001018D w) : ∀ x0, FrameAll w a (Machine.execNbtLookupReturn x0 s) := by
  intro x0
  unfold Machine.execNbtLookupReturn; try dsimp only
  repeat' first
    | with_reducible assumption
    | with_reducible apply Frame.recordLookup
    | with_reducible apply Frame.lookupAnswer
    | with_reducible apply Frame.lookupDone
    | with_reducible apply Frame.countSat
    | with_reducible apply Frame.ite
    | with_reducible apply FrameAll.ite
    | with_reducible apply FrameAll.next
    | split
    | refine Frame.of2 (by with_reducible assumption) ?_
    | with_reducible apply Frame.upd
    | with_reducible rfl
    | with_reducible exact OtpKept.refl _
    | with_reducible exact Or.inr rfl
    | exact Or.inl (k.bit (by decide))
    | exact Sub.trans (by decide) k
    | exact RegOk.page k (by decide)

theorem Frame.execSpeculationStart {w : Nat} {a s : State} (h : Frame w a s) (k : Sub 0x165B800000000101BF w) : ∀ x0, FrameAll w a (Machine.execSpeculationStart x0 s) := by
  intro x0
  unfold Machine.execSpeculationStart; try dsimp only
  repeat' first
    | with_reducible assumption
    | with_reducible apply Frame.specStart
    | with_reducible apply FrameAll.next
    | split
    | exact Sub.trans (by decide) k

theorem Frame.execFrameVerdict {w : Nat} {a s : State} (h : Frame w a s) (k : Sub 0x16FFD00000000101BF w) : ∀ x0, FrameAll w a (Machine.execFrameVerdict x0 s) := by
  intro x0
  unfold Machine.execFrameVerdict; try dsimp only
  repeat' first
    | with_reducible assumption
    | with_reducible apply Frame.verdict
    | with_reducible apply Frame.ite
    | with_reducible apply FrameAll.ite
    | with_reducible apply FrameAll.next
    | split
    | exact Sub.trans (by decide) k

theorem Frame.execContextBlockTake {w : Nat} {a s : State} (h : Frame w a s) (k : Sub 0xC000000000010018 w) : FrameAll w a (Machine.execContextBlockTake s) := by
  unfold Machine.execContextBlockTake; try dsimp only
  repeat' first
    | with_reducible assumption
    | with_reducible apply Frame.ctxTake
    | with_reducible apply Frame.ite
    | with_reducible apply FrameAll.ite
    | with_reducible apply FrameAll.next
    | exact Sub.trans (by decide) k

theorem Frame.execCommit {w : Nat} {a s : State} (h : Frame w a s) (k : Sub 0x107F400000000101BD w) : ∀ x0, FrameAll w a (Machine.execCommit x0 s) := by
  intro x0
  unfold Machine.execCommit; try dsimp only
  repeat' first
    | with_reducible assumption
    | with_reducible apply Frame.commitCtx
    | with_reducible apply Frame.squashLate
    | with_reducible apply Frame.ite
    | with_reducible apply FrameAll.ite
    | with_reducible apply FrameAll.next
    | split
    | exact Sub.trans (by decide) k

theorem Frame.execSquash {w : Nat} {a s : State} (h : Frame w a s) (k : Sub 0x107F400000000101BD w) : ∀ x0, FrameAll w a (Machine.execSquash x0 s) := by
  intro x0
  unfold Machine.execSquash; try dsimp only
  repeat' first
    | with_reducible assumption
    | with_reducible apply Frame.squashLate
    | with_reducible apply Frame.ite
    | with_reducible apply FrameAll.ite
    | with_reducible apply FrameAll.next
    | split
    | exact Sub.trans (by decide) k

theorem Frame.execCommitDeadline {w : Nat} {a s : State} (h : Frame w a s) (k : Sub 0x107F400000000101BD w) : ∀ x0, FrameAll w a (Machine.execCommitDeadline x0 s) := by
  intro x0
  unfold Machine.execCommitDeadline; try dsimp only
  repeat' first
    | with_reducible assumption
    | with_reducible apply Frame.squashLate
    | with_reducible apply Frame.ackLost
    | with_reducible apply Frame.ite
    | with_reducible apply FrameAll.ite
    | with_reducible apply FrameAll.next
    | split
    | exact Sub.trans (by decide) k

theorem Frame.setEnt {w : Nat} {a s : State} (h : Frame w a s) (k : Sub 0x8 w) : ∀ x1 x2, Frame w a (State.setEnt s x1 x2) := by
  intro x1 x2
  unfold State.setEnt; try dsimp only
  repeat' first
    | with_reducible assumption
    | with_reducible apply Frame.upd
    | with_reducible rfl
    | with_reducible exact OtpKept.refl _
    | with_reducible exact Or.inr rfl
    | exact Or.inl (k.bit (by decide))

theorem Frame.pushDone {w : Nat} {a s : State} (h : Frame w a s) (k : Sub 0x4000000000000008 w) : ∀ x1, Frame w a (State.pushDone s x1) := by
  intro x1
  unfold State.pushDone; try dsimp only
  repeat' first
    | with_reducible assumption
    | with_reducible apply Frame.put
    | with_reducible apply Frame.flag
    | with_reducible apply Frame.ite
    | with_reducible apply Frame.upd
    | with_reducible rfl
    | with_reducible exact OtpKept.refl _
    | with_reducible exact Or.inr rfl
    | exact Or.inl (k.bit (by decide))
    | exact RegOk.page k (by decide)
    | exact PageOk.page k (by decide)

theorem Frame.recordDone {w : Nat} {a s : State} (h : Frame w a s) (k : Sub 0x4000000000000008 w) : ∀ x1 x2 x3 x4 x5 x6 x7, Frame w a (State.recordDone s x1 x2 x3 x4 x5 x6 x7) := by
  intro x1 x2 x3 x4 x5 x6 x7
  unfold State.recordDone; try dsimp only
  repeat' first
    | with_reducible assumption
    | with_reducible apply Frame.pushDone
    | with_reducible apply Frame.flag
    | with_reducible apply Frame.ite
    | exact Sub.trans (by decide) k
    | exact PageOk.page k (by decide)

theorem Frame.entArm {w : Nat} {a s : State} (h : Frame w a s) (k : Sub 0x8 w) : ∀ x1 x2, Frame w a (State.entArm s x1 x2).2 := by
  intro x1 x2
  unfold State.entArm; try dsimp only
  repeat' first
    | with_reducible assumption
    | with_reducible apply Frame.setEnt
    | with_reducible apply Frame.ite
    | with_reducible apply Frame.ite2
    | exact Sub.trans (by decide) k

theorem Frame.entCancel {w : Nat} {a s : State} (h : Frame w a s) (k : Sub 0x4000000000000008 w) : ∀ x1, Frame w a (State.entCancel s x1).2 := by
  intro x1
  unfold State.entCancel; try dsimp only
  repeat' first
    | with_reducible assumption
    | with_reducible apply Frame.recordDone
    | with_reducible apply Frame.setEnt
    | split
    | with_reducible apply Frame.upd
    | with_reducible rfl
    | with_reducible exact OtpKept.refl _
    | with_reducible exact Or.inr rfl
    | exact Or.inl (k.bit (by decide))
    | exact Sub.trans (by decide) k

theorem Frame.entCmd {w : Nat} {a s : State} (h : Frame w a s) (k : Sub 0x4000000000000008 w) : ∀ x1 x2 x3, Frame w a (State.entCmd s x1 x2 x3).2.2 := by
  intro x1 x2 x3
  unfold State.entCmd; try dsimp only
  repeat' first
    | with_reducible assumption
    | with_reducible apply Frame.entArm
    | with_reducible refine Frame.forN ?_ (fun _ _ _ => ?_)
    | with_reducible apply Frame.entCancel
    | with_reducible apply Frame.ite
    | with_reducible apply Frame.ite3
    | split
    | refine Frame.of2 (by with_reducible assumption) ?_
    | exact Sub.trans (by decide) k

theorem Frame.stage {w : Nat} {a s : State} (h : Frame w a s) (k : Sub 0x8000 w) : ∀ x1 x2, Frame w a (State.stage s x1 x2) := by
  intro x1 x2
  unfold State.stage; try dsimp only
  repeat' first
    | with_reducible assumption
    | with_reducible apply Frame.setRegI
    | with_reducible refine Frame.foldl ?_ (fun _ _ _ => ?_)
    | with_reducible refine Frame.foldl2 ?_ (fun _ _ _ => ?_)
    | exact Sub.trans (by decide) k

theorem Frame.entCmdWrite {w : Nat} {a s : State} (h : Frame w a s) (k : Sub 0x4000000000008028 w) : ∀ x1 x2, Frame w a (State.entCmdWrite s x1 x2) := by
  intro x1 x2
  unfold State.entCmdWrite; try dsimp only
  repeat' first
    | with_reducible assumption
    | with_reducible apply Frame.hvlTag
    | with_reducible apply Frame.sendParts
    | with_reducible apply Frame.entCmd
    | with_reducible apply Frame.setRegI
    | with_reducible apply Frame.stage
    | with_reducible apply Frame.ite
    | split
    | refine Frame.of2 (by with_reducible assumption) ?_
    | refine Frame.of3 (by with_reducible assumption) ?_
    | with_reducible apply Frame.upd
    | with_reducible rfl
    | with_reducible exact OtpKept.refl _
    | with_reducible exact Or.inr rfl
    | exact Or.inl (k.bit (by decide))
    | exact Sub.trans (by decide) k

theorem Frame.handOver {w : Nat} {a s : State} (h : Frame w a s) (k : Sub 0x1EFB900004000101BF w) : ∀ x1, Frame w a (State.handOver s x1) := by
  intro x1
  unfold State.handOver; try dsimp only
  repeat' first
    | with_reducible assumption
    | with_reducible apply Frame.setEnt
    | with_reducible apply Frame.record
    | with_reducible apply Frame.endPlain
    | with_reducible apply Frame.holdTimed
    | with_reducible apply Frame.ite
    | with_reducible apply Frame.upd
    | with_reducible rfl
    | with_reducible exact OtpKept.refl _
    | with_reducible exact Or.inr rfl
    | exact Or.inl (k.bit (by decide))
    | exact Sub.trans (by decide) k

theorem Frame.followLink {w : Nat} {a s : State} (h : Frame w a s) (k : Sub 0x4000000000000008 w) : ∀ x1 x2 x3, Frame w a (State.followLink s x1 x2 x3).2 := by
  intro x1 x2 x3
  unfold State.followLink; try dsimp only
  repeat' first
    | with_reducible assumption
    | with_reducible apply Frame.setEnt
    | with_reducible apply Frame.put
    | with_reducible apply Frame.flag
    | with_reducible apply Frame.ite
    | with_reducible apply Frame.ite2
    | with_reducible apply Frame.upd
    | with_reducible rfl
    | with_reducible exact OtpKept.refl _
    | with_reducible exact Or.inr rfl
    | exact Or.inl (k.bit (by decide))
    | exact Sub.trans (by decide) k
    | exact RegOk.page k (by decide)
    | exact PageOk.page k (by decide)

theorem Frame.completeEntry {w : Nat} {a s : State} (h : Frame w a s) (k : Sub 0x4000000000000008 w) : ∀ x1 x2, Frame w a (State.completeEntry s x1 x2) := by
  intro x1 x2
  unfold State.completeEntry; try dsimp only
  repeat' first
    | with_reducible assumption
    | with_reducible apply Frame.recordDone
    | with_reducible apply Frame.setEnt
    | with_reducible apply Frame.followLink
    | with_reducible apply Frame.ite
    | split
    | refine Frame.of2 (by with_reducible assumption) ?_
    | exact Sub.trans (by decide) k

theorem Frame.lnkRead {w : Nat} {a s : State} (h : Frame w a s) (k : Sub 0x8008 w) : ∀ x1 x2 x3, Frame w a (Machine.lnkRead s x1 x2 x3).2 := by
  intro x1 x2 x3
  unfold Machine.lnkRead; try dsimp only
  repeat' first
    | with_reducible assumption
    | with_reducible apply Frame.setRegI
    | with_reducible apply Frame.ite
    | with_reducible apply Frame.ite2
    | split
    | with_reducible apply Frame.upd
    | with_reducible rfl
    | with_reducible exact OtpKept.refl _
    | with_reducible exact Or.inr rfl
    | exact Or.inl (k.bit (by decide))
    | exact Sub.trans (by decide) k

theorem Frame.lnkWrite {w : Nat} {a s : State} (h : Frame w a s) (k : Sub 0x4000000000008028 w) : ∀ x1 x2 x3, Frame w a (Machine.lnkWrite s x1 x2 x3) := by
  intro x1 x2 x3
  unfold Machine.lnkWrite; try dsimp only
  repeat' first
    | with_reducible assumption
    | with_reducible apply Frame.entCmdWrite
    | with_reducible apply Frame.ite
    | exact Sub.trans (by decide) k

theorem Frame.lnkFlagsCleared {w : Nat} {a s : State} (h : Frame w a s) (k : Sub 0x4000000000000000 w) : Frame w a (Machine.lnkFlagsCleared s) := by
  unfold Machine.lnkFlagsCleared; try dsimp only
  repeat' first
    | with_reducible assumption
    | with_reducible apply Frame.put
    | with_reducible apply Frame.ite
    | exact RegOk.page k (by decide)

theorem Frame.execHandOver {w : Nat} {a s : State} (h : Frame w a s) (k : Sub 0x1EFB900004000101BF w) : FrameAll w a (Machine.execHandOver s) := by
  unfold Machine.execHandOver; try dsimp only
  repeat' first
    | with_reducible assumption
    | with_reducible apply Frame.handOver
    | with_reducible apply FrameAll.next
    | split
    | exact Sub.trans (by decide) k

theorem Frame.execEntryStart {w : Nat} {a s : State} (h : Frame w a s) (k : Sub 0x10420000000001018D w) : ∀ x0, FrameAll w a (Machine.execEntryStart x0 s) := by
  intro x0
  unfold Machine.execEntryStart; try dsimp only
  repeat' first
    | with_reducible assumption
    | with_reducible apply Frame.endSrc
    | with_reducible apply Frame.event
    | with_reducible apply Frame.ite
    | with_reducible apply FrameAll.ite
    | with_reducible apply FrameAll.next
    | exact Sub.trans (by decide) k

theorem Frame.execEntryCompletion {w : Nat} {a s : State} (h : Frame w a s) (k : Sub 0x4000000000000008 w) : ∀ x0, FrameAll w a (Machine.execEntryCompletion x0 s) := by
  intro x0
  unfold Machine.execEntryCompletion; try dsimp only
  repeat' first
    | with_reducible assumption
    | with_reducible apply Frame.completeEntry
    | with_reducible apply FrameAll.next
    | split
    | exact Sub.trans (by decide) k

theorem Frame.execRunAhead {w : Nat} {a s : State} (h : Frame w a s) (k : Sub 0x10430000000001018D w) : FrameAll w a (Machine.execRunAhead s) := by
  unfold Machine.execRunAhead; try dsimp only
  repeat' first
    | with_reducible assumption
    | with_reducible apply Frame.setEnt
    | with_reducible apply Frame.crsRequest
    | with_reducible apply Frame.ite
    | with_reducible apply FrameAll.ite
    | with_reducible apply FrameAll.next
    | split
    | refine Frame.of1 (by with_reducible assumption) ?_
    | with_reducible apply Frame.upd
    | with_reducible rfl
    | with_reducible exact OtpKept.refl _
    | with_reducible exact Or.inr rfl
    | exact Or.inl (k.bit (by decide))
    | exact Sub.trans (by decide) k

theorem Frame.setAlarm {w : Nat} {a s : State} (h : Frame w a s) (k : Sub 0x40 w) : ∀ x1 x2, Frame w a (State.setAlarm s x1 x2) := by
  intro x1 x2
  unfold State.setAlarm; try dsimp only
  repeat' first
    | with_reducible assumption
    | with_reducible apply Frame.upd
    | with_reducible rfl
    | with_reducible exact OtpKept.refl _
    | with_reducible exact Or.inr rfl
    | exact Or.inl (k.bit (by decide))

theorem Frame.alarmFire {w : Nat} {a s : State} (h : Frame w a s) (k : Sub 0x20000002C0 w) : ∀ x1 x2, Frame w a (State.alarmFire s x1 x2) := by
  intro x1 x2
  unfold State.alarmFire; try dsimp only
  repeat' first
    | with_reducible assumption
    | with_reducible apply Frame.wake
    | with_reducible apply Frame.event
    | with_reducible apply Frame.setAlarm
    | with_reducible apply Frame.flag
    | with_reducible apply Frame.ite
    | with_reducible apply Frame.upd
    | with_reducible rfl
    | with_reducible exact OtpKept.refl _
    | with_reducible exact Or.inr rfl
    | exact Or.inl (k.bit (by decide))
    | exact Sub.trans (by decide) k
    | exact PageOk.page k (by decide)

theorem Frame.alarmEffect {w : Nat} {a s : State} (h : Frame w a s) (k : Sub 0x20000002C0 w) : ∀ x1, Frame w a (State.alarmEffect s x1) := by
  intro x1
  unfold State.alarmEffect; try dsimp only
  repeat' first
    | with_reducible assumption
    | with_reducible apply Frame.alarmFire
    | with_reducible apply Frame.setAlarm
    | with_reducible apply Frame.ite
    | split
    | with_reducible apply Frame.upd
    | with_reducible rfl
    | with_reducible exact OtpKept.refl _
    | with_reducible exact Or.inr rfl
    | exact Or.inl (k.bit (by decide))
    | exact Sub.trans (by decide) k

theorem Frame.alarmTick {w : Nat} {a s : State} (h : Frame w a s) (k : Sub 0x20000002C0 w) : ∀ x1, Frame w a (State.alarmTick s x1) := by
  intro x1
  unfold State.alarmTick; try dsimp only
  repeat' first
    | with_reducible assumption
    | with_reducible apply Frame.alarmEffect
    | with_reducible apply Frame.alarmFire
    | with_reducible apply Frame.setAlarm
    | with_reducible apply Frame.ite
    | split
    | with_reducible apply Frame.upd
    | with_reducible rfl
    | with_reducible exact OtpKept.refl _
    | with_reducible exact Or.inr rfl
    | exact Or.inl (k.bit (by decide))
    | exact Sub.trans (by decide) k

theorem Frame.alarmsTick {w : Nat} {a s : State} (h : Frame w a s) (k : Sub 0x20000002C0 w) : Frame w a (State.alarmsTick s) := by
  unfold State.alarmsTick; try dsimp only
  repeat' first
    | with_reducible assumption
    | with_reducible apply Frame.alarmTick
    | with_reducible refine Frame.forN ?_ (fun _ _ _ => ?_)
    | exact Sub.trans (by decide) k

theorem Frame.alarmDisarm {w : Nat} {a s : State} (h : Frame w a s) (k : Sub 0x40 w) : ∀ x1, Frame w a (State.alarmDisarm s x1) := by
  intro x1
  unfold State.alarmDisarm; try dsimp only
  repeat' first
    | with_reducible assumption
    | with_reducible apply Frame.setAlarm
    | with_reducible apply Frame.upd
    | with_reducible rfl
    | with_reducible exact OtpKept.refl _
    | with_reducible exact Or.inr rfl
    | exact Or.inl (k.bit (by decide))
    | exact Sub.trans (by decide) k

theorem Frame.alarmLoWrite {w : Nat} {a s : State} (h : Frame w a s) (k : Sub 0x40 w) : ∀ x1, Frame w a (State.alarmLoWrite s x1) := by
  intro x1
  unfold State.alarmLoWrite; try dsimp only
  repeat' first
    | with_reducible assumption
    | with_reducible apply Frame.setAlarm
    | with_reducible apply Frame.ite
    | with_reducible apply Frame.upd
    | with_reducible rfl
    | with_reducible exact OtpKept.refl _
    | with_reducible exact Or.inr rfl
    | exact Or.inl (k.bit (by decide))
    | exact Sub.trans (by decide) k

theorem Frame.tmrLoad {w : Nat} {a s : State} (h : Frame w a s) (k : Sub 0x40 w) : ∀ x1, Frame w a (State.tmrLoad s x1) := by
  intro x1
  unfold State.tmrLoad; try dsimp only
  repeat' first
    | with_reducible assumption
    | with_reducible apply Frame.upd
    | with_reducible rfl
    | with_reducible exact OtpKept.refl _
    | with_reducible exact Or.inr rfl
    | exact Or.inl (k.bit (by decide))

theorem Frame.tmrCmpRaise {w : Nat} {a s : State} (h : Frame w a s) (k : Sub 0x20080 w) : ∀ x1 x2, Frame w a (State.tmrCmpRaise s x1 x2) := by
  intro x1 x2
  unfold State.tmrCmpRaise; try dsimp only
  repeat' first
    | with_reducible assumption
    | with_reducible apply Frame.event
    | with_reducible apply Frame.flag
    | exact Sub.trans (by decide) k
    | exact PageOk.page k (by decide)
    | exact PageOk.all k (by decide)

theorem Frame.tmrMatch {w : Nat} {a s : State} (h : Frame w a s) (k : Sub 0x20080 w) : ∀ x1, Frame w a (State.tmrMatch s x1) := by
  intro x1
  unfold State.tmrMatch; try dsimp only
  repeat' first
    | with_reducible assumption
    | with_reducible apply Frame.tmrCmpRaise
    | with_reducible refine Frame.forN ?_ (fun _ _ _ => ?_)
    | with_reducible apply Frame.ite
    | exact Sub.trans (by decide) k

theorem Frame.tmrShow {w : Nat} {a s : State} (h : Frame w a s) (k : Sub 0x20080 w) : ∀ x1, Frame w a (State.tmrShow s x1) := by
  intro x1
  unfold State.tmrShow; try dsimp only
  repeat' first
    | with_reducible assumption
    | with_reducible apply Frame.event
    | with_reducible apply Frame.flag
    | with_reducible apply Frame.tmrMatch
    | with_reducible apply Frame.ite
    | exact Sub.trans (by decide) k
    | exact PageOk.page k (by decide)
    | exact PageOk.all k (by decide)

theorem Frame.tmrWrap {w : Nat} {a s : State} (h : Frame w a s) (k : Sub 0x200C0 w) : ∀ x1, Frame w a (State.tmrWrap s x1) := by
  intro x1
  unfold State.tmrWrap; try dsimp only
  repeat' first
    | with_reducible assumption
    | with_reducible apply Frame.tmrShow
    | with_reducible apply Frame.tmrLoad
    | with_reducible apply Frame.put
    | with_reducible apply Frame.setPageSt
    | with_reducible apply Frame.tmrMatch
    | with_reducible apply Frame.ite
    | exact Sub.trans (by decide) k
    | exact RegOk.page k (by decide)
    | exact RegOk.all k (by decide)
    | exact PageOk.page k (by decide)
    | exact PageOk.all k (by decide)

theorem Frame.tmrCycle {w : Nat} {a s : State} (h : Frame w a s) (k : Sub 0x200C0 w) : ∀ x1, Frame w a (State.tmrCycle s x1) := by
  intro x1
  unfold State.tmrCycle; try dsimp only
  repeat' first
    | with_reducible assumption
    | with_reducible apply Frame.tmrShow
    | with_reducible apply Frame.tmrWrap
    | with_reducible apply Frame.put
    | with_reducible apply Frame.ite
    | exact Sub.trans (by decide) k
    | exact RegOk.page k (by decide)
    | exact RegOk.all k (by decide)

theorem Frame.tmrStart {w : Nat} {a s : State} (h : Frame w a s) (k : Sub 0x200C0 w) : ∀ x1, Frame w a (State.tmrStart s x1) := by
  intro x1
  unfold State.tmrStart; try dsimp only
  repeat' first
    | with_reducible assumption
    | with_reducible apply Frame.tmrShow
    | with_reducible apply Frame.tmrLoad
    | with_reducible apply Frame.setPageSt
    | with_reducible apply Frame.ite
    | exact Sub.trans (by decide) k
    | exact PageOk.page k (by decide)
    | exact PageOk.all k (by decide)

theorem Frame.tmrStop {w : Nat} {a s : State} (h : Frame w a s) (k : Sub 0x20000 w) : ∀ x1, Frame w a (State.tmrStop s x1) := by
  intro x1
  unfold State.tmrStop; try dsimp only
  repeat' first
    | with_reducible assumption
    | with_reducible apply Frame.setPageSt
    | with_reducible apply Frame.ite
    | exact PageOk.page k (by decide)
    | exact PageOk.all k (by decide)

theorem Frame.tmrClear {w : Nat} {a s : State} (h : Frame w a s) (k : Sub 0x200C0 w) : ∀ x1, Frame w a (State.tmrClear s x1) := by
  intro x1
  unfold State.tmrClear; try dsimp only
  repeat' first
    | with_reducible assumption
    | with_reducible apply Frame.tmrShow
    | with_reducible apply Frame.tmrLoad
    | with_reducible apply Frame.put
    | with_reducible apply Frame.ite
    | exact Sub.trans (by decide) k
    | exact RegOk.page k (by decide)
    | exact RegOk.all k (by decide)

theorem Frame.tmrLoadCmd {w : Nat} {a s : State} (h : Frame w a s) (k : Sub 0x200C0 w) : ∀ x1, Frame w a (State.tmrLoadCmd s x1) := by
  intro x1
  unfold State.tmrLoadCmd; try dsimp only
  repeat' first
    | with_reducible assumption
    | with_reducible apply Frame.tmrLoad
    | with_reducible apply Frame.tmrCmpRaise
    | with_reducible refine Frame.forN ?_ (fun _ _ _ => ?_)
    | with_reducible apply Frame.ite
    | exact Sub.trans (by decide) k

theorem Frame.tmrCapture {w : Nat} {a s : State} (h : Frame w a s) (k : Sub 0x20080 w) : ∀ x1 x2, Frame w a (State.tmrCapture s x1 x2) := by
  intro x1 x2
  unfold State.tmrCapture; try dsimp only
  repeat' first
    | with_reducible assumption
    | with_reducible apply Frame.setReg
    | with_reducible apply Frame.tmrCmpRaise
    | with_reducible apply Frame.ite
    | exact Sub.trans (by decide) k
    | exact RegOk.page k (by decide)
    | exact RegOk.all k (by decide)

theorem Frame.tmrCmd {w : Nat} {a s : State} (h : Frame w a s) (k : Sub 0x200C0 w) : ∀ x1 x2, Frame w a (State.tmrCmd s x1 x2) := by
  intro x1 x2
  unfold State.tmrCmd; try dsimp only
  repeat' first
    | with_reducible assumption
    | with_reducible apply Frame.tmrStart
    | with_reducible apply Frame.tmrClear
    | with_reducible apply Frame.tmrStop
    | with_reducible apply Frame.tmrLoadCmd
    | with_reducible apply Frame.ite
    | exact Sub.trans (by decide) k

theorem Frame.tmrFine {w : Nat} {a s : State} (h : Frame w a s) (k : Sub 0x200C0 w) : ∀ x1, Frame w a (State.tmrFine s x1) := by
  intro x1
  unfold State.tmrFine; try dsimp only
  repeat' first
    | with_reducible assumption
    | with_reducible apply Frame.tmrCycle
    | with_reducible refine Frame.forN ?_ (fun _ _ _ => ?_)
    | with_reducible apply Frame.ite
    | with_reducible apply Frame.upd
    | with_reducible rfl
    | with_reducible exact OtpKept.refl _
    | with_reducible exact Or.inr rfl
    | exact Or.inl (k.bit (by decide))
    | exact Sub.trans (by decide) k

theorem Frame.tmrSlow {w : Nat} {a s : State} (h : Frame w a s) (k : Sub 0x200C0 w) : ∀ x1, Frame w a (State.tmrSlow s x1) := by
  intro x1
  unfold State.tmrSlow; try dsimp only
  repeat' first
    | with_reducible assumption
    | with_reducible apply Frame.tmrCycle
    | with_reducible refine Frame.forN ?_ (fun _ _ _ => ?_)
    | with_reducible apply Frame.ite
    | with_reducible apply Frame.upd
    | with_reducible rfl
    | with_reducible exact OtpKept.refl _
    | with_reducible exact Or.inr rfl
    | exact Or.inl (k.bit (by decide))
    | exact Sub.trans (by decide) k

theorem Frame.tmrCfg {w : Nat} {a s : State} (h : Frame w a s) (k : Sub 0x40 w) : ∀ x1, Frame w a (State.tmrCfg s x1) := by
  intro x1
  unfold State.tmrCfg; try dsimp only
  repeat' first
    | with_reducible assumption
    | with_reducible apply Frame.upd
    | with_reducible rfl
    | with_reducible exact OtpKept.refl _
    | with_reducible exact Or.inr rfl
    | exact Or.inl (k.bit (by decide))

theorem Frame.lptWrite {w : Nat} {a s : State} (h : Frame w a s) (k : Sub 0x40000000040 w) : ∀ x1 x2, Frame w a (State.lptWrite s x1 x2) := by
  intro x1 x2
  unfold State.lptWrite; try dsimp only
  repeat' first
    | with_reducible assumption
    | with_reducible apply Frame.put
    | with_reducible apply Frame.ite
    | with_reducible apply Frame.upd
    | with_reducible rfl
    | with_reducible exact OtpKept.refl _
    | with_reducible exact Or.inr rfl
    | exact Or.inl (k.bit (by decide))
    | exact RegOk.page k (by decide)

theorem Frame.lptWake {w : Nat} {a s : State} (h : Frame w a s) (k : Sub 0x200 w) : ∀ x1, Frame w a (State.lptWake s x1) := by
  intro x1
  unfold State.lptWake; try dsimp only
  repeat' first
    | with_reducible assumption
    | with_reducible apply Frame.wake
    | with_reducible apply Frame.ite
    | exact Sub.trans (by decide) k

theorem Frame.lptCmpRaise {w : Nat} {a s : State} (h : Frame w a s) (k : Sub 0x40000000280 w) : ∀ x1, Frame w a (State.lptCmpRaise s x1) := by
  intro x1
  unfold State.lptCmpRaise; try dsimp only
  repeat' first
    | with_reducible assumption
    | with_reducible apply Frame.event
    | with_reducible apply Frame.flag
    | with_reducible apply Frame.lptWake
    | exact Sub.trans (by decide) k
    | exact PageOk.page k (by decide)

theorem Frame.lptShow {w : Nat} {a s : State} (h : Frame w a s) (k : Sub 0x40000000280 w) : ∀ x1, Frame w a (State.lptShow s x1) := by
  intro x1
  unfold State.lptShow; try dsimp only
  repeat' first
    | with_reducible assumption
    | with_reducible apply Frame.event
    | with_reducible apply Frame.lptCmpRaise
    | with_reducible apply Frame.flag
    | with_reducible apply Frame.lptWake
    | with_reducible apply Frame.ite
    | exact Sub.trans (by decide) k
    | exact PageOk.page k (by decide)

theorem Frame.lptWrap {w : Nat} {a s : State} (h : Frame w a s) (k : Sub 0x400000202C0 w) : ∀ x1, Frame w a (State.lptWrap s x1) := by
  intro x1
  unfold State.lptWrap; try dsimp only
  repeat' first
    | with_reducible assumption
    | with_reducible apply Frame.put
    | with_reducible apply Frame.lptShow
    | with_reducible apply Frame.upd
    | with_reducible rfl
    | with_reducible exact OtpKept.refl _
    | with_reducible exact Or.inr rfl
    | exact Or.inl (k.bit (by decide))
    | exact Sub.trans (by decide) k
    | exact RegOk.page k (by decide)
    | exact RegOk.all k (by decide)

theorem Frame.lptCycle {w : Nat} {a s : State} (h : Frame w a s) (k : Sub 0x400000202C0 w) : ∀ x1, Frame w a (State.lptCycle s x1) := by
  intro x1
  unfold State.lptCycle; try dsimp only
  repeat' first
    | with_reducible assumption
    | with_reducible apply Frame.lptWrap
    | with_reducible apply Frame.put
    | with_reducible apply Frame.lptShow
    | with_reducible apply Frame.ite
    | exact Sub.trans (by decide) k
    | exact RegOk.page k (by decide)
    | exact RegOk.all k (by decide)

theorem Frame.askReset {w : Nat} {a s : State} (h : Frame w a s) (k : Sub 0x200 w) : ∀ x1, Frame w a (State.askReset s x1) := by
  intro x1
  unfold State.askReset; try dsimp only
  repeat' first
    | with_reducible assumption
    | with_reducible apply Frame.ite
    | split
    | with_reducible apply Frame.upd
    | with_reducible rfl
    | with_reducible exact OtpKept.refl _
    | with_reducible exact Or.inr rfl
    | exact Or.inl (k.bit (by decide))

theorem Frame.wdtExpire {w : Nat} {a s : State} (h : Frame w a s) (k : Sub 0x80000000200 w) : ∀ x1, Frame w a (State.wdtExpire s x1) := by
  intro x1
  unfold State.wdtExpire; try dsimp only
  repeat' first
    | with_reducible assumption
    | with_reducible apply Frame.put
    | with_reducible apply Frame.askReset
    | exact Sub.trans (by decide) k
    | exact RegOk.page k (by decide)

theorem Frame.wdtPrewarn {w : Nat} {a s : State} (h : Frame w a s) (k : Sub 0x80000000080 w) : Frame w a (State.wdtPrewarn s) := by
  unfold State.wdtPrewarn; try dsimp only
  repeat' first
    | with_reducible assumption
    | with_reducible apply Frame.event
    | with_reducible apply Frame.put
    | with_reducible apply Frame.flag
    | with_reducible apply Frame.ite
    | exact Sub.trans (by decide) k
    | exact RegOk.page k (by decide)
    | exact PageOk.page k (by decide)

theorem Frame.wdtTick {w : Nat} {a s : State} (h : Frame w a s) (k : Sub 0x800000002C0 w) : Frame w a (State.wdtTick s) := by
  unfold State.wdtTick; try dsimp only
  repeat' first
    | with_reducible assumption
    | with_reducible apply Frame.put
    | with_reducible apply Frame.wdtPrewarn
    | with_reducible apply Frame.wdtExpire
    | with_reducible apply Frame.ite
    | with_reducible apply Frame.upd
    | with_reducible rfl
    | with_reducible exact OtpKept.refl _
    | with_reducible exact Or.inr rfl
    | exact Or.inl (k.bit (by decide))
    | exact Sub.trans (by decide) k
    | exact RegOk.page k (by decide)

theorem Frame.wdtFeedWrite {w : Nat} {a s : State} (h : Frame w a s) (k : Sub 0x80000000240 w) : ∀ x1, Frame w a (State.wdtFeedWrite s x1) := by
  intro x1
  unfold State.wdtFeedWrite; try dsimp only
  repeat' first
    | with_reducible assumption
    | with_reducible apply Frame.wdtExpire
    | with_reducible apply Frame.ite
    | with_reducible apply Frame.upd
    | with_reducible rfl
    | with_reducible exact OtpKept.refl _
    | with_reducible exact Or.inr rfl
    | exact Or.inl (k.bit (by decide))
    | exact Sub.trans (by decide) k

theorem Frame.fineTick {w : Nat} {a s : State} (h : Frame w a s) (k : Sub 0x20000202E4 w) : Frame w a (State.fineTick s) := by
  unfold State.fineTick; try dsimp only
  repeat' first
    | with_reducible assumption
    | with_reducible apply Frame.tmrFine
    | with_reducible refine Frame.forN ?_ (fun _ _ _ => ?_)
    | with_reducible apply Frame.alarmsTick
    | with_reducible apply Frame.ite
    | with_reducible apply Frame.upd
    | with_reducible rfl
    | with_reducible exact OtpKept.refl _
    | with_reducible exact Or.inr rfl
    | exact Or.inl (k.bit (by decide))
    | exact Sub.trans (by decide) k

theorem Frame.fineEdge {w : Nat} {a s : State} (h : Frame w a s) (k : Sub 0x2000000000 w) : Frame w a (State.fineEdge s) := by
  unfold State.fineEdge; try dsimp only
  repeat' first
    | with_reducible assumption
    | with_reducible apply Frame.put
    | with_reducible apply Frame.ite
    | exact RegOk.page k (by decide)

theorem Frame.sendTime {w : Nat} {a s : State} (h : Frame w a s) (k : Sub 0x20 w) : Frame w a (State.sendTime s) := by
  unfold State.sendTime; try dsimp only
  repeat' first
    | with_reducible assumption
    | with_reducible apply Frame.hvlSend
    | with_reducible apply Frame.upd
    | with_reducible rfl
    | with_reducible exact OtpKept.refl _
    | with_reducible exact Or.inr rfl
    | exact Or.inl (k.bit (by decide))
    | exact Sub.trans (by decide) k

theorem Frame.membersJoin {w : Nat} {a s : State} (h : Frame w a s) (k : Sub 0x200000000000000A0 w) : Frame w a (State.membersJoin s) := by
  unfold State.membersJoin; try dsimp only
  repeat' first
    | with_reducible assumption
    | with_reducible apply Frame.event
    | with_reducible apply Frame.putBit
    | with_reducible apply Frame.flag
    | with_reducible refine Frame.foldl ?_ (fun _ _ _ => ?_)
    | with_reducible refine Frame.foldl2 ?_ (fun _ _ _ => ?_)
    | with_reducible apply Frame.ite
    | with_reducible apply Frame.upd
    | with_reducible rfl
    | with_reducible exact OtpKept.refl _
    | with_reducible exact Or.inr rfl
    | exact Or.inl (k.bit (by decide))
    | exact Sub.trans (by decide) k
    | exact RegOk.page k (by decide)
    | exact PageOk.page k (by decide)

theorem Frame.syncPull {w : Nat} {a s : State} (h : Frame w a s) (k : Sub 0x20 w) : Frame w a (State.syncPull s) := by
  unfold State.syncPull; try dsimp only
  repeat' first
    | with_reducible assumption
    | with_reducible apply Frame.ite
    | with_reducible apply Frame.upd
    | with_reducible rfl
    | with_reducible exact OtpKept.refl _
    | with_reducible exact Or.inr rfl
    | exact Or.inl (k.bit (by decide))

theorem Frame.slowUnits {w : Nat} {a s : State} (h : Frame w a s) (k : Sub 0x420000202C0 w) : Frame w a (State.slowUnits s) := by
  unfold State.slowUnits; try dsimp only
  repeat' first
    | with_reducible assumption
    | with_reducible apply Frame.tmrSlow
    | with_reducible apply Frame.lptCycle
    | with_reducible refine Frame.forN ?_ (fun _ _ _ => ?_)
    | with_reducible apply Frame.alarmsTick
    | exact Sub.trans (by decide) k

theorem Frame.slowCount {w : Nat} {a s : State} (h : Frame w a s) (k : Sub 0x200000420000202E4 w) : Frame w a (State.slowCount s) := by
  unfold State.slowCount; try dsimp only
  repeat' first
    | with_reducible assumption
    | with_reducible apply Frame.slowUnits
    | with_reducible apply Frame.syncPull
    | with_reducible apply Frame.sendTime
    | with_reducible apply Frame.membersJoin
    | with_reducible apply Frame.fineEdge
    | with_reducible apply Frame.ite
    | with_reducible apply Frame.upd
    | with_reducible rfl
    | with_reducible exact OtpKept.refl _
    | with_reducible exact Or.inr rfl
    | exact Or.inl (k.bit (by decide))
    | exact Sub.trans (by decide) k

theorem Frame.slowEdge {w : Nat} {a s : State} (h : Frame w a s) (k : Sub 0x200000C20000202E4 w) : Frame w a (State.slowEdge s) := by
  unfold State.slowEdge; try dsimp only
  repeat' first
    | with_reducible assumption
    | with_reducible apply Frame.wdtTick
    | with_reducible apply Frame.slowCount
    | with_reducible apply Frame.ite
    | exact Sub.trans (by decide) k

theorem Frame.execSlowTick {w : Nat} {a s : State} (h : Frame w a s) (k : Sub 0x200000C20000202E4 w) : FrameAll w a (Machine.execSlowTick s) := by
  unfold Machine.execSlowTick; try dsimp only
  repeat' first
    | with_reducible assumption
    | with_reducible apply Frame.slowEdge
    | with_reducible apply FrameAll.next
    | exact Sub.trans (by decide) k

theorem Frame.execFinePartStart {w : Nat} {a s : State} (h : Frame w a s) (k : Sub 0x2000000000 w) : FrameAll w a (Machine.execFinePartStart s) := by
  unfold Machine.execFinePartStart; try dsimp only
  repeat' first
    | with_reducible assumption
    | with_reducible apply Frame.fineEdge
    | with_reducible apply Frame.ite
    | with_reducible apply FrameAll.ite
    | with_reducible apply FrameAll.next
    | exact Sub.trans (by decide) k

theorem Frame.execAlarmWriteEffect {w : Nat} {a s : State} (h : Frame w a s) (k : Sub 0x200000C20000202E4 w) : ∀ x0, FrameAll w a (Machine.execAlarmWriteEffect x0 s) := by
  intro x0
  unfold Machine.execAlarmWriteEffect; try dsimp only
  repeat' first
    | with_reducible assumption
    | with_reducible apply Frame.fineTick
    | with_reducible apply Frame.slowEdge
    | with_reducible refine Frame.forN ?_ (fun _ _ _ => ?_)
    | with_reducible apply Frame.ite
    | with_reducible apply FrameAll.ite
    | with_reducible apply FrameAll.next
    | split
    | exact Sub.trans (by decide) k

theorem Frame.execAlarmFire {w : Nat} {a s : State} (h : Frame w a s) (k : Sub 0x20000002C0 w) : ∀ x0, FrameAll w a (Machine.execAlarmFire x0 s) := by
  intro x0
  unfold Machine.execAlarmFire; try dsimp only
  repeat' first
    | with_reducible assumption
    | with_reducible apply Frame.alarmFire
    | with_reducible apply Frame.ite
    | with_reducible apply FrameAll.ite
    | with_reducible apply FrameAll.next
    | exact Sub.trans (by decide) k

theorem Frame.execWrap {w : Nat} {a s : State} (h : Frame w a s) (k : Sub 0x200C0 w) : ∀ x0, FrameAll w a (Machine.execWrap x0 s) := by
  intro x0
  unfold Machine.execWrap; try dsimp only
  repeat' first
    | with_reducible assumption
    | with_reducible apply Frame.tmrCycle
    | with_reducible apply Frame.ite
    | with_reducible apply FrameAll.ite
    | with_reducible apply FrameAll.next
    | exact Sub.trans (by decide) k

theorem Frame.execCmp {w : Nat} {a s : State} (h : Frame w a s) (k : Sub 0x200C0 w) : ∀ x0 x1, FrameAll w a (Machine.execCmp x0 x1 s) := by
  intro x0 x1
  unfold Machine.execCmp; try dsimp only
  repeat' first
    | with_reducible assumption
    | with_reducible apply Frame.tmrCycle
    | with_reducible apply Frame.ite
    | with_reducible apply FrameAll.ite
    | with_reducible apply FrameAll.next
    | exact Sub.trans (by decide) k

theorem Frame.execLptSyncDone {w : Nat} {a s : State} (h : Frame w a s) (k : Sub 0x400000002C0 w) : FrameAll w a (Machine.execLptSyncDone s) := by
  unfold Machine.execLptSyncDone; try dsimp only
  repeat' first
    | with_reducible assumption
    | with_reducible apply Frame.put
    | with_reducible apply Frame.lptShow
    | with_reducible refine Frame.forN ?_ (fun _ _ _ => ?_)
    | with_reducible apply Frame.ite
    | with_reducible apply FrameAll.ite
    | with_reducible apply FrameAll.next
    | with_reducible apply Frame.upd
    | with_reducible rfl
    | with_reducible exact OtpKept.refl _
    | with_reducible exact Or.inr rfl
    | exact Or.inl (k.bit (by decide))
    | exact Sub.trans (by decide) k
    | exact RegOk.page k (by decide)

theorem Frame.execLptWrap {w : Nat} {a s : State} (h : Frame w a s) (k : Sub 0x400000202C0 w) : ∀ x0, FrameAll w a (Machine.execLptWrap x0 s) := by
  intro x0
  unfold Machine.execLptWrap; try dsimp only
  repeat' first
    | with_reducible assumption
    | with_reducible apply Frame.lptCycle
    | with_reducible apply Frame.ite
    | with_reducible apply FrameAll.ite
    | with_reducible apply FrameAll.next
    | exact Sub.trans (by decide) k

theorem Frame.execLptCmp {w : Nat} {a s : State} (h : Frame w a s) (k : Sub 0x400000202C0 w) : ∀ x0, FrameAll w a (Machine.execLptCmp x0 s) := by
  intro x0
  unfold Machine.execLptCmp; try dsimp only
  repeat' first
    | with_reducible assumption
    | with_reducible apply Frame.lptCycle
    | with_reducible apply Frame.ite
    | with_reducible apply FrameAll.ite
    | with_reducible apply FrameAll.next
    | exact Sub.trans (by decide) k

theorem Frame.execPrewarn {w : Nat} {a s : State} (h : Frame w a s) (k : Sub 0x800000002C0 w) : FrameAll w a (Machine.execPrewarn s) := by
  unfold Machine.execPrewarn; try dsimp only
  repeat' first
    | with_reducible assumption
    | with_reducible apply Frame.wdtTick
    | with_reducible apply Frame.wdtPrewarn
    | with_reducible apply Frame.ite
    | with_reducible apply FrameAll.ite
    | with_reducible apply FrameAll.next
    | exact Sub.trans (by decide) k

theorem Frame.execWdtExpiry {w : Nat} {a s : State} (h : Frame w a s) (k : Sub 0x800000002C0 w) : FrameAll w a (Machine.execWdtExpiry s) := by
  unfold Machine.execWdtExpiry; try dsimp only
  repeat' first
    | with_reducible assumption
    | with_reducible apply Frame.wdtTick
    | with_reducible apply Frame.ite
    | with_reducible apply FrameAll.ite
    | with_reducible apply FrameAll.next
    | exact Sub.trans (by decide) k

theorem Frame.setHvl {w : Nat} {a s : State} (h : Frame w a s) (k : Sub 0x20 w) : ∀ x1, Frame w a (State.setHvl s x1) := by
  intro x1
  unfold State.setHvl; try dsimp only
  repeat' first
    | with_reducible assumption
    | with_reducible apply Frame.upd
    | with_reducible rfl
    | with_reducible exact OtpKept.refl _
    | with_reducible exact Or.inr rfl
    | exact Or.inl (k.bit (by decide))

theorem Frame.setLanes {w : Nat} {a s : State} (h : Frame w a s) (k : Sub 0x20000000000000000 w) : ∀ x1 x2 x3, Frame w a (State.setLanes s x1 x2 x3) := by
  intro x1 x2 x3
  unfold State.setLanes; try dsimp only
  repeat' first
    | with_reducible assumption
    | with_reducible apply Frame.put
    | split
    | exact RegOk.page k (by decide)

theorem Frame.trainPort {w : Nat} {a s : State} (h : Frame w a s) (k : Sub 0x20000000000000020 w) : ∀ x1, Frame w a (State.trainPort s x1) := by
  intro x1
  unfold State.trainPort; try dsimp only
  repeat' first
    | with_reducible assumption
    | with_reducible apply Frame.setLanes
    | with_reducible apply Frame.setHop
    | with_reducible apply Frame.upd
    | with_reducible rfl
    | with_reducible exact OtpKept.refl _
    | with_reducible exact Or.inr rfl
    | exact Or.inl (k.bit (by decide))
    | exact Sub.trans (by decide) k

theorem Frame.stopPort {w : Nat} {a s : State} (h : Frame w a s) (k : Sub 0x20000000000000020 w) : ∀ x1, Frame w a (State.stopPort s x1) := by
  intro x1
  unfold State.stopPort; try dsimp only
  repeat' first
    | with_reducible assumption
    | with_reducible apply Frame.setLanes
    | with_reducible apply Frame.setHop
    | with_reducible apply Frame.upd
    | with_reducible rfl
    | with_reducible exact OtpKept.refl _
    | with_reducible exact Or.inr rfl
    | exact Or.inl (k.bit (by decide))
    | exact Sub.trans (by decide) k

theorem Frame.lookupLost {w : Nat} {a s : State} (h : Frame w a s) (k : Sub 0x10000000000010105 w) : ∀ x1 x2, Frame w a (State.lookupLost s x1 x2) := by
  intro x1 x2
  unfold State.lookupLost; try dsimp only
  repeat' first
    | with_reducible assumption
    | with_reducible apply Frame.recordLookup
    | with_reducible apply Frame.lookupDone
    | with_reducible apply Frame.countSat
    | with_reducible apply Frame.ite
    | split
    | exact Sub.trans (by decide) k
    | exact RegOk.page k (by decide)

theorem Frame.endWait {w : Nat} {a s : State} (h : Frame w a s) (k : Sub 0x1000000000001810D w) : ∀ x1, Frame w a (State.endWait s x1) := by
  intro x1
  unfold State.endWait; try dsimp only
  repeat' first
    | with_reducible assumption
    | with_reducible apply Frame.nbtComplete
    | with_reducible apply Frame.setRegI
    | with_reducible apply Frame.lookupLost
    | with_reducible apply Frame.ite
    | split
    | exact Sub.trans (by decide) k

theorem Frame.endBeyond {w : Nat} {a s : State} (h : Frame w a s) (k : Sub 0x1400000000001813D w) : ∀ x1, Frame w a (State.endBeyond s x1) := by
  intro x1
  unfold State.endBeyond; try dsimp only
  repeat' first
    | with_reducible assumption
    | with_reducible apply Frame.endWait
    | with_reducible apply Frame.setHvl
    | with_reducible apply Frame.dropReserve
    | with_reducible apply Frame.freeAll
    | with_reducible refine Frame.foldl ?_ (fun _ _ _ => ?_)
    | with_reducible refine Frame.foldl2 ?_ (fun _ _ _ => ?_)
    | with_reducible apply Frame.upd
    | with_reducible rfl
    | with_reducible exact OtpKept.refl _
    | with_reducible exact Or.inr rfl
    | exact Or.inl (k.bit (by decide))
    | exact Sub.trans (by decide) k

theorem Frame.membersLost {w : Nat} {a s : State} (h : Frame w a s) (k : Sub 0x340000000000181BD w) : ∀ x1, Frame w a (State.membersLost s x1) := by
  intro x1
  unfold State.membersLost; try dsimp only
  repeat' first
    | with_reducible assumption
    | with_reducible apply Frame.endBeyond
    | with_reducible apply Frame.event
    | with_reducible apply Frame.putBit
    | with_reducible apply Frame.flag
    | with_reducible refine Frame.foldl ?_ (fun _ _ _ => ?_)
    | with_reducible refine Frame.foldl2 ?_ (fun _ _ _ => ?_)
    | with_reducible apply Frame.ite
    | exact Sub.trans (by decide) k
    | exact RegOk.page k (by decide)
    | exact PageOk.page k (by decide)

theorem Frame.timelineLost {w : Nat} {a s : State} (h : Frame w a s) (k : Sub 0x105BC00000000101BD w) : Frame w a (State.timelineLost s) := by
  unfold State.timelineLost; try dsimp only
  repeat' first
    | with_reducible assumption
    | with_reducible apply Frame.recordDone
    | with_reducible apply Frame.setEnt
    | with_reducible apply Frame.setRadio
    | with_reducible refine Frame.forN ?_ (fun _ _ _ => ?_)
    | with_reducible apply Frame.abortNow
    | with_reducible apply Frame.ite
    | split
    | with_reducible apply Frame.upd
    | with_reducible rfl
    | with_reducible exact OtpKept.refl _
    | with_reducible exact Or.inr rfl
    | exact Or.inl (k.bit (by decide))
    | exact Sub.trans (by decide) k

theorem Frame.enterLost {w : Nat} {a s : State} (h : Frame w a s) (k : Sub 0x135BC00000000181BD w) : Frame w a (State.enterLost s) := by
  unfold State.enterLost; try dsimp only
  repeat' first
    | with_reducible assumption
    | with_reducible apply Frame.endBeyond
    | with_reducible apply Frame.setHvl
    | with_reducible apply Frame.stopPort
    | with_reducible apply Frame.timelineLost
    | with_reducible apply Frame.setPageSt
    | with_reducible apply Frame.trainPort
    | with_reducible apply Frame.upd
    | with_reducible rfl
    | with_reducible exact OtpKept.refl _
    | with_reducible exact Or.inr rfl
    | exact Or.inl (k.bit (by decide))
    | exact Sub.trans (by decide) k
    | exact PageOk.page k (by decide)

theorem Frame.syncLost {w : Nat} {a s : State} (h : Frame w a s) (k : Sub 0x135BC00020000181BD w) : Frame w a (State.syncLost s) := by
  unfold State.syncLost; try dsimp only
  repeat' first
    | with_reducible assumption
    | with_reducible apply Frame.enterLost
    | with_reducible apply Frame.put
    | with_reducible apply Frame.flag
    | with_reducible apply Frame.countSat
    | exact Sub.trans (by decide) k
    | exact RegOk.page k (by decide)
    | exact PageOk.page k (by decide)

theorem Frame.hopDown {w : Nat} {a s : State} (h : Frame w a s) (k : Sub 0x135BC00000000181BD w) : ∀ x1, Frame w a (State.hopDown s x1) := by
  intro x1
  unfold State.hopDown; try dsimp only
  repeat' first
    | with_reducible assumption
    | with_reducible apply Frame.endBeyond
    | with_reducible apply Frame.stopPort
    | with_reducible apply Frame.hvlSend
    | with_reducible apply Frame.enterLost
    | with_reducible apply Frame.trainPort
    | with_reducible apply Frame.membersLost
    | with_reducible apply Frame.ite
    | split
    | exact Sub.trans (by decide) k

theorem Frame.hvlStart {w : Nat} {a s : State} (h : Frame w a s) (k : Sub 0x20000000000000020 w) : Frame w a (State.hvlStart s) := by
  unfold State.hvlStart; try dsimp only
  repeat' first
    | with_reducible assumption
    | with_reducible apply Frame.putBit
    | with_reducible apply Frame.setPageSt
    | with_reducible apply Frame.trainPort
    | with_reducible apply Frame.ite
    | exact Sub.trans (by decide) k
    | exact RegOk.page k (by decide)
    | exact PageOk.page k (by decide)

theorem Frame.hvlStop {w : Nat} {a s : State} (h : Frame w a s) (k : Sub 0x3400000200001813D w) : Frame w a (State.hvlStop s) := by
  unfold State.hvlStop; try dsimp only
  repeat' first
    | with_reducible assumption
    | with_reducible apply Frame.endBeyond
    | with_reducible apply Frame.setHvl
    | with_reducible apply Frame.stopPort
    | with_reducible apply Frame.put
    | with_reducible apply Frame.putBit
    | with_reducible apply Frame.setPageSt
    | with_reducible refine Frame.foldl ?_ (fun _ _ _ => ?_)
    | with_reducible refine Frame.foldl2 ?_ (fun _ _ _ => ?_)
    | with_reducible apply Frame.ite
    | with_reducible apply Frame.upd
    | with_reducible rfl
    | with_reducible exact OtpKept.refl _
    | with_reducible exact Or.inr rfl
    | exact Or.inl (k.bit (by decide))
    | exact Sub.trans (by decide) k
    | exact RegOk.page k (by decide)
    | exact PageOk.page k (by decide)

theorem Frame.hvlUpdate {w : Nat} {a s : State} (h : Frame w a s) (k : Sub 0x3400000200001813D w) : Frame w a (State.hvlUpdate s) := by
  unfold State.hvlUpdate; try dsimp only
  repeat' first
    | with_reducible assumption
    | with_reducible apply Frame.hvlStop
    | with_reducible apply Frame.hvlStart
    | with_reducible apply Frame.ite
    | exact Sub.trans (by decide) k

theorem Frame.laneEffect {w : Nat} {a s : State} (h : Frame w a s) (k : Sub 0x135BC00000000181BD w) : ∀ x1, Frame w a (State.laneEffect s x1) := by
  intro x1
  unfold State.laneEffect; try dsimp only
  repeat' first
    | with_reducible assumption
    | with_reducible apply Frame.hopDown
    | with_reducible apply Frame.setHop
    | with_reducible apply Frame.ite
    | with_reducible apply Frame.upd
    | with_reducible rfl
    | with_reducible exact OtpKept.refl _
    | with_reducible exact Or.inr rfl
    | exact Or.inl (k.bit (by decide))
    | exact Sub.trans (by decide) k

theorem Frame.sendHello {w : Nat} {a s : State} (h : Frame w a s) (k : Sub 0x20 w) : Frame w a (State.sendHello s) := by
  unfold State.sendHello; try dsimp only
  repeat' first
    | with_reducible assumption
    | with_reducible apply Frame.hvlTag
    | with_reducible apply Frame.setHvl
    | with_reducible apply Frame.hvlSend
    | split
    | refine Frame.of2 (by with_reducible assumption) ?_
    | with_reducible apply Frame.upd
    | with_reducible rfl
    | with_reducible exact OtpKept.refl _
    | with_reducible exact Or.inr rfl
    | exact Or.inl (k.bit (by decide))
    | exact Sub.trans (by decide) k

theorem Frame.clearTable {w : Nat} {a s : State} (h : Frame w a s) (k : Sub 0x9 w) : Frame w a (State.clearTable s) := by
  have b : w.testBit 3 = true := k.bit (by decide)
  exact Frame.upd (h.setMem (fun c => Sparse.wf_clear (fun a => decide (0x20300000 ≤ a) && decide (a < 0x20380000)) c) (Sub.trans (by decide) k)) rfl (OtpKept.refl _)
    (Or.inr rfl) (Or.inr rfl) (Or.inl b) (Or.inr rfl) (Or.inr rfl) (Or.inr rfl) (Or.inr rfl) (Or.inr rfl)
    (Or.inr rfl) (Or.inr rfl) (Or.inr rfl) (Or.inr rfl) (Or.inr rfl) (Or.inr rfl)

theorem Frame.joinNow {w : Nat} {a s : State} (h : Frame w a s) (k : Sub 0x200000020000002E9 w) : ∀ x1, Frame w a (State.joinNow s x1) := by
  intro x1
  unfold State.joinNow; try dsimp only
  repeat' first
    | with_reducible assumption
    | with_reducible apply Frame.clearTable
    | with_reducible apply Frame.setHvl
    | with_reducible apply Frame.forwardKick
    | with_reducible apply Frame.put
    | with_reducible apply Frame.flag
    | with_reducible apply Frame.setPageSt
    | with_reducible apply Frame.trainPort
    | with_reducible apply Frame.alarmsTick
    | with_reducible apply Frame.ite
    | with_reducible apply Frame.upd
    | with_reducible rfl
    | with_reducible exact OtpKept.refl _
    | with_reducible exact Or.inr rfl
    | exact Or.inl (k.bit (by decide))
    | exact Sub.trans (by decide) k
    | exact RegOk.page k (by decide)
    | exact PageOk.page k (by decide)

theorem Frame.assemble {w : Nat} {a s : State} (h : Frame w a s) (k : Sub 0x20 w) : ∀ x1 x2, Frame w a (State.assemble s x1 x2).2 := by
  intro x1 x2
  unfold State.assemble; try dsimp only
  repeat' first
    | with_reducible assumption
    | with_reducible apply Frame.setHvl
    | with_reducible apply Frame.ite
    | with_reducible apply Frame.ite2
    | split
    | with_reducible apply Frame.upd
    | with_reducible rfl
    | with_reducible exact OtpKept.refl _
    | with_reducible exact Or.inr rfl
    | exact Or.inl (k.bit (by decide))
    | exact Sub.trans (by decide) k

theorem Frame.receive {w : Nat} {a s : State} (h : Frame w a s) (k : Sub 0x20 w) : ∀ x1, Frame w a (State.receive s x1).2 := by
  intro x1
  unfold State.receive; try dsimp only
  repeat' first
    | with_reducible assumption
    | with_reducible apply Frame.sendChars
    | with_reducible apply Frame.setHop
    | with_reducible apply Frame.ite
    | with_reducible apply Frame.ite2
    | with_reducible apply Frame.upd
    | with_reducible rfl
    | with_reducible exact OtpKept.refl _
    | with_reducible exact Or.inr rfl
    | exact Or.inl (k.bit (by decide))
    | exact Sub.trans (by decide) k

theorem Frame.arrive {w : Nat} {a s : State} (h : Frame w a s) (k : Sub 0x1400000000001813D w) {typ : Nat} {p : Packet} {f : State → State}
    (g : ∀ u, Frame w a u → Frame w a (f u)) : Frame w a (State.arrive s typ p f) := by
  have hr : Frame w a (if p.ptype = typ then s.receive p else (false, s)).2 := by
    split
    · exact Frame.receive h (Sub.trans (by decide) k) p
    · exact h
  unfold State.arrive; dsimp only
  generalize (if p.ptype = typ then s.receive p else (false, s)) = y at hr ⊢
  rcases y with ⟨_ | _, t⟩
  · exact hr
  dsimp only at hr ⊢
  repeat' first
    | with_reducible assumption
    | with_reducible apply Frame.ite
    | refine g _ ?_
    | with_reducible apply Frame.hopSend
    | with_reducible apply Frame.setHop
    | with_reducible apply Frame.endBeyond
    | exact Sub.trans (by decide) k

theorem Frame.answered {w : Nat} {a s : State} (h : Frame w a s) (k : Sub 0x20 w) : ∀ x1, Frame w a (State.answered s x1) := by
  intro x1
  unfold State.answered; try dsimp only
  repeat' first
    | with_reducible assumption
    | with_reducible apply Frame.setHvl
    | with_reducible apply Frame.upd
    | with_reducible rfl
    | with_reducible exact OtpKept.refl _
    | with_reducible exact Or.inr rfl
    | exact Or.inl (k.bit (by decide))
    | exact Sub.trans (by decide) k

theorem Frame.answerLookup {w : Nat} {a s : State} (h : Frame w a s) (k : Sub 0x618800000000101A8 w) : ∀ x1, Frame w a (State.answerLookup s x1) := by
  intro x1
  unfold State.answerLookup; try dsimp only
  repeat' first
    | with_reducible assumption
    | with_reducible apply Frame.reserveOut
    | with_reducible apply Frame.setHvl
    | with_reducible apply Frame.hvlSend
    | with_reducible apply Frame.nbtLookup
    | with_reducible apply Frame.remoteTarget
    | with_reducible apply Frame.ite
    | split
    | refine Frame.of2 (by with_reducible assumption) ?_
    | refine Frame.of5 (by with_reducible assumption) ?_
    | with_reducible apply Frame.upd
    | with_reducible rfl
    | with_reducible exact OtpKept.refl _
    | with_reducible exact Or.inr rfl
    | exact Or.inl (k.bit (by decide))
    | exact Sub.trans (by decide) k

theorem Frame.returnReserve {w : Nat} {a s : State} (h : Frame w a s) (k : Sub 0x129 w) : ∀ x1 x2 x3 x4 x5, Frame w a (State.returnReserve s x1 x2 x3 x4 x5) := by
  intro x1 x2 x3 x4 x5
  unfold State.returnReserve; try dsimp only
  repeat' first
    | with_reducible assumption
    | with_reducible apply Frame.sendVerdict
    | with_reducible apply Frame.ite
    | exact Sub.trans (by decide) k

theorem Frame.takeReply {w : Nat} {a s : State} (h : Frame w a s) (k : Sub 0x1000000000001012D w) : ∀ x1 x2, Frame w a (State.takeReply s x1 x2) := by
  intro x1 x2
  unfold State.takeReply; try dsimp only
  repeat' first
    | with_reducible assumption
    | with_reducible apply Frame.recordLookup
    | with_reducible apply Frame.returnReserve
    | with_reducible apply Frame.freeVal
    | with_reducible apply Frame.lookupLost
    | with_reducible apply Frame.lookupDone
    | with_reducible apply Frame.ite
    | split
    | refine Frame.of2 (by with_reducible assumption) ?_
    | exact Sub.trans (by decide) k

theorem Frame.latency {w : Nat} {a s : State} (h : Frame w a s) (k : Sub 0x20000000000000000 w) : ∀ x1, Frame w a (State.latency s x1) := by
  intro x1
  unfold State.latency; try dsimp only
  repeat' first
    | with_reducible assumption
    | with_reducible apply Frame.put
    | with_reducible apply Frame.flag
    | with_reducible apply Frame.countSat
    | with_reducible apply Frame.ite
    | exact RegOk.page k (by decide)
    | exact PageOk.page k (by decide)

theorem Frame.takeFrame {w : Nat} {a s : State} (h : Frame w a s) (k : Sub 0xC0000000000101BD w) : ∀ x1, Frame w a (State.takeFrame s x1) := by
  intro x1
  unfold State.takeFrame; try dsimp only
  repeat' first
    | with_reducible assumption
    | with_reducible apply Frame.queueFrame
    | with_reducible apply Frame.setHvl
    | with_reducible apply Frame.storeChain
    | with_reducible apply Frame.hvlSend
    | refine Frame.takeBlocks ?_ ?_ _ _ _ _ (by with_reducible assumption)
    | with_reducible apply Frame.freeAll
    | with_reducible apply Frame.ite
    | split
    | with_reducible apply Frame.upd
    | with_reducible rfl
    | with_reducible exact OtpKept.refl _
    | with_reducible exact Or.inr rfl
    | exact Or.inl (k.bit (by decide))
    | exact Sub.trans (by decide) k

theorem Frame.takeFwdAck {w : Nat} {a s : State} (h : Frame w a s) (k : Sub 0x24000000000000038 w) : ∀ x1, Frame w a (State.takeFwdAck s x1) := by
  intro x1
  unfold State.takeFwdAck; try dsimp only
  repeat' first
    | with_reducible assumption
    | with_reducible apply Frame.setHvl
    | with_reducible apply Frame.forwardKick
    | with_reducible apply Frame.freeAll
    | with_reducible apply Frame.countSat
    | with_reducible apply Frame.ite
    | split
    | with_reducible apply Frame.upd
    | with_reducible rfl
    | with_reducible exact OtpKept.refl _
    | with_reducible exact Or.inr rfl
    | exact Or.inl (k.bit (by decide))
    | exact Sub.trans (by decide) k
    | exact RegOk.page k (by decide)

theorem Frame.sendKept {w : Nat} {a s : State} (h : Frame w a s) (k : Sub 0x20 w) : ∀ x1, Frame w a (State.sendKept s x1) := by
  intro x1
  unfold State.sendKept; try dsimp only
  repeat' first
    | with_reducible assumption
    | with_reducible apply Frame.sendChars
    | exact Sub.trans (by decide) k

theorem Frame.resend {w : Nat} {a s : State} (h : Frame w a s) (k : Sub 0x20000000000000020 w) : ∀ x1 x2, Frame w a (State.resend s x1 x2) := by
  intro x1 x2
  unfold State.resend; try dsimp only
  repeat' first
    | with_reducible assumption
    | with_reducible apply Frame.sendChars
    | with_reducible apply Frame.countSat
    | with_reducible apply Frame.setHop
    | with_reducible apply Frame.ite
    | with_reducible apply Frame.upd
    | with_reducible rfl
    | with_reducible exact OtpKept.refl _
    | with_reducible exact Or.inr rfl
    | exact Or.inl (k.bit (by decide))
    | exact Sub.trans (by decide) k
    | exact RegOk.page k (by decide)

theorem Frame.retrain {w : Nat} {a s : State} (h : Frame w a s) (k : Sub 0x20 w) : ∀ x1, Frame w a (State.retrain s x1) := by
  intro x1
  unfold State.retrain; try dsimp only
  repeat' first
    | with_reducible assumption
    | with_reducible apply Frame.setHop
    | with_reducible apply Frame.upd
    | with_reducible rfl
    | with_reducible exact OtpKept.refl _
    | with_reducible exact Or.inr rfl
    | exact Or.inl (k.bit (by decide))
    | exact Sub.trans (by decide) k

theorem Frame.sendFailed {w : Nat} {a s : State} (h : Frame w a s) (k : Sub 0x20 w) : ∀ x1 x2, Frame w a (State.sendFailed s x1 x2) := by
  intro x1 x2
  unfold State.sendFailed; try dsimp only
  repeat' first
    | with_reducible assumption
    | with_reducible apply Frame.retrain
    | with_reducible apply Frame.setHop
    | with_reducible apply Frame.ite
    | split
    | with_reducible apply Frame.upd
    | with_reducible rfl
    | with_reducible exact OtpKept.refl _
    | with_reducible exact Or.inr rfl
    | exact Or.inl (k.bit (by decide))
    | exact Sub.trans (by decide) k

theorem Frame.execTrainingDone {w : Nat} {a s : State} (h : Frame w a s) (k : Sub 0x20000000000000020 w) : ∀ x0 x1 x2, FrameAll w a (Machine.execTrainingDone x0 x1 x2 s) := by
  intro x0 x1 x2
  unfold Machine.execTrainingDone; try dsimp only
  repeat' first
    | with_reducible assumption
    | with_reducible apply Frame.setLanes
    | with_reducible apply Frame.stopPort
    | with_reducible apply Frame.sendHello
    | with_reducible apply Frame.flag
    | with_reducible apply Frame.setPageSt
    | with_reducible apply Frame.sendKept
    | with_reducible apply Frame.setHop
    | with_reducible apply Frame.ite
    | with_reducible apply FrameAll.ite
    | with_reducible apply FrameAll.next
    | split
    | with_reducible apply Frame.upd
    | with_reducible rfl
    | with_reducible exact OtpKept.refl _
    | with_reducible exact Or.inr rfl
    | exact Or.inl (k.bit (by decide))
    | exact Sub.trans (by decide) k
    | exact PageOk.page k (by decide)

theorem Frame.execHello {w : Nat} {a s : State} (h : Frame w a s) (k : Sub 0x1400000000001813D w) : ∀ x0, FrameAll w a (Machine.execHello x0 s) := by
  intro x0
  unfold Machine.execHello; try dsimp only
  repeat' first
    | with_reducible assumption
    | with_reducible apply Frame.setHvl
    | with_reducible apply Frame.hvlSend
    | with_reducible refine Frame.arrive ?_ ?_ (fun _ _ => ?_)
    | with_reducible apply Frame.ite
    | with_reducible apply FrameAll.ite
    | with_reducible apply FrameAll.next
    | with_reducible apply Frame.upd
    | with_reducible rfl
    | with_reducible exact OtpKept.refl _
    | with_reducible exact Or.inr rfl
    | exact Or.inl (k.bit (by decide))
    | exact Sub.trans (by decide) k

theorem Frame.execWelcome {w : Nat} {a s : State} (h : Frame w a s) (k : Sub 0x3400000200001813D w) : ∀ x0, FrameAll w a (Machine.execWelcome x0 s) := by
  intro x0
  unfold Machine.execWelcome; try dsimp only
  repeat' first
    | with_reducible assumption
    | with_reducible apply Frame.setHvl
    | with_reducible apply Frame.put
    | with_reducible refine Frame.arrive ?_ ?_ (fun _ _ => ?_)
    | with_reducible apply Frame.setPageSt
    | with_reducible apply Frame.ite
    | with_reducible apply FrameAll.ite
    | with_reducible apply FrameAll.next
    | with_reducible apply Frame.upd
    | with_reducible rfl
    | with_reducible exact OtpKept.refl _
    | with_reducible exact Or.inr rfl
    | exact Or.inl (k.bit (by decide))
    | exact Sub.trans (by decide) k
    | exact RegOk.page k (by decide)
    | exact PageOk.page k (by decide)

theorem Frame.execTime {w : Nat} {a s : State} (h : Frame w a s) (k : Sub 0x1400000000001813D w) : ∀ x0, FrameAll w a (Machine.execTime x0 s) := by
  intro x0
  unfold Machine.execTime; try dsimp only
  repeat' first
    | with_reducible assumption
    | with_reducible apply Frame.setHvl
    | with_reducible refine Frame.arrive ?_ ?_ (fun _ _ => ?_)
    | with_reducible apply Frame.ite
    | with_reducible apply FrameAll.ite
    | with_reducible apply FrameAll.next
    | with_reducible apply Frame.upd
    | with_reducible rfl
    | with_reducible exact OtpKept.refl _
    | with_reducible exact Or.inr rfl
    | exact Or.inl (k.bit (by decide))
    | exact Sub.trans (by decide) k

theorem Frame.execHvlSyncEdge {w : Nat} {a s : State} (h : Frame w a s) (k : Sub 0x200000420000202E4 w) : FrameAll w a (Machine.execHvlSyncEdge s) := by
  unfold Machine.execHvlSyncEdge; try dsimp only
  repeat' first
    | with_reducible assumption
    | with_reducible apply Frame.slowCount
    | with_reducible apply Frame.setHvl
    | with_reducible apply Frame.ite
    | with_reducible apply FrameAll.ite
    | with_reducible apply FrameAll.next
    | with_reducible apply Frame.upd
    | with_reducible rfl
    | with_reducible exact OtpKept.refl _
    | with_reducible exact Or.inr rfl
    | exact Or.inl (k.bit (by decide))
    | exact Sub.trans (by decide) k

theorem Frame.execSyncMarker {w : Nat} {a s : State} (h : Frame w a s) (k : Sub 0x135BC00020000183FD w) : FrameAll w a (Machine.execSyncMarker s) := by
  unfold Machine.execSyncMarker; try dsimp only
  repeat' first
    | with_reducible assumption
    | with_reducible apply Frame.setHvl
    | with_reducible apply Frame.syncLost
    | with_reducible apply Frame.joinNow
    | with_reducible apply Frame.ite
    | with_reducible apply FrameAll.ite
    | with_reducible apply FrameAll.next
    | split
    | with_reducible apply Frame.upd
    | with_reducible rfl
    | with_reducible exact OtpKept.refl _
    | with_reducible exact Or.inr rfl
    | exact Or.inl (k.bit (by decide))
    | exact Sub.trans (by decide) k

theorem Frame.execMissingEdge {w : Nat} {a s : State} (h : Frame w a s) (k : Sub 0x135BC00420000383FD w) : FrameAll w a (Machine.execMissingEdge s) := by
  unfold Machine.execMissingEdge; try dsimp only
  repeat' first
    | with_reducible assumption
    | with_reducible apply Frame.slowCount
    | with_reducible apply Frame.setHvl
    | with_reducible apply Frame.syncLost
    | with_reducible apply Frame.countSat
    | with_reducible apply Frame.ite
    | with_reducible apply FrameAll.ite
    | with_reducible apply FrameAll.next
    | with_reducible apply Frame.upd
    | with_reducible rfl
    | with_reducible exact OtpKept.refl _
    | with_reducible exact Or.inr rfl
    | exact Or.inl (k.bit (by decide))
    | exact Sub.trans (by decide) k
    | exact RegOk.page k (by decide)
    | exact RegOk.all k (by decide)

theorem Frame.execHvlLookup {w : Nat} {a s : State} (h : Frame w a s) (k : Sub 0x758800000000181BD w) : ∀ x0, FrameAll w a (Machine.execHvlLookup x0 s) := by
  intro x0
  unfold Machine.execHvlLookup; try dsimp only
  repeat' first
    | with_reducible assumption
    | with_reducible apply Frame.answerLookup
    | with_reducible refine Frame.arrive ?_ ?_ (fun _ _ => ?_)
    | with_reducible apply FrameAll.next
    | exact Sub.trans (by decide) k

theorem Frame.execReply {w : Nat} {a s : State} (h : Frame w a s) (k : Sub 0x3400000000001813D w) : ∀ x0 x1, FrameAll w a (Machine.execReply x0 x1 s) := by
  intro x0 x1
  unfold Machine.execReply; try dsimp only
  repeat' first
    | with_reducible assumption
    | with_reducible apply Frame.answered
    | with_reducible apply Frame.latency
    | with_reducible apply Frame.takeReply
    | with_reducible refine Frame.arrive ?_ ?_ (fun _ _ => ?_)
    | with_reducible apply FrameAll.next
    | split
    | exact Sub.trans (by decide) k

end Sys2Proof.Machine
end

