-- ==== Sys2Proof/Laws/Frame4.lean ====
section
/-! SUPPORT. What the operations leave as it was (Laws/Frame.lean): Cascade, Interrupts, Flash, Ports, Clocks, PowerStates, Faults. -/

set_option linter.unusedTactic false
set_option linter.unreachableTactic false

namespace Sys2Proof.Machine

theorem Frame.execVerdict {w : Nat} {a s : State} (h : Frame w a s) (k : Sub 0x1400000000001813D w) : ∀ x0, FrameAll w a (Machine.execVerdict x0 s) := by
  intro x0
  unfold Machine.execVerdict; try dsimp only
  repeat' first
    | with_reducible assumption
    | with_reducible apply Frame.applyVerdict
    | with_reducible apply Frame.setHvl
    | with_reducible refine Frame.arrive ?_ ?_ (fun _ _ => ?_)
    | with_reducible apply Frame.ite
    | with_reducible apply FrameAll.ite
    | with_reducible apply FrameAll.next
    | with_reducible apply Frame.upd
    | with_reducible rfl
    | with_reducible exact OtpKept.refl _
    | with_reducible exact Or.inr rfl
    | exact Or.inl (k.bit (by decide))
    | exact Sub.trans (by decide) k

theorem Frame.execNbtCmd {w : Nat} {a s : State} (h : Frame w a s) (k : Sub 0x758800000000181BD w) : ∀ x0, FrameAll w a (Machine.execNbtCmd x0 s) := by
  intro x0
  unfold Machine.execNbtCmd; try dsimp only
  repeat' first
    | with_reducible assumption
    | with_reducible apply Frame.sendParts
    | with_reducible apply Frame.nbtExec
    | with_reducible refine Frame.arrive ?_ ?_ (fun _ _ => ?_)
    | with_reducible apply Frame.assemble
    | with_reducible apply Frame.ite
    | with_reducible apply FrameAll.ite
    | with_reducible apply FrameAll.next
    | split
    | refine Frame.of2 (by with_reducible assumption) ?_
    | refine Frame.of5 (by with_reducible assumption) ?_
    | exact Sub.trans (by decide) k

theorem Frame.execNbtRes {w : Nat} {a s : State} (h : Frame w a s) (k : Sub 0x1400000000001813D w) : ∀ x0, FrameAll w a (Machine.execNbtRes x0 s) := by
  intro x0
  unfold Machine.execNbtRes; try dsimp only
  repeat' first
    | with_reducible assumption
    | with_reducible apply Frame.entryGone
    | with_reducible apply Frame.answered
    | with_reducible apply Frame.nbtComplete
    | with_reducible refine Frame.arrive ?_ ?_ (fun _ _ => ?_)
    | with_reducible apply Frame.assemble
    | with_reducible apply Frame.ite
    | with_reducible apply FrameAll.ite
    | with_reducible apply FrameAll.next
    | split
    | refine Frame.of2 (by with_reducible assumption) ?_
    | exact Sub.trans (by decide) k

theorem Frame.execEntry {w : Nat} {a s : State} (h : Frame w a s) (k : Sub 0x1400000000001813D w) : ∀ x0, FrameAll w a (Machine.execEntry x0 s) := by
  intro x0
  unfold Machine.execEntry; try dsimp only
  repeat' first
    | with_reducible assumption
    | with_reducible apply Frame.sendParts
    | with_reducible apply Frame.entCmd
    | with_reducible refine Frame.arrive ?_ ?_ (fun _ _ => ?_)
    | with_reducible apply Frame.assemble
    | with_reducible apply Frame.ite
    | with_reducible apply FrameAll.ite
    | with_reducible apply FrameAll.next
    | split
    | refine Frame.of2 (by with_reducible assumption) ?_
    | refine Frame.of3 (by with_reducible assumption) ?_
    | exact Sub.trans (by decide) k

theorem Frame.execEntryRes {w : Nat} {a s : State} (h : Frame w a s) (k : Sub 0x1400000000001813D w) : ∀ x0, FrameAll w a (Machine.execEntryRes x0 s) := by
  intro x0
  unfold Machine.execEntryRes; try dsimp only
  repeat' first
    | with_reducible assumption
    | with_reducible apply Frame.answered
    | with_reducible apply Frame.setRegI
    | with_reducible refine Frame.arrive ?_ ?_ (fun _ _ => ?_)
    | with_reducible apply Frame.stage
    | with_reducible apply Frame.assemble
    | with_reducible apply Frame.ite
    | with_reducible apply FrameAll.ite
    | with_reducible apply FrameAll.next
    | split
    | refine Frame.of2 (by with_reducible assumption) ?_
    | exact Sub.trans (by decide) k

theorem Frame.execFrame {w : Nat} {a s : State} (h : Frame w a s) (k : Sub 0x1C0000000000181BD w) : ∀ x0, FrameAll w a (Machine.execFrame x0 s) := by
  intro x0
  unfold Machine.execFrame; try dsimp only
  repeat' first
    | with_reducible assumption
    | with_reducible apply Frame.takeFrame
    | with_reducible refine Frame.arrive ?_ ?_ (fun _ _ => ?_)
    | with_reducible apply Frame.ite
    | with_reducible apply FrameAll.ite
    | with_reducible apply FrameAll.next
    | exact Sub.trans (by decide) k

theorem Frame.execFwdAck {w : Nat} {a s : State} (h : Frame w a s) (k : Sub 0x3400000000001813D w) : ∀ x0, FrameAll w a (Machine.execFwdAck x0 s) := by
  intro x0
  unfold Machine.execFwdAck; try dsimp only
  repeat' first
    | with_reducible assumption
    | with_reducible apply Frame.takeFwdAck
    | with_reducible refine Frame.arrive ?_ ?_ (fun _ _ => ?_)
    | with_reducible apply FrameAll.next
    | exact Sub.trans (by decide) k

theorem Frame.execForwardResend {w : Nat} {a s : State} (h : Frame w a s) (k : Sub 0x20 w) : FrameAll w a (Machine.execForwardResend s) := by
  unfold Machine.execForwardResend; try dsimp only
  repeat' first
    | with_reducible assumption
    | with_reducible apply Frame.forwardSend
    | with_reducible apply Frame.ite
    | with_reducible apply FrameAll.ite
    | with_reducible apply FrameAll.next
    | exact Sub.trans (by decide) k

theorem Frame.execLinkDown {w : Nat} {a s : State} (h : Frame w a s) (k : Sub 0x340000000000181BD w) : ∀ x0, FrameAll w a (Machine.execLinkDown x0 s) := by
  intro x0
  unfold Machine.execLinkDown; try dsimp only
  repeat' first
    | with_reducible assumption
    | with_reducible refine Frame.arrive ?_ ?_ (fun _ _ => ?_)
    | with_reducible apply Frame.membersLost
    | with_reducible apply Frame.ite
    | with_reducible apply FrameAll.ite
    | with_reducible apply FrameAll.next
    | exact Sub.trans (by decide) k

theorem Frame.execPacketAck {w : Nat} {a s : State} (h : Frame w a s) (k : Sub 0x20 w) : ∀ x0 x1, FrameAll w a (Machine.execPacketAck x0 x1 s) := by
  intro x0 x1
  unfold Machine.execPacketAck; try dsimp only
  repeat' first
    | with_reducible assumption
    | with_reducible apply Frame.setHvl
    | with_reducible apply Frame.setHop
    | with_reducible apply Frame.ite
    | with_reducible apply FrameAll.ite
    | with_reducible apply FrameAll.next
    | split
    | with_reducible apply Frame.upd
    | with_reducible rfl
    | with_reducible exact OtpKept.refl _
    | with_reducible exact Or.inr rfl
    | exact Or.inl (k.bit (by decide))
    | exact Sub.trans (by decide) k

theorem Frame.execPacketNak {w : Nat} {a s : State} (h : Frame w a s) (k : Sub 0x20 w) : ∀ x0 x1, FrameAll w a (Machine.execPacketNak x0 x1 s) := by
  intro x0 x1
  unfold Machine.execPacketNak; try dsimp only
  repeat' first
    | with_reducible assumption
    | with_reducible apply Frame.sendFailed
    | with_reducible apply Frame.ite
    | with_reducible apply FrameAll.ite
    | with_reducible apply FrameAll.next
    | exact Sub.trans (by decide) k

theorem Frame.badCopy {w : Nat} {a s : State} (h : Frame w a s) (k : Sub 0x20 w) : ∀ x1, Frame w a (State.badCopy s x1) := by
  intro x1
  unfold State.badCopy; try dsimp only
  repeat' first
    | with_reducible assumption
    | with_reducible apply Frame.sendChars
    | with_reducible apply Frame.ite
    | with_reducible apply Frame.upd
    | with_reducible rfl
    | with_reducible exact OtpKept.refl _
    | with_reducible exact Or.inr rfl
    | exact Or.inl (k.bit (by decide))
    | exact Sub.trans (by decide) k

theorem Frame.execPacketCrcFail {w : Nat} {a s : State} (h : Frame w a s) (k : Sub 0x175BC00000000181BD w) : ∀ x0 x1 x2, FrameAll w a (Machine.execPacketCrcFail x0 x1 x2 s) := by
  intro x0 x1 x2
  unfold Machine.execPacketCrcFail; try dsimp only
  repeat' first
    | with_reducible assumption
    | with_reducible apply Frame.sendChars
    | with_reducible apply Frame.reportFault
    | with_reducible apply Frame.badCopy
    | with_reducible apply Frame.flag
    | with_reducible apply Frame.laneEffect
    | with_reducible apply Frame.countSat
    | with_reducible apply Frame.setHop
    | with_reducible apply Frame.ite
    | with_reducible apply FrameAll.ite
    | with_reducible apply FrameAll.next
    | with_reducible apply Frame.upd
    | with_reducible rfl
    | with_reducible exact OtpKept.refl _
    | with_reducible exact Or.inr rfl
    | exact Or.inl (k.bit (by decide))
    | exact Sub.trans (by decide) k
    | exact RegOk.page k (by decide)
    | exact PageOk.page k (by decide)

theorem Frame.execResendTimeout {w : Nat} {a s : State} (h : Frame w a s) (k : Sub 0x20000000000000020 w) : ∀ x0 x1, FrameAll w a (Machine.execResendTimeout x0 x1 s) := by
  intro x0 x1
  unfold Machine.execResendTimeout; try dsimp only
  repeat' first
    | with_reducible assumption
    | with_reducible apply Frame.resend
    | with_reducible apply Frame.sendFailed
    | with_reducible apply Frame.ite
    | with_reducible apply FrameAll.ite
    | with_reducible apply FrameAll.next
    | split
    | exact Sub.trans (by decide) k

theorem Frame.execRetrainDone {w : Nat} {a s : State} (h : Frame w a s) (k : Sub 0x135BC00000000181BD w) : ∀ x0 x1, FrameAll w a (Machine.execRetrainDone x0 x1 s) := by
  intro x0 x1
  unfold Machine.execRetrainDone; try dsimp only
  repeat' first
    | with_reducible assumption
    | with_reducible apply Frame.setLanes
    | with_reducible apply Frame.hopDown
    | with_reducible apply Frame.sendKept
    | with_reducible apply Frame.countSat
    | with_reducible apply Frame.setHop
    | with_reducible refine Frame.foldl ?_ (fun _ _ _ => ?_)
    | with_reducible refine Frame.foldl2 ?_ (fun _ _ _ => ?_)
    | with_reducible apply Frame.ite
    | with_reducible apply FrameAll.ite
    | with_reducible apply FrameAll.next
    | with_reducible apply Frame.upd
    | with_reducible rfl
    | with_reducible exact OtpKept.refl _
    | with_reducible exact Or.inr rfl
    | exact Or.inl (k.bit (by decide))
    | exact Sub.trans (by decide) k
    | exact RegOk.page k (by decide)

theorem Frame.execHopDown {w : Nat} {a s : State} (h : Frame w a s) (k : Sub 0x135BC00000000181BD w) : ∀ x0, FrameAll w a (Machine.execHopDown x0 s) := by
  intro x0
  unfold Machine.execHopDown; try dsimp only
  repeat' first
    | with_reducible assumption
    | with_reducible apply Frame.hopDown
    | with_reducible apply Frame.ite
    | with_reducible apply FrameAll.ite
    | with_reducible apply FrameAll.next
    | exact Sub.trans (by decide) k

theorem Frame.execPrbsTestDone {w : Nat} {a s : State} (h : Frame w a s) (k : Sub 0x175BC00000000181BD w) : ∀ x0 x1 x2, FrameAll w a (Machine.execPrbsTestDone x0 x1 x2 s) := by
  intro x0 x1 x2
  unfold Machine.execPrbsTestDone; try dsimp only
  repeat' first
    | with_reducible assumption
    | with_reducible apply Frame.reportFault
    | with_reducible apply Frame.setFaultTimes
    | with_reducible apply Frame.laneEffect
    | with_reducible apply Frame.setHop
    | with_reducible apply Frame.ite
    | with_reducible apply FrameAll.ite
    | with_reducible apply FrameAll.next
    | with_reducible apply Frame.upd
    | with_reducible rfl
    | with_reducible exact OtpKept.refl _
    | with_reducible exact Or.inr rfl
    | exact Or.inl (k.bit (by decide))
    | exact Sub.trans (by decide) k

theorem Frame.execNoTimeWithin16Ms {w : Nat} {a s : State} (h : Frame w a s) (k : Sub 0x20000000000000000 w) : FrameAll w a (Machine.execNoTimeWithin16Ms s) := by
  unfold Machine.execNoTimeWithin16Ms; try dsimp only
  repeat' first
    | with_reducible assumption
    | with_reducible apply Frame.put
    | with_reducible apply Frame.ite
    | with_reducible apply FrameAll.ite
    | with_reducible apply FrameAll.next
    | exact RegOk.page k (by decide)

theorem Frame.execReservedTypePacket {w : Nat} {a s : State} (h : Frame w a s) (k : Sub 0x20000000000000020 w) : ∀ x0, FrameAll w a (Machine.execReservedTypePacket x0 s) := by
  intro x0
  unfold Machine.execReservedTypePacket; try dsimp only
  repeat' first
    | with_reducible assumption
    | with_reducible apply Frame.receive
    | with_reducible apply Frame.countSat
    | with_reducible apply Frame.ite
    | with_reducible apply FrameAll.ite
    | with_reducible apply FrameAll.next
    | split
    | refine Frame.of2 (by with_reducible assumption) ?_
    | exact Sub.trans (by decide) k
    | exact RegOk.page k (by decide)

theorem Frame.icuClaim {w : Nat} {a s : State} (h : Frame w a s) (k : Sub 0x400 w) : ∀ x1, Frame w a (State.icuClaim s x1).2 := by
  intro x1
  unfold State.icuClaim; try dsimp only
  repeat' first
    | with_reducible assumption
    | with_reducible apply Frame.ite
    | with_reducible apply Frame.ite2
    | split
    | with_reducible apply Frame.upd
    | with_reducible rfl
    | with_reducible exact OtpKept.refl _
    | with_reducible exact Or.inr rfl
    | exact Or.inl (k.bit (by decide))

theorem Frame.icuComplete {w : Nat} {a s : State} (h : Frame w a s) (k : Sub 0x400 w) : ∀ x1 x2, Frame w a (State.icuComplete s x1 x2) := by
  intro x1 x2
  unfold State.icuComplete; try dsimp only
  repeat' first
    | with_reducible assumption
    | with_reducible apply Frame.ite
    | split
    | with_reducible apply Frame.upd
    | with_reducible rfl
    | with_reducible exact OtpKept.refl _
    | with_reducible exact Or.inr rfl
    | exact Or.inl (k.bit (by decide))

theorem Frame.dropLines {w : Nat} {a s : State} (h : Frame w a s) (k : Sub 0x400 w) : ∀ x1, Frame w a (State.dropLines s x1) := by
  intro x1
  unfold State.dropLines; try dsimp only
  repeat' first
    | with_reducible assumption
    | with_reducible apply Frame.upd
    | with_reducible rfl
    | with_reducible exact OtpKept.refl _
    | with_reducible exact Or.inr rfl
    | exact Or.inl (k.bit (by decide))

theorem Frame.dropRange {w : Nat} {a s : State} (h : Frame w a s) (k : Sub 0x400 w) : ∀ x1 x2, Frame w a (State.dropRange s x1 x2) := by
  intro x1 x2
  unfold State.dropRange; try dsimp only
  repeat' first
    | with_reducible assumption
    | with_reducible apply Frame.dropLines
    | exact Sub.trans (by decide) k

theorem Frame.cacheInvWrite {w : Nat} {a s : State} (h : Frame w a s) (k : Sub 0x400 w) : ∀ x1 x2, Frame w a (State.cacheInvWrite s x1 x2) := by
  intro x1 x2
  unfold State.cacheInvWrite; try dsimp only
  repeat' first
    | with_reducible assumption
    | with_reducible apply Frame.dropLines
    | with_reducible apply Frame.ite
    | split
    | exact Sub.trans (by decide) k

theorem Frame.cacheFill {w : Nat} {a s : State} (h : Frame w a s) (k : Sub 0x10400 w) : ∀ x1 x2 x3, Frame w a (State.cacheFill s x1 x2 x3) := by
  intro x1 x2 x3
  unfold State.cacheFill; try dsimp only
  repeat' first
    | with_reducible assumption
    | with_reducible apply Frame.dropLines
    | with_reducible apply Frame.freeVal
    | with_reducible apply Frame.ite
    | split
    | refine Frame.of2 (by with_reducible assumption) ?_
    | with_reducible apply Frame.upd
    | with_reducible rfl
    | with_reducible exact OtpKept.refl _
    | with_reducible exact Or.inr rfl
    | exact Or.inl (k.bit (by decide))
    | exact Sub.trans (by decide) k

theorem Frame.mboxWrite {w : Nat} {a s : State} (h : Frame w a s) (k : Sub 0x400000000000000400 w) : ∀ x1 x2 x3, Frame w a (State.mboxWrite s x1 x2 x3) := by
  intro x1 x2 x3
  unfold State.mboxWrite; try dsimp only
  repeat' first
    | with_reducible assumption
    | with_reducible apply Frame.flag
    | with_reducible apply Frame.ite
    | with_reducible apply Frame.upd
    | with_reducible rfl
    | with_reducible exact OtpKept.refl _
    | with_reducible exact Or.inr rfl
    | exact Or.inl (k.bit (by decide))
    | exact PageOk.page k (by decide)

theorem Frame.mboxRead {w : Nat} {a s : State} (h : Frame w a s) (k : Sub 0x400000000000000400 w) : ∀ x1 x2, Frame w a (State.mboxRead s x1 x2).2 := by
  intro x1 x2
  unfold State.mboxRead; try dsimp only
  repeat' first
    | with_reducible assumption
    | with_reducible apply Frame.flag
    | with_reducible apply Frame.ite
    | with_reducible apply Frame.ite2
    | split
    | with_reducible apply Frame.upd
    | with_reducible rfl
    | with_reducible exact OtpKept.refl _
    | with_reducible exact Or.inr rfl
    | exact Or.inl (k.bit (by decide))
    | exact PageOk.page k (by decide)

theorem Frame.icuRead {w : Nat} {a s : State} (h : Frame w a s) (k : Sub 0x400000000000000400 w) : ∀ x1 x2 x3, Frame w a (State.icuRead s x1 x2 x3).2 := by
  intro x1 x2 x3
  unfold State.icuRead; try dsimp only
  repeat' first
    | with_reducible assumption
    | with_reducible apply Frame.mboxRead
    | with_reducible apply Frame.icuClaim
    | with_reducible apply Frame.ite
    | with_reducible apply Frame.ite2
    | refine Frame.of2 (by with_reducible assumption) ?_
    | exact Sub.trans (by decide) k

theorem Frame.icuWrite {w : Nat} {a s : State} (h : Frame w a s) (k : Sub 0x400000000000000400 w) : ∀ x1 x2 x3, Frame w a (State.icuWrite s x1 x2 x3) := by
  intro x1 x2 x3
  unfold State.icuWrite; try dsimp only
  repeat' first
    | with_reducible assumption
    | with_reducible apply Frame.mboxWrite
    | with_reducible apply Frame.cacheInvWrite
    | with_reducible apply Frame.icuComplete
    | with_reducible apply Frame.ite
    | exact Sub.trans (by decide) k

theorem Frame.icuRestart {w : Nat} {a s : State} (h : Frame w a s) (k : Sub 0x400 w) : ∀ x1, Frame w a (State.icuRestart s x1) := by
  intro x1
  unfold State.icuRestart; try dsimp only
  repeat' first
    | with_reducible assumption
    | with_reducible apply Frame.dropLines
    | with_reducible apply Frame.ite
    | with_reducible apply Frame.upd
    | with_reducible rfl
    | with_reducible exact OtpKept.refl _
    | with_reducible exact Or.inr rfl
    | exact Or.inl (k.bit (by decide))
    | exact Sub.trans (by decide) k

theorem Frame.hartsSet {w : Nat} {a s : State} (h : Frame w a s) (k : Sub 0x800000000000020000 w) : ∀ x1 x2, Frame w a (Machine.hartsSet s x1 x2) := by
  intro x1 x2
  unfold Machine.hartsSet; try dsimp only
  repeat' first
    | with_reducible assumption
    | with_reducible apply Frame.put
    | with_reducible apply Frame.ite
    | exact RegOk.page k (by decide)
    | exact RegOk.all k (by decide)

theorem Frame.execDebugHalt {w : Nat} {a s : State} (h : Frame w a s) (k : Sub 0x800000000000020000 w) : ∀ x0, FrameAll w a (Machine.execDebugHalt x0 s) := by
  intro x0
  unfold Machine.execDebugHalt; try dsimp only
  repeat' first
    | with_reducible assumption
    | with_reducible apply Frame.connected
    | with_reducible apply Frame.hartsSet
    | with_reducible apply Frame.ite
    | with_reducible apply FrameAll.ite
    | with_reducible apply FrameAll.next
    | exact Sub.trans (by decide) k

theorem Frame.execDebugResume {w : Nat} {a s : State} (h : Frame w a s) (k : Sub 0x800000000000020000 w) : ∀ x0, FrameAll w a (Machine.execDebugResume x0 s) := by
  intro x0
  unfold Machine.execDebugResume; try dsimp only
  repeat' first
    | with_reducible assumption
    | with_reducible apply Frame.connected
    | with_reducible apply Frame.hartsSet
    | with_reducible apply Frame.ite
    | with_reducible apply FrameAll.ite
    | with_reducible apply FrameAll.next
    | exact Sub.trans (by decide) k

theorem Frame.setFlash {w : Nat} {a s : State} (h : Frame w a s) (k : Sub 0x800 w) : ∀ x1, Frame w a (State.setFlash s x1) := by
  intro x1
  unfold State.setFlash; try dsimp only
  repeat' first
    | with_reducible assumption
    | with_reducible apply Frame.upd
    | with_reducible rfl
    | with_reducible exact OtpKept.refl _
    | with_reducible exact Or.inr rfl
    | exact Or.inl (k.bit (by decide))

theorem Frame.flashNat {w : Nat} {a s : State} (h : Frame w a s) (k : Sub 0x10000 w) : ∀ x1 x2, Frame w a (State.flashNat s x1 x2).2 := by
  intro x1 x2
  unfold State.flashNat; try dsimp only
  repeat' first
    | with_reducible assumption
    | with_reducible apply Frame.freeVal
    | with_reducible apply Frame.ite
    | with_reducible apply Frame.ite2
    | split
    | refine Frame.of2 (by with_reducible assumption) ?_
    | exact Sub.trans (by decide) k

theorem Frame.flashBytes {w : Nat} {a s : State} (h : Frame w a s) (k : Sub 0x10000 w) : ∀ x1 x2, Frame w a (State.flashBytes s x1 x2).2 := by
  intro x1 x2
  unfold State.flashBytes; try dsimp only
  repeat' first
    | with_reducible assumption
    | with_reducible apply Frame.freeVal
    | with_reducible refine Frame.foldl ?_ (fun _ _ _ => ?_)
    | with_reducible refine Frame.foldl2 ?_ (fun _ _ _ => ?_)
    | with_reducible apply Frame.ite
    | with_reducible apply Frame.ite2
    | split
    | refine Frame.of2 (by with_reducible assumption) ?_
    | exact Sub.trans (by decide) k

theorem Frame.prefetchEmpty {w : Nat} {a s : State} (h : Frame w a s) (k : Sub 0x800 w) : ∀ x1, Frame w a (State.prefetchEmpty s x1) := by
  intro x1
  unfold State.prefetchEmpty; try dsimp only
  repeat' first
    | with_reducible assumption
    | with_reducible apply Frame.setFlash
    | with_reducible apply Frame.upd
    | with_reducible rfl
    | with_reducible exact OtpKept.refl _
    | with_reducible exact Or.inr rfl
    | exact Or.inl (k.bit (by decide))
    | exact Sub.trans (by decide) k

theorem Frame.prefetchNext {w : Nat} {a s : State} (h : Frame w a s) (k : Sub 0x800 w) : ∀ x1, Frame w a (State.prefetchNext s x1) := by
  intro x1
  unfold State.prefetchNext; try dsimp only
  repeat' first
    | with_reducible assumption
    | with_reducible apply Frame.setFlash
    | with_reducible apply Frame.ite
    | with_reducible apply Frame.upd
    | with_reducible rfl
    | with_reducible exact OtpKept.refl _
    | with_reducible exact Or.inr rfl
    | exact Or.inl (k.bit (by decide))
    | exact Sub.trans (by decide) k

theorem Frame.eraseSector {w : Nat} {a s : State} (h : Frame w a s) (k : Sub 0x901 w) : ∀ x1, Frame w a (State.eraseSector s x1) := by
  intro x1
  unfold State.eraseSector; try dsimp only
  repeat' first
    | with_reducible assumption
    | with_reducible apply Frame.clearRange
    | with_reducible apply Frame.setFlash
    | with_reducible apply Frame.upd
    | with_reducible rfl
    | with_reducible exact OtpKept.refl _
    | with_reducible exact Or.inr rfl
    | exact Or.inl (k.bit (by decide))
    | exact Sub.trans (by decide) k

theorem Frame.openBytes {w : Nat} {a s : State} (h : Frame w a s) (k : Sub 0x10101 w) : ∀ x1 x2, Frame w a (State.openBytes s x1 x2) := by
  intro x1 x2
  unfold State.openBytes; try dsimp only
  repeat' first
    | with_reducible assumption
    | with_reducible apply Frame.freeVal
    | with_reducible apply Frame.setByte
    | with_reducible refine Frame.foldl ?_ (fun _ _ _ => ?_)
    | with_reducible refine Frame.foldl2 ?_ (fun _ _ _ => ?_)
    | split
    | refine Frame.of2 (by with_reducible assumption) ?_
    | exact Sub.trans (by decide) k

theorem Frame.programUnit {w : Nat} {a s : State} (h : Frame w a s) (k : Sub 0x10101 w) : ∀ x1 x2, Frame w a (State.programUnit s x1 x2) := by
  intro x1 x2
  unfold State.programUnit; try dsimp only
  repeat' first
    | with_reducible assumption
    | with_reducible apply Frame.setBytes
    | with_reducible apply Frame.openBytes
    | with_reducible apply Frame.ite
    | exact Sub.trans (by decide) k

theorem Frame.programBytes {w : Nat} {a s : State} (h : Frame w a s) (k : Sub 0x10101 w) : ∀ x1 x2, Frame w a (State.programBytes s x1 x2) := by
  intro x1 x2
  unfold State.programBytes; try dsimp only
  repeat' first
    | with_reducible assumption
    | with_reducible apply Frame.programUnit
    | with_reducible refine Frame.foldl ?_ (fun _ _ _ => ?_)
    | with_reducible refine Frame.foldl2 ?_ (fun _ _ _ => ?_)
    | exact Sub.trans (by decide) k

theorem Frame.flashCorrected {w : Nat} {a s : State} (h : Frame w a s) (k : Sub 0x61880000000000180 w) : ∀ x1, Frame w a (State.flashCorrected s x1) := by
  intro x1
  unfold State.flashCorrected; try dsimp only
  repeat' first
    | with_reducible assumption
    | with_reducible apply Frame.event
    | with_reducible apply Frame.reportFault
    | with_reducible apply Frame.faultLog
    | with_reducible apply Frame.flag
    | with_reducible apply Frame.ite
    | with_reducible apply Frame.upd
    | with_reducible rfl
    | with_reducible exact OtpKept.refl _
    | with_reducible exact Or.inr rfl
    | exact Or.inl (k.bit (by decide))
    | exact Sub.trans (by decide) k
    | exact PageOk.page k (by decide)

theorem Frame.flcStat {w : Nat} {a s : State} (h : Frame w a s) (k : Sub 0x8000000000000 w) : Frame w a (State.flcStat s) := by
  unfold State.flcStat; try dsimp only
  repeat' first
    | with_reducible assumption
    | with_reducible apply Frame.put
    | with_reducible apply Frame.setPageSt
    | with_reducible apply Frame.ite
    | split
    | exact RegOk.page k (by decide)
    | exact PageOk.page k (by decide)

theorem Frame.slotPut {w : Nat} {a s : State} (h : Frame w a s) (k : Sub 0x20000 w) : ∀ x1 x2 x3 x4, Frame w a (State.slotPut s x1 x2 x3 x4) := by
  intro x1 x2 x3 x4
  unfold State.slotPut; try dsimp only
  repeat' first
    | with_reducible assumption
    | with_reducible apply Frame.put
    | exact RegOk.page k (by decide)
    | exact RegOk.all k (by decide)

theorem Frame.flcSubmit {w : Nat} {a s : State} (h : Frame w a s) (k : Sub 0x8000000020800 w) : ∀ x1, Frame w a (State.flcSubmit s x1).2 := by
  intro x1
  unfold State.flcSubmit; try dsimp only
  repeat' first
    | with_reducible assumption
    | with_reducible apply Frame.flcStat
    | with_reducible apply Frame.setReg
    | with_reducible apply Frame.setFlash
    | with_reducible apply Frame.ite
    | with_reducible apply Frame.ite2
    | split
    | with_reducible apply Frame.upd
    | with_reducible rfl
    | with_reducible exact OtpKept.refl _
    | with_reducible exact Or.inr rfl
    | exact Or.inl (k.bit (by decide))
    | exact Sub.trans (by decide) k
    | exact RegOk.page k (by decide)
    | exact RegOk.all k (by decide)

theorem Frame.slotDone {w : Nat} {a s : State} (h : Frame w a s) (k : Sub 0x8000000020880 w) : ∀ x1 x2 x3 x4 x5, Frame w a (State.slotDone s x1 x2 x3 x4 x5) := by
  intro x1 x2 x3 x4 x5
  unfold State.slotDone; try dsimp only
  repeat' first
    | with_reducible assumption
    | with_reducible apply Frame.slotPut
    | with_reducible apply Frame.event
    | with_reducible apply Frame.setFlash
    | with_reducible apply Frame.flag
    | with_reducible apply Frame.ite
    | with_reducible apply Frame.upd
    | with_reducible rfl
    | with_reducible exact OtpKept.refl _
    | with_reducible exact Or.inr rfl
    | exact Or.inl (k.bit (by decide))
    | exact Sub.trans (by decide) k
    | exact PageOk.page k (by decide)
    | exact PageOk.all k (by decide)

theorem Frame.flcDone {w : Nat} {a s : State} (h : Frame w a s) (k : Sub 0x28800 w) : ∀ x1, Frame w a (State.flcDone s x1).2 := by
  intro x1
  unfold State.flcDone; try dsimp only
  repeat' first
    | with_reducible assumption
    | with_reducible apply Frame.slotPut
    | with_reducible apply Frame.setRegI
    | with_reducible apply Frame.setFlash
    | with_reducible apply Frame.ite
    | with_reducible apply Frame.ite2
    | split
    | with_reducible apply Frame.upd
    | with_reducible rfl
    | with_reducible exact OtpKept.refl _
    | with_reducible exact Or.inr rfl
    | exact Or.inl (k.bit (by decide))
    | exact Sub.trans (by decide) k

theorem Frame.flcActivate {w : Nat} {a s : State} (h : Frame w a s) (k : Sub 0x8000000020C00 w) : ∀ x1, Frame w a (State.flcActivate s x1) := by
  intro x1
  unfold State.flcActivate; try dsimp only
  repeat' first
    | with_reducible assumption
    | with_reducible apply Frame.flcStat
    | with_reducible apply Frame.prefetchEmpty
    | with_reducible apply Frame.slotPut
    | with_reducible apply Frame.dropRange
    | with_reducible apply Frame.setFlash
    | with_reducible apply Frame.ite
    | split
    | with_reducible apply Frame.upd
    | with_reducible rfl
    | with_reducible exact OtpKept.refl _
    | with_reducible exact Or.inr rfl
    | exact Or.inl (k.bit (by decide))
    | exact Sub.trans (by decide) k

theorem Frame.setOp {w : Nat} {a s : State} (h : Frame w a s) (k : Sub 0x800 w) : ∀ x1, Frame w a (State.setOp s x1) := by
  intro x1
  unfold State.setOp; try dsimp only
  repeat' first
    | with_reducible assumption
    | with_reducible apply Frame.setFlash
    | with_reducible apply Frame.upd
    | with_reducible rfl
    | with_reducible exact OtpKept.refl _
    | with_reducible exact Or.inr rfl
    | exact Or.inl (k.bit (by decide))
    | exact Sub.trans (by decide) k

theorem Frame.programMore {w : Nat} {a s : State} (h : Frame w a s) (k : Sub 0x61880000000030981 w) : ∀ n, Frame w a (State.programMore s n) := by
  intro n
  induction n generalizing s
  case zero => exact h
  case succ n ih =>
    unfold State.programMore
    split
    · dsimp only
      repeat' first
        | with_reducible assumption
        | with_reducible apply Frame.ite
        | with_reducible apply Frame.setOp
        | with_reducible apply Frame.setReg
        | with_reducible apply Frame.reportFault
        | with_reducible apply Frame.flashCorrected
        | with_reducible apply Frame.flashBytes
        | with_reducible apply Frame.faultRange
        | with_reducible apply Frame.programUnit
        | with_reducible apply ih
        | split
        | refine Frame.of2 (by with_reducible assumption) ?_
        | exact Sub.trans (by decide) k
        | exact RegOk.all k (by decide)
    · exact h

theorem Frame.readMore {w : Nat} {a s : State} (h : Frame w a s) (k : Sub 0x61880000000030980 w) : ∀ v n, Frame w a (State.readMore s v n) := by
  intro v n
  induction n generalizing s
  case zero => exact h
  case succ n ih =>
    unfold State.readMore
    split
    · dsimp only
      repeat' first
        | with_reducible assumption
        | with_reducible apply Frame.ite
        | with_reducible apply Frame.setOp
        | with_reducible apply Frame.setReg
        | with_reducible apply Frame.reportFault
        | with_reducible apply Frame.flashCorrected
        | with_reducible apply Frame.flashBytes
        | with_reducible apply Frame.faultRange
        | with_reducible apply Frame.programUnit
        | with_reducible apply ih
        | split
        | refine Frame.of2 (by with_reducible assumption) ?_
        | exact Sub.trans (by decide) k
        | exact RegOk.all k (by decide)
    · exact h

theorem Frame.eraseEnd {w : Nat} {a s : State} (h : Frame w a s) (k : Sub 0x901 w) : Frame w a (State.eraseEnd s) := by
  unfold State.eraseEnd; try dsimp only
  repeat' first
    | with_reducible assumption
    | with_reducible apply Frame.setOp
    | with_reducible apply Frame.eraseSector
    | split
    | with_reducible apply Frame.upd
    | with_reducible rfl
    | with_reducible exact OtpKept.refl _
    | with_reducible exact Or.inr rfl
    | exact Or.inl (k.bit (by decide))
    | exact Sub.trans (by decide) k

theorem Frame.flcSafePoint {w : Nat} {a s : State} (h : Frame w a s) (k : Sub 0x61888000000030981 w) : ∀ x1, Frame w a (State.flcSafePoint s x1) := by
  intro x1
  unfold State.flcSafePoint; try dsimp only
  repeat' first
    | with_reducible assumption
    | with_reducible apply Frame.flcStat
    | with_reducible apply Frame.setOp
    | with_reducible apply Frame.prefetchEmpty
    | with_reducible apply Frame.programMore
    | with_reducible apply Frame.readMore
    | with_reducible apply Frame.put
    | with_reducible apply Frame.setFlash
    | with_reducible apply Frame.ite
    | split
    | with_reducible apply Frame.upd
    | with_reducible rfl
    | with_reducible exact OtpKept.refl _
    | with_reducible exact Or.inr rfl
    | exact Or.inl (k.bit (by decide))
    | exact Sub.trans (by decide) k
    | exact RegOk.page k (by decide)
    | exact RegOk.all k (by decide)

theorem Frame.flcReadBusy {w : Nat} {a s : State} (h : Frame w a s) (k : Sub 0x800 w) : Frame w a (State.flcReadBusy s) := by
  unfold State.flcReadBusy; try dsimp only
  repeat' first
    | with_reducible assumption
    | with_reducible apply Frame.setFlash
    | with_reducible apply Frame.ite
    | with_reducible apply Frame.upd
    | with_reducible rfl
    | with_reducible exact OtpKept.refl _
    | with_reducible exact Or.inr rfl
    | exact Or.inl (k.bit (by decide))
    | exact Sub.trans (by decide) k

theorem Frame.flcResume {w : Nat} {a s : State} (h : Frame w a s) (k : Sub 0x8000000000800 w) : Frame w a (State.flcResume s) := by
  unfold State.flcResume; try dsimp only
  repeat' first
    | with_reducible assumption
    | with_reducible apply Frame.flcStat
    | with_reducible apply Frame.setFlash
    | with_reducible apply Frame.ite
    | with_reducible apply Frame.upd
    | with_reducible rfl
    | with_reducible exact OtpKept.refl _
    | with_reducible exact Or.inr rfl
    | exact Or.inl (k.bit (by decide))
    | exact Sub.trans (by decide) k

theorem Frame.flcCtrl {w : Nat} {a s : State} (h : Frame w a s) (k : Sub 0x8000000020880 w) : ∀ x1, Frame w a (State.flcCtrl s x1) := by
  intro x1
  unfold State.flcCtrl; try dsimp only
  repeat' first
    | with_reducible assumption
    | with_reducible apply Frame.slotDone
    | with_reducible apply Frame.flcStat
    | with_reducible apply Frame.setOp
    | with_reducible apply Frame.put
    | with_reducible apply Frame.setFlash
    | with_reducible apply Frame.flcResume
    | with_reducible refine Frame.foldl ?_ (fun _ _ _ => ?_)
    | with_reducible refine Frame.foldl2 ?_ (fun _ _ _ => ?_)
    | with_reducible apply Frame.ite
    | split
    | with_reducible apply Frame.upd
    | with_reducible rfl
    | with_reducible exact OtpKept.refl _
    | with_reducible exact Or.inr rfl
    | exact Or.inl (k.bit (by decide))
    | exact Sub.trans (by decide) k
    | exact RegOk.page k (by decide)
    | exact RegOk.all k (by decide)

theorem Frame.flcComplete {w : Nat} {a s : State} (h : Frame w a s) (k : Sub 0x8000000020880 w) : ∀ x1, Frame w a (State.flcComplete s x1) := by
  intro x1
  unfold State.flcComplete; try dsimp only
  repeat' first
    | with_reducible assumption
    | with_reducible apply Frame.slotDone
    | with_reducible apply Frame.flcStat
    | with_reducible apply Frame.setReg
    | with_reducible apply Frame.setFlash
    | with_reducible apply Frame.ite
    | split
    | with_reducible apply Frame.upd
    | with_reducible rfl
    | with_reducible exact OtpKept.refl _
    | with_reducible exact Or.inr rfl
    | exact Or.inl (k.bit (by decide))
    | exact Sub.trans (by decide) k
    | exact RegOk.page k (by decide)
    | exact RegOk.all k (by decide)

theorem Frame.flcInterrupt {w : Nat} {a s : State} (h : Frame w a s) (k : Sub 0x61888000000030981 w) : ∀ x1, Frame w a (State.flcInterrupt s x1) := by
  intro x1
  unfold State.flcInterrupt; try dsimp only
  repeat' first
    | with_reducible assumption
    | with_reducible apply Frame.programMore
    | with_reducible apply Frame.setReg
    | with_reducible apply Frame.openBytes
    | with_reducible apply Frame.ite
    | split
    | exact Sub.trans (by decide) k
    | exact RegOk.page k (by decide)
    | exact RegOk.all k (by decide)

theorem Frame.flcRead {w : Nat} {a s : State} (h : Frame w a s) (k : Sub 0x8000000028800 w) : ∀ x1 x2 x3, Frame w a (State.flcRead s x1 x2 x3).2 := by
  intro x1 x2 x3
  unfold State.flcRead; try dsimp only
  repeat' first
    | with_reducible assumption
    | with_reducible apply Frame.flcDone
    | with_reducible apply Frame.flcSubmit
    | with_reducible apply Frame.ite
    | with_reducible apply Frame.ite2
    | refine Frame.of2 (by with_reducible assumption) ?_
    | exact Sub.trans (by decide) k

theorem Frame.execProgram {w : Nat} {a s : State} (h : Frame w a s) (k : Sub 0x61888000000030D81 w) : ∀ x0, FrameAll w a (Machine.execProgram x0 s) := by
  intro x0
  unfold Machine.execProgram; try dsimp only
  repeat' first
    | with_reducible assumption
    | with_reducible apply Frame.flcActivate
    | with_reducible apply Frame.programMore
    | with_reducible apply Frame.ite
    | with_reducible apply FrameAll.ite
    | with_reducible apply FrameAll.next
    | exact Sub.trans (by decide) k

theorem Frame.execErase {w : Nat} {a s : State} (h : Frame w a s) (k : Sub 0x8000000020D01 w) : ∀ x0, FrameAll w a (Machine.execErase x0 s) := by
  intro x0
  unfold Machine.execErase; try dsimp only
  repeat' first
    | with_reducible assumption
    | with_reducible apply Frame.flcActivate
    | with_reducible apply Frame.eraseEnd
    | with_reducible apply Frame.ite
    | with_reducible apply FrameAll.ite
    | with_reducible apply FrameAll.next
    | exact Sub.trans (by decide) k

theorem Frame.execReadback {w : Nat} {a s : State} (h : Frame w a s) (k : Sub 0x61888000000030D80 w) : ∀ x0 x1, FrameAll w a (Machine.execReadback x0 x1 s) := by
  intro x0 x1
  unfold Machine.execReadback; try dsimp only
  repeat' first
    | with_reducible assumption
    | with_reducible apply Frame.flcActivate
    | with_reducible apply Frame.readMore
    | with_reducible apply Frame.ite
    | with_reducible apply FrameAll.ite
    | with_reducible apply FrameAll.next
    | exact Sub.trans (by decide) k

theorem Frame.execAutoResume {w : Nat} {a s : State} (h : Frame w a s) (k : Sub 0x8000000000800 w) : FrameAll w a (Machine.execAutoResume s) := by
  unfold Machine.execAutoResume; try dsimp only
  repeat' first
    | with_reducible assumption
    | with_reducible apply Frame.put
    | with_reducible apply Frame.flcResume
    | with_reducible apply Frame.ite
    | with_reducible apply FrameAll.ite
    | with_reducible apply FrameAll.next
    | exact Sub.trans (by decide) k
    | exact RegOk.page k (by decide)

theorem Frame.setSpt {w : Nat} {a s : State} (h : Frame w a s) (k : Sub 0x1000 w) : ∀ x1 x2, Frame w a (State.setSpt s x1 x2) := by
  intro x1 x2
  unfold State.setSpt; try dsimp only
  repeat' first
    | with_reducible assumption
    | with_reducible apply Frame.upd
    | with_reducible rfl
    | with_reducible exact OtpKept.refl _
    | with_reducible exact Or.inr rfl
    | exact Or.inl (k.bit (by decide))

theorem Frame.setPf {w : Nat} {a s : State} (h : Frame w a s) (k : Sub 0x1000 w) : ∀ x1, Frame w a (State.setPf s x1) := by
  intro x1
  unfold State.setPf; try dsimp only
  repeat' first
    | with_reducible assumption
    | with_reducible apply Frame.upd
    | with_reducible rfl
    | with_reducible exact OtpKept.refl _
    | with_reducible exact Or.inr rfl
    | exact Or.inl (k.bit (by decide))

theorem Frame.sptStat {w : Nat} {a s : State} (h : Frame w a s) (k : Sub 0x20000 w) : ∀ x1, Frame w a (State.sptStat s x1) := by
  intro x1
  unfold State.sptStat; try dsimp only
  repeat' first
    | with_reducible assumption
    | with_reducible apply Frame.put
    | with_reducible apply Frame.setPageSt
    | with_reducible apply Frame.ite
    | exact RegOk.page k (by decide)
    | exact RegOk.all k (by decide)
    | exact PageOk.page k (by decide)
    | exact PageOk.all k (by decide)

theorem Frame.sptLine {w : Nat} {a s : State} (h : Frame w a s) (k : Sub 0x1000 w) : ∀ x1 x2, Frame w a (State.sptLine s x1 x2) := by
  intro x1 x2
  unfold State.sptLine; try dsimp only
  repeat' first
    | with_reducible assumption
    | with_reducible apply Frame.setSpt
    | with_reducible apply Frame.upd
    | with_reducible rfl
    | with_reducible exact OtpKept.refl _
    | with_reducible exact Or.inr rfl
    | exact Or.inl (k.bit (by decide))
    | exact Sub.trans (by decide) k

theorem Frame.setCont {w : Nat} {a s : State} (h : Frame w a s) (k : Sub 0x21000 w) : ∀ x1 x2, Frame w a (State.setCont s x1 x2) := by
  intro x1 x2
  unfold State.setCont; try dsimp only
  repeat' first
    | with_reducible assumption
    | with_reducible apply Frame.setSpt
    | with_reducible apply Frame.put
    | with_reducible apply Frame.upd
    | with_reducible rfl
    | with_reducible exact OtpKept.refl _
    | with_reducible exact Or.inr rfl
    | exact Or.inl (k.bit (by decide))
    | exact Sub.trans (by decide) k
    | exact RegOk.page k (by decide)
    | exact RegOk.all k (by decide)

theorem Frame.leaveCont {w : Nat} {a s : State} (h : Frame w a s) (k : Sub 0x21000 w) : ∀ x1 x2, Frame w a (State.leaveCont s x1 x2) := by
  intro x1 x2
  unfold State.leaveCont; try dsimp only
  repeat' first
    | with_reducible assumption
    | with_reducible apply Frame.setSpt
    | with_reducible apply Frame.setCont
    | with_reducible apply Frame.sptLine
    | with_reducible apply Frame.ite
    | with_reducible apply Frame.upd
    | with_reducible rfl
    | with_reducible exact OtpKept.refl _
    | with_reducible exact Or.inr rfl
    | exact Or.inl (k.bit (by decide))
    | exact Sub.trans (by decide) k

theorem Frame.sendRead {w : Nat} {a s : State} (h : Frame w a s) (k : Sub 0x21000 w) : ∀ x1 x2 x3, Frame w a (State.sendRead s x1 x2 x3) := by
  intro x1 x2 x3
  unfold State.sendRead; try dsimp only
  repeat' first
    | with_reducible assumption
    | with_reducible apply Frame.setCont
    | with_reducible apply Frame.sptLine
    | with_reducible apply Frame.ite
    | exact Sub.trans (by decide) k

theorem Frame.sendFlush {w : Nat} {a s : State} (h : Frame w a s) (k : Sub 0x1000 w) : ∀ x1, Frame w a (State.sendFlush s x1) := by
  intro x1
  unfold State.sendFlush; try dsimp only
  repeat' first
    | with_reducible assumption
    | with_reducible apply Frame.sptLine
    | exact Sub.trans (by decide) k

theorem Frame.sendPoll {w : Nat} {a s : State} (h : Frame w a s) (k : Sub 0x1000 w) : ∀ x1, Frame w a (State.sendPoll s x1) := by
  intro x1
  unfold State.sendPoll; try dsimp only
  repeat' first
    | with_reducible assumption
    | with_reducible apply Frame.sptLine
    | exact Sub.trans (by decide) k

theorem Frame.dropHeld {w : Nat} {a s : State} (h : Frame w a s) (k : Sub 0x1000 w) : ∀ x1, Frame w a (State.dropHeld s x1) := by
  intro x1
  unfold State.dropHeld; try dsimp only
  repeat' first
    | with_reducible assumption
    | with_reducible apply Frame.setSpt
    | with_reducible apply Frame.sptLine
    | split
    | with_reducible apply Frame.upd
    | with_reducible rfl
    | with_reducible exact OtpKept.refl _
    | with_reducible exact Or.inr rfl
    | exact Or.inl (k.bit (by decide))
    | exact Sub.trans (by decide) k

theorem Frame.pfClear {w : Nat} {a s : State} (h : Frame w a s) (k : Sub 0x1000 w) : Frame w a (State.pfClear s) := by
  unfold State.pfClear; try dsimp only
  repeat' first
    | with_reducible assumption
    | with_reducible apply Frame.setPf
    | with_reducible apply Frame.upd
    | with_reducible rfl
    | with_reducible exact OtpKept.refl _
    | with_reducible exact Or.inr rfl
    | exact Or.inl (k.bit (by decide))
    | exact Sub.trans (by decide) k

theorem Frame.startFill {w : Nat} {a s : State} (h : Frame w a s) (k : Sub 0x21000 w) : ∀ x1 x2, Frame w a (State.startFill s x1 x2) := by
  intro x1 x2
  unfold State.startFill; try dsimp only
  repeat' first
    | with_reducible assumption
    | with_reducible apply Frame.sendRead
    | with_reducible apply Frame.sptStat
    | with_reducible apply Frame.setPf
    | with_reducible apply Frame.upd
    | with_reducible rfl
    | with_reducible exact OtpKept.refl _
    | with_reducible exact Or.inr rfl
    | exact Or.inl (k.bit (by decide))
    | exact Sub.trans (by decide) k

theorem Frame.devNat {w : Nat} {a s : State} (h : Frame w a s) (k : Sub 0x10000 w) : ∀ x1 x2 x3, Frame w a (State.devNat s x1 x2 x3).2 := by
  intro x1 x2 x3
  unfold State.devNat; try dsimp only
  repeat' first
    | with_reducible assumption
    | with_reducible apply Frame.freeVal
    | with_reducible apply Frame.ite
    | with_reducible apply Frame.ite2
    | split
    | refine Frame.of2 (by with_reducible assumption) ?_
    | exact Sub.trans (by decide) k

theorem Frame.winRead {w : Nat} {a s : State} (h : Frame w a s) (k : Sub 0x31400 w) : ∀ x1 x2 x3 x4 x5, Frame w a (State.winRead s x1 x2 x3 x4 x5).2 := by
  intro x1 x2 x3 x4 x5
  unfold State.winRead; try dsimp only
  repeat' first
    | with_reducible assumption
    | with_reducible apply Frame.sendRead
    | with_reducible apply Frame.devNat
    | with_reducible apply Frame.setSpt
    | with_reducible apply Frame.setPf
    | with_reducible apply Frame.cacheFill
    | with_reducible apply Frame.startFill
    | with_reducible apply Frame.ite
    | with_reducible apply Frame.ite2
    | split
    | refine Frame.of2 (by with_reducible assumption) ?_
    | with_reducible apply Frame.upd
    | with_reducible rfl
    | with_reducible exact OtpKept.refl _
    | with_reducible exact Or.inr rfl
    | exact Or.inl (k.bit (by decide))
    | exact Sub.trans (by decide) k

theorem Frame.winWrite {w : Nat} {a s : State} (h : Frame w a s) (k : Sub 0x21400 w) : ∀ x1 x2 x3, Frame w a (State.winWrite s x1 x2 x3).2 := by
  intro x1 x2 x3
  unfold State.winWrite; try dsimp only
  repeat' first
    | with_reducible assumption
    | with_reducible apply Frame.sptStat
    | with_reducible apply Frame.setSpt
    | with_reducible apply Frame.setPf
    | with_reducible apply Frame.dropRange
    | with_reducible apply Frame.ite
    | with_reducible apply Frame.ite2
    | split
    | with_reducible apply Frame.upd
    | with_reducible rfl
    | with_reducible exact OtpKept.refl _
    | with_reducible exact Or.inr rfl
    | exact Or.inl (k.bit (by decide))
    | exact Sub.trans (by decide) k

theorem Frame.winAccess {w : Nat} {a s : State} (h : Frame w a s) (k : Sub 0x31400 w) : ∀ x1 x2 x3, Frame w a (State.winAccess s x1 x2 x3).2 := by
  intro x1 x2 x3
  unfold State.winAccess; try dsimp only
  repeat' first
    | with_reducible assumption
    | with_reducible apply Frame.winWrite
    | with_reducible apply Frame.winRead
    | split
    | refine Frame.of2 (by with_reducible assumption) ?_
    | exact Sub.trans (by decide) k

theorem Frame.serveOne {w : Nat} {a s : State} (h : Frame w a s) (k : Sub 0x33400 w) : ∀ x0 x2, Frame w a (State.serveOne x0 s x2) := by
  intro x0 x2
  unfold State.serveOne; try dsimp only
  repeat' first
    | with_reducible assumption
    | with_reducible apply Frame.winAccess
    | with_reducible apply Frame.answer
    | with_reducible apply Frame.ite
    | split
    | refine Frame.of2 (by with_reducible assumption) ?_
    | with_reducible apply Frame.upd
    | with_reducible rfl
    | with_reducible exact OtpKept.refl _
    | with_reducible exact Or.inr rfl
    | exact Or.inl (k.bit (by decide))
    | exact Sub.trans (by decide) k

theorem Frame.startQueue {w : Nat} {a s : State} (h : Frame w a s) (k : Sub 0x21000 w) : ∀ x1, Frame w a (State.startQueue s x1) := by
  intro x1
  unfold State.startQueue; try dsimp only
  repeat' first
    | with_reducible assumption
    | with_reducible apply Frame.setSpt
    | with_reducible apply Frame.dropHeld
    | with_reducible apply Frame.leaveCont
    | with_reducible apply Frame.pfClear
    | with_reducible apply Frame.sptLine
    | with_reducible apply Frame.ite
    | split
    | with_reducible apply Frame.upd
    | with_reducible rfl
    | with_reducible exact OtpKept.refl _
    | with_reducible exact Or.inr rfl
    | exact Or.inl (k.bit (by decide))
    | exact Sub.trans (by decide) k

theorem Frame.sptKick {w : Nat} {a s : State} (h : Frame w a s) (k : Sub 0x33400 w) : ∀ x1, Frame w a (State.sptKick s x1) := by
  intro x1
  unfold State.sptKick; try dsimp only
  repeat' first
    | with_reducible assumption
    | with_reducible apply Frame.startQueue
    | with_reducible apply Frame.serveOne
    | with_reducible apply Frame.sptStat
    | with_reducible refine Frame.foldl ?_ (fun _ _ _ => ?_)
    | with_reducible refine Frame.foldl2 ?_ (fun _ _ _ => ?_)
    | exact Sub.trans (by decide) k

theorem Frame.sptQtx {w : Nat} {a s : State} (h : Frame w a s) (k : Sub 0x33400 w) : ∀ x1 x2 x3, Frame w a (State.sptQtx s x1 x2 x3) := by
  intro x1 x2 x3
  unfold State.sptQtx; try dsimp only
  repeat' first
    | with_reducible assumption
    | with_reducible apply Frame.sptKick
    | with_reducible apply Frame.setSpt
    | with_reducible apply Frame.flag
    | with_reducible apply Frame.ite
    | with_reducible apply Frame.upd
    | with_reducible rfl
    | with_reducible exact OtpKept.refl _
    | with_reducible exact Or.inr rfl
    | exact Or.inl (k.bit (by decide))
    | exact Sub.trans (by decide) k
    | exact PageOk.page k (by decide)
    | exact PageOk.all k (by decide)

theorem Frame.sptQrx {w : Nat} {a s : State} (h : Frame w a s) (k : Sub 0x33400 w) : ∀ x1, Frame w a (State.sptQrx s x1).2 := by
  intro x1
  unfold State.sptQrx; try dsimp only
  repeat' first
    | with_reducible assumption
    | with_reducible apply Frame.sptKick
    | with_reducible apply Frame.setSpt
    | with_reducible apply Frame.flag
    | with_reducible apply Frame.ite
    | with_reducible apply Frame.ite2
    | split
    | with_reducible apply Frame.upd
    | with_reducible rfl
    | with_reducible exact OtpKept.refl _
    | with_reducible exact Or.inr rfl
    | exact Or.inl (k.bit (by decide))
    | exact Sub.trans (by decide) k
    | exact PageOk.page k (by decide)
    | exact PageOk.all k (by decide)

theorem Frame.queueEmptied {w : Nat} {a s : State} (h : Frame w a s) (k : Sub 0x20080 w) : ∀ x1, Frame w a (State.queueEmptied s x1) := by
  intro x1
  unfold State.queueEmptied; try dsimp only
  repeat' first
    | with_reducible assumption
    | with_reducible apply Frame.event
    | with_reducible apply Frame.flag
    | with_reducible apply Frame.ite
    | exact Sub.trans (by decide) k
    | exact PageOk.page k (by decide)
    | exact PageOk.all k (by decide)

theorem Frame.rxPush {w : Nat} {a s : State} (h : Frame w a s) (k : Sub 0x21080 w) : ∀ x1 x2 x3, Frame w a (State.rxPush s x1 x2 x3) := by
  intro x1 x2 x3
  unfold State.rxPush; try dsimp only
  repeat' first
    | with_reducible assumption
    | with_reducible apply Frame.event
    | with_reducible apply Frame.setSpt
    | with_reducible apply Frame.flag
    | with_reducible apply Frame.upd
    | with_reducible rfl
    | with_reducible exact OtpKept.refl _
    | with_reducible exact Or.inr rfl
    | exact Or.inl (k.bit (by decide))
    | exact Sub.trans (by decide) k
    | exact PageOk.page k (by decide)
    | exact PageOk.all k (by decide)

theorem Frame.sptCtrl {w : Nat} {a s : State} (h : Frame w a s) (k : Sub 0x33400 w) : ∀ x1 x2, Frame w a (State.sptCtrl s x1 x2) := by
  intro x1 x2
  unfold State.sptCtrl; try dsimp only
  repeat' first
    | with_reducible assumption
    | with_reducible apply Frame.sptKick
    | with_reducible apply Frame.setSpt
    | with_reducible apply Frame.dropHeld
    | with_reducible apply Frame.pfClear
    | with_reducible apply Frame.ite
    | with_reducible apply Frame.upd
    | with_reducible rfl
    | with_reducible exact OtpKept.refl _
    | with_reducible exact Or.inr rfl
    | exact Or.inl (k.bit (by decide))
    | exact Sub.trans (by decide) k

theorem Frame.sptPageReset {w : Nat} {a s : State} (h : Frame w a s) (k : Sub 0x1000 w) : ∀ x1, Frame w a (State.sptPageReset s x1) := by
  intro x1
  unfold State.sptPageReset; try dsimp only
  repeat' first
    | with_reducible assumption
    | with_reducible apply Frame.setSpt
    | with_reducible apply Frame.pfClear
    | with_reducible apply Frame.ite
    | with_reducible apply Frame.upd
    | with_reducible rfl
    | with_reducible exact OtpKept.refl _
    | with_reducible exact Or.inr rfl
    | exact Or.inl (k.bit (by decide))
    | exact Sub.trans (by decide) k

theorem Frame.sptWrite {w : Nat} {a s : State} (h : Frame w a s) (k : Sub 0x33400 w) : ∀ x1 x2 x3 x4, Frame w a (State.sptWrite s x1 x2 x3 x4) := by
  intro x1 x2 x3 x4
  unfold State.sptWrite; try dsimp only
  repeat' first
    | with_reducible assumption
    | with_reducible apply Frame.sptQtx
    | with_reducible apply Frame.sptCtrl
    | with_reducible apply Frame.put
    | with_reducible apply Frame.ite
    | exact Sub.trans (by decide) k
    | exact RegOk.page k (by decide)
    | exact RegOk.all k (by decide)

theorem Frame.sptRead {w : Nat} {a s : State} (h : Frame w a s) (k : Sub 0x33400 w) : ∀ x1 x2 x3, Frame w a (State.sptRead s x1 x2 x3).2 := by
  intro x1 x2 x3
  unfold State.sptRead; try dsimp only
  repeat' first
    | with_reducible assumption
    | with_reducible apply Frame.sptQrx
    | with_reducible apply Frame.ite
    | with_reducible apply Frame.ite2
    | refine Frame.of2 (by with_reducible assumption) ?_
    | exact Sub.trans (by decide) k

theorem Frame.execQueueWordDone {w : Nat} {a s : State} (h : Frame w a s) (k : Sub 0x33480 w) : ∀ x0 x1, FrameAll w a (Machine.execQueueWordDone x0 x1 s) := by
  intro x0 x1
  unfold Machine.execQueueWordDone; try dsimp only
  repeat' first
    | with_reducible assumption
    | with_reducible apply Frame.sptKick
    | with_reducible apply Frame.rxPush
    | with_reducible apply Frame.setSpt
    | with_reducible apply Frame.dropHeld
    | with_reducible apply Frame.queueEmptied
    | with_reducible apply Frame.ite
    | with_reducible apply FrameAll.ite
    | with_reducible apply FrameAll.next
    | split
    | with_reducible apply Frame.upd
    | with_reducible rfl
    | with_reducible exact OtpKept.refl _
    | with_reducible exact Or.inr rfl
    | exact Or.inl (k.bit (by decide))
    | exact Sub.trans (by decide) k

theorem Frame.execHoldExpired {w : Nat} {a s : State} (h : Frame w a s) (k : Sub 0x33400 w) : ∀ x0, FrameAll w a (Machine.execHoldExpired x0 s) := by
  intro x0
  unfold Machine.execHoldExpired; try dsimp only
  repeat' first
    | with_reducible assumption
    | with_reducible apply Frame.sptKick
    | with_reducible apply Frame.dropHeld
    | with_reducible apply Frame.flag
    | with_reducible apply Frame.ite
    | with_reducible apply FrameAll.ite
    | with_reducible apply FrameAll.next
    | exact Sub.trans (by decide) k
    | exact PageOk.page k (by decide)
    | exact PageOk.all k (by decide)

theorem Frame.slaveRx {w : Nat} {a s : State} (h : Frame w a s) (k : Sub 0x10000 w) : ∀ x1 x2, Frame w a (Machine.slaveRx s x1 x2).2 := by
  intro x1 x2
  unfold Machine.slaveRx; try dsimp only
  repeat' first
    | with_reducible assumption
    | with_reducible apply Frame.freeVal
    | with_reducible apply Frame.ite
    | with_reducible apply Frame.ite2
    | refine Frame.of2 (by with_reducible assumption) ?_
    | exact Sub.trans (by decide) k

theorem Frame.execSlaveWord {w : Nat} {a s : State} (h : Frame w a s) (k : Sub 0x31080 w) : ∀ x0 x1, FrameAll w a (Machine.execSlaveWord x0 x1 s) := by
  intro x0 x1
  unfold Machine.execSlaveWord; try dsimp only
  repeat' first
    | with_reducible assumption
    | with_reducible apply Frame.sptStat
    | with_reducible apply Frame.rxPush
    | with_reducible apply Frame.setSpt
    | with_reducible apply Frame.flag
    | with_reducible apply Frame.slaveRx
    | with_reducible apply Frame.sptLine
    | with_reducible apply Frame.queueEmptied
    | with_reducible apply Frame.ite
    | with_reducible apply FrameAll.ite
    | with_reducible apply FrameAll.next
    | split
    | refine Frame.of2 (by with_reducible assumption) ?_
    | with_reducible apply Frame.upd
    | with_reducible rfl
    | with_reducible exact OtpKept.refl _
    | with_reducible exact Or.inr rfl
    | exact Or.inl (k.bit (by decide))
    | exact Sub.trans (by decide) k
    | exact PageOk.page k (by decide)
    | exact PageOk.all k (by decide)

theorem Frame.execShortWord {w : Nat} {a s : State} (h : Frame w a s) (k : Sub 0x21080 w) : ∀ x0, FrameAll w a (Machine.execShortWord x0 s) := by
  intro x0
  unfold Machine.execShortWord; try dsimp only
  repeat' first
    | with_reducible assumption
    | with_reducible apply Frame.sptStat
    | with_reducible apply Frame.setSpt
    | with_reducible apply Frame.flag
    | with_reducible apply Frame.queueEmptied
    | with_reducible apply Frame.ite
    | with_reducible apply FrameAll.ite
    | with_reducible apply FrameAll.next
    | split
    | with_reducible apply Frame.upd
    | with_reducible rfl
    | with_reducible exact OtpKept.refl _
    | with_reducible exact Or.inr rfl
    | exact Or.inl (k.bit (by decide))
    | exact Sub.trans (by decide) k
    | exact PageOk.page k (by decide)
    | exact PageOk.all k (by decide)

theorem Frame.execWriteBufferFlush {w : Nat} {a s : State} (h : Frame w a s) (k : Sub 0x21000 w) : ∀ x0, FrameAll w a (Machine.execWriteBufferFlush x0 s) := by
  intro x0
  unfold Machine.execWriteBufferFlush; try dsimp only
  repeat' first
    | with_reducible assumption
    | with_reducible apply Frame.sptStat
    | with_reducible apply Frame.setSpt
    | with_reducible apply Frame.leaveCont
    | with_reducible apply Frame.sendFlush
    | with_reducible apply Frame.ite
    | with_reducible apply FrameAll.ite
    | with_reducible apply FrameAll.next
    | with_reducible apply Frame.upd
    | with_reducible rfl
    | with_reducible exact OtpKept.refl _
    | with_reducible exact Or.inr rfl
    | exact Or.inl (k.bit (by decide))
    | exact Sub.trans (by decide) k

theorem Frame.execStatusPoll {w : Nat} {a s : State} (h : Frame w a s) (k : Sub 0x33400 w) : ∀ x0 x1, FrameAll w a (Machine.execStatusPoll x0 x1 s) := by
  intro x0 x1
  unfold Machine.execStatusPoll; try dsimp only
  repeat' first
    | with_reducible assumption
    | with_reducible apply Frame.sptKick
    | with_reducible apply Frame.setSpt
    | with_reducible apply Frame.put
    | with_reducible apply Frame.sendPoll
    | with_reducible apply Frame.ite
    | with_reducible apply FrameAll.ite
    | with_reducible apply FrameAll.next
    | with_reducible apply Frame.upd
    | with_reducible rfl
    | with_reducible exact OtpKept.refl _
    | with_reducible exact Or.inr rfl
    | exact Or.inl (k.bit (by decide))
    | exact Sub.trans (by decide) k
    | exact RegOk.page k (by decide)
    | exact RegOk.all k (by decide)

theorem Frame.execPollTimeout {w : Nat} {a s : State} (h : Frame w a s) (k : Sub 0x33400 w) : ∀ x0, FrameAll w a (Machine.execPollTimeout x0 s) := by
  intro x0
  unfold Machine.execPollTimeout; try dsimp only
  repeat' first
    | with_reducible assumption
    | with_reducible apply Frame.sptKick
    | with_reducible apply Frame.setSpt
    | with_reducible apply Frame.flag
    | with_reducible apply Frame.countSat
    | with_reducible apply Frame.ite
    | with_reducible apply FrameAll.ite
    | with_reducible apply FrameAll.next
    | with_reducible apply Frame.upd
    | with_reducible rfl
    | with_reducible exact OtpKept.refl _
    | with_reducible exact Or.inr rfl
    | exact Or.inl (k.bit (by decide))
    | exact Sub.trans (by decide) k
    | exact RegOk.page k (by decide)
    | exact RegOk.all k (by decide)
    | exact PageOk.page k (by decide)
    | exact PageOk.all k (by decide)

theorem Frame.execLineFillDone {w : Nat} {a s : State} (h : Frame w a s) (k : Sub 0x33400 w) : ∀ x0, FrameAll w a (Machine.execLineFillDone x0 s) := by
  intro x0
  unfold Machine.execLineFillDone; try dsimp only
  repeat' first
    | with_reducible assumption
    | with_reducible apply Frame.sptKick
    | with_reducible apply Frame.sptStat
    | with_reducible apply Frame.setPf
    | with_reducible apply Frame.freeVal
    | with_reducible refine Frame.foldl ?_ (fun _ _ _ => ?_)
    | with_reducible refine Frame.foldl2 ?_ (fun _ _ _ => ?_)
    | with_reducible apply Frame.ite
    | with_reducible apply FrameAll.ite
    | with_reducible apply FrameAll.next
    | split
    | refine Frame.of2 (by with_reducible assumption) ?_
    | with_reducible apply Frame.upd
    | with_reducible rfl
    | with_reducible exact OtpKept.refl _
    | with_reducible exact Or.inr rfl
    | exact Or.inl (k.bit (by decide))
    | exact Sub.trans (by decide) k

theorem Frame.execLookAheadFill {w : Nat} {a s : State} (h : Frame w a s) (k : Sub 0x21000 w) : FrameAll w a (Machine.execLookAheadFill s) := by
  unfold Machine.execLookAheadFill; try dsimp only
  repeat' first
    | with_reducible assumption
    | with_reducible apply Frame.setPf
    | with_reducible apply Frame.startFill
    | with_reducible apply Frame.ite
    | with_reducible apply FrameAll.ite
    | with_reducible apply FrameAll.next
    | split
    | with_reducible apply Frame.upd
    | with_reducible rfl
    | with_reducible exact OtpKept.refl _
    | with_reducible exact Or.inr rfl
    | exact Or.inl (k.bit (by decide))
    | exact Sub.trans (by decide) k

theorem Frame.setPwr {w : Nat} {a s : State} (h : Frame w a s) (k : Sub 0x200 w) : ∀ x1, Frame w a (State.setPwr s x1) := by
  intro x1
  unfold State.setPwr; try dsimp only
  repeat' first
    | with_reducible assumption
    | with_reducible apply Frame.upd
    | with_reducible rfl
    | with_reducible exact OtpKept.refl _
    | with_reducible exact Or.inr rfl
    | exact Or.inl (k.bit (by decide))

theorem Frame.waitUpdate {w : Nat} {a s : State} (h : Frame w a s) (k : Sub 0x8000000000000 w) : ∀ x1 x2, Frame w a (State.waitUpdate s x1 x2) := by
  intro x1 x2
  unfold State.waitUpdate; try dsimp only
  repeat' first
    | with_reducible assumption
    | with_reducible apply Frame.put
    | with_reducible apply Frame.flag
    | with_reducible apply Frame.ite
    | exact RegOk.page k (by decide)
    | exact PageOk.page k (by decide)

theorem Frame.clkSettle {w : Nat} {a s : State} (h : Frame w a s) (k : Sub 0x400000000 w) : Frame w a (State.clkSettle s) := by
  unfold State.clkSettle; try dsimp only
  repeat' first
    | with_reducible assumption
    | with_reducible apply Frame.put
    | with_reducible apply Frame.pllSettle
    | exact Sub.trans (by decide) k
    | exact RegOk.page k (by decide)

theorem Frame.clkEffect {w : Nat} {a s : State} (h : Frame w a s) (k : Sub 0x2400000000 w) : Frame w a (State.clkEffect s) := by
  unfold State.clkEffect; try dsimp only
  repeat' first
    | with_reducible assumption
    | with_reducible apply Frame.clkSettle
    | with_reducible apply Frame.put
    | with_reducible apply Frame.setPageSt
    | with_reducible apply Frame.ite
    | exact Sub.trans (by decide) k
    | exact RegOk.page k (by decide)
    | exact PageOk.page k (by decide)

theorem Frame.setSysClock {w : Nat} {a s : State} (h : Frame w a s) (k : Sub 0x400000000 w) : ∀ x1 x2, Frame w a (State.setSysClock s x1 x2) := by
  intro x1 x2
  unfold State.setSysClock; try dsimp only
  repeat' first
    | with_reducible assumption
    | with_reducible apply Frame.put
    | exact RegOk.page k (by decide)

theorem Frame.rrpStart {w : Nat} {a s : State} (h : Frame w a s) (k : Sub 0x800000200 w) : ∀ x1 x2, Frame w a (State.rrpStart s x1 x2) := by
  intro x1 x2
  unfold State.rrpStart; try dsimp only
  repeat' first
    | with_reducible assumption
    | with_reducible apply Frame.setPwr
    | with_reducible apply Frame.put
    | with_reducible apply Frame.setPageSt
    | with_reducible apply Frame.upd
    | with_reducible rfl
    | with_reducible exact OtpKept.refl _
    | with_reducible exact Or.inr rfl
    | exact Or.inl (k.bit (by decide))
    | exact Sub.trans (by decide) k
    | exact RegOk.page k (by decide)
    | exact PageOk.page k (by decide)

theorem Frame.rrpIdle {w : Nat} {a s : State} (h : Frame w a s) (k : Sub 0x800000200 w) : Frame w a (State.rrpIdle s) := by
  unfold State.rrpIdle; try dsimp only
  repeat' first
    | with_reducible assumption
    | with_reducible apply Frame.setPwr
    | with_reducible apply Frame.put
    | with_reducible apply Frame.setPageSt
    | with_reducible apply Frame.upd
    | with_reducible rfl
    | with_reducible exact OtpKept.refl _
    | with_reducible exact Or.inr rfl
    | exact Or.inl (k.bit (by decide))
    | exact Sub.trans (by decide) k
    | exact RegOk.page k (by decide)
    | exact PageOk.page k (by decide)

theorem Frame.opWrite {w : Nat} {a s : State} (h : Frame w a s) (k : Sub 0xA00000200 w) : ∀ x1, Frame w a (State.opWrite s x1) := by
  intro x1
  unfold State.opWrite; try dsimp only
  repeat' first
    | with_reducible assumption
    | with_reducible apply Frame.rrpStart
    | with_reducible apply Frame.put
    | with_reducible apply Frame.flag
    | with_reducible apply Frame.ite
    | exact Sub.trans (by decide) k
    | exact RegOk.page k (by decide)
    | exact PageOk.page k (by decide)

theorem Frame.opEnd {w : Nat} {a s : State} (h : Frame w a s) (k : Sub 0x8000200000000 w) : Frame w a (State.opEnd s) := by
  unfold State.opEnd; try dsimp only
  repeat' first
    | with_reducible assumption
    | with_reducible apply Frame.waitUpdate
    | with_reducible apply Frame.put
    | with_reducible apply Frame.flag
    | exact Sub.trans (by decide) k
    | exact RegOk.page k (by decide)
    | exact PageOk.page k (by decide)

theorem Frame.rrpAck {w : Nat} {a s : State} (h : Frame w a s) (k : Sub 0x8000A00000200 w) : Frame w a (State.rrpAck s) := by
  unfold State.rrpAck; try dsimp only
  repeat' first
    | with_reducible assumption
    | with_reducible apply Frame.rrpStart
    | with_reducible apply Frame.opEnd
    | with_reducible apply Frame.put
    | with_reducible apply Frame.rrpIdle
    | with_reducible apply Frame.flag
    | with_reducible apply Frame.ite
    | exact Sub.trans (by decide) k
    | exact RegOk.page k (by decide)
    | exact PageOk.page k (by decide)

theorem Frame.rrpAgain {w : Nat} {a s : State} (h : Frame w a s) (k : Sub 0x800000200 w) : Frame w a (State.rrpAgain s) := by
  unfold State.rrpAgain; try dsimp only
  repeat' first
    | with_reducible assumption
    | with_reducible apply Frame.setPwr
    | with_reducible apply Frame.flag
    | with_reducible apply Frame.countSat
    | with_reducible apply Frame.ite
    | with_reducible apply Frame.upd
    | with_reducible rfl
    | with_reducible exact OtpKept.refl _
    | with_reducible exact Or.inr rfl
    | exact Or.inl (k.bit (by decide))
    | exact Sub.trans (by decide) k
    | exact RegOk.page k (by decide)
    | exact PageOk.page k (by decide)

theorem Frame.smbusWrite {w : Nat} {a s : State} (h : Frame w a s) (k : Sub 0x200 w) : ∀ x1 x2 x3, Frame w a (State.smbusWrite s x1 x2 x3) := by
  intro x1 x2 x3
  unfold State.smbusWrite; try dsimp only
  repeat' first
    | with_reducible assumption
    | with_reducible apply Frame.setPwr
    | with_reducible apply Frame.upd
    | with_reducible rfl
    | with_reducible exact OtpKept.refl _
    | with_reducible exact Or.inr rfl
    | exact Or.inl (k.bit (by decide))
    | exact Sub.trans (by decide) k

theorem Frame.execSwitched {w : Nat} {a s : State} (h : Frame w a s) (k : Sub 0x8000400000000 w) : FrameAll w a (Machine.execSwitched s) := by
  unfold Machine.execSwitched; try dsimp only
  repeat' first
    | with_reducible assumption
    | with_reducible apply Frame.waitUpdate
    | with_reducible apply Frame.setSysClock
    | with_reducible apply Frame.clkSettle
    | with_reducible apply Frame.put
    | with_reducible apply Frame.flag
    | with_reducible apply Frame.setPageSt
    | with_reducible apply Frame.ite
    | with_reducible apply FrameAll.ite
    | with_reducible apply FrameAll.next
    | exact Sub.trans (by decide) k
    | exact RegOk.page k (by decide)
    | exact PageOk.page k (by decide)

theorem Frame.execHfxoStable {w : Nat} {a s : State} (h : Frame w a s) (k : Sub 0x3400000240001833D w) : FrameAll w a (Machine.execHfxoStable s) := by
  unfold Machine.execHfxoStable; try dsimp only
  repeat' first
    | with_reducible assumption
    | with_reducible apply Frame.setPwr
    | with_reducible apply Frame.put
    | with_reducible apply Frame.hvlUpdate
    | with_reducible apply Frame.setRadio
    | with_reducible apply Frame.ite
    | with_reducible apply FrameAll.ite
    | with_reducible apply FrameAll.next
    | with_reducible apply Frame.upd
    | with_reducible rfl
    | with_reducible exact OtpKept.refl _
    | with_reducible exact Or.inr rfl
    | exact Or.inl (k.bit (by decide))
    | exact Sub.trans (by decide) k
    | exact RegOk.page k (by decide)

theorem Frame.execPllLock {w : Nat} {a s : State} (h : Frame w a s) (k : Sub 0x400000000 w) : FrameAll w a (Machine.execPllLock s) := by
  unfold Machine.execPllLock; try dsimp only
  repeat' first
    | with_reducible assumption
    | with_reducible apply Frame.put
    | with_reducible apply Frame.ite
    | with_reducible apply FrameAll.ite
    | with_reducible apply FrameAll.next
    | exact RegOk.page k (by decide)

theorem Frame.execLfxoFail {w : Nat} {a s : State} (h : Frame w a s) (k : Sub 0x2400000000 w) : FrameAll w a (Machine.execLfxoFail s) := by
  unfold Machine.execLfxoFail; try dsimp only
  repeat' first
    | with_reducible assumption
    | with_reducible apply Frame.put
    | with_reducible apply Frame.flag
    | with_reducible apply Frame.ite
    | with_reducible apply FrameAll.ite
    | with_reducible apply FrameAll.next
    | exact RegOk.page k (by decide)
    | exact PageOk.page k (by decide)

theorem Frame.execLfxoReturn {w : Nat} {a s : State} (h : Frame w a s) (k : Sub 0x2400000000 w) : FrameAll w a (Machine.execLfxoReturn s) := by
  unfold Machine.execLfxoReturn; try dsimp only
  repeat' first
    | with_reducible assumption
    | with_reducible apply Frame.put
    | with_reducible apply Frame.ite
    | with_reducible apply FrameAll.ite
    | with_reducible apply FrameAll.next
    | exact RegOk.page k (by decide)

theorem Frame.execOpDone {w : Nat} {a s : State} (h : Frame w a s) (k : Sub 0x8000200000000 w) : FrameAll w a (Machine.execOpDone s) := by
  unfold Machine.execOpDone; try dsimp only
  repeat' first
    | with_reducible assumption
    | with_reducible apply Frame.opEnd
    | with_reducible apply Frame.ite
    | with_reducible apply FrameAll.ite
    | with_reducible apply FrameAll.next
    | exact Sub.trans (by decide) k

theorem Frame.execVoutCommand {w : Nat} {a s : State} (h : Frame w a s) (k : Sub 0x200 w) : FrameAll w a (Machine.execVoutCommand s) := by
  unfold Machine.execVoutCommand; try dsimp only
  repeat' first
    | with_reducible assumption
    | with_reducible apply Frame.setPwr
    | with_reducible apply Frame.smbusWrite
    | with_reducible apply Frame.ite
    | with_reducible apply FrameAll.ite
    | with_reducible apply FrameAll.next
    | with_reducible apply Frame.upd
    | with_reducible rfl
    | with_reducible exact OtpKept.refl _
    | with_reducible exact Or.inr rfl
    | exact Or.inl (k.bit (by decide))
    | exact Sub.trans (by decide) k

theorem Frame.execOperation {w : Nat} {a s : State} (h : Frame w a s) (k : Sub 0x200 w) : ∀ x0, FrameAll w a (Machine.execOperation x0 s) := by
  intro x0
  unfold Machine.execOperation; try dsimp only
  repeat' first
    | with_reducible assumption
    | with_reducible apply Frame.setPwr
    | with_reducible apply Frame.smbusWrite
    | with_reducible apply Frame.ite
    | with_reducible apply FrameAll.ite
    | with_reducible apply FrameAll.next
    | with_reducible apply Frame.upd
    | with_reducible rfl
    | with_reducible exact OtpKept.refl _
    | with_reducible exact Or.inr rfl
    | exact Or.inl (k.bit (by decide))
    | exact Sub.trans (by decide) k

theorem Frame.execStatusByte {w : Nat} {a s : State} (h : Frame w a s) (k : Sub 0x8000A00000200 w) : ∀ x0, FrameAll w a (Machine.execStatusByte x0 s) := by
  intro x0
  unfold Machine.execStatusByte; try dsimp only
  repeat' first
    | with_reducible assumption
    | with_reducible apply Frame.setPwr
    | with_reducible apply Frame.put
    | with_reducible apply Frame.rrpAck
    | with_reducible apply Frame.ite
    | with_reducible apply FrameAll.ite
    | with_reducible apply FrameAll.next
    | split
    | with_reducible apply Frame.upd
    | with_reducible rfl
    | with_reducible exact OtpKept.refl _
    | with_reducible exact Or.inr rfl
    | exact Or.inl (k.bit (by decide))
    | exact Sub.trans (by decide) k
    | exact RegOk.page k (by decide)

theorem Frame.execRrpResend {w : Nat} {a s : State} (h : Frame w a s) (k : Sub 0x800000200 w) : FrameAll w a (Machine.execRrpResend s) := by
  unfold Machine.execRrpResend; try dsimp only
  repeat' first
    | with_reducible assumption
    | with_reducible apply Frame.rrpAgain
    | with_reducible apply Frame.ite
    | with_reducible apply FrameAll.ite
    | with_reducible apply FrameAll.next
    | exact Sub.trans (by decide) k

theorem Frame.execRrpTimeout {w : Nat} {a s : State} (h : Frame w a s) (k : Sub 0x61888000A00000380 w) : FrameAll w a (Machine.execRrpTimeout s) := by
  unfold Machine.execRrpTimeout; try dsimp only
  repeat' first
    | with_reducible assumption
    | with_reducible apply Frame.rrpAgain
    | with_reducible apply Frame.waitUpdate
    | with_reducible apply Frame.reportFault
    | with_reducible apply Frame.setPwr
    | with_reducible apply Frame.put
    | with_reducible apply Frame.rrpIdle
    | with_reducible apply Frame.flag
    | with_reducible apply Frame.countSat
    | with_reducible apply Frame.ite
    | with_reducible apply FrameAll.ite
    | with_reducible apply FrameAll.next
    | with_reducible apply Frame.upd
    | with_reducible rfl
    | with_reducible exact OtpKept.refl _
    | with_reducible exact Or.inr rfl
    | exact Or.inl (k.bit (by decide))
    | exact Sub.trans (by decide) k
    | exact RegOk.page k (by decide)
    | exact PageOk.page k (by decide)

theorem Frame.reqWrite {w : Nat} {a s : State} (h : Frame w a s) (k : Sub 0x200000000 w) : ∀ x1, Frame w a (State.reqWrite s x1) := by
  intro x1
  unfold State.reqWrite; try dsimp only
  repeat' first
    | with_reducible assumption
    | with_reducible apply Frame.put
    | with_reducible apply Frame.ite
    | exact RegOk.page k (by decide)

theorem Frame.wakeLatch {w : Nat} {a s : State} (h : Frame w a s) (k : Sub 0x1000000000 w) : ∀ x1, Frame w a (State.wakeLatch s x1) := by
  intro x1
  unfold State.wakeLatch; try dsimp only
  repeat' first
    | with_reducible assumption
    | with_reducible apply Frame.put
    | with_reducible apply Frame.putBit
    | with_reducible refine Frame.foldl ?_ (fun _ _ _ => ?_)
    | with_reducible refine Frame.foldl2 ?_ (fun _ _ _ => ?_)
    | with_reducible apply Frame.ite
    | exact RegOk.page k (by decide)

theorem Frame.wakeRecord {w : Nat} {a s : State} (h : Frame w a s) (k : Sub 0x1200000000 w) : ∀ x1, Frame w a (State.wakeRecord s x1) := by
  intro x1
  unfold State.wakeRecord; try dsimp only
  repeat' first
    | with_reducible assumption
    | with_reducible apply Frame.put
    | with_reducible apply Frame.flag
    | with_reducible apply Frame.countSat
    | with_reducible refine Frame.foldl ?_ (fun _ _ _ => ?_)
    | with_reducible refine Frame.foldl2 ?_ (fun _ _ _ => ?_)
    | exact RegOk.page k (by decide)
    | exact PageOk.page k (by decide)

theorem Frame.bankLost {w : Nat} {a s : State} (h : Frame w a s) (k : Sub 0x301 w) : ∀ x1, Frame w a (State.bankLost s x1) := by
  intro x1
  unfold State.bankLost; try dsimp only
  repeat' first
    | with_reducible assumption
    | with_reducible apply Frame.keepMem
    | with_reducible apply Frame.setPwr
    | with_reducible apply Frame.ite
    | with_reducible apply Frame.upd
    | with_reducible rfl
    | with_reducible exact OtpKept.refl _
    | with_reducible exact Or.inr rfl
    | exact Or.inl (k.bit (by decide))
    | exact Sub.trans (by decide) k

theorem Frame.entryB {w : Nat} {a s : State} (h : Frame w a s) (k : Sub 0x301 w) : ∀ x1, Frame w a (State.entryB s x1) := by
  intro x1
  unfold State.entryB; try dsimp only
  repeat' first
    | with_reducible assumption
    | with_reducible apply Frame.bankLost
    | with_reducible refine Frame.foldl ?_ (fun _ _ _ => ?_)
    | with_reducible refine Frame.foldl2 ?_ (fun _ _ _ => ?_)
    | exact Sub.trans (by decide) k

theorem Frame.entryC {w : Nat} {a s : State} (h : Frame w a s) (k : Sub 0x340000C24000383FD w) : Frame w a (State.entryC s) := by
  unfold State.entryC; try dsimp only
  repeat' first
    | with_reducible assumption
    | with_reducible apply Frame.wdtTick
    | with_reducible apply Frame.slowCount
    | with_reducible apply Frame.put
    | with_reducible apply Frame.hvlUpdate
    | with_reducible apply Frame.setPageSt
    | with_reducible apply Frame.ite
    | exact Sub.trans (by decide) k
    | exact RegOk.page k (by decide)
    | exact RegOk.all k (by decide)
    | exact PageOk.page k (by decide)
    | exact PageOk.all k (by decide)

theorem Frame.runOnHfrc {w : Nat} {a s : State} (h : Frame w a s) (k : Sub 0x8000600000000 w) : Frame w a (State.runOnHfrc s) := by
  unfold State.runOnHfrc; try dsimp only
  repeat' first
    | with_reducible assumption
    | with_reducible apply Frame.waitUpdate
    | with_reducible apply Frame.setSysClock
    | with_reducible apply Frame.put
    | exact Sub.trans (by decide) k
    | exact RegOk.page k (by decide)

theorem Frame.entryStart {w : Nat} {a s : State} (h : Frame w a s) (k : Sub 0x200000200 w) : Frame w a (State.entryStart s) := by
  unfold State.entryStart; try dsimp only
  repeat' first
    | with_reducible assumption
    | with_reducible apply Frame.setPwr
    | with_reducible apply Frame.put
    | with_reducible apply Frame.setPageSt
    | with_reducible apply Frame.upd
    | with_reducible rfl
    | with_reducible exact OtpKept.refl _
    | with_reducible exact Or.inr rfl
    | exact Or.inl (k.bit (by decide))
    | exact Sub.trans (by decide) k
    | exact RegOk.page k (by decide)
    | exact PageOk.page k (by decide)

theorem Frame.wakeUp {w : Nat} {a s : State} (h : Frame w a s) (k : Sub 0x8003E00000200 w) : ∀ x1, Frame w a (State.wakeUp s x1) := by
  intro x1
  unfold State.wakeUp; try dsimp only
  repeat' first
    | with_reducible assumption
    | with_reducible apply Frame.rrpStart
    | with_reducible apply Frame.wakeRecord
    | with_reducible apply Frame.setPwr
    | with_reducible apply Frame.put
    | with_reducible apply Frame.runOnHfrc
    | with_reducible apply Frame.flag
    | with_reducible apply Frame.setPageSt
    | with_reducible apply Frame.ite
    | with_reducible apply Frame.upd
    | with_reducible rfl
    | with_reducible exact OtpKept.refl _
    | with_reducible exact Or.inr rfl
    | exact Or.inl (k.bit (by decide))
    | exact Sub.trans (by decide) k
    | exact RegOk.page k (by decide)
    | exact PageOk.page k (by decide)

theorem Frame.calFresh {w : Nat} {a s : State} (h : Frame w a s) (k : Sub 0x200000000000000 w) : Frame w a (State.calFresh s) := by
  unfold State.calFresh; try dsimp only
  repeat' first
    | with_reducible assumption
    | with_reducible apply Frame.put
    | with_reducible apply Frame.flag
    | with_reducible apply Frame.ite
    | exact RegOk.page k (by decide)
    | exact PageOk.page k (by decide)

theorem Frame.radioUpNow {w : Nat} {a s : State} (h : Frame w a s) (k : Sub 0x61A80000200020301 w) : Frame w a (State.radioUpNow s) := by
  unfold State.radioUpNow; try dsimp only
  repeat' first
    | with_reducible assumption
    | with_reducible apply Frame.putRegBit
    | with_reducible apply Frame.calFresh
    | with_reducible apply Frame.setPwr
    | with_reducible apply Frame.showRetired
    | with_reducible apply Frame.put
    | with_reducible apply Frame.bankLost
    | with_reducible refine Frame.foldl ?_ (fun _ _ _ => ?_)
    | with_reducible refine Frame.foldl2 ?_ (fun _ _ _ => ?_)
    | with_reducible apply Frame.ite
    | with_reducible apply Frame.upd
    | with_reducible rfl
    | with_reducible exact OtpKept.refl _
    | with_reducible exact Or.inr rfl
    | exact Or.inl (k.bit (by decide))
    | exact Sub.trans (by decide) k
    | exact RegOk.page k (by decide)
    | exact RegOk.all k (by decide)

theorem Frame.execWake {w : Nat} {a s : State} (h : Frame w a s) (k : Sub 0x8003E00000200 w) : ∀ x0, FrameAll w a (Machine.execWake x0 s) := by
  intro x0
  unfold Machine.execWake; try dsimp only
  repeat' first
    | with_reducible assumption
    | with_reducible apply Frame.wakeLatch
    | with_reducible apply Frame.wakeUp
    | with_reducible apply Frame.ite
    | with_reducible apply FrameAll.ite
    | with_reducible apply FrameAll.next
    | exact Sub.trans (by decide) k

theorem Frame.execBorRelease {w : Nat} {a s : State} (h : Frame w a s) (k : Sub 0x8003E00000200 w) : FrameAll w a (Machine.execBorRelease s) := by
  unfold Machine.execBorRelease; try dsimp only
  repeat' first
    | with_reducible assumption
    | with_reducible apply Frame.wakeUp
    | with_reducible apply Frame.ite
    | with_reducible apply FrameAll.ite
    | with_reducible apply FrameAll.next
    | exact Sub.trans (by decide) k

theorem Frame.execWakePin {w : Nat} {a s : State} (h : Frame w a s) (k : Sub 0x201000000200 w) : ∀ x0 x1, FrameAll w a (Machine.execWakePin x0 x1 s) := by
  intro x0 x1
  unfold Machine.execWakePin; try dsimp only
  repeat' first
    | with_reducible assumption
    | with_reducible apply Frame.wake
    | with_reducible apply Frame.putBit
    | with_reducible apply Frame.ite
    | with_reducible apply FrameAll.ite
    | with_reducible apply FrameAll.next
    | exact Sub.trans (by decide) k
    | exact RegOk.page k (by decide)

theorem Frame.execRadioDomainUp {w : Nat} {a s : State} (h : Frame w a s) (k : Sub 0x61A80000200020301 w) : FrameAll w a (Machine.execRadioDomainUp s) := by
  unfold Machine.execRadioDomainUp; try dsimp only
  repeat' first
    | with_reducible assumption
    | with_reducible apply Frame.radioUpNow
    | with_reducible apply Frame.ite
    | with_reducible apply FrameAll.ite
    | with_reducible apply FrameAll.next
    | exact Sub.trans (by decide) k

theorem Frame.radioHwFault {w : Nat} {a s : State} (h : Frame w a s) (k : Sub 0x107FC00000000101BD w) : Frame w a (State.radioHwFault s) := by
  unfold State.radioHwFault; try dsimp only
  repeat' first
    | with_reducible assumption
    | with_reducible apply Frame.loseAll
    | with_reducible apply Frame.whiffEnd
    | with_reducible apply Frame.txFail
    | with_reducible apply Frame.goTo
    | with_reducible apply Frame.setRadio
    | with_reducible apply Frame.endPlain
    | with_reducible apply Frame.ite
    | split
    | with_reducible apply Frame.upd
    | with_reducible rfl
    | with_reducible exact OtpKept.refl _
    | with_reducible exact Or.inr rfl
    | exact Or.inl (k.bit (by decide))
    | exact Sub.trans (by decide) k

theorem Frame.engineHold {w : Nat} {a s : State} (h : Frame w a s) (k : Sub 0x137FC00020000183BD w) : ∀ x1, Frame w a (State.engineHold s x1) := by
  intro x1
  unfold State.engineHold; try dsimp only
  repeat' first
    | with_reducible assumption
    | with_reducible apply Frame.loseAll
    | with_reducible apply Frame.txFail
    | with_reducible apply Frame.loseAndEnd
    | with_reducible apply Frame.radioHwFault
    | with_reducible apply Frame.hvlUpdate
    | with_reducible apply Frame.setEngine
    | with_reducible apply Frame.setRadio
    | with_reducible apply Frame.windowCheck
    | with_reducible apply Frame.endPlain
    | with_reducible apply Frame.ite
    | split
    | with_reducible apply Frame.upd
    | with_reducible rfl
    | with_reducible exact OtpKept.refl _
    | with_reducible exact Or.inr rfl
    | exact Or.inl (k.bit (by decide))
    | exact Sub.trans (by decide) k

theorem Frame.engineFree {w : Nat} {a s : State} (h : Frame w a s) (k : Sub 0x3400000200001833D w) : ∀ x1, Frame w a (State.engineFree s x1) := by
  intro x1
  unfold State.engineFree; try dsimp only
  repeat' first
    | with_reducible assumption
    | with_reducible apply Frame.hvlUpdate
    | with_reducible apply Frame.setEngine
    | with_reducible apply Frame.ite
    | with_reducible apply Frame.upd
    | with_reducible rfl
    | with_reducible exact OtpKept.refl _
    | with_reducible exact Or.inr rfl
    | exact Or.inl (k.bit (by decide))
    | exact Sub.trans (by decide) k

theorem Frame.unitEffect {w : Nat} {a s : State} (h : Frame w a s) (k : Sub 0x137FC00000000181BD w) : ∀ x1, Frame w a (State.unitEffect s x1) := by
  intro x1
  unfold State.unitEffect; try dsimp only
  repeat' first
    | with_reducible assumption
    | with_reducible apply Frame.txFail
    | with_reducible apply Frame.loseAndEnd
    | with_reducible apply Frame.laneEffect
    | with_reducible apply Frame.ite
    | split
    | exact Sub.trans (by decide) k

theorem Frame.unitEffects {w : Nat} {a s : State} (h : Frame w a s) (k : Sub 0x137FC00000000181BD w) : ∀ x0, Frame w a (State.unitEffects x0 s) := by
  intro x0
  unfold State.unitEffects; try dsimp only
  repeat' first
    | with_reducible assumption
    | with_reducible apply Frame.unitEffect
    | with_reducible refine Frame.foldl ?_ (fun _ _ _ => ?_)
    | with_reducible refine Frame.foldl2 ?_ (fun _ _ _ => ?_)
    | with_reducible apply Frame.ite
    | exact Sub.trans (by decide) k

theorem Frame.wordFails {w : Nat} {a s : State} (h : Frame w a s) (k : Sub 0x10438000000001019D w) : ∀ x1, Frame w a (State.wordFails s x1) := by
  intro x1
  unfold State.wordFails; try dsimp only
  repeat' first
    | with_reducible assumption
    | with_reducible apply Frame.txFail
    | with_reducible apply Frame.ite
    | split
    | with_reducible apply Frame.upd
    | with_reducible rfl
    | with_reducible exact OtpKept.refl _
    | with_reducible exact Or.inr rfl
    | exact Or.inl (k.bit (by decide))
    | exact Sub.trans (by decide) k

theorem Frame.entryFails {w : Nat} {a s : State} (h : Frame w a s) (k : Sub 0x4000000000000008 w) : ∀ x1, Frame w a (State.entryFails s x1) := by
  intro x1
  unfold State.entryFails; try dsimp only
  repeat' first
    | with_reducible assumption
    | with_reducible apply Frame.recordDone
    | with_reducible apply Frame.setEnt
    | with_reducible apply Frame.ite
    | with_reducible apply Frame.upd
    | with_reducible rfl
    | with_reducible exact OtpKept.refl _
    | with_reducible exact Or.inr rfl
    | exact Or.inl (k.bit (by decide))
    | exact Sub.trans (by decide) k

theorem Frame.faultEffect {w : Nat} {a s : State} (h : Frame w a s) (k : Sub 0x177FC000200001A3BD w) : ∀ x1, Frame w a (State.faultEffect s x1) := by
  intro x1
  unfold State.faultEffect; try dsimp only
  repeat' first
    | with_reducible assumption
    | with_reducible apply Frame.flashCorrected
    | with_reducible apply Frame.reportFault
    | with_reducible apply Frame.loseAndEnd
    | with_reducible apply Frame.answer
    | with_reducible apply Frame.wordFails
    | with_reducible apply Frame.engineHold
    | with_reducible apply Frame.ite
    | split
    | exact Sub.trans (by decide) k

theorem Frame.writeCopy {w : Nat} {a s : State} (h : Frame w a s) (k : Sub 0x61880000000010981 w) : ∀ x1 x2 x3, Frame w a (State.writeCopy s x1 x2 x3) := by
  intro x1 x2 x3
  unfold State.writeCopy; try dsimp only
  repeat' first
    | with_reducible assumption
    | with_reducible apply Frame.reportFault
    | with_reducible apply Frame.eraseSector
    | with_reducible apply Frame.programBytes
    | with_reducible apply Frame.setFlash
    | with_reducible apply Frame.flag
    | with_reducible apply Frame.ite
    | with_reducible apply Frame.upd
    | with_reducible rfl
    | with_reducible exact OtpKept.refl _
    | with_reducible exact Or.inr rfl
    | exact Or.inl (k.bit (by decide))
    | exact Sub.trans (by decide) k
    | exact PageOk.page k (by decide)

theorem Frame.rewriteEnd {w : Nat} {a s : State} (h : Frame w a s) (k : Sub 0x61880000000010981 w) : ∀ x1, Frame w a (State.rewriteEnd s x1) := by
  intro x1
  unfold State.rewriteEnd; try dsimp only
  repeat' first
    | with_reducible assumption
    | with_reducible apply Frame.writeCopy
    | with_reducible apply Frame.setReg
    | with_reducible apply Frame.put
    | with_reducible apply Frame.setPageSt
    | with_reducible refine Frame.foldl ?_ (fun _ _ _ => ?_)
    | with_reducible refine Frame.foldl2 ?_ (fun _ _ _ => ?_)
    | with_reducible apply Frame.ite
    | with_reducible apply Frame.upd
    | with_reducible rfl
    | with_reducible exact OtpKept.refl _
    | with_reducible exact Or.inr rfl
    | exact Or.inl (k.bit (by decide))
    | exact Sub.trans (by decide) k
    | exact RegOk.page k (by decide)
    | exact PageOk.page k (by decide)

theorem Frame.unretire {w : Nat} {a s : State} (h : Frame w a s) (k : Sub 0x61880000000000100 w) : ∀ x1, Frame w a (State.unretire s x1) := by
  intro x1
  unfold State.unretire; try dsimp only
  repeat' first
    | with_reducible assumption
    | with_reducible apply Frame.askRewrite
    | with_reducible apply Frame.setFaultTimes
    | with_reducible apply Frame.markRetired
    | exact Sub.trans (by decide) k

end Sys2Proof.Machine
end

