-- ==== Sys2Proof/Laws/Frame5.lean ====
section
/-! SUPPORT. What the operations leave as it was (Laws/Frame.lean): Faults, Selftest, Recording, EventFabric, Images, Update, Boot, Pages, Bus, Host. -/

set_option linter.unusedTactic false
set_option linter.unreachableTactic false

namespace Sys2Proof.Machine

theorem Frame.fltResult {w : Nat} {a s : State} (h : Frame w a s) (k : Sub 0x40000000000000000 w) : ∀ x1, Frame w a (State.fltResult s x1) := by
  intro x1
  unfold State.fltResult; try dsimp only
  repeat' first
    | with_reducible assumption
    | with_reducible apply Frame.setReg
    | exact RegOk.page k (by decide)

theorem Frame.fltCmd {w : Nat} {a s : State} (h : Frame w a s) (k : Sub 0x177FC00000000181BD w) : ∀ x1, Frame w a (State.fltCmd s x1) := by
  intro x1
  unfold State.fltCmd; try dsimp only
  repeat' first
    | with_reducible assumption
    | with_reducible apply Frame.unitEffects
    | with_reducible apply Frame.setReg
    | with_reducible apply Frame.askRewrite
    | with_reducible apply Frame.fltResult
    | with_reducible apply Frame.setFaultTimes
    | with_reducible apply Frame.unretire
    | with_reducible apply Frame.put
    | with_reducible apply Frame.retireUnit
    | with_reducible apply Frame.ite
    | with_reducible apply Frame.upd
    | with_reducible rfl
    | with_reducible exact OtpKept.refl _
    | with_reducible exact Or.inr rfl
    | exact Or.inl (k.bit (by decide))
    | exact Sub.trans (by decide) k
    | exact RegOk.page k (by decide)

theorem Frame.fltRead {w : Nat} {a s : State} (h : Frame w a s) (k : Sub 0x8100 w) : ∀ x1 x2 x3, Frame w a (Machine.fltRead s x1 x2 x3).2 := by
  intro x1 x2 x3
  unfold Machine.fltRead; try dsimp only
  repeat' first
    | with_reducible assumption
    | with_reducible apply Frame.setRegI
    | with_reducible apply Frame.ite
    | with_reducible apply Frame.ite2
    | split
    | with_reducible apply Frame.upd
    | with_reducible rfl
    | with_reducible exact OtpKept.refl _
    | with_reducible exact Or.inr rfl
    | exact Or.inl (k.bit (by decide))
    | exact Sub.trans (by decide) k

theorem Frame.fltWrite {w : Nat} {a s : State} (h : Frame w a s) (k : Sub 0x177FC00000000181BD w) : ∀ x1 x2, Frame w a (Machine.fltWrite s x1 x2) := by
  intro x1 x2
  unfold Machine.fltWrite; try dsimp only
  repeat' first
    | with_reducible assumption
    | with_reducible apply Frame.fltCmd
    | with_reducible apply Frame.ite
    | exact Sub.trans (by decide) k

theorem Frame.execRetry {w : Nat} {a s : State} (h : Frame w a s) (k : Sub 0x177FC00020000183BD w) : ∀ x0 x1, FrameAll w a (Machine.execRetry x0 x1 s) := by
  intro x0 x1
  unfold Machine.execRetry; try dsimp only
  repeat' first
    | with_reducible assumption
    | with_reducible apply Frame.scsRelockEnd
    | with_reducible apply Frame.unitEffects
    | with_reducible apply Frame.relockFailed
    | with_reducible apply Frame.resend
    | with_reducible apply Frame.crsRelockEnd
    | with_reducible apply Frame.engineFree
    | with_reducible apply Frame.ite
    | with_reducible apply FrameAll.ite
    | with_reducible apply FrameAll.next
    | split
    | refine Frame.of1 (by with_reducible assumption) ?_
    | exact Sub.trans (by decide) k

theorem Frame.execRecordRewriteDone {w : Nat} {a s : State} (h : Frame w a s) (k : Sub 0x61880000000010981 w) : ∀ x0, FrameAll w a (Machine.execRecordRewriteDone x0 s) := by
  intro x0
  unfold Machine.execRecordRewriteDone; try dsimp only
  repeat' first
    | with_reducible assumption
    | with_reducible apply Frame.rewriteEnd
    | with_reducible apply Frame.ite
    | with_reducible apply FrameAll.ite
    | with_reducible apply FrameAll.next
    | exact Sub.trans (by decide) k

theorem Frame.execEngineReload {w : Nat} {a s : State} (h : Frame w a s) (k : Sub 0x3400000200001833D w) : ∀ x0, FrameAll w a (Machine.execEngineReload x0 s) := by
  intro x0
  unfold Machine.execEngineReload; try dsimp only
  repeat' first
    | with_reducible assumption
    | with_reducible apply Frame.engineFree
    | with_reducible apply Frame.ite
    | with_reducible apply FrameAll.ite
    | with_reducible apply FrameAll.next
    | exact Sub.trans (by decide) k

theorem Frame.isoTake {w : Nat} {a s : State} (h : Frame w a s) (k : Sub 0x1AFF800000000101BD w) : ∀ x1, Frame w a (State.isoTake s x1) := by
  intro x1
  unfold State.isoTake; try dsimp only
  repeat' first
    | with_reducible assumption
    | with_reducible apply Frame.setReg
    | with_reducible apply Frame.setSlot
    | with_reducible apply Frame.moveRetired
    | with_reducible apply Frame.setPageSt
    | with_reducible apply Frame.testMark
    | split
    | with_reducible apply Frame.upd
    | with_reducible rfl
    | with_reducible exact OtpKept.refl _
    | with_reducible exact Or.inr rfl
    | exact Or.inl (k.bit (by decide))
    | exact Sub.trans (by decide) k
    | exact RegOk.page k (by decide)
    | exact PageOk.page k (by decide)

theorem Frame.bstTest {w : Nat} {a s : State} (h : Frame w a s) (k : Sub 0x1AFF800000000101BD w) : ∀ x1, Frame w a (State.bstTest s x1) := by
  intro x1
  unfold State.bstTest; try dsimp only
  repeat' first
    | with_reducible assumption
    | with_reducible apply Frame.setReg
    | with_reducible apply Frame.bstFinish
    | with_reducible apply Frame.put
    | with_reducible apply Frame.setPageSt
    | with_reducible apply Frame.isoTake
    | with_reducible apply Frame.ite
    | split
    | with_reducible apply Frame.upd
    | with_reducible rfl
    | with_reducible exact OtpKept.refl _
    | with_reducible exact Or.inr rfl
    | exact Or.inl (k.bit (by decide))
    | exact Sub.trans (by decide) k
    | exact RegOk.page k (by decide)
    | exact PageOk.page k (by decide)

theorem Frame.unitFresh {w : Nat} {a s : State} (h : Frame w a s) (k : Sub 0x3400000200001813D w) : ∀ x1, Frame w a (State.unitFresh s x1) := by
  intro x1
  unfold State.unitFresh; try dsimp only
  repeat' first
    | with_reducible assumption
    | with_reducible apply Frame.retrain
    | with_reducible apply Frame.setSlot
    | with_reducible apply Frame.hvlUpdate
    | with_reducible apply Frame.ctxFree
    | with_reducible refine Frame.foldl ?_ (fun _ _ _ => ?_)
    | with_reducible refine Frame.foldl2 ?_ (fun _ _ _ => ?_)
    | with_reducible apply Frame.ite
    | split
    | exact Sub.trans (by decide) k

theorem Frame.bstAbort {w : Nat} {a s : State} (h : Frame w a s) (k : Sub 0xBF88000200001813D w) : Frame w a (State.bstAbort s) := by
  unfold State.bstAbort; try dsimp only
  repeat' first
    | with_reducible assumption
    | with_reducible apply Frame.bstFinish
    | with_reducible apply Frame.unitFresh
    | with_reducible apply Frame.ite
    | split
    | exact Sub.trans (by decide) k

theorem Frame.bstCmd {w : Nat} {a s : State} (h : Frame w a s) (k : Sub 0x1BFF800020000181BD w) : ∀ x1, Frame w a (State.bstCmd s x1) := by
  intro x1
  unfold State.bstCmd; try dsimp only
  repeat' first
    | with_reducible assumption
    | with_reducible apply Frame.bstAbort
    | with_reducible apply Frame.bstTest
    | with_reducible apply Frame.ite
    | exact Sub.trans (by decide) k

theorem Frame.memoryTested {w : Nat} {a s : State} (h : Frame w a s) (k : Sub 0x901 w) : ∀ x1, Frame w a (State.memoryTested s x1) := by
  intro x1
  unfold State.memoryTested; try dsimp only
  repeat' first
    | with_reducible assumption
    | with_reducible apply Frame.clearRange
    | with_reducible apply Frame.eraseSector
    | with_reducible apply Frame.ite
    | exact Sub.trans (by decide) k

theorem Frame.bstVerdict {w : Nat} {a s : State} (h : Frame w a s) (k : Sub 0xFF8800020000181BD w) : ∀ x1 x2, Frame w a (State.bstVerdict s x1 x2) := by
  intro x1 x2
  unfold State.bstVerdict; try dsimp only
  repeat' first
    | with_reducible assumption
    | with_reducible apply Frame.reportFault
    | with_reducible apply Frame.bstFinish
    | with_reducible apply Frame.unitFresh
    | with_reducible apply Frame.ite
    | with_reducible apply Frame.upd
    | with_reducible rfl
    | with_reducible exact OtpKept.refl _
    | with_reducible exact Or.inr rfl
    | exact Or.inl (k.bit (by decide))
    | exact Sub.trans (by decide) k

theorem Frame.execTestIsolation {w : Nat} {a s : State} (h : Frame w a s) (k : Sub 0x1AFF800000000101BD w) : FrameAll w a (Machine.execTestIsolation s) := by
  unfold Machine.execTestIsolation; try dsimp only
  repeat' first
    | with_reducible assumption
    | with_reducible apply Frame.bstFinish
    | with_reducible apply Frame.isoTake
    | with_reducible apply Frame.ite
    | with_reducible apply FrameAll.ite
    | with_reducible apply FrameAll.next
    | split
    | exact Sub.trans (by decide) k

theorem Frame.execTestDone {w : Nat} {a s : State} (h : Frame w a s) (k : Sub 0x1FFFC00020000189BD w) : ∀ x0, FrameAll w a (Machine.execTestDone x0 s) := by
  intro x0
  unfold Machine.execTestDone; try dsimp only
  repeat' first
    | with_reducible assumption
    | with_reducible apply Frame.unitEffects
    | with_reducible apply Frame.bstVerdict
    | with_reducible apply Frame.setReg
    | with_reducible apply Frame.memoryTested
    | with_reducible apply Frame.ite
    | with_reducible apply FrameAll.ite
    | with_reducible apply FrameAll.next
    | split
    | exact Sub.trans (by decide) k
    | exact RegOk.page k (by decide)

theorem Frame.recCfg {w : Nat} {a s : State} (h : Frame w a s) (k : Sub 0x10101 w) : ∀ x1, Frame w a (State.recCfg s x1) := by
  intro x1
  unfold State.recCfg; try dsimp only
  repeat' first
    | with_reducible assumption
    | with_reducible apply Frame.record
    | with_reducible apply Frame.ite
    | exact Sub.trans (by decide) k

theorem Frame.recDescSet {w : Nat} {a s : State} (h : Frame w a s) (k : Sub 0x10101 w) : ∀ x1, Frame w a (State.recDescSet s x1) := by
  intro x1
  unfold State.recDescSet; try dsimp only
  repeat' first
    | with_reducible assumption
    | with_reducible apply Frame.record
    | split
    | exact Sub.trans (by decide) k

theorem Frame.recArm {w : Nat} {a s : State} (h : Frame w a s) (k : Sub 0x100000000000010101 w) : Frame w a (State.recArm s) := by
  unfold State.recArm; try dsimp only
  repeat' first
    | with_reducible assumption
    | with_reducible apply Frame.recCfg
    | with_reducible apply Frame.setPageSt
    | with_reducible apply Frame.scsRecord
    | with_reducible apply Frame.recDescSet
    | with_reducible refine Frame.foldl ?_ (fun _ _ _ => ?_)
    | with_reducible refine Frame.foldl2 ?_ (fun _ _ _ => ?_)
    | with_reducible apply Frame.ite
    | with_reducible apply Frame.upd
    | with_reducible rfl
    | with_reducible exact OtpKept.refl _
    | with_reducible exact Or.inr rfl
    | exact Or.inl (k.bit (by decide))
    | exact Sub.trans (by decide) k
    | exact PageOk.page k (by decide)

theorem Frame.recMark {w : Nat} {a s : State} (h : Frame w a s) (k : Sub 0x10101 w) : ∀ x1, Frame w a (State.recMark s x1) := by
  intro x1
  unfold State.recMark; try dsimp only
  repeat' first
    | with_reducible assumption
    | with_reducible apply Frame.record
    | with_reducible apply Frame.ite
    | exact Sub.trans (by decide) k

theorem Frame.recHeader {w : Nat} {a s : State} (h : Frame w a s) (k : Sub 0x10000 w) : ∀ x1 x2, Frame w a (State.recHeader s x1 x2).2 := by
  intro x1 x2
  unfold State.recHeader; try dsimp only
  repeat' first
    | with_reducible assumption
    | with_reducible apply Frame.freeVal
    | with_reducible apply Frame.ite
    | with_reducible apply Frame.ite2
    | split
    | refine Frame.of2 (by with_reducible assumption) ?_
    | exact Sub.trans (by decide) k

theorem Frame.laySamples {w : Nat} {a s : State} (h : Frame w a s) (k : Sub 0x101 w) : ∀ x1, Frame w a (State.laySamples s x1) := by
  intro x1
  unfold State.laySamples; try dsimp only
  repeat' first
    | with_reducible assumption
    | with_reducible apply Frame.setBytes
    | with_reducible apply Frame.ite
    | exact Sub.trans (by decide) k

theorem Frame.recFreeze {w : Nat} {a s : State} (h : Frame w a s) (k : Sub 0x161880000000010181 w) : ∀ x1 x2, Frame w a (State.recFreeze s x1 x2) := by
  intro x1 x2
  unfold State.recFreeze; try dsimp only
  repeat' first
    | with_reducible assumption
    | with_reducible apply Frame.laySamples
    | with_reducible apply Frame.setBytes
    | with_reducible apply Frame.event
    | with_reducible apply Frame.reportFault
    | with_reducible apply Frame.recHeader
    | with_reducible apply Frame.put
    | with_reducible apply Frame.flag
    | with_reducible apply Frame.setPageSt
    | with_reducible refine Frame.foldl ?_ (fun _ _ _ => ?_)
    | with_reducible refine Frame.foldl2 ?_ (fun _ _ _ => ?_)
    | with_reducible apply Frame.ite
    | split
    | refine Frame.of2 (by with_reducible assumption) ?_
    | exact Sub.trans (by decide) k
    | exact RegOk.page k (by decide)
    | exact PageOk.page k (by decide)

theorem Frame.recReplay {w : Nat} {a s : State} (h : Frame w a s) (k : Sub 0x100000000000000000 w) : Frame w a (State.recReplay s) := by
  unfold State.recReplay; try dsimp only
  repeat' first
    | with_reducible assumption
    | with_reducible apply Frame.put
    | with_reducible apply Frame.setPageSt
    | with_reducible apply Frame.ite
    | exact RegOk.page k (by decide)
    | exact PageOk.page k (by decide)

theorem Frame.recCtrl {w : Nat} {a s : State} (h : Frame w a s) (k : Sub 0x100000000000010101 w) : ∀ x1, Frame w a (State.recCtrl s x1) := by
  intro x1
  unfold State.recCtrl; try dsimp only
  repeat' first
    | with_reducible assumption
    | with_reducible apply Frame.recArm
    | with_reducible apply Frame.recTrigger
    | with_reducible apply Frame.recReplay
    | with_reducible apply Frame.ite
    | exact Sub.trans (by decide) k

theorem Frame.replayFrame {w : Nat} {a s : State} (h : Frame w a s) (k : Sub 0x8000000000010111 w) : ∀ x1, Frame w a (State.replayFrame s x1) := by
  intro x1
  unfold State.replayFrame; try dsimp only
  repeat' first
    | with_reducible assumption
    | with_reducible apply Frame.storeChain
    | refine Frame.takeBlocks ?_ ?_ _ _ _ _ (by with_reducible assumption)
    | split
    | with_reducible apply Frame.upd
    | with_reducible rfl
    | with_reducible exact OtpKept.refl _
    | with_reducible exact Or.inr rfl
    | exact Or.inl (k.bit (by decide))
    | exact Sub.trans (by decide) k

theorem Frame.replayed {w : Nat} {a s : State} (h : Frame w a s) (k : Sub 0x61880000000010182 w) : ∀ x1, Frame w a (State.replayed s x1).2 := by
  intro x1
  unfold State.replayed; try dsimp only
  repeat' first
    | with_reducible assumption
    | with_reducible apply Frame.slotKey
    | with_reducible apply Frame.freeVal
    | with_reducible apply Frame.ite
    | with_reducible apply Frame.ite2
    | split
    | refine Frame.of2 (by with_reducible assumption) ?_
    | exact Sub.trans (by decide) k

theorem Frame.replayFrames {w : Nat} {a s : State} (h : Frame w a s) (k : Sub 0x69880000000010193 w) : ∀ x1, Frame w a (State.replayFrames s x1) := by
  intro x1
  unfold State.replayFrames; try dsimp only
  repeat' first
    | with_reducible assumption
    | with_reducible apply Frame.replayed
    | with_reducible apply Frame.replayFrame
    | with_reducible refine Frame.foldl ?_ (fun _ _ _ => ?_)
    | with_reducible refine Frame.foldl2 ?_ (fun _ _ _ => ?_)
    | with_reducible apply Frame.ite
    | split
    | refine Frame.of2 (by with_reducible assumption) ?_
    | exact Sub.trans (by decide) k

theorem Frame.recCfgRefused {w : Nat} {a s : State} (h : Frame w a s) (k : Sub 0x100000000000000000 w) : ∀ x1 t, State.recCfgRefused s x1 = some t → Frame w a t := by
  intro x1 t e
  unfold State.recCfgRefused at e; try dsimp only at e
  repeat' first
    | with_reducible assumption
    | (with_reducible contradiction)
    | with_reducible refine Frame.ofSome1 e ?_
    | (split at e)
    | with_reducible apply Frame.lockViol
    | with_reducible apply Frame.flag
    | with_reducible apply Frame.ite
    | split
    | exact PageOk.page k (by decide)

theorem Frame.recRead {w : Nat} {a s : State} (h : Frame w a s) (k : Sub 0x100 w) : ∀ x1 x2, Frame w a (Machine.recRead s x1 x2).2 := by
  intro x1 x2
  unfold Machine.recRead; try dsimp only
  repeat' first
    | with_reducible assumption
    | with_reducible apply Frame.ite
    | with_reducible apply Frame.ite2
    | split
    | with_reducible apply Frame.upd
    | with_reducible rfl
    | with_reducible exact OtpKept.refl _
    | with_reducible exact Or.inr rfl
    | exact Or.inl (k.bit (by decide))

theorem Frame.recWrite {w : Nat} {a s : State} (h : Frame w a s) (k : Sub 0x100000000000010101 w) : ∀ x1 x2, Frame w a (Machine.recWrite s x1 x2) := by
  intro x1 x2
  unfold Machine.recWrite; try dsimp only
  repeat' first
    | with_reducible assumption
    | with_reducible apply Frame.recMark
    | with_reducible apply Frame.recCtrl
    | with_reducible apply Frame.ite
    | exact Sub.trans (by decide) k

theorem Frame.execPostEnd {w : Nat} {a s : State} (h : Frame w a s) (k : Sub 0x100 w) : FrameAll w a (Machine.execPostEnd s) := by
  unfold Machine.execPostEnd; try dsimp only
  repeat' first
    | with_reducible assumption
    | with_reducible apply Frame.ite
    | with_reducible apply FrameAll.ite
    | with_reducible apply FrameAll.next
    | with_reducible apply Frame.upd
    | with_reducible rfl
    | with_reducible exact OtpKept.refl _
    | with_reducible exact Or.inr rfl
    | exact Or.inl (k.bit (by decide))

theorem Frame.execFrozen {w : Nat} {a s : State} (h : Frame w a s) (k : Sub 0x161880000000010181 w) : ∀ x0 x1, FrameAll w a (Machine.execFrozen x0 x1 s) := by
  intro x0 x1
  unfold Machine.execFrozen; try dsimp only
  repeat' first
    | with_reducible assumption
    | with_reducible apply Frame.recFreeze
    | with_reducible apply Frame.ite
    | with_reducible apply FrameAll.ite
    | with_reducible apply FrameAll.next
    | exact Sub.trans (by decide) k

theorem Frame.execReplayDone {w : Nat} {a s : State} (h : Frame w a s) (k : Sub 0x169880000000010193 w) : ∀ x0, FrameAll w a (Machine.execReplayDone x0 s) := by
  intro x0
  unfold Machine.execReplayDone; try dsimp only
  repeat' first
    | with_reducible assumption
    | with_reducible apply Frame.put
    | with_reducible apply Frame.flag
    | with_reducible apply Frame.replayFrames
    | with_reducible apply Frame.setPageSt
    | with_reducible apply Frame.ite
    | with_reducible apply FrameAll.ite
    | with_reducible apply FrameAll.next
    | exact Sub.trans (by decide) k
    | exact RegOk.page k (by decide)
    | exact PageOk.page k (by decide)

theorem Frame.setPin {w : Nat} {a s : State} (h : Frame w a s) (k : Sub 0x200000000000 w) : ∀ x1 x2, Frame w a (State.setPin s x1 x2) := by
  intro x1 x2
  unfold State.setPin; try dsimp only
  repeat' first
    | with_reducible assumption
    | with_reducible apply Frame.putRegBit
    | exact RegOk.page k (by decide)

theorem Frame.levelFlags {w : Nat} {a s : State} (h : Frame w a s) (k : Sub 0x200000000000 w) : Frame w a (State.levelFlags s) := by
  unfold State.levelFlags; try dsimp only
  repeat' first
    | with_reducible assumption
    | with_reducible apply Frame.putRegBit
    | with_reducible refine Frame.foldl ?_ (fun _ _ _ => ?_)
    | with_reducible refine Frame.foldl2 ?_ (fun _ _ _ => ?_)
    | with_reducible apply Frame.ite
    | exact RegOk.page k (by decide)

theorem Frame.pinEdge {w : Nat} {a s : State} (h : Frame w a s) (k : Sub 0x80 w) : ∀ x1 x2, Frame w a (State.pinEdge s x1 x2) := by
  intro x1 x2
  unfold State.pinEdge; try dsimp only
  repeat' first
    | with_reducible assumption
    | with_reducible apply Frame.event
    | with_reducible refine Frame.foldl ?_ (fun _ _ _ => ?_)
    | with_reducible refine Frame.foldl2 ?_ (fun _ _ _ => ?_)
    | with_reducible apply Frame.ite
    | exact Sub.trans (by decide) k

theorem Frame.pinTakes {w : Nat} {a s : State} (h : Frame w a s) (k : Sub 0x200000000000 w) : ∀ x1 x2, Frame w a (State.pinTakes s x1 x2) := by
  intro x1 x2
  unfold State.pinTakes; try dsimp only
  repeat' first
    | with_reducible assumption
    | with_reducible apply Frame.setPin
    | with_reducible apply Frame.putRegBit
    | with_reducible apply Frame.levelFlags
    | with_reducible apply Frame.ite
    | exact Sub.trans (by decide) k
    | exact RegOk.page k (by decide)

theorem Frame.drivePins {w : Nat} {a s : State} (h : Frame w a s) (k : Sub 0x200000000080 w) : Frame w a (State.drivePins s) := by
  unfold State.drivePins; try dsimp only
  repeat' first
    | with_reducible assumption
    | with_reducible apply Frame.pinEdge
    | with_reducible apply Frame.pinTakes
    | with_reducible refine Frame.foldl ?_ (fun _ _ _ => ?_)
    | with_reducible refine Frame.foldl2 ?_ (fun _ _ _ => ?_)
    | with_reducible apply Frame.ite
    | exact Sub.trans (by decide) k

theorem Frame.pinTask {w : Nat} {a s : State} (h : Frame w a s) (k : Sub 0x200000000080 w) : ∀ x1, Frame w a (State.pinTask s x1) := by
  intro x1
  unfold State.pinTask; try dsimp only
  repeat' first
    | with_reducible assumption
    | with_reducible apply Frame.putRegBit
    | with_reducible apply Frame.drivePins
    | with_reducible apply Frame.ite
    | exact Sub.trans (by decide) k
    | exact RegOk.page k (by decide)

theorem Frame.taskAct {w : Nat} {a s : State} (h : Frame w a s) (k : Sub 0x11000003000000301C5 w) : ∀ x1, Frame w a (State.taskAct s x1) := by
  intro x1
  unfold State.taskAct; try dsimp only
  repeat' first
    | with_reducible assumption
    | with_reducible apply Frame.recArm
    | with_reducible apply Frame.pinTask
    | with_reducible apply Frame.tsnSample
    | with_reducible apply Frame.putRegBit
    | with_reducible apply Frame.tmrStart
    | with_reducible apply Frame.tmrCapture
    | with_reducible apply Frame.tmrClear
    | with_reducible apply Frame.recTrigger
    | with_reducible apply Frame.tmrStop
    | with_reducible apply Frame.ite
    | exact Sub.trans (by decide) k
    | exact RegOk.page k (by decide)
    | exact RegOk.all k (by decide)

theorem Frame.deliverTask {w : Nat} {a s : State} (h : Frame w a s) (k : Sub 0x11000003000000341C5 w) : ∀ x1 x2, Frame w a (State.deliverTask s x1 x2) := by
  intro x1 x2
  unfold State.deliverTask; try dsimp only
  repeat' first
    | with_reducible assumption
    | with_reducible apply Frame.taskAct
    | with_reducible apply Frame.setReg
    | with_reducible apply Frame.putRegBit
    | with_reducible apply Frame.cfgChange
    | with_reducible apply Frame.putBit
    | with_reducible apply Frame.flag
    | with_reducible apply Frame.countSat
    | with_reducible apply Frame.ite
    | with_reducible apply Frame.upd
    | with_reducible rfl
    | with_reducible exact OtpKept.refl _
    | with_reducible exact Or.inr rfl
    | exact Or.inl (k.bit (by decide))
    | exact Sub.trans (by decide) k
    | exact RegOk.page k (by decide)
    | exact RegOk.all k (by decide)
    | exact PageOk.page k (by decide)
    | exact PageOk.all k (by decide)

theorem Frame.deliverOne {w : Nat} {a s : State} (h : Frame w a s) (k : Sub 0x11000003000000341C5 w) : ∀ x1, Frame w a (State.deliverOne s x1) := by
  intro x1
  unfold State.deliverOne; try dsimp only
  repeat' first
    | with_reducible assumption
    | with_reducible apply Frame.deliverTask
    | with_reducible apply Frame.ite
    | with_reducible apply Frame.upd
    | with_reducible rfl
    | with_reducible exact OtpKept.refl _
    | with_reducible exact Or.inr rfl
    | exact Or.inl (k.bit (by decide))
    | exact Sub.trans (by decide) k

theorem Frame.deliverAll {w : Nat} {a s : State} (h : Frame w a s) (k : Sub 0x11000003000000341C5 w) : Frame w a (State.deliverAll s) := by
  unfold State.deliverAll; try dsimp only
  repeat' first
    | with_reducible assumption
    | with_reducible apply Frame.deliverOne
    | with_reducible refine Frame.foldl ?_ (fun _ _ _ => ?_)
    | with_reducible refine Frame.foldl2 ?_ (fun _ _ _ => ?_)
    | with_reducible apply Frame.ite
    | exact Sub.trans (by decide) k

theorem Frame.fabricEdge {w : Nat} {a s : State} (h : Frame w a s) (k : Sub 0x11000003000000341C5 w) : Frame w a (State.fabricEdge s) := by
  have b : w.testBit 7 = true := k.bit (by decide)
  have g := h.deliverAll (Sub.trans (by decide) k)
  unfold State.fabricEdge
  generalize s.deliverAll = u at g
  exact Frame.upd g rfl (OtpKept.refl _) (Or.inr rfl) (Or.inr rfl) (Or.inr rfl) (Or.inr rfl) (Or.inr rfl) (Or.inr rfl) (Or.inl b) (Or.inr rfl)
    (Or.inr rfl) (Or.inr rfl) (Or.inr rfl) (Or.inr rfl) (Or.inr rfl) (Or.inr rfl)

theorem Frame.swTrig {w : Nat} {a s : State} (h : Frame w a s) (k : Sub 0x80 w) : ∀ x1, Frame w a (State.swTrig s x1) := by
  intro x1
  unfold State.swTrig; try dsimp only
  repeat' first
    | with_reducible assumption
    | with_reducible apply Frame.event
    | with_reducible refine Frame.foldl ?_ (fun _ _ _ => ?_)
    | with_reducible refine Frame.foldl2 ?_ (fun _ _ _ => ?_)
    | with_reducible apply Frame.ite
    | exact Sub.trans (by decide) k

theorem Frame.taskTrig {w : Nat} {a s : State} (h : Frame w a s) (k : Sub 0x80 w) : ∀ x1, Frame w a (State.taskTrig s x1) := by
  intro x1
  unfold State.taskTrig; try dsimp only
  repeat' first
    | with_reducible assumption
    | with_reducible apply Frame.ite
    | with_reducible apply Frame.upd
    | with_reducible rfl
    | with_reducible exact OtpKept.refl _
    | with_reducible exact Or.inr rfl
    | exact Or.inl (k.bit (by decide))

theorem Frame.altCheck {w : Nat} {a s : State} (h : Frame w a s) (k : Sub 0x200000000000 w) : Frame w a (State.altCheck s) := by
  unfold State.altCheck; try dsimp only
  repeat' first
    | with_reducible assumption
    | with_reducible apply Frame.flag
    | with_reducible apply Frame.ite
    | exact PageOk.page k (by decide)

theorem Frame.evfWrite {w : Nat} {a s : State} (h : Frame w a s) (k : Sub 0x100000000080 w) : ∀ x1 x2, Frame w a (Machine.evfWrite s x1 x2) := by
  intro x1 x2
  unfold Machine.evfWrite; try dsimp only
  repeat' first
    | with_reducible assumption
    | with_reducible apply Frame.taskTrig
    | with_reducible apply Frame.setPageSt
    | with_reducible apply Frame.swTrig
    | with_reducible apply Frame.ite
    | exact Sub.trans (by decide) k
    | exact PageOk.page k (by decide)

theorem Frame.gpioWrite {w : Nat} {a s : State} (h : Frame w a s) (k : Sub 0x200000000080 w) : ∀ x1, Frame w a (Machine.gpioWrite s x1) := by
  intro x1
  unfold Machine.gpioWrite; try dsimp only
  repeat' first
    | with_reducible assumption
    | with_reducible apply Frame.levelFlags
    | with_reducible apply Frame.altCheck
    | with_reducible apply Frame.drivePins
    | with_reducible apply Frame.ite
    | exact Sub.trans (by decide) k

theorem Frame.execEventSample {w : Nat} {a s : State} (h : Frame w a s) (k : Sub 0x11000003000000341C5 w) : FrameAll w a (Machine.execEventSample s) := by
  unfold Machine.execEventSample; try dsimp only
  repeat' first
    | with_reducible assumption
    | with_reducible apply Frame.fabricEdge
    | with_reducible apply Frame.ite
    | with_reducible apply FrameAll.ite
    | with_reducible apply FrameAll.next
    | exact Sub.trans (by decide) k

theorem Frame.execHeldEventsSample {w : Nat} {a s : State} (h : Frame w a s) (k : Sub 0x11000003000000341C5 w) : FrameAll w a (Machine.execHeldEventsSample s) := by
  unfold Machine.execHeldEventsSample; try dsimp only
  repeat' first
    | with_reducible assumption
    | with_reducible apply Frame.fabricEdge
    | with_reducible apply Frame.ite
    | with_reducible apply FrameAll.ite
    | with_reducible apply FrameAll.next
    | exact Sub.trans (by decide) k

theorem Frame.execTaskTrigger {w : Nat} {a s : State} (h : Frame w a s) (k : Sub 0x11000003000000341C5 w) : ∀ x0, FrameAll w a (Machine.execTaskTrigger x0 s) := by
  intro x0
  unfold Machine.execTaskTrigger; try dsimp only
  repeat' first
    | with_reducible assumption
    | with_reducible apply Frame.deliverOne
    | with_reducible apply Frame.ite
    | with_reducible apply FrameAll.ite
    | with_reducible apply FrameAll.next
    | exact Sub.trans (by decide) k

theorem Frame.execPinEvt {w : Nat} {a s : State} (h : Frame w a s) (k : Sub 0x200000000080 w) : ∀ x0 x1, FrameAll w a (Machine.execPinEvt x0 x1 s) := by
  intro x0 x1
  unfold Machine.execPinEvt; try dsimp only
  repeat' first
    | with_reducible assumption
    | with_reducible apply Frame.setPin
    | with_reducible apply Frame.pinEdge
    | with_reducible apply Frame.ite
    | with_reducible apply FrameAll.ite
    | with_reducible apply FrameAll.next
    | exact Sub.trans (by decide) k

theorem Frame.execGpioInt {w : Nat} {a s : State} (h : Frame w a s) (k : Sub 0x200000000000 w) : ∀ x0 x1, FrameAll w a (Machine.execGpioInt x0 x1 s) := by
  intro x0 x1
  unfold Machine.execGpioInt; try dsimp only
  repeat' first
    | with_reducible assumption
    | with_reducible apply Frame.pinTakes
    | with_reducible apply Frame.ite
    | with_reducible apply FrameAll.ite
    | with_reducible apply FrameAll.next
    | exact Sub.trans (by decide) k

theorem Frame.freeBytes {w : Nat} {a s : State} (h : Frame w a s) (k : Sub 0x10000 w) : ∀ n, Frame w a (State.freeBytes s n).2 := by
  intro n
  induction n generalizing s
  case zero => exact h
  case succ n ih => exact ih (h.freeVal (Sub.trans (by decide) k))

theorem Frame.viewBytes {w : Nat} {a s : State} (h : Frame w a s) (k : Sub 0x10000 w) : ∀ x1 x2, Frame w a (State.viewBytes s x1 x2).2 := by
  intro x1 x2
  unfold State.viewBytes; try dsimp only
  repeat' first
    | with_reducible assumption
    | with_reducible apply Frame.freeBytes
    | with_reducible apply Frame.ite
    | with_reducible apply Frame.ite2
    | refine Frame.of2 (by with_reducible assumption) ?_
    | exact Sub.trans (by decide) k

theorem Frame.imageError {w : Nat} {a s : State} (h : Frame w a s) (k : Sub 0x10000 w) : ∀ x1 x2 x3 x4 x5, Frame w a (State.imageError s x1 x2 x3 x4 x5).2 := by
  intro x1 x2 x3 x4 x5
  unfold State.imageError; try dsimp only
  repeat' first
    | with_reducible assumption
    | with_reducible apply Frame.viewBytes
    | with_reducible apply Frame.ite
    | with_reducible apply Frame.ite2
    | split
    | refine Frame.of2 (by with_reducible assumption) ?_
    | exact Sub.trans (by decide) k

theorem Frame.authRecord {w : Nat} {a s : State} (h : Frame w a s) (k : Sub 0x10000000000000 w) : ∀ x1 x2, Frame w a (State.authRecord s x1 x2) := by
  intro x1 x2
  unfold State.authRecord; try dsimp only
  repeat' first
    | with_reducible assumption
    | with_reducible apply Frame.put
    | with_reducible apply Frame.flag
    | with_reducible apply Frame.ite
    | exact RegOk.page k (by decide)
    | exact PageOk.page k (by decide)

theorem Frame.checkHome {w : Nat} {a s : State} (h : Frame w a s) (k : Sub 0x10000000010000 w) : ∀ x1 x2 x3, Frame w a (State.checkHome s x1 x2 x3).2 := by
  intro x1 x2 x3
  unfold State.checkHome; try dsimp only
  repeat' first
    | with_reducible assumption
    | with_reducible apply Frame.imageError
    | with_reducible apply Frame.viewBytes
    | with_reducible apply Frame.authRecord
    | with_reducible apply Frame.ite
    | with_reducible apply Frame.ite2
    | split
    | refine Frame.of2 (by with_reducible assumption) ?_
    | exact Sub.trans (by decide) k

theorem Frame.sealOf {w : Nat} {a s : State} (h : Frame w a s) (k : Sub 0x10000 w) : Frame w a (State.sealOf s).2 := by
  unfold State.sealOf; try dsimp only
  repeat' first
    | with_reducible assumption
    | with_reducible apply Frame.viewBytes
    | with_reducible refine Frame.foldl ?_ (fun _ _ _ => ?_)
    | with_reducible refine Frame.foldl2 ?_ (fun _ _ _ => ?_)
    | split
    | refine Frame.of2 (by with_reducible assumption) ?_
    | exact Sub.trans (by decide) k

theorem Frame.loadCode {w : Nat} {a s : State} (h : Frame w a s) (k : Sub 0x10101 w) : ∀ x1 x2 x3, Frame w a (State.loadCode s x1 x2 x3).2 := by
  intro x1 x2 x3
  unfold State.loadCode; try dsimp only
  repeat' first
    | with_reducible assumption
    | with_reducible apply Frame.setBytes
    | with_reducible apply Frame.viewBytes
    | split
    | refine Frame.of2 (by with_reducible assumption) ?_
    | exact Sub.trans (by decide) k

theorem Frame.setUpd {w : Nat} {a s : State} (h : Frame w a s) (k : Sub 0x200 w) : ∀ x1, Frame w a (State.setUpd s x1) := by
  intro x1
  unfold State.setUpd; try dsimp only
  repeat' first
    | with_reducible assumption
    | with_reducible apply Frame.upd
    | with_reducible rfl
    | with_reducible exact OtpKept.refl _
    | with_reducible exact Or.inr rfl
    | exact Or.inl (k.bit (by decide))

theorem Frame.updEnter {w : Nat} {a s : State} (h : Frame w a s) (k : Sub 0x200008000000000000 w) : ∀ x1, Frame w a (State.updEnter s x1) := by
  intro x1
  unfold State.updEnter; try dsimp only
  repeat' first
    | with_reducible assumption
    | with_reducible apply Frame.put
    | with_reducible apply Frame.setPageSt
    | with_reducible apply Frame.ite
    | exact RegOk.page k (by decide)
    | exact PageOk.page k (by decide)

theorem Frame.updEnd {w : Nat} {a s : State} (h : Frame w a s) (k : Sub 0x200000000000000000 w) : ∀ x1, Frame w a (State.updEnd s x1) := by
  intro x1
  unfold State.updEnd; try dsimp only
  repeat' first
    | with_reducible assumption
    | with_reducible apply Frame.put
    | with_reducible apply Frame.flag
    | exact RegOk.page k (by decide)
    | exact PageOk.page k (by decide)

theorem Frame.manifest {w : Nat} {a s : State} (h : Frame w a s) (k : Sub 0x10000 w) : Frame w a (State.manifest s).2 := by
  unfold State.manifest; try dsimp only
  repeat' first
    | with_reducible assumption
    | with_reducible apply Frame.viewBytes
    | refine Frame.of2 (by with_reducible assumption) ?_
    | exact Sub.trans (by decide) k

theorem Frame.updBusy {w : Nat} {a s : State} (h : Frame w a s) (k : Sub 0x200000000000000000 w) : Frame w a (State.updBusy s) := by
  unfold State.updBusy; try dsimp only
  repeat' first
    | with_reducible assumption
    | with_reducible apply Frame.put
    | exact RegOk.page k (by decide)

theorem Frame.journal {w : Nat} {a s : State} (h : Frame w a s) (k : Sub 0x10B01 w) : ∀ x1 x2 x3, Frame w a (State.journal s x1 x2 x3) := by
  intro x1 x2 x3
  unfold State.journal; try dsimp only
  repeat' first
    | with_reducible assumption
    | with_reducible apply Frame.eraseSector
    | with_reducible apply Frame.programBytes
    | with_reducible apply Frame.setUpd
    | with_reducible apply Frame.ite
    | with_reducible apply Frame.upd
    | with_reducible rfl
    | with_reducible exact OtpKept.refl _
    | with_reducible exact Or.inr rfl
    | exact Or.inl (k.bit (by decide))
    | exact Sub.trans (by decide) k

theorem Frame.stagedImages {w : Nat} {a s : State} (h : Frame w a s) (k : Sub 0x10000000010000 w) : ∀ d m ts, Frame w a (State.stagedImages s d m ts).2 := by
  intro d m ts
  induction ts generalizing s
  case nil => exact h
  case cons t ts ih =>
    unfold State.stagedImages; dsimp only
    repeat' first
      | with_reducible assumption
      | with_reducible apply Frame.ite2
      | with_reducible apply Frame.authRecord
      | with_reducible apply ih
      | with_reducible apply Frame.viewBytes
      | with_reducible apply Frame.imageError
      | refine Frame.of2 (by with_reducible assumption) ?_
      | split
      | exact Sub.trans (by decide) k

theorem Frame.stageChecks {w : Nat} {a s : State} (h : Frame w a s) (k : Sub 0x10000000010000 w) : Frame w a (State.stageChecks s).2.2 := by
  unfold State.stageChecks; try dsimp only
  repeat' first
    | with_reducible assumption
    | with_reducible apply Frame.manifest
    | with_reducible apply Frame.viewBytes
    | with_reducible apply Frame.stagedImages
    | with_reducible refine Frame.foldl ?_ (fun _ _ _ => ?_)
    | with_reducible refine Frame.foldl2 ?_ (fun _ _ _ => ?_)
    | with_reducible apply Frame.ite
    | with_reducible apply Frame.ite3
    | split
    | refine Frame.of2 (by with_reducible assumption) ?_
    | exact Sub.trans (by decide) k

theorem Frame.saveCopies {w : Nat} {a s : State} (h : Frame w a s) (k : Sub 0x10901 w) : ∀ ts n, Frame w a (State.saveCopies s ts n) := by
  intro ts n
  induction ts generalizing s n
  case nil => exact h
  case cons t ts ih =>
    unfold State.saveCopies
    exact ih ((Frame.foldl h (fun _ hu _ => hu.eraseSector (Sub.trans (by decide) k) _)).programBytes (Sub.trans (by decide) k) _ _) _

theorem Frame.stageEnd {w : Nat} {a s : State} (h : Frame w a s) (k : Sub 0x200018000000010B01 w) : Frame w a (State.stageEnd s) := by
  unfold State.stageEnd; try dsimp only
  repeat' first
    | with_reducible assumption
    | with_reducible apply Frame.journal
    | with_reducible apply Frame.saveCopies
    | with_reducible apply Frame.stageChecks
    | with_reducible apply Frame.updEnd
    | with_reducible apply Frame.put
    | with_reducible apply Frame.updEnter
    | with_reducible apply Frame.updBusy
    | with_reducible apply Frame.setUpd
    | with_reducible apply Frame.freeVal
    | with_reducible apply Frame.ite
    | split
    | refine Frame.of2 (by with_reducible assumption) ?_
    | refine Frame.of3 (by with_reducible assumption) ?_
    | with_reducible apply Frame.upd
    | with_reducible rfl
    | with_reducible exact OtpKept.refl _
    | with_reducible exact Or.inr rfl
    | exact Or.inl (k.bit (by decide))
    | exact Sub.trans (by decide) k
    | exact RegOk.page k (by decide)

theorem Frame.loadShadow {w : Nat} {a s : State} (h : Frame w a s) (k : Sub 0x10301 w) : ∀ x1 x2, Frame w a (State.loadShadow s x1 x2) := by
  intro x1 x2
  unfold State.loadShadow; try dsimp only
  repeat' first
    | with_reducible assumption
    | with_reducible apply Frame.loadCode
    | with_reducible apply Frame.setEngine
    | split
    | refine Frame.of2 (by with_reducible assumption) ?_
    | with_reducible apply Frame.upd
    | with_reducible rfl
    | with_reducible exact OtpKept.refl _
    | with_reducible exact Or.inr rfl
    | exact Or.inl (k.bit (by decide))
    | exact Sub.trans (by decide) k

theorem Frame.loadShadows {w : Nat} {a s : State} (h : Frame w a s) (k : Sub 0x10301 w) : Frame w a (State.loadShadows s) := by
  unfold State.loadShadows; try dsimp only
  repeat' first
    | with_reducible assumption
    | with_reducible apply Frame.loadShadow
    | with_reducible refine Frame.foldl ?_ (fun _ _ _ => ?_)
    | with_reducible refine Frame.foldl2 ?_ (fun _ _ _ => ?_)
    | with_reducible apply Frame.ite
    | exact Sub.trans (by decide) k

theorem Frame.prepare {w : Nat} {a s : State} (h : Frame w a s) (k : Sub 0x200008000000010B01 w) : ∀ x1, Frame w a (State.prepare s x1) := by
  intro x1
  unfold State.prepare; try dsimp only
  repeat' first
    | with_reducible assumption
    | with_reducible apply Frame.journal
    | with_reducible apply Frame.loadShadows
    | with_reducible apply Frame.updEnter
    | with_reducible apply Frame.updBusy
    | with_reducible apply Frame.setUpd
    | with_reducible apply Frame.upd
    | with_reducible rfl
    | with_reducible exact OtpKept.refl _
    | with_reducible exact Or.inr rfl
    | exact Or.inl (k.bit (by decide))
    | exact Sub.trans (by decide) k

theorem Frame.sendCommitAt {w : Nat} {a s : State} (h : Frame w a s) (k : Sub 0x20 w) : ∀ x1 x2, Frame w a (State.sendCommitAt s x1 x2) := by
  intro x1 x2
  unfold State.sendCommitAt; try dsimp only
  repeat' first
    | with_reducible assumption
    | with_reducible apply Frame.hvlSend
    | exact Sub.trans (by decide) k

theorem Frame.fallDue {w : Nat} {a s : State} (h : Frame w a s) (k : Sub 0x200 w) : ∀ x1, Frame w a (State.fallDue s x1) := by
  intro x1
  unfold State.fallDue; try dsimp only
  repeat' first
    | with_reducible assumption
    | with_reducible apply Frame.setUpd
    | with_reducible apply Frame.ite
    | with_reducible apply Frame.upd
    | with_reducible rfl
    | with_reducible exact OtpKept.refl _
    | with_reducible exact Or.inr rfl
    | exact Or.inl (k.bit (by decide))
    | exact Sub.trans (by decide) k

theorem Frame.unsuspend {w : Nat} {a s : State} (h : Frame w a s) (k : Sub 0x8000000020A80 w) : Frame w a (State.unsuspend s) := by
  unfold State.unsuspend; try dsimp only
  repeat' first
    | with_reducible assumption
    | with_reducible apply Frame.flcCtrl
    | with_reducible apply Frame.setUpd
    | with_reducible apply Frame.ite
    | with_reducible apply Frame.upd
    | with_reducible rfl
    | with_reducible exact OtpKept.refl _
    | with_reducible exact Or.inr rfl
    | exact Or.inl (k.bit (by decide))
    | exact Sub.trans (by decide) k

theorem Frame.abandon {w : Nat} {a s : State} (h : Frame w a s) (k : Sub 0x200008000000030B81 w) : Frame w a (State.abandon s) := by
  unfold State.abandon; try dsimp only
  repeat' first
    | with_reducible assumption
    | with_reducible apply Frame.journal
    | with_reducible apply Frame.unsuspend
    | with_reducible apply Frame.updEnd
    | with_reducible apply Frame.put
    | with_reducible apply Frame.updEnter
    | with_reducible apply Frame.updBusy
    | exact Sub.trans (by decide) k
    | exact RegOk.page k (by decide)
    | exact RegOk.all k (by decide)

theorem Frame.updCmd {w : Nat} {a s : State} (h : Frame w a s) (k : Sub 0x200008000000030BA1 w) : ∀ x1, Frame w a (State.updCmd s x1) := by
  intro x1
  unfold State.updCmd; try dsimp only
  repeat' first
    | with_reducible assumption
    | with_reducible apply Frame.journal
    | with_reducible apply Frame.updEnd
    | with_reducible apply Frame.prepare
    | with_reducible apply Frame.put
    | with_reducible apply Frame.updEnter
    | with_reducible apply Frame.updBusy
    | with_reducible apply Frame.setUpd
    | with_reducible apply Frame.sendCommitAt
    | with_reducible apply Frame.fallDue
    | with_reducible apply Frame.abandon
    | with_reducible apply Frame.ite
    | with_reducible apply Frame.upd
    | with_reducible rfl
    | with_reducible exact OtpKept.refl _
    | with_reducible exact Or.inr rfl
    | exact Or.inl (k.bit (by decide))
    | exact Sub.trans (by decide) k
    | exact RegOk.page k (by decide)
    | exact RegOk.all k (by decide)

theorem Frame.markParts {w : Nat} {a s : State} (h : Frame w a s) (k : Sub 0x20000 w) : ∀ x1 x2, Frame w a (State.markParts s x1 x2) := by
  intro x1 x2
  unfold State.markParts; try dsimp only
  repeat' first
    | with_reducible assumption
    | with_reducible apply Frame.put
    | exact RegOk.page k (by decide)
    | exact RegOk.all k (by decide)

theorem Frame.updDone {w : Nat} {a s : State} (h : Frame w a s) (k : Sub 0x200008000000010B01 w) : Frame w a (State.updDone s) := by
  unfold State.updDone; try dsimp only
  repeat' first
    | with_reducible assumption
    | with_reducible apply Frame.journal
    | with_reducible apply Frame.setReg
    | with_reducible apply Frame.updEnd
    | with_reducible apply Frame.updEnter
    | with_reducible apply Frame.updBusy
    | with_reducible apply Frame.ite
    | exact Sub.trans (by decide) k
    | exact RegOk.page k (by decide)

theorem Frame.raiseMinOf {w : Nat} {a s : State} (h : Frame w a s) (k : Sub 0x200010000000000002 w) : ∀ x1 x2, Frame w a (State.raiseMinOf s x1 x2) := by
  intro x1 x2
  unfold State.raiseMinOf; try dsimp only
  repeat' first
    | with_reducible assumption
    | with_reducible apply Frame.put
    | with_reducible apply Frame.otpSet
    | with_reducible apply Frame.ite
    | exact Sub.trans (by decide) k
    | exact RegOk.page k (by decide)

theorem Frame.raiseMin {w : Nat} {a s : State} (h : Frame w a s) (k : Sub 0x200010000000000002 w) : Frame w a (State.raiseMin s) := by
  unfold State.raiseMin; try dsimp only
  repeat' first
    | with_reducible assumption
    | with_reducible apply Frame.raiseMinOf
    | with_reducible refine Frame.foldl ?_ (fun _ _ _ => ?_)
    | with_reducible refine Frame.foldl2 ?_ (fun _ _ _ => ?_)
    | with_reducible apply Frame.ite
    | split
    | exact Sub.trans (by decide) k

theorem Frame.updAdvance {w : Nat} {a s : State} (h : Frame w a s) (k : Sub 0x200018000000010B03 w) : Frame w a (State.updAdvance s) := by
  unfold State.updAdvance; try dsimp only
  repeat' first
    | with_reducible assumption
    | with_reducible apply Frame.journal
    | with_reducible apply Frame.raiseMin
    | with_reducible apply Frame.updDone
    | with_reducible apply Frame.updEnter
    | with_reducible apply Frame.setUpd
    | with_reducible apply Frame.flag
    | with_reducible apply Frame.ite
    | with_reducible apply Frame.upd
    | with_reducible rfl
    | with_reducible exact OtpKept.refl _
    | with_reducible exact Or.inr rfl
    | exact Or.inl (k.bit (by decide))
    | exact Sub.trans (by decide) k
    | exact PageOk.page k (by decide)

theorem Frame.takeEffect {w : Nat} {a s : State} (h : Frame w a s) (k : Sub 0x200018000000030B03 w) : ∀ x1 x2, Frame w a (State.takeEffect s x1 x2) := by
  intro x1 x2
  unfold State.takeEffect; try dsimp only
  repeat' first
    | with_reducible assumption
    | with_reducible apply Frame.journal
    | with_reducible apply Frame.markParts
    | with_reducible apply Frame.updAdvance
    | with_reducible apply Frame.ite
    | exact Sub.trans (by decide) k

theorem Frame.commit {w : Nat} {a s : State} (h : Frame w a s) (k : Sub 0x200018000000030B83 w) : Frame w a (State.commit s) := by
  unfold State.commit; try dsimp only
  repeat' first
    | with_reducible assumption
    | with_reducible apply Frame.journal
    | with_reducible apply Frame.unsuspend
    | with_reducible apply Frame.put
    | with_reducible apply Frame.updEnter
    | with_reducible apply Frame.updBusy
    | with_reducible apply Frame.updAdvance
    | with_reducible apply Frame.setUpd
    | with_reducible apply Frame.takeEffect
    | with_reducible apply Frame.flag
    | with_reducible apply Frame.ite
    | exact Sub.trans (by decide) k
    | exact RegOk.page k (by decide)
    | exact RegOk.all k (by decide)
    | exact PageOk.page k (by decide)
    | exact PageOk.all k (by decide)

theorem Frame.copySector {w : Nat} {a s : State} (h : Frame w a s) (k : Sub 0x10901 w) : ∀ x1 x2 x3 x4, Frame w a (State.copySector s x1 x2 x3 x4) := by
  intro x1 x2 x3 x4
  unfold State.copySector; try dsimp only
  repeat' first
    | with_reducible assumption
    | with_reducible apply Frame.eraseSector
    | with_reducible apply Frame.programBytes
    | exact Sub.trans (by decide) k

theorem Frame.copyFails {w : Nat} {a s : State} (h : Frame w a s) (k : Sub 0x200000000000000200 w) : ∀ x1, Frame w a (State.copyFails s x1) := by
  intro x1
  unfold State.copyFails; try dsimp only
  repeat' first
    | with_reducible assumption
    | with_reducible apply Frame.put
    | with_reducible apply Frame.updBusy
    | with_reducible apply Frame.setUpd
    | with_reducible apply Frame.flag
    | with_reducible apply Frame.upd
    | with_reducible rfl
    | with_reducible exact OtpKept.refl _
    | with_reducible exact Or.inr rfl
    | exact Or.inl (k.bit (by decide))
    | exact Sub.trans (by decide) k
    | exact RegOk.page k (by decide)
    | exact PageOk.page k (by decide)

theorem Frame.homeCopy {w : Nat} {a s : State} (h : Frame w a s) (k : Sub 0x200008000000010B01 w) : ∀ x1, Frame w a (State.homeCopy s x1) := by
  intro x1
  unfold State.homeCopy; try dsimp only
  repeat' first
    | with_reducible assumption
    | with_reducible apply Frame.journal
    | with_reducible apply Frame.copyFails
    | with_reducible apply Frame.updDone
    | with_reducible apply Frame.put
    | with_reducible apply Frame.setFlash
    | with_reducible apply Frame.updBusy
    | with_reducible apply Frame.setUpd
    | with_reducible apply Frame.copySector
    | with_reducible apply Frame.ite
    | split
    | with_reducible apply Frame.upd
    | with_reducible rfl
    | with_reducible exact OtpKept.refl _
    | with_reducible exact Or.inr rfl
    | exact Or.inl (k.bit (by decide))
    | exact Sub.trans (by decide) k
    | exact RegOk.page k (by decide)

theorem Frame.swapHalves {w : Nat} {a s : State} (h : Frame w a s) (k : Sub 0x200 w) : ∀ x1, Frame w a (State.swapHalves s x1) := by
  intro x1
  unfold State.swapHalves; try dsimp only
  repeat' first
    | with_reducible assumption
    | with_reducible apply Frame.setEngine
    | with_reducible apply Frame.upd
    | with_reducible rfl
    | with_reducible exact OtpKept.refl _
    | with_reducible exact Or.inr rfl
    | exact Or.inl (k.bit (by decide))
    | exact Sub.trans (by decide) k

theorem Frame.completeCopies {w : Nat} {a s : State} (h : Frame w a s) (k : Sub 0x200000000000030B01 w) : ∀ x1, Frame w a (State.completeCopies s x1) := by
  intro x1
  unfold State.completeCopies; try dsimp only
  repeat' first
    | with_reducible assumption
    | with_reducible apply Frame.journal
    | with_reducible apply Frame.copyFails
    | with_reducible apply Frame.markParts
    | with_reducible apply Frame.setUpd
    | with_reducible apply Frame.copySector
    | with_reducible refine Frame.foldl ?_ (fun _ _ _ => ?_)
    | with_reducible refine Frame.foldl2 ?_ (fun _ _ _ => ?_)
    | with_reducible apply Frame.ite
    | split
    | with_reducible apply Frame.upd
    | with_reducible rfl
    | with_reducible exact OtpKept.refl _
    | with_reducible exact Or.inr rfl
    | exact Or.inl (k.bit (by decide))
    | exact Sub.trans (by decide) k

theorem Frame.restoreCopies {w : Nat} {a s : State} (h : Frame w a s) (k : Sub 0x10B01 w) : ∀ x1 x2 x3, Frame w a (State.restoreCopies s x1 x2 x3) := by
  intro x1 x2 x3
  unfold State.restoreCopies; try dsimp only
  repeat' first
    | with_reducible assumption
    | with_reducible apply Frame.journal
    | with_reducible apply Frame.eraseSector
    | with_reducible apply Frame.programBytes
    | with_reducible refine Frame.foldl ?_ (fun _ _ _ => ?_)
    | with_reducible refine Frame.foldl2 ?_ (fun _ _ _ => ?_)
    | with_reducible apply Frame.ite
    | exact Sub.trans (by decide) k

theorem Frame.updBoot {w : Nat} {a s : State} (h : Frame w a s) (k : Sub 0x200018000100030B03 w) : ∀ x1, Frame w a (State.updBoot s x1) := by
  intro x1
  unfold State.updBoot; try dsimp only
  repeat' first
    | with_reducible assumption
    | with_reducible apply Frame.completeCopies
    | with_reducible apply Frame.journal
    | with_reducible apply Frame.setReg
    | with_reducible apply Frame.updDone
    | with_reducible apply Frame.put
    | with_reducible apply Frame.updEnter
    | with_reducible apply Frame.markParts
    | with_reducible apply Frame.updBusy
    | with_reducible apply Frame.updAdvance
    | with_reducible apply Frame.setUpd
    | with_reducible apply Frame.restoreCopies
    | with_reducible apply Frame.fallDue
    | with_reducible apply Frame.ite
    | split
    | with_reducible apply Frame.upd
    | with_reducible rfl
    | with_reducible exact OtpKept.refl _
    | with_reducible exact Or.inr rfl
    | exact Or.inl (k.bit (by decide))
    | exact Sub.trans (by decide) k
    | exact RegOk.page k (by decide)
    | exact RegOk.all k (by decide)

theorem Frame.updConfirm {w : Nat} {a s : State} (h : Frame w a s) (k : Sub 0x200018000000030B03 w) : ∀ x1 x2, Frame w a (State.updConfirm s x1 x2) := by
  intro x1 x2
  unfold State.updConfirm; try dsimp only
  repeat' first
    | with_reducible assumption
    | with_reducible apply Frame.journal
    | with_reducible apply Frame.markParts
    | with_reducible apply Frame.updAdvance
    | with_reducible apply Frame.ite
    | split
    | exact Sub.trans (by decide) k

theorem Frame.execStageDone {w : Nat} {a s : State} (h : Frame w a s) (k : Sub 0x200018000000010B01 w) : FrameAll w a (Machine.execStageDone s) := by
  unfold Machine.execStageDone; try dsimp only
  repeat' first
    | with_reducible assumption
    | with_reducible apply Frame.stageEnd
    | with_reducible apply Frame.ite
    | with_reducible apply FrameAll.ite
    | with_reducible apply FrameAll.next
    | exact Sub.trans (by decide) k

theorem Frame.execCommitSuspend {w : Nat} {a s : State} (h : Frame w a s) (k : Sub 0x8000000020A80 w) : FrameAll w a (Machine.execCommitSuspend s) := by
  unfold Machine.execCommitSuspend; try dsimp only
  repeat' first
    | with_reducible assumption
    | with_reducible apply Frame.flcCtrl
    | with_reducible apply Frame.setUpd
    | with_reducible apply Frame.ite
    | with_reducible apply FrameAll.ite
    | with_reducible apply FrameAll.next
    | with_reducible apply Frame.upd
    | with_reducible rfl
    | with_reducible exact OtpKept.refl _
    | with_reducible exact Or.inr rfl
    | exact Or.inl (k.bit (by decide))
    | exact Sub.trans (by decide) k

theorem Frame.execCommitPoint {w : Nat} {a s : State} (h : Frame w a s) (k : Sub 0x200018000000030B83 w) : FrameAll w a (Machine.execCommitPoint s) := by
  unfold Machine.execCommitPoint; try dsimp only
  repeat' first
    | with_reducible assumption
    | with_reducible apply Frame.journal
    | with_reducible apply Frame.unsuspend
    | with_reducible apply Frame.updEnd
    | with_reducible apply Frame.updEnter
    | with_reducible apply Frame.commit
    | with_reducible apply Frame.updBusy
    | with_reducible apply Frame.ite
    | with_reducible apply FrameAll.ite
    | with_reducible apply FrameAll.next
    | exact Sub.trans (by decide) k

theorem Frame.execHomeCopySector {w : Nat} {a s : State} (h : Frame w a s) (k : Sub 0x200008000000010B01 w) : ∀ x0, FrameAll w a (Machine.execHomeCopySector x0 s) := by
  intro x0
  unfold Machine.execHomeCopySector; try dsimp only
  repeat' first
    | with_reducible assumption
    | with_reducible apply Frame.homeCopy
    | with_reducible apply Frame.ite
    | with_reducible apply FrameAll.ite
    | with_reducible apply FrameAll.next
    | exact Sub.trans (by decide) k

theorem Frame.execEngineChangeover {w : Nat} {a s : State} (h : Frame w a s) (k : Sub 0x200 w) : ∀ x0 x1, FrameAll w a (Machine.execEngineChangeover x0 x1 s) := by
  intro x0 x1
  unfold Machine.execEngineChangeover; try dsimp only
  repeat' first
    | with_reducible assumption
    | with_reducible apply Frame.swapHalves
    | with_reducible apply Frame.setUpd
    | with_reducible apply Frame.setEngine
    | with_reducible apply Frame.ite
    | with_reducible apply FrameAll.ite
    | with_reducible apply FrameAll.next
    | with_reducible apply Frame.upd
    | with_reducible rfl
    | with_reducible exact OtpKept.refl _
    | with_reducible exact Or.inr rfl
    | exact Or.inl (k.bit (by decide))
    | exact Sub.trans (by decide) k

theorem Frame.execEngineAccept {w : Nat} {a s : State} (h : Frame w a s) (k : Sub 0x200018000000030B03 w) : ∀ x0 x1, FrameAll w a (Machine.execEngineAccept x0 x1 s) := by
  intro x0 x1
  unfold Machine.execEngineAccept; try dsimp only
  repeat' first
    | with_reducible assumption
    | with_reducible apply Frame.swapHalves
    | with_reducible apply Frame.setUpd
    | with_reducible apply Frame.takeEffect
    | with_reducible apply Frame.fallDue
    | with_reducible apply Frame.ite
    | with_reducible apply FrameAll.ite
    | with_reducible apply FrameAll.next
    | with_reducible apply Frame.upd
    | with_reducible rfl
    | with_reducible exact OtpKept.refl _
    | with_reducible exact Or.inr rfl
    | exact Or.inl (k.bit (by decide))
    | exact Sub.trans (by decide) k

theorem Frame.execQuietLimit {w : Nat} {a s : State} (h : Frame w a s) (k : Sub 0x200 w) : FrameAll w a (Machine.execQuietLimit s) := by
  unfold Machine.execQuietLimit; try dsimp only
  repeat' first
    | with_reducible assumption
    | with_reducible apply Frame.fallDue
    | with_reducible apply Frame.ite
    | with_reducible apply FrameAll.ite
    | with_reducible apply FrameAll.next
    | exact Sub.trans (by decide) k

theorem Frame.execConfirmWindow {w : Nat} {a s : State} (h : Frame w a s) (k : Sub 0x200 w) : FrameAll w a (Machine.execConfirmWindow s) := by
  unfold Machine.execConfirmWindow; try dsimp only
  repeat' first
    | with_reducible assumption
    | with_reducible apply Frame.fallDue
    | with_reducible apply Frame.ite
    | with_reducible apply FrameAll.ite
    | with_reducible apply FrameAll.next
    | split
    | exact Sub.trans (by decide) k

theorem Frame.execFallback {w : Nat} {a s : State} (h : Frame w a s) (k : Sub 0x200008000000010B01 w) : FrameAll w a (Machine.execFallback s) := by
  unfold Machine.execFallback; try dsimp only
  repeat' first
    | with_reducible assumption
    | with_reducible apply Frame.journal
    | with_reducible apply Frame.put
    | with_reducible apply Frame.updEnter
    | with_reducible apply Frame.updBusy
    | with_reducible apply Frame.askReset
    | with_reducible apply Frame.setUpd
    | with_reducible apply Frame.ite
    | with_reducible apply FrameAll.ite
    | with_reducible apply FrameAll.next
    | split
    | with_reducible apply Frame.upd
    | with_reducible rfl
    | with_reducible exact OtpKept.refl _
    | with_reducible exact Or.inr rfl
    | exact Or.inl (k.bit (by decide))
    | exact Sub.trans (by decide) k
    | exact RegOk.page k (by decide)

theorem Frame.execCommitAt {w : Nat} {a s : State} (h : Frame w a s) (k : Sub 0x234008002000038BBD w) : ∀ x0, FrameAll w a (Machine.execCommitAt x0 s) := by
  intro x0
  unfold Machine.execCommitAt; try dsimp only
  repeat' first
    | with_reducible assumption
    | with_reducible apply Frame.journal
    | with_reducible apply Frame.unsuspend
    | with_reducible apply Frame.updEnd
    | with_reducible apply Frame.prepare
    | with_reducible apply Frame.put
    | with_reducible apply Frame.updEnter
    | with_reducible apply Frame.updBusy
    | with_reducible apply Frame.hvlUpdate
    | with_reducible refine Frame.arrive ?_ ?_ (fun _ _ => ?_)
    | with_reducible apply Frame.fallDue
    | with_reducible apply Frame.ite
    | with_reducible apply FrameAll.ite
    | with_reducible apply FrameAll.next
    | exact Sub.trans (by decide) k
    | exact RegOk.page k (by decide)
    | exact RegOk.all k (by decide)

theorem Frame.flashStopped {w : Nat} {a s : State} (h : Frame w a s) (k : Sub 0x800 w) : Frame w a (State.flashStopped s) := by
  unfold State.flashStopped; try dsimp only
  repeat' first
    | with_reducible assumption
    | with_reducible apply Frame.setFlash
    | with_reducible apply Frame.ite
    | split
    | with_reducible apply Frame.upd
    | with_reducible rfl
    | with_reducible exact OtpKept.refl _
    | with_reducible exact Or.inr rfl
    | exact Or.inl (k.bit (by decide))
    | exact Sub.trans (by decide) k

theorem Frame.unhalt {w : Nat} {a s : State} (h : Frame w a s) (k : Sub 0x20000 w) : ∀ x1, Frame w a (State.unhalt s x1) := by
  intro x1
  unfold State.unhalt; try dsimp only
  repeat' first
    | with_reducible assumption
    | with_reducible apply Frame.put
    | with_reducible apply Frame.ite
    | exact RegOk.page k (by decide)
    | exact RegOk.all k (by decide)

theorem Frame.domainRestart {w : Nat} {a s : State} (h : Frame w a s) (k : Sub 0xA00000000200022600 w) : ∀ x1, Frame w a (State.domainRestart s x1) := by
  intro x1
  unfold State.domainRestart; try dsimp only
  repeat' first
    | with_reducible assumption
    | with_reducible apply Frame.unhalt
    | with_reducible apply Frame.put
    | with_reducible apply Frame.markParts
    | with_reducible apply Frame.updBusy
    | with_reducible apply Frame.setUpd
    | with_reducible apply Frame.icuRestart
    | with_reducible apply Frame.countSat
    | with_reducible apply Frame.ite
    | with_reducible apply Frame.upd
    | with_reducible rfl
    | with_reducible exact OtpKept.refl _
    | with_reducible exact Or.inr rfl
    | exact Or.inl (k.bit (by decide))
    | exact Sub.trans (by decide) k
    | exact RegOk.page k (by decide)
    | exact RegOk.all k (by decide)

theorem Frame.bootIlog {w : Nat} {a s : State} (h : Frame w a s) (k : Sub 0x8000000000901 w) : Frame w a (State.bootIlog s) := by
  unfold State.bootIlog; try dsimp only
  repeat' first
    | with_reducible assumption
    | with_reducible apply Frame.eraseSector
    | with_reducible apply Frame.raiseFlag
    | with_reducible apply Frame.put
    | with_reducible apply Frame.ite
    | exact Sub.trans (by decide) k
    | exact RegOk.page k (by decide)
    | exact PageOk.page k (by decide)

theorem Frame.bootRecord {w : Nat} {a s : State} (h : Frame w a s) (k : Sub 0x40000000000020300 w) : Frame w a (State.bootRecord s) := by
  unfold State.bootRecord; try dsimp only
  repeat' first
    | with_reducible assumption
    | with_reducible apply Frame.putRegBit
    | with_reducible apply Frame.raiseFlag
    | with_reducible apply Frame.put
    | with_reducible apply Frame.putBit
    | with_reducible refine Frame.foldl ?_ (fun _ _ _ => ?_)
    | with_reducible refine Frame.foldl2 ?_ (fun _ _ _ => ?_)
    | with_reducible apply Frame.ite
    | split
    | with_reducible apply Frame.upd
    | with_reducible rfl
    | with_reducible exact OtpKept.refl _
    | with_reducible exact Or.inr rfl
    | exact Or.inl (k.bit (by decide))
    | exact RegOk.page k (by decide)
    | exact RegOk.all k (by decide)
    | exact PageOk.page k (by decide)
    | exact PageOk.all k (by decide)

theorem Frame.imgFail {w : Nat} {a s : State} (h : Frame w a s) (k : Sub 0x100000000 w) : ∀ x1, Frame w a (State.imgFail s x1) := by
  intro x1
  unfold State.imgFail; try dsimp only
  repeat' first
    | with_reducible assumption
    | with_reducible apply Frame.put
    | exact RegOk.page k (by decide)

theorem Frame.bootImages {w : Nat} {a s : State} (h : Frame w a s) (k : Sub 0x10000100010200 w) : Frame w a (State.bootImages s) := by
  unfold State.bootImages; try dsimp only
  repeat' first
    | with_reducible assumption
    | with_reducible apply Frame.sealOf
    | with_reducible apply Frame.checkHome
    | with_reducible apply Frame.viewBytes
    | with_reducible apply Frame.put
    | with_reducible apply Frame.imgFail
    | with_reducible refine Frame.foldl ?_ (fun _ _ _ => ?_)
    | with_reducible refine Frame.foldl2 ?_ (fun _ _ _ => ?_)
    | with_reducible apply Frame.ite
    | split
    | refine Frame.of2 (by with_reducible assumption) ?_
    | with_reducible apply Frame.upd
    | with_reducible rfl
    | with_reducible exact OtpKept.refl _
    | with_reducible exact Or.inr rfl
    | exact Or.inl (k.bit (by decide))
    | exact Sub.trans (by decide) k
    | exact RegOk.page k (by decide)

theorem Frame.bootScc {w : Nat} {a s : State} (h : Frame w a s) (k : Sub 0x400100000000 w) : Frame w a (State.bootScc s) := by
  unfold State.bootScc; try dsimp only
  repeat' first
    | with_reducible assumption
    | with_reducible apply Frame.put
    | with_reducible apply Frame.ite
    | exact RegOk.page k (by decide)

theorem Frame.bootSteps {w : Nat} {a s : State} (h : Frame w a s) (k : Sub 0x240018400100030B03 w) : ∀ x1 x2 x3, Frame w a (State.bootSteps s x1 x2 x3) := by
  intro x1 x2 x3
  unfold State.bootSteps; try dsimp only
  repeat' first
    | with_reducible assumption
    | with_reducible apply Frame.clearRange
    | with_reducible apply Frame.setReg
    | with_reducible apply Frame.updBoot
    | with_reducible apply Frame.bootRecord
    | with_reducible apply Frame.bootImages
    | with_reducible apply Frame.put
    | with_reducible apply Frame.bootScc
    | with_reducible apply Frame.bootIlog
    | with_reducible apply Frame.upd
    | with_reducible rfl
    | with_reducible exact OtpKept.refl _
    | with_reducible exact Or.inr rfl
    | exact Or.inl (k.bit (by decide))
    | exact Sub.trans (by decide) k
    | exact RegOk.page k (by decide)
    | exact RegOk.all k (by decide)

theorem Frame.releaseCore {w : Nat} {a s : State} (h : Frame w a s) (k : Sub 0x200018000200030F03 w) : ∀ x1, Frame w a (State.releaseCore s x1) := by
  intro x1
  unfold State.releaseCore; try dsimp only
  repeat' first
    | with_reducible assumption
    | with_reducible apply Frame.put
    | with_reducible apply Frame.takeEffect
    | with_reducible apply Frame.ite
    | with_reducible apply Frame.upd
    | with_reducible rfl
    | with_reducible exact OtpKept.refl _
    | with_reducible exact Or.inr rfl
    | exact Or.inl (k.bit (by decide))
    | exact Sub.trans (by decide) k
    | exact RegOk.page k (by decide)
    | exact RegOk.all k (by decide)

theorem Frame.restartEnd {w : Nat} {a s : State} (h : Frame w a s) (k : Sub 0x200018000300030F03 w) : ∀ x1, Frame w a (State.restartEnd s x1) := by
  intro x1
  unfold State.restartEnd; try dsimp only
  repeat' first
    | with_reducible assumption
    | with_reducible apply Frame.checkHome
    | with_reducible apply Frame.releaseCore
    | with_reducible apply Frame.imgFail
    | split
    | refine Frame.of2 (by with_reducible assumption) ?_
    | with_reducible apply Frame.upd
    | with_reducible rfl
    | with_reducible exact OtpKept.refl _
    | with_reducible exact Or.inr rfl
    | exact Or.inl (k.bit (by decide))
    | exact Sub.trans (by decide) k

theorem Frame.idleFails {w : Nat} {a s : State} (h : Frame w a s) (k : Sub 0x10420000000001018D w) : Frame w a (State.idleFails s) := by
  unfold State.idleFails; try dsimp only
  repeat' first
    | with_reducible assumption
    | with_reducible apply Frame.put
    | with_reducible apply Frame.setRadio
    | with_reducible apply Frame.endPlain
    | with_reducible apply Frame.ite
    | split
    | with_reducible apply Frame.upd
    | with_reducible rfl
    | with_reducible exact OtpKept.refl _
    | with_reducible exact Or.inr rfl
    | exact Or.inl (k.bit (by decide))
    | exact Sub.trans (by decide) k
    | exact RegOk.page k (by decide)

theorem Frame.handoverWrite {w : Nat} {a s : State} (h : Frame w a s) (k : Sub 0xA00000000200022600 w) : ∀ x1 x2, Frame w a (State.handoverWrite s x1 x2) := by
  intro x1 x2
  unfold State.handoverWrite; try dsimp only
  repeat' first
    | with_reducible assumption
    | with_reducible apply Frame.domainRestart
    | with_reducible apply Frame.ite
    | split
    | exact Sub.trans (by decide) k

theorem Frame.execBootStart {w : Nat} {a s : State} (h : Frame w a s) (k : Sub 0x240018400100030B03 w) : ∀ x0, FrameAll w a (Machine.execBootStart x0 s) := by
  intro x0
  unfold Machine.execBootStart; try dsimp only
  repeat' first
    | with_reducible assumption
    | with_reducible apply Frame.bootSteps
    | with_reducible apply Frame.ite
    | with_reducible apply FrameAll.ite
    | with_reducible apply FrameAll.next
    | exact Sub.trans (by decide) k

theorem Frame.execCoreRelease {w : Nat} {a s : State} (h : Frame w a s) (k : Sub 0x200018000300030F03 w) : ∀ x0, FrameAll w a (Machine.execCoreRelease x0 s) := by
  intro x0
  unfold Machine.execCoreRelease; try dsimp only
  repeat' first
    | with_reducible assumption
    | with_reducible apply Frame.releaseCore
    | with_reducible apply Frame.restartEnd
    | with_reducible apply Frame.ite
    | with_reducible apply FrameAll.ite
    | with_reducible apply FrameAll.next
    | exact Sub.trans (by decide) k

theorem Frame.execBootDone {w : Nat} {a s : State} (h : Frame w a s) (k : Sub 0x40000000100010300 w) : FrameAll w a (Machine.execBootDone s) := by
  unfold Machine.execBootDone; try dsimp only
  repeat' first
    | with_reducible assumption
    | with_reducible apply Frame.sealOf
    | with_reducible apply Frame.askRewrite
    | with_reducible apply Frame.put
    | with_reducible apply Frame.flag
    | with_reducible apply Frame.ite
    | with_reducible apply FrameAll.ite
    | with_reducible apply FrameAll.next
    | split
    | refine Frame.of2 (by with_reducible assumption) ?_
    | with_reducible apply Frame.upd
    | with_reducible rfl
    | with_reducible exact OtpKept.refl _
    | with_reducible exact Or.inr rfl
    | exact Or.inl (k.bit (by decide))
    | exact Sub.trans (by decide) k
    | exact RegOk.page k (by decide)
    | exact PageOk.page k (by decide)

theorem Frame.execEngReady {w : Nat} {a s : State} (h : Frame w a s) (k : Sub 0x100000000 w) : FrameAll w a (Machine.execEngReady s) := by
  unfold Machine.execEngReady; try dsimp only
  repeat' first
    | with_reducible assumption
    | with_reducible apply Frame.put
    | with_reducible apply Frame.ite
    | with_reducible apply FrameAll.ite
    | with_reducible apply FrameAll.next
    | exact RegOk.page k (by decide)

theorem Frame.execHandoverWait {w : Nat} {a s : State} (h : Frame w a s) (k : Sub 0xA00000000200022600 w) : ∀ x0, FrameAll w a (Machine.execHandoverWait x0 s) := by
  intro x0
  unfold Machine.execHandoverWait; try dsimp only
  repeat' first
    | with_reducible assumption
    | with_reducible apply Frame.put
    | with_reducible apply Frame.domainRestart
    | with_reducible apply Frame.ite
    | with_reducible apply FrameAll.ite
    | with_reducible apply FrameAll.next
    | exact Sub.trans (by decide) k
    | exact RegOk.page k (by decide)
    | exact RegOk.all k (by decide)

theorem Frame.blockRead {w : Nat} {a s : State} (h : Frame w a s) (k : Sub 0x40801800000003BD1B w) : ∀ x1 x2 x3 x4, Frame w a (State.blockRead s x1 x2 x3 x4).2 := by
  intro x1 x2 x3 x4
  unfold State.blockRead; try dsimp only
  repeat' first
    | with_reducible assumption
    | with_reducible apply Frame.recRead
    | with_reducible apply Frame.fltRead
    | with_reducible apply Frame.frmRead
    | with_reducible apply Frame.setRegI
    | with_reducible apply Frame.sptRead
    | with_reducible apply Frame.flcRead
    | with_reducible apply Frame.icuRead
    | with_reducible apply Frame.secRead
    | with_reducible apply Frame.lnkRead
    | with_reducible apply Frame.ite
    | with_reducible apply Frame.ite2
    | refine Frame.of2 (by with_reducible assumption) ?_
    | exact Sub.trans (by decide) k

theorem Frame.pageRead {w : Nat} {a s : State} (h : Frame w a s) (k : Sub 0x40801800000003BD1B w) : ∀ x1 x2 x3, Frame w a (State.pageRead s x1 x2 x3).2 := by
  intro x1 x2 x3
  unfold State.pageRead; try dsimp only
  repeat' first
    | with_reducible assumption
    | with_reducible apply Frame.blockRead
    | with_reducible apply Frame.ite
    | with_reducible apply Frame.ite2
    | refine Frame.of2 (by with_reducible assumption) ?_
    | exact Sub.trans (by decide) k

theorem Frame.sealStart {w : Nat} {a s : State} (h : Frame w a s) (k : Sub 0x24000 w) : ∀ x1, Frame w a (State.sealStart s x1) := by
  intro x1
  unfold State.sealStart; try dsimp only
  repeat' first
    | with_reducible assumption
    | with_reducible apply Frame.put
    | with_reducible apply Frame.setPage
    | with_reducible apply Frame.upd
    | with_reducible rfl
    | with_reducible exact OtpKept.refl _
    | with_reducible exact Or.inr rfl
    | exact Or.inl (k.bit (by decide))
    | exact Sub.trans (by decide) k
    | exact RegOk.page k (by decide)
    | exact RegOk.all k (by decide)

theorem Frame.sealRequest {w : Nat} {a s : State} (h : Frame w a s) (k : Sub 0x24000 w) : ∀ x1, Frame w a (State.sealRequest s x1) := by
  intro x1
  unfold State.sealRequest; try dsimp only
  repeat' first
    | with_reducible assumption
    | with_reducible apply Frame.sealStart
    | with_reducible apply Frame.setPage
    | with_reducible apply Frame.ite
    | with_reducible apply Frame.upd
    | with_reducible rfl
    | with_reducible exact OtpKept.refl _
    | with_reducible exact Or.inr rfl
    | exact Or.inl (k.bit (by decide))
    | exact Sub.trans (by decide) k

theorem Frame.sealLatch {w : Nat} {a s : State} (h : Frame w a s) (k : Sub 0x24000 w) : ∀ x1, Frame w a (State.sealLatch s x1) := by
  intro x1
  unfold State.sealLatch; try dsimp only
  repeat' first
    | with_reducible assumption
    | with_reducible apply Frame.put
    | with_reducible apply Frame.setPage
    | with_reducible apply Frame.upd
    | with_reducible rfl
    | with_reducible exact OtpKept.refl _
    | with_reducible exact Or.inr rfl
    | exact Or.inl (k.bit (by decide))
    | exact Sub.trans (by decide) k
    | exact RegOk.page k (by decide)
    | exact RegOk.all k (by decide)

theorem Frame.sealMix {w : Nat} {a s : State} (h : Frame w a s) (k : Sub 0x10000 w) : ∀ os ns, Frame w a (State.sealMix s os ns).2 := by
  intro os ns
  induction ns generalizing s os
  case nil => cases os <;> exact h
  case cons n ns ih =>
    cases os
    case nil => exact h
    case cons o os =>
      have g : Frame w a (if o = n then (n, s) else (if s.freeVal.1.toNat % 2 = 0 then o else n, s.freeVal.2)).2 := Frame.ite2 h (h.freeVal (Sub.trans (by decide) k))
      exact ih g _

theorem Frame.sealEnd {w : Nat} {a s : State} (h : Frame w a s) (k : Sub 0x61880000000034180 w) : ∀ x1, Frame w a (State.sealEnd s x1) := by
  intro x1
  unfold State.sealEnd; try dsimp only
  repeat' first
    | with_reducible assumption
    | with_reducible apply Frame.setReg
    | with_reducible apply Frame.reportFault
    | with_reducible apply Frame.sealStart
    | with_reducible apply Frame.raiseFlag
    | with_reducible apply Frame.put
    | with_reducible apply Frame.sealMix
    | with_reducible apply Frame.setPage
    | with_reducible apply Frame.ite
    | split
    | refine Frame.of2 (by with_reducible assumption) ?_
    | with_reducible apply Frame.upd
    | with_reducible rfl
    | with_reducible exact OtpKept.refl _
    | with_reducible exact Or.inr rfl
    | exact Or.inl (k.bit (by decide))
    | exact Sub.trans (by decide) k
    | exact RegOk.page k (by decide)
    | exact RegOk.all k (by decide)
    | exact PageOk.page k (by decide)
    | exact PageOk.all k (by decide)

theorem Frame.sealCtrlWrite {w : Nat} {a s : State} (h : Frame w a s) (k : Sub 0x24000 w) : ∀ x1 x2, Frame w a (State.sealCtrlWrite s x1 x2) := by
  intro x1 x2
  unfold State.sealCtrlWrite; try dsimp only
  repeat' first
    | with_reducible assumption
    | with_reducible apply Frame.sealRequest
    | with_reducible apply Frame.setReg
    | with_reducible apply Frame.sealLatch
    | with_reducible apply Frame.ite
    | exact Sub.trans (by decide) k
    | exact RegOk.page k (by decide)
    | exact RegOk.all k (by decide)

theorem Frame.alarmsOff {w : Nat} {a s : State} (h : Frame w a s) (k : Sub 0x40 w) : Frame w a (State.alarmsOff s) := by
  unfold State.alarmsOff; try dsimp only
  repeat' first
    | with_reducible assumption
    | with_reducible apply Frame.alarmDisarm
    | with_reducible refine Frame.forN ?_ (fun _ _ _ => ?_)
    | exact Sub.trans (by decide) k

theorem Frame.resetRegister {w : Nat} {a s : State} (h : Frame w a s) (k : Sub 0x38101 w) : ∀ x1 x2 x3, Frame w a (State.resetRegister s x1 x2 x3) := by
  intro x1 x2 x3
  unfold State.resetRegister; try dsimp only
  repeat' first
    | with_reducible assumption
    | with_reducible apply Frame.recCfg
    | with_reducible apply Frame.setReg
    | with_reducible apply Frame.setRegI
    | with_reducible refine Frame.foldl ?_ (fun _ _ _ => ?_)
    | with_reducible refine Frame.foldl2 ?_ (fun _ _ _ => ?_)
    | with_reducible apply Frame.ite
    | exact Sub.trans (by decide) k
    | exact RegOk.page k (by decide)
    | exact RegOk.all k (by decide)

theorem Frame.resetRegisters {w : Nat} {a s : State} (h : Frame w a s) (k : Sub 0x38101 w) : ∀ x1, Frame w a (State.resetRegisters s x1) := by
  intro x1
  unfold State.resetRegisters; try dsimp only
  repeat' first
    | with_reducible assumption
    | with_reducible apply Frame.resetRegister
    | with_reducible refine Frame.foldl ?_ (fun _ _ _ => ?_)
    | with_reducible refine Frame.foldl2 ?_ (fun _ _ _ => ?_)
    | exact Sub.trans (by decide) k

theorem Frame.unstick {w : Nat} {a s : State} (h : Frame w a s) (k : Sub 0x4000000000000119 w) : Frame w a (State.unstick s) := by
  unfold State.unstick; try dsimp only
  repeat' first
    | with_reducible assumption
    | with_reducible apply Frame.freeBlock
    | with_reducible apply Frame.setMemNat
    | with_reducible refine Frame.foldl ?_ (fun _ _ _ => ?_)
    | with_reducible refine Frame.foldl2 ?_ (fun _ _ _ => ?_)
    | with_reducible apply Frame.upd
    | with_reducible rfl
    | with_reducible exact OtpKept.refl _
    | with_reducible exact Or.inr rfl
    | exact Or.inl (k.bit (by decide))
    | exact Sub.trans (by decide) k

theorem Frame.headerConfig {w : Nat} {a s : State} (h : Frame w a s) (k : Sub 0x24000 w) : ∀ x1 x2 x3 x4, Frame w a (State.headerConfig s x1 x2 x3 x4) := by
  intro x1 x2 x3 x4
  unfold State.headerConfig; try dsimp only
  repeat' first
    | with_reducible assumption
    | with_reducible apply Frame.lockViol
    | with_reducible apply Frame.setReg
    | with_reducible apply Frame.cfgChange
    | with_reducible apply Frame.ite
    | exact Sub.trans (by decide) k
    | exact RegOk.page k (by decide)
    | exact RegOk.all k (by decide)
    | exact PageOk.page k (by decide)
    | exact PageOk.all k (by decide)

theorem Frame.wdtStart {w : Nat} {a s : State} (h : Frame w a s) (k : Sub 0x80000000000 w) : Frame w a (State.wdtStart s) := by
  unfold State.wdtStart; try dsimp only
  repeat' first
    | with_reducible assumption
    | with_reducible apply Frame.put
    | exact RegOk.page k (by decide)

theorem Frame.preWrite {w : Nat} {a s : State} (h : Frame w a s) (k : Sub 0x100148180E00000200 w) : ∀ x1 x2 x3 x4 t, State.preWrite s x1 x2 x3 x4 = some t → Frame w a t := by
  intro x1 x2 x3 x4 t e
  unfold State.preWrite at e; try dsimp only at e
  repeat' first
    | with_reducible assumption
    | (with_reducible contradiction)
    | with_reducible refine Frame.ofSome1 e ?_
    | (split at e)
    | with_reducible apply Frame.lockViol
    | with_reducible apply Frame.reqWrite
    | with_reducible apply Frame.flag
    | refine Frame.recCfgRefused ?_ ?_ _ _ (by with_reducible assumption)
    | with_reducible apply Frame.opWrite
    | with_reducible apply Frame.ite
    | split
    | exact Sub.trans (by decide) k
    | exact PageOk.page k (by decide)

theorem Frame.storeReg {w : Nat} {a s : State} (h : Frame w a s) (k : Sub 0x3C101 w) : ∀ x1 x2 x3 x4 x5, Frame w a (State.storeReg s x1 x2 x3 x4 x5) := by
  intro x1 x2 x3 x4 x5
  unfold State.storeReg; try dsimp only
  repeat' first
    | with_reducible assumption
    | with_reducible apply Frame.recCfg
    | with_reducible apply Frame.setReg
    | with_reducible apply Frame.cfgChange
    | with_reducible apply Frame.setRegI
    | with_reducible apply Frame.ite
    | exact Sub.trans (by decide) k
    | exact RegOk.page k (by decide)
    | exact RegOk.all k (by decide)
    | exact PageOk.page k (by decide)
    | exact PageOk.all k (by decide)

theorem Frame.stall {w : Nat} {a s : State} (h : Frame w a s) (k : Sub 0x2000 w) : ∀ x1 x2 x3, Frame w a (State.stall s x1 x2 x3) := by
  intro x1 x2 x3
  unfold State.stall; try dsimp only
  repeat' first
    | with_reducible assumption
    | with_reducible apply Frame.answer
    | with_reducible apply Frame.upd
    | with_reducible rfl
    | with_reducible exact OtpKept.refl _
    | with_reducible exact Or.inr rfl
    | exact Or.inl (k.bit (by decide))
    | exact Sub.trans (by decide) k

theorem Frame.answerBytes {w : Nat} {a s : State} (h : Frame w a s) (k : Sub 0x2000 w) : ∀ x1 x2, Frame w a (State.answerBytes s x1 x2) := by
  intro x1 x2
  unfold State.answerBytes; try dsimp only
  repeat' first
    | with_reducible assumption
    | with_reducible apply Frame.answer
    | exact Sub.trans (by decide) k

theorem Frame.flashAccess {w : Nat} {a s : State} (h : Frame w a s) (k : Sub 0x61880000000012D80 w) : ∀ x1, Frame w a (State.flashAccess s x1) := by
  intro x1
  unfold State.flashAccess; try dsimp only
  repeat' first
    | with_reducible assumption
    | with_reducible apply Frame.reportFault
    | with_reducible apply Frame.answerBytes
    | with_reducible apply Frame.viewBytes
    | with_reducible apply Frame.answer
    | with_reducible apply Frame.prefetchNext
    | with_reducible apply Frame.cacheFill
    | with_reducible apply Frame.ite
    | split
    | refine Frame.of2 (by with_reducible assumption) ?_
    | exact Sub.trans (by decide) k

theorem Frame.memAccess {w : Nat} {a s : State} (h : Frame w a s) (k : Sub 0x698A0000000002181 w) : ∀ x1, Frame w a (State.memAccess s x1) := by
  intro x1
  unfold State.memAccess; try dsimp only
  repeat' first
    | with_reducible assumption
    | with_reducible apply Frame.busSetBytes
    | with_reducible apply Frame.answerBytes
    | with_reducible apply Frame.ownViol
    | with_reducible apply Frame.answer
    | with_reducible apply Frame.faultRange
    | with_reducible apply Frame.ite
    | split
    | exact Sub.trans (by decide) k

theorem Frame.setHsp {w : Nat} {a s : State} (h : Frame w a s) (k : Sub 0x1000 w) : ∀ x1, Frame w a (State.setHsp s x1) := by
  intro x1
  unfold State.setHsp; try dsimp only
  repeat' first
    | with_reducible assumption
    | with_reducible apply Frame.upd
    | with_reducible rfl
    | with_reducible exact OtpKept.refl _
    | with_reducible exact Or.inr rfl
    | exact Or.inl (k.bit (by decide))

theorem Frame.hspSend {w : Nat} {a s : State} (h : Frame w a s) (k : Sub 0x1000 w) : ∀ x1, Frame w a (State.hspSend s x1) := by
  intro x1
  unfold State.hspSend; try dsimp only
  repeat' first
    | with_reducible assumption
    | with_reducible apply Frame.setHsp
    | with_reducible apply Frame.ite
    | with_reducible apply Frame.upd
    | with_reducible rfl
    | with_reducible exact OtpKept.refl _
    | with_reducible exact Or.inr rfl
    | exact Or.inl (k.bit (by decide))
    | exact Sub.trans (by decide) k

theorem Frame.hspRepeat {w : Nat} {a s : State} (h : Frame w a s) (k : Sub 0x1000 w) : ∀ x1, Frame w a (State.hspRepeat s x1) := by
  intro x1
  unfold State.hspRepeat; try dsimp only
  repeat' first
    | with_reducible assumption
    | with_reducible apply Frame.setHsp
    | with_reducible apply Frame.upd
    | with_reducible rfl
    | with_reducible exact OtpKept.refl _
    | with_reducible exact Or.inr rfl
    | exact Or.inl (k.bit (by decide))
    | exact Sub.trans (by decide) k

theorem Frame.hspFlag {w : Nat} {a s : State} (h : Frame w a s) (k : Sub 0x400000001000 w) : ∀ x1, Frame w a (State.hspFlag s x1) := by
  intro x1
  unfold State.hspFlag; try dsimp only
  repeat' first
    | with_reducible assumption
    | with_reducible apply Frame.setHsp
    | with_reducible apply Frame.flag
    | with_reducible apply Frame.countSat
    | with_reducible apply Frame.ite
    | with_reducible apply Frame.upd
    | with_reducible rfl
    | with_reducible exact OtpKept.refl _
    | with_reducible exact Or.inr rfl
    | exact Or.inl (k.bit (by decide))
    | exact Sub.trans (by decide) k
    | exact RegOk.page k (by decide)
    | exact PageOk.page k (by decide)

theorem Frame.hspFailed {w : Nat} {a s : State} (h : Frame w a s) (k : Sub 0x400000001000 w) : ∀ x1 x2, Frame w a (State.hspFailed s x1 x2) := by
  intro x1 x2
  unfold State.hspFailed; try dsimp only
  repeat' first
    | with_reducible assumption
    | with_reducible apply Frame.setReg
    | with_reducible apply Frame.hspFlag
    | with_reducible apply Frame.setHsp
    | with_reducible apply Frame.ite
    | with_reducible apply Frame.upd
    | with_reducible rfl
    | with_reducible exact OtpKept.refl _
    | with_reducible exact Or.inr rfl
    | exact Or.inl (k.bit (by decide))
    | exact Sub.trans (by decide) k
    | exact RegOk.page k (by decide)

theorem Frame.hspNote {w : Nat} {a s : State} (h : Frame w a s) (k : Sub 0x400000001000 w) : ∀ x1, Frame w a (State.hspNote s x1) := by
  intro x1
  unfold State.hspNote; try dsimp only
  repeat' first
    | with_reducible assumption
    | with_reducible apply Frame.hspFailed
    | split
    | exact Sub.trans (by decide) k

theorem Frame.hspLate {w : Nat} {a s : State} (h : Frame w a s) (k : Sub 0x400000000000 w) : ∀ x1, Frame w a (State.hspLate s x1) := by
  intro x1
  unfold State.hspLate; try dsimp only
  repeat' first
    | with_reducible assumption
    | with_reducible apply Frame.setReg
    | exact RegOk.page k (by decide)

end Sys2Proof.Machine
end

