-- ==== Sys2Proof/Laws/Frame6.lean ====
section
/-! SUPPORT. What the operations leave as it was (Laws/Frame.lean): Host, BusCommands, FlashCommands, TimeCommands. -/

set_option linter.unusedTactic false
set_option linter.unreachableTactic false

namespace Sys2Proof.Machine

theorem Frame.hspPop {w : Nat} {a s : State} (h : Frame w a s) (k : Sub 0x400000001000 w) : ∀ x1, Frame w a (State.hspPop s x1) := by
  intro x1
  unfold State.hspPop; try dsimp only
  repeat' first
    | with_reducible assumption
    | with_reducible apply Frame.setHsp
    | with_reducible apply Frame.hspNote
    | with_reducible apply Frame.hspLate
    | with_reducible apply Frame.ite
    | with_reducible apply Frame.upd
    | with_reducible rfl
    | with_reducible exact OtpKept.refl _
    | with_reducible exact Or.inr rfl
    | exact Or.inl (k.bit (by decide))
    | exact Sub.trans (by decide) k

theorem Frame.hspBegin {w : Nat} {a s : State} (h : Frame w a s) (k : Sub 0x400000001000 w) : Frame w a (State.hspBegin s) := by
  unfold State.hspBegin; try dsimp only
  repeat' first
    | with_reducible assumption
    | with_reducible apply Frame.hspSend
    | with_reducible apply Frame.setReg
    | with_reducible apply Frame.setHsp
    | with_reducible apply Frame.countSat
    | exact Sub.trans (by decide) k
    | exact RegOk.page k (by decide)

theorem Frame.execHspCsFall {w : Nat} {a s : State} (h : Frame w a s) (k : Sub 0x1000001200 w) : ∀ x0, FrameAll w a (Machine.execHspCsFall x0 s) := by
  intro x0
  unfold Machine.execHspCsFall; try dsimp only
  repeat' first
    | with_reducible assumption
    | with_reducible apply Frame.wake
    | with_reducible apply Frame.setHsp
    | with_reducible apply Frame.put
    | with_reducible apply Frame.ite
    | with_reducible apply FrameAll.ite
    | with_reducible apply FrameAll.next
    | with_reducible apply Frame.upd
    | with_reducible rfl
    | with_reducible exact OtpKept.refl _
    | with_reducible exact Or.inr rfl
    | exact Or.inl (k.bit (by decide))
    | exact Sub.trans (by decide) k
    | exact RegOk.page k (by decide)

theorem Frame.execNop {w : Nat} {a s : State} (h : Frame w a s) (k : Sub 0x400000001000 w) : ∀ x0 x1, FrameAll w a (Machine.execNop x0 x1 s) := by
  intro x0 x1
  unfold Machine.execNop; try dsimp only
  repeat' first
    | with_reducible assumption
    | with_reducible apply Frame.hspFlag
    | with_reducible apply Frame.hspBegin
    | with_reducible apply Frame.ite
    | with_reducible apply FrameAll.ite
    | with_reducible apply FrameAll.next
    | exact Sub.trans (by decide) k

theorem Frame.execCut {w : Nat} {a s : State} (h : Frame w a s) (k : Sub 0x400000001000 w) : FrameAll w a (Machine.execCut s) := by
  unfold Machine.execCut; try dsimp only
  repeat' first
    | with_reducible assumption
    | with_reducible apply Frame.hspFlag
    | with_reducible apply Frame.setHsp
    | with_reducible apply Frame.ite
    | with_reducible apply FrameAll.ite
    | with_reducible apply FrameAll.next
    | with_reducible apply Frame.upd
    | with_reducible rfl
    | with_reducible exact OtpKept.refl _
    | with_reducible exact Or.inr rfl
    | exact Or.inl (k.bit (by decide))
    | exact Sub.trans (by decide) k

theorem Frame.sealTick {w : Nat} {a s : State} (h : Frame w a s) (k : Sub 0x24000 w) : ∀ x1, Frame w a (Machine.sealTick s x1) := by
  intro x1
  unfold Machine.sealTick; try dsimp only
  repeat' first
    | with_reducible assumption
    | with_reducible apply Frame.sealRequest
    | with_reducible apply Frame.ite
    | exact Sub.trans (by decide) k

theorem Frame.execSealInterval {w : Nat} {a s : State} (h : Frame w a s) (k : Sub 0x24000 w) : ∀ x0, FrameAll w a (Machine.execSealInterval x0 s) := by
  intro x0
  unfold Machine.execSealInterval; try dsimp only
  repeat' first
    | with_reducible assumption
    | with_reducible apply Frame.sealTick
    | with_reducible refine Frame.foldl ?_ (fun _ _ _ => ?_)
    | with_reducible refine Frame.foldl2 ?_ (fun _ _ _ => ?_)
    | with_reducible apply FrameAll.next
    | exact Sub.trans (by decide) k

theorem Frame.execSealDone {w : Nat} {a s : State} (h : Frame w a s) (k : Sub 0x61880000000034180 w) : ∀ x0, FrameAll w a (Machine.execSealDone x0 s) := by
  intro x0
  unfold Machine.execSealDone; try dsimp only
  repeat' first
    | with_reducible assumption
    | with_reducible apply Frame.sealEnd
    | with_reducible apply FrameAll.next
    | exact Sub.trans (by decide) k

theorem Frame.minRunOver {w : Nat} {a s : State} (h : Frame w a s) (k : Sub 0x800 w) : Frame w a (Machine.minRunOver s) := by
  unfold Machine.minRunOver; try dsimp only
  repeat' first
    | with_reducible assumption
    | with_reducible apply Frame.flcReadBusy
    | with_reducible apply Frame.setFlash
    | with_reducible apply Frame.ite
    | split
    | with_reducible apply Frame.upd
    | with_reducible rfl
    | with_reducible exact OtpKept.refl _
    | with_reducible exact Or.inr rfl
    | exact Or.inl (k.bit (by decide))
    | exact Sub.trans (by decide) k

theorem Frame.execMinRunEnd {w : Nat} {a s : State} (h : Frame w a s) (k : Sub 0x800 w) : FrameAll w a (Machine.execMinRunEnd s) := by
  unfold Machine.execMinRunEnd; try dsimp only
  repeat' first
    | with_reducible assumption
    | with_reducible apply Frame.minRunOver
    | with_reducible apply Frame.ite
    | with_reducible apply FrameAll.ite
    | with_reducible apply FrameAll.next
    | exact Sub.trans (by decide) k

theorem Frame.execCapture {w : Nat} {a s : State} (h : Frame w a s) (k : Sub 0x11000003000000341C5 w) : ∀ x0 x1, FrameAll w a (Machine.execCapture x0 x1 s) := by
  intro x0 x1
  unfold Machine.execCapture; try dsimp only
  repeat' first
    | with_reducible assumption
    | with_reducible apply Frame.deliverTask
    | with_reducible apply Frame.ite
    | with_reducible apply FrameAll.ite
    | with_reducible apply FrameAll.next
    | exact Sub.trans (by decide) k

end Sys2Proof.Machine
end

