-- ==== Sys2Proof/Laws/Keeps7.lean ====
section
/-! SUPPORT. What the operations keep (Laws/Keeps.lean): SecurityCommands, SystemCommands, TimeCommands, UpdateCommands, Dispatch. -/

set_option linter.unusedTactic false
set_option linter.unreachableTactic false

namespace Sys2Proof.Machine

theorem Keeps.execCcmEncrypt {a s : State} (h : Keeps a s) : ∀ x0 x1, KeepsAll a (Machine.execCcmEncrypt x0 x1 s) := by
  intro x0 x1
  unfold Machine.execCcmEncrypt; try dsimp only
  repeat' first
    | with_reducible assumption
    | with_reducible apply Keeps.jobCmd
    | with_reducible apply KeepsAll.next

theorem Keeps.execCcmDecrypt {a s : State} (h : Keeps a s) : ∀ x0 x1, KeepsAll a (Machine.execCcmDecrypt x0 x1 s) := by
  intro x0 x1
  unfold Machine.execCcmDecrypt; try dsimp only
  repeat' first
    | with_reducible assumption
    | with_reducible apply Keeps.jobCmd
    | with_reducible apply KeepsAll.next

theorem Keeps.execSha256 {a s : State} (h : Keeps a s) : ∀ x0 x1, KeepsAll a (Machine.execSha256 x0 x1 s) := by
  intro x0 x1
  unfold Machine.execSha256; try dsimp only
  repeat' first
    | with_reducible assumption
    | with_reducible apply Keeps.jobCmd
    | with_reducible apply KeepsAll.next

theorem Keeps.execEcdsaP256Verify {a s : State} (h : Keeps a s) : ∀ x0 x1, KeepsAll a (Machine.execEcdsaP256Verify x0 x1 s) := by
  intro x0 x1
  unfold Machine.execEcdsaP256Verify; try dsimp only
  repeat' first
    | with_reducible assumption
    | with_reducible apply Keeps.jobCmd
    | with_reducible apply KeepsAll.next

theorem Keeps.execRng {a s : State} (h : Keeps a s) : ∀ x0, KeepsAll a (Machine.execRng x0 s) := by
  intro x0
  unfold Machine.execRng; try dsimp only
  repeat' first
    | with_reducible assumption
    | with_reducible apply Keeps.busRead
    | with_reducible apply KeepsAll.next

theorem Keeps.execRngRestart {a s : State} (h : Keeps a s) : ∀ x0, KeepsAll a (Machine.execRngRestart x0 s) := by
  intro x0
  unfold Machine.execRngRestart; try dsimp only
  repeat' first
    | with_reducible assumption
    | with_reducible apply Keeps.busWrite
    | with_reducible apply KeepsAll.next

theorem Keeps.execKeyStoreWrite {a s : State} (h : Keeps a s) : ∀ x0 x1 x2, KeepsAll a (Machine.execKeyStoreWrite x0 x1 x2 s) := by
  intro x0 x1 x2
  unfold Machine.execKeyStoreWrite; try dsimp only
  repeat' first
    | with_reducible assumption
    | with_reducible apply Keeps.busAccess
    | with_reducible apply KeepsAll.next

theorem Keeps.execSetAttr {a s : State} (h : Keeps a s) : ∀ x0 x1, KeepsAll a (Machine.execSetAttr x0 x1 s) := by
  intro x0 x1
  unfold Machine.execSetAttr; try dsimp only
  repeat' first
    | with_reducible assumption
    | with_reducible apply Keeps.kstCmd
    | with_reducible apply KeepsAll.next

theorem Keeps.execEraseKey {a s : State} (h : Keeps a s) : ∀ x0 x1, KeepsAll a (Machine.execEraseKey x0 x1 s) := by
  intro x0 x1
  unfold Machine.execEraseKey; try dsimp only
  repeat' first
    | with_reducible assumption
    | with_reducible apply Keeps.kstCmd
    | with_reducible apply KeepsAll.next

theorem Keeps.execImportKey {a s : State} (h : Keeps a s) : ∀ x0 x1, KeepsAll a (Machine.execImportKey x0 x1 s) := by
  intro x0 x1
  unfold Machine.execImportKey; try dsimp only
  repeat' first
    | with_reducible assumption
    | with_reducible apply Keeps.kstCmd
    | with_reducible apply KeepsAll.next

theorem Keeps.execExportKey {a s : State} (h : Keeps a s) : ∀ x0 x1, KeepsAll a (Machine.execExportKey x0 x1 s) := by
  intro x0 x1
  unfold Machine.execExportKey; try dsimp only
  repeat' first
    | with_reducible assumption
    | with_reducible apply Keeps.kstCmd
    | with_reducible apply KeepsAll.next

theorem Keeps.execReadAttr {a s : State} (h : Keeps a s) : ∀ x0 x1, KeepsAll a (Machine.execReadAttr x0 x1 s) := by
  intro x0 x1
  unfold Machine.execReadAttr; try dsimp only
  repeat' first
    | with_reducible assumption
    | with_reducible apply Keeps.kstCmd
    | with_reducible apply KeepsAll.next

theorem Keeps.execOtpWrite {a s : State} (h : Keeps a s) : ∀ x0 x1, KeepsAll a (Machine.execOtpWrite x0 x1 s) := by
  intro x0 x1
  unfold Machine.execOtpWrite; try dsimp only
  repeat' first
    | with_reducible assumption
    | with_reducible apply Keeps.kstCmd
    | with_reducible apply KeepsAll.next

theorem Keeps.execEraseAll {a s : State} (h : Keeps a s) : ∀ x0, KeepsAll a (Machine.execEraseAll x0 s) := by
  intro x0
  unfold Machine.execEraseAll; try dsimp only
  repeat' first
    | with_reducible assumption
    | with_reducible apply Keeps.kstCmd
    | with_reducible apply KeepsAll.next

theorem Keeps.execSwTrig {a s : State} (h : Keeps a s) : ∀ x0 x1, KeepsAll a (Machine.execSwTrig x0 x1 s) := by
  intro x0 x1
  unfold Machine.execSwTrig; try dsimp only
  repeat' first
    | with_reducible assumption
    | with_reducible apply Keeps.busWrite
    | with_reducible apply KeepsAll.next

theorem Keeps.execTaskTrig {a s : State} (h : Keeps a s) : ∀ x0 x1, KeepsAll a (Machine.execTaskTrig x0 x1 s) := by
  intro x0 x1
  unfold Machine.execTaskTrig; try dsimp only
  repeat' first
    | with_reducible assumption
    | with_reducible apply Keeps.busWrite
    | with_reducible apply KeepsAll.next

theorem Keeps.execReq {a s : State} (h : Keeps a s) : ∀ x0 x1, KeepsAll a (Machine.execReq x0 x1 s) := by
  intro x0 x1
  unfold Machine.execReq; try dsimp only
  repeat' first
    | with_reducible assumption
    | with_reducible apply Keeps.busWrite
    | with_reducible apply KeepsAll.next

theorem Keeps.execRadioOn {a s : State} (h : Keeps a s) : ∀ x0 x1, KeepsAll a (Machine.execRadioOn x0 x1 s) := by
  intro x0 x1
  unfold Machine.execRadioOn; try dsimp only
  repeat' first
    | with_reducible assumption
    | with_reducible apply Keeps.busWrite
    | with_reducible apply KeepsAll.next

theorem Keeps.execOpTarget {a s : State} (h : Keeps a s) : ∀ x0 x1, KeepsAll a (Machine.execOpTarget x0 x1 s) := by
  intro x0 x1
  unfold Machine.execOpTarget; try dsimp only
  repeat' first
    | with_reducible assumption
    | with_reducible apply Keeps.busWrite
    | with_reducible apply KeepsAll.next

theorem Keeps.execClkCfgWrite {a s : State} (h : Keeps a s) : ∀ x0 x1, KeepsAll a (Machine.execClkCfgWrite x0 x1 s) := by
  intro x0 x1
  unfold Machine.execClkCfgWrite; try dsimp only
  repeat' first
    | with_reducible assumption
    | with_reducible apply Keeps.busWrite
    | with_reducible apply KeepsAll.next

theorem Keeps.execSoftChip {a s : State} (h : Keeps a s) : ∀ x0 x1, KeepsAll a (Machine.execSoftChip x0 x1 s) := by
  intro x0 x1
  unfold Machine.execSoftChip; try dsimp only
  repeat' first
    | with_reducible assumption
    | with_reducible apply Keeps.busWrite
    | with_reducible apply Keeps.chipResetOrWait
    | with_reducible apply Keeps.ite
    | with_reducible apply KeepsAll.ite
    | with_reducible apply KeepsAll.next
    | with_reducible apply Keeps.upd
    | rfl
    | with_reducible exact OtpKept.refl _

theorem Keeps.execRestartApc {a s : State} (h : Keeps a s) : ∀ x0 x1, KeepsAll a (Machine.execRestartApc x0 x1 s) := by
  intro x0 x1
  unfold Machine.execRestartApc; try dsimp only
  repeat' first
    | with_reducible assumption
    | with_reducible apply Keeps.busWrite
    | with_reducible apply KeepsAll.next

theorem Keeps.execRestartNtc {a s : State} (h : Keeps a s) : ∀ x0 x1, KeepsAll a (Machine.execRestartNtc x0 x1 s) := by
  intro x0 x1
  unfold Machine.execRestartNtc; try dsimp only
  repeat' first
    | with_reducible assumption
    | with_reducible apply Keeps.busWrite
    | with_reducible apply KeepsAll.next

theorem Keeps.execNowLo {a s : State} (h : Keeps a s) : ∀ x0, KeepsAll a (Machine.execNowLo x0 s) := by
  intro x0
  unfold Machine.execNowLo; try dsimp only
  repeat' first
    | with_reducible assumption
    | with_reducible apply Keeps.busRead
    | with_reducible apply KeepsAll.next

theorem Keeps.execAlarmHiWrite {a s : State} (h : Keeps a s) : ∀ x0 x1 x2, KeepsAll a (Machine.execAlarmHiWrite x0 x1 x2 s) := by
  intro x0 x1 x2
  unfold Machine.execAlarmHiWrite; try dsimp only
  repeat' first
    | with_reducible assumption
    | with_reducible apply Keeps.busWrite
    | with_reducible apply Keeps.ite
    | with_reducible apply KeepsAll.ite
    | with_reducible apply KeepsAll.next

theorem Keeps.execAlarmLoWrite {a s : State} (h : Keeps a s) : ∀ x0 x1 x2, KeepsAll a (Machine.execAlarmLoWrite x0 x1 x2 s) := by
  intro x0 x1 x2
  unfold Machine.execAlarmLoWrite; try dsimp only
  repeat' first
    | with_reducible assumption
    | with_reducible apply Keeps.busWrite
    | with_reducible apply Keeps.ite
    | with_reducible apply KeepsAll.ite
    | with_reducible apply KeepsAll.next

theorem Keeps.execAlarmEnWrite {a s : State} (h : Keeps a s) : ∀ x0 x1, KeepsAll a (Machine.execAlarmEnWrite x0 x1 s) := by
  intro x0 x1
  unfold Machine.execAlarmEnWrite; try dsimp only
  repeat' first
    | with_reducible assumption
    | with_reducible apply Keeps.busWrite
    | with_reducible apply KeepsAll.next

theorem Keeps.execStart {a s : State} (h : Keeps a s) : ∀ x0 x1, KeepsAll a (Machine.execStart x0 x1 s) := by
  intro x0 x1
  unfold Machine.execStart; try dsimp only
  repeat' first
    | with_reducible assumption
    | with_reducible apply Keeps.viaTask
    | with_reducible apply Keeps.ite
    | with_reducible apply KeepsAll.ite
    | with_reducible apply KeepsAll.next

theorem Keeps.execStop {a s : State} (h : Keeps a s) : ∀ x0 x1, KeepsAll a (Machine.execStop x0 x1 s) := by
  intro x0 x1
  unfold Machine.execStop; try dsimp only
  repeat' first
    | with_reducible assumption
    | with_reducible apply Keeps.viaTask
    | with_reducible apply Keeps.ite
    | with_reducible apply KeepsAll.ite
    | with_reducible apply KeepsAll.next

theorem Keeps.execClear {a s : State} (h : Keeps a s) : ∀ x0 x1, KeepsAll a (Machine.execClear x0 x1 s) := by
  intro x0 x1
  unfold Machine.execClear; try dsimp only
  repeat' first
    | with_reducible assumption
    | with_reducible apply Keeps.viaTask
    | with_reducible apply Keeps.ite
    | with_reducible apply KeepsAll.ite
    | with_reducible apply KeepsAll.next

theorem Keeps.execLoad {a s : State} (h : Keeps a s) : ∀ x0 x1, KeepsAll a (Machine.execLoad x0 x1 s) := by
  intro x0 x1
  unfold Machine.execLoad; try dsimp only
  repeat' first
    | with_reducible assumption
    | with_reducible apply Keeps.busWrite
    | with_reducible apply Keeps.ite
    | with_reducible apply KeepsAll.ite
    | with_reducible apply KeepsAll.next

theorem Keeps.execCapture {a s : State} (h : Keeps a s) : ∀ x0 x1, KeepsAll a (Machine.execCapture x0 x1 s) := by
  intro x0 x1
  unfold Machine.execCapture; try dsimp only
  repeat' first
    | with_reducible assumption
    | with_reducible apply Keeps.deliverTask
    | with_reducible apply Keeps.ite
    | with_reducible apply KeepsAll.ite
    | with_reducible apply KeepsAll.next

theorem Keeps.execWdtEnable {a s : State} (h : Keeps a s) : ∀ x0 x1, KeepsAll a (Machine.execWdtEnable x0 x1 s) := by
  intro x0 x1
  unfold Machine.execWdtEnable; try dsimp only
  repeat' first
    | with_reducible assumption
    | with_reducible apply Keeps.busWrite
    | with_reducible apply KeepsAll.next

theorem Keeps.execFeed {a s : State} (h : Keeps a s) : ∀ x0 x1, KeepsAll a (Machine.execFeed x0 x1 s) := by
  intro x0 x1
  unfold Machine.execFeed; try dsimp only
  repeat' first
    | with_reducible assumption
    | with_reducible apply Keeps.busWrite
    | with_reducible apply KeepsAll.next

theorem Keeps.updWrite {a s : State} (h : Keeps a s) : ∀ x1 x2 x3, Keeps a (Machine.updWrite s x1 x2 x3) := by
  intro x1 x2 x3
  unfold Machine.updWrite; try dsimp only
  repeat' first
    | with_reducible assumption
    | with_reducible apply Keeps.busWrite

theorem Keeps.execStage {a s : State} (h : Keeps a s) : ∀ x0 x1, KeepsAll a (Machine.execStage x0 x1 s) := by
  intro x0 x1
  unfold Machine.execStage; try dsimp only
  repeat' first
    | with_reducible assumption
    | with_reducible apply Keeps.updWrite
    | with_reducible apply KeepsAll.next

theorem Keeps.execActivate {a s : State} (h : Keeps a s) : ∀ x0 x1, KeepsAll a (Machine.execActivate x0 x1 s) := by
  intro x0 x1
  unfold Machine.execActivate; try dsimp only
  repeat' first
    | with_reducible assumption
    | with_reducible apply Keeps.updWrite
    | with_reducible apply KeepsAll.next

theorem Keeps.execAbandon {a s : State} (h : Keeps a s) : ∀ x0 x1, KeepsAll a (Machine.execAbandon x0 x1 s) := by
  intro x0 x1
  unfold Machine.execAbandon; try dsimp only
  repeat' first
    | with_reducible assumption
    | with_reducible apply Keeps.updWrite
    | with_reducible apply KeepsAll.next

theorem Keeps.execRevert {a s : State} (h : Keeps a s) : ∀ x0 x1, KeepsAll a (Machine.execRevert x0 x1 s) := by
  intro x0 x1
  unfold Machine.execRevert; try dsimp only
  repeat' first
    | with_reducible assumption
    | with_reducible apply Keeps.updWrite
    | with_reducible apply KeepsAll.next

theorem Keeps.execRecopy {a s : State} (h : Keeps a s) : ∀ x0 x1, KeepsAll a (Machine.execRecopy x0 x1 s) := by
  intro x0 x1
  unfold Machine.execRecopy; try dsimp only
  repeat' first
    | with_reducible assumption
    | with_reducible apply Keeps.updWrite
    | with_reducible apply KeepsAll.next

theorem Keeps.execHandover {a s : State} (h : Keeps a s) : ∀ x0 x1, KeepsAll a (Machine.execHandover x0 x1 s) := by
  intro x0 x1
  unfold Machine.execHandover; try dsimp only
  repeat' first
    | with_reducible assumption
    | with_reducible apply Keeps.busWrite
    | with_reducible apply KeepsAll.next

theorem Keeps.execConfirm {a s : State} (h : Keeps a s) : ∀ x0 x1, KeepsAll a (Machine.execConfirm x0 x1 s) := by
  intro x0 x1
  unfold Machine.execConfirm; try dsimp only
  repeat' first
    | with_reducible assumption
    | with_reducible apply Keeps.busWrite
    | with_reducible apply KeepsAll.next

theorem Keeps.ofExec {a s : State} (h : Keeps a s) (i : Instr) : KeepsAll a (exec i s) := by
  cases i
  · exact KeepsAll.of (exec_busAccess _ s) (Keeps.execBusAccess h _)
  · exact KeepsAll.of (exec_softReset _ _ _ s) (Keeps.execSoftReset h _ _ _)
  · exact KeepsAll.of (exec_softResetDone _ s) (Keeps.execSoftResetDone h _)
  · exact KeepsAll.of (exec_pageEnable _ _ _ s) (Keeps.execPageEnable h _ _ _)
  · exact KeepsAll.of (exec_lock _ _ _ s) (Keeps.execLock h _ _ _)
  · exact KeepsAll.of (exec_irqSet _ _ _ s) (Keeps.execIrqSet h _ _ _)
  · exact KeepsAll.of (exec_compute _ _ _ s) (Keeps.execCompute h _ _ _)
  · exact KeepsAll.of (exec_latchRef _ _ _ s) (Keeps.execLatchRef h _ _ _)
  · exact KeepsAll.of (exec_sealInterval _ s) (Keeps.execSealInterval h _)
  · exact KeepsAll.of (exec_sealDone _ s) (Keeps.execSealDone h _)
  · exact KeepsAll.of (exec_scsSettled s) (Keeps.execScsSettled h)
  · exact KeepsAll.of (exec_scsUnlock s) (Keeps.execScsUnlock h)
  · exact KeepsAll.of (exec_scsRelock _ s) (Keeps.execScsRelock h _)
  · exact KeepsAll.of (exec_agcWindowEnd _ _ _ s) (Keeps.execAgcWindowEnd h _ _ _)
  · exact KeepsAll.of (exec_agcHoldExpiry s) (Keeps.execAgcHoldExpiry h)
  · exact KeepsAll.of (exec_receiverRunning s) (Keeps.execReceiverRunning h)
  · exact KeepsAll.of (exec_whiff _ _ s) (Keeps.execWhiff h _ _)
  · exact KeepsAll.of (exec_whiffCaptureStart s) (Keeps.execWhiffCaptureStart h)
  · exact KeepsAll.of (exec_whiffCaptureEnd _ s) (Keeps.execWhiffCaptureEnd h _)
  · exact KeepsAll.of (exec_whiffDone _ _ s) (Keeps.execWhiffDone h _ _)
  · exact KeepsAll.of (exec_crsLock s) (Keeps.execCrsLock h)
  · exact KeepsAll.of (exec_crsUnlock s) (Keeps.execCrsUnlock h)
  · exact KeepsAll.of (exec_crsRelock _ s) (Keeps.execCrsRelock h _)
  · exact KeepsAll.of (exec_txSequenceStart _ s) (Keeps.execTxSequenceStart h _)
  · exact KeepsAll.of (exec_rampUpStart s) (Keeps.execRampUpStart h)
  · exact KeepsAll.of (exec_onAir s) (Keeps.execOnAir h)
  · exact KeepsAll.of (exec_frameTxEnd _ s) (Keeps.execFrameTxEnd h _)
  · exact KeepsAll.of (exec_rampDownEnd s) (Keeps.execRampDownEnd h)
  · exact KeepsAll.of (exec_antSelExit s) (Keeps.execAntSelExit h)
  · exact KeepsAll.of (exec_underrun s) (Keeps.execUnderrun h)
  · exact KeepsAll.of (exec_ilim s) (Keeps.execIlim h)
  · exact KeepsAll.of (exec_rcpSenseSample _ s) (Keeps.execRcpSenseSample h _)
  · exact KeepsAll.of (exec_tsnRoundEnd _ s) (Keeps.execTsnRoundEnd h _)
  · exact KeepsAll.of (exec_sample _ s) (Keeps.execSample h _)
  · exact KeepsAll.of (exec_tsnSampleLatched s) (Keeps.execTsnSampleLatched h)
  · exact KeepsAll.of (exec_idle _ _ s) (Keeps.execIdle h _ _)
  · exact KeepsAll.of (exec_armRx _ _ s) (Keeps.execArmRx h _ _)
  · exact KeepsAll.of (exec_rx _ _ s) (Keeps.execRx h _ _)
  · exact KeepsAll.of (exec_rxMulti _ _ s) (Keeps.execRxMulti h _ _)
  · exact KeepsAll.of (exec_tx _ _ s) (Keeps.execTx h _ _)
  · exact KeepsAll.of (exec_txCca _ _ s) (Keeps.execTxCca h _ _)
  · exact KeepsAll.of (exec_cal _ _ s) (Keeps.execCal h _ _)
  · exact KeepsAll.of (exec_pretune _ _ s) (Keeps.execPretune h _ _)
  · exact KeepsAll.of (exec_abort _ _ s) (Keeps.execAbort h _ _)
  · exact KeepsAll.of (exec_off _ _ s) (Keeps.execOff h _ _)
  · exact KeepsAll.of (exec_timedCommandDue _ s) (Keeps.execTimedCommandDue h _)
  · exact KeepsAll.of (exec_queuedCommandEval s) (Keeps.execQueuedCommandEval h)
  · exact KeepsAll.of (exec_transitionEnd s) (Keeps.execTransitionEnd h)
  · exact KeepsAll.of (exec_turnRoundRxRelease s) (Keeps.execTurnRoundRxRelease h)
  · exact KeepsAll.of (exec_calStepDone _ _ s) (Keeps.execCalStepDone h _ _)
  · exact KeepsAll.of (exec_autoCalStart s) (Keeps.execAutoCalStart h)
  · exact KeepsAll.of (exec_channelizerUpdate s) (Keeps.execChannelizerUpdate h)
  · exact KeepsAll.of (exec_preambleDetect _ _ s) (Keeps.execPreambleDetect h _ _)
  · exact KeepsAll.of (exec_syncMatch _ _ _ _ _ s) (Keeps.execSyncMatch h _ _ _ _ _)
  · exact KeepsAll.of (exec_syncSearchTimeout _ s) (Keeps.execSyncSearchTimeout h _)
  · exact KeepsAll.of (exec_headerCheck _ _ s) (Keeps.execHeaderCheck h _ _)
  · exact KeepsAll.of (exec_captureSwitch _ _ s) (Keeps.execCaptureSwitch h _ _)
  · exact KeepsAll.of (exec_rxDataBlock _ _ s) (Keeps.execRxDataBlock h _ _)
  · exact KeepsAll.of (exec_macHeaderParsed _ s) (Keeps.execMacHeaderParsed h _)
  · exact KeepsAll.of (exec_rxFrameEnd _ _ s) (Keeps.execRxFrameEnd h _ _)
  · exact KeepsAll.of (exec_frameVerdict _ s) (Keeps.execFrameVerdict h _)
  · exact KeepsAll.of (exec_stfDetect _ _ s) (Keeps.execStfDetect h _ _)
  · exact KeepsAll.of (exec_ltfEnd _ _ _ s) (Keeps.execLtfEnd h _ _ _)
  · exact KeepsAll.of (exec_faoHeaderCheck _ _ s) (Keeps.execFaoHeaderCheck h _ _)
  · exact KeepsAll.of (exec_segmentRequest _ _ _ s) (Keeps.execSegmentRequest h _ _ _)
  · exact KeepsAll.of (exec_segmentDone _ s) (Keeps.execSegmentDone h _)
  · exact KeepsAll.of (exec_softBitOverflow _ s) (Keeps.execSoftBitOverflow h _)
  · exact KeepsAll.of (exec_slowTick s) (Keeps.execSlowTick h)
  · exact KeepsAll.of (exec_finePartStart s) (Keeps.execFinePartStart h)
  · exact KeepsAll.of (exec_nowLo _ s) (Keeps.execNowLo h _)
  · exact KeepsAll.of (exec_alarmHiWrite _ _ _ s) (Keeps.execAlarmHiWrite h _ _ _)
  · exact KeepsAll.of (exec_alarmLoWrite _ _ _ s) (Keeps.execAlarmLoWrite h _ _ _)
  · exact KeepsAll.of (exec_alarmWriteEffect _ s) (Keeps.execAlarmWriteEffect h _)
  · exact KeepsAll.of (exec_alarmFire _ s) (Keeps.execAlarmFire h _)
  · exact KeepsAll.of (exec_alarmEnWrite _ _ s) (Keeps.execAlarmEnWrite h _ _)
  · exact KeepsAll.of (exec_start _ _ s) (Keeps.execStart h _ _)
  · exact KeepsAll.of (exec_stop _ _ s) (Keeps.execStop h _ _)
  · exact KeepsAll.of (exec_clear _ _ s) (Keeps.execClear h _ _)
  · exact KeepsAll.of (exec_load _ _ s) (Keeps.execLoad h _ _)
  · exact KeepsAll.of (exec_capture _ _ s) (Keeps.execCapture h _ _)
  · exact KeepsAll.of (exec_wrap _ s) (Keeps.execWrap h _)
  · exact KeepsAll.of (exec_cmp _ _ s) (Keeps.execCmp h _ _)
  · exact KeepsAll.of (exec_lptSyncDone s) (Keeps.execLptSyncDone h)
  · exact KeepsAll.of (exec_lptWrap _ s) (Keeps.execLptWrap h _)
  · exact KeepsAll.of (exec_lptCmp _ s) (Keeps.execLptCmp h _)
  · exact KeepsAll.of (exec_wdtEnable _ _ s) (Keeps.execWdtEnable h _ _)
  · exact KeepsAll.of (exec_feed _ _ s) (Keeps.execFeed h _ _)
  · exact KeepsAll.of (exec_prewarn s) (Keeps.execPrewarn h)
  · exact KeepsAll.of (exec_wdtExpiry s) (Keeps.execWdtExpiry h)
  · exact KeepsAll.of (exec_arm _ s) (Keeps.execArm h _)
  · exact KeepsAll.of (exec_cancel _ s) (Keeps.execCancel h _)
  · exact KeepsAll.of (exec_read _ s) (Keeps.execRead h _)
  · exact KeepsAll.of (exec_cancelAll _ s) (Keeps.execCancelAll h _)
  · exact KeepsAll.of (exec_handOver s) (Keeps.execHandOver h)
  · exact KeepsAll.of (exec_entryStart _ s) (Keeps.execEntryStart h _)
  · exact KeepsAll.of (exec_entryCompletion _ s) (Keeps.execEntryCompletion h _)
  · exact KeepsAll.of (exec_receiveWindowClose s) (Keeps.execReceiveWindowClose h)
  · exact KeepsAll.of (exec_done _ s) (Keeps.execDone h _)
  · exact KeepsAll.of (exec_runAhead s) (Keeps.execRunAhead h)
  · exact KeepsAll.of (exec_ccaWindowEnd _ _ s) (Keeps.execCcaWindowEnd h _ _)
  · exact KeepsAll.of (exec_speculationStart _ s) (Keeps.execSpeculationStart h _)
  · exact KeepsAll.of (exec_contextBlockTake s) (Keeps.execContextBlockTake h)
  · exact KeepsAll.of (exec_commit _ s) (Keeps.execCommit h _)
  · exact KeepsAll.of (exec_squash _ s) (Keeps.execSquash h _)
  · exact KeepsAll.of (exec_commitDeadline _ s) (Keeps.execCommitDeadline h _)
  · exact KeepsAll.of (exec_ackFail _ s) (Keeps.execAckFail h _)
  · exact KeepsAll.of (exec_sharedRequestServed _ s) (Keeps.execSharedRequestServed h _)
  · exact KeepsAll.of (exec_nbtLookupReturn _ s) (Keeps.execNbtLookupReturn h _)
  · exact KeepsAll.of (exec_alloc _ s) (Keeps.execAlloc h _)
  · exact KeepsAll.of (exec_release _ _ s) (Keeps.execRelease h _ _)
  · exact KeepsAll.of (exec_rxq _ s) (Keeps.execRxq h _)
  · exact KeepsAll.of (exec_insert _ s) (Keeps.execInsert h _)
  · exact KeepsAll.of (exec_update _ _ s) (Keeps.execUpdate h _ _)
  · exact KeepsAll.of (exec_delete _ s) (Keeps.execDelete h _)
  · exact KeepsAll.of (exec_lookup _ s) (Keeps.execLookup h _)
  · exact KeepsAll.of (exec_nbtRead _ s) (Keeps.execNbtRead h _)
  · exact KeepsAll.of (exec_nbtCommandDone _ s) (Keeps.execNbtCommandDone h _)
  · exact KeepsAll.of (exec_hvlEnable _ _ s) (Keeps.execHvlEnable h _ _)
  · exact KeepsAll.of (exec_trainingDone _ _ _ s) (Keeps.execTrainingDone h _ _ _)
  · exact KeepsAll.of (exec_hello _ s) (Keeps.execHello h _)
  · exact KeepsAll.of (exec_welcome _ s) (Keeps.execWelcome h _)
  · exact KeepsAll.of (exec_time _ s) (Keeps.execTime h _)
  · exact KeepsAll.of (exec_hvlSyncEdge s) (Keeps.execHvlSyncEdge h)
  · exact KeepsAll.of (exec_syncMarker s) (Keeps.execSyncMarker h)
  · exact KeepsAll.of (exec_missingEdge s) (Keeps.execMissingEdge h)
  · exact KeepsAll.of (exec_hvlLookup _ s) (Keeps.execHvlLookup h _)
  · exact KeepsAll.of (exec_reply _ _ s) (Keeps.execReply h _ _)
  · exact KeepsAll.of (exec_verdict _ s) (Keeps.execVerdict h _)
  · exact KeepsAll.of (exec_nbtCmd _ s) (Keeps.execNbtCmd h _)
  · exact KeepsAll.of (exec_nbtRes _ s) (Keeps.execNbtRes h _)
  · exact KeepsAll.of (exec_entry _ s) (Keeps.execEntry h _)
  · exact KeepsAll.of (exec_entryRes _ s) (Keeps.execEntryRes h _)
  · exact KeepsAll.of (exec_frame _ s) (Keeps.execFrame h _)
  · exact KeepsAll.of (exec_fwdAck _ s) (Keeps.execFwdAck h _)
  · exact KeepsAll.of (exec_forwardResend s) (Keeps.execForwardResend h)
  · exact KeepsAll.of (exec_linkDown _ s) (Keeps.execLinkDown h _)
  · exact KeepsAll.of (exec_commitAt _ s) (Keeps.execCommitAt h _)
  · exact KeepsAll.of (exec_packetAck _ _ s) (Keeps.execPacketAck h _ _)
  · exact KeepsAll.of (exec_packetNak _ _ s) (Keeps.execPacketNak h _ _)
  · exact KeepsAll.of (exec_packetCrcFail _ _ _ s) (Keeps.execPacketCrcFail h _ _ _)
  · exact KeepsAll.of (exec_resendTimeout _ _ s) (Keeps.execResendTimeout h _ _)
  · exact KeepsAll.of (exec_retrainDone _ _ s) (Keeps.execRetrainDone h _ _)
  · exact KeepsAll.of (exec_hopDown _ s) (Keeps.execHopDown h _)
  · exact KeepsAll.of (exec_prbsTestDone _ _ _ s) (Keeps.execPrbsTestDone h _ _ _)
  · exact KeepsAll.of (exec_aesEcbEncrypt _ _ s) (Keeps.execAesEcbEncrypt h _ _)
  · exact KeepsAll.of (exec_aesCtr _ _ s) (Keeps.execAesCtr h _ _)
  · exact KeepsAll.of (exec_ccmEncrypt _ _ s) (Keeps.execCcmEncrypt h _ _)
  · exact KeepsAll.of (exec_ccmDecrypt _ _ s) (Keeps.execCcmDecrypt h _ _)
  · exact KeepsAll.of (exec_sha256 _ _ s) (Keeps.execSha256 h _ _)
  · exact KeepsAll.of (exec_ecdsaP256Verify _ _ s) (Keeps.execEcdsaP256Verify h _ _)
  · exact KeepsAll.of (exec_jobDone s) (Keeps.execJobDone h)
  · exact KeepsAll.of (exec_rng _ s) (Keeps.execRng h _)
  · exact KeepsAll.of (exec_rngWord _ _ s) (Keeps.execRngWord h _ _)
  · exact KeepsAll.of (exec_rngRestart _ s) (Keeps.execRngRestart h _)
  · exact KeepsAll.of (exec_securityRequest _ s) (Keeps.execSecurityRequest h _)
  · exact KeepsAll.of (exec_keyStoreWrite _ _ _ s) (Keeps.execKeyStoreWrite h _ _ _)
  · exact KeepsAll.of (exec_setAttr _ _ s) (Keeps.execSetAttr h _ _)
  · exact KeepsAll.of (exec_eraseKey _ _ s) (Keeps.execEraseKey h _ _)
  · exact KeepsAll.of (exec_eraseAll _ s) (Keeps.execEraseAll h _)
  · exact KeepsAll.of (exec_importKey _ _ s) (Keeps.execImportKey h _ _)
  · exact KeepsAll.of (exec_exportKey _ _ s) (Keeps.execExportKey h _ _)
  · exact KeepsAll.of (exec_readAttr _ _ s) (Keeps.execReadAttr h _ _)
  · exact KeepsAll.of (exec_otpWrite _ _ s) (Keeps.execOtpWrite h _ _)
  · exact KeepsAll.of (exec_kstCommandDone s) (Keeps.execKstCommandDone h)
  · exact KeepsAll.of (exec_dbgChal _ s) (Keeps.execDbgChal h _)
  · exact KeepsAll.of (exec_dbgResp _ _ _ s) (Keeps.execDbgResp h _ _ _)
  · exact KeepsAll.of (exec_claim _ s) (Keeps.execClaim h _)
  · exact KeepsAll.of (exec_complete _ _ s) (Keeps.execComplete h _ _)
  · exact KeepsAll.of (exec_cacheInv _ _ s) (Keeps.execCacheInv h _ _)
  · exact KeepsAll.of (exec_mboxTx _ _ _ s) (Keeps.execMboxTx h _ _ _)
  · exact KeepsAll.of (exec_mboxRx _ _ s) (Keeps.execMboxRx h _ _)
  · exact KeepsAll.of (exec_debugHalt _ s) (Keeps.execDebugHalt h _)
  · exact KeepsAll.of (exec_debugResume _ s) (Keeps.execDebugResume h _)
  · exact KeepsAll.of (exec_submit _ s) (Keeps.execSubmit h _)
  · exact KeepsAll.of (exec_program _ s) (Keeps.execProgram h _)
  · exact KeepsAll.of (exec_erase _ s) (Keeps.execErase h _)
  · exact KeepsAll.of (exec_readback _ _ s) (Keeps.execReadback h _ _)
  · exact KeepsAll.of (exec_descDone _ s) (Keeps.execDescDone h _)
  · exact KeepsAll.of (exec_flcDone _ s) (Keeps.execFlcDone h _)
  · exact KeepsAll.of (exec_suspend _ s) (Keeps.execSuspend h _)
  · exact KeepsAll.of (exec_resume _ s) (Keeps.execResume h _)
  · exact KeepsAll.of (exec_flcAbort _ s) (Keeps.execFlcAbort h _)
  · exact KeepsAll.of (exec_autoResume s) (Keeps.execAutoResume h)
  · exact KeepsAll.of (exec_minRunEnd s) (Keeps.execMinRunEnd h)
  · exact KeepsAll.of (exec_qtx _ _ _ s) (Keeps.execQtx h _ _ _)
  · exact KeepsAll.of (exec_qrx _ _ s) (Keeps.execQrx h _ _)
  · exact KeepsAll.of (exec_flush _ _ s) (Keeps.execFlush h _ _)
  · exact KeepsAll.of (exec_sptRelease _ _ s) (Keeps.execSptRelease h _ _)
  · exact KeepsAll.of (exec_pfInv _ s) (Keeps.execPfInv h _)
  · exact KeepsAll.of (exec_queueWordDone _ _ s) (Keeps.execQueueWordDone h _ _)
  · exact KeepsAll.of (exec_holdExpired _ s) (Keeps.execHoldExpired h _)
  · exact KeepsAll.of (exec_slaveWord _ _ s) (Keeps.execSlaveWord h _ _)
  · exact KeepsAll.of (exec_shortWord _ s) (Keeps.execShortWord h _)
  · exact KeepsAll.of (exec_windowRead _ _ s) (Keeps.execWindowRead h _ _)
  · exact KeepsAll.of (exec_windowWrite _ s) (Keeps.execWindowWrite h _)
  · exact KeepsAll.of (exec_writeBufferFlush _ s) (Keeps.execWriteBufferFlush h _)
  · exact KeepsAll.of (exec_statusPoll _ _ s) (Keeps.execStatusPoll h _ _)
  · exact KeepsAll.of (exec_pollTimeout _ s) (Keeps.execPollTimeout h _)
  · exact KeepsAll.of (exec_lineFillDone _ s) (Keeps.execLineFillDone h _)
  · exact KeepsAll.of (exec_lookAheadFill s) (Keeps.execLookAheadFill h)
  · exact KeepsAll.of (exec_hspCsFall _ s) (Keeps.execHspCsFall h _)
  · exact KeepsAll.of (exec_nop _ _ s) (Keeps.execNop h _ _)
  · exact KeepsAll.of (exec_hspRead _ _ _ _ s) (Keeps.execHspRead h _ _ _ _)
  · exact KeepsAll.of (exec_hspWrite _ _ _ _ s) (Keeps.execHspWrite h _ _ _ _)
  · exact KeepsAll.of (exec_cut s) (Keeps.execCut h)
  · exact KeepsAll.of (exec_dbSet _ _ s) (Keeps.execDbSet h _ _)
  · exact KeepsAll.of (exec_doorbell _ _ s) (Keeps.execDoorbell h _ _)
  · exact KeepsAll.of (exec_eventSample s) (Keeps.execEventSample h)
  · exact KeepsAll.of (exec_taskTrigger _ s) (Keeps.execTaskTrigger h _)
  · exact KeepsAll.of (exec_swTrig _ _ s) (Keeps.execSwTrig h _ _)
  · exact KeepsAll.of (exec_taskTrig _ _ s) (Keeps.execTaskTrig h _ _)
  · exact KeepsAll.of (exec_heldEventsSample s) (Keeps.execHeldEventsSample h)
  · exact KeepsAll.of (exec_pinEvt _ _ s) (Keeps.execPinEvt h _ _)
  · exact KeepsAll.of (exec_gpioInt _ _ s) (Keeps.execGpioInt h _ _)
  · exact KeepsAll.of (exec_req _ _ s) (Keeps.execReq h _ _)
  · exact KeepsAll.of (exec_entryBegin s) (Keeps.execEntryBegin h)
  · exact KeepsAll.of (exec_entryInstant s) (Keeps.execEntryInstant h)
  · exact KeepsAll.of (exec_entryAborted _ s) (Keeps.execEntryAborted h _)
  · exact KeepsAll.of (exec_wake _ s) (Keeps.execWake h _)
  · exact KeepsAll.of (exec_wakePin _ _ s) (Keeps.execWakePin h _ _)
  · exact KeepsAll.of (exec_radioOn _ _ s) (Keeps.execRadioOn h _ _)
  · exact KeepsAll.of (exec_radioDomainUp s) (Keeps.execRadioDomainUp h)
  · exact KeepsAll.of (exec_bankClearDone _ s) (Keeps.execBankClearDone h _)
  · exact KeepsAll.of (exec_opTarget _ _ s) (Keeps.execOpTarget h _ _)
  · exact KeepsAll.of (exec_opDone s) (Keeps.execOpDone h)
  · exact KeepsAll.of (exec_clkCfgWrite _ _ s) (Keeps.execClkCfgWrite h _ _)
  · exact KeepsAll.of (exec_switched s) (Keeps.execSwitched h)
  · exact KeepsAll.of (exec_hfxoStable s) (Keeps.execHfxoStable h)
  · exact KeepsAll.of (exec_pllLock s) (Keeps.execPllLock h)
  · exact KeepsAll.of (exec_hfxoFail s) (Keeps.execHfxoFail h)
  · exact KeepsAll.of (exec_lfxoFail s) (Keeps.execLfxoFail h)
  · exact KeepsAll.of (exec_lfxoReturn s) (Keeps.execLfxoReturn h)
  · exact KeepsAll.of (exec_voutCommand s) (Keeps.execVoutCommand h)
  · exact KeepsAll.of (exec_operation _ s) (Keeps.execOperation h _)
  · exact KeepsAll.of (exec_statusByte _ s) (Keeps.execStatusByte h _)
  · exact KeepsAll.of (exec_rrpResend s) (Keeps.execRrpResend h)
  · exact KeepsAll.of (exec_rrpTimeout s) (Keeps.execRrpTimeout h)
  · exact KeepsAll.of (exec_por _ _ s) (Keeps.execPor h _ _)
  · exact KeepsAll.of (exec_bor _ _ s) (Keeps.execBor h _ _)
  · exact KeepsAll.of (exec_pin _ s) (Keeps.execPin h _)
  · exact KeepsAll.of (exec_wdt _ s) (Keeps.execWdt h _)
  · exact KeepsAll.of (exec_softChip _ _ s) (Keeps.execSoftChip h _ _)
  · exact KeepsAll.of (exec_updateFallback _ s) (Keeps.execUpdateFallback h _)
  · exact KeepsAll.of (exec_restartApc _ _ s) (Keeps.execRestartApc h _ _)
  · exact KeepsAll.of (exec_restartNtc _ _ s) (Keeps.execRestartNtc h _ _)
  · exact KeepsAll.of (exec_flashSafePointReset _ s) (Keeps.execFlashSafePointReset h _)
  · exact KeepsAll.of (exec_bootStart _ s) (Keeps.execBootStart h _)
  · exact KeepsAll.of (exec_coreRelease _ s) (Keeps.execCoreRelease h _)
  · exact KeepsAll.of (exec_bootDone s) (Keeps.execBootDone h)
  · exact KeepsAll.of (exec_engineCodeLoad _ s) (Keeps.execEngineCodeLoad h _)
  · exact KeepsAll.of (exec_engReady s) (Keeps.execEngReady h)
  · exact KeepsAll.of (exec_engineReload _ s) (Keeps.execEngineReload h _)
  · exact KeepsAll.of (exec_stage _ _ s) (Keeps.execStage h _ _)
  · exact KeepsAll.of (exec_stageDone s) (Keeps.execStageDone h)
  · exact KeepsAll.of (exec_activate _ _ s) (Keeps.execActivate h _ _)
  · exact KeepsAll.of (exec_abandon _ _ s) (Keeps.execAbandon h _ _)
  · exact KeepsAll.of (exec_revert _ _ s) (Keeps.execRevert h _ _)
  · exact KeepsAll.of (exec_recopy _ _ s) (Keeps.execRecopy h _ _)
  · exact KeepsAll.of (exec_commitSuspend s) (Keeps.execCommitSuspend h)
  · exact KeepsAll.of (exec_commitPoint s) (Keeps.execCommitPoint h)
  · exact KeepsAll.of (exec_homeCopySector _ s) (Keeps.execHomeCopySector h _)
  · exact KeepsAll.of (exec_engineChangeover _ _ s) (Keeps.execEngineChangeover h _ _)
  · exact KeepsAll.of (exec_engineAccept _ _ s) (Keeps.execEngineAccept h _ _)
  · exact KeepsAll.of (exec_quietLimit s) (Keeps.execQuietLimit h)
  · exact KeepsAll.of (exec_handover _ _ s) (Keeps.execHandover h _ _)
  · exact KeepsAll.of (exec_handoverWait _ s) (Keeps.execHandoverWait h _)
  · exact KeepsAll.of (exec_confirm _ _ s) (Keeps.execConfirm h _ _)
  · exact KeepsAll.of (exec_confirmWindow s) (Keeps.execConfirmWindow h)
  · exact KeepsAll.of (exec_fallback s) (Keeps.execFallback h)
  · exact KeepsAll.of (exec_fault _ s) (Keeps.execFault h _)
  · exact KeepsAll.of (exec_retry _ _ s) (Keeps.execRetry h _ _)
  · exact KeepsAll.of (exec_recordRewriteDone _ s) (Keeps.execRecordRewriteDone h _)
  · exact KeepsAll.of (exec_retire _ _ s) (Keeps.execRetire h _ _)
  · exact KeepsAll.of (exec_unretire _ _ s) (Keeps.execUnretire h _ _)
  · exact KeepsAll.of (exec_clearCount _ _ s) (Keeps.execClearCount h _ _)
  · exact KeepsAll.of (exec_rewrite _ _ s) (Keeps.execRewrite h _ _)
  · exact KeepsAll.of (exec_log _ s) (Keeps.execLog h _)
  · exact KeepsAll.of (exec_test _ _ s) (Keeps.execTest h _ _)
  · exact KeepsAll.of (exec_bstAbort _ s) (Keeps.execBstAbort h _)
  · exact KeepsAll.of (exec_testIsolation s) (Keeps.execTestIsolation h)
  · exact KeepsAll.of (exec_testDone _ s) (Keeps.execTestDone h _)
  · exact KeepsAll.of (exec_recArm _ s) (Keeps.execRecArm h _)
  · exact KeepsAll.of (exec_freeze _ s) (Keeps.execFreeze h _)
  · exact KeepsAll.of (exec_mark _ _ s) (Keeps.execMark h _ _)
  · exact KeepsAll.of (exec_postEnd s) (Keeps.execPostEnd h)
  · exact KeepsAll.of (exec_frozen _ _ s) (Keeps.execFrozen h _ _)
  · exact KeepsAll.of (exec_replay _ s) (Keeps.execReplay h _)
  · exact KeepsAll.of (exec_replayDone _ s) (Keeps.execReplayDone h _)
  · exact KeepsAll.of (exec_rpq _ s) (Keeps.execRpq h _)
  · exact KeepsAll.of (exec_safePoint _ s) (Keeps.execSafePoint h _)
  · exact KeepsAll.of (exec_noTimeWithin16Ms s) (Keeps.execNoTimeWithin16Ms h)
  · exact KeepsAll.of (exec_reservedTypePacket _ s) (Keeps.execReservedTypePacket h _)
  · exact KeepsAll.of (exec_hfxoFailsToStart s) (Keeps.execHfxoFailsToStart h)
  · exact KeepsAll.of (exec_borRelease s) (Keeps.execBorRelease h)

/-- One step keeps all but the queue, from which it takes its front command. -/
theorem Keeps.ofStep {s t : State} (h : step s = .next t) : Keeps { s with pending := s.pending.tail } t := by
  have k : KeepsAll { s with pending := s.pending.tail } (step s) := by
    unfold step
    split
    · rename_i c rest e
      rw [e]
      exact Keeps.ofExec (Keeps.refl _) c
    · rename_i e
      rw [e]
      refine KeepsAll.next (Keeps.fineTick ?_)
      exact ⟨e, rfl, rfl, OtpKept.refl _, fun x => x⟩
  obtain ⟨u, e, k⟩ := k
  rw [h] at e
  cases e
  exact k

end Sys2Proof.Machine
end

