-- ==== Sys2Proof/WellFormed.lean ====
section
/-! DEFINITION. The well-formed commands: each index, number and list of a command's operands lies in the range that the specification gives it.
The meanings are total: a command that is not well-formed names something that the device does not have, and leaves it as it is or finds an
address without a register. -/

namespace Sys2Proof

/-- One of the 256 pages (02 R36). -/
def pageOk (p : Nat) : Bool := decide (p < 256)
/-- A slice or a lane that some variant has (00 R2). -/
def sliceOk (n : Nat) : Bool := decide (n < 16)
def laneOk (n : Nat) : Bool := decide (n < 4)
def rxUnitOk : RxUnit → Bool
  | .slice n => sliceOk n
  | .lane n => laneOk n
/-- An alarm, a timer, a channel of a timer, a low-power timer (08 R200, R204, R206, R211). -/
def alarmOk (n : Nat) : Bool := decide (n < 8)
def timerOk (t : Nat) : Bool := decide (t < 4)
def channelOk (k : Nat) : Bool := decide (k < 4)
def lptOk (m : Nat) : Bool := decide (m < 2)
/-- An entry of the timeline (09 R221). -/
def entryOk (i : Nat) : Bool := decide (i < 128)
/-- A packet of 6 to 64 bytes under a hop sequence number of a character (11 R282, R283). -/
def packetOk (p : Packet) : Bool := decide (p.seq < 256) && decide (6 ≤ p.bytes.length) && decide (p.bytes.length ≤ 64)
/-- The header symbols of a FAO frame, one soft value for each data subcarrier (07 R171, R174). -/
def headerOk : OfdmHeader → Bool
  | .fao first second => decide (first.length = 96) && decide (second.length = 96)
  | .sun _ _ _ _ _ => true
/-- A stream of the shared AES engine: of a receiver, of the transmitter, of one of the four acknowledgement contexts (09 R237, R243). -/
def streamOk : SecStream → Bool
  | .rx u => rxUnitOk u
  | .tx _ => true
  | .ack k => decide (k < 4)
/-- A lane of a port (11 R280). -/
def laneNoOk (n : Nat) : Bool := decide (n < 2)
/-- A map of the two lanes of a port (11 R280). -/
def lanesOk (n : Nat) : Bool := decide (n < 4)
/-- A slot of the key store (12 R306). -/
def slotOk (n : Nat) : Bool := decide (n < 4096)
/-- A mailbox channel, a hart of the debug unit (13 R330, R332). -/
def mboxOk (c : Nat) : Bool := decide (c < 6)
def hartOk (h : Nat) : Bool := decide (h < 2)
/-- A serial port (15 R359). -/
def portOk (n : Nat) : Bool := decide (n < 4)
/-- A task ID (17 R392), a pin of the device (23 R508), a wake pin (18 R413). -/
def taskOk (t : Nat) : Bool := decide (t < 512)
def pinOk (n : Nat) : Bool := decide (n < 32)
def wakePinOk (n : Nat) : Bool := decide (n < 8)
/-- A code of a wake source (18 R413). -/
def sourceOk (c : Nat) : Bool := (decide (1 ≤ c) && decide (c ≤ 8)) || (decide (0x10 ≤ c) && decide (c ≤ 0x1B))
/-- An SRAM bank (21 R474). -/
def bankOk (b : Nat) : Bool := decide (b < 58)
/-- A reading of the position strap (11 R279). -/
def strapOk (p : Nat) : Bool := decide (p < 8)
/-- A unit code (21 R465). -/
def unitOk (u : Nat) : Bool := decide (u < 65536)
/-- A round of the sensors that their registers can show (04 R119). -/
def senseOk (m : Sense) : Bool :=
  decide (-128 ≤ m.temp) && decide (m.temp < 128) && decide (m.vbat < 4096) && decide (m.vpa < 4096)
/-- The round that completes with a command, if one does. -/
def roundOk (m : Option Sense) : Bool := m.all senseOk
/-- The levels of a window of 10-bit samples (03 R60): magnitudes up to 512, of which 512 is always and 511 may be a clipped sample. -/
def agcOk (peak rms : Nat) (clipped : Bool) : Bool :=
  decide (peak ≤ 512) && decide (rms ≤ peak) && (!clipped || decide (511 ≤ peak)) && (peak != 512 || clipped)
/-- The bytes of one line of a window's device (15 R373). -/
def lineOk (bs : List Byte) : Bool := decide (bs.length ≤ 32)
/-- A challenge nonce (12 R319). -/
def nonceOk (bs : List Byte) : Bool := decide (bs.length = 16)
/-- An access whose value fits its size (02 R44). -/
def reqOk (r : BusReq) : Bool :=
  match r.op, r.size with
  | .write w, .byte => decide (w.toNat < 256)
  | .write w, .half => decide (w.toNat < 65536)
  | _, _ => true

/-- The operands of a command are in their ranges. -/
def Instr.wf : Instr → Bool
  | .busAccess r => reqOk r
  | .softReset _ p _ => pageOk p
  | .softResetDone p => pageOk p
  | .pageEnable _ p _ => pageOk p
  | .lock _ p _ => pageOk p
  | .irqSet _ p _ => pageOk p
  | .compute _ p _ => pageOk p
  | .latchRef _ p _ => pageOk p
  | .sealInterval ps => ps.all pageOk
  | .sealDone p => pageOk p
  | .agcWindowEnd peak rms clipped => agcOk peak rms clipped
  | .tsnRoundEnd m => senseOk m
  | .preambleDetect n _ => sliceOk n
  | .syncMatch n _ _ _ _ => sliceOk n
  | .syncSearchTimeout n => sliceOk n
  | .headerCheck n _ => sliceOk n
  | .captureSwitch u _ => rxUnitOk u
  | .rxDataBlock u _ => rxUnitOk u
  | .macHeaderParsed u => rxUnitOk u
  | .rxFrameEnd u _ => rxUnitOk u
  | .frameVerdict u => rxUnitOk u
  | .stfDetect n _ => laneOk n
  | .ltfEnd n _ _ => laneOk n
  | .faoHeaderCheck n h => laneOk n && headerOk h
  | .segmentRequest u _ _ => rxUnitOk u
  | .softBitOverflow u => rxUnitOk u
  | .alarmHiWrite _ n _ => alarmOk n
  | .alarmLoWrite _ n _ => alarmOk n
  | .alarmWriteEffect n => alarmOk n
  | .alarmFire n => alarmOk n
  | .start t _ => timerOk t
  | .stop t _ => timerOk t
  | .clear t _ => timerOk t
  | .load t _ => timerOk t
  | .capture t k => timerOk t && channelOk k
  | .wrap t => timerOk t
  | .cmp t k => timerOk t && channelOk k
  | .lptWrap m => lptOk m
  | .lptCmp m => lptOk m
  | .entryStart i => entryOk i
  | .entryCompletion i => entryOk i
  | .speculationStart u => rxUnitOk u
  | .commit u => rxUnitOk u
  | .squash u => rxUnitOk u
  | .commitDeadline u => rxUnitOk u
  | .nbtLookupReturn u => rxUnitOk u
  | .hello p => packetOk p
  | .welcome p => packetOk p
  | .time p => packetOk p
  | .hvlLookup p => packetOk p
  | .reply p _ => packetOk p
  | .verdict p => packetOk p
  | .nbtCmd p => packetOk p
  | .nbtRes p => packetOk p
  | .entry p => packetOk p
  | .entryRes p => packetOk p
  | .frame p => packetOk p
  | .fwdAck p => packetOk p
  | .linkDown p => packetOk p
  | .commitAt p => packetOk p
  | .packetCrcFail p _ l => packetOk p && laneNoOk l
  | .reservedTypePacket p => packetOk p
  | .securityRequest r => streamOk r
  | .setAttr _ n => slotOk n
  | .eraseKey _ n => slotOk n
  | .importKey _ n => slotOk n
  | .exportKey _ n => slotOk n
  | .readAttr _ n => slotOk n
  | .otpWrite _ n => slotOk n
  | .dbgChal bs => nonceOk bs
  | .mboxTx _ c _ => mboxOk c
  | .mboxRx _ c => mboxOk c
  | .debugHalt h => hartOk h
  | .debugResume h => hartOk h
  | .qtx _ n _ => portOk n
  | .qrx _ n => portOk n
  | .flush _ n => portOk n
  | .sptRelease _ n => portOk n
  | .queueWordDone n _ => portOk n
  | .holdExpired n => portOk n
  | .slaveWord n _ => portOk n
  | .shortWord n => portOk n
  | .windowRead r dev => reqOk r && lineOk dev
  | .windowWrite r => reqOk r
  | .writeBufferFlush n => portOk n
  | .statusPoll n _ => portOk n
  | .pollTimeout n => portOk n
  | .lineFillDone dev => lineOk dev
  | .taskTrigger t => taskOk t
  | .pinEvt n _ => pinOk n
  | .gpioInt n _ => pinOk n
  | .entryAborted cs => cs.all sourceOk
  | .wake cs => cs.all sourceOk
  | .wakePin n _ => wakePinOk n
  | .bankClearDone b => bankOk b
  | .por _ p => strapOk p
  | .bor _ p => strapOk p
  | .pin p => strapOk p
  | .retrainDone _ n => lanesOk n
  | .txSequenceStart m => roundOk m
  | .rcpSenseSample m => roundOk m
  | .softChip _ x => strapOk x.pos
  | .wdt p => strapOk p
  | .updateFallback p => strapOk p
  | .fault x => unitOk x.unit
  | .retry u _ => unitOk u
  | .retire _ u => unitOk u
  | .unretire _ u => unitOk u
  | .clearCount _ u => unitOk u
  | .rewrite _ u => unitOk u
  | .test _ u => unitOk u
  | .scsSettled | .scsUnlock | .scsRelock _ | .agcHoldExpiry | .receiverRunning | .whiff _ _ | .whiffCaptureStart
  | .whiffCaptureEnd _ | .whiffDone _ _ | .crsLock | .crsUnlock | .crsRelock _ | .rampUpStart | .onAir | .frameTxEnd _ | .rampDownEnd
  | .antSelExit | .underrun | .ilim | .sample _ | .tsnSampleLatched | .idle _ _ | .armRx _ _ | .rx _ _ | .rxMulti _ _ | .tx _ _
  | .txCca _ _ | .cal _ _ | .pretune _ _ | .abort _ _ | .off _ _ | .timedCommandDue _ | .queuedCommandEval | .transitionEnd
  | .turnRoundRxRelease | .calStepDone _ _ | .autoCalStart | .channelizerUpdate | .segmentDone _ | .slowTick | .finePartStart | .nowLo _
  | .alarmEnWrite _ _ | .lptSyncDone | .wdtEnable _ _ | .feed _ _ | .prewarn | .wdtExpiry | .arm _ | .cancel _ | .read _ | .cancelAll _
  | .handOver | .receiveWindowClose | .done _ | .runAhead | .ccaWindowEnd _ _ | .contextBlockTake | .ackFail _ | .sharedRequestServed _
  | .alloc _ | .release _ _ | .rxq _ | .insert _ | .update _ _ | .delete _ | .lookup _ | .nbtRead _ | .nbtCommandDone _ | .hvlEnable _ _
  | .trainingDone _ _ _ | .hvlSyncEdge | .syncMarker | .missingEdge | .forwardResend | .packetAck _ _ | .packetNak _ _
  | .resendTimeout _ _ | .hopDown _ | .prbsTestDone _ _ _ | .aesEcbEncrypt _ _ | .aesCtr _ _ | .ccmEncrypt _ _
  | .ccmDecrypt _ _ | .sha256 _ _ | .ecdsaP256Verify _ _ | .jobDone | .rng _ | .rngWord _ _ | .rngRestart _ | .keyStoreWrite _ _ _
  | .eraseAll _ | .kstCommandDone | .dbgResp _ _ _ | .claim _ | .complete _ _ | .cacheInv _ _ | .submit _ | .program _ | .erase _
  | .readback _ _ | .descDone _ | .flcDone _ | .suspend _ | .resume _ | .flcAbort _ | .autoResume | .minRunEnd | .pfInv _ | .lookAheadFill
  | .hspCsFall _ | .nop _ _ | .hspRead _ _ _ _ | .hspWrite _ _ _ _ | .cut | .dbSet _ _ | .doorbell _ _ | .eventSample | .swTrig _ _
  | .taskTrig _ _ | .heldEventsSample | .req _ _ | .entryBegin | .entryInstant | .radioOn _ _ | .radioDomainUp | .opTarget _ _ | .opDone
  | .clkCfgWrite _ _ | .switched | .hfxoStable | .pllLock | .hfxoFail | .lfxoFail | .lfxoReturn | .voutCommand | .operation _ | .statusByte _
  | .rrpResend | .rrpTimeout | .restartApc _ _ | .restartNtc _ _ | .flashSafePointReset _ | .bootStart _ | .coreRelease _
  | .bootDone | .engineCodeLoad _ | .engReady | .engineReload _ | .stage _ _ | .stageDone | .activate _ _ | .abandon _ _ | .revert _ _
  | .recopy _ _ | .commitSuspend | .commitPoint | .homeCopySector _ | .engineChangeover _ _ | .engineAccept _ _ | .quietLimit | .handover _ _
  | .handoverWait _ | .confirm _ _ | .confirmWindow | .fallback | .recordRewriteDone _ | .log _ | .bstAbort _ | .testIsolation | .testDone _
  | .recArm _ | .freeze _ | .mark _ _ | .postEnd | .frozen _ _ | .replay _ | .replayDone _ | .rpq _ | .safePoint _ | .noTimeWithin16Ms
  | .hfxoFailsToStart | .borRelease => true

end Sys2Proof
end

