-- ==== Sys2Proof/Tests/Slice0.lean ====
section
/-! SUPPORT. The author's own tests: ill-formed commands that the checks of WellFormed refuse, and for every clause of the statements a state and operands that
meet its hypotheses, with what comes of them. The expected values are written out from the rules that the statements cite. -/

set_option Elab.async false

namespace Sys2Proof.Tests

open Sys2Proof.Machine Sys2Proof.Machine.State

/-- A device whose core domain and radio domain run, every page enabled, at the highest operating point with a locked PLL, the radio in IDLE. -/
def live : State :=
  let s := (List.range 41).foldl (fun t p => t.put (F.PAGE_CTRL_ENABLE p) 1) State.reset
  let s := ((((s.put F.RAD_STATE_STATE 1).put F.PWR_OP_ACTIVE 2).put F.CLK_STAT_PLL_LOCK 1).put F.CLK_STAT_HFXO_OK 1).put F.CLK_STAT_HFRC_OK 1
  let s := (s.put F.SYN_SCS_STAT_LOCK 1).setPageSt P.RTX 1
  { s with pwr := { s.pwr with radioUp := true }, eng := List.replicate 8 { eng0 with run := true }, cores := { s.cores with released := [.apc, .ntc, .scc] } }

/-- The table row of a register of page `p`. -/
def rowAt (p off : Nat) : RegRow := (rowOf p off).getD ⟨0, 0, 1, 0, 0, 0, 0, false, false⟩

/-- `live` with descriptor 0 at 868.3 MHz, mode 1. -/
def liveDesc : State :=
  ((live.setReg (Reg.CHN_DESC_FREQ 0) 868300000).setReg (Reg.CHN_DESC_MODE 0) 1).setReg (Reg.CHN_DESC_SYNC_CFG 0) 16

/-- A transmission of a test: TX_SG, chain at block 3, exit IDLE. -/
def job0 : TxJob := ⟨.op, .wait, 0, liveDesc.descRegs 0, 0, 3, 0, none, 1, 40, 5, 1, false, false, [], false, 0, 0, [3], false, none, none, false, 0, .bits []⟩

/-- A TX command of a test. -/
def op0 : RadOp := ⟨.software 0, 4, 0, 0, 0, 3, 0, false, 0, false, none⟩

/-- A transmission in a stage. -/
def sending (x : TxStage) : State := { liveDesc with radio := { liveDesc.radio with tx := some { job0 with stage := x }, op := some op0 } }

/-- The same with a transmit chain of five bytes in block 3, and the synthesiser locked to its channel. -/
def readyToSend : State :=
  let s := sending .wait
  let s := ((s.setMemNat (blockAddr 3) 4 (0x200 + 5 * 0x10000)).setMemNat (blockAddr 3 + 4) 4 (5 + 2 * 0x80000)).setOwner 3 .software
  { s.put F.SYN_CRS_STAT_LOCK 1 with crs := { s.crs with chan := some 868300000 } }

/-- The receiver runs in RX with slice 0 and lane 0 assigned. -/
def receiving (f : Option RxFrame) : State :=
  let c := liveDesc.descRegs 0
  let s := ((((liveDesc.put F.RAD_STATE_STATE 3).setPageSt P.RFE 2).setPageSt P.CHN 1).setPageSt P.NBD 1)
  { s with slices := { rxSlot0 with desc := some 0, copy := c, stream := some 0, frame := f } :: s.slices.drop 1,
           lanes := { rxSlot0 with desc := some 1, copy := { c with mode := 0x48 }, stream := some 1, frame := f } :: s.lanes.drop 1 }

/-- A reception of a test: synchronised, its block 7. -/
def frame0 : RxFrame := { newFrame (-200) false none with synced := true, blocks := [7] }

/-- A secured-free data frame with an acknowledgement request from extended address 1 to short address 0x1234. -/
def mac0 : MacHdr := ⟨1, 2, false, false, true, some 7, some 0x5678, some (.short 0x1234), none, some (.ext 1), 0, 0, false, false, 0, [], 0, 0, 15, []⟩

/-- Its reception, parsed, with local neighbour entry 5 found. -/
def frameV : RxFrame := { frame0 with header := true, len := 20, fcsLen := 2, mac := some mac0, lookup := .found ⟨5, [1, 0, 0, 0, 0, 65536, 0, 0], none⟩, endAt := 1000000 }

/-- `receiving` with entry words of neighbour 5 valid, in promiscuous mode, contexts with blocks, the acknowledgement function on. -/
def speculating : State :=
  let s := receiving (some frameV)
  let s := ((s.put F.FRM_CFG_PROMISC 1).put F.LNK_CFG_SPEC_EN 1).setEntW 5 5 65536
  { s with lanes := live.lanes, ctxs := (List.range 4).map (fun k => { ctx0 with block := some (100 + k) }) }

/-- A context of a test: busy, passed, for slice 0 and entry 5. -/
def ctxB : AckCtx := { ctx0 with block := some 100, busy := true, unit := .slice 0, index := 5, t0 := 1000000, passed := true }

/-- A timeline with one entry. -/
def withEnt (e : TlEntry) (s : State) : State := { s with timeline := e :: s.timeline.drop 1 }

/-- The words of an absolute RX entry on descriptor 0. -/
def rxWords : List Nat := [5000, 2 * 2 ^ 20, 0, 0, 0, 0, 0, 0]


/-- A device of a cascade at a position, HVL in a state, its ports trained, three devices. -/
def chained (pos st : Nat) : State :=
  let s := (((live.put F.HVL_CFG_EN 1).put F.HVL_STAT_POS pos).setPageSt P.HVL st).put F.NBT_CFG_DEVICES 3
  { s with hvl := { s.hvl with up := { hop0 with up := true }, dn := { hop0 with up := true } } }

/-- A packet of a test. -/
def packet (typ src dst tag : Nat) (bs : List Byte) : Packet :=
  ⟨if src < dst then .up else .dn, 9, packetBytes typ src dst tag true true false bs⟩

/-- A packet that a port keeps until it is acknowledged. -/
def keptPacket (tries : Nat) (w : Bool) : SentPacket := ⟨4, 4, packet 4 0 2 7 [1], tries, w⟩

/-- A flash operation of a test. -/
def flOp0 : FlashOp := ⟨0, 1, 0, 1, 0, .apc, none, 0, true, false, 0, 0⟩

/-- `live` while staging: a directory and a signed manifest whose one part has no target, under a known root key. -/
def stagingSigned : State :=
  let s := (live.put F.UPD_STAT_STATE 1).setMemNat 0x210000 192
    (0x10000000000000000090000000000000000000100015a4e424d * 2 ^ 0 +
    0x6dcd9e437ffd4e383227f668368aafc17ffbf612f85b8d70cae12c74d90730e300000000000000000000000000000000 * 2 ^ 384 +
    0x653cf31514f3e542818b3fff108abd7b3f3ff52bc69f5d4dae8a93aded9388aae4449f1179143a22474cd25ea5e410e5 * 2 ^ 768 +
    0x80e7d485aedd8f6f4ff4e03cbe535fa8653cf31514f3e542818b3fff108abd7b80e7d485aedd8f6f4ff4e03cbe535fa8 * 2 ^ 1152)
  let s := s.setMemNat 0x10000 144
    0x10001000000020000000000000000000000000000000000000000000000000000000000000000000000000000000000000000000000000000abdb625900000000000000005a4e4449
  s.setSec (fun x => { x with otp := x.otp.set 0 0xB1DDF6A24101A6268420E2AC8A359D5F977A10B3FE18A3F8F1A43635D1CFF3CF })

/-- Soft bits of a test: 3 for a 1, -3 for a 0. -/
def softBit (b : Bool) : Soft := if b then 3 else -3

/-- The soft bits of an FAO header symbol that carries given header bits. -/
def softHeader (bits : List Bool) : List Soft :=
  let h := unpair (ConvCode.k7.encode 0 bits)
  (List.range 96).map (fun d => softBit (h.getD ((faoOrder.zipIdx.find? (fun x => x.1 == d)).elim 0 (fun x => x.2)) false))

/-- The soft pairs that carry given bits and the tail that follows them in the code of 07 R187. -/
def softStream (bits : List Bool) : List (Soft × Soft) := (ConvCode.k7.encode 0 (bits ++ List.replicate 6 false)).map (fun p => (softBit p.1, softBit p.2))

/-- `reqOk` refuses an operand outside its range, in every command that has it. -/
theorem test_wf_reqOk :
    ([.busAccess ⟨.apc, 0x20000000, .byte, .write 256⟩, .windowRead ⟨.apc, 0x20000000, .byte, .write 256⟩ [], .windowWrite ⟨.apc, 0x20000000, .byte,
    .write 256⟩] : List Instr).all (fun c => !c.wf) = true := by decide

/-- `pageOk` refuses an operand outside its range, in every command that has it. -/
theorem test_wf_pageOk :
    ([.softReset .apc 256 0, .softResetDone 256, .pageEnable .apc 256 true, .lock .apc 256 true, .irqSet .apc 256 0, .compute .apc 256 0, .latchRef
    .apc 256 0, .sealInterval [256], .sealDone 256] : List Instr).all (fun c => !c.wf) = true := by decide

/-- `agcOk` refuses an operand outside its range, in every command that has it. -/
theorem test_wf_agcOk :
    ([.agcWindowEnd 513 0 true, .agcWindowEnd 100 101 false, .agcWindowEnd 510 5 true, .agcWindowEnd 512 5 false] : List Instr).all (fun c => !c.wf) = true := by decide

/-- `senseOk` refuses an operand outside its range, in every command that has it. -/
theorem test_wf_senseOk :
    ([.tsnRoundEnd ⟨128, 0, 0⟩] : List Instr).all (fun c => !c.wf) = true := by decide

/-- `sliceOk` refuses an operand outside its range, in every command that has it. -/
theorem test_wf_sliceOk :
    ([.preambleDetect 16 0, .syncMatch 16 0 0 0 0, .syncSearchTimeout 16, .headerCheck 16 ⟨0, false, false, false, false, 0, 0⟩] : List Instr).all
    (fun c => !c.wf) = true := by decide

/-- `rxUnitOk` refuses an operand outside its range, in every command that has it. -/
theorem test_wf_rxUnitOk :
    ([.captureSwitch (.lane 4) 0, .rxDataBlock (.lane 4) [], .macHeaderParsed (.lane 4), .rxFrameEnd (.lane 4) ⟨0, 0, 0, []⟩, .frameVerdict (.lane
    4), .segmentRequest (.lane 4) [] true, .softBitOverflow (.lane 4), .speculationStart (.lane 4), .commit (.lane 4), .squash (.lane 4),
    .commitDeadline (.lane 4), .nbtLookupReturn (.lane 4)] : List Instr).all (fun c => !c.wf) = true := by decide

/-- `laneOk` refuses an operand outside its range, in every command that has it. -/
theorem test_wf_laneOk :
    ([.stfDetect 4 0, .ltfEnd 4 0 0, .faoHeaderCheck 4 (.fao [] [])] : List Instr).all (fun c => !c.wf) = true := by decide

/-- `headerOk` refuses an operand outside its range, in every command that has it. -/
theorem test_wf_headerOk :
    ([.faoHeaderCheck 0 (.fao [] [])] : List Instr).all (fun c => !c.wf) = true := by decide

/-- `alarmOk` refuses an operand outside its range, in every command that has it. -/
theorem test_wf_alarmOk :
    ([.alarmHiWrite .apc 8 0, .alarmLoWrite .apc 8 0, .alarmWriteEffect 8, .alarmFire 8] : List Instr).all (fun c => !c.wf) = true := by decide

/-- `timerOk` refuses an operand outside its range, in every command that has it. -/
theorem test_wf_timerOk :
    ([.start 4 .task, .stop 4 .task, .clear 4 .task, .load 4 .apc, .capture 4 0, .wrap 4, .cmp 4 0] : List Instr).all (fun c => !c.wf) = true := by decide

/-- `channelOk` refuses an operand outside its range, in every command that has it. -/
theorem test_wf_channelOk :
    ([.capture 0 4, .cmp 0 4] : List Instr).all (fun c => !c.wf) = true := by decide

/-- `lptOk` refuses an operand outside its range, in every command that has it. -/
theorem test_wf_lptOk :
    ([.lptWrap 2, .lptCmp 2] : List Instr).all (fun c => !c.wf) = true := by decide

/-- `entryOk` refuses an operand outside its range, in every command that has it. -/
theorem test_wf_entryOk :
    ([.entryStart 128, .entryCompletion 128] : List Instr).all (fun c => !c.wf) = true := by decide

/-- `packetOk` refuses an operand outside its range, in every command that has it. -/
theorem test_wf_packetOk :
    ([.hello ⟨.dn, 0, []⟩, .welcome ⟨.dn, 0, []⟩, .time ⟨.dn, 0, []⟩, .hvlLookup ⟨.dn, 0, []⟩, .reply ⟨.dn, 0, []⟩ 0, .verdict ⟨.dn, 0, []⟩, .nbtCmd
    ⟨.dn, 0, []⟩, .nbtRes ⟨.dn, 0, []⟩, .entry ⟨.dn, 0, []⟩, .entryRes ⟨.dn, 0, []⟩, .frame ⟨.dn, 0, []⟩, .fwdAck ⟨.dn, 0, []⟩, .linkDown ⟨.dn, 0,
    []⟩, .commitAt ⟨.dn, 0, []⟩, .packetCrcFail ⟨.dn, 0, []⟩ true 0, .reservedTypePacket ⟨.dn, 0, []⟩] : List Instr).all (fun c => !c.wf) = true := by decide

/-- `laneNoOk` refuses an operand outside its range, in every command that has it. -/
theorem test_wf_laneNoOk :
    ([.packetCrcFail ⟨.dn, 1, List.replicate 6 0⟩ true 2] : List Instr).all (fun c => !c.wf) = true := by decide

/-- `streamOk` refuses an operand outside its range, in every command that has it. -/
theorem test_wf_streamOk :
    ([.securityRequest (.ack 4)] : List Instr).all (fun c => !c.wf) = true := by decide

/-- `slotOk` refuses an operand outside its range, in every command that has it. -/
theorem test_wf_slotOk :
    ([.setAttr .apc 4096, .eraseKey .apc 4096, .importKey .apc 4096, .exportKey .apc 4096, .readAttr .apc 4096, .otpWrite .apc 4096] : List
    Instr).all (fun c => !c.wf) = true := by decide

/-- `nonceOk` refuses an operand outside its range, in every command that has it. -/
theorem test_wf_nonceOk :
    ([.dbgChal [1]] : List Instr).all (fun c => !c.wf) = true := by decide

/-- `mboxOk` refuses an operand outside its range, in every command that has it. -/
theorem test_wf_mboxOk :
    ([.mboxTx .apc 6 0, .mboxRx .apc 6] : List Instr).all (fun c => !c.wf) = true := by decide

/-- `hartOk` refuses an operand outside its range, in every command that has it. -/
theorem test_wf_hartOk :
    ([.debugHalt 2, .debugResume 2] : List Instr).all (fun c => !c.wf) = true := by decide

/-- `portOk` refuses an operand outside its range, in every command that has it. -/
theorem test_wf_portOk :
    ([.qtx .apc 4 0, .qrx .apc 4, .flush .apc 4, .sptRelease .apc 4, .queueWordDone 4 0, .holdExpired 4, .slaveWord 4 ⟨0, 0⟩, .shortWord 4,
    .writeBufferFlush 4, .statusPoll 4 0, .pollTimeout 4] : List Instr).all (fun c => !c.wf) = true := by decide

/-- `lineOk` refuses an operand outside its range, in every command that has it. -/
theorem test_wf_lineOk :
    ([.windowRead ⟨.apc, 0x10000000, .word, .read⟩ (List.replicate 33 0), .lineFillDone (List.replicate 33 0)] : List Instr).all (fun c => !c.wf) = true := by decide

/-- `taskOk` refuses an operand outside its range, in every command that has it. -/
theorem test_wf_taskOk :
    ([.taskTrigger 512] : List Instr).all (fun c => !c.wf) = true := by decide

/-- `pinOk` refuses an operand outside its range, in every command that has it. -/
theorem test_wf_pinOk :
    ([.pinEvt 32 true, .gpioInt 32 true] : List Instr).all (fun c => !c.wf) = true := by decide

/-- `sourceOk` refuses an operand outside its range, in every command that has it. -/
theorem test_wf_sourceOk :
    ([.entryAborted [0x1C], .wake [0x1C]] : List Instr).all (fun c => !c.wf) = true := by decide

/-- `wakePinOk` refuses an operand outside its range, in every command that has it. -/
theorem test_wf_wakePinOk :
    ([.wakePin 8 true] : List Instr).all (fun c => !c.wf) = true := by decide

/-- `bankOk` refuses an operand outside its range, in every command that has it. -/
theorem test_wf_bankOk :
    ([.bankClearDone 58] : List Instr).all (fun c => !c.wf) = true := by decide

/-- `strapOk` refuses an operand outside its range, in every command that has it. -/
theorem test_wf_strapOk :
    ([.por true 8, .bor true 8, .pin 8, .softChip .apc ⟨0, 8⟩, .wdt 8, .updateFallback 8] : List Instr).all (fun c => !c.wf) = true := by decide

/-- `lanesOk` refuses an operand outside its range, in every command that has it. -/
theorem test_wf_lanesOk :
    ([.retrainDone .up 4] : List Instr).all (fun c => !c.wf) = true := by decide

/-- `roundOk` refuses an operand outside its range, in every command that has it. -/
theorem test_wf_roundOk :
    ([.txSequenceStart (some ⟨128, 0, 0⟩), .rcpSenseSample (some ⟨128, 0, 0⟩)] : List Instr).all (fun c => !c.wf) = true := by decide

/-- `unitOk` refuses an operand outside its range, in every command that has it. -/
theorem test_wf_unitOk :
    ([.fault ⟨65536, .transient, 0⟩, .retry 65536 true, .retire .apc 65536, .unretire .apc 65536, .clearCount .apc 65536, .rewrite .apc 65536, .test
    .apc 65536] : List Instr).all (fun c => !c.wf) = true := by decide

/-- A state and operands that meet the clause on busAccess of `Obligations.BusAccessToSramCompletes`. -/
theorem witness_busAccess : (
  let s : State := live.setMemNat 0x20000010 4 0x12345678
  let r : BusReq := ⟨.apc, 0x20000012, .half, .read⟩
  s.canonical && s.admits r && regionOf (lastByte r) == .apcSram && !s.rangeBad r.addr.toNat (sizeBytes r.size) &&
  (match exec (.busAccess r) s with
   | .next t => t.out.get .apc == ⟨0x1234, .ok⟩
   | _ => false)) = true := by decide +kernel

/-- A state and operands that meet the clause on busAccess of `Obligations.BusAccessToSramCompletes`. -/
theorem witness_busAccess_2 : (
  let s : State := live
  let r : BusReq := ⟨.apc, 0x2000001F, .byte, .write 0xAB⟩
  s.canonical && s.admits r && regionOf (lastByte r) == .apcSram && !s.partialBad r.addr.toNat (sizeBytes r.size) &&
  (match exec (.busAccess r) s with
   | .next t => t.byte 0x2000001F == 0xAB && t.byte 0x20000020 == 0
   | _ => false)) = true := by decide +kernel

/-- A state and operands that meet the clause on pageEnable of `Obligations.PageControlCommandsComplete`. -/
theorem witness_pageEnable : (
  let s : State := live
  s.canonical && s.admits (writeReq .apc (Reg.PAGE_CTRL P.WDT) (BitVec.ofNat 32 (boolNat false))) && !s.on (F.PAGE_STAT_UNDER_TEST P.WDT) &&
    !s.locked P.WDT &&
  (match exec (.pageEnable .apc P.WDT false) s with
   | .next t => !t.enabled P.WDT
   | _ => false)) = true := by decide +kernel

/-- A state and operands that meet the clause on lock of `Obligations.PageControlCommandsComplete`. -/
theorem witness_lock : (
  let s : State := live
  s.canonical && s.admits (writeReq .apc (Reg.PAGE_CTRL P.WDT) (BitVec.ofNat 32 (4 + boolNat (s.enabled P.WDT)))) &&
    !s.on (F.PAGE_STAT_UNDER_TEST P.WDT) && !s.locked P.WDT &&
  (match exec (.lock .apc P.WDT (s.enabled P.WDT)) s with
   | .next t => t.locked P.WDT
   | _ => false)) = true := by decide +kernel

/-- A state and operands that meet the clause on irqSet of `Obligations.PageControlCommandsComplete`. -/
theorem witness_irqSet : (
  let s : State := live
  s.canonical && s.admits (writeReq .apc (Reg.IRQ_SET P.WDT) 0x80000001) &&
  (match exec (.irqSet .apc P.WDT 0x80000001) s with
   | .next t => t.reg (Reg.IRQ_RAW P.WDT) == 0x80000001
   | _ => false)) = true := by decide +kernel

/-- A state and operands that meet the clause on softReset of `Obligations.ResetAndClearCommandsComplete`. -/
theorem witness_softReset : (
  let s : State := live
  s.canonical && s.admits (writeReq .apc (Reg.PAGE_CTRL P.GPIO) (withBits 1 1 1 1)) && !s.on (F.PAGE_STAT_UNDER_TEST P.GPIO) &&
    !s.locked P.GPIO && s.enabled P.GPIO && decide (P.GPIO < s.pages.length) &&
  (match exec (.softReset .apc P.GPIO 1) s with
   | .next t => (t.page P.GPIO).resetting
   | _ => false)) = true := by decide +kernel

/-- A state and operands that meet the clause on softReset of `Obligations.ResetAndClearCommandsComplete`. -/
theorem witness_softReset_2 : (
  let s : State := (live.setReg Reg.RRP_CFG 0x1F)
  s.canonical && s.admits (writeReq .apc (Reg.PAGE_CTRL P.RRP) (withBits 1 1 1 1)) && !s.on (F.PAGE_STAT_UNDER_TEST P.RRP) && !s.locked P.RRP &&
    s.enabled P.RRP && decide (P.RRP < s.pages.length) &&
  (match exec (.softReset .apc P.RRP 1) s with
   | .next t => t.reg Reg.RRP_CFG == resetOf Reg.RRP_CFG
   | _ => false)) = true := by decide +kernel

/-- A state and operands that meet the clause on softResetDone of `Obligations.ResetAndClearCommandsComplete`. -/
theorem witness_softResetDone : (
  let s : State := live.setPage P.GPIO { (live.page P.GPIO) with resetting := true }
  (s.page P.GPIO).resetting && decide (P.GPIO < s.pages.length) && s.stalled.isEmpty &&
  (match exec (.softResetDone P.GPIO) s with
   | .next t => !(t.page P.GPIO).resetting
   | _ => false)) = true := by decide +kernel

/-- A state and operands that meet the clause on bankClearDone of `Obligations.ResetAndClearCommandsComplete`. -/
theorem witness_bankClearDone : (
  let s : State := { live with pwr := { live.pwr with clearing := [3] } }
  s.pwr.clearing.contains 3 && s.stalled.isEmpty &&
  (match exec (.bankClearDone 3) s with
   | .next t => !t.pwr.clearing.contains 3
   | _ => false)) = true := by decide +kernel

/-- A state and operands that meet the clause on compute of `Obligations.SealCommandsComplete`. -/
theorem witness_compute : (
  let s : State := live
  s.canonical && s.admits (writeReq .apc (Reg.SEAL_CTRL P.WDT) (withBits 0 0 1 1)) && (s.page P.WDT).run.isNone && decide (P.WDT < s.pages.length) &&
  (match exec (.compute .apc P.WDT 0) s with
   | .next t => (t.page P.WDT).run.isSome
   | _ => false)) = true := by decide +kernel

/-- A state and operands that meet the clause on latchRef of `Obligations.SealCommandsComplete`. -/
theorem witness_latchRef : (
  let s : State := live.setReg (Reg.SEAL P.WDT) 0x1234
  s.canonical && s.admits (writeReq .apc (Reg.SEAL_CTRL P.WDT) (withBits 0 3 1 1)) && decide (P.WDT < s.pages.length) &&
  (match exec (.latchRef .apc P.WDT 0) s with
   | .next t => (t.page P.WDT).reference == 0x1234
   | _ => false)) = true := by decide +kernel

/-- A state and operands that meet the clause on sealInterval of `Obligations.SealCommandsComplete`. -/
theorem witness_sealInterval : (
  let s : State := live.put (F.SEAL_CTRL_PERIODIC P.WDT) 1
  s.canonical && pagePresent s.variant P.WDT && s.pageOn P.WDT && s.on (F.SEAL_CTRL_PERIODIC P.WDT) && (s.page P.WDT).run.isNone &&
    decide (P.WDT < s.pages.length) &&
  (match exec (.sealInterval [P.WDT]) s with
   | .next t => (t.page P.WDT).run.isSome
   | _ => false)) = true := by decide +kernel

/-- A state and operands that meet the clause on sealDone of `Obligations.SealCommandsComplete`. -/
theorem witness_sealDone : (
  let s : State := live.setPage P.WDT { (live.page P.WDT) with run := some ⟨live.sealWords P.WDT, false⟩ }
  s.canonical && (s.page P.WDT).run == some ⟨s.sealWords P.WDT, false⟩ && !(s.page P.WDT).held && !s.on (F.SEAL_CTRL_CHECK_EN P.WDT) &&
    decide (P.WDT < s.pages.length) &&
  (match exec (.sealDone P.WDT) s with
   | .next t => (t.page P.WDT).run.isNone && t.get (F.SEAL_CTRL_DONE P.WDT) == 1
   | _ => false)) = true := by decide +kernel

/-- States and operands that meet the clauses of `Obligations.ReceiverEventsComplete` on scsSettled, scsUnlock, scsRelock, and what comes of them. -/
theorem witness_ReceiverEventsComplete_1 : (
  (
   let s : State := State.reset.put F.SYN_SCS_STAT_SETTLING 1
   decide (s.canonical = true) && decide (s.on F.SYN_SCS_STAT_SETTLING = true) && decide (s.retryOf uRx = 0) &&
     (match exec .scsSettled s with
      | .next t => decide (t.on F.SYN_SCS_STAT_LOCK = true) && decide (t.on F.SYN_SCS_STAT_SETTLING = false) &&
        decide (t.get F.SYN_SCS_STAT_PENDING = boolNat (s.scsWanted != s.scsActive))
      | _ => false)) &&
  (
   let s : State := (State.reset.put F.SYN_SCS_STAT_LOCK 1).setPageSt P.RFE 2
   decide (s.canonical = true) && decide (s.on F.SYN_SCS_STAT_LOCK = true) && decide (s.radio.whiff = none) &&
     (match exec .scsUnlock s with
      | .next t => decide (t.on F.SYN_SCS_STAT_LOCK = false) && decide (t.on F.SYN_SCS_STAT_SETTLING = true) && decide ((s.rxRunning = true →
        t.pageSt P.RFE = 4)) && decide ((s.rxRunning = false → t.retryOf uRx = 1 ∧ t.radio = s.radio))
      | _ => false)) &&
  (
   let s : State := (State.reset.setPageSt P.RFE 4).setRetry uRx 1
   let ok : Bool := true
   decide (s.canonical = true) && decide (s.retryOf uRx = 1) &&
     (match exec (.scsRelock ok) s with
      | .next t => decide ((ok = true → t.on F.SYN_SCS_STAT_LOCK = true ∧ t.on F.SYN_SCS_STAT_SETTLING = false ∧ t.retryOf uRx = 0 ∧
        (s.pageSt P.RFE = 4 → t.pageSt P.RFE = 2))) && decide ((ok = false → 1 < s.get F.FLT_CFG_RETRY_MAX → t.retryOf uRx = 2 ∧
        t.get F.SYN_SCS_STAT_LOCK = s.get F.SYN_SCS_STAT_LOCK))
      | _ => false))) = true := by decide +kernel

/-- States and operands that meet the clauses of `Obligations.ReceiverEventsComplete` on agcWindowEnd, agcHoldExpiry, receiverRunning, and what comes
of them. -/
theorem witness_ReceiverEventsComplete_2 : (
  (
   let s : State := ((State.reset.setPageSt P.RFE 2).put F.RFE_GAIN_STAT_GAIN_IDX 20)
   let peak : Nat := 500
   let rms : Nat := 100
   let clipped : Bool := false
   decide (s.canonical = true) && decide (s.pageSt P.RFE ≠ 0) &&
     (match exec (.agcWindowEnd peak rms clipped) s with
      | .next t => decide (t.get F.RFE_ADC_LEVEL_PEAK = min peak 512) && decide (t.get F.RFE_ADC_LEVEL_RMS = min rms (min peak 512)) &&
        decide (t.get F.RFE_GAIN_STAT_CLIP = boolNat (decide (512 ≤ peak) || (decide (peak = 511) && clipped))) &&
        decide (t.rfe.ctrl = (s.reg Reg.RFE_AGC_CTRL).toNat) && decide ((s.agcHeld = false → s.get F.RFE_AGC_CTRL_MODE = 0 → peak < 511 →
        peakReaches peak (s.get F.RFE_AGC_CTRL_HI_THR) = true →
         t.get F.RFE_GAIN_STAT_GAIN_IDX = s.get F.RFE_GAIN_STAT_GAIN_IDX -
           min (agcSteps peak (s.get F.RFE_AGC_CTRL_HI_THR + 6)) (max 1 (s.get F.RFE_AGC_TIME_ATTACK_MAX)))) && decide ((s.agcHeld = false →
           s.get F.RFE_AGC_CTRL_MODE = 0 → 512 ≤ peak →
         t.get F.RFE_GAIN_STAT_GAIN_IDX = s.get F.RFE_GAIN_STAT_GAIN_IDX -
           min (agcSteps 512 (s.get F.RFE_AGC_CTRL_HI_THR + 6)) (max 1 (s.get F.RFE_AGC_TIME_ATTACK_MAX)))) && decide ((s.agcHeld = true →
           t.get F.RFE_GAIN_STAT_GAIN_IDX = s.get F.RFE_GAIN_STAT_GAIN_IDX)) && decide ((s.agcHeld = false → s.get F.RFE_AGC_CTRL_MODE = 2 →
           t.get F.RFE_GAIN_STAT_GAIN_IDX = s.get F.RFE_AGC_CTRL_MAN_GAIN))
      | _ => false)) &&
  (
   let s : State := { (State.reset.setPageSt P.RFE 2).put F.RFE_GAIN_STAT_GAIN_IDX 5 with rfe := { State.reset.rfe with low := true }, count := usTicks 1000 }
   decide (s.canonical = true) && decide (s.pageSt P.RFE ≠ 0) && decide (s.rfe.low = true) && decide (s.rfe.ctrl % 4 = 0) &&
    decide (s.agcHeld = false) && decide (s.get F.RFE_GAIN_STAT_GAIN_IDX < 31) &&
    decide (usTicks (max 1 (bitsOf s.rfe.time 8 8)) ≤ subTicks s.count s.rfe.holdAt) &&
     (match exec .agcHoldExpiry s with
      | .next t => decide (t.get F.RFE_GAIN_STAT_GAIN_IDX = s.get F.RFE_GAIN_STAT_GAIN_IDX + 1) &&
        decide (t.get F.RFE_GAIN_STAT_CHANGES = (s.get F.RFE_GAIN_STAT_CHANGES + 1) % 2 ^ F.RFE_GAIN_STAT_CHANGES.width) &&
        decide (t.rfe.low = false) && decide (t.rfe.holdAt = s.count)
      | _ => false)) &&
  (
   let s : State := (State.reset.setPageSt P.RFE 1).put F.SYN_SCS_STAT_LOCK 1
   decide (s.canonical = true) && decide (s.pageSt P.RFE = 1) && decide (s.on F.SYN_SCS_STAT_LOCK = true) &&
     (match exec .receiverRunning s with
      | .next t => decide (t.pageSt P.RFE = 2) && decide (t.mem = s.mem) && decide (t.radio = s.radio)
      | _ => false))) = true := by decide +kernel

/-- States and operands that meet the clauses of `Obligations.WhiffAndCarrierEventsComplete` on whiffCaptureStart, whiffCaptureEnd, and what comes of
them (of whiffCaptureStart the hypotheses only: a free value or a long computation stands in the result). -/
theorem witness_WhiffAndCarrierEventsComplete_1 : (
  (
   let s : State := { State.reset.setPageSt P.RFE 2 with radio := { State.reset.radio with whiff := some (⟨1, [], 0, 0, false, false, false, false, ⟨.software 0, 7, 0, 0, 0, 0, 0, false, 0, false, none⟩, 0, 0, 0⟩ : Whiff) } }
   let w : Whiff := (⟨1, [], 0, 0, false, false, false, false, ⟨.software 0, 7, 0, 0, 0, 0, 0, false, 0, false, none⟩, 0, 0, 0⟩ : Whiff)
   decide (s.canonical = true) && decide (s.radio.whiff = some w) && decide (w.capturing = false) && decide (w.captured = false) &&
    decide (s.pageSt P.RFE = 2) && decide (s.on F.RAD_STATE_BLANK = false) && decide (s.owners.length = 512) && decide (5 ≤ s.freeCount)) &&
  (
   let s : State := { State.reset.setPageSt P.RFE 2 with owners := List.replicate 512 .software, radio := { State.reset.radio with whiff := some (⟨1, [], 0, 0, false, false, false, false, ⟨.software 0, 7, 0, 0, 0, 0, 0, false, 0, false, none⟩, 0, 0, 0⟩ : Whiff) } }
   let w : Whiff := (⟨1, [], 0, 0, false, false, false, false, ⟨.software 0, 7, 0, 0, 0, 0, 0, false, 0, false, none⟩, 0, 0, 0⟩ : Whiff)
   decide (s.canonical = true) && decide (s.radio.whiff = some w) && decide (w.capturing = false) && decide (w.captured = false) &&
    decide (w.fromIdle = false) && decide (s.pageSt P.RFE = 2) && decide (s.on F.RAD_STATE_BLANK = false) && decide (s.freeCount < 5) &&
    decide (s.owners.length = 512) &&
     (match exec .whiffCaptureStart s with
      | .next t => decide (t.radio.whiff = none) && decide (t.get F.RFE_WHIFF_STAT_NOBUF = 1)
      | _ => false)) &&
  (
   let s : State := { State.reset.setPageSt P.RFE 3 with radio := { State.reset.radio with whiff := some (⟨1, [], 0, 9, false, true, false, false, ⟨.software 0, 7, 0, 0, 0, 0, 0, false, 0, false, none⟩, 0, 7, 0⟩ : Whiff) } }
   let w : Whiff := (⟨1, [], 0, 9, false, true, false, false, ⟨.software 0, 7, 0, 0, 0, 0, 0, false, 0, false, none⟩, 0, 7, 0⟩ : Whiff)
   let clipped : Bool := true
   decide (s.canonical = true) && decide (s.radio.whiff = some w) && decide (w.capturing = true) &&
     (match exec (.whiffCaptureEnd clipped) s with
      | .next t => decide (t.radio = { s.radio with whiff := some { w with capturing := false, captured := true, clip := clipped } }) &&
        decide (t.pageSt P.RFE = 2) && decide ((w.before < 32 → t.get F.RFE_GAIN_STAT_GAIN_IDX = w.before))
      | _ => false))) = true := by decide +kernel

/-- States and operands that meet the clauses of `Obligations.WhiffAndCarrierEventsComplete` on whiffDone, crsLock, crsUnlock, crsRelock, and what
comes of them. -/
theorem witness_WhiffAndCarrierEventsComplete_2 : (
  (
   let s : State := { State.reset.setPageSt P.RFE 2 with owners := List.replicate 512 .receive, radio := { State.reset.radio with whiff := some (⟨0, [3, 4, 5, 6, 7], 0, 0, true, false, true, false, ⟨.software 0, 7, 0, 0, 0, 0, 0, false, 0, false, none⟩, 0, 0, 0⟩ : Whiff) } }
   let w : Whiff := (⟨0, [3, 4, 5, 6, 7], 0, 0, true, false, true, false, ⟨.software 0, 7, 0, 0, 0, 0, 0, false, 0, false, none⟩, 0, 0, 0⟩ : Whiff)
   let bins : List Half := []
   let descs : List (Byte × Half) := []
   decide (s.canonical = true) && decide (s.radio.whiff = some w) && decide (w.captured = true) && decide (w.fromIdle = false) &&
    decide ((∀ b ∈ w.blocks, b < s.owners.length)) &&
     (match exec (.whiffDone bins descs) s with
      | .next t => decide (t.radio.whiff = none) && decide (t.get F.RFE_WHIFF_STAT_VALID = 1) &&
        decide (t.get F.RFE_WHIFF_STAT_HEAD = w.blocks.headD 0 % 512) && decide (t.get F.RFE_WHIFF_STAT_CLIP = boolNat w.clip) &&
        decide ((∀ b ∈ w.blocks, t.owner b = Owner.software))
      | _ => false)) &&
  (
   let s : State := State.reset.put F.SYN_CRS_STAT_SETTLING 1
   decide (s.canonical = true) && decide (s.on F.SYN_CRS_STAT_SETTLING = true) && decide (s.retryOf uCrs = 0) &&
     (match exec .crsLock s with
      | .next t => decide (t.on F.SYN_CRS_STAT_LOCK = true) && decide (t.on F.SYN_CRS_STAT_SETTLING = false)
      | _ => false)) &&
  (
   let s : State := State.reset.put F.SYN_CRS_STAT_LOCK 1
   decide (s.canonical = true) && decide (s.on F.SYN_CRS_STAT_LOCK = true) &&
     (match exec .crsUnlock s with
      | .next t => decide (t.on F.SYN_CRS_STAT_LOCK = false) && decide (t.on F.SYN_CRS_STAT_SETTLING = true) && decide (t.retryOf uCrs = 1)
      | _ => false)) &&
  (
   let s : State := (State.reset.put F.SYN_CRS_STAT_SETTLING 1).setRetry uCrs 1
   let ok : Bool := true
   decide (s.canonical = true) && decide (s.retryOf uCrs = 1) &&
     (match exec (.crsRelock ok) s with
      | .next t => decide ((ok = true → t.on F.SYN_CRS_STAT_LOCK = true ∧ t.on F.SYN_CRS_STAT_SETTLING = false ∧ t.retryOf uCrs = 0)) &&
        decide ((ok = false → 1 < s.get F.FLT_CFG_RETRY_MAX → t.retryOf uCrs = 2 ∧ t.get F.SYN_CRS_STAT_LOCK = s.get F.SYN_CRS_STAT_LOCK))
      | _ => false))) = true := by decide +kernel

/-- States and operands that meet the clauses of `Obligations.StateCommandsComplete` on idle, armRx, cal, and what comes of them. -/
theorem witness_StateCommandsComplete_1 : (
  (
   let s : State := liveDesc
   let i : Initiator := .apc
   let w : Word := 0
   let r : RegRow := rowAt P.RAD 0x100
   decide (s.cmdTaken i (withBits w 0 4 0) r = true) && decide (s.canonical = true) &&
    decide ((s.cmdSeen i (withBits w 0 4 0) r).judgedBy 0 = 1) && decide ((s.cmdSeen i (withBits w 0 4 0) r).radio.follow = none) &&
     (match exec (.idle i w) s with
      | .next t => decide (t.get F.RAD_CMD_STAT_STATUS = 1) && decide (t.get F.RAD_CMD_STAT_FINAL = 1) && decide (t.radio.op = s.radio.op)
      | _ => false)) &&
  (
   let s : State := (liveDesc.put F.RAD_STATE_STATE 2).setPageSt P.RFE 2
   let i : Initiator := .apc
   let w : Word := 0
   let r : RegRow := rowAt P.RAD 0x100
   decide (s.cmdTaken i (withBits w 0 4 0) r = true) && decide (s.canonical = true) &&
    decide ((s.cmdSeen i (withBits w 0 4 0) r).judgedBy 0 = 2 ∨ (s.cmdSeen i (withBits w 0 4 0) r).judgedBy 0 = 3 ∨ (s.cmdSeen i (withBits w 0 4 0)
    r).judgedBy 0 = 4) &&
     (match exec (.idle i w) s with
      | .next t => decide (t.on F.RAD_STATE_MOVING = true) && decide (t.get F.RAD_STATE_TARGET = 1)
      | _ => false)) &&
  (
   let s : State := liveDesc.put F.RAD_STATE_STATE 0
   let i : Initiator := .apc
   let w : Word := 0
   let r : RegRow := rowAt P.RAD 0x100
   decide (s.cmdTaken i (withBits w 0 4 0) r = true) && decide (s.canonical = true) &&
    decide ((s.cmdSeen i (withBits w 0 4 0) r).judgedBy 0 = 0) &&
    decide (([0, 1, 6].any (fun e => ((s.cmdSeen i (withBits w 0 4 0) r).eng.getD e eng0).failed)) = false) &&
     (match exec (.idle i w) s with
      | .next t => decide (t.on F.RAD_STATE_MOVING = true) && decide (t.get F.RAD_STATE_TARGET = 1) &&
        decide (t.radio.op = some (s.cmdGiven i (withBits w 0 4 0) r)) &&
        decide (((s.cmdSeen i (withBits w 0 4 0) r).on F.CLK_STAT_HFXO_OK = false → t.pwr.hfxoReq = true ∧ t.radio.hfxoWait = true))
      | _ => false)) &&
  (
   let s : State := liveDesc
   let i : Initiator := .apc
   let w : Word := 0
   let r : RegRow := rowAt P.RAD 0x100
   decide (s.cmdTaken i (withBits w 0 4 1) r = true) && decide (s.canonical = true) &&
    decide ((s.cmdSeen i (withBits w 0 4 1) r).judgedBy 1 = 1 ∨ (s.cmdSeen i (withBits w 0 4 1) r).judgedBy 1 = 3 ∨ (s.cmdSeen i (withBits w 0 4 1)
    r).judgedBy 1 = 4) &&
     (match exec (.armRx i w) s with
      | .next t => decide (t.on F.RAD_STATE_MOVING = true) && decide (t.get F.RAD_STATE_TARGET = 2)
      | _ => false)) &&
  (
   let s : State := liveDesc.put F.RAD_CMD_ARG_ARG 3
   let i : Initiator := .apc
   let w : Word := 0
   let r : RegRow := rowAt P.RAD 0x100
   decide (s.cmdTaken i (withBits w 0 4 6) r = true) && decide (s.canonical = true) &&
    decide ((s.cmdSeen i (withBits w 0 4 6) r).radioState = 1) && decide ((s.cmdSeen i (withBits w 0 4 6) r).on F.RAD_STATE_MOVING = false) &&
     (match exec (.cal i w) s with
      | .next t => decide (t.radioState = 6) && decide (t.on F.RAD_STATE_MOVING = false) && decide (t.on F.RAD_CAL_STAT_RUNNING = true) &&
        decide (t.radio.cal = some (⟨(s.cmdGiven i (withBits w 0 4 6) r).arg % 64, (s.cmdGiven i (withBits w 0 4 6) r).src⟩ : CalRun)) &&
        decide (t.radio.op = some (s.cmdGiven i (withBits w 0 4 6) r)) && decide (t.get F.SYN_CRS_STAT_LOCK = 0)
      | _ => false))) = true := by decide +kernel

/-- States and operands that meet the clauses of `Obligations.StateCommandsComplete` on cal, pretune, abort, off, and what comes of them. -/
theorem witness_StateCommandsComplete_2 : (
  (
   let s : State := (((liveDesc.put F.RAD_CMD_ARG_ARG 3).put F.RAD_STATE_STATE 0).put F.RAD_STATE_MOVING 1).put F.RAD_STATE_TARGET 1
   let i : Initiator := .apc
   let w : Word := 0
   let r : RegRow := rowAt P.RAD 0x100
   decide (s.cmdTaken i (withBits w 0 4 6) r = true) && decide (s.canonical = true) &&
    decide (¬((s.cmdSeen i (withBits w 0 4 6) r).radioState = 1 ∧ (s.cmdSeen i (withBits w 0 4 6) r).on F.RAD_STATE_MOVING = false)) &&
     (match exec (.cal i w) s with
      | .next t => decide (t.on F.RAD_STATE_MOVING = true) && decide (t.get F.RAD_STATE_TARGET = 6) &&
        decide (t.radio.cal = some (⟨(s.cmdGiven i (withBits w 0 4 6) r).arg % 64, (s.cmdGiven i (withBits w 0 4 6) r).src⟩ : CalRun)) &&
        decide (t.radio.op = some (s.cmdGiven i (withBits w 0 4 6) r))
      | _ => false)) &&
  (
   let s : State := liveDesc
   let i : Initiator := .apc
   let w : Word := 0
   let r : RegRow := rowAt P.RAD 0x100
   decide (s.cmdTaken i (withBits w 0 4 8) r = true) && decide (s.canonical = true) &&
    decide ((s.cmdSeen i (withBits w 0 4 8) r).judgedBy 8 = 1) && decide ((s.cmdSeen i (withBits w 0 4 8) r).crs.reserved = []) &&
    decide (inTxBand ((s.cmdSeen i (withBits w 0 4 8) r).txFreq ((s.cmdSeen i (withBits w 0 4 8) r).descRegs (s.cmdGiven i (withBits w 0 4 8)
    r).desc).freq) = true) &&
     (match exec (.pretune i w) s with
      | .next t => decide (t.on F.RAD_STATE_MOVING = true) && decide (t.get F.RAD_STATE_TARGET = 4) &&
        decide (t.radio.op = some (s.cmdGiven i (withBits w 0 4 8) r)) &&
        decide (t.crs.chan = some ((s.cmdSeen i (withBits w 0 4 8) r).descRegs (s.cmdGiven i (withBits w 0 4 8) r).desc).freq) &&
        decide (t.on F.SYN_CRS_STAT_SETTLING = true) && decide (t.on F.SYN_CRS_STAT_LOCK = false) &&
        decide ((t.get F.SYN_CRS_FREQ_FREQ_HZ : Int) = (s.cmdSeen i (withBits w 0 4 8) r).txFreq ((s.cmdSeen i (withBits w 0 4 8) r).descRegs
        (s.cmdGiven i (withBits w 0 4 8) r).desc).freq)
      | _ => false)) &&
  (
   let s : State := (liveDesc.put F.RAD_STATE_STATE 3).setPageSt P.RFE 2
   let i : Initiator := .apc
   let w : Word := 0
   let r : RegRow := rowAt P.RAD 0x100
   decide (s.cmdTaken i (withBits w 0 4 9) r = true) && decide (s.canonical = true) &&
    decide ((s.cmdSeen i (withBits w 0 4 9) r).judgedBy 9 = 3) && decide ((s.cmdSeen i (withBits w 0 4 9) r).ackCommitted = false) &&
    decide ((s.cmdSeen i (withBits w 0 4 9) r).judged = 3) &&
     (match exec (.abort i w) s with
      | .next t => decide (t.on F.RAD_STATE_MOVING = true) && decide (t.get F.RAD_STATE_TARGET = 1) &&
        decide (t.radio.op = some (s.cmdGiven i (withBits w 0 4 9) r)) && decide (t.radio.queue = none) && decide (t.radio.tslot = none)
      | _ => false)) &&
  (
   let s : State := liveDesc
   let i : Initiator := .apc
   let w : Word := 0
   let r : RegRow := rowAt P.RAD 0x100
   decide (s.cmdTaken i (withBits w 0 4 10) r = true) && decide (s.canonical = true) &&
    decide ((s.cmdSeen i (withBits w 0 4 10) r).judgedBy 10 = 1) &&
     (match exec (.off i w) s with
      | .next t => decide (t.on F.RAD_STATE_MOVING = true) && decide (t.get F.RAD_STATE_TARGET = 0) &&
        decide (t.radio.op = some (s.cmdGiven i (withBits w 0 4 10) r)) && decide (t.get F.RAD_CMD_STAT_STATUS = 0) &&
        decide (t.get F.RAD_CMD_STAT_FINAL = 0)
      | _ => false)) &&
  (
   let s : State := liveDesc.put F.RAD_STATE_STATE 0
   let i : Initiator := .apc
   let w : Word := 0
   let r : RegRow := rowAt P.RAD 0x100
   decide (s.cmdTaken i (withBits w 0 4 10) r = true) && decide (s.canonical = true) &&
    decide ((s.cmdSeen i (withBits w 0 4 10) r).judgedBy 10 = 0) &&
     (match exec (.off i w) s with
      | .next t => decide (t.get F.RAD_CMD_STAT_STATUS = 1) && decide (t.get F.RAD_CMD_STAT_FINAL = 1) && decide (t.radioState = s.radioState)
      | _ => false))) = true := by decide +kernel

/-- States and operands that meet the clauses of `Obligations.ReceiveAndTransmitCommandsComplete` on rx, rxMulti, and what comes of them. -/
theorem witness_ReceiveAndTransmitCommandsComplete_1 : (
  (
   let s : State := liveDesc
   let i : Initiator := .apc
   let w : Word := 0
   let r : RegRow := rowAt P.RAD 0x100
   let plan : List (Nat × RxUnit) := [(0, .slice 0)]
   decide (s.cmdTaken i (withBits w 0 4 2) r = true) && decide (s.canonical = true) &&
    decide ((s.cmdSeen i (withBits w 0 4 2) r).judgedBy 2 = 1) &&
    decide ((opDescs (s.cmdGiven i (withBits w 0 4 2) r)).all (fun d => (s.cmdSeen i (withBits w 0 4 2) r).descReason d == 0) = true) &&
    decide ((s.cmdSeen i (withBits w 0 4 2) r).assign (opDescs (s.cmdGiven i (withBits w 0 4 2) r)) = .inr plan) &&
     (match exec (.rx i w) s with
      | .next t => decide (t.on F.RAD_STATE_MOVING = true) && decide (t.get F.RAD_STATE_TARGET = 3) && decide (t.get F.RAD_CMD_STAT_STATUS = 0) &&
        decide (t.get F.RAD_CMD_STAT_FINAL = 0) && decide (t.radio.op = some (s.cmdGiven i (withBits w 0 4 2) r))
      | _ => false)) &&
  (
   let s : State := liveDesc.setReg Reg.RAD_RX_MASK_LO 1
   let i : Initiator := .apc
   let w : Word := 0
   let r : RegRow := rowAt P.RAD 0x100
   let plan : List (Nat × RxUnit) := [(0, .slice 0)]
   decide (s.cmdTaken i (withBits w 0 4 3) r = true) && decide (s.canonical = true) &&
    decide ((s.cmdSeen i (withBits w 0 4 3) r).judgedBy 3 = 1) &&
    decide ((opDescs (s.cmdGiven i (withBits w 0 4 3) r)).all (fun d => (s.cmdSeen i (withBits w 0 4 3) r).descReason d == 0) = true) &&
    decide ((s.cmdSeen i (withBits w 0 4 3) r).assign (opDescs (s.cmdGiven i (withBits w 0 4 3) r)) = .inr plan) &&
     (match exec (.rxMulti i w) s with
      | .next t => decide (t.on F.RAD_STATE_MOVING = true) && decide (t.get F.RAD_STATE_TARGET = 3) && decide (t.get F.RAD_CMD_STAT_STATUS = 0) &&
        decide (t.get F.RAD_CMD_STAT_FINAL = 0) && decide (t.radio.op = some (s.cmdGiven i (withBits w 0 4 3) r))
      | _ => false)) &&
  (
   let s : State := liveDesc.setReg Reg.RAD_RX_MASK_LO 1
   let i : Initiator := .apc
   let w : Word := 0x40
   let r : RegRow := rowAt P.RAD 0x100
   decide (s.cmdRead i (withBits w 0 4 2) r = true) && decide (s.canonical = true) && decide ((s.cmdGiven i (withBits w 0 4 2) r).timed = true) &&
    decide (s.radio.queue = none) &&
    decide (((s.cmdSeen i (withBits w 0 4 2) r).namedUnits (s.cmdGiven i (withBits w 0 4 2) r)).all (fun u => unitPresent (s.cmdSeen i (withBits w 0
    4 2) r).variant u && !(s.cmdSeen i (withBits w 0 4 2) r).isRetired u) = true) &&
     (match exec (.rx i w) s with
      | .next t => decide (t.radio.queue = some (s.cmdGiven i (withBits w 0 4 2) r)) && decide (t.radio.heldTime = true) &&
        decide (t.get F.RAD_CMD_STAT_STATUS = 0) && decide (t.get F.RAD_CMD_STAT_FINAL = 0) && decide (t.get F.RAD_CMD_STAT_Q_OCC = 1)
      | _ => false)) &&
  (
   let s : State := liveDesc.setReg Reg.RAD_RX_MASK_LO 1
   let i : Initiator := .apc
   let w : Word := 0x40
   let r : RegRow := rowAt P.RAD 0x100
   decide (s.cmdRead i (withBits w 0 4 3) r = true) && decide (s.canonical = true) && decide ((s.cmdGiven i (withBits w 0 4 3) r).timed = true) &&
    decide (s.radio.queue = none) &&
    decide (((s.cmdSeen i (withBits w 0 4 3) r).namedUnits (s.cmdGiven i (withBits w 0 4 3) r)).all (fun u => unitPresent (s.cmdSeen i (withBits w 0
    4 3) r).variant u && !(s.cmdSeen i (withBits w 0 4 3) r).isRetired u) = true) &&
     (match exec (.rxMulti i w) s with
      | .next t => decide (t.radio.queue = some (s.cmdGiven i (withBits w 0 4 3) r)) && decide (t.radio.heldTime = true) &&
        decide (t.get F.RAD_CMD_STAT_STATUS = 0) && decide (t.get F.RAD_CMD_STAT_FINAL = 0) && decide (t.get F.RAD_CMD_STAT_Q_OCC = 1)
      | _ => false))) = true := by decide +kernel

/-- States and operands that meet the clauses of `Obligations.ReceiveAndTransmitCommandsComplete` on whiff, tx, txCca, and what comes of them. -/
theorem witness_ReceiveAndTransmitCommandsComplete_2 : (
  (
   let s : State := liveDesc.setReg Reg.RAD_RX_MASK_LO 1
   let i : Initiator := .apc
   let w : Word := 0x40
   let r : RegRow := rowAt P.RAD 0x100
   decide (s.cmdRead i (withBits w 0 4 7) r = true) && decide (s.canonical = true) && decide ((s.cmdGiven i (withBits w 0 4 7) r).timed = true) &&
    decide (s.radio.queue = none) &&
    decide (((s.cmdSeen i (withBits w 0 4 7) r).namedUnits (s.cmdGiven i (withBits w 0 4 7) r)).all (fun u => unitPresent (s.cmdSeen i (withBits w 0
    4 7) r).variant u && !(s.cmdSeen i (withBits w 0 4 7) r).isRetired u) = true) &&
     (match exec (.whiff i w) s with
      | .next t => decide (t.radio.queue = some (s.cmdGiven i (withBits w 0 4 7) r)) && decide (t.radio.heldTime = true) &&
        decide (t.get F.RAD_CMD_STAT_STATUS = 0) && decide (t.get F.RAD_CMD_STAT_FINAL = 0) && decide (t.get F.RAD_CMD_STAT_Q_OCC = 1)
      | _ => false)) &&
  (
   let s : State := liveDesc
   let i : Initiator := .apc
   let w : Word := 0
   let r : RegRow := rowAt P.RAD 0x100
   decide (s.cmdTaken i (withBits w 0 4 4) r = true) && decide (s.canonical = true) &&
    decide ((s.cmdSeen i (withBits w 0 4 4) r).judgedBy 4 = 1) &&
    decide (((s.cmdSeen i (withBits w 0 4 4) r).namedUnits (s.cmdGiven i (withBits w 0 4 4) r)).all (fun u => unitPresent (s.cmdSeen i (withBits w 0
    4 4) r).variant u && !(s.cmdSeen i (withBits w 0 4 4) r).isRetired u) = true) &&
    decide ((s.cmdSeen i (withBits w 0 4 4) r).chainSecure (s.cmdGiven i (withBits w 0 4 4) r).arg = false) &&
    decide (((s.cmdSeen i (withBits w 0 4 4) r).descRegs (s.cmdGiven i (withBits w 0 4 4) r).desc).modeCode ≠ 8) &&
    decide (((s.cmdSeen i (withBits w 0 4 4) r).descRegs (s.cmdGiven i (withBits w 0 4 4) r).desc).modeCode ≠ 9) &&
    decide ((s.cmdSeen i (withBits w 0 4 4) r).crs.reserved = []) && decide ((s.cmdSeen i (withBits w 0 4 4) r).crs.chan = none) &&
    decide (inTxBand ((s.cmdSeen i (withBits w 0 4 4) r).txFreq ((s.cmdSeen i (withBits w 0 4 4) r).descRegs (s.cmdGiven i (withBits w 0 4 4)
    r).desc).freq) = true) && decide ((s.cmdSeen i (withBits w 0 4 4) r).ctxs.all (fun c => !c.busy) = true) &&
    decide ((s.cmdSeen i (withBits w 0 4 4) r).bst = none) &&
     (match exec (.tx i w) s with
      | .next t => decide (t.on F.RAD_STATE_MOVING = true) && decide (t.get F.RAD_STATE_TARGET = 5) && decide (t.get F.RAD_CMD_STAT_STATUS = 0) &&
        decide (t.get F.RAD_CMD_STAT_FINAL = 0) && decide (t.radio.op = some (s.cmdGiven i (withBits w 0 4 4) r)) &&
        decide (t.crs.chan = some ((s.cmdSeen i (withBits w 0 4 4) r).descRegs (s.cmdGiven i (withBits w 0 4 4) r).desc).freq) &&
        decide (t.on F.SYN_CRS_STAT_SETTLING = true) && decide (((s.cmdSeen i (withBits w 0 4 4) r).txPast = none →
        t.radio.tx.map (fun (j : TxJob) => (j.stage, j.desc, j.slot, j.head, j.exit)) = some (TxStage.wait, (s.cmdGiven i (withBits w 0 4 4)
        r).desc, (s.cmdGiven i (withBits w 0 4 4) r).slot, (s.cmdGiven i (withBits w 0 4 4) r).arg, (s.cmdGiven i (withBits w 0 4 4) r).exit))) &&
        decide (((s.cmdSeen i (withBits w 0 4 4) r).txPast.isSome = true →
        t.radio.txNext.map (fun (j : TxJob) => (j.stage, j.desc, j.slot, j.head, j.exit)) = some (TxStage.wait, (s.cmdGiven i (withBits w 0 4 4)
        r).desc, (s.cmdGiven i (withBits w 0 4 4) r).slot, (s.cmdGiven i (withBits w 0 4 4) r).arg, (s.cmdGiven i (withBits w 0 4 4) r).exit)))
      | _ => false)) &&
  (
   let s : State := liveDesc
   let i : Initiator := .apc
   let w : Word := 0
   let r : RegRow := rowAt P.RAD 0x100
   decide (s.cmdTaken i (withBits w 0 4 5) r = true) && decide (s.canonical = true) &&
    decide ((s.cmdSeen i (withBits w 0 4 5) r).judgedBy 5 = 1) &&
    decide (((s.cmdSeen i (withBits w 0 4 5) r).namedUnits (s.cmdGiven i (withBits w 0 4 5) r)).all (fun u => unitPresent (s.cmdSeen i (withBits w 0
    4 5) r).variant u && !(s.cmdSeen i (withBits w 0 4 5) r).isRetired u) = true) &&
    decide ((s.cmdSeen i (withBits w 0 4 5) r).chainSecure (s.cmdGiven i (withBits w 0 4 5) r).arg = false) &&
    decide (((s.cmdSeen i (withBits w 0 4 5) r).descRegs (s.cmdGiven i (withBits w 0 4 5) r).desc).modeCode ≠ 8) &&
    decide (((s.cmdSeen i (withBits w 0 4 5) r).descRegs (s.cmdGiven i (withBits w 0 4 5) r).desc).modeCode ≠ 9) &&
    decide ((s.cmdSeen i (withBits w 0 4 5) r).crs.reserved = []) && decide ((s.cmdSeen i (withBits w 0 4 5) r).crs.chan = none) &&
    decide (inTxBand ((s.cmdSeen i (withBits w 0 4 5) r).txFreq ((s.cmdSeen i (withBits w 0 4 5) r).descRegs (s.cmdGiven i (withBits w 0 4 5)
    r).desc).freq) = true) && decide ((s.cmdSeen i (withBits w 0 4 5) r).ctxs.all (fun c => !c.busy) = true) &&
    decide ((s.cmdSeen i (withBits w 0 4 5) r).bst = none) &&
    decide ((s.cmdSeen i (withBits w 0 4 5) r).descReason (s.cmdGiven i (withBits w 0 4 5) r).desc = 0) &&
     (match exec (.txCca i w) s with
      | .next t => decide (t.on F.RAD_STATE_MOVING = true) && decide (t.get F.RAD_STATE_TARGET = 5) && decide (t.get F.RAD_CMD_STAT_STATUS = 0) &&
        decide (t.get F.RAD_CMD_STAT_FINAL = 0) && decide (t.radio.op = some (s.cmdGiven i (withBits w 0 4 5) r)) &&
        decide (t.crs.chan = some ((s.cmdSeen i (withBits w 0 4 5) r).descRegs (s.cmdGiven i (withBits w 0 4 5) r).desc).freq) &&
        decide (t.on F.SYN_CRS_STAT_SETTLING = true) && decide (((s.cmdSeen i (withBits w 0 4 5) r).txPast = none →
        t.radio.tx.map (fun (j : TxJob) => (j.stage, j.desc, j.slot, j.head, j.exit)) = some (TxStage.cca, (s.cmdGiven i (withBits w 0 4 5) r).desc,
        (s.cmdGiven i (withBits w 0 4 5) r).slot, (s.cmdGiven i (withBits w 0 4 5) r).arg, (s.cmdGiven i (withBits w 0 4 5) r).exit))) &&
        decide (((s.cmdSeen i (withBits w 0 4 5) r).txPast.isSome = true →
        t.radio.txNext.map (fun (j : TxJob) => (j.stage, j.desc, j.slot, j.head, j.exit)) = some (TxStage.cca, (s.cmdGiven i (withBits w 0 4 5)
        r).desc, (s.cmdGiven i (withBits w 0 4 5) r).slot, (s.cmdGiven i (withBits w 0 4 5) r).arg, (s.cmdGiven i (withBits w 0 4 5) r).exit))) &&
        decide (t.pageSt P.RFE ≠ 0)
      | _ => false)) &&
  (
   let s : State := liveDesc
   let i : Initiator := .apc
   let w : Word := 0
   let r : RegRow := rowAt P.RAD 0x100
   decide (s.cmdTaken i (withBits w 0 4 7) r = true) && decide (s.canonical = true) &&
    decide ((s.cmdSeen i (withBits w 0 4 7) r).judgedBy 7 = 1) && decide ((s.cmdSeen i (withBits w 0 4 7) r).radio.whiff = none) &&
     (match exec (.whiff i w) s with
      | .next t => decide (t.on F.RAD_STATE_MOVING = true) && decide (t.get F.RAD_STATE_TARGET = 2) &&
        decide (t.get F.RFE_WHIFF_STAT_VALID = 0) && decide (t.pageSt P.RFE ≠ 0) &&
        decide ((t.radio.whiff.map (fun (x : Whiff) => (x.fromIdle, x.capturing, x.captured, x.op))) = some (true, false, false, (s.cmdGiven i
        (withBits w 0 4 7) r)))
      | _ => false))) = true := by decide +kernel

/-- States and operands that meet the clauses of `Obligations.TransmitEventsComplete` on txSequenceStart, rampUpStart, onAir, frameTxEnd, and what
comes of them. -/
theorem witness_TransmitEventsComplete_1 : (
  (
   let s : State := { (readyToSend.put F.RTX_CFG_COMP 0).putSense Reg.TSN_LIVE ⟨100, 3000, 3000⟩ with count := 1000, radio := { readyToSend.radio with tx := some { job0 with t0 := some 1000 } } }
   let j : TxJob := { job0 with t0 := some 1000 }
   let o : RadOp := op0
   let i : Nat := 1000
   let q : PathPick := ((s.rcpSample.setReg Reg.RTX_SENSE (s.reg Reg.TSN_LIVE)).calDueCheck).pickPath j.copy.modeCode (in24 j.copy) j.slot ((s.rcpSample.setReg Reg.RTX_SENSE (s.reg Reg.TSN_LIVE)).calDueCheck).liveSense.vpa
   let p : Nat := (match q with | .use a _ _ _ => a | .stop _ _ => 9)
   let x : Int := (match q with | .use _ a _ _ => a | .stop _ _ => 9)
   let cl : Bool := (match q with | .use _ _ a _ => a | .stop _ _ => false)
   let low : Bool := (match q with | .use _ _ _ a => a | .stop _ _ => false)
   let bs : List Nat := [3]
   let fr : List Byte := ((((s.rcpSample.setReg Reg.RTX_SENSE (s.reg Reg.TSN_LIVE)).calDueCheck).txWalk j.copy j.head).2.opFrame j o.src i ((((s.rcpSample.setReg Reg.RTX_SENSE (s.reg Reg.TSN_LIVE)).calDueCheck).txWalk j.copy j.head).2.chainData true true bs)).1.getD []
   decide (s.canonical = true) && decide (s.radio.tx = some j) && decide (s.radioState ≠ 0) && decide (s.radio.op = some o) &&
    decide (j.stage = .wait) && decide (j.src = .op) && decide (j.t0 = some i) && decide (s.ackDue = none) &&
    decide (notBefore (addTicks s.count (usTicks 8)) i = true) && decide (s.crsLockedTo j.copy.freq = true) && decide (j.copy.onLane = false) &&
    decide (((s.rcpSample.setReg Reg.RTX_SENSE (s.reg Reg.TSN_LIVE)).calDueCheck).pickPath j.copy.modeCode (in24 j.copy) j.slot ((s.rcpSample.setReg
    Reg.RTX_SENSE (s.reg Reg.TSN_LIVE)).calDueCheck).liveSense.vpa = .use p x cl low) &&
    decide ((((s.rcpSample.setReg Reg.RTX_SENSE (s.reg Reg.TSN_LIVE)).calDueCheck).txWalk j.copy j.head).1 = some bs) &&
    decide (((((s.rcpSample.setReg Reg.RTX_SENSE (s.reg Reg.TSN_LIVE)).calDueCheck).txWalk j.copy j.head).2.opFrame j o.src i ((((s.rcpSample.setReg
    Reg.RTX_SENSE (s.reg Reg.TSN_LIVE)).calDueCheck).txWalk j.copy j.head).2.chainData true true bs)).1 = some fr) &&
     (match exec (.txSequenceStart none) s with
      | .next t => decide ((t.radio.tx.map (fun (k : TxJob) => (k.stage, k.path, k.applied))) = some (TxStage.sequence, p, x)) &&
        decide ((t.radio.tx.map (fun (k : TxJob) => (k.chain, k.frame, k.t0))) = some (bs, fr, some i)) && decide (t.radioState = 5) &&
        decide (t.on F.RAD_STATE_MOVING = false) && decide (t.on F.RAD_STATE_BLANK = true) && decide (t.pageSt P.RTX = 2) &&
        decide (t.crs.reserved.contains CrsUser.tx = true) && decide (t.reg Reg.RTX_SENSE = s.reg Reg.TSN_LIVE) &&
        decide (t.getInt F.RTX_TX_STAT_APPLIED = signedN F.RTX_TX_STAT_APPLIED.width (lowBits F.RTX_TX_STAT_APPLIED.width x))
      | _ => false)) &&
  (
   let s : State := sending .sequence
   let j : TxJob := { job0 with stage := .sequence }
   decide (s.radio.tx = some j) && decide (j.stage = .sequence) &&
     (match exec .rampUpStart s with
      | .next t => decide (t.radio = { s.radio with tx := some { j with stage := .rampUp } }) && decide (t.regs = s.regs) && decide (t.mem = s.mem)
      | _ => false)) &&
  (
   let s : State := sending .rampUp
   let j : TxJob := { job0 with stage := .rampUp }
   decide (s.canonical = true) && decide (s.radio.tx = some j) && decide (j.stage = .rampUp) && decide (s.chainBad true j.chain = none) &&
     (match exec .onAir s with
      | .next t => decide (t.radio = { s.radio with tx := some { j with stage := .onAir, onAirAt := s.count } }) && decide (t.pageSt P.RTX = 3) &&
        decide (t.mem = s.mem)
      | _ => false)) &&
  (
   let s : State := sending .onAir
   let j : TxJob := { job0 with stage := .onAir }
   decide (s.canonical = true) && decide (s.radio.tx = some j) && decide (j.stage = .onAir) && decide (j.src = .op) &&
     (match exec (.frameTxEnd none) s with
      | .next t => decide (t.radio.tx = some { j with stage := .rampDown, te := s.count }) && decide (t.pageSt P.RTX = 4) &&
        decide ((s.waits = false → s.radio.txNext = none → t.on F.RAD_STATE_MOVING = true ∧
        t.get F.RAD_STATE_TARGET = (if j.exit = 0 then 1 else if j.exit = 1 then 2 else if j.exit = 3 then 4 else 3)))
      | _ => false)) &&
  (
   let s : State := { (sending .onAir).put F.RTX_CFG_COMP 2 with count := 1000 }
   let j : TxJob := { job0 with stage := .onAir }
   let e : Int := -10
   decide (s.canonical = true) && decide (s.radio.tx = some j) && decide (j.stage = .onAir) && decide (j.src = .op) &&
    decide (usTicks 40 ≤ subTicks s.count j.onAirAt) && decide (0 ≤ j.applied) && decide (j.ilim = false) && decide (s.get F.RTX_CFG_COMP = 2) &&
    decide (e % 2 = 0) && decide (-96 ≤ e ∧ e ≤ 96) &&
     (match exec (.frameTxEnd (some e)) s with
      | .next t => decide (t.pageSt P.RTX = 4) && decide (t.getInt (loopOfs j.path) = clampInt (-64) 64 (s.getInt (loopOfs j.path) - e / 2))
      | _ => false))) = true := by decide +kernel

/-- States and operands that meet the clauses of `Obligations.TransmitEventsComplete` on rampDownEnd, antSelExit, underrun, ilim, and what comes of
them. -/
theorem witness_TransmitEventsComplete_2 : (
  (
   let s : State := { sending .rampDown with crs := { live.crs with reserved := [CrsUser.tx] } }
   let j : TxJob := { job0 with stage := .rampDown }
   decide (s.canonical = true) && decide (s.radio.tx = some j) && decide (j.stage = .rampDown) && decide (j.src = .op) &&
    decide (s.waits = false) && decide (s.crs.held = none) &&
     (match exec .rampDownEnd s with
      | .next t => decide (t.radio = { s.radio with tx := some { j with stage := .tail } }) && decide (t.pageSt P.RTX = 1) &&
        decide ((s.crs.reserved = [CrsUser.tx] → t.crs.reserved = [] ∧ t.on F.SYN_CRS_STAT_RESERVED = false))
      | _ => false)) &&
  (
   let s : State := (sending .tail).put F.RAD_STATE_BLANK 1
   let j : TxJob := { job0 with stage := .tail }
   let o : RadOp := op0
   decide (s.canonical = true) && decide (s.radio.tx = some j) && decide (j.stage = .tail) && decide (j.src = .op) && decide (j.exit = 0) &&
    decide (j.displaced = false) && decide (s.radio.op = some o) && decide (o.opcode ≠ opAbort) && decide (o.src = .software s.radio.cmdNo) &&
    decide (s.radio.txNext = none) && decide (s.waits = false) &&
     (match exec .antSelExit s with
      | .next t => decide (t.radioState = 1) && decide (t.on F.RAD_STATE_MOVING = false) && decide (t.radio.tx = none) &&
        decide (t.radio.op = none) && decide (t.get F.RAD_CMD_STAT_STATUS = j.status % 16) && decide (t.get F.RAD_CMD_STAT_FINAL = 1) &&
        decide (t.on F.RAD_STATE_BLANK = false)
      | _ => false)) &&
  (
   let s : State := { sending .tail with radio := { (sending .tail).radio with tx := some { job0 with stage := .tail, displaced := true } } }
   let j : TxJob := { job0 with stage := .tail, displaced := true }
   let o : RadOp := op0
   decide (s.canonical = true) && decide (s.radio.tx = some j) && decide (j.stage = .tail) && decide (j.src = .op) &&
    decide (j.displaced = true) && decide (s.radio.op = some o) && decide (o.opcode ≠ opAbort) &&
     (match exec .antSelExit s with
      | .next t => decide (t.radio.op = some o) && decide (t.radio.tx = s.radio.txNext) && decide (t.radio.txNext = none)
      | _ => false)) &&
  (
   let s : State := sending .onAir
   let j : TxJob := { job0 with stage := .onAir }
   decide (s.canonical = true) && decide (s.radio.tx = some j) && decide (j.src = .op) && decide (j.status = 1) &&
    decide (j.stage = .sequence ∨ j.stage = .rampUp ∨ j.stage = .onAir) &&
     (match exec .underrun s with
      | .next t => decide (t.on F.RTX_TX_STAT_UNDERRUN = true) &&
        decide (t.radio.tx = some { j with stage := .rampDown, status := 5, te := s.count }) && decide (t.pageSt P.RTX = 4)
      | _ => false)) &&
  (
   let s : State := { live with radio := { live.radio with tx := some { job0 with stage := .onAir, path := 2 } } }
   let j : TxJob := { job0 with stage := .onAir, path := 2 }
   decide (s.canonical = true) && decide (s.radio.tx = some j) && decide (j.path = 2) && decide (j.stage = .rampUp ∨ j.stage = .onAir) &&
     (match exec .ilim s with
      | .next t => decide (t.on F.RTX_TX_STAT_ILIM = true) && decide (t.radio = { s.radio with tx := some { j with ilim := true } })
      | _ => false))) = true := by decide +kernel

/-- States and operands that meet the clauses of `Obligations.SensorAndTurnRoundEventsComplete` on rcpSenseSample, tsnRoundEnd, sample,
tsnSampleLatched, and what comes of them. -/
theorem witness_SensorAndTurnRoundEventsComplete_1 : (
  (
   let s : State := live.putSense Reg.TSN_LIVE ⟨100, 3000, 3000⟩
   decide (s.radioState ≠ 0) &&
     (match exec (.rcpSenseSample none) s with
      | .next t => decide (t.radio = { s.radio with rcpTemp := s.getInt F.TSN_LIVE_TEMP }) && decide (t.mem = s.mem)
      | _ => false)) &&
  (
   let s : State := live
   let m : Sense := ⟨100, 3000, 3000⟩
   decide (s.canonical = true) && decide (s.pwr.radioUp = true) &&
     (match exec (.tsnRoundEnd m) s with
      | .next t => decide (t.radio.tsnRound = (s.pageSt P.TSN == 1)) && decide (t.get F.TSN_LIVE_TEMP = lowBits 8 m.temp) &&
        decide (t.get F.TSN_LIVE_VBAT = min m.vbat 4095) && decide (t.get F.TSN_LIVE_VPA = (if m.vpa < 1000 then 0 else min m.vpa 4095)) &&
        decide ((s.enabled P.TSN = true → t.get F.TSN_STAT_TEMP_HI = boolNat (decide (s.getInt F.TSN_CFG_TEMP_HI ≤ m.temp))))
      | _ => false)) &&
  (
   let s : State := live
   let via : Via := .bus .apc
   let r : RegRow := rowAt P.TSN 0x104
   decide (s.canonical = true) && decide (s.reachesTask via P.TSN 0x104 1 r 0 = true) && decide (s.enabled P.TSN = true) &&
    decide (s.pwr.radioUp = true) &&
     (match exec (.sample via) s with
      | .next t => decide (t.pageSt P.TSN = 1)
      | _ => false)) &&
  (
   let s : State := { (live.setPageSt P.TSN 1).setReg Reg.TSN_LIVE 77 with radio := { live.radio with tsnRound := true } }
   decide (s.canonical = true) && decide (s.pageSt P.TSN = 1) && decide (s.radio.tsnRound = true) && decide (s.pwr.radioUp = true) &&
     (match exec .tsnSampleLatched s with
      | .next t => decide (t.reg Reg.TSN_SAMPLE = s.reg Reg.TSN_LIVE) && decide (t.pageSt P.TSN = 0)
      | _ => false))) = true := by decide +kernel

/-- States and operands that meet the clauses of `Obligations.SensorAndTurnRoundEventsComplete` on turnRoundRxRelease, ccaWindowEnd, ackFail, and what
comes of them. -/
theorem witness_SensorAndTurnRoundEventsComplete_2 : (
  (
   let s : State := { (((live.setPageSt P.RFE 2).put F.RAD_STATE_MOVING 1).put F.RAD_STATE_TARGET 3).put F.RAD_STATE_BLANK 1 with radio := { live.radio with turnRx := true } }
   decide (s.canonical = true) && decide (s.radio.turnRx = true) && decide (s.rxRunning = true) && decide (s.txSending = false) &&
     (match exec .turnRoundRxRelease s with
      | .next t => decide (t.radio.turnRx = false) && decide (t.on F.RAD_STATE_BLANK = false) && decide ((s.on F.RAD_STATE_MOVING = true →
        s.get F.RAD_STATE_TARGET = 2 ∨ s.get F.RAD_STATE_TARGET = 3 → t.radioState = s.get F.RAD_STATE_TARGET ∧ t.on F.RAD_STATE_MOVING = false))
      | _ => false)) &&
  (
   let s : State := { (sending .cca).setPageSt P.RFE 2 with radio := { live.radio with tx := some { job0 with stage := .cca, copy := { job0.copy with cca := 1 + 200 * 256 } } } }
   let j : TxJob := { job0 with stage := .cca, copy := { job0.copy with cca := 1 + 200 * 256 } }
   let power : Int := -400
   let carrier : Bool := false
   decide (s.canonical = true) && decide (s.radio.tx = some j) && decide (j.stage = .cca) && decide (s.rxRunning = true) &&
    decide (((s.slices ++ s.lanes).filter (fun x => x.stream.isSome)).length < nSlices s.variant) && decide (j.copy.cca % 4 ≠ 2) &&
    decide (j.copy.cca % 4 ≠ 3) && decide ((power + s.rssiOfs) % 4 = 0) && decide (power + s.rssiOfs < 4 * signed8 (bitsOf j.copy.cca 8 8)) &&
    decide (s.ctxs.all (fun c => !c.busy) = true) &&
     (match exec (.ccaWindowEnd power carrier) s with
      | .next t => decide ((t.radio.tx.map (fun (k : TxJob) => k.stage)) = some TxStage.wait) &&
        decide (t.get F.LNK_CCA_STAT_ENERGY = lowBits 8 ((power + s.rssiOfs) / 4)) && decide (t.get F.LNK_CCA_STAT_ED_BUSY = 0) &&
        decide (t.get F.LNK_CCA_STAT_NOSTREAM = 0)
      | _ => false)) &&
  (
   let s : State := { (sending .cca).setPageSt P.RFE 2 with radio := { live.radio with tx := some { job0 with stage := .cca, copy := { job0.copy with cca := 1 + 200 * 256 } } } }
   let j : TxJob := { job0 with stage := .cca, copy := { job0.copy with cca := 1 + 200 * 256 } }
   let power : Int := -100
   let carrier : Bool := false
   decide (s.canonical = true) && decide (s.radio.tx = some j) && decide (j.stage = .cca) && decide (s.rxRunning = true) &&
    decide (((s.slices ++ s.lanes).filter (fun x => x.stream.isSome)).length < nSlices s.variant) && decide (j.copy.cca % 4 ≠ 2) &&
    decide (j.copy.cca % 4 ≠ 3) && decide ((power + s.rssiOfs) % 4 = 0) && decide (4 * signed8 (bitsOf j.copy.cca 8 8) ≤ power + s.rssiOfs) &&
    decide (s.get F.LNK_CCA_STAT_BUSY_COUNT < 65535) &&
     (match exec (.ccaWindowEnd power carrier) s with
      | .next t => decide (t.radio.tx = none) && decide (t.get F.LNK_CCA_STAT_ED_BUSY = 1) &&
        decide (t.get F.LNK_CCA_STAT_BUSY_COUNT = s.get F.LNK_CCA_STAT_BUSY_COUNT + 1)
      | _ => false)) &&
  (
   let s : State := { live with radio := { live.radio with tx := some { job0 with stage := .onAir, src := .ack 0 } } }
   let j : TxJob := { job0 with stage := .onAir, src := .ack 0 }
   let k : Nat := 0
   let underrun : Bool := true
   decide (s.canonical = true) && decide (s.radio.tx = some j) && decide (j.src = .ack k) && decide (j.status = 1) &&
    decide (j.stage = .sequence ∨ j.stage = .rampUp ∨ j.stage = .onAir) &&
    decide (s.get F.LNK_SPEC_LOSS_ACK_FAIL + 1 < 2 ^ F.LNK_SPEC_LOSS_ACK_FAIL.width) &&
     (match exec (.ackFail underrun) s with
      | .next t => decide (t.radio.tx = some { j with stage := .rampDown, status := if underrun then 5 else 6, te := s.count }) &&
        decide (t.get F.LNK_SPEC_LOSS_ACK_FAIL = s.get F.LNK_SPEC_LOSS_ACK_FAIL + 1) && decide (t.pageSt P.RTX = 4)
      | _ => false))) = true := by decide +kernel

/-- States and operands that meet the clauses of `Obligations.RadioStateEventsComplete` on timedCommandDue, queuedCommandEval, transitionEnd, and what
comes of them. -/
theorem witness_RadioStateEventsComplete_1 : (
  (
   let s : State := { liveDesc with radio := { liveDesc.radio with queue := some { op0 with opcode := 1, timed := true }, heldTime := true } }
   let op : RadOp := { op0 with opcode := 1, timed := true }
   decide (s.canonical = true) && decide (s.radio.queue = some op) && decide (s.radio.heldTime = true) && decide (op.opcode = opArmRx) &&
    decide (notBefore (addTicks s.count (s.opLead op)) op.instant = true) &&
    decide (((s.setRadio (fun r => { r with queue := none, heldTime := false })).showQueue).acceptsOp op = true) &&
    decide (((s.setRadio (fun r => { r with queue := none, heldTime := false })).showQueue).judgedBy opArmRx = 1) &&
     (match exec (.timedCommandDue .software) s with
      | .next t => decide (t.on F.RAD_STATE_MOVING = true) && decide (t.get F.RAD_STATE_TARGET = 2) && decide (t.get F.RAD_CMD_STAT_Q_OCC = 0)
      | _ => false)) &&
  (
   let s : State := { liveDesc with radio := { liveDesc.radio with tslot := some { op0 with opcode := 1, timed := true, src := .entry 0 } } }
   let op : RadOp := { op0 with opcode := 1, timed := true, src := .entry 0 }
   decide (s.canonical = true) && decide (s.radio.tslot = some op) && decide (s.radio.tBlock = none) && decide (op.opcode = opArmRx) &&
    decide (notBefore (addTicks s.count (s.opLead op)) op.instant = true) &&
    decide ((s.setRadio (fun r => { r with tslot := none })).acceptsOp op = true) &&
    decide ((s.setRadio (fun r => { r with tslot := none })).judgedBy opArmRx = 1) &&
     (match exec (.timedCommandDue .timeline) s with
      | .next t => decide (t.on F.RAD_STATE_MOVING = true) && decide (t.get F.RAD_STATE_TARGET = 2)
      | _ => false)) &&
  (
   let s : State := { liveDesc with radio := { liveDesc.radio with queue := some { op0 with opcode := 1 }, qBlock := 6 } }
   let op : RadOp := { op0 with opcode := 1 }
   decide (s.canonical = true) && decide (s.radio.tslot = none) && decide (s.radio.queue = some op) && decide (s.radio.heldTime = false) &&
    decide (op.opcode = opArmRx) && decide (s.unblocked s.radio.qBlock = true) &&
    decide (((s.setRadio (fun r => { r with queue := none })).showQueue).acceptsOp op = true) &&
    decide (((s.setRadio (fun r => { r with queue := none })).showQueue).judgedBy opArmRx = 1) &&
     (match exec .queuedCommandEval s with
      | .next t => decide (t.on F.RAD_STATE_MOVING = true) && decide (t.get F.RAD_STATE_TARGET = 2) && decide (t.get F.RAD_CMD_STAT_Q_OCC = 0)
      | _ => false)) &&
  (
   let s : State := (((liveDesc.put F.RAD_STATE_MOVING 1).put F.RAD_STATE_TARGET 3).setPageSt P.RFE 2)
   decide (s.canonical = true) && decide (s.on F.RAD_STATE_MOVING = true) && decide (s.radioState ≠ 0) &&
    decide (s.get F.RAD_STATE_TARGET = 2 ∨ s.get F.RAD_STATE_TARGET = 3) && decide (s.rxRunning = true) && decide (s.radio.turnRx = false) &&
     (match exec .transitionEnd s with
      | .next t => decide (t.radioState = s.get F.RAD_STATE_TARGET) && decide (t.on F.RAD_STATE_MOVING = false)
      | _ => false))) = true := by decide +kernel

/-- States and operands that meet the clauses of `Obligations.RadioStateEventsComplete` on transitionEnd, calStepDone, autoCalStart, and what comes of
them. -/
theorem witness_RadioStateEventsComplete_2 : (
  (
   let s : State := { ((liveDesc.put F.RAD_STATE_MOVING 1).put F.RAD_STATE_TARGET 1).put F.RAD_STATE_STATE 0 with radio := { liveDesc.radio with op := some { op0 with opcode := 0 } } }
   let o : RadOp := { op0 with opcode := 0 }
   decide (s.canonical = true) && decide (s.on F.RAD_STATE_MOVING = true) && decide (s.radioState = 0) && decide (s.get F.RAD_STATE_TARGET = 1) &&
    decide (s.mayLeaveOff = true) && decide (s.radio.hfxoWait = false) && decide (s.radio.op = some o) && decide (o.opcode = opIdle) &&
    decide (o.src = .software s.radio.cmdNo) &&
     (match exec .transitionEnd s with
      | .next t => decide (t.radioState = 1) && decide (t.on F.SYN_SCS_STAT_LOCK = true) && decide (t.radio.op = none) &&
        decide (t.get F.RAD_CMD_STAT_STATUS = 1) && decide (t.get F.RAD_CMD_STAT_FINAL = 1)
      | _ => false)) &&
  (
   let s : State := { liveDesc.put F.RAD_STATE_STATE 6 with radio := { liveDesc.radio with cal := some ⟨3, .internal⟩ } }
   let hp : Half := 0
   let dev : Byte := 0
   let c : CalRun := ⟨3, .internal⟩
   let n : Nat := 0
   decide (s.canonical = true) && decide (s.radioState = 6) && decide (s.radio.cal = some c) &&
    decide ((List.range 6).find? c.steps.testBit = some n) && decide (c.steps ≠ 2 ^ n) &&
     (match exec (.calStepDone hp dev) s with
      | .next t => decide ((t.get F.RAD_CAL_STAT_VALID).testBit n = true) && decide ((t.get F.RAD_CAL_STAT_INCOMPLETE).testBit n = false) &&
        decide (t.get F.RAD_CAL_STAT_LAST_TEMP = s.get F.TSN_LIVE_TEMP) &&
        decide (t.radio = { s.radio with cal := some { c with steps := c.steps - 2 ^ n } })
      | _ => false)) &&
  (
   let s : State := { (liveDesc.put F.RAD_STATE_STATE 6) with radio := { liveDesc.radio with cal := some ⟨8, .internal⟩ } }
   let hp : Half := 0x123
   let dev : Byte := 5
   let c : CalRun := ⟨8, .internal⟩
   let n : Nat := 3
   decide (s.canonical = true) && decide (s.radioState = 6) && decide (s.radio.cal = some c) &&
    decide ((List.range 6).find? c.steps.testBit = some n) && decide (c.steps = 2 ^ n) &&
     (match exec (.calStepDone hp dev) s with
      | .next t => decide (t.radioState = 1) && decide (t.on F.RAD_CAL_STAT_RUNNING = false) && decide (t.radio.cal = none) &&
        decide (t.radio.calDone = true) && decide (t.get F.RAD_CAL_STAT_DUE = boolNat (t.get F.RAD_CAL_STAT_INCOMPLETE != 0)) &&
        decide ((t.get F.RAD_CAL_STAT_VALID).testBit n = true) && decide ((n = 3 → t.get F.SYN_CRS_TPM_HP_GAIN = hp.toNat ∧
        t.get F.SYN_CRS_TPM_DEV_ERR = dev.toNat))
      | _ => false)) &&
  (
   let s : State := (((liveDesc.put F.RAD_CAL_STAT_DUE 1).put F.RAD_CAL_STAT_INCOMPLETE 2).put F.RAD_CAL_CFG_RERUN 1).put F.RAD_CAL_CFG_AUTO_CAL 0
   decide (s.canonical = true) && decide (s.on F.RAD_CAL_STAT_DUE = true) && decide (s.radioState = 1) &&
    decide (s.on F.RAD_STATE_MOVING = false) && decide (s.radio.queue = none) && decide (s.radio.tslot = none) && decide (s.radio.op = none) &&
    decide (s.radioClock = true) && decide (s.enabled P.RAD = true) && decide (s.on F.RAD_CAL_CFG_RERUN = true) &&
    decide (s.on F.RAD_CAL_CFG_AUTO_CAL = false) && decide (s.get F.RAD_CAL_STAT_INCOMPLETE ≠ 0) &&
    decide (s.entryDueWithin (calDur (s.get F.RAD_CAL_STAT_INCOMPLETE) + 10) = false) &&
     (match exec .autoCalStart s with
      | .next t => decide (t.radioState = 6) && decide (t.on F.RAD_CAL_STAT_RUNNING = true) &&
        decide (t.radio.cal = some (⟨s.get F.RAD_CAL_STAT_INCOMPLETE % 64, .internal⟩ : CalRun))
      | _ => false)) &&
  (
   let s : State := ((liveDesc.put F.RAD_CAL_STAT_DUE 1).put F.RAD_CAL_CFG_STEPS 63).put F.RAD_CAL_CFG_AUTO_CAL 1
   decide (s.canonical = true) && decide (s.on F.RAD_CAL_STAT_DUE = true) && decide (s.radioState = 1) &&
    decide (s.on F.RAD_STATE_MOVING = false) && decide (s.radio.queue = none) && decide (s.radio.tslot = none) && decide (s.radio.op = none) &&
    decide (s.radioClock = true) && decide (s.enabled P.RAD = true) && decide (s.on F.RAD_CAL_CFG_AUTO_CAL = true) &&
    decide (s.radio.calDone = false) && decide (s.get F.RAD_CAL_CFG_STEPS = 63) && decide (s.entryDueWithin (calDur 63 + 10) = false) &&
    decide (s.get F.RAD_CAL_STAT_INCOMPLETE ≤ 63) &&
     (match exec .autoCalStart s with
      | .next t => decide (t.radioState = 6) && decide (t.on F.RAD_CAL_STAT_RUNNING = true) && decide (t.radio.cal = some (⟨63, .internal⟩ : CalRun))
      | _ => false))) = true := by decide +kernel

/-- States and operands that meet the clauses of `Obligations.SearchAndHeaderEventsComplete` on channelizerUpdate, preambleDetect, stfDetect,
syncMatch, and what comes of them (of channelizerUpdate, syncMatch the hypotheses only: a free value or a long computation stands in the result). -/
theorem witness_SearchAndHeaderEventsComplete_1 : (
  (
   let s : State := { (liveDesc.setPageSt P.CHN 1) with slices := { rxSlot0 with next := some 0 } :: liveDesc.slices.drop 1 }
   let k : Nat := 0
   let d : Nat := 0
   decide (s.canonical = true) && decide (s.pageSt P.CHN ≠ 0) && decide (k < nSlices s.variant) && decide (k < s.slices.length) &&
    decide (s.slot (.slice k) = { rxSlot0 with next := some d }) && decide (s.unitUsable (.slice k) = true) &&
    decide (s.allUnits.all (fun u => u == .slice k || s.slot u == { rxSlot0 with copy := (s.slot u).copy }) = true)) &&
  (
   let s : State := receiving none
   let n : Nat := 0
   let power : Int := -300
   decide (s.searching (.slice n) = true) && decide ((s.slot (.slice n)).copy.isLe = false) &&
     (match exec (.preambleDetect n power) s with
      | .next t => decide ((t.slot (.slice n)).frame = some (newFrame power false s.rxEntry)) && decide (t.regs = s.regs) && decide (t.mem = s.mem)
      | _ => false)) &&
  (
   let s : State := receiving none
   let n : Nat := 0
   let power : Int := -300
   decide (s.searching (.lane n) = true) &&
     (match exec (.stfDetect n power) s with
      | .next t => decide ((t.slot (.lane n)).frame = some (newFrame power false s.rxEntry)) && decide (t.regs = s.regs) && decide (t.mem = s.mem)
      | _ => false)) &&
  (
   let s : State := receiving (some (newFrame (-200) false none))
   let n : Nat := 0
   let lo : Half := 0
   let hi : Half := 0
   let rssi : Int := 0
   let phase : Byte := 0
   let f : RxFrame := newFrame (-200) false none
   let al : Bool := false
   let errs : Nat := 0
   decide (s.canonical = true) && decide ((s.slot (.slice n)).frame = some f) && decide (f.synced = false) &&
    decide ((s.slot (.slice n)).copy.isLe = false) && decide ((s.slot (.slice n)).copy.syncFit (lo.toNat + hi.toNat * 65536) = some (al, errs)) &&
    decide (s.on F.RAD_STATE_BLANK = false) && decide (s.freeCount ≠ 0))) = true := by decide +kernel

/-- States and operands that meet the clauses of `Obligations.SearchAndHeaderEventsComplete` on syncMatch, ltfEnd, syncSearchTimeout, headerCheck, and
what comes of them (of syncMatch, ltfEnd the hypotheses only: a free value or a long computation stands in the result). -/
theorem witness_SearchAndHeaderEventsComplete_2 : (
  (
   let s : State := { receiving none with slices := { rxSlot0 with desc := some 0, copy := { liveDesc.descRegs 0 with mode := 5, sync := 0x8E89BED6 }, stream := some 0 } :: live.slices.drop 1 }
   let n : Nat := 0
   let lo : Half := 0xBED6
   let hi : Half := 0x8E89
   let rssi : Int := 0
   let phase : Byte := 0
   let al : Bool := false
   let errs : Nat := 0
   decide (s.canonical = true) && decide (s.searching (.slice n) = true) && decide ((s.slot (.slice n)).copy.isLe = true) &&
    decide ((s.slot (.slice n)).copy.syncFit (lo.toNat + hi.toNat * 65536) = some (al, errs)) && decide (s.freeCount ≠ 0)) &&
  (
   let s : State := receiving (some (newFrame (-200) false none))
   let n : Nat := 0
   let rssi : Int := 0
   let phase : Byte := 0
   let f : RxFrame := newFrame (-200) false none
   decide (s.canonical = true) && decide ((s.slot (.lane n)).frame = some f) && decide (f.synced = false) &&
    decide (s.on F.RAD_STATE_BLANK = false) && decide (s.freeCount ≠ 0)) &&
  (
   let s : State := receiving (some (newFrame (-200) false none))
   let n : Nat := 0
   let f : RxFrame := newFrame (-200) false none
   decide (s.canonical = true) && decide ((s.slot (.slice n)).frame = some f) && decide (f.synced = false) && decide (s.radio.winShut = false) &&
     (match exec (.syncSearchTimeout n) s with
      | .next t => decide ((t.slot (.slice n)).frame = none) && decide (t.rxq = s.rxq)
      | _ => false)) &&
  (
   let s : State := receiving (some frame0)
   let n : Nat := 0
   let hdr : PhyHeader := ⟨20, true, false, false, false, 0, 0⟩
   let f : RxFrame := frame0
   let h : HeaderOk := ⟨20, 2, 0, (liveDesc.descRegs 0)⟩
   decide (s.canonical = true) && decide ((s.slot (.slice n)).frame = some f) && decide (f.synced = true) && decide (f.header = false) &&
    decide (checkHeader (s.slot (.slice n)).copy f.alt hdr = some h) &&
     (match exec (.headerCheck n hdr) s with
      | .next t => decide (((t.slot (.slice n)).frame.map (fun (g : RxFrame) => (g.header, g.len, g.fcsLen, g.phy, g.entry))) = some (true, h.len,
        h.fcsLen, h.phy, s.rxEntry)) && decide (t.mem = s.mem)
      | _ => false))) = true := by decide +kernel

/-- States and operands that meet the clauses of `Obligations.SearchAndHeaderEventsComplete` on headerCheck, faoHeaderCheck, captureSwitch, and what
comes of them. -/
theorem witness_SearchAndHeaderEventsComplete_3 : (
  (
   let s : State := receiving (some frame0)
   let n : Nat := 0
   let hdr : PhyHeader := ⟨20, true, true, false, false, 0, 0⟩
   let f : RxFrame := frame0
   decide (s.canonical = true) && decide ((s.slot (.slice n)).frame = some f) && decide (f.synced = true) && decide (f.header = false) &&
    decide (checkHeader (s.slot (.slice n)).copy f.alt hdr = none) && decide (s.radio.winShut = false) &&
    decide (s.get F.NBD_STATS_HDR_REJ + 1 < 2 ^ F.NBD_STATS_HDR_REJ.width) &&
     (match exec (.headerCheck n hdr) s with
      | .next t => decide ((t.slot (.slice n)).frame = none) && decide (t.get F.NBD_STATS_HDR_REJ = s.get F.NBD_STATS_HDR_REJ + 1)
      | _ => false)) &&
  (
   let s : State := receiving (some frame0)
   let n : Nat := 0
   let mcs : Nat := 3
   let len : Nat := 30
   let seed : Nat := 1
   let f : RxFrame := frame0
   decide (s.canonical = true) && decide ((s.slot (.lane n)).frame = some f) && decide (f.synced = true) && decide (f.header = false) &&
    decide ((s.slot (.lane n)).copy.modeCode = 8) && decide (ofdmRate (s.slot (.lane n)).copy.rateIx mcs ≠ 0) && decide (mcs ≤ 6) &&
    decide (5 ≤ len ∧ len ≤ 2047) &&
     (match exec (.faoHeaderCheck n (.sun true false mcs len seed)) s with
      | .next t => decide (((t.slot (.lane n)).frame.map (fun (g : RxFrame) => (g.header, g.len, g.fcsLen, g.rateByte))) = some (true, len, 4, mcs +
        16 * (seed % 4)))
      | _ => false)) &&
  (
   let s : State := { receiving (some frame0) with lanes := { rxSlot0 with desc := some 1, copy := { liveDesc.descRegs 0 with mode := 9 }, frame := some frame0 } :: live.lanes.drop 1 }
   let n : Nat := 0
   let first : List Soft := softHeader (faoHeaderBits ((receiving (some frame0)).profile 0) 0 true 20)
   let second : List Soft := first
   let b : Nat := bitsNat (faoHeaderBits ((receiving (some frame0)).profile 0) 0 true 20)
   let f : RxFrame := frame0
   decide (s.canonical = true) && decide ((s.slot (.lane n)).frame = some f) && decide (f.synced = true) && decide (f.header = false) &&
    decide ((s.slot (.lane n)).copy.modeCode = 9) && decide (faoHeaderOf first second = b) && decide (faoHcs b = true) &&
    decide (bitsOf b 30 4 = 0) && decide (bitsOf b 21 2 ≠ 3) && decide (bitsOf b 10 11 ≠ 0) &&
    decide ((if b.testBit 23 then 2 else 4) ≤ bitsOf b 10 11) && decide ((s.profile (bitsOf b 0 10)).valid = true) &&
    decide (bitsOf b 24 6 = (s.profile (bitsOf b 0 10)).pcrc % 64) &&
     (match exec (.faoHeaderCheck n (.fao first second)) s with
      | .next t => decide (((t.slot (.lane n)).frame.map (fun (g : RxFrame) => (g.header, g.len, g.fcsLen, g.rateByte, g.prof))) = some (true,
        bitsOf b 10 11, (if b.testBit 23 then 2 else 4), bitsOf b 21 2 + 4 * boolNat (b.testBit 23), s.profile (bitsOf b 0 10)))
      | _ => false)) &&
  (
   let s : State := { receiving (some frame0) with lanes := { rxSlot0 with desc := some 1, copy := { liveDesc.descRegs 0 with mode := 9 }, frame := some frame0 } :: live.lanes.drop 1 }
   let n : Nat := 0
   let first : List Soft := softHeader (true :: (faoHeaderBits ((receiving (some frame0)).profile 0) 0 true 20).drop 1)
   let second : List Soft := first
   let f : RxFrame := frame0
   decide (s.canonical = true) && decide ((s.slot (.lane n)).frame = some f) && decide (f.synced = true) && decide (f.header = false) &&
    decide ((s.slot (.lane n)).copy.modeCode = 9) && decide (faoHcs (faoHeaderOf first second) = false) && decide (s.radio.winShut = false) &&
    decide (s.get F.OFD_STATS_HDR_REJ + 1 < 2 ^ F.OFD_STATS_HDR_REJ.width) &&
     (match exec (.faoHeaderCheck n (.fao first second)) s with
      | .next t => decide ((t.slot (.lane n)).frame = none) && decide (t.get F.OFD_STATS_HDR_REJ = s.get F.OFD_STATS_HDR_REJ + 1)
      | _ => false)) &&
  (
   let s : State := receiving (some frame0)
   let u : RxUnit := .slice 0
   let power : Int := -100
   let f : RxFrame := frame0
   decide (s.canonical = true) && decide ((s.slot u).frame = some f) && decide (f.header = false) && decide (f.meas = none) &&
    decide (s.on F.RAD_STATE_BLANK = false) && decide (f.power + 4 * (s.get F.NBD_CAPTURE_CAPTURE_DB : Nat) ≤ power) &&
    decide (s.get F.NBD_STATS_CAPTURES + 1 < 2 ^ F.NBD_STATS_CAPTURES.width) &&
     (match exec (.captureSwitch u power) s with
      | .next t => decide ((t.slot u).frame = some (newFrame power true s.rxEntry)) &&
        decide (t.get F.NBD_STATS_CAPTURES = s.get F.NBD_STATS_CAPTURES + 1)
      | _ => false))) = true := by decide +kernel

/-- States and operands that meet the clauses of `Obligations.FrameReceptionEventsComplete` on rxDataBlock, macHeaderParsed, rxFrameEnd, frameVerdict,
and what comes of them. -/
theorem witness_FrameReceptionEventsComplete_1 : (
  (
   let s : State := { receiving none with slices := { rxSlot0 with desc := some 0, copy := { liveDesc.descRegs 0 with mode := 3 }, stream := some 0, frame := some { frame0 with header := true, len := 20 } } :: live.slices.drop 1 }
   let u : RxUnit := .slice 0
   let bytes : List Byte := [1, 2, 3]
   let f : RxFrame := { frame0 with header := true, len := 20 }
   decide (s.canonical = true) && decide ((s.slot u).frame = some f) && decide (f.header = true) && decide (f.coded (s.slot u).copy = false) &&
    decide (f.meas = none) && decide (blocksFor ((f.bytes ++ f.nextBytes (s.slot u).copy bytes).take f.len).length ≤ f.blocks.length) &&
     (match exec (.rxDataBlock u bytes) s with
      | .next t => decide ((t.slot u).frame = some { f with bytes := (f.bytes ++ f.nextBytes (s.slot u).copy bytes).take f.len }) &&
        decide (t.mem = s.mem) && decide (t.owners = s.owners) && decide (((s.slot u).copy.modeCode = 3 →
        (t.slot u).frame = some { f with bytes := (f.bytes ++ bytes).take f.len }))
      | _ => false)) &&
  (
   let s : State := (receiving (some { frame0 with header := true, len := 20, fcsLen := 2, bytes := [0x41, 0x98, 1, 0x34, 0x12, 0xFF, 0xFF, 0x78, 0x56, 9, 9, 9, 9, 9] })).put F.FRM_CFG_PROMISC 1
   let u : RxUnit := .slice 0
   let f : RxFrame := { frame0 with header := true, len := 20, fcsLen := 2, bytes := [0x41, 0x98, 1, 0x34, 0x12, 0xFF, 0xFF, 0x78, 0x56, 9, 9, 9, 9, 9] }
   let h : MacHdr := (match parseMac f.bytes 18 with | .ok h => h | _ => ⟨0, 0, false, false, false, none, none, none, none, none, 0, 0, false, false, 0, [], 0, 0, 0, []⟩)
   decide (s.canonical = true) && decide ((s.slot u).frame = some f) && decide (f.header = true) && decide (f.mac = none) &&
    decide (f.badHdr = false) && decide ((s.slot u).copy.macFrames = true) && decide (parseMac f.bytes (f.len - f.fcsLen) = .ok h) &&
    decide (s.earlyStage { f with mac := some h } = 0) && decide (h.srcAddr.isSome = true) &&
     (match exec (.macHeaderParsed u) s with
      | .next t => decide (((t.slot u).frame.map (fun (g : RxFrame) => (g.mac, g.lookup, g.early))) = some (some h, LookupState.waiting, 0)) &&
        decide (t.shared.length = s.shared.length + 1) &&
        decide ((t.shared.getLast?.map (fun (r : SharedReq) => (r.unit, r.who))) = some (SharedUnit.lookup, ReqFor.rx u f.tstamp)) &&
        decide (t.regs = s.regs)
      | _ => false)) &&
  (
   let s : State := receiving (some { frame0 with header := true, len := 3, bytes := [1, 2, 3] })
   let u : RxUnit := .slice 0
   let m : Measures := ⟨-280, 40, 0, []⟩
   let f : RxFrame := { frame0 with header := true, len := 3, bytes := [1, 2, 3] }
   decide (s.canonical = true) && decide ((s.slot u).frame = some f) && decide (f.header = true) && decide (f.meas = none) &&
    decide (f.bytes.length = f.len ∨ f.coded (s.slot u).copy = true) &&
     (match exec (.rxFrameEnd u m) s with
      | .next t => decide ((t.slot u).frame = some { f with meas := some m, endAt := s.count }) && decide (t.regs = s.regs) &&
        decide (t.mem = s.mem) && decide (t.radio.minT0.isSome = true)
      | _ => false)) &&
  (
   let s : State := { (receiving (some { frame0 with header := true, len := 3, bytes := [1, 2, 3], meas := some ⟨-280, 40, 0, []⟩ })) with slices := { rxSlot0 with desc := some 0, copy := { liveDesc.descRegs 0 with mode := 0x70002 }, frame := some { frame0 with header := true, len := 3, bytes := [1, 2, 3], meas := some ⟨-280, 40, 0, []⟩ } } :: live.slices.drop 1, owners := List.replicate 512 .receive }
   let n : Nat := 0
   let f : RxFrame := { frame0 with header := true, len := 3, bytes := [1, 2, 3], meas := some ⟨-280, 40, 0, []⟩ }
   let m : Measures := ⟨-280, 40, 0, []⟩
   decide (s.canonical = true) && decide ((s.slot (.slice n)).frame = some f) && decide (f.bytes.length = f.len) && decide (f.meas = some m) &&
    decide ((s.slot (.slice n)).copy.macFrames = false) && decide (f.mac = none) && decide (f.lookup = .idle) && decide (f.spec = none) &&
    decide (f.entry = none) && decide (s.radio.op = none) && decide (s.radio.winShut = false) &&
    decide (fcsCode (s.slot (.slice n)).copy f ≠ 2) && decide (s.forwards = false) && decide (f.blocks ≠ []) &&
    decide (blocksFor (f.bytes.length + 32) ≤ f.blocks.length) && decide ((∀ b ∈ f.blocks, b < s.owners.length)) &&
     (match exec (.frameVerdict (.slice n)) s with
      | .next t => decide (t.rxq = s.rxq ++ [f.blocks.headD 0]) && decide ((t.slot (.slice n)).frame = none) &&
        decide (t.rxSeq = (s.rxSeq + 1) % 2 ^ 32) && decide ((∀ b ∈ f.blocks, t.owner b = Owner.software))
      | _ => false))) = true := by decide +kernel

/-- States and operands that meet the clauses of `Obligations.FrameReceptionEventsComplete` on frameVerdict, segmentRequest, segmentDone,
softBitOverflow, and what comes of them. -/
theorem witness_FrameReceptionEventsComplete_2 : (
  (
   let s : State := { (receiving (some { frame0 with fcsLen := 2, header := true, len := 3, bytes := [1, 2, 3], meas := some ⟨-280, 40, 0, []⟩ })) with slices := { rxSlot0 with desc := some 0, copy := { liveDesc.descRegs 0 with mode := 0x44002 }, frame := some { frame0 with fcsLen := 2, header := true, len := 3, bytes := [1, 2, 3], meas := some ⟨-280, 40, 0, []⟩ } } :: live.slices.drop 1, owners := List.replicate 512 .receive }
   let n : Nat := 0
   let f : RxFrame := { frame0 with fcsLen := 2, header := true, len := 3, bytes := [1, 2, 3], meas := some ⟨-280, 40, 0, []⟩ }
   let m : Measures := ⟨-280, 40, 0, []⟩
   decide (s.canonical = true) && decide ((s.slot (.slice n)).frame = some f) && decide (f.bytes.length = f.len) && decide (f.meas = some m) &&
    decide ((s.slot (.slice n)).copy.macFrames = false) && decide (f.mac = none) && decide (f.lookup = .idle) && decide (f.spec = none) &&
    decide (f.entry = none) && decide (s.radio.op = none) && decide (s.radio.winShut = false) &&
    decide (fcsCode (s.slot (.slice n)).copy f = 2) && decide (s.on F.FRM_CFG_KEEP_BAD_FCS = false) &&
    decide (s.get F.FRM_DROP1_FCS + 1 < 2 ^ F.FRM_DROP1_FCS.width) &&
     (match exec (.frameVerdict (.slice n)) s with
      | .next t => decide (t.rxq = s.rxq) && decide ((t.slot (.slice n)).frame = none) && decide (t.get F.FRM_DROP1_FCS = s.get F.FRM_DROP1_FCS + 1)
      | _ => false)) &&
  (
   let s : State := receiving (some { frame0 with header := true })
   let u : RxUnit := .lane 0
   let soft : List Soft := List.replicate 128 3
   let final : Bool := false
   let f : RxFrame := { frame0 with header := true }
   let xs : List (Soft × Soft) := f.steps (s.slot u).copy soft
   decide (s.canonical = true) && decide ((s.slot u).frame = some f) && decide (f.coded (s.slot u).copy = true) && decide (f.synced = true) &&
    decide (f.stream.final = false) && decide ((s.slot u).copy.onLane = true → f.header = true) && decide (xs = f.steps (s.slot u).copy soft) &&
    decide (xs.length ≤ 128) && decide (final = false → xs.length = 64) &&
    decide (((s.shared ++ s.inService).filter (fun (r : SharedReq) => r.unit == .decoder &&
    r.servesRx u)).foldl (fun a (r : SharedReq) => a + r.soft.length) 0 + xs.length ≤ 512) &&
     (match exec (.segmentRequest u soft final) s with
      | .next t => decide (t.shared = s.shared ++ [(⟨.decoder, s.rxDeadline u f, unitRank u, .rx u f.tstamp, xs, final⟩ : SharedReq)]) &&
        decide (t.regs = s.regs) &&
        decide ((t.slot u).frame = some { f with stream := { f.stream with sent := f.stream.sent + xs.length, final := final } })
      | _ => false)) &&
  (
   let s : State := { receiving (some { frame0 with stream := ⟨0, false, ConvCode.k7.fresh⟩ }) with inService := [⟨.decoder, 9, 0, .rx (.lane 0) 0, softStream [true, false, true, true], true⟩] }
   let waitNs : Nat := 1500
   let stamp : Nat := 0
   let r : SharedReq := ⟨.decoder, 9, 0, .rx (.lane 0) 0, softStream [true, false, true, true], true⟩
   let u : RxUnit := .lane 0
   let f : RxFrame := { frame0 with stream := ⟨0, false, ConvCode.k7.fresh⟩ }
   decide (s.canonical = true) && decide (s.inService.find? (fun r => r.unit == .decoder) = some r) && decide (r.who = .rx u stamp) &&
    decide (s.stampedFrame u stamp = some f) && decide (r.final = true) && decide (waitNs ≤ 3500) &&
     (match exec (.segmentDone waitNs) s with
      | .next t => decide (t.inService = removeFirst (· == r) s.inService) &&
        decide (t.get F.FEC_WAIT_MAX_FINAL = max (s.get F.FEC_WAIT_MAX_FINAL) waitNs)
      | _ => false)) &&
  (
   let s : State := receiving (some frame0)
   let u : RxUnit := .lane 0
   let f : RxFrame := frame0
   decide (s.canonical = true) && decide ((s.slot u).frame = some f) && decide (f.coded (s.slot u).copy = true) && decide (f.synced = true) &&
    decide (s.radio.op = none) && decide (s.radio.winShut = false) && decide (s.get F.FEC_STATS_OVERFLOW + 1 < 2 ^ F.FEC_STATS_OVERFLOW.width) &&
     (match exec (.softBitOverflow u) s with
      | .next t => decide ((t.slot u).frame = none) && decide (t.get F.FEC_STATS_OVERFLOW = s.get F.FEC_STATS_OVERFLOW + 1)
      | _ => false))) = true := by decide +kernel

/-- States and operands that meet the clauses of `Obligations.SpeculationEventsComplete` on nbtLookupReturn, securityRequest, and what comes of them.
-/
theorem witness_SpeculationEventsComplete_1 : (
  (
   let s : State := { receiving (some { frameV with lookup := .waiting }) with inService := [⟨.lookup, 9, 0, .rx (.slice 0) 0, [], false⟩] }
   let u : RxUnit := .slice 0
   let f : RxFrame := { frameV with lookup := .waiting }
   let h : MacHdr := mac0
   let k : NbtKey := ⟨false, natLe 8 1⟩
   let r : SharedReq := ⟨.lookup, 9, 0, .rx (.slice 0) 0, [], false⟩
   decide (s.canonical = true) && decide (s.inService.find? (fun r => r.unit == .lookup && r.servesRx u) = some r) &&
    decide (s.shared.any (fun x => x.unit == .hveLookup && x.who == r.who) = false) && decide ((s.slot u).frame = some f) &&
    decide (s.reqFrame r = some (u, f.tstamp, h)) && decide (s.enabled P.NBT = true) && decide (s.sourceKey h = some k) &&
    decide (s.homeOf (keyHash k) = s.myPos) && decide (s.searchBad k = false) && decide (s.findKey k = none) &&
    decide (s.get F.NBT_STATS_MISSES + 1 < 2 ^ F.NBT_STATS_MISSES.width) &&
     (match exec (.nbtLookupReturn u) s with
      | .next t => decide (((t.slot u).frame.map (fun (g : RxFrame) => g.lookup)) = some (.notFound : LookupState)) &&
        decide (t.inService = removeFirst (· == r) s.inService) && decide (t.get F.NBT_STATS_MISSES = s.get F.NBT_STATS_MISSES + 1)
      | _ => false)) &&
  (
   let s : State := let s0 : State := { receiving (some { frameV with lookup := .waiting }) with inService := [⟨.lookup, 9, 0, .rx (.slice 0) 0, [], false⟩] }; ((s0.setEntW (4 * s0.bucketOf (keyHash ⟨false, natLe 8 1⟩)) 0 1).setEntW (4 * s0.bucketOf (keyHash ⟨false, natLe 8 1⟩)) 5 65536)
   let u : RxUnit := .slice 0
   let f : RxFrame := { frameV with lookup := .waiting }
   let h : MacHdr := mac0
   let k : NbtKey := ⟨false, natLe 8 1⟩
   let r : SharedReq := ⟨.lookup, 9, 0, .rx (.slice 0) 0, [], false⟩
   let n : Nat := 4 * s.bucketOf (keyHash k)
   decide (s.canonical = true) && decide (s.inService.find? (fun r => r.unit == .lookup && r.servesRx u) = some r) &&
    decide (s.shared.any (fun x => x.unit == .hveLookup && x.who == r.who) = false) && decide ((s.slot u).frame = some f) &&
    decide (s.reqFrame r = some (u, f.tstamp, h)) && decide (s.enabled P.NBT = true) && decide (s.sourceKey h = some k) &&
    decide (s.homeOf (keyHash k) = s.myPos) && decide (s.searchBad k = false) && decide (s.findKey k = some n) &&
    decide (s.entFlag n efAlias = false) && decide (s.globalIx n / 16384 = s.myPos) && decide (s.globalIx n % 16384 = n) &&
    decide (s.hvl.rsv.any (fun r => r.2.1 == n) = false) &&
     (match exec (.nbtLookupReturn u) s with
      | .next t => decide (((t.slot u).frame.map (fun (g : RxFrame) => g.lookup)) = some (.found ⟨s.globalIx n, s.entWords n, none⟩ : LookupState))
        && decide (t.inService = removeFirst (· == r) s.inService)
      | _ => false)) &&
  (
   let s : State := let s0 : State := { receiving (some { frameV with lookup := .waiting }) with inService := [⟨.lookup, 9, 0, .rx (.slice 0) 0, [], false⟩], hvl := { live.hvl with rsv := [(1, 4 * live.bucketOf (keyHash ⟨false, natLe 8 1⟩), 7)] } }; ((s0.setEntW (4 * s0.bucketOf (keyHash ⟨false, natLe 8 1⟩)) 0 1).setEntW (4 * s0.bucketOf (keyHash ⟨false, natLe 8 1⟩)) 5 65536)
   let u : RxUnit := .slice 0
   let f : RxFrame := { frameV with lookup := .waiting }
   let h : MacHdr := mac0
   let k : NbtKey := ⟨false, natLe 8 1⟩
   let r : SharedReq := ⟨.lookup, 9, 0, .rx (.slice 0) 0, [], false⟩
   let n : Nat := 4 * s.bucketOf (keyHash k)
   decide (s.canonical = true) && decide (s.inService.find? (fun r => r.unit == .lookup && r.servesRx u) = some r) &&
    decide (s.shared.any (fun x => x.unit == .hveLookup && x.who == r.who) = false) && decide ((s.slot u).frame = some f) &&
    decide (s.reqFrame r = some (u, f.tstamp, h)) && decide (s.enabled P.NBT = true) && decide (s.sourceKey h = some k) &&
    decide (s.homeOf (keyHash k) = s.myPos) && decide (s.searchBad k = false) && decide (s.findKey k = some n) &&
    decide (s.entFlag n efAlias = false) && decide (s.globalIx n / 16384 = s.myPos) && decide (s.globalIx n % 16384 = n) &&
    decide (s.hvl.rsv.any (fun r => r.2.1 == n) = true) &&
     (match exec (.nbtLookupReturn u) s with
      | .next t => decide (((t.slot u).frame.map (fun (g : RxFrame) => g.lookup)) = some (.inFlight ⟨s.globalIx n, s.entWords n, none⟩ :
        LookupState)) && decide (t.inService = removeFirst (· == r) s.inService)
      | _ => false)) &&
  (
   let s : State := receiving (some { frameV with mac := some { mac0 with secured := true } })
   let u : RxUnit := .slice 0
   let f : RxFrame := { frameV with mac := some { mac0 with secured := true } }
   let h : MacHdr := { mac0 with secured := true }
   decide ((s.slot u).frame = some f) && decide (f.mac = some h) && decide (h.secured = true) && decide (s.enabled P.SEC = true) &&
     (match exec (.securityRequest (.rx u)) s with
      | .next t => decide (t.shared = s.shared ++ [(⟨.security, s.rxDeadline u f, unitRank u, .rx u f.tstamp, [], f.meas.isSome⟩ : SharedReq)]) &&
        decide (t.regs = s.regs) && decide (t.mem = s.mem)
      | _ => false))) = true := by decide +kernel

/-- States and operands that meet the clauses of `Obligations.SpeculationEventsComplete` on securityRequest, sharedRequestServed, and what comes of
them. -/
theorem witness_SpeculationEventsComplete_2 : (
  (
   let s : State := (sending .onAir).setMemNat (blockAddr 3 + 4) 4 (5 + 2 * 0x80000 + 0x800000)
   let n : Nat := 1
   let j : TxJob := { job0 with stage := .onAir }
   decide (s.radio.tx = some j) && decide (j.src = .op) && decide (s.chainSecure j.head = true) &&
    decide (j.stage = .wait ∨ j.stage = .sequence ∨ j.stage = .rampUp ∨ j.stage = .onAir) && decide (s.enabled P.SEC = true) &&
     (match exec (.securityRequest (.tx n)) s with
      | .next t => decide (t.shared = s.shared ++ [(⟨.security, subTicks (s.needAt j (16 * n)) (usTicks 4), 0, .tx, [], false⟩ : SharedReq)]) &&
        decide (t.regs = s.regs) && decide (t.mem = s.mem)
      | _ => false)) &&
  (
   let s : State := { speculating with ctxs := { ctxB with key := some [] } :: speculating.ctxs.drop 1 }
   let k : Nat := 0
   let c : AckCtx := { ctxB with key := some [] }
   decide (s.ctxs[k]? = some c) && decide (c.busy = true) && decide (c.committed = false) && decide (c.key.isSome = true) &&
    decide (s.enabled P.SEC = true) &&
     (match exec (.securityRequest (.ack k)) s with
      | .next t => decide (t.shared = s.shared ++ [(⟨.security, subTicks c.t0 (usTicks 12), unitRank c.unit, .ack k, [], false⟩ : SharedReq)]) &&
        decide (t.regs = s.regs) && decide (t.mem = s.mem)
      | _ => false)) &&
  (
   let s : State := { live with shared := [⟨.decoder, 9, 0, .rx (.lane 0) 0, [], true⟩] }
   let r : SharedReq := ⟨.decoder, 9, 0, .rx (.lane 0) 0, [], true⟩
   decide (s.inService.any (fun r => r.unit == .decoder) = false) && decide (s.underTest 0x1200 = false) &&
    decide (firstReq s.count .decoder s.shared = some r) && decide ((!notBefore s.count r.deadline || r.deadline == s.count) = true) &&
     (match exec (.sharedRequestServed .decoder) s with
      | .next t => decide (t.inService = s.inService ++ [r]) && decide (t.shared = removeFirst (· == r) s.shared) && decide (t.regs = s.regs)
      | _ => false)) &&
  (
   let s : State := { live with shared := [⟨.security, 9, 0, .rx (.lane 0) 0, [], true⟩] }
   let r : SharedReq := ⟨.security, 9, 0, .rx (.lane 0) 0, [], true⟩
   decide (s.inService.any (fun r => r.unit == .security) = false) && decide (firstReq s.count .security s.shared = some r) &&
    decide ((!notBefore s.count r.deadline || r.deadline == s.count) = true) &&
     (match exec (.sharedRequestServed .security) s with
      | .next t => decide (t.shared = removeFirst (· == r) s.shared) && decide (t.regs = s.regs) && decide (t.inService = s.inService)
      | _ => false)) &&
  (
   let s : State := { receiving (some frameV) with shared := [⟨.lookup, 9, 0, .rx (.slice 0) 0, [], false⟩] }
   let r : SharedReq := ⟨.lookup, 9, 0, .rx (.slice 0) 0, [], false⟩
   let u : RxUnit := .slice 0
   let st : Nat := 0
   let h : MacHdr := mac0
   let k : NbtKey := ⟨false, natLe 8 1⟩
   decide (s.inService.any (fun r => r.unit == .lookup) = false) && decide (firstReq s.count .lookup s.shared = some r) &&
    decide ((!notBefore s.count r.deadline || r.deadline == s.count) = true) && decide (s.reqFrame r = some (u, st, h)) &&
    decide (s.sourceKey h = some k) && decide (s.homeOf (keyHash k) = s.myPos) &&
     (match exec (.sharedRequestServed .lookup) s with
      | .next t => decide (t.inService = s.inService ++ [r]) && decide (t.shared = removeFirst (· == r) s.shared) && decide (t.regs = s.regs)
      | _ => false))) = true := by decide +kernel

/-- States and operands that meet the clauses of `Obligations.SpeculationEventsComplete` on sharedRequestServed, speculationStart, contextBlockTake,
commit, and what comes of them (of contextBlockTake the hypotheses only: a free value or a long computation stands in the result). -/
theorem witness_SpeculationEventsComplete_3 : (
  (
   let s : State := let c : State := (chained 0 3).put F.HVL_MEMBERS_JOINED 7; { receiving (some frameV) with shared := [⟨.hveLookup, 9, 0, .rx (.slice 0) 0, [], false⟩], inService := [⟨.lookup, 9, 0, .rx (.slice 0) 0, [], false⟩], regs := c.regs, hvl := c.hvl, slices := (receiving (some { frameV with mac := some { mac0 with srcAddr := some (.ext 9) } })).slices }
   let r : SharedReq := ⟨.hveLookup, 9, 0, .rx (.slice 0) 0, [], false⟩
   let u : RxUnit := .slice 0
   let st : Nat := 0
   let h : MacHdr := { mac0 with srcAddr := some (.ext 9) }
   let k : NbtKey := ⟨false, natLe 8 9⟩
   decide (s.inService.any (fun r => r.unit == .hveLookup) = false) && decide (firstReq s.count .hveLookup s.shared = some r) &&
    decide ((!notBefore s.count r.deadline || r.deadline == s.count) = true) && decide (s.reqFrame r = some (u, st, h)) &&
    decide (s.sourceKey h = some k) && decide (s.homeUp (s.homeOf (keyHash k)) = true) &&
     (match exec (.sharedRequestServed .hveLookup) s with
      | .next t => decide (t.inService = removeFirst (fun (x : SharedReq) => x.unit == SharedUnit.lookup && x.who == r.who) s.inService) &&
        decide (t.shared = removeFirst (· == r) s.shared) &&
        decide (t.hvl.waits = s.hvl.waits ++ [(⟨s.hvl.next, s.homeOf (keyHash k), some (u, st), none, 4, natLe 1 (boolNat (s.wantsAck (s.slot
        u).copy h))⟩ : Outstanding)])
      | _ => false)) &&
  (
   let s : State := { speculating with slices := { rxSlot0 with desc := some 0, copy := liveDesc.descRegs 0, stream := some 0, frame := some { frameV with judged := some 0 } } :: live.slices.drop 1 }
   let u : RxUnit := .slice 0
   let f : RxFrame := { frameV with judged := some 0 }
   let h : MacHdr := mac0
   let v : NbtView := ⟨5, [1, 0, 0, 0, 0, 65536, 0, 0], none⟩
   let k : Nat := 0
   decide (s.canonical = true) && decide ((s.slot u).frame = some f) && decide (f.mac = some h) && decide (f.spec = none) &&
    decide (f.squashed = false) && decide (s.wantsAck (s.slot u).copy h = true) && decide (f.early = 0) && decide (f.judged = some 0) &&
    decide (f.lookup = .found v) && decide (f.meas = none) && decide (wordsFlag v.words efBlocked = false) &&
    decide (wordsFlag v.words efRetired = false) && decide (v.index / 16384 = s.myPos) && decide (s.outSpent (v.index % 16384) = false) &&
    decide (f.lateInput = false) && decide (s.rivalBefore u f = false) && decide (s.rivalsAfter u f = []) &&
    decide (s.ctxs.findIdx? (fun c => !c.busy && c.block.isSome) = some k) && decide (s.committedAir = []) &&
    decide (inTxBand (s.txFreq (s.slot u).copy.freq) = true) && decide (s.crs.reserved = []) &&
     (match exec (.speculationStart u) s with
      | .next t => decide (((t.slot u).frame.map (fun (g : RxFrame) => g.spec)) = some (some k)) && decide ((t.ctxs.getD k ctx0).busy = true) &&
        decide ((t.ctxs.getD k ctx0).committed = false) && decide ((t.ctxs.getD k ctx0).unit = u) &&
        decide ((t.ctxs.getD k ctx0).index = v.index) &&
        decide ((t.ctxs.getD k ctx0).t0 = addTicks f.endAt (usTicks (s.ackIfs (s.slot u).copy f))) && decide (t.crs.reserved = [CrsUser.ack k])
      | _ => false)) &&
  (
   let s : State := { speculating with slices := { rxSlot0 with desc := some 0, copy := liveDesc.descRegs 0, frame := some { frameV with lookup := .notFound, judged := some 0 } } :: live.slices.drop 1 }
   let u : RxUnit := .slice 0
   let f : RxFrame := { frameV with lookup := .notFound, judged := some 0 }
   let h : MacHdr := mac0
   decide (s.canonical = true) && decide ((s.slot u).frame = some f) && decide (f.mac = some h) && decide (f.spec = none) &&
    decide (f.squashed = false) && decide (s.wantsAck (s.slot u).copy h = true) && decide (f.early = 0) && decide (f.judged = some 0) &&
    decide (f.lookup = .notFound) && decide (s.get F.LNK_SPEC_STAT_SQUASHES + 1 < 2 ^ F.LNK_SPEC_STAT_SQUASHES.width) &&
     (match exec (.speculationStart u) s with
      | .next t => decide (((t.slot u).frame.map (fun (g : RxFrame) => g.squashed)) = some true) && decide (t.get F.LNK_SPEC_LOSS_REASON = 4) &&
        decide (t.get F.LNK_SPEC_STAT_SQUASHES = s.get F.LNK_SPEC_STAT_SQUASHES + 1)
      | _ => false)) &&
  (
   let s : State := live
   decide (s.canonical = true) && decide (s.enabled P.LNK = true) && decide (s.owners.length = 512) && decide (s.ctxs.length ≤ s.freeCount)) &&
  (
   let s : State := { speculating with ctxs := ctxB :: speculating.ctxs.drop 1 }
   let u : RxUnit := .slice 0
   let k : Nat := 0
   let c : AckCtx := ctxB
   decide (s.canonical = true) && decide (s.ctxOf u = some k) && decide (s.ctxs[k]? = some c) && decide (c.passed = true) &&
    decide (s.commitBar c = 0) && decide (c.index / 16384 = s.myPos) &&
    decide (s.get F.LNK_SPEC_STAT_COMMITS + 1 < 2 ^ F.LNK_SPEC_STAT_COMMITS.width) &&
     (match exec (.commit u) s with
      | .next t => decide (t.ctxs[k]? = some { c with committed := true }) &&
        decide (t.get F.LNK_SPEC_STAT_COMMITS = s.get F.LNK_SPEC_STAT_COMMITS + 1)
      | _ => false))) = true := by decide +kernel

/-- States and operands that meet the clauses of `Obligations.SpeculationEventsComplete` on squash, commitDeadline, receiveWindowClose, and what comes
of them. -/
theorem witness_SpeculationEventsComplete_4 : (
  (
   let s : State := { speculating with ctxs := { ctxB with passed := false, index := 6 } :: speculating.ctxs.drop 1 }
   let u : RxUnit := .slice 0
   let k : Nat := 0
   let c : AckCtx := { ctxB with passed := false, index := 6 }
   decide (s.canonical = true) && decide (s.ctxOf u = some k) && decide (s.ctxs[k]? = some c) && decide (c.passed = false) &&
    decide (s.get F.LNK_SPEC_STAT_SQUASHES + 1 < 2 ^ F.LNK_SPEC_STAT_SQUASHES.width) && decide (s.airTaken c.t0 (s.ackTicks c) = false) &&
    decide (s.commitBar c ≠ 0) &&
     (match exec (.squash u) s with
      | .next t => decide ((t.ctxs.getD k ctx0).busy = false) && decide (t.get F.LNK_SPEC_LOSS_REASON = s.commitBar c) &&
        decide (t.get F.LNK_SPEC_STAT_SQUASHES = s.get F.LNK_SPEC_STAT_SQUASHES + 1)
      | _ => false)) &&
  (
   let s : State := { speculating with count := 2000000, ctxs := { ctxB with passed := false } :: speculating.ctxs.drop 1 }
   let u : RxUnit := .slice 0
   let k : Nat := 0
   let c : AckCtx := { ctxB with passed := false }
   decide (s.canonical = true) && decide (s.ctxOf u = some k) && decide (s.ctxs[k]? = some c) && decide (c.passed = false) &&
    decide (s.get F.LNK_SPEC_STAT_SQUASHES + 1 < 2 ^ F.LNK_SPEC_STAT_SQUASHES.width) &&
    decide (notBefore s.count (subTicks c.t0 (usTicks 12)) = true) &&
     (match exec (.commitDeadline u) s with
      | .next t => decide ((t.ctxs.getD k ctx0).busy = false) && decide (t.get F.LNK_SPEC_LOSS_REASON = 5) &&
        decide (t.get F.LNK_SPEC_STAT_SQUASHES = s.get F.LNK_SPEC_STAT_SQUASHES + 1)
      | _ => false)) &&
  (
   let s : State := { speculating with count := 2000000, slices := { rxSlot0 with desc := some 0, copy := liveDesc.descRegs 0, frame := some { frameV with lookup := .waiting } } :: live.slices.drop 1 }
   let u : RxUnit := .slice 0
   let f : RxFrame := { frameV with lookup := .waiting }
   let h : MacHdr := mac0
   decide (s.canonical = true) && decide ((s.slot u).frame = some f) && decide (f.mac = some h) && decide (f.spec = none) &&
    decide (f.squashed = false) && decide (s.wantsAck (s.slot u).copy h = true) && decide (s.ctxOf u = none) && decide (f.lookup = .waiting) &&
    decide (f.header = true) && decide (s.headStage f true = 0) && decide (notBefore s.count (s.frameDeadline u f) = true) &&
    decide (s.get F.LNK_SPEC_STAT_SQUASHES + 1 < 2 ^ F.LNK_SPEC_STAT_SQUASHES.width) &&
     (match exec (.commitDeadline u) s with
      | .next t => decide (((t.slot u).frame.map (fun (g : RxFrame) => g.squashed)) = some true) && decide (t.get F.LNK_SPEC_LOSS_REASON = 5) &&
        decide (t.get F.LNK_SPEC_STAT_SQUASHES = s.get F.LNK_SPEC_STAT_SQUASHES + 1)
      | _ => false)) &&
  (
   let s : State := withEnt { entry0 with words := [0, 0, 0, 100], state := .dispatched } { receiving (some frame0) with count := 1000, radio := { live.radio with op := some { op0 with src := .entry 0, opcode := 2, exit := 2 } } }
   let o : RadOp := { op0 with src := .entry 0, opcode := 2, exit := 2 }
   decide (s.radio.op = some o) && decide (o.opcode = opRx ∨ o.opcode = opRxMulti) && decide ((s.srcWords o.src).getD 3 0 % 2 ^ 20 ≠ 0) &&
    decide (notBefore s.count (addTicks o.instant (usTicks ((s.srcWords o.src).getD 3 0 % 2 ^ 20))) = true) && decide (s.frameUnderWay = true) &&
     (match exec .receiveWindowClose s with
      | .next t => decide (t.radio = { s.radio with winShut := true }) && decide (t.regs = s.regs)
      | _ => false)) &&
  (
   let s : State := withEnt { entry0 with words := [0, 0, 0, 100], state := .dispatched } { receiving none with count := 1000, radio := { live.radio with op := some { op0 with src := .entry 0, opcode := 2, exit := 2 } } }
   let o : RadOp := { op0 with src := .entry 0, opcode := 2, exit := 2 }
   let n : Nat := 0
   decide (s.canonical = true) && decide (s.radio.op = some o) && decide (o.opcode = opRx ∨ o.opcode = opRxMulti) &&
    decide ((s.srcWords o.src).getD 3 0 % 2 ^ 20 ≠ 0) &&
    decide (notBefore s.count (addTicks o.instant (usTicks ((s.srcWords o.src).getD 3 0 % 2 ^ 20))) = true) && decide (s.frameUnderWay = false) &&
    decide (o.src = .entry n) && decide (n < s.timeline.length) && decide (s.radio.waitAck = false) && decide (o.exit = 2) &&
    decide (s.waits = false) &&
     (match exec .receiveWindowClose s with
      | .next t => decide (t.radio.op = none) &&
        decide (((t.ent n).ended.map (fun (e : EntryEnd) => (e.status, e.noFrame))) = some (1, !s.radio.winSync))
      | _ => false))) = true := by decide +kernel

/-- States and operands that meet the clauses of `Obligations.TimelineCommandsComplete` on arm, cancel, read, cancelAll, done, and what comes of them.
-/
theorem witness_TimelineCommandsComplete_1 : (
  (
   let s : State := (live.setRegI .apc (Reg.LNK_ENT_W 1) (BitVec.ofNat 32 (2 * 2 ^ 20))).setRegI .apc (Reg.LNK_ENT_W 0) 5000
   let i : Initiator := .apc
   let r : RegRow := rowAt (P.LNK) 0x108
   decide (s.takes i P.LNK 0x108 1 r = true) && decide (s.canonical = true) && decide (s.enabled P.LNK = true) && decide (s.hvlSlave = false) &&
    decide (s.noDevice (s.getI i F.LNK_ENT_SEL_DEVICE) = false) && decide (s.getI i F.LNK_ENT_SEL_DEVICE = s.myPos) &&
    decide (s.getI i F.LNK_ENT_SEL_INDEX < s.timeline.length) && decide (s.noDevice (entDevice (s.staged i)) = false) &&
    decide ((s.ent (s.getI i F.LNK_ENT_SEL_INDEX)).state ≠ EntryState.dispatched) && decide (s.entMalformed (s.staged i) = false) &&
     (match exec (.arm i) s with
      | .next t => decide ((t.ent (s.getI i F.LNK_ENT_SEL_INDEX)).words = s.staged i) &&
        decide ((t.ent (s.getI i F.LNK_ENT_SEL_INDEX)).state = (if entMode (s.staged i) = 0 then EntryState.armed else EntryState.wait)) &&
        decide ((entMode (s.staged i) = 0 →
        (t.ent (s.getI i F.LNK_ENT_SEL_INDEX)).start = (s.staged i).getD 0 0 + (s.staged i).getD 1 0 % 65536 * 2 ^ 32)) &&
        decide (t.getI i F.LNK_ENT_RES_RESULT = 0)
      | _ => false)) &&
  (
   let s : State := withEnt { entry0 with words := rxWords, state := .armed, start := 5000 } live
   let i : Initiator := .apc
   let r : RegRow := rowAt (P.LNK) 0x108
   decide (s.takes i P.LNK 0x108 2 r = true) && decide (s.canonical = true) && decide (s.enabled P.LNK = true) && decide (s.hvlSlave = false) &&
    decide (s.noDevice (s.getI i F.LNK_ENT_SEL_DEVICE) = false) && decide (s.getI i F.LNK_ENT_SEL_DEVICE = s.myPos) &&
    decide (s.getI i F.LNK_ENT_SEL_INDEX < s.timeline.length) &&
    decide ((s.ent (s.getI i F.LNK_ENT_SEL_INDEX)).state = EntryState.armed ∨ (s.ent (s.getI i F.LNK_ENT_SEL_INDEX)).state = EntryState.wait) &&
     (match exec (.cancel i) s with
      | .next t => decide ((t.ent (s.getI i F.LNK_ENT_SEL_INDEX)).state = EntryState.empty) &&
        decide ((t.ent (s.getI i F.LNK_ENT_SEL_INDEX)).last = 5) && decide (t.getI i F.LNK_ENT_RES_RESULT = 0)
      | _ => false)) &&
  (
   let s : State := withEnt { entry0 with words := rxWords, state := .armed, start := 5000 } live
   let i : Initiator := .apc
   let r : RegRow := rowAt (P.LNK) 0x108
   decide (s.takes i P.LNK 0x108 3 r = true) && decide (s.canonical = true) && decide (s.enabled P.LNK = true) && decide (s.hvlSlave = false) &&
    decide (s.noDevice (s.getI i F.LNK_ENT_SEL_DEVICE) = false) && decide (s.getI i F.LNK_ENT_SEL_DEVICE = s.myPos) &&
    decide (s.getI i F.LNK_ENT_SEL_INDEX < s.timeline.length) &&
     (match exec (.read i) s with
      | .next t => decide ((∀ n ∈ List.range 8, t.regI i (Reg.LNK_ENT_W n) = BitVec.ofNat 32 ((s.entReadWords (s.getI i F.LNK_ENT_SEL_INDEX)).getD n
        0))) && decide (t.timeline = s.timeline) && decide (t.getI i F.LNK_ENT_RES_RESULT = 0)
      | _ => false)) &&
  (
   let s : State := withEnt { entry0 with words := rxWords, state := .armed, start := 5000 } live
   let i : Initiator := .apc
   let r : RegRow := rowAt (P.LNK) 0x108
   decide (s.takes i P.LNK 0x108 4 r = true) && decide (s.canonical = true) && decide (s.enabled P.LNK = true) && decide (s.hvlSlave = false) &&
    decide (s.noDevice (s.getI i F.LNK_ENT_SEL_DEVICE) = false) && decide (s.getI i F.LNK_ENT_SEL_DEVICE = s.myPos) &&
    decide (s.getI i F.LNK_ENT_SEL_INDEX < s.timeline.length) &&
     (match exec (.cancelAll i) s with
      | .next t => decide ((∀ j ∈ List.range 128, (t.ent j).state ≠ EntryState.armed ∧ (t.ent j).state ≠ EntryState.wait)) &&
        decide ((∀ j ∈ List.range 128, (s.ent j).state = EntryState.dispatched → t.ent j = s.ent j))
      | _ => false)) &&
  (
   let s : State := { live with doneQ := [⟨0x81, 77⟩] }
   let i : Initiator := .apc
   let d : DoneRec := ⟨0x81, 77⟩
   let q : List DoneRec := []
   decide (s.offers i P.LNK 0x110 = true) && decide (s.canonical = true) && decide (s.enabled P.LNK = true) && decide (s.doneQ = d :: q) &&
     (match exec (.done i) s with
      | .next t => decide (t.out.get i = (⟨BitVec.ofNat 32 d.word, .ok⟩ : BusAnswer)) && decide (t.doneQ = q) &&
        decide (t.regI i Reg.LNK_DONE_T = BitVec.ofNat 32 d.time) && decide (t.regs = s.regs)
      | _ => false))) = true := by decide +kernel

/-- States and operands that meet the clauses of `Obligations.TimelineCommandsComplete` on handOver, entryStart, entryCompletion, runAhead, and what
comes of them. -/
theorem witness_TimelineCommandsComplete_2 : (
  (
   let s : State := withEnt { entry0 with words := rxWords, state := .armed, start := 50 } live
   let n : Nat := 0
   decide (s.canonical = true) && decide (s.lnkRuns = true) && decide (s.dueEntry = some n) && decide ((s.ent n).soon = false) &&
    decide (s.enabled P.RAD = true) && decide (entOp (s.ent n).words = opRx ∨ entOp (s.ent n).words = opMark) &&
    decide ((s.namedUnits (entRadOp n (s.ent n).words (s.ent n).start)).all (fun u => unitPresent s.variant u && !s.isRetired u) = true) &&
     (match exec .handOver s with
      | .next t => decide ((t.ent n).state = EntryState.dispatched) && decide ((entOp (s.ent n).words = opRx →
        t.radio.tslot = some (entRadOp n (s.ent n).words (s.ent n).start) ∧ t.radio.tBlock = none)) && decide ((entOp (s.ent n).words = opMark →
        t.radio = s.radio))
      | _ => false)) &&
  (
   let s : State := { withEnt { entry0 with words := [50, 11 * 2 ^ 20, 0, 0, 0, 0, 0, 0], state := .dispatched, start := 50 } live with count := 50 }
   let n : Nat := 0
   decide (s.canonical = true) && decide ((s.ent n).state = EntryState.dispatched) && decide (notBefore s.count (s.ent n).start = true) &&
     (match exec (.entryStart n) s with
      | .next t => decide ((entOp (s.ent n).words = opMark → (s.ent n).ended = none →
        ((t.ent n).ended.map (fun (e : EntryEnd) => (e.status, e.slip, e.endAt))) = some (1, s.count != (s.ent n).start, s.count))) &&
        decide ((entOp (s.ent n).words ≠ opMark → t.timeline = s.timeline))
      | _ => false)) &&
  (
   let s : State := withEnt { entry0 with words := [50, 2 * 2 ^ 20, 0, 0, 0, 0, 0, 1000], state := .dispatched, start := 50, reps := 2, ended := some end0 } live
   let n : Nat := 0
   let e : EntryEnd := end0
   decide (s.canonical = true) && decide ((s.ent n).state = EntryState.dispatched) && decide ((s.ent n).ended = some e) &&
    decide (((s.ent n).words.getD 6 0).testBit 7 = false) &&
     (match exec (.entryCompletion n) s with
      | .next t => decide ((t.ent n).ended = none) && decide ((t.ent n).last = e.status) && decide (((s.ent n).reps = 0 →
        (t.ent n).state = EntryState.done)) && decide (((s.ent n).reps ≠ 0 → entMode (s.ent n).words = 0 → (t.ent n).state = EntryState.armed ∧
        (t.ent n).start = addTicks (s.ent n).start ((s.ent n).words.getD 7 0)))
      | _ => false)) &&
  (
   let s : State := { live with timeline := { entry0 with words := [50, 2 * 2 ^ 20, 0, 0, 0, 0, 129, 0], state := .dispatched, start := 50, ended := some end0 } :: { entry0 with words := [70, 4 * 2 ^ 20 + 2 ^ 26, 0, 0, 0, 0, 0, 0], state := .wait } :: live.timeline.drop 2 }
   let n : Nat := 0
   let e : EntryEnd := end0
   decide (s.canonical = true) && decide ((s.ent n).state = EntryState.dispatched) && decide ((s.ent n).ended = some e) &&
    decide (((s.ent n).words.getD 6 0).testBit 7 = true) && decide (linkHolds (s.ent n).words e = true) &&
    decide ((s.ent n).words.getD 6 0 % 128 ≠ n) && decide ((s.ent ((s.ent n).words.getD 6 0 % 128)).state = EntryState.wait) &&
     (match exec (.entryCompletion n) s with
      | .next t => decide ((t.ent ((s.ent n).words.getD 6 0 % 128)).state = EntryState.armed) &&
        decide ((t.ent ((s.ent n).words.getD 6 0 % 128)).start = addTicks (if entMode (s.ent ((s.ent n).words.getD 6 0 % 128)).words = 1 then
        e.endAt else (s.ent n).start) ((s.ent ((s.ent n).words.getD 6 0 % 128)).words.getD 0 0))
      | _ => false)) &&
  (
   let s : State := withEnt { entry0 with words := [5000, 4 * 2 ^ 20, 0, 0, 0, 0, 0, 0], state := .armed, start := 50 } (liveDesc.put F.LNK_CFG_RUNAHEAD 100)
   let n : Nat := 0
   decide (s.canonical = true) && decide (s.lnkRuns = true) && decide (s.get F.LNK_CFG_RUNAHEAD ≠ 0) && decide (s.txAhead = false) &&
    decide (s.runAheadEntry = some n) && decide (n < s.timeline.length) && decide ((s.ent n).asked = false) &&
    decide (s.crsLockedTo (s.descRegs ((s.ent n).words.getD 2 0 % 64)).freq = false) &&
    decide (inTxBand (s.txFreq (s.descRegs ((s.ent n).words.getD 2 0 % 64)).freq) = true) && decide (s.crs.reserved = []) &&
     (match exec .runAhead s with
      | .next t => decide (t.crs.chan = some (s.descRegs ((s.ent n).words.getD 2 0 % 64)).freq) && decide (t.on F.SYN_CRS_STAT_SETTLING = true) &&
        decide ((t.ent n).asked = true) && decide (t.get F.SYN_CRS_STAT_SRC = 2)
      | _ => false))) = true := by decide +kernel

/-- States and operands that meet the clauses of `Obligations.BufferCommandsComplete` on alloc, release, rxq, and what comes of them (of alloc the
hypotheses only: a free value or a long computation stands in the result). -/
theorem witness_BufferCommandsComplete : (
  (
   let s : State := live
   let i : Initiator := .apc
   decide (s.offers i P.FRM 0x124 = true) && decide (s.canonical = true) && decide (s.enabled P.FRM = true) &&
    decide (s.get F.FRM_CFG_ALLOC_RESERVE < s.freeCount) && decide (s.owners.length = 512)) &&
  (
   let s : State := { (((live.setMemNat (blockAddr 3) 4 (4 + 5 * 0x10000)).setMemNat (blockAddr 4) 4 0x200).setOwner 3 .software).setOwner 4 .software with ctxs := (List.range 4).map (fun k => { ctx0 with block := some (100 + k) }) }
   let i : Initiator := .apc
   let w : Word := 3
   let bs : List Nat := [3, 4]
   let r : RegRow := rowAt (P.FRM) 0x128
   decide (s.takes i P.FRM 0x128 w r = true) && decide (s.canonical = true) && decide (s.enabled P.FRM = true) &&
    decide (s.chainBlocks (w.toNat % 512) 18 = some bs) && decide (bs.Nodup) && decide ((∀ b ∈ bs, s.owner b = Owner.software ∧
    s.badWord (blockAddr b) = false ∧ b < s.owners.length)) && decide (s.ctxs.all (fun c => c.block.isSome || c.busy) = true) &&
     (match exec (.release i w) s with
      | .next t => decide ((∀ b ∈ bs, t.owner b = Owner.free)) && decide (t.rxq = s.rxq)
      | _ => false)) &&
  (
   let s : State := { live with rxq := [7, 9] }
   let i : Initiator := .apc
   let h : Nat := 7
   let q : List Nat := [9]
   decide (s.offers i P.FRM 0x12C = true) && decide (s.canonical = true) && decide (s.enabled P.FRM = true) && decide (s.rxq = h :: q) &&
     (match exec (.rxq i) s with
      | .next t => decide (t.out.get i = (⟨BitVec.ofNat 32 (0x8000 + h), .ok⟩ : BusAnswer)) && decide (t.rxq = q) && decide (t.regs = s.regs) &&
        decide (t.owners = s.owners)
      | _ => false))) = true := by decide +kernel

/-- States and operands that meet the clauses of `Obligations.NeighbourCommandsComplete` on insert, update, delete, lookup, nbtRead, and what comes of
them. -/
theorem witness_NeighbourCommandsComplete_1 : (
  (
   let s : State := live
   let i : Initiator := .apc
   let r : RegRow := rowAt (P.NBT) 0x104
   decide (s.takes i P.NBT 0x104 1 r = true) && decide (s.canonical = true) && decide (s.enabled P.NBT = true) &&
    decide (s.nbtJobs.get i = none) &&
    decide (s.nbtJobHome ⟨1, 0, s.getI i F.NBT_INDEX_INDEX, (List.range 8).map (fun n => (s.regI i (Reg.NBT_DATA n)).toNat), false⟩ = s.myPos) &&
     (match exec (.insert i) s with
      | .next t => decide (t.nbtJobs.get i = some (⟨1, 0, s.getI i F.NBT_INDEX_INDEX, (List.range 8).map (fun n => (s.regI i (Reg.NBT_DATA
        n)).toNat), false⟩ : NbtJob)) && decide (t.getI i F.NBT_RES_BUSY = 1) && decide (t.getI i F.NBT_RES_LOST = 0) &&
        decide (t.pageSt P.NBT = 1) && decide (t.mem = s.mem) &&
        decide (t.regI i Reg.NBT_HASH = BitVec.ofNat 32 (keyHash (wordsKey ((List.range 8).map (fun n => (s.regI i (Reg.NBT_DATA n)).toNat)))))
      | _ => false)) &&
  (
   let s : State := live
   let i : Initiator := .apc
   let m : Byte := 0x40
   let r : RegRow := rowAt (P.NBT) 0x104
   decide (s.takes i P.NBT 0x104 (BitVec.ofNat 32 (2 + 0x100 * m.toNat)) r = true) && decide (s.canonical = true) &&
    decide (s.enabled P.NBT = true) && decide (s.nbtJobs.get i = none) &&
    decide (s.nbtJobHome ⟨2, m.toNat, s.getI i F.NBT_INDEX_INDEX, (List.range 8).map (fun n => (s.regI i (Reg.NBT_DATA n)).toNat), false⟩ = s.myPos)
    &&
     (match exec (.update i m) s with
      | .next t => decide (t.nbtJobs.get i = some (⟨2, m.toNat, s.getI i F.NBT_INDEX_INDEX, (List.range 8).map (fun n => (s.regI i (Reg.NBT_DATA
        n)).toNat), false⟩ : NbtJob)) && decide (t.getI i F.NBT_RES_BUSY = 1) && decide (t.getI i F.NBT_RES_LOST = 0) &&
        decide (t.pageSt P.NBT = 1) && decide (t.mem = s.mem)
      | _ => false)) &&
  (
   let s : State := live
   let i : Initiator := .apc
   let r : RegRow := rowAt (P.NBT) 0x104
   decide (s.takes i P.NBT 0x104 3 r = true) && decide (s.canonical = true) && decide (s.enabled P.NBT = true) &&
    decide (s.nbtJobs.get i = none) &&
    decide (s.nbtJobHome ⟨3, 0, s.getI i F.NBT_INDEX_INDEX, (List.range 8).map (fun n => (s.regI i (Reg.NBT_DATA n)).toNat), false⟩ = s.myPos) &&
     (match exec (.delete i) s with
      | .next t => decide (t.nbtJobs.get i = some (⟨3, 0, s.getI i F.NBT_INDEX_INDEX, (List.range 8).map (fun n => (s.regI i (Reg.NBT_DATA
        n)).toNat), false⟩ : NbtJob)) && decide (t.getI i F.NBT_RES_BUSY = 1) && decide (t.getI i F.NBT_RES_LOST = 0) &&
        decide (t.pageSt P.NBT = 1) && decide (t.mem = s.mem)
      | _ => false)) &&
  (
   let s : State := live
   let i : Initiator := .apc
   let r : RegRow := rowAt (P.NBT) 0x104
   decide (s.takes i P.NBT 0x104 4 r = true) && decide (s.canonical = true) && decide (s.enabled P.NBT = true) &&
    decide (s.nbtJobs.get i = none) &&
    decide (s.nbtJobHome ⟨4, 0, s.getI i F.NBT_INDEX_INDEX, (List.range 8).map (fun n => (s.regI i (Reg.NBT_DATA n)).toNat), false⟩ = s.myPos) &&
     (match exec (.lookup i) s with
      | .next t => decide (t.nbtJobs.get i = some (⟨4, 0, s.getI i F.NBT_INDEX_INDEX, (List.range 8).map (fun n => (s.regI i (Reg.NBT_DATA
        n)).toNat), false⟩ : NbtJob)) && decide (t.getI i F.NBT_RES_BUSY = 1) && decide (t.getI i F.NBT_RES_LOST = 0) &&
        decide (t.pageSt P.NBT = 1) && decide (t.mem = s.mem) &&
        decide (t.regI i Reg.NBT_HASH = BitVec.ofNat 32 (keyHash (wordsKey ((List.range 8).map (fun n => (s.regI i (Reg.NBT_DATA n)).toNat)))))
      | _ => false)) &&
  (
   let s : State := live
   let i : Initiator := .apc
   let r : RegRow := rowAt (P.NBT) 0x104
   decide (s.takes i P.NBT 0x104 5 r = true) && decide (s.canonical = true) && decide (s.enabled P.NBT = true) &&
    decide (s.nbtJobs.get i = none) &&
    decide (s.nbtJobHome ⟨5, 0, s.getI i F.NBT_INDEX_INDEX, (List.range 8).map (fun n => (s.regI i (Reg.NBT_DATA n)).toNat), false⟩ = s.myPos) &&
     (match exec (.nbtRead i) s with
      | .next t => decide (t.nbtJobs.get i = some (⟨5, 0, s.getI i F.NBT_INDEX_INDEX, (List.range 8).map (fun n => (s.regI i (Reg.NBT_DATA
        n)).toNat), false⟩ : NbtJob)) && decide (t.getI i F.NBT_RES_BUSY = 1) && decide (t.getI i F.NBT_RES_LOST = 0) &&
        decide (t.pageSt P.NBT = 1) && decide (t.mem = s.mem)
      | _ => false))) = true := by decide +kernel

/-- States and operands that meet the clauses of `Obligations.NeighbourCommandsComplete` on nbtCommandDone, and what comes of them. -/
theorem witness_NeighbourCommandsComplete_2 : (
  (
   let s : State := { live with nbtJobs := live.nbtJobs.set .apc (some ⟨1, 0, 0, [5, 0, 0, 0, 0, 0, 0, 0], false⟩) }
   let i : Initiator := .apc
   let j : NbtJob := ⟨1, 0, 0, [5, 0, 0, 0, 0, 0, 0, 0], false⟩
   let n : Nat := (((List.range 4).map (fun w => 4 * s.bucketOf (keyHash (wordsKey j.data)) + w)).find? s.entFree).getD 0
   decide (s.canonical = true) && decide ((s.shared ++ s.inService).any (fun (r : SharedReq) => r.unit == .lookup) = false) &&
    decide (s.nbtJobs.get i = some j) && decide (s.nbtJobHome j = s.myPos) && decide (j.op = 1) && decide (wordsFlag j.data efAlias = false) &&
    decide (s.searchBad (wordsKey j.data) = false) && decide (s.findKey (wordsKey j.data) = none) &&
    decide (((List.range 4).map (fun w => 4 * s.bucketOf (keyHash (wordsKey j.data)) + w)).find? s.entFree = some n) &&
     (match exec (.nbtCommandDone i) s with
      | .next t => decide (t.nbtJobs.get i = none) && decide (t.getI i F.NBT_RES_BUSY = 0) && decide (t.getI i F.NBT_RES_RESULT = 0) &&
        decide (t.getI i F.NBT_RES_INDEX = s.globalIx n % 2 ^ 17) && decide (t.entFlag n efValid = true) &&
        decide (t.entW n 0 = j.data.getD 0 0 % 2 ^ 32)
      | _ => false)) &&
  (
   let s : State := { live.setEntW 5 5 65536 with nbtJobs := live.nbtJobs.set .apc (some ⟨2, 64, 5, [0, 0, 0, 0, 0, 0, 77, 0], false⟩) }
   let i : Initiator := .apc
   let j : NbtJob := ⟨2, 64, 5, [0, 0, 0, 0, 0, 0, 77, 0], false⟩
   decide (s.canonical = true) && decide (s.nbtJobs.get i = some j) && decide (j.op = 2) &&
    decide ((s.shared ++ s.inService).any (fun (r : SharedReq) => r.unit == .lookup) = false) && decide (j.index / 16384 = s.myPos) &&
    decide (s.badIndex j.index = false) && decide (s.entBad (j.index % 16384) = false) && decide (s.entUsable (j.index % 16384) = true) &&
    decide (s.entFlag (j.index % 16384) efValid = true) && decide (j.mask.testBit 6 = true) &&
     (match exec (.nbtCommandDone i) s with
      | .next t => decide (t.nbtJobs.get i = none) && decide (t.getI i F.NBT_RES_BUSY = 0) && decide (t.getI i F.NBT_RES_RESULT = 0) &&
        decide (t.entW (j.index % 16384) 6 = j.data.getD 6 0 % 2 ^ 32)
      | _ => false)) &&
  (
   let s : State := { live.setEntW 5 5 65536 with nbtJobs := live.nbtJobs.set .apc (some ⟨3, 0, 5, [5, 0, 0, 0, 0, 0, 0, 0], false⟩) }
   let i : Initiator := .apc
   let j : NbtJob := ⟨3, 0, 5, [5, 0, 0, 0, 0, 0, 0, 0], false⟩
   decide (s.canonical = true) && decide (s.nbtJobs.get i = some j) && decide (j.op = 3) &&
    decide ((s.shared ++ s.inService).any (fun (r : SharedReq) => r.unit == .lookup) = false) && decide (j.index / 16384 = s.myPos) &&
    decide (s.badIndex j.index = false) && decide (s.entBad (j.index % 16384) = false) && decide (s.entUsable (j.index % 16384) = true) &&
    decide (s.entFlag (j.index % 16384) efValid = true) &&
     (match exec (.nbtCommandDone i) s with
      | .next t => decide (t.nbtJobs.get i = none) && decide (t.getI i F.NBT_RES_BUSY = 0) && decide (t.getI i F.NBT_RES_RESULT = 0) &&
        decide (t.entFlag (j.index % 16384) efValid = false)
      | _ => false)) &&
  (
   let s : State := { (live.setEntW (4 * live.bucketOf (keyHash (wordsKey [5]))) 0 5).setEntW (4 * live.bucketOf (keyHash (wordsKey [5]))) 5 65536 with nbtJobs := live.nbtJobs.set .apc (some ⟨4, 0, 0, [5, 0, 0, 0, 0, 0, 0, 0], false⟩) }
   let i : Initiator := .apc
   let j : NbtJob := ⟨4, 0, 0, [5, 0, 0, 0, 0, 0, 0, 0], false⟩
   let n : Nat := 4 * live.bucketOf (keyHash (wordsKey [5]))
   decide (s.canonical = true) && decide ((s.shared ++ s.inService).any (fun (r : SharedReq) => r.unit == .lookup) = false) &&
    decide (s.nbtJobs.get i = some j) && decide (s.nbtJobHome j = s.myPos) && decide (j.op = 4) &&
    decide (s.searchBad (wordsKey j.data) = false) && decide (s.findKey (wordsKey j.data) = some n) && decide (s.entFlag n efAlias = false) &&
     (match exec (.nbtCommandDone i) s with
      | .next t => decide (t.nbtJobs.get i = none) && decide (t.getI i F.NBT_RES_BUSY = 0) && decide (t.getI i F.NBT_RES_RESULT = 0) &&
        decide (t.getI i F.NBT_RES_INDEX = s.globalIx n % 2 ^ 17) && decide (t.mem = s.mem)
      | _ => false)) &&
  (
   let s : State := { live.setEntW 5 2 1234 with nbtJobs := live.nbtJobs.set .apc (some ⟨5, 0, 5, [5, 0, 0, 0, 0, 0, 0, 0], false⟩) }
   let i : Initiator := .apc
   let j : NbtJob := ⟨5, 0, 5, [5, 0, 0, 0, 0, 0, 0, 0], false⟩
   decide (s.canonical = true) && decide (s.nbtJobs.get i = some j) && decide (j.op = 5) &&
    decide ((s.shared ++ s.inService).any (fun (r : SharedReq) => r.unit == .lookup) = false) && decide (j.index / 16384 = s.myPos) &&
    decide (s.badIndex j.index = false) && decide (s.entBad (j.index % 16384) = false) &&
     (match exec (.nbtCommandDone i) s with
      | .next t => decide (t.nbtJobs.get i = none) && decide (t.getI i F.NBT_RES_BUSY = 0) && decide (t.getI i F.NBT_RES_RESULT = 0) &&
        decide ((∀ n ∈ List.range 8, t.regI i (Reg.NBT_DATA n) = BitVec.ofNat 32 (s.entW (j.index % 16384) n))) && decide (t.mem = s.mem)
      | _ => false))) = true := by decide +kernel

/-- States and operands that meet the clauses of `Obligations.TimeBaseAndAlarmCommandsComplete` on slowTick, and what comes of them. -/
theorem witness_TimeBaseAndAlarmCommandsComplete_1 : (
  (
   let s : State := { (live.put F.WDT_STAT_RUNNING 1).put F.WDT_COUNT_COUNT 9 with count := 300 }
   decide (s.pwr.state ≠ .dormant) && decide (s.on F.TMB_STAT_FOLLOW = false) && decide (s.canonical = true) &&
     (match exec .slowTick s with
      | .next t => decide (t.count = (s.count / 256 + 1) * 256 % countMod) && decide ((s.on F.WDT_STAT_RUNNING = true → s.wdtFeed = false →
        t.get F.WDT_COUNT_COUNT = s.get F.WDT_COUNT_COUNT - 1)) && decide ((s.on F.WDT_STAT_RUNNING = true → s.wdtFeed = true →
        t.get F.WDT_COUNT_COUNT = s.wdtLoadVal))
      | _ => false)) &&
  (
   let s : State := { live with count := 300, pwr := { live.pwr with state := .dormant } }
   decide (s.pwr.state = .dormant) &&
     (match exec .slowTick s with
      | .next t => decide (t = s)
      | _ => false)) &&
  (
   let s : State := { (live.put F.TMB_STAT_FOLLOW 1) with count := 300 }
   decide (s.pwr.state ≠ .dormant) && decide (s.on F.TMB_STAT_FOLLOW = true) && decide (s.canonical = true) &&
     (match exec .slowTick s with
      | .next t => decide (t.count = s.count)
      | _ => false))) = true := by decide +kernel

/-- States and operands that meet the clauses of `Obligations.TimeBaseAndAlarmCommandsComplete` on finePartStart, nowLo, alarmHiWrite, and what comes
of them. -/
theorem witness_TimeBaseAndAlarmCommandsComplete_2 : (
  (
   let s : State := live
   decide (s.canonical = true) && decide (s.count % 256 = 0) && decide (s.on F.CLK_STAT_HFXO_OK = true) &&
     (match exec .finePartStart s with
      | .next t => decide (t.get F.TMB_STAT_FINE_VALID = 1) && decide (t.get F.TMB_STAT_FINE_SRC = 2) && decide (t.count = s.count)
      | _ => false)) &&
  (
   let s : State := live.put F.CLK_STAT_HFXO_OK 0
   decide (s.canonical = true) && decide (s.count % 256 = 0) && decide (s.on F.CLK_STAT_HFXO_OK = false) && decide (s.on F.CLK_STAT_HFRC_OK = true) &&
     (match exec .finePartStart s with
      | .next t => decide (t.get F.TMB_STAT_FINE_VALID = 1) && decide (t.get F.TMB_STAT_FINE_SRC = 1) && decide (t.count = s.count)
      | _ => false)) &&
  (
   let s : State := { live with count := 0x002AFFFEC000 }
   let i : Initiator := .apc
   decide (s.offers i P.TMB 0x100 = true) && decide (s.canonical = true) &&
     (match exec (.nowLo i) s with
      | .next t => decide (t.out.get i = (⟨BitVec.ofNat 32 s.count, .ok⟩ : BusAnswer)) &&
        decide (t.getI i F.TMB_NOW_HI_SNAP_SNAP = s.count / 2 ^ 32 % 2 ^ 16) && decide (t.count = s.count) && decide (t.regs = s.regs)
      | _ => false)) &&
  (
   let s : State := live
   let i : Initiator := .apc
   let n : Nat := 7
   let w : Word := 0x12345
   let r : RegRow := rowAt P.TMB (0x144 + 8 * n)
   decide (s.takes i P.TMB (0x144 + 8 * n) w r = true) && decide (s.canonical = true) && decide (n < 8) &&
     (match exec (.alarmHiWrite i n w) s with
      | .next t => decide (t.get (F.TMB_ALARM_HI_CMP_HI n) = w.toNat % 65536) && decide (t.alarms = s.alarms)
      | _ => false))) = true := by decide +kernel

/-- States and operands that meet the clauses of `Obligations.TimeBaseAndAlarmCommandsComplete` on alarmLoWrite, alarmWriteEffect, alarmFire,
alarmEnWrite, and what comes of them. -/
theorem witness_TimeBaseAndAlarmCommandsComplete_3 : (
  (
   let s : State := live.put (F.TMB_ALARM_HI_CMP_HI 7) 3
   let i : Initiator := .apc
   let n : Nat := 7
   let w : Word := 0x12345
   let c : Nat := 0x300012345
   let r : RegRow := rowAt P.TMB (0x140 + 8 * n)
   decide (s.takes i P.TMB (0x140 + 8 * n) w r = true) && decide (s.canonical = true) && decide (n < 8) && decide (s.alarms.length = 8) &&
    decide (s.enabled P.TMB = true) && decide (c = (s.reg (Reg.TMB_ALARM_HI n)).toNat % 65536 * 2 ^ 32 + w.toNat) &&
     (match exec (.alarmLoWrite i n w) s with
      | .next t => decide (t.alarm n = { s.alarm n with pend := some c, ticks := 3 }) && decide (t.reg (Reg.TMB_ALARM_LO n) = w)
      | _ => false)) &&
  (
   let s : State := let s0 : State := { ((live.put F.TMB_STAT_FINE_VALID 1).put F.TMB_STAT_FINE_SRC 2).put F.TMB_ALARM_EN_EN 2 with count := 254 }; s0.setAlarm 1 { s0.alarm 1 with pend := some 300, ticks := 3 }
   let n : Nat := 1
   let c : Nat := 300
   decide (s.canonical = true) && decide (s.alarms.length = 8) && decide (n < 8) && decide ((s.alarm n).pend = some c) &&
    decide ((s.alarm n).ticks ≠ 0) && decide (s.pwr.state ≠ .dormant) && decide (s.on F.TMB_STAT_FOLLOW = false) &&
     (match exec (.alarmWriteEffect n) s with
      | .next t => decide ((t.alarm n).pend = none) && decide ((t.alarm n).cmp = c) && decide ((alarmDue t.count c = true →
        (s.get F.TMB_ALARM_EN_EN).testBit n = true → (t.alarm n).armed = false ∧ (t.alarm n).late = (t.count != c))) &&
        decide ((alarmDue t.count c = false ∨ (s.get F.TMB_ALARM_EN_EN).testBit n = false → (t.alarm n).armed = (s.get F.TMB_ALARM_EN_EN).testBit n))
      | _ => false)) &&
  (
   let s : State := let s0 : State := { live.put F.TMB_ALARM_EN_WAKE 2 with count := 254 }; s0.setAlarm 1 { s0.alarm 1 with cmp := 250, armed := true }
   let n : Nat := 1
   decide (s.canonical = true) && decide (n < 8) && decide (s.alarms.length = 8) && decide ((s.alarm n).armed = true) &&
    decide (alarmDue s.count (s.alarm n).cmp = true) &&
     (match exec (.alarmFire n) s with
      | .next t => decide (t.alarm n = { s.alarm n with armed := false, late := false }) && decide ((s.enabled P.TMB = true →
        (t.reg (Reg.IRQ_RAW (P.TMB))).toNat.testBit (n) = true)) && decide (((s.get F.TMB_ALARM_EN_WAKE).testBit n = true →
        0x10 + n ∈ t.pwr.wakes)) && decide (t.count = s.count)
      | _ => false)) &&
  (
   let s : State := live.setAlarm 1 { live.alarm 1 with cmp := 250, armed := true }
   let i : Initiator := .apc
   let w : Word := 0xFD
   let r : RegRow := rowAt (P.TMB) 0x110
   decide (s.takes i P.TMB 0x110 w r = true) && decide (s.canonical = true) &&
     (match exec (.alarmEnWrite i w) s with
      | .next t => decide (t.get F.TMB_ALARM_EN_EN = w.toNat % 256) && decide (t.get F.TMB_ALARM_EN_WAKE = w.toNat / 256 % 256) &&
        decide ((∀ n ∈ List.range 8, w.toNat.testBit n = false → (t.alarm n).armed = false ∧ (t.alarm n).pend = none)) &&
        decide ((∀ n ∈ List.range 8, w.toNat.testBit n = true → t.alarm n = s.alarm n))
      | _ => false))) = true := by decide +kernel

/-- States and operands that meet the clauses of `Obligations.TimerCommandsComplete` on start, stop, clear, load, and what comes of them. -/
theorem witness_TimerCommandsComplete_1 : (
  (
   let s : State := (live.setReg (Reg.TMR_PERIOD 3) 900).setReg (Reg.TMR_COUNT 3) 7
   let n : Nat := 3
   let via : Via := .bus .apc
   let r : RegRow := rowAt (P.TMR n) 0x104
   decide (s.reachesTask via (P.TMR n) 0x104 1 r 0 = true) && decide (s.canonical = true) && decide (n < 4) &&
    decide (s.enabled (P.TMR n) = true) && decide (s.tmrs.length = 4) && decide (s.pageSt (P.TMR n) ≠ 1) &&
     (match exec (.start n via) s with
      | .next t => decide (t.pageSt (P.TMR n) = 1) && decide (t.get (F.TMR_COUNT_COUNT n) = s.get (F.TMR_COUNT_COUNT n)) &&
        decide ((t.tmr n).period = (s.reg (Reg.TMR_PERIOD n)).toNat) &&
        decide ((t.tmr n).cmps = (List.range 4).map (fun k => (s.reg (Reg.TMR_CMP n k)).toNat))
      | _ => false)) &&
  (
   let s : State := ((live.setReg (Reg.TMR_PERIOD 3) 900).setReg (Reg.TMR_COUNT 3) 7).setPageSt (P.TMR 3) 1
   let n : Nat := 3
   let via : Via := .bus .apc
   let r : RegRow := rowAt (P.TMR n) 0x104
   decide (s.reachesTask via (P.TMR n) 0x104 1 r 0 = true) && decide (s.canonical = true) && decide (n < 4) &&
    decide (s.enabled (P.TMR n) = true) && decide (s.pageSt (P.TMR n) = 1) &&
     (match exec (.start n via) s with
      | .next t => decide (t.pageSt (P.TMR n) = 1) && decide (t.get (F.TMR_COUNT_COUNT n) = s.get (F.TMR_COUNT_COUNT n)) && decide (t.tmrs = s.tmrs)
      | _ => false)) &&
  (
   let s : State := ((live.setReg (Reg.TMR_PERIOD 3) 900).setReg (Reg.TMR_COUNT 3) 7).setPageSt (P.TMR 3) 1
   let n : Nat := 3
   let via : Via := .bus .apc
   let r : RegRow := rowAt (P.TMR n) 0x104
   decide (s.reachesTask via (P.TMR n) 0x104 2 r 1 = true) && decide (s.canonical = true) && decide (n < 4) && decide (s.enabled (P.TMR n) = true) &&
     (match exec (.stop n via) s with
      | .next t => decide (t.pageSt (P.TMR n) = 0) && decide (t.get (F.TMR_COUNT_COUNT n) = s.get (F.TMR_COUNT_COUNT n)) && decide (t.tmrs = s.tmrs)
      | _ => false)) &&
  (
   let s : State := ((live.setReg (Reg.TMR_PERIOD 3) 900).setReg (Reg.TMR_COUNT 3) 7).setPageSt (P.TMR 3) 1
   let n : Nat := 3
   let via : Via := .bus .apc
   let r : RegRow := rowAt (P.TMR n) 0x104
   decide (s.reachesTask via (P.TMR n) 0x104 4 r 2 = true) && decide (s.canonical = true) && decide (n < 4) && decide (s.enabled (P.TMR n) = true) &&
     (match exec (.clear n via) s with
      | .next t => decide (t.pageSt (P.TMR n) = s.pageSt (P.TMR n)) && decide (t.get (F.TMR_COUNT_COUNT n) = 0) &&
        decide ((s.get (F.TMR_COUNT_COUNT n) ≠ (s.tmr n).period → s.get (F.TMR_COUNT_COUNT n) ≠ 0xFFFFFFFF → t.tmrs = s.tmrs))
      | _ => false)) &&
  (
   let s : State := (live.setReg (Reg.TMR_PERIOD 3) 900).setReg (Reg.TMR_COUNT 3) 7
   let i : Initiator := .apc
   let n : Nat := 3
   let r : RegRow := rowAt (P.TMR n) 0x104
   decide (s.takes i (P.TMR n) 0x104 8 r = true) && decide (s.canonical = true) && decide (n < 4) && decide (s.enabled (P.TMR n) = true) &&
    decide (s.tmrs.length = 4) &&
     (match exec (.load n i) s with
      | .next t => decide (t.get (F.TMR_COUNT_COUNT n) = s.get (F.TMR_COUNT_COUNT n)) && decide (t.pageSt (P.TMR n) = s.pageSt (P.TMR n)) &&
        decide ((t.tmr n).period = (s.reg (Reg.TMR_PERIOD n)).toNat) &&
        decide ((t.tmr n).cmps = (List.range 4).map (fun k => (s.reg (Reg.TMR_CMP n k)).toNat))
      | _ => false))) = true := by decide +kernel

/-- States and operands that meet the clauses of `Obligations.TimerCommandsComplete` on capture, wrap, cmp, and what comes of them. -/
theorem witness_TimerCommandsComplete_2 : (
  (
   let s : State := ((((live.setReg (Reg.TMR_PERIOD 3) 900).setReg (Reg.TMR_COUNT 3) 7).setReg (Reg.TASK_EN (P.TMR 3)) 0x7F).put F.EVF_CFG_MODE 1).put (F.TMR_CFG_CAP 3) 4
   let n : Nat := 3
   let k : Nat := 2
   decide (s.canonical = true) && decide (n < 4) && decide (k < 4) && decide (s.taskGoes (taskId (P.TMR n) (3 + k)) = true) &&
    decide (s.tmrCapMode n k = true) &&
     (match exec (.capture n k) s with
      | .next t => decide (t.reg (Reg.TMR_CMP n k) = s.reg (Reg.TMR_COUNT n)) &&
        decide ((t.reg (Reg.IRQ_RAW (P.TMR n))).toNat.testBit (1 + k) = true) && decide (t.get (F.TMR_COUNT_COUNT n) = s.get (F.TMR_COUNT_COUNT n))
      | _ => false)) &&
  (
   let s : State := ((((live.setReg (Reg.TMR_PERIOD 3) 900).setReg (Reg.TMR_COUNT 3) 7).setReg (Reg.TASK_EN (P.TMR 3)) 0x7F).put F.EVF_CFG_MODE 1).put (F.TMR_CFG_CAP 3) 8
   let n : Nat := 3
   let k : Nat := 2
   decide (s.canonical = true) && decide (n < 4) && decide (k < 4) && decide (s.taskGoes (taskId (P.TMR n) (3 + k)) = true) &&
    decide (s.tmrCapMode n k = false) &&
     (match exec (.capture n k) s with
      | .next t => decide (t.regs = s.regs) && decide (t.tmrs = s.tmrs)
      | _ => false)) &&
  (
   let s : State := let s0 : State := ((live.setReg (Reg.TMR_PERIOD 3) 900).setReg (Reg.TMR_COUNT 3) 7).setPageSt (P.TMR 3) 1; { s0 with tmrs := s0.tmrs.set 3 ⟨7, [1, 2, 3, 8], 0⟩ }
   let n : Nat := 3
   decide (s.canonical = true) && decide (n < 4) && decide (s.enabled (P.TMR n) = true) && decide (s.pageSt (P.TMR n) = 1) &&
    decide (s.tmrs.length = 4) && decide (s.get (F.TMR_COUNT_COUNT n) = (s.tmr n).period) &&
     (match exec (.wrap n) s with
      | .next t => decide (t.get (F.TMR_COUNT_COUNT n) = 0) && decide ((t.tmr n).period = (s.reg (Reg.TMR_PERIOD n)).toNat) &&
        decide ((t.tmr n).cmps = (List.range 4).map (fun k => (s.reg (Reg.TMR_CMP n k)).toNat)) &&
        decide (t.pageSt (P.TMR n) = (if s.on (F.TMR_CFG_ONESHOT n) then 0 else 1))
      | _ => false)) &&
  (
   let s : State := let s0 : State := ((live.setReg (Reg.TMR_PERIOD 3) 900).setReg (Reg.TMR_COUNT 3) 7).setPageSt (P.TMR 3) 1; { s0 with tmrs := s0.tmrs.set 3 ⟨8, [1, 2, 3, 8], 0⟩ }
   let n : Nat := 3
   decide (s.canonical = true) && decide (n < 4) && decide (s.enabled (P.TMR n) = true) && decide (s.pageSt (P.TMR n) = 1) &&
    decide (s.tmrs.length = 4) && decide (s.get (F.TMR_COUNT_COUNT n) + 1 = (s.tmr n).period) && decide ((s.tmr n).period < 2 ^ 32) &&
     (match exec (.wrap n) s with
      | .next t => decide ((t.reg (Reg.IRQ_RAW (P.TMR n))).toNat.testBit (0) = true) && decide (t.get (F.TMR_COUNT_COUNT n) = 0) &&
        decide ((t.tmr n).period = (s.reg (Reg.TMR_PERIOD n)).toNat) &&
        decide ((t.tmr n).cmps = (List.range 4).map (fun k => (s.reg (Reg.TMR_CMP n k)).toNat)) &&
        decide (t.pageSt (P.TMR n) = (if s.on (F.TMR_CFG_ONESHOT n) then 0 else 1))
      | _ => false)) &&
  (
   let s : State := let s0 : State := ((live.setReg (Reg.TMR_PERIOD 3) 900).setReg (Reg.TMR_COUNT 3) 7).setPageSt (P.TMR 3) 1; { s0 with tmrs := s0.tmrs.set 3 ⟨70, [1, 2, 3, 8], 0⟩ }
   let n : Nat := 3
   let k : Nat := 3
   decide (s.canonical = true) && decide (n < 4) && decide (s.enabled (P.TMR n) = true) && decide (s.pageSt (P.TMR n) = 1) && decide (k < 4) &&
    decide (s.tmrCapMode n k = false) && decide (s.get (F.TMR_COUNT_COUNT n) + 1 = (s.tmr n).cmps.getD k 0) &&
    decide ((s.tmr n).cmps.getD k 0 ≤ (s.tmr n).period) && decide ((s.tmr n).period < 2 ^ 32) &&
     (match exec (.cmp n k) s with
      | .next t => decide ((t.reg (Reg.IRQ_RAW (P.TMR n))).toNat.testBit (1 + k) = true) &&
        decide (t.get (F.TMR_COUNT_COUNT n) = (s.tmr n).cmps.getD k 0) && decide (t.tmrs = s.tmrs)
      | _ => false))) = true := by decide +kernel

/-- States and operands that meet the clauses of `Obligations.LowPowerTimerAndWatchdogCommandsComplete` on lptSyncDone, lptWrap, lptCmp, and what
comes of them. -/
theorem witness_LowPowerTimerAndWatchdogCommandsComplete_1 : (
  (
   let s : State := { (live.put F.LPT_STAT_SYNC_BUSY 1).put (F.LPT_CTRL_RUN0) 1 with lptPend := [(Reg.LPT_CTRL, 0)] }
   decide (s.canonical = true) &&
     (match exec .lptSyncDone s with
      | .next t => decide (t.get F.LPT_STAT_SYNC_BUSY = 0) &&
        decide ((∀ x ∈ [Reg.LPT_CTRL, Reg.LPT_T_PERIOD 0, Reg.LPT_T_CMP 0, Reg.LPT_T_PERIOD 1, Reg.LPT_T_CMP 1], t.lptSeen x = s.reg x))
      | _ => false)) &&
  (
   let s : State := { ((live.put F.LPT_CTRL_RUN1 1).put F.LPT_CTRL_WAKE1 1).setReg (Reg.LPT_T_COUNT 1) 5 with lpts := [⟨9, 0⟩, ⟨5, 0⟩] }
   let m : Nat := 1
   decide (s.canonical = true) && decide (m < 2) && decide (s.lptRuns m = true) && decide (s.lpts.length = 2) &&
    decide (s.get (F.LPT_T_COUNT_COUNT m) = (s.lpt m).period) &&
     (match exec (.lptWrap m) s with
      | .next t => decide (t.get (F.LPT_T_COUNT_COUNT m) = 0) && decide ((t.lpt m).period = (s.lptSeen (Reg.LPT_T_PERIOD m)).toNat) &&
        decide ((t.lpt m).cmp = (s.lptSeen (Reg.LPT_T_CMP m)).toNat)
      | _ => false)) &&
  (
   let s : State := { ((live.put F.LPT_CTRL_RUN1 1).put F.LPT_CTRL_WAKE1 1).setReg (Reg.LPT_T_COUNT 1) 5 with lpts := [⟨9, 0⟩, ⟨6, 0⟩] }
   let m : Nat := 1
   decide (s.canonical = true) && decide (m < 2) && decide (s.lptRuns m = true) && decide (s.lpts.length = 2) &&
    decide (s.get (F.LPT_T_COUNT_COUNT m) + 1 = (s.lpt m).period) && decide ((s.lpt m).period < 2 ^ 24) &&
     (match exec (.lptWrap m) s with
      | .next t => decide ((t.reg (Reg.IRQ_RAW (P.LPT))).toNat.testBit (2 * m) = true) &&
        decide (((s.lptSeen Reg.LPT_CTRL).toNat.testBit (8 + m) = true → 0x18 + m ∈ t.pwr.wakes)) && decide (t.get (F.LPT_T_COUNT_COUNT m) = 0) &&
        decide ((t.lpt m).period = (s.lptSeen (Reg.LPT_T_PERIOD m)).toNat) && decide ((t.lpt m).cmp = (s.lptSeen (Reg.LPT_T_CMP m)).toNat)
      | _ => false)) &&
  (
   let s : State := { ((live.put F.LPT_CTRL_RUN1 1).put F.LPT_CTRL_WAKE1 1).setReg (Reg.LPT_T_COUNT 1) 5 with lpts := [⟨9, 0⟩, ⟨9, 6⟩] }
   let m : Nat := 1
   decide (s.canonical = true) && decide (m < 2) && decide (s.lptRuns m = true) && decide (s.get (F.LPT_T_COUNT_COUNT m) + 1 = (s.lpt m).cmp) &&
    decide ((s.lpt m).cmp ≤ (s.lpt m).period) && decide ((s.lpt m).period < 2 ^ 24) &&
     (match exec (.lptCmp m) s with
      | .next t => decide ((t.reg (Reg.IRQ_RAW (P.LPT))).toNat.testBit (2 * m + 1) = true) &&
        decide (t.get (F.LPT_T_COUNT_COUNT m) = (s.lpt m).cmp) && decide (t.lpts = s.lpts) &&
        decide (((s.lptSeen Reg.LPT_CTRL).toNat.testBit (8 + m) = true → 0x18 + m ∈ t.pwr.wakes))
      | _ => false))) = true := by decide +kernel

/-- States and operands that meet the clauses of `Obligations.LowPowerTimerAndWatchdogCommandsComplete` on wdtEnable, feed, and what comes of them. -/
theorem witness_LowPowerTimerAndWatchdogCommandsComplete_2 : (
  (
   let s : State := live
   let i : Initiator := .apc
   let w : Word := 2
   let r : RegRow := rowAt (P.WDT) 0x100
   decide (s.takes i P.WDT 0x100 (withBits w 0 1 1) r = true) && decide (s.canonical = true) && decide (s.enabled P.WDT = true) &&
     (match exec (.wdtEnable i w) s with
      | .next t => decide (t.get F.WDT_CFG_EN = 1) && decide (t.get F.WDT_STAT_RUNNING = 1) && decide (t.get F.WDT_COUNT_COUNT = s.wdtLoadVal)
      | _ => false)) &&
  (
   let s : State := live.put F.WDT_CFG_EN 1
   let i : Initiator := .apc
   let w : Word := 2
   decide (s.admits (writeReq i (pageAddr P.WDT 0x100) (withBits w 0 1 1)) = true) && decide (s.canonical = true) &&
    decide (s.on (F.PAGE_STAT_UNDER_TEST P.WDT) = false) && decide (s.on F.WDT_CFG_EN = true) &&
     (match exec (.wdtEnable i w) s with
      | .next t => decide (t.reg Reg.WDT_CFG = s.reg Reg.WDT_CFG) && decide (t.get F.WDT_COUNT_COUNT = s.get F.WDT_COUNT_COUNT) &&
        decide ((t.reg (Reg.IRQ_RAW P.WDT)).toNat.testBit 31 = true)
      | _ => false)) &&
  (
   let s : State := (live.put F.WDT_STAT_RUNNING 1).put F.WDT_COUNT_COUNT 100
   let i : Initiator := .apc
   let w : Word := 0x5A3C
   let r : RegRow := rowAt (P.WDT) 0x110
   decide (s.takes i P.WDT 0x110 w r = true) && decide (s.canonical = true) && decide (s.on F.WDT_STAT_RUNNING = true) && decide (w = 0x5A3C) &&
    decide ((s.on F.WDT_CFG_WIN_EN && decide (s.get F.WDT_WINDOW_WINDOW < s.get F.WDT_COUNT_COUNT)) = false) &&
     (match exec (.feed i w) s with
      | .next t => decide (t.wdtFeed = true) && decide (t.get F.WDT_COUNT_COUNT = s.get F.WDT_COUNT_COUNT) && decide (t.resetReq = s.resetReq)
      | _ => false)) &&
  (
   let s : State := (((live.put F.WDT_STAT_RUNNING 1).put F.WDT_COUNT_COUNT 100).put F.WDT_CFG_WIN_EN 1).put F.WDT_WINDOW_WINDOW 99
   let i : Initiator := .apc
   let w : Word := 0x5A3C
   let r : RegRow := rowAt (P.WDT) 0x110
   decide (s.takes i P.WDT 0x110 w r = true) && decide (s.canonical = true) && decide (s.on F.WDT_STAT_RUNNING = true) && decide (w = 0x5A3C) &&
    decide ((s.on F.WDT_CFG_WIN_EN && decide (s.get F.WDT_WINDOW_WINDOW < s.get F.WDT_COUNT_COUNT)) = true) &&
     (match exec (.feed i w) s with
      | .next t => decide (t.get F.WDT_STAT_LAST_EXP = 2) && decide (t.get F.WDT_STAT_RUNNING = 0) && decide ((s.resetReq = none →
        t.resetReq = some 4))
      | _ => false))) = true := by decide +kernel

/-- States and operands that meet the clauses of `Obligations.LowPowerTimerAndWatchdogCommandsComplete` on feed, prewarn, wdtExpiry, and what comes of
them. -/
theorem witness_LowPowerTimerAndWatchdogCommandsComplete_3 : (
  (
   let s : State := (live.put F.WDT_STAT_RUNNING 1).put F.WDT_COUNT_COUNT 100
   let i : Initiator := .apc
   let w : Word := 0
   let r : RegRow := rowAt (P.WDT) 0x110
   decide (s.takes i P.WDT 0x110 w r = true) && decide (s.canonical = true) && decide (s.on F.WDT_STAT_RUNNING = true) && decide (w ≠ 0x5A3C) &&
     (match exec (.feed i w) s with
      | .next t => decide (t.get F.WDT_STAT_LAST_EXP = 3) && decide (t.get F.WDT_STAT_RUNNING = 0) && decide ((s.resetReq = none →
        t.resetReq = some 4))
      | _ => false)) &&
  (
   let s : State := live
   let i : Initiator := .apc
   let w : Word := 0
   let r : RegRow := rowAt (P.WDT) 0x110
   decide (s.takes i P.WDT 0x110 w r = true) && decide (s.canonical = true) && decide (s.on F.WDT_STAT_RUNNING = false) &&
     (match exec (.feed i w) s with
      | .next t => decide (t.wdtFeed = s.wdtFeed) && decide (t.resetReq = s.resetReq) &&
        decide (t.get F.WDT_STAT_LAST_EXP = s.get F.WDT_STAT_LAST_EXP)
      | _ => false)) &&
  (
   let s : State := ((live.put F.WDT_STAT_RUNNING 1).put F.WDT_COUNT_COUNT 100).put F.WDT_PREWARN_PREWARN 100
   decide (s.canonical = true) && decide (s.on F.WDT_STAT_RUNNING = true) && decide (s.get F.WDT_COUNT_COUNT = s.get F.WDT_PREWARN_PREWARN) &&
     (match exec .prewarn s with
      | .next t => decide (t.get F.WDT_STAT_PREWARNED = 1) && decide ((s.on F.WDT_STAT_PREWARNED = false → s.enabled P.WDT = true →
        (t.reg (Reg.IRQ_RAW (P.WDT))).toNat.testBit (0) = true)) && decide ((s.on F.WDT_STAT_PREWARNED = true → t.regs = s.regs)) &&
        decide (t.get F.WDT_COUNT_COUNT = s.get F.WDT_COUNT_COUNT)
      | _ => false)) &&
  (
   let s : State := ((live.put F.WDT_STAT_RUNNING 1).put F.WDT_COUNT_COUNT 100).put F.WDT_PREWARN_PREWARN 99
   decide (s.canonical = true) && decide (s.on F.WDT_STAT_RUNNING = true) && decide (s.pwr.state ≠ .dormant) && decide (s.wdtFeed = false) &&
    decide (s.get F.WDT_COUNT_COUNT = s.get F.WDT_PREWARN_PREWARN + 1) &&
     (match exec .prewarn s with
      | .next t => decide (t.get F.WDT_STAT_PREWARNED = 1) && decide ((s.on F.WDT_STAT_PREWARNED = false → s.enabled P.WDT = true →
        (t.reg (Reg.IRQ_RAW (P.WDT))).toNat.testBit (0) = true)) && decide (t.get F.WDT_COUNT_COUNT = s.get F.WDT_PREWARN_PREWARN)
      | _ => false)) &&
  (
   let s : State := (live.put F.WDT_STAT_RUNNING 1).put F.WDT_COUNT_COUNT 1
   decide (s.canonical = true) && decide (s.on F.WDT_STAT_RUNNING = true) && decide (s.pwr.state ≠ .dormant) && decide (s.wdtFeed = false) &&
    decide (s.get F.WDT_COUNT_COUNT ≤ 1) &&
     (match exec .wdtExpiry s with
      | .next t => decide (t.get F.WDT_COUNT_COUNT = 0) && decide (t.get F.WDT_STAT_LAST_EXP = 1) && decide (t.get F.WDT_STAT_RUNNING = 0) &&
        decide ((s.resetReq = none → t.resetReq = some 4))
      | _ => false))) = true := by decide +kernel

/-- States and operands that meet the clauses of `Obligations.CascadeJoinCommandsComplete` on hvlEnable, trainingDone, and what comes of them. -/
theorem witness_CascadeJoinCommandsComplete_1 : (
  (
   let s : State := live
   let i : Initiator := .apc
   let w : Word := 0
   let r : RegRow := rowAt (P.HVL) 0x100
   decide (s.takes i P.HVL 0x100 (withBits w 0 1 1) r = true) && decide (s.canonical = true) && decide (s.variant = .znl7240) &&
    decide (s.enabled P.HVL = true) && decide (s.hveClock = true) && decide (s.underTest 0x1403 = false) && decide (s.pageSt P.HVL = 0) &&
    decide (s.hvlPos = 0) &&
     (match exec (.hvlEnable i w) s with
      | .next t => decide (t.pageSt P.HVL = 3) && decide (t.get F.HVL_CFG_EN = 1) && decide ((t.get F.HVL_MEMBERS_JOINED).testBit 0 = true) &&
        decide ((t.hop .dn).training = true) && decide ((t.hop .dn).up = false)
      | _ => false)) &&
  (
   let s : State := live.put F.HVL_STAT_POS 2
   let i : Initiator := .apc
   let w : Word := 0x102
   let r : RegRow := rowAt (P.HVL) 0x100
   decide (s.takes i P.HVL 0x100 (withBits w 0 1 1) r = true) && decide (s.canonical = true) && decide (s.variant = .znl7240) &&
    decide (s.enabled P.HVL = true) && decide (s.hveClock = true) && decide (s.underTest 0x1403 = false) && decide (s.pageSt P.HVL = 0) &&
    decide (s.hvlPos ≠ 0) &&
     (match exec (.hvlEnable i w) s with
      | .next t => decide (t.pageSt P.HVL = 1) && decide (t.get F.HVL_CFG_EN = 1) && decide ((t.hop .up).training = true) &&
        decide ((t.hop .up).up = false)
      | _ => false)) &&
  (
   let s : State := { chained 2 1 with hvl := { (chained 2 1).hvl with up := { hop0 with training := true } } }
   let n : Nat := 1
   let lanes : Nat := 13
   decide (s.canonical = true) && decide ((s.hop .up).training = true) && decide ((s.hop .up).up = false) && decide (s.hveRuns = true) &&
    decide (n + 1 = s.hvlPos) && decide (lanes % 4 &&& s.lanesLeft .up ≠ 0) && decide (lanes / 4 % 4 ≠ 0) &&
     (match exec (.trainingDone .up n lanes) s with
      | .next t => decide ((t.hop .up).up = true) && decide ((t.hop .up).training = false) &&
        decide (t.get F.HVL_STAT_UP_RX = lanes % 4 &&& s.lanesLeft .up) && decide (t.get F.HVL_STAT_UP_TX = lanes / 4 % 4) &&
        decide (t.pageSt P.HVL = 1) &&
        decide (s.sentTo t ptHello 0 s.hvl.next (natLe 4 (chipId s.variant) ++ natLe 1 (s.get F.NBT_CFG_DEVICES) ++ natLe 1 (s.get
        F.HVL_STAT_FRESH)) = true)
      | _ => false)) &&
  (
   let s : State := { chained 2 3 with hvl := { (chained 2 1).hvl with dn := { hop0 with training := true } } }
   let n : Nat := 3
   let lanes : Nat := 13
   decide (s.canonical = true) && decide ((s.hop .dn).training = true) && decide ((s.hop .dn).up = false) && decide (s.hveRuns = true) &&
    decide (n = s.hvlPos + 1) && decide (lanes % 4 &&& s.lanesLeft .dn ≠ 0) && decide (lanes / 4 % 4 ≠ 0) &&
     (match exec (.trainingDone .dn n lanes) s with
      | .next t => decide ((t.hop .dn).up = true) && decide ((t.hop .dn).training = false) &&
        decide (t.get F.HVL_STAT_DN_RX = lanes % 4 &&& s.lanesLeft .dn) && decide (t.get F.HVL_STAT_DN_TX = lanes / 4 % 4) &&
        decide (t.pageSt P.HVL = s.pageSt P.HVL)
      | _ => false)) &&
  (
   let s : State := { chained 2 3 with hvl := { (chained 2 1).hvl with dn := { hop0 with training := true } } }
   let port : HvlPort := .dn
   let n : Nat := 4
   let lanes : Nat := 13
   decide (s.canonical = true) && decide ((s.hop port).training = true) && decide ((s.hop port).up = false) && decide (s.hveRuns = true) &&
    decide ((port = .up → n + 1 ≠ s.hvlPos)) && decide ((port = .dn → n ≠ s.hvlPos + 1)) &&
     (match exec (.trainingDone port n lanes) s with
      | .next t => decide (t.pageSt P.HVL = 5) && decide ((t.hop port).up = false) && decide ((t.hop port).training = false) &&
        decide ((t.reg (Reg.IRQ_RAW (P.HVL))).toNat.testBit (4) = true)
      | _ => false))) = true := by decide +kernel

/-- States and operands that meet the clauses of `Obligations.CascadeJoinCommandsComplete` on hello, welcome, and what comes of them. -/
theorem witness_CascadeJoinCommandsComplete_2 : (
  (
   let s : State := chained 0 3
   let p : Packet := packet ptHello 2 0 7 (natLe 4 0x72400101 ++ [3, 1])
   decide (p.ptype = ptHello) && decide (s.hears p = true) && decide (s.canonical = true) && decide (s.hvlMaster = true) &&
    decide (leAt p.payload 2 2 = 0x7240) && decide (p.bcast = false) && decide (leAt p.payload 4 1 = s.get F.NBT_CFG_DEVICES) &&
    decide (s.leadsTo p.src = true) && decide (p.src ≤ s.get F.NBT_CFG_DEVICES) &&
     (match exec (.hello p) s with
      | .next t => decide ((p.src, false) ∈ t.hvl.joining) && decide (s.sentTo t ptWelcome p.src p.tag [0] = true)
      | _ => false)) &&
  (
   let s : State := chained 0 3
   let p : Packet := packet ptHello 2 0 7 (natLe 4 0x72400101 ++ [2, 1])
   decide (p.ptype = ptHello) && decide (s.hears p = true) && decide (s.canonical = true) && decide (s.hvlMaster = true) &&
    decide (leAt p.payload 2 2 = 0x7240) && decide (p.bcast = false) && decide (leAt p.payload 4 1 ≠ s.get F.NBT_CFG_DEVICES) &&
    decide (s.leadsTo p.src = true) &&
     (match exec (.hello p) s with
      | .next t => decide (t.hvl.joining = s.hvl.joining) && decide (s.sentTo t ptWelcome p.src p.tag [2] = true)
      | _ => false)) &&
  (
   let s : State := chained 1 3
   let p : Packet := packet ptHello 2 0 7 (natLe 4 0x72400101 ++ [2, 1])
   decide (p.ptype = ptHello) && decide (p.intact = true) && decide ((s.hop .up).up = true) && decide (s.hveRuns = true) &&
    decide ((s.hop p.port).up = true) && decide ((s.hop p.port).training = false) &&
    decide ((s.hop p.port).accepted.contains (p.seq % 256) = false) && decide (p.bcast = false) && decide (p.dst < s.hvlPos) &&
     (match exec (.hello p) s with
      | .next t => decide (t.regs = s.regs) && decide (t.hvl.joining = s.hvl.joining) &&
        decide ((t.hop .up).kept = (s.hop .up).kept ++ [(⟨(s.hop .up).nextSeq, ptHello, { p with port := .up, seq := (s.hop .up).nextSeq }, 0,
        false⟩ : SentPacket)])
      | _ => false)) &&
  (
   let s : State := chained 2 1
   let p : Packet := packet ptWelcome 0 2 7 [0]
   decide (p.ptype = ptWelcome) && decide (s.hears p = true) && decide (s.canonical = true) && decide (s.pageSt P.HVL = 1) &&
    decide (s.hvlPos ≠ 0) && decide (p.bcast = false) && decide (leAt p.payload 0 1 = 0) &&
     (match exec (.welcome p) s with
      | .next t => decide (t.pageSt P.HVL = 2) && decide (t.get F.HVL_STAT_FOLLOW = 1) && decide (t.get F.TMB_STAT_FOLLOW = 1) &&
        decide (t.get F.HVL_STAT_JOIN_FAIL = 0) && decide (t.hvl.time = none)
      | _ => false)) &&
  (
   let s : State := chained 2 1
   let p : Packet := packet ptWelcome 0 2 7 [3]
   decide (p.ptype = ptWelcome) && decide (s.hears p = true) && decide (s.canonical = true) && decide (s.pageSt P.HVL = 1) &&
    decide (s.hvlPos ≠ 0) && decide (p.bcast = false) && decide (0 < leAt p.payload 0 1) && decide (leAt p.payload 0 1 < 8) &&
     (match exec (.welcome p) s with
      | .next t => decide (t.pageSt P.HVL = 1) && decide (t.get F.HVL_STAT_JOIN_FAIL = leAt p.payload 0 1) &&
        decide (t.get F.HVL_STAT_FOLLOW = s.get F.HVL_STAT_FOLLOW)
      | _ => false))) = true := by decide +kernel

/-- States and operands that meet the clauses of `Obligations.CascadeJoinCommandsComplete` on time, hvlSyncEdge, syncMarker, and what comes of them.
-/
theorem witness_CascadeJoinCommandsComplete_3 : (
  (
   let s : State := chained 2 2
   let p : Packet := ⟨.up, 9, packetBytes ptTime 0 2 7 true true true (natLe 6 0x123450000)⟩
   decide (p.ptype = ptTime) && decide (s.hears p = true) && decide (s.canonical = true) && decide (s.pageSt P.HVL = 2 ∨ s.hvlSlave = true) &&
     (match exec (.time p) s with
      | .next t => decide (t.hvl.time = some (leAt p.payload 0 6)) && decide (t.regs = s.regs) && decide (t.count = s.count)
      | _ => false)) &&
  (
   let s : State := { (chained 2 3).put F.HVL_STAT_FOLLOW 1 with count := 700 }
   decide (s.canonical = true) && decide (s.on F.HVL_STAT_FOLLOW = true) &&
     (match exec .hvlSyncEdge s with
      | .next t => decide (t.count = (s.count / 256 + 1) * 256 % countMod) && decide (t.hvl.missing = 0)
      | _ => false)) &&
  (
   let s : State := chained 2 3
   decide (s.on F.HVL_STAT_FOLLOW = false) &&
     (match exec .hvlSyncEdge s with
      | .next t => decide (t = s)
      | _ => false)) &&
  (
   let s : State := { (chained 2 2).put F.HVL_STAT_FOLLOW 1 with count := 700, hvl := { (chained 2 2).hvl with time := some 0x20000 } }
   let c : Nat := 0x20000
   decide (s.canonical = true) && decide (s.on F.HVL_STAT_FOLLOW = true) && decide (s.hvl.time = some c) && decide (s.pageSt P.HVL = 2) &&
     (match exec .syncMarker s with
      | .next t => decide (t.count = (c / 256 * 256 + s.count % 256) % countMod) && decide (t.pageSt P.HVL = 3) &&
        decide (t.get F.HVL_STAT_FRESH = 0) && decide (t.hvl.time = none) && decide ((t.hop .dn).training = true)
      | _ => false)) &&
  (
   let s : State := { (chained 2 3).put F.HVL_STAT_FOLLOW 1 with count := 131075, hvl := { (chained 2 2).hvl with time := some 0x20000 } }
   let c : Nat := 0x20000
   decide (s.canonical = true) && decide (s.on F.HVL_STAT_FOLLOW = true) && decide (s.hvl.time = some c) && decide (s.hvlSlave = true) &&
    decide (s.count / 256 = c / 256) &&
     (match exec .syncMarker s with
      | .next t => decide (t = { s with hvl := { s.hvl with time := none } })
      | _ => false))) = true := by decide +kernel

/-- States and operands that meet the clauses of `Obligations.CascadeJoinCommandsComplete` on syncMarker, missingEdge, noTimeWithin16Ms, linkDown, and
what comes of them. -/
theorem witness_CascadeJoinCommandsComplete_4 : (
  (
   let s : State := { (chained 2 3).put F.HVL_STAT_FOLLOW 1 with count := 131331, hvl := { (chained 2 2).hvl with time := some 0x20000 } }
   let c : Nat := 0x20000
   decide (s.canonical = true) && decide (s.on F.HVL_STAT_FOLLOW = true) && decide (s.hvl.time = some c) && decide (s.hvlSlave = true) &&
    decide (s.count / 256 ≠ c / 256) &&
     (match exec .syncMarker s with
      | .next t => decide (t.pageSt P.HVL = 4) && decide (t.get F.HVL_STAT_FOLLOW = 0) && decide (t.get F.TMB_STAT_FOLLOW = 0) &&
        decide ((t.hop .up).training = true) && decide ((t.hop .dn).up = false)
      | _ => false)) &&
  (
   let s : State := { (chained 2 3).put F.HVL_STAT_FOLLOW 1 with count := 700, hvl := { (chained 2 2).hvl with time := some 0x20000 } }
   decide (s.canonical = true) && decide (s.on F.HVL_STAT_FOLLOW = true) && decide (s.hvl.missing < 2) && decide (s.get F.HVL_SYNC_MISSED < 65535) &&
     (match exec .missingEdge s with
      | .next t => decide (t.count = (s.count / 256 + 1) * 256 % countMod) && decide (t.hvl.missing = s.hvl.missing + 1) &&
        decide (t.get F.HVL_SYNC_MISSED = s.get F.HVL_SYNC_MISSED + 1)
      | _ => false)) &&
  (
   let s : State := { (chained 2 3).put F.HVL_STAT_FOLLOW 1 with hvl := { (chained 2 2).hvl with missing := 2 } }
   decide (s.canonical = true) && decide (s.on F.HVL_STAT_FOLLOW = true) && decide (2 ≤ s.hvl.missing) &&
     (match exec .missingEdge s with
      | .next t => decide (t.pageSt P.HVL = 4) && decide (t.get F.HVL_STAT_FOLLOW = 0) && decide (t.get F.TMB_STAT_FOLLOW = 0) &&
        decide ((t.hop .up).training = true) && decide ((t.hop .dn).up = false)
      | _ => false)) &&
  (
   let s : State := chained 2 2
   decide (s.canonical = true) && decide (s.pageSt P.HVL = 2) && decide (s.hvl.time = none) &&
     (match exec .noTimeWithin16Ms s with
      | .next t => decide (t.get F.HVL_STAT_JOIN_FAIL = 4) && decide (t.pageSt P.HVL = 2) && decide (t.hvl = s.hvl)
      | _ => false)) &&
  (
   let s : State := (chained 0 3).put F.HVL_MEMBERS_JOINED 15
   let p : Packet := packet ptLinkDown 1 0 7 [2]
   decide (p.ptype = ptLinkDown) && decide (s.hears p = true) && decide (s.canonical = true) && decide (p.bcast = false) &&
    decide (s.hvlMaster = true) &&
     (match exec (.linkDown p) s with
      | .next t => decide ((∀ k ∈ List.range 8, leAt p.payload 0 1 ≤ k → 1 ≤ k → k ≤ s.get F.NBT_CFG_DEVICES →
        (t.get F.HVL_MEMBERS_JOINED).testBit k = false ∧ (t.get F.HVL_MEMBERS_LOST).testBit k = true))
      | _ => false))) = true := by decide +kernel

/-- States and operands that meet the clauses of `Obligations.CascadeRequestsComplete` on hvlLookup, reply, and what comes of them. -/
theorem witness_CascadeRequestsComplete_1 : (
  (
   let s : State := chained 0 3
   let p : Packet := packet ptLookup 2 0 7 (natLe 8 5 ++ [0])
   let k : NbtKey := ⟨false, natLe 8 5⟩
   decide (p.ptype = ptLookup) && decide (s.hears p = true) && decide (s.canonical = true) && decide (p.bcast = false) &&
    decide (s.leadsTo p.src = true) && decide (s.enabled P.NBT = true) && decide (k = ⟨false, p.payload.take 8⟩) &&
    decide ((leAt p.payload 8 1).testBit 0 = false) && decide (s.searchBad k = false) && decide (s.findKey k = none) &&
     (match exec (.hvlLookup p) s with
      | .next t => decide (s.sentTo t ptReply p.src p.tag (replyBytes 0 false false [] 0) = true) && decide (t.mem = s.mem)
      | _ => false)) &&
  (
   let s : State := let s0 := chained 0 3; (s0.setEntW (4 * s0.bucketOf (keyHash ⟨false, natLe 8 1⟩)) 0 1).setEntW (4 * s0.bucketOf (keyHash ⟨false, natLe 8 1⟩)) 5 65536
   let p : Packet := packet ptLookup 2 0 7 (natLe 8 1 ++ [0])
   let k : NbtKey := ⟨false, natLe 8 1⟩
   let n : Nat := 4 * s.bucketOf (keyHash k)
   decide (p.ptype = ptLookup) && decide (s.hears p = true) && decide (s.canonical = true) && decide (p.bcast = false) &&
    decide (s.leadsTo p.src = true) && decide (s.enabled P.NBT = true) && decide (k = ⟨false, p.payload.take 8⟩) &&
    decide ((leAt p.payload 8 1).testBit 0 = false) && decide (s.searchBad k = false) && decide (s.findKey k = some n) &&
    decide (s.entFlag n efAlias = false) && decide (s.globalIx n / 16384 = s.myPos) && decide (s.globalIx n % 16384 = n) &&
    decide (s.reserved.any (fun r => r.1 == n) = false) && decide ((leAt p.payload 8 1).testBit 1 = false) &&
     (match exec (.hvlLookup p) s with
      | .next t => decide (s.sentTo t ptReply p.src p.tag (replyBytes (s.globalIx n) true false (s.entWords n) (s.nextOut n)) = true) &&
        decide (t.reserved = s.reserved) && decide (t.mem = s.mem)
      | _ => false)) &&
  (
   let s : State := { receiving (some { frameV with lookup := .waiting }) with regs := (chained 2 3).regs, hvl := { (chained 2 3).hvl with waits := [⟨7, 0, some (.slice 0, 0), none, ptLookup, [1]⟩] } }
   let p : Packet := packet ptReply 0 2 7 (natLe 4 (5 + 1 * 131072) ++ [1, 0, 2, 0, 0, 0, 3, 0, 0, 0, 0, 0, 1, 0])
   let u : RxUnit := .slice 0
   let at_ : Nat := 0
   let f : RxFrame := { frameV with lookup := .waiting }
   let w : Outstanding := ⟨7, 0, some (.slice 0, 0), none, ptLookup, [1]⟩
   let ns : Nat := 900
   let h : MacHdr := mac0
   let x : Nat := 1
   decide (p.ptype = ptReply) && decide (s.hears p = true) && decide (s.canonical = true) && decide (p.bcast = false) &&
    decide (s.dueAnswer ptLookup p = some w) && decide (w.unit = some (u, at_)) && decide (s.stampedFrame u at_ = some f) &&
    decide (f.lookup = .waiting) && decide ((leAt p.payload 0 4).testBit 17 = true) && decide ((leAt p.payload 0 4).testBit 18 = false) &&
    decide (f.mac = some h) && decide (h.srcAddr = some (.ext x)) &&
     (match exec (.reply p ns) s with
      | .next t => decide (((t.slot u).frame.map (fun (g : RxFrame) => g.lookup)) = some (LookupState.found ⟨leAt p.payload 0 4 % 2 ^ 17, [x % 2 ^
        32, x / 2 ^ 32, leAt p.payload 4 2 * 65536, leAt p.payload 6 4, leAt p.payload 10 4, leAt p.payload 14 4, 0, 0], if w.part == [1] then some
        (leAt p.payload 10 4) else none⟩)) && decide (t.hvl.waits = s.hvl.waits.filter (· != w))
      | _ => false)) &&
  (
   let s : State := { receiving (some { frameV with lookup := .waiting }) with regs := (chained 2 3).regs, hvl := { (chained 2 3).hvl with waits := [⟨7, 0, some (.slice 0, 0), none, ptLookup, [1]⟩] } }
   let p : Packet := packet ptReply 0 2 7 (natLe 4 (5 + 0 * 131072) ++ [1, 0, 2, 0, 0, 0, 3, 0, 0, 0, 0, 0, 1, 0])
   let u : RxUnit := .slice 0
   let at_ : Nat := 0
   let f : RxFrame := { frameV with lookup := .waiting }
   let w : Outstanding := ⟨7, 0, some (.slice 0, 0), none, ptLookup, [1]⟩
   let ns : Nat := 900
   decide (p.ptype = ptReply) && decide (s.hears p = true) && decide (s.canonical = true) && decide (p.bcast = false) &&
    decide (s.dueAnswer ptLookup p = some w) && decide (w.unit = some (u, at_)) && decide (s.stampedFrame u at_ = some f) &&
    decide (f.lookup = .waiting) && decide ((leAt p.payload 0 4).testBit 17 = false) &&
     (match exec (.reply p ns) s with
      | .next t => decide (((t.slot u).frame.map (fun (g : RxFrame) => g.lookup)) = some LookupState.notFound) &&
        decide (t.hvl.waits = s.hvl.waits.filter (· != w))
      | _ => false))) = true := by decide +kernel

/-- States and operands that meet the clauses of `Obligations.CascadeRequestsComplete` on verdict, nbtCmd, nbtRes, and what comes of them. -/
theorem witness_CascadeRequestsComplete_2 : (
  (
   let s : State := { (chained 0 3).setEntW 5 4 7 with reserved := [(5, 7), (5, 8)] }
   let p : Packet := packet ptVerdict 2 0 7 (natLe 4 (5 + 2 ^ 18) ++ natLe 4 9 ++ natLe 4 8 ++ [0, 0, 0])
   let i : Nat := 5
   let u : Nat := 8
   decide (p.ptype = ptVerdict) && decide (s.hears p = true) && decide (s.canonical = true) && decide (p.bcast = false) &&
    decide (i = leAt p.payload 0 4 % 16384) && decide (u = leAt p.payload 8 4) && decide ((leAt p.payload 0 4).testBit 19 = false) &&
    decide (s.entW i 4 ≤ u) && decide (u < 0xFFFFFFFF) && decide ((leAt p.payload 0 4).testBit 17 = false) &&
    decide ((leAt p.payload 0 4).testBit 18 = true) &&
     (match exec (.verdict p) s with
      | .next t => decide (t.reserved = removeFirst (fun r => r == (i, u)) s.reserved) && decide (t.entW i 4 = u + 1) &&
        decide (t.entW i 3 = s.entW i 3)
      | _ => false)) &&
  (
   let s : State := { (chained 0 3).setEntW 5 4 7 with reserved := [(5, 7), (5, 8)] }
   let p : Packet := packet ptVerdict 2 0 7 (natLe 4 (5 + 2 ^ 17) ++ natLe 4 9 ++ natLe 4 8 ++ [0, 0, 0])
   let i : Nat := 5
   let u : Nat := 8
   decide (p.ptype = ptVerdict) && decide (s.hears p = true) && decide (s.canonical = true) && decide (p.bcast = false) &&
    decide (i = leAt p.payload 0 4 % 16384) && decide (u = leAt p.payload 8 4) && decide ((leAt p.payload 0 4).testBit 19 = false) &&
    decide (s.entW i 4 ≤ u) && decide (u < 0xFFFFFFFF) && decide ((leAt p.payload 0 4).testBit 17 = true) &&
    decide (s.entW i 3 < leAt p.payload 4 4) &&
     (match exec (.verdict p) s with
      | .next t => decide (t.reserved = removeFirst (fun r => r == (i, u)) s.reserved) && decide (t.entW i 4 = u + 1) &&
        decide (t.entW i 3 = leAt p.payload 4 4)
      | _ => false)) &&
  (
   let s : State := (chained 0 3).setEntW 5 5 65536
   let p : Packet := packet ptNbtCmd 2 0 7 [3, 0, 5, 0, 0, 0]
   let g : Nat := 5
   decide (p.ptype = ptNbtCmd) && decide (s.hears p = true) && decide (s.canonical = true) && decide (p.bcast = false) &&
    decide (p.first = true) && decide (p.last = true) && decide (s.enabled P.NBT = true) && decide (leAt p.payload 0 1 % 8 = 3) &&
    decide (g = leAt p.payload 2 4 % 2 ^ 17) && decide (g / 16384 = s.myPos) && decide (s.badIndex g = false) &&
    decide (s.entBad (g % 16384) = false) && decide (s.entUsable (g % 16384) = true) && decide (s.entFlag (g % 16384) efValid = true) &&
    decide (s.leadsTo p.src = true) &&
     (match exec (.nbtCmd p) s with
      | .next t => decide (t.entFlag (g % 16384) efValid = false) && decide (s.sentTo t ptNbtRes p.src p.tag (natLe 4 g) = true)
      | _ => false)) &&
  (
   let s : State := { chained 2 3 with hvl := { (chained 2 3).hvl with waits := [⟨7, 0, none, some .apc, ptNbtCmd, []⟩] } }
   let p : Packet := packet ptNbtRes 0 2 7 (natLe 4 (2 * 2 ^ 20 + 5))
   let w : Outstanding := ⟨7, 0, none, some .apc, ptNbtCmd, []⟩
   let i : Initiator := .apc
   decide (p.ptype = ptNbtRes) && decide (s.hears p = true) && decide (s.canonical = true) && decide (p.bcast = false) &&
    decide (p.first = true) && decide (p.last = true) && decide (s.dueAnswer ptNbtCmd p = some w) && decide (w.ini = some i) &&
    decide (p.payload.length < 36) &&
     (match exec (.nbtRes p) s with
      | .next t => decide (t.nbtJobs.get i = none) && decide (t.getI i F.NBT_RES_BUSY = 0) &&
        decide (t.getI i F.NBT_RES_RESULT = bitsOf (leAt p.payload 0 4) 20 4) &&
        decide (t.getI i F.NBT_RES_INDEX = leAt p.payload 0 4 % 2 ^ 17) && decide (t.hvl.waits = s.hvl.waits.filter (· != w))
      | _ => false))) = true := by decide +kernel

/-- States and operands that meet the clauses of `Obligations.CascadeRequestsComplete` on entry, entryRes, frame, fwdAck, and what comes of them (of
frame the hypotheses only: a free value or a long computation stands in the result). -/
theorem witness_CascadeRequestsComplete_3 : (
  (
   let s : State := withEnt { entry0 with words := rxWords, state := .armed, start := 5000 } (chained 2 3)
   let p : Packet := packet ptEntry 0 2 7 [2, 0]
   let n : Nat := 0
   decide (p.ptype = ptEntry) && decide (s.hears p = true) && decide (s.canonical = true) && decide (p.bcast = false) &&
    decide (p.first = true) && decide (p.last = true) && decide (s.enabled P.LNK = true) && decide (s.hvlSlave = true) &&
    decide (leAt p.payload 0 1 % 8 = 2) && decide (n = leAt p.payload 1 1 % 128) && decide (n < s.timeline.length) &&
    decide ((s.ent n).state = EntryState.armed ∨ (s.ent n).state = EntryState.wait) && decide (s.leadsTo p.src = true) &&
     (match exec (.entry p) s with
      | .next t => decide ((t.ent n).state = EntryState.empty) && decide ((t.ent n).last = 5) &&
        decide (s.sentTo t ptEntryRes p.src p.tag (natLe 4 (t.entRes n 0)) = true)
      | _ => false)) &&
  (
   let s : State := { chained 0 3 with hvl := { (chained 0 3).hvl with waits := [⟨7, 2, none, some .ntc, ptEntry, []⟩] } }
   let p : Packet := packet ptEntryRes 2 0 7 [1, 5, 0, 0]
   let w : Outstanding := ⟨7, 2, none, some .ntc, ptEntry, []⟩
   let i : Initiator := .ntc
   decide (p.ptype = ptEntryRes) && decide (s.hears p = true) && decide (s.canonical = true) && decide (p.bcast = false) &&
    decide (p.first = true) && decide (p.last = true) && decide (s.dueAnswer ptEntry p = some w) && decide (w.ini = some i) &&
    decide (p.payload.length < 36) &&
     (match exec (.entryRes p) s with
      | .next t => decide (t.regI i Reg.LNK_ENT_RES = BitVec.ofNat 32 (leAt p.payload 0 4)) &&
        decide (t.hvl.waits = s.hvl.waits.filter (· != w)) && decide (t.regs = s.regs)
      | _ => false)) &&
  (
   let s : State := chained 0 3
   let p : Packet := packet ptFrame 2 0 7 (natLe 4 5 ++ natLe 8 1 ++ natLe 8 1 ++ natLe 8 1 ++ natLe 8 1 ++ natLe 8 1 ++ natLe 8 1)
   decide (p.ptype = ptFrame) && decide (s.hears p = true) && decide (s.canonical = true) && decide (p.bcast = false) &&
    decide (p.first = true) && decide (p.last = true) && decide (s.hvlMaster = true) && decide (s.enabled P.FRM = true) &&
    decide (s.hvl.inbound.find? (fun f => f.src == p.src) = none) && decide (blocksFor (p.payload.length - 4) ≤ s.freeCount) &&
    decide (s.owners.length = 512) && decide (s.leadsTo p.src = true)) &&
  (
   let s : State := { chained 2 3 with hvl := { (chained 2 3).hvl with fwdSent := true, fwdTag := 7, fwdQ := [3, 9], fwdWait := 0 } }
   let p : Packet := packet ptFwdAck 0 2 7 [7, 0]
   let h : Nat := 3
   let q : List Nat := [9]
   decide (p.ptype = ptFwdAck) && decide (s.hears p = true) && decide (s.canonical = true) && decide (p.bcast = false) &&
    decide (s.hvl.fwdSent = true) && decide (leAt p.payload 0 1 = s.hvl.fwdTag) && decide (s.hvl.fwdQ = h :: q) && decide (leAt p.payload 1 1 = 0) &&
     (match exec (.fwdAck p) s with
      | .next t => decide (t.hvl.fwdQ = q) && decide ((q = [] → t.hvl.fwdSent = false))
      | _ => false))) = true := by decide +kernel

/-- States and operands that meet the clauses of `Obligations.CascadeRequestsComplete` on fwdAck, forwardResend, commitAt, and what comes of them. -/
theorem witness_CascadeRequestsComplete_4 : (
  (
   let s : State := { chained 2 3 with hvl := { (chained 2 3).hvl with fwdSent := true, fwdTag := 7, fwdQ := [3, 9], fwdWait := 20 } }
   let p : Packet := packet ptFwdAck 0 2 7 [7, 1]
   let h : Nat := 3
   let q : List Nat := [9]
   decide (p.ptype = ptFwdAck) && decide (s.hears p = true) && decide (s.canonical = true) && decide (p.bcast = false) &&
    decide (s.hvl.fwdSent = true) && decide (leAt p.payload 0 1 = s.hvl.fwdTag) && decide (s.hvl.fwdQ = h :: q) &&
    decide (leAt p.payload 1 1 ≠ 0) && decide (s.get F.HVL_FWD_STAT_NAKS < 65535) &&
     (match exec (.fwdAck p) s with
      | .next t => decide (t.hvl.fwdQ = s.hvl.fwdQ) && decide (t.hvl.fwdSent = false) &&
        decide (t.hvl.fwdWait = (if s.hvl.fwdWait = 0 then 10 else min (2 * s.hvl.fwdWait) 640)) &&
        decide (t.get F.HVL_FWD_STAT_NAKS = s.get F.HVL_FWD_STAT_NAKS + 1)
      | _ => false)) &&
  (
   let s : State := { chained 2 3 with hvl := { (chained 2 3).hvl with fwdSent := false, fwdTag := 7, fwdQ := [3, 9], fwdWait := 20 } }
   let h : Nat := 3
   let q : List Nat := [9]
   decide (s.hvlSlave = true) && decide (s.hvl.fwdSent = false) && decide (s.hvl.fwdWait ≠ 0) && decide (s.hvl.fwdQ = h :: q) &&
    decide ((s.hop .up).up = true) &&
     (match exec .forwardResend s with
      | .next t => decide (t.hvl.fwdSent = true) && decide (t.hvl.fwdQ = s.hvl.fwdQ) && decide (t.hvl.fwdTag = s.hvl.next) &&
        decide (s.hvl.up.kept.length < t.hvl.up.kept.length) && decide (t.regs = s.regs)
      | _ => false)) &&
  (
   let s : State := (chained 2 3).put F.UPD_STAT_STATE 2
   let p : Packet := ⟨.up, 9, packetBytes ptCommitAt 0 2 7 true true true (([0, 4] : List Byte) ++ natLe 6 0x123456789 ++ toBytes ((mfDigest live.manifestNow).take 8))⟩
   decide (p.ptype = ptCommitAt) && decide (s.hears p = true) && decide (s.canonical = true) && decide (s.enabled P.UPD = true) &&
    decide (s.hvlPos ≠ 0) && decide ((leAt p.payload 1 1).testBit s.hvlPos = true) && decide (leAt p.payload 0 1 = 0) && decide (s.updSt = 2) &&
    decide (toNats (p.payload.drop 8) = (mfDigest s.manifestNow).take 8) &&
    decide (notBefore (leAt p.payload 2 6) (addTicks s.count (usTicks 1000)) = true) &&
     (match exec (.commitAt p) s with
      | .next t => decide (t.updSt = 3) && decide (t.get F.UPD_AT_LO_AT_LO = leAt p.payload 2 6 % 2 ^ 32) &&
        decide (t.get F.UPD_AT_HI_AT_HI = leAt p.payload 2 6 / 2 ^ 32 % 65536) && decide (t.upd.byMaster = true)
      | _ => false)) &&
  (
   let s : State := (chained 2 3).put F.UPD_STAT_STATE 4
   let p : Packet := ⟨.up, 9, packetBytes ptCommitAt 0 2 7 true true true (([1, 4] : List Byte) ++ natLe 6 0)⟩
   decide (p.ptype = ptCommitAt) && decide (s.hears p = true) && decide (s.canonical = true) && decide (s.enabled P.UPD = true) &&
    decide (s.hvlPos ≠ 0) && decide ((leAt p.payload 1 1).testBit s.hvlPos = true) && decide (leAt p.payload 0 1 = 1) &&
    decide (s.updSt = 4 ∨ s.updSt = 5) && decide (s.upd.fall = none) &&
     (match exec (.commitAt p) s with
      | .next t => decide (t.upd.fall = some 5) && decide (t.updSt = s.updSt)
      | _ => false)) &&
  (
   let s : State := (chained 2 3).put F.UPD_STAT_STATE 3
   let p : Packet := ⟨.up, 9, packetBytes ptCommitAt 0 2 7 true true true (([2, 4] : List Byte) ++ natLe 6 0)⟩
   decide (p.ptype = ptCommitAt) && decide (s.hears p = true) && decide (s.canonical = true) && decide (s.enabled P.UPD = true) &&
    decide (s.hvlPos ≠ 0) && decide ((leAt p.payload 1 1).testBit s.hvlPos = true) && decide (leAt p.payload 0 1 = 2) && decide (s.updSt = 3) &&
     (match exec (.commitAt p) s with
      | .next t => decide (t.updSt = 2) && decide (t.on F.UPD_STAT_BUSY = false)
      | _ => false))) = true := by decide +kernel

/-- States and operands that meet the clauses of `Obligations.CascadeLinkEventsComplete` on packetAck, packetNak, resendTimeout, and what comes of
them. -/
theorem witness_CascadeLinkEventsComplete_1 : (
  (
   let s : State := { chained 2 3 with hvl := { (chained 2 3).hvl with dn := { hop0 with up := true, kept := [keptPacket 0 false] } } }
   let port : HvlPort := .dn
   let seq : Byte := 4
   let k : SentPacket := keptPacket 0 false
   decide ((s.hop port).kept.find? (fun k => k.seq == seq.toNat) = some k) &&
     (match exec (.packetAck port seq) s with
      | .next t => decide ((t.hop port).kept = (s.hop port).kept.filter (fun (x : SentPacket) => x.seq != seq.toNat)) &&
        decide (t.regs = s.regs) && decide ((k.ptype ≠ ptVerdict → t.hvl.verdicts = s.hvl.verdicts))
      | _ => false)) &&
  (
   let s : State := { chained 2 3 with hvl := { (chained 2 3).hvl with dn := { hop0 with up := true, kept := [keptPacket 0 false] } } }
   let port : HvlPort := .dn
   let seq : Byte := 4
   let k : SentPacket := keptPacket 0 false
   decide ((s.hop port).up = true) && decide ((s.hop port).training = false) &&
    decide ((s.hop port).kept.find? (fun k => k.seq == seq.toNat) = some k) && decide (k.retries < s.get F.FLT_CFG_RETRY_MAX) &&
     (match exec (.packetNak port seq) s with
      | .next t => decide ((t.hop port).kept = (s.hop port).kept.map (fun (x : SentPacket) => if x.seq == seq.toNat then
        { x with retries := x.retries + 1, waiting := true } else x)) && decide ((t.hop port).training = false) && decide (t.regs = s.regs)
      | _ => false)) &&
  (
   let s : State := { chained 2 3 with hvl := { (chained 2 3).hvl with dn := { hop0 with up := true, kept := [keptPacket 15 false] } } }
   let port : HvlPort := .dn
   let seq : Byte := 4
   let k : SentPacket := keptPacket 15 false
   decide ((s.hop port).up = true) && decide ((s.hop port).training = false) &&
    decide ((s.hop port).kept.find? (fun k => k.seq == seq.toNat) = some k) && decide (s.get F.FLT_CFG_RETRY_MAX ≤ k.retries) &&
     (match exec (.packetNak port seq) s with
      | .next t => decide ((t.hop port).training = true) && decide ((t.hop port).kept = (s.hop port).kept) && decide (t.regs = s.regs)
      | _ => false)) &&
  (
   let s : State := { chained 2 3 with hvl := { (chained 2 3).hvl with dn := { hop0 with up := true, kept := [keptPacket 0 false] } } }
   let port : HvlPort := .dn
   let seq : Byte := 4
   let k : SentPacket := keptPacket 0 false
   decide ((s.hop port).up = true) && decide ((s.hop port).training = false) &&
    decide ((s.hop port).kept.find? (fun k => k.seq == seq.toNat) = some k) && decide (k.waiting = false) &&
    decide (k.retries < s.get F.FLT_CFG_RETRY_MAX) &&
     (match exec (.resendTimeout port seq) s with
      | .next t => decide ((t.hop port).kept = (s.hop port).kept.map (fun (x : SentPacket) => if x.seq == seq.toNat then
        { x with retries := x.retries + 1, waiting := true } else x)) && decide ((t.hop port).training = false) && decide (t.regs = s.regs)
      | _ => false)) &&
  (
   let s : State := { chained 2 3 with hvl := { (chained 2 3).hvl with dn := { hop0 with up := true, kept := [keptPacket 15 false] } } }
   let port : HvlPort := .dn
   let seq : Byte := 4
   let k : SentPacket := keptPacket 15 false
   decide ((s.hop port).up = true) && decide ((s.hop port).training = false) &&
    decide ((s.hop port).kept.find? (fun k => k.seq == seq.toNat) = some k) && decide (k.waiting = false) &&
    decide (s.get F.FLT_CFG_RETRY_MAX ≤ k.retries) &&
     (match exec (.resendTimeout port seq) s with
      | .next t => decide ((t.hop port).training = true) && decide ((t.hop port).kept = (s.hop port).kept) && decide (t.regs = s.regs)
      | _ => false))) = true := by decide +kernel

/-- States and operands that meet the clauses of `Obligations.CascadeLinkEventsComplete` on resendTimeout, packetCrcFail, reservedTypePacket,
retrainDone, and what comes of them. -/
theorem witness_CascadeLinkEventsComplete_2 : (
  (
   let s : State := { chained 2 3 with hvl := { (chained 2 3).hvl with dn := { hop0 with up := true, kept := [keptPacket 1 true] } } }
   let port : HvlPort := .dn
   let seq : Byte := 4
   let k : SentPacket := keptPacket 1 true
   decide (s.canonical = true) && decide ((s.hop port).up = true) && decide ((s.hop port).training = false) &&
    decide ((s.hop port).kept.find? (fun k => k.seq == seq.toNat) = some k) && decide (k.waiting = true) &&
    decide (s.get F.HVL_ERRS_RETRIES < 65535) &&
     (match exec (.resendTimeout port seq) s with
      | .next t => decide ((t.hop port).kept = (s.hop port).kept.map (fun (x : SentPacket) => if x.seq == seq.toNat then { x with waiting := false }
        else x)) && decide ((t.hop port).line = (s.hop port).line ++ packetChars k.pkt true) &&
        decide (t.get F.HVL_ERRS_RETRIES = s.get F.HVL_ERRS_RETRIES + 1)
      | _ => false)) &&
  (
   let s : State := chained 2 3
   let p : Packet := { packet ptLookup 0 2 7 [1] with bytes := [1, 2, 3] }
   let code : Bool := true
   let l : Nat := 1
   decide (s.canonical = true) && decide (s.hveRuns = true) && decide ((s.hop p.port).up = true) && decide ((s.hop p.port).training = false) &&
    decide (s.get F.HVL_ERRS_CRC_ERRS < 65535) && decide (p.intact = false) &&
     (match exec (.packetCrcFail p code l) s with
      | .next t => decide (t.get F.HVL_ERRS_CRC_ERRS = s.get F.HVL_ERRS_CRC_ERRS + 1) &&
        decide ((t.reg (Reg.IRQ_RAW (P.HVL))).toNat.testBit (5) = true)
      | _ => false)) &&
  (
   let s : State := chained 2 3
   let p : Packet := { packet ptLookup 0 2 7 [1] with bytes := [1, 2, 3] }
   let l : Nat := 0
   decide (s.canonical = true) && decide (s.hveRuns = true) && decide ((s.hop p.port).up = true) && decide ((s.hop p.port).training = false) &&
    decide (s.get F.HVL_ERRS_CRC_ERRS < 65535) && decide (p.intact = false) &&
     (match exec (.packetCrcFail p false l) s with
      | .next t => decide ((t.hop p.port).line = (s.hop p.port).line ++ [LinkChar.k 28 6, LinkChar.d (BitVec.ofNat 8 p.seq)]) &&
        decide ((t.hop p.port).kept = (s.hop p.port).kept)
      | _ => false)) &&
  (
   let s : State := chained 2 3
   let p : Packet := packet 0x1F 0 2 7 [1]
   decide (s.canonical = true) && decide (s.hveRuns = true) && decide ((s.hop p.port).up = true) && decide ((s.hop p.port).training = false) &&
    decide (s.get F.HVL_ERRS_CRC_ERRS < 65535) && decide (p.intact = true) && decide ((s.hop p.port).accepted.contains (p.seq % 256) = false) &&
    decide (p.ptype = 0 ∨ 0x0D < p.ptype) && decide (p.ptype ≠ ptFrame) &&
     (match exec (.reservedTypePacket p) s with
      | .next t => decide (t.get F.HVL_ERRS_CRC_ERRS = s.get F.HVL_ERRS_CRC_ERRS + 1) &&
        decide ((t.hop p.port).line = (s.hop p.port).line ++ [LinkChar.k 28 4, LinkChar.d (BitVec.ofNat 8 p.seq)]) &&
        decide ((t.hop p.port).kept = (s.hop p.port).kept)
      | _ => false)) &&
  (
   let s : State := { chained 2 3 with hvl := { (chained 2 3).hvl with dn := { hop0 with up := true, training := true, kept := [keptPacket 9 true] } } }
   let port : HvlPort := .dn
   let lanes : Nat := 2
   decide ((s.hop port).up = true) && decide ((s.hop port).training = true) && decide (lanes % 4 ≠ 0) &&
     (match exec (.retrainDone port lanes) s with
      | .next t => decide ((t.hop port).up = true) && decide ((t.hop port).training = false) &&
        decide ((t.hop port).kept = (s.hop port).kept.map (fun (x : SentPacket) => { x with retries := 0, waiting := false })) &&
        decide ((t.hop port).line = (s.hop port).line ++ (s.hop port).kept.flatMap (fun (x : SentPacket) => packetChars x.pkt true))
      | _ => false))) = true := by decide +kernel

/-- States and operands that meet the clauses of `Obligations.CascadeLinkEventsComplete` on retrainDone, hopDown, prbsTestDone, and what comes of
them. -/
theorem witness_CascadeLinkEventsComplete_3 : (
  (
   let s : State := { chained 2 3 with hvl := { (chained 2 3).hvl with dn := { hop0 with up := true, training := true, kept := [keptPacket 9 true] } } }
   let lanes : Nat := 0
   decide (s.canonical = true) && decide ((s.hop .dn).up = true) && decide ((s.hop .dn).training = true) && decide (lanes % 4 = 0) &&
     (match exec (.retrainDone .dn lanes) s with
      | .next t => decide ((t.hop .dn).up = false) && decide ((t.hop .dn).training = true) && decide ((t.hop .dn).kept = []) &&
        decide (t.get F.HVL_STAT_DN_RX = 0) && decide (t.pageSt P.HVL = s.pageSt P.HVL)
      | _ => false)) &&
  (
   let s : State := { chained 2 3 with hvl := { (chained 2 3).hvl with dn := { hop0 with up := true, training := true, kept := [keptPacket 9 true] } } }
   decide (s.canonical = true) && decide ((s.hop .dn).up = true) &&
     (match exec (.hopDown .dn) s with
      | .next t => decide ((t.hop .dn).up = false) && decide ((t.hop .dn).training = true) && decide ((t.hop .dn).kept = []) &&
        decide (t.get F.HVL_STAT_DN_RX = 0) && decide (t.pageSt P.HVL = s.pageSt P.HVL)
      | _ => false)) &&
  (
   let s : State := { chained 2 3 with hvl := { (chained 2 3).hvl with up := { hop0 with up := true, training := true } } }
   let lanes : Nat := 0
   decide (s.canonical = true) && decide ((s.hop .up).up = true) && decide (s.pageSt P.HVL = 3) && decide ((s.hop .up).training = true) &&
    decide (lanes % 4 = 0) &&
     (match exec (.retrainDone .up lanes) s with
      | .next t => decide (t.pageSt P.HVL = 4) && decide ((t.hop .up).up = false) && decide ((t.hop .up).training = true) &&
        decide ((t.hop .dn).up = false)
      | _ => false)) &&
  (
   let s : State := { chained 2 3 with hvl := { (chained 2 3).hvl with up := { hop0 with up := true, training := true } } }
   decide (s.canonical = true) && decide ((s.hop .up).up = true) && decide (s.pageSt P.HVL = 3) &&
     (match exec (.hopDown .up) s with
      | .next t => decide (t.pageSt P.HVL = 4) && decide ((t.hop .up).up = false) && decide ((t.hop .up).training = true) &&
        decide ((t.hop .dn).up = false)
      | _ => false)) &&
  (
   let s : State := { chained 2 3 with hvl := { (chained 2 3).hvl with dn := { hop0 with up := true, prbs := true, kept := [keptPacket 9 true] } } }
   let port : HvlPort := .dn
   decide ((s.hop port).prbs = true) &&
     (match exec (.prbsTestDone port false false) s with
      | .next t => decide ((t.hop port).prbs = false) && decide (t.faultTimes (uDir port) = []) && decide (t.regs = s.regs)
      | _ => false))) = true := by decide +kernel

/-- States and operands that meet the clauses of `Obligations.SecurityJobCommandsComplete` on aesEcbEncrypt, aesCtr, ccmEncrypt, and what comes of
them. -/
theorem witness_SecurityJobCommandsComplete_1 : (
  (
   let s : State := (live.setReg Reg.SEC_JOB_SRC 0x20000100).setReg Reg.SEC_JOB_LEN 32
   let i : Initiator := .apc
   let w : Word := 0x70000
   let r : RegRow := rowAt (P.SEC) 0x104
   decide (s.takes i P.SEC 0x104 (withBits w 0 4 1) r = true) && decide (s.canonical = true) && decide (s.enabled P.SEC = true) &&
    decide (s.sec.job = none) &&
     (match exec (.aesEcbEncrypt i w) s with
      | .next t => decide (((t.sec.job).map (fun (j : SecJob) => (j.op, j.src, j.dst, j.len, j.ini))) = some (1, (s.reg Reg.SEC_JOB_SRC).toNat,
        (s.reg Reg.SEC_JOB_DST).toNat, s.get F.SEC_JOB_LEN_LEN, i)) && decide (t.get F.SEC_JOB_STAT_BUSY = 1) &&
        decide (t.get F.SEC_JOB_STAT_LOST = 0) && decide ((w.toNat.testBit 8 = false →
        ((t.sec.job).map (fun (j : SecJob) => (j.key, j.plain))) = some ((s.copyKey (bitsOf w.toNat 16 12) 3).1, none)))
      | _ => false)) &&
  (
   let s : State := live.setSec (fun x => { x with job := some ⟨5, none, none, 0, 0, 0, .apc⟩ })
   let i : Initiator := .apc
   let w : Word := 0x70000
   let r : RegRow := rowAt (P.SEC) 0x104
   decide (s.takes i P.SEC 0x104 (withBits w 0 4 1) r = true) && decide (s.canonical = true) && decide (s.enabled P.SEC = true) &&
    decide (s.sec.job ≠ none) &&
     (match exec (.aesEcbEncrypt i w) s with
      | .next t => decide (t.sec = s.sec) && decide (t.get F.SEC_JOB_STAT_LOST = 1)
      | _ => false)) &&
  (
   let s : State := (live.setReg Reg.SEC_JOB_SRC 0x20000100).setReg Reg.SEC_JOB_LEN 32
   let i : Initiator := .apc
   let w : Word := 0x70000
   let r : RegRow := rowAt (P.SEC) 0x104
   decide (s.takes i P.SEC 0x104 (withBits w 0 4 2) r = true) && decide (s.canonical = true) && decide (s.enabled P.SEC = true) &&
    decide (s.sec.job = none) &&
     (match exec (.aesCtr i w) s with
      | .next t => decide (((t.sec.job).map (fun (j : SecJob) => (j.op, j.src, j.dst, j.len, j.ini))) = some (2, (s.reg Reg.SEC_JOB_SRC).toNat,
        (s.reg Reg.SEC_JOB_DST).toNat, s.get F.SEC_JOB_LEN_LEN, i)) && decide (t.get F.SEC_JOB_STAT_BUSY = 1) &&
        decide (t.get F.SEC_JOB_STAT_LOST = 0) && decide ((w.toNat.testBit 8 = false →
        ((t.sec.job).map (fun (j : SecJob) => (j.key, j.plain))) = some ((s.copyKey (bitsOf w.toNat 16 12) 3).1, none)))
      | _ => false)) &&
  (
   let s : State := (live.setReg Reg.SEC_JOB_SRC 0x20000100).setReg Reg.SEC_JOB_LEN 32
   let i : Initiator := .apc
   let w : Word := 0x70000
   let r : RegRow := rowAt (P.SEC) 0x104
   decide (s.takes i P.SEC 0x104 (withBits w 0 4 3) r = true) && decide (s.canonical = true) && decide (s.enabled P.SEC = true) &&
    decide (s.sec.job = none) &&
     (match exec (.ccmEncrypt i w) s with
      | .next t => decide (((t.sec.job).map (fun (j : SecJob) => (j.op, j.src, j.dst, j.len, j.ini))) = some (3, (s.reg Reg.SEC_JOB_SRC).toNat,
        (s.reg Reg.SEC_JOB_DST).toNat, s.get F.SEC_JOB_LEN_LEN, i)) && decide (t.get F.SEC_JOB_STAT_BUSY = 1) &&
        decide (t.get F.SEC_JOB_STAT_LOST = 0) && decide ((w.toNat.testBit 8 = false →
        ((t.sec.job).map (fun (j : SecJob) => (j.key, j.plain))) = some ((s.copyKey (bitsOf w.toNat 16 12) 3).1, none)))
      | _ => false))) = true := by decide +kernel

/-- States and operands that meet the clauses of `Obligations.SecurityJobCommandsComplete` on ccmDecrypt, sha256, ecdsaP256Verify, jobDone, rng, and
what comes of them. -/
theorem witness_SecurityJobCommandsComplete_2 : (
  (
   let s : State := (live.setReg Reg.SEC_JOB_SRC 0x20000100).setReg Reg.SEC_JOB_LEN 32
   let i : Initiator := .apc
   let w : Word := 0x70000
   let r : RegRow := rowAt (P.SEC) 0x104
   decide (s.takes i P.SEC 0x104 (withBits w 0 4 4) r = true) && decide (s.canonical = true) && decide (s.enabled P.SEC = true) &&
    decide (s.sec.job = none) &&
     (match exec (.ccmDecrypt i w) s with
      | .next t => decide (((t.sec.job).map (fun (j : SecJob) => (j.op, j.src, j.dst, j.len, j.ini))) = some (4, (s.reg Reg.SEC_JOB_SRC).toNat,
        (s.reg Reg.SEC_JOB_DST).toNat, s.get F.SEC_JOB_LEN_LEN, i)) && decide (t.get F.SEC_JOB_STAT_BUSY = 1) &&
        decide (t.get F.SEC_JOB_STAT_LOST = 0) && decide ((w.toNat.testBit 8 = false →
        ((t.sec.job).map (fun (j : SecJob) => (j.key, j.plain))) = some ((s.copyKey (bitsOf w.toNat 16 12) 3).1, none)))
      | _ => false)) &&
  (
   let s : State := (live.setReg Reg.SEC_JOB_SRC 0x20000100).setReg Reg.SEC_JOB_LEN 32
   let i : Initiator := .apc
   let w : Word := 0x70000
   let r : RegRow := rowAt (P.SEC) 0x104
   decide (s.takes i P.SEC 0x104 (withBits w 0 4 5) r = true) && decide (s.canonical = true) && decide (s.enabled P.SEC = true) &&
    decide (s.sec.job = none) &&
     (match exec (.sha256 i w) s with
      | .next t => decide (((t.sec.job).map (fun (j : SecJob) => (j.op, j.src, j.dst, j.len, j.ini))) = some (5, (s.reg Reg.SEC_JOB_SRC).toNat,
        (s.reg Reg.SEC_JOB_DST).toNat, s.get F.SEC_JOB_LEN_LEN, i)) && decide (t.get F.SEC_JOB_STAT_BUSY = 1) &&
        decide (t.get F.SEC_JOB_STAT_LOST = 0)
      | _ => false)) &&
  (
   let s : State := (live.setReg Reg.SEC_JOB_SRC 0x20000100).setReg Reg.SEC_JOB_LEN 32
   let i : Initiator := .apc
   let w : Word := 0x70000
   let r : RegRow := rowAt (P.SEC) 0x104
   decide (s.takes i P.SEC 0x104 (withBits w 0 4 6) r = true) && decide (s.canonical = true) && decide (s.enabled P.SEC = true) &&
    decide (s.sec.job = none) &&
     (match exec (.ecdsaP256Verify i w) s with
      | .next t => decide (((t.sec.job).map (fun (j : SecJob) => (j.op, j.src, j.dst, j.len, j.ini))) = some (6, (s.reg Reg.SEC_JOB_SRC).toNat,
        (s.reg Reg.SEC_JOB_DST).toNat, s.get F.SEC_JOB_LEN_LEN, i)) && decide (t.get F.SEC_JOB_STAT_BUSY = 1) &&
        decide (t.get F.SEC_JOB_STAT_LOST = 0)
      | _ => false)) &&
  (
   let s : State := live.setSec (fun x => { x with job := some ⟨6, none, none, 0x20000000, 0x20000100, 32, .apc⟩ })
   let j : SecJob := ⟨6, none, none, 0x20000000, 0x20000100, 32, .apc⟩
   decide (s.canonical = true) && decide (s.sec.job = some j) && decide (s.flt.badWords = []) &&
     (match exec .jobDone s with
      | .next t => decide (t.sec.job = none) && decide (t.get F.SEC_JOB_STAT_DONE = 1) && decide (t.get F.SEC_JOB_STAT_BUSY = 0) &&
        decide (t.get F.SEC_JOB_STAT_RESULT = (s.jobRun j).result) && decide (t.get F.SEC_JOB_STAT_MIC_FAIL = boolNat (s.jobRun j).micFail) &&
        decide (((s.jobRun j).result = 0 →
        (List.range (s.jobRun j).out.length).any (fun k => regionOf (j.dst + k) == Region.radioBuffer) = false →
        t.mem = (s.busSetBytes j.dst (s.jobRun j).out).mem)) && decide (((s.jobRun j).result ≠ 0 → t.mem = s.mem))
      | _ => false)) &&
  (
   let s : State := { (live.put F.SEC_CFG_RNG_EN 1) with sec := { live.sec with rng := [7, 9], warm := 0 } }
   let i : Initiator := .apc
   let x : Word := 7
   let q : List Word := [9]
   decide (s.offers i P.SEC 0x118 = true) && decide (s.canonical = true) && decide (s.enabled P.SEC = true) && decide (s.sec.rng = x :: q) &&
     (match exec (.rng i) s with
      | .next t => decide (t.out.get i = (⟨x, .ok⟩ : BusAnswer)) && decide (t.sec.rng = q) && decide (t.get F.SEC_RNG_STAT_COUNT = q.length % 16)
      | _ => false))) = true := by decide +kernel

/-- States and operands that meet the clauses of `Obligations.SecurityJobCommandsComplete` on rng, rngWord, rngRestart, and what comes of them. -/
theorem witness_SecurityJobCommandsComplete_3 : (
  (
   let s : State := live
   let i : Initiator := .apc
   decide (s.offers i P.SEC 0x118 = true) && decide (s.canonical = true) && decide (s.enabled P.SEC = true) && decide (s.sec.rng = []) &&
     (match exec (.rng i) s with
      | .next t => decide (t.out.get i = (⟨0, .ok⟩ : BusAnswer)) && decide (t.get F.SEC_RNG_STAT_EMPTY_READ = 1) && decide (t.sec = s.sec)
      | _ => false)) &&
  (
   let s : State := { (live.put F.SEC_CFG_RNG_EN 1) with sec := { live.sec with rng := [7, 9], warm := 0 } }
   let w : Word := 5
   decide (s.canonical = true) && decide (s.enabled P.SEC = true) && decide (s.on F.SEC_CFG_RNG_EN = true) &&
    decide (s.on F.SEC_RNG_STAT_FAIL = false) && decide (s.sec.warm = 0) && decide (s.sec.rng.length < 8) &&
     (match exec (.rngWord w true) s with
      | .next t => decide (t.sec.rng = s.sec.rng ++ [w]) && decide (t.get F.SEC_RNG_STAT_COUNT = s.sec.rng.length + 1)
      | _ => false)) &&
  (
   let s : State := { (live.put F.SEC_CFG_RNG_EN 1) with sec := { live.sec with rng := [7, 9], warm := 9 } }
   let w : Word := 5
   decide (s.canonical = true) && decide (s.enabled P.SEC = true) && decide (s.on F.SEC_CFG_RNG_EN = true) &&
    decide (s.on F.SEC_RNG_STAT_FAIL = false) && decide (s.sec.warm ≠ 0) &&
     (match exec (.rngWord w true) s with
      | .next t => decide (t.sec = { s.sec with warm := s.sec.warm - 1 }) && decide (t.regs = s.regs)
      | _ => false)) &&
  (
   let s : State := { (live.put F.SEC_CFG_RNG_EN 1) with sec := { live.sec with rng := [7, 9], warm := 0 } }
   let w : Word := 5
   decide (s.canonical = true) && decide (s.enabled P.SEC = true) && decide (s.on F.SEC_CFG_RNG_EN = true) &&
    decide (s.on F.SEC_RNG_STAT_FAIL = false) &&
     (match exec (.rngWord w false) s with
      | .next t => decide (t.on F.SEC_RNG_STAT_FAIL = true) && decide (t.sec.rng = []) && decide (t.get F.SEC_RNG_STAT_COUNT = 0) &&
        decide ((t.reg (Reg.IRQ_RAW (P.SEC))).toNat.testBit (1) = true)
      | _ => false)) &&
  (
   let s : State := ({ (live.put F.SEC_CFG_RNG_EN 1) with sec := { live.sec with rng := [7, 9], warm := 0 } }).put F.SEC_RNG_STAT_FAIL 1
   let i : Initiator := .apc
   let r : RegRow := rowAt (P.SEC) 0x11C
   decide (s.takes i P.SEC 0x11C 0x80 r = true) && decide (s.canonical = true) && decide (s.enabled P.SEC = true) &&
    decide (s.on F.SEC_RNG_STAT_FAIL = true) &&
     (match exec (.rngRestart i) s with
      | .next t => decide (t.on F.SEC_RNG_STAT_FAIL = false) && decide (t.sec.warm = 1024) && decide (t.sec.rng = [])
      | _ => false))) = true := by decide +kernel

/-- States and operands that meet the clauses of `Obligations.KeyStoreCommandsComplete` on keyStoreWrite, setAttr, eraseKey, and what comes of them.
-/
theorem witness_KeyStoreCommandsComplete_1 : (
  (
   let s : State := live
   let addr : Word := 0x30200056
   let size : AccessSize := .half
   let w : Word := 0x1234
   decide (s.admits ⟨.scc, addr, size, .write w⟩ = true) && decide (regionOf addr.toNat = .keyStore) && decide (s.canonical = true) &&
    decide ((s.attr ((addr.toNat - 0x30200000) / 16)).testBit 0 = false) &&
     (match exec (.keyStoreWrite addr size w) s with
      | .next t => decide ((∀ k ∈ List.range (sizeBytes size), t.byte (addr.toNat + k) = BitVec.ofNat 8 (w.toNat / 256 ^ k))) &&
        decide (t.sec = s.sec)
      | _ => false)) &&
  (
   let s : State := live.setAttrByte 5 1
   let addr : Word := 0x30200054
   let size : AccessSize := .word
   let w : Word := 0x1234
   decide (s.admits ⟨.scc, addr, size, .write w⟩ = true) && decide (regionOf addr.toNat = .keyStore) && decide (s.canonical = true) &&
    decide ((s.attr ((addr.toNat - 0x30200000) / 16)).testBit 0 = true) && decide (s.enabled P.KST = true) &&
     (match exec (.keyStoreWrite addr size w) s with
      | .next t => decide (t.mem = s.mem) && decide (t.sec = s.sec) && decide ((t.reg (Reg.IRQ_RAW (P.KST))).toNat.testBit (1) = true)
      | _ => false)) &&
  (
   let s : State := live
   let i : Initiator := .scc
   let n : Nat := 9
   let r : RegRow := rowAt (P.KST) 0x100
   decide (s.takes i P.KST 0x100 (BitVec.ofNat 32 (1 + 0x10000 * (n % 4096))) r = true) && decide (s.canonical = true) &&
    decide (s.enabled P.KST = true) && decide (s.sec.kst = none) &&
     (match exec (.setAttr i n) s with
      | .next t => decide (t.sec = { s.sec with kst := some ⟨1, n % 4096⟩ }) && decide (t.get F.KST_STAT_BUSY = 1) &&
        decide (t.pageSt P.KST = 1) && decide (t.mem = s.mem)
      | _ => false)) &&
  (
   let s : State := live
   let i : Initiator := .scc
   let n : Nat := 9
   let r : RegRow := rowAt (P.KST) 0x100
   decide (s.takes i P.KST 0x100 (BitVec.ofNat 32 (2 + 0x10000 * (n % 4096))) r = true) && decide (s.canonical = true) &&
    decide (s.enabled P.KST = true) && decide (s.sec.kst = none) &&
     (match exec (.eraseKey i n) s with
      | .next t => decide (t.sec = { s.sec with kst := some ⟨2, n % 4096⟩ }) && decide (t.get F.KST_STAT_BUSY = 1) &&
        decide (t.pageSt P.KST = 1) && decide (t.mem = s.mem)
      | _ => false))) = true := by decide +kernel

/-- States and operands that meet the clauses of `Obligations.KeyStoreCommandsComplete` on importKey, exportKey, readAttr, otpWrite, eraseAll, and
what comes of them. -/
theorem witness_KeyStoreCommandsComplete_2 : (
  (
   let s : State := live
   let i : Initiator := .scc
   let n : Nat := 9
   let r : RegRow := rowAt (P.KST) 0x100
   decide (s.takes i P.KST 0x100 (BitVec.ofNat 32 (4 + 0x10000 * (n % 4096))) r = true) && decide (s.canonical = true) &&
    decide (s.enabled P.KST = true) && decide (s.sec.kst = none) &&
     (match exec (.importKey i n) s with
      | .next t => decide (t.sec = { s.sec with kst := some ⟨4, n % 4096⟩ }) && decide (t.get F.KST_STAT_BUSY = 1) &&
        decide (t.pageSt P.KST = 1) && decide (t.mem = s.mem)
      | _ => false)) &&
  (
   let s : State := live
   let i : Initiator := .scc
   let n : Nat := 9
   let r : RegRow := rowAt (P.KST) 0x100
   decide (s.takes i P.KST 0x100 (BitVec.ofNat 32 (5 + 0x10000 * (n % 4096))) r = true) && decide (s.canonical = true) &&
    decide (s.enabled P.KST = true) && decide (s.sec.kst = none) &&
     (match exec (.exportKey i n) s with
      | .next t => decide (t.sec = { s.sec with kst := some ⟨5, n % 4096⟩ }) && decide (t.get F.KST_STAT_BUSY = 1) &&
        decide (t.pageSt P.KST = 1) && decide (t.mem = s.mem)
      | _ => false)) &&
  (
   let s : State := live
   let i : Initiator := .scc
   let n : Nat := 9
   let r : RegRow := rowAt (P.KST) 0x100
   decide (s.takes i P.KST 0x100 (BitVec.ofNat 32 (6 + 0x10000 * (n % 4096))) r = true) && decide (s.canonical = true) &&
    decide (s.enabled P.KST = true) && decide (s.sec.kst = none) &&
     (match exec (.readAttr i n) s with
      | .next t => decide (t.sec = { s.sec with kst := some ⟨6, n % 4096⟩ }) && decide (t.get F.KST_STAT_BUSY = 1) &&
        decide (t.pageSt P.KST = 1) && decide (t.mem = s.mem)
      | _ => false)) &&
  (
   let s : State := live
   let i : Initiator := .scc
   let n : Nat := 9
   let r : RegRow := rowAt (P.KST) 0x100
   decide (s.takes i P.KST 0x100 (BitVec.ofNat 32 (7 + 0x10000 * (n % 4096))) r = true) && decide (s.canonical = true) &&
    decide (s.enabled P.KST = true) && decide (s.sec.kst = none) &&
     (match exec (.otpWrite i n) s with
      | .next t => decide (t.sec = { s.sec with kst := some ⟨7, n % 4096⟩ }) && decide (t.get F.KST_STAT_BUSY = 1) &&
        decide (t.pageSt P.KST = 1) && decide (t.mem = s.mem)
      | _ => false)) &&
  (
   let s : State := live
   let i : Initiator := .scc
   let r : RegRow := rowAt (P.KST) 0x100
   decide (s.takes i P.KST 0x100 (BitVec.ofNat 32 (3 + 0x10000 * (0 % 4096))) r = true) && decide (s.canonical = true) &&
    decide (s.enabled P.KST = true) && decide (s.sec.kst = none) &&
     (match exec (.eraseAll i) s with
      | .next t => decide (t.sec = { s.sec with kst := some ⟨3, 0 % 4096⟩ }) && decide (t.get F.KST_STAT_BUSY = 1) &&
        decide (t.pageSt P.KST = 1) && decide (t.mem = s.mem)
      | _ => false))) = true := by decide +kernel

/-- States and operands that meet the clauses of `Obligations.KeyStoreCommandsComplete` on kstCommandDone, and what comes of them. -/
theorem witness_KeyStoreCommandsComplete_3 : (
  (
   let s : State := (live.put F.KST_ATTR_ATTR 0x15).setSec (fun x => { x with kst := some ⟨1, 6⟩ })
   let j : KstJob := ⟨1, 6⟩
   decide (s.canonical = true) && decide (s.sec.kst = some j) && decide (j.op = 1) && decide (j.slot % 2 = 0) &&
    decide ((s.get F.KST_ATTR_ATTR).testBit 1 = false) && decide (s.inPair j.slot = false) &&
     (match exec .kstCommandDone s with
      | .next t => decide (t.sec.kst = none) && decide (t.get F.KST_STAT_BUSY = 0) && decide (t.get F.KST_STAT_RESULT = 0) &&
        decide (t.attr j.slot = s.get F.KST_ATTR_ATTR)
      | _ => false)) &&
  (
   let s : State := (live.put F.KST_ATTR_ATTR 0x17).setSec (fun x => { x with kst := some ⟨1, 7⟩ })
   let j : KstJob := ⟨1, 7⟩
   decide (s.canonical = true) && decide (s.sec.kst = some j) && decide (j.op = 1) && decide (j.slot % 2 = 1) &&
    decide ((s.get F.KST_ATTR_ATTR).testBit 1 = true ∨ s.inPair j.slot = true) &&
     (match exec .kstCommandDone s with
      | .next t => decide (t.sec.kst = none) && decide (t.get F.KST_STAT_BUSY = 0) && decide (t.get F.KST_STAT_RESULT = 1) &&
        decide (t.sec.attrs = s.sec.attrs)
      | _ => false)) &&
  (
   let s : State := ((live.setAttrByte 6 1).setMemNat (keyAddr 6 + 4) 4 77).setSec (fun x => { x with kst := some ⟨2, 6⟩ })
   let j : KstJob := ⟨2, 6⟩
   decide (s.canonical = true) && decide (s.sec.kst = some j) && decide (j.op = 2) && decide (j.slot < 4096) && decide (s.inPair j.slot = false) &&
     (match exec .kstCommandDone s with
      | .next t => decide (t.sec.kst = none) && decide (t.get F.KST_STAT_BUSY = 0) && decide (t.get F.KST_STAT_RESULT = 0) &&
        decide (t.attr j.slot = 0) && decide ((∀ k ∈ List.range 16, t.byte (keyAddr j.slot + k) = 0))
      | _ => false)) &&
  (
   let s : State := ((live.setAttrByte 6 1).setMemNat (keyAddr 6 + 4) 4 77).setSec (fun x => { x with kst := some ⟨3, 0⟩ })
   let j : KstJob := ⟨3, 0⟩
   decide (s.canonical = true) && decide (s.sec.kst = some j) && decide (j.op = 3) &&
     (match exec .kstCommandDone s with
      | .next t => decide (t.sec.kst = none) && decide (t.get F.KST_STAT_BUSY = 0) && decide (t.get F.KST_STAT_RESULT = 0) &&
        decide (t.sec.attrs = [])
      | _ => false))) = true := by decide +kernel

/-- States and operands that meet the clauses of `Obligations.KeyStoreCommandsComplete` on kstCommandDone, and what comes of them (of kstCommandDone
the hypotheses only: a free value or a long computation stands in the result). -/
theorem witness_KeyStoreCommandsComplete_4 : (
  (
   let s : State := (live).setSec (fun x => { x with kst := some ⟨4, 6⟩ })
   let j : KstJob := ⟨4, 6⟩
   decide (s.canonical = true) && decide (s.sec.kst = some j) && decide (j.op = 4)) &&
  (
   let s : State := (live.setAttrByte 6 1).setSec (fun x => { x with kst := some ⟨5, 6⟩ })
   let j : KstJob := ⟨5, 6⟩
   decide (s.canonical = true) && decide (s.sec.kst = some j) && decide (j.op = 5) && decide (s.inPair j.slot = false) &&
    decide ((s.attr j.slot).testBit 4 = false) &&
     (match exec .kstCommandDone s with
      | .next t => decide (t.sec.kst = none) && decide (t.get F.KST_STAT_BUSY = 0) && decide (t.get F.KST_STAT_RESULT = 3) &&
        decide (t.sec.attrs = s.sec.attrs) && decide (t.mem = s.mem)
      | _ => false)) &&
  (
   let s : State := (live.setAttrByte 6 0x11).setSec (fun x => { x with kst := some ⟨5, 6⟩ })
   let j : KstJob := ⟨5, 6⟩
   decide (s.canonical = true) && decide (s.sec.kst = some j) && decide (j.op = 5) && decide (s.inPair j.slot = false) &&
    decide ((s.attr j.slot).testBit 4 = true) && decide ((s.attr j.slot).testBit 0 = true)) &&
  (
   let s : State := (live.setAttrByte 6 0x35).setSec (fun x => { x with kst := some ⟨6, 6⟩ })
   let j : KstJob := ⟨6, 6⟩
   decide (s.canonical = true) && decide (s.sec.kst = some j) && decide (j.op = 6) && decide (s.inPair j.slot = false) &&
     (match exec .kstCommandDone s with
      | .next t => decide (t.sec.kst = none) && decide (t.get F.KST_STAT_BUSY = 0) && decide (t.get F.KST_STAT_RESULT = 0) &&
        decide (t.get F.KST_ATTR_ATTR = s.attr j.slot % 64) && decide (t.sec.attrs = s.sec.attrs)
      | _ => false)) &&
  (
   let s : State := (live.setReg (Reg.KST_DATA 0) 0x55).setSec (fun x => { x with kst := some ⟨7, 5⟩ })
   let j : KstJob := ⟨7, 5⟩
   let c : Nat := 5
   let v : Nat := 0x55
   decide (s.canonical = true) && decide (s.sec.kst = some j) && decide (j.op = 7) && decide (c = j.slot % 16) &&
    decide (v = leNat (toBytes s.blobBytes) % 2 ^ otpBits c) && decide (c < 14) && decide (s.sec.otp.length = 14))) = true := by decide +kernel

/-- States and operands that meet the clauses of `Obligations.KeyStoreCommandsComplete` on dbgChal, dbgResp, and what comes of them. -/
theorem witness_KeyStoreCommandsComplete_5 : (
  (
   let s : State := live
   let nonce : List Byte := natLe 16 0x1234
   decide (s.canonical = true) && decide (s.chalRefused = false) && decide (nonce.length = 16) &&
     (match exec (.dbgChal nonce) s with
      | .next t => decide (t.sec.nonce = some nonce) && decide (t.sec.granted = s.sec.granted)
      | _ => false)) &&
  (
   let s : State := live.put F.SEC_AUTH_STAT_DBG_FAILS 3
   let nonce : List Byte := natLe 16 0x1234
   decide (s.canonical = true) && decide (s.chalRefused = true) &&
     (match exec (.dbgChal nonce) s with
      | .next t => decide (t.sec.nonce = none) && decide (t.sec.granted = s.sec.granted)
      | _ => false)) &&
  (
   let s : State := live.setSec (fun x => { x with nonce := some ((List.range 16).map (BitVec.ofNat 8)), otp := (x.otp.set 3 0x994c613698d2466a35cd80275a34c5a5cfa7de2b97fde2829262c79fbbbe30d8).set 4 1 })
   let n : List Byte := (List.range 16).map (BitVec.ofNat 8)
   let scope : Byte := 2
   let pub : List Byte := natLe 64 0xb3a4547bdc997a4be2844d4d5ae3b9ebefd32eb8e11b648980298713c8f67b7eb0793357438062c5ac90b562af1a3b5cb2f4c3b5d210dad78db5bfd0009eb5db
   let sig : List Byte := natLe 64 0xd5a283f5173e42004f5a03c0c37d37ca59c664f4d0abcbe646759233be7dc391d5a283f5173e42004f5a03c0c37d37ca59c664f4d0abcbe646759233be7dc391
   decide (s.canonical = true) && decide (s.sec.nonce = some n) && decide (s.chalRefused = false) && decide (1 ≤ scope.toNat) &&
    decide (scope.toNat ≤ 3) && decide (Crypto.sha256 (toNats pub) = toNats (natLe 32 (s.otp 3))) &&
    decide (Crypto.ecdsaVerify (Crypto.sha256 (toNats (n ++ natLe 8 (s.otp 13) ++ [scope]))) (toNats pub) (toNats sig) = true) &&
     (match exec (.dbgResp scope pub sig) s with
      | .next t => decide (t.sec.nonce = none) && decide (t.sec.granted = scope.toNat) && decide ((s.otp 4 = 1 → t.dbgScope = scope.toNat))
      | _ => false)) &&
  (
   let s : State := live.setSec (fun x => { x with nonce := some [1] })
   let n : List Byte := [1]
   let scope : Byte := 2
   let pub : List Byte := [7]
   let sig : List Byte := []
   decide (s.canonical = true) && decide (s.sec.nonce = some n) && decide (Crypto.sha256 (toNats pub) ≠ toNats (natLe 32 (s.otp 3))) &&
     (match exec (.dbgResp scope pub sig) s with
      | .next t => decide (t.sec.nonce = none) && decide (t.sec.granted = s.sec.granted) &&
        decide (t.get F.SEC_AUTH_STAT_DBG_FAILS = min 3 (s.get F.SEC_AUTH_STAT_DBG_FAILS + 1))
      | _ => false)) &&
  (
   let s : State := live
   let scope : Byte := 2
   let pub : List Byte := natLe 64 0xb3a4547bdc997a4be2844d4d5ae3b9ebefd32eb8e11b648980298713c8f67b7eb0793357438062c5ac90b562af1a3b5cb2f4c3b5d210dad78db5bfd0009eb5db
   let sig : List Byte := natLe 64 0xd5a283f5173e42004f5a03c0c37d37ca59c664f4d0abcbe646759233be7dc391d5a283f5173e42004f5a03c0c37d37ca59c664f4d0abcbe646759233be7dc391
   decide (s.canonical = true) && decide (s.sec.nonce = none) &&
     (match exec (.dbgResp scope pub sig) s with
      | .next t => decide (t.sec.granted = s.sec.granted) && decide (t.dbgScope = s.dbgScope)
      | _ => false))) = true := by decide +kernel

/-- States and operands that meet the clauses of `Obligations.CoreCommandsComplete` on claim, complete, cacheInv, and what comes of them. -/
theorem witness_CoreCommandsComplete_1 : (
  (
   let s : State := { (live.put (F.ICU_SRC_PRIO 0x2A) 3) with icu := { live.icu with mbox := [[], [5, 6], [], [], [], []] } }
   let i : Initiator := .apc
   let k : Core := .apc
   let n : Nat := 0x2A
   decide (s.offers i P.ICU 0x100 = true) && decide (s.canonical = true) && decide (s.enabled P.ICU = true) && decide (coreOf i = some k) &&
    decide (s.irqBest k = some n) &&
     (match exec (.claim i) s with
      | .next t => decide (t.out.get i = (⟨BitVec.ofNat 32 (0x80 + n), .ok⟩ : BusAnswer)) &&
        decide (t.icu = { s.icu with claims := s.icu.claims ++ [(n, k)] }) && decide (t.regs = s.regs)
      | _ => false)) &&
  (
   let s : State := live
   let i : Initiator := .apc
   let k : Core := .apc
   decide (s.offers i P.ICU 0x100 = true) && decide (s.canonical = true) && decide (s.enabled P.ICU = true) && decide (coreOf i = some k) &&
    decide (s.irqBest k = none) &&
     (match exec (.claim i) s with
      | .next t => decide (t.out.get i = (⟨0, .ok⟩ : BusAnswer)) && decide (t.icu = s.icu)
      | _ => false)) &&
  (
   let s : State := { live with icu := { live.icu with claims := [(0x2A, .apc)] } }
   let i : Initiator := .apc
   let w : Word := 0xAA
   let k : Core := .apc
   let r : RegRow := rowAt (P.ICU) 0x104
   decide (s.takes i P.ICU 0x104 w r = true) && decide (s.canonical = true) && decide (s.enabled P.ICU = true) && decide (coreOf i = some k) &&
     (match exec (.complete i w) s with
      | .next t => decide (t.icu = { s.icu with claims := s.icu.claims.filter (· != (w.toNat % 128, k)) })
      | _ => false)) &&
  (
   let s : State := { live with cores := { live.cores with cache := [⟨.apc, 0x40, []⟩, ⟨.ntc, 0x40, []⟩] } }
   let i : Initiator := .apc
   let w : Word := 0
   let k : Core := .apc
   let r : RegRow := rowAt (P.ICU) 0x10C
   decide (s.takes i P.ICU 0x10C (withBits w 0 1 1) r = true) && decide (s.canonical = true) && decide (s.enabled P.ICU = true) &&
    decide (coreOf i = some k) &&
     (match exec (.cacheInv i w) s with
      | .next t => decide (t.cores = { s.cores with cache := s.cores.cache.filter (fun (c : CacheLine) => c.core != k) })
      | _ => false))) = true := by decide +kernel

/-- States and operands that meet the clauses of `Obligations.CoreCommandsComplete` on mboxTx, mboxRx, debugHalt, debugResume, and what comes of them.
-/
theorem witness_CoreCommandsComplete_2 : (
  (
   let s : State := live
   let i : Initiator := .apc
   let c : Nat := 2
   let w : Word := 77
   let r : RegRow := rowAt P.ICU (0x140 + 4 * c)
   decide (s.takes i P.ICU (0x140 + 4 * c) w r = true) && decide (s.canonical = true) && decide (c < 6) && decide (s.enabled P.ICU = true) &&
    decide (s.icu.mbox.length = 6) && decide (coreOf i = some (mboxFrom c)) && decide ((s.mboxOf c).length < 4) &&
     (match exec (.mboxTx i c w) s with
      | .next t => decide (t.mboxOf c = s.mboxOf c ++ [w])
      | _ => false)) &&
  (
   let s : State := { live with icu := { live.icu with mbox := [[], [], [1, 2, 3, 4], [], [], []] } }
   let i : Initiator := .apc
   let c : Nat := 2
   let w : Word := 77
   let r : RegRow := rowAt P.ICU (0x140 + 4 * c)
   decide (s.takes i P.ICU (0x140 + 4 * c) w r = true) && decide (s.canonical = true) && decide (c < 6) && decide (s.enabled P.ICU = true) &&
    decide (s.icu.mbox.length = 6) && decide (coreOf i = some (mboxFrom c)) && decide (4 ≤ (s.mboxOf c).length) &&
     (match exec (.mboxTx i c w) s with
      | .next t => decide (t.icu = s.icu) && decide ((t.reg (Reg.IRQ_RAW (P.ICU))).toNat.testBit (0) = true)
      | _ => false)) &&
  (
   let s : State := { (live.put (F.ICU_SRC_PRIO 0x2A) 3) with icu := { live.icu with mbox := [[], [5, 6], [], [], [], []] } }
   let i : Initiator := .apc
   let c : Nat := 1
   let w : Word := 5
   let q : List Word := [6]
   decide (s.offers i P.ICU (0x160 + 4 * c) = true) && decide (s.canonical = true) && decide (c < 6) && decide (s.enabled P.ICU = true) &&
    decide (s.icu.mbox.length = 6) && decide (coreOf i = some (mboxTo c)) && decide (s.mboxOf c = w :: q) &&
     (match exec (.mboxRx i c) s with
      | .next t => decide (t.out.get i = (⟨w, .ok⟩ : BusAnswer)) && decide (t.mboxOf c = q)
      | _ => false)) &&
  (
   let s : State := (live.put F.SEC_AUTH_STAT_DBG_SCOPE 3).put F.DBG_CFG_HALT_GROUP 1
   let h : Nat := 1
   decide (s.canonical = true) && decide (s.hartReach h = true) &&
     (match exec (.debugHalt h) s with
      | .next t => decide (t.get (hartField h) = 1) && decide ((s.on F.DBG_CFG_HALT_GROUP = true → t.get F.DBG_STAT_APC_HALTED = 1 ∧
        t.get F.DBG_STAT_NTC_HALTED = 1)) && decide (t.count = s.count)
      | _ => false)) &&
  (
   let s : State := (((live.put F.SEC_AUTH_STAT_DBG_SCOPE 3).put F.DBG_STAT_APC_HALTED 1).put F.DBG_STAT_NTC_HALTED 1).put F.DBG_CFG_HALT_GROUP 1
   let h : Nat := 1
   decide (s.canonical = true) && decide (s.hartReach h = true) &&
     (match exec (.debugResume h) s with
      | .next t => decide (t.get (hartField h) = 0) && decide ((s.on F.DBG_CFG_HALT_GROUP = true → t.get F.DBG_STAT_APC_HALTED = 0 ∧
        t.get F.DBG_STAT_NTC_HALTED = 0)) && decide (t.count = s.count)
      | _ => false))) = true := by decide +kernel

/-- States and operands that meet the clauses of `Obligations.FlashCommandsComplete` on submit, program, and what comes of them. -/
theorem witness_FlashCommandsComplete_1 : (
  (
   let s : State := (live.setRegI .apc Reg.FLC_D_CMD 0x10001).setRegI .apc Reg.FLC_D_ADDR 0x10000
   let i : Initiator := .apc
   let n : Nat := 0
   decide (s.offers i P.FLC 0x14C = true) && decide (s.canonical = true) && decide (s.enabled P.FLC = true) &&
    decide (((List.range 32).map (fun k => (s.flash.next + k) % 32)).find? (fun n => s.slotState n == 0) = some n) &&
     (match exec (.submit i) s with
      | .next t => decide (t.out.get i = (⟨BitVec.ofNat 32 (0x80000000 + n), .ok⟩ : BusAnswer)) && decide (t.slotState n = 1) &&
        decide (t.flash.queue = s.flash.queue ++ [n]) && decide (t.flash.next = (n + 1) % 32) &&
        decide (t.reg (Reg.FLC_SLOT_CMD n) = s.regI i Reg.FLC_D_CMD) && decide (t.reg (Reg.FLC_SLOT_ADDR n) = s.regI i Reg.FLC_D_ADDR) &&
        decide (t.reg (Reg.FLC_SLOT_SRC n) = s.regI i Reg.FLC_D_SRC)
      | _ => false)) &&
  (
   let s : State := (List.range 32).foldl (fun t n => t.slotPut n 5 2 1) live
   let i : Initiator := .apc
   decide (s.offers i P.FLC 0x14C = true) && decide (s.canonical = true) && decide (s.enabled P.FLC = true) &&
    decide ((∀ n ∈ List.range 32, s.slotState n ≠ 0)) &&
     (match exec (.submit i) s with
      | .next t => decide (t.out.get i = (⟨0, .ok⟩ : BusAnswer)) && decide (t.flash = s.flash) && decide (t.regs = s.regs)
      | _ => false)) &&
  (
   let s : State := { ((((live.setMemNat 0x20000100 4 0x12345678).setReg (Reg.FLC_SLOT_CMD 3) 0x20001).setReg (Reg.FLC_SLOT_ADDR 3) 0x80000).setReg (Reg.FLC_SLOT_SRC 3) 0x20000100).slotPut 3 5 2 1 with flash := { live.flash with queue := [3] } }
   let n : Nat := 3
   let q : List Nat := []
   let x : Nat := 0x80000
   decide (s.canonical = true) && decide (s.flash.op = none) && decide (s.flash.queue = n :: q) && decide (n < 32) &&
    decide (s.enabled P.FLC = true) && decide (bitsOf (s.reg (Reg.FLC_SLOT_CMD n)).toNat 0 4 = 1) &&
    decide (x = (s.reg (Reg.FLC_SLOT_ADDR n)).toNat) &&
    decide (s.descCheck (⟨n, 1, x, (if bitsOf (s.reg (Reg.FLC_SLOT_CMD n)).toNat 16 12 = 0 then 4096 else bitsOf (s.reg (Reg.FLC_SLOT_CMD n)).toNat
    16 12), (s.reg (Reg.FLC_SLOT_SRC n)).toNat, s.flash.who.getD n .apc, none, 0, false, false, 0, 0xFFFFFFFF⟩ : FlashOp) (s.reg (Reg.FLC_SLOT_CMD
    n)).toNat = none) && decide (s.on F.FLC_STAT_SW_SUSP = false) && decide (s.on F.FLC_STAT_AUTO_SUSP = false) &&
    decide (s.rangeBad (s.reg (Reg.FLC_SLOT_SRC n)).toNat 16 = false) && decide (s.sectorUndef (sectorOf x) = false) &&
    decide ((s.bytesAt x 16).all (· == 0xFF) = true) &&
     (match exec (.program 1) s with
      | .next t => decide ((∀ k ∈ List.range 16, t.byte (x + k) = s.byte ((s.reg (Reg.FLC_SLOT_SRC n)).toNat + k))) &&
        decide (t.flash.queue = q) && decide (((t.flash.op).map (fun (o : FlashOp) => (o.slot, o.done))) = some (n, 1)) && decide (t.slotState n = 2)
      | _ => false)) &&
  (
   let s : State := { ((((live).setReg (Reg.FLC_SLOT_CMD 3) 0x20001).setReg (Reg.FLC_SLOT_ADDR 3) 0x80004).setReg (Reg.FLC_SLOT_SRC 3) 0x20000100).slotPut 3 5 2 1 with flash := { live.flash with queue := [3] } }
   let n : Nat := 3
   let q : List Nat := []
   let x : Nat := 0x80004
   let e : Nat := 2
   let u : Nat := 1
   decide (s.canonical = true) && decide (s.flash.op = none) && decide (s.flash.queue = n :: q) && decide (n < 32) &&
    decide (s.enabled P.FLC = true) && decide (bitsOf (s.reg (Reg.FLC_SLOT_CMD n)).toNat 0 4 = 1) &&
    decide (x = (s.reg (Reg.FLC_SLOT_ADDR n)).toNat) &&
    decide (s.descCheck (⟨n, 1, x, (if bitsOf (s.reg (Reg.FLC_SLOT_CMD n)).toNat 16 12 = 0 then 4096 else bitsOf (s.reg (Reg.FLC_SLOT_CMD n)).toNat
    16 12), (s.reg (Reg.FLC_SLOT_SRC n)).toNat, s.flash.who.getD n .apc, none, 0, false, false, 0, 0xFFFFFFFF⟩ : FlashOp) (s.reg (Reg.FLC_SLOT_CMD
    n)).toNat = some e) &&
     (match exec (.program u) s with
      | .next t => decide (((t.flash.op).map (fun (o : FlashOp) => (o.slot, o.result, o.done))) = some (n, some e, 0)) &&
        decide (t.mem = s.mem) && decide (t.flash.undef = s.flash.undef) && decide (t.slotState n = 2)
      | _ => false))) = true := by decide +kernel

/-- States and operands that meet the clauses of `Obligations.FlashCommandsComplete` on erase, readback, and what comes of them. -/
theorem witness_FlashCommandsComplete_2 : (
  (
   let s : State := { ((((live).setReg (Reg.FLC_SLOT_CMD 3) 0x20002).setReg (Reg.FLC_SLOT_ADDR 3) 0x80004).setReg (Reg.FLC_SLOT_SRC 3) 0x20000100).slotPut 3 5 2 1 with flash := { live.flash with queue := [3] } }
   let n : Nat := 3
   let q : List Nat := []
   let x : Nat := 0x80004
   let e : Nat := 2
   let u : Bool := true
   decide (s.canonical = true) && decide (s.flash.op = none) && decide (s.flash.queue = n :: q) && decide (n < 32) &&
    decide (s.enabled P.FLC = true) && decide (bitsOf (s.reg (Reg.FLC_SLOT_CMD n)).toNat 0 4 = 2) &&
    decide (x = (s.reg (Reg.FLC_SLOT_ADDR n)).toNat) &&
    decide (s.descCheck (⟨n, 2, x, (if bitsOf (s.reg (Reg.FLC_SLOT_CMD n)).toNat 16 12 = 0 then 4096 else bitsOf (s.reg (Reg.FLC_SLOT_CMD n)).toNat
    16 12), (s.reg (Reg.FLC_SLOT_SRC n)).toNat, s.flash.who.getD n .apc, none, 0, false, false, 0, 0xFFFFFFFF⟩ : FlashOp) (s.reg (Reg.FLC_SLOT_CMD
    n)).toNat = some e) &&
     (match exec (.erase u) s with
      | .next t => decide (((t.flash.op).map (fun (o : FlashOp) => (o.slot, o.result, o.done))) = some (n, some e, 0)) &&
        decide (t.mem = s.mem) && decide (t.flash.undef = s.flash.undef) && decide (t.slotState n = 2)
      | _ => false)) &&
  (
   let s : State := { ((((live).setReg (Reg.FLC_SLOT_CMD 3) 0x20003).setReg (Reg.FLC_SLOT_ADDR 3) 0x80004).setReg (Reg.FLC_SLOT_SRC 3) 0x20000100).slotPut 3 5 2 1 with flash := { live.flash with queue := [3] } }
   let n : Nat := 3
   let q : List Nat := []
   let x : Nat := 0x80004
   let e : Nat := 2
   let u : Nat := 1
   decide (s.canonical = true) && decide (s.flash.op = none) && decide (s.flash.queue = n :: q) && decide (n < 32) &&
    decide (s.enabled P.FLC = true) && decide (bitsOf (s.reg (Reg.FLC_SLOT_CMD n)).toNat 0 4 = 3) &&
    decide (x = (s.reg (Reg.FLC_SLOT_ADDR n)).toNat) &&
    decide (s.descCheck (⟨n, 3, x, (if bitsOf (s.reg (Reg.FLC_SLOT_CMD n)).toNat 16 12 = 0 then 4096 else bitsOf (s.reg (Reg.FLC_SLOT_CMD n)).toNat
    16 12), (s.reg (Reg.FLC_SLOT_SRC n)).toNat, s.flash.who.getD n .apc, none, 0, false, s.on F.FLC_MARGIN_EN, 0, 0xFFFFFFFF⟩ : FlashOp) (s.reg
    (Reg.FLC_SLOT_CMD n)).toNat = some e) &&
     (match exec (.readback u []) s with
      | .next t => decide (((t.flash.op).map (fun (o : FlashOp) => (o.slot, o.result, o.done))) = some (n, some e, 0)) &&
        decide (t.mem = s.mem) && decide (t.flash.undef = s.flash.undef) && decide (t.slotState n = 2)
      | _ => false)) &&
  (
   let s : State := { ((((live.setMemNat 0x80010 4 5).setReg (Reg.FLC_SLOT_CMD 3) 2).setReg (Reg.FLC_SLOT_ADDR 3) 0x80000).setReg (Reg.FLC_SLOT_SRC 3) 0x20000100).slotPut 3 5 2 1 with flash := { live.flash with queue := [3] } }
   let n : Nat := 3
   let q : List Nat := []
   let x : Nat := 0x80000
   decide (s.canonical = true) && decide (s.flash.op = none) && decide (s.flash.queue = n :: q) && decide (n < 32) &&
    decide (s.enabled P.FLC = true) && decide (bitsOf (s.reg (Reg.FLC_SLOT_CMD n)).toNat 0 4 = 2) &&
    decide (x = (s.reg (Reg.FLC_SLOT_ADDR n)).toNat) &&
    decide (s.descCheck (⟨n, 2, x, (if bitsOf (s.reg (Reg.FLC_SLOT_CMD n)).toNat 16 12 = 0 then 4096 else bitsOf (s.reg (Reg.FLC_SLOT_CMD n)).toNat
    16 12), (s.reg (Reg.FLC_SLOT_SRC n)).toNat, s.flash.who.getD n .apc, none, 0, false, false, 0, 0xFFFFFFFF⟩ : FlashOp) (s.reg (Reg.FLC_SLOT_CMD
    n)).toNat = none) && decide (s.on F.FLC_STAT_SW_SUSP = false) && decide (s.on F.FLC_STAT_AUTO_SUSP = false) &&
     (match exec (.erase true) s with
      | .next t => decide (t.sectorUndef (sectorOf x) = false) &&
        decide (((t.flash.op).map (fun (o : FlashOp) => (o.slot, o.result))) = some (n, some 0)) && decide (t.flash.queue = q)
      | _ => false)) &&
  (
   let s : State := { ((((live.setMemNat 0x80010 4 5).setReg (Reg.FLC_SLOT_CMD 3) 2).setReg (Reg.FLC_SLOT_ADDR 3) 0x80000).setReg (Reg.FLC_SLOT_SRC 3) 0x20000100).slotPut 3 5 2 1 with flash := { live.flash with queue := [3] } }
   let n : Nat := 3
   let q : List Nat := []
   let x : Nat := 0x80000
   decide (s.canonical = true) && decide (s.flash.op = none) && decide (s.flash.queue = n :: q) && decide (n < 32) &&
    decide (s.enabled P.FLC = true) && decide (bitsOf (s.reg (Reg.FLC_SLOT_CMD n)).toNat 0 4 = 2) &&
    decide (x = (s.reg (Reg.FLC_SLOT_ADDR n)).toNat) &&
    decide (s.descCheck (⟨n, 2, x, (if bitsOf (s.reg (Reg.FLC_SLOT_CMD n)).toNat 16 12 = 0 then 4096 else bitsOf (s.reg (Reg.FLC_SLOT_CMD n)).toNat
    16 12), (s.reg (Reg.FLC_SLOT_SRC n)).toNat, s.flash.who.getD n .apc, none, 0, false, false, 0, 0xFFFFFFFF⟩ : FlashOp) (s.reg (Reg.FLC_SLOT_CMD
    n)).toNat = none) &&
     (match exec (.erase false) s with
      | .next t => decide (t.mem = s.mem) && decide (t.sectorUndef (sectorOf x) = true) &&
        decide (((t.flash.op).map (fun (o : FlashOp) => (o.slot, o.result, o.begun))) = some (n, none, true)) && decide (t.flash.queue = q)
      | _ => false))) = true := by decide +kernel

/-- States and operands that meet the clauses of `Obligations.FlashCommandsComplete` on readback, descDone, flcDone, and what comes of them. -/
theorem witness_FlashCommandsComplete_3 : (
  (
   let s : State := { ((((live).setReg (Reg.FLC_SLOT_CMD 3) 0x20003).setReg (Reg.FLC_SLOT_ADDR 3) 0x80000).setReg (Reg.FLC_SLOT_SRC 3) 0x20000100).slotPut 3 5 2 1 with flash := { live.flash with queue := [3] } }
   let n : Nat := 3
   let q : List Nat := []
   let x : Nat := 0x80000
   decide (s.canonical = true) && decide (s.flash.op = none) && decide (s.flash.queue = n :: q) && decide (n < 32) &&
    decide (s.enabled P.FLC = true) && decide (bitsOf (s.reg (Reg.FLC_SLOT_CMD n)).toNat 0 4 = 3) &&
    decide (x = (s.reg (Reg.FLC_SLOT_ADDR n)).toNat) &&
    decide (s.descCheck (⟨n, 3, x, (if bitsOf (s.reg (Reg.FLC_SLOT_CMD n)).toNat 16 12 = 0 then 4096 else bitsOf (s.reg (Reg.FLC_SLOT_CMD n)).toNat
    16 12), (s.reg (Reg.FLC_SLOT_SRC n)).toNat, s.flash.who.getD n .apc, none, 0, false, s.on F.FLC_MARGIN_EN, 0, 0xFFFFFFFF⟩ : FlashOp) (s.reg
    (Reg.FLC_SLOT_CMD n)).toNat = none) && decide (s.on F.FLC_STAT_SW_SUSP = false) && decide (s.on F.FLC_STAT_AUTO_SUSP = false) &&
    decide (s.rangeBad x 16 = false) && decide (s.sectorUndef (sectorOf x) = false) &&
     (match exec (.readback 1 []) s with
      | .next t => decide (((t.flash.op).map (fun (o : FlashOp) => (o.slot, o.done, o.crc, o.weak))) = some (n, 1, crcRefl 0xEDB88320 0xFFFFFFFF
        (s.bytesAt x 16), 0)) && decide (t.mem = s.mem) && decide (t.flash.queue = q)
      | _ => false)) &&
  (
   let s : State := { live.slotPut 3 5 2 2 with flash := { live.flash with op := some (⟨3, 2, 0x80000, 4096, 0, .apc, some 0, 0, true, false, 0, 0⟩ : FlashOp) } }
   let o : FlashOp := (⟨3, 2, 0x80000, 4096, 0, .apc, some 0, 0, true, false, 0, 0⟩ : FlashOp)
   let e : Nat := 0
   let d : Nat := 900
   decide (s.canonical = true) && decide (s.flash.op = some o) && decide (o.result = some e) && decide (o.slot < 32) && decide (e < 16) &&
    decide (s.stalled = []) &&
     (match exec (.descDone d) s with
      | .next t => decide (t.flash.op = none) && decide (t.slotState o.slot = 3) &&
        decide (bitsOf (t.reg (Reg.FLC_SLOT_STATUS o.slot)).toNat 7 4 = e) && decide (t.flash.doneQ = s.flash.doneQ ++ [o.slot]) &&
        decide (t.on F.FLC_STAT_BUSY = false) && decide (t.mem = s.mem)
      | _ => false)) &&
  (
   let s : State := { live.slotPut 3 5 2 3 with flash := { live.flash with doneQ := [3] } }
   let i : Initiator := .apc
   let n : Nat := 3
   let q : List Nat := []
   decide (s.offers i P.FLC 0x150 = true) && decide (s.canonical = true) && decide (s.enabled P.FLC = true) && decide (s.flash.doneQ = n :: q) &&
    decide (n < 32) &&
     (match exec (.flcDone i) s with
      | .next t => decide (t.out.get i = (⟨s.reg (Reg.FLC_SLOT_STATUS n), .ok⟩ : BusAnswer)) &&
        decide (t.regI i Reg.FLC_DONE_ADDR = s.reg (Reg.FLC_SLOT_ADDR n)) && decide (t.regI i Reg.FLC_DONE_DATA = s.reg (Reg.FLC_SLOT_SRC n)) &&
        decide (t.slotState n = 0) && decide (t.flash = { s.flash with doneQ := q })
      | _ => false)) &&
  (
   let s : State := live
   let i : Initiator := .apc
   decide (s.offers i P.FLC 0x150 = true) && decide (s.canonical = true) && decide (s.enabled P.FLC = true) && decide (s.flash.doneQ = []) &&
     (match exec (.flcDone i) s with
      | .next t => decide (t.out.get i = (⟨0, .ok⟩ : BusAnswer)) && decide (t.flash = s.flash) && decide (t.regs = s.regs)
      | _ => false))) = true := by decide +kernel

/-- States and operands that meet the clauses of `Obligations.FlashCommandsComplete` on suspend, resume, flcAbort, and what comes of them. -/
theorem witness_FlashCommandsComplete_4 : (
  (
   let s : State := { live with flash := { live.flash with op := some (⟨3, 2, 0x80000, 4096, 0, .apc, none, 0, true, false, 0, 0⟩ : FlashOp) } }
   let i : Initiator := .apc
   let o : FlashOp := (⟨3, 2, 0x80000, 4096, 0, .apc, none, 0, true, false, 0, 0⟩ : FlashOp)
   let r : RegRow := rowAt (P.FLC) 0x104
   decide (s.takes i P.FLC 0x104 1 r = true) && decide (s.canonical = true) && decide (s.enabled P.FLC = true) && decide (s.flash.op = some o) &&
    decide (o.result = none) && decide (s.on F.FLC_STAT_AUTO_SUSP = false) && decide (s.on F.FLC_STAT_SW_SUSP = false) &&
     (match exec (.suspend i) s with
      | .next t => decide (t.flash = { s.flash with wantSw := true }) && decide (t.mem = s.mem)
      | _ => false)) &&
  (
   let s : State := { live.put F.FLC_STAT_AUTO_SUSP 1 with flash := { live.flash with op := some (⟨3, 2, 0x80000, 4096, 0, .apc, none, 0, true, false, 0, 0⟩ : FlashOp) } }
   let i : Initiator := .apc
   let o : FlashOp := (⟨3, 2, 0x80000, 4096, 0, .apc, none, 0, true, false, 0, 0⟩ : FlashOp)
   let r : RegRow := rowAt (P.FLC) 0x104
   decide (s.takes i P.FLC 0x104 1 r = true) && decide (s.canonical = true) && decide (s.enabled P.FLC = true) && decide (s.flash.op = some o) &&
    decide (o.result = none) && decide (s.on F.FLC_STAT_AUTO_SUSP = true) &&
     (match exec (.suspend i) s with
      | .next t => decide (t.on F.FLC_STAT_SW_SUSP = true) && decide (t.pageSt P.FLC = 2) && decide (t.flash = s.flash)
      | _ => false)) &&
  (
   let s : State := { live.put F.FLC_STAT_SW_SUSP 1 with flash := { live.flash with op := some (⟨3, 2, 0x80000, 4096, 0, .apc, none, 0, true, false, 0, 0⟩ : FlashOp) } }
   let i : Initiator := .apc
   let o : FlashOp := (⟨3, 2, 0x80000, 4096, 0, .apc, none, 0, true, false, 0, 0⟩ : FlashOp)
   let r : RegRow := rowAt (P.FLC) 0x104
   decide (s.takes i P.FLC 0x104 2 r = true) && decide (s.canonical = true) && decide (s.enabled P.FLC = true) && decide (s.flash.op = some o) &&
    decide (o.result = none) && decide (s.on F.FLC_STAT_AUTO_SUSP = false) && decide (s.on F.FLC_STAT_SW_SUSP = true) &&
     (match exec (.resume i) s with
      | .next t => decide (t.on F.FLC_STAT_SW_SUSP = false) && decide (t.flash = { s.flash with wantSw := false, minRun := true }) &&
        decide (t.pageSt P.FLC = 1)
      | _ => false)) &&
  (
   let s : State := { live with flash := { live.flash with op := some (⟨3, 2, 0x80000, 4096, 0, .apc, none, 0, true, false, 0, 0⟩ : FlashOp), queue := [4, 5] } }
   let i : Initiator := .apc
   let o : FlashOp := (⟨3, 2, 0x80000, 4096, 0, .apc, none, 0, true, false, 0, 0⟩ : FlashOp)
   let r : RegRow := rowAt (P.FLC) 0x104
   decide (s.takes i P.FLC 0x104 4 r = true) && decide (s.canonical = true) && decide (s.enabled P.FLC = true) && decide (s.flash.op = some o) &&
    decide (o.result = none) && decide (s.on F.FLC_STAT_AUTO_SUSP = false) && decide (s.on F.FLC_STAT_SW_SUSP = false) &&
     (match exec (.flcAbort i) s with
      | .next t => decide (t.flash = { s.flash with queue := [], doneQ := s.flash.doneQ ++ s.flash.queue, wantAbort := true }) &&
        decide (t.mem = s.mem)
      | _ => false))) = true := by decide +kernel

/-- States and operands that meet the clauses of `Obligations.FlashCommandsComplete` on flcAbort, autoResume, minRunEnd, safePoint, and what comes of
them. -/
theorem witness_FlashCommandsComplete_5 : (
  (
   let s : State := { live.put F.FLC_STAT_SW_SUSP 1 with flash := { live.flash with op := some (⟨3, 2, 0x80000, 4096, 0, .apc, none, 0, true, false, 0, 0⟩ : FlashOp), queue := [4, 5] } }
   let i : Initiator := .apc
   let o : FlashOp := (⟨3, 2, 0x80000, 4096, 0, .apc, none, 0, true, false, 0, 0⟩ : FlashOp)
   let r : RegRow := rowAt (P.FLC) 0x104
   decide (s.takes i P.FLC 0x104 4 r = true) && decide (s.canonical = true) && decide (s.enabled P.FLC = true) && decide (s.flash.op = some o) &&
    decide (o.result = none) && decide (s.on F.FLC_STAT_AUTO_SUSP = true ∨ s.on F.FLC_STAT_SW_SUSP = true) &&
     (match exec (.flcAbort i) s with
      | .next t => decide (t.flash = { s.flash with queue := [], doneQ := s.flash.doneQ ++ s.flash.queue, op := some { o with result := some 6 } })
        && decide (t.on F.FLC_STAT_SW_SUSP = false) && decide (t.on F.FLC_STAT_AUTO_SUSP = false)
      | _ => false)) &&
  (
   let s : State := { live.put F.FLC_STAT_AUTO_SUSP 1 with flash := { live.flash with op := some (⟨3, 2, 0x80000, 4096, 0, .apc, none, 0, true, false, 0, 0⟩ : FlashOp) } }
   decide (s.canonical = true) && decide (s.on F.FLC_STAT_AUTO_SUSP = true) &&
     (match exec .autoResume s with
      | .next t => decide (t.on F.FLC_STAT_AUTO_SUSP = false) && decide ((s.on F.FLC_STAT_SW_SUSP = false →
        t.flash = { s.flash with minRun := true }))
      | _ => false)) &&
  (
   let s : State := { live with flash := { live.flash with op := some (⟨3, 2, 0x80000, 4096, 0, .apc, none, 0, true, false, 0, 0⟩ : FlashOp), minRun := true } }
   decide (s.flash.minRun = true) && decide (s.stalled = []) &&
     (match exec .minRunEnd s with
      | .next t => decide (t = { s with flash := { s.flash with minRun := false } })
      | _ => false)) &&
  (
   let s : State := { live with flash := { live.flash with op := some (⟨3, 2, 0x80000, 4096, 0, .apc, none, 0, true, false, 0, 0⟩ : FlashOp), wantAbort := true } }
   let o : FlashOp := (⟨3, 2, 0x80000, 4096, 0, .apc, none, 0, true, false, 0, 0⟩ : FlashOp)
   let u : Nat := 0
   decide (s.canonical = true) && decide (s.flash.op = some o) && decide (o.result = none) && decide (o.op = 2 ∨ u = 0) &&
    decide (s.stalled = []) && decide (s.flash.wantAbort = true) &&
     (match exec (.safePoint u) s with
      | .next t => decide (t.flash =
        { s.flash with op := some { o with result := some 6 }, wantAbort := false, wantSw := false, wantAuto := false }) && decide (t.mem = s.mem)
      | _ => false)) &&
  (
   let s : State := { live with flash := { live.flash with op := some (⟨3, 2, 0x80000, 4096, 0, .apc, none, 0, true, false, 0, 0⟩ : FlashOp), wantSw := true } }
   let o : FlashOp := (⟨3, 2, 0x80000, 4096, 0, .apc, none, 0, true, false, 0, 0⟩ : FlashOp)
   let u : Nat := 0
   decide (s.canonical = true) && decide (s.flash.op = some o) && decide (o.result = none) && decide (o.op = 2 ∨ u = 0) &&
    decide (s.stalled = []) && decide (s.flash.wantAbort = false) && decide (s.flash.wantSw = true) &&
     (match exec (.safePoint u) s with
      | .next t => decide (t.flash =
        { s.flash with wantSw := false, wantAuto := false, prefetch := s.flash.prefetch.filter (fun l => l / 0x200000 != o.addr / 0x200000) }) &&
        decide (t.on F.FLC_STAT_SW_SUSP = true) && decide (t.mem = s.mem)
      | _ => false))) = true := by decide +kernel

/-- States and operands that meet the clauses of `Obligations.SerialPortCommandsComplete` on qtx, qrx, and what comes of them. -/
theorem witness_SerialPortCommandsComplete_1 : (
  (
   let s : State := live
   let i : Initiator := .apc
   let port : Nat := 1
   let w : Word := 0x55
   let r : RegRow := rowAt (P.SPT port) 0x110
   decide (s.takes i (P.SPT port) 0x110 w r = true) && decide (s.canonical = true) && decide (port < 4) &&
    decide (s.enabled (P.SPT port) = true) && decide (s.spts.length = 4) && decide (s.stalled = []) && decide ((s.spt port).queue.length < 16) &&
     (match exec (.qtx i port w) s with
      | .next t => decide ((t.spt port).queue = (s.spt port).queue ++ [(⟨w, wordBits (s.getI i (F.SPT_QCTL_LEN port)), s.getI i (F.SPT_QCTL_CS
        port), s.getI i (F.SPT_QCTL_CONT port) != 0, s.getI i (F.SPT_QCTL_RX_EN port) != 0⟩ : SptEntry)]) &&
        decide ((t.spt port).rx = (s.spt port).rx)
      | _ => false)) &&
  (
   let s : State := let s0 : State := live; s0.setSpt 1 (fun p => { p with queue := List.replicate 16 ⟨0, 8, 0, false, false⟩ })
   let i : Initiator := .apc
   let port : Nat := 1
   let w : Word := 0x55
   let r : RegRow := rowAt (P.SPT port) 0x110
   decide (s.takes i (P.SPT port) 0x110 w r = true) && decide (s.canonical = true) && decide (port < 4) &&
    decide (s.enabled (P.SPT port) = true) && decide (s.spts.length = 4) && decide (s.stalled = []) && decide (16 ≤ (s.spt port).queue.length) &&
     (match exec (.qtx i port w) s with
      | .next t => decide (t.spts = s.spts) && decide ((t.reg (Reg.IRQ_RAW (P.SPT port))).toNat.testBit (2) = true)
      | _ => false)) &&
  (
   let s : State := let s0 : State := live; s0.setSpt 1 (fun p => { p with rx := [7, 9] })
   let i : Initiator := .apc
   let port : Nat := 1
   let x : Word := 7
   let q : List Word := [9]
   decide (s.offers i (P.SPT port) 0x114 = true) && decide (s.canonical = true) && decide (port < 4) && decide (s.enabled (P.SPT port) = true) &&
    decide (s.spts.length = 4) && decide (s.stalled = []) && decide ((s.spt port).rx = x :: q) &&
     (match exec (.qrx i port) s with
      | .next t => decide (t.out.get i = (⟨x, .ok⟩ : BusAnswer)) && decide ((t.spt port).rx = q)
      | _ => false)) &&
  (
   let s : State := live
   let i : Initiator := .apc
   let port : Nat := 1
   decide (s.offers i (P.SPT port) 0x114 = true) && decide (s.canonical = true) && decide (port < 4) && decide (s.enabled (P.SPT port) = true) &&
    decide (s.spts.length = 4) && decide (s.stalled = []) && decide ((s.spt port).rx = []) &&
     (match exec (.qrx i port) s with
      | .next t => decide (t.out.get i = (⟨0, .ok⟩ : BusAnswer)) && decide (t.spts = s.spts) &&
        decide ((t.reg (Reg.IRQ_RAW (P.SPT port))).toNat.testBit (8) = true)
      | _ => false))) = true := by decide +kernel

/-- States and operands that meet the clauses of `Obligations.SerialPortCommandsComplete` on flush, sptRelease, pfInv, and what comes of them. -/
theorem witness_SerialPortCommandsComplete_2 : (
  (
   let s : State := let s0 : State := live; s0.setSpt 1 (fun p => { p with queue := [⟨0, 8, 0, false, false⟩], rx := [5] })
   let i : Initiator := .apc
   let port : Nat := 1
   let r : RegRow := rowAt (P.SPT port) 0x104
   decide (s.takes i (P.SPT port) 0x104 1 r = true) && decide (s.canonical = true) && decide (port < 4) &&
    decide (s.enabled (P.SPT port) = true) && decide (s.spts.length = 4) && decide (s.stalled = []) && decide ((s.spt port).busy = false) &&
     (match exec (.flush i port) s with
      | .next t => decide ((t.spt port).queue = []) && decide ((t.spt port).rx = []) && decide ((t.spt port).held = none)
      | _ => false)) &&
  (
   let s : State := let s0 : State := live; s0.setSpt 1 (fun p => { p with queue := [⟨0, 8, 0, true, false⟩, ⟨1, 8, 0, true, false⟩], rx := [5], busy := true })
   let i : Initiator := .apc
   let port : Nat := 1
   let e : SptEntry := ⟨0, 8, 0, true, false⟩
   let q : List SptEntry := [⟨1, 8, 0, true, false⟩]
   let r : RegRow := rowAt (P.SPT port) 0x104
   decide (s.takes i (P.SPT port) 0x104 1 r = true) && decide (s.canonical = true) && decide (port < 4) &&
    decide (s.enabled (P.SPT port) = true) && decide (s.spts.length = 4) && decide (s.stalled = []) && decide ((s.spt port).busy = true) &&
    decide ((s.spt port).queue = e :: q) &&
     (match exec (.flush i port) s with
      | .next t => decide ((t.spt port).queue = [{ e with cont := false }]) && decide ((t.spt port).rx = []) && decide ((t.spt port).busy = true)
      | _ => false)) &&
  (
   let s : State := let s0 : State := live; s0.setSpt 1 (fun p => { p with held := some 0 })
   let i : Initiator := .apc
   let port : Nat := 1
   let r : RegRow := rowAt (P.SPT port) 0x104
   decide (s.takes i (P.SPT port) 0x104 2 r = true) && decide (s.canonical = true) && decide (port < 4) &&
    decide (s.enabled (P.SPT port) = true) && decide (s.spts.length = 4) && decide (s.stalled = []) && decide ((s.spt port).queue = []) &&
     (match exec (.sptRelease i port) s with
      | .next t => decide ((t.spt port).held = none) && decide ((t.spt port).rx = (s.spt port).rx)
      | _ => false)) &&
  (
   let s : State := { live with prefetch := { live.prefetch with lines := [⟨0, []⟩], ahead := some 32 } }
   let i : Initiator := .apc
   let r : RegRow := rowAt ((P.SPT 0)) 0x104
   decide (s.takes i (P.SPT 0) 0x104 4 r = true) && decide (s.canonical = true) && decide (s.enabled (P.SPT 0) = true) && decide (s.stalled = []) &&
     (match exec (.pfInv i) s with
      | .next t => decide (t.prefetch.lines = []) && decide (t.prefetch.ahead = none)
      | _ => false))) = true := by decide +kernel

/-- States and operands that meet the clauses of `Obligations.SerialPortCommandsComplete` on queueWordDone, holdExpired, slaveWord, shortWord, and
what comes of them. -/
theorem witness_SerialPortCommandsComplete_3 : (
  (
   let s : State := let s0 : State := live; s0.setSpt 1 (fun p => { p with queue := [⟨5, 8, 1, true, true⟩], busy := true, rx := [3] })
   let port : Nat := 1
   let rx : Word := 0x1FF
   let e : SptEntry := ⟨5, 8, 1, true, true⟩
   let q : List SptEntry := []
   decide (s.canonical = true) && decide (port < 4) && decide (s.spts.length = 4) && decide (s.stalled = []) &&
    decide ((s.spt port).busy = true) && decide ((s.spt port).queue = e :: q) &&
     (match exec (.queueWordDone port rx) s with
      | .next t => decide ((t.spt port).queue = q) && decide ((t.spt port).last = (e.word, e.len)) &&
        decide ((t.spt port).rx = (s.spt port).rx ++ (if e.rxEn then [BitVec.ofNat 32 ((s.pinWord port rx).toNat % 2 ^ e.len)] else [])) &&
        decide ((q = [] → (t.spt port).busy = false ∧ (t.spt port).held = if e.cont then some e.cs else none))
      | _ => false)) &&
  (
   let s : State := let s0 : State := live; s0.setSpt 1 (fun p => { p with held := some 0 })
   let port : Nat := 1
   decide (s.canonical = true) && decide (port < 4) && decide (s.spts.length = 4) && decide (s.stalled = []) &&
    decide ((s.spt port).held.isSome = true) && decide ((s.spt port).queue = []) && decide ((s.spt port).busy = false) &&
     (match exec (.holdExpired port) s with
      | .next t => decide ((t.spt port).held = none) && decide ((s.enabled (P.SPT port) = true →
        (t.reg (Reg.IRQ_RAW (P.SPT port))).toNat.testBit (6) = true))
      | _ => false)) &&
  (
   let s : State := let s0 : State := (live.put (F.SPT_CFG_SLAVE 1) 1).put F.CLK_SYS_KHZ_KHZ 64000; s0.setSpt 1 (fun p => { p with queue := [⟨5, 8, 1, true, true⟩], rx := [3] })
   let port : Nat := 1
   let rx : Word := 0x1FF
   let e : SptEntry := ⟨5, 8, 1, true, true⟩
   let q : List SptEntry := []
   let khz : Nat := 8000
   decide (s.canonical = true) && decide (port < 4) && decide (s.spts.length = 4) && decide (s.on (F.SPT_CFG_SLAVE port) = true) &&
    decide (s.enabled (P.SPT port) = true) && decide ((s.spt port).queue = e :: q) && decide (khz ≤ 40000) &&
    decide (3 * khz ≤ s.get F.CLK_SYS_KHZ_KHZ) &&
     (match exec (.slaveWord port ⟨rx, khz⟩) s with
      | .next t => decide ((t.spt port).queue = q) && decide ((t.spt port).last = (e.word, e.len)) && decide ((e.rxEn = true →
        (s.spt port).rx.length < 16 → (t.spt port).rx = (s.spt port).rx ++ [BitVec.ofNat 32 ((s.pinWord port rx).toNat % 2 ^ e.len)])) &&
        decide ((t.spt port).sent = (s.spt port).sent ++ [SptItem.send 1 (s.wordSent port e.word e.len)])
      | _ => false)) &&
  (
   let s : State := live.put (F.SPT_CFG_SLAVE 1) 1
   let port : Nat := 1
   let rx : Word := 0x1FF
   let khz : Nat := 8000
   decide (s.canonical = true) && decide (port < 4) && decide (s.spts.length = 4) && decide (s.on (F.SPT_CFG_SLAVE port) = true) &&
    decide (s.enabled (P.SPT port) = true) && decide ((s.spt port).queue = []) &&
     (match exec (.slaveWord port ⟨rx, khz⟩) s with
      | .next t => decide ((t.spt port).queue = []) && decide ((t.spt port).rx = (s.spt port).rx) &&
        decide ((t.spt port).sent = (s.spt port).sent ++ [SptItem.send 1 (s.wordSent port (s.spt port).last.1 (s.spt port).last.2)]) &&
        decide ((t.reg (Reg.IRQ_RAW (P.SPT port))).toNat.testBit (4) = true)
      | _ => false)) &&
  (
   let s : State := let s0 : State := live.put (F.SPT_CFG_SLAVE 1) 1; s0.setSpt 1 (fun p => { p with queue := [⟨5, 8, 1, true, true⟩], rx := [3] })
   let port : Nat := 1
   let e : SptEntry := ⟨5, 8, 1, true, true⟩
   let q : List SptEntry := []
   decide (s.canonical = true) && decide (port < 4) && decide (s.spts.length = 4) && decide (s.on (F.SPT_CFG_SLAVE port) = true) &&
    decide (s.enabled (P.SPT port) = true) && decide ((s.spt port).queue = e :: q) &&
     (match exec (.shortWord port) s with
      | .next t => decide ((t.spt port).queue = q) && decide ((t.spt port).rx = (s.spt port).rx) &&
        decide ((t.reg (Reg.IRQ_RAW (P.SPT port))).toNat.testBit (5) = true)
      | _ => false))) = true := by decide +kernel

/-- States and operands that meet the clauses of `Obligations.SerialPortCommandsComplete` on windowRead, windowWrite, writeBufferFlush, and what comes
of them. -/
theorem witness_SerialPortCommandsComplete_4 : (
  (
   let s : State := (live.put (F.SPT_WIN_CFG_EN 2) 1).put (F.SPT_WIN_CFG_WR_EN 2) 1
   let req : BusReq := ⟨.apc, 0x15000010, .half, .read⟩
   let dev : List Byte := [1, 2, 3]
   let n : Nat := 2
   decide (s.canonical = true) && decide (s.admits req = true) && decide (regionOf req.addr.toNat = .window n) && decide (req.op = .read) &&
    decide (n ≠ 0) && decide (n < 4) && decide ((s.spt n).polling = false) && decide ((s.spt n).due = false) && decide ((s.spt n).buf = []) &&
    decide (s.sptBusy n = false) && decide (sizeBytes req.size ≤ dev.length) &&
     (match exec (.windowRead req dev) s with
      | .next t => decide (t.out.get req.ini = (⟨BitVec.ofNat 32 (leNat (dev.take (sizeBytes req.size))), .ok⟩ : BusAnswer)) && decide (t.mem = s.mem)
      | _ => false)) &&
  (
   let s : State := { (live.put (F.SPT_WIN_CFG_EN 0) 1).put (F.SPT_WIN_CFG_WR_EN 0) 1 with prefetch := { live.prefetch with lines := [⟨0x20, natLe 32 0x123456789⟩, ⟨0x40, []⟩] } }
   let req : BusReq := ⟨.apc, 0x10000022, .half, .read⟩
   let dev : List Byte := []
   let n : Nat := 0
   let l : PfLine := ⟨0x20, natLe 32 0x123456789⟩
   decide (s.canonical = true) && decide (s.admits req = true) && decide (regionOf req.addr.toNat = .window n) && decide (req.op = .read) &&
    decide (n = 0) && decide ((s.spt n).polling = false) && decide ((s.spt n).due = false) && decide ((s.spt n).buf = []) &&
    decide (s.pfFind (s.winExt 0 req.addr.toNat / 32 * 32) = some l) &&
     (match exec (.windowRead req dev) s with
      | .next t => decide (t.out.get req.ini = (⟨BitVec.ofNat 32 (leNat ((l.bytes.drop (s.winExt 0 req.addr.toNat % 32)).take (sizeBytes
        req.size))), .ok⟩ : BusAnswer)) && decide (t.mem = s.mem) && decide (t.prefetch.lines = s.prefetch.lines.filter (· != l) ++ [l])
      | _ => false)) &&
  (
   let s : State := (live.put (F.SPT_WIN_CFG_EN 0) 1).put (F.SPT_WIN_CFG_WR_EN 0) 1
   let req : BusReq := ⟨.apc, 0x10000022, .half, .write 0x5566⟩
   let w : Word := 0x5566
   let n : Nat := 0
   decide (s.canonical = true) && decide (s.admits req = true) && decide (regionOf req.addr.toNat = .window n) && decide (req.op = .write w) &&
    decide (n < 4) && decide (s.spts.length = 4) && decide ((s.spt n).polling = false) && decide ((s.spt n).due = false) &&
    decide ((s.spt n).buf = []) &&
     (match exec (.windowWrite req) s with
      | .next t => decide (t.out.get req.ini = (⟨0, .ok⟩ : BusAnswer)) && decide ((t.spt n).buf = natLe (sizeBytes req.size) w.toNat) &&
        decide ((t.spt n).bufAt = s.winExt n req.addr.toNat) && decide (t.mem = s.mem)
      | _ => false)) &&
  (
   let s : State := let s0 : State := live; s0.setSpt 1 (fun p => { p with buf := [1] })
   let port : Nat := 1
   decide (port < 4) && decide (s.spts.length = 4) && decide ((s.spt port).buf ≠ []) && decide (s.sptBusy port = false) &&
     (match exec (.writeBufferFlush port) s with
      | .next t => decide ((t.spt port).polling = true) && decide ((t.spt port).due = false) && decide ((t.spt port).buf = (s.spt port).buf)
      | _ => false))) = true := by decide +kernel

/-- States and operands that meet the clauses of `Obligations.SerialPortCommandsComplete` on statusPoll, pollTimeout, lineFillDone, lookAheadFill, and
what comes of them. -/
theorem witness_SerialPortCommandsComplete_5 : (
  (
   let s : State := let s0 : State := live; s0.setSpt 1 (fun p => { p with buf := [1], polling := true })
   let port : Nat := 1
   let b : Byte := 1
   decide (s.canonical = true) && decide (port < 4) && decide (s.spts.length = 4) && decide ((s.spt port).polling = true) &&
    decide (boolNat (b.toNat.testBit (s.get (F.SPT_WIN_POLL_BUSY_BIT port))) = s.get (F.SPT_WIN_POLL_BUSY_POL port)) &&
     (match exec (.statusPoll port b) s with
      | .next t => decide (t.get (F.SPT_WIN_STAT_LAST_STATUS port) = b.toNat) && decide ((t.spt port).polling = true) &&
        decide ((t.spt port).buf = (s.spt port).buf)
      | _ => false)) &&
  (
   let s : State := let s0 : State := live; s0.setSpt 1 (fun p => { p with buf := [1], polling := true })
   let port : Nat := 1
   let b : Byte := 0xFE
   decide (s.canonical = true) && decide (port < 4) && decide (s.spts.length = 4) && decide ((s.spt port).polling = true) &&
    decide (s.stalled = []) && decide (boolNat (b.toNat.testBit (s.get (F.SPT_WIN_POLL_BUSY_BIT port))) ≠ s.get (F.SPT_WIN_POLL_BUSY_POL port)) &&
     (match exec (.statusPoll port b) s with
      | .next t => decide (t.get (F.SPT_WIN_STAT_LAST_STATUS port) = b.toNat) && decide ((t.spt port).buf = []) &&
        decide ((t.spt port).polling = false)
      | _ => false)) &&
  (
   let s : State := let s0 : State := live; s0.setSpt 1 (fun p => { p with buf := [1], polling := true })
   let port : Nat := 1
   decide (s.canonical = true) && decide (port < 4) && decide (s.spts.length = 4) && decide ((s.spt port).polling = true) &&
    decide (s.stalled = []) && decide (s.get (F.SPT_WIN_STAT_TIMEOUTS port) < 65535) &&
     (match exec (.pollTimeout port) s with
      | .next t => decide ((t.spt port).buf = []) && decide ((t.spt port).polling = false) &&
        decide (t.get (F.SPT_WIN_STAT_TIMEOUTS port) = s.get (F.SPT_WIN_STAT_TIMEOUTS port) + 1)
      | _ => false)) &&
  (
   let s : State := { live with prefetch := { live.prefetch with fill := some 64 } }
   let dev : List Byte := natLe 32 5
   let l : Nat := 64
   decide (s.prefetch.fill = some l) && decide (s.prefetch.stale = false) && decide (dev.length = 32) && decide (s.stalled = []) &&
    decide ((s.spt 0).queue = []) &&
     (match exec (.lineFillDone dev) s with
      | .next t => decide (t.prefetch.fill = none) &&
        decide (t.prefetch.lines = s.prefetch.lines.drop (s.prefetch.lines.length - 3) ++ [(⟨l, dev⟩ : PfLine)])
      | _ => false)) &&
  (
   let s : State := { (live.put (F.SPT_WIN_CFG_EN 0) 1).put (F.SPT_WIN_CFG_WR_EN 0) 1 with prefetch := { live.prefetch with ahead := some 64 } }
   let l : Nat := 64
   decide (s.prefetch.ahead = some l) && decide (s.sptBusy 0 = false) && decide ((s.spt 0).due = false) && decide ((s.spt 0).buf = []) &&
    decide (s.winDenied 0 false = false) && decide (s.pfFind l = none) &&
     (match exec .lookAheadFill s with
      | .next t => decide (t.prefetch = { s.prefetch with ahead := none, fill := some l, fetch := false, stale := false }) &&
        decide (t.spts.length = s.spts.length)
      | _ => false))) = true := by decide +kernel

/-- States and operands that meet the clauses of `Obligations.HostPortCommandsComplete` on hspCsFall, nop, and what comes of them. -/
theorem witness_HostPortCommandsComplete_1 : (
  (
   let s : State := live
   let m : Bool := true
   decide (s.systemOn = true) && decide (s.enabled P.WKP = false ∨ s.on F.WKP_CFG_HSP_WAKE = false) &&
     (match exec (.hspCsFall m) s with
      | .next t => decide (t =
        { s with hsp := { s.hsp with isOpen := true, mayCut := true, mode3 := m, crcOn := s.on F.HSP_CFG_CRC_EN, status := s.hspStatus } })
      | _ => false)) &&
  (
   let s : State := live.put F.WKP_CFG_HSP_WAKE 1
   let m : Bool := true
   decide (s.enabled P.WKP = true) && decide (s.on F.WKP_CFG_HSP_WAKE = true) && decide (s.canonical = true) &&
     (match exec (.hspCsFall m) s with
      | .next t => decide (0x1A ∈ t.pwr.wakes) && decide (t.on F.WKP_PENDING_HSP = true)
      | _ => false)) &&
  (
   let s : State := { live with hsp := { live.hsp with isOpen := true, flags := 0x104000, status := 0xA5504003 } }
   let cmd : Word := 0
   let crc : Byte := 9
   decide (s.canonical = true) && decide (s.hsp.isOpen = true) && decide (s.get F.HSP_COUNTS_TRANSACTIONS < 65535) &&
    decide (cmdRefused cmd = false) && decide ((s.hsp.crcOn = true → crc = hostCrc cmd)) &&
     (match exec (.nop cmd crc) s with
      | .next t => decide (t.reg Reg.HSP_LAST_STAT = s.hsp.status) &&
        decide (t.get F.HSP_COUNTS_TRANSACTIONS = s.get F.HSP_COUNTS_TRANSACTIONS + 1) && decide (t.hsp.isOpen = false) &&
        decide (t.hsp.flags = s.hsp.flags - (s.hsp.flags &&& s.hsp.status.toNat % 0x200000 / 0x1000 * 0x1000)) && decide (t.hsp.count = 0) &&
        decide (t.hsp.miso = [(s.hsp.status, if s.hsp.crcOn then some (hostCrc s.hsp.status) else none)])
      | _ => false)) &&
  (
   let s : State := { live with hsp := { live.hsp with isOpen := true, flags := 0x104000, status := 0xA5504003, crcOn := true } }
   let cmd : Word := 0
   let crc : Byte := 9
   decide (s.canonical = true) && decide (s.hsp.isOpen = true) && decide (s.get F.HSP_COUNTS_TRANSACTIONS < 65535) &&
    decide (cmdRefused cmd = true ∨ (s.hsp.crcOn = true ∧ (crc ≠ hostCrc cmd))) &&
     (match exec (.nop cmd crc) s with
      | .next t => decide (t.reg Reg.HSP_LAST_STAT = s.hsp.status) &&
        decide (t.get F.HSP_COUNTS_TRANSACTIONS = s.get F.HSP_COUNTS_TRANSACTIONS + 1) && decide (t.hsp.isOpen = false) &&
        decide (t.hsp.flags.testBit hfHdrErr = true)
      | _ => false))) = true := by decide +kernel

/-- States and operands that meet the clauses of `Obligations.HostPortCommandsComplete` on hspRead, hspWrite, and what comes of them. -/
theorem witness_HostPortCommandsComplete_2 : (
  (
   let s : State := { live with hsp := { live.hsp with isOpen := true, flags := 0x104000, status := 0xA5504003 } }
   let cmd : Word := 0x40000001
   let addr : Word := 0x20000002
   let cmdCrc : Byte := 0
   let addrCrc : Byte := 0
   let late : Option Nat := none
   decide (s.canonical = true) && decide (s.hsp.isOpen = true) && decide (s.get F.HSP_COUNTS_TRANSACTIONS < 65535) &&
    decide (headerRefused cmd addr = true ∨ (s.hsp.crcOn = true ∧ (cmdCrc ≠ hostCrc cmd ∨ addrCrc ≠ hostCrc addr))) &&
     (match exec (.hspRead cmd addr ⟨cmdCrc, addrCrc⟩ late) s with
      | .next t => decide (t.reg Reg.HSP_LAST_STAT = s.hsp.status) &&
        decide (t.get F.HSP_COUNTS_TRANSACTIONS = s.get F.HSP_COUNTS_TRANSACTIONS + 1) && decide (t.hsp.isOpen = false) &&
        decide (t.hsp.flags.testBit hfHdrErr = true) && decide (t.mem = s.mem) && decide (t.hsp.count = 0)
      | _ => false)) &&
  (
   let s : State := { live with hsp := { live.hsp with isOpen := true, flags := 0x104000, status := 0xA5504003 } }
   let cmd : Word := 0x40000001
   let addr : Word := 0x20000002
   let cmdCrc : Byte := 0
   let addrCrc : Byte := 0
   let ws : List HostWord := [⟨5, 0⟩]
   decide (s.canonical = true) && decide (s.hsp.isOpen = true) && decide (s.get F.HSP_COUNTS_TRANSACTIONS < 65535) &&
    decide (headerRefused cmd addr = true ∨ (s.hsp.crcOn = true ∧ (cmdCrc ≠ hostCrc cmd ∨ addrCrc ≠ hostCrc addr))) &&
     (match exec (.hspWrite cmd addr ⟨cmdCrc, addrCrc⟩ ws) s with
      | .next t => decide (t.reg Reg.HSP_LAST_STAT = s.hsp.status) &&
        decide (t.get F.HSP_COUNTS_TRANSACTIONS = s.get F.HSP_COUNTS_TRANSACTIONS + 1) && decide (t.hsp.isOpen = false) &&
        decide (t.hsp.flags.testBit hfHdrErr = true) && decide (t.mem = s.mem) && decide (t.hsp.count = 0)
      | _ => false)) &&
  (
   let s : State := ({ live with hsp := { live.hsp with isOpen := true, flags := 0x104000, status := 0xA5504003 } } : State).setMemNat 0x20000000 4 77
   let cmd : Word := 0x20000001
   let addr : Word := 0x20000000
   let v : Word := 77
   let cmdCrc : Byte := 0
   let addrCrc : Byte := 0
   decide (s.canonical = true) && decide (s.hsp.isOpen = true) && decide (s.get F.HSP_COUNTS_TRANSACTIONS < 65535) &&
    decide (headerRefused cmd addr = false) && decide ((s.hsp.crcOn = true → cmdCrc = hostCrc cmd ∧ addrCrc = hostCrc addr)) &&
    decide (bitsOf cmd.toNat 0 11 = 1) && decide (s.hspReady = true) && decide (s.hsp.posted = []) &&
    decide (regionOf addr.toNat = .apcSram ∨ regionOf addr.toNat = .ntcSram) && decide (s.rangeBad addr.toNat 4 = false) &&
    decide (v = BitVec.ofNat 32 (leNat (s.bytesAt addr.toNat 4))) && decide (s.hspBegin.admits (readReq .host addr.toNat) = true) &&
     (match exec (.hspRead cmd addr ⟨cmdCrc, addrCrc⟩ none) s with
      | .next t => decide (t.reg Reg.HSP_LAST_STAT = s.hsp.status) &&
        decide (t.get F.HSP_COUNTS_TRANSACTIONS = s.get F.HSP_COUNTS_TRANSACTIONS + 1) && decide (t.hsp.isOpen = false) &&
        decide (t.out.get Initiator.host = (⟨v, .ok⟩ : BusAnswer)) && decide (t.hsp.count = 1) && decide (t.mem = s.mem) &&
        decide (t.hsp.miso = [(s.hsp.status, if s.hsp.crcOn then some (hostCrc s.hsp.status) else none), (0, if s.hsp.crcOn then some (hostCrc 0)
        else none), (0, if s.hsp.crcOn then some (hostCrc 0) else none), (v, if s.hsp.crcOn then some (hostCrc v) else none)])
      | _ => false)) &&
  (
   let s : State := { live with hsp := { live.hsp with isOpen := true, flags := 0x104000, status := 0xA5504003 } }
   let cmd : Word := 0x60000001
   let addr : Word := 0x20000000
   let w : Word := 0x11223344
   let crc : Byte := 0
   let cmdCrc : Byte := 0
   let addrCrc : Byte := 0
   decide (s.canonical = true) && decide (s.hsp.isOpen = true) && decide (s.get F.HSP_COUNTS_TRANSACTIONS < 65535) &&
    decide (headerRefused cmd addr = false) && decide ((s.hsp.crcOn = true → cmdCrc = hostCrc cmd ∧ addrCrc = hostCrc addr)) &&
    decide (bitsOf cmd.toNat 0 11 = 1) && decide (s.hspReady = true) && decide (s.hsp.posted = []) &&
    decide (regionOf addr.toNat = .apcSram ∨ regionOf addr.toNat = .ntcSram) && decide (s.rangeBad addr.toNat 4 = false) &&
    decide ((s.hsp.crcOn = true → crc = hostCrc w)) && decide (s.hsp.flying = false) &&
    decide (s.hspBegin.admits (writeReq .host addr.toNat w) = true) &&
     (match exec (.hspWrite cmd addr ⟨cmdCrc, addrCrc⟩ [⟨w, crc⟩]) s with
      | .next t => decide (t.reg Reg.HSP_LAST_STAT = s.hsp.status) &&
        decide (t.get F.HSP_COUNTS_TRANSACTIONS = s.get F.HSP_COUNTS_TRANSACTIONS + 1) && decide (t.hsp.isOpen = false) &&
        decide ((∀ k ∈ List.range 4, t.byte (addr.toNat + k) = BitVec.ofNat 8 (w.toNat / 256 ^ k))) && decide (t.hsp.count = 1) &&
        decide (t.hsp.posted = [])
      | _ => false))) = true := by decide +kernel

/-- States and operands that meet the clauses of `Obligations.HostPortCommandsComplete` on hspWrite, cut, dbSet, doorbell, and what comes of them. -/
theorem witness_HostPortCommandsComplete_3 : (
  (
   let s : State := { live with hsp := { live.hsp with isOpen := true, flags := 0x104000, status := 0xA5504003, crcOn := true } }
   let cmd : Word := 0x60000001
   let addr : Word := 0x20000000
   let w : Word := 0x11223344
   let crc : Byte := hostCrc w + 1
   let cmdCrc : Byte := hostCrc cmd
   let addrCrc : Byte := hostCrc addr
   let ws : List HostWord := []
   decide (s.canonical = true) && decide (s.hsp.isOpen = true) && decide (s.get F.HSP_COUNTS_TRANSACTIONS < 65535) &&
    decide (headerRefused cmd addr = false) && decide (s.hsp.crcOn = true) && decide (cmdCrc = hostCrc cmd) && decide (addrCrc = hostCrc addr) &&
    decide (crc ≠ hostCrc w) &&
     (match exec (.hspWrite cmd addr ⟨cmdCrc, addrCrc⟩ (⟨w, crc⟩ :: ws)) s with
      | .next t => decide (t.reg Reg.HSP_LAST_STAT = s.hsp.status) &&
        decide (t.get F.HSP_COUNTS_TRANSACTIONS = s.get F.HSP_COUNTS_TRANSACTIONS + 1) && decide (t.hsp.isOpen = false) &&
        decide (t.hsp.flags.testBit hfDataCrc = true) && decide (t.hsp.count = 0) && decide (t.mem = s.mem)
      | _ => false)) &&
  (
   let s : State := { live with hsp := { live.hsp with isOpen := true, mayCut := true } }
   decide (s.canonical = true) && decide (s.hsp.mayCut = true) &&
     (match exec .cut s with
      | .next t => decide (t.hsp.isOpen = false) && decide (t.hsp.mayCut = false) && decide (t.hsp.flags.testBit hfCut = true) &&
        decide (t.mem = s.mem)
      | _ => false)) &&
  (
   let s : State := live.put F.HSP_DOORBELL_BITS 1
   let i : Initiator := .apc
   let w : Word := 0x112
   let r : RegRow := rowAt (P.HSP) 0x10C
   decide (s.takes i P.HSP 0x10C w r = true) && decide (s.canonical = true) &&
     (match exec (.dbSet i w) s with
      | .next t => decide (t.get F.HSP_DOORBELL_BITS = s.get F.HSP_DOORBELL_BITS ||| w.toNat % 256)
      | _ => false)) &&
  (
   let s : State := live.put F.HSP_DOORBELL_BITS 0x13
   let i : Initiator := .apc
   let w : Word := 0x12
   let r : RegRow := rowAt (P.HSP) 0x110
   decide (s.takes i P.HSP 0x110 w r = true) && decide (s.canonical = true) &&
     (match exec (.doorbell i w) s with
      | .next t => decide (t.reg Reg.HSP_DOORBELL = s.reg Reg.HSP_DOORBELL &&& ~~~(w &&& 0xFF)) && decide ((i = Initiator.host →
        s.enabled P.HSP = true → s.reg Reg.HSP_DOORBELL &&& w &&& 0xFF ≠ 0 → (t.reg (Reg.IRQ_RAW (P.HSP))).toNat.testBit (0) = true))
      | _ => false))) = true := by decide +kernel

/-- States and operands that meet the clauses of `Obligations.FabricAndPinCommandsComplete` on eventSample, heldEventsSample, taskTrigger, swTrig, and
what comes of them. -/
theorem witness_FabricAndPinCommandsComplete_1 : (
  (
   let s : State := { live.setReg Reg.EVF_NATIVE_EN 0xFFFFFFFF with fabric := { live.fabric with raised := [193, 64], held := [64, 65] } }
   decide (s.fabricOn = true) && decide (s.fabric.due = []) &&
     (match exec .eventSample s with
      | .next t => decide (t.fabric.raised = []) && decide (t.fabric.held = []) && decide (t.fabric.cycle = s.fabric.cycle + 1) &&
        decide (t.fabric.due = ((s.fabric.raised ++ s.fabric.held.filter (fun e => !s.fabric.raised.contains e)).map s.targets).flatten) &&
        decide (t.regs = s.regs)
      | _ => false)) &&
  (
   let s : State := { live.setReg Reg.EVF_NATIVE_EN 0xFFFFFFFF with fabric := { live.fabric with raised := [193, 64], held := [64, 65] } }
   decide (s.fabricOn = true) && decide (s.fabric.due = []) && decide (s.fabric.held ≠ []) &&
     (match exec .heldEventsSample s with
      | .next t => decide (t.fabric.raised = []) && decide (t.fabric.held = []) && decide (t.fabric.cycle = s.fabric.cycle + 1) &&
        decide (t.fabric.due = ((s.fabric.raised ++ s.fabric.held.filter (fun e => !s.fabric.raised.contains e)).map s.targets).flatten) &&
        decide (t.regs = s.regs)
      | _ => false)) &&
  (
   let s : State := { live.setReg (Reg.TASK_EN P.EVF) 0xFF with fabric := { live.fabric with due := [9, taskId P.EVF 3] } }
   let n : Nat := taskId P.EVF 3
   let k : Nat := 3
   decide (s.canonical = true) && decide (s.fabricOn = true) && decide (n = taskId P.EVF k) && decide (k < 8) && decide (n ∈ s.fabric.due) &&
    decide (s.taskGoes n = true) &&
     (match exec (.taskTrigger n) s with
      | .next t => decide ((t.reg Reg.EVF_IRQ_TASK).toNat.testBit k = true) && decide (t.fabric.due = s.fabric.due.filter (· != n))
      | _ => false)) &&
  (
   let s : State := live.setReg (Reg.EVT_PUB_EN P.EVF) 0xF
   let i : Initiator := .apc
   let w : Word := 0x1A
   let r : RegRow := rowAt (P.EVF) 0x108
   decide (s.takes i P.EVF 0x108 w r = true) && decide (s.canonical = true) && decide (s.enabled P.EVF = true) && decide (s.fabricOn = true) &&
     (match exec (.swTrig i w) s with
      | .next t => decide ((∀ n ∈ List.range 8, w.toNat.testBit n = true → (s.reg (Reg.EVT_PUB_EN P.EVF)).toNat.testBit n = true →
        32 * P.EVF + n ∈ t.fabric.raised)) && decide (t.fabric.due = s.fabric.due)
      | _ => false))) = true := by decide +kernel

/-- States and operands that meet the clauses of `Obligations.FabricAndPinCommandsComplete` on taskTrig, pinEvt, gpioInt, and what comes of them. -/
theorem witness_FabricAndPinCommandsComplete_2 : (
  (
   let s : State := live
   let i : Initiator := .apc
   let w : Word := 0x8C
   let r : RegRow := rowAt (P.EVF) 0x10C
   decide (s.takes i P.EVF 0x10C w r = true) && decide (s.canonical = true) && decide (s.enabled P.EVF = true) &&
     (match exec (.taskTrig i w) s with
      | .next t => decide (t.fabric = { s.fabric with due := s.fabric.due ++ [w.toNat % 512] })
      | _ => false)) &&
  (
   let s : State := ((live.setReg (Reg.EVT_PUB_EN P.GPIO) 0xFF).put (F.EVF_PIN_EVT_PIN 2) 5).put (F.EVF_PIN_EVT_EDGE 2) 1
   let n : Nat := 5
   let up : Bool := true
   decide (s.canonical = true) && decide (n < 32) && decide ((pinsPresent s.variant).testBit n = true) && decide (n < 8) &&
    decide (s.enabled P.GPIO = true) && decide (s.fabricOn = true) &&
     (match exec (.pinEvt n up) s with
      | .next t => decide ((t.reg Reg.GPIO_IN).toNat.testBit n = up) && decide ((∀ k ∈ List.range 8, s.get (F.EVF_PIN_EVT_PIN k) = n →
        (s.get (F.EVF_PIN_EVT_EDGE k)).testBit (if up then 0 else 1) = true → (s.reg (Reg.EVT_PUB_EN P.GPIO)).toNat.testBit k = true →
        32 * P.GPIO + k ∈ t.fabric.raised))
      | _ => false)) &&
  (
   let s : State := live.put (F.GPIO_PIN_ALT 9) 1
   let n : Nat := 9
   let up : Bool := true
   decide (s.canonical = true) && decide (n < 32) && decide ((pinsPresent s.variant).testBit n = true) && decide (8 ≤ n) &&
    decide (s.get (F.GPIO_PIN_ALT n) = 1) &&
     (match exec (.pinEvt n up) s with
      | .next t => decide ((t.reg Reg.GPIO_IN).toNat.testBit n = up) && decide (t.fabric = s.fabric)
      | _ => false)) &&
  (
   let s : State := live.put (F.GPIO_PIN_INT_MODE 9) 1
   let n : Nat := 9
   let up : Bool := true
   decide (s.canonical = true) && decide (n < 32) && decide ((pinsPresent s.variant).testBit n = true) && decide (s.enabled P.GPIO = true) &&
    decide (s.systemOn = true) &&
     (match exec (.gpioInt n up) s with
      | .next t => decide ((t.reg Reg.GPIO_IN).toNat.testBit n = up) && decide (((s.reg Reg.GPIO_IN).toNat.testBit n = !up →
        s.get (F.GPIO_PIN_INT_MODE n) = 3 ∨ s.get (F.GPIO_PIN_INT_MODE n) = (if up then 1 else 2) →
        (t.reg Reg.GPIO_INT_FLAG).toNat.testBit n = true)) && decide ((s.get (F.GPIO_PIN_INT_MODE n) = (if up then 5 else 4) →
        (t.reg Reg.GPIO_INT_FLAG).toNat.testBit n = true))
      | _ => false))) = true := by decide +kernel

/-- States and operands that meet the clauses of `Obligations.PowerCommandsComplete` on req, entryBegin, and what comes of them (of entryBegin the
hypotheses only: a free value or a long computation stands in the result). -/
theorem witness_PowerCommandsComplete_1 : (
  (
   let s : State := (live.put F.PWR_STAT_PENDING 1).put F.PWR_REQ_TARGET 2
   let i : Initiator := .apc
   let w : Word := 0
   decide (s.brings i P.PWR 0x100 w = true) && decide (s.canonical = true) && decide (s.enabled P.PWR = true) && decide (w.toNat % 4 = 0) &&
    decide (s.pwr.entering = none) &&
     (match exec (.req i w) s with
      | .next t => decide (t.get F.PWR_STAT_PENDING = 0) && decide (t.get F.PWR_REQ_TARGET = 0) && decide (t.pwr = s.pwr)
      | _ => false)) &&
  (
   let s : State := live
   let i : Initiator := .apc
   let w : Word := 3
   decide (s.brings i P.PWR 0x100 w = true) && decide (s.canonical = true) && decide (s.enabled P.PWR = true) &&
    decide (w.toNat % 4 ≠ 0 ∨ s.pwr.entering ≠ none) &&
     (match exec (.req i w) s with
      | .next t => decide (t.get F.PWR_STAT_PENDING = 1) && decide (t.get F.PWR_REQ_TARGET = w.toNat % 4) && decide (t.pwr = s.pwr)
      | _ => false)) &&
  (
   let s : State := { (live.put F.PWR_STAT_PENDING 1).put F.PWR_REQ_TARGET 1 with boot := { live.boot with done := true } }
   decide (s.canonical = true) && decide (s.on F.PWR_STAT_PENDING = true) && decide (s.pwr.state = PowerState.active) &&
    decide (s.pwr.entering = none) && decide (s.get F.PWR_REQ_TARGET ≠ 0) && decide (s.gatesOpen = 0) && decide (s.standingSources = []) &&
     (match exec .entryBegin s with
      | .next t => decide (t.pwr.entering = some (stateOf (s.get F.PWR_REQ_TARGET))) && decide (t.get F.PWR_STAT_ENTERING = 1) &&
        decide (t.get F.PWR_STAT_PENDING = 0) && decide (t.pwr.state = PowerState.active) && decide (t.mem = s.mem)
      | _ => false)) &&
  (
   let s : State := let s0 : State := { (live.put F.PWR_STAT_PENDING 1).put F.PWR_REQ_TARGET 1 with boot := { live.boot with done := true } }; (s0.put F.WKP_CFG_HSP_WAKE 1).put F.WKP_PENDING_HSP 1
   decide (s.canonical = true) && decide (s.on F.PWR_STAT_PENDING = true) && decide (s.pwr.state = PowerState.active) &&
    decide (s.pwr.entering = none) && decide (s.get F.PWR_REQ_TARGET ≠ 0) && decide (s.gatesOpen = 0) && decide (s.standingSources ≠ []))) = true := by decide +kernel

/-- States and operands that meet the clauses of `Obligations.PowerCommandsComplete` on entryInstant, entryAborted, wake, and what comes of them (of
entryAborted the hypotheses only: a free value or a long computation stands in the result). -/
theorem witness_PowerCommandsComplete_2 : (
  (
   let s : State := { live with count := 300, pwr := { live.pwr with entering := some .standby, state := .active } }
   let x : PowerState := .standby
   decide (s.canonical = true) && decide (s.pwr.entering = some x) && decide (s.on F.PWR_STAT_PENDING = false) &&
     (match exec .entryInstant s with
      | .next t => decide (t.pwr.state = x) && decide (t.pwr.entering = none) && decide (t.get F.PWR_STAT_ENTERING = 0) &&
        decide ((s.count % 256 = 0 → t.count = s.count)) && decide ((s.count % 256 ≠ 0 → t.count = (s.count / 256 + 1) * 256 % countMod)) &&
        decide (t.get F.TMB_STAT_FINE_VALID = 0) && decide (t.get F.CLK_STAT_HFXO_OK = 0) && decide (t.variant = s.variant)
      | _ => false)) &&
  (
   let s : State := { live.put F.PWR_STAT_PENDING 1 with pwr := { live.pwr with entering := some .sleep, state := .active } }
   let x : PowerState := .sleep
   decide (s.canonical = true) && decide (s.pwr.entering = some x) && decide (s.on F.PWR_STAT_PENDING = true) &&
    decide (s.get F.PWR_REQ_TARGET = 0) &&
     (match exec .entryInstant s with
      | .next t => decide (t.pwr.state = PowerState.active) && decide (t.get F.PWR_STAT_PENDING = 0) && decide (t.get F.CLK_STAT_HFRC_OK = 1) &&
        decide (t.get F.PWR_OP_ACTIVE = 0)
      | _ => false)) &&
  (
   let s : State := { live.put F.WKP_CFG_HSP_WAKE 1 with pwr := { live.pwr with entering := some .sleep, state := .active } }
   let srcs : List Nat := [0x1A]
   let x : PowerState := .sleep
   decide (s.canonical = true) && decide (s.pwr.entering = some x) && decide (s.wakeNow srcs ≠ [])) &&
  (
   let s : State := { live with pwr := { live.pwr with entering := some .sleep, state := .active } }
   let srcs : List Nat := [0x1A]
   let x : PowerState := .sleep
   decide (s.pwr.entering = some x) && decide (s.wakeNow srcs = []) &&
     (match exec (.entryAborted srcs) s with
      | .next t => decide (t.pwr = s.pwr) && decide (t.mem = s.mem)
      | _ => false)) &&
  (
   let s : State := { live.put F.WKP_CFG_HSP_WAKE 1 with pwr := { live.pwr with state := .sleep } }
   let srcs : List Nat := [0x1A]
   decide (s.canonical = true) && decide (s.pwr.state ≠ PowerState.active) && decide (s.pwr.entering = none) && decide (s.wakeNow srcs ≠ []) &&
     (match exec (.wake srcs) s with
      | .next t => decide (t.pwr.state = PowerState.active) && decide (t.pwr.wakes = []) &&
        decide (t.get F.PWR_STAT_FROM = stateCode s.pwr.state) &&
        decide (t.get F.PWR_WAKE_LAST_SOURCE = (s.wakeNow srcs).foldl min 0xFF % 2 ^ F.PWR_WAKE_LAST_SOURCE.width) &&
        decide (t.get F.CLK_STAT_SRC_ACTIVE = 0) && decide (t.get F.PWR_OP_ACTIVE = 0) && decide (t.get F.CLK_STAT_HFRC_OK = 1)
      | _ => false))) = true := by decide +kernel

/-- States and operands that meet the clauses of `Obligations.PowerCommandsComplete` on wake, borRelease, wakePin, radioOn, and what comes of them. -/
theorem witness_PowerCommandsComplete_3 : (
  (
   let s : State := live.put F.WKP_CFG_HSP_WAKE 1
   let srcs : List Nat := [0x1A]
   decide (s.pwr.state = PowerState.active) &&
     (match exec (.wake srcs) s with
      | .next t => decide (t.pwr = s.pwr) && decide (t.mem = s.mem) && decide (t = s.wakeLatch srcs) &&
        decide ((∀ k ∈ List.range 8, k + 1 ∈ srcs → s.enabled P.WKP = true → s.on (F.WKP_PIN_EN k) = true →
        (t.get F.WKP_PENDING_PIN).testBit k = true))
      | _ => false)) &&
  (
   let s : State := { live.put F.WKP_CFG_HSP_WAKE 1 with pwr := { live.pwr with state := .standby, wakes := [0x1A] } }
   decide (s.canonical = true) && decide (s.pwr.state = PowerState.standby ∨ s.pwr.state = PowerState.dormant) &&
    decide (s.pwr.entering = none) && decide (s.wakeNow [] ≠ []) &&
     (match exec .borRelease s with
      | .next t => decide (t.pwr.state = PowerState.active) && decide (t.pwr.wakes = []) &&
        decide (t.get F.PWR_STAT_FROM = stateCode s.pwr.state) &&
        decide (t.get F.PWR_WAKE_LAST_SOURCE = (s.wakeNow []).foldl min 0xFF % 2 ^ F.PWR_WAKE_LAST_SOURCE.width) &&
        decide (t.get F.CLK_STAT_SRC_ACTIVE = 0) && decide (t.get F.PWR_OP_ACTIVE = 0) && decide (t.get F.CLK_STAT_HFRC_OK = 1)
      | _ => false)) &&
  (
   let s : State := (live.put (F.WKP_PIN_EN 3) 1).put (F.WKP_PIN_POL 3) 1
   let n : Nat := 3
   let up : Bool := true
   decide (s.canonical = true) && decide (n < 8) &&
     (match exec (.wakePin n up) s with
      | .next t => decide ((t.get F.GPIO_IN_IN).testBit n = up) && decide ((s.enabled P.WKP = true → s.on (F.WKP_PIN_EN n) = true →
        up = s.on (F.WKP_PIN_POL n) → s.on (F.WKP_PIN_EDGE n) = false ∨ (s.get F.GPIO_IN_IN).testBit n ≠ up →
        (t.get F.WKP_PENDING_PIN).testBit n = true ∧ n + 1 ∈ t.pwr.wakes)) && decide ((s.on (F.WKP_PIN_EN n) = false → t.pwr = s.pwr))
      | _ => false)) &&
  (
   let s : State := live
   let i : Initiator := .apc
   let w : Word := 1
   let r : RegRow := rowAt (P.PWR) 0x11C
   decide (s.takes i P.PWR 0x11C w r = true) && decide (s.canonical = true) && decide (w.toNat.testBit 0 = true) &&
     (match exec (.radioOn i w) s with
      | .next t => decide (t.get F.PWR_DOM_RADIO_ON = 1) && decide (t.pwr = s.pwr)
      | _ => false))) = true := by decide +kernel

/-- States and operands that meet the clauses of `Obligations.PowerCommandsComplete` on radioOn, radioDomainUp, opTarget, opDone, and what comes of
them. -/
theorem witness_PowerCommandsComplete_4 : (
  (
   let s : State := (live.put F.RAD_STATE_STATE 0).put F.PWR_DOM_RADIO_ON 1
   let i : Initiator := .apc
   let w : Word := 0
   let r : RegRow := rowAt (P.PWR) 0x11C
   decide (s.takes i P.PWR 0x11C w r = true) && decide (s.canonical = true) && decide (s.enabled P.PWR = true) &&
    decide (w.toNat.testBit 0 = false) && decide (s.get F.RAD_STATE_STATE = 0) && decide (s.on F.RAD_STATE_MOVING = false) &&
     (match exec (.radioOn i w) s with
      | .next t => decide (t.get F.PWR_DOM_RADIO_ON = 0) && decide (t.pwr.radioUp = false)
      | _ => false)) &&
  (
   let s : State := { live.put F.PWR_DOM_RADIO_ON 1 with pwr := { live.pwr with radioUp := false } }
   decide (s.canonical = true) && decide (s.enabled P.PWR = true) && decide (s.on F.PWR_DOM_RADIO_ON = true) && decide (s.pwr.radioUp = false) &&
    decide (s.pwr.state = PowerState.active) &&
     (match exec .radioDomainUp s with
      | .next t => decide (t.pwr.radioUp = true) && decide (t.get F.PWR_DOM_RADIO_PWR = 1)
      | _ => false)) &&
  (
   let s : State := live.put F.PWR_OP_ACTIVE 1
   let i : Initiator := .apc
   let w : Word := 2
   let n : Nat := 2
   decide (s.brings i P.PWR 0x10C w = true) && decide (s.canonical = true) && decide (s.enabled P.PWR = true) && decide (n = w.toNat % 4) &&
    decide (n ≠ 3) && decide (s.opRefused n = false) && decide (n ≠ s.get F.PWR_OP_ACTIVE) &&
     (match exec (.opTarget i w) s with
      | .next t => decide (t.get F.PWR_OP_TARGET = n) && decide (t.get F.PWR_OP_BUSY = 1) && decide (t.get F.PWR_OP_ACTIVE = s.get F.PWR_OP_ACTIVE)
      | _ => false)) &&
  (
   let s : State := live
   let i : Initiator := .apc
   let w : Word := 0
   let n : Nat := 0
   decide (s.brings i P.PWR 0x10C w = true) && decide (s.canonical = true) && decide (s.enabled P.PWR = true) && decide (n = w.toNat % 4) &&
    decide (n ≠ 3) && decide (s.opRefused n = true) &&
     (match exec (.opTarget i w) s with
      | .next t => decide (t.reg Reg.PWR_OP = s.reg Reg.PWR_OP) && decide ((t.reg (Reg.IRQ_RAW (P.PWR))).toNat.testBit (2) = true) &&
        decide (t.pwr = s.pwr)
      | _ => false)) &&
  (
   let s : State := (live.put F.PWR_OP_BUSY 1).put F.PWR_OP_TARGET 1
   decide (s.canonical = true) && decide (s.on F.PWR_OP_BUSY = true) && decide (s.on F.PWR_CFG_EXT_REG = false) &&
     (match exec .opDone s with
      | .next t => decide (t.get F.PWR_OP_ACTIVE = s.get F.PWR_OP_TARGET) && decide (t.get F.PWR_OP_BUSY = 0) &&
        decide (t.get F.FLC_WAIT_EFFECTIVE = max (s.get F.FLC_WAIT_WS) (waitMin (s.get F.PWR_OP_TARGET) s.sysKhz)) &&
        decide ((s.enabled P.PWR = true → (t.reg (Reg.IRQ_RAW (P.PWR))).toNat.testBit (1) = true))
      | _ => false))) = true := by decide +kernel

/-- States and operands that meet the clauses of `Obligations.ClockAndRegulatorCommandsComplete` on clkCfgWrite, switched, hfxoStable, pllLock, and
what comes of them. -/
theorem witness_ClockAndRegulatorCommandsComplete_1 : (
  (
   let s : State := live
   let i : Initiator := .apc
   let w : Word := 1
   let r : RegRow := rowAt (P.CLK) 0x100
   decide (s.takes i P.CLK 0x100 w r = true) && decide (s.canonical = true) && decide (s.enabled P.CLK = true) &&
     (match exec (.clkCfgWrite i w) s with
      | .next t => decide (t.get F.CLK_CFG_SYS_SRC = w.toNat % 4) && decide (t.get F.CLK_CFG_SYS_DIV = bitsOf w.toNat 4 2) &&
        decide (t.on F.CLK_STAT_SWITCHING = !(w.toNat % 4 == s.get F.CLK_STAT_SRC_ACTIVE && bitsOf w.toNat 4 2 == s.get F.CLK_STAT_DIV_ACTIVE)) &&
        decide (t.get F.CLK_STAT_SRC_ACTIVE = s.get F.CLK_STAT_SRC_ACTIVE)
      | _ => false)) &&
  (
   let s : State := ((live.put F.CLK_STAT_SWITCHING 1).put F.CLK_CFG_SYS_SRC 2).put F.CLK_CFG_SYS_DIV 1
   decide (s.canonical = true) && decide (s.on F.CLK_STAT_SWITCHING = true) && decide (s.srcRuns (s.get F.CLK_CFG_SYS_SRC) = true) &&
     (match exec .switched s with
      | .next t => decide (t.get F.CLK_STAT_SRC_ACTIVE = s.get F.CLK_CFG_SYS_SRC) &&
        decide (t.get F.CLK_STAT_DIV_ACTIVE = s.get F.CLK_CFG_SYS_DIV) && decide (t.get F.CLK_STAT_SWITCHING = 0) &&
        decide (t.get F.CLK_SYS_KHZ_KHZ = srcKhz (s.get F.CLK_CFG_SYS_SRC) / 2 ^ s.get F.CLK_CFG_SYS_DIV)
      | _ => false)) &&
  (
   let s : State := (live.put F.CLK_STAT_HFXO_OK 0).put F.CLK_CFG_HFXO_EN 1
   decide (s.canonical = true) && decide (s.systemOn = true) && decide (s.on F.CLK_STAT_HFXO_OK = false) && decide (s.hfxoWanted = true) &&
     (match exec .hfxoStable s with
      | .next t => decide (t.on F.CLK_STAT_HFXO_OK = true) && decide (t.pwr = { s.pwr with hfxoReq := false })
      | _ => false)) &&
  (
   let s : State := (live.put F.CLK_STAT_PLL_LOCK 0).put F.CLK_CFG_PLL_EN 1
   decide (s.canonical = true) && decide (s.on F.CLK_STAT_HFXO_OK = true) && decide (s.pllHeld = true) && decide (1 ≤ s.get F.PWR_OP_ACTIVE) &&
     (match exec .pllLock s with
      | .next t => decide (t.on F.CLK_STAT_PLL_LOCK = true) && decide (t.mem = s.mem)
      | _ => false))) = true := by decide +kernel

/-- States and operands that meet the clauses of `Obligations.ClockAndRegulatorCommandsComplete` on hfxoFail, lfxoFail, lfxoReturn, hfxoFailsToStart,
and what comes of them. -/
theorem witness_ClockAndRegulatorCommandsComplete_2 : (
  (
   let s : State := live.put F.CLK_CFG_MON_EN 1
   decide (s.canonical = true) && decide (s.on F.CLK_STAT_HFXO_OK = true) && decide (s.on F.CLK_CFG_MON_EN = true) &&
     (match exec .hfxoFail s with
      | .next t => decide (t.on F.CLK_STAT_HFXO_OK = false) && decide (t.on F.CLK_STAT_PLL_LOCK = false) &&
        decide (t.get F.CLK_STAT_SRC_ACTIVE = 0) && decide (t.on F.CLK_STAT_SWITCHING = false) && decide ((s.enabled P.CLK = true →
        (t.reg (Reg.IRQ_RAW (P.CLK))).toNat.testBit (0) = true))
      | _ => false)) &&
  (
   let s : State := live.put F.CLK_CFG_MON_EN 0
   decide (s.canonical = true) && decide (s.on F.CLK_STAT_HFXO_OK = true) && decide (s.on F.CLK_CFG_MON_EN = false) &&
     (match exec .hfxoFail s with
      | .next t => decide (t = s.put F.CLK_STAT_HFXO_OK 0)
      | _ => false)) &&
  (
   let s : State := live.put F.CLK_STAT_LFXO_OK 1
   decide (s.canonical = true) && decide (s.on F.CLK_STAT_LFXO_OK = true) &&
     (match exec .lfxoFail s with
      | .next t => decide (t.on F.CLK_STAT_LFXO_OK = false) && decide (t.get F.CLK_STAT_LF_SRC = 0) && decide (t.get F.TMB_STAT_SLOW_SRC = 0) &&
        decide (t.count = s.count)
      | _ => false)) &&
  (
   let s : State := live.put F.CLK_CFG_LFXO_EN 1
   decide (s.canonical = true) && decide (s.on F.CLK_CFG_LFXO_EN = true) && decide (s.pwr.state ≠ PowerState.dormant) &&
     (match exec .lfxoReturn s with
      | .next t => decide (t.on F.CLK_STAT_LFXO_OK = true) && decide (t.get F.CLK_STAT_LF_SRC = 1) && decide (t.get F.TMB_STAT_SLOW_SRC = 1) &&
        decide (t.count = s.count)
      | _ => false)) &&
  (
   let s : State := { (live.put F.CLK_STAT_HFXO_OK 0).put F.PWR_DOM_RADIO_ON 1 with radio := { live.radio with hfxoWait := true, op := some op0 } }
   let o : RadOp := op0
   decide (s.canonical = true) && decide (s.radio.hfxoWait = true) && decide (s.on F.CLK_STAT_HFXO_OK = false) && decide (s.radio.op = some o) &&
    decide (o.src = .software s.radio.cmdNo) &&
     (match exec .hfxoFailsToStart s with
      | .next t => decide (t.radio.op = none) && decide (t.radio.hfxoWait = false) && decide (t.on F.RAD_STATE_MOVING = false) &&
        decide ((s.on F.PWR_DOM_RADIO_ON = true → t.get F.RAD_CMD_STAT_STATUS = 6))
      | _ => false))) = true := by decide +kernel

/-- States and operands that meet the clauses of `Obligations.ClockAndRegulatorCommandsComplete` on voutCommand, operation, statusByte, and what comes
of them. -/
theorem witness_ClockAndRegulatorCommandsComplete_3 : (
  (
   let s : State := { (live.put F.RRP_CFG_ADDR 0x60).put F.RRP_VOUT01_OP0 0x1234 with pwr := { live.pwr with rrp := .voutDue } }
   let v : Nat := 0x1234
   let m : List Byte := [0xC0, 0x21, 0x34, 0x12]
   decide (s.pwr.rrp = RrpStep.voutDue) && decide (s.enabled P.RRP = true ∨ s.pwr.rrpWake = true) &&
    decide (v = (if s.get F.PWR_OP_TARGET = 0 then s.get F.RRP_VOUT01_OP0 else if s.get F.PWR_OP_TARGET = 1 then s.get F.RRP_VOUT01_OP1 else s.get
    F.RRP_VOUT2_OP2)) && decide (m = [BitVec.ofNat 8 (2 * s.get F.RRP_CFG_ADDR), 0x21, BitVec.ofNat 8 v, BitVec.ofNat 8 (v / 256)]) &&
     (match exec .voutCommand s with
      | .next t => decide (t = { s with pwr := { s.pwr with rrp := .voutSent, smbus := s.pwr.smbus ++ [m ++ [pec m]] } })
      | _ => false)) &&
  (
   let s : State := { live.put F.RRP_CFG_ADDR 0x60 with pwr := { live.pwr with rrp := .onDue } }
   let m : List Byte := [0xC0, 1, 0x80]
   decide (s.pwr.rrp = RrpStep.onDue) && decide (s.enabled P.RRP = true ∨ s.pwr.rrpWake = true) &&
    decide (m = [BitVec.ofNat 8 (2 * s.get F.RRP_CFG_ADDR), 0x01, 0x80]) &&
     (match exec (.operation true) s with
      | .next t => decide (t = { s with pwr := { s.pwr with rrp := .onSent, smbus := s.pwr.smbus ++ [m ++ [pec m]] } })
      | _ => false)) &&
  (
   let s : State := { live with pwr := { live.pwr with rrp := .offDue, offAddr := 0xC0 } }
   let m : List Byte := [0xC0, 1, 0]
   decide (s.pwr.rrp = RrpStep.offDue) && decide (m = [s.pwr.offAddr, 0x01, 0x00]) &&
     (match exec (.operation false) s with
      | .next t => decide (t = { s with pwr := { s.pwr with rrp := .none, smbus := s.pwr.smbus ++ [m ++ [pec m]] } })
      | _ => false)) &&
  (
   let s : State := { live with pwr := { live.pwr with rrp := .voutSent } }
   decide (s.canonical = true) && decide (s.pwr.rrp = RrpStep.voutSent ∨ s.pwr.rrp = RrpStep.onSent) && decide (s.pwr.rrpNak = false) &&
     (match exec (.statusByte .nak) s with
      | .next t => decide (t.get F.RRP_STAT_RESULT = 1) &&
        decide (t.pwr =
        { s.pwr with rrpNak := true, smbus := s.pwr.smbus ++ [[BitVec.ofNat 8 (2 * s.get F.RRP_CFG_ADDR), 0x78, BitVec.ofNat 8 (2 * s.get
        F.RRP_CFG_ADDR + 1)]] })
      | _ => false)) &&
  (
   let s : State := { live with pwr := { live.pwr with rrp := .voutSent } }
   let b : Byte := 0
   let code : Byte := pec [BitVec.ofNat 8 (2 * s.get F.RRP_CFG_ADDR), 0x78, BitVec.ofNat 8 (2 * s.get F.RRP_CFG_ADDR + 1), b] + 1
   let mv : Nat := 650
   decide (s.canonical = true) && decide (s.pwr.rrp = RrpStep.voutSent ∨ s.pwr.rrp = RrpStep.onSent) && decide (s.pwr.rrpNak = false) &&
    decide (code ≠ pec [BitVec.ofNat 8 (2 * s.get F.RRP_CFG_ADDR), 0x78, BitVec.ofNat 8 (2 * s.get F.RRP_CFG_ADDR + 1), b]) &&
     (match exec (.statusByte (.status b code mv)) s with
      | .next t => decide (t.get F.RRP_STAT_RESULT = 2) && decide (t.get F.RRP_STAT_STATUS_BYTE = s.get F.RRP_STAT_STATUS_BYTE) &&
        decide (t.pwr =
        { s.pwr with rrpNak := true, smbus := s.pwr.smbus ++ [[BitVec.ofNat 8 (2 * s.get F.RRP_CFG_ADDR), 0x78, BitVec.ofNat 8 (2 * s.get
        F.RRP_CFG_ADDR + 1)]] })
      | _ => false))) = true := by decide +kernel

/-- States and operands that meet the clauses of `Obligations.ClockAndRegulatorCommandsComplete` on statusByte, rrpResend, rrpTimeout, and what comes
of them. -/
theorem witness_ClockAndRegulatorCommandsComplete_4 : (
  (
   let s : State := { (live.put F.PWR_OP_BUSY 1).put F.PWR_OP_TARGET 1 with pwr := { live.pwr with rrp := .voutSent } }
   let b : Byte := 1
   let code : Byte := pec [BitVec.ofNat 8 (2 * s.get F.RRP_CFG_ADDR), 0x78, BitVec.ofNat 8 (2 * s.get F.RRP_CFG_ADDR + 1), b]
   let mv : Nat := 728
   let v : Nat := 750
   decide (s.canonical = true) && decide (s.pwr.rrp = RrpStep.voutSent) && decide (s.pwr.rrpNak = false) && decide (s.pwr.rrpWake = false) &&
    decide (code = pec [BitVec.ofNat 8 (2 * s.get F.RRP_CFG_ADDR), 0x78, BitVec.ofNat 8 (2 * s.get F.RRP_CFG_ADDR + 1), b]) &&
    decide (bitsOf b.toNat 1 7 = 0) && decide (v = (if s.get F.PWR_OP_TARGET = 0 then 650 else if s.get F.PWR_OP_TARGET = 1 then 750 else 850)) &&
    decide (97 * v ≤ 100 * mv) && decide (100 * mv ≤ 103 * v) &&
     (match exec (.statusByte (.status b code mv)) s with
      | .next t => decide (t.pwr.rrp = RrpStep.none) && decide (t.get F.RRP_STAT_RESULT = 0) && decide (t.get F.RRP_STAT_STATUS_BYTE = b.toNat) &&
        decide (t.get F.PWR_OP_ACTIVE = s.get F.PWR_OP_TARGET) && decide (t.get F.PWR_OP_BUSY = 0)
      | _ => false)) &&
  (
   let s : State := { live with pwr := { live.pwr with rrp := .voutSent } }
   let b : Byte := 2
   let code : Byte := pec [BitVec.ofNat 8 (2 * s.get F.RRP_CFG_ADDR), 0x78, BitVec.ofNat 8 (2 * s.get F.RRP_CFG_ADDR + 1), b]
   let mv : Nat := 650
   decide (s.canonical = true) && decide (s.pwr.rrp = RrpStep.voutSent ∨ s.pwr.rrp = RrpStep.onSent) && decide (s.pwr.rrpNak = false) &&
    decide (code = pec [BitVec.ofNat 8 (2 * s.get F.RRP_CFG_ADDR), 0x78, BitVec.ofNat 8 (2 * s.get F.RRP_CFG_ADDR + 1), b]) &&
    decide (bitsOf b.toNat 1 5 ≠ 0) &&
     (match exec (.statusByte (.status b code mv)) s with
      | .next t => decide (t.get F.RRP_STAT_RESULT = 4) && decide (t.get F.RRP_STAT_STATUS_BYTE = b.toNat) &&
        decide (t.pwr =
        { s.pwr with smbus := s.pwr.smbus ++ [[BitVec.ofNat 8 (2 * s.get F.RRP_CFG_ADDR), 0x78, BitVec.ofNat 8 (2 * s.get F.RRP_CFG_ADDR + 1)]] })
      | _ => false)) &&
  (
   let s : State := { live with pwr := { live.pwr with rrp := .voutSent, rrpNak := true } }
   decide (s.canonical = true) && decide (s.pwr.rrpNak = true) && decide (s.get F.RRP_COUNTS_RETRIES + 1 < 2 ^ F.RRP_COUNTS_RETRIES.width) &&
     (match exec .rrpResend s with
      | .next t => decide (t.pwr = { s.pwr with rrpNak := false, rrp := (if s.pwr.rrp = RrpStep.onSent then RrpStep.onDue else RrpStep.voutDue) })
        && decide (t.get F.RRP_COUNTS_RETRIES = s.get F.RRP_COUNTS_RETRIES + 1)
      | _ => false)) &&
  (
   let s : State := { live with pwr := { live.pwr with rrp := .voutSent, rrpLeft := 2 } }
   decide (s.canonical = true) && decide (s.pwr.rrp = RrpStep.voutSent ∨ s.pwr.rrp = RrpStep.onSent) && decide (0 < s.pwr.rrpLeft) &&
     (match exec .rrpTimeout s with
      | .next t => decide (t.pwr =
        { s.pwr with rrpNak := false, rrp := (if s.pwr.rrp = RrpStep.onSent then RrpStep.onDue else RrpStep.voutDue), rrpLeft := s.pwr.rrpLeft - 1
        }) && decide (t.get F.RRP_STAT_RESULT = 3)
      | _ => false)) &&
  (
   let s : State := { (live.put F.PWR_OP_BUSY 1).put F.PWR_OP_TARGET 1 with pwr := { live.pwr with rrp := .voutSent } }
   decide (s.canonical = true) && decide (s.pwr.rrp = RrpStep.voutSent ∨ s.pwr.rrp = RrpStep.onSent) && decide (s.pwr.rrpLeft = 0) &&
    decide (s.pwr.rrpDead = false) && decide (s.pwr.rrpWake = false) && decide (s.on F.RRP_CFG_ON_FAIL = false) &&
     (match exec .rrpTimeout s with
      | .next t => decide (t.pwr.rrp = RrpStep.none) && decide (t.get F.RRP_STAT_RESULT = 3) && decide (t.get F.RRP_STAT_HOLDING = 1) &&
        decide (t.get F.PWR_OP_BUSY = 0) && decide (t.get F.PWR_OP_ACTIVE = min (s.get F.PWR_OP_ACTIVE) (s.get F.PWR_OP_TARGET))
      | _ => false))) = true := by decide +kernel

/-- States and operands that meet the clauses of `Obligations.ResetCommandsComplete` on por, bor, pin, and what comes of them. -/
theorem witness_ResetCommandsComplete_1 : (
  (
   let s : State := { live with count := 1000 }
   let rs : Bool := true
   let pos : Nat := 3
   decide (s.canonical = true) &&
     (match exec (.por rs pos) s with
      | .next t => decide (t.boot.cause = 1) && decide (t.reg Reg.SYS_RST_CAUSE = 0x101) && decide (t.get F.PWR_CFG_EXT_REG = boolNat rs) &&
        decide (t.count = 0) && decide (t.sec.otp = s.sec.otp) && decide (t.cores.released.contains .apc = false) &&
        decide (t.cores.released.contains .ntc = false) && decide (t.resetReq = none) && decide (t.boot.started = false) &&
        decide (t.pending = s.pending) && decide ((s.variant = Variant.znl7240 → t.get F.HVL_STAT_POS = pos % 8))
      | _ => false)) &&
  (
   let s : State := { live with count := 1000 }
   let rs : Bool := true
   let pos : Nat := 3
   decide (s.canonical = true) && decide (s.systemOn = true) &&
     (match exec (.bor rs pos) s with
      | .next t => decide (t.boot.cause = 2) && decide (t.reg Reg.SYS_RST_CAUSE = 0x202) && decide (t.get F.PWR_CFG_EXT_REG = boolNat rs) &&
        decide (t.count = 0) && decide (t.sec.otp = s.sec.otp) && decide (t.cores.released.contains .apc = false) &&
        decide (t.cores.released.contains .ntc = false) && decide (t.resetReq = none) && decide (t.boot.started = false) &&
        decide (t.pending = s.pending) && decide ((s.variant = Variant.znl7240 → t.get F.HVL_STAT_POS = pos % 8))
      | _ => false)) &&
  (
   let s : State := { live with pwr := { live.pwr with state := .standby } }
   let rs : Bool := true
   let pos : Nat := 3
   decide (s.systemOn = false) &&
     (match exec (.bor rs pos) s with
      | .next t => decide (t = s)
      | _ => false)) &&
  (
   let s : State := { live with count := 1000 }
   let pos : Nat := 3
   decide (s.canonical = true) && decide (s.flashHolds = false) &&
     (match exec (.pin pos) s with
      | .next t => decide (t.boot.cause = 3) && decide (t.get F.SYS_RST_CAUSE_LAST = 3) &&
        decide (t.get F.SYS_RST_CAUSE_HISTORY = s.get F.SYS_RST_CAUSE_HISTORY ||| 2 ^ (3 - 1)) &&
        decide (t.count = (s.count + 255) / 256 * 256 % countMod) && decide (t.sec.otp = s.sec.otp) &&
        decide (t.cores.released.contains .apc = false) && decide (t.cores.released.contains .ntc = false) && decide (t.resetReq = none) &&
        decide (t.boot.started = false) && decide (t.boot.bootSeal = s.boot.bootSeal) && decide (t.pending = s.pending) &&
        decide ((s.variant = Variant.znl7240 → t.get F.HVL_STAT_POS = pos % 8))
      | _ => false))) = true := by decide +kernel

/-- States and operands that meet the clauses of `Obligations.ResetCommandsComplete` on pin, wdt, updateFallback, and what comes of them. -/
theorem witness_ResetCommandsComplete_2 : (
  (
   let s : State := { live with count := 1000, flash := { live.flash with op := some { flOp0 with op := 2, addr := 0x20000 } } }
   let pos : Nat := 3
   decide (s.flashHolds = true) && decide (s.resetReq = none) &&
     (match exec (.pin pos) s with
      | .next t => decide (t.resetReq = some 3) && decide (t.regs = s.regs) && decide (t.mem = s.mem) && decide (t.flash = s.flash) &&
        decide (t.boot.strap = pos % 8)
      | _ => false)) &&
  (
   let s : State := { live with count := 1000, resetReq := some 4 }
   let pos : Nat := 3
   decide (s.canonical = true) && decide (s.flashHolds = false) && decide (s.resetReq = some 4) &&
     (match exec (.wdt pos) s with
      | .next t => decide (t.boot.cause = 4) && decide (t.get F.SYS_RST_CAUSE_LAST = 4) &&
        decide (t.get F.SYS_RST_CAUSE_HISTORY = s.get F.SYS_RST_CAUSE_HISTORY ||| 2 ^ (4 - 1)) &&
        decide (t.count = (s.count + 255) / 256 * 256 % countMod) && decide (t.sec.otp = s.sec.otp) &&
        decide (t.cores.released.contains .apc = false) && decide (t.cores.released.contains .ntc = false) && decide (t.resetReq = none) &&
        decide (t.boot.started = false) && decide (t.boot.bootSeal = s.boot.bootSeal) && decide (t.pending = s.pending) &&
        decide ((s.variant = Variant.znl7240 → t.get F.HVL_STAT_POS = pos % 8))
      | _ => false)) &&
  (
   let s : State := { live with count := 1000, resetReq := some 4, flash := { live.flash with op := some { flOp0 with op := 2, addr := 0x20000 } } }
   let pos : Nat := 3
   decide (s.flashHolds = true) && decide (s.resetReq = some 4) &&
     (match exec (.wdt pos) s with
      | .next t => decide (t.resetReq = some 4) && decide (t.regs = s.regs) && decide (t.mem = s.mem) && decide (t.flash = s.flash) &&
        decide (t.boot.strap = pos % 8)
      | _ => false)) &&
  (
   let s : State := { live with count := 1000, resetReq := some 6 }
   let pos : Nat := 3
   decide (s.canonical = true) && decide (s.flashHolds = false) && decide (s.resetReq = some 6) &&
     (match exec (.updateFallback pos) s with
      | .next t => decide (t.boot.cause = 6) && decide (t.get F.SYS_RST_CAUSE_LAST = 6) &&
        decide (t.get F.SYS_RST_CAUSE_HISTORY = s.get F.SYS_RST_CAUSE_HISTORY ||| 2 ^ (6 - 1)) &&
        decide (t.count = (s.count + 255) / 256 * 256 % countMod) && decide (t.sec.otp = s.sec.otp) &&
        decide (t.cores.released.contains .apc = false) && decide (t.cores.released.contains .ntc = false) && decide (t.resetReq = none) &&
        decide (t.boot.started = false) && decide (t.boot.bootSeal = s.boot.bootSeal) && decide (t.pending = s.pending) &&
        decide ((s.variant = Variant.znl7240 → t.get F.HVL_STAT_POS = pos % 8))
      | _ => false))) = true := by decide +kernel

/-- States and operands that meet the clauses of `Obligations.ResetCommandsComplete` on softChip, flashSafePointReset, restartApc, restartNtc, and
what comes of them. -/
theorem witness_ResetCommandsComplete_3 : (
  (
   let s : State := { live with count := 1000 }
   let i : Initiator := .apc
   let w : Word := 0xA55A0001
   let pos : Nat := 3
   let r : RegRow := rowAt (P.SYS) 0x10C
   decide (s.takes i P.SYS 0x10C (withBits w 0 1 1) r = true) && decide (s.canonical = true) && decide (s.canonical = true) &&
    decide (s.flashHolds = false) && decide (s.flt.resetReq = false) && decide (s.enabled P.SYS = true) &&
    decide (bitsOf (withBits w 0 1 1).toNat 16 16 = 0xA55A) &&
     (match exec (.softChip i ⟨w, pos⟩) s with
      | .next t => decide (t.boot.cause = 5) && decide (t.get F.SYS_RST_CAUSE_LAST = 5) &&
        decide (t.get F.SYS_RST_CAUSE_HISTORY = s.get F.SYS_RST_CAUSE_HISTORY ||| 2 ^ (5 - 1)) &&
        decide (t.count = (s.count + 255) / 256 * 256 % countMod) && decide (t.sec.otp = s.sec.otp) &&
        decide (t.cores.released.contains .apc = false) && decide (t.cores.released.contains .ntc = false) && decide (t.resetReq = none) &&
        decide (t.boot.started = false) && decide (t.boot.bootSeal = s.boot.bootSeal) && decide (t.pending = s.pending) &&
        decide ((s.variant = Variant.znl7240 → t.get F.HVL_STAT_POS = pos % 8))
      | _ => false)) &&
  (
   let s : State := { live with count := 1000, flt := { live.flt with resetReq := true } }
   let i : Initiator := .apc
   let w : Word := 0
   let pos : Nat := 3
   decide (s.canonical = true) && decide (s.flashHolds = false) && decide (s.flt.resetReq = true) &&
     (match exec (.softChip i ⟨w, pos⟩) s with
      | .next t => decide (t.boot.cause = 5) && decide (t.get F.SYS_RST_CAUSE_LAST = 5) &&
        decide (t.get F.SYS_RST_CAUSE_HISTORY = s.get F.SYS_RST_CAUSE_HISTORY ||| 2 ^ (5 - 1)) &&
        decide (t.count = (s.count + 255) / 256 * 256 % countMod) && decide (t.sec.otp = s.sec.otp) &&
        decide (t.cores.released.contains .apc = false) && decide (t.cores.released.contains .ntc = false) && decide (t.resetReq = none) &&
        decide (t.boot.started = false) && decide (t.boot.bootSeal = s.boot.bootSeal) && decide (t.pending = s.pending) &&
        decide ((s.variant = Variant.znl7240 → t.get F.HVL_STAT_POS = pos % 8))
      | _ => false)) &&
  (
   let s : State := { live with count := 1000, resetReq := some 3, flash := { live.flash with op := some { flOp0 with op := 2, addr := 0x20000 } } }
   let n : Nat := 2
   let c : Nat := 3
   let o : FlashOp := { flOp0 with op := 2, addr := 0x20000 }
   decide (s.canonical = true) && decide (s.resetReq = some c) && decide (3 ≤ c) && decide (c ≤ 6) && decide (s.flashHolds = true) &&
    decide (s.flash.op = some o) && decide (o.op = 2) && decide (o.addr < 0x400000) &&
     (match exec (.flashSafePointReset n) s with
      | .next t => decide (t.boot.cause = c) && decide (t.get F.SYS_RST_CAUSE_LAST = c) && decide (t.get F.FLC_ILOG_VALID = 1) &&
        decide (t.get F.FLC_ILOG_SECTOR = sectorOf o.addr % 64) && decide (t.flash.op = none) && decide (t.resetReq = none)
      | _ => false)) &&
  (
   let s : State := live
   let i : Initiator := .apc
   let w : Word := 0xA55A0000
   let r : RegRow := rowAt (P.SYS) 0x10C
   decide (s.takes i P.SYS 0x10C (withBits (withBits w 0 1 0) 1 1 1) r = true) && decide (s.canonical = true) && decide (s.canonical = true) &&
    decide (s.enabled P.SYS = true) && decide (bitsOf (withBits (withBits w 0 1 0) 1 1 1).toNat 16 16 = 0xA55A) &&
    decide (s.boot.restarts.contains Core.apc = false) &&
     (match exec (.restartApc i w) s with
      | .next t => decide (t.cores.released.contains Core.apc = false) && decide (t.boot.restarts.contains Core.apc = true) &&
        decide (t.get F.PWR_DOM_APC_PWR = 0) && decide (t.mem = s.mem) && decide (t.count = s.count)
      | _ => false)) &&
  (
   let s : State := live
   let i : Initiator := .apc
   let w : Word := 0xA55A0000
   let r : RegRow := rowAt (P.SYS) 0x10C
   decide (s.takes i P.SYS 0x10C (withBits (withBits w 0 1 0) 2 1 1) r = true) && decide (s.canonical = true) && decide (s.canonical = true) &&
    decide (s.enabled P.SYS = true) && decide (bitsOf (withBits (withBits w 0 1 0) 2 1 1).toNat 16 16 = 0xA55A) &&
    decide (s.boot.restarts.contains Core.ntc = false) &&
     (match exec (.restartNtc i w) s with
      | .next t => decide (t.cores.released.contains Core.ntc = false) && decide (t.boot.restarts.contains Core.ntc = true) &&
        decide (t.get F.PWR_DOM_NTC_PWR = 0) && decide (t.mem = s.mem) && decide (t.count = s.count)
      | _ => false))) = true := by decide +kernel

/-- States and operands that meet the clauses of `Obligations.BootCommandsComplete` on bootStart, coreRelease, and what comes of them (of bootStart,
coreRelease the hypotheses only: a free value or a long computation stands in the result). -/
theorem witness_BootCommandsComplete_1 : (
  (
   let s : State := live
   let u : Nat := 5
   let v : Nat := 6
   let w : Nat := 5
   decide (s.canonical = true) && decide (s.boot.started = false) && decide (s.pwr.state = PowerState.active) &&
    decide (s.pwr.rrp = RrpStep.none) && decide (s.resetReq = none)) &&
  (
   let s : State := { live with cores := { live.cores with released := [] }, boot := { live.boot with started := true, passed := [1, 2] } }
   let k : Core := .apc
   decide (s.canonical = true) && decide (k ≠ Core.scc) && decide (s.boot.restarts.contains k = false) && decide (s.boot.started = true) &&
    decide (s.boot.done = false) && decide (s.upd.fall = none) && decide (s.bootOwes k = true) && decide (k = Core.ntc →
    s.bootOwes .apc = false) && decide (s.updSt ≠ 4) &&
     (match exec (.coreRelease k) s with
      | .next t => decide (t.cores.released.contains k = true) && decide (t.get (domField k) = 1) && decide (t.mem = s.mem) &&
        decide (t.boot = { s.boot with restarts := s.boot.restarts.filter (· != k) })
      | _ => false)) &&
  (
   let s : State := let s0 : State := { live with cores := { live.cores with released := [] }, boot := { live.boot with restarts := [.apc], bootSeal := some [1] } }; (s0.setMemNat 0x10000 144 0x1000100000002000064498e9400000000000000005a4e4449).setMemNat 0x20000 192 0xbb37ec28ab2a63253b7a31ecf73c6d6f28d26cd575c89e97d59d71f7ff0847370000001000000000000000015a4e4931
   let k : Core := .apc
   decide (s.canonical = true) && decide (k ≠ Core.scc) && decide (s.boot.restarts.contains k = true) && decide (s.updSt ≠ 4) &&
    decide ((s.checkHome (coreType k) s.boot.bootSeal.isNone true).1 = true)) &&
  (
   let s : State := { live with cores := { live.cores with released := [] }, boot := { live.boot with restarts := [.apc] } }
   let k : Core := .apc
   decide (s.canonical = true) && decide (k ≠ Core.scc) && decide (s.boot.restarts.contains k = true) &&
    decide ((s.checkHome (coreType k) s.boot.bootSeal.isNone true).1 = false) &&
     (match exec (.coreRelease k) s with
      | .next t => decide (t.boot.restarts.contains k = false) && decide (t.cores = s.cores) &&
        decide ((t.get F.SYS_BOOT_STAT_IMG_FAIL).testBit (coreType k - 1) = true) && decide (t.mem = s.mem)
      | _ => false))) = true := by decide +kernel

/-- States and operands that meet the clauses of `Obligations.BootCommandsComplete` on bootDone, engineCodeLoad, engReady, engineReload, and what
comes of them (of bootDone, engineCodeLoad the hypotheses only: a free value or a long computation stands in the result). -/
theorem witness_BootCommandsComplete_2 : (
  (
   let s : State := { live with boot := { live.boot with started := true } }
   decide (s.canonical = true) && decide (s.boot.started = true) && decide (s.boot.done = false) && decide (s.bootOwes .apc = false) &&
    decide (s.bootOwes .ntc = false)) &&
  (
   let s : State := let s0 : State := { live with eng := List.replicate 8 eng0, boot := { live.boot with bootSeal := some [1] } }; (s0.setMemNat 0x10000 144 0x10001000000020000000000000000000000000000000000000000000000000000000000000000000000000000000000000000000000000000abdb625900000000000000005a4e4449).setMemNat 0x20000 192 0xbb37ec28ab2a63253b7a31ecf73c6d6f28d26cd575c89e97d59d71f7ff0847370000001000000000000000045a4e4931
   let e : Engine := .nibA
   decide (s.canonical = true) && decide (s.eng.length = 8) && decide (s.pwr.radioUp = true) &&
    decide ((s.loadGroup (engIx e)).contains (engIx e) = true) && decide ((s.checkHome (engineType (engIx e)) s.boot.bootSeal.isNone true).1 = true)) &&
  (
   let s : State := { live with eng := List.replicate 8 eng0 }
   let e : Engine := .nibA
   decide (s.canonical = true) && decide (s.eng.length = 8) && decide (s.pwr.radioUp = true) &&
    decide ((s.loadGroup (engIx e)).contains (engIx e) = true) &&
    decide ((s.checkHome (engineType (engIx e)) s.boot.bootSeal.isNone true).1 = false) &&
     (match exec (.engineCodeLoad e) s with
      | .next t => decide ((∀ n ∈ s.loadGroup (engIx e), (t.engine n).run = false ∧ (t.engine n).failed = true)) &&
        decide ((t.get F.SYS_BOOT_STAT_IMG_FAIL).testBit (engineType (engIx e) - 1) = true)
      | _ => false)) &&
  (
   let s : State := live
   decide (s.canonical = true) && decide (s.pwr.radioUp = true) &&
    decide (((List.range 8).all fun e => !engPresent s.variant e || (s.engine e).run) = true) &&
     (match exec .engReady s with
      | .next t => decide (t.get F.SYS_BOOT_STAT_ENG_READY = 1) && decide (t.eng = s.eng) && decide (t.mem = s.mem)
      | _ => false)) &&
  (
   let s : State := { live with eng := live.eng.set 6 { eng0 with run := true, reload := true } }
   let e : Engine := .rcp
   decide (s.engHeld (engIx e) = true) && decide (s.eng.length = 8) &&
     (match exec (.engineReload e) s with
      | .next t => decide (t.engHeld (engIx e) = false) && decide ((t.engine (engIx e)).run = (s.engine (engIx e)).run) && decide (t.count = s.count)
      | _ => false))) = true := by decide +kernel

/-- States and operands that meet the clauses of `Obligations.UpdateCommandsComplete` on stage, stageDone, and what comes of them (of stageDone the
hypotheses only: a free value or a long computation stands in the result). -/
theorem witness_UpdateCommandsComplete_1 : (
  (
   let s : State := live
   let i : Initiator := .apc
   let w : Word := 0
   let r : RegRow := rowAt (P.UPD) 0x104
   decide (s.takes i P.UPD 0x104 (withBits w 0 4 1) r = true) && decide (s.canonical = true) && decide (s.canonical = true) &&
    decide (s.enabled P.UPD = true) && decide (s.updSt = 0 ∨ s.updSt = 2) &&
     (match exec (.stage i w) s with
      | .next t => decide (t.get F.UPD_STAT_STATE = 1) && decide (t.get F.UPD_PARTS_IN_SET = 0) && decide (t.get F.UPD_STAT_ERR_TYPE = 0) &&
        decide (t.get F.UPD_STAT_BUSY = 1) && decide (t.get F.FLC_PROT1_FLACON = 1)
      | _ => false)) &&
  (
   let s : State := { live.put F.UPD_STAT_STATE 6 with upd := { upd0 with badCopy := 2 } }
   let i : Initiator := .apc
   let w : Word := 0
   let r : RegRow := rowAt (P.UPD) 0x104
   decide (s.takes i P.UPD 0x104 (withBits w 0 4 1) r = true) && decide (s.canonical = true) && decide (s.canonical = true) &&
    decide (s.enabled P.UPD = true) && decide (4 ≤ s.updSt) && decide (s.updSt ≤ 6) && decide (s.upd.badCopy ≠ 0) &&
     (match exec (.stage i w) s with
      | .next t => decide (t.updSt = s.updSt) && decide (t.get F.UPD_STAT_RESULT = 13) &&
        decide ((t.reg (Reg.IRQ_RAW (P.UPD))).toNat.testBit (0) = true) && decide (t.upd = s.upd) && decide (t.mem = s.mem)
      | _ => false)) &&
  (
   let s : State := live.put F.UPD_STAT_STATE 4
   let i : Initiator := .apc
   let w : Word := 0
   let r : RegRow := rowAt (P.UPD) 0x104
   decide (s.takes i P.UPD 0x104 (withBits w 0 4 1) r = true) && decide (s.canonical = true) && decide (s.canonical = true) &&
    decide (s.enabled P.UPD = true) && decide (s.updSt ≠ 0) && decide (s.updSt ≠ 2) && decide (s.updSt < 4 ∨ 6 < s.updSt ∨ s.upd.badCopy = 0) &&
     (match exec (.stage i w) s with
      | .next t => decide (t.updSt = s.updSt) && decide (t.get F.UPD_STAT_RESULT = 7) &&
        decide ((t.reg (Reg.IRQ_RAW (P.UPD))).toNat.testBit (0) = true) && decide (t.upd = s.upd) && decide (t.mem = s.mem)
      | _ => false)) &&
  (
   let s : State := stagingSigned
   decide (s.canonical = true) && decide (s.updSt = 1) && decide (s.stageChecks.1 = UpdRes.ok))) = true := by decide +kernel

/-- States and operands that meet the clauses of `Obligations.UpdateCommandsComplete` on stageDone, activate, and what comes of them. -/
theorem witness_UpdateCommandsComplete_2 : (
  (
   let s : State := live.put F.UPD_STAT_STATE 1
   decide (s.canonical = true) && decide (s.updSt = 1) && decide (s.stageChecks.1 ≠ UpdRes.ok) &&
     (match exec .stageDone s with
      | .next t => decide (t.get F.UPD_STAT_STATE = 0) && decide (t.get F.UPD_STAT_RESULT = s.stageChecks.1.code) &&
        decide (t.get F.UPD_STAT_ERR_TYPE = s.stageChecks.2.1 % 2 ^ F.UPD_STAT_ERR_TYPE.width) && decide (t.get F.FLC_PROT1_FLACON = 0)
      | _ => false)) &&
  (
   let s : State := (live.put F.UPD_STAT_STATE 2).put F.UPD_AT_LO_AT_LO 1000000
   let i : Initiator := .apc
   let w : Word := 0
   let r : RegRow := rowAt (P.UPD) 0x104
   decide (s.takes i P.UPD 0x104 (withBits w 0 4 2) r = true) && decide (s.canonical = true) && decide (s.canonical = true) &&
    decide (s.enabled P.UPD = true) && decide (s.updSt = 2) && decide (s.hvlSlave = false) &&
    decide (notBefore s.updAt (addTicks s.count (usTicks 10000)) = true) &&
     (match exec (.activate i w) s with
      | .next t => decide (t.get F.UPD_STAT_STATE = 3) && decide (t.get F.UPD_STAT_RESULT = 0) && decide (t.upd.byMaster = false) &&
        decide ((t.reg (Reg.IRQ_RAW (P.UPD))).toNat.testBit (0) = true)
      | _ => false)) &&
  (
   let s : State := { live.put F.UPD_STAT_STATE 2 with count := 1000 }
   let i : Initiator := .apc
   let w : Word := 0
   let r : RegRow := rowAt (P.UPD) 0x104
   decide (s.takes i P.UPD 0x104 (withBits w 0 4 2) r = true) && decide (s.canonical = true) && decide (s.canonical = true) &&
    decide (s.enabled P.UPD = true) && decide (s.updSt = 2) && decide (s.hvlSlave = false) &&
    decide (notBefore s.updAt (addTicks s.count (usTicks 10000)) = false) &&
     (match exec (.activate i w) s with
      | .next t => decide (t.get F.UPD_STAT_STATE = 2) && decide (t.get F.UPD_STAT_RESULT = 8) &&
        decide ((t.reg (Reg.IRQ_RAW (P.UPD))).toNat.testBit (0) = true) && decide (t.upd = s.upd)
      | _ => false)) &&
  (
   let s : State := live
   let i : Initiator := .apc
   let w : Word := 0
   let r : RegRow := rowAt (P.UPD) 0x104
   decide (s.takes i P.UPD 0x104 (withBits w 0 4 2) r = true) && decide (s.canonical = true) && decide (s.canonical = true) &&
    decide (s.enabled P.UPD = true) && decide (s.updSt ≠ 2 ∨ s.hvlSlave = true) &&
     (match exec (.activate i w) s with
      | .next t => decide (t.updSt = s.updSt) && decide (t.get F.UPD_STAT_RESULT = 7) && decide (t.upd = s.upd)
      | _ => false))) = true := by decide +kernel

/-- States and operands that meet the clauses of `Obligations.UpdateCommandsComplete` on abandon, revert, recopy, and what comes of them. -/
theorem witness_UpdateCommandsComplete_3 : (
  (
   let s : State := live.put F.UPD_STAT_STATE 3
   let i : Initiator := .apc
   let w : Word := 0
   let r : RegRow := rowAt (P.UPD) 0x104
   decide (s.takes i P.UPD 0x104 (withBits w 0 4 3) r = true) && decide (s.canonical = true) && decide (s.canonical = true) &&
    decide (s.enabled P.UPD = true) && decide (s.updSt = 1 ∨ s.updSt = 2 ∨ s.updSt = 3) &&
     (match exec (.abandon i w) s with
      | .next t => decide (t.get F.UPD_STAT_STATE = 0) && decide (t.get F.UPD_STAT_RESULT = 14) && decide (t.get F.UPD_PARTS_IN_SET = 0) &&
        decide (t.get F.FLC_PROT1_FLACON = 0) && decide ((t.reg (Reg.IRQ_RAW (P.UPD))).toNat.testBit (0) = true)
      | _ => false)) &&
  (
   let s : State := live.put F.UPD_STAT_STATE 4
   let i : Initiator := .apc
   let w : Word := 0
   let r : RegRow := rowAt (P.UPD) 0x104
   decide (s.takes i P.UPD 0x104 (withBits w 0 4 4) r = true) && decide (s.canonical = true) && decide (s.canonical = true) &&
    decide (s.enabled P.UPD = true) && decide (s.updSt = 4 ∨ s.updSt = 5) && decide (s.hvlSlave = false) && decide (s.upd.fall = none) &&
     (match exec (.revert i w) s with
      | .next t => decide (t.upd.fall = some 5) && decide (t.get F.UPD_STAT_RESULT = 0) && decide (t.updSt = s.updSt)
      | _ => false)) &&
  (
   let s : State := live
   let i : Initiator := .apc
   let w : Word := 0
   let r : RegRow := rowAt (P.UPD) 0x104
   decide (s.takes i P.UPD 0x104 (withBits w 0 4 4) r = true) && decide (s.canonical = true) && decide (s.canonical = true) &&
    decide (s.enabled P.UPD = true) && decide (s.updSt ≠ 4 ∧ s.updSt ≠ 5 ∨ s.hvlSlave = true) &&
     (match exec (.revert i w) s with
      | .next t => decide (t.get F.UPD_STAT_RESULT = 7) && decide (t.updSt = s.updSt) && decide (t.upd = s.upd)
      | _ => false)) &&
  (
   let s : State := { (live.put F.UPD_STAT_STATE 6).put F.UPD_STAT_COPY_FAIL 1 with upd := { upd0 with badCopy := 2 } }
   let i : Initiator := .apc
   let w : Word := 0
   let r : RegRow := rowAt (P.UPD) 0x104
   decide (s.takes i P.UPD 0x104 (withBits w 0 4 5) r = true) && decide (s.canonical = true) && decide (s.canonical = true) &&
    decide (s.enabled P.UPD = true) && decide (4 ≤ s.updSt) && decide (s.updSt ≤ 6) && decide (s.upd.badCopy ≠ 0) &&
     (match exec (.recopy i w) s with
      | .next t => decide (t.upd = { s.upd with badCopy := 0, copy := none }) && decide (t.get F.UPD_STAT_COPY_FAIL = 0) &&
        decide (t.get F.UPD_STAT_RESULT = 0)
      | _ => false))) = true := by decide +kernel

/-- States and operands that meet the clauses of `Obligations.UpdateCommandsComplete` on recopy, confirm, handover, handoverWait, and what comes of
them. -/
theorem witness_UpdateCommandsComplete_4 : (
  (
   let s : State := live
   let i : Initiator := .apc
   let w : Word := 0
   let r : RegRow := rowAt (P.UPD) 0x104
   decide (s.takes i P.UPD 0x104 (withBits w 0 4 5) r = true) && decide (s.canonical = true) && decide (s.canonical = true) &&
    decide (s.enabled P.UPD = true) && decide (s.updSt < 4 ∨ 6 < s.updSt ∨ s.upd.badCopy = 0) &&
     (match exec (.recopy i w) s with
      | .next t => decide (t.get F.UPD_STAT_RESULT = 7) && decide (t.upd = s.upd) && decide (t.updSt = s.updSt)
      | _ => false)) &&
  (
   let s : State := ((live.put F.UPD_STAT_STATE 4).put F.UPD_PARTS_IN_SET 3).put F.UPD_PARTS_EFFECT 1
   let i : Initiator := .apc
   let w : Word := 0xC0DE0000
   let k : Core := .apc
   let r : RegRow := rowAt (P.UPD) 0x118
   decide (s.takes i P.UPD 0x118 w r = true) && decide (s.canonical = true) && decide (s.canonical = true) && decide (s.enabled P.UPD = true) &&
    decide (coreOf i = some k) && decide (bitsOf w.toNat 16 16 = 0xC0DE) && decide (s.updSt = 4) &&
    decide (s.get F.UPD_PARTS_IN_SET &&& coreBit k ≠ 0) && decide (s.get F.UPD_PARTS_EFFECT &&& coreBit k ≠ 0) &&
    decide (s.get F.UPD_PARTS_CONFIRMED &&& coreBit k = 0) &&
    decide (s.get F.UPD_PARTS_IN_SET &&& 0xFB &&& (255 - (s.get F.UPD_PARTS_CONFIRMED ||| coreBit k)) ≠ 0) &&
     (match exec (.confirm i w) s with
      | .next t => decide (t.get F.UPD_STAT_STATE = 4) && decide (t.get F.UPD_PARTS_CONFIRMED = s.get F.UPD_PARTS_CONFIRMED ||| coreBit k) &&
        decide (t.get F.UPD_PARTS_EFFECT = s.get F.UPD_PARTS_EFFECT)
      | _ => false)) &&
  (
   let s : State := ((live.put F.UPD_STAT_STATE 4).put F.UPD_PARTS_IN_SET 1).put F.UPD_PARTS_EFFECT 1
   let i : Initiator := .apc
   let w : Word := 0xC0DE0000
   let k : Core := .apc
   let r : RegRow := rowAt (P.UPD) 0x118
   decide (s.takes i P.UPD 0x118 w r = true) && decide (s.canonical = true) && decide (s.canonical = true) && decide (s.enabled P.UPD = true) &&
    decide (coreOf i = some k) && decide (bitsOf w.toNat 16 16 = 0xC0DE) && decide (s.updSt = 4) &&
    decide (s.get F.UPD_PARTS_IN_SET &&& coreBit k ≠ 0) && decide (s.get F.UPD_PARTS_EFFECT &&& coreBit k ≠ 0) &&
    decide (s.get F.UPD_PARTS_CONFIRMED &&& coreBit k = 0) &&
    decide (s.get F.UPD_PARTS_IN_SET &&& (255 - (s.get F.UPD_PARTS_CONFIRMED ||| coreBit k)) = 0) &&
    decide (s.get F.UPD_PARTS_IN_SET &&& (255 - s.get F.UPD_PARTS_EFFECT) = 0) &&
     (match exec (.confirm i w) s with
      | .next t => decide ((s.get F.UPD_PARTS_IN_SET &&& (255 - s.upd.copied % 256) ≠ 0 → t.updSt = 6)) &&
        decide ((s.get F.UPD_PARTS_IN_SET &&& (255 - s.upd.copied % 256) = 0 → t.updSt = 0)) && decide (t.upd.window = none) &&
        decide ((t.reg (Reg.IRQ_RAW (P.UPD))).toNat.testBit (4) = true)
      | _ => false)) &&
  (
   let s : State := { live.put F.UPD_STAT_STATE 4 with upd := { upd0 with hands := [.apc, .ntc] } }
   let i : Initiator := .apc
   let w : Word := 0xC0DE0000
   let k : Core := .apc
   let r : RegRow := rowAt (P.UPD) 0x11C
   decide (s.takes i P.UPD 0x11C w r = true) && decide (s.canonical = true) && decide (s.canonical = true) && decide (s.enabled P.UPD = true) &&
    decide (coreOf i = some k) && decide (k ≠ Core.scc) && decide (bitsOf w.toNat 16 16 = 0xC0DE) && decide (s.updSt = 4) &&
    decide (s.upd.hands.contains k = true) && decide (s.boot.restarts.contains k = false) &&
     (match exec (.handover i w) s with
      | .next t => decide (t.upd.hands.contains k = false) && decide (t.cores.released.contains k = false) &&
        decide (t.boot.restarts.contains k = true) && decide (t.get (domField k) = 0)
      | _ => false)) &&
  (
   let s : State := { live.put F.UPD_STAT_STATE 4 with upd := { upd0 with hands := [.apc, .ntc], committed := 0 }, count := 2 ^ 34 }
   let k : Core := .ntc
   decide (s.canonical = true) && decide (k ≠ Core.scc) && decide (s.updSt = 4) && decide (s.upd.hands.contains k = true) &&
    decide (s.boot.restarts.contains k = false) &&
    decide (s.elapsed s.upd.committed (max 1 (s.get F.UPD_CFG_HANDOVER_WAIT) * 10 * 8388608 / 1000) = true) &&
     (match exec (.handoverWait k) s with
      | .next t => decide (t.upd.hands.contains k = false) && decide (t.cores.released.contains k = false) &&
        decide (t.boot.restarts.contains k = true) && decide (t.get (domField k) = 0) && decide (t.get F.UPD_STAT_FORCED = 1)
      | _ => false))) = true := by decide +kernel

/-- States and operands that meet the clauses of `Obligations.UpdateEventsComplete` on commitSuspend, commitPoint, and what comes of them. -/
theorem witness_UpdateEventsComplete_1 : (
  (
   let s : State := { (live.put F.UPD_STAT_STATE 3).put F.UPD_AT_LO_AT_LO 5000 with count := 4900, flash := { live.flash with op := some { flOp0 with op := 2, addr := 0x20000 } } }
   let o : FlashOp := { flOp0 with op := 2, addr := 0x20000 }
   decide (s.canonical = true) && decide (s.updSt = 3) && decide (s.flash.op = some o) && decide (o.result = none) &&
    decide (s.enabled P.FLC = true) && decide (s.on F.FLC_STAT_AUTO_SUSP = false) && decide (s.flash.wantSw = false) &&
    decide (s.on F.FLC_STAT_SW_SUSP = false) && decide (notBefore s.count (subTicks s.updAt (usTicks 100)) = true) &&
     (match exec .commitSuspend s with
      | .next t => decide (t.upd = { s.upd with held := true }) && decide (t.flash.wantSw = true) && decide (t.flash.op = s.flash.op) &&
        decide (t.updSt = 3)
      | _ => false)) &&
  (
   let s : State := { ((live.put F.UPD_STAT_STATE 3).put F.UPD_AT_LO_AT_LO 5000).put F.UPD_PARTS_IN_SET 0x11 with count := 5000 }
   decide (s.canonical = true) && decide (s.pwr.state = PowerState.active) && decide (s.updSt = 3) && decide (notBefore s.count s.updAt = true) &&
    decide (s.upd.byMaster = true → s.hvlSlave = true) && decide ((s.get F.UPD_PARTS_IN_SET).testBit 0 = true) &&
     (match exec .commitPoint s with
      | .next t => decide (t.get F.UPD_STAT_STATE = 4) && decide (t.upd.committed = s.count) && decide (t.upd.hands.contains .apc = true) &&
        decide (t.get F.UPD_PARTS_REMAPPED = s.get F.UPD_PARTS_IN_SET &&& 0xF8) && decide (t.upd.starts = 0) &&
        decide (t.get F.UPD_PARTS_CONFIRMED &&& 7 = 0) && decide ((s.enabled P.UPD = true →
        (t.reg (Reg.IRQ_RAW (P.UPD))).toNat.testBit (1) = true ∧ (t.reg (Reg.IRQ_RAW (P.UPD))).toNat.testBit (2) = true))
      | _ => false)) &&
  (
   let s : State := { live.put F.UPD_STAT_STATE 3 with upd := { upd0 with byMaster := true } }
   decide (s.canonical = true) && decide (s.pwr.state = PowerState.active) && decide (s.updSt = 3) && decide (notBefore s.count s.updAt = true) &&
    decide (s.upd.byMaster = true) && decide (s.hvlSlave = false) &&
     (match exec .commitPoint s with
      | .next t => decide (t.get F.UPD_STAT_STATE = 2) && decide (t.get F.UPD_STAT_RESULT = 9) && decide ((s.enabled P.UPD = true →
        (t.reg (Reg.IRQ_RAW (P.UPD))).toNat.testBit (0) = true))
      | _ => false))) = true := by decide +kernel

/-- States and operands that meet the clauses of `Obligations.UpdateEventsComplete` on homeCopySector, engineChangeover, engineAccept, and what comes
of them (of homeCopySector the hypotheses only: a free value or a long computation stands in the result). -/
theorem witness_UpdateEventsComplete_2 : (
  (
   let s : State := { (live.put F.UPD_STAT_STATE 4).put F.UPD_PARTS_REMAPPED 1 with upd := { upd0 with copy := some (1, 0) } }
   let y : Nat := 1
   let k : Nat := 0
   decide (s.canonical = true) && decide (4 ≤ s.updSt) && decide (s.updSt ≤ 6) && decide (s.upd.fall = none) && decide (s.copyNext = some (y, k)) &&
     (match exec (.homeCopySector false) s with
      | .next t => decide (t.upd.copy = none) && decide (t.upd.badCopy = s.upd.badCopy ||| 2 ^ (y - 1)) &&
        decide (t.get F.UPD_STAT_COPY_FAIL = 1) && decide (t.get F.UPD_STAT_RESULT = 11) && decide ((s.enabled P.UPD = true →
        (t.reg (Reg.IRQ_RAW (P.UPD))).toNat.testBit (5) = true))
      | _ => false)) &&
  (
   let s : State := let s0 : State := { (live.put F.UPD_STAT_STATE 4).put F.UPD_PARTS_REMAPPED 8 with upd := { upd0 with copy := some (4, 0) } }; (s0.setMemNat 0x10000 144 0x10002000000020000000000000000000000000000000000000000000000000000000000000000000000000000000000000000000000000000597a47f500000000000000005a4e4449).setMemNat 0x210000 64 0x1800000010000000000040000000000000003000100015a4e424d
   let y : Nat := 4
   let k : Nat := 0
   let off : Nat := 0x10000
   let len : Nat := 0x18000
   let n : Nat := 9
   decide (s.canonical = true) && decide (4 ≤ s.updSt) && decide (s.updSt ≤ 6) && decide (s.upd.fall = none) &&
    decide (s.copyNext = some (y, k)) && decide (s.stagedPart y = some (off, len)) &&
    decide ((extentSectors (s.dirWord y 0) (s.dirWord y 1))[k]? = some n) && decide (s.isRetired (uSector n) = false) &&
    decide (k + 1 < (extentSectors (s.dirWord y 0) (s.dirWord y 1)).length)) &&
  (
   let s : State := (live.put F.UPD_STAT_STATE 4).put F.UPD_PARTS_IN_SET 0xF8
   let e : Engine := .nibA
   let block : List Byte := [1, 2]
   decide (s.canonical = true) && decide (s.updSt = 4) && decide (s.upd.fall = none) && decide (s.pwr.radioUp = true) &&
    decide (engPresent s.variant (engIx e) = true) && decide (s.engRuns (engIx e) = true) &&
    decide ((s.get F.UPD_PARTS_IN_SET).testBit (engineType (engIx e) - 1) = true) &&
    decide ((s.get F.UPD_PARTS_EFFECT).testBit (engineType (engIx e) - 1) = false) && decide (s.upd.accepted.contains (engIx e) = false) &&
    decide (s.upd.swaps.contains (engIx e) = false) && decide (s.engQuiet (engIx e) = true) &&
     (match exec (.engineChangeover e block) s with
      | .next t => decide ((t.engine (engIx e)).half = 1 - (s.engine (engIx e)).half) &&
        decide ((t.engine (engIx e)).img = (s.engine (engIx e)).shadow) && decide (t.upd.swaps = s.upd.swaps ++ [(engIx e)]) &&
        decide ((t.engine (engIx e)).block = block.take 256) && decide (t.regs = s.regs)
      | _ => false)) &&
  (
   let s : State := { (live.put F.UPD_STAT_STATE 4).put F.UPD_PARTS_IN_SET 0xF9 with upd := { upd0 with swaps := [0] } }
   let e : Engine := .nibA
   decide (s.canonical = true) && decide (s.eng.length = 8) && decide (s.upd.swaps.contains (engIx e) = true) && decide (s.upd.fall = none) &&
     (match exec (.engineAccept e false) s with
      | .next t => decide (t.upd.fall = some 2) && decide ((t.engine (engIx e)).half = 1 - (s.engine (engIx e)).half) &&
        decide (t.upd.swaps = s.upd.swaps.filter (· != (engIx e))) && decide (t.regs = s.regs)
      | _ => false))) = true := by decide +kernel

/-- States and operands that meet the clauses of `Obligations.UpdateEventsComplete` on engineAccept, quietLimit, confirmWindow, fallback, and what
comes of them. -/
theorem witness_UpdateEventsComplete_3 : (
  (
   let s : State := { (live.put F.UPD_STAT_STATE 4).put F.UPD_PARTS_IN_SET 0xF9 with upd := { upd0 with swaps := [0] } }
   let e : Engine := .nibA
   decide (s.canonical = true) && decide (s.upd.swaps.contains (engIx e) = true) &&
    decide (((typeEngines s.variant (engineType (engIx e))).all (s.upd.accepted ++ [(engIx e)]).contains) = true) && decide (s.updSt = 4) &&
    decide (s.get F.UPD_PARTS_IN_SET &&& 3 &&& (255 - s.get F.UPD_PARTS_CONFIRMED) ≠ 0) &&
     (match exec (.engineAccept e true) s with
      | .next t => decide (t.upd.accepted = s.upd.accepted ++ [(engIx e)]) &&
        decide ((t.get F.UPD_PARTS_EFFECT).testBit (engineType (engIx e) - 1) = true) &&
        decide ((t.get F.UPD_PARTS_CONFIRMED).testBit (engineType (engIx e) - 1) = true) &&
        decide (t.upd.swaps = s.upd.swaps.filter (· != (engIx e))) && decide (t.get F.UPD_STAT_STATE = 4)
      | _ => false)) &&
  (
   let s : State := { (live.put F.UPD_STAT_STATE 4).put F.UPD_PARTS_IN_SET 1 with count := 2 ^ 34 }
   decide (s.updSt = 4) && decide (s.get F.UPD_PARTS_IN_SET &&& 0xFB &&& (255 - s.get F.UPD_PARTS_EFFECT) ≠ 0) &&
    decide (s.elapsed s.upd.committed (max 1 (s.get F.UPD_CFG_QUIET_LIMIT) * 8388608) = true) && decide (s.upd.fall = none) &&
     (match exec .quietLimit s with
      | .next t => decide (t = { s with upd := { s.upd with fall := some 6 } })
      | _ => false)) &&
  (
   let s : State := { live.put F.UPD_STAT_STATE 4 with upd := { upd0 with window := some 0 }, count := 2 ^ 35 }
   let w : Nat := 0
   decide (s.upd.window = some w) && decide (s.updSt = 4) && decide (s.elapsed w (max 1 (s.get F.UPD_CFG_CONFIRM_WINDOW) * 8388608) = true) &&
    decide (s.upd.fall = none) &&
     (match exec .confirmWindow s with
      | .next t => decide (t = { s with upd := { s.upd with fall := some 1 } })
      | _ => false)) &&
  (
   let s : State := { live.put F.UPD_STAT_STATE 4 with upd := { upd0 with fall := some 5 } }
   let c : Nat := 5
   decide (s.canonical = true) && decide (s.upd.fall = some c) && decide (c < 8) && decide (s.updSt = 4 ∨ s.updSt = 5) &&
    decide (s.resetReq = none) &&
     (match exec .fallback s with
      | .next t => decide (t.get F.UPD_STAT_STATE = 7) && decide (t.get F.UPD_STAT_CAUSE = c) && decide (t.resetReq = some 6) &&
        decide (t.upd.fall = none) && decide (t.upd.window = none)
      | _ => false))) = true := by decide +kernel

/-- States and operands that meet the clauses of `Obligations.FaultCommandsComplete` on fault, and what comes of them. -/
theorem witness_FaultCommandsComplete_1 : (
  (
   let s : State := live
   let src : FaultSource := ⟨0x0102, .transient, 0⟩
   decide (s.canonical = true) && decide (unitPresent s.variant src.unit = true) && decide (faultLegal src.unit src.cls = true) &&
    decide (faultPlace src = true) && decide (s.enabled P.FLT = true) &&
     (match exec (.fault src) s with
      | .next t => decide ((t.reg (Reg.IRQ_RAW (P.FLT))).toNat.testBit (0) = true)
      | _ => false)) &&
  (
   let s : State := live.put F.FLT_CFG_CFG_RESET 1
   let src : FaultSource := ⟨0x2005, .config, 0⟩
   decide (s.canonical = true) && decide (unitPresent s.variant src.unit = true) && decide (faultLegal src.unit src.cls = true) &&
    decide (faultPlace src = true) && decide (s.enabled P.FLT = true) && decide (src.cls = .config) && decide (s.underTest src.unit = false) &&
    decide (s.flt.log.length < 16) && decide (src.unit < 0x10000) &&
     (match exec (.fault src) s with
      | .next t => decide ((t.reg (Reg.IRQ_RAW (P.FLT))).toNat.testBit (3) = true) &&
        decide ((t.flt.log.map (fun (x : LogRec) => x.word)) = s.flt.log.map (fun (x : LogRec) => x.word) ++ [0xA0000000 + src.unit]) &&
        decide ((s.on F.FLT_CFG_CFG_RESET = true → t.flt.resetReq = true))
      | _ => false)) &&
  (
   let s : State := live
   let src : FaultSource := ⟨0x0103, .permanent, 0⟩
   decide (s.canonical = true) && decide (unitPresent s.variant src.unit = true) && decide (faultLegal src.unit src.cls = true) &&
    decide (faultPlace src = true) && decide (s.enabled P.FLT = true) && decide (src.cls = .permanent) && decide (retirable src.unit = true) &&
    decide (s.isRetired src.unit = false) && decide (0 < s.get F.FLT_CFG_RETIRE_N) &&
     (match exec (.fault src) s with
      | .next t => decide ((t.reg (Reg.IRQ_RAW (P.FLT))).toNat.testBit (1) = true) && decide (t.isRetired src.unit = true) &&
        decide (t.get F.FLT_STAT_RECORD_BUSY = 1)
      | _ => false)) &&
  (
   let s : State := withEnt { entry0 with words := rxWords, state := .armed, start := 5000 } live
   let src : FaultSource := ⟨0x1400, .memory, 0⟩
   decide (s.canonical = true) && decide (src.unit = 0x1400) && decide (src.cls = .memory) && decide (src.addr < s.timeline.length) &&
    decide ((s.ent src.addr).state = EntryState.armed ∨ (s.ent src.addr).state = EntryState.wait) &&
     (match exec (.fault src) s with
      | .next t => decide ((t.ent src.addr).state = EntryState.empty) && decide ((t.ent src.addr).last = 6) && decide (t.mem = s.mem)
      | _ => false))) = true := by decide +kernel

/-- States and operands that meet the clauses of `Obligations.FaultCommandsComplete` on retry, recordRewriteDone, and what comes of them. -/
theorem witness_FaultCommandsComplete_2 : (
  (
   let s : State := let s0 := chained 1 2; { s0 with hvl := { s0.hvl with dn := { s0.hvl.dn with kept := [keptPacket 1 true] } } }
   let u : Nat := 0x0402
   let ok : Bool := true
   let p : HvlPort := .dn
   let k : SentPacket := keptPacket 1 true
   decide (s.canonical = true) && decide (u / 256 = 4 ∨ u / 256 = 0x17) && decide (p = (if u % 256 / 2 = 0 then HvlPort.up else HvlPort.dn)) &&
    decide ((s.hop p).up = true) && decide ((s.hop p).training = false) &&
    decide ((s.hop p).kept.find? (fun (x : SentPacket) => x.waiting) = some k) &&
     (match exec (.retry u ok) s with
      | .next t => decide ((t.hop p).kept = (s.hop p).kept.map (fun (x : SentPacket) => if x.seq == k.seq then { x with waiting := false } else x))
        && decide ((t.hop p).line = (s.hop p).line ++ packetChars k.pkt true) &&
        decide (t.get F.HVL_ERRS_RETRIES = min (s.get F.HVL_ERRS_RETRIES + 1) (2 ^ F.HVL_ERRS_RETRIES.width - 1))
      | _ => false)) &&
  (
   let s : State := { live with eng := live.eng.set 6 { eng0 with run := true, reload := true } }
   let u : Nat := 0x1402
   let n : Nat := 6
   decide (s.canonical = true) && decide (s.eng.length = 8) && decide (u / 256 = 0x14) && decide (u % 256 < 4) &&
    decide (n = (if u % 256 < 2 then u % 256 else u % 256 + 4)) && decide (s.engHeld n = true) &&
     (match exec (.retry u true) s with
      | .next t => decide (t.engHeld n = false) && decide ((t.engine n).run = (s.engine n).run) && decide (t.count = s.count)
      | _ => false)) &&
  (
   let s : State := (live.put F.SYN_SCS_STAT_LOCK 0).setRetry uRx 2
   decide (s.canonical = true) && decide (2 ≤ s.retryOf uRx) &&
     (match exec (.retry uRx true) s with
      | .next t => decide (t.get F.SYN_SCS_STAT_LOCK = 1) && decide (t.get F.SYN_SCS_STAT_SETTLING = 0) && decide (t.retryOf uRx = 0)
      | _ => false)) &&
  (
   let s : State := (liveDesc.put F.SYN_CRS_STAT_LOCK 0).setRetry uCrs 2
   decide (s.canonical = true) && decide (2 ≤ s.retryOf uCrs) &&
     (match exec (.retry uCrs true) s with
      | .next t => decide (t.get F.SYN_CRS_STAT_LOCK = 1) && decide (t.get F.SYN_CRS_STAT_SETTLING = 0)
      | _ => false)) &&
  (
   let s : State := { live with flt := { live.flt with running := true, cmdWaits := 1 } }
   let fails : List Nat := []
   decide (s.canonical = true) && decide (s.flt.running = true) &&
     (match exec (.recordRewriteDone fails) s with
      | .next t => decide (t.flt.seq = (s.flt.seq + 1) % 2 ^ 32) && decide (t.flt.running = s.flt.waiting) && decide (t.flt.waiting = false) &&
        decide (t.get F.FLT_STAT_RECORD_BUSY = boolNat s.flt.waiting) &&
        decide (t.get F.FLT_STAT_SEQ = (s.flt.seq + 1) % 2 ^ F.FLT_STAT_SEQ.width) && decide (t.pageSt P.FLT = boolNat s.flt.waiting) &&
        decide ((s.flt.cmdWaits = 1 → fails = [] → t.reg Reg.FLT_RES = 0)) && decide ((s.flt.cmdWaits = 1 → 1 ∈ fails → t.reg Reg.FLT_RES = 5))
      | _ => false))) = true := by decide +kernel

/-- States and operands that meet the clauses of `Obligations.FaultCommandsComplete` on retire, unretire, and what comes of them. -/
theorem witness_FaultCommandsComplete_3 : (
  (
   let s : State := live
   let i : Initiator := .apc
   let u : Nat := 0x0103
   let r : RegRow := rowAt (P.FLT) 0x114
   decide (s.takes i P.FLT 0x114 (BitVec.ofNat 32 (0x10000000 + u % 0x10000)) r = true) && decide (s.canonical = true) &&
    decide (s.canonical = true) && decide (s.enabled P.FLT = true) && decide (u < 0x10000) && decide (s.on F.FLT_RES_BUSY = false) &&
    decide (unitPresent s.variant u = true) && decide (retirable u = true) && decide (s.isRetired u = false) &&
     (match exec (.retire i u) s with
      | .next t => decide (t.isRetired u = true) && decide (t.reg Reg.FLT_RES = 0) &&
        decide ((t.reg (Reg.IRQ_RAW (P.FLT))).toNat.testBit (1) = true) && decide (t.get F.FLT_STAT_RECORD_BUSY = 1) &&
        decide (t.passed.contains u = false)
      | _ => false)) &&
  (
   let s : State := live
   let i : Initiator := .apc
   let u : Nat := 0x0505
   let r : RegRow := rowAt (P.FLT) 0x114
   decide (s.takes i P.FLT 0x114 (BitVec.ofNat 32 (0x10000000 + u % 0x10000)) r = true) && decide (s.canonical = true) &&
    decide (s.canonical = true) && decide (s.enabled P.FLT = true) && decide (u < 0x10000) && decide (s.on F.FLT_RES_BUSY = false) &&
    decide (unitPresent s.variant u = true) && decide (retirable u = false) &&
     (match exec (.retire i u) s with
      | .next t => decide (t.reg Reg.FLT_RES = 2) && decide (t.flt = s.flt)
      | _ => false)) &&
  (
   let s : State := live
   let i : Initiator := .apc
   let u : Nat := 0x0703
   let r : RegRow := rowAt (P.FLT) 0x114
   decide (s.takes i P.FLT 0x114 (BitVec.ofNat 32 (0x10000000 + u % 0x10000)) r = true) && decide (s.canonical = true) &&
    decide (s.canonical = true) && decide (s.enabled P.FLT = true) && decide (u < 0x10000) && decide (s.on F.FLT_RES_BUSY = false) &&
    decide (unitPresent s.variant u = false) &&
     (match exec (.retire i u) s with
      | .next t => decide (t.reg Reg.FLT_RES = 1) && decide (t.flt = s.flt)
      | _ => false)) &&
  (
   let s : State := live.put F.FLT_RES_BUSY 1
   let i : Initiator := .apc
   let u : Nat := 0x0103
   let r : RegRow := rowAt (P.FLT) 0x114
   decide (s.takes i P.FLT 0x114 (BitVec.ofNat 32 (0x10000000 + u % 0x10000)) r = true) && decide (s.canonical = true) &&
    decide (s.canonical = true) && decide (s.enabled P.FLT = true) && decide (u < 0x10000) && decide (s.on F.FLT_RES_BUSY = true) &&
     (match exec (.retire i u) s with
      | .next t => decide (t.get F.FLT_RES_RESULT = 4) && decide (t.flt = s.flt)
      | _ => false)) &&
  (
   let s : State := { live.put F.FLT_RET_UNITS_SLICES 8 with passed := [0x0103] }
   let i : Initiator := .apc
   let u : Nat := 0x0103
   let r : RegRow := rowAt (P.FLT) 0x114
   decide (s.takes i P.FLT 0x114 (BitVec.ofNat 32 (0x20000000 + u % 0x10000)) r = true) && decide (s.canonical = true) &&
    decide (s.canonical = true) && decide (s.enabled P.FLT = true) && decide (u < 0x10000) && decide (s.on F.FLT_RES_BUSY = false) &&
    decide (unitPresent s.variant u = true) && decide (s.passed.contains u = true) &&
     (match exec (.unretire i u) s with
      | .next t => decide (t.isRetired u = false) && decide (t.reg Reg.FLT_RES = 0) && decide (t.faultTimes u = []) &&
        decide (t.get F.FLT_STAT_RECORD_BUSY = 1)
      | _ => false))) = true := by decide +kernel

/-- States and operands that meet the clauses of `Obligations.FaultCommandsComplete` on unretire, clearCount, rewrite, log, and what comes of them. -/
theorem witness_FaultCommandsComplete_4 : (
  (
   let s : State := live
   let i : Initiator := .apc
   let u : Nat := 0x0103
   let r : RegRow := rowAt (P.FLT) 0x114
   decide (s.takes i P.FLT 0x114 (BitVec.ofNat 32 (0x20000000 + u % 0x10000)) r = true) && decide (s.canonical = true) &&
    decide (s.canonical = true) && decide (s.enabled P.FLT = true) && decide (u < 0x10000) && decide (s.on F.FLT_RES_BUSY = false) &&
    decide (unitPresent s.variant u = true) && decide (s.passed.contains u = false) &&
     (match exec (.unretire i u) s with
      | .next t => decide (t.reg Reg.FLT_RES = 3) && decide (t.flt = s.flt)
      | _ => false)) &&
  (
   let s : State := live.setFaultTimes 0x0103 [0]
   let i : Initiator := .apc
   let u : Nat := 0x0103
   let r : RegRow := rowAt (P.FLT) 0x114
   decide (s.takes i P.FLT 0x114 (BitVec.ofNat 32 (0x30000000 + u % 0x10000)) r = true) && decide (s.canonical = true) &&
    decide (s.canonical = true) && decide (s.enabled P.FLT = true) && decide (u < 0x10000) && decide (s.on F.FLT_RES_BUSY = false) &&
    decide (unitPresent s.variant u = true) &&
     (match exec (.clearCount i u) s with
      | .next t => decide (t.faultTimes u = []) && decide (t.reg Reg.FLT_RES = 0)
      | _ => false)) &&
  (
   let s : State := live
   let i : Initiator := .apc
   let u : Nat := 0x0103
   let r : RegRow := rowAt (P.FLT) 0x114
   decide (s.takes i P.FLT 0x114 (BitVec.ofNat 32 (0x40000000 + u % 0x10000)) r = true) && decide (s.canonical = true) &&
    decide (s.canonical = true) && decide (s.enabled P.FLT = true) && decide (u < 0x10000) && decide (s.on F.FLT_RES_BUSY = false) &&
     (match exec (.rewrite i u) s with
      | .next t => decide (t.reg Reg.FLT_RES = 0x80000000) && decide (t.flt.running = true) && decide (t.get F.FLT_STAT_RECORD_BUSY = 1) &&
        decide (t.flt.waiting = (s.flt.running || s.flt.waiting))
      | _ => false)) &&
  (
   let s : State := { live with flt := { live.flt with log := [⟨0x80010103, 77⟩, ⟨0x80010104, 78⟩] } }
   let i : Initiator := .apc
   let r : LogRec := ⟨0x80010103, 77⟩
   let q : List LogRec := [⟨0x80010104, 78⟩]
   decide (s.offers i P.FLT 0x10C = true) && decide (s.canonical = true) && decide (s.enabled P.FLT = true) && decide (s.flt.log = r :: q) &&
     (match exec (.log i) s with
      | .next t => decide (t.out.get i = (⟨BitVec.ofNat 32 r.word, .ok⟩ : BusAnswer)) && decide (t.flt = { s.flt with log := q }) &&
        decide (t.regI i Reg.FLT_LOG_T = BitVec.ofNat 32 r.time) && decide (t.regs = s.regs)
      | _ => false)) &&
  (
   let s : State := live
   let i : Initiator := .apc
   decide (s.offers i P.FLT 0x10C = true) && decide (s.canonical = true) && decide (s.enabled P.FLT = true) && decide (s.flt.log = []) &&
     (match exec (.log i) s with
      | .next t => decide (t.out.get i = (⟨0, .ok⟩ : BusAnswer)) && decide (t.flt = s.flt)
      | _ => false))) = true := by decide +kernel

/-- States and operands that meet the clauses of `Obligations.SelfTestCommandsComplete` on test, and what comes of them. -/
theorem witness_SelfTestCommandsComplete_1 : (
  (
   let s : State := live
   let i : Initiator := .apc
   let u : Nat := 0x0703
   let r : RegRow := rowAt (P.BST) 0x100
   decide (s.takes i P.BST 0x100 (BitVec.ofNat 32 (0x10000000 + u % 0x10000)) r = true) && decide (s.canonical = true) &&
    decide (s.canonical = true) && decide (s.enabled P.BST = true) && decide (u < 0x10000) && decide (s.bst = none) &&
    decide (testable s.variant u = false) &&
     (match exec (.test i u) s with
      | .next t => decide (t.get F.BST_RES_RESULT = 3) && decide (t.bst = none) && decide ((t.reg (Reg.IRQ_RAW (P.BST))).toNat.testBit (0) = true)
      | _ => false)) &&
  (
   let s : State := live
   let i : Initiator := .apc
   let u : Nat := 0x0510
   let e : BstEnd := .notRetired
   let r : RegRow := rowAt (P.BST) 0x100
   decide (s.takes i P.BST 0x100 (BitVec.ofNat 32 (0x10000000 + u % 0x10000)) r = true) && decide (s.canonical = true) &&
    decide (s.canonical = true) && decide (s.enabled P.BST = true) && decide (u < 0x10000) && decide (s.bst = none) &&
    decide (testable s.variant u = true) && decide (s.isoRefused u = some e) &&
     (match exec (.test i u) s with
      | .next t => decide (t.get F.BST_RES_RESULT = e.code) && decide (t.bst = none) &&
        decide ((t.reg (Reg.IRQ_RAW (P.BST))).toNat.testBit (0) = true)
      | _ => false)) &&
  (
   let s : State := live
   let i : Initiator := .apc
   let u : Nat := 0x0103
   let r : RegRow := rowAt (P.BST) 0x100
   decide (s.takes i P.BST 0x100 (BitVec.ofNat 32 (0x10000000 + u % 0x10000)) r = true) && decide (s.canonical = true) &&
    decide (s.canonical = true) && decide (s.enabled P.BST = true) && decide (u < 0x10000) && decide (s.bst = none) &&
    decide (testable s.variant u = true) && decide (s.isoRefused u = none) && decide (s.isoReady u = true) && decide ((u / 256 = 1 →
    (s.slot (.slice (u % 256))).desc = none) ∧ (u / 256 = 2 → (s.slot (.lane (u % 256))).desc = none)) &&
     (match exec (.test i u) s with
      | .next t => decide (t.bst = some (⟨u, true⟩ : BstRun)) && decide (t.reg Reg.BST_RES = BitVec.ofNat 32 (0x80000000 + u)) &&
        decide (t.pageSt P.BST = 2)
      | _ => false)) &&
  (
   let s : State := live.put F.RAD_STATE_STATE 3
   let i : Initiator := .apc
   let u : Nat := 0x0300
   let r : RegRow := rowAt (P.BST) 0x100
   decide (s.takes i P.BST 0x100 (BitVec.ofNat 32 (0x10000000 + u % 0x10000)) r = true) && decide (s.canonical = true) &&
    decide (s.canonical = true) && decide (s.enabled P.BST = true) && decide (u < 0x10000) && decide (s.bst = none) &&
    decide (testable s.variant u = true) && decide (s.isoRefused u = none) && decide (s.isoReady u = false) &&
     (match exec (.test i u) s with
      | .next t => decide (t.bst = some (⟨u, false⟩ : BstRun)) && decide (t.reg Reg.BST_RES = BitVec.ofNat 32 (0xC0000000 + u)) &&
        decide (t.pageSt P.BST = 1)
      | _ => false)) &&
  (
   let s : State := { live with bst := some ⟨0x0104, true⟩ }
   let i : Initiator := .apc
   let u : Nat := 0x0103
   let r : RegRow := rowAt (P.BST) 0x100
   decide (s.takes i P.BST 0x100 (BitVec.ofNat 32 (0x10000000 + u % 0x10000)) r = true) && decide (s.canonical = true) &&
    decide (s.canonical = true) && decide (s.enabled P.BST = true) && decide (u < 0x10000) && decide (s.bst ≠ none) &&
     (match exec (.test i u) s with
      | .next t => decide (t.get F.BST_RES_RESULT = 6) && decide (t.bst = s.bst)
      | _ => false))) = true := by decide +kernel

/-- States and operands that meet the clauses of `Obligations.SelfTestCommandsComplete` on bstAbort, testIsolation, testDone, and what comes of them.
-/
theorem witness_SelfTestCommandsComplete_2 : (
  (
   let s : State := { live with bst := some ⟨0x0104, true⟩ }
   let i : Initiator := .apc
   let b : BstRun := ⟨0x0104, true⟩
   let r : RegRow := rowAt (P.BST) 0x100
   decide (s.takes i P.BST 0x100 0x20000000 r = true) && decide (s.canonical = true) && decide (s.canonical = true) &&
    decide (s.enabled P.BST = true) && decide (s.bst = some b) &&
     (match exec (.bstAbort i) s with
      | .next t => decide (t.bst = none) && decide (t.get F.BST_RES_RESULT = 5) &&
        decide ((t.reg (Reg.IRQ_RAW (P.BST))).toNat.testBit (0) = true) && decide (t.passed = s.passed)
      | _ => false)) &&
  (
   let s : State := { live with bst := some ⟨0x0300, false⟩ }
   let b : BstRun := ⟨0x0300, false⟩
   decide (s.canonical = true) && decide (s.bst = some b) && decide (b.running = false) && decide (s.isoRefused b.unit = none) &&
    decide (s.isoReady b.unit = true) &&
     (match exec .testIsolation s with
      | .next t => decide (t.bst = some (⟨b.unit, true⟩ : BstRun)) &&
        decide (t.reg Reg.BST_RES = BitVec.ofNat 32 (0x80000000 + b.unit % 65536)) && decide (t.pageSt P.BST = 2)
      | _ => false)) &&
  (
   let s : State := { live with bst := some ⟨0x0510, false⟩ }
   let b : BstRun := ⟨0x0510, false⟩
   let r : BstEnd := .notRetired
   decide (s.canonical = true) && decide (s.bst = some b) && decide (b.running = false) && decide (s.isoRefused b.unit = some r) &&
     (match exec .testIsolation s with
      | .next t => decide (t.bst = none) && decide (t.get F.BST_RES_RESULT = r.code) && decide (t.pageSt P.BST = 0)
      | _ => false)) &&
  (
   let s : State := { live.put F.RAD_STATE_STATE 3 with bst := some ⟨0x0300, false⟩ }
   let b : BstRun := ⟨0x0300, false⟩
   decide (s.canonical = true) && decide (s.bst = some b) && decide (b.running = false) && decide (s.isoRefused b.unit = none) &&
    decide (s.isoReady b.unit = false) &&
     (match exec .testIsolation s with
      | .next t => decide (t = s)
      | _ => false)) &&
  (
   let s : State := { live with bst := some ⟨0x0103, true⟩ }
   let b : BstRun := ⟨0x0103, true⟩
   let sig : Word := 0x1234
   decide (s.canonical = true) && decide (s.bst = some b) && decide (b.running = true) &&
    decide (b.unit / 256 = 1 ∨ b.unit / 256 = 2 ∨ b.unit / 256 = 0x12 ∨ b.unit / 256 = 0x14) &&
     (match exec (.testDone (.logic sig true)) s with
      | .next t => decide (t.bst = none) && decide (t.get F.BST_RES_RESULT = 0) && decide (t.pageSt P.BST = 0) &&
        decide ((retirable b.unit = true → t.passed.contains b.unit = true)) && decide ((s.enabled P.BST = true →
        (t.reg (Reg.IRQ_RAW (P.BST))).toNat.testBit (0) = true)) && decide (t.reg Reg.BST_SIG = sig)
      | _ => false))) = true := by decide +kernel

/-- States and operands that meet the clauses of `Obligations.SelfTestCommandsComplete` on testDone, and what comes of them. -/
theorem witness_SelfTestCommandsComplete_3 : (
  (
   let s : State := { live with bst := some ⟨0x0103, true⟩ }
   let b : BstRun := ⟨0x0103, true⟩
   let sig : Word := 0x1234
   decide (s.canonical = true) && decide (s.bst = some b) && decide (b.running = true) && decide (unitPresent s.variant b.unit = true) &&
    decide (b.unit / 256 = 1 ∨ b.unit / 256 = 2 ∨ b.unit / 256 = 0x12 ∨ b.unit / 256 = 0x14) &&
     (match exec (.testDone (.logic sig false)) s with
      | .next t => decide (t.bst = none) && decide (t.get F.BST_RES_RESULT = 1) && decide ((s.enabled P.BST = true →
        (t.reg (Reg.IRQ_RAW (P.BST))).toNat.testBit (1) = true)) && decide ((s.enabled P.FLT = true →
        (t.reg (Reg.IRQ_RAW (P.FLT))).toNat.testBit (0) = true)) && decide ((retirable b.unit = true → 0 < s.get F.FLT_CFG_RETIRE_N →
        t.isRetired b.unit = true)) && decide (t.reg Reg.BST_SIG = sig)
      | _ => false)) &&
  (
   let s : State := { live with bst := some ⟨0x0301, true⟩ }
   let b : BstRun := ⟨0x0301, true⟩
   decide (s.canonical = true) && decide (s.bst = some b) && decide (b.running = true) && decide (b.unit / 256 = 3 ∨ b.unit / 256 = 4) &&
     (match exec (.testDone (.analogue true)) s with
      | .next t => decide (t.bst = none) && decide (t.get F.BST_RES_RESULT = 0) && decide (t.pageSt P.BST = 0) &&
        decide ((retirable b.unit = true → t.passed.contains b.unit = true)) && decide ((s.enabled P.BST = true →
        (t.reg (Reg.IRQ_RAW (P.BST))).toNat.testBit (0) = true))
      | _ => false)) &&
  (
   let s : State := { live with bst := some ⟨0x0301, true⟩ }
   let b : BstRun := ⟨0x0301, true⟩
   decide (s.canonical = true) && decide (s.bst = some b) && decide (b.running = true) && decide (unitPresent s.variant b.unit = true) &&
    decide (b.unit / 256 = 3 ∨ b.unit / 256 = 4) &&
     (match exec (.testDone (.analogue false)) s with
      | .next t => decide (t.bst = none) && decide (t.get F.BST_RES_RESULT = 1) && decide ((s.enabled P.BST = true →
        (t.reg (Reg.IRQ_RAW (P.BST))).toNat.testBit (1) = true)) && decide ((s.enabled P.FLT = true →
        (t.reg (Reg.IRQ_RAW (P.FLT))).toNat.testBit (0) = true)) && decide ((retirable b.unit = true → 0 < s.get F.FLT_CFG_RETIRE_N →
        t.isRetired b.unit = true))
      | _ => false)) &&
  (
   let s : State := { live with bst := some ⟨0x0510, true⟩ }
   let b : BstRun := ⟨0x0510, true⟩
   decide (s.canonical = true) && decide (s.bst = some b) && decide (b.running = true) && decide (b.unit / 256 = 5 ∨ b.unit / 256 = 6) &&
     (match exec (.testDone (.memory none)) s with
      | .next t => decide (t.bst = none) && decide (t.get F.BST_RES_RESULT = 0) && decide (t.pageSt P.BST = 0) &&
        decide ((retirable b.unit = true → t.passed.contains b.unit = true)) && decide ((s.enabled P.BST = true →
        (t.reg (Reg.IRQ_RAW (P.BST))).toNat.testBit (0) = true))
      | _ => false)) &&
  (
   let s : State := { live with bst := some ⟨0x0510, true⟩ }
   let b : BstRun := ⟨0x0510, true⟩
   let x : Word := 0x20010
   decide (s.canonical = true) && decide (s.bst = some b) && decide (b.running = true) && decide (unitPresent s.variant b.unit = true) &&
    decide (b.unit / 256 = 5 ∨ b.unit / 256 = 6) &&
     (match exec (.testDone (.memory (some x))) s with
      | .next t => decide (t.bst = none) && decide (t.get F.BST_RES_RESULT = 1) && decide ((s.enabled P.BST = true →
        (t.reg (Reg.IRQ_RAW (P.BST))).toNat.testBit (1) = true)) && decide ((s.enabled P.FLT = true →
        (t.reg (Reg.IRQ_RAW (P.FLT))).toNat.testBit (0) = true)) && decide ((retirable b.unit = true → 0 < s.get F.FLT_CFG_RETIRE_N →
        t.isRetired b.unit = true)) && decide (t.reg Reg.BST_FAIL_ADDR = x)
      | _ => false))) = true := by decide +kernel

/-- States and operands that meet the clauses of `Obligations.RecorderCommandsComplete` on recArm, freeze, mark, and what comes of them (of recArm,
freeze, mark the hypotheses only: a free value or a long computation stands in the result). -/
theorem witness_RecorderCommandsComplete_1 : (
  (
   let s : State := { live.setPageSt P.REC 3 with recorder := { live.recorder with nrec := 3, wr := 3 } }
   let via : Via := .bus .apc
   let r : RegRow := rowAt P.REC 0x108
   decide (s.reachesTask via P.REC 0x108 1 r 1 = true) && decide (s.canonical = true) && decide (s.enabled P.REC = true) &&
    decide (s.pageSt P.REC ≠ 1) && decide (s.pageSt P.REC ≠ 4)) &&
  (
   let s : State := { live.setPageSt P.REC 1 with recorder := { live.recorder with nrec := 3, wr := 3 } }
   let via : Via := .bus .apc
   let r : RegRow := rowAt P.REC 0x108
   decide (s.reachesTask via P.REC 0x108 2 r 0 = true) && decide (s.canonical = true) && decide (s.enabled P.REC = true) &&
    decide (s.pageSt P.REC = 1)) &&
  (
   let s : State := { live.setPageSt P.REC 3 with recorder := { live.recorder with nrec := 3, wr := 3 } }
   let via : Via := .bus .apc
   let r : RegRow := rowAt P.REC 0x108
   decide (s.reachesTask via P.REC 0x108 2 r 0 = true) && decide (s.canonical = true) && decide (s.pageSt P.REC ≠ 1) &&
     (match exec (.freeze via) s with
      | .next t => decide (t.recorder = s.recorder) && decide (t.pageSt P.REC = s.pageSt P.REC)
      | _ => false)) &&
  (
   let s : State := { live.setPageSt P.REC 1 with recorder := { live.recorder with nrec := 3, wr := 3 } }
   let i : Initiator := .apc
   let w : Word := 0x1234
   let r : RegRow := rowAt (P.REC) 0x110
   decide (s.takes i P.REC 0x110 w r = true) && decide (s.canonical = true) && decide (s.canonical = true) && decide (s.enabled P.REC = true) &&
    decide (s.recActive = true) && decide (s.recorder.wr < s.ctrlSlots))) = true := by decide +kernel

/-- States and operands that meet the clauses of `Obligations.RecorderCommandsComplete` on postEnd, frozen, replay, and what comes of them (of frozen
the hypotheses only: a free value or a long computation stands in the result). -/
theorem witness_RecorderCommandsComplete_2 : (
  (
   let s : State := { live.setPageSt P.REC 2 with recorder := { live.recorder with nrec := 3, wr := 3 } }
   decide (s.pageSt P.REC = 2) &&
     (match exec .postEnd s with
      | .next t => decide (t = { s with recorder := { s.recorder with scrub := true } })
      | _ => false)) &&
  (
   let s : State := { live.setPageSt P.REC 2 with recorder := { live.recorder with nrec := 3, wr := 3, scrub := true } }
   let samples : List Byte := [1, 2]
   let bad : List Nat := []
   decide (s.canonical = true) && decide (s.pageSt P.REC = 2) && decide (s.recorder.scrub = true)) &&
  (
   let s : State := { live.setPageSt P.REC 3 with recorder := { live.recorder with nrec := 3, wr := 3 } }
   let i : Initiator := .apc
   let r : RegRow := rowAt (P.REC) 0x108
   decide (s.takes i P.REC 0x108 4 r = true) && decide (s.canonical = true) && decide (s.canonical = true) && decide (s.enabled P.REC = true) &&
    decide (s.replayRefused = 0) &&
     (match exec (.replay i) s with
      | .next t => decide (t.pageSt P.REC = 4) && decide (t.recorder = s.recorder) && decide (t.mem = s.mem)
      | _ => false)) &&
  (
   let s : State := { live.setPageSt P.REC 1 with recorder := { live.recorder with nrec := 3, wr := 3 } }
   let i : Initiator := .apc
   let r : RegRow := rowAt (P.REC) 0x108
   decide (s.takes i P.REC 0x108 4 r = true) && decide (s.canonical = true) && decide (s.canonical = true) && decide (s.enabled P.REC = true) &&
    decide (s.replayRefused ≠ 0) &&
     (match exec (.replay i) s with
      | .next t => decide (t.get F.REC_STAT_REPLAY_RES = s.replayRefused) && decide (t.pageSt P.REC = s.pageSt P.REC) &&
        decide (t.recorder = s.recorder)
      | _ => false))) = true := by decide +kernel

/-- States and operands that meet the clauses of `Obligations.RecorderCommandsComplete` on replayDone, rpq, and what comes of them (of replayDone the
hypotheses only: a free value or a long computation stands in the result). -/
theorem witness_RecorderCommandsComplete_3 : (
  (
   let s : State := { live.setPageSt P.REC 4 with recorder := { live.recorder with nrec := 3, wr := 3 } }
   let frames : List ReplayFrame := [⟨[1, 2, 3], [4], 2⟩]
   decide (s.canonical = true) && decide (s.pageSt P.REC = 4)) &&
  (
   let s : State := { live.setPageSt P.REC 4 with recorder := { live.recorder with nrec := 3, wr := 3, frames := [⟨1000, [1, 2, 3], 0, natLe 32 1000, none, 2, none, false, false⟩] } }
   let r : RecFrame := ⟨1000, [1, 2, 3], 0, natLe 32 1000, none, 2, none, false, false⟩
   decide (s.canonical = true) && decide (s.pageSt P.REC = 4) && decide (s.recorder.frames = [r]) && decide (r.plan = none) &&
    decide (s.replayHolds r = true) && decide (s.imgDiffers = false) && decide ((s.memNat 0x20400007 1).testBit 2 = false) &&
    decide (s.owners.length = 512) && decide (blocksFor (r.bytes.length + r.trail.length + 32) ≤ s.freeCount)) &&
  (
   let s : State := { live.setPageSt P.REC 3 with recorder := { live.recorder with nrec := 3, wr := 3, queue := [(5, 2), (6, 0)] } }
   let i : Initiator := .apc
   let b : Nat := 5
   let st : Nat := 2
   let q : List (Nat × Nat) := [(6, 0)]
   decide (s.offers i P.REC 0x114 = true) && decide (s.canonical = true) && decide (s.enabled P.REC = true) &&
    decide (s.recorder.queue = (b, st) :: q) &&
     (match exec (.rpq i) s with
      | .next t => decide (t.out.get i = (⟨BitVec.ofNat 32 (st * 2 ^ 16 + 0x8000 + b), .ok⟩ : BusAnswer)) &&
        decide (t.recorder = { s.recorder with queue := q })
      | _ => false)) &&
  (
   let s : State := live
   let i : Initiator := .apc
   decide (s.offers i P.REC 0x114 = true) && decide (s.canonical = true) && decide (s.recorder.queue = []) &&
     (match exec (.rpq i) s with
      | .next t => decide (t.out.get i = (⟨0, .ok⟩ : BusAnswer)) && decide (t.recorder = s.recorder)
      | _ => false))) = true := by decide +kernel

/-- A canonical state from which a command of `Obligations.RadioEventFrames` answers a next state. -/
theorem witness_frame_RadioEventFrames : (live.canonical && (match exec .scsSettled live with | .next _ => true | _ => false)) = true := by decide +kernel

/-- A canonical state from which a command of `Obligations.LinkAndNeighbourFrames` answers a next state. -/
theorem witness_frame_LinkAndNeighbourFrames : (live.canonical && (match exec .forwardResend live with | .next _ => true | _ => false)) = true := by decide +kernel

/-- A canonical state from which a command of `Obligations.TimeEventAndPinFrames` answers a next state. -/
theorem witness_frame_TimeEventAndPinFrames : (live.canonical && (match exec .prewarn live with | .next _ => true | _ => false)) = true := by decide +kernel

/-- A canonical state from which a command of `Obligations.PowerClockAndBootFrames` answers a next state. -/
theorem witness_frame_PowerClockAndBootFrames : (live.canonical && (match exec .engReady live with | .next _ => true | _ => false)) = true := by decide +kernel

/-- A canonical state from which a command of `Obligations.SecurityCoreAndFlashFrames` answers a next state. -/
theorem witness_frame_SecurityCoreAndFlashFrames : (live.canonical && (match exec .minRunEnd live with | .next _ => true | _ => false)) = true := by decide +kernel

/-- A state in which a register write of `Obligations.RegisterCommandFrames` reaches its register. -/
theorem witness_frame_register : (live.canonical && live.takes .apc P.EVF 0x108 3 (rowAt P.EVF 0x108) && (match exec (.swTrig .apc 3) live with | .next _ => true | _ => false)) = true := by decide +kernel

/-- A state and operands that meet the hypotheses of `Obligations.StepRunsTheFrontCommand`. -/
theorem witness_step_front : (
  let s : State := { live with pending := [.engReady, .pllLock] }
  decide (s.pending = .engReady :: [.pllLock]) && (match step s with
   | .next t => decide (t.pending = [.pllLock])
   | _ => false)) = true := by decide +kernel

/-- A state and operands that meet the hypotheses of `Obligations.IdleStepIsATick`. -/
theorem witness_step_idle : (
  let s : State := (live.put F.TMB_STAT_FINE_VALID 1).put F.TMB_STAT_FINE_SRC 1 |>.put F.CLK_STAT_HFRC_OK 1
  s.pending.isEmpty && s.fineRuns && (match step s with
   | .next t => t.count == s.count + 1
   | _ => false)) = true := by decide +kernel

/-- A state and operands that meet the hypotheses of `Obligations.IdleStepIsATick`. -/
theorem witness_step_idle_hold : (
  let s : State := { ((live.put F.TMB_STAT_FINE_VALID 1).put F.TMB_STAT_FINE_SRC 1 |>.put F.CLK_STAT_HFRC_OK 1) with count := 0x1FF }
  s.pending.isEmpty && s.fineRuns && (match step s with
   | .next t => t.count == 0x1FF
   | _ => false)) = true := by decide +kernel

/-- A state and operands that meet the hypotheses of `Obligations.IdleStepIsATick`. -/
theorem witness_step_idle_stopped : (
  let s : State := live.put F.TMB_STAT_FINE_VALID 0
  s.pending.isEmpty && !s.fineRuns && (match step s with
   | .next t => t.count == s.count && t.alarms == s.alarms
   | _ => false)) = true := by decide +kernel

/-- A state and operands that meet the hypotheses of `Obligations.StepKeepsTheCanonicalForm`. -/
theorem witness_canonical_step : (
  let s : State := { live with pending := [.keyStoreWrite 0x30200054 .word 0x1234] }
  s.canonical && (match step s with
   | .next t => t.canonical
   | _ => false)) = true := by decide +kernel

/-- A state and operands that meet the hypotheses of `Obligations.OtpBitsOnlyRise`. -/
theorem witness_otp_step : (
  let s : State := { live with sec := { live.sec with otp := live.sec.otp.set 5 3 }, pending := [.por true 2] }
  s.canonical && (s.otp 5).testBit 1 && (match step s with
   | .next t => (t.otp 5).testBit 1
   | _ => false)) = true := by decide +kernel

/-- A state and operands that meet the hypotheses of `Obligations.UnderTestPagesRefuseAccesses`. -/
theorem witness_under_test : (
  let s : State := live.put (F.PAGE_STAT_UNDER_TEST P.LNK) 1
  s.on (F.PAGE_STAT_UNDER_TEST P.LNK) && s.admits (readReq .apc (pageAddr P.LNK 0xC)) && s.admits (readReq .apc (pageAddr P.LNK 0x100)) &&
  s.admits (writeReq .apc (pageAddr P.LNK 0x100) 5) && s.admits (writeReq .apc (pageAddr P.LNK 8) 0) &&
  (match exec (.busAccess (readReq .apc (pageAddr P.LNK 0xC))) s with
   | .next t => (t.out.get .apc).value.toNat.testBit 3
   | _ => false) &&
  (match exec (.busAccess (readReq .apc (pageAddr P.LNK 0x100))) s with
   | .next t => t.out.get .apc == ⟨0, .ok⟩
   | _ => false) &&
  (match exec (.busAccess (writeReq .apc (pageAddr P.LNK 0x100) 5)) s with
   | .next t => t.reg (pageAddr P.LNK 0x100) == s.reg (pageAddr P.LNK 0x100)
   | _ => false)) = true := by decide +kernel

/-- A state and operands that meet the hypotheses of `Obligations.AccessSizesOfPagesAndMemories`. -/
theorem witness_access_size : (
  let s : State := live
  let r : BusReq := ⟨.apc, 0x40000102, .half, .write 0xFFFF⟩
  decide (regionOf r.addr.toNat = .page 0) && (match exec (.busAccess r) s with
   | .next t => t.out.get .apc == ⟨0, .denied⟩ && t.regs == s.regs
   | _ => false)) = true := by decide +kernel

/-- A state and operands that meet the hypotheses of `Obligations.TimeBaseReadsLatchTheHighPart`. -/
theorem witness_time_read : (
  let s : State := { live with count := 0x1234_89ABCDEF }
  s.canonical && s.offers .ntc P.TMB 0x100 && s.offers .ntc P.TMB 0x108 && s.offers .ntc P.TMB 0x104 && (match exec (.nowLo .ntc) s with
   | .next t => t.out.get .ntc == ⟨0x89ABCDEF, .ok⟩ && (match exec (.busAccess (readReq .ntc (pageAddr P.TMB 0x108))) t with
    | .next u => u.out.get .ntc == ⟨0x1234, .ok⟩
    | _ => false)
   | _ => false)) = true := by decide +kernel

/-- A state and operands that meet the hypotheses of `Obligations.PassFlagsOfTheSelfTest`. -/
theorem witness_pass_flag : (
  let s : State := { live with bst := some ⟨0x0103, true⟩, passed := [0x0301] }
  (match exec (.testDone (.logic 5 true)) s with
   | .next t => t.passed.contains 0x0103 && t.passed.contains 0x0301
   | _ => false) &&
  (match exec (.pin 0) s with
   | .next t => t.passed.isEmpty
   | _ => false) && (match exec (.por true 0) s with
   | .next t => t.passed.isEmpty
   | _ => false)) = true := by decide +kernel

/-- A state and operands that meet the hypotheses of `Obligations.PassFlagsOfTheSelfTest`. -/
theorem witness_pass_unretire : (
  let s : State := { live with passed := [0x0301] }
  s.takes .apc P.FLT 0x114 (BitVec.ofNat 32 (0x20000000 + 0x0301 % 0x10000)) (rowAt P.FLT 0x114) &&
  (match exec (.unretire .apc 0x0301) s with
   | .next t => t.reg Reg.FLT_RES == 0
   | _ => false) &&
  (match exec (.unretire .apc 0x0302) s with
   | .next t => t.reg Reg.FLT_RES == 3
   | _ => false)) = true := by decide +kernel

/-- A state and operands that meet the hypotheses of `Obligations.PassFlagsOfTheSelfTest`. -/
theorem witness_pass_standby : (
  let s : State := { live with pwr := { live.pwr with entering := some .standby }, passed := [0x0301] }
  !s.on F.PWR_STAT_PENDING && (match exec (.entryInstant) s with
   | .next t => t.passed.isEmpty
   | _ => false)) = true := by decide +kernel

/-- A state and operands that meet the hypotheses of `Obligations.PassFlagsOfTheSelfTest`. -/
theorem witness_pass_safe_point : (
  let s : State := { live with resetReq := some 3, passed := [0x0301], flash := { live.flash with op := some { flOp0 with op := 2, addr := 0x20000 } } }
  s.flashHolds && (match exec (.flashSafePointReset 0) s with
   | .next t => t.passed.isEmpty
   | _ => false)) = true := by decide +kernel

/-- A state and operands that meet the hypotheses of `Obligations.FailuresOfTheSelfTest`. -/
theorem witness_fail_retires : (
  let s : State := { live with bst := some ⟨0x0103, true⟩ }
  !s.isRetired 0x0103 && s.enabled P.FLT && decide (0 < s.get F.FLT_CFG_RETIRE_N) && (match exec (.testDone (.logic 5 false)) s with
   | .next t => t.isRetired 0x0103
   | _ => false)) = true := by decide +kernel

/-- A state and operands that meet the hypotheses of `Obligations.FailuresOfTheSelfTest`. -/
theorem witness_fail_path : (
  let s : State := { live with bst := some ⟨0x0301, true⟩ }
  (match exec (.testDone (.analogue false)) s with
   | .next t => t.isRetired 0x0301
   | _ => false)) = true := by decide +kernel

/-- A state and operands that meet the hypotheses of `Obligations.FailuresOfTheSelfTest`. -/
theorem witness_fail_bank : (
  let s : State := { live with bst := some ⟨0x0602, true⟩ }
  (match exec (.testDone (.memory (some 0x20008000))) s with
   | .next t => t.isRetired 0x0602
   | _ => false)) = true := by decide +kernel

/-- A state and operands that meet the hypotheses of `Obligations.FailuresOfTheSelfTest`. -/
theorem witness_fail_service : (
  let s : State := { live with bst := some ⟨0x1200, true⟩ }
  (match exec (.testDone (.logic 5 false)) s with
   | .next t => t.flt.log.map (fun x => x.word / 0x1000000 % 16) == [4]
   | _ => false)) = true := by decide +kernel

/-- A state and operands that meet the hypotheses of `Obligations.FailuresOfTheSelfTest`. -/
theorem witness_fault_under_test : (
  let s : State := { live with bst := some ⟨0x0103, true⟩ }
  s.underTest 0x0103 && (match exec (.fault ⟨0x0103, .transient, 0⟩) s with
   | .next t => t.faultTimes 0x0103 == s.faultTimes 0x0103
   | _ => false)) = true := by decide +kernel

/-- A state and operands that meet the hypotheses of `Obligations.LockedPagesRefuseConfiguration`. -/
theorem witness_locked : (
  let s : State := live.put (F.PAGE_CTRL_LOCK P.TSN) 1
  s.locked P.TSN && s.isConfig P.TSN 0x100 && !s.instAbsent P.TSN 0x100 &&
    [8, 0x14, 0x1C, 0x20, 0x24, 0x100].all (fun o => s.admits (writeReq .apc (pageAddr P.TSN o) 7)) &&
  (match exec (.busAccess (writeReq .apc (pageAddr P.TSN 0x100) 7)) s with
   | .next t => t.reg (pageAddr P.TSN 0x100) == 0x69000708 && (t.reg (Reg.IRQ_RAW P.TSN)).toNat.testBit 31
   | _ => false) &&
  (match exec (.busAccess (writeReq .apc (pageAddr P.TSN 8) 1)) s with
   | .next t => t.regs == s.regs
   | _ => false) &&
  (match exec (.busAccess (writeReq .apc (pageAddr P.TSN 8) 0)) s with
   | .next t => t.enabled P.TSN
   | _ => false) &&
  (match exec (.busAccess (writeReq .apc (pageAddr P.TSN 0x14) 1)) s with
   | .next t => t.reg (Reg.IRQ_EN P.TSN) == 0
   | _ => false) &&
  (match exec (.busAccess (writeReq .apc (pageAddr P.TSN 0x1C) 1)) s with
   | .next t => (t.reg (Reg.IRQ_RAW P.TSN)).toNat.testBit 0
   | _ => false)) = true := by decide +kernel

/-- A state and operands that meet the hypotheses of `Obligations.RadioCommandsAreRefused`. -/
theorem witness_refused : (
  let s : State := liveDesc.put F.RAD_STATE_STATE 0
  let i : Initiator := .apc
  let w : Word := 0x100
  let n : Nat := 2
  let r : RegRow := rowAt P.RAD 0x100
  decide ((Instr.rx i w, n) ∈ [(Instr.idle i w, 0), (.armRx i w, 1), (.rx i w, 2), (.rxMulti i w, 3), (.tx i w, 4), (.txCca i w, 5), (.cal i w, 6),
    (.whiff i w, 7), (.pretune i w, 8), (.abort i w, 9), (.off i w, 10)]) && s.canonical && s.takes i P.RAD 0x100 (withBits w 0 4 n) r &&
    !s.radio.evalOpen &&
  (s.cmdSeen i (withBits w 0 4 n) r).enabled P.RAD && !(s.cmdSeen i (withBits w 0 4 n) r).malformed (s.cmdGiven i (withBits w 0 4 n) r) &&
    (s.cmdSeen i (withBits w 0 4 n) r).pageSt P.REC != 4 && !(s.cmdGiven i (withBits w 0 4 n) r).timed &&
    !(s.cmdSeen i (withBits w 0 4 n) r).ackCommitted && acceptCell n ((s.cmdSeen i (withBits w 0 4 n) r).judgedBy n) == 0 &&
  (match exec (.rx i w) s with
   | .next t => t.get F.RAD_CMD_STAT_STATUS == 2 && t.get F.RAD_CMD_STAT_FINAL == 1
   | _ => false)) = true := by decide +kernel

/-- A state and operands that meet the hypotheses of `Obligations.RadioCommandsAreRefused`. -/
theorem witness_refused_malformed : (
  let s : State := liveDesc
  let i : Initiator := .apc
  let w : Word := 0
  let n : Nat := 6
  let r : RegRow := rowAt P.RAD 0x100
  s.takes i P.RAD 0x100 (withBits w 0 4 n) r && (s.cmdSeen i (withBits w 0 4 n) r).malformed (s.cmdGiven i (withBits w 0 4 n) r) &&
    (match exec (.cal i w) s with
   | .next t => t.get F.RAD_CMD_STAT_STATUS == 5 && t.get F.RAD_CMD_STAT_ARG_ERR == 1
   | _ => false)) = true := by decide +kernel

/-- A state and operands that meet the hypotheses of `Obligations.RadioCommandsAreRefused`. -/
theorem witness_refused_disabled : (
  let s : State := liveDesc.put (F.PAGE_CTRL_ENABLE P.RAD) 0
  s.takes .apc P.RAD 0x100 (withBits 0 0 4 1) (rowAt P.RAD 0x100) && (match exec (.armRx .apc 0) s with
   | .next t => t.get F.RAD_CMD_STAT_STATUS == 2
   | _ => false)) = true := by decide +kernel

end Sys2Proof.Tests
end

section
/-! The step and the outcome of a command: a step runs the front command on the rest of the queue, and every command answers a next state. -/

namespace Sys2Proof.Machine

/-- A step with a command queued takes it from the queue and runs it. -/
theorem step_of_pending_cons {s : State} {c : Instr} {rest : List Instr} (h : s.pending = c :: rest) :
    step s = exec c { s with pending := rest } := by
  unfold step
  rw [h]

/-- No command ends in a fault or a refusal: `Keeps.ofExec` has gone through the commands one by one and finds a next state for each. -/
theorem exec_eq_next (c : Instr) (s : State) : ∃ t, exec c s = .next t := by
  obtain ⟨t, hnext, -⟩ := Keeps.ofExec (Keeps.refl s) c
  exact ⟨t, hnext⟩

/-- Settles O46: the equation of `step` for a queue that is not empty. -/
theorem stepRunsTheFrontCommand : Obligations.StepRunsTheFrontCommand := by
  intro s c rest h
  exact step_of_pending_cons h

/-- Settles O58: every arm of `exec` answers a next state. -/
theorem noCommandStops : Obligations.NoCommandStops := by
  intro c s
  exact exec_eq_next c s

end Sys2Proof.Machine
end

section
/-! SUPPORT. What the parts that `Frame` keeps give field by field, and the frame on a receiving unit after a write of its slot. -/

namespace Sys2Proof.Machine

theorem Frame.slot {w : Nat} {a t : State} (h : Frame w a t) (hw : w.testBit 2 = false) (u : RxUnit) : t.slot u = a.slot u := by
  have e := h.2.1 .radio hw
  simp only [State.same, Prod.mk.injEq] at e
  obtain ⟨-, -, -, hs, hl, -, -⟩ := e
  cases u
  · simp only [State.slot, hs]
  · simp only [State.slot, hl]

theorem Frame.radio {w : Nat} {a t : State} (h : Frame w a t) (hw : w.testBit 2 = false) : t.radio = a.radio := by
  have e := h.2.1 .radio hw
  simp only [State.same, Prod.mk.injEq] at e
  obtain ⟨e, -⟩ := e
  exact e

theorem Frame.crs {w : Nat} {a t : State} (h : Frame w a t) (hw : w.testBit 2 = false) : t.crs = a.crs := by
  have e := h.2.1 .radio hw
  simp only [State.same, Prod.mk.injEq] at e
  obtain ⟨-, -, e, -⟩ := e
  exact e

theorem Frame.ctxs {w : Nat} {a t : State} (h : Frame w a t) (hw : w.testBit 3 = false) : t.ctxs = a.ctxs := by
  have e := h.2.1 .link hw
  simp only [State.same, Prod.mk.injEq] at e
  obtain ⟨-, -, e, -⟩ := e
  exact e

theorem Frame.inService {w : Nat} {a t : State} (h : Frame w a t) (hw : w.testBit 3 = false) : t.inService = a.inService := by
  have e := h.2.1 .link hw
  simp only [State.same, Prod.mk.injEq] at e
  obtain ⟨-, -, -, -, e, -⟩ := e
  exact e

theorem Frame.timeline {w : Nat} {a t : State} (h : Frame w a t) (hw : w.testBit 3 = false) : t.timeline = a.timeline := by
  have e := h.2.1 .link hw
  simp only [State.same, Prod.mk.injEq] at e
  obtain ⟨e, -⟩ := e
  exact e

theorem Frame.flt {w : Nat} {a t : State} (h : Frame w a t) (hw : w.testBit 8 = false) : t.flt = a.flt := by
  have e := h.2.1 .faults hw
  simp only [State.same, Prod.mk.injEq] at e
  obtain ⟨-, -, -, e⟩ := e
  exact e

/-- A register on a page that is not named reads as before. -/
theorem Frame.reg {w : Nat} {a t : State} (h : Frame w a t) (c : a.canonical = true) (x : Nat)
    (hx : (w.testBit 17 || w.testBit (32 + pageIx x)) = false) : t.reg x = a.reg x := by
  refine h.2.2 c x (fun k => ?_)
  rw [Bool.or_eq_false_iff] at hx
  rcases k with k | k
  · exact Bool.false_ne_true (hx.1.symm.trans k)
  · exact Bool.false_ne_true (hx.2.symm.trans k)

/-- A field of a register on a page that is not named reads as before. -/
theorem Frame.get {w : Nat} {a t : State} (h : Frame w a t) (c : a.canonical = true) (f : Field)
    (hx : (w.testBit 17 || w.testBit (32 + pageIx f.addr)) = false) : t.get f = a.get f := by
  unfold State.get
  rw [h.reg c f.addr hx]

theorem getD_set_self {α : Type} {l : List α} {n : Nat} {d x : α} (h : n < l.length) : (l.set n x).getD n d = x := by
  rw [List.getD_eq_getElem?_getD, List.getElem?_set_self h, Option.getD_some]

/-- A unit that holds a frame has a slot, so what is put there is read back. -/
theorem State.slot_setSlot {s : State} {u : RxUnit} {f : RxFrame} (h : (s.slot u).frame = some f) (x : RxSlot) :
    (s.setSlot u x).slot u = x := by
  have inRange (l : List RxSlot) (n : Nat) (e : (l.getD n rxSlot0).frame = some f) : n < l.length := by
    by_contra hn
    rw [List.getD_eq_default _ _ (not_lt.mp hn)] at e
    exact absurd e (by simp [rxSlot0])
  cases u with
  | slice n => exact getD_set_self (inRange _ n h)
  | lane n => exact getD_set_self (inRange _ n h)

theorem State.frame_putFrame {s : State} {u : RxUnit} {f : RxFrame} (h : (s.slot u).frame = some f) (g : RxFrame) :
    ((s.putFrame u g).slot u).frame = some g := by
  unfold State.putFrame
  rw [State.slot_setSlot h]

theorem State.frame_onFrame {s : State} {u : RxUnit} {f : RxFrame} (h : (s.slot u).frame = some f) (g : RxFrame → RxFrame) :
    ((s.onFrame u g).slot u).frame = some (g f) := by
  unfold State.onFrame
  dsimp only
  rw [State.slot_setSlot h, h, Option.map_some]

/-- A saturating counter below its greatest value counts one up. -/
theorem State.get_countSat_self {s : State} (c : s.canonical = true) (f : Field) (hw : f.lo + f.width ≤ 32)
    (h : s.get f + 1 < 2 ^ f.width) : (s.countSat f).get f = s.get f + 1 := by
  unfold State.countSat
  rw [if_pos h, State.get_put_self c f _ hw, Nat.mod_eq_of_lt h]

theorem State.get_countSat_other {s : State} (c : s.canonical = true) (f g : Field) (hw : f.lo + f.width ≤ 32)
    (d : g.addr ≠ f.addr ∨ g.lo + g.width ≤ f.lo ∨ f.lo + f.width ≤ g.lo) : (s.countSat f).get g = s.get g := by
  unfold State.countSat
  split
  · exact State.get_put_other c f g _ hw d
  · rfl

end Sys2Proof.Machine
end

section
/-! SUPPORT. NBT_LOOKUP_RETURN: what this device's table answers to a lookup, and where the answer goes (10 R264, R270, R271). -/

namespace Sys2Proof.Machine

/-- The state in which the lookup port has let request `r` go. -/
def State.portFreed (s : State) (r : SharedReq) : State := { s with inService := removeFirst (· == r) s.inService }

/-- A key that no entry holds is not found. -/
theorem State.lookupAnswer_of_findKey_none {s : State} {u : RxUnit} {h : MacHdr} {k : NbtKey} (hnbt : s.enabled P.NBT = true)
    (hkey : s.sourceKey h = some k) (hhome : s.homeOf (keyHash k) = s.myPos) (hbad : s.searchBad k = false) (hfind : s.findKey k = none) :
    s.lookupAnswer u h = (.notFound, s) := by
  simp [State.lookupAnswer, State.nbtLookup, hnbt, hkey, hhome, hbad, hfind]

/-- An entry that names no other answers with its words: in flight where another device holds its reservation. -/
theorem State.lookupAnswer_of_findKey_some {s : State} {u : RxUnit} {h : MacHdr} {k : NbtKey} {n : Nat} (hnbt : s.enabled P.NBT = true)
    (hkey : s.sourceKey h = some k) (hhome : s.homeOf (keyHash k) = s.myPos) (hbad : s.searchBad k = false) (hfind : s.findKey k = some n)
    (halias : s.entFlag n efAlias = false) (hix : s.globalIx n % 16384 = n) :
    s.lookupAnswer u h = (if s.hvl.rsv.any (fun r => r.2.1 == n) then .inFlight ⟨s.globalIx n, s.entWords n, none⟩
      else .found ⟨s.globalIx n, s.entWords n, none⟩, s) := by
  simp [State.lookupAnswer, State.nbtLookup, hnbt, hkey, hhome, hbad, hfind, halias, hix]
  rw [hix]

/-- The lookup's answer stands in the frame, and neither the recorder nor the filter touches the queues or a register. -/
theorem State.lookupDone_recordLookup {s : State} {u : RxUnit} {f : RxFrame} (hf : (s.slot u).frame = some f) (l : LookupState)
    (v : Option NbtView) :
    ((((s.lookupDone u f l).recordLookup u v).slot u).frame.map (fun (g : RxFrame) => g.lookup)) = some l ∧
      Frame 0x10105 s ((s.lookupDone u f l).recordLookup u v) := by
  constructor
  · rw [(Frame.recordLookup (w := 0x10101) (Frame.refl _ _) (by decide) u v).slot (by decide) u]
    unfold State.lookupDone
    dsimp only
    rw [State.frame_putFrame hf, Option.map_some]
  · exact Frame.recordLookup (Frame.lookupDone (Frame.refl _ _) (by decide) u f l) (by decide) u v

/-- A table's answer is given to the frame; one that is not found counts as a miss. -/
def State.answerGiven (u : RxUnit) (f : RxFrame) : LookupState × State → State
  | (.found v, t) => (t.lookupDone u f (.found v)).recordLookup u (some v)
  | (.inFlight v, t) => (t.lookupDone u f (.inFlight v)).recordLookup u (some v)
  | (_, t) => ((if t.enabled P.NBT then t.countSat F.NBT_STATS_MISSES else t).lookupDone u f .notFound).recordLookup u none

/-- The answer to the lookup that holds the port reaches the frame, if no packet is to bring it. -/
theorem exec_nbtLookupReturn_of_port {s : State} {u : RxUnit} {f : RxFrame} {h : MacHdr} {r : SharedReq}
    (hport : s.inService.find? (fun r => r.unit == .lookup && r.servesRx u) = some r)
    (hleft : s.shared.any (fun x => x.unit == .hveLookup && x.who == r.who) = false)
    (hframe : (s.slot u).frame = some f) (hreq : s.reqFrame r = some (u, f.tstamp, h)) :
    exec (.nbtLookupReturn u) s = .next (State.answerGiven u f ((s.portFreed r).lookupAnswer u h)) := by
  have hreq' : ({ s with inService := removeFirst (· == r) s.inService } : State).reqFrame r = some (u, f.tstamp, h) := hreq
  have hframe' : (({ s with inService := removeFirst (· == r) s.inService } : State).slot u).frame = some f := hframe
  rw [exec_nbtLookupReturn, execNbtLookupReturn, hport]
  dsimp only
  rw [hleft, if_neg Bool.false_ne_true, hreq', hframe']
  rfl

theorem nbtLookupReturn_notFound {s : State} {u : RxUnit} {f : RxFrame} {h : MacHdr} {k : NbtKey} {r : SharedReq} (c : s.canonical = true)
    (hport : s.inService.find? (fun r => r.unit == .lookup && r.servesRx u) = some r)
    (hleft : s.shared.any (fun x => x.unit == .hveLookup && x.who == r.who) = false)
    (hframe : (s.slot u).frame = some f) (hreq : s.reqFrame r = some (u, f.tstamp, h)) (hnbt : s.enabled P.NBT = true)
    (hkey : s.sourceKey h = some k) (hhome : s.homeOf (keyHash k) = s.myPos) (hbad : s.searchBad k = false) (hfind : s.findKey k = none)
    (hsat : s.get F.NBT_STATS_MISSES + 1 < 2 ^ F.NBT_STATS_MISSES.width) :
    ∃ t, exec (.nbtLookupReturn u) s = .next t ∧ ((t.slot u).frame.map (fun (g : RxFrame) => g.lookup)) = some (.notFound : LookupState) ∧
      t.inService = removeFirst (· == r) s.inService ∧ t.get F.NBT_STATS_MISSES = s.get F.NBT_STATS_MISSES + 1 := by
  have hans : State.answerGiven u f ((s.portFreed r).lookupAnswer u h) =
      (((s.portFreed r).countSat F.NBT_STATS_MISSES).lookupDone u f .notFound).recordLookup u none := by
    rw [State.lookupAnswer_of_findKey_none (s := s.portFreed r) hnbt hkey hhome hbad hfind]
    exact congrArg (fun t : State => (t.lookupDone u f .notFound).recordLookup u none) (if_pos hnbt)
  have hcount : Frame (1 <<< 64) (s.portFreed r) ((s.portFreed r).countSat F.NBT_STATS_MISSES) :=
    (Frame.refl _ _).countSat (Or.inr (by decide))
  have hf : (((s.portFreed r).countSat F.NBT_STATS_MISSES).slot u).frame = some f := by rw [hcount.slot (by decide) u]; exact hframe
  obtain ⟨hlook, hrest⟩ := State.lookupDone_recordLookup hf .notFound none
  refine ⟨_, (exec_nbtLookupReturn_of_port hport hleft hframe hreq).trans (congrArg _ hans), hlook, ?_, ?_⟩
  · exact (hrest.inService (by decide)).trans (hcount.inService (by decide))
  · rw [hrest.get (hcount.1.canon c) _ (by decide)]
    exact State.get_countSat_self (s := s.portFreed r) c _ (by decide) hsat

theorem nbtLookupReturn_entry {s : State} {u : RxUnit} {f : RxFrame} {h : MacHdr} {k : NbtKey} {r : SharedReq} {n : Nat}
    (hport : s.inService.find? (fun r => r.unit == .lookup && r.servesRx u) = some r)
    (hleft : s.shared.any (fun x => x.unit == .hveLookup && x.who == r.who) = false)
    (hframe : (s.slot u).frame = some f) (hreq : s.reqFrame r = some (u, f.tstamp, h)) (hnbt : s.enabled P.NBT = true)
    (hkey : s.sourceKey h = some k) (hhome : s.homeOf (keyHash k) = s.myPos) (hbad : s.searchBad k = false) (hfind : s.findKey k = some n)
    (halias : s.entFlag n efAlias = false) (hix : s.globalIx n % 16384 = n) :
    ∃ t, exec (.nbtLookupReturn u) s = .next t ∧ ((t.slot u).frame.map (fun (g : RxFrame) => g.lookup)) =
        some (if s.hvl.rsv.any (fun r => r.2.1 == n) then .inFlight ⟨s.globalIx n, s.entWords n, none⟩
          else .found ⟨s.globalIx n, s.entWords n, none⟩ : LookupState) ∧
      t.inService = removeFirst (· == r) s.inService := by
  have hexec := exec_nbtLookupReturn_of_port hport hleft hframe hreq
  rw [State.lookupAnswer_of_findKey_some (s := s.portFreed r) hnbt hkey hhome hbad hfind halias hix] at hexec
  change exec (.nbtLookupReturn u) s = .next (State.answerGiven u f (if s.hvl.rsv.any (fun r => r.2.1 == n) then
    .inFlight ⟨s.globalIx n, s.entWords n, none⟩ else .found ⟨s.globalIx n, s.entWords n, none⟩, s.portFreed r)) at hexec
  split
  all_goals
    rename_i hrsv
    simp only [hrsv, if_true, if_false, Bool.false_eq_true] at hexec
    obtain ⟨hlook, hrest⟩ := State.lookupDone_recordLookup (s := s.portFreed r) hframe _ _
    exact ⟨_, hexec, hlook, hrest.inService (by decide)⟩

end Sys2Proof.Machine
end

section
/-! SUPPORT. SECURITY_REQUEST and SHARED_REQUEST_SERVED: who asks for a block of CCM*, and what taking a request into service moves
(01 R23; 09 R243 to R245). -/

namespace Sys2Proof.Machine

theorem securityRequest_rx {s : State} {u : RxUnit} {f : RxFrame} {h : MacHdr} (hframe : (s.slot u).frame = some f) (hmac : f.mac = some h)
    (hsec : h.secured = true) (hpage : s.enabled P.SEC = true) :
    exec (.securityRequest (.rx u)) s = .next (s.rxRequest u f .security [] f.meas.isSome) := by
  simp [exec_securityRequest, execSecurityRequest, hpage, hframe, hmac, hsec]

theorem securityRequest_tx {s : State} {n : Nat} {j : TxJob} (htx : s.radio.tx = some j) (hsrc : j.src = .op)
    (hsec : s.chainSecure j.head = true) (hstage : j.stage = .wait ∨ j.stage = .sequence ∨ j.stage = .rampUp ∨ j.stage = .onAir)
    (hpage : s.enabled P.SEC = true) :
    exec (.securityRequest (.tx n)) s =
      .next { s with shared := s.shared ++ [⟨.security, subTicks (s.needAt j (16 * n)) (usTicks 4), 0, .tx, [], false⟩] } := by
  have hpast : s.txPast = none := by rcases hstage with e | e | e | e <;> simp [State.txPast, htx, e]
  have hcca : (j.stage != .cca) = true := by rcases hstage with e | e | e | e <;> simp [e]
  have hsecured : s.txSecured j = true := by simp [State.txSecured, hsrc, hsec]
  simp [exec_securityRequest, execSecurityRequest, hpage, htx, hsecured, hcca, hpast]

theorem securityRequest_ack {s : State} {k : Nat} {c : AckCtx} (hctx : s.ctxs[k]? = some c) (hbusy : c.busy = true)
    (hcom : c.committed = false) (hkey : c.key.isSome = true) (hpage : s.enabled P.SEC = true) :
    exec (.securityRequest (.ack k)) s =
      .next { s with shared := s.shared ++ [⟨.security, subTicks c.t0 (usTicks 12), unitRank c.unit, .ack k, [], false⟩] } := by
  simp [exec_securityRequest, execSecurityRequest, hpage, hctx, hbusy, hcom, hkey]

/-- The state in which request `r` has left the queue of the shared units. -/
def State.unqueued (s : State) (r : SharedReq) : State := { s with shared := removeFirst (· == r) s.shared }

/-- A request whose deadline has not passed leaves the queue and nothing else happens to it. -/
theorem State.serveNext_onTime {s : State} {v : SharedUnit} {r : SharedReq} (htest : (v == .decoder && s.underTest 0x1200) = false)
    (hfirst : firstReq s.count v s.shared = some r) (htime : (!notBefore s.count r.deadline || r.deadline == s.count) = true) :
    s.serveNext v = some (r, s.unqueued r) := by
  have hlate : (notBefore s.count r.deadline && r.deadline != s.count) = false := by
    cases hn : notBefore s.count r.deadline <;> simp_all
  unfold State.serveNext
  rw [htest, if_neg Bool.false_ne_true, hfirst]
  exact congrArg (fun t => some (r, t)) (if_neg (by rw [show _ = false from hlate]; exact Bool.false_ne_true))

/-- What a shared unit does with the request that it takes from the queue. -/
def State.takesUp (s : State) (r : SharedReq) : SharedUnit → State
  | .security => s
  | .decoder => { s with inService := s.inService ++ [r] }
  | .lookup => s.portTakes r
  | .hveLookup => s.lookupLeaves r

theorem exec_sharedRequestServed_onTime {s : State} {v : SharedUnit} {r : SharedReq} (hfree : s.inService.any (fun r => r.unit == v) = false)
    (htest : (v == .decoder && s.underTest 0x1200) = false)
    (hfirst : firstReq s.count v s.shared = some r) (htime : (!notBefore s.count r.deadline || r.deadline == s.count) = true) :
    exec (.sharedRequestServed v) s = .next ((s.unqueued r).takesUp r v) := by
  rw [exec_sharedRequestServed, execSharedRequestServed, hfree, if_neg Bool.false_ne_true, State.serveNext_onTime htest hfirst htime]
  cases v <;> rfl

/-- A lookup that this device's own table answers holds the port. -/
theorem State.portTakes_home {s : State} {r : SharedReq} {u : RxUnit} {st : Nat} {h : MacHdr} {k : NbtKey}
    (hreq : s.reqFrame r = some (u, st, h)) (hkey : s.sourceKey h = some k) (hhome : s.homeOf (keyHash k) = s.myPos) :
    s.portTakes r = { s with inService := s.inService ++ [r] } := by
  have hhome' : (s.homeOf (keyHash k) != s.myPos) = false := by simp [hhome]
  unfold State.portTakes
  rw [hreq]
  dsimp only
  rw [hkey]
  dsimp only
  rw [hhome', Bool.and_false, Bool.false_and, if_neg Bool.false_ne_true]

/-- A packet changes the ports of the link only. -/
theorem State.hvlSend_rest (s : State) (typ dst tag : Nat) (bcast first last : Bool) (payload : List Byte) :
    (s.hvlSend typ dst tag bcast first last payload).hvl.waits = s.hvl.waits ∧
      (s.hvlSend typ dst tag bcast first last payload).inService = s.inService ∧
      (s.hvlSend typ dst tag bcast first last payload).shared = s.shared := by
  have hop (port : HvlPort) (p : Packet) : (s.hopSend port typ p).hvl.waits = s.hvl.waits ∧
      (s.hopSend port typ p).inService = s.inService ∧ (s.hopSend port typ p).shared = s.shared := by
    unfold State.hopSend
    split
    · exact ⟨rfl, rfl, rfl⟩
    · cases port <;> exact ⟨rfl, rfl, rfl⟩
  unfold State.hvlSend
  dsimp only
  split
  · exact hop _ _
  · split
    · exact hop _ _
    · exact ⟨rfl, rfl, rfl⟩

/-- A remote lookup whose home can be reached leaves the port and waits for its reply. -/
theorem State.lookupLeaves_waits {s : State} {r : SharedReq} {u : RxUnit} {st : Nat} {h : MacHdr} {k : NbtKey}
    (hreq : s.reqFrame r = some (u, st, h)) (hkey : s.sourceKey h = some k) (hup : s.homeUp (s.homeOf (keyHash k)) = true) :
    (s.lookupLeaves r).inService = removeFirst (fun x => x.unit == .lookup && x.who == r.who) s.inService ∧
      (s.lookupLeaves r).shared = s.shared ∧
      (s.lookupLeaves r).hvl.waits = s.hvl.waits ++
        [⟨s.hvl.next, s.homeOf (keyHash k), some (u, st), none, ptLookup, natLe 1 (boolNat (s.wantsAck (s.slot u).copy h))⟩] := by
  have hkey' : ({ s with inService := removeFirst (fun x => x.unit == .lookup && x.who == r.who) s.inService } : State).sourceKey h = some k := hkey
  have hup' : (!s.homeUp (({ s with inService := removeFirst (fun x => x.unit == .lookup && x.who == r.who) s.inService } : State).homeOf
      (keyHash k))) = false := congrArg Bool.not hup
  unfold State.lookupLeaves
  rw [hreq]
  dsimp only
  rw [hkey']
  dsimp only [State.hvlTag]
  rw [hup', if_neg Bool.false_ne_true]
  obtain ⟨hwaits, hserv, hshared⟩ := State.hvlSend_rest _ ptLookup _ _ false true true _
  exact ⟨hserv, hshared, hwaits⟩

end Sys2Proof.Machine
end

section
/-! SUPPORT. The end of a speculation without a commit (01 R26; 09 R238 to R241): the reason and the count, the frame that lost its
acknowledgement, and a context that is squashed before its frame's verdict. -/

namespace Sys2Proof.Machine

/-- A squash leaves its reason, and counts; NO_CTX lies beside both. -/
theorem State.get_specLoss {s : State} (c : s.canonical = true) {reason : Nat} (hr : reason < 16)
    (hsat : s.get F.LNK_SPEC_STAT_SQUASHES + 1 < 2 ^ F.LNK_SPEC_STAT_SQUASHES.width) :
    (s.specLoss reason).get F.LNK_SPEC_LOSS_REASON = reason ∧
      (s.specLoss reason).get F.LNK_SPEC_STAT_SQUASHES = s.get F.LNK_SPEC_STAT_SQUASHES + 1 := by
  have c1 : (s.put F.LNK_SPEC_LOSS_REASON reason).canonical = true := ((Keeps.refl s).put _ _).canon c
  have hsq : (s.put F.LNK_SPEC_LOSS_REASON reason).get F.LNK_SPEC_STAT_SQUASHES = s.get F.LNK_SPEC_STAT_SQUASHES :=
    State.get_put_other c _ _ _ (by decide) (by decide)
  have c2 : ((s.put F.LNK_SPEC_LOSS_REASON reason).countSat F.LNK_SPEC_STAT_SQUASHES).canonical = true := ((Keeps.refl _).countSat _).canon c1
  have hreason : ((s.put F.LNK_SPEC_LOSS_REASON reason).countSat F.LNK_SPEC_STAT_SQUASHES).get F.LNK_SPEC_LOSS_REASON = reason := by
    rw [State.get_countSat_other c1 _ _ (by decide) (by decide), State.get_put_self c _ _ (by decide)]
    exact Nat.mod_eq_of_lt hr
  have hcount : ((s.put F.LNK_SPEC_LOSS_REASON reason).countSat F.LNK_SPEC_STAT_SQUASHES).get F.LNK_SPEC_STAT_SQUASHES =
      s.get F.LNK_SPEC_STAT_SQUASHES + 1 := by
    rw [State.get_countSat_self c1 _ (by decide) (by rw [hsq]; exact hsat), hsq]
  unfold State.specLoss
  dsimp only
  split
  · exact ⟨(State.get_countSat_other c2 _ _ (by decide) (by decide)).trans hreason,
      (State.get_countSat_other c2 _ _ (by decide) (by decide)).trans hcount⟩
  · exact ⟨hreason, hcount⟩

/-- A frame that loses its acknowledgement shows it; the reason and the count stand. -/
theorem State.ackLost_result {s : State} (c : s.canonical = true) {u : RxUnit} {f : RxFrame} (hf : (s.slot u).frame = some f) {reason : Nat}
    (hr : reason < 16) (hsat : s.get F.LNK_SPEC_STAT_SQUASHES + 1 < 2 ^ F.LNK_SPEC_STAT_SQUASHES.width) :
    (((s.ackLost u reason).slot u).frame.map (fun (g : RxFrame) => g.squashed)) = some true ∧
      (s.ackLost u reason).get F.LNK_SPEC_LOSS_REASON = reason ∧
      (s.ackLost u reason).get F.LNK_SPEC_STAT_SQUASHES = s.get F.LNK_SPEC_STAT_SQUASHES + 1 := by
  have hloss : Frame 0x4000000000000000 s (s.specLoss reason) := (Frame.refl _ _).specLoss (by decide) reason
  have hrec : Frame 0x100000000000010101 (s.specLoss reason) ((s.specLoss reason).specRecord u 0 0 reason 0) :=
    (Frame.refl _ _).specRecord (by decide) u 0 0 reason 0
  have hrest : Frame 0x100000000000010105 (s.specLoss reason) (s.ackLost u reason) :=
    (Frame.specRecord (Frame.refl _ _) (by decide) u 0 0 reason 0).onFrame (by decide) u _
  have cl : (s.specLoss reason).canonical = true := hloss.1.canon c
  obtain ⟨hreason, hcount⟩ := State.get_specLoss c hr hsat
  refine ⟨?_, (hrest.get cl _ (by decide)).trans hreason, (hrest.get cl _ (by decide)).trans hcount⟩
  unfold State.ackLost
  rw [State.frame_onFrame (f := f) (by rw [hrec.slot (by decide), hloss.slot (by decide)]; exact hf), Option.map_some]

/-- Emptying the held place ends no request (04 R529). -/
theorem State.crsHold_none (s : State) :
    s.crsHold none = { s.put F.SYN_CRS_STAT_DEFERRED 0 with crs := { s.crs with held := none } } := by
  unfold State.crsHold
  split
  · contradiction
  · rfl

theorem Frame.crsHold_none {w : Nat} {a s : State} (h : Frame w a s) (k : Sub 0x100000000000004 w) : Frame w a (s.crsHold none) := by
  rw [State.crsHold_none]
  have b : w.testBit 2 = true := k.bit (by decide)
  exact Frame.upd (h.put (RegOk.page k (by decide))) rfl (OtpKept.refl _) (Or.inr rfl) (Or.inl b) (Or.inr rfl) (Or.inr rfl) (Or.inr rfl) (Or.inr rfl)
    (Or.inr rfl) (Or.inr rfl) (Or.inr rfl) (Or.inr rfl) (Or.inr rfl) (Or.inr rfl) (Or.inr rfl) (Or.inr rfl)

/-- A request that ends DONE writes RAD's registers only: what it raises on LNK belongs to other statuses (05 R125). -/
theorem Frame.endPlain_done {w : Nat} {a s : State} (h : Frame w a s) (k : Sub 0x20000000000008C w) (src : OpSrc) : Frame w a (s.endPlain src 1) := by
  have k2 : Sub 0x80 w := Sub.trans (by decide) k
  have b2 : w.testBit 2 = true := k.bit (by decide)
  have b3 : w.testBit 3 = true := k.bit (by decide)
  have r (f : Field) (e : pageIx f.addr = P.RAD) : RegOk f.addr w := RegOk.at P.RAD k e (by decide)
  cases src with
  | software n =>
    change Frame w a (if n = s.radio.cmdNo then _ else s)
    refine Frame.ite ?_ h
    exact Frame.event (Frame.flag ((((((h.put (r _ (by decide))).put (r _ (by decide))).put (r _ (by decide))).put (r _ (by decide))).put
      (r _ (by decide)))) (PageOk.page k (by decide))) k2 _ _
  | entry i =>
    exact Frame.upd h rfl (OtpKept.refl _) (Or.inr rfl) (Or.inl b2) (Or.inl b3) (Or.inr rfl) (Or.inr rfl) (Or.inr rfl)
      (Or.inr rfl) (Or.inr rfl) (Or.inr rfl) (Or.inr rfl) (Or.inr rfl) (Or.inr rfl) (Or.inr rfl) (Or.inr rfl)
  | internal => exact h

/-- The end of a reservation, with the held request that it lets through, writes SYN's and RAD's registers only. -/
theorem Frame.crsRelease_radio {w : Nat} {a s : State} (h : Frame w a s) (k : Sub 0x30000000000018C w) (v : CrsUser) :
    Frame w a (s.crsRelease v) := by
  have b2 : w.testBit 2 = true := k.bit (by decide)
  have b3 : w.testBit 3 = true := k.bit (by decide)
  have hfree (l : List CrsUser) (x : Nat) :
      Frame w a { s.put F.SYN_CRS_STAT_RESERVED x with crs := { s.crs with reserved := l } } :=
    Frame.upd (h.put (RegOk.page k (by decide))) rfl (OtpKept.refl _) (Or.inr rfl) (Or.inl b2) (Or.inr rfl) (Or.inr rfl) (Or.inr rfl) (Or.inr rfl)
      (Or.inr rfl) (Or.inr rfl) (Or.inr rfl) (Or.inr rfl) (Or.inr rfl) (Or.inr rfl) (Or.inr rfl) (Or.inr rfl)
  unfold State.crsRelease
  refine Frame.ite ?_ h
  dsimp only
  split
  · exact hfree _ _
  · have htune := ((hfree (s.crs.reserved.filter (· != v)) (boolNat (!(s.crs.reserved.filter (· != v)).isEmpty))).crsHold_none
      (Sub.trans (by decide) k)).crsTune (Sub.trans (by decide) k)
    split
    · exact Frame.upd ((htune _ _ _).crsReserve (Sub.trans (by decide) k) _) rfl (OtpKept.refl _) (Or.inr rfl) (Or.inr rfl) (Or.inl b3) (Or.inr rfl)
        (Or.inr rfl) (Or.inr rfl) (Or.inr rfl) (Or.inr rfl) (Or.inr rfl) (Or.inr rfl) (Or.inr rfl) (Or.inr rfl) (Or.inr rfl) (Or.inr rfl)
    · exact (htune _ _ _).endPlain_done (Sub.trans (by decide) k) _
    · exact htune _ _ _

/-- A squash before the verdict: what goes on beside the count leaves the registers of LNK alone, and the context is freed last. -/
theorem State.squashCtx_steps {s : State} {k : Nat} {c : AckCtx} (hctx : s.ctxs[k]? = some c) (hbusy : c.busy = true)
    (hcom : c.committed = false) (hpass : c.passed = false) (reason : Nat) :
    ∃ a b, Frame 0x30000000000018D s a ∧ Frame 0x100000000000010105 (a.specLoss reason) b ∧ s.squashCtx k reason = b.ctxFree k := by
  have hgap : Frame 0x30000000000018D s (match c.u with
      | some u => if c.remote then s else s.dropReserve (c.index % 16384) u
      | none => s) := by
    split
    · exact Frame.ite (Frame.refl _ _) (Frame.dropReserve (Frame.refl _ _) (by decide) _ _)
    · exact Frame.refl _ _
  have hheld {t : State} (ht : Frame 0x30000000000018D s t) : Frame 0x30000000000018D s (match t.crs.held with
      | some ⟨.ackTune j, _, _⟩ => if j = k then t.crsHold none else t
      | _ => t) := by
    split
    · exact Frame.ite (ht.crsHold_none (by decide)) ht
    · exact ht
  have hflags (t : State) : Frame 0x100000000000010105 t (match c.headRec with
      | some a => (t.specRecord c.unit k 0 reason (c.inFc.getD 0)).setRecFlag a 2
      | none => (t.specRecord c.unit k 0 reason (c.inFc.getD 0)).onFrame c.unit (fun f => if f.spec == some k then
          { f with squashed := true, spec := none,
                   lookup := (match f.lookup, c.remote with
                     | .found v, false => .found { v with u := none }
                     | l, _ => l) } else f)) := by
    have hrec := Frame.specRecord (w := 0x100000000000010105) (Frame.refl _ t) (by decide) c.unit k 0 reason (c.inFc.getD 0)
    split
    · exact hrec.setRecFlag (by decide) _ _
    · exact hrec.onFrame (by decide) _ _
  refine ⟨_, _, (hheld hgap).crsRelease_radio (by decide) (.ack k), hflags _, ?_⟩
  unfold State.squashCtx
  rw [hctx]
  dsimp only
  rw [hbusy, hcom, hpass]
  simp only [Bool.not_true, Bool.or_false, Bool.false_and, Bool.and_false, Bool.false_eq_true, if_false]
  cases hi : c.inFc <;> rfl

theorem State.busy_ctxFree (s : State) (k : Nat) : ((s.ctxFree k).ctxs.getD k ctx0).busy = false := by
  unfold State.ctxFree
  split
  · rename_i hnone
    rw [List.getD_eq_getElem?_getD, hnone]
    rfl
  · rename_i c hsome
    have hk : k < s.ctxs.length := (List.getElem?_eq_some_iff.mp hsome).1
    dsimp only
    split
    · change (((s.ctxs.set k _).set k _).getD k ctx0).busy = false
      rw [getD_set_self (by rw [List.length_set]; exact hk)]
      rfl
    · change ((s.ctxs.set k _).getD k ctx0).busy = false
      rw [getD_set_self hk]
      rfl

/-- Of LNK's registers a freed context changes READY only. -/
theorem State.get_ctxFree {s : State} (c : s.canonical = true) (k : Nat) (f : Field) (hf : f.addr ≠ Reg.PAGE_STAT P.LNK) :
    (s.ctxFree k).get f = s.get f := by
  unfold State.ctxFree
  split
  · rfl
  · dsimp only
    split
    · exact State.get_put_other c _ f _ (by decide) (Or.inl hf)
    · rfl

/-- A speculation squashed before its verdict: its context is free, the reason and the count stand. -/
theorem State.squashCtx_result {s : State} (hcan : s.canonical = true) {k : Nat} {c : AckCtx} (hctx : s.ctxs[k]? = some c) (hbusy : c.busy = true)
    (hcom : c.committed = false) (hpass : c.passed = false) {reason : Nat} (hr : reason < 16)
    (hsat : s.get F.LNK_SPEC_STAT_SQUASHES + 1 < 2 ^ F.LNK_SPEC_STAT_SQUASHES.width) :
    ((s.squashCtx k reason).ctxs.getD k ctx0).busy = false ∧ (s.squashCtx k reason).get F.LNK_SPEC_LOSS_REASON = reason ∧
      (s.squashCtx k reason).get F.LNK_SPEC_STAT_SQUASHES = s.get F.LNK_SPEC_STAT_SQUASHES + 1 := by
  obtain ⟨a, b, ha, hb, e⟩ := State.squashCtx_steps hctx hbusy hcom hpass reason
  have ca : a.canonical = true := ha.1.canon hcan
  have cl : (a.specLoss reason).canonical = true := ((Frame.refl 0x4000000000000000 a).specLoss (by decide) reason).1.canon ca
  have cb : b.canonical = true := hb.1.canon cl
  have hsame : a.get F.LNK_SPEC_STAT_SQUASHES = s.get F.LNK_SPEC_STAT_SQUASHES := ha.get hcan _ (by decide)
  obtain ⟨hreason, hcount⟩ := State.get_specLoss ca hr (by rw [hsame]; exact hsat)
  rw [e]
  refine ⟨State.busy_ctxFree b k, ?_, ?_⟩
  · rw [State.get_ctxFree cb k _ (by decide), hb.get cl _ (by decide), hreason]
  · rw [State.get_ctxFree cb k _ (by decide), hb.get cl _ (by decide), hcount, hsame]

/-- Before the verdict a squash ends no receive operation. -/
theorem State.squashLate_of_not_passed {s : State} {k : Nat} {c : AckCtx} (hctx : s.ctxs[k]? = some c) (hpass : c.passed = false) (reason : Nat) :
    s.squashLate k reason = s.squashCtx k reason := by
  unfold State.squashLate
  rw [List.getD_eq_getElem?_getD, hctx]
  dsimp only [Option.getD_some]
  rw [hpass, if_neg Bool.false_ne_true]

/-- The context of a unit's frame is busy and has not committed. -/
theorem State.pending_of_ctxOf {s : State} {u : RxUnit} {k : Nat} {c : AckCtx} (h : s.ctxOf u = some k) (hctx : s.ctxs[k]? = some c) :
    c.busy = true ∧ c.committed = false := by
  unfold State.ctxOf at h
  obtain ⟨hk, hp, -⟩ := List.findIdx?_eq_some_iff_getElem.mp h
  obtain ⟨hk', e⟩ := List.getElem?_eq_some_iff.mp hctx
  rw [e] at hp
  simp only [Bool.and_eq_true, Bool.not_eq_true'] at hp
  exact hp.1

theorem State.commitBar_lt (s : State) (c : AckCtx) : s.commitBar c < 16 := by
  unfold State.commitBar
  dsimp only
  split_ifs <;> decide

theorem squash_of_bar {s : State} {u : RxUnit} {k : Nat} {c : AckCtx} (hu : s.ctxOf u = some k) (hctx : s.ctxs[k]? = some c)
    (hpass : c.passed = false) (hair : s.airTaken c.t0 (s.ackTicks c) = false) (hbar : s.commitBar c ≠ 0) :
    exec (.squash u) s = .next (s.squashCtx k (s.commitBar c)) := by
  have hc : s.ctxs.getD k ctx0 = c := by rw [List.getD_eq_getElem?_getD, hctx, Option.getD_some]
  rw [exec_squash, execSquash, hu]
  dsimp only
  rw [hc, hair, if_neg Bool.false_ne_true, if_neg hbar, State.squashLate_of_not_passed hctx hpass]

theorem commitDeadline_of_ctx {s : State} {u : RxUnit} {k : Nat} {c : AckCtx} (hu : s.ctxOf u = some k) (hctx : s.ctxs[k]? = some c)
    (hpass : c.passed = false) (htime : notBefore s.count (subTicks c.t0 (usTicks 12)) = true) :
    exec (.commitDeadline u) s = .next (s.squashCtx k 5) := by
  have hc : s.ctxs.getD k ctx0 = c := by rw [List.getD_eq_getElem?_getD, hctx, Option.getD_some]
  rw [exec_commitDeadline, execCommitDeadline, hu]
  dsimp only
  rw [hc, if_pos htime, State.squashLate_of_not_passed hctx hpass]

/-- A frame that may still get a speculation, whose filter is passed so far. -/
theorem State.specOpen_eq_some {s : State} {u : RxUnit} {f : RxFrame} {h : MacHdr} (hmac : f.mac = some h) (hspec : f.spec = none)
    (hsq : f.squashed = false) (hwant : s.wantsAck (s.slot u).copy h = true) (hstage : s.headStage f true = 0) :
    s.specOpen u f true = some h := by
  simp [State.specOpen, hmac, hspec, hsq, hwant, hstage, Option.filter_some]

theorem State.headStage_of_judged {s : State} {f : RxFrame} (hearly : f.early = 0) (hjudged : f.judged = some 0) : s.headStage f true = 0 := by
  simp [State.headStage, hearly, hjudged]

theorem speculationStart_of_open {s : State} {u : RxUnit} {f : RxFrame} {h : MacHdr} (hf : (s.slot u).frame = some f)
    (hopen : s.specOpen u f true = some h) : exec (.speculationStart u) s = .next (s.specStart u f h) := by
  rw [exec_speculationStart, execSpeculationStart, hf]
  dsimp only
  rw [hopen]

/-- A frame without a speculation at its deadline loses its acknowledgement, whatever its lookup does. -/
theorem commitDeadline_of_open {s : State} {u : RxUnit} {f : RxFrame} {h : MacHdr} (hu : s.ctxOf u = none) (hf : (s.slot u).frame = some f)
    (hopen : s.specOpen u f true = some h) (hhead : f.header = true) (htime : notBefore s.count (s.frameDeadline u f) = true) :
    exec (.commitDeadline u) s = .next (s.ackLost u 5) := by
  rw [exec_commitDeadline, execCommitDeadline, hu]
  dsimp only
  rw [hf]
  dsimp only
  rw [hopen, hhead, htime]
  rfl

end Sys2Proof.Machine
end

section
/-! SUPPORT. COMMIT (01 R25; 09 R241; 10 R266): the verdict goes to the home device's table, and the context commits. -/

namespace Sys2Proof.Machine

/-- The outcome of a frame at its home device touches no context. -/
theorem State.applyVerdict_ctxs (s : State) (i : Nat) (commit release valid : Bool) (inFc u : Option Nat) (rssi : Int) (lqi src : Nat) :
    (s.applyVerdict i commit release valid inFc u rssi lqi src).ctxs = s.ctxs := by
  have raise (t : State) (w v : Nat) : (t.raiseW i w v).ctxs = t.ctxs :=
    (Frame.raiseW (w := 0x101) (Frame.refl _ _) (by decide) i w v).ctxs (by decide)
  have quality (t : State) : (t.lqUpdate i rssi lqi src).ctxs = t.ctxs :=
    (Frame.lqUpdate (w := 0x101) (Frame.refl _ _) (by decide) i rssi lqi src).ctxs (by decide)
  have drop (t : State) (v : Nat) : (t.dropReserve i v).ctxs = t.ctxs :=
    (Frame.raiseW (w := 0x101) (Frame.refl _ _) (by decide) i 4 (v + 1)).ctxs (by decide)
  have raised : (if commit || valid then (match inFc with | some c => s.raiseW i 3 c | none => s) else s).ctxs = s.ctxs := by
    split
    · split
      · exact raise _ _ _
      · rfl
    · rfl
  have last (t : State) (ht : t.ctxs = s.ctxs) : (if valid && t.entFlag i efValid then t.lqUpdate i rssi lqi src else t).ctxs = s.ctxs := by
    split
    · exact (quality t).trans ht
    · exact ht
  unfold State.applyVerdict
  refine last _ ?_
  cases u with
  | none => exact raised
  | some v =>
    dsimp only
    split
    · exact (drop _ v).trans raised
    · exact raised

/-- A context commits: it is marked, and the commit counts. -/
theorem State.commitCtx_result {s : State} (hcan : s.canonical = true) {k : Nat} {c : AckCtx} (hctx : s.ctxs[k]? = some c)
    (hhome : c.index / 16384 = s.myPos) (hsat : s.get F.LNK_SPEC_STAT_COMMITS + 1 < 2 ^ F.LNK_SPEC_STAT_COMMITS.width) :
    (s.commitCtx k c).ctxs[k]? = some { c with committed := true } ∧
      (s.commitCtx k c).get F.LNK_SPEC_STAT_COMMITS = s.get F.LNK_SPEC_STAT_COMMITS + 1 := by
  have hk : k < s.ctxs.length := (List.getElem?_eq_some_iff.mp hctx).1
  have hsend : s.sendVerdict c.index true false c.remote c.inFc c.u c.rssi c.lqi =
      s.applyVerdict (c.index % 16384) true false c.remote c.inFc c.u c.rssi c.lqi (if s.hvlMaster || s.hvlSlave then s.myPos else 0) := by
    unfold State.sendVerdict
    rw [if_pos hhome]
  have hsent : Frame 0x109 s (s.sendVerdict c.index true false c.remote c.inFc c.u c.rssi c.lqi) := by
    rw [hsend]
    exact Frame.applyVerdict (Frame.refl _ _) (by decide) _ _ _ _ _ _ _ _ _
  have hctxs : (s.sendVerdict c.index true false c.remote c.inFc c.u c.rssi c.lqi).ctxs = s.ctxs := by
    rw [hsend]
    exact State.applyVerdict_ctxs _ _ _ _ _ _ _ _ _ _
  unfold State.commitCtx
  dsimp only
  generalize s.sendVerdict c.index true false c.remote c.inFc c.u c.rssi c.lqi = t at hsent hctxs
  have ct : ({ t with ctxs := t.ctxs.set k { c with committed := true } } : State).canonical = true := hsent.1.canon hcan
  have hsame : ({ t with ctxs := t.ctxs.set k { c with committed := true } } : State).get F.LNK_SPEC_STAT_COMMITS = s.get F.LNK_SPEC_STAT_COMMITS :=
    hsent.get hcan _ (by decide)
  generalize hm : ({ t with ctxs := t.ctxs.set k { c with committed := true } } : State) = m at ct hsame
  have hcount : Frame 0x4000000000000000 m (m.countSat F.LNK_SPEC_STAT_COMMITS) := (Frame.refl _ _).countSat (Or.inr (by decide))
  have hrest := Frame.specRecord (w := 0x100000000000010181) (Frame.event (Frame.refl _ (m.countSat F.LNK_SPEC_STAT_COMMITS)) (by decide) P.LNK 1)
    (by decide) c.unit k 0 0 (c.inFc.getD 0)
  constructor
  · rw [hrest.ctxs (by decide), hcount.ctxs (by decide), ← hm]
    change (t.ctxs.set k _)[k]? = _
    rw [hctxs, List.getElem?_set_self hk]
  · rw [hrest.get (hcount.1.canon ct) _ (by decide), State.get_countSat_self ct _ (by decide) (by rw [hsame]; exact hsat), hsame]

theorem commit_of_no_bar {s : State} {u : RxUnit} {k : Nat} {c : AckCtx} (hu : s.ctxOf u = some k) (hctx : s.ctxs[k]? = some c)
    (hpass : c.passed = true) (hbar : s.commitBar c = 0) : exec (.commit u) s = .next (s.commitCtx k c) := by
  have hc : s.ctxs.getD k ctx0 = c := by rw [List.getD_eq_getElem?_getD, hctx, Option.getD_some]
  rw [exec_commit, execCommit, hu]
  dsimp only
  rw [hc, hpass, hbar]
  rfl

end Sys2Proof.Machine
end

section
/-! SUPPORT. CONTEXT_BLOCK_TAKE (09 R238): each context without a block takes one off the free list, so that all have one where the list
holds as many blocks as there are contexts. -/

namespace Sys2Proof.Machine

/-- What every place of a list holds after a change of one element. -/
theorem modifyAt_getElem? {α : Type} (l : List α) (n m : Nat) (f : α → α) :
    (modifyAt l n f)[m]? = if m = n then l[m]?.map f else l[m]? := by
  induction l generalizing n m with
  | nil => simp [modifyAt]
  | cons x xs ih =>
    cases n <;> cases m <;> simp [modifyAt, ih]

theorem length_modifyAt {α : Type} (l : List α) (n : Nat) (f : α → α) : (modifyAt l n f).length = l.length := by
  induction l generalizing n with
  | nil => rfl
  | cons x xs ih => cases n <;> simp [modifyAt, ih]

theorem State.mem_freeBlocks {s : State} {b : Nat} : b ∈ s.freeBlocks ↔ b < 512 ∧ s.owner b = .free ∧ s.blockUsable b = true := by
  unfold State.freeBlocks
  rw [List.mem_filter, List.mem_range, Bool.and_eq_true, beq_iff_eq]

theorem State.nodup_freeBlocks (s : State) : s.freeBlocks.Nodup := by
  unfold State.freeBlocks
  exact List.Nodup.filter _ List.nodup_range

/-- A block of the free list is taken: it leaves the list, which keeps the others, and nothing else but FRM's registers changes. -/
theorem State.takeBlock_of_free {s : State} (c : s.canonical = true) (hlen : s.owners.length = 512) (hfree : 0 < s.freeCount) {o : Owner}
    (ho : o ≠ .free) :
    ∃ b t, s.takeBlock o = some (b, t) ∧ Frame 0x8000000000010010 s t ∧ t.owners.length = 512 ∧ s.freeCount ≤ t.freeCount + 1 := by
  have hne : s.freeBlocks ≠ [] := List.length_pos_iff.mp hfree
  set i := (Config.freeWord s.freeCtr).toNat % s.freeBlocks.length with hi
  have hlt : i < s.freeBlocks.length := Nat.mod_lt _ hfree
  set b := s.freeBlocks.getD i 0 with hb
  obtain ⟨t, htake, howners⟩ : ∃ t, s.takeBlock o = some (b, t) ∧ t.owners = s.owners.set b o := by
    unfold State.takeBlock
    rw [if_neg (by simpa using hne)]
    dsimp only [State.freeVal]
    refine ⟨_, rfl, ?_⟩
    have hflag (x : State) : (x.flag P.FRM 1).owners = x.owners := by
      unfold State.flag
      split <;> simp [State.raiseFlag]
    split
    · rw [hflag]; rfl
    · rfl
  have hframe : Frame 0x8000000000010010 s t := Frame.takeBlock (Frame.refl _ _) (by decide) _ _ _ htake
  have husable (x : Nat) (hx : x ∈ List.range 512) : t.blockUsable x = s.blockUsable x := by
    unfold State.blockUsable State.bankRetired
    rw [hframe.flt (by decide), hframe.reg c _]
    have h0 : (28 + x / 256) / 32 = 0 := by have := List.mem_range.mp hx; omega
    rw [h0]
    decide
  have hmem : b ∈ s.freeBlocks := by
    rw [hb, List.getD_eq_getElem _ _ hlt]
    exact List.getElem_mem hlt
  have hb512 : b < s.owners.length := by
    rw [hlen]
    exact (State.mem_freeBlocks.mp hmem).1
  have hlist : t.freeBlocks = s.freeBlocks.erase b := by
    rw [s.nodup_freeBlocks.erase_eq_filter]
    unfold State.freeBlocks
    rw [List.filter_filter]
    refine List.filter_congr (fun x hx => ?_)
    rw [husable x hx]
    unfold State.owner
    rw [howners, List.getD_eq_getElem?_getD, List.getD_eq_getElem?_getD, List.getElem?_set]
    by_cases e : b = x
    · subst e
      simp [hb512, ho]
    · simp [e, Ne.symm e, bne]
  refine ⟨b, t, htake, hframe, ?_, ?_⟩
  · rw [howners, List.length_set, hlen]
  · unfold State.freeCount
    rw [hlist, List.length_erase_of_mem hmem]
    omega

/-- Context `k` takes a block where it lacks one. -/
def State.ctxTakeOne (t : State) (k : Nat) : State :=
  if (t.ctxs.getD k ctx0).block.isNone then
    (match t.takeBlock .context with
     | some (b, t1) => { t1 with ctxs := modifyAt t1.ctxs k (fun c => { c with block := some b }) }
     | none => t)
  else t

theorem State.ctxTake_eq (s : State) : s.ctxTake = ((List.range s.ctxs.length).foldl State.ctxTakeOne s).setLnkReady := by
  unfold State.ctxTake
  refine congrArg (fun f => ((List.range s.ctxs.length).foldl f s).setLnkReady) (funext fun t => funext fun k => ?_)
  unfold State.ctxTakeOne
  generalize t.takeBlock .context = o
  cases o <;> rfl

/-- The first `i` contexts of `s` have got their blocks in `t`, and the free list still holds one for each of the others. -/
structure State.CtxsServed (s t : State) (i : Nat) : Prop where
  canon : t.canonical = true
  blocks : t.owners.length = 512
  length : t.ctxs.length = s.ctxs.length
  served : ∀ j < i, ((t.ctxs[j]?).map (fun c => c.block.isSome)) = some true
  left : s.ctxs.length ≤ t.freeCount + i

theorem State.CtxsServed.step {s t : State} {i : Nat} (h : State.CtxsServed s t i) (hi : i < s.ctxs.length) :
    State.CtxsServed s (t.ctxTakeOne i) (i + 1) := by
  obtain ⟨hcan, hblocks, hlength, hserved, hleft⟩ := h
  have hi' : i < t.ctxs.length := by omega
  unfold State.ctxTakeOne
  rw [List.getD_eq_getElem _ _ hi']
  split
  · obtain ⟨b, t1, htake, hframe, hlen1, hcount⟩ := State.takeBlock_of_free hcan hblocks (by omega) (o := .context) (by decide)
    have hctxs : t1.ctxs = t.ctxs := hframe.ctxs (by decide)
    rw [htake]
    dsimp only
    refine ⟨hframe.1.canon hcan, hlen1, ?_, fun j hj => ?_, ?_⟩
    · rw [length_modifyAt, hctxs, hlength]
    · dsimp only
      rw [modifyAt_getElem?, hctxs]
      split
      · rename_i e
        rw [e, List.getElem?_eq_getElem hi']
        rfl
      · exact hserved j (by omega)
    · change s.ctxs.length ≤ t1.freeCount + (i + 1)
      omega
  · rename_i hhas
    refine ⟨hcan, hblocks, hlength, fun j hj => ?_, by omega⟩
    rcases Nat.lt_succ_iff_lt_or_eq.mp hj with e | e
    · exact hserved j e
    · rw [e, List.getElem?_eq_getElem hi']
      simpa [Option.isSome_iff_ne_none] using hhas

theorem State.ctxsServed_foldl {s : State} (c : s.canonical = true) (hlen : s.owners.length = 512) (hfree : s.ctxs.length ≤ s.freeCount) (i : Nat)
    (hi : i ≤ s.ctxs.length) : State.CtxsServed s ((List.range i).foldl State.ctxTakeOne s) i := by
  induction i with
  | zero =>
    rw [List.range_zero, List.foldl_nil]
    exact ⟨c, hlen, rfl, fun j hj => absurd hj (Nat.not_lt_zero j), hfree.trans (Nat.le_add_right _ _)⟩
  | succ i ih =>
    rw [List.range_succ, List.foldl_append]
    exact (ih (by omega)).step (by omega)

/-- Where the free list holds a block for each context, every context has one, and LNK shows READY. -/
theorem State.ctxTake_result {s : State} (c : s.canonical = true) (hlen : s.owners.length = 512) (hfree : s.ctxs.length ≤ s.freeCount) :
    s.ctxTake.ctxs.all (fun c => c.block.isSome) = true ∧ s.ctxTake.on (F.PAGE_STAT_READY P.LNK) = true ∧
      s.ctxTake.ctxs.length = s.ctxs.length := by
  obtain ⟨hcan, -, hlength, hserved, -⟩ := State.ctxsServed_foldl c hlen hfree s.ctxs.length le_rfl
  rw [State.ctxTake_eq]
  generalize (List.range s.ctxs.length).foldl State.ctxTakeOne s = t at hcan hlength hserved
  have hall : t.ctxs.all (fun c => c.block.isSome) = true := by
    rw [List.all_eq_true]
    intro x hx
    obtain ⟨j, hj, e⟩ := List.mem_iff_getElem.mp hx
    have hsome := hserved j (by omega)
    rw [List.getElem?_eq_getElem hj, e] at hsome
    exact Option.some.inj hsome
  have hctxs : t.setLnkReady.ctxs = t.ctxs := State.put_ctxs _ _ _
  refine ⟨by rw [hctxs]; exact hall, ?_, by rw [hctxs, hlength]⟩
  unfold State.on State.setLnkReady
  rw [State.get_put_self hcan _ _ (by decide), hall]
  rfl

theorem contextBlockTake_of_enabled {s : State} (h : s.enabled P.LNK = true) : exec .contextBlockTake s = .next s.ctxTake := by
  rw [exec_contextBlockTake, execContextBlockTake, if_pos h]

end Sys2Proof.Machine
end

section
/-! SUPPORT. SPECULATION_START with a neighbour found (01 R25; 04 R96; 09 R237 to R240): the tune of the acknowledgement, and the context that
is built. -/

namespace Sys2Proof.Machine

theorem State.slot_of_lists {s t : State} (hs : t.slices = s.slices) (hl : t.lanes = s.lanes) (u : RxUnit) : t.slot u = s.slot u := by
  cases u
  · simp only [State.slot, hs]
  · simp only [State.slot, hl]

/-- A tune touches no slot, no context and no reservation. -/
theorem State.crsTune_rest (s : State) (f : Nat) (target : Int) (src : Nat) (u : RxUnit) :
    (s.crsTune f target src).slot u = s.slot u ∧ (s.crsTune f target src).ctxs = s.ctxs ∧
      (s.crsTune f target src).crs.reserved = s.crs.reserved := by
  unfold State.crsTune State.setRetry
  refine ⟨State.slot_of_lists ?_ ?_ u, ?_, rfl⟩ <;> simp only [State.put_slices, State.put_lanes, State.put_ctxs]

/-- A reservation touches no slot and no context, and is the only one where none stood. -/
theorem State.crsReserve_rest {s : State} (hres : s.crs.reserved = []) (v : CrsUser) (u : RxUnit) :
    (s.crsReserve v).crs.reserved = [v] ∧ (s.crsReserve v).slot u = s.slot u ∧ (s.crsReserve v).ctxs = s.ctxs := by
  unfold State.crsReserve
  refine ⟨by simp [hres], State.slot_of_lists ?_ ?_ u, ?_⟩ <;> simp only [State.put_slices, State.put_lanes, State.put_ctxs]

/-- With no reservation standing the acknowledgement's tune is carried out at once, and reserves the synthesiser. -/
theorem State.ackTune_free {s : State} {k freq : Nat} (hres : s.crs.reserved = []) (hband : inTxBand (s.txFreq freq) = true) (u : RxUnit) :
    ∃ t, s.ackTune k freq = (t, .tuned) ∧ t.crs.reserved = [.ack k] ∧ t.slot u = s.slot u ∧ t.ctxs = s.ctxs := by
  have hempty : s.crs.reserved.isEmpty = true := by rw [hres]; rfl
  unfold State.ackTune
  split
  · have hput : (s.put F.SYN_CRS_STAT_SRC 3).crs.reserved = [] := by rw [State.put_crs]; exact hres
    obtain ⟨hone, hslot, hctxs⟩ := State.crsReserve_rest hput (.ack k) u
    exact ⟨_, rfl, hone, hslot.trans (State.slot_of_lists (State.put_slices _ _ _) (State.put_lanes _ _ _) u), hctxs.trans (State.put_ctxs _ _ _)⟩
  · have hreq : s.crsRequest (.ackTune k) freq = (s.crsTune freq (s.txFreq freq) (crsSrc (.ackTune k)), .tuned) := by
      unfold State.crsRequest
      rw [hband, Bool.not_true, if_neg Bool.false_ne_true, if_pos hempty]
    obtain ⟨hslot, hctxs, hkept⟩ := s.crsTune_rest freq (s.txFreq freq) (crsSrc (.ackTune k)) u
    obtain ⟨hone, hslot', hctxs'⟩ := State.crsReserve_rest (hkept.trans hres) (.ack k) u
    rw [hreq]
    exact ⟨_, rfl, hone, hslot'.trans hslot, hctxs'.trans hctxs⟩

/-- The timeline and LNK's registers give the interframe space. -/
theorem State.ackIfs_congr {s t : State} {w : Nat} (h : Frame w s t) (c : s.canonical = true) (ht : w.testBit 3 = false)
    (hw : (w.testBit 17 || w.testBit (32 + P.LNK)) = false) (d : DescCopy) (f : RxFrame) : t.ackIfs d f = s.ackIfs d f := by
  have hpage : pageIx (F.LNK_ACK_IFS_IFS_US d.modeCode).addr = P.LNK := by
    have := Nat.mod_lt d.mode (show 0 < 16 by decide)
    simp only [F.LNK_ACK_IFS_IFS_US, Reg.LNK_ACK_IFS, DescCopy.modeCode, pageIx, P.LNK]
    omega
  unfold State.ackIfs
  rw [h.timeline ht, h.get c _ (by rw [hpage]; exact hw)]

/-- What a context shows once an acknowledgement has been built in it. -/
structure State.SpecBuilt (s t : State) (u : RxUnit) (f : RxFrame) (v : NbtView) (k : Nat) : Prop where
  frame : ((t.slot u).frame.map (fun (g : RxFrame) => g.spec)) = some (some k)
  busy : (t.ctxs.getD k ctx0).busy = true
  committed : (t.ctxs.getD k ctx0).committed = false
  unit : (t.ctxs.getD k ctx0).unit = u
  index : (t.ctxs.getD k ctx0).index = v.index
  t0 : (t.ctxs.getD k ctx0).t0 = addTicks f.endAt (usTicks (s.ackIfs (s.slot u).copy f))
  reserved : t.crs.reserved = [CrsUser.ack k]

/-- The context is written, the frame names it, and the record of a start changes neither. -/
theorem State.specShown {s : State} {u : RxUnit} {g : RxFrame} (hf : (s.slot u).frame = some g) {k : Nat} (hk : k < s.ctxs.length) (x : AckCtx)
    (fc : Nat) :
    ((((({ s with ctxs := s.ctxs.set k x } : State).onFrame u (fun g => { g with spec := some k })).specRecord u k 1 0 fc).slot u).frame.map
        (fun (g : RxFrame) => g.spec)) = some (some k) ∧
      (((({ s with ctxs := s.ctxs.set k x } : State).onFrame u (fun g => { g with spec := some k })).specRecord u k 1 0 fc).ctxs.getD k ctx0) = x ∧
      ((({ s with ctxs := s.ctxs.set k x } : State).onFrame u (fun g => { g with spec := some k })).specRecord u k 1 0 fc).crs = s.crs := by
  have hframe := State.frame_onFrame (s := { s with ctxs := s.ctxs.set k x }) hf (fun g => { g with spec := some k })
  have hctxs := (Frame.onFrame (w := 4) (Frame.refl _ ({ s with ctxs := s.ctxs.set k x } : State)) (by decide) u
    (fun g => { g with spec := some k })).ctxs (by decide)
  have hcrs : (({ s with ctxs := s.ctxs.set k x } : State).onFrame u (fun g => { g with spec := some k })).crs = s.crs := by cases u <;> rfl
  have hrec := Frame.specRecord (w := 0x100000000000010101) (Frame.refl _ (({ s with ctxs := s.ctxs.set k x } : State).onFrame u
    (fun g => { g with spec := some k }))) (by decide) u k 1 0 fc
  refine ⟨?_, ?_, (hrec.crs (by decide)).trans hcrs⟩
  · rw [hrec.slot (by decide), hframe, Option.map_some]
  · rw [hrec.ctxs (by decide), hctxs]
    exact getD_set_self hk

theorem State.specBuild_built {s : State} (c : s.canonical = true) {u : RxUnit} {f g : RxFrame} (hf : (s.slot u).frame = some g) (h : MacHdr)
    {v : NbtView} (hhome : v.index / 16384 = s.myPos) (hout : s.outSpent (v.index % 16384) = false) {k freq : Nat} (hk : k < s.ctxs.length)
    (hres : s.crs.reserved = []) (hband : inTxBand (s.txFreq freq) = true) : State.SpecBuilt s (s.specBuild u f h v k freq) u f v k := by
  have hremote : (v.index / 16384 != s.myPos) = false := by simp [hhome]
  have hkeys (x : State) : Frame 0x61880000000000182 x
      (if h.version == 2 && h.secured then x.frameKey h.keyMode (keyIndex h) (v.words.getD 2 0 / 65536) else (none, x)).2 :=
    Frame.ite2 (Frame.frameKey (Frame.refl _ _) (by decide) _ _ _) (Frame.refl _ _)
  have hkeyed := hkeys { s with reserved := s.reserved ++ [(v.index % 16384, s.nextOut (v.index % 16384))] }
  unfold State.specBuild
  dsimp only [State.reserveOut]
  rw [hremote, hout]
  simp only [Bool.false_eq_true, if_false]
  generalize (if h.version == 2 && h.secured then _ else _ : Option (List Nat) × State) = p at hkeyed ⊢
  obtain ⟨key, s2⟩ := p
  dsimp only at hkeyed ⊢
  have hband2 : inTxBand (s2.txFreq freq) = true := by
    unfold State.txFreq State.getInt
    rw [hkeyed.get c _ (by decide)]
    exact hband
  have hifs : s2.ackIfs (s.slot u).copy f = s.ackIfs (s.slot u).copy f := State.ackIfs_congr hkeyed c (by decide) (by decide) _ f
  obtain ⟨s3, htune, hone, hslot, hctxs⟩ := State.ackTune_free (s := s2) (k := k) (freq := freq) ((congrArg Crs.reserved (hkeyed.crs (by decide))).trans hres) hband2 u
  have hk3 : k < s3.ctxs.length := by rw [hctxs, hkeyed.ctxs (by decide)]; exact hk
  have hslot3 : s3.slot u = s.slot u := hslot.trans (hkeyed.slot (by decide) u)
  obtain ⟨hspec, hx, hcrs⟩ := State.specShown (by rw [hslot3]; exact hf) hk3 _ h.counter
  rw [htune]
  constructor
  case frame => exact hspec
  case t0 => exact (congrArg AckCtx.t0 hx).trans (congrArg (fun i => addTicks f.endAt (usTicks i)) hifs)
  case reserved => exact (congrArg Crs.reserved hcrs).trans hone
  all_goals exact congrArg _ hx

/-- A frame with a found neighbour, a free context, no rival and nothing committed on air gets its acknowledgement built. -/
theorem State.specStart_of_found {s : State} {u : RxUnit} {f : RxFrame} {h : MacHdr} {v : NbtView} {k : Nat} (hlook : f.lookup = .found v)
    (hmeas : f.meas = none) (hblocked : wordsFlag v.words efBlocked = false) (hretired : wordsFlag v.words efRetired = false)
    (hhome : v.index / 16384 = s.myPos) (hout : s.outSpent (v.index % 16384) = false) (hlate : f.lateInput = false)
    (hbefore : s.rivalBefore u f = false) (hafter : s.rivalsAfter u f = [])
    (hctx : s.ctxs.findIdx? (fun c => !c.busy && c.block.isSome) = some k) (hair : s.committedAir = [])
    (hband : inTxBand (s.txFreq (s.slot u).copy.freq) = true) (hres : s.crs.reserved = []) :
    s.specStart u f h = s.specBuild u f h v k (s.slot u).copy.freq := by
  have htaken (t0 len : Nat) : s.airTaken t0 len = false := by simp [State.airTaken, hair]
  unfold State.specStart
  rw [hlook]
  simp [hmeas, hblocked, hretired, hhome, hout, hlate, hbefore, hafter, hctx, htaken, hband, hres]

theorem State.specStart_of_notFound {s : State} {u : RxUnit} {f : RxFrame} {h : MacHdr} (hlook : f.lookup = .notFound) :
    s.specStart u f h = s.ackLost u 4 := by
  unfold State.specStart
  rw [hlook]

end Sys2Proof.Machine
end

section
/-! SUPPORT. RECEIVE_WINDOW_CLOSE (05 R130, R141; 09 R228): the window shuts, and with no frame under way the operation of its entry ends DONE
and the receiver stays on. -/

namespace Sys2Proof.Machine

theorem State.record_radio (s : State) (typ src data : Nat) : (s.record typ src data).radio = s.radio :=
  (Frame.record (w := 0x10101) (Frame.refl _ s) (by decide) typ src data).radio (by decide)

theorem State.setGain_of_ne {s : State} {g : Nat} (h : s.get F.RFE_GAIN_STAT_GAIN_IDX ≠ g) :
    s.setGain g = ((((s.put F.RFE_GAIN_STAT_GAIN_IDX g).countWrap F.RFE_GAIN_STAT_CHANGES).markFrames
      (fun f => { f with gainStep := true })).record 0x05 0 (g + 256)).record 0x05 0 g := if_neg h

theorem State.setGain_radio (s : State) (g : Nat) : (s.setGain g).radio = s.radio := by
  have marked (t : State) (m : RxFrame → RxFrame) : (t.markFrames m).radio = t.radio := rfl
  by_cases h : s.get F.RFE_GAIN_STAT_GAIN_IDX = g
  · exact congrArg State.radio (if_pos h)
  · rw [State.setGain_of_ne h, State.record_radio, State.record_radio, marked, State.countWrap_radio, State.put_radio]

/-- Starting the receiver takes no operation from the radio. -/
theorem State.rxStart_op (s : State) : s.rxStart.radio.op = s.radio.op := by
  have gain (t : State) : t.rxStartGain.radio = t.radio := by
    unfold State.rxStartGain
    split
    · exact t.setGain_radio _
    · rfl
  have quiet (t : State) : t.antQuiet.radio.op = t.radio.op := by
    unfold State.antQuiet
    split
    · rfl
    · split <;> rfl
  have last (t : State) : t.antQuiet.rxStartGain.agcSettings.holdRestart.radio.op = t.radio.op :=
    (congrArg Radio.op (gain t.antQuiet)).trans (quiet t)
  unfold State.rxStart
  split
  · rfl
  · dsimp only
    rw [last]
    split
    · simp only [State.setRetry, State.scsSettle, State.put_radio, State.setPageSt_radio]
    · simp only [State.setPageSt_radio]

/-- With nothing that waits, the exit to RX leaves the radio's operation and the timeline as they are. -/
theorem State.opExit_rx {s : State} (h : s.waits = false) (d : Nat) :
    (s.opExit 2 d).radio.op = s.radio.op ∧ (s.opExit 2 d).timeline = s.timeline := by
  have e : s.opExit 2 d = if s.judged = 3 then s else s.rxStart.moveTo 3 := by
    unfold State.opExit
    rw [h, if_neg Bool.false_ne_true]
    rfl
  rw [e]
  split
  · exact ⟨rfl, rfl⟩
  · have hmove : (s.rxStart.moveTo 3).radio = s.rxStart.radio := by
      simp only [State.moveTo, State.put_radio]
    have hstart := Frame.moveTo (w := 0x3F40000000010105) (Frame.rxStart (Frame.refl _ s) (by decide)) (by decide) 3
    exact ⟨(congrArg Radio.op hmove).trans s.rxStart_op, hstart.timeline (by decide)⟩

/-- A timeline operation that ends DONE leaves its completion in its entry (09 R227), and the radio its other operations. -/
theorem State.endSrc_entry_done {s : State} {n : Nat} (hn : n < s.timeline.length) (slip noFrame ccaBusy argErr : Bool) (at_ : Nat) :
    (s.endSrc (.entry n) 1 slip noFrame ccaBusy argErr at_).radio.op = s.radio.op ∧
      (s.endSrc (.entry n) 1 slip noFrame ccaBusy argErr at_).waits = s.waits ∧
      ((s.endSrc (.entry n) 1 slip noFrame ccaBusy argErr at_).ent n).ended.map (fun (e : EntryEnd) => (e.status, e.noFrame)) =
        some (1, noFrame) := by
  refine ⟨rfl, rfl, ?_⟩
  change ((modifyAt s.timeline n _).getD n entry0).ended.map _ = _
  rw [List.getD_eq_getElem?_getD, modifyAt_getElem?, if_pos rfl, List.getElem?_eq_getElem hn]
  rfl

/-- The state in which the receive window has shut. -/
def State.windowShut (s : State) : State := s.setRadio (fun r => { r with winShut := true })

/-- A receive operation whose window has passed is checked with the window shut. -/
theorem exec_receiveWindowClose_due {s : State} {o : RadOp} (hop : s.radio.op = some o) (hrx : o.opcode = opRx ∨ o.opcode = opRxMulti)
    (hw : (s.srcWords o.src).getD 3 0 % 2 ^ 20 ≠ 0)
    (htime : notBefore s.count (addTicks o.instant (usTicks ((s.srcWords o.src).getD 3 0 % 2 ^ 20))) = true) :
    exec .receiveWindowClose s = .next s.windowShut.windowCheck := by
  rw [exec_receiveWindowClose, execReceiveWindowClose, hop]
  exact congrArg Host.Outcome.next (if_pos ⟨hrx, hw, htime⟩)

/-- A frame under way keeps the operation. -/
theorem State.windowCheck_underWay {s : State} (h : s.frameUnderWay = true) : s.windowCheck = s := by
  unfold State.windowCheck
  rw [h, Bool.not_true, Bool.and_false, Bool.false_and, if_neg Bool.false_ne_true]

/-- A timeline's receive operation whose window ends it is over, and its entry shows NO_FRAME where it says so. -/
theorem State.rxOver_entry {s : State} {o : RadOp} {n : Nat} (hop : s.radio.op = some o) (hrx : o.opcode = opRx ∨ o.opcode = opRxMulti)
    (hsrc : o.src = .entry n) (hn : n < s.timeline.length) (hexit : o.exit = 2) (hwaits : s.waits = false) (noFrame : Bool) :
    (s.rxOver noFrame).radio.op = none ∧
      (((s.rxOver noFrame).ent n).ended.map (fun (e : EntryEnd) => (e.status, e.noFrame))) = some (1, noFrame) := by
  have hex : (if o.opcode = opRxMulti then 2 else o.exit) = 2 := by rw [hexit, ite_self]
  unfold State.rxOver
  rw [hop]
  dsimp only
  rw [if_pos hrx, hex, hsrc]
  generalize (if noFrame then s.count else s.radio.lastRes.endAt) = at_
  obtain ⟨hnone, hsame, hended⟩ := State.endSrc_entry_done
    (s := s.setRadio (fun r => { r with op := none, waitAck := false, winShut := false })) hn o.slip noFrame false false at_
  obtain ⟨hop', htl⟩ := State.opExit_rx (hsame.trans hwaits) o.desc
  refine ⟨hop'.trans hnone, ?_⟩
  unfold State.ent at hended ⊢
  rw [htl]
  exact hended

theorem receiveWindowClose_underWay {s : State} {o : RadOp} (hop : s.radio.op = some o) (hrx : o.opcode = opRx ∨ o.opcode = opRxMulti)
    (hw : (s.srcWords o.src).getD 3 0 % 2 ^ 20 ≠ 0)
    (htime : notBefore s.count (addTicks o.instant (usTicks ((s.srcWords o.src).getD 3 0 % 2 ^ 20))) = true) (hframe : s.frameUnderWay = true) :
    exec .receiveWindowClose s = .next s.windowShut := by
  rw [exec_receiveWindowClose_due hop hrx hw htime, State.windowCheck_underWay (s := s.windowShut) hframe]

theorem receiveWindowClose_idle {s : State} {o : RadOp} (hop : s.radio.op = some o) (hrx : o.opcode = opRx ∨ o.opcode = opRxMulti)
    (hw : (s.srcWords o.src).getD 3 0 % 2 ^ 20 ≠ 0)
    (htime : notBefore s.count (addTicks o.instant (usTicks ((s.srcWords o.src).getD 3 0 % 2 ^ 20))) = true) (hframe : s.frameUnderWay = false)
    (hack : s.radio.waitAck = false) :
    exec .receiveWindowClose s = .next (s.windowShut.rxOver (!s.radio.winSync)) := by
  have hframe' : s.windowShut.frameUnderWay = false := hframe
  have hack' : s.windowShut.radio.waitAck = false := hack
  rw [exec_receiveWindowClose_due hop hrx hw htime]
  unfold State.windowCheck
  rw [hframe', hack']
  rfl

end Sys2Proof.Machine
end

section
/-! O14: the events of a lookup, of the shared units, of a speculation and of a receive window, clause by clause from the results above. -/

namespace Sys2Proof.Machine

/-- Settles O14: each event by the result lemma of its operation. -/
theorem speculationEventsComplete : Obligations.SpeculationEventsComplete := by
  refine ⟨?notFound, ?found, ?inFlight, ?blockRx, ?blockTx, ?blockAck, ?segment, ?cipherBlock, ?lookup, ?remoteLookup, ?started, ?unknown,
    ?blocksTaken, ?committed, ?squashed, ?late, ?inputLate, ?windowKept, ?windowClosed⟩
  case notFound =>
    intro s u f h k r c hport hleft hframe hreq hnbt hkey hhome hbad hfind hsat
    exact nbtLookupReturn_notFound c hport hleft hframe hreq hnbt hkey hhome hbad hfind hsat
  case found =>
    intro s u f h k r n _ hport hleft hframe hreq hnbt hkey hhome hbad hfind halias _ hix hrsv
    have hentry := nbtLookupReturn_entry hport hleft hframe hreq hnbt hkey hhome hbad hfind halias hix
    rwa [hrsv, if_neg Bool.false_ne_true] at hentry
  case inFlight =>
    intro s u f h k r n _ hport hleft hframe hreq hnbt hkey hhome hbad hfind halias _ hix hrsv
    have hentry := nbtLookupReturn_entry hport hleft hframe hreq hnbt hkey hhome hbad hfind halias hix
    rwa [hrsv, if_pos rfl] at hentry
  case blockRx =>
    intro s u f h hframe hmac hsec hpage
    exact ⟨_, securityRequest_rx hframe hmac hsec hpage, rfl, rfl, rfl⟩
  case blockTx =>
    intro s n j htx hsrc hsec hstage hpage
    exact ⟨_, securityRequest_tx htx hsrc hsec hstage hpage, rfl, rfl, rfl⟩
  case blockAck =>
    intro s k c hctx hbusy hcom hkey hpage
    exact ⟨_, securityRequest_ack hctx hbusy hcom hkey hpage, rfl, rfl, rfl⟩
  case segment =>
    intro s r hfree htest hfirst htime
    exact ⟨_, exec_sharedRequestServed_onTime hfree (by rw [htest, Bool.and_false]) hfirst htime, rfl, rfl, rfl⟩
  case cipherBlock =>
    intro s r hfree hfirst htime
    exact ⟨_, exec_sharedRequestServed_onTime hfree rfl hfirst htime, rfl, rfl, rfl⟩
  case lookup =>
    intro s r u st h k hfree hfirst htime hreq hkey hhome
    have hexec := exec_sharedRequestServed_onTime hfree rfl hfirst htime
    rw [State.takesUp, State.portTakes_home (s := s.unqueued r) hreq hkey hhome] at hexec
    exact ⟨_, hexec, rfl, rfl, rfl⟩
  case remoteLookup =>
    intro s r u st h k hfree hfirst htime hreq hkey hup
    obtain ⟨hserv, hshared, hwaits⟩ := State.lookupLeaves_waits (s := s.unqueued r) hreq hkey hup
    exact ⟨_, exec_sharedRequestServed_onTime hfree rfl hfirst htime, hserv, hshared, hwaits⟩
  case started =>
    intro s u f h v k c hframe hmac hspec hsq hwant hearly hjudged hlook hmeas hblocked hretired hhome hout hlate hbefore hafter hctx hair hband hres
    have hopen := State.specOpen_eq_some hmac hspec hsq hwant (State.headStage_of_judged hearly hjudged)
    have hk : k < s.ctxs.length := (List.findIdx?_eq_some_iff_getElem.mp hctx).1
    obtain ⟨hg, hbusy, hcom, hunit, hindex, ht0, hreserved⟩ := State.specBuild_built c hframe h hhome hout hk hres hband
    have hexec := (speculationStart_of_open hframe hopen).trans (congrArg Host.Outcome.next (State.specStart_of_found hlook hmeas hblocked hretired
      hhome hout hlate hbefore hafter hctx hair hband hres))
    exact ⟨_, hexec, hg, hbusy, hcom, hunit, hindex, ht0, hreserved⟩
  case unknown =>
    intro s u f h c hframe hmac hspec hsq hwant hearly hjudged hlook hsat
    have hopen := State.specOpen_eq_some hmac hspec hsq hwant (State.headStage_of_judged hearly hjudged)
    exact ⟨_, (speculationStart_of_open hframe hopen).trans (congrArg Host.Outcome.next (State.specStart_of_notFound hlook)),
      State.ackLost_result c hframe (by decide) hsat⟩
  case blocksTaken =>
    intro s c hpage hlen hfree
    exact ⟨_, contextBlockTake_of_enabled hpage, State.ctxTake_result c hlen hfree⟩
  case committed =>
    intro s u k c hcan hu hctx hpass hbar hhome hsat
    exact ⟨_, commit_of_no_bar hu hctx hpass hbar, State.commitCtx_result hcan hctx hhome hsat⟩
  case squashed =>
    intro s u k c hcan hu hctx hpass hsat hair hbar
    obtain ⟨hbusy, hcom⟩ := State.pending_of_ctxOf hu hctx
    exact ⟨_, squash_of_bar hu hctx hpass hair hbar, State.squashCtx_result hcan hctx hbusy hcom hpass (s.commitBar_lt c) hsat⟩
  case late =>
    intro s u k c hcan hu hctx hpass hsat htime
    obtain ⟨hbusy, hcom⟩ := State.pending_of_ctxOf hu hctx
    exact ⟨_, commitDeadline_of_ctx hu hctx hpass htime, State.squashCtx_result hcan hctx hbusy hcom hpass (by decide) hsat⟩
  case inputLate =>
    intro s u f h c hframe hmac hspec hsq hwant hu _ hhead hstage htime hsat
    exact ⟨_, commitDeadline_of_open hu hframe (State.specOpen_eq_some hmac hspec hsq hwant hstage) hhead htime,
      State.ackLost_result c hframe (by decide) hsat⟩
  case windowKept =>
    intro s o hop hrx hw htime hframe
    exact ⟨_, receiveWindowClose_underWay hop hrx hw htime hframe, rfl, rfl⟩
  case windowClosed =>
    intro s o n _ hop hrx hw htime hframe hsrc hn hack hexit hwaits
    exact ⟨_, receiveWindowClose_idle hop hrx hw htime hframe hack,
      State.rxOver_entry (s := s.windowShut) hop hrx hsrc hn hexit hwaits (!s.radio.winSync)⟩

end Sys2Proof.Machine
end

section
/-! SUPPORT. What goes on beside a transmission: the relation `TxAside` between a state and a later one in which the jobs and the operation of the
radio, the transmission's reservation of the carrier synthesiser and one register are as before, with one law for each operation. -/

namespace Sys2Proof.Machine

/-- What the radio sends and does: the transmission and the one after it, the operation, the turn-round, and whether a command waits. -/
def State.txView (s : State) : Option TxJob × Option TxJob × Option RadOp × Bool × Bool :=
  (s.radio.tx, s.radio.txNext, s.radio.op, s.radio.turnRx, s.waits)

/-- From `a` to `t` the radio goes on with what it sends and does, keeps a transmission's reservation, and the register at `x` reads the same. -/
structure TxAside (x : Nat) (a t : State) : Prop where
  keeps : Keeps a t
  view : t.txView = a.txView
  reserved : CrsUser.tx ∈ a.crs.reserved → CrsUser.tx ∈ t.crs.reserved
  reg : a.canonical = true → t.reg x = a.reg x

namespace TxAside

variable {x : Nat} {a s t : State}

theorem refl (x : Nat) (a : State) : TxAside x a a := ⟨Keeps.refl a, rfl, id, fun _ => rfl⟩

theorem trans (h : TxAside x a s) (g : TxAside x s t) : TxAside x a t :=
  ⟨h.keeps.trans g.keeps, g.view.trans h.view, fun r => g.reserved (h.reserved r), fun c => (g.reg (h.keeps.canon c)).trans (h.reg c)⟩

theorem canon (h : TxAside x a t) (c : a.canonical = true) : t.canonical = true := h.keeps.canon c

theorem get (h : TxAside x a t) (c : a.canonical = true) (f : Field) (e : f.addr = x) : t.get f = a.get f := by
  subst e
  unfold State.get
  rw [h.reg c]

theorem tx (h : TxAside x a t) : t.radio.tx = a.radio.tx := congrArg Prod.fst h.view

theorem txNext (h : TxAside x a t) : t.radio.txNext = a.radio.txNext := congrArg (fun v => v.2.1) h.view

theorem op (h : TxAside x a t) : t.radio.op = a.radio.op := congrArg (fun v => v.2.2.1) h.view

theorem turnRx (h : TxAside x a t) : t.radio.turnRx = a.radio.turnRx := congrArg (fun v => v.2.2.2.1) h.view

theorem waits (h : TxAside x a t) : t.waits = a.waits := congrArg (fun v => v.2.2.2.2) h.view

theorem ite {c : Prop} [Decidable c] (h : TxAside x a s) (g : TxAside x a t) : TxAside x a (if c then s else t) := by
  split <;> assumption

theorem foldl {α : Type} {f : State → α → State} {l : List α} (h : TxAside x a s) (g : ∀ u y, TxAside x u (f u y)) : TxAside x a (l.foldl f s) := by
  induction l generalizing s with
  | nil => exact h
  | cons y l ih => exact ih (h.trans (g s y))

/-- An update of parts that the relation says nothing about. -/
theorem same (h : TxAside x a s) (k : Keeps s t) (hv : t.txView = s.txView) (hc : t.crs.reserved = s.crs.reserved) (hr : t.regs = s.regs) :
    TxAside x a t :=
  h.trans ⟨k, hv, fun r => hc ▸ r, fun _ => State.reg_of_regs hr x⟩

/-- An operation whose frame leaves the radio and the page of the register alone. -/
theorem frame {w : Nat} (h : TxAside x a s) (f : Frame w s t) (hw : w.testBit 2 = false) (hx : (w.testBit 17 || w.testBit (32 + pageIx x)) = false) :
    TxAside x a t := by
  refine h.trans ⟨f.1, ?_, fun r => by rw [f.crs hw]; exact r, fun c => f.reg c x hx⟩
  unfold State.txView State.waits
  rw [f.radio hw]

/-- An operation whose frame names no page. -/
theorem parts {w : Nat} (h : TxAside x a s) (f : Frame w s t) (hw : w.testBit 2 = false) (hx : w < 2 ^ 17) : TxAside x a t := by
  have high (n : Nat) (hn : 17 ≤ n) : w.testBit n = false := Nat.testBit_lt_two_pow (hx.trans_le (Nat.pow_le_pow_right (by decide) hn))
  exact h.frame f hw (by rw [high 17 le_rfl, high (32 + pageIx x) (by omega), Bool.or_false])

theorem setReg (h : TxAside x a s) {y : Nat} (v : Word) (hx : x ≠ y) : TxAside x a (s.setReg y v) :=
  h.trans ⟨(Keeps.refl s).setReg y v, by simp [State.txView, State.waits], by simp, fun c => by rw [State.reg_setReg c, if_neg hx]⟩

theorem put (h : TxAside x a s) {f : Field} (v : Nat) (hx : x ≠ f.addr) : TxAside x a (s.put f v) := h.setReg _ hx

theorem countSat (h : TxAside x a s) {f : Field} (hx : x ≠ f.addr) : TxAside x a (s.countSat f) := by
  unfold State.countSat
  exact (h.put _ hx).ite h

theorem setPageSt (h : TxAside x a s) (p v : Nat) (hx : x ≠ Reg.PAGE_STAT p) : TxAside x a (s.setPageSt p v) := h.setReg _ hx

theorem flag (h : TxAside x a s) (p n : Nat) (hx : x ≠ Reg.IRQ_RAW p) : TxAside x a (s.flag p n) := by
  unfold State.flag
  exact (h.setReg _ hx).ite h

theorem event (h : TxAside x a s) (p n : Nat) : TxAside x a (s.event p n) :=
  h.parts (Frame.event (w := 0x80) (Frame.refl _ _) (by decide) p n) (by decide) (by decide)

theorem record (h : TxAside x a s) (typ src data : Nat) : TxAside x a (s.record typ src data) :=
  h.parts (Frame.record (w := 0x10101) (Frame.refl _ _) (by decide) typ src data) (by decide) (by decide)

theorem setRetry (h : TxAside x a s) (u k : Nat) : TxAside x a (s.setRetry u k) :=
  h.parts (Frame.setRetry (w := 0x100) (Frame.refl _ _) (by decide) u k) (by decide) (by decide)

theorem setAnt (h : TxAside x a s) (n : Nat) : TxAside x a (s.setAnt n) := h.same ((Keeps.refl s).setAnt n) rfl rfl rfl

theorem antQuiet (h : TxAside x a s) : TxAside x a s.antQuiet := by
  unfold State.antQuiet
  exact h.ite ((h.setAnt _).ite (h.setAnt _))

theorem moveTo (h : TxAside x a s) (v : Nat) (hx : x ≠ Reg.RAD_STATE) : TxAside x a (s.moveTo v) := (h.put 1 hx).put v hx

theorem withRecorder (h : TxAside x a s) (r : Recorder) : TxAside x a { s with recorder := r } := by
  refine h.same (Keeps.upd (Keeps.refl s) rfl (OtpKept.refl _)) ?_ ?_ ?_ <;> rfl

/-- The recorder's trigger (22 R498). -/
theorem recTrigger (h : TxAside x a s) (cause : Nat) (h1 : x ≠ Reg.PAGE_STAT P.REC) (h2 : x ≠ Reg.REC_STAT) : TxAside x a (s.recTrigger cause) := by
  unfold State.recTrigger
  exact ((((h.record 0x11 0 cause).setPageSt P.REC 2 h1).put cause h2).withRecorder _).ite h

end TxAside

/-- The registers that a final status writes (05 R125, R142; 09 R227; 22 R498). -/
def statusRegs : List Nat :=
  [Reg.RAD_CMD_STAT, Reg.RAD_COUNTS, Reg.IRQ_RAW P.RAD, Reg.IRQ_RAW P.LNK, Reg.PAGE_STAT P.REC, Reg.REC_STAT]

namespace TxAside

variable {x : Nat} {a s t : State}

theorem recStatus (h : TxAside x a s) (status : Nat) (h1 : x ≠ Reg.PAGE_STAT P.REC) (h2 : x ≠ Reg.REC_STAT) : TxAside x a (s.recStatus status) := by
  unfold State.recStatus
  exact (h.recTrigger 3 h1 h2).ite ((h.recTrigger 4 h1 h2).ite h)

/-- The counters, the flags and the triggers of a final status. -/
theorem statusNoted (h : TxAside x a s) (status : Nat) (h1 : x ≠ Reg.PAGE_STAT P.REC) (h2 : x ≠ Reg.REC_STAT) (h3 : x ≠ Reg.RAD_COUNTS)
    (h4 : x ≠ Reg.IRQ_RAW P.RAD) : TxAside x a
      ((if status = 4 then (s.countSat F.RAD_COUNTS_LATE).flag P.RAD 4 else if status = 6 then s.flag P.RAD 5 else s).recStatus status) :=
  (((h.countSat h3).flag _ _ h4).ite ((h.flag _ _ h4).ite h)).recStatus status h1 h2

theorem endSrc (h : TxAside x a s) (hx : x ∉ statusRegs) (src : OpSrc) (status : Nat) (slip noFrame ccaBusy argErr : Bool) (endAt : Nat) :
    TxAside x a (s.endSrc src status slip noFrame ccaBusy argErr endAt) := by
  simp only [statusRegs, List.mem_cons, List.not_mem_nil, not_or] at hx
  obtain ⟨hcmd, hcounts, hrad, hlnk, hpage, hstat, -⟩ := hx
  unfold State.endSrc
  refine statusNoted ?_ status hpage hstat hcounts hrad
  cases src with
  | software n =>
    exact ((((((((h.put _ hcmd).put _ hcmd).put _ hcmd).put _ hcmd).put _ hcmd).flag _ _ hrad).event _ _)).ite h
  | entry i =>
    dsimp only
    have hend (t : State) (g : TxAside x a t) : TxAside x a (if status = 2 then t.flag P.LNK 2 else if status = 4 then t.flag P.LNK 1 else t) :=
      (g.flag _ _ hlnk).ite ((g.flag _ _ hlnk).ite g)
    exact hend _ (h.same (Keeps.upd (Keeps.refl _) rfl (OtpKept.refl _)) rfl rfl rfl)
  | internal => exact h

theorem endPlain (h : TxAside x a s) (hx : x ∉ statusRegs) (src : OpSrc) (status : Nat) : TxAside x a (s.endPlain src status) := h.endSrc hx ..

theorem unblank (h : TxAside x a s) (hx : x ≠ Reg.RAD_STATE) : TxAside x a s.unblank := by
  unfold State.unblank
  exact ((h.put 0 hx).record _ _ _).ite h

theorem setRadio (h : TxAside x a s) (g : Radio → Radio) (hv : (s.setRadio g).txView = s.txView) : TxAside x a (s.setRadio g) :=
  h.same ((Keeps.refl s).setRadio g) hv rfl rfl

end TxAside

end Sys2Proof.Machine
end

section
/-! SUPPORT. The receiver and the synthesisers beside a transmission: starts and stops, tunes, holds and releases. -/

namespace Sys2Proof.Machine

/-- The registers that a start or a stop of the receiver writes (03 R63, R75, R80). -/
def receiverRegs : List Nat :=
  [Reg.PAGE_STAT P.RFE, Reg.PAGE_STAT P.CHN, Reg.PAGE_STAT P.NBD, Reg.PAGE_STAT P.OFD, Reg.PAGE_STAT P.FEC, Reg.RFE_CFG, Reg.RFE_GAIN_STAT,
    Reg.SYN_SCS_STAT, Reg.SYN_SCS_ACTIVE]

/-- The registers that the state machine of the radio writes when it enters a state (05 R122, R142; 18 R421). -/
def stateRegs : List Nat := [Reg.RAD_STATE, Reg.PAGE_STAT P.RAD, Reg.IRQ_RAW P.RAD, Reg.CLK_STAT]

theorem ne_of_mem_regs {x y : Nat} {l : List Nat} (hx : x ∉ l) (hy : y ∈ l) : x ≠ y := fun e => hx (e ▸ hy)

namespace TxAside

variable {x : Nat} {a s t : State}

theorem withRfe (h : TxAside x a s) (r : Rfe) : TxAside x a { s with rfe := r } := by
  refine h.same (Keeps.upd (Keeps.refl s) rfl (OtpKept.refl _)) ?_ ?_ ?_ <;> rfl

theorem withSlots (h : TxAside x a s) (us ls : List RxSlot) : TxAside x a { s with slices := us, lanes := ls } := by
  refine h.same (Keeps.upd (Keeps.refl s) rfl (OtpKept.refl _)) ?_ ?_ ?_ <;> rfl

theorem withCtxs (h : TxAside x a s) (cs : List AckCtx) : TxAside x a { s with ctxs := cs } := by
  refine h.same (Keeps.upd (Keeps.refl s) rfl (OtpKept.refl _)) ?_ ?_ ?_ <;> rfl

theorem withShared (h : TxAside x a s) (rs : List SharedReq) : TxAside x a { s with shared := rs } := by
  refine h.same (Keeps.upd (Keeps.refl s) rfl (OtpKept.refl _)) ?_ ?_ ?_ <;> rfl

theorem withCrs (h : TxAside x a s) (c : Crs) (hc : CrsUser.tx ∈ s.crs.reserved → CrsUser.tx ∈ c.reserved) : TxAside x a { s with crs := c } :=
  h.trans ⟨Keeps.upd (Keeps.refl s) rfl (OtpKept.refl _), rfl, hc, fun _ => rfl⟩

theorem markFrames (h : TxAside x a s) (g : RxFrame → RxFrame) : TxAside x a (s.markFrames g) := h.same ((Keeps.refl s).markFrames g) rfl rfl rfl

theorem setGain (h : TxAside x a s) (g : Nat) (hx : x ≠ Reg.RFE_GAIN_STAT) : TxAside x a (s.setGain g) := by
  unfold State.setGain
  exact h.ite ((((((h.put g hx).put _ hx).markFrames _).record _ _ _).record _ _ _))

theorem scsSettle (h : TxAside x a s) (hx : x ≠ Reg.SYN_SCS_STAT) : TxAside x a s.scsSettle :=
  (h.put 1 hx).withRfe _

/-- A relock of the sample clock that begins afresh (03 R64). -/
theorem scsRevived (h : TxAside x a s) : TxAside x a (({ s with rfe := { s.rfe with scsDead := false } } : State).setRetry State.uRx 1) :=
  (h.withRfe _).setRetry _ _

theorem scsFresh (h : TxAside x a s) (hx : x ∉ receiverRegs) : TxAside x a s.scsFresh := by
  have hstat : x ≠ Reg.SYN_SCS_STAT := ne_of_mem_regs hx (by decide)
  have hcfg : x ≠ Reg.RFE_CFG := ne_of_mem_regs hx (by decide)
  have happly : TxAside x a (s.scsApply true) :=
    ((((((h.put _ (ne_of_mem_regs hx (by decide))).put _ hstat).put _ hcfg).put _ hcfg).scsSettle hstat).put 0 hstat).record _ _ _
  unfold State.scsFresh
  exact happly.scsRevived.ite happly

theorem scsReceiverStopped (h : TxAside x a s) (hx : x ∉ receiverRegs) : TxAside x a s.scsReceiverStopped := by
  unfold State.scsReceiverStopped
  exact (h.scsFresh hx).ite h

/-- The five blocks of the receive path show a state. -/
theorem receiverPages (h : TxAside x a s) (hx : x ∉ receiverRegs) (v : Nat) :
    TxAside x a (((((s.setPageSt P.RFE v).setPageSt P.CHN v).setPageSt P.NBD v).setPageSt P.OFD v).setPageSt P.FEC v) :=
  ((((h.setPageSt _ v (ne_of_mem_regs hx (by decide))).setPageSt _ v (ne_of_mem_regs hx (by decide))).setPageSt _ v
    (ne_of_mem_regs hx (by decide))).setPageSt _ v (ne_of_mem_regs hx (by decide))).setPageSt _ v (ne_of_mem_regs hx (by decide))

theorem rxStop (h : TxAside x a s) (hx : x ∉ receiverRegs) : TxAside x a s.rxStop := by
  unfold State.rxStop
  exact (h.scsReceiverStopped hx).ite ((((h.receiverPages hx 0).withSlots _ _).scsReceiverStopped hx).antQuiet)

theorem rxStart (h : TxAside x a s) (hx : x ∉ receiverRegs) : TxAside x a s.rxStart := by
  have gain {u : State} (g : TxAside x a u) : TxAside x a u.rxStartGain := by
    unfold State.rxStartGain
    exact (g.setGain _ (ne_of_mem_regs hx (by decide))).ite g
  have rest {u : State} (g : TxAside x a u) : TxAside x a u.agcSettings.holdRestart :=
    (g.same ((Keeps.refl _).agcSettings) rfl rfl rfl).same ((Keeps.refl _).holdRestart) rfl rfl rfl
  have hpages := h.receiverPages hx 1
  unfold State.rxStart
  exact h.ite (rest (gain ((hpages.scsSettle (ne_of_mem_regs hx (by decide))).scsRevived.ite hpages).antQuiet))

/-- What enters a state beside RAD.STATE itself. -/
theorem enterState_rest (h : TxAside x a s) (v : Nat) (h1 : x ≠ Reg.PAGE_STAT P.RAD) (h2 : x ≠ Reg.IRQ_RAW P.RAD) (h3 : x ≠ Reg.CLK_STAT) :
    TxAside x a (let s1 := (((s.setPageSt P.RAD v).flag P.RAD 3).event P.RAD 0).pllSettle
      let s2 : State := { s1 with radio := { s1.radio with lockWait := false } }
      if v = 5 then s2 else s2.antQuiet) := by
  have pll {u : State} (g : TxAside x a u) : TxAside x a u.pllSettle := by
    unfold State.pllSettle
    exact (g.put 0 h3).ite g
  have hrest := TxAside.setRadio (pll (((h.setPageSt _ v h1).flag P.RAD 3 h2).event P.RAD 0)) (fun r => { r with lockWait := false }) rfl
  exact hrest.ite hrest.antQuiet

theorem enterState (h : TxAside x a s) (v : Nat) (hx : x ∉ stateRegs) : TxAside x a (s.enterState v) :=
  ((h.put v (ne_of_mem_regs hx (by decide))).put 0 (ne_of_mem_regs hx (by decide))).enterState_rest v (ne_of_mem_regs hx (by decide))
    (ne_of_mem_regs hx (by decide)) (ne_of_mem_regs hx (by decide))

theorem crsStop (h : TxAside x a s) (h1 : x ≠ Reg.SYN_CRS_STAT) (h2 : x ≠ Reg.SYN_CRS_FREQ) : TxAside x a s.crsStop := by
  unfold State.crsStop
  exact h.ite (((((h.put 0 h2).put 0 h1).put 0 h1).put 0 h1).withCrs _ (by simp))

theorem crsTune (h : TxAside x a s) (h1 : x ≠ Reg.SYN_CRS_STAT) (h2 : x ≠ Reg.SYN_CRS_FREQ) (f : Nat) (target : Int) (src : Nat) :
    TxAside x a (s.crsTune f target src) := by
  unfold State.crsTune
  exact (((((h.put _ h2).put 1 h1).put 0 h1).put src h1).withCrs _ (by simp)).setRetry _ _

/-- A PRETUNE that another request replaces ends ABORTED beside the transmission (04 R529). -/
theorem crsHold (h : TxAside x a s) (h1 : x ≠ Reg.SYN_CRS_STAT) (h2 : x ∉ statusRegs) (r : Option CrsHeld) : TxAside x a (s.crsHold r) := by
  have hold {u : State} (g : TxAside x a u) :
      TxAside x a { u.put F.SYN_CRS_STAT_DEFERRED (boolNat r.isSome) with crs := { u.crs with held := r } } :=
    (g.put _ h1).withCrs _ (by simp)
  unfold State.crsHold
  refine hold ?_
  split
  · exact h.endPlain h2 _ _
  · exact h

theorem crsReserve (h : TxAside x a s) (h1 : x ≠ Reg.SYN_CRS_STAT) (v : CrsUser) : TxAside x a (s.crsReserve v) := by
  refine (h.put 1 h1).withCrs _ (fun hr => ?_)
  rw [State.put_crs] at hr
  dsimp only
  split
  · exact hr
  · exact List.mem_cons_of_mem _ hr

theorem crsRequest (h : TxAside x a s) (h1 : x ≠ Reg.SYN_CRS_STAT) (h2 : x ≠ Reg.SYN_CRS_FREQ) (h3 : x ≠ Reg.IRQ_RAW P.SYN) (h4 : x ∉ statusRegs)
    (k : HeldKind) (f : Nat) : TxAside x a (s.crsRequest k f).1 := by
  unfold State.crsRequest
  split_ifs
  · exact h.flag _ _ h3
  · exact h.crsTune h1 h2 _ _ _
  · exact h
  · exact h.crsHold h1 h4 _

/-- The end of an acknowledgement's reservation leaves the transmission's (04 R96, R529). -/
theorem crsRelease_ack (h : TxAside x a s) (h1 : x ≠ Reg.SYN_CRS_STAT) (h2 : x ≠ Reg.SYN_CRS_FREQ) (h3 : x ∉ statusRegs) (k : Nat) :
    TxAside x a (s.crsRelease (.ack k)) := by
  have hfree : TxAside x a { s.put F.SYN_CRS_STAT_RESERVED (boolNat (!(s.crs.reserved.filter (· != .ack k)).isEmpty)) with
      crs := { s.crs with reserved := s.crs.reserved.filter (· != .ack k) } } := by
    refine (h.put _ h1).withCrs _ (fun hr => ?_)
    rw [State.put_crs] at hr
    exact List.mem_filter.mpr ⟨hr, rfl⟩
  unfold State.crsRelease
  refine TxAside.ite ?_ h
  dsimp only
  split
  · exact hfree
  · have htune := (hfree.crsHold h1 h3 none).crsTune h1 h2
    split
    · exact TxAside.withCtxs ((htune _ _ _).crsReserve h1 _) _
    · exact (htune _ _ _).endPlain h3 _ _
    · exact htune _ _ _

end TxAside

end Sys2Proof.Machine
end

section
/-! SUPPORT. Receptions, speculations and a Whiff that end, and the exit of an operation: they leave the last channel assessment in LNK.CCA_STAT, and
the transmission, alone. -/

namespace Sys2Proof.Machine.TxAside

variable {a s : State}

theorem setLnkReady (h : TxAside Reg.LNK_CCA_STAT a s) : TxAside Reg.LNK_CCA_STAT a s.setLnkReady := h.put _ (by decide)

theorem setOwner (h : TxAside Reg.LNK_CCA_STAT a s) (b : Nat) (o : Owner) : TxAside Reg.LNK_CCA_STAT a (s.setOwner b o) :=
  h.parts (Frame.setOwner (w := 0x10) (Frame.refl _ _) (by decide) b o) (by decide) (by decide)

theorem freeBlock (h : TxAside Reg.LNK_CCA_STAT a s) (b : Nat) : TxAside Reg.LNK_CCA_STAT a (s.freeBlock b) := by
  unfold State.freeBlock
  split
  · exact ((h.withCtxs _).setOwner _ _).setLnkReady
  · exact h.setOwner _ _

theorem freeAll (h : TxAside Reg.LNK_CCA_STAT a s) (bs : List Nat) : TxAside Reg.LNK_CCA_STAT a (s.freeAll bs) :=
  h.foldl (fun u b => (refl _ u).freeBlock b)

theorem ctxFree (h : TxAside Reg.LNK_CCA_STAT a s) (k : Nat) : TxAside Reg.LNK_CCA_STAT a (s.ctxFree k) := by
  unfold State.ctxFree
  split
  · exact h
  · dsimp only
    split
    · exact (((h.withCtxs _).withCtxs _).setOwner _ _).setLnkReady
    · exact h.withCtxs _

theorem specLoss (h : TxAside Reg.LNK_CCA_STAT a s) (reason : Nat) : TxAside Reg.LNK_CCA_STAT a (s.specLoss reason) := by
  have hloss : TxAside Reg.LNK_CCA_STAT a ((s.put F.LNK_SPEC_LOSS_REASON reason).countSat F.LNK_SPEC_STAT_SQUASHES) :=
    (h.put _ (by decide)).countSat (by decide)
  unfold State.specLoss
  exact (hloss.countSat (by decide)).ite hloss

theorem setSlot (h : TxAside Reg.LNK_CCA_STAT a s) (u : RxUnit) (y : RxSlot) : TxAside Reg.LNK_CCA_STAT a (s.setSlot u y) := by
  refine h.same ((Keeps.refl s).setSlot u y) ?_ ?_ ?_ <;> cases u <;> rfl

theorem dropReserve (h : TxAside Reg.LNK_CCA_STAT a s) (i u : Nat) : TxAside Reg.LNK_CCA_STAT a (s.dropReserve i u) :=
  h.parts (Frame.dropReserve (w := 0x109) (Frame.refl _ _) (by decide) i u) (by decide) (by decide)

theorem raiseW (h : TxAside Reg.LNK_CCA_STAT a s) (i n v : Nat) : TxAside Reg.LNK_CCA_STAT a (s.raiseW i n v) :=
  h.parts (Frame.raiseW (w := 0x101) (Frame.refl _ _) (by decide) i n v) (by decide) (by decide)

theorem sendVerdict (h : TxAside Reg.LNK_CCA_STAT a s) (g : Nat) (commit release valid : Bool) (inFc u : Option Nat) (rssi : Int) (lqi : Nat) :
    TxAside Reg.LNK_CCA_STAT a (s.sendVerdict g commit release valid inFc u rssi lqi) :=
  h.parts (Frame.sendVerdict (w := 0x129) (Frame.refl _ _) (by decide) g commit release valid inFc u rssi lqi) (by decide) (by decide)

/-- The gap that a squashed speculation leaves at its home, and the counter of a frame that has passed (10 R266, R268). -/
theorem squashHome (h : TxAside Reg.LNK_CCA_STAT a s) (c : AckCtx) (reason : Nat) :
    TxAside Reg.LNK_CCA_STAT a
      (let s1 := match c.u with
        | some u => if c.remote then (if c.passed then s.sendVerdict c.index false true true c.inFc (some u) c.rssi c.lqi else s)
            else s.dropReserve (c.index % 16384) u
        | none => if c.remote && c.passed then s.sendVerdict c.index false true true c.inFc none c.rssi c.lqi else s
      match c.inFc, c.passed && !c.remote && decide (4 < reason) with
        | some v, true => s1.raiseW (c.index % 16384) 3 v
        | _, _ => s1) := by
  have hgap : TxAside Reg.LNK_CCA_STAT a (match c.u with
      | some u => if c.remote then (if c.passed then s.sendVerdict c.index false true true c.inFc (some u) c.rssi c.lqi else s)
          else s.dropReserve (c.index % 16384) u
      | none => if c.remote && c.passed then s.sendVerdict c.index false true true c.inFc none c.rssi c.lqi else s) := by
    split
    · exact ((h.sendVerdict ..).ite h).ite (h.dropReserve _ _)
    · exact (h.sendVerdict ..).ite h
  dsimp only
  split
  · exact hgap.raiseW _ _ _
  · exact hgap

theorem squashCtx (h : TxAside Reg.LNK_CCA_STAT a s) (k reason : Nat) : TxAside Reg.LNK_CCA_STAT a (s.squashCtx k reason) := by
  have held {t : State} (g : TxAside Reg.LNK_CCA_STAT a t) : TxAside Reg.LNK_CCA_STAT a (match t.crs.held with
      | some ⟨.ackTune j, _, _⟩ => if j = k then t.crsHold none else t
      | _ => t) := by
    split
    · exact (g.crsHold (by decide) (by decide) none).ite g
    · exact g
  unfold State.squashCtx
  split
  · exact h
  · rename_i c _
    refine h.ite ?_
    have hloss := ((held (h.squashHome c reason)).crsRelease_ack (by decide) (by decide) (by decide) k).specLoss reason
    have hrec := hloss.frame (Frame.specRecord (w := 0x100000000000010101) (Frame.refl _ _) (by decide) c.unit k 0 reason (c.inFc.getD 0)) (by decide)
      (by decide)
    refine ctxFree ?_ k
    split
    · exact hrec.parts (Frame.setRecFlag (w := 0x101) (Frame.refl _ _) (by decide) _ 2) (by decide) (by decide)
    · exact hrec.setSlot _ _

theorem freshCopy (h : TxAside Reg.LNK_CCA_STAT a s) (u : RxUnit) : TxAside Reg.LNK_CCA_STAT a (s.freshCopy u) := by
  have recorded {t : State} (g : TxAside Reg.LNK_CCA_STAT a t) (d : Nat) (c : DescCopy) : TxAside Reg.LNK_CCA_STAT a (t.recordDesc d c) :=
    g.parts (Frame.recordDesc (w := 0x10101) (Frame.refl _ _) (by decide) d c) (by decide) (by decide)
  unfold State.freshCopy
  refine (h.setSlot _ _).ite ?_
  split
  · exact recorded (h.setSlot _ _) _ _
  · exact h

theorem loseFrame (h : TxAside Reg.LNK_CCA_STAT a s) (u : RxUnit) (code : Nat) : TxAside Reg.LNK_CCA_STAT a (s.loseFrame u code) := by
  have recorded {t : State} (g : TxAside Reg.LNK_CCA_STAT a t) (d : Nat) : TxAside Reg.LNK_CCA_STAT a (t.lossRecord u d code) :=
    g.frame (Frame.lossRecord (w := 0x1A00000000000000) (Frame.refl _ _) (by decide) u d code) (by decide) (by decide)
  have triggered {t : State} (g : TxAside Reg.LNK_CCA_STAT a t) :
      TxAside Reg.LNK_CCA_STAT a (if t.recUnit u && t.on F.REC_TRIG_EN_LOST then t.recTrigger 5 else t) :=
    (g.recTrigger 5 (by decide) (by decide)).ite g
  have squashed (f : RxFrame) : TxAside Reg.LNK_CCA_STAT a (match f.spec with
      | some k => s.squashCtx k (State.lossReason code)
      | none => s) := by
    split
    · exact h.squashCtx _ _
    · exact h
  unfold State.loseFrame
  split
  · exact h
  · rename_i f _
    refine triggered (recorded (((setSlot ?_ u _).freeAll _).freshCopy u |>.withShared _) _)
    split
    · split
      · exact ((squashed f).dropReserve _ _).ite ((squashed f).sendVerdict ..)
      · exact squashed f
    · exact squashed f

theorem loseAll (h : TxAside Reg.LNK_CCA_STAT a s) (code : Nat) : TxAside Reg.LNK_CCA_STAT a (s.loseAll code) :=
  h.foldl (fun t u => (refl _ t).loseFrame u code)

theorem whiffDrop (h : TxAside Reg.LNK_CCA_STAT a s) : TxAside Reg.LNK_CCA_STAT a s.whiffDrop := by
  unfold State.whiffDrop
  split
  · exact h
  · rename_i w _
    have drop {t : State} (g : TxAside Reg.LNK_CCA_STAT a t) :
        TxAside Reg.LNK_CCA_STAT a { t.freeAll w.blocks with radio := { t.radio with whiff := none } } :=
      (g.freeAll w.blocks).setRadio (fun _ => { t.radio with whiff := none }) (((refl _ t).freeAll w.blocks).view).symm
    have hdrop := drop ((h.setGain w.before (by decide)).ite h (c := w.capturing = true))
    exact TxAside.ite (hdrop.setPageSt P.RFE 2 (by decide)) hdrop

theorem whiffEnd (h : TxAside Reg.LNK_CCA_STAT a s) (status : Nat) : TxAside Reg.LNK_CCA_STAT a (s.whiffEnd status) := by
  unfold State.whiffEnd
  split
  · exact h.whiffDrop.endPlain (by decide) _ _
  · exact h

theorem releaseAll (h : TxAside Reg.LNK_CCA_STAT a s) : TxAside Reg.LNK_CCA_STAT a s.releaseAll := h.withSlots _ _

theorem goTo (h : TxAside Reg.LNK_CCA_STAT a s) (v : Nat) : TxAside Reg.LNK_CCA_STAT a (s.goTo v) := by
  unfold State.goTo State.leaveRx
  exact (((h.rxStart (by decide)).moveTo 2 (by decide)).ite ((h.loseAll 5).releaseAll.moveTo 2 (by decide))).ite
    (((h.loseAll 5).whiffEnd 5).releaseAll.moveTo v (by decide))

theorem planSlots (h : TxAside Reg.LNK_CCA_STAT a s) (plan : List (Nat × RxUnit)) : TxAside Reg.LNK_CCA_STAT a (s.planSlots plan) := h.withSlots _ _

theorem exitRx (h : TxAside Reg.LNK_CCA_STAT a s) (d : Nat) : TxAside Reg.LNK_CCA_STAT a (s.exitRx d) := by
  have hstart := h.rxStart (by decide)
  have herr (reason : Nat) : TxAside Reg.LNK_CCA_STAT a (s.rxStart.descErr d reason) :=
    hstart.frame (Frame.descErr (w := 0x400000000000000) (Frame.refl _ _) (by decide) d reason) (by decide) (by decide)
  unfold State.exitRx
  refine moveTo ?_ 3 (by decide)
  refine ((herr _).planSlots _).ite ?_
  split
  · exact ((herr _).ite hstart).planSlots _
  · exact hstart.planSlots _

theorem exitTo (h : TxAside Reg.LNK_CCA_STAT a s) (ex desc : Nat) : TxAside Reg.LNK_CCA_STAT a (s.exitTo ex desc) := by
  unfold State.exitTo
  refine ((h.goTo 1).crsStop (by decide) (by decide)).ite ((h.ite (h.goTo 2)).ite ((h.ite ((h.rxStart (by decide)).moveTo 3 (by decide))).ite
    ((h.exitRx desc).ite ?_)))
  exact (((h.goTo 4).crsRequest (by decide) (by decide) (by decide) (by decide) _ _).setRadio _ rfl).ite (h.goTo 4)

theorem opExit (h : TxAside Reg.LNK_CCA_STAT a s) (ex desc : Nat) : TxAside Reg.LNK_CCA_STAT a (s.opExit ex desc) := by
  unfold State.opExit
  exact (h.setRadio _ rfl).ite (h.exitTo ex desc)

end Sys2Proof.Machine.TxAside
end

section
/-! SUPPORT. The sensors (04 R109, R118, R119): a round enters TSN.LIVE and is compared, a sample waits for a round and takes it. -/

namespace Sys2Proof.Machine

theorem lowBits_lt (w : Nat) (z : Int) : lowBits w z < 2 ^ w := by
  unfold lowBits
  have hpos : (0 : Int) < ((2 ^ w : Nat) : Int) := by positivity
  have hlt := Int.emod_lt_of_pos z hpos
  have hnn := Int.emod_nonneg z hpos.ne'
  omega

theorem Frame.mem {w : Nat} {a t : State} (h : Frame w a t) (hw : w.testBit 0 = false) : t.mem = a.mem := h.2.1 .mem hw

theorem Frame.pwr {w : Nat} {a t : State} (h : Frame w a t) (hw : w.testBit 9 = false) : t.pwr = a.pwr := by
  have e := h.2.1 .power hw
  simp only [State.same, Prod.mk.injEq] at e
  exact e.1

theorem Frame.count {w : Nat} {a t : State} (h : Frame w a t) (hw : w.testBit 6 = false) : t.count = a.count := by
  have e := h.2.1 .time hw
  simp only [State.same, Prod.mk.injEq] at e
  exact e.1

theorem State.get_putInt_self {s : State} (c : s.canonical = true) (f : Field) (z : Int) (h : f.lo + f.width ≤ 32) :
    (s.putInt f z).get f = lowBits f.width z := by
  unfold State.putInt
  rw [State.get_put_self c f _ h, Nat.mod_eq_of_lt (lowBits_lt _ _)]

theorem State.pageSt_setPageSt {s : State} (c : s.canonical = true) (p v : Nat) : (s.setPageSt p v).pageSt p = v % 16 :=
  State.get_put_self c (F.PAGE_STAT_STATE p) v (show 4 + 4 ≤ 32 by decide)

/-- The sample of the RCP keeps the temperature of LIVE, and the check for a calibration touches neither the radio nor memory. -/
theorem State.rcpSampled (s : State) :
    s.rcpSample.calDueCheck.radio = { s.radio with rcpTemp := s.getInt F.TSN_LIVE_TEMP } ∧ s.rcpSample.calDueCheck.mem = s.mem := by
  have hcheck := Frame.calDueCheck (w := 0x200000000000000) (Frame.refl _ s.rcpSample) (by decide)
  exact ⟨hcheck.radio (by decide), hcheck.mem (by decide)⟩

theorem rcpSenseSample_of_on {s : State} (h : s.radioState ≠ 0) : exec (.rcpSenseSample none) s = .next s.rcpSample.calDueCheck := by
  rw [exec_rcpSenseSample, execRcpSenseSample]
  exact congrArg Host.Outcome.next (if_neg h)

/-- The state in which a round has entered TSN.LIVE, and no threshold has been compared. -/
def State.roundShown (s : State) (m : Sense) : State :=
  ({ s with radio := { s.radio with tsnRound := s.pageSt P.TSN == 1 } } : State).putSense Reg.TSN_LIVE m

/-- A measurement in its register. -/
theorem State.putSense_shown {s : State} (c : s.canonical = true) (m : Sense) :
    (s.putSense Reg.TSN_LIVE m).get F.TSN_LIVE_TEMP = lowBits 8 m.temp ∧ (s.putSense Reg.TSN_LIVE m).get F.TSN_LIVE_VBAT = min m.vbat 4095 ∧
      (s.putSense Reg.TSN_LIVE m).get F.TSN_LIVE_VPA = (if m.vpa < 1000 then 0 else min m.vpa 4095) := by
  have hvpa : (if m.vpa < 1000 then 0 else min m.vpa 4095) < 2 ^ 12 := by split <;> omega
  have c1 : (s.putInt F.TSN_LIVE_TEMP m.temp).canonical = true := ((Keeps.refl s).putInt _ _).canon c
  have c2 := ((Keeps.refl _).put F.TSN_LIVE_VPA (if m.vpa < 1000 then 0 else min m.vpa 4095)).canon c1
  refine ⟨?_, ?_, ?_⟩
  · exact (State.get_put_other c2 F.TSN_LIVE_VBAT _ _ (by decide) (by decide)).trans ((State.get_put_other c1 F.TSN_LIVE_VPA _ _ (by decide)
      (by decide)).trans (State.get_putInt_self c F.TSN_LIVE_TEMP _ (by decide)))
  · exact (State.get_put_self c2 F.TSN_LIVE_VBAT _ (by decide)).trans (Nat.mod_eq_of_lt (show min m.vbat 4095 < 2 ^ 12 by omega))
  · exact (State.get_put_other c2 F.TSN_LIVE_VBAT _ _ (by decide) (by decide)).trans ((State.get_put_self c1 F.TSN_LIVE_VPA _ (by decide)).trans
      (Nat.mod_eq_of_lt hvpa))

/-- A round that enters LIVE changes no other register. -/
theorem State.roundShown_aside (s : State) (m : Sense) {x : Nat} (hx : x ≠ Reg.TSN_LIVE) : TxAside x s (s.roundShown m) :=
  ((((TxAside.refl x s).setRadio (fun r => { r with tsnRound := s.pageSt P.TSN == 1 }) rfl).put _ hx).put _ hx).put _ hx

/-- The comparison of a round with the thresholds, while TSN is enabled (04 R119). -/
def State.roundCompared (s : State) (m : Sense) : State :=
  if !s.enabled P.TSN then s
  else
    let hi := decide (s.getInt F.TSN_CFG_TEMP_HI ≤ m.temp)
    let lo := s.get F.TSN_CFG_VBAT_LOW != 0 && decide (m.vbat < s.get F.TSN_CFG_VBAT_LOW)
    let s2 := (s.put F.TSN_STAT_TEMP_HI (boolNat hi)).put F.TSN_STAT_VBAT_LOW (boolNat lo)
    let s3 := if hi then s2.flag P.TSN 1 else s2
    if lo then s3.flag P.TSN 2 else s3

theorem State.tsnRoundEnds_eq {s : State} (hup : s.pwr.radioUp = true) (m : Sense) : s.tsnRoundEnds m = (s.roundShown m).roundCompared m := by
  unfold State.tsnRoundEnds State.roundCompared State.roundShown
  rw [hup, Bool.not_true, if_neg Bool.false_ne_true]

/-- The comparison writes TSN.STAT and flags, and shows in TEMP_HI whether the upper threshold is reached. -/
theorem State.roundCompared_result {s : State} (c : s.canonical = true) (m : Sense) :
    Frame 0x1000000000000000000 s (s.roundCompared m) ∧ TxAside Reg.TSN_LIVE s (s.roundCompared m) ∧
      (s.enabled P.TSN = true → (s.roundCompared m).get F.TSN_STAT_TEMP_HI = boolNat (decide (s.getInt F.TSN_CFG_TEMP_HI ≤ m.temp))) := by
  unfold State.roundCompared
  cases s.enabled P.TSN with
  | false => exact ⟨Frame.refl _ _, TxAside.refl _ _, fun h => absurd h Bool.false_ne_true⟩
  | true =>
    dsimp only
    rw [Bool.not_true, if_neg Bool.false_ne_true]
    generalize (s.get F.TSN_CFG_VBAT_LOW != 0 && decide (m.vbat < s.get F.TSN_CFG_VBAT_LOW)) = lo
    generalize decide (s.getInt F.TSN_CFG_TEMP_HI ≤ m.temp) = hi
    have flagsFrame {t : State} (g : Frame 0x1000000000000000000 s t) :
        Frame 0x1000000000000000000 s (if lo = true then (if hi = true then t.flag P.TSN 1 else t).flag P.TSN 2 else if hi = true then t.flag P.TSN 1 else t) :=
      have g1 := Frame.ite (c := hi = true) (g.flag (p := P.TSN) (n := 1) (Or.inr (by decide))) g
      Frame.ite (g1.flag (Or.inr (by decide))) g1
    have flagsAside {x : Nat} (hx : x ≠ Reg.IRQ_RAW P.TSN) {b t : State} (g : TxAside x b t) :
        TxAside x b (if lo = true then (if hi = true then t.flag P.TSN 1 else t).flag P.TSN 2 else if hi = true then t.flag P.TSN 1 else t) :=
      have g1 := TxAside.ite (c := hi = true) (g.flag _ 1 hx) g
      TxAside.ite (g1.flag _ _ hx) g1
    refine ⟨flagsFrame (((Frame.refl _ s).put (Or.inr (by decide))).put (Or.inr (by decide))),
      flagsAside (by decide) (((TxAside.refl _ s).put _ (by decide)).put _ (by decide)), fun _ => ?_⟩
    have c2 : (s.put F.TSN_STAT_TEMP_HI (boolNat hi)).canonical = true := ((Keeps.refl s).put _ _).canon c
    have c3 := ((Keeps.refl _).put F.TSN_STAT_VBAT_LOW (boolNat lo)).canon c2
    rw [(flagsAside (x := Reg.TSN_STAT) (by decide) (TxAside.refl _ _)).get c3 F.TSN_STAT_TEMP_HI rfl,
      State.get_put_other c2 _ _ _ (by decide) (by decide), State.get_put_self c _ _ (by decide)]
    cases hi <;> rfl

/-- A round: LIVE shows it, and TEMP_HI whether the upper threshold of TSN.CFG is reached. -/
theorem State.tsnRound_result {s : State} (c : s.canonical = true) (hup : s.pwr.radioUp = true) (m : Sense) :
    ∃ t, exec (.tsnRoundEnd m) s = .next t ∧ t.radio.tsnRound = (s.pageSt P.TSN == 1) ∧ t.get F.TSN_LIVE_TEMP = lowBits 8 m.temp ∧
      t.get F.TSN_LIVE_VBAT = min m.vbat 4095 ∧ t.get F.TSN_LIVE_VPA = (if m.vpa < 1000 then 0 else min m.vpa 4095) ∧
      (s.enabled P.TSN = true → t.get F.TSN_STAT_TEMP_HI = boolNat (decide (s.getInt F.TSN_CFG_TEMP_HI ≤ m.temp))) := by
  have c1 : (s.roundShown m).canonical = true := (s.roundShown_aside m (x := 0) (by decide)).canon c
  have hcfg : (s.roundShown m).getInt F.TSN_CFG_TEMP_HI = s.getInt F.TSN_CFG_TEMP_HI :=
    congrArg (signedN 8) ((s.roundShown_aside m (by decide)).get c _ rfl)
  have hen : (s.roundShown m).enabled P.TSN = s.enabled P.TSN :=
    congrArg (· != 0) ((s.roundShown_aside m (x := Reg.PAGE_CTRL P.TSN) (by decide)).get c (F.PAGE_CTRL_ENABLE P.TSN) rfl)
  have hround : (s.roundShown m).radio.tsnRound = (s.pageSt P.TSN == 1) := by simp [State.roundShown, State.putSense]
  obtain ⟨htemp, hvbat, hvpa⟩ := State.putSense_shown (s := { s with radio := { s.radio with tsnRound := s.pageSt P.TSN == 1 } }) c m
  obtain ⟨hframe, haside, hhigh⟩ := State.roundCompared_result c1 m
  rw [hen, hcfg] at hhigh
  refine ⟨_, (exec_tsnRoundEnd m s).trans (congrArg Host.Outcome.next (State.tsnRoundEnds_eq hup m)), ?_, ?_, ?_, ?_, hhigh⟩
  · rw [hframe.radio (by decide), hround]
  · exact (haside.get c1 _ rfl).trans htemp
  · exact (haside.get c1 _ rfl).trans hvbat
  · exact (haside.get c1 _ rfl).trans hvpa

/-- A sample waits for the next round (04 R119), also where one waits already. -/
theorem State.tsnSample_waits {s : State} (c : s.canonical = true) (hen : s.enabled P.TSN = true) (hup : s.pwr.radioUp = true) :
    s.tsnSample.pageSt P.TSN = 1 := by
  unfold State.tsnSample
  rw [hen, hup]
  dsimp only
  rw [Bool.and_true, Bool.not_true, if_neg Bool.false_ne_true]
  split
  · rename_i hwait
    exact (((TxAside.refl (Reg.PAGE_STAT P.TSN) s).put _ (by decide)).get c (F.PAGE_STAT_STATE P.TSN) rfl).trans hwait
  · exact State.pageSt_setPageSt c P.TSN 1

/-- A stored write leaves the registers beside its own and PAGE_STAT. -/
theorem TxAside.storeReg {x : Nat} {a s : State} (h : TxAside x a s) (i : Initiator) (p off : Nat) (r : RegRow) (w : Word) (h1 : x ≠ pageAddr p off)
    (h2 : x ≠ Reg.PAGE_STAT p) : TxAside x a (s.storeReg i p off r w) := by
  have changed {t : State} (g : TxAside x a t) : TxAside x a (t.cfgChange p) := by
    unfold State.cfgChange
    split
    · exact TxAside.put (g.same ((Keeps.refl t).setPage p _) rfl rfl rfl) 1 h2
    · exact g
  have noted {t : State} (g : TxAside x a t) : TxAside x a (t.recCfg (pageAddr p off)) := by
    unfold State.recCfg
    exact (g.record _ _ _).ite g
  have hset := h.setReg (maskStore (s.regRaw i p off) w r.rw r.w1c) h1
  unfold State.storeReg
  exact TxAside.ite (h.same ((Keeps.refl s).setRegI _ _ _) (by simp only [State.txView, State.waits, State.setRegI_radio])
    (by rw [State.setRegI_crs]) (State.setRegI_regs _ _ _ _)) (noted ((changed hset).ite hset))

/-- The write of TSN.CTRL that is taken triggers the sample. -/
theorem State.sample_write {s : State} {i : Initiator} {r : RegRow} (h : s.takes i P.TSN 0x104 1 r = true) :
    s.busWrite i Reg.TSN_CTRL 1 = ((s.storeReg i P.TSN 0x104 r 1).tsnSample).answer i 0 .ok := by
  have hfit : s.fitWord P.TSN 0x104 1 = 1 := by
    unfold State.fitWord
    rw [if_neg (by decide), if_neg (fun h => absurd h.1 (by decide))]
  have hpost (t : State) (old : Word) : t.postWrite i P.TSN 0x104 old 1 = t.tsnSample := by
    unfold State.postWrite
    simp [P.TSN, P.SYS, P.PWR, P.CLK, P.TMB, P.LPT, P.WDT, P.EVF, P.GPIO, P.HSP, P.FLC, P.SEC, P.KST, P.RFE, P.RTX, P.SYN, P.RAD, P.LNK, P.FRM, P.NBT,
      P.HVL, P.FLT, P.BST, P.REC, P.UPD, P.ICU]
  have hwrite := State.busWrite_takes (p := P.TSN) (off := 0x104) (by decide) (by decide) (by decide) h
  rwa [hfit, hpost] at hwrite

/-- A trigger that goes acts on its task, and enters the history of the fabric (17 R392, R401). -/
theorem State.deliverTask_goes {s : State} {t : Nat} (h : s.taskGoes t = true) :
    ∃ g, s.deliverTask t 1 = ({ s with fabric := { s.fabric with history := g } } : State).taskAct t := by
  unfold State.taskGoes at h
  simp only [Bool.and_eq_true, Bool.not_eq_true', Bool.or_eq_true, beq_iff_eq, decide_eq_true_eq] at h
  obtain ⟨⟨⟨⟨⟨⟨⟨hexists, hpresent⟩, hevf⟩, hon⟩, hen⟩, htask⟩, hloop⟩, hbusy⟩ := h
  refine ⟨s.fabric.history.filter (fun h => decide (s.fabric.cycle < h.2 + 32)) ++ [(t, s.fabric.cycle)], ?_⟩
  have hlim : ¬(s.get F.EVF_CFG_LOOP_LIMIT ≠ 0 ∧ s.get F.EVF_CFG_LOOP_LIMIT <
      ((s.fabric.history.filter (fun h => decide (s.fabric.cycle < h.2 + 32)) ++ [(t, s.fabric.cycle)]).filter (fun h => h.1 == t)).length) := by
    rw [List.filter_append, List.length_append, List.filter_filter]
    simp only [List.filter_cons, beq_self_eq_true, if_true, List.filter_nil, List.length_cons, List.length_nil]
    simp only [Bool.and_comm] at hloop ⊢
    omega
  unfold State.deliverTask
  dsimp only
  rw [if_neg (by simp [hexists, hpresent, hevf]), if_neg (by simp [hon]), if_neg (by simp [hen, htask]), if_neg (by decide : ¬(2 ≤ 1))]
  exact (if_neg hlim).trans (if_neg (by rw [Bool.not_eq_true]; exact hbusy))

end Sys2Proof.Machine
end

section
/-! SUPPORT. A sample requested and latched (04 R119), and the end of a turn-round (05 R135, R137): blanking ends and the receive state is entered. -/

namespace Sys2Proof.Machine

theorem State.taskAct_sample (s : State) : s.taskAct (taskId P.TSN 0) = s.tsnSample := by
  unfold State.taskAct
  dsimp only
  rw [if_neg (by decide), if_pos (by decide)]

/-- SAMPLE by a write of TSN.CTRL or by its task: the sample waits for the next round. -/
theorem State.sample_reached {s : State} {via : Via} {r : RegRow} (c : s.canonical = true) (h : s.reachesTask via P.TSN 0x104 1 r 0 = true)
    (hen : s.enabled P.TSN = true) (hup : s.pwr.radioUp = true) : (viaTask s via Reg.TSN_CTRL 1 P.TSN 0).pageSt P.TSN = 1 := by
  cases via with
  | bus i =>
    have haside := (TxAside.refl (Reg.PAGE_CTRL P.TSN) s).storeReg i P.TSN 0x104 r 1 (by decide) (by decide)
    have hframe := Frame.storeReg (w := 0x3C101) (Frame.refl _ s) (by decide) i P.TSN 0x104 r 1
    have hen' : (s.storeReg i P.TSN 0x104 r 1).enabled P.TSN = true :=
      (congrArg (· != 0) (haside.get c (F.PAGE_CTRL_ENABLE P.TSN) rfl)).trans hen
    have hup' : (s.storeReg i P.TSN 0x104 r 1).pwr.radioUp = true := by rw [hframe.pwr (by decide), hup]
    have hwrite : viaTask s (.bus i) Reg.TSN_CTRL 1 P.TSN 0 = (s.storeReg i P.TSN 0x104 r 1).tsnSample.answer i 0 .ok := State.sample_write h
    rw [hwrite]
    exact State.tsnSample_waits (haside.canon c) hen' hup'
  | task =>
    obtain ⟨g, hg⟩ := State.deliverTask_goes (t := taskId P.TSN 0) h
    have htask : viaTask s .task Reg.TSN_CTRL 1 P.TSN 0 = _ := hg.trans (State.taskAct_sample _)
    rw [htask]
    exact State.tsnSample_waits c hen hup

/-- The first complete round since the request is latched in TSN.SAMPLE. -/
theorem State.sample_latched {s : State} (c : s.canonical = true) (hst : s.pageSt P.TSN = 1) (hround : s.radio.tsnRound = true)
    (hup : s.pwr.radioUp = true) :
    ∃ t, exec .tsnSampleLatched s = .next t ∧ t.reg Reg.TSN_SAMPLE = s.reg Reg.TSN_LIVE ∧ t.pageSt P.TSN = 0 := by
  have c1 : (s.setReg Reg.TSN_SAMPLE (s.reg Reg.TSN_LIVE)).canonical = true := ((Keeps.refl s).setReg _ _).canon c
  have shown {x : Nat} (hx : x ≠ Reg.IRQ_RAW P.TSN) {a t : State} (g : TxAside x a t) : TxAside x a ((t.flag P.TSN 0).event P.TSN 0) :=
    (g.flag _ _ hx).event _ _
  refine ⟨_, (exec_tsnSampleLatched s).trans (congrArg Host.Outcome.next (if_pos ⟨hst, hup, hround⟩)), ?_, ?_⟩
  · rw [(shown (by decide) ((TxAside.refl Reg.TSN_SAMPLE _).setPageSt P.TSN 0 (by decide))).reg c1, State.reg_setReg c, if_pos rfl]
  · exact ((shown (by decide) (TxAside.refl (Reg.PAGE_STAT P.TSN) _)).get (((Keeps.refl _).setPageSt _ _).canon c1) (F.PAGE_STAT_STATE P.TSN) rfl).trans
      (State.pageSt_setPageSt c1 _ _)

/-- Blanking has ended, and RAD.STATE is otherwise as before. -/
theorem State.unblank_state {s : State} (c : s.canonical = true) :
    s.unblank.radio = s.radio ∧ s.unblank.canonical = true ∧ s.unblank.get F.RAD_STATE_BLANK = 0 ∧
      ∀ f : Field, f.addr ≠ Reg.RAD_STATE ∨ f.lo + f.width ≤ 16 → s.unblank.get f = s.get f := by
  have hradio := (Frame.unblank (w := 0x200000000010101) (Frame.refl _ s) (by decide)).radio (by decide)
  refine ⟨hradio, ((Keeps.refl s).unblank).canon c, ?_⟩
  unfold State.unblank
  by_cases hb : s.on F.RAD_STATE_BLANK = true
  · have c1 : (s.put F.RAD_STATE_BLANK 0).canonical = true := ((Keeps.refl s).put _ _).canon c
    rw [if_pos hb]
    refine ⟨?_, fun f hf => ?_⟩
    · rw [((TxAside.refl Reg.RAD_STATE _).record _ _ _).get c1 _ rfl, State.get_put_self c _ _ (by decide)]
      rfl
    · rw [((TxAside.refl f.addr _).record _ _ _).get c1 _ rfl]
      exact State.get_put_other c _ _ _ (by decide) (hf.imp id Or.inl)
  · rw [if_neg hb]
    exact ⟨by simpa [State.on] using hb, fun _ _ => rfl⟩

/-- A state that is entered: STATE, and no transition any more; blanking stays. -/
theorem State.enterState_state {s : State} (c : s.canonical = true) (v : Nat) :
    (s.enterState v).radioState = v % 8 ∧ (s.enterState v).get F.RAD_STATE_MOVING = 0 ∧
      (s.enterState v).get F.RAD_STATE_BLANK = s.get F.RAD_STATE_BLANK := by
  have c1 : (s.put F.RAD_STATE_STATE v).canonical = true := ((Keeps.refl s).put _ _).canon c
  have c2 := ((Keeps.refl _).put F.RAD_STATE_MOVING 0).canon c1
  have hget (f : Field) (hf : f.addr = Reg.RAD_STATE) :
      (s.enterState v).get f = ((s.put F.RAD_STATE_STATE v).put F.RAD_STATE_MOVING 0).get f :=
    ((TxAside.refl Reg.RAD_STATE _).enterState_rest v (by decide) (by decide) (by decide)).get c2 f hf
  refine ⟨?_, ?_, ?_⟩
  · rw [State.radioState, hget _ rfl, State.get_put_other c1 _ _ _ (by decide) (by decide), State.get_put_self c _ _ (by decide)]
    rfl
  · rw [hget _ rfl, State.get_put_self c1 _ _ (by decide)]
    rfl
  · rw [hget _ rfl, State.get_put_other c1 _ _ _ (by decide) (by decide), State.get_put_other c _ _ _ (by decide) (by decide)]

/-- A state that is entered, and the operation that asked for it ended: RAD.STATE and a turn-round are as the entry leaves them. -/
theorem State.moveFinished {s : State} (c : s.canonical = true) (v : Nat) :
    let t := (s.enterState v).finishMove
    t.radioState = v % 8 ∧ t.get F.RAD_STATE_MOVING = 0 ∧ t.get F.RAD_STATE_BLANK = s.get F.RAD_STATE_BLANK ∧ t.radio.turnRx = s.radio.turnRx := by
  have c1 : (s.enterState v).canonical = true := ((Keeps.refl s).enterState v).canon c
  have hturn : (s.enterState v).radio.turnRx = s.radio.turnRx := ((TxAside.refl 0 s).enterState v (by decide)).turnRx
  have hreg : (s.enterState v).finishMove.reg Reg.RAD_STATE = (s.enterState v).reg Reg.RAD_STATE ∧
      (s.enterState v).finishMove.radio.turnRx = (s.enterState v).radio.turnRx := by
    generalize s.enterState v = u at c1
    unfold State.finishMove
    split
    · rename_i o _
      split
      · have hend := (TxAside.refl Reg.RAD_STATE (u.setRadio (fun r => { r with op := none }))).endSrc (by decide) o.src 1 o.slip false false false
          u.count
        exact ⟨hend.reg c1, hend.turnRx⟩
      · exact ⟨rfl, rfl⟩
    · exact ⟨rfl, rfl⟩
  obtain ⟨hsame, hkept⟩ := hreg
  obtain ⟨hstate, hmoving, hblank⟩ := State.enterState_state c v
  have hget (f : Field) (hf : f.addr = Reg.RAD_STATE) : (s.enterState v).finishMove.get f = (s.enterState v).get f := by
    rw [State.get, State.get, hf, hsame]
  exact ⟨(hget _ rfl).trans hstate, (hget _ rfl).trans hmoving, (hget _ rfl).trans hblank, hkept.trans hturn⟩

/-- TE + 18 µs, the receiver running: the receive state is entered, and blanking ends. -/
theorem State.turnRound_released {s : State} (c : s.canonical = true) (hturn : s.radio.turnRx = true) (hrun : s.rxRunning = true)
    (hsend : s.txSending = false) : ∃ t, exec .turnRoundRxRelease s = .next t ∧ t.radio.turnRx = false ∧ t.on F.RAD_STATE_BLANK = false ∧
      (s.on F.RAD_STATE_MOVING = true → s.get F.RAD_STATE_TARGET = 2 ∨ s.get F.RAD_STATE_TARGET = 3 →
        t.radioState = s.get F.RAD_STATE_TARGET ∧ t.on F.RAD_STATE_MOVING = false) := by
  have hcond : (s.radio.turnRx && s.rxRunning && !s.txSending) = true := by rw [hturn, hrun, hsend]; rfl
  obtain ⟨-, c1, hblank, hsame⟩ := State.unblank_state c
  have hmoving : s.unblank.get F.RAD_STATE_MOVING = s.get F.RAD_STATE_MOVING := hsame _ (by decide)
  have htarget : s.unblank.get F.RAD_STATE_TARGET = s.get F.RAD_STATE_TARGET := hsame _ (by decide)
  refine ⟨_, (exec_turnRoundRxRelease s).trans (congrArg Host.Outcome.next (if_pos hcond)), ?_⟩
  generalize hu : s.unblank.setRadio (fun r => { r with turnRx := false }) = u
  have hoff : u.radio.turnRx = false := by rw [← hu]; rfl
  have cu : u.canonical = true := by rw [← hu]; exact c1
  have hregs (f : Field) : u.get f = s.unblank.get f := by rw [← hu]; rfl
  obtain ⟨hstate, hmov, hbl, hkept⟩ := State.moveFinished cu (u.get F.RAD_STATE_TARGET)
  dsimp only
  split
  · refine ⟨hkept.trans hoff, ?_, fun _ ht => ⟨?_, ?_⟩⟩
    · rw [State.on, hbl, hregs, hblank]
      rfl
    · rw [hstate, hregs, htarget]
      omega
    · rw [State.on, hmov]
      rfl
  · rename_i hno
    refine ⟨hoff, by rw [State.on, hregs, hblank]; rfl, fun hm ht => absurd ?_ hno⟩
    simp only [State.on, hregs, hmoving, htarget] at hm ⊢
    rw [hm]
    rcases ht with ht | ht <;> rw [ht] <;> rfl

end Sys2Proof.Machine
end

section
/-! SUPPORT. A transmission that is cut or not sent, the channel assessment before it (09 R235, R236) and an acknowledgement that fails (09 R242). -/

namespace Sys2Proof.Machine

theorem State.exitBegins_tx (s : State) (j : TxJob) : (s.exitBegins j).radio.tx = s.radio.tx ∧ (s.exitBegins j).radio.txNext = s.radio.txNext := by
  unfold State.exitBegins
  split
  · exact ⟨rfl, rfl⟩
  · simp [State.setRadio, State.moveTo]

/-- A transmission on the way to air, or on air, that is cut ramps down (04 R104). -/
theorem State.txCut_result {s : State} {j : TxJob} {status : Nat} (c : s.canonical = true) (htx : s.radio.tx = some j)
    (hst : j.stage = .sequence ∨ j.stage = .rampUp ∨ j.stage = .onAir) :
    Frame 0x280000000000004 s (s.txCut status) ∧ (s.txCut status).radio.tx = some { j with stage := .rampDown, status := status, te := s.count } ∧
      (s.txCut status).pageSt P.RTX = 4 ∧ (s.txCut status).reg Reg.RTX_TX_STAT = s.reg Reg.RTX_TX_STAT := by
  unfold State.txCut
  rw [htx]
  dsimp only
  rw [if_pos hst]
  generalize ({ j with stage := .rampDown, status := status, te := s.count } : TxJob) = k
  have cr : (s.setRadio (fun r => { r with tx := some k })).canonical = true := ((Keeps.refl s).setRadio _).canon c
  have cp := ((Keeps.refl _).setPageSt P.RTX 4).canon cr
  have hexit := Frame.exitBegins (w := 0x200000000000004) (Frame.refl _ ((s.setRadio (fun r => { r with tx := some k })).setPageSt P.RTX 4)) (by decide) k
  refine ⟨(((Frame.refl _ s).setRadio (by decide) _).setPageSt (Or.inr (by decide))).exitBegins (by decide) k, ?_, ?_, ?_⟩
  · rw [(State.exitBegins_tx _ _).1]
    simp [State.setRadio, State.setPageSt]
  · exact (hexit.get cp (F.PAGE_STAT_STATE P.RTX) (by decide)).trans (State.pageSt_setPageSt cr P.RTX 4)
  · exact (hexit.reg cp Reg.RTX_TX_STAT (by decide)).trans (((State.reg_put cr _ _ _).trans (if_neg (by decide))).trans rfl)

theorem State.txFail_op {s : State} {j : TxJob} (status : Nat) (htx : s.radio.tx = some j)
    (hst : j.stage = .sequence ∨ j.stage = .rampUp ∨ j.stage = .onAir) (hone : j.status = 1) (hsrc : j.src = .op) :
    s.txFail status = s.txCut status := by
  unfold State.txFail
  rw [htx]
  dsimp only
  rw [if_pos (by rcases hst with h | h | h <;> rw [h, hone] <;> rfl), hsrc]

theorem State.txFail_ack {s : State} {j : TxJob} (status : Nat) {k : Nat} (htx : s.radio.tx = some j)
    (hst : j.stage = .sequence ∨ j.stage = .rampUp ∨ j.stage = .onAir) (hone : j.status = 1) (hsrc : j.src = .ack k) :
    s.txFail status = (s.txCut status).ackFailed k := by
  unfold State.txFail
  rw [htx]
  dsimp only
  rw [if_pos (by rcases hst with h | h | h <;> rw [h, hone] <;> rfl), hsrc]

/-- The failure of an acknowledgement is counted (09 R242). -/
theorem State.ackFailed_count {s : State} (c : s.canonical = true) (k : Nat)
    (h : s.get F.LNK_SPEC_LOSS_ACK_FAIL + 1 < 2 ^ F.LNK_SPEC_LOSS_ACK_FAIL.width) :
    (s.ackFailed k).get F.LNK_SPEC_LOSS_ACK_FAIL = s.get F.LNK_SPEC_LOSS_ACK_FAIL + 1 := by
  have c1 : (s.countSat F.LNK_SPEC_LOSS_ACK_FAIL).canonical = true := ((Keeps.refl s).countSat _).canon c
  have hflag := (TxAside.refl Reg.LNK_SPEC_LOSS _).flag (s := s.countSat F.LNK_SPEC_LOSS_ACK_FAIL) P.LNK 6 (by decide)
  have hnote := TxAside.ite (c := ((s.countSat F.LNK_SPEC_LOSS_ACK_FAIL).flag P.LNK 6).on F.REC_TRIG_EN_ACK_FAIL = true)
    (hflag.recTrigger 7 (by decide) (by decide)) hflag
  have hfree := State.get_ctxFree (hnote.canon c1) k F.LNK_SPEC_LOSS_ACK_FAIL (by decide)
  exact (hfree.trans (hnote.get c1 _ rfl)).trans (State.get_countSat_self c _ (by decide) h)

/-- The state in which an underrun of the transmit path has shown itself (04 R101). -/
def State.underrunShown (s : State) : State := (s.put F.RTX_TX_STAT_UNDERRUN 1).flag P.RTX 1

theorem State.underrunShown_aside (s : State) {x : Nat} (h1 : x ≠ Reg.RTX_TX_STAT) (h2 : x ≠ Reg.IRQ_RAW P.RTX) : TxAside x s s.underrunShown :=
  ((TxAside.refl x s).put 1 h1).flag _ _ h2

/-- A committed acknowledgement that does not reach TE ramps down, and its failure is counted. -/
theorem State.ack_fails {s : State} {j : TxJob} {k status : Nat} (c : s.canonical = true) (htx : s.radio.tx = some j) (hsrc : j.src = .ack k)
    (hone : j.status = 1) (hst : j.stage = .sequence ∨ j.stage = .rampUp ∨ j.stage = .onAir)
    (hcount : s.get F.LNK_SPEC_LOSS_ACK_FAIL + 1 < 2 ^ F.LNK_SPEC_LOSS_ACK_FAIL.width) :
    (s.txFail status).radio.tx = some { j with stage := .rampDown, status := status, te := s.count } ∧
      (s.txFail status).get F.LNK_SPEC_LOSS_ACK_FAIL = s.get F.LNK_SPEC_LOSS_ACK_FAIL + 1 ∧ (s.txFail status).pageSt P.RTX = 4 := by
  obtain ⟨hcut, htx', hpage, -⟩ := State.txCut_result (status := status) c htx hst
  have c1 : (s.txCut status).canonical = true := hcut.1.canon c
  have hloss := hcut.get c F.LNK_SPEC_LOSS_ACK_FAIL (by decide)
  have hfail := Frame.ackFailed (w := 0x104000000000010119) (Frame.refl _ (s.txCut status)) (by decide) k
  rw [State.txFail_ack status htx hst hone hsrc]
  refine ⟨by rw [hfail.radio (by decide), htx'], ?_, (hfail.get c1 (F.PAGE_STAT_STATE P.RTX) (by decide)).trans hpage⟩
  rw [State.ackFailed_count c1 k (by rw [hloss]; exact hcount), hloss]

/-- A committed acknowledgement that does not reach TE, by underrun or by a fault (09 R242). -/
theorem State.ackFail_result {s : State} {j : TxJob} {k : Nat} (underrun : Bool) (c : s.canonical = true) (htx : s.radio.tx = some j)
    (hsrc : j.src = .ack k) (hone : j.status = 1) (hst : j.stage = .sequence ∨ j.stage = .rampUp ∨ j.stage = .onAir)
    (hcount : s.get F.LNK_SPEC_LOSS_ACK_FAIL + 1 < 2 ^ F.LNK_SPEC_LOSS_ACK_FAIL.width) :
    ∃ t, exec (.ackFail underrun) s = .next t ∧
      t.radio.tx = some { j with stage := .rampDown, status := if underrun then 5 else 6, te := s.count } ∧
      t.get F.LNK_SPEC_LOSS_ACK_FAIL = s.get F.LNK_SPEC_LOSS_ACK_FAIL + 1 ∧ t.pageSt P.RTX = 4 := by
  have hexec : exec (.ackFail underrun) s = .next (if underrun then s.underrunShown.txFail 5 else s.txFail 6) := by
    rw [exec_ackFail, execAckFail, htx]
    dsimp only
    rw [hsrc]
    dsimp only
    rw [if_pos hst, State.underrunShown]
  refine ⟨_, hexec, ?_⟩
  cases underrun with
  | false =>
    simp only [Bool.false_eq_true, if_false]
    exact State.ack_fails c htx hsrc hone hst hcount
  | true =>
    have hshown := s.underrunShown_aside (x := Reg.LNK_SPEC_LOSS) (by decide) (by decide)
    have hloss := hshown.get c F.LNK_SPEC_LOSS_ACK_FAIL rfl
    have hfails := State.ack_fails (status := 5) (hshown.canon c) (hshown.tx.trans htx) hsrc hone hst (by rw [hloss]; exact hcount)
    have hframe : Frame 0x80000000000000 s s.underrunShown := ((Frame.refl _ s).put (Or.inr (by decide))).flag (Or.inr (by decide))
    rw [hloss, hframe.count (by decide)] at hfails
    simpa only [if_true] using hfails

/-- The assessment in its register (09 R235). -/
def State.ccaShown (s : State) (pw : Int) (ed cs : Bool) : State :=
  (((s.putInt F.LNK_CCA_STAT_ENERGY (pw / 4)).put F.LNK_CCA_STAT_ED_BUSY (boolNat ed)).put F.LNK_CCA_STAT_CS_BUSY (boolNat cs)).put
    F.LNK_CCA_STAT_NOSTREAM 0

theorem State.ccaShown_state {s : State} (c : s.canonical = true) (pw : Int) (ed cs : Bool) :
    (s.ccaShown pw ed cs).canonical = true ∧ (s.ccaShown pw ed cs).radio = s.radio ∧ (s.ccaShown pw ed cs).ctxs = s.ctxs := by
  refine ⟨((((Keeps.refl s).putInt _ _).put _ _).put _ _ |>.put _ _).canon c, ?_, ?_⟩ <;> simp [State.ccaShown]

theorem State.ccaShown_get {s : State} (c : s.canonical = true) (pw : Int) (ed cs : Bool) :
    (s.ccaShown pw ed cs).get F.LNK_CCA_STAT_ENERGY = lowBits 8 (pw / 4) ∧ (s.ccaShown pw ed cs).get F.LNK_CCA_STAT_ED_BUSY = boolNat ed ∧
      (s.ccaShown pw ed cs).get F.LNK_CCA_STAT_NOSTREAM = 0 ∧
      (s.ccaShown pw ed cs).get F.LNK_CCA_STAT_BUSY_COUNT = s.get F.LNK_CCA_STAT_BUSY_COUNT := by
  have c1 : (s.putInt F.LNK_CCA_STAT_ENERGY (pw / 4)).canonical = true := ((Keeps.refl s).putInt _ _).canon c
  have c2 := ((Keeps.refl _).put F.LNK_CCA_STAT_ED_BUSY (boolNat ed)).canon c1
  have c3 := ((Keeps.refl _).put F.LNK_CCA_STAT_CS_BUSY (boolNat cs)).canon c2
  unfold State.ccaShown
  refine ⟨?_, ?_, ?_, ?_⟩
  · rw [State.get_put_other c3 _ _ _ (by decide) (by decide), State.get_put_other c2 _ _ _ (by decide) (by decide),
      State.get_put_other c1 _ _ _ (by decide) (by decide), State.get_putInt_self c _ _ (by decide)]
    rfl
  · rw [State.get_put_other c3 _ _ _ (by decide) (by decide), State.get_put_other c2 _ _ _ (by decide) (by decide),
      State.get_put_self c1 _ _ (by decide)]
    cases ed <;> rfl
  · rw [State.get_put_self c3 _ _ (by decide)]
    rfl
  · rw [State.get_put_other c3 _ _ _ (by decide) (by decide), State.get_put_other c2 _ _ _ (by decide) (by decide),
      State.get_put_other c1 _ _ _ (by decide) (by decide)]
    exact State.get_put_other c _ _ _ (by decide) (by decide)

/-- The frame that the unit of a transmission's channel is in has its sync. -/
def State.inSyncedFrame (s : State) (j : TxJob) : Bool :=
  match s.unitOf j.desc with
  | some v => (match (s.slot v).frame with | some f => f.synced | none => false)
  | none => false

/-- A transmission whose channel is clear: it waits for its sequence, no earlier than 36 µs on (09 R235). -/
def State.ccaClear (s : State) (j : TxJob) : State :=
  let first := addTicks s.count (usTicks 36)
  let t := (s.setRadio (fun r => { r with tx := some { j with stage := .wait } })).notBeforeT0 first
  t.squashOverlaps first (t.airTicks j.copy (t.txLength j.copy j.head))

/-- An assessment by energy alone, with a stream to measure with and a power that is a whole dBm. -/
theorem State.ccaWindow_ends {s : State} {j : TxJob} {power : Int} (carrier : Bool) (htx : s.radio.tx = some j) (hst : j.stage = .cca)
    (hrun : s.rxRunning = true) (hfree : ((s.slices ++ s.lanes).filter (fun x => x.stream.isSome)).length < nSlices s.variant)
    (h2 : j.copy.cca % 4 ≠ 2) (h3 : j.copy.cca % 4 ≠ 3) (hpw : (power + s.rssiOfs) % 4 = 0) :
    exec (.ccaWindowEnd power carrier) s = .next
      (let ed := decide (4 * signed8 (bitsOf j.copy.cca 8 8) ≤ power + s.rssiOfs)
       let u := s.ccaShown (power + s.rssiOfs) ed (carrier || s.inSyncedFrame j)
       if ed then (u.countSat F.LNK_CCA_STAT_BUSY_COUNT).txNotSent 5 true else u.ccaClear j) := by
  have hstream (b : Bool) : (!(b || decide (((s.slices ++ s.lanes).filter (fun x => x.stream.isSome)).length < nSlices s.variant))) = false := by
    rw [decide_eq_true hfree, Bool.or_true]
    rfl
  rw [exec_ccaWindowEnd, execCcaWindowEnd, htx]
  dsimp only
  rw [if_neg (by simp [hst, hrun]), hstream, if_neg Bool.false_ne_true, if_neg h2, if_neg h3, if_neg (not_not_intro hpw)]
  dsimp only
  rw [Nat.cast_zero, Int.add_zero]
  rfl

end Sys2Proof.Machine
end

section
/-! SUPPORT. What comes of a channel assessment (09 R235): the transmission waits for its sequence, or is not sent. -/

namespace Sys2Proof.Machine

/-- No acknowledgement context in use: nothing overlaps. -/
theorem State.squashOverlaps_idle {s : State} (h : s.ctxs.all (fun c => !c.busy) = true) (t0 len : Nat) : s.squashOverlaps t0 len = s := by
  unfold State.squashOverlaps
  refine List.foldl_fixed' (fun k => ?_) _
  split
  · rename_i x hx
    have hidle : x.busy = false := by simpa using (List.all_eq_true.mp h) x (List.mem_of_getElem? hx)
    exact if_neg (by rw [hidle]; exact Bool.false_ne_true)
  · rfl

theorem State.ccaClear_result {s : State} (h : s.ctxs.all (fun c => !c.busy) = true) (j : TxJob) :
    (s.ccaClear j).radio.tx = some { j with stage := .wait } ∧ (s.ccaClear j).regs = s.regs := by
  have hclear : s.ccaClear j =
      (s.setRadio (fun r => { r with tx := some { j with stage := .wait } })).notBeforeT0 (addTicks s.count (usTicks 36)) :=
    State.squashOverlaps_idle (s := (s.setRadio (fun r => { r with tx := some { j with stage := .wait } })).notBeforeT0
      (addTicks s.count (usTicks 36))) h _ _
  rw [hclear]
  exact ⟨rfl, rfl⟩

/-- The tune of the transmission that the carrier synthesiser holds is dropped (04 R529). -/
def State.txUntuned (s : State) : State :=
  match s.crs.held with
  | some ⟨.txTune, _, _⟩ => s.crsHold none
  | _ => s

/-- The operation of the radio ends with a status. -/
def State.opEnded (s : State) (status : Nat) (busy : Bool) : State :=
  match s.radio.op with
  | some o => s.endSrc o.src status o.slip false busy false s.count
  | none => s

theorem State.txNotSent_eq {s : State} {j : TxJob} {status : Nat} (htx : s.radio.tx = some j) (h7 : status ≠ 7) (busy : Bool) :
    s.txNotSent status busy = ((((s.txUntuned.opEnded status busy).setRadio (fun r => { r with tx := none, op := none })).put F.RAD_STATE_MOVING 0).opExit
      (if j.exit = 2 then 4 else j.exit) j.desc).antQuiet := by
  unfold State.txNotSent
  rw [htx]
  exact if_neg (fun h => h7 h.1)

/-- A transmission that is not sent is gone, and the assessment stays shown. -/
theorem State.txNotSent_result {s : State} {j : TxJob} {status : Nat} (c : s.canonical = true) (htx : s.radio.tx = some j) (h7 : status ≠ 7)
    (busy : Bool) : (s.txNotSent status busy).radio.tx = none ∧
      ∀ f : Field, f.addr = Reg.LNK_CCA_STAT → (s.txNotSent status busy).get f = s.get f := by
  have huntuned : TxAside Reg.LNK_CCA_STAT s s.txUntuned := by
    unfold State.txUntuned
    split
    · exact (TxAside.refl _ s).crsHold (by decide) (by decide) none
    · exact TxAside.refl _ s
  have hended : TxAside Reg.LNK_CCA_STAT s (s.txUntuned.opEnded status busy) := by
    unfold State.opEnded
    split
    · exact huntuned.endSrc (by decide) ..
    · exact huntuned
  rw [State.txNotSent_eq htx h7]
  generalize s.txUntuned.opEnded status busy = u at hended ⊢
  have cu : (u.setRadio (fun r => { r with tx := none, op := none })).canonical = true := ((Keeps.refl u).setRadio _).canon (hended.canon c)
  have hexit := ((((TxAside.refl Reg.LNK_CCA_STAT (u.setRadio (fun r => { r with tx := none, op := none }))).put (f := F.RAD_STATE_MOVING) 0
    (by decide))).opExit (if j.exit = 2 then 4 else j.exit) j.desc).antQuiet
  exact ⟨hexit.tx, fun f hf => (hexit.get cu f hf).trans (hended.get c f hf)⟩

/-- A channel below the threshold: the transmission waits for its sequence. -/
theorem State.ccaWindow_clear {s : State} {j : TxJob} {power : Int} (carrier : Bool) (c : s.canonical = true) (htx : s.radio.tx = some j)
    (hst : j.stage = .cca) (hrun : s.rxRunning = true)
    (hfree : ((s.slices ++ s.lanes).filter (fun x => x.stream.isSome)).length < nSlices s.variant) (h2 : j.copy.cca % 4 ≠ 2)
    (h3 : j.copy.cca % 4 ≠ 3) (hpw : (power + s.rssiOfs) % 4 = 0) (hlow : power + s.rssiOfs < 4 * signed8 (bitsOf j.copy.cca 8 8))
    (hidle : s.ctxs.all (fun c => !c.busy) = true) :
    ∃ t, exec (.ccaWindowEnd power carrier) s = .next t ∧ (t.radio.tx.map (fun (k : TxJob) => k.stage)) = some TxStage.wait ∧
      t.get F.LNK_CCA_STAT_ENERGY = lowBits 8 ((power + s.rssiOfs) / 4) ∧ t.get F.LNK_CCA_STAT_ED_BUSY = 0 ∧ t.get F.LNK_CCA_STAT_NOSTREAM = 0 := by
  have hexec := State.ccaWindow_ends carrier htx hst hrun hfree h2 h3 hpw
  dsimp only at hexec
  rw [decide_eq_false (by omega), if_neg Bool.false_ne_true] at hexec
  obtain ⟨henergy, hed, hnostream, -⟩ := State.ccaShown_get c (power + s.rssiOfs) false (carrier || s.inSyncedFrame j)
  obtain ⟨-, -, hctxs⟩ := State.ccaShown_state c (power + s.rssiOfs) false (carrier || s.inSyncedFrame j)
  obtain ⟨htx', hregs⟩ := State.ccaClear_result (by rw [hctxs]; exact hidle) j
  have hget (f : Field) := State.get_of_regs hregs f
  exact ⟨_, hexec, by rw [htx']; rfl, by rw [hget, henergy], by rw [hget, hed]; rfl, by rw [hget, hnostream]⟩

/-- A busy channel: it is counted, and the transmission is not sent. -/
theorem State.ccaWindow_busy {s : State} {j : TxJob} {power : Int} (carrier : Bool) (c : s.canonical = true) (htx : s.radio.tx = some j)
    (hst : j.stage = .cca) (hrun : s.rxRunning = true)
    (hfree : ((s.slices ++ s.lanes).filter (fun x => x.stream.isSome)).length < nSlices s.variant) (h2 : j.copy.cca % 4 ≠ 2)
    (h3 : j.copy.cca % 4 ≠ 3) (hpw : (power + s.rssiOfs) % 4 = 0) (hhigh : 4 * signed8 (bitsOf j.copy.cca 8 8) ≤ power + s.rssiOfs)
    (hcount : s.get F.LNK_CCA_STAT_BUSY_COUNT < 65535) :
    ∃ t, exec (.ccaWindowEnd power carrier) s = .next t ∧ t.radio.tx = none ∧ t.get F.LNK_CCA_STAT_ED_BUSY = 1 ∧
      t.get F.LNK_CCA_STAT_BUSY_COUNT = s.get F.LNK_CCA_STAT_BUSY_COUNT + 1 := by
  have hexec := State.ccaWindow_ends carrier htx hst hrun hfree h2 h3 hpw
  dsimp only at hexec
  rw [decide_eq_true hhigh, if_pos rfl] at hexec
  obtain ⟨-, hed, -, hbusy⟩ := State.ccaShown_get c (power + s.rssiOfs) true (carrier || s.inSyncedFrame j)
  obtain ⟨c1, hradio, -⟩ := State.ccaShown_state c (power + s.rssiOfs) true (carrier || s.inSyncedFrame j)
  generalize s.ccaShown (power + s.rssiOfs) true (carrier || s.inSyncedFrame j) = u at hexec hed hbusy c1 hradio
  have c2 : (u.countSat F.LNK_CCA_STAT_BUSY_COUNT).canonical = true := ((Keeps.refl u).countSat _).canon c1
  have htx' : (u.countSat F.LNK_CCA_STAT_BUSY_COUNT).radio.tx = some j :=
    ((TxAside.refl 0 u).countSat (f := F.LNK_CCA_STAT_BUSY_COUNT) (by decide)).tx.trans (by rw [hradio, htx])
  obtain ⟨hgone, hget⟩ := State.txNotSent_result c2 htx' (by decide : (5 : Nat) ≠ 7) true
  refine ⟨_, hexec, hgone, ?_, ?_⟩
  · rw [hget _ rfl, State.get_countSat_other c1 _ _ (by decide) (by decide), hed]
    rfl
  · rw [hget _ rfl, State.get_countSat_self c1 _ (by decide) (by rw [hbusy]; exact Nat.succ_lt_succ hcount), hbusy]

end Sys2Proof.Machine
end
section
/-! O10: the sensors, a turn-round, a CCA window and a failed acknowledgement. -/

namespace Sys2Proof.Machine

/-- Settles O10: a sample and a round write what the sensors read and nothing that the clauses read afterwards; a turn-round enters the receive state
with blanking ended; a CCA window and a failed acknowledgement leave the transmission waiting, gone or ramping down. -/
theorem sensorAndTurnRoundEventsComplete : Obligations.SensorAndTurnRoundEventsComplete := by
  refine ⟨?rcpSample, ?rcpSampleAtRound, ?round, ?sample, ?latched, ?turnRound, ?clear, ?busy, ?ackFail⟩
  case rcpSample =>
    intro s hon
    exact ⟨_, rcpSenseSample_of_on hon, State.rcpSampled s⟩
  case rcpSampleAtRound =>
    intro s m
    exact ⟨_, rfl, _, rfl, rfl⟩
  case round =>
    intro s m c hup
    exact State.tsnRound_result c hup m
  case sample =>
    intro s via r c hreach hen hup
    exact ⟨_, exec_sample via s, State.sample_reached c hreach hen hup⟩
  case latched =>
    intro s c hst hround hup
    exact State.sample_latched c hst hround hup
  case turnRound =>
    intro s c hturn hrun hsend
    exact State.turnRound_released c hturn hrun hsend
  case clear =>
    intro s j power carrier c htx hst hrun hfree h2 h3 hpw hlow hidle
    exact State.ccaWindow_clear carrier c htx hst hrun hfree h2 h3 hpw hlow hidle
  case busy =>
    intro s j power carrier c htx hst hrun hfree h2 h3 hpw hhigh hcount
    exact State.ccaWindow_busy carrier c htx hst hrun hfree h2 h3 hpw hhigh hcount
  case ackFail =>
    intro s j k underrun c htx hsrc hone hst hcount
    exact State.ackFail_result underrun c htx hsrc hone hst hcount

end Sys2Proof.Machine
end

section
/-! SUPPORT. The transmit sequence (04 R103): what it shows, blanking (05 R137), the reservation (04 R96) and the entry into TX. -/

namespace Sys2Proof.Machine

/-- A key that is given leaves the state as it was. -/
theorem State.frameKey_some {s : State} {m i f : Nat} {key : List Nat} (h : (s.frameKey m i f).1 = some key) : (s.frameKey m i f).2 = s := by
  have copied (n use : Nat) (g : (s.copyKey n use).1 = some key) : (s.copyKey n use).2 = s := by
    unfold State.copyKey at g ⊢
    split_ifs at g ⊢
    rfl
  have slotted (n : Nat) (g : (s.slotKey n).1 = some key) : (s.slotKey n).2 = s := by
    unfold State.slotKey at g ⊢
    split_ifs at g ⊢
    exact copied _ _ g
  unfold State.frameKey at h ⊢
  split
  · rfl
  · rename_i n hn
    rw [hn] at h
    exact slotted n h

/-- Where a frame is formed, free values are taken and nothing else has changed. -/
def FormedFrom (s : State) (r : Option (List Byte) × State) : Prop := ∀ fr, r.1 = some fr → Frame 0x10000 s r.2

/-- The frame of a command (09 R247, R248): a key that cannot be given is the only thing that changes more, and then no frame is formed. -/
theorem State.opFrame_formed (s : State) (t : TxJob) (src : OpSrc) (t0 : Nat) (body : List Byte) : FormedFrom s (s.opFrame t src t0 body) := by
  have clear (fr : Option (List Byte)) : FormedFrom s (fr, s) := fun _ _ => Frame.refl _ s
  unfold State.opFrame
  dsimp only
  split
  · exact clear _
  split
  · exact clear _
  split
  · rename_i h _
    have hfill := Frame.cslFill (w := 0x10000) (Frame.refl _ s) (by decide) t.copy t0 h.cslAt body
    generalize s.cslFill t.copy t0 h.cslAt body = filled at hfill
    obtain ⟨b1, s1⟩ := filled
    dsimp only at hfill ⊢
    split
    · exact fun _ _ => hfill
    have sealed {u : State} (hu : Frame 0x10000 s u) (m i f : Nat) (g : List Nat → State → List Byte) : FormedFrom s (match u.frameKey m i f with
        | (none, v) => (none, v.keyMiss)
        | (some key, v) => (some (g key v), v)) := by
      have hsame {key : List Nat} := State.frameKey_some (s := u) (m := m) (i := i) (f := f) (key := key)
      generalize u.frameKey m i f = r at hsame
      obtain ⟨k, v⟩ := r
      cases k with
      | none => exact fun fr h => nomatch h
      | some key => exact fun _ _ => hsame rfl ▸ hu
    refine sealed ?_ _ _ _ _
    split
    · exact hfill
    · exact hfill.freeVal (by decide)
  · exact clear _

/-- A chain that is walked to its end leaves the state as it was. -/
theorem State.txWalk_some (s : State) (c : DescCopy) (head : Nat) (bs : List Nat) : (s.txWalk c head).1 = some bs → (s.txWalk c head).2 = s := by
  unfold State.txWalk
  split
  · exact fun h => nomatch h
  split
  · exact fun h => nomatch h
  · dsimp only
    split_ifs
    · exact fun _ => rfl
    · exact fun h => nomatch h

/-- The frames that lose samples to blanking have ended, and a Whiff that has not captured (05 R137). -/
def State.lostToBlanking (s : State) : State :=
  let s1 := s.allUnits.foldl (fun t u =>
    match (t.slot u).frame with
    | some f => if f.header && notBefore t.count f.endAt then t else t.loseFrame u 8
    | none => t) s
  match s1.radio.whiff with
  | some w => if w.captured then s1 else s1.whiffEnd 8
  | none => s1

theorem State.lostToBlanking_aside (s : State) : TxAside Reg.LNK_CCA_STAT s s.lostToBlanking := by
  have hlost : TxAside Reg.LNK_CCA_STAT s (s.allUnits.foldl (fun t u =>
      match (t.slot u).frame with
      | some f => if f.header && notBefore t.count f.endAt then t else t.loseFrame u 8
      | none => t) s) := by
    refine (TxAside.refl _ s).foldl (fun t u => ?_)
    split
    · exact (TxAside.refl _ t).ite ((TxAside.refl _ t).loseFrame u 8)
    · exact TxAside.refl _ t
  unfold State.lostToBlanking
  dsimp only
  split
  · exact hlost.ite (hlost.whiffEnd 8)
  · exact hlost

theorem State.blank_eq (s : State) : s.blank =
    if s.lostToBlanking.on F.RAD_STATE_BLANK then s.lostToBlanking else (s.lostToBlanking.put F.RAD_STATE_BLANK 1).record 0x0C 0 1 := rfl

/-- Blanking is on, and the transmission's reservation stays. -/
theorem State.blank_result {s : State} (c : s.canonical = true) :
    s.blank.on F.RAD_STATE_BLANK = true ∧ (CrsUser.tx ∈ s.crs.reserved → CrsUser.tx ∈ s.blank.crs.reserved) := by
  have hlost := s.lostToBlanking_aside
  have hbegun := (hlost.put (f := F.RAD_STATE_BLANK) 1 (by decide)).record 0x0C 0 1
  have c1 := hlost.canon c
  rw [State.blank_eq]
  split
  · rename_i hon
    exact ⟨hon, hlost.reserved⟩
  · have hblank := ((TxAside.refl Reg.RAD_STATE _).record 0x0C 0 1).get (((Keeps.refl _).put F.RAD_STATE_BLANK 1).canon c1) F.RAD_STATE_BLANK rfl
    refine ⟨?_, hbegun.reserved⟩
    rw [State.on, hblank, State.get_put_self c1 _ _ (by decide)]
    rfl

/-- A transmission's sequence as far as blanking: what it shows, and the reservation (04 R96, R106). -/
def State.txBegun (s : State) (p : Nat) (applied : Int) (clamped low : Bool) : State := ((s.txStat p applied clamped low).crsReserve .tx).blank

theorem State.txStat_result {s : State} (c : s.canonical = true) (p : Nat) (x : Int) (clamped low : Bool) :
    (s.txStat p x clamped low).canonical = true ∧ (s.txStat p x clamped low).get F.RTX_TX_STAT_APPLIED = lowBits 8 x ∧
      (s.txStat p x clamped low).reg Reg.RTX_SENSE = s.reg Reg.RTX_SENSE := by
  have hput : TxAside Reg.RTX_SENSE s ((((((s.putInt F.RTX_TX_STAT_APPLIED x).put F.RTX_TX_STAT_PATH p).put F.RTX_TX_STAT_CLAMPED
      (boolNat clamped)).put F.RTX_TX_STAT_UNDERRUN 0).put F.RTX_TX_STAT_ILIM 0).put F.RTX_TX_STAT_VPA_LOW (boolNat low)) :=
    ((((((TxAside.refl _ s).put _ (by decide)).put _ (by decide)).put _ (by decide)).put _ (by decide)).put _ (by decide)).put _ (by decide)
  have shown {y : Nat} (hy : y ≠ Reg.IRQ_RAW P.RTX) {b t : State} (g : TxAside y b t) :
      TxAside y b (if low = true then (if clamped = true then t.flag P.RTX 0 else t).flag P.RTX 3 else if clamped = true then t.flag P.RTX 0 else t) :=
    have g1 := TxAside.ite (c := clamped = true) (g.flag P.RTX 0 hy) g
    TxAside.ite (g1.flag _ _ hy) g1
  have c1 : (s.putInt F.RTX_TX_STAT_APPLIED x).canonical = true := ((Keeps.refl s).putInt _ _).canon c
  have c2 := ((Keeps.refl _).put F.RTX_TX_STAT_PATH p).canon c1
  have c3 := ((Keeps.refl _).put F.RTX_TX_STAT_CLAMPED (boolNat clamped)).canon c2
  have c4 := ((Keeps.refl _).put F.RTX_TX_STAT_UNDERRUN 0).canon c3
  have c5 := ((Keeps.refl _).put F.RTX_TX_STAT_ILIM 0).canon c4
  have happlied : ((((((s.putInt F.RTX_TX_STAT_APPLIED x).put F.RTX_TX_STAT_PATH p).put F.RTX_TX_STAT_CLAMPED (boolNat clamped)).put
      F.RTX_TX_STAT_UNDERRUN 0).put F.RTX_TX_STAT_ILIM 0).put F.RTX_TX_STAT_VPA_LOW (boolNat low)).get F.RTX_TX_STAT_APPLIED = lowBits 8 x := by
    rw [State.get_put_other c5 _ _ _ (by decide) (by decide), State.get_put_other c4 _ _ _ (by decide) (by decide),
      State.get_put_other c3 _ _ _ (by decide) (by decide), State.get_put_other c2 _ _ _ (by decide) (by decide),
      State.get_put_other c1 _ _ _ (by decide) (by decide), State.get_putInt_self c _ _ (by decide)]
    rfl
  unfold State.txStat
  exact ⟨(shown (by decide) hput).canon c, ((shown (by decide) (TxAside.refl Reg.RTX_TX_STAT _)).get (hput.canon c) _ rfl).trans happlied,
    (shown (by decide) hput).reg c⟩

theorem State.txBegun_result {s : State} (c : s.canonical = true) (p : Nat) (x : Int) (clamped low : Bool) :
    let t := s.txBegun p x clamped low
    t.canonical = true ∧ t.on F.RAD_STATE_BLANK = true ∧ CrsUser.tx ∈ t.crs.reserved ∧ t.get F.RTX_TX_STAT_APPLIED = lowBits 8 x ∧
      t.reg Reg.RTX_SENSE = s.reg Reg.RTX_SENSE := by
  obtain ⟨c1, happlied, hsense⟩ := State.txStat_result c p x clamped low
  have hres := Frame.crsReserve (w := 0x100000000000004) (Frame.refl _ (s.txStat p x clamped low)) (by decide) .tx
  have hin : CrsUser.tx ∈ ((s.txStat p x clamped low).crsReserve .tx).crs.reserved := by
    unfold State.crsReserve
    dsimp only
    split
    · rename_i h
      exact List.contains_iff_mem.mp h
    · exact List.mem_cons_self
  have c2 := hres.1.canon c1
  have hblank := Frame.blank (w := 0x105B400000000101BD) (Frame.refl _ ((s.txStat p x clamped low).crsReserve .tx)) (by decide)
  obtain ⟨hon, hkeeps⟩ := State.blank_result c2
  exact ⟨hblank.1.canon c2, hon, hkeeps hin, (hblank.get c2 _ (by decide)).trans ((hres.get c1 _ (by decide)).trans happlied),
    (hblank.reg c2 _ (by decide)).trans ((hres.reg c1 _ (by decide)).trans hsense)⟩

end Sys2Proof.Machine
end

section
/-! SUPPORT. The transmit sequence of a command (04 R103): from its turn to the state TX. -/

namespace Sys2Proof.Machine

/-- The state TX is entered where the radio is not in it. -/
def State.txEntered (s : State) : State := if s.radioState = 5 ∧ ¬ s.on F.RAD_STATE_MOVING then s else s.enterState 5

theorem State.txEntered_result {s : State} (c : s.canonical = true) :
    s.txEntered.radioState = 5 ∧ s.txEntered.on F.RAD_STATE_MOVING = false ∧ s.txEntered.on F.RAD_STATE_BLANK = s.on F.RAD_STATE_BLANK ∧
      ∀ x, x ∉ stateRegs → TxAside x s s.txEntered := by
  unfold State.txEntered
  split
  · rename_i h
    exact ⟨h.1, by simpa using h.2, rfl, fun x _ => TxAside.refl x s⟩
  · obtain ⟨hstate, hmoving, hblank⟩ := State.enterState_state c 5
    exact ⟨hstate, by rw [State.on, hmoving]; rfl, by rw [State.on, hblank]; rfl, fun x hx => (TxAside.refl x s).enterState 5 hx⟩

/-- The radio has the transmission under way, its path on ANT_SEL and the transmitter in state 2. -/
def State.txUnderWay (s : State) (job : TxJob) (p : Nat) : State :=
  ((s.setRadio (fun r => { r with tx := some job, turnRx := false, minT0 := none })).antTx p).setPageSt P.RTX 2

theorem State.txUnderWay_result {s : State} (c : s.canonical = true) (job : TxJob) (p : Nat) :
    let t := s.txUnderWay job p
    t.canonical = true ∧ t.radio.tx = some job ∧ t.pageSt P.RTX = 2 ∧ t.crs = s.crs ∧ ∀ x, x ≠ Reg.PAGE_STAT P.RTX → t.reg x = s.reg x := by
  have c1 : ((s.setRadio (fun r => { r with tx := some job, turnRx := false, minT0 := none })).antTx p).canonical = true :=
    (((Keeps.refl s).setRadio _).setAnt _).canon c
  refine ⟨((Keeps.refl _).setPageSt _ _).canon c1, ?_, State.pageSt_setPageSt c1 _ _, ?_, fun x hx => ?_⟩
  · unfold State.txUnderWay State.setPageSt
    rw [State.put_radio]
    rfl
  · unfold State.txUnderWay State.setPageSt
    rw [State.put_crs]
    rfl
  · unfold State.txUnderWay State.setPageSt
    exact ((State.reg_put c1 _ _ _).trans (if_neg hx)).trans rfl

/-- What the radio shows once a transmission's sequence runs. -/
structure TxSequence (s : State) (j : TxJob) (p : Nat) (x : Int) (fr : List Byte) (t : State) : Prop where
  job : ∃ k, t.radio.tx = some k ∧ k.stage = .sequence ∧ k.path = p ∧ k.applied = x ∧ k.chain = j.chain ∧ k.frame = fr ∧ k.t0 = j.t0
  state : t.radioState = 5
  moving : t.on F.RAD_STATE_MOVING = false
  blank : t.on F.RAD_STATE_BLANK = true
  page : t.pageSt P.RTX = 2
  reserved : CrsUser.tx ∈ t.crs.reserved
  sense : t.reg Reg.RTX_SENSE = s.reg Reg.RTX_SENSE
  applied : t.get F.RTX_TX_STAT_APPLIED = lowBits 8 x

/-- From the beginning of the sequence, over a receiver that stops or runs on, to the state TX. -/
theorem State.txEntered_sequence {s b u : State} {j k : TxJob} {p : Nat} {x : Int} {fr : List Byte} (c : b.canonical = true)
    (hblank : b.on F.RAD_STATE_BLANK = true) (hres : CrsUser.tx ∈ b.crs.reserved) (happlied : b.get F.RTX_TX_STAT_APPLIED = lowBits 8 x)
    (hsense : b.reg Reg.RTX_SENSE = s.reg Reg.RTX_SENSE) (hu : ∀ y, y ∉ receiverRegs → TxAside y b u)
    (hk : k.stage = .sequence ∧ k.path = p ∧ k.applied = x ∧ k.chain = j.chain ∧ k.frame = fr ∧ k.t0 = j.t0) :
    TxSequence s j p x fr (u.txUnderWay k p).txEntered := by
  have cu : u.canonical = true := (hu 0 (by decide)).canon c
  obtain ⟨ck, htx, hpage, hcrs, hreg⟩ := State.txUnderWay_result cu k p
  obtain ⟨hstate, hmoving, hblank', hentered⟩ := State.txEntered_result ck
  have hregs (y : Nat) (h1 : y ∉ stateRegs) (h2 : y ≠ Reg.PAGE_STAT P.RTX) (h3 : y ∉ receiverRegs) :
      (u.txUnderWay k p).txEntered.reg y = b.reg y :=
    ((hentered y h1).reg ck).trans ((hreg y h2).trans ((hu y h3).reg c))
  refine ⟨⟨k, (hentered 0 (by decide)).tx.trans htx, hk⟩, hstate, hmoving, ?_, ?_, ?_, ?_, ?_⟩
  · rw [hblank', State.on, State.get, show F.RAD_STATE_BLANK.addr = Reg.RAD_STATE from rfl, hreg _ (by decide), (hu _ (by decide)).reg c]
    exact hblank
  · exact ((hentered _ (by decide)).get ck (F.PAGE_STAT_STATE P.RTX) rfl).trans hpage
  · exact (hentered 0 (by decide)).reserved (hcrs ▸ (hu 0 (by decide)).reserved hres)
  · rw [hregs _ (by decide) (by decide) (by decide), hsense]
  · rw [State.get, show F.RTX_TX_STAT_APPLIED.addr = Reg.RTX_TX_STAT from rfl, hregs _ (by decide) (by decide) (by decide)]
    exact happlied

theorem State.txGo_sequence {s : State} {j : TxJob} (c : s.canonical = true) (hsrc : j.src = .op) (p : Nat) (x : Int) (clamped low : Bool)
    (fr : List Byte) : TxSequence s j p x fr (s.txGo j p x clamped low fr) := by
  have hdrive := Frame.driveOf (w := 0x10000) (Frame.refl _ s) (by decide) p x s.liveSense
  unfold State.txGo
  generalize s.driveOf p x s.liveSense = driven at hdrive
  obtain ⟨drive, out, s1⟩ := driven
  obtain ⟨c2, hblank, hres, happlied, hsense⟩ := State.txBegun_result (hdrive.1.canon c) p x (clamped || out) low
  have hbegun : ((s1.txStat p x (clamped || out) low).crsReserve .tx).blank = s1.txBegun p x (clamped || out) low := rfl
  have hsense' := hsense.trans (hdrive.reg c _ (by decide))
  dsimp only
  rw [hsrc]
  dsimp only
  rw [hbegun]
  generalize s1.txBegun p x (clamped || out) low = b at c2 hblank hres happlied hsense' ⊢
  have hstop (y : Nat) (hy : y ∉ receiverRegs) : TxAside y b (if b.pageSt P.RFE = 0 ∨ b.rxKept j = true then b else b.rxStop) :=
    (TxAside.refl y b).ite ((TxAside.refl y b).rxStop hy)
  generalize (if b.pageSt P.RFE = 0 ∨ b.rxKept j = true then b else b.rxStop) = s3 at hstop ⊢
  have hfree (y : Nat) (hy : y ∉ receiverRegs) : TxAside y b s3.freeVal.2 :=
    (hstop y hy).same (Keeps.freeVal (Keeps.refl s3)) rfl rfl rfl
  by_cases hmode : j.copy.modeCode = 1
  · rw [if_pos hmode]
    exact State.txEntered_sequence c2 hblank hres happlied hsense' hfree ⟨rfl, rfl, rfl, rfl, rfl, rfl⟩
  · rw [if_neg hmode]
    exact State.txEntered_sequence c2 hblank hres happlied hsense' hstop ⟨rfl, rfl, rfl, rfl, rfl, rfl⟩

end Sys2Proof.Machine
end

section
/-! SUPPORT. TX_SEQUENCE_START of a command (04 R99, R103): its turn, its path, its chain and its frame. -/

namespace Sys2Proof.Machine

theorem State.sequenceStart_op {s : State} {j : TxJob} (htx : s.radio.tx = some j) (hst : j.stage = .wait) (hack : s.ackDue = none) :
    s.sequenceStart = s.txOpStart j := by
  have hidle : s.txSending = false := by
    unfold State.txSending
    rw [htx]
    dsimp only
    rw [hst]
    rfl
  unfold State.sequenceStart
  rw [hidle, if_neg Bool.false_ne_true, htx, hack]
  dsimp only
  rw [if_pos hst]

/-- The temperature, the supply and the PA supply as a transmission takes them at T0 − 8 µs (04 R109). -/
def State.txSensed (s : State) : State := (s.rcpSample.setReg Reg.RTX_SENSE (s.reg Reg.TSN_LIVE)).calDueCheck

theorem State.txSensed_result {s : State} (c : s.canonical = true) :
    s.txSensed.canonical = true ∧ s.txSensed.radio.op = s.radio.op ∧ s.txSensed.reg Reg.RTX_SENSE = s.reg Reg.TSN_LIVE := by
  have c0 : s.rcpSample.canonical = true := (Keeps.rcpSample (Keeps.refl s)).canon c
  have c1 := ((Keeps.refl s.rcpSample).setReg Reg.RTX_SENSE (s.reg Reg.TSN_LIVE)).canon c0
  have hcheck := Frame.calDueCheck (w := 0x200000000000000) (Frame.refl _ (s.rcpSample.setReg Reg.RTX_SENSE (s.reg Reg.TSN_LIVE))) (by decide)
  refine ⟨hcheck.1.canon c1, ?_, ?_⟩
  · exact (congrArg Radio.op (hcheck.radio (by decide))).trans ((congrArg Radio.op (State.setReg_radio s.rcpSample _ _)).trans rfl)
  · exact (hcheck.reg c1 _ (by decide)).trans ((State.reg_setReg c0 _ _ _).trans (if_pos rfl))

/-- A transmission whose time has come, on a locked channel, with a path to use. -/
theorem State.txOpStart_use {s : State} {j : TxJob} {i p : Nat} {x : Int} {cl low : Bool} (ht0 : j.t0 = some i)
    (htime : notBefore (addTicks s.count (usTicks 8)) i = true) (hlock : s.crsLockedTo j.copy.freq = true) (hon : s.radioState ≠ 0)
    (hpick : s.txSensed.pickPath j.copy.modeCode (in24 j.copy) j.slot s.txSensed.liveSense.vpa = .use p x cl low) :
    s.txOpStart j = s.txSensed.txOpSend j i p x cl low := by
  unfold State.txOpStart
  rw [ht0]
  dsimp only
  rw [htime, hlock, Bool.not_true, if_neg Bool.false_ne_true, if_neg (by simpa using hon)]
  unfold State.txSensed at hpick ⊢
  rw [hpick]
  rfl

/-- A mode without a lane and a profile: the walk of the chain decides. -/
theorem State.txOpSend_walked {s : State} {j : TxJob} {i p : Nat} {x : Int} {cl low : Bool} {bs : List Nat} (hlane : j.copy.onLane = false)
    (hwalk : (s.txWalk j.copy j.head).1 = some bs) : s.txOpSend j i p x cl low = s.txOpChain j i p x cl low s.txLane bs := by
  have hmode : j.copy.modeCode ≠ 9 := by
    intro h
    unfold DescCopy.onLane at hlane
    rw [h] at hlane
    exact absurd hlane (by decide)
  have hsame := s.txWalk_some j.copy j.head bs hwalk
  unfold State.txOpSend State.txProfile
  rw [hlane, if_pos hmode]
  dsimp only
  generalize s.txWalk j.copy j.head = walked at hwalk hsame
  obtain ⟨r, u⟩ := walked
  dsimp only at hwalk hsame
  subst hwalk hsame
  rfl

/-- The frame is formed, and the sequence runs. -/
theorem State.txOpChain_sequence {s : State} {j : TxJob} {o : RadOp} {i p : Nat} {x : Int} {cl low : Bool} {bs : List Nat} {fr : List Byte}
    {lane : Option Nat} (c : s.canonical = true) (hsrc : j.src = .op) (hop : s.radio.op = some o)
    (hframe : (s.opFrame j o.src i (s.chainData true true bs)).1 = some fr) :
    TxSequence s { j with t0 := some i, chain := bs } p x fr (s.txOpChain j i p x cl low lane bs) := by
  have hformed := s.opFrame_formed j o.src i (s.chainData true true bs) fr hframe
  unfold State.txOpChain
  rw [hop]
  dsimp only
  generalize s.opFrame j o.src i (s.chainData true true bs) = r at hframe hformed
  obtain ⟨f, u⟩ := r
  dsimp only at hframe hformed ⊢
  subst hframe
  have hgiven : Frame 0x10 u (u.giveAll bs .transmit) := (Frame.refl _ u).giveAll (by decide) bs .transmit
  have cu := hformed.1.canon c
  obtain ⟨hjob, hstate, hmoving, hblank, hpage, hres, hsense, happlied⟩ := State.txGo_sequence (hgiven.1.canon cu)
    (j := { j with t0 := some i, chain := bs, keep := (u.recordWord j.head).testBit 22, lane := if j.copy.onLane then lane else none }) hsrc p x cl low fr
  exact ⟨hjob, hstate, hmoving, hblank, hpage, hres, hsense.trans ((hgiven.reg cu _ (by decide)).trans (hformed.reg c _ (by decide))), happlied⟩

/-- The sequence of a command whose chain is walked. -/
theorem State.txSequenceStart_op {s : State} {j : TxJob} {o : RadOp} {i p : Nat} {x : Int} {cl low : Bool} {bs : List Nat} {fr : List Byte}
    (c : s.canonical = true) (htx : s.radio.tx = some j) (hon : s.radioState ≠ 0) (hop : s.radio.op = some o) (hst : j.stage = .wait)
    (hsrc : j.src = .op) (ht0 : j.t0 = some i) (hack : s.ackDue = none) (htime : notBefore (addTicks s.count (usTicks 8)) i = true)
    (hlock : s.crsLockedTo j.copy.freq = true) (hlane : j.copy.onLane = false)
    (hpick : s.txSensed.pickPath j.copy.modeCode (in24 j.copy) j.slot s.txSensed.liveSense.vpa = .use p x cl low)
    (hwalk : (s.txSensed.txWalk j.copy j.head).1 = some bs)
    (hframe : ((s.txSensed.txWalk j.copy j.head).2.opFrame j o.src i ((s.txSensed.txWalk j.copy j.head).2.chainData true true bs)).1 = some fr) :
    ∃ t, exec (.txSequenceStart none) s = .next t ∧ TxSequence s.txSensed { j with t0 := some i, chain := bs } p x fr t := by
  obtain ⟨c1, hop1, -⟩ := State.txSensed_result c
  rw [s.txSensed.txWalk_some j.copy j.head bs hwalk] at hframe
  refine ⟨_, rfl, ?_⟩
  show TxSequence _ _ _ _ _ s.sequenceStart
  rw [State.sequenceStart_op htx hst hack, State.txOpStart_use ht0 htime hlock hon hpick, State.txOpSend_walked hlane hwalk]
  exact State.txOpChain_sequence c1 hsrc (hop1.trans hop) hframe

end Sys2Proof.Machine
end

section
/-! SUPPORT. ON_AIR and FRAME_TX_END (04 R103, R112; 05 R122): the frame on air, its end, and what the detector measured over it. -/

namespace Sys2Proof.Machine

/-- The bytes of a range are a matter of memory. -/
theorem State.bytesAt_congr {s t : State} (hmem : t.mem = s.mem) (a n : Nat) : t.bytesAt a n = s.bytesAt a n := by
  induction n generalizing a with
  | zero => rfl
  | succ n ih =>
    unfold State.bytesAt State.byte
    rw [hmem, ih]

/-- Whether a chain holds a bad word is a matter of memory and of the fault manager. -/
theorem State.chainBad_congr {s t : State} (hmem : t.mem = s.mem) (hflt : t.flt = s.flt) (first : Bool) (bs : List Nat) :
    t.chainBad first bs = s.chainBad first bs := by
  induction bs generalizing first with
  | nil => rfl
  | cons b bs ih =>
    have hlink : t.linkWord b = s.linkWord b := by
      unfold State.linkWord State.memNat
      rw [State.bytesAt_congr hmem]
    have hrange (a n : Nat) : t.rangeBad a n = s.rangeBad a n := by
      unfold State.rangeBad
      rw [hflt]
    unfold State.chainBad
    dsimp only
    rw [hlink, hrange, ih]

/-- The job enters a stage that PAGE_STAT of the transmitter shows, and an event of the radio is raised. -/
def State.txStage (s : State) (k : TxJob) (v n : Nat) : State :=
  ((s.setRadio (fun r => { r with tx := some k })).setPageSt P.RTX v).event P.RAD n

theorem State.txStage_result {s : State} (c : s.canonical = true) (k : TxJob) (v n : Nat) :
    let t := s.txStage k v n
    Frame 0x80000000000084 s t ∧ t.radio = { s.radio with tx := some k } ∧ t.pageSt P.RTX = v % 16 ∧
      ∀ x, x ≠ Reg.PAGE_STAT P.RTX → t.reg x = s.reg x := by
  have cr : (s.setRadio (fun r => { r with tx := some k })).canonical = true := ((Keeps.refl s).setRadio _).canon c
  have cp := ((Keeps.refl _).setPageSt P.RTX v).canon cr
  have hevent := Frame.event (w := 0x80) (Frame.refl _ ((s.setRadio (fun r => { r with tx := some k })).setPageSt P.RTX v)) (by decide) P.RAD n
  refine ⟨(((Frame.refl _ s).setRadio (by decide) _).setPageSt (Or.inr (by decide))).event (by decide) P.RAD n, ?_, ?_, fun x hx => ?_⟩
  · exact (hevent.radio (by decide)).trans ((State.put_radio _ _ _).trans rfl)
  · exact (hevent.get cp (F.PAGE_STAT_STATE P.RTX) (by decide)).trans (State.pageSt_setPageSt cr _ _)
  · exact (((TxAside.refl x _).event P.RAD n).reg cp).trans (((State.reg_put cr _ _ _).trans (if_neg hx)).trans rfl)

/-- T0 of a frame without a bad word. -/
theorem State.onAir_result {s : State} {j : TxJob} (c : s.canonical = true) (htx : s.radio.tx = some j) (hst : j.stage = .rampUp)
    (hgood : s.chainBad true j.chain = none) :
    ∃ t, exec .onAir s = .next t ∧ t.radio = { s.radio with tx := some { j with stage := .onAir, onAirAt := s.count } } ∧ t.pageSt P.RTX = 3 ∧
      t.mem = s.mem := by
  obtain ⟨hframe, hradio, hpage, -⟩ := State.txStage_result c { j with stage := .onAir, onAirAt := s.count } 3 1
  have hgood' := (State.chainBad_congr (hframe.mem (by decide)) (hframe.flt (by decide)) true j.chain).trans hgood
  have hexec : exec .onAir s = .next (s.txStage { j with stage := .onAir, onAirAt := s.count } 3 1) := by
    rw [exec_onAir, execOnAir, htx]
    dsimp only
    rw [if_pos hst]
    unfold State.txStage at hgood' ⊢
    rw [hgood']
  exact ⟨_, hexec, hradio, hpage, hframe.mem (by decide)⟩

/-- The last sample of a frame has left, and the transition to the exit begins. -/
def State.frameEnds (s : State) (j : TxJob) : State :=
  (s.txStage { j with stage := .rampDown, te := s.count } 4 2).exitBegins { j with stage := .rampDown, te := s.count }

/-- The transition that TE begins, where no command and no other transmission waits. -/
theorem State.exitBegins_moves {s : State} (c : s.canonical = true) (j : TxJob) (hsrc : j.src = .op) (hwaits : s.waits = false)
    (hnext : s.radio.txNext = none) : (s.exitBegins j).on F.RAD_STATE_MOVING = true ∧
      (s.exitBegins j).get F.RAD_STATE_TARGET = if j.exit = 0 then 1 else if j.exit = 1 then 2 else if j.exit = 3 then 4 else 3 := by
  have c1 : (s.put F.RAD_STATE_MOVING 1).canonical = true := ((Keeps.refl s).put _ _).canon c
  have hexit : s.exitBegins j = (s.moveTo (exitState (s.jobExit j))).setRadio (fun r =>
      { r with turnRx := s.jobExit j == 1 || s.jobExit j == 2 || s.jobExit j == 4 }) := by
    unfold State.exitBegins
    rw [hwaits, hnext]
    rfl
  have hget (f : Field) : (s.exitBegins j).get f = ((s.put F.RAD_STATE_MOVING 1).put F.RAD_STATE_TARGET (exitState (s.jobExit j))).get f := by
    rw [hexit]
    rfl
  have hjob : s.jobExit j = if j.exit = 2 then 4 else j.exit := by
    unfold State.jobExit
    rw [hsrc]
  refine ⟨?_, ?_⟩
  · rw [State.on, hget, State.get_put_other c1 _ _ _ (by decide) (by decide), State.get_put_self c _ _ (by decide)]
    rfl
  · rw [hget, State.get_put_self c1 _ _ (by decide), hjob]
    by_cases h2 : j.exit = 2
    · rw [if_pos h2, h2]
      rfl
    · rw [if_neg h2]
      unfold exitState
      split_ifs <;> rfl

theorem State.frameEnds_result {s : State} (c : s.canonical = true) (j : TxJob) :
    (s.frameEnds j).canonical = true ∧ (s.frameEnds j).radio.tx = some { j with stage := .rampDown, te := s.count } ∧ (s.frameEnds j).pageSt P.RTX = 4 ∧
      ∀ f : Field, f.addr ≠ Reg.PAGE_STAT P.RTX → pageIx f.addr = P.RTX → (s.frameEnds j).get f = s.get f := by
  obtain ⟨hframe, hradio, hpage, hreg⟩ := State.txStage_result c { j with stage := .rampDown, te := s.count } 4 2
  have hexit := Frame.exitBegins (w := 0x200000000000004) (Frame.refl _ (s.txStage { j with stage := .rampDown, te := s.count } 4 2)) (by decide)
    { j with stage := .rampDown, te := s.count }
  have c1 := hframe.1.canon c
  refine ⟨hexit.1.canon c1, ?_, (hexit.get c1 (F.PAGE_STAT_STATE P.RTX) (by decide)).trans hpage, fun f h1 h2 => ?_⟩
  · exact (State.exitBegins_tx _ _).1.trans (by rw [hradio])
  · refine (hexit.get c1 f (by rw [h2]; decide)).trans ?_
    rw [State.get, hreg _ h1, ← State.get]

end Sys2Proof.Machine
end

section
/-! SUPPORT. The end of a frame as the detector and the state machine of the radio take it (04 R112, R114; 05 R122). -/

namespace Sys2Proof.Machine

theorem signedN_lowBits {z : Int} (hlo : -128 ≤ z) (hhi : z < 128) : signedN 8 (lowBits 8 z) = z := by
  unfold signedN lowBits
  dsimp only
  norm_num
  split_ifs <;> omega

theorem clampInt_bounds {lo hi : Int} (h : lo ≤ hi) (z : Int) : lo ≤ clampInt lo hi z ∧ clampInt lo hi z ≤ hi := by
  unfold clampInt
  split_ifs <;> omega

theorem State.loopOfs_field (p : Nat) : (loopOfs p).addr = Reg.RTX_LOOP_OFS ∧ (loopOfs p).width = 8 ∧ (loopOfs p).lo + (loopOfs p).width ≤ 32 := by
  unfold loopOfs
  split_ifs <;> decide

/-- A whole step of the closed loop: the offset takes half the error, and the transmitter shows the same state. -/
theorem State.detector_loop {s : State} (c : s.canonical = true) (j : TxJob) {e : Int} (hcomp : s.get F.RTX_CFG_COMP = 2) (heven : e % 2 = 0)
    (hlo : -96 ≤ e) (hhi : e ≤ 96) :
    (s.detector j e).getInt (loopOfs j.path) = clampInt (-64) 64 (s.getInt (loopOfs j.path) - e / 2) ∧ (s.detector j e).pageSt P.RTX = s.pageSt P.RTX := by
  obtain ⟨haddr, hwidth, hfit⟩ := State.loopOfs_field j.path
  have hnear : ¬(((s.get F.RTX_CFG_COMP = 2 ∨ s.get F.RTX_CFG_COMP = 3) ∧ (96 < e ∨ e < -96)) ∨ e < -320) := by omega
  unfold State.detector
  dsimp only
  rw [if_pos (Or.inl hcomp), if_neg hnear, if_neg (by omega : ¬ e % 2 = 1)]
  dsimp only
  rw [Nat.cast_zero, Int.add_zero]
  generalize hz : s.getInt (loopOfs j.path) - e / 2 = z
  have hbounds := clampInt_bounds (show (-64 : Int) ≤ 64 by decide) z
  have c1 : (s.putInt (loopOfs j.path) (clampInt (-64) 64 z)).canonical = true := ((Keeps.refl s).putInt _ _).canon c
  have hput : (s.putInt (loopOfs j.path) (clampInt (-64) 64 z)).getInt (loopOfs j.path) = clampInt (-64) 64 z := by
    rw [State.getInt, State.get_putInt_self c _ _ hfit, hwidth]
    exact signedN_lowBits (by omega) (by omega)
  have flagged (y : Nat) (hy : y ≠ Reg.IRQ_RAW P.RTX) : TxAside y (s.putInt (loopOfs j.path) (clampInt (-64) 64 z))
      (if clampInt (-64) 64 z ≠ z ∨ clampInt (-64) 64 z = 64 ∨ clampInt (-64) 64 z = -64 then
        (s.putInt (loopOfs j.path) (clampInt (-64) 64 z)).flag P.RTX 4 else s.putInt (loopOfs j.path) (clampInt (-64) 64 z)) :=
    ((TxAside.refl y _).flag _ _ hy).ite (TxAside.refl y _)
  refine ⟨?_, ?_⟩
  · rw [State.getInt, (flagged Reg.RTX_LOOP_OFS (by decide)).get c1 _ haddr]
    exact hput
  · have hpage := ((TxAside.refl (Reg.PAGE_STAT P.RTX) s).put (f := loopOfs j.path) (lowBits (loopOfs j.path).width (clampInt (-64) 64 z))
      (by rw [haddr]; decide)).get c (F.PAGE_STAT_STATE P.RTX) rfl
    exact ((flagged (Reg.PAGE_STAT P.RTX) (by decide)).get c1 (F.PAGE_STAT_STATE P.RTX) rfl).trans hpage

theorem State.frameSent_op {s : State} {j : TxJob} (hsrc : j.src = .op) (det : Option Int) :
    s.frameSent j det = optDo det s (fun e => s.detector j e) := by
  unfold State.frameSent
  rw [hsrc]

/-- TE of a command's frame, and what the detector makes of its reading. -/
theorem State.frameTxEnd_op {s : State} {j : TxJob} (det : Option Int) (htx : s.radio.tx = some j) (hst : j.stage = .onAir) (hsrc : j.src = .op) :
    exec (.frameTxEnd det) s = .next (optDo (if decide (usTicks 40 ≤ subTicks s.count j.onAirAt) && decide (0 ≤ j.applied) && !j.ilim then det else none)
      (s.frameEnds j) (fun e => (s.frameEnds j).detector j e)) := by
  rw [exec_frameTxEnd, execFrameTxEnd, htx]
  dsimp only
  rw [if_neg (not_not_intro hst)]
  exact congrArg Host.Outcome.next (State.frameSent_op hsrc _)

theorem State.frameTxEnd_plain {s : State} {j : TxJob} (c : s.canonical = true) (htx : s.radio.tx = some j) (hst : j.stage = .onAir)
    (hsrc : j.src = .op) :
    ∃ t, exec (.frameTxEnd none) s = .next t ∧ t.radio.tx = some { j with stage := .rampDown, te := s.count } ∧ t.pageSt P.RTX = 4 ∧
      (s.waits = false → s.radio.txNext = none → t.on F.RAD_STATE_MOVING = true ∧
        t.get F.RAD_STATE_TARGET = (if j.exit = 0 then 1 else if j.exit = 1 then 2 else if j.exit = 3 then 4 else 3)) := by
  have hexec := State.frameTxEnd_op none htx hst hsrc
  rw [ite_self] at hexec
  obtain ⟨-, htx', hpage, -⟩ := State.frameEnds_result c j
  refine ⟨_, hexec, htx', hpage, fun hwaits hnext => ?_⟩
  obtain ⟨hframe, hradio, -, -⟩ := State.txStage_result c { j with stage := .rampDown, te := s.count } 4 2
  have hwaits' : (s.txStage { j with stage := .rampDown, te := s.count } 4 2).waits = false := by
    unfold State.waits
    rw [hradio]
    exact hwaits
  exact State.exitBegins_moves (hframe.1.canon c) { j with stage := .rampDown, te := s.count } hsrc hwaits' (by rw [hradio]; exact hnext)

theorem State.frameTxEnd_measured {s : State} {j : TxJob} {e : Int} (c : s.canonical = true) (htx : s.radio.tx = some j) (hst : j.stage = .onAir)
    (hsrc : j.src = .op) (hlong : usTicks 40 ≤ subTicks s.count j.onAirAt) (hpower : 0 ≤ j.applied) (hilim : j.ilim = false)
    (hcomp : s.get F.RTX_CFG_COMP = 2) (heven : e % 2 = 0) (hlo : -96 ≤ e) (hhi : e ≤ 96) :
    ∃ t, exec (.frameTxEnd (some e)) s = .next t ∧ t.pageSt P.RTX = 4 ∧
      t.getInt (loopOfs j.path) = clampInt (-64) 64 (s.getInt (loopOfs j.path) - e / 2) := by
  have hexec := State.frameTxEnd_op (some e) htx hst hsrc
  rw [decide_eq_true hlong, decide_eq_true hpower, hilim, Bool.not_false, Bool.and_true, Bool.and_true, if_pos rfl] at hexec
  obtain ⟨c1, -, hpage, hget⟩ := State.frameEnds_result c j
  obtain ⟨haddr, -, -⟩ := State.loopOfs_field j.path
  have hofs : (s.frameEnds j).getInt (loopOfs j.path) = s.getInt (loopOfs j.path) :=
    congrArg (signedN _) (hget _ (by rw [haddr]; decide) (by rw [haddr]; decide))
  obtain ⟨hloop, hshown⟩ := State.detector_loop c1 j ((hget _ (by decide) (by decide)).trans hcomp) heven hlo hhi
  exact ⟨_, hexec, hshown.trans hpage, by rw [← hofs]; exact hloop⟩

end Sys2Proof.Machine
end

section
/-! SUPPORT. RAMP_UP_START, RAMP_DOWN_END, UNDERRUN and ILIM (04 R96, R101, R103, R116): the ramps, and what stops or limits a frame. -/

namespace Sys2Proof.Machine

/-- The last reservation ends, and nothing is held for it. -/
theorem State.crsRelease_result {s : State} (c : s.canonical = true) (u : CrsUser) (hheld : s.crs.held = none) :
    (s.crsRelease u).radio = s.radio ∧ (s.crsRelease u).pageSt P.RTX = s.pageSt P.RTX ∧
      (s.crs.reserved = [u] → (s.crsRelease u).crs.reserved = [] ∧ (s.crsRelease u).on F.SYN_CRS_STAT_RESERVED = false) := by
  have hplain : s.crsRelease u = if s.crs.reserved.contains u then
      { s.put F.SYN_CRS_STAT_RESERVED (boolNat (!(s.crs.reserved.filter (· != u)).isEmpty)) with
        crs := { s.crs with reserved := s.crs.reserved.filter (· != u) } } else s := by
    unfold State.crsRelease
    dsimp only
    rw [hheld, ite_self]
  have hfree (v : Nat) (k : Crs) : ({ s.put F.SYN_CRS_STAT_RESERVED v with crs := k } : State).radio = s.radio ∧
      ({ s.put F.SYN_CRS_STAT_RESERVED v with crs := k } : State).pageSt P.RTX = s.pageSt P.RTX :=
    ⟨State.put_radio s F.SYN_CRS_STAT_RESERVED v, (State.get_of_regs (s := s.put F.SYN_CRS_STAT_RESERVED v) rfl _).trans
      (State.get_put_other c F.SYN_CRS_STAT_RESERVED (F.PAGE_STAT_STATE P.RTX) v (by decide) (by decide))⟩
  rw [hplain]
  refine ⟨?_, ?_, fun hone => ?_⟩
  · split
    · exact (hfree _ _).1
    · rfl
  · split
    · exact (hfree _ _).2
    · rfl
  · have hleft : s.crs.reserved.filter (· != u) = [] := by
      rw [hone]
      simp
    rw [hleft, if_pos (by rw [hone]; simp)]
    refine ⟨rfl, ?_⟩
    have hoff := State.get_put_self c F.SYN_CRS_STAT_RESERVED 0 (by decide)
    exact congrArg (· != 0) hoff

theorem State.txWaits_none {s : State} (h : s.waits = false) : s.txWaits = false := by
  unfold State.txWaits
  rw [h, Bool.false_and]

/-- The PA is off, the reservation ends, and nothing waits. -/
theorem State.rampDownEnd_op {s : State} {j : TxJob} (c : s.canonical = true) (htx : s.radio.tx = some j) (hst : j.stage = .rampDown)
    (hsrc : j.src = .op) (hwaits : s.waits = false) (hheld : s.crs.held = none) :
    ∃ t, exec .rampDownEnd s = .next t ∧ t.radio = { s.radio with tx := some { j with stage := .tail } } ∧ t.pageSt P.RTX = 1 ∧
      (s.crs.reserved = [CrsUser.tx] → t.crs.reserved = [] ∧ t.on F.SYN_CRS_STAT_RESERVED = false) := by
  have cr : (s.setRadio (fun r => { r with tx := some { j with stage := .tail } })).canonical = true := ((Keeps.refl s).setRadio _).canon c
  have hradio : ((s.setRadio (fun r => { r with tx := some { j with stage := .tail } })).setPageSt P.RTX 1).radio =
      { s.radio with tx := some { j with stage := .tail } } := (State.put_radio _ _ _).trans rfl
  have hcrs : ((s.setRadio (fun r => { r with tx := some { j with stage := .tail } })).setPageSt P.RTX 1).crs = s.crs := (State.put_crs _ _ _).trans rfl
  have hpage := State.pageSt_setPageSt cr P.RTX 1
  have c1 := ((Keeps.refl _).setPageSt P.RTX 1).canon cr
  have hexec : ∃ q : Bool, exec .rampDownEnd s = .next
      (let u := ((s.setRadio (fun r => { r with tx := some { j with stage := .tail } })).setPageSt P.RTX 1).crsRelease .tx
       if u.txWaits && q && u.radio.txNext.isNone then u.txEnd j else u) := by
    rw [exec_rampDownEnd, execRampDownEnd, htx]
    dsimp only
    rw [if_neg (not_not_intro hst), hsrc]
    exact ⟨_, rfl⟩
  obtain ⟨q, hexec⟩ := hexec
  generalize (s.setRadio (fun r => { r with tx := some { j with stage := .tail } })).setPageSt P.RTX 1 = b at hexec hradio hcrs hpage c1
  obtain ⟨hradio', hpage', hres⟩ := State.crsRelease_result c1 .tx (by rw [hcrs]; exact hheld)
  have hnone : (b.crsRelease .tx).txWaits = false := State.txWaits_none (by
    unfold State.waits
    rw [hradio', hradio]
    exact hwaits)
  dsimp only at hexec
  rw [hnone, Bool.false_and, Bool.false_and, if_neg Bool.false_ne_true] at hexec
  exact ⟨_, hexec, hradio'.trans hradio, hpage'.trans hpage, fun h => hres (by rw [hcrs]; exact h)⟩

theorem State.rampUpStart_result {s : State} {j : TxJob} (htx : s.radio.tx = some j) (hst : j.stage = .sequence) :
    exec .rampUpStart s = .next (s.setRadio (fun r => { r with tx := some { j with stage := .rampUp } })) := by
  rw [exec_rampUpStart, execRampUpStart, htx]
  exact congrArg Host.Outcome.next (if_pos hst)

/-- Data that did not reach the modulator in time: the transmission of a command ramps down, and UNDERRUN shows it. -/
theorem State.underrun_op {s : State} {j : TxJob} (c : s.canonical = true) (htx : s.radio.tx = some j) (hsrc : j.src = .op) (hone : j.status = 1)
    (hst : j.stage = .sequence ∨ j.stage = .rampUp ∨ j.stage = .onAir) :
    ∃ t, exec .underrun s = .next t ∧ t.on F.RTX_TX_STAT_UNDERRUN = true ∧
      t.radio.tx = some { j with stage := .rampDown, status := 5, te := s.count } ∧ t.pageSt P.RTX = 4 := by
  have hexec : exec .underrun s = .next (s.underrunShown.txFail 5) := by
    rw [exec_underrun, execUnderrun, htx]
    exact congrArg Host.Outcome.next (if_pos hst)
  have hshown := s.underrunShown_aside (x := Reg.PAGE_CTRL P.RTX) (by decide) (by decide)
  have htx' : s.underrunShown.radio.tx = some j := hshown.tx.trans htx
  have hframe : Frame 0x80000000000000 s s.underrunShown := ((Frame.refl _ s).put (Or.inr (by decide))).flag (Or.inr (by decide))
  have c1 := hshown.canon c
  have cput : (s.put F.RTX_TX_STAT_UNDERRUN 1).canonical = true := ((Keeps.refl s).put _ _).canon c
  have hon : s.underrunShown.get F.RTX_TX_STAT_UNDERRUN = 1 :=
    (((TxAside.refl Reg.RTX_TX_STAT _).flag P.RTX 1 (by decide)).get cput F.RTX_TX_STAT_UNDERRUN rfl).trans (State.get_put_self c _ _ (by decide))
  rw [State.txFail_op 5 htx' hst hone hsrc] at hexec
  obtain ⟨-, htx2, hpage, hstat⟩ := State.txCut_result (status := 5) c1 htx' hst
  rw [hframe.count (by decide)] at htx2
  refine ⟨_, hexec, ?_, htx2, hpage⟩
  rw [State.on, State.get, show F.RTX_TX_STAT_UNDERRUN.addr = Reg.RTX_TX_STAT from rfl, hstat]
  exact congrArg (· != 0) hon

/-- The current limit of the power amplifier acts during a frame. -/
theorem State.ilim_result {s : State} {j : TxJob} (c : s.canonical = true) (htx : s.radio.tx = some j) (hpath : j.path = 2)
    (hst : j.stage = .rampUp ∨ j.stage = .onAir) :
    ∃ t, exec .ilim s = .next t ∧ t.on F.RTX_TX_STAT_ILIM = true ∧ t.radio = { s.radio with tx := some { j with ilim := true } } := by
  have hexec : exec .ilim s = .next (((s.setRadio (fun r => { r with tx := some { j with ilim := true } })).put F.RTX_TX_STAT_ILIM 1).flag P.RTX 2) := by
    rw [exec_ilim, execIlim, htx]
    exact congrArg Host.Outcome.next (if_pos ⟨hpath, hst⟩)
  have cr : (s.setRadio (fun r => { r with tx := some { j with ilim := true } })).canonical = true := ((Keeps.refl s).setRadio _).canon c
  have cp := ((Keeps.refl _).put F.RTX_TX_STAT_ILIM 1).canon cr
  have hframe := Frame.flag (w := 0x80000000000000) (p := P.RTX) (n := 2)
    (Frame.refl _ ((s.setRadio (fun r => { r with tx := some { j with ilim := true } })).put F.RTX_TX_STAT_ILIM 1)) (Or.inr (by decide))
  refine ⟨_, hexec, ?_, (hframe.radio (by decide)).trans ((State.put_radio _ _ _).trans rfl)⟩
  rw [State.on, ((TxAside.refl Reg.RTX_TX_STAT _).flag P.RTX 2 (by decide)).get cp _ rfl, State.get_put_self cr _ _ (by decide)]
  rfl

end Sys2Proof.Machine
end

section
/-! SUPPORT. ANT_SEL_EXIT (04 R102, R103; 05 R122, R133, R141): the operation of a transmission ends, and its exit is taken. -/

namespace Sys2Proof.Machine

/-- The status of a software command shows in RAD.CMD_STAT. -/
theorem State.endSrc_software {s : State} (c : s.canonical = true) (status : Nat) (slip noFrame busy argErr : Bool) (endAt : Nat) :
    let t := s.endSrc (.software s.radio.cmdNo) status slip noFrame busy argErr endAt
    t.get F.RAD_CMD_STAT_STATUS = status % 16 ∧ t.get F.RAD_CMD_STAT_FINAL = 1 := by
  have c1 : (s.put F.RAD_CMD_STAT_STATUS status).canonical = true := ((Keeps.refl s).put _ _).canon c
  have c2 := ((Keeps.refl _).put F.RAD_CMD_STAT_FINAL 1).canon c1
  have c3 := ((Keeps.refl _).put F.RAD_CMD_STAT_SLIP (boolNat (slip || s.on F.RAD_CMD_STAT_SLIP))).canon c2
  have c4 := ((Keeps.refl _).put F.RAD_CMD_STAT_CCA_BUSY (boolNat busy)).canon c3
  have c5 := ((Keeps.refl _).put F.RAD_CMD_STAT_ARG_ERR (boolNat argErr)).canon c4
  have hget (f : Field) (hf : f.addr = Reg.RAD_CMD_STAT) := (((((TxAside.refl Reg.RAD_CMD_STAT _).flag P.RAD 0 (by decide)).event P.RAD 3).statusNoted
    status (by decide) (by decide) (by decide) (by decide))).get c5 f hf
  unfold State.endSrc
  dsimp only
  rw [if_pos rfl]
  refine ⟨(hget _ rfl).trans ?_, (hget _ rfl).trans ?_⟩
  · rw [State.get_put_other c4 _ _ _ (by decide) (by decide), State.get_put_other c3 _ _ _ (by decide) (by decide),
      State.get_put_other c2 _ _ _ (by decide) (by decide), State.get_put_other c1 _ _ _ (by decide) (by decide), State.get_put_self c _ _ (by decide)]
    rfl
  · rw [State.get_put_other c4 _ _ _ (by decide) (by decide), State.get_put_other c3 _ _ _ (by decide) (by decide),
      State.get_put_other c2 _ _ _ (by decide) (by decide), State.get_put_self c1 _ _ (by decide)]
    rfl

/-- The exit IDLE: the receiver and the carrier synthesiser stop, blanking ends, and IDLE is entered. -/
def State.idleEntered (s : State) : State := (((s.unblank.rxStop).crsStop).enterState 1).antQuiet

theorem State.idleEntered_result {s : State} (c : s.canonical = true) :
    s.idleEntered.radioState = 1 ∧ s.idleEntered.get F.RAD_STATE_MOVING = 0 ∧ s.idleEntered.get F.RAD_STATE_BLANK = 0 ∧
      TxAside Reg.RAD_CMD_STAT s s.idleEntered := by
  obtain ⟨-, c1, hblank, -⟩ := State.unblank_state c
  have hstop : TxAside Reg.RAD_STATE s.unblank (s.unblank.rxStop).crsStop := ((TxAside.refl _ _).rxStop (by decide)).crsStop (by decide) (by decide)
  obtain ⟨hstate, hmoving, hkept⟩ := State.enterState_state (hstop.canon c1) 1
  have hent := ((Keeps.refl (s.unblank.rxStop).crsStop).enterState 1).canon (hstop.canon c1)
  have hquiet (f : Field) (hf : f.addr = Reg.RAD_STATE) : s.idleEntered.get f = (((s.unblank.rxStop).crsStop).enterState 1).get f :=
    ((TxAside.refl Reg.RAD_STATE _).antQuiet).get hent f hf
  exact ⟨(hquiet _ rfl).trans hstate, (hquiet _ rfl).trans hmoving, (hquiet _ rfl).trans (hkept.trans ((hstop.get c1 _ rfl).trans hblank)),
    (((((TxAside.refl _ s).unblank (by decide)).rxStop (by decide)).crsStop (by decide) (by decide)).enterState 1 (by decide)).antQuiet⟩

/-- The transmission is over, its chain moves, and the receiver's gain rests until 8 µs after TE. -/
def State.txOver (s : State) (j : TxJob) (src : OpSrc) : State :=
  let t := (s.setRadio (fun r => { r with tx := r.txNext, txNext := none })).chainDone j src
  { t with rfe := { t.rfe with holdTill := some (addTicks j.te (usTicks 8)) } }

theorem State.txOver_result (s : State) (j : TxJob) (src : OpSrc) :
    (s.txOver j src).radio = { s.radio with tx := s.radio.txNext, txNext := none } ∧ Keeps s (s.txOver j src) := by
  have hdone := Frame.chainDone (w := 0x4000000000000098) (Frame.refl _ (s.setRadio (fun r => { r with tx := r.txNext, txNext := none }))) (by decide) j src
  exact ⟨hdone.radio (by decide), (((Keeps.refl s).setRadio _).trans hdone.1).upd rfl (OtpKept.refl _)⟩

/-- What follows in the state in which a transmission is over: an ABORT's end, the transmission that displaced it or follows it, or the end of the
operation and the exit. -/
def State.txLeaves (s : State) (j : TxJob) : State :=
  let aborts : Bool := match s.radio.op with | some o => o.opcode == opAbort | none => false
  if aborts then (((s.unblank.rxStop).enterState 1).antQuiet).finishMove
  else if j.displaced then (s.setRadio (fun r => { r with turnRx := s.pageSt P.RFE != 0 })).antQuiet
  else if s.radio.tx.isSome then ((s.setRadio (fun r => { r with turnRx := s.pageSt P.RFE != 0 })).moveTo 5).antQuiet
  else match s.radio.op with
  | some o =>
    match j.src with
      | .op =>
        ((s.setRadio (fun r => { r with op := none })).endSrc o.src j.status o.slip false false false j.te).txExit (if j.exit = 2 then 4 else j.exit)
          j.desc j
      | .ack _ =>
        match s.rxOpEnds with
        | (t, some (ex, d)) => t.txExit ex d j
        | (t, none) => t.txExit j.exit j.desc j
  | none => s.txExit (match j.src with | .op => (if j.exit = 2 then 4 else j.exit) | .ack _ => j.exit) j.desc j

theorem State.antSelExit_leaves {s : State} {j : TxJob} (htx : s.radio.tx = some j) (hst : j.stage = .tail) :
    ∃ src, exec .antSelExit s = .next ((s.txOver j src).txLeaves j) := by
  rw [exec_antSelExit, execAntSelExit, htx]
  exact ⟨_, congrArg Host.Outcome.next (if_neg (not_not_intro hst))⟩

theorem State.txLeaves_displaced {s : State} {j : TxJob} {o : RadOp} (hop : s.radio.op = some o) (habort : o.opcode ≠ opAbort)
    (hdis : j.displaced = true) : s.txLeaves j = (s.setRadio (fun r => { r with turnRx := s.pageSt P.RFE != 0 })).antQuiet := by
  unfold State.txLeaves
  rw [hop]
  dsimp only
  rw [beq_false_of_ne habort, if_neg Bool.false_ne_true, if_pos hdis]

theorem State.txLeaves_op {s : State} {j : TxJob} {o : RadOp} (hop : s.radio.op = some o) (habort : o.opcode ≠ opAbort) (hdis : j.displaced = false)
    (htx : s.radio.tx = none) (hsrc : j.src = .op) : s.txLeaves j =
      ((s.setRadio (fun r => { r with op := none })).endSrc o.src j.status o.slip false false false j.te).txExit (if j.exit = 2 then 4 else j.exit)
        j.desc j := by
  unfold State.txLeaves
  rw [hop, htx, hdis]
  dsimp only
  rw [beq_false_of_ne habort, if_neg Bool.false_ne_true, if_neg Bool.false_ne_true, Option.isSome_none, if_neg Bool.false_ne_true, hsrc]

/-- A transmission that another displaced ends without its operation. -/
theorem State.antSelExit_displaced {s : State} {j : TxJob} {o : RadOp} (htx : s.radio.tx = some j) (hst : j.stage = .tail)
    (hdis : j.displaced = true) (hop : s.radio.op = some o) (habort : o.opcode ≠ opAbort) :
    ∃ t, exec .antSelExit s = .next t ∧ t.radio.op = some o ∧ t.radio.tx = s.radio.txNext ∧ t.radio.txNext = none := by
  obtain ⟨src, hexec⟩ := State.antSelExit_leaves htx hst
  obtain ⟨hradio, -⟩ := s.txOver_result j src
  generalize s.txOver j src = u at hexec hradio
  rw [State.txLeaves_displaced ((congrArg Radio.op hradio).trans hop) habort hdis] at hexec
  have hquiet := (TxAside.refl 0 (u.setRadio (fun r => { r with turnRx := u.pageSt P.RFE != 0 }))).antQuiet
  exact ⟨_, hexec, hquiet.op.trans ((congrArg Radio.op hradio).trans hop), hquiet.tx.trans (congrArg Radio.tx hradio),
    hquiet.txNext.trans (congrArg Radio.txNext hradio)⟩

/-- The exit IDLE of a transmission whose command is the last one that software gave. -/
theorem State.antSelExit_idle {s : State} {j : TxJob} {o : RadOp} (c : s.canonical = true) (htx : s.radio.tx = some j) (hst : j.stage = .tail)
    (hsrc : j.src = .op) (hexit : j.exit = 0) (hdis : j.displaced = false) (hop : s.radio.op = some o) (habort : o.opcode ≠ opAbort)
    (hcmd : o.src = .software s.radio.cmdNo) (hnext : s.radio.txNext = none) (hwaits : s.waits = false) :
    ∃ t, exec .antSelExit s = .next t ∧ t.radioState = 1 ∧ t.on F.RAD_STATE_MOVING = false ∧ t.radio.tx = none ∧ t.radio.op = none ∧
      t.get F.RAD_CMD_STAT_STATUS = j.status % 16 ∧ t.get F.RAD_CMD_STAT_FINAL = 1 ∧ t.on F.RAD_STATE_BLANK = false := by
  obtain ⟨src, hexec⟩ := State.antSelExit_leaves htx hst
  obtain ⟨hradio, hkeeps⟩ := s.txOver_result j src
  have c1 : ((s.txOver j src).setRadio (fun r => { r with op := none })).canonical = true := (hkeeps.setRadio _).canon c
  generalize s.txOver j src = u at hexec hradio c1
  rw [State.txLeaves_op ((congrArg Radio.op hradio).trans hop) habort hdis ((congrArg Radio.tx hradio).trans hnext) hsrc, hcmd, hexit] at hexec
  have hno : (u.setRadio (fun r => { r with op := none })).radio.cmdNo = s.radio.cmdNo := by
    have hcmdNo := congrArg Radio.cmdNo hradio
    exact hcmdNo
  have hidle : (u.setRadio (fun r => { r with op := none })).waits = false := by
    refine Eq.trans ?_ hwaits
    simp only [State.waits, State.setRadio, hradio]
  have hgone : (u.setRadio (fun r => { r with op := none })).radio.tx = none := (congrArg Radio.tx hradio).trans hnext
  have hfree : (u.setRadio (fun r => { r with op := none })).radio.op = none := rfl
  rw [← hno] at hexec
  generalize u.setRadio (fun r => { r with op := none }) = v at hexec c1 hidle hgone hfree
  have hended := (TxAside.refl 0 v).endSrc (by decide) (.software v.radio.cmdNo) j.status o.slip false false false j.te
  obtain ⟨hstatus, hfinal⟩ := State.endSrc_software c1 j.status o.slip false false false j.te
  generalize v.endSrc (.software v.radio.cmdNo) j.status o.slip false false false j.te = w at hexec hended hstatus hfinal
  have cw := hended.canon c1
  have hleft : w.txExit (if (0 : Nat) = 2 then 4 else 0) j.desc j = w.idleEntered := by
    unfold State.txExit
    rw [hended.waits, hidle]
    rfl
  rw [hleft] at hexec
  obtain ⟨hstate, hmoving, hblank, haside⟩ := State.idleEntered_result cw
  exact ⟨_, hexec, hstate, congrArg (· != 0) hmoving, haside.tx.trans (hended.tx.trans hgone), haside.op.trans (hended.op.trans hfree),
    (haside.get cw _ rfl).trans hstatus, (haside.get cw _ rfl).trans hfinal, congrArg (· != 0) hblank⟩

end Sys2Proof.Machine
end

section
/-! O9: a transmission, from its sequence to its exit. -/

namespace Sys2Proof.Machine

/-- Settles O9: the sequence runs into TX with the reservation and blanking on (`TxSequence`); each ramp, TE, the end of the ramp-down and the exit follow;
an underrun cuts the transmission, and the current limit shows. -/
theorem transmitEventsComplete : Obligations.TransmitEventsComplete := by
  refine ⟨?sequence, ?sequenceAtRound, ?rampUp, ?onAir, ?frameEnd, ?measured, ?rampDown, ?exitIdle, ?displaced, ?underrun, ?ilim⟩
  case sequence =>
    intro s j o i p x cl low bs fr c htx hon hop hst hsrc ht0 hack htime hlock hlane hpick hwalk hframe
    obtain ⟨t, hexec, hseq⟩ := State.txSequenceStart_op c htx hon hop hst hsrc ht0 hack htime hlock hlane hpick hwalk hframe
    obtain ⟨⟨k, htxk, hstage, hpath, happ, hchain, hfr, ht⟩, hstate, hmoving, hblank, hpage, hres, hsense, happlied⟩ := hseq
    obtain ⟨-, -, htemp⟩ := State.txSensed_result c
    refine ⟨t, hexec, ?_, ?_, hstate, hmoving, hblank, hpage, List.contains_iff_mem.mpr hres, hsense.trans htemp, ?_⟩
    · rw [htxk, Option.map_some, hstage, hpath, happ]
    · rw [htxk, Option.map_some, hchain, hfr, ht]
    · rw [State.getInt, happlied]
      rfl
  case sequenceAtRound =>
    intro s m
    exact ⟨_, rfl, _, rfl, rfl⟩
  case rampUp =>
    intro s j htx hst
    exact ⟨_, State.rampUpStart_result htx hst, rfl, rfl, rfl⟩
  case onAir =>
    intro s j c htx hst hgood
    exact State.onAir_result c htx hst hgood
  case frameEnd =>
    intro s j c htx hst hsrc
    exact State.frameTxEnd_plain c htx hst hsrc
  case measured =>
    intro s j e c htx hst hsrc hlong hpower hilim hcomp heven ⟨hlo, hhi⟩
    exact State.frameTxEnd_measured c htx hst hsrc hlong hpower hilim hcomp heven hlo hhi
  case rampDown =>
    intro s j c htx hst hsrc hwaits hheld
    exact State.rampDownEnd_op c htx hst hsrc hwaits hheld
  case exitIdle =>
    intro s j o c htx hst hsrc hexit hdis hop habort hcmd hnext hwaits
    exact State.antSelExit_idle c htx hst hsrc hexit hdis hop habort hcmd hnext hwaits
  case displaced =>
    intro s j o _ htx hst _ hdis hop habort
    exact State.antSelExit_displaced htx hst hdis hop habort
  case underrun =>
    intro s j c htx hsrc hone hst
    exact State.underrun_op c htx hsrc hone hst
  case ilim =>
    intro s j c htx hpath hst
    exact State.ilim_result c htx hpath hst

end Sys2Proof.Machine
end

section
/-! O7: CAL beside an acknowledgement that holds the carrier synthesiser. -/

namespace Sys2Proof.Machine

/-- The radio in IDLE with everything that a CAL needs, the carrier synthesiser locked and reserved by the committed acknowledgement of context 0. -/
def calBesideAck : State :=
  let s := [P.RAD, P.RFE, P.RTX, P.SYN].foldl (fun t p => t.put (F.PAGE_CTRL_ENABLE p) 1) State.reset
  let s := (((s.put F.RAD_STATE_STATE 1).put F.PWR_OP_ACTIVE 2).put F.CLK_STAT_PLL_LOCK 1).put F.CLK_STAT_HFXO_OK 1
  let s := (s.put F.SYN_CRS_STAT_LOCK 1).put F.RAD_CMD_ARG_ARG 3
  { s with pwr := { s.pwr with radioUp := true }, cores := { s.cores with released := [.apc, .ntc, .scc] },
           ctxs := s.ctxs.set 0 { ctx0 with busy := true, committed := true } }.crsReserve (.ack 0)

/-- The row of RAD.CMD (05 R142). -/
def radCmdRow : RegRow := ⟨0x100, 1, 4, 0x0, 0x0, 0x0, 0x0, false, false⟩

theorem calBesideAck_taken :
    (calBesideAck.cmdTaken .apc (withBits 0 0 4 6) radCmdRow && calBesideAck.canonical &&
      decide ((calBesideAck.cmdSeen .apc (withBits 0 0 4 6) radCmdRow).radioState = 1) &&
      !(calBesideAck.cmdSeen .apc (withBits 0 0 4 6) radCmdRow).on F.RAD_STATE_MOVING) = true := by decide +kernel

theorem calBesideAck_locked : (radWrite calBesideAck .apc 6 0).get F.SYN_CRS_STAT_LOCK = 1 := by decide +kernel

/-- Refutes O7: a CAL drops the lock of the carrier synthesiser only where nothing reserves it (04 R96; log entry 76). In IDLE, with a committed
acknowledgement that holds it, the accepted CAL leaves CRS_STAT.LOCK at 1. -/
theorem not_stateCommandsComplete : ¬ Obligations.StateCommandsComplete := by
  unfold Obligations.StateCommandsComplete
  rintro ⟨-, -, -, -, hcal, -⟩
  have htaken := calBesideAck_taken
  simp only [Bool.and_eq_true, decide_eq_true_eq, Bool.not_eq_true'] at htaken
  obtain ⟨⟨⟨htaken, hcanonical⟩, hidle⟩, hstill⟩ := htaken
  obtain ⟨t, hexec, -, -, -, -, -, hlock⟩ := hcal calBesideAck .apc 0 radCmdRow htaken hcanonical hidle hstill
  rw [exec_cal, execCal, Host.Outcome.next.injEq] at hexec
  rw [← hexec, calBesideAck_locked] at hlock
  exact absurd hlock (by decide)

end Sys2Proof.Machine
end

section
/-! SUPPORT. A command written to RAD.CMD (05 R124, R125, R129): how the write reaches the radio, and how an accepted operation is carried out. -/

namespace Sys2Proof.Machine

theorem State.storeReg_radio (s : State) (i : Initiator) (p off : Nat) (r : RegRow) (w : Word) : (s.storeReg i p off r w).radio = s.radio :=
  (Frame.storeReg (w := 0x3C101) (Frame.refl _ s) (by decide) i p off r w).radio (by decide)

theorem State.cmdSeen_canonical {s : State} (c : s.canonical = true) (i : Initiator) (w : Word) (r : RegRow) : (s.cmdSeen i w r).canonical = true :=
  (((Keeps.refl s).storeReg i P.RAD 0x100 r w).radTaken w.toNat).canon c

/-- What the evaluation of a command finds of the radio: all that it had before the write, under a new command number. -/
theorem State.cmdSeen_radio (s : State) (i : Initiator) (w : Word) (r : RegRow) :
    (s.cmdSeen i w r).radio = { s.radio with evalOpen := true, cmdNo := s.radio.cmdNo + 1 } := by
  have hstore := s.storeReg_radio i P.RAD 0x100 r w
  have htaken (u : State) : (u.radTaken w.toNat).radio = { u.radio with evalOpen := true, cmdNo := u.radio.cmdNo + 1 } := by
    simp only [State.radTaken, State.record_radio, State.setReg_radio, State.setRadio]
  unfold State.cmdSeen
  rw [htaken, hstore]

/-- The write of RAD.CMD that is taken. -/
theorem State.radCmd_write {s : State} {i : Initiator} {w : Word} {r : RegRow} (h : s.takes i P.RAD 0x100 w r = true) :
    s.busWrite i Reg.RAD_CMD w = ((s.storeReg i P.RAD 0x100 r w).radCmd w.toNat).answer i 0 .ok := by
  have hfit : s.fitWord P.RAD 0x100 w = w := by
    unfold State.fitWord
    rw [if_neg (by decide), if_neg (fun h => absurd h.1 (by decide))]
  have hpost (t : State) (old : Word) : t.postWrite i P.RAD 0x100 old w = t.radCmd w.toNat := by
    unfold State.postWrite
    simp [P.SYS, P.PWR, P.CLK, P.TMB, P.LPT, P.WDT, P.EVF, P.GPIO, P.HSP, P.FLC, P.SEC, P.KST, P.RFE, P.RTX, P.SYN, P.RAD]
  have hwrite := State.busWrite_takes (p := P.RAD) (off := 0x100) (by decide) (by decide) (by decide) h
  rwa [hfit, hpost] at hwrite

/-- A command that is evaluated, and is no part of a replay, is held until its time or judged at once. -/
theorem State.cmdRead_write {s : State} {i : Initiator} {w : Word} {r : RegRow} (h : s.cmdRead i w r = true) :
    s.busWrite i Reg.RAD_CMD w =
      (if (s.cmdGiven i w r).timed then (s.cmdSeen i w r).holdTimed (s.cmdGiven i w r) else (s.cmdSeen i w r).judge (s.cmdGiven i w r)).answer i 0
        .ok := by
  unfold State.cmdRead at h
  simp only [Bool.and_eq_true, Bool.not_eq_true', bne_iff_ne, ne_eq] at h
  obtain ⟨⟨⟨⟨htakes, hopen⟩, hen⟩, hwell⟩, hrec⟩ := h
  have hcmd : (s.storeReg i P.RAD 0x100 r w).radCmd w.toNat = (s.cmdSeen i w r).submit (s.cmdGiven i w r) := by
    unfold State.cmdSeen at hen
    simp only [State.radCmd, State.storeReg_radio, hopen, hen, Bool.not_true, Bool.false_eq_true, if_false]
    rfl
  rw [State.radCmd_write htakes, hcmd]
  unfold State.submit
  rw [hwell, if_neg Bool.false_ne_true, if_neg hrec]

/-- An accepted command is judged, and the judgement finds what `acceptsOp` says. -/
theorem State.cmdTaken_write {s : State} {i : Initiator} {w : Word} {r : RegRow} (h : s.cmdTaken i w r = true) :
    s.busWrite i Reg.RAD_CMD w = ((s.cmdSeen i w r).judge (s.cmdGiven i w r)).answer i 0 .ok ∧
      (s.cmdSeen i w r).acceptsOp (s.cmdGiven i w r) = true := by
  unfold State.cmdTaken at h
  simp only [Bool.and_eq_true, Bool.not_eq_true'] at h
  obtain ⟨⟨hread, htimed⟩, haccepts⟩ := h
  have hwrite := State.cmdRead_write hread
  rw [htimed, if_neg Bool.false_ne_true] at hwrite
  exact ⟨hwrite, haccepts⟩

/-- An accepted operation of each opcode, in the state `st` that it is judged by (05 R129). -/
def State.carriedOut (s : State) (op : RadOp) (st : Nat) : State :=
  if op.opcode = opIdle then s.cmdIdle op st
  else if op.opcode = opArmRx then
    (if st = 2 ∧ s.radio.follow.isNone then s.endPlain op.src 1 else ((s.takeOp op).goTo 2).setRadio (fun r => { r with follow := none }))
  else if op.opcode = opRx ∨ op.opcode = opRxMulti then s.cmdRx op st
  else if op.opcode = opTx ∨ op.opcode = opTxCca then s.cmdTx op st
  else if op.opcode = opCal then (s.takeOp op).calStart op.arg op.src
  else if op.opcode = opWhiff then s.cmdWhiff op st
  else if op.opcode = opPretune then s.cmdPretune op st
  else if op.opcode = opAbort then
    (if s.ackCommitted ∧ st ≠ 1 then (s.setRadio (fun r => { r with abortOp := some op })).interim op.src 0 else s.abortNow op)
  else if st = 0 then s.endPlain op.src 1
  else ((s.takeOp op).setRadio (fun r => { r with hfxoWait := false })).moveTo 0

theorem State.judge_accepted {s : State} {op : RadOp} (h : s.acceptsOp op = true) : s.judge op = s.carriedOut op (s.judgedBy op.opcode) := by
  unfold State.acceptsOp at h
  simp only [Bool.and_eq_true, Bool.not_eq_true', beq_iff_eq, Bool.or_eq_true, bne_iff_ne, ne_eq, Bool.and_eq_false_iff,
    Bool.not_eq_false', Bool.or_eq_false_iff, beq_eq_false_iff_ne] at h
  obtain ⟨⟨⟨⟨hcell, hack⟩, hpages⟩, heng⟩, hclock⟩ := h
  unfold State.judge
  dsimp only
  rw [if_neg (by omega), if_neg ?ack, if_neg (by omega), if_neg (by rw [hpages, heng]; decide), if_neg ?clock]
  · rfl
  case ack =>
    rintro ⟨htx, hcommitted, hsending⟩
    rcases hack with (hno | hno) | hno
    · exact htx.elim hno.1 hno.2
    · exact absurd hcommitted (by rw [hno]; decide)
    · exact hsending hno
  case clock =>
    rintro ⟨hst, hidle, habort, hoff, hradio⟩
    rcases hclock with (((hno | hno) | hno) | hno) | hno
    · exact hno hst
    · exact hidle hno
    · exact habort hno
    · exact hoff hno
    · exact hradio hno

/-- The command that a write of RAD.CMD gives is software's last one, with the opcode of its row, no counter value and not late. -/
theorem State.cmdGiven_shape (s : State) (i : Initiator) (w : Word) (r : RegRow) :
    (s.cmdGiven i w r).src = .software (s.cmdSeen i w r).radio.cmdNo ∧ (s.cmdGiven i w r).opcode = w.toNat % 16 ∧ (s.cmdGiven i w r).u = none :=
  ⟨rfl, rfl, rfl⟩

theorem withBits_opcode (w : Word) {n : Nat} (h : n < 16) : (withBits w 0 4 n).toNat % 16 = n := by
  have hself := bitsOf_putBits_self w.toNat 0 4 n
  unfold withBits
  rw [BitVec.toNat_ofNat, Nat.mod_eq_of_lt (putBits_lt w.isLt (by decide))]
  unfold bitsOf at hself
  omega

end Sys2Proof.Machine
end

section
/-! SUPPORT. An operation that becomes the radio's (05 R125, R130): what it replaces ends, and the synthesiser and a transmission past its TE stay. -/

namespace Sys2Proof.Machine

/-- From `s` to `t` nothing changes of the synthesiser, and of the radio only whose result the last reception is. -/
def ResultMoved (s t : State) : Prop := t.crs = s.crs ∧ ∃ x, t.radio = { s.radio with resOf := x }

theorem ResultMoved.of_frame {w : Nat} {s u t : State} (h : ResultMoved s u) (f : Frame w u t) (hw : w.testBit 2 = false) : ResultMoved s t :=
  ⟨(f.crs hw).trans h.1, h.2.imp (fun _ hx => (f.radio hw).trans hx)⟩

theorem ResultMoved.refl (s : State) : ResultMoved s s := ⟨rfl, s.radio.resOf, rfl⟩

/-- A final status. -/
theorem ResultMoved.endSrc (s : State) (src : OpSrc) (status : Nat) (slip noFrame busy argErr : Bool) (endAt : Nat) :
    ResultMoved s (s.endSrc src status slip noFrame busy argErr endAt) := by
  have noted {t : State} (h : ResultMoved s t) : ResultMoved s ((if status = 4 then (t.countSat F.RAD_COUNTS_LATE).flag P.RAD 4
      else if status = 6 then t.flag P.RAD 5 else t).recStatus status) := by
    have hsame := Frame.refl 0x100200000000010101 t
    exact h.of_frame (Frame.recStatus (Frame.ite ((hsame.countSat (Or.inr (by decide))).flag (Or.inr (by decide)))
      (Frame.ite (hsame.flag (Or.inr (by decide))) hsame)) (by decide) status) (by decide)
  unfold State.endSrc
  cases src with
  | software n =>
    have hput := ((((((Frame.refl 0x200000000000080 s).put (f := F.RAD_CMD_STAT_STATUS) (v := status) (Or.inr (by decide))).put
      (f := F.RAD_CMD_STAT_FINAL) (v := 1) (Or.inr (by decide))).put (f := F.RAD_CMD_STAT_SLIP) (v := boolNat (slip || s.on F.RAD_CMD_STAT_SLIP))
      (Or.inr (by decide))).put (f := F.RAD_CMD_STAT_CCA_BUSY) (v := boolNat busy) (Or.inr (by decide))).put (f := F.RAD_CMD_STAT_ARG_ERR)
      (v := boolNat argErr) (Or.inr (by decide))).flag (p := P.RAD) (n := 0) (Or.inr (by decide))
    refine noted ?_
    dsimp only
    split
    · exact (ResultMoved.refl s).of_frame (hput.event (by decide) P.RAD 3) (by decide)
    · exact ResultMoved.refl s
  | entry i =>
    have flagged (t : State) : Frame 0x4000000000000000 t (if status = 2 then t.flag P.LNK 2 else if status = 4 then t.flag P.LNK 1 else t) :=
      have hsame := Frame.refl _ t
      (hsame.flag (Or.inr (by decide))).ite ((hsame.flag (Or.inr (by decide))).ite hsame)
    refine noted (ResultMoved.of_frame ?_ (flagged _) (by decide))
    exact ⟨rfl, .internal, rfl⟩
  | internal => exact noted (ResultMoved.refl s)

theorem State.txPast_congr {s t : State} (h : t.radio.tx = s.radio.tx) : t.txPast = s.txPast := by
  unfold State.txPast
  rw [h]

theorem State.txPast_setTx (s : State) {j : TxJob} (hstage : j.stage = .rampDown ∨ j.stage = .tail) :
    (s.setRadio (fun r => { r with tx := some j })).txPast = some j := if_pos hstage

/-- The operation in progress has ended DONE, a transmission past its TE with its own status. -/
def State.opReplaced (s : State) : State :=
  let (status, at_) := match s.txPast with
    | some t => (match t.src with | .op => (t.status, t.te) | .ack _ => (1, s.radio.lastRes.endAt))
    | none => (1, s.count)
  match s.radio.op with
  | some o => (s.endSrc o.src status o.slip false false false at_).setRadio (fun r => { r with op := none, waitAck := false, winShut := false })
  | none => s

theorem State.opReplaced_rest (s : State) :
    s.opReplaced.crs = s.crs ∧ s.opReplaced.radio.tx = s.radio.tx ∧ s.opReplaced.radio.cmdNo = s.radio.cmdNo := by
  unfold State.opReplaced
  dsimp only
  cases s.radio.op with
  | none => exact ⟨rfl, rfl, rfl⟩
  | some o =>
    have ended (status at_ : Nat) : ResultMoved s (s.endSrc o.src status o.slip false false false at_) := ResultMoved.endSrc ..
    obtain ⟨hcrs, x, hradio⟩ := ended _ _
    have htx := congrArg Radio.tx hradio
    have hno := congrArg Radio.cmdNo hradio
    exact ⟨hcrs, htx, hno⟩

theorem State.supersede_eq (s : State) : ∃ again, s.supersede = match s.opReplaced.txPast with
    | some t => s.opReplaced.setRadio (fun r => { r with tx := some { t with displaced := true, keep := t.keep || again } })
    | none => s.opReplaced := ⟨_, rfl⟩

/-- What an operation replaces ends; a transmission past its TE stays, and so does the carrier synthesiser. -/
theorem State.supersede_rest (s : State) :
    s.supersede.crs = s.crs ∧ s.supersede.radio.cmdNo = s.radio.cmdNo ∧ s.supersede.txPast.isSome = s.txPast.isSome := by
  obtain ⟨hcrs, htx, hno⟩ := s.opReplaced_rest
  obtain ⟨again, hsup⟩ := s.supersede_eq
  rw [hsup, ← State.txPast_congr htx]
  generalize s.opReplaced = u at hcrs hno
  cases hpast : u.txPast with
  | none => exact ⟨hcrs, hno, congrArg Option.isSome hpast⟩
  | some t =>
    refine ⟨hcrs, hno, ?_⟩
    dsimp only
    have hstage : t.stage = .rampDown ∨ t.stage = .tail := by
      unfold State.txPast at hpast
      split at hpast
      · split_ifs at hpast with hst
        obtain rfl := Option.some.inj hpast
        exact hst
      · exact nomatch hpast
    have hshown := u.txPast_setTx (j := { t with displaced := true, keep := t.keep || again }) hstage
    rw [hshown]
    rfl

/-- The status that a command of software shows as it begins (05 R125). -/
theorem State.interim_software {s : State} (c : s.canonical = true) (status : Nat) :
    (s.interim (.software s.radio.cmdNo) status).get F.RAD_CMD_STAT_STATUS = status % 16 ∧
      (s.interim (.software s.radio.cmdNo) status).get F.RAD_CMD_STAT_FINAL = 0 := by
  have c1 : (s.put F.RAD_CMD_STAT_STATUS status).canonical = true := ((Keeps.refl s).put _ _).canon c
  have hinterim : s.interim (.software s.radio.cmdNo) status = (s.put F.RAD_CMD_STAT_STATUS status).put F.RAD_CMD_STAT_FINAL 0 := if_pos rfl
  rw [hinterim]
  refine ⟨?_, State.get_put_self c1 _ _ (by decide)⟩
  rw [State.get_put_other c1 _ _ _ (by decide) (by decide), State.get_put_self c _ _ (by decide)]
  rfl

/-- A command of software that becomes the radio's operation is ACCEPTED. -/
structure OpTaken (op : RadOp) (t : State) : Prop where
  canonical : t.canonical = true
  op : t.radio.op = some op
  status : t.get F.RAD_CMD_STAT_STATUS = 0
  final : t.get F.RAD_CMD_STAT_FINAL = 0

/-- The state in which the operation is the radio's, before its status shows. -/
def State.opSet (s : State) (op : RadOp) : State :=
  s.supersede.setRadio (fun r => { r with op := some op, lastRes := end0, resOf := op.src, winSync := false })

theorem State.takeOp_eq (s : State) (op : RadOp) : s.takeOp op = (s.opSet op).interim op.src 0 := rfl

/-- An operation that is taken keeps the synthesiser and a transmission past its TE. -/
theorem State.takeOp_rest (s : State) (op : RadOp) :
    (s.takeOp op).crs = s.crs ∧ (s.takeOp op).txPast.isSome = s.txPast.isSome := by
  obtain ⟨hcrs, -, hpast⟩ := s.supersede_rest
  have hinterim := Frame.interim (w := 0x200000000000000) (Frame.refl _ (s.opSet op)) (by decide) op.src 0
  have hradio := congrArg Radio.tx (hinterim.radio (by decide))
  have htx : (s.takeOp op).txPast = s.supersede.txPast := State.txPast_congr hradio
  exact ⟨(hinterim.crs (by decide)).trans hcrs, (congrArg Option.isSome htx).trans hpast⟩

theorem State.takeOp_software {s : State} (c : s.canonical = true) {op : RadOp} (hsrc : op.src = .software s.radio.cmdNo) :
    OpTaken op (s.takeOp op) := by
  obtain ⟨-, hno, -⟩ := s.supersede_rest
  have c1 : (s.opSet op).canonical = true := (((Keeps.refl s).supersede).setRadio _).canon c
  have hnoSet : (s.opSet op).radio.cmdNo = s.radio.cmdNo := hno
  have hop : (s.opSet op).radio.op = some op := rfl
  rw [State.takeOp_eq, hsrc, ← hnoSet]
  generalize s.opSet op = u at *
  have hinterim := Frame.interim (w := 0x200000000000000) (Frame.refl _ u) (by decide) (.software u.radio.cmdNo) 0
  obtain ⟨hstatus, hfinal⟩ := State.interim_software c1 0
  exact ⟨hinterim.1.canon c1, (congrArg Radio.op (hinterim.radio (by decide))).trans hop, hstatus, hfinal⟩

end Sys2Proof.Machine
end

section
/-! SUPPORT. RX and RX_MULTI that begin, and a timed command that is held (05 R125, R127, R130; 06 R147). -/

namespace Sys2Proof.Machine

/-- A transition that begins. -/
theorem State.moveTo_shown {s : State} (c : s.canonical = true) (v : Nat) :
    (s.moveTo v).on F.RAD_STATE_MOVING = true ∧ (s.moveTo v).get F.RAD_STATE_TARGET = v % 8 := by
  have c1 : (s.put F.RAD_STATE_MOVING 1).canonical = true := ((Keeps.refl s).put _ _).canon c
  refine ⟨?_, State.get_put_self c1 _ _ (by decide)⟩
  unfold State.on State.moveTo
  rw [State.get_put_other c1 _ _ _ (by decide) (by decide), State.get_put_self c _ _ (by decide)]
  rfl

/-- The operation `op` of software is the radio's, ACCEPTED, and the transition to the state `v` has begun. -/
structure Begun (v : Nat) (op : RadOp) (t : State) : Prop where
  moving : t.on F.RAD_STATE_MOVING = true
  target : t.get F.RAD_STATE_TARGET = v
  status : t.get F.RAD_CMD_STAT_STATUS = 0
  final : t.get F.RAD_CMD_STAT_FINAL = 0
  op : t.radio.op = some op

/-- Nothing that an operation does after it was taken, up to the transition, ends it. -/
theorem OpTaken.begun {t u : State} {op : RadOp} (h : OpTaken op t) (g : TxAside Reg.RAD_CMD_STAT t u) {v : Nat} (hv : v < 8) :
    Begun v op (u.moveTo v) := by
  obtain ⟨hmoving, htarget⟩ := State.moveTo_shown (g.canon h.canonical) v
  have hall := g.moveTo v (by decide)
  exact ⟨hmoving, htarget.trans (Nat.mod_eq_of_lt hv), (hall.get h.canonical _ rfl).trans h.status, (hall.get h.canonical _ rfl).trans h.final,
    hall.op.trans h.op⟩

theorem Begun.answer {v : Nat} {op : RadOp} {t : State} (h : Begun v op t) (i : Initiator) (w : Word) (e : BusEnd) : Begun v op (t.answer i w e) :=
  ⟨h.moving, h.target, h.status, h.final, h.op⟩

/-- A reception in IDLE whose descriptors pass their check and find units. -/
theorem State.cmdRx_begun {s : State} (c : s.canonical = true) {op : RadOp} (hsrc : op.src = .software s.radio.cmdNo)
    {plan : List (Nat × RxUnit)} (hds : (opDescs op).all (fun d => s.descReason d == 0) = true) (hassign : s.assign (State.opDescs op) = .inr plan) :
    Begun 3 op (s.cmdRx op 1) := by
  have hgood : (opDescs op).filter (fun d => s.descReason d != 0) = [] := by
    rw [List.filter_eq_nil_iff]
    intro d hd
    simpa using List.all_eq_true.mp hds d hd
  have hrx : s.cmdRx op 1 = (((if ((s.takeOp op).setRadio (fun r => { r with winShut := false, lastRes := end0 })).pageSt P.RFE = 0
      then ((s.takeOp op).setRadio (fun r => { r with winShut := false, lastRes := end0 })).rxStart
      else (s.takeOp op).setRadio (fun r => { r with winShut := false, lastRes := end0 })).planSlots plan).setRadio
        (fun r => { r with follow := none })).moveTo 3 := by
    unfold State.cmdRx
    dsimp only
    rw [hgood, hassign]
    rfl
  rw [hrx]
  have hset := (TxAside.refl Reg.RAD_CMD_STAT (s.takeOp op)).setRadio (fun r => { r with winShut := false, lastRes := end0 }) rfl
  refine (State.takeOp_software c hsrc).begun ?_ (by decide)
  exact (((hset.rxStart (by decide)).ite hset).withSlots _ _).setRadio (fun r => { r with follow := none }) rfl

theorem exec_rx_begun {s : State} {i : Initiator} {w : Word} {r : RegRow} {plan : List (Nat × RxUnit)} (c : s.canonical = true)
    (hop : (s.cmdGiven i w r).opcode = opRx ∨ (s.cmdGiven i w r).opcode = opRxMulti) (h : s.cmdTaken i w r = true)
    (hst : (s.cmdSeen i w r).judgedBy (s.cmdGiven i w r).opcode = 1)
    (hds : (State.opDescs (s.cmdGiven i w r)).all (fun d => (s.cmdSeen i w r).descReason d == 0) = true)
    (hassign : (s.cmdSeen i w r).assign (State.opDescs (s.cmdGiven i w r)) = .inr plan) :
    Begun 3 (s.cmdGiven i w r) (s.busWrite i Reg.RAD_CMD w) := by
  obtain ⟨hwrite, haccepts⟩ := State.cmdTaken_write h
  have hcarried : (s.cmdSeen i w r).carriedOut (s.cmdGiven i w r) 1 = (s.cmdSeen i w r).cmdRx (s.cmdGiven i w r) 1 := by
    unfold State.carriedOut
    rw [if_neg (by rcases hop with e | e <;> rw [e] <;> decide), if_neg (by rcases hop with e | e <;> rw [e] <;> decide), if_pos hop]
  rw [hwrite, State.judge_accepted haccepts, hst, hcarried]
  exact (State.cmdRx_begun (State.cmdSeen_canonical c i w r) rfl hds hassign).answer _ _ _

/-- Units that exist and are not retired bar nothing. -/
theorem State.unitBar_of_present {s : State} {op : RadOp}
    (h : (s.namedUnits op).all (fun u => unitPresent s.variant u && !s.isRetired u) = true) : s.unitBar op = 0 := by
  have habsent : ((s.namedUnits op).any fun u => !unitPresent s.variant u) = false := by
    rw [List.any_eq_false]
    intro u hu
    have := List.all_eq_true.mp h u hu
    simp only [Bool.and_eq_true] at this
    simp [this.1]
  have hretired : (s.namedUnits op).any s.isRetired = false := by
    rw [List.any_eq_false]
    intro u hu
    have := List.all_eq_true.mp h u hu
    simp only [Bool.and_eq_true, Bool.not_eq_true'] at this
    simp [this.2]
  unfold State.unitBar
  dsimp only
  rw [habsent, hretired]
  rfl

/-- What a command shows that waits for its time in the queue slot. -/
structure HeldUntilDue (op : RadOp) (t : State) : Prop where
  queue : t.radio.queue = some op
  held : t.radio.heldTime = true
  status : t.get F.RAD_CMD_STAT_STATUS = 0
  final : t.get F.RAD_CMD_STAT_FINAL = 0
  occupied : t.get F.RAD_CMD_STAT_Q_OCC = 1

theorem HeldUntilDue.answer {op : RadOp} {t : State} (h : HeldUntilDue op t) (i : Initiator) (w : Word) (e : BusEnd) :
    HeldUntilDue op (t.answer i w e) :=
  ⟨h.queue, h.held, h.status, h.final, h.occupied⟩

/-- A timed command of software that sends nothing, and whose units exist, is held. -/
theorem State.holdTimed_held {s : State} (c : s.canonical = true) {op : RadOp} (hsrc : op.src = .software s.radio.cmdNo) (hu : op.u = none)
    (hsends : ¬(op.opcode = opTx ∨ op.opcode = opTxCca)) (hqueue : s.radio.queue = none) (hbar : s.unitBar op = 0) :
    HeldUntilDue op (s.holdTimed op) := by
  have hop : ({ op with src := .software s.radio.cmdNo, u := none } : RadOp) = op := by rw [← hsrc, ← hu]
  have hhold : s.holdTimed op =
      ((s.setRadio (fun r => { r with queue := some op, heldTime := true })).showQueue).interim (.software s.radio.cmdNo) 0 := by
    unfold State.holdTimed
    rw [hsrc, hqueue, hbar]
    simp only [hsends, false_and, if_false, hop]
    rfl
  have c1 : (s.setRadio (fun r => { r with queue := some op, heldTime := true })).canonical = true := ((Keeps.refl s).setRadio _).canon c
  have c2 : (s.setRadio (fun r => { r with queue := some op, heldTime := true })).showQueue.canonical = true := ((Keeps.refl _).put _ _).canon c1
  have hshown : (s.setRadio (fun r => { r with queue := some op, heldTime := true })).showQueue.get F.RAD_CMD_STAT_Q_OCC = 1 :=
    State.get_put_self c1 _ _ (by decide)
  have hradio : (s.setRadio (fun r => { r with queue := some op, heldTime := true })).showQueue.radio =
    { s.radio with queue := some op, heldTime := true } := State.put_radio _ _ _
  have hno : (s.setRadio (fun r => { r with queue := some op, heldTime := true })).showQueue.radio.cmdNo = s.radio.cmdNo := by rw [hradio]
  rw [hhold, ← hno]
  generalize (s.setRadio (fun r => { r with queue := some op, heldTime := true })).showQueue = u at *
  have hput : u.interim (.software u.radio.cmdNo) 0 = (u.put F.RAD_CMD_STAT_STATUS 0).put F.RAD_CMD_STAT_FINAL 0 := if_pos rfl
  have hkept : (u.interim (.software u.radio.cmdNo) 0).radio = u.radio := by rw [hput, State.put_radio, State.put_radio]
  obtain ⟨hstatus, hfinal⟩ := State.interim_software c2 0
  refine ⟨?_, ?_, hstatus, hfinal, ?_⟩
  · rw [hkept, hradio]
  · rw [hkept, hradio]
  · rw [hput, State.get_put_other (((Keeps.refl u).put _ _).canon c2) _ _ _ (by decide) (by decide),
      State.get_put_other c2 _ _ _ (by decide) (by decide), hshown]

theorem exec_timed_held {s : State} {i : Initiator} {w : Word} {r : RegRow} (c : s.canonical = true) (h : s.cmdRead i w r = true)
    (hsends : ¬((s.cmdGiven i w r).opcode = opTx ∨ (s.cmdGiven i w r).opcode = opTxCca)) (htimed : (s.cmdGiven i w r).timed = true)
    (hqueue : s.radio.queue = none)
    (hunits : ((s.cmdSeen i w r).namedUnits (s.cmdGiven i w r)).all
      (fun u => unitPresent (s.cmdSeen i w r).variant u && !(s.cmdSeen i w r).isRetired u) = true) :
    HeldUntilDue (s.cmdGiven i w r) (s.busWrite i Reg.RAD_CMD w) := by
  have hwrite := State.cmdRead_write h
  rw [if_pos htimed] at hwrite
  have hfree : (s.cmdSeen i w r).radio.queue = none := by rw [State.cmdSeen_radio]; exact hqueue
  obtain ⟨hsrc, -, hu⟩ := s.cmdGiven_shape i w r
  rw [hwrite]
  exact (State.holdTimed_held (State.cmdSeen_canonical c i w r) hsrc hu hsends hfree (State.unitBar_of_present hunits)).answer _ _ _

end Sys2Proof.Machine
end

section
/-! SUPPORT. TX and TX_CCA that begin in IDLE (05 R125, R129, R130; 04 R105). -/

namespace Sys2Proof.Machine

theorem State.setGain_crs (s : State) (g : Nat) : (s.setGain g).crs = s.crs := by
  have marked (t : State) (m : RxFrame → RxFrame) : (t.markFrames m).crs = t.crs := rfl
  have recorded (t : State) (a b d : Nat) : (t.record a b d).crs = t.crs :=
    (Frame.record (w := 0x10101) (Frame.refl _ t) (by decide) a b d).crs (by decide)
  by_cases h : s.get F.RFE_GAIN_STAT_GAIN_IDX = g
  · exact congrArg State.crs (if_pos h)
  · rw [State.setGain_of_ne h, recorded, recorded, marked, State.countWrap_crs, State.put_crs]

/-- Starting the receiver leaves the carrier synthesiser alone. -/
theorem State.rxStart_crs (s : State) : s.rxStart.crs = s.crs := by
  have gain (t : State) : t.rxStartGain.crs = t.crs := by
    unfold State.rxStartGain
    split
    · exact t.setGain_crs _
    · rfl
  have quiet (t : State) : t.antQuiet.crs = t.crs := by
    unfold State.antQuiet
    split
    · rfl
    · split <;> rfl
  have last (t : State) : t.antQuiet.rxStartGain.agcSettings.holdRestart.crs = t.crs := (gain t.antQuiet).trans (quiet t)
  unfold State.rxStart
  split
  · rfl
  · dsimp only
    rw [last]
    split
    · simp only [State.setRetry, State.scsSettle, State.put_crs, State.setPageSt_crs]
    · simp only [State.setPageSt_crs]

/-- A receiver that has been started is on. -/
theorem State.rxStart_on {s : State} (c : s.canonical = true) : s.rxStart.pageSt P.RFE ≠ 0 := by
  have gain {a u : State} (g : TxAside (Reg.PAGE_STAT P.RFE) a u) : TxAside (Reg.PAGE_STAT P.RFE) a u.rxStartGain := by
    unfold State.rxStartGain
    exact (g.setGain _ (by decide)).ite g
  have rest {a u : State} (g : TxAside (Reg.PAGE_STAT P.RFE) a u) : TxAside (Reg.PAGE_STAT P.RFE) a u.agcSettings.holdRestart :=
    (g.same ((Keeps.refl _).agcSettings) rfl rfl rfl).same ((Keeps.refl _).holdRestart) rfl rfl rfl
  have hpages := ((((TxAside.refl (Reg.PAGE_STAT P.RFE) (s.setPageSt P.RFE 1)).setPageSt P.CHN 1 (by decide)).setPageSt P.NBD 1
    (by decide)).setPageSt P.OFD 1 (by decide)).setPageSt P.FEC 1 (by decide)
  have c1 : (s.setPageSt P.RFE 1).canonical = true := ((Keeps.refl s).setPageSt _ _).canon c
  by_cases hoff : s.pageSt P.RFE ≠ 0
  · rwa [State.rxStart, if_pos hoff]
  · have hstarted : TxAside (Reg.PAGE_STAT P.RFE) (s.setPageSt P.RFE 1) s.rxStart := by
      rw [State.rxStart, if_neg hoff]
      exact rest (gain ((hpages.scsSettle (by decide)).scsRevived.ite hpages).antQuiet)
    have hself : (s.setPageSt P.RFE 1).pageSt P.RFE = 1 := State.pageSt_setPageSt c _ _
    have hkept : s.rxStart.pageSt P.RFE = (s.setPageSt P.RFE 1).pageSt P.RFE := hstarted.get c1 (F.PAGE_STAT_STATE P.RFE) rfl
    rw [hkept, hself]
    decide

/-- A tune with nothing reserved is carried out at once, and SETTLING shows. -/
theorem State.crsTune_settling {s : State} (c : s.canonical = true) (f : Nat) (target : Int) (src : Nat) :
    (s.crsTune f target src).crs.chan = some f ∧ (s.crsTune f target src).on F.SYN_CRS_STAT_SETTLING = true ∧
      (s.crsTune f target src).radio = s.radio := by
  have c1 : (s.put F.SYN_CRS_FREQ_FREQ_HZ target.toNat).canonical = true := ((Keeps.refl s).put _ _).canon c
  have c2 := ((Keeps.refl _).put F.SYN_CRS_STAT_SETTLING 1).canon c1
  have c3 := ((Keeps.refl _).put F.SYN_CRS_STAT_LOCK 0).canon c2
  have hsettling : (s.crsTune f target src).get F.SYN_CRS_STAT_SETTLING = 1 := by
    have hrest : TxAside Reg.SYN_CRS_STAT ((((s.put F.SYN_CRS_FREQ_FREQ_HZ target.toNat).put F.SYN_CRS_STAT_SETTLING 1).put
        F.SYN_CRS_STAT_LOCK 0).put F.SYN_CRS_STAT_SRC src) (s.crsTune f target src) := by
      unfold State.crsTune
      exact ((TxAside.refl _ _).withCrs _ (by simp)).setRetry _ _
    rw [hrest.get (((Keeps.refl _).put _ _).canon c3) _ rfl, State.get_put_other c3 _ _ _ (by decide) (by decide),
      State.get_put_other c2 _ _ _ (by decide) (by decide),
      State.get_put_self c1 _ _ (by decide)]
    rfl
  refine ⟨rfl, ?_, ?_⟩
  · unfold State.on
    rw [hsettling]
    rfl
  · unfold State.crsTune State.setRetry
    simp only [State.put_radio]

/-- The transmission of an operation as it waits. -/
def TxJob.shape (j : TxJob) : TxStage × Nat × Nat × Nat × Nat := (j.stage, j.desc, j.slot, j.head, j.exit)

/-- The stage in which an operation's transmission begins. -/
def firstStage (op : RadOp) : TxStage := if op.opcode = opTxCca then .cca else .wait

/-- What bars no transmission of an unsecured chain in IDLE, with the synthesiser free and no acknowledgement at work. -/
structure TxFree (s : State) (op : RadOp) : Prop where
  unheld : op.timed = false
  unsent : op.u = none
  reason : op.opcode = opTxCca → s.descReason op.desc = 0
  units : s.unitBar op = 0
  secure : s.chainSecure op.arg = false
  notOfdm : (s.descRegs op.desc).modeCode ≠ 8
  notBlock : (s.descRegs op.desc).modeCode ≠ 9
  unreserved : s.crs.reserved = []
  untuned : s.crs.chan = none
  band : inTxBand (s.txFreq (s.descRegs op.desc).freq) = true
  idle : s.ctxs.all (fun c => !c.busy) = true
  untested : s.bst = none

/-- The state in which the synthesiser is tuned for the transmission of an operation. -/
def State.tunedFor (s : State) (op : RadOp) : State :=
  s.crsTune (s.descRegs op.desc).freq (s.txFreq (s.descRegs op.desc).freq) (State.crsSrc .txTune)

theorem TxFree.request {s : State} {op : RadOp} (h : TxFree s op) :
    s.crsRequest .txTune (s.descRegs op.desc).freq = (s.tunedFor op, .tuned) := by
  have hempty : s.crs.reserved.isEmpty = true := by rw [h.unreserved]; rfl
  unfold State.crsRequest
  rw [h.band, Bool.not_true, if_neg Bool.false_ne_true, if_pos hempty]
  rfl

/-- The operation is taken with the synthesiser tuned, its transmission waits, and the transition to TX begins. -/
theorem TxFree.cmdTx {s : State} {op : RadOp} (h : TxFree s op) :
    ∃ job minT0, job.shape = (firstStage op, op.desc, op.slot, op.arg, op.exit) ∧ s.cmdTx op 1 =
      (if op.opcode = opTxCca ∨ op.exit = 1 ∨ op.exit = 2 then (((s.tunedFor op).takeOp op).putTx job minT0).rxStart
        else ((s.tunedFor op).takeOp op).putTx job minT0).moveTo 5 := by
  have hreason : ¬((if op.opcode = opTxCca then s.descReason op.desc else 0) ≠ 0) := by
    by_cases hcca : op.opcode = opTxCca
    · rw [if_pos hcca]; exact fun hne => hne (h.reason hcca)
    · rw [if_neg hcca]; exact fun hne => hne rfl
  have hbst : s.bstStopPath = s := by
    unfold State.bstStopPath
    rw [h.untested]
  have hsecure : s.secureFetch op.arg = (0, none, s) := by
    unfold State.secureFetch
    rw [h.secure]
    rfl
  have hchan (f : Nat) : ¬((s.crs.chan == some f && (s.on F.SYN_CRS_STAT_LOCK || s.on F.SYN_CRS_STAT_SETTLING)) = true) := by
    rw [h.untuned]
    exact Bool.false_ne_true
  have h16 : (if (1 : Nat) = 6 then s.calPreempt else s) = s := if_neg (by decide)
  unfold State.cmdTx
  dsimp only
  rw [if_neg hreason, if_neg (by simp [h.notOfdm, h.notBlock]), if_neg (by simp [h.units]), h16, hbst, h.unsent]
  dsimp only
  rw [hsecure]
  dsimp only
  rw [h.unheld, State.squashOverlaps_idle h.idle, if_neg (by decide), if_neg (hchan _), h.request]
  simp only [Bool.false_and, Bool.false_eq_true, if_false, Bool.or_eq_true, decide_eq_true_eq, or_assoc]
  refine ⟨_, _, ?_, rfl⟩
  rfl

/-- What a transmission that begins shows: the transition to TX, the synthesiser's tune, and the job that waits, behind a transmission past its TE
where one goes on. -/
structure TxBegun (s : State) (op : RadOp) (t : State) : Prop where
  begun : Begun 5 op t
  chan : t.crs.chan = some (s.descRegs op.desc).freq
  settling : t.on F.SYN_CRS_STAT_SETTLING = true
  now : s.txPast = none → t.radio.tx.map TxJob.shape = some (firstStage op, op.desc, op.slot, op.arg, op.exit)
  next : s.txPast.isSome = true → t.radio.txNext.map TxJob.shape = some (firstStage op, op.desc, op.slot, op.arg, op.exit)
  receiver : op.opcode = opTxCca → t.pageSt P.RFE ≠ 0

theorem TxBegun.answer {s t : State} {op : RadOp} (h : TxBegun s op t) (i : Initiator) (w : Word) (e : BusEnd) : TxBegun s op (t.answer i w e) :=
  ⟨h.begun.answer i w e, h.chan, h.settling, h.now, h.next, h.receiver⟩

/-- A job that is put waits in the place of the transmission that is not past its TE. -/
theorem State.putTx_place (s : State) (job : TxJob) (minT0 : Option Nat) :
    (s.txPast.isSome = false → (s.putTx job minT0).radio.tx = some job) ∧
      (s.txPast.isSome = true → (s.putTx job minT0).radio.txNext = some job) := by
  unfold State.putTx State.setRadio
  refine ⟨fun h => ?_, fun h => ?_⟩
  · dsimp only
    rw [h, if_neg Bool.false_ne_true]
  · dsimp only
    rw [if_pos h]

theorem State.putTx_op (s : State) (job : TxJob) (minT0 : Option Nat) : (s.putTx job minT0).radio.op = s.radio.op := by
  unfold State.putTx State.setRadio
  dsimp only
  split <;> rfl

theorem OpTaken.putTx {s : State} {op : RadOp} (h : OpTaken op s) (job : TxJob) (minT0 : Option Nat) : OpTaken op (s.putTx job minT0) :=
  ⟨((Keeps.refl s).setRadio _).canon h.canonical, (s.putTx_op job minT0).trans h.op, h.status, h.final⟩

theorem TxFree.begun {s : State} {op : RadOp} (h : TxFree s op) (c : s.canonical = true) (hsrc : op.src = .software s.radio.cmdNo) :
    TxBegun s op (s.cmdTx op 1) := by
  obtain ⟨job, minT0, hjob, hcmd⟩ := h.cmdTx
  obtain ⟨hchan, hsettling, hradio⟩ :=
    State.crsTune_settling c (s.descRegs op.desc).freq (s.txFreq (s.descRegs op.desc).freq) (State.crsSrc .txTune)
  have ctuned : (s.tunedFor op).canonical = true := ((Keeps.refl s).crsTune _ _ _).canon c
  have htaken : OpTaken op ((s.tunedFor op).takeOp op) := State.takeOp_software ctuned (by rw [hsrc, State.tunedFor, hradio])
  obtain ⟨hcrs, hpast⟩ := (s.tunedFor op).takeOp_rest op
  have hpast' : ((s.tunedFor op).takeOp op).txPast.isSome = s.txPast.isSome :=
    hpast.trans (congrArg Option.isSome (State.txPast_congr (congrArg Radio.tx hradio)))
  have hframe := Frame.takeOp (w := 0x10420000000001018D) (Frame.refl _ (s.tunedFor op)) (by decide) op
  have hsyn := hframe.get ctuned F.SYN_CRS_STAT_SETTLING (by decide)
  have hput := htaken.putTx job minT0
  obtain ⟨hnow, hnext⟩ := ((s.tunedFor op).takeOp op).putTx_place job minT0
  rw [hpast'] at hnow hnext
  have hputCrs : (((s.tunedFor op).takeOp op).putTx job minT0).crs.chan = some (s.descRegs op.desc).freq := (congrArg Crs.chan hcrs).trans hchan
  have hputSyn : (((s.tunedFor op).takeOp op).putTx job minT0).get F.SYN_CRS_STAT_SETTLING = (s.tunedFor op).get F.SYN_CRS_STAT_SETTLING := hsyn
  generalize ((s.tunedFor op).takeOp op).putTx job minT0 = u at *
  have aside {x : Nat} (hx : x ∉ receiverRegs) : TxAside x u (if op.opcode = opTxCca ∨ op.exit = 1 ∨ op.exit = 2 then u.rxStart else u) :=
    ((TxAside.refl x u).rxStart hx).ite (TxAside.refl x u)
  have hmoved := (aside (x := Reg.SYN_CRS_STAT) (by decide)).moveTo 5 (by decide)
  rw [hcmd]
  refine ⟨hput.begun (aside (by decide)) (by decide), ?_, ?_, fun hnone => ?_, fun hsome => ?_, fun hcca => ?_⟩
  · have hreceiver : (if op.opcode = opTxCca ∨ op.exit = 1 ∨ op.exit = 2 then u.rxStart else u).crs = u.crs := by
      split
      · exact u.rxStart_crs
      · rfl
    rw [State.moveTo, State.put_crs, State.put_crs, hreceiver, hputCrs]
  · unfold State.on
    rw [hmoved.get hput.canonical _ rfl, hputSyn]
    exact hsettling
  · rw [hmoved.tx, hnow (by rw [hnone]; rfl), Option.map_some, hjob]
  · rw [hmoved.txNext, hnext hsome, Option.map_some, hjob]
  · rw [if_pos (Or.inl hcca)]
    have hrfe := ((TxAside.refl (Reg.PAGE_STAT P.RFE) u.rxStart).moveTo 5 (by decide)).get ((Keeps.refl u).rxStart.canon hput.canonical)
      (F.PAGE_STAT_STATE P.RFE) rfl
    exact fun h0 => State.rxStart_on hput.canonical (hrfe.symm.trans h0)

end Sys2Proof.Machine
end

section
/-! SUPPORT. TX, TX_CCA and WHIFF written to RAD.CMD (05 R125, R129, R130; 03 R81). -/

namespace Sys2Proof.Machine

theorem exec_tx_begun {s : State} {i : Initiator} {w : Word} {r : RegRow} (c : s.canonical = true)
    (hop : (s.cmdGiven i w r).opcode = opTx ∨ (s.cmdGiven i w r).opcode = opTxCca) (h : s.cmdTaken i w r = true)
    (hst : (s.cmdSeen i w r).judgedBy (s.cmdGiven i w r).opcode = 1) (hfree : TxFree (s.cmdSeen i w r) (s.cmdGiven i w r)) :
    TxBegun (s.cmdSeen i w r) (s.cmdGiven i w r) (s.busWrite i Reg.RAD_CMD w) := by
  obtain ⟨hwrite, haccepts⟩ := State.cmdTaken_write h
  have hcarried : (s.cmdSeen i w r).carriedOut (s.cmdGiven i w r) 1 = (s.cmdSeen i w r).cmdTx (s.cmdGiven i w r) 1 := by
    unfold State.carriedOut
    rw [if_neg (by rcases hop with e | e <;> rw [e] <;> decide), if_neg (by rcases hop with e | e <;> rw [e] <;> decide),
      if_neg (by rcases hop with e | e <;> rw [e] <;> decide), if_pos hop]
  obtain ⟨hsrc, -, -⟩ := s.cmdGiven_shape i w r
  rw [hwrite, State.judge_accepted haccepts, hst, hcarried]
  exact (hfree.begun (State.cmdSeen_canonical c i w r) hsrc).answer _ _ _

/-- A Whiff that has begun in IDLE. -/
structure WhiffBegun (op : RadOp) (t : State) : Prop where
  moving : t.on F.RAD_STATE_MOVING = true
  target : t.get F.RAD_STATE_TARGET = 2
  valid : t.get F.RFE_WHIFF_STAT_VALID = 0
  receiver : t.pageSt P.RFE ≠ 0
  whiff : t.radio.whiff.map (fun (x : Whiff) => (x.fromIdle, x.capturing, x.captured, x.op)) = some (true, false, false, op)

theorem WhiffBegun.answer {op : RadOp} {t : State} (h : WhiffBegun op t) (i : Initiator) (w : Word) (e : BusEnd) : WhiffBegun op (t.answer i w e) :=
  ⟨h.moving, h.target, h.valid, h.receiver, h.whiff⟩

/-- The Whiff of an operation, before its capture. -/
def freshWhiff (op : RadOp) : Whiff := ⟨0, [], 0, 0, false, false, false, true, op, 0, 0, 0⟩

theorem State.cmdWhiff_begun {s : State} (c : s.canonical = true) {op : RadOp} (hnone : s.radio.whiff = none) : WhiffBegun op (s.cmdWhiff op 1) := by
  have hcmd : s.cmdWhiff op 1 = (((s.supersede.rxStart.moveTo 2).setRadio (fun r =>
      { r with whiff := some (freshWhiff op), follow := none })).put F.RFE_WHIFF_STAT_VALID 0).interim op.src 0 := by
    unfold State.cmdWhiff State.whiffEnd
    rw [hnone]
    rfl
  have c1 : s.supersede.canonical = true := (Keeps.refl s).supersede.canon c
  have c2 : s.supersede.rxStart.canonical = true := (Keeps.refl _).rxStart.canon c1
  have hon := State.rxStart_on c1
  rw [hcmd]
  generalize s.supersede.rxStart = u at *
  obtain ⟨hmoving, htarget⟩ := State.moveTo_shown c2 2
  have cmoved : (u.moveTo 2).canonical = true := ((TxAside.refl Reg.RFE_CFG u).moveTo 2 (by decide)).canon c2
  have crad : ((u.moveTo 2).setRadio (fun r => { r with whiff := some (freshWhiff op), follow := none })).canonical = true :=
    ((Keeps.refl _).setRadio _).canon cmoved
  have cput := ((Keeps.refl _).put F.RFE_WHIFF_STAT_VALID 0).canon crad
  have hinterim (t : State) : Frame 0x200000000000000 t (t.interim op.src 0) := Frame.interim (Frame.refl _ t) (by decide) op.src 0
  have hinterimState (t : State) (x : Nat) (hx : x ≠ Reg.RAD_CMD_STAT) : TxAside x t (t.interim op.src 0) := by
    have hput : TxAside x t ((t.put F.RAD_CMD_STAT_STATUS 0).put F.RAD_CMD_STAT_FINAL 0) := ((TxAside.refl x t).put 0 hx).put 0 hx
    have hsame := TxAside.refl x t
    unfold State.interim
    split
    · split <;> assumption
    · assumption
  have hstate : TxAside Reg.RAD_STATE (u.moveTo 2) _ := (TxAside.refl Reg.RAD_STATE (u.moveTo 2)).same
    ((Keeps.refl _).setRadio (fun r => { r with whiff := some (freshWhiff op), follow := none })) rfl rfl rfl
  have hkept := ((hstate.put (f := F.RFE_WHIFF_STAT_VALID) 0 (by decide))).trans (hinterimState _ Reg.RAD_STATE (by decide))
  refine ⟨?_, (hkept.get cmoved _ rfl).trans htarget, ?_, ?_, ?_⟩
  · unfold State.on
    rw [hkept.get cmoved _ rfl]
    exact hmoving
  · rw [(hinterimState _ Reg.RFE_WHIFF_STAT (by decide)).get cput _ rfl, State.get_put_self crad _ _ (by decide)]
    rfl
  · have hrfe := ((TxAside.refl (Reg.PAGE_STAT P.RFE) u).moveTo 2 (by decide)).same
      ((Keeps.refl _).setRadio (fun r => { r with whiff := some (freshWhiff op), follow := none })) rfl rfl rfl
    have hall := (hrfe.put (f := F.RFE_WHIFF_STAT_VALID) 0 (by decide)).trans (hinterimState _ (Reg.PAGE_STAT P.RFE) (by decide))
    have heq := hall.get c2 (F.PAGE_STAT_STATE P.RFE) rfl
    exact fun h0 => hon (heq.symm.trans h0)
  · rw [(hinterim _).radio (by decide), State.put_radio]
    rfl

theorem exec_whiff_begun {s : State} {i : Initiator} {w : Word} {r : RegRow} (c : s.canonical = true)
    (hop : (s.cmdGiven i w r).opcode = opWhiff) (h : s.cmdTaken i w r = true)
    (hst : (s.cmdSeen i w r).judgedBy (s.cmdGiven i w r).opcode = 1) (hnone : (s.cmdSeen i w r).radio.whiff = none) :
    WhiffBegun (s.cmdGiven i w r) (s.busWrite i Reg.RAD_CMD w) := by
  obtain ⟨hwrite, haccepts⟩ := State.cmdTaken_write h
  have hcarried : (s.cmdSeen i w r).carriedOut (s.cmdGiven i w r) 1 = (s.cmdSeen i w r).cmdWhiff (s.cmdGiven i w r) 1 := by
    unfold State.carriedOut
    rw [hop, if_neg (by decide), if_neg (by decide), if_neg (by decide), if_neg (by decide), if_neg (by decide), if_pos rfl]
  rw [hwrite, State.judge_accepted haccepts, hst, hcarried]
  exact (State.cmdWhiff_begun (State.cmdSeen_canonical c i w r) hnone).answer _ _ _

/-- The opcode of a command row's write. -/
theorem State.cmdGiven_opcode (s : State) (i : Initiator) (w : Word) (r : RegRow) {n : Nat} (hn : n < 16) :
    (s.cmdGiven i (withBits w 0 4 n) r).opcode = n := by
  obtain ⟨-, hop, -⟩ := s.cmdGiven_shape i (withBits w 0 4 n) r
  exact hop.trans (withBits_opcode w hn)

/-- A command that is taken at once carries no time. -/
theorem State.cmdTaken_untimed {s : State} {i : Initiator} {w : Word} {r : RegRow} (h : s.cmdTaken i w r = true) :
    (s.cmdGiven i w r).timed = false := by
  unfold State.cmdTaken at h
  simp only [Bool.and_eq_true, Bool.not_eq_true'] at h
  obtain ⟨⟨-, htimed⟩, -⟩ := h
  exact htimed

/-- Settles O8: each write is the command that its row reads from RAD.CMD, and an accepted one is carried out by the radio in IDLE. -/
theorem receiveAndTransmitCommandsComplete : Obligations.ReceiveAndTransmitCommandsComplete := by
  unfold Obligations.ReceiveAndTransmitCommandsComplete
  refine ⟨?rx, ?rxMulti, ?rxHeld, ?rxMultiHeld, ?whiffHeld, ?tx, ?txCca, ?whiff⟩
  case rx =>
    intro s i w r plan h c hst hds hassign
    have hop := s.cmdGiven_opcode i w r (n := 2) (by decide)
    obtain ⟨hmoving, htarget, hstatus, hfinal, htaken⟩ := exec_rx_begun c (Or.inl hop) h (by rw [hop]; exact hst) hds hassign
    exact ⟨_, rfl, hmoving, htarget, hstatus, hfinal, htaken⟩
  case rxMulti =>
    intro s i w r plan h c hst hds hassign
    have hop := s.cmdGiven_opcode i w r (n := 3) (by decide)
    obtain ⟨hmoving, htarget, hstatus, hfinal, htaken⟩ := exec_rx_begun c (Or.inr hop) h (by rw [hop]; exact hst) hds hassign
    exact ⟨_, rfl, hmoving, htarget, hstatus, hfinal, htaken⟩
  case rxHeld =>
    intro s i w r h c htimed hqueue hunits
    have hop := s.cmdGiven_opcode i w r (n := 2) (by decide)
    obtain ⟨hq, hheld, hstatus, hfinal, hocc⟩ := exec_timed_held c h (by rw [hop]; decide) htimed hqueue hunits
    exact ⟨_, rfl, hq, hheld, hstatus, hfinal, hocc⟩
  case rxMultiHeld =>
    intro s i w r h c htimed hqueue hunits
    have hop := s.cmdGiven_opcode i w r (n := 3) (by decide)
    obtain ⟨hq, hheld, hstatus, hfinal, hocc⟩ := exec_timed_held c h (by rw [hop]; decide) htimed hqueue hunits
    exact ⟨_, rfl, hq, hheld, hstatus, hfinal, hocc⟩
  case whiffHeld =>
    intro s i w r h c htimed hqueue hunits
    have hop := s.cmdGiven_opcode i w r (n := 7) (by decide)
    obtain ⟨hq, hheld, hstatus, hfinal, hocc⟩ := exec_timed_held c h (by rw [hop]; decide) htimed hqueue hunits
    exact ⟨_, rfl, hq, hheld, hstatus, hfinal, hocc⟩
  case tx =>
    intro s i w r h c hst hunits hsecure h8 h9 hres hchan hband hidle hbst
    have hop := s.cmdGiven_opcode i w r (n := 4) (by decide)
    have hnotCca : (s.cmdGiven i (withBits w 0 4 4) r).opcode ≠ opTxCca := by rw [hop]; decide
    have hstage : firstStage (s.cmdGiven i (withBits w 0 4 4) r) = .wait := if_neg hnotCca
    obtain ⟨-, -, hu⟩ := s.cmdGiven_shape i (withBits w 0 4 4) r
    obtain ⟨⟨hmoving, htarget, hstatus, hfinal, htaken⟩, htuned, hsettling, hnow, hnext, -⟩ :=
      exec_tx_begun c (Or.inl hop) h (by rw [hop]; exact hst) ⟨State.cmdTaken_untimed h, hu, fun hcca => absurd hcca hnotCca,
        State.unitBar_of_present hunits, hsecure, h8, h9, hres, hchan, hband, hidle, hbst⟩
    rw [hstage] at hnow hnext
    exact ⟨_, rfl, hmoving, htarget, hstatus, hfinal, htaken, htuned, hsettling, hnow, hnext⟩
  case txCca =>
    intro s i w r h c hst hunits hsecure h8 h9 hres hchan hband hidle hbst hreason
    have hop := s.cmdGiven_opcode i w r (n := 5) (by decide)
    have hstage : firstStage (s.cmdGiven i (withBits w 0 4 5) r) = .cca := if_pos hop
    obtain ⟨-, -, hu⟩ := s.cmdGiven_shape i (withBits w 0 4 5) r
    obtain ⟨⟨hmoving, htarget, hstatus, hfinal, htaken⟩, htuned, hsettling, hnow, hnext, hreceiver⟩ :=
      exec_tx_begun c (Or.inr hop) h (by rw [hop]; exact hst) ⟨State.cmdTaken_untimed h, hu, fun _ => hreason,
        State.unitBar_of_present hunits, hsecure, h8, h9, hres, hchan, hband, hidle, hbst⟩
    rw [hstage] at hnow hnext
    exact ⟨_, rfl, hmoving, htarget, hstatus, hfinal, htaken, htuned, hsettling, hnow, hnext, hreceiver hop⟩
  case whiff =>
    intro s i w r h c hst hnone
    have hop := s.cmdGiven_opcode i w r (n := 7) (by decide)
    obtain ⟨hmoving, htarget, hvalid, hreceiver, hwhiff⟩ := exec_whiff_begun c hop h (by rw [hop]; exact hst) hnone
    exact ⟨_, rfl, hmoving, htarget, hvalid, hreceiver, hwhiff⟩

end Sys2Proof.Machine
end

section
/-! SUPPORT. A field that goes on reading a value: the relation `Reads` between a state and a later one, with one law for each operation. -/

namespace Sys2Proof.Machine

/-- From `a` to `t` the field `f` goes on reading `v`, where it reads `v`. -/
structure Reads (f : Field) (v : Nat) (a t : State) : Prop where
  keeps : Keeps a t
  get : a.canonical = true → a.get f = v → t.get f = v

namespace Reads

variable {f : Field} {v : Nat} {a s t : State}

theorem refl (f : Field) (v : Nat) (a : State) : Reads f v a a := ⟨Keeps.refl a, fun _ h => h⟩

theorem trans (h : Reads f v a s) (g : Reads f v s t) : Reads f v a t :=
  ⟨h.keeps.trans g.keeps, fun c e => g.get (h.keeps.canon c) (h.get c e)⟩

theorem canon (h : Reads f v a t) (c : a.canonical = true) : t.canonical = true := h.keeps.canon c

theorem ite {p : Prop} [Decidable p] (h : Reads f v a s) (g : Reads f v a t) : Reads f v a (if p then s else t) := by
  split <;> assumption

theorem foldl {α : Type} {g : State → α → State} {l : List α} (h : Reads f v a s) (k : ∀ u y, Reads f v u (g u y)) :
    Reads f v a (l.foldl g s) := by
  induction l generalizing s with
  | nil => exact h
  | cons y l ih => exact ih (h.trans (k s y))

/-- An operation whose frame leaves the page of the field alone. -/
theorem frame {w : Nat} (h : Reads f v a s) (g : Frame w s t) (hf : (w.testBit 17 || w.testBit (32 + pageIx f.addr)) = false) : Reads f v a t :=
  h.trans ⟨g.1, fun c e => (g.get c f hf).trans e⟩

/-- An operation that leaves the register of the field alone, beside a transmission. -/
theorem aside {x : Nat} (h : Reads f v a s) (g : TxAside x s t) (hx : f.addr = x) : Reads f v a t :=
  h.trans ⟨g.keeps, fun c e => (g.get c f hx).trans e⟩

/-- An update of parts that are no registers. -/
theorem same (h : Reads f v a s) (k : Keeps s t) (hr : t.regs = s.regs) : Reads f v a t :=
  h.trans ⟨k, fun _ e => (State.get_of_regs hr f).trans e⟩

theorem setRadio (h : Reads f v a s) (g : Radio → Radio) : Reads f v a (s.setRadio g) := h.same ((Keeps.refl s).setRadio g) rfl

theorem withCrs (h : Reads f v a s) (c : Crs) : Reads f v a { s with crs := c } := by
  refine h.same ?_ ?_
  · exact Keeps.upd (Keeps.refl s) rfl (OtpKept.refl _)
  · rfl

theorem withCtxs (h : Reads f v a s) (cs : List AckCtx) : Reads f v a { s with ctxs := cs } := by
  refine h.same ?_ ?_
  · exact Keeps.upd (Keeps.refl s) rfl (OtpKept.refl _)
  · rfl

/-- A write of another field. -/
theorem put (h : Reads f v a s) {g : Field} (x : Nat) (hg : g.lo + g.width ≤ 32)
    (hd : f.addr ≠ g.addr ∨ f.lo + f.width ≤ g.lo ∨ g.lo + g.width ≤ f.lo) : Reads f v a (s.put g x) :=
  h.trans ⟨(Keeps.refl s).put g x, fun c e => (State.get_put_other c g f x hg hd).trans e⟩

/-- A write of the value itself. -/
theorem putSelf (h : Reads f v a s) {x : Nat} (hf : f.lo + f.width ≤ 32) (hx : x % 2 ^ f.width = v) : Reads f v a (s.put f x) :=
  h.trans ⟨(Keeps.refl s).put f x, fun c _ => (State.get_put_self c f x hf).trans hx⟩

end Reads

end Sys2Proof.Machine
end

section
/-! SUPPORT. The queue slot's bit in RAD.CMD_STAT (05 R125): neither an operation that is taken nor the transition to ARMED_RX fills the slot. -/

namespace Sys2Proof.Machine.Reads

variable {v : Nat} {a s : State}

theorem qOcc_endSrc (h : Reads F.RAD_CMD_STAT_Q_OCC v a s) (src : OpSrc) (status : Nat) (slip noFrame busy argErr : Bool) (endAt : Nat) :
    Reads F.RAD_CMD_STAT_Q_OCC v a (s.endSrc src status slip noFrame busy argErr endAt) := by
  have noted {t : State} (g : Reads F.RAD_CMD_STAT_Q_OCC v a t) : Reads F.RAD_CMD_STAT_Q_OCC v a
      ((if status = 4 then (t.countSat F.RAD_COUNTS_LATE).flag P.RAD 4 else if status = 6 then t.flag P.RAD 5 else t).recStatus status) :=
    g.aside (TxAside.statusNoted (TxAside.refl Reg.RAD_CMD_STAT t) status (by decide) (by decide) (by decide) (by decide)) rfl
  unfold State.endSrc
  refine noted ?_
  cases src with
  | software n =>
    have hput := ((((h.put (g := F.RAD_CMD_STAT_STATUS) status (by decide) (by decide)).put (g := F.RAD_CMD_STAT_FINAL) 1 (by decide)
      (by decide)).put (g := F.RAD_CMD_STAT_SLIP) (boolNat (slip || s.on F.RAD_CMD_STAT_SLIP)) (by decide) (by decide)).put
      (g := F.RAD_CMD_STAT_CCA_BUSY) (boolNat busy) (by decide) (by decide)).put (g := F.RAD_CMD_STAT_ARG_ERR) (boolNat argErr) (by decide)
      (by decide)
    exact (hput.aside (((TxAside.refl Reg.RAD_CMD_STAT _).flag P.RAD 0 (by decide)).event P.RAD 3) rfl).ite h
  | entry i =>
    have flagged (t : State) : Frame 0x4000000000000000 t (if status = 2 then t.flag P.LNK 2 else if status = 4 then t.flag P.LNK 1 else t) :=
      have hsame := Frame.refl _ t
      (hsame.flag (Or.inr (by decide))).ite ((hsame.flag (Or.inr (by decide))).ite hsame)
    refine frame (same h ?_ ?_) (flagged _) (by decide)
    · exact Keeps.upd (Keeps.refl s) rfl (OtpKept.refl _)
    · rfl
  | internal => exact h

theorem qOcc_endPlain (h : Reads F.RAD_CMD_STAT_Q_OCC v a s) (src : OpSrc) (status : Nat) : Reads F.RAD_CMD_STAT_Q_OCC v a (s.endPlain src status) :=
  h.qOcc_endSrc ..

theorem qOcc_takeOp (h : Reads F.RAD_CMD_STAT_Q_OCC v a s) (op : RadOp) : Reads F.RAD_CMD_STAT_Q_OCC v a (s.takeOp op) := by
  have replaced : Reads F.RAD_CMD_STAT_Q_OCC v a s.opReplaced := by
    unfold State.opReplaced
    dsimp only
    split
    · exact (h.qOcc_endSrc ..).setRadio _
    · exact h
  have superseded : Reads F.RAD_CMD_STAT_Q_OCC v a s.supersede := by
    obtain ⟨again, hsup⟩ := s.supersede_eq
    rw [hsup]
    split
    · exact replaced.setRadio _
    · exact replaced
  have begun {t : State} (g : Reads F.RAD_CMD_STAT_Q_OCC v a t) : Reads F.RAD_CMD_STAT_Q_OCC v a (t.interim op.src 0) := by
    unfold State.interim
    split
    · exact ((g.put _ (by decide) (by decide)).put _ (by decide) (by decide)).ite g
    · exact g
  rw [State.takeOp_eq]
  exact begun (superseded.setRadio _)

theorem qOcc_crsHold (h : Reads F.RAD_CMD_STAT_Q_OCC v a s) (r : Option CrsHeld) : Reads F.RAD_CMD_STAT_Q_OCC v a (s.crsHold r) := by
  have hold {u : State} (g : Reads F.RAD_CMD_STAT_Q_OCC v a u) : Reads F.RAD_CMD_STAT_Q_OCC v a
      { u.put F.SYN_CRS_STAT_DEFERRED (boolNat r.isSome) with crs := { u.crs with held := r } } :=
    (g.put _ (by decide) (by decide)).withCrs _
  unfold State.crsHold
  refine hold ?_
  split
  · exact h.qOcc_endPlain _ _
  · exact h

theorem qOcc_crsRelease (h : Reads F.RAD_CMD_STAT_Q_OCC v a s) (u : CrsUser) : Reads F.RAD_CMD_STAT_Q_OCC v a (s.crsRelease u) := by
  have hfree : Reads F.RAD_CMD_STAT_Q_OCC v a { s.put F.SYN_CRS_STAT_RESERVED (boolNat (!(s.crs.reserved.filter (· != u)).isEmpty)) with
      crs := { s.crs with reserved := s.crs.reserved.filter (· != u) } } :=
    (h.put _ (by decide) (by decide)).withCrs _
  have tuned {t : State} (g : Reads F.RAD_CMD_STAT_Q_OCC v a t) (f : Nat) (target : Int) (src : Nat) :
      Reads F.RAD_CMD_STAT_Q_OCC v a (t.crsTune f target src) :=
    g.aside ((TxAside.refl Reg.RAD_CMD_STAT t).crsTune (by decide) (by decide) f target src) rfl
  unfold State.crsRelease
  refine Reads.ite ?_ h
  dsimp only
  split
  · exact hfree
  · have htune := tuned (hfree.qOcc_crsHold none)
    split
    · rename_i k _
      exact ((htune _ _ _).aside ((TxAside.refl Reg.RAD_CMD_STAT _).crsReserve (by decide) (.ack k)) rfl).withCtxs _
    · exact (htune _ _ _).qOcc_endPlain _ _
    · exact htune _ _ _

theorem qOcc_squashCtx (h : Reads F.RAD_CMD_STAT_Q_OCC v a s) (k reason : Nat) : Reads F.RAD_CMD_STAT_Q_OCC v a (s.squashCtx k reason) := by
  have held {t : State} (g : Reads F.RAD_CMD_STAT_Q_OCC v a t) : Reads F.RAD_CMD_STAT_Q_OCC v a (match t.crs.held with
      | some ⟨.ackTune j, _, _⟩ => if j = k then t.crsHold none else t
      | _ => t) := by
    split
    · exact (g.qOcc_crsHold none).ite g
    · exact g
  have home (c : AckCtx) : Reads F.RAD_CMD_STAT_Q_OCC v a
      (let s1 := match c.u with
        | some u => if c.remote then (if c.passed then s.sendVerdict c.index false true true c.inFc (some u) c.rssi c.lqi else s)
            else s.dropReserve (c.index % 16384) u
        | none => if c.remote && c.passed then s.sendVerdict c.index false true true c.inFc none c.rssi c.lqi else s
      match c.inFc, c.passed && !c.remote && decide (4 < reason) with
        | some x, true => s1.raiseW (c.index % 16384) 3 x
        | _, _ => s1) := by
    have sent (u : Option Nat) := h.frame (Frame.sendVerdict (w := 0x129) (Frame.refl _ s) (by decide) c.index false true true c.inFc u c.rssi c.lqi)
      (by decide)
    have dropped (u : Nat) := h.frame (Frame.dropReserve (w := 0x109) (Frame.refl _ s) (by decide) (c.index % 16384) u) (by decide)
    have raised {t : State} (g : Reads F.RAD_CMD_STAT_Q_OCC v a t) (x : Nat) :=
      g.frame (Frame.raiseW (w := 0x101) (Frame.refl _ t) (by decide) (c.index % 16384) 3 x) (by decide)
    have hgap : Reads F.RAD_CMD_STAT_Q_OCC v a (match c.u with
        | some u => if c.remote then (if c.passed then s.sendVerdict c.index false true true c.inFc (some u) c.rssi c.lqi else s)
            else s.dropReserve (c.index % 16384) u
        | none => if c.remote && c.passed then s.sendVerdict c.index false true true c.inFc none c.rssi c.lqi else s) := by
      split
      · exact ((sent _).ite h).ite (dropped _)
      · exact (sent _).ite h
    dsimp only
    split
    · exact raised hgap _
    · exact hgap
  unfold State.squashCtx
  split
  · exact h
  · rename_i c _
    refine h.ite ?_
    have hloss := ((held (home c)).qOcc_crsRelease (.ack k)).frame
      (Frame.specLoss (w := 0x4000000000000000) (Frame.refl _ _) (by decide) reason) (by decide)
    have hrec := hloss.frame (Frame.specRecord (w := 0x100000000000010101) (Frame.refl _ _) (by decide) c.unit k 0 reason (c.inFc.getD 0)) (by decide)
    refine frame ?_ (Frame.ctxFree (w := 0x4000000000000018) (Frame.refl _ _) (by decide) k) (by decide)
    split
    · exact hrec.frame (Frame.setRecFlag (w := 0x101) (Frame.refl _ _) (by decide) _ 2) (by decide)
    · exact hrec.frame (Frame.onFrame (w := 4) (Frame.refl _ _) (by decide) _ _) (by decide)

theorem qOcc_lossRecord (h : Reads F.RAD_CMD_STAT_Q_OCC v a s) (u : RxUnit) (d code : Nat) :
    Reads F.RAD_CMD_STAT_Q_OCC v a (s.lossRecord u d code) := by
  refine h.aside (x := Reg.RAD_CMD_STAT) ?_ rfl
  have shown {t : State} (g : TxAside Reg.RAD_CMD_STAT s t) {c1 c2 c3 c4 c5 : Field} (h1 : Reg.RAD_CMD_STAT ≠ c1.addr)
      (h2 : Reg.RAD_CMD_STAT ≠ c2.addr) (h3 : Reg.RAD_CMD_STAT ≠ c3.addr) (h4 : Reg.RAD_CMD_STAT ≠ c4.addr)
      (h5 : Reg.RAD_CMD_STAT ≠ c5.addr) :
      TxAside Reg.RAD_CMD_STAT s (if code = 8 then t.countSat c1 else if code = 5 then t.countSat c2 else if code = 6 then t.countSat c3
        else if code = 0xA then t.countSat c4 else t.countSat c5) :=
    (g.countSat h1).ite ((g.countSat h2).ite ((g.countSat h3).ite ((g.countSat h4).ite (g.countSat h5))))
  have hsame := TxAside.refl Reg.RAD_CMD_STAT s
  cases u with
  | slice n =>
    exact (shown (((hsame.put (f := F.NBD_LAST_LOSS_END) code (by decide)).put (f := F.NBD_LAST_LOSS_SLICE) n (by decide)).put
      (f := F.NBD_LAST_LOSS_DESC) d (by decide)) (by decide) (by decide) (by decide) (by decide) (by decide)).flag P.NBD 0 (by decide)
  | lane n =>
    exact (shown (((hsame.put (f := F.OFD_LAST_LOSS_END) code (by decide)).put (f := F.OFD_LAST_LOSS_LANE) n (by decide)).put
      (f := F.OFD_LAST_LOSS_DESC) d (by decide)) (by decide) (by decide) (by decide) (by decide) (by decide)).flag P.OFD 0 (by decide)

theorem qOcc_loseFrame (h : Reads F.RAD_CMD_STAT_Q_OCC v a s) (u : RxUnit) (code : Nat) : Reads F.RAD_CMD_STAT_Q_OCC v a (s.loseFrame u code) := by
  have triggered {t : State} (g : Reads F.RAD_CMD_STAT_Q_OCC v a t) :
      Reads F.RAD_CMD_STAT_Q_OCC v a (if t.recUnit u && t.on F.REC_TRIG_EN_LOST then t.recTrigger 5 else t) :=
    (g.aside ((TxAside.refl Reg.RAD_CMD_STAT t).recTrigger 5 (by decide) (by decide)) rfl).ite g
  have squashed (f : RxFrame) : Reads F.RAD_CMD_STAT_Q_OCC v a (match f.spec with
      | some k => s.squashCtx k (State.lossReason code)
      | none => s) := by
    split
    · exact h.qOcc_squashCtx _ _
    · exact h
  have emptied {t : State} (g : Reads F.RAD_CMD_STAT_Q_OCC v a t) (y : RxSlot) (bs : List Nat) :
      Reads F.RAD_CMD_STAT_Q_OCC v a (((t.setSlot u y).freeAll bs).freshCopy u) :=
    g.frame (Frame.freshCopy (w := 0x400000000001011D) (Frame.freeAll (Frame.setSlot (Frame.refl _ t) (by decide) u y) (by decide) bs) (by decide) u)
      (by decide)
  have withShared {t : State} (g : Reads F.RAD_CMD_STAT_Q_OCC v a t) (rs : List SharedReq) : Reads F.RAD_CMD_STAT_Q_OCC v a { t with shared := rs } :=
    g.aside ((TxAside.refl Reg.RAD_CMD_STAT t).withShared rs) rfl
  unfold State.loseFrame
  split
  · exact h
  · rename_i f _
    refine triggered ((withShared (emptied ?_ _ _) _).qOcc_lossRecord u _ code)
    split
    · split
      · exact ((squashed f).frame (Frame.dropReserve (w := 0x109) (Frame.refl _ _) (by decide) _ _) (by decide)).ite
          ((squashed f).frame (Frame.sendVerdict (w := 0x129) (Frame.refl _ _) (by decide) _ _ _ _ _ _ _ _) (by decide))
      · exact squashed f
    · exact squashed f

/-- The transition to ARMED_RX. -/
theorem qOcc_goTo_armed (h : Reads F.RAD_CMD_STAT_Q_OCC v a s) : Reads F.RAD_CMD_STAT_Q_OCC v a (s.goTo 2) := by
  have moved {t : State} (g : Reads F.RAD_CMD_STAT_Q_OCC v a t) : Reads F.RAD_CMD_STAT_Q_OCC v a (t.moveTo 2) :=
    g.aside ((TxAside.refl Reg.RAD_CMD_STAT t).moveTo 2 (by decide)) rfl
  have started := h.aside ((TxAside.refl Reg.RAD_CMD_STAT s).rxStart (by decide)) rfl
  have lost : Reads F.RAD_CMD_STAT_Q_OCC v a (s.loseAll 5) := h.foldl (fun t u => (Reads.refl _ _ t).qOcc_loseFrame u 5)
  have hgo : s.goTo 2 = if s.pageSt P.RFE = 0 then s.rxStart.moveTo 2 else ((s.loseAll 5).releaseAll).moveTo 2 := if_pos rfl
  rw [hgo]
  exact (moved started).ite (moved (lost.aside ((TxAside.refl Reg.RAD_CMD_STAT _).withSlots _ _) rfl))

end Sys2Proof.Machine.Reads
end

section
/-! SUPPORT. An ARM_RX that waited, for its time or for the state that blocked it (05 R127, R132), begins the transition to ARMED_RX. -/

namespace Sys2Proof.Machine

/-- What an ARM_RX that is accepted in IDLE begins. -/
structure ArmBegun (s t : State) : Prop where
  moving : t.on F.RAD_STATE_MOVING = true
  target : t.get F.RAD_STATE_TARGET = 2
  queue : s.get F.RAD_CMD_STAT_Q_OCC = 0 → t.get F.RAD_CMD_STAT_Q_OCC = 0
  follow : t.radio.follow = none

theorem State.judge_armRx {s : State} (c : s.canonical = true) {op : RadOp} (hop : op.opcode = opArmRx) (haccepts : s.acceptsOp op = true)
    (hst : s.judgedBy opArmRx = 1) : ArmBegun s (s.judge op) := by
  have hcarried : s.carriedOut op (s.judgedBy op.opcode) = ((s.takeOp op).goTo 2).setRadio (fun r => { r with follow := none }) := by
    rw [hop, hst]
    unfold State.carriedOut
    rw [if_neg (by rw [hop]; decide), if_pos hop, if_neg (by simp)]
  have ctaken : (s.takeOp op).canonical = true := ((Keeps.refl s).takeOp op).canon c
  have hmove : ∃ u : State, u.canonical = true ∧ (s.takeOp op).goTo 2 = u.moveTo 2 := by
    have hgo : (s.takeOp op).goTo 2 = if (s.takeOp op).pageSt P.RFE = 0 then (s.takeOp op).rxStart.moveTo 2
        else (((s.takeOp op).loseAll 5).releaseAll).moveTo 2 := if_pos rfl
    rw [hgo]
    split
    · exact ⟨_, (Keeps.refl _).rxStart.canon ctaken, rfl⟩
    · exact ⟨_, (((TxAside.refl Reg.LNK_CCA_STAT _).loseAll 5).releaseAll).canon ctaken, rfl⟩
  have hqueue := ((Reads.refl F.RAD_CMD_STAT_Q_OCC 0 s).qOcc_takeOp op).qOcc_goTo_armed.setRadio (fun r => { r with follow := none })
  rw [State.judge_accepted haccepts, hcarried]
  obtain ⟨u, cu, hu⟩ := hmove
  obtain ⟨hmoving, htarget⟩ := State.moveTo_shown cu 2
  rw [← hu] at hmoving htarget
  exact ⟨hmoving, htarget, hqueue.get c, rfl⟩

/-- What the judgement of an ARM_RX reads. -/
theorem State.acceptsOp_armRx {s : State} {op : RadOp} (hop : op.opcode = opArmRx) :
    s.acceptsOp op = (acceptCell opArmRx (s.judgedBy opArmRx) == 1 && [P.RFE, P.SYN, P.CHN].all s.enabled && !s.engHeld 6 &&
      (s.judgedBy opArmRx != 1 || s.radioClock)) := by
  have hpages : s.opPages op = [P.RFE, P.SYN, P.CHN] := if_pos hop
  have hengines : opEngines op = [6] := by
    unfold opEngines
    rw [hop]
    rfl
  unfold State.acceptsOp State.pagesOn
  rw [hpages, hengines, hop]
  simp [opArmRx, opTx, opTxCca, opIdle, opAbort, opOff]

theorem Frame.eng {w : Nat} {a t : State} (h : Frame w a t) (hw : w.testBit 9 = false) : t.eng = a.eng := by
  have e := h.2.1 .power hw
  simp only [State.same, Prod.mk.injEq] at e
  obtain ⟨-, -, -, e, -⟩ := e
  exact e

/-- SLIP changes nothing that the judgement of an ARM_RX reads. -/
theorem State.armRx_showSlip {s : State} (c : s.canonical = true) {op : RadOp} (hop : op.opcode = opArmRx) (src : OpSrc) (slip : Bool) :
    (s.showSlip src slip).acceptsOp { op with slip := slip } = s.acceptsOp op ∧ (s.showSlip src slip).judgedBy opArmRx = s.judgedBy opArmRx := by
  have hframe := Frame.showSlip (w := 0x200000000000008) (Frame.refl _ s) (by decide) src slip
  have hstate (f : Field) (hf : f.addr = Reg.RAD_STATE) : (s.showSlip src slip).get f = s.get f := by
    have hsame := TxAside.refl Reg.RAD_STATE s
    have haside : TxAside Reg.RAD_STATE s (s.showSlip src slip) := by
      unfold State.showSlip
      split
      · exact (hsame.put _ (by decide)).ite hsame
      · exact hsame.same (Keeps.upd (Keeps.refl _) rfl (OtpKept.refl _)) rfl rfl rfl
      · exact hsame
    exact haside.get c f hf
  have hjudged : (s.showSlip src slip).judgedBy opArmRx = s.judgedBy opArmRx := by
    unfold State.judgedBy State.judged State.on State.radioState State.pageSt
    rw [hframe.radio (by decide), hframe.get c _ (by decide), hstate _ rfl, hstate _ rfl, hstate _ rfl]
  have henabled : [P.RFE, P.SYN, P.CHN].all (s.showSlip src slip).enabled = [P.RFE, P.SYN, P.CHN].all s.enabled := by
    simp only [List.all_cons, List.all_nil, State.enabled, State.on]
    rw [hframe.get c _ (by decide), hframe.get c _ (by decide), hframe.get c _ (by decide)]
  have hclock : (s.showSlip src slip).radioClock = s.radioClock := by
    unfold State.radioClock State.on
    rw [hframe.get c _ (by decide), hframe.get c _ (by decide)]
  have hheld : (s.showSlip src slip).engHeld 6 = s.engHeld 6 := by
    unfold State.engHeld
    rw [hframe.eng (by decide)]
  refine ⟨?_, hjudged⟩
  rw [State.acceptsOp_armRx (op := { op with slip := slip }) hop, State.acceptsOp_armRx hop, hjudged, henabled, hclock, hheld]

/-- A held ARM_RX that is due. -/
theorem State.timedDue_armRx {s : State} (c : s.canonical = true) {op : RadOp} (hop : op.opcode = opArmRx) (haccepts : s.acceptsOp op = true)
    (hst : s.judgedBy opArmRx = 1) : ArmBegun s (s.timedDue op) := by
  obtain ⟨slip, hdue⟩ : ∃ slip, s.timedDue op = (s.showSlip op.src slip).judge { op with slip := slip } := ⟨_, rfl⟩
  obtain ⟨hacc, hjudged⟩ := State.armRx_showSlip c hop op.src slip
  have c1 : (s.showSlip op.src slip).canonical = true := ((Keeps.refl s).showSlip _ _).canon c
  obtain ⟨hmoving, htarget, hqueue, hfollow⟩ :=
    State.judge_armRx (op := { op with slip := slip }) c1 hop (hacc.trans haccepts) (hjudged.trans hst)
  have hslip : Reads F.RAD_CMD_STAT_Q_OCC 0 s (s.showSlip op.src slip) := by
    have hsame := Reads.refl F.RAD_CMD_STAT_Q_OCC 0 s
    unfold State.showSlip
    split
    · exact (hsame.put _ (by decide) (by decide)).ite hsame
    · exact hsame.same (Keeps.upd (Keeps.refl _) rfl (OtpKept.refl _)) rfl
    · exact hsame
  rw [hdue]
  exact ⟨hmoving, htarget, fun h => hqueue (hslip.get c h), hfollow⟩

/-- With the queue slot empty Q_OCC reads 0. -/
theorem State.showQueue_empty {s : State} (c : s.canonical = true) (h : s.radio.queue = none) : s.showQueue.get F.RAD_CMD_STAT_Q_OCC = 0 := by
  unfold State.showQueue
  rw [h]
  exact State.get_put_self c _ _ (by decide)

theorem timedCommandDue_software {s : State} (c : s.canonical = true) {op : RadOp} (hqueue : s.radio.queue = some op)
    (hheld : s.radio.heldTime = true) (hop : op.opcode = opArmRx) (hdue : notBefore (addTicks s.count (s.opLead op)) op.instant = true)
    (haccepts : ((s.setRadio (fun r => { r with queue := none, heldTime := false })).showQueue).acceptsOp op = true)
    (hst : ((s.setRadio (fun r => { r with queue := none, heldTime := false })).showQueue).judgedBy opArmRx = 1) :
    ∃ t, exec (.timedCommandDue .software) s = .next t ∧ t.on F.RAD_STATE_MOVING = true ∧ t.get F.RAD_STATE_TARGET = 2 ∧
      t.get F.RAD_CMD_STAT_Q_OCC = 0 := by
  have c1 : (s.setRadio (fun r => { r with queue := none, heldTime := false })).canonical = true := ((Keeps.refl s).setRadio _).canon c
  have hempty := State.showQueue_empty c1 rfl
  have c2 := ((Keeps.refl _).showQueue).canon c1
  obtain ⟨hmoving, htarget, hq, -⟩ := State.timedDue_armRx c2 hop haccepts hst
  refine ⟨_, ?_, hmoving, htarget, hq hempty⟩
  rw [exec_timedCommandDue, execTimedCommandDue]
  rw [hqueue, hheld]
  exact congrArg Host.Outcome.next (if_pos hdue)

theorem timedCommandDue_timeline {s : State} (c : s.canonical = true) {op : RadOp} (hslot : s.radio.tslot = some op)
    (hblock : s.radio.tBlock = none) (hop : op.opcode = opArmRx) (hdue : notBefore (addTicks s.count (s.opLead op)) op.instant = true)
    (haccepts : (s.setRadio (fun r => { r with tslot := none })).acceptsOp op = true)
    (hst : (s.setRadio (fun r => { r with tslot := none })).judgedBy opArmRx = 1) :
    ∃ t, exec (.timedCommandDue .timeline) s = .next t ∧ t.on F.RAD_STATE_MOVING = true ∧ t.get F.RAD_STATE_TARGET = 2 := by
  have c1 : (s.setRadio (fun r => { r with tslot := none })).canonical = true := ((Keeps.refl s).setRadio _).canon c
  obtain ⟨hmoving, htarget, -, -⟩ := State.timedDue_armRx c1 hop haccepts hst
  refine ⟨_, ?_, hmoving, htarget⟩
  rw [exec_timedCommandDue, execTimedCommandDue]
  rw [hslot, hblock]
  exact congrArg Host.Outcome.next (if_pos hdue)

theorem State.takeExit_of_none {s : State} (h : s.radio.follow = none) : s.takeExit = s := by
  unfold State.takeExit
  rw [h]

theorem queuedCommandEval_armRx {s : State} (c : s.canonical = true) {op : RadOp} (hslot : s.radio.tslot = none) (hqueue : s.radio.queue = some op)
    (hheld : s.radio.heldTime = false) (hop : op.opcode = opArmRx) (hblock : s.unblocked s.radio.qBlock = true)
    (haccepts : ((s.setRadio (fun r => { r with queue := none })).showQueue).acceptsOp op = true)
    (hst : ((s.setRadio (fun r => { r with queue := none })).showQueue).judgedBy opArmRx = 1) :
    ∃ t, exec .queuedCommandEval s = .next t ∧ t.on F.RAD_STATE_MOVING = true ∧ t.get F.RAD_STATE_TARGET = 2 ∧
      t.get F.RAD_CMD_STAT_Q_OCC = 0 := by
  have c1 : (s.setRadio (fun r => { r with queue := none })).canonical = true := ((Keeps.refl s).setRadio _).canon c
  have hempty := State.showQueue_empty c1 rfl
  have c2 := ((Keeps.refl _).showQueue).canon c1
  obtain ⟨hmoving, htarget, hq, hfollow⟩ := State.judge_armRx c2 hop haccepts hst
  refine ⟨_, ?_, hmoving, htarget, hq hempty⟩
  rw [exec_queuedCommandEval, execQueuedCommandEval, hslot]
  dsimp only
  rw [hqueue, hheld]
  dsimp only
  rw [if_pos hblock, State.takeExit_of_none hfollow]

end Sys2Proof.Machine
end

section
/-! SUPPORT. One bit of a register field that is set or cleared, and what a state's entry leaves of the radio (05 R122). -/

namespace Sys2Proof.Machine

theorem testBit_sub_two_pow {v n : Nat} (h : v.testBit n = true) : (v - 2 ^ n).testBit n = false := by
  rw [Nat.testBit_eq_decide_div_mod_eq, decide_eq_true_eq] at h
  have hdiv : (v - 2 ^ n) / 2 ^ n = v / 2 ^ n - 1 := by
    have := Nat.sub_mul_div v (2 ^ n) 1
    rwa [Nat.mul_one] at this
  rw [Nat.testBit_eq_decide_div_mod_eq, decide_eq_false_iff_not, hdiv]
  omega

theorem State.get_lt (s : State) (f : Field) : s.get f < 2 ^ f.width := Nat.mod_lt _ (by positivity)

/-- A bit of a field that is set. -/
theorem State.putBit_set {s : State} (c : s.canonical = true) {f : Field} {n : Nat} (hn : n < f.width) (hf : f.lo + f.width ≤ 32) :
    ((s.putBit f n true).get f).testBit n = true := by
  have hput : s.putBit f n true = s.put f (s.get f ||| 2 ^ n) := rfl
  have hlt : s.get f ||| 2 ^ n < 2 ^ f.width := Nat.or_lt_two_pow (s.get_lt f) (Nat.pow_lt_pow_right (by decide) hn)
  rw [hput, State.get_put_self c _ _ hf, Nat.mod_eq_of_lt hlt, Nat.testBit_or, Nat.testBit_two_pow_self, Bool.or_true]

/-- A bit of a field that is cleared. -/
theorem State.putBit_clear {s : State} (c : s.canonical = true) {f : Field} (n : Nat) (hf : f.lo + f.width ≤ 32) :
    ((s.putBit f n false).get f).testBit n = false := by
  have hput : s.putBit f n false = s.put f (s.get f - (if (s.get f).testBit n then 2 ^ n else 0)) := rfl
  have hlt : s.get f - (if (s.get f).testBit n then 2 ^ n else 0) < 2 ^ f.width := (Nat.sub_le _ _).trans_lt (s.get_lt f)
  rw [hput, State.get_put_self c _ _ hf, Nat.mod_eq_of_lt hlt]
  by_cases h : (s.get f).testBit n = true
  · rw [if_pos h]
    exact testBit_sub_two_pow h
  · rw [if_neg h, Nat.sub_zero]
    exact Bool.eq_false_of_not_eq_true h

theorem State.putBit_radio (s : State) (f : Field) (n : Nat) (b : Bool) : (s.putBit f n b).radio = s.radio := State.put_radio _ _ _

/-- What the entry of a state leaves of the radio: all but the wait for the synthesiser's lock and the antenna. -/
theorem State.enterState_radio (s : State) (v : Nat) :
    ∃ n, (s.enterState v).radio = { s.radio with lockWait := false, antSel := n } := by
  have quiet (t : State) : ∃ n, t.antQuiet.radio = { t.radio with antSel := n } := by
    unfold State.antQuiet
    split
    · exact ⟨_, rfl⟩
    · split <;> exact ⟨_, rfl⟩
  have hshown := Frame.pllSettle (w := 0x200000400000080) (Frame.event (Frame.flag (p := P.RAD) (n := 3) (Frame.setPageSt (p := P.RAD) (v := v)
    (Frame.put (f := F.RAD_STATE_MOVING) (v := 0) (Frame.put (f := F.RAD_STATE_STATE) (v := v) (Frame.refl _ s) (Or.inr (by decide)))
      (Or.inr (by decide))) (Or.inr (by decide))) (Or.inr (by decide))) (by decide) P.RAD 0) (by decide)
  have hradio := hshown.radio (by decide)
  unfold State.enterState
  generalize (((((s.put F.RAD_STATE_STATE v).put F.RAD_STATE_MOVING 0).setPageSt P.RAD v).flag P.RAD 3).event P.RAD 0).pllSettle = u at *
  dsimp only
  rw [← hradio]
  split
  · exact ⟨u.radio.antSel, rfl⟩
  · exact quiet { u with radio := { u.radio with lockWait := false } }

theorem State.enterState_kept (s : State) (v : Nat) :
    (s.enterState v).radio.op = s.radio.op ∧ (s.enterState v).radio.cmdNo = s.radio.cmdNo ∧ (s.enterState v).radio.cal = s.radio.cal ∧
      (s.enterState v).radio.calDone = s.radio.calDone := by
  obtain ⟨n, hradio⟩ := s.enterState_radio v
  rw [hradio]
  exact ⟨rfl, rfl, rfl, rfl⟩

end Sys2Proof.Machine
end

section
/-! SUPPORT. TRANSITION_END (05 R122, R123): ARMED_RX and RX are entered with the receiver running, and IDLE out of OFF. -/

namespace Sys2Proof.Machine

/-- A transition to a state beside OFF waits for no transmission. -/
theorem not_still_of_target {t : Nat} {p : Prop} (ht : t ≠ 0) : ¬((!true) = true ∨ t = 0 ∧ p) := by
  rintro (h | ⟨h, -⟩)
  · exact absurd h (by decide)
  · exact ht h

theorem transitionEnd_receiving {s : State} (c : s.canonical = true) (hmoving : s.on F.RAD_STATE_MOVING = true) (hstate : s.radioState ≠ 0)
    (htarget : s.get F.RAD_STATE_TARGET = 2 ∨ s.get F.RAD_STATE_TARGET = 3) (hrun : s.rxRunning = true) (hturn : s.radio.turnRx = false) :
    ∃ t, exec .transitionEnd s = .next t ∧ t.radioState = s.get F.RAD_STATE_TARGET ∧ t.on F.RAD_STATE_MOVING = false := by
  obtain ⟨hentered, hstill, -, -⟩ := State.moveFinished c (s.get F.RAD_STATE_TARGET)
  refine ⟨_, ?_, hentered.trans (Nat.mod_eq_of_lt (by omega)), by rw [State.on, hstill]; rfl⟩
  rw [exec_transitionEnd, execTransitionEnd]
  dsimp only
  rw [hmoving, hrun, hturn, if_neg (not_still_of_target (by omega)), if_neg (by omega), if_neg hstate, if_neg (by omega),
    if_neg (by omega), if_neg (by omega)]
  rfl

theorem State.scsApply_radio (s : State) : (s.scsApply false).radio = s.radio := by
  simp only [State.scsApply, State.scsRecord, State.record_radio, Bool.false_eq_true, if_false, State.put_radio]

/-- The state in which the sample clock is locked and the transmitter ready, as OFF is left. -/
def State.offLeft (s : State) : State :=
  ((if s.on F.SYN_SCS_STAT_PENDING then s.scsApply false else s).put F.SYN_SCS_STAT_LOCK 1).setPageSt P.RTX 1

theorem State.offLeft_result {s : State} (c : s.canonical = true) :
    s.offLeft.canonical = true ∧ s.offLeft.radio = s.radio ∧ s.offLeft.get F.SYN_SCS_STAT_LOCK = 1 := by
  have hframe : Frame 0x140000000010105 s (if s.on F.SYN_SCS_STAT_PENDING then s.scsApply false else s) :=
    (Frame.scsApply (Frame.refl _ s) (by decide) false).ite (Frame.refl _ s)
  have hradio : (if s.on F.SYN_SCS_STAT_PENDING then s.scsApply false else s).radio = s.radio := by
    split
    · exact s.scsApply_radio
    · rfl
  have c1 := hframe.1.canon c
  have c2 := ((Keeps.refl _).put F.SYN_SCS_STAT_LOCK 1).canon c1
  refine ⟨((Keeps.refl _).setPageSt P.RTX 1).canon c2, ?_, ?_⟩
  · unfold State.offLeft
    rw [State.setPageSt_radio, State.put_radio, hradio]
  · have hpage := ((TxAside.refl Reg.SYN_SCS_STAT ((if s.on F.SYN_SCS_STAT_PENDING then s.scsApply false else s).put
      F.SYN_SCS_STAT_LOCK 1)).setPageSt P.RTX 1 (by decide)).get c2 F.SYN_SCS_STAT_LOCK rfl
    exact hpage.trans (State.get_put_self c1 _ _ (by decide))

/-- The IDLE of software that asked for a transition is DONE at its end. -/
theorem State.finishMove_idle {s : State} (c : s.canonical = true) {o : RadOp} (hop : s.radio.op = some o) (hidle : o.opcode = opIdle)
    (hsrc : o.src = .software s.radio.cmdNo) :
    s.finishMove.radio.op = none ∧ s.finishMove.get F.RAD_CMD_STAT_STATUS = 1 ∧ s.finishMove.get F.RAD_CMD_STAT_FINAL = 1 ∧
      TxAside Reg.SYN_SCS_STAT (s.setRadio (fun r => { r with op := none })) s.finishMove := by
  have c1 : (s.setRadio (fun r => { r with op := none })).canonical = true := ((Keeps.refl s).setRadio _).canon c
  have hfinish : s.finishMove = (s.setRadio (fun r => { r with op := none })).endSrc
      (.software (s.setRadio (fun r => { r with op := none })).radio.cmdNo) 1 o.slip false false false s.count := by
    unfold State.finishMove
    rw [hop]
    dsimp only
    rw [if_pos (Or.inl hidle), hsrc]
    rfl
  have hend := (TxAside.refl Reg.SYN_SCS_STAT (s.setRadio (fun r => { r with op := none }))).endSrc (by decide)
    (.software (s.setRadio (fun r => { r with op := none })).radio.cmdNo) 1 o.slip false false false s.count
  obtain ⟨hstatus, hfinal⟩ := State.endSrc_software c1 1 o.slip false false false s.count
  rw [← hfinish] at hend hstatus hfinal
  exact ⟨hend.op, hstatus, hfinal, hend⟩

theorem transitionEnd_leavesOff {s : State} {o : RadOp} (c : s.canonical = true) (hmoving : s.on F.RAD_STATE_MOVING = true)
    (hstate : s.radioState = 0)
    (htarget : s.get F.RAD_STATE_TARGET = 1) (hmay : s.mayLeaveOff = true) (hwait : s.radio.hfxoWait = false) (hop : s.radio.op = some o)
    (hidle : o.opcode = opIdle) (hsrc : o.src = .software s.radio.cmdNo) :
    ∃ t, exec .transitionEnd s = .next t ∧ t.radioState = 1 ∧ t.on F.SYN_SCS_STAT_LOCK = true ∧ t.radio.op = none ∧
      t.get F.RAD_CMD_STAT_STATUS = 1 ∧ t.get F.RAD_CMD_STAT_FINAL = 1 := by
  obtain ⟨c1, hradio, hlock⟩ := State.offLeft_result c
  obtain ⟨hentered, -, -, -⟩ := State.moveFinished c1 1
  obtain ⟨hopKept, hnoKept, -, -⟩ := s.offLeft.enterState_kept 1
  have centered := ((Keeps.refl s.offLeft).enterState 1).canon c1
  rw [hradio] at hopKept hnoKept
  obtain ⟨hdone, hstatus, hfinal, hend⟩ := State.finishMove_idle centered (hopKept.trans hop) hidle (by rw [hsrc, hnoKept])
  have hlockKept : (s.offLeft.enterState 1).finishMove.get F.SYN_SCS_STAT_LOCK = 1 :=
    (hend.get (((Keeps.refl _).setRadio _).canon centered) _ rfl).trans
      ((((TxAside.refl Reg.SYN_SCS_STAT s.offLeft).enterState 1 (by decide)).get c1 _ rfl).trans hlock)
  refine ⟨_, ?_, hentered, by rw [State.on, hlockKept]; rfl, hdone, hstatus, hfinal⟩
  rw [exec_transitionEnd, execTransitionEnd]
  dsimp only
  rw [hmoving, htarget, hmay, hwait, if_neg (not_still_of_target (by decide)), if_neg (by decide), if_pos hstate]
  rfl

end Sys2Proof.Machine
end

section
/-! SUPPORT. CAL_STEP_DONE and AUTO_CAL_START (05 R138, R139): a step's result, the end of a calibration, and one that an idle gap starts. -/

namespace Sys2Proof.Machine

/-- The state in which the result of step `n` shows. -/
def State.calStepShown (s : State) (n : Nat) (hp : Half) (dev : Byte) : State :=
  let s1 := ((s.putBit F.RAD_CAL_STAT_VALID n true).putBit F.RAD_CAL_STAT_INCOMPLETE n false).put F.RAD_CAL_STAT_LAST_TEMP (s.get F.TSN_LIVE_TEMP)
  if n = 3 then (s1.put F.SYN_CRS_TPM_HP_GAIN hp.toNat).put F.SYN_CRS_TPM_DEV_ERR dev.toNat else s1

/-- What the result of step `n` shows. -/
structure CalStepShown (s : State) (n : Nat) (hp : Half) (dev : Byte) (t : State) : Prop where
  canonical : t.canonical = true
  radio : t.radio = s.radio
  valid : (t.get F.RAD_CAL_STAT_VALID).testBit n = true
  incomplete : (t.get F.RAD_CAL_STAT_INCOMPLETE).testBit n = false
  temp : t.get F.RAD_CAL_STAT_LAST_TEMP = s.get F.TSN_LIVE_TEMP
  gain : n = 3 → t.get F.SYN_CRS_TPM_HP_GAIN = hp.toNat ∧ t.get F.SYN_CRS_TPM_DEV_ERR = dev.toNat

theorem State.calStepShown_result {s : State} (c : s.canonical = true) {n : Nat} (hn : n < 6) (hp : Half) (dev : Byte) :
    CalStepShown s n hp dev (s.calStepShown n hp dev) := by
  have c1 : (s.putBit F.RAD_CAL_STAT_VALID n true).canonical = true := ((Keeps.refl s).putBit _ _ _).canon c
  have c2 := ((Keeps.refl _).putBit F.RAD_CAL_STAT_INCOMPLETE n false).canon c1
  have c3 := ((Keeps.refl _).put F.RAD_CAL_STAT_LAST_TEMP (s.get F.TSN_LIVE_TEMP)).canon c2
  have hvalid : ((((s.putBit F.RAD_CAL_STAT_VALID n true).putBit F.RAD_CAL_STAT_INCOMPLETE n false).put F.RAD_CAL_STAT_LAST_TEMP
      (s.get F.TSN_LIVE_TEMP)).get F.RAD_CAL_STAT_VALID).testBit n = true := by
    rw [State.get_put_other c2 _ _ _ (by decide) (by decide), State.putBit, State.get_put_other c1 _ _ _ (by decide) (by decide)]
    exact State.putBit_set c hn (by decide)
  have hincomplete : ((((s.putBit F.RAD_CAL_STAT_VALID n true).putBit F.RAD_CAL_STAT_INCOMPLETE n false).put F.RAD_CAL_STAT_LAST_TEMP
      (s.get F.TSN_LIVE_TEMP)).get F.RAD_CAL_STAT_INCOMPLETE).testBit n = false := by
    rw [State.get_put_other c2 _ _ _ (by decide) (by decide)]
    exact State.putBit_clear c1 n (by decide)
  have htemp := (State.get_put_self c2 F.RAD_CAL_STAT_LAST_TEMP (s.get F.TSN_LIVE_TEMP) (by decide)).trans
    (Nat.mod_eq_of_lt (s.get_lt F.TSN_LIVE_TEMP))
  have hradio : (((s.putBit F.RAD_CAL_STAT_VALID n true).putBit F.RAD_CAL_STAT_INCOMPLETE n false).put F.RAD_CAL_STAT_LAST_TEMP
      (s.get F.TSN_LIVE_TEMP)).radio = s.radio := by
    rw [State.put_radio, State.putBit_radio, State.putBit_radio]
  unfold State.calStepShown
  dsimp only
  generalize ((s.putBit F.RAD_CAL_STAT_VALID n true).putBit F.RAD_CAL_STAT_INCOMPLETE n false).put F.RAD_CAL_STAT_LAST_TEMP
    (s.get F.TSN_LIVE_TEMP) = u at *
  by_cases h3 : n = 3
  · rw [if_pos h3]
    have c4 := ((Keeps.refl u).put F.SYN_CRS_TPM_HP_GAIN hp.toNat).canon c3
    have hkept (f : Field) (hf : f.addr = Reg.RAD_CAL_STAT) :
        ((u.put F.SYN_CRS_TPM_HP_GAIN hp.toNat).put F.SYN_CRS_TPM_DEV_ERR dev.toNat).get f = u.get f :=
      (((TxAside.refl Reg.RAD_CAL_STAT u).put _ (by decide)).put _ (by decide)).get c3 f hf
    refine ⟨((Keeps.refl _).put _ _).canon c4, by rw [State.put_radio, State.put_radio, hradio], by rw [hkept _ rfl]; exact hvalid,
      by rw [hkept _ rfl]; exact hincomplete, (hkept _ rfl).trans htemp, fun _ => ⟨?_, ?_⟩⟩
    · rw [State.get_put_other c4 _ _ _ (by decide) (by decide), State.get_put_self c3 _ _ (by decide)]
      exact Nat.mod_eq_of_lt hp.isLt
    · rw [State.get_put_self c4 _ _ (by decide)]
      exact Nat.mod_eq_of_lt dev.isLt
  · rw [if_neg h3]
    exact ⟨c3, hradio, hvalid, hincomplete, htemp, fun h => absurd h h3⟩

/-- The first bit of a calibration's steps is one of the six, and is set. -/
theorem calStep_of_find {steps n : Nat} (h : (List.range 6).find? steps.testBit = some n) : n < 6 ∧ steps.testBit n = true :=
  ⟨List.mem_range.mp (List.mem_of_find?_eq_some h), List.find?_some h⟩

theorem calStepDone_more {s : State} (c : s.canonical = true) {run : CalRun} {n : Nat} (hp : Half) (dev : Byte) (hstate : s.radioState = 6)
    (hcal : s.radio.cal = some run) (hfind : (List.range 6).find? run.steps.testBit = some n) (hmore : run.steps ≠ 2 ^ n) :
    ∃ t, exec (.calStepDone hp dev) s = .next t ∧ (t.get F.RAD_CAL_STAT_VALID).testBit n = true ∧
      (t.get F.RAD_CAL_STAT_INCOMPLETE).testBit n = false ∧ t.get F.RAD_CAL_STAT_LAST_TEMP = s.get F.TSN_LIVE_TEMP ∧
      t.radio = { s.radio with cal := some { run with steps := run.steps - 2 ^ n } } := by
  obtain ⟨hn, hbit⟩ := calStep_of_find hfind
  have hleft : run.steps - 2 ^ n ≠ 0 := by
    have := Nat.ge_two_pow_of_testBit hbit
    omega
  obtain ⟨-, hradio, hvalid, hincomplete, htemp, -⟩ := State.calStepShown_result c hn hp dev
  refine ⟨(s.calStepShown n hp dev).setRadio (fun r => { r with cal := some { run with steps := run.steps - 2 ^ n } }), ?_, hvalid, hincomplete,
    htemp, by rw [State.setRadio, hradio]⟩
  rw [exec_calStepDone, execCalStepDone, hcal]
  dsimp only
  rw [if_neg (fun h => h hstate), hfind]
  exact congrArg Host.Outcome.next (if_pos hleft)

/-- The state in which the calibration is over, and DUE says whether steps are left to be run again. -/
def State.calShownOver (s : State) : State :=
  let s3 := (s.setRadio (fun r => { r with cal := none, calDone := true })).put F.RAD_CAL_STAT_RUNNING 0
  s3.put F.RAD_CAL_STAT_DUE (boolNat (s3.get F.RAD_CAL_STAT_INCOMPLETE != 0))

/-- The calibration's source is told that it is DONE. -/
def State.calAnswered (s : State) (src : OpSrc) : State :=
  match src with
  | .internal => s
  | src => (s.setRadio (fun r => { r with op := none })).endPlain src 1

theorem State.calShownOver_result {s : State} (c : s.canonical = true) :
    s.calShownOver.canonical = true ∧ s.calShownOver.get F.RAD_CAL_STAT_RUNNING = 0 ∧
      s.calShownOver.get F.RAD_CAL_STAT_DUE = boolNat (s.calShownOver.get F.RAD_CAL_STAT_INCOMPLETE != 0) ∧
      s.calShownOver.get F.RAD_CAL_STAT_VALID = s.get F.RAD_CAL_STAT_VALID ∧ s.calShownOver.reg Reg.SYN_CRS_TPM = s.reg Reg.SYN_CRS_TPM ∧
      s.calShownOver.radio = { s.radio with cal := none, calDone := true } := by
  have c1 : (s.setRadio (fun r => { r with cal := none, calDone := true })).canonical = true := ((Keeps.refl s).setRadio _).canon c
  have c2 := ((Keeps.refl _).put F.RAD_CAL_STAT_RUNNING 0).canon c1
  have hreg (x : Nat) : (s.setRadio (fun r => { r with cal := none, calDone := true })).reg x = s.reg x := rfl
  have hradio : (s.setRadio (fun r => { r with cal := none, calDone := true })).radio = { s.radio with cal := none, calDone := true } := rfl
  unfold State.calShownOver
  dsimp only
  generalize s.setRadio (fun r => { r with cal := none, calDone := true }) = u at *
  have other (f : Field) (hf : f.addr ≠ F.RAD_CAL_STAT_DUE.addr ∨ f.lo + f.width ≤ F.RAD_CAL_STAT_DUE.lo ∨
      F.RAD_CAL_STAT_DUE.lo + F.RAD_CAL_STAT_DUE.width ≤ f.lo) (v : Nat) :=
    State.get_put_other c2 F.RAD_CAL_STAT_DUE f v (by decide) hf
  refine ⟨((Keeps.refl _).put _ _).canon c2, ?_, ?_, ?_, ?_, ?_⟩
  · rw [other _ (by decide), State.get_put_self c1 _ _ (by decide)]
    rfl
  · rw [State.get_put_self c2 _ _ (by decide), other _ (by decide)]
    cases ((u.put F.RAD_CAL_STAT_RUNNING 0).get F.RAD_CAL_STAT_INCOMPLETE != 0) <;> rfl
  · rw [other _ (by decide), State.get_put_other c1 _ _ _ (by decide) (by decide), State.get, State.get, hreg]
  · rw [(((TxAside.refl Reg.SYN_CRS_TPM u).put _ (by decide)).put _ (by decide)).reg c1, hreg]
  · rw [State.put_radio, State.put_radio, hradio]

theorem State.calAnswered_kept {s : State} (c : s.canonical = true) (src : OpSrc) :
    (s.calAnswered src).radio.cal = s.radio.cal ∧ (s.calAnswered src).radio.calDone = s.radio.calDone ∧
      ∀ x, x ∉ statusRegs → (s.calAnswered src).reg x = s.reg x := by
  have ended (src : OpSrc) : ((s.setRadio (fun r => { r with op := none })).endPlain src 1).radio.cal = s.radio.cal ∧
      ((s.setRadio (fun r => { r with op := none })).endPlain src 1).radio.calDone = s.radio.calDone ∧
      ∀ x, x ∉ statusRegs → ((s.setRadio (fun r => { r with op := none })).endPlain src 1).reg x = s.reg x := by
    obtain ⟨-, y, hradio⟩ := ResultMoved.endSrc (s.setRadio (fun r => { r with op := none })) src 1 false false false false s.count
    have hcal := congrArg Radio.cal hradio
    have hdone := congrArg Radio.calDone hradio
    exact ⟨hcal, hdone, fun x hx => ((TxAside.refl x (s.setRadio (fun r => { r with op := none }))).endPlain hx src 1).reg
      (((Keeps.refl s).setRadio _).canon c)⟩
  cases src with
  | internal => exact ⟨rfl, rfl, fun _ _ => rfl⟩
  | software n => exact ended _
  | entry i => exact ended _

theorem calStepDone_last {s : State} (c : s.canonical = true) {run : CalRun} {n : Nat} (hp : Half) (dev : Byte) (hstate : s.radioState = 6)
    (hcal : s.radio.cal = some run) (hfind : (List.range 6).find? run.steps.testBit = some n) (hlast : run.steps = 2 ^ n) :
    ∃ t, exec (.calStepDone hp dev) s = .next t ∧ t.radioState = 1 ∧ t.on F.RAD_CAL_STAT_RUNNING = false ∧ t.radio.cal = none ∧
      t.radio.calDone = true ∧ t.get F.RAD_CAL_STAT_DUE = boolNat (t.get F.RAD_CAL_STAT_INCOMPLETE != 0) ∧
      (t.get F.RAD_CAL_STAT_VALID).testBit n = true ∧
      (n = 3 → t.get F.SYN_CRS_TPM_HP_GAIN = hp.toNat ∧ t.get F.SYN_CRS_TPM_DEV_ERR = dev.toNat) := by
  obtain ⟨hn, hbit⟩ := calStep_of_find hfind
  obtain ⟨c2, -, hvalid, -, -, hgain⟩ := State.calStepShown_result c hn hp dev
  have hexec : exec (.calStepDone hp dev) s = .next ((((s.calStepShown n hp dev).calShownOver).enterState 1).calAnswered run.src) := by
    rw [exec_calStepDone, execCalStepDone, hcal]
    dsimp only
    rw [if_neg (fun h => h hstate), hfind]
    dsimp only
    rw [if_neg (by omega)]
    cases run.src <;> rfl
  refine ⟨_, hexec, ?_⟩
  generalize s.calStepShown n hp dev = u at *
  obtain ⟨c4, hrunning, hdue, hvalidKept, htpm, hradio⟩ := State.calShownOver_result c2
  obtain ⟨hentered, -, -⟩ := State.enterState_state c4 1
  obtain ⟨-, -, hcalKept, hdoneKept⟩ := u.calShownOver.enterState_kept 1
  have c5 := ((Keeps.refl u.calShownOver).enterState 1).canon c4
  obtain ⟨hcalEnd, hdoneEnd, hregEnd⟩ := State.calAnswered_kept c5 run.src
  have hreg (x : Nat) (h1 : x ∉ stateRegs) (h2 : x ∉ statusRegs) :
      (((u.calShownOver).enterState 1).calAnswered run.src).reg x = u.calShownOver.reg x :=
    (hregEnd x h2).trans (((TxAside.refl x u.calShownOver).enterState 1 h1).reg c4)
  have hget (f : Field) (hf : f.addr = Reg.RAD_CAL_STAT) : (((u.calShownOver).enterState 1).calAnswered run.src).get f = u.calShownOver.get f := by
    rw [State.get, State.get, hf, hreg _ (by decide) (by decide)]
  have hgetTpm (f : Field) (hf : f.addr = Reg.SYN_CRS_TPM) : (((u.calShownOver).enterState 1).calAnswered run.src).get f = u.get f := by
    rw [State.get, State.get, hf, hreg _ (by decide) (by decide), htpm]
  refine ⟨?_, ?_, ?_, ?_, ?_, ?_, fun h3 => ?_⟩
  · have hstateKept : (((u.calShownOver).enterState 1).calAnswered run.src).radioState = ((u.calShownOver).enterState 1).radioState := by
      unfold State.radioState State.get
      rw [hregEnd _ (by decide)]
    exact hstateKept.trans hentered
  · rw [State.on, hget _ rfl, hrunning]
    rfl
  · rw [hcalEnd, hcalKept, hradio]
  · rw [hdoneEnd, hdoneKept, hradio]
  · rw [hget _ rfl, hget _ rfl, hdue]
  · rw [hget _ rfl, hvalidKept]
    exact hvalid
  · rw [hgetTpm _ rfl, hgetTpm _ rfl]
    exact hgain h3

/-- The calibration of an idle radio. -/
theorem State.calStart_idle {s : State} (c : s.canonical = true) (hstate : s.radioState = 1) (hstill : s.on F.RAD_STATE_MOVING = false) (mask : Nat)
    (src : OpSrc) :
    (s.calStart mask src).radioState = 6 ∧ (s.calStart mask src).on F.RAD_CAL_STAT_RUNNING = true ∧
      (s.calStart mask src).radio.cal = some ⟨mask % 64, src⟩ := by
  have hcal : s.calStart mask src = (s.setRadio (fun r => { r with cal := some ⟨mask % 64, src⟩, follow := none })).calEnter :=
    if_pos ⟨hstate, by
      have : (s.setRadio (fun r => { r with cal := some ⟨mask % 64, src⟩, follow := none })).on F.RAD_STATE_MOVING = false := hstill
      simp [this]⟩
  have c1 : (s.setRadio (fun r => { r with cal := some ⟨mask % 64, src⟩, follow := none })).canonical = true :=
    ((Keeps.refl s).setRadio _).canon c
  have hset : (s.setRadio (fun r => { r with cal := some ⟨mask % 64, src⟩, follow := none })).radio.cal = some ⟨mask % 64, src⟩ := rfl
  have stop (t : State) : t.crsStop.radio = t.radio := by
    unfold State.crsStop
    split
    · rfl
    · simp only [State.put_radio]
  rw [hcal]
  generalize s.setRadio (fun r => { r with cal := some ⟨mask % 64, src⟩, follow := none }) = u at *
  have c2 := (Keeps.refl u).crsStop.canon c1
  have c3 := ((Keeps.refl _).put F.RAD_CAL_STAT_RUNNING 1).canon c2
  obtain ⟨hentered, -, -⟩ := State.enterState_state c3 6
  obtain ⟨-, -, hcalKept, -⟩ := (u.crsStop.put F.RAD_CAL_STAT_RUNNING 1).enterState_kept 6
  have hrunning := ((TxAside.refl Reg.RAD_CAL_STAT (u.crsStop.put F.RAD_CAL_STAT_RUNNING 1)).enterState 6 (by decide)).get c3
    F.RAD_CAL_STAT_RUNNING rfl
  refine ⟨hentered, ?_, ?_⟩
  · unfold State.on State.calEnter
    rw [hrunning, State.get_put_self c2 _ _ (by decide)]
    rfl
  · unfold State.calEnter
    rw [hcalKept, State.put_radio, stop, hset]

/-- The steps that an idle gap runs (05 R139). -/
def State.dueSteps (s : State) : Nat :=
  (if s.on F.RAD_CAL_CFG_AUTO_CAL || s.on F.RAD_CAL_CFG_RERUN then s.get F.RAD_CAL_STAT_INCOMPLETE else 0) |||
    (if s.on F.RAD_CAL_CFG_AUTO_CAL && (!s.radio.calDone || s.tempMoved s.radio.rcpTemp) then s.get F.RAD_CAL_CFG_STEPS else 0)

theorem autoCalStart_gap {s : State} (c : s.canonical = true) (hdue : s.on F.RAD_CAL_STAT_DUE = true) (hstate : s.radioState = 1)
    (hstill : s.on F.RAD_STATE_MOVING = false) (hqueue : s.radio.queue = none) (hslot : s.radio.tslot = none) (hop : s.radio.op = none)
    (hclock : s.radioClock = true) (hen : s.enabled P.RAD = true) (hsteps : s.dueSteps ≠ 0)
    (hgap : s.entryDueWithin (calDur s.dueSteps + 10) = false) :
    ∃ t, exec .autoCalStart s = .next t ∧ t.radioState = 6 ∧ t.on F.RAD_CAL_STAT_RUNNING = true ∧
      t.radio.cal = some (⟨s.dueSteps % 64, .internal⟩ : CalRun) := by
  refine ⟨_, ?_, State.calStart_idle c hstate hstill s.dueSteps .internal⟩
  rw [exec_autoCalStart, execAutoCalStart]
  refine congrArg Host.Outcome.next (if_pos ⟨hdue, hstate, by rw [hstill]; decide, by rw [hqueue]; rfl, by rw [hslot]; rfl, by rw [hop]; rfl,
    hsteps, fun h => ?_, hclock, hen⟩)
  exact absurd (hgap.symm.trans h) (by decide)

/-- Settles O11: a waiting ARM_RX is judged like one that is written, a transition enters its state, and a calibration runs its steps. -/
theorem radioStateEventsComplete : Obligations.RadioStateEventsComplete := by
  unfold Obligations.RadioStateEventsComplete
  refine ⟨?due, ?dueEntry, ?queued, ?receiving, ?leavesOff, ?step, ?last, ?rerun, ?auto⟩
  case due =>
    intro s op c hqueue hheld hop hdue haccepts hst
    exact timedCommandDue_software c hqueue hheld hop hdue haccepts hst
  case dueEntry =>
    intro s op c hslot hblock hop hdue haccepts hst
    exact timedCommandDue_timeline c hslot hblock hop hdue haccepts hst
  case queued =>
    intro s op c hslot hqueue hheld hop hblock haccepts hst
    exact queuedCommandEval_armRx c hslot hqueue hheld hop hblock haccepts hst
  case receiving =>
    intro s c hmoving hstate htarget hrun hturn
    exact transitionEnd_receiving c hmoving hstate htarget hrun hturn
  case leavesOff =>
    intro s o c hmoving hstate htarget hmay hwait hop hidle hsrc
    exact transitionEnd_leavesOff c hmoving hstate htarget hmay hwait hop hidle hsrc
  case step =>
    intro s hp dev run n c hstate hcal hfind hmore
    exact calStepDone_more c hp dev hstate hcal hfind hmore
  case last =>
    intro s hp dev run n c hstate hcal hfind hlast
    exact calStepDone_last c hp dev hstate hcal hfind hlast
  case rerun =>
    intro s c hdue hstate hstill hqueue hslot hop hclock hen hrerun hauto hinc hgap
    have hsteps : s.dueSteps = s.get F.RAD_CAL_STAT_INCOMPLETE := by
      unfold State.dueSteps
      rw [hauto, hrerun]
      exact Nat.or_zero _
    have hstart := autoCalStart_gap c hdue hstate hstill hqueue hslot hop hclock hen (by rw [hsteps]; exact hinc) (by rw [hsteps]; exact hgap)
    rwa [hsteps] at hstart
  case auto =>
    intro s c hdue hstate hstill hqueue hslot hop hclock hen hauto hfresh hcfg hgap hinc
    have hsteps : s.dueSteps = 63 := by
      have hor : ∀ m ≤ 63, m ||| 63 = 63 := by decide
      unfold State.dueSteps
      rw [hauto, hfresh, hcfg]
      exact hor _ hinc
    have hstart := autoCalStart_gap c hdue hstate hstill hqueue hslot hop hclock hen (by rw [hsteps]; decide) (by rw [hsteps]; exact hgap)
    rwa [hsteps] at hstart

end Sys2Proof.Machine
end

section
/-! SUPPORT. The bits that a write of a register stores (02 R39, R53). -/

namespace Sys2Proof.Machine

theorem testBit_bitsOf (n lo k i : Nat) : (bitsOf n lo k).testBit i = (decide (i < k) && n.testBit (lo + i)) := by
  unfold bitsOf
  rw [Nat.testBit_mod_two_pow, Nat.testBit_div_two_pow]
  congr 2
  omega

/-- The bits of a store that its row lets through are those of the word. -/
theorem bitsOf_maskStore {old w : Word} {rw w1c lo k : Nat} (h : lo + k ≤ 32) (hrw : ∀ i < k, rw.testBit (lo + i) = true)
    (hw1c : ∀ i < k, w1c.testBit (lo + i) = false) : bitsOf (maskStore old w rw w1c).toNat lo k = bitsOf w.toNat lo k := by
  apply Nat.eq_of_testBit_eq
  intro i
  rw [testBit_bitsOf, testBit_bitsOf]
  by_cases hi : i < k
  · have hlt : lo + i < 32 := by omega
    have hbit : (maskStore old w rw w1c).getLsbD (lo + i) = w.getLsbD (lo + i) := by
      have hset : (BitVec.ofNat 32 rw).getLsbD (lo + i) = true := by simp [BitVec.getLsbD_ofNat, hlt, hrw i hi]
      have hclear : (BitVec.ofNat 32 w1c).getLsbD (lo + i) = false := by simp [BitVec.getLsbD_ofNat, hw1c i hi]
      unfold maskStore
      simp only [BitVec.getLsbD_and, BitVec.getLsbD_or, BitVec.getLsbD_not, hset, hclear]
      simp [hlt]
    rw [BitVec.testBit_toNat, BitVec.testBit_toNat, hbit]
  · simp [hi]

/-- A register that all initiators share holds what a write stores. -/
theorem State.storeReg_stored {s : State} (c : s.canonical = true) (i : Initiator) {p off : Nat} {r : RegRow} (w : Word) (hper : r.per = false)
    (hp : pageAddr p off ≠ Reg.PAGE_STAT p) :
    (s.storeReg i p off r w).reg (pageAddr p off) = maskStore (s.regRaw i p off) w r.rw r.w1c := by
  have changed {a t : State} (g : TxAside (pageAddr p off) a t) : TxAside (pageAddr p off) a (t.cfgChange p) := by
    unfold State.cfgChange
    split
    · exact TxAside.put (g.same ((Keeps.refl t).setPage p _) rfl rfl rfl) 1 hp
    · exact g
  have noted {a t : State} (g : TxAside (pageAddr p off) a t) : TxAside (pageAddr p off) a (t.recCfg (pageAddr p off)) := by
    unfold State.recCfg
    exact (g.record _ _ _).ite g
  have c1 : (s.setReg (pageAddr p off) (maskStore (s.regRaw i p off) w r.rw r.w1c)).canonical = true := ((Keeps.refl s).setReg _ _).canon c
  have hset := TxAside.refl (pageAddr p off) (s.setReg (pageAddr p off) (maskStore (s.regRaw i p off) w r.rw r.w1c))
  have hstore : s.storeReg i p off r w = (if s.isConfig p off && maskStore (s.regRaw i p off) w r.rw r.w1c != s.regRaw i p off
      then (s.setReg (pageAddr p off) (maskStore (s.regRaw i p off) w r.rw r.w1c)).cfgChange p
      else s.setReg (pageAddr p off) (maskStore (s.regRaw i p off) w r.rw r.w1c)).recCfg (pageAddr p off) := by
    unfold State.storeReg
    dsimp only
    rw [hper, if_neg Bool.false_ne_true]
  rw [hstore, (noted ((changed hset).ite hset)).reg c1, State.reg_setReg c, if_pos rfl]

end Sys2Proof.Machine
end

section
/-! SUPPORT. The clocks (18 R416 to R420): a choice that is written, a switch, and the oscillators. -/

namespace Sys2Proof.Machine

namespace Reads

variable {f : Field} {v : Nat} {a s : State}

theorem flag (h : Reads f v a s) (p n : Nat) (hf : f.addr ≠ Reg.IRQ_RAW p) : Reads f v a (s.flag p n) :=
  h.aside ((TxAside.refl f.addr s).flag p n hf) rfl

theorem setPageSt (h : Reads f v a s) (p n : Nat) (hf : f.addr ≠ Reg.PAGE_STAT p) : Reads f v a (s.setPageSt p n) :=
  h.aside ((TxAside.refl f.addr s).setPageSt p n hf) rfl

theorem setPwr (h : Reads f v a s) (g : Pwr → Pwr) : Reads f v a (s.setPwr g) := h.same ((Keeps.refl s).setPwr g) rfl

theorem pllSettle (h : Reads f v a s) (hf : f.addr ≠ Reg.CLK_STAT ∨ 3 ≤ f.lo) : Reads f v a s.pllSettle := by
  unfold State.pllSettle
  exact (h.put (g := F.CLK_STAT_PLL_LOCK) 0 (by decide) (hf.imp id Or.inr)).ite h

/-- A settled clock shows which sources run, and nothing else. -/
theorem clkSettle (h : Reads f v a s) (hf : f.addr ≠ Reg.CLK_STAT ∨ 3 ≤ f.lo) : Reads f v a s.clkSettle := by
  unfold State.clkSettle
  exact (h.pllSettle hf).put (g := F.CLK_STAT_HFRC_OK) _ (by decide) (hf.imp id (fun hlo => Or.inr ((by decide : 0 + 1 ≤ 3).trans hlo)))

end Reads

/-- The row of CLK.CFG. -/
def clkCfgRow : RegRow := ⟨0x100, 1, 4, 0x300, 0x1F33, 0, 0, true, false⟩

/-- The write of CLK.CFG that is taken. -/
theorem State.clkCfg_write {s : State} {i : Initiator} {w : Word} {r : RegRow} (h : s.takes i P.CLK 0x100 w r = true) :
    s.busWrite i Reg.CLK_CFG w = ((s.storeReg i P.CLK 0x100 clkCfgRow w).clkEffect).answer i 0 .ok := by
  have hrow : r = clkCfgRow := by
    unfold State.takes at h
    simp only [Bool.and_eq_true, decide_eq_true_eq] at h
    obtain ⟨⟨-, hr⟩, -⟩ := h
    have hclk : rowOf P.CLK 0x100 = some clkCfgRow := by decide
    exact Option.some.inj (hr.symm.trans hclk)
  have hfit : s.fitWord P.CLK 0x100 w = w := by
    unfold State.fitWord
    rw [if_neg (by decide), if_neg (fun h => absurd h.1 (by decide))]
  have hpost (t : State) (old : Word) : t.postWrite i P.CLK 0x100 old w = t.clkEffect := by
    unfold State.postWrite
    simp [P.SYS, P.PWR, P.CLK]
  have hwrite := State.busWrite_takes (p := P.CLK) (off := 0x100) (by decide) (by decide) (by decide) h
  rwa [hfit, hpost, hrow] at hwrite

/-- Whether the clock in force is the one that CLK.CFG asks for. -/
def State.clkInForce (s : State) : Bool :=
  s.get F.CLK_CFG_SYS_SRC == s.get F.CLK_STAT_SRC_ACTIVE && s.get F.CLK_CFG_SYS_DIV == s.get F.CLK_STAT_DIV_ACTIVE

theorem State.clkEffect_result {s : State} (c : s.canonical = true) (hen : s.enabled P.CLK = true) :
    s.clkEffect.get F.CLK_CFG_SYS_SRC = s.get F.CLK_CFG_SYS_SRC ∧ s.clkEffect.get F.CLK_CFG_SYS_DIV = s.get F.CLK_CFG_SYS_DIV ∧
      s.clkEffect.get F.CLK_STAT_SWITCHING = boolNat (!s.clkInForce) ∧ s.clkEffect.get F.CLK_STAT_SRC_ACTIVE = s.get F.CLK_STAT_SRC_ACTIVE := by
  have rest {f : Field} {v : Nat} {a t : State} (g : Reads f v a t) (n : Nat)
      (hf : f.addr ≠ Reg.PAGE_STAT P.CLK ∧ f.addr ≠ Reg.TMB_STAT ∧ (f.addr ≠ Reg.CLK_STAT ∨ 5 ≤ f.lo)) :
      Reads f v a (let s1 := t.setPageSt P.CLK n
        let s2 := if s1.on F.CLK_CFG_LFXO_EN then s1
          else ((s1.put F.CLK_STAT_LFXO_OK 0).put F.CLK_STAT_LF_SRC 0).put F.TMB_STAT_SLOW_SRC 0
        s2.clkSettle) := by
    obtain ⟨hpage, htmb, hclk⟩ := hf
    have hshown := g.setPageSt P.CLK n hpage
    refine (hshown.ite ?_).clkSettle (hclk.imp id (fun hlo => (by decide : 3 ≤ 5).trans hlo))
    refine ((hshown.put (g := F.CLK_STAT_LFXO_OK) 0 (by decide) ?_).put (g := F.CLK_STAT_LF_SRC) 0 (by decide) ?_).put (g := F.TMB_STAT_SLOW_SRC) 0
      (by decide) (Or.inl htmb)
    · exact hclk.imp id (fun hlo => Or.inr ((by decide : 3 + 1 ≤ 5).trans hlo))
    · exact hclk.imp id (fun hlo => Or.inr ((by decide : 4 + 1 ≤ 5).trans hlo))
  have heffect : s.clkEffect = (let s1 := (s.put F.CLK_STAT_SWITCHING (boolNat (!s.clkInForce))).setPageSt P.CLK (boolNat (!s.clkInForce))
      let s2 := if s1.on F.CLK_CFG_LFXO_EN then s1
        else ((s1.put F.CLK_STAT_LFXO_OK 0).put F.CLK_STAT_LF_SRC 0).put F.TMB_STAT_SLOW_SRC 0
      s2.clkSettle) := by
    unfold State.clkEffect
    rw [hen, Bool.not_true, if_neg Bool.false_ne_true]
    rfl
  have other (f : Field) (hd : f.addr ≠ Reg.CLK_STAT ∨ f.lo + f.width ≤ 5 ∨ 6 ≤ f.lo)
      (hf : f.addr ≠ Reg.PAGE_STAT P.CLK ∧ f.addr ≠ Reg.TMB_STAT ∧ (f.addr ≠ Reg.CLK_STAT ∨ 5 ≤ f.lo)) : s.clkEffect.get f = s.get f := by
    rw [heffect]
    exact (rest ((Reads.refl f (s.get f) s).put (g := F.CLK_STAT_SWITCHING) _ (by decide) hd) _ hf).get c rfl
  refine ⟨other _ (by decide) (by decide), other _ (by decide) (by decide), ?_, other _ (by decide) (by decide)⟩
  have c1 : (s.put F.CLK_STAT_SWITCHING (boolNat (!s.clkInForce))).canonical = true := ((Keeps.refl s).put _ _).canon c
  have hself : (s.put F.CLK_STAT_SWITCHING (boolNat (!s.clkInForce))).get F.CLK_STAT_SWITCHING = boolNat (!s.clkInForce) := by
    rw [State.get_put_self c _ _ (by decide)]
    cases s.clkInForce <;> rfl
  rw [heffect]
  exact (rest (Reads.refl F.CLK_STAT_SWITCHING _ _) _ (by decide)).get c1 hself

end Sys2Proof.Machine
end

section
/-! SUPPORT. The clock rows but the loss of a monitored HFXO (18 R416 to R420). -/

namespace Sys2Proof.Machine

theorem clkCfgWrite_taken {s : State} {i : Initiator} {w : Word} {r : RegRow} (h : s.takes i P.CLK 0x100 w r = true) (c : s.canonical = true)
    (hen : s.enabled P.CLK = true) :
    ∃ t, exec (.clkCfgWrite i w) s = .next t ∧ t.get F.CLK_CFG_SYS_SRC = w.toNat % 4 ∧ t.get F.CLK_CFG_SYS_DIV = bitsOf w.toNat 4 2 ∧
      t.on F.CLK_STAT_SWITCHING = !(w.toNat % 4 == s.get F.CLK_STAT_SRC_ACTIVE && bitsOf w.toNat 4 2 == s.get F.CLK_STAT_DIV_ACTIVE) ∧
      t.get F.CLK_STAT_SRC_ACTIVE = s.get F.CLK_STAT_SRC_ACTIVE := by
  have c1 : (s.storeReg i P.CLK 0x100 clkCfgRow w).canonical = true := ((Keeps.refl s).storeReg _ _ _ _ _).canon c
  have hstored := State.storeReg_stored c i (p := P.CLK) (off := 0x100) (r := clkCfgRow) w rfl (by decide)
  have hsrc : (s.storeReg i P.CLK 0x100 clkCfgRow w).get F.CLK_CFG_SYS_SRC = w.toNat % 4 := by
    have hbits := bitsOf_maskStore (old := s.regRaw i P.CLK 0x100) (w := w) (rw := clkCfgRow.rw) (w1c := clkCfgRow.w1c) (lo := 0) (k := 2)
      (by decide) (by decide) (by decide)
    rw [← hstored] at hbits
    exact hbits.trans (congrArg (· % 4) (Nat.div_one _))
  have hdiv : (s.storeReg i P.CLK 0x100 clkCfgRow w).get F.CLK_CFG_SYS_DIV = bitsOf w.toNat 4 2 := by
    have hbits := bitsOf_maskStore (old := s.regRaw i P.CLK 0x100) (w := w) (rw := clkCfgRow.rw) (w1c := clkCfgRow.w1c) (lo := 4) (k := 2)
      (by decide) (by decide) (by decide)
    rw [← hstored] at hbits
    exact hbits
  have kept (f : Field) (h1 : f.addr ≠ pageAddr P.CLK 0x100) (h2 : f.addr ≠ Reg.PAGE_STAT P.CLK) :
      (s.storeReg i P.CLK 0x100 clkCfgRow w).get f = s.get f :=
    ((TxAside.refl f.addr s).storeReg i P.CLK 0x100 clkCfgRow w h1 h2).get c f rfl
  have hactive := kept F.CLK_STAT_SRC_ACTIVE (by decide) (by decide)
  have hdivActive := kept F.CLK_STAT_DIV_ACTIVE (by decide) (by decide)
  have hen1 : (s.storeReg i P.CLK 0x100 clkCfgRow w).enabled P.CLK = true := by
    unfold State.enabled State.on
    rw [kept (F.PAGE_CTRL_ENABLE P.CLK) (by decide) (by decide)]
    exact hen
  refine ⟨_, (exec_clkCfgWrite i w s).trans (congrArg Host.Outcome.next (State.clkCfg_write h)), ?_⟩
  generalize s.storeReg i P.CLK 0x100 clkCfgRow w = u at *
  obtain ⟨hsrcKept, hdivKept, hswitching, hactiveKept⟩ := State.clkEffect_result c1 hen1
  have hanswer (f : Field) : (u.clkEffect.answer i 0 .ok).get f = u.clkEffect.get f := rfl
  refine ⟨?_, ?_, ?_, ?_⟩
  · rw [hanswer, hsrcKept, hsrc]
  · rw [hanswer, hdivKept, hdiv]
  · rw [State.on, hanswer, hswitching, State.clkInForce, hsrc, hdiv, hactive, hdivActive]
    cases (w.toNat % 4 == s.get F.CLK_STAT_SRC_ACTIVE && bitsOf w.toNat 4 2 == s.get F.CLK_STAT_DIV_ACTIVE) <;> rfl
  · rw [hanswer, hactiveKept, hactive]

theorem srcKhz_lt (src : Nat) : srcKhz src < 2 ^ 18 := by
  unfold srcKhz
  rcases src with _ | _ | _ | _ | n <;> simp

/-- The clock that is in force from now on, and the frequency that it gives. -/
theorem State.setSysClock_result {s : State} (c : s.canonical = true) {src div : Nat} (hsrc : src < 4) (hdiv : div < 4) :
    (s.setSysClock src div).canonical = true ∧ (s.setSysClock src div).get F.CLK_STAT_SRC_ACTIVE = src ∧
      (s.setSysClock src div).get F.CLK_STAT_DIV_ACTIVE = div ∧ (s.setSysClock src div).get F.CLK_SYS_KHZ_KHZ = srcKhz src / 2 ^ div := by
  have c1 : (s.put F.CLK_STAT_SRC_ACTIVE src).canonical = true := ((Keeps.refl s).put _ _).canon c
  have c2 := ((Keeps.refl _).put F.CLK_STAT_DIV_ACTIVE div).canon c1
  have hactive : ((s.put F.CLK_STAT_SRC_ACTIVE src).put F.CLK_STAT_DIV_ACTIVE div).get F.CLK_STAT_SRC_ACTIVE = src := by
    rw [State.get_put_other c1 _ _ _ (by decide) (by decide), State.get_put_self c _ _ (by decide)]
    exact Nat.mod_eq_of_lt hsrc
  have hdivActive : ((s.put F.CLK_STAT_SRC_ACTIVE src).put F.CLK_STAT_DIV_ACTIVE div).get F.CLK_STAT_DIV_ACTIVE = div := by
    rw [State.get_put_self c1 _ _ (by decide)]
    exact Nat.mod_eq_of_lt hdiv
  have hkhz : ((s.put F.CLK_STAT_SRC_ACTIVE src).put F.CLK_STAT_DIV_ACTIVE div).sysKhz = srcKhz src / 2 ^ div := by
    rw [State.sysKhz, hactive, hdivActive]
  refine ⟨((Keeps.refl _).put _ _).canon c2, ?_, ?_, ?_⟩
  · exact (State.get_put_other c2 _ _ _ (by decide) (by decide)).trans hactive
  · exact (State.get_put_other c2 _ _ _ (by decide) (by decide)).trans hdivActive
  · refine (State.get_put_self c2 _ _ (by decide)).trans ?_
    rw [hkhz]
    exact Nat.mod_eq_of_lt ((Nat.div_le_self _ _).trans_lt (srcKhz_lt src))

theorem switched_runs {s : State} (c : s.canonical = true) (hswitching : s.on F.CLK_STAT_SWITCHING = true)
    (hruns : s.srcRuns (s.get F.CLK_CFG_SYS_SRC) = true) :
    ∃ t, exec .switched s = .next t ∧ t.get F.CLK_STAT_SRC_ACTIVE = s.get F.CLK_CFG_SYS_SRC ∧
      t.get F.CLK_STAT_DIV_ACTIVE = s.get F.CLK_CFG_SYS_DIV ∧ t.get F.CLK_STAT_SWITCHING = 0 ∧
      t.get F.CLK_SYS_KHZ_KHZ = srcKhz (s.get F.CLK_CFG_SYS_SRC) / 2 ^ s.get F.CLK_CFG_SYS_DIV := by
  have hexec : exec .switched s = .next ((((((s.waitUpdate (s.get F.PWR_OP_ACTIVE)
      (srcKhz (s.get F.CLK_CFG_SYS_SRC) / 2 ^ s.get F.CLK_CFG_SYS_DIV)).setSysClock (s.get F.CLK_CFG_SYS_SRC) (s.get F.CLK_CFG_SYS_DIV)).put
        F.CLK_STAT_SWITCHING 0).setPageSt P.CLK 0).flag P.CLK 3).clkSettle) := by
    rw [exec_switched, execSwitched]
    dsimp only
    rw [hswitching, hruns]
    rfl
  have c1 := (Frame.waitUpdate (w := 0x8000000000000) (Frame.refl _ s) (by decide) (s.get F.PWR_OP_ACTIVE)
    (srcKhz (s.get F.CLK_CFG_SYS_SRC) / 2 ^ s.get F.CLK_CFG_SYS_DIV)).1.canon c
  refine ⟨_, hexec, ?_⟩
  generalize s.waitUpdate (s.get F.PWR_OP_ACTIVE) (srcKhz (s.get F.CLK_CFG_SYS_SRC) / 2 ^ s.get F.CLK_CFG_SYS_DIV) = u at *
  obtain ⟨c2, hactive, hdiv, hkhz⟩ := State.setSysClock_result c1 (s.get_lt F.CLK_CFG_SYS_SRC) (s.get_lt F.CLK_CFG_SYS_DIV)
  generalize u.setSysClock (s.get F.CLK_CFG_SYS_SRC) (s.get F.CLK_CFG_SYS_DIV) = t at *
  have rest {f : Field} {v : Nat} (hpage : f.addr ≠ Reg.PAGE_STAT P.CLK) (hirq : f.addr ≠ Reg.IRQ_RAW P.CLK)
      (hf : f.addr ≠ Reg.CLK_STAT ∨ 3 ≤ f.lo) :
      Reads f v (t.put F.CLK_STAT_SWITCHING 0) ((((t.put F.CLK_STAT_SWITCHING 0).setPageSt P.CLK 0).flag P.CLK 3).clkSettle) :=
    (((Reads.refl f v _).setPageSt P.CLK 0 hpage).flag P.CLK 3 hirq).clkSettle hf
  have c3 := ((Keeps.refl t).put F.CLK_STAT_SWITCHING 0).canon c2
  refine ⟨(rest (by decide) (by decide) (by decide)).get c3 ?_, (rest (by decide) (by decide) (by decide)).get c3 ?_,
    (rest (by decide) (by decide) (by decide)).get c3 ?_, (rest (by decide) (by decide) (by decide)).get c3 ?_⟩
  · exact (State.get_put_other c2 _ _ _ (by decide) (by decide)).trans hactive
  · exact (State.get_put_other c2 _ _ _ (by decide) (by decide)).trans hdiv
  · exact State.get_put_self c2 _ _ (by decide)
  · exact (State.get_put_other c2 _ _ _ (by decide) (by decide)).trans hkhz

theorem hfxoStable_wanted {s : State} (c : s.canonical = true) (hon : s.systemOn = true) (hoff : s.on F.CLK_STAT_HFXO_OK = false)
    (hwanted : s.hfxoWanted = true) :
    ∃ t, exec .hfxoStable s = .next t ∧ t.on F.CLK_STAT_HFXO_OK = true ∧ t.pwr = { s.pwr with hfxoReq := false } := by
  have hexec : exec .hfxoStable s = .next ((((s.put F.CLK_STAT_HFXO_OK 1).setPwr (fun p => { p with hfxoReq := false })).setRadio
      (fun r => { r with hfxoWait := false })).hvlUpdate) := by
    rw [exec_hfxoStable, execHfxoStable, hon, hoff, hwanted]
    rfl
  have hself : (((s.put F.CLK_STAT_HFXO_OK 1).setPwr (fun p => { p with hfxoReq := false })).setRadio
      (fun r => { r with hfxoWait := false })).get F.CLK_STAT_HFXO_OK = 1 := State.get_put_self c _ _ (by decide)
  have hpwr : (((s.put F.CLK_STAT_HFXO_OK 1).setPwr (fun p => { p with hfxoReq := false })).setRadio
      (fun r => { r with hfxoWait := false })).pwr = { s.pwr with hfxoReq := false } := rfl
  have c1 := ((((Keeps.refl s).put F.CLK_STAT_HFXO_OK 1).setPwr (fun p => { p with hfxoReq := false })).setRadio
    (fun r => { r with hfxoWait := false })).canon c
  refine ⟨_, hexec, ?_⟩
  generalize ((s.put F.CLK_STAT_HFXO_OK 1).setPwr (fun p => { p with hfxoReq := false })).setRadio (fun r => { r with hfxoWait := false }) = u at *
  have hframe := Frame.hvlUpdate (w := 0x3400000200001813D) (Frame.refl _ u) (by decide)
  refine ⟨?_, (hframe.pwr (by decide)).trans hpwr⟩
  unfold State.on
  rw [hframe.get c1 _ (by decide), hself]
  rfl

theorem pllLock_held {s : State} (c : s.canonical = true) (hon : s.on F.CLK_STAT_HFXO_OK = true) (hheld : s.pllHeld = true)
    (hop : 1 ≤ s.get F.PWR_OP_ACTIVE) : ∃ t, exec .pllLock s = .next t ∧ t.on F.CLK_STAT_PLL_LOCK = true ∧ t.mem = s.mem := by
  have hexec : exec .pllLock s = .next (s.put F.CLK_STAT_PLL_LOCK 1) := by
    rw [exec_pllLock, execPllLock, hon, hheld, decide_eq_true hop]
    rfl
  refine ⟨_, hexec, ?_, State.put_mem _ _ _⟩
  rw [State.on, State.get_put_self c _ _ (by decide)]
  rfl

theorem hfxoFail_unmonitored {s : State} (hon : s.on F.CLK_STAT_HFXO_OK = true) (hmon : s.on F.CLK_CFG_MON_EN = false) :
    ∃ t, exec .hfxoFail s = .next t ∧ t = s.put F.CLK_STAT_HFXO_OK 0 := by
  refine ⟨_, ?_, rfl⟩
  rw [exec_hfxoFail, execHfxoFail, hon, hmon]
  rfl

/-- Where the slow clock comes from shows in CLK.STAT and in TMB.STAT. -/
theorem State.slowSource_result {s : State} (c : s.canonical = true) {v : Nat} (hv : v < 2) :
    (((s.put F.CLK_STAT_LFXO_OK v).put F.CLK_STAT_LF_SRC v).put F.TMB_STAT_SLOW_SRC v).canonical = true ∧
      (((s.put F.CLK_STAT_LFXO_OK v).put F.CLK_STAT_LF_SRC v).put F.TMB_STAT_SLOW_SRC v).get F.CLK_STAT_LFXO_OK = v ∧
      (((s.put F.CLK_STAT_LFXO_OK v).put F.CLK_STAT_LF_SRC v).put F.TMB_STAT_SLOW_SRC v).get F.CLK_STAT_LF_SRC = v ∧
      (((s.put F.CLK_STAT_LFXO_OK v).put F.CLK_STAT_LF_SRC v).put F.TMB_STAT_SLOW_SRC v).get F.TMB_STAT_SLOW_SRC = v ∧
      (((s.put F.CLK_STAT_LFXO_OK v).put F.CLK_STAT_LF_SRC v).put F.TMB_STAT_SLOW_SRC v).count = s.count := by
  have c1 : (s.put F.CLK_STAT_LFXO_OK v).canonical = true := ((Keeps.refl s).put _ _).canon c
  have c2 := ((Keeps.refl _).put F.CLK_STAT_LF_SRC v).canon c1
  have hmod : v % 2 ^ 1 = v := Nat.mod_eq_of_lt hv
  refine ⟨((Keeps.refl _).put _ _).canon c2, ?_, ?_, (State.get_put_self c2 _ _ (by decide)).trans hmod, ?_⟩
  · rw [State.get_put_other c2 _ _ _ (by decide) (by decide), State.get_put_other c1 _ _ _ (by decide) (by decide)]
    exact (State.get_put_self c _ _ (by decide)).trans hmod
  · rw [State.get_put_other c2 _ _ _ (by decide) (by decide)]
    exact (State.get_put_self c1 _ _ (by decide)).trans hmod
  · simp only [State.put_count]

theorem lfxoFail_running {s : State} (c : s.canonical = true) (hon : s.on F.CLK_STAT_LFXO_OK = true) :
    ∃ t, exec .lfxoFail s = .next t ∧ t.on F.CLK_STAT_LFXO_OK = false ∧ t.get F.CLK_STAT_LF_SRC = 0 ∧ t.get F.TMB_STAT_SLOW_SRC = 0 ∧
      t.count = s.count := by
  obtain ⟨c1, hok, hlf, hslow, hcount⟩ := State.slowSource_result c (v := 0) (by decide)
  refine ⟨_, (exec_lfxoFail s).trans (congrArg Host.Outcome.next (if_pos hon)), ?_⟩
  generalize ((s.put F.CLK_STAT_LFXO_OK 0).put F.CLK_STAT_LF_SRC 0).put F.TMB_STAT_SLOW_SRC 0 = u at *
  have hflag := Frame.flag (w := 0x400000000) (p := P.CLK) (n := 1) (Frame.refl _ u) (Or.inr (by decide))
  have hget (f : Field) (hf : f.addr ≠ Reg.IRQ_RAW P.CLK) : (u.flag P.CLK 1).get f = u.get f :=
    ((TxAside.refl f.addr u).flag P.CLK 1 hf).get c1 f rfl
  refine ⟨?_, (hget _ (by decide)).trans hlf, (hget _ (by decide)).trans hslow, (hflag.count (by decide)).trans hcount⟩
  rw [State.on, hget _ (by decide), hok]
  rfl

theorem lfxoReturn_enabled {s : State} (c : s.canonical = true) (hen : s.on F.CLK_CFG_LFXO_EN = true) (hstate : s.pwr.state ≠ PowerState.dormant) :
    ∃ t, exec .lfxoReturn s = .next t ∧ t.on F.CLK_STAT_LFXO_OK = true ∧ t.get F.CLK_STAT_LF_SRC = 1 ∧ t.get F.TMB_STAT_SLOW_SRC = 1 ∧
      t.count = s.count := by
  obtain ⟨-, hok, hlf, hslow, hcount⟩ := State.slowSource_result c (v := 1) (by decide)
  have hexec : exec .lfxoReturn s = .next (((s.put F.CLK_STAT_LFXO_OK 1).put F.CLK_STAT_LF_SRC 1).put F.TMB_STAT_SLOW_SRC 1) := by
    rw [exec_lfxoReturn, execLfxoReturn, hen, bne_iff_ne.mpr hstate]
    rfl
  exact ⟨_, hexec, by rw [State.on, hok]; rfl, hlf, hslow, hcount⟩

end Sys2Proof.Machine
end

section
/-! SUPPORT. The radio domain that goes off (18 R403), and what it leaves of a register. -/

namespace Sys2Proof.Machine

/-- The registers that stay as the radio domain goes off. -/
def State.offKeeps (s : State) (a : Nat) : Bool := !inPages radioPage a || (s.recKept && inPages (· == P.REC) a)

/-- The registers outside the radio's pages that a radio domain which goes off writes. -/
def offRegs : List Nat := [Reg.PWR_DOM, Reg.SYS_BOOT_STAT, Reg.TMB_STAT, Reg.HVL_STAT, Reg.PAGE_STAT P.REC, Reg.REC_STAT]

theorem State.radioOff_eq (s : State) : ∃ u : State, Keeps s u ∧
    u.regs = (s.recTrigger 0x20).regs.filter (fun x => (s.recTrigger 0x20).offKeeps x.1) ∧ u.radio = State.reset.radio ∧
    s.radioOff = (((u.put F.PWR_DOM_RADIO_PWR 0).put F.SYS_BOOT_STAT_ENG_READY 0).put F.TMB_STAT_FOLLOW 0).setStrap
      (s.recTrigger 0x20).hvl.strap := by
  refine ⟨_, ?_, ?_, ?_, rfl⟩
  · exact Keeps.upd (((((Keeps.refl s).recTrigger 0x20).keepRegs _).keepMem _).keepPages _) rfl (OtpKept.refl _)
  · rfl
  · rfl

theorem State.setStrap_aside (s : State) (pos : Nat) {x : Nat} (hx : x ≠ Reg.HVL_STAT) : TxAside x s (s.setStrap pos) := by
  unfold State.setStrap
  refine TxAside.ite (TxAside.put ?_ pos hx) (TxAside.refl x s)
  exact (TxAside.refl x s).same (Keeps.upd (Keeps.refl s) rfl (OtpKept.refl _)) rfl rfl rfl

/-- A register keeps its value, or takes its reset value, as the radio domain goes off. -/
theorem State.radioOff_reg {s : State} (c : s.canonical = true) {x : Nat} (hx : x ∉ offRegs) :
    s.radioOff.reg x = if (s.recTrigger 0x20).offKeeps x = true then s.reg x else resetOf x := by
  simp only [offRegs, List.mem_cons, List.not_mem_nil, not_or] at hx
  obtain ⟨hdom, hboot, htmb, hhvl, hpage, hstat, -⟩ := hx
  obtain ⟨u, hkeeps, hregs, -, hoff⟩ := s.radioOff_eq
  have htrigger := (TxAside.refl x s).recTrigger 0x20 hpage hstat
  have hcleared : u.reg x = if (s.recTrigger 0x20).offKeeps x = true then (s.recTrigger 0x20).reg x else resetOf x := by
    unfold State.reg
    rw [hregs]
    exact Sparse.get_filter _ x _ (State.canonical_regs (htrigger.canon c))
  have hputs := (((TxAside.refl x u).put (f := F.PWR_DOM_RADIO_PWR) 0 hdom).put (f := F.SYS_BOOT_STAT_ENG_READY) 0 hboot).put
    (f := F.TMB_STAT_FOLLOW) 0 htmb
  have hall := hputs.trans (State.setStrap_aside _ (s.recTrigger 0x20).hvl.strap hhvl)
  rw [hoff, hall.reg (hkeeps.canon c), hcleared, htrigger.reg c]

theorem State.radioOff_radio (s : State) : s.radioOff.radio = State.reset.radio := by
  obtain ⟨u, -, -, hradio, hoff⟩ := s.radioOff_eq
  have strap (t : State) (pos : Nat) : (t.setStrap pos).radio = t.radio := by
    unfold State.setStrap
    split
    · exact State.put_radio _ _ _
    · rfl
  rw [hoff, strap, State.put_radio, State.put_radio, State.put_radio, hradio]

end Sys2Proof.Machine
end

section
/-! SUPPORT. The loss of a monitored HFXO (18 R420; 05 R123) and one that does not start: the radio's work ends, and the clock's page stays. -/

namespace Sys2Proof.Machine

namespace Reads

variable {f : Field} {v : Nat} {a s t : State}

theorem withRadioRfe (h : Reads f v a s) (r : Radio) (x : Rfe) : Reads f v a { s with radio := r, rfe := x } := by
  refine h.same ?_ ?_
  · exact Keeps.upd (Keeps.refl s) rfl (OtpKept.refl _)
  · rfl

/-- An operation whose frame leaves the clock's page alone. -/
theorem clk {w : Nat} (h : Reads f v a s) (hp : pageIx f.addr = P.CLK) (g : Frame w s t) (hw : (w.testBit 17 || w.testBit 34) = false) :
    Reads f v a t :=
  h.frame g (by rw [hp]; exact hw)

theorem clk_radioOff (h : Reads f v a s) (hp : pageIx f.addr = P.CLK) : Reads f v a s.radioOff := by
  have hx : f.addr ∉ offRegs := by
    intro hmem
    have hpages : ∀ x ∈ offRegs, pageIx x ≠ P.CLK := by decide
    exact hpages _ hmem hp
  have hkeeps (t : State) : t.offKeeps f.addr = true := by
    have hout : inPages radioPage f.addr = false := by
      unfold inPages
      unfold pageIx at hp
      rw [hp]
      simp [radioPage, P.CLK, P.RFE, P.RTX, P.SYN, P.RAD, P.CHN, P.NBD, P.OFD, P.FEC, P.LNK, P.FRM, P.NBT, P.HVL, P.REC, P.TSN]
    unfold State.offKeeps
    rw [hout]
    rfl
  refine h.trans ⟨(Keeps.refl s).radioOff, fun c e => ?_⟩
  unfold State.get
  rw [State.radioOff_reg c hx, if_pos (hkeeps _)]
  exact e

theorem clk_offSettle (h : Reads f v a s) (hp : pageIx f.addr = P.CLK) : Reads f v a s.offSettle := by
  unfold State.offSettle
  exact (h.clk_radioOff hp).ite h

/-- A state that is entered settles the PLL, and leaves the rest of the clock's page. -/
theorem clk_enterState (h : Reads f v a s) (hp : pageIx f.addr = P.CLK) (hpll : ∀ u : State, Reads f v u (u.put F.CLK_STAT_PLL_LOCK 0)) (n : Nat) :
    Reads f v a (s.enterState n) := by
  have pll {u : State} (g : Reads f v a u) : Reads f v a u.pllSettle := by
    unfold State.pllSettle
    exact (g.trans (hpll u)).ite g
  have quiet {u : State} (g : Reads f v a u) : Reads f v a u.antQuiet :=
    g.clk hp (Frame.antQuiet (w := 4) (Frame.refl _ u) (by decide)) (by decide)
  have shown := h.clk hp (Frame.event (w := 0x200000000000080) (Frame.flag (p := P.RAD) (n := 3) (Frame.setPageSt (p := P.RAD) (v := n)
    (Frame.put (f := F.RAD_STATE_MOVING) (v := 0) (Frame.put (f := F.RAD_STATE_STATE) (v := n) (Frame.refl _ s) (Or.inr (by decide)))
      (Or.inr (by decide))) (Or.inr (by decide))) (Or.inr (by decide))) (by decide) P.RAD 0) (by decide)
  have hset := (pll shown).setRadio (fun r => { r with lockWait := false })
  unfold State.enterState
  exact hset.ite (quiet hset)

theorem clk_enterOff (h : Reads f v a s) (hp : pageIx f.addr = P.CLK) (hpll : ∀ u : State, Reads f v u (u.put F.CLK_STAT_PLL_LOCK 0)) :
    Reads f v a s.enterOff := by
  unfold State.enterOff
  refine clk_enterState ?_ hp hpll 0
  refine (h.withRadioRfe _ _).clk hp (Frame.put (w := 0x3FC0000000010185) (Frame.put (Frame.setRetry (Frame.crsStop (Frame.rxStop
    (Frame.unblank (Frame.setPageSt (Frame.refl _ _) (Or.inr (by decide))) (by decide)) (by decide)) (by decide)) (by decide) _ _)
    (Or.inr (by decide))) (Or.inr (by decide))) (by decide)

/-- The radio's work ends HW_FAULT (18 R420), and the clock's page stays. -/
theorem clk_radioFail (h : Reads f v a s) (hp : pageIx f.addr = P.CLK) (hpll : ∀ u : State, Reads f v u (u.put F.CLK_STAT_PLL_LOCK 0)) :
    Reads f v a s.radioFail := by
  have ended {t : State} (g : Reads f v a t) (src : OpSrc) : Reads f v a (t.endPlain src 6) :=
    g.clk hp (Frame.endPlain (w := 0x10420000000001018D) (Frame.refl _ t) (by decide) src 6) (by decide)
  have held {t : State} (g : Reads f v a t) : Reads f v a (t.crsHold none) :=
    g.clk hp (Frame.crsHold (w := 0x10430000000001018D) (Frame.refl _ t) (by decide) none) (by decide)
  unfold State.radioFail
  extract_lets s1 s2 s3 s4 s5 freed crs s6 s7
  have h1 : Reads f v a s1 := h.clk hp (Frame.calStop (w := 0x105B400000000101BD) (Frame.whiffEnd (Frame.loseAll (Frame.refl _ s) (by decide) 6)
    (by decide) 6) (by decide)) (by decide)
  have h2 : Reads f v a s2 := by
    refine h1.foldl (fun u k => ?_)
    split
    · rename_i x _
      have hfail := (Reads.refl f v u).clk hp (Frame.ackFailed (w := 0x104000000000010119) (Frame.refl _ u) (by decide) k) (by decide)
      have hsquash := (Reads.refl f v u).clk hp (Frame.squashCtx (w := 0x1043000000000101BD) (Frame.refl _ u) (by decide) k 6) (by decide)
      exact hfail.ite (hsquash.ite (Reads.refl f v u))
    · exact Reads.refl f v u
  have h3 : Reads f v a s3 := h2.clk hp (Frame.dropWaiting (w := 0x10420000000001018D) (Frame.refl _ s2) (by decide) 6) (by decide)
  have h4 : Reads f v a s4 := by
    unfold s4
    split
    · exact ended h3 _
    · exact h3
  have h5 : Reads f v a s5 := by
    unfold s5
    split
    · exact held (ended h4 _)
    · exact held h4
  have hfreed : Reads f v a freed :=
    h5.clk hp (Frame.put (w := 0x100000000000000) (Frame.refl _ s5) (Or.inr (by decide))) (by decide)
  have h6 : Reads f v a s6 := hfreed.withCrs _
  have h7 : Reads f v a s7 := h6.setRadio _
  refine Reads.ite ?_ ?_
  · exact h7.clk hp (Frame.put (w := 0x200000000000000) (f := F.RAD_STATE_MOVING) (v := 0) (Frame.refl _ s7) (Or.inr (by decide))) (by decide)
  · have hreleased : Reads f v a s7.releaseAll := h7.clk hp (Frame.releaseAll (w := 4) (Frame.refl _ s7) (by decide)) (by decide)
    exact (hreleased.clk_enterOff hp hpll).clk_offSettle hp

end Reads

end Sys2Proof.Machine
end

section
/-! SUPPORT. HFXO_FAIL with the monitor on (18 R420), and HFXO_FAILS_TO_START (05 R123). -/

namespace Sys2Proof.Machine

/-- A flag of an enabled page is raised. -/
theorem State.flag_raised {s : State} (c : s.canonical = true) {p n : Nat} (hn : n < 32) (hen : s.enabled p = true) :
    ((s.flag p n).reg (Reg.IRQ_RAW p)).toNat.testBit n = true := by
  have hbit : (BitVec.ofNat 32 (2 ^ n)).getLsbD n = true := by
    rw [BitVec.getLsbD_ofNat, Nat.testBit_two_pow_self, Bool.and_true, decide_eq_true hn]
  unfold State.flag State.raiseFlag
  rw [if_pos hen, State.reg_setReg c, if_pos rfl, BitVec.testBit_toNat, BitVec.getLsbD_or, hbit, Bool.or_true]

/-- The state in which the system runs on HFRC, with HFXO and the PLL lost. -/
def State.toHfrc (s : State) : State :=
  let s1 := ((s.put F.CLK_STAT_HFXO_OK 0).put F.CLK_STAT_PLL_LOCK 0).put F.CLK_STAT_HFRC_OK 1
  ((s1.setSysClock 0 (s1.get F.CLK_STAT_DIV_ACTIVE)).put F.CLK_STAT_SWITCHING 0).setPageSt P.CLK 0

/-- What the loss of HFXO leaves of the flash's timing, of the time base, of the radio and of the cascade. -/
def State.hfxoLost (s : State) : State :=
  let s3 := s.waitUpdate (s.get F.PWR_OP_ACTIVE) s.sysKhz
  let s4 := if s3.get F.TMB_STAT_FINE_SRC = 2 then s3.put F.TMB_STAT_FINE_SRC 1 else s3
  (s4.setPwr (fun p => { p with hfxoReq := false })).radioFail.hvlUpdate

theorem exec_hfxoFail_monitored {s : State} (hon : s.on F.CLK_STAT_HFXO_OK = true) (hmon : s.on F.CLK_CFG_MON_EN = true) :
    exec .hfxoFail s = .next (((s.toHfrc.hfxoLost).flag P.CLK 0).reportFault uHfxo .transient) := by
  rw [exec_hfxoFail, execHfxoFail, hon, hmon]
  rfl

theorem Reads.clk_hfxoLost {f : Field} {v : Nat} {a s : State} (h : Reads f v a s) (hp : pageIx f.addr = P.CLK)
    (hpll : ∀ u : State, Reads f v u (u.put F.CLK_STAT_PLL_LOCK 0)) : Reads f v a s.hfxoLost := by
  have hwait := h.clk hp (Frame.waitUpdate (w := 0x8000000000000) (Frame.refl _ s) (by decide) (s.get F.PWR_OP_ACTIVE) s.sysKhz) (by decide)
  have hfine {t : State} (g : Reads f v a t) : Reads f v a (if t.get F.TMB_STAT_FINE_SRC = 2 then t.put F.TMB_STAT_FINE_SRC 1 else t) :=
    (g.clk hp (Frame.put (w := 0x2000000000) (Frame.refl _ t) (Or.inr (by decide))) (by decide)).ite g
  unfold State.hfxoLost
  exact (((hfine hwait).setPwr _).clk_radioFail hp hpll).clk hp (Frame.hvlUpdate (w := 0x3400000200001813D) (Frame.refl _ _) (by decide)) (by decide)

theorem State.toHfrc_result {s : State} (c : s.canonical = true) :
    s.toHfrc.canonical = true ∧ s.toHfrc.get F.CLK_STAT_HFXO_OK = 0 ∧ s.toHfrc.get F.CLK_STAT_PLL_LOCK = 0 ∧
      s.toHfrc.get F.CLK_STAT_SRC_ACTIVE = 0 ∧ s.toHfrc.get F.CLK_STAT_SWITCHING = 0 ∧
      s.toHfrc.get (F.PAGE_CTRL_ENABLE P.CLK) = s.get (F.PAGE_CTRL_ENABLE P.CLK) := by
  have c1 : (s.put F.CLK_STAT_HFXO_OK 0).canonical = true := ((Keeps.refl s).put _ _).canon c
  have c2 := ((Keeps.refl _).put F.CLK_STAT_PLL_LOCK 0).canon c1
  have c3 := ((Keeps.refl _).put F.CLK_STAT_HFRC_OK 1).canon c2
  have hok : (((s.put F.CLK_STAT_HFXO_OK 0).put F.CLK_STAT_PLL_LOCK 0).put F.CLK_STAT_HFRC_OK 1).get F.CLK_STAT_HFXO_OK = 0 := by
    rw [State.get_put_other c2 _ _ _ (by decide) (by decide), State.get_put_other c1 _ _ _ (by decide) (by decide)]
    exact State.get_put_self c _ _ (by decide)
  have hlock : (((s.put F.CLK_STAT_HFXO_OK 0).put F.CLK_STAT_PLL_LOCK 0).put F.CLK_STAT_HFRC_OK 1).get F.CLK_STAT_PLL_LOCK = 0 := by
    rw [State.get_put_other c2 _ _ _ (by decide) (by decide)]
    exact State.get_put_self c1 _ _ (by decide)
  have hen : (((s.put F.CLK_STAT_HFXO_OK 0).put F.CLK_STAT_PLL_LOCK 0).put F.CLK_STAT_HFRC_OK 1).get (F.PAGE_CTRL_ENABLE P.CLK) =
      s.get (F.PAGE_CTRL_ENABLE P.CLK) :=
    ((((TxAside.refl (F.PAGE_CTRL_ENABLE P.CLK).addr s).put _ (by decide)).put _ (by decide)).put _ (by decide)).get c _ rfl
  unfold State.toHfrc
  dsimp only
  generalize ((s.put F.CLK_STAT_HFXO_OK 0).put F.CLK_STAT_PLL_LOCK 0).put F.CLK_STAT_HFRC_OK 1 = u at *
  obtain ⟨c4, hactive, -, -⟩ := State.setSysClock_result c3 (src := 0) (by decide) (u.get_lt F.CLK_STAT_DIV_ACTIVE)
  have hclock {f : Field} {v : Nat} (hd : f.addr ≠ Reg.CLK_STAT ∨ f.lo + f.width ≤ 8) (hk : f.addr ≠ Reg.CLK_SYS_KHZ) :
      Reads f v u (u.setSysClock 0 (u.get F.CLK_STAT_DIV_ACTIVE)) :=
    (((Reads.refl f v u).put (g := F.CLK_STAT_SRC_ACTIVE) 0 (by decide) (hd.imp id Or.inl)).put (g := F.CLK_STAT_DIV_ACTIVE) _ (by decide)
      (hd.imp id (fun hlo => Or.inl (hlo.trans (by decide))))).put (g := F.CLK_SYS_KHZ_KHZ) _ (by decide) (Or.inl hk)
  have hok4 := (hclock (v := 0) (by decide) (by decide)).get c3 hok
  have hlock4 := (hclock (v := 0) (by decide) (by decide)).get c3 hlock
  have hen4 := (hclock (by decide) (by decide)).get c3 hen
  generalize u.setSysClock 0 (u.get F.CLK_STAT_DIV_ACTIVE) = t at *
  have c5 := ((Keeps.refl t).put F.CLK_STAT_SWITCHING 0).canon c4
  have hpage (f : Field) (hf : f.addr ≠ Reg.PAGE_STAT P.CLK) :
      ((t.put F.CLK_STAT_SWITCHING 0).setPageSt P.CLK 0).get f = (t.put F.CLK_STAT_SWITCHING 0).get f :=
    ((TxAside.refl f.addr _).setPageSt P.CLK 0 hf).get c5 f rfl
  refine ⟨((Keeps.refl _).setPageSt _ _).canon c5, ?_, ?_, ?_, ?_, ?_⟩
  · rw [hpage _ (by decide), State.get_put_other c4 _ _ _ (by decide) (by decide), hok4]
  · rw [hpage _ (by decide), State.get_put_other c4 _ _ _ (by decide) (by decide), hlock4]
  · rw [hpage _ (by decide), State.get_put_other c4 _ _ _ (by decide) (by decide), hactive]
  · rw [hpage _ (by decide), State.get_put_self c4 _ _ (by decide)]
    rfl
  · rw [hpage _ (by decide), State.get_put_other c4 _ _ _ (by decide) (by decide), hen4]

theorem hfxoFail_monitored {s : State} (c : s.canonical = true) (hon : s.on F.CLK_STAT_HFXO_OK = true) (hmon : s.on F.CLK_CFG_MON_EN = true) :
    ∃ t, exec .hfxoFail s = .next t ∧ t.on F.CLK_STAT_HFXO_OK = false ∧ t.on F.CLK_STAT_PLL_LOCK = false ∧ t.get F.CLK_STAT_SRC_ACTIVE = 0 ∧
      t.on F.CLK_STAT_SWITCHING = false ∧ (s.enabled P.CLK = true → (t.reg (Reg.IRQ_RAW P.CLK)).toNat.testBit 0 = true) := by
  obtain ⟨c1, hok, hlock, hactive, hswitching, hen⟩ := State.toHfrc_result c
  refine ⟨_, exec_hfxoFail_monitored hon hmon, ?_⟩
  generalize s.toHfrc = u at *
  have disjoint {f : Field} {v : Nat} (hf : f.addr ≠ Reg.CLK_STAT ∨ f.lo + f.width ≤ 2 ∨ 3 ≤ f.lo) (x : State) :
      Reads f v x (x.put F.CLK_STAT_PLL_LOCK 0) := (Reads.refl f v x).put 0 (by decide) hf
  have locked (x : State) : Reads F.CLK_STAT_PLL_LOCK 0 x (x.put F.CLK_STAT_PLL_LOCK 0) :=
    (Reads.refl _ 0 x).putSelf (by decide) (by decide)
  have reported (x : State) : Frame 0x61880000000000180 x (x.reportFault uHfxo .transient) :=
    Frame.reportFault (Frame.refl _ x) (by decide) uHfxo .transient false
  have lost {f : Field} {v : Nat} (hp : pageIx f.addr = P.CLK) (hirq : f.addr ≠ Reg.IRQ_RAW P.CLK)
      (hpll : ∀ x : State, Reads f v x (x.put F.CLK_STAT_PLL_LOCK 0)) :
      Reads f v u ((u.hfxoLost.flag P.CLK 0).reportFault uHfxo .transient) :=
    ((((Reads.refl f v u).clk_hfxoLost hp hpll).flag P.CLK 0 hirq)).clk hp (reported _) (by decide)
  refine ⟨?_, ?_, ?_, ?_, fun hclk => ?_⟩
  · rw [State.on, (lost (by decide) (by decide) (disjoint (by decide))).get c1 hok]
    rfl
  · rw [State.on, (lost (by decide) (by decide) locked).get c1 hlock]
    rfl
  · exact (lost (by decide) (by decide) (disjoint (by decide))).get c1 hactive
  · rw [State.on, (lost (by decide) (by decide) (disjoint (by decide))).get c1 hswitching]
    rfl
  · have hkept := ((Reads.refl (F.PAGE_CTRL_ENABLE P.CLK) _ u).clk_hfxoLost (by decide) (disjoint (by decide))).get c1 hen
    have clost := ((Reads.refl (F.PAGE_CTRL_ENABLE P.CLK) 0 u).clk_hfxoLost (by decide) (disjoint (by decide))).canon c1
    have hlostEn : u.hfxoLost.enabled P.CLK = true := by
      unfold State.enabled State.on
      rw [hkept]
      exact hclk
    rw [(reported _).reg (((Keeps.refl _).flag P.CLK 0).canon clost) _ (by decide)]
    exact State.flag_raised clost (by decide) hlostEn

/-- The state in which the command that waited for HFXO is told, and the transition is over. -/
def State.startGivenUp (s : State) (o : RadOp) : State :=
  ((s.endPlain o.src 6).setRadio (fun r => { r with op := none, hfxoWait := false })).put F.RAD_STATE_MOVING 0

theorem hfxoFailsToStart_waiting {s : State} {o : RadOp} (c : s.canonical = true) (hwait : s.radio.hfxoWait = true)
    (hoff : s.on F.CLK_STAT_HFXO_OK = false) (hop : s.radio.op = some o) (hsrc : o.src = .software s.radio.cmdNo) :
    ∃ t, exec .hfxoFailsToStart s = .next t ∧ t.radio.op = none ∧ t.radio.hfxoWait = false ∧ t.on F.RAD_STATE_MOVING = false ∧
      (s.on F.PWR_DOM_RADIO_ON = true → t.get F.RAD_CMD_STAT_STATUS = 6) := by
  have hexec : exec .hfxoFailsToStart s = .next (s.startGivenUp o).offSettle := by
    rw [exec_hfxoFailsToStart, execHfxoFailsToStart, hwait, hoff, hop]
    rfl
  obtain ⟨hstatus, -⟩ := State.endSrc_software c 6 false false false false s.count
  have hend : s.endPlain o.src 6 = s.endSrc (.software s.radio.cmdNo) 6 false false false false s.count := by
    rw [hsrc]
    rfl
  have c1 : (s.endPlain o.src 6).canonical = true := ((Keeps.refl s).endPlain _ _).canon c
  have c2 : ((s.endPlain o.src 6).setRadio (fun r => { r with op := none, hfxoWait := false })).canonical = true :=
    ((Keeps.refl _).setRadio _).canon c1
  have c3 : (s.startGivenUp o).canonical = true := ((Keeps.refl _).put _ _).canon c2
  have hmoving : (s.startGivenUp o).get F.RAD_STATE_MOVING = 0 := State.get_put_self c2 _ _ (by decide)
  have hradio : (s.startGivenUp o).radio = { (s.endPlain o.src 6).radio with op := none, hfxoWait := false } := State.put_radio _ _ _
  have hshown : (s.startGivenUp o).get F.RAD_CMD_STAT_STATUS = 6 := by
    have hkept : (s.startGivenUp o).get F.RAD_CMD_STAT_STATUS = (s.endPlain o.src 6).get F.RAD_CMD_STAT_STATUS :=
      State.get_put_other c2 _ _ _ (by decide) (by decide)
    rw [hkept, hend]
    exact hstatus
  have hon : (s.startGivenUp o).get F.PWR_DOM_RADIO_ON = s.get F.PWR_DOM_RADIO_ON := by
    have hput := (TxAside.refl Reg.PWR_DOM ((s.endPlain o.src 6).setRadio (fun r => { r with op := none, hfxoWait := false }))).put
      (f := F.RAD_STATE_MOVING) 0 (by decide)
    exact (hput.get c2 _ rfl).trans (((TxAside.refl Reg.PWR_DOM s).endPlain (by decide) o.src 6).get c _ rfl)
  refine ⟨_, hexec, ?_⟩
  generalize s.startGivenUp o = u at *
  unfold State.offSettle
  split
  · rename_i hgone
    refine ⟨?_, ?_, ?_, fun hdom => ?_⟩
    · rw [State.radioOff_radio]
      rfl
    · rw [State.radioOff_radio]
      rfl
    · have hradioPage : inPages radioPage Reg.RAD_STATE = true := by decide
      have hnotRec : inPages (· == P.REC) Reg.RAD_STATE = false := by decide
      have hkeeps : (u.recTrigger 0x20).offKeeps Reg.RAD_STATE = false := by
        unfold State.offKeeps
        rw [hradioPage, hnotRec, Bool.and_false]
        rfl
      have hreset : u.radioOff.reg Reg.RAD_STATE = resetOf Reg.RAD_STATE := by
        rw [State.radioOff_reg c3 (by decide), hkeeps, if_neg Bool.false_ne_true]
      have hstill : bitsOf (resetOf Reg.RAD_STATE).toNat F.RAD_STATE_MOVING.lo F.RAD_STATE_MOVING.width = 0 := by decide
      have haddr : F.RAD_STATE_MOVING.addr = Reg.RAD_STATE := rfl
      unfold State.on State.get
      rw [haddr, hreset, hstill]
      rfl
    · exfalso
      have hdomOn : u.on F.PWR_DOM_RADIO_ON = true := by
        unfold State.on
        rw [hon]
        exact hdom
      simp [hdomOn] at hgone
  · refine ⟨?_, ?_, ?_, fun _ => hshown⟩
    · rw [hradio]
    · rw [hradio]
    · rw [State.on, hmoving]
      rfl

end Sys2Proof.Machine
end

section
/-! SUPPORT. The regulator port (18 R423, R424): what it sends, what it is answered, and when it sends again or gives up. -/

namespace Sys2Proof.Machine

/-- The supply voltage that the port asks for is that of the operating point wanted. -/
theorem State.voutCode_eq (s : State) : s.voutCode =
    if s.get F.PWR_OP_TARGET = 0 then s.get F.RRP_VOUT01_OP0 else if s.get F.PWR_OP_TARGET = 1 then s.get F.RRP_VOUT01_OP1
      else s.get F.RRP_VOUT2_OP2 := by
  unfold State.voutCode
  rcases s.get F.PWR_OP_TARGET with _ | _ | n <;> rfl

theorem voutCommand_due {s : State} (hrrp : s.pwr.rrp = RrpStep.voutDue) (hserves : s.enabled P.RRP = true ∨ s.pwr.rrpWake = true) {v : Nat}
    (hv : v = s.voutCode) {m : List Byte}
    (hm : m = [BitVec.ofNat 8 (2 * s.get F.RRP_CFG_ADDR), 0x21, BitVec.ofNat 8 v, BitVec.ofNat 8 (v / 256)]) :
    exec .voutCommand s = .next { s with pwr := { s.pwr with rrp := .voutSent, smbus := s.pwr.smbus ++ [m ++ [State.pec m]] } } := by
  subst hm hv
  rw [exec_voutCommand, execVoutCommand, if_pos ⟨hrrp, hserves⟩]
  rfl

theorem operation_on_due {s : State} (hrrp : s.pwr.rrp = RrpStep.onDue) (hserves : s.enabled P.RRP = true ∨ s.pwr.rrpWake = true) {m : List Byte}
    (hm : m = [BitVec.ofNat 8 (2 * s.get F.RRP_CFG_ADDR), 0x01, 0x80]) :
    exec (.operation true) s = .next { s with pwr := { s.pwr with rrp := .onSent, smbus := s.pwr.smbus ++ [m ++ [State.pec m]] } } := by
  subst hm
  rw [exec_operation, execOperation, if_pos rfl, if_pos ⟨hrrp, hserves⟩]
  rfl

theorem operation_off_due {s : State} (hrrp : s.pwr.rrp = RrpStep.offDue) {m : List Byte} (hm : m = [s.pwr.offAddr, 0x01, 0x00]) :
    exec (.operation false) s = .next { s with pwr := { s.pwr with rrp := .none, smbus := s.pwr.smbus ++ [m ++ [State.pec m]] } } := by
  subst hm
  rw [exec_operation, execOperation, if_neg Bool.false_ne_true, if_pos hrrp]
  rfl

/-- The state in which the port has asked for the regulator's status. -/
def State.statusAsked (s : State) : State := s.setPwr (fun p => { p with smbus := p.smbus ++ [s.statusAsk] })

theorem State.statusAsked_canonical {s : State} (c : s.canonical = true) : s.statusAsked.canonical = true := ((Keeps.refl s).setPwr _).canon c

/-- An answer counts while a request stands that has not failed. -/
theorem exec_statusByte_asked {s : State} (hrrp : s.pwr.rrp = RrpStep.voutSent ∨ s.pwr.rrp = RrpStep.onSent) (hnak : s.pwr.rrpNak = false)
    (r : RrpReply) : exec (.statusByte r) s = .next (match r with
      | .nak => (s.statusAsked.put F.RRP_STAT_RESULT 1).setPwr (fun p => { p with rrpNak := true })
      | .status b code mv =>
        if code ≠ State.pec (s.statusAsk ++ [b]) then (s.statusAsked.put F.RRP_STAT_RESULT 2).setPwr (fun p => { p with rrpNak := true })
        else
          let s1 := s.statusAsked.put F.RRP_STAT_STATUS_BYTE b.toNat
          if bitsOf b.toNat 1 7 = 0 then (if s1.supplyNear mv then s1.rrpAck else s1)
          else if bitsOf b.toNat 1 5 = 0 then s1 else s1.put F.RRP_STAT_RESULT 4) := by
  rw [exec_statusByte, execStatusByte, if_pos ⟨hrrp, by rw [hnak]; exact Bool.false_ne_true⟩]
  rfl

/-- The answer of a request that failed: the result, and that the request is to be sent again. -/
theorem State.requestFailed {s : State} (c : s.canonical = true) {v : Nat} (hv : v < 8) :
    ((s.statusAsked.put F.RRP_STAT_RESULT v).setPwr (fun p => { p with rrpNak := true })).get F.RRP_STAT_RESULT = v ∧
      ((s.statusAsked.put F.RRP_STAT_RESULT v).setPwr (fun p => { p with rrpNak := true })).get F.RRP_STAT_STATUS_BYTE =
        s.get F.RRP_STAT_STATUS_BYTE ∧
      ((s.statusAsked.put F.RRP_STAT_RESULT v).setPwr (fun p => { p with rrpNak := true })).pwr =
        { s.pwr with rrpNak := true, smbus := s.pwr.smbus ++ [s.statusAsk] } := by
  have c1 := State.statusAsked_canonical c
  have hresult : (s.statusAsked.put F.RRP_STAT_RESULT v).get F.RRP_STAT_RESULT = v :=
    (State.get_put_self c1 _ _ (by decide)).trans (Nat.mod_eq_of_lt hv)
  have hbyte : (s.statusAsked.put F.RRP_STAT_RESULT v).get F.RRP_STAT_STATUS_BYTE = s.get F.RRP_STAT_STATUS_BYTE :=
    State.get_put_other c1 _ _ _ (by decide) (by decide)
  exact ⟨hresult, hbyte, rfl⟩

theorem statusByte_nak {s : State} (c : s.canonical = true) (hrrp : s.pwr.rrp = RrpStep.voutSent ∨ s.pwr.rrp = RrpStep.onSent)
    (hnak : s.pwr.rrpNak = false) :
    ∃ t, exec (.statusByte .nak) s = .next t ∧ t.get F.RRP_STAT_RESULT = 1 ∧
      t.pwr = { s.pwr with rrpNak := true, smbus := s.pwr.smbus ++ [s.statusAsk] } := by
  obtain ⟨hresult, -, hpwr⟩ := State.requestFailed c (v := 1) (by decide)
  exact ⟨_, exec_statusByte_asked hrrp hnak .nak, hresult, hpwr⟩

theorem statusByte_badCode {s : State} (c : s.canonical = true) {b code : Byte} (mv : Nat)
    (hrrp : s.pwr.rrp = RrpStep.voutSent ∨ s.pwr.rrp = RrpStep.onSent) (hnak : s.pwr.rrpNak = false)
    (hcode : code ≠ State.pec (s.statusAsk ++ [b])) :
    ∃ t, exec (.statusByte (.status b code mv)) s = .next t ∧ t.get F.RRP_STAT_RESULT = 2 ∧
      t.get F.RRP_STAT_STATUS_BYTE = s.get F.RRP_STAT_STATUS_BYTE ∧
      t.pwr = { s.pwr with rrpNak := true, smbus := s.pwr.smbus ++ [s.statusAsk] } := by
  obtain ⟨hresult, hbyte, hpwr⟩ := State.requestFailed c (v := 2) (by decide)
  exact ⟨_, (exec_statusByte_asked hrrp hnak _).trans (congrArg Host.Outcome.next (if_pos hcode)), hresult, hbyte, hpwr⟩

/-- The state in which the status byte of an answer shows. -/
def State.statusShown (s : State) (b : Byte) : State := s.statusAsked.put F.RRP_STAT_STATUS_BYTE b.toNat

theorem State.statusShown_result {s : State} (c : s.canonical = true) (b : Byte) :
    (s.statusShown b).canonical = true ∧ (s.statusShown b).get F.RRP_STAT_STATUS_BYTE = b.toNat ∧
      (s.statusShown b).get F.PWR_OP_TARGET = s.get F.PWR_OP_TARGET ∧
      (s.statusShown b).pwr = { s.pwr with smbus := s.pwr.smbus ++ [s.statusAsk] } := by
  have c1 := State.statusAsked_canonical c
  exact ⟨((Keeps.refl _).put _ _).canon c1, (State.get_put_self c1 _ _ (by decide)).trans (Nat.mod_eq_of_lt b.isLt),
    State.get_put_other c1 _ _ _ (by decide) (by decide), rfl⟩

theorem statusByte_fault {s : State} (c : s.canonical = true) {b code : Byte} (mv : Nat)
    (hrrp : s.pwr.rrp = RrpStep.voutSent ∨ s.pwr.rrp = RrpStep.onSent) (hnak : s.pwr.rrpNak = false) (hcode : code = State.pec (s.statusAsk ++ [b]))
    (hfault : bitsOf b.toNat 1 5 ≠ 0) :
    ∃ t, exec (.statusByte (.status b code mv)) s = .next t ∧ t.get F.RRP_STAT_RESULT = 4 ∧ t.get F.RRP_STAT_STATUS_BYTE = b.toNat ∧
      t.pwr = { s.pwr with smbus := s.pwr.smbus ++ [s.statusAsk] } := by
  obtain ⟨c1, hbyte, -, hpwr⟩ := State.statusShown_result c b
  have hany : bitsOf b.toNat 1 7 ≠ 0 := by
    unfold bitsOf at hfault ⊢
    omega
  have hexec : exec (.statusByte (.status b code mv)) s = .next ((s.statusShown b).put F.RRP_STAT_RESULT 4) := by
    rw [exec_statusByte_asked hrrp hnak]
    dsimp only
    rw [if_neg (fun h => h hcode), if_neg hany, if_neg hfault]
    rfl
  refine ⟨_, hexec, State.get_put_self c1 _ _ (by decide), ?_, ?_⟩
  · rw [State.get_put_other c1 _ _ _ (by decide) (by decide), hbyte]
  · rw [State.put_pwr, hpwr]

/-- The port is idle: it asks for nothing, and BUSY is clear. -/
theorem State.rrpIdle_pwr (s : State) : s.rrpIdle.pwr = { s.pwr with rrp := .none, rrpNak := false, rrpDead := false, rrpWake := false } := by
  unfold State.rrpIdle
  rw [State.setPageSt_pwr, State.put_pwr]
  rfl

theorem Reads.rrpIdle {f : Field} {v : Nat} {a s : State} (h : Reads f v a s)
    (hd : f.addr ≠ Reg.RRP_STAT ∨ f.lo + f.width ≤ 12 ∨ 13 ≤ f.lo) (hf : f.addr ≠ Reg.PAGE_STAT P.RRP) : Reads f v a s.rrpIdle := by
  unfold State.rrpIdle
  exact ((h.setPwr _).put (g := F.RRP_STAT_BUSY) 0 (by decide) hd).setPageSt P.RRP 0 hf

/-- The operating point wanted is in force. -/
theorem State.opEnd_result {s : State} (c : s.canonical = true) :
    s.opEnd.get F.PWR_OP_ACTIVE = s.get F.PWR_OP_TARGET ∧ s.opEnd.get F.PWR_OP_BUSY = 0 := by
  have c1 : (s.put F.PWR_OP_ACTIVE (s.get F.PWR_OP_TARGET)).canonical = true := ((Keeps.refl s).put _ _).canon c
  have c2 := ((Keeps.refl _).put F.PWR_OP_BUSY 0).canon c1
  have hactive : ((s.put F.PWR_OP_ACTIVE (s.get F.PWR_OP_TARGET)).put F.PWR_OP_BUSY 0).get F.PWR_OP_ACTIVE = s.get F.PWR_OP_TARGET := by
    rw [State.get_put_other c1 _ _ _ (by decide) (by decide)]
    exact (State.get_put_self c _ _ (by decide)).trans (Nat.mod_eq_of_lt (s.get_lt F.PWR_OP_TARGET))
  have hbusy : ((s.put F.PWR_OP_ACTIVE (s.get F.PWR_OP_TARGET)).put F.PWR_OP_BUSY 0).get F.PWR_OP_BUSY = 0 := State.get_put_self c1 _ _ (by decide)
  have rest {f : Field} {v : Nat} (hf : f.addr = Reg.PWR_OP) :
      Reads f v ((s.put F.PWR_OP_ACTIVE (s.get F.PWR_OP_TARGET)).put F.PWR_OP_BUSY 0) s.opEnd := by
    have hflag := (Reads.refl f v ((s.put F.PWR_OP_ACTIVE (s.get F.PWR_OP_TARGET)).put F.PWR_OP_BUSY 0)).flag P.PWR 1 (by rw [hf]; decide)
    exact hflag.frame (Frame.waitUpdate (w := 0x8000000000000) (Frame.refl _ _) (by decide) _ _) (by rw [hf]; decide)
  exact ⟨(rest rfl).get c2 hactive, (rest rfl).get c2 hbusy⟩

theorem State.opMv_eq (s : State) : State.opMv (s.get F.PWR_OP_TARGET) =
    if s.get F.PWR_OP_TARGET = 0 then 650 else if s.get F.PWR_OP_TARGET = 1 then 750 else 850 := by
  rcases s.get F.PWR_OP_TARGET with _ | _ | _ | n <;> rfl

theorem statusByte_acknowledged {s : State} (c : s.canonical = true) {b code : Byte} {mv v : Nat} (hrrp : s.pwr.rrp = RrpStep.voutSent)
    (hnak : s.pwr.rrpNak = false) (hwake : s.pwr.rrpWake = false) (hcode : code = State.pec (s.statusAsk ++ [b])) (hgood : bitsOf b.toNat 1 7 = 0)
    (hv : v = if s.get F.PWR_OP_TARGET = 0 then 650 else if s.get F.PWR_OP_TARGET = 1 then 750 else 850) (hlow : 97 * v ≤ 100 * mv)
    (hhigh : 100 * mv ≤ 103 * v) :
    ∃ t, exec (.statusByte (.status b code mv)) s = .next t ∧ t.pwr.rrp = RrpStep.none ∧ t.get F.RRP_STAT_RESULT = 0 ∧
      t.get F.RRP_STAT_STATUS_BYTE = b.toNat ∧ t.get F.PWR_OP_ACTIVE = s.get F.PWR_OP_TARGET ∧ t.get F.PWR_OP_BUSY = 0 := by
  obtain ⟨c1, hbyte, htarget, hpwr⟩ := State.statusShown_result c b
  have hnear : (s.statusShown b).supplyNear mv = true := by
    unfold State.supplyNear
    rw [htarget, State.opMv_eq, ← hv]
    dsimp only
    rw [decide_eq_true hlow, decide_eq_true hhigh]
    rfl
  have hrrp1 : (s.statusShown b).pwr.rrp = RrpStep.voutSent := by rw [hpwr]; exact hrrp
  have hwake1 : (s.statusShown b).pwr.rrpWake = false := by rw [hpwr]; exact hwake
  have hexec : exec (.statusByte (.status b code mv)) s = .next ((s.statusShown b).rrpAck) := by
    rw [exec_statusByte_asked (Or.inl hrrp) hnak]
    dsimp only
    rw [if_neg (fun h => h hcode), if_pos hgood]
    exact congrArg Host.Outcome.next (if_pos hnear)
  refine ⟨_, hexec, ?_⟩
  generalize s.statusShown b = u at *
  have hack : u.rrpAck = ((u.put F.RRP_STAT_RESULT 0).flag P.RRP 0).rrpIdle.opEnd := by
    unfold State.rrpAck
    dsimp only
    rw [hwake1, if_neg (by rw [hrrp1]; decide), if_neg Bool.false_ne_true]
  have c2 : (u.put F.RRP_STAT_RESULT 0).canonical = true := ((Keeps.refl u).put _ _).canon c1
  have idle {f : Field} {x : Nat} (hd : f.addr ≠ Reg.RRP_STAT ∨ f.lo + f.width ≤ 12 ∨ 13 ≤ f.lo)
      (hf : f.addr ≠ Reg.PAGE_STAT P.RRP ∧ f.addr ≠ Reg.IRQ_RAW P.RRP) :
      Reads f x (u.put F.RRP_STAT_RESULT 0) ((u.put F.RRP_STAT_RESULT 0).flag P.RRP 0).rrpIdle :=
    ((Reads.refl f x _).flag P.RRP 0 hf.2).rrpIdle hd hf.1
  have hresult := (idle (by decide) (by decide)).get c2 (State.get_put_self c1 F.RRP_STAT_RESULT 0 (by decide))
  have hbyte1 := (idle (by decide) (by decide)).get c2 ((State.get_put_other c1 F.RRP_STAT_RESULT F.RRP_STAT_STATUS_BYTE 0 (by decide)
    (by decide)).trans hbyte)
  have htarget1 := (idle (by decide) (by decide)).get c2 ((State.get_put_other c1 F.RRP_STAT_RESULT F.PWR_OP_TARGET 0 (by decide)
    (by decide)).trans htarget)
  have cidle := (idle (f := F.PWR_OP_TARGET) (x := 0) (by decide) (by decide)).canon c2
  have hnone : ((u.put F.RRP_STAT_RESULT 0).flag P.RRP 0).rrpIdle.pwr.rrp = RrpStep.none := by rw [State.rrpIdle_pwr]
  rw [hack]
  generalize ((u.put F.RRP_STAT_RESULT 0).flag P.RRP 0).rrpIdle = t at *
  obtain ⟨hactive, hbusy⟩ := State.opEnd_result cidle
  have hend := Frame.opEnd (w := 0x8000200000000) (Frame.refl _ t) (by decide)
  exact ⟨(congrArg Pwr.rrp (hend.pwr (by decide))).trans hnone, (hend.get cidle _ (by decide)).trans hresult,
    (hend.get cidle _ (by decide)).trans hbyte1, hactive.trans htarget1, hbusy⟩

end Sys2Proof.Machine
end

section
/-! SUPPORT. RRP_RESEND and RRP_TIMEOUT (18 R424): a request that is sent again, and one that is given up. -/

namespace Sys2Proof.Machine

/-- A request that is sent again. -/
theorem State.rrpAgain_pwr (s : State) : s.rrpAgain.pwr =
    { s.pwr with rrpNak := false, rrp := if s.pwr.rrp = RrpStep.onSent then RrpStep.onDue else RrpStep.voutDue } := by
  have hcount := Frame.countSat (w := 0x800000000) (f := F.RRP_COUNTS_RETRIES) (Frame.flag (p := P.RRP) (n := 2)
    (Frame.refl _ (s.setPwr (fun p => { p with rrpNak := false, rrp := if p.rrp = .onSent then .onDue else .voutDue }))) (Or.inr (by decide)))
    (Or.inr (by decide))
  unfold State.rrpAgain
  rw [hcount.pwr (by decide)]
  rfl

theorem Reads.rrpAgain {f : Field} {v : Nat} {a s : State} (h : Reads f v a s) (hirq : f.addr ≠ Reg.IRQ_RAW P.RRP)
    (hcount : f.addr ≠ Reg.RRP_COUNTS) : Reads f v a s.rrpAgain := by
  unfold State.rrpAgain
  exact ((h.setPwr _).flag P.RRP 2 hirq).aside ((TxAside.refl f.addr _).countSat hcount) rfl

theorem rrpResend_failed {s : State} (c : s.canonical = true) (hnak : s.pwr.rrpNak = true)
    (hcount : s.get F.RRP_COUNTS_RETRIES + 1 < 2 ^ F.RRP_COUNTS_RETRIES.width) :
    ∃ t, exec .rrpResend s = .next t ∧
      t.pwr = { s.pwr with rrpNak := false, rrp := (if s.pwr.rrp = RrpStep.onSent then RrpStep.onDue else RrpStep.voutDue) } ∧
      t.get F.RRP_COUNTS_RETRIES = s.get F.RRP_COUNTS_RETRIES + 1 := by
  refine ⟨_, (exec_rrpResend s).trans (congrArg Host.Outcome.next (if_pos hnak)), s.rrpAgain_pwr, ?_⟩
  have hflag := ((Reads.refl F.RRP_COUNTS_RETRIES (s.get F.RRP_COUNTS_RETRIES) s).setPwr
    (fun p => { p with rrpNak := false, rrp := if p.rrp = .onSent then .onDue else .voutDue })).flag P.RRP 2 (by decide)
  have hkept := hflag.get c rfl
  have c1 := hflag.canon c
  unfold State.rrpAgain
  rw [State.get_countSat_self c1 _ (by decide) (by rw [hkept]; exact hcount), hkept]

theorem rrpTimeout_again {s : State} (c : s.canonical = true) (hrrp : s.pwr.rrp = RrpStep.voutSent ∨ s.pwr.rrp = RrpStep.onSent)
    (hleft : 0 < s.pwr.rrpLeft) :
    ∃ t, exec .rrpTimeout s = .next t ∧
      t.pwr = { s.pwr with rrpNak := false, rrp := (if s.pwr.rrp = RrpStep.onSent then RrpStep.onDue else RrpStep.voutDue),
                           rrpLeft := s.pwr.rrpLeft - 1 } ∧ t.get F.RRP_STAT_RESULT = 3 := by
  have hexec : exec .rrpTimeout s =
      .next (((s.put F.RRP_STAT_RESULT 3).setPwr (fun p => { p with rrpLeft := p.rrpLeft - 1 })).rrpAgain) := by
    rw [exec_rrpTimeout, execRrpTimeout, if_pos hrrp]
    dsimp only
    rw [if_pos (by rw [State.put_pwr]; exact hleft)]
  have c1 : (s.put F.RRP_STAT_RESULT 3).canonical = true := ((Keeps.refl s).put _ _).canon c
  have hresult : (s.put F.RRP_STAT_RESULT 3).get F.RRP_STAT_RESULT = 3 := State.get_put_self c _ _ (by decide)
  have hpwr : ((s.put F.RRP_STAT_RESULT 3).setPwr (fun p => { p with rrpLeft := p.rrpLeft - 1 })).pwr =
      { s.pwr with rrpLeft := s.pwr.rrpLeft - 1 } := rfl
  refine ⟨_, hexec, ?_, ?_⟩
  · rw [State.rrpAgain_pwr, hpwr]
  · have hless := (Reads.refl F.RRP_STAT_RESULT 3 (s.put F.RRP_STAT_RESULT 3)).setPwr (fun p => { p with rrpLeft := p.rrpLeft - 1 })
    exact (hless.rrpAgain (by decide) (by decide)).get c1 hresult

/-- The state in which a request that timed out for the last time is reported. -/
def State.timeoutReported (s : State) : State :=
  (((s.flag P.RRP 1).countSat F.RRP_COUNTS_FAILURES).reportFault uRrp .transient true).setPwr (fun p => { p with rrpDead := true })

theorem State.timeoutReported_pwr (s : State) : s.timeoutReported.pwr = { s.pwr with rrpDead := true } := by
  have hreported := Frame.reportFault (w := 0x61880000800000180) (Frame.countSat (f := F.RRP_COUNTS_FAILURES) (Frame.flag (p := P.RRP) (n := 1)
    (Frame.refl _ s) (Or.inr (by decide))) (Or.inr (by decide))) (by decide) uRrp .transient true
  have hpwr := hreported.pwr (by decide)
  unfold State.timeoutReported State.setPwr
  rw [hpwr]

theorem Reads.timeoutReported {f : Field} {v : Nat} {a s : State} (h : Reads f v a s) (hp : pageIx f.addr = P.RRP ∨ pageIx f.addr = P.PWR)
    (hirq : f.addr ≠ Reg.IRQ_RAW P.RRP) (hcount : f.addr ≠ Reg.RRP_COUNTS) : Reads f v a s.timeoutReported := by
  have hshown := (h.flag P.RRP 1 hirq).aside ((TxAside.refl f.addr _).countSat (f := F.RRP_COUNTS_FAILURES) hcount) rfl
  have hreported := hshown.frame (Frame.reportFault (w := 0x61880000000000180) (Frame.refl _ _) (by decide) uRrp .transient true)
    (by rcases hp with e | e <;> rw [e] <;> decide)
  exact hreported.setPwr _

/-- The state in which the port has given a request up, and the lower of the two operating points is in force (18 R424). -/
def State.requestGivenUp (s : State) : State :=
  let low := min (s.get F.PWR_OP_ACTIVE) (s.get F.PWR_OP_TARGET)
  let s2 := ((s.rrpIdle.put F.RRP_STAT_HOLDING 1).put F.PWR_OP_ACTIVE low).put F.PWR_OP_BUSY 0
  (s2.flag P.PWR 2).waitUpdate low s2.sysKhz

theorem State.requestGivenUp_result {s : State} (c : s.canonical = true) :
    s.requestGivenUp.pwr.rrp = RrpStep.none ∧ s.requestGivenUp.get F.RRP_STAT_RESULT = s.get F.RRP_STAT_RESULT ∧
      s.requestGivenUp.get F.RRP_STAT_HOLDING = 1 ∧ s.requestGivenUp.get F.PWR_OP_BUSY = 0 ∧
      s.requestGivenUp.get F.PWR_OP_ACTIVE = min (s.get F.PWR_OP_ACTIVE) (s.get F.PWR_OP_TARGET) := by
  have hidle := (Reads.refl F.RRP_STAT_RESULT (s.get F.RRP_STAT_RESULT) s).rrpIdle (by decide) (by decide)
  have hresult := hidle.get c rfl
  have c1 := hidle.canon c
  have hnone : s.rrpIdle.pwr.rrp = RrpStep.none := by rw [State.rrpIdle_pwr]
  have hlow : min (s.get F.PWR_OP_ACTIVE) (s.get F.PWR_OP_TARGET) < 4 :=
    (Nat.min_le_right _ _).trans_lt (s.get_lt F.PWR_OP_TARGET)
  unfold State.requestGivenUp
  dsimp only
  generalize min (s.get F.PWR_OP_ACTIVE) (s.get F.PWR_OP_TARGET) = low at *
  generalize s.rrpIdle = u at *
  have c2 := ((Keeps.refl u).put F.RRP_STAT_HOLDING 1).canon c1
  have c3 := ((Keeps.refl _).put F.PWR_OP_ACTIVE low).canon c2
  have c4 := ((Keeps.refl _).put F.PWR_OP_BUSY 0).canon c3
  have hpwr : (((u.put F.RRP_STAT_HOLDING 1).put F.PWR_OP_ACTIVE low).put F.PWR_OP_BUSY 0).pwr.rrp = RrpStep.none := by
    rw [State.put_pwr, State.put_pwr, State.put_pwr, hnone]
  have hres : (((u.put F.RRP_STAT_HOLDING 1).put F.PWR_OP_ACTIVE low).put F.PWR_OP_BUSY 0).get F.RRP_STAT_RESULT = s.get F.RRP_STAT_RESULT := by
    rw [State.get_put_other c3 _ _ _ (by decide) (by decide), State.get_put_other c2 _ _ _ (by decide) (by decide),
      State.get_put_other c1 _ _ _ (by decide) (by decide), hresult]
  have hholding : (((u.put F.RRP_STAT_HOLDING 1).put F.PWR_OP_ACTIVE low).put F.PWR_OP_BUSY 0).get F.RRP_STAT_HOLDING = 1 := by
    rw [State.get_put_other c3 _ _ _ (by decide) (by decide), State.get_put_other c2 _ _ _ (by decide) (by decide)]
    exact State.get_put_self c1 _ _ (by decide)
  have hbusy : (((u.put F.RRP_STAT_HOLDING 1).put F.PWR_OP_ACTIVE low).put F.PWR_OP_BUSY 0).get F.PWR_OP_BUSY = 0 :=
    State.get_put_self c3 _ _ (by decide)
  have hactive : (((u.put F.RRP_STAT_HOLDING 1).put F.PWR_OP_ACTIVE low).put F.PWR_OP_BUSY 0).get F.PWR_OP_ACTIVE = low := by
    rw [State.get_put_other c3 _ _ _ (by decide) (by decide)]
    exact (State.get_put_self c2 _ _ (by decide)).trans (Nat.mod_eq_of_lt hlow)
  generalize ((u.put F.RRP_STAT_HOLDING 1).put F.PWR_OP_ACTIVE low).put F.PWR_OP_BUSY 0 = t at *
  have rest {f : Field} {v : Nat} (hirq : f.addr ≠ Reg.IRQ_RAW P.PWR) (hp : pageIx f.addr = P.RRP ∨ pageIx f.addr = P.PWR) :
      Reads f v t ((t.flag P.PWR 2).waitUpdate low t.sysKhz) :=
    ((Reads.refl f v t).flag P.PWR 2 hirq).frame (Frame.waitUpdate (w := 0x8000000000000) (Frame.refl _ _) (by decide) _ _)
      (by rcases hp with e | e <;> rw [e] <;> decide)
  have hframe := Frame.waitUpdate (w := 0x8000200000000) (Frame.flag (p := P.PWR) (n := 2) (Frame.refl _ t) (Or.inr (by decide)))
    (by decide) low t.sysKhz
  exact ⟨(congrArg Pwr.rrp (hframe.pwr (by decide))).trans hpwr, (rest (by decide) (by decide)).get c4 hres,
    (rest (by decide) (by decide)).get c4 hholding, (rest (by decide) (by decide)).get c4 hbusy, (rest (by decide) (by decide)).get c4 hactive⟩

theorem rrpTimeout_gives_up {s : State} (c : s.canonical = true) (hrrp : s.pwr.rrp = RrpStep.voutSent ∨ s.pwr.rrp = RrpStep.onSent)
    (hleft : s.pwr.rrpLeft = 0) (hdead : s.pwr.rrpDead = false) (hwake : s.pwr.rrpWake = false) (hfail : s.on F.RRP_CFG_ON_FAIL = false) :
    ∃ t, exec .rrpTimeout s = .next t ∧ t.pwr.rrp = RrpStep.none ∧ t.get F.RRP_STAT_RESULT = 3 ∧ t.get F.RRP_STAT_HOLDING = 1 ∧
      t.get F.PWR_OP_BUSY = 0 ∧ t.get F.PWR_OP_ACTIVE = min (s.get F.PWR_OP_ACTIVE) (s.get F.PWR_OP_TARGET) := by
  have c1 : (s.put F.RRP_STAT_RESULT 3).canonical = true := ((Keeps.refl s).put _ _).canon c
  have shown {f : Field} {v : Nat} (hp : pageIx f.addr = P.RRP ∨ pageIx f.addr = P.PWR) (hirq : f.addr ≠ Reg.IRQ_RAW P.RRP)
      (hcount : f.addr ≠ Reg.RRP_COUNTS) : Reads f v (s.put F.RRP_STAT_RESULT 3) (s.put F.RRP_STAT_RESULT 3).timeoutReported :=
    (Reads.refl f v _).timeoutReported hp hirq hcount
  have other (f : Field) (hf : f.addr ≠ Reg.RRP_STAT) (hp : pageIx f.addr = P.RRP ∨ pageIx f.addr = P.PWR) (hirq : f.addr ≠ Reg.IRQ_RAW P.RRP)
      (hcount : f.addr ≠ Reg.RRP_COUNTS) : (s.put F.RRP_STAT_RESULT 3).timeoutReported.get f = s.get f :=
    (shown hp hirq hcount).get c1 (State.get_put_other c _ _ _ (by decide) (Or.inl hf))
  have hresult := (shown (by decide) (by decide) (by decide)).get c1 (State.get_put_self c F.RRP_STAT_RESULT 3 (by decide))
  have c2 := (shown (f := F.RRP_STAT_RESULT) (v := 3) (by decide) (by decide) (by decide)).canon c1
  have hactive := other F.PWR_OP_ACTIVE (by decide) (by decide) (by decide) (by decide)
  have htarget := other F.PWR_OP_TARGET (by decide) (by decide) (by decide) (by decide)
  have hstays : ((s.put F.RRP_STAT_RESULT 3).timeoutReported.pwr.rrpWake || (s.put F.RRP_STAT_RESULT 3).timeoutReported.on F.RRP_CFG_ON_FAIL) =
      false := by
    have honFail := other F.RRP_CFG_ON_FAIL (by decide) (by decide) (by decide) (by decide)
    unfold State.on at hfail ⊢
    rw [honFail, hfail, State.timeoutReported_pwr, State.put_pwr, Bool.or_false]
    exact hwake
  have hexec : exec .rrpTimeout s = .next ((s.put F.RRP_STAT_RESULT 3).timeoutReported.requestGivenUp) := by
    have hreport : (if (s.put F.RRP_STAT_RESULT 3).pwr.rrpDead then s.put F.RRP_STAT_RESULT 3 else
        ((((s.put F.RRP_STAT_RESULT 3).flag P.RRP 1).countSat F.RRP_COUNTS_FAILURES).reportFault uRrp .transient true).setPwr
          (fun p => { p with rrpDead := true })) = (s.put F.RRP_STAT_RESULT 3).timeoutReported :=
      if_neg (by rw [State.put_pwr, hdead]; exact Bool.false_ne_true)
    rw [exec_rrpTimeout, execRrpTimeout, if_pos hrrp]
    dsimp only
    rw [if_neg (by rw [State.put_pwr, hleft]; decide), hreport, hstays, if_neg Bool.false_ne_true]
    rfl
  obtain ⟨hnone, hres, hholding, hbusy, hlow⟩ := State.requestGivenUp_result c2
  rw [hactive, htarget] at hlow
  exact ⟨_, hexec, hnone, hres.trans hresult, hholding, hbusy, hlow⟩

/-- Settles O32: the rows of the clocks and of the regulator port, each evaluated through its own law. -/
theorem clockAndRegulatorCommandsComplete : Obligations.ClockAndRegulatorCommandsComplete := by
  unfold Obligations.ClockAndRegulatorCommandsComplete
  refine ⟨?clkCfg, ?switched, ?stable, ?lock, ?fail, ?failUnmonitored, ?lfxoFail, ?lfxoReturn, ?failsToStart, ?vout, ?opOn, ?opOff, ?nak, ?badCode,
    ?ack, ?fault, ?resend, ?again, ?givesUp⟩
  case clkCfg =>
    intro s i w r htakes c hen
    exact clkCfgWrite_taken htakes c hen
  case switched =>
    intro s c hswitching hruns
    exact switched_runs c hswitching hruns
  case stable =>
    intro s c hon hoff hwanted
    exact hfxoStable_wanted c hon hoff hwanted
  case lock =>
    intro s c hon hheld hop
    exact pllLock_held c hon hheld hop
  case fail =>
    intro s c hon hmon
    exact hfxoFail_monitored c hon hmon
  case failUnmonitored =>
    intro s _ hon hmon
    exact hfxoFail_unmonitored hon hmon
  case lfxoFail =>
    intro s c hon
    exact lfxoFail_running c hon
  case lfxoReturn =>
    intro s c hen hstate
    exact lfxoReturn_enabled c hen hstate
  case failsToStart =>
    intro s o c hwait hoff hop hsrc
    exact hfxoFailsToStart_waiting c hwait hoff hop hsrc
  case vout =>
    intro s v m hrrp hserves hv hm
    exact ⟨_, voutCommand_due hrrp hserves (hv.trans s.voutCode_eq.symm) hm, rfl⟩
  case opOn =>
    intro s m hrrp hserves hm
    exact ⟨_, operation_on_due hrrp hserves hm, rfl⟩
  case opOff =>
    intro s m hrrp hm
    exact ⟨_, operation_off_due hrrp hm, rfl⟩
  case nak =>
    intro s c hrrp hnak
    exact statusByte_nak c hrrp hnak
  case badCode =>
    intro s b code mv c hrrp hnak hcode
    exact statusByte_badCode c mv hrrp hnak hcode
  case ack =>
    intro s b code mv v c hrrp hnak hwake hcode hgood hv hlow hhigh
    exact statusByte_acknowledged c hrrp hnak hwake hcode hgood hv hlow hhigh
  case fault =>
    intro s b code mv c hrrp hnak hcode hfault
    exact statusByte_fault c mv hrrp hnak hcode hfault
  case resend =>
    intro s c hnak hcount
    exact rrpResend_failed c hnak hcount
  case again =>
    intro s c hrrp hleft
    exact rrpTimeout_again c hrrp hleft
  case givesUp =>
    intro s c hrrp hleft hdead hwake hfail
    exact rrpTimeout_gives_up c hrrp hleft hdead hwake hfail

end Sys2Proof.Machine
end

section
/-! SUPPORT. What the timers leave of the time base (08 R196, R205, R211): the relation `TimeHeld` between a state and a later one, with one law for
each operation of the alarms and the timers. -/

namespace Sys2Proof.Machine

theorem forN_succ (n : Nat) (f : Nat → State → State) (s : State) : forN (n + 1) f s = f n (forN n f s) := by
  unfold forN
  rw [List.range_succ, List.foldl_append]
  rfl

/-- What each step of a repetition keeps, the repetition keeps. -/
theorem forN_induction {p : State → Prop} {n : Nat} {f : Nat → State → State} {s : State} (h : p s) (g : ∀ i < n, ∀ u, p u → p (f i u)) :
    p (forN n f s) := by
  induction n with
  | zero => exact h
  | succ n ih =>
    rw [forN_succ]
    exact g n n.lt_succ_self _ (ih (fun i hi => g i (hi.trans n.lt_succ_self)))

theorem pageIx_irqRaw (p : Nat) : pageIx (Reg.IRQ_RAW p) = p := by unfold pageIx Reg.IRQ_RAW; omega

theorem pageIx_pageStat (p : Nat) : pageIx (Reg.PAGE_STAT p) = p := by unfold pageIx Reg.PAGE_STAT; omega

/-- The pages of the general and the low-power timers. -/
def timerPage (p : Nat) : Bool := decide (P.TMR 0 ≤ p) && decide (p ≤ P.LPT)

theorem timerPage_tmr {t : Nat} (ht : t < 4) : timerPage (P.TMR t) = true :=
  (by decide : ∀ k < 4, timerPage (P.TMR k) = true) t ht

/-- From `a` to `t` the count stands, and nothing changes of the alarms but those of `ns`, of the registers but the timers' pages and the flags of the
time base, and the power state stays. -/
structure TimeHeld (ns : List Nat) (a t : State) : Prop where
  keeps : Keeps a t
  count : t.count = a.count
  length : t.alarms.length = a.alarms.length
  alarm : ∀ m ∉ ns, t.alarms[m]? = a.alarms[m]?
  power : t.pwr.state = a.pwr.state
  reg : a.canonical = true → ∀ x, x ≠ Reg.IRQ_RAW P.TMB → timerPage (pageIx x) = false → t.reg x = a.reg x

namespace TimeHeld

variable {ns : List Nat} {a s t : State}

theorem refl (ns : List Nat) (a : State) : TimeHeld ns a a := ⟨Keeps.refl a, rfl, rfl, fun _ _ => rfl, rfl, fun _ _ _ _ => rfl⟩

theorem trans (h : TimeHeld ns a s) (g : TimeHeld ns s t) : TimeHeld ns a t :=
  ⟨h.keeps.trans g.keeps, g.count.trans h.count, g.length.trans h.length, fun m hm => (g.alarm m hm).trans (h.alarm m hm), g.power.trans h.power,
    fun c x hx hp => (g.reg (h.keeps.canon c) x hx hp).trans (h.reg c x hx hp)⟩

theorem canon (h : TimeHeld ns a t) (c : a.canonical = true) : t.canonical = true := h.keeps.canon c

/-- A field of a register that is held reads as before. -/
theorem get (h : TimeHeld ns a t) (c : a.canonical = true) (f : Field) (hx : f.addr ≠ Reg.IRQ_RAW P.TMB) (hp : timerPage (pageIx f.addr) = false) :
    t.get f = a.get f := by
  unfold State.get
  rw [h.reg c f.addr hx hp]

theorem getAlarm (h : TimeHeld ns a t) {m : Nat} (hm : m ∉ ns) : t.alarm m = a.alarm m := by
  unfold State.alarm
  rw [List.getD_eq_getElem?_getD, List.getD_eq_getElem?_getD, h.alarm m hm]

theorem alarms (h : TimeHeld [] a t) : t.alarms = a.alarms := List.ext_getElem? (fun m => h.alarm m List.not_mem_nil)

theorem ite {c : Prop} [Decidable c] (h : TimeHeld ns a s) (g : TimeHeld ns a t) : TimeHeld ns a (if c then s else t) := by
  split <;> assumption

/-- An update of parts that the relation says nothing about. -/
theorem same (h : TimeHeld ns a s) (k : Keeps s t) (hc : t.count = s.count) (ha : t.alarms = s.alarms) (hp : t.pwr.state = s.pwr.state)
    (hr : t.regs = s.regs) : TimeHeld ns a t :=
  h.trans ⟨k, hc, by rw [ha], fun _ _ => by rw [ha], hp, fun _ x _ _ => State.reg_of_regs hr x⟩

theorem setReg (h : TimeHeld ns a s) {y : Nat} (v : Word) (hy : y = Reg.IRQ_RAW P.TMB ∨ timerPage (pageIx y) = true) :
    TimeHeld ns a (s.setReg y v) := by
  refine h.trans ⟨(Keeps.refl s).setReg y v, s.setReg_count y v, by rw [State.setReg_alarms], fun m _ => by rw [State.setReg_alarms],
    by rw [State.setReg_pwr], fun c x hx hp => ?_⟩
  rw [State.reg_setReg c, if_neg]
  rintro rfl
  rcases hy with rfl | hy
  · exact hx rfl
  · exact Bool.false_ne_true (hp.symm.trans hy)

theorem put (h : TimeHeld ns a s) {f : Field} (v : Nat) (hf : timerPage (pageIx f.addr) = true) : TimeHeld ns a (s.put f v) :=
  h.setReg _ (Or.inr hf)

theorem setPageSt (h : TimeHeld ns a s) {p : Nat} (hp : timerPage p = true) (v : Nat) : TimeHeld ns a (s.setPageSt p v) :=
  h.setReg _ (Or.inr ((pageIx_pageStat p).symm ▸ hp))

theorem flag (h : TimeHeld ns a s) {p : Nat} (hp : p = P.TMB ∨ timerPage p = true) (n : Nat) : TimeHeld ns a (s.flag p n) := by
  unfold State.flag
  refine (h.setReg _ ?_).ite h
  exact hp.imp (congrArg Reg.IRQ_RAW) (fun hp => (pageIx_irqRaw p).symm ▸ hp)

theorem event (h : TimeHeld ns a s) (p n : Nat) : TimeHeld ns a (s.event p n) := by
  have hframe := Frame.event (w := 0x80) (Frame.refl _ s) (by decide) p n
  have htime := hframe.2.1 .time (by decide)
  simp only [State.same, Prod.mk.injEq] at htime
  obtain ⟨hcount, halarms, -⟩ := htime
  have hregs : (s.event p n).regs = s.regs := by
    unfold State.event
    dsimp only
    split_ifs <;> rfl
  exact h.same hframe.1 hcount halarms (by rw [hframe.pwr (by decide)]) hregs

theorem wake (h : TimeHeld ns a s) (code : Nat) : TimeHeld ns a (s.wake code) := by
  unfold State.wake
  refine h.ite (h.same (Keeps.upd (Keeps.refl s) rfl (OtpKept.refl _)) ?_ ?_ ?_ ?_) <;> rfl

theorem withTmrs (h : TimeHeld ns a s) (ts : List Tmr) : TimeHeld ns a { s with tmrs := ts } := by
  refine h.same (Keeps.upd (Keeps.refl s) rfl (OtpKept.refl _)) ?_ ?_ ?_ ?_ <;> rfl

theorem withLpts (h : TimeHeld ns a s) (ts : List Lpt) : TimeHeld ns a { s with lpts := ts } := by
  refine h.same (Keeps.upd (Keeps.refl s) rfl (OtpKept.refl _)) ?_ ?_ ?_ ?_ <;> rfl

/-! The general timers (08 R205 to R209). -/

section

variable {k : Nat} (hk : k < 4)
include hk

theorem tmrCmpRaise (h : TimeHeld ns a s) (c : Nat) : TimeHeld ns a (s.tmrCmpRaise k c) := (h.flag (Or.inr (timerPage_tmr hk)) _).event _ _

theorem tmrMatch (h : TimeHeld ns a s) : TimeHeld ns a (s.tmrMatch k) := by
  unfold State.tmrMatch
  exact forN_induction h (fun c _ u hu => (hu.tmrCmpRaise hk c).ite hu)

theorem tmrShow (h : TimeHeld ns a s) : TimeHeld ns a (s.tmrShow k) := by
  unfold State.tmrShow
  exact ((((h.flag (Or.inr (timerPage_tmr hk)) 0).event _ 0).ite h).tmrMatch hk)

theorem putTmrCount (h : TimeHeld ns a s) (v : Nat) : TimeHeld ns a (s.put (F.TMR_COUNT_COUNT k) v) := by
  refine h.put v ?_
  have hpage : pageIx (F.TMR_COUNT_COUNT k).addr = P.TMR k := by unfold pageIx F.TMR_COUNT_COUNT Reg.TMR_COUNT P.TMR; dsimp only; omega
  rw [hpage]
  exact timerPage_tmr hk

theorem tmrWrap (h : TimeHeld ns a s) : TimeHeld ns a (s.tmrWrap k) := by
  unfold State.tmrWrap
  have hload : TimeHeld ns a ((s.put (F.TMR_COUNT_COUNT k) 0).tmrLoad k) := (h.putTmrCount hk 0).withTmrs _
  exact ((hload.setPageSt (timerPage_tmr hk) 0).tmrMatch hk).ite (hload.tmrShow hk)

theorem tmrCycle (h : TimeHeld ns a s) : TimeHeld ns a (s.tmrCycle k) := by
  unfold State.tmrCycle
  exact ((h.tmrWrap hk).ite ((h.putTmrCount hk _).tmrShow hk)).ite h

theorem tmrFine (h : TimeHeld ns a s) : TimeHeld ns a (s.tmrFine k) := by
  unfold State.tmrFine
  exact h.ite (forN_induction (h.withTmrs _) (fun _ _ u hu => hu.tmrCycle hk))

theorem tmrSlow (h : TimeHeld ns a s) : TimeHeld ns a (s.tmrSlow k) := by
  unfold State.tmrSlow
  exact (forN_induction (h.withTmrs _) (fun _ _ u hu => hu.tmrCycle hk)).ite h

end

/-! The low-power timers (08 R211). -/

theorem lptWake (h : TimeHeld ns a s) (m : Nat) : TimeHeld ns a (s.lptWake m) := by
  unfold State.lptWake
  exact (h.wake _).ite h

theorem lptCmpRaise (h : TimeHeld ns a s) (m : Nat) : TimeHeld ns a (s.lptCmpRaise m) :=
  ((h.flag (Or.inr (by decide)) _).event _ _).lptWake m

theorem lptShow (h : TimeHeld ns a s) (m : Nat) : TimeHeld ns a (s.lptShow m) := by
  unfold State.lptShow
  have hwrap := (((h.flag (p := P.LPT) (Or.inr (by decide)) (2 * m)).event P.LPT (2 * m)).lptWake m).ite (c := s.lptAtWrap m = true) h
  exact (hwrap.lptCmpRaise m).ite hwrap

theorem lptCycle (h : TimeHeld ns a s) {m : Nat} (hm : m < 2) : TimeHeld ns a (s.lptCycle m) := by
  have hpage : timerPage (pageIx (F.LPT_T_COUNT_COUNT m).addr) = true := by
    unfold timerPage pageIx F.LPT_T_COUNT_COUNT Reg.LPT_T_COUNT P.TMR P.LPT
    simp only [Bool.and_eq_true, decide_eq_true_eq]
    omega
  unfold State.lptCycle State.lptWrap
  exact ((((h.put 0 hpage).withLpts _).lptShow m).ite ((h.put _ hpage).lptShow m)).ite h

/-! The alarms (08 R200 to R202). -/

theorem setAlarm (h : TimeHeld ns a s) {n : Nat} (hn : n ∈ ns) (x : Alarm) : TimeHeld ns a (s.setAlarm n x) := by
  refine h.trans ⟨(Keeps.refl s).setAlarm n x, rfl, List.length_set, fun m hm => ?_, rfl, fun _ _ _ _ => rfl⟩
  exact List.getElem?_set_ne (fun e : n = m => hm (e ▸ hn))

theorem alarmFire (h : TimeHeld ns a s) {n : Nat} (hn : n ∈ ns) (late : Bool) : TimeHeld ns a (s.alarmFire n late) := by
  unfold State.alarmFire
  have hfired := ((h.setAlarm hn { s.alarm n with armed := false, late := late }).flag (Or.inl rfl) n).event P.TMB n
  exact (hfired.wake _).ite hfired

theorem alarmEffect (h : TimeHeld ns a s) {n : Nat} (hn : n ∈ ns) : TimeHeld ns a (s.alarmEffect n) := by
  unfold State.alarmEffect
  split
  · exact h
  · exact ((h.setAlarm hn _).alarmFire hn _).ite (h.setAlarm hn _)

theorem alarmTick (h : TimeHeld ns a s) {n : Nat} (hn : n ∈ ns) : TimeHeld ns a (s.alarmTick n) := by
  unfold State.alarmTick
  have hfired := (h.alarmFire hn false).ite (c := ((s.alarm n).armed && alarmDue s.count (s.alarm n).cmp) = true) h
  dsimp only
  split
  · exact hfired
  · exact (hfired.alarmEffect hn).ite (hfired.setAlarm hn _)

theorem alarmsTick (h : TimeHeld (List.range 8) a s) : TimeHeld (List.range 8) a s.alarmsTick := by
  unfold State.alarmsTick
  exact forN_induction h (fun n hn u hu => hu.alarmTick (List.mem_range.mpr hn))

end TimeHeld

/-- The general timers after a fine tick. -/
theorem State.timersFine_held (s : State) : TimeHeld [] s (forN 4 (fun t u => u.tmrFine t) s) :=
  forN_induction (TimeHeld.refl [] s) (fun _ hk _ hu => hu.tmrFine hk)

/-- After the alarms the timers take their slow tick, and leave the alarms. -/
theorem State.slowUnits_held (s : State) : TimeHeld [] s.alarmsTick s.slowUnits :=
  forN_induction (forN_induction (TimeHeld.refl [] _) (fun _ hk _ hu => hu.tmrSlow hk)) (fun _ hm _ hu => hu.lptCycle hm)

end Sys2Proof.Machine
end

section
/-! SUPPORT. An alarm by itself (08 R200 to R202): what firing, a write's effect and a tick make of it, as a function of the alarm, the count and its
bit of TMB.ALARM_EN. -/

namespace Sys2Proof.Machine

namespace Alarm

/-- An armed alarm that is due at count `c` fires, not late (08 R202). -/
def fired (a : Alarm) (c : Nat) : Alarm := if a.armed && alarmDue c a.cmp then { a with armed := false, late := false } else a

/-- The compare `p` of a write takes effect at count `c`, with EN as `on` says (08 R200 to R202). -/
def taken (a : Alarm) (p c : Nat) (on : Bool) : Alarm :=
  if on && alarmDue c p then ⟨p, false, c != p, none, 0⟩ else ⟨p, on, a.late, none, 0⟩

/-- One tick of an alarm at count `c`, with EN as `on` says (08 R201). -/
def ticked (a : Alarm) (c : Nat) (on : Bool) : Alarm :=
  match (a.fired c).pend with
  | none => a.fired c
  | some p => if (a.fired c).ticks ≤ 1 then (a.fired c).taken p c on else { a.fired c with ticks := (a.fired c).ticks - 1 }

theorem fired_pend (a : Alarm) (c : Nat) : (a.fired c).pend = a.pend := by unfold fired; split <;> rfl

theorem fired_ticks (a : Alarm) (c : Nat) : (a.fired c).ticks = a.ticks := by unfold fired; split <;> rfl

/-- A pending write that needs more ticks waits on. -/
theorem ticked_waits {a : Alarm} {p : Nat} (hpend : a.pend = some p) (hticks : 1 < a.ticks) (c : Nat) (on : Bool) :
    (a.ticked c on).pend = some p ∧ (a.ticked c on).ticks = a.ticks - 1 := by
  have h : a.ticked c on = { a.fired c with ticks := (a.fired c).ticks - 1 } := by
    unfold ticked
    rw [fired_pend, hpend, fired_ticks]
    exact if_neg (by omega)
  rw [h]
  exact ⟨(a.fired_pend c).trans hpend, congrArg (· - 1) (a.fired_ticks c)⟩

/-- A pending write takes effect with the last tick that it needs. -/
theorem ticked_takes {a : Alarm} {p : Nat} (hpend : a.pend = some p) (hticks : a.ticks ≤ 1) (c : Nat) (on : Bool) :
    a.ticked c on = (a.fired c).taken p c on := by
  unfold ticked
  rw [fired_pend, hpend, fired_ticks]
  exact if_pos hticks

/-- A compare that has taken effect: a due alarm has fired, late unless the count equals the compare, and another is armed where EN asks for it. -/
theorem taken_result (a : Alarm) (p c : Nat) (on : Bool) :
    (a.taken p c on).pend = none ∧ (a.taken p c on).cmp = p ∧
      (alarmDue c p = true → on = true → (a.taken p c on).armed = false ∧ (a.taken p c on).late = (c != p)) ∧
      (alarmDue c p = false ∨ on = false → (a.taken p c on).armed = on) := by
  unfold taken
  by_cases h : (on && alarmDue c p) = true
  · rw [if_pos h]
    obtain ⟨hon, hdue⟩ := Bool.and_eq_true_iff.mp h
    refine ⟨rfl, rfl, fun _ _ => ⟨rfl, rfl⟩, fun hno => ?_⟩
    exact absurd hno (by rw [hdue, hon]; decide)
  · rw [if_neg h]
    exact ⟨rfl, rfl, fun hdue hon => absurd (Bool.and_eq_true_iff.mpr ⟨hon, hdue⟩) h, fun _ => rfl⟩

end Alarm

namespace State

/-- A wake source that arrives is held. -/
theorem mem_wake (s : State) (code : Nat) : code ∈ (s.wake code).pwr.wakes := by
  unfold wake
  split
  · exact List.contains_iff_mem.mp ‹_›
  · exact List.mem_append_right _ (List.mem_singleton_self code)

theorem alarm_of_alarms {s t : State} (h : t.alarms = s.alarms) (n : Nat) : t.alarm n = s.alarm n := congrArg (fun l => l.getD n alarm0) h

theorem alarm_setAlarm {s : State} {n : Nat} (hn : n < s.alarms.length) (x : Alarm) : (s.setAlarm n x).alarm n = x := getD_set_self hn

/-- An alarm that fires is disarmed, and keeps whether it was late; its flag, its event and its wake source are no part of it. -/
theorem alarm_alarmFire {s : State} {n : Nat} (hn : n < s.alarms.length) (late : Bool) :
    (s.alarmFire n late).alarm n = { s.alarm n with armed := false, late := late } := by
  unfold alarmFire
  have hset := alarm_setAlarm hn { s.alarm n with armed := false, late := late }
  generalize s.setAlarm n { s.alarm n with armed := false, late := late } = u at hset ⊢
  have hfired := ((TimeHeld.refl [] u).flag (Or.inl rfl) n).event P.TMB n
  exact (((hfired.wake _).ite hfired).getAlarm List.not_mem_nil).trans hset

theorem alarm_alarmEffect {s : State} {n p : Nat} (hn : n < s.alarms.length) (hpend : (s.alarm n).pend = some p) :
    (s.alarmEffect n).alarm n = (s.alarm n).taken p s.count ((s.get F.TMB_ALARM_EN_EN).testBit n) := by
  unfold alarmEffect Alarm.taken
  rw [hpend]
  dsimp only
  by_cases h : ((s.get F.TMB_ALARM_EN_EN).testBit n && alarmDue s.count p) = true
  · rw [if_pos h]
    refine (congrArg (fun t : State => t.alarm n) (if_pos h)).trans ?_
    rw [alarm_alarmFire (hn.trans_eq List.length_set.symm), alarm_setAlarm hn]
    rfl
  · rw [if_neg h]
    exact (congrArg (fun t : State => t.alarm n) (if_neg h)).trans (alarm_setAlarm hn _)

/-- A tick of alarm `n` makes of it what the count and its bit of EN say. -/
theorem alarm_alarmTick {s : State} (c : s.canonical = true) {n : Nat} (hn : n < s.alarms.length) :
    (s.alarmTick n).alarm n = (s.alarm n).ticked s.count ((s.get F.TMB_ALARM_EN_EN).testBit n) := by
  have hheld := ((TimeHeld.refl [n] s).alarmFire (List.mem_singleton_self n) false).ite
    (c := ((s.alarm n).armed && alarmDue s.count (s.alarm n).cmp) = true) (TimeHeld.refl [n] s)
  have hfired : (if (s.alarm n).armed && alarmDue s.count (s.alarm n).cmp then s.alarmFire n false else s).alarm n = (s.alarm n).fired s.count := by
    unfold Alarm.fired
    split
    · exact alarm_alarmFire hn false
    · rfl
  unfold alarmTick Alarm.ticked
  dsimp only
  generalize (if (s.alarm n).armed && alarmDue s.count (s.alarm n).cmp then s.alarmFire n false else s) = u at hheld hfired ⊢
  have hlen : n < u.alarms.length := hheld.length ▸ hn
  rw [← hfired]
  cases hpend : (u.alarm n).pend with
  | none => rfl
  | some p =>
    dsimp only
    split
    · rw [alarm_alarmEffect hlen hpend, hheld.count, hheld.get c F.TMB_ALARM_EN_EN (by decide) (by decide)]
    · exact alarm_setAlarm hlen _

/-- The ticks of the first `k` alarms: each takes its own, and none another's. -/
theorem alarm_ticks {s : State} (c : s.canonical = true) (k : Nat) {n : Nat} (hn : n < s.alarms.length) :
    (forN k (fun m t => t.alarmTick m) s).alarm n =
      if n < k then (s.alarm n).ticked s.count ((s.get F.TMB_ALARM_EN_EN).testBit n) else s.alarm n := by
  induction k with
  | zero => rfl
  | succ k ih =>
    have hheld : TimeHeld (List.range k) s (forN k (fun m t => t.alarmTick m) s) :=
      forN_induction (TimeHeld.refl _ s) (fun m hm u hu => hu.alarmTick (List.mem_range.mpr hm))
    rw [forN_succ]
    generalize forN k (fun m t => t.alarmTick m) s = u at ih hheld ⊢
    by_cases hnk : n = k
    · subst hnk
      rw [if_neg (lt_irrefl n)] at ih
      rw [alarm_alarmTick (hheld.canon c) (hheld.length ▸ hn), ih, hheld.count, hheld.get c F.TMB_ALARM_EN_EN (by decide) (by decide),
        if_pos n.lt_succ_self]
    · have hother : (u.alarmTick k).alarm n = u.alarm n :=
        ((TimeHeld.refl [k] u).alarmTick (List.mem_singleton_self k)).getAlarm (by simpa using hnk)
      rw [hother, ih]
      exact if_congr (by omega) rfl rfl

/-- One tick for all alarms. -/
theorem alarm_alarmsTick {s : State} (c : s.canonical = true) {n : Nat} (hn : n < s.alarms.length) (h8 : n < 8) :
    s.alarmsTick.alarm n = (s.alarm n).ticked s.count ((s.get F.TMB_ALARM_EN_EN).testBit n) :=
  (alarm_ticks c 8 hn).trans (if_pos h8)

end State

end Sys2Proof.Machine
end

section
/-! SUPPORT. The watchdog (08 R213 to R216): its warning, its expiry and its tick, field by field. -/

namespace Sys2Proof.Machine

theorem Frame.alarms {w : Nat} {a t : State} (h : Frame w a t) (hw : w.testBit 6 = false) : t.alarms = a.alarms := by
  have e := h.2.1 .time hw
  simp only [State.same, Prod.mk.injEq] at e
  obtain ⟨-, e, -⟩ := e
  exact e

theorem Frame.resetReq {w : Nat} {a t : State} (h : Frame w a t) (hw : w.testBit 9 = false) : t.resetReq = a.resetReq := by
  have e := h.2.1 .power hw
  simp only [State.same, Prod.mk.injEq] at e
  obtain ⟨-, -, -, -, e⟩ := e
  exact e

theorem Frame.wdtFeed {w : Nat} {a t : State} (h : Frame w a t) (hw : w.testBit 6 = false) : t.wdtFeed = a.wdtFeed := by
  have e := h.2.1 .time hw
  simp only [State.same, Prod.mk.injEq] at e
  obtain ⟨-, -, -, -, -, e⟩ := e
  exact e

namespace TxAside

variable {x : Nat} {a s : State}

theorem askReset (h : TxAside x a s) (cause : Nat) : TxAside x a (s.askReset cause) :=
  h.parts (Frame.askReset (w := 0x200) (Frame.refl _ s) (by decide) cause) (by decide) (by decide)

theorem wdtExpire (h : TxAside x a s) (hx : x ≠ Reg.WDT_STAT) (why : Nat) : TxAside x a (s.wdtExpire why) := ((h.put why hx).put 0 hx).askReset 4

end TxAside

namespace Reads

variable {f : Field} {v : Nat} {a s : State}

theorem event (h : Reads f v a s) (p n : Nat) : Reads f v a (s.event p n) := h.aside ((TxAside.refl f.addr s).event p n) rfl

theorem askReset (h : Reads f v a s) (cause : Nat) : Reads f v a (s.askReset cause) := h.aside ((TxAside.refl f.addr s).askReset cause) rfl

theorem wdtPrewarn (h : Reads f v a s) (hirq : f.addr ≠ Reg.IRQ_RAW P.WDT)
    (hstat : f.addr ≠ Reg.WDT_STAT ∨ f.lo + f.width ≤ 1 ∨ 2 ≤ f.lo) : Reads f v a s.wdtPrewarn := by
  unfold State.wdtPrewarn
  exact h.ite (((h.put (g := F.WDT_STAT_PREWARNED) 1 (by decide) hstat).flag _ _ hirq).event _ _)

theorem wdtExpire (h : Reads f v a s) (hstat : f.addr ≠ Reg.WDT_STAT ∨ 1 ≤ f.lo ∧ f.lo + f.width ≤ 2) (why : Nat) :
    Reads f v a (s.wdtExpire why) := by
  have hlast := h.put (g := F.WDT_STAT_LAST_EXP) why (by decide) (hstat.imp_right (fun hd => Or.inl hd.2))
  exact (hlast.put (g := F.WDT_STAT_RUNNING) 0 (by decide) (hstat.imp_right (fun hd => Or.inr hd.1))).askReset 4

end Reads

namespace State

theorem get_of_on {s : State} {f : Field} (hw : f.width = 1) (h : s.on f = true) : s.get f = 1 := by
  have hlt := s.get_lt f
  rw [hw] at hlt
  have hne : s.get f ≠ 0 := bne_iff_ne.mp h
  omega

/-- A request for a reset touches nothing but the request, and where none waits it is the one that waits. -/
theorem askReset_rest (s : State) (cause : Nat) : ∃ r, s.askReset cause = { s with resetReq := r } ∧ (s.resetReq = none → r = some cause) := by
  unfold askReset
  split
  · exact ⟨_, rfl, fun _ => rfl⟩
  · rename_i hreq
    split
    · exact ⟨_, rfl, fun _ => rfl⟩
    · exact ⟨s.resetReq, rfl, fun h => absurd (hreq.symm.trans h) (Option.some_ne_none _)⟩

theorem wdtExpire_result {s : State} (c : s.canonical = true) {why : Nat} (hwhy : why < 4) :
    (s.wdtExpire why).get F.WDT_STAT_LAST_EXP = why ∧ (s.wdtExpire why).get F.WDT_STAT_RUNNING = 0 ∧
      (s.resetReq = none → (s.wdtExpire why).resetReq = some 4) := by
  have c1 : (s.put F.WDT_STAT_LAST_EXP why).canonical = true := ((Keeps.refl s).put _ _).canon c
  have c2 : ((s.put F.WDT_STAT_LAST_EXP why).put F.WDT_STAT_RUNNING 0).canonical = true := ((Keeps.refl _).put _ _).canon c1
  have hlast := ((Reads.refl F.WDT_STAT_LAST_EXP why (s.put F.WDT_STAT_LAST_EXP why)).put (g := F.WDT_STAT_RUNNING) 0 (by decide)
    (by decide)).askReset 4
  have hrunning := (Reads.refl F.WDT_STAT_RUNNING 0 ((s.put F.WDT_STAT_LAST_EXP why).put F.WDT_STAT_RUNNING 0)).askReset 4
  refine ⟨hlast.get c1 ?_, hrunning.get c2 (get_put_self c1 _ _ (by decide)), fun hnone => ?_⟩
  · rw [get_put_self c _ _ (by decide)]
    exact Nat.mod_eq_of_lt hwhy
  · obtain ⟨r, hask, hr⟩ := askReset_rest ((s.put F.WDT_STAT_LAST_EXP why).put F.WDT_STAT_RUNNING 0) 4
    unfold wdtExpire
    rw [hask]
    exact hr (by rw [put_resetReq, put_resetReq, hnone])

/-- The warning is shown, and sets the flag where it was not shown before. -/
theorem wdtPrewarn_result {s : State} (c : s.canonical = true) :
    s.wdtPrewarn.get F.WDT_STAT_PREWARNED = 1 ∧ (s.on F.WDT_STAT_PREWARNED = false → s.enabled P.WDT = true →
      (s.wdtPrewarn.reg (Reg.IRQ_RAW P.WDT)).toNat.testBit 0 = true) ∧ (s.on F.WDT_STAT_PREWARNED = true → s.wdtPrewarn = s) := by
  unfold wdtPrewarn
  split
  · rename_i hon
    exact ⟨get_of_on rfl hon, fun hoff => absurd (hon.symm.trans hoff) (by decide), fun _ => rfl⟩
  · rename_i hoff
    have c1 : (s.put F.WDT_STAT_PREWARNED 1).canonical = true := ((Keeps.refl s).put _ _).canon c
    have hshown := ((Reads.refl F.WDT_STAT_PREWARNED 1 (s.put F.WDT_STAT_PREWARNED 1)).flag P.WDT 0 (by decide)).event P.WDT 0
    refine ⟨hshown.get c1 (get_put_self c _ _ (by decide)), fun _ hen => ?_, fun hon => absurd hon hoff⟩
    have hen1 : (s.put F.WDT_STAT_PREWARNED 1).enabled P.WDT = true := by
      unfold enabled on
      rw [get_put_other c _ _ _ (by decide) (Or.inl (by decide))]
      exact hen
    have hevent := (TxAside.refl (Reg.IRQ_RAW P.WDT) ((s.put F.WDT_STAT_PREWARNED 1).flag P.WDT 0)).event P.WDT 0
    rw [hevent.reg (((Keeps.refl _).flag _ _).canon c1)]
    exact flag_raised c1 (by decide) hen1

/-- The watchdog has counted one down, and has warned where it came to PREWARN. -/
def wdtDown (s : State) : State :=
  if s.get F.WDT_COUNT_COUNT - 1 = (s.put F.WDT_COUNT_COUNT (s.get F.WDT_COUNT_COUNT - 1)).get F.WDT_PREWARN_PREWARN then
    (s.put F.WDT_COUNT_COUNT (s.get F.WDT_COUNT_COUNT - 1)).wdtPrewarn
  else s.put F.WDT_COUNT_COUNT (s.get F.WDT_COUNT_COUNT - 1)

/-- A tick of the running watchdog that has not been fed. -/
theorem wdtTick_counts {s : State} (hrun : s.on F.WDT_STAT_RUNNING = true) (hstate : s.pwr.state ≠ .dormant) (hfeed : s.wdtFeed = false) :
    s.wdtTick = if s.get F.WDT_COUNT_COUNT - 1 = 0 then s.wdtDown.wdtExpire 1 else s.wdtDown := by
  unfold wdtTick
  rw [hrun, bne_iff_ne.mpr hstate, hfeed, Bool.and_self, if_pos rfl, if_neg Bool.false_ne_true]
  rfl

/-- A tick of the running watchdog that has been fed reloads it. -/
theorem wdtTick_reloads {s : State} (hrun : s.on F.WDT_STAT_RUNNING = true) (hstate : s.pwr.state ≠ .dormant) (hfeed : s.wdtFeed = true) :
    s.wdtTick = { (s.put F.WDT_COUNT_COUNT s.wdtLoadVal).put F.WDT_STAT_PREWARNED 0 with wdtFeed := false } := by
  unfold wdtTick
  rw [hrun, bne_iff_ne.mpr hstate, hfeed, Bool.and_self, if_pos rfl, if_pos rfl]

theorem wdtLoadVal_lt (s : State) : s.wdtLoadVal < 2 ^ 24 := by
  unfold wdtLoadVal
  split
  · decide
  · exact s.get_lt F.WDT_LOAD_LOAD

theorem wdtDown_canonical {s : State} (c : s.canonical = true) : s.wdtDown.canonical = true := by
  have hput := (Keeps.refl s).put F.WDT_COUNT_COUNT (s.get F.WDT_COUNT_COUNT - 1)
  exact (Keeps.ite hput.wdtPrewarn hput).canon c

/-- The count of the watchdog before an expiry. -/
theorem wdtDown_count {s : State} (c : s.canonical = true) : s.wdtDown.get F.WDT_COUNT_COUNT = s.get F.WDT_COUNT_COUNT - 1 := by
  have hput := Reads.refl F.WDT_COUNT_COUNT (s.get F.WDT_COUNT_COUNT - 1) (s.put F.WDT_COUNT_COUNT (s.get F.WDT_COUNT_COUNT - 1))
  refine ((hput.wdtPrewarn (by decide) (by decide)).ite hput).get (((Keeps.refl s).put _ _).canon c) ?_
  rw [get_put_self c _ _ (by decide)]
  exact Nat.mod_eq_of_lt ((Nat.sub_le _ 1).trans_lt (s.get_lt F.WDT_COUNT_COUNT))

theorem wdtDown_resetReq (s : State) : s.wdtDown.resetReq = s.resetReq := by
  unfold wdtDown
  split
  · exact (Frame.resetReq (Frame.wdtPrewarn (w := 0x80000000080) (Frame.refl _ _) (by decide)) (by decide)).trans (put_resetReq _ _ _)
  · exact put_resetReq _ _ _

theorem wdtTick_count {s : State} (c : s.canonical = true) (hrun : s.on F.WDT_STAT_RUNNING = true) (hstate : s.pwr.state ≠ .dormant)
    (hfeed : s.wdtFeed = false) : s.wdtTick.get F.WDT_COUNT_COUNT = s.get F.WDT_COUNT_COUNT - 1 := by
  have hdown := Reads.refl F.WDT_COUNT_COUNT (s.get F.WDT_COUNT_COUNT - 1) s.wdtDown
  rw [wdtTick_counts hrun hstate hfeed]
  exact ((hdown.wdtExpire (by decide) 1).ite hdown).get (wdtDown_canonical c) (wdtDown_count c)

/-- A fed watchdog is loaded by its tick. -/
theorem wdtTick_loads {s : State} (c : s.canonical = true) (hrun : s.on F.WDT_STAT_RUNNING = true) (hstate : s.pwr.state ≠ .dormant)
    (hfeed : s.wdtFeed = true) : s.wdtTick.get F.WDT_COUNT_COUNT = s.wdtLoadVal := by
  have hregs : s.wdtTick.regs = ((s.put F.WDT_COUNT_COUNT s.wdtLoadVal).put F.WDT_STAT_PREWARNED 0).regs := by
    rw [wdtTick_reloads hrun hstate hfeed]
  rw [get_of_regs hregs, get_put_other (((Keeps.refl s).put _ _).canon c) _ _ _ (by decide) (by decide), get_put_self c _ _ (by decide)]
  exact Nat.mod_eq_of_lt s.wdtLoadVal_lt

/-- The tick with which the watchdog comes to PREWARN. -/
theorem wdtTick_warns {s : State} (c : s.canonical = true) (hrun : s.on F.WDT_STAT_RUNNING = true) (hstate : s.pwr.state ≠ .dormant)
    (hfeed : s.wdtFeed = false) (hcount : s.get F.WDT_COUNT_COUNT = s.get F.WDT_PREWARN_PREWARN + 1) :
    s.wdtTick.get F.WDT_STAT_PREWARNED = 1 ∧ (s.on F.WDT_STAT_PREWARNED = false → s.enabled P.WDT = true →
      (s.wdtTick.reg (Reg.IRQ_RAW P.WDT)).toNat.testBit 0 = true) := by
  have c1 : (s.put F.WDT_COUNT_COUNT (s.get F.WDT_COUNT_COUNT - 1)).canonical = true := ((Keeps.refl s).put _ _).canon c
  have other (f : Field) (hf : f.addr ≠ Reg.WDT_COUNT) : (s.put F.WDT_COUNT_COUNT (s.get F.WDT_COUNT_COUNT - 1)).get f = s.get f :=
    get_put_other c _ f _ (by decide) (Or.inl hf)
  have hdown : s.wdtDown = (s.put F.WDT_COUNT_COUNT (s.get F.WDT_COUNT_COUNT - 1)).wdtPrewarn := by
    refine if_pos ?_
    rw [other F.WDT_PREWARN_PREWARN (by decide)]
    omega
  have c2 := wdtDown_canonical c
  obtain ⟨hshown, hflag, -⟩ := wdtPrewarn_result c1
  rw [← hdown] at hshown hflag
  have hwarned := Reads.refl F.WDT_STAT_PREWARNED 1 s.wdtDown
  have hraised := TxAside.refl (Reg.IRQ_RAW P.WDT) s.wdtDown
  rw [wdtTick_counts hrun hstate hfeed]
  refine ⟨((hwarned.wdtExpire (by decide) 1).ite hwarned).get c2 hshown, fun hoff hen => ?_⟩
  rw [((hraised.wdtExpire (by decide) 1).ite hraised).reg c2]
  refine hflag ?_ ?_
  · unfold on at hoff ⊢
    rwa [other F.WDT_STAT_PREWARNED (by decide)]
  · unfold enabled on at hen ⊢
    rwa [other (F.PAGE_CTRL_ENABLE P.WDT) (by decide)]

/-- The tick with which the watchdog comes to 0. -/
theorem wdtTick_expires {s : State} (c : s.canonical = true) (hrun : s.on F.WDT_STAT_RUNNING = true) (hstate : s.pwr.state ≠ .dormant)
    (hfeed : s.wdtFeed = false) (hcount : s.get F.WDT_COUNT_COUNT ≤ 1) :
    s.wdtTick.get F.WDT_STAT_LAST_EXP = 1 ∧ s.wdtTick.get F.WDT_STAT_RUNNING = 0 ∧ (s.resetReq = none → s.wdtTick.resetReq = some 4) := by
  rw [wdtTick_counts hrun hstate hfeed, if_pos (by omega), ← wdtDown_resetReq s]
  exact wdtExpire_result (wdtDown_canonical c) (by decide)

/-- From `s` to `t` the count of the time base, the alarms and the power manager stay. -/
def ClockKept (s t : State) : Prop := t.count = s.count ∧ t.alarms = s.alarms ∧ t.pwr = s.pwr

theorem wdtPrewarn_clock (s : State) : ClockKept s s.wdtPrewarn := by
  have hframe := Frame.wdtPrewarn (w := 0x80000000080) (Frame.refl _ s) (by decide)
  exact ⟨hframe.count (by decide), hframe.alarms (by decide), hframe.pwr (by decide)⟩

theorem askReset_pwr (s : State) (cause : Nat) : (s.askReset cause).pwr = s.pwr := by
  unfold askReset
  split
  · rfl
  · split <;> rfl

theorem wdtExpire_clock (s : State) (why : Nat) : ClockKept s (s.wdtExpire why) := by
  have hframe := Frame.wdtExpire (w := 0x80000000200) (Frame.refl _ s) (by decide) why
  refine ⟨hframe.count (by decide), hframe.alarms (by decide), ?_⟩
  unfold wdtExpire
  rw [askReset_pwr, put_pwr, put_pwr]

theorem wdtDown_clock (s : State) : ClockKept s s.wdtDown := by
  unfold wdtDown
  split
  · obtain ⟨hcount, halarms, hpwr⟩ := wdtPrewarn_clock (s.put F.WDT_COUNT_COUNT (s.get F.WDT_COUNT_COUNT - 1))
    exact ⟨hcount.trans (put_count _ _ _), halarms.trans (put_alarms _ _ _), hpwr.trans (put_pwr _ _ _)⟩
  · exact ⟨put_count _ _ _, put_alarms _ _ _, put_pwr _ _ _⟩

/-- A tick of the watchdog leaves the time base and the power manager alone. -/
theorem wdtTick_clock (s : State) : ClockKept s s.wdtTick := by
  by_cases h : (s.on F.WDT_STAT_RUNNING && s.pwr.state != .dormant) = true
  · obtain ⟨hrun, hstate⟩ := Bool.and_eq_true_iff.mp h
    cases hfeed : s.wdtFeed with
    | true =>
      rw [wdtTick_reloads hrun (bne_iff_ne.mp hstate) hfeed]
      exact ⟨by simp, by simp, by simp⟩
    | false =>
      obtain ⟨hcount, halarms, hpwr⟩ := s.wdtDown_clock
      obtain ⟨hcount', halarms', hpwr'⟩ := s.wdtDown.wdtExpire_clock 1
      rw [wdtTick_counts hrun (bne_iff_ne.mp hstate) hfeed]
      split
      · exact ⟨hcount'.trans hcount, halarms'.trans halarms, hpwr'.trans hpwr⟩
      · exact ⟨hcount, halarms, hpwr⟩
  · have hstays : s.wdtTick = s := by
      unfold wdtTick
      exact if_neg h
    rw [hstays]
    exact ⟨rfl, rfl, rfl⟩

end State

end Sys2Proof.Machine
end

section
/-! SUPPORT. A tick of either clock (08 R195 to R197, R205): where the count comes to, and that every alarm takes its tick at that count. -/

namespace Sys2Proof.Machine

/-- The fields that the alarms' ticks turn on: the enables, and whether a master is followed. -/
def alarmFields : List Field := [F.TMB_ALARM_EN_EN, F.TMB_STAT_FOLLOW]

theorem alarmFields_place {f : Field} (hf : f ∈ alarmFields) :
    pageIx f.addr = P.TMB ∧ f.addr ≠ Reg.IRQ_RAW P.TMB ∧ (f.addr ≠ Reg.TMB_STAT ∨ 3 ≤ f.lo) := by
  simp only [alarmFields, List.mem_cons, List.not_mem_nil, or_false] at hf
  rcases hf with rfl | rfl <;> decide

theorem en_mem_alarmFields : F.TMB_ALARM_EN_EN ∈ alarmFields := List.mem_cons_self

theorem follow_mem_alarmFields : F.TMB_STAT_FOLLOW ∈ alarmFields := List.mem_cons_of_mem _ List.mem_cons_self

/-- From `a` to `t` nothing changes of what decides over the alarms beside the count: the alarms, their fields and the power state. -/
structure AlarmsKept (a t : State) : Prop where
  keeps : Keeps a t
  alarms : t.alarms = a.alarms
  power : t.pwr.state = a.pwr.state
  get : a.canonical = true → ∀ f ∈ alarmFields, t.get f = a.get f

/-- An update of parts that decide nothing over the alarms. -/
theorem AlarmsKept.same {a t : State} (k : Keeps a t) (ha : t.alarms = a.alarms) (hp : t.pwr.state = a.pwr.state) (hr : t.regs = a.regs) :
    AlarmsKept a t :=
  ⟨k, ha, hp, fun _ f _ => State.get_of_regs hr f⟩

theorem TimeHeld.alarmFields {ns : List Nat} {a t : State} (h : TimeHeld ns a t) (c : a.canonical = true) :
    ∀ f ∈ alarmFields, t.get f = a.get f := by
  intro f hf
  obtain ⟨hpage, hirq, -⟩ := alarmFields_place hf
  exact h.get c f hirq (hpage ▸ rfl)

namespace State

/-- A tick of either clock: every alarm takes its tick at the count that the tick comes to. -/
structure Ticked (s t : State) : Prop where
  keeps : Keeps s t
  length : t.alarms.length = s.alarms.length
  power : t.pwr.state = s.pwr.state
  get : s.canonical = true → ∀ f ∈ alarmFields, t.get f = s.get f
  alarm : s.canonical = true → ∀ n < 8, n < s.alarms.length →
    t.alarm n = (s.alarm n).ticked t.count ((s.get F.TMB_ALARM_EN_EN).testBit n)

/-- The count moves, the alarms tick, the timers follow, and the rest of the tick leaves the alarms and the count. -/
theorem Ticked.of {s u v t : State} (h : AlarmsKept s u) (g : TimeHeld [] u.alarmsTick v) (k : AlarmsKept v t) (hcount : t.count = v.count) :
    Ticked s t := by
  have htick := (TimeHeld.refl (List.range 8) u).alarmsTick
  refine ⟨((h.keeps.trans htick.keeps).trans g.keeps).trans k.keeps, ?_, ?_, fun c f hf => ?_, fun c n h8 hn => ?_⟩
  · rw [k.alarms, g.length, htick.length, h.alarms]
  · rw [k.power, g.power, htick.power, h.power]
  · have cu := h.keeps.canon c
    have cv := htick.canon cu
    rw [k.get (g.canon cv) f hf, g.alarmFields cv f hf, htick.alarmFields cu f hf, h.get c f hf]
  · rw [alarm_of_alarms (k.alarms.trans g.alarms), alarm_alarmsTick (h.keeps.canon c) (h.alarms ▸ hn) h8, alarm_of_alarms h.alarms, h.get c _ en_mem_alarmFields, hcount, g.count, htick.count]

/-- The fine clock moves on, and a second write of RAD.CMD no longer meets the first. -/
def fineStart (s : State) : State :=
  { s with radio := { s.radio with evalOpen := false }, hvl := { s.hvl with pull := s.hvl.pull - 1 } }

/-- The count has moved on by a fine tick. -/
def fineMoved (s : State) : State := { s.fineStart with count := s.count + 1 }

theorem fineMoved_keeps (s : State) : Keeps s s.fineMoved := Keeps.upd (Keeps.refl s) rfl (OtpKept.refl _)

theorem fineTick_eq (s : State) : s.fineTick = forN 4 (fun t u => u.tmrFine t)
    (if s.fineRuns && decide (s.count % 256 < 255) then s.fineMoved.alarmsTick else s.fineStart) := rfl

/-- The fine part counts below its last step. -/
theorem fineTick_ticked {s : State} (h : (s.fineRuns && decide (s.count % 256 < 255)) = true) : Ticked s s.fineTick := by
  have hheld := timersFine_held s.fineMoved.alarmsTick
  rw [fineTick_eq, if_pos h]
  exact Ticked.of (AlarmsKept.same s.fineMoved_keeps rfl rfl rfl) hheld (AlarmsKept.same (Keeps.refl _) rfl rfl rfl) rfl

/-- The count has moved on to the slow tick's edge. -/
def slowMoved (s : State) : State := { s with count := (s.count / 256 + 1) * 256 % countMod, radio := { s.radio with evalOpen := false } }

/-- What a slow tick does after the alarms and the timers: the fine part, and the cascade's part of the tick (11 R288, R290). -/
def slowEnded (s : State) : State :=
  let s2 := s.fineEdge.syncPull
  if s2.hvlMaster && s2.count % 65536 = 0x8000 then s2.sendTime
  else if s2.hvlMaster && s2.count % 65536 = 0 then s2.membersJoin
  else s2

theorem slowCount_eq (s : State) : s.slowCount = s.slowMoved.slowUnits.slowEnded := rfl

theorem fineEdge_alarmFields {s : State} (c : s.canonical = true) : ∀ f ∈ alarmFields, s.fineEdge.get f = s.get f := by
  intro f hf
  obtain ⟨-, -, hplace⟩ := alarmFields_place hf
  have chosen (n v : Nat) : Reads f (s.get f) s ((s.put F.TMB_STAT_FINE_SRC n).put F.TMB_STAT_FINE_VALID v) := by
    refine ((Reads.refl f (s.get f) s).put (g := F.TMB_STAT_FINE_SRC) n (by decide) ?_).put (g := F.TMB_STAT_FINE_VALID) v (by decide) ?_
    · exact hplace.imp_right Or.inr
    · exact hplace.imp_right (fun hlo => Or.inr ((by decide : 1 ≤ 3).trans hlo))
  unfold fineEdge
  exact ((chosen 2 1).ite ((chosen 1 1).ite (chosen 0 0))).get c rfl

/-- After the fine part only the cascade is concerned. -/
theorem slowEnded_frame (s : State) : Frame 0x200000000000000A0 s.fineEdge s.slowEnded := by
  have hpull := Frame.syncPull (w := 0x200000000000000A0) (Frame.refl _ s.fineEdge) (by decide)
  unfold slowEnded
  exact Frame.ite (hpull.sendTime (by decide)) (Frame.ite (hpull.membersJoin (by decide)) hpull)

theorem slowEnded_rest (s : State) : s.slowEnded.count = s.count ∧ AlarmsKept s s.slowEnded := by
  have hedge := Frame.fineEdge (w := 0x2000000000) (Frame.refl _ s) (by decide)
  have hrest := s.slowEnded_frame
  refine ⟨(hrest.count (by decide)).trans (hedge.count (by decide)), hedge.1.trans hrest.1,
    (hrest.alarms (by decide)).trans (hedge.alarms (by decide)), ?_, fun c f hf => ?_⟩
  · rw [hrest.pwr (by decide), hedge.pwr (by decide)]
  · obtain ⟨hpage, -⟩ := alarmFields_place hf
    rw [hrest.get (hedge.1.canon c) f (by rw [hpage]; decide), fineEdge_alarmFields c f hf]

theorem slowMoved_keeps (s : State) : Keeps s s.slowMoved := Keeps.upd (Keeps.refl s) rfl (OtpKept.refl _)

/-- A slow tick advances bits [47:8] of the count and clears bits [7:0]. -/
theorem slowCount_count (s : State) : s.slowCount.count = (s.count / 256 + 1) * 256 % countMod := by
  have htick := (TimeHeld.refl (List.range 8) s.slowMoved).alarmsTick
  rw [slowCount_eq, (slowEnded_rest _).1, (slowUnits_held _).count, htick.count]
  rfl

theorem slowCount_ticked (s : State) : Ticked s s.slowCount := by
  obtain ⟨hcount, hkept⟩ := s.slowMoved.slowUnits.slowEnded_rest
  exact Ticked.of (AlarmsKept.same s.slowMoved_keeps rfl rfl rfl) s.slowMoved.slowUnits_held hkept hcount

/-- The slow tick's own part leaves the watchdog's registers alone. -/
theorem slowCount_wdt {s : State} (c : s.canonical = true) (f : Field) (hf : pageIx f.addr = P.WDT) : s.slowCount.get f = s.get f := by
  have hirq : f.addr ≠ Reg.IRQ_RAW P.TMB := fun e => absurd (hf.symm.trans (e ▸ pageIx_irqRaw P.TMB)) (by decide)
  have htimer : timerPage (pageIx f.addr) = false := by rw [hf]; decide
  have htick := (TimeHeld.refl (List.range 8) s.slowMoved).alarmsTick
  have hunits := s.slowMoved.slowUnits_held
  have hedge := Frame.fineEdge (w := 0x2000000000) (Frame.refl _ s.slowMoved.slowUnits) (by decide)
  have c1 := s.slowMoved_keeps.canon c
  have c2 := htick.canon c1
  have c3 := hunits.canon c2
  rw [slowCount_eq, (slowEnded_frame _).get (hedge.1.canon c3) f (by rw [hf]; decide), hedge.get c3 f (by rw [hf]; decide),
    hunits.get c2 f hirq htimer, htick.get c1 f hirq htimer]
  exact get_of_regs rfl f

theorem wdtTick_kept (s : State) : AlarmsKept s s.wdtTick := by
  have hframe := Frame.wdtTick (w := 0x800000002C0) (Frame.refl _ s) (by decide)
  obtain ⟨-, halarms, hpwr⟩ := s.wdtTick_clock
  refine ⟨hframe.1, halarms, by rw [hpwr], fun c f hf => ?_⟩
  obtain ⟨hpage, -⟩ := alarmFields_place hf
  exact hframe.get c f (by rw [hpage]; decide)

theorem wdtTick_follow {s : State} (c : s.canonical = true) : s.wdtTick.on F.TMB_STAT_FOLLOW = s.on F.TMB_STAT_FOLLOW := by
  unfold on
  rw [s.wdtTick_kept.get c _ follow_mem_alarmFields]

/-- A slow tick outside Dormant, where no master is followed. -/
theorem slowEdge_counts {s : State} (c : s.canonical = true) (hstate : s.pwr.state ≠ .dormant) (hfollow : s.on F.TMB_STAT_FOLLOW = false) :
    s.slowEdge = s.wdtTick.slowCount := by
  unfold slowEdge
  rw [if_neg hstate]
  dsimp only
  rw [wdtTick_follow c, hfollow, if_neg Bool.false_ne_true]

/-- Where a master is followed, the slow tick reaches the watchdog only. -/
theorem slowEdge_follows {s : State} (c : s.canonical = true) (hstate : s.pwr.state ≠ .dormant) (hfollow : s.on F.TMB_STAT_FOLLOW = true) :
    s.slowEdge = s.wdtTick := by
  unfold slowEdge
  rw [if_neg hstate]
  dsimp only
  rw [wdtTick_follow c, hfollow, if_pos rfl]

theorem slowEdge_ticked {s : State} (c : s.canonical = true) (hstate : s.pwr.state ≠ .dormant) (hfollow : s.on F.TMB_STAT_FOLLOW = false) :
    Ticked s s.slowEdge := by
  have hwdt := s.wdtTick_kept
  have htick := s.wdtTick.slowCount_ticked
  rw [slowEdge_counts c hstate hfollow]
  refine ⟨hwdt.keeps.trans htick.keeps, htick.length.trans (congrArg _ hwdt.alarms), htick.power.trans hwdt.power,
    fun _ f hf => (htick.get (hwdt.keeps.canon c) f hf).trans (hwdt.get c f hf), fun _ n h8 hn => ?_⟩
  rw [htick.alarm (hwdt.keeps.canon c) n h8 (hwdt.alarms ▸ hn), alarm_of_alarms hwdt.alarms, hwdt.get c _ en_mem_alarmFields]

/-- The tick that comes next (08 R196): of the fine clock while the fine part counts below its last step, of the slow clock otherwise. -/
def tickNext (s : State) : State := if s.fineRuns && decide (s.count % 256 < 255) then s.fineTick else s.slowEdge

theorem tickNext_ticked {s : State} (c : s.canonical = true) (hstate : s.pwr.state ≠ .dormant) (hfollow : s.on F.TMB_STAT_FOLLOW = false) :
    Ticked s s.tickNext := by
  unfold tickNext
  split
  · exact fineTick_ticked ‹_›
  · exact slowEdge_ticked c hstate hfollow

end State

/-- Of the radio a fine tick ends only the time in which a second write of RAD.CMD meets the first. -/
theorem State.fineTick_radio (s : State) : s.fineTick.radio = { s.radio with evalOpen := false } := by
  have hmoved := Frame.alarmsTick (w := 0x20000002C0) (Frame.refl _ s.fineMoved) (by decide)
  have htimers (u : State) : (forN 4 (fun t v => v.tmrFine t) u).radio = u.radio :=
    (Frame.forN (w := 0x200C0) (Frame.refl _ u) (fun i _ hu => hu.tmrFine (by decide) i)).radio (by decide)
  rw [State.fineTick_eq, htimers]
  split
  · rw [hmoved.radio (by decide)]
    rfl
  · rfl

/-- Where the fine part does not count, or stands at its last step, the count and the alarms stand. -/
theorem State.fineTick_stands {s : State} (h : (s.fineRuns && decide (s.count % 256 < 255)) = false) : TimeHeld [] s.fineStart s.fineTick := by
  have hheld := s.fineStart.timersFine_held
  rw [State.fineTick_eq, h]
  exact hheld

/-- Where the fine part counts below its last step, the count rises by one. -/
theorem State.fineTick_count {s : State} (h : (s.fineRuns && decide (s.count % 256 < 255)) = true) : s.fineTick.count = s.count + 1 := by
  have htick := (TimeHeld.refl (List.range 8) s.fineMoved).alarmsTick
  rw [State.fineTick_eq, if_pos h, (State.timersFine_held _).count, htick.count]
  rfl

/-- Settles O47: an empty queue lets a fine tick pass, in which the count moves where the fine part counts, and the timers leave it alone. -/
theorem idleStepIsATick : Obligations.IdleStepIsATick := by
  intro s hpending
  have hstep : step s = .next s.fineTick := by
    unfold step
    rw [hpending]
  obtain ⟨hqueue, hvariant, -⟩ := (Keeps.refl s).fineTick
  have hframe := Frame.fineTick (w := 0x20000202E4) (Frame.refl _ s) (by decide)
  refine ⟨s.fineTick, hstep, hqueue.trans hpending, hframe.mem (by decide), hvariant, hframe.2.1 .keys (by decide),
    congrArg Radio.evalOpen s.fineTick_radio, fun hrun hlow => ?_, fun _ hlast => ?_, fun hstill => ?_⟩
  · exact State.fineTick_count (by rw [hrun, decide_eq_true hlow, Bool.and_self])
  · exact (State.fineTick_stands (by rw [hlast]; exact Bool.and_false _)).count
  · have hheld := State.fineTick_stands (s := s) (by rw [hstill]; exact Bool.false_and _)
    exact ⟨hheld.count, hheld.alarms⟩

end Sys2Proof.Machine
end

section
/-! SUPPORT. The registers of the time base that software reads and writes (08 R199 to R201). -/

namespace Sys2Proof.Machine

/-- The row of a register that takes a write is the table's. -/
theorem State.row_of_takes {s : State} {i : Initiator} {p off : Nat} {w : Word} {r row : RegRow} (h : s.takes i p off w r = true)
    (hrow : rowOf p off = some row) : r = row := by
  unfold State.takes at h
  simp only [Bool.and_eq_true, decide_eq_true_eq] at h
  obtain ⟨⟨-, hr⟩, -⟩ := h
  exact Option.some.inj (hr.symm.trans hrow)

/-- Only the pins and the flash controller fit a word before it is stored. -/
theorem State.fitWord_eq (s : State) {p : Nat} (hgpio : p ≠ P.GPIO) (hflc : p ≠ P.FLC) (off : Nat) (w : Word) : s.fitWord p off w = w := by
  unfold State.fitWord
  rw [if_neg (fun h => hgpio h.1), if_neg (fun h => hflc h.1)]

/-- What a store leaves of the time base and of a request for a reset. -/
theorem State.storeReg_frame (s : State) (i : Initiator) (p off : Nat) (r : RegRow) (w : Word) : Frame 0x3C101 s (s.storeReg i p off r w) :=
  Frame.storeReg (Frame.refl _ s) (by decide) i p off r w

/-- A register whose bits a write may all set holds the word. -/
theorem maskStore_all (old w : Word) : maskStore old w 0xFFFFFFFF 0 = w := by
  have hbits := bitsOf_maskStore (old := old) (w := w) (rw := 0xFFFFFFFF) (w1c := 0) (lo := 0) (k := 32) (by decide) (by decide)
    (fun _ _ => Nat.zero_testBit _)
  apply BitVec.eq_of_toNat_eq
  simpa [bitsOf, Nat.mod_eq_of_lt (BitVec.isLt _)] using hbits

theorem PerInit.get_set {α : Type} (p : PerInit α) (i : Initiator) (a : α) : (p.set i a).get i = a := by cases i <;> rfl

theorem State.regI_answer (s : State) (i j : Initiator) (v : Word) (e : BusEnd) (a : Nat) : (s.answer i v e).regI j a = s.regI j a := rfl

/-- A read of NOW_LO gives the low part of the count and latches the high part for the initiator that reads. -/
theorem nowLo_latches {s : State} {i : Initiator} (h : s.offers i P.TMB 0x100 = true) (c : s.canonical = true) :
    ∃ t, exec (.nowLo i) s = .next t ∧ t.out.get i = (⟨BitVec.ofNat 32 s.count, .ok⟩ : BusAnswer) ∧
      t.getI i F.TMB_NOW_HI_SNAP_SNAP = s.count / 2 ^ 32 % 2 ^ 16 ∧ t.count = s.count ∧ t.regs = s.regs := by
  have hread := State.busRead_offers (by decide) (by decide) (by decide) h
  have hblock (raw : Word) : s.blockRead i P.TMB 0x100 raw =
      (BitVec.ofNat 32 s.count, s.setRegI i Reg.TMB_NOW_HI_SNAP (BitVec.ofNat 32 (s.count / 2 ^ 32))) := by
    unfold State.blockRead
    rw [if_neg (by decide), if_neg (by decide), if_pos rfl, if_pos rfl]
  rw [hblock] at hread
  refine ⟨_, (exec_nowLo i s).trans (congrArg Host.Outcome.next hread), PerInit.get_set _ _ _, ?_, by simp, by simp⟩
  have hlatched : F.TMB_NOW_HI_SNAP_SNAP.addr = Reg.TMB_NOW_HI_SNAP := rfl
  rw [State.getI, State.regI_answer, hlatched, State.regI_setRegI c, BitVec.toNat_ofNat]
  simp only [bitsOf, F.TMB_NOW_HI_SNAP_SNAP]
  omega

/-- What a write of a register of the time base does once it is stored (08 R200, R201). -/
def State.tmbWritten (s : State) (off : Nat) (w : Word) : State :=
  if off = 0x110 then forN 8 (fun n t => if w.toNat.testBit n then t else t.alarmDisarm n) s
  else if 0x140 ≤ off ∧ off % 8 = 0 then s.alarmLoWrite ((off - 0x140) / 8)
  else s

theorem State.tmb_write {s : State} {i : Initiator} {off : Nat} {w : Word} {r : RegRow} (h0 : 0x100 ≤ off) (ho : off < 0x1000)
    (h : s.takes i P.TMB off w r = true) :
    s.busWrite i (pageAddr P.TMB off) w = ((s.storeReg i P.TMB off r w).tmbWritten off w).answer i 0 .ok := by
  have hpost (t : State) (old : Word) : t.postWrite i P.TMB off old w = t.tmbWritten off w := by
    unfold State.postWrite
    rw [if_neg (by decide), if_neg (by decide), if_neg (by decide), if_pos rfl]
    rfl
  have hwrite := State.busWrite_takes (by decide) h0 ho h
  rwa [State.fitWord_eq s (by decide) (by decide), hpost] at hwrite

/-- The rows of the compares and of their enables (08 R204). -/
def alarmLoRow : RegRow := ⟨0x140, 8, 8, 0x0, 0xFFFFFFFF, 0x0, 0x0, false, false⟩
def alarmHiRow : RegRow := ⟨0x144, 8, 8, 0x0, 0xFFFF, 0x0, 0x0, false, false⟩
def alarmEnRow : RegRow := ⟨0x110, 1, 4, 0x0, 0xFFFF, 0x0, 0x0, false, false⟩

theorem rowOf_alarmLo : ∀ n < 8, rowOf P.TMB (0x140 + 8 * n) = some alarmLoRow := by decide

theorem rowOf_alarmHi : ∀ n < 8, rowOf P.TMB (0x144 + 8 * n) = some alarmHiRow := by decide

theorem pageAddr_alarmLo (n : Nat) : pageAddr P.TMB (0x140 + 8 * n) = Reg.TMB_ALARM_LO n := by unfold pageAddr P.TMB Reg.TMB_ALARM_LO; omega

theorem pageAddr_alarmHi (n : Nat) : pageAddr P.TMB (0x144 + 8 * n) = Reg.TMB_ALARM_HI n := by unfold pageAddr P.TMB Reg.TMB_ALARM_HI; omega

/-- A write of the high part of a compare is stored, and no more. -/
theorem alarmHiWrite_stores {s : State} {i : Initiator} {n : Nat} {w : Word} {r : RegRow} (h : s.takes i P.TMB (0x144 + 8 * n) w r = true)
    (c : s.canonical = true) (hn : n < 8) :
    ∃ t, exec (.alarmHiWrite i n w) s = .next t ∧ t.get (F.TMB_ALARM_HI_CMP_HI n) = w.toNat % 65536 ∧ t.alarms = s.alarms := by
  have hwrite := State.tmb_write (by omega) (by omega) h
  have hrow := State.row_of_takes h (rowOf_alarmHi n hn)
  subst hrow
  have hno (t : State) : t.tmbWritten (0x144 + 8 * n) w = t := by
    unfold State.tmbWritten
    rw [if_neg (by omega), if_neg (by omega)]
  have hstored := State.storeReg_stored c i (p := P.TMB) (off := 0x144 + 8 * n) (r := alarmHiRow) w rfl
    (by rw [pageAddr_alarmHi]; unfold Reg.TMB_ALARM_HI Reg.PAGE_STAT P.TMB; omega)
  rw [hno] at hwrite
  rw [pageAddr_alarmHi] at hwrite hstored
  refine ⟨(s.storeReg i P.TMB (0x144 + 8 * n) alarmHiRow w).answer i 0 .ok, ?_, ?_, (s.storeReg_frame i P.TMB _ alarmHiRow w).alarms (by decide)⟩
  · rw [exec_alarmHiWrite, execAlarmHiWrite, if_pos hn, hwrite]
  · have hbits : bitsOf (maskStore (s.regRaw i P.TMB (0x144 + 8 * n)) w alarmHiRow.rw alarmHiRow.w1c).toNat 0 16 = bitsOf w.toNat 0 16 :=
      bitsOf_maskStore (by decide) (by decide) (fun _ _ => Nat.zero_testBit _)
    rw [← hstored] at hbits
    refine hbits.trans ?_
    unfold bitsOf
    omega

/-- A write of the low part of a compare pends for three ticks with the compare that the two parts give. -/
theorem alarmLoWrite_pends {s : State} {i : Initiator} {n k : Nat} {w : Word} {r : RegRow} (h : s.takes i P.TMB (0x140 + 8 * n) w r = true)
    (c : s.canonical = true) (hn : n < 8) (hlen : s.alarms.length = 8) (hen : s.enabled P.TMB = true)
    (hk : k = (s.reg (Reg.TMB_ALARM_HI n)).toNat % 65536 * 2 ^ 32 + w.toNat) :
    ∃ t, exec (.alarmLoWrite i n w) s = .next t ∧ t.alarm n = { s.alarm n with pend := some k, ticks := 3 } ∧ t.reg (Reg.TMB_ALARM_LO n) = w ∧
      (∀ m, m ≠ n → t.alarm m = s.alarm m) := by
  have hwrite := State.tmb_write (by omega) (by omega) h
  have hrow := State.row_of_takes h (rowOf_alarmLo n hn)
  subst hrow
  have hstored := State.storeReg_stored c i (p := P.TMB) (off := 0x140 + 8 * n) (r := alarmLoRow) w rfl
    (by rw [pageAddr_alarmLo]; unfold Reg.TMB_ALARM_LO Reg.PAGE_STAT P.TMB; omega)
  have aside {x : Nat} (h1 : x ≠ Reg.TMB_ALARM_LO n) (h2 : x ≠ Reg.PAGE_STAT P.TMB) :
      (s.storeReg i P.TMB (0x140 + 8 * n) alarmLoRow w).reg x = s.reg x :=
    ((TxAside.refl x s).storeReg i P.TMB _ alarmLoRow w (by rwa [pageAddr_alarmLo]) h2).reg c
  have halarms := (s.storeReg_frame i P.TMB (0x140 + 8 * n) alarmLoRow w).alarms (by decide)
  have hhigh := aside (x := Reg.TMB_ALARM_HI n) (by unfold Reg.TMB_ALARM_HI Reg.TMB_ALARM_LO; omega)
    (by unfold Reg.TMB_ALARM_HI Reg.PAGE_STAT P.TMB; omega)
  have hctrl := aside (x := (F.PAGE_CTRL_ENABLE P.TMB).addr) (by unfold Reg.TMB_ALARM_LO; change 0x40005008 ≠ _; omega) (by decide)
  rw [pageAddr_alarmLo] at hwrite hstored
  rw [show maskStore _ w alarmLoRow.rw alarmLoRow.w1c = w from maskStore_all _ w] at hstored
  generalize s.storeReg i P.TMB (0x140 + 8 * n) alarmLoRow w = u at hwrite hstored halarms hhigh hctrl
  have hen' : u.enabled P.TMB = true := by
    unfold State.enabled State.on State.get at hen ⊢
    rwa [hctrl]
  have hpends : u.tmbWritten (0x140 + 8 * n) w = u.setAlarm n { u.alarm n with pend := some k, ticks := 3 } := by
    unfold State.tmbWritten State.alarmLoWrite
    rw [if_neg (by omega), if_pos (by omega), show (0x140 + 8 * n - 0x140) / 8 = n by omega, hen', if_pos rfl, hstored, hhigh, ← hk]
  rw [hpends] at hwrite
  have hsame := State.alarm_of_alarms halarms
  refine ⟨(u.setAlarm n { u.alarm n with pend := some k, ticks := 3 }).answer i 0 .ok, ?_, ?_, hstored, fun m hm => ?_⟩
  · rw [exec_alarmLoWrite, execAlarmLoWrite, if_pos hn, hwrite]
  · have hset := State.alarm_setAlarm (s := u) (n := n) (by rw [halarms, hlen]; exact hn) { u.alarm n with pend := some k, ticks := 3 }
    exact hset.trans (congrArg (fun a : Alarm => { a with pend := some k, ticks := 3 }) (hsame n))
  · have hother := ((TimeHeld.refl [n] u).setAlarm (List.mem_singleton_self n) { u.alarm n with pend := some k, ticks := 3 }).getAlarm
      (m := m) (by simpa using hm)
    exact hother.trans (hsame m)

/-- An alarm that is disarmed, a pending write too (08 R201). -/
def Alarm.disarmed (a : Alarm) : Alarm := { a with armed := false, pend := none, ticks := 0 }

/-- EN[n] = 0 disarms alarm `n`, a pending write too, and no other alarm. -/
theorem State.alarm_alarmDisarm (s : State) (n m : Nat) :
    (s.alarmDisarm n).alarm m = if m = n then (s.alarm m).disarmed else s.alarm m := by
  by_cases hmn : m = n
  · subst hmn
    rw [if_pos rfl]
    by_cases hlen : m < s.alarms.length
    · exact State.alarm_setAlarm hlen _
    · have hdefault (l : List Alarm) (hl : ¬ m < l.length) : l.getD m alarm0 = alarm0 := List.getD_eq_default _ _ (not_lt.mp hl)
      unfold State.alarmDisarm State.setAlarm State.alarm
      dsimp only
      rw [hdefault _ hlen, hdefault _ (by rwa [List.length_set])]
      rfl
  · rw [if_neg hmn]
    exact ((TimeHeld.refl [n] s).setAlarm (List.mem_singleton_self n) _).getAlarm (by simpa using hmn)

/-- The alarms whose bit is 0 are disarmed one by one. -/
theorem State.alarm_disarms (s : State) (b : Nat) (k m : Nat) :
    (forN k (fun n t => if b.testBit n then t else t.alarmDisarm n) s).alarm m =
      if m < k ∧ b.testBit m = false then (s.alarm m).disarmed else s.alarm m := by
  induction k with
  | zero => exact (if_neg (fun h => absurd h.1 (Nat.not_lt_zero m))).symm
  | succ k ih =>
    rw [forN_succ]
    cases hbit : b.testBit k with
    | true =>
      rw [if_pos rfl, ih]
      refine if_congr (and_congr_left fun hm => ?_) rfl rfl
      have hne : m ≠ k := fun e => absurd (hm.symm.trans (e ▸ hbit)) (by decide)
      omega
    | false =>
      rw [if_neg Bool.false_ne_true, State.alarm_alarmDisarm, ih]
      by_cases hmk : m = k
      · subst hmk
        rw [if_pos rfl, if_neg (fun h => lt_irrefl m h.1), if_pos ⟨m.lt_succ_self, hbit⟩]
      · rw [if_neg hmk]
        exact if_congr (and_congr_left fun _ => by omega) rfl rfl

/-- A write of ALARM_EN. -/
theorem alarmEnWrite_disarms {s : State} {i : Initiator} {w : Word} {r : RegRow} (h : s.takes i P.TMB 0x110 w r = true) (c : s.canonical = true) :
    ∃ t, exec (.alarmEnWrite i w) s = .next t ∧ t.get F.TMB_ALARM_EN_EN = w.toNat % 256 ∧ t.get F.TMB_ALARM_EN_WAKE = w.toNat / 256 % 256 ∧
      (∀ n ∈ List.range 8, w.toNat.testBit n = false → (t.alarm n).armed = false ∧ (t.alarm n).pend = none) ∧
      (∀ n ∈ List.range 8, w.toNat.testBit n = true → t.alarm n = s.alarm n) := by
  have hwrite := State.tmb_write (by decide) (by decide) h
  have hrow := State.row_of_takes h (row := alarmEnRow) (by decide)
  subst hrow
  have hstored := State.storeReg_stored c i (p := P.TMB) (off := 0x110) (r := alarmEnRow) w rfl (by decide)
  have halarms := (s.storeReg_frame i P.TMB 0x110 alarmEnRow w).alarms (by decide)
  have hfield (lo : Nat) (hlo : lo ≤ 8) : bitsOf (maskStore (s.regRaw i P.TMB 0x110) w alarmEnRow.rw alarmEnRow.w1c).toNat lo 8 =
      bitsOf w.toNat lo 8 := by
    refine bitsOf_maskStore (by omega) (fun k hk => ?_) (fun _ _ => Nat.zero_testBit _)
    have hones : alarmEnRow.rw = 2 ^ 16 - 1 := rfl
    rw [hones, Nat.testBit_two_pow_sub_one]
    exact decide_eq_true (by omega)
  rw [← hstored] at hfield
  generalize s.storeReg i P.TMB 0x110 alarmEnRow w = u at hwrite halarms hfield
  have hregs : (u.tmbWritten 0x110 w).regs = u.regs := by
    refine forN_induction (p := fun t => t.regs = u.regs) rfl (fun n _ t ht => ?_)
    split <;> exact ht
  have halarm (m : Nat) := State.alarm_disarms u w.toNat 8 m
  have hsame := State.alarm_of_alarms halarms
  have hget (f : Field) : ((u.tmbWritten 0x110 w).answer i 0 .ok).get f = u.get f := State.get_of_regs hregs f
  refine ⟨_, (exec_alarmEnWrite i w s).trans (congrArg Host.Outcome.next hwrite), ?_, ?_, fun n hn hbit => ?_, fun n hn hbit => ?_⟩
  · rw [hget]
    refine (hfield 0 (by decide)).trans ?_
    unfold bitsOf
    omega
  · rw [hget]
    exact hfield 8 le_rfl
  · have hoff := (halarm n).trans (if_pos ⟨List.mem_range.mp hn, hbit⟩)
    exact ⟨congrArg Alarm.armed hoff, congrArg Alarm.pend hoff⟩
  · have hon := (halarm n).trans (if_neg (fun hno => absurd (hbit.symm.trans hno.2) (by decide)))
    exact hon.trans (hsame n)

end Sys2Proof.Machine
end

section
/-! O18: the ticks of the time base, the start of the fine part, and the alarms from a write to its effect (08 R196 to R202). -/

namespace Sys2Proof.Machine

namespace State

/-- A slow tick that counts shows the watchdog's count as its own tick left it. -/
theorem slowEdge_wdtCount {s : State} (c : s.canonical = true) (hstate : s.pwr.state ≠ .dormant) (hfollow : s.on F.TMB_STAT_FOLLOW = false) :
    s.slowEdge.get F.WDT_COUNT_COUNT = s.wdtTick.get F.WDT_COUNT_COUNT := by
  rw [slowEdge_counts c hstate hfollow]
  exact slowCount_wdt (s.wdtTick_kept.keeps.canon c) _ rfl

/-- The source that the fine part starts on. -/
theorem fineSource_result {s : State} (c : s.canonical = true) {src : Nat} (hsrc : src < 4) :
    ((s.put F.TMB_STAT_FINE_SRC src).put F.TMB_STAT_FINE_VALID 1).get F.TMB_STAT_FINE_VALID = 1 ∧
      ((s.put F.TMB_STAT_FINE_SRC src).put F.TMB_STAT_FINE_VALID 1).get F.TMB_STAT_FINE_SRC = src := by
  have c1 : (s.put F.TMB_STAT_FINE_SRC src).canonical = true := ((Keeps.refl s).put _ _).canon c
  refine ⟨get_put_self c1 _ _ (by decide), ?_⟩
  rw [get_put_other c1 _ _ _ (by decide) (by decide), get_put_self c _ _ (by decide)]
  exact Nat.mod_eq_of_lt hsrc

/-- A write of alarm `n` with compare `k` waits in `u` for `left` more ticks, with EN as in `s`. -/
structure WriteWaits (n k left : Nat) (s u : State) : Prop where
  canon : u.canonical = true
  length : u.alarms.length = 8
  pend : (u.alarm n).pend = some k
  ticks : (u.alarm n).ticks = left
  awake : u.pwr.state ≠ .dormant
  follow : u.on F.TMB_STAT_FOLLOW = false
  en : u.get F.TMB_ALARM_EN_EN = s.get F.TMB_ALARM_EN_EN

/-- A tick that is not the last brings the write one tick nearer to its effect. -/
theorem WriteWaits.tick {n k left : Nat} {s u : State} (h : WriteWaits n k (left + 1) s u) (hn : n < 8) (hleft : 0 < left) :
    WriteWaits n k left s u.tickNext := by
  have htick := tickNext_ticked h.canon h.awake h.follow
  have halarm := htick.alarm h.canon n hn (h.length ▸ hn)
  have hticks : 1 < (u.alarm n).ticks := by rw [h.ticks]; omega
  obtain ⟨hpend, hone⟩ := Alarm.ticked_waits h.pend hticks u.tickNext.count ((u.get F.TMB_ALARM_EN_EN).testBit n)
  rw [← halarm] at hpend hone
  refine ⟨htick.keeps.canon h.canon, htick.length.trans h.length, hpend, ?_, ?_, ?_, ?_⟩
  · rw [hone, h.ticks, Nat.add_sub_cancel]
  · rw [htick.power]
    exact h.awake
  · unfold on
    rw [htick.get h.canon _ follow_mem_alarmFields]
    exact h.follow
  · rw [htick.get h.canon _ en_mem_alarmFields, h.en]

/-- The ticks before the last one. -/
theorem WriteWaits.ticked {n k left : Nat} {s u : State} (h : WriteWaits n k left s u) (hn : n < 8) :
    ∀ j < left, WriteWaits n k (left - j) s (forN j (fun _ t => t.tickNext) u)
  | 0, _ => h
  | j + 1, hj => by
    have hnext := h.ticked hn j (j.lt_succ_self.trans hj)
    rw [forN_succ]
    rw [show left - j = left - (j + 1) + 1 by omega] at hnext
    exact hnext.tick hn (by omega)

end State

/-- The last of the ticks that a pending write needs brings its effect. -/
theorem alarmWriteEffect_takes {s : State} (c : s.canonical = true) (hlen : s.alarms.length = 8) {n k : Nat} (hn : n < 8)
    (hpend : (s.alarm n).pend = some k) (hticks : (s.alarm n).ticks ≠ 0) (hstate : s.pwr.state ≠ .dormant)
    (hfollow : s.on F.TMB_STAT_FOLLOW = false) :
    ∃ t, exec (.alarmWriteEffect n) s = .next t ∧ (t.alarm n).pend = none ∧ (t.alarm n).cmp = k ∧ (alarmDue t.count k = true →
      (s.get F.TMB_ALARM_EN_EN).testBit n = true → (t.alarm n).armed = false ∧ (t.alarm n).late = (t.count != k)) ∧
      (alarmDue t.count k = false ∨ (s.get F.TMB_ALARM_EN_EN).testBit n = false → (t.alarm n).armed = (s.get F.TMB_ALARM_EN_EN).testBit n) := by
  have hexec : exec (.alarmWriteEffect n) s = .next (forN (s.alarm n).ticks (fun _ t => t.tickNext) s) := by
    rw [exec_alarmWriteEffect, execAlarmWriteEffect, hpend]
    rfl
  obtain ⟨j, hj⟩ := Nat.exists_eq_succ_of_ne_zero hticks
  have hwaits : State.WriteWaits n k (s.alarm n).ticks s s := ⟨c, hlen, hpend, rfl, hstate, hfollow, rfl⟩
  have hlast := hwaits.ticked hn j (hj ▸ j.lt_succ_self)
  rw [hj, Nat.succ_sub j.le_refl, Nat.sub_self] at hlast
  rw [hj, forN_succ] at hexec
  generalize forN j (fun _ t => t.tickNext) s = u at hexec hlast
  have htick := State.tickNext_ticked hlast.canon hlast.awake hlast.follow
  have halarm := htick.alarm hlast.canon n hn (hlast.length ▸ hn)
  rw [Alarm.ticked_takes hlast.pend hlast.ticks.le, hlast.en] at halarm
  refine ⟨_, hexec, ?_⟩
  rw [halarm]
  exact Alarm.taken_result _ k _ _

/-- An alarm that fires sets its flag, and is a wake source where WAKE asks for it. -/
theorem State.alarmFire_shows {s : State} (c : s.canonical = true) {n : Nat} (hn : n < 32) (late : Bool) :
    (s.enabled P.TMB = true → ((s.alarmFire n late).reg (Reg.IRQ_RAW P.TMB)).toNat.testBit n = true) ∧
      ((s.get F.TMB_ALARM_EN_WAKE).testBit n = true → 0x10 + n ∈ (s.alarmFire n late).pwr.wakes) := by
  unfold State.alarmFire
  have c1 : (s.setAlarm n { s.alarm n with armed := false, late := late }).canonical = true := ((Keeps.refl s).setAlarm _ _).canon c
  have hget (f : Field) : (s.setAlarm n { s.alarm n with armed := false, late := late }).get f = s.get f := State.get_of_regs rfl f
  generalize s.setAlarm n { s.alarm n with armed := false, late := late } = u at c1 hget
  refine ⟨fun hen => ?_, fun hwake => ?_⟩
  · have hevent := (TxAside.refl (Reg.IRQ_RAW P.TMB) (u.flag P.TMB n)).event P.TMB n
    have hwake := hevent.parts (Frame.wake (w := 0x200) (Frame.refl _ _) (by decide) (0x10 + n)) (by decide) (by decide)
    rw [(hwake.ite hevent).reg (((Keeps.refl u).flag _ _).canon c1)]
    refine State.flag_raised c1 hn ?_
    unfold State.enabled State.on
    rw [hget]
    exact hen
  · have hfield := ((Reads.refl F.TMB_ALARM_EN_WAKE (s.get F.TMB_ALARM_EN_WAKE) u).flag P.TMB n (by decide)).event P.TMB n
    rw [if_pos (by rw [hfield.get c1 (hget _)]; exact hwake)]
    exact State.mem_wake _ _

/-- An armed alarm that is due fires, not late. -/
theorem alarmFire_due {s : State} (c : s.canonical = true) {n : Nat} (hn : n < 8) (hlen : s.alarms.length = 8) (harmed : (s.alarm n).armed = true)
    (hdue : alarmDue s.count (s.alarm n).cmp = true) :
    ∃ t, exec (.alarmFire n) s = .next t ∧ t.alarm n = { s.alarm n with armed := false, late := false } ∧
      (s.enabled P.TMB = true → (t.reg (Reg.IRQ_RAW P.TMB)).toNat.testBit n = true) ∧
      ((s.get F.TMB_ALARM_EN_WAKE).testBit n = true → 0x10 + n ∈ t.pwr.wakes) ∧ t.count = s.count := by
  have hexec : exec (.alarmFire n) s = .next (s.alarmFire n false) := by
    rw [exec_alarmFire, execAlarmFire, harmed, hdue]
    rfl
  obtain ⟨hflag, hwake⟩ := State.alarmFire_shows c (n := n) (by omega) false
  have hheld := (TimeHeld.refl [n] s).alarmFire (List.mem_singleton_self n) false
  exact ⟨_, hexec, State.alarm_alarmFire (hlen ▸ hn) false, hflag, hwake, hheld.count⟩

/-- Settles O18: the rows of the time base and its alarms, each from the laws above. -/
theorem timeBaseAndAlarmCommandsComplete : Obligations.TimeBaseAndAlarmCommandsComplete := by
  unfold Obligations.TimeBaseAndAlarmCommandsComplete
  refine ⟨?tick, ?dormant, ?follows, ?onHfxo, ?onHfrc, ?nowLo, ?hiWrite, ?loWrite, ?effect, ?fire, ?enWrite⟩
  case tick =>
    intro s hstate hfollow c
    refine ⟨s.slowEdge, exec_slowTick s, ?_, fun hrun hfeed => ?_, fun hrun hfeed => ?_⟩
    · rw [State.slowEdge_counts c hstate hfollow, State.slowCount_count, s.wdtTick_clock.1]
    · rw [State.slowEdge_wdtCount c hstate hfollow, State.wdtTick_count c hrun hstate hfeed]
    · rw [State.slowEdge_wdtCount c hstate hfollow, State.wdtTick_loads c hrun hstate hfeed]
  case dormant =>
    intro s hstate
    exact ⟨s.slowEdge, exec_slowTick s, if_pos hstate⟩
  case follows =>
    intro s hstate hfollow c
    exact ⟨s.slowEdge, exec_slowTick s, by rw [State.slowEdge_follows c hstate hfollow, s.wdtTick_clock.1]⟩
  case onHfxo =>
    intro s c hedge hon
    obtain ⟨hvalid, hsrc⟩ := State.fineSource_result c (src := 2) (by decide)
    have hstart : exec .finePartStart s = .next ((s.put F.TMB_STAT_FINE_SRC 2).put F.TMB_STAT_FINE_VALID 1) := by
      rw [exec_finePartStart, execFinePartStart, if_pos ⟨hedge, Or.inl hon⟩, State.fineEdge, if_pos hon]
    exact ⟨_, hstart, hvalid, hsrc, by simp⟩
  case onHfrc =>
    intro s c hedge hoff hon
    obtain ⟨hvalid, hsrc⟩ := State.fineSource_result c (src := 1) (by decide)
    have hstart : exec .finePartStart s = .next ((s.put F.TMB_STAT_FINE_SRC 1).put F.TMB_STAT_FINE_VALID 1) := by
      rw [exec_finePartStart, execFinePartStart, if_pos ⟨hedge, Or.inr hon⟩, State.fineEdge, hoff, if_neg Bool.false_ne_true, if_pos hon]
    exact ⟨_, hstart, hvalid, hsrc, by simp⟩
  case nowLo =>
    intro s i hoffers c
    exact nowLo_latches hoffers c
  case hiWrite =>
    intro s i n w r htakes c hn
    exact alarmHiWrite_stores htakes c hn
  case loWrite =>
    intro s i n k w r htakes c hn hlen hen hk
    exact alarmLoWrite_pends htakes c hn hlen hen hk
  case effect =>
    intro s n k c hlen hn hpend hticks hstate hfollow
    exact alarmWriteEffect_takes c hlen hn hpend hticks hstate hfollow
  case fire =>
    intro s n c hn hlen harmed hdue
    exact alarmFire_due c hn hlen harmed hdue
  case enWrite =>
    intro s i w r htakes c
    exact alarmEnWrite_disarms htakes c

end Sys2Proof.Machine
end

section
/-! SUPPORT. The low-power timers (08 R206, R207, R211): what a cycle shows, what it leaves, and the cycles of a wrap. -/

namespace Sys2Proof.Machine

theorem Frame.lpts {w : Nat} {a t : State} (h : Frame w a t) (hw : w.testBit 6 = false) : t.lpts = a.lpts := by
  have e := h.2.1 .time hw
  simp only [State.same, Prod.mk.injEq] at e
  obtain ⟨-, -, -, e, -⟩ := e
  exact e

theorem Frame.lptPend {w : Nat} {a t : State} (h : Frame w a t) (hw : w.testBit 6 = false) : t.lptPend = a.lptPend := by
  have e := h.2.1 .time hw
  simp only [State.same, Prod.mk.injEq] at e
  obtain ⟨-, -, -, -, e, -⟩ := e
  exact e

/-- A flag that is raised leaves the raised flags of its page raised. -/
theorem State.flag_keepsFlags {s : State} (c : s.canonical = true) {p k : Nat} (n : Nat)
    (h : (s.reg (Reg.IRQ_RAW p)).toNat.testBit k = true) : ((s.flag p n).reg (Reg.IRQ_RAW p)).toNat.testBit k = true := by
  unfold State.flag State.raiseFlag
  split
  · rw [State.reg_setReg c, if_pos rfl, BitVec.toNat_or, Nat.testBit_or, h, Bool.true_or]
  · exact h

/-- A cycle of low-power timer `m` lies between `a` and `t`: of the registers only its count and the page's flags have changed, flags and wake sources
that were there are there, and what has reached the LFCLK domain and the power state are as before. -/
structure LptAside (m : Nat) (a t : State) : Prop where
  keeps : Keeps a t
  pend : t.lptPend = a.lptPend
  power : t.pwr.state = a.pwr.state
  wakes : ∀ x ∈ a.pwr.wakes, x ∈ t.pwr.wakes
  reg : a.canonical = true → ∀ x, x ≠ Reg.IRQ_RAW P.LPT → x ≠ Reg.LPT_T_COUNT m → t.reg x = a.reg x
  flags : a.canonical = true → ∀ k, (a.reg (Reg.IRQ_RAW P.LPT)).toNat.testBit k = true → (t.reg (Reg.IRQ_RAW P.LPT)).toNat.testBit k = true

namespace LptAside

variable {m : Nat} {a s t : State}

theorem refl (m : Nat) (a : State) : LptAside m a a := ⟨Keeps.refl a, rfl, rfl, fun _ h => h, fun _ _ _ _ => rfl, fun _ _ h => h⟩

theorem trans (h : LptAside m a s) (g : LptAside m s t) : LptAside m a t :=
  ⟨h.keeps.trans g.keeps, g.pend.trans h.pend, g.power.trans h.power, fun x hx => g.wakes x (h.wakes x hx),
    fun c x h1 h2 => (g.reg (h.keeps.canon c) x h1 h2).trans (h.reg c x h1 h2),
    fun c k hk => g.flags (h.keeps.canon c) k (h.flags c k hk)⟩

theorem canon (h : LptAside m a t) (c : a.canonical = true) : t.canonical = true := h.keeps.canon c

theorem ite {p : Prop} [Decidable p] (h : LptAside m a s) (g : LptAside m a t) : LptAside m a (if p then s else t) := by
  split <;> assumption

/-- What the LFCLK domain sees of a register that no cycle writes. -/
theorem seen (h : LptAside m a t) (c : a.canonical = true) {x : Nat} (h1 : x ≠ Reg.IRQ_RAW P.LPT) (h2 : x ≠ Reg.LPT_T_COUNT m) :
    t.lptSeen x = a.lptSeen x := by
  unfold State.lptSeen
  rw [h.pend, h.reg c x h1 h2]

theorem seenCtrl (h : LptAside m a t) (c : a.canonical = true) : t.lptSeen Reg.LPT_CTRL = a.lptSeen Reg.LPT_CTRL :=
  h.seen c (by decide) (by unfold Reg.LPT_CTRL Reg.LPT_T_COUNT; omega)

theorem enabled (h : LptAside m a t) (c : a.canonical = true) : t.enabled P.LPT = a.enabled P.LPT := by
  have hreg := h.reg c (F.PAGE_CTRL_ENABLE P.LPT).addr (by decide) (by unfold Reg.LPT_T_COUNT; change 0x4000A008 ≠ _; omega)
  unfold State.enabled State.on State.get
  rw [hreg]

theorem runs (h : LptAside m a t) (c : a.canonical = true) (k : Nat) : t.lptRuns k = a.lptRuns k := by
  unfold State.lptRuns
  rw [h.enabled c, h.seenCtrl c, h.power]

/-- An update of parts that the relation says nothing about, of the events, or of the wake sources. -/
theorem same (h : LptAside m a s) (k : Keeps s t) (hpend : t.lptPend = s.lptPend) (hpower : t.pwr.state = s.pwr.state)
    (hwakes : ∀ x ∈ s.pwr.wakes, x ∈ t.pwr.wakes) (hregs : t.regs = s.regs) : LptAside m a t :=
  h.trans ⟨k, hpend, hpower, hwakes, fun _ x _ _ => State.reg_of_regs hregs x, fun _ _ hk => by rwa [State.reg_of_regs hregs]⟩

theorem putCount (h : LptAside m a s) (v : Nat) : LptAside m a (s.put (F.LPT_T_COUNT_COUNT m) v) := by
  refine h.trans ⟨(Keeps.refl s).put _ _, s.put_lptPend _ _, by rw [State.put_pwr], fun x hx => by rwa [State.put_pwr], 
    fun c x _ h2 => (State.reg_put c _ _ _).trans (if_neg h2), fun c k hk => ?_⟩
  · rw [State.reg_put c, if_neg]
    · exact hk
    · change 0x4000A010 ≠ 0x4000A118 + m * 16
      omega

theorem flag (h : LptAside m a s) (n : Nat) : LptAside m a (s.flag P.LPT n) := by
  have hframe := Frame.flag (w := 0x40000000000) (p := P.LPT) (n := n) (Frame.refl _ s) (Or.inr (by decide))
  refine h.trans ⟨hframe.1, hframe.lptPend (by decide), by rw [hframe.pwr (by decide)], fun x hx => by rwa [hframe.pwr (by decide)],
    fun c x h1 _ => ((TxAside.refl x s).flag P.LPT n h1).reg c, fun c k hk => State.flag_keepsFlags c n hk⟩

theorem event (h : LptAside m a s) (p n : Nat) : LptAside m a (s.event p n) := by
  have hframe := Frame.event (w := 0x80) (Frame.refl _ s) (by decide) p n
  have heach (x : Nat) := ((TxAside.refl x s).event p n).reg
  refine h.trans ⟨hframe.1, hframe.lptPend (by decide), by rw [hframe.pwr (by decide)], fun x hx => by rwa [hframe.pwr (by decide)],
    fun c x _ _ => heach x c, fun c k hk => by rwa [heach _ c]⟩

theorem wake (h : LptAside m a s) (code : Nat) : LptAside m a (s.wake code) := by
  unfold State.wake
  refine h.ite (h.same (Keeps.upd (Keeps.refl s) rfl (OtpKept.refl _)) ?_ ?_ (fun x hx => List.mem_append_left _ hx) ?_) <;> rfl

theorem withLpts (h : LptAside m a s) (ts : List Lpt) : LptAside m a { s with lpts := ts } := by
  refine h.same (Keeps.upd (Keeps.refl s) rfl (OtpKept.refl _)) ?_ ?_ (fun _ hx => hx) ?_ <;> rfl

theorem lptWake (h : LptAside m a s) : LptAside m a (s.lptWake m) := by
  unfold State.lptWake
  exact (h.wake _).ite h

theorem lptCmpRaise (h : LptAside m a s) : LptAside m a (s.lptCmpRaise m) := ((h.flag _).event _ _).lptWake

end LptAside

namespace State

/-- WRAP of low-power timer `m` is raised (08 R206, R211). -/
def lptWrapRaise (s : State) (m : Nat) : State := ((s.flag P.LPT (2 * m)).event P.LPT (2 * m)).lptWake m

/-- WRAP has been shown where the cycle is one of a wrap. -/
def lptWrapShown (s : State) (m : Nat) : State := if s.lptAtWrap m then s.lptWrapRaise m else s

theorem lptShow_eq (s : State) (m : Nat) :
    s.lptShow m = if (s.lptWrapShown m).lptMatches m then (s.lptWrapShown m).lptCmpRaise m else s.lptWrapShown m := rfl

theorem lptWrapShown_aside (s : State) (m : Nat) : LptAside m s (s.lptWrapShown m) := by
  have h := LptAside.refl m s
  exact (((h.flag _).event _ _).lptWake).ite h

theorem lptShow_aside (s : State) (m : Nat) : LptAside m s (s.lptShow m) := by
  have h := s.lptWrapShown_aside m
  rw [lptShow_eq]
  exact h.lptCmpRaise.ite h

/-- What a cycle shows is no register but the page's flags. -/
theorem lptShow_reg {s : State} (c : s.canonical = true) (m : Nat) {x : Nat} (hx : x ≠ Reg.IRQ_RAW P.LPT) : (s.lptShow m).reg x = s.reg x := by
  have raised {u : State} (h : TxAside x s u) (n : Nat) : TxAside x s (((u.flag P.LPT n).event P.LPT n).lptWake m) :=
    ((h.flag _ _ hx).event _ _).parts (Frame.lptWake (w := 0x200) (Frame.refl _ _) (by decide) m) (by decide) (by decide)
  have hwrap : TxAside x s (s.lptWrapShown m) := (raised (TxAside.refl x s) _).ite (TxAside.refl x s)
  rw [lptShow_eq]
  exact ((raised hwrap _).ite hwrap).reg c

theorem lptShow_get {s : State} (c : s.canonical = true) (m : Nat) (f : Field) (hf : f.addr ≠ Reg.IRQ_RAW P.LPT) :
    (s.lptShow m).get f = s.get f := by
  unfold get
  rw [lptShow_reg c m hf]

theorem lptShow_frame (s : State) (m : Nat) : Frame 0x40000000280 s (s.lptShow m) := Frame.lptShow (Frame.refl _ s) (by decide) m

theorem lptShow_lpts (s : State) (m : Nat) : (s.lptShow m).lpts = s.lpts := (s.lptShow_frame m).lpts (by decide)

theorem lpt_of_lpts {s t : State} (h : t.lpts = s.lpts) (m : Nat) : t.lpt m = s.lpt m := congrArg (fun l => l.getD m ⟨0xFFFFFF, 0⟩) h

/-- A flag of the page and a wake source of timer `m` have been raised in `t`, as CTRL of `s` asks for it. -/
def LptRaised (m n : Nat) (s t : State) : Prop :=
  (t.reg (Reg.IRQ_RAW P.LPT)).toNat.testBit n = true ∧ ((s.lptSeen Reg.LPT_CTRL).toNat.testBit (8 + m) = true → 0x18 + m ∈ t.pwr.wakes)

theorem LptRaised.trans {m n : Nat} {s u t : State} (h : LptRaised m n s u) (c : u.canonical = true) (g : LptAside m u t) : LptRaised m n s t :=
  ⟨g.flags c n h.1, fun hwake => g.wakes _ (h.2 hwake)⟩

/-- Either flag of a timer, its event and its wake source. -/
theorem lptRaised {s : State} (c : s.canonical = true) (m : Nat) {n : Nat} (hn : n < 32) (hen : s.enabled P.LPT = true) :
    LptRaised m n s (((s.flag P.LPT n).event P.LPT n).lptWake m) := by
  have hflag := (LptAside.refl m s).flag n
  have hevent := (LptAside.refl m (s.flag P.LPT n)).event P.LPT n
  refine ⟨hevent.lptWake.flags (hflag.canon c) n (flag_raised c hn hen), fun hwake => ?_⟩
  have hctrl := (hflag.trans hevent).seenCtrl c
  unfold lptWake
  rw [hctrl, if_pos hwake]
  exact mem_wake _ _

/-- The cycle of a wrap raises WRAP. -/
theorem lptShow_wraps {s : State} (c : s.canonical = true) {m : Nat} (hm : m < 2) (hen : s.enabled P.LPT = true) (hwrap : s.lptAtWrap m = true) :
    LptRaised m (2 * m) s (s.lptShow m) := by
  have hshown : s.lptWrapShown m = s.lptWrapRaise m := if_pos hwrap
  have hraised : LptRaised m (2 * m) s (s.lptWrapShown m) := hshown ▸ lptRaised c m (by omega) hen
  have hrest := LptAside.refl m (s.lptWrapShown m)
  rw [lptShow_eq]
  exact hraised.trans ((s.lptWrapShown_aside m).canon c) (hrest.lptCmpRaise.ite hrest)

theorem lptMatches_wrapShown {s : State} (c : s.canonical = true) (m : Nat) : (s.lptWrapShown m).lptMatches m = s.lptMatches m := by
  have hframe : Frame 0x40000000280 s (s.lptWrapShown m) := by
    have h := Frame.refl 0x40000000280 s
    exact (((h.flag (p := P.LPT) (Or.inr (by decide))).event (by decide) _ _).lptWake (by decide) m).ite h
  have hcount : TxAside (Reg.LPT_T_COUNT m) s (s.lptWrapShown m) := by
    have h := TxAside.refl (Reg.LPT_T_COUNT m) s
    have hirq : Reg.LPT_T_COUNT m ≠ Reg.IRQ_RAW P.LPT := by change 0x4000A118 + m * 16 ≠ 0x4000A010; omega
    exact (((h.flag _ _ hirq).event _ _).parts (Frame.lptWake (w := 0x200) (Frame.refl _ _) (by decide) m) (by decide) (by decide)).ite h
  unfold lptMatches
  rw [lpt_of_lpts (hframe.lpts (by decide)), hcount.get c (F.LPT_T_COUNT_COUNT m) rfl]

/-- The cycle in which the count equals the compare raises CMP. -/
theorem lptShow_matches {s : State} (c : s.canonical = true) {m : Nat} (hm : m < 2) (hen : s.enabled P.LPT = true) (hmatch : s.lptMatches m = true) :
    LptRaised m (2 * m + 1) s (s.lptShow m) := by
  have hshown := s.lptWrapShown_aside m
  obtain ⟨hflag, hwake⟩ := lptRaised (hshown.canon c) m (n := 2 * m + 1) (by omega) ((hshown.enabled c).trans hen)
  rw [lptShow_eq, lptMatches_wrapShown c, if_pos hmatch]
  exact ⟨hflag, fun hctrl => hwake (by rw [hshown.seenCtrl c]; exact hctrl)⟩

/-- The count has moved on by one. -/
def lptCounted (s : State) (m : Nat) : State := s.put (F.LPT_T_COUNT_COUNT m) (s.get (F.LPT_T_COUNT_COUNT m) + 1)

theorem lptCycle_counts {s : State} {m : Nat} (hrun : s.lptRuns m = true) (hwrap : s.lptAtWrap m = false) :
    s.lptCycle m = (s.lptCounted m).lptShow m := by
  unfold lptCycle
  rw [if_pos hrun, hwrap, if_neg Bool.false_ne_true]
  rfl

theorem lptCycle_wraps {s : State} {m : Nat} (hrun : s.lptRuns m = true) (hwrap : s.lptAtWrap m = true) : s.lptCycle m = s.lptWrap m := by
  unfold lptCycle
  rw [if_pos hrun, if_pos hwrap]

theorem lptCounted_count {s : State} (c : s.canonical = true) {m : Nat} (h : s.get (F.LPT_T_COUNT_COUNT m) + 1 < 2 ^ 24) :
    (s.lptCounted m).get (F.LPT_T_COUNT_COUNT m) = s.get (F.LPT_T_COUNT_COUNT m) + 1 :=
  (get_put_self c (F.LPT_T_COUNT_COUNT m) _ (by change 0 + 24 ≤ 32; decide)).trans (Nat.mod_eq_of_lt h)

/-- A count below the period, of fewer than 24 bits, is at no wrap. -/
theorem lptAtWrap_below {s : State} {m : Nat} (h : s.get (F.LPT_T_COUNT_COUNT m) < (s.lpt m).period) (hp : (s.lpt m).period < 2 ^ 24) :
    s.lptAtWrap m = false := by
  unfold lptAtWrap
  rw [Bool.or_eq_false_iff, beq_eq_false_iff_ne, beq_eq_false_iff_ne]
  omega

theorem lptCount_addr (m : Nat) : (F.LPT_T_COUNT_COUNT m).addr ≠ Reg.IRQ_RAW P.LPT := by
  change 0x4000A118 + m * 16 ≠ 0x4000A010
  omega

/-- The cycle after that of a wrap: the count is 0, the preloads are copied. -/
structure LptWrapped (m : Nat) (s t : State) : Prop where
  aside : LptAside m s t
  count : t.get (F.LPT_T_COUNT_COUNT m) = 0
  period : (t.lpt m).period = (s.lptSeen (Reg.LPT_T_PERIOD m)).toNat
  cmp : (t.lpt m).cmp = (s.lptSeen (Reg.LPT_T_CMP m)).toNat

theorem lptWrap_result {s : State} (c : s.canonical = true) {m : Nat} (hm : m < s.lpts.length) : LptWrapped m s (s.lptWrap m) := by
  have hput := (LptAside.refl m s).putCount 0
  have c1 := hput.canon c
  have hzero := get_put_self c (F.LPT_T_COUNT_COUNT m) 0 (by change 0 + 24 ≤ 32; decide)
  have hperiod := hput.seen c (x := Reg.LPT_T_PERIOD m) (by change 0x4000A110 + m * 16 ≠ 0x4000A010; omega)
    (by unfold Reg.LPT_T_PERIOD Reg.LPT_T_COUNT; omega)
  have hcmp := hput.seen c (x := Reg.LPT_T_CMP m) (by change 0x4000A114 + m * 16 ≠ 0x4000A010; omega)
    (by unfold Reg.LPT_T_CMP Reg.LPT_T_COUNT; omega)
  have hlen : m < (s.put (F.LPT_T_COUNT_COUNT m) 0).lpts.length := by rwa [put_lpts]
  unfold lptWrap
  dsimp only
  rw [hperiod, hcmp]
  generalize s.put (F.LPT_T_COUNT_COUNT m) 0 = u at hput c1 hzero hlen
  have hload := hput.withLpts (u.lpts.set m ⟨(s.lptSeen (Reg.LPT_T_PERIOD m)).toNat, (s.lptSeen (Reg.LPT_T_CMP m)).toNat⟩)
  have hlpt : ({ u with lpts := u.lpts.set m ⟨(s.lptSeen (Reg.LPT_T_PERIOD m)).toNat, (s.lptSeen (Reg.LPT_T_CMP m)).toNat⟩ } : State).lpt m =
      ⟨(s.lptSeen (Reg.LPT_T_PERIOD m)).toNat, (s.lptSeen (Reg.LPT_T_CMP m)).toNat⟩ := getD_set_self hlen
  have hcount := (get_of_regs (s := u)
    (t := { u with lpts := u.lpts.set m ⟨(s.lptSeen (Reg.LPT_T_PERIOD m)).toNat, (s.lptSeen (Reg.LPT_T_CMP m)).toNat⟩ }) rfl
    (F.LPT_T_COUNT_COUNT m)).trans hzero
  generalize ({ u with lpts := u.lpts.set m ⟨(s.lptSeen (Reg.LPT_T_PERIOD m)).toNat, (s.lptSeen (Reg.LPT_T_CMP m)).toNat⟩ } : State) = v at *
  have hshown := (lpt_of_lpts (v.lptShow_lpts m) m).trans hlpt
  exact ⟨hload.trans (v.lptShow_aside m), (lptShow_get (hload.canon c) m _ (lptCount_addr m)).trans hcount, congrArg Lpt.period hshown,
    congrArg Lpt.cmp hshown⟩

end State

end Sys2Proof.Machine
end

section
/-! O20: the low-power timers and the watchdog (08 R206, R207, R211, R213 to R217), from the laws of their cycles and ticks. -/

namespace Sys2Proof.Machine

/-- No write waits to cross in `t`, and but for the flags of LPT its registers read as in `u`. -/
structure LptSettled (u t : State) : Prop where
  canon : t.canonical = true
  pend : t.lptPend = []
  reg : ∀ x, x ≠ Reg.IRQ_RAW P.LPT → t.reg x = u.reg x

theorem LptSettled.lptShow {u t : State} (h : LptSettled u t) (m : Nat) : LptSettled u (t.lptShow m) :=
  ⟨(t.lptShow_aside m).canon h.canon, ((t.lptShow_frame m).lptPend (by decide)).trans h.pend,
    fun x hx => (State.lptShow_reg h.canon m hx).trans (h.reg x hx)⟩

theorem LptSettled.ite {u s t : State} {p : Prop} [Decidable p] (h : LptSettled u s) (g : LptSettled u t) : LptSettled u (if p then s else t) := by
  split <;> assumption

/-- The writes that cross have arrived. -/
def State.lptCrossed (s : State) : State := ({ s with lptPend := [] } : State).put F.LPT_STAT_SYNC_BUSY 0

theorem State.lptCrossed_result {s : State} (c : s.canonical = true) :
    s.lptCrossed.canonical = true ∧ s.lptCrossed.lptPend = [] ∧ s.lptCrossed.get F.LPT_STAT_SYNC_BUSY = 0 ∧
      ∀ x, x ≠ Reg.LPT_STAT → s.lptCrossed.reg x = s.reg x := by
  have c0 : ({ s with lptPend := [] } : State).canonical = true := c
  exact ⟨((Keeps.refl _).put _ _).canon c0, State.put_lptPend _ _ _, State.get_put_self c0 F.LPT_STAT_SYNC_BUSY 0 (by decide),
    fun x hx => ((State.reg_put c0 _ _ _).trans (if_neg hx)).trans (State.reg_of_regs rfl x)⟩

/-- The LFCLK domain sees what the registers hold, and SYNC_BUSY clears. -/
theorem lptSyncDone_arrives {s : State} (c : s.canonical = true) :
    ∃ t, exec .lptSyncDone s = .next t ∧ t.get F.LPT_STAT_SYNC_BUSY = 0 ∧
      (∀ x ∈ [Reg.LPT_CTRL, Reg.LPT_T_PERIOD 0, Reg.LPT_T_CMP 0, Reg.LPT_T_PERIOD 1, Reg.LPT_T_CMP 1], t.lptSeen x = s.reg x) := by
  obtain ⟨c1, hpend, hbusy, hreg⟩ := State.lptCrossed_result c
  have hexec : exec .lptSyncDone s =
      .next (forN 2 (fun m t => if s.lptCrossed.lptRuns m && !s.lptRuns m then t.lptShow m else t) s.lptCrossed) := exec_lptSyncDone s
  have hsettled : LptSettled s.lptCrossed
      (forN 2 (fun m t => if s.lptCrossed.lptRuns m && !s.lptRuns m then t.lptShow m else t) s.lptCrossed) :=
    forN_induction ⟨c1, hpend, fun _ _ => rfl⟩ (fun m _ t ht => (ht.lptShow m).ite ht)
  generalize forN 2 (fun m t => if s.lptCrossed.lptRuns m && !s.lptRuns m then t.lptShow m else t) s.lptCrossed = t at hexec hsettled
  refine ⟨t, hexec, ?_, fun x hx => ?_⟩
  · unfold State.get at hbusy ⊢
    rwa [hsettled.reg _ (by decide)]
  · have hplace : x ≠ Reg.IRQ_RAW P.LPT ∧ x ≠ Reg.LPT_STAT := by
      revert x
      decide
    have hseen : t.lptSeen x = t.reg x := by
      unfold State.lptSeen
      rw [hsettled.pend]
      rfl
    rw [hseen, hsettled.reg x hplace.1, hreg x hplace.2]

/-- LPT_WRAP of a timer that counts. -/
theorem exec_lptWrap_runs {s : State} {m : Nat} (hm : m < 2) (hrun : s.lptRuns m = true) :
    exec (.lptWrap m) s = .next (if s.lptAtWrap m then s.lptCycle m else if (s.lptCycle m).lptAtWrap m then (s.lptCycle m).lptCycle m else s) := by
  rw [exec_lptWrap, execLptWrap, hrun, decide_eq_false (by omega), Bool.not_true, Bool.or_self, if_neg Bool.false_ne_true]

theorem State.enabled_of_lptRuns {s : State} {m : Nat} (h : s.lptRuns m = true) : s.enabled P.LPT = true := by
  unfold State.lptRuns at h
  simp only [Bool.and_eq_true] at h
  exact h.1.1

/-- A timer that stands at its period wraps. -/
theorem lptWrap_atPeriod {s : State} (c : s.canonical = true) {m : Nat} (hm : m < 2) (hrun : s.lptRuns m = true) (hlen : s.lpts.length = 2)
    (hcount : s.get (F.LPT_T_COUNT_COUNT m) = (s.lpt m).period) :
    ∃ t, exec (.lptWrap m) s = .next t ∧ State.LptWrapped m s t := by
  have hwrap : s.lptAtWrap m = true := by
    unfold State.lptAtWrap
    rw [hcount, beq_self_eq_true, Bool.true_or]
  refine ⟨s.lptWrap m, ?_, State.lptWrap_result c (hlen ▸ hm)⟩
  rw [exec_lptWrap_runs hm hrun, if_pos hwrap, State.lptCycle_wraps hrun hwrap]

/-- A timer that comes to its period raises WRAP, and wraps with the next cycle. -/
theorem lptWrap_belowPeriod {s : State} (c : s.canonical = true) {m : Nat} (hm : m < 2) (hrun : s.lptRuns m = true) (hlen : s.lpts.length = 2)
    (hcount : s.get (F.LPT_T_COUNT_COUNT m) + 1 = (s.lpt m).period) (hperiod : (s.lpt m).period < 2 ^ 24) :
    ∃ t, exec (.lptWrap m) s = .next t ∧ State.LptRaised m (2 * m) s t ∧ State.LptWrapped m s t := by
  have hbelow := State.lptAtWrap_below (s := s) (m := m) (by omega) hperiod
  have hcounted : LptAside m s (s.lptCounted m) := (LptAside.refl m s).putCount _
  have c1 := hcounted.canon c
  have hlpt : (s.lptCounted m).lpt m = s.lpt m := State.lpt_of_lpts (State.put_lpts _ _ _) m
  have hat : (s.lptCounted m).get (F.LPT_T_COUNT_COUNT m) = (s.lpt m).period := (State.lptCounted_count c (hcount ▸ hperiod)).trans hcount
  have hwrap : (s.lptCounted m).lptAtWrap m = true := by
    unfold State.lptAtWrap
    rw [hat, hlpt, beq_self_eq_true, Bool.true_or]
  have hshown := (s.lptCounted m).lptShow_aside m
  have hcycle := State.lptCycle_counts hrun hbelow
  have hlpts : ((s.lptCounted m).lptShow m).lpts = s.lpts := (State.lptShow_lpts _ m).trans (State.put_lpts _ _ _)
  have hagain : ((s.lptCounted m).lptShow m).lptAtWrap m = true := by
    unfold State.lptAtWrap
    rw [State.lptShow_get c1 m _ (State.lptCount_addr m), hat, State.lpt_of_lpts hlpts m, beq_self_eq_true, Bool.true_or]
  have c2 := hshown.canon c1
  have hwrapped := State.lptWrap_result c2 (m := m) (by rw [hlpts, hlen]; exact hm)
  have haside := hcounted.trans hshown
  obtain ⟨hflag, hwake⟩ := State.lptShow_wraps c1 hm ((hcounted.enabled c).trans (State.enabled_of_lptRuns hrun)) hwrap
  have hraised : State.LptRaised m (2 * m) s ((s.lptCounted m).lptShow m) :=
    ⟨hflag, fun hctrl => hwake (by rw [hcounted.seenCtrl c]; exact hctrl)⟩
  refine ⟨((s.lptCounted m).lptShow m).lptWrap m, ?_, hraised.trans c2 hwrapped.aside, haside.trans hwrapped.aside, hwrapped.count, ?_, ?_⟩
  · rw [exec_lptWrap_runs hm hrun, hbelow, if_neg Bool.false_ne_true, hcycle, if_pos hagain,
      State.lptCycle_wraps ((haside.runs c m).trans hrun) hagain]
  · rw [hwrapped.period, haside.seen c (by change 0x4000A110 + m * 16 ≠ 0x4000A010; omega) (by unfold Reg.LPT_T_PERIOD Reg.LPT_T_COUNT; omega)]
  · rw [hwrapped.cmp, haside.seen c (by change 0x4000A114 + m * 16 ≠ 0x4000A010; omega) (by unfold Reg.LPT_T_CMP Reg.LPT_T_COUNT; omega)]

/-- A timer that comes to its compare raises CMP. -/
theorem lptCmp_reached {s : State} (c : s.canonical = true) {m : Nat} (hm : m < 2) (hrun : s.lptRuns m = true)
    (hcount : s.get (F.LPT_T_COUNT_COUNT m) + 1 = (s.lpt m).cmp) (hcmp : (s.lpt m).cmp ≤ (s.lpt m).period) (hperiod : (s.lpt m).period < 2 ^ 24) :
    ∃ t, exec (.lptCmp m) s = .next t ∧ State.LptRaised m (2 * m + 1) s t ∧ t.get (F.LPT_T_COUNT_COUNT m) = (s.lpt m).cmp ∧ t.lpts = s.lpts := by
  have hbelow := State.lptAtWrap_below (s := s) (m := m) (by omega) hperiod
  have hcounted : LptAside m s (s.lptCounted m) := (LptAside.refl m s).putCount _
  have c1 := hcounted.canon c
  have hlpt : (s.lptCounted m).lpt m = s.lpt m := State.lpt_of_lpts (State.put_lpts _ _ _) m
  have hat : (s.lptCounted m).get (F.LPT_T_COUNT_COUNT m) = (s.lpt m).cmp :=
    (State.lptCounted_count c (by omega)).trans hcount
  have hmatch : (s.lptCounted m).lptMatches m = true := by
    unfold State.lptMatches
    rw [hat, hlpt, beq_self_eq_true, decide_eq_true hcmp, Bool.and_self]
  have hlpts : ((s.lptCounted m).lptShow m).lpts = s.lpts := (State.lptShow_lpts _ m).trans (State.put_lpts _ _ _)
  have hshown : ((s.lptCounted m).lptShow m).get (F.LPT_T_COUNT_COUNT m) = (s.lpt m).cmp :=
    (State.lptShow_get c1 m _ (State.lptCount_addr m)).trans hat
  have hagain : ((s.lptCounted m).lptShow m).lptMatches m = true := by
    unfold State.lptMatches
    rw [hshown, State.lpt_of_lpts hlpts m, beq_self_eq_true, decide_eq_true hcmp, Bool.and_self]
  obtain ⟨hflag, hwake⟩ := State.lptShow_matches c1 hm ((hcounted.enabled c).trans (State.enabled_of_lptRuns hrun)) hmatch
  refine ⟨(s.lptCounted m).lptShow m, ?_, ⟨hflag, fun hctrl => hwake (by rw [hcounted.seenCtrl c]; exact hctrl)⟩, hshown, hlpts⟩
  rw [exec_lptCmp, execLptCmp, State.lptCycle_counts hrun hbelow, hrun, decide_eq_true hm, hagain, Bool.and_self, Bool.and_self, if_pos rfl]

/-! The registers of the watchdog that software writes (08 R213, R214). -/

/-- What a write of a register of the watchdog does once it is stored. -/
def State.wdtWritten (s : State) (off : Nat) (w : Word) : State :=
  if off = 0x110 then s.wdtFeedWrite w.toNat
  else if off = 0x100 ∧ w.toNat.testBit 0 = true ∧ s.enabled P.WDT = true then s.wdtStart
  else s

theorem State.wdt_write {s : State} {i : Initiator} {off : Nat} {w : Word} {r : RegRow} (h0 : 0x100 ≤ off) (ho : off < 0x1000)
    (h : s.takes i P.WDT off w r = true) :
    s.busWrite i (pageAddr P.WDT off) w = ((s.storeReg i P.WDT off r w).wdtWritten off w).answer i 0 .ok := by
  have hpost (t : State) (old : Word) : t.postWrite i P.WDT off old w = t.wdtWritten off w := by
    unfold State.postWrite
    rw [if_neg (by decide), if_neg (by decide), if_neg (by decide), if_neg (by decide), if_neg (by decide), if_neg (by decide), if_pos rfl]
    rfl
  have hwrite := State.busWrite_takes (by decide) h0 ho h
  rwa [State.fitWord_eq s (by decide) (by decide), hpost] at hwrite

/-- A store in the watchdog's page: no field of another register changes, nor a feed that waits, nor a request for a reset. -/
theorem State.wdt_stored {s : State} (c : s.canonical = true) (i : Initiator) (off : Nat) (r : RegRow) (w : Word) :
    (s.storeReg i P.WDT off r w).canonical = true ∧ (s.storeReg i P.WDT off r w).wdtFeed = s.wdtFeed ∧
      (s.storeReg i P.WDT off r w).resetReq = s.resetReq ∧
      ∀ f : Field, f.addr ≠ pageAddr P.WDT off → f.addr ≠ Reg.PAGE_STAT P.WDT → (s.storeReg i P.WDT off r w).get f = s.get f := by
  have hframe := s.storeReg_frame i P.WDT off r w
  exact ⟨hframe.1.canon c, hframe.wdtFeed (by decide), hframe.resetReq (by decide),
    fun f h1 h2 => ((TxAside.refl f.addr s).storeReg i P.WDT off r w h1 h2).get c f rfl⟩

theorem withBits_one (w : Word) : (withBits w 0 1 1).toNat.testBit 0 = true := by
  have hself := bitsOf_putBits_self w.toNat 0 1 1
  unfold withBits
  rw [BitVec.toNat_ofNat, Nat.mod_eq_of_lt (putBits_lt w.isLt (by decide)), Nat.testBit_zero]
  unfold bitsOf at hself
  simpa using hself

/-- The watchdog that starts. -/
theorem State.wdtStart_result {s : State} (c : s.canonical = true) :
    s.wdtStart.get F.WDT_CFG_EN = 1 ∧ s.wdtStart.get F.WDT_STAT_RUNNING = 1 ∧ s.wdtStart.get F.WDT_COUNT_COUNT = s.wdtLoadVal := by
  have c1 : (s.put F.WDT_CFG_EN 1).canonical = true := ((Keeps.refl s).put _ _).canon c
  have c2 : ((s.put F.WDT_CFG_EN 1).put F.WDT_STAT_RUNNING 1).canonical = true := ((Keeps.refl _).put _ _).canon c1
  have hen := ((Reads.refl F.WDT_CFG_EN 1 (s.put F.WDT_CFG_EN 1)).put (g := F.WDT_STAT_RUNNING) 1 (by decide) (by decide)).put
    (g := F.WDT_COUNT_COUNT) s.wdtLoadVal (by decide) (by decide)
  have hrunning := (Reads.refl F.WDT_STAT_RUNNING 1 ((s.put F.WDT_CFG_EN 1).put F.WDT_STAT_RUNNING 1)).put (g := F.WDT_COUNT_COUNT) s.wdtLoadVal
    (by decide) (by decide)
  refine ⟨hen.get c1 (State.get_put_self c _ _ (by decide)), hrunning.get c2 (State.get_put_self c1 _ _ (by decide)), ?_⟩
  exact (State.get_put_self c2 _ _ (by decide)).trans (Nat.mod_eq_of_lt s.wdtLoadVal_lt)

/-- EN = 1 written to a watchdog that it has not been written to. -/
theorem wdtEnable_starts {s : State} {i : Initiator} {w : Word} {r : RegRow} (h : s.takes i P.WDT 0x100 (withBits w 0 1 1) r = true)
    (c : s.canonical = true) (hen : s.enabled P.WDT = true) :
    ∃ t, exec (.wdtEnable i w) s = .next t ∧ t.get F.WDT_CFG_EN = 1 ∧ t.get F.WDT_STAT_RUNNING = 1 ∧ t.get F.WDT_COUNT_COUNT = s.wdtLoadVal := by
  have hwrite := State.wdt_write (by decide) (by decide) h
  obtain ⟨cu, -, -, hget⟩ := State.wdt_stored c i 0x100 r (withBits w 0 1 1)
  generalize s.storeReg i P.WDT 0x100 r (withBits w 0 1 1) = u at hwrite cu hget
  have henu : u.enabled P.WDT = true := by
    unfold State.enabled State.on at hen ⊢
    rwa [hget _ (by decide) (by decide)]
  have hload : u.wdtLoadVal = s.wdtLoadVal := by
    unfold State.wdtLoadVal
    rw [hget F.WDT_LOAD_LOAD (by decide) (by decide)]
  have hstart : u.wdtWritten 0x100 (withBits w 0 1 1) = u.wdtStart := (if_neg (by decide)).trans (if_pos ⟨rfl, withBits_one w, henu⟩)
  rw [hstart] at hwrite
  obtain ⟨hcfg, hrunning, hcount⟩ := State.wdtStart_result cu
  have hshown (f : Field) : (u.wdtStart.answer i 0 .ok).get f = u.wdtStart.get f := State.get_of_regs (State.answer_regs _ _ _ _) f
  refine ⟨_, (exec_wdtEnable i w s).trans (congrArg Host.Outcome.next hwrite), (hshown _).trans hcfg, (hshown _).trans hrunning, (hshown _).trans (hcount.trans hload)⟩

/-- EN = 1 written again: the write is discarded, whether the page is locked or not, and LOCK_VIOL shows it. -/
theorem State.wdtCfg_discarded {s : State} (hon : s.on F.WDT_CFG_EN = true) (htest : s.on (F.PAGE_STAT_UNDER_TEST P.WDT) = false) (i : Initiator)
    (w : Word) : s.pageWrite i P.WDT 0x100 w = s.lockViol P.WDT := by
  have hpresent : s.instAbsent P.WDT 0x100 = false := by
    unfold State.instAbsent
    rw [if_neg (by decide), if_neg (by decide), if_neg (by decide)]
  have hrow : rowOf P.WDT 0x100 = some ⟨0x100, 1, 4, 0x0, 0x2, 0x0, 0x0, true, false⟩ := by decide
  have hpre (v : Word) : s.preWrite i P.WDT 0x100 v = some (s.lockViol P.WDT) := by
    unfold State.preWrite
    rw [if_neg (by decide), if_neg (by decide), if_pos rfl, if_pos ⟨by decide, hon⟩]
  unfold State.pageWrite
  rw [if_neg (by decide), htest, hpresent, hrow, Bool.or_self, if_neg Bool.false_ne_true]
  dsimp only
  rw [hpre]
  exact ite_self _

theorem State.raiseFlag_raised {s : State} (c : s.canonical = true) {p n : Nat} (hn : n < 32) :
    ((s.raiseFlag p n).reg (Reg.IRQ_RAW p)).toNat.testBit n = true := by
  have hbit : (BitVec.ofNat 32 (2 ^ n)).toNat.testBit n = true := by
    rw [BitVec.toNat_ofNat, Nat.mod_eq_of_lt (Nat.pow_lt_pow_right (by decide) hn), Nat.testBit_two_pow_self]
  unfold State.raiseFlag
  rw [State.reg_setReg c, if_pos rfl, BitVec.toNat_or, Nat.testBit_or, hbit, Bool.or_true]

theorem wdtEnable_again {s : State} {i : Initiator} {w : Word} (h : s.admits (writeReq i (pageAddr P.WDT 0x100) (withBits w 0 1 1)) = true)
    (c : s.canonical = true) (htest : s.on (F.PAGE_STAT_UNDER_TEST P.WDT) = false) (hon : s.on F.WDT_CFG_EN = true) :
    ∃ t, exec (.wdtEnable i w) s = .next t ∧ t.reg Reg.WDT_CFG = s.reg Reg.WDT_CFG ∧ t.get F.WDT_COUNT_COUNT = s.get F.WDT_COUNT_COUNT ∧
      (t.reg (Reg.IRQ_RAW P.WDT)).toNat.testBit 31 = true := by
  have hwrite := State.busWrite_page (by decide) (by decide) h
  rw [State.wdtCfg_discarded hon htest] at hwrite
  have hreg (x : Nat) : ((s.lockViol P.WDT).answer i 0 .ok).reg x = (s.lockViol P.WDT).reg x := State.reg_of_regs (State.answer_regs _ _ _ _) x
  have hother (x : Nat) (hx : x ≠ Reg.IRQ_RAW P.WDT) : ((s.lockViol P.WDT).answer i 0 .ok).reg x = s.reg x :=
    (hreg x).trans ((State.reg_setReg c _ _ _).trans (if_neg hx))
  refine ⟨_, (exec_wdtEnable i w s).trans (congrArg Host.Outcome.next hwrite), hother _ (by decide), ?_, ?_⟩
  · unfold State.get
    rw [hother _ (by decide)]
  · rw [hreg]
    exact State.raiseFlag_raised c (by decide)

/-- A write of FEED reaches the watchdog in a state that shows it as it is. -/
theorem feed_reaches {s : State} {i : Initiator} {w : Word} {r : RegRow} (h : s.takes i P.WDT 0x110 w r = true) (c : s.canonical = true) :
    ∃ u : State, exec (.feed i w) s = .next ((u.wdtFeedWrite w.toNat).answer i 0 .ok) ∧ u.canonical = true ∧ u.wdtFeed = s.wdtFeed ∧
      u.resetReq = s.resetReq ∧
      ∀ f ∈ [F.WDT_STAT_RUNNING, F.WDT_CFG_WIN_EN, F.WDT_WINDOW_WINDOW, F.WDT_COUNT_COUNT, F.WDT_STAT_LAST_EXP], u.get f = s.get f := by
  have hwrite := State.wdt_write (by decide) (by decide) h
  obtain ⟨cu, hfeed, hreset, hget⟩ := State.wdt_stored c i 0x110 r w
  have hwritten (u : State) : u.wdtWritten 0x110 w = u.wdtFeedWrite w.toNat := if_pos rfl
  rw [hwritten] at hwrite
  refine ⟨_, (exec_feed i w s).trans (congrArg Host.Outcome.next hwrite), cu, hfeed, hreset, fun f hf => ?_⟩
  have hplace : f.addr ≠ pageAddr P.WDT 0x110 ∧ f.addr ≠ Reg.PAGE_STAT P.WDT := by
    simp only [List.mem_cons, List.not_mem_nil, or_false] at hf
    rcases hf with rfl | rfl | rfl | rfl | rfl <;> exact ⟨by decide, by decide⟩
  exact hget f hplace.1 hplace.2

/-- The feed lies outside the window (08 R214). -/
def State.feedEarly (s : State) : Bool := s.on F.WDT_CFG_WIN_EN && decide (s.get F.WDT_WINDOW_WINDOW < s.get F.WDT_COUNT_COUNT)

theorem State.wdtFeedWrite_running {s : State} (hrun : s.on F.WDT_STAT_RUNNING = true) (w : Nat) :
    s.wdtFeedWrite w = if w ≠ 0x5A3C then s.wdtExpire 3 else if s.feedEarly then s.wdtExpire 2 else { s with wdtFeed := true } := by
  unfold State.wdtFeedWrite
  rw [hrun, Bool.not_true, if_neg Bool.false_ne_true]
  rfl

/-- A write of FEED that expires the running watchdog, by its cause. -/
theorem feed_expires {s : State} {i : Initiator} {w : Word} {r : RegRow} (h : s.takes i P.WDT 0x110 w r = true) (c : s.canonical = true)
    (hrun : s.on F.WDT_STAT_RUNNING = true) {why : Nat} (hwhy : why < 4)
    (hcase : w.toNat ≠ 0x5A3C ∧ why = 3 ∨ w.toNat = 0x5A3C ∧ s.feedEarly = true ∧ why = 2) :
    ∃ t, exec (.feed i w) s = .next t ∧ t.get F.WDT_STAT_LAST_EXP = why ∧ t.get F.WDT_STAT_RUNNING = 0 ∧
      (s.resetReq = none → t.resetReq = some 4) := by
  obtain ⟨u, hexec, cu, -, hreset, hget⟩ := feed_reaches h c
  have hrunu : u.on F.WDT_STAT_RUNNING = true := by
    unfold State.on at hrun ⊢
    rwa [hget _ (by simp)]
  have hearly : u.feedEarly = s.feedEarly := by
    unfold State.feedEarly State.on
    rw [hget _ (by simp), hget F.WDT_WINDOW_WINDOW (by simp), hget F.WDT_COUNT_COUNT (by simp)]
  have hexpired : u.wdtFeedWrite w.toNat = u.wdtExpire why := by
    rw [State.wdtFeedWrite_running hrunu, hearly]
    rcases hcase with ⟨hkey, rfl⟩ | ⟨hkey, hwindow, rfl⟩
    · exact if_pos hkey
    · rw [if_neg (not_not_intro hkey), if_pos hwindow]
  rw [hexpired] at hexec
  obtain ⟨hlast, hrunning, hask⟩ := State.wdtExpire_result cu hwhy
  have hshown (f : Field) : ((u.wdtExpire why).answer i 0 .ok).get f = (u.wdtExpire why).get f := State.get_of_regs (State.answer_regs _ _ _ _) f
  exact ⟨_, hexec, (hshown _).trans hlast, (hshown _).trans hrunning,
    fun hnone => (State.answer_resetReq _ _ _ _).trans (hask (hreset.trans hnone))⟩

/-- The key inside the window feeds the running watchdog. -/
theorem feed_accepted {s : State} {i : Initiator} {w : Word} {r : RegRow} (h : s.takes i P.WDT 0x110 w r = true) (c : s.canonical = true)
    (hrun : s.on F.WDT_STAT_RUNNING = true) (hkey : w.toNat = 0x5A3C) (hwindow : s.feedEarly = false) :
    ∃ t, exec (.feed i w) s = .next t ∧ t.wdtFeed = true ∧ t.get F.WDT_COUNT_COUNT = s.get F.WDT_COUNT_COUNT ∧ t.resetReq = s.resetReq := by
  obtain ⟨u, hexec, -, -, hreset, hget⟩ := feed_reaches h c
  have hrunu : u.on F.WDT_STAT_RUNNING = true := by
    unfold State.on at hrun ⊢
    rwa [hget _ (by simp)]
  have hearly : u.feedEarly = s.feedEarly := by
    unfold State.feedEarly State.on
    rw [hget _ (by simp), hget F.WDT_WINDOW_WINDOW (by simp), hget F.WDT_COUNT_COUNT (by simp)]
  rw [State.wdtFeedWrite_running hrunu, if_neg (not_not_intro hkey), hearly, hwindow, if_neg Bool.false_ne_true] at hexec
  exact ⟨_, hexec, rfl, (State.get_of_regs rfl _).trans (hget _ (by simp)), hreset⟩

/-- A stopped watchdog ignores what is written to FEED. -/
theorem feed_stopped {s : State} {i : Initiator} {w : Word} {r : RegRow} (h : s.takes i P.WDT 0x110 w r = true) (c : s.canonical = true)
    (hrun : s.on F.WDT_STAT_RUNNING = false) :
    ∃ t, exec (.feed i w) s = .next t ∧ t.wdtFeed = s.wdtFeed ∧ t.resetReq = s.resetReq ∧
      t.get F.WDT_STAT_LAST_EXP = s.get F.WDT_STAT_LAST_EXP := by
  obtain ⟨u, hexec, -, hfeed, hreset, hget⟩ := feed_reaches h c
  have hstopped : u.wdtFeedWrite w.toNat = u := by
    unfold State.wdtFeedWrite
    rw [if_pos]
    unfold State.on at hrun ⊢
    rw [hget _ (by simp), hrun, Bool.not_false]
  rw [hstopped] at hexec
  exact ⟨_, hexec, hfeed, hreset, (State.get_of_regs rfl _).trans (hget _ (by simp))⟩

/-- PREWARN where the count stands at it since the load. -/
theorem prewarn_atLoad {s : State} (c : s.canonical = true) (hrun : s.on F.WDT_STAT_RUNNING = true)
    (hcount : s.get F.WDT_COUNT_COUNT = s.get F.WDT_PREWARN_PREWARN) :
    ∃ t, exec .prewarn s = .next t ∧ t.get F.WDT_STAT_PREWARNED = 1 ∧ (s.on F.WDT_STAT_PREWARNED = false → s.enabled P.WDT = true →
      (t.reg (Reg.IRQ_RAW P.WDT)).toNat.testBit 0 = true) ∧ (s.on F.WDT_STAT_PREWARNED = true → t.regs = s.regs) ∧
      t.get F.WDT_COUNT_COUNT = s.get F.WDT_COUNT_COUNT := by
  obtain ⟨hshown, hflag, hagain⟩ := State.wdtPrewarn_result c
  have hkept := (Reads.refl F.WDT_COUNT_COUNT (s.get F.WDT_COUNT_COUNT) s).wdtPrewarn (by decide) (by decide)
  refine ⟨s.wdtPrewarn, ?_, hshown, hflag, fun hon => congrArg State.regs (hagain hon), hkept.get c rfl⟩
  rw [exec_prewarn, execPrewarn, hrun, Bool.not_true, if_neg Bool.false_ne_true, if_pos hcount]

/-- PREWARN with the tick that brings the count to it. -/
theorem prewarn_withTick {s : State} (c : s.canonical = true) (hrun : s.on F.WDT_STAT_RUNNING = true) (hstate : s.pwr.state ≠ .dormant)
    (hfeed : s.wdtFeed = false) (hcount : s.get F.WDT_COUNT_COUNT = s.get F.WDT_PREWARN_PREWARN + 1) :
    ∃ t, exec .prewarn s = .next t ∧ t.get F.WDT_STAT_PREWARNED = 1 ∧ (s.on F.WDT_STAT_PREWARNED = false → s.enabled P.WDT = true →
      (t.reg (Reg.IRQ_RAW P.WDT)).toNat.testBit 0 = true) ∧ t.get F.WDT_COUNT_COUNT = s.get F.WDT_PREWARN_PREWARN := by
  have htick : s.wdtTick.get F.WDT_COUNT_COUNT = s.get F.WDT_PREWARN_PREWARN := by
    rw [State.wdtTick_count c hrun hstate hfeed, hcount, Nat.add_sub_cancel]
  obtain ⟨hshown, hflag⟩ := State.wdtTick_warns c hrun hstate hfeed hcount
  refine ⟨s.wdtTick, ?_, hshown, hflag, htick⟩
  rw [exec_prewarn, execPrewarn, hrun, Bool.not_true, if_neg Bool.false_ne_true, if_neg (by omega), if_pos ⟨htick, hfeed⟩]

/-- WDT_EXPIRY with the tick that brings the count to 0. -/
theorem wdtExpiry_withTick {s : State} (c : s.canonical = true) (hrun : s.on F.WDT_STAT_RUNNING = true) (hstate : s.pwr.state ≠ .dormant)
    (hfeed : s.wdtFeed = false) (hcount : s.get F.WDT_COUNT_COUNT ≤ 1) :
    ∃ t, exec .wdtExpiry s = .next t ∧ t.get F.WDT_COUNT_COUNT = 0 ∧ t.get F.WDT_STAT_LAST_EXP = 1 ∧ t.get F.WDT_STAT_RUNNING = 0 ∧
      (s.resetReq = none → t.resetReq = some 4) := by
  obtain ⟨hlast, hstopped, hask⟩ := State.wdtTick_expires c hrun hstate hfeed hcount
  refine ⟨s.wdtTick, ?_, ?_, hlast, hstopped, hask⟩
  · rw [exec_wdtExpiry, execWdtExpiry, hrun, decide_eq_true hcount, Bool.and_self, if_pos rfl]
  · rw [State.wdtTick_count c hrun hstate hfeed]
    omega

/-- Settles O20: the rows of the low-power timers and of the watchdog, each from the laws above. -/
theorem lowPowerTimerAndWatchdogCommandsComplete : Obligations.LowPowerTimerAndWatchdogCommandsComplete := by
  unfold Obligations.LowPowerTimerAndWatchdogCommandsComplete
  refine ⟨?syncDone, ?wrapAt, ?wrapBelow, ?cmp, ?enable, ?again, ?feed, ?early, ?wrongKey, ?stopped, ?warnsAt, ?warnsBelow, ?expiry⟩
  case syncDone =>
    intro s c
    exact lptSyncDone_arrives c
  case wrapAt =>
    intro s m c hm hrun hlen hcount
    obtain ⟨t, hexec, hwrapped⟩ := lptWrap_atPeriod c hm hrun hlen hcount
    exact ⟨t, hexec, hwrapped.count, hwrapped.period, hwrapped.cmp⟩
  case wrapBelow =>
    intro s m c hm hrun hlen hcount hperiod
    obtain ⟨t, hexec, ⟨hflag, hwake⟩, hwrapped⟩ := lptWrap_belowPeriod c hm hrun hlen hcount hperiod
    exact ⟨t, hexec, hflag, hwake, hwrapped.count, hwrapped.period, hwrapped.cmp⟩
  case cmp =>
    intro s m c hm hrun hcount hcmp hperiod
    obtain ⟨t, hexec, ⟨hflag, hwake⟩, hreached, hlpts⟩ := lptCmp_reached c hm hrun hcount hcmp hperiod
    exact ⟨t, hexec, hflag, hreached, hlpts, hwake⟩
  case enable =>
    intro s i w r htakes c hen
    exact wdtEnable_starts htakes c hen
  case again =>
    intro s i w hadmits c htest hon
    exact wdtEnable_again hadmits c htest hon
  case feed =>
    intro s i w r htakes c hrun hkey hwindow
    exact feed_accepted htakes c hrun (congrArg BitVec.toNat hkey) hwindow
  case early =>
    intro s i w r htakes c hrun hkey hwindow
    exact feed_expires htakes c hrun (by decide) (Or.inr ⟨congrArg BitVec.toNat hkey, hwindow, rfl⟩)
  case wrongKey =>
    intro s i w r htakes c hrun hkey
    exact feed_expires htakes c hrun (by decide) (Or.inl ⟨fun e => hkey (BitVec.eq_of_toNat_eq e), rfl⟩)
  case stopped =>
    intro s i w r htakes c hrun
    exact feed_stopped htakes c hrun
  case warnsAt =>
    intro s c hrun hcount
    exact prewarn_atLoad c hrun hcount
  case warnsBelow =>
    intro s c hrun hstate hfeed hcount
    exact prewarn_withTick c hrun hstate hfeed hcount
  case expiry =>
    intro s c hrun hstate hfeed hcount
    exact wdtExpiry_withTick c hrun hstate hfeed hcount

end Sys2Proof.Machine
end
